-- ==== Sys2Proof/Word.lean ====
section
/-!
DEFINITION. The words and the plain carriers of the model: bytes, 32-bit register words, Ethernet frames as the
links carry them (R29), and journal records before the writer gives them a sequence number (R258).
-/

namespace Sys2Proof

/-- One byte. -/
abbrev Byte := BitVec 8

/-- One register word (R7: registers are 32 bits wide). -/
abbrev Word := BitVec 32

/-- An HSR tag: path identifier, LAN-size field and sequence number (R341). -/
structure HsrTag where
  path : Nat
  size : Nat
  seq : Nat
deriving DecidableEq, Repr

/-- A SecTAG as the MACSEC block reads and writes it (R356, R374): association number and packet number, and whether
the payload stands encrypted. -/
structure SecTag where
  sci : Nat
  an : Nat
  pn : Nat
  conf : Bool
  /-- The 16 bytes of the ICV. -/
  icv : List Byte
deriving DecidableEq, Repr

/-- An Ethernet frame in the order of R29: addresses, 802.1Q tag, HSR tag, SecTAG, EtherType, and the bytes between
EtherType and FCS, padding included. `body` of a Spanen frame is its header, payload and CRC-32C. -/
structure Frame where
  dst : Nat
  src : Nat
  vlan : Option Nat
  hsr : Option HsrTag
  sec : Option SecTag
  etype : Nat
  body : List Byte
deriving DecidableEq, Repr

/-- A journal record on its way to the writer: the fields of R258 without SEQ and CRC. -/
structure Rec where
  t : Nat
  kind : Nat
  flags : Nat
  source : Nat
  data : List Byte
deriving DecidableEq, Repr

/-- What happens to a copy on its way out: by how many hns its real transmit stamp exceeds the predicted one (R95), and the
erroneous words that its rows hold when they are read, as row, bank and whether the word is uncorrectable (R349). -/
structure TxRead where
  dev : Int
  errs : List (Nat × Nat × Bool)
deriving DecidableEq, Repr

/-- What the receive section found of a frame (R312): PCS code errors or a fractional byte, the stomp value in the
FCS, and a correct FCS; and what happens to the copies of it that leave cut-through (R337). -/
structure RxCheck where
  symbol : Bool
  stomp : Bool
  fcsOk : Bool
  tx : TxRead
deriving DecidableEq, Repr

/-- A ring transaction of a MGMT frame (R378). -/
structure Trans where
  tseq : Nat
  op : Nat
  status : Nat
  mask : Nat
  tag : Nat
  addr : Nat
  data : List Byte
deriving DecidableEq, Repr

/-- An entry of a late-error NOTICE (R384). -/
structure LateErr where
  addr : Nat
  reason : Nat
  t : Nat
deriving DecidableEq, Repr

/-- Who makes an access, in the encoding of SYS.AERR_HI.SOURCE (R46). -/
inductive Source where
  | host
  | hostRing
  | manager
  | gang
  | stake
  | engine
  | boot
deriving DecidableEq, Repr

/-- What the scrubber finds in a cell (R352): the erroneous words of its rows, as row, bank and whether the word is
uncorrectable, and the buffer number of the frame that holds the cell, where one does. -/
structure ScrubRead where
  errs : List (Nat × Nat × Bool)
deriving DecidableEq, Repr

/-- A write of a Datum register that R82 grants by its source: the word, and who writes it. -/
structure TimeWrite where
  word : Word
  src : Source
deriving DecidableEq, Repr

/-- The end of an enable check: the page, whether the check logic itself failed (R54, code 0xFF), and whether the SerDes PLL on
REFCLK_P/N is locked then (R331). -/
structure CheckEnd where
  page : Nat
  broken : Bool
  serdes : Bool
deriving DecidableEq, Repr

/-- The transitions of a pin in one tick (R249): how many, and the level at which something outside the hub holds the net after
them. -/
structure PinTick where
  count : Nat
  level : Bool
deriving DecidableEq, Repr

/-- An occasion for a port to start a frame: the port, and what happens to the copy that starts. -/
structure TxGo where
  port : Nat
  rd : TxRead
deriving DecidableEq, Repr

/-- A PROBE frame as it arrives, and what happens to the copy that leaves cut-through. -/
structure ProbeIn where
  fr : Frame
  rd : TxRead
deriving DecidableEq, Repr

/-- The state of an engine as a cycle record carries it (R194): `wait` is 0 none, 1 WAITP, 2 WAITT, 3 stall; `phs` is the
distance to the next step in 1/256 tick; pin levels and output enables are masks by window index. -/
structure EngImage where
  eng : Nat
  pc : Nat
  osr : Nat
  osc : Nat
  isr : Nat
  isc : Nat
  x : Nat
  y : Nat
  phs : Nat
  dcnt : Nat
  phase : Nat
  wait : Nat
  target : Nat
  txf : List Nat
  rxf : List Nat
  latch : Nat
  latchCnt : Nat
  lvl : Nat
  oe : Nat
deriving DecidableEq, Repr

/-- The items of a CAN controller that a cycle record carries (R302): the words of its three buffers (identifier,
control, data), TXREQ, TXSTS, REFCC, and the stamp of the newest acknowledged receive entry. -/
structure CanImage where
  can : Nat
  bufs : List (List Nat)
  req : Nat
  sts : Nat
  refcc : Nat
  ack : Option Nat
deriving DecidableEq, Repr

/-- A cycle record by its sections (R401). `levels` and `oes` hold bit p for pin p; a stake entry is its 40 bytes. -/
structure CycRecord where
  cycle : Nat
  tc : Nat
  len : Nat
  firstSeq : Nat
  levels : Nat
  oes : Nat
  staging : List Byte
  engines : List EngImage
  stakes : List (List Byte)
  cans : List CanImage
  book : List (List Byte)
  tally : List Byte
deriving DecidableEq, Repr

end Sys2Proof
end

