-- ==== Sys2Proof/Syntax.lean ====
section
/-!
DEFINITION. The commands the hub takes, one constructor for each row of the opcode table. `clk` is the clock, in
half-nanoseconds of the local oscillator, at which an event from outside happens; a command without it falls due at a
moment that the state fixes (assumption log 1).
-/

namespace Sys2Proof

/-- The commands of the hub. -/
inductive Instr where
  /-- R37: VBAT is applied with no other supply, and the battery domain starts with the RTC running from the XKEEP
  crystal. -/
  | vbatApplied (clk : Nat)
  /-- R509: VGIN becomes valid: the guard die leaves POR, reads the life-cycle fuses, makes the Monument checks of
  R474 and enters Keep. -/
  | guardPor (clk : Nat)
  /-- R429: VGIN falls below its UVLO threshold, the guard die enters POR, CLK_GUARD stops and the hub moves from
  Keep to Battery. -/
  | guardUnsupplied (clk : Nat)
  /-- R41: A write of SYS.PSTATE.REQ = 0b00 requests Run, starting a Watch-to-Run transition or, if BUSY, being
  stored until BUSY falls. -/
  | pstateReqRun (clk : Nat)
  /-- R38: A write of SYS.PSTATE.REQ = 0b01 requests Watch, which is rejected with CAUSE and BLOCKER unless the
  role is single and no blocking page runs. -/
  | pstateReqWatch (clk : Nat)
  /-- R37: A write of SYS.PSTATE.REQ = 0b10 requests Keep, and the core rails are sequenced down with all core-die
  state lost. -/
  | pstateReqKeep (clk : Nat)
  /-- R42: A write of SYS.PSTATE.REQ = 0b11 is rejected with CAUSE 0x3. -/
  | pstateReqReserved (clk : Nat)
  /-- R41: A Run/Watch transition completes, BUSY falls, and the last stored REQ is then acted on if it differs
  from CUR. -/
  | pstateTransitionDone (clk : Nat)
  /-- R24: A die-to-die transfer fails its fourth attempt or the link loses training: the core die sets FAULT,
  writes FENCED, declares itself faulty and blocks guard-die pages. -/
  | dieLinkFail (clk : Nat)
  /-- R24: The die-to-die link trains again and guard-die pages become readable and writable. -/
  | dieLinkTrained (clk : Nat)
  /-- R23: The guard die toggles an event line for a detected event, or for a deferred event once the 2-cycle
  spacing has passed. -/
  | guardEventLineToggle (clk line : Nat)
  /-- R23: An edge of a guard-die event line is stamped at tap 0 on the core die and becomes the T of the journal
  record whose body follows over the link. -/
  | guardEventLineCapture (clk line : Nat)
  /-- R8: A write to a register field with no step of its own stores or discards the value under its access type,
  locking, RWL rules and address-error rules. -/
  | registerWrite (clk page off : Nat) (data : Word) (src : Source)
  /-- R51: A write that changes PCTL.EN from 0 to 1 starts the page's enable check. -/
  | pageEnable (clk page : Nat) (data : Word)
  /-- R52: The enable check ends, accepting the page (RUN, PSEQ, PDIG) or refusing it with the first failing code
  and INDEX, then applying held writes. -/
  | enableCheckEnd (clk : Nat) (chk : CheckEnd)
  /-- R59: A write of EN = 0 stops the block, or is refused with 0x04 while a dependant runs. -/
  | pageStop (clk page : Nat) (data : Word)
  /-- R59: RUN falls within 2 µs of a stop and the block releases its shared resources. -/
  | pageStopDone (clk page : Nat)
  /-- R60: A write of HOLD = 1 asks a running block to pause at its hold point. -/
  | pageHoldSet (clk page : Nat)
  /-- R60: The block reaches its hold point and HELD rises. -/
  | pageHeldReached (clk page : Nat)
  /-- R60: A write of HOLD = 0 resumes the block from where it paused and HELD falls. -/
  | pageHoldClear (clk page : Nat)
  /-- R62: A write of PCTL.CLR = 1 resets the block to POR values, or is refused with 0x04 while a dependant runs. -/
  | pageClr (clk page : Nat)
  /-- R62: The block reset completes within 2 µs and CLR reads 0. -/
  | pageClrDone (clk page : Nat)
  /-- R65: A write that sets PCTL.LOCK locks the page until a reset, running the enable check too if EN is set
  together. -/
  | pageLock (clk page : Nat) (data : Word)
  /-- R50: A write of 1 to a PEVT bit clears it unless the hub sets it in the same cycle. -/
  | pevtClear (clk page : Nat) (data : Word)
  /-- R49: A write of 1 to a PEVF bit sets the matching PEVT bit as if the event had occurred. -/
  | pevtForce (clk page : Nat) (data : Word)
  /-- R67: A write to PEVM changes the mask, and clearing a mask bit over a set PEVT bit raises the summary at once. -/
  | pevmWrite (clk page : Nat) (data : Word)
  /-- R61: A block detects a run-time fault and sets PSTS.FAULT and PEVT.FAULT, stopping the block where its
  chapter says so. -/
  | blockFault (clk page : Nat)
  /-- R67: A page summary change reaches the IRQ page after its crossing and updates PEND, GSTS and IRQ_N. -/
  | irqSummaryArrive (clk page : Nat)
  /-- R69: The NOTICE_REPEAT interval expires while a group stays pending and another NOTICE frame is sent. -/
  | noticeRepeat (group : Nat)
  /-- R70: A write of 1 to a REARM bit sends a new MSI-X message and NOTICE frame for a group that is still pending. -/
  | irqRearm (clk mask : Nat)
  /-- R386: A masked MSI-X vector with its pending bit set is unmasked and its message is sent. -/
  | msixUnmask (clk vector : Nat)
  /-- R75: A write to the upper INC word applies a new rate with a fold, or is discarded and counted in INCDROP if
  out of range or in holdover. -/
  | datumIncWrite (clk : Nat) (hi : TimeWrite)
  /-- R76: A write to the upper STEP word applies a step with a fold if R76 allows it, otherwise refuses it and
  enters holdover. -/
  | datumStepWrite (clk : Nat) (hi : Word) (src : Source)
  /-- R77: A write of 0xD47A_0001 to STEP_UNLOCK opens or restarts the 1 ms unlock window, and any other value
  closes it. -/
  | datumStepUnlock (clk : Nat) (w : TimeWrite)
  /-- R77: The unlock window closes at u + 2,000,000 RAW hns. -/
  | unlockWindowExpire
  /-- R79: A write of 1 to CTL.HOLD_REQ enters holdover with HO_CAUSE 0x2. -/
  | datumHoldReq (clk : Nat)
  /-- R79: A write of 1 to CTL.RESUME leaves holdover when allowed and writes a DATUM_HOLDOVER exit record. -/
  | datumResume (clk : Nat)
  /-- R80: PLL lock loss or a TCXO_IN frequency outside ±500 ppm sets REF_FAULT and enters holdover with HO_CAUSE
  0x3. -/
  | refFaultDetect (clk : Nat)
  /-- R80: Lock has held for 10 ms and REF_FAULT clears. -/
  | refFaultClear (clk : Nat)
  /-- R92: A read of STAMP.TXQ removes the head transmit-stamp entry and loads the shadow. -/
  | txqPop (clk : Nat)
  /-- R92: A write of 1 to TXQCTL.FLUSH empties the transmit-stamp queue. -/
  | txqFlush (clk : Nat)
  /-- R96: A PPS_IN edge of the chosen polarity is stamped at tap 0 into DATUM.PPS_IN. -/
  | ppsInEdge (clk : Nat) (rising : Bool)
  /-- R97: T reaches PPS_PHASE modulo PPS_PERIOD and PPS_OUT becomes active. -/
  | ppsOutStart
  /-- R97: PPS_WIDTH has passed and PPS_OUT becomes inactive. -/
  | ppsOutEnd
  /-- R116: A write to STAMP.PORTp.PDELAY that differs from the reference by PD_TH or more declares a peer-delay
  step. -/
  | pdelayWrite (clk port : Nat) (value : Word)
  /-- R113: At T ≡ PH mod PERIOD the hub enqueues one east-bound and one west-bound probe, with gang-triangle
  probes where enabled. -/
  | msclRoundStart
  /-- R112: A PROBE frame is received on a ring or gang port and is either forwarded with its fields updated,
  discarded, or taken as the hub's own returning probe. -/
  | probeRx (clk port hdrClk tri : Nat) (pr : ProbeIn)
  /-- R114: TIMEOUT passes without a probe's return, the round yields no sample and LOST counts it. -/
  | msclProbeTimeout
  /-- R118: A coincidence window closes with steps still pending and they are resolved under cases 5 or 6. -/
  | coincWindowClose
  /-- R129: T at tap 0 reaches T_n, the current cycle becomes n, the stale test runs and boundary-timed gang and
  engine actions occur. -/
  | cycleBoundary
  /-- R136: At T_f the hub fills its own parcel's working buffer from feeds, zeroes uncovered bytes and copies the
  output staging store. -/
  | platFreeze
  /-- R132: At T_n + START the publishing hub releases its PLAT frames of cycle n to the plat queue. -/
  | platRelease
  /-- R145: The last frame of the hub's own parcel finishes on the first ring port to send all of it, and the own
  parcel flips visible. -/
  | platOwnSent (clk port : Nat)
  /-- R143: A PLAT frame commits and is accepted into the working buffer or discarded, flipping the parcel when it
  completes the cycle with VIEW = 0. -/
  | platFrameRx (clk port stamp : Nat) (fr : Frame)
  /-- R149: At the close of the plat window the hub tallies schedule digests and may silence its own publication. -/
  | platVote
  /-- R147: At T_n + VIEW_AT every parcel held ready flips together. -/
  | platViewFlip
  /-- R139: A write to the node's own output region enters the output staging store for the next freeze. -/
  | platOutputWrite (clk addr : Nat) (data : List Byte) (src : Source)
  /-- R150: A write of 1 to CYCLE.CTL.REJOIN resumes publication if the last vote agrees, or is refused with 0x0C. -/
  | cycleRejoin (clk : Nat)
  /-- R138: A GANG FEED frame from another member delivers sampled feeds that the publishing member writes into the
  parcel. -/
  | gangFeedRx (clk member : Nat) (feeds : List (Nat × List Byte))
  /-- R164: A write to STAKE.ISSUE7 fills in the source and places the stake in the issue queue, or counts it in
  ISSUEDROP. -/
  | stakeIssue (clk : Nat) (word : Word) (src : Source)
  /-- R165: Stakes leave the issue queue packed in a STAKE frame on both ring ports, counting SHORTLEAD when the
  lead is below MIN_LEAD. -/
  | stakeFrameSend (clk : Nat)
  /-- R168: A received stake copy passes the arrival checks and is inserted into the release queue, or is rejected
  with an outcome code. -/
  | stakeArrival (clk : Nat) (bytes : List Byte)
  /-- R170: A received stake with CANCEL = 1 removes the matching held stake with outcome 0x03, or yields outcome
  0x16. -/
  | stakeCancelArrival (clk : Nat) (bytes : List Byte)
  /-- R170: A write of a key to STAKE.CANCEL removes the matching held stake or records outcome 0x16. -/
  | stakeCancelWrite (clk : Nat) (data : Word)
  /-- R172: A class 0 or 1 stake is handed to its crew island by T_REL − 400 hns. -/
  | stakeHandover
  /-- R170: A cancel reaches the crew island 30 hns after the decision and withdraws the handed stake. -/
  | stakeIslandWithdraw
  /-- R161: A class 0 stake comes due and sets its pin level at T_exec, judged on time, late or not ready. -/
  | stakeExecPin
  /-- R161: A class 1 stake comes due and places words A and B in the engine's transmit FIFO. -/
  | stakeExecEngFifo
  /-- R301: A class 2 stake comes due and loads data into a CAN buffer and sets its transmit request. -/
  | stakeExecCan
  /-- R560: A class 3 stake comes due and makes a masked register write in one CLK_MGT cycle. -/
  | stakeExecReg
  /-- R161: A class 4 stake comes due and writes the output staging store. -/
  | stakeExecPlat
  /-- R178: A RECEIPT addressed to this node enters the receipt queue, or counts in RCPTOVF. -/
  | receiptRx (clk node member : Nat) (payload : List Byte)
  /-- R178: A read of STAKE.RCPT0 removes the head receipt and loads RCPT1–7 as a shadow. -/
  | rcptPop (clk : Nat)
  /-- R232: WAITT first executes and fixes its target T from X, Y and the cycle. -/
  | instrWaitt (eng : Nat)
  /-- R233: A tick window closes after the WAITT target, the wait completes on time with PHASE set, or late under
  LSKIP. -/
  | waittComplete (eng : Nat)
  /-- R231: WAITP starts watching a pin level or crew flag condition. -/
  | instrWaitp (eng : Nat)
  /-- R231: The WAITP condition holds in a step and the instruction executes, clearing the flag if asked. -/
  | waitpComplete (clk eng : Nat)
  /-- R236: DLY starts waiting COUNT or X[19:0] steps. -/
  | instrDly (eng : Nat)
  /-- R236: The DLY count runs out and the next instruction follows. -/
  | dlyComplete (eng : Nat)
  /-- R245: CNT starts counting high, low or edge steps on a pin into Y. -/
  | instrCnt (eng : Nat)
  /-- R245: The CNT end condition holds and the instruction applies its edge field and delay. -/
  | cntComplete (clk eng : Nat)
  /-- R230: JMP adjusts X or Y and jumps when its condition holds. -/
  | instrJmp (eng : Nat)
  /-- R240: MOV forms a value from source and destination and writes it to the destination. -/
  | instrMov (eng : Nat)
  /-- R241: SET loads X or Y, or changes chosen SET pin levels or output enables. -/
  | instrSet (eng : Nat)
  /-- R238: OUT shifts bits from OSR to pins, registers, delay or branch, refilling or stalling on a drained OSR. -/
  | instrOut (eng : Nat)
  /-- R237: IN shifts bits into ISR and may flush ISR into the receive FIFO. -/
  | instrIn (eng : Nat)
  /-- R239: PULL loads OSR from the transmit FIFO, stalling when blocking and empty. -/
  | instrPull (eng : Nat)
  /-- R239: PUSH places ISR in the receive FIFO, stalling or dropping on a full FIFO. -/
  | instrPush (eng : Nat)
  /-- R243: STAMP reads a pin's capture register into the receive FIFO or X and Y and clears NEW and MULTI. -/
  | instrStamp (eng : Nat)
  /-- R244: NOTE sets a crew flag and, with EVT, a CREW.PEVT bit. -/
  | instrNote (eng : Nat)
  /-- R228: An undefined word is reached, and the engine sets FAULT and stops with its claims kept. -/
  | undefinedInstruction (eng : Nat)
  /-- R229: The DELAY steps of an instruction run out, which is an instruction boundary. -/
  | instrDelayEnd (eng : Nat)
  /-- R203: The FIFO condition of a stalled instruction clears and the instruction executes in the next step. -/
  | engineStallEnd (eng : Nat)
  /-- R197: A write to ENG.TXF places a word in the transmit FIFO 30 hns later, or counts in TXDROP. -/
  | engTxfWrite (clk eng : Nat) (data : Word)
  /-- R197: A read of ENG.RXF pops the receive FIFO, returning 0 when it is empty. -/
  | engRxfPop (clk eng : Nat)
  /-- R217: A write to ENG.JUMP sets PC[6:0] of a held engine. -/
  | engJump (clk eng word : Nat)
  /-- R218: A write of 1 to ENG.SNAP.GO captures PC, X, Y, OSR, ISR and CNT on one tick. -/
  | engSnap (clk eng : Nat)
  /-- R208: A write of 1 to CREW.SWAP.GO checks idle-bank ownership and starts a program swap, or is refused with
  0x10. -/
  | crewSwapGo (clk crew : Nat)
  /-- R213: A write to CREW.GO_ENG clears HOLD on the listed engines on one tick. -/
  | crewGoEng (clk crew mask : Nat)
  /-- R212: A write to CREW.FLAGSET sets the chosen crew flags. -/
  | crewFlagset (clk crew mask : Nat)
  /-- R223: A write to SWDATA or SWOE changes software-level pins 30 hns later plus up to one tick. -/
  | pinmuxSwdataWrite (clk q off : Nat) (data : Word)
  /-- R249: The edge detector sees a transition tick on a pin, updates the capture register and passes a single or
  merged event to the filter chain. -/
  | pinTransition (clk pin : Nat) (tr : PinTick)
  /-- R251: A held event's glitch window closes without an opposite event and the event passes on. -/
  | glitchWindowExpire (pin : Nat)
  /-- R252: A debounce window closes and the edge is accepted or counted as a bounce. -/
  | debounceWindowClose (pin : Nat)
  /-- R255: A chatter lock window closes and a count record is written. -/
  | chatterWindowClose (pin : Nat)
  /-- R255: No transition for Q' ends the chatter lock with a CHATTER_END record. -/
  | chatterQuietEnd (pin : Nat)
  /-- R256: L has held a selected level for STUCK_TIME and a STUCK record is written. -/
  | stuckTimerExpire (pin : Nat)
  /-- R261: The writer commits a staged record with the next SEQ, or discards it under the reserve and fill rules. -/
  | bookCommit (clk : Nat)
  /-- R266: 2,000 hns pass with no discard and the writer commits one BOOK_OVERFLOW record, or holds it until FILL
  falls. -/
  | discardEpisodeEnd
  /-- R267: DMA writes up to 16 records to host memory, then writes DMA_WRPTR and sets PEVT bit 10. -/
  | bookDmaBurst (clk : Nat)
  /-- R268: A BOOK frame is released on both ring ports when BATCH records wait or the oldest has waited MAXAGE. -/
  | bookFrameSend (clk : Nat)
  /-- R286: At the end of intermission or an idle bit boundary, the controller picks the due reference message or
  the best pending buffer and starts its frame. -/
  | canTxStart (clk can loop : Nat)
  /-- R288: A frame becomes valid for the transmitter, TXREQ clears with OUTCOME 1 and TXSTAMP is set. -/
  | canTxDone (clk can tdcv : Nat)
  /-- R287: An attempt loses arbitration and the buffer retries or ends under RETRY. -/
  | canArbLost (clk can : Nat)
  /-- R287: An attempt ends in an error, updating the counters and the retry rule. -/
  | canTxError (clk can err : Nat) (afterArb dataPhase dominant : Bool) (pos eights : Nat) (tdcv : Option Nat)
  /-- R291: The 128th sequence of 11 recessive bits makes the controller error-active and writes a CAN_RECOVER
  record. -/
  | canRecover (clk can : Nat)
  /-- R294: A frame becomes valid for receivers and is filtered into the receive queue, feed latches and reference
  registers. -/
  | canRxFrame (clk can edge id dlc : Nat) (brs esi : Bool) (data : List Byte)
  /-- R285: A write of 1 to a TXREQ bit makes the buffer pending, or clears it at once as malformed. -/
  | canTxreq (clk can map : Nat)
  /-- R289: A write of 1 to a TXABORT bit clears a pending buffer with OUTCOME 3. -/
  | canTxabort (clk can map : Nat)
  /-- R296: A write to RXACK returns an owned receive entry to the hub, or counts in ACKERR. -/
  | canRxack (clk can index : Nat)
  /-- R298: A reference instant arrives, making the reference message due and dropping an unsent earlier one into
  REFMISS. -/
  | canRefDue (can : Nat)
  /-- R307: After enable or takeover, 11 consecutive recessive bits let the controller start receiving and sending. -/
  | canSynced (clk can : Nat)
  /-- R310: PCS loss persists for LDN_DB, the link is declared down and the hold window opens. -/
  | linkDown (clk port : Nat)
  /-- R310: Lock and negotiation hold for LUP_DB, the link is declared up and LAT is loaded. -/
  | linkUp (clk port speed : Nat)
  /-- R311: FBT passes with no link and a ring port alternates between 10GBASE-R and 1000BASE-X. -/
  | linkFallbackToggle (port : Nat)
  /-- R312: A received frame is checked and counted by the MAC, then classified, learned and forwarded by the
  switch with HSR rules. -/
  | portRxFrame (clk port : Nat) (fr : Frame) (chk : RxCheck)
  /-- R319: A queued frame starts transmission when its gate, plat window and pause rules allow, or is discarded by
  the age limit. -/
  | portTxStart (clk : Nat) (go : TxGo)
  /-- R318: A gate-list interval ends and the next entry's gates come into force, or a list cycle starts. -/
  | gclEntryChange (port : Nat)
  /-- R321: A write of 1 to GCL_CFG.SWAP checks the idle bank's sum and schedules a swap, or refuses with 0x11. -/
  | gclSwapWrite (clk port : Nat)
  /-- R321: At the next list-cycle start the gate banks change and ACTIVE is inverted. -/
  | gclSwapApply (port : Nat)
  /-- R323: INUSE reaches HWM or falls below LWM and the port sends a PAUSE frame. -/
  | pauseSend (clk port : Nat)
  /-- R323: Half the paused time passes while INUSE stays at LWM or above and PAUSE is sent again. -/
  | pauseRepeat (port : Nat)
  /-- R324: A received PAUSE frame starts, replaces or ends the port's pause. -/
  | pauseRx (clk port quanta : Nat)
  /-- R324: The received pause time ends and the port may start frames again. -/
  | pauseExpire (port : Nat)
  /-- R325: The hold window closes with the link still down and every queue is flushed. -/
  | holdWindowClose (port : Nat)
  /-- R326: The PCS loses lock while a frame is leaving and the frame is cut off and counted in FLUSHED. -/
  | pcsLockLoss (clk port : Nat)
  /-- R328: A write of 1 to SNAP.GO copies the live counters of one or all ports into their snapshot banks. -/
  | portSnap (clk port : Nat) (all : Bool)
  /-- R335: A learned FDB entry is not seen for AGE_TIME and is removed. -/
  | fdbAgeExpire (index : Nat)
  /-- R365: FDB command 0 reads the entry at INDEX. -/
  | fdbRead (clk index : Nat)
  /-- R365: FDB command 1 looks up the KEY. -/
  | fdbLookup (clk : Nat)
  /-- R365: FDB command 2 writes ENTRY at the KEY. -/
  | fdbWrite (clk : Nat)
  /-- R365: FDB command 3 deletes the KEY. -/
  | fdbDelete (clk : Nat)
  /-- R365: FDB command 4 flushes learned entries whose DEST shares a bit with ENTRY.DEST. -/
  | fdbFlushDest (clk : Nat)
  /-- R365: FDB command 5 flushes every learned entry. -/
  | fdbFlushAll (clk : Nat)
  /-- R365: FDB commands 6 and 7 end with OUTCOME 3. -/
  | fdbCmdReserved (clk op : Nat)
  /-- R344: A duplicate-table entry reaches DD_TIME and leaves the table. -/
  | hsrEntryExpire
  /-- R350: A write of CTL.FAIL declares bank BANK failed. -/
  | bufmemFailBank (clk bank : Nat)
  /-- R351: A write of CTL.REBUILD naming a failed bank starts rewriting it from the other eight. -/
  | bufmemRebuild (clk bank : Nat)
  /-- R351: A rebuild's read-back ends and the bank returns to service or stays failed. -/
  | bufmemRebuildDone (clk : Nat) (ok : Bool)
  /-- R352: The scrubber reads the next cell every SCRUB.INT µs and writes back corrected words. -/
  | bufmemScrub (clk : Nat) (cell : ScrubRead)
  /-- R357: A write of a Monument handle to SAa.KEY starts a key install over the key lane. -/
  | macsecSaInstall (clk port sa handle : Nat)
  /-- R357: A key install ends with VALID set, or with ERR set on failure. -/
  | macsecSaInstallDone (clk port sa : Nat)
  /-- R358: A write to CTL.TX_AN schedules a change of transmit SA. -/
  | macsecTxAnWrite (clk port an : Nat)
  /-- R358: At the next frame boundary the new TX_AN applies with TX_PN taken from NEXT_PN. -/
  | macsecTxAnApply (clk port : Nat)
  /-- R380: A host read through a BAR2 window is split into 8-byte ring read transactions. -/
  | hostBar2Read (clk off len tag : Nat)
  /-- R379: A host write through a BAR2 window is split into posted or non-posted ring write transactions. -/
  | hostBar2Write (clk off : Nat) (data : List (Option Byte))
  /-- R381: A ring read transaction (OP 0x10) is applied in TSEQ order and answered with a completion. -/
  | mgmtRead (clk port node member : Nat) (tr : Trans)
  /-- R382: A posted ring write (OP 0x11) is judged and applied in TSEQ order, or refused with a late-error NOTICE. -/
  | mgmtPostedWrite (clk port node member : Nat) (tr : Trans)
  /-- R382: A non-posted ring write (OP 0x12) is judged, applied and acknowledged, or refused with a reason. -/
  | mgmtNpWrite (clk port node member : Nat) (tr : Trans)
  /-- R379: A write acknowledgement (OP 0x13) reaches the issuer and frees the window, or stops it on failure. -/
  | mgmtWriteAck (clk : Nat) (tr : Trans)
  /-- R380: A read completion (OP 0x14) reaches the issuer and completes the host read. -/
  | mgmtReadCompletion (clk : Nat) (tr : Trans)
  /-- R381: ORD_WAIT passes for a held out-of-order transaction and the target goes on, counting ORD_LOST. -/
  | ordWaitExpire (node member : Nat)
  /-- R383: A read or non-posted write outstanding for NP_TIMEOUT ends with all-ones data or a stopped window. -/
  | npTimeout (tag : Nat)
  /-- R384: Refusals for one issuer gathered over 2,000 hns leave in one NOTICE frame. -/
  | noticeLateErrorSend (node member : Nat)
  /-- R385: A NOTICE of SUBKIND 0x2 writes its entries into the late-error log. -/
  | noticeLateErrorRx (clk node member : Nat) (entries : List LateErr)
  /-- R385: A NOTICE of SUBKIND 0x1 carrying an event group reaches the managing node. -/
  | noticeGroupRx (clk node member group : Nat) (pend : List Word)
  /-- R464: A last-gasp NOTICE of SUBKIND 0x3 reaches a node. -/
  | noticeLastGaspRx (clk node member : Nat) (payload : List Byte)
  /-- R385: A read of BRIDGE.LLOG0 removes the head late-error log entry. -/
  | llogPop (clk : Nat)
  /-- R388: A write to BRIDGE.TX_TAIL makes new host transmit slots available. -/
  | hostTxTail (clk slot : Nat)
  /-- R388: A transmit slot read from host memory completes and its frame is sent or skipped as malformed. -/
  | hostTxSlotRead (clk : Nat) (header frame : List Byte)
  /-- R389: An OPEN from a manager is answered with a CHALLENGE or refused. -/
  | leaseOpen (clk node member : Nat)
  /-- R389: A CHALLENGE reaches the manager, which answers with a PROOF. -/
  | leaseChallenge (clk node member : Nat) (challenge : List Byte)
  /-- R389: A PROOF is checked and answered with a GRANT or a REFUSE. -/
  | leaseProof (clk node member : Nat) (proof : List Byte)
  /-- R389: A GRANT reaches the manager with the lease time and the next challenge. -/
  | leaseGrant (clk node member seconds : Nat) (next : List Byte)
  /-- R389: A RENEW is checked and answered with a GRANT. -/
  | leaseRenew (clk node member : Nat) (proof : List Byte)
  /-- R390: A RELEASE ends the lease. -/
  | leaseRelease (clk node member : Nat)
  /-- R389: A REFUSE reaches the manager with its reason. -/
  | leaseRefuse (clk node member reason : Nat)
  /-- R390: LEASE_S seconds pass from the GRANT and the lease ends. -/
  | leaseExpire
  /-- R389: A challenge is 1 s old and expires. -/
  | leaseChallengeExpire
  /-- R390: A write of 1 to LEASE_CTL.DROP ends the lease. -/
  | leaseDrop (clk : Nat)
  /-- R392: The PCIe link state changes. -/
  | pcieLinkChange (clk : Nat) (up : Bool)
  /-- R400: At T_n + COPY_AT the hub sends STATUS, and as active takes its state and sends the cycle record. -/
  | duplexCopyPoint (cut : Bool)
  /-- R398: A STATUS frame from the peer is received as a heartbeat, a fault or handover declaration, or a role
  claim. -/
  | backsightStatusRx (clk lane : Nat) (payload : List Byte)
  /-- R403: The last frame of a newer record commits with a good CRC and the standby applies it to its shadow
  blocks. -/
  | cycleRecordApply (clk : Nat) (rec : CycRecord)
  /-- R404: A release notice reaches the standby, removes the key and updates the pin image and log. -/
  | backsightNoticeRx (clk : Nat) (payload : List Byte)
  /-- R405: A heartbeat window closes without a heartbeat and the lane miss, MISSED and SUSPECT state are updated. -/
  | heartbeatWindowClose
  /-- R396: The third boundary after enable passes with no STATUS heard and the role is chosen from the straps and
  peer presence. -/
  | duplexNegotiateTimeout
  /-- R410: At T_k the new active hub drives the pin image, handles queued stakes and resumes engines, CAN and
  book, and the faulted hub goes to shadow. -/
  | takeover
  /-- R408: A write of CTL.FAULT = 1 makes the active hub declare a fault and become FAULTED. -/
  | duplexFault (clk : Nat)
  /-- R408: A write of CTL.HANDOVER = 1 makes the active hub declare a handover. -/
  | duplexHandover (clk : Nat)
  /-- R413: A write of CTL.REJOIN = 1 makes a fenced hub NEGOTIATING. -/
  | duplexRejoin (clk : Nat)
  /-- R413: A write of CTL.FENCE = 1 fences the hub. -/
  | duplexFence (clk : Nat)
  /-- R412: A MGMT frame of SUBKIND 0x9 carries the other claimant's STATUS and the lower serial number keeps the
  role. -/
  | dualClaimStatusRx (clk : Nat) (payload : List Byte)
  /-- R415: Every 1 ms a running GANGCTL sends a HELLO to each fitted member. -/
  | gangHelloSend
  /-- R415: A HELLO is compared item by item, refusing formation at the first difference or marking the member
  agreed. -/
  | gangHelloRx (clk port member : Nat) (payload : List Byte)
  /-- R415: FORM_WAIT passes, refusing formation with 0x0E for an unheard member and judging the time item. -/
  | gangFormWaitExpire
  /-- R416: Every TIME_PER µs the acting lead sends a TIME frame on each gang link. -/
  | gangTimeSend
  /-- R416: A TIME frame updates OFS and OFS_VALID and may flag TIME_TOL. -/
  | gangTimeRx (clk port member stamp : Nat) (payload : List Byte)
  /-- R417: A STATE frame from a member is stored for the vote. -/
  | gangStateRx (clk member : Nat) (payload : List Byte)
  /-- R417: At T_n + STATE_AT the members vote on digests, fence members outside the reference and mark lost
  members. -/
  | gangVote
  /-- R417: A write of GANGCTL.CTL.REJOIN = 1 makes a fenced member send HELLOs again. -/
  | gangctlRejoin (clk : Nat)
  /-- R424: A write of GANGCTL.CTL.FENCE = 1 fences this member, which declares a fault if it has a twin. -/
  | gangctlFence (clk : Nat)
  /-- R431: VIN_A or VIN_B leaves its window and the FET set switches, with MAIN_LOSS handling when VIN_A is lost. -/
  | inputInvalid (clk input : Nat) (ov other : Bool) (vinA vinB vor gateNs : Nat)
  /-- R430: An input enters its window and may be connected under the FET mode. -/
  | inputValid (clk input vinA vinB gateNs : Nat)
  /-- R432: VIN_A has been valid for START_DB, a return record is written and a plan before class A ends. -/
  | mainReturn (vinA vor : Nat)
  /-- R430: PREF has been valid for RETURN_DB in priority mode and the hub returns to it. -/
  | supplyReturnPref (vinA vinB gateNs : Nat)
  /-- R430: In diode mode the reverse comparator turns an input's FET off or back on. -/
  | reverseComparator (clk input : Nat) (off : Bool)
  /-- R434: The start condition holds for START_DB and the power-up sequence raises the first RAIL_EN. -/
  | railSequenceStart
  /-- R434: SEQ_DLY after a rail enters its window, the next RAIL_EN rises. -/
  | railEnStep (enter : Nat)
  /-- R434: A rail has not entered its window RAMP_TO after its EN rose, which is a rail fault. -/
  | railRampTimeout
  /-- R434: PG_DLY after every rail is in its window, PG_CORE is released and the core die leaves reset. -/
  | pgCoreRelease (enter : Nat)
  /-- R435: A rail leaves its window for RF_FILT, PG_CORE drops, the fault is recorded and the power-down sequence
  runs. -/
  | railFault (clk map : Nat) (above : Bool)
  /-- R435: A rail falls below 10 % or 1 ms passes, and the next RAIL_EN in the down order falls. -/
  | railEnFallStep (clk : Nat)
  /-- R435: 1 s after a rail fault the sequence restarts if the start condition holds and RF_RETRY is not exhausted. -/
  | railFaultRestart
  /-- R448: A write of 1 to SUPPLY.CTL.RF_CLR clears RF_LATCH and RFCNT. -/
  | supplyRfClr (clk : Nat)
  /-- R437: VOR falls below PFW_TH and PFW_N goes low. -/
  | vorBelowPfw (clk : Nat)
  /-- R437: VOR stays above PFW_TH + 0.5 V for 10 ms with no tally warning and PFW_N returns high. -/
  | pfwRelease (clk : Nat)
  /-- R440: The shunt voltage exceeds FAST_TH and the channel trips with cause 1. -/
  | slotFastTrip (clk slot vout : Nat)
  /-- R439: The fault timer reaches FAULT_T and the channel trips with cause 2. -/
  | slotFaultTimerExpire (clk slot vout : Nat)
  /-- R439: 1 ms passes without limiting and the fault timer clears. -/
  | slotLimitTimerClear (clk slot : Nat)
  /-- R439: RAMP lasts START_TO without PG and the channel trips with cause 3. -/
  | slotStartTimeout (slot vout : Nat)
  /-- R441: VOUT, VGS and no limiting hold on an edge and SLOTn_PG rises, moving the channel to ON. -/
  | slotPgRise (clk slot : Nat) (limiting : Bool) (vout : Nat)
  /-- R441: VOUT falls below PG_TH − 2 % and SLOTn_PG falls. -/
  | slotPgFall (clk slot vout : Nat)
  /-- R442: The cool-down off-time ends and the channel moves toward RAMP. -/
  | slotCoolEnd (slot : Nat)
  /-- R444: The insertion remainder ends and, if the cool-down is also over, RAMP starts. -/
  | slotInsertRemainderEnd (slot : Nat)
  /-- R444: A debounced removal puts the channel in VACANT and writes a SLOT_VACANT record. -/
  | slotRemoval (clk slot vout : Nat)
  /-- R444: A debounced insertion starts the insertion remainder and writes a SLOT_VACANT record. -/
  | slotInsertion (clk slot : Nat)
  /-- R443: SLOTn_ON changes, holding the channel OFF, or clearing the latch after a low of 1 ms or more. -/
  | slotOnPinChange (clk slot : Nat) (level : Bool) (vout : Nat)
  /-- R456: Every 50 µs the tally computes VHUP and E_SAFE and, in a plan, sheds classes and raises the warning. -/
  | tallyUpdate (clk : Nat) (adc : List Nat)
  /-- R462: Every class A item is done and the plan ends with power-down and Keep. -/
  | classAComplete (clk : Nat)
  /-- R462: A_TIME passes after class A began and the plan ends with power-down and Keep. -/
  | classATimeout
  /-- R455: A write of 1 to TALLY.CTL.LEARN starts a learning pulse, or is discarded when VIN_A is invalid or a
  plan runs. -/
  | tallyLearn (clk : Nat)
  /-- R455: LEARN_H hours pass with AUTO_LEARN = 1 and a learning pulse starts. -/
  | tallyAutoLearn
  /-- R455: The learning pulse ends after LEARN_MS and C_LEARN is updated if the sample is valid. -/
  | tallyLearnEnd
  /-- R479: Operation DERIVE derives a key from the current root into a slot. -/
  | monumentDerive (clk : Nat) (stage : Bool)
  /-- R481: Operation GENERATE makes a random key in a slot. -/
  | monumentGenerate (clk : Nat) (stage : Bool)
  /-- R481: Operation GEN_IDENT generates the device identity key in slot 1 once. -/
  | monumentGenIdent (clk : Nat)
  /-- R481: Operation IMPORT takes a plaintext key into a slot in PROVISION. -/
  | monumentImport (clk : Nat) (stage : Bool)
  /-- R481: Operation UNWRAP decrypts a wrapped blob into a slot. -/
  | monumentUnwrap (clk : Nat) (stage : Bool)
  /-- R481: Operation WRAP wraps an exportable key out as a blob. -/
  | monumentWrap (clk : Nat)
  /-- R481: Operation MAC computes an HMAC-SHA-384 under a slot. -/
  | monumentMac (clk : Nat)
  /-- R481: Operation MAC_VERIFY checks an HMAC under a slot. -/
  | monumentMacVerify (clk : Nat)
  /-- R481: Operation SIGN signs a digest with an ECDSA slot. -/
  | monumentSign (clk : Nat)
  /-- R481: Operation PUBKEY returns a slot's public key. -/
  | monumentPubkey (clk : Nat)
  /-- R487: Operation ATTEST signs a statement about an INTERNAL slot with the identity key. -/
  | monumentAttest (clk : Nat)
  /-- R483: Operation PROVE checks a proof tag and marks the staged half PROVEN, or zeroes it. -/
  | monumentProve (clk : Nat)
  /-- R483: Operation COMMIT requests the commit of a proven staged half. -/
  | monumentCommit (clk : Nat)
  /-- R483: Operation DISCARD zeroes a staged half. -/
  | monumentDiscard (clk : Nat)
  /-- R481: Operation ERASE empties a slot. -/
  | monumentErase (clk : Nat)
  /-- R481: Operation INFO returns a slot's ATTR, commit word and stage word. -/
  | monumentInfo (clk : Nat)
  /-- R474: Operation TRANSITION burns the next life-cycle fuse, generates the new root and erases what the state
  excludes. -/
  | monumentTransition (clk : Nat)
  /-- R481: Operation MKA_KDF derives KEK and ICK slots from a CAK. -/
  | monumentMkaKdf (clk : Nat)
  /-- R481: Operation MKA_ICV computes an MKA ICV under an ICK slot. -/
  | monumentMkaIcv (clk : Nat)
  /-- R481: Operation MKA_UNWRAP unwraps a SAK into a MACsec slot. -/
  | monumentMkaUnwrap (clk : Nat)
  /-- R482: A reserved OP ends with code 0x0B. -/
  | monumentOpReserved (clk op : Nat)
  /-- R480: A Monument operation ends: DATA is zeroed, RESULT and OUT_LEN are loaded, output is placed and BUSY
  falls. -/
  | monumentOpDone (clk : Nat)
  /-- R484: The commit request crosses to CLK_KEEP, the commit word is written and a KEY_COMMIT record follows. -/
  | keyCommit
  /-- R484: Within 4 CLK_KEEP cycles the old half is zeroed and the stage word cleared. -/
  | keyCommitOldZeroed (clk : Nat)
  /-- R475: Three consecutive TRNG blocks fail the health tests and TRNG_OK clears. -/
  | trngFail (clk : Nat)
  /-- R494: A write to the upper RTC word sets the RTC. -/
  | monumentRtcSet (clk : Nat) (word : Word)
  /-- R488: A tamper source is detected and every key, root, stage word and installed MACsec key is zeroed within 3
  µs, with a log entry. -/
  | tamperDetect (clk sources : Nat)
  /-- R490: A write of 0x5EA1_0002 to TAMPER.REARM with no source active generates a fresh root and returns COND to
  READY. -/
  | tamperRearm (clk : Nat) (word : Word)
  /-- R499: A sample of a monitor's source updates its bins, COUNT, SUM, MIN and MAX. -/
  | hmonSample (clk mon : Nat) (value : Int)
  /-- R500: A write of 1 to HMON.CTL.SNAP copies the live set to the snapshot, clearing it or copying all monitors
  where asked. -/
  | hmonSnap (clk mon : Nat) (clear all : Bool)
  /-- R507: A write to CAL.DATA stores a staging word and advances ADDR by 4. -/
  | calDataWrite (clk : Nat) (data : Word)
  /-- R507: A read of CAL.DATA returns a shadow word and advances ADDR by 4. -/
  | calDataRead (clk : Nat)
  /-- R505: A write of 0xCA1B_0003 to CAL.UNLOCK opens a 1 ms programming window. -/
  | calUnlock (clk : Nat) (word : Word)
  /-- R505: A write of 1 to CAL.CTL.PROG checks and starts programming the sections in SECMASK. -/
  | calProg (clk : Nat)
  /-- R506: Programming completes, WRITES increments, ORIGIN is set and the shadow is reloaded. -/
  | calProgDone (clk : Nat)
  /-- R509: PG_CORE is released with RST_N high, RAW starts from 0 and the straps are sampled. -/
  | corePorRelease (clk nid role boot : Nat)
  /-- R509: The core-die PLLs lock and start-up moves to calibration. -/
  | pllLock (clk : Nat)
  /-- R512: The calibration set is checked and loaded into the shadow and passed to the guard die. -/
  | calLoadDone (clk : Nat)
  /-- R513: The memory self-test ends and boot proceeds or stops with ERR 0x07. -/
  | selfTestDone (clk : Nat) (failed : List Nat) (uncorr : Bool)
  /-- R514: The boot image has been read from its source into the switch buffer. -/
  | bootFetchDone (clk : Nat) (image : Option (List Byte))
  /-- R520: The image's CRC and authentication are judged and it is accepted, accepted unverified, or refused. -/
  | bootAuthDone (clk : Nat)
  /-- R516: A write of 1 to SYS.BOOTCTL.GO while boot waits at STAGE 0x3 starts fetching the host or ring image. -/
  | bootGo (clk : Nat)
  /-- R517: A write to SYS.BOOTDATA appends four image bytes in ring boot. -/
  | bootDataWrite (clk : Nat) (data : Word)
  /-- R519: A PAGE entry writes its registers and PCTL, and the loader waits for the check to end. -/
  | bootEntryPage (clk : Nat)
  /-- R519: A PROGRAM entry loads a program image into a crew under R247. -/
  | bootEntryProgram (clk : Nat)
  /-- R519: A WAIT entry waits until a register AND mask equals a value. -/
  | bootEntryWait (clk : Nat)
  /-- R521: A WAIT entry times out and the boot stops with ERR 0x06. -/
  | bootWaitTimeout
  /-- R510: RST_N stays low past its filter time and the core die is reset with the rails kept up. -/
  | rstNAssert (clk : Nat)
  /-- R510: RST_N rises and the core die gets a POR release. -/
  | rstNRelease (clk nid role boot : Nat)
  /-- R525: A write of 1 to RESET.WDOG.ARM sets EN and starts the watchdog. -/
  | wdogArm (clk : Nat) (data : Word)
  /-- R525: A write of 0x4B49_0001 to RESET.KICK restarts the watchdog count. -/
  | wdogKick (clk : Nat)
  /-- R525: The watchdog expires and resets the core die, first declaring a fault on an active duplex hub with
  FAULT_FIRST. -/
  | wdogExpire
  /-- R525: 100 µs after a fault-first watchdog expiry the core die is reset. -/
  | wdogDelayedReset
  /-- R526: A write of 0x5253_0001 to RESET.CMD schedules a core-die reset 10 µs later. -/
  | resetCmd (clk : Nat)
  /-- R526: 10 µs after the reset command the core die is reset. -/
  | resetCmdFire
  /-- R527: A write of 1 to a RESET.DOMAIN bit applies CLR to every page of that domain without the dependency
  refusal. -/
  | domainReset (clk map : Nat)
  /-- R527: The domain reset completes within 10 µs and the bit reads 0. -/
  | domainResetDone (clk map : Nat)
  /-- R491: VBAT is removed while neither input supplies the guard die, the battery domain loses supply and the
  Monument SRAM, RTC and tamper log are lost. -/
  | batteryDomainLoss (clk : Nat)
  /-- R290: The controller detects a bus error while receiving, updates REC, LEC and BUSERR, sends its error flag
  and may change error state. Bit 3 of `err` tells a bit error in the overload flag that the controller sends (assumption log 17). -/
  | canReceiveError (clk can err tecEights recEights : Nat)
  /-- R204: A stall reaches STALL_TH ticks and ENG.PEVT bit 8 is set once for that stall. -/
  | stallLong (eng : Nat)
  /-- R209: At the next step of an engine that is stalled during a swap, or with ABORT_WAIT is waiting or delaying,
  the stall or wait is abandoned, ABANDONED counts it and the engine moves to the new bank's entry vector. -/
  | swapAbandon (eng : Nat)
  /-- R406: The ring port facing the peer, or the gang links for an off-ring member, have received no valid or GANG
  frame for 2 × L and STS.PEER_PRESENT falls. -/
  | peerAbsent
  /-- R490: A tamper source stops being active and its bit clears in TAMPER.STS.LIVE, so a REARM write can be
  accepted. -/
  | tamperSourceInactive (clk sources : Nat)
  /-- R542: A bank's VDDIO enters or leaves its range, PINMUX.VDDSTS PRESENT and SENSE change, and its pins stay at
  high impedance until their function drives them. -/
  | vddioBankChange (clk bank : Nat) (present sense : Bool)
deriving DecidableEq, Repr

end Sys2Proof
end

