-- ==== Sys2Proof/Decode.lean ====
section
/-!
DEFINITION. The word of a table row. No row of the opcode table has bits: the rows are operations and events of a block,
so no word spells one (assumption log 24).
-/

namespace Sys2Proof

/-- The command a word of `nbits` bits spells: none. -/
def decodeTableWord (_nbits _w : Nat) : Option Instr := none

end Sys2Proof
end

