-- ==== Sys2Proof/Config.lean ====
section
/-!
DEFINITION. Constants without a body: the values the spec leaves open, and the functions it takes from outside
standards. No proof can see their values, so a statement holds whatever they are (assumption log 2).
-/

namespace Sys2Proof.Config

/-- A free value of `w` bits, taken at a counter of the state that every use advances. -/
opaque freeBits (w : Nat) : Nat → BitVec w

/-- What an input path of a pin sees while the level at its ball is not defined (R557): the path, the pin and the tick, RAW or
T at which it looks. Paths: 0 engines, 1 the edge detector, 2 PINMUX.LVL, 3 and 4 the level and the change bit of an EDGE
feed. -/
opaque pinSeen : Nat → Nat → Nat → Bool

/-- Is the gang link between two other members up at a clock (R340)? -/
opaque farLink : Nat → Nat → Nat → Bool

/-- HMAC-SHA-384 of R481: key bytes and message bytes to 48 tag bytes. -/
opaque hmacSha384 : List Byte → List Byte → List Byte

/-- SHA-384 of a byte string (48 bytes). -/
opaque sha384 : List Byte → List Byte

/-- AES-256-GCM sealing: key, nonce, additional data, plain text, to cipher text and tag. -/
opaque gcmSeal : List Byte → List Byte → List Byte → List Byte → List Byte × List Byte

/-- AES-256-GCM opening; nothing when the tag fails. -/
opaque gcmOpen : List Byte → List Byte → List Byte → List Byte → List Byte → Option (List Byte)

/-- AES-CMAC: key and message to 16 bytes. -/
opaque aesCmac : List Byte → List Byte → List Byte

/-- AES key unwrap (RFC 3394): wrapping key and wrapped bytes; nothing when the integrity check fails. -/
opaque keyUnwrap : List Byte → List Byte → Option (List Byte)

/-- The MKA key derivation function of IEEE 802.1X (R481): key, label, context, length in bytes. -/
opaque mkaKdf : List Byte → List Byte → List Byte → Nat → List Byte

/-- ECDSA P-384 signature of a digest under a private key; the last argument is the nonce drawn from the TRNG. -/
opaque ecdsaSign : List Byte → List Byte → List Byte → List Byte

/-- ECDSA P-384 verification: public key, digest, signature. -/
opaque ecdsaVerify : List Byte → List Byte → List Byte → Bool

/-- ECDSA P-384 public key of a private key. -/
opaque ecdsaPub : List Byte → List Byte

/-- The 128 bytes in which a cycle record packs the state of an engine (R194 gives the items, not their places). -/
opaque engPack : EngImage → List Byte

/-- The 256 bytes in which a cycle record packs the items of a CAN controller (R302 gives the items, not their places). -/
opaque canPack : CanImage → List Byte

/-- The payload of a FEED frame between gang members (R138, R414 give it no layout): feeds and their bytes. -/
opaque feedPack : List (Nat × List Byte) → List Byte

end Sys2Proof.Config
end

