-- ==== Sys2Proof/Machine/Bits.lean ====
section
/-!
DEFINITION. Bit fields, byte orders, two's complement, the two checksums of the spec, and the sparse tables in which
the state keeps things numbered over a large range.
-/

namespace Sys2Proof.Machine

/-- Bits `[lo + wd - 1 : lo]` of a number (R7). -/
def natField (n lo wd : Nat) : Nat := n / 2 ^ lo % 2 ^ wd

/-- The number with bits `[lo + wd - 1 : lo]` replaced by the low bits of `v`. -/
def natPut (n lo wd v : Nat) : Nat :=
  n / 2 ^ (lo + wd) * 2 ^ (lo + wd) + v % 2 ^ wd * 2 ^ lo + n % 2 ^ lo

/-- Bit `i` of a number. -/
def natBit (n i : Nat) : Bool := n / 2 ^ i % 2 == 1

/-- 1 for true, 0 for false: the value of a one-bit field. -/
def bit (b : Bool) : Nat := if b then 1 else 0

/-- A register word from a number. -/
def w32 (n : Nat) : Word := BitVec.ofNat 32 n

/-- Bits of a register word. -/
def bitsOf (w : Word) (lo wd : Nat) : Nat := natField w.toNat lo wd

/-- The two's-complement value of the low `wd` bits (R5). -/
def toSigned (n wd : Nat) : Int :=
  if n % 2 ^ wd < 2 ^ (wd - 1) then (n % 2 ^ wd : Nat) else (n % 2 ^ wd : Nat) - (2 ^ wd : Nat)

/-- The `wd`-bit two's complement of a signed value. -/
def ofSigned (i : Int) (wd : Nat) : Nat := (i % ((2 : Int) ^ wd)).toNat

/-- A count that saturates at the top of a field of `wd` bits. -/
def satAdd (n k wd : Nat) : Nat := min (n + k) (2 ^ wd - 1)

/-- A number clipped to a signed field of `wd` bits. -/
def satSigned (i : Int) (wd : Nat) : Nat :=
  ofSigned (max (-(2 : Int) ^ (wd - 1)) (min i ((2 : Int) ^ (wd - 1) - 1))) wd

/-- The smallest multiple-quotient not below `a / b`. -/
def ceilDiv (a b : Nat) : Nat := (a + b - 1) / b

/-- `k` little-endian bytes of a number (R7: registers, memories and records). -/
def leBytes : Nat → Nat → List Byte
  | 0, _ => []
  | k + 1, n => BitVec.ofNat 8 n :: leBytes k (n / 256)

/-- `k` bytes of a number, most significant first (R7: frame fields). -/
def beBytes (k n : Nat) : List Byte := (leBytes k n).reverse

/-- The number of a little-endian byte string. -/
def ofLE : List Byte → Nat
  | [] => 0
  | b :: t => b.toNat + 256 * ofLE t

/-- The number of a byte string sent most significant byte first. -/
def ofBE (l : List Byte) : Nat := ofLE l.reverse

/-- `n` bytes of a string from byte `i`, padded with 0. -/
def slice (l : List Byte) (i n : Nat) : List Byte :=
  (l.drop i).take n ++ List.replicate (n - ((l.drop i).take n).length) 0

/-- One bit of a reflected CRC of any width. -/
def crcBit (poly c : Nat) : Nat := if c % 2 = 1 then (c / 2) ^^^ poly else c / 2

/-- One byte of a reflected CRC. -/
def crcByte (poly c : Nat) (b : Byte) : Nat :=
  let c0 := c ^^^ b.toNat
  crcBit poly (crcBit poly (crcBit poly (crcBit poly
    (crcBit poly (crcBit poly (crcBit poly (crcBit poly c0)))))))

/-- CRC-32C with the parameters of R66: initial value and final XOR of all ones. PRESUMED: the reflected Castagnoli
polynomial of the name CRC-32C (assumption log 7). -/
def crc32c (l : List Byte) : Nat := (l.foldl (crcByte 0x82F63B78) 0xFFFFFFFF) ^^^ 0xFFFFFFFF

/-- Look up a sparse table: the entry of the key, else the default of the key. -/
def tabGet {α : Type} (d : Nat → α) : List (Nat × α) → Nat → α
  | [], k => d k
  | p :: t, k => if p.1 = k then p.2 else tabGet d t k

/-- Place an entry in key order. -/
def tabIns {α : Type} (k : Nat) (v : α) : List (Nat × α) → List (Nat × α)
  | [] => [(k, v)]
  | p :: t => if k < p.1 then (k, v) :: p :: t else p :: tabIns k v t

/-- Write a sparse table: an entry equal to the default of its key is not listed. -/
def tabPut {α : Type} [DecidableEq α] (d : Nat → α) (l : List (Nat × α)) (k : Nat) (v : α) : List (Nat × α) :=
  if v = d k then l.filter (fun p => p.1 != k) else tabIns k v (l.filter (fun p => p.1 != k))

/-- The keys rise strictly from above `lo`, and no entry equals the default of its key. -/
def tabWfFrom {α : Type} [DecidableEq α] (d : Nat → α) : Nat → List (Nat × α) → Bool
  | _, [] => true
  | lo, p :: t => decide (lo ≤ p.1) && decide (p.2 ≠ d p.1) && tabWfFrom d (p.1 + 1) t

/-- The canonical form of a sparse table: equal tables are equal lists. -/
def tabWf {α : Type} [DecidableEq α] (d : Nat → α) (l : List (Nat × α)) : Bool := tabWfFrom d 0 l

/-- The element `i` of a list, or a given value past its end. -/
def nth {α : Type} (l : List α) (i : Nat) (d : α) : α := (l[i]?).getD d

/-- Replace element `i` of a list. -/
def setNth {α : Type} : List α → Nat → α → List α
  | [], _, _ => []
  | _ :: t, 0, v => v :: t
  | a :: t, i + 1, v => a :: setNth t i v

end Sys2Proof.Machine
end

