-- ==== Sys2Proof/Machine/RegNames.lean ====
section
/-!
DEFINITION. Names for the fields of the spec's register tables. `FAM.REG.FIELD` is a field (its register's offset,
its lowest bit in the register, counted over all words of a wide register, and its width); `FAM.REG.all` is the
whole register. Register arrays are indexed with `Fld.at`.
-/

namespace Sys2Proof.Machine

/-- A field of a register: offset of the register's lowest word, lowest bit, width in bits. -/
structure Fld where
  off : Nat
  lo : Nat
  w : Nat
deriving DecidableEq, Repr

/-- The same field of the element of a register array that lies `d` bytes further on. -/
def Fld.at (f : Fld) (d : Nat) : Fld := { f with off := f.off + d }

/-- The field of the same shape `d` bits further up in the same register. -/
def Fld.up (f : Fld) (d : Nat) : Fld := { f with lo := f.lo + d }

namespace F


/-! Fields of the HDR page. -/

/-- HDR.PID, R49. -/
def HDR.PID.all : Fld := ⟨0x0, 0, 32⟩
def HDR.PID.TYPE : Fld := ⟨0x0, 16, 16⟩
def HDR.PID.INST : Fld := ⟨0x0, 8, 8⟩
def HDR.PID.FMT : Fld := ⟨0x0, 0, 8⟩
/-- HDR.PCTL, R49. -/
def HDR.PCTL.all : Fld := ⟨0x4, 0, 32⟩
def HDR.PCTL.LOCK : Fld := ⟨0x4, 8, 1⟩
def HDR.PCTL.CLR : Fld := ⟨0x4, 2, 1⟩
def HDR.PCTL.HOLD : Fld := ⟨0x4, 1, 1⟩
def HDR.PCTL.EN : Fld := ⟨0x4, 0, 1⟩
/-- HDR.PSTS, R49. -/
def HDR.PSTS.all : Fld := ⟨0x8, 0, 32⟩
def HDR.PSTS.INDEX : Fld := ⟨0x8, 16, 8⟩
def HDR.PSTS.CODE : Fld := ⟨0x8, 8, 8⟩
def HDR.PSTS.FAULT : Fld := ⟨0x8, 3, 1⟩
def HDR.PSTS.HELD : Fld := ⟨0x8, 2, 1⟩
def HDR.PSTS.REFUSED : Fld := ⟨0x8, 1, 1⟩
def HDR.PSTS.RUN : Fld := ⟨0x8, 0, 1⟩
/-- HDR.PEVT, R49. -/
def HDR.PEVT.all : Fld := ⟨0xC, 0, 32⟩
def HDR.PEVT.BLK : Fld := ⟨0xC, 8, 24⟩
def HDR.PEVT.FAULT : Fld := ⟨0xC, 1, 1⟩
def HDR.PEVT.REFUSED : Fld := ⟨0xC, 0, 1⟩
/-- HDR.PEVM, R49. -/
def HDR.PEVM.all : Fld := ⟨0x10, 0, 32⟩
def HDR.PEVM.MASK : Fld := ⟨0x10, 0, 32⟩
/-- HDR.PEVF, R49. -/
def HDR.PEVF.all : Fld := ⟨0x14, 0, 32⟩
def HDR.PEVF.FORCE : Fld := ⟨0x14, 0, 32⟩
/-- HDR.PSEQ, R49. -/
def HDR.PSEQ.all : Fld := ⟨0x18, 0, 32⟩
def HDR.PSEQ.COUNT : Fld := ⟨0x18, 0, 32⟩
/-- HDR.PDIG, R49. -/
def HDR.PDIG.all : Fld := ⟨0x1C, 0, 32⟩
def HDR.PDIG.DIGEST : Fld := ⟨0x1C, 0, 32⟩

/-! Fields of the SYS page. -/

/-- SYS.REV, R528. -/
def SYS.REV.all : Fld := ⟨0x40, 0, 32⟩
def SYS.REV.CORE : Fld := ⟨0x40, 8, 8⟩
def SYS.REV.GUARD : Fld := ⟨0x40, 0, 8⟩
/-- SYS.SERIAL, R528. -/
def SYS.SERIAL.all : Fld := ⟨0x44, 0, 64⟩
def SYS.SERIAL.SN : Fld := ⟨0x44, 0, 64⟩
/-- SYS.STRAP, R528. -/
def SYS.STRAP.all : Fld := ⟨0x4C, 0, 32⟩
def SYS.STRAP.BOOT : Fld := ⟨0x4C, 10, 2⟩
def SYS.STRAP.ROLE : Fld := ⟨0x4C, 7, 3⟩
def SYS.STRAP.NID : Fld := ⟨0x4C, 0, 7⟩
/-- SYS.BOOTSTS, R528. -/
def SYS.BOOTSTS.all : Fld := ⟨0x50, 0, 32⟩
def SYS.BOOTSTS.ERR : Fld := ⟨0x50, 16, 8⟩
def SYS.BOOTSTS.ALT : Fld := ⟨0x50, 8, 1⟩
def SYS.BOOTSTS.UNVERIFIED : Fld := ⟨0x50, 7, 1⟩
def SYS.BOOTSTS.STAGE : Fld := ⟨0x50, 0, 4⟩
/-- SYS.BOOTERR, R528. -/
def SYS.BOOTERR.all : Fld := ⟨0x54, 0, 32⟩
def SYS.BOOTERR.PAGE : Fld := ⟨0x54, 24, 8⟩
def SYS.BOOTERR.CODE : Fld := ⟨0x54, 16, 8⟩
def SYS.BOOTERR.INDEX : Fld := ⟨0x54, 8, 8⟩
/-- SYS.BOOTENT, R528. -/
def SYS.BOOTENT.all : Fld := ⟨0x58, 0, 32⟩
def SYS.BOOTENT.ENTRY : Fld := ⟨0x58, 0, 16⟩
/-- SYS.BOOT_ADDR, R528. -/
def SYS.BOOT_ADDR.all : Fld := ⟨0x60, 0, 64⟩
def SYS.BOOT_ADDR.ADDR : Fld := ⟨0x60, 0, 64⟩
/-- SYS.BOOT_LEN, R528. -/
def SYS.BOOT_LEN.all : Fld := ⟨0x68, 0, 32⟩
def SYS.BOOT_LEN.BYTES : Fld := ⟨0x68, 0, 21⟩
/-- SYS.BOOTCTL, R528. -/
def SYS.BOOTCTL.all : Fld := ⟨0x6C, 0, 32⟩
def SYS.BOOTCTL.GO : Fld := ⟨0x6C, 0, 1⟩
/-- SYS.BOOTDATA, R528. -/
def SYS.BOOTDATA.all : Fld := ⟨0x70, 0, 32⟩
def SYS.BOOTDATA.BYTES : Fld := ⟨0x70, 0, 32⟩
/-- SYS.CFG, R528. -/
def SYS.CFG.all : Fld := ⟨0x74, 0, 32⟩
def SYS.CFG.ALLOW_OPEN : Fld := ⟨0x74, 0, 1⟩
/-- SYS.PSTATE, R42. -/
def SYS.PSTATE.all : Fld := ⟨0x80, 0, 32⟩
def SYS.PSTATE.BLOCKER : Fld := ⟨0x80, 16, 12⟩
def SYS.PSTATE.CAUSE : Fld := ⟨0x80, 12, 4⟩
def SYS.PSTATE.BUSY : Fld := ⟨0x80, 11, 1⟩
def SYS.PSTATE.REJ : Fld := ⟨0x80, 10, 1⟩
def SYS.PSTATE.CUR : Fld := ⟨0x80, 4, 2⟩
def SYS.PSTATE.REQ : Fld := ⟨0x80, 0, 2⟩
/-- SYS.WAKE, R43. -/
def SYS.WAKE.all : Fld := ⟨0x84, 0, 32⟩
def SYS.WAKE.KEEP_ANY : Fld := ⟨0x84, 9, 1⟩
def SYS.WAKE.KEEP_MAIN : Fld := ⟨0x84, 8, 1⟩
def SYS.WAKE.WATCH_BOOK : Fld := ⟨0x84, 1, 1⟩
def SYS.WAKE.WATCH_MGMT : Fld := ⟨0x84, 0, 1⟩
/-- SYS.AERR_LO, R46. -/
def SYS.AERR_LO.all : Fld := ⟨0x88, 0, 32⟩
def SYS.AERR_LO.ADDR_LO : Fld := ⟨0x88, 0, 32⟩
/-- SYS.AERR_HI, R46. -/
def SYS.AERR_HI.all : Fld := ⟨0x8C, 0, 32⟩
def SYS.AERR_HI.VALID : Fld := ⟨0x8C, 31, 1⟩
def SYS.AERR_HI.SOURCE : Fld := ⟨0x8C, 28, 3⟩
def SYS.AERR_HI.ADDR_HI : Fld := ⟨0x8C, 0, 16⟩

/-! Fields of the RESET page. -/

/-- RESET.CAUSE, R529. -/
def RESET.CAUSE.all : Fld := ⟨0x40, 0, 32⟩
def RESET.CAUSE.RAIL : Fld := ⟨0x40, 6, 1⟩
def RESET.CAUSE.CMD : Fld := ⟨0x40, 5, 1⟩
def RESET.CAUSE.WDOG : Fld := ⟨0x40, 4, 1⟩
def RESET.CAUSE.PIN : Fld := ⟨0x40, 3, 1⟩
def RESET.CAUSE.KEEP : Fld := ⟨0x40, 2, 1⟩
def RESET.CAUSE.GUARD_POR : Fld := ⟨0x40, 1, 1⟩
/-- RESET.CMD, R529. -/
def RESET.CMD.all : Fld := ⟨0x44, 0, 32⟩
def RESET.CMD.WORD : Fld := ⟨0x44, 0, 32⟩
/-- RESET.DOMAIN, R529. -/
def RESET.DOMAIN.all : Fld := ⟨0x48, 0, 32⟩
def RESET.DOMAIN.RESET : Fld := ⟨0x48, 0, 18⟩
/-- RESET.WDOG, R529. -/
def RESET.WDOG.all : Fld := ⟨0x4C, 0, 32⟩
def RESET.WDOG.TIME : Fld := ⟨0x4C, 16, 16⟩
def RESET.WDOG.ARM : Fld := ⟨0x4C, 2, 1⟩
def RESET.WDOG.FAULT_FIRST : Fld := ⟨0x4C, 1, 1⟩
def RESET.WDOG.EN : Fld := ⟨0x4C, 0, 1⟩
/-- RESET.KICK, R529. -/
def RESET.KICK.all : Fld := ⟨0x50, 0, 32⟩
def RESET.KICK.WORD : Fld := ⟨0x50, 0, 32⟩
/-- RESET.REMAIN, R529. -/
def RESET.REMAIN.all : Fld := ⟨0x54, 0, 32⟩
def RESET.REMAIN.MS : Fld := ⟨0x54, 0, 16⟩
/-- RESET.CORE_RESETS, R529. -/
def RESET.CORE_RESETS.all : Fld := ⟨0x58, 0, 32⟩
def RESET.CORE_RESETS.COUNT : Fld := ⟨0x58, 0, 32⟩

/-! Fields of the IRQ page. -/

/-- IRQ.PGRP, R68. -/
def IRQ.PGRP.all : Fld := ⟨0x40, 0, 32⟩
def IRQ.PGRP.EN : Fld := ⟨0x40, 3, 1⟩
def IRQ.PGRP.GROUP : Fld := ⟨0x40, 0, 3⟩
/-- IRQ.PEND, R68. -/
def IRQ.PEND.all : Fld := ⟨0xC0, 0, 32⟩
def IRQ.PEND.PEND : Fld := ⟨0xC0, 0, 32⟩
/-- IRQ.GSTS, R68. -/
def IRQ.GSTS.all : Fld := ⟨0xE0, 0, 32⟩
def IRQ.GSTS.GROUP : Fld := ⟨0xE0, 0, 8⟩
/-- IRQ.REARM, R68. -/
def IRQ.REARM.all : Fld := ⟨0xE4, 0, 32⟩
def IRQ.REARM.GROUP : Fld := ⟨0xE4, 0, 8⟩
/-- IRQ.GROUTE, R68. -/
def IRQ.GROUTE.all : Fld := ⟨0xF0, 0, 32⟩
def IRQ.GROUTE.NOTICE_REPEAT : Fld := ⟨0xF0, 16, 8⟩
def IRQ.GROUTE.NOTICE_EN : Fld := ⟨0xF0, 10, 1⟩
def IRQ.GROUTE.PIN_EN : Fld := ⟨0xF0, 9, 1⟩
def IRQ.GROUTE.MSIX_EN : Fld := ⟨0xF0, 8, 1⟩
def IRQ.GROUTE.VECTOR : Fld := ⟨0xF0, 0, 5⟩
/-- IRQ.NDROP, R68. -/
def IRQ.NDROP.all : Fld := ⟨0x110, 0, 32⟩
def IRQ.NDROP.COUNT : Fld := ⟨0x110, 0, 16⟩

/-! Fields of the DATUM page. -/

/-- DATUM.STS, R102. -/
def DATUM.STS.all : Fld := ⟨0x40, 0, 32⟩
def DATUM.STS.STEP_RSN : Fld := ⟨0x40, 8, 4⟩
def DATUM.STS.HO_CAUSE : Fld := ⟨0x40, 4, 4⟩
def DATUM.STS.REF_FAULT : Fld := ⟨0x40, 3, 1⟩
def DATUM.STS.UNLOCKED : Fld := ⟨0x40, 2, 1⟩
def DATUM.STS.HOLDOVER : Fld := ⟨0x40, 1, 1⟩
def DATUM.STS.TVALID : Fld := ⟨0x40, 0, 1⟩
/-- DATUM.CTL, R102. -/
def DATUM.CTL.all : Fld := ⟨0x44, 0, 32⟩
def DATUM.CTL.HOLD_REQ : Fld := ⟨0x44, 1, 1⟩
def DATUM.CTL.RESUME : Fld := ⟨0x44, 0, 1⟩
/-- DATUM.INC, R102. -/
def DATUM.INC.all : Fld := ⟨0x48, 0, 64⟩
def DATUM.INC.INT : Fld := ⟨0x48, 40, 8⟩
def DATUM.INC.FRAC : Fld := ⟨0x48, 0, 40⟩
/-- DATUM.STEP, R102. -/
def DATUM.STEP.all : Fld := ⟨0x50, 0, 64⟩
def DATUM.STEP.VALUE : Fld := ⟨0x50, 0, 64⟩
/-- DATUM.STEP_LIMIT, R102. -/
def DATUM.STEP_LIMIT.all : Fld := ⟨0x58, 0, 32⟩
def DATUM.STEP_LIMIT.LIMIT : Fld := ⟨0x58, 0, 32⟩
/-- DATUM.STEP_UNLOCK, R102. -/
def DATUM.STEP_UNLOCK.all : Fld := ⟨0x5C, 0, 32⟩
def DATUM.STEP_UNLOCK.WORD : Fld := ⟨0x5C, 0, 32⟩
/-- DATUM.NOW, R102. -/
def DATUM.NOW.all : Fld := ⟨0x60, 0, 64⟩
def DATUM.NOW.T : Fld := ⟨0x60, 0, 64⟩
/-- DATUM.RAW, R102. -/
def DATUM.RAW.all : Fld := ⟨0x68, 0, 64⟩
def DATUM.RAW.RAW : Fld := ⟨0x68, 0, 64⟩
/-- DATUM.REFSTEP, R102. -/
def DATUM.REFSTEP.all : Fld := ⟨0x70, 0, 64⟩
def DATUM.REFSTEP.VALUE : Fld := ⟨0x70, 0, 64⟩
/-- DATUM.STEPCNT, R102. -/
def DATUM.STEPCNT.all : Fld := ⟨0x78, 0, 32⟩
def DATUM.STEPCNT.REFUSED : Fld := ⟨0x78, 16, 16⟩
def DATUM.STEPCNT.ACCEPTED : Fld := ⟨0x78, 0, 16⟩
/-- DATUM.INCDROP, R102. -/
def DATUM.INCDROP.all : Fld := ⟨0x7C, 0, 32⟩
def DATUM.INCDROP.COUNT : Fld := ⟨0x7C, 0, 16⟩
/-- DATUM.PPSCTL, R102. -/
def DATUM.PPSCTL.all : Fld := ⟨0x80, 0, 32⟩
def DATUM.PPSCTL.OUT_TVALID : Fld := ⟨0x80, 6, 1⟩
def DATUM.PPSCTL.OUT_POL : Fld := ⟨0x80, 5, 1⟩
def DATUM.PPSCTL.OUT_EN : Fld := ⟨0x80, 4, 1⟩
def DATUM.PPSCTL.IN_POL : Fld := ⟨0x80, 1, 1⟩
def DATUM.PPSCTL.IN_EN : Fld := ⟨0x80, 0, 1⟩
/-- DATUM.PPS_PERIOD, R102. -/
def DATUM.PPS_PERIOD.all : Fld := ⟨0x84, 0, 32⟩
def DATUM.PPS_PERIOD.PERIOD : Fld := ⟨0x84, 0, 32⟩
/-- DATUM.PPS_PHASE, R102. -/
def DATUM.PPS_PHASE.all : Fld := ⟨0x88, 0, 32⟩
def DATUM.PPS_PHASE.PHASE : Fld := ⟨0x88, 0, 32⟩
/-- DATUM.PPS_WIDTH, R102. -/
def DATUM.PPS_WIDTH.all : Fld := ⟨0x8C, 0, 32⟩
def DATUM.PPS_WIDTH.WIDTH : Fld := ⟨0x8C, 0, 32⟩
/-- DATUM.PPS_IN, R102. -/
def DATUM.PPS_IN.all : Fld := ⟨0x90, 0, 64⟩
def DATUM.PPS_IN.T : Fld := ⟨0x90, 0, 64⟩
/-- DATUM.PPS_INCNT, R102. -/
def DATUM.PPS_INCNT.all : Fld := ⟨0x98, 0, 32⟩
def DATUM.PPS_INCNT.COUNT : Fld := ⟨0x98, 0, 32⟩
/-- DATUM.FOLDOVR, R102. -/
def DATUM.FOLDOVR.all : Fld := ⟨0x9C, 0, 32⟩
def DATUM.FOLDOVR.COUNT : Fld := ⟨0x9C, 0, 16⟩

/-! Fields of the STAMP page. -/

/-- STAMP.PTPCFG, R106. -/
def STAMP.PTPCFG.all : Fld := ⟨0x40, 0, 32⟩
def STAMP.PTPCFG.ETYPE : Fld := ⟨0x40, 0, 16⟩
/-- STAMP.TXQ, R106. -/
def STAMP.TXQ.all : Fld := ⟨0x44, 0, 96⟩
def STAMP.TXQ.VALID : Fld := ⟨0x44, 95, 1⟩
def STAMP.TXQ.PORT : Fld := ⟨0x44, 80, 5⟩
def STAMP.TXQ.TAG : Fld := ⟨0x44, 64, 16⟩
def STAMP.TXQ.STAMP : Fld := ⟨0x44, 0, 64⟩
/-- STAMP.TXQSTS, R106. -/
def STAMP.TXQSTS.all : Fld := ⟨0x50, 0, 32⟩
def STAMP.TXQSTS.DEPTH : Fld := ⟨0x50, 0, 5⟩
/-- STAMP.TXQOVF, R106. -/
def STAMP.TXQOVF.all : Fld := ⟨0x54, 0, 32⟩
def STAMP.TXQOVF.COUNT : Fld := ⟨0x54, 0, 32⟩
/-- STAMP.ONESTEP_ERR, R106. -/
def STAMP.ONESTEP_ERR.all : Fld := ⟨0x58, 0, 32⟩
def STAMP.ONESTEP_ERR.COUNT : Fld := ⟨0x58, 0, 16⟩
/-- STAMP.TXQCTL, R106. -/
def STAMP.TXQCTL.all : Fld := ⟨0x5C, 0, 32⟩
def STAMP.TXQCTL.FLUSH : Fld := ⟨0x5C, 0, 1⟩
/-- STAMP.ASYM, R106. -/
def STAMP.ASYM.all : Fld := ⟨0x100, 0, 32⟩
def STAMP.ASYM.ASYM : Fld := ⟨0x100, 0, 32⟩
/-- STAMP.ASYM_LRN, R106. -/
def STAMP.ASYM_LRN.all : Fld := ⟨0x104, 0, 32⟩
def STAMP.ASYM_LRN.ASYM_LRN : Fld := ⟨0x104, 0, 32⟩
/-- STAMP.PDELAY, R106. -/
def STAMP.PDELAY.all : Fld := ⟨0x108, 0, 32⟩
def STAMP.PDELAY.PDELAY : Fld := ⟨0x108, 0, 32⟩
/-- STAMP.LAT, R106. -/
def STAMP.LAT.all : Fld := ⟨0x10C, 0, 32⟩
def STAMP.LAT.EGR_LAT : Fld := ⟨0x10C, 16, 16⟩
def STAMP.LAT.ING_LAT : Fld := ⟨0x10C, 0, 16⟩
/-- STAMP.PCFG, R106. -/
def STAMP.PCFG.all : Fld := ⟨0x110, 0, 32⟩
def STAMP.PCFG.ONESTEP : Fld := ⟨0x110, 2, 1⟩
def STAMP.PCFG.PTP_TXTS : Fld := ⟨0x110, 1, 1⟩
def STAMP.PCFG.STAMP_EN : Fld := ⟨0x110, 0, 1⟩
/-- STAMP.PRSV, R106. -/
def STAMP.PRSV.all : Fld := ⟨0x114, 0, 32⟩
/-- STAMP.TAP, R106. -/
def STAMP.TAP.all : Fld := ⟨0x400, 0, 32⟩
def STAMP.TAP.SKEW : Fld := ⟨0x400, 0, 8⟩

/-! Fields of the MSCL page. -/

/-- MSCL.CFG, R124. -/
def MSCL.CFG.all : Fld := ⟨0x40, 0, 32⟩
def MSCL.CFG.MISS_N : Fld := ⟨0x40, 20, 4⟩
def MSCL.CFG.FILT : Fld := ⟨0x40, 16, 4⟩
def MSCL.CFG.CONFIRM : Fld := ⟨0x40, 12, 4⟩
def MSCL.CFG.PRIO : Fld := ⟨0x40, 8, 3⟩
def MSCL.CFG.GANG_EN : Fld := ⟨0x40, 2, 1⟩
def MSCL.CFG.RING_EN : Fld := ⟨0x40, 1, 1⟩
def MSCL.CFG.AUTO : Fld := ⟨0x40, 0, 1⟩
/-- MSCL.PERIOD, R124. -/
def MSCL.PERIOD.all : Fld := ⟨0x44, 0, 32⟩
def MSCL.PERIOD.PERIOD : Fld := ⟨0x44, 0, 20⟩
/-- MSCL.TIMEOUT, R124. -/
def MSCL.TIMEOUT.all : Fld := ⟨0x48, 0, 32⟩
def MSCL.TIMEOUT.TIMEOUT : Fld := ⟨0x48, 0, 20⟩
/-- MSCL.TH, R124. -/
def MSCL.TH.all : Fld := ⟨0x4C, 0, 32⟩
def MSCL.TH.PD_TH : Fld := ⟨0x4C, 16, 16⟩
def MSCL.TH.STEP_TH : Fld := ⟨0x4C, 0, 16⟩
/-- MSCL.COINC, R124. -/
def MSCL.COINC.all : Fld := ⟨0x50, 0, 32⟩
def MSCL.COINC.MAX_CORR : Fld := ⟨0x50, 16, 16⟩
def MSCL.COINC.COINC_WIN : Fld := ⟨0x50, 0, 16⟩
/-- MSCL.STS, R124. -/
def MSCL.STS.all : Fld := ⟨0x54, 0, 32⟩
def MSCL.STS.HOPS : Fld := ⟨0x54, 16, 8⟩
def MSCL.STS.OPEN_CAUSE : Fld := ⟨0x54, 4, 4⟩
def MSCL.STS.GCLOSED : Fld := ⟨0x54, 3, 1⟩
def MSCL.STS.PD_PEND : Fld := ⟨0x54, 2, 1⟩
def MSCL.STS.STEP_PEND : Fld := ⟨0x54, 1, 1⟩
def MSCL.STS.CLOSED : Fld := ⟨0x54, 0, 1⟩
/-- MSCL.CLOSURE, R124. -/
def MSCL.CLOSURE.all : Fld := ⟨0x58, 0, 32⟩
def MSCL.CLOSURE.CLOSURE : Fld := ⟨0x58, 0, 32⟩
/-- MSCL.CREF, R124. -/
def MSCL.CREF.all : Fld := ⟨0x5C, 0, 32⟩
def MSCL.CREF.CREF : Fld := ⟨0x5C, 0, 32⟩
/-- MSCL.RESID, R124. -/
def MSCL.RESID.all : Fld := ⟨0x60, 0, 32⟩
def MSCL.RESID.RESID : Fld := ⟨0x60, 0, 32⟩
/-- MSCL.LOOP_E, R124. -/
def MSCL.LOOP_E.all : Fld := ⟨0x64, 0, 32⟩
def MSCL.LOOP_E.D_E : Fld := ⟨0x64, 0, 32⟩
/-- MSCL.LOOP_W, R124. -/
def MSCL.LOOP_W.all : Fld := ⟨0x68, 0, 32⟩
def MSCL.LOOP_W.D_W : Fld := ⟨0x68, 0, 32⟩
/-- MSCL.SAMPLES, R124. -/
def MSCL.SAMPLES.all : Fld := ⟨0x6C, 0, 32⟩
def MSCL.SAMPLES.COUNT : Fld := ⟨0x6C, 0, 32⟩
/-- MSCL.LOST, R124. -/
def MSCL.LOST.all : Fld := ⟨0x70, 0, 32⟩
def MSCL.LOST.DISCARDED : Fld := ⟨0x70, 16, 16⟩
def MSCL.LOST.LOST : Fld := ⟨0x70, 0, 16⟩
/-- MSCL.ATTR, R124. -/
def MSCL.ATTR.all : Fld := ⟨0x74, 0, 32⟩
def MSCL.ATTR.FLAGGED : Fld := ⟨0x74, 16, 16⟩
def MSCL.ATTR.APPLIED : Fld := ⟨0x74, 0, 16⟩
/-- MSCL.LAST, R124. -/
def MSCL.LAST.all : Fld := ⟨0x78, 0, 32⟩
def MSCL.LAST.PORT : Fld := ⟨0x78, 16, 5⟩
def MSCL.LAST.FLAGS : Fld := ⟨0x78, 0, 8⟩
/-- MSCL.LAST_DELTA, R124. -/
def MSCL.LAST_DELTA.all : Fld := ⟨0x7C, 0, 32⟩
def MSCL.LAST_DELTA.DELTA : Fld := ⟨0x7C, 0, 32⟩
/-- MSCL.LAST_MEAN, R124. -/
def MSCL.LAST_MEAN.all : Fld := ⟨0x80, 0, 32⟩
def MSCL.LAST_MEAN.MEAN : Fld := ⟨0x80, 0, 32⟩
/-- MSCL.TRI, R124. -/
def MSCL.TRI.all : Fld := ⟨0x90, 0, 32⟩
def MSCL.TRI.CLOSURE : Fld := ⟨0x90, 0, 32⟩
/-- MSCL.TRISTS, R124. -/
def MSCL.TRISTS.all : Fld := ⟨0xA0, 0, 32⟩
def MSCL.TRISTS.VALID : Fld := ⟨0xA0, 0, 4⟩

/-! Fields of the CYCLE page. -/

/-- CYCLE.CFG, R152. -/
def CYCLE.CFG.all : Fld := ⟨0x40, 0, 32⟩
def CYCLE.CFG.PRIO : Fld := ⟨0x40, 4, 3⟩
def CYCLE.CFG.VLAN : Fld := ⟨0x40, 2, 1⟩
def CYCLE.CFG.MACSEC : Fld := ⟨0x40, 1, 1⟩
def CYCLE.CFG.RATE : Fld := ⟨0x40, 0, 1⟩
/-- CYCLE.CYC_LEN, R152. -/
def CYCLE.CYC_LEN.all : Fld := ⟨0x44, 0, 32⟩
def CYCLE.CYC_LEN.LEN : Fld := ⟨0x44, 0, 25⟩
/-- CYCLE.CYC_PHASE, R152. -/
def CYCLE.CYC_PHASE.all : Fld := ⟨0x48, 0, 32⟩
def CYCLE.CYC_PHASE.PHASE : Fld := ⟨0x48, 0, 25⟩
/-- CYCLE.PW_OPEN, R152. -/
def CYCLE.PW_OPEN.all : Fld := ⟨0x4C, 0, 32⟩
def CYCLE.PW_OPEN.OPEN : Fld := ⟨0x4C, 0, 25⟩
/-- CYCLE.PW_LEN, R152. -/
def CYCLE.PW_LEN.all : Fld := ⟨0x50, 0, 32⟩
def CYCLE.PW_LEN.LEN : Fld := ⟨0x50, 0, 25⟩
/-- CYCLE.TRANSIT, R152. -/
def CYCLE.TRANSIT.all : Fld := ⟨0x54, 0, 32⟩
def CYCLE.TRANSIT.TRANSIT : Fld := ⟨0x54, 0, 25⟩
/-- CYCLE.PDA_LO, R152. -/
def CYCLE.PDA_LO.all : Fld := ⟨0x58, 0, 32⟩
def CYCLE.PDA_LO.DA_LO : Fld := ⟨0x58, 0, 32⟩
/-- CYCLE.PDA_HI, R152. -/
def CYCLE.PDA_HI.all : Fld := ⟨0x5C, 0, 32⟩
def CYCLE.PDA_HI.DA_HI : Fld := ⟨0x5C, 0, 16⟩
/-- CYCLE.CTL, R152. -/
def CYCLE.CTL.all : Fld := ⟨0x60, 0, 32⟩
def CYCLE.CTL.REJOIN : Fld := ⟨0x60, 0, 1⟩
/-- CYCLE.STS, R152. -/
def CYCLE.STS.all : Fld := ⟨0x64, 0, 32⟩
def CYCLE.STS.NOMAJ : Fld := ⟨0x64, 2, 1⟩
def CYCLE.STS.DISAGREE : Fld := ⟨0x64, 1, 1⟩
def CYCLE.STS.PUBLISH : Fld := ⟨0x64, 0, 1⟩
/-- CYCLE.NOW_CYC, R152. -/
def CYCLE.NOW_CYC.all : Fld := ⟨0x68, 0, 32⟩
def CYCLE.NOW_CYC.CYCLE : Fld := ⟨0x68, 0, 32⟩
/-- CYCLE.SCHED_DIG, R152. -/
def CYCLE.SCHED_DIG.all : Fld := ⟨0x6C, 0, 32⟩
def CYCLE.SCHED_DIG.DIGEST : Fld := ⟨0x6C, 0, 32⟩
/-- CYCLE.MAJ_DIG, R152. -/
def CYCLE.MAJ_DIG.all : Fld := ⟨0x70, 0, 32⟩
def CYCLE.MAJ_DIG.DIGEST : Fld := ⟨0x70, 0, 32⟩
/-- CYCLE.VOTE, R152. -/
def CYCLE.VOTE.all : Fld := ⟨0x74, 0, 32⟩
def CYCLE.VOTE.AGAINST : Fld := ⟨0x74, 8, 8⟩
def CYCLE.VOTE.FOR : Fld := ⟨0x74, 0, 8⟩
/-- CYCLE.SKIPPED, R152. -/
def CYCLE.SKIPPED.all : Fld := ⟨0x78, 0, 32⟩
def CYCLE.SKIPPED.COUNT : Fld := ⟨0x78, 0, 16⟩
/-- CYCLE.WIRE, R152. -/
def CYCLE.WIRE.all : Fld := ⟨0x7C, 0, 32⟩
def CYCLE.WIRE.WIRE : Fld := ⟨0x7C, 0, 25⟩
/-- CYCLE.SLOT_A, R152. -/
def CYCLE.SLOT_A.all : Fld := ⟨0x800, 0, 32⟩
def CYCLE.SLOT_A.OFS : Fld := ⟨0x800, 20, 12⟩
def CYCLE.SLOT_A.LEN : Fld := ⟨0x800, 11, 9⟩
def CYCLE.SLOT_A.OUT_LEN : Fld := ⟨0x800, 2, 9⟩
/-- CYCLE.SLOT_B, R152. -/
def CYCLE.SLOT_B.all : Fld := ⟨0x804, 0, 32⟩
def CYCLE.SLOT_B.START : Fld := ⟨0x804, 0, 25⟩
/-- CYCLE.SLOT_C, R152. -/
def CYCLE.SLOT_C.all : Fld := ⟨0x808, 0, 32⟩
def CYCLE.SLOT_C.SLEN : Fld := ⟨0x808, 0, 25⟩
/-- CYCLE.SLOT_D, R152. -/
def CYCLE.SLOT_D.all : Fld := ⟨0x80C, 0, 32⟩

/-! Fields of the PLAT page. -/

/-- PLAT.CFG, R156. -/
def PLAT.CFG.all : Fld := ⟨0x40, 0, 32⟩
def PLAT.CFG.STALE : Fld := ⟨0x40, 12, 4⟩
def PLAT.CFG.VIEW : Fld := ⟨0x40, 8, 1⟩
/-- PLAT.FREEZE_LEAD, R156. -/
def PLAT.FREEZE_LEAD.all : Fld := ⟨0x44, 0, 32⟩
def PLAT.FREEZE_LEAD.LEAD : Fld := ⟨0x44, 0, 25⟩
/-- PLAT.VIEW_AT, R156. -/
def PLAT.VIEW_AT.all : Fld := ⟨0x48, 0, 32⟩
def PLAT.VIEW_AT.AT : Fld := ⟨0x48, 0, 25⟩
/-- PLAT.MINLEAD, R156. -/
def PLAT.MINLEAD.all : Fld := ⟨0x4C, 0, 32⟩
def PLAT.MINLEAD.MIN : Fld := ⟨0x4C, 0, 25⟩
/-- PLAT.OWN_CYC, R156. -/
def PLAT.OWN_CYC.all : Fld := ⟨0x50, 0, 32⟩
def PLAT.OWN_CYC.CYCLE : Fld := ⟨0x50, 0, 32⟩
/-- PLAT.STALE, R156. -/
def PLAT.STALE.all : Fld := ⟨0x60, 0, 32⟩
def PLAT.STALE.MAP : Fld := ⟨0x60, 0, 32⟩
/-- PLAT.VALID, R156. -/
def PLAT.VALID.all : Fld := ⟨0x70, 0, 32⟩
def PLAT.VALID.MAP : Fld := ⟨0x70, 0, 32⟩
/-- PLAT.DIGMIS, R156. -/
def PLAT.DIGMIS.all : Fld := ⟨0x80, 0, 32⟩
def PLAT.DIGMIS.COUNT : Fld := ⟨0x80, 0, 32⟩
/-- PLAT.LATEFRM, R156. -/
def PLAT.LATEFRM.all : Fld := ⟨0x84, 0, 32⟩
def PLAT.LATEFRM.COUNT : Fld := ⟨0x84, 0, 32⟩
/-- PLAT.FMTERR, R156. -/
def PLAT.FMTERR.all : Fld := ⟨0x88, 0, 32⟩
def PLAT.FMTERR.COUNT : Fld := ⟨0x88, 0, 32⟩
/-- PLAT.INCOMPLETE, R156. -/
def PLAT.INCOMPLETE.all : Fld := ⟨0x8C, 0, 32⟩
def PLAT.INCOMPLETE.COUNT : Fld := ⟨0x8C, 0, 32⟩
/-- PLAT.SLOTMISS, R156. -/
def PLAT.SLOTMISS.all : Fld := ⟨0x90, 0, 32⟩
def PLAT.SLOTMISS.COUNT : Fld := ⟨0x90, 0, 32⟩
/-- PLAT.VIEWDROP, R156. -/
def PLAT.VIEWDROP.all : Fld := ⟨0x94, 0, 32⟩
def PLAT.VIEWDROP.COUNT : Fld := ⟨0x94, 0, 32⟩
/-- PLAT.FEED_A, R156. -/
def PLAT.FEED_A.all : Fld := ⟨0x400, 0, 32⟩
def PLAT.FEED_A.TYPE : Fld := ⟨0x400, 28, 4⟩
def PLAT.FEED_A.MEMBER : Fld := ⟨0x400, 26, 2⟩
def PLAT.FEED_A.SRC : Fld := ⟨0x400, 0, 26⟩
/-- PLAT.FEED_B, R156. -/
def PLAT.FEED_B.all : Fld := ⟨0x404, 0, 32⟩
def PLAT.FEED_B.OFS : Fld := ⟨0x404, 11, 11⟩
def PLAT.FEED_B.LEN : Fld := ⟨0x404, 0, 11⟩

/-! Fields of the STAKE page. -/

/-- STAKE.CFG, R183. -/
def STAKE.CFG.all : Fld := ⟨0x40, 0, 32⟩
def STAKE.CFG.PRIO : Fld := ⟨0x40, 2, 3⟩
def STAKE.CFG.BCAST : Fld := ⟨0x40, 1, 1⟩
def STAKE.CFG.LOG_REL : Fld := ⟨0x40, 0, 1⟩
/-- STAKE.LATE_TOL, R183. -/
def STAKE.LATE_TOL.all : Fld := ⟨0x44, 0, 32⟩
def STAKE.LATE_TOL.TOL : Fld := ⟨0x44, 0, 25⟩
/-- STAKE.HORIZON, R183. -/
def STAKE.HORIZON.all : Fld := ⟨0x48, 0, 32⟩
def STAKE.HORIZON.HORIZON : Fld := ⟨0x48, 0, 24⟩
/-- STAKE.MIN_LEAD, R183. -/
def STAKE.MIN_LEAD.all : Fld := ⟨0x4C, 0, 32⟩
def STAKE.MIN_LEAD.LEAD : Fld := ⟨0x4C, 0, 25⟩
/-- STAKE.SDA_LO, R183. -/
def STAKE.SDA_LO.all : Fld := ⟨0x50, 0, 32⟩
def STAKE.SDA_LO.DA_LO : Fld := ⟨0x50, 0, 32⟩
/-- STAKE.SDA_HI, R183. -/
def STAKE.SDA_HI.all : Fld := ⟨0x54, 0, 32⟩
def STAKE.SDA_HI.DA_HI : Fld := ⟨0x54, 0, 16⟩
/-- STAKE.ISSUE, R183. -/
def STAKE.ISSUE.all : Fld := ⟨0x60, 0, 32⟩
def STAKE.ISSUE.BYTES : Fld := ⟨0x60, 0, 32⟩
/-- STAKE.ISSUESTS, R183. -/
def STAKE.ISSUESTS.all : Fld := ⟨0x80, 0, 32⟩
def STAKE.ISSUESTS.DEPTH : Fld := ⟨0x80, 0, 5⟩
/-- STAKE.QSTS, R183. -/
def STAKE.QSTS.all : Fld := ⟨0x84, 0, 32⟩
def STAKE.QSTS.HWM : Fld := ⟨0x84, 16, 9⟩
def STAKE.QSTS.DEPTH : Fld := ⟨0x84, 0, 9⟩
/-- STAKE.NEXT_REL, R183. -/
def STAKE.NEXT_REL.all : Fld := ⟨0x88, 0, 64⟩
def STAKE.NEXT_REL.T : Fld := ⟨0x88, 0, 64⟩
/-- STAKE.RCPT0, R183. -/
def STAKE.RCPT0.all : Fld := ⟨0xA0, 0, 32⟩
def STAKE.RCPT0.VALID : Fld := ⟨0xA0, 31, 1⟩
def STAKE.RCPT0.FROM_NODE : Fld := ⟨0xA0, 24, 7⟩
def STAKE.RCPT0.FROM_MEMBER : Fld := ⟨0xA0, 22, 2⟩
def STAKE.RCPT0.STAKE_ID : Fld := ⟨0xA0, 0, 16⟩
/-- STAKE.RCPT1, R183. -/
def STAKE.RCPT1.all : Fld := ⟨0xA4, 0, 32⟩
def STAKE.RCPT1.OUTCOME : Fld := ⟨0xA4, 24, 8⟩
def STAKE.RCPT1.FLAGS : Fld := ⟨0xA4, 16, 8⟩
def STAKE.RCPT1.DEPTH : Fld := ⟨0xA4, 0, 16⟩
/-- STAKE.RCPT2, R183. -/
def STAKE.RCPT2.all : Fld := ⟨0xA8, 0, 64⟩
def STAKE.RCPT2.T_REL : Fld := ⟨0xA8, 0, 64⟩
/-- STAKE.RCPT4, R183. -/
def STAKE.RCPT4.all : Fld := ⟨0xB0, 0, 64⟩
def STAKE.RCPT4.T_EXEC : Fld := ⟨0xB0, 0, 64⟩
/-- STAKE.RCPT6, R183. -/
def STAKE.RCPT6.all : Fld := ⟨0xB8, 0, 32⟩
/-- STAKE.RCPTSTS, R183. -/
def STAKE.RCPTSTS.all : Fld := ⟨0xC0, 0, 32⟩
def STAKE.RCPTSTS.DEPTH : Fld := ⟨0xC0, 0, 6⟩
/-- STAKE.RELEASED, R183. -/
def STAKE.RELEASED.all : Fld := ⟨0xC4, 0, 32⟩
def STAKE.RELEASED.COUNT : Fld := ⟨0xC4, 0, 32⟩
/-- STAKE.LATE, R183. -/
def STAKE.LATE.all : Fld := ⟨0xC8, 0, 32⟩
def STAKE.LATE.COUNT : Fld := ⟨0xC8, 0, 32⟩
/-- STAKE.MISSED, R183. -/
def STAKE.MISSED.all : Fld := ⟨0xCC, 0, 32⟩
def STAKE.MISSED.COUNT : Fld := ⟨0xCC, 0, 32⟩
/-- STAKE.REJECTED, R183. -/
def STAKE.REJECTED.all : Fld := ⟨0xD0, 0, 32⟩
def STAKE.REJECTED.COUNT : Fld := ⟨0xD0, 0, 32⟩
/-- STAKE.BCAST_SKIP, R183. -/
def STAKE.BCAST_SKIP.all : Fld := ⟨0xD4, 0, 32⟩
def STAKE.BCAST_SKIP.COUNT : Fld := ⟨0xD4, 0, 32⟩
/-- STAKE.RCPTOVF, R183. -/
def STAKE.RCPTOVF.all : Fld := ⟨0xD8, 0, 32⟩
def STAKE.RCPTOVF.COUNT : Fld := ⟨0xD8, 0, 32⟩
/-- STAKE.SHORTLEAD, R183. -/
def STAKE.SHORTLEAD.all : Fld := ⟨0xDC, 0, 32⟩
def STAKE.SHORTLEAD.COUNT : Fld := ⟨0xDC, 0, 32⟩
/-- STAKE.ISSUEDROP, R183. -/
def STAKE.ISSUEDROP.all : Fld := ⟨0xE0, 0, 32⟩
def STAKE.ISSUEDROP.COUNT : Fld := ⟨0xE0, 0, 32⟩
/-- STAKE.CANCEL, R183. -/
def STAKE.CANCEL.all : Fld := ⟨0xE4, 0, 32⟩
def STAKE.CANCEL.SRC_MEMBER : Fld := ⟨0xE4, 23, 2⟩
def STAKE.CANCEL.SRC_NODE : Fld := ⟨0xE4, 16, 7⟩
def STAKE.CANCEL.STAKE_ID : Fld := ⟨0xE4, 0, 16⟩

/-! Fields of the CREW page. -/

/-- CREW.SWAP, R213. -/
def CREW.SWAP.all : Fld := ⟨0x40, 0, 32⟩
def CREW.SWAP.ABORT_WAIT : Fld := ⟨0x40, 1, 1⟩
def CREW.SWAP.GO : Fld := ⟨0x40, 0, 1⟩
/-- CREW.STS, R213. -/
def CREW.STS.all : Fld := ⟨0x44, 0, 32⟩
def CREW.STS.STALLED : Fld := ⟨0x44, 12, 4⟩
def CREW.STS.MOVED : Fld := ⟨0x44, 8, 4⟩
def CREW.STS.RUNNING : Fld := ⟨0x44, 4, 4⟩
def CREW.STS.BUSY : Fld := ⟨0x44, 1, 1⟩
def CREW.STS.ACTIVE : Fld := ⟨0x44, 0, 1⟩
/-- CREW.GO_ENG, R213. -/
def CREW.GO_ENG.all : Fld := ⟨0x48, 0, 32⟩
def CREW.GO_ENG.MASK : Fld := ⟨0x48, 0, 4⟩
/-- CREW.FLAGS, R213. -/
def CREW.FLAGS.all : Fld := ⟨0x4C, 0, 32⟩
def CREW.FLAGS.FLAG : Fld := ⟨0x4C, 0, 8⟩
/-- CREW.FLAGSET, R213. -/
def CREW.FLAGSET.all : Fld := ⟨0x50, 0, 32⟩
def CREW.FLAGSET.FLAG : Fld := ⟨0x50, 0, 8⟩
/-- CREW.ENTRY0, R213. -/
def CREW.ENTRY0.all : Fld := ⟨0x60, 0, 32⟩
def CREW.ENTRY0.ENG : Fld := ⟨0x60, 0, 7⟩
/-- CREW.ENTRY1, R213. -/
def CREW.ENTRY1.all : Fld := ⟨0x64, 0, 32⟩
def CREW.ENTRY1.ENG : Fld := ⟨0x64, 0, 7⟩
/-- CREW.IDLE_OWN, R213. -/
def CREW.IDLE_OWN.all : Fld := ⟨0x70, 0, 32⟩
def CREW.IDLE_OWN.MASK : Fld := ⟨0x70, 0, 32⟩
/-- CREW.ABANDONED, R213. -/
def CREW.ABANDONED.all : Fld := ⟨0x80, 0, 32⟩
def CREW.ABANDONED.COUNT : Fld := ⟨0x80, 0, 32⟩
/-- CREW.SWAPCNT, R213. -/
def CREW.SWAPCNT.all : Fld := ⟨0x84, 0, 32⟩
def CREW.SWAPCNT.COUNT : Fld := ⟨0x84, 0, 32⟩
/-- CREW.IMEM_DROP, R213. -/
def CREW.IMEM_DROP.all : Fld := ⟨0x88, 0, 32⟩
def CREW.IMEM_DROP.COUNT : Fld := ⟨0x88, 0, 32⟩
/-- CREW.IMEM, R213. -/
def CREW.IMEM.all : Fld := ⟨0x800, 0, 32⟩
def CREW.IMEM.WORD : Fld := ⟨0x800, 0, 32⟩

/-! Fields of the ENG page. -/

/-- ENG.CFG, R217. -/
def ENG.CFG.all : Fld := ⟨0x40, 0, 32⟩
def ENG.CFG.OSR_LEN : Fld := ⟨0x40, 27, 5⟩
def ENG.CFG.ISR_LEN : Fld := ⟨0x40, 22, 5⟩
def ENG.CFG.OREFILL : Fld := ⟨0x40, 21, 1⟩
def ENG.CFG.IFLUSH : Fld := ⟨0x40, 20, 1⟩
def ENG.CFG.OUT_RIGHT : Fld := ⟨0x40, 19, 1⟩
def ENG.CFG.IN_RIGHT : Fld := ⟨0x40, 18, 1⟩
def ENG.CFG.JOIN : Fld := ⟨0x40, 16, 2⟩
def ENG.CFG.PLAT_MODE : Fld := ⟨0x40, 14, 2⟩
def ENG.CFG.DIVSYNC : Fld := ⟨0x40, 13, 1⟩
/-- ENG.PINS, R217. -/
def ENG.PINS.all : Fld := ⟨0x44, 0, 32⟩
def ENG.PINS.IN_BASE : Fld := ⟨0x44, 27, 5⟩
def ENG.PINS.EDGE_COUNT : Fld := ⟨0x44, 24, 3⟩
def ENG.PINS.EDGE_BASE : Fld := ⟨0x44, 19, 5⟩
def ENG.PINS.SET_COUNT : Fld := ⟨0x44, 16, 3⟩
def ENG.PINS.SET_BASE : Fld := ⟨0x44, 11, 5⟩
def ENG.PINS.OUT_COUNT : Fld := ⟨0x44, 5, 6⟩
def ENG.PINS.OUT_BASE : Fld := ⟨0x44, 0, 5⟩
/-- ENG.INIT_LVL, R217. -/
def ENG.INIT_LVL.all : Fld := ⟨0x48, 0, 32⟩
def ENG.INIT_LVL.LVL : Fld := ⟨0x48, 0, 32⟩
/-- ENG.INIT_OE, R217. -/
def ENG.INIT_OE.all : Fld := ⟨0x4C, 0, 32⟩
def ENG.INIT_OE.OE : Fld := ⟨0x4C, 0, 32⟩
/-- ENG.DIV, R217. -/
def ENG.DIV.all : Fld := ⟨0x50, 0, 32⟩
def ENG.DIV.INT : Fld := ⟨0x50, 8, 16⟩
def ENG.DIV.FRAC : Fld := ⟨0x50, 0, 8⟩
/-- ENG.STS, R217. -/
def ENG.STS.all : Fld := ⟨0x54, 0, 32⟩
def ENG.STS.PHASE : Fld := ⟨0x54, 21, 4⟩
def ENG.STS.RXLVL : Fld := ⟨0x54, 17, 4⟩
def ENG.STS.TXLVL : Fld := ⟨0x54, 13, 4⟩
def ENG.STS.WAITK : Fld := ⟨0x54, 11, 2⟩
def ENG.STS.STALL_PUSH : Fld := ⟨0x54, 10, 1⟩
def ENG.STS.PC : Fld := ⟨0x54, 0, 8⟩
/-- ENG.X, R217. -/
def ENG.X.all : Fld := ⟨0x58, 0, 32⟩
def ENG.X.X : Fld := ⟨0x58, 0, 32⟩
/-- ENG.Y, R217. -/
def ENG.Y.all : Fld := ⟨0x5C, 0, 32⟩
def ENG.Y.Y : Fld := ⟨0x5C, 0, 32⟩
/-- ENG.OSR, R217. -/
def ENG.OSR.all : Fld := ⟨0x60, 0, 32⟩
def ENG.OSR.OSR : Fld := ⟨0x60, 0, 32⟩
/-- ENG.ISR, R217. -/
def ENG.ISR.all : Fld := ⟨0x64, 0, 32⟩
def ENG.ISR.ISR : Fld := ⟨0x64, 0, 32⟩
/-- ENG.CNT, R217. -/
def ENG.CNT.all : Fld := ⟨0x68, 0, 32⟩
def ENG.CNT.ISC : Fld := ⟨0x68, 8, 6⟩
def ENG.CNT.OSC : Fld := ⟨0x68, 0, 6⟩
/-- ENG.JUMP, R217. -/
def ENG.JUMP.all : Fld := ⟨0x6C, 0, 32⟩
def ENG.JUMP.WORD : Fld := ⟨0x6C, 0, 7⟩
/-- ENG.SNAP, R217. -/
def ENG.SNAP.all : Fld := ⟨0x70, 0, 32⟩
def ENG.SNAP.GO : Fld := ⟨0x70, 0, 1⟩
/-- ENG.TXF, R217. -/
def ENG.TXF.all : Fld := ⟨0x74, 0, 32⟩
def ENG.TXF.WORD : Fld := ⟨0x74, 0, 32⟩
/-- ENG.RXF, R217. -/
def ENG.RXF.all : Fld := ⟨0x78, 0, 32⟩
def ENG.RXF.WORD : Fld := ⟨0x78, 0, 32⟩
/-- ENG.PLATL, R217. -/
def ENG.PLATL.all : Fld := ⟨0x7C, 0, 32⟩
def ENG.PLATL.LATCH : Fld := ⟨0x7C, 0, 32⟩
/-- ENG.STALLS, R217. -/
def ENG.STALLS.all : Fld := ⟨0x80, 0, 32⟩
def ENG.STALLS.COUNT : Fld := ⟨0x80, 0, 32⟩
/-- ENG.STALL_MAX, R217. -/
def ENG.STALL_MAX.all : Fld := ⟨0x84, 0, 32⟩
def ENG.STALL_MAX.TICKS : Fld := ⟨0x84, 0, 32⟩
/-- ENG.STALL_LAST, R217. -/
def ENG.STALL_LAST.all : Fld := ⟨0x88, 0, 32⟩
def ENG.STALL_LAST.TICKS : Fld := ⟨0x88, 0, 32⟩
/-- ENG.DROP, R217. -/
def ENG.DROP.all : Fld := ⟨0x8C, 0, 32⟩
def ENG.DROP.RXDROP : Fld := ⟨0x8C, 16, 16⟩
def ENG.DROP.TXDROP : Fld := ⟨0x8C, 0, 16⟩
/-- ENG.STALL_TH, R217. -/
def ENG.STALL_TH.all : Fld := ⟨0x90, 0, 32⟩
def ENG.STALL_TH.TICKS : Fld := ⟨0x90, 0, 32⟩

/-! Fields of the PINMUX page. -/

/-- PINMUX.BANKCFG, R222. -/
def PINMUX.BANKCFG.all : Fld := ⟨0x40, 0, 32⟩
def PINMUX.BANKCFG.VSEL_HI : Fld := ⟨0x40, 1, 1⟩
def PINMUX.BANKCFG.VSEL_LO : Fld := ⟨0x40, 0, 1⟩
/-- PINMUX.VDDSTS, R222. -/
def PINMUX.VDDSTS.all : Fld := ⟨0x44, 0, 32⟩
def PINMUX.VDDSTS.PRESENT : Fld := ⟨0x44, 2, 2⟩
def PINMUX.VDDSTS.SENSE : Fld := ⟨0x44, 0, 2⟩
/-- PINMUX.SWDATA, R222. -/
def PINMUX.SWDATA.all : Fld := ⟨0x48, 0, 32⟩
def PINMUX.SWDATA.LVL : Fld := ⟨0x48, 0, 32⟩
/-- PINMUX.SWOE, R222. -/
def PINMUX.SWOE.all : Fld := ⟨0x50, 0, 32⟩
def PINMUX.SWOE.OE : Fld := ⟨0x50, 0, 32⟩
/-- PINMUX.LVL, R222. -/
def PINMUX.LVL.all : Fld := ⟨0x58, 0, 32⟩
def PINMUX.LVL.LVL : Fld := ⟨0x58, 0, 32⟩
/-- PINMUX.PIN, R222. -/
def PINMUX.PIN.all : Fld := ⟨0x100, 0, 32⟩
def PINMUX.PIN.HYST : Fld := ⟨0x100, 17, 1⟩
def PINMUX.PIN.OD : Fld := ⟨0x100, 16, 1⟩
def PINMUX.PIN.PULL : Fld := ⟨0x100, 14, 2⟩
def PINMUX.PIN.DRV : Fld := ⟨0x100, 12, 2⟩
def PINMUX.PIN.SEL : Fld := ⟨0x100, 8, 4⟩
def PINMUX.PIN.FUNC : Fld := ⟨0x100, 0, 4⟩

/-! Fields of the BOOK page. -/

/-- BOOK.CFG, R275. -/
def BOOK.CFG.all : Fld := ⟨0x40, 0, 32⟩
def BOOK.CFG.RESERVE : Fld := ⟨0x40, 16, 12⟩
def BOOK.CFG.PROT_RING : Fld := ⟨0x40, 2, 1⟩
def BOOK.CFG.PROT_TWIN : Fld := ⟨0x40, 1, 1⟩
def BOOK.CFG.PROT_DMA : Fld := ⟨0x40, 0, 1⟩
/-- BOOK.WR_SEQ, R275. -/
def BOOK.WR_SEQ.all : Fld := ⟨0x44, 0, 32⟩
def BOOK.WR_SEQ.SEQ : Fld := ⟨0x44, 0, 32⟩
/-- BOOK.OLDEST, R275. -/
def BOOK.OLDEST.all : Fld := ⟨0x48, 0, 32⟩
def BOOK.OLDEST.SEQ : Fld := ⟨0x48, 0, 32⟩
/-- BOOK.FILL, R275. -/
def BOOK.FILL.all : Fld := ⟨0x4C, 0, 32⟩
def BOOK.FILL.FILL : Fld := ⟨0x4C, 0, 16⟩
/-- BOOK.DMA_CTL, R275. -/
def BOOK.DMA_CTL.all : Fld := ⟨0x50, 0, 32⟩
def BOOK.DMA_CTL.SIZE : Fld := ⟨0x50, 3, 5⟩
def BOOK.DMA_CTL.DMA_EN : Fld := ⟨0x50, 0, 1⟩
/-- BOOK.DMA_BASE, R275. -/
def BOOK.DMA_BASE.all : Fld := ⟨0x54, 0, 64⟩
def BOOK.DMA_BASE.ADDR : Fld := ⟨0x54, 0, 64⟩
/-- BOOK.DMA_WRPTR, R275. -/
def BOOK.DMA_WRPTR.all : Fld := ⟨0x5C, 0, 64⟩
def BOOK.DMA_WRPTR.ADDR : Fld := ⟨0x5C, 0, 64⟩
/-- BOOK.DMA_HOSTRD, R275. -/
def BOOK.DMA_HOSTRD.all : Fld := ⟨0x64, 0, 32⟩
def BOOK.DMA_HOSTRD.SEQ : Fld := ⟨0x64, 0, 32⟩
/-- BOOK.DMA_SEQ, R275. -/
def BOOK.DMA_SEQ.all : Fld := ⟨0x68, 0, 32⟩
def BOOK.DMA_SEQ.SEQ : Fld := ⟨0x68, 0, 32⟩
/-- BOOK.RING_CTL, R275. -/
def BOOK.RING_CTL.all : Fld := ⟨0x6C, 0, 32⟩
def BOOK.RING_CTL.MAXAGE : Fld := ⟨0x6C, 16, 16⟩
def BOOK.RING_CTL.BATCH : Fld := ⟨0x6C, 8, 8⟩
def BOOK.RING_CTL.PRIO : Fld := ⟨0x6C, 5, 3⟩
def BOOK.RING_CTL.RING_EN : Fld := ⟨0x6C, 0, 1⟩
/-- BOOK.BDA_LO, R275. -/
def BOOK.BDA_LO.all : Fld := ⟨0x70, 0, 32⟩
def BOOK.BDA_LO.DA_LO : Fld := ⟨0x70, 0, 32⟩
/-- BOOK.BDA_HI, R275. -/
def BOOK.BDA_HI.all : Fld := ⟨0x74, 0, 32⟩
def BOOK.BDA_HI.DA_HI : Fld := ⟨0x74, 0, 16⟩
/-- BOOK.RING_SEQ, R275. -/
def BOOK.RING_SEQ.all : Fld := ⟨0x78, 0, 32⟩
def BOOK.RING_SEQ.SEQ : Fld := ⟨0x78, 0, 32⟩
/-- BOOK.TWIN_SEQ, R275. -/
def BOOK.TWIN_SEQ.all : Fld := ⟨0x7C, 0, 32⟩
def BOOK.TWIN_SEQ.SEQ : Fld := ⟨0x7C, 0, 32⟩
/-- BOOK.DISCARD, R275. -/
def BOOK.DISCARD.all : Fld := ⟨0x80, 0, 32⟩
def BOOK.DISCARD.COUNT : Fld := ⟨0x80, 0, 32⟩
/-- BOOK.DISCARD_SYS, R275. -/
def BOOK.DISCARD_SYS.all : Fld := ⟨0x84, 0, 32⟩
def BOOK.DISCARD_SYS.COUNT : Fld := ⟨0x84, 0, 32⟩
/-- BOOK.LAPPED, R275. -/
def BOOK.LAPPED.all : Fld := ⟨0x88, 0, 32⟩
def BOOK.LAPPED.COUNT : Fld := ⟨0x88, 0, 32⟩
/-- BOOK.FRAMES, R275. -/
def BOOK.FRAMES.all : Fld := ⟨0x8C, 0, 32⟩
def BOOK.FRAMES.COUNT : Fld := ⟨0x8C, 0, 32⟩
/-- BOOK.SHADOW, R275. -/
def BOOK.SHADOW.all : Fld := ⟨0x90, 0, 32⟩
def BOOK.SHADOW.DEPTH : Fld := ⟨0x90, 16, 9⟩
def BOOK.SHADOW.DROP : Fld := ⟨0x90, 0, 16⟩

/-! Fields of the EDGE page. -/

/-- EDGE.FILT, R271. -/
def EDGE.FILT.all : Fld := ⟨0x40, 0, 32⟩
def EDGE.FILT.DEBOUNCE : Fld := ⟨0x40, 16, 16⟩
def EDGE.FILT.GLITCH : Fld := ⟨0x40, 0, 16⟩
/-- EDGE.CHAT, R271. -/
def EDGE.CHAT.all : Fld := ⟨0x44, 0, 32⟩
def EDGE.CHAT.N : Fld := ⟨0x44, 24, 8⟩
def EDGE.CHAT.W : Fld := ⟨0x44, 0, 24⟩
/-- EDGE.QUIET, R271. -/
def EDGE.QUIET.all : Fld := ⟨0x48, 0, 32⟩
def EDGE.QUIET.Q : Fld := ⟨0x48, 0, 24⟩
/-- EDGE.STUCK, R271. -/
def EDGE.STUCK.all : Fld := ⟨0x4C, 0, 32⟩
def EDGE.STUCK.TIME : Fld := ⟨0x4C, 0, 32⟩
/-- EDGE.GLITCHES, R271. -/
def EDGE.GLITCHES.all : Fld := ⟨0xC0, 0, 32⟩
def EDGE.GLITCHES.COUNT : Fld := ⟨0xC0, 0, 32⟩
/-- EDGE.BOUNCES, R271. -/
def EDGE.BOUNCES.all : Fld := ⟨0xC4, 0, 32⟩
def EDGE.BOUNCES.COUNT : Fld := ⟨0xC4, 0, 32⟩
/-- EDGE.MERGES, R271. -/
def EDGE.MERGES.all : Fld := ⟨0xC8, 0, 32⟩
def EDGE.MERGES.COUNT : Fld := ⟨0xC8, 0, 32⟩
/-- EDGE.DROPS, R271. -/
def EDGE.DROPS.all : Fld := ⟨0xCC, 0, 32⟩
def EDGE.DROPS.COUNT : Fld := ⟨0xCC, 0, 32⟩
/-- EDGE.CHATTER, R271. -/
def EDGE.CHATTER.all : Fld := ⟨0xD0, 0, 32⟩
def EDGE.CHATTER.MAP : Fld := ⟨0xD0, 0, 32⟩
/-- EDGE.STUCKMAP, R271. -/
def EDGE.STUCKMAP.all : Fld := ⟨0xD8, 0, 32⟩
def EDGE.STUCKMAP.MAP : Fld := ⟨0xD8, 0, 32⟩
/-- EDGE.FLVL, R271. -/
def EDGE.FLVL.all : Fld := ⟨0xE0, 0, 32⟩
def EDGE.FLVL.MAP : Fld := ⟨0xE0, 0, 32⟩
/-- EDGE.PIN, R271. -/
def EDGE.PIN.all : Fld := ⟨0x100, 0, 32⟩
def EDGE.PIN.PROFILE : Fld := ⟨0x100, 9, 3⟩
def EDGE.PIN.STUCK_LVL : Fld := ⟨0x100, 7, 2⟩
def EDGE.PIN.EDGES : Fld := ⟨0x100, 5, 2⟩
def EDGE.PIN.EN : Fld := ⟨0x100, 0, 1⟩

/-! Fields of the CAN page. -/

/-- CAN.CFG, R304. -/
def CAN.CFG.all : Fld := ⟨0x40, 0, 32⟩
def CAN.CFG.TDC_EN : Fld := ⟨0x40, 4, 1⟩
def CAN.CFG.MONITOR : Fld := ⟨0x40, 3, 1⟩
def CAN.CFG.ABORT_ON_BUSOFF : Fld := ⟨0x40, 2, 1⟩
def CAN.CFG.TXPRIO : Fld := ⟨0x40, 1, 1⟩
def CAN.CFG.FD_EN : Fld := ⟨0x40, 0, 1⟩
/-- CAN.NBT, R304. -/
def CAN.NBT.all : Fld := ⟨0x44, 0, 32⟩
def CAN.NBT.SJW : Fld := ⟨0x44, 25, 7⟩
def CAN.NBT.TSEG1 : Fld := ⟨0x44, 17, 8⟩
def CAN.NBT.TSEG2 : Fld := ⟨0x44, 10, 7⟩
def CAN.NBT.BRP : Fld := ⟨0x44, 0, 8⟩
/-- CAN.DBT, R304. -/
def CAN.DBT.all : Fld := ⟨0x48, 0, 32⟩
def CAN.DBT.SJW : Fld := ⟨0x48, 25, 4⟩
def CAN.DBT.TSEG1 : Fld := ⟨0x48, 20, 5⟩
def CAN.DBT.TSEG2 : Fld := ⟨0x48, 16, 4⟩
def CAN.DBT.BRP : Fld := ⟨0x48, 0, 5⟩
/-- CAN.TDC, R304. -/
def CAN.TDC.all : Fld := ⟨0x4C, 0, 32⟩
def CAN.TDC.TDCO : Fld := ⟨0x4C, 0, 7⟩
/-- CAN.STS, R304. -/
def CAN.STS.all : Fld := ⟨0x50, 0, 32⟩
def CAN.STS.LEC : Fld := ⟨0x50, 12, 4⟩
def CAN.STS.STATE : Fld := ⟨0x50, 8, 2⟩
def CAN.STS.ACTIVE_BUF : Fld := ⟨0x50, 4, 2⟩
def CAN.STS.REF_PEND : Fld := ⟨0x50, 3, 1⟩
def CAN.STS.PENDING : Fld := ⟨0x50, 0, 3⟩
/-- CAN.ERRCNT, R304. -/
def CAN.ERRCNT.all : Fld := ⟨0x54, 0, 32⟩
def CAN.ERRCNT.TEC : Fld := ⟨0x54, 16, 9⟩
def CAN.ERRCNT.REC : Fld := ⟨0x54, 0, 8⟩
/-- CAN.RECOV, R304. -/
def CAN.RECOV.all : Fld := ⟨0x58, 0, 32⟩
def CAN.RECOV.COUNT : Fld := ⟨0x58, 0, 8⟩
/-- CAN.TDCV, R304. -/
def CAN.TDCV.all : Fld := ⟨0x5C, 0, 32⟩
def CAN.TDCV.DELAY : Fld := ⟨0x5C, 0, 7⟩
/-- CAN.TXOK, R304. -/
def CAN.TXOK.all : Fld := ⟨0x60, 0, 32⟩
def CAN.TXOK.COUNT : Fld := ⟨0x60, 0, 32⟩
/-- CAN.RXOK, R304. -/
def CAN.RXOK.all : Fld := ⟨0x64, 0, 32⟩
def CAN.RXOK.COUNT : Fld := ⟨0x64, 0, 32⟩
/-- CAN.RXDROP, R304. -/
def CAN.RXDROP.all : Fld := ⟨0x68, 0, 32⟩
def CAN.RXDROP.COUNT : Fld := ⟨0x68, 0, 32⟩
/-- CAN.NOMATCH, R304. -/
def CAN.NOMATCH.all : Fld := ⟨0x6C, 0, 32⟩
def CAN.NOMATCH.COUNT : Fld := ⟨0x6C, 0, 32⟩
/-- CAN.ARBLOST, R304. -/
def CAN.ARBLOST.all : Fld := ⟨0x70, 0, 32⟩
def CAN.ARBLOST.COUNT : Fld := ⟨0x70, 0, 32⟩
/-- CAN.BUSERR, R304. -/
def CAN.BUSERR.all : Fld := ⟨0x74, 0, 32⟩
def CAN.BUSERR.COUNT : Fld := ⟨0x74, 0, 32⟩
/-- CAN.IDCOLLIDE, R304. -/
def CAN.IDCOLLIDE.all : Fld := ⟨0x78, 0, 32⟩
def CAN.IDCOLLIDE.COUNT : Fld := ⟨0x78, 0, 32⟩
/-- CAN.BUSOFF, R304. -/
def CAN.BUSOFF.all : Fld := ⟨0x7C, 0, 32⟩
def CAN.BUSOFF.COUNT : Fld := ⟨0x7C, 0, 32⟩
/-- CAN.ACKERR, R304. -/
def CAN.ACKERR.all : Fld := ⟨0x80, 0, 32⟩
def CAN.ACKERR.COUNT : Fld := ⟨0x80, 0, 32⟩
/-- CAN.TXWDROP, R304. -/
def CAN.TXWDROP.all : Fld := ⟨0x84, 0, 32⟩
def CAN.TXWDROP.COUNT : Fld := ⟨0x84, 0, 32⟩
/-- CAN.REFMISS, R304. -/
def CAN.REFMISS.all : Fld := ⟨0x88, 0, 32⟩
def CAN.REFMISS.COUNT : Fld := ⟨0x88, 0, 32⟩
/-- CAN.REFCONFLICT, R304. -/
def CAN.REFCONFLICT.all : Fld := ⟨0x8C, 0, 32⟩
def CAN.REFCONFLICT.COUNT : Fld := ⟨0x8C, 0, 32⟩
/-- CAN.TXREQ, R304. -/
def CAN.TXREQ.all : Fld := ⟨0x90, 0, 32⟩
def CAN.TXREQ.REQ : Fld := ⟨0x90, 0, 3⟩
/-- CAN.TXABORT, R304. -/
def CAN.TXABORT.all : Fld := ⟨0x94, 0, 32⟩
def CAN.TXABORT.ABORT : Fld := ⟨0x94, 0, 3⟩
/-- CAN.TXSTS, R304. -/
def CAN.TXSTS.all : Fld := ⟨0x98, 0, 32⟩
def CAN.TXSTS.ATTEMPTS : Fld := ⟨0x98, 4, 4⟩
def CAN.TXSTS.OUTCOME : Fld := ⟨0x98, 0, 3⟩
/-- CAN.TXSTAMP, R304. -/
def CAN.TXSTAMP.all : Fld := ⟨0xA0, 0, 64⟩
def CAN.TXSTAMP.T : Fld := ⟨0xA0, 0, 64⟩
/-- CAN.TMCFG, R304. -/
def CAN.TMCFG.all : Fld := ⟨0xC0, 0, 32⟩
def CAN.TMCFG.SLAVE : Fld := ⟨0xC0, 1, 1⟩
def CAN.TMCFG.MASTER : Fld := ⟨0xC0, 0, 1⟩
/-- CAN.REFID, R304. -/
def CAN.REFID.all : Fld := ⟨0xC4, 0, 32⟩
def CAN.REFID.IDE : Fld := ⟨0xC4, 31, 1⟩
def CAN.REFID.ID : Fld := ⟨0xC4, 0, 29⟩
/-- CAN.REF_PERIOD, R304. -/
def CAN.REF_PERIOD.all : Fld := ⟨0xC8, 0, 32⟩
def CAN.REF_PERIOD.PERIOD : Fld := ⟨0xC8, 0, 32⟩
/-- CAN.REF_PHASE, R304. -/
def CAN.REF_PHASE.all : Fld := ⟨0xCC, 0, 32⟩
def CAN.REF_PHASE.PHASE : Fld := ⟨0xCC, 0, 32⟩
/-- CAN.REFCC, R304. -/
def CAN.REFCC.all : Fld := ⟨0xD0, 0, 32⟩
def CAN.REFCC.CC : Fld := ⟨0xD0, 0, 6⟩
/-- CAN.REFRX_STAMP, R304. -/
def CAN.REFRX_STAMP.all : Fld := ⟨0xE0, 0, 64⟩
def CAN.REFRX_STAMP.T : Fld := ⟨0xE0, 0, 64⟩
/-- CAN.REFRX_T, R304. -/
def CAN.REFRX_T.all : Fld := ⟨0xE8, 0, 64⟩
def CAN.REFRX_T.T : Fld := ⟨0xE8, 0, 64⟩
/-- CAN.REFRX_STS, R304. -/
def CAN.REFRX_STS.all : Fld := ⟨0xF0, 0, 32⟩
def CAN.REFRX_STS.VALID : Fld := ⟨0xF0, 8, 1⟩
def CAN.REFRX_STS.CC : Fld := ⟨0xF0, 0, 6⟩
/-- CAN.RXOWN, R304. -/
def CAN.RXOWN.all : Fld := ⟨0x100, 0, 32⟩
def CAN.RXOWN.MAP : Fld := ⟨0x100, 0, 32⟩
/-- CAN.RXSTS, R304. -/
def CAN.RXSTS.all : Fld := ⟨0x104, 0, 32⟩
def CAN.RXSTS.VALID : Fld := ⟨0x104, 13, 1⟩
def CAN.RXSTS.OLDEST : Fld := ⟨0x104, 8, 5⟩
def CAN.RXSTS.COUNT : Fld := ⟨0x104, 0, 6⟩
/-- CAN.RXACK, R304. -/
def CAN.RXACK.all : Fld := ⟨0x108, 0, 32⟩
def CAN.RXACK.INDEX : Fld := ⟨0x108, 0, 5⟩
/-- CAN.FILT_A, R304. -/
def CAN.FILT_A.all : Fld := ⟨0x200, 0, 32⟩
def CAN.FILT_A.QUEUE : Fld := ⟨0x200, 31, 1⟩
def CAN.FILT_A.FEED : Fld := ⟨0x200, 30, 1⟩
def CAN.FILT_A.IDE : Fld := ⟨0x200, 29, 1⟩
def CAN.FILT_A.ID : Fld := ⟨0x200, 0, 29⟩
/-- CAN.FILT_B, R304. -/
def CAN.FILT_B.all : Fld := ⟨0x204, 0, 32⟩
def CAN.FILT_B.MASK : Fld := ⟨0x204, 0, 29⟩
/-- CAN.TXB_ID, R304. -/
def CAN.TXB_ID.all : Fld := ⟨0x300, 0, 32⟩
def CAN.TXB_ID.ID : Fld := ⟨0x300, 0, 32⟩
/-- CAN.TXB_CTRL, R304. -/
def CAN.TXB_CTRL.all : Fld := ⟨0x304, 0, 32⟩
def CAN.TXB_CTRL.RETRY : Fld := ⟨0x304, 8, 4⟩
def CAN.TXB_CTRL.BRS : Fld := ⟨0x304, 4, 1⟩
def CAN.TXB_CTRL.DLC : Fld := ⟨0x304, 0, 4⟩
/-- CAN.TXB_RSV, R304. -/
def CAN.TXB_RSV.all : Fld := ⟨0x308, 0, 32⟩
/-- CAN.TXB_DATA, R304. -/
def CAN.TXB_DATA.all : Fld := ⟨0x340, 0, 32⟩
def CAN.TXB_DATA.DATA : Fld := ⟨0x340, 0, 32⟩
/-- CAN.RXE_STAMP, R304. -/
def CAN.RXE_STAMP.all : Fld := ⟨0x600, 0, 64⟩
def CAN.RXE_STAMP.T : Fld := ⟨0x600, 0, 64⟩
/-- CAN.RXE_ID, R304. -/
def CAN.RXE_ID.all : Fld := ⟨0x608, 0, 32⟩
def CAN.RXE_ID.ID : Fld := ⟨0x608, 0, 32⟩
/-- CAN.RXE_CTRL, R304. -/
def CAN.RXE_CTRL.all : Fld := ⟨0x60C, 0, 32⟩
def CAN.RXE_CTRL.RSEQ : Fld := ⟨0x60C, 24, 8⟩
def CAN.RXE_CTRL.DLC : Fld := ⟨0x60C, 20, 4⟩
def CAN.RXE_CTRL.BRS : Fld := ⟨0x60C, 19, 1⟩
def CAN.RXE_CTRL.ESI : Fld := ⟨0x60C, 18, 1⟩
def CAN.RXE_CTRL.FILTER : Fld := ⟨0x60C, 12, 5⟩
def CAN.RXE_CTRL.LEN : Fld := ⟨0x60C, 0, 8⟩
/-- CAN.RXE_DATA, R304. -/
def CAN.RXE_DATA.all : Fld := ⟨0x610, 0, 32⟩
def CAN.RXE_DATA.DATA : Fld := ⟨0x610, 0, 32⟩

/-! Fields of the PORT page. -/

/-- PORT.CFG, R329. -/
def PORT.CFG.all : Fld := ⟨0x40, 0, 32⟩
def PORT.CFG.LOOP : Fld := ⟨0x40, 11, 2⟩
def PORT.CFG.RX_PAUSE : Fld := ⟨0x40, 9, 1⟩
def PORT.CFG.TX_PAUSE : Fld := ⟨0x40, 8, 1⟩
def PORT.CFG.SPEED : Fld := ⟨0x40, 6, 2⟩
def PORT.CFG.AN_EN : Fld := ⟨0x40, 5, 1⟩
def PORT.CFG.FALLBACK : Fld := ⟨0x40, 4, 1⟩
def PORT.CFG.MODE : Fld := ⟨0x40, 0, 4⟩
/-- PORT.LINKT, R329. -/
def PORT.LINKT.all : Fld := ⟨0x44, 0, 32⟩
def PORT.LINKT.LUP_DB : Fld := ⟨0x44, 16, 16⟩
def PORT.LINKT.LDN_DB : Fld := ⟨0x44, 0, 16⟩
/-- PORT.FBT, R329. -/
def PORT.FBT.all : Fld := ⟨0x48, 0, 32⟩
def PORT.FBT.FBT : Fld := ⟨0x48, 0, 16⟩
/-- PORT.HOLD_WIN, R329. -/
def PORT.HOLD_WIN.all : Fld := ⟨0x4C, 0, 32⟩
def PORT.HOLD_WIN.WIN : Fld := ⟨0x4C, 0, 16⟩
/-- PORT.VLAN, R329. -/
def PORT.VLAN.all : Fld := ⟨0x50, 0, 32⟩
def PORT.VLAN.ACCEPT : Fld := ⟨0x50, 30, 2⟩
def PORT.VLAN.EGR_TAG : Fld := ⟨0x50, 28, 2⟩
def PORT.VLAN.DEF_PCP : Fld := ⟨0x50, 12, 3⟩
def PORT.VLAN.PVID : Fld := ⟨0x50, 0, 12⟩
/-- PORT.PCPMAP, R329. -/
def PORT.PCPMAP.all : Fld := ⟨0x54, 0, 32⟩
def PORT.PCPMAP.Q : Fld := ⟨0x54, 0, 3⟩
/-- PORT.MAXLEN, R329. -/
def PORT.MAXLEN.all : Fld := ⟨0x58, 0, 32⟩
def PORT.MAXLEN.LEN : Fld := ⟨0x58, 0, 16⟩
/-- PORT.QSEL, R329. -/
def PORT.QSEL.all : Fld := ⟨0x5C, 0, 32⟩
def PORT.QSEL.MGMT_Q : Fld := ⟨0x5C, 0, 3⟩
/-- PORT.PAUSE, R329. -/
def PORT.PAUSE.all : Fld := ⟨0x60, 0, 32⟩
def PORT.PAUSE.QUANTA : Fld := ⟨0x60, 0, 16⟩
/-- PORT.WM, R329. -/
def PORT.WM.all : Fld := ⟨0x64, 0, 32⟩
def PORT.WM.HWM : Fld := ⟨0x64, 16, 16⟩
def PORT.WM.LWM : Fld := ⟨0x64, 0, 16⟩
/-- PORT.STS, R329. -/
def PORT.STS.all : Fld := ⟨0x68, 0, 32⟩
def PORT.STS.GCL_MISMATCH : Fld := ⟨0x68, 15, 1⟩
def PORT.STS.FALLEN_BACK : Fld := ⟨0x68, 14, 1⟩
def PORT.STS.FLUSHED : Fld := ⟨0x68, 13, 1⟩
def PORT.STS.HOLDING : Fld := ⟨0x68, 12, 1⟩
def PORT.STS.RX_PAUSED : Fld := ⟨0x68, 11, 1⟩
def PORT.STS.TX_PAUSING : Fld := ⟨0x68, 10, 1⟩
def PORT.STS.SPEED : Fld := ⟨0x68, 8, 2⟩
def PORT.STS.LINK : Fld := ⟨0x68, 4, 1⟩
def PORT.STS.LMODE : Fld := ⟨0x68, 0, 4⟩
/-- PORT.INUSE, R329. -/
def PORT.INUSE.all : Fld := ⟨0x6C, 0, 32⟩
def PORT.INUSE.CELLS : Fld := ⟨0x6C, 0, 15⟩
/-- PORT.QDEPTH, R329. -/
def PORT.QDEPTH.all : Fld := ⟨0x70, 0, 32⟩
def PORT.QDEPTH.Q_HI : Fld := ⟨0x70, 16, 16⟩
def PORT.QDEPTH.Q_LO : Fld := ⟨0x70, 0, 16⟩
/-- PORT.QLIM, R329. -/
def PORT.QLIM.all : Fld := ⟨0x80, 0, 32⟩
def PORT.QLIM.LIMIT : Fld := ⟨0x80, 0, 15⟩
/-- PORT.SNAP, R329. -/
def PORT.SNAP.all : Fld := ⟨0xA0, 0, 32⟩
def PORT.SNAP.ALL : Fld := ⟨0xA0, 1, 1⟩
def PORT.SNAP.GO : Fld := ⟨0xA0, 0, 1⟩
/-- PORT.SNAP_T, R329. -/
def PORT.SNAP_T.all : Fld := ⟨0xA4, 0, 64⟩
def PORT.SNAP_T.T : Fld := ⟨0xA4, 0, 64⟩
/-- PORT.GCL_CFG, R329. -/
def PORT.GCL_CFG.all : Fld := ⟨0xB0, 0, 32⟩
def PORT.GCL_CFG.SWAP : Fld := ⟨0xB0, 3, 1⟩
def PORT.GCL_CFG.ACTIVE : Fld := ⟨0xB0, 2, 1⟩
def PORT.GCL_CFG.SRC : Fld := ⟨0xB0, 1, 1⟩
def PORT.GCL_CFG.GCL_EN : Fld := ⟨0xB0, 0, 1⟩
/-- PORT.GCL_LEN, R329. -/
def PORT.GCL_LEN.all : Fld := ⟨0xB4, 0, 32⟩
def PORT.GCL_LEN.LEN1 : Fld := ⟨0xB4, 16, 7⟩
def PORT.GCL_LEN.LEN0 : Fld := ⟨0xB4, 0, 7⟩
/-- PORT.GCL_CYCLE, R329. -/
def PORT.GCL_CYCLE.all : Fld := ⟨0xB8, 0, 32⟩
def PORT.GCL_CYCLE.CYCLE : Fld := ⟨0xB8, 0, 25⟩
/-- PORT.GCL_PHASE, R329. -/
def PORT.GCL_PHASE.all : Fld := ⟨0xBC, 0, 32⟩
def PORT.GCL_PHASE.PHASE : Fld := ⟨0xBC, 0, 25⟩
/-- PORT.COUNTER, R329. -/
def PORT.COUNTER.all : Fld := ⟨0x200, 0, 64⟩
def PORT.COUNTER.COUNT : Fld := ⟨0x200, 0, 64⟩
/-- PORT.SNAPCNT, R329. -/
def PORT.SNAPCNT.all : Fld := ⟨0x300, 0, 64⟩
def PORT.SNAPCNT.COUNT : Fld := ⟨0x300, 0, 64⟩
/-- PORT.GCL_ENTRY, R329. -/
def PORT.GCL_ENTRY.all : Fld := ⟨0x400, 0, 32⟩
def PORT.GCL_ENTRY.GATES : Fld := ⟨0x400, 24, 8⟩
def PORT.GCL_ENTRY.INTERVAL : Fld := ⟨0x400, 0, 24⟩

/-! Fields of the SWITCH page. -/

/-- SWITCH.CFG, R363. -/
def SWITCH.CFG.all : Fld := ⟨0x40, 0, 32⟩
def SWITCH.CFG.CT_EN : Fld := ⟨0x40, 0, 1⟩
/-- SWITCH.SPANEN, R363. -/
def SWITCH.SPANEN.all : Fld := ⟨0x44, 0, 32⟩
def SWITCH.SPANEN.ETYPE : Fld := ⟨0x44, 0, 16⟩
/-- SWITCH.AGE_LIMIT, R363. -/
def SWITCH.AGE_LIMIT.all : Fld := ⟨0x48, 0, 32⟩
def SWITCH.AGE_LIMIT.LIMIT : Fld := ⟨0x48, 0, 16⟩
/-- SWITCH.GRP, R363. -/
def SWITCH.GRP.all : Fld := ⟨0x50, 0, 32⟩
def SWITCH.GRP.MEMBERS : Fld := ⟨0x50, 7, 15⟩
/-- SWITCH.CT_FRAMES, R363. -/
def SWITCH.CT_FRAMES.all : Fld := ⟨0x60, 0, 32⟩
def SWITCH.CT_FRAMES.COUNT : Fld := ⟨0x60, 0, 32⟩
/-- SWITCH.SF_FRAMES, R363. -/
def SWITCH.SF_FRAMES.all : Fld := ⟨0x64, 0, 32⟩
def SWITCH.SF_FRAMES.COUNT : Fld := ⟨0x64, 0, 32⟩
/-- SWITCH.STOMPED, R363. -/
def SWITCH.STOMPED.all : Fld := ⟨0x68, 0, 32⟩
def SWITCH.STOMPED.COUNT : Fld := ⟨0x68, 0, 32⟩
/-- SWITCH.KIND_DROP, R363. -/
def SWITCH.KIND_DROP.all : Fld := ⟨0x6C, 0, 32⟩
def SWITCH.KIND_DROP.COUNT : Fld := ⟨0x6C, 0, 32⟩
/-- SWITCH.NOPATH, R363. -/
def SWITCH.NOPATH.all : Fld := ⟨0x70, 0, 32⟩
def SWITCH.NOPATH.COUNT : Fld := ⟨0x70, 0, 32⟩
/-- SWITCH.BUF_DROP, R363. -/
def SWITCH.BUF_DROP.all : Fld := ⟨0x74, 0, 32⟩
def SWITCH.BUF_DROP.COUNT : Fld := ⟨0x74, 0, 32⟩
/-- SWITCH.REACH, R363. -/
def SWITCH.REACH.all : Fld := ⟨0x80, 0, 32⟩
def SWITCH.REACH.MAP : Fld := ⟨0x80, 0, 23⟩

/-! Fields of the FDB page. -/

/-- FDB.CFG, R365. -/
def FDB.CFG.all : Fld := ⟨0x40, 0, 32⟩
def FDB.CFG.AGE_TIME : Fld := ⟨0x40, 16, 16⟩
def FDB.CFG.LEARN_EN : Fld := ⟨0x40, 0, 1⟩
/-- FDB.CMD, R365. -/
def FDB.CMD.all : Fld := ⟨0x44, 0, 32⟩
def FDB.CMD.INDEX : Fld := ⟨0x44, 16, 13⟩
def FDB.CMD.OP : Fld := ⟨0x44, 1, 3⟩
def FDB.CMD.GO : Fld := ⟨0x44, 0, 1⟩
/-- FDB.KEY_LO, R365. -/
def FDB.KEY_LO.all : Fld := ⟨0x48, 0, 32⟩
def FDB.KEY_LO.MAC_LO : Fld := ⟨0x48, 0, 32⟩
/-- FDB.KEY_HI, R365. -/
def FDB.KEY_HI.all : Fld := ⟨0x4C, 0, 32⟩
def FDB.KEY_HI.VID : Fld := ⟨0x4C, 16, 12⟩
def FDB.KEY_HI.MAC_HI : Fld := ⟨0x4C, 0, 16⟩
/-- FDB.ENTRY, R365. -/
def FDB.ENTRY.all : Fld := ⟨0x50, 0, 32⟩
def FDB.ENTRY.VALID : Fld := ⟨0x50, 31, 1⟩
def FDB.ENTRY.STATIC : Fld := ⟨0x50, 30, 1⟩
def FDB.ENTRY.GROUP : Fld := ⟨0x50, 29, 1⟩
def FDB.ENTRY.DEST : Fld := ⟨0x50, 0, 23⟩
/-- FDB.RESULT, R365. -/
def FDB.RESULT.all : Fld := ⟨0x54, 0, 32⟩
def FDB.RESULT.INDEX : Fld := ⟨0x54, 16, 13⟩
def FDB.RESULT.OUTCOME : Fld := ⟨0x54, 0, 2⟩
/-- FDB.USED, R365. -/
def FDB.USED.all : Fld := ⟨0x58, 0, 32⟩
def FDB.USED.COUNT : Fld := ⟨0x58, 0, 14⟩
/-- FDB.LEARN_FULL, R365. -/
def FDB.LEARN_FULL.all : Fld := ⟨0x5C, 0, 32⟩
def FDB.LEARN_FULL.COUNT : Fld := ⟨0x5C, 0, 32⟩
/-- FDB.MOVES, R365. -/
def FDB.MOVES.all : Fld := ⟨0x60, 0, 32⟩
def FDB.MOVES.COUNT : Fld := ⟨0x60, 0, 32⟩
/-- FDB.AGED, R365. -/
def FDB.AGED.all : Fld := ⟨0x64, 0, 32⟩
def FDB.AGED.COUNT : Fld := ⟨0x64, 0, 32⟩

/-! Fields of the HSR page. -/

/-- HSR.CFG, R367. -/
def HSR.CFG.all : Fld := ⟨0x40, 0, 32⟩
def HSR.CFG.REDBOX : Fld := ⟨0x40, 1, 1⟩
def HSR.CFG.RING : Fld := ⟨0x40, 0, 1⟩
/-- HSR.DD_TIME, R367. -/
def HSR.DD_TIME.all : Fld := ⟨0x44, 0, 32⟩
def HSR.DD_TIME.TIME : Fld := ⟨0x44, 0, 19⟩
/-- HSR.SEQ, R367. -/
def HSR.SEQ.all : Fld := ⟨0x48, 0, 32⟩
def HSR.SEQ.NEXT : Fld := ⟨0x48, 0, 16⟩
/-- HSR.USED, R367. -/
def HSR.USED.all : Fld := ⟨0x4C, 0, 32⟩
def HSR.USED.COUNT : Fld := ⟨0x4C, 0, 11⟩
/-- HSR.DUP_DISCARD, R367. -/
def HSR.DUP_DISCARD.all : Fld := ⟨0x50, 0, 32⟩
def HSR.DUP_DISCARD.COUNT : Fld := ⟨0x50, 0, 32⟩
/-- HSR.RETURNED, R367. -/
def HSR.RETURNED.all : Fld := ⟨0x54, 0, 32⟩
def HSR.RETURNED.COUNT : Fld := ⟨0x54, 0, 32⟩
/-- HSR.CIRCULATE, R367. -/
def HSR.CIRCULATE.all : Fld := ⟨0x58, 0, 32⟩
def HSR.CIRCULATE.COUNT : Fld := ⟨0x58, 0, 32⟩
/-- HSR.EVICT_UNMATCHED, R367. -/
def HSR.EVICT_UNMATCHED.all : Fld := ⟨0x5C, 0, 32⟩
def HSR.EVICT_UNMATCHED.COUNT : Fld := ⟨0x5C, 0, 32⟩
/-- HSR.UNTAGGED, R367. -/
def HSR.UNTAGGED.all : Fld := ⟨0x60, 0, 32⟩
def HSR.UNTAGGED.COUNT : Fld := ⟨0x60, 0, 32⟩
/-- HSR.REPLACED, R367. -/
def HSR.REPLACED.all : Fld := ⟨0x64, 0, 32⟩
def HSR.REPLACED.COUNT : Fld := ⟨0x64, 0, 32⟩

/-! Fields of the CAPTURE page. -/

/-- CAPTURE.CFG, R369. -/
def CAPTURE.CFG.all : Fld := ⟨0x40, 0, 32⟩
def CAPTURE.CFG.THRESH : Fld := ⟨0x40, 16, 10⟩
def CAPTURE.CFG.STOP_FULL : Fld := ⟨0x40, 0, 1⟩
/-- CAPTURE.WR_SEQ, R369. -/
def CAPTURE.WR_SEQ.all : Fld := ⟨0x44, 0, 32⟩
def CAPTURE.WR_SEQ.SEQ : Fld := ⟨0x44, 0, 32⟩
/-- CAPTURE.RD_SEQ, R369. -/
def CAPTURE.RD_SEQ.all : Fld := ⟨0x48, 0, 32⟩
def CAPTURE.RD_SEQ.SEQ : Fld := ⟨0x48, 0, 32⟩
/-- CAPTURE.LOST, R369. -/
def CAPTURE.LOST.all : Fld := ⟨0x4C, 0, 32⟩
def CAPTURE.LOST.COUNT : Fld := ⟨0x4C, 0, 32⟩
/-- CAPTURE.RULE_A, R369. -/
def CAPTURE.RULE_A.all : Fld := ⟨0x100, 0, 32⟩
def CAPTURE.RULE_A.EN : Fld := ⟨0x100, 31, 1⟩
def CAPTURE.RULE_A.DIR : Fld := ⟨0x100, 29, 2⟩
def CAPTURE.RULE_A.WHICH : Fld := ⟨0x100, 27, 2⟩
def CAPTURE.RULE_A.KIND_EN : Fld := ⟨0x100, 26, 1⟩
def CAPTURE.RULE_A.KIND : Fld := ⟨0x100, 22, 4⟩
def CAPTURE.RULE_A.ETYPE_EN : Fld := ⟨0x100, 21, 1⟩
def CAPTURE.RULE_A.ETYPE : Fld := ⟨0x100, 0, 16⟩
/-- CAPTURE.RULE_B, R369. -/
def CAPTURE.RULE_B.all : Fld := ⟨0x104, 0, 32⟩
def CAPTURE.RULE_B.PORTS : Fld := ⟨0x104, 0, 22⟩
/-- CAPTURE.RULE_C, R369. -/
def CAPTURE.RULE_C.all : Fld := ⟨0x108, 0, 32⟩
def CAPTURE.RULE_C.DA_LO : Fld := ⟨0x108, 0, 32⟩
/-- CAPTURE.RULE_D, R369. -/
def CAPTURE.RULE_D.all : Fld := ⟨0x10C, 0, 32⟩
def CAPTURE.RULE_D.DA_EN : Fld := ⟨0x10C, 16, 1⟩
def CAPTURE.RULE_D.DA_HI : Fld := ⟨0x10C, 0, 16⟩

/-! Fields of the BUFMEM page. -/

/-- BUFMEM.CFG, R371. -/
def BUFMEM.CFG.all : Fld := ⟨0x40, 0, 32⟩
def BUFMEM.CFG.SCRUB_EN : Fld := ⟨0x40, 16, 1⟩
def BUFMEM.CFG.CRIT : Fld := ⟨0x40, 0, 15⟩
/-- BUFMEM.SCRUB, R371. -/
def BUFMEM.SCRUB.all : Fld := ⟨0x44, 0, 32⟩
def BUFMEM.SCRUB.INT : Fld := ⟨0x44, 0, 16⟩
/-- BUFMEM.FAIL_TH, R371. -/
def BUFMEM.FAIL_TH.all : Fld := ⟨0x48, 0, 32⟩
def BUFMEM.FAIL_TH.WIN : Fld := ⟨0x48, 16, 16⟩
def BUFMEM.FAIL_TH.COUNT : Fld := ⟨0x48, 0, 16⟩
/-- BUFMEM.STS, R371. -/
def BUFMEM.STS.all : Fld := ⟨0x4C, 0, 32⟩
def BUFMEM.STS.REBUILDING : Fld := ⟨0x4C, 24, 1⟩
def BUFMEM.STS.RB_BANK : Fld := ⟨0x4C, 20, 4⟩
def BUFMEM.STS.FAILED : Fld := ⟨0x4C, 0, 9⟩
/-- BUFMEM.FREE, R371. -/
def BUFMEM.FREE.all : Fld := ⟨0x50, 0, 32⟩
def BUFMEM.FREE.CELLS : Fld := ⟨0x50, 0, 15⟩
/-- BUFMEM.CTL, R371. -/
def BUFMEM.CTL.all : Fld := ⟨0x54, 0, 32⟩
def BUFMEM.CTL.REBUILD : Fld := ⟨0x54, 9, 1⟩
def BUFMEM.CTL.FAIL : Fld := ⟨0x54, 8, 1⟩
def BUFMEM.CTL.BANK : Fld := ⟨0x54, 0, 4⟩
/-- BUFMEM.LOST, R371. -/
def BUFMEM.LOST.all : Fld := ⟨0x58, 0, 32⟩
def BUFMEM.LOST.COUNT : Fld := ⟨0x58, 0, 32⟩
/-- BUFMEM.CE, R371. -/
def BUFMEM.CE.all : Fld := ⟨0x60, 0, 32⟩
def BUFMEM.CE.COUNT : Fld := ⟨0x60, 0, 32⟩
/-- BUFMEM.UE, R371. -/
def BUFMEM.UE.all : Fld := ⟨0x90, 0, 32⟩
def BUFMEM.UE.COUNT : Fld := ⟨0x90, 0, 32⟩

/-! Fields of the BRIDGE page. -/

/-- BRIDGE.CFG, R391. -/
def BRIDGE.CFG.all : Fld := ⟨0x40, 0, 32⟩
def BRIDGE.CFG.COLLECT : Fld := ⟨0x40, 2, 1⟩
def BRIDGE.CFG.TX_EN : Fld := ⟨0x40, 1, 1⟩
def BRIDGE.CFG.RX_EN : Fld := ⟨0x40, 0, 1⟩
/-- BRIDGE.NP_TIMEOUT, R391. -/
def BRIDGE.NP_TIMEOUT.all : Fld := ⟨0x44, 0, 32⟩
def BRIDGE.NP_TIMEOUT.US : Fld := ⟨0x44, 0, 32⟩
/-- BRIDGE.TGT, R391. -/
def BRIDGE.TGT.all : Fld := ⟨0x48, 0, 32⟩
def BRIDGE.TGT.ORD_WAIT : Fld := ⟨0x48, 16, 16⟩
def BRIDGE.TGT.OPEN_WR : Fld := ⟨0x48, 0, 1⟩
/-- BRIDGE.LEASE, R391. -/
def BRIDGE.LEASE.all : Fld := ⟨0x4C, 0, 32⟩
def BRIDGE.LEASE.LEASE_S : Fld := ⟨0x4C, 16, 16⟩
def BRIDGE.LEASE.KEY : Fld := ⟨0x4C, 0, 16⟩
/-- BRIDGE.MGRSTS, R391. -/
def BRIDGE.MGRSTS.all : Fld := ⟨0x50, 0, 32⟩
def BRIDGE.MGRSTS.HELD : Fld := ⟨0x50, 31, 1⟩
def BRIDGE.MGRSTS.NODE : Fld := ⟨0x50, 24, 7⟩
def BRIDGE.MGRSTS.MEMBER : Fld := ⟨0x50, 22, 2⟩
def BRIDGE.MGRSTS.REMAIN : Fld := ⟨0x50, 0, 16⟩
/-- BRIDGE.LEASE_CTL, R391. -/
def BRIDGE.LEASE_CTL.all : Fld := ⟨0x54, 0, 32⟩
def BRIDGE.LEASE_CTL.DROP : Fld := ⟨0x54, 0, 1⟩
/-- BRIDGE.LLOG_STS, R391. -/
def BRIDGE.LLOG_STS.all : Fld := ⟨0x58, 0, 32⟩
def BRIDGE.LLOG_STS.COUNT : Fld := ⟨0x58, 0, 6⟩
/-- BRIDGE.LLOG_OVF, R391. -/
def BRIDGE.LLOG_OVF.all : Fld := ⟨0x5C, 0, 32⟩
def BRIDGE.LLOG_OVF.COUNT : Fld := ⟨0x5C, 0, 32⟩
/-- BRIDGE.LLOG0, R391. -/
def BRIDGE.LLOG0.all : Fld := ⟨0x60, 0, 32⟩
def BRIDGE.LLOG0.ADDR_LO : Fld := ⟨0x60, 0, 32⟩
/-- BRIDGE.LLOG1, R391. -/
def BRIDGE.LLOG1.all : Fld := ⟨0x64, 0, 32⟩
def BRIDGE.LLOG1.VALID : Fld := ⟨0x64, 31, 1⟩
def BRIDGE.LLOG1.WIN : Fld := ⟨0x64, 24, 4⟩
def BRIDGE.LLOG1.REASON : Fld := ⟨0x64, 16, 8⟩
def BRIDGE.LLOG1.ADDR_HI : Fld := ⟨0x64, 0, 16⟩
/-- BRIDGE.LLOG2, R391. -/
def BRIDGE.LLOG2.all : Fld := ⟨0x68, 0, 64⟩
def BRIDGE.LLOG2.T : Fld := ⟨0x68, 0, 64⟩
/-- BRIDGE.NPTO, R391. -/
def BRIDGE.NPTO.all : Fld := ⟨0x70, 0, 32⟩
def BRIDGE.NPTO.COUNT : Fld := ⟨0x70, 0, 32⟩
/-- BRIDGE.LATE_CPL, R391. -/
def BRIDGE.LATE_CPL.all : Fld := ⟨0x74, 0, 32⟩
def BRIDGE.LATE_CPL.COUNT : Fld := ⟨0x74, 0, 32⟩
/-- BRIDGE.ORD_LOST, R391. -/
def BRIDGE.ORD_LOST.all : Fld := ⟨0x78, 0, 32⟩
def BRIDGE.ORD_LOST.COUNT : Fld := ⟨0x78, 0, 32⟩
/-- BRIDGE.RXDROP, R391. -/
def BRIDGE.RXDROP.all : Fld := ⟨0x7C, 0, 32⟩
def BRIDGE.RXDROP.COUNT : Fld := ⟨0x7C, 0, 32⟩
/-- BRIDGE.TXBAD, R391. -/
def BRIDGE.TXBAD.all : Fld := ⟨0x80, 0, 32⟩
def BRIDGE.TXBAD.COUNT : Fld := ⟨0x80, 0, 32⟩
/-- BRIDGE.WINDROP, R391. -/
def BRIDGE.WINDROP.all : Fld := ⟨0x84, 0, 32⟩
def BRIDGE.WINDROP.COUNT : Fld := ⟨0x84, 0, 32⟩
/-- BRIDGE.MDA_LO, R391. -/
def BRIDGE.MDA_LO.all : Fld := ⟨0x88, 0, 32⟩
def BRIDGE.MDA_LO.DA_LO : Fld := ⟨0x88, 0, 32⟩
/-- BRIDGE.MDA_HI, R391. -/
def BRIDGE.MDA_HI.all : Fld := ⟨0x8C, 0, 32⟩
def BRIDGE.MDA_HI.DA_HI : Fld := ⟨0x8C, 0, 16⟩
/-- BRIDGE.RX_BASE, R391. -/
def BRIDGE.RX_BASE.all : Fld := ⟨0x90, 0, 64⟩
def BRIDGE.RX_BASE.ADDR : Fld := ⟨0x90, 0, 64⟩
/-- BRIDGE.RX_WRPTR, R391. -/
def BRIDGE.RX_WRPTR.all : Fld := ⟨0x98, 0, 64⟩
def BRIDGE.RX_WRPTR.ADDR : Fld := ⟨0x98, 0, 64⟩
/-- BRIDGE.RX_CTL, R391. -/
def BRIDGE.RX_CTL.all : Fld := ⟨0xA0, 0, 32⟩
def BRIDGE.RX_CTL.SIZE : Fld := ⟨0xA0, 0, 5⟩
/-- BRIDGE.RX_HOSTRD, R391. -/
def BRIDGE.RX_HOSTRD.all : Fld := ⟨0xA4, 0, 32⟩
def BRIDGE.RX_HOSTRD.SLOT : Fld := ⟨0xA4, 0, 32⟩
/-- BRIDGE.TX_BASE, R391. -/
def BRIDGE.TX_BASE.all : Fld := ⟨0xB0, 0, 64⟩
def BRIDGE.TX_BASE.ADDR : Fld := ⟨0xB0, 0, 64⟩
/-- BRIDGE.TX_CTL, R391. -/
def BRIDGE.TX_CTL.all : Fld := ⟨0xB8, 0, 32⟩
def BRIDGE.TX_CTL.SIZE : Fld := ⟨0xB8, 0, 5⟩
/-- BRIDGE.TX_TAIL, R391. -/
def BRIDGE.TX_TAIL.all : Fld := ⟨0xBC, 0, 32⟩
def BRIDGE.TX_TAIL.SLOT : Fld := ⟨0xBC, 0, 32⟩
/-- BRIDGE.TX_HEAD, R391. -/
def BRIDGE.TX_HEAD.all : Fld := ⟨0xC0, 0, 32⟩
def BRIDGE.TX_HEAD.SLOT : Fld := ⟨0xC0, 0, 32⟩

/-! Fields of the WINDOWS page. -/

/-- WINDOWS.WIN, R393. -/
def WINDOWS.WIN.all : Fld := ⟨0x40, 0, 32⟩
def WINDOWS.WIN.EN : Fld := ⟨0x40, 31, 1⟩
def WINDOWS.WIN.WPOST : Fld := ⟨0x40, 30, 1⟩
def WINDOWS.WIN.RONLY : Fld := ⟨0x40, 29, 1⟩
def WINDOWS.WIN.BASE : Fld := ⟨0x40, 0, 20⟩
/-- WINDOWS.WINSTS, R393. -/
def WINDOWS.WINSTS.all : Fld := ⟨0x80, 0, 32⟩
def WINDOWS.WINSTS.ERR : Fld := ⟨0x80, 0, 16⟩

/-! Fields of the DUPLEX page. -/

/-- DUPLEX.CFG, R420. -/
def DUPLEX.CFG.all : Fld := ⟨0x40, 0, 32⟩
def DUPLEX.CFG.BOOK_MAX : Fld := ⟨0x40, 16, 12⟩
def DUPLEX.CFG.FACING : Fld := ⟨0x40, 1, 1⟩
def DUPLEX.CFG.TAKE_EN : Fld := ⟨0x40, 0, 1⟩
/-- DUPLEX.COPY_AT, R420. -/
def DUPLEX.COPY_AT.all : Fld := ⟨0x44, 0, 32⟩
def DUPLEX.COPY_AT.AT : Fld := ⟨0x44, 0, 25⟩
/-- DUPLEX.HB_WIN, R420. -/
def DUPLEX.HB_WIN.all : Fld := ⟨0x48, 0, 32⟩
def DUPLEX.HB_WIN.WIN : Fld := ⟨0x48, 0, 16⟩
/-- DUPLEX.CTL, R420. -/
def DUPLEX.CTL.all : Fld := ⟨0x4C, 0, 32⟩
def DUPLEX.CTL.FENCE : Fld := ⟨0x4C, 3, 1⟩
def DUPLEX.CTL.REJOIN : Fld := ⟨0x4C, 2, 1⟩
def DUPLEX.CTL.HANDOVER : Fld := ⟨0x4C, 1, 1⟩
def DUPLEX.CTL.FAULT : Fld := ⟨0x4C, 0, 1⟩
/-- DUPLEX.STS, R420. -/
def DUPLEX.STS.all : Fld := ⟨0x50, 0, 32⟩
def DUPLEX.STS.SYNC_AGE : Fld := ⟨0x50, 24, 8⟩
def DUPLEX.STS.MISSED : Fld := ⟨0x50, 16, 4⟩
def DUPLEX.STS.PEER_PRESENT : Fld := ⟨0x50, 11, 1⟩
def DUPLEX.STS.LANE_B : Fld := ⟨0x50, 10, 1⟩
def DUPLEX.STS.LANE_A : Fld := ⟨0x50, 9, 1⟩
def DUPLEX.STS.SYNCED : Fld := ⟨0x50, 8, 1⟩
def DUPLEX.STS.STATE : Fld := ⟨0x50, 0, 4⟩
/-- DUPLEX.PEER_SN, R420. -/
def DUPLEX.PEER_SN.all : Fld := ⟨0x54, 0, 64⟩
def DUPLEX.PEER_SN.SN : Fld := ⟨0x54, 0, 64⟩
/-- DUPLEX.APPLIED_CYC, R420. -/
def DUPLEX.APPLIED_CYC.all : Fld := ⟨0x5C, 0, 32⟩
def DUPLEX.APPLIED_CYC.CYCLE : Fld := ⟨0x5C, 0, 32⟩
/-- DUPLEX.REC_BUDGET, R420. -/
def DUPLEX.REC_BUDGET.all : Fld := ⟨0x60, 0, 32⟩
def DUPLEX.REC_BUDGET.BYTES : Fld := ⟨0x60, 0, 17⟩
/-- DUPLEX.REC_LAST, R420. -/
def DUPLEX.REC_LAST.all : Fld := ⟨0x64, 0, 32⟩
def DUPLEX.REC_LAST.BYTES : Fld := ⟨0x64, 0, 17⟩
/-- DUPLEX.COPY_TIME, R420. -/
def DUPLEX.COPY_TIME.all : Fld := ⟨0x68, 0, 32⟩
def DUPLEX.COPY_TIME.HNS : Fld := ⟨0x68, 0, 25⟩
/-- DUPLEX.LAST_TK, R420. -/
def DUPLEX.LAST_TK.all : Fld := ⟨0x6C, 0, 64⟩
def DUPLEX.LAST_TK.T : Fld := ⟨0x6C, 0, 64⟩
/-- DUPLEX.REC_SENT, R420. -/
def DUPLEX.REC_SENT.all : Fld := ⟨0x80, 0, 32⟩
def DUPLEX.REC_SENT.COUNT : Fld := ⟨0x80, 0, 32⟩
/-- DUPLEX.REC_APPLIED, R420. -/
def DUPLEX.REC_APPLIED.all : Fld := ⟨0x84, 0, 32⟩
def DUPLEX.REC_APPLIED.COUNT : Fld := ⟨0x84, 0, 32⟩
/-- DUPLEX.REC_LOST, R420. -/
def DUPLEX.REC_LOST.all : Fld := ⟨0x88, 0, 32⟩
def DUPLEX.REC_LOST.COUNT : Fld := ⟨0x88, 0, 32⟩
/-- DUPLEX.LANE_MISS, R420. -/
def DUPLEX.LANE_MISS.all : Fld := ⟨0x8C, 0, 32⟩
def DUPLEX.LANE_MISS.B : Fld := ⟨0x8C, 16, 16⟩
def DUPLEX.LANE_MISS.A : Fld := ⟨0x8C, 0, 16⟩
/-- DUPLEX.TAKEOVERS, R420. -/
def DUPLEX.TAKEOVERS.all : Fld := ⟨0x90, 0, 32⟩
def DUPLEX.TAKEOVERS.COUNT : Fld := ⟨0x90, 0, 32⟩
/-- DUPLEX.NOTICE_DROP, R420. -/
def DUPLEX.NOTICE_DROP.all : Fld := ⟨0x94, 0, 32⟩
def DUPLEX.NOTICE_DROP.COUNT : Fld := ⟨0x94, 0, 32⟩

/-! Fields of the GANGCTL page. -/

/-- GANGCTL.CFG, R424. -/
def GANGCTL.CFG.all : Fld := ⟨0x40, 0, 32⟩
def GANGCTL.CFG.MEMBERS : Fld := ⟨0x40, 16, 4⟩
def GANGCTL.CFG.TWINS : Fld := ⟨0x40, 0, 16⟩
/-- GANGCTL.FORM, R424. -/
def GANGCTL.FORM.all : Fld := ⟨0x44, 0, 32⟩
def GANGCTL.FORM.FORM_WAIT : Fld := ⟨0x44, 16, 16⟩
def GANGCTL.FORM.TIME_TOL : Fld := ⟨0x44, 0, 16⟩
/-- GANGCTL.VOTE, R424. -/
def GANGCTL.VOTE.all : Fld := ⟨0x48, 0, 32⟩
def GANGCTL.VOTE.STATE_AT : Fld := ⟨0x48, 0, 25⟩
/-- GANGCTL.MISC, R424. -/
def GANGCTL.MISC.all : Fld := ⟨0x4C, 0, 32⟩
def GANGCTL.MISC.TIME_PER : Fld := ⟨0x4C, 16, 16⟩
def GANGCTL.MISC.MISS_N : Fld := ⟨0x4C, 0, 8⟩
/-- GANGCTL.CTL, R424. -/
def GANGCTL.CTL.all : Fld := ⟨0x50, 0, 32⟩
def GANGCTL.CTL.REJOIN : Fld := ⟨0x50, 1, 1⟩
def GANGCTL.CTL.FENCE : Fld := ⟨0x50, 0, 1⟩
/-- GANGCTL.STS, R424. -/
def GANGCTL.STS.all : Fld := ⟨0x54, 0, 32⟩
def GANGCTL.STS.FENCED : Fld := ⟨0x54, 28, 4⟩
def GANGCTL.STS.PRESENT : Fld := ⟨0x54, 24, 4⟩
def GANGCTL.STS.AGREED : Fld := ⟨0x54, 20, 4⟩
def GANGCTL.STS.DIS_MEMBER : Fld := ⟨0x54, 10, 2⟩
def GANGCTL.STS.OFS_VALID : Fld := ⟨0x54, 9, 1⟩
def GANGCTL.STS.NOMAJ : Fld := ⟨0x54, 8, 1⟩
def GANGCTL.STS.FORMED : Fld := ⟨0x54, 0, 1⟩
/-- GANGCTL.OFS, R424. -/
def GANGCTL.OFS.all : Fld := ⟨0x58, 0, 32⟩
def GANGCTL.OFS.OFS : Fld := ⟨0x58, 0, 32⟩
/-- GANGCTL.STATE_DIG, R424. -/
def GANGCTL.STATE_DIG.all : Fld := ⟨0x5C, 0, 32⟩
def GANGCTL.STATE_DIG.DIGEST : Fld := ⟨0x5C, 0, 32⟩
/-- GANGCTL.MAJ_DIG, R424. -/
def GANGCTL.MAJ_DIG.all : Fld := ⟨0x60, 0, 32⟩
def GANGCTL.MAJ_DIG.DIGEST : Fld := ⟨0x60, 0, 32⟩
/-- GANGCTL.CMPMAP, R424. -/
def GANGCTL.CMPMAP.all : Fld := ⟨0x80, 0, 32⟩
def GANGCTL.CMPMAP.MAP : Fld := ⟨0x80, 0, 32⟩
/-- GANGCTL.DIG, R424. -/
def GANGCTL.DIG.all : Fld := ⟨0xA0, 0, 32⟩
def GANGCTL.DIG.DIGEST : Fld := ⟨0xA0, 0, 32⟩
/-- GANGCTL.FENCINGS, R424. -/
def GANGCTL.FENCINGS.all : Fld := ⟨0xB0, 0, 32⟩
def GANGCTL.FENCINGS.COUNT : Fld := ⟨0xB0, 0, 32⟩
/-- GANGCTL.STATE_MISS, R424. -/
def GANGCTL.STATE_MISS.all : Fld := ⟨0xB4, 0, 32⟩
def GANGCTL.STATE_MISS.COUNT : Fld := ⟨0xB4, 0, 32⟩

/-! Fields of the SUPPLY page. -/

/-- SUPPLY.CFG, R448. -/
def SUPPLY.CFG.all : Fld := ⟨0x40, 0, 32⟩
def SUPPLY.CFG.PREF : Fld := ⟨0x40, 4, 1⟩
def SUPPLY.CFG.MODE : Fld := ⟨0x40, 1, 1⟩
def SUPPLY.CFG.B_EN : Fld := ⟨0x40, 0, 1⟩
/-- SUPPLY.PFW_TH, R448. -/
def SUPPLY.PFW_TH.all : Fld := ⟨0x44, 0, 32⟩
def SUPPLY.PFW_TH.TH : Fld := ⟨0x44, 0, 10⟩
/-- SUPPLY.TIMES, R448. -/
def SUPPLY.TIMES.all : Fld := ⟨0x48, 0, 32⟩
def SUPPLY.TIMES.START_DB : Fld := ⟨0x48, 16, 16⟩
def SUPPLY.TIMES.RETURN_DB : Fld := ⟨0x48, 0, 16⟩
/-- SUPPLY.SEQ, R448. -/
def SUPPLY.SEQ.all : Fld := ⟨0x4C, 0, 32⟩
def SUPPLY.SEQ.RAMP_TO : Fld := ⟨0x4C, 16, 8⟩
def SUPPLY.SEQ.PG_DLY : Fld := ⟨0x4C, 8, 8⟩
def SUPPLY.SEQ.SEQ_DLY : Fld := ⟨0x4C, 0, 8⟩
/-- SUPPLY.RAILCFG, R448. -/
def SUPPLY.RAILCFG.all : Fld := ⟨0x50, 0, 32⟩
def SUPPLY.RAILCFG.RF_RETRY : Fld := ⟨0x50, 20, 3⟩
def SUPPLY.RAILCFG.RF_FILT : Fld := ⟨0x50, 16, 4⟩
def SUPPLY.RAILCFG.WIN : Fld := ⟨0x50, 0, 2⟩
/-- SUPPLY.CTL, R448. -/
def SUPPLY.CTL.all : Fld := ⟨0x54, 0, 32⟩
def SUPPLY.CTL.RF_CLR : Fld := ⟨0x54, 0, 1⟩
/-- SUPPLY.STS, R448. -/
def SUPPLY.STS.all : Fld := ⟨0x58, 0, 32⟩
def SUPPLY.STS.RFCNT : Fld := ⟨0x58, 16, 8⟩
def SUPPLY.STS.RF_LATCH : Fld := ⟨0x58, 15, 1⟩
def SUPPLY.STS.SEQ_BUSY : Fld := ⟨0x58, 14, 1⟩
def SUPPLY.STS.PG_CORE : Fld := ⟨0x58, 13, 1⟩
def SUPPLY.STS.PFW : Fld := ⟨0x58, 12, 1⟩
def SUPPLY.STS.FET : Fld := ⟨0x58, 8, 2⟩
def SUPPLY.STS.B_OV : Fld := ⟨0x58, 5, 1⟩
def SUPPLY.STS.B_VALID : Fld := ⟨0x58, 4, 1⟩
def SUPPLY.STS.A_OV : Fld := ⟨0x58, 1, 1⟩
def SUPPLY.STS.A_VALID : Fld := ⟨0x58, 0, 1⟩
/-- SUPPLY.VIN, R448. -/
def SUPPLY.VIN.all : Fld := ⟨0x5C, 0, 32⟩
def SUPPLY.VIN.B : Fld := ⟨0x5C, 16, 16⟩
def SUPPLY.VIN.A : Fld := ⟨0x5C, 0, 16⟩
/-- SUPPLY.VOR, R448. -/
def SUPPLY.VOR.all : Fld := ⟨0x60, 0, 32⟩
def SUPPLY.VOR.V : Fld := ⟨0x60, 0, 16⟩
/-- SUPPLY.RAILV, R448. -/
def SUPPLY.RAILV.all : Fld := ⟨0x70, 0, 32⟩
def SUPPLY.RAILV.MV : Fld := ⟨0x70, 0, 16⟩
/-- SUPPLY.RFAULT, R448. -/
def SUPPLY.RFAULT.all : Fld := ⟨0x88, 0, 32⟩
def SUPPLY.RFAULT.VALID : Fld := ⟨0x88, 31, 1⟩
def SUPPLY.RFAULT.OVER : Fld := ⟨0x88, 3, 1⟩
def SUPPLY.RFAULT.RAIL : Fld := ⟨0x88, 0, 3⟩
/-- SUPPLY.RFT, R448. -/
def SUPPLY.RFT.all : Fld := ⟨0x8C, 0, 64⟩
def SUPPLY.RFT.T : Fld := ⟨0x8C, 0, 64⟩
/-- SUPPLY.SWCNT, R448. -/
def SUPPLY.SWCNT.all : Fld := ⟨0x94, 0, 32⟩
def SUPPLY.SWCNT.COUNT : Fld := ⟨0x94, 0, 32⟩

/-! Fields of the SLOT page. -/

/-- SLOT.CFG, R451. -/
def SLOT.CFG.all : Fld := ⟨0x40, 0, 32⟩
def SLOT.CFG.CLR_ON_REMOVE : Fld := ⟨0x40, 10, 1⟩
def SLOT.CFG.PRES_IGNORE : Fld := ⟨0x40, 9, 1⟩
def SLOT.CFG.ON_PIN : Fld := ⟨0x40, 8, 1⟩
def SLOT.CFG.AUTO_RETRY : Fld := ⟨0x40, 0, 1⟩
/-- SLOT.RAMP, R451. -/
def SLOT.RAMP.all : Fld := ⟨0x44, 0, 32⟩
def SLOT.RAMP.IRAMP : Fld := ⟨0x44, 0, 6⟩
/-- SLOT.ILIM, R451. -/
def SLOT.ILIM.all : Fld := ⟨0x48, 0, 32⟩
def SLOT.ILIM.FAST_TH : Fld := ⟨0x48, 24, 8⟩
def SLOT.ILIM.ILIM_TH : Fld := ⟨0x48, 0, 8⟩
/-- SLOT.TIMER, R451. -/
def SLOT.TIMER.all : Fld := ⟨0x4C, 0, 32⟩
def SLOT.TIMER.FAULT_T : Fld := ⟨0x4C, 16, 8⟩
def SLOT.TIMER.START_TO : Fld := ⟨0x4C, 0, 16⟩
/-- SLOT.PG, R451. -/
def SLOT.PG.all : Fld := ⟨0x50, 0, 32⟩
def SLOT.PG.INS_DB : Fld := ⟨0x50, 16, 9⟩
def SLOT.PG.PG_TH : Fld := ⟨0x50, 0, 9⟩
/-- SLOT.STS, R451. -/
def SLOT.STS.all : Fld := ⟨0x54, 0, 32⟩
def SLOT.STS.COOL_MS : Fld := ⟨0x54, 16, 16⟩
def SLOT.STS.PG_DEFER : Fld := ⟨0x54, 11, 1⟩
def SLOT.STS.LATCH : Fld := ⟨0x54, 10, 1⟩
def SLOT.STS.PRESENT : Fld := ⟨0x54, 9, 1⟩
def SLOT.STS.LIMITING : Fld := ⟨0x54, 8, 1⟩
def SLOT.STS.PG : Fld := ⟨0x54, 7, 1⟩
def SLOT.STS.LAST_CAUSE : Fld := ⟨0x54, 4, 3⟩
def SLOT.STS.STATE : Fld := ⟨0x54, 0, 4⟩
/-- SLOT.MEAS, R451. -/
def SLOT.MEAS.all : Fld := ⟨0x58, 0, 32⟩
def SLOT.MEAS.ISHUNT : Fld := ⟨0x58, 16, 16⟩
def SLOT.MEAS.VOUT : Fld := ⟨0x58, 0, 16⟩
/-- SLOT.ONTIME, R451. -/
def SLOT.ONTIME.all : Fld := ⟨0x5C, 0, 32⟩
def SLOT.ONTIME.US : Fld := ⟨0x5C, 0, 32⟩
/-- SLOT.TRIPS, R451. -/
def SLOT.TRIPS.all : Fld := ⟨0x60, 0, 32⟩
def SLOT.TRIPS.COUNT : Fld := ⟨0x60, 0, 32⟩
/-- SLOT.COOL, R451. -/
def SLOT.COOL.all : Fld := ⟨0x64, 0, 32⟩
def SLOT.COOL.MS : Fld := ⟨0x64, 0, 32⟩

/-! Fields of the TALLY page. -/

/-- TALLY.CFG, R468. -/
def TALLY.CFG.all : Fld := ⟨0x40, 0, 32⟩
def TALLY.CFG.AUTO_LEARN : Fld := ⟨0x40, 3, 1⟩
def TALLY.CFG.D_AT_LOSS : Fld := ⟨0x40, 2, 1⟩
/-- TALLY.HUP, R468. -/
def TALLY.HUP.all : Fld := ⟨0x44, 0, 32⟩
def TALLY.HUP.RATIO : Fld := ⟨0x44, 16, 16⟩
def TALLY.HUP.DIV_TOL : Fld := ⟨0x44, 0, 8⟩
/-- TALLY.VLIM, R468. -/
def TALLY.VLIM.all : Fld := ⟨0x48, 0, 32⟩
def TALLY.VLIM.V_FULL : Fld := ⟨0x48, 16, 16⟩
def TALLY.VLIM.V_FLOOR : Fld := ⟨0x48, 0, 16⟩
/-- TALLY.CAP, R468. -/
def TALLY.CAP.all : Fld := ⟨0x4C, 0, 32⟩
def TALLY.CAP.C_RATED : Fld := ⟨0x4C, 16, 16⟩
def TALLY.CAP.C_MARGIN : Fld := ⟨0x4C, 0, 8⟩
/-- TALLY.LEARN, R468. -/
def TALLY.LEARN.all : Fld := ⟨0x50, 0, 32⟩
def TALLY.LEARN.LOAD_OHM : Fld := ⟨0x50, 16, 16⟩
def TALLY.LEARN.LEARN_MS : Fld := ⟨0x50, 8, 8⟩
def TALLY.LEARN.LEARN_H : Fld := ⟨0x50, 0, 8⟩
/-- TALLY.EXT, R468. -/
def TALLY.EXT.all : Fld := ⟨0x54, 0, 32⟩
def TALLY.EXT.EXT_P : Fld := ⟨0x54, 0, 16⟩
/-- TALLY.TIMES, R468. -/
def TALLY.TIMES.all : Fld := ⟨0x58, 0, 32⟩
def TALLY.TIMES.A_TIME : Fld := ⟨0x58, 16, 16⟩
def TALLY.TIMES.PFW_LEAD : Fld := ⟨0x58, 0, 16⟩
/-- TALLY.KEEP, R468. -/
def TALLY.KEEP.all : Fld := ⟨0x5C, 0, 32⟩
def TALLY.KEEP.KEEP_C : Fld := ⟨0x5C, 16, 16⟩
def TALLY.KEEP.KEEP_B : Fld := ⟨0x5C, 0, 16⟩
/-- TALLY.CTL, R468. -/
def TALLY.CTL.all : Fld := ⟨0x60, 0, 32⟩
def TALLY.CTL.LEARN : Fld := ⟨0x60, 0, 1⟩
/-- TALLY.STS, R468. -/
def TALLY.STS.all : Fld := ⟨0x64, 0, 32⟩
def TALLY.STS.HUP_FAULT : Fld := ⟨0x64, 11, 1⟩
def TALLY.STS.LEARNING : Fld := ⟨0x64, 10, 1⟩
def TALLY.STS.C_VALID : Fld := ⟨0x64, 9, 1⟩
def TALLY.STS.RESERVE_OK : Fld := ⟨0x64, 8, 1⟩
def TALLY.STS.WARN : Fld := ⟨0x64, 7, 1⟩
def TALLY.STS.SHED : Fld := ⟨0x64, 4, 3⟩
def TALLY.STS.PLAN : Fld := ⟨0x64, 0, 3⟩
/-- TALLY.VHUP, R468. -/
def TALLY.VHUP.all : Fld := ⟨0x68, 0, 32⟩
def TALLY.VHUP.V : Fld := ⟨0x68, 0, 16⟩
/-- TALLY.C_LEARN, R468. -/
def TALLY.C_LEARN.all : Fld := ⟨0x6C, 0, 32⟩
def TALLY.C_LEARN.UF : Fld := ⟨0x6C, 0, 32⟩
/-- TALLY.E_SAFE, R468. -/
def TALLY.E_SAFE.all : Fld := ⟨0x70, 0, 32⟩
def TALLY.E_SAFE.UJ : Fld := ⟨0x70, 0, 32⟩
/-- TALLY.RES_A, R468. -/
def TALLY.RES_A.all : Fld := ⟨0x74, 0, 32⟩
def TALLY.RES_A.UJ : Fld := ⟨0x74, 0, 32⟩
/-- TALLY.RES_B, R468. -/
def TALLY.RES_B.all : Fld := ⟨0x78, 0, 32⟩
def TALLY.RES_B.UJ : Fld := ⟨0x78, 0, 32⟩
/-- TALLY.RES_C, R468. -/
def TALLY.RES_C.all : Fld := ⟨0x7C, 0, 32⟩
def TALLY.RES_C.UJ : Fld := ⟨0x7C, 0, 32⟩
/-- TALLY.RES_W, R468. -/
def TALLY.RES_W.all : Fld := ⟨0x80, 0, 32⟩
def TALLY.RES_W.UJ : Fld := ⟨0x80, 0, 32⟩
/-- TALLY.PWR0, R468. -/
def TALLY.PWR0.all : Fld := ⟨0x84, 0, 32⟩
def TALLY.PWR0.P_BASE : Fld := ⟨0x84, 16, 16⟩
def TALLY.PWR0.P_A : Fld := ⟨0x84, 0, 16⟩
/-- TALLY.PWR1, R468. -/
def TALLY.PWR1.all : Fld := ⟨0x88, 0, 32⟩
def TALLY.PWR1.P_B : Fld := ⟨0x88, 16, 16⟩
def TALLY.PWR1.P_C : Fld := ⟨0x88, 0, 16⟩
/-- TALLY.PWR2, R468. -/
def TALLY.PWR2.all : Fld := ⟨0x8C, 0, 32⟩
def TALLY.PWR2.P_D : Fld := ⟨0x8C, 0, 16⟩
/-- TALLY.T_A_MIN, R468. -/
def TALLY.T_A_MIN.all : Fld := ⟨0x90, 0, 32⟩
def TALLY.T_A_MIN.TIME : Fld := ⟨0x90, 0, 16⟩
/-- TALLY.LAST_PLAN, R468. -/
def TALLY.LAST_PLAN.all : Fld := ⟨0x94, 0, 32⟩
def TALLY.LAST_PLAN.VALID : Fld := ⟨0x94, 31, 1⟩
def TALLY.LAST_PLAN.MAIN_BACK : Fld := ⟨0x94, 7, 1⟩
def TALLY.LAST_PLAN.A_TIMEOUT : Fld := ⟨0x94, 6, 1⟩
def TALLY.LAST_PLAN.A_DONE : Fld := ⟨0x94, 5, 1⟩
def TALLY.LAST_PLAN.WARN : Fld := ⟨0x94, 4, 1⟩
def TALLY.LAST_PLAN.SHED : Fld := ⟨0x94, 0, 3⟩
/-- TALLY.LAST_LOSS, R468. -/
def TALLY.LAST_LOSS.all : Fld := ⟨0x98, 0, 64⟩
def TALLY.LAST_LOSS.T : Fld := ⟨0x98, 0, 64⟩
/-- TALLY.TWIN_E, R468. -/
def TALLY.TWIN_E.all : Fld := ⟨0xA0, 0, 32⟩
def TALLY.TWIN_E.UJ : Fld := ⟨0xA0, 0, 32⟩
/-- TALLY.METER, R468. -/
def TALLY.METER.all : Fld := ⟨0xC0, 0, 64⟩
def TALLY.METER.PJ : Fld := ⟨0xC0, 0, 64⟩

/-! Fields of the MONUMENT page. -/

/-- MONUMENT.LC, R494. -/
def MONUMENT.LC.all : Fld := ⟨0x40, 0, 32⟩
def MONUMENT.LC.STATE : Fld := ⟨0x40, 0, 8⟩
/-- MONUMENT.STS, R494. -/
def MONUMENT.STS.all : Fld := ⟨0x44, 0, 32⟩
def MONUMENT.STS.FREE : Fld := ⟨0x44, 16, 8⟩
def MONUMENT.STS.STAGED : Fld := ⟨0x44, 8, 8⟩
def MONUMENT.STS.COND : Fld := ⟨0x44, 2, 2⟩
def MONUMENT.STS.BUSY : Fld := ⟨0x44, 1, 1⟩
def MONUMENT.STS.TRNG_OK : Fld := ⟨0x44, 0, 1⟩
/-- MONUMENT.CMD, R494. -/
def MONUMENT.CMD.all : Fld := ⟨0x48, 0, 32⟩
def MONUMENT.CMD.GO : Fld := ⟨0x48, 31, 1⟩
def MONUMENT.CMD.STAGE : Fld := ⟨0x48, 16, 1⟩
def MONUMENT.CMD.OP : Fld := ⟨0x48, 0, 8⟩
/-- MONUMENT.HANDLE, R494. -/
def MONUMENT.HANDLE.all : Fld := ⟨0x4C, 0, 32⟩
def MONUMENT.HANDLE.SRC : Fld := ⟨0x4C, 16, 16⟩
def MONUMENT.HANDLE.DST : Fld := ⟨0x4C, 0, 16⟩
/-- MONUMENT.LEN, R494. -/
def MONUMENT.LEN.all : Fld := ⟨0x50, 0, 32⟩
def MONUMENT.LEN.IN : Fld := ⟨0x50, 0, 10⟩
/-- MONUMENT.ATTR, R494. -/
def MONUMENT.ATTR.all : Fld := ⟨0x54, 0, 32⟩
def MONUMENT.ATTR.ATTR : Fld := ⟨0x54, 0, 32⟩
/-- MONUMENT.RESULT, R494. -/
def MONUMENT.RESULT.all : Fld := ⟨0x58, 0, 32⟩
def MONUMENT.RESULT.HANDLE : Fld := ⟨0x58, 16, 16⟩
def MONUMENT.RESULT.CODE : Fld := ⟨0x58, 0, 8⟩
/-- MONUMENT.OUT_LEN, R494. -/
def MONUMENT.OUT_LEN.all : Fld := ⟨0x5C, 0, 32⟩
def MONUMENT.OUT_LEN.OUT : Fld := ⟨0x5C, 0, 10⟩
/-- MONUMENT.RTC, R494. -/
def MONUMENT.RTC.all : Fld := ⟨0x60, 0, 64⟩
def MONUMENT.RTC.TIME : Fld := ⟨0x60, 0, 64⟩
/-- MONUMENT.TRNG_FAIL, R494. -/
def MONUMENT.TRNG_FAIL.all : Fld := ⟨0x68, 0, 32⟩
def MONUMENT.TRNG_FAIL.COUNT : Fld := ⟨0x68, 0, 32⟩
/-- MONUMENT.DATA, R494. -/
def MONUMENT.DATA.all : Fld := ⟨0x400, 0, 32⟩
def MONUMENT.DATA.BYTES : Fld := ⟨0x400, 0, 32⟩

/-! Fields of the TAMPER page. -/

/-- TAMPER.CFG, R496. -/
def TAMPER.CFG.all : Fld := ⟨0x40, 0, 32⟩
def TAMPER.CFG.SW_POL : Fld := ⟨0x40, 8, 4⟩
def TAMPER.CFG.SW_EN : Fld := ⟨0x40, 4, 4⟩
def TAMPER.CFG.MESH_EN : Fld := ⟨0x40, 0, 1⟩
/-- TAMPER.STS, R496. -/
def TAMPER.STS.all : Fld := ⟨0x44, 0, 32⟩
def TAMPER.STS.LIVE : Fld := ⟨0x44, 8, 8⟩
def TAMPER.STS.LAST : Fld := ⟨0x44, 0, 8⟩
/-- TAMPER.COUNT, R496. -/
def TAMPER.COUNT.all : Fld := ⟨0x48, 0, 32⟩
def TAMPER.COUNT.EVENTS : Fld := ⟨0x48, 0, 16⟩
/-- TAMPER.LOG_STS, R496. -/
def TAMPER.LOG_STS.all : Fld := ⟨0x4C, 0, 32⟩
def TAMPER.LOG_STS.UNREPORTED : Fld := ⟨0x4C, 8, 5⟩
def TAMPER.LOG_STS.NEXT : Fld := ⟨0x4C, 0, 4⟩
/-- TAMPER.REARM, R496. -/
def TAMPER.REARM.all : Fld := ⟨0x50, 0, 32⟩
def TAMPER.REARM.WORD : Fld := ⟨0x50, 0, 32⟩
/-- TAMPER.TEMP, R496. -/
def TAMPER.TEMP.all : Fld := ⟨0x54, 0, 32⟩
def TAMPER.TEMP.DEGC : Fld := ⟨0x54, 0, 16⟩
/-- TAMPER.LOG, R496. -/
def TAMPER.LOG.all : Fld := ⟨0x100, 0, 128⟩
def TAMPER.LOG.ENTRY : Fld := ⟨0x100, 0, 128⟩

/-! Fields of the MACSEC page. -/

/-- MACSEC.CFG, R373. -/
def MACSEC.CFG.all : Fld := ⟨0x40, 0, 32⟩
def MACSEC.CFG.PN_WARN_HI : Fld := ⟨0x40, 0, 32⟩
/-- MACSEC.CTL, R373. -/
def MACSEC.CTL.all : Fld := ⟨0x100, 0, 32⟩
def MACSEC.CTL.RX_AN : Fld := ⟨0x100, 8, 4⟩
def MACSEC.CTL.TX_AN : Fld := ⟨0x100, 4, 2⟩
def MACSEC.CTL.CONF : Fld := ⟨0x100, 1, 1⟩
def MACSEC.CTL.PROT : Fld := ⟨0x100, 0, 1⟩
/-- MACSEC.REPLAY, R373. -/
def MACSEC.REPLAY.all : Fld := ⟨0x104, 0, 32⟩
def MACSEC.REPLAY.WINDOW : Fld := ⟨0x104, 0, 32⟩
/-- MACSEC.SCI_TX, R373. -/
def MACSEC.SCI_TX.all : Fld := ⟨0x108, 0, 64⟩
def MACSEC.SCI_TX.SCI : Fld := ⟨0x108, 0, 64⟩
/-- MACSEC.SCI_RX, R373. -/
def MACSEC.SCI_RX.all : Fld := ⟨0x110, 0, 64⟩
def MACSEC.SCI_RX.SCI : Fld := ⟨0x110, 0, 64⟩
/-- MACSEC.SSCI_TX, R373. -/
def MACSEC.SSCI_TX.all : Fld := ⟨0x118, 0, 32⟩
def MACSEC.SSCI_TX.TX : Fld := ⟨0x118, 0, 32⟩
/-- MACSEC.SSCI_RX, R373. -/
def MACSEC.SSCI_RX.all : Fld := ⟨0x11C, 0, 32⟩
def MACSEC.SSCI_RX.RX : Fld := ⟨0x11C, 0, 32⟩
/-- MACSEC.SA_KEY, R373. -/
def MACSEC.SA_KEY.all : Fld := ⟨0x120, 0, 32⟩
def MACSEC.SA_KEY.VALID : Fld := ⟨0x120, 31, 1⟩
def MACSEC.SA_KEY.ERR : Fld := ⟨0x120, 28, 3⟩
def MACSEC.SA_KEY.HANDLE : Fld := ⟨0x120, 0, 16⟩
/-- MACSEC.SA_SALT, R373. -/
def MACSEC.SA_SALT.all : Fld := ⟨0x124, 0, 96⟩
def MACSEC.SA_SALT.SALT : Fld := ⟨0x124, 0, 96⟩
/-- MACSEC.NEXT_PN, R373. -/
def MACSEC.NEXT_PN.all : Fld := ⟨0x160, 0, 64⟩
def MACSEC.NEXT_PN.PN : Fld := ⟨0x160, 0, 64⟩
/-- MACSEC.TX_PN, R373. -/
def MACSEC.TX_PN.all : Fld := ⟨0x168, 0, 64⟩
def MACSEC.TX_PN.PN : Fld := ⟨0x168, 0, 64⟩
/-- MACSEC.ICV_FAIL, R373. -/
def MACSEC.ICV_FAIL.all : Fld := ⟨0x170, 0, 32⟩
def MACSEC.ICV_FAIL.COUNT : Fld := ⟨0x170, 0, 32⟩
/-- MACSEC.NO_SA, R373. -/
def MACSEC.NO_SA.all : Fld := ⟨0x174, 0, 32⟩
def MACSEC.NO_SA.COUNT : Fld := ⟨0x174, 0, 32⟩
/-- MACSEC.LATE, R373. -/
def MACSEC.LATE.all : Fld := ⟨0x178, 0, 32⟩
def MACSEC.LATE.COUNT : Fld := ⟨0x178, 0, 32⟩
/-- MACSEC.TX_NO_SA, R373. -/
def MACSEC.TX_NO_SA.all : Fld := ⟨0x17C, 0, 32⟩
def MACSEC.TX_NO_SA.COUNT : Fld := ⟨0x17C, 0, 32⟩

/-! Fields of the HMON page. -/

/-- HMON.CFG, R501. -/
def HMON.CFG.all : Fld := ⟨0x40, 0, 32⟩
def HMON.CFG.ARG : Fld := ⟨0x40, 12, 8⟩
def HMON.CFG.MODE : Fld := ⟨0x40, 4, 1⟩
def HMON.CFG.SRC : Fld := ⟨0x40, 0, 4⟩
/-- HMON.LO, R501. -/
def HMON.LO.all : Fld := ⟨0x44, 0, 64⟩
def HMON.LO.LO : Fld := ⟨0x44, 0, 64⟩
/-- HMON.W, R501. -/
def HMON.W.all : Fld := ⟨0x4C, 0, 32⟩
def HMON.W.W : Fld := ⟨0x4C, 0, 32⟩
/-- HMON.CTL, R501. -/
def HMON.CTL.all : Fld := ⟨0x50, 0, 32⟩
def HMON.CTL.ALL : Fld := ⟨0x50, 2, 1⟩
def HMON.CTL.CLEAR : Fld := ⟨0x50, 1, 1⟩
def HMON.CTL.SNAP : Fld := ⟨0x50, 0, 1⟩
/-- HMON.SNAP_T, R501. -/
def HMON.SNAP_T.all : Fld := ⟨0x70, 0, 64⟩
def HMON.SNAP_T.T : Fld := ⟨0x70, 0, 64⟩
/-- HMON.COUNT, R501. -/
def HMON.COUNT.all : Fld := ⟨0x80, 0, 64⟩
def HMON.COUNT.COUNT : Fld := ⟨0x80, 0, 64⟩
/-- HMON.SUM, R501. -/
def HMON.SUM.all : Fld := ⟨0x88, 0, 64⟩
def HMON.SUM.SUM : Fld := ⟨0x88, 0, 64⟩
/-- HMON.MIN, R501. -/
def HMON.MIN.all : Fld := ⟨0x90, 0, 32⟩
def HMON.MIN.MIN : Fld := ⟨0x90, 0, 32⟩
/-- HMON.MAX, R501. -/
def HMON.MAX.all : Fld := ⟨0x94, 0, 32⟩
def HMON.MAX.MAX : Fld := ⟨0x94, 0, 32⟩
/-- HMON.UNDER, R501. -/
def HMON.UNDER.all : Fld := ⟨0x98, 0, 32⟩
def HMON.UNDER.COUNT : Fld := ⟨0x98, 0, 32⟩
/-- HMON.OVER, R501. -/
def HMON.OVER.all : Fld := ⟨0x9C, 0, 32⟩
def HMON.OVER.COUNT : Fld := ⟨0x9C, 0, 32⟩
/-- HMON.BIN, R501. -/
def HMON.BIN.all : Fld := ⟨0xA0, 0, 32⟩
def HMON.BIN.COUNT : Fld := ⟨0xA0, 0, 32⟩

/-! Fields of the CAL page. -/

/-- CAL.CTL, R507. -/
def CAL.CTL.all : Fld := ⟨0x40, 0, 32⟩
def CAL.CTL.PROG : Fld := ⟨0x40, 0, 1⟩
/-- CAL.UNLOCK, R507. -/
def CAL.UNLOCK.all : Fld := ⟨0x44, 0, 32⟩
def CAL.UNLOCK.WORD : Fld := ⟨0x44, 0, 32⟩
/-- CAL.SECMASK, R507. -/
def CAL.SECMASK.all : Fld := ⟨0x48, 0, 32⟩
def CAL.SECMASK.MASK : Fld := ⟨0x48, 0, 16⟩
/-- CAL.ADDR, R507. -/
def CAL.ADDR.all : Fld := ⟨0x4C, 0, 32⟩
def CAL.ADDR.WORD : Fld := ⟨0x4C, 2, 10⟩
/-- CAL.DATA, R507. -/
def CAL.DATA.all : Fld := ⟨0x50, 0, 32⟩
def CAL.DATA.DATA : Fld := ⟨0x50, 0, 32⟩
/-- CAL.STS, R507. -/
def CAL.STS.all : Fld := ⟨0x54, 0, 32⟩
def CAL.STS.WRITES : Fld := ⟨0x54, 16, 16⟩
def CAL.STS.VALID : Fld := ⟨0x54, 0, 16⟩
/-- CAL.ORIGIN, R507. -/
def CAL.ORIGIN.all : Fld := ⟨0x58, 0, 32⟩
def CAL.ORIGIN.ORIGIN : Fld := ⟨0x58, 0, 1⟩

end F
end Sys2Proof.Machine
end

