-- ==== Sys2Proof/Machine/RegTable.lean ====
section
/-!
DEFINITION. The register tables of the spec: one row for each 32-bit register (or array of registers) of a page
family, with its reset word and, per access type of R8, the mask of its bits (R42, R43, R46, R49, R68, R102, R106,
R124, R152, R156, R183, R213, R217, R222, R271, R275, R304, R329, R363, R365, R367, R369, R371, R373, R391, R393,
R420, R424, R448, R451, R468, R494, R496, R501, R507, R528, R529), and the named fields of those registers.
-/

namespace Sys2Proof.Machine

/-- The families of register pages of R47 (`hdr` is the common header of R49). -/
inductive Fam where
  | hdr
  | sys
  | reset
  | irq
  | datum
  | stamp
  | mscl
  | cycle
  | plat
  | stake
  | crew
  | eng
  | pinmux
  | book
  | edge
  | can
  | port
  | switch
  | fdb
  | hsr
  | capture
  | bufmem
  | bridge
  | windows
  | duplex
  | gangctl
  | supply
  | slot
  | tally
  | monument
  | tamper
  | macsec
  | hmon
  | cal
deriving DecidableEq, Repr

/-- One register, or array of registers, of a family: words at `off + i * s1 + j * s2`. `wi` of `wn` says which
word of a wide register (R48) it is. The masks are the bits of each access type of R8; `resv` are the reserved
bits of types RW and RWL, which R52 tests. -/
structure RegRow where
  fam : Fam
  off : Nat
  n1 : Nat
  s1 : Nat
  n2 : Nat
  s2 : Nat
  wi : Nat
  wn : Nat
  rst : Nat
  rw : Nat
  rwl : Nat
  w1c : Nat
  wo : Nat
  rws : Nat
  resv : Nat
deriving DecidableEq, Repr

/-- Registers of the HDR page (R49). -/
def rowsHdr : List RegRow := [
  ⟨.hdr, 0x0, 1, 0x0, 1, 0x0, 0, 1, 0x1, 0, 0, 0, 0, 0, 0⟩,
  ⟨.hdr, 0x4, 1, 0x0, 1, 0x0, 0, 1, 0, 0xFFFFFFFB, 0, 0, 0, 0x4, 0xFFFFFEF8⟩,
  ⟨.hdr, 0x8, 1, 0x0, 1, 0x0, 0, 1, 0, 0, 0, 0, 0, 0, 0⟩,
  ⟨.hdr, 0xC, 1, 0x0, 1, 0x0, 0, 1, 0, 0, 0, 0xFFFFFF03, 0, 0, 0⟩,
  ⟨.hdr, 0x10, 1, 0x0, 1, 0x0, 0, 1, 0xFFFFFFFF, 0xFFFFFFFF, 0, 0, 0, 0, 0⟩,
  ⟨.hdr, 0x14, 1, 0x0, 1, 0x0, 0, 1, 0, 0, 0, 0, 0xFFFFFFFF, 0, 0⟩,
  ⟨.hdr, 0x18, 1, 0x0, 1, 0x0, 0, 1, 0, 0, 0, 0, 0, 0, 0⟩,
  ⟨.hdr, 0x1C, 1, 0x0, 1, 0x0, 0, 1, 0, 0, 0, 0, 0, 0, 0⟩,
  ⟨.hdr, 0x20, 8, 0x4, 1, 0x0, 0, 1, 0, 0, 0, 0, 0, 0, 0⟩]

/-- Registers of the SYS page (R42, R43, R46, R528). -/
def rowsSys : List RegRow := [
  ⟨.sys, 0x40, 1, 0x0, 1, 0x0, 0, 1, 0xB0A2, 0, 0, 0, 0, 0, 0⟩,
  ⟨.sys, 0x44, 1, 0x0, 1, 0x0, 0, 2, 0, 0, 0, 0, 0, 0, 0⟩,
  ⟨.sys, 0x48, 1, 0x0, 1, 0x0, 1, 2, 0, 0, 0, 0, 0, 0, 0⟩,
  ⟨.sys, 0x4C, 1, 0x0, 1, 0x0, 0, 1, 0, 0, 0, 0, 0, 0, 0⟩,
  ⟨.sys, 0x50, 1, 0x0, 1, 0x0, 0, 1, 0, 0, 0, 0, 0, 0, 0⟩,
  ⟨.sys, 0x54, 1, 0x0, 1, 0x0, 0, 1, 0, 0, 0, 0, 0, 0, 0⟩,
  ⟨.sys, 0x58, 1, 0x0, 1, 0x0, 0, 1, 0, 0, 0, 0, 0, 0, 0⟩,
  ⟨.sys, 0x60, 1, 0x0, 1, 0x0, 0, 2, 0, 0xFFFFFFFF, 0, 0, 0, 0, 0⟩,
  ⟨.sys, 0x64, 1, 0x0, 1, 0x0, 1, 2, 0, 0xFFFFFFFF, 0, 0, 0, 0, 0⟩,
  ⟨.sys, 0x68, 1, 0x0, 1, 0x0, 0, 1, 0, 0xFFFFFFFF, 0, 0, 0, 0, 0xFFE00000⟩,
  ⟨.sys, 0x6C, 1, 0x0, 1, 0x0, 0, 1, 0, 0xFFFFFFFE, 0, 0, 0, 0x1, 0xFFFFFFFE⟩,
  ⟨.sys, 0x70, 1, 0x0, 1, 0x0, 0, 1, 0, 0, 0, 0, 0xFFFFFFFF, 0, 0⟩,
  ⟨.sys, 0x74, 1, 0x0, 1, 0x0, 0, 1, 0, 0xFFFFFFFF, 0, 0, 0, 0, 0xFFFFFFFE⟩,
  ⟨.sys, 0x80, 1, 0x0, 1, 0x0, 0, 1, 0, 0xF, 0, 0x400, 0, 0, 0xC⟩,
  ⟨.sys, 0x84, 1, 0x0, 1, 0x0, 0, 1, 0x101, 0xFFFFFFFF, 0, 0, 0, 0, 0xFFFFFCFC⟩,
  ⟨.sys, 0x88, 1, 0x0, 1, 0x0, 0, 1, 0, 0, 0, 0, 0, 0, 0⟩,
  ⟨.sys, 0x8C, 1, 0x0, 1, 0x0, 0, 1, 0, 0, 0, 0x80000000, 0, 0, 0⟩]

/-- Registers of the RESET page (R529). -/
def rowsReset : List RegRow := [
  ⟨.reset, 0x40, 1, 0x0, 1, 0x0, 0, 1, 0, 0, 0, 0x7E, 0, 0, 0⟩,
  ⟨.reset, 0x44, 1, 0x0, 1, 0x0, 0, 1, 0, 0, 0, 0, 0xFFFFFFFF, 0, 0⟩,
  ⟨.reset, 0x48, 1, 0x0, 1, 0x0, 0, 1, 0, 0xFFFC0000, 0, 0, 0, 0x3FFFF, 0xFFFC0000⟩,
  ⟨.reset, 0x4C, 1, 0x0, 1, 0x0, 0, 1, 0x3E80002, 0xFFFFFFFA, 0, 0, 0x4, 0, 0xFFF8⟩,
  ⟨.reset, 0x50, 1, 0x0, 1, 0x0, 0, 1, 0, 0, 0, 0, 0xFFFFFFFF, 0, 0⟩,
  ⟨.reset, 0x54, 1, 0x0, 1, 0x0, 0, 1, 0, 0, 0, 0, 0, 0, 0⟩,
  ⟨.reset, 0x58, 1, 0x0, 1, 0x0, 0, 1, 0, 0, 0, 0, 0, 0, 0⟩]

/-- Registers of the IRQ page (R68). -/
def rowsIrq : List RegRow := [
  ⟨.irq, 0x40, 32, 0x4, 1, 0x0, 0, 1, 0, 0xFFFFFFFF, 0, 0, 0, 0, 0⟩,
  ⟨.irq, 0xC0, 8, 0x4, 1, 0x0, 0, 1, 0, 0, 0, 0, 0, 0, 0⟩,
  ⟨.irq, 0xE0, 1, 0x0, 1, 0x0, 0, 1, 0, 0, 0, 0, 0, 0, 0⟩,
  ⟨.irq, 0xE4, 1, 0x0, 1, 0x0, 0, 1, 0, 0, 0, 0, 0xFFFFFFFF, 0, 0⟩,
  ⟨.irq, 0xF0, 8, 0x4, 1, 0x0, 0, 1, 0, 0xFFFFFFFF, 0, 0, 0, 0, 0xFF00F8E0⟩,
  ⟨.irq, 0x110, 1, 0x0, 1, 0x0, 0, 1, 0, 0, 0, 0, 0, 0, 0⟩]

/-- Registers of the DATUM page (R102). -/
def rowsDatum : List RegRow := [
  ⟨.datum, 0x40, 1, 0x0, 1, 0x0, 0, 1, 0, 0, 0, 0, 0, 0, 0⟩,
  ⟨.datum, 0x44, 1, 0x0, 1, 0x0, 0, 1, 0, 0xFFFFFFFC, 0, 0, 0, 0x3, 0xFFFFFFFC⟩,
  ⟨.datum, 0x48, 1, 0x0, 1, 0x0, 0, 2, 0, 0xFFFFFFFF, 0, 0, 0, 0, 0⟩,
  ⟨.datum, 0x4C, 1, 0x0, 1, 0x0, 1, 2, 0x800, 0xFFFFFFFF, 0, 0, 0, 0, 0xFFFF0000⟩,
  ⟨.datum, 0x50, 1, 0x0, 1, 0x0, 0, 2, 0, 0, 0, 0, 0xFFFFFFFF, 0, 0⟩,
  ⟨.datum, 0x54, 1, 0x0, 1, 0x0, 1, 2, 0, 0, 0, 0, 0xFFFFFFFF, 0, 0⟩,
  ⟨.datum, 0x58, 1, 0x0, 1, 0x0, 0, 1, 0x7D0, 0xFFFFFFFF, 0, 0, 0, 0, 0⟩,
  ⟨.datum, 0x5C, 1, 0x0, 1, 0x0, 0, 1, 0, 0, 0, 0, 0xFFFFFFFF, 0, 0⟩,
  ⟨.datum, 0x60, 1, 0x0, 1, 0x0, 0, 2, 0, 0, 0, 0, 0, 0, 0⟩,
  ⟨.datum, 0x64, 1, 0x0, 1, 0x0, 1, 2, 0, 0, 0, 0, 0, 0, 0⟩,
  ⟨.datum, 0x68, 1, 0x0, 1, 0x0, 0, 2, 0, 0, 0, 0, 0, 0, 0⟩,
  ⟨.datum, 0x6C, 1, 0x0, 1, 0x0, 1, 2, 0, 0, 0, 0, 0, 0, 0⟩,
  ⟨.datum, 0x70, 1, 0x0, 1, 0x0, 0, 2, 0, 0, 0, 0, 0, 0, 0⟩,
  ⟨.datum, 0x74, 1, 0x0, 1, 0x0, 1, 2, 0, 0, 0, 0, 0, 0, 0⟩,
  ⟨.datum, 0x78, 1, 0x0, 1, 0x0, 0, 1, 0, 0, 0, 0, 0, 0, 0⟩,
  ⟨.datum, 0x7C, 1, 0x0, 1, 0x0, 0, 1, 0, 0, 0, 0, 0, 0, 0⟩,
  ⟨.datum, 0x80, 1, 0x0, 1, 0x0, 0, 1, 0x40, 0, 0xFFFFFFFF, 0, 0, 0, 0xFFFFFF8C⟩,
  ⟨.datum, 0x84, 1, 0x0, 1, 0x0, 0, 1, 0x77359400, 0, 0xFFFFFFFF, 0, 0, 0, 0⟩,
  ⟨.datum, 0x88, 1, 0x0, 1, 0x0, 0, 1, 0, 0, 0xFFFFFFFF, 0, 0, 0, 0⟩,
  ⟨.datum, 0x8C, 1, 0x0, 1, 0x0, 0, 1, 0xBEBC200, 0, 0xFFFFFFFF, 0, 0, 0, 0⟩,
  ⟨.datum, 0x90, 1, 0x0, 1, 0x0, 0, 2, 0, 0, 0, 0, 0, 0, 0⟩,
  ⟨.datum, 0x94, 1, 0x0, 1, 0x0, 1, 2, 0, 0, 0, 0, 0, 0, 0⟩,
  ⟨.datum, 0x98, 1, 0x0, 1, 0x0, 0, 1, 0, 0, 0, 0, 0, 0, 0⟩,
  ⟨.datum, 0x9C, 1, 0x0, 1, 0x0, 0, 1, 0, 0, 0, 0, 0, 0, 0⟩]

/-- Registers of the STAMP page (R106). -/
def rowsStamp : List RegRow := [
  ⟨.stamp, 0x40, 1, 0x0, 1, 0x0, 0, 1, 0x88F7, 0, 0xFFFFFFFF, 0, 0, 0, 0xFFFF0000⟩,
  ⟨.stamp, 0x44, 1, 0x0, 1, 0x0, 0, 3, 0, 0, 0, 0, 0, 0, 0⟩,
  ⟨.stamp, 0x48, 1, 0x0, 1, 0x0, 1, 3, 0, 0, 0, 0, 0, 0, 0⟩,
  ⟨.stamp, 0x4C, 1, 0x0, 1, 0x0, 2, 3, 0, 0, 0, 0, 0, 0, 0⟩,
  ⟨.stamp, 0x50, 1, 0x0, 1, 0x0, 0, 1, 0, 0, 0, 0, 0, 0, 0⟩,
  ⟨.stamp, 0x54, 1, 0x0, 1, 0x0, 0, 1, 0, 0, 0, 0, 0, 0, 0⟩,
  ⟨.stamp, 0x58, 1, 0x0, 1, 0x0, 0, 1, 0, 0, 0, 0, 0, 0, 0⟩,
  ⟨.stamp, 0x5C, 1, 0x0, 1, 0x0, 0, 1, 0, 0xFFFFFFFE, 0, 0, 0, 0x1, 0xFFFFFFFE⟩,
  ⟨.stamp, 0x100, 22, 0x20, 1, 0x0, 0, 1, 0, 0xFFFFFFFF, 0, 0, 0, 0, 0⟩,
  ⟨.stamp, 0x104, 22, 0x20, 1, 0x0, 0, 1, 0, 0, 0, 0, 0, 0, 0⟩,
  ⟨.stamp, 0x108, 22, 0x20, 1, 0x0, 0, 1, 0, 0xFFFFFFFF, 0, 0, 0, 0, 0⟩,
  ⟨.stamp, 0x10C, 22, 0x20, 1, 0x0, 0, 1, 0, 0, 0, 0, 0, 0, 0⟩,
  ⟨.stamp, 0x110, 22, 0x20, 1, 0x0, 0, 1, 0x1, 0, 0xFFFFFFFF, 0, 0, 0, 0xFFFFFFF8⟩,
  ⟨.stamp, 0x114, 22, 0x20, 3, 0x4, 0, 1, 0, 0, 0, 0, 0, 0, 0⟩,
  ⟨.stamp, 0x400, 40, 0x4, 1, 0x0, 0, 1, 0, 0, 0, 0, 0, 0, 0⟩]

/-- Registers of the MSCL page (R124). -/
def rowsMscl : List RegRow := [
  ⟨.mscl, 0x40, 1, 0x0, 1, 0x0, 0, 1, 0x343602, 0, 0xFFFFFFFF, 0, 0, 0, 0xFF0008F8⟩,
  ⟨.mscl, 0x44, 1, 0x0, 1, 0x0, 0, 1, 0x1E848, 0, 0xFFFFFFFF, 0, 0, 0, 0xFFF00000⟩,
  ⟨.mscl, 0x48, 1, 0x0, 1, 0x0, 0, 1, 0x2710, 0, 0xFFFFFFFF, 0, 0, 0, 0xFFF00000⟩,
  ⟨.mscl, 0x4C, 1, 0x0, 1, 0x0, 0, 1, 0x80008, 0, 0xFFFFFFFF, 0, 0, 0, 0⟩,
  ⟨.mscl, 0x50, 1, 0x0, 1, 0x0, 0, 1, 0xFA007D0, 0, 0xFFFFFFFF, 0, 0, 0, 0⟩,
  ⟨.mscl, 0x54, 1, 0x0, 1, 0x0, 0, 1, 0x10, 0, 0, 0, 0, 0, 0⟩,
  ⟨.mscl, 0x58, 1, 0x0, 1, 0x0, 0, 1, 0, 0, 0, 0, 0, 0, 0⟩,
  ⟨.mscl, 0x5C, 1, 0x0, 1, 0x0, 0, 1, 0, 0, 0, 0, 0, 0, 0⟩,
  ⟨.mscl, 0x60, 1, 0x0, 1, 0x0, 0, 1, 0, 0, 0, 0, 0, 0, 0⟩,
  ⟨.mscl, 0x64, 1, 0x0, 1, 0x0, 0, 1, 0, 0, 0, 0, 0, 0, 0⟩,
  ⟨.mscl, 0x68, 1, 0x0, 1, 0x0, 0, 1, 0, 0, 0, 0, 0, 0, 0⟩,
  ⟨.mscl, 0x6C, 1, 0x0, 1, 0x0, 0, 1, 0, 0, 0, 0, 0, 0, 0⟩,
  ⟨.mscl, 0x70, 1, 0x0, 1, 0x0, 0, 1, 0, 0, 0, 0, 0, 0, 0⟩,
  ⟨.mscl, 0x74, 1, 0x0, 1, 0x0, 0, 1, 0, 0, 0, 0, 0, 0, 0⟩,
  ⟨.mscl, 0x78, 1, 0x0, 1, 0x0, 0, 1, 0, 0, 0, 0, 0, 0, 0⟩,
  ⟨.mscl, 0x7C, 1, 0x0, 1, 0x0, 0, 1, 0, 0, 0, 0, 0, 0, 0⟩,
  ⟨.mscl, 0x80, 1, 0x0, 1, 0x0, 0, 1, 0, 0, 0, 0, 0, 0, 0⟩,
  ⟨.mscl, 0x90, 4, 0x4, 1, 0x0, 0, 1, 0, 0, 0, 0, 0, 0, 0⟩,
  ⟨.mscl, 0xA0, 1, 0x0, 1, 0x0, 0, 1, 0, 0, 0, 0, 0, 0, 0⟩]

/-- Registers of the CYCLE page (R152). -/
def rowsCycle : List RegRow := [
  ⟨.cycle, 0x40, 1, 0x0, 1, 0x0, 0, 1, 0x72, 0, 0xFFFFFFFF, 0, 0, 0, 0xFFFFFF88⟩,
  ⟨.cycle, 0x44, 1, 0x0, 1, 0x0, 0, 1, 0x7A120, 0, 0xFFFFFFFF, 0, 0, 0, 0xFE000000⟩,
  ⟨.cycle, 0x48, 1, 0x0, 1, 0x0, 0, 1, 0, 0, 0xFFFFFFFF, 0, 0, 0, 0xFE000000⟩,
  ⟨.cycle, 0x4C, 1, 0x0, 1, 0x0, 0, 1, 0, 0, 0xFFFFFFFF, 0, 0, 0, 0xFE000000⟩,
  ⟨.cycle, 0x50, 1, 0x0, 1, 0x0, 0, 1, 0, 0, 0xFFFFFFFF, 0, 0, 0, 0xFE000000⟩,
  ⟨.cycle, 0x54, 1, 0x0, 1, 0x0, 0, 1, 0, 0, 0xFFFFFFFF, 0, 0, 0, 0xFE000000⟩,
  ⟨.cycle, 0x58, 1, 0x0, 1, 0x0, 0, 1, 0x4E000001, 0, 0xFFFFFFFF, 0, 0, 0, 0⟩,
  ⟨.cycle, 0x5C, 1, 0x0, 1, 0x0, 0, 1, 0x35A, 0, 0xFFFFFFFF, 0, 0, 0, 0xFFFF0000⟩,
  ⟨.cycle, 0x60, 1, 0x0, 1, 0x0, 0, 1, 0, 0xFFFFFFFE, 0, 0, 0, 0x1, 0xFFFFFFFE⟩,
  ⟨.cycle, 0x64, 1, 0x0, 1, 0x0, 0, 1, 0, 0, 0, 0, 0, 0, 0⟩,
  ⟨.cycle, 0x68, 1, 0x0, 1, 0x0, 0, 1, 0, 0, 0, 0, 0, 0, 0⟩,
  ⟨.cycle, 0x6C, 1, 0x0, 1, 0x0, 0, 1, 0, 0, 0, 0, 0, 0, 0⟩,
  ⟨.cycle, 0x70, 1, 0x0, 1, 0x0, 0, 1, 0, 0, 0, 0, 0, 0, 0⟩,
  ⟨.cycle, 0x74, 1, 0x0, 1, 0x0, 0, 1, 0, 0, 0, 0, 0, 0, 0⟩,
  ⟨.cycle, 0x78, 1, 0x0, 1, 0x0, 0, 1, 0, 0, 0, 0, 0, 0, 0⟩,
  ⟨.cycle, 0x7C, 1, 0x0, 1, 0x0, 0, 1, 0, 0, 0, 0, 0, 0, 0⟩,
  ⟨.cycle, 0x800, 127, 0x10, 1, 0x0, 0, 1, 0, 0, 0xFFFFFFFF, 0, 0, 0, 0x3⟩,
  ⟨.cycle, 0x804, 127, 0x10, 1, 0x0, 0, 1, 0, 0, 0xFFFFFFFF, 0, 0, 0, 0xFE000000⟩,
  ⟨.cycle, 0x808, 127, 0x10, 1, 0x0, 0, 1, 0, 0, 0xFFFFFFFF, 0, 0, 0, 0xFE000000⟩,
  ⟨.cycle, 0x80C, 127, 0x10, 1, 0x0, 0, 1, 0, 0, 0xFFFFFFFF, 0, 0, 0, 0xFFFFFFFF⟩]

/-- Registers of the PLAT page (R156). -/
def rowsPlat : List RegRow := [
  ⟨.plat, 0x40, 1, 0x0, 1, 0x0, 0, 1, 0x3000, 0, 0xFFFFFFFF, 0, 0, 0, 0xFFFF0EFF⟩,
  ⟨.plat, 0x44, 1, 0x0, 1, 0x0, 0, 1, 0x1770, 0, 0xFFFFFFFF, 0, 0, 0, 0xFE000000⟩,
  ⟨.plat, 0x48, 1, 0x0, 1, 0x0, 0, 1, 0, 0, 0xFFFFFFFF, 0, 0, 0, 0xFE000000⟩,
  ⟨.plat, 0x4C, 1, 0x0, 1, 0x0, 0, 1, 0, 0, 0, 0, 0, 0, 0⟩,
  ⟨.plat, 0x50, 1, 0x0, 1, 0x0, 0, 1, 0, 0, 0, 0, 0, 0, 0⟩,
  ⟨.plat, 0x60, 4, 0x4, 1, 0x0, 0, 1, 0, 0, 0, 0, 0, 0, 0⟩,
  ⟨.plat, 0x70, 4, 0x4, 1, 0x0, 0, 1, 0, 0, 0, 0, 0, 0, 0⟩,
  ⟨.plat, 0x80, 1, 0x0, 1, 0x0, 0, 1, 0, 0, 0, 0, 0, 0, 0⟩,
  ⟨.plat, 0x84, 1, 0x0, 1, 0x0, 0, 1, 0, 0, 0, 0, 0, 0, 0⟩,
  ⟨.plat, 0x88, 1, 0x0, 1, 0x0, 0, 1, 0, 0, 0, 0, 0, 0, 0⟩,
  ⟨.plat, 0x8C, 1, 0x0, 1, 0x0, 0, 1, 0, 0, 0, 0, 0, 0, 0⟩,
  ⟨.plat, 0x90, 1, 0x0, 1, 0x0, 0, 1, 0, 0, 0, 0, 0, 0, 0⟩,
  ⟨.plat, 0x94, 1, 0x0, 1, 0x0, 0, 1, 0, 0, 0, 0, 0, 0, 0⟩,
  ⟨.plat, 0x400, 128, 0x8, 1, 0x0, 0, 1, 0, 0, 0xFFFFFFFF, 0, 0, 0, 0⟩,
  ⟨.plat, 0x404, 128, 0x8, 1, 0x0, 0, 1, 0, 0, 0xFFFFFFFF, 0, 0, 0, 0xFFC00000⟩]

/-- Registers of the STAKE page, part 0 (R183). -/
def rowsStake0 : List RegRow := [
  ⟨.stake, 0x40, 1, 0x0, 1, 0x0, 0, 1, 0x1F, 0, 0xFFFFFFFF, 0, 0, 0, 0xFFFFFFE0⟩,
  ⟨.stake, 0x44, 1, 0x0, 1, 0x0, 0, 1, 0x7D0, 0, 0xFFFFFFFF, 0, 0, 0, 0xFE000000⟩,
  ⟨.stake, 0x48, 1, 0x0, 1, 0x0, 0, 1, 0x989680, 0, 0xFFFFFFFF, 0, 0, 0, 0xFF000000⟩,
  ⟨.stake, 0x4C, 1, 0x0, 1, 0x0, 0, 1, 0x186A0, 0, 0xFFFFFFFF, 0, 0, 0, 0xFE000000⟩,
  ⟨.stake, 0x50, 1, 0x0, 1, 0x0, 0, 1, 0x4E000002, 0, 0xFFFFFFFF, 0, 0, 0, 0⟩,
  ⟨.stake, 0x54, 1, 0x0, 1, 0x0, 0, 1, 0x35A, 0, 0xFFFFFFFF, 0, 0, 0, 0xFFFF0000⟩,
  ⟨.stake, 0x60, 8, 0x4, 1, 0x0, 0, 1, 0, 0, 0, 0, 0xFFFFFFFF, 0, 0⟩,
  ⟨.stake, 0x80, 1, 0x0, 1, 0x0, 0, 1, 0, 0, 0, 0, 0, 0, 0⟩,
  ⟨.stake, 0x84, 1, 0x0, 1, 0x0, 0, 1, 0, 0, 0, 0, 0, 0, 0⟩,
  ⟨.stake, 0x88, 1, 0x0, 1, 0x0, 0, 2, 0xFFFFFFFF, 0, 0, 0, 0, 0, 0⟩,
  ⟨.stake, 0x8C, 1, 0x0, 1, 0x0, 1, 2, 0xFFFFFFFF, 0, 0, 0, 0, 0, 0⟩,
  ⟨.stake, 0xA0, 1, 0x0, 1, 0x0, 0, 1, 0, 0, 0, 0, 0, 0, 0⟩,
  ⟨.stake, 0xA4, 1, 0x0, 1, 0x0, 0, 1, 0, 0, 0, 0, 0, 0, 0⟩,
  ⟨.stake, 0xA8, 1, 0x0, 1, 0x0, 0, 2, 0, 0, 0, 0, 0, 0, 0⟩,
  ⟨.stake, 0xAC, 1, 0x0, 1, 0x0, 1, 2, 0, 0, 0, 0, 0, 0, 0⟩,
  ⟨.stake, 0xB0, 1, 0x0, 1, 0x0, 0, 2, 0, 0, 0, 0, 0, 0, 0⟩,
  ⟨.stake, 0xB4, 1, 0x0, 1, 0x0, 1, 2, 0, 0, 0, 0, 0, 0, 0⟩,
  ⟨.stake, 0xB8, 2, 0x4, 1, 0x0, 0, 1, 0, 0, 0, 0, 0, 0, 0⟩,
  ⟨.stake, 0xC0, 1, 0x0, 1, 0x0, 0, 1, 0, 0, 0, 0, 0, 0, 0⟩,
  ⟨.stake, 0xC4, 1, 0x0, 1, 0x0, 0, 1, 0, 0, 0, 0, 0, 0, 0⟩,
  ⟨.stake, 0xC8, 1, 0x0, 1, 0x0, 0, 1, 0, 0, 0, 0, 0, 0, 0⟩,
  ⟨.stake, 0xCC, 1, 0x0, 1, 0x0, 0, 1, 0, 0, 0, 0, 0, 0, 0⟩,
  ⟨.stake, 0xD0, 1, 0x0, 1, 0x0, 0, 1, 0, 0, 0, 0, 0, 0, 0⟩,
  ⟨.stake, 0xD4, 1, 0x0, 1, 0x0, 0, 1, 0, 0, 0, 0, 0, 0, 0⟩,
  ⟨.stake, 0xD8, 1, 0x0, 1, 0x0, 0, 1, 0, 0, 0, 0, 0, 0, 0⟩]

/-- Registers of the STAKE page, part 1 (R183). -/
def rowsStake1 : List RegRow := [
  ⟨.stake, 0xDC, 1, 0x0, 1, 0x0, 0, 1, 0, 0, 0, 0, 0, 0, 0⟩,
  ⟨.stake, 0xE0, 1, 0x0, 1, 0x0, 0, 1, 0, 0, 0, 0, 0, 0, 0⟩,
  ⟨.stake, 0xE4, 1, 0x0, 1, 0x0, 0, 1, 0, 0, 0, 0, 0xFFFFFFFF, 0, 0⟩]

/-- Registers of the CREW page (R213). -/
def rowsCrew : List RegRow := [
  ⟨.crew, 0x40, 1, 0x0, 1, 0x0, 0, 1, 0, 0xFFFFFFFE, 0, 0, 0, 0x1, 0xFFFFFFFC⟩,
  ⟨.crew, 0x44, 1, 0x0, 1, 0x0, 0, 1, 0, 0, 0, 0, 0, 0, 0⟩,
  ⟨.crew, 0x48, 1, 0x0, 1, 0x0, 0, 1, 0, 0, 0, 0, 0xFFFFFFFF, 0, 0⟩,
  ⟨.crew, 0x4C, 1, 0x0, 1, 0x0, 0, 1, 0, 0, 0, 0xFF, 0, 0, 0⟩,
  ⟨.crew, 0x50, 1, 0x0, 1, 0x0, 0, 1, 0, 0, 0, 0, 0xFFFFFFFF, 0, 0⟩,
  ⟨.crew, 0x60, 1, 0x0, 1, 0x0, 0, 1, 0, 0xFFFFFFFF, 0, 0, 0, 0, 0x80808080⟩,
  ⟨.crew, 0x64, 1, 0x0, 1, 0x0, 0, 1, 0, 0xFFFFFFFF, 0, 0, 0, 0, 0x80808080⟩,
  ⟨.crew, 0x70, 4, 0x4, 1, 0x0, 0, 1, 0, 0xFFFFFFFF, 0, 0, 0, 0, 0⟩,
  ⟨.crew, 0x80, 1, 0x0, 1, 0x0, 0, 1, 0, 0, 0, 0, 0, 0, 0⟩,
  ⟨.crew, 0x84, 1, 0x0, 1, 0x0, 0, 1, 0, 0, 0, 0, 0, 0, 0⟩,
  ⟨.crew, 0x88, 1, 0x0, 1, 0x0, 0, 1, 0, 0, 0, 0, 0, 0, 0⟩,
  ⟨.crew, 0x800, 256, 0x4, 1, 0x0, 0, 1, 0, 0xFFFFFFFF, 0, 0, 0, 0, 0⟩]

/-- Registers of the ENG page (R217). -/
def rowsEng : List RegRow := [
  ⟨.eng, 0x40, 1, 0x0, 1, 0x0, 0, 1, 0xC0000, 0, 0xFFFFFFFF, 0, 0, 0, 0x1FFF⟩,
  ⟨.eng, 0x44, 1, 0x0, 1, 0x0, 0, 1, 0, 0, 0xFFFFFFFF, 0, 0, 0, 0⟩,
  ⟨.eng, 0x48, 1, 0x0, 1, 0x0, 0, 1, 0, 0, 0xFFFFFFFF, 0, 0, 0, 0⟩,
  ⟨.eng, 0x4C, 1, 0x0, 1, 0x0, 0, 1, 0, 0, 0xFFFFFFFF, 0, 0, 0, 0⟩,
  ⟨.eng, 0x50, 1, 0x0, 1, 0x0, 0, 1, 0x100, 0, 0xFFFFFFFF, 0, 0, 0, 0xFF000000⟩,
  ⟨.eng, 0x54, 1, 0x0, 1, 0x0, 0, 1, 0, 0, 0, 0, 0, 0, 0⟩,
  ⟨.eng, 0x58, 1, 0x0, 1, 0x0, 0, 1, 0, 0xFFFFFFFF, 0, 0, 0, 0, 0⟩,
  ⟨.eng, 0x5C, 1, 0x0, 1, 0x0, 0, 1, 0, 0xFFFFFFFF, 0, 0, 0, 0, 0⟩,
  ⟨.eng, 0x60, 1, 0x0, 1, 0x0, 0, 1, 0, 0xFFFFFFFF, 0, 0, 0, 0, 0⟩,
  ⟨.eng, 0x64, 1, 0x0, 1, 0x0, 0, 1, 0, 0xFFFFFFFF, 0, 0, 0, 0, 0⟩,
  ⟨.eng, 0x68, 1, 0x0, 1, 0x0, 0, 1, 0, 0, 0, 0, 0, 0, 0⟩,
  ⟨.eng, 0x6C, 1, 0x0, 1, 0x0, 0, 1, 0, 0, 0, 0, 0xFFFFFFFF, 0, 0⟩,
  ⟨.eng, 0x70, 1, 0x0, 1, 0x0, 0, 1, 0, 0xFFFFFFFE, 0, 0, 0, 0x1, 0xFFFFFFFE⟩,
  ⟨.eng, 0x74, 1, 0x0, 1, 0x0, 0, 1, 0, 0, 0, 0, 0xFFFFFFFF, 0, 0⟩,
  ⟨.eng, 0x78, 1, 0x0, 1, 0x0, 0, 1, 0, 0, 0, 0, 0, 0, 0⟩,
  ⟨.eng, 0x7C, 1, 0x0, 1, 0x0, 0, 1, 0, 0, 0, 0, 0, 0, 0⟩,
  ⟨.eng, 0x80, 1, 0x0, 1, 0x0, 0, 1, 0, 0, 0, 0, 0, 0, 0⟩,
  ⟨.eng, 0x84, 1, 0x0, 1, 0x0, 0, 1, 0, 0, 0, 0, 0, 0, 0⟩,
  ⟨.eng, 0x88, 1, 0x0, 1, 0x0, 0, 1, 0, 0, 0, 0, 0, 0, 0⟩,
  ⟨.eng, 0x8C, 1, 0x0, 1, 0x0, 0, 1, 0, 0, 0, 0, 0, 0, 0⟩,
  ⟨.eng, 0x90, 1, 0x0, 1, 0x0, 0, 1, 0, 0xFFFFFFFF, 0, 0, 0, 0, 0⟩]

/-- Registers of the PINMUX page (R222). -/
def rowsPinmux : List RegRow := [
  ⟨.pinmux, 0x40, 1, 0x0, 1, 0x0, 0, 1, 0, 0, 0xFFFFFFFF, 0, 0, 0, 0xFFFFFFFC⟩,
  ⟨.pinmux, 0x44, 1, 0x0, 1, 0x0, 0, 1, 0, 0, 0, 0, 0, 0, 0⟩,
  ⟨.pinmux, 0x48, 2, 0x4, 1, 0x0, 0, 1, 0, 0xFFFFFFFF, 0, 0, 0, 0, 0⟩,
  ⟨.pinmux, 0x50, 2, 0x4, 1, 0x0, 0, 1, 0, 0xFFFFFFFF, 0, 0, 0, 0, 0⟩,
  ⟨.pinmux, 0x58, 2, 0x4, 1, 0x0, 0, 1, 0, 0, 0, 0, 0, 0, 0⟩,
  ⟨.pinmux, 0x100, 64, 0x4, 1, 0x0, 0, 1, 0x21000, 0, 0xFFFFFFFF, 0, 0, 0, 0xFFFC00F0⟩]

/-- Registers of the BOOK page (R275). -/
def rowsBook : List RegRow := [
  ⟨.book, 0x40, 1, 0x0, 1, 0x0, 0, 1, 0x2000003, 0, 0xFFFFFFFF, 0, 0, 0, 0xF000FFF8⟩,
  ⟨.book, 0x44, 1, 0x0, 1, 0x0, 0, 1, 0, 0, 0, 0, 0, 0, 0⟩,
  ⟨.book, 0x48, 1, 0x0, 1, 0x0, 0, 1, 0, 0, 0, 0, 0, 0, 0⟩,
  ⟨.book, 0x4C, 1, 0x0, 1, 0x0, 0, 1, 0, 0, 0, 0, 0, 0, 0⟩,
  ⟨.book, 0x50, 1, 0x0, 1, 0x0, 0, 1, 0x60, 0, 0xFFFFFFFF, 0, 0, 0, 0xFFFFFF06⟩,
  ⟨.book, 0x54, 1, 0x0, 1, 0x0, 0, 2, 0, 0, 0xFFFFFFFF, 0, 0, 0, 0⟩,
  ⟨.book, 0x58, 1, 0x0, 1, 0x0, 1, 2, 0, 0, 0xFFFFFFFF, 0, 0, 0, 0⟩,
  ⟨.book, 0x5C, 1, 0x0, 1, 0x0, 0, 2, 0, 0, 0xFFFFFFFF, 0, 0, 0, 0⟩,
  ⟨.book, 0x60, 1, 0x0, 1, 0x0, 1, 2, 0, 0, 0xFFFFFFFF, 0, 0, 0, 0⟩,
  ⟨.book, 0x64, 1, 0x0, 1, 0x0, 0, 1, 0, 0xFFFFFFFF, 0, 0, 0, 0, 0⟩,
  ⟨.book, 0x68, 1, 0x0, 1, 0x0, 0, 1, 0, 0, 0, 0, 0, 0, 0⟩,
  ⟨.book, 0x6C, 1, 0x0, 1, 0x0, 0, 1, 0x3E82CA0, 0, 0xFFFFFFFF, 0, 0, 0, 0x1E⟩,
  ⟨.book, 0x70, 1, 0x0, 1, 0x0, 0, 1, 0x4E000003, 0, 0xFFFFFFFF, 0, 0, 0, 0⟩,
  ⟨.book, 0x74, 1, 0x0, 1, 0x0, 0, 1, 0x35A, 0, 0xFFFFFFFF, 0, 0, 0, 0xFFFF0000⟩,
  ⟨.book, 0x78, 1, 0x0, 1, 0x0, 0, 1, 0, 0, 0, 0, 0, 0, 0⟩,
  ⟨.book, 0x7C, 1, 0x0, 1, 0x0, 0, 1, 0, 0, 0, 0, 0, 0, 0⟩,
  ⟨.book, 0x80, 1, 0x0, 1, 0x0, 0, 1, 0, 0, 0, 0, 0, 0, 0⟩,
  ⟨.book, 0x84, 1, 0x0, 1, 0x0, 0, 1, 0, 0, 0, 0, 0, 0, 0⟩,
  ⟨.book, 0x88, 1, 0x0, 1, 0x0, 0, 1, 0, 0, 0, 0, 0, 0, 0⟩,
  ⟨.book, 0x8C, 1, 0x0, 1, 0x0, 0, 1, 0, 0, 0, 0, 0, 0, 0⟩,
  ⟨.book, 0x90, 1, 0x0, 1, 0x0, 0, 1, 0, 0, 0, 0, 0, 0, 0⟩]

/-- Registers of the EDGE page (R271). -/
def rowsEdge : List RegRow := [
  ⟨.edge, 0x40, 8, 0x10, 1, 0x0, 0, 1, 0, 0, 0xFFFFFFFF, 0, 0, 0, 0⟩,
  ⟨.edge, 0x44, 8, 0x10, 1, 0x0, 0, 1, 0, 0, 0xFFFFFFFF, 0, 0, 0, 0⟩,
  ⟨.edge, 0x48, 8, 0x10, 1, 0x0, 0, 1, 0, 0, 0xFFFFFFFF, 0, 0, 0, 0xFF000000⟩,
  ⟨.edge, 0x4C, 8, 0x10, 1, 0x0, 0, 1, 0, 0, 0xFFFFFFFF, 0, 0, 0, 0⟩,
  ⟨.edge, 0xC0, 1, 0x0, 1, 0x0, 0, 1, 0, 0, 0, 0, 0, 0, 0⟩,
  ⟨.edge, 0xC4, 1, 0x0, 1, 0x0, 0, 1, 0, 0, 0, 0, 0, 0, 0⟩,
  ⟨.edge, 0xC8, 1, 0x0, 1, 0x0, 0, 1, 0, 0, 0, 0, 0, 0, 0⟩,
  ⟨.edge, 0xCC, 1, 0x0, 1, 0x0, 0, 1, 0, 0, 0, 0, 0, 0, 0⟩,
  ⟨.edge, 0xD0, 2, 0x4, 1, 0x0, 0, 1, 0, 0, 0, 0, 0, 0, 0⟩,
  ⟨.edge, 0xD8, 2, 0x4, 1, 0x0, 0, 1, 0, 0, 0, 0, 0, 0, 0⟩,
  ⟨.edge, 0xE0, 2, 0x4, 1, 0x0, 0, 1, 0, 0, 0, 0, 0, 0, 0⟩,
  ⟨.edge, 0x100, 64, 0x4, 1, 0x0, 0, 1, 0x1E0, 0, 0xFFFFFFFF, 0, 0, 0, 0xFFFFF01E⟩]

/-- Registers of the CAN page, part 0 (R304). -/
def rowsCan0 : List RegRow := [
  ⟨.can, 0x40, 1, 0x0, 1, 0x0, 0, 1, 0x1, 0, 0xFFFFFFFF, 0, 0, 0, 0xFFFFFFE0⟩,
  ⟨.can, 0x44, 1, 0x0, 1, 0x0, 0, 1, 0x207E4002, 0, 0xFFFFFFFF, 0, 0, 0, 0x300⟩,
  ⟨.can, 0x48, 1, 0x0, 1, 0x0, 0, 1, 0x11F80001, 0, 0xFFFFFFFF, 0, 0, 0, 0xE000FFE0⟩,
  ⟨.can, 0x4C, 1, 0x0, 1, 0x0, 0, 1, 0x20, 0, 0xFFFFFFFF, 0, 0, 0, 0xFFFFFF80⟩,
  ⟨.can, 0x50, 1, 0x0, 1, 0x0, 0, 1, 0x330, 0, 0, 0, 0, 0, 0⟩,
  ⟨.can, 0x54, 1, 0x0, 1, 0x0, 0, 1, 0, 0, 0, 0, 0, 0, 0⟩,
  ⟨.can, 0x58, 1, 0x0, 1, 0x0, 0, 1, 0, 0, 0, 0, 0, 0, 0⟩,
  ⟨.can, 0x5C, 1, 0x0, 1, 0x0, 0, 1, 0, 0, 0, 0, 0, 0, 0⟩,
  ⟨.can, 0x60, 1, 0x0, 1, 0x0, 0, 1, 0, 0, 0, 0, 0, 0, 0⟩,
  ⟨.can, 0x64, 1, 0x0, 1, 0x0, 0, 1, 0, 0, 0, 0, 0, 0, 0⟩,
  ⟨.can, 0x68, 1, 0x0, 1, 0x0, 0, 1, 0, 0, 0, 0, 0, 0, 0⟩,
  ⟨.can, 0x6C, 1, 0x0, 1, 0x0, 0, 1, 0, 0, 0, 0, 0, 0, 0⟩,
  ⟨.can, 0x70, 1, 0x0, 1, 0x0, 0, 1, 0, 0, 0, 0, 0, 0, 0⟩,
  ⟨.can, 0x74, 1, 0x0, 1, 0x0, 0, 1, 0, 0, 0, 0, 0, 0, 0⟩,
  ⟨.can, 0x78, 1, 0x0, 1, 0x0, 0, 1, 0, 0, 0, 0, 0, 0, 0⟩,
  ⟨.can, 0x7C, 1, 0x0, 1, 0x0, 0, 1, 0, 0, 0, 0, 0, 0, 0⟩,
  ⟨.can, 0x80, 1, 0x0, 1, 0x0, 0, 1, 0, 0, 0, 0, 0, 0, 0⟩,
  ⟨.can, 0x84, 1, 0x0, 1, 0x0, 0, 1, 0, 0, 0, 0, 0, 0, 0⟩,
  ⟨.can, 0x88, 1, 0x0, 1, 0x0, 0, 1, 0, 0, 0, 0, 0, 0, 0⟩,
  ⟨.can, 0x8C, 1, 0x0, 1, 0x0, 0, 1, 0, 0, 0, 0, 0, 0, 0⟩,
  ⟨.can, 0x90, 1, 0x0, 1, 0x0, 0, 1, 0, 0xFFFFFFF8, 0, 0, 0, 0x7, 0xFFFFFFF8⟩,
  ⟨.can, 0x94, 1, 0x0, 1, 0x0, 0, 1, 0, 0xFFFFFFF8, 0, 0, 0, 0x7, 0xFFFFFFF8⟩,
  ⟨.can, 0x98, 1, 0x0, 1, 0x0, 0, 1, 0, 0, 0, 0, 0, 0, 0⟩,
  ⟨.can, 0xA0, 3, 0x8, 1, 0x0, 0, 2, 0, 0, 0, 0, 0, 0, 0⟩,
  ⟨.can, 0xA4, 3, 0x8, 1, 0x0, 1, 2, 0, 0, 0, 0, 0, 0, 0⟩]

/-- Registers of the CAN page, part 1 (R304). -/
def rowsCan1 : List RegRow := [
  ⟨.can, 0xC0, 1, 0x0, 1, 0x0, 0, 1, 0, 0, 0xFFFFFFFF, 0, 0, 0, 0xFFFFFFFC⟩,
  ⟨.can, 0xC4, 1, 0x0, 1, 0x0, 0, 1, 0, 0, 0xFFFFFFFF, 0, 0, 0, 0x60000000⟩,
  ⟨.can, 0xC8, 1, 0x0, 1, 0x0, 0, 1, 0x989680, 0, 0xFFFFFFFF, 0, 0, 0, 0⟩,
  ⟨.can, 0xCC, 1, 0x0, 1, 0x0, 0, 1, 0, 0, 0xFFFFFFFF, 0, 0, 0, 0⟩,
  ⟨.can, 0xD0, 1, 0x0, 1, 0x0, 0, 1, 0, 0, 0, 0, 0, 0, 0⟩,
  ⟨.can, 0xE0, 1, 0x0, 1, 0x0, 0, 2, 0, 0, 0, 0, 0, 0, 0⟩,
  ⟨.can, 0xE4, 1, 0x0, 1, 0x0, 1, 2, 0, 0, 0, 0, 0, 0, 0⟩,
  ⟨.can, 0xE8, 1, 0x0, 1, 0x0, 0, 2, 0, 0, 0, 0, 0, 0, 0⟩,
  ⟨.can, 0xEC, 1, 0x0, 1, 0x0, 1, 2, 0, 0, 0, 0, 0, 0, 0⟩,
  ⟨.can, 0xF0, 1, 0x0, 1, 0x0, 0, 1, 0, 0, 0, 0, 0, 0, 0⟩,
  ⟨.can, 0x100, 1, 0x0, 1, 0x0, 0, 1, 0, 0, 0, 0, 0, 0, 0⟩,
  ⟨.can, 0x104, 1, 0x0, 1, 0x0, 0, 1, 0, 0, 0, 0, 0, 0, 0⟩,
  ⟨.can, 0x108, 1, 0x0, 1, 0x0, 0, 1, 0, 0, 0, 0, 0xFFFFFFFF, 0, 0⟩,
  ⟨.can, 0x200, 32, 0x8, 1, 0x0, 0, 1, 0, 0, 0xFFFFFFFF, 0, 0, 0, 0⟩,
  ⟨.can, 0x204, 32, 0x8, 1, 0x0, 0, 1, 0, 0, 0xFFFFFFFF, 0, 0, 0, 0xE0000000⟩,
  ⟨.can, 0x300, 3, 0x80, 1, 0x0, 0, 1, 0, 0xFFFFFFFF, 0, 0, 0, 0, 0⟩,
  ⟨.can, 0x304, 3, 0x80, 1, 0x0, 0, 1, 0, 0xFFFFFFFF, 0, 0, 0, 0, 0xFFFFF0E0⟩,
  ⟨.can, 0x308, 3, 0x80, 14, 0x4, 0, 1, 0, 0, 0, 0, 0, 0, 0⟩,
  ⟨.can, 0x340, 3, 0x80, 16, 0x4, 0, 1, 0, 0xFFFFFFFF, 0, 0, 0, 0, 0⟩,
  ⟨.can, 0x600, 32, 0x50, 1, 0x0, 0, 2, 0, 0, 0, 0, 0, 0, 0⟩,
  ⟨.can, 0x604, 32, 0x50, 1, 0x0, 1, 2, 0, 0, 0, 0, 0, 0, 0⟩,
  ⟨.can, 0x608, 32, 0x50, 1, 0x0, 0, 1, 0, 0, 0, 0, 0, 0, 0⟩,
  ⟨.can, 0x60C, 32, 0x50, 1, 0x0, 0, 1, 0, 0, 0, 0, 0, 0, 0⟩,
  ⟨.can, 0x610, 32, 0x50, 16, 0x4, 0, 1, 0, 0, 0, 0, 0, 0, 0⟩]

/-- Registers of the PORT page, part 0 (R329). -/
def rowsPort0 : List RegRow := [
  ⟨.port, 0x40, 1, 0x0, 1, 0x0, 0, 1, 0xA0, 0, 0xFFFFFFFF, 0, 0, 0, 0xFFFFE400⟩,
  ⟨.port, 0x44, 1, 0x0, 1, 0x0, 0, 1, 0x32000A, 0, 0xFFFFFFFF, 0, 0, 0, 0⟩,
  ⟨.port, 0x48, 1, 0x0, 1, 0x0, 0, 1, 0x1F4, 0, 0xFFFFFFFF, 0, 0, 0, 0xFFFF0000⟩,
  ⟨.port, 0x4C, 1, 0x0, 1, 0x0, 0, 1, 0xC8, 0, 0xFFFFFFFF, 0, 0, 0, 0xFFFF0000⟩,
  ⟨.port, 0x50, 1, 0x0, 1, 0x0, 0, 1, 0x1, 0, 0xFFFFFFFF, 0, 0, 0, 0xFFF8000⟩,
  ⟨.port, 0x54, 1, 0x0, 1, 0x0, 0, 1, 0xFAC688, 0, 0xFFFFFFFF, 0, 0, 0, 0xFF000000⟩,
  ⟨.port, 0x58, 1, 0x0, 1, 0x0, 0, 1, 0x600, 0, 0xFFFFFFFF, 0, 0, 0, 0xFFFF0000⟩,
  ⟨.port, 0x5C, 1, 0x0, 1, 0x0, 0, 1, 0x6, 0, 0xFFFFFFFF, 0, 0, 0, 0xFFFFFFF8⟩,
  ⟨.port, 0x60, 1, 0x0, 1, 0x0, 0, 1, 0xFFFF, 0, 0xFFFFFFFF, 0, 0, 0, 0xFFFF0000⟩,
  ⟨.port, 0x64, 1, 0x0, 1, 0x0, 0, 1, 0x2000100, 0, 0xFFFFFFFF, 0, 0, 0, 0⟩,
  ⟨.port, 0x68, 1, 0x0, 1, 0x0, 0, 1, 0, 0, 0, 0, 0, 0, 0⟩,
  ⟨.port, 0x6C, 1, 0x0, 1, 0x0, 0, 1, 0, 0, 0, 0, 0, 0, 0⟩,
  ⟨.port, 0x70, 4, 0x4, 1, 0x0, 0, 1, 0, 0, 0, 0, 0, 0, 0⟩,
  ⟨.port, 0x80, 8, 0x4, 1, 0x0, 0, 1, 0x400, 0, 0xFFFFFFFF, 0, 0, 0, 0xFFFF8000⟩,
  ⟨.port, 0xA0, 1, 0x0, 1, 0x0, 0, 1, 0, 0xFFFFFFFE, 0, 0, 0, 0x1, 0xFFFFFFFC⟩,
  ⟨.port, 0xA4, 1, 0x0, 1, 0x0, 0, 2, 0, 0, 0, 0, 0, 0, 0⟩,
  ⟨.port, 0xA8, 1, 0x0, 1, 0x0, 1, 2, 0, 0, 0, 0, 0, 0, 0⟩,
  ⟨.port, 0xB0, 1, 0x0, 1, 0x0, 0, 1, 0, 0xFFFFFFF0, 0x3, 0, 0, 0x8, 0xFFFFFFF0⟩,
  ⟨.port, 0xB4, 1, 0x0, 1, 0x0, 0, 1, 0x10001, 0xFFFFFFFF, 0, 0, 0, 0, 0xFF80FF80⟩,
  ⟨.port, 0xB8, 1, 0x0, 1, 0x0, 0, 1, 0x7A120, 0, 0xFFFFFFFF, 0, 0, 0, 0xFE000000⟩,
  ⟨.port, 0xBC, 1, 0x0, 1, 0x0, 0, 1, 0, 0, 0xFFFFFFFF, 0, 0, 0, 0xFE000000⟩,
  ⟨.port, 0x200, 20, 0x8, 1, 0x0, 0, 2, 0, 0, 0, 0, 0, 0, 0⟩,
  ⟨.port, 0x204, 20, 0x8, 1, 0x0, 1, 2, 0, 0, 0, 0, 0, 0, 0⟩,
  ⟨.port, 0x300, 20, 0x8, 1, 0x0, 0, 2, 0, 0, 0, 0, 0, 0, 0⟩,
  ⟨.port, 0x304, 20, 0x8, 1, 0x0, 1, 2, 0, 0, 0, 0, 0, 0, 0⟩]

/-- Registers of the PORT page, part 1 (R329). -/
def rowsPort1 : List RegRow := [
  ⟨.port, 0x400, 2, 0x100, 64, 0x4, 0, 1, 0xFF03D090, 0xFFFFFFFF, 0, 0, 0, 0, 0⟩]

/-- Registers of the SWITCH page (R363). -/
def rowsSwitch : List RegRow := [
  ⟨.switch, 0x40, 1, 0x0, 1, 0x0, 0, 1, 0x1, 0, 0xFFFFFFFF, 0, 0, 0, 0xFFFFFFFE⟩,
  ⟨.switch, 0x44, 1, 0x0, 1, 0x0, 0, 1, 0x88B5, 0, 0xFFFFFFFF, 0, 0, 0, 0xFFFF0000⟩,
  ⟨.switch, 0x48, 1, 0x0, 1, 0x0, 0, 1, 0xFA0, 0, 0xFFFFFFFF, 0, 0, 0, 0xFFFF0000⟩,
  ⟨.switch, 0x50, 4, 0x4, 1, 0x0, 0, 1, 0, 0, 0xFFFFFFFF, 0, 0, 0, 0xFFC0007F⟩,
  ⟨.switch, 0x60, 1, 0x0, 1, 0x0, 0, 1, 0, 0, 0, 0, 0, 0, 0⟩,
  ⟨.switch, 0x64, 1, 0x0, 1, 0x0, 0, 1, 0, 0, 0, 0, 0, 0, 0⟩,
  ⟨.switch, 0x68, 1, 0x0, 1, 0x0, 0, 1, 0, 0, 0, 0, 0, 0, 0⟩,
  ⟨.switch, 0x6C, 1, 0x0, 1, 0x0, 0, 1, 0, 0, 0, 0, 0, 0, 0⟩,
  ⟨.switch, 0x70, 1, 0x0, 1, 0x0, 0, 1, 0, 0, 0, 0, 0, 0, 0⟩,
  ⟨.switch, 0x74, 1, 0x0, 1, 0x0, 0, 1, 0, 0, 0, 0, 0, 0, 0⟩,
  ⟨.switch, 0x80, 22, 0x4, 1, 0x0, 0, 1, 0x7FFFFF, 0, 0xFFFFFFFF, 0, 0, 0, 0xFF800000⟩]

/-- Registers of the FDB page (R365). -/
def rowsFdb : List RegRow := [
  ⟨.fdb, 0x40, 1, 0x0, 1, 0x0, 0, 1, 0x12C0001, 0, 0xFFFFFFFF, 0, 0, 0, 0xFFFE⟩,
  ⟨.fdb, 0x44, 1, 0x0, 1, 0x0, 0, 1, 0, 0xFFFFFFFE, 0, 0, 0, 0x1, 0xE000FFF0⟩,
  ⟨.fdb, 0x48, 1, 0x0, 1, 0x0, 0, 1, 0, 0xFFFFFFFF, 0, 0, 0, 0, 0⟩,
  ⟨.fdb, 0x4C, 1, 0x0, 1, 0x0, 0, 1, 0, 0xFFFFFFFF, 0, 0, 0, 0, 0xF0000000⟩,
  ⟨.fdb, 0x50, 1, 0x0, 1, 0x0, 0, 1, 0, 0xFFFFFFFF, 0, 0, 0, 0, 0x1F800000⟩,
  ⟨.fdb, 0x54, 1, 0x0, 1, 0x0, 0, 1, 0, 0, 0, 0, 0, 0, 0⟩,
  ⟨.fdb, 0x58, 1, 0x0, 1, 0x0, 0, 1, 0, 0, 0, 0, 0, 0, 0⟩,
  ⟨.fdb, 0x5C, 1, 0x0, 1, 0x0, 0, 1, 0, 0, 0, 0, 0, 0, 0⟩,
  ⟨.fdb, 0x60, 1, 0x0, 1, 0x0, 0, 1, 0, 0, 0, 0, 0, 0, 0⟩,
  ⟨.fdb, 0x64, 1, 0x0, 1, 0x0, 0, 1, 0, 0, 0, 0, 0, 0, 0⟩]

/-- Registers of the HSR page (R367). -/
def rowsHsr : List RegRow := [
  ⟨.hsr, 0x40, 1, 0x0, 1, 0x0, 0, 1, 0x3, 0, 0xFFFFFFFF, 0, 0, 0, 0xFFFFFFFC⟩,
  ⟨.hsr, 0x44, 1, 0x0, 1, 0x0, 0, 1, 0x2710, 0, 0xFFFFFFFF, 0, 0, 0, 0xFFF80000⟩,
  ⟨.hsr, 0x48, 1, 0x0, 1, 0x0, 0, 1, 0, 0, 0, 0, 0, 0, 0⟩,
  ⟨.hsr, 0x4C, 1, 0x0, 1, 0x0, 0, 1, 0, 0, 0, 0, 0, 0, 0⟩,
  ⟨.hsr, 0x50, 1, 0x0, 1, 0x0, 0, 1, 0, 0, 0, 0, 0, 0, 0⟩,
  ⟨.hsr, 0x54, 1, 0x0, 1, 0x0, 0, 1, 0, 0, 0, 0, 0, 0, 0⟩,
  ⟨.hsr, 0x58, 1, 0x0, 1, 0x0, 0, 1, 0, 0, 0, 0, 0, 0, 0⟩,
  ⟨.hsr, 0x5C, 1, 0x0, 1, 0x0, 0, 1, 0, 0, 0, 0, 0, 0, 0⟩,
  ⟨.hsr, 0x60, 1, 0x0, 1, 0x0, 0, 1, 0, 0, 0, 0, 0, 0, 0⟩,
  ⟨.hsr, 0x64, 1, 0x0, 1, 0x0, 0, 1, 0, 0, 0, 0, 0, 0, 0⟩]

/-- Registers of the CAPTURE page (R369). -/
def rowsCapture : List RegRow := [
  ⟨.capture, 0x40, 1, 0x0, 1, 0x0, 0, 1, 0x1000000, 0, 0xFFFFFFFF, 0, 0, 0, 0xFC00FFFE⟩,
  ⟨.capture, 0x44, 1, 0x0, 1, 0x0, 0, 1, 0, 0, 0, 0, 0, 0, 0⟩,
  ⟨.capture, 0x48, 1, 0x0, 1, 0x0, 0, 1, 0, 0xFFFFFFFF, 0, 0, 0, 0, 0⟩,
  ⟨.capture, 0x4C, 1, 0x0, 1, 0x0, 0, 1, 0, 0, 0, 0, 0, 0, 0⟩,
  ⟨.capture, 0x100, 16, 0x10, 1, 0x0, 0, 1, 0, 0, 0xFFFFFFFF, 0, 0, 0, 0x1F0000⟩,
  ⟨.capture, 0x104, 16, 0x10, 1, 0x0, 0, 1, 0, 0, 0xFFFFFFFF, 0, 0, 0, 0xFFC00000⟩,
  ⟨.capture, 0x108, 16, 0x10, 1, 0x0, 0, 1, 0, 0, 0xFFFFFFFF, 0, 0, 0, 0⟩,
  ⟨.capture, 0x10C, 16, 0x10, 1, 0x0, 0, 1, 0, 0, 0xFFFFFFFF, 0, 0, 0, 0xFFFE0000⟩]

/-- Registers of the BUFMEM page (R371). -/
def rowsBufmem : List RegRow := [
  ⟨.bufmem, 0x40, 1, 0x0, 1, 0x0, 0, 1, 0x10100, 0, 0xFFFFFFFF, 0, 0, 0, 0xFFFE8000⟩,
  ⟨.bufmem, 0x44, 1, 0x0, 1, 0x0, 0, 1, 0xA, 0, 0xFFFFFFFF, 0, 0, 0, 0xFFFF0000⟩,
  ⟨.bufmem, 0x48, 1, 0x0, 1, 0x0, 0, 1, 0x3E80010, 0, 0xFFFFFFFF, 0, 0, 0, 0⟩,
  ⟨.bufmem, 0x4C, 1, 0x0, 1, 0x0, 0, 1, 0, 0, 0, 0, 0, 0, 0⟩,
  ⟨.bufmem, 0x50, 1, 0x0, 1, 0x0, 0, 1, 0x4000, 0, 0, 0, 0, 0, 0⟩,
  ⟨.bufmem, 0x54, 1, 0x0, 1, 0x0, 0, 1, 0, 0xFFFFFCFF, 0, 0, 0, 0x300, 0xFFFFFCF0⟩,
  ⟨.bufmem, 0x58, 1, 0x0, 1, 0x0, 0, 1, 0, 0, 0, 0, 0, 0, 0⟩,
  ⟨.bufmem, 0x60, 9, 0x4, 1, 0x0, 0, 1, 0, 0, 0, 0, 0, 0, 0⟩,
  ⟨.bufmem, 0x90, 9, 0x4, 1, 0x0, 0, 1, 0, 0, 0, 0, 0, 0, 0⟩]

/-- Registers of the BRIDGE page, part 0 (R391). -/
def rowsBridge0 : List RegRow := [
  ⟨.bridge, 0x40, 1, 0x0, 1, 0x0, 0, 1, 0, 0, 0xFFFFFFFF, 0, 0, 0, 0xFFFFFFF8⟩,
  ⟨.bridge, 0x44, 1, 0x0, 1, 0x0, 0, 1, 0x2710, 0, 0xFFFFFFFF, 0, 0, 0, 0⟩,
  ⟨.bridge, 0x48, 1, 0x0, 1, 0x0, 0, 1, 0x640000, 0, 0xFFFFFFFF, 0, 0, 0, 0xFFFE⟩,
  ⟨.bridge, 0x4C, 1, 0x0, 1, 0x0, 0, 1, 0x3C0000, 0, 0xFFFFFFFF, 0, 0, 0, 0⟩,
  ⟨.bridge, 0x50, 1, 0x0, 1, 0x0, 0, 1, 0, 0, 0, 0, 0, 0, 0⟩,
  ⟨.bridge, 0x54, 1, 0x0, 1, 0x0, 0, 1, 0, 0xFFFFFFFE, 0, 0, 0, 0x1, 0xFFFFFFFE⟩,
  ⟨.bridge, 0x58, 1, 0x0, 1, 0x0, 0, 1, 0, 0, 0, 0, 0, 0, 0⟩,
  ⟨.bridge, 0x5C, 1, 0x0, 1, 0x0, 0, 1, 0, 0, 0, 0, 0, 0, 0⟩,
  ⟨.bridge, 0x60, 1, 0x0, 1, 0x0, 0, 1, 0, 0, 0, 0, 0, 0, 0⟩,
  ⟨.bridge, 0x64, 1, 0x0, 1, 0x0, 0, 1, 0, 0, 0, 0, 0, 0, 0⟩,
  ⟨.bridge, 0x68, 1, 0x0, 1, 0x0, 0, 2, 0, 0, 0, 0, 0, 0, 0⟩,
  ⟨.bridge, 0x6C, 1, 0x0, 1, 0x0, 1, 2, 0, 0, 0, 0, 0, 0, 0⟩,
  ⟨.bridge, 0x70, 1, 0x0, 1, 0x0, 0, 1, 0, 0, 0, 0, 0, 0, 0⟩,
  ⟨.bridge, 0x74, 1, 0x0, 1, 0x0, 0, 1, 0, 0, 0, 0, 0, 0, 0⟩,
  ⟨.bridge, 0x78, 1, 0x0, 1, 0x0, 0, 1, 0, 0, 0, 0, 0, 0, 0⟩,
  ⟨.bridge, 0x7C, 1, 0x0, 1, 0x0, 0, 1, 0, 0, 0, 0, 0, 0, 0⟩,
  ⟨.bridge, 0x80, 1, 0x0, 1, 0x0, 0, 1, 0, 0, 0, 0, 0, 0, 0⟩,
  ⟨.bridge, 0x84, 1, 0x0, 1, 0x0, 0, 1, 0, 0, 0, 0, 0, 0, 0⟩,
  ⟨.bridge, 0x88, 1, 0x0, 1, 0x0, 0, 1, 0x4E000004, 0, 0xFFFFFFFF, 0, 0, 0, 0⟩,
  ⟨.bridge, 0x8C, 1, 0x0, 1, 0x0, 0, 1, 0x35A, 0, 0xFFFFFFFF, 0, 0, 0, 0xFFFF0000⟩,
  ⟨.bridge, 0x90, 1, 0x0, 1, 0x0, 0, 2, 0, 0, 0xFFFFFFFF, 0, 0, 0, 0⟩,
  ⟨.bridge, 0x94, 1, 0x0, 1, 0x0, 1, 2, 0, 0, 0xFFFFFFFF, 0, 0, 0, 0⟩,
  ⟨.bridge, 0x98, 1, 0x0, 1, 0x0, 0, 2, 0, 0, 0xFFFFFFFF, 0, 0, 0, 0⟩,
  ⟨.bridge, 0x9C, 1, 0x0, 1, 0x0, 1, 2, 0, 0, 0xFFFFFFFF, 0, 0, 0, 0⟩,
  ⟨.bridge, 0xA0, 1, 0x0, 1, 0x0, 0, 1, 0x8, 0, 0xFFFFFFFF, 0, 0, 0, 0xFFFFFFE0⟩]

/-- Registers of the BRIDGE page, part 1 (R391). -/
def rowsBridge1 : List RegRow := [
  ⟨.bridge, 0xA4, 1, 0x0, 1, 0x0, 0, 1, 0, 0xFFFFFFFF, 0, 0, 0, 0, 0⟩,
  ⟨.bridge, 0xB0, 1, 0x0, 1, 0x0, 0, 2, 0, 0, 0xFFFFFFFF, 0, 0, 0, 0⟩,
  ⟨.bridge, 0xB4, 1, 0x0, 1, 0x0, 1, 2, 0, 0, 0xFFFFFFFF, 0, 0, 0, 0⟩,
  ⟨.bridge, 0xB8, 1, 0x0, 1, 0x0, 0, 1, 0x6, 0, 0xFFFFFFFF, 0, 0, 0, 0xFFFFFFE0⟩,
  ⟨.bridge, 0xBC, 1, 0x0, 1, 0x0, 0, 1, 0, 0xFFFFFFFF, 0, 0, 0, 0, 0⟩,
  ⟨.bridge, 0xC0, 1, 0x0, 1, 0x0, 0, 1, 0, 0, 0, 0, 0, 0, 0⟩]

/-- Registers of the WINDOWS page (R393). -/
def rowsWindows : List RegRow := [
  ⟨.windows, 0x40, 16, 0x4, 1, 0x0, 0, 1, 0x40000000, 0xFFFFFFFF, 0, 0, 0, 0, 0x1FF00000⟩,
  ⟨.windows, 0x80, 1, 0x0, 1, 0x0, 0, 1, 0, 0, 0, 0xFFFF, 0, 0, 0⟩]

/-- Registers of the DUPLEX page (R420). -/
def rowsDuplex : List RegRow := [
  ⟨.duplex, 0x40, 1, 0x0, 1, 0x0, 0, 1, 0x1000001, 0, 0xFFFFFFFF, 0, 0, 0, 0xF000FFFC⟩,
  ⟨.duplex, 0x44, 1, 0x0, 1, 0x0, 0, 1, 0x789B0, 0, 0xFFFFFFFF, 0, 0, 0, 0xFE000000⟩,
  ⟨.duplex, 0x48, 1, 0x0, 1, 0x0, 0, 1, 0x7D0, 0, 0xFFFFFFFF, 0, 0, 0, 0xFFFF0000⟩,
  ⟨.duplex, 0x4C, 1, 0x0, 1, 0x0, 0, 1, 0, 0xFFFFFFF0, 0, 0, 0, 0xF, 0xFFFFFFF0⟩,
  ⟨.duplex, 0x50, 1, 0x0, 1, 0x0, 0, 1, 0xFF000000, 0, 0, 0, 0, 0, 0⟩,
  ⟨.duplex, 0x54, 1, 0x0, 1, 0x0, 0, 2, 0, 0, 0, 0, 0, 0, 0⟩,
  ⟨.duplex, 0x58, 1, 0x0, 1, 0x0, 1, 2, 0, 0, 0, 0, 0, 0, 0⟩,
  ⟨.duplex, 0x5C, 1, 0x0, 1, 0x0, 0, 1, 0, 0, 0, 0, 0, 0, 0⟩,
  ⟨.duplex, 0x60, 1, 0x0, 1, 0x0, 0, 1, 0, 0, 0, 0, 0, 0, 0⟩,
  ⟨.duplex, 0x64, 1, 0x0, 1, 0x0, 0, 1, 0, 0, 0, 0, 0, 0, 0⟩,
  ⟨.duplex, 0x68, 1, 0x0, 1, 0x0, 0, 1, 0, 0, 0, 0, 0, 0, 0⟩,
  ⟨.duplex, 0x6C, 1, 0x0, 1, 0x0, 0, 2, 0, 0, 0, 0, 0, 0, 0⟩,
  ⟨.duplex, 0x70, 1, 0x0, 1, 0x0, 1, 2, 0, 0, 0, 0, 0, 0, 0⟩,
  ⟨.duplex, 0x80, 1, 0x0, 1, 0x0, 0, 1, 0, 0, 0, 0, 0, 0, 0⟩,
  ⟨.duplex, 0x84, 1, 0x0, 1, 0x0, 0, 1, 0, 0, 0, 0, 0, 0, 0⟩,
  ⟨.duplex, 0x88, 1, 0x0, 1, 0x0, 0, 1, 0, 0, 0, 0, 0, 0, 0⟩,
  ⟨.duplex, 0x8C, 1, 0x0, 1, 0x0, 0, 1, 0, 0, 0, 0, 0, 0, 0⟩,
  ⟨.duplex, 0x90, 1, 0x0, 1, 0x0, 0, 1, 0, 0, 0, 0, 0, 0, 0⟩,
  ⟨.duplex, 0x94, 1, 0x0, 1, 0x0, 0, 1, 0, 0, 0, 0, 0, 0, 0⟩]

/-- Registers of the GANGCTL page (R424). -/
def rowsGangctl : List RegRow := [
  ⟨.gangctl, 0x40, 1, 0x0, 1, 0x0, 0, 1, 0x10000, 0, 0xFFFFFFFF, 0, 0, 0, 0xFFF00000⟩,
  ⟨.gangctl, 0x44, 1, 0x0, 1, 0x0, 0, 1, 0x3E800C8, 0, 0xFFFFFFFF, 0, 0, 0, 0⟩,
  ⟨.gangctl, 0x48, 1, 0x0, 1, 0x0, 0, 1, 0x4E20, 0, 0xFFFFFFFF, 0, 0, 0, 0xFE000000⟩,
  ⟨.gangctl, 0x4C, 1, 0x0, 1, 0x0, 0, 1, 0x3E80002, 0, 0xFFFFFFFF, 0, 0, 0, 0xFF00⟩,
  ⟨.gangctl, 0x50, 1, 0x0, 1, 0x0, 0, 1, 0, 0xFFFFFFFC, 0, 0, 0, 0x3, 0xFFFFFFFC⟩,
  ⟨.gangctl, 0x54, 1, 0x0, 1, 0x0, 0, 1, 0, 0, 0, 0, 0, 0, 0⟩,
  ⟨.gangctl, 0x58, 1, 0x0, 1, 0x0, 0, 1, 0, 0, 0, 0, 0, 0, 0⟩,
  ⟨.gangctl, 0x5C, 1, 0x0, 1, 0x0, 0, 1, 0, 0, 0, 0, 0, 0, 0⟩,
  ⟨.gangctl, 0x60, 1, 0x0, 1, 0x0, 0, 1, 0, 0, 0, 0, 0, 0, 0⟩,
  ⟨.gangctl, 0x80, 8, 0x4, 1, 0x0, 0, 1, 0, 0, 0xFFFFFFFF, 0, 0, 0, 0⟩,
  ⟨.gangctl, 0xA0, 4, 0x4, 1, 0x0, 0, 1, 0, 0, 0, 0, 0, 0, 0⟩,
  ⟨.gangctl, 0xB0, 1, 0x0, 1, 0x0, 0, 1, 0, 0, 0, 0, 0, 0, 0⟩,
  ⟨.gangctl, 0xB4, 1, 0x0, 1, 0x0, 0, 1, 0, 0, 0, 0, 0, 0, 0⟩]

/-- Registers of the SUPPLY page (R448). -/
def rowsSupply : List RegRow := [
  ⟨.supply, 0x40, 1, 0x0, 1, 0x0, 0, 1, 0x1, 0, 0xFFFFFFFF, 0, 0, 0, 0xFFFFFFEC⟩,
  ⟨.supply, 0x44, 1, 0x0, 1, 0x0, 0, 1, 0x64, 0, 0xFFFFFFFF, 0, 0, 0, 0xFFFFFC00⟩,
  ⟨.supply, 0x48, 1, 0x0, 1, 0x0, 0, 1, 0xA0064, 0, 0xFFFFFFFF, 0, 0, 0, 0⟩,
  ⟨.supply, 0x4C, 1, 0x0, 1, 0x0, 0, 1, 0xA020A, 0, 0xFFFFFFFF, 0, 0, 0, 0xFF000000⟩,
  ⟨.supply, 0x50, 1, 0x0, 1, 0x0, 0, 1, 0x320555, 0, 0xFFFFFFFF, 0, 0, 0, 0xFF80F000⟩,
  ⟨.supply, 0x54, 1, 0x0, 1, 0x0, 0, 1, 0, 0xFFFFFFFE, 0, 0, 0, 0x1, 0xFFFFFFFE⟩,
  ⟨.supply, 0x58, 1, 0x0, 1, 0x0, 0, 1, 0, 0, 0, 0, 0, 0, 0⟩,
  ⟨.supply, 0x5C, 1, 0x0, 1, 0x0, 0, 1, 0, 0, 0, 0, 0, 0, 0⟩,
  ⟨.supply, 0x60, 1, 0x0, 1, 0x0, 0, 1, 0, 0, 0, 0, 0, 0, 0⟩,
  ⟨.supply, 0x70, 6, 0x4, 1, 0x0, 0, 1, 0, 0, 0, 0, 0, 0, 0⟩,
  ⟨.supply, 0x88, 1, 0x0, 1, 0x0, 0, 1, 0, 0, 0, 0x80000000, 0, 0, 0⟩,
  ⟨.supply, 0x8C, 1, 0x0, 1, 0x0, 0, 2, 0, 0, 0, 0, 0, 0, 0⟩,
  ⟨.supply, 0x90, 1, 0x0, 1, 0x0, 1, 2, 0, 0, 0, 0, 0, 0, 0⟩,
  ⟨.supply, 0x94, 1, 0x0, 1, 0x0, 0, 1, 0, 0, 0, 0, 0, 0, 0⟩]

/-- Registers of the SLOT page (R451). -/
def rowsSlot : List RegRow := [
  ⟨.slot, 0x40, 1, 0x0, 1, 0x0, 0, 1, 0x1, 0, 0xFFFFFFFF, 0, 0, 0, 0xFFFFF8FE⟩,
  ⟨.slot, 0x44, 1, 0x0, 1, 0x0, 0, 1, 0xA, 0, 0xFFFFFFFF, 0, 0, 0, 0xFFFFFFC0⟩,
  ⟨.slot, 0x48, 1, 0x0, 1, 0x0, 0, 1, 0x64000050, 0, 0xFFFFFFFF, 0, 0, 0, 0xFFFF00⟩,
  ⟨.slot, 0x4C, 1, 0x0, 1, 0x0, 0, 1, 0x140064, 0, 0xFFFFFFFF, 0, 0, 0, 0xFF000000⟩,
  ⟨.slot, 0x50, 1, 0x0, 1, 0x0, 0, 1, 0xA00D8, 0, 0xFFFFFFFF, 0, 0, 0, 0xFE00FE00⟩,
  ⟨.slot, 0x54, 1, 0x0, 1, 0x0, 0, 1, 0, 0, 0, 0x800, 0, 0, 0⟩,
  ⟨.slot, 0x58, 1, 0x0, 1, 0x0, 0, 1, 0, 0, 0, 0, 0, 0, 0⟩,
  ⟨.slot, 0x5C, 1, 0x0, 1, 0x0, 0, 1, 0, 0, 0, 0, 0, 0, 0⟩,
  ⟨.slot, 0x60, 1, 0x0, 1, 0x0, 0, 1, 0, 0, 0, 0, 0, 0, 0⟩,
  ⟨.slot, 0x64, 1, 0x0, 1, 0x0, 0, 1, 0, 0, 0, 0, 0, 0, 0⟩]

/-- Registers of the TALLY page, part 0 (R468). -/
def rowsTally0 : List RegRow := [
  ⟨.tally, 0x40, 1, 0x0, 1, 0x0, 0, 1, 0x8, 0, 0xFFFFFFFF, 0, 0, 0, 0xFFFFFFF3⟩,
  ⟨.tally, 0x44, 1, 0x0, 1, 0x0, 0, 1, 0x1E000014, 0, 0xFFFFFFFF, 0, 0, 0, 0xFF00⟩,
  ⟨.tally, 0x48, 1, 0x0, 1, 0x0, 0, 1, 0x9600258, 0, 0xFFFFFFFF, 0, 0, 0, 0⟩,
  ⟨.tally, 0x4C, 1, 0x0, 1, 0x0, 0, 1, 0xA, 0, 0xFFFFFFFF, 0, 0, 0, 0xFF00⟩,
  ⟨.tally, 0x50, 1, 0x0, 1, 0x0, 0, 1, 0x1418, 0, 0xFFFFFFFF, 0, 0, 0, 0⟩,
  ⟨.tally, 0x54, 1, 0x0, 1, 0x0, 0, 1, 0, 0, 0xFFFFFFFF, 0, 0, 0, 0xFFFF0000⟩,
  ⟨.tally, 0x58, 1, 0x0, 1, 0x0, 0, 1, 0xC800C8, 0, 0xFFFFFFFF, 0, 0, 0, 0⟩,
  ⟨.tally, 0x5C, 1, 0x0, 1, 0x0, 0, 1, 0xA0014, 0, 0xFFFFFFFF, 0, 0, 0, 0⟩,
  ⟨.tally, 0x60, 1, 0x0, 1, 0x0, 0, 1, 0, 0xFFFFFFFE, 0, 0, 0, 0x1, 0xFFFFFFFE⟩,
  ⟨.tally, 0x64, 1, 0x0, 1, 0x0, 0, 1, 0, 0, 0, 0, 0, 0, 0⟩,
  ⟨.tally, 0x68, 1, 0x0, 1, 0x0, 0, 1, 0, 0, 0, 0, 0, 0, 0⟩,
  ⟨.tally, 0x6C, 1, 0x0, 1, 0x0, 0, 1, 0, 0, 0, 0, 0, 0, 0⟩,
  ⟨.tally, 0x70, 1, 0x0, 1, 0x0, 0, 1, 0, 0, 0, 0, 0, 0, 0⟩,
  ⟨.tally, 0x74, 1, 0x0, 1, 0x0, 0, 1, 0, 0, 0, 0, 0, 0, 0⟩,
  ⟨.tally, 0x78, 1, 0x0, 1, 0x0, 0, 1, 0, 0, 0, 0, 0, 0, 0⟩,
  ⟨.tally, 0x7C, 1, 0x0, 1, 0x0, 0, 1, 0, 0, 0, 0, 0, 0, 0⟩,
  ⟨.tally, 0x80, 1, 0x0, 1, 0x0, 0, 1, 0, 0, 0, 0, 0, 0, 0⟩,
  ⟨.tally, 0x84, 1, 0x0, 1, 0x0, 0, 1, 0, 0, 0, 0, 0, 0, 0⟩,
  ⟨.tally, 0x88, 1, 0x0, 1, 0x0, 0, 1, 0, 0, 0, 0, 0, 0, 0⟩,
  ⟨.tally, 0x8C, 1, 0x0, 1, 0x0, 0, 1, 0, 0, 0, 0, 0, 0, 0⟩,
  ⟨.tally, 0x90, 1, 0x0, 1, 0x0, 0, 1, 0, 0, 0, 0, 0, 0, 0⟩,
  ⟨.tally, 0x94, 1, 0x0, 1, 0x0, 0, 1, 0, 0, 0, 0x80000000, 0, 0, 0⟩,
  ⟨.tally, 0x98, 1, 0x0, 1, 0x0, 0, 2, 0, 0, 0, 0, 0, 0, 0⟩,
  ⟨.tally, 0x9C, 1, 0x0, 1, 0x0, 1, 2, 0, 0, 0, 0, 0, 0, 0⟩,
  ⟨.tally, 0xA0, 1, 0x0, 1, 0x0, 0, 1, 0, 0, 0, 0, 0, 0, 0⟩]

/-- Registers of the TALLY page, part 1 (R468). -/
def rowsTally1 : List RegRow := [
  ⟨.tally, 0xC0, 8, 0x8, 1, 0x0, 0, 2, 0, 0, 0, 0, 0, 0, 0⟩,
  ⟨.tally, 0xC4, 8, 0x8, 1, 0x0, 1, 2, 0, 0, 0, 0, 0, 0, 0⟩]

/-- Registers of the MONUMENT page (R494). -/
def rowsMonument : List RegRow := [
  ⟨.monument, 0x40, 1, 0x0, 1, 0x0, 0, 1, 0, 0, 0, 0, 0, 0, 0⟩,
  ⟨.monument, 0x44, 1, 0x0, 1, 0x0, 0, 1, 0x600001, 0, 0, 0, 0, 0, 0⟩,
  ⟨.monument, 0x48, 1, 0x0, 1, 0x0, 0, 1, 0, 0x7FFFFFFF, 0, 0, 0, 0x80000000, 0x7FFEFF00⟩,
  ⟨.monument, 0x4C, 1, 0x0, 1, 0x0, 0, 1, 0, 0xFFFFFFFF, 0, 0, 0, 0, 0⟩,
  ⟨.monument, 0x50, 1, 0x0, 1, 0x0, 0, 1, 0, 0xFFFFFFFF, 0, 0, 0, 0, 0xFFFFFC00⟩,
  ⟨.monument, 0x54, 1, 0x0, 1, 0x0, 0, 1, 0, 0xFFFFFFFF, 0, 0, 0, 0, 0⟩,
  ⟨.monument, 0x58, 1, 0x0, 1, 0x0, 0, 1, 0, 0, 0, 0, 0, 0, 0⟩,
  ⟨.monument, 0x5C, 1, 0x0, 1, 0x0, 0, 1, 0, 0, 0, 0, 0, 0, 0⟩,
  ⟨.monument, 0x60, 1, 0x0, 1, 0x0, 0, 2, 0, 0xFFFFFFFF, 0, 0, 0, 0, 0⟩,
  ⟨.monument, 0x64, 1, 0x0, 1, 0x0, 1, 2, 0, 0xFFFFFFFF, 0, 0, 0, 0, 0⟩,
  ⟨.monument, 0x68, 1, 0x0, 1, 0x0, 0, 1, 0, 0, 0, 0, 0, 0, 0⟩,
  ⟨.monument, 0x400, 128, 0x4, 1, 0x0, 0, 1, 0, 0xFFFFFFFF, 0, 0, 0, 0, 0⟩]

/-- Registers of the TAMPER page (R496). -/
def rowsTamper : List RegRow := [
  ⟨.tamper, 0x40, 1, 0x0, 1, 0x0, 0, 1, 0, 0xFFFFFFFF, 0, 0, 0, 0, 0xFFFFF00E⟩,
  ⟨.tamper, 0x44, 1, 0x0, 1, 0x0, 0, 1, 0, 0, 0, 0, 0, 0, 0⟩,
  ⟨.tamper, 0x48, 1, 0x0, 1, 0x0, 0, 1, 0, 0, 0, 0, 0, 0, 0⟩,
  ⟨.tamper, 0x4C, 1, 0x0, 1, 0x0, 0, 1, 0, 0, 0, 0, 0, 0, 0⟩,
  ⟨.tamper, 0x50, 1, 0x0, 1, 0x0, 0, 1, 0, 0, 0, 0, 0xFFFFFFFF, 0, 0⟩,
  ⟨.tamper, 0x54, 1, 0x0, 1, 0x0, 0, 1, 0, 0, 0, 0, 0, 0, 0⟩,
  ⟨.tamper, 0x100, 16, 0x10, 1, 0x0, 0, 4, 0, 0, 0, 0, 0, 0, 0⟩,
  ⟨.tamper, 0x104, 16, 0x10, 1, 0x0, 1, 4, 0, 0, 0, 0, 0, 0, 0⟩,
  ⟨.tamper, 0x108, 16, 0x10, 1, 0x0, 2, 4, 0, 0, 0, 0, 0, 0, 0⟩,
  ⟨.tamper, 0x10C, 16, 0x10, 1, 0x0, 3, 4, 0, 0, 0, 0, 0, 0, 0⟩]

/-- Registers of the MACSEC page (R373). -/
def rowsMacsec : List RegRow := [
  ⟨.macsec, 0x40, 1, 0x0, 1, 0x0, 0, 1, 0xC0000000, 0, 0xFFFFFFFF, 0, 0, 0, 0⟩,
  ⟨.macsec, 0x100, 7, 0x80, 1, 0x0, 0, 1, 0x2, 0xFFFFFFFF, 0, 0, 0, 0, 0xFFFFF0CC⟩,
  ⟨.macsec, 0x104, 7, 0x80, 1, 0x0, 0, 1, 0, 0xFFFFFFFF, 0, 0, 0, 0, 0⟩,
  ⟨.macsec, 0x108, 7, 0x80, 1, 0x0, 0, 2, 0, 0xFFFFFFFF, 0, 0, 0, 0, 0⟩,
  ⟨.macsec, 0x10C, 7, 0x80, 1, 0x0, 1, 2, 0, 0xFFFFFFFF, 0, 0, 0, 0, 0⟩,
  ⟨.macsec, 0x110, 7, 0x80, 1, 0x0, 0, 2, 0, 0xFFFFFFFF, 0, 0, 0, 0, 0⟩,
  ⟨.macsec, 0x114, 7, 0x80, 1, 0x0, 1, 2, 0, 0xFFFFFFFF, 0, 0, 0, 0, 0⟩,
  ⟨.macsec, 0x118, 7, 0x80, 1, 0x0, 0, 1, 0, 0xFFFFFFFF, 0, 0, 0, 0, 0⟩,
  ⟨.macsec, 0x11C, 7, 0x80, 1, 0x0, 0, 1, 0, 0xFFFFFFFF, 0, 0, 0, 0, 0⟩,
  ⟨.macsec, 0x120, 7, 0x80, 4, 0x10, 0, 1, 0, 0xFFFF, 0, 0, 0, 0, 0⟩,
  ⟨.macsec, 0x124, 7, 0x80, 4, 0x10, 0, 3, 0, 0xFFFFFFFF, 0, 0, 0, 0, 0⟩,
  ⟨.macsec, 0x128, 7, 0x80, 4, 0x10, 1, 3, 0, 0xFFFFFFFF, 0, 0, 0, 0, 0⟩,
  ⟨.macsec, 0x12C, 7, 0x80, 4, 0x10, 2, 3, 0, 0xFFFFFFFF, 0, 0, 0, 0, 0⟩,
  ⟨.macsec, 0x160, 7, 0x80, 1, 0x0, 0, 2, 0x1, 0xFFFFFFFF, 0, 0, 0, 0, 0⟩,
  ⟨.macsec, 0x164, 7, 0x80, 1, 0x0, 1, 2, 0, 0xFFFFFFFF, 0, 0, 0, 0, 0⟩,
  ⟨.macsec, 0x168, 7, 0x80, 1, 0x0, 0, 2, 0x1, 0, 0, 0, 0, 0, 0⟩,
  ⟨.macsec, 0x16C, 7, 0x80, 1, 0x0, 1, 2, 0, 0, 0, 0, 0, 0, 0⟩,
  ⟨.macsec, 0x170, 7, 0x80, 1, 0x0, 0, 1, 0, 0, 0, 0, 0, 0, 0⟩,
  ⟨.macsec, 0x174, 7, 0x80, 1, 0x0, 0, 1, 0, 0, 0, 0, 0, 0, 0⟩,
  ⟨.macsec, 0x178, 7, 0x80, 1, 0x0, 0, 1, 0, 0, 0, 0, 0, 0, 0⟩,
  ⟨.macsec, 0x17C, 7, 0x80, 1, 0x0, 0, 1, 0, 0, 0, 0, 0, 0, 0⟩]

/-- Registers of the HMON page (R501). -/
def rowsHmon : List RegRow := [
  ⟨.hmon, 0x40, 1, 0x0, 1, 0x0, 0, 1, 0, 0, 0xFFFFFFFF, 0, 0, 0, 0xFFF00FE0⟩,
  ⟨.hmon, 0x44, 1, 0x0, 1, 0x0, 0, 2, 0, 0, 0xFFFFFFFF, 0, 0, 0, 0⟩,
  ⟨.hmon, 0x48, 1, 0x0, 1, 0x0, 1, 2, 0, 0, 0xFFFFFFFF, 0, 0, 0, 0⟩,
  ⟨.hmon, 0x4C, 1, 0x0, 1, 0x0, 0, 1, 0x1, 0, 0xFFFFFFFF, 0, 0, 0, 0⟩,
  ⟨.hmon, 0x50, 1, 0x0, 1, 0x0, 0, 1, 0, 0xFFFFFFFE, 0, 0, 0, 0x1, 0xFFFFFFF8⟩,
  ⟨.hmon, 0x70, 1, 0x0, 1, 0x0, 0, 2, 0, 0, 0, 0, 0, 0, 0⟩,
  ⟨.hmon, 0x74, 1, 0x0, 1, 0x0, 1, 2, 0, 0, 0, 0, 0, 0, 0⟩,
  ⟨.hmon, 0x80, 2, 0x100, 1, 0x0, 0, 2, 0, 0, 0, 0, 0, 0, 0⟩,
  ⟨.hmon, 0x84, 2, 0x100, 1, 0x0, 1, 2, 0, 0, 0, 0, 0, 0, 0⟩,
  ⟨.hmon, 0x88, 2, 0x100, 1, 0x0, 0, 2, 0, 0, 0, 0, 0, 0, 0⟩,
  ⟨.hmon, 0x8C, 2, 0x100, 1, 0x0, 1, 2, 0, 0, 0, 0, 0, 0, 0⟩,
  ⟨.hmon, 0x90, 2, 0x100, 1, 0x0, 0, 1, 0x7FFFFFFF, 0, 0, 0, 0, 0, 0⟩,
  ⟨.hmon, 0x94, 2, 0x100, 1, 0x0, 0, 1, 0x80000000, 0, 0, 0, 0, 0, 0⟩,
  ⟨.hmon, 0x98, 2, 0x100, 1, 0x0, 0, 1, 0, 0, 0, 0, 0, 0, 0⟩,
  ⟨.hmon, 0x9C, 2, 0x100, 1, 0x0, 0, 1, 0, 0, 0, 0, 0, 0, 0⟩,
  ⟨.hmon, 0xA0, 2, 0x100, 32, 0x4, 0, 1, 0, 0, 0, 0, 0, 0, 0⟩]

/-- Registers of the CAL page (R507). -/
def rowsCal : List RegRow := [
  ⟨.cal, 0x40, 1, 0x0, 1, 0x0, 0, 1, 0, 0xFFFFFFFE, 0, 0, 0, 0x1, 0xFFFFFFFE⟩,
  ⟨.cal, 0x44, 1, 0x0, 1, 0x0, 0, 1, 0, 0, 0, 0, 0xFFFFFFFF, 0, 0⟩,
  ⟨.cal, 0x48, 1, 0x0, 1, 0x0, 0, 1, 0, 0xFFFFFFFF, 0, 0, 0, 0, 0xFFFF0000⟩,
  ⟨.cal, 0x4C, 1, 0x0, 1, 0x0, 0, 1, 0, 0xFFFFFFFF, 0, 0, 0, 0, 0xFFFFF003⟩,
  ⟨.cal, 0x50, 1, 0x0, 1, 0x0, 0, 1, 0, 0xFFFFFFFF, 0, 0, 0, 0, 0⟩,
  ⟨.cal, 0x54, 1, 0x0, 1, 0x0, 0, 1, 0, 0, 0, 0, 0, 0, 0⟩,
  ⟨.cal, 0x58, 1, 0x0, 1, 0x0, 0, 1, 0, 0, 0, 0, 0, 0, 0⟩]

/-- The rows of a family, in address order. -/
def rowsOf : Fam → List RegRow
  | .hdr => rowsHdr
  | .sys => rowsSys
  | .reset => rowsReset
  | .irq => rowsIrq
  | .datum => rowsDatum
  | .stamp => rowsStamp
  | .mscl => rowsMscl
  | .cycle => rowsCycle
  | .plat => rowsPlat
  | .stake => rowsStake0 ++ rowsStake1
  | .crew => rowsCrew
  | .eng => rowsEng
  | .pinmux => rowsPinmux
  | .book => rowsBook
  | .edge => rowsEdge
  | .can => rowsCan0 ++ rowsCan1
  | .port => rowsPort0 ++ rowsPort1
  | .switch => rowsSwitch
  | .fdb => rowsFdb
  | .hsr => rowsHsr
  | .capture => rowsCapture
  | .bufmem => rowsBufmem
  | .bridge => rowsBridge0 ++ rowsBridge1
  | .windows => rowsWindows
  | .duplex => rowsDuplex
  | .gangctl => rowsGangctl
  | .supply => rowsSupply
  | .slot => rowsSlot
  | .tally => rowsTally0 ++ rowsTally1
  | .monument => rowsMonument
  | .tamper => rowsTamper
  | .macsec => rowsMacsec
  | .hmon => rowsHmon
  | .cal => rowsCal

end Sys2Proof.Machine
end

