-- ==== Sys2Proof/Machine/Pages.lean ====
section
/-!
DEFINITION. The page index of R47: page numbers, the family and the block type and instance of a page, the row of a
register at an offset, and the reset word of every register.
-/

namespace Sys2Proof.Machine

def pSYS : Nat := 0x000
def pRESET : Nat := 0x001
def pIRQ : Nat := 0x002
def pDATUM : Nat := 0x008
def pSTAMP : Nat := 0x009
def pMSCL : Nat := 0x00A
def pCYCLE : Nat := 0x00C
def pPLAT : Nat := 0x00D
def pSTAKE : Nat := 0x00E
/-- CREW c. -/
def pCREW (c : Nat) : Nat := 0x010 + c % 16
/-- ENG e. -/
def pENG (e : Nat) : Nat := 0x020 + e % 64
/-- PINMUX q. -/
def pPINMUX (q : Nat) : Nat := 0x060 + q % 4
def pBOOK : Nat := 0x068
/-- EDGE q. -/
def pEDGE (q : Nat) : Nat := 0x069 + q % 4
/-- CAN c. -/
def pCAN (c : Nat) : Nat := 0x070 + c % 16
/-- The page of frame port n (R87, R308): EAST, WEST, BSLA, BSLB, GANG0–2, STN0–14. -/
def pPORT (n : Nat) : Nat := if n < 7 then 0x080 + n else 0x088 + (n - 7) % 15
def pSWITCH : Nat := 0x0A0
def pFDB : Nat := 0x0A1
def pHSR : Nat := 0x0A2
def pCAPTURE : Nat := 0x0A3
def pBUFMEM : Nat := 0x0A4
def pBRIDGE : Nat := 0x0B0
def pWINDOWS : Nat := 0x0B1
def pDUPLEX : Nat := 0x0C0
def pGANGCTL : Nat := 0x0C1
def pSUPPLY : Nat := 0x0D0
/-- SLOT n. -/
def pSLOT (n : Nat) : Nat := 0x0D1 + n % 8
def pTALLY : Nat := 0x0D9
def pMONUMENT : Nat := 0x0E0
def pTAMPER : Nat := 0x0E1
def pMACSEC : Nat := 0x0E2
/-- HMON m. -/
def pHMON (m : Nat) : Nat := 0x0F0 + m % 8
def pCAL : Nat := 0x0F8

/-- A run of pages of one family in R47: first index, number, family, block type. -/
structure PageRun where
  first : Nat
  count : Nat
  fam : Fam
  typ : Nat
deriving DecidableEq, Repr

/-- The page index of R47. -/
def pageRuns : List PageRun := [
  ⟨0x000, 1, .sys, 0x0001⟩, ⟨0x001, 1, .reset, 0x0002⟩, ⟨0x002, 1, .irq, 0x0003⟩,
  ⟨0x008, 1, .datum, 0x0010⟩, ⟨0x009, 1, .stamp, 0x0011⟩, ⟨0x00A, 1, .mscl, 0x0012⟩,
  ⟨0x00C, 1, .cycle, 0x0013⟩, ⟨0x00D, 1, .plat, 0x0014⟩, ⟨0x00E, 1, .stake, 0x0015⟩,
  ⟨0x010, 16, .crew, 0x0020⟩, ⟨0x020, 64, .eng, 0x0021⟩, ⟨0x060, 4, .pinmux, 0x0022⟩,
  ⟨0x068, 1, .book, 0x0030⟩, ⟨0x069, 4, .edge, 0x0031⟩, ⟨0x070, 16, .can, 0x0040⟩,
  ⟨0x080, 2, .port, 0x0050⟩, ⟨0x082, 2, .port, 0x0051⟩, ⟨0x084, 3, .port, 0x0052⟩,
  ⟨0x088, 15, .port, 0x0053⟩, ⟨0x0A0, 1, .switch, 0x0060⟩, ⟨0x0A1, 1, .fdb, 0x0061⟩,
  ⟨0x0A2, 1, .hsr, 0x0062⟩, ⟨0x0A3, 1, .capture, 0x0063⟩, ⟨0x0A4, 1, .bufmem, 0x0064⟩,
  ⟨0x0B0, 1, .bridge, 0x0070⟩, ⟨0x0B1, 1, .windows, 0x0071⟩, ⟨0x0C0, 1, .duplex, 0x0080⟩,
  ⟨0x0C1, 1, .gangctl, 0x0081⟩, ⟨0x0D0, 1, .supply, 0x0090⟩, ⟨0x0D1, 8, .slot, 0x0091⟩,
  ⟨0x0D9, 1, .tally, 0x0092⟩, ⟨0x0E0, 1, .monument, 0x00A0⟩, ⟨0x0E1, 1, .tamper, 0x00A1⟩,
  ⟨0x0E2, 1, .macsec, 0x00A2⟩, ⟨0x0F0, 8, .hmon, 0x00B0⟩, ⟨0x0F8, 1, .cal, 0x00C0⟩]

/-- The run that holds a page, where one does. -/
def runOf (p : Nat) : Option PageRun :=
  pageRuns.find? (fun r => decide (r.first ≤ p) && decide (p < r.first + r.count))

/-- The pages that exist, in index order. -/
def allPages : List Nat :=
  pageRuns.flatMap (fun r => (List.range r.count).map (fun i => r.first + i))

/-- The frame port of a port page. -/
def portOfPage (p : Nat) : Nat := if p < 0x088 then p - 0x080 else p - 0x081

/-- Pages of the guard die (R21). -/
def guardPage (p : Nat) : Bool := decide (0x0D0 ≤ p) && decide (p ≤ 0x0E1)

/-- Pages that always run (R50). -/
def alwaysOn (p : Nat) : Bool := decide (p ≤ 2)

/-- Does a row hold a register at this offset? -/
def RegRow.covers (r : RegRow) (off : Nat) : Bool :=
  decide (r.off ≤ off) &&
    (if r.s1 = 0 then decide (off = r.off)
     else if r.s2 = 0 then decide ((off - r.off) % r.s1 = 0) && decide ((off - r.off) / r.s1 < r.n1)
     else decide ((off - r.off) / r.s1 < r.n1) && decide ((off - r.off) % r.s1 % r.s2 = 0) &&
          decide ((off - r.off) % r.s1 / r.s2 < r.n2))

/-- The register row at an offset of a page; none where the offset is unassigned. -/
def rowAt (p off : Nat) : Option RegRow :=
  match runOf p with
  | none => none
  | some run =>
    if off < 0x40 then rowsHdr.find? (fun r => r.covers off)
    else (rowsOf run.fam).find? (fun r => r.covers off)

/-- PID of a page (R47, R49). -/
def pidOf (p : Nat) : Nat :=
  match runOf p with
  | none => 0
  | some r =>
    let inst := if r.fam = .port then (if r.first = 0x088 then p - 0x088 else p - r.first) else p - r.first
    r.typ * 0x10000 + inst * 0x100 + 1

/-- The highest event bit that a family's chapter defines; its block events are the bits from 8 to it, none where it is 7
(R68, R103, R107, R125, R153, R157, R184, R214, R219, R224, R272, R276, R305, R330, R364, R366, R368, R370, R372, R374,
R392, R394, R421, R425, R449, R452, R470, R495, R497, R502, R508, R528, R529). -/
def evTop : Fam → Nat
  | .hdr => 7
  | .sys => 11
  | .reset => 8
  | .irq => 8
  | .datum => 14
  | .stamp => 10
  | .mscl => 12
  | .cycle => 13
  | .plat => 12
  | .stake => 15
  | .crew => 18
  | .eng => 11
  | .pinmux => 7
  | .book => 12
  | .edge => 11
  | .can => 18
  | .port => 17
  | .switch => 11
  | .fdb => 10
  | .hsr => 10
  | .capture => 9
  | .bufmem => 14
  | .bridge => 14
  | .windows => 8
  | .duplex => 16
  | .gangctl => 14
  | .supply => 13
  | .slot => 14
  | .tally => 16
  | .monument => 13
  | .tamper => 10
  | .macsec => 11
  | .hmon => 9
  | .cal => 8

/-- The bits of PEVT that exist on a family's pages; the others are reserved and read as 0 (R11, R49). -/
def evMask (fam : Fam) : Word := w32 (2 ^ (evTop fam + 1) - 2 ^ 8 + 3)

/-- Reset words that the tables give in words rather than as one number: PID, the pages that always run, the port
modes of R329, the reach maps of R363, the compare map of R424. -/
def resetOverlay (p off : Nat) (tab : Nat) : Nat :=
  if off = 0 then pidOf p
  else if (off = 4 ∨ off = 8) ∧ alwaysOn p then 1
  else match runOf p with
    | none => tab
    | some r =>
      if r.fam = .port ∧ off = 0x40 then
        tab + (if p < 0x82 then 0x10 else if p < 0x88 then 5 else 3)
      else if r.fam = .switch ∧ 0x80 ≤ off ∧ off < 0xD8 then
        0x7FFFFF - 2 ^ ((off - 0x80) / 4)
      else if r.fam = .gangctl ∧ off = 0x80 then 0x3000
      else tab

/-- The reset word of the register at an offset (R12); 0 where none is assigned (R34). -/
def resetWord (p off : Nat) : Word :=
  match rowAt p off with
  | none => 0
  | some r => w32 (resetOverlay p off r.rst)

/-- The key under which the register file holds a register: the page and the offset within its 4,096 bytes (R33, R45). -/
def regKey (p off : Nat) : Nat := p * 4096 + off % 4096

/-- The register default of a key. -/
def regDefault (k : Nat) : Word := resetWord (k / 4096) (k % 4096)

end Sys2Proof.Machine
end

