-- ==== Sys2Proof/Machine/State.lean ====
section
/-!
DEFINITION. The state of the hub as plain data: every register, queue, table, buffer and mode the spec names, and the
queue of the commands that wait. Times of the local oscillator are Nat counts of its half-nanoseconds (`clock`), ring
times are Nat counts of ring half-nanoseconds (R5, R71, R72).
-/

namespace Sys2Proof.Machine

/-- Reasons a step can stop with a fault. No meaning of this model raises one: the spec gives every command an effect.
Safe: the type only names the possibility. -/
inductive Fault where
  /-- Raised by no meaning; safe. -/
  | none
deriving DecidableEq, Repr

/-- Reasons a command is refused. -/
inductive Refusal where
  /-- The command has no meaning yet; raised by an arm of the dispatch only; safe. -/
  | notModelled (mnemonic : String)
deriving DecidableEq, Repr

/-- The power state of R37, and the time in which the core die is held in reset with its rails up or down. -/
inductive Power where
  | noSupply
  | battery
  | keep
  | coreReset
  | run
  | watch
deriving DecidableEq, Repr

/-- The straps as they stand at the balls (R511). -/
structure Straps where
  nid : Nat
  role : Nat
  boot : Nat
deriving DecidableEq, Repr

/-- One guard-die event line (R23): when it last toggled, the events that wait for a toggle of their own, and the
events that share the last toggle and whose bodies wait for the stamp. -/
structure EvLine where
  last : Option Nat
  waiting : List Rec
  toggled : List Rec
deriving DecidableEq, Repr

/-- Power states, the die-to-die link and the event lines (chapter 1). -/
structure PowerSt where
  power : Power
  /-- A power-state request stored while BUSY (R41). -/
  stored : Option Nat
  /-- The power state a transition under way goes to. -/
  target : Option Power
  /-- The guard die's copy of KEEP_MAIN and KEEP_ANY (R44). -/
  keepMain : Bool
  keepAny : Bool
  straps : Straps
  /-- SYS.SERIAL, from fuses (R528). -/
  serial : Nat
  rstN : Bool
  pcieRstN : Bool
  dieLink : Bool
  /-- The SerDes PLL on REFCLK_P/N is locked (R331, R509). -/
  serdes : Bool
  /-- The event lines 0–11. -/
  lines : List EvLine
deriving DecidableEq, Repr

/-- A register write held while its page's check is in progress (R58). -/
structure HeldWrite where
  page : Nat
  off : Nat
  mask : Word
  data : Word
  src : Source
deriving DecidableEq, Repr

/-- Register pages (chapter 2): checks under way in order of arrival, held writes, stops, block resets and domain
resets under way, and the clock of each page's last accepted enable. -/
structure PageSt where
  checks : List Nat
  held : List HeldWrite
  stopping : List Nat
  clearing : List Nat
  domains : List Nat
  /-- Guard-die summaries last transferred, as set page numbers, hold while the link is down (R67). -/
  seen : List Nat
  /-- Next NOTICE repeat of each group, as a clock, with the interval in ms that its last edge or re-arm took (R69). -/
  repeatAt : List (Nat × Nat × Nat)
  /-- The clock of the newest EN write and the pages whose EN writes arrived in its cycle (R57). -/
  enAt : Nat
  enNew : List Nat
  /-- The clock at which a group last left the pending state, and the groups that left it in that cycle (R70). -/
  fellAt : Nat
  fell : List Nat
deriving DecidableEq, Repr

/-- An entry of the transmit-stamp queue (R90). -/
structure TxStamp where
  port : Nat
  tag : Nat
  stamp : Nat
deriving DecidableEq, Repr

/-- What the hub did in the CLK_MGT cycle of `clk` that a write of firmware in the same cycle must respect (R9, R46, R91):
the W1C bits it set, by register, and the last address error, as its address and SOURCE. -/
structure CycleSets where
  clk : Nat
  bits : List (Nat × Word)
  aerr : Option (Nat × Nat)
  /-- A transmit stamp discarded on the full queue, and whether PEVT bit 9 was set before it (R91). -/
  stamp : Option (TxStamp × Bool)
  /-- Samples of a monitor, and its live set before them (R500). -/
  hmon : List (Nat × List Word × List Int)
  /-- Events counted in port counters: the port, the counter, how many (R328). -/
  counts : List (Nat × Nat × Nat)
deriving DecidableEq, Repr

/-- One entry of the MSI-X table (R376). -/
structure MsixEnt where
  addr : Nat
  data : Nat
  masked : Bool
  pend : Bool
deriving DecidableEq, Repr

/-- What the hub posts towards the host over PCIe, in order (R386). -/
inductive HostMsg where
  /-- A memory write of bytes at a host address. -/
  | write (addr : Nat) (data : List Byte)
  /-- An MSI-X message on a vector: table address and data. -/
  | msix (vector addr data : Nat)
  /-- A read request of bytes at a host address (R388). -/
  | readReq (addr len : Nat)
  /-- The completion of a host read (R380, R383). -/
  | completion (tag : Nat) (data : List Byte)
deriving DecidableEq, Repr

/-- A fold (R73): raw base, ring base in units of 2^-40 hns, INC. -/
structure Fold where
  baseRaw : Nat
  baseT : Nat
  inc : Nat
deriving DecidableEq, Repr

/-- The Datum (chapter 3). -/
structure DatumSt where
  /-- Clock at the core-die POR release, so that RAW = clock − rawOrg (R71). -/
  rawOrg : Nat
  fold : Fold
  /-- The seven folds before the current one, newest first (R74). -/
  older : List Fold
  /-- RAW of the last unlock write while its window may be open (R77). -/
  unlock : Option Nat
  /-- End of the PPS_OUT pulse in progress (R97). -/
  ppsEnd : Option Nat
  /-- Ring time from which the next active edge is sought (R98). -/
  ppsFrom : Nat
  /-- Steps accepted since the core-die POR, and the RAW of the newest of them (R114). -/
  steps : Nat
  stepAt : List Nat
deriving DecidableEq, Repr

/-- A frame in a transmit queue (R316): its port, queue, buffer number (copies of one frame share one, R342), the
frame, the time its age counts from (R341), the port it entered at, whether it is a multicast copy, a transmit-stamp
tag, whether GATE_HELD counted it, and whether it started cut-through. -/
structure QFrame where
  port : Nat
  q : Nat
  buf : Nat
  fr : Frame
  stamp : Nat
  ingress : Option Nat
  multi : Bool
  tag : Option Nat
  gateHeld : Bool
  isPlat : Bool
  /-- The cells that hold the frame, shared by its copies (R342, R348). -/
  cells : List Nat
deriving DecidableEq, Repr

/-- A copy that is leaving its port: as it was buffered, and the frame on the wire (R319). -/
structure Leaving where
  q : QFrame
  fr : Frame
  /-- The bytes on the wire from the destination address to the FCS (R354, R356). -/
  wire : List Byte
  cut : Bool
  stomp : Bool
  /-- RAW of its stamping point; the transmit stamp that the correction of a Sync took it to have, and what the real stamp has
  beside it; whether the point has passed and the stamp has been dealt with (R86, R90, R94, R95). -/
  point : Nat
  pred : Option Nat
  dev : Int
  stamped : Bool
deriving DecidableEq, Repr

/-- What refers a receive stamp of a port to its ball (R86): whether the port stamps, ING_LAT in 1/16 hns, ASYM + ASYM_LRN. -/
structure RxCorr where
  on : Bool
  lat : Nat
  asym : Int
deriving DecidableEq, Repr

/-- A frame port (chapter 11). -/
structure PortSt where
  /-- PCS lock, synchronisation and negotiation hold now, and since which clock. -/
  lock : Bool
  since : Nat
  /-- The mode the port is in or tries (R311), and when the next alternation falls due. -/
  mode : Nat
  fbAt : Nat
  /-- Ring time at which the hold window closes (R325). -/
  holdEnd : Option Nat
  /-- The frame that is leaving, the ring time of its last FCS byte (R559), and that at which the next may start. -/
  leaving : Option Leaving
  leaveEnd : Nat
  gapEnd : Nat
  /-- Frames that PCS loopback returns to the receiver (R329). -/
  back : List (Frame × Bool)
  /-- The gates in force and the entry they come from (R318). -/
  entry : Nat
  gates : Nat
  /-- End of a received pause (R324). -/
  rxPauseEnd : Option Nat
  /-- When PAUSE is next repeated (R323). -/
  txPauseAt : Option Nat
  /-- The port was pausing or paused when its link went down (R324). -/
  repause : Bool
  /-- Corrections of receive stamps that were in force, newest first: the RAW at which each ended, and what it was (R86). -/
  corr : List (Nat × RxCorr)
  /-- A gate-bank change waits for the next list-cycle start, and the ring time of the write that asked for it (R321). -/
  swapAfter : Option Nat
deriving DecidableEq, Repr

/-- An entry of the FDB (R335). -/
structure FdbEnt where
  valid : Bool
  fixed : Bool
  group : Bool
  mac : Nat
  vid : Nat
  dest : Nat
  seen : Nat
deriving DecidableEq, Repr

/-- An entry of the HSR duplicate table (R344): the four marks. -/
structure HsrEnt where
  src : Nat
  seq : Nat
  d : Bool
  fe : Bool
  fw : Bool
  s : Bool
  /-- RAW at which a copy that had set D failed, so that D was cleared; and the clock at which the entry was made. -/
  dFail : Option Nat
  born : Nat
  /-- The hub's own logic has taken the frame (R346). -/
  got : Bool
deriving DecidableEq, Repr

/-- A key install under way (R357). -/
structure SaInstall where
  port : Nat
  sa : Nat
  handle : Nat
deriving DecidableEq, Repr

/-- A key copy in the MACsec engine with the receive high-water packet number (R357, R358). -/
structure SaKey where
  key : List Byte
  high : Nat
  warned : Bool
deriving DecidableEq, Repr

/-- Error words counted towards FAIL_TH on a bank (R350): clock of the first, and how many. -/
structure BankErr where
  first : Nat
  count : Nat
deriving DecidableEq, Repr

/-- Switch, FDB, HSR, buffer and MACsec (chapter 12), with all transmit queues. -/
structure SwitchSt where
  txq : List QFrame
  nextBuf : Nat
  fdb : List (Nat × FdbEnt)
  hsr : List HsrEnt
  /-- Banks that failed the memory self-test (R372). -/
  selfFailed : List Nat
  bankErr : List (Nat × BankErr)
  rebuild : Option Nat
  scrubCell : Nat
  sa : List (Nat × Option SaKey)
  installs : List SaInstall
  /-- A change of TX_AN that waits for a frame boundary, by port (R358). -/
  txAn : List (Nat × Nat)
  /-- FREE stands below CRIT, and PEVT bit 13 has been set for it (R353). -/
  inCrit : Bool
  /-- The bytes that frames left in the cells of the buffer, by cell (R348). -/
  data : List (Nat × List Byte)
  /-- The clock of the scrubber's last read (R352). -/
  scrubAt : Nat
  /-- The clocks of the capture records of the last 2000 hns (R360). -/
  capAt : List Nat
deriving DecidableEq, Repr

/-- A discard episode (R266). -/
structure Episode where
  count : Nat
  tMin : Nat
  tMax : Nat
  nonEdge : Bool
  last : Nat
deriving DecidableEq, Repr

/-- One drain of the book (R264): active, and active at some time since the last accepted enable. -/
structure Drain where
  active : Bool
  used : Bool
deriving DecidableEq, Repr

/-- The field book (chapter 9); its slots stand in `mem`. -/
structure BookSt where
  guardQ : List Rec
  mgtQ : List Rec
  islandQ : List (Nat × List Rec)
  /-- Island whose turn it is. -/
  rotor : Nat
  /-- Records before BOOK is first enabled (R270), what was dropped of them, and whether that time is over. -/
  preQ : List Rec
  preLost : Option Episode
  everOn : Bool
  episode : Option Episode
  /-- BOOK_OVERFLOW records that wait for room (R266). -/
  overflow : List Rec
  /-- Records that the writer takes before any other: those of the time before BOOK first ran (R270), and at a takeover the
  SWITCHOVER record and the shadow queue (R269). -/
  front : List Rec
  dma : Drain
  twin : Drain
  ring : Drain
  shadowQ : List Rec
  /-- What the shadow queue dropped. -/
  shadowLost : Option Episode
  /-- Clock at which each held record was committed, oldest first; the clocks of the last commits (R261). -/
  ages : List Nat
  recent : List Nat
  /-- A MAIN_LOSS record has been committed and the rails still stand (R268). -/
  mainLoss : Bool
deriving DecidableEq, Repr

/-- A ring access the bridge has outstanding (R383): tag, window, whether it is a read, destination node and member,
the parts in address order with their bytes as they arrive, the host's tag, and the clock at which it times out. -/
structure Outst where
  tag : Nat
  win : Nat
  isRead : Bool
  node : Nat
  member : Nat
  addr : Nat
  mask : Nat
  hostTag : Nat
  due : Nat
deriving DecidableEq, Repr

/-- A host access through BAR2 that waits at the head of class HR (R379, R392): offset, length and host tag of a read, or
the bytes of a write. -/
structure HostReq where
  off : Nat
  len : Nat
  tag : Nat
  isRead : Bool
  data : List (Option Byte)
  /-- The window register in force at the decode (R377). -/
  win : Nat
  /-- An access through BAR0 (R376), of which `off` is the offset. -/
  bar0 : Bool
deriving DecidableEq, Repr

/-- A host read whose parts are being collected (R380): host tag, parts still missing, bytes by address, first address
and length. -/
structure HostRead where
  tag : Nat
  addr : Nat
  len : Nat
  missing : Nat
  bytes : List (Nat × Byte)
deriving DecidableEq, Repr

/-- A read that timed out, for the cycle in which it did (R383): the access, the clock, the host read before it ended, and
whether PEVT bit 9 stood already. -/
structure CutRead where
  out : Outst
  at_ : Nat
  read : Option HostRead
  nine : Bool
deriving DecidableEq, Repr

/-- An issuing hub a target tracks (R381): node, member, expected TSEQ, transactions held with the clock at which each
stops waiting, and when it was last heard. -/
structure Issuer where
  node : Nat
  member : Nat
  expect : Nat
  waiting : List (Trans × Nat × Nat)
  heard : Nat
deriving DecidableEq, Repr

/-- Refusals gathered for one issuer (R384), with the clock at which the NOTICE leaves. -/
structure Gather where
  node : Nat
  member : Nat
  entries : List LateErr
  due : Nat
deriving DecidableEq, Repr

/-- An entry of the late-error log (R385). -/
structure LogEnt where
  addr : Nat
  reason : Nat
  win : Nat
  t : Nat
deriving DecidableEq, Repr

/-- A challenge the target has issued (R389): to whom, its bytes, its clock. -/
structure Challenge where
  node : Nat
  member : Nat
  bytes : List Byte
  born : Nat
deriving DecidableEq, Repr

/-- The host bridge (chapter 13). -/
structure BridgeSt where
  linkUp : Bool
  /-- Next TSEQ for each destination (node × 4 + member). -/
  tseq : List (Nat × Nat)
  /-- Next tag the issuer uses. -/
  nextTag : Nat
  outstanding : List Outst
  reads : List HostRead
  /-- Reads that timed out at the clock of the last time-out. -/
  cut : List CutRead
  /-- Accesses that wait for a window whose non-posted write is unacknowledged, or for the end of a hold, in order. -/
  blocked : List HostReq
  issuers : List Issuer
  gather : List Gather
  llog : List LogEnt
  /-- Frames written to the host ring (R387): the next slot. -/
  rxSlot : Nat
  /-- Transmit slots whose read is outstanding (R388). -/
  txReads : List Nat
  out : List HostMsg
  /-- Requests that wait in class RH, oldest first (R383, R392). -/
  rh : List HostMsg
  msix : List MsixEnt
  /-- The lease of this node: end clock; holder stands in MGRSTS. -/
  leaseEnd : Option Nat
  /-- Challenges of OPENs that wait for a PROOF, oldest first. -/
  challenges : List Challenge
  nextChallenge : Option Challenge
  /-- As a manager: the exchange with a target (node, member), the challenge it sent, and the end of the lease. -/
  mgrOf : List (Nat × Nat × List Byte × Nat)
deriving DecidableEq, Repr

/-- A release notice (R399). -/
structure Notice where
  id : Nat
  srcMember : Nat
  srcNode : Nat
  outcome : Nat
  cls : Nat
  pin : Nat
  value : Nat
  tExec : Nat
deriving DecidableEq, Repr

/-- A pair (chapter 14): state beyond the registers. -/
structure DuplexSt where
  /-- T_k and cause once a takeover is decided or a fault or handover declared (R407, R408). -/
  tk : Option Nat
  cause : Nat
  /-- Declaration under R408: T_decl, and whether it was a handover. -/
  tDecl : Option Nat
  handover : Bool
  /-- Boundaries seen since the accepted enable (R396). -/
  bounds : Nat
  /-- Heartbeats in the window under way, by lane (R405). -/
  heardA : Bool
  heardB : Bool
  /-- Any STATUS heard since the enable, the T of the last one, and the T of the last heartbeat without FAULT or HANDOVER
  (R419). -/
  heardEver : Bool
  lastHeard : Nat
  lastBeat : Nat
  /-- Cycles of the last copy point and of the last heartbeat window judged. -/
  copied : Option Int
  closed : Option Int
  applied : Option CycRecord
  log : List Notice
  /-- Pin image: levels and output enables, bit p for pin p (R404). -/
  imgLvl : Nat
  imgOe : Nat
  /-- T of the last frame from the peer on the facing port or a gang link (R406). -/
  lastPeer : Nat
  /-- The release notices gathered (R399): the buffer number of the NOTICE frame last queued, T of the first notice of those that
  wait, and these. -/
  noticeBuf : Nat
  noticeT : Nat
  notices : List Notice
  /-- A dual claim has been noticed and the STATUS sent by MGMT (R412). -/
  dualSent : Bool
  /-- DUPLEX has run (R395); the hub was in shadow when it was enabled (R396); a FAULTED hub has stopped (R408). -/
  everOn : Bool
  wasShadow : Bool
  frozen : Bool
  /-- State in the peer's last STATUS, and its SYNCED bit. -/
  peerState : Nat
  peerSynced : Bool
deriving DecidableEq, Repr

/-- A TIME frame on a gang link, sent or received (R416): port, sequence number, stamp. -/
structure TimeMark where
  port : Nat
  seq : Nat
  stamp : Nat
deriving DecidableEq, Repr

/-- What a gang member has heard of another (R415): member, serial number, OFS, whether its last HELLO carried
ALL_AGREED. -/
structure Heard where
  member : Nat
  serial : Nat
  ofs : Int
  all : Bool
deriving DecidableEq, Repr

/-- A gang (chapter 14): state beyond the registers. -/
structure GangSt where
  /-- Clock at which FORM_WAIT ends, and whether formation has been refused. -/
  waitEnd : Option Nat
  stopped : Bool
  heard : List Heard
  /-- STATE digests received: member, cycle and digest; cycles missed in a row, by member. -/
  states : List (Nat × Nat × Nat)
  misses : List (Nat × Nat)
  /-- Cycle of the last vote. -/
  voted : Option Int
  /-- Next TIME sequence number; the last TIME frame sent and received, by gang port. -/
  timeSeq : Nat
  timeTx : List TimeMark
  timeRx : List TimeMark
  rejoining : Bool
  /-- Twins that have sent what only the hub that acts for a member sends (R416, R418). -/
  acts : List Nat
  /-- Clock of the next HELLO and TIME. -/
  helloAt : Nat
  timeAt : Nat
deriving DecidableEq, Repr


/-- The calibration set (R503): the MTP, the shadow, the staging store, validity of the sections as loaded, the clock
of an unlock write, and the sections being programmed. Bytes equal to the factory content are not listed. -/
structure CalSt where
  mtp : List (Nat × Byte)
  shadow : List (Nat × Byte)
  /-- The shadow and its validity before the last reload, with its clock (R506). -/
  old : Option (Nat × List (Nat × Byte) × Nat)
  /-- The set as STAMP and TALLY took it at their accepted enables (R504). -/
  stamp : List (Nat × Byte)
  tally : List (Nat × Byte)
  staging : List (Nat × Byte)
  valid : Nat
  unlock : Option Nat
  prog : Option Nat
deriving DecidableEq, Repr

/-- The traverse cycle (R129): the current cycle, whether a boundary has been acted on since the enable, the timed
events of the cycle performed (0 freeze, 1 release, 2 vote, 3 view flip), and the votes of the cycle (R149). -/
structure CycleSt where
  cyc : Int
  started : Bool
  doneEv : List Nat
  votes : List (Nat × Nat)
  /-- The last vote, for REJOIN (R150): whether no other node voted, and the majority. -/
  alone : Bool
  major : Option Nat
deriving DecidableEq, Repr

/-- Reception of a parcel (R143, R147): cycle in the working buffer, frames held, held ready. -/
structure ParcelRx where
  cycle : Nat
  frames : List Nat
  ready : Bool
deriving DecidableEq, Repr

/-- The plat (chapter 5). The two buffers of the mirror stand in `mem`. -/
structure PlatSt where
  /-- Selector of each parcel (R144). -/
  sel : List (Nat × Nat)
  rx : List (Nat × ParcelRx)
  /-- Boundaries since the PLAT enable (R148). -/
  bounds : Nat
  prevTf : Nat
  /-- The output staging store by plat byte (R139). -/
  staging : List (Nat × Byte)
  /-- Own cycle frozen for publication, and the frames of it still to leave on each ring port (R145). -/
  own : Option Nat
  left : List (Nat × Nat)
  /-- The first buffer number of the own frames last released. -/
  ownBuf : Nat
  /-- Feeds received from gang members for the next freeze: feed and bytes (R138). -/
  gangFeeds : List (Nat × List Byte)
deriving DecidableEq, Repr

/-- A pending closure step (R116): δ and the mean of the confirming samples in 1/16 hns, and its declaration time. -/
structure StepPend where
  delta : Int
  mean : Int
  decl : Nat
deriving DecidableEq, Repr

/-- A pending peer-delay step on a port (R116): Δ in 1/16 hns, and its declaration time. -/
structure PdPend where
  port : Nat
  delta : Int
  decl : Nat
deriving DecidableEq, Repr

/-- A closure: the ring (4) or a gang triangle (0–3) (R114–R116, R121–R123). Samples and CREF in 1/16 hns; the last own
forward probe's return stamp and CLAIMS. -/
structure Loop where
  samples : List Int
  learning : Bool
  /-- Closure was available before, so that the end of learning makes the test of R122. -/
  again : Bool
  cref : Int
  cand : List Int
  pend : Option StepPend
  misses : Nat
  lastFwd : Option (Nat × Nat)
deriving DecidableEq, Repr

/-- What a returned probe brings: bare return stamp in 1/16 hns, RESIDENCE, HOPS, CLAIMS, ASYM_SUM, INVALID. -/
structure ProbeRet where
  stamp16 : Nat
  residence : Nat
  hops : Nat
  claims : Nat
  asym : Int
  invalid : Bool
  /-- Datum steps accepted by its stamping point. -/
  steps : Nat
deriving DecidableEq, Repr

/-- A probe of the round under way: its loop, its direction, the buffer number of its frame, the bare transmit stamp in
1/16 hns with the number of Datum steps accepted by then, and its return. -/
structure Probe where
  loop : Nat
  rev : Bool
  buf : Nat
  tx : Option (Nat × Nat)
  ret : Option ProbeRet
deriving DecidableEq, Repr

/-- Misclosure (chapter 4): round number, start of the round under way, its probes, the loops, the peer-delay
references and pending peer-delay steps, and the ring time from which the next round start is sought. -/
structure MsclSt where
  round : Nat
  start : Nat
  probes : List Probe
  loops : List (Nat × Loop)
  pdRef : List (Nat × Nat)
  pdPend : List PdPend
  next : Nat
  /-- Member bits with which the probes of the round under way left (R122). -/
  member : Nat
deriving DecidableEq, Repr

/-- A transition that the edge detector has passed to the capture register but that its readers cannot see yet (R242):
its RAW, its T, its direction, and whether its tick held more transitions. -/
structure CapEdge where
  raw : Nat
  t : Nat
  rise : Bool
  multi : Bool
deriving DecidableEq, Repr

/-- What an EDGE feed follows (R257): the level and whether it changed since the last freeze, both without the changes of the
newest stamp `t`, and the level after those. A freeze at T_f takes only what is stamped before T_f. -/
structure FeedBit where
  chg : Bool
  old : Bool
  t : Option Nat
  lvl : Bool
deriving DecidableEq, Repr

/-- A pin: the levels at the ball, newest first, each from a RAW on, none where the level is not defined (R193, R557); the
level at which something outside the hub holds its net, as far as PIN_TRANSITION told; whether the hub drove the pin when its
level was last settled; the engine whose claim drives it or drove it last (R189, R221); the capture register (R242) with the
edges on their way to it; the output latch of a crew or stake pin (R191, R200); and what the detector saw since the last
freeze (R257). -/
structure PinSt where
  hist : List (Nat × Option Bool)
  ext : Option Bool
  drv : Bool
  owner : Option Nat
  capT : Nat
  capRise : Bool
  capNew : Bool
  capMulti : Bool
  capQ : List CapEdge
  lvl : Bool
  oe : Bool
  /-- Ring time of the last change of the output latch (R161, R200). -/
  outT : Nat
  det : FeedBit
  /-- The tick of the last STAMP, with NEW and MULTI as it read them (R242). -/
  stTick : Nat
  stNew : Bool
  stMulti : Bool
deriving DecidableEq, Repr

/-- What a SNAP of an engine captured (R218). -/
structure EngSnap where
  pc : Nat
  x : Nat
  y : Nat
  osr : Nat
  isr : Nat
  osc : Nat
  isc : Nat
deriving DecidableEq, Repr

/-- Which action an engine is stalled in (R202, R243). -/
inductive StallKind where
  | pull
  | out
  | push
  | inFlush
  | stamp
deriving DecidableEq, Repr

/-- What an engine waits for (R194). -/
inductive EngWait where
  | none
  | waitp
  /-- The WAITT target; `atOnce` where CYCLE was not running (R235). -/
  | waitt (target : Int) (atOnce : Bool)
  | dly
  | cnt
  /-- Stalled since a tick; `long` once STALL_TH was reached (R204). -/
  | stall (kind : StallKind) (start : Nat) (long : Bool)
deriving DecidableEq, Repr

/-- An engine (R194). Ticks are counted from the core-die POR: tick k begins at RAW 8k. `phs` is the distance from tick
`tick` to the next step in 1/256 tick (R195); `prev` is the tick of the last step executed. -/
structure EngSt where
  pc : Nat
  osr : Nat
  osc : Nat
  isr : Nat
  isc : Nat
  x : Nat
  y : Nat
  tick : Nat
  phs : Nat
  prev : Nat
  dcnt : Nat
  phase : Nat
  wait : EngWait
  txf : List Nat
  rxf : List Nat
  /-- Words written to TXF on their way: the tick on which each enters (R197). -/
  txIn : List (Nat × Nat)
  latch : Nat
  /-- Loads since the last freeze; the count saturates where it is read (R199). -/
  latchCnt : Nat
  /-- T of the step that loaded the latch last, and the latch and its count without the loads of that step (R199). -/
  latchT : Nat
  latchOld : Nat × Nat
  /-- The claims of its enable check hold (R189, R221). -/
  claims : Bool
  /-- INIT_LVL and INIT_OE are applied on the first step (R218). -/
  first : Bool
  snap : EngSnap
deriving DecidableEq, Repr

/-- A crew: the RAW from which the boundaries of a swap under way count (R208), the tick from which ABORT_WAIT applies to it
(R210), and the crew flags as they stood before the changes of `flagQ`: for each tick, newest first, the flags set and the
flags cleared on it (R212, R231). -/
structure CrewSt where
  swapFrom : Nat
  abortFrom : Nat
  flags : Nat
  flagQ : List (Nat × Nat × Nat)
deriving DecidableEq, Repr

/-- A debounce window (R252): stamp, level left by its opening event, transitions of that event, transitions absorbed,
level left by the last passed event. -/
structure DebWin where
  t : Nat
  c : Nat
  absorbed : Nat
  level : Bool
deriving DecidableEq, Repr

/-- A chatter lock (R254, R255): t_k, windows closed, count since the last close, total, t_last, the level there, L
before the lock, and whether the stuck time expired while locked (R256). -/
structure ChatLock where
  tk : Nat
  j : Nat
  cnt : Nat
  total : Nat
  tLast : Nat
  level : Bool
  stuckDue : Bool
deriving DecidableEq, Repr

/-- An event of the edge detector (R249): the stamp of its first transition, how many transitions its tick held, and the
levels before and after the tick. -/
structure PinEv where
  t : Nat
  c : Nat
  before : Bool
  after : Bool
deriving DecidableEq, Repr

/-- The filter chain of a pin (R250–R257): L, its last change, enable time, the held event (stamp, level, transitions),
the debounce window, stamps of accepted edges newest first, the events seen since the pin was last settled, the events still to
be taken (R254), the even merged events whose records wait for the window before them (R250, R262), the lock, STUCK written, a
STUCK record that waits for an edge stamped by its due time (R256), and the feed. -/
structure EdgeSt where
  l : Bool
  change : Nat
  enT : Nat
  held : Option (Nat × Bool × Nat)
  win : Option DebWin
  acc : List Nat
  seen : List PinEv
  todo : List PinEv
  merged : List PinEv
  lock : Option ChatLock
  stuck : Bool
  stuckWait : Bool
  feed : FeedBit
deriving DecidableEq, Repr
/-- The attempt a CAN controller is sending (R286–R289): its buffer (3 for the reference message), the clock of its
start-of-frame edge at the receive pin (R283), whether an abort was asked for, and whether a further reference instant
has passed. -/
structure CanAtt where
  buf : Nat
  edge : Nat
  abort : Bool
  renewed : Bool
deriving DecidableEq, Repr

/-- A feed latch (R297): identifier word, data, stamp, matching frames since the last freeze. -/
structure CanLatch where
  id : Nat
  data : List Byte
  stamp : Nat
  count : Nat
deriving DecidableEq, Repr

/-- The feed latch of a filter, T of the validity point of the newest frame in it, and the latch without the frames of that T:
a freeze at T_f takes only frames valid before T_f (R297). -/
structure CanFeed where
  cur : CanLatch
  t : Nat
  old : CanLatch
deriving DecidableEq, Repr

/-- A received frame: stamp, identifier word, DLC, BRS, ESI, data bytes. -/
structure CanRx where
  stamp : Nat
  id : Nat
  dlc : Nat
  brs : Bool
  esi : Bool
  data : List Byte
deriving DecidableEq, Repr

/-- A frame as it is sent (R284, R298): identifier word, DLC, BRS, ESI, data bytes. -/
structure CanTx where
  id : Nat
  dlc : Nat
  brs : Bool
  esi : Bool
  data : List Byte
deriving DecidableEq, Repr

/-- What a controller did in the CLK_FB cycle of `clk`, as far as something else in that cycle goes before it (R289, R290, R296,
R301): buffers whose abort was asked for, buffers requested, those of them that were not pending before, a frame that found no free entry, with its filter and whether PEVT
bit 9 was set before it, and the buffer words that firmware wrote, with what they held before. -/
structure CanCycle where
  clk : Nat
  abort : Nat
  req : Nat
  fresh : Nat
  drop : Option (Nat × CanRx × Bool)
  wrote : List (Nat × Word)
deriving DecidableEq, Repr

/-- A CAN controller beyond its registers: the attempt under way, the last receive entry written and the count of
queued frames (R295), the feed latches, T of bus-off (R293), the ring time from which the next reference instant is
sought (R298), the stamp of the newest acknowledged entry (R302), the frame it sent last, and what it did in this cycle. -/
structure CanSt where
  att : Option CanAtt
  last : Nat
  rseq : Nat
  feeds : List (Nat × CanFeed)
  offT : Nat
  refFrom : Nat
  ackT : Option Nat
  sent : Option CanTx
  cyc : CanCycle
deriving DecidableEq, Repr

/-- A stake (R160); `rsv` says that a bit R160 keeps at 0 is set; `bcast`: it came as a broadcast; `ins`: its insertion
number (R168). -/
structure Stake where
  node : Nat
  member : Nat
  cls : Nat
  policy : Nat
  rcpt : Bool
  cancel : Bool
  srcNode : Nat
  srcMember : Nat
  id : Nat
  tRel : Nat
  validLen : Nat
  target : Nat
  value : Nat
  rsv : Bool
  bcast : Bool
  ins : Nat
deriving DecidableEq, Repr

/-- A stake handed to a crew island, and the earliest T_exec that its handover allows (R172). -/
structure Handed where
  st : Stake
  floor : Nat
deriving DecidableEq, Repr

/-- A cancel on its way to a crew island (R170): the key, T of the decision, and the cancelling stake, if it was one. -/
structure Withdraw where
  id : Nat
  srcNode : Nat
  srcMember : Nat
  t : Nat
  stk : Option Stake
deriving DecidableEq, Repr

/-- A receipt in the receipt queue (R178): sender's node and member, payload. -/
structure Rcpt where
  node : Nat
  member : Nat
  payload : List Byte
deriving DecidableEq, Repr

/-- A stake of the side list of R180, with the T of its acceptance. -/
structure SideStake where
  st : Stake
  t : Nat
deriving DecidableEq, Repr

/-- Stakes (chapter 6): issue queue, as the bytes that firmware wrote, release queue in order, entries handed to the islands in
order of handover, the side list of R180, cancels on their way, receipt queue, insertion counter, and the clock before which no
further class 3 stake acts. -/
structure StakeSt where
  issue : List (List Byte)
  q : List Stake
  island : List Handed
  side : List SideStake
  wd : List Withdraw
  rcpts : List Rcpt
  ins : Nat
  last3 : Nat
deriving DecidableEq, Repr

/-- The rail sequence (R434, R435): all rails off; rail `i` of the up order ramping since a clock; all up; power-down
begun; output `i` of the down order lowered at a clock. -/
inductive RailPhase where
  | off
  | ramp (i since : Nat)
  | up
  | lower (since : Nat)
  | fall (i since : Nat)
deriving DecidableEq, Repr

/-- The guard die's supply path (chapter 15): the values of CFG, PFW_TH, TIMES, SEQ and RAILCFG in force (R450), the
clocks since which VIN_A and VIN_B are valid, the FETs a reverse comparator holds off (R430), the rail sequence, the
clock at which a rail fault allows a restart (R435), a main loss without its return (R432), a guard-die POR that has not
led to a start (R45), and the causes of the next core-die POR (R529). -/
structure SupplySt where
  force : List Word
  sinceA : Option Nat
  sinceB : Option Nat
  revOff : Nat
  phase : RailPhase
  rfAt : Option Nat
  mainLost : Bool
  porStart : Bool
  causes : Nat
deriving DecidableEq, Repr

/-- A slot channel (R438–R444): clocks of the start of RAMP, of the ends of cool-down and insertion remainder, and from
which the fault timer can have counted; SLOTn_ON, since when it is low after a high level, and whether PG was withheld
in this attempt. -/
structure SlotSt where
  /-- The last edge on which PG rose, with PEVT bit 9 as it stood before (R441). -/
  rose : Option (Nat × Bool)
  /-- The last removal from RAMP or ON: its clock, the state and PG before it (R444). -/
  left : Option (Nat × Nat × Bool)
  /-- The last edge of which a command said whether the channel limits (R451). -/
  limAt : Option Nat
  rampAt : Nat
  coolEnd : Nat
  insEnd : Nat
  timerFrom : Nat
  onPin : Bool
  onLow : Option Nat
  deferred : Bool
deriving DecidableEq, Repr

/-- The tally (chapter 16): the end of a learning pulse and its V1, the clock of the last pulse, the clock and WR_SEQ at
which class A began, a cycle record sent on both lanes since, and records and releases not yet metered. -/
structure TallySt where
  learnEnd : Option Nat
  v1 : Nat
  lastLearn : Nat
  aStart : Option Nat
  aSeq : Nat
  aCopied : Bool
  recSeen : Nat
  relSeen : Nat
  /-- Bits forwarded since the last update (R469). -/
  fwdBits : Nat
  /-- The buffer of the last-gasp NOTICE (R459). -/
  gasp : Option Nat
deriving DecidableEq, Repr

/-- A slot of the Monument (R472): its halves, none where a half is zero, ATTR, commit word and stage word. -/
structure KeySlot where
  a : Option (List Byte)
  b : Option (List Byte)
  attr : Nat
  commit : Nat
  stage : Nat
deriving DecidableEq, Repr

/-- An operation of the Monument under way (R480): when it began, its OP, what it ends with, the slots it writes, and the
life-cycle state and root a TRANSITION goes to. -/
structure MonOp where
  start : Nat
  op : Nat
  code : Nat
  handle : Nat
  out : List Byte
  writes : List (Nat × KeySlot)
  target : Nat
  root : List Byte
deriving DecidableEq, Repr

/-- An entry of the tamper log (R492), and whether it was made in Battery state (R493). -/
structure TamperEnt where
  rtc : Nat
  src : Nat
  lc : Nat
  seq : Nat
  battery : Bool
deriving DecidableEq, Repr

/-- The Monument (chapter 17): life-cycle fuse, roots by state code, slots, the operation under way, a commit request
on its way (slot and clock) and an old half not yet zeroed (slot and clock of the commit word), RTC at a clock, tamper
log oldest first with the sequence number of the next entry, the RTC at which class A wrote the loss time to the
battery-domain log (R459), and loss of the battery domain since the last POR. -/
structure MonSt where
  fuse : Nat
  roots : List (Nat × List Byte)
  slots : List (Nat × KeySlot)
  op : Option MonOp
  request : Option (Nat × Nat)
  zeroing : Option (Nat × Nat × Bool)
  rtc : Nat
  rtcAt : Nat
  log : List TamperEnt
  seq : Nat
  lossLog : Option Nat
  lost : Bool
deriving DecidableEq, Repr

/-- The boot loader (R514–R521): the image as fetched or written so far, whether it waits for GO in ring boot, the bytes
of entries not yet applied, the page whose check it waits for, and the WAIT entry it stands at: page, offset, mask,
value, and the clock at which it times out. -/
structure BootSt where
  image : List Byte
  ring : Bool
  rest : List Byte
  page : Option Nat
  wait : Option (Nat × Nat × Nat × Nat × Option Nat)
deriving DecidableEq, Repr

/-- Resets that are due (R525, R526): expiry of the watchdog, its delayed reset, and the reset command, as clocks. -/
structure ResetSt where
  wdog : Option Nat
  delayed : Option Nat
  cmd : Option Nat
deriving DecidableEq, Repr


/-- The state of the hub. -/
structure State where
  /-- Commands waiting, first in first out. -/
  pending : List Instr
  /-- Half-nanoseconds of the local oscillator since the model began (assumption log 1). -/
  clock : Nat
  /-- How many free values have been drawn (assumption log 2). -/
  freeCtr : Nat
  /-- W1C bits set in the cycle of this clock (R9). -/
  sets : CycleSets
  /-- The word the last popping or answering register read returned (R8, R92, R178, R197, R385, R507). -/
  result : Option Word
  /-- Register words by page × 4096 + offset; unlisted registers hold their reset word (R12). -/
  regs : List (Nat × Word)
  /-- Lower words of wide registers as last written, and upper words as last copied by a read (R48). -/
  latch : List (Nat × Word)
  shadow : List (Nat × Word)
  /-- On-chip memory with addresses (R33). -/
  mem : List Host.Cell
  pwr : PowerSt
  page : PageSt
  datum : DatumSt
  /-- The transmit-stamp queue (R90). -/
  stamps : List TxStamp
  ports : List (Nat × PortSt)
  sw : SwitchSt
  book : BookSt
  bridge : BridgeSt
  dup : DuplexSt
  gang : GangSt
  cal : CalSt
  cycle : CycleSt
  plat : PlatSt
  mscl : MsclSt
  pins : List (Nat × PinSt)
  engs : List (Nat × EngSt)
  crews : List (Nat × CrewSt)
  edges : List (Nat × EdgeSt)
  cans : List (Nat × CanSt)
  stake : StakeSt
  supply : SupplySt
  slots : List (Nat × SlotSt)
  tally : TallySt
  mon : MonSt
  boot : BootSt
  rst : ResetSt
deriving DecidableEq, Repr

/-- A port after reset (R332). -/
def PortSt.init : PortSt :=
  { lock := false, since := 0, mode := 0, fbAt := 0, holdEnd := none, leaving := none, leaveEnd := 0, gapEnd := 0, back := [],
    entry := 0, gates := 255, rxPauseEnd := none, txPauseAt := none, repause := false,
    corr := [], swapAfter := none }

/-- The fold at the release of the core-die POR: RAW 0, T 0, INC 8.0 (R71, R83, R102). -/
def Fold.init : Fold := { baseRaw := 0, baseT := 0, inc := 8 * 2 ^ 40 }

/-- The power state after a normal start. DESIGN CHOICE (assumption logs 3 and 4): straps, serial number. -/
def PowerSt.init : PowerSt :=
  { power := .run, stored := none, target := none, keepMain := true, keepAny := false,
    straps := { nid := 1, role := 0, boot := 3 }, serial := 0, rstN := true, pcieRstN := true, dieLink := true, serdes := false,
    lines := List.replicate 12 { last := none, waiting := [], toggled := [] } }

/-- Register pages after reset (R50, R63). -/
def PageSt.init : PageSt :=
  { checks := [], held := [], stopping := [], clearing := [], domains := [], seen := [], repeatAt := [], enAt := 0,
    enNew := [], fellAt := 0, fell := [] }

/-- Nothing set in this cycle. -/
def CycleSets.init : CycleSets := { clk := 0, bits := [], aerr := none, stamp := none, hmon := [], counts := [] }

/-- The Datum after reset. -/
def DatumSt.init : DatumSt :=
  { rawOrg := 0, fold := Fold.init, older := [], unlock := none, ppsEnd := none, ppsFrom := 0, steps := 0, stepAt := [] }

/-- Switch, FDB, HSR, buffer and MACsec after reset. -/
def SwitchSt.init : SwitchSt :=
  { txq := [], nextBuf := 0, fdb := [], hsr := [], selfFailed := [], bankErr := [], rebuild := none, scrubCell := 0,
    sa := [], installs := [], txAn := [], inCrit := false, data := [], scrubAt := 0, capAt := [] }

/-- The field book after reset (R262, R270). -/
def BookSt.init : BookSt :=
  { guardQ := [], mgtQ := [], islandQ := [], rotor := 0, preQ := [], preLost := none, everOn := false,
    episode := none, overflow := [], front := [], dma := { active := false, used := false },
    twin := { active := false, used := false }, ring := { active := false, used := false }, shadowQ := [], shadowLost := none,
    ages := [], recent := [], mainLoss := false }

/-- The bridge after reset. The spec gives the MSI-X table no reset value: the vectors are masked, as PCI Express resets them.
PRESUMED (assumption log 5). -/
def BridgeSt.init : BridgeSt :=
  { linkUp := false, tseq := [], nextTag := 0, outstanding := [], reads := [], cut := [], blocked := [], issuers := [],
    gather := [], llog := [], rxSlot := 0, txReads := [], out := [], rh := [],
    msix := List.replicate 32 { addr := 0, data := 0, masked := true, pend := false },
    leaseEnd := none, challenges := [], nextChallenge := none, mgrOf := [] }

/-- A pair after reset. -/
def DuplexSt.init : DuplexSt :=
  { tk := none, cause := 0, tDecl := none, handover := false, bounds := 0, heardA := false, heardB := false,
    heardEver := false, lastHeard := 0, lastBeat := 0, copied := none, closed := none, applied := none, log := [],
    imgLvl := 0, imgOe := 0, lastPeer := 0, noticeBuf := 0, noticeT := 0, notices := [], dualSent := false,
    everOn := false, wasShadow := false, frozen := false, peerState := 15, peerSynced := false }

/-- A gang after reset. -/
def GangSt.init : GangSt :=
  { waitEnd := none, stopped := false, heard := [], states := [], misses := [], voted := none, timeSeq := 0, timeTx := [],
    timeRx := [], rejoining := false, acts := [], helloAt := 0, timeAt := 0 }


/-- The calibration set of a part as delivered: loaded by CAL_LOAD_DONE. DESIGN CHOICE (assumption log 3). -/
def CalSt.init : CalSt := { mtp := [], shadow := [], old := none, stamp := [], tally := [], staging := [], valid := 0, unlock := none, prog := none }
/-- The cycle after reset. -/
def CycleSt.init : CycleSt := { cyc := 0, started := false, doneEv := [], votes := [], alone := false, major := none }

/-- The plat after reset. -/
def PlatSt.init : PlatSt :=
  { sel := [], rx := [], bounds := 0, prevTf := 0, staging := [], own := none, left := [], ownBuf := 0,
    gangFeeds := [] }
/-- A loop at the start of learning. -/
def Loop.init : Loop :=
  { samples := [], learning := true, again := false, cref := 0, cand := [], pend := none, misses := 0, lastFwd := none }

/-- Misclosure after reset. -/
def MsclSt.init : MsclSt :=
  { round := 0, start := 0, probes := [], loops := [], pdRef := [], pdPend := [], next := 0, member := 0 }
/-- Nothing seen since the last freeze, at a level. -/
def FeedBit.init (l : Bool) : FeedBit := { chg := false, old := l, t := none, lvl := l }

/-- A pin at high impedance on whose net nothing is known to drive: its level is not defined (R191, R557). -/
def PinSt.init : PinSt :=
  { hist := [], ext := none, drv := false, owner := none, capT := 0, capRise := false, capNew := false, capMulti := false,
    capQ := [], lvl := false, oe := false, outT := 0, det := FeedBit.init false, stTick := 0, stNew := false, stMulti := false }

/-- An engine after reset. -/
def EngSt.init : EngSt :=
  { pc := 0, osr := 0, osc := 0, isr := 0, isc := 0, x := 0, y := 0, tick := 0, phs := 0, prev := 0, dcnt := 0,
    phase := 0, wait := .none, txf := [], rxf := [], txIn := [], latch := 0, latchCnt := 0, latchT := 0, latchOld := (0, 0),
    claims := false, first := false, snap := { pc := 0, x := 0, y := 0, osr := 0, isr := 0, osc := 0, isc := 0 } }

/-- A crew after reset. -/
def CrewSt.init : CrewSt := { swapFrom := 0, abortFrom := 0, flags := 0, flagQ := [] }

/-- A filter chain that does not run. -/
def EdgeSt.init : EdgeSt :=
  { l := false, change := 0, enT := 0, held := none, win := none, acc := [], seen := [], todo := [], merged := [],
    lock := none, stuck := false, stuckWait := false, feed := FeedBit.init false }
/-- A controller after reset: the search for a free entry begins at entry 0. -/
def CanSt.init : CanSt :=
  { att := none, last := 31, rseq := 0, feeds := [], offT := 0, refFrom := 0, ackT := none, sent := none,
    cyc := { clk := 0, abort := 0, req := 0, fresh := 0, drop := none, wrote := [] } }

/-- Stakes after reset. -/
def StakeSt.init : StakeSt := { issue := [], q := [], island := [], side := [], wd := [], rcpts := [], ins := 0, last3 := 0 }

/-- The supply path in service on VIN_A, with the reset values of R448 in force (assumption log 4). -/
def SupplySt.init : SupplySt :=
  { force := [1, 0x64, 0x000A0064, 0x000A020A, 0x00320555], sinceA := some 0, sinceB := none, revOff := 0, phase := .up,
    rfAt := none, mainLost := false, porStart := false, causes := 0 }

/-- A slot channel after reset; no SLOTn_ON level is given, so it is low. DESIGN CHOICE (assumption log 15). -/
def SlotSt.init : SlotSt :=
  { rose := none, left := none, limAt := none, rampAt := 0, coolEnd := 0, insEnd := 0, timerFrom := 0, onPin := false, onLow := none, deferred := false }

/-- The tally after reset. -/
def TallySt.init : TallySt :=
  { learnEnd := none, v1 := 0, lastLearn := 0, aStart := none, aSeq := 0, aCopied := false, recSeen := 0, relSeen := 0,
    fwdBits := 0, gasp := none }

/-- An empty slot. -/
def KeySlot.empty : KeySlot := { a := none, b := none, attr := 0, commit := 0, stage := 0 }

/-- The Monument of a part as shipped: BLANK, no slot filled. DESIGN CHOICE (assumption log 6). -/
def MonSt.init : MonSt :=
  { fuse := 1, roots := [(1, List.replicate 48 0)], slots := [], op := none, request := none, zeroing := none, rtc := 0,
    rtcAt := 0, log := [], seq := 0, lossLog := none, lost := false }

/-- No boot under way. -/
def BootSt.init : BootSt := { image := [], ring := false, rest := [], page := none, wait := none }

/-- No reset due. -/
def ResetSt.init : ResetSt := { wdog := none, delayed := none, cmd := none }


/-- Registers that a normal start leaves at other words than their reset words, by page × 4096 + offset: SYS.STRAP,
RESET.CAUSE (guard-die POR, start from Keep), RESET.CORE_RESETS, and SUPPLY.STS (VIN_A valid and connected, PG_CORE
released) (R509, R511, R529, R434; assumption logs 3 and 4). -/
def resetRegs : List (Nat × Word) := [(0x4C, 0xC01), (0x1040, 6), (0x1058, 1), (0xD0058, 0x2101)]

/-- The hub right after the release of the core-die POR of a normal start (R12, R71, R509; assumption log 4). -/
def State.reset : State :=
  { pending := [], clock := 0, freeCtr := 0, sets := CycleSets.init, result := none, regs := resetRegs, latch := [], shadow := [], mem := [], pwr := PowerSt.init,
    page := PageSt.init, datum := DatumSt.init, stamps := [], ports := [], sw := SwitchSt.init, book := BookSt.init,
    bridge := BridgeSt.init, dup := DuplexSt.init, gang := GangSt.init,
    cal := CalSt.init,
    cycle := CycleSt.init, plat := PlatSt.init,
    mscl := MsclSt.init,
    pins := [], engs := [], crews := [], edges := [],
    cans := [],
    stake := StakeSt.init,
    supply := SupplySt.init, slots := [], tally := TallySt.init,
    mon := MonSt.init,
    boot := BootSt.init, rst := ResetSt.init
  }

end Sys2Proof.Machine
end

