-- ==== Sys2Proof/Machine/Ops.lean ====
section
/-!
DEFINITION. The named operations over the state: the clock and ring time (R71–R74), the register file, page status and
events (R49, R61), address errors (R35), memory, and the free values.
-/

namespace Sys2Proof.Machine

/-! Time. -/

/-- RAW at this moment (R71). -/
def State.raw (s : State) : Nat := s.clock - s.datum.rawOrg

/-- The clock moves to `t`, never back. -/
def State.advance (s : State) (t : Nat) : State := { s with clock := max s.clock t }

/-- The exact ring time of a raw value under a fold, in units of 2^-40 hns (R72); of one before the fold too, which the
oldest kept fold converts (R74). -/
def Fold.fix (f : Fold) (raw : Nat) : Nat := f.baseT + (raw - f.baseRaw) * f.inc / 8 - ceilDiv ((f.baseRaw - raw) * f.inc) 8

/-- The ring time of a raw value under a fold, in whole hns (R72). -/
def Fold.time (f : Fold) (raw : Nat) : Nat := f.fix raw / 2 ^ 40

/-- The fold in force at a raw value: the newest kept fold that began at or before it, else the oldest (R74). -/
def foldAt (raw : Nat) : Fold → List Fold → Fold
  | f, [] => f
  | f, g :: t => if f.baseRaw ≤ raw then f else foldAt raw g t

/-- The ring time of a raw capture (R74). -/
def State.timeOf (s : State) (raw : Nat) : Nat := (foldAt raw s.datum.fold s.datum.older).time raw

/-- Ring time now, at tap 0. -/
def State.now (s : State) : Nat := s.timeOf s.raw

/-- The first raw value at which ring time reaches `t` under the current fold. -/
def State.rawOf (s : State) (t : Nat) : Nat :=
  if t * 2 ^ 40 ≤ s.datum.fold.baseT then s.datum.fold.baseRaw
  else s.datum.fold.baseRaw + ceilDiv ((t * 2 ^ 40 - s.datum.fold.baseT) * 8) s.datum.fold.inc

/-- The clock at which ring time reaches `t` under the current fold. -/
def State.clockOf (s : State) (t : Nat) : Nat := s.datum.rawOrg + s.rawOf t

/-- The clock moves to the moment at which ring time reaches `t`. -/
def State.advanceT (s : State) (t : Nat) : State := s.advance (s.clockOf t)

/-- RTC now (R494): 32,768 counts a second. -/
def State.rtcNow (s : State) : Nat := (s.mon.rtc + (s.clock - s.mon.rtcAt) * 32768 / 2000000000) % 2 ^ 64

/-! The register file. -/

/-- The stored word of a register. -/
def State.rd (s : State) (p off : Nat) : Word := tabGet regDefault s.regs (regKey p off)

/-- Store the word of a register. -/
def State.wr (s : State) (p off : Nat) (v : Word) : State :=
  { s with regs := tabPut regDefault s.regs (regKey p off) v }

/-- `n` consecutive words as one number, lowest first (R48). -/
def State.wide (s : State) (p : Nat) : Nat → Nat → Nat
  | _, 0 => 0
  | off, n + 1 => (s.rd p off).toNat + 2 ^ 32 * s.wide p (off + 4) n

/-- Store a number in `n` consecutive words. -/
def State.putWide (s : State) (p : Nat) : Nat → Nat → Nat → State
  | _, 0, _ => s
  | off, n + 1, v => State.putWide (s.wr p off (w32 v)) p (off + 4) n (v / 2 ^ 32)

/-- Words a field lies in, counted from its register's lowest. -/
def Fld.words (f : Fld) : Nat := (f.lo + f.w + 31) / 32

/-- Read a field of a page. -/
def State.get (s : State) (p : Nat) (f : Fld) : Nat := natField (s.wide p f.off f.words) f.lo f.w

/-- Write a field of a page. -/
def State.set (s : State) (p : Nat) (f : Fld) (v : Nat) : State :=
  s.putWide p f.off f.words (natPut (s.wide p f.off f.words) f.lo f.w v)

/-- Read a one-bit field. -/
def State.flag (s : State) (p : Nat) (f : Fld) : Bool := s.get p f != 0

/-- Write a one-bit field. -/
def State.setB (s : State) (p : Nat) (f : Fld) (b : Bool) : State := s.set p f (bit b)

/-- Add to a count that wraps. -/
def State.bumpBy (s : State) (p : Nat) (f : Fld) (k : Nat) : State := s.set p f (s.get p f + k)

/-- Count one in a count that wraps. -/
def State.bump (s : State) (p : Nat) (f : Fld) : State := s.bumpBy p f 1

/-- Count in a count that saturates. -/
def State.bumpSat (s : State) (p : Nat) (f : Fld) (k : Nat := 1) : State := s.set p f (satAdd (s.get p f) k f.w)

/-- Signed value of a field. -/
def State.getS (s : State) (p : Nat) (f : Fld) : Int := toSigned (s.get p f) f.w

/-- Is a page running? -/
def State.running (s : State) (p : Nat) : Bool := s.flag p F.HDR.PSTS.RUN

/-- Is a page among the blocks that a shed class holds at their hold points (R458)? Bits of SHED: 0 D, 1 C, 2 B. -/
def shedBlock (shed p : Nat) : Bool :=
  (natBit shed 0 && ((decide (0x88 ≤ p) && decide (p ≤ 0x96)) || (decide (0x70 ≤ p) && decide (p ≤ 0x7F)) ||
    (decide (0xF0 ≤ p) && decide (p ≤ 0xF7)) || p == pCAPTURE)) ||
  (natBit shed 1 && p == pPLAT) || (natBit shed 2 && p == pSTAKE)

/-- Does the ride-through plan hold a page (R458)? -/
def State.shedHeld (s : State) (p : Nat) : Bool := shedBlock (s.get pTALLY F.TALLY.STS.SHED) p

/-- Is a page held at its hold point, by its own HOLD (R60) or by shedding (R458)? -/
def State.held (s : State) (p : Nat) : Bool := s.flag p F.HDR.PSTS.HELD || s.shedHeld p

/-- Is a hold asked for, by PCTL.HOLD (R60) or by shedding (R458)? -/
def State.holdAsked (s : State) (p : Nat) : Bool := s.flag p F.HDR.PCTL.HOLD || s.shedHeld p

/-- The W1C bits that the hub sets in this CLK_MGT cycle are remembered (R9). Two commands fall in one cycle of a clock
where they carry the same moment (DESIGN CHOICE, assumption log 39). -/
def State.markSet (s : State) (p off : Nat) (m : Word) : State :=
  if s.sets.clk = s.clock then { s with sets := { s.sets with bits := (regKey p off, m) :: s.sets.bits } }
  else { s with sets := { clk := s.clock, bits := [(regKey p off, m)], aerr := none, stamp := none, hmon := [], counts := [] } }

/-- The W1C bits of a register that the hub set in this cycle. -/
def State.setNow (s : State) (p off : Nat) : Word :=
  if s.sets.clk = s.clock then
    (s.sets.bits.filter (fun e => e.1 == regKey p off)).foldl (fun w e => w ||| e.2) 0
  else 0

/-- The hub sets a one-bit W1C field. -/
def State.setW1c (s : State) (p : Nat) (f : Fld) : State := (s.markSet p f.off (w32 (2 ^ f.lo))).set p f 1

/-- Set bit `b` of a page's PEVT: the event of that bit has occurred (R49). -/
def State.event (s : State) (p b : Nat) : State := s.setW1c p ⟨0x0C, b, 1⟩

/-- A refusal: REFUSED with code and item, and PEVT bit 0 (R51, R59, R64). -/
def State.refuse (s : State) (p code index : Nat) : State :=
  ((((s.set p F.HDR.PSTS.CODE code).set p F.HDR.PSTS.INDEX index).set p F.HDR.PSTS.REFUSED 1).event p 0)

/-- A run-time fault: PSTS.FAULT and, when it rises, PEVT.FAULT (R49, R61). -/
def State.blockFault (s : State) (p : Nat) : State :=
  if s.flag p F.HDR.PSTS.FAULT then s else (s.set p F.HDR.PSTS.FAULT 1).event p 1

/-- A block stops by itself: RUN falls (and HELD with it) and EN stays (R61). -/
def State.stopRun (s : State) (p : Nat) : State :=
  (s.set p F.HDR.PSTS.RUN 0).set p F.HDR.PSTS.HELD 0

/-- The pages of a list that run. -/
def State.firstStopped (s : State) (l : List Nat) : Option Nat := l.find? (fun p => !s.running p)

/-- Source code of SYS.AERR_HI.SOURCE (R46). The table names no code for the boot loader: it is taken as a local engine
(DESIGN CHOICE, assumption log 30). -/
def srcCode : Source → Nat
  | .host => 0
  | .hostRing => 0
  | .manager => 1
  | .gang => 2
  | .stake => 3
  | .engine => 4
  | .boot => 4

/-- An address error is captured with its SOURCE (R35). -/
def State.aerrCapture (s : State) (addr code : Nat) : State :=
  (((s.set pSYS F.SYS.AERR_LO.ADDR_LO addr).set pSYS F.SYS.AERR_HI.ADDR_HI (addr / 2 ^ 32)).set pSYS
    F.SYS.AERR_HI.SOURCE code).setW1c pSYS F.SYS.AERR_HI.VALID

/-- An address error at a 48-bit address (R35); while a capture is held it is remembered for the rest of its cycle, in
which a write of 1 to VALID captures it (R46). -/
def State.addressError (s : State) (addr : Nat) (src : Source) : State :=
  let s1 := s.event pSYS 8
  if s.flag pSYS F.SYS.AERR_HI.VALID then { s1 with sets := { s1.sets with aerr := some (addr, srcCode src) } }
  else s1.aerrCapture addr (srcCode src)

/-- A write of 1 to VALID has been stored: an address error of the same cycle is captured (R46). -/
def State.aerrClear (s : State) : State :=
  match s.sets.aerr with
  | some e => if s.sets.clk = s.clock then s.aerrCapture e.1 e.2 else s
  | none => s

/-- Does the core die run, in Run or Watch (R37)? -/
def State.coreOn (s : State) : Bool := decide (s.pwr.power = .run) || decide (s.pwr.power = .watch)

/-- A write of the bits `mask` of a register whose write has an effect of its own. While the core die does not run it
reaches nothing; before boot it is discarded but for SYS, RESET and IRQ (R510); on a guard-die page while the
die-to-die link is down it is not accepted (R24), while the page's check is in progress it is held (R58), on a locked
page it is refused (R64), and otherwise it has its effect. -/
def State.regWrite (s : State) (p off mask data : Nat) (src : Source) (eff : State → State) : State :=
  if !s.coreOn then s
  else if decide (s.get pSYS F.SYS.BOOTSTS.STAGE ≤ 2) && !alwaysOn p then s.event pSYS 11
  else if guardPage p && !s.pwr.dieLink then s
  else if s.page.checks.contains p then
    { s with page := { s.page with held := s.page.held ++
        [{ page := p, off := off, mask := w32 mask, data := w32 data, src := src }] } }
  else if s.flag p F.HDR.PCTL.LOCK && off != 0x0C && off != 0x10 then s.refuse p 0x0F 0xFF
  else eff s

/-- A write of 1 to a one-bit field. -/
def State.bitWrite (s : State) (p : Nat) (f : Fld) (eff : State → State) : State :=
  s.regWrite p f.off (2 ^ f.lo) (2 ^ f.lo) .host eff

/-- A write of a value to a field. -/
def State.fldWrite (s : State) (p : Nat) (f : Fld) (v : Nat) (eff : State → State) : State :=
  s.regWrite p f.off ((2 ^ f.w - 1) * 2 ^ f.lo) (v * 2 ^ f.lo) .host eff

/-- What an event or a read does while the core die runs; at any other time there is nothing for it to act on (R37). -/
def State.whenOn (s : State) (f : State → State) : State := if s.coreOn then f s else s

/-- A capture older than the oldest kept fold is counted (R74). -/
def State.foldMark (s : State) (raw : Nat) : State :=
  match s.datum.older.getLast? with
  | some f => if s.datum.older.length = 7 ∧ raw < f.baseRaw then (s.bumpSat pDATUM F.DATUM.FOLDOVR.COUNT).event pDATUM 14
      else s
  | none => s

/-! Memory with addresses (R33): the plat buffers at 0–0x7FFFF, the book at 0x100000, header capture at 0x2000000. -/

/-- What a byte of on-chip memory reads as where nothing has been written. DESIGN CHOICE (assumption log 8). -/
def memDefault (_ : Nat) : Byte := 0

/-- Read one byte of on-chip memory. -/
def State.ldb (s : State) (a : Nat) : Byte := tabGet memDefault s.mem a

/-- Write one byte of on-chip memory. -/
def State.stb (s : State) (a : Nat) (b : Byte) : State := { s with mem := tabPut memDefault s.mem a b }

/-- Read `n` bytes. -/
def State.ldBytes (s : State) : Nat → Nat → List Byte
  | _, 0 => []
  | a, n + 1 => s.ldb a :: s.ldBytes (a + 1) n

/-- Write bytes from an address. -/
def State.stBytes (s : State) : Nat → List Byte → State
  | _, [] => s
  | a, b :: t => State.stBytes (s.stb a b) (a + 1) t

/-! Free values (assumption log 2). -/

/-- A free value of `w` bits. -/
def State.freeVal (s : State) (w : Nat) : Nat := (Config.freeBits w s.freeCtr).toNat

/-- The next use draws another free value. -/
def State.nextFree (s : State) : State := { s with freeCtr := s.freeCtr + 1 }

/-- The hub's node number and role as sampled at start-up (R511). -/
def State.nid (s : State) : Nat := s.get pSYS F.SYS.STRAP.NID
def State.role (s : State) : Nat := s.get pSYS F.SYS.STRAP.ROLE

/-- The roles of R15. -/
def State.isSingle (s : State) : Bool := s.role = 0

/-- Is gang member `m` a twin, and of which member (R19, R424)? -/
def State.isTwin (s : State) (m : Nat) : Bool := natBit (s.get pGANGCTL F.GANGCTL.CFG.TWINS) (4 * m + 3)
def State.guards (s : State) (m : Nat) : Nat := natField (s.get pGANGCTL F.GANGCTL.CFG.TWINS) (4 * m) 2

/-- The state of R395 for a hub of a pair: STS.STATE once DUPLEX has run, before that from the straps; none for any other
hub. -/
def State.dupState (s : State) : Option Nat :=
  if s.dup.everOn then some (s.get pDUPLEX F.DUPLEX.STS.STATE)
  else if s.role = 1 then some 1
  else if s.role = 2 then some 2
  else if s.role < 4 then none
  else if s.isTwin (s.role - 4) then some 2
  else if (List.range 4).any (fun m => s.isTwin m && s.guards m == s.role - 4) then some 1
  else none

/-- Is this hub the standby of a pair (R395)? While it negotiates it keeps what it had (R396). -/
def State.standby (s : State) : Bool :=
  match s.dupState with
  | some 0 => s.dup.wasShadow
  | some k => k == 2 || k == 3 || k == 4
  | none => false

/-- Is this hub fenced: by its pair (R413), or by its gang where it has no twin (R417)? A hub of a pair that its gang fences
declares a fault first, and is fenced at T_k (R408). -/
def State.fenced (s : State) : Bool :=
  match s.dupState with
  | some k => k == 6
  | none => s.running pGANGCTL && natBit (s.get pGANGCTL F.GANGCTL.STS.FENCED) (s.role - 4)

/-- Is this hub's output in shadow (R192, R395)? -/
def State.inShadow (s : State) : Bool := s.standby || s.fenced

/-- Is a ride-through plan under way (R461)? -/
def State.planOn (s : State) : Bool := s.get pTALLY F.TALLY.STS.PLAN != 0

/-- A request for a power state is rejected (R38, R42). -/
def State.pstateReject (s : State) (cause blocker : Nat) : State :=
  ((s.setW1c pSYS F.SYS.PSTATE.REJ).set pSYS F.SYS.PSTATE.CAUSE cause).set pSYS F.SYS.PSTATE.BLOCKER blocker

/-- A wake source starts the move from Watch to Run, unless a transition or a plan is under way (R37, R40). -/
def State.watchWake (s : State) : State :=
  if s.pwr.power = .watch ∧ s.pwr.target = none ∧ s.planOn = false then
    { (s.set pSYS F.SYS.PSTATE.BUSY 1) with pwr := { s.pwr with target := some .run } }
  else s

/-- Does this hub release stakes (R180, R395, R408, R413)? -/
def State.mayRelease (s : State) : Bool :=
  match s.dupState with
  | none => !s.fenced
  | some 1 => true
  | some 5 => !s.dup.frozen
  | some _ => false

end Sys2Proof.Machine
end

