-- ==== Sys2Proof/Machine/Cal.lean ====
section
/-!
DEFINITION. The calibration set: its layout, validity and the CAL commands (R503–R508).
-/

namespace Sys2Proof.Machine

/-- CRC words of the factory content below (R503), sections 0–9. -/
def calCrcs : List Nat :=
  [0xC166DE62, 0x288C3AB9, 0xB872B190, 0xB872B190, 0x886C17F3, 0xA326B5D4, 0x3469D5F9, 0xFCA07519, 0x30FCEDC0,
   0x03C8EB67]

/-- The content of the MTP of a part as delivered: header, zero trims and offsets, unit gains, matching CRC words.
DESIGN CHOICE (assumption log 3): R503 gives the layout, not the values. -/
def calDefault (a : Nat) : Byte :=
  if a < 4 then BitVec.ofNat 8 (0x43414C31 / 256 ^ a)
  else if a = 4 then 1
  else if 0x500 ≤ a ∧ a < 0x548 ∧ a % 4 = 1 then 0x80
  else if 0x550 ≤ a ∧ a < 0x578 ∧ a % 4 = 3 then 0x80
  else if 0xFC0 ≤ a ∧ a < 0xFE8 then BitVec.ofNat 8 (nth calCrcs ((a - 0xFC0) / 4) 0 / 256 ^ (a % 4))
  else 0

/-- First byte of a section, and of the one after the last (R503). -/
def calOff (s : Nat) : Nat :=
  nth [0, 0x10, 0x40, 0x140, 0x240, 0x500, 0x550, 0x570, 0x580, 0x780, 0x7C0] s 0x7C0

/-- A byte of a calibration store. -/
def calGet (l : List (Nat × Byte)) (a : Nat) : Byte := tabGet calDefault l a

/-- `n` bytes of a calibration store as a little-endian number. -/
def calNum (l : List (Nat × Byte)) (a n : Nat) : Nat :=
  ofLE ((List.range n).map (fun i => calGet l (a + i)))

/-- Is a section of a store valid under its CRC word (R503)? -/
def calSecOk (l : List (Nat × Byte)) (s : Nat) : Bool :=
  crc32c ((List.range (calOff (s + 1) - calOff s)).map (fun i => calGet l (calOff s + i))) == calNum l (0xFC0 + 4 * s) 4

/-- The validity map of sections 0–9. -/
def calValidMap (l : List (Nat × Byte)) : Nat :=
  ((List.range 10).map (fun s => if calSecOk l s then 2 ^ s else 0)).sum

/-- Load the shadow from the MTP (R504, R506): content, validity, and the status registers of R507. -/
def State.calReload (s : State) : State :=
  let v0 := if s.cal.mtp = [] then 0x3FF else calValidMap s.cal.mtp
  let v := natPut v0 0 1 (bit (natBit v0 0 && calNum s.cal.mtp 8 8 == s.pwr.serial))
  let s1 := { s with cal := { s.cal with shadow := s.cal.mtp, valid := v } }
  ((s1.set pCAL F.CAL.STS.VALID v).set pCAL F.CAL.STS.WRITES (calNum s.cal.mtp 6 2)).set pCAL F.CAL.ORIGIN.ORIGIN
    (calNum s.cal.mtp 5 1)

/-- The shadow, and its validity, as a page enable reads them now: in the cycle of a reload, the old ones (R506). -/
def State.enCal (s : State) : List (Nat × Byte) × Nat :=
  match s.cal.old with
  | some (k, m, v) => if k = s.clock then (m, v) else (s.cal.shadow, s.cal.valid)
  | none => (s.cal.shadow, s.cal.valid)

/-- Is an entry of a section valid: the section, and the entry not 0x80 or 0x8000 (R503)? -/
def State.calEntryOk (s : State) (sec a bytes : Nat) : Bool :=
  natBit s.enCal.2 sec && calNum s.enCal.1 a bytes != (if bytes = 1 then 0x80 else 0x8000)

/-- Skew trim of a tap (R84, section 1). -/
def State.tapOk (s : State) (n : Nat) : Bool := s.calEntryOk 1 (0x10 + n) 1

/-- Port latencies of a line entry (section 4): both halves valid. -/
def State.latOk (s : State) (n j : Nat) : Bool :=
  s.calEntryOk 4 (0x240 + 32 * n + 4 * j) 2 && s.calEntryOk 4 (0x242 + 32 * n + 4 * j) 2

/-- ING_LAT and EGR_LAT of a port at a line entry (section 4); a running STAMP keeps what it took at its enable (R504). -/
def State.latWord (s : State) (n j : Nat) : Nat :=
  calNum (if s.running pSTAMP then s.cal.stamp else s.cal.shadow) (0x240 + 32 * n + 4 * j) 4

/-- The line entry of a mode at a speed code (R503 section 4). -/
def lineEntry (mode speed : Nat) : Nat :=
  if mode = 0 then 0 else if mode = 1 then 1 else if mode = 2 then 2 else if mode = 4 then 6 else if mode = 5 then 7
  else 3 + speed

/-- The cost table and energies in use: a running TALLY keeps what it took at its enable (R457, R504). -/
def State.costs (s : State) : List (Nat × Byte) := if s.running pTALLY then s.cal.tally else s.enCal.1

/-- Class and maximum power (0.1 mW) of a page (section 8). -/
def State.costClass (s : State) (p : Nat) : Nat := calNum s.costs (0x580 + 2 * p) 2 / 2 ^ 13
def State.costPower (s : State) (p : Nat) : Nat := calNum s.costs (0x580 + 2 * p) 2 % 2 ^ 13

/-- Default of the staging store. -/
def stageDefault (_ : Nat) : Byte := 0

/-- ADDR advances by one word after an access to DATA (R507). -/
def State.calNext (s : State) : State := s.bump pCAL F.CAL.ADDR.WORD

/-- A write to CAL.DATA stores a staging word (R507). -/
def State.calDataWrite (s : State) (d : Word) : State :=
  let a := 4 * s.get pCAL F.CAL.ADDR.WORD
  let st := (List.range 4).foldl (fun l i => tabPut stageDefault l (a + i) (BitVec.ofNat 8 (d.toNat / 256 ^ i)))
    s.cal.staging
  ({ s with cal := { s.cal with staging := st } }).calNext

/-- The shadow word that a read of CAL.DATA returns (R507). -/
def State.calDataWord (s : State) : Word := w32 (calNum s.cal.shadow (4 * s.get pCAL F.CAL.ADDR.WORD) 4)

/-- A write to CAL.UNLOCK: the word of R505 opens 1 ms of local time; any other value opens nothing. -/
def State.calUnlock (s : State) (w : Word) : State :=
  if w = 0xCA1B0003 then { s with cal := { s.cal with unlock := some s.clock } } else s

/-- Is a staged section's CRC word right (R505)? -/
def stagedOk (l : List (Nat × Byte)) (s : Nat) : Bool :=
  crc32c ((List.range (calOff (s + 1) - calOff s)).map (fun i => tabGet stageDefault l (calOff s + i))) ==
    ofLE ((List.range 4).map (fun i => tabGet stageDefault l (0xFC0 + 4 * s + i)))

/-- The first test of R505 and R508 that refuses a programming: code and INDEX. -/
def State.calProgRefusal (s : State) : Option (Nat × Nat) :=
  if !s.flag pCAL F.HDR.PCTL.EN then some (0x04, 0xF8)
  else if !(match s.cal.unlock with | some u => decide (s.clock < u + 2000000) | none => false) then some (0x10, 0xFF)
  else if s.get pCAL F.CAL.STS.WRITES ≥ 1000 then some (0x11, 0xFF)
  else if !s.flag pSUPPLY F.SUPPLY.STS.A_VALID || s.get pTALLY F.TALLY.STS.PLAN != 0 then some (0x12, 0xD9)
  else match (List.range 10).find? (fun k => natBit (s.get pCAL F.CAL.SECMASK.MASK) k && !stagedOk s.cal.staging k) with
    | some k => some (0x13, k)
    | none => none

/-- A write of 1 to CAL.CTL.PROG (R505, R10). -/
def State.calProg (s : State) : State :=
  if s.cal.prog.isSome then s
  else match s.calProgRefusal with
    | some (c, i) => s.refuse pCAL c i
    | none => ({ s with cal := { s.cal with prog := some (s.get pCAL F.CAL.SECMASK.MASK) } }).set pCAL F.CAL.CTL.PROG 1

/-- Copy a staged section, with its CRC word, into the MTP. -/
def copySection (staged : List (Nat × Byte)) (m : List (Nat × Byte)) (k : Nat) : List (Nat × Byte) :=
  let bytes := (List.range (calOff (k + 1) - calOff k)).map (fun i => calOff k + i) ++
    (List.range 4).map (fun i => 0xFC0 + 4 * k + i)
  bytes.foldl (fun l a => tabPut calDefault l a (tabGet stageDefault staged a)) m

/-- Programming completes: sections rewritten, WRITES + 1, ORIGIN 1 with the header's CRC word renewed, shadow
reloaded, PEVT bit 8 (R506). -/
def State.calProgDone (s : State) : State :=
  match s.cal.prog with
  | none => s
  | some mask =>
    let m1 := ((List.range 9).map (· + 1)).foldl (fun m k => if natBit mask k then copySection s.cal.staging m k else m)
      s.cal.mtp
    let w := calNum m1 6 2 + 1
    let m2 := tabPut calDefault (tabPut calDefault (tabPut calDefault m1 5 1) 6 (BitVec.ofNat 8 w)) 7
      (BitVec.ofNat 8 (w / 256))
    let c := crc32c ((List.range 16).map (fun i => calGet m2 i))
    let m3 := (List.range 4).foldl (fun m i => tabPut calDefault m (0xFC0 + i) (BitVec.ofNat 8 (c / 256 ^ i))) m2
    let o : Option (Nat × List (Nat × Byte) × Nat) := some (s.clock, s.cal.shadow, s.cal.valid)
    (((({ s with cal := { s.cal with mtp := m3, prog := none, old := o } }).calReload).set pCAL F.CAL.CTL.PROG 0).event pCAL 8)

def execCalDataWrite (clk : Nat) (data : Word) (s : State) : Host.Outcome State Fault Refusal :=
  .next ((s.advance clk).regWrite pCAL 0x50 (2 ^ 32 - 1) data.toNat .host (fun t => t.calDataWrite data))

/-- R507: a read of CAL.DATA returns the shadow word and advances ADDR; the word is left as the result of the read. -/
def execCalDataRead (clk : Nat) (s : State) : Host.Outcome State Fault Refusal :=
  .next (({ (s.advance clk) with result := some (s.advance clk).calDataWord }).calNext)

def execCalUnlock (clk : Nat) (word : Word) (s : State) : Host.Outcome State Fault Refusal :=
  .next ((s.advance clk).regWrite pCAL 0x44 (2 ^ 32 - 1) word.toNat .host (fun t => t.calUnlock word))

def execCalProg (clk : Nat) (s : State) : Host.Outcome State Fault Refusal := 
  .next ((s.advance clk).bitWrite pCAL F.CAL.CTL.PROG State.calProg)

def execCalProgDone (clk : Nat) (s : State) : Host.Outcome State Fault Refusal := .next ((s.advance clk).calProgDone)

end Sys2Proof.Machine
end

