-- ==== Sys2Proof/Machine/Pins.lean ====
section
/-!
DEFINITION. Pins (R187–R193, R222, R242, R557): functions, levels at the ball and as the input paths see them, capture
registers, output latches, and what the hub drives. Where the level at the ball is not defined, each path sees a free value
(`Config.pinSeen`).
-/

namespace Sys2Proof.Machine

/-! Tables. -/

def pinDefault (_ : Nat) : PinSt := PinSt.init
def State.pin (s : State) (p : Nat) : PinSt := tabGet pinDefault s.pins p
def State.setPin (s : State) (p : Nat) (v : PinSt) : State := { s with pins := tabPut pinDefault s.pins p v }

def engDefault (_ : Nat) : EngSt := EngSt.init
def State.eng (s : State) (e : Nat) : EngSt := tabGet engDefault s.engs e
def State.setEng (s : State) (e : Nat) (v : EngSt) : State := { s with engs := tabPut engDefault s.engs e v }

def crewDefault (_ : Nat) : CrewSt := CrewSt.init
def State.crew (s : State) (c : Nat) : CrewSt := tabGet crewDefault s.crews c
def State.setCrew (s : State) (c : Nat) (v : CrewSt) : State := { s with crews := tabPut crewDefault s.crews c v }

/-! Assignment. -/

/-- The pin at window index `i` of crew `c` (R187). -/
def winPin (c i : Nat) : Nat := (16 * c + i % 32) % 256

/-- The PINMUX page of a pin, and its PINi field. -/
def muxPage (p : Nat) : Nat := pPINMUX (p / 64)
def muxFld (f : Fld) (p : Nat) : Fld := f.at (4 * (p % 64))

/-- FUNC and SEL of a pin while its page runs; a function is void otherwise (R190, R191, R225). -/
def State.funcOf (s : State) (p : Nat) : Nat :=
  if s.running (muxPage p) then s.get (muxPage p) (muxFld F.PINMUX.PIN.FUNC p) else 0
def State.selOf (s : State) (p : Nat) : Nat := s.get (muxPage p) (muxFld F.PINMUX.PIN.SEL p)

/-- Is the pin assigned to the stake output function (R162)? -/
def State.stakePin (s : State) (p : Nat) : Bool := s.funcOf p == 2

/-- The pins assigned to a function of a controller. -/
def State.pinOf (s : State) (func sel : Nat) : Option Nat :=
  (List.range 256).find? (fun p => s.funcOf p == func && s.selOf p == sel)

/-- Window indices an engine claims (R217). -/
def State.claimed (s : State) (e : Nat) : List Nat :=
  let g := s.get (pENG e)
  let run := fun (b n : Nat) => (List.range n).map (fun i => (b + i) % 32)
  (run (g F.ENG.PINS.OUT_BASE) (g F.ENG.PINS.OUT_COUNT) ++ run (g F.ENG.PINS.SET_BASE) (g F.ENG.PINS.SET_COUNT) ++
    run (g F.ENG.PINS.EDGE_BASE) (g F.ENG.PINS.EDGE_COUNT)).dedup

/-- Does engine `e` hold a claim on pin `p`? -/
def State.holdsPin (s : State) (e p : Nat) : Bool :=
  (s.eng e).claims && ((s.claimed e).map (winPin (e / 4))).contains p

/-! Island clocks. -/

/-- The clock of crew island `c` runs (R27, R162, R188). -/
def State.islandOn (s : State) (c : Nat) : Bool :=
  s.flag (pCREW c) F.HDR.PCTL.EN ||
  (List.range 16).any (fun i => s.running (pEDGE (c / 4)) && s.flag (pEDGE (c / 4)) (F.EDGE.PIN.EN.at (4 * ((16 * c + i) % 64)))) ||
  (List.range 16).any (fun i => s.stakePin (16 * c + i)) ||
  (s.running (pCREW ((c + 15) % 16)) && (List.range 16).any (fun i =>
    s.funcOf (16 * c + i) == 1 && s.selOf (16 * c + i) == (c + 15) % 16))

/-! Levels. -/

/-- The level that a list of levels, newest first, gives at RAW `r`: an entry counts from its RAW on; none where the level is not
defined (R557). -/
def levelAt (r : Nat) : List (Nat × Option Bool) → Option Bool
  | [] => none
  | (x, b) :: t => if x ≤ r then b else levelAt r t

/-- The tick from which a level that crosses the threshold at RAW `x` is visible to an engine (R193). -/
def seenTick (x : Nat) : Nat := x / 8 + 3

/-- The level of a pin on an input path with the delay of R193 at tick `k`; where it is not defined, what the path sees is free
(R557). Path 0: engines; 2: PINMUX.LVL. -/
def State.pathLevel (s : State) (path p k : Nat) : Bool :=
  match (s.pin p).hist.find? (fun h => decide (seenTick h.1 ≤ k)) with
  | some (_, some b) => b
  | _ => Config.pinSeen path p k

/-- The level of a pin that an engine sees in a step at tick `k` (R193). -/
def State.levelTick (s : State) (p k : Nat) : Bool := s.pathLevel 0 p k

/-- The synchronised level that PINMUX.LVL shows (R222). -/
def State.syncLevel (s : State) (p : Nat) : Bool := s.pathLevel 2 p (s.raw / 8)

/-- The level that the edge detector sees now. -/
def State.ball (s : State) (p : Nat) : Bool := if (s.pin p).hist = [] then Config.pinSeen 1 p 0 else (s.pin p).det.lvl

/-- A level enters the list in order of RAW. -/
def putHist (r : Nat) (l : Option Bool) : List (Nat × Option Bool) → List (Nat × Option Bool)
  | [] => [(r, l)]
  | h :: t => if h.1 ≤ r then (r, l) :: h :: t else h :: putHist r l t

/-- Levels older than `cut` are forgotten, but for the newest of them. -/
def trimHist (cut : Nat) : List (Nat × Option Bool) → List (Nat × Option Bool)
  | [] => []
  | h :: t => if h.1 ≤ cut then [h] else h :: trimHist cut t

/-- How far back a step may look: one longest step, and the previous step of every running engine, which may have been held since
(R231, R245). -/
def State.histCut (s : State) : Nat :=
  s.engs.foldl (fun m e => if s.running (pENG e.1) then min m (8 * e.2.prev) else m) (s.raw - 600000) - 100

/-! What a freeze takes (R257). -/

/-- A change to level `l`, stamped `t`; one stamped no later than the newest noted counts with that. -/
def FeedBit.note (f : FeedBit) (t : Nat) (l : Bool) : FeedBit :=
  if (match f.t with | some u => decide (t ≤ u) | none => false) then { f with lvl := l } else { chg := f.chg || f.t.isSome, old := f.lvl, t := some t, lvl := l }

/-- The level changes without a change that counts. -/
def FeedBit.follow (f : FeedBit) (l : Bool) : FeedBit := { chg := f.chg || f.t.isSome, old := l, t := none, lvl := l }

/-- Is the newest stamp before T_f? -/
def FeedBit.past (f : FeedBit) (tf : Nat) : Bool := match f.t with | some x => decide (x < tf) | none => true

/-- Level and change bit of a freeze at `tf`. -/
def FeedBit.show (f : FeedBit) (tf : Nat) : Bool × Bool :=
  if f.past tf then (f.lvl, f.chg || f.t.isSome) else (f.old, f.chg)

/-- What is left for the next freeze. -/
def FeedBit.taken (f : FeedBit) (tf : Nat) : FeedBit :=
  if f.past tf then FeedBit.init f.lvl else { f with chg := false }

/-- An edge joins those on their way to the capture register; of two within one tick the first stays, with MULTI (R242). -/
def capJoin (c : CapEdge) : List CapEdge → List CapEdge
  | [] => [c]
  | x :: t => if x.raw / 8 = c.raw / 8 then { x with multi := true } :: t else x :: capJoin c t

/-- The capture register takes the edges visible by tick `k` (R242). -/
def capSettle (k : Nat) : List CapEdge → PinSt → PinSt
  | [], p => { p with capQ := [] }
  | c :: t, p =>
    if seenTick c.raw ≤ k then
      capSettle k t { p with capT := c.t, capRise := c.rise, capNew := true, capMulti := c.multi || p.capNew || p.capMulti }
    else { p with capQ := c :: t }

/-- The pin with its capture register as a STAMP at tick `k` reads it (R242). -/
def State.capAt (s : State) (p k : Nat) : PinSt := capSettle k (s.pin p).capQ (s.pin p)

/-- The detector sees an event at RAW `r` (R242, R249): while the island clock runs it reaches the capture register, and counts
for the feed. -/
def State.detect (s : State) (p r : Nat) (x : PinEv) : State :=
  let v := s.pin p
  let isOn := s.islandOn (p / 16)
  let cap := if isOn then capJoin { raw := r, t := x.t, rise := !x.before, multi := decide (2 ≤ x.c) } v.capQ else v.capQ
  s.setPin p { (capSettle (s.raw / 8) cap v) with det := if isOn then v.det.note x.t x.after else v.det.follow x.after }

/-! Outputs. -/

/-- Set the output latch of a pin at ring time `t`. -/
def State.latchPin (s : State) (p : Nat) (lvl oe : Bool) (t : Nat) : State :=
  s.setPin p { s.pin p with lvl := lvl, oe := oe, outT := t }

/-- Controllers. -/
def canDefault (_ : Nat) : CanSt := CanSt.init
def State.can (s : State) (n : Nat) : CanSt := tabGet canDefault s.cans n
def State.setCan (s : State) (n : Nat) (v : CanSt) : State := { s with cans := tabPut canDefault s.cans n v }

/-- Is the pin the transmit pin of a controller that is sending (R280)? The bits of the frame are no part of the model; what the
detector sees of them PIN_TRANSITION tells. -/
def State.sendingPin (s : State) (p : Nat) : Bool := s.funcOf p == 3 && (s.can (s.selOf p)).att.isSome && !s.inShadow

/-- Does a hub that has declared a fault or a handover hold every pin (R408)? -/
def State.pinsFixed (s : State) : Bool := s.dupState == some 5 && s.dup.frozen

/-- The level and output enable that a pin has, or would have if it were not in shadow (R190, R192): the latch of a crew or
stake pin, SWDATA and SWOE, and recessive for a CAN transmit pin outside a frame (R280, R307). -/
def State.pinTracked (s : State) (p : Nat) : Bool × Bool :=
  match s.funcOf p with
  | 1 => ((s.pin p).lvl, (s.pin p).oe)
  | 2 => ((s.pin p).lvl, (s.pin p).oe)
  | 3 => (true, true)
  | 5 => if s.pinsFixed then ((s.pin p).lvl, (s.pin p).oe) else
         (s.flag (muxPage p) ⟨F.PINMUX.SWDATA.LVL.off + 4 * (p % 64 / 32), p % 32, 1⟩,
          s.flag (muxPage p) ⟨F.PINMUX.SWOE.OE.off + 4 * (p % 64 / 32), p % 32, 1⟩)
  | _ => (false, false)

/-- Is the supply of the pin's bank within its range (R222)? -/
def State.pinSupplied (s : State) (p : Nat) : Bool := s.flag (muxPage p) ⟨F.PINMUX.VDDSTS.PRESENT.off, 2 + p % 64 / 32, 1⟩

/-- What the hub drives on a pin: a level, or nothing at high impedance (R190–R192). An open-drain pin drives only low
(R222). -/
def State.driven (s : State) (p : Nat) : Option Bool :=
  let x := s.pinTracked p
  if s.inShadow || !s.pinSupplied p || !x.2 then none
  else if s.flag (muxPage p) (muxFld F.PINMUX.PIN.OD p) && x.1 then none
  else some x.1

/-- The pull or keeper in force on a pin (R191, R222): off in shadow (R192) and without the bank's supply. -/
def State.pullOf (s : State) (p : Nat) : Nat :=
  let f := s.funcOf p
  if !s.pinSupplied p || (s.inShadow && (f == 1 || f == 2 || f == 3 || f == 5)) then 0
  else s.get (muxPage p) (muxFld F.PINMUX.PIN.PULL p)

/-- The newest level of a pin. -/
def PinSt.level (v : PinSt) : Option Bool := (v.hist.head?).bind (·.2)

/-- The level at the ball, none where it is not defined (R557): what the hub drives, unless something outside opposes it; what
the outside drives; the pull; the level that the keeper keeps; nothing on a floating net. -/
def State.netLevel (s : State) (p : Nat) : Option Bool :=
  let v := s.pin p
  if s.sendingPin p then none
  else match s.driven p with
    | some d => if v.ext = some (!d) then none else some d
    | none =>
      match v.ext with
      | some l => some l
      | none =>
        match s.pullOf p with
        | 1 => some true
        | 2 => some false
        | 3 => v.level
        | _ => none

/-- The pins of PINMUXq and EDGEq. -/
def pinsOf (q : Nat) : List Nat := (List.range 64).map (· + 64 * q)

end Sys2Proof.Machine
end

