-- ==== Sys2Proof/Machine/Digest.lean ====
section
/-!
DEFINITION. The digest of a page's configuration (R66).
-/

namespace Sys2Proof.Machine

/-- The word of a register of the block area as the digest takes it: X, Y, OSR and ISR of an engine stand in the engine
(R217), MONUMENT.RTC in the Monument (R494), and CAL.DATA is the word of the shadow that ADDR names (R507). -/
def State.digestWord (s : State) (p off : Nat) : Nat :=
  let g := s.eng (p - 0x20)
  let isEng := 0x20 ≤ p ∧ p < 0x60
  if isEng ∧ off = 0x58 then g.x
  else if isEng ∧ off = 0x5C then g.y
  else if isEng ∧ off = 0x60 then g.osr
  else if isEng ∧ off = 0x64 then g.isr
  else if p = pMONUMENT ∧ off = 0x60 then s.rtcNow % 2 ^ 32
  else if p = pMONUMENT ∧ off = 0x64 then s.rtcNow / 2 ^ 32
  else if p = pCAL ∧ off = 0x50 then s.calDataWord.toNat
  else (s.rd p off).toNat

/-- The bytes a page gives to its digest: each word of the block area that holds a bit of type RW or RWL, with the bits of
every other type 0. -/
def State.digestBytes (s : State) (p : Nat) : List Byte :=
  (List.range 1008).flatMap (fun i =>
    let off := 0x40 + 4 * i
    match rowAt p off with
    | none => []
    | some r => if r.rw ||| r.rwl = 0 then [] else leBytes 4 (s.digestWord p off &&& (r.rw ||| r.rwl)))

/-- PDIG as an accepted enable computes it. -/
def State.pageDigest (s : State) (p : Nat) : Nat := crc32c (s.digestBytes p)

end Sys2Proof.Machine
end

