-- ==== Sys2Proof/Machine/Records.lean ====
section
/-!
DEFINITION. Journal records on their way to the writer (R258–R261, R266, R269, R270): staging, discards and the discard
episode, the queue before BOOK first runs, the shadow queue of a standby; and the guard-die event lines (R23).
-/

namespace Sys2Proof.Machine

/-- The pin kinds 0x01–0x06 of R260. -/
def edgeKind (k : Nat) : Bool := decide (1 ≤ k) && decide (k ≤ 6)

/-- A record body of eight bytes from two 32-bit numbers (bytes 16–19 and 20–23). -/
def data2 (a b : Nat) : List Byte := leBytes 4 a ++ leBytes 4 b

/-- A discard counts in DISCARD, for the kinds the rule names in DISCARD_SYS, and for pin records in DROPS of the EDGE
page of the pin (R261, R265). -/
def State.countDiscard (s : State) (r : Rec) : State :=
  let s1 := s.bump pBOOK F.BOOK.DISCARD.COUNT
  if edgeKind r.kind then
    ((s1.bump (pEDGE (r.source / 64)) F.EDGE.DROPS.COUNT).event (pEDGE (r.source / 64)) 11)
  else s1.bump pBOOK F.BOOK.DISCARD_SYS.COUNT

/-- An episode with one more discarded record (R266). -/
def episodeWith (e : Option Episode) (r : Rec) (t : Nat) : Episode :=
  match e with
  | some e => { count := e.count + 1, tMin := min e.tMin r.t, tMax := max e.tMax r.t,
                nonEdge := e.nonEdge || !edgeKind r.kind, last := t }
  | none => { count := 1, tMin := r.t, tMax := r.t, nonEdge := !edgeKind r.kind, last := t }

/-- A discard joins the discard episode under way, or begins one and sets PEVT bit 8 (R266). -/
def State.episodeAdd (s : State) (r : Rec) : State :=
  let e := episodeWith s.book.episode r s.now
  let s1 := { s with book := { s.book with episode := some e } }
  if s.book.episode.isNone then s1.event pBOOK 8 else s1

/-- A record is discarded on a full queue or under the fill rules (R261, R265, R266). -/
def State.discardRec (s : State) (r : Rec) : State := (s.countDiscard r).episodeAdd r

/-- Which staging queue a record goes to (R261). -/
inductive Stage where
  | guard
  | mgt
  | island (c : Nat)
deriving DecidableEq, Repr

/-- The island queues. -/
def islandDefault (_ : Nat) : List Rec := []

/-- The queue of an island. -/
def State.islandQ (s : State) (c : Nat) : List Rec := tabGet islandDefault s.book.islandQ c

/-- Is this hub a duplex standby whose book runs in shadow (R269, R395)? -/
def State.shadowBook (s : State) : Bool :=
  s.standby

/-- Drop the oldest pin record, or the oldest record where there is none (R269). -/
def dropOldest (l : List Rec) : List Rec :=
  if l.any (fun r => edgeKind r.kind) then l.eraseP (fun r => edgeKind r.kind) else l.drop 1

/-- The record that `dropOldest` drops. -/
def oldestOf (l : List Rec) : Option Rec := (l.find? (fun r => edgeKind r.kind)).or l.head?

/-- A record of a standby's own blocks waits in the shadow queue of 256 (R269). -/
def State.shadowAdd (s : State) (r : Rec) : State :=
  if s.book.shadowQ.length < 256 then { s with book := { s.book with shadowQ := s.book.shadowQ ++ [r] } }
  else
    let lost := (oldestOf s.book.shadowQ).map (fun x => episodeWith s.book.shadowLost x s.now)
    (({ s with book := { s.book with shadowQ := dropOldest s.book.shadowQ ++ [r], shadowLost := lost } }).bumpSat pBOOK
      F.BOOK.SHADOW.DROP).event pBOOK 12

/-- A block hands a record to the writer's staging queues (R261, R270). -/
def State.stage (s : State) (q : Stage) (r : Rec) : State :=
  if !s.book.everOn then
    if s.book.preQ.length < 64 then { s with book := { s.book with preQ := s.book.preQ ++ [r] } }
    else
      let e := episodeWith s.book.preLost r s.now
      { s with book := { s.book with preLost := some e } }
  else if !s.running pBOOK then s.bump pBOOK F.BOOK.DISCARD.COUNT
  else if s.shadowBook then s.shadowAdd r
  else match q with
    | .guard =>
      if s.book.guardQ.length < 16 then { s with book := { s.book with guardQ := s.book.guardQ ++ [r] } }
      else s.discardRec r
    | .mgt =>
      if s.book.mgtQ.length < 32 then { s with book := { s.book with mgtQ := s.book.mgtQ ++ [r] } }
      else s.discardRec r
    | .island c =>
      if (s.islandQ c).length < 16 then
        { s with book := { s.book with islandQ := tabPut islandDefault s.book.islandQ c (s.islandQ c ++ [r]) } }
      else s.discardRec r

/-- A record of a CLK_MGT block or a CAN island with the T of this moment. -/
def State.note (s : State) (kind flags source : Nat) (data : List Byte) : State :=
  s.stage .mgt { t := s.now, kind := kind, flags := flags, source := source, data := data }

/-- The lines of R23. -/
def lineTrip : Nat := 0
def linePg : Nat := 1
def lineVacant : Nat := 2
def lineSupply : Nat := 3
def lineMain : Nat := 4
def lineRail : Nat := 5
def lineTamper : Nat := 6
def lineKey : Nat := 7
/-- Shed of class D, C, B (0, 1, 2). -/
def lineShed (k : Nat) : Nat := 8 + k
def lineRelease : Nat := 11

/-- An event line that has never toggled. -/
def lineIdle : EvLine := { last := none, waiting := [], toggled := [] }

/-- One line. -/
def State.line (s : State) (l : Nat) : EvLine := nth s.pwr.lines l lineIdle

/-- Store one line. -/
def State.setLine (s : State) (l : Nat) (e : EvLine) : State :=
  { s with pwr := { s.pwr with lines := setNth s.pwr.lines l e } }

/-- The guard die detects an event of a line: it waits for the toggle of R23, which GUARD_EVENT_LINE_TOGGLE
makes. Until the line's edge is stamped, `t` holds the clock of the detection. While the core die is not out of reset no
detector takes the edge, so no record follows. -/
def State.guardEvent (s : State) (l : Nat) (r : Rec) : State :=
  if !s.coreOn then s else s.setLine l { s.line l with waiting := (s.line l).waiting ++ [{ r with t := s.clock }] }

/-- A guard-die record: kind, flags, source and data; its T is the stamp of the line edge (R23, R260). -/
def guardRec (kind flags source : Nat) (data : List Byte) : Rec :=
  { t := 0, kind := kind, flags := flags, source := source, data := data }

end Sys2Proof.Machine
end

