-- ==== Sys2Proof/Machine/Frames.lean ====
section
/-!
DEFINITION. Frames inside the hub: lengths and wire times (R309, R313), bytes on the wire, the Spanen header and CRC
(R29), transmit queues (R316, R317), buffer cells (R348), header capture (R360–R362), and the frames the hub itself
builds and sends.
-/

namespace Sys2Proof.Machine

/-! Lengths and wire times. -/

/-- Bytes from the destination address to the FCS, with every tag (R313); a SecTAG with its ICV adds 32 (R356). -/
def flen (f : Frame) : Nat :=
  14 + (if f.vlan.isSome then 4 else 0) + (if f.hsr.isSome then 6 else 0) + (if f.sec.isSome then 32 else 0) +
    f.body.length + 4

/-- Cells a frame occupies (R348). -/
def cellsOf (f : Frame) : Nat := ceilDiv (flen f) 256

/-- Tenths of a half-nanosecond per byte in a line mode at a speed code (R309, R329). -/
def byteTime10 (mode speed : Nat) : Nat :=
  if mode = 0 ∨ mode = 5 then 16
  else if mode = 1 then 160
  else if mode = 2 then 64
  else if mode = 4 then 1600
  else if speed = 0 then 16000 else if speed = 1 then 1600 else 160

/-- Wire time of `n` bytes plus preamble, delimiter and inter-frame gap, in hns (R309). -/
def wireTime (mode speed n : Nat) : Nat := ceilDiv ((n + 20) * byteTime10 mode speed) 10

/-! Bytes. -/

/-- The FCS of IEEE 802.3 over a byte string, least significant byte first on the wire. -/
def ethFcs (l : List Byte) : Nat := (l.foldl (crcByte 0xEDB88320) 0xFFFFFFFF) ^^^ 0xFFFFFFFF

/-- The plaintext bytes of a frame from the destination address, without FCS (R361, R387). -/
def plainBytes (f : Frame) : List Byte :=
  beBytes 6 f.dst ++ beBytes 6 f.src ++
  (match f.vlan with | some tci => beBytes 2 0x8100 ++ beBytes 2 tci | none => []) ++
  (match f.hsr with
    | some h => beBytes 2 0x892F ++ beBytes 2 (h.path * 4096 + h.size % 4096) ++ beBytes 2 h.seq
    | none => []) ++
  beBytes 2 f.etype ++ f.body

/-- The plaintext bytes with the FCS. -/
def frameBytes (f : Frame) : List Byte := plainBytes f ++ leBytes 4 (ethFcs (plainBytes f))

/-- The switch CRC-16 of R335: polynomial 0x1021, initial value 0xFFFF, no reflection, no final XOR. -/
def crc16Bit (c : Nat) : Nat := if c / 0x8000 % 2 = 1 then (c * 2 % 0x10000) ^^^ 0x1021 else c * 2 % 0x10000

/-- One byte of the switch CRC-16. -/
def crc16Byte (c : Nat) (b : Byte) : Nat :=
  crc16Bit (crc16Bit (crc16Bit (crc16Bit (crc16Bit (crc16Bit (crc16Bit (crc16Bit (c ^^^ (b.toNat * 256)))))))))

/-- The switch CRC-16 of a byte string. -/
def crc16 (l : List Byte) : Nat := l.foldl crc16Byte 0xFFFF

/-! Spanen frames. -/

/-- Is this a Spanen frame (R29, R333)? -/
def State.isSpanen (s : State) (f : Frame) : Bool := f.etype = s.get pSWITCH F.SWITCH.SPANEN.ETYPE

/-- Byte `i` of the Spanen header and payload. -/
def hdr (f : Frame) (i : Nat) : Nat := (nth f.body i 0).toNat

/-- Kind of a Spanen frame (R30). -/
def kindOf (f : Frame) : Nat := hdr f 0 % 16

/-- Source node and member of a Spanen frame (R29). -/
def srcNode (f : Frame) : Nat := ofBE (slice f.body 2 2) / 512
def srcMember (f : Frame) : Nat := ofBE (slice f.body 2 2) / 128 % 4

/-- This hub's current member bits (R14): by state in a duplex node, by strap in a gang. -/
def State.member (s : State) : Nat :=
  if s.role = 1 ∨ s.role = 2 then
    (if s.dupState = some 1 ∨ s.dupState = some 5 then 0 else 1)
  else if s.role ≥ 4 then s.role - 4 else 0

/-- The station address of this hub (R29). -/
def State.stationAddr (s : State) : Nat := 0x025A * 2 ^ 32 + s.pwr.serial % 2 ^ 32

/-- The current cycle number and schedule digest that a header carries, 0 while CYCLE does not run (R29). -/
def State.hdrCycle (s : State) : Nat := if s.running pCYCLE then s.get pCYCLE F.CYCLE.NOW_CYC.CYCLE else 0
def State.hdrDigest (s : State) : Nat := if s.running pCYCLE then s.get pCYCLE F.CYCLE.SCHED_DIG.DIGEST else 0

/-- A 48-bit group address from its two registers (R152, R183, R275, R391). -/
def groupAddr (hi lo : Nat) : Nat := hi * 2 ^ 32 + lo

/-- Build a Spanen frame: header, payload and CRC-32C (R29). -/
def State.spanen (s : State) (dst kind flags cyc : Nat) (kspec payload : List Byte) (vlan : Option Nat) : Frame :=
  let h := beBytes 1 (0x10 + kind) ++ beBytes 1 flags ++ beBytes 2 (s.nid * 512 + s.member * 128) ++ beBytes 4 cyc ++
    beBytes 4 s.hdrDigest ++ kspec
  let b := h ++ payload
  { dst := dst, src := s.stationAddr, vlan := vlan, hsr := none, sec := none,
    etype := s.get pSWITCH F.SWITCH.SPANEN.ETYPE, body := b ++ beBytes 4 (crc32c b) }

/-- Pad a Spanen frame to the 64 bytes that it has at least before MACsec protection (R29). -/
def State.padMin (s : State) (f : Frame) : Frame :=
  if s.isSpanen f then { f with body := f.body ++ List.replicate (64 - flen { f with sec := none }) 0 } else f

/-- Does the Spanen CRC-32C of a frame with a payload of `n` bytes hold (R29)? -/
def spanenCrcOk (f : Frame) (n : Nat) : Bool :=
  ofBE (slice f.body (16 + n) 4) = crc32c (f.body.take (16 + n))

/-- Does the Spanen CRC-32C of a received frame hold, whatever its kind (R29, R344)? A frame longer than the minimum has no
padding, and one of the minimum length may end in padding. -/
def spanenOk (f : Frame) : Bool :=
  let m := 64 - (flen { f with sec := none } - f.body.length)
  decide (20 ≤ f.body.length) &&
    (if m < f.body.length then spanenCrcOk f (f.body.length - 20)
     else (List.range (f.body.length - 19)).any (fun n => spanenCrcOk f n && (f.body.drop (20 + n)).all (fun b => b == 0)))

/-- A Spanen frame of the minimum length or less without its padding: with the fewest payload bytes for which its CRC-32C holds and
zeros follow (R29). -/
def State.unpad (s : State) (f : Frame) : Frame :=
  if s.isSpanen f && decide (flen { f with sec := none } ≤ 64) then
    match (List.range (f.body.length - 19)).find? (fun n => spanenCrcOk f n && (f.body.drop (20 + n)).all (fun b => b == 0)) with
    | some n => { f with body := f.body.take (20 + n) }
    | none => f
  else f

/-! Ports. -/

/-- Port state default. -/
def portDefault (_ : Nat) : PortSt := PortSt.init

/-- One port. -/
def State.port (s : State) (n : Nat) : PortSt := tabGet portDefault s.ports n

/-- Store one port. -/
def State.setPort (s : State) (n : Nat) (p : PortSt) : State :=
  { s with ports := tabPut portDefault s.ports n p }

/-- Is the port's link declared up? -/
def State.linkUp (s : State) (n : Nat) : Bool := s.flag (pPORT n) F.PORT.STS.LINK

/-- Live counter `i` of a port (R327). -/
def portCtr (i : Nat) : Fld := F.PORT.COUNTER.COUNT.at (8 * i)

/-- What is counted in this cycle is remembered: a snapshot of the same cycle leaves it out (R328). -/
def State.markCount (s : State) (n i k : Nat) : State :=
  let l := if s.sets.clk = s.clock then s.sets else { CycleSets.init with clk := s.clock }
  { s with sets := { l with counts := (n, i, k) :: l.counts } }

/-- What counter `i` of port `n` has counted in this cycle. -/
def State.countedNow (s : State) (n i : Nat) : Nat :=
  if s.sets.clk = s.clock then ((s.sets.counts.filter (fun e => e.1 == n && e.2.1 == i)).map (fun e => e.2.2)).sum else 0

/-- Count in live counter `i`. -/
def State.portCount (s : State) (n i : Nat) (k : Nat := 1) : State := (s.markCount n i k).bumpBy (pPORT n) (portCtr i) k

/-- Is port `n` protected (R356, R374)? -/
def State.protected (s : State) (n : Nat) : Bool :=
  decide (n < 7) && s.running pMACSEC && s.flag pMACSEC (F.MACSEC.CTL.PROT.at (0x80 * n))

/-- Bytes that MACsec adds to a frame on a port: none to EAPOL (R356). -/
def State.secBytes (s : State) (n : Nat) (f : Frame) : Nat :=
  if s.protected n && f.sec.isNone && f.etype != 0x888E then 32 else 0

/-- Wire time of a frame on a port, MACsec expansion included (R309, R319). -/
def State.portWire (s : State) (n : Nat) (f : Frame) : Nat :=
  wireTime (s.get (pPORT n) F.PORT.STS.LMODE) (s.get (pPORT n) F.PORT.STS.SPEED) (flen f + s.secBytes n f)

/-! Buffer cells (R348): each buffer number counts once. -/

/-- The copies whose frames the buffer holds: those that wait, and those that are still leaving (R342). -/
def State.heldCopies (s : State) : List QFrame :=
  s.sw.txq ++ s.ports.filterMap (fun p => match p.2.leaving with
    | some l => if s.now < p.2.leaveEnd then some l.q else none
    | none => none)

/-- The copies without further copies of a frame already counted. -/
def distinctBufs : List QFrame → List Nat → List QFrame
  | [], _ => []
  | q :: t, seen => if seen.contains q.buf then distinctBufs t seen else q :: distinctBufs t (q.buf :: seen)

/-- The cells in use, and how many. -/
def State.usedCells (s : State) : List Nat := (distinctBufs s.heldCopies []).flatMap (fun q => q.cells)
def State.cellsUsed (s : State) : Nat := s.usedCells.length

/-- Free cells (R353). -/
def State.cellsFree (s : State) : Nat := 16384 - s.cellsUsed

/-- Cells held by frames that entered at a port (R323). -/
def State.inUse (s : State) (n : Nat) : Nat :=
  (((distinctBufs s.heldCopies []).filter (fun q => q.ingress == some n)).map (fun q => q.cells.length)).sum

/-- The first `need` cells from number `i` on that are not in use. -/
def freeFrom (used : List Nat) : Nat → Nat → Nat → List Nat
  | 0, _, _ => []
  | fuel + 1, need, i =>
    if need = 0 then [] else if used.contains i then freeFrom used fuel need (i + 1) else i :: freeFrom used fuel (need - 1) (i + 1)

/-- The 256 bytes of a cell that nothing has written are 0 (DESIGN CHOICE, assumption log 53). -/
def cellDefault (_ : Nat) : List Byte := List.replicate 256 0

/-- Write bytes at the beginning of a cell; the rest of it stays. -/
def cellPut (d : List (Nat × List Byte)) (c : Nat) (b : List Byte) : List (Nat × List Byte) :=
  tabPut cellDefault d c (b ++ (tabGet cellDefault d c).drop b.length)

/-- Byte `a` of the buffer (R33, R348). -/
def State.bufByte (s : State) (a : Nat) : Byte := nth (tabGet cellDefault s.sw.data (a / 256)) (a % 256) 0

/-- A frame is written into the buffer: the state, its buffer number and its cells, the free ones of the lowest numbers (R348;
which cells, DESIGN CHOICE, assumption log 53). -/
def State.storeFrame (s : State) (f : Frame) : State × Nat × List Nat :=
  let k := cellsOf { f with sec := none }
  let cs := freeFrom s.usedCells (s.cellsUsed + k) k 0
  let b := frameBytes f
  ({ s with sw := { s.sw with
      nextBuf := s.sw.nextBuf + 1
      data := cs.zipIdx.foldl (fun d c => cellPut d c.1 (slice b (256 * c.2) 256)) s.sw.data } }, s.sw.nextBuf, cs)

/-- A frame finds no room in the buffer (R353). -/
def State.bufDrop (s : State) : State := (s.bump pSWITCH F.SWITCH.BUF_DROP.COUNT).event pSWITCH 9

/-- Has the buffer no room for a frame? One that needs more cells than are free finds FREE = 0 on its way in (R353; DEDUCED,
assumption log 53). -/
def State.bufFull (s : State) (f : Frame) : Bool := decide (s.cellsFree < cellsOf { f with sec := none })

/-- Cells queued in a queue of a port (R317). -/
def State.qDepth (s : State) (n q : Nat) : Nat :=
  ((s.sw.txq.filter (fun x => x.port == n && x.q == q)).map (fun x => x.cells.length)).sum

/-! Header capture. -/

/-- EtherType, kind and destination tests of a capture rule (R360). -/
def State.capMatch (s : State) (r n : Nat) (egress dropped : Bool) (f : Frame) : Bool :=
  let g := fun (x : Fld) => s.get pCAPTURE (x.at (16 * r))
  g F.CAPTURE.RULE_A.EN == 1 && natBit (g F.CAPTURE.RULE_B.PORTS) n &&
  natBit (g F.CAPTURE.RULE_A.DIR) (bit egress) &&
  (g F.CAPTURE.RULE_A.WHICH == 2 || g F.CAPTURE.RULE_A.WHICH == bit dropped) &&
  (g F.CAPTURE.RULE_A.ETYPE_EN == 0 || g F.CAPTURE.RULE_A.ETYPE == f.etype) &&
  (g F.CAPTURE.RULE_A.KIND_EN == 0 || (s.isSpanen f && g F.CAPTURE.RULE_A.KIND == kindOf f)) &&
  (g F.CAPTURE.RULE_D.DA_EN == 0 ||
    f.dst == g F.CAPTURE.RULE_D.DA_HI * 2 ^ 32 + g F.CAPTURE.RULE_C.DA_LO)

/-- The mark of a drop for which R361 states no reason code. -/
def noReason : Nat := 256

/-- What a capture record says of a frame (R361). -/
structure Fate where
  egress : Bool
  reason : Nat
  cut : Bool
  map : Nat
  stamp : Option Nat
deriving DecidableEq, Repr

/-- The 256 bytes of a capture record (R361); `free` is the drop reason where none is stated. -/
def capBytes (seq n r free : Nat) (ft : Fate) (f : Frame) : List Byte :=
  let head := leBytes 8 (ft.stamp.getD 0) ++ leBytes 4 seq ++ leBytes 1 n ++
    leBytes 1 (r + 16 * bit ft.egress + 32 * bit (ft.reason != 0) + 64 * bit ft.stamp.isSome + 128 * bit ft.cut) ++
    leBytes 2 (flen f) ++ leBytes 1 (if ft.reason = noReason then free else ft.reason) ++ leBytes 3 0 ++ leBytes 4 (if ft.egress then 0 else ft.map) ++
    leBytes 4 0
  head ++ leBytes 4 (crc32c head) ++ slice (plainBytes f) 0 128 ++ List.replicate 96 0

/-- Test a frame against the capture rules and write at most one record (R360–R362). The limit of 15 M records/s is held over
every 2000 hns (DESIGN CHOICE, assumption log 98). -/
def State.capture (s : State) (n : Nat) (ft : Fate) (f : Frame) : State :=
  if !s.running pCAPTURE || s.held pCAPTURE then s
  else match (List.range 16).find? (fun r => s.capMatch r n ft.egress (ft.reason != 0) f) with
    | none => s
    | some r =>
      let wr := s.get pCAPTURE F.CAPTURE.WR_SEQ.SEQ
      let fill := (wr + 2 ^ 32 - s.get pCAPTURE F.CAPTURE.RD_SEQ.SEQ) % 2 ^ 32
      let lately := s.sw.capAt.filter (fun t => decide (s.clock < t + 2000))
      if s.flag pCAPTURE F.CAPTURE.CFG.STOP_FULL && fill == 1024 || decide (15 ≤ lately.length) then
        (s.bump pCAPTURE F.CAPTURE.LOST.COUNT).event pCAPTURE 9
      else
        let s00 := { s with sw := { s.sw with capAt := s.clock :: lately } }
        let s0 := if ft.reason = noReason then s00.nextFree else s00
        let s1 := (s0.stBytes (0x2000000 + 256 * (wr % 1024)) (capBytes wr n r (s.freeVal 8) ft f)).bump pCAPTURE
          F.CAPTURE.WR_SEQ.SEQ
        if (fill + 1) % 2 ^ 32 == s.get pCAPTURE F.CAPTURE.CFG.THRESH then s1.event pCAPTURE 8 else s1

/-! Queues. -/

/-- Priority of a frame under R314: PCP of its tag, else the default of its ingress port. -/
def pcpOf (f : Frame) (defPcp : Nat) : Nat :=
  match f.vlan with | some tci => tci / 8192 % 8 | none => defPcp

/-- The queue of R316 for a frame leaving by port `n`. -/
def State.queueOf (s : State) (n : Nat) (f : Frame) (defPcp : Nat) : Nat :=
  if s.isSpanen f then
    match kindOf f with
    | 1 => s.get pCYCLE F.CYCLE.CFG.PRIO
    | 2 => s.get pSTAKE F.STAKE.CFG.PRIO
    | 3 => s.get pSTAKE F.STAKE.CFG.PRIO
    | 4 => s.get pMSCL F.MSCL.CFG.PRIO
    | 5 => s.get (pPORT n) F.PORT.QSEL.MGMT_Q
    | 6 => if hdr f 12 = 3 then 7 else s.get (pPORT n) F.PORT.QSEL.MGMT_Q
    | 7 => s.get pBOOK F.BOOK.RING_CTL.PRIO
    | _ => 7
  else s.get (pPORT n) (F.PORT.PCPMAP.Q.up (3 * pcpOf f defPcp))

/-- A copy that port `n` cannot take is dropped: its counter, and MC_PARTIAL for a multicast copy (R317, R325, R332,
R342). -/
def State.dropCopy (s : State) (q : QFrame) (ctr reason : Nat) : State :=
  let s1 := s.portCount q.port ctr
  let s2 := if q.multi then s1.portCount q.port 14 else s1
  s2.capture q.port { egress := true, reason := reason, cut := false, map := 0, stamp := none } q.fr

/-- PEVT bit 13 of BUFMEM on entry to the state with fewer free cells than CRIT (R353). -/
def State.roomMark (s : State) : State :=
  let low := decide (s.cellsFree < s.get pBUFMEM F.BUFMEM.CFG.CRIT)
  let s1 := { s with sw := { s.sw with inCrit := low } }
  if low && !s.sw.inCrit then s1.event pBUFMEM 13 else s1

/-- Queue a copy at its port: dropped while the port is off or flushed, or when its queue is full (R317, R325, R332). -/
def State.enqueue (s : State) (q : QFrame) : State :=
  if !s.running (pPORT q.port) || s.flag (pPORT q.port) F.PORT.STS.FLUSHED then s.dropCopy q 17 4
  else if s.qDepth q.port q.q ≥ s.get (pPORT q.port) (F.PORT.QLIM.LIMIT.at (4 * q.q)) then s.dropCopy q 12 2
  else State.roomMark { s with sw := { s.sw with txq := s.sw.txq ++ [q] } }

/-- HSR tagging of a frame the hub originates or proxies: the next sequence number, while HSR runs in RING mode
(R343). -/
def State.hsrOn (s : State) : Bool := s.running pHSR && s.flag pHSR F.HSR.CFG.RING

/-- Give an originated frame its HSR tag; the number counts up once per frame. A Spanen frame is padded first to the
minimum, in which its tag counts (R29). -/
def State.hsrTag (s : State) (f : Frame) : State × Frame :=
  if s.hsrOn then
    let t : HsrTag := { path := 0, size := 0, seq := s.get pHSR F.HSR.SEQ.NEXT }
    let g := s.padMin { f with hsr := some t }
    (s.set pHSR F.HSR.SEQ.NEXT (s.get pHSR F.HSR.SEQ.NEXT + 1), { g with hsr := some { t with size := flen g - 18 } })
  else (s, f)

/-- Queue a frame that enters here, held once in the buffer as `f`, at each of the given ports in the form it has there (R341,
R342); with no room it is dropped and counted (R353). -/
def State.sendForms (s : State) (f : Frame) (l : List (Nat × Frame)) (q tag : Option Nat) : State :=
  if s.bufFull f then s.bufDrop
  else
    let m := s.storeFrame f
    l.foldl (fun st x =>
      st.enqueue { port := x.1, q := q.getD (st.queueOf x.1 x.2 0), buf := m.2.1, fr := x.2, stamp := st.now, ingress := none,
                   multi := decide (l.length > 1), tag := tag, gateHeld := false,
                   isPlat := st.isSpanen x.2 && kindOf x.2 == 1, cells := m.2.2 }) m.1

/-- Queue a frame the hub itself builds at each of the given ports, as copies of one buffered frame (R341, R342). -/
def State.sendCopies (s : State) (ports : List Nat) (f0 : Frame) (q : Option Nat) (tag : Option Nat) : State :=
  let f := s.padMin f0
  s.sendForms f (ports.map (fun n => (n, f))) q tag

/-- Is this hub on the ring (R14, R16, R19)? -/
def State.onRing (s : State) : Bool :=
  s.nid != 0 && (decide (s.role ≤ 4) || (s.isTwin (s.role - 4) && s.guards (s.role - 4) == 0))

/-- Is this hub a gang member? -/
def State.inGang (s : State) : Bool := decide (4 ≤ s.role)

/-- The twin of a member. -/
def State.twinOf (s : State) (m : Nat) : Option Nat :=
  (List.range 4).find? (fun t => s.isTwin t && s.guards t == m)

/-- A bit of a member map of GANGCTL.STS. -/
def memBit (f : Fld) (m : Nat) : Fld := ⟨f.off, f.lo + m, 1⟩
def State.memPresent (s : State) (m : Nat) : Bool := s.flag pGANGCTL (memBit F.GANGCTL.STS.PRESENT m)
def State.memFenced (s : State) (m : Nat) : Bool := s.flag pGANGCTL (memBit F.GANGCTL.STS.FENCED m)

/-- Does this gang member act for member `m` (R418)? -/
def State.actsFor (s : State) (m : Nat) : Bool :=
  s.inGang && ((m == s.member && !s.fenced && !s.standby) ||
    (s.isTwin s.member && s.guards s.member == m && (s.dupState == some 1 || s.dupState == some 5)))

/-- Is this hub the acting lead? -/
def State.isLead (s : State) : Bool := s.actsFor 0

/-- The member that acts for member `m` as this hub sees it (R418). The hubs of the pair know it themselves; another member takes
the twin for it once `m` is fenced or gone, or once the twin has sent what only the acting hub sends. The spec does not say
how the others learn of a handover (DESIGN CHOICE, assumption log 97). -/
def State.actingFor (s : State) (m : Nat) : Nat :=
  if s.actsFor m then s.member
  else match s.twinOf m with
    | some t =>
      let there := s.memPresent t && !s.memFenced t
      if m = s.member then (if there then t else m)
      else if t = s.member then m
      else if there && (s.gang.acts.contains t || !s.memPresent m || s.memFenced m) then t else m
    | none => m

/-- Member `k` has sent what only the hub that acts for member `m` sends: it acts from now on (R416, R418). -/
def State.actNote (s : State) (m k : Nat) : State :=
  let rest := s.gang.acts.filter (fun t => s.twinOf m != some t)
  if k = m then { s with gang := { s.gang with acts := rest } }
  else if s.twinOf m = some k then { s with gang := { s.gang with acts := k :: rest } }
  else s

/-- The gang port of member `m` towards member `k` (R18): member m's port GNGj reaches (m + j + 1) mod 4. -/
def gangPort (m k : Nat) : Nat := 4 + (k + 3 - m % 4) % 4

/-- The flow key hash of R340. -/
def flowHash (f : Frame) (vid : Nat) : Nat :=
  crc16 (beBytes 6 f.dst ++ beBytes 6 f.src ++ beBytes 2 vid ++ beBytes 2 f.etype)

/-- A frame for which there is no path (R340). -/
def State.noPath (s : State) : State := (s.bump pSWITCH F.SWITCH.NOPATH.COUNT).event pSWITCH 11

/-- The members that can relay towards member `k` (R340): the other fitted members to which the own link is up and whose link to
`k` is up. That state is in no message, and is free (assumption log 43). -/
def State.relays (s : State) (k : Nat) : List Nat :=
  (List.range 4).filter (fun m => m != s.member && m != k && natBit (s.get pGANGCTL F.GANGCTL.CFG.MEMBERS) m &&
    s.linkUp (gangPort s.member m) && Config.farLink m k s.clock)

/-- The gang port towards member `k` for a flow (R340): the direct link where it is up, else the link to the relay that the
hash chooses; none where there is no path. -/
def State.gangRoute (s : State) (k h : Nat) : Option Nat :=
  let d := gangPort s.member k
  if s.linkUp d then some d
  else match s.relays k with
    | [] => none
    | m :: t => some (gangPort s.member (nth (m :: t) (h % (t.length + 1)) m))

/-- Send an own frame to member `k` over the gang links. An untagged frame that the hub builds counts with VID 0 in its flow
key (DESIGN CHOICE, assumption log 43). -/
def State.sendMember (s : State) (k : Nat) (f : Frame) (q : Option Nat) : State :=
  match s.gangRoute k (flowHash f 0) with
  | some n => s.sendCopies [n] f q none
  | none => s.noPath

/-- Send an own frame on both ring ports, tagged under R343; a gang member off the ring sends it over its gang link to
the hub that acts for the lead (R268, R340, R418). -/
def State.sendRing (s : State) (f : Frame) : State :=
  if s.onRing then
    let r := s.hsrTag f
    r.1.sendCopies [0, 1] r.2 none none
  else s.sendMember (s.actingFor 0) f none

/-- The group address of MGMT and NOTICE frames (R378). -/
def State.mda (s : State) : Nat :=
  groupAddr (s.get pBRIDGE F.BRIDGE.MDA_HI.DA_HI) (s.get pBRIDGE F.BRIDGE.MDA_LO.DA_LO)

/-- Header bytes 12–15 of a MGMT or NOTICE frame (R378, R384). -/
def mgmtSpec (subkind node member count : Nat) : List Byte :=
  beBytes 1 subkind ++ beBytes 1 node ++ beBytes 1 (member * 64) ++ beBytes 1 count

/-- Send a MGMT frame (R378). -/
def State.sendMgmt (s : State) (subkind node member count : Nat) (payload : List Byte) : State :=
  s.sendRing (s.spanen s.mda 5 0 s.hdrCycle (mgmtSpec subkind node member count) payload none)

/-- Send a NOTICE frame (R384, R385, R464). -/
def State.sendNotice (s : State) (spec payload : List Byte) : State :=
  s.sendRing (s.spanen s.mda 6 0 s.hdrCycle spec payload none)

/-! Towards the host. -/

/-- Send a completion to the host (class CP, R383). -/
def State.post (s : State) (m : HostMsg) : State :=
  { s with bridge := { s.bridge with out := s.bridge.out ++ [m] } }

/-- Does class RH wait: the PCIe link is down, or the bridge is held at the head of the class (R392)? -/
def State.rhWaits (s : State) : Bool := !s.bridge.linkUp || s.held pBRIDGE

/-- What waits in class RH leaves in order. -/
def State.rhGo (s : State) : State :=
  if s.rhWaits then s else { s with bridge := { s.bridge with out := s.bridge.out ++ s.bridge.rh, rh := [] } }

/-- A request towards host memory enters class RH behind those before it (R383, R386). -/
def State.postRh (s : State) (m : HostMsg) : State :=
  State.rhGo { s with bridge := { s.bridge with rh := s.bridge.rh ++ [m] } }

/-- Write data that waits in class RH, and the room of 32 KiB for more of it (R383). -/
def rhBytes (l : List HostMsg) : Nat := (l.map (fun m => match m with | .write _ d => d.length | _ => 0)).sum
def State.rhRoom (s : State) (k : Nat) : Bool := !s.rhWaits || decide (rhBytes s.bridge.rh + k ≤ 32768)

/-- A write to host memory in payloads of at most 256 bytes, in address order (R375). -/
def State.rhWrite (s : State) (a : Nat) (d : List Byte) : State :=
  (List.range (ceilDiv d.length 256)).foldl (fun st i => st.postRh (.write (a + 256 * i) (slice d (256 * i) (min 256 (d.length - 256 * i))))) s

/-- Deliver a frame to the host ring (R387, R392). A frame for which class RH has no room left is dropped like one without a slot
(DESIGN CHOICE, assumption log 100). -/
def State.hostDeliver (s : State) (n : Nat) (stamp : Option Nat) (f : Frame) : State :=
  if !s.running pBRIDGE || !s.flag pBRIDGE F.BRIDGE.CFG.RX_EN then s
  else
    let sz := s.get pBRIDGE F.BRIDGE.RX_CTL.SIZE
    let k := s.bridge.rxSlot
    let used := (k + 2 ^ 32 - s.get pBRIDGE F.BRIDGE.RX_HOSTRD.SLOT) % 2 ^ 32
    if !s.bridge.linkUp || used ≥ 2 ^ sz || !s.rhRoom (24 + flen { f with sec := none }) then (s.bump pBRIDGE F.BRIDGE.RXDROP.COUNT).event pBRIDGE 12
    else
      let h := leBytes 8 (stamp.getD 0) ++ leBytes 2 (flen { f with sec := none }) ++ leBytes 1 n ++
        leBytes 1 (bit stamp.isSome) ++ leBytes 4 0
      let k1 := (k + 1) % 2 ^ 32
      let s1 := (s.rhWrite (s.get pBRIDGE F.BRIDGE.RX_BASE.ADDR + 4096 * (k % 2 ^ sz)) (h ++ frameBytes f)).rhWrite
        (s.get pBRIDGE F.BRIDGE.RX_WRPTR.ADDR) (leBytes 8 k1)
      ({ s1 with bridge := { s1.bridge with rxSlot := k1 } }).event pBRIDGE 10

end Sys2Proof.Machine
end

