-- ==== Sys2Proof/Machine/Buffer.lean ====
section
/-!
DEFINITION. Buffer memory (R348–R353, R371): reads of rows with the errors they meet, failed banks and their rebuild.
-/

namespace Sys2Proof.Machine

/-- The word that bank `k` holds in row `row` (R348): eight data bytes of the cell, or in bank 8 their XOR over the data banks. -/
def State.bankWord (s : State) (row k : Nat) : List Byte :=
  if k < 8 then (List.range 8).map (fun i => s.bufByte (64 * row + 8 * k + i))
  else (List.range 8).map (fun i => ((List.range 8).map (fun j => s.bufByte (64 * row + 8 * j + i))).foldl (fun a b => a ^^^ b) 0)

/-- Bank `k` is declared failed (R350). -/
def State.bankFail (s : State) (k : Nat) : State :=
  if k < 9 then (s.set pBUFMEM (F.BUFMEM.STS.FAILED.up 0) (s.get pBUFMEM F.BUFMEM.STS.FAILED ||| 2 ^ k)).event pBUFMEM 10
  else s

/-- An error count of a bank. -/
def bankErrDefault (_ : Nat) : BankErr := { first := 0, count := 0 }

/-- A bank's count of words towards FAIL_TH starts anew (R350, R351). -/
def State.bankReset (s : State) (k : Nat) : State :=
  { s with sw := { s.sw with bankErr := tabPut bankErrDefault s.sw.bankErr k (bankErrDefault k) } }

/-- An uncorrectable word of bank `k` (R349, R350): counted unless the bank is failed; at the threshold inside the
window the bank is declared failed, or the block faults when another bank already is. -/
def State.bankUe (s : State) (k : Nat) : State :=
  if natBit (s.get pBUFMEM F.BUFMEM.STS.FAILED) k then s
  else
    let s1 := s.bump pBUFMEM (F.BUFMEM.UE.COUNT.at (4 * k))
    let e := tabGet bankErrDefault s1.sw.bankErr k
    let e1 : BankErr := if e.count = 0 ∨ e.first + 2000000 * s1.get pBUFMEM F.BUFMEM.FAIL_TH.WIN ≤ s1.clock
      then { first := s1.clock, count := 1 } else { e with count := e.count + 1 }
    let s2 := { s1 with sw := { s1.sw with bankErr := tabPut bankErrDefault s1.sw.bankErr k e1 } }
    if s2.get pBUFMEM F.BUFMEM.FAIL_TH.COUNT ≤ e1.count then
      (if s2.get pBUFMEM F.BUFMEM.STS.FAILED = 0 then s2.bankFail k else s2.blockFault pBUFMEM).bankReset k
    else s2

/-- A row is read (R349), with the erroneous words `(row, bank, uncorrectable)` that it holds; the answer says whether the
row is lost. A failed bank counts as one uncorrectable word; while bank 8 alone is failed, data reads directly. UEk counts each
uncorrectable word of a row that is lost, too (DEDUCED, assumption log 44). -/
def State.readRow (s : State) (row : Nat) (errs : List (Nat × Nat × Bool)) : State × Bool :=
  let here := errs.filter (fun e => e.1 == row && decide (e.2.1 < 9))
  let failed := (List.range 9).filter (fun k => natBit (s.get pBUFMEM F.BUFMEM.STS.FAILED) k)
  let ue := ((here.filter (fun e => e.2.2)).map (fun e => e.2.1)).filter (fun k => !failed.contains k)
  let ce := (here.filter (fun e => !e.2.2 && !failed.contains e.2.1)).map (fun e => e.2.1)
  let s1 := ce.foldl (fun st k => (st.bump pBUFMEM (F.BUFMEM.CE.COUNT.at (4 * k))).event pBUFMEM 8) s
  let s2 := ue.foldl State.bankUe s1
  let bad := ue.dedup.length + failed.length
  if 2 ≤ bad then ((s2.bump pBUFMEM F.BUFMEM.LOST.COUNT).event pBUFMEM 12, true)
  else if bad = 0 ∨ failed = [8] then (s2, false)
  else (s2.event pBUFMEM 9, false)

/-- The rows of a list are read in turn; the answer holds those that are lost. -/
def State.readRows (s : State) (errs : List (Nat × Nat × Bool)) : List Nat → State × List Nat
  | [] => (s, [])
  | r :: t =>
    let a := s.readRow r errs
    let b := a.1.readRows errs t
    (b.1, if a.2 then r :: b.2 else b.2)

/-- A write of CTL.FAIL declares bank BANK failed (R350). -/
def State.bufFail (s : State) (k : Nat) : State := (s.set pBUFMEM F.BUFMEM.CTL.BANK k).bankFail k

/-- A write of CTL.REBUILD naming a failed bank starts the rebuild (R351). Each word of the bank is the XOR of the other eight (R348),
which the bytes of the cells in State hold throughout, so that a row written meanwhile is never stale. -/
def State.bufRebuild (s : State) (k : Nat) : State :=
  let s1 := s.set pBUFMEM F.BUFMEM.CTL.BANK k
  if k < 9 ∧ natBit (s1.get pBUFMEM F.BUFMEM.STS.FAILED) k ∧ s1.sw.rebuild = none then
    ((({ s1 with sw := { s1.sw with rebuild := some k } }).set pBUFMEM F.BUFMEM.STS.REBUILDING 1).set pBUFMEM
      F.BUFMEM.STS.RB_BANK k).set pBUFMEM F.BUFMEM.CTL.REBUILD 1
  else s1

/-- The read-back of a rebuild ends (R351). -/
def State.bufRebuilt (s : State) (ok : Bool) : State :=
  match s.sw.rebuild with
  | none => s
  | some k =>
    let s1 := (({ s with sw := { s.sw with rebuild := none } }).set pBUFMEM F.BUFMEM.STS.REBUILDING 0).set pBUFMEM
      F.BUFMEM.CTL.REBUILD 0
    if ok then
      let f := s1.get pBUFMEM F.BUFMEM.STS.FAILED
      ((s1.bankReset k).set pBUFMEM F.BUFMEM.STS.FAILED (if natBit f k then f - 2 ^ k else f)).event pBUFMEM 11
    else s1.event pBUFMEM 14

end Sys2Proof.Machine
end

