-- ==== Sys2Proof/Machine/Twin.lean ====
section
/-!
DEFINITION. What the blocks below a pair and a gang need of them (chapter 14): cycle numbers (R128), which hub acts for
which member (R418), backsight frames (R397–R399), and what the switch notices of the other hub (R406, R412, R416).
-/

namespace Sys2Proof.Machine

/-! Cycles. -/

/-- Cycle `c` is older than cycle `n` (R128). -/
def olderCyc (c n : Nat) : Bool :=
  decide (1 ≤ (n + 2 ^ 32 - c % 2 ^ 32) % 2 ^ 32) && decide ((n + 2 ^ 32 - c % 2 ^ 32) % 2 ^ 32 < 2 ^ 31)

/-- The low 32 bits of a cycle number. -/
def cyc32 (n : Int) : Nat := (n % 2 ^ 32).toNat

/-- n(T) and T_n (R128). -/
def State.cycOf (s : State) (t : Nat) : Int :=
  ((t : Int) - s.get pCYCLE F.CYCLE.CYC_PHASE.PHASE) / (s.get pCYCLE F.CYCLE.CYC_LEN.LEN : Nat)
def State.cycTime (s : State) (n : Int) : Int :=
  n * (s.get pCYCLE F.CYCLE.CYC_LEN.LEN : Nat) + (s.get pCYCLE F.CYCLE.CYC_PHASE.PHASE : Nat)
def State.cycT (s : State) (n : Int) : Nat := (s.cycTime n).toNat

/-- The ring time at offset `o` of cycle `n`, which may begin before ring time 0. -/
def State.cycPoint (s : State) (n : Int) (o : Nat) : Nat := (s.cycTime n + o).toNat

/-- The first boundary at or after ring time `t`, and the next boundary. -/
def State.boundaryFrom (s : State) (t : Nat) : Nat :=
  if s.cycT (s.cycOf t) = t then t else s.cycT (s.cycOf t + 1)
def State.nextBoundary (s : State) : Nat := s.cycT (s.cycOf s.now + 1)

/-- The next cycle, after `last`, whose moment at offset `o` has not passed. -/
def State.cycleAt (s : State) (o : Nat) (last : Option Int) : Int :=
  let c := s.cycOf s.now
  let n := if (s.now : Int) ≤ s.cycTime c + o then c else c + 1
  match last with
  | some l => max n (l + 1)
  | none => n

/-! Who acts for whom. -/

/-- The other hub of a member's pair. -/
def State.pairOf (s : State) (m : Nat) : Option Nat :=
  if s.isTwin m then some (s.guards m) else s.twinOf m

/-! Backsight frames. -/

/-- A CYCLE-COPY frame (R397): TYPE, index, count. -/
def State.backsight (s : State) (cyc typ i n : Nat) (payload : List Byte) : Frame :=
  s.spanen (2 ^ 48 - 1) 9 0 cyc [BitVec.ofNat 8 typ, BitVec.ofNat 8 i, BitVec.ofNat 8 n, 0] payload none

/-- Is this hub strapped active (R395)? -/
def State.strapActive (s : State) : Bool :=
  if s.role < 4 then s.role == 1 else !s.isTwin (s.role - 4)

/-- The STATUS payload (R398); `cyc` is the cycle of the record that follows. -/
def State.statusPayload (s : State) (cyc : Nat) : List Byte :=
  let st := s.dupState.getD 0
  let decl := s.dup.tDecl.isSome && st == 5
  beBytes 8 s.pwr.serial ++ beBytes 1 st ++
    beBytes 1 (bit (decl && !s.dup.handover) + 2 * bit (decl && s.dup.handover) + 4 * s.get pDUPLEX F.DUPLEX.STS.SYNCED +
      8 * s.get pDUPLEX F.DUPLEX.CFG.TAKE_EN + 16 * bit s.strapActive) ++
    beBytes 1 (if s.inGang then s.member else 0) ++ beBytes 1 0 ++
    beBytes 4 (if st = 1 ∨ st = 5 then cyc else s.get pDUPLEX F.DUPLEX.APPLIED_CYC.CYCLE) ++
    beBytes 8 (if decl then s.dup.tDecl.getD 0 else 0) ++ beBytes 8 0

/-- The cycle whose record follows at the next copy point. -/
def State.recordCycle (s : State) : Nat :=
  if s.running pCYCLE then cyc32 (s.cycleAt (s.get pDUPLEX F.DUPLEX.COPY_AT.AT) s.dup.copied) else 0

/-- Send a STATUS frame on both backsight links (R397, R398). -/
def State.sendStatus (s : State) (cyc : Nat) : State :=
  s.sendCopies [2, 3] (s.backsight cyc 1 0 1 (s.statusPayload cyc)) (some 7) none

/-- The 16 bytes of a notice entry (R399), and an entry from its bytes. -/
def noticeBytes (n : Notice) : List Byte :=
  beBytes 2 n.id ++ beBytes 1 (n.srcMember * 64) ++ beBytes 1 n.srcNode ++ beBytes 1 n.outcome ++ beBytes 1 n.cls ++
    beBytes 1 n.pin ++ beBytes 1 n.value ++ beBytes 8 n.tExec
def noticeOf (b : List Byte) : Notice :=
  let f := fun i => (nth b i 0).toNat
  { id := ofBE (slice b 0 2), srcMember := f 2 / 64, srcNode := f 3 % 128, outcome := f 4, cls := f 5 % 8, pin := f 6,
    value := f 7 % 4, tExec := ofBE (slice b 8 8) }

/-- The NOTICE frame of the notices gathered. -/
def State.noticeFrame (s : State) (l : List Notice) : Frame :=
  s.backsight s.hdrCycle 3 0 1 (l.flatMap noticeBytes)

/-- The notices gathered leave in one NOTICE frame (R399). -/
def State.noticesOut (s : State) : State :=
  if s.dup.notices = [] then s
  else
    let s1 := s.sendCopies [2, 3] (s.noticeFrame s.dup.notices) (some 7) none
    { s1 with dup := { s1.dup with notices := [], noticeBuf := s.sw.nextBuf } }

/-- The 200 hns within which notices share a frame have passed since the first of them: [t, t + 200), as R6 has every window. -/
def State.noticesDue (s : State) : State := if decide (s.dup.noticeT + 200 ≤ s.now) then s.noticesOut else s

/-- A release notice joins those gathered in the last 200 hns, up to 16; else it is the first of a new frame (R399). -/
def State.sendRelease (s : State) (n : Notice) : State :=
  let s1 := if decide (s.dup.noticeT + 200 ≤ s.now) || decide (16 ≤ s.dup.notices.length) then s.noticesOut else s
  { s1 with dup := { s1.dup with
      notices := s1.dup.notices ++ [n], noticeT := if s1.dup.notices = [] then s1.now else s1.dup.noticeT } }

/-! What the switch notices of the other hub. -/

/-- A good frame at the facing ring port is a sign of the other hub (R406). -/
def State.peerHeard (s : State) (n : Nat) : State :=
  if decide (n < 2) && n == s.get pDUPLEX F.DUPLEX.CFG.FACING then { s with dup := { s.dup with lastPeer := s.now } } else s

/-- A Spanen frame of the acting hub's own node and member bits 0b00 from another source: a dual claim (R412). With EN = 0 the hub
sends no frames (R423). -/
def State.claimSeen (s : State) (n : Nat) (f : Frame) : State :=
  if s.running pDUPLEX && decide (n < 2) && s.isSpanen f && srcNode f == s.nid && srcMember f == 0 && f.src != s.stationAddr &&
      (s.dupState == some 1 || s.dupState == some 5) && (s.role == 1 || s.role == 2 || s.isLead) && !s.dup.dualSent then
    let s1 := (s.sendMgmt 9 s.nid 0 1 (s.statusPayload s.recordCycle)).event pDUPLEX 13
    { s1 with dup := { s1.dup with dualSent := true } }
  else s

/-- A TIME frame leaves a gang port: its stamp is kept for the next one (R416). -/
def State.timeLeft (s : State) (n stamp : Nat) (f : Frame) : State :=
  if decide (4 ≤ n) && decide (n < 7) && s.isSpanen f && kindOf f == 8 && hdr f 12 == 2 then
    let m : TimeMark := { port := n, seq := ofBE (slice f.body 16 4), stamp := stamp }
    { s with gang := { s.gang with timeTx := m :: s.gang.timeTx.filter (fun x => x.port != n) } }
  else s

/-- While the direct link to the acting lead is down OFS_VALID is 0 (R416). -/
def State.leadLink (s : State) : State :=
  if s.inGang && !s.isLead && !s.linkUp (gangPort s.member (s.actingFor 0)) && s.flag pGANGCTL F.GANGCTL.STS.OFS_VALID then
    s.set pGANGCTL F.GANGCTL.STS.OFS_VALID 0
  else s

end Sys2Proof.Machine
end

