-- ==== Sys2Proof/Machine/Ports.lean ====
section
/-!
DEFINITION. Frame ports and MACs (chapter 11): links, gate lists, transmission, PAUSE, the hold window, the counters;
with MACsec protection on transmit (R356, R358), stamping and one-step correction (R86, R90, R94).
-/

namespace Sys2Proof.Machine

/-! Stamps. -/

/-- Round a number of sixteenths to the nearest whole, ties to even (R86). -/
def round16 (i : Int) : Int :=
  let q := i / 16
  let r := i % 16
  if r < 8 then q else if r > 8 then q + 1 else if q % 2 = 0 then q else q + 1

/-- Does port `n` stamp frames (R88, R108)? -/
def State.stampOn (s : State) (n : Nat) : Bool := s.running pSTAMP && s.flag pSTAMP (F.STAMP.PCFG.STAMP_EN.at (0x20 * n))

/-- ASYM + ASYM_LRN of port `n` as the registers hold them, in hns. -/
def State.asymNow (s : State) (n : Nat) : Int :=
  s.getS pSTAMP (F.STAMP.ASYM.ASYM.at (0x20 * n)) + s.getS pSTAMP (F.STAMP.ASYM_LRN.ASYM_LRN.at (0x20 * n))

/-- What refers the receive stamps of port `n` to its ball now (R86). -/
def State.corrNow (s : State) (n : Nat) : RxCorr :=
  { on := s.stampOn n, lat := s.get pSTAMP (F.STAMP.LAT.ING_LAT.at (0x20 * n)), asym := s.asymNow n }

/-- What was in force at RAW `raw`: the oldest kept value that ended after it, else the present one (R86). -/
def State.corrAt (s : State) (n raw : Nat) : RxCorr :=
  match ((s.port n).corr.filter (fun e => decide (raw < e.1))).getLast? with
  | some e => e.2
  | none => s.corrNow n

/-- A value ends at this moment, and is kept for the frames whose stamping point has passed (R86). No frame takes as long as 2^25
hns to arrive. -/
def State.corrKeep (s : State) (n : Nat) (v : RxCorr) : State :=
  s.setPort n { s.port n with
    corr := (s.raw, v) :: (s.port n).corr.filter (fun e => decide (s.raw < e.1 + 2 ^ 25)) }

/-- Bare receive stamp in 1/16 hns of a frame whose stamping point at port `n` passed at RAW `raw` (R86, R110). -/
def State.rxBare (s : State) (n raw : Nat) : Int := (16 * s.timeOf raw : Nat) - ((s.corrAt n raw).lat : Nat)

/-- Receive stamp at raw `raw` on port `n` (R86); none where STAMP did not run or the port had STAMP_EN = 0 (R88,
R108). A stamp that would be negative reads 0 (DESIGN CHOICE, assumption log 92). -/
def State.rxStamp (s : State) (n raw : Nat) : Option Nat :=
  if (s.corrAt n raw).on then some (round16 (s.rxBare n raw - 16 * (s.corrAt n raw).asym)).toNat else none

/-- Tenths of an hns in which a byte passes port `n` (R309). -/
def State.byte10 (s : State) (n : Nat) : Nat :=
  byteTime10 (s.get (pPORT n) F.PORT.STS.LMODE) (s.get (pPORT n) F.PORT.STS.SPEED)

/-- Wire time of `k` bytes at port `n` in hns, rounded down (R309). -/
def State.byteTime (s : State) (n k : Nat) : Nat := k * s.byte10 n / 10

/-- The time in which `k` bytes have passed port `n`. -/
def State.lineTime (s : State) (n k : Nat) : Nat := ceilDiv (k * s.byte10 n) 10

/-- RAW at the stamping point of a frame whose last FCS byte passes port `n` now (R86, R559): the first bit after the
start-of-frame delimiter, the length of the frame before. -/
def State.rxPoint (s : State) (n : Nat) (f : Frame) : Nat := s.raw - s.lineTime n (flen f)

/-- Bare transmit stamp in 1/16 hns of a frame whose stamping point at port `n` is at RAW `raw` (R86, R110). -/
def State.txBare (s : State) (n raw : Nat) : Nat := 16 * s.timeOf raw + s.get pSTAMP (F.STAMP.LAT.EGR_LAT.at (0x20 * n))

/-- A stamp enters the transmit-stamp queue (R90, R91, R107). A full queue discards it, unless the head is popped in the same
cycle. -/
def State.pushStamp (s : State) (e : TxStamp) : State :=
  if !s.running pSTAMP then s
  else if s.stamps.length ≥ 16 then
    let s1 := (s.bump pSTAMP F.STAMP.TXQOVF.COUNT).event pSTAMP 9
    if s1.sets.stamp.isNone then { s1 with sets := { s1.sets with stamp := some (e, s.flag pSTAMP ⟨0x0C, 9, 1⟩) } } else s1
  else
    let s1 := { s with stamps := s.stamps ++ [e] }
    if s.stamps.isEmpty then s1.event pSTAMP 10 else s1

/-- Is this a PTP message (R93)? -/
def State.isPtp (s : State) (f : Frame) : Bool := f.etype == s.get pSTAMP F.STAMP.PTPCFG.ETYPE

/-- One-step correction of a Sync forwarded between the ring ports (R94): the correction field, in units of 2^-16 ns,
grows by the residence plus the peer delay of the ingress port. -/
def oneStep (f : Frame) (rx tx pdelay : Nat) : Frame :=
  let old := toSigned (ofBE (slice f.body 8 8)) 64
  let add := ((tx : Int) - rx) * 2 ^ 15 + (pdelay : Int) * 2 ^ 11
  { f with body := f.body.take 8 ++ beBytes 8 (ofSigned (old + add) 64) ++ f.body.drop 16 }

/-! Gate lists. -/

/-- Entry `j` of gate bank `b`: gates and length in hns (R318). -/
def State.gclEntry (s : State) (n b j : Nat) : Nat × Nat :=
  (s.get (pPORT n) (F.PORT.GCL_ENTRY.GATES.at (0x100 * b + 4 * j)),
   2 * s.get (pPORT n) (F.PORT.GCL_ENTRY.INTERVAL.at (0x100 * b + 4 * j)))

/-- Number of entries of a bank. -/
def State.gclLen (s : State) (n b : Nat) : Nat :=
  s.get (pPORT n) (if b = 0 then F.PORT.GCL_LEN.LEN0 else F.PORT.GCL_LEN.LEN1)

/-- The entries of a bank. -/
def State.gclList (s : State) (n b : Nat) : List (Nat × Nat) :=
  (List.range (s.gclLen n b)).map (s.gclEntry n b)

/-- Sum of a bank's intervals in hns (R321, R322, R331). -/
def State.gclSum (s : State) (n b : Nat) : Nat := ((s.gclList n b).map (·.2)).sum

/-- Active bank. -/
def State.gclActive (s : State) (n : Nat) : Nat := s.get (pPORT n) F.PORT.GCL_CFG.ACTIVE

/-- Phase and length of the list cycle: the port's own, or the traverse cycle with SRC = 1 (R318). -/
def State.gclCycle (s : State) (n : Nat) : Nat × Nat :=
  if s.flag (pPORT n) F.PORT.GCL_CFG.SRC then
    (s.get pCYCLE F.CYCLE.CYC_PHASE.PHASE, s.get pCYCLE F.CYCLE.CYC_LEN.LEN)
  else (s.get (pPORT n) F.PORT.GCL_PHASE.PHASE, s.get (pPORT n) F.PORT.GCL_CYCLE.CYCLE)

/-- Does the gate list of a port run: enabled, and with SRC = 1 found to match while CYCLE runs (R318, R322)? -/
def State.gclRuns (s : State) (n : Nat) : Bool :=
  s.flag (pPORT n) F.PORT.GCL_CFG.GCL_EN &&
    (!s.flag (pPORT n) F.PORT.GCL_CFG.SRC || (s.running pCYCLE && !s.flag (pPORT n) F.PORT.STS.GCL_MISMATCH))

/-- The comparison of R322 for a port: GCL_MISMATCH, and PEVT bit 15 on entry. -/
def State.gclMatch (s : State) (n : Nat) : State :=
  let p := pPORT n
  let bad := s.running p && s.flag p F.PORT.GCL_CFG.SRC &&
    (!s.running pCYCLE || s.gclSum n (s.gclActive n) != s.get pCYCLE F.CYCLE.CYC_LEN.LEN)
  if bad && !s.flag p F.PORT.STS.GCL_MISMATCH then (s.set p F.PORT.STS.GCL_MISMATCH 1).event p 15
  else s.setB p F.PORT.STS.GCL_MISMATCH bad
/-- The start of the list cycle that holds ring time `t`. -/
def listStart (phase len t : Nat) : Nat := t - (t + len - phase % len) % len

/-- The gates and the end of the entry in force `off` hns into a list; past the end the last entry stays. -/
def entryAt : List (Nat × Nat) → Nat → Nat → Nat × Nat × Nat
  | [], _, j => (255, 0, j)
  | (g, l) :: t, off, j => if off < l ∨ t = [] then (g, l - off, j) else entryAt t (off - l) (j + 1)

/-- Gates in force at `t`, the time left of the entry, and its number. -/
def State.gatesAt (s : State) (n t : Nat) : Nat × Nat × Nat :=
  let pc := s.gclCycle n
  entryAt (s.gclList n (s.gclActive n)) (t - listStart pc.1 pc.2 t) 0

/-- Is queue `q`'s gate open over all of [t, t + w) (R319)? `fuel` bounds the entries visited. -/
def State.gateOpen (s : State) (n q : Nat) : Nat → Nat → Nat → Bool
  | 0, _, _ => false
  | fuel + 1, t, w =>
    let e := s.gatesAt n t
    natBit e.1 q && (decide (w ≤ e.2.1) || (decide (0 < e.2.1) && s.gateOpen n q fuel (t + e.2.1) (w - e.2.1)))

/-! The plat window on the ring ports. -/

/-- The slot table entry of node `k`: OFS, LEN, OUT_LEN, START, SLEN (R132). -/
def slotFld (f : Fld) (k : Nat) : Fld := f.at (0x10 * (k - 1))

/-- The start of the cycle that holds ring time `t` under the schedule (R128). -/
def State.cycStart (s : State) (t : Nat) : Nat :=
  listStart (s.get pCYCLE F.CYCLE.CYC_PHASE.PHASE) (s.get pCYCLE F.CYCLE.CYC_LEN.LEN) t

/-- Is the plat window of R131 in force on port `n` (R320)? -/
def State.platPort (s : State) (n : Nat) : Bool := decide (n < 2) && s.running pCYCLE && s.running pPLAT

/-- The plat window that holds ring time `t`, or the next one after it: its beginning and its end. -/
def State.platWindow (s : State) (t : Nat) : Nat × Nat :=
  let o := s.cycStart t + s.get pCYCLE F.CYCLE.PW_OPEN.OPEN
  let l := s.get pCYCLE F.CYCLE.PW_LEN.LEN
  let b := if t < o + l then o else o + s.get pCYCLE F.CYCLE.CYC_LEN.LEN
  (b, b + l)
def State.inWindow (s : State) (t : Nat) : Bool := decide ((s.platWindow t).1 ≤ t)

/-- Does this hub publish (R39, R151): not in Watch, on the ring, and active under its duplex or gang role? -/
def State.publisher (s : State) : Bool :=
  s.pwr.power == .run && s.onRing && !s.fenced && (s.dupState == none || s.dupState == some 1)

/-- Is the gate of a queue open over [t, t + w) by the list of port `n` (R319)? Each entry visited is at least 2 hns long. -/
def State.listOpen (s : State) (n q t w : Nat) : Bool := !s.gclRuns n || s.gateOpen n q (w + 2) t w

/-- Is the gate of a queue open over [t, t + w)? On the ring ports the plat queue is open in the plat window whatever the list says
(R319, R320). -/
def State.gatePass (s : State) (n q t w : Nat) : Bool :=
  if s.platPort n && q == s.get pCYCLE F.CYCLE.CFG.PRIO then
    let o := s.platWindow t
    (decide (o.1 ≤ t) || s.listOpen n q t (min w (o.1 - t))) && (decide (t + w ≤ o.2) || s.listOpen n q o.2 (t + w - o.2))
  else s.listOpen n q t w

/-- May a frame start at ring time `t` with wire time `w` (R319, R320)? Before a plat window, the next one included, a frame of
another queue must end by its opening. -/
def State.mayStart (s : State) (n t w : Nat) (x : QFrame) : Bool :=
  let platQ := s.get pCYCLE F.CYCLE.CFG.PRIO
  let o := s.platWindow t
  let own := s.publisher && decide (0 < s.get pCYCLE (slotFld F.CYCLE.SLOT_A.LEN s.nid))
  let plat := !s.platPort n || x.q == platQ ||
    (if o.1 ≤ t then !own || decide (t + w ≤ s.cycStart t + s.get pCYCLE (slotFld F.CYCLE.SLOT_B.START s.nid))
     else decide (t + w ≤ o.1))
  (x.isPlat && s.platPort n || s.gatePass n x.q t w) && plat

/-! MACsec on transmit. -/

/-- Default of the SA table. -/
def saDefault (_ : Nat) : Option SaKey := none

/-- The SA of a port and association number. -/
def State.saOf (s : State) (n a : Nat) : Option SaKey := tabGet saDefault s.sw.sa (4 * n + a)

/-- Store an SA. -/
def State.setSa (s : State) (n a : Nat) (k : Option SaKey) : State :=
  { s with sw := { s.sw with sa := tabPut saDefault s.sw.sa (4 * n + a) k } }

/-- A field of the MACSEC block of port `n`. -/
def msf (f : Fld) (n : Nat) : Fld := f.at (0x80 * n)

/-- The bytes of a frame before its SecTAG, and those that the SecTAG covers (R29). -/
def secHead (f : Frame) : List Byte :=
  beBytes 6 f.dst ++ beBytes 6 f.src ++
  (match f.vlan with | some tci => beBytes 2 0x8100 ++ beBytes 2 tci | none => []) ++
  (match f.hsr with
    | some h => beBytes 2 0x892F ++ beBytes 2 (h.path * 4096 + h.size % 4096) ++ beBytes 2 h.seq
    | none => [])
def secData (f : Frame) : List Byte := beBytes 2 f.etype ++ f.body

/-- The 16 bytes of a SecTAG with its SCI (R356; IEEE 802.1AE): EtherType, TCI and AN, short length, the lower PN, the SCI. -/
def secTagBytes (t : SecTag) (len : Nat) : List Byte :=
  beBytes 2 0x88E5 ++ beBytes 1 (0x20 + 12 * bit t.conf + t.an % 4) ++ beBytes 1 (if len < 48 then len else 0) ++
    beBytes 4 (t.pn % 2 ^ 32) ++ beBytes 8 t.sci

/-- GCM-AES-XPN-256 over a frame (R356; IEEE 802.1AE): the secure data as sent, and the ICV. The nonce is the salt XORed with the
SSCI and the PN; what stands before the secure data is authenticated, and the secure data too where it is not encrypted. -/
def State.gcm (s : State) (n : Nat) (k : SaKey) (ssci : Nat) (t : SecTag) (f : Frame) : List Byte × List Byte :=
  let d := secData f
  let aad := secHead f ++ secTagBytes t d.length
  let nonce := beBytes 12 (s.get pMACSEC ((msf F.MACSEC.SA_SALT.SALT n).at (16 * t.an)) ^^^ (ssci * 2 ^ 64 + t.pn))
  if t.conf then Config.gcmSeal k.key nonce aad d else (d, (Config.gcmSeal k.key nonce (aad ++ d) []).2)

/-- Protect a frame for port `n`: none where it is discarded and counted in TX_NO_SA (R356, R358). -/
def State.secure (s : State) (n : Nat) (f : Frame) : State × Option Frame :=
  if !s.protected n || f.etype == 0x888E then (s, some f)
  else
    let an := s.get pMACSEC (msf F.MACSEC.CTL.TX_AN n)
    let pn := s.get pMACSEC (msf F.MACSEC.TX_PN.PN n)
    match s.saOf n an with
    | none => (s.bump pMACSEC (msf F.MACSEC.TX_NO_SA.COUNT n), none)
    | some k =>
      if pn == 2 ^ 64 - 1 then (s.bump pMACSEC (msf F.MACSEC.TX_NO_SA.COUNT n), none)
      else
        let s1 := s.set pMACSEC (msf F.MACSEC.TX_PN.PN n) (pn + 1)
        let warn := decide (s.get pMACSEC F.MACSEC.CFG.PN_WARN_HI ≤ (pn + 1) / 2 ^ 32) && !k.warned
        let s2 := if warn then (s1.setSa n an (some { k with warned := true })).event pMACSEC 9 else s1
        let tag : SecTag := { sci := s.get pMACSEC (msf F.MACSEC.SCI_TX.SCI n), an := an, pn := pn,
                              conf := s.flag pMACSEC (msf F.MACSEC.CTL.CONF n), icv := [] }
        let sealed := s.gcm n k (s.get pMACSEC (msf F.MACSEC.SSCI_TX.TX n)) tag f
        (s2, some { f with sec := some { tag with icv := sealed.2 } })

/-! Transmission. -/

/-- One frame less of the own parcel is outstanding on a ring port (R145). -/
def State.ownFrameLeft (s : State) (n : Nat) : State :=
  { s with plat := { s.plat with left := s.plat.left.map (fun p => if p.1 = n then (p.1, p.2 - 1) else p) } }

/-- The number of steps of the Datum made by RAW `raw` (R114). -/
def State.stepsAt (s : State) (raw : Nat) : Nat := s.datum.steps - (s.datum.stepAt.filter (fun t => decide (raw < t))).length

/-- The real transmit stamp of a corrected Sync is more than 1 hns off the predicted one (R95). -/
def State.stepErr (s : State) (dev : Int) : State :=
  if 1 < dev.natAbs then (s.bumpSat pSTAMP F.STAMP.ONESTEP_ERR.COUNT).event pSTAMP 8 else s

/-- The bare transmit stamp of an own probe, in 1/16 hns, is kept for its round (R110, R112). -/
def State.probeStamped (s : State) (ts raw : Nat) (x : QFrame) (f : Frame) : State :=
  if s.isSpanen f && kindOf f == 4 && x.ingress.isNone then
    { s with mscl := { s.mscl with
        probes := s.mscl.probes.map (fun p => if p.buf = x.buf then { p with tx := some (ts, s.stepsAt raw) } else p) } }
  else s

/-- The stamp of a frame that was asked for it enters the queue (R90): one that carries a tag of the host, else a PTP event
message of a port with PTP_TXTS. A frame that is both gives one entry with the host's tag (DESIGN CHOICE, assumption log 92). -/
def State.stampAsked (s : State) (n ts : Nat) (tag : Option Nat) (f : Frame) : State :=
  if !s.stampOn n then s
  else match tag with
    | some tg => s.pushStamp { port := n, tag := tg, stamp := ts }
    | none =>
      if s.isPtp f && decide (hdr f 0 % 16 < 4) && s.flag pSTAMP (F.STAMP.PCFG.PTP_TXTS.at (0x20 * n)) then
        s.pushStamp { port := n, tag := ofBE (slice f.body 30 2), stamp := ts } else s

/-- A leaving frame is stamped at its stamping point (R74, R86): the real stamp of a corrected Sync is compared with the predicted
one (R95), the egress copy is tested for capture (R360), and the stamp goes to who asked for it. -/
def State.stampLeaving (s : State) (n : Nat) (l : Leaving) : State :=
  let b := s.txBare n l.point
  let ts := (round16 (b : Nat) + l.dev).toNat
  let s1 := s.setPort n { s.port n with leaving := some { l with stamped := true } }
  let s2 := (match l.pred with | some p => s1.stepErr ((ts : Int) - (p : Nat)) | none => s1).probeStamped b l.point l.q l.fr
  let fate : Fate := { egress := true, reason := 0, cut := l.cut, map := 0, stamp := if s.stampOn n then some ts else none }
  ((s2.capture n fate l.fr).timeLeft n ts l.fr).stampAsked n ts l.q.tag l.fr

/-- The stamping point of the frame that leaves port `n` has passed. -/
def State.stampSent (s : State) (n : Nat) : State :=
  match (s.port n).leaving with
  | none => s
  | some l => if l.stamped || decide (s.raw < l.point) && decide (s.now < (s.port n).leaveEnd) then s else s.stampLeaving n l

/-- Is the port in PCS loopback, in which the link reads up (R329)? -/
def State.looped (s : State) (n : Nat) : Bool := s.get (pPORT n) F.PORT.CFG.LOOP == 1

/-- Count in counter `i` what a frame sent complete adds: in this cycle only where its last FCS byte passes now (R327, R328). -/
def State.sentCount (s : State) (now : Bool) (n i k : Nat) : State :=
  if now then s.portCount n i k else s.bumpBy (pPORT n) (portCtr i) k

/-- A frame has been sent complete (R327): TX_FRAMES, TX_OCTETS, and TX_PAUSE; one less of the own parcel is outstanding (R145); in
PCS loopback the frame returns (R329). -/
def State.frameSent (s : State) (n : Nat) (l : Leaving) : State :=
  let p := s.port n
  let s1 := s.setPort n { p with leaving := none, back := if s.looped n then p.back ++ [(l.fr, l.stomp)] else p.back }
  let here := decide (s.now ≤ p.leaveEnd)
  let s2 := (s1.sentCount here n 9 1).sentCount here n 10 (flen l.fr)
  let s3 := if l.fr.etype == 0x8808 then s2.sentCount here n 11 1 else s2
  if l.q.isPlat && l.q.ingress.isNone && decide (s3.plat.ownBuf ≤ l.q.buf) then s3.ownFrameLeft n else s3

/-- The frame that was leaving has left once its last FCS byte has passed (R327, R559). -/
def State.settle (s : State) (n : Nat) : State :=
  let s1 := s.stampSent n
  match (s1.port n).leaving with
  | none => s1
  | some l => if s1.now < (s1.port n).leaveEnd then s1 else s1.frameSent n l

/-- Insert an entry by its time, after those of the same time. -/
def insertDue (e : Nat × Nat) : List (Nat × Nat) → List (Nat × Nat)
  | [] => [e]
  | x :: l => if e.1 < x.1 then e :: x :: l else x :: insertDue e l

/-- The ports whose frames have passed their stamping points, in the order of those points. -/
def State.stampOrder (s : State) : List Nat :=
  ((s.ports.filterMap (fun p => match p.2.leaving with
    | some l => if l.stamped then none else some (l.point, p.1)
    | none => none)).foldl (fun l e => insertDue e l) []).map (fun e => e.2)

/-- Every port has stamped what has passed its stamping point, in the order of those points (R90). -/
def State.stampsDue (s : State) : State := s.stampOrder.foldl State.stampSent s

/-- 802.1Q tagging at an egress (R315): an inserted tag carries the frame's priority under R314, 0 for a frame of the host (DESIGN
CHOICE, assumption log 98). Frames the hub builds keep their form. -/
def State.egressTag (s : State) (n : Nat) (x : QFrame) : Frame :=
  let f := x.fr
  let pcp := match x.ingress with | some i => s.get (pPORT i) F.PORT.VLAN.DEF_PCP | none => 0
  if x.ingress.isNone && (s.isSpanen f || f.etype == 0x8808) then f
  else match s.get (pPORT n) F.PORT.VLAN.EGR_TAG, f.vlan with
    | 1, some tci => if tci % 4096 = s.get (pPORT n) F.PORT.VLAN.PVID then { f with vlan := none } else f
    | 2, some _ => { f with vlan := none }
    | 3, none => { f with vlan := some (pcp * 8192 + s.get (pPORT n) F.PORT.VLAN.PVID) }
    | _, _ => f

/-- Remove the first queued frame that is this copy. -/
def dropQ (l : List QFrame) (x : QFrame) : List QFrame := l.erase x

/-- Byte offsets of the fields of a PROBE frame's body (R29, R111). -/
def prHops : Nat := 18
def prClaims : Nat := 19
def prRes : Nat := 20
def prAsym : Nat := 28

/-- Replace bytes of a frame's body, and renew the Spanen CRC-32C of a probe. -/
def probePut (f : Frame) (i : Nat) (d : List Byte) : Frame :=
  let b := (f.body.take i ++ d ++ f.body.drop (i + d.length)).take 48
  { f with body := b ++ beBytes 4 (crc32c b) ++ f.body.drop 52 }

/-- A transit probe leaves port `n` at predicted bare transmit stamp `ts` in 1/16 hns (R111, R112): its RESIDENCE, from which its
bare receive stamp was taken on arrival, is completed, or INVALID is set where the port does not stamp. -/
def State.probeOut (s : State) (n ts : Nat) (x : QFrame) (f : Frame) : Frame :=
  if !s.isSpanen f || kindOf f != 4 || x.ingress.isNone then f
  else if s.stampOn n then probePut f prRes (beBytes 8 ((ofBE (slice f.body prRes 8) + ts) % 2 ^ 64))
  else probePut f 1 (beBytes 1 (hdr f 1 ||| 4))

/-- Is a forwarded copy a Sync that the hub corrects (R94)? ONESTEP is that of the ring port the copy leaves by (DESIGN
CHOICE, assumption log 33). -/
def State.corrects (s : State) (n : Nat) (x : QFrame) (f : Frame) : Bool :=
  match x.ingress with
  | some i => decide (n < 2) && decide (i < 2) && s.isPtp f && hdr f 0 % 16 == 0 && s.running pSTAMP &&
      s.flag pSTAMP (F.STAMP.PCFG.ONESTEP.at (0x20 * n))
  | none => false

/-- What a copy is when it starts: the RAW at which its first bit leaves, whether it is forwarded cut-through (R337), whether its
frame has failed meanwhile so that it ends stomped (R355), and what its rows hold and its stamp turns out to be. -/
structure Start where
  raw : Nat
  cut : Bool
  stomp : Bool
  rd : TxRead
deriving DecidableEq, Repr

/-- A forwarded frame enters the estimate of meter 0, bit by bit (R469). -/
def State.metered (s : State) (x : QFrame) (f : Frame) : State :=
  if x.ingress.isSome then { s with tally := { s.tally with fwdBits := s.tally.fwdBits + 8 * flen f } } else s

/-- The bytes on the wire of a frame, protected or not, with its FCS, inverted where the copy is stomped (R354, R356). -/
def State.wireBytes (s : State) (n : Nat) (stomp : Bool) (f : Frame) : List Byte :=
  let b := match f.sec with
    | none => plainBytes f
    | some t =>
      let d := match s.saOf n t.an with
        | some k => s.gcm n k (s.get pMACSEC (msf F.MACSEC.SSCI_TX.TX n)) t f
        | none => (secData f, t.icv)
      secHead f ++ secTagBytes t (secData f).length ++ d.1 ++ d.2
  b ++ leBytes 4 (if stomp then ethFcs b ^^^ 0xFFFFFFFF else ethFcs b)

/-- A frame goes on the wire of port `n`: its stamping point lies the eight bytes of preamble and delimiter after its first bit, its
last FCS byte its length further, and the next frame may start after the gap (R86, R309, R559). -/
def State.onWire (s : State) (n : Nat) (x : QFrame) (f : Frame) (pred : Option Nat) (dev : Int) (st : Start) : State :=
  let t := s.timeOf st.raw
  s.setPort n { s.port n with
    leaving := some { q := x, fr := f, wire := s.wireBytes n st.stomp f, cut := st.cut, stomp := st.stomp, point := st.raw + s.byteTime n 8,
                      pred := pred, dev := dev, stamped := false },
    leaveEnd := t + s.lineTime n (8 + flen f), gapEnd := t + s.portWire n f }

/-- Start a frame (R319, R341, R349, R358): it leaves its queue and is on the wire until its end; its stamp is taken at its stamping
point. Where the first row is lost, the copy has not started and is discarded; a later row that is lost stomps it (R349; the first
row being read before the start is DEDUCED, assumption log 44). -/
def State.startFrame (s00 : State) (n : Nat) (x : QFrame) (st : Start) : State :=
  let rr := s00.readRows st.rd.errs (List.range (4 * x.cells.length))
  let s0 := State.roomMark { rr.1 with sw := { rr.1.sw with txq := dropQ rr.1.sw.txq x } }
  if rr.2.head? = some 0 then
    s0.capture n { egress := true, reason := 10, cut := false, map := 0, stamp := none } x.fr
  else
    let bad := st.stomp || rr.2 != []
    let s1 := if bad then (s0.bump pSWITCH F.SWITCH.STOMPED.COUNT).event pSWITCH 8 else s0
    let f0 := s1.egressTag n x
    let ts16 := s1.txBare n (st.raw + s1.byteTime n 8)
    let ts := (round16 (ts16 : Nat)).toNat
    let fix := s1.corrects n x f0
    let f1 := if fix then oneStep f0 x.stamp ts (s1.get pSTAMP (F.STAMP.PDELAY.PDELAY.at (0x20 * x.ingress.getD 0))) else f0
    let sec := s1.secure n (s1.probeOut n ts16 x f1)
    match sec.2 with
    | none => sec.1.capture n { egress := true, reason := 8, cut := false, map := 0, stamp := none } f1
    | some f2 =>
      (sec.1.onWire n x f2 (if fix then some ts else none) (if fix then st.rd.dev else 0) { st with stomp := bad }).metered x f2

/-- Is a copy too old to start at `t` (R341)? -/
def State.tooOld (s : State) (t : Nat) (x : QFrame) : Bool :=
  decide (x.stamp + 2000 * s.get pSWITCH F.SWITCH.AGE_LIMIT.LIMIT ≤ t)

/-- Does the hold of MACSEC keep a frame back (R374)? -/
def State.secHeld (s : State) (n : Nat) (f : Frame) : Bool := s.protected n && s.held pMACSEC && f.etype != 0x888E

/-- Try the heads of the queues in the given order (R316, R319): a head that is too old is discarded and the next one
of its queue is tried, a head that may not start is held and counted once in GATE_HELD, and the first that may start
does. `fuel` bounds the tries. -/
def State.txScan (s : State) (n t : Nat) (rd : TxRead) : Nat → List Nat → State
  | 0, _ => s
  | _, [] => s
  | fuel + 1, q :: qs =>
    match s.sw.txq.find? (fun x => x.port == n && x.q == q) with
    | none => State.txScan s n t rd fuel qs
    | some x =>
      if s.tooOld t x then
        State.txScan ({ (s.dropCopy x 15 3) with sw := { s.sw with txq := dropQ s.sw.txq x } }) n t rd fuel (q :: qs)
      else if s.secHeld n x.fr then State.txScan s n t rd fuel qs
      else if s.mayStart n t (s.portWire n (s.egressTag n x)) x then
        s.startFrame n x { raw := s.raw, cut := false, stomp := false, rd := rd }
      else
        let s1 := if x.gateHeld then s else
          ({ s with sw := { s.sw with txq := s.sw.txq.map (fun y => if y = x then { y with gateHeld := true } else y) } }).portCount
            n 16
        State.txScan s1 n t rd fuel qs

/-- The order in which queues are served: the plat queue first inside the window, then strict priority (R316, R320). -/
def State.txOrder (s : State) (n t : Nat) : List Nat :=
  let p := [7, 6, 5, 4, 3, 2, 1, 0]
  if s.platPort n && s.inWindow t then s.get pCYCLE F.CYCLE.CFG.PRIO :: p else p

/-- Is the line of a port free at ring time `t`: running, link up, not held, nothing leaving and the gap over (R323, R332)? In PCS
loopback (R329) a frame leaves in the same way and comes back to the receiver. -/
def State.lineFree (s : State) (n t : Nat) : Bool :=
  s.running (pPORT n) && s.linkUp n && !s.held (pPORT n) && (s.port n).leaving.isNone && decide ((s.port n).gapEnd ≤ t)

/-- May the port start a frame of its queues at ring time `t`: its line is free, and it is not paused (R324)? -/
def State.txReady (s : State) (n t : Nat) : Bool := s.lineFree n t && !s.flag (pPORT n) F.PORT.STS.RX_PAUSED

/-! Links. -/

/-- Speed code of a mode, or the negotiated one for SGMII (R309, R329). -/
def speedOf (mode speed : Nat) : Nat :=
  if mode = 1 then 2 else if mode = 4 then 1 else if mode = 3 then speed % 4 else 3

/-- The configured or fallen-back mode the port works in (R311). -/
def State.tryMode (s : State) (n : Nat) : Nat := (s.port n).mode

/-- LAT of a port for its mode and speed (R86, R89). A frame whose stamping point has passed keeps the values it met. -/
def State.latLoad (s : State) (n m sp : Nat) : State :=
  let w := s.latWord n (lineEntry m sp)
  let s1 := (s.stampSent n).corrKeep n (s.corrNow n)
  (s1.set pSTAMP (F.STAMP.LAT.ING_LAT.at (0x20 * n)) w).set pSTAMP (F.STAMP.LAT.EGR_LAT.at (0x20 * n)) (w / 65536)

/-- LAT of a port whose link is down is 0 (R89). -/
def State.latClear (s : State) (n : Nat) : State :=
  let s1 := (s.stampSent n).corrKeep n (s.corrNow n)
  (s1.set pSTAMP (F.STAMP.LAT.ING_LAT.at (0x20 * n)) 0).set pSTAMP (F.STAMP.LAT.EGR_LAT.at (0x20 * n)) 0

/-- What referred the receive stamps of each port to its ball ends, with stamping off or as the registers say (R86, R88, R108). -/
def State.corrKeepAll (s : State) (on : Bool) : State :=
  (List.range 22).foldl (fun st n => st.corrKeep n { st.corrNow n with on := on && (st.corrNow n).on }) s

/-- STAMP stops: what has passed its stamping point is stamped first (R86, R108). -/
def State.stampStop (s : State) : State := s.stampsDue.corrKeepAll true

/-- Accepted enable of STAMP: it takes the latencies of the set, and those of the ports that are up (R504). -/
def State.stampLoad (s0 : State) : State :=
  let s := s0.corrKeepAll false
  (List.range 22).foldl (fun st n =>
    if st.linkUp n then st.latLoad n (st.get (pPORT n) F.PORT.STS.LMODE) (st.get (pPORT n) F.PORT.STS.SPEED) else st)
    { s with cal := { s.cal with stamp := s.enCal.1 } }

/-- A copy that a flush or a stop discards: FLUSHED, and MC_PARTIAL for a multicast copy (R325, R332, R342). -/
def State.flushCopies (s : State) (n : Nat) : State :=
  let gone := s.sw.txq.filter (fun x => x.port == n)
  let s1 := gone.foldl (fun st x => st.dropCopy x 13 4) s
  State.roomMark { s1 with sw := { s1.sw with txq := s.sw.txq.filter (fun x => x.port != n) } }

/-- The hold window closes with the link still down (R325). -/
def State.holdClose (s : State) (n : Nat) : State :=
  let s1 := s.flushCopies n
  let s2 := ((s1.set (pPORT n) F.PORT.STS.HOLDING 0).set (pPORT n) F.PORT.STS.FLUSHED 1).event (pPORT n) 16
  s2.setPort n { s2.port n with holdEnd := none }

/-- The hold window closes where its end has passed (R325). -/
def State.holdOver (s : State) (n : Nat) : State :=
  match (s.port n).holdEnd with
  | some t => if t ≤ s.now then s.holdClose n else s
  | none => s

/-- A port is declared up (R310, R311, R325, R89); at the close of its hold window, or after it, the flush comes first. -/
def State.linkUpNow (s0 : State) (n speed : Nat) : State :=
  if !s0.running (pPORT n) || s0.linkUp n then s0
  else
    let s := s0.holdOver n
    let m := s.tryMode n
    let sp := if m = 3 && !s.flag (pPORT n) F.PORT.CFG.AN_EN then s.get (pPORT n) F.PORT.CFG.SPEED else speedOf m speed
    let s1 := (((s.set (pPORT n) F.PORT.STS.LINK 1).set (pPORT n) F.PORT.STS.LMODE m).set (pPORT n) F.PORT.STS.SPEED sp)
    let s2 := (s1.setB (pPORT n) F.PORT.STS.FALLEN_BACK (decide (n < 2) && m == 1 && s.get (pPORT n) F.PORT.CFG.MODE == 0))
    let s3 := (s2.set (pPORT n) F.PORT.STS.HOLDING 0).set (pPORT n) F.PORT.STS.FLUSHED 0
    let s4 := s3.latLoad n m sp
    let again := (s4.port n).repause && decide (s4.get (pPORT n) F.PORT.WM.LWM ≤ s4.inUse n)
    (s4.setPort n { s4.port n with holdEnd := none, lock := true, since := s.clock, repause := again }).event (pPORT n) 8

/-- Has the state of the link lasted for its debounce time of `k` µs (R310)? -/
def State.debounced (s : State) (n k : Nat) : Bool := decide ((s.port n).since + 2000 * k ≤ s.clock)

/-- A frame that is leaving when lock is lost is cut off and counted in FLUSHED (R326). -/
def State.cutOff (s : State) (n : Nat) : State :=
  match (s.port n).leaving with
  | none => s
  | some _ => (s.setPort n { s.port n with leaving := none }).portCount n 13

/-- A port is declared down (R310, R311, R324, R325, R89); MODE is what it tries again. -/
def State.linkDownNow (s : State) (n : Nat) : State :=
  if !s.running (pPORT n) || !s.linkUp n || s.looped n then s
  else
    let s0 := (s.settle n).cutOff n
    let s1 := (((s0.set (pPORT n) F.PORT.STS.LINK 0).leadLink.portCount n 18).event (pPORT n) 9).set (pPORT n) F.PORT.STS.LMODE
      (s.get (pPORT n) F.PORT.CFG.MODE)
    let s2 := ((s1.set (pPORT n) F.PORT.STS.RX_PAUSED 0).set (pPORT n) F.PORT.STS.TX_PAUSING 0).set (pPORT n)
      F.PORT.STS.FALLEN_BACK 0
    let s3 := s2.latClear n
    let hw := s.get (pPORT n) F.PORT.HOLD_WIN.WIN
    let s4 := s3.setPort n { s3.port n with
      lock := false, since := s.clock, rxPauseEnd := none, txPauseAt := none,
      repause := s.flag (pPORT n) F.PORT.STS.RX_PAUSED || s.flag (pPORT n) F.PORT.STS.TX_PAUSING,
      mode := s.get (pPORT n) F.PORT.CFG.MODE,
      fbAt := s.clock + 2000000 * s.get (pPORT n) F.PORT.FBT.FBT,
      holdEnd := some (s.now + 2000 * hw) }
    if hw = 0 then (s4.set (pPORT n) F.PORT.STS.HOLDING 1).holdClose n else s4.set (pPORT n) F.PORT.STS.HOLDING 1

/-! PAUSE. -/

/-- hns of `quanta` of 512 bit times at the link's speed (R324): 64 bytes of line time each. -/
def State.quantaTime (s : State) (n quanta : Nat) : Nat :=
  quanta * (64 * byteTime10 (s.get (pPORT n) F.PORT.STS.LMODE) (s.get (pPORT n) F.PORT.STS.SPEED)) / 10

/-- A PAUSE frame (R323; IEEE 802.3 annex 31B). It leaves from the station address (DESIGN CHOICE, assumption log 98). -/
def State.pauseFrame (s : State) (quanta : Nat) : Frame :=
  { dst := 0x0180C2000001, src := s.stationAddr, vlan := none, hsr := none, sec := none, etype := 0x8808,
    body := beBytes 2 1 ++ beBytes 2 quanta ++ List.replicate 42 0 }

/-- A PAUSE frame leaves ahead of every queue (R323), from no cell of the buffer. -/
def State.sendPause (s : State) (n quanta : Nat) : State :=
  let f := s.pauseFrame quanta
  s.onWire n { port := n, q := 7, buf := s.sw.nextBuf, fr := f, stamp := s.now, ingress := none, multi := false, tag := none,
               gateHeld := false, isPlat := false, cells := [] } f none 0
    { raw := s.raw, cut := false, stomp := false, rd := { dev := 0, errs := [] } }

/-- Is the port a station port that may send PAUSE now: with TX_PAUSE, at a frame boundary (R323, R332)? -/
def State.pauseReady (s : State) (n : Nat) : Bool :=
  decide (7 ≤ n) && s.lineFree n s.now && s.flag (pPORT n) F.PORT.CFG.TX_PAUSE

/-- Does a PAUSE frame with the port's quanta fall due: INUSE has reached HWM, or the port was paused when its link went down and
finds INUSE at LWM or above (R323, R324); or half of the paused time has passed with INUSE still there? -/
def State.pauseFirst (s : State) (n : Nat) : Bool :=
  let use := s.inUse n
  !s.flag (pPORT n) F.PORT.STS.TX_PAUSING && (decide (s.get (pPORT n) F.PORT.WM.HWM ≤ use) ||
    (s.port n).repause && decide (s.get (pPORT n) F.PORT.WM.LWM ≤ use))
def State.pauseMore (s : State) (n : Nat) : Bool :=
  s.flag (pPORT n) F.PORT.STS.TX_PAUSING && decide (s.get (pPORT n) F.PORT.WM.LWM ≤ s.inUse n) &&
    (match (s.port n).txPauseAt with | some t => decide (t ≤ s.now) | none => false)

/-- INUSE has fallen below LWM while the port pauses its partner (R323). -/
def State.pauseLast (s : State) (n : Nat) : Bool :=
  s.flag (pPORT n) F.PORT.STS.TX_PAUSING && decide (s.inUse n < s.get (pPORT n) F.PORT.WM.LWM)

/-- The next repetition falls due when half of the paused time has passed (R323). -/
def State.pauseNext (s : State) (n : Nat) : State :=
  s.setPort n { s.port n with
    repause := false, txPauseAt := some (s.now + s.quantaTime n (s.get (pPORT n) F.PORT.PAUSE.QUANTA) / 2) }

/-- The port sends the PAUSE frame that is due, at its next frame boundary (R323, R324). -/
def State.pauseNow (s0 : State) (n : Nat) : State :=
  let s := s0.settle n
  if !s.pauseReady n then s
  else if s.pauseFirst n then
    ((((s.sendPause n (s.get (pPORT n) F.PORT.PAUSE.QUANTA)).set (pPORT n) F.PORT.STS.TX_PAUSING 1).event (pPORT n) 12)).pauseNext n
  else if s.pauseMore n then (s.sendPause n (s.get (pPORT n) F.PORT.PAUSE.QUANTA)).pauseNext n
  else if s.pauseLast n then
    let s1 := (s.sendPause n 0).set (pPORT n) F.PORT.STS.TX_PAUSING 0
    s1.setPort n { s1.port n with txPauseAt := none }
  else s

/-- Half the paused time has passed, and PAUSE is sent again (R323). -/
def State.pauseAgain (s : State) (n : Nat) : State :=
  match (s.port n).txPauseAt with
  | none => s
  | some t => (s.advanceT t).pauseNow n

/-- A PAUSE frame has been received: it counts, and on a station port with RX_PAUSE it starts, replaces or ends the
port's pause (R312, R324). -/
def State.pauseIn (s : State) (n quanta : Nat) : State :=
  if !s.running (pPORT n) then s
  else
    let s1 := s.portCount n 7
    if 7 ≤ n ∧ s1.flag (pPORT n) F.PORT.CFG.RX_PAUSE then
      if quanta = 0 then (s1.setPort n { s1.port n with rxPauseEnd := none }).set (pPORT n) F.PORT.STS.RX_PAUSED 0
      else (s1.setPort n { s1.port n with rxPauseEnd := some (s1.now + s1.quantaTime n quanta) }).set (pPORT n)
        F.PORT.STS.RX_PAUSED 1
    else s1

/-- The received pause time ends (R324). -/
def State.pauseEnd (s : State) (n : Nat) : State :=
  match (s.port n).rxPauseEnd with
  | none => s
  | some t =>
    let s1 := s.advanceT t
    (s1.setPort n { s1.port n with rxPauseEnd := none }).set (pPORT n) F.PORT.STS.RX_PAUSED 0

/-- One frame starts where the rules allow one: a PAUSE frame that is due before those of the queues (R319, R323). The release notices
gathered leave first by the backsight links (R399). -/
def State.txStart (s : State) (n : Nat) (rd : TxRead) : State :=
  let s0 := if n = 2 ∨ n = 3 then s.noticesDue else s
  let s1 := s0.stampsDue.settle n
  if s1.pauseReady n && (s1.pauseFirst n || s1.pauseMore n || s1.pauseLast n) then s1.pauseNow n
  else if s1.txReady n s1.now then s1.txScan n s1.now rd (s1.sw.txq.length + 9) (s1.txOrder n s1.now) else s1

/-! Commands. -/

/-- R328: the 20 live counters of a port go to its snapshot bank, without what this cycle has counted. -/
def State.snapPort (s0 : State) (n : Nat) : State :=
  let s := s0.settle n
  let s1 := (List.range 20).foldl (fun st i =>
    st.set (pPORT n) (F.PORT.SNAPCNT.COUNT.at (8 * i)) (s.get (pPORT n) (portCtr i) + 2 ^ 64 - s.countedNow n i)) s
  (s1.set (pPORT n) F.PORT.SNAP_T.T s.now).event (pPORT n) 17

/-- A write to SNAP (R328): GO takes the snapshots of the port, or of all with ALL. -/
def State.snapWrite (s : State) (n : Nat) (all : Bool) : State :=
  (if all then List.range 22 else [n]).foldl State.snapPort (s.setB (pPORT n) F.PORT.SNAP.ALL all)

def execPortSnap (clk port : Nat) (all : Bool) (s : State) : Host.Outcome State Fault Refusal :=
  .next (if port < 22 then
    (s.advance clk).regWrite (pPORT port) 0xA0 3 (1 + 2 * bit all) .host (fun t => t.snapWrite port all)
  else s.advance clk)

/-- R311: no declared link for FBT, and the ring port changes between 10GBASE-R and 1000BASE-X. -/
def State.fallback (s : State) (n : Nat) : State :=
  if n < 2 ∧ s.running (pPORT n) ∧ !s.linkUp n ∧ s.get (pPORT n) F.PORT.CFG.MODE = 0 ∧ s.flag (pPORT n) F.PORT.CFG.FALLBACK then
    let s1 := s.advance (s.port n).fbAt
    let m := if (s.port n).mode = 0 then 1 else 0
    let s2 := ((s1.setPort n { s1.port n with
      mode := m, fbAt := s1.clock + 2000000 * s.get (pPORT n) F.PORT.FBT.FBT }).set (pPORT n) F.PORT.STS.LMODE m).portCount n 19
    if m = 1 then s2.event (pPORT n) 10 else s2
  else s

def execLinkFallbackToggle (port : Nat) (s : State) : Host.Outcome State Fault Refusal := .next (s.fallback port)

/-- R318: the entry in force ends, or a list cycle starts; the next entry's gates come into force. -/
def State.gclNext (s : State) (n : Nat) : State :=
  if n < 22 ∧ s.running (pPORT n) ∧ s.gclRuns n then
    let e := s.gatesAt n s.now
    let s1 := s.advanceT (s.now + e.2.1)
    let e1 := s1.gatesAt n (s.now + e.2.1)
    s1.setPort n { s1.port n with entry := e1.2.2, gates := e1.1 }
  else s

def execGclEntryChange (port : Nat) (s : State) : Host.Outcome State Fault Refusal := .next (s.gclNext port)

/-- R321: a write of 1 to GCL_CFG.SWAP. -/
def State.gclSwapAsk (s : State) (n : Nat) : State :=
  if s.flag (pPORT n) F.PORT.GCL_CFG.SWAP then s
  else
    let b := 1 - s.gclActive n
    if s.gclSum n b = (s.gclCycle n).2 then
      (s.setPort n { s.port n with swapAfter := some s.now }).set (pPORT n) F.PORT.GCL_CFG.SWAP 1
    else s.refuse (pPORT n) 0x11 b

def execGclSwapWrite (clk port : Nat) (s : State) : Host.Outcome State Fault Refusal :=
  .next (if port < 22 then (s.advance clk).bitWrite (pPORT port) F.PORT.GCL_CFG.SWAP (fun t => t.gclSwapAsk port)
  else s.advance clk)

/-- R321: the banks change at the first list-cycle start after the write. -/
def State.gclSwapDo (s : State) (n : Nat) : State :=
  match (s.port n).swapAfter with
  | none => s
  | some t =>
    let pc := s.gclCycle n
    let s1 := s.advanceT (listStart pc.1 pc.2 t + pc.2)
    let s2 := (s1.set (pPORT n) F.PORT.GCL_CFG.ACTIVE (1 - s1.gclActive n)).set (pPORT n) F.PORT.GCL_CFG.SWAP 0
    let s2 := s2.gclMatch n
    let e := s2.gatesAt n s2.now
    (s2.setPort n { s2.port n with swapAfter := none, entry := e.2.2, gates := e.1 }).event (pPORT n) 13

def execGclSwapApply (port : Nat) (s : State) : Host.Outcome State Fault Refusal := .next (s.gclSwapDo port)

def execPauseSend (clk port : Nat) (s : State) : Host.Outcome State Fault Refusal :=
  .next (if port < 22 then (s.advance clk).pauseNow port else s.advance clk)

def execPauseRepeat (port : Nat) (s : State) : Host.Outcome State Fault Refusal := .next (s.pauseAgain port)

def execPauseRx (clk port quanta : Nat) (s : State) : Host.Outcome State Fault Refusal :=
  .next (if port < 22 then (s.advance clk).pauseIn port quanta else s.advance clk)

def execPauseExpire (port : Nat) (s : State) : Host.Outcome State Fault Refusal := .next (s.pauseEnd port)

/-- R325: the hold window closes while the link is still down. -/
def State.holdExpire (s : State) (n : Nat) : State :=
  match (s.port n).holdEnd with
  | none => s
  | some t => (s.advanceT t).holdClose n

def execHoldWindowClose (port : Nat) (s : State) : Host.Outcome State Fault Refusal := .next (s.holdExpire port)

/-- R310, R326: the PCS loses lock; the frame that is leaving is cut off. The time of the loss counts where it had lock. -/
def State.lockLoss (s : State) (n : Nat) : State :=
  if s.looped n then s
  else
    let s1 := (s.settle n).cutOff n
    s1.setPort n { s1.port n with lock := false, since := if (s.port n).lock then s.clock else (s.port n).since }

def execPcsLockLoss (clk port : Nat) (s : State) : Host.Outcome State Fault Refusal :=
  .next (if port < 22 then (s.advance clk).lockLoss port else s.advance clk)

end Sys2Proof.Machine
end

