-- ==== Sys2Proof/Machine/Switch.lean ====
section
/-!
DEFINITION. Switch core, FDB, HSR, buffer memory and MACsec (chapter 12): reception, classification, forwarding and
delivery, and their commands.
-/

namespace Sys2Proof.Machine

/-! The FDB (R335, R336, R365). -/

/-- An empty entry. -/
def fdbNone : FdbEnt :=
  { valid := false, fixed := false, group := false, mac := 0, vid := 0, dest := 0, seen := 0 }

/-- Default of the FDB table. -/
def fdbDefault (_ : Nat) : FdbEnt := fdbNone

/-- Entry at an index (bucket × 4 + way). -/
def State.fdbAt (s : State) (i : Nat) : FdbEnt := tabGet fdbDefault s.sw.fdb i

/-- Entries in use (R365 USED). -/
def State.fdbUsed (s : State) : Nat := (s.sw.fdb.filter (fun p => p.2.valid)).length

/-- Store an entry; an invalid one leaves the table. -/
def State.fdbPut (s : State) (i : Nat) (e : FdbEnt) : State :=
  let s1 := { s with sw := { s.sw with fdb := tabPut fdbDefault s.sw.fdb i (if e.valid then e else fdbNone) } }
  s1.set pFDB F.FDB.USED.COUNT s1.fdbUsed

/-- Bucket of a key (R335). -/
def fdbBucket (mac vid : Nat) : Nat := crc16 (beBytes 6 mac ++ beBytes 2 vid) % 2048

/-- Index of a key's entry. -/
def State.fdbFind (s : State) (mac vid : Nat) : Option Nat :=
  let b := fdbBucket mac vid
  (List.range 4 |>.map (fun w => 4 * b + w)).find? (fun i =>
    (s.fdbAt i).valid && (s.fdbAt i).mac == mac && (s.fdbAt i).vid == vid)

/-- A free way of a key's bucket. -/
def State.fdbFree (s : State) (mac vid : Nat) : Option Nat :=
  let b := fdbBucket mac vid
  (List.range 4 |>.map (fun w => 4 * b + w)).find? (fun i => !(s.fdbAt i).valid)

/-- Learn a source address (R335): a ring port stands for both. An address is seen whether or not LEARN_EN lets it be learned. -/
def State.learn (s : State) (n mac vid : Nat) : State :=
  if !s.running pFDB || s.held pFDB || natBit mac 40 then s
  else
    let on := s.flag pFDB F.FDB.CFG.LEARN_EN
    let dest := if n < 2 then 3 else 2 ^ n
    match s.fdbFind mac vid with
    | some i =>
      let e := s.fdbAt i
      if e.fixed then s
      else if e.dest = dest then s.fdbPut i { e with seen := s.clock }
      else if on then
        ((s.fdbPut i { e with dest := dest, group := false, seen := s.clock }).bump pFDB F.FDB.MOVES.COUNT).event pFDB 10
      else s
    | none =>
      if !on then s
      else match s.fdbFree mac vid with
        | some i =>
          s.fdbPut i { valid := true, fixed := false, group := false, mac := mac, vid := vid, dest := dest, seen := s.clock }
        | none => (s.bump pFDB F.FDB.LEARN_FULL.COUNT).event pFDB 9

/-- Is an address learned or static on a station port (R345, R347)? A group entry names station ports. -/
def State.proxied (s : State) (mac : Nat) : Bool :=
  s.sw.fdb.any (fun p => p.2.valid && p.2.mac == mac && (p.2.group || decide (p.2.dest / 128 % 32768 ≠ 0)))

/-- The key registers of the FDB page. -/
def State.fdbKey (s : State) : Nat × Nat :=
  (s.get pFDB F.FDB.KEY_HI.MAC_HI * 2 ^ 32 + s.get pFDB F.FDB.KEY_LO.MAC_LO, s.get pFDB F.FDB.KEY_HI.VID)

/-- End an FDB command: OUTCOME, the INDEX of the entry used, GO falls, PEVT bit 8 (R365). Where no one entry was used,
nothing is said of INDEX: a free value. -/
def State.fdbDone (s : State) (outcome : Nat) (index : Option Nat) : State :=
  let s1 := match index with
    | some i => s.set pFDB F.FDB.RESULT.INDEX i
    | none => (s.set pFDB F.FDB.RESULT.INDEX (s.freeVal 13)).nextFree
  ((s1.set pFDB F.FDB.RESULT.OUTCOME outcome).set pFDB F.FDB.CMD.GO 0).event pFDB 8

/-- Show an entry in KEY and ENTRY. -/
def State.fdbShow (s : State) (e : FdbEnt) : State :=
  (((((((s.set pFDB F.FDB.KEY_LO.MAC_LO e.mac).set pFDB F.FDB.KEY_HI.MAC_HI (e.mac / 2 ^ 32)).set pFDB F.FDB.KEY_HI.VID
    e.vid).setB pFDB F.FDB.ENTRY.VALID e.valid).setB pFDB F.FDB.ENTRY.STATIC e.fixed).setB pFDB F.FDB.ENTRY.GROUP
    e.group).set pFDB F.FDB.ENTRY.DEST e.dest)

/-- OP 0: read the entry at INDEX (R365). -/
def State.fdbRead (s : State) (i : Nat) : State :=
  let s1 := s.set pFDB F.FDB.CMD.INDEX i
  let k := i % 8192
  (s1.fdbShow (s1.fdbAt k)).fdbDone 0 (some k)

/-- OP 1: look up the KEY (R365). -/
def State.fdbLookup (s : State) : State :=
  match s.fdbFind s.fdbKey.1 s.fdbKey.2 with
  | some i => (s.fdbShow (s.fdbAt i)).fdbDone 0 (some i)
  | none => s.fdbDone 1 none

/-- OP 2: write ENTRY at the KEY (R365); an ENTRY with VALID = 0 leaves no entry. -/
def State.fdbWrite (s : State) : State :=
  let e : FdbEnt := {
    valid := s.flag pFDB F.FDB.ENTRY.VALID, fixed := s.flag pFDB F.FDB.ENTRY.STATIC,
    group := s.flag pFDB F.FDB.ENTRY.GROUP, mac := s.fdbKey.1, vid := s.fdbKey.2,
    dest := s.get pFDB F.FDB.ENTRY.DEST, seen := s.clock }
  match s.fdbFind s.fdbKey.1 s.fdbKey.2 with
  | some i => (s.fdbPut i e).fdbDone 0 (some i)
  | none =>
    match s.fdbFree s.fdbKey.1 s.fdbKey.2 with
    | some i => (s.fdbPut i e).fdbDone 0 (some i)
    | none => s.fdbDone 2 none

/-- OP 3: delete the KEY (R365). -/
def State.fdbDelete (s : State) : State :=
  match s.fdbFind s.fdbKey.1 s.fdbKey.2 with
  | some i => (s.fdbPut i fdbNone).fdbDone 0 (some i)
  | none => s.fdbDone 1 none

/-- Flush the learned entries whose DEST shares a bit with a mask (OP 4), or all of them (OP 5). -/
def State.fdbFlush (s : State) (mask : Option Nat) : State :=
  let keep := s.sw.fdb.filter (fun p => p.2.fixed || (match mask with | some m => (p.2.dest &&& m) == 0 | none => false))
  let s1 := { s with sw := { s.sw with fdb := keep } }
  (s1.set pFDB F.FDB.USED.COUNT s1.fdbUsed).fdbDone 0 none

/-- The clock at which a learned entry ages out (R335). -/
def State.fdbDue (s : State) (e : FdbEnt) : Nat := e.seen + 2000000000 * s.get pFDB F.FDB.CFG.AGE_TIME

/-- A learned entry not seen for AGE_TIME is removed while LEARN_EN = 1 (R335). -/
def State.fdbAge (s : State) (i : Nat) : State :=
  let e := s.fdbAt i
  if e.valid && !e.fixed && s.running pFDB && s.flag pFDB F.FDB.CFG.LEARN_EN && !s.held pFDB then
    ((s.advance (s.fdbDue e)).fdbPut i fdbNone).bump pFDB F.FDB.AGED.COUNT
  else s

/-! HSR duplicate table (R344–R346). -/

/-- Find an entry. -/
def hsrFind (l : List HsrEnt) (src seq : Nat) : Option HsrEnt := l.find? (fun e => e.src == src && e.seq == seq)

/-- Replace an entry. -/
def hsrSet (l : List HsrEnt) (e : HsrEnt) : List HsrEnt :=
  l.map (fun x => if x.src == e.src && x.seq == e.seq then e else x)

/-- Store the table and its USED count. -/
def State.setHsr (s : State) (l : List HsrEnt) : State :=
  ({ s with sw := { s.sw with hsr := l } }).set pHSR F.HSR.USED.COUNT l.length

/-- Entries past DD_TIME have left the table (R344). -/
def State.hsrTrim (s : State) : State :=
  let l := s.sw.hsr.filter (fun e => decide (s.clock < e.born + 2000 * s.get pHSR F.HSR.DD_TIME.TIME))
  if l.length = s.sw.hsr.length then s else s.setHsr l

/-- An entry that nothing but the hub's own logic has marked. -/
def hsrBare (e : HsrEnt) : Bool := e.got && !e.d && !e.fe && !e.fw && !e.s && e.dFail.isNone

/-- A new entry enters the table; a full table evicts its oldest (R344). -/
def State.hsrMake (s : State) (e : HsrEnt) : State :=
  match s.sw.hsr with
  | o :: t =>
    if s.sw.hsr.length ≥ 1024 then
      let s1 := s.setHsr (t ++ [e])
      if !o.s && (o.d || o.fe || o.fw) then (s1.bump pHSR F.HSR.EVICT_UNMATCHED.COUNT).event pHSR 8 else s1
    else s.setHsr (s.sw.hsr ++ [e])
  | [] => s.setHsr [e]

/-- An entry without marks, made at the moment its frame's header passed at RAW `raw`. -/
def State.hsrNew (s : State) (src seq raw : Nat) : HsrEnt :=
  { src := src, seq := seq, d := false, fe := false, fw := false, s := false, dFail := none,
    born := s.clock - (s.raw - raw), got := false }

/-- The entry of a frame whose header passed at RAW `raw`, made new where there is none (R344). -/
def State.hsrEntry (s : State) (src seq raw : Nat) : State × HsrEnt :=
  match hsrFind s.sw.hsr src seq with
  | some e =>
    let e1 := { e with s := !hsrBare e }
    (s.setHsr (hsrSet s.sw.hsr e1), e1)
  | none => (s.hsrMake (s.hsrNew src seq raw), s.hsrNew src seq raw)

/-- Does the hub's own logic take a frame that the switch passed to it: from a ring port with its tag while HSR runs, and not a
second time (R343, R346, R353, R364)? -/
def State.hsrTake (s0 : State) (n : Nat) (f : Frame) : State × Bool :=
  let s := s0.hsrTrim
  if !s.running pSWITCH || s.bufFull f then (s, false)
  else if 2 ≤ n then (s, true)
  else match f.hsr with
    | none => (s, false)
    | some h =>
      if !s.hsrOn then (s, false)
      else match hsrFind s.sw.hsr f.src h.seq with
        | some e => if e.got then (s, false) else (s.setHsr (hsrSet s.sw.hsr { e with got := true }), true)
        | none => (s.hsrMake { s.hsrNew f.src h.seq s.raw with got := true }, true)

/-- The oldest entry reaches DD_TIME and leaves the table (R344). -/
def State.hsrExpire (s : State) : State :=
  match s.sw.hsr with
  | [] => s
  | e :: _ => (s.advance (e.born + 2000 * s.get pHSR F.HSR.DD_TIME.TIME)).hsrTrim

/-! MACsec on receive (R356, R358). -/

/-- The SA of a received frame: one of an AN that the port receives, under the peer's SCI (R356; the SCI test is DEDUCED, assumption
log 99). -/
def State.rxSa (s : State) (n : Nat) (t : SecTag) : Option SaKey :=
  if natBit (s.get pMACSEC (msf F.MACSEC.CTL.RX_AN n)) t.an && t.sci == s.get pMACSEC (msf F.MACSEC.SCI_RX.SCI n) then s.saOf n t.an
  else none

/-- Is a frame below the lowest acceptable PN of its SA (R358)? -/
def State.rxLate (s : State) (n : Nat) (t : SecTag) (k : SaKey) : Bool :=
  decide (t.pn + s.get pMACSEC (msf F.MACSEC.REPLAY.WINDOW n) < k.high)

/-- Does the header of a frame let the switch begin to forward it (R356, R358)? -/
def State.headOk (s : State) (n : Nat) (f : Frame) : Bool :=
  !s.protected n || f.etype == 0x888E || (!s.held pMACSEC && (match f.sec with
    | none => false
    | some t => match s.rxSa n t with
      | none => false
      | some k => !s.rxLate n t k))

/-- Verify a received frame, given in plaintext: a failure is counted; the answer says whether it is that of the ICV, and gives the
frame where there is no failure. -/
def State.verify (s : State) (n : Nat) (f : Frame) : State × Bool × Option Frame :=
  if !s.protected n then (s, false, some { f with sec := none })
  else if f.etype == 0x888E then (s, false, some f)
  else if s.held pMACSEC then (s, false, none)
  else
    match f.sec with
    | none => (s.bump pMACSEC (msf F.MACSEC.NO_SA.COUNT n), false, none)
    | some t =>
      match s.rxSa n t with
      | none => (s.bump pMACSEC (msf F.MACSEC.NO_SA.COUNT n), false, none)
      | some k =>
        if s.rxLate n t k then
          ((s.bump pMACSEC (msf F.MACSEC.LATE.COUNT n)).event pMACSEC 11, false, none)
        else if (s.gcm n k (s.get pMACSEC (msf F.MACSEC.SSCI_RX.RX n)) t f).2 != t.icv then
          ((s.bump pMACSEC (msf F.MACSEC.ICV_FAIL.COUNT n)).event pMACSEC 8, true, none)
        else (s.setSa n t.an (some { k with high := max k.high t.pn }), false, some f)

/-! Egress. -/

/-- The port a group entry sends a flow to (R340): none where no member is up. -/
def State.groupPortOf (s : State) (g h : Nat) : Option Nat :=
  let up := (List.range 22).filter (fun n =>
    decide (7 ≤ n) && natBit (s.get pSWITCH (F.SWITCH.GRP.MEMBERS.at (4 * g))) (n - 7) && s.linkUp n)
  if up = [] then none else up[h % up.length]?

/-- The part of a map that station ports make up, and that of every port but the ring ports. -/
def stationMap (map : Nat) : Nat := map / 128 % 32768 * 128
def offRing (map : Nat) : Nat := map / 4 % 2 ^ 20 * 4

/-- The egress map of R334 for a frame of VID `vid` that entered at port `n`. With HSR in RING mode and REDBOX = 0 nothing
passes between the ring and the station ports (R347, assumption log 26). -/
def State.egressMap (s : State) (n vid : Nat) (f : Frame) : Nat :=
  let reach := s.get pSWITCH (F.SWITCH.REACH.MAP.at (4 * n))
  let hit := if s.running pFDB && f.dst != 2 ^ 48 - 1 then s.fdbFind f.dst vid else none
  let raw := match hit with
    | some i =>
      let e := s.fdbAt i
      if e.group then (match s.groupPortOf (e.dest % 4) (flowHash f vid) with | some p => 2 ^ p | none => 0) else e.dest
    | none => reach
  let m := raw &&& reach
  let m1 := if natBit m n then m - 2 ^ n else m
  if s.hsrOn && !s.flag pHSR F.HSR.CFG.REDBOX then
    if n < 2 then m1 - stationMap m1 else if 7 ≤ n then m1 / 4 * 4 else m1
  else m1

/-- RAW at which the first 64 bytes of plaintext of a frame have arrived (R337), the start of its cut-through copies (assumption log
45). `raw` is the RAW of its stamping point. -/
def State.ctRaw (s : State) (n raw : Nat) (f : Frame) : Nat :=
  min s.raw (raw + s.lineTime n (64 + (if f.sec.isSome then 16 else 0)))

/-- The ring time from which a received frame ages (R341): its stamp, else the tap 0 T at which its first cell was written, whole
(DEDUCED, assumption log 34). -/
def State.rxAge (s : State) (n raw : Nat) (stamp : Option Nat) (f : Frame) : Nat :=
  stamp.getD (s.timeOf (min s.raw (raw + s.lineTime n (min 256 (flen f)))))

/-- Would a copy be forwarded cut-through (R337)? `raw` is the RAW at which it would start. -/
def State.cuts (s : State) (raw : Nat) (x : QFrame) : Bool :=
  let n := x.ingress.getD 0
  let p := x.port
  let t := s.timeOf raw
  let w := wireTime (s.get (pPORT p) F.PORT.STS.LMODE) (s.get (pPORT p) F.PORT.STS.SPEED)
    ((match x.fr.hsr with | some h => h.size + 18 | none => s.get (pPORT n) F.PORT.MAXLEN.LEN) + s.secBytes p x.fr)
  s.flag pSWITCH F.SWITCH.CFG.CT_EN && s.txReady p t && !s.secHeld p x.fr && decide (s.byte10 n ≤ s.byte10 p) &&
  !s.sw.txq.any (fun y => y.port == p && decide (x.q ≤ y.q)) && s.mayStart p t w x

/-- The copy for port `p` of a frame that entered at port `n`, held in the buffer under `buf` in `cells`. -/
def State.copyTo (s : State) (n p stamp : Nat) (multi : Bool) (buf : Nat) (cells : List Nat) (f : Frame) : QFrame :=
  { port := p, q := s.queueOf p f (s.get (pPORT n) F.PORT.VLAN.DEF_PCP), buf := buf, fr := { f with sec := none }, stamp := stamp,
    ingress := some n, multi := multi, tag := none, gateHeld := false, isPlat := s.isSpanen f && kindOf f == 1, cells := cells }

/-- A copy starts cut-through at RAW `raw` (R337); one that is too old is discarded instead (R341). -/
def State.cutStart (s : State) (raw : Nat) (x : QFrame) (stomp : Bool) (rd : TxRead) : State :=
  if s.tooOld (s.timeOf raw) x then s.dropCopy x 15 3
  else (s.bump pSWITCH F.SWITCH.CT_FRAMES.COUNT).startFrame x.port x { raw := raw, cut := true, stomp := stomp, rd := rd }

/-- Put one copy towards its port: cut-through where R337 allows, else queued; each copy counts (R337). -/
def State.forward (s : State) (raw : Nat) (rd : TxRead) (x : QFrame) : State :=
  let s0 := s.settle x.port
  if s0.cuts raw x then s0.cutStart raw x false rd else (s0.enqueue x).bump pSWITCH F.SWITCH.SF_FRAMES.COUNT

/-- Does the shed of class B stop what comes from another hub at port `n` (R458)? -/
def State.fwdShed (s : State) (n : Nat) : Bool := decide (n < 7) && natBit (s.get pTALLY F.TALLY.STS.SHED) 2

/-- The copies of a frame that is held once in the buffer as `f`, each in the form given (R342); none from another hub while class B
is shed (R458). -/
def State.copies (s : State) (n stamp : Nat) (f : Frame) (l : List (Nat × Frame)) : State × List QFrame :=
  let ps := if s.fwdShed n then [] else l
  if ps = [] then (s, [])
  else
    let m := s.storeFrame f
    (m.1, ps.map (fun p => m.1.copyTo n p.1 stamp (decide (ps.length > 1)) m.2.1 m.2.2 p.2))

/-- Forward copies of one buffered frame; `raw` is the RAW at which those that leave cut-through start. -/
def State.forwardAll (s : State) (n stamp raw : Nat) (rd : TxRead) (f : Frame) (l : List (Nat × Frame)) : State :=
  let r := s.copies n stamp f l
  r.2.foldl (fun st x => st.forward raw rd x) r.1

/-- A frame is dropped after its cut-through copies have started: only those go out, and end stomped where the frame failed
the ingress FCS, its ICV or R349 (R312, R354, R355). -/
def State.cutCopies (s : State) (n stamp raw : Nat) (stomp : Bool) (rd : TxRead) (f : Frame) (l : List (Nat × Frame)) : State :=
  let r := s.copies n stamp f l
  r.2.foldl (fun st x =>
    let t := st.settle x.port
    if t.cuts raw x then t.cutStart raw x stomp rd else t) r.1

/-! Reception. -/

/-- Count a receive failure: PEVT bit 11 is set when the counter leaves the value of the last snapshot (R312). -/
def State.rxFail (s : State) (n i : Nat) : State :=
  let same := s.get (pPORT n) (portCtr i) == s.get (pPORT n) (F.PORT.SNAPCNT.COUNT.at (8 * i))
  let s1 := s.portCount n i
  if same then s1.event (pPORT n) 11 else s1

/-- The first failing receive test of R312: its counter. -/
def State.rxTest (s : State) (n : Nat) (f : Frame) (c : RxCheck) : Option Nat :=
  let acc := s.get (pPORT n) F.PORT.VLAN.ACCEPT
  let tagged := match f.vlan with | some tci => tci % 4096 != 0 | none => false
  if c.symbol then some 5
  else if flen f < 64 then some 3
  else if c.stomp then some 8
  else if !c.fcsOk then some 2
  else if s.get (pPORT n) F.PORT.MAXLEN.LEN < flen f then some 4
  else if f.etype == 0x8808 then none
  else if (acc = 1 ∧ tagged = false) ∨ (acc = 2 ∧ tagged = true) then some 6
  else none

/-- VID of a frame at its ingress (R314). -/
def State.vidOf (s : State) (n : Nat) (f : Frame) : Nat :=
  match f.vlan with
  | some tci => if tci % 4096 = 0 then s.get (pPORT n) F.PORT.VLAN.PVID else tci % 4096
  | none => s.get (pPORT n) F.PORT.VLAN.PVID

/-- Is a kind out of place on a port, reserved, or of another version (R30, R333)? -/
def badKind (n : Nat) (f : Frame) : Bool :=
  let k := kindOf f
  hdr f 0 / 16 != 1 || k == 0 || decide (10 ≤ k) || (k == 8 && !(decide (4 ≤ n) && decide (n ≤ 6))) ||
    (k == 9 && !(decide (2 ≤ n) && decide (n ≤ 3)))

/-- Drop at ingress with a capture record, of a frame with an egress map under R334. -/
def State.rxDropMap (s : State) (n reason map : Nat) (stamp : Option Nat) (f : Frame) : State :=
  s.capture n { egress := false, reason := reason, cut := false, map := map, stamp := stamp } f

/-- Drop at ingress with a capture record. -/
def State.rxDrop (s : State) (n reason : Nat) (stamp : Option Nat) (f : Frame) : State := s.rxDropMap n reason 0 stamp f

/-- A MGMT frame addressed to this node is a wake source (R43). -/
def State.mgmtWake (s : State) (f : Frame) : State :=
  if s.isSpanen f && kindOf f == 5 && hdr f 13 == s.nid && s.flag pSYS F.SYS.WAKE.WATCH_MGMT then s.watchWake else s

/-- The member of this node that a Spanen frame is for, where it names one (R166, R176, R378, R384, R414). -/
def State.inNode (s : State) (f : Frame) : Option Nat :=
  match kindOf f with
  | 2 => if hdr f 16 = s.nid then some (hdr f 17 / 64) else none
  | 3 => if hdr f 19 % 128 = s.nid then some (hdr f 18 / 64) else none
  | 5 => if hdr f 13 = s.nid then some (hdr f 14 / 64) else none
  | 6 => if hdr f 13 = s.nid then some (hdr f 14 / 64) else none
  | 8 => some (hdr f 14 % 4)
  | _ => none

/-- The copy of a received frame for member `m` over the gang links (R340), without the ring's tag and at its minimum length (R29). -/
def State.toMember (s : State) (m vid : Nat) (f : Frame) : State × List (Nat × Frame) :=
  match s.gangRoute m (flowHash f vid) with
  | some p => (s, [(p, s.padMin { f with hsr := none, sec := none })])
  | none => (s.noPath, [])

/-- The copies of a Spanen frame from a gang port that is for another hub: the acting lead puts what its members send to other nodes on
the ring (R165, R176, R268, R418), and a relay sends on what is for another member (R340). Stakes for a member of this node are
passed on one by one by the acting lead (R166). A frame for a member goes to that member itself, whoever acts for it, since a twin
keeps its own member bits (R418); only a stake is for the hub that acts. A relay uses its direct link alone. -/
def State.gangRelay (s : State) (n vid : Nat) (f : Frame) : State × List (Nat × Frame) :=
  let direct := fun m => if s.linkUp (gangPort s.member m) then s.toMember m vid f else (s.noPath, [])
  if !s.inGang || !(decide (4 ≤ n) && decide (n ≤ 6)) || !s.isSpanen f || !([2, 3, 5, 6, 7, 8].contains (kindOf f)) then (s, [])
  else match s.inNode f with
    | some m => if m == s.member || (kindOf f == 2 && (s.actsFor m || s.isLead)) then (s, []) else direct m
    | none =>
      if s.isLead then
        let r := s.hsrTag (s.unpad { f with sec := none })
        let g := s.padMin r.2
        (r.1, [(0, g), (1, g)])
      else if s.actingFor 0 == s.member then (s, []) else direct (s.actingFor 0)

/-- The copy of a frame from the ring that the acting lead passes on to another member of its node: RECEIPT, MGMT and NOTICE frames
(R178, R378, R384). PLAT frames it passes to none: the spec names no path by which a member off the ring receives those of
other nodes (DESIGN CHOICE, assumption log 94). Member 0 and its twin stand on the ring themselves. -/
def State.toGang (s : State) (n vid : Nat) (f : Frame) : State × List (Nat × Frame) :=
  if s.inGang && decide (n < 2) && s.isSpanen f && [3, 5, 6].contains (kindOf f) && s.isLead then
    match s.inNode f with
    | some m => if m == 0 || (s.isTwin m && s.guards m == 0) then (s, []) else s.toMember m vid f
    | none => (s, [])
  else (s, [])

/-- Is this a Pdelay message (IEEE 1588 messageType 0x2, 0x3 or 0xA), which terminates at the hub and goes to firmware (R94)?
R94 says so among its rules for ring ports; the model takes it for every port (DEDUCED, assumption log 42). -/
def State.isPdelay (s : State) (f : Frame) : Bool := s.isPtp f && [2, 3, 10].contains (hdr f 0 % 16)

/-- Deliver a frame locally: to the host where its map names it, or for EAPOL, Pdelay messages or BOOK frames collected (R94,
R333, R387); its rows are read, and one with a row that is lost is discarded (R349). Spanen frames for the hub's own logic go on as
the command of that logic. -/
def State.deliver (s0 : State) (n map : Nat) (stamp : Option Nat) (rd : TxRead) (f : Frame) : State :=
  let s := s0.mgmtWake f
  if natBit map 22 || s.isPdelay f || (s.isSpanen f && kindOf f == 7 && s.flag pBRIDGE F.BRIDGE.CFG.COLLECT) then
    let r := s.readRows rd.errs (List.range (4 * cellsOf { f with sec := none }))
    if r.2 = [] then r.1.hostDeliver n stamp f else r.1
  else s

/-- The port by which a copy for port `p` leaves: a copy for a gang member whose direct link is down goes by a relay (R340). -/
def State.gangOut (s : State) (p vid : Nat) (f : Frame) : Option Nat :=
  if s.inGang && decide (4 ≤ p) && decide (p ≤ 6) && !s.linkUp p then s.gangRoute ((s.member + p - 3) % 4) (flowHash f vid) else some p

/-- The copies of a frame of the last class by its map: a Redbox tags what it sends on the ring and removes the tag
towards station ports (R347). -/
def State.copiesOf (s0 : State) (n map vid : Nat) (f : Frame) : State × List (Nat × Frame) :=
  let plain := { f with hsr := none, sec := none }
  let out := (((List.range 22).filter (fun p => decide (2 ≤ p) && natBit map p)).map (fun p => s0.gangOut p vid f))
  let rest := (out.filterMap id).map (fun p => (p, plain))
  let s := (out.filter (fun o => o.isNone)).foldl (fun st _ => st.noPath) s0
  if map % 4 = 0 ∨ n < 2 then (s, rest)
  else if s.hsrOn then
    let r := s.hsrTag plain
    (r.1, (0, r.2) :: (1, r.2) :: rest)
  else (s, ((List.range 2).filter (fun p => natBit map p)).map (fun p => (p, plain)) ++ rest)

/-- The forwarded bit of an entry for a ring port. -/
def hsrFwd (e : HsrEnt) (p : Nat) : Bool := if p = 0 then e.fe else e.fw

/-- Is a source address one of this node's own, or of a station behind it (R345)? The twin's address, as its STATUS frames gave it, and on
the lead of a gang those of the members, whose frames enter the ring here, are the node's own. -/
def State.ownSource (s : State) (src : Nat) : Bool :=
  src == s.stationAddr || s.proxied src || (s.dup.heardEver && 0x025A * 2 ^ 32 + s.get pDUPLEX F.DUPLEX.PEER_SN.SN % 2 ^ 32 == src) ||
    (s.inGang && s.gang.heard.any (fun h => 0x025A * 2 ^ 32 + h.serial % 2 ^ 32 == src))

/-- The moments of a received frame: the RAW of its stamping point, that at which its cut-through copies start (R337), and the ring time
from which it ages (R341). -/
structure RxAt where
  hdr : Nat
  cut : Nat
  age : Nat
deriving DecidableEq, Repr

/-- HSR rules for a tagged frame from ring port `n` that passed every check (R345, R346), and its capture record. -/
def State.hsrRx (s : State) (n map vid : Nat) (stamp : Option Nat) (at_ : RxAt) (rd : TxRead) (f : Frame) (h : HsrTag) : State :=
  let s0 := s.hsrTrim
  if s0.ownSource f.src then
    (s0.bump pHSR F.HSR.RETURNED.COUNT).rxDropMap n 6 map stamp f
  else if map = 0 && !s0.isSpanen f && !s0.isPdelay f then s0.noPath.rxDrop n noReason stamp f
  else
    let r := s0.hsrEntry f.src h.seq at_.hdr
    let e := r.2
    let opp := 1 - n
    let ends := s0.isPdelay f
    let seen := hsrFwd e opp && !ends
    let here := s0.isSpanen f || ends || natBit map 22 || offRing map != 0
    let fresh := here && !e.d
    let e1 := { e with
      d := e.d || here, dFail := if fresh then none else e.dFail
      fe := e.fe || (opp == 0 && !ends), fw := e.fw || (opp == 1 && !ends) }
    let s1 := r.1.setHsr (hsrSet r.1.sw.hsr e1)
    let s2 := if seen then s1.bump pHSR F.HSR.CIRCULATE.COUNT else s1
    let s3 := if here && !fresh then s2.bump pHSR F.HSR.DUP_DISCARD.COUNT else s2
    let late := match e.dFail with | some t => decide (at_.hdr < t) | none => false
    let s4 := if fresh && late then (s3.bump pHSR F.HSR.REPLACED.COUNT).event pHSR 10 else s3
    if (seen || ends) && !fresh then s4.rxDropMap n (if seen then 6 else 5) map stamp f
    else
      let s5 := s4.capture n { egress := false, reason := 0, cut := false, map := map, stamp := stamp } f
      let loc := if fresh && !ends then s5.copiesOf n (offRing map) vid f else (s5, [])
      let gang := if fresh then loc.1.toGang n vid f else (loc.1, [])
      let s6 := gang.1.forwardAll n at_.age at_.cut rd f ((if seen || ends then [] else [(opp, f)]) ++ loc.2 ++ gang.2)
      let s7 := if fresh then s6.deliver n map stamp rd { f with hsr := none } else s6
      s7.learn n f.src vid

/-- A tagged ring frame that failed a check: an entry exists, the marks it set are cleared, and its cut-through copies go out
alone (R344, R355). -/
def State.hsrFailed (s : State) (n map vid : Nat) (stomp : Bool) (at_ : RxAt) (rd : TxRead) (f : Frame) (h : HsrTag) : State :=
  let s0 := s.hsrTrim
  if s0.ownSource f.src || (map = 0 && !s0.isSpanen f && !s0.isPdelay f) then s0
  else
    let old := (hsrFind s0.sw.hsr f.src h.seq).map (fun e => e.s)
    let r := s0.hsrEntry f.src h.seq at_.hdr
    let e := r.2
    let e1 := { e with s := old.getD false, dFail := if e.d then e.dFail else some s.raw }
    let s1 := r.1.setHsr (hsrSet r.1.sw.hsr e1)
    if s1.isPdelay f then s1
    else
      let loc := if e.d then (s1, []) else s1.copiesOf n (offRing map) vid f
      let gang := if e.d then (loc.1, []) else loc.1.toGang n vid f
      gang.1.cutCopies n at_.age at_.cut stomp rd f ((if hsrFwd e (1 - n) then [] else [(1 - n, f)]) ++ loc.2 ++ gang.2)

/-- Does the frame have to be discarded for want of cells (R353)? -/
def State.noRoom (s : State) (n : Nat) (f : Frame) : Bool :=
  s.bufFull f ||
    (decide (s.cellsFree < s.get pBUFMEM F.BUFMEM.CFG.CRIT) && !s.isSpanen f &&
      s.queueOf n f (s.get (pPORT n) F.PORT.VLAN.DEF_PCP) != 7)

/-- The egress map of a frame: the host alone for EAPOL from another hub, none for Spanen frames and Pdelay messages, else that
of R334 (R94, R333). -/
def State.fwdMap (s : State) (n : Nat) (f : Frame) : Nat :=
  if s.isSpanen f || s.isPdelay f then 0 else s.egressMap n (s.vidOf n f) f

/-- A frame that passed the MAC and MACsec reaches the switch (R333, R334, R343); the source address of each frame that it
forwards or delivers is learned (R335). What stands for rx_stamp where a Sync without a valid stamp is corrected is the time from which
the frame ages (DESIGN CHOICE, assumption log 34). -/
def State.switchIn (s : State) (n : Nat) (stamp : Option Nat) (at_ : RxAt) (rd : TxRead) (f : Frame) : State :=
  let eapol := f.etype == 0x888E && decide (n < 7)
  let probe := s.isSpanen f && kindOf f == 4
  let exempt := eapol || probe
  let vid := s.vidOf n f
  if !s.running pSWITCH then s.rxDrop n noReason stamp f
  else if s.noRoom n f then s.bufDrop.rxDrop n 7 stamp f
  else if s.isSpanen f && badKind n f then
    ((s.bump pSWITCH F.SWITCH.KIND_DROP.COUNT).event pSWITCH 10).rxDrop n 9 stamp f
  else if eapol then
    (((s.capture n { egress := false, reason := 0, cut := false, map := 2 ^ 22, stamp := stamp } f).deliver n (2 ^ 22) stamp rd
      f).learn n f.src vid)
  else if n < 2 ∧ !s.hsrOn ∧ !exempt then s.noPath.rxDrop n noReason stamp f
  else if n < 2 ∧ f.hsr.isNone ∧ !exempt then
    ((s.bump pHSR F.HSR.UNTAGGED.COUNT).event pHSR 9).rxDrop n noReason stamp f
  else
    let map := s.fwdMap n f
    let bad := s.isSpanen f && !probe && !spanenOk f
    match f.hsr, decide (n < 2) with
    | some h, true =>
      if bad then (s.hsrFailed n map vid false at_ rd f h).rxDrop n noReason stamp f else s.hsrRx n map vid stamp at_ rd f h
    | _, _ =>
      if bad then s.rxDrop n noReason stamp f
      else if map = 0 && !s.isSpanen f && !s.isPdelay f then
        s.noPath.rxDrop n noReason stamp f
      else
        let s1 := s.capture n { egress := false, reason := 0, cut := false, map := map, stamp := stamp } f
        let r := if s.isSpanen f then s1.gangRelay n vid f else s1.copiesOf n map vid f
        ((r.1.forwardAll n at_.age at_.cut rd f r.2).deliver n map stamp rd f).learn n f.src vid

/-- A frame has failed a check of the MAC or of MACsec after the switch may have begun to forward it (R312, R355). -/
def State.failedIn (s : State) (n : Nat) (stomp : Bool) (at_ : RxAt) (rd : TxRead) (f : Frame) : State :=
  if !s.running pSWITCH || s.noRoom n f || (s.isSpanen f && badKind n f) || (f.etype == 0x888E && decide (n < 7)) then s
  else
    let map := s.fwdMap n f
    let vid := s.vidOf n f
    match f.hsr, decide (n < 2) with
    | some h, true => if s.hsrOn then s.hsrFailed n map vid stomp at_ rd f h else s
    | _, true => s
    | _, false =>
      let r := if s.isSpanen f then s.gangRelay n vid f else s.copiesOf n map vid f
      r.1.cutCopies n at_.age at_.cut stomp rd f r.2

/-- A frame has been received at port `n`; this is the moment at which its last FCS byte passes the ball (R312, R333, R559). -/
def State.portRx (s0 : State) (n : Nat) (f : Frame) (c : RxCheck) : State :=
  if !s0.running (pPORT n) || !s0.linkUp n then s0
  else
    let hdrRaw := s0.rxPoint n f
    let s := s0.stampsDue.foldMark hdrRaw
    let stamp := s.rxStamp n hdrRaw
    let at_ : RxAt := { hdr := hdrRaw, cut := s.ctRaw n hdrRaw f, age := s.rxAge n hdrRaw stamp f }
    match s.rxTest n f c with
    | some i =>
      let s1 := (s.rxFail n i).rxDrop n 1 stamp f
      let fcs := c.stomp || !c.fcsOk
      if decide (64 ≤ flen f) && (fcs || i == 4) && s1.headOk n f then s1.failedIn n fcs at_ c.tx f else s1
    | none =>
      if f.etype == 0x8808 then
        let s1 := s.capture n { egress := false, reason := 0, cut := false, map := 0, stamp := stamp } f
        (if ofBE (slice f.body 0 2) = 1 then s1.pauseIn n (ofBE (slice f.body 2 2)) else s1.portCount n 7)
      else
        let s1 := ((s.portCount n 0).portCount n 1 (flen f)).peerHeard n
        let ver := s1.verify n f
        match ver.2.2 with
        | none =>
          let s3 := ver.1.rxDrop n 8 stamp f
          if ver.2.1 then s3.failedIn n true at_ c.tx f else s3
        | some g => (ver.1.claimSeen n g).switchIn n stamp at_ c.tx g

/-- The frames that PCS loopback returned are received (R329), at the command that finds them sent (DESIGN CHOICE, assumption log 98). -/
def State.loopIn (s : State) (n : Nat) : State :=
  (s.port n).back.foldl (fun st e =>
    st.portRx n e.1 { symbol := false, stomp := e.2, fcsOk := true, tx := { dev := 0, errs := [] } })
    (s.setPort n { s.port n with back := [] })

/-! The scrubber (R349, R352). -/

/-- A row of the frame with buffer number `b` is lost: its copies that have not started are discarded, and each that is
leaving ends stomped (R349, R355). -/
def State.bufLost (s : State) (b : Nat) : State :=
  let gone := s.sw.txq.filter (fun x => x.buf == b)
  let s1 := gone.foldl (fun st x =>
    st.capture x.port { egress := true, reason := 10, cut := false, map := 0, stamp := none } x.fr) s
  let s2 := State.roomMark { s1 with sw := { s1.sw with txq := s1.sw.txq.filter (fun x => x.buf != b) } }
  (List.range 22).foldl (fun st n =>
    let t := st.settle n
    match (t.port n).leaving with
    | some x =>
      if x.q.buf = b && !x.stomp then
        ((t.setPort n { t.port n with leaving := some { x with stomp := true, wire := t.wireBytes n true x.fr } }).bump pSWITCH
          F.SWITCH.STOMPED.COUNT).event pSWITCH 8
      else t
    | none => t) s2

/-- The frame whose cell this is, if any: its buffer number. -/
def State.cellOwner (s : State) (c : Nat) : Option Nat := (s.heldCopies.find? (fun q => q.cells.contains c)).map (fun q => q.buf)

/-- May the scrubber read its next cell: SCRUB.INT µs after the last, unless class D is shed (R352, R458)? -/
def State.scrubDue (s : State) : Bool :=
  s.running pBUFMEM && s.flag pBUFMEM F.BUFMEM.CFG.SCRUB_EN && !natBit (s.get pTALLY F.TALLY.STS.SHED) 0 &&
    decide (s.sw.scrubAt + 2000 * s.get pBUFMEM F.BUFMEM.SCRUB.INT ≤ s.clock)

/-- The scrubber reads the next cell (R352). What it corrects or rebuilds it writes back: the bytes of the cells in State are those. -/
def State.scrub (s : State) (errs : List (Nat × Nat × Bool)) : State :=
  if s.scrubDue then
    let r := s.readRows errs (List.range 4)
    let s1 := { r.1 with sw := { r.1.sw with scrubCell := (s.sw.scrubCell + 1) % 16384, scrubAt := s.clock } }
    match s.cellOwner s.sw.scrubCell with
    | some b => if r.2 = [] then s1 else s1.bufLost b
    | none => s1
  else s

/-! MACsec TX_AN (R358). -/

/-- Default of the pending TX_AN table: 4 stands for none. -/
def txAnDefault (_ : Nat) : Nat := 4

/-- A write to CTL.TX_AN waits for the next frame boundary (R358); one of the AN in force ends a change that waits. -/
def State.txAnWrite (s : State) (n an : Nat) : State :=
  let v := if an % 4 = s.get pMACSEC (msf F.MACSEC.CTL.TX_AN n) then 4 else an % 4
  { s with sw := { s.sw with txAn := tabPut txAnDefault s.sw.txAn n v } }

/-- The frame boundary: TX_AN changes and the next PN becomes NEXT_PN (R358). -/
def State.txAnApply (s : State) (n : Nat) : State :=
  let an := tabGet txAnDefault s.sw.txAn n
  if an < 4 then
    let s1 := { s with sw := { s.sw with txAn := tabPut txAnDefault s.sw.txAn n 4 } }
    (s1.set pMACSEC (msf F.MACSEC.CTL.TX_AN n) an).set pMACSEC (msf F.MACSEC.TX_PN.PN n)
      (s1.get pMACSEC (msf F.MACSEC.NEXT_PN.PN n))
  else s

/-! Commands. -/

def execPortRxFrame (clk port : Nat) (fr : Frame) (chk : RxCheck) (s : State) : Host.Outcome State Fault Refusal :=
  .next (if port < 22 then (s.advance clk).portRx port fr chk else s.advance clk)

def execPortTxStart (clk : Nat) (go : TxGo) (s : State) : Host.Outcome State Fault Refusal :=
  .next (if go.port < 22 then ((s.advance clk).txStart go.port go.rd).loopIn go.port else s.advance clk)

def execFdbAgeExpire (index : Nat) (s : State) : Host.Outcome State Fault Refusal := .next (s.fdbAge index)

/-- A write of 1 to CMD.GO with an operation (R365): 6 and 7 are reserved and end with OUTCOME 3. -/
def State.fdbCmd (s : State) (op index : Nat) : State :=
  let s1 := s.set pFDB F.FDB.CMD.OP op
  match op with
  | 0 => s1.fdbRead index
  | 1 => s1.fdbLookup
  | 2 => s1.fdbWrite
  | 3 => s1.fdbDelete
  | 4 => s1.fdbFlush (some (s1.get pFDB F.FDB.ENTRY.DEST))
  | 5 => s1.fdbFlush none
  | _ => s1.fdbDone 3 none

/-- The write of CMD as firmware makes it: GO and OP, and INDEX where the operation takes one. -/
def State.fdbGo (s : State) (op : Nat) (index : Option Nat) : State :=
  match index with
  | some i => s.regWrite pFDB 0x44 0x1FFF000F (1 + 2 * op + 2 ^ 16 * (i % 8192)) .host (fun t => t.fdbCmd op (i % 8192))
  | none => s.regWrite pFDB 0x44 15 (1 + 2 * op) .host (fun t => t.fdbCmd op 0)

def execFdbRead (clk index : Nat) (s : State) : Host.Outcome State Fault Refusal :=
  .next ((s.advance clk).fdbGo 0 (some index))

def execFdbLookup (clk : Nat) (s : State) : Host.Outcome State Fault Refusal := .next ((s.advance clk).fdbGo 1 none)

def execFdbWrite (clk : Nat) (s : State) : Host.Outcome State Fault Refusal := .next ((s.advance clk).fdbGo 2 none)

def execFdbDelete (clk : Nat) (s : State) : Host.Outcome State Fault Refusal := .next ((s.advance clk).fdbGo 3 none)

def execFdbFlushDest (clk : Nat) (s : State) : Host.Outcome State Fault Refusal := .next ((s.advance clk).fdbGo 4 none)

def execFdbFlushAll (clk : Nat) (s : State) : Host.Outcome State Fault Refusal := .next ((s.advance clk).fdbGo 5 none)

def execFdbCmdReserved (clk op : Nat) (s : State) : Host.Outcome State Fault Refusal :=
  .next ((s.advance clk).fdbGo (6 + op % 2) none)

def execHsrEntryExpire (s : State) : Host.Outcome State Fault Refusal := .next s.hsrExpire

def execBufmemFailBank (clk bank : Nat) (s : State) : Host.Outcome State Fault Refusal :=
  .next ((s.advance clk).regWrite pBUFMEM 0x54 0x10F (0x100 + bank % 16) .host (fun t => t.bufFail (bank % 16)))

def execBufmemRebuild (clk bank : Nat) (s : State) : Host.Outcome State Fault Refusal :=
  .next ((s.advance clk).regWrite pBUFMEM 0x54 0x20F (0x200 + bank % 16) .host (fun t => t.bufRebuild (bank % 16)))

def execBufmemRebuildDone (clk : Nat) (ok : Bool) (s : State) : Host.Outcome State Fault Refusal :=
  .next ((s.advance clk).bufRebuilt ok)

def execBufmemScrub (clk : Nat) (cell : ScrubRead) (s : State) : Host.Outcome State Fault Refusal :=
  .next ((s.advance clk).scrub cell.errs)

def execMacsecTxAnWrite (clk port an : Nat) (s : State) : Host.Outcome State Fault Refusal :=
  .next (if port < 7 then
    (s.advance clk).fldWrite pMACSEC (msf F.MACSEC.CTL.TX_AN port) (an % 4) (fun t =>
      if t.protected port then t.txAnWrite port an else (t.txAnWrite port an).txAnApply port)
  else s.advance clk)

def execMacsecTxAnApply (clk port : Nat) (s : State) : Host.Outcome State Fault Refusal :=
  .next (if port < 7 then (s.advance clk).txAnApply port else s.advance clk)

end Sys2Proof.Machine
end

