-- ==== Sys2Proof/Machine/Cycle.lean ====
section
/-!
DEFINITION. The traverse cycle and the mirror of the plat (R128–R155, R159): boundaries, staleness, the vote, reception
and flips, release of the own frames, and what a step of the Datum does to the cycle (R130). The freeze, which reads
other blocks, stands in Freeze.lean.
-/

namespace Sys2Proof.Machine

/-! The schedule. -/

/-- Fields of the slot entry of node `k` (R132, R152). -/
def State.slotOfs (s : State) (k : Nat) : Nat := s.get pCYCLE (slotFld F.CYCLE.SLOT_A.OFS k)
def State.slotLen (s : State) (k : Nat) : Nat := s.get pCYCLE (slotFld F.CYCLE.SLOT_A.LEN k)
def State.slotOut (s : State) (k : Nat) : Nat := s.get pCYCLE (slotFld F.CYCLE.SLOT_A.OUT_LEN k)
def State.slotStart (s : State) (k : Nat) : Nat := s.get pCYCLE (slotFld F.CYCLE.SLOT_B.START k)
def State.slotSlen (s : State) (k : Nat) : Nat := s.get pCYCLE (slotFld F.CYCLE.SLOT_C.SLEN k)

/-- Frames of a parcel, and the units of frame `i` (R133). -/
def frameCount (len : Nat) : Nat := ceilDiv len 22
def frameUnits (len i : Nat) : Nat := min (22 * i + 22) len - 22 * i

/-- Wire time of a parcel (R133). -/
def State.wireOf (s : State) (len : Nat) : Nat :=
  let b := ((List.range (frameCount len)).map (fun i =>
    64 * frameUnits len i + 64 + 32 * s.get pCYCLE F.CYCLE.CFG.MACSEC + 4 * s.get pCYCLE F.CYCLE.CFG.VLAN)).sum
  if s.flag pCYCLE F.CYCLE.CFG.RATE then 16 * b else ceilDiv (8 * b) 5

/-- WIRE: the sum over all nodes (R133). -/
def State.wireSum (s : State) : Nat := ((List.range 127).map (fun k => s.wireOf (s.slotLen (k + 1)))).sum

/-- The schedule digest (R134). -/
def State.schedDigest (s : State) : Nat :=
  crc32c (([0x40, 0x44, 0x48, 0x4C, 0x50, 0x54] ++ (List.range 508).map (fun i => 0x800 + 4 * i)).flatMap
    (fun o => leBytes 4 (s.rd pCYCLE o).toNat))

/-- Offsets in the cycle of the timed events 0 freeze, 1 release, 2 vote, 3 view flip (R129). -/
def State.evOfs (s : State) (e : Nat) : Nat :=
  if e = 0 then s.slotStart s.nid - s.get pPLAT F.PLAT.FREEZE_LEAD.LEAD
  else if e = 1 then s.slotStart s.nid
  else if e = 2 then s.get pCYCLE F.CYCLE.PW_OPEN.OPEN + s.get pCYCLE F.CYCLE.PW_LEN.LEN
  else s.get pPLAT F.PLAT.VIEW_AT.AT

/-- Has the timed event still to come in the current cycle? -/
def State.evOpen (s : State) (e : Nat) : Bool := s.running pCYCLE && s.cycle.started && !s.cycle.doneEv.contains e

/-- The moment of a timed event is reached, and it is performed (R129). -/
def State.evNow (s : State) (e : Nat) : State :=
  let s1 := s.advanceT (s.cycT s.cycle.cyc + s.evOfs e)
  { s1 with cycle := { s1.cycle with doneEv := s1.cycle.doneEv ++ [e] } }

/-! The mirror. -/

/-- Selector default: buffer 0. -/
def selDefault (_ : Nat) : Nat := 0
/-- Reception default: nothing held. -/
def rxDefault (_ : Nat) : ParcelRx := { cycle := 0, frames := [], ready := false }
/-- Staging default. -/
def stagingDefault (_ : Nat) : Byte := 0

/-- The selector of a parcel (R144). -/
def State.sel (s : State) (k : Nat) : Nat := tabGet selDefault s.plat.sel k

/-- The on-chip address of plat byte `x` in buffer `b`. -/
def bufAddr (b x : Nat) : Nat := b * 0x40000 + x

/-- The visible header word of a parcel (R135). -/
def State.visHdr (s : State) (k : Nat) : Nat := ofLE (s.ldBytes (bufAddr (s.sel k) (64 * s.slotOfs k)) 8)

/-- The parcel that holds a plat byte. -/
def State.parcelAt (s : State) (x : Nat) : Option Nat :=
  ((List.range 127).map (· + 1)).find? (fun k =>
    decide (64 * s.slotOfs k ≤ x) && decide (x < 64 * (s.slotOfs k + s.slotLen k)))

/-- A byte of the visible (0) or working (1) window (R144). -/
def State.mirrorByte (s : State) (w x : Nat) : Byte :=
  match s.parcelAt x with
  | none => 0
  | some k => s.ldb (bufAddr ((s.sel k + w) % 2) x)

/-- Bit of node `k` in a map of four registers. -/
def mapBit (f : Fld) (k : Nat) : Fld := ⟨f.off + 4 * (k / 32), k % 32, 1⟩

/-- A counted frame drop of PLAT (R157). -/
def State.platDrop (s : State) (f : Fld) : State := (s.bump pPLAT f).event pPLAT 12

/-- An own publication that is not made (R130, R145). -/
def State.slotMiss (s : State) (k : Nat) : State :=
  if k = 0 then s else (s.bumpBy pPLAT F.PLAT.SLOTMISS.COUNT k).event pPLAT 11

/-- Reception state of a parcel. -/
def State.rxOf (s : State) (k : Nat) : ParcelRx := tabGet rxDefault s.plat.rx k
def State.setRx (s : State) (k : Nat) (r : ParcelRx) : State :=
  { s with plat := { s.plat with rx := tabPut rxDefault s.plat.rx k r } }

/-- The flip of a parcel (R144, R145, R148). -/
def State.flip (s : State) (k : Nat) : State :=
  let s1 := { s with plat := { s.plat with sel := tabPut selDefault s.plat.sel k ((s.sel k + 1) % 2) } }
  let s2 := s1.setRx k (rxDefault 0)
  let s3 := s2.setB pPLAT (mapBit F.PLAT.VALID.MAP k) (natBit (s2.visHdr k) 32)
  if s3.flag pPLAT (mapBit F.PLAT.STALE.MAP k) then (s3.set pPLAT (mapBit F.PLAT.STALE.MAP k) 0).event pPLAT 9 else s3

/-- The stale test of one parcel at boundary `n` (R148). -/
def State.staleOne (s : State) (n : Int) (k : Nat) : State :=
  let h := s.visHdr k
  let lim := s.get pPLAT F.PLAT.CFG.STALE
  let old := if natBit h 32 then decide (lim < (cyc32 n + 2 ^ 32 - h % 2 ^ 32) % 2 ^ 32)
    else decide (lim + 1 ≤ s.plat.bounds)
  if s.slotLen k = 0 ∨ !old ∨ s.flag pPLAT (mapBit F.PLAT.STALE.MAP k) then s
  else
    let a := bufAddr (s.sel k) (64 * s.slotOfs k) + 4
    ((s.stb a (s.ldb a ||| 2)).set pPLAT (mapBit F.PLAT.STALE.MAP k) 1).event pPLAT 8

/-- The stale test of a boundary (R148). A forward step over several boundaries counts the one boundary on which the hub
acts (DESIGN CHOICE, assumption log 94). -/
def State.staleTest (s : State) (n : Int) : State :=
  if !s.running pPLAT then s
  else
    let s1 := { s with plat := { s.plat with bounds := s.plat.bounds + 1 } }
    ((List.range 127).map (· + 1)).foldl (fun st k => st.staleOne n k) s1

/-- The hub acts on the boundary of cycle `n` (R129, R130, R148, R153). -/
def State.actBoundary (s : State) (n : Int) (doneEv : List Nat) : State :=
  let s1 := { s with cycle := { s.cycle with cyc := n, started := true, doneEv := doneEv, votes := [] } }
  ((s1.set pCYCLE F.CYCLE.NOW_CYC.CYCLE (cyc32 n)).event pCYCLE 8).staleTest n

/-- The next boundary on which the hub acts (R129). -/
def State.nextCyc (s : State) : Int :=
  if s.cycle.started then s.cycle.cyc + 1
  else if s.cycT (s.cycOf s.now) = s.now then s.cycOf s.now else s.cycOf s.now + 1

/-- Does this hub publish now (R149, R151, R159)? -/
def State.publishes (s : State) : Bool :=
  s.publisher && s.running pCYCLE && s.flag pCYCLE F.CYCLE.STS.PUBLISH && s.running pPLAT && !s.held pPLAT &&
    decide (0 < s.slotLen s.nid)

/-- How many cycles from the beginning have an event of offset `o` before ring time `t`. -/
def State.cntBefore (s : State) (o t : Nat) : Int :=
  -(-((t : Int) - s.get pCYCLE F.CYCLE.CYC_PHASE.PHASE - (o : Int)) / (s.get pCYCLE F.CYCLE.CYC_LEN.LEN : Nat))

/-- The timed events of cycle `n` whose times lie in [a, b). -/
def State.evIn (s : State) (n : Int) (a b : Nat) : List Nat :=
  [0, 1, 2, 3].filter (fun e => decide (a ≤ s.cycT n + s.evOfs e) && decide (s.cycT n + s.evOfs e < b))

/-- Freezes that a step from ring time `a` to `b` passes over (R130): of the current cycle `cur` where its freeze is still to
come, and of every later cycle; those of earlier cycles have been made. -/
def State.frozenOver (s : State) (cur : Int) (a b : Nat) : Nat :=
  let o := s.evOfs 0
  bit (s.evOpen 0 && decide ((a : Int) ≤ s.cycTime cur + o) && decide (s.cycTime cur + o < b)) +
    (s.cntBefore o b - max (s.cntBefore o a) (cur + 1)).toNat

/-- What a fold of a step from ring time `a` to `b` does to the cycle (R130). -/
def State.cycleStep (s : State) (a b : Nat) : State :=
  if !s.running pCYCLE ∨ b ≤ a then s
  else
    let cur := if s.cycle.started then s.cycle.cyc else s.cycOf a
    let s1 := if s.publishes then s.slotMiss (s.frozenOver cur a b) else s
    if s1.cycOf b ≤ cur then
      { s1 with cycle := { s1.cycle with
        doneEv := s1.cycle.doneEv ++ (s1.evIn cur a b).filter (fun e => !s1.cycle.doneEv.contains e) } }
    else
      let n := s1.cycOf b
      ((s1.bumpSat pCYCLE F.CYCLE.SKIPPED.COUNT (cyc32 (n - cur))).event pCYCLE 11).actBoundary n (s1.evIn n a b)

/-! The output staging store. -/

/-- A byte of the output staging store (R139). -/
def State.staged (s : State) (x : Nat) : Byte := tabGet stagingDefault s.plat.staging x

/-- Is [x, x + n) inside the output region of node `k`'s parcel (R132, R139)? -/
def State.outputOf (s : State) (k x n : Nat) : Bool :=
  decide (64 * (s.slotOfs k + s.slotLen k - s.slotOut k) ≤ x) &&
    decide (x + n ≤ 64 * (s.slotOfs k + s.slotLen k)) && decide (0 < s.slotOut k)

/-- Is it inside the output region of the own parcel? -/
def State.ownOutput (s : State) (x n : Nat) : Bool := s.outputOf s.nid x n

/-- Is it inside the output region of some node's parcel (R31)? -/
def State.anyOutput (s : State) (x n : Nat) : Bool := (List.range 127).any (fun k => s.outputOf (k + 1) x n)

/-- Bytes enter the staging store. -/
def State.stageBytes (s : State) : Nat → List Byte → State
  | _, [] => s
  | x, b :: t => State.stageBytes
      { s with plat := { s.plat with staging := tabPut stagingDefault s.plat.staging x b } } (x + 1) t

/-- A local address with its member bits (R33). -/
def State.localAddr (s : State) (a : Nat) : Nat := s.member * 2 ^ 38 + a % 2 ^ 38

/-- The address as an address error captures it (R35): an access over the ring carries its node, and so does an access of
the host through a window that names this node by its number. -/
def State.issued (s : State) (a : Nat) (src : Source) : Nat :=
  match src with
  | .hostRing => s.nid * 2 ^ 40 + a
  | .manager => s.nid * 2 ^ 40 + a
  | .gang => s.nid * 2 ^ 40 + a
  | _ => a

/-- A write through the visible window (R139): aligned, of 1, 2, 4 or 8 bytes, and inside the own output region; any
other is an address error (R34). -/
def State.outputWrite (s : State) (x : Nat) (d : List Byte) (src : Source) : State :=
  if (d.length = 1 ∨ d.length = 2 ∨ d.length = 4 ∨ d.length = 8) ∧ x % d.length = 0 ∧ s.ownOutput x d.length then
    s.stageBytes x d
  else s.addressError (s.issued (s.localAddr x) src) src

/-! Publication. -/

/-- PLAT frame `i` of the own parcel of cycle `n` (R133, R141). -/
def State.platFrame (s : State) (n i : Nat) (tci : Option Nat) : Frame :=
  let len := s.slotLen s.nid
  s.spanen (groupAddr (s.get pCYCLE F.CYCLE.PDA_HI.DA_HI) (s.get pCYCLE F.CYCLE.PDA_LO.DA_LO)) 1 0 n
    (beBytes 2 (22 * i) ++ beBytes 1 i ++ beBytes 1 (frameCount len))
    (s.ldBytes (bufAddr ((s.sel s.nid + 1) % 2) (64 * s.slotOfs s.nid + 64 * 22 * i)) (64 * frameUnits len i)) tci

/-- The release (R132): the frames of the current cycle, where it was frozen, go to the plat queue of both ring ports, while
this hub publishes (R39, R151, R159). The spec gives the
802.1Q tag of CFG.VLAN no content: a free value (assumption log 2). -/
def State.platRelease (s : State) : State :=
  if s.plat.own ≠ some (cyc32 s.cycle.cyc) ∨ s.publishes = false then s
  else
    let n := cyc32 s.cycle.cyc
    let f := frameCount (s.slotLen s.nid)
    let vlan := s.flag pCYCLE F.CYCLE.CFG.VLAN
    let tci := if vlan then some (s.freeVal 16) else none
    let s1 := if vlan then s.nextFree else s
    let s2 := (List.range f).foldl (fun st i => st.sendRing (st.platFrame n i tci)) s1
    { s2 with plat := { s2.plat with left := [(0, f), (1, f)], ownBuf := s1.sw.nextBuf } }

/-- All own frames have left on port `n`. -/
def State.ownLeft (s : State) (n : Nat) : Bool := s.plat.left.any (fun p => p.1 == n && p.2 == 0)

/-- The own parcel of cycle `c` becomes visible (R145). -/
def State.ownFlip (s : State) (c : Nat) : State := ((s.flip s.nid).set pPLAT F.PLAT.OWN_CYC.CYCLE c).event pPLAT 10

/-- The last own frame finishes on the first ring port to send all of the parcel: it becomes visible, or with VIEW = 1 is held
ready for the view flip (R145, R147), without a received frame. -/
def State.platOwnSent (s : State) (n : Nat) : State :=
  let s1 := s.stampsDue.settle n
  match s1.plat.own with
  | none => s1
  | some c =>
    if s1.ownLeft n then
      let s2 := { s1 with plat := { s1.plat with own := none, left := [] } }
      if s2.flag pPLAT F.PLAT.CFG.VIEW then s2.setRx s2.nid { cycle := c, frames := [], ready := true } else s2.ownFlip c
    else s1

/-- An own publication that has not left by the next freeze, or at a stop, is discarded (R145, R159). -/
def State.dropOwn (s : State) : State :=
  { s with
    sw := { s.sw with txq := s.sw.txq.filter (fun x => !(x.isPlat && x.ingress.isNone)) },
    plat := { s.plat with own := none, left := [] } }

/-! Reception. -/

/-- The Spanen CRC-32C of a PLAT frame, whose payload never needs padding (R29, R142). -/
def platCrcOk (f : Frame) : Bool := spanenCrcOk f (f.body.length - 20)

/-- Digest of a Spanen header. -/
def digestOf (f : Frame) : Nat := ofBE (slice f.body 8 4)

/-- Cycle of a Spanen header. -/
def cycleOf (f : Frame) : Nat := ofBE (slice f.body 4 4)

/-- The vote of a source node: the digest of its first frame of the current cycle (R149). -/
def State.noteVote (s : State) (f : Frame) : State :=
  if s.running pCYCLE && cycleOf f == cyc32 s.cycle.cyc && !s.cycle.votes.any (fun v => v.1 == srcNode f) then
    { s with cycle := { s.cycle with votes := s.cycle.votes ++ [(srcNode f, digestOf f)] } }
  else s

/-- Do bytes 12–15, the length and the header word of a frame match the slot entry of its node (R143, check 2)? -/
def State.platFormOk (s : State) (f : Frame) : Bool :=
  let len := s.slotLen (srcNode f)
  let i := hdr f 14
  let h := ofLE (slice f.body 16 8)
  decide (0 < srcNode f) && decide (0 < len) && decide (i < frameCount len) && hdr f 15 == frameCount len &&
  ofBE (slice f.body 12 2) == 22 * i && f.body.length == 64 * frameUnits len i + 20 &&
  (i != 0 || (natBit h 32 && h % 2 ^ 32 == cycleOf f))

/-- Is the cycle of a frame acceptable (R143, check 3)? The visible parcel counts only where it holds a complete cycle
(assumption log 12). -/
def State.platCycOk (s : State) (f : Frame) (t : Nat) : Bool :=
  let c := cycleOf f
  let k := srcNode f
  let n := s.cycOf t
  let r := s.rxOf k
  (c == cyc32 n || c == cyc32 (n - 1)) &&
  (!natBit (s.visHdr k) 32 || olderCyc (s.visHdr k % 2 ^ 32) c) &&
  !((r.frames != [] || r.ready) && olderCyc c r.cycle)

/-- An accepted PLAT frame is written into the working buffer of its parcel (R143, R145, R147). -/
def State.platStore (s : State) (f : Frame) : State :=
  let k := srcNode f
  let c := cycleOf f
  let len := s.slotLen k
  let i := hdr f 14
  let r := s.rxOf k
  let newer := (r.frames != [] || r.ready) && r.cycle != c
  let s1 := if newer then s.platDrop (if r.ready then F.PLAT.VIEWDROP.COUNT else F.PLAT.INCOMPLETE.COUNT) else s
  let r1 : ParcelRx := if newer || r.frames == [] then { cycle := c, frames := [], ready := false } else r
  if r1.frames.contains i then s1
  else
    let s2 := s1.stBytes (bufAddr ((s1.sel k + 1) % 2) (64 * s1.slotOfs k + 64 * 22 * i))
      (slice f.body 16 (64 * frameUnits len i))
    let fr := r1.frames ++ [i]
    if fr.length = frameCount len then
      if s2.flag pPLAT F.PLAT.CFG.VIEW then s2.setRx k { cycle := c, frames := fr, ready := true }
      else s2.flip k
    else s2.setRx k { cycle := c, frames := fr, ready := false }

/-- A PLAT frame that the switch passed on commits (R142, R143, R346). -/
def State.platRx (s : State) (n stamp : Nat) (f : Frame) : State :=
  let r := s.hsrTake n f
  if !s.isSpanen f || kindOf f != 1 || !platCrcOk f then s
  else if !r.2 then r.1
  else
    let s1 := r.1.noteVote f
    let t := if s1.stampOn n then stamp else s1.now
    if !s1.running pPLAT || (srcNode f == s1.nid && s1.publisher) then s1
    else if digestOf f != s1.get pCYCLE F.CYCLE.SCHED_DIG.DIGEST then s1.platDrop F.PLAT.DIGMIS.COUNT
    else if !s1.platFormOk f then s1.platDrop F.PLAT.FMTERR.COUNT
    else if !s1.platCycOk f t then s1.platDrop F.PLAT.LATEFRM.COUNT
    else s1.platStore f

/-! The vote. -/

/-- Votes for a digest. -/
def votesFor (l : List (Nat × Nat)) (d : Nat) : Nat := (l.filter (fun v => v.2 == d)).length

/-- The smallest number of a list. -/
def minOf : List Nat → Nat
  | [] => 0
  | [a] => a
  | a :: t => min a (minOf t)

/-- The vote at the close of the plat window (R149). A frame whose source is the hub's own node number gives no vote beside
the hub's own (DESIGN CHOICE, assumption log 94). -/
def State.vote (s : State) : State :=
  let own := s.get pCYCLE F.CYCLE.SCHED_DIG.DIGEST
  let l := (s.nid, own) :: s.cycle.votes.filter (fun v => v.1 != s.nid)
  let fors := votesFor l own
  let s1 := (s.set pCYCLE F.CYCLE.VOTE.FOR fors).set pCYCLE F.CYCLE.VOTE.AGAINST (l.length - fors)
  let maj := (l.map (·.2)).find? (fun d => decide (l.length < 2 * votesFor l d))
  let s2 := (s1.set pCYCLE F.CYCLE.MAJ_DIG.DIGEST (maj.getD 0)).setB pCYCLE F.CYCLE.STS.NOMAJ maj.isNone
  let s3 := { s2 with cycle := { s2.cycle with alone := decide (l.length = 1), major := maj } }
  match maj with
  | none => s3.event pCYCLE 10
  | some d =>
    if d = own then s3
    else
      (((s3.set pCYCLE F.CYCLE.STS.DISAGREE 1).set pCYCLE F.CYCLE.STS.PUBLISH 0).refuse pCYCLE 0x0C
        (minOf ((l.filter (fun v => v.2 == d)).map (·.1)))).event pCYCLE 9

/-- A write of 1 to CTL.REJOIN (R150). -/
def State.cycleRejoin (s : State) : State :=
  if s.cycle.alone || s.cycle.major == some (s.get pCYCLE F.CYCLE.SCHED_DIG.DIGEST) then
    (((s.set pCYCLE F.CYCLE.STS.PUBLISH 1).set pCYCLE F.CYCLE.STS.DISAGREE 0).set pCYCLE F.HDR.PSTS.REFUSED 0).event
      pCYCLE 13
  else s.refuse pCYCLE 0x0C (s.get pCYCLE F.HDR.PSTS.INDEX)

/-! Commands. -/

/-- R132: the release falls due. -/
def execPlatRelease (s : State) : Host.Outcome State Fault Refusal :=
  .next (if s.evOpen 1 then (s.evNow 1).platRelease else s)

def execPlatOwnSent (clk port : Nat) (s : State) : Host.Outcome State Fault Refusal :=
  .next (if port < 2 then (s.advance clk).platOwnSent port else s.advance clk)

def execPlatFrameRx (clk port stamp : Nat) (fr : Frame) (s : State) : Host.Outcome State Fault Refusal :=
  .next ((s.advance clk).platRx port stamp fr)

/-- R149: the close of the plat window. -/
def execPlatVote (s : State) : Host.Outcome State Fault Refusal :=
  .next (if s.evOpen 2 then (s.evNow 2).vote else s)

/-- A parcel held ready flips (R147): the own one, or one received. -/
def State.viewFlip (s : State) (k : Nat) : State :=
  let r := s.rxOf k
  if !r.ready then s else if r.frames = [] then s.ownFlip r.cycle else s.flip k

/-- R147: every parcel held ready flips. -/
def execPlatViewFlip (s : State) : Host.Outcome State Fault Refusal :=
  .next (if s.evOpen 3 && s.running pPLAT && s.flag pPLAT F.PLAT.CFG.VIEW then
    ((List.range 127).map (· + 1)).foldl State.viewFlip (s.evNow 3)
  else s)

def execPlatOutputWrite (clk addr : Nat) (data : List Byte) (src : Source) (s : State) :
    Host.Outcome State Fault Refusal :=
  .next ((s.advance clk).whenOn (fun t => t.outputWrite addr data src))

def execCycleRejoin (clk : Nat) (s : State) : Host.Outcome State Fault Refusal :=
  .next ((s.advance clk).bitWrite pCYCLE F.CYCLE.CTL.REJOIN State.cycleRejoin)

end Sys2Proof.Machine
end

