-- ==== Sys2Proof/Machine/Reference.lean ====
section
/-!
DEFINITION. The reference instants of the CAN controllers (R298) and what a Datum step does to them.
-/

namespace Sys2Proof.Machine


/-- Does the controller make reference messages due? A standby or fenced hub does not (R298, R302, R303). -/
def State.canMaster (s : State) (n : Nat) : Bool :=
  s.running (pCAN n) && s.flag (pCAN n) F.CAN.TMCFG.MASTER && !s.inShadow

/-- Reference instants before `t`. -/
def State.refBefore (s : State) (n t : Nat) : Nat :=
  (t + s.get (pCAN n) F.CAN.REF_PERIOD.PERIOD - 1 - s.get (pCAN n) F.CAN.REF_PHASE.PHASE) / s.get (pCAN n) F.CAN.REF_PERIOD.PERIOD

/-- Reference messages that were never sent count (R298). -/
def State.refMiss (s : State) (n k : Nat) : State :=
  if k = 0 then s else (s.bumpBy (pCAN n) F.CAN.REFMISS.COUNT k).event (pCAN n) 18

/-- A forward step from `a` to `b` passes over reference instants (R298): none of them is sent, and a message that
waits has met its next due instant. A backward step repeats none. -/
def State.refStep (s : State) (n a b : Nat) : State :=
  let a1 := max a (s.can n).refFrom
  let k := s.refBefore n b - s.refBefore n a1
  if b ≤ a1 ∨ k = 0 then s
  else
    let w := s.get (pCAN n) F.CAN.STS.REF_PEND
    let s1 := (s.refMiss n (k + w)).set (pCAN n) F.CAN.STS.REF_PEND 0
    s1.setCan n { s1.can n with refFrom := b }

/-- The effect of a Datum step on every reference master. -/
def State.canStep (s : State) (a b : Nat) : State :=
  (List.range 16).foldl (fun st n => if st.canMaster n then st.refStep n a b else st) s

end Sys2Proof.Machine
end

