-- ==== Sys2Proof/Machine/Datum.lean ====
section
/-!
DEFINITION. The Datum (R71–R83, R96–R98, R102–R105) and the transmit-stamp queue (R90–R92): folds, INC and STEP, the
unlock window, holdover, reference faults, PPS in and out.
-/

namespace Sys2Proof.Machine

/-- The lower word of a wide register as last written (R48). Before the first such write it holds the register's own reset
word, of which R48 says nothing (DESIGN CHOICE, assumption log 31). -/
def State.latched (s : State) (p off : Nat) : Word := tabGet regDefault s.latch (regKey p off)

/-- A word of the read shadow (R48): 0 until its register's lowest word has been read (DESIGN CHOICE, assumption log 31). -/
def shadowDefault (_ : Nat) : Word := 0
def State.shadowWord (s : State) (p off : Nat) : Word := tabGet shadowDefault s.shadow (regKey p off)
def State.setShadow (s : State) (p off : Nat) (w : Word) : State :=
  { s with shadow := tabPut shadowDefault s.shadow (regKey p off) w }

/-- A port's timers measured from the same instant in the ring time after a step of `d` hns. -/
def PortSt.shift (p : PortSt) (d : Int) : PortSt :=
  let sh := fun (t : Nat) => ((t : Int) + d).toNat
  { p with holdEnd := p.holdEnd.map sh, leaveEnd := sh p.leaveEnd, gapEnd := sh p.gapEnd, rxPauseEnd := p.rxPauseEnd.map sh,
           txPauseAt := p.txPauseAt.map sh }

/-- A fold at this instant: base_raw, base_T with the step, and INC (R73, R74). A step makes no PPS_OUT edge at the fold: the
next one is sought after the fold, or after the end of the pulse in progress, which keeps its remaining width (R98). -/
def State.makeFold (s : State) (step : Int) (inc : Nat) : State :=
  let cur := s.datum.fold
  let f : Fold := { baseRaw := s.raw, baseT := ((cur.fix s.raw : Int) + step * 2 ^ 40).toNat, inc := inc }
  let pe := s.datum.ppsEnd.map (fun t => ((t : Int) + step).toNat)
  { s with
    datum := { s.datum with
      fold := f, older := (cur :: s.datum.older).take 7, ppsEnd := pe,
      ppsFrom := if step = 0 then s.datum.ppsFrom else pe.getD (f.baseT / 2 ^ 40) + 1 },
    ports := s.ports.map (fun p => (p.1, p.2.shift step)) }

/-- Is the unlock window open (R77)? -/
def State.unlocked (s : State) : Bool :=
  match s.datum.unlock with
  | some u => decide (s.raw < u + 2000000)
  | none => false

/-- Close the unlock window. -/
def State.closeUnlock (s : State) : State := { s with datum := { s.datum with unlock := none } }

/-- The INC in force, INT and FRAC (R72). -/
def State.incNow (s : State) : Nat := s.datum.fold.inc

/-- In holdover (R79)? -/
def State.inHoldover (s : State) : Bool := s.flag pDATUM F.DATUM.STS.HOLDOVER

/-- A DATUM_HOLDOVER record (R81). -/
def State.holdRec (s : State) (entry : Bool) (cause : Nat) : State :=
  s.note 0x72 (bit entry + 2 * cause) 0 (leBytes 6 s.incNow ++ leBytes 2 0)

/-- Entry to holdover (R79). -/
def State.holdEnter (s : State) (cause : Nat) : State :=
  (((s.set pDATUM F.DATUM.STS.HOLDOVER 1).set pDATUM F.DATUM.STS.HO_CAUSE cause).event pDATUM 10).holdRec true cause

/-- Exit from holdover (R79); the record carries the cause that ends. -/
def State.holdExit (s : State) : State :=
  ((s.set pDATUM F.DATUM.STS.HOLDOVER 0).set pDATUM F.DATUM.STS.HO_CAUSE 0).holdRec false
    (s.get pDATUM F.DATUM.STS.HO_CAUSE)

/-- A write of 1 to CTL.HOLD_REQ (R79). -/
def State.holdReq (s : State) : State := if s.inHoldover then s else s.holdEnter 2

/-- A write of 1 to CTL.RESUME (R79, R80). -/
def State.resume (s : State) : State :=
  if !s.inHoldover then s
  else if s.get pDATUM F.DATUM.STS.HO_CAUSE = 3 ∧ s.flag pDATUM F.DATUM.STS.REF_FAULT then s
  else s.holdExit

/-- Is an INC value acceptable: 7.9984 to 8.0016 inclusive, outside holdover (R75)? -/
def State.incOk (s : State) (v : Nat) : Bool :=
  decide (79984 * 2 ^ 40 ≤ 10000 * v) && decide (10000 * v ≤ 80016 * 2 ^ 40) && !s.inHoldover

/-- A write of the upper INC word (R73, R75). -/
def State.incWrite (s : State) (hi : Word) : State :=
  let v := (s.latched pDATUM 0x48).toNat + 2 ^ 32 * hi.toNat
  if s.incOk (v % 2 ^ 48) then (s.makeFold 0 (v % 2 ^ 48)).set pDATUM F.DATUM.INC.all v
  else (s.bumpSat pDATUM F.DATUM.INCDROP.COUNT).event pDATUM 11

/-- Why a step is refused, where it is (R76, R102). Where several conditions of R76 fail, STEP_RSN follows their order in
R76: in holdover, over limit, T out of range (DESIGN CHOICE, assumption log 32). -/
def State.stepRefusal (s : State) (v : Int) : Option Nat :=
  if s.inHoldover && !s.unlocked then some 2
  else if decide ((s.get pDATUM F.DATUM.STEP_LIMIT.LIMIT : Int) < v.natAbs) && !s.unlocked &&
      s.flag pDATUM F.DATUM.STS.TVALID then some 1
  else if (s.datum.fold.fix s.raw : Int) + v * 2 ^ 40 < 0 ∨ 2 ^ 104 ≤ (s.datum.fold.fix s.raw : Int) + v * 2 ^ 40 then some 3
  else none

/-- An accepted step (R73, R76, R77, R79), with its effect on the cycle (R130), on reference messages (R298) and on the
rounds of misclosure, whose next start is sought from the new T (R113). -/
def State.stepAccept (s : State) (v : Int) : State :=
  let before := s.now
  let s0 := (s.makeFold v s.datum.fold.inc).closeUnlock
  let s1 := { s0 with
    datum := { s0.datum with steps := s0.datum.steps + 1, stepAt := (s0.raw :: s0.datum.stepAt).take 8 }
    mscl := { s0.mscl with next := s0.now, start := ((s0.mscl.start : Int) + v).toNat } }
  let s2 := ((s1.set pDATUM F.DATUM.STS.TVALID 1).bumpSat pDATUM F.DATUM.STEPCNT.ACCEPTED).event pDATUM 8
  let s3 := if s2.inHoldover ∧ s2.get pDATUM F.DATUM.STS.HO_CAUSE ≠ 3 then s2.holdExit else s2
  (s3.cycleStep before s3.now).canStep before s3.now

/-- A refused step (R78, R81). -/
def State.stepRefuse (s : State) (v : Nat) (rsn : Nat) (src : Source) : State :=
  let s1 := ((s.set pDATUM F.DATUM.REFSTEP.VALUE v).set pDATUM F.DATUM.STS.STEP_RSN rsn)
  let s2 := (s1.bumpSat pDATUM F.DATUM.STEPCNT.REFUSED).event pDATUM 9
  let s3 := s2.note 0x70 (rsn + 4 * bit s.inHoldover) (srcCode src) (leBytes 8 v)
  if s3.inHoldover then s3 else s3.holdEnter 1

/-- A write of the upper STEP word (R76–R79). -/
def State.stepWrite (s : State) (hi : Word) (src : Source) : State :=
  let v := (s.latched pDATUM 0x50).toNat + 2 ^ 32 * hi.toNat
  match s.stepRefusal (toSigned v 64) with
  | some rsn => s.stepRefuse v rsn src
  | none => s.stepAccept (toSigned v 64)

/-- A write to STEP_UNLOCK (R77). -/
def State.stepUnlock (s : State) (w : Word) : State :=
  { s with datum := { s.datum with unlock := if w = 0xD47A0001 then some s.raw else none } }

/-- A reference fault (R79, R80). -/
def State.refFault (s : State) : State :=
  if s.flag pDATUM F.DATUM.STS.REF_FAULT then s
  else
    let s1 := (s.set pDATUM F.DATUM.STS.REF_FAULT 1).event pDATUM 12
    if s1.inHoldover && s1.get pDATUM F.DATUM.STS.HO_CAUSE == 3 then s1 else s1.closeUnlock.holdEnter 3

/-! PPS. -/

/-- An edge of PPS_IN (R96). -/
def State.ppsIn (s : State) (rising : Bool) : State :=
  if s.running pDATUM && s.flag pDATUM F.DATUM.PPSCTL.IN_EN && (s.flag pDATUM F.DATUM.PPSCTL.IN_POL != rising) then
    ((s.set pDATUM F.DATUM.PPS_IN.T s.now).bump pDATUM F.DATUM.PPS_INCNT.COUNT).event pDATUM 13
  else s

/-- May PPS_OUT start a pulse (R97)? -/
def State.ppsReady (s : State) : Bool :=
  s.running pDATUM && s.flag pDATUM F.DATUM.PPSCTL.OUT_EN && s.datum.ppsEnd.isNone &&
    (!s.flag pDATUM F.DATUM.PPSCTL.OUT_TVALID || s.flag pDATUM F.DATUM.STS.TVALID)

/-- The first ring time at or after `t` that is congruent to `ph` modulo `per`. -/
def nextCongruent (t ph per : Nat) : Nat := t + (ph + per - t % per) % per

/-- PPS_OUT becomes active (R97, R98). -/
def State.ppsStart (s : State) : State :=
  if s.ppsReady then
    let t := nextCongruent (max s.datum.ppsFrom s.now) (s.get pDATUM F.DATUM.PPS_PHASE.PHASE)
      (s.get pDATUM F.DATUM.PPS_PERIOD.PERIOD)
    let s1 := s.advanceT t
    { s1 with datum := { s1.datum with ppsEnd := some (t + s.get pDATUM F.DATUM.PPS_WIDTH.WIDTH), ppsFrom := t + 1 } }
  else s

/-- PPS_OUT becomes inactive (R97). -/
def State.ppsStop (s : State) : State :=
  match s.datum.ppsEnd with
  | none => s
  | some t => let s1 := s.advanceT t; { s1 with datum := { s1.datum with ppsEnd := none } }

/-- The level at PPS_OUT (R97). -/
def State.ppsLevel (s : State) : Bool :=
  (s.running pDATUM && s.flag pDATUM F.DATUM.PPSCTL.OUT_EN && s.datum.ppsEnd.isSome) !=
    s.flag pDATUM F.DATUM.PPSCTL.OUT_POL

/-! Page operations of DATUM and STAMP (R84, R104, R105, R108). -/

/-- Accepted enable of DATUM: the tap trims are loaded. -/
def State.datumOn (s : State) : State :=
  let s1 := (List.range 40).foldl (fun st n => st.set pSTAMP (F.STAMP.TAP.SKEW.at (4 * n)) (calNum st.enCal.1 (0x10 + n) 1)) s
  { s1 with datum := { s1.datum with ppsFrom := s1.now } }

/-- Stop of DATUM: PPS_OUT is inactive. -/
def State.datumOff (s : State) : State := { s with datum := { s.datum with ppsEnd := none } }

/-- CLR of DATUM (R105): a fold with INC 8.0 at the current T, holdover left, the unlock window closed. `o` is the state
before the reset of the registers; a hub that was in holdover writes the record of its exit (R79). -/
def State.datumClr (s o : State) : State :=
  let s1 := (s.makeFold 0 (8 * 2 ^ 40)).closeUnlock.datumOff
  if o.inHoldover then s1.holdRec false (o.get pDATUM F.DATUM.STS.HO_CAUSE) else s1

/-! The transmit-stamp queue. -/

/-- The upper words of a TXQ entry (R106). -/
def txqUpper (e : TxStamp) : Nat := e.stamp / 2 ^ 32 % 2 ^ 32 + 2 ^ 32 * (e.tag % 2 ^ 16) + 2 ^ 48 * (e.port % 32) + 2 ^ 63

/-- The stamp that the full queue discarded in this cycle is kept after all, once the head has been popped (R91). -/
def State.txqKeep (s : State) : State :=
  match s.sets.stamp with
  | none => s
  | some e =>
    if s.sets.clk = s.clock then
      let s1 := { s with stamps := s.stamps ++ [e.1], sets := { s.sets with stamp := none } }
      (s1.set pSTAMP F.STAMP.TXQOVF.COUNT (s1.get pSTAMP F.STAMP.TXQOVF.COUNT + 2 ^ 32 - 1)).setB pSTAMP ⟨0x0C, 9, 1⟩ e.2
    else s

/-- A read of STAMP.TXQ pops the head (R92). -/
def State.txqPop (s : State) : State :=
  match s.stamps with
  | [] => { ((s.setShadow pSTAMP 0x48 0).setShadow pSTAMP 0x4C 0) with result := some 0 }
  | e :: t =>
    State.txqKeep { ((s.setShadow pSTAMP 0x48 (w32 (txqUpper e))).setShadow pSTAMP 0x4C (w32 (txqUpper e / 2 ^ 32))) with
      stamps := t, result := some (w32 e.stamp) }

/-! Commands. -/

/-- R75, R82: the write of one source, in the order in which the register decoder grants them. -/
def execDatumIncWrite (clk : Nat) (hi : TimeWrite) (s : State) : Host.Outcome State Fault Refusal :=
  .next ((s.advance clk).regWrite pDATUM 0x4C (2 ^ 32 - 1) hi.word.toNat hi.src (fun t => t.incWrite hi.word))

def execDatumStepWrite (clk : Nat) (hi : Word) (src : Source) (s : State) : Host.Outcome State Fault Refusal :=
  .next ((s.advance clk).regWrite pDATUM 0x54 (2 ^ 32 - 1) hi.toNat src (fun t => t.stepWrite hi src))

def execDatumStepUnlock (clk : Nat) (w : TimeWrite) (s : State) : Host.Outcome State Fault Refusal :=
  .next ((s.advance clk).regWrite pDATUM 0x5C (2 ^ 32 - 1) w.word.toNat w.src (fun t => t.stepUnlock w.word))

/-- R77: the window closes at u + 2,000,000 RAW hns. -/
def execUnlockWindowExpire (s : State) : Host.Outcome State Fault Refusal :=
  .next (match s.datum.unlock with
    | some u => (s.advance (s.datum.rawOrg + u + 2000000)).closeUnlock
    | none => s)

def execDatumHoldReq (clk : Nat) (s : State) : Host.Outcome State Fault Refusal :=
  .next ((s.advance clk).bitWrite pDATUM F.DATUM.CTL.HOLD_REQ State.holdReq)

def execDatumResume (clk : Nat) (s : State) : Host.Outcome State Fault Refusal :=
  .next ((s.advance clk).bitWrite pDATUM F.DATUM.CTL.RESUME State.resume)

def execRefFaultDetect (clk : Nat) (s : State) : Host.Outcome State Fault Refusal := .next ((s.advance clk).whenOn State.refFault)

/-- R80: lock has held for 10 ms. -/
def execRefFaultClear (clk : Nat) (s : State) : Host.Outcome State Fault Refusal :=
  .next ((s.advance clk).whenOn (fun t => t.set pDATUM F.DATUM.STS.REF_FAULT 0))

def execTxqPop (clk : Nat) (s : State) : Host.Outcome State Fault Refusal := .next ((s.advance clk).whenOn State.txqPop)

/-- R92: the queue is emptied. -/
def execTxqFlush (clk : Nat) (s : State) : Host.Outcome State Fault Refusal :=
  .next ((s.advance clk).bitWrite pSTAMP F.STAMP.TXQCTL.FLUSH (fun t => { t with stamps := [] }))

def execPpsInEdge (clk : Nat) (rising : Bool) (s : State) : Host.Outcome State Fault Refusal :=
  .next ((s.advance clk).ppsIn rising)

def execPpsOutStart (s : State) : Host.Outcome State Fault Refusal := .next s.ppsStart

def execPpsOutEnd (s : State) : Host.Outcome State Fault Refusal := .next s.ppsStop

end Sys2Proof.Machine
end

