-- ==== Sys2Proof/Machine/Edge.lean ====
section
/-!
DEFINITION. Edge capture (R248–R257, R259, R271–R274): the filter chain of each pin and the records it writes.
-/

namespace Sys2Proof.Machine

/-- Chain state of a pin. -/
def edgeDefault (_ : Nat) : EdgeSt := EdgeSt.init
def State.edge (s : State) (p : Nat) : EdgeSt := tabGet edgeDefault s.edges p
def State.setEdge (s : State) (p : Nat) (v : EdgeSt) : State := { s with edges := tabPut edgeDefault s.edges p v }

/-- The EDGE page of a pin, a field of its PINi, and a field of its profile (R271). -/
def edgePage (p : Nat) : Nat := pEDGE (p / 64)
def State.pinCfg (s : State) (p : Nat) (f : Fld) : Nat := s.get (edgePage p) (f.at (4 * (p % 64)))
def State.prof (s : State) (p : Nat) (f : Fld) : Nat := s.get (edgePage p) (f.at (0x10 * s.pinCfg p F.EDGE.PIN.PROFILE))

/-- Does the pin's filter chain run (R248)? A write of EN = 0 ends it (R274). -/
def State.chainOn (s : State) (p : Nat) : Bool :=
  s.running (edgePage p) && s.flag (edgePage p) F.HDR.PCTL.EN && s.pinCfg p F.EDGE.PIN.EN == 1

/-- GLITCH, DEBOUNCE, W', Q' in hns and S in hns (R251–R256). -/
def State.glitchW (s : State) (p : Nat) : Nat := s.prof p F.EDGE.FILT.GLITCH
def State.debW (s : State) (p : Nat) : Nat := 2000 * s.prof p F.EDGE.FILT.DEBOUNCE
def State.chatW (s : State) (p : Nat) : Nat := 2000 * s.prof p F.EDGE.CHAT.W
def State.quietW (s : State) (p : Nat) : Nat := 2000 * s.prof p F.EDGE.QUIET.Q
def State.stuckW (s : State) (p : Nat) : Nat := 2000000 * s.prof p F.EDGE.STUCK.TIME

/-- The bit of a pin in a map of two registers. -/
def pinMap (f : Fld) (p : Nat) : Fld := ⟨f.off + 4 * (p % 64 / 32), p % 32, 1⟩

/-- A record of a pin (R259). -/
def State.pinRec (s : State) (p kind flags t : Nat) (data : List Byte) : State :=
  s.stage (.island (p / 16)) { t := t, kind := kind, flags := flags, source := p, data := data }

/-- L of a pin changes, or not. -/
def State.putL (s : State) (p : Nat) (l : Bool) : State := s.setB (edgePage p) (pinMap F.EDGE.FLVL.MAP p) l

/-- Is the direction selected by EDGES (R271)? -/
def State.selected (s : State) (p : Nat) (rise : Bool) : Bool := natBit (s.pinCfg p F.EDGE.PIN.EDGES) (if rise then 0 else 1)

/-- hns since the pin's previous accepted edge, or since the enable (R259). -/
def sinceAcc (e : EdgeSt) (t : Nat) : Nat := min (t - (e.acc.head?.getD e.enT)) (2 ^ 32 - 1)

/-- The record of an edge or of a merged event (R253, R259). -/
def State.edgeRec (s : State) (p t : Nat) (level : Bool) (c absorbed : Nat) (before : Bool) (e : EdgeSt) : State :=
  let prof := s.pinCfg p F.EDGE.PIN.PROFILE
  if c ≤ 1 then
    s.pinRec p (if level then 1 else 2) (bit level) t
      (leBytes 4 (sinceAcc e t) ++ leBytes 2 (min absorbed 0xFFFF) ++ leBytes 1 prof ++ leBytes 1 0)
  else
    ((s.bump (edgePage p) F.EDGE.MERGES.COUNT).pinRec p 3 (bit level) t
      (leBytes 4 (sinceAcc e t) ++ leBytes 1 c ++ leBytes 1 (bit before) ++ leBytes 1 prof ++ leBytes 1 0))

/-- Is L at a level that STUCK_LVL selects (R256)? -/
def State.stuckLvl (s : State) (p : Nat) (l : Bool) : Bool := natBit (s.pinCfg p F.EDGE.PIN.STUCK_LVL) (bit l)

/-- A STUCK record (R256, R259). -/
def State.stuckRec (s : State) (p t : Nat) : State :=
  let e := s.edge p
  (((s.pinRec p 6 (bit e.l) t (leBytes 8 e.change)).setEdge p { e with stuck := true, stuckWait := false }).event (edgePage p)
    10).set (edgePage p) (pinMap F.EDGE.STUCKMAP.MAP p) 1

/-- The records of even merged events that waited for a window (R250, R262). -/
def State.mergedOut (s : State) (p : Nat) (l : List PinEv) : State :=
  l.foldl (fun st x => st.edgeRec p x.t x.after x.c 0 x.before (st.edge p)) s

/-- No event waits for a window any more: what waited for it is recorded in order of T (R256, R262). -/
def State.settled (s : State) (p : Nat) : State :=
  let e := s.edge p
  if e.held.isSome || e.win.isSome || e.lock.isSome then s
  else
    let due := e.change + s.stuckW p
    let first := fun x : PinEv => !e.stuckWait || decide (x.t < due)
    let s1 := (s.setEdge p { e with merged := [] }).mergedOut p (e.merged.filter first)
    (if e.stuckWait then s1.stuckRec p due else s1).mergedOut p (e.merged.filter (fun x => !first x))

/-- The lock opens on edge k (R254) at the moment `m`: its record, and the transitions of its own tick but the first count in
window 0; the events later than t_k are taken again, in the lock, and the even merged events among them that R250 records without
a window are recorded (R250). -/
def State.openLock (s : State) (p t c m : Nat) (level : Bool) (e : EdgeSt) : State :=
  let n := s.prof p F.EDGE.CHAT.N
  let later := e.seen.filter (fun x => decide (t < x.t))
  let lk : ChatLock := { tk := t, j := 0, cnt := c - 1, total := 0, tLast := t, level := level, stuckDue := false }
  let s0 := s.pinRec p 4 (bit level) t (data2 (n + 1) (s.prof p F.EDGE.CHAT.W))
  let s1 := (if 1 < c then s0.bump (edgePage p) F.EDGE.MERGES.COUNT else s0).mergedOut p e.merged
  let s2 := (s1.event (edgePage p) 8).set (edgePage p) (pinMap F.EDGE.CHATTER.MAP p) 1
  s2.setEdge p { e with
    held := none, win := none, seen := [], merged := [], todo := later ++ e.todo, lock := some lk, feed := e.feed.note m (s.ball p) }

/-- The stuck time that an unsettled chain has kept open ran out before an edge stamped `t`: its record comes first (R256). -/
def State.stuckBefore (s : State) (p t : Nat) : State :=
  let e := s.edge p
  if e.stuckWait && decide (e.change + s.stuckW p < t) then s.stuckRec p (e.change + s.stuckW p) else s

/-- An edge is accepted at the moment `m` (R252–R254, R256). -/
def State.accept (s0 : State) (p t c absorbed m : Nat) (level : Bool) : State :=
  let s := s0.stuckBefore p t
  let e := s.edge p
  let n := s.prof p F.EDGE.CHAT.N
  let chat := decide (0 < n) && (match e.acc[n - 1]? with | some t0 => decide (t < t0 + s.chatW p) | none => false)
  let e1 := { e with l := level, change := t, stuck := false, stuckWait := false, feed := e.feed.note m level, win := none,
                     acc := (t :: e.acc).take 256,
                     seen := if chat then e.seen else e.seen.filter (fun x => e.held.isSome && decide (t < x.t)) }
  let s1 := (s.putL p level).set (edgePage p) (pinMap F.EDGE.STUCKMAP.MAP p) 0
  if chat then s1.openLock p t c m level e1
  else
    let s2 := s1.setEdge p e1
    (if s2.selected p level then s2.edgeRec p t level c absorbed e.l e else s2).settled p

/-- An event passes the glitch filter at the moment `m` (R252). -/
def State.passEvent (s : State) (p t c m : Nat) (level : Bool) : State :=
  let e := s.edge p
  if s.debW p = 0 then s.accept p t c 0 m level
  else match e.win with
    | none => s.setEdge p { e with win := some { t := t, c := c, absorbed := 0, level := level } }
    | some w => s.setEdge p { e with win := some { w with absorbed := w.absorbed + c, level := level } }

/-- An event that leaves the current level reaches the glitch filter (R251). The window of a held event that ends by the stamp of
this one has ended before. -/
def State.glitchIn (s : State) (p t c : Nat) (level : Bool) : State :=
  let e := s.edge p
  if s.glitchW p = 0 then s.passEvent p t c t level
  else match e.held with
    | none => s.setEdge p { e with held := some (t, level, c) }
    | some _ => ((s.setEdge p { e with held := none }).bump (edgePage p) F.EDGE.GLITCHES.COUNT).settled p

/-- Transitions are counted in a lock (R254, R255). -/
def State.lockCount (s : State) (p : Nat) (x : PinEv) (lk : ChatLock) : State :=
  s.setEdge p { s.edge p with
    feed := (s.edge p).feed.note x.t x.after, lock := some { lk with cnt := lk.cnt + x.c, tLast := x.t, level := x.after } }

/-- An event of the detector is taken by the chain (R250, R254). -/
def State.takeEvent (s : State) (p : Nat) (x : PinEv) : State :=
  let e := s.edge p
  match e.lock with
  | some lk => s.lockCount p x lk
  | none =>
    let s1 := s.setEdge p { e with seen := e.seen ++ [x] }
    if x.c % 2 = 1 then s1.glitchIn p x.t x.c x.after
    else if 0 < s1.glitchW p then s1.bump (edgePage p) F.EDGE.GLITCHES.COUNT
    else if !s1.selected p (!x.before) then s1
    else if e.win.isSome then s1.setEdge p { s1.edge p with merged := e.merged ++ [x] }
    else s1.mergedOut p [x]

/-- What falls due next in a chain, with its ring time (R251, R252, R255): the held event passes, the debounce window closes, a
lock window closes, the lock ends. At one moment a held event passes before a window closes, since its stamp lies before the
close; where the quiet time ends with a lock window, only the end is written. -/
inductive ChainDue where
  | pass (t : Nat)
  | close (t : Nat)
  | window (t : Nat)
  | quiet (t : Nat)
deriving DecidableEq, Repr

def ChainDue.due : ChainDue → Nat
  | .pass t => t
  | .close t => t
  | .window t => t
  | .quiet t => t

def State.nextDue (s : State) (p : Nat) : Option ChainDue :=
  let e := s.edge p
  match e.lock with
  | some lk =>
    let q := lk.tLast + s.quietW p
    let w := lk.tk + (lk.j + 1) * s.chatW p
    some (if q ≤ w then .quiet q else .window w)
  | none =>
    match e.held, e.win with
    | some h, some w =>
      let a := h.1 + s.glitchW p
      let b := w.t + s.debW p
      some (if a ≤ b then .pass a else .close b)
    | some h, none => some (.pass (h.1 + s.glitchW p))
    | none, some w => some (.close (w.t + s.debW p))
    | none, none => none

/-- A held event's glitch window closes (R251). -/
def State.glitchExpire (s : State) (p t : Nat) : State :=
  match (s.edge p).held with
  | none => s
  | some h => (s.setEdge p { s.edge p with held := none }).passEvent p h.1 h.2.2 t h.2.1

/-- A debounce window closes (R252). -/
def State.debClose (s : State) (p t : Nat) : State :=
  match (s.edge p).win with
  | none => s
  | some w =>
    if w.level != (s.edge p).l then s.accept p w.t w.c w.absorbed t w.level
    else ((s.setEdge p { s.edge p with win := none }).bump (edgePage p) F.EDGE.BOUNCES.COUNT).settled p

/-- A lock window closes (R255). -/
def State.chatClose (s : State) (p t : Nat) : State :=
  match (s.edge p).lock with
  | none => s
  | some lk =>
    let s1 := s.pinRec p 4 (bit lk.level + 8) t (data2 lk.cnt (s.prof p F.EDGE.CHAT.W))
    s1.setEdge p { s1.edge p with lock := some { lk with j := lk.j + 1, cnt := 0, total := lk.total + lk.cnt } }

/-- No transition for Q' ends the lock (R255, R256). -/
def State.chatEnd (s : State) (p t : Nat) : State :=
  match (s.edge p).lock with
  | none => s
  | some lk =>
    let e := s.edge p
    let tot := min (lk.total + lk.cnt) (2 ^ 32 - 1)
    let s2 := (s.pinRec p 5 (bit lk.level) t (data2 lk.cnt tot)).event (edgePage p) 9
    let s3 := (s2.set (edgePage p) (pinMap F.EDGE.CHATTER.MAP p) 0).putL p lk.level
    if lk.level != e.l then
      (s3.setEdge p { e with l := lk.level, change := t, stuck := false, lock := none }).set (edgePage p)
        (pinMap F.EDGE.STUCKMAP.MAP p) 0
    else
      let s4 := s3.setEdge p { e with lock := none }
      if lk.stuckDue && !e.stuck && s4.stuckLvl p e.l then s4.stuckRec p t else s4

/-- What falls due happens, at its moment. -/
def State.chainDo (s : State) (p : Nat) (d : ChainDue) : State :=
  let s1 := s.advanceT d.due
  match d with
  | .pass t => s1.glitchExpire p t
  | .close t => s1.debClose p t
  | .window t => s1.chatClose p t
  | .quiet t => s1.chatEnd p t

/-- The chain goes on in order of stamps (R6, R26): what falls due by the stamp of an event comes before the event, and what falls
due by `lim` happens. -/
def State.chainRun (p lim : Nat) : Nat → State → State
  | 0, s => s
  | fuel + 1, s =>
    let dueBy := fun t => match s.nextDue p with | some d => if d.due ≤ t then some d else none | none => none
    match (s.edge p).todo with
    | x :: rest =>
      match dueBy x.t with
      | some d => State.chainRun p lim fuel (s.chainDo p d)
      | none => State.chainRun p lim fuel ((s.setEdge p { s.edge p with todo := rest }).takeEvent p x)
    | [] =>
      match dueBy lim with
      | some d => State.chainRun p lim fuel (s.chainDo p d)
      | none => s

/-- More rounds than a chain can need up to `lim`: each event, and each moment of a window. -/
def State.chainFuel (s : State) (p lim : Nat) : Nat :=
  let e := s.edge p
  let start := match e.lock with | some lk => lk.tk | none => match e.win with | some w => w.t | none => lim
  3 * (e.todo.length + e.seen.length + 4) + (lim - start) / s.chatW p

/-- A pin with nothing pending forgets the transitions it has seen. -/
def State.chainTidy (s : State) (p : Nat) : State :=
  let e := s.edge p
  if e.held.isNone && e.win.isNone && e.lock.isNone && e.seen != [] then s.setEdge p { e with seen := [] } else s

/-- The chain of a pin up to a moment. -/
def State.chainTo (s : State) (p lim : Nat) : State := (s.chainRun p lim (s.chainFuel p lim)).chainTidy p

/-- An event reaches the filter chain (R249, R250). -/
def State.chainIn (s : State) (p : Nat) (x : PinEv) : State :=
  (s.setEdge p { s.edge p with todo := (s.edge p).todo ++ [x] }).chainTo p x.t

/-- The edge detector sees an event at RAW `r` (R242, R248). -/
def State.edgeSeen (s : State) (p r : Nat) (x : PinEv) : State :=
  let s1 := s.detect p r x
  if s1.chainOn p then s1.chainIn p x else s1

/-- A pin transition that the detector sees (R248, R249, R557): `c` transitions in a tick, the first now, and the level at the end
of the tick. Where the hub drives the pin at another level, another driver opposes it and the level at the ball is not defined;
else the outside holds the net at that level, or follows what the hub drives. -/
def State.pinTransition (s : State) (p c : Nat) (level : Bool) : State :=
  if c = 0 then s
  else
    let v := s.pin p
    let ext := if s.sendingPin p then none else match s.driven p with
      | some d => if level = d then none else some level
      | none => some level
    let clash := (s.driven p).isSome && ext.isSome
    let s1 := s.setPin p { v with
      ext := ext, hist := trimHist s.histCut (putHist s.raw (if clash then none else some level) v.hist) }
    s1.edgeSeen p s.raw { t := s.now, c := c, before := if c % 2 = 1 then !level else level, after := level }

/-- The stuck time of L has passed (R256). An edge stamped by then that the glitch filter or the debounce still holds is taken
first. -/
def State.stuckExpire (s : State) (p : Nat) : State :=
  let e := s.edge p
  if s.stuckW p = 0 ∨ e.stuck ∨ e.stuckWait ∨ !s.stuckLvl p e.l then s
  else
    let t := e.change + s.stuckW p
    let s1 := s.advanceT t
    let held := match e.held with | some h => decide (h.1 ≤ t) | none => false
    let win := match e.win with | some w => decide (w.t ≤ t) | none => false
    match e.lock with
    | some lk => s1.setEdge p { e with lock := some { lk with stuckDue := true } }
    | none => if held || win then s1.setEdge p { e with stuckWait := true } else s1.stuckRec p t

/-! Page operations of EDGE (R274). -/

/-- Accepted enable: L of each enabled pin is its level now. -/
def State.edgeOn (s : State) (q : Nat) : State :=
  (List.range 64).foldl (fun st i =>
    let p := 64 * q + i
    if st.pinCfg p F.EDGE.PIN.EN == 1 then
      let l := st.ball p
      let e : EdgeSt := { EdgeSt.init with l := l, change := st.now, enT := st.now, feed := FeedBit.init l }
      (st.setEdge p e).putL p l
    else st) s

/-- EN = 0: windows and locks end without records, and the maps clear. -/
def State.edgeOff (s : State) (q : Nat) : State :=
  let s1 := (List.range 64).foldl (fun st i => st.setEdge (64 * q + i) EdgeSt.init) s
  [0xD0, 0xD4, 0xD8, 0xDC, 0xE0, 0xE4].foldl (fun st o => st.wr (pEDGE q) o 0) s1

/-! The EDGE feed (R137, R257). -/

/-- Level and change bit of a pin at a freeze at `tf`. Where the level at the ball is not defined, what the feed sees is free
(R557). -/
def State.edgeFeed (s : State) (p tf : Nat) : Bool × Bool :=
  if s.chainOn p then (s.edge p).feed.show tf
  else if s.islandOn (p / 16) then
    let x := (s.pin p).det.show tf
    if (s.pin p).level.isSome then x else (Config.pinSeen 3 p tf, x.2 || Config.pinSeen 4 p tf)
  else (false, false)

/-- The change bits start again after a freeze at `tf`. -/
def State.edgeTaken (s : State) (p tf : Nat) : State :=
  let f := (s.edge p).feed.taken tf
  let d := (s.pin p).det.taken tf
  let s1 := if f = (s.edge p).feed then s else s.setEdge p { s.edge p with feed := f }
  if d = (s.pin p).det then s1 else s1.setPin p { s1.pin p with det := d }

/-! Commands. What falls due in a chain happens in order up to the moment of the command's window. -/

/-- The chain of a pin up to the moment that falls due next, where `want` names it. -/
def State.chainDueCmd (s : State) (p : Nat) (want : EdgeSt → Option Nat) : State :=
  match want (s.edge p) with
  | some t => if s.chainOn p then s.chainTo p t else s
  | none => s

def execPinTransition (clk pin : Nat) (tr : PinTick) (s : State) : Host.Outcome State Fault Refusal :=
  let s1 := s.advance clk
  .next (if 256 ≤ pin then s1
    else if s1.coreOn then s1.pinTransition pin tr.count tr.level
    else if tr.count = 0 then s1 else s1.setPin pin { s1.pin pin with ext := some tr.level })

def execGlitchWindowExpire (pin : Nat) (s : State) : Host.Outcome State Fault Refusal :=
  .next (s.chainDueCmd pin (fun e => e.held.map (fun h => h.1 + s.glitchW pin)))

def execDebounceWindowClose (pin : Nat) (s : State) : Host.Outcome State Fault Refusal :=
  .next (s.chainDueCmd pin (fun e => e.win.map (fun w => w.t + s.debW pin)))

def execChatterWindowClose (pin : Nat) (s : State) : Host.Outcome State Fault Refusal :=
  .next (s.chainDueCmd pin (fun e => e.lock.map (fun lk => lk.tk + (lk.j + 1) * s.chatW pin)))

def execChatterQuietEnd (pin : Nat) (s : State) : Host.Outcome State Fault Refusal :=
  .next (s.chainDueCmd pin (fun e => e.lock.map (fun lk => lk.tLast + s.quietW pin)))

def execStuckTimerExpire (pin : Nat) (s : State) : Host.Outcome State Fault Refusal :=
  .next (if s.chainOn pin then s.stuckExpire pin else s)

end Sys2Proof.Machine
end

