-- ==== Sys2Proof/Machine/Drive.lean ====
section
/-!
DEFINITION. What the hub drives reaches the balls (R190–R192, R200, R222–R225, R557): every input path of a pin sees the
level at the ball, so a change of what the hub drives is a transition as any other.
-/

namespace Sys2Proof.Machine

/-- The level at a ball follows what is driven on its net, from ring time `t` on: a change is seen by the detector. As the hub
begins to drive, the level follows the hub until PIN_TRANSITION tells that another driver opposes it. -/
def State.ballTo (s : State) (p t : Nat) : State :=
  let v := s.pin p
  let d := (s.driven p).isSome
  let s1 := if d = v.drv then s
    else s.setPin p { v with drv := d, ext := if d then none else v.ext }
  let l := s1.netLevel p
  if l = v.level then s1
  else
    let r := if t = s.now then s.raw else s.rawOf t
    let before := s1.ball p
    let after := l.getD (if s1.sendingPin p then before else Config.pinSeen 1 p r)
    let s2 := s1.setPin p { s1.pin p with hist := trimHist s.histCut (putHist r l v.hist) }
    if before = after then (if v.hist = [] then s2.setPin p { s2.pin p with det := v.det.follow after } else s2)
    else s2.edgeSeen p r { t := t, c := 1, before := before, after := after }

/-- Several pins follow now. -/
def State.ballsNow (s : State) (ps : List Nat) : State := ps.foldl (fun st p => st.ballTo p st.now) s

/-- Every pin follows where the hub has entered or left shadow since `s0` (R192). -/
def State.shadowSync (s s0 : State) : State := if s.inShadow = s0.inShadow then s else s.ballsNow (List.range 256)

/-- A latch changes at ring time `t`, and the pin with it. -/
def State.drivePin (s : State) (p : Nat) (lvl oe : Bool) (t : Nat) : State := (s.latchPin p lvl oe t).ballTo p t

/-- Return pins to high impedance (R191); no engine's claim drives them any more. -/
def State.releasePins (s : State) (ps : List Nat) : State :=
  ps.foldl (fun st p =>
    let t := st.drivePin p false false st.now
    t.setPin p { t.pin p with owner := none }) s

/-- The transmit pin of a controller follows its state (R280). -/
def State.canPin (s : State) (n : Nat) : State :=
  match s.pinOf 3 n with
  | some p => s.ballTo p s.now
  | none => s

/-! Software-level pins and VDDIO banks. -/

/-- A write to SWDATA or SWOE (R223): the level reaches the pin 30 hns after the decode. -/
def State.swWrite (s : State) (q off : Nat) (v : Word) : State :=
  let s1 := s.wr (pPINMUX q) off v
  let w := (off % 8) / 4
  (List.range 32).foldl (fun st i =>
    let p := 64 * q + 32 * w + i
    if st.funcOf p == 5 then (st.setPin p { st.pin p with outT := st.now + 30 }).ballTo p (st.now + 30) else st) s1

/-- A write to PINi has been stored (R222): pull and keeper are in force from the register. -/
def State.pinCfgWrite (s : State) (q off : Nat) : State := s.ballsNow [64 * q + (off - 0x100) / 4]

/-- A VDDIO bank enters or leaves its range (R222, R542): PRESENT and SENSE; its pins are at high impedance until
their function drives them again. -/
def State.vddio (s0 : State) (bank : Nat) (present sense : Bool) : State :=
  let p := pPINMUX (bank / 2)
  let ps := (List.range 32).map (fun i => 32 * bank + i)
  let s := ps.foldl (fun st x => st.latchPin x false false st.now) s0
  State.ballsNow ((s.setB p ⟨F.PINMUX.VDDSTS.PRESENT.off, 2 + bank % 2, 1⟩ present).setB p
    ⟨F.PINMUX.VDDSTS.SENSE.off, bank % 2, 1⟩ (present && sense)) ps

def execPinmuxSwdataWrite (clk q off : Nat) (data : Word) (s : State) : Host.Outcome State Fault Refusal :=
  .next (if decide (q < 4) && (off == 0x48 || off == 0x4C || off == 0x50 || off == 0x54) then
    (s.advance clk).regWrite (pPINMUX q) off (2 ^ 32 - 1) data.toNat .host (fun t => t.swWrite q off data)
  else s.advance clk)

def execVddioBankChange (clk bank : Nat) (present sense : Bool) (s : State) : Host.Outcome State Fault Refusal :=
  .next (if bank < 8 then (s.advance clk).vddio bank present sense else s.advance clk)

end Sys2Proof.Machine
end

