-- ==== Sys2Proof/Machine/Can.lean ====
section
/-!
DEFINITION. CAN FD controllers (R279–R307).
-/

namespace Sys2Proof.Machine

/-! Identifiers, buffers, lengths. -/

/-- Arbitration key of an identifier word (R286). -/
def canKey (w : Nat) : Nat :=
  natField w 18 11 * 2 ^ 31 + natField w 31 1 * 2 ^ 30 +
    (if natBit w 31 then natField w 0 18 else 0) * 2 ^ 12 + natField w 30 1 * 2 ^ 11

/-- Data bytes of a data length code (R284). -/
def dlcLen (fd : Bool) (dlc : Nat) : Nat :=
  if dlc ≤ 8 then dlc else if !fd then 8 else [12, 16, 20, 24, 32, 48, 64].getD (dlc - 9) 64

/-- Fields of buffer `b` (R304). -/
def txb (f : Fld) (b : Nat) : Fld := f.at (0x80 * b)
def State.txbId (s : State) (n b : Nat) : Nat := s.get (pCAN n) (txb F.CAN.TXB_ID.ID b)

/-- Does the controller work in bus monitoring mode (R279, R302)? A hub that faulted monitors too (R408). -/
def State.canMonitor (s : State) (n : Nat) : Bool :=
  s.flag (pCAN n) F.CAN.CFG.MONITOR || s.inShadow || (s.dupState == some 5 && s.dup.frozen)

/-- Error-active or error-passive (R290): the controller is synchronised and not bus-off. -/
def State.canLive (s : State) (n : Nat) : Bool :=
  decide (n < 16) && s.running (pCAN n) && decide (s.get (pCAN n) F.CAN.STS.STATE ≤ 1)

/-- What a controller did in this CLK_FB cycle (assumption log 39), and a note of it. -/
def State.canCyc (s : State) (n : Nat) : CanCycle :=
  let c := (s.can n).cyc
  if c.clk = s.clock then c else { clk := s.clock, abort := 0, req := 0, fresh := 0, drop := none, wrote := [] }
def State.setCyc (s : State) (n : Nat) (c : CanCycle) : State := s.setCan n { s.can n with cyc := c }

/-- Requests of the buffers; the pending buffers are those requested. -/
def State.canReq (s : State) (n : Nat) : Nat := s.get (pCAN n) F.CAN.TXREQ.REQ
def State.setReq (s : State) (n m : Nat) : State :=
  (s.set (pCAN n) F.CAN.TXREQ.REQ m).set (pCAN n) F.CAN.STS.PENDING m

/-- A request ends with an outcome (R287). -/
def State.canOutcome (s : State) (n b o : Nat) : State :=
  let s1 := s.setReq n (natPut (s.canReq n) b 1 0)
  (s1.set (pCAN n) (F.CAN.TXSTS.OUTCOME.up (8 * b)) o).event (pCAN n) (if o = 1 then 10 else 11)

/-- Is the content of buffer `b` malformed (R285)? -/
def State.canMalformed (s : State) (n b : Nat) : Bool :=
  let id := s.txbId n b
  let ctl := (s.rd (pCAN n) (0x304 + 0x80 * b)).toNat
  natField ctl 12 20 != 0 || natField ctl 5 3 != 0 || (natBit id 30 && natBit id 29) ||
    (natBit id 29 && !s.flag (pCAN n) F.CAN.CFG.FD_EN) || (natBit ctl 4 && !natBit id 29)

/-- One bit of a write to TXREQ (R285, R290). With a write of TXABORT in the same cycle the request is set and then aborted
(R289). -/
def State.canRequest (s0 : State) (n b : Nat) : State :=
  let s := s0.setCyc n { s0.canCyc n with req := natPut (s0.canCyc n).req b 1 1 }
  if natBit (s.canReq n) b then s
  else
    let s' := s.setCyc n { s.canCyc n with fresh := natPut (s.canCyc n).fresh b 1 1 }
    let s1 := ((s'.setReq n (natPut (s.canReq n) b 1 1)).set (pCAN n) (F.CAN.TXSTS.ATTEMPTS.up (8 * b)) 0).set (pCAN n)
      (F.CAN.TXSTS.OUTCOME.up (8 * b)) 0
    if s1.canMalformed n b then s1.canOutcome n b 5
    else if natBit (s1.canCyc n).abort b then s1.canOutcome n b 3
    else if s1.running (pCAN n) && s1.get (pCAN n) F.CAN.STS.STATE == 2 && s1.flag (pCAN n) F.CAN.CFG.ABORT_ON_BUSOFF then
      s1.canOutcome n b 4
    else s1

/-- A write to TXREQ. -/
def State.canReqWrite (s : State) (n map : Nat) : State :=
  (List.range 3).foldl (fun st b => if natBit map b then st.canRequest n b else st) s

/-- One bit of a write to TXABORT (R289). -/
def State.canAbort (s0 : State) (n b : Nat) : State :=
  let s := s0.setCyc n { s0.canCyc n with abort := natPut (s0.canCyc n).abort b 1 1 }
  if !natBit (s.canReq n) b then s
  else match (s.can n).att with
    | some a => if a.buf = b then
        let a' : CanAtt := { a with abort := true }
        s.setCan n { s.can n with att := some a' } else s.canOutcome n b 3
    | none => s.canOutcome n b 3

/-- A write to TXABORT. -/
def State.canAbortWrite (s : State) (n map : Nat) : State :=
  (List.range 3).foldl (fun st b => if natBit map b then st.canAbort n b else st) s

/-! Sending. -/

/-- Of two pending buffers, the one sent first; the lower number on a tie (R286). -/
def State.canBetter (s : State) (n a b : Nat) : Nat :=
  if s.flag (pCAN n) F.CAN.CFG.TXPRIO then a
  else if canKey (s.txbId n b) < canKey (s.txbId n a) then b else a

/-- The next frame: the reference message (3), else the best pending buffer (R286). -/
def State.canPick (s : State) (n : Nat) : Option Nat :=
  if s.flag (pCAN n) F.CAN.STS.REF_PEND then some 3
  else match (List.range 3).filter (fun b => natBit (s.canReq n) b) with
    | [] => none
    | b :: t => some (t.foldl (fun best x => s.canBetter n best x) b)

/-- The controller may start a frame and starts it (R286); the start-of-frame edge passes the receive pin `loop` hns
later (R283). -/
def State.canStart (s : State) (n loop : Nat) : State :=
  if s.canLive n && !s.canMonitor n && (s.can n).att.isNone && !s.holdAsked (pCAN n) then
    match s.canPick n with
    | none => s
    | some b =>
      let a : CanAtt := { buf := b, edge := s.clock + loop, abort := false, renewed := false }
      ((s.setCan n { s.can n with att := some a }).set (pCAN n) F.CAN.STS.ACTIVE_BUF b).canPin n
  else s

/-- T of the start-of-frame edge of an attempt (R283). -/
def State.attStamp (s : State) (a : CanAtt) : Nat := s.timeOf (a.edge - s.datum.rawOrg)

/-- The attempt is over; the transmit pin is recessive (R280). -/
def State.canIdle (s : State) (n : Nat) : State :=
  ((s.setCan n { s.can n with att := none }).set (pCAN n) F.CAN.STS.ACTIVE_BUF 3).canPin n

/-- The controller becomes error-active again, or error-passive, as its counters say (R290; ISO 11898-1, assumption
log 17). -/
def State.canLevel (s : State) (n : Nat) : State :=
  let p := pCAN n
  if 127 < s.get p F.CAN.ERRCNT.TEC ∨ 127 < s.get p F.CAN.ERRCNT.REC then
    if s.get p F.CAN.STS.STATE = 0 then (s.set p F.CAN.STS.STATE 1).event p 12 else s
  else if s.get p F.CAN.STS.STATE = 1 then s.set p F.CAN.STS.STATE 0 else s

/-- Every pending buffer clears at bus-off (R290). -/
def State.canDropAll (s : State) (n : Nat) : State :=
  (List.range 3).foldl (fun st b => if natBit (st.canReq n) b then st.canOutcome n b 4 else st) s

/-- Bus-off (R290, R293); `b` is the buffer that was being sent, 3 for none. A request set in the same cycle comes after it: its
buffer is not among those pending in the record, and it is judged once more. -/
def State.canBusOff (s : State) (n b : Nat) : State :=
  let p := pCAN n
  let s1 := (((s.set p F.CAN.STS.STATE 2).set p F.CAN.RECOV.COUNT 0).bump p F.CAN.BUSOFF.COUNT).event p 13
  let s2 := if s1.flag p F.CAN.CFG.ABORT_ON_BUSOFF then s1.canDropAll n else s1
  let s3 := s2.setCan n { s2.can n with offT := s2.now }
  let before := s3.canReq n &&& (7 ^^^ ((s3.canCyc n).fresh % 8))
  let s4 := s3.note 0x20 (before + 8 * b + 32 * s3.get p F.CAN.CFG.ABORT_ON_BUSOFF) n
    (leBytes 2 (s3.get p F.CAN.ERRCNT.TEC) ++ leBytes 1 (s3.get p F.CAN.ERRCNT.REC) ++
      leBytes 1 (s3.get p F.CAN.STS.LEC) ++ leBytes 4 (s3.get p F.CAN.BUSOFF.COUNT))
  s4.canReqWrite n ((s4.canCyc n).req)

/-- Counts go up: TEC by `t`, REC by `r`, and the state follows (R290). In bus monitoring mode both stay 0 (R302). -/
def State.canErrors (s : State) (n b t r : Nat) : State :=
  let p := pCAN n
  if s.canMonitor n then s
  else
    let s1 := (s.bumpSat p F.CAN.ERRCNT.TEC t).bumpSat p F.CAN.ERRCNT.REC r
    if 255 < s1.get p F.CAN.ERRCNT.TEC then s1.canBusOff n b else s1.canLevel n

/-- An attempt of a buffer ended without success (R287, R289). A reference message stays due (R298). -/
def State.canFailed (s : State) (n : Nat) (a : CanAtt) : State :=
  if a.buf = 3 then s
  else
    let att := F.CAN.TXSTS.ATTEMPTS.up (8 * a.buf)
    let s1 := s.bumpSat (pCAN n) att
    let r := s1.get (pCAN n) (txb F.CAN.TXB_CTRL.RETRY a.buf)
    if a.abort then s1.canOutcome n a.buf 3
    else if r = 15 ∨ s1.get (pCAN n) att ≤ r then s1
    else s1.canOutcome n a.buf 2

/-- The identifier word of an attempt's frame. -/
def State.attId (s : State) (n : Nat) (a : CanAtt) : Nat :=
  if a.buf = 3 then s.get (pCAN n) F.CAN.REFID.all else s.txbId n a.buf

/-- The capture of an attempt's start of frame is converted (R74). -/
def State.attMark (s : State) (a : CanAtt) : State := s.foldMark (a.edge - s.datum.rawOrg)

/-- The data bytes of a reference message (R298): the cycle count, then bits 55 to 0 of the attempt's own stamp. -/
def State.refData (s : State) (n : Nat) (a : CanAtt) : List Byte :=
  beBytes 1 (s.get (pCAN n) F.CAN.REFCC.CC) ++ beBytes 7 (s.attStamp a % 2 ^ 56)

/-- The frame of an attempt as it goes on the bus (R284, R285, R298); a remote frame carries no data. -/
def State.canFrame (s : State) (n : Nat) (a : CanAtt) : CanTx :=
  let p := pCAN n
  let id := s.attId n a
  if a.buf = 3 then { id := id, dlc := 8, brs := false, esi := false, data := s.refData n a }
  else
    let ctl := s.rd p (0x304 + 0x80 * a.buf)
    let words := (List.range 16).flatMap (fun i => leBytes 4 (s.rd p (0x340 + 0x80 * a.buf + 4 * i)).toNat)
    { id := id, dlc := natField ctl.toNat 0 4, brs := natBit ctl.toNat 4, esi := natBit id 29 && s.get p F.CAN.STS.STATE == 1
      data := slice words 0 (if natBit id 30 then 0 else dlcLen (natBit id 29) (natField ctl.toNat 0 4)) }

/-- The loop delay measured on an FD frame (R282). -/
def State.canTdc (s : State) (n : Nat) (a : CanAtt) (d : Nat) : State :=
  if s.flag (pCAN n) F.CAN.CFG.TDC_EN && decide (a.buf < 3) && natBit (s.txbId n a.buf) 29 then s.set (pCAN n) F.CAN.TDCV.DELAY d
  else s

/-- Would the delay end the frame with a bit error (R282)? -/
def State.canTdcBad (s : State) (n : Nat) (a : CanAtt) (d : Nat) : Bool :=
  s.flag (pCAN n) F.CAN.CFG.TDC_EN && decide (a.buf < 3) && natBit (s.txbId n a.buf) 29 &&
    decide (127 < d + s.get (pCAN n) F.CAN.TDC.TDCO)

/-- The attempt ends with the bit error of R282: which of the two bit errors LEC shows is not stated, so it is free. -/
def State.canTdcErr (s : State) (n : Nat) (a : CanAtt) : State :=
  let p := pCAN n
  let s1 := ((s.canIdle n).set p F.CAN.STS.LEC (4 + s.freeVal 1)).nextFree.bump p F.CAN.BUSERR.COUNT
  (s1.canFailed n a).canErrors n a.buf 8 0

/-- The frame became valid for the transmitter (R288, R298), unless R282 ends it with an error. -/
def State.canDone (s : State) (n tdcv : Nat) : State :=
  let p := pCAN n
  match (s.can n).att with
  | none => s
  | some a =>
    if !s.canLive n then s
    else if s.canTdcBad n a tdcv then (s.canTdc n a tdcv).canTdcErr n a
    else
      let s0 := ((s.canTdc n a tdcv).attMark a).canIdle n
      let s1 := (s0.bump p F.CAN.TXOK.COUNT).set p F.CAN.ERRCNT.TEC (s.get p F.CAN.ERRCNT.TEC - 1)
      let s2 := (s1.setCan n { s1.can n with sent := some (s.canFrame n a) }).canLevel n
      if a.buf = 3 then
        ((s2.bump p F.CAN.REFCC.CC).event p 16).set p F.CAN.STS.REF_PEND (bit a.renewed)
      else (s2.canOutcome n a.buf 1).set p (F.CAN.TXSTAMP.T.at (8 * a.buf)) (s.attStamp a)

/-- The attempt lost arbitration (R287). -/
def State.canLost (s : State) (n : Nat) : State :=
  match (s.can n).att with
  | none => s
  | some a =>
    if s.canLive n then ((s.canIdle n).bump (pCAN n) F.CAN.ARBLOST.COUNT).canFailed n a else s

/-- The record of an identifier collision (R293). The spec gives a reference message no ATTEMPTS and no RETRY: those
bytes are free. -/
def State.collideRec (s : State) (n : Nat) (a : CanAtt) (dataPhase : Bool) (pos : Nat) : State :=
  let p := pCAN n
  let id := s.attId n a
  let tail := if a.buf = 3 then leBytes 2 (s.freeVal 16) else
    leBytes 1 (s.get p (F.CAN.TXSTS.ATTEMPTS.up (8 * a.buf))) ++ leBytes 1 (s.get p (txb F.CAN.TXB_CTRL.RETRY a.buf))
  let s1 := (if a.buf = 3 then s.nextFree else s).attMark a
  s1.stage .mgt {
    t := s.attStamp a, kind := 0x22, flags := a.buf + 4 * bit dataPhase, source := n,
    data := leBytes 4 id ++ leBytes 2 pos ++ tail }

/-- TEC goes up by 8, except where ISO 11898-1 excepts it, and by 8 again for each further error in the error frame
(assumption log 17). -/
def tecUp (passive : Bool) (err : Nat) (afterArb dominant : Bool) (eights : Nat) : Nat :=
  (if (passive && err == 3 && !dominant) || (err == 1 && !afterArb) then 0 else 8) + 8 * eights

/-- The attempt ended in an error (R287, R290, R292); `err` is the code of STS.LEC. -/
def State.canTxErr (s : State) (n err : Nat) (afterArb dataPhase dominant : Bool) (pos eights : Nat)
    (tdcv : Option Nat) : State :=
  let p := pCAN n
  match (s.can n).att with
  | none => s
  | some a =>
    if !s.canLive n then s
    else
      let coll := err == 4 && afterArb
      let s0 := match tdcv with | some d => s.canTdc n a d | none => s
      let s1 := ((s0.canIdle n).set p F.CAN.STS.LEC (if coll then 7 else err)).bump p F.CAN.BUSERR.COUNT
      let s2 := s1.canFailed n a
      let s3 := if coll then ((s2.bump p F.CAN.IDCOLLIDE.COUNT).collideRec n a dataPhase pos).event p 15 else s2
      s3.canErrors n a.buf (tecUp (s.get p F.CAN.STS.STATE == 1) err afterArb dominant eights) 0

/-- An error while receiving (R290; ISO 11898-1, assumption log 17). Bit 3 of `err` tells that it is a bit error in the overload flag
that the controller sends, for which REC does not go up by one first. -/
def State.canRxErr (s : State) (n err tecEights recEights : Nat) : State :=
  if s.canLive n && (s.can n).att.isNone then
    ((s.set (pCAN n) F.CAN.STS.LEC (err % 8)).bump (pCAN n) F.CAN.BUSERR.COUNT).canErrors n 3 (8 * tecEights) (bit (!natBit err 3) + 8 * recEights)
  else s

/-- The 128th sequence of 11 recessive bits (R291, R293). -/
def State.canRecover (s : State) (n : Nat) : State :=
  let p := pCAN n
  if decide (n < 16) && s.running p && s.get p F.CAN.STS.STATE == 2 then
    let s1 := (((s.set p F.CAN.STS.STATE 0).set p F.CAN.ERRCNT.TEC 0).set p F.CAN.ERRCNT.REC 0).set p F.CAN.RECOV.COUNT 128
    (s1.note 0x21 (s1.canReq n) n (data2 (min ((s1.now - (s1.can n).offT) / 2000) (2 ^ 32 - 1)) 0)).event p 14
  else s

/-- The controller is synchronised (R303, R307). -/
def State.canSynced (s : State) (n : Nat) : State :=
  let p := pCAN n
  if decide (n < 16) && s.running p && s.get p F.CAN.STS.STATE == 3 then
    ((s.set p F.CAN.STS.STATE 0).set p F.CAN.ERRCNT.TEC 0).set p F.CAN.ERRCNT.REC 0
  else s

/-! Receiving. -/

/-- Is filter `f` enabled, and does it match an identifier word (R294)? -/
def State.filtHit (s : State) (n f id : Nat) : Bool :=
  let g := fun (x : Fld) => s.get (pCAN n) (x.at (8 * f))
  (g F.CAN.FILT_A.QUEUE == 1 || g F.CAN.FILT_A.FEED == 1) && g F.CAN.FILT_A.IDE == natField id 31 1 &&
    ((natField id 0 29 ^^^ g F.CAN.FILT_A.ID) &&& g F.CAN.FILT_B.MASK) == 0

/-- Fields of receive entry `e`. -/
def rxe (f : Fld) (e : Nat) : Fld := f.at (0x50 * e)

/-- RXSTS follows the owned entries (R295); with none, the spec says nothing of OLDEST: a free value. -/
def State.rxStsPut (s : State) (n : Nat) : State :=
  let p := pCAN n
  let own := (List.range 32).filter (fun e => natBit (s.get p F.CAN.RXOWN.MAP) e)
  let age := fun e => ((s.can n).rseq + 256 - s.get p (rxe F.CAN.RXE_CTRL.RSEQ e)) % 256
  let s1 := (s.set p F.CAN.RXSTS.COUNT own.length).set p F.CAN.RXSTS.VALID (bit (own != []))
  match own with
  | [] => (s1.set p F.CAN.RXSTS.OLDEST (s1.freeVal 5)).nextFree
  | e :: t => s1.set p F.CAN.RXSTS.OLDEST (t.foldl (fun o x => if age o < age x then x else o) e)

/-- The hub takes an entry back (R296, R302). -/
def State.rxReturn (s : State) (n e : Nat) : State :=
  (s.set (pCAN n) F.CAN.RXOWN.MAP (natPut (s.get (pCAN n) F.CAN.RXOWN.MAP) e 1 0)).rxStsPut n

/-- Words of data into a receive entry. -/
def State.putData (s : State) (p off : Nat) : Nat → List Byte → State
  | 0, _ => s
  | k + 1, d => State.putData (s.wr p off (w32 (ofLE (d.take 4)))) p (off + 4) k (d.drop 4)

/-- The first free entry after the last one written (R295). -/
def State.rxFree (s : State) (n : Nat) : Option Nat :=
  ((List.range 32).map (fun i => ((s.can n).last + 1 + i) % 32)).find? (fun e => !natBit (s.get (pCAN n) F.CAN.RXOWN.MAP) e)

/-- A matched frame enters the receive queue (R295). The bytes of an entry past the frame's data have no stated value:
they are free. -/
def State.rxQueue (s : State) (n f : Nat) (r : CanRx) : State :=
  let p := pCAN n
  match s.rxFree n with
  | none => ((s.setCyc n { s.canCyc n with drop := some (f, r, natBit (s.rd p 0x0C).toNat 9) }).bump p F.CAN.RXDROP.COUNT).event p 9
  | some e =>
    let c := s.can n
    let k := r.data.length
    let s1 := (s.set p (rxe F.CAN.RXE_STAMP.T e) r.stamp).set p (rxe F.CAN.RXE_ID.ID e) r.id
    let s2 := s1.set p (rxe F.CAN.RXE_CTRL.all e) (c.rseq * 2 ^ 24 + r.dlc % 16 * 2 ^ 20 + bit r.brs * 2 ^ 19 +
      bit r.esi * 2 ^ 18 + f * 2 ^ 12 + k)
    let s3 := (s2.putData p (0x610 + 0x50 * e) 16 (r.data ++ leBytes (64 - k) (s2.freeVal 512))).nextFree
    let s4 := s3.setCan n { c with last := e, rseq := (c.rseq + 1) % 256 }
    ((s4.set p F.CAN.RXOWN.MAP (natPut (s4.get p F.CAN.RXOWN.MAP) e 1 1)).rxStsPut n).event p 8

/-- A frame that found no free entry in this cycle takes the one that has become free, as if it had been so before (R296). -/
def State.dropTake (s : State) (n : Nat) : State :=
  let p := pCAN n
  match (s.canCyc n).drop with
  | none => s
  | some (f, r, was) =>
    let s1 := (s.setCyc n { s.canCyc n with drop := none }).set p F.CAN.RXDROP.COUNT (s.get p F.CAN.RXDROP.COUNT + 2 ^ 32 - 1)
    (if was then s1 else s1.set p ⟨0x0C, 9, 1⟩ 0).rxQueue n f r

/-- A write to RXACK (R296). -/
def State.canAck (s : State) (n e : Nat) : State :=
  if natBit (s.get (pCAN n) F.CAN.RXOWN.MAP) e then
    let st := s.get (pCAN n) (rxe F.CAN.RXE_STAMP.T e)
    ((s.setCan n { s.can n with ackT := some (max st ((s.can n).ackT.getD 0)) }).rxReturn n e).dropTake n
  else s.bump (pCAN n) F.CAN.ACKERR.COUNT

/-- A feed latch that holds no frame. -/
def canLatchDefault : CanLatch := { id := 0, data := [], stamp := 0, count := 0 }
def canFeedDefault (_ : Nat) : CanFeed := { cur := canLatchDefault, t := 0, old := canLatchDefault }
def State.canFeed (s : State) (n f : Nat) : CanFeed := tabGet canFeedDefault (s.can n).feeds f
def State.setFeed (s : State) (n f : Nat) (v : CanFeed) : State :=
  s.setCan n { s.can n with feeds := tabPut canFeedDefault (s.can n).feeds f v }

/-- A matched frame, valid now, loads a feed latch (R297). -/
def State.feedLoad (s : State) (n f : Nat) (r : CanRx) : State :=
  let v := s.canFeed n f
  s.setFeed n f {
    cur := { id := r.id, data := r.data, stamp := r.stamp, count := min 0xFFFF (v.cur.count + 1) }, t := s.now
    old := if v.t = s.now then v.old else v.cur }

/-- What a freeze at `tf` takes of a feed latch, and what is left for the next freeze (R297). -/
def CanFeed.shown (v : CanFeed) (tf : Nat) : CanLatch := if v.t < tf then v.cur else v.old
def CanFeed.taken (v : CanFeed) (tf : Nat) : CanFeed :=
  { v with cur := { v.cur with count := v.cur.count - (v.shown tf).count }, old := { v.shown tf with count := 0 } }

/-- The carried T with the upper byte that lies nearest the local stamp (R299). -/
def nearest56 (low near : Nat) : Nat :=
  let d := (low + 2 ^ 56 - near % 2 ^ 56) % 2 ^ 56
  if d < 2 ^ 55 then near + d else (near + d + 2 ^ 64 - 2 ^ 56) % 2 ^ 64

/-- Does a frame carry the REFID identifier (R299, R300)? -/
def State.refIdHit (s : State) (n id : Nat) : Bool :=
  natField id 31 1 == s.get (pCAN n) F.CAN.REFID.IDE && natField id 0 29 == s.get (pCAN n) F.CAN.REFID.ID

/-- Reference messages received (R299, R300). -/
def State.refRx (s : State) (n : Nat) (r : CanRx) : State :=
  let p := pCAN n
  let s1 := if s.flag p F.CAN.TMCFG.SLAVE && s.refIdHit n r.id && !natBit r.id 30 && r.dlc == 8 then
      ((((s.set p F.CAN.REFRX_STAMP.T r.stamp).set p F.CAN.REFRX_T.T (nearest56 (ofBE (slice r.data 1 7)) r.stamp)).set p
        F.CAN.REFRX_STS.CC ((nth r.data 0 0).toNat % 64)).set p F.CAN.REFRX_STS.VALID 1).event p 17
    else s
  if s1.flag p F.CAN.TMCFG.MASTER && s1.refIdHit n r.id then (s1.bump p F.CAN.REFCONFLICT.COUNT).event p 18 else s1

/-- REC after a valid frame: down by one, or to a value of the implementation's choice in 119–127 (ISO 11898-1,
assumption log 17). -/
def State.recDown (s : State) (n : Nat) : State :=
  let r := s.get (pCAN n) F.CAN.ERRCNT.REC
  if 127 < r then ((s.set (pCAN n) F.CAN.ERRCNT.REC (119 + s.freeVal 32 % 9)).nextFree).canLevel n
  else (s.set (pCAN n) F.CAN.ERRCNT.REC (r - 1)).canLevel n

/-- A frame became valid for receivers (R294–R300). With FD_EN = 0 an FD frame is a form error and no valid frame
(R279). -/
def State.canRxFrame (s : State) (n : Nat) (r : CanRx) : State :=
  let p := pCAN n
  if !s.canLive n || (s.can n).att.isSome then s
  else if natBit r.id 29 && !s.flag p F.CAN.CFG.FD_EN then s.canRxErr n 2 0 0
  else
    let s1 := ((s.bump p F.CAN.RXOK.COUNT).recDown n).refRx n r
    let hits := (List.range 32).filter (fun f => s1.filtHit n f r.id)
    if hits = [] then s1.bump p F.CAN.NOMATCH.COUNT
    else
      let s2 := (hits.filter (fun f => s1.get p (F.CAN.FILT_A.FEED.at (8 * f)) == 1)).foldl (fun st f => st.feedLoad n f r) s1
      match hits.find? (fun f => s1.get p (F.CAN.FILT_A.QUEUE.at (8 * f)) == 1) with
      | none => s2
      | some f => s2.rxQueue n f r

/-! Reference messages. -/

/-- A reference instant arrives (R298, R307). -/
def State.refDue (s : State) (n : Nat) : State :=
  if decide (n < 16) && s.canMaster n then
    let p := pCAN n
    let t := nextCongruent (max (s.can n).refFrom s.now) (s.get p F.CAN.REF_PHASE.PHASE) (s.get p F.CAN.REF_PERIOD.PERIOD)
    let s1 := s.advanceT t
    let s2 := s1.setCan n { s1.can n with refFrom := t + 1, att := (s1.can n).att.map (fun a => if a.buf = 3 then { a with renewed := true } else a) }
    let s3 := s2.refMiss n (s2.get p F.CAN.STS.REF_PEND)
    if s3.held p then (s3.set p F.CAN.STS.REF_PEND 0).refMiss n 1 else s3.set p F.CAN.STS.REF_PEND 1
  else s

/-! Stakes of class 2 (R174, R301). -/

/-- Can the buffer take the stake? -/
def State.canStakeReady (s : State) (n b : Nat) : Bool := s.running (pCAN n) && !natBit (s.canReq n) b

/-- The words of buffer `b` that firmware wrote in this cycle are as before: the stake goes first, and the writes find the request
set (R301). -/
def State.canUnwrite (s : State) (n b : Nat) : State :=
  let mine := fun (w : Nat × Word) => (w.1 - 0x300) / 0x80 == b
  let l := (s.canCyc n).wrote.filter mine
  let s1 := l.foldl (fun st w => st.wr (pCAN n) w.1 w.2) s
  if l = [] then s
  else (s1.setCyc n { s1.canCyc n with wrote := (s1.canCyc n).wrote.filter (fun w => !mine w) }).bumpBy (pCAN n)
    F.CAN.TXWDROP.COUNT l.length

/-- A write of firmware to a word of a buffer has been stored; `old` is what it held. -/
def State.canWrote (s : State) (n off : Nat) (old : Word) : State :=
  s.setCyc n { s.canCyc n with wrote := (off, old) :: (s.canCyc n).wrote }

/-- Load the data, most significant byte first, and request the buffer. -/
def State.canStake (s0 : State) (n b : Nat) (load : Bool) (v : Nat) : State :=
  let s := s0.canUnwrite n b
  let s1 := if load then s.putData (pCAN n) (0x340 + 0x80 * b) 2 (beBytes 8 v) else s
  s1.canReqWrite n (2 ^ b)

/-! Page operations (R303, R307). -/

/-- The controller starts anew and waits for 11 recessive bits. -/
def State.canOn (s : State) (n : Nat) : State :=
  let p := pCAN n
  let s0 := (s.canIdle n).set p F.CAN.STS.REF_PEND 0
  let s1 := ((s0.set p F.CAN.ERRCNT.TEC 0).set p F.CAN.ERRCNT.REC 0).set p F.CAN.STS.STATE 3
  s1.setCan n { s1.can n with refFrom := s1.now }

/-- The controller stops, in the middle of a frame if need be; a reference message that waits is not kept. -/
def State.canOff (s : State) (n : Nat) : State := (s.canIdle n).set (pCAN n) F.CAN.STS.REF_PEND 0

/-- CLR. -/
def State.canClr (s : State) (n : Nat) : State := s.setCan n CanSt.init

/-- The hold point (R307). -/
def State.canAtHold (s : State) (n : Nat) : Bool := (s.can n).att.isNone

/-! Commands. -/

def execCanTxStart (clk can loop : Nat) (s : State) : Host.Outcome State Fault Refusal :=
  .next ((s.advance clk).canStart can loop)

def execCanTxDone (clk can tdcv : Nat) (s : State) : Host.Outcome State Fault Refusal :=
  .next ((s.advance clk).canDone can tdcv)

def execCanArbLost (clk can : Nat) (s : State) : Host.Outcome State Fault Refusal := .next ((s.advance clk).canLost can)

def execCanTxError (clk can err : Nat) (afterArb dataPhase dominant : Bool) (pos eights : Nat) (tdcv : Option Nat)
    (s : State) : Host.Outcome State Fault Refusal :=
  .next ((s.advance clk).canTxErr can err afterArb dataPhase dominant pos eights tdcv)

def execCanRecover (clk can : Nat) (s : State) : Host.Outcome State Fault Refusal := .next ((s.advance clk).canRecover can)

def execCanRxFrame (clk can edge id dlc : Nat) (brs esi : Bool) (data : List Byte) (s : State) :
    Host.Outcome State Fault Refusal :=
  let s1 := (s.advance clk).foldMark (edge - (s.advance clk).datum.rawOrg)
  .next (s1.canRxFrame can {
    stamp := s1.timeOf (edge - s1.datum.rawOrg), id := id, dlc := dlc, brs := brs, esi := esi,
    data := slice data 0 (if natBit id 30 then 0 else dlcLen (natBit id 29) (dlc % 16)) })

def execCanTxreq (clk can map : Nat) (s : State) : Host.Outcome State Fault Refusal :=
  .next ((s.advance clk).fldWrite (pCAN (can % 16)) F.CAN.TXREQ.REQ map (fun st => st.canReqWrite (can % 16) map))

def execCanTxabort (clk can map : Nat) (s : State) : Host.Outcome State Fault Refusal :=
  .next ((s.advance clk).fldWrite (pCAN (can % 16)) F.CAN.TXABORT.ABORT map (fun st => st.canAbortWrite (can % 16) map))

def execCanRxack (clk can index : Nat) (s : State) : Host.Outcome State Fault Refusal :=
  .next ((s.advance clk).fldWrite (pCAN (can % 16)) F.CAN.RXACK.INDEX index (fun st => st.canAck (can % 16) (index % 32)))

def execCanRefDue (can : Nat) (s : State) : Host.Outcome State Fault Refusal := .next (s.refDue can)

def execCanSynced (clk can : Nat) (s : State) : Host.Outcome State Fault Refusal := .next ((s.advance clk).canSynced can)

def execCanReceiveError (clk can err tecEights recEights : Nat) (s : State) : Host.Outcome State Fault Refusal :=
  .next ((s.advance clk).canRxErr can err tecEights recEights)

end Sys2Proof.Machine
end

