-- ==== Sys2Proof/Machine/Operands.lean ====
section
/-!
DEFINITION. The operand forms of the pin-engine instructions (R226–R245): fields of the instruction word, undefined
words (R228), the steps of an engine (R195, R196), the pin levels, shift lengths and sources an instruction reads, and
the targets of WAITT (R232).
-/

namespace Sys2Proof.Machine

/-! Fields of the instruction word (R226). -/

def iOp (w : Nat) : Nat := natField w 28 4
def iDelay (w : Nat) : Nat := natField w 13 7
/-- Edge code of companion pin `j`. -/
def iEdge (w j : Nat) : Nat := natField w (20 + 2 * j) 2
/-- Bits [12:10], [9:5], [12:11], [12], [11:10], [11:9], [8:4], [4:0]. -/
def iDst (w : Nat) : Nat := natField w 10 3
def iBits (w : Nat) : Nat := if natField w 5 5 = 0 then 32 else natField w 5 5
def iMode (w : Nat) : Nat := natField w 11 2
def iTop (w : Nat) : Bool := natBit w 12
def iPMode (w : Nat) : Nat := natField w 10 2
def iIdx (w : Nat) : Nat := natField w 0 5
/-- WAITP: COND and INDEX (R231). -/
def iPCond (w : Nat) : Nat := natField w 9 3
def iPIdx (w : Nat) : Nat := natField w 4 5
/-- JMP: COND, ADJ, ADDR (R230). -/
def iCond (w : Nat) : Nat := natField w 9 4
def iAdj (w : Nat) : Nat := natField w 7 2
def iAddr (w : Nat) : Nat := natField w 0 7
/-- MOV: SRC and OP (R240). -/
def iMSrc (w : Nat) : Nat := natField w 7 3
def iMOp (w : Nat) : Nat := natField w 4 3

/-! The engine's configuration. -/

/-- A field of an engine's page. -/
def State.ef (s : State) (e : Nat) (f : Fld) : Nat := s.get (pENG e) f

/-- A length field in which 0 means 32 (R198, R239). -/
def len32 (n : Nat) : Nat := if n = 0 then 32 else n

/-- FIFO depths of JOIN (R197). -/
def State.txDepth (s : State) (e : Nat) : Nat := match s.ef e F.ENG.CFG.JOIN with | 0 => 4 | 1 => 8 | _ => 0
def State.rxDepth (s : State) (e : Nat) : Nat := match s.ef e F.ENG.CFG.JOIN with | 0 => 4 | 2 => 8 | _ => 0

/-- The divider in 1/256 tick (R195). -/
def State.div256 (s : State) (e : Nat) : Nat := s.ef e F.ENG.DIV.INT * 256 + s.ef e F.ENG.DIV.FRAC

/-- The pin at an engine's window index. -/
def ePin (e i : Nat) : Nat := winPin (e / 4) i

/-- Is a word undefined on engine `e` (R228)? -/
def State.undefWord (s : State) (e w : Nat) : Bool :=
  let join := s.ef e F.ENG.CFG.JOIN
  let noRx := join == 1 && s.ef e F.ENG.CFG.PLAT_MODE != 2
  let noTx := join == 2
  match iOp w with
  | 1 => natField w 0 10 != 0
  | 2 => natField w 0 3 != 0 || decide (4 < iPCond w) || (iTop w && natField w 7 2 != 0) || (!iTop w && natBit w 3)
  | 3 => natField w 1 7 != 0
  | 4 => natField w 5 5 != 0 || iMode w == 3 || (iMode w == 2 && natBit w 10)
  | 5 => iAdj w == 3 || decide (0xD < iCond w)
  | 6 => natField w 0 4 != 0 || iDst w == 7 || (decide (3 ≤ iMOp w) && decide (2 ≤ iDst w))
  | 7 => natBit w 10
  | 8 => natField w 0 5 != 0 || iDst w == 7 || (s.ef e F.ENG.CFG.OREFILL == 1 && noTx)
  | 9 => natField w 0 5 != 0 || iDst w == 7 || (s.ef e F.ENG.CFG.IFLUSH == 1 && noRx)
  | 10 => natField w 0 10 != 0 || iPMode w == 3 || noTx
  | 11 => natField w 0 10 != 0 || iPMode w == 3 || noRx
  | 12 => natField w 5 7 != 0 || (!iTop w && noRx)
  | 13 => natField w 3 9 != 0
  | _ => true

/-! Ticks and steps. -/

/-- Ring time of tick `k`. -/
def State.tickT (s : State) (k : Nat) : Nat := s.timeOf (8 * k)

/-- The first tick at or after ring time `t`. -/
def State.tickAt (s : State) (t : Nat) : Nat := ceilDiv (s.rawOf t) 8

/-- The first step at or after tick `lo` of a schedule whose next step lies `phs` / 256 after tick `k`: its tick and the
fraction left (R195). -/
def stepFrom (div k phs lo : Nat) : Nat × Nat :=
  let g := 256 * (lo - k)
  let q := phs + (if g ≤ phs then 0 else ceilDiv (g - phs) div) * div
  (k + q / 256, q % 256)

/-- The next step at or after tick `lo` from a reference: with DIVSYNC the first tick at or after each cycle boundary
is a new anchor (R196). -/
def State.stepOf (s : State) (e k phs lo : Nat) : Nat × Nat :=
  let d := s.div256 e
  if s.ef e F.ENG.CFG.DIVSYNC = 1 ∧ s.running pCYCLE then
    let n := s.cycOf (s.tickT (max k lo))
    let tb := s.tickAt (s.cycT n)
    let c := if k < tb then stepFrom d tb 0 lo else stepFrom d k phs lo
    let nb := s.tickAt (s.cycT (n + 1))
    if nb ≤ c.1 then (nb, 0) else c
  else stepFrom d k phs lo

/-- The step an engine takes next, not before tick `lo`. -/
def State.nextStep (s : State) (e lo : Nat) : Nat × Nat := s.stepOf e (s.eng e).tick (s.eng e).phs lo

/-- The step is taken: the reference moves to it (R195). -/
def State.tookStep (s : State) (e : Nat) (st : Nat × Nat) : State :=
  (s.advance (s.datum.rawOrg + 8 * st.1)).setEng e
    { s.eng e with tick := st.1, prev := st.1, phs := st.2 + s.div256 e }

/-- `n` further steps pass. -/
def State.steps (s : State) (e : Nat) : Nat → State
  | 0 => s
  | n + 1 => State.steps (s.tookStep e (s.nextStep e (s.eng e).tick)) e n

/-! Sources. -/

/-- The word of 32 pin levels from window index IN_BASE on, as a step at tick `k` sees it (R193, R237). -/
def State.inPins (s : State) (e k : Nat) : Nat :=
  ((List.range 32).map (fun i => if s.levelTick (ePin e (s.ef e F.ENG.PINS.IN_BASE + i)) k then 2 ^ i else 0)).sum

/-- Level of a window index in a step. -/
def State.idxLevel (s : State) (e i k : Nat) : Bool := s.levelTick (ePin e i) k

/-- The source of IN at tick `k` with the crew flags `fl` (R237). -/
def State.inSrc (s : State) (e src k fl : Nat) : Nat :=
  match src with
  | 0 => s.inPins e k
  | 1 => (s.eng e).x
  | 2 => (s.eng e).y
  | 3 => 0
  | 4 => 2 ^ 32 - 1
  | 5 => s.tickT k % 2 ^ 32
  | _ => fl

/-- The source of MOV at tick `k` with the STATUS word `st` (R240). -/
def State.movSrc (s : State) (e src k st : Nat) : Nat :=
  match src with
  | 0 => (s.eng e).x
  | 1 => (s.eng e).y
  | 2 => s.inPins e k
  | 3 => (s.eng e).osr
  | 4 => (s.eng e).isr
  | 5 => 0
  | 6 => st
  | _ => s.tickT k % 2 ^ 32

/-- The 32 bits of a word in reverse order. -/
def rev32 (n : Nat) : Nat := ((List.range 32).map (fun i => if natBit n i then 2 ^ (31 - i) else 0)).sum

/-- The operation of MOV on the old DST and the source (R240). -/
def movOp (op old v : Nat) : Nat :=
  match op with
  | 0 => v
  | 1 => 2 ^ 32 - 1 - v
  | 2 => rev32 v
  | 3 => (old + v) % 2 ^ 32
  | 4 => (old + 2 ^ 32 - v) % 2 ^ 32
  | 5 => old &&& v
  | 6 => old ||| v
  | _ => old ^^^ v

/-- The shift of IN (R237). -/
def inShift (right : Bool) (isr n v : Nat) : Nat :=
  let b := v % 2 ^ n
  if right then isr / 2 ^ n + b * 2 ^ (32 - n) else isr * 2 ^ n % 2 ^ 32 + b

/-- The value taken by OUT and what stays in OSR (R238). -/
def outShift (right : Bool) (osr n : Nat) : Nat × Nat :=
  if right then (osr % 2 ^ n, osr / 2 ^ n) else (osr / 2 ^ (32 - n), osr * 2 ^ n % 2 ^ 32)

/-- The target of WAITT at tick T `t` (R232); nothing where CYCLE does not run (R235). -/
def State.waittTarget (s : State) (e mode t : Nat) : Option Int :=
  let y := (s.eng e).y
  match mode with
  | 0 => some (((s.eng e).x * 2 ^ 32 + y : Nat) : Int)
  | 1 => some ((t : Int) + toSigned (y + 2 ^ 32 - t % 2 ^ 32) 32)
  | 2 => if s.running pCYCLE then some (s.cycTime (s.cycOf t) + (y : Nat)) else none
  | _ => if s.running pCYCLE then some (s.cycTime (s.cycOf t + 1) + (y : Nat)) else none

end Sys2Proof.Machine
end

