-- ==== Sys2Proof/Machine/Flags.lean ====
section
/-!
DEFINITION. The flags the pin engines test and set: crew flags (R212, R231, R244), the STATUS word (R240), the
conditions of JMP (R230), of WAITP (R231) and of a drained OSR (R198).
-/

namespace Sys2Proof.Machine

/-! Crew flags. -/

/-- Flags `v` after the changes of some ticks, newest first, made before tick `k`; of a set and a clear on one tick the set
stays (R9, R212, R231). -/
def flagsAt (k v : Nat) : List (Nat × Nat × Nat) → Nat
  | [] => v
  | (x, up, down) :: t =>
    let old := flagsAt k v t
    if x < k then (old &&& (255 ^^^ down)) ||| up else old

/-- The flags of a crew as a step at tick `k` finds them: a change made on a tick counts from the next one. -/
def State.flagsTick (s : State) (c k : Nat) : Nat := flagsAt k (s.crew c).flags (s.crew c).flagQ

/-- The flags now. -/
def State.crewFlags (s : State) (c : Nat) : Nat := s.flagsTick c (s.raw / 8 + 1)

/-- A change on tick `k` joins the changes, newest first; changes on one tick are kept together. -/
def flagIns (k up down : Nat) : List (Nat × Nat × Nat) → List (Nat × Nat × Nat)
  | [] => [(k, up, down)]
  | (x, u, d) :: t =>
    if x < k then (k, up, down) :: (x, u, d) :: t
    else if x = k then (x, u ||| up, d ||| down) :: t
    else (x, u, d) :: flagIns k up down t

/-- Flags of two masks are set and cleared on tick `k`; changes that no step looks back to become part of the flags. -/
def State.putFlags (s : State) (c k up down : Nat) : State :=
  let w := s.crew c
  let q := flagIns k (up % 256) (down % 256) w.flagQ
  let cut := s.histCut / 8
  s.setCrew c { w with flags := flagsAt cut w.flags q, flagQ := q.filter (fun x => decide (cut ≤ x.1)) }

/-- Set flags of a mask on tick `k`; clear flags of a mask. -/
def State.setFlags (s : State) (c k m : Nat) : State := s.putFlags c k m 0
def State.clearFlags (s : State) (c k m : Nat) : State := s.putFlags c k 0 m

/-! Conditions. -/

/-- Is OSR drained (R198, R230)? -/
def State.drained (s : State) (e : Nat) : Bool := decide (len32 (s.ef e F.ENG.CFG.OSR_LEN) ≤ (s.eng e).osc)

/-- The STATUS word (R240). -/
def State.statusWord (s : State) (e k : Nat) : Nat :=
  (s.eng e).txf.length + 16 * (s.eng e).rxf.length + 256 * s.flagsTick (e / 4) k

/-- X and Y after the adjustment of JMP (R230). -/
def jmpAdj (adj x y : Nat) : Nat × Nat :=
  match adj with
  | 1 => ((x + (2 ^ 32 - 1)) % 2 ^ 32, y)
  | 2 => (x, (y + (2 ^ 32 - 1)) % 2 ^ 32)
  | _ => (x, y)

/-- The condition of JMP on adjusted X and Y (R230). -/
def State.jmpCond (s : State) (e cond x y k : Nat) : Bool :=
  match cond with
  | 0 => true
  | 1 => x == 0
  | 2 => x != 0
  | 3 => y == 0
  | 4 => y != 0
  | 5 => x == y
  | 6 => x != y
  | 7 => decide (x < y)
  | 8 => decide (y ≤ x)
  | 9 => (s.eng e).txf.isEmpty
  | 10 => decide (s.rxDepth e ≤ (s.eng e).rxf.length)
  | 11 => s.idxLevel e (s.ef e F.ENG.PINS.IN_BASE) k
  | 12 => !s.idxLevel e (s.ef e F.ENG.PINS.IN_BASE) k
  | _ => s.drained e

/-- The value WAITP watches at a tick: a window index or a crew flag (R231). -/
def State.watched (s : State) (e w k : Nat) : Bool :=
  if iTop w then natBit (s.flagsTick (e / 4) k) (iPIdx w % 8) else s.idxLevel e (iPIdx w) k

/-- The condition of WAITP in the step at tick `k` after the step at tick `k0` (R231). -/
def State.waitpCond (s : State) (e w k0 k : Nat) : Bool :=
  let a := s.watched e w k0
  let b := s.watched e w k
  match iPCond w with
  | 0 => !b
  | 1 => b
  | 2 => !a && b
  | 3 => a && !b
  | _ => a != b

end Sys2Proof.Machine
end

