-- ==== Sys2Proof/Machine/Engine.lean ====
section
/-!
DEFINITION. Pin engines and crews (chapters 7 and 8): each instruction in the step in which it executes, waits, delays,
stalls, FIFOs, snapshots, program swaps, and the page operations of ENG and CREW.
-/

namespace Sys2Proof.Machine

/-! FIFOs. -/

/-- Words on their way to the transmit FIFO enter it up to tick `k`; a word that finds it full is dropped (R197). -/
def State.txEnter (s : State) (e k : Nat) : List (Nat × Nat) → State
  | [] => s.setEng e { s.eng e with txIn := [] }
  | (t, w) :: rest =>
    if k < t then s.setEng e { s.eng e with txIn := (t, w) :: rest }
    else if (s.eng e).txf.length < s.txDepth e then
      State.txEnter (s.setEng e { s.eng e with txf := (s.eng e).txf ++ [w] }) e k rest
    else State.txEnter ((s.bumpSat (pENG e) F.ENG.DROP.TXDROP).event (pENG e) 10) e k rest

/-- The transmit FIFO up to tick `k`. -/
def State.txSettle (s : State) (e k : Nat) : State := s.txEnter e k (s.eng e).txIn

/-- Load the plat latch with words in turn in the step at tick `k` (R199). -/
def State.latchLoad (s : State) (e k : Nat) (ws : List Nat) : State :=
  let g := s.eng e
  let t := s.tickT k
  s.setEng e { g with
    latch := ws.getLast?.getD g.latch, latchCnt := g.latchCnt + ws.length, latchT := t
    latchOld := if g.latchT = t then g.latchOld else (g.latch, g.latchCnt) }

/-- What the plat latch reads (R199): 0 where PLAT_MODE never loads it. -/
def State.latchShown (s : State) (e v : Nat) : Nat := if s.ef e F.ENG.CFG.PLAT_MODE = 0 then 0 else v

/-- The plat latch and its count as a freeze at `tf` takes them, and what is left for the next freeze (R199). -/
def EngSt.latchAt (g : EngSt) (tf : Nat) : Nat × Nat := if g.latchT < tf then (g.latch, g.latchCnt) else g.latchOld
def EngSt.latchTaken (g : EngSt) (tf : Nat) : EngSt :=
  { g with latchCnt := g.latchCnt - (g.latchAt tf).2, latchOld := ((g.latchAt tf).1, 0) }

/-- Is there room for `n` pushed words (R197, R199)? -/
def State.rxRoom (s : State) (e n : Nat) : Bool :=
  s.ef e F.ENG.CFG.PLAT_MODE == 2 || decide ((s.eng e).rxf.length + n ≤ s.rxDepth e)

/-- Push words for which there is room, in the step at tick `k`. -/
def State.rxPush (s : State) (e k : Nat) (ws : List Nat) : State :=
  match s.ef e F.ENG.CFG.PLAT_MODE with
  | 2 => s.latchLoad e k ws
  | m =>
    let s1 := s.setEng e { s.eng e with rxf := (s.eng e).rxf ++ ws }
    if m = 1 then s1.latchLoad e k ws else s1

/-! Pins an engine changes. -/

/-- The ring time of a pin change in the step at tick `k` (R200). -/
def State.placeT (s : State) (e k : Nat) : Nat := s.tickT k + (s.eng e).phase

/-- Set the level, or the output enable, of a window index. -/
def State.putLvl (s : State) (e k i : Nat) (b : Bool) : State :=
  s.latchPin (ePin e i) b (s.pin (ePin e i)).oe (s.placeT e k)
def State.putOe (s : State) (e k i : Nat) (b : Bool) : State :=
  s.latchPin (ePin e i) (s.pin (ePin e i)).lvl b (s.placeT e k)

/-- Apply bits of `v` to `n` window indices from `base`, where `m` selects them. -/
def State.putBits (s : State) (e k base n v m : Nat) (oe : Bool) : State :=
  (List.range n).foldl (fun st i =>
    if !natBit m i then st
    else if oe then st.putOe e k (base + i) (natBit v i) else st.putLvl e k (base + i) (natBit v i)) s

/-- Levels or output enables of the OUT pins from the low `n` bits of a value (R238, R240). -/
def State.putOut (s : State) (e k v n : Nat) (oe : Bool) : State :=
  s.putBits e k (s.ef e F.ENG.PINS.OUT_BASE) (min n (s.ef e F.ENG.PINS.OUT_COUNT)) v (2 ^ 32 - 1) oe

/-- The edge field on companion pins (R201, R226). -/
def State.edgeField (s : State) (e k w : Nat) : State :=
  (List.range (s.ef e F.ENG.PINS.EDGE_COUNT)).foldl (fun st j =>
    let i := s.ef e F.ENG.PINS.EDGE_BASE + j
    match iEdge w j with
    | 1 => st.putLvl e k i false
    | 2 => st.putLvl e k i true
    | 3 => st.putLvl e k i (!(st.pin (ePin e i)).lvl)
    | _ => st) s

/-! Swaps. -/

/-- The running engines of a crew. -/
def State.runEngs (s : State) (c : Nat) : List Nat := (List.range 4).filter (fun k => s.running (pENG (4 * c + k)))

/-- Entry word of engine `k` in bank `b` (R206). -/
def State.entryOf (s : State) (c b k : Nat) : Nat :=
  s.get (pCREW c) ((if b = 0 then F.CREW.ENTRY0.ENG else F.CREW.ENTRY1.ENG).up (8 * k))

/-- The swap ends (R208). -/
def State.swapFinish (s : State) (c : Nat) : State :=
  ((((s.set (pCREW c) F.CREW.STS.ACTIVE (1 - s.get (pCREW c) F.CREW.STS.ACTIVE)).set (pCREW c) F.CREW.STS.BUSY 0).set (pCREW c)
    F.CREW.SWAP.GO 0).bump (pCREW c) F.CREW.SWAPCNT.COUNT).event (pCREW c) 16

/-- The swap ends when every running engine has moved (R208, R211). -/
def State.swapCheck (s : State) (c : Nat) : State :=
  if s.flag (pCREW c) F.CREW.STS.BUSY && (s.runEngs c).all (fun k => natBit (s.get (pCREW c) F.CREW.STS.MOVED) k) then
    s.swapFinish c
  else s

/-- An engine moves to the idle bank (R208). -/
def State.engMove (s : State) (e : Nat) : State :=
  let c := e / 4
  let b := 1 - s.get (pCREW c) F.CREW.STS.ACTIVE
  let s1 := s.setEng e { s.eng e with pc := 128 * b + s.entryOf c b (e % 4), phase := 0, wait := .none, dcnt := 0 }
  (s1.set (pCREW c) ⟨F.CREW.STS.MOVED.off, 8 + e % 4, 1⟩ 1).swapCheck c

/-- Has the hold of an engine been asked for, on its page or its crew's (R205, R216)? -/
def State.engHold (s : State) (e : Nat) : Bool :=
  s.flag (pENG e) F.HDR.PCTL.HOLD || s.flag (pCREW (e / 4)) F.HDR.PCTL.HOLD

/-- Must engine `e` still move in a swap that has reached its island by tick `k` (R208, R211)? -/
def State.mustMove (s : State) (e k : Nat) : Bool :=
  s.flag (pCREW (e / 4)) F.CREW.STS.BUSY && s.running (pENG e) && !natBit (s.get (pCREW (e / 4)) F.CREW.STS.MOVED) (e % 4) &&
    !s.engHold e && decide ((s.crew (e / 4)).swapFrom ≤ 8 * k)

/-- An instruction boundary at tick `k` (R205, R208). -/
def State.engBoundary (s : State) (e k : Nat) : State := if s.mustMove e k then s.engMove e else s

/-- Are the engines held by the pair (R408, R410): in shadow, or on a hub that has declared a fault or a handover? -/
def State.engFrozen (s : State) : Bool := s.inShadow || (s.dupState == some 5 && s.dup.frozen)

/-- An instruction has executed at tick `k`: edge field, new PC[6:0], and the steps that follow (R229). -/
def State.engDone (s : State) (e k w pc delay : Nat) (edge : Bool) : State :=
  let s1 := if edge then s.edgeField e k w else s
  let s2 := s1.setEng e { s1.eng e with pc := (s1.eng e).pc / 128 * 128 + pc % 128, wait := .none, dcnt := delay }
  if delay = 0 then s2.engBoundary e k else s2

/-- As `engDone`, on to the next word with the DELAY field. -/
def State.engNext (s : State) (e k w : Nat) : State := s.engDone e k w ((s.eng e).pc + 1) (iDelay w) true

/-- The pins of an engine follow their latches, each at the time its latch changed (R200). -/
def State.engDrive (s : State) (e : Nat) : State :=
  (s.claimed e).foldl (fun st i => st.ballTo (ePin e i) (st.pin (ePin e i)).outT) s

/-! Stalls. -/

/-- The stalled instruction has not executed (R202, R204). -/
def State.engStall (s : State) (e k : Nat) (kind : StallKind) : State :=
  (s.setEng e { s.eng e with wait := .stall kind k false }).bump (pENG e) F.ENG.STALLS.COUNT

/-- A stall ends or is abandoned after `n` ticks (R204). -/
def State.stallLen (s : State) (e n : Nat) : State :=
  let v := min n (2 ^ 32 - 1)
  let s1 := s.set (pENG e) F.ENG.STALL_LAST.TICKS v
  s1.set (pENG e) F.ENG.STALL_MAX.TICKS (max v (s1.get (pENG e) F.ENG.STALL_MAX.TICKS))

/-! Instructions, each in the step at tick `k` in which it executes. -/

/-- JMP (R230). -/
def State.doJmp (s : State) (e k w : Nat) : State :=
  let a := jmpAdj (iAdj w) (s.eng e).x (s.eng e).y
  let s1 := s.setEng e { s.eng e with x := a.1, y := a.2 }
  s1.engDone e k w (if s1.jmpCond e (iCond w) a.1 a.2 k then iAddr w else (s1.eng e).pc + 1) (iDelay w) true

/-- MOV (R240). -/
def State.doMov (s : State) (e k w : Nat) : State :=
  let g := s.eng e
  let old := if iDst w = 0 then g.x else g.y
  let v := movOp (iMOp w) old (s.movSrc e (iMSrc w) k (s.statusWord e k))
  match iDst w with
  | 0 => (s.setEng e { g with x := v }).engNext e k w
  | 1 => (s.setEng e { g with y := v }).engNext e k w
  | 2 => (s.putOut e k v 32 false).engNext e k w
  | 3 => (s.setEng e { g with osr := v, osc := 0 }).engNext e k w
  | 4 => (s.setEng e { g with isr := v, isc := 0 }).engNext e k w
  | 5 => (s.putOut e k v 32 true).engNext e k w
  | _ => s.engDone e k w v (iDelay w) true

/-- SET (R241). -/
def State.doSet (s : State) (e k w : Nat) : State :=
  let d := natField w 0 10
  match iMode w with
  | 0 => (s.setEng e { s.eng e with x := d }).engNext e k w
  | 1 => (s.setEng e { s.eng e with y := d }).engNext e k w
  | m => (s.putBits e k (s.ef e F.ENG.PINS.SET_BASE) (s.ef e F.ENG.PINS.SET_COUNT) d (d / 32) (m == 3)).engNext e k w

/-- OSR is loaded from the transmit FIFO where a word waits. -/
def State.osrLoad (s : State) (e : Nat) : State :=
  match (s.eng e).txf with
  | [] => s
  | v :: t => s.setEng e { s.eng e with osr := v, osc := 0, txf := t }

/-- OUT once OSR holds bits: shift, destination, refill (R198, R238). -/
def State.outShifted (s : State) (e k w : Nat) : State :=
  let n := iBits w
  let r := outShift (s.ef e F.ENG.CFG.OUT_RIGHT == 1) (s.eng e).osr n
  let v := r.1
  let s1 := s.setEng e { s.eng e with osr := r.2, osc := min ((s.eng e).osc + n) 32 }
  let s2 := if s1.ef e F.ENG.CFG.OREFILL = 1 ∧ s1.drained e then s1.osrLoad e else s1
  match iDst w with
  | 0 => (s2.putOut e k v n false).engNext e k w
  | 1 => (s2.setEng e { s2.eng e with x := v }).engNext e k w
  | 2 => (s2.setEng e { s2.eng e with y := v }).engNext e k w
  | 3 => s2.engNext e k w
  | 4 => (s2.putOut e k v n true).engNext e k w
  | 5 => s2.engDone e k w ((s2.eng e).pc + 1) (v % 2 ^ 20) true
  | _ => s2.engDone e k w ((s2.eng e).pc + 1 + v % 128) (iDelay w) true

/-- OUT (R238): with OREFILL a drained OSR is first reloaded, or the OUT stalls (R198). -/
def State.doOut (s : State) (e k w : Nat) : State :=
  if s.ef e F.ENG.CFG.OREFILL = 1 ∧ s.drained e then
    if (s.eng e).txf = [] then s.engStall e k .out else (s.osrLoad e).outShifted e k w
  else s.outShifted e k w

/-- The flush of ISR that follows IN (R198). -/
def State.inFlush (s : State) (e k w : Nat) : State :=
  if s.ef e F.ENG.CFG.IFLUSH = 1 ∧ len32 (s.ef e F.ENG.CFG.ISR_LEN) ≤ (s.eng e).isc then
    if s.rxRoom e 1 then
      let s1 := s.rxPush e k [(s.eng e).isr]
      (s1.setEng e { s1.eng e with isr := 0, isc := 0 }).engNext e k w
    else s.engStall e k .inFlush
  else s.engNext e k w

/-- IN (R237). -/
def State.doIn (s : State) (e k w : Nat) : State :=
  let g := s.eng e
  let n := iBits w
  let v := s.inSrc e (iDst w) k (s.flagsTick (e / 4) k)
  (s.setEng e { g with isr := inShift (s.ef e F.ENG.CFG.IN_RIGHT == 1) g.isr n v, isc := min (g.isc + n) 32 }).inFlush e k w

/-- Does the MODE of PULL or PUSH let it act on a shift count and a length (R239)? -/
def modeActs (mode count len : Nat) : Bool :=
  match mode with
  | 0 => true
  | 1 => decide (len32 len ≤ count)
  | _ => count != 0

/-- PULL (R239). -/
def State.doPull (s : State) (e k w : Nat) : State :=
  if !modeActs (iPMode w) (s.eng e).osc (s.ef e F.ENG.CFG.OSR_LEN) then s.engNext e k w
  else if (s.eng e).txf = [] ∧ iTop w then s.engStall e k .pull
  else (s.osrLoad e).engNext e k w

/-- PUSH (R239). -/
def State.doPush (s : State) (e k w : Nat) : State :=
  if !modeActs (iPMode w) (s.eng e).isc (s.ef e F.ENG.CFG.ISR_LEN) then s.engNext e k w
  else if s.rxRoom e 1 then
    let s1 := s.rxPush e k [(s.eng e).isr]
    (s1.setEng e { s1.eng e with isr := 0, isc := 0 }).engNext e k w
  else if iTop w then s.engStall e k .push
  else
    (((s.setEng e { s.eng e with isr := 0, isc := 0 }).bumpSat (pENG e) F.ENG.DROP.RXDROP).event (pENG e) 9).engNext e k w

/-- The two words of STAMP (R243). -/
def stampWords (p : PinSt) (nw mu : Bool) : Nat × Nat :=
  (p.capT % 2 ^ 32, 2 ^ 31 * bit nw + 2 ^ 30 * bit p.capRise + 2 ^ 29 * bit mu + p.capT / 2 ^ 32 % 2 ^ 29)

/-- STAMP (R242, R243): every STAMP of a pin on one tick reads the same value. -/
def State.doStamp (s : State) (e k w : Nat) : State :=
  let p := ePin e (iIdx w)
  let c := s.capAt p k
  let nw := if c.stTick = k then c.stNew || c.capNew else c.capNew
  let mu := if c.stTick = k then c.stMulti || c.capMulti else c.capMulti
  let ws := stampWords c nw mu
  if !iTop w && !s.rxRoom e 2 then s.engStall e k .stamp
  else
    let s1 := s.setPin p { c with capNew := false, capMulti := false, stTick := k, stNew := nw, stMulti := mu }
    let s2 := if iTop w then s1.setEng e { s1.eng e with x := ws.2, y := ws.1 } else s1.rxPush e k [ws.1, ws.2]
    s2.engNext e k w

/-- NOTE (R212, R244). -/
def State.doNote (s : State) (e k w : Nat) : State :=
  let f := natField w 0 3
  let s1 := s.setFlags (e / 4) k (2 ^ f)
  (if iTop w then s1.event (pCREW (e / 4)) (8 + f) else s1).engNext e k w

/-- DLY (R236): the step in which it first executes. -/
def State.doDly (s : State) (e k w : Nat) : State :=
  let n := if natBit w 0 then (s.eng e).x % 2 ^ 20 else natField w 8 20
  if n = 0 then s.engDone e k w ((s.eng e).pc + 1) 0 false
  else s.setEng e { s.eng e with wait := .dly, dcnt := n }

/-- WAITT (R232): the step in which it first executes fixes the target. -/
def State.doWaitt (s : State) (e k w : Nat) : State :=
  match s.waittTarget e (iMode w) (s.tickT k) with
  | some t => s.setEng e { s.eng e with wait := .waitt t false }
  | none => s.setEng e { s.eng e with wait := .waitt 0 true }

/-! Fetch and readiness. -/

/-- The instruction word at PC (R206). -/
def State.fetch (s : State) (e : Nat) : Nat := s.get (pCREW (e / 4)) (F.CREW.IMEM.WORD.at (4 * (s.eng e).pc))

/-- May engine `e` begin an instruction? -/
def State.engReady (s : State) (e : Nat) : Bool :=
  decide (e < 64) && s.running (pENG e) && !s.engHold e && !s.engFrozen && (s.eng e).wait == .none && (s.eng e).dcnt == 0

/-- What every step at tick `k` begins with: arriving words, and INIT_LVL and INIT_OE on the first (R197, R218). -/
def State.engArrive (s : State) (e k : Nat) : State :=
  let s1 := s.txSettle e k
  if (s1.eng e).first then
    let s2 := (s1.claimed e).foldl (fun st i =>
      st.latchPin (ePin e i) (natBit (st.ef e F.ENG.INIT_LVL.LVL) i) (natBit (st.ef e F.ENG.INIT_OE.OE) i) (st.placeT e k)) s1
    s2.setEng e { s2.eng e with first := false }
  else s1

/-- Engine `e` begins the instruction of opcode `op` in its next step, where that is the word at its PC. -/
def State.runInstr (s : State) (e op : Nat) (body : State → Nat → Nat → Nat → State) : State :=
  let w := s.fetch e
  if s.engReady e && iOp w == op && !s.undefWord e w then
    let st := s.nextStep e (s.eng e).tick
    (body ((s.tookStep e st).engArrive e st.1) e st.1 w).engDrive e
  else s

/-- WAITP and CNT begin: their first step is still to be evaluated, so the reference stands at it. -/
def State.beginWatch (s : State) (e op : Nat) (f : EngSt → EngSt) : State :=
  let w := s.fetch e
  if s.engReady e && iOp w == op && !s.undefWord e w then
    let st := s.nextStep e (s.eng e).tick
    let s1 := (s.advance (s.datum.rawOrg + 8 * st.1)).engArrive e st.1
    (s1.setEng e (f { s1.eng e with tick := st.1, phs := st.2 })).engDrive e
  else s

/-- The steps of a WAITP from reference (`k`, `phs`) after the step at tick `k0`, up to tick `lim`: the first in which
its condition holds (R231). -/
def State.waitpGo (s : State) (e w lim : Nat) : Nat → Nat → Nat → Nat → Option (Nat × Nat)
  | 0, _, _, _ => none
  | fuel + 1, k0, k, phs =>
    let st := s.stepOf e k phs k
    if lim < st.1 then none
    else if s.waitpCond e w k0 st.1 then some st
    else State.waitpGo s e w lim fuel st.1 st.1 (st.2 + s.div256 e)

/-- Where a CNT stands: complete or not, its last step, X, Y, and the reference of the next step (R245). -/
structure CntRes where
  done : Bool
  step : Nat × Nat
  x : Nat
  y : Nat
deriving DecidableEq, Repr

/-- One step of a CNT at tick `k` after the step at tick `k0`: X, Y and whether it completes (R245). -/
def State.cntStep (s : State) (e w k0 k x y : Nat) : Nat × Nat × Bool :=
  let lv := s.idxLevel e (iIdx w) k
  match iMode w with
  | 2 =>
    if x = 0 then (x, y, true)
    else
      let y1 := if lv != s.idxLevel e (iIdx w) k0 then (y + 1) % 2 ^ 32 else y
      (x - 1, y1, x == 1)
  | m =>
    if lv != (m == 0) then (x, y, true)
    else (x, (y + 1) % 2 ^ 32, natBit w 10 && x != 0 && (y + 1) % 2 ^ 32 == x)

/-- The steps of a CNT up to tick `lim` (R245). -/
def State.cntGo (s : State) (e w lim : Nat) : Nat → Nat → Nat → Nat → Nat → Nat → CntRes
  | 0, _, k, phs, x, y => { done := false, step := (k, phs), x := x, y := y }
  | fuel + 1, k0, k, phs, x, y =>
    let st := s.stepOf e k phs k
    if lim < st.1 then { done := false, step := (k, phs), x := x, y := y }
    else match s.cntStep e w k0 st.1 x y with
      | (x1, y1, true) => { done := true, step := st, x := x1, y := y1 }
      | (x1, y1, false) => State.cntGo s e w lim fuel st.1 st.1 (st.2 + s.div256 e) x1 y1

/-- The tick at or after this moment. -/
def State.nowTick (s : State) : Nat := ceilDiv s.raw 8

/-- A CNT under way, with its steps up to tick `lim` (R218, R245). -/
def State.cntTo (s : State) (e lim : Nat) : CntRes :=
  let g := s.eng e
  s.cntGo e (s.fetch e) lim (lim - g.tick + 2) g.prev g.tick g.phs g.x g.y

/-- A CNT under way, with the steps taken up to now. -/
def State.cntNow (s : State) (e : Nat) : CntRes := s.cntTo e (s.raw / 8)

/-- The condition of a WAITP has come to hold (R231). -/
def State.waitpDone (s : State) (e : Nat) : State :=
  let g := s.eng e
  let w := s.fetch e
  let lim := (s.nextStep e s.nowTick).1
  match s.waitpGo e w lim (lim - g.tick + 2) g.prev g.tick g.phs with
  | none => s
  | some st =>
    let s1 := (s.tookStep e st).txSettle e st.1
    let s2 := s1.setEng e { s1.eng e with phase := 0 }
    let s3 := if iTop w && natBit w 3 then s2.clearFlags (e / 4) st.1 (2 ^ (iPIdx w % 8)) else s2
    (s3.engNext e st.1 w).engDrive e

/-- The end condition of a CNT has come to hold (R245). -/
def State.cntDone (s : State) (e : Nat) : State :=
  let w := s.fetch e
  let r := s.cntTo e (s.nextStep e s.nowTick).1
  if !r.done then s
  else
    let s1 := (s.tookStep e r.step).txSettle e r.step.1
    ((s1.setEng e { s1.eng e with x := r.x, y := r.y }).engNext e r.step.1 w).engDrive e

/-- The tick on which a WAITT completes (R233, R235). -/
def State.waittTick (s : State) (e : Nat) (target : Int) (atOnce : Bool) : Nat :=
  let k0 := (s.eng e).tick
  if atOnce ∨ target < 0 then k0
  else max k0 (max (ceilDiv s.datum.fold.baseRaw 8) (ceilDiv (s.rawOf (target.toNat + 1)) 8 - 1))

/-- A WAITT completes: on time with PHASE, or late (R233, R234). -/
def State.waittDone (s : State) (e : Nat) (target : Int) (atOnce : Bool) : State :=
  let w := s.fetch e
  let k := s.waittTick e target atOnce
  let s1 := (s.tookStep e (k, 0)).txSettle e k
  let t := s1.tickT k
  if !atOnce && decide ((t : Int) ≤ target) then
    ((s1.setEng e { s1.eng e with phase := (target - t).toNat % 16 }).engNext e k w).engDrive e
  else
    let s2 := (s1.setEng e { s1.eng e with phase := 0 }).event (pENG e) 11
    if natBit w 10 then s2.engDone e k w ((s2.eng e).pc + 2) 0 false else (s2.engNext e k w).engDrive e

/-- The delay of an instruction runs out: an instruction boundary (R229). -/
def State.delayDone (s : State) (e : Nat) : State :=
  let s1 := s.steps e (s.eng e).dcnt
  (s1.setEng e { s1.eng e with dcnt := 0 }).engBoundary e (s1.eng e).tick

/-- The count of DLY runs out: DLY executes (R229, R236). -/
def State.dlyDone (s : State) (e : Nat) : State :=
  let s1 := s.steps e (s.eng e).dcnt
  (s1.setEng e { s1.eng e with dcnt := 0 }).engDone e (s1.eng e).tick 0 ((s1.eng e).pc + 1) 0 false

/-- The FIFO condition of a stall has cleared: the tick from which it holds (R203). -/
def State.stallClear (s : State) (e : Nat) (kind : StallKind) : Option Nat :=
  match kind with
  | .pull => if (s.eng e).txf ≠ [] then some s.nowTick else ((s.eng e).txIn.head?).map (·.1)
  | .out => if (s.eng e).txf ≠ [] then some s.nowTick else ((s.eng e).txIn.head?).map (·.1)
  | .push => if s.rxRoom e 1 then some s.nowTick else none
  | .inFlush => if s.rxRoom e 1 then some s.nowTick else none
  | .stamp => if s.rxRoom e 2 then some s.nowTick else none

/-- A stalled instruction executes (R203). -/
def State.stallRun (s : State) (e k w : Nat) : StallKind → State
  | .pull => s.doPull e k w
  | .out => s.doOut e k w
  | .push => s.doPush e k w
  | .inFlush => s.inFlush e k w
  | .stamp => s.doStamp e k w

/-- A stall or, with ABORT_WAIT, a wait or delay is abandoned in a swap (R209, R210). -/
def State.abandonable (s : State) (e : Nat) : Bool :=
  match (s.eng e).wait with
  | .stall _ _ _ => true
  | .cnt => false
  | .none => s.flag (pCREW (e / 4)) F.CREW.SWAP.ABORT_WAIT && (s.eng e).dcnt != 0
  | _ => s.flag (pCREW (e / 4)) F.CREW.SWAP.ABORT_WAIT

/-- Is an engine stalled? -/
def EngSt.stalled (g : EngSt) : Bool := match g.wait with | .stall _ _ _ => true | _ => false

/-- The tick before which an abandonment is not possible: the step that the engine has taken, the arrival of the swap at the
island, and of ABORT_WAIT for a wait or delay. The first step of a WAITP, still to be evaluated, is its execution. -/
def State.abandonFrom (s : State) (e : Nat) : Nat :=
  let g := s.eng e
  let c := s.crew (e / 4)
  max (max (if g.wait = .waitp then g.tick + 1 else g.tick) (ceilDiv c.swapFrom 8)) (if g.stalled then 0 else c.abortFrom)

/-- The abandonment, at the engine's next step once the swap has reached the island. -/
def State.abandon (s : State) (e : Nat) : State :=
  let st := s.nextStep e (s.abandonFrom e)
  if s.mustMove e st.1 && s.abandonable e && !s.engFrozen then
    let s1 := (s.tookStep e st).txSettle e st.1
    let s2 := match (s.eng e).wait with
      | .stall _ start _ => s1.stallLen e (st.1 - start)
      | _ => s1
    ((s2.bump (pCREW (e / 4)) F.CREW.ABANDONED.COUNT).event (pCREW (e / 4)) 17).engMove e
  else s

/-- A stall ends in the first step at or after the tick on which its condition clears (R203–R205); in a swap that has reached the
island it is abandoned, with the words that arrive on that tick in the FIFO (R209, R211). -/
def State.stallDone (s : State) (e : Nat) (kind : StallKind) (start : Nat) : State :=
  match s.stallClear e kind with
  | none => s
  | some lo =>
    let st := s.nextStep e (max lo (start + 1))
    if s.mustMove e st.1 then s.abandon e
    else
      let s1 := ((s.tookStep e st).txSettle e st.1).stallLen e (st.1 - start)
      ((s1.setEng e { s1.eng e with wait := .none }).stallRun e st.1 (s.fetch e) kind).engDrive e

/-! Registers. -/

/-- A read of RXF (R197). -/
def State.rxfPop (s : State) (e : Nat) : State :=
  match (s.eng e).rxf with
  | [] => { s with result := some 0 }
  | v :: t => { (s.setEng e { s.eng e with rxf := t }) with result := some (w32 v) }

/-- A write to TXF: the word reaches the FIFO 30 hns after the decode (R197). Nothing leaves the FIFO of an engine that does not run,
so that whether the word finds room is settled at once. -/
def State.txfWrite (s : State) (e : Nat) (d : Word) : State :=
  let s1 := s.txSettle e (s.raw / 8)
  let k := s.tickAt (s.now + 30)
  let s2 := s1.setEng e { s1.eng e with txIn := (s1.eng e).txIn ++ [(k, d.toNat)] }
  if s.running (pENG e) then s2 else s2.txSettle e k

/-- A write of 1 to SNAP.GO (R218). -/
def State.engSnap (s : State) (e : Nat) : State :=
  let g := s.eng e
  let xy := if g.wait = .cnt then (let r := s.cntNow e; (r.x, r.y)) else (g.x, g.y)
  s.setEng e { g with snap := { pc := g.pc, x := xy.1, y := xy.2, osr := g.osr, isr := g.isr, osc := g.osc, isc := g.isc } }

/-- Do the live registers of an engine show (R218)? -/
def State.engLive (s : State) (e : Nat) : Bool := !s.running (pENG e) || s.held (pENG e)

/-- A write to JUMP (R217). A jump of an engine held in a stall ends the stall (assumption log 16). -/
def State.engJump (s : State) (e w : Nat) : State :=
  if s.running (pENG e) && s.held (pENG e) then
    s.setEng e { s.eng e with pc := (s.eng e).pc / 128 * 128 + w % 128, wait := .none }
  else s

/-- A write of the bits `mask` of X, Y, OSR or ISR (R218). -/
def State.engRegWrite (s : State) (e off : Nat) (mask d : Word) : State :=
  let g := s.eng e
  let put := fun (old : Nat) => (((w32 old) &&& ~~~mask) ||| (d &&& mask)).toNat
  if !(s.held (pENG e) || !s.flag (pENG e) F.HDR.PCTL.EN) then s
  else if off = 0x58 then s.setEng e { g with x := put g.x }
  else if off = 0x5C then s.setEng e { g with y := put g.y }
  else if off = 0x60 then s.setEng e { g with osr := put g.osr }
  else s.setEng e { g with isr := put g.isr }

/-- An engine leaves its hold: its next step is the first of its schedule after this moment (R60, R205). -/
def State.engUnhold (s : State) (e : Nat) : State :=
  let s1 := s.set (pENG e) F.HDR.PCTL.HOLD 0
  if !s1.held (pENG e) || s1.flag (pCREW (e / 4)) F.HDR.PCTL.HOLD then s1
  else
    let s2 := s1.set (pENG e) F.HDR.PSTS.HELD 0
    let st := s2.nextStep e (s2.raw / 8 + 1)
    s2.setEng e { s2.eng e with tick := st.1, phs := st.2 }

/-- A write to GO_ENG (R213). -/
def State.goEng (s : State) (c mask : Nat) : State :=
  ((List.range 4).filter (fun k => natBit mask k)).foldl (fun st k => st.engUnhold (4 * c + k)) s

/-- The claimed window indices of an engine as a mask. -/
def State.claimMask (s : State) (e : Nat) : Nat := ((s.claimed e).map (fun i => 2 ^ i)).sum

/-- A write of 1 to SWAP.GO (R208). -/
def State.swapGo (s : State) (c : Nat) : State :=
  if s.flag (pCREW c) F.CREW.SWAP.GO then s
  else match (s.runEngs c).find? (fun k => s.get (pCREW c) (F.CREW.IDLE_OWN.MASK.at (4 * k)) != s.claimMask (4 * c + k)) with
    | some k => s.refuse (pCREW c) 0x10 k
    | none =>
      let s1 := s.set (pCREW c) F.CREW.STS.MOVED 0
      if s.runEngs c = [] then s1.swapFinish c
      else ((s1.set (pCREW c) F.CREW.SWAP.GO 1).set (pCREW c) F.CREW.STS.BUSY 1).setCrew c { s1.crew c with swapFrom := s1.raw + 30 }

/-- Writes to instruction memory and ENTRY registers (R207). -/
def State.imemWrite (s : State) (c off : Nat) (v : Word) : State :=
  let bank := if off < 0x800 then (off - 0x60) / 4 else (off - 0x800) / 0x200
  if s.flag (pCREW c) F.CREW.STS.BUSY ∨ (s.runEngs c ≠ [] ∧ bank = s.get (pCREW c) F.CREW.STS.ACTIVE) then
    (s.bump (pCREW c) F.CREW.IMEM_DROP.COUNT).event (pCREW c) 18
  else s.wr (pCREW c) off v

/-- A write of firmware to FLAGSET (R212), 30 hns on its way (R25). -/
def State.flagSet (s : State) (c m : Nat) : State := s.setFlags c (ceilDiv (s.raw + 30) 8) m

/-- ABORT_WAIT rises: it applies from the next tick (R210). -/
def State.abortAsk (s : State) (c : Nat) : State := s.setCrew c { s.crew c with abortFrom := s.raw / 8 + 1 }

/-- A write of firmware to FLAGS: W1C (R212). -/
def State.flagClear (s : State) (c m : Nat) : State :=
  s.clearFlags c (ceilDiv (s.raw + 30) 8) m

/-! Page operations of ENG and CREW (R216, R218, R221). -/

/-- Accepted enable of an engine. Words on their way to the transmit FIFO arrive after it is emptied. -/
def State.engOn (s : State) (e : Nat) : State :=
  let c := e / 4
  let b := s.get (pCREW c) F.CREW.STS.ACTIVE
  let k := s.raw / 8 + 1
  let s1 := (s.claimed e).foldl (fun st i => st.setPin (ePin e i) { st.pin (ePin e i) with owner := some e }) (s.txSettle e (s.raw / 8))
  s1.setEng e { s1.eng e with
    pc := 128 * b + s.entryOf c b (e % 4), osc := 0, isc := 0, dcnt := 0, phase := 0, tick := k, prev := k, phs := 0,
    txf := [], rxf := [], latch := 0, latchCnt := 0, latchOld := (0, 0), wait := .none, claims := true, first := true }

/-- An engine stops: with EN = 0 its claims are released, on a fault they stay (R221); a CNT has counted up to here (R245); it
leaves a swap (R211). -/
def State.engOff (s : State) (e : Nat) (keep : Bool) : State :=
  let s0 := s.txSettle e (s.raw / 8)
  let g := s0.eng e
  let xy := if g.wait = .cnt then (let r := s0.cntNow e; (r.x, r.y)) else (g.x, g.y)
  let s1 := s0.setEng e { g with dcnt := 0, wait := .none, claims := keep && g.claims, x := xy.1, y := xy.2 }
  s1.swapCheck (e / 4)

/-- CLR of an engine page: the pins that it claims, or claimed last, return to high impedance, and its state clears (R191,
R221). -/
def State.engClr (s : State) (e : Nat) : State :=
  let s1 := s.releasePins ((List.range 256).filter (fun p => (s.pin p).owner == some e))
  (s1.engOff e false).setEng e EngSt.init

/-- CLR of a crew: the flags clear with the registers (R216). -/
def State.crewClr (s : State) (c : Nat) : State := s.setCrew c CrewSt.init

/-- Is every running engine of a crew held at its hold point (R205, R216)? -/
def State.engAtHold (s : State) (e : Nat) : Bool :=
  match (s.eng e).wait with
  | .none => (s.eng e).dcnt == 0
  | .stall _ _ _ => true
  | _ => false

/-! Commands. -/

def execInstrWaitt (eng : Nat) (s : State) : Host.Outcome State Fault Refusal := .next (s.runInstr eng 1 State.doWaitt)

def execWaittComplete (eng : Nat) (s : State) : Host.Outcome State Fault Refusal :=
  .next (match (s.eng eng).wait with
    | .waitt t a => if s.running (pENG eng) && !s.engFrozen then s.waittDone eng t a else s
    | _ => s)

def execInstrWaitp (eng : Nat) (s : State) : Host.Outcome State Fault Refusal :=
  .next (s.beginWatch eng 2 (fun g => { g with wait := .waitp }))

def execWaitpComplete (clk eng : Nat) (s : State) : Host.Outcome State Fault Refusal :=
  .next (if s.running (pENG eng) && !s.engFrozen && (s.eng eng).wait == .waitp then (s.advance clk).waitpDone eng else s.advance clk)

def execInstrDly (eng : Nat) (s : State) : Host.Outcome State Fault Refusal := .next (s.runInstr eng 3 State.doDly)

def execDlyComplete (eng : Nat) (s : State) : Host.Outcome State Fault Refusal :=
  .next (if s.running (pENG eng) && !s.engFrozen && (s.eng eng).wait == .dly then s.dlyDone eng else s)

def execInstrCnt (eng : Nat) (s : State) : Host.Outcome State Fault Refusal :=
  .next (s.beginWatch eng 4 (fun g => { g with wait := .cnt, y := 0 }))

def execCntComplete (clk eng : Nat) (s : State) : Host.Outcome State Fault Refusal :=
  .next (if s.running (pENG eng) && !s.engFrozen && (s.eng eng).wait == .cnt then (s.advance clk).cntDone eng else s.advance clk)

def execInstrJmp (eng : Nat) (s : State) : Host.Outcome State Fault Refusal := .next (s.runInstr eng 5 State.doJmp)
def execInstrMov (eng : Nat) (s : State) : Host.Outcome State Fault Refusal := .next (s.runInstr eng 6 State.doMov)
def execInstrSet (eng : Nat) (s : State) : Host.Outcome State Fault Refusal := .next (s.runInstr eng 7 State.doSet)
def execInstrOut (eng : Nat) (s : State) : Host.Outcome State Fault Refusal := .next (s.runInstr eng 8 State.doOut)
def execInstrIn (eng : Nat) (s : State) : Host.Outcome State Fault Refusal := .next (s.runInstr eng 9 State.doIn)
def execInstrPull (eng : Nat) (s : State) : Host.Outcome State Fault Refusal := .next (s.runInstr eng 10 State.doPull)
def execInstrPush (eng : Nat) (s : State) : Host.Outcome State Fault Refusal := .next (s.runInstr eng 11 State.doPush)
def execInstrStamp (eng : Nat) (s : State) : Host.Outcome State Fault Refusal := .next (s.runInstr eng 12 State.doStamp)
def execInstrNote (eng : Nat) (s : State) : Host.Outcome State Fault Refusal := .next (s.runInstr eng 13 State.doNote)

/-- The step in which an undefined word would execute (R228): the engine detects the fault and stops. -/
def State.undefStep (s : State) (eng : Nat) : State :=
  let st := s.nextStep eng (s.eng eng).tick
  (((((s.tookStep eng st).engArrive eng st.1).engDrive eng).blockFault (pENG eng)).stopRun (pENG eng)).engOff eng true

def execInstrDelayEnd (eng : Nat) (s : State) : Host.Outcome State Fault Refusal :=
  .next (if s.running (pENG eng) && !s.engFrozen && (s.eng eng).wait == .none && (s.eng eng).dcnt != 0 then s.delayDone eng else s)

def execEngineStallEnd (eng : Nat) (s : State) : Host.Outcome State Fault Refusal :=
  .next (match (s.eng eng).wait with
    | .stall kind start _ => if s.running (pENG eng) && !s.engHold eng && !s.engFrozen then s.stallDone eng kind start else s
    | _ => s)

def execEngTxfWrite (clk eng : Nat) (data : Word) (s : State) : Host.Outcome State Fault Refusal :=
  .next (if eng < 64 then
    (s.advance clk).regWrite (pENG eng) 0x74 (2 ^ 32 - 1) data.toNat .host (fun t => t.txfWrite eng data)
  else s.advance clk)

def execEngRxfPop (clk eng : Nat) (s : State) : Host.Outcome State Fault Refusal :=
  .next (if eng < 64 then (s.advance clk).whenOn (fun t => t.rxfPop eng) else s.advance clk)

def execEngJump (clk eng word : Nat) (s : State) : Host.Outcome State Fault Refusal :=
  .next (if eng < 64 then
    (s.advance clk).fldWrite (pENG eng) F.ENG.JUMP.WORD word (fun t => t.engJump eng word)
  else s.advance clk)

def execEngSnap (clk eng : Nat) (s : State) : Host.Outcome State Fault Refusal :=
  .next (if eng < 64 then (s.advance clk).bitWrite (pENG eng) F.ENG.SNAP.GO (fun t => t.engSnap eng) else s.advance clk)

def execCrewSwapGo (clk crew : Nat) (s : State) : Host.Outcome State Fault Refusal :=
  .next (if crew < 16 then (s.advance clk).bitWrite (pCREW crew) F.CREW.SWAP.GO (fun t => t.swapGo crew) else s.advance clk)

def execCrewGoEng (clk crew mask : Nat) (s : State) : Host.Outcome State Fault Refusal :=
  .next (if crew < 16 then
    (s.advance clk).fldWrite (pCREW crew) F.CREW.GO_ENG.MASK mask (fun t => t.goEng crew mask)
  else s.advance clk)

def execCrewFlagset (clk crew mask : Nat) (s : State) : Host.Outcome State Fault Refusal :=
  .next (if crew < 16 then
    (s.advance clk).fldWrite (pCREW crew) F.CREW.FLAGSET.FLAG mask (fun t => t.flagSet crew mask)
  else s.advance clk)

/-- R204: the stall reaches STALL_TH ticks. -/
def execStallLong (eng : Nat) (s : State) : Host.Outcome State Fault Refusal :=
  .next (match (s.eng eng).wait with
    | .stall kind start false =>
      if s.ef eng F.ENG.STALL_TH.TICKS = 0 || s.engFrozen then s
      else
        let s1 := s.advance (s.datum.rawOrg + 8 * (start + s.ef eng F.ENG.STALL_TH.TICKS))
        (s1.setEng eng { s1.eng eng with wait := .stall kind start true }).event (pENG eng) 8
    | _ => s)

def execSwapAbandon (eng : Nat) (s : State) : Host.Outcome State Fault Refusal := .next (s.abandon eng)

end Sys2Proof.Machine
end

