-- ==== Sys2Proof/Machine/Stake.lean ====
section
/-!
DEFINITION. Stakes (R160–R182, R186): issue, arrival, cancel, handover, release, receipts and records. The release of
class 3 stakes stands in StakeReg.lean, beside the register bus it writes through.
-/

namespace Sys2Proof.Machine

/-! The 32 bytes (R160). -/

/-- A stake from its bytes. -/
def stakeOf (b : List Byte) : Stake :=
  let f := fun i => (nth b i 0).toNat
  { node := f 0, member := f 1 / 64, cls := f 1 / 8 % 8, policy := f 1 / 2 % 4, rcpt := natBit (f 2) 0,
    cancel := natBit (f 2) 1, srcNode := f 3 % 128, srcMember := f 6 / 64, id := ofBE (slice b 4 2),
    tRel := ofBE (slice b 8 8), validLen := ofBE (slice b 16 4), target := ofBE (slice b 20 4),
    value := ofBE (slice b 24 8),
    rsv := natBit (f 1) 0 || f 2 / 4 != 0 || natBit (f 3) 7 || f 6 % 64 != 0 || f 7 != 0,
    bcast := f 0 == 0xFF, ins := 0 }

/-- Issuing node and member filled in (R164). -/
def fillSrc (b : List Byte) (node member : Nat) : List Byte :=
  let n := if (nth b 0 0).toNat = 0 then BitVec.ofNat 8 node else nth b 0 0
  n :: (slice b 1 2) ++ [BitVec.ofNat 8 ((nth b 3 0).toNat / 128 * 128 + node % 128)] ++ slice b 4 2 ++
    [BitVec.ofNat 8 (member * 64 + (nth b 6 0).toNat % 64)] ++ slice b 7 25

/-- The key of a stake (R160). -/
def sameKey (a b : Stake) : Bool := a.srcNode == b.srcNode && a.srcMember == b.srcMember && a.id == b.id

/-- Queue order (R171). -/
def stakeLe (a b : Stake) : Bool := decide (a.tRel < b.tRel) || (a.tRel == b.tRel && decide (a.ins ≤ b.ins))
def stakeIns (x : Stake) : List Stake → List Stake
  | [] => [x]
  | y :: t => if stakeLe y x then y :: stakeIns x t else x :: y :: t

/-- Crew island of a class 0 or 1 stake (R161). -/
def stakeCrew (x : Stake) : Nat := if x.cls = 0 then x.target % 256 / 16 else x.target % 64 / 4

/-- Register page and offset of a class 3 stake (R161). -/
def stakePage (x : Stake) : Nat := natField x.target 10 8
def stakeOff (x : Stake) : Nat := 4 * natField x.target 0 10

/-- Plat byte and width of a class 4 stake. -/
def stakeByte (x : Stake) : Nat := natField x.target 0 18
def stakeWidth (x : Stake) : Nat := 2 ^ natField x.target 28 4

/-! Frames. -/

def State.sda (s : State) : Nat := groupAddr (s.get pSTAKE F.STAKE.SDA_HI.DA_HI) (s.get pSTAKE F.STAKE.SDA_LO.DA_LO)

/-- A STAKE frame (R165). -/
def State.stakeFrame (s : State) (l : List (List Byte)) : Frame :=
  s.spanen s.sda 2 0 s.hdrCycle (beBytes 1 l.length ++ beBytes 3 0) l.flatten none

/-- The bytes of a stake that passed check 1 (R160). -/
def stakeBytes (x : Stake) : List Byte :=
  beBytes 1 x.node ++ beBytes 1 (x.member * 64 + x.cls * 8 + x.policy * 2) ++
    beBytes 1 (bit x.rcpt + 2 * bit x.cancel) ++ beBytes 1 x.srcNode ++ beBytes 2 x.id ++ beBytes 1 (x.srcMember * 64) ++
    beBytes 1 0 ++ beBytes 8 x.tRel ++ beBytes 4 x.validLen ++ beBytes 4 x.target ++ beBytes 8 x.value

/-! Outcomes (R176–R180). -/

/-- Payload of a receipt (R176). -/
def State.rcptPayload (s : State) (x : Stake) (code flags t : Nat) : List Byte :=
  beBytes 2 x.id ++ beBytes 1 (x.srcMember * 64) ++ beBytes 1 x.srcNode ++ beBytes 1 code ++
    beBytes 1 (flags + 2 * bit x.bcast) ++ beBytes 2 s.stake.q.length ++ beBytes 8 x.tRel ++ beBytes 8 t

/-- A receipt addressed to this hub enters the receipt queue (R178). -/
def State.rcptIn (s : State) (node member : Nat) (p : List Byte) : State :=
  if s.stake.rcpts.length < 32 then
    let s1 := { s with stake := { s.stake with rcpts := s.stake.rcpts ++ [{ node := node, member := member, payload := p }] } }
    if s.stake.rcpts = [] then s1.event pSTAKE 11 else s1
  else (s.bump pSTAKE F.STAKE.RCPTOVF.COUNT).event pSTAKE 13

/-- Send a receipt: over the ring, over the gang links to another member of this node, or, where this hub issued the stake,
into its own queue (R176, R178). -/
def State.sendRcpt (s : State) (x : Stake) (code flags t : Nat) : State :=
  let p := s.rcptPayload x code flags t
  let f := s.spanen s.sda 3 0 s.hdrCycle (beBytes 4 0) p none
  if s.standby then s
  else if x.srcNode = s.nid ∧ x.srcMember = s.member then s.rcptIn s.nid s.member p
  else if s.inGang && x.srcNode == s.nid then s.sendMember x.srcMember f none
  else s.sendRing f

/-- The counter and the event of an outcome (R183, R184). -/
def State.outcomeCount (s : State) (code : Nat) : State :=
  if code = 0 then s.bump pSTAKE F.STAKE.RELEASED.COUNT
  else if code = 1 then (s.bump pSTAKE F.STAKE.LATE.COUNT).event pSTAKE 8
  else if code = 2 ∨ code = 0x20 then (s.bump pSTAKE F.STAKE.MISSED.COUNT).event pSTAKE 9
  else if 0x10 ≤ code then (s.bump pSTAKE F.STAKE.REJECTED.COUNT).event pSTAKE 10
  else s

/-- The record of an outcome; `judged` is the T_exec on which it was judged (R179). R182 sets REPEAT_RISK in the record too,
for which R179 leaves no place but flag bit 7 (DESIGN CHOICE, assumption log 48). A cancelled stake (0x03) has no record, since
R179 gives it no kind (DESIGN CHOICE, assumption log 95). -/
def State.outcomeRec (s : State) (x : Stake) (code flags t judged : Nat) : State :=
  if code = 3 ∨ (code = 0 ∧ s.flag pSTAKE F.STAKE.CFG.LOG_REL = false) then s
  else s.stage .mgt {
    t := t, kind := if code = 0 then 0x10 else if code = 1 then 0x11 else 0x12,
    flags := x.cls % 8 + 8 * (x.policy % 4) + 32 * bit x.bcast + 64 * (flags % 2) + 128 * natField flags 2 1,
    source := x.id,
    data := leBytes 4 (min (judged - x.tRel) (2 ^ 32 - 1)) ++ leBytes 1 x.srcNode ++ leBytes 1 code ++ leBytes 2 x.target }

/-- The release notice of an active hub of a pair (R180, R399). -/
def State.relNotice (s : State) (x : Stake) (code t : Nat) : State :=
  if s.running pDUPLEX && (s.dupState == some 1 || s.dupState == some 5) && (decide (code < 3) || code == 0x20) then
    s.sendRelease {
      id := x.id, srcMember := x.srcMember, srcNode := x.srcNode, outcome := code, cls := x.cls,
      pin := if x.cls = 0 then x.target % 256 else 0, value := if x.cls = 0 then x.value % 4 else 0, tExec := t }
  else s

/-- An outcome: count, record, notice and receipt. `rc` is false for a cancel by register that found nothing (R170). -/
def State.outcome (s : State) (x : Stake) (code flags t judged : Nat) (rc : Bool) : State :=
  let s1 := (((s.outcomeCount code).outcomeRec x code flags t judged).relNotice x code t)
  if rc && (x.rcpt || (decide (0x10 ≤ code) && !x.bcast)) then s1.sendRcpt x code flags t else s1

/-! Arrival (R168–R170). -/

/-- Does MEMBER name a member of this node (R168)? -/
def State.memberOk (s : State) (m : Nat) : Bool :=
  if s.inGang then natBit (s.get pGANGCTL F.GANGCTL.CFG.MEMBERS) m else m == 0

/-- Do TARGET and VALUE name an existing target (check 1 of R168)? -/
def targetOk (x : Stake) : Bool :=
  match x.cls with
  | 0 => decide (x.target < 256) && decide (x.value < 3)
  | 1 => decide (x.target < 64)
  | 2 => natField x.target 6 2 == 0 && decide (x.target < 512) && natField x.target 4 2 != 3
  | 3 => decide (x.target < 2 ^ 18) && (rowAt (stakePage x) (stakeOff x)).isSome
  | 4 => natField x.target 18 10 == 0 && decide (natField x.target 28 4 < 4) && stakeByte x % stakeWidth x == 0
  | _ => false

/-- Check 1 (R168, R170). -/
def State.malformed (s : State) (x : Stake) : Bool :=
  x.rsv || !s.memberOk x.member || (!x.cancel && (decide (4 < x.cls) || decide (2 < x.policy) || !targetOk x))

/-- Pages a class 3 stake may not name (R163). -/
def stakeForbidden : List Nat :=
  [pSYS, pRESET, pIRQ, pSTAKE, pBRIDGE, pWINDOWS, pDUPLEX, pGANGCTL, pMONUMENT, pTAMPER, pMACSEC, pCAL]

/-- Checks 2 and 3 (R168). -/
def State.unassigned (s : State) (x : Stake) : Option Nat :=
  if x.cls = 0 ∧ s.stakePin x.target = false then some 0x11
  else if x.cls = 4 ∧ s.ownOutput (stakeByte x) (stakeWidth x) = false then some 0x11
  else if x.cls = 3 ∧ stakeForbidden.contains (stakePage x) then some 0x12
  else none

/-- Lateness at a T_exec: 0 on time, 1 late and executed, 2 late and discarded (R175). -/
def State.verdict (s : State) (x : Stake) (t : Nat) : Nat :=
  if t < x.tRel + s.get pSTAKE F.STAKE.LATE_TOL.TOL then 0
  else if x.policy = 1 ∨ (x.policy = 2 ∧ t < x.tRel + x.validLen) then 1
  else 2

/-- Is release stopped at the queue head (R186)? -/
def State.stakeHeld (s : State) : Bool := s.holdAsked pSTAKE || s.held pSTAKE

/-- The T_exec a stake would have if the queue reached it now (R172). -/
def State.wouldExec (s : State) (x : Stake) : Nat :=
  if x.cls < 2 then max x.tRel (s.now + 400) else max x.tRel s.now

/-- Entry into the release queue (R168, R180). -/
def State.stakeInsert (s : State) (x : Stake) : State :=
  let y := { x with ins := s.stake.ins }
  let q := stakeIns y s.stake.q
  let s1 := { s with stake := { s.stake with q := q, ins := s.stake.ins + 1 } }
  let s2 := s1.set pSTAKE F.STAKE.QSTS.HWM (max (s1.get pSTAKE F.STAKE.QSTS.HWM) q.length)
  if s2.standby then
    let l := s2.stake.side ++ [{ st := y, t := s.now }]
    if l.length ≤ 64 then { s2 with stake := { s2.stake with side := l } }
    else (({ s2 with stake := { s2.stake with side := l.drop 1 } }).bump pSTAKE F.STAKE.MISSED.COUNT).event pSTAKE 9
  else s2

/-- Is a stake with this key held (R168, R169)? -/
def State.keyHeld (s : State) (x : Stake) : Bool :=
  s.stake.q.any (sameKey x) || s.stake.island.any (fun h => sameKey x h.st)

/-- Remove the stake with a key (R170): at once from the queue, on its way to the island from the island's entries. The
last argument is the cancelling stake, where one came. -/
def State.stakeCancel (s : State) (k : Stake) (caller : Option Stake) : State :=
  match s.stake.q.find? (sameKey k) with
  | some x =>
    let s1 := { s with stake := { s.stake with
      q := s.stake.q.erase x, side := s.stake.side.filter (fun y => !sameKey k y.st) } }
    s1.outcome x 3 0 s.now s.now true
  | none =>
    if s.stake.island.any (fun h => sameKey k h.st) then
      { s with stake := { s.stake with wd := s.stake.wd ++
          [{ id := k.id, srcNode := k.srcNode, srcMember := k.srcMember, t := s.now, stk := caller }] } }
    else match caller with
      | some c => s.outcome c 0x16 0 s.now s.now true
      | none => s.outcome k 0x16 0 s.now s.now false

/-- The checks of an arrived stake (R168, R170, R175). A broadcast under CFG.BCAST = 0 is skipped before check 1, and a
rejected stake's record takes the T of the decision for its T_exec (DESIGN CHOICE, assumption log 95). -/
def State.stakeCheck (s : State) (x : Stake) : State :=
  let t := s.now
  if x.bcast && !s.flag pSTAKE F.STAKE.CFG.BCAST then s.bump pSTAKE F.STAKE.BCAST_SKIP.COUNT
  else if s.malformed x then s.outcome x 0x10 0 t t true
  else if x.cancel then s.stakeCancel x (some x)
  else match s.unassigned x with
    | some c => if x.bcast then s.bump pSTAKE F.STAKE.BCAST_SKIP.COUNT else s.outcome x c 0 t t true
    | none =>
      if t + 2000 * s.get pSTAKE F.STAKE.HORIZON.HORIZON ≤ x.tRel then s.outcome x 0x13 0 t t true
      else if s.keyHeld x then s.outcome x 0x15 0 t t true
      else if 256 ≤ s.stake.q.length then s.outcome x 0x14 0 t t true
      else if !s.stakeHeld && s.mayRelease && s.verdict x (s.wouldExec x) == 2 then s.outcome x 2 0 t (s.wouldExec x) true
      else s.stakeInsert x

/-- A stake for this node reaches the hub: the acting lead passes on what is for another member, to the twin where that
acts for it (R166, R418). The stakes of a fenced member are discarded (R417). -/
def State.stakeIn (s : State) (b : List Byte) : State :=
  let x := stakeOf b
  if !s.running pSTAKE || s.fenced || (x.node != s.nid && x.node != 0xFF) then s
  else if s.inGang && x.srcNode == s.nid && x.srcMember != s.member && s.memFenced x.srcMember then s
  else if s.inGang && !s.actsFor x.member && !(s.standby && x.member == s.guards s.member) then
    if !s.isLead then s
    else
      let m := s.actingFor x.member
      if s.memPresent m && !s.memFenced m then s.sendMember m (s.stakeFrame [b]) none
      else s.outcome x 0x10 0 s.now s.now true
  else s.stakeCheck x

/-! Issue (R164, R165, R167). -/

/-- A stake is dropped at ISSUE7. -/
def State.issueDrop (s : State) : State := (s.bump pSTAKE F.STAKE.ISSUEDROP.COUNT).event pSTAKE 12

/-- The address that the address error of a stake with a reserved target node captures (R31, R32): the node and the member it
names, with the local address of a class 3 or 4 target. The spec gives a stake no address of its own (DESIGN CHOICE,
assumption log 46). -/
def stakeAddr (x : Stake) : Nat :=
  x.node * 2 ^ 40 + x.member * 2 ^ 38 + (if x.cls = 3 then 0x1000000 + stakePage x * 4096 + stakeOff x
    else if x.cls = 4 then stakeByte x else 0)

/-- A write of ISSUE7, with the seven words written before it (R48, R164). A reserved target node is not sent (R32). -/
def State.stakeIssue (s : State) (w7 : Word) : State :=
  let ws := (List.range 7).map (fun i => tabGet regDefault s.latch (regKey pSTAKE (0x60 + 4 * i))) ++ [w7]
  let b := fillSrc (ws.flatMap (fun w => beBytes 4 w.toNat)) s.nid s.member
  let x := stakeOf b
  if !s.running pSTAKE then s.issueDrop
  else if 0x80 ≤ x.node ∧ x.node < 0xFF then s.addressError (stakeAddr x) .stake
  else if x.node = s.nid ∧ (x.member = s.member ∨ s.inGang = false ∨ s.isLead) then s.stakeIn b
  else if 16 ≤ s.stake.issue.length then s.issueDrop
  else { s with stake := { s.stake with issue := s.stake.issue ++ [b] } }

/-- Consecutive stakes at the head for one node, at most eight (R165). -/
def packHead (n : Nat) : Nat → List (List Byte) → List (List Byte)
  | 0, _ => []
  | _, [] => []
  | k + 1, b :: t => if (stakeOf b).node = n then b :: packHead n k t else []

/-- A short lead counts (R167); a broadcast counts as one for another node (DESIGN CHOICE, assumption log 95). -/
def State.leadMark (s : State) (x : Stake) : State :=
  if x.node ≠ s.nid ∧ x.tRel < s.now + s.get pSTAKE F.STAKE.MIN_LEAD.LEAD then
    (s.bump pSTAKE F.STAKE.SHORTLEAD.COUNT).event pSTAKE 14 else s

/-- Stakes leave the issue queue in one frame; the hub takes its own copy of a broadcast (R164, R165). -/
def State.stakeSend (s : State) : State :=
  match s.stake.issue with
  | [] => s
  | b :: _ =>
    if !s.running pSTAKE || s.fenced then s
    else
      let l := packHead (stakeOf b).node 8 s.stake.issue
      let s1 := { s with stake := { s.stake with issue := s.stake.issue.drop l.length } }
      let s2 := ((l.map stakeOf).foldl State.leadMark s1).sendRing (s1.stakeFrame l)
      (l.filter (fun y => (stakeOf y).bcast)).foldl State.stakeIn s2

/-! Release (R171–R175). -/

/-- Handed entries of a crew. -/
def State.handedTo (s : State) (c : Nat) : Nat := (s.stake.island.filter (fun h => stakeCrew h.st == c)).length

/-- A class 0 or 1 stake is handed to its crew island (R172); a stake already late is judged now (R175, R179). -/
def State.handover (s : State) : State :=
  if !s.running pSTAKE || s.stakeHeld || !s.mayRelease then s
  else match s.stake.q.find? (fun x => decide (x.cls < 2) && decide (s.handedTo (stakeCrew x) < 8)) with
    | none => s
    | some x =>
      let s1 := s.advanceT (x.tRel - 400)
      let t := if s1.now + 400 ≤ x.tRel then x.tRel else max x.tRel (s1.now + 400)
      let s2 := { s1 with stake := { s1.stake with q := s1.stake.q.erase x } }
      if s2.verdict x t = 2 then s2.outcome x 2 0 s2.now t true
      else { s2 with stake := { s2.stake with
          island := s2.stake.island ++ [{ st := x, floor := if s1.now + 400 ≤ x.tRel then 0 else t }] } }

/-- Can the target take the stake (R174)? Class 3 is judged in StakeReg.lean. -/
def State.stakeReady (s : State) (x : Stake) : Bool :=
  match x.cls with
  | 0 => s.stakePin x.target
  | 1 =>
    let e := x.target
    let s1 := s.txSettle e (s.tickAt s.now - 1)
    s.running (pENG e) && decide ((s1.eng e).txf.length + 2 ≤ s.txDepth e)
  | 2 => s.canStakeReady (x.target % 16) (natField x.target 4 2)
  | _ => s.ownOutput (stakeByte x) (stakeWidth x)

/-- The effect of a stake at this moment (R161, R197, R301). -/
def State.stakeEffect (s : State) (x : Stake) : State :=
  match x.cls with
  | 0 => s.drivePin x.target (x.value % 4 == 1) (x.value % 4 != 2) s.now
  | 1 =>
    let e := x.target
    let s1 := s.txSettle e (s.tickAt s.now - 1)
    s1.setEng e { s1.eng e with txf := (s1.eng e).txf ++ [x.value / 2 ^ 32 % 2 ^ 32, x.value % 2 ^ 32] }
  | 2 => s.canStake (x.target % 16) (natField x.target 4 2) (natBit x.target 8) x.value
  | _ => s.stageBytes (stakeByte x) (leBytes (stakeWidth x) x.value)

/-- Execution at T_exec = now: judged, tested, carried out (R174, R175). -/
def State.stakeRun (s : State) (x : Stake) (flags : Nat) (ready : Bool) (eff : State → State) : State :=
  let t := s.now
  let v := s.verdict x t
  if v = 2 then s.outcome x 2 flags t t true
  else if !ready then s.outcome x 0x20 flags t t true
  else (eff s).outcome x v flags t t true

/-- The handed entry of a class that is due first (R171, R172). -/
def handedBest (c : Nat) (l : List Handed) : Option Handed :=
  (l.filter (fun h => h.st.cls == c)).foldl (fun o h =>
    match o with
    | none => some h
    | some b => if max h.st.tRel h.floor < max b.st.tRel b.floor ∨
        (max h.st.tRel h.floor = max b.st.tRel b.floor ∧ h.st.ins < b.st.ins) then some h else o) none

/-- A handed stake of class `c` comes due (R172, R173). -/
def State.islandExec (s : State) (c : Nat) : State :=
  if !s.running pSTAKE || !s.mayRelease then s
  else match handedBest c s.stake.island with
    | none => s
    | some h =>
      let s1 := s.advanceT (max h.st.tRel h.floor)
      let s2 := { s1 with stake := { s1.stake with island := s1.stake.island.erase h } }
      s2.stakeRun h.st 0 (s2.stakeReady h.st) (fun st => st.stakeEffect h.st)

/-- The queued stake of class `c` that is due first comes due (R172). -/
def State.queueExec (s : State) (c : Nat) : State :=
  if !s.running pSTAKE || s.stakeHeld || !s.mayRelease then s
  else match s.stake.q.find? (fun x => x.cls == c) with
    | none => s
    | some x =>
      let s1 := s.advanceT x.tRel
      let s2 := { s1 with stake := { s1.stake with q := s1.stake.q.erase x } }
      s2.stakeRun x 0 (s2.stakeReady x) (fun st => st.stakeEffect x)

/-- The stake that a cancel by register names: this hub's key for it. A stake that is not there has no CLASS, POLICY, TARGET and
T_REL to record: free values (assumption log 2). -/
def State.cancelKey (s : State) (id srcNode srcMember : Nat) : Stake :=
  let r := s.freeVal 85
  { node := s.nid, member := s.member, cls := r % 8, policy := r / 8 % 4, rcpt := false, cancel := true,
    srcNode := srcNode, srcMember := srcMember, id := id, tRel := r / 2 ^ 21, validLen := 0,
    target := r / 32 % 2 ^ 16, value := 0, rsv := false, bcast := false, ins := 0 }

/-- A cancel reaches the island (R170). Where the island has executed the stake first, the cancel finds nothing. -/
def State.stakeWithdraw (s : State) : State :=
  match s.stake.wd with
  | [] => s
  | w :: t =>
    let s1 := s.advanceT (w.t + 30)
    let s2 := { s1 with stake := { s1.stake with wd := t } }
    match s2.stake.island.find? (fun h => h.st.id == w.id && h.st.srcNode == w.srcNode && h.st.srcMember == w.srcMember) with
    | some h => ({ s2 with stake := { s2.stake with island := s2.stake.island.erase h } }).outcome h.st 3 0 w.t w.t true
    | none =>
      match w.stk with
      | some c => s2.outcome c 0x16 0 w.t w.t true
      | none => s2.nextFree.outcome (s2.cancelKey w.id w.srcNode w.srcMember) 0x16 0 w.t w.t false

/-! Receipts (R178). -/

/-- A RECEIPT frame for this hub, or for the member it acts for (R178, R418). -/
def State.rcptRx (s : State) (node member : Nat) (p : List Byte) : State :=
  let m := (nth p 2 0).toNat / 64
  if s.running pSTAKE && (nth p 3 0).toNat % 128 == s.nid && (m == s.member || s.actsFor m) then s.rcptIn node member p
  else s

/-- The words RCPT0–RCPT7 of an entry (R183). -/
def rcptWords (r : Rcpt) : List Nat :=
  let f := fun i n => ofBE (slice r.payload i n)
  [2 ^ 31 + r.node % 128 * 2 ^ 24 + r.member % 4 * 2 ^ 22 + f 0 2, f 4 1 * 2 ^ 24 + f 5 1 * 2 ^ 16 + f 6 2,
   f 12 4, f 8 4, f 20 4, f 16 4, 0, 0]

/-- Words into the read shadow (R48). -/
def State.setShadows (s : State) (p off : Nat) : List Nat → State
  | [] => s
  | w :: t => State.setShadows (s.setShadow p off (w32 w)) p (off + 4) t

/-- A read of RCPT0. -/
def State.rcptPop (s : State) : State :=
  match s.stake.rcpts with
  | [] => { s.setShadows pSTAKE 0xA4 (List.replicate 7 0) with result := some 0 }
  | r :: t =>
    let s1 := s.setShadows pSTAKE 0xA4 ((rcptWords r).drop 1)
    { s1 with stake := { s1.stake with rcpts := t }, result := some (w32 ((rcptWords r).headD 0)) }

/-- A write to CANCEL (R170); while STAKE does not run it finds nothing. -/
def State.stakeCancelWrite (s : State) (d : Word) : State :=
  s.nextFree.stakeCancel (s.cancelKey (bitsOf d 0 16) (bitsOf d 16 7) (bitsOf d 23 2)) none

/-! Page operations (R183, R186). -/

/-- Accepted enable: the high-water mark starts anew. -/
def State.stakeOn (s : State) : State := s.set pSTAKE F.STAKE.QSTS.HWM s.stake.q.length

/-- Stop: everything but the receipt queue is emptied; each dropped stake counts in MISSED. -/
def State.stakeOff (s : State) : State :=
  let n := s.stake.issue.length + s.stake.q.length + s.stake.island.length +
    (s.stake.side.filter (fun y => !s.stake.q.any (sameKey y.st))).length
  let s1 := if n = 0 then s else (s.bumpBy pSTAKE F.STAKE.MISSED.COUNT n).event pSTAKE 9
  { s1 with stake := { s1.stake with issue := [], q := [], island := [], side := [], wd := [] } }

/-- CLR. -/
def State.stakeClr (s : State) : State := { s with stake := { s.stake with rcpts := [] } }

/-! Commands. -/

def execStakeIssue (clk : Nat) (word : Word) (src : Source) (s : State) : Host.Outcome State Fault Refusal :=
  .next ((s.advance clk).regWrite pSTAKE 0x7C 0xFFFFFFFF word.toNat src (fun st => st.stakeIssue word))

def execStakeFrameSend (clk : Nat) (s : State) : Host.Outcome State Fault Refusal := .next ((s.advance clk).stakeSend)

def execStakeArrival (clk : Nat) (bytes : List Byte) (s : State) : Host.Outcome State Fault Refusal :=
  .next ((s.advance clk).stakeIn bytes)

/-- The stake that arrives has CANCEL = 1 (R170). -/
def execStakeCancelArrival (clk : Nat) (bytes : List Byte) (s : State) : Host.Outcome State Fault Refusal :=
  .next (if (stakeOf bytes).cancel then (s.advance clk).stakeIn bytes else s.advance clk)

def execStakeCancelWrite (clk : Nat) (data : Word) (s : State) : Host.Outcome State Fault Refusal :=
  .next ((s.advance clk).regWrite pSTAKE 0xE4 0xFFFFFFFF data.toNat .host (fun st => st.stakeCancelWrite data))

def execStakeHandover (s : State) : Host.Outcome State Fault Refusal := .next s.handover

def execStakeIslandWithdraw (s : State) : Host.Outcome State Fault Refusal := .next s.stakeWithdraw

def execStakeExecPin (s : State) : Host.Outcome State Fault Refusal := .next (s.islandExec 0)

def execStakeExecEngFifo (s : State) : Host.Outcome State Fault Refusal := .next (s.islandExec 1)

def execStakeExecCan (s : State) : Host.Outcome State Fault Refusal := .next (s.queueExec 2)

def execStakeExecPlat (s : State) : Host.Outcome State Fault Refusal := .next (s.queueExec 4)

def execReceiptRx (clk node member : Nat) (payload : List Byte) (s : State) : Host.Outcome State Fault Refusal :=
  .next ((s.advance clk).rcptRx node member payload)

def execRcptPop (clk : Nat) (s : State) : Host.Outcome State Fault Refusal := .next ((s.advance clk).whenOn State.rcptPop)

end Sys2Proof.Machine
end

