-- ==== Sys2Proof/Machine/Book.lean ====
section
/-!
DEFINITION. The field book (R258, R261–R270, R278): the writer, FILL, the drains, discard episodes, and the standby's
book.
-/

namespace Sys2Proof.Machine

/-- The 32 bytes of a record with its sequence number (R258). -/
def recBytes (seq : Nat) (r : Rec) : List Byte :=
  let b := leBytes 8 r.t ++ leBytes 4 seq ++ leBytes 1 r.kind ++ leBytes 1 r.flags ++ leBytes 2 r.source ++
    slice r.data 0 8 ++ leBytes 4 0
  b ++ leBytes 4 (crc32c b)

/-- Address of a record's slot in the on-chip memory (R33, R263). -/
def slotAddr (seq : Nat) : Nat := 0x100000 + 32 * (seq % 32768)

/-- The difference of two sequence numbers. -/
def seqDiff (a b : Nat) : Nat := (a + 2 ^ 32 - b % 2 ^ 32) % 2 ^ 32

def State.wrSeq (s : State) : Nat := s.get pBOOK F.BOOK.WR_SEQ.SEQ
def State.oldest (s : State) : Nat := s.get pBOOK F.BOOK.OLDEST.SEQ

/-! Drains (R264). -/

/-- The three drains: DMA, twin, ring. -/
inductive DrainId where
  | dma
  | twin
  | ring
deriving DecidableEq, Repr

/-- The pointer and the PROT bit of a drain. -/
def drainSeq : DrainId → Fld
  | .dma => F.BOOK.DMA_SEQ.SEQ
  | .twin => F.BOOK.TWIN_SEQ.SEQ
  | .ring => F.BOOK.RING_SEQ.SEQ
def drainProt : DrainId → Fld
  | .dma => F.BOOK.CFG.PROT_DMA
  | .twin => F.BOOK.CFG.PROT_TWIN
  | .ring => F.BOOK.CFG.PROT_RING

/-- Does this hub have a standby that it hears? -/
def State.standbyPresent (s : State) : Bool :=
  (s.dupState == some 1 || s.dupState == some 5) && s.dup.heardEver &&
    (s.dup.peerState == 2 || s.dup.peerState == 3 || s.dup.peerState == 4) &&
    decide (s.now < s.dup.lastHeard + 2 * s.get pCYCLE F.CYCLE.CYC_LEN.LEN)

/-- Is a drain active (R264)? A standby's ring drain takes nothing (R269, R395). -/
def State.drainActive (s : State) : DrainId → Bool
  | .dma => s.running pBOOK && s.flag pBOOK F.BOOK.DMA_CTL.DMA_EN && s.running pBRIDGE
  | .twin => s.running pBOOK && s.running pDUPLEX && s.standbyPresent
  | .ring => s.running pBOOK && s.flag pBOOK F.BOOK.RING_CTL.RING_EN && !s.standby &&
      (if s.onRing then s.linkUp 0 || s.linkUp 1 else (s.gangRoute (s.actingFor 0) 0).isSome)

/-- What a drain's state records. -/
def State.drain (s : State) : DrainId → Drain
  | .dma => s.book.dma
  | .twin => s.book.twin
  | .ring => s.book.ring
def State.setDrain (s : State) (d : DrainId) (v : Drain) : State :=
  match d with
  | .dma => { s with book := { s.book with dma := v } }
  | .twin => { s with book := { s.book with twin := v } }
  | .ring => { s with book := { s.book with ring := v } }

/-- A drain whose next record is gone moves to OLDEST, and LAPPED counts what it skipped (R264). -/
def State.lap (s : State) (d : DrainId) : State :=
  let ptr := s.get pBOOK (drainSeq d)
  if seqDiff s.wrSeq ptr ≤ seqDiff s.wrSeq s.oldest then s
  else ((s.bumpBy pBOOK F.BOOK.LAPPED.COUNT (seqDiff s.oldest ptr)).event pBOOK 11).set pBOOK (drainSeq d) s.oldest

/-- A drain follows its activity (R264). -/
def State.syncDrain (s : State) (d : DrainId) : State :=
  if s.drainActive d then
    if (s.drain d).used then (s.setDrain d { active := true, used := true }).lap d
    else (s.setDrain d { active := true, used := true }).set pBOOK (drainSeq d) s.oldest
  else if (s.drain d).active then s.setDrain d { s.drain d with active := false } else s

/-- FILL (R264). -/
def State.fill (s : State) : Nat :=
  [DrainId.dma, .twin, .ring].foldl (fun m d =>
    if (s.drain d).active && s.flag pBOOK (drainProt d) then max m (seqDiff s.wrSeq (s.get pBOOK (drainSeq d))) else m) 0

/-- RESERVE begins here (R265). -/
def State.reserveAt (s : State) : Nat := 32768 - s.get pBOOK F.BOOK.CFG.RESERVE

/-- FILL has reached the reserve since `s0` (R265). -/
def State.reserveMark (s s0 : State) : State := if s0.fill < s.reserveAt && s.reserveAt ≤ s.fill then s.event pBOOK 9 else s

/-- All three drains. -/
def State.syncDrains (s : State) : State := (((s.syncDrain .dma).syncDrain .twin).syncDrain .ring).reserveMark s

/-- The drains follow the start or the stop of a page on which their activity rests (R264). -/
def State.drainsOf (s : State) (p : Nat) : State :=
  if p = pBOOK ∨ p = pBRIDGE ∨ p = pDUPLEX ∨ p = pGANGCTL ∨ (List.range 22).any (fun n => p == pPORT n) then s.syncDrains else s

/-! The writer. -/

/-- The writer stores a record under the next sequence number (R258, R262, R263, R264). -/
def State.putRec (s : State) (r : Rec) : State :=
  let seq := s.wrSeq
  let s1 := (s.stBytes (slotAddr seq) (recBytes seq r)).set pBOOK F.BOOK.WR_SEQ.SEQ (seq + 1)
  let full := decide (32768 < seqDiff s1.wrSeq s1.oldest)
  let s2 := if full then s1.set pBOOK F.BOOK.OLDEST.SEQ (s1.oldest + 1) else s1
  { s2 with book := { s2.book with
      ages := (if full then s2.book.ages.drop 1 else s2.book.ages) ++ [s2.clock]
      recent := (s2.clock :: s2.book.recent).take 5
      mainLoss := s2.book.mainLoss || r.kind == 0x51 } }

/-- Store a record, with what its commit brings: PEVT bit 9 when FILL reaches the reserve (R265), and the wake of R43. -/
def State.commitRec (s : State) (r : Rec) : State :=
  let s2 := ((s.putRec r).syncDrains).reserveMark s
  if s2.flag pSYS F.SYS.WAKE.WATCH_BOOK && !(decide (1 ≤ r.kind) && decide (r.kind ≤ 3)) then s2.watchWake else s2

/-- At most 5 records are committed in every 32 CLK_MGT cycles (R261). -/
def State.grantOk (s : State) : Bool :=
  match s.book.recent[4]? with
  | some t => decide (t + 320 ≤ s.clock)
  | none => true

/-- Does R265 discard a record at its commit? A BOOK_OVERFLOW record is never discarded (R266). -/
def State.discards (s : State) (r : Rec) : Bool :=
  r.kind != 0x7F && (s.fill == 32768 || (edgeKind r.kind && decide (s.reserveAt ≤ s.fill)))

/-- The BOOK_OVERFLOW record of an episode (R266). -/
def overflowRec (e : Episode) : Rec :=
  { t := e.tMin, kind := 0x7F, flags := bit e.nonEdge, source := 0xFFFF,
    data := data2 e.count (min ((e.tMax - e.tMin) / 2000) (2 ^ 32 - 1)) }

/-- The next island with a record, from the one whose turn it is (R261). -/
def State.nextIsland (s : State) : Option Nat :=
  ((List.range 16).map (fun i => (s.book.rotor + i) % 16)).find? (fun c => s.islandQ c != [])

/-- The record that the writer takes from a staging queue, and what is left (R261): the guard queue, the CLK_MGT queue, the
islands in rotation. -/
def State.fromQueues (s : State) : State × Option Rec :=
  match s.book.guardQ with
  | r :: t => ({ s with book := { s.book with guardQ := t } }, some r)
  | [] =>
    match s.book.mgtQ with
    | r :: t => ({ s with book := { s.book with mgtQ := t } }, some r)
    | [] =>
      match s.nextIsland with
      | none => (s, none)
      | some c =>
        match s.islandQ c with
        | [] => (s, none)
        | r :: t =>
          ({ s with book := { s.book with islandQ := tabPut islandDefault s.book.islandQ c t, rotor := (c + 1) % 16 } }, some r)

/-- The record that the writer takes next, and what is left: what goes before any other, then a held BOOK_OVERFLOW, then the
staging queues. A BOOK_OVERFLOW waits while FILL is 32,768 (R266), and on a standby (R269). -/
def State.nextRec (s : State) : State × Option Rec :=
  let wait := s.fill == 32768 || s.shadowBook
  match s.book.front with
  | r :: t =>
    if r.kind == 0x7F && wait then s.fromQueues else ({ s with book := { s.book with front := t } }, some r)
  | [] =>
    match s.book.overflow with
    | r :: t => if wait then s.fromQueues else ({ s with book := { s.book with overflow := t } }, some r)
    | [] => s.fromQueues

/-- The writer's grant (R261, R265, R269): the record is committed, or discarded, or on a standby goes to the shadow queue. Only a
commit counts against the 5 in 32 cycles. -/
def State.grant (s : State) : State :=
  let next := s.nextRec
  match next.2 with
  | none => s
  | some r =>
    if next.1.shadowBook then next.1.shadowAdd r
    else if next.1.discards r then next.1.discardRec r
    else if s.grantOk then next.1.commitRec r
    else s

/-- Does the writer work (R278)? -/
def State.writerOn (s : State) : Bool := s.running pBOOK && !s.held pBOOK && !s.flag pBOOK F.HDR.PCTL.HOLD

/-- BOOK_COMMIT (R261, R278). -/
def State.bookCommit (s : State) : State :=
  let s0 := s.syncDrains
  if s0.writerOn then s0.grant else s0

/-- Records go before any other; the writer takes them at once, as far as it may (R261). -/
def State.frontIn (s : State) (rs : List Rec) : State :=
  let s1 := { s with book := { s.book with front := s.book.front ++ rs } }
  if s1.writerOn then s1.grant.grant.grant.grant.grant else s1

/-- A BOOK_OVERFLOW record is committed, or held while there is no room (R266), the writer is held (R278) or it has no grant. -/
def State.overflowOut (s : State) (r : Rec) : State :=
  let s1 := { s with book := { s.book with overflow := s.book.overflow ++ [r] } }
  if s1.writerOn && s.book.front.isEmpty && s.book.overflow.isEmpty && !(s.fill == 32768) && !s.shadowBook then s1.grant else s1

/-- A discard episode ends (R266). -/
def State.episodeEnd (s : State) : State :=
  match s.book.episode with
  | none => s
  | some e =>
    State.overflowOut (State.syncDrains
      { s.advanceT (e.last + 2000) with book := { s.book with episode := none } }) (overflowRec e)

/-! DMA (R267). -/

/-- Records a burst takes. -/
def State.burst (s : State) : Nat :=
  let seq := s.get pBOOK F.BOOK.DMA_SEQ.SEQ
  let room := 2 ^ s.get pBOOK F.BOOK.DMA_CTL.SIZE - seqDiff seq (s.get pBOOK F.BOOK.DMA_HOSTRD.SEQ)
  min 16 (min (seqDiff s.wrSeq seq) room)

/-- Post `n` records from the drain's pointer. -/
def State.dmaPost (s : State) : Nat → State
  | 0 => s
  | n + 1 =>
    let seq := s.get pBOOK F.BOOK.DMA_SEQ.SEQ
    let a := s.get pBOOK F.BOOK.DMA_BASE.ADDR + 32 * (seq % 2 ^ s.get pBOOK F.BOOK.DMA_CTL.SIZE)
    State.dmaPost ((s.rhWrite a (s.ldBytes (slotAddr seq) 32)).set pBOOK F.BOOK.DMA_SEQ.SEQ (seq + 1)) n

/-- BOOK_DMA_BURST. -/
def State.dmaBurst (s : State) : State :=
  let s1 := s.syncDrains
  if s1.book.dma.active && decide (0 < s1.burst) && s1.rhRoom (32 * s1.burst + 8) then
    let s2 := s1.dmaPost s1.burst
    (s2.rhWrite (s2.get pBOOK F.BOOK.DMA_WRPTR.ADDR) (leBytes 8 (s2.get pBOOK F.BOOK.DMA_SEQ.SEQ))).event pBOOK 10
  else s1

/-! BOOK frames (R268). -/

/-- Clock at which a held record was committed. -/
def State.ageOf (s : State) (seq : Nat) : Nat := nth s.book.ages (seqDiff seq s.oldest) s.clock

/-- Is a frame due? -/
def State.frameDue (s : State) : Bool :=
  let seq := s.get pBOOK F.BOOK.RING_SEQ.SEQ
  let n := seqDiff s.wrSeq seq
  s.book.ring.active && decide (0 < n) &&
    (decide (s.get pBOOK F.BOOK.RING_CTL.BATCH ≤ n) || s.book.mainLoss ||
      decide (s.ageOf seq + 2000 * s.get pBOOK F.BOOK.RING_CTL.MAXAGE ≤ s.clock))

/-- BOOK_FRAME_SEND. -/
def State.frameSend (s : State) : State :=
  let s1 := s.syncDrains
  if s1.frameDue then
    let seq := s1.get pBOOK F.BOOK.RING_SEQ.SEQ
    let n := min (seqDiff s1.wrSeq seq) (s1.get pBOOK F.BOOK.RING_CTL.BATCH)
    let body := (List.range n).flatMap (fun i => s1.ldBytes (slotAddr (seq + i)) 32)
    let da := groupAddr (s1.get pBOOK F.BOOK.BDA_HI.DA_HI) (s1.get pBOOK F.BOOK.BDA_LO.DA_LO)
    let s2 := (s1.set pBOOK F.BOOK.RING_SEQ.SEQ (seq + n)).bump pBOOK F.BOOK.FRAMES.COUNT
    s2.sendRing (s2.spanen da 7 0 s2.hdrCycle (beBytes 4 seq) body none)
  else s1

/-! Page operations (R264, R270, R278). -/

/-- Accepted enable: the drains are new, and the records of the time before the first enable are committed. -/
def State.bookOn (s : State) : State :=
  let idle : Drain := { active := false, used := false }
  let s1 := { s with book := { s.book with dma := idle, twin := idle, ring := idle } }
  if s1.book.everOn then s1
  else
    let rs := s1.book.preQ ++ (match s1.book.preLost with | some e => [overflowRec e] | none => [])
    let s2 := { s1 with book := { s1.book with everOn := true, preQ := [], preLost := none } }
    if s2.standby then rs.foldl State.shadowAdd s2 else s2.syncDrains.frontIn rs

/-- Stop: the drains stop and what waits in the staging queues is discarded; a BOOK_OVERFLOW record, written or due, waits for
the next enable (R266). -/
def State.bookOff (s : State) : State :=
  let kept := s.book.front.filter (fun r => r.kind == 0x7F)
  let waiting := s.book.front.filter (fun r => r.kind != 0x7F) ++ s.book.guardQ ++ s.book.mgtQ ++ s.book.islandQ.flatMap (fun p => p.2)
  let s1 := waiting.foldl State.countDiscard s
  { s1 with book := { s1.book with
      guardQ := [], mgtQ := [], islandQ := [], front := kept,
      dma := { s1.book.dma with active := false }, twin := { s1.book.twin with active := false },
      ring := { s1.book.ring with active := false } } }

/-- CLR: every slot is 0 and OLDEST is WR_SEQ, which stays; `seq` is WR_SEQ before the registers cleared. -/
def State.bookClr (s : State) (seq : Nat) : State :=
  let s1 := { s with mem := s.mem.filter (fun c => decide (c.1 < 0x100000) || decide (0x200000 ≤ c.1)) }
  ({ s1 with book := { s1.book with ages := [] } }.set pBOOK F.BOOK.WR_SEQ.SEQ seq).set pBOOK F.BOOK.OLDEST.SEQ seq

/-! The standby's book (R269). -/

/-- A record of an applied cycle record enters with its own SEQ; after a gap the book holds records from it on. The drains follow
(R264, R265). -/
def State.bookCopy (s : State) (b : List Byte) : State :=
  let seq := ofLE (slice b 8 4)
  let s1 := (s.stBytes (slotAddr seq) (slice b 0 32)).set pBOOK F.BOOK.WR_SEQ.SEQ (seq + 1)
  let held := if seq ≠ s.wrSeq then seq
    else if seqDiff seq s1.oldest < 32768 then s1.oldest else (seq + 1 + 2 ^ 32 - 32768) % 2 ^ 32
  let n := seqDiff s1.wrSeq held
  let s2 := s1.set pBOOK F.BOOK.OLDEST.SEQ held
  (State.syncDrains
    { s2 with book := { s2.book with ages := (s2.book.ages ++ [s2.clock]).drop (s2.book.ages.length + 1 - n) } }).reserveMark s

/-- Records in order of T. -/
def recIns (r : Rec) : List Rec → List Rec
  | [] => [r]
  | x :: t => if r.t < x.t then r :: x :: t else x :: recIns r t
def recSort (l : List Rec) : List Rec := l.foldl (fun acc r => recIns r acc) []

/-- Takeover: SEQ goes on 2^20 after the last copied one, the SWITCHOVER record is the first, and the shadow queue
follows in order of T, then a BOOK_OVERFLOW when any of it was lost (R269). The records before the gap are no longer
held. -/
def State.bookTakeover (s : State) (switch : Rec) : State :=
  let first := (s.wrSeq + 2 ^ 20 + 2 ^ 32 - 1) % 2 ^ 32
  let s1 := (s.set pBOOK F.BOOK.WR_SEQ.SEQ first).set pBOOK F.BOOK.OLDEST.SEQ first
  let q := recSort s1.book.shadowQ
  let ovf := match s1.book.shadowLost with | some e => [overflowRec e] | none => []
  let s2 := { s1 with book := { s1.book with shadowQ := [], shadowLost := none, ages := [] } }
  if s2.running pBOOK then s2.frontIn (switch :: q ++ ovf) else s2

/-! Commands. -/

def execBookCommit (clk : Nat) (s : State) : Host.Outcome State Fault Refusal := .next ((s.advance clk).bookCommit)

def execDiscardEpisodeEnd (s : State) : Host.Outcome State Fault Refusal := .next s.episodeEnd

def execBookDmaBurst (clk : Nat) (s : State) : Host.Outcome State Fault Refusal := .next ((s.advance clk).dmaBurst)

def execBookFrameSend (clk : Nat) (s : State) : Host.Outcome State Fault Refusal := .next ((s.advance clk).frameSend)

end Sys2Proof.Machine
end

