-- ==== Sys2Proof/Machine/Die.lean ====
section
/-!
DEFINITION. The core die in and out of reset (R509–R511, R524), and the power-down sequence (R435, R437).
-/

namespace Sys2Proof.Machine

/-- Registers a core-die reset keeps: the guard-die pages, SYS.SERIAL, RESET.CAUSE and RESET.CORE_RESETS (R524), and the
supply of the VDDIO banks (R542). -/
def coreKept (k : Nat) : Bool :=
  guardPage (k / 4096) || k == regKey pSYS 0x44 || k == regKey pSYS 0x48 || k == regKey pRESET 0x40 || k == regKey pRESET 0x58 ||
    (decide (0x60 ≤ k / 4096) && decide (k / 4096 < 0x64) && k % 4096 == F.PINMUX.VDDSTS.PRESENT.off)

/-- Guard-die pages. -/
def guardPages : List Nat := allPages.filter guardPage

/-- What the outside drives stays; everything else of a pin is new. -/
def PinSt.afterReset (p : PinSt) : PinSt :=
  match p.ext with
  | some l => { PinSt.init with ext := some l, hist := [(0, some l)], det := FeedBit.init l }
  | none => PinSt.init

/-- A section whose programming was cut off (R506): its bytes are as staged and its CRC word is wrong. -/
def cutSection (staged m : List (Nat × Byte)) (k : Nat) : List (Nat × Byte) :=
  let m1 := copySection staged m k
  let a := 0xFC0 + 4 * k
  tabPut calDefault m1 a (calGet m1 a ^^^ 1)

/-- Calibration programming is cut off (R506): which section was being written is free. -/
def State.calCut (s : State) : State :=
  match s.cal.prog with
  | none => s
  | some mask =>
    let secs := (List.range 10).filter (natBit mask)
    let k := if secs.length = 0 then 0 else s.freeVal 4 % secs.length
    let m1 := (secs.take k).foldl (copySection s.cal.staging) s.cal.mtp
    let m2 := match secs[k]? with | some j => cutSection s.cal.staging m1 j | none => m1
    ({ s with cal := { s.cal with mtp := m2, prog := none } }).nextFree

/-- The registers of a guard-die page across a core-die reset: LOCK clears (R65, R524). -/
def State.unlockGuard (s : State) : State := guardPages.foldl (fun st p => st.set p F.HDR.PCTL.LOCK 0) s

/-- Is a key one of MONUMENT.DATA (R494)? -/
def monData (k : Nat) : Bool := decide (regKey pMONUMENT 0x400 ≤ k) && decide (k < regKey pMONUMENT 0x600)

/-- The engines of the core die drop the operation under way: BUSY falls and DATA is zeroed. -/
def State.opDrop (s : State) : State :=
  let s1 := { s with mon := { s.mon with op := none } }
  let s2 := s1.set pMONUMENT F.MONUMENT.STS.BUSY 0
  { s2 with regs := s2.regs.filter (fun p => !monData p.1) }

/-- Has a commit request crossed to CLK_KEEP (R484)? -/
def State.crossed (s : State) : Bool :=
  match s.mon.request with
  | some (_, t) => decide (t + 183100 ≤ s.clock)
  | none => false

/-- A Monument operation ends with the core die, whose engines carry it out (R480): all but the erasing ones, INFO,
TRANSITION and a COMMIT whose request has crossed to CLK_KEEP (R484, R527). -/
def State.monCut (s : State) : State :=
  let stays := match s.mon.op with
    | some o => (decide (0x0E ≤ o.op) && decide (o.op ≤ 0x11)) || (o.op == 0x0D && s.crossed)
    | none => true
  let req := if s.crossed then s.mon.request else none
  let s1 := { s with mon := { s.mon with request := req } }
  if stays then s1 else s1.opDrop

/-- What a core-die reset leaves of the page commands under way: those of guard-die pages (R21, R524). -/
def PageSt.guardOnly (p : PageSt) : PageSt :=
  { PageSt.init with
    checks := p.checks.filter guardPage, held := p.held.filter (fun h => guardPage h.page),
    stopping := p.stopping.filter guardPage, clearing := p.clearing.filter guardPage }

/-- Core-die memories and blocks at their POR values; guard die, battery domain, fuses and MTP are kept (R524). -/
def State.wipeCore (s : State) : State :=
  { s with
    regs := s.regs.filter (fun p => coreKept p.1)
    latch := [], shadow := [], mem := [], page := s.page.guardOnly, datum := DatumSt.init, stamps := [], ports := [],
    sw := SwitchSt.init, book := BookSt.init, bridge := BridgeSt.init, dup := DuplexSt.init, gang := GangSt.init,
    cal := { s.cal with staging := [], valid := 0, unlock := none },
    cycle := CycleSt.init, plat := PlatSt.init, mscl := MsclSt.init,
    pins := (s.pins.map (fun p => (p.1, p.2.afterReset))).filter (fun p => p.2 != PinSt.init),
    engs := [], crews := [], edges := [], cans := [], stake := StakeSt.init, boot := BootSt.init, rst := ResetSt.init,
    tally := { s.tally with recSeen := 0, relSeen := 0, fwdBits := 0, gasp := none } }

/-- The core die is held in reset (R434, R435, R510). -/
def State.coreHold (s : State) : State :=
  let s1 := s.calCut.monCut.wipeCore.unlockGuard
  { s1 with pwr := { s1.pwr with
      power := .coreReset, stored := none, target := none, dieLink := true,
      lines := List.replicate 12 lineIdle } }

/-- The core die runs, and RAW starts from 0. -/
def State.rawRestart (s : State) : State :=
  { s with pwr := { s.pwr with power := .run }, datum := { s.datum with rawOrg := s.clock } }

/-- A core-die POR release (R71, R509, R511, R524, R529): RAW starts from 0, the straps are sampled, the causes are
recorded. A hub whose NID straps read 0 sets SYS.PSTS.FAULT (R16); with the reserved ROLE it stops at STAGE 0x8. -/
def State.corePor (s : State) : State :=
  let s1 := s.rawRestart
  let s2 := (((s1.set pSYS F.SYS.SERIAL.SN s.pwr.serial).set pSYS F.SYS.STRAP.NID s.pwr.straps.nid).set pSYS
    F.SYS.STRAP.ROLE s.pwr.straps.role).set pSYS F.SYS.STRAP.BOOT s.pwr.straps.boot
  let s3 := (s2.set pRESET F.RESET.CAUSE.all s.supply.causes).bump pRESET F.RESET.CORE_RESETS.COUNT
  let s4 := { s3 with supply := { s3.supply with causes := 0 } }
  let s5 := if s.pwr.straps.nid = 0 then s4.blockFault pSYS else s4
  if s.pwr.straps.role = 3 then
    (((s5.set pSYS F.SYS.BOOTSTS.STAGE 8).set pSYS F.SYS.BOOTSTS.ERR 8).blockFault pSYS).event pSYS 10
  else s5

/-- A cause of the next core-die POR, as its bit of RESET.CAUSE (R529). -/
def State.cause (s : State) (b : Nat) : State :=
  { s with supply := { s.supply with causes := natPut s.supply.causes b 1 1 } }

/-- PFW_N falls (R437). -/
def State.pfwFall (s : State) : State :=
  if s.flag pSUPPLY F.SUPPLY.STS.PFW then s else (s.set pSUPPLY F.SUPPLY.STS.PFW 1).event pSUPPLY 12

/-- The power-down sequence starts (R435): PG_CORE and PFW_N go low. `copy`: Keep is entered with the core die still in
charge, so that SYS.WAKE[9:8] is copied first (R43, R44). A plan under way ends with it. -/
def State.powerDown (s : State) (copy : Bool) : State :=
  let s0 := if copy && s.coreOn then
      { s with pwr := { s.pwr with keepMain := s.flag pSYS F.SYS.WAKE.KEEP_MAIN, keepAny := s.flag pSYS F.SYS.WAKE.KEEP_ANY } }
    else s
  let s1 := s0.coreHold
  let s2 := (((s1.set pSUPPLY F.SUPPLY.STS.PG_CORE 0).set pSUPPLY F.SUPPLY.STS.SEQ_BUSY 0).pfwFall.set pTALLY
    F.TALLY.STS.PLAN 0).set pTALLY F.TALLY.STS.SHED 0
  let s3 := s2.set pTALLY F.TALLY.STS.WARN 0
  { s3 with supply := { s3.supply with phase := .lower s3.clock }
            tally := { s3.tally with aStart := none } }

end Sys2Proof.Machine
end

