-- ==== Sys2Proof/Machine/Slot.lean ====
section
/-!
DEFINITION. Slot power channels (R438–R445, R447, R451–R453).
-/

namespace Sys2Proof.Machine

/-- Channels. -/
def slotDefault (_ : Nat) : SlotSt := SlotSt.init
def State.slot (s : State) (n : Nat) : SlotSt := tabGet slotDefault s.slots n
def State.setSlot (s : State) (n : Nat) (v : SlotSt) : State := { s with slots := tabPut slotDefault s.slots n v }

/-- States of R438. -/
def slotOFF : Nat := 0
def slotVACANT : Nat := 1
def slotWAIT : Nat := 2
def slotRAMP : Nat := 3
def slotON : Nat := 4
def slotCOOL : Nat := 5
def slotLATCHED : Nat := 6

/-- State of a channel. -/
def State.slotState (s : State) (n : Nat) : Nat := s.get (pSLOT n) F.SLOT.STS.STATE
def State.setSlotState (s : State) (n k : Nat) : State := s.set (pSLOT n) F.SLOT.STS.STATE k

/-- Cool-down remaining in ms (R442). -/
def State.coolMs (s : State) (n : Nat) : Nat := ceilDiv ((s.slot n).coolEnd - s.clock) 2000000

/-- Milliseconds and microseconds in half-nanoseconds. -/
def msHns : Nat := 2000000
def usHns : Nat := 2000

/-- A slot record (R447): kind, flags, a 32-bit number and two 16-bit numbers. -/
def slotRec (kind flags n a b c : Nat) : Rec := guardRec kind flags n (leBytes 4 a ++ leBytes 2 b ++ leBytes 2 c)

/-- Time since the start of RAMP in µs. -/
def State.rampUs (s : State) (n : Nat) : Nat := min ((s.clock - (s.slot n).rampAt) / usHns) (2 ^ 32 - 1)

/-- SLOTn_PG falls (R441, R447): 1 VOUT, 2 timer or trip, 3 channel off. -/
def State.pgFall (s : State) (n why vout : Nat) : State :=
  if s.flag (pSLOT n) F.SLOT.STS.PG then
    ((s.set (pSLOT n) F.SLOT.STS.PG 0).event (pSLOT n) 10).guardEvent linePg
      (slotRec 0x41 (2 * bit (s.slot n).deferred + 4 * why) n (s.rampUs n) vout 0)
  else s

/-- RAMP starts. -/
def State.startRamp (s : State) (n : Nat) : State :=
  (s.setSlot n { s.slot n with rampAt := s.clock, timerFrom := s.clock, deferred := false }).setSlotState n slotRAMP

/-- From WAIT the channel goes to RAMP when both remainders have passed (R438, R444), and not while held (R453). -/
def State.slotRamp (s : State) (n : Nat) : State :=
  if s.slotState n == slotWAIT && decide ((s.slot n).coolEnd ≤ s.clock) && decide ((s.slot n).insEnd ≤ s.clock) &&
      !s.held (pSLOT n) then s.startRamp n
  else s

/-- From VACANT the channel goes on when a card is there, or treated as there (R438). -/
def State.slotFill (s : State) (n : Nat) : State :=
  if s.slotState n == slotVACANT && (s.flag (pSLOT n) F.SLOT.STS.PRESENT || s.flag (pSLOT n) F.SLOT.CFG.PRES_IGNORE) then
    s.setSlotState n (if s.flag (pSLOT n) F.SLOT.STS.LATCH then slotLATCHED else slotWAIT)
  else s

/-- From OFF the channel leaves with EN = 1, the hub in Run or Watch and, with ON_PIN = 1, SLOTn_ON high (R438). -/
def State.slotLeave (s : State) (n : Nat) : State :=
  if s.slotState n == slotOFF && s.running (pSLOT n) && s.coreOn &&
      (!s.flag (pSLOT n) F.SLOT.CFG.ON_PIN || (s.slot n).onPin) then s.setSlotState n slotVACANT
  else s

/-- Every move that needs no further event. -/
def State.slotKick (s : State) (n : Nat) : State := ((s.slotLeave n).slotFill n).slotRamp n

/-- All channels, at entry to Run (R445). -/
def State.slotsKick (s : State) : State := (List.range 8).foldl State.slotKick s

/-- The channel goes to OFF (R438). -/
def State.slotOff (s : State) (n vout : Nat) : State := (s.pgFall n 3 vout).setSlotState n slotOFF

/-- Entry to Keep (R445): no event line is captured, so SLOTn_PG falls without a record. -/
def State.slotsOff (s : State) : State := (List.range 8).foldl (fun st n => st.slotOff n 0) s

/-- The latch clears: to WAIT from LATCHED (R438, R443). -/
def State.unlatch (s : State) (n : Nat) : State :=
  let s1 := s.set (pSLOT n) F.SLOT.STS.LATCH 0
  if s.slotState n == slotLATCHED then s1.setSlotState n slotWAIT else s1

/-- START_TO + FAULT_T in half-nanoseconds: the longest on-time (R442). -/
def State.onLimit (s : State) (n : Nat) : Nat :=
  (s.get (pSLOT n) F.SLOT.TIMER.START_TO + s.get (pSLOT n) F.SLOT.TIMER.FAULT_T) * msHns

/-- On-time of the attempt. -/
def State.onTime (s : State) (n : Nat) : Nat := min (s.clock - (s.slot n).rampAt) (s.onLimit n)

/-- Off-time after an on-time (R442). -/
def offTime (on : Nat) : Nat := max (1000 * msHns) (100 * on)

/-- A channel trips from RAMP or ON (R439, R440, R442, R443). -/
def State.tripNow (s : State) (n cause vout : Nat) : State :=
  if s.slotState n == slotRAMP || s.slotState n == slotON then
    let on := s.onTime n
    let retry := s.flag (pSLOT n) F.SLOT.CFG.AUTO_RETRY
    let flags := cause + 4 * bit !retry
    let off := if retry then offTime on else 0
    let s1 := (((s.bump (pSLOT n) F.SLOT.TRIPS.COUNT).set (pSLOT n) F.SLOT.STS.LAST_CAUSE cause).set (pSLOT n)
      F.SLOT.ONTIME.US (on / usHns)).event (pSLOT n) 8
    let s2 := (s1.guardEvent lineTrip (slotRec 0x40 flags n (on / usHns) vout (off / (10 * msHns)))).pgFall n 2 vout
    if retry then (s2.setSlot n { s2.slot n with coolEnd := s.clock + off }).setSlotState n slotCOOL
    else ((s2.set (pSLOT n) F.SLOT.STS.LATCH 1).event (pSLOT n) 14).setSlotState n slotLATCHED
  else s

/-- A SLOT_VACANT record (R447). -/
def State.vacantRec (s : State) (n : Nat) (removal cleared : Bool) : State :=
  s.guardEvent lineVacant (guardRec 0x42 (bit removal + 2 * bit cleared + 4 * s.get (pSLOT n) F.SLOT.STS.LATCH) n
    (data2 (s.coolMs n) 0))

/-- A debounced removal (R443, R444): the channel is VACANT unless it is OFF or treats the card as present. -/
def State.removal (s : State) (n vout : Nat) : State :=
  if s.flag (pSLOT n) F.SLOT.STS.PRESENT then
    let clr := s.flag (pSLOT n) F.SLOT.CFG.CLR_ON_REMOVE && s.flag (pSLOT n) F.SLOT.STS.LATCH
    let u := if s.slotState n == slotRAMP || s.slotState n == slotON then
        some (s.clock, s.slotState n, s.flag (pSLOT n) F.SLOT.STS.PG)
      else none
    let s0 := s.setSlot n { s.slot n with left := u }
    let s1 := (s0.set (pSLOT n) F.SLOT.STS.PRESENT 0).event (pSLOT n) 11
    let s2 := if clr then s1.unlatch n else s1
    let s3 := if s2.slotState n == slotOFF || s2.flag (pSLOT n) F.SLOT.CFG.PRES_IGNORE then s2 else (s2.pgFall n 3 vout).setSlotState n slotVACANT
    (s3.vacantRec n true clr).slotKick n
  else s

/-! Events of one CLK_GUARD edge (R441, R444). Their records have not been stamped yet, and hold the clock of the edge. -/

/-- Is a record that of slot `n`, of a kind, from the edge at a clock? -/
def recOfEdge (r : Rec) (clk kind n : Nat) : Bool := r.kind == kind && r.source == n && r.t == clk

/-- The records of slot `n` of a kind from this edge, on their line, become what `f` makes of them. -/
def State.edgeRecs (s : State) (l kind n : Nat) (f : Rec → Option Rec) : State :=
  let g := fun r : Rec => if recOfEdge r s.clock kind n then f r else some r
  s.setLine l { s.line l with waiting := (s.line l).waiting.filterMap g, toggled := (s.line l).toggled.filterMap g }

/-- A PG that rose on the edge of a fast trip stays low (R441). -/
def State.unrise (s : State) (n : Nat) : State :=
  match (s.slot n).rose with
  | some (k, nine) =>
    if k = s.clock ∧ s.slotState n = slotON ∧ s.flag (pSLOT n) F.SLOT.STS.PG = true then
      let s1 := ((s.set (pSLOT n) F.SLOT.STS.PG 0).setSlotState n slotRAMP).edgeRecs linePg 0x41 n (fun _ => none)
      if nine then s1 else s1.set (pSLOT n) ⟨0x0C, 9, 1⟩ 0
    else s
  | none => s

/-- A fall of PG through VOUT on the edge on which the timer expires: its record names the timer (R441). -/
def State.fallByTimer (s : State) (n : Nat) : State :=
  s.edgeRecs linePg 0x41 n (fun r => some { r with flags := natPut r.flags 2 2 2 })

/-- A removal on the edge of a trip is taken back, to be taken after it (R444). -/
def State.unremove (s : State) (n state : Nat) (pg : Bool) : State :=
  let s1 := (((s.set (pSLOT n) F.SLOT.STS.PRESENT 1).setB (pSLOT n) F.SLOT.STS.PG pg).setSlotState n state).edgeRecs linePg 0x41 n
    (fun _ => none)
  s1.edgeRecs lineVacant 0x42 n (fun _ => none)

/-- A trip, among the events of its edge: before a rise of PG where it is a fast trip, in place of a fall through VOUT where
the timer expires, and before a removal (R441, R444). -/
def State.slotTrip (s : State) (n cause vout : Nat) : State :=
  match (s.slot n).left with
  | some (k, state, pg) =>
    if k = s.clock then ((s.unremove n state pg).tripNow n cause vout).removal n vout
    else (if cause = 1 then s.unrise n else if cause = 2 then s.fallByTimer n else s).tripNow n cause vout
  | none => (if cause = 1 then s.unrise n else if cause = 2 then s.fallByTimer n else s).tripNow n cause vout

/-- The fault timer reaches FAULT_T (R439): not sooner than FAULT_T after it began to count. -/
def State.faultExpire (s : State) (n vout : Nat) : State :=
  if (s.slot n).timerFrom + s.get (pSLOT n) F.SLOT.TIMER.FAULT_T * msHns ≤ s.clock then s.slotTrip n 2 vout else s

/-- The channel limits, or does not, on this edge (R439, R451). -/
def State.limits (s : State) (n : Nat) (on : Bool) : State :=
  (s.setSlot n { s.slot n with limAt := some s.clock }).setB (pSLOT n) F.SLOT.STS.LIMITING on

/-- 1 ms without limiting clears the fault timer (R439). -/
def State.timerClear (s : State) (n : Nat) : State :=
  (s.setSlot n { s.slot n with timerFrom := s.clock }).limits n false

/-- RAMP has lasted START_TO without PG (R439). -/
def State.startTimeout (s : State) (n vout : Nat) : State :=
  if s.slotState n == slotRAMP then
    (s.advance ((s.slot n).rampAt + s.get (pSLOT n) F.SLOT.TIMER.START_TO * msHns)).slotTrip n 3 vout
  else s

/-- VOUT and VGS are good on an edge (R441): PG rises, or is withheld while the channel is limiting. -/
def State.pgRise (s : State) (n : Nat) (limiting : Bool) (vout : Nat) : State :=
  if (s.slotState n == slotRAMP || s.slotState n == slotON) && !s.flag (pSLOT n) F.SLOT.STS.PG then
    let s1 := s.limits n limiting
    if limiting then
      let s2 := s1.setW1c (pSLOT n) F.SLOT.STS.PG_DEFER
      if (s.slot n).deferred then s2 else (s2.setSlot n { s2.slot n with deferred := true }).event (pSLOT n) 13
    else
      let s2 := s1.setSlot n { s1.slot n with rose := some (s.clock, natBit (s.rd (pSLOT n) 0x0C).toNat 9) }
      (((s2.set (pSLOT n) F.SLOT.STS.PG 1).event (pSLOT n) 9).guardEvent linePg
        (slotRec 0x41 (1 + 2 * bit (s.slot n).deferred) n (s.rampUs n) vout 0)).setSlotState n slotON
  else s

/-- The cool-down ends (R442): to WAIT from COOL, and on to RAMP where nothing else is to wait for. -/
def State.coolEnds (s : State) (n : Nat) : State :=
  let s1 := s.advance (s.slot n).coolEnd
  (if s1.slotState n == slotCOOL then s1.setSlotState n slotWAIT else s1).slotRamp n

/-- The insertion remainder ends (R444). -/
def State.insEnds (s : State) (n : Nat) : State :=
  (s.advance (s.slot n).insEnd).slotRamp n

/-- A debounced insertion (R444). -/
def State.insertion (s : State) (n : Nat) : State :=
  if s.flag (pSLOT n) F.SLOT.STS.PRESENT then s
  else
    let s1 := (s.set (pSLOT n) F.SLOT.STS.PRESENT 1).event (pSLOT n) 12
    let s2 := s1.setSlot n { s1.slot n with insEnd := s.clock + s.get (pSLOT n) F.SLOT.PG.INS_DB * 10 * msHns }
    (s2.vacantRec n false false).slotKick n

/-- SLOTn_ON changes (R438, R443). -/
def State.onPinChange (s : State) (n : Nat) (level : Bool) (vout : Nat) : State :=
  if level == (s.slot n).onPin then s
  else if level then
    let long := match (s.slot n).onLow with | some t => decide (t + msHns ≤ s.clock) | none => false
    let s1 := s.setSlot n { s.slot n with onPin := true, onLow := none }
    (if long && s.flag (pSLOT n) F.SLOT.STS.LATCH then s1.unlatch n else s1).slotKick n
  else
    let s1 := s.setSlot n { s.slot n with onPin := false, onLow := some s.clock }
    if s.flag (pSLOT n) F.SLOT.CFG.ON_PIN then s1.slotOff n vout else s1

/-! Page operations (R453). -/

/-- Accepted enable: the channel is placed in OFF and leaves it under R438. -/
def State.slotEnable (s : State) (n : Nat) : State := (s.slotOff n 0).slotKick n

/-- EN = 0: gate off, latch cleared, cool-down kept. VOUT at the fall of PG is not given: a free value. -/
def State.slotStop (s : State) (n : Nat) : State := ((s.slotOff n (s.freeVal 16)).set (pSLOT n) F.SLOT.STS.LATCH 0).nextFree

/-- CLR: as EN = 0; the debounced presence stays, as the card does. `present`: PRESENT before the registers cleared. -/
def State.slotClr (s : State) (n : Nat) (present : Bool) : State := s.setB (pSLOT n) F.SLOT.STS.PRESENT present

/-! Commands. -/

/-- A command on a slot; there are eight. -/
def State.onSlot (s : State) (n : Nat) (f : State → State) : State := if n < 8 then f s else s

def execSlotFastTrip (clk slot vout : Nat) (s : State) : Host.Outcome State Fault Refusal :=
  .next ((s.advance clk).onSlot slot (fun t => t.slotTrip slot 1 vout))

def execSlotFaultTimerExpire (clk slot vout : Nat) (s : State) : Host.Outcome State Fault Refusal :=
  .next ((s.advance clk).onSlot slot (fun t => t.faultExpire slot vout))

def execSlotLimitTimerClear (clk slot : Nat) (s : State) : Host.Outcome State Fault Refusal :=
  .next ((s.advance clk).onSlot slot (fun t => t.timerClear slot))

def execSlotStartTimeout (slot vout : Nat) (s : State) : Host.Outcome State Fault Refusal :=
  .next (s.onSlot slot (fun t => t.startTimeout slot vout))

def execSlotPgRise (clk slot : Nat) (limiting : Bool) (vout : Nat) (s : State) : Host.Outcome State Fault Refusal :=
  .next ((s.advance clk).onSlot slot (fun t => t.pgRise slot limiting vout))

/-- R441: VOUT is below PG_TH − 2 %. -/
def execSlotPgFall (clk slot vout : Nat) (s : State) : Host.Outcome State Fault Refusal :=
  .next ((s.advance clk).onSlot slot (fun t => t.pgFall slot 1 vout))

def execSlotCoolEnd (slot : Nat) (s : State) : Host.Outcome State Fault Refusal :=
  .next (s.onSlot slot (fun t => t.coolEnds slot))

def execSlotInsertRemainderEnd (slot : Nat) (s : State) : Host.Outcome State Fault Refusal :=
  .next (s.onSlot slot (fun t => t.insEnds slot))

def execSlotRemoval (clk slot vout : Nat) (s : State) : Host.Outcome State Fault Refusal :=
  .next ((s.advance clk).onSlot slot (fun t => t.removal slot vout))

def execSlotInsertion (clk slot : Nat) (s : State) : Host.Outcome State Fault Refusal :=
  .next ((s.advance clk).onSlot slot (fun t => t.insertion slot))

def execSlotOnPinChange (clk slot : Nat) (level : Bool) (vout : Nat) (s : State) : Host.Outcome State Fault Refusal :=
  .next ((s.advance clk).onSlot slot (fun t => t.onPinChange slot level vout))

end Sys2Proof.Machine
end

