-- ==== Sys2Proof/Machine/Supply.lean ====
section
/-!
DEFINITION. Input path, core rails and early warning (R428–R437, R447–R450), with the start and the early end of a
ride-through plan that the main input brings (R461, R463).
-/

namespace Sys2Proof.Machine

/-- Is the guard die supplied (R429)? -/
def State.guardOn (s : State) : Bool := !(decide (s.pwr.power = .noSupply) || decide (s.pwr.power = .battery))

/-- A value in force (R450). -/
def State.inForce (s : State) (f : Fld) : Nat := natField (nth s.supply.force ((f.off - 0x40) / 4) 0).toNat f.lo f.w

/-- Validity of an input. -/
def inValid (i : Nat) : Fld := if i = 0 then F.SUPPLY.STS.A_VALID else F.SUPPLY.STS.B_VALID
def inOv (i : Nat) : Fld := if i = 0 then F.SUPPLY.STS.A_OV else F.SUPPLY.STS.B_OV

/-- The clock since which an input is valid. -/
def State.sinceOf (s : State) (i : Nat) : Option Nat := if i = 0 then s.supply.sinceA else s.supply.sinceB

/-- May an input conduct: valid, and for VIN_B with B_EN = 1 (R430)? -/
def State.usable (s : State) (i : Nat) : Bool :=
  s.flag pSUPPLY (inValid i) && (i == 0 || s.inForce F.SUPPLY.CFG.B_EN == 1)

/-- The FETs enabled in diode mode (R430). -/
def State.fetDiode (s : State) : Nat :=
  bit (s.usable 0 && !natBit s.supply.revOff 0) + 2 * bit (s.usable 1 && !natBit s.supply.revOff 1)

/-- The FETs enabled in priority mode (R430): PREF, the other input while PREF is invalid, and the other input still
until PREF has been valid for RETURN_DB. -/
def State.fetPrio (s : State) : Nat :=
  let p := s.inForce F.SUPPLY.CFG.PREF
  let cur := s.get pSUPPLY F.SUPPLY.STS.FET
  if s.usable p && (natBit cur p || !(natBit cur (1 - p) && s.usable (1 - p))) then 2 ^ p
  else if s.usable (1 - p) then 2 ^ (1 - p)
  else 0

/-- The set of FETs that R430 enables. -/
def State.fetSet (s : State) : Nat := if s.inForce F.SUPPLY.CFG.MODE = 0 then s.fetDiode else s.fetPrio

/-- A new set of FETs (R431). -/
def State.setFet (s : State) (new : Nat) : State :=
  ((s.set pSUPPLY F.SUPPLY.STS.FET new).bump pSUPPLY F.SUPPLY.SWCNT.COUNT).event pSUPPLY 8

/-- The set of FETs changes, with a SUPPLY_SWITCH record (R431, R447); cause 0 UV, 1 OV, 2 return to PREF, 3 recovery. -/
def State.switchFet (s : State) (new cause vinA vinB ns : Nat) : State :=
  let cur := s.get pSUPPLY F.SUPPLY.STS.FET
  if new = cur then s
  else (s.setFet new).guardEvent lineSupply
    (guardRec 0x50 (cur + 4 * cause) new (leBytes 2 vinA ++ leBytes 2 vinB ++ leBytes 4 ns))

/-- An input becomes valid or invalid (R428). -/
def State.setInput (s : State) (i : Nat) (since : Option Nat) : State :=
  let s1 := s.setB pSUPPLY (inValid i) since.isSome
  if i = 0 then { s1 with supply := { s1.supply with sinceA := since } }
  else { s1 with supply := { s1.supply with sinceB := since } }

/-- An input becomes valid or invalid while the guard die has no supply yet (R509): only the moment is known. -/
def State.unpowered (s : State) (i : Nat) (since : Option Nat) : State :=
  if i = 0 then { s with supply := { s.supply with sinceA := since } }
  else if i = 1 then { s with supply := { s.supply with sinceB := since } } else s

/-- An input is above or not above OV; PEVT bit 13 when it rises above (R449). -/
def State.setOv (s : State) (i : Nat) (ov : Bool) : State :=
  let s1 := s.setB pSUPPLY (inOv i) ov
  if ov && !s.flag pSUPPLY (inOv i) then s1.event pSUPPLY 13 else s1

/-! The ride-through plan, as far as the main input moves it. -/

/-- A SHED record (R465): its line, SOURCE, and whether it is a release. -/
def State.shedRec (s : State) (line source : Nat) (release : Bool) : State :=
  s.guardEvent line (guardRec 0x52
    (s.get pTALLY F.TALLY.STS.SHED + 16 * s.get pTALLY F.TALLY.STS.WARN + 32 * bit release) source
    (leBytes 4 (s.get pTALLY F.TALLY.E_SAFE.UJ) ++ leBytes 2 (s.get pTALLY F.TALLY.VHUP.V) ++ leBytes 2 0))

/-- Class `k` (0 D, 1 C, 2 B) is shed (R458, R461). -/
def State.shed (s : State) (k : Nat) : State :=
  ((s.set pTALLY F.TALLY.STS.SHED (natPut (s.get pTALLY F.TALLY.STS.SHED) k 1 1)).event pTALLY 9).shedRec (lineShed k) (k + 1)
    false

/-- A move from Watch to Run is abandoned for the plan (R40), and BUSY falls: the stored request is acted on (R41). One for
Keep stays stored for the plan's end, Watch is no request, and what else was stored is rejected as during a plan. -/
def State.moveEnds (s : State) : State :=
  let s1 := { s.set pSYS F.SYS.PSTATE.BUSY 0 with pwr := { s.pwr with target := none } }
  match s.pwr.stored with
  | some 2 => s1
  | some 3 => State.pstateReject { s1 with pwr := { s1.pwr with stored := none } } 3 0
  | some 0 => State.pstateReject { s1 with pwr := { s1.pwr with stored := none } } 4 0
  | _ => { s1 with pwr := { s1.pwr with stored := none } }

/-- The main input is lost (R432, R455, R461): a learning pulse yields nothing, and a running tally starts the plan where the
core rails are up. Its actions wait for a move from Run to Watch under way (R40). -/
def State.planStart (s : State) : State :=
  let s1 := { (s.set pTALLY F.TALLY.STS.LEARNING 0).set pTALLY F.TALLY.CTL.LEARN 0 with
    tally := { s.tally with learnEnd := none } }
  if s1.running pTALLY && !s1.planOn && decide (s1.supply.phase = .up) then
    let s2 := (s1.set pTALLY F.TALLY.STS.PLAN 1).event pTALLY 8
    let s3 := if s2.pwr.target = some .run then s2.moveEnds else s2
    if s3.flag pTALLY F.TALLY.CFG.D_AT_LOSS && decide (s3.pwr.target ≠ some .watch) then s3.shed 0 else s3
  else s1

/-- What LAST_PLAN keeps of a plan (R462, R463, R468). -/
def State.lastPlan (s : State) (back timeout done : Bool) : State :=
  (s.setW1c pTALLY F.TALLY.LAST_PLAN.VALID).set pTALLY F.TALLY.LAST_PLAN.all (2 ^ 31 + 128 * bit back + 64 * bit timeout + 32 * bit done +
    16 * s.get pTALLY F.TALLY.STS.WARN + s.get pTALLY F.TALLY.STS.SHED)

/-- The main input is back before class A began (R463). A request for Keep that waited for the plan is carried out at its
end (R40). -/
def State.planBack (s : State) : State :=
  if s.get pTALLY F.TALLY.STS.PLAN = 1 then
    let s1 := ((s.lastPlan true false false).set pTALLY F.TALLY.STS.SHED 0).set pTALLY F.TALLY.STS.PLAN 0
    let s2 := ((s1.shedRec lineRelease 4 true).set pTALLY F.TALLY.STS.WARN 0).event pTALLY 11
    if s2.pwr.stored = some 2 ∧ s2.pwr.target = none then s2.powerDown true else s2
  else s

/-! Inputs. -/

/-- A MAIN_LOSS record (R432, R447). -/
def State.mainRec (s : State) (loss ov : Bool) (vinA vor : Nat) : State :=
  s.guardEvent lineMain (guardRec 0x51 (bit loss + 2 * bit (s.flag pSUPPLY F.SUPPLY.STS.B_VALID) + 4 * bit ov) 0
    (leBytes 2 vinA ++ leBytes 2 vor ++ leBytes 4 0))

/-- An input leaves its window (R430–R432); `other`: the other input becomes valid on the same edge. -/
def State.inputInvalid (s : State) (i : Nat) (ov other : Bool) (vinA vinB vor ns : Nat) : State :=
  let was := s.flag pSUPPLY (inValid i)
  let s1 := (s.setInput i none).setOv i ov
  let s2 := if other && !s1.flag pSUPPLY (inValid (1 - i)) then (s1.setInput (1 - i) (some s.clock)).setOv (1 - i) false else s1
  let s3 := s2.switchFet s2.fetSet (bit ov) vinA vinB ns
  if i == 0 && was then
    let s4 := ((s3.event pSUPPLY 9).mainRec true ov vinA vor).planStart
    { s4 with supply := { s4.supply with mainLost := true } }
  else s3

/-- An input enters its window (R428, R430). -/
def State.inputValid (s : State) (i vinA vinB ns : Nat) : State :=
  if s.flag pSUPPLY (inValid i) then s
  else
    let s1 := (s.setInput i (some s.clock)).setOv i false
    s1.switchFet s1.fetSet 3 vinA vinB ns

/-- START_DB in half-nanoseconds. -/
def State.startDb (s : State) : Nat := s.inForce F.SUPPLY.TIMES.START_DB * msHns

/-- Has VIN_A been valid for START_DB after a loss, with its return still to be taken (R463)? -/
def State.returnDue (s : State) : Bool :=
  s.supply.mainLost && (match s.supply.sinceA with
    | some t => decide (t + s.startDb ≤ s.clock)
    | none => false)

/-- VIN_A has been valid for START_DB after a loss (R432, R463). -/
def State.mainReturn (s : State) (vinA vor : Nat) : State :=
  match s.supply.sinceA with
  | some t =>
    if s.supply.mainLost then
      let s1 := s.advance (t + s.startDb)
      let s2 := { s1 with supply := { s1.supply with mainLost := false } }
      ((s2.event pSUPPLY 10).mainRec false false vinA vor).planBack
    else s
  | none => s

/-- PREF has been valid for RETURN_DB in priority mode (R430). -/
def State.returnPref (s : State) (vinA vinB ns : Nat) : State :=
  let p := s.inForce F.SUPPLY.CFG.PREF
  match s.sinceOf p with
  | some t =>
    if s.inForce F.SUPPLY.CFG.MODE = 1 ∧ s.usable p then
      (s.advance (t + s.inForce F.SUPPLY.TIMES.RETURN_DB * msHns)).switchFet (2 ^ p) 2 vinA vinB ns
    else s
  | none => s

/-- The reverse comparator of an input in diode mode (R430, R431): no record. -/
def State.reverse (s : State) (i : Nat) (off : Bool) : State :=
  let s1 := { s with supply := { s.supply with revOff := natPut s.supply.revOff i 1 (bit off) } }
  if s1.inForce F.SUPPLY.CFG.MODE = 1 ∨ s1.fetSet = s1.get pSUPPLY F.SUPPLY.STS.FET then s1 else s1.setFet s1.fetSet

/-! Core rails. -/

/-- The rails in the up order (R433). -/
def upOrder : List Nat := [4, 0, 1, 2, 3, 5]

/-- The clock since which an input that the start condition of R43 names is valid; with KEEP_MAIN and KEEP_ANY both 0,
only after a guard-die POR and for either input (R44, R45). -/
def State.startSince (s : State) : Option Nat :=
  let either := match s.supply.sinceA, s.supply.sinceB with
    | some a, some b => some (min a b)
    | some a, none => some a
    | none, b => b
  if s.pwr.keepAny || (!s.pwr.keepMain && s.supply.porStart) then either
  else if s.pwr.keepMain then s.supply.sinceA else none

/-- The power-up sequence raises the first output (R434). -/
def State.seqStart (s : State) : State :=
  let s1 := (s.set pSUPPLY F.SUPPLY.STS.SEQ_BUSY 1).cause 2
  { s1 with supply := { s1.supply with phase := .ramp 0 s1.clock, porStart := false, rfAt := none } }

/-- Is the hub in Keep with its rails down? -/
def State.inKeep (s : State) : Bool := decide (s.pwr.power = .keep) && decide (s.supply.phase = .off)

/-- The start condition has held for START_DB (R43, R434). -/
def State.railStart (s : State) : State :=
  match s.startSince with
  | some t =>
    if s.inKeep && !s.flag pSUPPLY F.SUPPLY.STS.RF_LATCH && s.supply.rfAt.isNone then (s.advance (t + s.startDb)).seqStart else s
  | none => s

/-- A rail entered its window at a clock, and SEQ_DLY later the next output rises (R434). -/
def State.railStep (s : State) (enter : Nat) : State :=
  match s.supply.phase with
  | .ramp i t =>
    if i < 5 ∧ t ≤ enter ∧ enter ≤ t + s.inForce F.SUPPLY.SEQ.RAMP_TO * msHns then
      let s1 := s.advance (enter + s.inForce F.SUPPLY.SEQ.SEQ_DLY * 200000)
      { s1 with supply := { s1.supply with phase := .ramp (i + 1) s1.clock } }
    else s
  | _ => s

/-- The last rail entered its window at a clock, and PG_DLY later PG_CORE is released (R434). -/
def State.pgCore (s : State) (enter : Nat) : State :=
  match s.supply.phase with
  | .ramp 5 t =>
    if t ≤ enter ∧ enter ≤ t + s.inForce F.SUPPLY.SEQ.RAMP_TO * msHns then
      let s1 := s.advance (enter + s.inForce F.SUPPLY.SEQ.PG_DLY * msHns)
      let s2 := (s1.set pSUPPLY F.SUPPLY.STS.PG_CORE 1).set pSUPPLY F.SUPPLY.STS.SEQ_BUSY 0
      { s2 with pwr := { s2.pwr with power := .coreReset }
                supply := { s2.supply with phase := .up } }
    else s
  | _ => s

/-- The event of the rail-fault line (R23, R435): the edge falls in the last microsecond of the core die's run, so that its detection and
the T of it are kept over the reset. A core die that does not run takes no edge. -/
def State.railEvent (s : State) (on : Bool) (t : Nat) : State :=
  if on then s.setLine lineRail { lineIdle with waiting := [{ guardRec 0 0 0 (leBytes 8 t) with t := s.clock }] } else s

/-- A rail fault (R435). RFT is 0 until the core die stamps the edge of line 5 (R448). -/
def State.railFault (s : State) (rail : Nat) (above : Bool) : State :=
  let s1 := ((s.setW1c pSUPPLY F.SUPPLY.RFAULT.VALID).set pSUPPLY F.SUPPLY.RFAULT.all (2 ^ 31 + 8 * bit above + rail)).set pSUPPLY F.SUPPLY.RFT.T 0
  let s2 := ((s1.bumpSat pSUPPLY F.SUPPLY.STS.RFCNT).event pSUPPLY 11).cause 6
  let s3 := if s2.inForce F.SUPPLY.RAILCFG.RF_RETRY ≤ s2.get pSUPPLY F.SUPPLY.STS.RFCNT then s2.set pSUPPLY F.SUPPLY.STS.RF_LATCH 1
    else s2
  let s4 := (s3.powerDown false).railEvent s.coreOn s.now
  { s4 with supply := { s4.supply with rfAt := some (s4.clock + 1000 * msHns) } }

/-- A rail has not entered its window RAMP_TO after its output rose (R434). -/
def State.rampTimeout (s : State) : State :=
  match s.supply.phase with
  | .ramp i t => (s.advance (t + s.inForce F.SUPPLY.SEQ.RAMP_TO * msHns)).railFault (nth upOrder i 0) false
  | _ => s

/-- Rails outside their windows on one edge, as a map (R435): RFAULT names the first in the up order. -/
def State.railsOut (s : State) (map : Nat) (above : Bool) : State :=
  match upOrder.find? (natBit map) with
  | some r => if s.supply.phase = .up then s.railFault r above else s
  | none => s

/-- The hub enters Keep (R37, R435, R445). -/
def State.enterKeep (s : State) : State :=
  let s1 := s.slotsOff
  { s1 with pwr := { s1.pwr with power := .keep }
            supply := { s1.supply with phase := .off } }

/-- The next output falls (R435): the first 10 µs after the power-down began; each other when the rail before it is below
10 %, or 1 ms after that rail's output fell. With the last, the hub is in Keep. -/
def State.railFall (s : State) (clk : Nat) : State :=
  match s.supply.phase with
  | .lower t =>
    let s1 := s.advance (t + 10 * usHns)
    { s1 with supply := { s1.supply with phase := .fall 0 s1.clock } }
  | .fall i t =>
    let s1 := s.advance (min clk (t + msHns))
    if i < 4 then { s1 with supply := { s1.supply with phase := .fall (i + 1) s1.clock } } else s1.enterKeep
  | _ => s

/-- 1 s after a rail fault (R435): the sequence starts again if the start condition holds and the latch is not set. -/
def State.faultRestart (s : State) : State :=
  match s.supply.rfAt with
  | none => s
  | some t =>
    if s.inKeep then
      let s1 := s.advance t
      let s2 := { s1 with supply := { s1.supply with rfAt := none } }
      match s2.startSince with
      | some t0 =>
        if !s2.flag pSUPPLY F.SUPPLY.STS.RF_LATCH && decide (t0 + s2.startDb ≤ s2.clock) then s2.seqStart else s2
      | none => s2
    else s

/-! The page (R448, R450). -/

/-- The FETs under new values in force. The spec gives this change no cause and no voltages: free values. -/
def State.refet (s : State) : State :=
  (s.switchFet s.fetSet (s.freeVal 2) (natField (s.freeVal 32) 0 16) (natField (s.freeVal 32) 16 16) (s.freeVal 31)).nextFree

/-- Accepted enable: the register values come into force. -/
def State.supplyOn (s : State) : State :=
  State.refet { s with supply := { s.supply with force := [0x40, 0x44, 0x48, 0x4C, 0x50].map (s.rd pSUPPLY) } }

/-- CLR: the reset values are in force at once; RFAULT and STS are as before. -/
def State.supplyClr (s : State) (sts rfault : Word) : State :=
  let s1 := (s.wr pSUPPLY 0x58 sts).wr pSUPPLY 0x88 rfault
  State.refet { s1 with supply := { s1.supply with force := SupplySt.init.force } }

/-- RF_CLR. -/
def State.rfClr (s : State) : State := (s.set pSUPPLY F.SUPPLY.STS.RF_LATCH 0).set pSUPPLY F.SUPPLY.STS.RFCNT 0

/-- PFW_N returns high (R437). -/
def State.pfwRise (s : State) : State :=
  if s.flag pSUPPLY F.SUPPLY.STS.PG_CORE && !s.flag pTALLY F.TALLY.STS.WARN then s.set pSUPPLY F.SUPPLY.STS.PFW 0 else s

/-! Commands. -/

/-- The guard die acts only while it is supplied (R429). -/
def State.onGuard (s : State) (f : State → State) : State := if s.guardOn then f s else s

def execInputInvalid (clk input : Nat) (ov other : Bool) (vinA vinB vor gateNs : Nat) (s : State) :
    Host.Outcome State Fault Refusal :=
  let s1 := s.advance clk
  .next (if s1.guardOn then (if input < 2 then s1.inputInvalid input ov other vinA vinB vor gateNs else s1)
    else s1.unpowered input none)

def execInputValid (clk input vinA vinB gateNs : Nat) (s : State) : Host.Outcome State Fault Refusal :=
  let s1 := s.advance clk
  .next (if s1.guardOn then (if input < 2 then s1.inputValid input vinA vinB gateNs else s1)
    else s1.unpowered input (some s1.clock))

def execMainReturn (vinA vor : Nat) (s : State) : Host.Outcome State Fault Refusal :=
  .next (s.onGuard (fun t => t.mainReturn vinA vor))

def execSupplyReturnPref (vinA vinB gateNs : Nat) (s : State) : Host.Outcome State Fault Refusal :=
  .next (s.onGuard (fun t => t.returnPref vinA vinB gateNs))

def execReverseComparator (clk input : Nat) (off : Bool) (s : State) : Host.Outcome State Fault Refusal :=
  .next ((s.advance clk).onGuard (fun t => if input < 2 then t.reverse input off else t))

def execRailSequenceStart (s : State) : Host.Outcome State Fault Refusal := .next s.railStart

def execRailEnStep (enter : Nat) (s : State) : Host.Outcome State Fault Refusal := .next (s.railStep enter)

def execRailRampTimeout (s : State) : Host.Outcome State Fault Refusal := .next s.rampTimeout

def execPgCoreRelease (enter : Nat) (s : State) : Host.Outcome State Fault Refusal := .next (s.pgCore enter)

def execRailFault (clk map : Nat) (above : Bool) (s : State) : Host.Outcome State Fault Refusal :=
  .next ((s.advance clk).onGuard (fun t => t.railsOut map above))

def execRailEnFallStep (clk : Nat) (s : State) : Host.Outcome State Fault Refusal := .next (s.railFall clk)

def execRailFaultRestart (s : State) : Host.Outcome State Fault Refusal := .next s.faultRestart

def execSupplyRfClr (clk : Nat) (s : State) : Host.Outcome State Fault Refusal :=
  .next ((s.advance clk).bitWrite pSUPPLY F.SUPPLY.CTL.RF_CLR State.rfClr)

def execVorBelowPfw (clk : Nat) (s : State) : Host.Outcome State Fault Refusal :=
  .next ((s.advance clk).onGuard State.pfwFall)

def execPfwRelease (clk : Nat) (s : State) : Host.Outcome State Fault Refusal :=
  .next ((s.advance clk).onGuard State.pfwRise)

end Sys2Proof.Machine
end

