-- ==== Sys2Proof/Machine/Tally.lean ====
section
/-!
DEFINITION. The energy tally and the ride-through plan (R454–R471).
-/

namespace Sys2Proof.Machine

/-! Powers, energies and reserves. -/

/-- The cost of running pages of a class in mW, rounded up (R457). -/
def State.classPower (s : State) (ps : List Nat) (k : Nat) : Nat :=
  ceilDiv ((ps.filter (fun p => s.costClass p == k)).map s.costPower).sum 10

/-- P_BASE, P_A, P_B, P_C and P_D in mW with the pages `ps` running (R457). -/
structure Powers where
  base : Nat
  a : Nat
  b : Nat
  c : Nat
  d : Nat
deriving DecidableEq, Repr

/-- P_ALL. -/
def Powers.all (p : Powers) : Nat := p.base + p.a + p.b + p.c + p.d

def State.powers (s : State) (ps : List Nat) : Powers :=
  { base := calNum s.costs 0x780 2 + s.get pTALLY F.TALLY.EXT.EXT_P
    a := s.classPower ps 1, b := s.classPower ps 2, c := s.classPower ps 3, d := s.classPower ps 4 }

/-- The pages that run. -/
def State.runningPages (s : State) : List Nat := allPages.filter s.running

/-- T_A_MIN in 10 µs (R459). -/
def State.taMin (s : State) : Nat :=
  50 + (if s.dupState == some 1 && s.running pDUPLEX then
      ceilDiv (s.get pCYCLE F.CYCLE.CYC_LEN.LEN + s.get pDUPLEX F.DUPLEX.COPY_TIME.HNS) 20000 else 0) +
    (if s.flag pBOOK F.BOOK.RING_CTL.RING_EN then 100 else 0)

/-- RES_A, RES_B, RES_C and RES_W in µJ (R460). -/
structure Reserves where
  a : Nat
  b : Nat
  c : Nat
  w : Nat
deriving DecidableEq, Repr

def State.reserves (s : State) (p : Powers) : Reserves :=
  let ra := ceilDiv ((p.base + p.a) * s.get pTALLY F.TALLY.TIMES.A_TIME) 100 + calNum s.costs 0x784 4
  let rb := ra + (p.base + p.a + p.b) * s.get pTALLY F.TALLY.KEEP.KEEP_B
  { a := ra, b := rb
    c := rb + (p.base + p.a + p.b + p.c) * s.get pTALLY F.TALLY.KEEP.KEEP_C
    w := ra + ceilDiv (p.all * s.get pTALLY F.TALLY.TIMES.PFW_LEAD) 100 }

/-- A hundred times the capacitance of R456 in µF. -/
def State.cu100 (s : State) : Nat :=
  if s.flag pTALLY F.TALLY.STS.C_VALID then s.get pTALLY F.TALLY.C_LEARN.UF * (100 - s.get pTALLY F.TALLY.CAP.C_MARGIN)
  else s.get pTALLY F.TALLY.CAP.C_RATED * 1000

/-- E_SAFE in µJ at a bank voltage in 20 mV and a total power in mW (R456): voltages in 1/500 mV, and the energy in
2 × 10^-14 µJ. -/
def State.eSafe (s : State) (vhup pAll : Nat) : Nat :=
  let n := vhup * (9970 - s.get pTALLY F.TALLY.HUP.DIV_TOL) - 10000
  let m := 500 * max (20 * s.get pTALLY F.TALLY.VLIM.V_FLOOR) 8700
  (s.cu100 * (n * n - m * m) - pAll * 2500000000000) / 50000000000000

/-- R467 with the pages `ps` running: is E_FULL at least max(RES_C, RES_W)? -/
def State.fullOk (s : State) (ps : List Nat) : Bool :=
  let p := s.powers ps
  let r := s.reserves p
  decide (max r.c r.w ≤ s.eSafe (s.get pTALLY F.TALLY.VLIM.V_FULL) p.all)

/-- Powers, T_A_MIN and reserves as the tally recomputes them at each accepted enable and stop (R457). -/
def State.tallyCosts (s : State) : State :=
  let p := s.powers s.runningPages
  let r := s.reserves p
  let s1 := ((((s.set pTALLY F.TALLY.PWR0.P_BASE p.base).set pTALLY F.TALLY.PWR0.P_A p.a).set pTALLY F.TALLY.PWR1.P_B p.b).set
    pTALLY F.TALLY.PWR1.P_C p.c).set pTALLY F.TALLY.PWR2.P_D p.d
  let s2 := (s1.set pTALLY F.TALLY.T_A_MIN.TIME s.taMin).set pTALLY F.TALLY.RES_A.UJ r.a
  ((s2.set pTALLY F.TALLY.RES_B.UJ r.b).set pTALLY F.TALLY.RES_C.UJ r.c).set pTALLY F.TALLY.RES_W.UJ r.w

/-- P_ALL as PWR0–2 report it. -/
def State.pAll (s : State) : Nat :=
  s.get pTALLY F.TALLY.PWR0.P_BASE + s.get pTALLY F.TALLY.PWR0.P_A + s.get pTALLY F.TALLY.PWR1.P_B +
    s.get pTALLY F.TALLY.PWR1.P_C + s.get pTALLY F.TALLY.PWR2.P_D

/-! The update of every 50 µs. -/

/-- Four ADC codes to a bank voltage in 20 mV (R454). -/
def State.vhupOf (s : State) (adc : List Nat) : Nat := (adc.take 4).sum * s.get pTALLY F.TALLY.HUP.RATIO / 40960

/-- A reading at full scale, or below 0.1 V while VIN_B is valid (R454). -/
def State.hupBad (s : State) (adc : List Nat) : Bool :=
  (adc.take 4).any (fun x => decide (4095 ≤ x) || (decide (x < 200) && s.flag pSUPPLY F.SUPPLY.STS.B_VALID))

/-- VHUP, HUP_FAULT, E_SAFE and RESERVE_OK (R454, R456, R460). -/
def State.measure (s : State) (adc : List Nat) : State :=
  let v := s.vhupOf adc
  let bad := s.hupBad adc
  let e := if bad then 0 else s.eSafe v s.pAll
  let ok := decide (max (s.get pTALLY F.TALLY.RES_C.UJ) (s.get pTALLY F.TALLY.RES_W.UJ) ≤ e)
  let s1 := ((s.set pTALLY F.TALLY.VHUP.V v).setB pTALLY F.TALLY.STS.HUP_FAULT bad).set pTALLY F.TALLY.E_SAFE.UJ e
  let s2 := if bad && !s.flag pTALLY F.TALLY.STS.HUP_FAULT then s1.event pTALLY 16 else s1
  let s3 := s2.setB pTALLY F.TALLY.STS.RESERVE_OK ok
  if s.flag pTALLY F.TALLY.STS.RESERVE_OK && !ok && s.flag pSUPPLY F.SUPPLY.STS.A_VALID then s3.event pTALLY 12 else s3

/-- An energy meter (R469). -/
def State.meterAdd (s : State) (k pj : Nat) : State := s.bumpBy pTALLY (F.TALLY.METER.PJ.at (8 * k)) pj

/-- Static energy of 50 µs of the running pages among some, in pJ. -/
def State.staticPj (s : State) (f : Nat → Bool) : Nat :=
  ((s.runningPages.filter f).map s.costPower).sum * 5000

/-- Page groups of meters 4–6. -/
def crewPage (p : Nat) : Bool := decide (0x10 ≤ p) && decide (p < 0x60)
def canPage (p : Nat) : Bool := decide (0x70 ≤ p) && decide (p < 0x80)
def bridgePage (p : Nat) : Bool := p == pBRIDGE || p == pWINDOWS

/-- The meters (R469). What counts as a bit of a SerDes lane is not stated: the increments of meter 1 are free values. -/
def State.meters (s : State) : State :=
  let recs := (s.get pBOOK F.BOOK.WR_SEQ.SEQ + 2 ^ 32 - s.tally.recSeen) % 2 ^ 32
  let rels := (s.get pSTAKE F.STAKE.RELEASED.COUNT + 2 ^ 32 - s.tally.relSeen) % 2 ^ 32
  let s1 := ((s.meterAdd 0 (s.tally.fwdBits * calNum s.costs 0x788 4 / 1000)).meterAdd 1 (s.freeVal 33)).nextFree
  let s2 := (s1.meterAdd 2 (recs * calNum s.costs 0x7AC 4 / 1000)).meterAdd 3 (rels * calNum s.costs 0x7B0 4 / 1000)
  let s3 := ((s2.meterAdd 4 (s.staticPj crewPage)).meterAdd 5 (s.staticPj canPage)).meterAdd 6 (s.staticPj bridgePage)
  let s4 := s3.meterAdd 7 (s.staticPj (fun p => !crewPage p && !canPage p && !bridgePage p) + calNum s.costs 0x780 2 * 50000)
  { s4 with tally := { s4.tally with recSeen := s.get pBOOK F.BOOK.WR_SEQ.SEQ
                                     relSeen := s.get pSTAKE F.STAKE.RELEASED.COUNT, fwdBits := 0 } }

/-- The warning (R461). -/
def State.warn (s : State) : State :=
  if s.flag pTALLY F.TALLY.STS.WARN then s else ((s.set pTALLY F.TALLY.STS.WARN 1).event pTALLY 10).pfwFall

/-- The last-gasp NOTICE (R464). -/
def State.lastGasp (s : State) : State :=
  s.sendNotice (mgmtSpec 3 0 0 0)
    (beBytes 8 s.pwr.serial ++ beBytes 8 (s.get pTALLY F.TALLY.LAST_LOSS.T) ++ beBytes 4 s.wrSeq ++
      beBytes 4 (s.get pTALLY F.TALLY.E_SAFE.UJ) ++ beBytes 1 (s.get pTALLY F.TALLY.STS.SHED) ++
      beBytes 1 (bit (s.dupState == some 1) + 2 * bit s.dup.peerSynced) ++ beBytes 6 0)

/-- A COMMIT whose request has not crossed is refused with code 0x03 (R485). -/
def State.commitRefuse (s : State) : State :=
  { s with mon := { s.mon with
      request := none
      op := s.mon.op.map (fun o => if o.op = 0x0D then { o with code := 3 } else o) } }

/-- The key-store step at the start of class A (R459, R485): a COMMIT whose request has not crossed to CLK_KEEP is
refused with code 0x03, and the loss time is written to the battery-domain log. -/
def State.keyStoreStep (s : State) : State :=
  let s1 := { s with mon := { s.mon with lossLog := some s.rtcNow } }
  match s1.mon.request with
  | some (_, t) =>
    if s1.clock < t + 183100 then s1.commitRefuse else s1
  | none => s1

/-- Class A starts (R461, R459, R464). -/
def State.classA (s : State) : State :=
  let s1 := s.set pTALLY F.TALLY.STS.PLAN 2
  let s2 := { s1 with tally := { s1.tally with
      aStart := some s1.clock, aSeq := s1.wrSeq, aCopied := false, gasp := some s1.sw.nextBuf } }
  s2.lastGasp.keyStoreStep

/-- Is a class shed? -/
def State.isShed (s : State) (k : Nat) : Bool := natBit (s.get pTALLY F.TALLY.STS.SHED) k

/-- A threshold is reached when E_SAFE is at or below it (R461). -/
def State.reached (s : State) (res : Fld) : Bool := decide (s.get pTALLY F.TALLY.E_SAFE.UJ ≤ s.get pTALLY res)

/-- The rows of R461. -/
def State.row1 (s : State) : State :=
  if !s.isShed 0 && (s.flag pTALLY F.TALLY.CFG.D_AT_LOSS || s.reached F.TALLY.RES_C.UJ) then s.shed 0 else s
def State.row2 (s : State) : State := if !s.isShed 1 && s.reached F.TALLY.RES_B.UJ then s.shed 1 else s
def State.row3 (s : State) : State := if s.reached F.TALLY.RES_W.UJ then s.warn else s
def State.row4 (s : State) : State := if !s.isShed 2 && s.reached F.TALLY.RES_A.UJ then (s.warn.shed 2).classA else s

/-- The plan at an update (R461); it waits for a transition from Run to Watch to complete (R40), and a return of VIN_A that
falls on the update is taken first (R463). -/
def State.planRows (s : State) : State :=
  if s.get pTALLY F.TALLY.STS.PLAN = 1 ∧ s.pwr.target ≠ some .watch ∧ s.returnDue = false then s.row1.row2.row3.row4 else s

/-- TALLY_UPDATE. Measurement goes on in Keep and while TALLY does not run; meters and plan do not (R471). -/
def State.tallyUpdate (s : State) (adc : List Nat) : State :=
  let s1 := s.measure adc
  if s1.running pTALLY then s1.meters.planRows else s1

/-! The end of the plan. -/

/-- The plan ends with the power-down and Keep (R462). -/
def State.planEnd (s : State) (timeout : Bool) : State := (s.lastPlan false timeout (!timeout)).powerDown true

/-- Has the last-gasp NOTICE left: no copy of it waits or is leaving (R459)? -/
def State.gaspSent (s : State) : Bool :=
  match s.tally.gasp with
  | none => true
  | some b => !s.sw.txq.any (fun x => x.buf == b) && (List.range 22).all (fun n => match (s.port n).leaving with
    | some x => x.q.buf != b || decide ((s.port n).leaveEnd ≤ s.now)
    | none => true)

/-- Is every item of class A done (R459)? -/
def State.aDone (s : State) : Bool :=
  (!(s.dupState == some 1 && s.running pDUPLEX) || s.tally.aCopied) &&
    (!(s.running pBOOK && s.flag pBOOK F.BOOK.RING_CTL.RING_EN) ||
      decide (seqDiff s.tally.aSeq (s.get pBOOK F.BOOK.RING_SEQ.SEQ) = 0) ||
      decide (2 ^ 31 ≤ seqDiff s.tally.aSeq (s.get pBOOK F.BOOK.RING_SEQ.SEQ))) &&
    s.gaspSent && s.mon.op.isNone

/-- CLASS_A_COMPLETE. -/
def State.aComplete (s : State) : State :=
  if s.get pTALLY F.TALLY.STS.PLAN == 2 && s.aDone then s.planEnd false else s

/-- CLASS_A_TIMEOUT. -/
def State.aTimeout (s : State) : State :=
  match s.tally.aStart with
  | some t =>
    if s.get pTALLY F.TALLY.STS.PLAN = 2 then
      (s.advance (t + s.get pTALLY F.TALLY.TIMES.A_TIME * 10 * usHns)).planEnd true else s
  | none => s

/-! Learning (R455). -/

/-- May a pulse start? -/
def State.mayLearn (s : State) : Bool := s.flag pSUPPLY F.SUPPLY.STS.A_VALID && !s.planOn

/-- A learning pulse starts. -/
def State.learnStart (s : State) : State :=
  let s1 := (s.set pTALLY F.TALLY.STS.LEARNING 1).set pTALLY F.TALLY.CTL.LEARN 1
  { s1 with tally := { s1.tally with
      learnEnd := some (s1.clock + s1.get pTALLY F.TALLY.LEARN.LEARN_MS * msHns)
      v1 := s1.get pTALLY F.TALLY.VHUP.V, lastLearn := s1.clock } }

/-- A write of CTL.LEARN = 1: no pulse while one runs (R10), while the page is held (R471) or does not run. -/
def State.learnWrite (s : State) : State :=
  if !s.running pTALLY || s.held pTALLY || s.flag pTALLY F.TALLY.STS.LEARNING then s
  else if s.mayLearn then s.learnStart else s.event pTALLY 14

/-- LEARN_H in half-nanoseconds. -/
def State.learnPeriod (s : State) : Nat := s.get pTALLY F.TALLY.LEARN.LEARN_H * 3600000 * msHns

/-- LEARN_H hours have passed. -/
def State.autoLearn (s : State) : State :=
  if s.running pTALLY && s.flag pTALLY F.TALLY.CFG.AUTO_LEARN && !s.flag pTALLY F.TALLY.STS.LEARNING then
    let s1 := s.advance (s.tally.lastLearn + s.learnPeriod)
    if s1.mayLearn && !s1.held pTALLY then s1.learnStart
    else { s1 with tally := { s1.tally with lastLearn := s1.clock } }
  else s

/-- The learned capacitance in µF, rounded down. -/
def learned (v1 v2 ms ohm10 : Nat) : Nat := (v1 + v2) * ms * 5000 / ((v1 - v2) * ohm10)

/-- The pulse ends (R455). Without a load the formula has no value: a free value. -/
def State.learnDone (s : State) : State :=
  match s.tally.learnEnd with
  | none => s
  | some t =>
    let s0 := s.advance t
    let s1 := { (s0.set pTALLY F.TALLY.STS.LEARNING 0).set pTALLY F.TALLY.CTL.LEARN 0 with
      tally := { s0.tally with learnEnd := none } }
    let v1 := s1.tally.v1
    let v2 := s1.get pTALLY F.TALLY.VHUP.V
    let ohm := s1.get pTALLY F.TALLY.LEARN.LOAD_OHM
    let c := if ohm = 0 then s1.freeVal 32 else learned v1 v2 (s1.get pTALLY F.TALLY.LEARN.LEARN_MS) ohm
    if v2 < v1 ∧ v1 ≤ 100 * (v1 - v2) then
      let s2 := ((s1.nextFree.set pTALLY F.TALLY.C_LEARN.UF c).set pTALLY F.TALLY.STS.C_VALID 1).event pTALLY 13
      if c < 10 * s1.get pTALLY F.TALLY.CAP.C_RATED then s2.event pTALLY 15 else s2
    else s1.event pTALLY 14

/-! Page operations (R471). -/

/-- Accepted enable. -/
def State.tallyOn (s : State) : State :=
  State.tallyCosts { s with
    tally := { s.tally with lastLearn := s.clock }
    cal := { s.cal with tally := s.enCal.1 } }

/-- EN = 0: no plan runs, and no pulse. -/
def State.tallyOff (s : State) : State :=
  let s1 := ((s.set pTALLY F.TALLY.STS.PLAN 0).set pTALLY F.TALLY.STS.SHED 0).set pTALLY F.TALLY.STS.WARN 0
  let s2 := (s1.set pTALLY F.TALLY.STS.LEARNING 0).set pTALLY F.TALLY.CTL.LEARN 0
  { s2 with tally := { s2.tally with learnEnd := none, aStart := none, gasp := none } }

/-- CLR: LAST_PLAN and LAST_LOSS are as before. -/
def State.tallyClr (s : State) (plan lossLo lossHi : Word) : State :=
  State.tallyCosts (((s.wr pTALLY 0x94 plan).wr pTALLY 0x98 lossLo).wr pTALLY 0x9C lossHi)

/-! Commands. -/

def execTallyUpdate (clk : Nat) (adc : List Nat) (s : State) : Host.Outcome State Fault Refusal :=
  .next ((s.advance clk).onGuard (fun t => t.tallyUpdate adc))

def execClassAComplete (clk : Nat) (s : State) : Host.Outcome State Fault Refusal :=
  .next ((s.advance clk).onGuard State.aComplete)

def execClassATimeout (s : State) : Host.Outcome State Fault Refusal := .next (s.onGuard State.aTimeout)

def execTallyLearn (clk : Nat) (s : State) : Host.Outcome State Fault Refusal :=
  .next ((s.advance clk).bitWrite pTALLY F.TALLY.CTL.LEARN State.learnWrite)

def execTallyAutoLearn (s : State) : Host.Outcome State Fault Refusal := .next (s.onGuard State.autoLearn)

def execTallyLearnEnd (s : State) : Host.Outcome State Fault Refusal := .next (s.onGuard State.learnDone)

end Sys2Proof.Machine
end

