-- ==== Sys2Proof/Machine/Duplex.lean ====
section
/-!
DEFINITION. Duplex twins (R395–R409, R412, R413, R419, R423): states, STATUS frames, the cycle record as the active hub
builds and the standby applies it, release notices, heartbeats, declarations and fencing. What happens at T_k stands in
Takeover.lean.
-/

namespace Sys2Proof.Machine

/-! States. -/

/-- Enter a state of R395; the drains of the book follow (R264). SYNCED starts anew on entering STANDBY. -/
def State.setDup (s : State) (k : Nat) : State :=
  let s1 := (s.set pDUPLEX F.DUPLEX.STS.STATE k)
  let s2 := (State.shadowSync { s1 with dup := { s1.dup with everOn := true } } s).syncDrains
  if k = 2 ∧ s.get pDUPLEX F.DUPLEX.STS.STATE ≠ 3 then s2.set pDUPLEX F.DUPLEX.STS.SYNCED 0 else s2

/-- A controller that comes under bus monitoring: it sends no more of a frame, and TEC and REC are 0 (R302). -/
def State.canShadow (s : State) : State :=
  (List.range 16).foldl (fun st n =>
    if st.running (pCAN n) then (((st.canIdle n).set (pCAN n) F.CAN.ERRCNT.TEC 0).set (pCAN n) F.CAN.ERRCNT.REC 0).set (pCAN n)
        F.CAN.STS.STATE (if st.get (pCAN n) F.CAN.STS.STATE = 3 then 3 else 0) else st) s

/-- SOURCE of the records of R419: the guarded member, and the hub's own member. -/
def State.pairSource (s : State) : Nat :=
  if s.inGang then (if s.isTwin s.member then s.guards s.member else s.member) else 0

/-- The hub of a pair enters FENCED (R413). -/
def State.dupYield (s : State) : State :=
  let s2 := ((s.setDup 6).event pDUPLEX 12).canShadow
  { s2 with dup := { s2.dup with tk := none, tDecl := none, frozen := false, wasShadow := true } }

/-- It is fenced, with its record (R413, R419). -/
def State.dupFence (s : State) (cause : Nat) (data : List Byte) : State :=
  (s.stage .mgt { t := s.now, kind := 0x31, flags := cause, source := s.member, data := data }).dupYield

/-- The peer is absent (R406): off the facing ring port, or for a pair off the ring on every gang link. -/
def State.peerAbsent (s : State) : Bool :=
  let silent := decide (s.dup.lastPeer + 2 * s.get pCYCLE F.CYCLE.CYC_LEN.LEN ≤ s.now)
  if s.inGang && s.pairSource != 0 then silent
  else !s.linkUp (s.get pDUPLEX F.DUPLEX.CFG.FACING) || silent

/-! Declarations (R408). -/

/-- From here on every pin keeps its level and output enable (R408): a software-level pin keeps in its latch what SWDATA and SWOE
gave it. -/
def State.holdPins (s : State) : State :=
  (List.range 256).foldl (fun st p =>
    if st.funcOf p = 5 then
      let x := st.pinTracked p
      st.latchPin p x.1 x.2 st.now
    else st) s

/-- An active hub declares a fault or a handover. -/
def State.declare (s : State) (hand : Bool) (cause : Nat) : State :=
  let t := s.now
  let tk := s.boundaryFrom (t + if hand then s.get pDUPLEX F.DUPLEX.COPY_TIME.HNS else 4000)
  let s1 := (if hand then s else s.holdPins).setDup 5
  let s2 := { s1 with dup := { s1.dup with
    tk := some tk, cause := cause, tDecl := some t, handover := hand, frozen := !hand } }
  if s2.running pDUPLEX then s2.sendStatus s2.recordCycle else s2

/-- A fault is declared where the hub is active (R408, R24, R417). -/
def State.declareFault (s : State) (cause : Nat) : State := if s.dupState = some 1 then s.declare false cause else s

/-! The cycle record as the active hub builds it (R400, R401). -/

/-- 256 bits, pin 0 in the most significant bit of the first byte. -/
def pinBytes (m : Nat) : List Byte :=
  (List.range 32).map (fun i => BitVec.ofNat 8
    (((List.range 8).map (fun j => bit (natBit m (8 * i + j)) * 2 ^ (7 - j))).sum))

/-- Levels and output enables of the pins of functions 1, 2 and 5. -/
def State.pinLevels (s : State) : Nat × Nat :=
  let g := fun p : Nat => if s.funcOf p == 3 then (false, false) else s.pinTracked p
  (((List.range 256).map (fun p => bit (g p).1 * 2 ^ p)).sum, ((List.range 256).map (fun p => bit (g p).2 * 2 ^ p)).sum)

/-- The wait of an engine in the encoding of R194, and its target. -/
def waitCode : EngWait → Nat × Nat
  | .waitp => (1, 0)
  | .waitt t false => (2, t.toNat)
  | .waitt _ true => (2, 0)
  | .stall _ _ _ => (3, 0)
  | _ => (0, 0)

/-- What is left of a count of `n` steps, whose last step was taken at the reference (`k0`, `phs`), before the steps from tick `k`
on (R194). -/
def State.countLeft (s : State) (e k : Nat) : Nat → Nat → Nat → Nat
  | 0, _, _ => 0
  | n + 1, k0, phs =>
    let st := s.stepOf e k0 phs k0
    if st.1 < k then State.countLeft s e k n st.1 (st.2 + s.div256 e) else n + 1

/-- An engine as of tick `k` (R194, R400): a count as far as it has run, and a DLY under way as its remaining count before the next
word. -/
def State.engImage (s0 : State) (e k : Nat) : EngImage :=
  let s := s0.txSettle e (k - 1)
  let g0 := s.eng e
  let xy := if g0.wait = .cnt then (let r := s.cntTo e (k - 1); (r.x, r.y)) else (g0.x, g0.y)
  let g := { g0 with x := xy.1, y := xy.2, dcnt := s.countLeft e k g0.dcnt g0.tick g0.phs }
  let st := s.nextStep e k
  let w := waitCode g.wait
  let mask := fun (f : PinSt → Bool) => ((s.claimed e).map (fun i => bit (f (s.pin (ePin e i))) * 2 ^ i)).sum
  { eng := e, pc := if g.wait = .dly then g.pc / 128 * 128 + (g.pc + 1) % 128 else g.pc, osr := g.osr, osc := g.osc,
    isr := g.isr, isc := g.isc, x := g.x, y := g.y, phs := 256 * (st.1 - k) + st.2, dcnt := g.dcnt, phase := g.phase,
    wait := w.1, target := w.2, txf := g.txf, rxf := g.rxf, latch := g.latch, latchCnt := min g.latchCnt 0xFFFF,
    lvl := mask (fun p => p.lvl), oe := mask (fun p => p.oe) }

/-- A controller's items (R302). -/
def State.canImage (s : State) (n : Nat) : CanImage :=
  { can := n
    bufs := (List.range 3).map (fun b =>
      ([0, 4] ++ (List.range 16).map (fun i => 0x40 + 4 * i)).map (fun o => (s.rd (pCAN n) (0x300 + 0x80 * b + o)).toNat))
    req := s.canReq n, sts := (s.rd (pCAN n) 0x98).toNat, refcc := s.get (pCAN n) F.CAN.REFCC.CC, ack := (s.can n).ackT }

/-- The 40 bytes of a queue entry (R401). -/
def stakeEntry (x : Stake) : List Byte := stakeBytes x ++ beBytes 4 x.ins ++ beBytes 4 0

/-- The record of cycle `n` at this moment with `k` book records. -/
def State.makeRecord (s : State) (n : Int) (k : Nat) : CycRecord :=
  let first := s.get pBOOK F.BOOK.TWIN_SEQ.SEQ
  let pl := s.pinLevels
  { cycle := cyc32 n, tc := s.now, len := 0, firstSeq := first, levels := pl.1, oes := pl.2
    staging := (List.range (64 * s.slotOut s.nid)).map (fun i =>
      s.staged (64 * (s.slotOfs s.nid + s.slotLen s.nid - s.slotOut s.nid) + i))
    engines := ((List.range 64).filter (fun e => s.running (pENG e))).map (fun e => s.engImage e s.nowTick)
    stakes := s.stake.q.map stakeEntry
    cans := ((List.range 16).filter (fun c => s.running (pCAN c))).map s.canImage
    book := (List.range k).map (fun i => s.ldBytes (slotAddr (first + i)) 32)
    tally := beBytes 4 (s.get pTALLY F.TALLY.E_SAFE.UJ) ++ beBytes 4 (s.get pTALLY F.TALLY.C_LEARN.UF) ++
      beBytes 2 (s.get pTALLY F.TALLY.VHUP.V) ++ beBytes 1 (s.rd pTALLY F.TALLY.STS.all.off).toNat ++ beBytes 1 0 ++
      beBytes 8 (s.get pTALLY F.TALLY.LAST_LOSS.T) ++ List.replicate 44 0 }

/-- A section: type and length before its body (R401). -/
def section_ (typ : Nat) (body : List Byte) : List Byte := beBytes 1 typ ++ beBytes 3 0 ++ beBytes 4 body.length ++ body

/-- A map of numbers, number 0 in the most significant bit of the first of `n` bytes. -/
def mapBytes (n : Nat) (l : List Nat) : List Byte :=
  (List.range n).map (fun i => BitVec.ofNat 8
    (((List.range 8).map (fun j => bit (l.contains (8 * i + j)) * 2 ^ (7 - j))).sum))

/-- The bytes of a record (R401). -/
def recordBytes (r : CycRecord) : List Byte :=
  let secs := section_ 1 (pinBytes r.levels ++ pinBytes r.oes) ++ section_ 2 r.staging ++
    section_ 3 (mapBytes 8 (r.engines.map (·.eng)) ++ r.engines.flatMap (fun e => slice (Config.engPack e) 0 128)) ++
    section_ 4 r.stakes.flatten ++
    section_ 5 (mapBytes 8 (r.cans.map (·.can)) ++ r.cans.flatMap (fun c => slice (Config.canPack c) 0 256)) ++
    section_ 6 r.book.flatten ++ section_ 7 r.tally
  let head := beBytes 4 r.cycle ++ beBytes 8 r.tc ++ beBytes 4 (32 + secs.length + 4) ++ beBytes 4 r.firstSeq ++
    beBytes 2 r.book.length ++ beBytes 2 r.stakes.length ++ beBytes 8 0
  let b := head ++ secs
  b ++ beBytes 4 (crc32c b)

/-- The RECORD frames of a record's bytes: frame i carries bytes 1,408 i onwards (R400). -/
def State.recordFrames (s : State) (cyc : Nat) (b : List Byte) : List Frame :=
  let n := ceilDiv b.length 1408
  (List.range n).map (fun i => s.backsight cyc 2 i n ((b.drop (1408 * i)).take 1408))

/-- Send the record of cycle `n` (R400): the book part goes on from TWIN_SEQ, at most BOOK_MAX records of it. -/
def State.sendRecord (s0 : State) (n : Int) : State :=
  let s := s0.syncDrains
  let seq := s.get pBOOK F.BOOK.TWIN_SEQ.SEQ
  let k := if s.book.twin.active then min (s.get pDUPLEX F.DUPLEX.CFG.BOOK_MAX) (seqDiff s.wrSeq seq) else 0
  let b := recordBytes (s.makeRecord n k)
  let s1 := (s.recordFrames (cyc32 n) b).foldl (fun st f => st.sendCopies [2, 3] f (some 7) none) s
  let s2 := (s1.bump pDUPLEX F.DUPLEX.REC_SENT.COUNT).set pDUPLEX F.DUPLEX.REC_LAST.BYTES b.length
  let s3 := if s.book.twin.active then s2.set pBOOK F.BOOK.TWIN_SEQ.SEQ (seq + k) else s2
  let all := s3.tally.aStart.isSome && decide (seqDiff (seq + k) s3.tally.aSeq < 2 ^ 31)
  { s3 with tally := { s3.tally with aCopied := s3.tally.aCopied || all } }

/-- The copy point of the next cycle (R396, R398, R400, R403, R408): STATUS, then the record of an active hub or of a
handover; a standby abandons a record still incomplete (`cut`). A fenced hub sends nothing. -/
def State.copyPoint (s : State) (cut : Bool) : State :=
  let o := s.get pDUPLEX F.DUPLEX.COPY_AT.AT
  if !s.running pDUPLEX || !s.running pCYCLE then s
  else
    let n := s.cycleAt o s.dup.copied
    let s1 := s.advanceT (s.cycPoint n o)
    let s2 := { s1 with dup := { s1.dup with copied := some n } }
    match s.get pDUPLEX F.DUPLEX.STS.STATE with
    | 6 => s2
    | 1 => (s2.sendStatus (cyc32 n)).sendRecord n
    | 5 =>
      let s3 := s2.sendStatus (cyc32 n)
      if s3.dup.handover && !s3.dup.frozen then
        let s4 := (s3.sendRecord n).holdPins
        { s4 with dup := { s4.dup with frozen := true } }
      else s3
    | 0 => s2.sendStatus (cyc32 n)
    | _ =>
      let s3 := s2.sendStatus (cyc32 n)
      if cut then (s3.bump pDUPLEX F.DUPLEX.REC_LOST.COUNT).event pDUPLEX 10 else s3

/-! The standby. -/

/-- A decided takeover (R407), or NOT_READY where TAKE_EN or SYNCED is 0. -/
def State.takeDecide (s : State) (cause tk : Nat) : State :=
  if s.flag pDUPLEX F.DUPLEX.CFG.TAKE_EN && s.flag pDUPLEX F.DUPLEX.STS.SYNCED then
    let s1 := s.setDup 4
    { s1 with dup := { s1.dup with tk := some tk, cause := cause } }
  else s.event pDUPLEX 15

/-- The key of a notice leaves the queue and the side list, and the level of every class 0 notice enters the pin image (R404). -/
def State.noticeApply (s : State) (n : Notice) : State :=
  let gone := fun x : Stake => x.srcNode == n.srcNode && x.srcMember == n.srcMember && x.id == n.id
  let img := decide (n.cls = 0) && decide (n.pin < 256)
  { s with
    stake := { s.stake with q := s.stake.q.filter (fun x => !gone x), side := s.stake.side.filter (fun x => !gone x.st) }
    dup := { s.dup with
      imgLvl := if img then natPut s.dup.imgLvl n.pin 1 (bit (n.value == 1)) else s.dup.imgLvl
      imgOe := if img then natPut s.dup.imgOe n.pin 1 (bit (n.value != 2)) else s.dup.imgOe } }

/-- Is this hub a standby that follows its peer (states 2, 3, 4)? -/
def State.following (s : State) : Bool := s.dupState == some 2 || s.dupState == some 3 || s.dupState == some 4

/-- A notice reaches the standby (R404): applied and logged; a full log drops its oldest entry. -/
def State.noticeIn (s : State) (n : Notice) : State :=
  let s1 := s.noticeApply n
  let l := s1.dup.log ++ [n]
  if l.length ≤ 256 then { s1 with dup := { s1.dup with log := l } }
  else (({ s1 with dup := { s1.dup with log := l.drop 1 } }).bump pDUPLEX F.DUPLEX.NOTICE_DROP.COUNT).event pDUPLEX 16

/-- The entries of a NOTICE payload. -/
def noticesOf (b : List Byte) : List Notice :=
  (List.range (min 16 (b.length / 16))).map (fun i => noticeOf (slice b (16 * i) 16))

/-- A NOTICE frame arrives. -/
def State.noticeRx (s : State) (b : List Byte) : State :=
  if s.running pDUPLEX && s.following then (noticesOf b).foldl State.noticeIn s else s

/-- What an engine is stalled in, from the instruction at its PC (R202, R243). -/
def stallOf (w : Nat) : StallKind :=
  match iOp w with
  | 8 => .out
  | 9 => .inFlush
  | 11 => .push
  | 12 => .stamp
  | _ => .pull

/-- An engine takes its state from the record (R194, R403); its place in time is fixed at T_k. -/
def State.engApply (s : State) (i : EngImage) : State :=
  let w := match i.wait with
    | 1 => EngWait.waitp
    | 2 => EngWait.waitt i.target false
    | 3 => EngWait.stall (stallOf (s.get (pCREW (i.eng / 4)) (F.CREW.IMEM.WORD.at (4 * i.pc)))) s.nowTick false
    | _ => EngWait.none
  let s1 := s.setEng i.eng { s.eng i.eng with
    pc := i.pc, osr := i.osr, osc := i.osc, isr := i.isr, isc := i.isc, x := i.x, y := i.y, phs := i.phs, dcnt := i.dcnt,
    phase := i.phase, wait := w, txf := i.txf, rxf := i.rxf, txIn := [], latch := i.latch, latchCnt := i.latchCnt, latchOld := (i.latch, 0),
    first := false }
  (s1.claimed i.eng).foldl (fun st k =>
    st.latchPin (ePin i.eng k) (natBit i.lvl k) (natBit i.oe k) (st.pin (ePin i.eng k)).outT) s1

/-- Words into registers of a page from an offset. -/
def State.putRegs (s : State) (p off : Nat) : List Nat → State
  | [] => s
  | w :: t => State.putRegs (s.wr p off (w32 w)) p (off + 4) t

/-- A controller takes its items from the record, and returns the entries its active hub has acknowledged (R302). -/
def State.canApply (s : State) (i : CanImage) : State :=
  let p := pCAN i.can
  let s1 := (List.range 3).foldl (fun st b =>
    let ws := nth i.bufs b []
    (st.putRegs p (0x300 + 0x80 * b) (ws.take 2)).putRegs p (0x340 + 0x80 * b) (ws.drop 2)) s
  let s2 := ((s1.setReq i.can i.req).wr p 0x98 (w32 i.sts)).set p F.CAN.REFCC.CC i.refcc
  let s3 := s2.setCan i.can { s2.can i.can with ackT := i.ack }
  match i.ack with
  | none => s3
  | some t => (List.range 32).foldl (fun st e =>
      if natBit (st.get p F.CAN.RXOWN.MAP) e && decide (st.get p (rxe F.CAN.RXE_STAMP.T e) ≤ t) then st.rxReturn i.can e
      else st) s3

/-- A queue entry of the record (R401). -/
def entryStake (b : List Byte) : Stake := { stakeOf b with ins := ofBE (slice b 32 4) }

/-- The queue is replaced by the record's, and what this hub accepted after the copy point is merged back (R180). -/
def State.queueApply (s : State) (r : CycRecord) : State :=
  let base := r.stakes.map entryStake
  let top := base.foldl (fun m x => max m (x.ins + 1)) s.stake.ins
  let side := s.stake.side.filter (fun x => decide (r.tc ≤ x.t) && !base.any (sameKey x.st))
  let later := (side.zipIdx).map (fun p => { p.1.st with ins := top + p.2 })
  let q := (base ++ later).foldl (fun l x => stakeIns x l) []
  State.set { s with stake := { s.stake with q := q, side := side, ins := top + later.length } } pSTAKE F.STAKE.QSTS.HWM
    (max (s.get pSTAKE F.STAKE.QSTS.HWM) q.length)

/-- The standby applies a record (R180, R269, R302, R403, R404, R466). -/
def State.applyRecord (s : State) (r : CycRecord) : State :=
  let s1 := s.queueApply r
  let s2 := r.engines.foldl (fun st i => if st.running (pENG i.eng) && decide (i.eng < 64) then st.engApply i else st) s1
  let s3 := r.cans.foldl (fun st i => if st.running (pCAN i.can) && decide (i.can < 16) then st.canApply i else st) s2
  let s4 := if s3.running pBOOK then r.book.foldl State.bookCopy s3.syncDrains else s3
  let s5 := s4.stageBytes (64 * (s4.slotOfs s4.nid + s4.slotLen s4.nid - s4.slotOut s4.nid))
    (r.staging.take (64 * s4.slotOut s4.nid))
  let s6 := s5.set pTALLY F.TALLY.TWIN_E.UJ (ofBE (slice r.tally 0 4))
  let log := s6.dup.log.filter (fun n => decide (r.tc ≤ n.tExec))
  let s7 := { s6 with dup := { s6.dup with applied := some r, log := log, imgLvl := r.levels, imgOe := r.oes } }
  let s8 := log.foldl State.noticeApply s7
  let s9 := ((s8.set pDUPLEX F.DUPLEX.APPLIED_CYC.CYCLE r.cycle).bump pDUPLEX F.DUPLEX.REC_APPLIED.COUNT).set pDUPLEX
    F.DUPLEX.REC_LAST.BYTES r.len
  (s9.set pDUPLEX F.DUPLEX.STS.SYNCED 1).set pDUPLEX F.DUPLEX.STS.SYNC_AGE 0

/-- The last frame of a record commits (R403). -/
def State.recordRx (s : State) (r : CycRecord) : State :=
  if s.running pDUPLEX && s.following && decide (r.len ≤ 65536) &&
      olderCyc (s.get pDUPLEX F.DUPLEX.APPLIED_CYC.CYCLE) r.cycle then s.applyRecord r else s

/-! STATUS and heartbeats. -/

/-- Is this moment inside the heartbeat window of its cycle (R405)? -/
def State.inBeat (s : State) : Bool :=
  let a := s.cycPoint (s.cycOf s.now) (s.get pDUPLEX F.DUPLEX.COPY_AT.AT)
  decide (a ≤ s.now) && decide (s.now < a + s.get pDUPLEX F.DUPLEX.HB_WIN.WIN)

/-- A heartbeat on a lane (R405). -/
def State.beat (s : State) (lane : Nat) (clean : Bool) : State :=
  let s1 := { s with dup := { s.dup with
    heardA := s.dup.heardA || lane == 0, heardB := s.dup.heardB || lane == 1
    lastBeat := if clean then s.now else s.dup.lastBeat } }
  let s2 := s1.set pDUPLEX F.DUPLEX.STS.MISSED 0
  if s2.dupState = some 3 then s2.setDup 2 else s2

/-- Two hubs claim ACTIVE: the one with the lower serial number keeps the role (R413). -/
def State.dualClaim (s : State) (sn : Nat) : State :=
  let s1 := s.event pDUPLEX 13
  if sn < s.pwr.serial then s1.dupFence 0 (leBytes 8 sn) else s1

/-- A held engine goes on at its first step from tick `k`. -/
def State.engGoOn (s : State) (k e : Nat) : State :=
  let n := s.nextStep e k
  s.setEng e { s.eng e with tick := n.1, phs := n.2 }

/-- An engine resumes at tick `k` (R410): one that the applied record holds after the distance to its next step that the
record gives, another at its next step. -/
def State.engResume (s : State) (k e : Nat) : State :=
  if !s.running (pENG e) then s
  else match s.dup.applied with
    | some r =>
      if r.engines.any (fun i => i.eng == e) then
        let g := s.eng e
        let w := match g.wait with | .stall kind _ long => EngWait.stall kind k long | x => x
        s.setEng e { g with tick := k + g.phs / 256, prev := k, phs := g.phs % 256, wait := w }
      else s.engGoOn k e
    | none => s.engGoOn k e

/-- CAN controllers leave bus monitoring (R303). -/
def State.cansOn (s : State) : State :=
  (List.range 16).foldl (fun st n => if st.running (pCAN n) then st.canOn n else st) s

/-- A hub whose gang fence ends leaves shadow (R192, R417): its controllers synchronize, and its engines go on where they
stood. -/
def State.unshadow (s : State) : State :=
  (List.range 64).foldl (fun st e => if st.running (pENG e) then st.engGoOn s.nowTick e else st) s.cansOn

/-- Negotiation ends with a role (R396). A hub that leaves shadow commits what waited in its shadow queue, and its CAN
controllers leave bus monitoring (R269, R303). -/
def State.negotiated (s : State) (active : Bool) : State :=
  if active then
    let was := s.standby
    let s1 := s.setDup 1
    let s2 := { s1 with dup := { s1.dup with tk := none, tDecl := none, frozen := false } }
    if was then
      let s3 := s2.cansOn
      let s4 := (List.range 64).foldl (fun st e => st.engResume s.nowTick e) s3
      let rs := recSort s4.book.shadowQ ++ (match s4.book.shadowLost with | some e => [overflowRec e] | none => [])
      let s5 := { s4 with book := { s4.book with shadowQ := [], shadowLost := none } }
      if s5.running pBOOK then s5.frontIn rs else s5
    else s2
  else (s.setDup 2).canShadow

/-- A STATUS of the peer with STATE `k` while this hub negotiates (R396). -/
def State.negotiate (s : State) (k : Nat) : State :=
  if k = 1 then s.negotiated false
  else if (k = 0 ∨ k = 2) ∧ s.strapActive then s.negotiated true
  else s

/-- A STATUS of the active hub inside its window is a heartbeat (R405). -/
def State.beatIn (s : State) (lane k fl : Nat) : State :=
  if (k = 1 ∨ k = 5) ∧ s.inBeat then s.beat lane (fl % 4 == 0) else s

/-- A STATUS as a standby takes it: a heartbeat, then a declaration (R405, R407). -/
def State.follow (s : State) (lane k fl td : Nat) : State :=
  let s1 := s.beatIn lane k fl
  if natBit fl 0 then
    let s2 := s1.takeDecide (if s1.inGang && s1.memFenced s1.pairSource then 3 else 1) (s1.boundaryFrom (td + 4000))
    if s2.dupState = some 4 then { s2 with dup := { s2.dup with tDecl := some td } } else s2
  else if natBit fl 1 then s1.takeDecide 2 (s1.boundaryFrom (td + s1.get pDUPLEX F.DUPLEX.COPY_TIME.HNS))
  else s1

/-- A STATUS frame arrives on a backsight lane (R396, R398, R405, R407, R412, R421). -/
def State.statusRx (s0 : State) (lane : Nat) (b : List Byte) : State :=
  if !s0.running pDUPLEX then s0
  else
    let s := s0.syncDrains
    let sn := ofBE (slice b 0 8)
    let k := (nth b 8 0).toNat % 16
    let fl := (nth b 9 0).toNat
    let td := ofBE (slice b 16 8)
    let up := !s.dup.heardEver || decide (s.dup.lastHeard + 2 * s.get pCYCLE F.CYCLE.CYC_LEN.LEN ≤ s.now)
    let s1 := s.set pDUPLEX F.DUPLEX.PEER_SN.SN sn
    let s2 := if up then s1.event pDUPLEX 14 else s1
    let s3 := State.syncDrains { s2 with dup := { s2.dup with
      heardEver := true, lastHeard := s.now, peerState := k, peerSynced := natBit fl 2 } }
    match s.get pDUPLEX F.DUPLEX.STS.STATE with
    | 0 => s3.negotiate k
    | 1 => if k = 1 then s3.dualClaim sn else s3
    | 5 => if k = 1 then s3.dualClaim sn else s3
    | 2 => s3.follow lane k fl td
    | 3 => s3.follow lane k fl td
    | 4 => s3.beatIn lane k fl
    | _ => s3

/-- A heartbeat window closes (R405, R407). A hub that has decided a takeover goes on to judge its lanes. -/
def State.windowClose (s : State) : State :=
  let o := s.get pDUPLEX F.DUPLEX.COPY_AT.AT + s.get pDUPLEX F.DUPLEX.HB_WIN.WIN
  if s.running pDUPLEX && s.running pCYCLE && s.following then
    let n := s.cycleAt o s.dup.closed
    let s1 := s.advanceT (s.cycPoint n o)
    let a := s1.dup.heardA
    let b := s1.dup.heardB
    let s2 := { s1 with dup := { s1.dup with closed := some n, heardA := false, heardB := false } }
    let s3 := (s2.setB pDUPLEX F.DUPLEX.STS.LANE_A a).setB pDUPLEX F.DUPLEX.STS.LANE_B b
    let s4 := if a then s3 else (s3.bumpSat pDUPLEX F.DUPLEX.LANE_MISS.A).event pDUPLEX 9
    let s5 := if b then s4 else (s4.bumpSat pDUPLEX F.DUPLEX.LANE_MISS.B).event pDUPLEX 9
    if a || b then s5
    else
      let s6 := s5.bumpSat pDUPLEX F.DUPLEX.STS.MISSED
      let s7 := if s6.dupState = some 2 then (s6.setDup 3).event pDUPLEX 11 else s6
      if s7.dupState != some 4 && decide (2 ≤ s7.get pDUPLEX F.DUPLEX.STS.MISSED) && s7.peerAbsent then s7.takeDecide 0 s7.nextBoundary else s7
  else s

/-- The third boundary after the enable has passed (R396). -/
def State.negotiateEnd (s : State) : State :=
  if s.running pDUPLEX && s.get pDUPLEX F.DUPLEX.STS.STATE == 0 && decide (3 ≤ s.dup.bounds) then
    s.negotiated (s.strapActive || (!s.dup.heardEver && s.peerAbsent))
  else s

/-! Page operations (R396, R402, R423). -/

/-- Budget and copy time of the record (R402). -/
def State.recBudget (s : State) : Nat := 22764 + 64 * s.slotOut s.nid + 32 * s.get pDUPLEX F.DUPLEX.CFG.BOOK_MAX
def copyTime (budget : Nat) : Nat := ceilDiv (8 * (budget + 90 * ceilDiv budget 1408 + 122)) 5 + 4000

/-- Each enable check computes them (R402). -/
def State.dupBudget (s : State) : State :=
  (s.set pDUPLEX F.DUPLEX.REC_BUDGET.BYTES s.recBudget).set pDUPLEX F.DUPLEX.COPY_TIME.HNS (copyTime s.recBudget)

/-- The hub begins to negotiate. -/
def State.dupStart (s : State) : State :=
  let shadow := s.inShadow
  let s1 := (s.setDup 0)
  { s1 with dup := { s1.dup with
    tk := none, tDecl := none, frozen := false, bounds := 0, heardA := false, heardB := false, heardEver := false,
    lastHeard := s.now, copied := none, closed := none, dualSent := false, wasShadow := shadow } }

/-- Accepted enable (R396); a fenced hub stays fenced, since only a reset and CTL.REJOIN end that (R413). -/
def State.dupOn (s : State) : State := if s.dupState = some 6 then s else s.dupStart

/-- CLR: the registers it clears are zeroed with the page; the notice log empties. -/
def State.dupClr (s : State) : State := { s with dup := { s.dup with log := [] } }

/-- A boundary as the pair counts it (R396, R420). -/
def State.dupBoundary (s : State) : State :=
  if s.running pDUPLEX then
    let s1 := s.bumpSat pDUPLEX F.DUPLEX.STS.SYNC_AGE
    if s1.get pDUPLEX F.DUPLEX.STS.STATE = 0 then { s1 with dup := { s1.dup with bounds := s1.dup.bounds + 1 } } else s1
  else s

/-- Writes of 1 to CTL.HANDOVER, REJOIN and FENCE (R408, R413). -/
def State.handoverAsk (s : State) : State := if s.dupState = some 1 then s.declare true 2 else s
def State.dupRejoin (s : State) : State := if s.dupState = some 6 then s.dupStart else s
def State.fenceAsk (s : State) : State := if s.dupState.isSome && s.dupState != some 6 then s.dupFence 4 [] else s

/-! Commands. -/

def execDuplexCopyPoint (cut : Bool) (s : State) : Host.Outcome State Fault Refusal := .next (s.copyPoint cut)

def execBacksightStatusRx (clk lane : Nat) (payload : List Byte) (s : State) : Host.Outcome State Fault Refusal :=
  .next ((s.advance clk).statusRx lane payload)

def execCycleRecordApply (clk : Nat) (rec : CycRecord) (s : State) : Host.Outcome State Fault Refusal :=
  .next ((s.advance clk).recordRx rec)

def execBacksightNoticeRx (clk : Nat) (payload : List Byte) (s : State) : Host.Outcome State Fault Refusal :=
  .next ((s.advance clk).noticeRx payload)

def execHeartbeatWindowClose (s : State) : Host.Outcome State Fault Refusal := .next s.windowClose

def execDuplexNegotiateTimeout (s : State) : Host.Outcome State Fault Refusal := .next s.negotiateEnd

def execDuplexFault (clk : Nat) (s : State) : Host.Outcome State Fault Refusal :=
  .next ((s.advance clk).bitWrite pDUPLEX F.DUPLEX.CTL.FAULT (fun t => t.declareFault 1))

def execDuplexHandover (clk : Nat) (s : State) : Host.Outcome State Fault Refusal :=
  .next ((s.advance clk).bitWrite pDUPLEX F.DUPLEX.CTL.HANDOVER State.handoverAsk)

def execDuplexRejoin (clk : Nat) (s : State) : Host.Outcome State Fault Refusal :=
  .next ((s.advance clk).bitWrite pDUPLEX F.DUPLEX.CTL.REJOIN State.dupRejoin)

def execDuplexFence (clk : Nat) (s : State) : Host.Outcome State Fault Refusal :=
  .next ((s.advance clk).bitWrite pDUPLEX F.DUPLEX.CTL.FENCE State.fenceAsk)

/-- R412: the other claimant's STATUS arrives in a MGMT frame. -/
def execDualClaimStatusRx (clk : Nat) (payload : List Byte) (s : State) : Host.Outcome State Fault Refusal :=
  let s1 := s.advance clk
  let k := (nth payload 8 0).toNat % 16
  .next (if (s1.dupState == some 1 || s1.dupState == some 5) && (k == 1 || k == 5) then s1.dualClaim (ofBE (slice payload 0 8)) else s1)

/-- R406: the peer has been silent for two cycles. -/
def execPeerAbsent (s : State) : Host.Outcome State Fault Refusal :=
  .next (if s.running pDUPLEX then
    (s.advanceT (s.dup.lastPeer + 2 * s.get pCYCLE F.CYCLE.CYC_LEN.LEN)).set pDUPLEX F.DUPLEX.STS.PEER_PRESENT 0
  else s)

end Sys2Proof.Machine
end

