-- ==== Sys2Proof/Machine/Gang.lean ====
section
/-!
DEFINITION. Gangs (R414–R419, R427): HELLO and formation, TIME, STATE and the vote, fencing and return.
-/

namespace Sys2Proof.Machine

/-! Members. -/

/-- Is a member fitted, and which others are (R424)? -/
def State.memFitted (s : State) (m : Nat) : Bool := natBit (s.get pGANGCTL F.GANGCTL.CFG.MEMBERS) m
def State.others (s : State) : List Nat := (List.range 4).filter (fun m => s.memFitted m && m != s.member)
def State.formed (s : State) : Bool := s.running pGANGCTL && s.flag pGANGCTL F.GANGCTL.STS.FORMED

/-- What has been heard of a member. -/
def State.heardOf (s : State) (m : Nat) : Option Heard := s.gang.heard.find? (fun h => h.member == m)

/-- Has this member set ALL_AGREED: is the HELLO of every other fitted member matched (R415)? The time item is part of the match, and
is judged at the end of FORM_WAIT. -/
def State.allAgreed (s : State) : Bool :=
  !s.gang.stopped && s.gang.waitEnd.isNone && s.others.all (fun m => s.flag pGANGCTL (memBit F.GANGCTL.STS.AGREED m))

/-- A GANG frame to a member (R414): SUBKIND, sender, destination. -/
def State.gangFrame (s : State) (sub dest : Nat) (payload : List Byte) : Frame :=
  s.spanen (2 ^ 48 - 1) 8 0 s.hdrCycle [BitVec.ofNat 8 sub, BitVec.ofNat 8 s.member, BitVec.ofNat 8 dest, 0] payload none

/-- Send it, over the direct link or relayed (R340, R414). -/
def State.sendGang (s : State) (sub dest : Nat) (payload : List Byte) : State :=
  s.sendMember dest (s.gangFrame sub dest payload) (some 7)

/-! HELLO (R415). -/

/-- The pages of CMPMAP, in increasing index; the bit for GANGCTL is ignored. -/
def State.cmpPages (s : State) : List Nat :=
  (List.range 256).filter (fun p =>
    p != pGANGCTL && s.flag pGANGCTL ⟨F.GANGCTL.CMPMAP.MAP.off + 4 * (p / 32), p % 32, 1⟩)

/-- Page indices with their digests, GANGCTL among them in increasing index (R415). GANGCTL carries the digest of its
configuration as it stands. -/
def State.helloDigests (s : State) : List (Nat × Nat) :=
  ((List.range 256).filter (fun p => p == pGANGCTL || s.cmpPages.contains p)).map (fun p =>
    (p, if p = pGANGCTL then s.pageDigest p else s.get p F.HDR.PDIG.DIGEST))

/-- The HELLO payload. -/
def State.helloPayload (s : State) : List Byte :=
  let d := s.helloDigests
  beBytes 8 s.pwr.serial ++ beBytes 1 s.nid ++ beBytes 1 s.member ++ beBytes 1 (s.get pSYS F.SYS.REV.CORE) ++
    beBytes 1 (s.get pSYS F.SYS.REV.GUARD) ++ beBytes 1 (s.get pGANGCTL F.GANGCTL.CFG.MEMBERS) ++
    beBytes 1 (bit s.allAgreed) ++ beBytes 2 (s.get pGANGCTL F.GANGCTL.CFG.TWINS) ++
    beBytes 4 (s.get pGANGCTL F.GANGCTL.OFS.OFS) ++ beBytes 2 d.length ++
    d.flatMap (fun e => beBytes 1 e.1 ++ beBytes 4 e.2)

/-- Does this hub send HELLOs: GANGCTL runs, and it is not fenced, or asks to rejoin (R417)? -/
def State.hellos (s : State) : Bool := s.running pGANGCTL && (!s.fenced || s.gang.rejoining)

/-- GANG_HELLO_SEND: every 1 ms. -/
def State.helloSend (s : State) : State :=
  if s.running pGANGCTL then
    let s1 := s.advance s.gang.helloAt
    let s2 := { s1 with gang := { s1.gang with helloAt := s.gang.helloAt + 2000000 } }
    if s2.hellos then s2.others.foldl (fun st m => st.sendGang 1 m st.helloPayload) s2 else s2
  else s

/-- Formation is refused (R415). -/
def State.gangRefuse (s : State) (code index member : Nat) : State :=
  let s1 := ((s.refuse pGANGCTL code index).set pGANGCTL F.GANGCTL.STS.DIS_MEMBER member).event pGANGCTL 9
  { s1 with gang := { s1.gang with stopped := true } }

/-- The page digests of a HELLO. -/
def helloList (b : List Byte) : List (Nat × Nat) :=
  (List.range (ofBE (slice b 20 2))).map (fun i => ((nth b (22 + 5 * i) 0).toNat, ofBE (slice b (23 + 5 * i) 4)))

/-- The first page in increasing index whose entry differs, where one does. -/
def digestDiff (a b : List (Nat × Nat)) : Option Nat :=
  (List.range 256).find? (fun p => a.find? (fun e => e.1 == p) != b.find? (fun e => e.1 == p))

/-- The first item of a HELLO that differs from this member's own (R415); the time item is judged later. -/
def State.helloDiff (s : State) (b : List Byte) : Option Nat :=
  let f := fun i => (nth b i 0).toNat
  let m := f 9
  let sn := ofBE (slice b 0 8)
  let twice : Bool := match s.heardOf m with | some h => h.serial != sn | none => false
  if f 8 ≠ s.nid then some 0xF9
  else if f 10 ≠ s.get pSYS F.SYS.REV.CORE then some 0xFA
  else if f 11 ≠ s.get pSYS F.SYS.REV.GUARD then some 0xFB
  else if f 12 ≠ s.get pGANGCTL F.GANGCTL.CFG.MEMBERS ∨ m = s.member ∨ twice then some 0xFC
  else if ofBE (slice b 14 2) ≠ s.get pGANGCTL F.GANGCTL.CFG.TWINS then some 0xFD
  else digestDiff (helloList b) s.helloDigests

/-- A HELLO that matches: the member is agreed, and present again where it was lost after formation (R415, R417). -/
def State.helloMatch (s : State) (m : Nat) (b : List Byte) : State :=
  let h : Heard := { member := m, serial := ofBE (slice b 0 8), ofs := toSigned (ofBE (slice b 16 4)) 32,
                     all := natBit (nth b 13 0).toNat 0 }
  let s1 := { s with gang := { s.gang with heard := h :: s.gang.heard.filter (fun x => x.member != m) } }
  let s2 := s1.set pGANGCTL (memBit F.GANGCTL.STS.AGREED m) 1
  if s2.formed && !s2.memPresent m && !s2.memFenced m then
    let s3 := (s2.set pGANGCTL (memBit F.GANGCTL.STS.PRESENT m) 1).event pGANGCTL 14
    { s3 with gang := { s3.gang with misses := s3.gang.misses.filter (fun x => x.1 != m) } }
  else s2

/-- A GANG frame from the guarded or guarding member is a sign of it for a pair off the ring (R406). -/
def State.gangSign (s : State) (m : Nat) : State :=
  if s.pairOf s.member = some m ∧ s.pairSource ≠ 0 then { s with dup := { s.dup with lastPeer := s.now } } else s

/-- A HELLO arrives at a gang port (R415): a miswired link or the first difference refuses formation. After formation a
HELLO that differs only leaves its member unagreed. -/
def State.helloRx (s0 : State) (n m : Nat) (b : List Byte) : State :=
  if !s0.running pGANGCTL then s0
  else
    let s := s0.gangSign m
    if s.gang.stopped then s
    else if n < 4 ∨ 6 < n then s
    else if n ≠ gangPort s.member m ∧ !s.formed then s.gangRefuse 0x10 (pPORT n) m
    else match s.helloDiff b with
      | none => s.helloMatch m b
      | some i =>
        if s.formed then s.set pGANGCTL (memBit F.GANGCTL.STS.AGREED m) 0
        else s.gangRefuse 0x0C i m

/-- FORM_WAIT ends (R415): a fitted member that has not been heard, then the time item in order of members. -/
def State.formWaitEnd (s : State) : State :=
  match s.gang.waitEnd with
  | none => s
  | some t =>
    if !s.running pGANGCTL then s
    else
      let s1 := s.advance t
      let s2 := { s1 with gang := { s1.gang with waitEnd := none } }
      if s2.formed || s2.gang.stopped then s2
      else match s2.others.find? (fun m => (s2.heardOf m).isNone) with
        | some m => s2.gangRefuse 0x0E (pPORT (gangPort s2.member m)) m
        | none =>
          match s2.others.find? (fun m => match s2.heardOf m with
            | some h => decide ((s2.get pGANGCTL F.GANGCTL.FORM.TIME_TOL : Int) < h.ofs.natAbs)
            | none => false) with
          | some m => s2.gangRefuse 0x0C 0xFE m
          | none => s2

/-- The gang forms at a boundary (R415). -/
def State.gangForm (s : State) : State :=
  if s.running pGANGCTL && !s.formed && s.allAgreed &&
      s.others.all (fun m => match s.heardOf m with | some h => h.all | none => false) then
    ((s.set pGANGCTL F.GANGCTL.STS.FORMED 1).set pGANGCTL F.GANGCTL.STS.PRESENT (s.get pGANGCTL F.GANGCTL.CFG.MEMBERS)).event
      pGANGCTL 8
  else s

/-! TIME (R416). -/

/-- GANG_TIME_SEND: every TIME_PER µs, on each gang link, from the hub that acts for member 0. -/
def State.timeSend (s : State) : State :=
  if s.running pGANGCTL then
    let s1 := (s.advance s.gang.timeAt).stampsDue
    let s2 := { s1 with gang := { s1.gang with timeAt := s.gang.timeAt + 2000 * s.get pGANGCTL F.GANGCTL.MISC.TIME_PER } }
    if s2.isLead then
      let q := s2.gang.timeSeq
      let s3 := s2.others.foldl (fun st m =>
        let n := gangPort st.member m
        let p := st.gang.timeTx.find? (fun x => x.port == n)
        st.sendCopies [n] (st.gangFrame 2 m (beBytes 4 q ++ beBytes 8 ((p.map (·.stamp)).getD 0) ++
          beBytes 4 ((p.map (·.seq)).getD q))) (some 7) none) s2
      { s3 with gang := { s3.gang with timeSeq := (q + 1) % 2 ^ 32 } }
    else s2
  else s

/-- A TIME frame arrives with its receive stamp (R416); it comes from the hub that acts for member 0. -/
def State.timeRx (s0 : State) (n m stamp : Nat) (b : List Byte) : State :=
  if !s0.running pGANGCTL || s0.isLead || (m != 0 && s0.twinOf 0 != some m) || n != gangPort s0.member m then s0
  else
    let s := ((s0.actNote 0 m).leadLink).gangSign m
    let seq := ofBE (slice b 0 4)
    let s1 := match s.gang.timeRx.find? (fun x => x.port == n && x.seq == ofBE (slice b 12 4)) with
      | none => s
      | some r =>
        let ofs : Int := (r.stamp : Int) - ofBE (slice b 4 8) - s.get pSTAMP (F.STAMP.PDELAY.PDELAY.at (0x20 * n))
        let s2 := (s.set pGANGCTL F.GANGCTL.OFS.OFS (satSigned ofs 32)).set pGANGCTL F.GANGCTL.STS.OFS_VALID 1
        if s2.formed && decide ((s2.get pGANGCTL F.GANGCTL.FORM.TIME_TOL : Int) < ofs.natAbs) then s2.event pGANGCTL 13 else s2
    let x : TimeMark := { port := n, seq := seq, stamp := stamp }
    { s1 with gang := { s1.gang with timeRx := x :: s1.gang.timeRx.filter (fun y => y.port != n) } }

/-! STATE and the vote (R417). -/

/-- The digest of cycle `n`: over the PDIG of GANGCTL and of the pages of CMPMAP in index order, then n. -/
def State.stateDigest (s : State) (n : Nat) : Nat :=
  crc32c ((((List.range 256).filter (fun p => p == pGANGCTL || s.cmpPages.contains p)).flatMap (fun p =>
    leBytes 4 (s.get p F.HDR.PDIG.DIGEST))) ++ leBytes 4 n)

/-- At a boundary a formed member sends its STATE to every other (R417). -/
def State.stateSend (s : State) (n : Nat) : State :=
  if s.formed && s.hellos then
    s.others.foldl (fun st m => st.sendGang 3 m (beBytes 4 n ++ beBytes 4 (st.stateDigest n))) s
  else s

/-- A STATE frame arrives. -/
def State.stateRx (s : State) (m : Nat) (b : List Byte) : State :=
  if s.running pGANGCTL && decide (m < 4) && s.memFitted m && m != s.member then
    let d := ofBE (slice b 4 4)
    let s1 := (s.gangSign m).set pGANGCTL (F.GANGCTL.DIG.DIGEST.at (4 * m)) d
    { s1 with gang := { s1.gang with
        states := (m, ofBE (slice b 0 4), d) :: s1.gang.states.filter (fun x => x.1 != m) } }
  else s

/-- The digest a member sent for cycle `n`, where it did; this hub's own. -/
def State.stateOf (s : State) (m n : Nat) : Option Nat :=
  if m = s.member then some (s.stateDigest n)
  else (s.gang.states.find? (fun x => x.1 == m && x.2.1 == n)).map (fun x => x.2.2)

/-- The voters of cycle `n` with their digests: formed, unfenced, STATE arrived. -/
def State.voters (s : State) (n : Nat) : List (Nat × Nat) :=
  ((List.range 4).filter (fun m => s.memPresent m && !s.memFenced m)).filterMap (fun m => (s.stateOf m n).map (fun d => (m, d)))

/-- The reference of a vote and the cause of its fencings, 1 majority or 2 reference (R417). -/
def State.reference (s : State) (v : List (Nat × Nat)) : Option (Nat × Nat) :=
  match v with
  | [] => none
  | [_] => none
  | [a, b] => some (if b.1 = s.actingFor 0 then b.2 else a.2, 2)
  | _ => (v.find? (fun x => decide (v.length < 2 * (v.filter (fun y => y.2 == x.2)).length))).map (fun x => (x.2, 1))

/-- A member is fenced, as every member records it; one that is this hub declares a fault where it has a twin, else its
pins go to shadow with the bit; a standby is FENCED (R417, R419). -/
def State.memFence (s : State) (m cause : Nat) (data : List Byte) : State :=
  let r : Rec := { t := s.now, kind := 0x31, flags := cause, source := m, data := data }
  let s1 := ((((s.stage .mgt r).set pGANGCTL (memBit F.GANGCTL.STS.FENCED m) 1).set pGANGCTL (memBit F.GANGCTL.STS.PRESENT m)
    0).bump pGANGCTL F.GANGCTL.FENCINGS.COUNT).event pGANGCTL 11
  if m ≠ s.member then s1
  else match s.dupState with
    | some 1 => s1.declareFault 3
    | some 5 => s1
    | some _ => s1.dupYield
    | none => (s1.shadowSync s).canShadow

/-- A member whose STATE is missing (R417): lost after MISS_N cycles in a row. -/
def State.memMiss (s : State) (m : Nat) : State :=
  let k := ((s.gang.misses.find? (fun x => x.1 == m)).map (·.2)).getD 0 + 1
  let s1 := s.bump pGANGCTL F.GANGCTL.STATE_MISS.COUNT
  let s2 := { s1 with gang := { s1.gang with misses := (m, k) :: s1.gang.misses.filter (fun x => x.1 != m) } }
  if k < s2.get pGANGCTL F.GANGCTL.MISC.MISS_N then s2
  else ((s2.set pGANGCTL (memBit F.GANGCTL.STS.PRESENT m) 0).set pGANGCTL (memBit F.GANGCTL.STS.AGREED m) 0).event pGANGCTL 10

/-- A fenced member whose digest of cycle `n` matches the reference is unfenced (R417). -/
def State.unfence (s : State) (n ref m : Nat) : State :=
  if s.memFenced m && s.stateOf m n == some ref && (m != s.member || s.gang.rejoining) then
    let s1 := (s.set pGANGCTL (memBit F.GANGCTL.STS.FENCED m) 0).set pGANGCTL (memBit F.GANGCTL.STS.PRESENT m) 1
    if m = s.member then
      let s2 := State.shadowSync { s1 with gang := { s1.gang with rejoining := false } } s
      if s.inShadow && !s2.inShadow then s2.unshadow else s2
    else s1
  else s

/-- The vote of cycle `n` (R417). -/
def State.voteNow (s : State) (n : Nat) : State :=
  let gone := s.others.filter (fun m => s.memPresent m && !s.memFenced m && (s.stateOf m n).isNone)
  let here := s.others.filter (fun m => (s.stateOf m n).isSome)
  let s1 := { s with gang := { s.gang with misses := s.gang.misses.filter (fun x => !here.contains x.1) } }
  let s2 := gone.foldl State.memMiss s1
  let v := s.voters n
  let r := s.reference v
  let s3 := ((s2.set pGANGCTL F.GANGCTL.STATE_DIG.DIGEST (s.stateDigest n)).set pGANGCTL F.GANGCTL.MAJ_DIG.DIGEST
    ((r.map (·.1)).getD 0)).setB pGANGCTL F.GANGCTL.STS.NOMAJ r.isNone
  match r with
  | none => if 3 ≤ v.length then s3.event pGANGCTL 12 else s3
  | some (ref, cause) =>
    let bad := v.filter (fun x => x.2 != ref)
    let s4 := bad.foldl (fun st x => st.memFence x.1 cause (data2 ref x.2)) s3
    ((List.range 4).filter (fun m => s.memFenced m)).foldl (fun st m => st.unfence n ref m) s4

/-- GANG_VOTE: at T_n + STATE_AT. -/
def State.gangVote (s : State) : State :=
  if s.formed && s.running pCYCLE then
    let o := s.get pGANGCTL F.GANGCTL.VOTE.STATE_AT
    let n := s.cycleAt o s.gang.voted
    let s1 := s.advanceT (s.cycPoint n o)
    ({ s1 with gang := { s1.gang with voted := some n } }).voteNow (cyc32 n)
  else s

/-! Firmware and page operations. -/

/-- A write of CTL.REJOIN (R417). -/
def State.gangRejoin (s : State) : State :=
  if s.memFenced s.member then { s with gang := { s.gang with rejoining := true } } else s

/-- A write of CTL.FENCE (R424). -/
def State.gangFence (s : State) : State :=
  if s.inGang && s.running pGANGCTL && !s.memFenced s.member then s.memFence s.member 4 [] else s

/-- Accepted enable (R415). -/
def State.gangOn (s : State) : State :=
  let s1 := ((s.set pGANGCTL F.GANGCTL.STS.FORMED 0).set pGANGCTL F.GANGCTL.STS.AGREED 0).set pGANGCTL F.GANGCTL.STS.PRESENT
    (2 ^ s.member)
  { s1 with gang := { GangSt.init with
      waitEnd := some (s.clock + 2000000 * s.get pGANGCTL F.GANGCTL.FORM.FORM_WAIT), helloAt := s.clock,
      timeAt := s.clock, timeSeq := s.gang.timeSeq } }

/-- Stop (R427). -/
def State.gangOff (s : State) : State :=
  let s1 := ((s.set pGANGCTL F.GANGCTL.STS.FORMED 0).set pGANGCTL F.GANGCTL.STS.OFS_VALID 0).set pGANGCTL
    F.GANGCTL.STS.PRESENT 0
  { s1 with gang := { s1.gang with waitEnd := none, heard := [], states := [], misses := [] } }

/-- A boundary as the gang takes it (R415, R417). -/
def State.gangBoundary (s : State) (n : Nat) : State := s.gangForm.stateSend n

/-! Commands. -/

def execGangHelloSend (s : State) : Host.Outcome State Fault Refusal := .next s.helloSend

def execGangHelloRx (clk port member : Nat) (payload : List Byte) (s : State) : Host.Outcome State Fault Refusal :=
  .next ((s.advance clk).helloRx port member payload).leadLink

def execGangFormWaitExpire (s : State) : Host.Outcome State Fault Refusal := .next s.formWaitEnd

def execGangTimeSend (s : State) : Host.Outcome State Fault Refusal := .next s.timeSend

def execGangTimeRx (clk port member stamp : Nat) (payload : List Byte) (s : State) : Host.Outcome State Fault Refusal :=
  .next ((s.advance clk).timeRx port member stamp payload)

def execGangStateRx (clk member : Nat) (payload : List Byte) (s : State) : Host.Outcome State Fault Refusal :=
  .next ((s.advance clk).stateRx member payload)

def execGangVote (s : State) : Host.Outcome State Fault Refusal := .next s.gangVote.leadLink

def execGangctlRejoin (clk : Nat) (s : State) : Host.Outcome State Fault Refusal :=
  .next ((s.advance clk).bitWrite pGANGCTL F.GANGCTL.CTL.REJOIN State.gangRejoin)

def execGangctlFence (clk : Nat) (s : State) : Host.Outcome State Fault Refusal :=
  .next ((s.advance clk).bitWrite pGANGCTL F.GANGCTL.CTL.FENCE State.gangFence)

end Sys2Proof.Machine
end

