-- ==== Sys2Proof/Machine/Irq.lean ====
section
/-!
DEFINITION. Event aggregation and routing (R67–R70, R376, R386): summaries, groups, MSI-X messages, NOTICE frames.
-/

namespace Sys2Proof.Machine

/-- The summary of a page: the OR of PEVT AND NOT PEVM (R67). -/
def State.summary (s : State) (p : Nat) : Bool :=
  (s.rd p 0x0C &&& ~~~(s.rd p 0x10)) != 0

/-- The PEND bit of a page, and the EN and GROUP fields of PGRP for it (R68). -/
def pendFld (p : Nat) : Fld := ⟨F.IRQ.PEND.PEND.off + 4 * (p / 32), p % 32, 1⟩
def State.pgrp (s : State) (p : Nat) : Nat := natField (s.rd pIRQ (0x40 + 4 * (p / 8))).toNat (4 * (p % 8)) 4

/-- Is group `g` pending (R68)? -/
def State.grpPend (s : State) (g : Nat) : Bool :=
  (List.range 256).any (fun p => s.flag pIRQ (pendFld p) && s.pgrp p == 8 + g)

/-- GROUTE of a group. -/
def State.groute (s : State) (f : Fld) (g : Nat) : Nat := s.get pIRQ (f.at (4 * g))

/-- An MSI-X message on a vector: its pending bit while the vector is masked (R386). -/
def State.sendMsix (s : State) (v : Nat) : State :=
  match s.bridge.msix[v]? with
  | none => s
  | some e =>
    if e.masked then { s with bridge := { s.bridge with msix := setNth s.bridge.msix v { e with pend := true } } }
    else s.postRh (.msix v e.addr e.data)

/-- A NOTICE frame of a group to the manager (R69, R385); without a lease NDROP counts it (R68). -/
def State.groupNotice (s : State) (g : Nat) : State :=
  if s.flag pBRIDGE F.BRIDGE.MGRSTS.HELD then
    s.sendNotice (mgmtSpec 1 (s.get pBRIDGE F.BRIDGE.MGRSTS.NODE) (s.get pBRIDGE F.BRIDGE.MGRSTS.MEMBER) 0)
      (beBytes 1 g ++ beBytes 3 0 ++ (List.range 8).flatMap (fun i => leBytes 4 (s.rd pIRQ (0xC0 + 4 * i)).toNat))
  else
    let n := s.get pIRQ F.IRQ.NDROP.COUNT
    if n = 2 ^ 16 - 1 then s else (s.bumpSat pIRQ F.IRQ.NDROP.COUNT).event pIRQ 8

/-- The repeats of NOTICE with the one of group `g` replaced: in `ms` ms from now, or none where `ms` is 0. -/
def State.repeatSet (s : State) (g ms : Nat) : State :=
  let rest := s.page.repeatAt.filter (fun r => r.1 != g)
  { s with page := { s.page with repeatAt := if ms = 0 then rest else rest ++ [(g, s.clock + 2000000 * ms, ms)] } }

/-- The edge routes of a group: MSI-X and NOTICE (R69, R70). The enables and the interval count as they stand at the edge
or re-arm: a later change of GROUTE waits for the next one. -/
def State.routeGroup (s : State) (g : Nat) : State :=
  let s1 := if s.groute F.IRQ.GROUTE.MSIX_EN g = 1 then s.sendMsix (s.groute F.IRQ.GROUTE.VECTOR g) else s
  if s1.groute F.IRQ.GROUTE.NOTICE_EN g = 1 then (s1.groupNotice g).repeatSet g (s1.groute F.IRQ.GROUTE.NOTICE_REPEAT g)
  else s1.repeatSet g 0

/-- The groups that left the pending state in this cycle. -/
def State.fellNow (s : State) : List Nat := if s.page.fellAt = s.clock then s.page.fell else []

/-- After a change of PEND or PGRP: the groups that were not pending in `old` and are now route (R69). A group that left the
pending state in this very cycle never left it (R70). -/
def State.irqEdges (s old : State) : State :=
  let down := (List.range 8).filter (fun g => old.grpPend g && !s.grpPend g)
  let up := (List.range 8).filter (fun g => s.grpPend g && !old.grpPend g)
  let was := s.fellNow
  let s1 := if down = [] then s else { s with page := { s.page with fellAt := s.clock, fell := down ++ was } }
  (up.filter (fun g => !was.contains g)).foldl State.routeGroup s1

/-- IRQ_N is driven low (R69). -/
def State.irqPin (s : State) : Bool :=
  (List.range 8).any (fun g => s.groute F.IRQ.GROUTE.PIN_EN g == 1 && s.grpPend g)

/-- A page's summary reaches the IRQ page (R67); a guard-die page's only over the link (R24, R67). -/
def State.summaryIn (s : State) (p : Nat) : State :=
  if decide (256 ≤ p) || (runOf p).isNone || !s.coreOn || (guardPage p && !s.pwr.dieLink) then s
  else (s.setB pIRQ (pendFld p) (s.summary p)).irqEdges s

/-- The NOTICE of a group falls due again (R69). -/
def State.noticeAgain (s : State) (g : Nat) : State :=
  match s.page.repeatAt.find? (fun r => r.1 == g) with
  | none => s
  | some r =>
    let s1 := s.advance r.2.1
    if s1.grpPend g then (s1.groupNotice g).repeatSet g r.2.2 else s1.repeatSet g 0

/-- A write to REARM (R70). -/
def State.rearmIrq (s : State) (mask : Nat) : State :=
  ((List.range 8).filter (fun g => natBit mask g && s.grpPend g)).foldl State.routeGroup s

/-- The host unmasks a vector: a pending message is sent (R386). -/
def State.unmask (s : State) (v : Nat) : State :=
  match s.bridge.msix[v]? with
  | none => s
  | some e =>
    let s1 := { s with bridge := { s.bridge with msix := setNth s.bridge.msix v { e with masked := false, pend := false } } }
    if e.pend then s1.postRh (.msix v e.addr e.data) else s1

/-! Commands. -/

def execIrqSummaryArrive (clk page : Nat) (s : State) : Host.Outcome State Fault Refusal :=
  .next ((s.advance clk).summaryIn page)

def execNoticeRepeat (group : Nat) (s : State) : Host.Outcome State Fault Refusal := .next (s.noticeAgain group)

def execIrqRearm (clk mask : Nat) (s : State) : Host.Outcome State Fault Refusal :=
  .next ((s.advance clk).fldWrite pIRQ F.IRQ.REARM.GROUP mask (fun t => t.rearmIrq mask))

def execMsixUnmask (clk vector : Nat) (s : State) : Host.Outcome State Fault Refusal :=
  .next ((s.advance clk).unmask vector)

end Sys2Proof.Machine
end

