-- ==== Sys2Proof/Machine/Monument.lean ====
section
/-!
DEFINITION. The Monument and tamper (R472–R497): slots, handles and attributes, the operations, key replacement,
zeroisation, and the tamper log.
-/

namespace Sys2Proof.Machine

/-! Slots. -/

/-- Slots 1–96. -/
def keyDefault (_ : Nat) : KeySlot := KeySlot.empty
def State.key (s : State) (i : Nat) : KeySlot := tabGet keyDefault s.mon.slots i
def State.setKey (s : State) (i : Nat) (k : KeySlot) : State :=
  { s with mon := { s.mon with slots := tabPut keyDefault s.mon.slots i k } }

/-- Fields of the commit word (R483). -/
def KeySlot.half (k : KeySlot) : Nat := k.commit % 4
def KeySlot.tag (k : KeySlot) : Nat := natField k.commit 8 8
def KeySlot.gen (k : KeySlot) : Nat := natField k.commit 16 16

/-- Does a slot hold a key in use (R483)? -/
def KeySlot.filled (k : KeySlot) : Bool := k.half == 1 || k.half == 2

/-- A half by its code. -/
def KeySlot.halfOf (k : KeySlot) (h : Nat) : Option (List Byte) := if h = 1 then k.a else if h = 2 then k.b else none
def KeySlot.setHalf (k : KeySlot) (h : Nat) (v : Option (List Byte)) : KeySlot :=
  if h = 1 then { k with a := v } else if h = 2 then { k with b := v } else k

/-- The key in use. -/
def KeySlot.key (k : KeySlot) : List Byte := (k.halfOf k.half).getD []

/-- The commit word (R483). -/
def commitWord (gen tag half : Nat) : Nat := gen % 2 ^ 16 * 2 ^ 16 + tag % 256 * 256 + half

/-- Fields of ATTR (R477). -/
def attrType (a : Nat) : Nat := natField a 28 4
def attrOrigin (a : Nat) : Nat := natField a 24 4
def attrStates (a : Nat) : Nat := natField a 20 3
def attrInternal (a : Nat) : Bool := natBit a 19
def attrExport (a : Nat) : Bool := natBit a 18
def attrUse (a b : Nat) : Bool := natBit a b

/-- USE bits. -/
def useWRAP : Nat := 0
def useHMAC : Nat := 1
def useSIGN : Nat := 2
def useMACSEC : Nat := 3
def useBOOT : Nat := 4
def useLEASE : Nat := 5
def useMKA : Nat := 6

/-- The slot a handle names; none where the handle is stale (R476). -/
def State.handleOf (s : State) (h : Nat) : Option (Nat × KeySlot) :=
  let i := h % 256
  let k := s.key i
  if 1 ≤ i ∧ i ≤ 96 ∧ k.filled ∧ h / 256 ≠ 0 ∧ k.tag = h / 256 then some (i, k) else none

/-- The handle of a slot. -/
def handleNo (i : Nat) (k : KeySlot) : Nat := k.tag * 256 + i

/-- May a slot be used in the current state (R478)? -/
def State.stateOk (s : State) (a : Nat) : Bool :=
  decide (2 ≤ s.mon.fuse) && natBit (attrStates a) (s.mon.fuse - 2)

/-- May the key of a slot be put to a use (R478)? -/
def State.mayUse (s : State) (k : KeySlot) (use : Nat) : Bool := s.stateOk k.attr && attrUse k.attr use

/-- Empty slots for a new key: all but slot 1, the identity's (R478). -/
def State.emptySlots (s : State) : List Nat := ((List.range 95).map (· + 2)).filter (fun i => !(s.key i).filled)

/-- ATTR as the hub stores it: ORIGIN, INTERNAL, and for a derived key the single current state (R477, R478). -/
def State.madeAttr (s : State) (a origin : Nat) : Nat :=
  let a1 := natPut (natPut a 24 4 origin) 19 1 (bit (origin == 3))
  if origin = 2 then natPut a1 20 3 (2 ^ (s.mon.fuse - 2)) else a1

/-- Does a requested ATTR break R477 or R478: a reserved TYPE, a bit kept 0, or INTERNAL with EXPORT? -/
def attrBad (a : Nat) (origin : Nat) : Bool :=
  attrType a == 0 || decide (4 < attrType a) || natBit a 23 || natField a 8 10 != 0 || natBit a 7 ||
    ((origin == 3) && (attrExport a || attrType a == 4))

/-! Inputs and results of an operation. -/

/-- Bytes of DATA. -/
def State.monBytes (s : State) (n : Nat) : List Byte :=
  ((List.range 128).flatMap (fun w => leBytes 4 (s.rd pMONUMENT (0x400 + 4 * w)).toNat)).take n

/-- The input bytes of an operation. -/
def State.monLen (s : State) : Nat := s.get pMONUMENT F.MONUMENT.LEN.IN
def State.monIn (s : State) : List Byte := s.monBytes s.monLen
def State.monAttr (s : State) : Nat := s.get pMONUMENT F.MONUMENT.ATTR.ATTR
def State.monSrc (s : State) : Option (Nat × KeySlot) := s.handleOf (s.get pMONUMENT F.MONUMENT.HANDLE.SRC)
def State.monDst (s : State) : Option (Nat × KeySlot) := s.handleOf (s.get pMONUMENT F.MONUMENT.HANDLE.DST)

/-- What an operation ends with. -/
structure MonRes where
  code : Nat
  handle : Nat
  out : List Byte
  writes : List (Nat × KeySlot)
  target : Nat
  root : List Byte
  random : Bool
deriving DecidableEq, Repr

/-- A result without output. -/
def monEnd (code : Nat) : MonRes := { code := code, handle := 0, out := [], writes := [], target := 0, root := [], random := false }

/-- An output under a handle. -/
def monOut (handle : Nat) (out : List Byte) : MonRes := { monEnd 0 with handle := handle, out := out }

/-- The code of the first test that fails. The spec gives the tests no order. DESIGN CHOICE (assumption log 18). -/
def firstCode : List (Bool × Nat) → Nat
  | [] => 0
  | (b, c) :: t => if b then c else firstCode t

/-- An operation whose tests may end it. -/
def monTest (l : List (Bool × Nat)) (r : MonRes) : MonRes := if firstCode l = 0 then r else monEnd (firstCode l)

/-- A slot that an optional lookup found, or the empty one. -/
def slotD (o : Option (Nat × KeySlot)) : KeySlot := (o.map Prod.snd).getD KeySlot.empty
def slotI (o : Option (Nat × KeySlot)) : Nat := (o.map Prod.fst).getD 0

/-- Random bytes, a non-zero tag, the choice among empty slots: free values. -/
def State.rnd (s : State) (n : Nat) : List Byte := leBytes n (s.freeVal (8 * n))
def State.rndTag (s : State) (j : Nat) : Nat := s.freeVal (16 + j) % 255 + 1
def State.rndSlot (s : State) (j : Nat) : Nat := nth s.emptySlots (s.freeVal (20 + j) % s.emptySlots.length) 0

/-- Is the Monument READY? -/
def State.monReady (s : State) : Bool := s.get pMONUMENT F.MONUMENT.STS.COND == 0

/-- A life-cycle state of a list. -/
def State.lcIn (s : State) (l : List Nat) : Bool := l.contains s.mon.fuse

/-- Does the TRNG give random bits (R475)? After a failure, whether a block passes is free. -/
def State.trngOk (s : State) : Bool := s.flag pMONUMENT F.MONUMENT.STS.TRNG_OK || natBit (s.freeVal 1) 0

/-- A first fill: half A, GEN 1. -/
def fillSlot (key : List Byte) (attr tag : Nat) : KeySlot :=
  { a := some key, b := none, attr := attr, commit := commitWord 1 tag 1, stage := 0 }

/-- A new key goes into the idle half of DST (STAGE = 1) or into an empty slot (STAGE = 0) (R481, R483). `out` is what
else is returned. -/
def State.place (s : State) (stage : Bool) (key : List Byte) (attr : Nat) (proven : Bool) (out : List Byte) : MonRes :=
  if stage then
    let k := slotD s.monDst
    let h := 3 - k.half
    let k1 := { k.setHalf h (some key) with stage := h + 4 * bit proven }
    { monOut (handleNo (slotI s.monDst) k) out with writes := [(slotI s.monDst, k1)] }
  else
    let i := s.rndSlot 0
    let k := fillSlot key attr (s.rndTag 0)
    { monOut (handleNo i k) out with writes := [(i, k)], random := true }

/-- The tests of the destination of a new key. STAGE = 0 fills an empty slot, which no handle names, so DST is 0. -/
def State.placeTests (s : State) (stage : Bool) : List (Bool × Nat) :=
  if stage then [(s.monDst.isNone, 1)]
  else [(s.get pMONUMENT F.MONUMENT.HANDLE.DST != 0, if s.monDst.isNone then 1 else 7), (s.emptySlots.isEmpty, 6),
    (!s.trngOk, 0x0C)]

/-! The operations (R481). -/

/-- Tests that every operation on keys begins with: life-cycle state, COND, length. -/
def State.lead (s : State) (states : List Nat) (lenOk : Bool) : List (Bool × Nat) :=
  [(!s.lcIn states, 3), (!s.monReady, 4), (decide (512 < s.monLen) || !lenOk, 7)]

/-- DERIVE (R479). -/
def State.opDerive (s : State) (stage : Bool) : MonRes :=
  let root := tabGet (fun _ => []) s.mon.roots s.mon.fuse
  let msg := beBytes 4 1 ++ s.monIn ++ [0] ++ beBytes 8 s.pwr.serial ++ beBytes 1 s.mon.fuse ++ beBytes 4 256
  monTest (s.lead [2, 3, 4] (decide (1 ≤ s.monLen) && decide (s.monLen ≤ 64)) ++ [(attrBad s.monAttr 2, 2)] ++ s.placeTests stage)
    (s.place stage ((Config.hmacSha384 root msg).take 32) (s.madeAttr s.monAttr 2) true [])

/-- The public key of a TYPE 0x3 key. -/
def pubOf (a : Nat) (key : List Byte) : List Byte := if attrType a = 3 then Config.ecdsaPub key else []

/-- GENERATE. -/
def State.opGenerate (s : State) (stage : Bool) : MonRes :=
  let r := s.place stage (s.rnd 32) (s.madeAttr s.monAttr 3) true (pubOf s.monAttr (s.rnd 32))
  monTest (s.lead [2, 3, 4] true ++ [(attrBad s.monAttr 3, 2)] ++ s.placeTests stage ++ [(!s.trngOk, 0x0C)])
    { r with random := true }

/-- GEN_IDENT: TYPE 0x3, generated, STATES 0b111, INTERNAL, USE SIGN, in slot 1, once (R478). -/
def State.opGenIdent (s : State) : MonRes :=
  let k := fillSlot (s.rnd 32) 0x33780004 (s.rndTag 0)
  monTest (s.lead [2] true ++ [((s.key 1).filled, 3), (!s.trngOk, 0x0C)])
    { monOut (handleNo 1 k) (Config.ecdsaPub (s.rnd 32)) with writes := [(1, k)], random := true }

/-- IMPORT: in PROVISION only, code 0x02 elsewhere (R478). -/
def State.opImport (s : State) (stage : Bool) : MonRes :=
  monTest ([(s.mon.fuse == 1, 3), (s.mon.fuse != 2, 2)] ++ s.lead [2] (s.monLen == 32) ++ [(attrBad s.monAttr 0, 2)] ++ s.placeTests stage)
    (s.place stage s.monIn (s.madeAttr s.monAttr 0) false [])

/-- UNWRAP: IV, ciphertext, tag, with ATTR as additional data. -/
def State.opUnwrap (s : State) (stage : Bool) : MonRes :=
  let b := s.monIn
  let pt := Config.gcmOpen (slotD s.monSrc).key (b.take 12) (leBytes 4 s.monAttr) ((b.drop 12).take 32) (b.drop 44)
  monTest (s.lead [2, 3] (s.monLen == 60) ++ [(s.monSrc.isNone, 1), (!s.mayUse (slotD s.monSrc) useWRAP, 2),
      (attrBad s.monAttr 1, 2)] ++ s.placeTests stage ++ [(pt.isNone, 8)])
    (s.place stage (pt.getD []) (s.madeAttr s.monAttr 1) false [])

/-- WRAP. -/
def State.opWrap (s : State) : MonRes :=
  let d := slotD s.monDst
  let c := Config.gcmSeal (slotD s.monSrc).key s.monIn (leBytes 4 d.attr) d.key
  monTest (s.lead [2, 3, 4] (s.monLen == 12) ++ [(s.monDst.isNone || s.monSrc.isNone, 1),
      (!attrExport d.attr || !s.stateOk d.attr || !s.mayUse (slotD s.monSrc) useWRAP, 2)])
    (monOut (handleNo (slotI s.monDst) d) (s.monIn ++ c.1 ++ c.2))

/-- May SRC make a MAC? -/
def State.macOk (s : State) : Bool := s.mayUse (slotD s.monSrc) useHMAC || s.mayUse (slotD s.monSrc) useLEASE

/-- Handle used. -/
def State.srcHandle (s : State) : Nat := s.get pMONUMENT F.MONUMENT.HANDLE.SRC
def State.dstHandle (s : State) : Nat := s.get pMONUMENT F.MONUMENT.HANDLE.DST

/-- MAC. -/
def State.opMac (s : State) : MonRes :=
  monTest (s.lead [2, 3, 4] true ++ [(s.monSrc.isNone, 1), (!s.macOk, 2)])
    (monOut s.srcHandle (Config.hmacSha384 (slotD s.monSrc).key s.monIn))

/-- MAC_VERIFY. -/
def State.opMacVerify (s : State) : MonRes :=
  monTest (s.lead [2, 3, 4] (decide (48 ≤ s.monLen)) ++ [(s.monSrc.isNone, 1), (!s.macOk, 2),
      (s.monIn.take 48 != Config.hmacSha384 (slotD s.monSrc).key (s.monIn.drop 48), 8)])
    (monOut s.srcHandle [])

/-- SIGN. -/
def State.opSign (s : State) : MonRes :=
  monTest (s.lead [2, 3, 4] (s.monLen == 48) ++ [(s.monSrc.isNone, 1),
      (!s.mayUse (slotD s.monSrc) useSIGN || attrType (slotD s.monSrc).attr != 3, 2), (!s.trngOk, 0x0C)])
    { monOut s.srcHandle (Config.ecdsaSign (slotD s.monSrc).key s.monIn (s.rnd 48)) with random := true }

/-- PUBKEY. -/
def State.opPubkey (s : State) : MonRes :=
  monTest (s.lead [2, 3, 4] true ++ [(s.monSrc.isNone, 1),
      (attrType (slotD s.monSrc).attr != 3 || !s.stateOk (slotD s.monSrc).attr, 2)])
    (monOut s.srcHandle (Config.ecdsaPub (slotD s.monSrc).key))

/-- The statement of R487 up to its signature. -/
def State.statement (s : State) (k : KeySlot) : List Byte :=
  let pub := if attrType k.attr = 3 then Config.ecdsaPub k.key
    else (Config.hmacSha384 k.key [0x4B, 0x43, 0x56]).take 16 ++ List.replicate 81 0
  beBytes 4 0x4D415454 ++ beBytes 1 1 ++ beBytes 1 s.mon.fuse ++ beBytes 2 s.dstHandle ++ beBytes 8 s.pwr.serial ++
    beBytes 1 0xB0 ++ beBytes 1 0xA2 ++ beBytes 2 0 ++ beBytes 4 k.attr ++ s.monIn ++ beBytes 8 s.rtcNow ++ pub ++ beBytes 3 0

/-- ATTEST. -/
def State.opAttest (s : State) : MonRes :=
  let st := s.statement (slotD s.monDst)
  monTest (s.lead [2, 3, 4] (s.monLen == 32) ++ [(s.monDst.isNone || !(s.key 1).filled, 1),
      (!attrInternal (slotD s.monDst).attr, 2), (!s.trngOk, 0x0C)])
    { monOut s.dstHandle (st ++ Config.ecdsaSign (s.key 1).key (Config.sha384 st) (s.rnd 48)) with random := true }

/-- PROVE (R483): the text "MONUMENT PROOF", the handle and GEN + 1 under the staged key. -/
def State.opProve (s : State) : MonRes :=
  let k := slotD s.monDst
  let h := k.stage % 4
  let text : List Byte := [0x4D, 0x4F, 0x4E, 0x55, 0x4D, 0x45, 0x4E, 0x54, 0x20, 0x50, 0x52, 0x4F, 0x4F, 0x46]
  let tag := Config.hmacSha384 ((k.halfOf h).getD []) (text ++ beBytes 2 s.dstHandle ++ beBytes 2 (k.gen + 1))
  monTest (s.lead [2, 3, 4] (s.monLen == 48) ++ [(s.monDst.isNone, 1), (h == 0, 9)])
    (if s.monIn = tag then { monOut s.dstHandle [] with writes := [(slotI s.monDst, { k with stage := h + 4 })] }
     else { monEnd 5 with handle := s.dstHandle, writes := [(slotI s.monDst, { k.setHalf h none with stage := 0 })] })

/-- COMMIT (R483, R485): the request sets out; the commit word follows with KEY_COMMIT. -/
def State.opCommit (s : State) : MonRes :=
  monTest (s.lead [2, 3, 4] true ++ [(s.get pTALLY F.TALLY.STS.PLAN == 2, 3), (s.monDst.isNone, 1),
      (!natBit (slotD s.monDst).stage 2, 9)]) (monOut s.dstHandle [])

/-- DISCARD. -/
def State.opDiscard (s : State) : MonRes :=
  let k := slotD s.monDst
  monTest (s.lead [2, 3, 4] true ++ [(s.monDst.isNone, 1), (k.stage % 4 == 0, 9)])
    { monOut s.dstHandle [] with writes := [(slotI s.monDst, { k.setHalf (k.stage % 4) none with stage := 0 })] }

/-- ERASE. -/
def State.opErase (s : State) : MonRes :=
  monTest (s.lead [2, 3, 4] true ++ [(s.monDst.isNone, 1)])
    { monOut s.dstHandle [] with writes := [(slotI s.monDst, KeySlot.empty)] }

/-- INFO: in any state, whatever COND. -/
def State.opInfo (s : State) : MonRes :=
  let k := slotD s.monDst
  monTest [(s.monDst.isNone, 1)] (monOut s.dstHandle (leBytes 4 k.attr ++ leBytes 4 k.commit ++ leBytes 4 k.stage))

/-- The arrows of R473. -/
def arrow (a b : Nat) : Bool := (a == 1 && b == 2) || (a == 2 && b == 3) || (a == 2 && b == 4) || (a == 3 && b == 4)

/-- TRANSITION (R474): the target state code in the first word of DATA, and the word 0x4C43_0001 in the second. -/
def State.opTransition (s : State) : MonRes :=
  let tgt := (s.rd pMONUMENT 0x400).toNat
  let supplied := s.flag pSUPPLY F.SUPPLY.STS.A_VALID || s.flag pSUPPLY F.SUPPLY.STS.B_VALID
  monTest [(s.monLen != 8 || s.rd pMONUMENT 0x404 != 0x4C430001, 7), (!arrow s.mon.fuse tgt || !supplied, 3), (!s.trngOk, 0x0C)]
    { monEnd 0 with target := tgt, root := s.rnd 48, random := true }

/-- Labels of the key hierarchy of IEEE 802.1X. PRESUMED (assumption log 19). -/
def labelKEK : List Byte := [0x49, 0x45, 0x45, 0x45, 0x38, 0x30, 0x32, 0x31, 0x20, 0x4B, 0x45, 0x4B]
def labelICK : List Byte := [0x49, 0x45, 0x45, 0x45, 0x38, 0x30, 0x32, 0x31, 0x20, 0x49, 0x43, 0x4B]

/-- ATTR of an MKA result: USE MKA or MACSEC, EXPORT 0. -/
def State.mkaAttr (s : State) (origin use : Nat) : Nat := natPut (natPut (s.madeAttr s.monAttr origin) 0 8 (2 ^ use)) 18 1 0

/-- MKA_KDF: KEK and ICK into two empty slots. -/
def State.opMkaKdf (s : State) : MonRes :=
  let cak := (slotD s.monSrc).key
  let ctx := slice s.monIn 0 16
  let a := s.mkaAttr 2 useMKA
  let e := s.emptySlots
  let i := s.rndSlot 0
  let e2 := e.filter (fun x => x != i)
  let j := nth e2 (s.freeVal 21 % e2.length) 0
  let kek := fillSlot (Config.mkaKdf cak labelKEK ctx 32) a (s.rndTag 0)
  let ick := fillSlot (Config.mkaKdf cak labelICK ctx 32) a (s.rndTag 1)
  monTest (s.lead [3] (decide (s.monLen ≤ 32)) ++ [(s.monSrc.isNone, 1),
      (attrType (slotD s.monSrc).attr != 4 || !s.stateOk (slotD s.monSrc).attr || attrBad s.monAttr 2, 2),
      (decide (e.length < 2), 6), (!s.trngOk, 0x0C)])
    { monOut (handleNo i kek) (leBytes 2 (handleNo i kek) ++ leBytes 2 (handleNo j ick)) with
        writes := [(i, kek), (j, ick)], random := true }

/-- MKA_ICV. -/
def State.opMkaIcv (s : State) : MonRes :=
  monTest (s.lead [3] true ++ [(s.monSrc.isNone, 1), (!s.mayUse (slotD s.monSrc) useMKA, 2)])
    (monOut s.srcHandle ((Config.aesCmac (slotD s.monSrc).key s.monIn).take 16))

/-- MKA_UNWRAP: the SAK into an empty slot of USE MACSEC. -/
def State.opMkaUnwrap (s : State) : MonRes :=
  let pt := Config.keyUnwrap (slotD s.monSrc).key s.monIn
  monTest (s.lead [3] (s.monLen == 40) ++ [(s.monSrc.isNone, 1), (!s.mayUse (slotD s.monSrc) useMKA || attrBad s.monAttr 1, 2)] ++
      s.placeTests false ++ [(pt.isNone, 8)])
    (s.place false (pt.getD []) (s.mkaAttr 1 useMACSEC) false [])

/-- The operation of an OP code (R481); any other is reserved (R482). -/
def State.monResult (s : State) (op : Nat) (stage : Bool) : MonRes :=
  match op with
  | 0x01 => s.opDerive stage
  | 0x02 => s.opGenerate stage
  | 0x03 => s.opGenIdent
  | 0x04 => s.opImport stage
  | 0x05 => s.opUnwrap stage
  | 0x06 => s.opWrap
  | 0x07 => s.opMac
  | 0x08 => s.opMacVerify
  | 0x09 => s.opSign
  | 0x0A => s.opPubkey
  | 0x0B => s.opAttest
  | 0x0C => s.opProve
  | 0x0D => s.opCommit
  | 0x0E => s.opDiscard
  | 0x0F => s.opErase
  | 0x10 => s.opInfo
  | 0x11 => s.opTransition
  | 0x18 => s.opMkaKdf
  | 0x19 => s.opMkaIcv
  | 0x1A => s.opMkaUnwrap
  | _ => monEnd 0x0B

/-! Start and end (R480). -/

/-- Step 4 of a replacement (R483): the half that the commit word does not name is zeroed, the stage word cleared. -/
def State.finishCommit (s : State) : State :=
  match s.mon.zeroing with
  | some (i, _) =>
    let k := s.key i
    let s1 := s.setKey i { k.setHalf (3 - k.half) none with stage := 0 }
    { s1 with mon := { s1.mon with zeroing := none } }
  | none => s

/-- An operation is under way, and where it is a COMMIT its request is on its way. -/
def State.opSet (s : State) (o : MonOp) (req : Option (Nat × Nat)) : State :=
  let op : Option MonOp := some o
  { s with mon := { s.mon with
      op := op
      request := req } }

/-- The operation begins, from inputs as they stand. -/
def State.monBegin (s : State) (op : Nat) (stage : Bool) : State :=
  let s0 := s.finishCommit
  let r := s0.monResult op stage
  let o : MonOp := { start := s0.clock, op := op, code := r.code, handle := r.handle, out := r.out, writes := r.writes,
                     target := r.target, root := r.root }
  let s1 := s0.nextFree.set pMONUMENT F.MONUMENT.STS.BUSY 1
  let s2 := if r.random then s1.set pMONUMENT F.MONUMENT.STS.TRNG_OK 1 else s1
  let req := if op = 0x0D ∧ r.code = 0 then some (slotI s0.monDst, s0.clock) else s2.mon.request
  s2.opSet o req

/-- A write of CMD with GO = 1 (R480, R495): discarded while BUSY; with GO not obeyed while the page does not run or is
held. -/
def State.monGo (s : State) (op : Nat) (stage : Bool) : State :=
  if s.flag pMONUMENT F.MONUMENT.STS.BUSY then s
  else
    let s1 := (s.set pMONUMENT F.MONUMENT.CMD.OP op).setB pMONUMENT F.MONUMENT.CMD.STAGE stage
    if s1.running pMONUMENT && !s1.held pMONUMENT then s1.monBegin op stage else s1

/-- The write of CMD that starts an operation. -/
def State.monCmd (s : State) (op : Nat) (stage : Bool) : State :=
  s.regWrite pMONUMENT 0x48 (2 ^ 32 - 1) (2 ^ 31 + 2 ^ 16 * bit stage + op % 256) .host (fun t => t.monGo (op % 256) stage)

/-- Zero DATA. -/
def State.zeroData (s : State) : State := { s with regs := s.regs.filter (fun p => !monData p.1) }

/-- Place bytes in DATA from byte 0. -/
def State.monPut (s : State) : Nat → List Byte → State
  | w, b0 :: b1 :: b2 :: b3 :: t => State.monPut (s.wr pMONUMENT (0x400 + 4 * w) (w32 (ofLE [b0, b1, b2, b3]))) (w + 1) t
  | _, [] => s
  | w, l => s.wr pMONUMENT (0x400 + 4 * w) (w32 (ofLE l))

/-- A KEY_COMMIT record and PEVT bit 10 (R484, R493). -/
def State.commitRecord (s : State) (i flags : Nat) (k : KeySlot) : State :=
  (s.event pMONUMENT 10).guardEvent lineKey (guardRec 0x61 flags i (data2 k.commit k.attr))

/-- A slot write of an operation; the first fill of a slot is a commit (R481). -/
def State.slotWrite (s : State) (w : Nat × KeySlot) : State :=
  let fresh := !(s.key w.1).filled && w.2.filled
  let s1 := s.setKey w.1 w.2
  if fresh then s1.commitRecord w.1 (w.2.half + 4) w.2 else s1

/-- Does a transition to a state erase a slot (R474)? -/
def erasedBy (lc : Nat) (k : KeySlot) : Bool :=
  k.filled && (!natBit (attrStates k.attr) (lc - 2) || attrOrigin k.attr == 2)

/-- The fused state's root alone remains, and the slots that the state excludes are erased, each with a KEY_COMMIT record
of a transition erasure where `rec` (R474, R493). -/
def State.lifeErase (s : State) (root : List Byte) (rec : Bool) : State :=
  let s1 := { s with mon := { s.mon with roots := [(s.mon.fuse, root)] } }
  (List.range 97).foldl (fun st i =>
    let k := st.key i
    if erasedBy st.mon.fuse k then
      let s2 := st.setKey i KeySlot.empty
      if rec then s2.guardEvent lineKey (guardRec 0x61 8 i (data2 0 k.attr)) else s2
    else st) s1

/-- What a TRANSITION does once its fuse is burnt: root, erasures, PEVT bit 11. -/
def State.transit (s : State) (target : Nat) (root : List Byte) : State :=
  if target = 0 then s else (s.lifeErase root true).event pMONUMENT 11

/-- The operation under way is over; where it is a TRANSITION that took effect, the fuse of its target is burnt. -/
def State.opOver (s : State) (burnt : Bool) : State :=
  match s.mon.op with
  | none => s
  | some o => { s with mon := { s.mon with op := none, fuse := if o.target ≠ 0 ∧ burnt then o.target else s.mon.fuse } }

/-- MONUMENT_OP_DONE. A COMMIT ends after its commit word. -/
def State.monDone (s : State) : State :=
  match s.mon.op with
  | none => s
  | some o =>
    if o.op == 0x0D && s.mon.request.isSome && o.code == 0 then s
    else
      let s1 := o.writes.foldl State.slotWrite (s.opOver true)
      let s2 := (s1.transit o.target o.root).zeroData
      let s3 := ((s2.set pMONUMENT F.MONUMENT.RESULT.CODE o.code).set pMONUMENT F.MONUMENT.RESULT.HANDLE o.handle).set pMONUMENT
        F.MONUMENT.OUT_LEN.OUT o.out.length
      ((s3.monPut 0 o.out).set pMONUMENT F.MONUMENT.STS.BUSY 0).event pMONUMENT (if o.code = 0 then 8 else 9)

/-- KEY_COMMIT (R483, R484): the request has crossed, and the commit word names the staged half. -/
def State.keyCommit (s : State) : State :=
  match s.mon.request with
  | none => s
  | some (i, t) =>
    let s1 := s.advance (t + 183100)
    let k := s1.key i
    let k1 := { k with commit := commitWord (k.gen + 1) k.tag (k.stage % 4) }
    let z : Option (Nat × Nat × Bool) := some (i, s1.clock, natBit (s1.rd pMONUMENT 0x0C).toNat 10)
    let s2 := { (s1.setKey i k1) with mon := { (s1.setKey i k1).mon with
      request := none
      zeroing := z } }
    s2.commitRecord i k1.half k1

/-! The guard-die POR (R474, R484, R491). -/

/-- A staged half that the commit word does not name is zeroed; an old half that step 4 left is zeroed. -/
def settleKey (k : KeySlot) : KeySlot :=
  if k.stage % 4 = 0 then k
  else if k.half = k.stage % 4 then { k.setHalf (3 - k.half) none with stage := 0 }
  else { k.setHalf (k.stage % 4) none with stage := 0 }

/-- MONUMENT_POR_CHECKS. -/
def State.monPor (s : State) : State :=
  let sl := (s.mon.slots.map (fun p => (p.1, settleKey p.2))).filter (fun p => p.2 != KeySlot.empty)
  let s1 := { s with mon := { s.mon with slots := sl, op := none, request := none, zeroing := none } }
  let s2 := if s1.mon.roots.any (fun p => p.1 == s1.mon.fuse) then s1 else (s1.lifeErase (s1.rnd 48) false).nextFree
  if s2.mon.lost then
    let s3 := { s2 with mon := { s2.mon with lost := false } }
    (s3.set pMONUMENT F.MONUMENT.STS.COND 1).event pMONUMENT 13
  else s2

/-! Tamper. -/

/-- The sources that are armed (R489). -/
def State.armed (s : State) : Nat :=
  if s.mon.fuse = 1 then 0
  else 0xE0 + 16 * s.get pTAMPER F.TAMPER.CFG.MESH_EN + s.get pTAMPER F.TAMPER.CFG.SW_EN

/-- Entries of the log that are not reported. -/
def State.logAdd (s : State) (e : TamperEnt) (reported : Bool) : State :=
  let l := s.mon.log ++ [e]
  let s1 := { s with mon := { s.mon with
    log := l.drop (l.length - 16)
    seq := (s.mon.seq + 1) % 2 ^ 16 } }
  let n := s.get pTAMPER F.TAMPER.LOG_STS.UNREPORTED
  (s1.set pTAMPER F.TAMPER.LOG_STS.NEXT (s.get pTAMPER F.TAMPER.LOG_STS.NEXT + 1)).set pTAMPER F.TAMPER.LOG_STS.UNREPORTED
    (if reported then n else min 16 (n + 1))

/-- Every key, root, stage word and installed MACsec key is zero (R359, R488). -/
def State.zeroise (s : State) : State :=
  let had := s.sw.sa.filter (fun p => p.2.isSome)
  let live := had.map Prod.fst ++ s.sw.installs.map (fun x => 4 * x.port + x.sa)
  let s1 := { s with mon := { s.mon with roots := [], slots := [], request := none, zeroing := none }
                     sw := { s.sw with sa := [], installs := [] } }
  let s2 := live.foldl (fun st k =>
    (st.set pMACSEC ((F.MACSEC.SA_KEY.VALID.at (0x80 * (k / 4))).at (0x10 * (k % 4))) 0).set pMACSEC
      ((F.MACSEC.SA_KEY.ERR.at (0x80 * (k / 4))).at (0x10 * (k % 4))) 3) s1
  if live.isEmpty then s2 else s2.event pMACSEC 10

/-- A commit word written in the cycle of a zeroisation: the zeroisation is applied first, and neither its KEY_COMMIT record
nor its event stands (R485). -/
def State.uncommit (s : State) : State :=
  match s.mon.zeroing with
  | some (i, k, ten) =>
    if k = s.clock then
      let s1 := s.edgeRecs lineKey 0x61 i (fun _ => none)
      if ten then s1 else s1.set pMONUMENT ⟨0x0C, 10, 1⟩ 0
    else s
  | none => s

/-- An operation under way aborts (R489); the fuse of a TRANSITION is burnt or not. -/
def State.monAbort (s : State) : State :=
  match s.mon.op with
  | none => s
  | some _ =>
    let s1 := (s.opOver (natBit (s.freeVal 1) 0)).nextFree.zeroData
    let s2 := ((s1.set pMONUMENT F.MONUMENT.RESULT.CODE 0x0A).set pMONUMENT F.MONUMENT.RESULT.HANDLE 0).set pMONUMENT
      F.MONUMENT.OUT_LEN.OUT 0
    (s2.set pMONUMENT F.MONUMENT.STS.BUSY 0).event pMONUMENT 9

/-- Is the core die in start-up (R489, R509)? -/
def State.inStartup (s : State) : Bool := decide (s.get pSYS F.SYS.BOOTSTS.STAGE < 7)

/-- TAMPER_DETECT (R488, R489, R492, R493). -/
def State.tamper (s : State) (sources : Nat) : State :=
  let s0 := s.set pTAMPER F.TAMPER.STS.LIVE (s.get pTAMPER F.TAMPER.STS.LIVE ||| sources)
  let hit := sources % 256 &&& s.armed
  if hit = 0 then s0
  else
    let batt := decide (s.pwr.power = .battery)
    let busy := s.mon.op.isSome
    let rtc := s.rtcNow
    let s1 := (s0.uncommit.monAbort.zeroise.set pMONUMENT F.MONUMENT.STS.COND 2).set pTAMPER F.TAMPER.STS.LAST hit
    let e : TamperEnt := { rtc := rtc, src := hit, lc := s1.mon.fuse, seq := s1.mon.seq, battery := batt }
    let s2 := (s1.bumpSat pTAMPER F.TAMPER.COUNT.EVENTS).logAdd e s.coreOn
    if s.coreOn then
      (s2.event pTAMPER 8).guardEvent lineTamper
        (guardRec 0x60 (4 * bit busy + 8 * bit s.inStartup) hit (leBytes 8 rtc))
    else s2

/-- Unreported entries, oldest first, are replayed once BOOK has first been enabled (R492). -/
def State.tamperReplay (s : State) : State :=
  let n := s.get pTAMPER F.TAMPER.LOG_STS.UNREPORTED
  let es := s.mon.log.drop (s.mon.log.length - n)
  (es.foldl (fun st e => st.guardEvent lineTamper (guardRec 0x60 (1 + 2 * bit e.battery) e.src (leBytes 8 e.rtc))) s).set pTAMPER
    F.TAMPER.LOG_STS.UNREPORTED 0

/-- TAMPER_REARM (R490). -/
def State.rearm (s : State) (w : Word) : State :=
  if w ≠ 0x5EA10002 then s
  else if s.get pTAMPER F.TAMPER.STS.LIVE ≠ 0 then s.event pTAMPER 9
  else if s.monReady then s
  else
    let root := s.rnd 48
    let s1 := { s.nextFree with mon := { s.mon with roots := [(s.mon.fuse, root)] } }
    (s1.set pMONUMENT F.MONUMENT.STS.COND 0).event pTAMPER 10

/-- Three TRNG blocks in a row fail (R475). -/
def State.trngFail (s : State) : State :=
  ((s.set pMONUMENT F.MONUMENT.STS.TRNG_OK 0).bump pMONUMENT F.MONUMENT.TRNG_FAIL.COUNT).event pMONUMENT 12

/-- A write to the upper RTC word sets the RTC (R48, R494). -/
def State.rtcSet (s : State) (hi : Word) : State :=
  { s with mon := { s.mon with rtc := (s.latched pMONUMENT 0x60).toNat + 2 ^ 32 * hi.toNat, rtcAt := s.clock } }

/-- The battery domain loses its supply (R37, R44, R491): SRAM, RTC, log and its registers are lost. -/
def State.batteryLoss (s : State) : State :=
  let s1 := { s with
    regs := s.regs.filter (fun p => !(p.1 == regKey pTAMPER 0x40 || p.1 == regKey pTAMPER 0x44 || p.1 == regKey pTAMPER 0x48 ||
      p.1 == regKey pTAMPER 0x4C))
    mon := { MonSt.init with fuse := s.mon.fuse, roots := [], lost := true, rtcAt := s.clock } }
  { s1 with pwr := { s1.pwr with power := .noSupply, keepMain := true, keepAny := false } }

/-! Commands. -/

def execMonumentDerive (clk : Nat) (stage : Bool) (s : State) : Host.Outcome State Fault Refusal :=
  .next ((s.advance clk).monCmd 0x01 stage)

def execMonumentGenerate (clk : Nat) (stage : Bool) (s : State) : Host.Outcome State Fault Refusal :=
  .next ((s.advance clk).monCmd 0x02 stage)

def execMonumentGenIdent (clk : Nat) (s : State) : Host.Outcome State Fault Refusal := .next ((s.advance clk).monCmd 0x03 false)

def execMonumentImport (clk : Nat) (stage : Bool) (s : State) : Host.Outcome State Fault Refusal :=
  .next ((s.advance clk).monCmd 0x04 stage)

def execMonumentUnwrap (clk : Nat) (stage : Bool) (s : State) : Host.Outcome State Fault Refusal :=
  .next ((s.advance clk).monCmd 0x05 stage)

def execMonumentWrap (clk : Nat) (s : State) : Host.Outcome State Fault Refusal := .next ((s.advance clk).monCmd 0x06 false)

def execMonumentMac (clk : Nat) (s : State) : Host.Outcome State Fault Refusal := .next ((s.advance clk).monCmd 0x07 false)

def execMonumentMacVerify (clk : Nat) (s : State) : Host.Outcome State Fault Refusal := .next ((s.advance clk).monCmd 0x08 false)

def execMonumentSign (clk : Nat) (s : State) : Host.Outcome State Fault Refusal := .next ((s.advance clk).monCmd 0x09 false)

def execMonumentPubkey (clk : Nat) (s : State) : Host.Outcome State Fault Refusal := .next ((s.advance clk).monCmd 0x0A false)

def execMonumentAttest (clk : Nat) (s : State) : Host.Outcome State Fault Refusal := .next ((s.advance clk).monCmd 0x0B false)

def execMonumentProve (clk : Nat) (s : State) : Host.Outcome State Fault Refusal := .next ((s.advance clk).monCmd 0x0C false)

def execMonumentCommit (clk : Nat) (s : State) : Host.Outcome State Fault Refusal := .next ((s.advance clk).monCmd 0x0D false)

def execMonumentDiscard (clk : Nat) (s : State) : Host.Outcome State Fault Refusal := .next ((s.advance clk).monCmd 0x0E false)

def execMonumentErase (clk : Nat) (s : State) : Host.Outcome State Fault Refusal := .next ((s.advance clk).monCmd 0x0F false)

def execMonumentInfo (clk : Nat) (s : State) : Host.Outcome State Fault Refusal := .next ((s.advance clk).monCmd 0x10 false)

def execMonumentTransition (clk : Nat) (s : State) : Host.Outcome State Fault Refusal := .next ((s.advance clk).monCmd 0x11 false)

def execMonumentMkaKdf (clk : Nat) (s : State) : Host.Outcome State Fault Refusal := .next ((s.advance clk).monCmd 0x18 false)

def execMonumentMkaIcv (clk : Nat) (s : State) : Host.Outcome State Fault Refusal := .next ((s.advance clk).monCmd 0x19 false)

def execMonumentMkaUnwrap (clk : Nat) (s : State) : Host.Outcome State Fault Refusal := .next ((s.advance clk).monCmd 0x1A false)

/-- R482: an OP that is none of R481. -/
def execMonumentOpReserved (clk op : Nat) (s : State) : Host.Outcome State Fault Refusal := .next ((s.advance clk).monCmd op false)

def execMonumentOpDone (clk : Nat) (s : State) : Host.Outcome State Fault Refusal := .next ((s.advance clk).onGuard State.monDone)

def execKeyCommit (s : State) : Host.Outcome State Fault Refusal := .next s.keyCommit

/-- R483: step 4, at a moment within 4 CLK_KEEP cycles of the commit word. -/
def execKeyCommitOldZeroed (clk : Nat) (s : State) : Host.Outcome State Fault Refusal := .next (s.advance clk).finishCommit

def execTrngFail (clk : Nat) (s : State) : Host.Outcome State Fault Refusal := .next ((s.advance clk).onGuard State.trngFail)

def execMonumentRtcSet (clk : Nat) (word : Word) (s : State) : Host.Outcome State Fault Refusal :=
  .next ((s.advance clk).regWrite pMONUMENT 0x64 (2 ^ 32 - 1) word.toNat .host (fun t => t.rtcSet word))

def execTamperDetect (clk sources : Nat) (s : State) : Host.Outcome State Fault Refusal :=
  .next (if (s.advance clk).pwr.power = .noSupply then s.advance clk else (s.advance clk).tamper (sources % 256))

def execTamperRearm (clk : Nat) (word : Word) (s : State) : Host.Outcome State Fault Refusal :=
  .next ((s.advance clk).regWrite pTAMPER 0x50 (2 ^ 32 - 1) word.toNat .host (fun t => t.rearm word))

/-- R490: sources of the map are no longer active. -/
def execTamperSourceInactive (clk sources : Nat) (s : State) : Host.Outcome State Fault Refusal :=
  .next ((s.advance clk).set pTAMPER F.TAMPER.STS.LIVE
    ((s.advance clk).get pTAMPER F.TAMPER.STS.LIVE &&& (255 - sources % 256)))

/-- R491: VBAT is removed while neither input supplies the guard die. -/
def execBatteryDomainLoss (clk : Nat) (s : State) : Host.Outcome State Fault Refusal :=
  .next (if (s.advance clk).pwr.power = .battery then (s.advance clk).batteryLoss else s.advance clk)

end Sys2Proof.Machine
end

