-- ==== Sys2Proof/Machine/View.lean ====
section
/-!
DEFINITION. What a read of a register shows: the stored word, or the part of the state that the register stands for
(R8, R48, R49), without any effect of the read.
-/

namespace Sys2Proof.Machine

/-- A word with one field replaced. -/
def putBitsW (w : Word) (f : Fld) (v : Nat) : Word := w32 (natPut w.toNat f.lo f.w v)

/-- Bits of a list of predicates, bit i for position i. -/
def mapOf (n : Nat) (f : Nat → Bool) : Nat := ((List.range n).map (fun i => bit (f i) * 2 ^ i)).sum

/-- The words of the tamper log (R492), entry i at 16 i. -/
def State.tamperWord (s : State) (i j : Nat) : Word :=
  let back := (s.get pTAMPER F.TAMPER.LOG_STS.NEXT + 15 - i) % 16
  match s.mon.log.reverse[back]? with
  | none => 0
  | some e => nth [w32 e.rtc, w32 (e.rtc / 2 ^ 32), w32 (e.src + 256 * e.lc + 65536 * e.seq), 0] j 0

/-- WAITK and STALL_PUSH of an engine (R217). -/
def State.waitView (s : State) (e : Nat) : Nat × Nat :=
  match (s.eng e).wait with
  | .none => (0, 0)
  | .waitp => (1, 0)
  | .waitt _ _ => (2, 0)
  | .dly => (2, 0)
  | .cnt => (0, 0)
  | .stall k _ _ => (3, bit (k == .push || k == .inFlush || k == .stamp))

/-- The values that X, Y, OSR, ISR, CNT and PC return (R218). -/
def State.engShown (s : State) (e : Nat) : EngSnap :=
  let g := s.eng e
  if s.engLive e then { pc := g.pc, x := g.x, y := g.y, osr := g.osr, isr := g.isr, osc := g.osc, isc := g.isc } else g.snap

/-- Registers of an engine page that show the engine (R217). -/
def State.viewEng (s : State) (e off : Nat) (w : Word) : Word :=
  let v := s.engShown e
  let g := (s.txSettle e (s.raw / 8)).eng e
  match off with
  | 0x54 =>
    let k := s.waitView e
    putBitsW (putBitsW (putBitsW (putBitsW (putBitsW (putBitsW w F.ENG.STS.PHASE g.phase) F.ENG.STS.RXLVL g.rxf.length)
      F.ENG.STS.TXLVL g.txf.length) F.ENG.STS.WAITK k.1) F.ENG.STS.STALL_PUSH k.2) F.ENG.STS.PC v.pc
  | 0x58 => w32 v.x
  | 0x5C => w32 v.y
  | 0x60 => w32 v.osr
  | 0x64 => w32 v.isr
  | 0x68 => putBitsW (putBitsW w F.ENG.CNT.ISC v.isc) F.ENG.CNT.OSC v.osc
  | 0x7C => w32 (s.latchShown e g.latch)
  | _ => w

/-- Registers of a crew page that show its engines and flags (R213). -/
def State.viewCrew (s : State) (c off : Nat) (w : Word) : Word :=
  match off with
  | 0x44 =>
    let stalled := mapOf 4 (fun k => s.running (pENG (4 * c + k)) && (s.waitView (4 * c + k)).1 == 3)
    putBitsW (putBitsW w F.CREW.STS.STALLED stalled) F.CREW.STS.RUNNING (mapOf 4 (fun k => s.running (pENG (4 * c + k))))
  | 0x4C => w32 (s.crewFlags c)
  | _ => w

/-- Maps of an EDGE page (R271). -/
def State.viewEdge (s : State) (q off : Nat) (w : Word) : Word :=
  if off = 0xD0 ∨ off = 0xD4 then
    w32 (mapOf 32 (fun j => (s.edge (64 * q + 32 * ((off - 0xD0) / 4) + j)).lock.isSome))
  else if off = 0xD8 ∨ off = 0xDC then
    w32 (mapOf 32 (fun j => (s.edge (64 * q + 32 * ((off - 0xD8) / 4) + j)).stuck))
  else w

/-- Time registers (R85, R102). -/
def State.viewDatum (s : State) (off : Nat) (w : Word) : Word :=
  match off with
  | 0x40 => putBitsW w F.DATUM.STS.UNLOCKED (bit s.unlocked)
  | 0x48 => w32 s.incNow
  | 0x4C => (w &&& 0xFFFF0000) ||| w32 (s.incNow / 2 ^ 32)
  | 0x60 => w32 s.now
  | 0x64 => w32 (s.now / 2 ^ 32)
  | 0x68 => w32 s.raw
  | 0x6C => w32 (s.raw / 2 ^ 32)
  | _ => w

/-- T_REL of the queue head, all ones when empty (R183). -/
def State.nextRel (s : State) : Nat :=
  match s.stake.q with
  | [] => 2 ^ 64 - 1
  | x :: _ => x.tRel

/-- Registers of STAKE that show its queues (R183). -/
def State.viewStake (s : State) (off : Nat) (w : Word) : Word :=
  match off with
  | 0x80 => putBitsW w F.STAKE.ISSUESTS.DEPTH s.stake.issue.length
  | 0x84 => putBitsW w F.STAKE.QSTS.DEPTH s.stake.q.length
  | 0x88 => w32 s.nextRel
  | 0x8C => w32 (s.nextRel / 2 ^ 32)
  | 0xC0 => putBitsW w F.STAKE.RCPTSTS.DEPTH s.stake.rcpts.length
  | _ => w

/-- Cells queued in the queues of a port (R329). -/
def State.viewPort (s : State) (n off : Nat) (w : Word) : Word :=
  if off = F.PORT.INUSE.CELLS.off then putBitsW w F.PORT.INUSE.CELLS (s.inUse n)
  else if 0x70 ≤ off ∧ off < 0x80 then
    let k := (off - 0x70) / 4
    w32 (s.qDepth n (2 * k + 1) * 2 ^ 16 + s.qDepth n (2 * k) % 2 ^ 16)
  else w

/-- Seconds of the lease left (R391). -/
def State.leaseLeft (s : State) : Nat :=
  match s.bridge.leaseEnd with
  | some e => ceilDiv (e - s.clock) 2000000000
  | none => 0

/-- Registers of BRIDGE that show the lease and the log (R391). -/
def State.viewBridge (s : State) (off : Nat) (w : Word) : Word :=
  match off with
  | 0x50 => putBitsW w F.BRIDGE.MGRSTS.REMAIN s.leaseLeft
  | 0x58 => putBitsW w F.BRIDGE.LLOG_STS.COUNT s.bridge.llog.length
  | _ => w

/-- Registers of the Monument and of TAMPER (R494, R496). DATA reads as 0 while an operation runs, and GO as 1 (R8, R480). -/
def State.viewMonument (s : State) (off : Nat) (w : Word) : Word :=
  let slots := (List.range 96).map (fun i => s.key (i + 1))
  match off with
  | 0x40 => putBitsW w F.MONUMENT.LC.STATE s.mon.fuse
  | 0x44 => putBitsW (putBitsW w F.MONUMENT.STS.FREE (slots.filter (fun k => !k.filled)).length) F.MONUMENT.STS.STAGED
      (slots.filter (fun k => k.stage != 0)).length
  | 0x48 => putBitsW w F.MONUMENT.CMD.GO (s.get pMONUMENT F.MONUMENT.STS.BUSY)
  | 0x60 => w32 s.rtcNow
  | 0x64 => w32 (s.rtcNow / 2 ^ 32)
  | _ => if decide (0x400 ≤ off) && s.flag pMONUMENT F.MONUMENT.STS.BUSY then 0 else w

/-- Registers of a slot page (R451). -/
def State.viewSlot (s : State) (n off : Nat) (w : Word) : Word :=
  match off with
  | 0x54 => putBitsW w F.SLOT.STS.COOL_MS (min (s.coolMs n) 0xFFFF)
  | 0x64 => w32 (s.coolMs n)
  | _ => w

/-- TXABORT while the abort of a buffer that is being sent is outstanding (R8, R289). -/
def State.abortMap (s : State) (n : Nat) : Nat :=
  match (s.can n).att with
  | some a => if a.abort && decide (a.buf < 3) then 2 ^ a.buf else 0
  | none => 0

/-- Milliseconds until the watchdog expires (R529). -/
def State.wdogLeft (s : State) : Nat :=
  match s.rst.wdog with
  | some t => ceilDiv (t - s.clock) 2000000
  | none => 0

/-- The word a register of the block area shows. -/
def State.viewBlock (s : State) (p off : Nat) (w : Word) : Word :=
  match runOf p with
  | none => w
  | some r =>
    let i := p - r.first
    match r.fam with
    | .reset => if off = 0x54 then putBitsW w F.RESET.REMAIN.MS s.wdogLeft else w
    | .irq => if off = 0xE0 then w32 (mapOf 8 s.grpPend) else w
    | .datum => s.viewDatum off w
    | .stamp => if off = 0x50 then putBitsW w F.STAMP.TXQSTS.DEPTH s.stamps.length else w
    | .stake => s.viewStake off w
    | .crew => s.viewCrew i off w
    | .eng => s.viewEng i off w
    | .pinmux => if off = 0x58 ∨ off = 0x5C then w32 (mapOf 32 (fun j => s.syncLevel (64 * i + 32 * ((off - 0x58) / 4) + j)))
        else w
    | .edge => s.viewEdge i off w
    | .book => if off = 0x4C then putBitsW w F.BOOK.FILL.FILL s.syncDrains.fill
        else if off = 0x90 then putBitsW w F.BOOK.SHADOW.DEPTH s.book.shadowQ.length else w
    | .port => s.viewPort (portOfPage p) off w
    | .bufmem => if off = 0x50 then putBitsW w F.BUFMEM.FREE.CELLS s.cellsFree else w
    | .bridge => s.viewBridge off w
    | .duplex => if off = 0x50 then
        putBitsW (putBitsW w F.DUPLEX.STS.STATE (s.dupState.getD 0)) F.DUPLEX.STS.PEER_PRESENT
          (bit (s.running pDUPLEX && !s.peerAbsent))
        else w
    | .can => if off = 0x94 then putBitsW w F.CAN.TXABORT.ABORT (s.abortMap i) else w
    | .gangctl => if off = 0x50 then putBitsW w F.GANGCTL.CTL.REJOIN (bit s.gang.rejoining) else w
    | .slot => s.viewSlot i off w
    | .monument => s.viewMonument off w
    | .tamper => if 0x100 ≤ off ∧ off < 0x200 then s.tamperWord ((off - 0x100) / 16) ((off - 0x100) % 16 / 4) else w
    | .cal => if off = 0x50 then s.calDataWord else w
    | _ => w

/-- The word a register shows (R8, R49). -/
def State.view (s : State) (p off : Nat) : Word :=
  if off = 0x08 then putBitsW (s.rd p off) F.HDR.PSTS.HELD (bit (s.running p && s.held p))
  else if off < 0x40 then s.rd p off
  else s.viewBlock p off (s.rd p off)

end Sys2Proof.Machine
end

