-- ==== Sys2Proof/Machine/Checks.lean ====
section
/-!
DEFINITION. The enable check of every page family: the tests of R52 in order, with the code and the item that each
failure reports (R53–R55), the dependencies of pages on each other (R59, R558), and the energy test of R467.
-/

namespace Sys2Proof.Machine

/-- What a test reports when it fails: code and item. -/
abbrev Verdict := Option (Nat × Nat)

/-- One test: nothing where it holds. -/
def need (ok : Bool) (code index : Nat) : Verdict := if ok then none else some (code, index)

/-- The first failure of a list of tests (R52). -/
def firstOf (l : List Verdict) : Verdict := l.findSome? id

/-- The first element of a list that fails a test. -/
def needEach (l : List Nat) (ok : Nat → Bool) (code : Nat) (index : Nat → Nat) : Verdict :=
  l.findSome? (fun i => need (ok i) code (index i))

/-- Pages that must run, reported by their index (R55). -/
def State.needPages (s : State) (l : List Nat) : Verdict := needEach l s.running 0x04 id

def inRange (lo hi x : Nat) : Bool := decide (lo ≤ x) && decide (x ≤ hi)

/-- The first pair of two lists of spans that share a point: the higher index (R154, R158). Spans are index, start and
length. -/
def overlapOf : List (Nat × Nat × Nat) → Option Nat
  | [] => none
  | a :: t =>
    match t.find? (fun b => decide (a.2.1 < b.2.1 + b.2.2) && decide (b.2.1 < a.2.1 + a.2.2)) with
    | some b => some (max a.1 b.1)
    | none => overlapOf t

def needApart (l : List (Nat × Nat × Nat)) (code : Nat) : Verdict := (overlapOf l).map (fun k => (code, k))

/-! Step 1. -/

/-- The item a reserved bit of a register reports: the chapter's where it gives one for code 0x02, else the word number
(R55, R152, R156, R222, R329). -/
def reservedItem (fam : Fam) (p off : Nat) : Nat :=
  let word := min ((off - 0x40) / 4) 0xFE
  match fam with
  | .cycle => if 0x800 ≤ off then (off - 0x800) / 16 + 1 else 0x80 + word
  | .plat => if 0x400 ≤ off then (off - 0x400) / 8 else 0x81 + word
  | .pinmux => if off = 0x40 then 0xFF else 64 * (p - 0x60) + (off - 0x100) / 4
  | .port =>
    if 0x80 ≤ off ∧ off < 0xA0 then 0x10 + (off - 0x80) / 4
    else match off with
      | 0x40 => 0x20
      | 0x44 => 1
      | 0x48 => 2
      | 0x4C => 3
      | 0x50 => 4
      | 0x54 => 0x21
      | 0x58 => 5
      | 0x5C => 0x22
      | 0x60 => 6
      | 0x64 => 7
      | 0xA0 => 0x24
      | 0xB0 => 0x23
      | 0xB4 => 8
      | 0xB8 => 9
      | 0xBC => 10
      | _ => word
  | _ => word

/-- Reserved bits of a register word that R52 tests; in GANGCTL.CFG also bit 2 of each nibble (R424). -/
def reservedMask (fam : Fam) (p off : Nat) : Nat :=
  match rowAt p off with
  | none => 0
  | some r => r.resv ||| (if fam = .gangctl ∧ off = 0x40 then 0x4444 else 0)

/-- Step 1 of R52: the first register of the block area, in address order, with a reserved bit at 1. -/
def State.checkReserved (s : State) (fam : Fam) (p : Nat) : Verdict :=
  (s.regs.find? (fun e => e.1 / 4096 == p && decide (0x40 ≤ e.1 % 4096) &&
    (e.2.toNat &&& reservedMask fam p (e.1 % 4096)) != 0)).map (fun e => (0x02, reservedItem fam p (e.1 % 4096)))

/-! Step 2, the stated ranges and sets of values. -/

def State.rangeDatum (s : State) : Verdict :=
  let per := s.get pDATUM F.DATUM.PPS_PERIOD.PERIOD
  let wid := s.get pDATUM F.DATUM.PPS_WIDTH.WIDTH
  firstOf [need (decide (2000 ≤ per)) 1 1, need (decide (s.get pDATUM F.DATUM.PPS_PHASE.PHASE < per)) 1 2,
    need (decide (16 ≤ wid) && decide (wid < per)) 1 3]

def stampPort (f : Fld) (n : Nat) : Fld := f.at (0x20 * n)

def State.rangeStamp (s : State) : Verdict :=
  needEach ((List.range 20).map (· + 2)) (fun n => !s.flag pSTAMP (stampPort F.STAMP.PCFG.ONESTEP n)) 1 id

def State.rangeMscl (s : State) : Verdict :=
  let g := s.get pMSCL
  firstOf [need (inRange 1 15 (g F.MSCL.CFG.CONFIRM)) 1 1, need (inRange 0 8 (g F.MSCL.CFG.FILT)) 1 2,
    need (inRange 1 15 (g F.MSCL.CFG.MISS_N)) 1 3, need (inRange 1000 1000000 (g F.MSCL.PERIOD.PERIOD)) 1 4,
    need (inRange 100 999999 (g F.MSCL.TIMEOUT.TIMEOUT)) 1 5, need (g F.MSCL.TH.STEP_TH != 0) 1 6,
    need (g F.MSCL.TH.PD_TH != 0) 1 7, need (g F.MSCL.COINC.COINC_WIN != 0) 1 8, need (g F.MSCL.COINC.MAX_CORR != 0) 1 9]

/-- Node numbers of the slot table. -/
def nodes : List Nat := (List.range 127).map (· + 1)

def State.rangeCycle (s : State) : Verdict :=
  let g := s.get pCYCLE
  let len := g F.CYCLE.CYC_LEN.LEN
  firstOf [need (inRange 20000 20000000 len) 1 0x81, need (decide (g F.CYCLE.CYC_PHASE.PHASE < len)) 1 0x82,
    need (decide (g F.CYCLE.PW_OPEN.OPEN + g F.CYCLE.PW_LEN.LEN ≤ len)) 1 0x84,
    needEach nodes (fun k => decide (s.slotLen k ≤ 256) && decide (s.slotOut k ≤ s.slotLen k - 1) &&
      decide (s.slotOfs k + s.slotLen k ≤ 4096)) 1 id]

/-- A field of feed descriptor `n`. -/
def feedFld (f : Fld) (n : Nat) : Fld := f.at (8 * n)

def State.feedType (s : State) (n : Nat) : Nat := s.get pPLAT (feedFld F.PLAT.FEED_A.TYPE n)
def State.feedMember (s : State) (n : Nat) : Nat := s.get pPLAT (feedFld F.PLAT.FEED_A.MEMBER n)
def State.feedSrc (s : State) (n : Nat) : Nat := s.get pPLAT (feedFld F.PLAT.FEED_A.SRC n)
def State.feedOfs (s : State) (n : Nat) : Nat := s.get pPLAT (feedFld F.PLAT.FEED_B.OFS n)
def State.feedLen (s : State) (n : Nat) : Nat := s.get pPLAT (feedFld F.PLAT.FEED_B.LEN n)

/-- Is a feed descriptor defined, with an existing source and the LEN its type requires (R137)? -/
def State.feedOk (s : State) (n : Nat) : Bool :=
  let src := s.feedSrc n
  let len := s.feedLen n
  match s.feedType n with
  | 0 => src == 0 && len == 0
  | 1 => decide (src < 2 ^ 18) && (rowAt (src / 1024) (4 * (src % 1024))).isSome && inRange 1 128 len
  | 2 => decide (src < 64) && len == 1
  | 3 => decide (src < 8) && len == 1
  | 4 => decide (src < 512) && len == 10
  | _ => false

def State.rangePlat (s : State) : Verdict :=
  firstOf [need (s.get pPLAT F.PLAT.CFG.STALE != 0) 1 0x81, needEach (List.range 128) s.feedOk 1 id]

def State.rangeStake (s : State) : Verdict :=
  firstOf [need (decide (s.get pSTAKE F.STAKE.LATE_TOL.TOL ≤ 20000000)) 1 1,
    need (s.get pSTAKE F.STAKE.HORIZON.HORIZON != 0) 1 2]

def State.rangeEng (s : State) (e : Nat) : Verdict :=
  let g := s.get (pENG e)
  firstOf [need (g F.ENG.DIV.INT != 0) 1 1,
    need (decide (g F.ENG.PINS.OUT_COUNT ≤ 32) && decide (g F.ENG.PINS.SET_COUNT ≤ 5) &&
      decide (g F.ENG.PINS.EDGE_COUNT ≤ 4)) 1 2,
    need (g F.ENG.CFG.JOIN != 3 && g F.ENG.CFG.PLAT_MODE != 3) 1 3]


/-- FUNC of a pin as its page holds it, whether the page runs or not. -/
def State.muxFunc (s : State) (p : Nat) : Nat := s.get (muxPage p) (muxFld F.PINMUX.PIN.FUNC p)

/-- The pin that holds a function of a controller, on a running page if there is one. -/
def State.muxPin (s : State) (func sel : Nat) : Option Nat :=
  (s.pinOf func sel).or ((List.range 256).find? (fun p => s.muxFunc p == func && s.selOf p == sel))

def State.rangePinmux (s : State) (q : Nat) : Verdict :=
  firstOf [
    needEach (pinsOf q) (fun p => let f := s.muxFunc p
      decide (f ≤ 5) && (!(f == 0 || f == 2 || f == 5) || s.selOf p == 0)) 1 id,
    needEach (pinsOf q) (fun p => s.muxFunc p != 1 || s.selOf p == p / 16 || s.selOf p == (p / 16 + 15) % 16) 1 id]

def profFld (f : Fld) (k : Nat) : Fld := f.at (0x10 * k)

def State.rangeEdge (s : State) (q : Nat) : Verdict :=
  let g := fun (f : Fld) (k : Nat) => s.get (pEDGE q) (profFld f k)
  firstOf [
    needEach (List.range 8) (fun k => g F.EDGE.CHAT.N k == 0 || (g F.EDGE.CHAT.W k != 0 && g F.EDGE.QUIET.Q k != 0)) 1 id,
    needEach (List.range 8) (fun k => g F.EDGE.FILT.DEBOUNCE k == 0 ||
      decide (g F.EDGE.FILT.GLITCH k < 2000 * g F.EDGE.FILT.DEBOUNCE k)) 1 id]

def State.rangeBook (s : State) : Verdict :=
  let g := s.get pBOOK
  let dma := s.flag pBOOK F.BOOK.DMA_CTL.DMA_EN
  let ring := s.flag pBOOK F.BOOK.RING_CTL.RING_EN
  firstOf [need (!dma || inRange 6 20 (g F.BOOK.DMA_CTL.SIZE)) 1 2, need (!dma || g F.BOOK.DMA_BASE.ADDR % 4096 == 0) 1 3,
    need (!dma || g F.BOOK.DMA_WRPTR.ADDR % 8 == 0) 1 4, need (!ring || inRange 1 44 (g F.BOOK.RING_CTL.BATCH)) 1 5,
    need (!ring || g F.BOOK.RING_CTL.MAXAGE != 0) 1 6]

def filtFld (f : Fld) (i : Nat) : Fld := f.at (8 * i)

def State.rangeCan (s : State) (n : Nat) : Verdict :=
  let g := s.get (pCAN n)
  let master := s.flag (pCAN n) F.CAN.TMCFG.MASTER
  firstOf [
    need (g F.CAN.NBT.BRP != 0 && decide (2 ≤ g F.CAN.NBT.TSEG1) && inRange 1 (g F.CAN.NBT.TSEG2) (g F.CAN.NBT.SJW)) 1 1,
    need (g F.CAN.DBT.BRP != 0 && g F.CAN.DBT.TSEG1 != 0 && inRange 1 (g F.CAN.DBT.TSEG2) (g F.CAN.DBT.SJW)) 1 2,
    need (!master || inRange 2000000 2000000000 (g F.CAN.REF_PERIOD.PERIOD)) 1 4,
    need (!master || decide (g F.CAN.REF_PHASE.PHASE < g F.CAN.REF_PERIOD.PERIOD)) 1 5,
    need (!(master && s.flag (pCAN n) F.CAN.TMCFG.SLAVE)) 1 4,
    needEach (List.range 32) (fun f => s.flag (pCAN n) (filtFld F.CAN.FILT_A.IDE f) ||
      (s.get (pCAN n) (filtFld F.CAN.FILT_A.ID f) % 2 ^ 18 == 0 &&
       s.get (pCAN n) (filtFld F.CAN.FILT_B.MASK f) % 2 ^ 18 == 0)) 1 (fun f => 0x20 + f)]

def State.rangePort (s : State) (p : Nat) : Verdict :=
  let g := s.get p
  firstOf [
    need (decide (g F.PORT.CFG.MODE ≤ 5) && decide (g F.PORT.CFG.LOOP ≤ 1) && g F.PORT.CFG.SPEED != 3) 1 0x20,
    need (g F.PORT.LINKT.LUP_DB != 0 && inRange 1 1000 (g F.PORT.LINKT.LDN_DB)) 1 1,
    need (inRange 10 10000 (g F.PORT.FBT.FBT)) 1 2, need (decide (g F.PORT.HOLD_WIN.WIN ≤ 65000)) 1 3,
    need (g F.PORT.VLAN.ACCEPT != 3 && inRange 1 4094 (g F.PORT.VLAN.PVID)) 1 4,
    need (inRange 1518 2048 (g F.PORT.MAXLEN.LEN)) 1 5, need (g F.PORT.PAUSE.QUANTA != 0) 1 6,
    need (g F.PORT.WM.LWM != 0 && inRange (g F.PORT.WM.LWM + 1) 4096 (g F.PORT.WM.HWM)) 1 7,
    needEach (List.range 8) (fun q => inRange 1 16384 (s.get p (F.PORT.QLIM.LIMIT.at (4 * q)))) 1 (fun q => 0x10 + q),
    need (inRange 1 64 (g F.PORT.GCL_LEN.LEN0) && inRange 1 64 (g F.PORT.GCL_LEN.LEN1)) 1 8,
    need (inRange 20000 20000000 (g F.PORT.GCL_CYCLE.CYCLE)) 1 9,
    need (decide (g F.PORT.GCL_PHASE.PHASE < g F.PORT.GCL_CYCLE.CYCLE)) 1 10]

def State.rangeSwitch (s : State) : Verdict :=
  let e := s.get pSWITCH F.SWITCH.SPANEN.ETYPE
  firstOf [need (decide (0x600 ≤ e) && e != 0x8100 && e != 0x892F && e != 0x88F7 && e != 0x888E) 1 1,
    need (inRange 100 65000 (s.get pSWITCH F.SWITCH.AGE_LIMIT.LIMIT)) 1 2]

def State.rangeHsr (s : State) : Verdict :=
  firstOf [need (inRange 100 400000 (s.get pHSR F.HSR.DD_TIME.TIME)) 1 2,
    need (!s.flag pHSR F.HSR.CFG.REDBOX || s.flag pHSR F.HSR.CFG.RING) 1 1]

def ruleFld (f : Fld) (r : Nat) : Fld := f.at (0x10 * r)

def State.rangeCapture (s : State) : Verdict :=
  firstOf [
    needEach (List.range 16) (fun r => !s.flag pCAPTURE (ruleFld F.CAPTURE.RULE_A.EN r) ||
      (s.get pCAPTURE (ruleFld F.CAPTURE.RULE_A.DIR r) != 0 && s.get pCAPTURE (ruleFld F.CAPTURE.RULE_A.WHICH r) != 3)) 1 id,
    need (s.get pCAPTURE F.CAPTURE.CFG.THRESH != 0) 1 0x10]

def State.rangeBufmem (s : State) : Verdict :=
  firstOf [need (inRange 16 4096 (s.get pBUFMEM F.BUFMEM.CFG.CRIT)) 1 1,
    need (s.get pBUFMEM F.BUFMEM.SCRUB.INT != 0) 1 2,
    need (s.get pBUFMEM F.BUFMEM.FAIL_TH.WIN != 0 && s.get pBUFMEM F.BUFMEM.FAIL_TH.COUNT != 0) 1 3,
    need (decide (s.get pBUFMEM F.BUFMEM.CTL.BANK ≤ 8)) 1 5]

def State.rangeBridge (s : State) : Verdict :=
  let g := s.get pBRIDGE
  firstOf [need (inRange 50 1000000 (g F.BRIDGE.NP_TIMEOUT.US)) 1 1, need (g F.BRIDGE.TGT.ORD_WAIT != 0) 1 2,
    need (inRange 1 3600 (g F.BRIDGE.LEASE.LEASE_S)) 1 3, need (g F.BRIDGE.RX_BASE.ADDR % 4096 == 0) 1 0x14,
    need (g F.BRIDGE.RX_WRPTR.ADDR % 8 == 0) 1 0x16, need (inRange 4 12 (g F.BRIDGE.RX_CTL.SIZE)) 1 4,
    need (g F.BRIDGE.TX_BASE.ADDR % 4096 == 0) 1 0x1C, need (inRange 4 12 (g F.BRIDGE.TX_CTL.SIZE)) 1 5]

def State.rangeDuplex (s : State) : Verdict :=
  firstOf [need (inRange 16 1024 (s.get pDUPLEX F.DUPLEX.CFG.BOOK_MAX)) 1 3,
    need (inRange 400 10000 (s.get pDUPLEX F.DUPLEX.HB_WIN.WIN)) 1 2]

/-- MEMBERS and TWINS (R426): member 0 fitted and no twin; each twin fitted and guarding a fitted member that is no twin;
no member guarded twice. -/
def State.twinsOk (s : State) : Bool :=
  let twins := (List.range 4).filter s.isTwin
  s.memFitted 0 && !s.isTwin 0 &&
    twins.all (fun m => s.memFitted m && s.memFitted (s.guards m) && !s.isTwin (s.guards m)) &&
    (twins.map s.guards).Nodup

def State.rangeGang (s : State) : Verdict :=
  let g := s.get pGANGCTL
  firstOf [need s.twinsOk 1 1,
    need (g F.GANGCTL.FORM.FORM_WAIT != 0 && decide (2 ≤ g F.GANGCTL.FORM.TIME_TOL)) 1 2,
    need (decide (4000 ≤ g F.GANGCTL.VOTE.STATE_AT)) 1 3,
    need (decide (100 ≤ g F.GANGCTL.MISC.TIME_PER) && decide (2 ≤ g F.GANGCTL.MISC.MISS_N)) 1 4]

def State.rangeSupply (s : State) : Verdict :=
  let g := s.get pSUPPLY
  firstOf [need (inRange 90 580 (g F.SUPPLY.PFW_TH.TH)) 1 1,
    need (inRange 1 1000 (g F.SUPPLY.TIMES.START_DB) && inRange 1 10000 (g F.SUPPLY.TIMES.RETURN_DB)) 1 2,
    need (inRange 1 50 (g F.SUPPLY.SEQ.RAMP_TO) && inRange 1 100 (g F.SUPPLY.SEQ.PG_DLY) &&
      inRange 1 100 (g F.SUPPLY.SEQ.SEQ_DLY)) 1 3,
    need (g F.SUPPLY.RAILCFG.RF_FILT != 0 &&
      (List.range 6).all (fun k => s.get pSUPPLY (F.SUPPLY.RAILCFG.WIN.up (2 * k)) != 3)) 1 4]

def State.rangeSlot (s : State) (n : Nat) : Verdict :=
  let g := s.get (pSLOT n)
  firstOf [need (inRange 1 50 (g F.SLOT.RAMP.IRAMP)) 1 1,
    need (inRange 25 200 (g F.SLOT.ILIM.FAST_TH) && inRange 10 200 (g F.SLOT.ILIM.ILIM_TH) &&
      decide (g F.SLOT.ILIM.ILIM_TH < 2 * g F.SLOT.ILIM.FAST_TH)) 1 2,
    need (inRange 1 200 (g F.SLOT.TIMER.FAULT_T) && inRange 10 1000 (g F.SLOT.TIMER.START_TO)) 1 3,
    need (inRange 1 100 (g F.SLOT.PG.INS_DB) && inRange 80 350 (g F.SLOT.PG.PG_TH)) 1 4]

def State.rangeTally (s : State) : Verdict :=
  let g := s.get pTALLY
  firstOf [need (decide (256 ≤ g F.TALLY.HUP.RATIO) && decide (g F.TALLY.HUP.DIV_TOL ≤ 200)) 1 1,
    need (decide (435 ≤ g F.TALLY.VLIM.V_FLOOR) && decide (g F.TALLY.VLIM.V_FLOOR < g F.TALLY.VLIM.V_FULL)) 1 2,
    need (g F.TALLY.CAP.C_RATED != 0 && inRange 5 50 (g F.TALLY.CAP.C_MARGIN)) 1 3,
    need ((!s.flag pTALLY F.TALLY.CFG.AUTO_LEARN || g F.TALLY.LEARN.LOAD_OHM != 0) && g F.TALLY.LEARN.LEARN_MS != 0 &&
      g F.TALLY.LEARN.LEARN_H != 0) 1 4,
    need (decide (10 ≤ g F.TALLY.TIMES.PFW_LEAD)) 1 5]

/-- SRC and ARG of a monitor (R498). -/
def State.hmonArgOk (s : State) (p : Nat) : Bool :=
  let a := s.get p F.HMON.CFG.ARG
  match s.get p F.HMON.CFG.SRC with
  | 0 => a == 0
  | 1 => decide (a ≤ 1)
  | 2 => a == 0
  | 3 => decide (a < 64)
  | 4 => decide (a / 8 < 22)
  | 5 => inRange 1 127 a
  | 6 => a == 0
  | 7 => decide (a ≤ 9)
  | 8 => decide (a ≤ 1)
  | _ => false

def State.rangeHmon (s : State) (p : Nat) : Verdict :=
  let w := s.get p F.HMON.W.W
  firstOf [need (s.hmonArgOk p) 1 1,
    need (inRange 1 (2 ^ 31 - 1) w && (!s.flag p F.HMON.CFG.MODE ||
      decide (s.getS p F.HMON.LO.LO + (w * 2 ^ 31 : Nat) < (2 ^ 63 : Nat)))) 1 3]

/-- Step 2 of R52. -/
def State.checkRange (s : State) (fam : Fam) (p : Nat) : Verdict :=
  match fam with
  | .datum => s.rangeDatum
  | .stamp => s.rangeStamp
  | .mscl => s.rangeMscl
  | .cycle => s.rangeCycle
  | .plat => s.rangePlat
  | .stake => s.rangeStake
  | .eng => s.rangeEng (p - 0x20)
  | .pinmux => s.rangePinmux (p - 0x60)
  | .edge => s.rangeEdge (p - 0x69)
  | .book => s.rangeBook
  | .can => s.rangeCan (p - 0x70)
  | .port => s.rangePort p
  | .switch => s.rangeSwitch
  | .fdb => need (s.get pFDB F.FDB.CFG.AGE_TIME != 0) 1 1
  | .hsr => s.rangeHsr
  | .capture => s.rangeCapture
  | .bufmem => s.rangeBufmem
  | .bridge => s.rangeBridge
  | .duplex => s.rangeDuplex
  | .gangctl => s.rangeGang
  | .supply => s.rangeSupply
  | .slot => s.rangeSlot (p - 0xD1)
  | .tally => s.rangeTally
  | .hmon => s.rangeHmon p
  | .hdr => none
  | .sys => none
  | .reset => none
  | .irq => none
  | .crew => none
  | .windows => none
  | .monument => need (decide (s.get pMONUMENT F.MONUMENT.LEN.IN ≤ 512)) 1 4
  | .tamper => none
  | .macsec => none
  | .cal => need (s.get pCAL F.CAL.SECMASK.MASK &&& 0xFC01 == 0) 1 2

/-! Steps 3 and 4. -/

/-- Is a key handle one of a slot that may be used for HMAC (R392)? -/
def State.leaseKeyOk (s : State) : Bool :=
  match s.handleOf (s.get pBRIDGE F.BRIDGE.LEASE.KEY) with
  | some e => s.mayUse e.2 useHMAC
  | none => false

/-- Step 3 of R52: life cycle and Monument (R54, R374, R392, R522). -/
def State.checkLife (s : State) (fam : Fam) (p : Nat) : Verdict :=
  let blank := s.mon.fuse == 1
  let cond := s.get pMONUMENT F.MONUMENT.STS.COND
  match fam with
  | .macsec => firstOf [need (!blank) 0x0A 0xFF, need (cond < 2) 0x08 0xE0]
  | .bridge =>
    let none_ := s.get pBRIDGE F.BRIDGE.LEASE.KEY == 0
    firstOf [need (none_ || !blank) 0x0A 0xFF, need (none_ || s.leaseKeyOk) 0x08 3]
  | .port => need (decide (0x82 ≤ p) || cond == 0 || s.flag pSYS F.SYS.CFG.ALLOW_OPEN) 0x08 0xE0
  | _ => none

/-- Is this hub in a pair by its straps or by the gang's twins (R19, R331, R422)? -/
def State.pairRole (s : State) : Bool :=
  s.role == 1 || s.role == 2 || (s.inGang && (s.isTwin s.member || (s.twinOf s.member).isSome))

/-- Step 4 of R52: straps and roles. -/
def State.checkRole (s : State) (fam : Fam) (p : Nat) : Verdict :=
  match fam with
  | .mscl => need (!(s.flag pMSCL F.MSCL.CFG.RING_EN && s.inGang && !s.onRing) &&
      (s.inGang || !s.flag pMSCL F.MSCL.CFG.GANG_EN)) 0x09 0xFF
  | .plat => needEach (List.range 128) (fun n =>
      if s.inGang then s.feedType n == 0 || s.feedMember n == s.member || s.memPresent (s.feedMember n)
      else s.feedMember n == 0) 0x09 id
  | .book => need (!s.flag pBOOK F.BOOK.CFG.PROT_TWIN || s.role == 1 || s.role == 2 ||
      (s.inGang && (s.twinOf s.member).isSome)) 0x09 0xFF
  | .port => need (if p < 0x82 then s.onRing else if p < 0x84 then s.pairRole
      else if p < 0x87 then s.inGang && s.memFitted ((s.member + (p - 0x84) + 1) % 4) else true) 0x09 0xFF
  | .hsr => need (!s.flag pHSR F.HSR.CFG.RING || s.onRing) 0x09 0xFF
  | .duplex => need s.pairRole 0x09 0xFF
  | .gangctl => need (s.inGang && s.memFitted s.member) 0x09 0xFF
  | .slot => need (!(s.inGang && s.flag p F.SLOT.CFG.AUTO_RETRY)) 0x09 0xFF
  | _ => none

/-! Step 5, the blocks' own checks. -/

/-- Fine-delay trim of an output pin (section 2), sampler trim of a pin (section 3). -/
def State.fineOk (s : State) (p : Nat) : Bool := s.calEntryOk 2 (0x40 + p) 1
def State.samplerOk (s : State) (p : Nat) : Bool := s.calEntryOk 3 (0x140 + p) 1

/-- Line entries of the modes and speeds a port's type can reach (R308, R503 section 4). -/
def portLines (n : Nat) : List Nat := if n < 2 then [0, 1] else if n < 7 then [7] else [1, 2, 3, 4, 5, 6]

/-- Nodes with a parcel. -/
def State.parcels (s : State) : List Nat := nodes.filter (fun k => s.slotLen k != 0)

def State.tvalid (s : State) : Bool := s.flag pDATUM F.DATUM.STS.TVALID

def State.ownMscl (s : State) : Verdict :=
  let ports := (if s.flag pMSCL F.MSCL.CFG.RING_EN then [0, 1] else []) ++
    (if s.flag pMSCL F.MSCL.CFG.GANG_EN then [4, 5, 6] else [])
  firstOf [need (decide (s.get pMSCL F.MSCL.TIMEOUT.TIMEOUT < s.get pMSCL F.MSCL.PERIOD.PERIOD)) 0x05 5,
    needEach ports (fun n => s.flag pSTAMP (stampPort F.STAMP.PCFG.STAMP_EN n)) 0x10 id]

def State.ownCycle (s : State) : Verdict :=
  let ks := s.parcels
  let op := s.get pCYCLE F.CYCLE.PW_OPEN.OPEN
  let en := op + s.get pCYCLE F.CYCLE.PW_LEN.LEN
  let last := (ks.map (fun k => s.slotStart k + s.slotSlen k)).foldl max 0
  firstOf [needApart (ks.map (fun k => (k, s.slotOfs k, s.slotLen k))) 0x07,
    needEach ks (fun k => decide (s.wireOf (s.slotLen k) ≤ s.slotSlen k) && decide (op ≤ s.slotStart k) &&
      decide (s.slotStart k + s.slotSlen k ≤ en)) 0x05 id,
    needApart (ks.map (fun k => (k, s.slotStart k, s.slotSlen k))) 0x07,
    need (decide (2 * s.wireSum ≤ s.get pCYCLE F.CYCLE.CYC_LEN.LEN)) 0x05 0xFF,
    need (decide (last + s.get pCYCLE F.CYCLE.TRANSIT.TRANSIT + s.wireSum ≤ en)) 0x05 0x85,
    need s.tvalid 0x10 0x08]

/-- Feeds in use. -/
def State.feeds (s : State) : List Nat := (List.range 128).filter (fun n => s.feedType n != 0)

/-- MINLEAD (R140). -/
def State.minLead (s : State) : Nat :=
  let fs := s.feeds
  let guard := (fs.filter (fun n => s.feedType n == 1 && guardPage (s.feedSrc n / 1024))).map (fun n => 2 * s.feedLen n)
  2000 + 10 * (fs.map s.feedLen).sum + 2000 * guard.sum +
    (if s.inGang && fs.any (fun n => s.feedMember n != s.member) then 4000 else 0)

def State.ownPlat (s : State) : Verdict :=
  let k := s.nid
  let lead := s.get pPLAT F.PLAT.FREEZE_LEAD.LEAD
  let view := s.get pPLAT F.PLAT.VIEW_AT.AT
  firstOf [needEach s.feeds (fun n => decide (1 ≤ s.feedOfs n) &&
      decide (s.feedOfs n + s.feedLen n ≤ 8 * (s.slotLen k - s.slotOut k))) 0x06 id,
    needApart (s.feeds.map (fun n => (n, s.feedOfs n, s.feedLen n))) 0x07,
    need (s.slotLen k == 0 || (decide (s.minLead ≤ lead) && decide (lead ≤ s.slotStart k))) 0x05 0x82,
    need (!s.flag pPLAT F.PLAT.CFG.VIEW ||
      (decide (s.get pCYCLE F.CYCLE.PW_OPEN.OPEN + s.get pCYCLE F.CYCLE.PW_LEN.LEN ≤ view) &&
       decide (view < s.get pCYCLE F.CYCLE.CYC_LEN.LEN))) 0x05 0x83]

/-- Pins an engine claims, in order. -/
def State.claimPins (s : State) (e : Nat) : List Nat :=
  let l := (s.claimed e).map (winPin (e / 4))
  (List.range 256).filter (fun p => l.contains p)

def State.ownEng (s : State) (e : Nat) : Verdict :=
  firstOf [need (!(s.get (pENG e) F.ENG.CFG.PLAT_MODE == 2 && s.get (pENG e) F.ENG.CFG.JOIN == 2)) 0x10 3,
    needEach (s.claimPins e) s.fineOk 0x0D id,
    need (!s.flag (pCREW (e / 4)) F.CREW.STS.BUSY) 0x11 (pCREW (e / 4))]

/-- Pins of a controller in a function, on a PINMUX page and on the other running ones. -/
def State.canPins (s : State) (q func sel : Nat) : List Nat :=
  (List.range 256).filter (fun p => (p / 64 == q || s.running (muxPage p)) && s.muxFunc p == func && s.selOf p == sel)

/-- The higher pin of the first pair that shares a controller's transmit or receive (R224). -/
def State.canShared (s : State) (q : Nat) : Verdict :=
  (pinsOf q).findSome? (fun p =>
    if s.muxFunc p == 3 || s.muxFunc p == 4 then
      ((s.canPins q (s.muxFunc p) (s.selOf p)).find? (fun r => r != p)).map (fun r => (0x07, max p r))
    else none)

def State.ownPinmux (s : State) (q : Nat) : Verdict :=
  let p := pPINMUX q
  let vsel := fun i => if i = 0 then s.flag p F.PINMUX.BANKCFG.VSEL_LO else s.flag p F.PINMUX.BANKCFG.VSEL_HI
  firstOf [s.canShared q,
    needEach [0, 1] (fun i => natBit (s.get p F.PINMUX.VDDSTS.PRESENT) i &&
      natBit (s.get p F.PINMUX.VDDSTS.SENSE) i == vsel i) 0x10 (fun i => 2 * q + i)]

/-- Bit times of a controller in half-nanoseconds (R281). -/
def State.nomBit (s : State) (n : Nat) : Nat :=
  25 * s.get (pCAN n) F.CAN.NBT.BRP * (1 + s.get (pCAN n) F.CAN.NBT.TSEG1 + s.get (pCAN n) F.CAN.NBT.TSEG2)
def State.dataBit (s : State) (n : Nat) : Nat :=
  25 * s.get (pCAN n) F.CAN.DBT.BRP * (1 + s.get (pCAN n) F.CAN.DBT.TSEG1 + s.get (pCAN n) F.CAN.DBT.TSEG2)

def State.ownCan (s : State) (n : Nat) : Verdict :=
  let fd := s.flag (pCAN n) F.CAN.CFG.FD_EN
  firstOf [need (decide (2000 ≤ s.nomBit n)) 0x10 1,
    need (!fd || inRange 250 (s.nomBit n) (s.dataBit n)) 0x11 2,
    need (!fd || decide (2000 ≤ s.dataBit n) || s.flag (pCAN n) F.CAN.CFG.TDC_EN) 0x12 3,
    need (s.muxPin 3 n).isSome 0x13 0, need (s.muxPin 4 n).isSome 0x13 1,
    need (!s.flag (pCAN n) F.CAN.TMCFG.MASTER || s.tvalid) 0x14 0x08]

/-- Modes a port may use (R308). -/
def portModes (n : Nat) : List Nat := if n < 2 then [0, 1] else if n < 7 then [5] else [1, 2, 3, 4]

/-- The gate list of the active bank closes (R331). -/
def State.gclCloses (s : State) (n : Nat) : Bool :=
  let p := pPORT n
  !s.flag p F.PORT.GCL_CFG.GCL_EN || s.flag p F.PORT.GCL_CFG.SRC ||
    s.gclSum n (s.gclActive n) == s.get p F.PORT.GCL_CYCLE.CYCLE

def State.ownPort (s : State) (n : Nat) : Verdict :=
  let p := pPORT n
  let mode := s.get p F.PORT.CFG.MODE
  firstOf [need ((portModes n).contains mode && (!s.flag p F.PORT.CFG.FALLBACK || (decide (n < 2) && mode == 0))) 0x10 n,
    need (decide (7 ≤ n) || (!s.flag p F.PORT.CFG.TX_PAUSE && !s.flag p F.PORT.CFG.RX_PAUSE)) 0x12 n,
    need (s.gclCloses n) 0x11 (s.gclActive n), need s.pwr.serdes 0x13 n]

/-- Members of station group `g` (R338), by port number. -/
def State.grpMembers (s : State) (g : Nat) : Nat := (s.rd pSWITCH (0x50 + 4 * g)).toNat

def State.ownSwitch (s : State) : Verdict :=
  needEach (List.range 4) (fun g => (s.grpMembers g &&& (2 ^ 32 - 1 - (2 ^ 15 - 1) * 2 ^ 7)) == 0 &&
    (List.range g).all (fun h => (s.grpMembers g &&& s.grpMembers h) == 0)) 0x07 id

/-- The monitor ADC gains and the cost table are valid (R450, R470, R503). A gain stands in a four-byte entry,
so the section decides (DEDUCED, assumption log 56); the cost table is one 16-bit entry a page. -/
def State.adcOk (s : State) : Bool := natBit s.enCal.2 5
def State.costsOk (s : State) : Bool := (List.range 256).all (fun p => s.calEntryOk 8 (0x580 + 2 * p) 2)

/-- L of chapter 14. -/
def State.cycLen (s : State) : Nat := s.get pCYCLE F.CYCLE.CYC_LEN.LEN

def State.ownDuplex (s : State) : Verdict :=
  let at_ := s.get pDUPLEX F.DUPLEX.COPY_AT.AT
  firstOf [need (decide (s.cycLen ≤ at_ + 10000) &&
      decide (at_ + s.get pDUPLEX F.DUPLEX.HB_WIN.WIN + 1000 ≤ s.cycLen)) 0x05 1,
    need (decide (s.recBudget ≤ 65536)) 0x06 3, need (decide (copyTime s.recBudget ≤ s.cycLen)) 0x05 0xFF]

/-- E_FULL with this page running meets the reserves (R470). -/
def State.ownTally (s : State) : Verdict :=
  firstOf [need (s.adcOk && s.costsOk) 0x0D 0xFF, need (decide (s.taMin ≤ s.get pTALLY F.TALLY.TIMES.A_TIME)) 0x05 5,
    need (s.fullOk (pTALLY :: s.runningPages)) 0x0B 0xFF]

/-- Step 5 of R52, but for the energy test. -/
def State.checkOwn (s : State) (fam : Fam) (p : Nat) : Verdict :=
  match fam with
  | .datum => firstOf [needEach (List.range 40) s.tapOk 0x0D id, need (!s.flag pDATUM F.DATUM.STS.REF_FAULT) 0x10 0xFF]
  | .stamp => needEach (List.range 22) (fun n => !s.flag pSTAMP (stampPort F.STAMP.PCFG.STAMP_EN n) ||
      (portLines n).all (s.latOk n)) 0x0D id
  | .mscl => s.ownMscl
  | .cycle => s.ownCycle
  | .plat => s.ownPlat
  | .stake => need s.tvalid 0x10 0x08
  | .crew => needEach ((List.range 16).map (· + 16 * (p - 0x10))) s.fineOk 0x0D id
  | .eng => s.ownEng (p - 0x20)
  | .pinmux => s.ownPinmux (p - 0x60)
  | .edge => needEach ((pinsOf (p - 0x69)).filter (fun i => s.pinCfg i F.EDGE.PIN.EN == 1)) s.samplerOk 0x0D id
  | .can => s.ownCan (p - 0x70)
  | .port => s.ownPort (portOfPage p)
  | .switch => s.ownSwitch
  | .bufmem => need (decide (s.sw.selfFailed.length ≤ 1)) 0x10 0xFF
  | .duplex => s.ownDuplex
  | .gangctl => need (decide (s.get pGANGCTL F.GANGCTL.VOTE.STATE_AT < s.cycLen)) 0x05 3
  | .supply => need s.adcOk 0x0D 0xFF
  | .slot => need (s.calEntryOk 6 (0x550 + 4 * (p - 0xD1)) 2) 0x0D (p - 0xD1)
  | .tally => s.ownTally
  | .monument => need (s.flag pMONUMENT F.MONUMENT.STS.TRNG_OK) 0x10 0xFF
  | _ => none

/-- The test that the tally adds to every other page (R467). -/
def State.checkEnergy (s : State) (p : Nat) : Verdict :=
  need (p == pTALLY || !s.running pTALLY || (!s.planOn && s.fullOk (p :: s.runningPages))) 0x0B pTALLY

/-! Step 6. -/

/-- EAST and WEST on a hub on the ring. -/
def State.ringPages (s : State) : List Nat := if s.onRing then [pPORT 0, pPORT 1] else []
def State.gangPage (s : State) : List Nat := if s.inGang then [pGANGCTL] else []

/-- PINMUX pages of pins, in page order. -/
def muxPages (l : List Nat) : List Nat := ((List.range 4).filter (fun q => l.any (fun p => p / 64 == q))).map pPINMUX

/-- The pins a controller is assigned. -/
def State.canAssigned (s : State) (n : Nat) : List Nat := (s.muxPin 3 n).toList ++ (s.muxPin 4 n).toList

/-- The page that produces a monitor's samples (R502). -/
def State.hmonPage (s : State) (p : Nat) : List Nat :=
  let a := s.get p F.HMON.CFG.ARG
  match s.get p F.HMON.CFG.SRC with
  | 1 => [pSTAMP]
  | 2 => [pSTAKE]
  | 3 => [pENG a]
  | 4 => [pPORT (a / 8)]
  | 5 => [pPLAT]
  | 6 => [pMSCL]
  | 7 => [pSUPPLY]
  | 8 => [pDATUM]
  | _ => []

/-- The family of a page. -/
def famOf (p : Nat) : Option Fam := (runOf p).map (fun r => r.fam)

/-- The pages on which a page depends while it runs (R59, R62), in the order in which its check tests them; BOOK depends
on DATUM only (R558). -/
def State.depsOf (s : State) (p : Nat) : List Nat :=
  match famOf p with
  | some .stamp => [pDATUM]
  | some .mscl => [pDATUM, pSTAMP]
  | some .cycle => [pDATUM]
  | some .plat => [pDATUM, pSTAMP, pCYCLE] ++ s.ringPages
  | some .stake => [pDATUM, pSTAMP] ++ s.ringPages ++ s.gangPage
  | some .crew => [pDATUM]
  | some .eng => pCREW ((p - 0x20) / 4) :: muxPages (s.claimPins (p - 0x20))
  | some .edge => [pDATUM, pBOOK]
  | some .book => [pDATUM]
  | some .can => pDATUM :: muxPages (s.canAssigned (p - 0x70))
  | some .port => [pDATUM]
  | some .switch => [pDATUM, pBUFMEM, pFDB]
  | some .hsr => [pSWITCH]
  | some .capture => [pSWITCH]
  | some .macsec => [pMONUMENT]
  | some .bridge => [pDATUM]
  | some .windows => [pBRIDGE]
  | some .duplex => [pDATUM, pCYCLE, pPORT 2, pPORT 3] ++ s.gangPage
  | some .gangctl => [pDATUM, pSTAMP, pCYCLE] ++ s.others.map (fun k => pPORT (gangPort s.member k))
  | some .slot => [pSUPPLY]
  | some .tally => [pSUPPLY]
  | some .hmon => s.hmonPage p
  | _ => []

/-- Step 6 of R52: dependencies and shared resources. -/
def State.checkClaims (s : State) (fam : Fam) (p : Nat) : Verdict :=
  match fam with
  | .eng =>
    let e := p - 0x20
    let ps := s.claimPins e
    let others := (List.range 64).filter (fun x => x != e)
    firstOf [s.needPages (s.depsOf p), needEach ps (fun i => s.funcOf i == 1 && s.selOf i == e / 4) 0x03 muxPage,
      ps.findSome? (fun i => (others.find? (fun x => s.holdsPin x i)).map (fun x => (0x03, pENG x)))]
  | .book => firstOf [s.needPages ([pDATUM] ++ (if s.flag pBOOK F.BOOK.DMA_CTL.DMA_EN then [pBRIDGE] else [])),
      need (!s.flag pBOOK F.BOOK.RING_CTL.RING_EN || s.running (pPORT 0) || s.running (pPORT 1)) 0x04 (pPORT 0)]
  | _ => s.needPages (s.depsOf p)

/-- The enable check of a page (R52): its first failure, none where it accepts. -/
def State.checkPage (s : State) (p : Nat) : Verdict :=
  match runOf p with
  | none => none
  | some r => firstOf [s.checkReserved r.fam p, s.checkRange r.fam p, s.checkLife r.fam p, s.checkRole r.fam p,
      s.checkOwn r.fam p, s.checkEnergy p, s.checkClaims r.fam p]

/-- The lowest-indexed running page that depends on a page (R59). -/
def State.dependant (s : State) (p : Nat) : Option Nat :=
  allPages.find? (fun q => q != p && s.running q && (s.depsOf q).contains p)

end Sys2Proof.Machine
end

