-- ==== Sys2Proof/Machine/Hmon.lean ====
section
/-!
DEFINITION. The histogram monitors (R498–R502).
-/

namespace Sys2Proof.Machine

/-- Where a sample falls: below LO, in a bin, or at or above the close of the last bin (R499). -/
inductive HBin where
  | under
  | bin (i : Nat)
  | over
deriving DecidableEq, Repr

/-- The close of bin `i` above LO (R499). -/
def binClose (log : Bool) (w i : Nat) : Nat := if log then w * 2 ^ i else (i + 1) * w

/-- The place of a sample (R499). -/
def hmonBin (log : Bool) (lo : Int) (w : Nat) (v : Int) : HBin :=
  if v < lo then .under
  else match (List.range 32).find? (fun i => decide (v < lo + binClose log w i)) with
    | some i => .bin i
    | none => .over

/-- Count in a saturating field; bit 9 of PEVT is set as it saturates (R502). -/
def State.hmonCount (s : State) (p : Nat) (f : Fld) : State :=
  let s1 := s.bumpSat p f
  if s.get p f + 1 = 2 ^ 32 - 1 then s1.event p 9 else s1

/-- A sample enters the live set of a monitor (R499, R502). -/
def State.hmonTake (s : State) (m : Nat) (v : Int) : State :=
  let p := pHMON m
  let s1 := s.bump p F.HMON.COUNT.COUNT
  let s2 := s1.set p F.HMON.SUM.SUM (ofSigned (s1.getS p F.HMON.SUM.SUM + v) 64)
  let s3 := s2.set p F.HMON.MIN.MIN (satSigned (min (s2.getS p F.HMON.MIN.MIN) v) 32)
  let s4 := s3.set p F.HMON.MAX.MAX (satSigned (max (s3.getS p F.HMON.MAX.MAX) v) 32)
  match hmonBin (s.flag p F.HMON.CFG.MODE) (s.getS p F.HMON.LO.LO) (s.get p F.HMON.W.W) v with
  | .under => s4.hmonCount p F.HMON.UNDER.COUNT
  | .over => s4.hmonCount p F.HMON.OVER.COUNT
  | .bin i => s4.hmonCount p (F.HMON.BIN.COUNT.at (4 * i))

/-- The words of the live set. -/
def State.hmonLive (s : State) (p : Nat) : List Word := (List.range 40).map (fun i => s.rd p (0x80 + 4 * i))
def State.hmonPut (s : State) (p : Nat) (l : List Word) : State :=
  (List.range 40).foldl (fun st i => st.wr p (0x80 + 4 * i) (nth l i 0)) s

/-- A monitor's samples of this cycle and its live set before them are remembered, for a copy in the same cycle (R500). -/
def State.hmonNote (s : State) (m : Nat) (v : Int) : State :=
  let l := if s.sets.clk = s.clock then s.sets else
    { clk := s.clock, bits := [], aerr := none, stamp := none, hmon := [], counts := [] }
  let e := match l.hmon.find? (fun x => x.1 == m) with
    | some x => (m, x.2.1, x.2.2 ++ [v])
    | none => (m, s.hmonLive (pHMON m), [v])
  { s with sets := { l with hmon := e :: l.hmon.filter (fun x => x.1 != m) } }

/-- A sample of a monitor. -/
def State.hmonSample (s : State) (m : Nat) (v : Int) : State :=
  if !s.running (pHMON m) || s.held (pHMON m) || s.get (pHMON m) F.HMON.CFG.SRC == 0 then s
  else (s.hmonNote m v).hmonTake m v

/-- The live set at its reset values (R500). -/
def State.hmonZero (s : State) (p : Nat) : State :=
  (List.range 40).foldl (fun st i => st.wr p (0x80 + 4 * i) (regDefault (regKey p (0x80 + 4 * i)))) s

/-- Copy one monitor's live set to its snapshot set (R500). -/
def State.hmonMove (s : State) (clear : Bool) (p : Nat) : State :=
  let s1 := (List.range 40).foldl (fun st i => st.wr p (0x180 + 4 * i) (st.rd p (0x80 + 4 * i))) s
  let s2 := (s1.set p F.HMON.SNAP_T.T s1.now).event p 8
  if clear then s2.hmonZero p else s2

/-- The copy of one monitor; samples of the same cycle are counted after it (R500). -/
def State.hmonCopy (s : State) (clear : Bool) (m : Nat) : State :=
  match (if s.sets.clk = s.clock then s.sets.hmon.find? (fun x => x.1 == m) else none) with
  | none => s.hmonMove clear (pHMON m)
  | some x =>
    let s1 := (s.hmonPut (pHMON m) x.2.1).hmonMove clear (pHMON m)
    let s2 := { s1 with sets := { s1.sets with hmon := s1.sets.hmon.filter (fun y => y.1 != m) } }
    x.2.2.foldl (fun st v => (st.hmonNote m v).hmonTake m v) s2

/-- A write of 1 to CTL.SNAP (R500): this monitor, and with ALL every running one; CLEAR zeroes each set copied
(assumption log 13). -/
def State.hmonSnap (s : State) (m : Nat) (clear all : Bool) : State :=
  let s1 := (s.setB (pHMON m) F.HMON.CTL.CLEAR clear).setB (pHMON m) F.HMON.CTL.ALL all
  ((List.range 8).filter (fun k => k == m || (all && s.running (pHMON k)))).foldl (fun st k => st.hmonCopy clear k) s1

def execHmonSample (clk mon : Nat) (value : Int) (s : State) : Host.Outcome State Fault Refusal :=
  .next (if mon < 8 then (s.advance clk).hmonSample mon value else s.advance clk)

def execHmonSnap (clk mon : Nat) (clear all : Bool) (s : State) : Host.Outcome State Fault Refusal :=
  .next (if mon < 8 then
    (s.advance clk).regWrite (pHMON mon) 0x50 7 (1 + 2 * bit clear + 4 * bit all) .host (fun t => t.hmonSnap mon clear all)
  else s.advance clk)

end Sys2Proof.Machine
end

