-- ==== Sys2Proof/Machine/Lease.lean ====
section
/-!
DEFINITION. The lease of a node as it begins and ends (R390), the reads of the host's transmit ring (R388), and what
becomes of the bridge's outstanding accesses when the page stops or is cleared (R392).
-/

namespace Sys2Proof.Machine

/-- A grant: the holder and the end of the lease (R389, R390). -/
def State.leaseGrant (s : State) (node member : Nat) : State :=
  let s1 := ((s.set pBRIDGE F.BRIDGE.MGRSTS.HELD 1).set pBRIDGE F.BRIDGE.MGRSTS.NODE node).set pBRIDGE
    F.BRIDGE.MGRSTS.MEMBER member
  { s1.event pBRIDGE 13 with bridge := { s1.bridge with
      leaseEnd := some (s1.clock + 2000000000 * s1.get pBRIDGE F.BRIDGE.LEASE.LEASE_S) } }

/-- The lease ends (R390). -/
def State.leaseOver (s : State) : State :=
  if s.flag pBRIDGE F.BRIDGE.MGRSTS.HELD then
    let s1 := (s.wr pBRIDGE 0x50 0).event pBRIDGE 13
    { s1 with bridge := { s1.bridge with leaseEnd := none, nextChallenge := none } }
  else s

/-- Does a hub hold this node's lease (R382, R390)? -/
def State.holdsLease (s : State) (node member : Nat) : Bool :=
  s.flag pBRIDGE F.BRIDGE.MGRSTS.HELD && s.get pBRIDGE F.BRIDGE.MGRSTS.NODE == node &&
    s.get pBRIDGE F.BRIDGE.MGRSTS.MEMBER == member

/-- The next slot of the host's transmit ring is read, if one is ready, by read requests of 512 bytes (R375, R388): one slot at a time,
which is the 8 reads of R383 (DESIGN CHOICE, assumption log 100). -/
def State.txFetchOne (s : State) : State :=
  let next := (s.get pBRIDGE F.BRIDGE.TX_HEAD.SLOT + s.bridge.txReads.length) % 2 ^ 32
  if s.bridge.txReads.isEmpty && next != s.get pBRIDGE F.BRIDGE.TX_TAIL.SLOT then
    let slot := next % 2 ^ s.get pBRIDGE F.BRIDGE.TX_CTL.SIZE
    let a := s.get pBRIDGE F.BRIDGE.TX_BASE.ADDR + 4096 * slot
    let s1 := (List.range 8).foldl (fun st i => st.postRh (.readReq (a + 512 * i) 512)) s
    { s1 with bridge := { s1.bridge with txReads := s1.bridge.txReads ++ [next] } }
  else s

/-- Transmit slots are read in order while TX_EN is set, the link is up and the bridge is not held (R388, R392). -/
def State.txFetch (s : State) : State :=
  if s.running pBRIDGE && s.flag pBRIDGE F.BRIDGE.CFG.TX_EN && s.bridge.linkUp && !s.held pBRIDGE then
    s.txFetchOne
  else s

/-- EN = 0: outstanding host reads complete with all ones, and the lease ends; the log keeps its contents (R392). -/
def State.bridgeOff (s : State) : State :=
  let s0 := s.bridge.reads.foldl (fun st r => st.post (.completion r.tag (List.replicate r.len 0xFF))) s
  let s1 := (s.bridge.blocked.filter (fun r => r.isRead)).foldl (fun st r =>
    st.post (.completion r.tag (List.replicate r.len 0xFF))) s0
  State.leaseOver { s1 with bridge := { s1.bridge with
    outstanding := [], reads := [], cut := [], blocked := [], challenges := [], mgrOf := [], gather := [], txReads := [] } }

/-- CLR: the log empties with the registers; sequence numbers towards other nodes go on (R392). -/
def State.bridgeClr (s : State) : State :=
  { s with bridge := { s.bridge with llog := [], issuers := [], rxSlot := 0 } }

end Sys2Proof.Machine
end

