-- ==== Sys2Proof/Machine/Mscl.lean ====
section
/-!
DEFINITION. Misclosure (chapter 4): probes and their forwarding, closure samples, declared steps, attribution and
correction, the gang triangles, and what a change of a port's link means for closure.
-/

namespace Sys2Proof.Machine

/-! Loops. Loop 4 is the ring; loops 0–3 are the triangles of R123. -/

/-- Members of a triangle in forward order (R123). -/
def triMembers (t : Nat) : List Nat :=
  if t = 0 then [0, 1, 2] else if t = 1 then [0, 1, 3] else if t = 2 then [0, 2, 3] else [1, 2, 3]

/-- The member after `m` in a cyclic order of three. -/
def nextIn : List Nat → Nat → Nat
  | [a, b, c], m => if m = a then b else if m = b then c else a
  | _, m => m

/-- The member that a probe of triangle `t` goes to from member `m`. -/
def triNext (t m : Nat) (rev : Bool) : Nat := nextIn (if rev then (triMembers t).reverse else triMembers t) m

/-- Fitted members of a gang (R424). -/
def State.fitted (s : State) (m : Nat) : Bool := natBit (s.get pGANGCTL F.GANGCTL.CFG.MEMBERS) m

/-- The loops this hub probes (R113, R123). -/
def State.ownLoops (s : State) : List Nat :=
  ((List.range 4).filter (fun t => s.flag pMSCL F.MSCL.CFG.GANG_EN && (triMembers t).contains s.member &&
    (triMembers t).all s.fitted)) ++ (if s.flag pMSCL F.MSCL.CFG.RING_EN && s.onRing then [4] else [])

/-- The port a probe of a loop leaves by, and the one its opposite direction leaves by, which is where it returns. -/
def State.loopPort (s : State) (l : Nat) (rev : Bool) : Nat :=
  if l = 4 then bit rev else gangPort s.member (triNext l s.member rev)

/-- Loop state. -/
def loopDefault (_ : Nat) : Loop := Loop.init
def State.loop (s : State) (l : Nat) : Loop := tabGet loopDefault s.mscl.loops l
def State.setLoop (s : State) (l : Nat) (v : Loop) : State :=
  { s with mscl := { s.mscl with loops := tabPut loopDefault s.mscl.loops l v } }

/-- The peer-delay reference of a port. -/
def pdDefault (_ : Nat) : Nat := 0
def State.pdRef (s : State) (p : Nat) : Nat := tabGet pdDefault s.mscl.pdRef p
def State.pdelay (s : State) (p : Nat) : Nat := s.get pSTAMP (F.STAMP.PDELAY.PDELAY.at (0x20 * p))

/-- Take the current PDELAY as the reference of ports (R115, R118), and drop their pending steps. -/
def State.refPorts (s : State) (ps : List Nat) : State :=
  { s with mscl := { s.mscl with
    pdRef := ps.foldl (fun m p => tabPut pdDefault m p (s.pdelay p)) s.mscl.pdRef,
    pdPend := s.mscl.pdPend.filter (fun d => !ps.contains d.port) } }

/-- Ports of a loop at this hub. -/
def State.loopPorts (s : State) (l : Nat) : List Nat := [s.loopPort l false, s.loopPort l true]

/-- STS bits that follow from the state (R124). -/
def State.msclSts (s : State) : State :=
  let s1 := s.setB pMSCL F.MSCL.STS.STEP_PEND (s.mscl.loops.any (fun l => l.2.pend.isSome))
  let s2 := s1.setB pMSCL F.MSCL.STS.PD_PEND (s.mscl.pdPend != [])
  s2.setB pMSCL F.MSCL.STS.GCLOSED (s.get pMSCL F.MSCL.TRISTS.VALID != 0)

/-- Is closure available on a loop? -/
def State.loopClosed (s : State) (l : Nat) : Bool :=
  if l = 4 then s.flag pMSCL F.MSCL.STS.CLOSED else natBit (s.get pMSCL F.MSCL.TRISTS.VALID) l

/-- Store CLOSED or the VALID bit of a triangle. -/
def State.setClosed (s : State) (l : Nat) (b : Bool) : State :=
  if l = 4 then s.setB pMSCL F.MSCL.STS.CLOSED b else s.setB pMSCL (⟨F.MSCL.TRISTS.VALID.off, l, 1⟩) b

/-- Closure becomes unavailable on a loop for a cause (R121). Where several cases hold at once OPEN_CAUSE is that of the last
of them to occur (DESIGN CHOICE, assumption log 35). -/
def State.openLoop (s : State) (l cause : Nat) : State :=
  let v := s.loop l
  let was := s.loopClosed l
  let s1 := (s.setLoop l { v with samples := [], learning := true, again := v.again || was, cand := [], pend := none }).setClosed
    l false
  let s2 := if l = 4 then s1.set pMSCL F.MSCL.STS.OPEN_CAUSE cause else s1
  let s3 := { s2 with mscl := { s2.mscl with pdPend := s2.mscl.pdPend.filter (fun d => !(s.loopPorts l).contains d.port) } }
  (if was then s3.event pMSCL 10 else s3).msclSts

/-- The mean of a list in 1/16 hns. The spec gives no rounding: the floor or the next value, free (assumption log 2). -/
def State.meanOf (s : State) (l : List Int) : State × Int :=
  let q := l.sum / (l.length : Int)
  if l.sum % (l.length : Int) = 0 then (s, q) else (s.nextFree, q + s.freeVal 1)

/-- A MISCLOSURE_SHIFT record and its registers (R120). -/
def State.shiftRec (s : State) (reason : Nat) (mesh : Bool) (port : Option Nat) (delta pd : Int) : State :=
  let fl := bit (reason == 0) + 2 * bit mesh + 4 * reason
  let s1 := s.note 0x71 fl (port.getD 0xFFFF) (data2 (ofSigned delta 32) (ofSigned pd 32))
  let s2 := ((s1.set pMSCL F.MSCL.LAST.PORT (port.getD 0x1F)).set pMSCL F.MSCL.LAST.FLAGS fl)
  let s3 := (s2.set pMSCL F.MSCL.LAST_DELTA.DELTA (ofSigned delta 32)).set pMSCL F.MSCL.LAST_MEAN.MEAN (ofSigned pd 32)
  if reason = 0 then (s3.bumpSat pMSCL F.MSCL.ATTR.APPLIED).event pMSCL 8
  else (s3.bumpSat pMSCL F.MSCL.ATTR.FLAGGED).event pMSCL 9

/-- CREF of a loop and, for the ring, its register. -/
def State.setCref (s : State) (l : Nat) (c : Int) : State :=
  let s1 := s.setLoop l { s.loop l with cref := c, cand := [], pend := none }
  if l = 4 then s1.set pMSCL F.MSCL.CREF.CREF (ofSigned c 32) else s1

/-- Resolution of a loop's closure step: CREF becomes the mean of the confirming samples (R118). -/
def State.adopt (s : State) (l : Nat) : State :=
  match (s.loop l).pend with
  | some p => s.setCref l p.mean
  | none => s

/-- Half of a step in 1/16 hns, rounded to whole hns, ties to even (R119). -/
def halfStep (delta : Int) : Int :=
  let q := delta / 32
  let r := delta % 32
  if r < 16 then q else if r > 16 then q + 1 else if q % 2 = 0 then q else q + 1

/-- The correction of R119 on port `p`: added where the forward direction comes in at it, else subtracted. -/
def State.correct (s : State) (p : Nat) (fwdIn : Bool) (delta : Int) : State :=
  let f := F.STAMP.ASYM_LRN.ASYM_LRN.at (0x20 * p)
  (s.corrKeep p (s.corrNow p)).set pSTAMP f (ofSigned (s.getS pSTAMP f + (if fwdIn then halfStep delta else -halfStep delta)) 32)

/-- Does the forward direction of a loop come in at port `p`? -/
def State.fwdIn (s : State) (l p : Nat) : Bool := p == s.loopPort l true

/-- Loops of this hub that contain the link at port `p`. -/
def State.loopsAt (s : State) (p : Nat) : List Nat := s.ownLoops.filter (fun l => (s.loopPorts l).contains p)

/-- COINC_WIN in hns. -/
def State.coincWin (s : State) : Nat := 2000000 * s.get pMSCL F.MSCL.COINC.COINC_WIN

/-- Are the steps of the loops at a link equal within STEP_TH once the traversal sign is applied (R123)? -/
def State.equalSteps (s : State) (p : Nat) (ls : List Nat) : Bool :=
  let ds := ls.filterMap (fun l => (s.loop l).pend.map (fun st => if s.fwdIn l p then st.delta else -st.delta))
  ds.all (fun a => ds.all (fun b => decide ((a - b).natAbs ≤ 16 * s.get pMSCL F.MSCL.TH.STEP_TH)))

/-- The peer-delay references of ports `ps` and of the other ports of loops `ls` become current (R118), but for other ports that
have a step of their own pending. -/
def State.refLoops (s : State) (ls ps : List Nat) : State :=
  let other := fun q => !ps.contains q && s.mscl.pdPend.any (fun d => d.port == q)
  s.refPorts (ps ++ (ls.flatMap s.loopPorts).filter (fun q => !other q))

/-- A resolution is complete: each loop takes its new CREF, and the references of its ports become current (R118). -/
def State.settleLoops (s : State) (ls ps : List Nat) : State := (ls.foldl State.adopt s).refLoops ls ps

/-- Cases 1 and 2 of R118 on port `p`, or case 3 where the attribution does not hold. The record of case 3 names no port
(DESIGN CHOICE, assumption log 36). -/
def State.attribute (s : State) (l : Nat) (st : StepPend) (pd : PdPend) (clear : Bool) : State :=
  let p := pd.port
  let ls := s.loopsAt p
  let mesh := l != 4
  let s1 :=
    if !clear then s.shiftRec 3 mesh none st.delta pd.delta
    else if 32 * s.get pMSCL F.MSCL.COINC.MAX_CORR < st.delta.natAbs then s.shiftRec 4 mesh (some p) st.delta pd.delta
    else if s.flag pMSCL F.MSCL.CFG.AUTO then
      (s.correct p (s.fwdIn l p) st.delta).shiftRec 0 mesh (some p) st.delta pd.delta
    else s.shiftRec 1 mesh (some p) st.delta pd.delta
  s1.settleLoops ls [p]

/-- Peer-delay steps on the ports of a loop that were declared within one coincidence window with its closure step (R118). -/
def State.coincident (s : State) (l : Nat) (st : StepPend) : List PdPend :=
  s.mscl.pdPend.filter (fun d => (s.loopPorts l).contains d.port &&
    decide (st.decl < d.decl + s.coincWin) && decide (d.decl < st.decl + s.coincWin))

/-- Case 3 of R118: steps on both local ports of a loop, or a closure step that cannot be attributed. Of two peer-delay steps
the record carries the one declared first (DESIGN CHOICE, assumption log 37). -/
def State.ambiguous (s : State) (l : Nat) (st : StepPend) (ds : List PdPend) : State :=
  (s.shiftRec 3 (l != 4) none st.delta ((ds.head?.map (·.delta)).getD 0)).settleLoops [l] (ds.map (·.port))

/-- Resolve a loop's pending step when an own forward probe has returned (R118, R123). -/
def State.resolve (s : State) (l : Nat) : State :=
  match (s.loop l).pend, (s.loop l).lastFwd with
  | some st, some (r, claims) =>
    match s.coincident l st with
    | [] =>
      if st.decl ≤ r ∧ r < st.decl + s.coincWin ∧ 1 ≤ claims then (s.settleLoops [l] []).msclSts else s
    | [pd] =>
      let ls := s.loopsAt pd.port
      let later := ls.foldl (fun m k => match (s.loop k).pend with | some q => max m q.decl | none => m) (max st.decl pd.decl)
      let ready := ls.all (fun k => (s.loop k).pend.isSome &&
        (match (s.loop k).lastFwd with | some q => decide (later ≤ q.1) | none => false))
      if claims ≠ 1 ∧ later ≤ r then (s.attribute l st pd false).msclSts
      else if !ready then s
      else (s.attribute l st pd (ls.all (fun k => match (s.loop k).lastFwd with | some q => q.2 == 1 | none => false) &&
        s.equalSteps pd.port ls)).msclSts
    | ds =>
      let hi := ds.foldl (fun m d => max m d.decl) st.decl
      if hi ≤ r then (s.ambiguous l st ds).msclSts else s
  | _, _ => s

/-- End of learning (R115, R122). -/
def State.learned (s : State) (l : Nat) (c : Int) : State :=
  let v := s.loop l
  let s1 := if v.again && decide (16 * s.get pMSCL F.MSCL.TH.STEP_TH < (c - v.cref).natAbs) then
      s.shiftRec 5 (l != 4) none (c - v.cref) 0 else s
  let s2 := ((s1.setCref l c).refPorts (s.loopPorts l)).setClosed l true
  let s3 := s2.setLoop l { s2.loop l with learning := false, again := true }
  (if l = 4 then s3.set pMSCL F.MSCL.STS.OPEN_CAUSE 0 else s3).event pMSCL 11

/-- A sample against CREF (R116): CONFIRM consecutive samples beyond STEP_TH declare a step. -/
def State.judge (s : State) (l : Nat) (c : Int) (decl : Nat) : State :=
  let v := s.loop l
  if v.pend.isSome then s
  else if (c - v.cref).natAbs ≤ 16 * s.get pMSCL F.MSCL.TH.STEP_TH then s.setLoop l { v with cand := [] }
  else
    let cand := v.cand ++ [c]
    if cand.length < s.get pMSCL F.MSCL.CFG.CONFIRM then s.setLoop l { v with cand := cand }
    else
      let m := s.meanOf cand
      m.1.setLoop l { v with cand := [], pend := some { delta := m.2 - v.cref, mean := m.2, decl := decl } }

/-- TRANSIT_OVR of R153. -/
def State.transitCheck (s : State) : State :=
  if s.flag pMSCL F.MSCL.STS.CLOSED ∧ s.get pCYCLE F.CYCLE.TRANSIT.TRANSIT <
      max (s.get pMSCL F.MSCL.LOOP_E.D_E / 16) (s.get pMSCL F.MSCL.LOOP_W.D_W / 16) then s.event pCYCLE 12
  else s

/-- A closure sample (R114): D_E and D_W in 1/16 hns, ASYM_SUM difference, HOPS, and the later return stamp in hns. SAMPLES
counts those of the triangles too (DESIGN CHOICE, assumption log 38). STS.HOPS, LOOP_E and LOOP_W follow a round that yields
a sample, and no other (DESIGN CHOICE, assumption log 93). -/
def State.sample (s : State) (l dE dW : Nat) (asym : Int) (hops decl : Nat) : State :=
  let v := s.loop l
  let c : Int := (dE : Int) - dW
  let n := 2 ^ s.get pMSCL F.MSCL.CFG.FILT
  let kept := (v.samples ++ [c]).drop ((v.samples.length + 1) - n)
  let s1 := s.setLoop l { v with samples := kept, misses := 0 }
  let s2 := if l = 4 then
      ((((s1.set pMSCL F.MSCL.LOOP_E.D_E dE).set pMSCL F.MSCL.LOOP_W.D_W dW).set pMSCL F.MSCL.STS.HOPS (hops + 1)).bump pMSCL
        F.MSCL.SAMPLES.COUNT)
    else s1.bump pMSCL F.MSCL.SAMPLES.COUNT
  if kept.length < n then (if l = 4 then s2.set pMSCL F.MSCL.STS.OPEN_CAUSE 5 else s2)
  else
    let m := s2.meanOf kept
    let s3 := if l = 4 then
        (m.1.set pMSCL F.MSCL.CLOSURE.CLOSURE (ofSigned m.2 32)).set pMSCL F.MSCL.RESID.RESID (ofSigned (m.2 - asym) 32)
      else m.1.set pMSCL (F.MSCL.TRI.CLOSURE.at (4 * l)) (ofSigned m.2 32)
    (if v.learning then s3.learned l m.2 else s3.judge l c decl).transitCheck

/-- A round without a sample on a loop: MISS_N in a row make closure unavailable (R121). -/
def State.missed (s : State) (l : Nat) : State :=
  let v := s.loop l
  let s1 := s.setLoop l { v with misses := v.misses + 1 }
  if v.misses + 1 = s.get pMSCL F.MSCL.CFG.MISS_N then s1.openLoop l 3 else s1

/-- Both probes of a loop have returned: a sample, or a failed round (R114, R121). -/
def State.closeRound (s : State) (l : Nat) (a b : Probe) : State :=
  match a.tx, a.ret, b.tx, b.ret with
  | some (ta, sa), some ra, some (tb, sb), some rb =>
    if s.held pMSCL then s
    else if ra.hops ≠ rb.hops then ((s.bumpSat pMSCL F.MSCL.LOST.DISCARDED).missed l).openLoop l 4
    else if ra.invalid ∨ rb.invalid ∨ min sa sb ≠ max ra.steps rb.steps then (s.bumpSat pMSCL F.MSCL.LOST.DISCARDED).missed l
    else ((s.sample l (ra.stamp16 - ta - ra.residence) (rb.stamp16 - tb - rb.residence) (ra.asym - rb.asym) ra.hops
      (max ra.stamp16 rb.stamp16 / 16)).resolve l).msclSts
  | _, _, _, _ => s

/-! Rounds. -/

/-- PH of R113. -/
def State.roundPhase (s : State) : Nat :=
  (s.nid * 4 + s.member) * 2000 % (2000 * s.get pMSCL F.MSCL.PERIOD.PERIOD)

/-- The 48-byte body of a fresh probe and its frame (R111). The spec names no destination address: a free value. -/
def State.probeFrame (s : State) (rev mesh : Bool) : Frame :=
  s.spanen (s.freeVal 48) 4 (bit rev + 2 * bit mesh) s.hdrCycle (beBytes 4 s.mscl.round)
    (beBytes 2 (s.pwr.serial % 2 ^ 16) ++ List.replicate 30 0) none

/-- Send one probe of a loop (R113, R123). -/
def State.sendProbe (s : State) (l : Nat) (rev : Bool) : State :=
  let f := s.probeFrame rev (l != 4)
  let p : Probe := { loop := l, rev := rev, buf := s.sw.nextBuf, tx := none, ret := none }
  let s1 := { s with mscl := { s.mscl with probes := s.mscl.probes ++ [p] } }
  s1.nextFree.sendCopies [s.loopPort l rev] f none none

/-- A round starts (R113), or the page reaches its hold point there (R127). -/
def State.roundStart (s : State) : State :=
  if !s.running pMSCL || s.held pMSCL then s
  else
    let t := nextCongruent (max s.mscl.next s.now) s.roundPhase (2000 * s.get pMSCL F.MSCL.PERIOD.PERIOD)
    let s1 := s.advanceT t
    if s1.holdAsked pMSCL then s1.set pMSCL F.HDR.PSTS.HELD 1 else
    let s2 := { s1 with mscl := { s1.mscl with
      round := (s1.mscl.round + 1) % 2 ^ 32, start := t, probes := [], next := t + 1, member := s1.member } }
    s2.ownLoops.foldl (fun st l => (st.sendProbe l false).sendProbe l true) s2

/-- The end of the time in which the probes of a round return (R114). -/
def State.probeLimit (s : State) : Nat := s.mscl.start + 2000 * s.get pMSCL F.MSCL.TIMEOUT.TIMEOUT

/-- The time in which a PROBE frame is received whole once its stamping point has passed, on the ports where this hub's own
return: its 72 bytes. -/
def State.probeTail (s : State) (ps : List Nat) : Nat := ps.foldl (fun m p => max m (s.byteTime p 72 + 1)) 0

/-- TIMEOUT passes (R114): LOST counts the round, and each loop with a probe missing yields no sample. The round is judged when
a probe whose stamping point lies before the limit has been received whole, its 72 bytes later. -/
def State.probeTimeout (s : State) : State :=
  let out := s.mscl.probes.filter (fun p => p.ret.isNone)
  if out = [] then s
  else
    let wait := s.probeTail (out.map (fun p => s.loopPort p.loop (!p.rev)))
    let s1 := s.advance (s.clockOf s.probeLimit + wait)
    let s2 := { s1 with mscl := { s1.mscl with probes := [] } }
    if s2.held pMSCL then s2
    else
      ((out.map (·.loop)).dedup.foldl State.missed ((s2.bumpSat pMSCL F.MSCL.LOST.LOST).event pMSCL 12)).msclSts

/-! Reception. -/

/-- Is a probe this hub's own (R112)? Its member bits are the hub's now, or those with which it left before a takeover
(R122). -/
def State.ownProbe (s : State) (f : Frame) : Bool :=
  ofBE (slice f.body 16 2) == s.pwr.serial % 2 ^ 16 && srcNode f == s.nid &&
    (srcMember f == s.member || srcMember f == s.mscl.member)

/-- Does this hub claim on a probe received at port `n` (R117): forward, and not at EAST? -/
def State.claimsOn (s : State) (n : Nat) (f : Frame) : Bool :=
  hdr f 1 % 2 == 0 && s.mscl.pdPend.any (fun d => d.port == n) && n != 0

/-- The fields of a received probe with the terms of the port at which its stamping point passed at RAW `raw`: ASYM_SUM and
CLAIMS (R86, R112, R117). -/
def State.probeTerms (s : State) (n raw : Nat) (f : Frame) : Frame :=
  let a := (s.corrAt n raw).asym
  let f1 := probePut f prAsym (beBytes 8 (ofSigned (toSigned (ofBE (slice f.body prAsym 8)) 64 + 16 * a) 64))
  if s.claimsOn n f then probePut f1 prClaims (beBytes 1 (min 255 (hdr f1 prClaims + 1))) else f1

/-- The sum of the steps made after RAW `raw`, in 2^-40 hns, under a fold and the older ones. -/
def stepsAfter (raw : Nat) : Fold → List Fold → Int
  | _, [] => 0
  | f, g :: t => if f.baseRaw ≤ raw then 0 else (f.baseT : Int) - g.fix f.baseRaw + stepsAfter raw g t

/-- Has a probe stamped at RAW `raw`, at `t16` sixteenths, missed the limit? The limit stands in the ring time of now, the stamp in
that before the steps made since (R114). -/
def State.probeLate (s : State) (raw t16 : Nat) : Bool :=
  decide ((16 * s.probeLimit : Int) ≤ t16 + 16 * (stepsAfter raw s.datum.fold s.datum.older / 2 ^ 40))

/-- The hub's own probe returns at port `n` (R112, R114); one stamped at the limit or after it has not returned in time. -/
def State.probeReturn (s : State) (l n rxRaw : Nat) (f : Frame) : State :=
  let rx16 := (s.rxBare n rxRaw).toNat
  let rev := hdr f 1 % 2 == 1
  let r : ProbeRet := {
    stamp16 := rx16, residence := ofBE (slice f.body prRes 8), hops := hdr f prHops, claims := hdr f prClaims,
    asym := toSigned (ofBE (slice f.body prAsym 8)) 64, invalid := natBit (hdr f 1) 2 || !(s.corrAt n rxRaw).on,
    steps := s.stepsAt rxRaw }
  if !s.running pMSCL || ofBE (slice f.body 12 4) != s.mscl.round || s.probeLate rxRaw rx16 ||
      !s.mscl.probes.any (fun p => p.loop == l && p.rev == rev && p.ret.isNone) then s
  else
    let ps := s.mscl.probes.map (fun p => if p.loop = l ∧ p.rev = rev then { p with ret := some r } else p)
    let s1 := { s with mscl := { s.mscl with probes := ps } }
    let s2 := if rev then s1 else (s1.setLoop l { s1.loop l with lastFwd := some (rx16 / 16, r.claims) }).resolve l
    match ps.find? (fun p => p.loop == l && !p.rev), ps.find? (fun p => p.loop == l && p.rev) with
    | some a, some b => s2.closeRound l a b
    | _, _ => s2

/-- A PROBE frame is received on ring or gang port `n` with its stamping point at RAW `rxRaw` (R112). A probe of the
gang mesh belongs to triangle `tri`, which the frame does not carry (assumption log 14). -/
def State.probeRx (s0 : State) (n rxRaw tri : Nat) (rd : TxRead) (f : Frame) : State :=
  let rev := hdr f 1 % 2 == 1
  let l := if n < 2 then 4 else tri % 4
  let out := if n < 2 then 1 - n else gangPort s0.member (triNext l s0.member rev)
  if !s0.isSpanen f || kindOf f != 4 || !(decide (n < 2) || (decide (4 ≤ n) && decide (n ≤ 6))) || !spanenCrcOk f 32 ||
      !s0.running (pPORT n) then s0
  else
    let s := s0.stampsDue.foldMark rxRaw
    if s.ownProbe f then s.probeReturn l n rxRaw (s.probeTerms n rxRaw f)
    else if hdr f prHops = 254 ∨ !s.linkUp out then s
    else
      let f1 := s.probeTerms n rxRaw f
      let f2 := probePut f1 prHops (beBytes 1 (hdr f1 prHops + 1))
      let f3 := if (s.corrAt n rxRaw).on then
          probePut f2 prRes (beBytes 8 ((ofBE (slice f2.body prRes 8) + 2 ^ 64 - (s.rxBare n rxRaw).toNat) % 2 ^ 64))
        else probePut f2 1 (beBytes 1 (hdr f2 1 ||| 4))
      if !s.running pSWITCH || s.noRoom n f then s
      else s.forwardAll n (s.rxAge n rxRaw (s.rxStamp n rxRaw) f) (s.ctRaw n rxRaw f) rd f3 [(out, f3)]

/-! Peer delay, windows and links. -/

/-- A write to PDELAY (R116). -/
def State.pdelayWrite (s : State) (p : Nat) (v : Word) : State :=
  let s1 := s.set pSTAMP (F.STAMP.PDELAY.PDELAY.at (0x20 * p)) v.toNat
  let d : Int := (v.toNat : Int) - s.pdRef p
  if !s1.running pMSCL || s1.held pMSCL || !(s1.loopsAt p).any s1.loopClosed then s1
  else match s1.mscl.pdPend.find? (fun x => x.port == p) with
    | some _ => { s1 with mscl := { s1.mscl with
        pdPend := s1.mscl.pdPend.map (fun x => if x.port = p then { x with delta := d } else x) } }
    | none =>
      if d.natAbs < 16 * s1.get pMSCL F.MSCL.TH.PD_TH then s1
      else
        let e : PdPend := { port := p, delta := d, decl := s1.now }
        ({ s1 with mscl := { s1.mscl with pdPend := s1.mscl.pdPend ++ [e] } }).msclSts

/-- Loops whose step stands alone in its window, and peer-delay steps that stand alone in theirs. -/
def State.aloneLoops (s : State) : List (Nat × StepPend) :=
  s.ownLoops.filterMap (fun l => match (s.loop l).pend with
    | some st => if s.coincident l st = [] then some (l, st) else none
    | none => none)
def State.alonePds (s : State) : List PdPend :=
  s.mscl.pdPend.filter (fun d => !(s.loopsAt d.port).any (fun l => match (s.loop l).pend with
    | some st => (s.coincident l st).contains d
    | none => false))

/-- Triangles whose step meets a peer-delay step on a link of which not every triangle shows a closure step, so that R123 allows
no attribution: the loop, its step, and the peer-delay step. -/
def State.unshared (s : State) : List (Nat × StepPend × PdPend) :=
  s.ownLoops.flatMap (fun l => match (s.loop l).pend with
    | some st => (s.coincident l st).filterMap (fun d =>
        if (s.loopsAt d.port).all (fun k => (s.loop k).pend.isSome) then none else some (l, st, d))
    | none => [])

/-- A coincidence window closes: with a step that stands alone (R118, cases 5 and 6), or with one on a gang link that R123 does
not attribute (case 3). It is judged when an own probe whose stamping point lies inside has been received whole (R6). -/
def State.coincClose (s : State) : State :=
  let ds := (s.aloneLoops.map (fun l => l.2.decl)) ++ (s.alonePds.map (fun d => d.decl)) ++
    (s.unshared.map (fun x => min x.2.1.decl x.2.2.decl))
  if ds = [] then s
  else
    let t := minOf ds + s.coincWin
    let s1 := s.advance (s.clockOf t + s.probeTail (s.ownLoops.map (fun l => s.loopPort l true)))
    let s2 := s1.aloneLoops.foldl (fun st l => if l.2.decl + st.coincWin ≤ t then
      (st.shiftRec 2 (l.1 != 4) none l.2.delta 0).settleLoops [l.1] [] else st) s1
    let s3 := s2.alonePds.foldl (fun st d => if d.decl + st.coincWin ≤ t then st.refLoops (st.loopsAt d.port) [d.port] else st) s2
    (s3.unshared.foldl (fun st x => if (st.loop x.1).pend.isSome && decide (min x.2.1.decl x.2.2.decl + st.coincWin ≤ t) then
      st.ambiguous x.1 x.2.1 [x.2.2] else st) s3).msclSts

/-- A port's link has gone down or come up while MSCL runs: closure of its loops is unavailable, and learning starts when it
comes up (R121). `was` says whether the link was up before; where nothing changed nothing follows. -/
def State.msclLink (s : State) (n : Nat) (was up : Bool) : State :=
  if !s.running pMSCL || s.linkUp n == was then s
  else (s.loopsAt n).foldl (fun st l => st.openLoop l (if up && (st.loopPorts l).all st.linkUp then 5 else 2)) s

/-- Accepted enable of MSCL: learning starts (R115). -/
def State.msclOn (s : State) : State :=
  let s1 := { s with mscl := { s.mscl with probes := [], loops := [], pdPend := [], next := s.now } }
  let cause := if !s1.ownLoops.contains 4 then 1 else if s1.linkUp 0 && s1.linkUp 1 then 5 else 2
  ((s1.set pMSCL F.MSCL.STS.OPEN_CAUSE cause).set pMSCL F.MSCL.TRISTS.VALID 0).set pMSCL F.MSCL.STS.CLOSED 0 |>.msclSts

/-- Stop of MSCL (R127): pending steps are dropped without a record. -/
def State.msclOff (s : State) : State :=
  let s1 := { s with mscl := { s.mscl with probes := [], loops := [], pdPend := [] } }
  (((s1.set pMSCL F.MSCL.STS.OPEN_CAUSE 1).set pMSCL F.MSCL.TRISTS.VALID 0).set pMSCL F.MSCL.STS.CLOSED 0).msclSts

/-! Commands. -/

def execMsclRoundStart (s : State) : Host.Outcome State Fault Refusal := .next s.roundStart

def execProbeRx (clk port hdrClk tri : Nat) (pr : ProbeIn) (s : State) : Host.Outcome State Fault Refusal :=
  .next ((s.advance clk).probeRx port (hdrClk - s.datum.rawOrg) tri pr.rd pr.fr)

def execMsclProbeTimeout (s : State) : Host.Outcome State Fault Refusal := .next s.probeTimeout

def execCoincWindowClose (s : State) : Host.Outcome State Fault Refusal := .next s.coincClose

def execPdelayWrite (clk port : Nat) (value : Word) (s : State) : Host.Outcome State Fault Refusal :=
  .next (if port < 22 then
    (s.advance clk).regWrite pSTAMP (F.STAMP.PDELAY.PDELAY.at (0x20 * port)).off (2 ^ 32 - 1) value.toNat .host
      (fun t => t.pdelayWrite port value)
  else s.advance clk)

/-- R310, R325, R121: the link is declared down, once its loss has lasted for LDN_DB. -/
def execLinkDown (clk port : Nat) (s : State) : Host.Outcome State Fault Refusal :=
  .next (if port < 22 && (s.advance clk).debounced port ((s.advance clk).get (pPORT port) F.PORT.LINKT.LDN_DB) then
    (((s.advance clk).linkDownNow port).msclLink port (s.linkUp port) false).syncDrains else s.advance clk)

/-- R310, R311, R89, R121: the link is declared up, once lock has held for LUP_DB. -/
def execLinkUp (clk port speed : Nat) (s : State) : Host.Outcome State Fault Refusal :=
  .next (if port < 22 && (s.advance clk).debounced port ((s.advance clk).get (pPORT port) F.PORT.LINKT.LUP_DB) then
    (((s.advance clk).linkUpNow port speed).msclLink port (s.linkUp port) true).syncDrains else s.advance clk)

end Sys2Proof.Machine
end

