-- ==== Sys2Proof/Machine/PageOn.lean ====
section
/-!
DEFINITION. What an accepted enable, a stop and a CLR do to each block beyond its header (R59–R62 and the chapters), and
where each block's hold point lies (R60).
-/

namespace Sys2Proof.Machine

/-- What the lines of the frame ports have carried away up to now, as a page shows it: frames that have passed their stamping points or their
ends (R86, R327). -/
def State.linesSent (s : State) (p : Nat) : State :=
  match famOf p with
  | some .port => s.stampsDue.settle (portOfPage p)
  | some .stamp => s.stampsDue
  | some .capture => s.stampsDue
  | _ => s

/-- What an access to a page finds: what the lines have carried away, and on a port's page what PCS loopback returned (R329). -/
def State.linesNow (s : State) (p : Nat) : State :=
  if famOf p = some .port then (s.linesSent p).loopIn (portOfPage p) else s.linesSent p

/-! The traverse cycle and the plat. -/

/-- R322 at each accepted enable, and at a stop, of CYCLE. -/
def State.gclMatchAll (s : State) : State := (List.range 22).foldl State.gclMatch s

/-- Accepted enable of CYCLE (R133, R134, R150, R322): the hub waits for the next boundary. -/
def State.cycleOn (s : State) : State :=
  let s1 := ((s.set pCYCLE F.CYCLE.SCHED_DIG.DIGEST s.schedDigest).set pCYCLE F.CYCLE.WIRE.WIRE s.wireSum).set pCYCLE
    F.CYCLE.STS.PUBLISH 1
  State.gclMatchAll { s1 with cycle := { s1.cycle with started := false, doneEv := [], votes := [] } }

def State.cycleOff (s : State) : State :=
  State.gclMatchAll { s with cycle := { s.cycle with started := false, doneEv := [], votes := [] } }

/-- Accepted enable of PLAT (R148, R523): its boundaries are counted from here, and an event of this cycle whose moment
has passed is not performed. -/
def State.platOn (s : State) : State :=
  let gone := [0, 1, 3].filter (fun e => s.cycle.started && decide (s.cycT s.cycle.cyc + s.evOfs e ≤ s.now))
  { s with plat := { s.plat with bounds := 0, prevTf := s.now, own := none, left := [], rx := [], gangFeeds := [] }
           cycle := { s.cycle with doneEv := s.cycle.doneEv ++ gone.filter (fun e => !s.cycle.doneEv.contains e) } }

/-- EN = 0 of PLAT: reception and publication stop, and queued own frames are discarded (R159). -/
def State.platOff (s : State) : State :=
  let s1 := s.dropOwn
  { s1 with plat := { s1.plat with own := none, left := [], rx := [], gangFeeds := [] } }

/-- CLR of PLAT: both buffers, the selectors and the staging store are 0 (R159). -/
def State.platClr (s : State) : State :=
  { s with mem := s.mem.filter (fun c => decide (0x80000 ≤ c.1)), plat := { s.plat with sel := [], staging := [], bounds := 0 } }

/-! Pins. -/

/-- Accepted enable of PINMUX: software-level pins take their levels (R190, R223). -/
def State.pinmuxOn (s : State) (q : Nat) : State :=
  ((pinsOf q).foldl (fun st p => if st.funcOf p == 5 then st.setPin p { st.pin p with outT := st.now } else st) s).ballsNow
    (pinsOf q)

/-! Ports. -/

/-- Accepted enable of a port: training starts in the mode of R311, and its gates follow the list (R318, R332). In PCS
loopback the link reads up (R329); at which speed SGMII then runs with auto-negotiation is not stated: free. -/
def State.portOn (s : State) (n : Nat) : State :=
  let s1 := (s.setPort n { PortSt.init with
    mode := s.get (pPORT n) F.PORT.CFG.MODE, since := s.clock, swapAfter := (s.port n).swapAfter,
    fbAt := s.clock + 2000000 * s.get (pPORT n) F.PORT.FBT.FBT }).set (pPORT n) F.PORT.STS.LMODE
      (s.get (pPORT n) F.PORT.CFG.MODE)
  let s2 := s1.gclMatch n
  let s3 := if s2.gclRuns n then
      let e := s2.gatesAt n s2.now
      s2.setPort n { s2.port n with entry := e.2.2, gates := e.1 }
    else s2
  if s3.looped n then (s3.nextFree.linkUpNow n (s3.freeVal 32 % 3)).msclLink n (s3.linkUp n) true else s3

/-- A port stops: the link reads down without a declared link-down, and every queued frame counts in FLUSHED (R332). -/
def State.portOff (s : State) (n : Nat) : State :=
  let p := pPORT n
  let s1 := ((s.settle n).cutOff n).flushCopies n
  let s2 := (((s1.set p F.PORT.STS.LINK 0).leadLink).set p F.PORT.STS.RX_PAUSED 0).set p F.PORT.STS.TX_PAUSING 0
  let s3 := ((s2.set p F.PORT.STS.FALLEN_BACK 0).set p F.PORT.STS.HOLDING 0).set p F.PORT.GCL_CFG.SWAP 0
  let s4 := s3.latClear n
  (s4.setPort n PortSt.init).msclLink n (s.linkUp n) false

/-! Switch, keys, buffer. -/

/-- Every installed key is cleared, and installs under way end (R374). -/
def State.keysOff (s : State) : State :=
  let s1 := (List.range 88).foldl (fun st i =>
    let f := (msf F.MACSEC.SA_KEY.VALID (i / 4)).at (16 * (i % 4))
    if st.flag pMACSEC f then st.set pMACSEC f 0 else st) s
  { s1 with sw := { s1.sw with sa := [], installs := [], txAn := [] } }

/-- A single bank that failed the self-test starts with its FAILED bit set (R372). -/
def State.bufOn (s : State) : State :=
  let s1 := { s with sw := { s.sw with scrubAt := s.clock } }
  s1.set pBUFMEM F.BUFMEM.STS.FAILED (s1.get pBUFMEM F.BUFMEM.STS.FAILED ||| (s1.sw.selfFailed.map (fun k => 2 ^ k)).sum)

/-- CLR of CAPTURE: the ring is cleared with the sequences (R370). -/
def State.captureClr (s : State) : State :=
  { s with mem := s.mem.filter (fun c => decide (c.1 < 0x2000000) || decide (0x2040000 ≤ c.1)) }

/-! Accepted enables. -/

/-- What an accepted enable starts. -/
def State.blockOn (s : State) (p : Nat) : State :=
  match famOf p with
  | some .datum => s.datumOn
  | some .mscl => s.msclOn
  | some .cycle => s.cycleOn
  | some .plat => s.platOn
  | some .stake => s.stakeOn
  | some .eng => s.engOn (p - 0x20)
  | some .pinmux => s.pinmuxOn (p - 0x60)
  | some .book => if s.book.everOn then s.bookOn else s.bookOn.tamperReplay
  | some .edge => s.edgeOn (p - 0x69)
  | some .can => s.canOn (p - 0x70)
  | some .port => s.portOn (portOfPage p)
  | some .bufmem => s.bufOn
  | some .bridge => s.txFetch
  | some .stamp => s.stampLoad
  | some .duplex => s.dupOn
  | some .gangctl => s.gangOn
  | some .supply => s.supplyOn
  | some .slot => s.slotEnable (p - 0xD1)
  | some .tally => s.tallyOn
  | _ => s

/-! Stops. -/

/-- What a stop does to the block and its shared resources; `keep` where an engine's claims stay (R221). -/
def State.blockOff (s : State) (p : Nat) (keep : Bool) : State :=
  match famOf p with
  | some .datum => s.datumOff
  | some .mscl => s.msclOff
  | some .cycle => s.cycleOff
  | some .plat => s.platOff
  | some .stake => s.stakeOff
  | some .eng => s.engOff (p - 0x20) keep
  | some .pinmux => s.releasePins (pinsOf (p - 0x60))
  | some .book => s.bookOff
  | some .edge => s.edgeOff (p - 0x69)
  | some .can => s.canOff (p - 0x70)
  | some .port => s.portOff (portOfPage p)
  | some .macsec => s.keysOff
  | some .bridge => s.bridgeOff
  | some .gangctl => s.gangOff
  | some .slot => s.slotStop (p - 0xD1)
  | some .tally => s.tallyOff
  | _ => s

/-- The tally recomputes its costs at each accepted enable and stop (R457). -/
def State.recost (s : State) : State := if s.running pTALLY then s.tallyCosts else s

/-- RUN falls and the block stops; the pins follow where shadow ends with it (R192). -/
def State.pageOff (s0 : State) (p : Nat) : State :=
  let s := if famOf p = some .stamp then s0.stampStop else s0
  ((((s.stopRun p).blockOff p false).recost).shadowSync s).drainsOf p

/-! Block reset. -/

/-- The bits that a CLR leaves: what the chapter keeps, and what shows a condition outside the page's registers (R105,
R222, R372, R395, R495, R497, R508). -/
def clrKeep (fam : Fam) (off : Nat) : Nat :=
  match fam with
  | .datum => if off = 0x40 then 1 else 0
  | .pinmux => if off = 0x44 then 15 else 0
  | .bufmem => if off = 0x4C then 0x1FF else 0
  | .duplex => if off = 0x50 then 15 else 0
  | .supply => if off = 0x88 then 2 ^ 32 - 1 else 0
  | .monument => if off = 0x44 then 13 else 0
  | .tamper => 2 ^ 32 - 1
  | .cal => if off = 0x54 ∨ off = 0x58 then 2 ^ 32 - 1 else 0
  | _ => 0

/-- The register word at key `k` as a block reset of its page leaves it (R62): PCTL keeps LOCK and its reserved bits, PSTS,
PEVT, PEVM and PDIG are as after POR, and a block register returns to its POR value but for the bits that CLR keeps. -/
def clrWord (fam : Fam) (k : Nat) (w : Word) : Word :=
  let off := k % 4096
  if off = 0 ∨ off = 0x18 then w
  else if off = 4 then w &&& 0xFFFFFFF8
  else if off < 0x40 then regDefault k
  else (w &&& w32 (clrKeep fam off)) ||| (regDefault k &&& ~~~w32 (clrKeep fam off))

/-- The entry of a register after a block reset of page `p`; none where it is at its POR value. -/
def clrEntry (fam : Fam) (p : Nat) (e : Nat × Word) : Option (Nat × Word) :=
  if e.1 / 4096 ≠ p then some e
  else if clrWord fam e.1 e.2 = regDefault e.1 then none else some (e.1, clrWord fam e.1 e.2)

/-- Every register of a page as a block reset leaves it (R62). -/
def State.clearRegs (s : State) (fam : Fam) (p : Nat) : State :=
  { s with regs := s.regs.filterMap (clrEntry fam p), latch := s.latch.filter (fun e => e.1 / 4096 != p) }

/-- The Monument's operation stops, and its data registers and result clear with the page (R495). -/
def State.monumentClr (s : State) : State := { s with mon := { s.mon with op := none } }

/-- What a block reset does beyond the registers; `o` is the state before them. -/
def State.blockClr (s o : State) (p : Nat) : State :=
  match famOf p with
  | some .datum => s.datumClr o
  | some .stamp => { s with stamps := [] }
  | some .plat => s.platClr
  | some .stake => s.stakeClr
  | some .crew => s.crewClr (p - 0x10)
  | some .eng => s.engClr (p - 0x20)
  | some .book => s.bookClr o.wrSeq
  | some .can => s.canClr (p - 0x70)
  | some .port => s.setPort (portOfPage p) PortSt.init
  | some .fdb => { s with sw := { s.sw with fdb := [] } }
  | some .hsr => { s with sw := { s.sw with hsr := [] } }
  | some .capture => s.captureClr
  | some .macsec => s.keysOff
  | some .bufmem => { s with sw := { s.sw with bankErr := [], rebuild := none } }
  | some .bridge => s.bridgeClr
  | some .duplex => s.dupClr
  | some .gangctl =>
    (State.shadowSync { s with gang := { GangSt.init with timeSeq := s.gang.timeSeq } } o).set pGANGCTL F.GANGCTL.CMPMAP.MAP 0
  | some .pinmux => s.ballsNow (pinsOf (p - 0x60))
  | some .supply => s.supplyClr (o.rd pSUPPLY 0x58) (o.rd pSUPPLY 0x88)
  | some .slot => s.slotClr (p - 0xD1) (o.flag p F.SLOT.STS.PRESENT)
  | some .tally => s.tallyClr (o.rd pTALLY 0x94) (o.rd pTALLY 0x98) (o.rd pTALLY 0x9C)
  | some .monument => s.monumentClr
  | some .hmon => s.hmonZero p
  | some .cal => { s with cal := { s.cal with staging := [], unlock := none } }
  | _ => s

/-- The block reset is complete (R62). -/
def State.pageClr (s : State) (p : Nat) : State :=
  match runOf p with
  | none => s
  | some r => (s.clearRegs r.fam p).blockClr s p

/-! Hold points. -/

/-- Does a block have a hold point (R60)? -/
def hasHold (fam : Fam) : Bool :=
  match fam with
  | .mscl => true
  | .plat => true
  | .stake => true
  | .crew => true
  | .eng => true
  | .book => true
  | .can => true
  | .port => true
  | .fdb => true
  | .capture => true
  | .macsec => true
  | .bridge => true
  | .slot => true
  | .tally => true
  | .monument => true
  | .hmon => true
  | _ => false

/-- Is a hold asked of a page: its own HOLD, or its crew's (R60, R216)? -/
def State.holdSet (s : State) (p : Nat) : Bool :=
  if famOf p = some .eng then s.engHold (p - 0x20) else s.flag p F.HDR.PCTL.HOLD

/-- Is the block at its hold point (R60 and the chapters)? PLAT on a hub that makes freezes reaches its own at the freeze,
and MSCL at the start of a round. -/
def State.atHold (s : State) (p : Nat) : Bool :=
  match famOf p with
  | some .mscl => nextCongruent (max s.mscl.next s.now) s.roundPhase (2000 * s.get pMSCL F.MSCL.PERIOD.PERIOD) == s.now
  | some .plat => s.slotLen s.nid == 0
  | some .eng => s.engAtHold (p - 0x20)
  | some .crew => (s.runEngs (p - 0x10)).all (fun k => s.engAtHold (4 * (p - 0x10) + k))
  | some .can => s.canAtHold (p - 0x70)
  | some .port => (s.port (portOfPage p)).leaving.isNone && decide ((s.port (portOfPage p)).gapEnd ≤ s.now)
  | some .macsec => (List.range 7).all (fun n => !s.protected n || (s.port n).leaving.isNone)
  | some .tally => !s.flag pTALLY F.TALLY.STS.LEARNING
  | some .monument => !s.flag pMONUMENT F.MONUMENT.STS.BUSY
  | _ => true

/-- HELD rises; a crew's engines are held with it (R216). -/
def State.setHeld (s : State) (p : Nat) : State :=
  if famOf p = some .crew then
    (s.runEngs (p - 0x10)).foldl (fun st k => st.set (pENG (4 * (p - 0x10) + k)) F.HDR.PSTS.HELD 1)
      (s.set p F.HDR.PSTS.HELD 1)
  else s.set p F.HDR.PSTS.HELD 1

/-- The block reaches its hold point (R60). -/
def State.heldReached (s0 : State) (p : Nat) : State :=
  let s := if famOf p = some .port then s0.settle (portOfPage p)
    else if famOf p = some .macsec then (List.range 7).foldl State.settle s0 else s0
  match runOf p with
  | none => s
  | some r => if hasHold r.fam && s.running p && s.holdSet p && !s.flag p F.HDR.PSTS.HELD && s.atHold p then s.setHeld p else s

/-- HOLD is cleared: the block goes on, and HELD falls (R60). -/
def State.unhold (s : State) (p : Nat) : State :=
  match famOf p with
  | some .eng => s.engUnhold (p - 0x20)
  | some .crew =>
    let c := p - 0x10
    let s1 := (s.set p F.HDR.PCTL.HOLD 0).set p F.HDR.PSTS.HELD 0
    ((List.range 4).filter (fun k => !s1.flag (pENG (4 * c + k)) F.HDR.PCTL.HOLD)).foldl
      (fun st k => st.engUnhold (4 * c + k)) s1
  | some .slot => ((s.set p F.HDR.PCTL.HOLD 0).set p F.HDR.PSTS.HELD 0).slotKick (p - 0xD1)
  | some .bridge => ((s.set p F.HDR.PCTL.HOLD 0).set p F.HDR.PSTS.HELD 0).txFetch
  | _ => (s.set p F.HDR.PCTL.HOLD 0).set p F.HDR.PSTS.HELD 0

end Sys2Proof.Machine
end

