-- ==== Sys2Proof/Machine/Power.lean ====
section
/-!
DEFINITION. Power states and their requests, the battery domain and the guard-die POR, the die-to-die link and its event
lines (R21–R24, R37–R45, R429, R509).
-/

namespace Sys2Proof.Machine

/-! Requests (R38–R42). -/

/-- Pages whose running blocks Watch (R38), lowest first. -/
def watchBlockers : List Nat :=
  [pSTAKE] ++ (List.range 16).map pCREW ++ (List.range 64).map pENG ++ (List.range 16).map pCAN ++
    (List.range 18).map (fun i => pPORT (i + 4)) ++ [pDUPLEX, pGANGCTL]

/-- A transition starts. -/
def State.pstateBegin (s : State) (p : Power) : State :=
  { s.set pSYS F.SYS.PSTATE.BUSY 1 with pwr := { s.pwr with target := some p } }

/-- A request for Watch in Run (R38). Where the role is not single and a block runs too, the role is the reason given
(DESIGN CHOICE, assumption log 29). -/
def State.askWatch (s : State) : State :=
  if s.role ≠ 0 then s.pstateReject 2 0
  else match watchBlockers.find? s.running with
    | some p => s.pstateReject 1 p
    | none => s.pstateBegin .watch

/-- A request is acted on: a REQ value that differs from CUR (R41). A reserved value is rejected as such before the plan and
the blocking pages are looked at (DESIGN CHOICE, assumption log 29). -/
def State.pstateAct (s : State) (req : Nat) : State :=
  if req = s.get pSYS F.SYS.PSTATE.CUR then s
  else if req = 3 then s.pstateReject 3 0
  else if s.planOn then s.pstateReject 4 0
  else if req = 2 then s.powerDown true
  else if req = 1 then s.askWatch
  else s.pstateBegin .run

/-- A request waits (R41). -/
def State.pstateStore (s : State) (req : Nat) : State := { s with pwr := { s.pwr with stored := some req } }

/-- A write of REQ: acted on now, or stored while BUSY (R41). -/
def State.pstateReq (s : State) (req : Nat) : State :=
  let s1 := s.set pSYS F.SYS.PSTATE.REQ req
  if s1.flag pSYS F.SYS.PSTATE.BUSY then s1.pstateStore req else s1.pstateAct req

/-- A hub in Watch publishes no parcel (R39): what was frozen for publication is discarded. -/
def State.dropParcel (s : State) : State := if s.plat.own.isSome then s.dropOwn else s

/-- A transition completes, and the last stored request is acted on (R37, R41). A stored request for Keep waits for the end
of a plan under way (R40). -/
def State.pstateDone (s : State) : State :=
  match s.pwr.target with
  | none => s
  | some p =>
    let s1 := (s.set pSYS F.SYS.PSTATE.BUSY 0).set pSYS F.SYS.PSTATE.CUR (if p = .watch then 1 else 0)
    let s2 := { s1 with pwr := { s1.pwr with power := p, target := none, stored := none } }
    let s3 := if p = .watch then s2.dropParcel else s2
    match s.pwr.stored with
    | some r => if r = 2 ∧ s3.planOn = true then s3.pstateStore 2 else s3.pstateAct r
    | none => s3

/-- A request as firmware writes it. -/
def State.reqWrite (s : State) (req : Nat) : State := s.fldWrite pSYS F.SYS.PSTATE.REQ req (fun t => t.pstateReq req)

/-! Battery domain and guard die. -/

/-- VBAT appears with no other supply: the battery domain starts (R37, R44). -/
def State.batteryStart (s : State) : State :=
  if s.pwr.power = .noSupply then
    { s with pwr := { s.pwr with power := .battery, keepMain := true, keepAny := false },
             mon := { s.mon with rtc := 0, rtcAt := s.clock } }
  else s

/-- Registers that a guard-die POR keeps: those of other dies, and what the battery domain holds (R496, R524). -/
def guardKept (k : Nat) : Bool :=
  !guardPage (k / 4096) || k == regKey pTAMPER 0x40 || k == regKey pTAMPER 0x44 || k == regKey pTAMPER 0x48 ||
    k == regKey pTAMPER 0x4C

/-- Guard-die POR: VGIN becomes valid, the guard die starts, makes the checks of R474 and enters Keep (R45, R509, R524,
R529). The inputs found valid stay valid, and the FETs follow them. -/
def State.guardPor (s : State) : State :=
  if s.pwr.power = .noSupply ∨ s.pwr.power = .battery then
    let cond := s.get pMONUMENT F.MONUMENT.STS.COND
    let s0 := s.batteryStart
    let sup := { SupplySt.init with sinceA := s.supply.sinceA, sinceB := s.supply.sinceB, phase := .off, porStart := true }
    let s1 := { s0 with
      regs := s0.regs.filter (fun e => guardKept e.1),
      supply := sup, slots := [], tally := TallySt.init,
      pwr := { s0.pwr with power := .keep, dieLink := true } }
    let s2 := ((s1.set pMONUMENT F.MONUMENT.STS.COND cond).set pRESET F.RESET.CORE_RESETS.COUNT 0).cause 1
    let s3 := (s2.setB pSUPPLY F.SUPPLY.STS.A_VALID s.supply.sinceA.isSome).setB pSUPPLY F.SUPPLY.STS.B_VALID
      s.supply.sinceB.isSome
    (if s3.fetSet = 0 then s3 else s3.setFet s3.fetSet).monPor
  else s

/-- The guard die loses its supply: whatever runs on either die ends, and the battery domain goes on (R37, R429). Whether a
TRANSITION under way has programmed its fuse is free. -/
def State.guardLost (s : State) : State :=
  if s.guardOn then
    let s1 := s.coreHold
    let s2 := (s1.opOver (natBit (s1.freeVal 1) 0)).nextFree
    { s2 with
      supply := { s2.supply with sinceA := none, sinceB := none, phase := .off },
      pwr := { s2.pwr with power := .battery },
      page := PageSt.init }
  else s

/-! The die-to-die link and the event lines (R23, R24). -/

/-- A transfer fails its fourth attempt, or the link loses training (R24). -/
def State.dieFail (s : State) : State :=
  if s.coreOn && s.pwr.dieLink then
    let s1 := { s with pwr := { s.pwr with dieLink := false } }
    let r : Rec := { guardRec 0x31 3 s1.member (List.replicate 8 0) with t := s1.now }
    let s2 := (s1.blockFault pSYS).stage .mgt r
    s2.declareFault 1
  else s

/-- Two CLK_GUARD cycles in half-nanoseconds (R23). -/
def lineGap : Nat := 200

/-- Does the core die still take an edge of a line: it runs, or, on line 5, a rail fault was detected within the last microsecond, in which
its reset may not yet hold (R435)? -/
def State.lineLive (s : State) (l : Nat) : Bool :=
  if l = lineRail then (match s.supply.rfAt with
    | some t => decide (s.clock + 1000 * msHns ≤ t + usHns)
    | none => false)
  else s.coreOn

/-- The stamp of an edge of line 5: the T of the detection, and the time since. -/
def State.railStamp (s : State) (r : Rec) : Nat := ofLE (r.data.take 8) + (s.clock - r.t)

/-- The guard die toggles a line for the events it detected on one edge (R23). -/
def State.lineToggle (s : State) (l : Nat) : State :=
  let e := s.line l
  let free : Bool := match e.last with
    | some t => decide (t + lineGap ≤ s.clock)
    | none => true
  match e.waiting with
  | [] => s
  | r :: _ =>
    if s.lineLive l && free && e.toggled.isEmpty then
      let now : EvLine := { e with last := some s.clock, toggled := e.waiting.filter (fun x => x.t == r.t) }
      s.setLine l { now with waiting := e.waiting.filter (fun x => x.t != r.t) }
    else s

/-- The record of an event with the stamp of its line edge; with the link down its body is null and flag bit 7 set (R24).
SOURCE and the other flags are then 0 too, and each event of the edge still has its record (DESIGN CHOICE, assumption
log 28). -/
def State.lineRec (s : State) (t : Nat) (r : Rec) : Rec :=
  if s.pwr.dieLink then { r with t := t }
  else { t := t, kind := r.kind, flags := 0x80, source := 0, data := List.replicate 8 0 }

/-- The core die stamps an edge of a line, and the records of its events follow (R23); line 5 has no record, its stamp goes to RFT, and a
loss that started a plan leaves its T in LAST_LOSS (R461). -/
def State.lineCapture (s : State) (l : Nat) : State :=
  let e := s.line l
  if s.lineLive l && !e.toggled.isEmpty then
    let t := s.now
    let s1 := s.setLine l { e with toggled := [] }
    let s2 := if l = lineRail then s1.set pSUPPLY F.SUPPLY.RFT.T ((e.toggled.head?.map s.railStamp).getD 0)
      else e.toggled.foldl (fun st r => st.stage .guard (st.lineRec t r)) s1
    if l = lineMain && s2.planOn && e.toggled.any (fun r => natBit r.flags 0) then
      s2.set pTALLY F.TALLY.LAST_LOSS.T t
    else s2
  else s

/-! Commands. -/

def execVbatApplied (clk : Nat) (s : State) : Host.Outcome State Fault Refusal := .next (s.advance clk).batteryStart

def execGuardPor (clk : Nat) (s : State) : Host.Outcome State Fault Refusal := .next (s.advance clk).guardPor

def execGuardUnsupplied (clk : Nat) (s : State) : Host.Outcome State Fault Refusal := .next (s.advance clk).guardLost

def execPstateReqRun (clk : Nat) (s : State) : Host.Outcome State Fault Refusal := .next ((s.advance clk).reqWrite 0)

def execPstateReqWatch (clk : Nat) (s : State) : Host.Outcome State Fault Refusal := .next ((s.advance clk).reqWrite 1)

def execPstateReqKeep (clk : Nat) (s : State) : Host.Outcome State Fault Refusal := .next ((s.advance clk).reqWrite 2)

def execPstateReqReserved (clk : Nat) (s : State) : Host.Outcome State Fault Refusal := .next ((s.advance clk).reqWrite 3)

def execPstateTransitionDone (clk : Nat) (s : State) : Host.Outcome State Fault Refusal := .next (s.advance clk).pstateDone

def execDieLinkFail (clk : Nat) (s : State) : Host.Outcome State Fault Refusal := .next (s.advance clk).dieFail

def execDieLinkTrained (clk : Nat) (s : State) : Host.Outcome State Fault Refusal :=
  .next { s.advance clk with pwr := { s.pwr with dieLink := true } }

def execGuardEventLineToggle (clk line : Nat) (s : State) : Host.Outcome State Fault Refusal :=
  .next ((s.advance clk).lineToggle line)

def execGuardEventLineCapture (clk line : Nat) (s : State) : Host.Outcome State Fault Refusal :=
  .next ((s.advance clk).lineCapture line)

end Sys2Proof.Machine
end

