-- ==== Sys2Proof/Machine/PageOps.lean ====
section
/-!
DEFINITION. The control register of a page: enable checks, stops, holds, block resets and run-time faults (R49–R65), and
the domain resets of R527.
-/

namespace Sys2Proof.Machine

/-- Bits of PCTL other than CLR, HOLD and EN. -/
def pctlRest (w : Word) : Word := w &&& 0xFFFFFFF8

/-- A page leaves the list of stops under way. -/
def State.stopEnd (s : State) (p : Nat) : State :=
  if s.page.stopping.contains p then
    let s1 := s.pageOff p
    { s1 with page := { s1.page with stopping := s1.page.stopping.filter (fun q => q != p) } }
  else s

/-- A block reset is complete: CLR reads 0 (R62). -/
def State.clrEnd (s : State) (p : Nat) : State :=
  if s.page.clearing.contains p then
    let s1 := (s.pageClr p).set p F.HDR.PCTL.CLR 0
    { s1 with page := { s1.page with clearing := s1.page.clearing.filter (fun q => q != p) } }
  else s

/-- A block reset begins: the block stops, and CLR reads 1 (R62). -/
def State.clrBegin (s : State) (p : Nat) (rest : Word) : State :=
  let s0 := if s.flag p F.HDR.PCTL.EN || s.page.stopping.contains p then s.pageOff p else s
  let s1 := s0.wr p 4 (pctlRest rest ||| 4)
  { s1 with page := { s1.page with stopping := s1.page.stopping.filter (fun q => q != p),
                                   clearing := s1.page.clearing ++ [p] } }

/-- A stop begins (R59, R61). -/
def State.stopBegin (s : State) (p : Nat) (v : Word) : State :=
  let s1 := ((s.wr p 4 v).set p F.HDR.PSTS.FAULT 0).set p F.HDR.PSTS.REFUSED 0
  { s1 with page := { s1.page with stopping := s1.page.stopping ++ [p] } }

/-- A page joins the checks under way: behind those that arrived before it, but ahead of a page of higher index whose EN
write arrived in the same cycle (R57). -/
def checkIn (same : List Nat) (p : Nat) : List Nat → List Nat
  | [] => [p]
  | q :: t => if same.contains q && decide (p < q) then p :: q :: t else q :: checkIn same p t

/-- An enable check begins (R51); a stop or block reset under way ends first (DESIGN CHOICE, assumption log 40). -/
def State.checkBegin (s : State) (p : Nat) (v : Word) : State :=
  let s1 := ((((s.stopEnd p).clrEnd p).wr p 4 (v &&& 0xFFFFFFFB)).set p F.HDR.PSTS.RUN 0).set p F.HDR.PSTS.REFUSED 0
  let same := if s1.page.enAt = s1.clock then s1.page.enNew else []
  { s1 with page := { s1.page with checks := checkIn same p s1.page.checks, enAt := s1.clock, enNew := p :: same } }

/-- A write of the bits `mask` of PCTL (R49–R51, R59, R60, R62). -/
def State.pctlWrite (s : State) (p : Nat) (mask data : Word) : State :=
  let cur := s.rd p 4
  let v := ((cur &&& ~~~mask) ||| (data &&& mask)) &&& 0xFFFFFFFB ||| (cur &&& 4)
  let en0 := natBit cur.toNat 0
  let en1 := natBit v.toNat 0
  if alwaysOn p then s.wr p 4 (pctlRest v ||| 1)
  else if natBit (data &&& mask).toNat 2 then
    if s.page.clearing.contains p then s.wr p 4 (pctlRest v ||| (cur &&& 7))
    else match s.dependant p with
      | some q => s.refuse p 0x04 q
      | none => s.clrBegin p v
  else if en0 && !en1 then
    match s.dependant p with
    | some q => s.refuse p 0x04 q
    | none => s.stopBegin p v
  else if !en0 && en1 then s.checkBegin p v
  else
    let s0 := s.wr p 4 v
    let s1 := if natBit mask.toNat 0 && !en1 then s0.set p F.HDR.PSTS.FAULT 0 else s0
    if en0 && s.running p && natBit cur.toNat 1 && !natBit v.toNat 1 then s1.unhold p else s1

/-- An accepted enable (R51, R60, R66, R457). -/
def State.accepted (s : State) (p : Nat) : State :=
  let s1 := ((((s.set p F.HDR.PSTS.RUN 1).set p F.HDR.PSTS.CODE 0).set p F.HDR.PSTS.INDEX 0).set p
    F.HDR.PSTS.REFUSED 0).bump p F.HDR.PSEQ.COUNT
  let s2 := (s1.set p F.HDR.PDIG.DIGEST (s.pageDigest p)).blockOn p
  let fam := famOf p
  let holds : Bool := match fam with
    | some f => hasHold f && s2.holdSet p
    | none => false
  ((if holds then s2.setHeld p else s2).recost).drainsOf p

/-- A refused enable (R51): EN returns to 0. -/
def State.refusedEn (s : State) (p code index : Nat) : State :=
  ((s.set p F.HDR.PCTL.EN 0).set p F.HDR.PSTS.RUN 0).refuse p code index

/-- The check of a page is judged (R52), or ends with an internal check fault (R54, R56); PLAT shows the least FREEZE_LEAD of its
check (R156), and DUPLEX the budget of its record (R402). -/
def State.judgePage (s : State) (p : Nat) (fault : Bool) : State :=
  let s1 := { s with page := { s.page with checks := s.page.checks.filter (fun q => q != p) } }
  let s2 := if p = pPLAT then s1.set pPLAT F.PLAT.MINLEAD.MIN s1.minLead else if p = pDUPLEX then s1.dupBudget else s1
  if fault then s2.refusedEn p 0xFF 0xFF
  else match s2.checkPage p with
    | none => s2.accepted p
    | some (code, index) => s2.refusedEn p code index

/-- A page on which running pages depend stops through a fault: each sets its own FAULT (R61). -/
def State.faultDeps (s : State) (p : Nat) : State :=
  (allPages.filter (fun q => q != p && s.running q && (s.depsOf q).contains p)).foldl State.blockFault s

/-- A block detects a run-time fault (R61). A fault stops an engine, whose claims stay (R221). -/
def State.faultIn (s : State) (p : Nat) : State :=
  if s.running p then
    let s1 := s.blockFault p
    if famOf p = some .eng then ((s1.faultDeps p).stopRun p).blockOff p true else s1
  else s

/-- R221, R228, R61: an undefined word in the step in which it would execute stops its engine through a fault. -/
def execUndefinedInstruction (eng : Nat) (s : State) : Host.Outcome State Fault Refusal :=
  .next (if s.engReady eng && s.undefWord eng (s.fetch eng) then (s.undefStep eng).faultDeps (pENG eng) else s)

/-! Domain resets (R527). -/

/-- The pages of a domain. -/
def domainPages (b : Nat) : List Nat :=
  if b < 16 then pCREW b :: (List.range 4).map (fun k => pENG (4 * b + k))
  else if b = 16 then (List.range 16).map pCAN
  else if b = 17 then [pBRIDGE, pWINDOWS]
  else []

/-- CLR of a page of a domain, without the refusal of R62 and with LOCK cleared (R65, R524, R527). A check under way ends
with it. -/
def State.domainClr (s : State) (p : Nat) : State :=
  let s1 := s.faultDeps p
  let s2 := { s1 with page := { s1.page with
    checks := s1.page.checks.filter (fun q => q != p), held := s1.page.held.filter (fun h => h.page != p) } }
  let rest := (s2.rd p 4) &&& 0xFFFFFEF8
  if s2.page.clearing.contains p then s2.wr p 4 (rest ||| 4) else s2.clrBegin p rest

/-- A write of RESET.DOMAIN. -/
def State.domainReset (s : State) (map : Nat) : State :=
  let bits := (List.range 18).filter (fun b => natBit map b && !s.page.domains.contains b)
  let s1 := (bits.flatMap domainPages).foldl State.domainClr s
  (s1.set pRESET F.RESET.DOMAIN.RESET (s1.get pRESET F.RESET.DOMAIN.RESET ||| map)) |> fun t =>
    { t with page := { t.page with domains := t.page.domains ++ bits } }

/-- Domain resets are complete. -/
def State.domainDone (s : State) (map : Nat) : State :=
  let bits := (List.range 18).filter (fun b => natBit map b && s.page.domains.contains b)
  let s1 := (bits.flatMap domainPages).foldl State.clrEnd s
  bits.foldl (fun t b => t.set pRESET ⟨F.RESET.DOMAIN.RESET.off, b, 1⟩ 0)
    { s1 with page := { s1.page with domains := s1.page.domains.filter (fun b => !bits.contains b) } }

/-! Resets of the core die (R510, R524–R526). -/

/-- Causes of a core-die reset that act at this moment beside the one that is being taken (R527): a watchdog or a reset
command that is due, and those of a reset whose release falls on this very moment, with which this one is one reset. -/
def State.together (s : State) : State :=
  let due := fun (o : Option Nat) => match o with
    | some t => decide (t ≤ s.clock)
    | none => false
  let first := s.flag pRESET F.RESET.WDOG.FAULT_FIRST && s.dupState == some 1
  let s1 := if due s.rst.delayed || (due s.rst.wdog && !first) then s.cause 4 else s
  let s2 := if due s.rst.cmd then s1.cause 5 else s1
  if s.clock = s.datum.rawOrg then
    { (s2.set pRESET F.RESET.CORE_RESETS.COUNT (s2.get pRESET F.RESET.CORE_RESETS.COUNT + 2 ^ 32 - 1)) with
      supply := { s2.supply with causes := s2.supply.causes ||| s.get pRESET F.RESET.CAUSE.all } }
  else s2

/-- The core die is reset with its rails up, and is released at once while RST_N is high (R510, R524). -/
def State.coreReset (s : State) (b : Nat) : State :=
  if s.coreOn then
    let s1 := (s.together.cause b).coreHold
    if s1.pwr.rstN then s1.corePor.slotsKick else s1
  else s

/-- A write of RESET.WDOG (R525): TIME and FAULT_FIRST are stored, and ARM sets EN. -/
def State.wdogWrite (s : State) (mask data : Word) : State :=
  let m := mask &&& 0xFFFF0002
  let s1 := s.wr pRESET 0x4C (((s.rd pRESET 0x4C) &&& ~~~m) ||| (data &&& m))
  if natBit (data &&& mask).toNat 2 && !s1.flag pRESET F.RESET.WDOG.EN then
    { s1.set pRESET F.RESET.WDOG.EN 1 with
      rst := { s1.rst with wdog := some (s1.clock + 2000000 * s1.get pRESET F.RESET.WDOG.TIME) } }
  else s1

/-- A write of RESET.KICK (R525). -/
def State.wdogKick (s : State) (w : Word) : State :=
  if w = 0x4B490001 && s.flag pRESET F.RESET.WDOG.EN then
    { s with rst := { s.rst with wdog := some (s.clock + 2000000 * s.get pRESET F.RESET.WDOG.TIME) } }
  else s

/-- A write of RESET.CMD (R526). -/
def State.cmdWrite (s : State) (w : Word) : State :=
  if w = 0x52530001 then { s with rst := { s.rst with cmd := some (s.clock + 20000) } } else s

/-- The watchdog expires (R525). -/
def State.wdogExpire (s : State) : State :=
  match s.rst.wdog with
  | none => s
  | some t =>
    let s1 := (s.advance t).event pRESET 8
    let s2 := { s1 with rst := { s1.rst with wdog := none } }
    if s2.flag pRESET F.RESET.WDOG.FAULT_FIRST && s2.dupState == some 1 then
      let s3 := s2.declareFault 1
      { s3 with rst := { s3.rst with delayed := some (t + 200000) } }
    else s2.coreReset 4

/-- The core die is reset after a fault-first expiry (R525). -/
def State.wdogDelayed (s : State) : State :=
  match s.rst.delayed with
  | none => s
  | some t => (s.advance t).coreReset 4

/-- The reset command takes effect (R526). -/
def State.cmdFire (s : State) : State :=
  match s.rst.cmd with
  | none => s
  | some t => (s.advance t).coreReset 5

/-- RST_N stays low past its filter time (R510). -/
def State.rstLow (s : State) : State :=
  let s1 := { s with pwr := { s.pwr with rstN := false } }
  if s.coreOn then (s1.together.cause 3).coreHold
  else if s.pwr.power = .coreReset ∧ s.flag pSUPPLY F.SUPPLY.STS.PG_CORE then (s1.cause 3).coreHold
  else s1

/-- A core-die POR release that PG_CORE and RST_N allow (R509–R511). -/
def State.coreRelease (s : State) : State :=
  if s.pwr.power = .coreReset ∧ s.flag pSUPPLY F.SUPPLY.STS.PG_CORE ∧ s.pwr.rstN then s.corePor.slotsKick else s

/-- RST_N rises (R510). Its release after a reset ends Keep whatever the wake bits say (R37, R45), and with it a latched
rail fault (R435). -/
def State.rstHigh (s : State) : State :=
  let s1 := { s with pwr := { s.pwr with rstN := true } }
  if s1.pwr.power = .coreReset then s1.coreRelease
  else if !s.pwr.rstN && s1.inKeep then (s1.set pSUPPLY F.SUPPLY.STS.RF_LATCH 0).seqStart
  else s1

end Sys2Proof.Machine
end

