-- ==== Sys2Proof/Machine/Reads.lean ====
section
/-!
DEFINITION. The value that a read of a register returns, without the effect a read may have (R8, R34, R48, R136): heads
of queues, measured quantities, and reserved pages.
-/

namespace Sys2Proof.Machine

/-- The address of a register (R33). -/
def State.regAddr (s : State) (p off : Nat) : Nat := s.localAddr (0x1000000 + p * 4096 + off)

/-- The four words of the head of the late-error log (R385, R391). -/
def llogWords (e : LogEnt) : List Nat :=
  [e.addr, 2 ^ 31 + e.win % 16 * 2 ^ 24 + e.reason % 256 * 2 ^ 16 + e.addr / 2 ^ 32 % 2 ^ 16, e.t, e.t / 2 ^ 32]

/-- The three words of the head of the transmit-stamp queue (R92, R106). -/
def txqWords (e : TxStamp) : List Nat := [e.stamp, txqUpper e, txqUpper e / 2 ^ 32]

/-- The word of a queue-head register; none for any other register. -/
def State.headWord (s : State) (p off : Nat) : Option Word :=
  match famOf p with
  | some .eng => if off = 0x78 then some (w32 ((s.eng (p - 0x20)).rxf.headD 0)) else none
  | some .stamp =>
    if 0x44 ≤ off ∧ off < 0x50 then
      some (match s.stamps with | [] => 0 | e :: _ => w32 (nth (txqWords e) ((off - 0x44) / 4) 0))
    else none
  | some .stake =>
    if 0xA0 ≤ off ∧ off < 0xC0 then
      some (match s.stake.rcpts with | [] => 0 | r :: _ => w32 (nth (rcptWords r) ((off - 0xA0) / 4) 0))
    else none
  | some .bridge =>
    if 0x60 ≤ off ∧ off < 0x70 then
      some (match s.bridge.llog with | [] => 0 | e :: _ => w32 (nth (llogWords e) ((off - 0x60) / 4) 0))
    else none
  | _ => none

/-- Bits of a register that hold a quantity measured from outside, on which the model has no bound but its width (R448,
R451, R496): free values. -/
def measured (p off : Nat) : Nat :=
  match famOf p with
  | some .supply => if off = 0x5C then 2 ^ 32 - 1 else if off = 0x60 ∨ (0x70 ≤ off ∧ off < 0x88) then 2 ^ 16 - 1 else 0
  | some .slot => if off = 0x58 then 2 ^ 32 - 1 else 0
  | some .tamper => if off = 0x54 then 2 ^ 16 - 1 else 0
  | _ => 0

/-- STS of a slot whose gate is on: where no command told of the channel's last edge, LIMITING is a free value; with the
gate off no current flows (R439, R451). -/
def State.slotSts (s : State) (n : Nat) : State × Word :=
  let w := s.view (pSLOT n) 0x54
  if s.slotState n = slotRAMP ∨ s.slotState n = slotON then
    if (match (s.slot n).limAt with | some k => decide (s.clock < k + 100) | none => false) = true then (s, w)
    else (s.nextFree, putBitsW w F.SLOT.STS.LIMITING (s.freeVal 1))
  else (s, putBitsW w F.SLOT.STS.LIMITING 0)

/-- While a controller is bus-off, RECOV counts the sequences of 11 recessive bits seen so far (R291), of which no command
tells: a free value below 128 that never falls. -/
def State.recovOpen (s : State) (p off : Nat) : Bool :=
  famOf p == some .can && off == 0x58 && s.get p F.CAN.STS.STATE == 2

/-- As many sequences of 11 recessive bits as the time since bus-off holds (R281, R291). -/
def State.recovMost (s : State) (n : Nat) : Nat :=
  let p := pCAN n
  (s.now - (s.can n).offT) /
    (275 * s.get p F.CAN.NBT.BRP * (1 + s.get p F.CAN.NBT.TSEG1 + s.get p F.CAN.NBT.TSEG2))

/-- The value of a register that exists, and the free values it drew. A guard-die page reads as all ones while the
die-to-die link is down (R24). -/
def State.readReg (s : State) (p off : Nat) : State × Word :=
  if guardPage p && !s.pwr.dieLink then (s, 0xFFFFFFFF)
  else if measured p off ≠ 0 then (s.nextFree, w32 (s.freeVal 32 &&& measured p off))
  else if famOf p = some .slot ∧ off = 0x54 then s.slotSts (p - 0xD1)
  else if s.recovOpen p off then
    let v := max (s.get p F.CAN.RECOV.COUNT) (min (s.recovMost (p - pCAN 0)) (s.freeVal 7))
    ((s.set (pCAN (p - pCAN 0)) F.CAN.RECOV.COUNT v).nextFree, w32 v)
  else match s.headWord p off with
    | some w => (s, w)
    | none => (s, s.view p off)

/-- A read without side effect on a queue or a bit, by a feed (R136): a page that is not there reads all ones, an
unassigned offset 0, and both are address errors (R34, R35). -/
def State.feedRead (s : State) (p off : Nat) : State × Word :=
  match runOf p with
  | none => (s.addressError (s.regAddr p off) .engine, 0xFFFFFFFF)
  | some _ =>
    match rowAt p off with
    | none => (s.addressError (s.regAddr p off) .engine, 0)
    | some _ => (s.linesSent p).readReg p off

end Sys2Proof.Machine
end

