-- ==== Sys2Proof/Machine/Actions.lean ====
section
/-!
DEFINITION. Actions that a write or a read of a register starts and that no earlier file holds: key installs (R357,
R359), the boot registers (R516, R517, R528), the late-error log (R385) and the idle bank of a gate list (R321).
-/

namespace Sys2Proof.Machine

/-! Key installs. -/

/-- A field of SA `a` of port `n`. -/
def saf (f : Fld) (n a : Nat) : Fld := (msf f n).at (0x10 * a)

/-- An install fails (R357). -/
def State.saFail (s : State) (n a err : Nat) : State := (s.set pMACSEC (saf F.MACSEC.SA_KEY.ERR n a) err).event pMACSEC 10

/-- A write of a handle to SAa.KEY (R357): with PROT = 1 the SA in use for transmit is left alone, and the handle is not stored. -/
def State.saAsk (s : State) (n a handle : Nat) : State :=
  if s.flag pMACSEC (msf F.MACSEC.CTL.PROT n) && s.get pMACSEC (msf F.MACSEC.CTL.TX_AN n) == a then s.saFail n a 5
  else
    let s1 := (s.set pMACSEC (saf F.MACSEC.SA_KEY.HANDLE n a) handle).set pMACSEC (saf F.MACSEC.SA_KEY.VALID n a) 0
    let s2 := s1.setSa n a none
    { s2 with sw := { s2.sw with installs := s2.sw.installs.filter (fun x => !(x.port == n && x.sa == a)) ++
        [{ port := n, sa := a, handle := handle % 2 ^ 16 }] } }

/-- What an install finds (R357): the error, or the key. Where more than one error holds, the page comes first, then the
Monument's condition, the slot and its attributes (DEDUCED, assumption log 20). -/
def State.saResult (s : State) (handle : Nat) : Nat × List Byte :=
  if !s.running pMONUMENT then (4, [])
  else if !s.monReady then (3, [])
  else match s.handleOf handle with
    | none => (1, [])
    | some (_, k) => if s.mayUse k useMACSEC then (0, k.key) else (2, [])

/-- A key install ends (R357). -/
def State.saDone (s : State) (n a : Nat) : State :=
  match s.sw.installs.find? (fun x => x.port == n && x.sa == a) with
  | none => s
  | some x =>
    let s1 := { s with sw := { s.sw with installs := s.sw.installs.filter (fun y => !(y.port == n && y.sa == a)) } }
    let r := s1.saResult x.handle
    if r.1 = 0 then
      ((s1.setSa n a (some { key := r.2, high := 0, warned := false })).set pMACSEC (saf F.MACSEC.SA_KEY.VALID n a) 1).set
        pMACSEC (saf F.MACSEC.SA_KEY.ERR n a) 0
    else s1.saFail n a r.1

/-- A write of CTL of a port (R358): TX_AN waits for a frame boundary while the port is protected. -/
def State.msCtlWrite (s : State) (n : Nat) (mask data : Word) : State :=
  let off := (msf F.MACSEC.CTL.TX_AN n).off
  let m := mask &&& 0xFFFFFFCF
  let s1 := s.wr pMACSEC off (((s.rd pMACSEC off) &&& ~~~m) ||| (data &&& m))
  if natField mask.toNat 4 2 = 0 then s1
  else
    let an := natField (((s.rd pMACSEC off) &&& ~~~mask) ||| (data &&& mask)).toNat 4 2
    if s.protected n then s1.txAnWrite n an
    else (s1.txAnWrite n an).txAnApply n

/-! Boot registers. -/

/-- Does a host or ring boot wait for GO at STAGE 0x3 (R516, R517, R528)? -/
def State.bootWaits (s : State) : Bool :=
  s.get pSYS F.SYS.BOOTSTS.STAGE == 3 && !s.flag pSYS F.SYS.BOOTCTL.GO &&
    (s.get pSYS F.SYS.STRAP.BOOT == 1 || s.boot.ring)

/-- A write of 1 to BOOTCTL.GO. -/
def State.bootGo (s : State) : State := if s.bootWaits then s.set pSYS F.SYS.BOOTCTL.GO 1 else s

/-- A write of BOOTDATA: four image bytes in ring boot. -/
def State.bootData (s : State) (d : Word) : State :=
  if s.bootWaits && s.boot.ring then { s with boot := { s.boot with image := s.boot.image ++ leBytes 4 d.toNat } } else s

/-! The late-error log. -/

/-- A read of LLOG0 removes the head entry (R385); LLOG1–3 follow R48. -/
def State.llogPop (s : State) : State :=
  match s.bridge.llog with
  | [] => { s.setShadows pBRIDGE 0x64 [0, 0, 0] with result := some 0 }
  | e :: t =>
    let s1 := s.setShadows pBRIDGE 0x64 ((llogWords e).drop 1)
    { s1 with bridge := { s1.bridge with llog := t }, result := some (w32 e.addr) }

/-! Gate lists. -/

/-- A write of the bits `mask` of GCL_LEN (R321): while the page runs the active field is kept. -/
def State.gclLenWrite (s : State) (n : Nat) (mask data : Word) : State :=
  let p := pPORT n
  let old := s.rd p 0xB4
  let v := (old &&& ~~~mask) ||| (data &&& mask)
  if s.running p then
    let lo := 16 * s.gclActive n
    let act : Word := 0x7F <<< lo
    let s1 := s.wr p 0xB4 ((v &&& ~~~act) ||| (old &&& act))
    if v &&& act = old &&& act then s1 else s1.event p 14
  else s.wr p 0xB4 v

/-- A write of a gate entry (R321): while the page runs one of the active bank is discarded. -/
def State.gclEntryWrite (s : State) (n off : Nat) (v : Word) : State :=
  let p := pPORT n
  if s.running p && (off - 0x400) / 0x100 == s.gclActive n then s.event p 14 else s.wr p off v

/-! Commands. -/

def execMacsecSaInstall (clk port sa handle : Nat) (s : State) : Host.Outcome State Fault Refusal :=
  .next (if port < 7 ∧ sa < 4 then
    (s.advance clk).fldWrite pMACSEC (saf F.MACSEC.SA_KEY.HANDLE port sa) handle (fun t => t.saAsk port sa handle)
  else s.advance clk)

def execMacsecSaInstallDone (clk port sa : Nat) (s : State) : Host.Outcome State Fault Refusal :=
  .next ((s.advance clk).saDone port sa)

def execLlogPop (clk : Nat) (s : State) : Host.Outcome State Fault Refusal := .next ((s.advance clk).whenOn State.llogPop)

end Sys2Proof.Machine
end

