-- ==== Sys2Proof/Machine/Freeze.lean ====
section
/-!
DEFINITION. The boundary of a cycle with all that happens at it (R129, R415, R417), the freeze with its feeds
(R136–R139), and the feeds of other gang members (R138).
-/

namespace Sys2Proof.Machine

/-- T at tap 0 reaches the next boundary (R129): the boundary is acted on, and with it what the gang, the pair and the
misclosure do at a boundary. -/
def State.boundary (s : State) : State :=
  if s.running pCYCLE then
    let n := s.nextCyc
    let s1 := (s.advanceT (s.cycT n)).actBoundary n []
    ((s1.gangBoundary (cyc32 n)).dupBoundary).transitCheck
  else s

/-! Feeds (R137). -/

/-- Registers of a REG feed, in order. -/
def State.regFeed (s : State) : Nat → Nat → State × List Byte
  | _, 0 => (s, [])
  | src, n + 1 =>
    let r := s.feedRead (src / 1024) (4 * (src % 1024))
    let t := r.1.regFeed (src + 1) n
    (t.1, leBytes 4 r.2.toNat ++ t.2)

/-- The content of an ENG_RX feed (R137, R199). -/
def State.engFeed (s : State) (e : Nat) : List Byte :=
  let l := (s.eng e).latchAt s.now
  leBytes 4 (s.latchShown e l.1) ++ leBytes 2 (min l.2 0xFFFF) ++ leBytes 1 (bit (l.2 != 0)) ++ leBytes 1 0

/-- The content of an EDGE feed (R137, R257). -/
def State.bankFeed (s : State) (b : Nat) : List Byte :=
  leBytes 4 (mapOf 32 (fun i => (s.edgeFeed (32 * b + i) s.now).1)) ++ leBytes 4 (mapOf 32 (fun i => (s.edgeFeed (32 * b + i) s.now).2))

/-- The content of a CAN feed (R137, R297). -/
def State.canFeedBytes (s : State) (c f : Nat) : List Byte :=
  let v := (s.canFeed c f).shown s.now
  leBytes 8 v.stamp ++ leBytes 4 v.id ++ leBytes 4 (v.data.length + 256 * bit (v.count != 0) + 65536 * min v.count 0xFFFF) ++
    slice v.data 0 64

/-- The content of feed `n`; a feed whose source block is not running gives 0 (R137). -/
def State.feedBytes (s : State) (n : Nat) : State × List Byte :=
  let src := s.feedSrc n
  let len := s.feedLen n
  let zero := List.replicate (8 * len) (0 : Byte)
  match s.feedType n with
  | 1 => if s.running (src / 1024) || (runOf (src / 1024)).isNone then s.regFeed src (2 * len) else (s, zero)
  | 2 => (s, if s.running (pENG src) then s.engFeed src else zero)
  | 3 => (s, s.bankFeed src)
  | 4 => (s, if s.running (pCAN (src % 16)) then s.canFeedBytes (src % 16) (src / 16) else zero)
  | _ => (s, zero)

/-- Feeds in order with their contents. -/
def State.sampleFeeds (s : State) : List Nat → State × List (Nat × List Byte)
  | [] => (s, [])
  | n :: t =>
    let r := s.feedBytes n
    let u := r.1.sampleFeeds t
    (u.1, (n, r.2) :: u.2)

/-- Does this hub sample the feeds that name a member (R138, R418)? -/
def State.samples (s : State) (m : Nat) : Bool := !s.inGang || m == s.member || s.actsFor m

/-- After a freeze the counts and change bits start again (R199, R257, R297). -/
def State.feedsTaken (s : State) : State :=
  let s1 := (List.range 64).foldl (fun st e =>
    if (st.eng e).latchCnt = 0 then st else st.setEng e ((st.eng e).latchTaken s.now)) s
  let s2 := (List.range 256).foldl (fun st p => st.edgeTaken p s.now) s1
  (List.range 16).foldl (fun st c => (List.range 32).foldl (fun t f =>
    if (t.canFeed c f).cur.count = 0 then t else t.setFeed c f ((t.canFeed c f).taken s.now)) st) s2

/-- The address of the own parcel in the working buffer. -/
def State.ownWork (s : State) : Nat := bufAddr ((s.sel s.nid + 1) % 2) (64 * s.slotOfs s.nid)

/-- The own parcel of cycle `n` in the working buffer (R136): header word, feeds, zeros, and the output region from the
staging store. -/
def State.fillParcel (s : State) (n : Nat) (feeds : List (Nat × List Byte)) : State :=
  let len := 64 * s.slotLen s.nid
  let out := 64 * s.slotOut s.nid
  let base := 64 * s.slotOfs s.nid
  let s1 := s.stBytes s.ownWork (leBytes 8 (2 ^ 32 + n) ++ List.replicate (len - out - 8) 0)
  let s2 := feeds.foldl (fun st f => st.stBytes (s.ownWork + 8 * s.feedOfs f.1) f.2) s1
  s2.stBytes (s.ownWork + len - out) ((List.range out).map (fun i => s.staged (base + len - out + i)))

/-- What the working buffer of the own parcel held of an older cycle is abandoned when the freeze fills it (R136), and counted
as a newer frame would count it (R143, R147; DESIGN CHOICE, assumption log 47). -/
def State.ownOver (s : State) : State :=
  let r := s.rxOf s.nid
  if r.ready then (s.platDrop F.PLAT.VIEWDROP.COUNT).setRx s.nid (rxDefault 0)
  else if r.frames != [] then (s.platDrop F.PLAT.INCOMPLETE.COUNT).setRx s.nid (rxDefault 0)
  else s

/-- The freeze (R136, R138, R145, R151, R159). -/
def State.freeze (s0 : State) : State :=
  if !s0.evOpen 0 then s0
  else
    let s := s0.evNow 0
    if !s.running pPLAT || s.slotLen s.nid == 0 then s
    else if s.holdAsked pPLAT then
      if s.flag pPLAT F.HDR.PCTL.HOLD then s.set pPLAT F.HDR.PSTS.HELD 1 else s
    else
      let s1 := if s.plat.own.isSome then s.dropOwn.slotMiss 1 else s
      let r := s1.sampleFeeds (s1.feeds.filter (fun n => s1.samples (s1.feedMember n)))
      let c := cyc32 s.cycle.cyc
      let s2 := r.1.feedsTaken
      let s3 := { s2 with plat := { s2.plat with prevTf := s2.now } }
      let s' := if s3.inGang && !s3.isLead && s3.formed && !s3.fenced && r.2 != [] then
          s3.sendGang 4 (s3.actingFor 0) (Config.feedPack r.2) else s3
      if s'.inGang && !s'.onRing then s'
      else
        let s4 := s'.ownOver.fillParcel c (s'.plat.gangFeeds ++ r.2)
        let s5 := { s4 with plat := { s4.plat with gangFeeds := [] } }
        if s5.publishes then { s5 with plat := { s5.plat with own := some c } } else s5

/-- Feeds of another member arrive (R138, R417); the feeds that name a guarded member come from the hub that acts for it (R418). Before the freeze they wait for it, between the freeze and the release
they go into the parcel, and later ones are lost. -/
def State.feedRx (s0 : State) (m : Nat) (feeds : List (Nat × List Byte)) : State :=
  let a := if s0.running pGANGCTL then s0.gangSign m else s0
  let told := if s0.isTwin m then s0.guards m else m
  let s := if feeds.any (fun f => a.feedMember f.1 == told) && a.memPresent m then a.actNote told m else a
  let ok := feeds.filter (fun f => decide (f.1 < 128) && s.feedType f.1 != 0 && f.2.length == 8 * s.feedLen f.1 &&
    s.feedMember f.1 != s.member && s.actingFor (s.feedMember f.1) == m)
  if !s.running pPLAT || !s.inGang || !s.onRing || !s.memPresent m || s.memFenced m then s
  else if s.evOpen 0 then
    { s with plat := { s.plat with
      gangFeeds := s.plat.gangFeeds.filter (fun g => !ok.any (fun f => f.1 == g.1)) ++ ok } }
  else if s.evOpen 1 && s.plat.own.isSome then
    ok.foldl (fun st f => st.stBytes (s.ownWork + 8 * s.feedOfs f.1) f.2) s
  else s

/-! Commands. -/

def execCycleBoundary (s : State) : Host.Outcome State Fault Refusal := .next s.boundary

def execPlatFreeze (s : State) : Host.Outcome State Fault Refusal := .next s.freeze

def execGangFeedRx (clk member : Nat) (feeds : List (Nat × List Byte)) (s : State) : Host.Outcome State Fault Refusal :=
  .next ((s.advance clk).feedRx member feeds)

end Sys2Proof.Machine
end

