-- ==== Sys2Proof/Machine/Bus.lean ====
section
/-!
DEFINITION. A write of a register on a page, by the access types of R8 and with the action the register starts (R8–R11,
R34, R48, R49, R560), a read with its effect (R48, R92, R178, R197, R385, R507), and the page commands of chapter 2.
-/

namespace Sys2Proof.Machine

/-! Stores (R8, R48). -/

/-- The bits of a register that a write can store now: RWL only while EN = 0. -/
def State.writable (s : State) (p : Nat) (r : RegRow) : Word :=
  w32 (if s.flag p F.HDR.PCTL.EN then r.rw else r.rw ||| r.rwl)

/-- A lower word of a wide register is kept for the write of its highest word (R48). -/
def State.latchPut (s : State) (p off : Nat) (mask data : Word) : State :=
  { s with latch := tabPut regDefault s.latch (regKey p off) (((s.latched p off) &&& ~~~mask) ||| (data &&& mask)) }

/-- The bits `mask` of a register are written: RW and RWL bits are stored, W1C bits are cleared by 1
but for those that the hub set in the same cycle (R9). The highest word of
a wide register applies the lower words as last written. -/
def State.storeReg (s : State) (p off : Nat) (r : RegRow) (mask data : Word) : State :=
  let m := s.writable p r &&& mask
  if r.wi + 1 < r.wn then (if m = 0 then s else s.latchPut p off m data)
  else
    let old := s.rd p off
    let v := ((old &&& ~~~m) ||| (data &&& m)) &&& ~~~(w32 r.w1c &&& mask &&& data &&& ~~~s.setNow p off)
    let s1 := s.wr p off v
    if m = 0 then s1
    else (List.range r.wi).foldl (fun st i =>
      let o := off - 4 * (i + 1)
      st.wr p o (st.latched p o)) s1

/-! Actions of a write. `d` is the written word with the bits not written as 0, `v` the word with the bits not written as
they stand, `g` the state after the store. -/

/-- SYS, RESET and IRQ (R41, R70, R516, R517, R525–R527). -/
def State.effBase (s g : State) (fam : Fam) (p off : Nat) (mask d v : Word) : State :=
  match fam with
  | .sys =>
    if off = 0x6C then (if natBit d.toNat 0 then g.bootGo else g)
    else if off = 0x70 then s.bootData d
    else if off = 0x8C then (if natBit d.toNat 31 && !natBit (s.setNow p off).toNat 31 then g.aerrClear else g)
    else if off = 0x80 then (if natField mask.toNat 0 2 = 0 then g else g.pstateReq (natField v.toNat 0 2))
    else g
  | .reset =>
    if off = 0x44 then s.cmdWrite d
    else if off = 0x48 then g.domainReset (natField d.toNat 0 18)
    else if off = 0x4C then g.wdogWrite mask d
    else if off = 0x50 then s.wdogKick d
    else g
  | .irq => if off = 0xE4 then s.rearmIrq d.toNat else if off < 0xC0 then g.irqEdges s else g
  | _ => g

/-- Time, cycle and stakes (R75–R77, R91, R96, R116, R150, R160, R170). -/
def State.effTime (s g : State) (fam : Fam) (p off : Nat) (mask d v : Word) (src : Source) : State :=
  match fam with
  | .datum =>
    if off = 0x44 then
      let t := if natBit d.toNat 0 then g.resume else g
      if natBit d.toNat 1 then t.holdReq else t
    else if off = 0x4C then s.incWrite v
    else if off = 0x50 then s.latchPut p off mask d
    else if off = 0x54 then s.stepWrite d src
    else if off = 0x5C then s.stepUnlock d
    else g
  | .stamp =>
    if off = 0x5C then (if natBit d.toNat 0 then { g with stamps := [] } else g)
    else if 0x100 ≤ off ∧ off < 0x3C0 ∧ off % 0x20 = 0 then
      let n := (off - 0x100) / 0x20
      g.corrKeep n (s.corrNow n)
    else if 0x108 ≤ off ∧ off < 0x400 ∧ off % 0x20 = 8 then s.pdelayWrite ((off - 0x108) / 0x20) v
    else g
  | .cycle => if off = 0x60 && natBit d.toNat 0 then g.cycleRejoin else g
  | .stake =>
    if 0x60 ≤ off ∧ off < 0x7C then s.latchPut p off mask d
    else if off = 0x7C then s.stakeIssue d
    else if off = 0xE4 then s.stakeCancelWrite d
    else g
  | _ => g

/-- Crews, engines, pins and CAN (R189, R197, R206–R212, R217, R218, R223, R285, R289, R295). -/
def State.effPins (s g : State) (fam : Fam) (i p off : Nat) (mask d v : Word) : State :=
  match fam with
  | .crew =>
    if off = 0x40 then
      let t := if natBit v.toNat F.CREW.SWAP.ABORT_WAIT.lo && !s.flag p F.CREW.SWAP.ABORT_WAIT then g.abortAsk i else g
      if natBit d.toNat 0 then t.swapGo i else t
    else if off = 0x48 then s.goEng i (natField d.toNat 0 4)
    else if off = 0x4C then s.flagClear i d.toNat
    else if off = 0x50 then s.flagSet i d.toNat
    else if off = 0x60 ∨ off = 0x64 ∨ 0x800 ≤ off then s.imemWrite i off v
    else g
  | .eng =>
    if 0x58 ≤ off ∧ off ≤ 0x64 then s.engRegWrite i off mask d
    else if off = 0x6C then (if natField mask.toNat 0 7 = 0 then g else s.engJump i (natField d.toNat 0 7))
    else if off = 0x70 then (if natBit d.toNat 0 then g.engSnap i else g)
    else if off = 0x74 then s.txfWrite i d
    else g
  | .pinmux =>
    if 0x48 ≤ off ∧ off < 0x58 then s.swWrite i off v else if 0x100 ≤ off then g.pinCfgWrite i off else g
  | .can =>
    if off = 0x90 then g.canReqWrite i (natField d.toNat 0 3)
    else if off = 0x94 then g.canAbortWrite i (natField d.toNat 0 3)
    else if off = 0x108 then (if natField mask.toNat 0 5 = 0 then g else s.canAck i (natField d.toNat 0 5))
    else if 0x300 ≤ off ∧ off < 0x480 then
      if natBit (s.canReq i) ((off - 0x300) / 0x80) then s.bump p F.CAN.TXWDROP.COUNT else g.canWrote i off (s.rd p off)
    else g
  | _ => g

/-- Ports, switch, MACsec and bridge (R321, R328, R350, R351, R357, R358, R365, R388, R390). -/
def State.effNet (s g : State) (fam : Fam) (p off : Nat) (mask d v : Word) : State :=
  match fam with
  | .port =>
    let n := portOfPage p
    if off = 0xA0 then (if natBit d.toNat 0 then g.snapWrite n (natBit v.toNat 1) else g)
    else if off = 0xB0 then (if natBit d.toNat 3 then g.gclSwapAsk n else g)
    else if off = 0xB4 then s.gclLenWrite n mask d
    else if 0x400 ≤ off then s.gclEntryWrite n off v
    else g
  | .fdb => if off = 0x44 && natBit d.toNat 0 then g.fdbCmd (natField v.toNat 1 3) (natField v.toNat 16 13) else g
  | .bufmem =>
    if off = 0x54 then
      let k := natField v.toNat 0 4
      let t := if natBit d.toNat 8 then g.bufFail k else g
      if natBit d.toNat 9 then t.bufRebuild k else t
    else g
  | .macsec =>
    let n := (off - 0x100) / 0x80
    let o := (off - 0x100) % 0x80
    if off < 0x100 then g
    else if o = 0 then s.msCtlWrite n mask d
    else if 0x20 ≤ o ∧ o < 0x60 ∧ o % 0x10 = 0 then
      (if natField mask.toNat 0 16 = 0 then g else s.saAsk n ((o - 0x20) / 0x10) (natField v.toNat 0 16))
    else g
  | .bridge =>
    if off = 0x54 then (if natBit d.toNat 0 then g.leaseOver else g) else if off = 0xBC then g.txFetch else g
  | _ => g

/-- Twins, guard die, monitors and calibration (R408, R413, R435, R455, R480, R486, R491, R500, R505, R507). -/
def State.effGuard (s g : State) (fam : Fam) (i p off : Nat) (mask d v : Word) : State :=
  match fam with
  | .duplex =>
    if off = 0x4C then
      let a := if natBit d.toNat 0 then g.declareFault 1 else g
      let b := if natBit d.toNat 1 then a.handoverAsk else a
      let c := if natBit d.toNat 2 then b.dupRejoin else b
      if natBit d.toNat 3 then c.fenceAsk else c
    else g
  | .gangctl =>
    if off = 0x50 then
      let a := if natBit d.toNat 1 then g.gangRejoin else g
      if natBit d.toNat 0 then a.gangFence else a
    else g
  | .supply => if off = 0x54 && natBit d.toNat 0 then g.rfClr else g
  | .tally => if off = 0x60 && natBit d.toNat 0 then g.learnWrite else g
  | .monument =>
    if s.flag pMONUMENT F.MONUMENT.STS.BUSY && (decide (0x48 ≤ off ∧ off < 0x58) || decide (0x400 ≤ off)) then s
    else if off = 0x48 then (if natBit d.toNat 31 then g.monGo (natField v.toNat 0 8) (natBit v.toNat 16) else g)
    else if off = 0x60 then s.latchPut p off mask d
    else if off = 0x64 then s.rtcSet v
    else g
  | .tamper => if off = 0x50 then s.rearm d else if off = 0x40 && s.mon.fuse != 2 then s else g
  | .hmon => if off = 0x50 && natBit d.toNat 0 then g.hmonSnap i (natBit v.toNat 1) (natBit v.toNat 2) else g
  | .cal =>
    if off = 0x40 then (if natBit d.toNat 0 then g.calProg else g)
    else if off = 0x44 then s.calUnlock d
    else if off = 0x50 then s.calDataWrite d
    else g
  | _ => g

/-- The effect of a write that reaches a register of a page (R8–R11, R49). A partial mask on a write-only word acts with the
unselected bits as 0 (DESIGN CHOICE, assumption log 96). -/
def State.writeEff (s : State) (run : PageRun) (p off : Nat) (r : RegRow) (mask data : Word) (src : Source) : State :=
  let d := data &&& mask
  let v := ((s.rd p off) &&& ~~~mask) ||| d
  if mask = 0 then s
  else if off = 0x04 then s.pctlWrite p mask data
  else if off = 0x14 then
    let e := d &&& evMask run.fam
    (s.markSet p 0x0C e).wr p 0x0C ((s.rd p 0x0C) ||| e)
  else
    let g := s.storeReg p off r mask data
    if off < 0x40 then g
    else match run.fam with
      | .sys => s.effBase g run.fam p off mask d v
      | .reset => s.effBase g run.fam p off mask d v
      | .irq => s.effBase g run.fam p off mask d v
      | .datum => s.effTime g run.fam p off mask d v src
      | .stamp => s.effTime g run.fam p off mask d v src
      | .cycle => s.effTime g run.fam p off mask d v src
      | .stake => s.effTime g run.fam p off mask d v src
      | .crew => s.effPins g run.fam (p - run.first) p off mask d v
      | .eng => s.effPins g run.fam (p - run.first) p off mask d v
      | .pinmux => s.effPins g run.fam (p - run.first) p off mask d v
      | .can => s.effPins g run.fam (p - run.first) p off mask d v
      | .port => s.effNet g run.fam p off mask d v
      | .fdb => s.effNet g run.fam p off mask d v
      | .bufmem => s.effNet g run.fam p off mask d v
      | .macsec => s.effNet g run.fam p off mask d v
      | .bridge => s.effNet g run.fam p off mask d v
      | _ => s.effGuard g run.fam (p - run.first) p off mask d v

/-- What an access to a page finds: words have reached the transmit FIFO of an engine up to this moment (R197), and
the drains of the book follow their activity (R264). -/
def State.pageNow (s : State) (fam : Fam) (p : Nat) : State :=
  match fam with
  | .eng => s.txSettle (p - 0x20) (s.raw / 8)
  | .book => s.syncDrains
  | _ => s.linesNow p

/-- A write of the bits `mask` of the word at an offset of a page (R34, R35, R510): an offset that is no register of a
page is an address error. -/
def State.busWrite (s : State) (p off : Nat) (mask data : Word) (src : Source) : State :=
  match runOf p, rowAt p off with
  | some run, some r =>
    (s.pageNow run.fam p).regWrite p off mask.toNat data.toNat src (fun t => t.writeEff run p off r mask data src)
  | _, _ => if s.coreOn then s.addressError (s.issued (s.regAddr p off) src) src else s

/-! Reads. -/

/-- The registers whose upper words always come from the shadow (R48): those whose lowest word pops a queue. -/
def popUpper (p off : Nat) : Bool :=
  match famOf p with
  | some .stamp => decide (off = 0x48) || decide (off = 0x4C)
  | some .stake => decide (0xA4 ≤ off) && decide (off < 0xC0)
  | some .bridge => decide (0x64 ≤ off) && decide (off < 0x70)
  | _ => false

/-- The upper words of a wide register go to the shadow with a read of its lowest word (R48). -/
def State.shadowUpper (s : State) (p off wn : Nat) : State :=
  (List.range (wn - 1)).foldl (fun st i => st.setShadow p (off + 4 * (i + 1)) (s.view p (off + 4 * (i + 1)))) s

/-- A read of a register (R8, R48), its word left as the result. -/
def State.readPlain (s : State) (p off : Nat) (r : RegRow) : State :=
  if guardPage p && !s.pwr.dieLink then { s with result := some 0xFFFFFFFF }
  else if popUpper p off || decide (0 < r.wi) then { s with result := some (s.shadowWord p off) }
  else
    let t := s.readReg p off
    { t.1.shadowUpper p off r.wn with result := some t.2 }

/-- A read of a register with its effect: TXQ, RCPT0, RXF and LLOG0 pop, CAL.DATA advances ADDR (R92, R178, R197, R385, R507). -/
def State.readTake (s : State) (fam : Fam) (p off : Nat) (r : RegRow) : State :=
  match fam with
  | .stamp => if off = 0x44 then s.txqPop else s.readPlain p off r
  | .stake => if off = 0xA0 then s.rcptPop else s.readPlain p off r
  | .eng => if off = 0x78 then s.rxfPop (p - 0x20) else s.readPlain p off r
  | .bridge => if off = 0x60 then s.llogPop else s.readPlain p off r
  | .cal => if off = 0x50 then State.calNext { s with result := some s.calDataWord } else s.readPlain p off r
  | _ => s.readPlain p off r

/-- A read of a register by the bus, with its effect. An unassigned offset reads 0, a page that is not there all ones, and both are address errors (R34). An unassigned offset of
a guard-die page reads 0 while the die-to-die link is down too, where R24 says that reads of the page return all ones
(DESIGN CHOICE, assumption log 27). -/
def State.busRead (s : State) (p off : Nat) (src : Source) : State :=
  if !s.coreOn then s
  else match runOf p with
    | none => { s.addressError (s.issued (s.regAddr p off) src) src with result := some 0xFFFFFFFF }
    | some run =>
      match rowAt p off with
      | none => { s.addressError (s.issued (s.regAddr p off) src) src with result := some 0 }
      | some r => (s.pageNow run.fam p).readTake run.fam p off r

/-! The end of an enable check. -/

/-- Boot ends with an error (R521). -/
def State.bootFail (s : State) (err : Nat) : State :=
  let s1 := ((s.set pSYS F.SYS.BOOTSTS.STAGE 9).set pSYS F.SYS.BOOTSTS.ERR err).event pSYS 10
  { s1 with boot := { s1.boot with page := none, wait := none, rest := [] } }

/-- An entry has been applied; after the last one STAGE becomes 0x7 (R521, R528). -/
def State.entryDone (s : State) : State :=
  let s1 := s.bump pSYS F.SYS.BOOTENT.ENTRY
  if s1.boot.rest = [] then (s1.set pSYS F.SYS.BOOTSTS.STAGE 7).event pSYS 9 else s1.set pSYS F.SYS.BOOTSTS.STAGE 5

/-- The boot loader waited for the check of this page: an accepted PAGE entry has been applied, a refused one ends the boot
(R519, R521). -/
def State.bootChecked (s : State) (p : Nat) : State :=
  if s.boot.page = some p then
    let s1 := { s with boot := { s.boot with page := none } }
    if s1.running p then s1.entryDone
    else
      let s2 := s1.set pSYS F.SYS.BOOTERR.PAGE p
      let s3 := (s2.set pSYS F.SYS.BOOTERR.CODE (s2.get p F.HDR.PSTS.CODE)).set pSYS F.SYS.BOOTERR.INDEX (s2.get p F.HDR.PSTS.INDEX)
      s3.bootFail 5
  else s

/-- The check of one page ends, and the writes held meanwhile are applied in order (R52, R58). -/
def State.checkOne (s : State) (p : Nat) (fault : Bool) : State :=
  let s1 := (s.judgePage p fault).bootChecked p
  let mine := s1.page.held.filter (fun h => h.page == p)
  mine.foldl (fun t h => t.busWrite h.page h.off h.mask h.data h.src)
    { s1 with page := { s1.page with held := s1.page.held.filter (fun h => h.page != p) } }

/-- The check of a page ends (R52, R56): checks that arrived earlier on its die end first (R57). -/
def State.checkEnd (s : State) (p : Nat) (fault : Bool) : State :=
  if s.page.checks.contains p then
    let before := (s.page.checks.takeWhile (fun q => q != p)).filter (fun q => guardPage q == guardPage p)
    (before.foldl (fun st q => st.checkOne q false) s).checkOne p fault
  else s

/-- Is the SerDes PLL locked now (R331)? -/
def State.serdesNow (s : State) (locked : Bool) : State := { s with pwr := { s.pwr with serdes := locked } }

/-! Commands. -/

/-- A write of firmware to PCTL, with the bits it does not change as they stand. -/
def State.pctlCmd (s : State) (p : Nat) (f : Word → Word) : State :=
  let cur := s.rd p 4
  s.busWrite p 4 0xFFFFFFFF (f (cur &&& 0xFFFFFFFB)) .host

/-- A write to the MSI-X table through BAR0 (R376): page number 0x2000 stands for offset 0x0300_0000. The layout of an entry
is that of PCI Express (PRESUMED, assumption log 5). -/
def State.msixWrite (s : State) (off : Nat) (d : Word) : State :=
  let v := off / 16
  match s.bridge.msix[v]? with
  | none => s
  | some e =>
    let put := fun (x : MsixEnt) => { s with bridge := { s.bridge with msix := setNth s.bridge.msix v x } }
    match off % 16 with
    | 0 => put { e with addr := natPut e.addr 0 32 d.toNat }
    | 4 => put { e with addr := natPut e.addr 32 32 d.toNat }
    | 8 => put { e with data := d.toNat }
    | _ => if natBit d.toNat 0 then put { e with masked := true } else s.unmask v

def execPageEnable (clk page : Nat) (data : Word) (s : State) : Host.Outcome State Fault Refusal :=
  .next ((s.advance clk).busWrite page 4 0xFFFFFFFF (data ||| 1) .host)

def execEnableCheckEnd (clk : Nat) (chk : CheckEnd) (s : State) : Host.Outcome State Fault Refusal :=
  .next (((s.advance clk).serdesNow chk.serdes).checkEnd chk.page chk.broken)

def execPageStop (clk page : Nat) (data : Word) (s : State) : Host.Outcome State Fault Refusal :=
  .next ((s.advance clk).busWrite page 4 0xFFFFFFFF (data &&& 0xFFFFFFFE) .host)

def execPageStopDone (clk page : Nat) (s : State) : Host.Outcome State Fault Refusal :=
  .next ((s.advance clk).stopEnd page)

def execPageHoldSet (clk page : Nat) (s : State) : Host.Outcome State Fault Refusal :=
  .next ((s.advance clk).pctlCmd page (fun w => w ||| 2))

def execPageHeldReached (clk page : Nat) (s : State) : Host.Outcome State Fault Refusal :=
  .next ((s.advance clk).heldReached page)

def execPageClr (clk page : Nat) (s : State) : Host.Outcome State Fault Refusal :=
  .next ((s.advance clk).pctlCmd page (fun w => w ||| 4))

def execPageClrDone (clk page : Nat) (s : State) : Host.Outcome State Fault Refusal :=
  .next ((s.advance clk).clrEnd page)

def execPageLock (clk page : Nat) (data : Word) (s : State) : Host.Outcome State Fault Refusal :=
  .next ((s.advance clk).busWrite page 4 0xFFFFFFFF (data ||| 0x100) .host)

def execPevtClear (clk page : Nat) (data : Word) (s : State) : Host.Outcome State Fault Refusal :=
  .next ((s.advance clk).busWrite page 0x0C 0xFFFFFFFF data .host)

def execPevtForce (clk page : Nat) (data : Word) (s : State) : Host.Outcome State Fault Refusal :=
  .next ((s.advance clk).busWrite page 0x14 0xFFFFFFFF data .host)

def execPevmWrite (clk page : Nat) (data : Word) (s : State) : Host.Outcome State Fault Refusal :=
  .next ((s.advance clk).busWrite page 0x10 0xFFFFFFFF data .host)

def execBlockFault (clk page : Nat) (s : State) : Host.Outcome State Fault Refusal :=
  .next ((s.advance clk).faultIn page)

end Sys2Proof.Machine
end

