-- ==== Sys2Proof/Machine/Boot.lean ====
section
/-!
DEFINITION. Start-up and boot (R509–R523), and the resets as commands (R510, R524–R527).
-/

namespace Sys2Proof.Machine

/-! Steps 3 to 6 (R509). -/

/-- STAGE of the start-up (R509, R528). -/
def State.stage_ (s : State) : Nat := s.get pSYS F.SYS.BOOTSTS.STAGE

/-- The PLLs lock (R509). -/
def State.pllLock (s : State) : State :=
  if s.coreOn && s.stage_ == 0 then (s.serdesNow true).set pSYS F.SYS.BOOTSTS.STAGE 1 else s

/-- The calibration set is checked and loaded (R512). -/
def State.calLoad (s : State) : State :=
  if s.coreOn && s.stage_ == 1 then s.calReload.set pSYS F.SYS.BOOTSTS.STAGE 2 else s

/-- The pages of a ring boot (R517). -/
def ringBootPages : List Nat := [pDATUM, pSTAMP, pPORT 0, pPORT 1, pBUFMEM, pFDB, pSWITCH, pHSR, pBRIDGE]

/-- Ring boot enables its pages with their reset values and OPEN_WR = 1 (R517). -/
def State.ringBoot (s : State) : State :=
  let s1 := s.set pBRIDGE F.BRIDGE.TGT.OPEN_WR 1
  let s2 := { s1 with boot := { s1.boot with ring := true } }
  ringBootPages.foldl (fun st p => (st.pctlWrite p 1 1).checkOne p false) s2

/-- The memory self-test ends (R513, R514). -/
def State.selfTest (s : State) (failed : List Nat) (uncorr : Bool) : State :=
  if !(s.coreOn && s.stage_ == 2) then s
  else if uncorr then
    (((s.set pSYS F.SYS.BOOTSTS.STAGE 9).set pSYS F.SYS.BOOTSTS.ERR 7).blockFault pSYS).event pSYS 10
  else
    let s1 := { s with sw := { s.sw with selfFailed := failed.filter (fun k => decide (k < 9)) } }
    match s1.get pSYS F.SYS.STRAP.BOOT with
    | 3 => s1.set pSYS F.SYS.BOOTSTS.STAGE 8
    | 2 => (s1.set pSYS F.SYS.BOOTSTS.STAGE 3).ringBoot
    | _ => s1.set pSYS F.SYS.BOOTSTS.STAGE 3

/-! The image (R514–R520). -/

/-- Is the image in flash (R514)? -/
def State.flashBoot (s : State) : Bool := s.get pSYS F.SYS.STRAP.BOOT == 0

/-- An image failed (R514): in flash, the alternate image is tried after ERR 0x01, 0x02 or 0x03. -/
def State.imageFail (s : State) (err : Nat) : State :=
  if s.flashBoot && !s.flag pSYS F.SYS.BOOTSTS.ALT && decide (err ≤ 3) then
    let s1 := (s.set pSYS F.SYS.BOOTSTS.ALT 1).set pSYS F.SYS.BOOTSTS.STAGE 3
    { s1 with boot := { s1.boot with image := [] } }
  else s.bootFail err

/-- The image has been read from its source (R514–R517). In host boot it has at most BOOT_LEN bytes, and in ring boot it is
what was written to BOOTDATA, up to BOOT_LEN bytes. -/
def State.fetched (s : State) (image : Option (List Byte)) : State :=
  if !(s.coreOn && s.stage_ == 3 && (s.flashBoot || s.flag pSYS F.SYS.BOOTCTL.GO)) then s
  else
    let s1 := s.set pSYS F.SYS.BOOTCTL.GO 0
    let len := s.get pSYS F.SYS.BOOT_LEN.BYTES
    let img := if s.boot.ring then some (s.boot.image.take len)
      else if s.flashBoot then image else image.map (fun b => b.take len)
    match img with
    | none => s1.imageFail 1
    | some b =>
      let s2 := s1.set pSYS F.SYS.BOOTSTS.STAGE 4
      { s2 with boot := { s2.boot with image := b } }

/-- A little-endian field of the image. -/
def imf (b : List Byte) (i n : Nat) : Nat := ofLE (slice b i n)

/-- The writes of a PAGE entry: offsets 0x040–0xFFC of words, with two bytes of 0 (R519). -/
def pageBodyOk (b : List Byte) : Bool :=
  b.length % 8 == 4 && (List.range (b.length / 8)).all (fun i =>
    decide (0x40 ≤ imf b (8 * i) 2) && decide (imf b (8 * i) 2 ≤ 0xFFC) && imf b (8 * i) 2 % 4 == 0 && imf b (8 * i + 2) 2 == 0)

/-- Does an entry have a known type and a body of the right length (R519)? -/
def entryOk (typ page : Nat) (body : List Byte) : Bool :=
  if typ = 1 then pageBodyOk body
  else if typ = 2 then decide (0x10 ≤ page) && decide (page ≤ 0x1F) && decide (36 ≤ body.length) &&
    body.length == 36 + 4 * imf body 6 1
  else typ == 3 && body.length == 12

/-- Do `n` well-formed entries fill the bytes? -/
def entriesOk : Nat → List Byte → Bool
  | 0, b => b.isEmpty
  | n + 1, b =>
    let len := imf b 2 2
    decide (4 + len ≤ b.length) && entryOk (imf b 0 1) (imf b 1 1) ((b.drop 4).take len) && entriesOk n (b.drop (4 + len))

/-- Bytes of the trailer by AUTH (R518). -/
def trailerLen (auth : Nat) : Nat := if auth = 1 then 48 else if auth = 2 then 241 else 0

/-- Is the format of R518 and R519 met? -/
def imageOk (b : List Byte) : Bool :=
  let auth := imf b 5 1
  let len := imf b 8 4
  imf b 4 1 == 1 && decide (auth ≤ 2) && (auth != 0 || imf b 6 2 == 0) && decide (20 ≤ len) && decide (len ≤ 0x100000) &&
    imf b 14 2 == 0 && decide (len + trailerLen auth ≤ b.length) && imf b (len - 4) 4 == crc32c (b.take (len - 4)) &&
    entriesOk (imf b 12 2) ((b.take (len - 4)).drop 16)

/-- The boot key of an image: a slot of TYPE 0x2 with USE BOOT, for use in the current state (R520). -/
def State.bootKey (s : State) (b : List Byte) : Option (List Byte) :=
  match s.handleOf (imf b 6 2) with
  | some (_, k) => if attrType k.attr == 2 && s.mayUse k useBOOT then some k.key else none
  | none => none

/-- Does the trailer verify under the boot key (R518)? -/
def trailerOk (key b : List Byte) : Bool :=
  let len := imf b 8 4
  let t := b.drop len
  if imf b 5 1 = 1 then t.take 48 == Config.hmacSha384 key (b.take len)
  else
    let pub := t.take 97
    (t.drop 97).take 48 == Config.hmacSha384 key pub &&
      Config.ecdsaVerify pub (Config.sha384 (b.take len)) ((t.drop 145).take 96)

/-- The judgement of an image (R520): an error, or acceptance with UNVERIFIED. -/
def State.judgeImage (s : State) (b : List Byte) : Nat × Bool :=
  if imf b 0 4 ≠ 0x4F584231 then (1, false)
  else if !imageOk b then (2, false)
  else
    let early := decide (s.mon.fuse ≤ 2)
    let verify : Nat × Bool := match s.bootKey b with
      | none => (4, false)
      | some k => if trailerOk k b then (0, false) else (3, false)
    if imf b 5 1 = 0 then (if early then (0, false) else (3, false))
    else if s.monReady then verify
    else (0, true)

/-- Ring boot's pages are stopped with CLR, last first (R517). -/
def State.ringClear (s : State) : State :=
  if s.boot.ring then
    ringBootPages.reverse.foldl (fun st p => (st.clrBegin p (st.rd p 4)).clrEnd p)
      { s with boot := { s.boot with ring := false } }
  else s

/-- The image is judged, and accepted or refused (R520, R521). -/
def State.authed (s : State) : State :=
  if !(s.coreOn && s.stage_ == 4) then s
  else
    let b := s.boot.image
    let r := s.judgeImage b
    if r.1 ≠ 0 then s.imageFail r.1
    else
      let s1 := ((s.setB pSYS F.SYS.BOOTSTS.UNVERIFIED r.2).ringClear).set pSYS F.SYS.BOOTENT.ENTRY 0
      let rest := (b.take (imf b 8 4 - 4)).drop 16
      let s2 := { s1 with boot := { s1.boot with image := [], rest := rest, page := none, wait := none } }
      if rest = [] then (s2.set pSYS F.SYS.BOOTSTS.STAGE 7).event pSYS 9 else s2.set pSYS F.SYS.BOOTSTS.STAGE 5

/-! Entries (R519, R521). -/

/-- The entry the loader stands at: TYPE, page, body. -/
def State.entry (s : State) : Nat × Nat × List Byte :=
  let b := s.boot.rest
  (imf b 0 1, imf b 1 1, (b.drop 4).take (imf b 2 2))

/-- May the loader take up an entry of this type? -/
def State.entryReady (s : State) (typ : Nat) : Bool :=
  s.coreOn && (s.stage_ == 5 || (s.stage_ == 6 && typ == 3)) && s.boot.rest != [] && s.boot.page.isNone && s.entry.1 == typ

/-- The loader leaves an entry behind. -/
def State.entryPop (s : State) : State :=
  { s with boot := { s.boot with rest := s.boot.rest.drop (4 + imf s.boot.rest 2 2), wait := none } }

/-- A PAGE entry (R519): its writes in order, then PCTL. Entries for EAST and WEST are skipped where NID reads 0 (R521). -/
def State.entryPage (s : State) : State :=
  if !s.entryReady 1 then s
  else
    let p := s.entry.2.1
    let b := s.entry.2.2
    let s1 := s.entryPop
    if s.nid = 0 ∧ (p = pPORT 0 ∨ p = pPORT 1) then s1.entryDone
    else
      let s2 := (List.range (b.length / 8)).foldl (fun st i =>
        st.busWrite p (imf b (8 * i) 2) 0xFFFFFFFF (w32 (imf b (8 * i + 4) 4)) .boot) s1
      let s3 := s2.busWrite p 4 0xFFFFFFFF (w32 (imf b (b.length - 4) 4)) .boot
      if s3.page.checks.contains p then { s3 with boot := { s3.boot with page := some p } } else s3.entryDone

/-- Does a loader accept a program image for crew `c` (R246, R247)? -/
def programOk (c : Nat) (b : List Byte) : Bool :=
  imf b 0 4 == 0x50584C4F && imf b 4 1 == 1 && (imf b 5 1 == c || imf b 5 1 == 0xFF) && decide (1 ≤ imf b 6 1) &&
    decide (imf b 6 1 ≤ 128) && decide (imf b 7 1 < 4) && (List.range 4).all (fun k => decide (imf b (8 + k) 1 < 128)) &&
    decide (imf b 12 1 < 16) && imf b 13 3 == 0 && imf b 32 4 == crc32c (b.take 32 ++ b.drop 36)

/-- The writes of a loader (R247). -/
def State.loadProgram (s : State) (c : Nat) (b : List Byte) : State :=
  let p := pCREW c
  let bank := 1 - s.get p F.CREW.STS.ACTIVE
  let w := fun (st : State) (off v : Nat) => st.busWrite p off 0xFFFFFFFF (w32 v) .boot
  let s1 := (List.range 128).foldl (fun st i =>
    w st (0x800 + 0x200 * bank + 4 * i) (if i < imf b 6 1 then imf b (36 + 4 * i) 4 else 0)) s
  let s2 := w s1 (0x60 + 4 * bank) (imf b 8 4)
  let s3 := (List.range 4).foldl (fun st k => w st (0x70 + 4 * k) (imf b (16 + 4 * k) 4)) s2
  w s3 0x40 1

/-- A PROGRAM entry (R519). An image that the loader does not accept, or whose swap is refused, ends the boot as a refused
entry (DEDUCED, assumption log 21). -/
def State.entryProgram (s : State) : State :=
  if !s.entryReady 2 then s
  else
    let c := s.entry.2.1 - 0x10
    let b := s.entry.2.2
    if programOk c b then
      let s1 := s.entryPop.loadProgram c b
      if s1.get (pCREW c) F.CREW.STS.ACTIVE != s.get (pCREW c) F.CREW.STS.ACTIVE || s1.flag (pCREW c) F.CREW.STS.BUSY then
        s1.entryDone
      else
        let s2 := (s1.set pSYS F.SYS.BOOTERR.PAGE (pCREW c)).set pSYS F.SYS.BOOTERR.CODE (s1.get (pCREW c) F.HDR.PSTS.CODE)
        (s2.set pSYS F.SYS.BOOTERR.INDEX (s1.get (pCREW c) F.HDR.PSTS.INDEX)).bootFail 5
    else (s.set pSYS F.SYS.BOOTERR.PAGE (pCREW c)).bootFail 5

/-- Does the register a WAIT names, AND its mask, equal its value (R519)? -/
def State.waitMet (s : State) (p off mask value : Nat) : Bool := ((s.feedRead p off).2.toNat &&& mask) == value

/-- A WAIT on an offset that is no register is an address error (R34); its read has no other effect. -/
def State.waitLook (s : State) (p off : Nat) : State :=
  if (rowAt p off).isNone then s.addressError (s.issued (s.regAddr p off) .boot) .boot else s

/-- A WAIT entry (R519): the loader looks at the register, and goes on when it reads as asked. -/
def State.entryWait (s : State) : State :=
  if !s.entryReady 3 then s
  else
    let p := s.entry.2.1
    let b := s.entry.2.2
    let ms := imf b 2 2
    let s0 := s.waitLook p (imf b 0 2)
    if s.waitMet p (imf b 0 2) (imf b 4 4) (imf b 8 4) then s0.entryPop.entryDone
    else if s.boot.wait.isSome then s0
    else
      let s1 := s0.set pSYS F.SYS.BOOTSTS.STAGE 6
      { s1 with boot := { s1.boot with
        wait := some (p, imf b 0 2, imf b 4 4, imf b 8 4, if ms = 0 then none else some (s.clock + 2000000 * ms)) } }

/-- A WAIT times out (R521). -/
def State.waitTimeout (s : State) : State :=
  match s.boot.wait with
  | some (p, _, _, _, some t) => ((s.advance t).set pSYS F.SYS.BOOTERR.PAGE p).bootFail 6
  | _ => s

/-! Commands. -/

/-- The straps at the balls (R511). -/
def State.withStraps (s : State) (nid role boot : Nat) : State :=
  { s with pwr := { s.pwr with straps := { nid := nid % 128, role := role % 8, boot := boot % 4 } } }

def execCorePorRelease (clk nid role boot : Nat) (s : State) : Host.Outcome State Fault Refusal :=
  .next ((s.advance clk).withStraps nid role boot).coreRelease

def execPllLock (clk : Nat) (s : State) : Host.Outcome State Fault Refusal := .next (s.advance clk).pllLock

def execCalLoadDone (clk : Nat) (s : State) : Host.Outcome State Fault Refusal := .next (s.advance clk).calLoad

def execSelfTestDone (clk : Nat) (failed : List Nat) (uncorr : Bool) (s : State) : Host.Outcome State Fault Refusal :=
  .next ((s.advance clk).selfTest failed uncorr)

def execBootFetchDone (clk : Nat) (image : Option (List Byte)) (s : State) : Host.Outcome State Fault Refusal :=
  .next ((s.advance clk).fetched image)

def execBootAuthDone (clk : Nat) (s : State) : Host.Outcome State Fault Refusal := .next (s.advance clk).authed

def execBootGo (clk : Nat) (s : State) : Host.Outcome State Fault Refusal :=
  .next ((s.advance clk).busWrite pSYS 0x6C 1 1 .host)

def execBootDataWrite (clk : Nat) (data : Word) (s : State) : Host.Outcome State Fault Refusal :=
  .next ((s.advance clk).busWrite pSYS 0x70 0xFFFFFFFF data .manager)

def execBootEntryPage (clk : Nat) (s : State) : Host.Outcome State Fault Refusal := .next (s.advance clk).entryPage

def execBootEntryProgram (clk : Nat) (s : State) : Host.Outcome State Fault Refusal := .next (s.advance clk).entryProgram

def execBootEntryWait (clk : Nat) (s : State) : Host.Outcome State Fault Refusal := .next (s.advance clk).entryWait

def execBootWaitTimeout (s : State) : Host.Outcome State Fault Refusal := .next s.waitTimeout

def execRstNAssert (clk : Nat) (s : State) : Host.Outcome State Fault Refusal := .next (s.advance clk).rstLow

def execRstNRelease (clk nid role boot : Nat) (s : State) : Host.Outcome State Fault Refusal :=
  .next ((s.advance clk).withStraps nid role boot).rstHigh

def execWdogArm (clk : Nat) (data : Word) (s : State) : Host.Outcome State Fault Refusal :=
  .next ((s.advance clk).busWrite pRESET 0x4C 0xFFFFFFFF (data ||| 4) .host)

def execWdogKick (clk : Nat) (s : State) : Host.Outcome State Fault Refusal :=
  .next ((s.advance clk).busWrite pRESET 0x50 0xFFFFFFFF 0x4B490001 .host)

def execWdogExpire (s : State) : Host.Outcome State Fault Refusal := .next s.wdogExpire

def execWdogDelayedReset (s : State) : Host.Outcome State Fault Refusal := .next s.wdogDelayed

def execResetCmd (clk : Nat) (s : State) : Host.Outcome State Fault Refusal :=
  .next ((s.advance clk).busWrite pRESET 0x44 0xFFFFFFFF 0x52530001 .host)

def execResetCmdFire (s : State) : Host.Outcome State Fault Refusal := .next s.cmdFire

def execDomainReset (clk map : Nat) (s : State) : Host.Outcome State Fault Refusal :=
  .next ((s.advance clk).busWrite pRESET 0x48 0x3FFFF (w32 map) .host)

def execDomainResetDone (clk map : Nat) (s : State) : Host.Outcome State Fault Refusal :=
  .next ((s.advance clk).domainDone map)

end Sys2Proof.Machine
end

