-- ==== Sys2Proof/Machine/Access.lean ====
section
/-!
DEFINITION. Accesses by address (R31–R36, R380): the ranges of the local address map, in the aligned 8-byte blocks in
which the bridge and the ring carry them. A block has a mask of the bytes it touches.
-/

namespace Sys2Proof.Machine

/-- Fields of a ring-wide address (R31, R33). -/
def adrNode (a : Nat) : Nat := natField a 40 8
def adrMember (a : Nat) : Nat := natField a 38 2
def adrLocal (a : Nat) : Nat := a % 2 ^ 38

/-- The ranges of R33. -/
inductive Range where
  | mirror
  | book
  | diag
  | regs
  | capture
  | none
deriving DecidableEq, Repr

def rangeOf (a : Nat) : Range :=
  if a < 0x80000 then .mirror
  else if 0x100000 ≤ a ∧ a < 0x200000 then .book
  else if 0x400000 ≤ a ∧ a < 0x800000 then .diag
  else if 0x1000000 ≤ a ∧ a < 0x2000000 then .regs
  else if 0x2000000 ≤ a ∧ a < 0x2040000 then .capture
  else .none

/-- Is a byte mask one naturally aligned access of 1, 2, 4 or 8 bytes, or of 4 or 8? -/
def natMask (m : Nat) : Bool :=
  [1, 2, 4, 8, 16, 32, 64, 128, 3, 12, 48, 192, 15, 240, 255].contains m
def wordMask (m : Nat) : Bool := m == 15 || m == 240 || m == 255

/-- First byte and length of the bytes of a natural mask. -/
def maskSpan (m : Nat) : Nat × Nat :=
  let l := (List.range 8).filter (natBit m)
  (l.headD 0, l.length)

/-- The halves of a block that a mask touches. -/
def halves (m : Nat) : List Nat := (List.range 2).filter (fun h => natField m (4 * h) 4 != 0)

/-- Page and offset of a register address. -/
def regPage (a : Nat) : Nat := (a - 0x1000000) / 4096
def regOff (a : Nat) : Nat := a % 4096

/-! Reads. -/

/-- One register word at an address as issued, and whether it is an address error (R34), which is captured by that address (R35). -/
def State.readWord (s : State) (addr : Nat) (src : Source) : State × List Byte × Bool :=
  let a := adrLocal addr
  let page := (runOf (regPage a)).isSome
  let s1 := s.busRead (regPage a) (regOff a) src
  if page && (rowAt (regPage a) (regOff a)).isSome then (s1, leBytes 4 (s1.result.getD 0xFFFFFFFF).toNat, false)
  else (s.addressError addr src, leBytes 4 (if page then 0 else 0xFFFFFFFF), true)

/-- A block of the register pages: the words touched, lower first (R380). -/
def State.readRegs (s : State) (addr m : Nat) (src : Source) : State × List Byte × Bool :=
  let ones : List Byte := List.replicate 4 0xFF
  let lo := if (halves m).contains 0 then s.readWord addr src else (s, ones, false)
  let hi := if (halves m).contains 1 then lo.1.readWord (addr + 4) src else (lo.1, ones, false)
  (hi.1, lo.2.1 ++ hi.2.1, lo.2.2 || hi.2.2)

/-- Bytes of the mirror at a local address: visible window below 0x40000, working window above (R144). -/
def State.mirrorBlock (s : State) (a : Nat) : List Byte :=
  (List.range 8).map (fun i => s.mirrorByte (a / 0x40000) (a % 0x40000 + i))

/-- Bytes of the switch buffer through its diagnostic window, in the order of the cells (R33, R348; which byte of the window shows
which byte of a cell is DEDUCED, assumption log 53): the words of the data banks, each as it is read. -/
def State.diagBlock (s : State) (a : Nat) : List Byte := s.bankWord (a / 64) (a % 64 / 8)

/-- A read of a block at a local address (R33, R34): the state after it, its bytes, and whether it is an address error,
which reads as all ones. -/
def State.localRead (s : State) (addr m : Nat) (src : Source) : State × List Byte × Bool :=
  let a := adrLocal addr
  let bad : State × List Byte × Bool := (s.addressError addr src, List.replicate 8 0xFF, true)
  match rangeOf a with
  | .mirror => if natMask m then (s, s.mirrorBlock a, false) else bad
  | .book => if wordMask m then (s, s.ldBytes a 8, false) else bad
  | .diag => if wordMask m then (s, s.diagBlock (a - 0x400000), false) else bad
  | .regs => s.readRegs addr m src
  | .capture => if wordMask m then (s, s.ldBytes a 8, false) else bad
  | .none => bad

/-! Writes. -/

/-- Is the write of a block an address error (R34, R139, R380)? -/
def State.writeBad (s : State) (addr m : Nat) : Bool :=
  let a := adrLocal addr
  match rangeOf a with
  | .mirror => !(natMask m && decide (a < 0x40000) && s.ownOutput (a + (maskSpan m).1) (maskSpan m).2)
  | .regs => !((halves m).all (fun h => natField m (4 * h) 4 == 15 &&
      (rowAt (regPage (a + 4 * h)) (regOff (a + 4 * h))).isSome))
  | _ => true

/-- The bytes of a block as a register word. -/
def blockWord (d : List Byte) (h : Nat) : Word := w32 (ofLE (slice d (4 * h) 4))

/-- A write of one register word of a block at an address as issued (R33–R35, R380); a word with only some of its bytes is discarded. -/
def State.writeHalf (s : State) (addr m : Nat) (d : List Byte) (src : Source) (h : Nat) : State :=
  let a := adrLocal addr + 4 * h
  if natField m (4 * h) 4 = 15 && (runOf (regPage a)).isSome && (rowAt (regPage a) (regOff a)).isSome then
    s.busWrite (regPage a) (regOff a) 0xFFFFFFFF (blockWord d h) src
  else s.addressError (addr + 4 * h) src

/-- A write of a block at a local address (R33, R34, R139, R380). Each register word is a write of its own. -/
def State.localWrite (s : State) (addr m : Nat) (d : List Byte) (src : Source) : State :=
  let a := adrLocal addr
  match rangeOf a with
  | .mirror =>
    if s.writeBad addr m then s.addressError addr src
    else s.stageBytes (a + (maskSpan m).1) (slice d (maskSpan m).1 (maskSpan m).2)
  | .regs =>
    (halves m).foldl (fun st h => st.writeHalf addr m d src h) s
  | _ => s.addressError addr src

end Sys2Proof.Machine
end

