-- ==== Sys2Proof/Machine/Bridge.lean ====
section
/-!
DEFINITION. The host bridge: BAR2 windows and their ring transactions, order and judgement at the target, replies and
time-outs, late errors, and the host's transmit ring (R375–R388, R392–R394).
-/

namespace Sys2Proof.Machine

/-! Transactions on the ring (R378). -/

/-- The 24 bytes of a transaction. -/
def transBytes (t : Trans) : List Byte :=
  beBytes 2 t.tseq ++ beBytes 1 t.op ++ beBytes 1 t.status ++ beBytes 1 t.mask ++ beBytes 1 0 ++ beBytes 2 t.tag ++
    beBytes 2 0 ++ beBytes 6 t.addr ++ slice t.data 0 8

/-- MGMT frames of at most 16 transactions to a hub: over the ring, or, to another hub of this node, over the gang link or the backsight
links (R378; the backsight links are DEDUCED, assumption log 100). -/
def State.sendTrans (s : State) (node member : Nat) : Nat → List Trans → State
  | 0, _ => s
  | k + 1, l =>
    if l = [] then s
    else
      let c := l.take 16
      let f := s.spanen s.mda 5 0 s.hdrCycle (mgmtSpec 1 node member c.length) (c.flatMap transBytes) none
      let s1 := if node != s.nid then s.sendRing f
        else if s.inGang then s.sendMember member f none else s.sendCopies [2, 3] f none none
      s1.sendTrans node member k (l.drop 16)

/-- Sequence numbers towards a destination start at 0. DESIGN CHOICE (assumption log 22). -/
def tseqDefault (_ : Nat) : Nat := 0

/-- Is a member of this node present (R36)? -/
def State.memberThere (s : State) (m : Nat) : Bool :=
  if s.inGang then s.memFitted m else if s.role = 1 ∨ s.role = 2 then decide (m < 2) else m == 0

/-! Host accesses through BAR2 (R377–R380). -/

/-- What BAR0 and PCI Express show of the bridge's identity (R375): device ID and class code. -/
def pcieDevice : Nat := 0x6024
def pcieClass : Nat := 0x088000

/-- Window of a BAR2 offset, its register, and the ring-wide address (R377). -/
def winOf (off : Nat) : Nat := off / 2 ^ 28 % 16
def State.winReg (s : State) (w : Nat) : Nat := (s.rd pWINDOWS (0x40 + 4 * w)).toNat
def winAddr (win off : Nat) : Nat := natField win 0 20 * 2 ^ 28 + off % 2 ^ 28

/-- The 8-byte blocks of an access, in address order: address, mask, bytes (R378, R380). -/
def blocksOf (a : Nat) (d : List (Option Byte)) : List (Nat × Nat × List Byte) :=
  let first := a / 8
  let n := if d.isEmpty then 0 else (a + d.length - 1) / 8 - first + 1
  ((List.range n).map (fun k =>
    let at_ := fun j => let x := 8 * (first + k) + j
      if a ≤ x ∧ x < a + d.length then nth d (x - a) none else none
    (8 * (first + k), mapOf 8 (fun j => (at_ j).isSome), (List.range 8).map (fun j => (at_ j).getD 0)))).filter
      (fun b => b.2.1 != 0)

/-- Complete a host read. -/
def State.complete (s : State) (tag : Nat) (b : List Byte) : State := s.post (.completion tag b)
def State.completeOnes (s : State) (r : HostReq) : State :=
  if r.isRead then s.complete r.tag (List.replicate r.len 0xFF) else s

/-- The bytes of a host read from those of its blocks, by address; what is missing reads as all ones. -/
def gatherBytes (a len : Nat) (l : List (Nat × Byte)) : List Byte :=
  (List.range len).map (fun j => match l.find? (fun e => e.1 == a + j) with | some e => e.2 | none => 0xFF)

/-- A block's bytes with their addresses. -/
def blockBytes (a : Nat) (d : List Byte) : List (Nat × Byte) := (List.range 8).map (fun j => (a + j, nth d j 0xFF))

/-- The host as the source of an access at a ring-wide address: by number where the address names a node (R35). -/
def hostSrc (a : Nat) : Source := if adrNode a = 0 then .host else .hostRing

/-- Read one block inside the hub, after those before it. -/
def State.localNext (st : State × List (Nat × Byte)) (b : Nat × Nat × List Byte) : State × List (Nat × Byte) :=
  let t := st.1.localRead b.1 b.2.1 (hostSrc b.1)
  (t.1, st.2 ++ blockBytes b.1 t.2.1)

/-- A host access served inside the hub (R378). -/
def State.localReq (s : State) (r : HostReq) (a : Nat) (blocks : List (Nat × Nat × List Byte)) : State :=
  if r.isRead then
    let res := blocks.foldl State.localNext (s, [])
    res.1.complete r.tag (gatherBytes a r.len res.2)
  else blocks.foldl (fun st b => st.localWrite b.1 b.2.1 b.2.2 (hostSrc b.1)) s

/-- One transaction towards another hub: the next sequence number and a tag of its own. -/
def State.issueOne (s : State) (r : HostReq) (op w node member : Nat) (b : Nat × Nat × List Byte) : State × Trans :=
  let key := node * 4 + member
  let q := tabGet tseqDefault s.bridge.tseq key
  let tag := s.bridge.nextTag
  let o : Outst := {
    tag := tag, win := w, isRead := r.isRead, node := node, member := member, addr := b.1, mask := b.2.1, hostTag := r.tag,
    due := s.clock + 2000 * s.get pBRIDGE F.BRIDGE.NP_TIMEOUT.US }
  ({ s with bridge := { s.bridge with
      tseq := tabPut tseqDefault s.bridge.tseq key ((q + 1) % 2 ^ 16), nextTag := (tag + 1) % 2 ^ 16,
      outstanding := if op = 0x11 then s.bridge.outstanding else s.bridge.outstanding ++ [o] } },
   { tseq := q, op := op, status := 0, mask := b.2.1, tag := tag, addr := b.1, data := b.2.2 })

/-- Issue one block of an access, after those before it. -/
def State.issueNext (r : HostReq) (op w node member : Nat) (st : State × List Trans) (b : Nat × Nat × List Byte) :
    State × List Trans :=
  let t := st.1.issueOne r op w node member b
  (t.1, st.2 ++ [t.2])

/-- A host access carried to another hub (R378–R380). -/
def State.remoteReq (s : State) (r : HostReq) (w a node member : Nat) (blocks : List (Nat × Nat × List Byte)) : State :=
  let op := if r.isRead then 0x10 else if natBit r.win 30 then 0x11 else 0x12
  let s1 := if r.isRead then
      { s with bridge := { s.bridge with reads := s.bridge.reads ++
        [{ tag := r.tag, addr := a, len := r.len, missing := blocks.length, bytes := [] }] } }
    else s
  let res := blocks.foldl (State.issueNext r op w node member) (s1, [])
  res.1.sendTrans node member blocks.length res.2

/-- A broadcast write of a plat output region (R31, R139, R378): this node takes its own part of it too. -/
def State.broadcastReq (s : State) (r : HostReq) (w a : Nat) (blocks : List (Nat × Nat × List Byte)) : State :=
  let s1 := blocks.foldl (fun st b => if st.writeBad b.1 b.2.1 then st else st.localWrite b.1 b.2.1 b.2.2 .host) s
  s1.remoteReq r w a 0xFF 0 blocks

/-- May a block of a write be broadcast: an aligned write through the visible window, within the output region of one
parcel (R31, R139)? -/
def State.broadcastOk (s : State) (b : Nat × Nat × List Byte) : Bool :=
  natMask b.2.1 && decide (adrLocal b.1 < 0x40000) &&
    s.anyOutput (adrLocal b.1 + (maskSpan b.2.1).1) (maskSpan b.2.1).2

/-- A byte of the MSI-X table, as PCI Express lays its entries out, or of the pending-bit array (R376; PRESUMED, assumption log 5). -/
def State.msixByte (s : State) (x : Nat) : Byte :=
  if x < 0x3001000 then
    match s.bridge.msix[(x - 0x3000000) / 16]? with
    | some e => nth (leBytes 8 e.addr ++ leBytes 4 e.data ++ leBytes 4 (bit e.masked)) (x % 16) 0
    | none => 0
  else nth (leBytes 8 (mapOf 32 (fun v => (s.bridge.msix[v]?).any (fun e => e.pend)))) (x % 8) 0

/-- Where a BAR0 offset leads: this hub's local addresses, the MSI-X table, the pending-bit array, or nowhere (R376). -/
def bar0Table (x : Nat) : Bool := decide (0x3000000 ≤ x) && decide (x < 0x3000200)
def bar0Pba (x : Nat) : Bool := decide (0x3001000 ≤ x) && decide (x < 0x3001008)

/-- A write of a word of the MSI-X table (R376). -/
def State.bar0Msix (s : State) (b : Nat × Nat × List Byte) (h : Nat) : State :=
  if natField b.2.1 (4 * h) 4 = 15 then s.msixWrite (b.1 + 4 * h - 0x3000000) (blockWord b.2.2 h) else s

/-- One block of a host access through BAR0 (R376, R380): the state, and the bytes of a read. -/
def State.bar0Read (st : State × List (Nat × Byte)) (b : Nat × Nat × List Byte) : State × List (Nat × Byte) :=
  if bar0Table b.1 || bar0Pba b.1 then (st.1, st.2 ++ blockBytes b.1 ((List.range 8).map (fun j => st.1.msixByte (b.1 + j))))
  else if b.1 < 0x2040000 then State.localNext st b
  else (st.1.addressError b.1 .host, st.2)
def State.bar0Write (s : State) (b : Nat × Nat × List Byte) : State :=
  if bar0Table b.1 then (halves b.2.1).foldl (fun st h => st.bar0Msix b h) s
  else if bar0Pba b.1 then s
  else if b.1 < 0x2040000 then s.localWrite b.1 b.2.1 b.2.2 .host
  else s.addressError b.1 .host

/-- A host access through BAR0 (R376), which never leaves this hub. -/
def State.bar0Req (s : State) (r : HostReq) : State :=
  if r.isRead then
    let res := (blocksOf r.off (List.replicate r.len (some 0))).foldl State.bar0Read (s, [])
    res.1.complete r.tag (gatherBytes r.off r.len res.2)
  else (blocksOf r.off r.data).foldl State.bar0Write s

/-- A host access at the head of class HR (R32, R36, R376–R379, R394). -/
def State.hostReq (s : State) (r : HostReq) : State :=
  if r.bar0 then s.bar0Req r else
  let w := winOf r.off
  let win := r.win
  let a := winAddr win r.off
  let d := if r.isRead then List.replicate r.len (some 0) else r.data
  let blocks := blocksOf a d
  let node := adrNode a
  let member := adrMember a
  let bad := (s.addressError a .host).completeOnes r
  if !natBit win 31 || natField win 20 9 != 0 || (!r.isRead && natBit win 29) then bad
  else if natBit (s.get pWINDOWS F.WINDOWS.WINSTS.ERR) w then (s.bump pBRIDGE F.BRIDGE.WINDROP.COUNT).completeOnes r
  else if node = 0 ∨ node = s.nid then
    if member = s.member then s.localReq r a blocks
    else if s.memberThere member then s.remoteReq r w a s.nid member blocks
    else bad
  else if node < 128 then s.remoteReq r w a node member blocks
  else if node == 0xFF && !r.isRead && blocks.all s.broadcastOk then s.broadcastReq r w a blocks
  else bad

/-- The queue of class HR that an access is in: its window's, or that of BAR0. -/
def hrQueue (r : HostReq) : Nat := if r.bar0 then 16 else winOf r.off

/-- Host reads and non-posted writes outstanding to other hubs: of the latter each window has one at most (R379, R383). -/
def State.hrOut (s : State) : Nat :=
  s.bridge.reads.length + ((List.range 16).filter (fun w => s.bridge.outstanding.any (fun o => !o.isRead && o.win == w))).length

/-- Must a host access wait: for a hold (R392), behind an access before it, for an unacknowledged write of its window (R379), or for one of
the 16 places of reads and non-posted writes (R383)? -/
def State.mustWait (s : State) (r : HostReq) : Bool :=
  s.held pBRIDGE || s.bridge.blocked.any (fun x => hrQueue x == hrQueue r) ||
    (!r.bar0 && (s.bridge.outstanding.any (fun o => !o.isRead && o.win == winOf r.off) ||
      decide (16 ≤ s.hrOut) && (r.isRead || !natBit r.win 30)))

/-- A decoded host access goes on, or waits. -/
def State.hostGo (s : State) (r : HostReq) : State :=
  if s.mustWait r then { s with bridge := { s.bridge with blocked := s.bridge.blocked ++ [r] } }
  else s.hostReq r

/-- Waiting accesses go on as far as they can. -/
def State.hrDrain (s : State) : State :=
  s.bridge.blocked.foldl State.hostGo { s with bridge := { s.bridge with blocked := [] } }

/-- The heads of classes HR and RH go on after what an access has changed, unless the bridge is held there (R392). -/
def State.classGo (s : State) : State := if s.held pBRIDGE || s.bridge.blocked = [] then s.rhGo else s.rhGo.hrDrain

/-- A host access is decoded with the window settings in force (R377); while WINDOWS does not run every window is off
(R394). -/
def State.hostArrive (s : State) (r : HostReq) : State :=
  (s.hostGo { r with win := if r.bar0 then 0 else if s.running pWINDOWS then s.winReg (winOf r.off) else 0 }).classGo

/-- Has class HR room for a write: fewer than 64 wait (R383)? A host whose write finds none sends it later (DEDUCED, assumption log
100). -/
def State.hrRoom (s : State) (r : HostReq) : Bool :=
  r.isRead || decide ((s.bridge.blocked.filter (fun x => !x.isRead)).length < 64)

/-- Host requests arrive only while the PCIe link is up (R392). -/
def State.hostIn (s : State) (r : HostReq) : State :=
  if s.coreOn && s.bridge.linkUp && s.hrRoom r then s.hostArrive r else s

/-- A host access at an offset of BAR2; from 2^32 on, past its end, of BAR0 (DESIGN CHOICE, assumption log 100: the table has no row of its
own for an access through BAR0 other than the write of one register). -/
def hostReqAt (off len tag : Nat) (isRead : Bool) (data : List (Option Byte)) : HostReq :=
  { off := if off < 2 ^ 32 then off else (off - 2 ^ 32) % 2 ^ 26, len := len, tag := tag, isRead := isRead, data := data, win := 0,
    bar0 := decide (2 ^ 32 ≤ off) }

/-! Order at the target (R381). -/

/-- Distance of a sequence number from the expected one. -/
def seqAhead (e t : Nat) : Nat := (t + 2 ^ 16 - e) % 2 ^ 16

/-- The 32 issuers heard most recently. -/
def State.putIssuer (s : State) (i : Issuer) : State :=
  let others := s.bridge.issuers.filter (fun x => !(x.node == i.node && x.member == i.member))
  { s with bridge := { s.bridge with issuers := (i :: others).take 32 } }

/-- An issuer that was not heard now keeps its place among the 32. -/
def State.updIssuer (s : State) (i : Issuer) : State :=
  { s with bridge := { s.bridge with
      issuers := s.bridge.issuers.map (fun x => if x.node == i.node && x.member == i.member then i else x) } }

/-- Reply to an issuer; a reply carries the TSEQ of its request (DEDUCED, assumption log 50). -/
def State.reply (s : State) (node member : Nat) (t : Trans) : State := s.sendTrans node member 1 [t]

/-- Who the write comes from, for the address-error capture (R46). -/
def State.ringSrc (s : State) (node : Nat) : Source := if node = s.nid then .gang else .manager

/-- Is the page of a register word locked for it (R64)? -/
def State.lockedWord (s : State) (a : Nat) : Bool :=
  s.flag (regPage a) F.HDR.PCTL.LOCK && regOff a != 0x0C && regOff a != 0x10

/-- Is this hub a fenced gang member (R36)? -/
def State.fencedMember (s : State) : Bool := s.inGang && s.fenced

/-- Does an address name this hub: by its member bits, or as every hub (R31, R36)? -/
def State.memberHere (s : State) (addr : Nat) : Bool := adrNode addr == 0xFF || adrMember addr == s.member

/-- The judgement of the tests of R382 after the first on a register word: the reason of a refusal, 0 for none. -/
def State.judgeReg (s : State) (port node member a : Nat) : Nat :=
  let open_ := s.flag pBRIDGE F.BRIDGE.TGT.OPEN_WR
  if !open_ && !(decide (port < 2) && s.protected port) then 5
  else if !open_ && !s.holdsLease node member then 2
  else if s.lockedWord a then 3 else 0

/-- One word of a ring write of the register pages (R380, R382): each is judged as a write of its own. A locked page takes the write as it
takes any (R64); the reason is that of the first word refused. -/
def State.ringHalf (port node member : Nat) (t : Trans) (src : Source) (st : State × Nat) (h : Nat) : State × Nat :=
  let a := adrLocal t.addr + 4 * h
  let bad := natField t.mask (4 * h) 4 != 15 || (runOf (regPage a)).isNone || (rowAt (regPage a) (regOff a)).isNone
  let why := if bad then 1 else if st.1.fencedMember then 4 else st.1.judgeReg port node member a
  let s1 := if bad || why = 4 then st.1.addressError (t.addr + 4 * h) src
    else if why = 0 || why = 3 then st.1.writeHalf t.addr t.mask t.data src h else st.1
  (s1, if st.2 = 0 then why else st.2)

/-- The judgement of a ring write and its effect (R382, R36, R139): the reason of a refusal, 0 for none. -/
def State.ringWrite (s : State) (port node member : Nat) (t : Trans) : State × Nat :=
  let a := adrLocal t.addr
  let src := s.ringSrc node
  if !s.memberHere t.addr then (s.addressError t.addr src, 1)
  else if adrNode t.addr = 0xFF then
    if rangeOf a != .mirror then (s.addressError t.addr src, 1)
    else if s.fencedMember then (s.addressError t.addr src, 4)
    else ((if s.writeBad t.addr t.mask then s else s.localWrite t.addr t.mask t.data src), 0)
  else if rangeOf a == .regs then (halves t.mask).foldl (State.ringHalf port node member t src) (s, 0)
  else if s.writeBad t.addr t.mask then (s.addressError t.addr src, 1)
  else if s.fencedMember then (s.addressError t.addr src, 4)
  else (s.localWrite t.addr t.mask t.data src, 0)

/-- A refusal joins the NOTICE that gathers for its issuer (R384); a full one leaves at once. -/
def State.gatherSend (s : State) (g : Gather) : State :=
  let s1 := { s with bridge := { s.bridge with
    gather := s.bridge.gather.filter (fun x => !(x.node == g.node && x.member == g.member)) } }
  s1.sendNotice (mgmtSpec 2 g.node g.member g.entries.length)
    (g.entries.flatMap (fun e => beBytes 6 e.addr ++ beBytes 1 e.reason ++ beBytes 1 0 ++ beBytes 8 e.t))

def State.refusePosted (s : State) (node member addr reason : Nat) : State :=
  let e : LateErr := { addr := addr, reason := reason, t := s.now }
  match s.bridge.gather.find? (fun x => x.node == node && x.member == member) with
  | none => { s with bridge := { s.bridge with
      gather := s.bridge.gather ++ [{ node := node, member := member, entries := [e], due := s.clockOf (s.now + 2000) }] } }
  | some g =>
    let g1 := { g with entries := g.entries ++ [e] }
    if g1.entries.length = 8 then s.gatherSend g1
    else { s with bridge := { s.bridge with
      gather := s.bridge.gather.map (fun x => if x.node == node && x.member == member then g1 else x) } }

/-- A transaction is applied at the target (R381, R382, R384). -/
def State.transApply (s : State) (node member port : Nat) (t : Trans) : State :=
  if t.op = 0x10 then
    let r := if s.memberHere t.addr then s.localRead t.addr t.mask (s.ringSrc node)
      else (s.addressError t.addr (s.ringSrc node), [], true)
    r.1.reply node member { t with op := 0x14, status := bit r.2.2, data := if r.2.2 then List.replicate 8 0xFF else r.2.1 }
  else
    let r := s.ringWrite port node member t
    if t.op = 0x12 then r.1.reply node member { t with op := 0x13, status := r.2 }
    else if r.2 = 0 then r.1 else r.1.refusePosted node member t.addr r.2

/-- The waiting transaction that comes next in order. -/
def nextWaiting (e : Nat) : List (Trans × Nat × Nat) → Option (Trans × Nat × Nat)
  | [] => none
  | x :: l => match nextWaiting e l with
    | none => some x
    | some y => some (if seqAhead e x.1.tseq ≤ seqAhead e y.1.tseq then x else y)

/-- Waiting transactions are applied in order: those whose turn has come, and those in `go`, with the numbers missing before
them counted in ORD_LOST. -/
def State.ordRun (go : List Nat) : Nat → State → Issuer → State × Issuer
  | 0, s, i => (s, i)
  | k + 1, s, i =>
    match nextWaiting i.expect i.waiting with
    | none => (s, i)
    | some (t, port, due) =>
      let d := seqAhead i.expect t.tseq
      if d = 0 ∨ go.contains t.tseq then
        let s1 := (s.bumpBy pBRIDGE F.BRIDGE.ORD_LOST.COUNT d).transApply i.node i.member port t
        State.ordRun go k s1 { i with expect := (t.tseq + 1) % 2 ^ 16, waiting := i.waiting.filter (fun x => x != (t, port, due)) }
      else (s, i)

/-- The target goes on with what waits up to a transaction. -/
def State.ordGo (s : State) (i : Issuer) (tseq : Nat) : State × Issuer :=
  let go := (i.waiting.filter (fun x => decide (seqAhead i.expect x.1.tseq ≤ seqAhead i.expect tseq))).map (fun x => x.1.tseq)
  State.ordRun go (i.waiting.length + 1) s i

/-- A transaction arrives at the target (R381). -/
def State.transIn (s : State) (port node member : Nat) (t : Trans) : State :=
  if !s.running pBRIDGE then s
  else match s.bridge.issuers.find? (fun i => i.node == node && i.member == member) with
    | none =>
      (s.transApply node member port t).putIssuer
        { node := node, member := member, expect := (t.tseq + 1) % 2 ^ 16, waiting := [], heard := s.clock }
    | some i0 =>
      let i := { i0 with heard := s.clock }
      let d := seqAhead i.expect t.tseq
      let w := (t, port, s.clock + 2000 * s.get pBRIDGE F.BRIDGE.TGT.ORD_WAIT)
      if d = 0 then
        let r := State.ordRun [] (i.waiting.length + 2) s { i with waiting := w :: i.waiting }
        r.1.putIssuer r.2
      else if 2 ^ 15 ≤ d then s.putIssuer i
      else if i.waiting.any (fun x => x.1.tseq == t.tseq) then let r := s.ordGo i t.tseq; r.1.putIssuer r.2
      else s.putIssuer { i with waiting := i.waiting ++ [w] }

/-- The earliest of the waiting transactions to have waited long enough. -/
def firstDue : List (Trans × Nat × Nat) → Option (Trans × Nat × Nat)
  | [] => none
  | x :: l => match firstDue l with
    | none => some x
    | some y => some (if x.2.2 ≤ y.2.2 then x else y)

/-- ORD_WAIT passes (R381). -/
def State.ordExpire (s : State) (node member : Nat) : State :=
  match s.bridge.issuers.find? (fun i => i.node == node && i.member == member) with
  | none => s
  | some i =>
    match firstDue i.waiting with
    | none => s
    | some w => let r := (s.advance w.2.2).ordGo i w.1.tseq; r.1.updIssuer r.2

/-! Replies, time-outs and late errors at the issuer (R379, R380, R383, R385). -/

/-- An entry of the late-error log (R385). -/
def State.llogAdd (s : State) (addr reason win t : Nat) : State :=
  let s1 := s.event pBRIDGE 8
  if s1.bridge.llog.length < 32 then
    { s1 with bridge := { s1.bridge with llog := s1.bridge.llog ++ [{ addr := addr, reason := reason, win := win, t := t }] } }
  else s1.bump pBRIDGE F.BRIDGE.LLOG_OVF.COUNT

/-- A window stops (R379, R394). -/
def State.winStop (s : State) (w : Nat) : State :=
  let e := s.get pWINDOWS F.WINDOWS.WINSTS.ERR
  if natBit e w then s else ((s.markSet pWINDOWS F.WINDOWS.WINSTS.ERR.off (w32 (2 ^ w))).set pWINDOWS F.WINDOWS.WINSTS.ERR (e + 2 ^ w)).event pWINDOWS 8

/-- An outstanding access is over. -/
def State.outRemove (s : State) (tag : Nat) : State :=
  { s with bridge := { s.bridge with outstanding := s.bridge.outstanding.filter (fun o => o.tag != tag) } }

/-- A non-posted write has failed (R379, R385). The issuer is told no T of the decision, and a time-out has no reason code:
free values. -/
def State.npFailed (s : State) (o : Outst) (reason : Option Nat) : State :=
  let s1 := s.nextFree.llogAdd o.addr (reason.getD (s.freeVal 8)) o.win (s.freeVal 64)
  s1.winStop o.win

/-- A part of a host read has arrived, or has ended without data. -/
def State.partIn (s : State) (o : Outst) (d : List Byte) : State :=
  match s.bridge.reads.find? (fun r => r.tag == o.hostTag) with
  | none => s
  | some r =>
    let r1 := { r with missing := r.missing - 1, bytes := r.bytes ++ blockBytes o.addr d }
    let rest := s.bridge.reads.filter (fun x => x.tag != o.hostTag)
    if r1.missing = 0 then
      State.complete { s with bridge := { s.bridge with reads := rest } } r.tag (gatherBytes r.addr r.len r1.bytes)
    else { s with bridge := { s.bridge with reads := rest ++ [r1] } }

/-- An outstanding access by tag. -/
def State.outOf (s : State) (tag : Nat) (isRead : Bool) : Option Outst :=
  s.bridge.outstanding.find? (fun o => o.tag == tag && o.isRead == isRead)

/-- A write acknowledgement arrives (R379, R383). -/
def State.ackIn (s : State) (t : Trans) : State :=
  if !s.running pBRIDGE then s
  else match s.outOf t.tag false with
    | none => s.bump pBRIDGE F.BRIDGE.LATE_CPL.COUNT
    | some o =>
      let s1 := s.outRemove o.tag
      (if t.status = 0 then s1 else s1.npFailed o (some t.status)).hrDrain

/-- A read that timed out in this very cycle, by tag (R383). -/
def State.cutOf (s : State) (tag : Nat) : Option CutRead :=
  s.bridge.cut.find? (fun c => c.out.tag == tag && c.at_ == s.clock)

/-- A read times out: what it was is kept for the rest of the cycle. -/
def State.keepCut (s : State) (o : Outst) : State :=
  let c : CutRead := {
    out := o, at_ := s.clock, read := s.bridge.reads.find? (fun r => r.tag == o.hostTag),
    nine := natBit (s.rd pBRIDGE 0x0C).toNat 9 }
  { s with bridge := { s.bridge with cut := s.bridge.cut.filter (fun x => x.at_ == s.clock) ++ [c] } }

/-- The time-out of a read whose completion arrives in the same cycle did not happen: the read waits for its part again, and
neither the count nor the event stands (R383). -/
def State.uncut (s : State) (c : CutRead) : State :=
  let s1 := s.bumpBy pBRIDGE F.BRIDGE.NPTO.COUNT (2 ^ F.BRIDGE.NPTO.COUNT.w - 1)
  let s2 := if c.nine then s1 else s1.wr pBRIDGE 0x0C (s1.rd pBRIDGE 0x0C &&& ~~~ w32 (2 ^ 9))
  { s2 with bridge := { s2.bridge with
      cut := s2.bridge.cut.filter (fun x => x != c),
      reads := s2.bridge.reads.filter (fun r => r.tag != c.out.hostTag) ++ c.read.toList,
      out := s2.bridge.out.filter (fun m => match m with
        | .completion tag _ => tag != c.out.hostTag
        | _ => true) } }

/-- A read completion arrives (R380, R383). -/
def State.cplIn (s : State) (t : Trans) : State :=
  if !s.running pBRIDGE then s
  else match s.outOf t.tag true with
    | some o => (s.outRemove o.tag).partIn o t.data
    | none => match s.cutOf t.tag with
      | some c => (s.uncut c).partIn c.out t.data
      | none => s.bump pBRIDGE F.BRIDGE.LATE_CPL.COUNT

/-- NP_TIMEOUT passes (R383). -/
def State.npTimeout (s : State) (tag : Nat) : State :=
  match s.bridge.outstanding.find? (fun o => o.tag == tag) with
  | none => s
  | some o =>
    let s0 := (s.advance o.due).outRemove tag
    let s1 := ((if o.isRead then s0.keepCut o else s0).bump pBRIDGE F.BRIDGE.NPTO.COUNT).event pBRIDGE 9
    if o.isRead then s1.partIn o (List.replicate 8 0xFF) else (s1.npFailed o none).hrDrain

/-- The window that issued a posted write, known by its base; where not exactly one fits, it is free. -/
def State.postedWin (s : State) (addr : Nat) : State × Nat :=
  match (List.range 16).filter (fun w => natBit (s.winReg w) 31 && natField (s.winReg w) 0 20 == addr / 2 ^ 28) with
  | [w] => (s, w)
  | _ => (s.nextFree, s.freeVal 4)

/-- A NOTICE of late errors arrives (R385). -/
def State.lateIn (s : State) (entries : List LateErr) : State :=
  if s.running pBRIDGE then
    entries.foldl (fun st e => let w := st.postedWin e.addr; w.1.llogAdd e.addr e.reason w.2 e.t) s
  else s

/-- The NOTICE that gathers for an issuer leaves (R384). -/
def State.gatherDue (s : State) (node member : Nat) : State :=
  match s.bridge.gather.find? (fun x => x.node == node && x.member == member) with
  | none => s
  | some g => (s.advance g.due).gatherSend g

/-! The host's transmit ring (R388). -/

/-- A frame from its bytes. -/
def frameOf (b : List Byte) : Frame :=
  let tagged := ofBE (slice b 12 2) == 0x8100
  let r := if tagged then b.drop 16 else b.drop 12
  { dst := ofBE (slice b 0 6), src := ofBE (slice b 6 6),
    vlan := if tagged then some (ofBE (slice b 14 2)) else none, hsr := none, sec := none, etype := ofBE (slice r 0 2),
    body := r.drop 2 }

/-- Is a transmit slot well formed (R388)? -/
def slotOk (h frame : List Byte) : Bool :=
  let len := ofLE (slice h 0 2)
  let port := ofLE (slice h 2 1)
  decide (14 ≤ len) && decide (len ≤ 4080) && decide (len ≤ frame.length) && (decide (port < 22) || port == 0x1F) &&
    decide (ofLE (slice h 3 1) < 8) && decide (ofLE (slice h 6 1) < 2) && ofLE (slice h 7 9) == 0

/-- The egress map of a host frame under FDB lookup: an entry's DEST, else every port; the VID of an untagged frame is
free. -/
def State.hostMap (s : State) (f : Frame) : State × Nat :=
  let vid := match f.vlan with
    | some tci => tci % 4096
    | none => s.freeVal 12
  let hit := if s.running pFDB then s.fdbFind f.dst vid else none
  (s.nextFree, match hit with
    | some i =>
      let e := s.fdbAt i
      (if e.group then (match s.groupPortOf (e.dest % 4) (flowHash f vid) with | some p => 2 ^ p | none => 0)
       else e.dest) % 2 ^ 22
    | none => 2 ^ 22 - 1)

/-- A host frame leaves by its egress ports (R343, R388): towards the ring with an HSR tag. -/
def State.hostSend (s : State) (h frame : List Byte) : State :=
  let f := frameOf (frame.take (ofLE (slice h 0 2)))
  let q := some (ofLE (slice h 3 1))
  let tag := if ofLE (slice h 6 1) = 1 then some (ofLE (slice h 4 2)) else none
  let port := ofLE (slice h 2 1)
  let m := if port = 0x1F then s.hostMap f else (s, 2 ^ port)
  let ring := (List.range 2).filter (natBit m.2)
  let rest := ((List.range 20).map (· + 2)).filter (natBit m.2)
  let t := if ring = [] || f.etype == 0x888E then (m.1, f) else m.1.hsrTag f
  t.1.sendForms f (rest.map (fun n => (n, f)) ++ ring.map (fun n => (n, t.2))) q tag

/-- A read of a transmit slot completes (R388). -/
def State.txSlotIn (s : State) (h frame : List Byte) : State :=
  match s.bridge.txReads with
  | [] => s
  | n :: t =>
    let s1 := { s with bridge := { s.bridge with txReads := t } }
    let s2 := if slotOk h frame then s1.hostSend h frame else s1.bump pBRIDGE F.BRIDGE.TXBAD.COUNT
    let s3 := s2.set pBRIDGE F.BRIDGE.TX_HEAD.SLOT (n + 1)
    (if s3.get pBRIDGE F.BRIDGE.TX_HEAD.SLOT = s3.get pBRIDGE F.BRIDGE.TX_TAIL.SLOT then s3.event pBRIDGE 11 else s3).txFetch

/-- The state of the PCIe link changes (R392). -/
def State.pcieLink (s : State) (up : Bool) : State :=
  if !s.coreOn || s.bridge.linkUp == up then s
  else State.txFetch (({ s with bridge := { s.bridge with linkUp := up } }.event pBRIDGE 14).rhGo)

/-! Commands. -/

def execHostBar2Read (clk off len tag : Nat) (s : State) : Host.Outcome State Fault Refusal :=
  .next ((s.advance clk).hostIn (hostReqAt off len tag true []))

def execHostBar2Write (clk off : Nat) (data : List (Option Byte)) (s : State) : Host.Outcome State Fault Refusal :=
  .next ((s.advance clk).hostIn (hostReqAt off data.length 0 false data))

def execMgmtRead (clk port node member : Nat) (tr : Trans) (s : State) : Host.Outcome State Fault Refusal :=
  .next ((s.advance clk).transIn port node member { tr with op := 0x10 }).classGo

def execMgmtPostedWrite (clk port node member : Nat) (tr : Trans) (s : State) : Host.Outcome State Fault Refusal :=
  .next ((s.advance clk).transIn port node member { tr with op := 0x11 }).classGo

def execMgmtNpWrite (clk port node member : Nat) (tr : Trans) (s : State) : Host.Outcome State Fault Refusal :=
  .next ((s.advance clk).transIn port node member { tr with op := 0x12 }).classGo

def execMgmtWriteAck (clk : Nat) (tr : Trans) (s : State) : Host.Outcome State Fault Refusal :=
  .next ((s.advance clk).ackIn tr)

def execMgmtReadCompletion (clk : Nat) (tr : Trans) (s : State) : Host.Outcome State Fault Refusal :=
  .next ((s.advance clk).cplIn tr)

def execOrdWaitExpire (node member : Nat) (s : State) : Host.Outcome State Fault Refusal :=
  .next (s.ordExpire node member).classGo

def execNpTimeout (tag : Nat) (s : State) : Host.Outcome State Fault Refusal := .next (s.npTimeout tag)

def execNoticeLateErrorSend (node member : Nat) (s : State) : Host.Outcome State Fault Refusal :=
  .next (s.gatherDue node member)

/-- R385; the entries name no issuer, and the sender has no part in the log. -/
def execNoticeLateErrorRx (clk _node _member : Nat) (entries : List LateErr) (s : State) :
    Host.Outcome State Fault Refusal :=
  .next ((s.advance clk).lateIn entries)

/-- R385: the spec gives the NOTICE no effect on the state of the hub it reaches (assumption log 23). -/
def execNoticeGroupRx (clk _node _member _group : Nat) (_pend : List Word) (s : State) :
    Host.Outcome State Fault Refusal :=
  .next (s.advance clk)

/-- R464: the spec gives the NOTICE no effect on the state of the hub it reaches (assumption log 23). -/
def execNoticeLastGaspRx (clk _node _member : Nat) (_payload : List Byte) (s : State) :
    Host.Outcome State Fault Refusal :=
  .next (s.advance clk)

def execHostTxTail (clk slot : Nat) (s : State) : Host.Outcome State Fault Refusal :=
  .next ((s.advance clk).busWrite pBRIDGE 0xBC 0xFFFFFFFF (w32 slot) .host)

def execHostTxSlotRead (clk : Nat) (header frame : List Byte) (s : State) : Host.Outcome State Fault Refusal :=
  .next ((s.advance clk).txSlotIn header frame)

def execPcieLinkChange (clk : Nat) (up : Bool) (s : State) : Host.Outcome State Fault Refusal :=
  .next ((s.advance clk).pcieLink up)

/-- Is a write of the host held at the head of class HR (R392)? Writes of the bridge's own page pass, without which no host could end the
hold (DEDUCED, assumption log 100). -/
def State.bar0Held (s : State) (page : Nat) (src : Source) : Bool :=
  s.coreOn && s.held pBRIDGE && src == .host && page != pBRIDGE

/-- A write of a register (R8), or of the MSI-X table (R376). -/
def State.anyWrite (s : State) (page off : Nat) (data : Word) (src : Source) : State :=
  if page = 0x2000 ∧ src = .host ∧ off < 0x200 ∧ off % 4 = 0 ∧ s.coreOn then s.msixWrite off data
  else s.busWrite page off 0xFFFFFFFF data src

/-- A write of a register (R8); what then may go on in the classes of the bridge does (R392). -/
def execRegisterWrite (clk page off : Nat) (data : Word) (src : Source) (s : State) : Host.Outcome State Fault Refusal :=
  let s1 := s.advance clk
  .next (if s1.bar0Held page src then
      s1.hostIn { hostReqAt (2 ^ 32 + 0x1000000 + 4096 * page + off) 4 0 false ((leBytes 4 data.toNat).map some) with bar0 := true }
    else (s1.anyWrite page off data src).classGo)

def execPageHoldClear (clk page : Nat) (s : State) : Host.Outcome State Fault Refusal :=
  let s1 := (s.advance clk).pctlCmd page (fun w => w &&& 0xFFFFFFFD)
  .next s1.classGo

end Sys2Proof.Machine
end

