-- ==== Sys2Proof/Machine/Manager.lean ====
section
/-!
DEFINITION. The management lease (R389, R390, R486): the exchange as the target of a manager and as a manager's hub.
-/

namespace Sys2Proof.Machine

/-! Proofs (R486). -/

/-- The 16-byte identity of this hub. -/
def State.identity (s : State) : List Byte :=
  beBytes 8 s.pwr.serial ++ beBytes 1 s.nid ++ beBytes 1 s.member ++ beBytes 6 0

/-- The key in LEASE.KEY, where it may serve a proof: the Monument is READY, the handle is not stale, and the slot has
USE HMAC or LEASE (R390, R476, R486). -/
def State.leaseKey (s : State) : Option (List Byte) :=
  if s.monReady then
    match s.handleOf (s.get pBRIDGE F.BRIDGE.LEASE.KEY) with
    | some k => if s.mayUse k.2 useHMAC || s.mayUse k.2 useLEASE then some k.2.key else none
    | none => none
  else none

/-- The proof of a challenge under a key, for an identity and a life-cycle byte. -/
def proofOf (key challenge ident lc : List Byte) : List Byte := Config.hmacSha384 key (challenge ++ ident ++ lc)

/-- Is a proof that this hub received right, for a challenge of its own? -/
def State.proofOk (s : State) (key challenge proof : List Byte) : Bool :=
  proof == proofOf key challenge s.identity (beBytes 1 s.mon.fuse)

/-! The target. -/

/-- Is the lease held by a hub other than this one? -/
def State.otherHolds (s : State) (node member : Nat) : Bool :=
  s.flag pBRIDGE F.BRIDGE.MGRSTS.HELD && !s.holdsLease node member

/-- REFUSE with its reason. -/
def State.leaseRefuse (s : State) (node member reason : Nat) : State := s.sendMgmt 8 node member 1 (beBytes 1 reason)

/-- Does the node's lease run on this hub: its bridge runs, and it is not a standby or a fenced hub (R389)? -/
def State.leaseHere (s : State) : Bool := s.running pBRIDGE && !s.inShadow

/-- The challenge that waits for a hub's PROOF. -/
def State.challengeOf (s : State) (node member : Nat) : Option Challenge :=
  s.bridge.challenges.find? (fun c => c.node == node && c.member == member)

/-- A hub's challenge is used up, or gives way to a new one. -/
def State.dropChallenge (s : State) (node member : Nat) : State :=
  { s with bridge := { s.bridge with
      challenges := s.bridge.challenges.filter (fun c => !(c.node == node && c.member == member)) } }

/-- OPEN: a CHALLENGE, or REFUSE with 0x01 or 0x03. A manager is a hub on another node. -/
def State.leaseOpen (s : State) (node member : Nat) : State :=
  if !s.leaseHere || node == s.nid then s
  else if s.otherHolds node member then s.leaseRefuse node member 1
  else match s.leaseKey with
    | none => s.leaseRefuse node member 3
    | some _ =>
      let c : Challenge := { node := node, member := member, bytes := s.rnd 32, born := s.clock }
      let s0 := s.nextFree.dropChallenge node member
      let s1 := { s0 with bridge := { s0.bridge with challenges := s0.bridge.challenges ++ [c] } }
      s1.sendMgmt 3 node member 1 c.bytes

/-- A lease is granted: its seconds and the next challenge go out (R389). -/
def State.leaseGo (s : State) (node member : Nat) : State :=
  let c : Challenge := { node := node, member := member, bytes := s.rnd 32, born := s.clock }
  let s1 := s.nextFree.leaseGrant node member
  let s2 := { s1 with bridge := { s1.bridge with nextChallenge := some c } }
  s2.sendMgmt 5 node member 1 (beBytes 4 (s2.get pBRIDGE F.BRIDGE.LEASE.LEASE_S) ++ c.bytes)

/-- A proof or a renewal over a stored challenge of the same hub: GRANT, or REFUSE with its reason. -/
def State.leaseJudge (s : State) (c : Option Challenge) (node member : Nat) (proof : List Byte) : State :=
  if s.otherHolds node member then s.leaseRefuse node member 1
  else match s.leaseKey with
    | none => s.leaseRefuse node member 3
    | some key => match c with
      | none => s.leaseRefuse node member 4
      | some x =>
        if s.proofOk key x.bytes proof then s.leaseGo node member
        else s.leaseRefuse node member 2

/-- PROOF: the challenge it answers is used up. -/
def State.leaseProof (s : State) (node member : Nat) (proof : List Byte) : State :=
  if !s.leaseHere then s
  else (s.dropChallenge node member).leaseJudge (s.challengeOf node member) node member proof

/-- The next challenge of the GRANT while it is younger than 1 s. -/
def State.renewable (s : State) : Option Challenge := s.bridge.nextChallenge.filter (fun c => decide (s.clock < c.born + 2000000000))

/-- RENEW by the holder; any other hub must open again (R390). -/
def State.leaseRenew (s : State) (node member : Nat) (proof : List Byte) : State :=
  if !s.leaseHere then s
  else s.leaseJudge (if s.holdsLease node member then s.renewable else none) node member proof

/-- The oldest challenge is 1 s old, and expires: one that waits for a PROOF, or the one that the last GRANT carried. -/
def State.challengeOut (s : State) : State :=
  let first := s.bridge.challenges.head?
  match s.bridge.nextChallenge with
  | some n =>
    if (match first with | some c => decide (c.born ≤ n.born) | none => false) then
      { s.advance (((first.map (·.born)).getD 0) + 2000000000) with bridge := { s.bridge with challenges := s.bridge.challenges.tail } }
    else { s.advance (n.born + 2000000000) with bridge := { s.bridge with nextChallenge := none } }
  | none => match first with
    | some c => { s.advance (c.born + 2000000000) with bridge := { s.bridge with challenges := s.bridge.challenges.tail } }
    | none => s

/-! The manager. -/

/-- The exchange with a target, among those of a manager's hub. -/
def mgrDrop (node member : Nat) (l : List (Nat × Nat × List Byte × Nat)) : List (Nat × Nat × List Byte × Nat) :=
  l.filter (fun x => !(x.1 == node && x.2.1 == member))

/-- Enter, or replace, an exchange. -/
def State.mgrPut (s : State) (node member : Nat) (challenge : List Byte) (end_ : Nat) : State :=
  { s with bridge := { s.bridge with
      mgrOf := mgrDrop node member s.bridge.mgrOf ++ [(node, member, challenge, end_)] } }

/-- An exchange ends. -/
def State.mgrEnd (s : State) (node member : Nat) : State :=
  { s with bridge := { s.bridge with mgrOf := mgrDrop node member s.bridge.mgrOf } }

/-- CHALLENGE: the PROOF under the key of this hub. The target's serial number and life-cycle state, which no message
carries, are free values. -/
def State.leaseAnswer (s : State) (node member : Nat) (challenge : List Byte) : State :=
  if !s.running pBRIDGE then s
  else match s.leaseKey with
    | none => s
    | some key =>
      let ident := s.rnd 8 ++ beBytes 1 node ++ beBytes 1 member ++ beBytes 6 0
      let lc := beBytes 1 (s.freeVal 8)
      let s1 := s.nextFree.mgrPut node member (challenge.take 32) 0
      s1.sendMgmt 4 node member 1 (proofOf key (challenge.take 32) ident lc)

/-- GRANT: the seconds of the lease and the next challenge are kept. -/
def State.leaseGranted (s : State) (node member seconds : Nat) (next : List Byte) : State :=
  if !s.running pBRIDGE then s
  else if s.bridge.mgrOf.any (fun x => x.1 == node && x.2.1 == member) then
    s.mgrPut node member (next.take 32) (s.clock + 2000000000 * seconds)
  else s

/-- RELEASE, from either side: the lease ends. -/
def State.leaseReleased (s : State) (node member : Nat) : State :=
  if !s.running pBRIDGE then s
  else (if s.holdsLease node member then s.leaseOver else s).mgrEnd node member

/-! Commands. -/

def execLeaseOpen (clk node member : Nat) (s : State) : Host.Outcome State Fault Refusal :=
  .next ((s.advance clk).leaseOpen node member)

def execLeaseChallenge (clk node member : Nat) (challenge : List Byte) (s : State) : Host.Outcome State Fault Refusal :=
  .next ((s.advance clk).leaseAnswer node member challenge)

def execLeaseProof (clk node member : Nat) (proof : List Byte) (s : State) : Host.Outcome State Fault Refusal :=
  .next ((s.advance clk).leaseProof node member proof)

def execLeaseGrant (clk node member seconds : Nat) (next : List Byte) (s : State) : Host.Outcome State Fault Refusal :=
  .next ((s.advance clk).leaseGranted node member seconds next)

def execLeaseRenew (clk node member : Nat) (proof : List Byte) (s : State) : Host.Outcome State Fault Refusal :=
  .next ((s.advance clk).leaseRenew node member proof)

def execLeaseRelease (clk node member : Nat) (s : State) : Host.Outcome State Fault Refusal :=
  .next ((s.advance clk).leaseReleased node member)

/-- R389: the exchange as a manager ends; the reason changes nothing else, and the manager must open again (R390). -/
def execLeaseRefuse (clk node member _reason : Nat) (s : State) : Host.Outcome State Fault Refusal :=
  .next ((s.advance clk).mgrEnd node member)

/-- R390: the end of the lease is reached. -/
def execLeaseExpire (s : State) : Host.Outcome State Fault Refusal :=
  .next (match s.bridge.leaseEnd with
    | some t => (s.advance t).leaseOver
    | none => s)

/-- R389: the oldest challenge is 1 s old. -/
def execLeaseChallengeExpire (s : State) : Host.Outcome State Fault Refusal :=
  .next s.challengeOut

def execLeaseDrop (clk : Nat) (s : State) : Host.Outcome State Fault Refusal :=
  .next ((s.advance clk).bitWrite pBRIDGE F.BRIDGE.LEASE_CTL.DROP State.leaseOver)

end Sys2Proof.Machine
end

