-- ==== Sys2Proof/Machine/StakeReg.lean ====
section
/-!
DEFINITION. Class 3 stakes (R161, R171, R174, R560): a masked register write on the register bus.
-/

namespace Sys2Proof.Machine

/-- Can the page of a class 3 stake take its write (R174)? -/
def State.regReady (s : State) (x : Stake) : Bool :=
  !s.flag (stakePage x) F.HDR.PCTL.LOCK && !(guardPage (stakePage x) && !s.pwr.dieLink)

/-- Can the target of a stake of any class take it (R174)? -/
def State.targetReady (s : State) (x : Stake) : Bool := if x.cls = 3 then s.regReady x else s.stakeReady x

/-- The masked write: mask in VALUE[63:32], data in VALUE[31:0] (R161, R560). -/
def State.regStake (s : State) (x : Stake) : State :=
  s.busWrite (stakePage x) (Sys2Proof.Machine.stakeOff x) (w32 (x.value / 2 ^ 32)) (w32 x.value) .stake

/-- The effect of a stake of any class at this moment. -/
def State.anyEffect (s : State) (x : Stake) : State := if x.cls = 3 then s.regStake x else s.stakeEffect x

/-- The first class 3 stake of the queue comes due: from the cycle in which tap 0 reaches T_REL, one in each CLK_MGT
cycle (R171, R172). -/
def State.regExec (s : State) : State :=
  if !s.running pSTAKE || s.stakeHeld || !s.mayRelease then s
  else match s.stake.q.find? (fun x => x.cls == 3) with
    | none => s
    | some x =>
      let s1 := (s.advanceT x.tRel).advance s.stake.last3
      let s2 := { s1 with stake := { s1.stake with q := s1.stake.q.erase x, last3 := s1.clock + 10 } }
      s2.stakeRun x 0 (s2.regReady x) (fun st => st.regStake x)

def execStakeExecReg (s : State) : Host.Outcome State Fault Refusal := .next s.regExec

end Sys2Proof.Machine
end

