-- ==== Sys2Proof/Machine/Takeover.lean ====
section
/-!
DEFINITION. The takeover boundary T_k (R181, R182, R269, R303, R390, R408, R410, R419): what the new active hub and the
hub that has declared a fault or a handover do there.
-/

namespace Sys2Proof.Machine

/-! The new active hub. -/

/-- A pin of function 1, 2 or 5 takes its level and output enable from the pin image (R404, R410). -/
def State.pinFromImage (s : State) (p : Nat) : State :=
  let l := natBit s.dup.imgLvl p
  let e := natBit s.dup.imgOe p
  match s.funcOf p with
  | 1 => s.latchPin p l e s.now
  | 2 => s.latchPin p l e s.now
  | 5 =>
    let s1 := s.setB (muxPage p) ⟨F.PINMUX.SWDATA.LVL.off + 4 * (p % 64 / 32), p % 32, 1⟩ l
    s1.setB (muxPage p) ⟨F.PINMUX.SWOE.OE.off + 4 * (p % 64 / 32), p % 32, 1⟩ e
  | _ => s

/-- The pin image is driven. -/
def State.driveImage (s : State) : State := (List.range 256).foldl State.pinFromImage s

/-- May a stake executed at T_k have been executed already without a notice (R182)? Not after a handover; after a declared
fault if it was due in the last 1,000 hns before the declaration; after a silent failure always. -/
def State.repeatRisk (s : State) (x : Stake) : Bool :=
  match s.dup.cause with
  | 2 => false
  | 0 => true
  | _ => match s.dup.tDecl with
    | some d => decide (d < x.tRel + 1000) && decide (x.tRel ≤ d)
    | none => true

/-- One stake with T_REL < T_k (R181): executed with T_exec = T_k, or discarded whatever its POLICY. -/
def State.stakeTake (tk : Nat) (s : State) (x : Stake) : State :=
  let s1 := { s with stake := { s.stake with q := s.stake.q.erase x } }
  if tk < x.tRel + s.get pSTAKE F.STAKE.LATE_TOL.TOL then
    let f := 1 + 4 * bit (s.repeatRisk x)
    if s1.targetReady x then (s1.anyEffect x).outcome x 0 f tk tk true else s1.outcome x 0x20 f tk tk true
  else s1.outcome x 2 1 tk tk true

/-- The stakes of the queue that were due before T_k, in queue order (R181). -/
def State.stakesTaken (s : State) (tk : Nat) : List Stake :=
  if s.running pSTAKE && !s.stakeHeld then s.stake.q.filter (fun x => decide (x.tRel < tk)) else []

/-- All of them. -/
def State.stakesTake (s : State) (tk : Nat) : State :=
  let l := s.stakesTaken tk
  let s1 := l.foldl (State.stakeTake tk) s
  if l = [] then s1 else s1.event pSTAKE 15

/-- Stakes executed between two states, by RELEASED (R419). -/
def releasedBetween (a b : State) : Nat :=
  (b.get pSTAKE F.STAKE.RELEASED.COUNT + 2 ^ 32 - a.get pSTAKE F.STAKE.RELEASED.COUNT) % 2 ^ 32

/-- The SWITCHOVER record (R419). -/
def State.switchRec (s : State) (tk done gone : Nat) : Rec :=
  { t := tk, kind := 0x30, flags := s.dup.cause % 4 + 4 * bit s.inGang, source := s.pairSource,
    data := leBytes 4 ((s.dup.applied.map (fun r => r.cycle)).getD 0) ++
      leBytes 2 (min ((tk - s.dup.lastBeat) / 2000) 0xFFFF) ++ leBytes 1 (min done 255) ++ leBytes 1 (min gone 255) }

/-- The SWITCHOVER record enters the book as its first (R269); while BOOK does not run it goes the way of any record. -/
def State.bookSwitch (s : State) (r : Rec) : State :=
  let s1 := s.bookTakeover r
  if s1.running pBOOK then s1 else s1.stage .mgt r

/-- The standby that has decided a takeover becomes active at T_k. -/
def State.takeOver (s : State) (tk : Nat) : State :=
  let s1 := ((s.advanceT tk).driveImage).setDup 1
  let s2 := s1.stakesTake tk
  let n := (s1.stakesTaken tk).length
  let done := releasedBetween s1 s2
  let s3 := (List.range 64).foldl (fun st e => st.engResume s2.nowTick e) s2
  let s4 := s3.cansOn
  let s5 := ((s4.bookSwitch (s4.switchRec tk done (n - done))).leaseOver).set pDUPLEX F.DUPLEX.LAST_TK.T tk
  let s6 := (s5.bump pDUPLEX F.DUPLEX.TAKEOVERS.COUNT).event pDUPLEX 8
  let d := { s6.dup with tk := none, tDecl := none, frozen := false, wasShadow := false, dualSent := false }
  { s6 with stake := { s6.stake with side := [] }, dup := d }

/-! The hub that has declared. -/

/-- At T_k its pins go to shadow: STANDBY after a handover, FENCED after a fault (R408); its lease ends (R390). -/
def State.standDown (s : State) (tk : Nat) : State :=
  let s1 := (s.advanceT tk).leaseOver
  if s1.dup.handover then
    let s2 := (s1.setDup 2).canShadow
    { s2 with dup := { s2.dup with tk := none, tDecl := none, frozen := false, heardA := false, heardB := false } }
  else s1.dupFence 5 []

/-- The takeover boundary. -/
def State.boundaryTk (s : State) : State :=
  match s.dup.tk with
  | none => s
  | some tk =>
    if s.dupState = some 4 && s.running pDUPLEX then s.takeOver tk
    else if s.dupState = some 5 then s.standDown tk
    else s

def execTakeover (s : State) : Host.Outcome State Fault Refusal := .next s.boundaryTk

end Sys2Proof.Machine
end

