-- ==== Sys2Proof/Machine/Dispatch.lean ====
section
/-!
DEFINITION. The dispatch: one arm for each command, each one direct call of that command's meaning.
-/

namespace Sys2Proof.Machine

def exec (i : Instr) (s : State) : Host.Outcome State Fault Refusal :=
  match i with
  | .vbatApplied clk => Sys2Proof.Machine.execVbatApplied clk s
  | .guardPor clk => Sys2Proof.Machine.execGuardPor clk s
  | .guardUnsupplied clk => Sys2Proof.Machine.execGuardUnsupplied clk s
  | .pstateReqRun clk => Sys2Proof.Machine.execPstateReqRun clk s
  | .pstateReqWatch clk => Sys2Proof.Machine.execPstateReqWatch clk s
  | .pstateReqKeep clk => Sys2Proof.Machine.execPstateReqKeep clk s
  | .pstateReqReserved clk => Sys2Proof.Machine.execPstateReqReserved clk s
  | .pstateTransitionDone clk => Sys2Proof.Machine.execPstateTransitionDone clk s
  | .dieLinkFail clk => Sys2Proof.Machine.execDieLinkFail clk s
  | .dieLinkTrained clk => Sys2Proof.Machine.execDieLinkTrained clk s
  | .guardEventLineToggle clk line => Sys2Proof.Machine.execGuardEventLineToggle clk line s
  | .guardEventLineCapture clk line => Sys2Proof.Machine.execGuardEventLineCapture clk line s
  | .registerWrite clk page off data src => Sys2Proof.Machine.execRegisterWrite clk page off data src s
  | .pageEnable clk page data => Sys2Proof.Machine.execPageEnable clk page data s
  | .enableCheckEnd clk chk => Sys2Proof.Machine.execEnableCheckEnd clk chk s
  | .pageStop clk page data => Sys2Proof.Machine.execPageStop clk page data s
  | .pageStopDone clk page => Sys2Proof.Machine.execPageStopDone clk page s
  | .pageHoldSet clk page => Sys2Proof.Machine.execPageHoldSet clk page s
  | .pageHeldReached clk page => Sys2Proof.Machine.execPageHeldReached clk page s
  | .pageHoldClear clk page => Sys2Proof.Machine.execPageHoldClear clk page s
  | .pageClr clk page => Sys2Proof.Machine.execPageClr clk page s
  | .pageClrDone clk page => Sys2Proof.Machine.execPageClrDone clk page s
  | .pageLock clk page data => Sys2Proof.Machine.execPageLock clk page data s
  | .pevtClear clk page data => Sys2Proof.Machine.execPevtClear clk page data s
  | .pevtForce clk page data => Sys2Proof.Machine.execPevtForce clk page data s
  | .pevmWrite clk page data => Sys2Proof.Machine.execPevmWrite clk page data s
  | .blockFault clk page => Sys2Proof.Machine.execBlockFault clk page s
  | .irqSummaryArrive clk page => Sys2Proof.Machine.execIrqSummaryArrive clk page s
  | .noticeRepeat group => Sys2Proof.Machine.execNoticeRepeat group s
  | .irqRearm clk mask => Sys2Proof.Machine.execIrqRearm clk mask s
  | .msixUnmask clk vector => Sys2Proof.Machine.execMsixUnmask clk vector s
  | .datumIncWrite clk hi => Sys2Proof.Machine.execDatumIncWrite clk hi s
  | .datumStepWrite clk hi src => Sys2Proof.Machine.execDatumStepWrite clk hi src s
  | .datumStepUnlock clk w => Sys2Proof.Machine.execDatumStepUnlock clk w s
  | .unlockWindowExpire => Sys2Proof.Machine.execUnlockWindowExpire s
  | .datumHoldReq clk => Sys2Proof.Machine.execDatumHoldReq clk s
  | .datumResume clk => Sys2Proof.Machine.execDatumResume clk s
  | .refFaultDetect clk => Sys2Proof.Machine.execRefFaultDetect clk s
  | .refFaultClear clk => Sys2Proof.Machine.execRefFaultClear clk s
  | .txqPop clk => Sys2Proof.Machine.execTxqPop clk s
  | .txqFlush clk => Sys2Proof.Machine.execTxqFlush clk s
  | .ppsInEdge clk rising => Sys2Proof.Machine.execPpsInEdge clk rising s
  | .ppsOutStart => Sys2Proof.Machine.execPpsOutStart s
  | .ppsOutEnd => Sys2Proof.Machine.execPpsOutEnd s
  | .pdelayWrite clk port value => Sys2Proof.Machine.execPdelayWrite clk port value s
  | .msclRoundStart => Sys2Proof.Machine.execMsclRoundStart s
  | .probeRx clk port hdrClk tri pr => Sys2Proof.Machine.execProbeRx clk port hdrClk tri pr s
  | .msclProbeTimeout => Sys2Proof.Machine.execMsclProbeTimeout s
  | .coincWindowClose => Sys2Proof.Machine.execCoincWindowClose s
  | .cycleBoundary => Sys2Proof.Machine.execCycleBoundary s
  | .platFreeze => Sys2Proof.Machine.execPlatFreeze s
  | .platRelease => Sys2Proof.Machine.execPlatRelease s
  | .platOwnSent clk port => Sys2Proof.Machine.execPlatOwnSent clk port s
  | .platFrameRx clk port stamp fr => Sys2Proof.Machine.execPlatFrameRx clk port stamp fr s
  | .platVote => Sys2Proof.Machine.execPlatVote s
  | .platViewFlip => Sys2Proof.Machine.execPlatViewFlip s
  | .platOutputWrite clk addr data src => Sys2Proof.Machine.execPlatOutputWrite clk addr data src s
  | .cycleRejoin clk => Sys2Proof.Machine.execCycleRejoin clk s
  | .gangFeedRx clk member feeds => Sys2Proof.Machine.execGangFeedRx clk member feeds s
  | .stakeIssue clk word src => Sys2Proof.Machine.execStakeIssue clk word src s
  | .stakeFrameSend clk => Sys2Proof.Machine.execStakeFrameSend clk s
  | .stakeArrival clk bytes => Sys2Proof.Machine.execStakeArrival clk bytes s
  | .stakeCancelArrival clk bytes => Sys2Proof.Machine.execStakeCancelArrival clk bytes s
  | .stakeCancelWrite clk data => Sys2Proof.Machine.execStakeCancelWrite clk data s
  | .stakeHandover => Sys2Proof.Machine.execStakeHandover s
  | .stakeIslandWithdraw => Sys2Proof.Machine.execStakeIslandWithdraw s
  | .stakeExecPin => Sys2Proof.Machine.execStakeExecPin s
  | .stakeExecEngFifo => Sys2Proof.Machine.execStakeExecEngFifo s
  | .stakeExecCan => Sys2Proof.Machine.execStakeExecCan s
  | .stakeExecReg => Sys2Proof.Machine.execStakeExecReg s
  | .stakeExecPlat => Sys2Proof.Machine.execStakeExecPlat s
  | .receiptRx clk node member payload => Sys2Proof.Machine.execReceiptRx clk node member payload s
  | .rcptPop clk => Sys2Proof.Machine.execRcptPop clk s
  | .instrWaitt eng => Sys2Proof.Machine.execInstrWaitt eng s
  | .waittComplete eng => Sys2Proof.Machine.execWaittComplete eng s
  | .instrWaitp eng => Sys2Proof.Machine.execInstrWaitp eng s
  | .waitpComplete clk eng => Sys2Proof.Machine.execWaitpComplete clk eng s
  | .instrDly eng => Sys2Proof.Machine.execInstrDly eng s
  | .dlyComplete eng => Sys2Proof.Machine.execDlyComplete eng s
  | .instrCnt eng => Sys2Proof.Machine.execInstrCnt eng s
  | .cntComplete clk eng => Sys2Proof.Machine.execCntComplete clk eng s
  | .instrJmp eng => Sys2Proof.Machine.execInstrJmp eng s
  | .instrMov eng => Sys2Proof.Machine.execInstrMov eng s
  | .instrSet eng => Sys2Proof.Machine.execInstrSet eng s
  | .instrOut eng => Sys2Proof.Machine.execInstrOut eng s
  | .instrIn eng => Sys2Proof.Machine.execInstrIn eng s
  | .instrPull eng => Sys2Proof.Machine.execInstrPull eng s
  | .instrPush eng => Sys2Proof.Machine.execInstrPush eng s
  | .instrStamp eng => Sys2Proof.Machine.execInstrStamp eng s
  | .instrNote eng => Sys2Proof.Machine.execInstrNote eng s
  | .undefinedInstruction eng => Sys2Proof.Machine.execUndefinedInstruction eng s
  | .instrDelayEnd eng => Sys2Proof.Machine.execInstrDelayEnd eng s
  | .engineStallEnd eng => Sys2Proof.Machine.execEngineStallEnd eng s
  | .engTxfWrite clk eng data => Sys2Proof.Machine.execEngTxfWrite clk eng data s
  | .engRxfPop clk eng => Sys2Proof.Machine.execEngRxfPop clk eng s
  | .engJump clk eng word => Sys2Proof.Machine.execEngJump clk eng word s
  | .engSnap clk eng => Sys2Proof.Machine.execEngSnap clk eng s
  | .crewSwapGo clk crew => Sys2Proof.Machine.execCrewSwapGo clk crew s
  | .crewGoEng clk crew mask => Sys2Proof.Machine.execCrewGoEng clk crew mask s
  | .crewFlagset clk crew mask => Sys2Proof.Machine.execCrewFlagset clk crew mask s
  | .pinmuxSwdataWrite clk q off data => Sys2Proof.Machine.execPinmuxSwdataWrite clk q off data s
  | .pinTransition clk pin tr => Sys2Proof.Machine.execPinTransition clk pin tr s
  | .glitchWindowExpire pin => Sys2Proof.Machine.execGlitchWindowExpire pin s
  | .debounceWindowClose pin => Sys2Proof.Machine.execDebounceWindowClose pin s
  | .chatterWindowClose pin => Sys2Proof.Machine.execChatterWindowClose pin s
  | .chatterQuietEnd pin => Sys2Proof.Machine.execChatterQuietEnd pin s
  | .stuckTimerExpire pin => Sys2Proof.Machine.execStuckTimerExpire pin s
  | .bookCommit clk => Sys2Proof.Machine.execBookCommit clk s
  | .discardEpisodeEnd => Sys2Proof.Machine.execDiscardEpisodeEnd s
  | .bookDmaBurst clk => Sys2Proof.Machine.execBookDmaBurst clk s
  | .bookFrameSend clk => Sys2Proof.Machine.execBookFrameSend clk s
  | .canTxStart clk can loop => Sys2Proof.Machine.execCanTxStart clk can loop s
  | .canTxDone clk can tdcv => Sys2Proof.Machine.execCanTxDone clk can tdcv s
  | .canArbLost clk can => Sys2Proof.Machine.execCanArbLost clk can s
  | .canTxError clk can err afterArb dataPhase dominant pos eights tdcv => Sys2Proof.Machine.execCanTxError clk can err afterArb dataPhase dominant pos eights tdcv s
  | .canRecover clk can => Sys2Proof.Machine.execCanRecover clk can s
  | .canRxFrame clk can edge id dlc brs esi data => Sys2Proof.Machine.execCanRxFrame clk can edge id dlc brs esi data s
  | .canTxreq clk can map => Sys2Proof.Machine.execCanTxreq clk can map s
  | .canTxabort clk can map => Sys2Proof.Machine.execCanTxabort clk can map s
  | .canRxack clk can index => Sys2Proof.Machine.execCanRxack clk can index s
  | .canRefDue can => Sys2Proof.Machine.execCanRefDue can s
  | .canSynced clk can => Sys2Proof.Machine.execCanSynced clk can s
  | .linkDown clk port => Sys2Proof.Machine.execLinkDown clk port s
  | .linkUp clk port speed => Sys2Proof.Machine.execLinkUp clk port speed s
  | .linkFallbackToggle port => Sys2Proof.Machine.execLinkFallbackToggle port s
  | .portRxFrame clk port fr chk => Sys2Proof.Machine.execPortRxFrame clk port fr chk s
  | .portTxStart clk go => Sys2Proof.Machine.execPortTxStart clk go s
  | .gclEntryChange port => Sys2Proof.Machine.execGclEntryChange port s
  | .gclSwapWrite clk port => Sys2Proof.Machine.execGclSwapWrite clk port s
  | .gclSwapApply port => Sys2Proof.Machine.execGclSwapApply port s
  | .pauseSend clk port => Sys2Proof.Machine.execPauseSend clk port s
  | .pauseRepeat port => Sys2Proof.Machine.execPauseRepeat port s
  | .pauseRx clk port quanta => Sys2Proof.Machine.execPauseRx clk port quanta s
  | .pauseExpire port => Sys2Proof.Machine.execPauseExpire port s
  | .holdWindowClose port => Sys2Proof.Machine.execHoldWindowClose port s
  | .pcsLockLoss clk port => Sys2Proof.Machine.execPcsLockLoss clk port s
  | .portSnap clk port all => Sys2Proof.Machine.execPortSnap clk port all s
  | .fdbAgeExpire index => Sys2Proof.Machine.execFdbAgeExpire index s
  | .fdbRead clk index => Sys2Proof.Machine.execFdbRead clk index s
  | .fdbLookup clk => Sys2Proof.Machine.execFdbLookup clk s
  | .fdbWrite clk => Sys2Proof.Machine.execFdbWrite clk s
  | .fdbDelete clk => Sys2Proof.Machine.execFdbDelete clk s
  | .fdbFlushDest clk => Sys2Proof.Machine.execFdbFlushDest clk s
  | .fdbFlushAll clk => Sys2Proof.Machine.execFdbFlushAll clk s
  | .fdbCmdReserved clk op => Sys2Proof.Machine.execFdbCmdReserved clk op s
  | .hsrEntryExpire => Sys2Proof.Machine.execHsrEntryExpire s
  | .bufmemFailBank clk bank => Sys2Proof.Machine.execBufmemFailBank clk bank s
  | .bufmemRebuild clk bank => Sys2Proof.Machine.execBufmemRebuild clk bank s
  | .bufmemRebuildDone clk ok => Sys2Proof.Machine.execBufmemRebuildDone clk ok s
  | .bufmemScrub clk cell => Sys2Proof.Machine.execBufmemScrub clk cell s
  | .macsecSaInstall clk port sa handle => Sys2Proof.Machine.execMacsecSaInstall clk port sa handle s
  | .macsecSaInstallDone clk port sa => Sys2Proof.Machine.execMacsecSaInstallDone clk port sa s
  | .macsecTxAnWrite clk port an => Sys2Proof.Machine.execMacsecTxAnWrite clk port an s
  | .macsecTxAnApply clk port => Sys2Proof.Machine.execMacsecTxAnApply clk port s
  | .hostBar2Read clk off len tag => Sys2Proof.Machine.execHostBar2Read clk off len tag s
  | .hostBar2Write clk off data => Sys2Proof.Machine.execHostBar2Write clk off data s
  | .mgmtRead clk port node member tr => Sys2Proof.Machine.execMgmtRead clk port node member tr s
  | .mgmtPostedWrite clk port node member tr => Sys2Proof.Machine.execMgmtPostedWrite clk port node member tr s
  | .mgmtNpWrite clk port node member tr => Sys2Proof.Machine.execMgmtNpWrite clk port node member tr s
  | .mgmtWriteAck clk tr => Sys2Proof.Machine.execMgmtWriteAck clk tr s
  | .mgmtReadCompletion clk tr => Sys2Proof.Machine.execMgmtReadCompletion clk tr s
  | .ordWaitExpire node member => Sys2Proof.Machine.execOrdWaitExpire node member s
  | .npTimeout tag => Sys2Proof.Machine.execNpTimeout tag s
  | .noticeLateErrorSend node member => Sys2Proof.Machine.execNoticeLateErrorSend node member s
  | .noticeLateErrorRx clk node member entries => Sys2Proof.Machine.execNoticeLateErrorRx clk node member entries s
  | .noticeGroupRx clk node member group pend => Sys2Proof.Machine.execNoticeGroupRx clk node member group pend s
  | .noticeLastGaspRx clk node member payload => Sys2Proof.Machine.execNoticeLastGaspRx clk node member payload s
  | .llogPop clk => Sys2Proof.Machine.execLlogPop clk s
  | .hostTxTail clk slot => Sys2Proof.Machine.execHostTxTail clk slot s
  | .hostTxSlotRead clk header frame => Sys2Proof.Machine.execHostTxSlotRead clk header frame s
  | .leaseOpen clk node member => Sys2Proof.Machine.execLeaseOpen clk node member s
  | .leaseChallenge clk node member challenge => Sys2Proof.Machine.execLeaseChallenge clk node member challenge s
  | .leaseProof clk node member proof => Sys2Proof.Machine.execLeaseProof clk node member proof s
  | .leaseGrant clk node member seconds next => Sys2Proof.Machine.execLeaseGrant clk node member seconds next s
  | .leaseRenew clk node member proof => Sys2Proof.Machine.execLeaseRenew clk node member proof s
  | .leaseRelease clk node member => Sys2Proof.Machine.execLeaseRelease clk node member s
  | .leaseRefuse clk node member reason => Sys2Proof.Machine.execLeaseRefuse clk node member reason s
  | .leaseExpire => Sys2Proof.Machine.execLeaseExpire s
  | .leaseChallengeExpire => Sys2Proof.Machine.execLeaseChallengeExpire s
  | .leaseDrop clk => Sys2Proof.Machine.execLeaseDrop clk s
  | .pcieLinkChange clk up => Sys2Proof.Machine.execPcieLinkChange clk up s
  | .duplexCopyPoint cut => Sys2Proof.Machine.execDuplexCopyPoint cut s
  | .backsightStatusRx clk lane payload => Sys2Proof.Machine.execBacksightStatusRx clk lane payload s
  | .cycleRecordApply clk rec => Sys2Proof.Machine.execCycleRecordApply clk rec s
  | .backsightNoticeRx clk payload => Sys2Proof.Machine.execBacksightNoticeRx clk payload s
  | .heartbeatWindowClose => Sys2Proof.Machine.execHeartbeatWindowClose s
  | .duplexNegotiateTimeout => Sys2Proof.Machine.execDuplexNegotiateTimeout s
  | .takeover => Sys2Proof.Machine.execTakeover s
  | .duplexFault clk => Sys2Proof.Machine.execDuplexFault clk s
  | .duplexHandover clk => Sys2Proof.Machine.execDuplexHandover clk s
  | .duplexRejoin clk => Sys2Proof.Machine.execDuplexRejoin clk s
  | .duplexFence clk => Sys2Proof.Machine.execDuplexFence clk s
  | .dualClaimStatusRx clk payload => Sys2Proof.Machine.execDualClaimStatusRx clk payload s
  | .gangHelloSend => Sys2Proof.Machine.execGangHelloSend s
  | .gangHelloRx clk port member payload => Sys2Proof.Machine.execGangHelloRx clk port member payload s
  | .gangFormWaitExpire => Sys2Proof.Machine.execGangFormWaitExpire s
  | .gangTimeSend => Sys2Proof.Machine.execGangTimeSend s
  | .gangTimeRx clk port member stamp payload => Sys2Proof.Machine.execGangTimeRx clk port member stamp payload s
  | .gangStateRx clk member payload => Sys2Proof.Machine.execGangStateRx clk member payload s
  | .gangVote => Sys2Proof.Machine.execGangVote s
  | .gangctlRejoin clk => Sys2Proof.Machine.execGangctlRejoin clk s
  | .gangctlFence clk => Sys2Proof.Machine.execGangctlFence clk s
  | .inputInvalid clk input ov other vinA vinB vor gateNs => Sys2Proof.Machine.execInputInvalid clk input ov other vinA vinB vor gateNs s
  | .inputValid clk input vinA vinB gateNs => Sys2Proof.Machine.execInputValid clk input vinA vinB gateNs s
  | .mainReturn vinA vor => Sys2Proof.Machine.execMainReturn vinA vor s
  | .supplyReturnPref vinA vinB gateNs => Sys2Proof.Machine.execSupplyReturnPref vinA vinB gateNs s
  | .reverseComparator clk input off => Sys2Proof.Machine.execReverseComparator clk input off s
  | .railSequenceStart => Sys2Proof.Machine.execRailSequenceStart s
  | .railEnStep enter => Sys2Proof.Machine.execRailEnStep enter s
  | .railRampTimeout => Sys2Proof.Machine.execRailRampTimeout s
  | .pgCoreRelease enter => Sys2Proof.Machine.execPgCoreRelease enter s
  | .railFault clk map above => Sys2Proof.Machine.execRailFault clk map above s
  | .railEnFallStep clk => Sys2Proof.Machine.execRailEnFallStep clk s
  | .railFaultRestart => Sys2Proof.Machine.execRailFaultRestart s
  | .supplyRfClr clk => Sys2Proof.Machine.execSupplyRfClr clk s
  | .vorBelowPfw clk => Sys2Proof.Machine.execVorBelowPfw clk s
  | .pfwRelease clk => Sys2Proof.Machine.execPfwRelease clk s
  | .slotFastTrip clk slot vout => Sys2Proof.Machine.execSlotFastTrip clk slot vout s
  | .slotFaultTimerExpire clk slot vout => Sys2Proof.Machine.execSlotFaultTimerExpire clk slot vout s
  | .slotLimitTimerClear clk slot => Sys2Proof.Machine.execSlotLimitTimerClear clk slot s
  | .slotStartTimeout slot vout => Sys2Proof.Machine.execSlotStartTimeout slot vout s
  | .slotPgRise clk slot limiting vout => Sys2Proof.Machine.execSlotPgRise clk slot limiting vout s
  | .slotPgFall clk slot vout => Sys2Proof.Machine.execSlotPgFall clk slot vout s
  | .slotCoolEnd slot => Sys2Proof.Machine.execSlotCoolEnd slot s
  | .slotInsertRemainderEnd slot => Sys2Proof.Machine.execSlotInsertRemainderEnd slot s
  | .slotRemoval clk slot vout => Sys2Proof.Machine.execSlotRemoval clk slot vout s
  | .slotInsertion clk slot => Sys2Proof.Machine.execSlotInsertion clk slot s
  | .slotOnPinChange clk slot level vout => Sys2Proof.Machine.execSlotOnPinChange clk slot level vout s
  | .tallyUpdate clk adc => Sys2Proof.Machine.execTallyUpdate clk adc s
  | .classAComplete clk => Sys2Proof.Machine.execClassAComplete clk s
  | .classATimeout => Sys2Proof.Machine.execClassATimeout s
  | .tallyLearn clk => Sys2Proof.Machine.execTallyLearn clk s
  | .tallyAutoLearn => Sys2Proof.Machine.execTallyAutoLearn s
  | .tallyLearnEnd => Sys2Proof.Machine.execTallyLearnEnd s
  | .monumentDerive clk stage => Sys2Proof.Machine.execMonumentDerive clk stage s
  | .monumentGenerate clk stage => Sys2Proof.Machine.execMonumentGenerate clk stage s
  | .monumentGenIdent clk => Sys2Proof.Machine.execMonumentGenIdent clk s
  | .monumentImport clk stage => Sys2Proof.Machine.execMonumentImport clk stage s
  | .monumentUnwrap clk stage => Sys2Proof.Machine.execMonumentUnwrap clk stage s
  | .monumentWrap clk => Sys2Proof.Machine.execMonumentWrap clk s
  | .monumentMac clk => Sys2Proof.Machine.execMonumentMac clk s
  | .monumentMacVerify clk => Sys2Proof.Machine.execMonumentMacVerify clk s
  | .monumentSign clk => Sys2Proof.Machine.execMonumentSign clk s
  | .monumentPubkey clk => Sys2Proof.Machine.execMonumentPubkey clk s
  | .monumentAttest clk => Sys2Proof.Machine.execMonumentAttest clk s
  | .monumentProve clk => Sys2Proof.Machine.execMonumentProve clk s
  | .monumentCommit clk => Sys2Proof.Machine.execMonumentCommit clk s
  | .monumentDiscard clk => Sys2Proof.Machine.execMonumentDiscard clk s
  | .monumentErase clk => Sys2Proof.Machine.execMonumentErase clk s
  | .monumentInfo clk => Sys2Proof.Machine.execMonumentInfo clk s
  | .monumentTransition clk => Sys2Proof.Machine.execMonumentTransition clk s
  | .monumentMkaKdf clk => Sys2Proof.Machine.execMonumentMkaKdf clk s
  | .monumentMkaIcv clk => Sys2Proof.Machine.execMonumentMkaIcv clk s
  | .monumentMkaUnwrap clk => Sys2Proof.Machine.execMonumentMkaUnwrap clk s
  | .monumentOpReserved clk op => Sys2Proof.Machine.execMonumentOpReserved clk op s
  | .monumentOpDone clk => Sys2Proof.Machine.execMonumentOpDone clk s
  | .keyCommit => Sys2Proof.Machine.execKeyCommit s
  | .keyCommitOldZeroed clk => Sys2Proof.Machine.execKeyCommitOldZeroed clk s
  | .trngFail clk => Sys2Proof.Machine.execTrngFail clk s
  | .monumentRtcSet clk word => Sys2Proof.Machine.execMonumentRtcSet clk word s
  | .tamperDetect clk sources => Sys2Proof.Machine.execTamperDetect clk sources s
  | .tamperRearm clk word => Sys2Proof.Machine.execTamperRearm clk word s
  | .hmonSample clk mon value => Sys2Proof.Machine.execHmonSample clk mon value s
  | .hmonSnap clk mon clear all => Sys2Proof.Machine.execHmonSnap clk mon clear all s
  | .calDataWrite clk data => Sys2Proof.Machine.execCalDataWrite clk data s
  | .calDataRead clk => Sys2Proof.Machine.execCalDataRead clk s
  | .calUnlock clk word => Sys2Proof.Machine.execCalUnlock clk word s
  | .calProg clk => Sys2Proof.Machine.execCalProg clk s
  | .calProgDone clk => Sys2Proof.Machine.execCalProgDone clk s
  | .corePorRelease clk nid role boot => Sys2Proof.Machine.execCorePorRelease clk nid role boot s
  | .pllLock clk => Sys2Proof.Machine.execPllLock clk s
  | .calLoadDone clk => Sys2Proof.Machine.execCalLoadDone clk s
  | .selfTestDone clk failed uncorr => Sys2Proof.Machine.execSelfTestDone clk failed uncorr s
  | .bootFetchDone clk image => Sys2Proof.Machine.execBootFetchDone clk image s
  | .bootAuthDone clk => Sys2Proof.Machine.execBootAuthDone clk s
  | .bootGo clk => Sys2Proof.Machine.execBootGo clk s
  | .bootDataWrite clk data => Sys2Proof.Machine.execBootDataWrite clk data s
  | .bootEntryPage clk => Sys2Proof.Machine.execBootEntryPage clk s
  | .bootEntryProgram clk => Sys2Proof.Machine.execBootEntryProgram clk s
  | .bootEntryWait clk => Sys2Proof.Machine.execBootEntryWait clk s
  | .bootWaitTimeout => Sys2Proof.Machine.execBootWaitTimeout s
  | .rstNAssert clk => Sys2Proof.Machine.execRstNAssert clk s
  | .rstNRelease clk nid role boot => Sys2Proof.Machine.execRstNRelease clk nid role boot s
  | .wdogArm clk data => Sys2Proof.Machine.execWdogArm clk data s
  | .wdogKick clk => Sys2Proof.Machine.execWdogKick clk s
  | .wdogExpire => Sys2Proof.Machine.execWdogExpire s
  | .wdogDelayedReset => Sys2Proof.Machine.execWdogDelayedReset s
  | .resetCmd clk => Sys2Proof.Machine.execResetCmd clk s
  | .resetCmdFire => Sys2Proof.Machine.execResetCmdFire s
  | .domainReset clk map => Sys2Proof.Machine.execDomainReset clk map s
  | .domainResetDone clk map => Sys2Proof.Machine.execDomainResetDone clk map s
  | .batteryDomainLoss clk => Sys2Proof.Machine.execBatteryDomainLoss clk s
  | .canReceiveError clk can err tecEights recEights => Sys2Proof.Machine.execCanReceiveError clk can err tecEights recEights s
  | .stallLong eng => Sys2Proof.Machine.execStallLong eng s
  | .swapAbandon eng => Sys2Proof.Machine.execSwapAbandon eng s
  | .peerAbsent => Sys2Proof.Machine.execPeerAbsent s
  | .tamperSourceInactive clk sources => Sys2Proof.Machine.execTamperSourceInactive clk sources s
  | .vddioBankChange clk bank present sense => Sys2Proof.Machine.execVddioBankChange clk bank present sense s

end Sys2Proof.Machine
end

