-- ==== Sys2Proof/Safety.lean ====
section
/-!
DEFINITION. What counts as a safe step and as a sound state, and the parts of the state, in the terms the statements use.
-/

namespace Sys2Proof.Machine

/-- A step is safe when it answers a next state: no fault, no refusal. -/
def safeStep (s : State) : Prop := ∃ t, step s = .next t

/-- The sparse tables of the state are in their canonical form: keys rising strictly, no entry equal to what an unlisted
key reads as. -/
def State.Canonical (s : State) : Prop :=
  tabWf regDefault s.regs = true ∧ tabWf memDefault s.mem = true

/-- The life-cycle fuses show a state of R473, and a TRANSITION under way goes along an arrow of R473. -/
def MonSt.LifeOk (m : MonSt) : Prop :=
  1 ≤ m.fuse ∧ m.fuse ≤ 4 ∧ ∀ o, m.op = some o → o.target = 0 ∨ arrow m.fuse o.target = true

/-- Place of a source in the grant of Datum writes of one CLK_MGT cycle (R82): the host, the ring manager, then gang
members. -/
def grantRank : Source → Nat
  | .manager => 1
  | .gang => 2
  | _ => 0

/-- The moment and the place in the grant of a write to the DATUM page (R82). -/
def datumGrant : Instr → Option (Nat × Nat)
  | .datumIncWrite clk hi => some (clk, grantRank hi.src)
  | .datumStepWrite clk _ src => some (clk, grantRank src)
  | .datumStepUnlock clk w => some (clk, grantRank w.src)
  | .datumHoldReq clk => some (clk, 0)
  | .datumResume clk => some (clk, 0)
  | .registerWrite clk page _ _ src => if page = pDATUM then some (clk, grantRank src) else none
  | _ => none

/-- The waiting Datum writes stand in the order in which the register decoder grants them: by time, and within one cycle by
source (R82). The queue is first in, first out, so that this is asked of the sender (DESIGN CHOICE, assumption log 49). -/
def State.grantsInOrder (s : State) : Prop :=
  (s.pending.filterMap datumGrant).Pairwise (fun a b => a.1 < b.1 ∨ a.1 = b.1 ∧ a.2 ≤ b.2)

/-- A write of a register reaches page `p`: the core die runs (R37), the hub has booted or the page always runs (R510), a page
of the guard die has its link (R24), and no check of the page is in progress (R58). -/
def State.reaches (s : State) (p : Nat) : Bool :=
  s.coreOn && (alwaysOn p || decide (2 < s.get pSYS F.SYS.BOOTSTS.STAGE)) && (!guardPage p || s.pwr.dieLink) &&
    !s.page.checks.contains p

/-- A write of a register of page `p` has its effect: it reaches the page, which is not locked (R64). -/
def State.accepts (s : State) (p : Nat) : Bool := s.reaches p && !s.flag p F.HDR.PCTL.LOCK

/-- The parts of the state beside the registers, the queue, the clock, the count of free values and the note of what the current
CLK_MGT cycle set (R9). `life` is the part of `mon` that the life-cycle rules are about: the fuses and the operation under
way. -/
inductive Part where
  | result
  | latch
  | shadow
  | mem
  | pwr
  | page
  | datum
  | stamps
  | ports
  | sw
  | book
  | bridge
  | dup
  | gang
  | cal
  | cycle
  | plat
  | mscl
  | pins
  | engs
  | crews
  | edges
  | cans
  | stake
  | supply
  | slots
  | tally
  | mon
  | boot
  | rst
  | life
deriving DecidableEq, Repr

/-- A part is in one state as it was in another. -/
def Part.same : Part → State → State → Prop
  | .result, r, s => s.result = r.result
  | .latch, r, s => s.latch = r.latch
  | .shadow, r, s => s.shadow = r.shadow
  | .mem, r, s => s.mem = r.mem
  | .pwr, r, s => s.pwr = r.pwr
  | .page, r, s => s.page = r.page
  | .datum, r, s => s.datum = r.datum
  | .stamps, r, s => s.stamps = r.stamps
  | .ports, r, s => s.ports = r.ports
  | .sw, r, s => s.sw = r.sw
  | .book, r, s => s.book = r.book
  | .bridge, r, s => s.bridge = r.bridge
  | .dup, r, s => s.dup = r.dup
  | .gang, r, s => s.gang = r.gang
  | .cal, r, s => s.cal = r.cal
  | .cycle, r, s => s.cycle = r.cycle
  | .plat, r, s => s.plat = r.plat
  | .mscl, r, s => s.mscl = r.mscl
  | .pins, r, s => s.pins = r.pins
  | .engs, r, s => s.engs = r.engs
  | .crews, r, s => s.crews = r.crews
  | .edges, r, s => s.edges = r.edges
  | .cans, r, s => s.cans = r.cans
  | .stake, r, s => s.stake = r.stake
  | .supply, r, s => s.supply = r.supply
  | .slots, r, s => s.slots = r.slots
  | .tally, r, s => s.tally = r.tally
  | .mon, r, s => s.mon = r.mon
  | .boot, r, s => s.boot = r.boot
  | .rst, r, s => s.rst = r.rst
  | .life, r, s => s.mon.fuse = r.mon.fuse ∧ s.mon.op = r.mon.op

/-- A command that answers a next state changes the words of the listed fields, registers on the pages of a set, and the
listed parts only. -/
def Leaves (c : Instr) (s : State) (fields : List (Nat × List Fld)) (pages : Nat → Bool) (parts : List Part) : Prop :=
  ∀ t, exec c s = .next t →
    (∀ p off, pages p = false →
      (∀ x ∈ fields, ∀ f ∈ x.2, ∀ i, i < f.words → regKey p off ≠ regKey x.1 (f.off + 4 * i)) → t.rd p off = s.rd p off) ∧
    ∀ x, x ∉ parts → x.same s t

end Sys2Proof.Machine
end

