-- ==== Sys2Proof/Certificates/Slice0/Obligations.lean ====
section
/-!
DEFINITION. The statements for the provers. Each names the rules of spec/ it formalises; where a clause rests on a choice of the
model, its text names the entry of the assumption log.
-/

open Sys2Proof Sys2Proof.Machine

/-- O1. A step takes the command at the front of the queue and runs it on the state with the queue's rest; on an empty queue it
idles, which is the model's choice (assumption log 25). -/
def Obligations.StepRunsFront : Prop :=
  (∀ (c : Instr) (t : List Instr) (s : State), step { s with pending := c :: t } = exec c { s with pending := t }) ∧
  ∀ s : State, s.pending = [] → step s = .next s

/-- O2. Every step, whatever command stands in front and from whatever state, keeps the memory and the register table in their
canonical form: addresses strictly rising and no entry equal to what an unlisted address reads as (R8, R33). That the form is a sparse
table, and what unlisted memory reads as, is the model's choice (assumption log 8). -/
def Obligations.TablesStayCanonical : Prop :=
  ∀ s t : State, s.Canonical → step s = .next t → t.Canonical

/-- O3. R473, R474: no step of any command, from any state whose fuses and operation under way follow R473, moves the life cycle back,
and each keeps the fuses in a state of R473 and the operation under way on one of its arrows. -/
def Obligations.LifeCycleNeverGoesBack : Prop :=
  ∀ s t : State, s.mon.LifeOk → step s = .next t → t.mon.LifeOk ∧ s.mon.fuse ≤ t.mon.fuse

/-- O4. Every step answers a next state, which is the model's choice where a command does not apply (assumption log 1); a step takes exactly
the command in front off the queue, neither the clock nor the count of free values ever goes back (R71), and the serial number of the
hub stays (R528). -/
def Obligations.EveryStepTakesOneCommand : Prop :=
  (∀ s : State, safeStep s) ∧
  ∀ (c : Instr) (q : List Instr) (s t : State), step { s with pending := c :: q } = .next t →
    t.pending = q ∧ s.clock ≤ t.clock ∧ s.freeCtr ≤ t.freeCtr ∧ t.pwr.serial = s.pwr.serial

/-- O5. R50, R71, R509, R524, R528: after the release of the core-die POR no page but SYS, RESET and IRQ runs or is enabled, RAW is 0 and no
time is valid, the start-up stands at STAGE 0, nothing is queued or stored, SYS.REV reports 0xB0 and 0xA2, and the invariants of the model
hold. That the model begins at a normal start with valid supplies is its choice (assumption log 4). -/
def Obligations.StateAfterReset : Prop :=
  (∀ p ∈ allPages, alwaysOn p = false → State.reset.running p = false ∧ State.reset.get p F.HDR.PCTL.EN = 0) ∧
  State.reset.raw = 0 ∧ State.reset.get pDATUM F.DATUM.STS.TVALID = 0 ∧
  State.reset.get pSYS F.SYS.BOOTSTS.STAGE = 0 ∧
  State.reset.get pSYS F.SYS.REV.CORE = 0xB0 ∧ State.reset.get pSYS F.SYS.REV.GUARD = 0xA2 ∧
  State.reset.pending = [] ∧ State.reset.mem = [] ∧ State.reset.stamps = [] ∧ State.reset.mon.op = none ∧
  State.reset.Canonical ∧ State.reset.mon.LifeOk

/-- O6. R35: the first address error since VALID was cleared captures its address and source, later ones do not, and each sets PEVT bit 8;
a write of a register that is not there is one. -/
def Obligations.AddressErrorCapture : Prop :=
  (∀ (s : State) (addr : Nat) (src : Source), addr < 2 ^ 48 → s.get pSYS F.SYS.AERR_HI.VALID = 0 →
    (s.addressError addr src).get pSYS F.SYS.AERR_LO.ADDR_LO + 2 ^ 32 * (s.addressError addr src).get pSYS F.SYS.AERR_HI.ADDR_HI = addr ∧
    (s.addressError addr src).get pSYS F.SYS.AERR_HI.SOURCE = srcCode src ∧
    (s.addressError addr src).get pSYS F.SYS.AERR_HI.VALID = 1 ∧ (s.addressError addr src).get pSYS ⟨0x0C, 8, 1⟩ = 1) ∧
  (∀ (s : State) (addr : Nat) (src : Source), s.get pSYS F.SYS.AERR_HI.VALID = 1 →
    (∀ k, k ≠ regKey pSYS 0x0C → tabGet regDefault (s.addressError addr src).regs k = tabGet regDefault s.regs k) ∧
    (s.addressError addr src).get pSYS ⟨0x0C, 8, 1⟩ = 1) ∧
  (∀ (clk page off : Nat) (data : Word) (src : Source) (s : State), (s.coreOn = true) → (page < 0x1000) → (runOf page = none ∨ rowAt page off = none) → (s.bar0Held page src = false ∧ s.bridge.blocked = []) →
    ∃ t, exec (.registerWrite clk page off data src) s = .next t ∧
      t.regs = ((s.advance clk).addressError ((s.advance clk).issued ((s.advance clk).regAddr page off) src) src).regs ∧
      t.mem = s.mem)

/-- O7. R64: on a page with LOCK = 1 a write of any register but PEVT and PEVM changes nothing but what the refusal shows, PEVT and PEVM
are written as ever, and the block can still fault and stop. `u` is the state as the access finds it. -/
def Obligations.LockedPage : Prop :=
  (∀ (clk page off : Nat) (data : Word) (src : Source) (r : RegRow) (fam : Fam) (u : State) (s : State), (page ∈ allPages) → (rowAt page off = some r) → (off ≠ 0x0C ∧ off ≠ 0x10) → (famOf page = some fam) → ((s.advance clk).pageNow fam page = u) → (u.reaches page = true) → (u.flag page F.HDR.PCTL.LOCK = true) → (s.bar0Held page src = false ∧ s.bridge.blocked = []) →
    ∃ t, exec (.registerWrite clk page off data src) s = .next t ∧
      t.get page F.HDR.PSTS.REFUSED = 1 ∧ t.get page F.HDR.PSTS.CODE = 0x0F ∧ t.get page F.HDR.PSTS.INDEX = 0xFF ∧ t.get page ⟨0x0C, 0, 1⟩ = 1 ∧
      (∀ k : Nat, k ≠ regKey page 8 → k ≠ regKey page 0x0C → tabGet regDefault t.regs k = tabGet regDefault u.regs k) ∧
      (∀ b, b < 32 → b ≠ 0 → t.get page ⟨0x0C, b, 1⟩ = u.get page ⟨0x0C, b, 1⟩) ∧
      t.get page F.HDR.PSTS.RUN = u.get page F.HDR.PSTS.RUN ∧ t.get page F.HDR.PSTS.HELD = u.get page F.HDR.PSTS.HELD ∧ t.get page F.HDR.PSTS.FAULT = u.get page F.HDR.PSTS.FAULT ∧
      t.get page F.HDR.PCTL.all = u.get page F.HDR.PCTL.all ∧
      t.mem = u.mem ∧ t.page = u.page) ∧
  (∀ (clk : Nat) (data : Word) (src : Source) (s : State), (s.reaches pBRIDGE = true) → (s.flag pBRIDGE F.HDR.PCTL.LOCK = true) → (s.bridge.blocked = []) →
    ∃ t, exec (.registerWrite clk pBRIDGE 4 data src) s = .next t ∧
      t.get pBRIDGE F.HDR.PSTS.REFUSED = 1 ∧ t.get pBRIDGE F.HDR.PSTS.CODE = 0x0F ∧ t.get pBRIDGE F.HDR.PSTS.INDEX = 0xFF ∧
      t.get pBRIDGE F.HDR.PCTL.all = s.get pBRIDGE F.HDR.PCTL.all) ∧
  (∀ (clk page : Nat) (data : Word) (fam : Fam) (u : State) (s : State), (page ∈ allPages) → (famOf page = some fam) → ((s.advance clk).pageNow fam page = u) → (u.reaches page = true) →
    ∃ t, exec (.pevtClear clk page data) s = .next t ∧
      t.rd page 0x0C = u.rd page 0x0C &&& ~~~(data &&& 0xFFFFFF03 &&& ~~~u.setNow page 0x0C)) ∧
  (∀ (clk page : Nat) (data : Word) (s : State), (page ∈ allPages) → ((s.advance clk).reaches page = true) →
    ∃ t, exec (.pevmWrite clk page data) s = .next t ∧
      t.rd page 0x10 = data) ∧
  (∀ (clk page : Nat) (s : State), (page ∈ allPages) → (s.running page = true) → (s.flag page F.HDR.PCTL.LOCK = true) →
    ∃ t, exec (.blockFault clk page) s = .next t ∧
      t.get page F.HDR.PSTS.FAULT = 1)

/-- O8. R41: while PSTATE.BUSY = 1 each write of REQ takes the place of what is stored and starts nothing; when the transition completes
and BUSY falls, the stored value is acted on. -/
def Obligations.PowerRequestWhileBusy : Prop :=
  (∀ (clk : Nat) (s : State), ((s.advance clk).accepts pSYS = true) → (s.get pSYS F.SYS.PSTATE.BUSY = 1) →
    ∃ t, exec (.pstateReqRun clk) s = .next t ∧
      t.pwr = { s.pwr with stored := some 0 } ∧
      (∀ k : Nat, k ≠ regKey pSYS 0x80 → tabGet regDefault t.regs k = tabGet regDefault s.regs k) ∧
      t.get pSYS F.SYS.PSTATE.BUSY = 1 ∧ t.get pSYS F.SYS.PSTATE.CUR = s.get pSYS F.SYS.PSTATE.CUR) ∧
  (∀ (clk : Nat) (s : State), ((s.advance clk).accepts pSYS = true) → (s.get pSYS F.SYS.PSTATE.BUSY = 1) →
    ∃ t, exec (.pstateReqWatch clk) s = .next t ∧
      t.pwr = { s.pwr with stored := some 1 } ∧
      (∀ k : Nat, k ≠ regKey pSYS 0x80 → tabGet regDefault t.regs k = tabGet regDefault s.regs k) ∧
      t.get pSYS F.SYS.PSTATE.BUSY = 1 ∧ t.get pSYS F.SYS.PSTATE.CUR = s.get pSYS F.SYS.PSTATE.CUR) ∧
  (∀ (clk : Nat) (s : State), ((s.advance clk).accepts pSYS = true) → (s.get pSYS F.SYS.PSTATE.BUSY = 1) →
    ∃ t, exec (.pstateReqKeep clk) s = .next t ∧
      t.pwr = { s.pwr with stored := some 2 } ∧
      (∀ k : Nat, k ≠ regKey pSYS 0x80 → tabGet regDefault t.regs k = tabGet regDefault s.regs k) ∧
      t.get pSYS F.SYS.PSTATE.BUSY = 1 ∧ t.get pSYS F.SYS.PSTATE.CUR = s.get pSYS F.SYS.PSTATE.CUR) ∧
  (∀ (clk : Nat) (s : State), ((s.advance clk).accepts pSYS = true) → (s.get pSYS F.SYS.PSTATE.BUSY = 1) →
    ∃ t, exec (.pstateReqReserved clk) s = .next t ∧
      t.pwr = { s.pwr with stored := some 3 } ∧
      (∀ k : Nat, k ≠ regKey pSYS 0x80 → tabGet regDefault t.regs k = tabGet regDefault s.regs k) ∧
      t.get pSYS F.SYS.PSTATE.BUSY = 1 ∧ t.get pSYS F.SYS.PSTATE.CUR = s.get pSYS F.SYS.PSTATE.CUR) ∧
  (∀ (clk r : Nat) (p : Power) (u : State) (s : State), (s.pwr.target = some p) → (s.pwr.stored = some r) → (((s.advance clk).set pSYS F.SYS.PSTATE.BUSY 0).set pSYS F.SYS.PSTATE.CUR (if p = Power.watch then 1 else 0) = u) →
    ∃ t, exec (.pstateTransitionDone clk) s = .next t ∧
      t = State.pstateAct { u with pwr := { s.pwr with power := p, target := none, stored := none } } r)

/-- O9. R296: a write of an index to RXACK returns that entry to the hub, and a write that names an entry that is not owned has no effect
but to count in ACKERR. -/
def Obligations.ReceiveEntryReturned : Prop :=
  (∀ (clk can index : Nat) (s : State), ((s.advance clk).accepts (pCAN can) = true) → (can < 16 ∧ index < 32) → (natBit (s.get (pCAN can) F.CAN.RXOWN.MAP) index = true) →
    ∃ t, exec (.canRxack clk can index) s = .next t ∧
      (∀ i, i < 32 → natBit (t.get (pCAN can) F.CAN.RXOWN.MAP) i = (decide (i ≠ index) && natBit (s.get (pCAN can) F.CAN.RXOWN.MAP) i)) ∧
      t.get (pCAN can) F.CAN.ACKERR.COUNT = s.get (pCAN can) F.CAN.ACKERR.COUNT) ∧
  (∀ (clk can index : Nat) (s : State), ((s.advance clk).accepts (pCAN can) = true) → (can < 16 ∧ index < 32) → (natBit (s.get (pCAN can) F.CAN.RXOWN.MAP) index = false) →
    ∃ t, exec (.canRxack clk can index) s = .next t ∧
      (∀ k : Nat, k ≠ regKey (pCAN can) F.CAN.ACKERR.COUNT.off → tabGet regDefault t.regs k = tabGet regDefault s.regs k) ∧
      t.get (pCAN can) F.CAN.ACKERR.COUNT = (s.get (pCAN can) F.CAN.ACKERR.COUNT + 1) % 2 ^ F.CAN.ACKERR.COUNT.w ∧
      t.cans = s.cans)

/-- O10. R75, R77: a write of the upper word of INC is accepted as a fold with the new INC while the value is in range and the hub is not in
holdover, else counted and discarded; a write of the lower word applies nothing. What opens, restarts and closes the unlock window,
how long it lasts, and that DATUM.STS.UNLOCKED shows it. -/
def Obligations.DatumIncAndUnlock : Prop :=
  (∀ (clk : Nat) (hi : Word) (src : Source) (s : State), ((s.advance clk).accepts pDATUM = true) →
    ∃ t, exec (.datumIncWrite clk ⟨hi, src⟩) s = .next t ∧
      let v := (s.latched pDATUM 0x48).toNat + 2 ^ 32 * (hi.toNat % 2 ^ 16)
      (if 79984 * 2 ^ 40 ≤ 10000 * v ∧ 10000 * v ≤ 80016 * 2 ^ 40 ∧ s.get pDATUM F.DATUM.STS.HOLDOVER = 0 then
        t.datum.fold = (⟨(s.advance clk).raw, s.datum.fold.fix (s.advance clk).raw, v⟩ : Fold) ∧
        t.datum.older = (s.datum.fold :: s.datum.older).take 7 ∧ t.get pDATUM F.DATUM.INC.all = v ∧
        t.get pDATUM F.DATUM.INCDROP.COUNT = s.get pDATUM F.DATUM.INCDROP.COUNT
        else t.datum = s.datum ∧ t.get pDATUM F.DATUM.INC.all = s.get pDATUM F.DATUM.INC.all ∧
        t.get pDATUM F.DATUM.INCDROP.COUNT = satAdd (s.get pDATUM F.DATUM.INCDROP.COUNT) 1 16 ∧ t.get pDATUM ⟨0x0C, 11, 1⟩ = 1)) ∧
  (∀ (clk : Nat) (lo : Word) (src : Source) (s : State), ((s.advance clk).accepts pDATUM = true) →
    ∃ t, exec (.registerWrite clk pDATUM 0x48 lo src) s = .next t ∧
      t.datum = s.datum ∧
      t.regs = s.regs ∧
      t.latched pDATUM 0x48 = lo) ∧
  (∀ (clk : Nat) (word : Word) (src : Source) (s : State), ((s.advance clk).accepts pDATUM = true) →
    ∃ t, exec (.datumStepUnlock clk ⟨word, src⟩) s = .next t ∧
      (t.datum.unlock = if word = 0xD47A0001 then some (s.advance clk).raw else none) ∧
      t.datum.fold = s.datum.fold ∧
      t.regs = s.regs) ∧
  (∀ (clk : Nat) (hi : Word) (src : Source) (s : State), ((s.advance clk).accepts pDATUM = true) → ((s.advance clk).stepRefusal (toSigned ((s.latched pDATUM 0x50).toNat + 2 ^ 32 * hi.toNat) 64) = none) →
    ∃ t, exec (.datumStepWrite clk hi src) s = .next t ∧
      t.datum.unlock = none) ∧
  (∀ (clk : Nat) (s : State), (s.coreOn = true) → (s.get pDATUM F.DATUM.STS.REF_FAULT = 0) → (s.get pDATUM F.DATUM.STS.HOLDOVER = 0 ∨ s.get pDATUM F.DATUM.STS.HO_CAUSE ≠ 3) →
    ∃ t, exec (.refFaultDetect clk) s = .next t ∧
      t.datum.unlock = none ∧
      t.get pDATUM F.DATUM.STS.HO_CAUSE = 3) ∧
  (∀ (u : Nat) (s : State), (s.datum.unlock = some u) →
    ∃ t, exec (.unlockWindowExpire) s = .next t ∧
      t.datum.unlock = none ∧
      t.clock = max s.clock (s.datum.rawOrg + u + 2000000) ∧
      t.regs = s.regs) ∧
  (∀ s : State, s.unlocked = true ↔ ∃ u, s.datum.unlock = some u ∧ s.raw < u + 2000000) ∧
  (∀ s : State, natBit (s.view pDATUM 0x40).toNat F.DATUM.STS.UNLOCKED.lo = s.unlocked)

/-- O11. R76–R79: what a write of STEP does. While no time is valid any step in range is accepted; with TVALID set a step over
STEP_LIMIT outside the unlock window is refused and the hub enters holdover. -/
def Obligations.DatumSteps : Prop :=
  (∀ (clk : Nat) (hi : Word) (src : Source) (s : State), ((s.advance clk).accepts pDATUM = true) → (s.get pDATUM F.DATUM.STS.HOLDOVER = 0) → (s.get pDATUM F.DATUM.STS.TVALID = 1) → ((s.advance clk).unlocked = false) → (s.get pDATUM F.DATUM.STEP_LIMIT.LIMIT < (toSigned ((s.latched pDATUM 0x50).toNat + 2 ^ 32 * hi.toNat) 64).natAbs) →
    ∃ t, exec (.datumStepWrite clk hi src) s = .next t ∧
      t.datum = s.datum ∧
      t.get pDATUM F.DATUM.REFSTEP.VALUE = (s.latched pDATUM 0x50).toNat + 2 ^ 32 * hi.toNat ∧
      t.get pDATUM F.DATUM.STS.STEP_RSN = 1 ∧
      t.get pDATUM F.DATUM.STEPCNT.REFUSED = satAdd (s.get pDATUM F.DATUM.STEPCNT.REFUSED) 1 16 ∧
      t.get pDATUM F.DATUM.STS.HOLDOVER = 1 ∧
      t.get pDATUM F.DATUM.STS.HO_CAUSE = 1 ∧
      t.get pDATUM ⟨0x0C, 9, 1⟩ = 1) ∧
  (∀ (clk : Nat) (hi : Word) (src : Source) (s : State), ((s.advance clk).accepts pDATUM = true) → (s.get pDATUM F.DATUM.STS.HOLDOVER = 0) → (s.get pDATUM F.DATUM.STS.TVALID = 0) → ((s.latched pDATUM 0x50).toNat + 2 ^ 32 * hi.toNat < 2 ^ 63) → (s.datum.fold.fix (s.advance clk).raw + ((s.latched pDATUM 0x50).toNat + 2 ^ 32 * hi.toNat) * 2 ^ 40 < 2 ^ 104) →
    ∃ t, exec (.datumStepWrite clk hi src) s = .next t ∧
      t.datum.fold = (⟨(s.advance clk).raw, s.datum.fold.fix (s.advance clk).raw + ((s.latched pDATUM 0x50).toNat + 2 ^ 32 * hi.toNat) * 2 ^ 40,
        s.datum.fold.inc⟩ : Fold) ∧
      t.datum.older = (s.datum.fold :: s.datum.older).take 7 ∧
      t.datum.unlock = none ∧
      t.get pDATUM F.DATUM.STS.TVALID = 1 ∧
      t.get pDATUM F.DATUM.STEPCNT.ACCEPTED = satAdd (s.get pDATUM F.DATUM.STEPCNT.ACCEPTED) 1 16 ∧
      t.get pDATUM ⟨0x0C, 8, 1⟩ = 1)

/-- O12. R79, R80: holdover is entered on request and on a reference fault, and left by RESUME once the fault has cleared. -/
def Obligations.DatumHoldover : Prop :=
  (∀ (clk : Nat) (s : State), ((s.advance clk).accepts pDATUM = true) → (s.get pDATUM F.DATUM.STS.HOLDOVER = 0) →
    ∃ t, exec (.datumHoldReq clk) s = .next t ∧
      t.get pDATUM F.DATUM.STS.HOLDOVER = 1 ∧
      t.get pDATUM F.DATUM.STS.HO_CAUSE = 2 ∧
      t.get pDATUM ⟨0x0C, 10, 1⟩ = 1 ∧
      t.datum = s.datum) ∧
  (∀ (clk : Nat) (s : State), ((s.advance clk).accepts pDATUM = true) → (s.get pDATUM F.DATUM.STS.HOLDOVER = 1) → (s.get pDATUM F.DATUM.STS.HO_CAUSE ≠ 3 ∨ s.get pDATUM F.DATUM.STS.REF_FAULT = 0) →
    ∃ t, exec (.datumResume clk) s = .next t ∧
      t.get pDATUM F.DATUM.STS.HOLDOVER = 0 ∧
      t.get pDATUM F.DATUM.STS.HO_CAUSE = 0 ∧
      t.datum = s.datum) ∧
  (∀ (clk : Nat) (s : State), (s.coreOn = true) → (s.get pDATUM F.DATUM.STS.REF_FAULT = 0) →
    ∃ t, exec (.refFaultDetect clk) s = .next t ∧
      t.get pDATUM F.DATUM.STS.REF_FAULT = 1 ∧
      t.get pDATUM F.DATUM.STS.HOLDOVER = 1 ∧
      t.get pDATUM F.DATUM.STS.HO_CAUSE = 3 ∧
      t.get pDATUM ⟨0x0C, 12, 1⟩ = 1 ∧
      t.datum.fold = s.datum.fold) ∧
  (∀ (clk : Nat) (s : State), (s.coreOn = true) →
    ∃ t, exec (.refFaultClear clk) s = .next t ∧
      t.get pDATUM F.DATUM.STS.REF_FAULT = 0 ∧
      t.get pDATUM F.DATUM.STS.HOLDOVER = s.get pDATUM F.DATUM.STS.HOLDOVER ∧
      t.datum = s.datum)

/-- O13. R92, R96, R97: an edge of PPS_IN is stamped and counted, the PPS_OUT pulse starts at the next ring time congruent to
PPS_PHASE and lasts PPS_WIDTH, and reads of TXQ take stamps from the head. -/
def Obligations.PpsAndStampQueue : Prop :=
  (∀ (clk : Nat) (rising : Bool) (s : State), (s.running pDATUM = true) → (s.get pDATUM F.DATUM.PPSCTL.IN_EN = 1) → (s.get pDATUM F.DATUM.PPSCTL.IN_POL = bit (!rising)) →
    ∃ t, exec (.ppsInEdge clk rising) s = .next t ∧
      t.get pDATUM F.DATUM.PPS_IN.T = (s.advance clk).now % 2 ^ 64 ∧
      t.get pDATUM F.DATUM.PPS_INCNT.COUNT = (s.get pDATUM F.DATUM.PPS_INCNT.COUNT + 1) % 2 ^ 32 ∧
      t.get pDATUM ⟨0x0C, 13, 1⟩ = 1) ∧
  (∀ (s : State), (s.ppsReady = true) →
    ∃ t, exec (.ppsOutStart) s = .next t ∧
      let at0 := nextCongruent (max s.datum.ppsFrom s.now) (s.get pDATUM F.DATUM.PPS_PHASE.PHASE) (s.get pDATUM F.DATUM.PPS_PERIOD.PERIOD)
      t.datum.ppsEnd = some (at0 + s.get pDATUM F.DATUM.PPS_WIDTH.WIDTH) ∧
      t.clock = max s.clock (s.clockOf at0) ∧
      t.regs = s.regs) ∧
  (∀ (e : Nat) (s : State), (s.datum.ppsEnd = some e) →
    ∃ t, exec (.ppsOutEnd) s = .next t ∧
      t.datum.ppsEnd = none ∧
      t.clock = max s.clock (s.clockOf e) ∧
      t.regs = s.regs) ∧
  (∀ (clk : Nat) (e : TxStamp) (l : List TxStamp) (s : State), (s.coreOn = true) → (s.stamps = e :: l) →
    ∃ t, exec (.txqPop clk) s = .next t ∧
      t.stamps = l ∧
      t.result = some (w32 e.stamp) ∧
      t.shadowWord pSTAMP 0x4C = w32 (e.tag % 2 ^ 16 + 2 ^ 16 * (e.port % 32) + 2 ^ 31) ∧
      t.regs = s.regs) ∧
  (∀ (clk : Nat) (s : State), (s.coreOn = true) → (s.stamps = []) →
    ∃ t, exec (.txqPop clk) s = .next t ∧
      t.stamps = [] ∧
      t.result = some 0 ∧
      t.regs = s.regs) ∧
  (∀ (clk : Nat) (s : State), ((s.advance clk).accepts pSTAMP = true) →
    ∃ t, exec (.txqFlush clk) s = .next t ∧
      t.stamps = [] ∧
      t.regs = s.regs)

/-- O14. R129, R149, R150: what a cycle boundary, the vote at the close of the plat window and REJOIN do. -/
def Obligations.CycleBoundaryAndVote : Prop :=
  (∀ (s : State), (s.running pCYCLE = true) →
    ∃ t, exec (.cycleBoundary) s = .next t ∧
      t.cycle.cyc = s.nextCyc ∧
      t.cycle.started = true ∧
      t.cycle.doneEv = [] ∧
      t.cycle.votes = [] ∧
      t.clock = max s.clock (s.clockOf (s.cycT s.nextCyc)) ∧
      t.get pCYCLE F.CYCLE.NOW_CYC.CYCLE = cyc32 s.nextCyc ∧
      t.get pCYCLE ⟨0x0C, 8, 1⟩ = 1) ∧
  (∀ (s : State), (s.evOpen 2 = true) →
    ∃ t, exec (.platVote) s = .next t ∧
      let own := s.get pCYCLE F.CYCLE.SCHED_DIG.DIGEST
      let l := (s.nid, own) :: s.cycle.votes.filter (fun v : Nat × Nat => v.1 != s.nid)
      let maj := (l.map (fun v : Nat × Nat => v.2)).find? (fun d : Nat => decide (l.length < 2 * votesFor l d))
      t.get pCYCLE F.CYCLE.VOTE.FOR = votesFor l own % 2 ^ F.CYCLE.VOTE.FOR.w ∧
      t.get pCYCLE F.CYCLE.VOTE.AGAINST = (l.length - votesFor l own) % 2 ^ F.CYCLE.VOTE.AGAINST.w ∧
      t.get pCYCLE F.CYCLE.STS.NOMAJ = bit maj.isNone ∧
      t.cycle.alone = decide (l.length = 1) ∧
      t.cycle.major = maj ∧
      t.cycle.doneEv = s.cycle.doneEv ++ [2] ∧
      (maj.isSome = true ∧ maj ≠ some own → t.get pCYCLE F.CYCLE.STS.DISAGREE = 1 ∧ t.get pCYCLE F.CYCLE.STS.PUBLISH = 0 ∧ t.get pCYCLE F.HDR.PSTS.CODE = 0x0C) ∧
      (maj.isNone = true ∨ maj = some own → t.get pCYCLE F.CYCLE.STS.PUBLISH = s.get pCYCLE F.CYCLE.STS.PUBLISH)) ∧
  (∀ (clk : Nat) (s : State), ((s.advance clk).accepts pCYCLE = true) → (s.cycle.alone = true ∨ s.cycle.major = some (s.get pCYCLE F.CYCLE.SCHED_DIG.DIGEST)) →
    ∃ t, exec (.cycleRejoin clk) s = .next t ∧
      t.get pCYCLE F.CYCLE.STS.PUBLISH = 1 ∧
      t.get pCYCLE F.CYCLE.STS.DISAGREE = 0 ∧
      t.get pCYCLE F.HDR.PSTS.REFUSED = 0 ∧
      t.get pCYCLE ⟨0x0C, 13, 1⟩ = 1 ∧
      t.cycle = s.cycle)

/-- O15. R139, R143, R145, R147: frames of the plat enter the working buffer, parcels flip when they are whole or at VIEW_AT, the
own parcel flips when it has left, and writes of the output region go to the staging store. -/
def Obligations.PlatReception : Prop :=
  (∀ (clk port stamp : Nat) (fr : Frame) (s : State), ((s.isSpanen fr && kindOf fr == 1 && platCrcOk fr) = true) → (((s.advance clk).hsrTake port fr).2 = true) → (s.running pPLAT = true) → (srcNode fr ≠ s.nid) → (digestOf fr ≠ s.get pCYCLE F.CYCLE.SCHED_DIG.DIGEST) →
    ∃ t, exec (.platFrameRx clk port stamp fr) s = .next t ∧
      t.get pPLAT F.PLAT.DIGMIS.COUNT = (s.get pPLAT F.PLAT.DIGMIS.COUNT + 1) % 2 ^ F.PLAT.DIGMIS.COUNT.w ∧
      t.get pPLAT ⟨0x0C, 12, 1⟩ = 1 ∧
      t.mem = s.mem ∧
      t.plat = s.plat) ∧
  (∀ (clk port stamp : Nat) (fr : Frame) (s : State), ((s.isSpanen fr && kindOf fr == 1 && platCrcOk fr) = true) → (((s.advance clk).hsrTake port fr).2 = true) → (s.running pPLAT = true) → (s.running pSTAMP = false) → (srcNode fr ≠ s.nid) → (digestOf fr = s.get pCYCLE F.CYCLE.SCHED_DIG.DIGEST) → (s.platFormOk fr = true) → ((s.advance clk).platCycOk fr (s.advance clk).now = true) → (s.rxOf (srcNode fr) = rxDefault 0) → (1 < frameCount (s.slotLen (srcNode fr))) →
    ∃ t, exec (.platFrameRx clk port stamp fr) s = .next t ∧
      let k := srcNode fr
      t.mem = (s.stBytes (bufAddr ((s.sel k + 1) % 2) (64 * s.slotOfs k + 64 * 22 * hdr fr 14)) (slice fr.body 16 (64 * frameUnits (s.slotLen k) (hdr fr 14)))).mem ∧
      t.rxOf k = (⟨cycleOf fr, [hdr fr 14], false⟩ : ParcelRx) ∧
      t.sel k = s.sel k ∧
      t.regs = ((s.advance clk).hsrTake port fr).1.regs) ∧
  (∀ (clk port c : Nat) (s : State), (port < 2) → (((s.advance clk).settle port).plat.own = some c) → (((s.advance clk).settle port).ownLeft port = true) → (s.get pPLAT F.PLAT.CFG.VIEW = 0) →
    ∃ t, exec (.platOwnSent clk port) s = .next t ∧
      t.plat.own = none ∧
      t.plat.left = [] ∧
      t.sel s.nid = (s.sel s.nid + 1) % 2 ∧
      t.get pPLAT F.PLAT.OWN_CYC.CYCLE = c % 2 ^ F.PLAT.OWN_CYC.CYCLE.w ∧
      t.get pPLAT ⟨0x0C, 10, 1⟩ = 1) ∧
  (∀ (clk port c : Nat) (s : State), (port < 2) → (((s.advance clk).settle port).plat.own = some c) → (((s.advance clk).settle port).ownLeft port = true) → (s.get pPLAT F.PLAT.CFG.VIEW = 1) →
    ∃ t, exec (.platOwnSent clk port) s = .next t ∧
      t.plat.own = none ∧
      t.plat.left = [] ∧
      t.sel s.nid = s.sel s.nid ∧
      (t.rxOf s.nid).ready = true) ∧
  (∀ (s : State), (s.evOpen 3 = true) → (s.running pPLAT = true) → (s.get pPLAT F.PLAT.CFG.VIEW = 1) →
    ∃ t, exec (.platViewFlip) s = .next t ∧
      (∀ k, k < 128 → t.sel k = if k ≠ 0 ∧ (s.rxOf k).ready = true then (s.sel k + 1) % 2 else s.sel k) ∧
      (∀ k, k < 128 → k ≠ 0 → (t.rxOf k).ready = false) ∧
      t.mem = s.mem ∧
      t.cycle.doneEv = s.cycle.doneEv ++ [3]) ∧
  (∀ (clk addr : Nat) (data : List Byte) (src : Source) (s : State), (s.coreOn = true) → (data.length = 1 ∨ data.length = 2 ∨ data.length = 4 ∨ data.length = 8) → (addr % data.length = 0) → (s.ownOutput addr data.length = true) →
    ∃ t, exec (.platOutputWrite clk addr data src) s = .next t ∧
      (∀ j, j < data.length → t.staged (addr + j) = data.getD j 0) ∧
      t.regs = s.regs ∧
      t.mem = s.mem)

/-- O16. R132, R136, R138, R145: the freeze fills the own parcel, with the output region from the staging store, and marks it for
publication; the release queues its frames; feeds of other gang members wait for the freeze. -/
def Obligations.PlatPublication : Prop :=
  (∀ (s : State), (s.evOpen 0 = true) → (s.running pPLAT = true) → (0 < s.slotLen s.nid) → (s.holdAsked pPLAT = false) → (s.inGang = false) →
    ∃ t, exec (.platFreeze) s = .next t ∧
      let out := 64 * s.slotOut s.nid
      let len := 64 * s.slotLen s.nid
      (∀ i, i < out → t.ldb (s.ownWork + len - out + i) = s.staged (64 * s.slotOfs s.nid + len - out + i)) ∧
      (t.plat.own = if s.publishes then some (cyc32 s.cycle.cyc) else none) ∧
      t.plat.gangFeeds = [] ∧
      t.cycle.doneEv = s.cycle.doneEv ++ [0]) ∧
  (∀ (s : State), (s.evOpen 1 = true) → (s.plat.own = some (cyc32 s.cycle.cyc)) → ((s.evNow 1).publishes = true) →
    ∃ t, exec (.platRelease) s = .next t ∧
      t.plat.left = [(0, frameCount (s.slotLen s.nid)), (1, frameCount (s.slotLen s.nid))] ∧
      t.plat.own = s.plat.own ∧
      t.cycle.doneEv = s.cycle.doneEv ++ [1] ∧
      t.clock = max s.clock (s.clockOf (s.cycT s.cycle.cyc + s.slotStart s.nid))) ∧
  (∀ (clk member : Nat) (feeds : List (Nat × List Byte)) (s : State), (s.running pPLAT = true) → (s.inGang = true) → (s.onRing = true) → (s.memPresent member = true) → (s.memFenced member = false) → (s.evOpen 0 = true) →
    ∃ t, exec (.gangFeedRx clk member feeds) s = .next t ∧
      (∀ f ∈ feeds, f.1 < 128 → s.feedType f.1 ≠ 0 → f.2.length = 8 * s.feedLen f.1 → s.feedMember f.1 ≠ s.member → s.actingFor (s.feedMember f.1) = member → f ∈ t.plat.gangFeeds) ∧
      t.regs = s.regs ∧
      t.mem = s.mem)

/-- O17. R113, R114, R116, R118: a round sends both probes of each loop of this hub, a returning probe is held until its partner
returns, a time-out ends the round, and a closure step that stands alone at the end of its window is adopted and flagged. -/
def Obligations.MisclosureRounds : Prop :=
  (∀ (s : State), (s.running pMSCL = true) → (s.held pMSCL = false) → (s.holdAsked pMSCL = false) →
    ∃ t, exec (.msclRoundStart) s = .next t ∧
      let at0 := nextCongruent (max s.mscl.next s.now) s.roundPhase (2000 * s.get pMSCL F.MSCL.PERIOD.PERIOD)
      t.mscl.round = (s.mscl.round + 1) % 2 ^ 32 ∧
      t.mscl.start = at0 ∧
      t.mscl.probes.map (fun p : Probe => (p.loop, p.rev)) = s.ownLoops.flatMap (fun l : Nat => [(l, false), (l, true)]) ∧
      (∀ p ∈ t.mscl.probes, p.tx = none ∧ p.ret = none) ∧
      t.clock = max s.clock (s.clockOf at0)) ∧
  (∀ (clk port hdrClk tri : Nat) (fr : Frame) (rd : TxRead) (s : State), (port < 2) → (s.isSpanen fr = true) → (kindOf fr = 4) → (spanenCrcOk fr 32 = true) → (s.running (pPORT port) = true) → (s.ownProbe fr = true) → (s.running pMSCL = true) → (ofBE (slice fr.body 12 4) = s.mscl.round) → (hdr fr 1 % 2 = 1) → (s.mscl.probes.any (fun p : Probe => p.loop == 4 && p.rev == true && p.ret.isNone) = true) → (∀ p ∈ s.mscl.probes, p.loop = 4 → p.rev = false → p.ret = none) → ((s.rxBare port (hdrClk - s.datum.rawOrg)).toNat < 16 * (s.mscl.start + 2000 * s.get pMSCL F.MSCL.TIMEOUT.TIMEOUT)) →
    ∃ t, exec (.probeRx clk port hdrClk tri ⟨fr, rd⟩) s = .next t ∧
      let raw := hdrClk - s.datum.rawOrg
      let g := s.probeTerms port raw fr
      let late := s.datum.stepAt.filter (fun x : Nat => decide (raw < x))
      let r : ProbeRet := ⟨(s.rxBare port raw).toNat, ofBE (slice g.body prRes 8), hdr g prHops, hdr g prClaims, toSigned (ofBE (slice g.body prAsym 8)) 64, natBit (hdr g 1) 2 || !s.stampOn port, s.datum.steps - late.length⟩
      (t.mscl.probes = s.mscl.probes.map (fun p : Probe => if p.loop = 4 ∧ p.rev = true then { p with ret := some r } else p)) ∧
      t.regs = (s.foldMark raw).regs) ∧
  (∀ (s : State), (s.mscl.probes.any (fun p : Probe => p.ret.isNone) = true) → (s.held pMSCL = false) →
    ∃ t, exec (.msclProbeTimeout) s = .next t ∧
      t.mscl.probes = [] ∧
      t.get pMSCL F.MSCL.LOST.LOST = satAdd (s.get pMSCL F.MSCL.LOST.LOST) 1 F.MSCL.LOST.LOST.w ∧
      t.get pMSCL ⟨0x0C, 12, 1⟩ = 1 ∧
      t.clock = max s.clock (s.clockOf (s.mscl.start + 2000 * s.get pMSCL F.MSCL.TIMEOUT.TIMEOUT) + s.probeTail ((s.mscl.probes.filter (fun p : Probe => p.ret.isNone)).map (fun p : Probe => s.loopPort p.loop (!p.rev))))) ∧
  (∀ (l : Nat) (st : StepPend) (s : State), (s.aloneLoops = [(l, st)]) → (s.alonePds = []) → (s.unshared = []) →
    ∃ t, exec (.coincWindowClose) s = .next t ∧
      (t.loop l).cref = st.mean ∧
      (t.loop l).pend = none ∧
      t.get pMSCL F.MSCL.LAST.FLAGS = 8 + 2 * bit (l != 4) ∧
      t.get pMSCL F.MSCL.LAST_DELTA.DELTA = ofSigned st.delta 32 ∧
      t.get pMSCL F.MSCL.ATTR.FLAGGED = satAdd (s.get pMSCL F.MSCL.ATTR.FLAGGED) 1 F.MSCL.ATTR.FLAGGED.w ∧
      t.get pMSCL ⟨0x0C, 9, 1⟩ = 1 ∧
      t.clock = max s.clock (s.clockOf (st.decl + s.coincWin) + s.probeTail (s.ownLoops.map (fun k => s.loopPort k true)))) ∧
  (∀ (clk port : Nat) (value : Word) (s : State), (port < 22) → ((s.advance clk).accepts pSTAMP = true) →
    ∃ t, exec (.pdelayWrite clk port value) s = .next t ∧
      t.get pSTAMP (F.STAMP.PDELAY.PDELAY.at (0x20 * port)) = value.toNat ∧
      (s.running pMSCL = false → t.mscl = s.mscl))

/-- O18. R164, R165, R168–R170, R176, R178: stakes are issued, sent, inserted in the queue or refused on arrival, cancelled, and
receipts are kept for reading. -/
def Obligations.StakeIssueAndArrival : Prop :=
  (∀ (clk : Nat) (word : Word) (src : Source) (x : List Byte) (s : State), ((s.advance clk).accepts pSTAKE = true) → (s.running pSTAKE = true) → (fillSrc ((((List.range 7).map (fun i => tabGet regDefault s.latch (regKey pSTAKE (0x60 + 4 * i)))) ++ [word]).flatMap (fun w : Word => beBytes 4 w.toNat)) s.nid s.member = x) → ((stakeOf x).node ≠ s.nid) → ((stakeOf x).node < 0x80 ∨ (stakeOf x).node = 0xFF) → (s.stake.issue.length < 16) →
    ∃ t, exec (.stakeIssue clk word src) s = .next t ∧
      t.stake.issue = s.stake.issue ++ [x] ∧
      t.stake.q = s.stake.q ∧
      t.regs = s.regs) ∧
  (∀ (clk : Nat) (x : List Byte) (l : List (List Byte)) (s : State), (s.stake.issue = x :: l) → (s.running pSTAKE = true) →
    ∃ t, exec (.stakeFrameSend clk) s = .next t ∧
      t.stake.issue = (x :: l).drop (packHead (stakeOf x).node 8 (x :: l)).length ∧
      t.clock = max s.clock clk) ∧
  (∀ (clk : Nat) (bytes : List Byte) (x : Stake) (s : State), (stakeOf bytes = x) → (s.running pSTAKE = true) → (x.node = s.nid ∧ x.bcast = false ∧ x.cancel = false) → (s.inGang = false) → (s.malformed x = false) → (s.unassigned x = none) → (x.tRel < (s.advance clk).now + 2000 * s.get pSTAKE F.STAKE.HORIZON.HORIZON) → (s.keyHeld x = false) → (s.stake.q.length < 256) → ((s.advance clk).verdict x ((s.advance clk).wouldExec x) ≠ 2) →
    ∃ t, exec (.stakeArrival clk bytes) s = .next t ∧
      t.stake.q = stakeIns { x with ins := s.stake.ins } s.stake.q ∧
      t.stake.ins = s.stake.ins + 1 ∧
      t.stake.rcpts = s.stake.rcpts ∧
      t.get pSTAKE F.STAKE.REJECTED.COUNT = s.get pSTAKE F.STAKE.REJECTED.COUNT) ∧
  (∀ (clk : Nat) (bytes : List Byte) (x : Stake) (s : State), (stakeOf bytes = x) → (s.running pSTAKE = true) → (x.node = s.nid ∧ x.bcast = false) → (s.inGang = false) → (s.malformed x = true) →
    ∃ t, exec (.stakeArrival clk bytes) s = .next t ∧
      t.get pSTAKE F.STAKE.REJECTED.COUNT = (s.get pSTAKE F.STAKE.REJECTED.COUNT + 1) % 2 ^ F.STAKE.REJECTED.COUNT.w ∧
      t.get pSTAKE ⟨0x0C, 10, 1⟩ = 1 ∧
      t.stake.q = s.stake.q) ∧
  (∀ (clk : Nat) (bytes : List Byte) (x y : Stake) (s : State), (stakeOf bytes = x) → (s.running pSTAKE = true) → (x.node = s.nid ∧ x.bcast = false ∧ x.cancel = true) → (s.inGang = false) → (s.malformed x = false) → (s.stake.q.find? (sameKey x) = some y) →
    ∃ t, exec (.stakeCancelArrival clk bytes) s = .next t ∧
      t.stake.q = s.stake.q.erase y ∧
      t.stake.issue = s.stake.issue) ∧
  (∀ (clk : Nat) (data : Word) (y : Stake) (s : State), ((s.advance clk).accepts pSTAKE = true) → (s.running pSTAKE = true) → (s.stake.q.find? (fun y : Stake => bitsOf data 16 7 == y.srcNode && bitsOf data 23 2 == y.srcMember && bitsOf data 0 16 == y.id) = some y) →
    ∃ t, exec (.stakeCancelWrite clk data) s = .next t ∧
      t.stake.q = s.stake.q.erase y ∧
      t.stake.issue = s.stake.issue) ∧
  (∀ (clk node member : Nat) (payload : List Byte) (s : State), (s.running pSTAKE = true) → ((nth payload 3 0).toNat % 128 = s.nid) → ((nth payload 2 0).toNat / 64 = s.member) → (s.stake.rcpts.length < 32) →
    ∃ t, exec (.receiptRx clk node member payload) s = .next t ∧
      t.stake.rcpts = s.stake.rcpts ++ [(⟨node, member, payload⟩ : Rcpt)] ∧
      (s.stake.rcpts = [] → t.get pSTAKE ⟨0x0C, 11, 1⟩ = 1) ∧
      t.stake.q = s.stake.q) ∧
  (∀ (clk : Nat) (r : Rcpt) (l : List Rcpt) (s : State), (s.coreOn = true) → (s.stake.rcpts = r :: l) →
    ∃ t, exec (.rcptPop clk) s = .next t ∧
      t.stake.rcpts = l ∧
      t.result = some (w32 ((rcptWords r).headD 0)) ∧
      t.shadowWord pSTAKE 0xA4 = w32 ((rcptWords r).getD 1 0) ∧
      t.regs = s.regs)

/-- O19. R161, R170–R175: stakes are handed to their islands, withdrawn, and executed at T_REL: pins are driven, words enter the
transmit FIFO, buffers are requested, bytes enter the staging store and registers are written. -/
def Obligations.StakeRelease : Prop :=
  (∀ (x : Stake) (s : State), (s.running pSTAKE = true) → (s.stakeHeld = false) → (s.mayRelease = true) → (s.stake.q.find? (fun y : Stake => decide (y.cls < 2) && decide (s.handedTo (stakeCrew y) < 8)) = some x) → ((s.advanceT (x.tRel - 400)).now + 400 ≤ x.tRel) → (s.verdict x x.tRel ≠ 2) →
    ∃ t, exec (.stakeHandover) s = .next t ∧
      t.stake.q = s.stake.q.erase x ∧
      t.stake.island = s.stake.island ++ [(⟨x, 0⟩ : Handed)] ∧
      t.clock = max s.clock (s.clockOf (x.tRel - 400)) ∧
      t.regs = s.regs) ∧
  (∀ (w : Withdraw) (l : List Withdraw) (h : Handed) (s : State), (s.stake.wd = w :: l) → (s.stake.island.find? (fun y : Handed => y.st.id == w.id && y.st.srcNode == w.srcNode && y.st.srcMember == w.srcMember) = some h) →
    ∃ t, exec (.stakeIslandWithdraw) s = .next t ∧
      t.stake.wd = l ∧
      t.stake.island = s.stake.island.erase h ∧
      t.clock = max s.clock (s.clockOf (w.t + 30))) ∧
  (∀ (h : Handed) (s : State), (s.running pSTAKE = true) → (s.mayRelease = true) → (handedBest 0 s.stake.island = some h) → (s.verdict h.st (s.advanceT (max h.st.tRel h.floor)).now = 0) → (h.st.cls = 0) → (s.stakePin h.st.target = true) →
    ∃ t, exec (.stakeExecPin) s = .next t ∧
      (t.pin h.st.target).lvl = (h.st.value % 4 == 1) ∧
      (t.pin h.st.target).oe = (h.st.value % 4 != 2) ∧
      (t.pin h.st.target).outT = (s.advanceT (max h.st.tRel h.floor)).now ∧
      t.stake.island = s.stake.island.erase h ∧
      t.get pSTAKE F.STAKE.RELEASED.COUNT = (s.get pSTAKE F.STAKE.RELEASED.COUNT + 1) % 2 ^ F.STAKE.RELEASED.COUNT.w) ∧
  (∀ (h : Handed) (s : State), (s.running pSTAKE = true) → (s.mayRelease = true) → (handedBest 1 s.stake.island = some h) → (s.verdict h.st (s.advanceT (max h.st.tRel h.floor)).now = 0) → (h.st.cls = 1) → ((s.advanceT (max h.st.tRel h.floor)).stakeReady h.st = true) → ((s.eng h.st.target).txIn = []) →
    ∃ t, exec (.stakeExecEngFifo) s = .next t ∧
      (t.eng h.st.target).txf = (s.eng h.st.target).txf ++ [h.st.value / 2 ^ 32 % 2 ^ 32, h.st.value % 2 ^ 32] ∧
      t.stake.island = s.stake.island.erase h ∧
      t.get pSTAKE F.STAKE.RELEASED.COUNT = (s.get pSTAKE F.STAKE.RELEASED.COUNT + 1) % 2 ^ F.STAKE.RELEASED.COUNT.w) ∧
  (∀ (x : Stake) (s : State), (s.running pSTAKE = true) → (s.stakeHeld = false) → (s.mayRelease = true) → (s.stake.q.find? (fun y : Stake => y.cls == 2) = some x) → (s.verdict x (s.advanceT x.tRel).now = 0) → (s.stakeReady x = true) → (natField x.target 4 2 < 3) → (s.canMalformed (x.target % 16) (natField x.target 4 2) = false) → (s.canLive (x.target % 16) = true) →
    ∃ t, exec (.stakeExecCan) s = .next t ∧
      t.stake.q = s.stake.q.erase x ∧
      natBit (t.canReq (x.target % 16)) (natField x.target 4 2) = true ∧
      t.get pSTAKE F.STAKE.RELEASED.COUNT = (s.get pSTAKE F.STAKE.RELEASED.COUNT + 1) % 2 ^ F.STAKE.RELEASED.COUNT.w) ∧
  (∀ (x : Stake) (s : State), (s.running pSTAKE = true) → (s.stakeHeld = false) → (s.mayRelease = true) → (s.stake.q.find? (fun y : Stake => y.cls == 4) = some x) → (s.verdict x (s.advanceT x.tRel).now = 0) → (s.stakeReady x = true) →
    ∃ t, exec (.stakeExecPlat) s = .next t ∧
      t.stake.q = s.stake.q.erase x ∧
      (∀ j, j < stakeWidth x → t.staged (stakeByte x + j) = (leBytes (stakeWidth x) x.value).getD j 0) ∧
      t.get pSTAKE F.STAKE.RELEASED.COUNT = (s.get pSTAKE F.STAKE.RELEASED.COUNT + 1) % 2 ^ F.STAKE.RELEASED.COUNT.w) ∧
  (∀ (x : Stake) (s : State), (s.accepts pDATUM = true) → (s.running pSTAKE = true) → (s.stakeHeld = false) → (s.mayRelease = true) → (s.stake.q.find? (fun y : Stake => y.cls == 3) = some x) → (s.verdict x ((s.advanceT x.tRel).advance s.stake.last3).now = 0) → (stakePage x = pDATUM ∧ stakeOff x = 0x58 ∧ x.value / 2 ^ 32 % 2 ^ 32 = 2 ^ 32 - 1) →
    ∃ t, exec (.stakeExecReg) s = .next t ∧
      t.get pDATUM F.DATUM.STEP_LIMIT.LIMIT = x.value % 2 ^ 32 ∧
      t.stake.q = s.stake.q.erase x ∧
      t.clock = max (max s.clock (s.clockOf x.tRel)) s.stake.last3 ∧
      t.get pSTAKE F.STAKE.RELEASED.COUNT = (s.get pSTAKE F.STAKE.RELEASED.COUNT + 1) % 2 ^ F.STAKE.RELEASED.COUNT.w)

/-- O20. R283, R285–R293, R298: a CAN controller starts, completes and loses attempts, counts its errors and recovers from bus-off,
and its transmit buffers are requested and aborted. -/
def Obligations.CanSending : Prop :=
  (∀ (clk can loop k : Nat) (s : State), (s.canLive can = true) → (s.canMonitor can = false) → ((s.can can).att = none) → (s.holdAsked (pCAN can) = false) → (s.canPick can = some k) →
    ∃ t, exec (.canTxStart clk can loop) s = .next t ∧
      (t.can can).att = some (⟨k, max s.clock clk + loop, false, false⟩ : CanAtt) ∧
      t.get (pCAN can) F.CAN.STS.ACTIVE_BUF = k % 4 ∧
      t.get (pCAN can) F.CAN.TXREQ.REQ = s.get (pCAN can) F.CAN.TXREQ.REQ) ∧
  (∀ (clk can tdcv : Nat) (a : CanAtt) (s : State), (s.canLive can = true) → ((s.can can).att = some a) → (a.buf < 3) → (s.canTdcBad can a tdcv = false) →
    ∃ t, exec (.canTxDone clk can tdcv) s = .next t ∧
      (t.can can).att = none ∧
      t.get (pCAN can) F.CAN.STS.ACTIVE_BUF = 3 ∧
      t.get (pCAN can) (F.CAN.TXSTS.OUTCOME.up (8 * a.buf)) = 1 ∧
      t.get (pCAN can) F.CAN.TXREQ.REQ = natPut (s.get (pCAN can) F.CAN.TXREQ.REQ) a.buf 1 0 % 8 ∧
      t.get (pCAN can) F.CAN.TXOK.COUNT = (s.get (pCAN can) F.CAN.TXOK.COUNT + 1) % 2 ^ F.CAN.TXOK.COUNT.w ∧
      t.get (pCAN can) F.CAN.ERRCNT.TEC = s.get (pCAN can) F.CAN.ERRCNT.TEC - 1 ∧
      t.get (pCAN can) (F.CAN.TXSTAMP.T.at (8 * a.buf)) = s.attStamp a % 2 ^ 64 ∧
      t.get (pCAN can) ⟨0x0C, 10, 1⟩ = 1) ∧
  (∀ (clk can tdcv : Nat) (a : CanAtt) (s : State), (s.canLive can = true) → ((s.can can).att = some a) → (a.buf = 3) →
    ∃ t, exec (.canTxDone clk can tdcv) s = .next t ∧
      (t.can can).att = none ∧
      t.get (pCAN can) F.CAN.REFCC.CC = (s.get (pCAN can) F.CAN.REFCC.CC + 1) % 2 ^ F.CAN.REFCC.CC.w ∧
      (t.get (pCAN can) F.CAN.STS.REF_PEND = if a.renewed then 1 else 0) ∧
      t.get (pCAN can) ⟨0x0C, 16, 1⟩ = 1 ∧
      t.get (pCAN can) F.CAN.TXREQ.REQ = s.get (pCAN can) F.CAN.TXREQ.REQ) ∧
  (∀ (clk can : Nat) (a : CanAtt) (s : State), (s.canLive can = true) → ((s.can can).att = some a) → (a.buf < 3) → (a.abort = false) → (s.get (pCAN can) (txb F.CAN.TXB_CTRL.RETRY a.buf) = 15) →
    ∃ t, exec (.canArbLost clk can) s = .next t ∧
      (t.can can).att = none ∧
      t.get (pCAN can) F.CAN.STS.ACTIVE_BUF = 3 ∧
      t.get (pCAN can) F.CAN.ARBLOST.COUNT = (s.get (pCAN can) F.CAN.ARBLOST.COUNT + 1) % 2 ^ F.CAN.ARBLOST.COUNT.w ∧
      t.get (pCAN can) (F.CAN.TXSTS.ATTEMPTS.up (8 * a.buf)) = satAdd (s.get (pCAN can) (F.CAN.TXSTS.ATTEMPTS.up (8 * a.buf))) 1 F.CAN.TXSTS.ATTEMPTS.w ∧
      t.get (pCAN can) F.CAN.TXREQ.REQ = s.get (pCAN can) F.CAN.TXREQ.REQ) ∧
  (∀ (clk can : Nat) (a : CanAtt) (s : State), (s.canLive can = true) → ((s.can can).att = some a) → (a.buf < 3) → (a.abort = true ∨ (s.get (pCAN can) (txb F.CAN.TXB_CTRL.RETRY a.buf) ≠ 15 ∧ s.get (pCAN can) (txb F.CAN.TXB_CTRL.RETRY a.buf) < satAdd (s.get (pCAN can) (F.CAN.TXSTS.ATTEMPTS.up (8 * a.buf))) 1 F.CAN.TXSTS.ATTEMPTS.w)) →
    ∃ t, exec (.canArbLost clk can) s = .next t ∧
      (t.can can).att = none ∧
      (t.get (pCAN can) (F.CAN.TXSTS.OUTCOME.up (8 * a.buf)) = if a.abort then 3 else 2) ∧
      t.get (pCAN can) F.CAN.TXREQ.REQ = natPut (s.get (pCAN can) F.CAN.TXREQ.REQ) a.buf 1 0 % 8 ∧
      t.get (pCAN can) ⟨0x0C, 11, 1⟩ = 1) ∧
  (∀ (clk can err pos eights : Nat) (afterArb dataPhase dominant : Bool) (a : CanAtt) (s : State), (s.canLive can = true) → (s.canMonitor can = false) → ((s.can can).att = some a) → (err < 7) → ((err = 4 ∧ afterArb = true) = False) →
    ∃ t, exec (.canTxError clk can err afterArb dataPhase dominant pos eights none) s = .next t ∧
      (t.can can).att = none ∧
      t.get (pCAN can) F.CAN.STS.LEC = err ∧
      t.get (pCAN can) F.CAN.BUSERR.COUNT = (s.get (pCAN can) F.CAN.BUSERR.COUNT + 1) % 2 ^ F.CAN.BUSERR.COUNT.w ∧
      t.get (pCAN can) F.CAN.ERRCNT.TEC = satAdd (s.get (pCAN can) F.CAN.ERRCNT.TEC) (tecUp (s.get (pCAN can) F.CAN.STS.STATE == 1) err afterArb dominant eights) F.CAN.ERRCNT.TEC.w ∧
      t.get (pCAN can) F.CAN.ERRCNT.REC = s.get (pCAN can) F.CAN.ERRCNT.REC ∧
      (255 < t.get (pCAN can) F.CAN.ERRCNT.TEC → t.get (pCAN can) F.CAN.STS.STATE = 2)) ∧
  (∀ (clk can pos eights : Nat) (dataPhase dominant : Bool) (a : CanAtt) (s : State), (s.canLive can = true) → ((s.can can).att = some a) →
    ∃ t, exec (.canTxError clk can 4 true dataPhase dominant pos eights none) s = .next t ∧
      (t.can can).att = none ∧
      t.get (pCAN can) F.CAN.STS.LEC = 7 ∧
      t.get (pCAN can) F.CAN.IDCOLLIDE.COUNT = (s.get (pCAN can) F.CAN.IDCOLLIDE.COUNT + 1) % 2 ^ F.CAN.IDCOLLIDE.COUNT.w ∧
      t.get (pCAN can) ⟨0x0C, 15, 1⟩ = 1) ∧
  (∀ (clk can : Nat) (s : State), (can < 16) → (s.running (pCAN can) = true) → (s.get (pCAN can) F.CAN.STS.STATE = 2) →
    ∃ t, exec (.canRecover clk can) s = .next t ∧
      t.get (pCAN can) F.CAN.STS.STATE = 0 ∧
      t.get (pCAN can) F.CAN.ERRCNT.TEC = 0 ∧ t.get (pCAN can) F.CAN.ERRCNT.REC = 0 ∧
      t.get (pCAN can) F.CAN.RECOV.COUNT = 128 ∧
      t.get (pCAN can) ⟨0x0C, 14, 1⟩ = 1) ∧
  (∀ (clk can map : Nat) (s : State), ((s.advance clk).accepts (pCAN can) = true) → (can < 16 ∧ map < 8) → (s.get (pCAN can) F.CAN.STS.STATE ≠ 2) → (∀ k, k < 3 → natBit map k = true → s.canMalformed can k = false) → (natField (s.get (pCAN can) F.CAN.TXREQ.REQ) 0 3 &&& map = 0) →
    ∃ t, exec (.canTxreq clk can map) s = .next t ∧
      t.get (pCAN can) F.CAN.TXREQ.REQ = s.get (pCAN can) F.CAN.TXREQ.REQ ||| map ∧
      (∀ k, k < 3 → natBit map k = true → t.get (pCAN can) (F.CAN.TXSTS.OUTCOME.up (8 * k)) = 0 ∧ t.get (pCAN can) (F.CAN.TXSTS.ATTEMPTS.up (8 * k)) = 0)) ∧
  (∀ (clk can k : Nat) (s : State), ((s.advance clk).accepts (pCAN can) = true) → (can < 16 ∧ k < 3) → (natBit (s.get (pCAN can) F.CAN.TXREQ.REQ) k = false) → (s.canMalformed can k = true) →
    ∃ t, exec (.canTxreq clk can (2 ^ k)) s = .next t ∧
      t.get (pCAN can) F.CAN.TXREQ.REQ = s.get (pCAN can) F.CAN.TXREQ.REQ ∧
      t.get (pCAN can) (F.CAN.TXSTS.OUTCOME.up (8 * k)) = 5) ∧
  (∀ (clk can k : Nat) (s : State), ((s.advance clk).accepts (pCAN can) = true) → (can < 16 ∧ k < 3) → (natBit (s.get (pCAN can) F.CAN.TXREQ.REQ) k = true) → ((s.can can).att = none) →
    ∃ t, exec (.canTxabort clk can (2 ^ k)) s = .next t ∧
      t.get (pCAN can) F.CAN.TXREQ.REQ = natPut (s.get (pCAN can) F.CAN.TXREQ.REQ) k 1 0 % 8 ∧
      t.get (pCAN can) (F.CAN.TXSTS.OUTCOME.up (8 * k)) = 3) ∧
  (∀ (clk can : Nat) (a : CanAtt) (s : State), ((s.advance clk).accepts (pCAN can) = true) → (can < 16 ∧ a.buf < 3) → (natBit (s.get (pCAN can) F.CAN.TXREQ.REQ) a.buf = true) → ((s.can can).att = some a) →
    ∃ t, exec (.canTxabort clk can (2 ^ a.buf)) s = .next t ∧
      (t.can can).att = some (⟨a.buf, a.edge, true, a.renewed⟩ : CanAtt) ∧
      t.regs = s.regs)

/-- O21. R290, R294–R296, R298, R303: a CAN controller receives a frame into a free entry of its queue or counts it, entries are
given back, reference messages fall due, the controller synchronises and counts receive errors. -/
def Obligations.CanReceiving : Prop :=
  (∀ (clk can edge id dlc : Nat) (brs esi : Bool) (data : List Byte) (s : State), (s.canLive can = true) → ((s.can can).att = none) → (natBit id 29 = true → s.flag (pCAN can) F.CAN.CFG.FD_EN = true) → (∀ f, f < 32 → s.filtHit can f id = false) →
    ∃ t, exec (.canRxFrame clk can edge id dlc brs esi data) s = .next t ∧
      t.get (pCAN can) F.CAN.RXOK.COUNT = (s.get (pCAN can) F.CAN.RXOK.COUNT + 1) % 2 ^ F.CAN.RXOK.COUNT.w ∧
      t.get (pCAN can) F.CAN.NOMATCH.COUNT = (s.get (pCAN can) F.CAN.NOMATCH.COUNT + 1) % 2 ^ F.CAN.NOMATCH.COUNT.w ∧
      t.get (pCAN can) F.CAN.RXOWN.MAP = s.get (pCAN can) F.CAN.RXOWN.MAP) ∧
  (∀ (clk can edge id dlc f e : Nat) (brs esi : Bool) (data : List Byte) (s : State), (s.canLive can = true) → ((s.can can).att = none) → (natBit id 29 = true → s.flag (pCAN can) F.CAN.CFG.FD_EN = true) → ((List.range 32).find? (fun f : Nat => s.filtHit can f id && s.get (pCAN can) (F.CAN.FILT_A.QUEUE.at (8 * f)) == 1) = some f) → (s.rxFree can = some e) →
    ∃ t, exec (.canRxFrame clk can edge id dlc brs esi data) s = .next t ∧
      t.get (pCAN can) F.CAN.RXOK.COUNT = (s.get (pCAN can) F.CAN.RXOK.COUNT + 1) % 2 ^ F.CAN.RXOK.COUNT.w ∧
      t.get (pCAN can) (rxe F.CAN.RXE_ID.ID e) = id % 2 ^ F.CAN.RXE_ID.ID.w ∧
      t.get (pCAN can) (rxe F.CAN.RXE_STAMP.T e) = s.timeOf (edge - s.datum.rawOrg) % 2 ^ 64 ∧
      t.get (pCAN can) (rxe F.CAN.RXE_CTRL.RSEQ e) = (s.can can).rseq % 256 ∧
      t.get (pCAN can) F.CAN.RXOWN.MAP = natPut (s.get (pCAN can) F.CAN.RXOWN.MAP) e 1 1 % 2 ^ 32 ∧
      t.get (pCAN can) ⟨0x0C, 8, 1⟩ = 1 ∧
      (t.can can).last = e ∧ (t.can can).rseq = ((s.can can).rseq + 1) % 256) ∧
  (∀ (clk can index : Nat) (s : State), ((s.advance clk).accepts (pCAN can) = true) → (can < 16 ∧ index < 32) → (natBit (s.get (pCAN can) F.CAN.RXOWN.MAP) index = true) →
    ∃ t, exec (.canRxack clk can index) s = .next t ∧
      t.get (pCAN can) F.CAN.RXOWN.MAP = natPut (s.get (pCAN can) F.CAN.RXOWN.MAP) index 1 0 % 2 ^ 32 ∧
      (t.can can).ackT = some (max (s.get (pCAN can) (rxe F.CAN.RXE_STAMP.T index)) ((s.can can).ackT.getD 0)) ∧
      t.get (pCAN can) F.CAN.ACKERR.COUNT = s.get (pCAN can) F.CAN.ACKERR.COUNT) ∧
  (∀ (clk can index : Nat) (s : State), ((s.advance clk).accepts (pCAN can) = true) → (can < 16 ∧ index < 32) → (natBit (s.get (pCAN can) F.CAN.RXOWN.MAP) index = false) →
    ∃ t, exec (.canRxack clk can index) s = .next t ∧
      t.get (pCAN can) F.CAN.RXOWN.MAP = s.get (pCAN can) F.CAN.RXOWN.MAP ∧
      t.get (pCAN can) F.CAN.ACKERR.COUNT = (s.get (pCAN can) F.CAN.ACKERR.COUNT + 1) % 2 ^ F.CAN.ACKERR.COUNT.w) ∧
  (∀ (can : Nat) (s : State), (can < 16) → (s.canMaster can = true) → (s.held (pCAN can) = false) →
    ∃ t, exec (.canRefDue can) s = .next t ∧
      t.get (pCAN can) F.CAN.STS.REF_PEND = 1 ∧
      t.get (pCAN can) F.CAN.REFMISS.COUNT = (s.get (pCAN can) F.CAN.REFMISS.COUNT + s.get (pCAN can) F.CAN.STS.REF_PEND) % 2 ^ F.CAN.REFMISS.COUNT.w ∧
      (t.can can).refFrom = nextCongruent (max (s.can can).refFrom s.now) (s.get (pCAN can) F.CAN.REF_PHASE.PHASE) (s.get (pCAN can) F.CAN.REF_PERIOD.PERIOD) + 1) ∧
  (∀ (clk can : Nat) (s : State), (can < 16) → (s.running (pCAN can) = true) → (s.get (pCAN can) F.CAN.STS.STATE = 3) →
    ∃ t, exec (.canSynced clk can) s = .next t ∧
      t.get (pCAN can) F.CAN.STS.STATE = 0 ∧
      t.get (pCAN can) F.CAN.ERRCNT.TEC = 0 ∧ t.get (pCAN can) F.CAN.ERRCNT.REC = 0) ∧
  (∀ (clk can err tecEights recEights : Nat) (s : State), (s.canLive can = true) → ((s.can can).att = none) → (s.canMonitor can = false) →
    ∃ t, exec (.canReceiveError clk can err tecEights recEights) s = .next t ∧
      t.get (pCAN can) F.CAN.STS.LEC = err % 8 ∧
      t.get (pCAN can) F.CAN.BUSERR.COUNT = (s.get (pCAN can) F.CAN.BUSERR.COUNT + 1) % 2 ^ F.CAN.BUSERR.COUNT.w ∧
      t.get (pCAN can) F.CAN.ERRCNT.TEC = satAdd (s.get (pCAN can) F.CAN.ERRCNT.TEC) (8 * tecEights) F.CAN.ERRCNT.TEC.w ∧
      (t.get (pCAN can) F.CAN.ERRCNT.REC = satAdd (s.get (pCAN can) F.CAN.ERRCNT.REC) ((if natBit err 3 then 0 else 1) + 8 * recEights) F.CAN.ERRCNT.REC.w))

/-- O22. R248–R256: a transition enters the filter chain of its pin or is accepted, and the glitch window, the debounce window, the
chatter lock and the stuck timer end as those rules say. -/
def Obligations.EdgeFilterChain : Prop :=
  (∀ (clk pin : Nat) (level : Bool) (s : State), (pin < 256) → (s.chainOn pin = true) → (s.driven pin = none) → ((s.edge pin).lock = none ∧ (s.edge pin).held = none ∧ (s.edge pin).win = none ∧ (s.edge pin).todo = []) → (s.glitchW pin = 0 ∧ s.debW pin = 0) → (s.prof pin F.EDGE.CHAT.N = 0) →
    ∃ t, exec (.pinTransition clk pin ⟨1, level⟩) s = .next t ∧
      t.ball pin = level ∧
      (t.edge pin).l = level ∧
      (t.edge pin).change = (s.advance clk).now ∧
      (t.get (edgePage pin) (pinMap F.EDGE.FLVL.MAP pin) = if level then 1 else 0) ∧
      t.get (edgePage pin) (pinMap F.EDGE.STUCKMAP.MAP pin) = 0) ∧
  (∀ (clk pin : Nat) (level : Bool) (s : State), (pin < 256) → (s.chainOn pin = true) → (s.driven pin = none) → ((s.edge pin).lock = none ∧ (s.edge pin).held = none ∧ (s.edge pin).win = none ∧ (s.edge pin).todo = []) → (s.glitchW pin ≠ 0) →
    ∃ t, exec (.pinTransition clk pin ⟨1, level⟩) s = .next t ∧
      t.ball pin = level ∧
      (t.edge pin).held = some ((s.advance clk).now, level, 1) ∧
      (t.edge pin).l = (s.edge pin).l) ∧
  (∀ (clk pin count : Nat) (level : Bool) (lk : ChatLock) (s : State), (pin < 256 ∧ 0 < count) → (s.chainOn pin = true) → ((s.edge pin).lock = some lk) → ((s.edge pin).todo = []) → ((s.advance clk).now < lk.tk + (lk.j + 1) * s.chatW pin) → ((s.advance clk).now < lk.tLast + s.quietW pin) → (0 < s.quietW pin) →
    ∃ t, exec (.pinTransition clk pin ⟨count, level⟩) s = .next t ∧
      (t.edge pin).lock = some ({ lk with cnt := lk.cnt + count, tLast := (s.advance clk).now, level := level } : ChatLock) ∧
      (t.edge pin).l = (s.edge pin).l) ∧
  (∀ (pin u k : Nat) (lv : Bool) (s : State), (s.chainOn pin = true) → ((s.edge pin).lock = none ∧ (s.edge pin).win = none ∧ (s.edge pin).todo = []) → ((s.edge pin).held = some (u, lv, k)) → (s.glitchW pin < s.debW pin) →
    ∃ t, exec (.glitchWindowExpire pin) s = .next t ∧
      (t.edge pin).held = none ∧
      (t.edge pin).win = some (⟨u, k, 0, lv⟩ : DebWin) ∧
      t.clock = max s.clock (s.clockOf (u + s.glitchW pin)) ∧
      t.regs = s.regs) ∧
  (∀ (pin : Nat) (w : DebWin) (s : State), (pin < 256) → (s.chainOn pin = true) → ((s.edge pin).lock = none ∧ (s.edge pin).held = none ∧ (s.edge pin).todo = [] ∧ (s.edge pin).merged = [] ∧ (s.edge pin).stuckWait = false) → ((s.edge pin).win = some w) → (w.level = (s.edge pin).l) →
    ∃ t, exec (.debounceWindowClose pin) s = .next t ∧
      (t.edge pin).win = none ∧
      (t.edge pin).l = (s.edge pin).l ∧
      t.get (edgePage pin) F.EDGE.BOUNCES.COUNT = (s.get (edgePage pin) F.EDGE.BOUNCES.COUNT + 1) % 2 ^ F.EDGE.BOUNCES.COUNT.w ∧
      t.clock = max s.clock (s.clockOf (w.t + s.debW pin))) ∧
  (∀ (pin : Nat) (w : DebWin) (s : State), (pin < 256) → (s.chainOn pin = true) → ((s.edge pin).lock = none ∧ (s.edge pin).held = none ∧ (s.edge pin).todo = []) → ((s.edge pin).win = some w) → ((w.level = (s.edge pin).l) = False) → (s.prof pin F.EDGE.CHAT.N = 0) →
    ∃ t, exec (.debounceWindowClose pin) s = .next t ∧
      (t.edge pin).win = none ∧
      (t.edge pin).l = w.level ∧
      (t.edge pin).change = w.t ∧
      (t.get (edgePage pin) (pinMap F.EDGE.FLVL.MAP pin) = if w.level then 1 else 0) ∧
      t.clock = max s.clock (s.clockOf (w.t + s.debW pin))) ∧
  (∀ (pin : Nat) (lk : ChatLock) (s : State), (pin < 256) → (s.chainOn pin = true) → ((s.edge pin).todo = []) → (0 < s.chatW pin) → ((s.edge pin).lock = some lk) → (lk.tk + (lk.j + 1) * s.chatW pin < lk.tLast + s.quietW pin) →
    ∃ t, exec (.chatterWindowClose pin) s = .next t ∧
      (t.edge pin).lock = some ({ lk with j := lk.j + 1, cnt := 0, total := lk.total + lk.cnt } : ChatLock) ∧
      t.clock = max s.clock (s.clockOf (lk.tk + (lk.j + 1) * s.chatW pin))) ∧
  (∀ (pin : Nat) (lk : ChatLock) (s : State), (pin < 256) → (s.chainOn pin = true) → ((s.edge pin).todo = []) → ((s.edge pin).lock = some lk) → (lk.tLast + s.quietW pin ≤ lk.tk + (lk.j + 1) * s.chatW pin) →
    ∃ t, exec (.chatterQuietEnd pin) s = .next t ∧
      (t.edge pin).lock = none ∧
      (t.edge pin).l = lk.level ∧
      t.get (edgePage pin) (pinMap F.EDGE.CHATTER.MAP pin) = 0 ∧
      (t.get (edgePage pin) (pinMap F.EDGE.FLVL.MAP pin) = if lk.level then 1 else 0) ∧
      t.get (edgePage pin) ⟨0x0C, 9, 1⟩ = 1 ∧
      t.clock = max s.clock (s.clockOf (lk.tLast + s.quietW pin))) ∧
  (∀ (pin : Nat) (s : State), (pin < 256) → (s.chainOn pin = true) → (s.stuckW pin ≠ 0 ∧ (s.edge pin).stuck = false ∧ s.stuckLvl pin (s.edge pin).l = true) → ((s.edge pin).lock = none ∧ (s.edge pin).held = none ∧ (s.edge pin).win = none ∧ (s.edge pin).stuckWait = false) →
    ∃ t, exec (.stuckTimerExpire pin) s = .next t ∧
      (t.edge pin).stuck = true ∧
      t.get (edgePage pin) (pinMap F.EDGE.STUCKMAP.MAP pin) = 1 ∧
      t.get (edgePage pin) ⟨0x0C, 10, 1⟩ = 1 ∧
      t.clock = max s.clock (s.clockOf ((s.edge pin).change + s.stuckW pin)))

/-- O23. R258, R261–R268: the writer commits the record whose turn it is under the next sequence number, a discard episode ends in
a BOOK_OVERFLOW record, and the DMA and ring drains move their pointers over what they send. -/
def Obligations.BookWriterAndDrains : Prop :=
  (∀ (clk : Nat) (u : State) (r : Rec) (l : List Rec) (s : State), ((s.advance clk).syncDrains = u) → (s.running pBOOK = true) → (s.held pBOOK = false) → (u.grantOk = true) → (s.book.overflow = []) → (s.book.guardQ = r :: l) → (u.fill < s.reserveAt) →
    ∃ t, exec (.bookCommit clk) s = .next t ∧
      t.book.guardQ = l ∧
      t.get pBOOK F.BOOK.WR_SEQ.SEQ = (s.wrSeq + 1) % 2 ^ 32 ∧
      (∀ j, j < (recBytes s.wrSeq r).length → t.ldb (slotAddr s.wrSeq + j) = (recBytes s.wrSeq r).getD j 0) ∧
      t.book.mgtQ = s.book.mgtQ ∧
      t.mem = (s.stBytes (slotAddr s.wrSeq) (recBytes s.wrSeq r)).mem) ∧
  (∀ (e : Episode) (s : State), (s.book.episode = some e) → (s.held pBOOK = true) →
    ∃ t, exec (.discardEpisodeEnd) s = .next t ∧
      t.book.episode = none ∧
      t.book.overflow = s.book.overflow ++ [overflowRec e] ∧
      t.get pBOOK F.BOOK.WR_SEQ.SEQ = s.get pBOOK F.BOOK.WR_SEQ.SEQ ∧
      t.clock = max s.clock (s.clockOf (e.last + 2000))) ∧
  (∀ (e : Episode) (u : State) (s : State), (s.book.episode = some e) → (State.syncDrains { s.advanceT (e.last + 2000) with book := { s.book with episode := none } } = u) → (u.writerOn = true ∧ u.grantOk = true ∧ u.shadowBook = false) → (s.book.front = [] ∧ s.book.overflow = []) → (u.fill < 32768) →
    ∃ t, exec (.discardEpisodeEnd) s = .next t ∧
      t.book.episode = none ∧
      t.book.overflow = [] ∧
      t.get pBOOK F.BOOK.WR_SEQ.SEQ = (s.wrSeq + 1) % 2 ^ 32 ∧
      (∀ j, j < (recBytes s.wrSeq (overflowRec e)).length → t.ldb (slotAddr s.wrSeq + j) = (recBytes s.wrSeq (overflowRec e)).getD j 0)) ∧
  (∀ (clk : Nat) (u : State) (s : State), ((s.advance clk).syncDrains = u) → (u.book.dma.active = true) → (0 < u.burst) → (u.rhRoom (32 * u.burst + 8) = true) →
    ∃ t, exec (.bookDmaBurst clk) s = .next t ∧
      t.get pBOOK F.BOOK.DMA_SEQ.SEQ = (u.get pBOOK F.BOOK.DMA_SEQ.SEQ + u.burst) % 2 ^ 32 ∧
      t.get pBOOK ⟨0x0C, 10, 1⟩ = 1 ∧
      (t.bridge.out ++ t.bridge.rh).length = (u.bridge.out ++ u.bridge.rh).length + u.burst + 1 ∧
      t.mem = s.mem) ∧
  (∀ (clk : Nat) (u : State) (s : State), ((s.advance clk).syncDrains = u) → (u.frameDue = true) →
    ∃ t, exec (.bookFrameSend clk) s = .next t ∧
      t.get pBOOK F.BOOK.RING_SEQ.SEQ = (u.get pBOOK F.BOOK.RING_SEQ.SEQ + min (seqDiff u.wrSeq (u.get pBOOK F.BOOK.RING_SEQ.SEQ)) (u.get pBOOK F.BOOK.RING_CTL.BATCH)) % 2 ^ 32 ∧
      t.get pBOOK F.BOOK.FRAMES.COUNT = (u.get pBOOK F.BOOK.FRAMES.COUNT + 1) % 2 ^ F.BOOK.FRAMES.COUNT.w)

/-- O24. R505–R507: CAL.DATA reads the shadow and writes the staging store at ADDR, which advances; UNLOCK opens the window; and
PROG starts the programming, which rewrites the chosen sections and reloads the shadow. -/
def Obligations.CalibrationStore : Prop :=
  (∀ (clk : Nat) (data : Word) (s : State), ((s.advance clk).accepts pCAL = true) →
    ∃ t, exec (.calDataWrite clk data) s = .next t ∧
      (∀ i, i < 4 → tabGet stageDefault t.cal.staging (4 * s.get pCAL F.CAL.ADDR.WORD + i) = BitVec.ofNat 8 (data.toNat / 256 ^ i)) ∧
      t.get pCAL F.CAL.ADDR.WORD = (s.get pCAL F.CAL.ADDR.WORD + 1) % 2 ^ F.CAL.ADDR.WORD.w ∧
      t.cal.mtp = s.cal.mtp ∧ t.cal.shadow = s.cal.shadow) ∧
  (∀ (clk : Nat) (s : State),
    ∃ t, exec (.calDataRead clk) s = .next t ∧
      t.result = some s.calDataWord ∧
      t.get pCAL F.CAL.ADDR.WORD = (s.get pCAL F.CAL.ADDR.WORD + 1) % 2 ^ F.CAL.ADDR.WORD.w ∧
      t.cal = s.cal) ∧
  (∀ (clk : Nat) (word : Word) (s : State), ((s.advance clk).accepts pCAL = true) →
    ∃ t, exec (.calUnlock clk word) s = .next t ∧
      (t.cal.unlock = if word = 0xCA1B0003 then some (max s.clock clk) else s.cal.unlock) ∧
      t.regs = s.regs) ∧
  (∀ (clk : Nat) (s : State), ((s.advance clk).accepts pCAL = true) → (s.cal.prog = none) → ((s.advance clk).calProgRefusal = none) →
    ∃ t, exec (.calProg clk) s = .next t ∧
      t.cal.prog = some (s.get pCAL F.CAL.SECMASK.MASK) ∧
      t.get pCAL F.CAL.CTL.PROG = 1 ∧
      t.cal.mtp = s.cal.mtp) ∧
  (∀ (clk code index : Nat) (s : State), ((s.advance clk).accepts pCAL = true) → (s.cal.prog = none) → ((s.advance clk).calProgRefusal = some (code, index)) →
    ∃ t, exec (.calProg clk) s = .next t ∧
      t.cal = s.cal ∧
      t.get pCAL F.HDR.PSTS.REFUSED = 1 ∧
      t.get pCAL F.HDR.PSTS.CODE = code % 2 ^ F.HDR.PSTS.CODE.w ∧
      t.get pCAL F.HDR.PSTS.INDEX = index % 2 ^ F.HDR.PSTS.INDEX.w) ∧
  (∀ (clk mask : Nat) (s : State), (s.cal.prog = some mask) →
    ∃ t, exec (.calProgDone clk) s = .next t ∧
      t.cal.prog = none ∧
      t.cal.shadow = t.cal.mtp ∧
      (∀ k, k < 10 → k ≠ 0 → natBit mask k = true → ∀ a, a < 2048 → calOff k ≤ a → a < calOff (k + 1) → calGet t.cal.mtp a = tabGet stageDefault s.cal.staging a) ∧
      (∀ k, k < 10 → k ≠ 0 → natBit mask k = false → ∀ a, a < 2048 → calOff k ≤ a → a < calOff (k + 1) → calGet t.cal.mtp a = calGet s.cal.mtp a) ∧
      calNum t.cal.mtp 6 2 = (calNum s.cal.mtp 6 2 + 1) % 65536 ∧
      t.get pCAL F.CAL.CTL.PROG = 0 ∧
      t.get pCAL ⟨0x0C, 8, 1⟩ = 1)

/-- O25. R357, R385: a write of a handle asks for a key install, which ends with the key in place or with an error, and a read of
LLOG0 takes the head of the late-error log. -/
def Obligations.KeysAndLateErrors : Prop :=
  (∀ (clk port sa handle : Nat) (s : State), (port < 7 ∧ sa < 4) → ((s.advance clk).accepts pMACSEC = true) → (s.get pMACSEC (msf F.MACSEC.CTL.PROT port) = 0 ∨ s.get pMACSEC (msf F.MACSEC.CTL.TX_AN port) ≠ sa) →
    ∃ t, exec (.macsecSaInstall clk port sa handle) s = .next t ∧
      t.get pMACSEC (saf F.MACSEC.SA_KEY.HANDLE port sa) = handle % 2 ^ 16 ∧
      t.get pMACSEC (saf F.MACSEC.SA_KEY.VALID port sa) = 0 ∧
      t.sw.installs = s.sw.installs.filter (fun x : SaInstall => !(x.port == port && x.sa == sa)) ++ [(⟨port, sa, handle % 2 ^ 16⟩ : SaInstall)]) ∧
  (∀ (clk port sa handle : Nat) (s : State), (port < 7 ∧ sa < 4) → ((s.advance clk).accepts pMACSEC = true) → (s.get pMACSEC (msf F.MACSEC.CTL.PROT port) = 1 ∧ s.get pMACSEC (msf F.MACSEC.CTL.TX_AN port) = sa) →
    ∃ t, exec (.macsecSaInstall clk port sa handle) s = .next t ∧
      t.get pMACSEC (saf F.MACSEC.SA_KEY.ERR port sa) = 5 ∧
      t.get pMACSEC ⟨0x0C, 10, 1⟩ = 1 ∧
      t.sw = s.sw) ∧
  (∀ (clk port sa : Nat) (x : SaInstall) (key : List Byte) (s : State), (port < 7 ∧ sa < 4) → (s.sw.installs.find? (fun x : SaInstall => x.port == port && x.sa == sa) = some x) → (s.saResult x.handle = (0, key)) →
    ∃ t, exec (.macsecSaInstallDone clk port sa) s = .next t ∧
      t.get pMACSEC (saf F.MACSEC.SA_KEY.VALID port sa) = 1 ∧
      t.get pMACSEC (saf F.MACSEC.SA_KEY.ERR port sa) = 0 ∧
      t.saOf port sa = some (⟨key, 0, false⟩ : SaKey) ∧
      t.sw.installs = s.sw.installs.filter (fun y : SaInstall => !(y.port == port && y.sa == sa))) ∧
  (∀ (clk port sa e : Nat) (x : SaInstall) (key : List Byte) (s : State), (port < 7 ∧ sa < 4) → (s.sw.installs.find? (fun x : SaInstall => x.port == port && x.sa == sa) = some x) → (s.saResult x.handle = (e, key)) → (e ≠ 0) →
    ∃ t, exec (.macsecSaInstallDone clk port sa) s = .next t ∧
      t.get pMACSEC (saf F.MACSEC.SA_KEY.ERR port sa) = e % 2 ^ F.MACSEC.SA_KEY.ERR.w ∧
      t.get pMACSEC ⟨0x0C, 10, 1⟩ = 1 ∧
      t.get pMACSEC (saf F.MACSEC.SA_KEY.VALID port sa) = s.get pMACSEC (saf F.MACSEC.SA_KEY.VALID port sa)) ∧
  (∀ (clk : Nat) (e : LogEnt) (l : List LogEnt) (s : State), (s.coreOn = true) → (s.bridge.llog = e :: l) →
    ∃ t, exec (.llogPop clk) s = .next t ∧
      t.bridge.llog = l ∧
      t.result = some (w32 e.addr) ∧
      t.regs = s.regs)

/-- O26. R212, R228–R230, R236–R244: an engine that stands before an instruction executes it in its next step: JMP, MOV, SET, OUT, IN,
PULL, PUSH, STAMP, NOTE and DLY give the registers, FIFOs, flags and PC the values of those rules, and an undefined word stops it. -/
def Obligations.EngineInstructions : Prop :=
  (∀ (eng w : Nat) (st : Nat × Nat) (u : State) (s : State), (s.engReady eng = true ∧ s.fetch eng = w ∧ iOp w = 5 ∧ s.undefWord eng w = false) → (s.nextStep eng (s.eng eng).tick = st ∧ (s.tookStep eng st).engArrive eng st.1 = u) → (s.get (pCREW (eng / 4)) F.CREW.STS.BUSY = 0) →
    ∃ t, exec (.instrJmp eng) s = .next t ∧
      ((t.eng eng).x, (t.eng eng).y) = jmpAdj (iAdj w) (s.eng eng).x (s.eng eng).y ∧
      ((t.eng eng).pc = (s.eng eng).pc / 128 * 128 + (if u.jmpCond eng (iCond w) (t.eng eng).x (t.eng eng).y st.1 then iAddr w else (s.eng eng).pc + 1) % 128) ∧
      (t.eng eng).dcnt = iDelay w ∧
      t.clock = max s.clock (s.datum.rawOrg + 8 * st.1)) ∧
  (∀ (eng w : Nat) (st : Nat × Nat) (u : State) (s : State), (s.engReady eng = true ∧ s.fetch eng = w ∧ iOp w = 6 ∧ s.undefWord eng w = false) → (s.nextStep eng (s.eng eng).tick = st ∧ (s.tookStep eng st).engArrive eng st.1 = u) → (s.get (pCREW (eng / 4)) F.CREW.STS.BUSY = 0) →
    ∃ t, exec (.instrMov eng) s = .next t ∧
      let v := movOp (iMOp w) (if iDst w = 0 then (s.eng eng).x else (s.eng eng).y) (u.movSrc eng (iMSrc w) st.1 (u.statusWord eng st.1))
      (iDst w = 0 → (t.eng eng).x = v) ∧
      (iDst w = 1 → (t.eng eng).y = v) ∧
      (iDst w = 3 → (t.eng eng).osr = v ∧ (t.eng eng).osc = 0) ∧
      (iDst w = 4 → (t.eng eng).isr = v ∧ (t.eng eng).isc = 0) ∧
      ((t.eng eng).pc = (s.eng eng).pc / 128 * 128 + (if iDst w = 6 then v else (s.eng eng).pc + 1) % 128) ∧
      (iDst w = 2 ∧ s.ef eng F.ENG.PINS.EDGE_COUNT = 0 → ∀ i, i < 32 → i < s.ef eng F.ENG.PINS.OUT_COUNT → (t.pin (ePin eng (s.ef eng F.ENG.PINS.OUT_BASE + i))).lvl = natBit v i) ∧
      (iDst w = 5 ∧ s.ef eng F.ENG.PINS.EDGE_COUNT = 0 → ∀ i, i < 32 → i < s.ef eng F.ENG.PINS.OUT_COUNT → (t.pin (ePin eng (s.ef eng F.ENG.PINS.OUT_BASE + i))).oe = natBit v i)) ∧
  (∀ (eng w : Nat) (s : State), (s.engReady eng = true ∧ s.fetch eng = w ∧ iOp w = 7 ∧ s.undefWord eng w = false) → (s.get (pCREW (eng / 4)) F.CREW.STS.BUSY = 0) →
    ∃ t, exec (.instrSet eng) s = .next t ∧
      (iMode w = 0 → (t.eng eng).x = natField w 0 10) ∧
      (iMode w = 1 → (t.eng eng).y = natField w 0 10) ∧
      (iMode w = 2 ∧ s.ef eng F.ENG.PINS.EDGE_COUNT = 0 → ∀ i, i < 5 → i < s.ef eng F.ENG.PINS.SET_COUNT → natBit w (5 + i) = true → (t.pin (ePin eng (s.ef eng F.ENG.PINS.SET_BASE + i))).lvl = natBit w i) ∧
      (iMode w = 3 ∧ s.ef eng F.ENG.PINS.EDGE_COUNT = 0 → ∀ i, i < 5 → i < s.ef eng F.ENG.PINS.SET_COUNT → natBit w (5 + i) = true → (t.pin (ePin eng (s.ef eng F.ENG.PINS.SET_BASE + i))).oe = natBit w i) ∧
      (t.eng eng).pc = (s.eng eng).pc / 128 * 128 + ((s.eng eng).pc + 1) % 128 ∧
      (t.eng eng).dcnt = iDelay w) ∧
  (∀ (eng w : Nat) (s : State), (s.engReady eng = true ∧ s.fetch eng = w ∧ iOp w = 8 ∧ s.undefWord eng w = false) → (s.get (pCREW (eng / 4)) F.CREW.STS.BUSY = 0) → (s.ef eng F.ENG.CFG.OREFILL = 0) →
    ∃ t, exec (.instrOut eng) s = .next t ∧
      let r := outShift (s.ef eng F.ENG.CFG.OUT_RIGHT == 1) (s.eng eng).osr (iBits w)
      (t.eng eng).osr = r.2 ∧
      (t.eng eng).osc = min ((s.eng eng).osc + iBits w) 32 ∧
      (iDst w = 1 → (t.eng eng).x = r.1) ∧
      (iDst w = 2 → (t.eng eng).y = r.1) ∧
      ((t.eng eng).dcnt = if iDst w = 5 then r.1 % 2 ^ 20 else iDelay w) ∧
      ((t.eng eng).pc = (s.eng eng).pc / 128 * 128 + (if iDst w = 6 then (s.eng eng).pc + 1 + r.1 % 128 else (s.eng eng).pc + 1) % 128)) ∧
  (∀ (eng w : Nat) (st : Nat × Nat) (u : State) (s : State), (s.engReady eng = true ∧ s.fetch eng = w ∧ iOp w = 8 ∧ s.undefWord eng w = false) → (s.nextStep eng (s.eng eng).tick = st ∧ (s.tookStep eng st).engArrive eng st.1 = u) → (s.ef eng F.ENG.CFG.OREFILL = 1 ∧ s.drained eng = true ∧ (u.eng eng).txf = []) →
    ∃ t, exec (.instrOut eng) s = .next t ∧
      (t.eng eng).wait = EngWait.stall StallKind.out st.1 false ∧
      (t.eng eng).pc = (s.eng eng).pc ∧
      t.get (pENG eng) F.ENG.STALLS.COUNT = (s.get (pENG eng) F.ENG.STALLS.COUNT + 1) % 2 ^ F.ENG.STALLS.COUNT.w) ∧
  (∀ (eng w : Nat) (st : Nat × Nat) (u : State) (s : State), (s.engReady eng = true ∧ s.fetch eng = w ∧ iOp w = 9 ∧ s.undefWord eng w = false) → (s.nextStep eng (s.eng eng).tick = st ∧ (s.tookStep eng st).engArrive eng st.1 = u) → (s.get (pCREW (eng / 4)) F.CREW.STS.BUSY = 0) → (s.ef eng F.ENG.CFG.IFLUSH = 0) →
    ∃ t, exec (.instrIn eng) s = .next t ∧
      (t.eng eng).isr = inShift (s.ef eng F.ENG.CFG.IN_RIGHT == 1) (s.eng eng).isr (iBits w) (u.inSrc eng (iDst w) st.1 (u.flagsTick (eng / 4) st.1)) ∧
      (t.eng eng).isc = min ((s.eng eng).isc + iBits w) 32 ∧
      (t.eng eng).pc = (s.eng eng).pc / 128 * 128 + ((s.eng eng).pc + 1) % 128) ∧
  (∀ (eng w v : Nat) (l : List Nat) (st : Nat × Nat) (u : State) (s : State), (s.engReady eng = true ∧ s.fetch eng = w ∧ iOp w = 10 ∧ s.undefWord eng w = false) → (s.nextStep eng (s.eng eng).tick = st ∧ (s.tookStep eng st).engArrive eng st.1 = u) → (s.get (pCREW (eng / 4)) F.CREW.STS.BUSY = 0) → (modeActs (iPMode w) (s.eng eng).osc (s.ef eng F.ENG.CFG.OSR_LEN) = true) → ((u.eng eng).txf = v :: l) →
    ∃ t, exec (.instrPull eng) s = .next t ∧
      (t.eng eng).osr = v ∧ (t.eng eng).osc = 0 ∧
      (t.eng eng).txf = l ∧
      (t.eng eng).pc = (s.eng eng).pc / 128 * 128 + ((s.eng eng).pc + 1) % 128) ∧
  (∀ (eng w : Nat) (s : State), (s.engReady eng = true ∧ s.fetch eng = w ∧ iOp w = 11 ∧ s.undefWord eng w = false) → (s.get (pCREW (eng / 4)) F.CREW.STS.BUSY = 0) → (modeActs (iPMode w) (s.eng eng).isc (s.ef eng F.ENG.CFG.ISR_LEN) = true) → (s.ef eng F.ENG.CFG.PLAT_MODE = 0 ∧ (s.eng eng).rxf.length < s.rxDepth eng) →
    ∃ t, exec (.instrPush eng) s = .next t ∧
      (t.eng eng).rxf = (s.eng eng).rxf ++ [(s.eng eng).isr] ∧
      (t.eng eng).isr = 0 ∧ (t.eng eng).isc = 0 ∧
      (t.eng eng).pc = (s.eng eng).pc / 128 * 128 + ((s.eng eng).pc + 1) % 128) ∧
  (∀ (eng w : Nat) (st : Nat × Nat) (u : State) (s : State), (s.engReady eng = true ∧ s.fetch eng = w ∧ iOp w = 12 ∧ s.undefWord eng w = false ∧ iTop w = true) → (s.nextStep eng (s.eng eng).tick = st ∧ (s.tookStep eng st).engArrive eng st.1 = u) → (s.get (pCREW (eng / 4)) F.CREW.STS.BUSY = 0) → ((s.pin (ePin eng (iIdx w))).stTick ≠ st.1) →
    ∃ t, exec (.instrStamp eng) s = .next t ∧
      (t.eng eng).y = (u.capAt (ePin eng (iIdx w)) st.1).capT % 2 ^ 32 ∧
      (t.eng eng).x = 2 ^ 31 * bit (u.capAt (ePin eng (iIdx w)) st.1).capNew + 2 ^ 30 * bit (u.capAt (ePin eng (iIdx w)) st.1).capRise + 2 ^ 29 * bit (u.capAt (ePin eng (iIdx w)) st.1).capMulti + (u.capAt (ePin eng (iIdx w)) st.1).capT / 2 ^ 32 % 2 ^ 29 ∧
      (t.pin (ePin eng (iIdx w))).capNew = false ∧ (t.pin (ePin eng (iIdx w))).capMulti = false ∧
      (t.eng eng).pc = (s.eng eng).pc / 128 * 128 + ((s.eng eng).pc + 1) % 128) ∧
  (∀ (eng w : Nat) (s : State), (s.engReady eng = true ∧ s.fetch eng = w ∧ iOp w = 13 ∧ s.undefWord eng w = false) → (s.get (pCREW (eng / 4)) F.CREW.STS.BUSY = 0) → (s.histCut ≤ 8 * (s.nextStep eng (s.eng eng).tick).1) →
    ∃ t, exec (.instrNote eng) s = .next t ∧
      natBit (t.flagsTick (eng / 4) ((s.nextStep eng (s.eng eng).tick).1 + 1)) (natField w 0 3) = true ∧
      (iTop w = true → t.get (pCREW (eng / 4)) ⟨0x0C, 8 + natField w 0 3, 1⟩ = 1) ∧
      (t.eng eng).pc = (s.eng eng).pc / 128 * 128 + ((s.eng eng).pc + 1) % 128) ∧
  (∀ (eng w n : Nat) (s : State), (s.engReady eng = true ∧ s.fetch eng = w ∧ iOp w = 3 ∧ s.undefWord eng w = false) → ((if natBit w 0 then (s.eng eng).x % 2 ^ 20 else natField w 8 20) = n) → (s.get (pCREW (eng / 4)) F.CREW.STS.BUSY = 0) →
    ∃ t, exec (.instrDly eng) s = .next t ∧
      (t.eng eng).dcnt = n ∧
      ((t.eng eng).wait = if n = 0 then EngWait.none else EngWait.dly) ∧
      ((t.eng eng).pc = if n = 0 then (s.eng eng).pc / 128 * 128 + ((s.eng eng).pc + 1) % 128 else (s.eng eng).pc)) ∧
  (∀ (eng : Nat) (s : State), (s.engReady eng = true ∧ s.undefWord eng (s.fetch eng) = true) →
    ∃ t, exec (.undefinedInstruction eng) s = .next t ∧
      t.get (pENG eng) F.HDR.PSTS.FAULT = 1 ∧
      t.get (pENG eng) F.HDR.PSTS.RUN = 0 ∧
      (t.eng eng).claims = (s.eng eng).claims ∧
      (t.eng eng).pc = (s.eng eng).pc)

/-- O27. R203, R204, R209, R229, R231–R236, R245: the waits, delays and stalls of an engine begin and end, and a swap abandons what it
may. -/
def Obligations.EngineWaits : Prop :=
  (∀ (eng w : Nat) (st : Nat × Nat) (s : State), (s.engReady eng = true ∧ s.fetch eng = w ∧ iOp w = 1 ∧ s.undefWord eng w = false) → (s.nextStep eng (s.eng eng).tick = st) →
    ∃ t, exec (.instrWaitt eng) s = .next t ∧
      ((t.eng eng).wait = match s.waittTarget eng (iMode w) (s.tickT st.1) with | some x => EngWait.waitt x false | none => EngWait.waitt 0 true) ∧
      (t.eng eng).pc = (s.eng eng).pc ∧
      t.clock = max s.clock (s.datum.rawOrg + 8 * st.1)) ∧
  (∀ (eng w k : Nat) (x : Int) (s : State), ((s.eng eng).wait = EngWait.waitt x false) → (s.running (pENG eng) = true ∧ s.engFrozen = false ∧ s.fetch eng = w) → (s.waittTick eng x false = k) → ((s.tickT k : Int) ≤ x) → (s.get (pCREW (eng / 4)) F.CREW.STS.BUSY = 0) →
    ∃ t, exec (.waittComplete eng) s = .next t ∧
      (t.eng eng).wait = EngWait.none ∧
      (t.eng eng).phase = (x - s.tickT k).toNat % 16 ∧
      (t.eng eng).pc = (s.eng eng).pc / 128 * 128 + ((s.eng eng).pc + 1) % 128 ∧
      t.clock = max s.clock (s.datum.rawOrg + 8 * k)) ∧
  (∀ (eng w k : Nat) (x : Int) (s : State), ((s.eng eng).wait = EngWait.waitt x false) → (s.running (pENG eng) = true ∧ s.engFrozen = false ∧ s.fetch eng = w) → (s.waittTick eng x false = k) → (x < (s.tickT k : Int)) → (s.get (pCREW (eng / 4)) F.CREW.STS.BUSY = 0) →
    ∃ t, exec (.waittComplete eng) s = .next t ∧
      (t.eng eng).wait = EngWait.none ∧
      (t.eng eng).phase = 0 ∧
      ((t.eng eng).pc = (s.eng eng).pc / 128 * 128 + ((s.eng eng).pc + (if natBit w 10 then 2 else 1)) % 128) ∧
      t.get (pENG eng) ⟨0x0C, 11, 1⟩ = 1) ∧
  (∀ (eng w : Nat) (st : Nat × Nat) (s : State), (s.engReady eng = true ∧ s.fetch eng = w ∧ iOp w = 2 ∧ s.undefWord eng w = false) → (s.nextStep eng (s.eng eng).tick = st) →
    ∃ t, exec (.instrWaitp eng) s = .next t ∧
      (t.eng eng).wait = EngWait.waitp ∧
      (t.eng eng).tick = st.1 ∧ (t.eng eng).phs = st.2 ∧
      (t.eng eng).pc = (s.eng eng).pc) ∧
  (∀ (clk eng w : Nat) (st : Nat × Nat) (u : State) (s : State), (s.running (pENG eng) = true ∧ s.engFrozen = false ∧ (s.eng eng).wait = EngWait.waitp ∧ s.fetch eng = w) → (s.advance clk = u) → (u.waitpGo eng w (u.nextStep eng u.nowTick).1 ((u.nextStep eng u.nowTick).1 - (s.eng eng).tick + 2) (s.eng eng).prev (s.eng eng).tick (s.eng eng).phs = some st) → (s.get (pCREW (eng / 4)) F.CREW.STS.BUSY = 0) →
    ∃ t, exec (.waitpComplete clk eng) s = .next t ∧
      (t.eng eng).wait = EngWait.none ∧
      (t.eng eng).tick = st.1 ∧ (t.eng eng).phase = 0 ∧
      (t.eng eng).pc = (s.eng eng).pc / 128 * 128 + ((s.eng eng).pc + 1) % 128) ∧
  (∀ (eng : Nat) (s : State), (s.running (pENG eng) = true ∧ s.engFrozen = false ∧ (s.eng eng).wait = EngWait.dly) → (s.get (pCREW (eng / 4)) F.CREW.STS.BUSY = 0) →
    ∃ t, exec (.dlyComplete eng) s = .next t ∧
      (t.eng eng).wait = EngWait.none ∧ (t.eng eng).dcnt = 0 ∧
      (t.eng eng).pc = (s.eng eng).pc / 128 * 128 + ((s.eng eng).pc + 1) % 128 ∧
      (t.eng eng).tick = ((s.steps eng (s.eng eng).dcnt).eng eng).tick) ∧
  (∀ (eng w : Nat) (st : Nat × Nat) (s : State), (s.engReady eng = true ∧ s.fetch eng = w ∧ iOp w = 4 ∧ s.undefWord eng w = false) → (s.nextStep eng (s.eng eng).tick = st) →
    ∃ t, exec (.instrCnt eng) s = .next t ∧
      (t.eng eng).wait = EngWait.cnt ∧ (t.eng eng).y = 0 ∧
      (t.eng eng).tick = st.1 ∧
      (t.eng eng).pc = (s.eng eng).pc) ∧
  (∀ (clk eng : Nat) (r : CntRes) (s : State), (s.running (pENG eng) = true ∧ s.engFrozen = false ∧ (s.eng eng).wait = EngWait.cnt) → ((s.advance clk).cntNow eng = r ∧ r.done = true) → (s.get (pCREW (eng / 4)) F.CREW.STS.BUSY = 0) →
    ∃ t, exec (.cntComplete clk eng) s = .next t ∧
      (t.eng eng).wait = EngWait.none ∧
      (t.eng eng).x = r.x ∧ (t.eng eng).y = r.y ∧
      (t.eng eng).pc = (s.eng eng).pc / 128 * 128 + ((s.eng eng).pc + 1) % 128) ∧
  (∀ (eng : Nat) (s : State), (s.running (pENG eng) = true ∧ s.engFrozen = false ∧ (s.eng eng).wait = EngWait.none ∧ (s.eng eng).dcnt ≠ 0) → (s.get (pCREW (eng / 4)) F.CREW.STS.BUSY = 0) →
    ∃ t, exec (.instrDelayEnd eng) s = .next t ∧
      (t.eng eng).dcnt = 0 ∧ (t.eng eng).wait = EngWait.none ∧
      (t.eng eng).pc = (s.eng eng).pc ∧
      (t.eng eng).tick = ((s.steps eng (s.eng eng).dcnt).eng eng).tick) ∧
  (∀ (eng start v k : Nat) (l : List Nat) (fl : Bool) (s : State), ((s.eng eng).wait = EngWait.stall StallKind.pull start fl) → (s.running (pENG eng) = true ∧ s.engHold eng = false ∧ s.engFrozen = false) → ((s.eng eng).txf = v :: l ∧ (s.eng eng).txIn = []) → (modeActs (iPMode (s.fetch eng)) (s.eng eng).osc (s.ef eng F.ENG.CFG.OSR_LEN) = true) → (s.get (pCREW (eng / 4)) F.CREW.STS.BUSY = 0) → ((s.nextStep eng (max s.nowTick (start + 1))).1 = k) →
    ∃ t, exec (.engineStallEnd eng) s = .next t ∧
      (t.eng eng).wait = EngWait.none ∧
      (t.eng eng).osr = v ∧ (t.eng eng).osc = 0 ∧ (t.eng eng).txf = l ∧
      t.get (pENG eng) F.ENG.STALL_LAST.TICKS = min (k - start) (2 ^ 32 - 1) ∧
      (t.eng eng).pc = (s.eng eng).pc / 128 * 128 + ((s.eng eng).pc + 1) % 128) ∧
  (∀ (eng start : Nat) (kind : StallKind) (s : State), (eng < 64) → ((s.eng eng).wait = EngWait.stall kind start false) → (s.ef eng F.ENG.STALL_TH.TICKS ≠ 0) → (s.engFrozen = false) →
    ∃ t, exec (.stallLong eng) s = .next t ∧
      (t.eng eng).wait = EngWait.stall kind start true ∧
      t.get (pENG eng) ⟨0x0C, 8, 1⟩ = 1 ∧
      t.clock = max s.clock (s.datum.rawOrg + 8 * (start + s.ef eng F.ENG.STALL_TH.TICKS))) ∧
  (∀ (eng b : Nat) (st : Nat × Nat) (s : State), (eng < 64) → (s.nextStep eng (max ((s.eng eng).tick + 1) (ceilDiv (s.crew (eng / 4)).swapFrom 8)) = st) → (s.mustMove eng st.1 = true ∧ s.abandonable eng = true ∧ s.engFrozen = false) → (1 - s.get (pCREW (eng / 4)) F.CREW.STS.ACTIVE = b) →
    ∃ t, exec (.swapAbandon eng) s = .next t ∧
      (t.eng eng).pc = 128 * b + s.entryOf (eng / 4) b (eng % 4) ∧
      (t.eng eng).wait = EngWait.none ∧ (t.eng eng).dcnt = 0 ∧ (t.eng eng).phase = 0 ∧
      t.get (pCREW (eng / 4)) F.CREW.ABANDONED.COUNT = (s.get (pCREW (eng / 4)) F.CREW.ABANDONED.COUNT + 1) % 2 ^ F.CREW.ABANDONED.COUNT.w ∧
      t.get (pCREW (eng / 4)) ⟨0x0C, 17, 1⟩ = 1)

/-- O28. R197, R208, R212, R213, R217, R218: words enter and leave an engine's FIFOs, a held engine is moved, an engine is captured,
and a crew swaps programs, releases engines and sets flags. -/
def Obligations.EngineRegistersAndCrews : Prop :=
  (∀ (clk eng : Nat) (data : Word) (s : State), (eng < 64) → ((s.advance clk).accepts (pENG eng) = true) → (s.running (pENG eng) = true) → ((s.eng eng).txIn = []) →
    ∃ t, exec (.engTxfWrite clk eng data) s = .next t ∧
      (t.eng eng).txIn = [((s.advance clk).tickAt ((s.advance clk).now + 30), data.toNat)] ∧
      (t.eng eng).txf = (s.eng eng).txf ∧
      t.regs = s.regs) ∧
  (∀ (clk eng : Nat) (data : Word) (s : State), (eng < 64) → ((s.advance clk).accepts (pENG eng) = true) → (s.running (pENG eng) = false) → ((s.eng eng).txIn = [] ∧ (s.eng eng).txf.length < s.txDepth eng) →
    ∃ t, exec (.engTxfWrite clk eng data) s = .next t ∧
      (t.eng eng).txf = (s.eng eng).txf ++ [data.toNat] ∧
      (t.eng eng).txIn = [] ∧
      t.regs = s.regs) ∧
  (∀ (clk eng : Nat) (s : State), (eng < 64) → (s.coreOn = true) →
    ∃ t, exec (.engRxfPop clk eng) s = .next t ∧
      (t.eng eng).rxf = (s.eng eng).rxf.tail ∧
      t.result = some (w32 ((s.eng eng).rxf.headD 0)) ∧
      t.regs = s.regs) ∧
  (∀ (clk eng word : Nat) (s : State), (eng < 64 ∧ word < 128) → ((s.advance clk).accepts (pENG eng) = true) → (s.running (pENG eng) = true ∧ s.held (pENG eng) = true) →
    ∃ t, exec (.engJump clk eng word) s = .next t ∧
      (t.eng eng).pc = (s.eng eng).pc / 128 * 128 + word ∧
      (t.eng eng).x = (s.eng eng).x ∧ (t.eng eng).txf = (s.eng eng).txf) ∧
  (∀ (clk eng : Nat) (s : State), (eng < 64) → ((s.advance clk).accepts (pENG eng) = true) → ((s.eng eng).wait ≠ EngWait.cnt) →
    ∃ t, exec (.engSnap clk eng) s = .next t ∧
      (t.eng eng).snap = (⟨(s.eng eng).pc, (s.eng eng).x, (s.eng eng).y, (s.eng eng).osr, (s.eng eng).isr, (s.eng eng).osc, (s.eng eng).isc⟩ : EngSnap) ∧
      (t.eng eng).pc = (s.eng eng).pc) ∧
  (∀ (clk crew : Nat) (s : State), (crew < 16) → ((s.advance clk).accepts (pCREW crew) = true) → (s.flag (pCREW crew) F.CREW.SWAP.GO = false) → (∀ k, k < 4 → s.running (pENG (4 * crew + k)) = true → s.get (pCREW crew) (F.CREW.IDLE_OWN.MASK.at (4 * k)) = s.claimMask (4 * crew + k)) → (s.runEngs crew ≠ []) →
    ∃ t, exec (.crewSwapGo clk crew) s = .next t ∧
      t.get (pCREW crew) F.CREW.SWAP.GO = 1 ∧ t.get (pCREW crew) F.CREW.STS.BUSY = 1 ∧
      t.get (pCREW crew) F.CREW.STS.MOVED = 0 ∧
      (t.crew crew).swapFrom = (s.advance clk).raw + 30 ∧
      t.get (pCREW crew) F.CREW.STS.ACTIVE = s.get (pCREW crew) F.CREW.STS.ACTIVE) ∧
  (∀ (clk crew : Nat) (s : State), (crew < 16) → ((s.advance clk).accepts (pCREW crew) = true) → (s.flag (pCREW crew) F.CREW.SWAP.GO = false) → (s.runEngs crew = []) →
    ∃ t, exec (.crewSwapGo clk crew) s = .next t ∧
      t.get (pCREW crew) F.CREW.STS.ACTIVE = 1 - s.get (pCREW crew) F.CREW.STS.ACTIVE ∧
      t.get (pCREW crew) F.CREW.SWAPCNT.COUNT = (s.get (pCREW crew) F.CREW.SWAPCNT.COUNT + 1) % 2 ^ F.CREW.SWAPCNT.COUNT.w ∧
      t.get (pCREW crew) ⟨0x0C, 16, 1⟩ = 1) ∧
  (∀ (clk crew k : Nat) (s : State), (crew < 16) → ((s.advance clk).accepts (pCREW crew) = true) → (s.flag (pCREW crew) F.CREW.SWAP.GO = false) → ((s.runEngs crew).find? (fun k : Nat => s.get (pCREW crew) (F.CREW.IDLE_OWN.MASK.at (4 * k)) != s.claimMask (4 * crew + k)) = some k) →
    ∃ t, exec (.crewSwapGo clk crew) s = .next t ∧
      t.get (pCREW crew) F.HDR.PSTS.REFUSED = 1 ∧ t.get (pCREW crew) F.HDR.PSTS.CODE = 0x10 ∧ t.get (pCREW crew) F.HDR.PSTS.INDEX = k % 256 ∧
      t.get (pCREW crew) F.CREW.SWAP.GO = 0 ∧
      t.crews = s.crews) ∧
  (∀ (clk crew k : Nat) (s : State), (crew < 16 ∧ k < 4) → ((s.advance clk).accepts (pCREW crew) = true) → (s.flag (pENG (4 * crew + k)) F.HDR.PSTS.HELD = true ∧ s.flag (pCREW crew) F.HDR.PCTL.HOLD = false) →
    ∃ t, exec (.crewGoEng clk crew (2 ^ k)) s = .next t ∧
      t.get (pENG (4 * crew + k)) F.HDR.PCTL.HOLD = 0 ∧ t.get (pENG (4 * crew + k)) F.HDR.PSTS.HELD = 0 ∧
      (t.eng (4 * crew + k)).pc = (s.eng (4 * crew + k)).pc) ∧
  (∀ (clk crew mask : Nat) (s : State), (crew < 16) → ((s.advance clk).accepts (pCREW crew) = true) → ((s.crew crew).flags < 256 ∧ (s.crew crew).flagQ.Pairwise (fun a b : Nat × Nat × Nat => b.1 < a.1)) → (∀ a ∈ (s.crew crew).flagQ, a.2.1 < 256) →
    ∃ t, exec (.crewFlagset clk crew mask) s = .next t ∧
      let k := ceilDiv ((s.advance clk).raw + 30) 8
      t.flagsTick crew (k + 1) = s.flagsTick crew (k + 1) ||| mask % 256 ∧
      t.flagsTick crew k = s.flagsTick crew k ∧
      t.regs = s.regs)

/-- O29. R222, R223, R499–R502, R542: software-level pins and VDDIO banks change, and a histogram monitor takes a sample and a snapshot. -/
def Obligations.PinsAndMonitors : Prop :=
  (∀ (clk q off : Nat) (data : Word) (s : State), (q < 4 ∧ off ∈ [0x48, 0x4C, 0x50, 0x54]) → ((s.advance clk).accepts (pPINMUX q) = true) →
    ∃ t, exec (.pinmuxSwdataWrite clk q off data) s = .next t ∧
      t.rd (pPINMUX q) off = data ∧
      (∀ i, i < 32 → s.funcOf (64 * q + 32 * (off % 8 / 4) + i) = 5 → (t.pin (64 * q + 32 * (off % 8 / 4) + i)).outT = (s.advance clk).now + 30)) ∧
  (∀ (clk bank : Nat) (present sense : Bool) (s : State), (bank < 8) →
    ∃ t, exec (.vddioBankChange clk bank present sense) s = .next t ∧
      (t.get (pPINMUX (bank / 2)) ⟨F.PINMUX.VDDSTS.PRESENT.off, 2 + bank % 2, 1⟩ = if present then 1 else 0) ∧
      (t.get (pPINMUX (bank / 2)) ⟨F.PINMUX.VDDSTS.SENSE.off, bank % 2, 1⟩ = if present && sense then 1 else 0) ∧
      (∀ i, i < 32 → (t.pin (32 * bank + i)).oe = false)) ∧
  (∀ (clk mon i : Nat) (value : Int) (s : State), (mon < 8) → (s.running (pHMON mon) = true ∧ s.held (pHMON mon) = false) → (s.get (pHMON mon) F.HMON.CFG.SRC ≠ 0) → (hmonBin (s.flag (pHMON mon) F.HMON.CFG.MODE) (s.getS (pHMON mon) F.HMON.LO.LO) (s.get (pHMON mon) F.HMON.W.W) value = HBin.bin i) →
    ∃ t, exec (.hmonSample clk mon value) s = .next t ∧
      t.get (pHMON mon) F.HMON.COUNT.COUNT = (s.get (pHMON mon) F.HMON.COUNT.COUNT + 1) % 2 ^ F.HMON.COUNT.COUNT.w ∧
      t.get (pHMON mon) F.HMON.SUM.SUM = ofSigned (s.getS (pHMON mon) F.HMON.SUM.SUM + value) 64 ∧
      t.get (pHMON mon) (F.HMON.BIN.COUNT.at (4 * i)) = satAdd (s.get (pHMON mon) (F.HMON.BIN.COUNT.at (4 * i))) 1 F.HMON.BIN.COUNT.w) ∧
  (∀ (clk mon : Nat) (clear all : Bool) (s : State), (mon < 8) → ((s.advance clk).accepts (pHMON mon) = true) →
    ∃ t, exec (.hmonSnap clk mon clear all) s = .next t ∧
      (∀ i, i < 40 → t.rd (pHMON mon) (0x180 + 4 * i) = s.rd (pHMON mon) (0x80 + 4 * i)) ∧
      (∀ i, i < 40 → t.rd (pHMON mon) (0x80 + 4 * i) = if clear then regDefault (regKey (pHMON mon) (0x80 + 4 * i)) else s.rd (pHMON mon) (0x80 + 4 * i)) ∧
      t.get (pHMON mon) F.HMON.SNAP_T.T = (s.advance clk).now % 2 ^ 64 ∧
      t.get (pHMON mon) ⟨0x0C, 8, 1⟩ = 1)

/-- O30. R67–R70, R376, R386: a page summary reaches PEND, a group that stays pending repeats its NOTICE, REARM sends its message
again, and an unmasked vector sends the message that waited. -/
def Obligations.EventRouting : Prop :=
  (∀ (clk page : Nat) (s : State), (page < 256) → ((runOf page).isSome = true) → (s.coreOn = true) → (guardPage page = true → s.pwr.dieLink = true) →
    ∃ t, exec (.irqSummaryArrive clk page) s = .next t ∧
      (t.get pIRQ (pendFld page) = if s.summary page then 1 else 0)) ∧
  (∀ (group : Nat) (r : Nat × Nat × Nat) (s : State), (s.page.repeatAt.find? (fun x : Nat × Nat × Nat => x.1 == group) = some r) → (s.grpPend group = false) →
    ∃ t, exec (.noticeRepeat group) s = .next t ∧
      t.page.repeatAt = s.page.repeatAt.filter (fun x : Nat × Nat × Nat => x.1 != group) ∧
      t.regs = s.regs ∧
      t.clock = max s.clock r.2.1) ∧
  (∀ (group : Nat) (r : Nat × Nat × Nat) (s : State), (s.page.repeatAt.find? (fun x : Nat × Nat × Nat => x.1 == group) = some r) → (s.grpPend group = true) → (s.flag pBRIDGE F.BRIDGE.MGRSTS.HELD = false) → (s.get pIRQ F.IRQ.NDROP.COUNT < 2 ^ 16 - 1) →
    ∃ t, exec (.noticeRepeat group) s = .next t ∧
      t.get pIRQ F.IRQ.NDROP.COUNT = s.get pIRQ F.IRQ.NDROP.COUNT + 1 ∧
      (t.page.repeatAt = s.page.repeatAt.filter (fun x : Nat × Nat × Nat => x.1 != group) ++ (if r.2.2 = 0 then [] else [(group, max s.clock r.2.1 + 2000000 * r.2.2, r.2.2)]))) ∧
  (∀ (clk g : Nat) (e : MsixEnt) (s : State), ((s.advance clk).accepts pIRQ = true) → (g < 8) → (s.grpPend g = true) → (s.groute F.IRQ.GROUTE.MSIX_EN g = 1 ∧ s.groute F.IRQ.GROUTE.NOTICE_EN g = 0) → (s.bridge.msix[s.groute F.IRQ.GROUTE.VECTOR g]? = some e ∧ e.masked = false) →
    ∃ t, exec (.irqRearm clk (2 ^ g)) s = .next t ∧
      t.bridge.out ++ t.bridge.rh = s.bridge.out ++ s.bridge.rh ++ [HostMsg.msix (s.groute F.IRQ.GROUTE.VECTOR g) e.addr e.data] ∧
      (t.bridge.rh = if s.rhWaits then s.bridge.rh ++ [HostMsg.msix (s.groute F.IRQ.GROUTE.VECTOR g) e.addr e.data] else []) ∧
      t.regs = s.regs) ∧
  (∀ (clk vector : Nat) (e : MsixEnt) (s : State), (s.bridge.msix[vector]? = some e) →
    ∃ t, exec (.msixUnmask clk vector) s = .next t ∧
      t.bridge.msix[vector]? = some ({ e with masked := false, pend := false } : MsixEnt) ∧
      (t.bridge.out ++ t.bridge.rh = s.bridge.out ++ s.bridge.rh ++ (if e.pend then [HostMsg.msix vector e.addr e.data] else [])) ∧
      (e.pend = true → s.rhWaits = true → t.bridge.out = s.bridge.out))

/-- O31. R310, R311, R325, R326: a link comes up, goes down with its hold window, loses lock, falls back, and at the end of the
hold window the queues of the port are flushed. -/
def Obligations.PortLinks : Prop :=
  (∀ (clk port speed : Nat) (s : State), (port < 22) → (s.running (pPORT port) = true) → (s.get (pPORT port) F.PORT.STS.LINK = 0) → ((s.advance clk).debounced port (s.get (pPORT port) F.PORT.LINKT.LUP_DB) = true) →
    ∃ t, exec (.linkUp clk port speed) s = .next t ∧
      t.get (pPORT port) F.PORT.STS.LINK = 1 ∧
      t.get (pPORT port) F.PORT.STS.LMODE = (s.port port).mode % 2 ^ F.PORT.STS.LMODE.w ∧
      t.get (pPORT port) F.PORT.STS.HOLDING = 0 ∧
      t.get (pPORT port) F.PORT.STS.FLUSHED = 0 ∧
      t.get (pPORT port) ⟨0x0C, 8, 1⟩ = 1 ∧
      (t.port port).lock = true ∧ (t.port port).holdEnd = none) ∧
  (∀ (clk port : Nat) (s : State), (port < 22) → (s.running (pPORT port) = true) → (s.get (pPORT port) F.PORT.STS.LINK = 1) → (s.get (pPORT port) F.PORT.CFG.LOOP ≠ 1) → (s.get (pPORT port) F.PORT.HOLD_WIN.WIN ≠ 0) → ((s.advance clk).debounced port (s.get (pPORT port) F.PORT.LINKT.LDN_DB) = true) →
    ∃ t, exec (.linkDown clk port) s = .next t ∧
      t.get (pPORT port) F.PORT.STS.LINK = 0 ∧
      t.get (pPORT port) F.PORT.STS.HOLDING = 1 ∧
      t.get (pPORT port) F.PORT.STS.RX_PAUSED = 0 ∧
      t.get pSTAMP (F.STAMP.LAT.ING_LAT.at (0x20 * port)) = 0 ∧
      t.get (pPORT port) ⟨0x0C, 9, 1⟩ = 1 ∧
      (t.port port).lock = false ∧
      (t.port port).holdEnd = some ((s.advance clk).now + 2000 * s.get (pPORT port) F.PORT.HOLD_WIN.WIN)) ∧
  (∀ (port e : Nat) (s : State), (port < 22) → ((s.port port).holdEnd = some e) →
    ∃ t, exec (.holdWindowClose port) s = .next t ∧
      t.get (pPORT port) F.PORT.STS.HOLDING = 0 ∧
      t.get (pPORT port) F.PORT.STS.FLUSHED = 1 ∧
      t.get (pPORT port) ⟨0x0C, 16, 1⟩ = 1 ∧
      (t.port port).holdEnd = none ∧
      (∀ x ∈ t.sw.txq, x.port ≠ port) ∧
      t.clock = max s.clock (s.clockOf e)) ∧
  (∀ (port : Nat) (s : State), (port < 2) → (s.running (pPORT port) = true) → (s.get (pPORT port) F.PORT.STS.LINK = 0) → (s.get (pPORT port) F.PORT.CFG.MODE = 0) → (s.get (pPORT port) F.PORT.CFG.FALLBACK = 1) →
    ∃ t, exec (.linkFallbackToggle port) s = .next t ∧
      ((t.port port).mode = if (s.port port).mode = 0 then 1 else 0) ∧
      (t.port port).fbAt = max s.clock (s.port port).fbAt + 2000000 * s.get (pPORT port) F.PORT.FBT.FBT ∧
      t.clock = max s.clock (s.port port).fbAt) ∧
  (∀ (clk port : Nat) (s : State), (port < 22) → (s.get (pPORT port) F.PORT.CFG.LOOP ≠ 1) →
    ∃ t, exec (.pcsLockLoss clk port) s = .next t ∧
      (t.port port).lock = false ∧
      (t.port port).leaving = none ∧
      ((t.port port).since = if (s.port port).lock then max s.clock clk else (s.port port).since))

/-- O32. R323, R324: PAUSE is sent when INUSE reaches HWM and again while it stays at LWM, and a received PAUSE holds the port back
until its time has passed. -/
def Obligations.PortPause : Prop :=
  (∀ (clk port : Nat) (u : State) (s : State), (port < 22) → ((s.advance clk).settle port = u) → (u.pauseReady port = true) → (u.get (pPORT port) F.PORT.STS.TX_PAUSING = 0) → (u.get (pPORT port) F.PORT.WM.HWM ≤ u.inUse port) →
    ∃ t, exec (.pauseSend clk port) s = .next t ∧
      t.get (pPORT port) F.PORT.STS.TX_PAUSING = 1 ∧
      ((t.port port).leaving.map (fun l : Leaving => l.fr)) = some (u.pauseFrame (u.get (pPORT port) F.PORT.PAUSE.QUANTA)) ∧
      t.get (pPORT port) ⟨0x0C, 12, 1⟩ = 1 ∧
      (t.port port).txPauseAt = some (u.now + u.quantaTime port (u.get (pPORT port) F.PORT.PAUSE.QUANTA) / 2) ∧
      t.sw = u.sw) ∧
  (∀ (port e : Nat) (u : State) (s : State), (port < 22) → ((s.port port).txPauseAt = some e) → ((s.advanceT e).settle port = u) → (u.pauseReady port = true) → (u.pauseMore port = true) →
    ∃ t, exec (.pauseRepeat port) s = .next t ∧
      ((t.port port).leaving.map (fun l : Leaving => l.fr)) = some (u.pauseFrame (u.get (pPORT port) F.PORT.PAUSE.QUANTA)) ∧
      (t.port port).txPauseAt = some (u.now + u.quantaTime port (u.get (pPORT port) F.PORT.PAUSE.QUANTA) / 2) ∧
      t.clock = max s.clock (s.clockOf e)) ∧
  (∀ (clk port quanta : Nat) (s : State), (7 ≤ port ∧ port < 22) → (s.running (pPORT port) = true) → (s.get (pPORT port) F.PORT.CFG.RX_PAUSE = 1) →
    ∃ t, exec (.pauseRx clk port quanta) s = .next t ∧
      (t.get (pPORT port) F.PORT.STS.RX_PAUSED = if quanta = 0 then 0 else 1) ∧
      ((t.port port).rxPauseEnd = if quanta = 0 then none else some ((s.advance clk).now + s.quantaTime port quanta)) ∧
      t.get (pPORT port) (portCtr 7) = (s.get (pPORT port) (portCtr 7) + 1) % 2 ^ 64) ∧
  (∀ (port e : Nat) (s : State), (port < 22) → ((s.port port).rxPauseEnd = some e) →
    ∃ t, exec (.pauseExpire port) s = .next t ∧
      t.get (pPORT port) F.PORT.STS.RX_PAUSED = 0 ∧
      (t.port port).rxPauseEnd = none ∧
      t.clock = max s.clock (s.clockOf e))

/-- O33. R316, R318, R319, R321, R328: the gate list moves to its next entry and swaps its banks, the head of a queue starts where
the rules let it, and a snapshot copies the counters. -/
def Obligations.PortGatesAndStarts : Prop :=
  (∀ (port : Nat) (s : State), (port < 22) → (s.running (pPORT port) = true) → (s.gclRuns port = true) →
    ∃ t, exec (.gclEntryChange port) s = .next t ∧
      let at1 := s.now + (s.gatesAt port s.now).2.1
      (t.port port).gates = (s.gatesAt port at1).1 ∧
      (t.port port).entry = (s.gatesAt port at1).2.2 ∧
      t.clock = max s.clock (s.clockOf at1)) ∧
  (∀ (clk port : Nat) (s : State), (port < 22) → ((s.advance clk).accepts (pPORT port) = true) → (s.get (pPORT port) F.PORT.GCL_CFG.SWAP = 0) →
    ∃ t, exec (.gclSwapWrite clk port) s = .next t ∧
      (if s.gclSum port (1 - s.gclActive port) = (s.gclCycle port).2 then t.get (pPORT port) F.PORT.GCL_CFG.SWAP = 1 ∧ (t.port port).swapAfter = some (s.advance clk).now else t.get (pPORT port) F.PORT.GCL_CFG.SWAP = 0 ∧ t.get (pPORT port) F.HDR.PSTS.CODE = 0x11 ∧ t.get (pPORT port) F.HDR.PSTS.INDEX = 1 - s.gclActive port ∧ t.get (pPORT port) F.HDR.PSTS.REFUSED = 1)) ∧
  (∀ (port e : Nat) (s : State), (port < 22) → ((s.port port).swapAfter = some e) →
    ∃ t, exec (.gclSwapApply port) s = .next t ∧
      let at1 := listStart (s.gclCycle port).1 (s.gclCycle port).2 e + (s.gclCycle port).2
      t.get (pPORT port) F.PORT.GCL_CFG.ACTIVE = 1 - s.gclActive port ∧
      t.get (pPORT port) F.PORT.GCL_CFG.SWAP = 0 ∧
      t.get (pPORT port) ⟨0x0C, 13, 1⟩ = 1 ∧
      (t.port port).swapAfter = none ∧
      t.clock = max s.clock (s.clockOf at1)) ∧
  (∀ (clk port q : Nat) (qs : List Nat) (x : QFrame) (rd : TxRead) (u : State) (s : State), (port < 22) → (rd.errs = []) → ((if port = 2 ∨ port = 3 then (s.advance clk).noticesDue else s.advance clk).stampsDue.settle port = u) → ((u.port port).back = []) → (u.pauseReady port = false) → (u.txReady port u.now = true) → (u.txOrder port u.now = q :: qs) → (u.sw.txq.find? (fun y : QFrame => y.port == port && y.q == q) = some x) → (u.tooOld u.now x = false) → (u.mayStart port u.now (u.portWire port (u.egressTag port x)) x = true) → (u.secHeld port x.fr = false) → (s.running pMACSEC = false) →
    ∃ t, exec (.portTxStart clk ⟨port, rd⟩) s = .next t ∧
      t.sw.txq = u.sw.txq.erase x ∧
      ((t.port port).leaving.map (fun y : Leaving => (y.q, y.point, y.stomp))) = some (x, u.raw + u.byteTime port 8, false)) ∧
  (∀ (clk port : Nat) (s : State), (port < 22) → ((s.advance clk).accepts (pPORT port) = true) →
    ∃ t, exec (.portSnap clk port false) s = .next t ∧
      let u := (s.advance clk).settle port
      (∀ i, i < 20 → t.get (pPORT port) (F.PORT.SNAPCNT.COUNT.at (8 * i)) = (u.get (pPORT port) (portCtr i) + 2 ^ 64 - u.countedNow port i) % 2 ^ 64) ∧
      t.get (pPORT port) F.PORT.SNAP_T.T = (s.advance clk).now % 2 ^ 64 ∧
      t.get (pPORT port) ⟨0x0C, 17, 1⟩ = 1)

/-- O34. R335, R365: the commands of the FDB page, and the ageing of a learned entry. -/
def Obligations.ForwardingDatabase : Prop :=
  (∀ (clk index : Nat) (s : State), ((s.advance clk).accepts pFDB = true) →
    ∃ t, exec (.fdbRead clk index) s = .next t ∧
      let e := s.fdbAt (index % 8192)
      t.get pFDB F.FDB.KEY_LO.MAC_LO = e.mac % 2 ^ F.FDB.KEY_LO.MAC_LO.w ∧
      t.get pFDB F.FDB.KEY_HI.MAC_HI = e.mac / 2 ^ 32 % 2 ^ F.FDB.KEY_HI.MAC_HI.w ∧
      t.get pFDB F.FDB.ENTRY.VALID = bit e.valid ∧
      t.get pFDB F.FDB.ENTRY.DEST = e.dest % 2 ^ F.FDB.ENTRY.DEST.w ∧
      t.get pFDB F.FDB.RESULT.OUTCOME = 0 ∧
      t.get pFDB F.FDB.RESULT.INDEX = index % 8192 ∧
      t.get pFDB F.FDB.CMD.GO = 0 ∧
      t.get pFDB ⟨0x0C, 8, 1⟩ = 1 ∧
      t.sw = s.sw) ∧
  (∀ (clk i : Nat) (s : State), ((s.advance clk).accepts pFDB = true) → (s.fdbFind s.fdbKey.1 s.fdbKey.2 = some i) →
    ∃ t, exec (.fdbLookup clk) s = .next t ∧
      t.get pFDB F.FDB.ENTRY.DEST = (s.fdbAt i).dest % 2 ^ F.FDB.ENTRY.DEST.w ∧
      t.get pFDB F.FDB.ENTRY.STATIC = bit (s.fdbAt i).fixed ∧
      t.get pFDB F.FDB.RESULT.OUTCOME = 0 ∧
      t.get pFDB F.FDB.RESULT.INDEX = i % 2 ^ F.FDB.RESULT.INDEX.w ∧
      t.sw = s.sw) ∧
  (∀ (clk : Nat) (s : State), ((s.advance clk).accepts pFDB = true) → (s.fdbFind s.fdbKey.1 s.fdbKey.2 = none) →
    ∃ t, exec (.fdbLookup clk) s = .next t ∧
      t.get pFDB F.FDB.RESULT.OUTCOME = 1 ∧
      t.get pFDB F.FDB.CMD.GO = 0 ∧
      t.sw = s.sw) ∧
  (∀ (clk i : Nat) (s : State), ((s.advance clk).accepts pFDB = true) → (s.fdbFind s.fdbKey.1 s.fdbKey.2 = none) → (s.fdbFree s.fdbKey.1 s.fdbKey.2 = some i) → (s.get pFDB F.FDB.ENTRY.VALID = 1) →
    ∃ t, exec (.fdbWrite clk) s = .next t ∧
      t.fdbAt i = (⟨true, s.flag pFDB F.FDB.ENTRY.STATIC, s.flag pFDB F.FDB.ENTRY.GROUP, s.fdbKey.1, s.fdbKey.2, s.get pFDB F.FDB.ENTRY.DEST, max s.clock clk⟩ : FdbEnt) ∧
      t.get pFDB F.FDB.RESULT.OUTCOME = 0 ∧
      t.get pFDB F.FDB.RESULT.INDEX = i % 2 ^ F.FDB.RESULT.INDEX.w) ∧
  (∀ (clk i : Nat) (s : State), ((s.advance clk).accepts pFDB = true) → (s.fdbFind s.fdbKey.1 s.fdbKey.2 = some i) →
    ∃ t, exec (.fdbDelete clk) s = .next t ∧
      t.fdbAt i = fdbNone ∧
      t.get pFDB F.FDB.RESULT.OUTCOME = 0) ∧
  (∀ (clk : Nat) (s : State), ((s.advance clk).accepts pFDB = true) →
    ∃ t, exec (.fdbFlushDest clk) s = .next t ∧
      t.sw.fdb = s.sw.fdb.filter (fun p : Nat × FdbEnt => p.2.fixed || (p.2.dest &&& s.get pFDB F.FDB.ENTRY.DEST) == 0) ∧
      t.get pFDB F.FDB.CMD.GO = 0 ∧
      t.get pFDB ⟨0x0C, 8, 1⟩ = 1) ∧
  (∀ (clk : Nat) (s : State), ((s.advance clk).accepts pFDB = true) →
    ∃ t, exec (.fdbFlushAll clk) s = .next t ∧
      t.sw.fdb = s.sw.fdb.filter (fun p : Nat × FdbEnt => p.2.fixed) ∧
      t.get pFDB F.FDB.CMD.GO = 0 ∧
      t.get pFDB ⟨0x0C, 8, 1⟩ = 1) ∧
  (∀ (clk op : Nat) (s : State), ((s.advance clk).accepts pFDB = true) →
    ∃ t, exec (.fdbCmdReserved clk op) s = .next t ∧
      t.get pFDB F.FDB.RESULT.OUTCOME = 3 ∧
      t.get pFDB F.FDB.CMD.GO = 0 ∧
      t.sw = s.sw) ∧
  (∀ (index : Nat) (s : State), ((s.fdbAt index).valid = true) → ((s.fdbAt index).fixed = false) → (s.running pFDB = true) → (s.held pFDB = false) → (s.flag pFDB F.FDB.CFG.LEARN_EN = true) →
    ∃ t, exec (.fdbAgeExpire index) s = .next t ∧
      t.fdbAt index = fdbNone ∧
      t.get pFDB F.FDB.AGED.COUNT = (s.get pFDB F.FDB.AGED.COUNT + 1) % 2 ^ F.FDB.AGED.COUNT.w ∧
      t.clock = max s.clock ((s.fdbAt index).seen + 2000000000 * s.get pFDB F.FDB.CFG.AGE_TIME))

/-- O35. R312, R344, R349–R352, R358: a received frame is counted by the test it fails or as received, duplicate entries leave at
DD_TIME, and banks of the buffer memory fail, are rebuilt and are scrubbed; TX_AN changes at a frame boundary. -/
def Obligations.SwitchReceptionAndBuffer : Prop :=
  (∀ (clk port i : Nat) (fr : Frame) (chk : RxCheck) (s : State), (port < 22) → (s.running (pPORT port) = true) → (s.linkUp port = true) → (s.rxTest port fr chk = some i) →
    ∃ t, exec (.portRxFrame clk port fr chk) s = .next t ∧
      t.get (pPORT port) (portCtr i) = (s.get (pPORT port) (portCtr i) + 1) % 2 ^ 64 ∧
      t.get (pPORT port) (portCtr 0) = s.get (pPORT port) (portCtr 0)) ∧
  (∀ (clk port : Nat) (fr : Frame) (chk : RxCheck) (s : State), (port < 22) → (s.running (pPORT port) = true) → (s.linkUp port = true) → (s.rxTest port fr chk = none) → (fr.etype ≠ 0x8808) →
    ∃ t, exec (.portRxFrame clk port fr chk) s = .next t ∧
      t.get (pPORT port) (portCtr 0) = (s.get (pPORT port) (portCtr 0) + 1) % 2 ^ 64 ∧
      t.get (pPORT port) (portCtr 1) = (s.get (pPORT port) (portCtr 1) + flen fr) % 2 ^ 64) ∧
  (∀ (e : HsrEnt) (l : List HsrEnt) (s : State), (s.sw.hsr = e :: l) →
    ∃ t, exec (.hsrEntryExpire) s = .next t ∧
      t.clock = max s.clock (e.born + 2000 * s.get pHSR F.HSR.DD_TIME.TIME) ∧
      (∀ x ∈ t.sw.hsr, t.clock < x.born + 2000 * t.get pHSR F.HSR.DD_TIME.TIME)) ∧
  (∀ (clk bank : Nat) (s : State), (bank < 9) → ((s.advance clk).accepts pBUFMEM = true) →
    ∃ t, exec (.bufmemFailBank clk bank) s = .next t ∧
      t.get pBUFMEM F.BUFMEM.STS.FAILED = s.get pBUFMEM F.BUFMEM.STS.FAILED ||| 2 ^ bank ∧
      t.get pBUFMEM F.BUFMEM.CTL.BANK = bank ∧
      t.get pBUFMEM ⟨0x0C, 10, 1⟩ = 1) ∧
  (∀ (clk bank : Nat) (s : State), (bank < 9) → ((s.advance clk).accepts pBUFMEM = true) → (natBit (s.get pBUFMEM F.BUFMEM.STS.FAILED) bank = true) → (s.sw.rebuild = none) →
    ∃ t, exec (.bufmemRebuild clk bank) s = .next t ∧
      t.sw.rebuild = some bank ∧
      t.get pBUFMEM F.BUFMEM.STS.REBUILDING = 1 ∧
      t.get pBUFMEM F.BUFMEM.STS.RB_BANK = bank) ∧
  (∀ (clk bank : Nat) (ok : Bool) (s : State), (bank < 9) → (s.sw.rebuild = some bank) →
    ∃ t, exec (.bufmemRebuildDone clk ok) s = .next t ∧
      t.sw.rebuild = none ∧
      t.get pBUFMEM F.BUFMEM.STS.REBUILDING = 0 ∧
      natBit (t.get pBUFMEM F.BUFMEM.STS.FAILED) bank = (natBit (s.get pBUFMEM F.BUFMEM.STS.FAILED) bank && !ok) ∧
      (t.get pBUFMEM ⟨0x0C, if ok then 11 else 14, 1⟩ = 1)) ∧
  (∀ (clk k : Nat) (s : State), (k < 9) → (s.running pBUFMEM = true) → (s.get pBUFMEM F.BUFMEM.CFG.SCRUB_EN = 1) → (natBit (s.get pTALLY F.TALLY.STS.SHED) 0 = false) → (s.sw.scrubAt + 2000 * s.get pBUFMEM F.BUFMEM.SCRUB.INT ≤ max s.clock clk) → (natBit (s.get pBUFMEM F.BUFMEM.STS.FAILED) k = false) →
    ∃ t, exec (.bufmemScrub clk ⟨[(0, k, false)]⟩) s = .next t ∧
      t.get pBUFMEM (F.BUFMEM.CE.COUNT.at (4 * k)) = (s.get pBUFMEM (F.BUFMEM.CE.COUNT.at (4 * k)) + 1) % 2 ^ F.BUFMEM.CE.COUNT.w ∧
      t.get pBUFMEM ⟨0x0C, 8, 1⟩ = 1 ∧
      t.sw.scrubCell = (s.sw.scrubCell + 1) % 16384) ∧
  (∀ (clk port an : Nat) (s : State), (port < 7) → ((s.advance clk).accepts pMACSEC = true) →
    ∃ t, exec (.macsecTxAnWrite clk port an) s = .next t ∧
      (if s.protected port = true then t.sw.txAn = tabPut txAnDefault s.sw.txAn port (if an % 4 = s.get pMACSEC (msf F.MACSEC.CTL.TX_AN port) then 4 else an % 4) ∧ t.regs = s.regs else t.get pMACSEC (msf F.MACSEC.CTL.TX_AN port) = an % 4 ∧ t.get pMACSEC (msf F.MACSEC.TX_PN.PN port) = s.get pMACSEC (msf (if an % 4 = s.get pMACSEC (msf F.MACSEC.CTL.TX_AN port) then F.MACSEC.TX_PN.PN else F.MACSEC.NEXT_PN.PN) port))) ∧
  (∀ (clk port an : Nat) (s : State), (port < 7) → (tabGet txAnDefault s.sw.txAn port = an) → (an < 4) →
    ∃ t, exec (.macsecTxAnApply clk port) s = .next t ∧
      t.get pMACSEC (msf F.MACSEC.CTL.TX_AN port) = an ∧
      t.get pMACSEC (msf F.MACSEC.TX_PN.PN port) = s.get pMACSEC (msf F.MACSEC.NEXT_PN.PN port) ∧
      tabGet txAnDefault t.sw.txAn port = 4)

/-- O36. R32, R377–R380, R388, R392: a host access through BAR2 is served inside the hub or carried to another hub, the transmit
ring is fetched and its frames leave, and the PCIe link comes and goes. -/
def Obligations.HostAccesses : Prop :=
  (∀ (clk off tag : Nat) (s : State), (off < 2 ^ 32) → (s.coreOn = true ∧ s.bridge.linkUp = true) → (s.running pWINDOWS = true) → (s.bridge.blocked = [] ∧ s.bridge.rh = []) → (s.mustWait (hostReqAt off 8 tag true []) = false) → (natBit (s.winReg (winOf off)) 31 = true ∧ natField (s.winReg (winOf off)) 20 9 = 0) → (natBit (s.get pWINDOWS F.WINDOWS.WINSTS.ERR) (winOf off) = false) → (adrNode (winAddr (s.winReg (winOf off)) off) = s.nid ∧ adrMember (winAddr (s.winReg (winOf off)) off) = s.member) → (rangeOf (adrLocal (winAddr (s.winReg (winOf off)) off)) = Range.book) → (off % 8 = 0) →
    ∃ t, exec (.hostBar2Read clk off 8 tag) s = .next t ∧
      t.bridge.out = s.bridge.out ++ [HostMsg.completion tag (s.ldBytes (adrLocal (winAddr (s.winReg (winOf off)) off)) 8)] ∧
      t.mem = s.mem ∧ t.regs = s.regs) ∧
  (∀ (clk off len tag : Nat) (s : State), (off < 2 ^ 32) → (s.coreOn = true ∧ s.bridge.linkUp = true) → (s.running pWINDOWS = true) → (s.bridge.blocked = [] ∧ s.bridge.rh = []) → (s.mustWait (hostReqAt off len tag true []) = false) → (natBit (s.winReg (winOf off)) 31 = true ∧ natField (s.winReg (winOf off)) 20 9 = 0) → (natBit (s.get pWINDOWS F.WINDOWS.WINSTS.ERR) (winOf off) = false) → (adrNode (winAddr (s.winReg (winOf off)) off) ≠ 0 ∧ adrNode (winAddr (s.winReg (winOf off)) off) ≠ s.nid ∧ adrNode (winAddr (s.winReg (winOf off)) off) < 128) →
    ∃ t, exec (.hostBar2Read clk off len tag) s = .next t ∧
      t.bridge.reads = s.bridge.reads ++ [(⟨tag, winAddr (s.winReg (winOf off)) off, len, (blocksOf (winAddr (s.winReg (winOf off)) off) (List.replicate len (some 0))).length, []⟩ : HostRead)] ∧
      t.bridge.outstanding.length = s.bridge.outstanding.length + (blocksOf (winAddr (s.winReg (winOf off)) off) (List.replicate len (some 0))).length ∧
      t.bridge.out = s.bridge.out) ∧
  (∀ (clk off : Nat) (b0 b1 b2 b3 : Byte) (s : State), (off < 2 ^ 32) → (s.coreOn = true ∧ s.bridge.linkUp = true) → (s.running pWINDOWS = true) → (s.bridge.blocked = [] ∧ s.bridge.rh = []) → (s.mustWait { hostReqAt off 4 0 false [some b0, some b1, some b2, some b3] with win := s.winReg (winOf off) } = false) → (natBit (s.winReg (winOf off)) 31 = true ∧ natBit (s.winReg (winOf off)) 29 = false ∧ natField (s.winReg (winOf off)) 20 9 = 0) → (natBit (s.get pWINDOWS F.WINDOWS.WINSTS.ERR) (winOf off) = false) → (adrNode (winAddr (s.winReg (winOf off)) off) = s.nid ∧ adrMember (winAddr (s.winReg (winOf off)) off) = s.member) → (adrLocal (winAddr (s.winReg (winOf off)) off) = 0x1000000 + pDATUM * 4096 + 0x58) → ((s.advance clk).accepts pDATUM = true) →
    ∃ t, exec (.hostBar2Write clk off [some b0, some b1, some b2, some b3]) s = .next t ∧
      t.get pDATUM F.DATUM.STEP_LIMIT.LIMIT = ofLE [b0, b1, b2, b3] ∧
      t.bridge = s.bridge) ∧
  (∀ (clk off : Nat) (data : List (Option Byte)) (s : State), (off < 2 ^ 32) → (s.coreOn = true ∧ s.bridge.linkUp = true) → (s.running pWINDOWS = true) → ((s.bridge.blocked.filter (fun x : HostReq => !x.isRead)).length < 64) → (s.held pBRIDGE = true ∨ s.bridge.blocked = []) → (s.mustWait { hostReqAt off data.length 0 false data with win := s.winReg (winOf off) } = true) →
    ∃ t, exec (.hostBar2Write clk off data) s = .next t ∧
      t.bridge.blocked = s.bridge.blocked ++ [({ hostReqAt off data.length 0 false data with win := s.winReg (winOf off) } : HostReq)] ∧
      t.regs = s.regs) ∧
  (∀ (clk slot : Nat) (s : State), ((s.advance clk).accepts pBRIDGE = true) → (slot < 256) →
    ∃ t, exec (.hostTxTail clk slot) s = .next t ∧
      t.get pBRIDGE F.BRIDGE.TX_TAIL.SLOT = slot) ∧
  (∀ (clk n : Nat) (header frame : List Byte) (l : List Nat) (s : State), (s.bridge.txReads = n :: l) → (slotOk header frame = false) → (s.get pBRIDGE F.BRIDGE.TX_TAIL.SLOT ≠ (n + 1) % 2 ^ F.BRIDGE.TX_HEAD.SLOT.w) →
    ∃ t, exec (.hostTxSlotRead clk header frame) s = .next t ∧
      t.get pBRIDGE F.BRIDGE.TX_HEAD.SLOT = (n + 1) % 2 ^ F.BRIDGE.TX_HEAD.SLOT.w ∧
      t.get pBRIDGE F.BRIDGE.TXBAD.COUNT = (s.get pBRIDGE F.BRIDGE.TXBAD.COUNT + 1) % 2 ^ F.BRIDGE.TXBAD.COUNT.w ∧
      t.sw.txq = s.sw.txq) ∧
  (∀ (clk n : Nat) (header frame : List Byte) (l : List Nat) (s : State), (s.bridge.txReads = n :: l) → (slotOk header frame = true) → (s.get pBRIDGE F.BRIDGE.TX_TAIL.SLOT = (n + 1) % 2 ^ F.BRIDGE.TX_HEAD.SLOT.w) →
    ∃ t, exec (.hostTxSlotRead clk header frame) s = .next t ∧
      t.get pBRIDGE F.BRIDGE.TX_HEAD.SLOT = (n + 1) % 2 ^ F.BRIDGE.TX_HEAD.SLOT.w ∧
      t.get pBRIDGE ⟨0x0C, 11, 1⟩ = 1 ∧
      t.get pBRIDGE F.BRIDGE.TXBAD.COUNT = s.get pBRIDGE F.BRIDGE.TXBAD.COUNT) ∧
  (∀ (clk : Nat) (up : Bool) (s : State), (s.coreOn = true) → ((s.bridge.linkUp = up) = False) →
    ∃ t, exec (.pcieLinkChange clk up) s = .next t ∧
      t.bridge.linkUp = up ∧
      t.get pBRIDGE ⟨0x0C, 14, 1⟩ = 1)

/-- O37. R378–R385: a transaction that carries the expected sequence number is applied, replies and acknowledgements end what is
outstanding, and the waiting times and late-error notices run out. -/
def Obligations.RingTransactions : Prop :=
  (∀ (clk port node member : Nat) (tr : Trans) (i : Issuer) (s : State), (s.running pBRIDGE = true) → (s.bridge.issuers.find? (fun i : Issuer => i.node == node && i.member == member) = some i) → (i.expect = tr.tseq ∧ i.waiting = []) → (tr.tseq < 2 ^ 16) → (rangeOf (adrLocal tr.addr) = Range.book ∧ wordMask tr.mask = true) → (s.bridge.blocked = []) →
    ∃ t, exec (.mgmtRead clk port node member tr) s = .next t ∧
      t.bridge.issuers.head? = some (⟨node, member, (tr.tseq + 1) % 2 ^ 16, [], max s.clock clk⟩ : Issuer) ∧
      t.mem = s.mem) ∧
  (∀ (clk port node member : Nat) (tr : Trans) (i : Issuer) (s : State), (s.running pBRIDGE = true) → (s.bridge.issuers.find? (fun i : Issuer => i.node == node && i.member == member) = some i) → (i.expect = tr.tseq ∧ i.waiting = []) → (tr.tseq < 2 ^ 16) → (s.flag pBRIDGE F.BRIDGE.TGT.OPEN_WR = true) → (s.fencedMember = false ∧ adrNode tr.addr ≠ 0xFF ∧ adrMember tr.addr = s.member) → (adrLocal tr.addr = 0x1000000 + pDATUM * 4096 + 0x58 ∧ tr.mask = 15) → ((s.advance clk).accepts pDATUM = true) → (s.bridge.blocked = []) →
    ∃ t, exec (.mgmtPostedWrite clk port node member tr) s = .next t ∧
      t.get pDATUM F.DATUM.STEP_LIMIT.LIMIT = ofLE (slice tr.data 0 4) % 2 ^ 32 ∧
      t.bridge.issuers.head? = some (⟨node, member, (tr.tseq + 1) % 2 ^ 16, [], max s.clock clk⟩ : Issuer) ∧
      t.sw = s.sw) ∧
  (∀ (clk port node member : Nat) (tr : Trans) (i : Issuer) (s : State), (s.running pBRIDGE = true) → (s.bridge.issuers.find? (fun i : Issuer => i.node == node && i.member == member) = some i) → (i.expect = tr.tseq ∧ i.waiting = []) → (tr.tseq < 2 ^ 16) → (s.flag pBRIDGE F.BRIDGE.TGT.OPEN_WR = false ∧ s.protected port = false) → (s.fencedMember = false ∧ adrNode tr.addr ≠ 0xFF ∧ adrMember tr.addr = s.member) → (adrLocal tr.addr = 0x1000000 + pDATUM * 4096 + 0x58 ∧ tr.mask = 15) → (s.bridge.gather = []) → (s.bridge.blocked = []) →
    ∃ t, exec (.mgmtPostedWrite clk port node member tr) s = .next t ∧
      t.get pDATUM F.DATUM.STEP_LIMIT.LIMIT = s.get pDATUM F.DATUM.STEP_LIMIT.LIMIT ∧
      t.bridge.gather = [(⟨node, member, [(⟨tr.addr, 5, (s.advance clk).now⟩ : LateErr)], s.clockOf ((s.advance clk).now + 2000)⟩ : Gather)]) ∧
  (∀ (clk port node member : Nat) (tr : Trans) (i : Issuer) (s : State), (s.running pBRIDGE = true) → (s.bridge.issuers.find? (fun i : Issuer => i.node == node && i.member == member) = some i) → (i.expect = tr.tseq ∧ i.waiting = []) → (tr.tseq < 2 ^ 16) → (s.flag pBRIDGE F.BRIDGE.TGT.OPEN_WR = true) → (s.fencedMember = false ∧ adrNode tr.addr ≠ 0xFF ∧ adrMember tr.addr = s.member) → (adrLocal tr.addr = 0x1000000 + pDATUM * 4096 + 0x58 ∧ tr.mask = 15) → ((s.advance clk).accepts pDATUM = true) → (s.bridge.blocked = []) →
    ∃ t, exec (.mgmtNpWrite clk port node member tr) s = .next t ∧
      t.get pDATUM F.DATUM.STEP_LIMIT.LIMIT = ofLE (slice tr.data 0 4) % 2 ^ 32 ∧
      t.bridge.issuers.head? = some (⟨node, member, (tr.tseq + 1) % 2 ^ 16, [], max s.clock clk⟩ : Issuer) ∧
      t.bridge.gather = s.bridge.gather) ∧
  (∀ (clk : Nat) (tr : Trans) (o : Outst) (s : State), (s.running pBRIDGE = true) → (s.outOf tr.tag false = some o) → (s.bridge.blocked = []) → (o.win < 16) →
    ∃ t, exec (.mgmtWriteAck clk tr) s = .next t ∧
      t.bridge.outstanding = s.bridge.outstanding.filter (fun x : Outst => x.tag != o.tag) ∧
      (t.get pWINDOWS F.WINDOWS.WINSTS.ERR = if tr.status = 0 then s.get pWINDOWS F.WINDOWS.WINSTS.ERR else natPut (s.get pWINDOWS F.WINDOWS.WINSTS.ERR) o.win 1 1) ∧
      (tr.status ≠ 0 → t.get pBRIDGE ⟨0x0C, 8, 1⟩ = 1)) ∧
  (∀ (clk : Nat) (tr : Trans) (s : State), (s.running pBRIDGE = true) → (s.outOf tr.tag false = none) →
    ∃ t, exec (.mgmtWriteAck clk tr) s = .next t ∧
      t.get pBRIDGE F.BRIDGE.LATE_CPL.COUNT = (s.get pBRIDGE F.BRIDGE.LATE_CPL.COUNT + 1) % 2 ^ F.BRIDGE.LATE_CPL.COUNT.w ∧
      t.bridge = s.bridge) ∧
  (∀ (clk : Nat) (tr : Trans) (o : Outst) (r : HostRead) (s : State), (s.running pBRIDGE = true) → (s.outOf tr.tag true = some o) → (s.bridge.reads.find? (fun r : HostRead => r.tag == o.hostTag) = some r) → (r.missing = 1) →
    ∃ t, exec (.mgmtReadCompletion clk tr) s = .next t ∧
      t.bridge.outstanding = s.bridge.outstanding.filter (fun x : Outst => x.tag != o.tag) ∧
      t.bridge.reads = s.bridge.reads.filter (fun x : HostRead => x.tag != o.hostTag) ∧
      t.bridge.out = s.bridge.out ++ [HostMsg.completion o.hostTag (gatherBytes r.addr r.len (r.bytes ++ blockBytes o.addr tr.data))] ∧
      t.regs = s.regs) ∧
  (∀ (node member port due : Nat) (tr : Trans) (i : Issuer) (s : State), (s.bridge.issuers.find? (fun i : Issuer => i.node == node && i.member == member) = some i) → (i.waiting = [(tr, port, due)]) → (tr.op = 0x10 ∧ rangeOf (adrLocal tr.addr) = Range.book ∧ wordMask tr.mask = true) → (s.bridge.blocked = []) →
    ∃ t, exec (.ordWaitExpire node member) s = .next t ∧
      t.get pBRIDGE F.BRIDGE.ORD_LOST.COUNT = (s.get pBRIDGE F.BRIDGE.ORD_LOST.COUNT + seqAhead i.expect tr.tseq) % 2 ^ F.BRIDGE.ORD_LOST.COUNT.w ∧
      t.bridge.issuers.head? = some ({ i with expect := (tr.tseq + 1) % 2 ^ 16, waiting := [] } : Issuer) ∧
      t.clock = max s.clock due) ∧
  (∀ (tag : Nat) (o : Outst) (s : State), (s.bridge.outstanding.find? (fun o : Outst => o.tag == tag) = some o) → (o.isRead = true ∨ s.bridge.blocked = []) → (o.win < 16) →
    ∃ t, exec (.npTimeout tag) s = .next t ∧
      t.bridge.outstanding = s.bridge.outstanding.filter (fun x : Outst => x.tag != tag) ∧
      t.get pBRIDGE F.BRIDGE.NPTO.COUNT = (s.get pBRIDGE F.BRIDGE.NPTO.COUNT + 1) % 2 ^ F.BRIDGE.NPTO.COUNT.w ∧
      t.get pBRIDGE ⟨0x0C, 9, 1⟩ = 1 ∧
      (t.get pWINDOWS F.WINDOWS.WINSTS.ERR = if o.isRead then s.get pWINDOWS F.WINDOWS.WINSTS.ERR else natPut (s.get pWINDOWS F.WINDOWS.WINSTS.ERR) o.win 1 1) ∧
      t.clock = max s.clock o.due) ∧
  (∀ (node member : Nat) (g : Gather) (s : State), (s.bridge.gather.find? (fun x : Gather => x.node == node && x.member == member) = some g) →
    ∃ t, exec (.noticeLateErrorSend node member) s = .next t ∧
      t.bridge.gather = s.bridge.gather.filter (fun x : Gather => !(x.node == g.node && x.member == g.member)) ∧
      t.clock = max s.clock g.due) ∧
  (∀ (clk node member w : Nat) (e : LateErr) (s : State), (s.running pBRIDGE = true) → (s.bridge.llog.length < 32) → ((List.range 16).filter (fun w : Nat => natBit (s.winReg w) 31 && natField (s.winReg w) 0 20 == e.addr / 2 ^ 28) = [w]) →
    ∃ t, exec (.noticeLateErrorRx clk node member [e]) s = .next t ∧
      t.bridge.llog = s.bridge.llog ++ [(⟨e.addr, e.reason, w, e.t⟩ : LogEnt)] ∧
      t.get pBRIDGE ⟨0x0C, 8, 1⟩ = 1) ∧
  (∀ (clk node member group : Nat) (pend : List Word) (s : State),
    ∃ t, exec (.noticeGroupRx clk node member group pend) s = .next t ∧
      t = s.advance clk) ∧
  (∀ (clk node member : Nat) (payload : List Byte) (s : State),
    ∃ t, exec (.noticeLastGaspRx clk node member payload) s = .next t ∧
      t = s.advance clk)

/-- O38. R8, R9, R35, R49, R50, R67, R70, R386, R392: a write of a register stores its writable bits and nothing else, but for W1C bits that
the hub sets in the same cycle, an unassigned offset is an address error, the event registers of a page follow their rules, and a write of
the host waits while the bridge is held. `u` is the state as the access finds it, once the lines and the drains are up to the clock. -/
def Obligations.RegisterWrites : Prop :=
  (∀ (clk page off : Nat) (data : Word) (src : Source) (r : RegRow) (fam : Fam) (u : State) (s : State), (famOf page = some fam) → (famOf page ∈ [some Fam.edge, some Fam.plat, some Fam.mscl, some Fam.book, some Fam.windows, some Fam.switch, some Fam.hsr, some Fam.capture, some Fam.slot]) → (0x40 ≤ off ∧ off < 4096) → (rowAt page off = some r) → (r.wn = 1) → ((s.advance clk).pageNow fam page = u) → (u.accepts page = true) → (s.bar0Held page src = false ∧ s.bridge.blocked = []) →
    ∃ t, exec (.registerWrite clk page off data src) s = .next t ∧
      t.rd page off = ((u.rd page off &&& ~~~u.writable page r) ||| (data &&& u.writable page r)) &&& ~~~(w32 r.w1c &&& data &&& ~~~u.setNow page off) ∧
      (∀ k : Nat, k ≠ regKey page off → tabGet regDefault t.regs k = tabGet regDefault u.regs k)) ∧
  (∀ (clk page off : Nat) (data : Word) (src : Source) (s : State), (s.bar0Held page src = true) → (s.bridge.linkUp = true) → ((s.bridge.blocked.filter (fun x : HostReq => !x.isRead)).length < 64) → (page < 4096 ∧ off < 4096) →
    ∃ t, exec (.registerWrite clk page off data src) s = .next t ∧
      t.bridge.blocked = s.bridge.blocked ++ [(⟨0x1000000 + 4096 * page + off, 4, 0, false, (leBytes 4 data.toNat).map some, 0, true⟩ : HostReq)] ∧
      t.regs = s.regs ∧ t.mem = s.mem) ∧
  (∀ (clk page off : Nat) (data : Word) (src : Source) (run : PageRun) (s : State), (s.bar0Held page src = false ∧ s.bridge.blocked = []) → (s.coreOn = true) → (page < 4096 ∧ off < 4096) → (runOf page = some run) → (rowAt page off = none) → (s.flag pSYS F.SYS.AERR_HI.VALID = false) →
    ∃ t, exec (.registerWrite clk page off data src) s = .next t ∧
      t.get pSYS F.SYS.AERR_HI.VALID = 1 ∧
      t.get pSYS F.SYS.AERR_HI.SOURCE = srcCode src ∧
      t.get pSYS ⟨0x0C, 8, 1⟩ = 1 ∧
      (∀ q : Nat, 0 < q → q < 4096 → ∀ o : Nat, t.rd q o = s.rd q o)) ∧
  (∀ (clk page : Nat) (data : Word) (fam : Fam) (u : State) (s : State), (page ∈ allPages) → (famOf page = some fam) → ((s.advance clk).pageNow fam page = u) → (u.reaches page = true) →
    ∃ t, exec (.pevtClear clk page data) s = .next t ∧
      t.rd page 0x0C = u.rd page 0x0C &&& ~~~(data &&& 0xFFFFFF03 &&& ~~~u.setNow page 0x0C) ∧
      (∀ k : Nat, k ≠ regKey page 0x0C → tabGet regDefault t.regs k = tabGet regDefault u.regs k)) ∧
  (∀ (clk page : Nat) (data : Word) (fam : Fam) (u : State) (s : State), (page ∈ allPages) → (famOf page = some fam) → ((s.advance clk).pageNow fam page = u) → (u.accepts page = true) →
    ∃ t, exec (.pevtForce clk page data) s = .next t ∧
      t.rd page 0x0C = u.rd page 0x0C ||| (data &&& evMask fam) ∧
      (∀ k : Nat, k ≠ regKey page 0x0C → tabGet regDefault t.regs k = tabGet regDefault u.regs k)) ∧
  (∀ (clk page : Nat) (data : Word) (fam : Fam) (u : State) (s : State), (page ∈ allPages) → (famOf page = some fam) → ((s.advance clk).pageNow fam page = u) → (u.reaches page = true) →
    ∃ t, exec (.pevmWrite clk page data) s = .next t ∧
      t.rd page 0x10 = data ∧
      (∀ k : Nat, k ≠ regKey page 0x10 → tabGet regDefault t.regs k = tabGet regDefault u.regs k))

/-- O39. R51, R52, R59–R62, R65: a page is enabled, judged, stopped, held, reset, locked and faulted as chapter 2 says. -/
def Obligations.PageControl : Prop :=
  (∀ (clk page : Nat) (data : Word) (s : State), (page ∈ allPages ∧ alwaysOn page = false) → (s.accepts page = true) → (s.flag page F.HDR.PCTL.EN = false) → (natBit data.toNat 2 = false) → (s.page.stopping.contains page = false ∧ s.page.clearing.contains page = false) →
    ∃ t, exec (.pageEnable clk page data) s = .next t ∧
      t.get page F.HDR.PCTL.EN = 1 ∧
      t.get page F.HDR.PSTS.RUN = 0 ∧ t.get page F.HDR.PSTS.REFUSED = 0 ∧
      t.page.checks = s.page.checks ++ [page]) ∧
  (∀ (clk page : Nat) (serdes : Bool) (q u : State) (s : State), (page ∈ allPages ∧ alwaysOn page = false) → (s.page.checks = [page] ∧ s.page.held = [] ∧ s.boot.page ≠ some page) → (({ (s.advance clk).serdesNow serdes with page := { s.page with checks := [] } } : State) = q) → ((if page = pPLAT then q.set pPLAT F.PLAT.MINLEAD.MIN q.minLead else q) = u) → (u.checkPage page = none) →
    ∃ t, exec (.enableCheckEnd clk ⟨page, false, serdes⟩) s = .next t ∧
      t.get page F.HDR.PSTS.RUN = 1 ∧
      t.get page F.HDR.PSTS.CODE = 0 ∧ t.get page F.HDR.PSTS.INDEX = 0 ∧ t.get page F.HDR.PSTS.REFUSED = 0 ∧
      t.get page F.HDR.PSEQ.COUNT = (s.get page F.HDR.PSEQ.COUNT + 1) % 2 ^ F.HDR.PSEQ.COUNT.w ∧
      t.page.checks = []) ∧
  (∀ (clk page code index : Nat) (serdes : Bool) (q u : State) (s : State), (page ∈ allPages ∧ alwaysOn page = false) → (s.page.checks = [page] ∧ s.page.held = [] ∧ s.boot.page ≠ some page) → (({ (s.advance clk).serdesNow serdes with page := { s.page with checks := [] } } : State) = q) → ((if page = pPLAT then q.set pPLAT F.PLAT.MINLEAD.MIN q.minLead else q) = u) → (u.checkPage page = some (code, index)) →
    ∃ t, exec (.enableCheckEnd clk ⟨page, false, serdes⟩) s = .next t ∧
      t.get page F.HDR.PSTS.RUN = 0 ∧ t.get page F.HDR.PCTL.EN = 0 ∧
      t.get page F.HDR.PSTS.CODE = code % 2 ^ F.HDR.PSTS.CODE.w ∧ t.get page F.HDR.PSTS.INDEX = index % 2 ^ F.HDR.PSTS.INDEX.w ∧
      t.get page F.HDR.PSTS.REFUSED = 1 ∧ t.get page ⟨0x0C, 0, 1⟩ = 1 ∧
      t.page.checks = []) ∧
  (∀ (clk page : Nat) (data : Word) (s : State), (page ∈ allPages ∧ alwaysOn page = false) → (s.accepts page = true) → (s.flag page F.HDR.PCTL.EN = true) → (natBit data.toNat 2 = false) → (s.dependant page = none) →
    ∃ t, exec (.pageStop clk page data) s = .next t ∧
      t.get page F.HDR.PCTL.EN = 0 ∧
      t.get page F.HDR.PSTS.FAULT = 0 ∧ t.get page F.HDR.PSTS.REFUSED = 0 ∧
      t.page.stopping = s.page.stopping ++ [page]) ∧
  (∀ (clk page q : Nat) (data : Word) (s : State), (page ∈ allPages ∧ alwaysOn page = false) → (s.accepts page = true) → (s.flag page F.HDR.PCTL.EN = true) → (natBit data.toNat 2 = false) → (s.dependant page = some q) →
    ∃ t, exec (.pageStop clk page data) s = .next t ∧
      t.get page F.HDR.PCTL.EN = 1 ∧
      t.get page F.HDR.PSTS.REFUSED = 1 ∧ t.get page F.HDR.PSTS.CODE = 4 ∧ t.get page F.HDR.PSTS.INDEX = q % 256 ∧
      t.page.stopping = s.page.stopping) ∧
  (∀ (clk page : Nat) (s : State), (page ∈ allPages) → (s.page.stopping.contains page = true) →
    ∃ t, exec (.pageStopDone clk page) s = .next t ∧
      t.get page F.HDR.PSTS.RUN = 0 ∧ t.get page F.HDR.PSTS.HELD = 0 ∧
      t.page.stopping = s.page.stopping.filter (fun q : Nat => q != page)) ∧
  (∀ (clk page : Nat) (s : State), (page ∈ allPages ∧ alwaysOn page = false) → (s.accepts page = true) →
    ∃ t, exec (.pageHoldSet clk page) s = .next t ∧
      t.get page F.HDR.PCTL.HOLD = 1 ∧
      t.get page F.HDR.PCTL.EN = s.get page F.HDR.PCTL.EN ∧
      t.page = s.page) ∧
  (∀ (clk page : Nat) (q : State) (r : PageRun) (s : State), ((if famOf page = some Fam.port then (s.advance clk).settle (portOfPage page) else s.advance clk) = q) → (runOf page = some r) → (hasHold r.fam = true) → (q.running page = true ∧ q.holdSet page = true ∧ q.flag page F.HDR.PSTS.HELD = false ∧ q.atHold page = true) →
    ∃ t, exec (.pageHeldReached clk page) s = .next t ∧
      t.get page F.HDR.PSTS.HELD = 1 ∧
      t.get page F.HDR.PSTS.RUN = 1) ∧
  (∀ (clk page : Nat) (s : State), (page ∈ allPages ∧ alwaysOn page = false) → (s.accepts page = true) → (s.flag page F.HDR.PCTL.EN = true ∧ s.running page = true ∧ s.flag page F.HDR.PCTL.HOLD = true) → (famOf page = some Fam.eng → s.flag (pCREW ((page - 0x20) / 4)) F.HDR.PCTL.HOLD = false) → (page = pBRIDGE → s.bridge.blocked = []) →
    ∃ t, exec (.pageHoldClear clk page) s = .next t ∧
      t.get page F.HDR.PCTL.HOLD = 0 ∧
      t.get page F.HDR.PSTS.HELD = 0 ∧
      t.get page F.HDR.PSTS.RUN = 1) ∧
  (∀ (clk page : Nat) (s : State), (page ∈ allPages ∧ alwaysOn page = false) → (s.accepts page = true) → (s.page.clearing.contains page = false) → (s.dependant page = none) →
    ∃ t, exec (.pageClr clk page) s = .next t ∧
      t.get page F.HDR.PCTL.CLR = 1 ∧
      t.get page F.HDR.PCTL.EN = 0 ∧ t.get page F.HDR.PCTL.HOLD = 0 ∧
      t.page.clearing = s.page.clearing ++ [page]) ∧
  (∀ (clk page : Nat) (s : State), (famOf page ∈ [some Fam.edge, some Fam.windows, some Fam.switch, some Fam.fdb, some Fam.hsr, some Fam.capture, some Fam.mscl, some Fam.cycle, some Fam.stamp]) → (s.page.clearing.contains page = true) → (tabWf regDefault s.regs = true) →
    ∃ t, exec (.pageClrDone clk page) s = .next t ∧
      t.get page F.HDR.PCTL.CLR = 0 ∧
      t.page.clearing = s.page.clearing.filter (fun q : Nat => q != page) ∧
      (∀ off, off < 4096 → 0x40 ≤ off → t.rd page off = regDefault (regKey page off))) ∧
  (∀ (clk page : Nat) (s : State), (page ∈ allPages) → (s.page.clearing.contains page = true) →
    ∃ t, exec (.pageClrDone clk page) s = .next t ∧
      t.get page F.HDR.PCTL.CLR = 0 ∧
      t.page.clearing = s.page.clearing.filter (fun q : Nat => q != page)) ∧
  (∀ (clk page : Nat) (data : Word) (s : State), (page ∈ allPages ∧ alwaysOn page = false) → (s.accepts page = true) → (natBit data.toNat 2 = false) → (natBit data.toNat 0 = s.flag page F.HDR.PCTL.EN ∧ natBit data.toNat 1 = s.flag page F.HDR.PCTL.HOLD) →
    ∃ t, exec (.pageLock clk page data) s = .next t ∧
      t.get page F.HDR.PCTL.LOCK = 1 ∧
      t.get page F.HDR.PCTL.EN = s.get page F.HDR.PCTL.EN ∧
      t.page = s.page) ∧
  (∀ (clk page : Nat) (data : Word) (s : State), (page ∈ allPages ∧ alwaysOn page = false) → (s.accepts page = true) → (s.flag page F.HDR.PCTL.EN = false) → (natBit data.toNat 2 = false ∧ natBit data.toNat 0 = true) → (s.page.stopping.contains page = false ∧ s.page.clearing.contains page = false) →
    ∃ t, exec (.pageLock clk page data) s = .next t ∧
      t.get page F.HDR.PCTL.LOCK = 1 ∧ t.get page F.HDR.PCTL.EN = 1 ∧
      t.page.checks = s.page.checks ++ [page]) ∧
  (∀ (clk page : Nat) (s : State), (page ∈ allPages) → (s.running page = true ∧ s.flag page F.HDR.PSTS.FAULT = false) →
    ∃ t, exec (.blockFault clk page) s = .next t ∧
      t.get page F.HDR.PSTS.FAULT = 1 ∧
      t.get page ⟨0x0C, 1, 1⟩ = 1 ∧
      (t.get page F.HDR.PSTS.RUN = if famOf page = some Fam.eng then 0 else 1))

/-- O40. R396–R407: at its copy point a hub of a pair sends what it must, and the standby follows STATUS frames, records, notices and
heartbeats. -/
def Obligations.PairCopiesAndHeartbeats : Prop :=
  (∀ (cut : Bool) (n : Int) (s : State), (s.running pDUPLEX = true ∧ s.running pCYCLE = true) → (s.cycleAt (s.get pDUPLEX F.DUPLEX.COPY_AT.AT) s.dup.copied = n) →
    ∃ t, exec (.duplexCopyPoint cut) s = .next t ∧
      t.dup.copied = some n ∧
      t.clock = max s.clock (s.clockOf (s.cycPoint n (s.get pDUPLEX F.DUPLEX.COPY_AT.AT))) ∧
      (s.get pDUPLEX F.DUPLEX.STS.STATE = 1 → t.get pDUPLEX F.DUPLEX.REC_SENT.COUNT = (s.get pDUPLEX F.DUPLEX.REC_SENT.COUNT + 1) % 2 ^ F.DUPLEX.REC_SENT.COUNT.w) ∧
      (s.get pDUPLEX F.DUPLEX.STS.STATE = 2 ∧ cut = true → t.get pDUPLEX F.DUPLEX.REC_LOST.COUNT = (s.get pDUPLEX F.DUPLEX.REC_LOST.COUNT + 1) % 2 ^ F.DUPLEX.REC_LOST.COUNT.w ∧ t.get pDUPLEX ⟨0x0C, 10, 1⟩ = 1)) ∧
  (∀ (clk lane : Nat) (payload : List Byte) (k : Nat) (s : State), (s.running pDUPLEX = true) → ((nth payload 8 0).toNat % 16 = k) →
    ∃ t, exec (.backsightStatusRx clk lane payload) s = .next t ∧
      t.get pDUPLEX F.DUPLEX.PEER_SN.SN = ofBE (slice payload 0 8) % 2 ^ 64 ∧
      t.dup.heardEver = true ∧ t.dup.lastHeard = (s.advance clk).now ∧ t.dup.peerState = k ∧
      (s.get pDUPLEX F.DUPLEX.STS.STATE = 0 ∧ k = 1 → t.get pDUPLEX F.DUPLEX.STS.STATE = 2) ∧
      (s.get pDUPLEX F.DUPLEX.STS.STATE = 2 ∧ k = 1 ∧ lane = 0 ∧ (s.advance clk).inBeat = true → t.dup.heardA = true ∧ t.get pDUPLEX F.DUPLEX.STS.MISSED = 0)) ∧
  (∀ (clk : Nat) (rec : CycRecord) (s : State), (s.running pDUPLEX = true ∧ s.following = true) → (rec.len ≤ 65536) → (olderCyc (s.get pDUPLEX F.DUPLEX.APPLIED_CYC.CYCLE) rec.cycle = true) →
    ∃ t, exec (.cycleRecordApply clk rec) s = .next t ∧
      t.dup.applied = some rec ∧
      t.get pDUPLEX F.DUPLEX.APPLIED_CYC.CYCLE = rec.cycle % 2 ^ 32 ∧
      t.get pDUPLEX F.DUPLEX.REC_APPLIED.COUNT = (s.get pDUPLEX F.DUPLEX.REC_APPLIED.COUNT + 1) % 2 ^ F.DUPLEX.REC_APPLIED.COUNT.w ∧
      t.get pDUPLEX F.DUPLEX.STS.SYNCED = 1 ∧ t.get pDUPLEX F.DUPLEX.STS.SYNC_AGE = 0 ∧
      t.dup.log = s.dup.log.filter (fun n : Notice => decide (rec.tc ≤ n.tExec))) ∧
  (∀ (clk : Nat) (payload : List Byte) (n : Notice) (s : State), (s.running pDUPLEX = true ∧ s.following = true) → (noticesOf payload = [n]) → (s.dup.log.length < 256) →
    ∃ t, exec (.backsightNoticeRx clk payload) s = .next t ∧
      t.stake.q = s.stake.q.filter (fun x : Stake => !(x.srcNode == n.srcNode && x.srcMember == n.srcMember && x.id == n.id)) ∧
      t.dup.log = s.dup.log ++ [n] ∧
      (n.cls = 0 ∧ n.outcome ≤ 1 ∧ n.pin < 256 → t.dup.imgLvl = natPut s.dup.imgLvl n.pin 1 (bit (n.value == 1))) ∧
      t.regs = s.regs) ∧
  (∀ (n : Int) (o : Nat) (s : State), (s.running pDUPLEX = true ∧ s.running pCYCLE = true) → (s.dupState = some 2 ∨ s.dupState = some 3) → (s.dup.heardA = true ∧ s.dup.heardB = false) → (s.get pDUPLEX F.DUPLEX.COPY_AT.AT + s.get pDUPLEX F.DUPLEX.HB_WIN.WIN = o) → (s.cycleAt o s.dup.closed = n) →
    ∃ t, exec (.heartbeatWindowClose) s = .next t ∧
      t.get pDUPLEX F.DUPLEX.STS.LANE_A = 1 ∧ t.get pDUPLEX F.DUPLEX.STS.LANE_B = 0 ∧
      t.get pDUPLEX F.DUPLEX.LANE_MISS.B = satAdd (s.get pDUPLEX F.DUPLEX.LANE_MISS.B) 1 F.DUPLEX.LANE_MISS.B.w ∧
      t.get pDUPLEX F.DUPLEX.STS.STATE = s.get pDUPLEX F.DUPLEX.STS.STATE ∧
      t.dup.heardA = false ∧ t.dup.heardB = false ∧ t.dup.closed = some n ∧
      t.clock = max s.clock (s.clockOf (s.cycPoint n o))) ∧
  (∀ (s : State), (s.running pDUPLEX = true ∧ s.running pCYCLE = true) → (s.dupState = some 2) → (s.dup.heardA = false ∧ s.dup.heardB = false) → (s.get pDUPLEX F.DUPLEX.STS.MISSED = 0) →
    ∃ t, exec (.heartbeatWindowClose) s = .next t ∧
      t.get pDUPLEX F.DUPLEX.STS.STATE = 3 ∧ t.get pDUPLEX F.DUPLEX.STS.MISSED = 1 ∧
      t.get pDUPLEX F.DUPLEX.STS.LANE_A = 0 ∧ t.get pDUPLEX F.DUPLEX.STS.LANE_B = 0 ∧
      t.get pDUPLEX ⟨0x0C, 11, 1⟩ = 1) ∧
  (∀ (s : State), (s.running pDUPLEX = true) → (s.get pDUPLEX F.DUPLEX.STS.STATE = 0) → (3 ≤ s.dup.bounds) →
    ∃ t, exec (.duplexNegotiateTimeout) s = .next t ∧
      (t.get pDUPLEX F.DUPLEX.STS.STATE = if s.strapActive || (!s.dup.heardEver && s.peerAbsent) then 1 else 2) ∧
      t.clock = s.clock) ∧
  (∀ (s : State), (s.running pDUPLEX = true) →
    ∃ t, exec (.peerAbsent) s = .next t ∧
      t.get pDUPLEX F.DUPLEX.STS.PEER_PRESENT = 0 ∧
      t.get pDUPLEX F.DUPLEX.STS.STATE = s.get pDUPLEX F.DUPLEX.STS.STATE ∧
      t.clock = max s.clock (s.clockOf (s.dup.lastPeer + 2 * s.get pCYCLE F.CYCLE.CYC_LEN.LEN)))

/-- O41. R395, R396, R408, R410, R412, R413, R419: firmware declares a fault or a handover, rejoins or fences; a dual claim is settled by
serial numbers; and at T_k the standby takes over and the other hub stands down. -/
def Obligations.PairDeclarations : Prop :=
  (∀ (clk : Nat) (s : State), ((s.advance clk).accepts pDUPLEX = true) → (s.dupState = some 1) →
    ∃ t, exec (.duplexFault clk) s = .next t ∧
      t.get pDUPLEX F.DUPLEX.STS.STATE = 5 ∧
      t.dup.tDecl = some (s.advance clk).now ∧ t.dup.tk = some (s.boundaryFrom ((s.advance clk).now + 4000)) ∧
      t.dup.cause = 1 ∧ t.dup.handover = false ∧ t.dup.frozen = true) ∧
  (∀ (clk : Nat) (s : State), ((s.advance clk).accepts pDUPLEX = true) → (s.dupState = some 1) →
    ∃ t, exec (.duplexHandover clk) s = .next t ∧
      t.get pDUPLEX F.DUPLEX.STS.STATE = 5 ∧
      t.dup.tDecl = some (s.advance clk).now ∧ t.dup.tk = some (s.boundaryFrom ((s.advance clk).now + s.get pDUPLEX F.DUPLEX.COPY_TIME.HNS)) ∧
      t.dup.cause = 2 ∧ t.dup.handover = true ∧ t.dup.frozen = false) ∧
  (∀ (clk : Nat) (s : State), ((s.advance clk).accepts pDUPLEX = true) → (s.dupState = some 6) →
    ∃ t, exec (.duplexRejoin clk) s = .next t ∧
      t.get pDUPLEX F.DUPLEX.STS.STATE = 0 ∧
      t.dup.bounds = 0 ∧ t.dup.tk = none ∧ t.dup.wasShadow = true) ∧
  (∀ (clk k : Nat) (s : State), ((s.advance clk).accepts pDUPLEX = true) → (s.dupState = some k) → (k ≠ 6) →
    ∃ t, exec (.duplexFence clk) s = .next t ∧
      t.get pDUPLEX F.DUPLEX.STS.STATE = 6 ∧
      t.get pDUPLEX ⟨0x0C, 12, 1⟩ = 1 ∧
      t.dup.tk = none ∧ t.dup.frozen = false) ∧
  (∀ (clk k : Nat) (payload : List Byte) (s : State), (s.dupState = some 1) → ((nth payload 8 0).toNat % 16 = k) → (k = 1 ∨ k = 5) →
    ∃ t, exec (.dualClaimStatusRx clk payload) s = .next t ∧
      (t.get pDUPLEX F.DUPLEX.STS.STATE = if ofBE (slice payload 0 8) < s.pwr.serial then 6 else s.get pDUPLEX F.DUPLEX.STS.STATE) ∧
      t.get pDUPLEX ⟨0x0C, 13, 1⟩ = 1) ∧
  (∀ (tk : Nat) (s : State), (s.dup.tk = some tk) → (s.dupState = some 4) → (s.running pDUPLEX = true) → (s.stake.q = []) →
    ∃ t, exec (.takeover) s = .next t ∧
      t.get pDUPLEX F.DUPLEX.STS.STATE = 1 ∧
      t.get pDUPLEX F.DUPLEX.LAST_TK.T = tk % 2 ^ 64 ∧
      t.get pDUPLEX F.DUPLEX.TAKEOVERS.COUNT = (s.get pDUPLEX F.DUPLEX.TAKEOVERS.COUNT + 1) % 2 ^ F.DUPLEX.TAKEOVERS.COUNT.w ∧
      t.get pDUPLEX ⟨0x0C, 8, 1⟩ = 1 ∧
      t.dup.tk = none ∧ t.dup.wasShadow = false ∧
      t.clock = max s.clock (s.clockOf tk)) ∧
  (∀ (tk : Nat) (s : State), (s.dup.tk = some tk) → (s.dupState = some 5) →
    ∃ t, exec (.takeover) s = .next t ∧
      (t.get pDUPLEX F.DUPLEX.STS.STATE = if s.dup.handover then 2 else 6) ∧
      t.dup.tk = none ∧ t.dup.frozen = false ∧
      t.clock = max s.clock (s.clockOf tk))

/-- O42. R414–R417, R424: gang members send and judge HELLOs, TIME and STATE frames, end the wait for formation, vote, rejoin and
fence. -/
def Obligations.GangFormationAndVote : Prop :=
  (∀ (s : State), (s.running pGANGCTL = true) →
    ∃ t, exec (.gangHelloSend) s = .next t ∧
      t.gang.helloAt = s.gang.helloAt + 2000000 ∧
      t.clock = max s.clock s.gang.helloAt ∧
      t.gang.heard = s.gang.heard) ∧
  (∀ (clk port m : Nat) (payload : List Byte) (s : State), (s.running pGANGCTL = true ∧ s.gang.stopped = false) → (port = gangPort s.member m ∧ 4 ≤ port ∧ port ≤ 6 ∧ m < 4) → (s.helloDiff payload = none) →
    ∃ t, exec (.gangHelloRx clk port m payload) s = .next t ∧
      t.get pGANGCTL (memBit F.GANGCTL.STS.AGREED m) = 1 ∧
      t.gang.heard.head? = some (⟨m, ofBE (slice payload 0 8), toSigned (ofBE (slice payload 16 4)) 32, natBit (nth payload 13 0).toNat 0⟩ : Heard) ∧
      t.gang.stopped = false) ∧
  (∀ (clk port m i : Nat) (payload : List Byte) (s : State), (s.running pGANGCTL = true ∧ s.gang.stopped = false) → (port = gangPort s.member m ∧ 4 ≤ port ∧ port ≤ 6 ∧ m < 4) → (s.helloDiff payload = some i) → (s.formed = false) →
    ∃ t, exec (.gangHelloRx clk port m payload) s = .next t ∧
      t.get pGANGCTL F.HDR.PSTS.REFUSED = 1 ∧ t.get pGANGCTL F.HDR.PSTS.CODE = 0x0C ∧ t.get pGANGCTL F.HDR.PSTS.INDEX = i % 256 ∧
      t.get pGANGCTL F.GANGCTL.STS.DIS_MEMBER = m ∧
      t.gang.stopped = true) ∧
  (∀ (e m : Nat) (s : State), (s.gang.waitEnd = some e) → (s.running pGANGCTL = true ∧ s.formed = false ∧ s.gang.stopped = false) → (s.others.find? (fun m : Nat => (s.heardOf m).isNone) = some m) →
    ∃ t, exec (.gangFormWaitExpire) s = .next t ∧
      t.gang.waitEnd = none ∧ t.gang.stopped = true ∧
      t.get pGANGCTL F.HDR.PSTS.REFUSED = 1 ∧ t.get pGANGCTL F.HDR.PSTS.CODE = 0x0E ∧ t.get pGANGCTL F.HDR.PSTS.INDEX = pPORT (gangPort s.member m) % 256 ∧
      t.clock = max s.clock e) ∧
  (∀ (s : State), (s.running pGANGCTL = true) →
    ∃ t, exec (.gangTimeSend) s = .next t ∧
      t.gang.timeAt = s.gang.timeAt + 2000 * s.get pGANGCTL F.GANGCTL.MISC.TIME_PER ∧
      (t.gang.timeSeq = if s.isLead then (s.gang.timeSeq + 1) % 2 ^ 32 else s.gang.timeSeq) ∧
      t.clock = max s.clock s.gang.timeAt) ∧
  (∀ (clk port m stamp : Nat) (payload : List Byte) (r : TimeMark) (s : State), (s.running pGANGCTL = true ∧ s.isLead = false) → (m = s.actingFor 0 ∧ port = gangPort s.member m) → (s.gang.timeRx.find? (fun x : TimeMark => x.port == port && x.seq == ofBE (slice payload 12 4)) = some r) →
    ∃ t, exec (.gangTimeRx clk port m stamp payload) s = .next t ∧
      t.get pGANGCTL F.GANGCTL.OFS.OFS = satSigned ((r.stamp : Int) - ofBE (slice payload 4 8) - s.get pSTAMP (F.STAMP.PDELAY.PDELAY.at (0x20 * port))) 32 ∧
      t.get pGANGCTL F.GANGCTL.STS.OFS_VALID = 1 ∧
      t.gang.timeRx = (⟨port, ofBE (slice payload 0 4), stamp⟩ : TimeMark) :: s.gang.timeRx.filter (fun y : TimeMark => y.port != port)) ∧
  (∀ (clk m : Nat) (payload : List Byte) (s : State), (s.running pGANGCTL = true) → (m < 4 ∧ s.memFitted m = true ∧ m ≠ s.member) →
    ∃ t, exec (.gangStateRx clk m payload) s = .next t ∧
      t.get pGANGCTL (F.GANGCTL.DIG.DIGEST.at (4 * m)) = ofBE (slice payload 4 4) % 2 ^ 32 ∧
      t.gang.states = (m, ofBE (slice payload 0 4), ofBE (slice payload 4 4)) :: s.gang.states.filter (fun x : Nat × Nat × Nat => x.1 != m)) ∧
  (∀ (n : Int) (s : State), (s.formed = true ∧ s.running pCYCLE = true) → (s.cycleAt (s.get pGANGCTL F.GANGCTL.VOTE.STATE_AT) s.gang.voted = n) →
    ∃ t, exec (.gangVote) s = .next t ∧
      t.gang.voted = some n ∧
      t.get pGANGCTL F.GANGCTL.STATE_DIG.DIGEST = s.stateDigest (cyc32 n) % 2 ^ 32 ∧
      (t.get pGANGCTL F.GANGCTL.STS.NOMAJ = if (s.reference (s.voters (cyc32 n))).isNone then 1 else 0) ∧
      t.clock = max s.clock (s.clockOf (s.cycPoint n (s.get pGANGCTL F.GANGCTL.VOTE.STATE_AT)))) ∧
  (∀ (clk : Nat) (s : State), ((s.advance clk).accepts pGANGCTL = true) → (s.memFenced s.member = true) →
    ∃ t, exec (.gangctlRejoin clk) s = .next t ∧
      t.gang.rejoining = true ∧
      t.regs = s.regs) ∧
  (∀ (clk : Nat) (s : State), ((s.advance clk).accepts pGANGCTL = true) → (s.inGang = true ∧ s.running pGANGCTL = true) → (s.member < 4 ∧ s.memFenced s.member = false) →
    ∃ t, exec (.gangctlFence clk) s = .next t ∧
      t.get pGANGCTL (memBit F.GANGCTL.STS.FENCED s.member) = 1 ∧ t.get pGANGCTL (memBit F.GANGCTL.STS.PRESENT s.member) = 0 ∧
      t.get pGANGCTL F.GANGCTL.FENCINGS.COUNT = (s.get pGANGCTL F.GANGCTL.FENCINGS.COUNT + 1) % 2 ^ F.GANGCTL.FENCINGS.COUNT.w ∧
      t.get pGANGCTL ⟨0x0C, 11, 1⟩ = 1)

/-- O43. R389, R390: the lease exchange at the target and at a manager: challenges, proofs, grants, renewals, releases, refusals and
the ends of their times. -/
def Obligations.ManagementLease : Prop :=
  (∀ (clk node member : Nat) (key : List Byte) (s : State), (s.leaseHere = true ∧ node ≠ s.nid) → (s.otherHolds node member = false) → (s.leaseKey = some key) →
    ∃ t, exec (.leaseOpen clk node member) s = .next t ∧
      t.bridge.challenges = s.bridge.challenges.filter (fun c : Challenge => !(c.node == node && c.member == member)) ++ [(⟨node, member, s.rnd 32, max s.clock clk⟩ : Challenge)] ∧
      t.freeCtr = s.freeCtr + 1 ∧
      t.bridge.leaseEnd = s.bridge.leaseEnd) ∧
  (∀ (clk node member : Nat) (s : State), (s.leaseHere = true) → (s.otherHolds node member = true) →
    ∃ t, exec (.leaseOpen clk node member) s = .next t ∧
      t.bridge.challenges = s.bridge.challenges ∧
      t.bridge.leaseEnd = s.bridge.leaseEnd) ∧
  (∀ (clk node member : Nat) (challenge key : List Byte) (s : State), (s.running pBRIDGE = true) → (s.leaseKey = some key) →
    ∃ t, exec (.leaseChallenge clk node member challenge) s = .next t ∧
      t.bridge.mgrOf = mgrDrop node member s.bridge.mgrOf ++ [(node, member, challenge.take 32, 0)]) ∧
  (∀ (clk node member : Nat) (proof key : List Byte) (x : Challenge) (s : State), (s.leaseHere = true) → (s.otherHolds node member = false) → (s.leaseKey = some key) → (s.challengeOf node member = some x) → (s.proofOk key x.bytes proof = true) →
    ∃ t, exec (.leaseProof clk node member proof) s = .next t ∧
      t.get pBRIDGE F.BRIDGE.MGRSTS.HELD = 1 ∧
      t.get pBRIDGE F.BRIDGE.MGRSTS.NODE = node % 2 ^ F.BRIDGE.MGRSTS.NODE.w ∧ t.get pBRIDGE F.BRIDGE.MGRSTS.MEMBER = member % 2 ^ F.BRIDGE.MGRSTS.MEMBER.w ∧
      t.bridge.challenges = s.bridge.challenges.filter (fun c : Challenge => !(c.node == node && c.member == member)) ∧
      t.bridge.leaseEnd = some (max s.clock clk + 2000000000 * s.get pBRIDGE F.BRIDGE.LEASE.LEASE_S) ∧
      t.get pBRIDGE ⟨0x0C, 13, 1⟩ = 1) ∧
  (∀ (clk node member : Nat) (proof : List Byte) (s : State), (s.leaseHere = true) → (s.otherHolds node member = true) →
    ∃ t, exec (.leaseProof clk node member proof) s = .next t ∧
      t.get pBRIDGE F.BRIDGE.MGRSTS.NODE = s.get pBRIDGE F.BRIDGE.MGRSTS.NODE ∧
      t.bridge.leaseEnd = s.bridge.leaseEnd) ∧
  (∀ (clk node member seconds : Nat) (next : List Byte) (s : State), (s.running pBRIDGE = true) → (s.bridge.mgrOf.any (fun x : Nat × Nat × List Byte × Nat => x.1 == node && x.2.1 == member) = true) →
    ∃ t, exec (.leaseGrant clk node member seconds next) s = .next t ∧
      t.bridge.mgrOf = mgrDrop node member s.bridge.mgrOf ++ [(node, member, next.take 32, max s.clock clk + 2000000000 * seconds)] ∧
      t.regs = s.regs) ∧
  (∀ (clk node member : Nat) (proof key : List Byte) (x : Challenge) (s : State), (s.leaseHere = true) → (s.holdsLease node member = true) → (s.leaseKey = some key) → (s.bridge.nextChallenge = some x) → (max s.clock clk < x.born + 2000000000) → (s.proofOk key x.bytes proof = true) →
    ∃ t, exec (.leaseRenew clk node member proof) s = .next t ∧
      t.get pBRIDGE F.BRIDGE.MGRSTS.HELD = 1 ∧
      t.bridge.leaseEnd = some (max s.clock clk + 2000000000 * s.get pBRIDGE F.BRIDGE.LEASE.LEASE_S) ∧
      t.bridge.nextChallenge = some (⟨node, member, s.rnd 32, max s.clock clk⟩ : Challenge)) ∧
  (∀ (clk node member : Nat) (proof : List Byte) (x : Challenge) (s : State), (s.leaseHere = true) → (s.holdsLease node member = true) → (s.bridge.nextChallenge = some x ∧ x.born + 2000000000 ≤ max s.clock clk) →
    ∃ t, exec (.leaseRenew clk node member proof) s = .next t ∧
      t.bridge.leaseEnd = s.bridge.leaseEnd ∧ t.bridge.nextChallenge = some x ∧
      t.get pBRIDGE F.BRIDGE.MGRSTS.NODE = s.get pBRIDGE F.BRIDGE.MGRSTS.NODE) ∧
  (∀ (clk node member : Nat) (s : State), (s.running pBRIDGE = true) → (s.holdsLease node member = true) →
    ∃ t, exec (.leaseRelease clk node member) s = .next t ∧
      t.get pBRIDGE F.BRIDGE.MGRSTS.HELD = 0 ∧
      t.bridge.leaseEnd = none ∧ t.bridge.mgrOf = mgrDrop node member s.bridge.mgrOf ∧
      t.get pBRIDGE ⟨0x0C, 13, 1⟩ = 1) ∧
  (∀ (clk node member reason : Nat) (s : State),
    ∃ t, exec (.leaseRefuse clk node member reason) s = .next t ∧
      t.bridge.mgrOf = mgrDrop node member s.bridge.mgrOf ∧
      t.regs = s.regs) ∧
  (∀ (e : Nat) (s : State), (s.bridge.leaseEnd = some e) → (s.flag pBRIDGE F.BRIDGE.MGRSTS.HELD = true) →
    ∃ t, exec (.leaseExpire) s = .next t ∧
      t.get pBRIDGE F.BRIDGE.MGRSTS.HELD = 0 ∧
      t.bridge.leaseEnd = none ∧
      t.get pBRIDGE ⟨0x0C, 13, 1⟩ = 1 ∧
      t.clock = max s.clock e) ∧
  (∀ (x : Challenge) (l : List Challenge) (s : State), (s.bridge.challenges = x :: l) → (∀ n ∈ s.bridge.nextChallenge, x.born ≤ n.born) →
    ∃ t, exec (.leaseChallengeExpire) s = .next t ∧
      t.bridge.challenges = l ∧ t.bridge.nextChallenge = s.bridge.nextChallenge ∧
      t.clock = max s.clock (x.born + 2000000000) ∧
      t.regs = s.regs) ∧
  (∀ (x : Challenge) (s : State), (s.bridge.nextChallenge = some x) → (∀ c ∈ s.bridge.challenges.head?, x.born < c.born) →
    ∃ t, exec (.leaseChallengeExpire) s = .next t ∧
      t.bridge.nextChallenge = none ∧ t.bridge.challenges = s.bridge.challenges ∧
      t.clock = max s.clock (x.born + 2000000000) ∧
      t.regs = s.regs) ∧
  (∀ (clk : Nat) (s : State), ((s.advance clk).accepts pBRIDGE = true) → (s.flag pBRIDGE F.BRIDGE.MGRSTS.HELD = true) →
    ∃ t, exec (.leaseDrop clk) s = .next t ∧
      t.get pBRIDGE F.BRIDGE.MGRSTS.HELD = 0 ∧
      t.bridge.leaseEnd = none ∧
      t.get pBRIDGE ⟨0x0C, 13, 1⟩ = 1)

/-- O44. R509, R512–R517, R520, R521: from the PLL lock the start-up goes through its stages; an image is fetched, written, judged and
accepted, or it fails. -/
def Obligations.BootSteps : Prop :=
  (∀ (clk : Nat) (s : State), (s.coreOn = true) → (s.get pSYS F.SYS.BOOTSTS.STAGE = 0) →
    ∃ t, exec (.pllLock clk) s = .next t ∧
      t.get pSYS F.SYS.BOOTSTS.STAGE = 1 ∧
      t.pwr = { s.pwr with serdes := true }) ∧
  (∀ (clk : Nat) (s : State), (s.coreOn = true) → (s.get pSYS F.SYS.BOOTSTS.STAGE = 1) →
    ∃ t, exec (.calLoadDone clk) s = .next t ∧
      t.get pSYS F.SYS.BOOTSTS.STAGE = 2 ∧
      t.cal.shadow = s.cal.mtp ∧ t.cal.mtp = s.cal.mtp ∧
      t.get pCAL F.CAL.STS.WRITES = calNum s.cal.mtp 6 2) ∧
  (∀ (clk : Nat) (failed : List Nat) (s : State), (s.coreOn = true) → (s.get pSYS F.SYS.BOOTSTS.STAGE = 2) → (s.get pSYS F.SYS.STRAP.BOOT ≠ 2) →
    ∃ t, exec (.selfTestDone clk failed false) s = .next t ∧
      (t.get pSYS F.SYS.BOOTSTS.STAGE = if s.get pSYS F.SYS.STRAP.BOOT = 3 then 8 else 3) ∧
      t.sw.selfFailed = failed.filter (fun k : Nat => decide (k < 9))) ∧
  (∀ (clk : Nat) (failed : List Nat) (s : State), (s.coreOn = true) → (s.get pSYS F.SYS.BOOTSTS.STAGE = 2) → (s.get pSYS F.SYS.STRAP.BOOT = 2) → (s.page.held = []) →
    ∃ t, exec (.selfTestDone clk failed false) s = .next t ∧
      t.boot.ring = true) ∧
  (∀ (clk : Nat) (failed : List Nat) (s : State), (s.coreOn = true) → (s.get pSYS F.SYS.BOOTSTS.STAGE = 2) →
    ∃ t, exec (.selfTestDone clk failed true) s = .next t ∧
      t.get pSYS F.SYS.BOOTSTS.STAGE = 9 ∧ t.get pSYS F.SYS.BOOTSTS.ERR = 7 ∧
      t.get pSYS F.HDR.PSTS.FAULT = 1 ∧ t.get pSYS ⟨0x0C, 10, 1⟩ = 1) ∧
  (∀ (clk : Nat) (s : State), ((s.advance clk).accepts pSYS = true) → (s.get pSYS F.SYS.BOOTSTS.STAGE = 3) → (s.get pSYS F.SYS.STRAP.BOOT = 1 ∨ s.boot.ring = true) →
    ∃ t, exec (.bootGo clk) s = .next t ∧
      t.get pSYS F.SYS.BOOTCTL.GO = 1 ∧
      t.boot = s.boot ∧
      (∀ k : Nat, k ≠ regKey pSYS 0x6C → tabGet regDefault t.regs k = tabGet regDefault s.regs k)) ∧
  (∀ (clk : Nat) (data : Word) (s : State), ((s.advance clk).accepts pSYS = true) → (s.get pSYS F.SYS.BOOTSTS.STAGE = 3) → (s.get pSYS F.SYS.BOOTCTL.GO = 0) → (s.boot.ring = true) →
    ∃ t, exec (.bootDataWrite clk data) s = .next t ∧
      t.boot.image = s.boot.image ++ leBytes 4 data.toNat ∧
      t.regs = s.regs) ∧
  (∀ (clk : Nat) (image : List Byte) (s : State), (s.coreOn = true) → (s.get pSYS F.SYS.BOOTSTS.STAGE = 3) → (s.get pSYS F.SYS.STRAP.BOOT = 0 ∨ s.get pSYS F.SYS.BOOTCTL.GO = 1) →
    ∃ t, exec (.bootFetchDone clk (some image)) s = .next t ∧
      t.get pSYS F.SYS.BOOTSTS.STAGE = 4 ∧
      t.get pSYS F.SYS.BOOTCTL.GO = 0 ∧
      (t.boot.image = if s.boot.ring = true then s.boot.image.take (s.get pSYS F.SYS.BOOT_LEN.BYTES) else if s.get pSYS F.SYS.STRAP.BOOT = 0 then image else image.take (s.get pSYS F.SYS.BOOT_LEN.BYTES))) ∧
  (∀ (clk : Nat) (s : State), (s.coreOn = true) → (s.get pSYS F.SYS.BOOTSTS.STAGE = 3) → (s.get pSYS F.SYS.STRAP.BOOT = 1 ∧ s.get pSYS F.SYS.BOOTCTL.GO = 1) → (s.boot.ring = false) →
    ∃ t, exec (.bootFetchDone clk none) s = .next t ∧
      t.get pSYS F.SYS.BOOTSTS.STAGE = 9 ∧ t.get pSYS F.SYS.BOOTSTS.ERR = 1 ∧
      t.get pSYS ⟨0x0C, 10, 1⟩ = 1) ∧
  (∀ (clk : Nat) (u : Bool) (s : State), (s.coreOn = true) → (s.get pSYS F.SYS.BOOTSTS.STAGE = 4) → (s.judgeImage s.boot.image = (0, u)) → (s.boot.ring = false) →
    ∃ t, exec (.bootAuthDone clk) s = .next t ∧
      t.boot.rest = (s.boot.image.take (imf s.boot.image 8 4 - 4)).drop 16 ∧
      (t.get pSYS F.SYS.BOOTSTS.STAGE = if (s.boot.image.take (imf s.boot.image 8 4 - 4)).drop 16 = [] then 7 else 5) ∧
      (t.get pSYS F.SYS.BOOTSTS.UNVERIFIED = if u then 1 else 0) ∧
      t.get pSYS F.SYS.BOOTENT.ENTRY = 0) ∧
  (∀ (clk e : Nat) (u : Bool) (s : State), (s.coreOn = true) → (s.get pSYS F.SYS.BOOTSTS.STAGE = 4) → (s.judgeImage s.boot.image = (e, u)) → (e ≠ 0) → (s.get pSYS F.SYS.STRAP.BOOT = 0 ∧ s.get pSYS F.SYS.BOOTSTS.ALT = 0 ∧ e ≤ 3) →
    ∃ t, exec (.bootAuthDone clk) s = .next t ∧
      t.get pSYS F.SYS.BOOTSTS.STAGE = 3 ∧ t.get pSYS F.SYS.BOOTSTS.ALT = 1 ∧
      t.boot.image = []) ∧
  (∀ (clk e : Nat) (u : Bool) (s : State), (s.coreOn = true) → (s.get pSYS F.SYS.BOOTSTS.STAGE = 4) → (s.judgeImage s.boot.image = (e, u)) → (e ≠ 0) → (s.get pSYS F.SYS.STRAP.BOOT ≠ 0 ∨ s.get pSYS F.SYS.BOOTSTS.ALT = 1 ∨ 3 < e) →
    ∃ t, exec (.bootAuthDone clk) s = .next t ∧
      t.get pSYS F.SYS.BOOTSTS.STAGE = 9 ∧ t.get pSYS F.SYS.BOOTSTS.ERR = e % 2 ^ F.SYS.BOOTSTS.ERR.w ∧
      t.get pSYS ⟨0x0C, 10, 1⟩ = 1)

/-- O45. R246, R247, R519, R521: the loader applies the entries of an image: it writes and enables a page, loads and swaps a program,
waits for a register, and ends the boot with an error where an entry is refused or a wait times out. -/
def Obligations.BootEntries : Prop :=
  (∀ (clk page : Nat) (body : List Byte) (s : State), (s.entryReady 1 = true) → (s.entry = (1, page, body)) → (s.nid = 0 ∧ (page = pPORT 0 ∨ page = pPORT 1)) →
    ∃ t, exec (.bootEntryPage clk) s = .next t ∧
      t.boot.rest = s.boot.rest.drop (4 + imf s.boot.rest 2 2) ∧
      t.get pSYS F.SYS.BOOTENT.ENTRY = (s.get pSYS F.SYS.BOOTENT.ENTRY + 1) % 2 ^ F.SYS.BOOTENT.ENTRY.w ∧
      (t.get pSYS F.SYS.BOOTSTS.STAGE = if s.boot.rest.drop (4 + imf s.boot.rest 2 2) = [] then 7 else 5) ∧
      (∀ q : Nat, 0 < q → q < 4096 → ∀ o : Nat, t.rd q o = s.rd q o)) ∧
  (∀ (clk page : Nat) (body : List Byte) (s : State), (s.entryReady 1 = true) → (s.entry = (1, page, body)) → (s.nid ≠ 0 ∨ (page ≠ pPORT 0 ∧ page ≠ pPORT 1)) → (page ∈ allPages ∧ alwaysOn page = false) → (s.accepts page = true) → (s.flag page F.HDR.PCTL.EN = false) → (s.page.stopping.contains page = false ∧ s.page.clearing.contains page = false) → (body.length = 4 ∧ natBit (imf body 0 4) 0 = true ∧ natBit (imf body 0 4) 2 = false) →
    ∃ t, exec (.bootEntryPage clk) s = .next t ∧
      t.boot.rest = s.boot.rest.drop (4 + imf s.boot.rest 2 2) ∧
      t.boot.page = some page ∧
      t.page.checks = s.page.checks ++ [page] ∧
      t.get page F.HDR.PCTL.EN = 1) ∧
  (∀ (clk page off : Nat) (body : List Byte) (r : RegRow) (s : State), (s.entryReady 1 = true) → (s.entry = (1, page, body)) → (famOf page = some Fam.edge) → (s.accepts page = true) → (s.flag page F.HDR.PCTL.EN = false) → (s.page.stopping.contains page = false ∧ s.page.clearing.contains page = false) → (body.length = 12 ∧ imf body 0 2 = off ∧ natBit (imf body 8 4) 0 = true ∧ natBit (imf body 8 4) 2 = false) → (0x40 ≤ off ∧ off < 4096 ∧ rowAt page off = some r ∧ r.wn = 1) →
    ∃ t, exec (.bootEntryPage clk) s = .next t ∧
      t.rd page off = ((s.rd page off &&& ~~~s.writable page r) ||| (w32 (imf body 4 4) &&& s.writable page r)) &&& ~~~(w32 r.w1c &&& w32 (imf body 4 4)) ∧
      t.boot.page = some page ∧
      t.page.checks = s.page.checks ++ [page]) ∧
  (∀ (clk c : Nat) (body : List Byte) (s : State), (c < 16) → (s.entryReady 2 = true) → (s.entry = (2, pCREW c, body)) → (programOk c body = true) → (s.accepts (pCREW c) = true) → (s.runEngs c = []) → (s.get (pCREW c) F.CREW.SWAP.GO = 0 ∧ s.get (pCREW c) F.CREW.STS.BUSY = 0) →
    ∃ t, exec (.bootEntryProgram clk) s = .next t ∧
      t.boot.rest = s.boot.rest.drop (4 + imf s.boot.rest 2 2) ∧
      t.get (pCREW c) F.CREW.STS.ACTIVE = 1 - s.get (pCREW c) F.CREW.STS.ACTIVE ∧
      (∀ i, i < 128 → t.rd (pCREW c) (0x800 + 0x200 * (1 - s.get (pCREW c) F.CREW.STS.ACTIVE) + 4 * i) = if i < imf body 6 1 then w32 (imf body (36 + 4 * i) 4) else 0) ∧
      t.get pSYS F.SYS.BOOTENT.ENTRY = (s.get pSYS F.SYS.BOOTENT.ENTRY + 1) % 2 ^ F.SYS.BOOTENT.ENTRY.w) ∧
  (∀ (clk c : Nat) (body : List Byte) (s : State), (c < 16) → (s.entryReady 2 = true) → (s.entry = (2, pCREW c, body)) → (programOk c body = false) →
    ∃ t, exec (.bootEntryProgram clk) s = .next t ∧
      t.get pSYS F.SYS.BOOTSTS.STAGE = 9 ∧ t.get pSYS F.SYS.BOOTSTS.ERR = 5 ∧
      t.get pSYS F.SYS.BOOTERR.PAGE = pCREW c ∧
      t.boot.rest = []) ∧
  (∀ (clk page : Nat) (body : List Byte) (s : State), (s.entryReady 3 = true) → (s.entry = (3, page, body)) → ((s.advance clk).waitMet page (imf body 0 2) (imf body 4 4) (imf body 8 4) = true) →
    ∃ t, exec (.bootEntryWait clk) s = .next t ∧
      t.boot.rest = s.boot.rest.drop (4 + imf s.boot.rest 2 2) ∧
      t.boot.wait = none ∧
      t.get pSYS F.SYS.BOOTENT.ENTRY = (s.get pSYS F.SYS.BOOTENT.ENTRY + 1) % 2 ^ F.SYS.BOOTENT.ENTRY.w) ∧
  (∀ (clk page : Nat) (body : List Byte) (s : State), (s.entryReady 3 = true) → (s.entry = (3, page, body)) → ((s.advance clk).waitMet page (imf body 0 2) (imf body 4 4) (imf body 8 4) = false) → (s.boot.wait = none) →
    ∃ t, exec (.bootEntryWait clk) s = .next t ∧
      t.boot.rest = s.boot.rest ∧
      t.get pSYS F.SYS.BOOTSTS.STAGE = 6 ∧
      (t.boot.wait = some (page, imf body 0 2, imf body 4 4, imf body 8 4, if imf body 2 2 = 0 then none else some (max s.clock clk + 2000000 * imf body 2 2)))) ∧
  (∀ (p off m v due : Nat) (s : State), (s.boot.wait = some (p, off, m, v, some due)) →
    ∃ t, exec (.bootWaitTimeout) s = .next t ∧
      t.clock = max s.clock due ∧
      t.get pSYS F.SYS.BOOTSTS.STAGE = 9 ∧ t.get pSYS F.SYS.BOOTSTS.ERR = 6 ∧
      t.get pSYS F.SYS.BOOTERR.PAGE = p % 2 ^ F.SYS.BOOTERR.PAGE.w ∧
      t.get pSYS ⟨0x0C, 10, 1⟩ = 1)

/-- O46. R45, R509–R511, R524–R527, R529: what puts the core die in reset and releases it: its registers at their reset values, the
cause, the count of starts and the straps; and the watchdog, the reset command and the domain resets. -/
def Obligations.ResetsOfTheCoreDie : Prop :=
  (∀ (clk nid role boot : Nat) (s : State), (s.pwr.power = Power.coreReset ∧ s.pwr.rstN = true) → (s.get pSUPPLY F.SUPPLY.STS.PG_CORE = 1) →
    ∃ t, exec (.corePorRelease clk nid role boot) s = .next t ∧
      t.pwr.power = Power.run ∧
      t.get pSYS F.SYS.STRAP.NID = nid % 128 ∧ t.get pSYS F.SYS.STRAP.ROLE = role % 8 ∧ t.get pSYS F.SYS.STRAP.BOOT = boot % 4 ∧
      t.get pRESET F.RESET.CAUSE.all = s.supply.causes % 2 ^ 32 ∧ t.supply.causes = 0 ∧
      t.get pRESET F.RESET.CORE_RESETS.COUNT = (s.get pRESET F.RESET.CORE_RESETS.COUNT + 1) % 2 ^ 32 ∧
      t.raw = 0 ∧
      (role % 8 = 3 → t.get pSYS F.SYS.BOOTSTS.STAGE = 8 ∧ t.get pSYS F.SYS.BOOTSTS.ERR = 8) ∧
      (nid % 128 = 0 → t.get pSYS F.HDR.PSTS.FAULT = 1)) ∧
  (∀ (clk : Nat) (s : State), (s.coreOn = true) →
    ∃ t, exec (.rstNAssert clk) s = .next t ∧
      t.pwr.power = Power.coreReset ∧ t.pwr.rstN = false ∧
      natBit t.supply.causes 3 = true ∧
      (∀ q : Nat, 0 < q → q < 4096 → ∀ o : Nat, guardPage q = false → q ≠ pRESET → q ∉ (List.range 4).map pPINMUX → t.rd q o = regDefault (regKey q o)) ∧
      t.mem = [] ∧ t.engs = [] ∧ t.cans = [] ∧ t.ports = [] ∧
      (t.cal.mtp = s.cal.mtp ∨ s.cal.prog ≠ none)) ∧
  (∀ (clk nid role boot : Nat) (s : State), (s.pwr.power = Power.coreReset) → (s.get pSUPPLY F.SUPPLY.STS.PG_CORE = 1) →
    ∃ t, exec (.rstNRelease clk nid role boot) s = .next t ∧
      t.pwr.power = Power.run ∧ t.pwr.rstN = true ∧
      t.get pSYS F.SYS.STRAP.NID = nid % 128 ∧ t.get pSYS F.SYS.STRAP.ROLE = role % 8 ∧
      t.get pRESET F.RESET.CAUSE.all = s.supply.causes % 2 ^ 32) ∧
  (∀ (clk : Nat) (data : Word) (s : State), ((s.advance clk).accepts pRESET = true) →
    ∃ t, exec (.wdogArm clk data) s = .next t ∧
      t.get pRESET F.RESET.WDOG.EN = 1 ∧
      t.get pRESET F.RESET.WDOG.TIME = data.toNat / 65536 ∧
      (∀ k : Nat, k ≠ regKey pRESET 0x4C → tabGet regDefault t.regs k = tabGet regDefault s.regs k) ∧
      (t.rst.wdog = if s.flag pRESET F.RESET.WDOG.EN then s.rst.wdog else some (max s.clock clk + 2000000 * (data.toNat / 65536)))) ∧
  (∀ (clk : Nat) (s : State), ((s.advance clk).accepts pRESET = true) →
    ∃ t, exec (.wdogKick clk) s = .next t ∧
      (t.rst.wdog = if s.flag pRESET F.RESET.WDOG.EN then some (max s.clock clk + 2000000 * s.get pRESET F.RESET.WDOG.TIME) else s.rst.wdog) ∧
      t.regs = s.regs) ∧
  (∀ (due : Nat) (s : State), (s.rst.wdog = some due) → (s.coreOn = true ∧ s.pwr.rstN = true) → (s.flag pRESET F.RESET.WDOG.FAULT_FIRST = false ∨ s.dupState ≠ some 1) →
    ∃ t, exec (.wdogExpire) s = .next t ∧
      t.clock = max s.clock due ∧
      t.pwr.power = Power.run ∧
      t.get pRESET ⟨F.RESET.CAUSE.all.off, 4, 1⟩ = 1 ∧
      (t.get pRESET F.RESET.CORE_RESETS.COUNT = (s.get pRESET F.RESET.CORE_RESETS.COUNT + if max s.clock due = s.datum.rawOrg then 0 else 1) % 2 ^ 32) ∧
      t.rst = ResetSt.init) ∧
  (∀ (due : Nat) (s : State), (s.rst.wdog = some due) → (s.flag pRESET F.RESET.WDOG.FAULT_FIRST = true ∧ s.dupState = some 1) →
    ∃ t, exec (.wdogExpire) s = .next t ∧
      t.clock = max s.clock due ∧
      t.rst.delayed = some (due + 200000) ∧ t.rst.wdog = none ∧
      t.pwr = s.pwr ∧
      t.get pRESET ⟨0x0C, 8, 1⟩ = 1) ∧
  (∀ (due : Nat) (s : State), (s.rst.delayed = some due) → (s.coreOn = true ∧ s.pwr.rstN = true) →
    ∃ t, exec (.wdogDelayedReset) s = .next t ∧
      t.clock = max s.clock due ∧
      t.pwr.power = Power.run ∧
      t.get pRESET ⟨F.RESET.CAUSE.all.off, 4, 1⟩ = 1) ∧
  (∀ (clk : Nat) (s : State), ((s.advance clk).accepts pRESET = true) →
    ∃ t, exec (.resetCmd clk) s = .next t ∧
      t.rst.cmd = some (max s.clock clk + 20000) ∧
      t.regs = s.regs) ∧
  (∀ (due : Nat) (s : State), (s.rst.cmd = some due) → (s.coreOn = true ∧ s.pwr.rstN = true) →
    ∃ t, exec (.resetCmdFire) s = .next t ∧
      t.clock = max s.clock due ∧
      t.pwr.power = Power.run ∧
      t.get pRESET ⟨F.RESET.CAUSE.all.off, 5, 1⟩ = 1 ∧
      t.rst = ResetSt.init) ∧
  (∀ (clk map p b : Nat) (s : State), ((s.advance clk).accepts pRESET = true) → (b < 18 ∧ natBit map b = true ∧ p ∈ domainPages b) → (s.page.domains.contains b = false) →
    ∃ t, exec (.domainReset clk map) s = .next t ∧
      t.page.domains.contains b = true ∧
      t.get pRESET ⟨F.RESET.DOMAIN.RESET.off, b, 1⟩ = 1 ∧
      t.get p F.HDR.PCTL.CLR = 1 ∧ t.get p F.HDR.PCTL.LOCK = 0 ∧ t.get p F.HDR.PCTL.EN = 0) ∧
  (∀ (clk map : Nat) (s : State),
    ∃ t, exec (.domainResetDone clk map) s = .next t ∧
      t.page.domains = s.page.domains.filter (fun b : Nat => !((List.range 18).filter (fun x : Nat => natBit map x && s.page.domains.contains x)).contains b) ∧
      (∀ b, b < 18 → natBit map b = true → s.page.domains.contains b = true → t.get pRESET ⟨F.RESET.DOMAIN.RESET.off, b, 1⟩ = 0))

/-- O47. R37–R45: a request for a power state is stored, rejected with its cause, or begun, and the transition completes; the battery
domain and the guard die start and lose their supply. -/
def Obligations.PowerStates : Prop :=
  (∀ (clk : Nat) (s : State), ((s.advance clk).accepts pSYS = true) → (s.get pSYS F.SYS.PSTATE.BUSY = 0) → (s.get pSYS F.SYS.PSTATE.CUR = 1) → (s.planOn = false) →
    ∃ t, exec (.pstateReqRun clk) s = .next t ∧
      t.get pSYS F.SYS.PSTATE.BUSY = 1 ∧ t.get pSYS F.SYS.PSTATE.REQ = 0 ∧
      t.pwr.target = some Power.run ∧
      (∀ k : Nat, k ≠ regKey pSYS 0x80 → tabGet regDefault t.regs k = tabGet regDefault s.regs k)) ∧
  (∀ (clk : Nat) (s : State), ((s.advance clk).accepts pSYS = true) → (s.get pSYS F.SYS.PSTATE.BUSY = 0) → (s.get pSYS F.SYS.PSTATE.CUR = 0) → (s.planOn = false) → (s.role = 0) → (watchBlockers.find? s.running = none) →
    ∃ t, exec (.pstateReqWatch clk) s = .next t ∧
      t.get pSYS F.SYS.PSTATE.BUSY = 1 ∧ t.get pSYS F.SYS.PSTATE.REQ = 1 ∧
      t.pwr.target = some Power.watch ∧
      (∀ k : Nat, k ≠ regKey pSYS 0x80 → tabGet regDefault t.regs k = tabGet regDefault s.regs k)) ∧
  (∀ (clk p : Nat) (s : State), ((s.advance clk).accepts pSYS = true) → (s.get pSYS F.SYS.PSTATE.BUSY = 0) → (s.get pSYS F.SYS.PSTATE.CUR = 0) → (s.planOn = false) → (s.role = 0) → (watchBlockers.find? s.running = some p) →
    ∃ t, exec (.pstateReqWatch clk) s = .next t ∧
      t.get pSYS F.SYS.PSTATE.REJ = 1 ∧ t.get pSYS F.SYS.PSTATE.CAUSE = 1 ∧ t.get pSYS F.SYS.PSTATE.BLOCKER = p ∧
      t.pwr = s.pwr ∧ t.get pSYS F.SYS.PSTATE.BUSY = 0 ∧
      (∀ k : Nat, k ≠ regKey pSYS 0x80 → tabGet regDefault t.regs k = tabGet regDefault s.regs k)) ∧
  (∀ (clk : Nat) (s : State), ((s.advance clk).accepts pSYS = true) → (s.get pSYS F.SYS.PSTATE.BUSY = 0) → (s.get pSYS F.SYS.PSTATE.CUR < 2) → (s.planOn = false) →
    ∃ t, exec (.pstateReqKeep clk) s = .next t ∧
      t.pwr.power = Power.coreReset ∧
      t.pwr.keepMain = s.flag pSYS F.SYS.WAKE.KEEP_MAIN ∧ t.pwr.keepAny = s.flag pSYS F.SYS.WAKE.KEEP_ANY ∧
      t.get pSUPPLY F.SUPPLY.STS.PG_CORE = 0 ∧ t.get pSUPPLY F.SUPPLY.STS.PFW = 1 ∧
      t.supply.phase = RailPhase.lower (max s.clock clk)) ∧
  (∀ (clk : Nat) (s : State), ((s.advance clk).accepts pSYS = true) → (s.get pSYS F.SYS.PSTATE.BUSY = 0) → (s.get pSYS F.SYS.PSTATE.CUR ≠ 3) →
    ∃ t, exec (.pstateReqReserved clk) s = .next t ∧
      t.get pSYS F.SYS.PSTATE.REJ = 1 ∧ t.get pSYS F.SYS.PSTATE.CAUSE = 3 ∧
      t.pwr = s.pwr ∧ t.get pSYS F.SYS.PSTATE.BUSY = 0 ∧
      (∀ k : Nat, k ≠ regKey pSYS 0x80 → tabGet regDefault t.regs k = tabGet regDefault s.regs k)) ∧
  (∀ (clk : Nat) (s : State), ((s.advance clk).accepts pSYS = true) → (s.get pSYS F.SYS.PSTATE.BUSY = 0) → (s.get pSYS F.SYS.PSTATE.CUR = 0) → (s.planOn = true) →
    ∃ t, exec (.pstateReqKeep clk) s = .next t ∧
      t.get pSYS F.SYS.PSTATE.REJ = 1 ∧ t.get pSYS F.SYS.PSTATE.CAUSE = 4 ∧
      t.pwr = s.pwr) ∧
  (∀ (clk : Nat) (s : State), ((s.advance clk).accepts pSYS = true) → (s.get pSYS F.SYS.PSTATE.BUSY = 1) →
    ∃ t, exec (.pstateReqWatch clk) s = .next t ∧
      t.pwr.stored = some 1 ∧ t.pwr.power = s.pwr.power ∧ t.pwr.target = s.pwr.target ∧
      t.get pSYS F.SYS.PSTATE.REQ = 1 ∧ t.get pSYS F.SYS.PSTATE.BUSY = 1) ∧
  (∀ (clk : Nat) (p : Power) (s : State), (s.pwr.target = some p) → (s.pwr.stored = none) →
    ∃ t, exec (.pstateTransitionDone clk) s = .next t ∧
      t.pwr.power = p ∧ t.pwr.target = none ∧
      (t.get pSYS F.SYS.PSTATE.BUSY = 0 ∧ t.get pSYS F.SYS.PSTATE.CUR = if p = Power.watch then 1 else 0)) ∧
  (∀ (clk : Nat) (s : State), (s.pwr.power = Power.noSupply) →
    ∃ t, exec (.vbatApplied clk) s = .next t ∧
      t.pwr.power = Power.battery ∧ t.pwr.keepMain = true ∧ t.pwr.keepAny = false ∧
      t.mon.rtc = 0 ∧ t.mon.rtcAt = max s.clock clk ∧
      t.regs = s.regs) ∧
  (∀ (clk : Nat) (s : State), (s.pwr.power = Power.noSupply ∨ s.pwr.power = Power.battery) →
    ∃ t, exec (.guardPor clk) s = .next t ∧
      t.pwr.power = Power.keep ∧ t.pwr.dieLink = true ∧
      t.slots = [] ∧ t.supply.phase = RailPhase.off ∧
      t.get pRESET F.RESET.CORE_RESETS.COUNT = 0 ∧ natBit t.supply.causes 1 = true ∧
      (t.get pSUPPLY F.SUPPLY.STS.A_VALID = if s.supply.sinceA.isSome then 1 else 0) ∧
      (t.get pSUPPLY F.SUPPLY.SWCNT.COUNT = if t.get pSUPPLY F.SUPPLY.STS.FET = 0 then 0 else 1) ∧
      t.mon.op = none ∧ t.mon.request = none) ∧
  (∀ (clk : Nat) (s : State), (s.guardOn = true) →
    ∃ t, exec (.guardUnsupplied clk) s = .next t ∧
      t.pwr.power = Power.battery ∧
      t.supply.sinceA = none ∧ t.supply.sinceB = none ∧ t.supply.phase = RailPhase.off ∧
      t.mon.op = none ∧ t.mon.rtc = s.mon.rtc ∧ t.mon.slots = s.mon.slots)

/-- O48. R23, R24, R461: the die-to-die link fails and is trained again, and an event line toggles and is stamped. -/
def Obligations.DieLinkAndEventLines : Prop :=
  (∀ (clk : Nat) (s : State), (s.coreOn = true ∧ s.pwr.dieLink = true) →
    ∃ t, exec (.dieLinkFail clk) s = .next t ∧
      t.pwr.dieLink = false ∧
      t.get pSYS F.HDR.PSTS.FAULT = 1 ∧
      t.clock = max s.clock clk) ∧
  (∀ (clk : Nat) (s : State),
    ∃ t, exec (.dieLinkTrained clk) s = .next t ∧
      t.pwr.dieLink = true ∧ t.pwr.power = s.pwr.power ∧ t.pwr.lines = s.pwr.lines ∧
      t.regs = s.regs) ∧
  (∀ (clk line : Nat) (r : Rec) (l : List Rec) (s : State), ((s.advance clk).lineLive line = true) → (line < s.pwr.lines.length) → ((s.line line).waiting = r :: l ∧ (s.line line).toggled = []) → ((s.line line).last.all (fun x : Nat => decide (x + 200 ≤ max s.clock clk)) = true) →
    ∃ t, exec (.guardEventLineToggle clk line) s = .next t ∧
      (t.line line).last = some (max s.clock clk) ∧
      (t.line line).toggled = (r :: l).filter (fun x : Rec => x.t == r.t) ∧ (t.line line).waiting = (r :: l).filter (fun x : Rec => x.t != r.t) ∧
      t.regs = s.regs) ∧
  (∀ (clk line : Nat) (r : Rec) (l : List Rec) (s : State), ((s.advance clk).lineLive line = true) → (line < s.pwr.lines.length) → ((s.line line).toggled = r :: l) →
    ∃ t, exec (.guardEventLineCapture clk line) s = .next t ∧
      (t.line line).toggled = [] ∧ (t.line line).waiting = (s.line line).waiting ∧
      (t.get pTALLY F.TALLY.LAST_LOSS.T = if line = lineMain ∧ s.planOn = true ∧ (s.line line).toggled.any (fun r : Rec => natBit r.flags 0) = true then (s.advance clk).now % 2 ^ 64 else s.get pTALLY F.TALLY.LAST_LOSS.T) ∧
      (t.get pSUPPLY F.SUPPLY.RFT.T = if line = lineRail then (ofLE (r.data.take 8) + (max s.clock clk - r.t)) % 2 ^ 64 else s.get pSUPPLY F.SUPPLY.RFT.T) ∧
      t.clock = max s.clock clk)

/-- O49. R438–R444, R447: a slot channel trips, latches or cools down, ramps, reaches and loses power good, and follows its card and
its pin. -/
def Obligations.SlotChannels : Prop :=
  (∀ (clk slot vout : Nat) (s : State), (slot < 8) → (s.slotState slot = slotRAMP ∨ s.slotState slot = slotON) →
    ∃ t, exec (.slotFastTrip clk slot vout) s = .next t ∧
      (t.slotState slot = if s.flag (pSLOT slot) F.SLOT.CFG.AUTO_RETRY then slotCOOL else slotLATCHED) ∧
      t.get (pSLOT slot) F.SLOT.STS.LAST_CAUSE = 1 ∧ t.get (pSLOT slot) F.SLOT.STS.PG = 0 ∧
      t.get (pSLOT slot) F.SLOT.TRIPS.COUNT = (s.get (pSLOT slot) F.SLOT.TRIPS.COUNT + 1) % 2 ^ F.SLOT.TRIPS.COUNT.w ∧
      t.get (pSLOT slot) ⟨0x0C, 8, 1⟩ = 1 ∧
      (s.flag (pSLOT slot) F.SLOT.CFG.AUTO_RETRY = true → (t.slot slot).coolEnd = max s.clock clk + offTime ((s.advance clk).onTime slot)) ∧
      (s.flag (pSLOT slot) F.SLOT.CFG.AUTO_RETRY = false → t.get (pSLOT slot) F.SLOT.STS.LATCH = 1)) ∧
  (∀ (clk slot vout : Nat) (s : State), (slot < 8) → (s.slotState slot = slotRAMP ∨ s.slotState slot = slotON) → ((s.slot slot).timerFrom + s.get (pSLOT slot) F.SLOT.TIMER.FAULT_T * msHns ≤ max s.clock clk) →
    ∃ t, exec (.slotFaultTimerExpire clk slot vout) s = .next t ∧
      (t.slotState slot = if s.flag (pSLOT slot) F.SLOT.CFG.AUTO_RETRY then slotCOOL else slotLATCHED) ∧
      t.get (pSLOT slot) F.SLOT.STS.LAST_CAUSE = 2 ∧ t.get (pSLOT slot) F.SLOT.STS.PG = 0) ∧
  (∀ (clk slot : Nat) (s : State), (slot < 8) →
    ∃ t, exec (.slotLimitTimerClear clk slot) s = .next t ∧
      (t.slot slot).timerFrom = max s.clock clk ∧
      t.get (pSLOT slot) F.SLOT.STS.LIMITING = 0 ∧ t.slotState slot = s.slotState slot) ∧
  (∀ (slot vout : Nat) (s : State), (slot < 8) → (s.slotState slot = slotRAMP) →
    ∃ t, exec (.slotStartTimeout slot vout) s = .next t ∧
      t.clock = max s.clock ((s.slot slot).rampAt + s.get (pSLOT slot) F.SLOT.TIMER.START_TO * msHns) ∧
      (t.slotState slot = if s.flag (pSLOT slot) F.SLOT.CFG.AUTO_RETRY then slotCOOL else slotLATCHED) ∧
      t.get (pSLOT slot) F.SLOT.STS.LAST_CAUSE = 3) ∧
  (∀ (clk slot vout : Nat) (s : State), (slot < 8) → (s.slotState slot = slotRAMP ∨ s.slotState slot = slotON) → (s.get (pSLOT slot) F.SLOT.STS.PG = 0) →
    ∃ t, exec (.slotPgRise clk slot false vout) s = .next t ∧
      t.slotState slot = slotON ∧ t.get (pSLOT slot) F.SLOT.STS.PG = 1 ∧
      t.get (pSLOT slot) ⟨0x0C, 9, 1⟩ = 1 ∧
      (t.slot slot).rose = some (max s.clock clk, natBit (s.rd (pSLOT slot) 0x0C).toNat 9) ∧ (t.slot slot).deferred = (s.slot slot).deferred) ∧
  (∀ (clk slot vout : Nat) (s : State), (slot < 8) → (s.slotState slot = slotRAMP ∨ s.slotState slot = slotON) → (s.get (pSLOT slot) F.SLOT.STS.PG = 0) →
    ∃ t, exec (.slotPgRise clk slot true vout) s = .next t ∧
      t.slotState slot = s.slotState slot ∧ t.get (pSLOT slot) F.SLOT.STS.PG = 0 ∧
      t.get (pSLOT slot) F.SLOT.STS.PG_DEFER = 1 ∧ (t.slot slot).deferred = true) ∧
  (∀ (clk slot vout : Nat) (s : State), (slot < 8) → (s.get (pSLOT slot) F.SLOT.STS.PG = 1) →
    ∃ t, exec (.slotPgFall clk slot vout) s = .next t ∧
      t.get (pSLOT slot) F.SLOT.STS.PG = 0 ∧ t.slotState slot = s.slotState slot ∧
      t.get (pSLOT slot) ⟨0x0C, 10, 1⟩ = 1) ∧
  (∀ (slot : Nat) (s : State), (slot < 8) → (s.slotState slot = slotCOOL) → ((s.slot slot).insEnd ≤ max s.clock (s.slot slot).coolEnd) → (s.held (pSLOT slot) = false) →
    ∃ t, exec (.slotCoolEnd slot) s = .next t ∧
      t.slotState slot = slotRAMP ∧
      (t.slot slot).rampAt = max s.clock (s.slot slot).coolEnd ∧ (t.slot slot).deferred = false) ∧
  (∀ (slot : Nat) (s : State), (slot < 8) → (s.slotState slot = slotWAIT) → ((s.slot slot).coolEnd ≤ max s.clock (s.slot slot).insEnd) → (s.held (pSLOT slot) = false) →
    ∃ t, exec (.slotInsertRemainderEnd slot) s = .next t ∧
      t.slotState slot = slotRAMP ∧
      (t.slot slot).rampAt = max s.clock (s.slot slot).insEnd) ∧
  (∀ (clk slot vout : Nat) (s : State), (slot < 8) → (s.get (pSLOT slot) F.SLOT.STS.PRESENT = 1) → (s.slotState slot ≠ slotOFF ∧ s.flag (pSLOT slot) F.SLOT.CFG.PRES_IGNORE = false) →
    ∃ t, exec (.slotRemoval clk slot vout) s = .next t ∧
      t.slotState slot = slotVACANT ∧
      t.get (pSLOT slot) F.SLOT.STS.PRESENT = 0 ∧ t.get (pSLOT slot) F.SLOT.STS.PG = 0 ∧
      (t.get (pSLOT slot) F.SLOT.STS.LATCH = if s.flag (pSLOT slot) F.SLOT.CFG.CLR_ON_REMOVE then 0 else s.get (pSLOT slot) F.SLOT.STS.LATCH) ∧
      t.get (pSLOT slot) ⟨0x0C, 11, 1⟩ = 1) ∧
  (∀ (clk slot : Nat) (s : State), (slot < 8) → (s.get (pSLOT slot) F.SLOT.STS.PRESENT = 0) → (s.slotState slot = slotVACANT) → (s.get (pSLOT slot) F.SLOT.STS.LATCH = 0) → (0 < s.get (pSLOT slot) F.SLOT.PG.INS_DB) →
    ∃ t, exec (.slotInsertion clk slot) s = .next t ∧
      t.slotState slot = slotWAIT ∧
      t.get (pSLOT slot) F.SLOT.STS.PRESENT = 1 ∧
      (t.slot slot).insEnd = max s.clock clk + s.get (pSLOT slot) F.SLOT.PG.INS_DB * 10 * msHns ∧
      t.get (pSLOT slot) ⟨0x0C, 12, 1⟩ = 1) ∧
  (∀ (clk slot vout : Nat) (s : State), (slot < 8) → ((s.slot slot).onPin = true) → (s.flag (pSLOT slot) F.SLOT.CFG.ON_PIN = true) →
    ∃ t, exec (.slotOnPinChange clk slot false vout) s = .next t ∧
      t.slotState slot = slotOFF ∧ t.get (pSLOT slot) F.SLOT.STS.PG = 0 ∧
      (t.slot slot).onPin = false ∧ (t.slot slot).onLow = some (max s.clock clk)) ∧
  (∀ (clk slot vout low : Nat) (s : State), (slot < 8) → ((s.slot slot).onPin = false ∧ (s.slot slot).onLow = some low ∧ low + msHns ≤ max s.clock clk) → (s.slotState slot = slotLATCHED ∧ s.get (pSLOT slot) F.SLOT.STS.LATCH = 1) → (s.held (pSLOT slot) = true) →
    ∃ t, exec (.slotOnPinChange clk slot true vout) s = .next t ∧
      t.slotState slot = slotWAIT ∧ t.get (pSLOT slot) F.SLOT.STS.LATCH = 0 ∧
      (t.slot slot).onPin = true)

/-- O50. R428–R432, R437, R449, R461, R463: the main inputs become valid and invalid, the FETs follow, a loss of the main input starts
a running tally's plan, its return ends it, and the early warning falls and rises. -/
def Obligations.InputSupplies : Prop :=
  (∀ (clk input vinA vinB vor gateNs : Nat) (ov other : Bool) (s : State), (s.guardOn = true ∧ input < 2) →
    ∃ t, exec (.inputInvalid clk input ov other vinA vinB vor gateNs) s = .next t ∧
      (t.get pSUPPLY (inValid input) = 0 ∧ t.get pSUPPLY (inOv input) = if ov then 1 else 0) ∧
      t.sinceOf input = none ∧
      (input = 0 → s.flag pSUPPLY F.SUPPLY.STS.A_VALID = true → t.supply.mainLost = true ∧ t.get pSUPPLY ⟨0x0C, 9, 1⟩ = 1 ∧ t.get pTALLY F.TALLY.STS.LEARNING = 0) ∧
      (input = 0 → s.flag pSUPPLY F.SUPPLY.STS.A_VALID = true → s.running pTALLY = true → s.get pTALLY F.TALLY.STS.PLAN = 0 → t.get pTALLY F.TALLY.STS.PLAN = 1)) ∧
  (∀ (clk input vinA vinB gateNs : Nat) (s : State), (s.guardOn = true ∧ input < 2) → (s.get pSUPPLY (inValid input) = 0) →
    ∃ t, exec (.inputValid clk input vinA vinB gateNs) s = .next t ∧
      t.get pSUPPLY (inValid input) = 1 ∧ t.get pSUPPLY (inOv input) = 0 ∧
      t.sinceOf input = some (max s.clock clk) ∧
      (s.inForce F.SUPPLY.CFG.MODE = 0 → t.get pSUPPLY F.SUPPLY.STS.FET = t.fetDiode)) ∧
  (∀ (clk input vinA vinB gateNs : Nat) (s : State), (s.guardOn = false ∧ input < 2) →
    ∃ t, exec (.inputValid clk input vinA vinB gateNs) s = .next t ∧
      t.sinceOf input = some (max s.clock clk) ∧
      t.regs = s.regs) ∧
  (∀ (vinA vor since : Nat) (s : State), (s.guardOn = true) → (s.supply.sinceA = some since ∧ s.supply.mainLost = true) →
    ∃ t, exec (.mainReturn vinA vor) s = .next t ∧
      t.clock = max s.clock (since + s.startDb) ∧
      t.supply.mainLost = false ∧ t.get pSUPPLY ⟨0x0C, 10, 1⟩ = 1 ∧
      (s.get pTALLY F.TALLY.STS.PLAN = 1 → t.get pTALLY F.TALLY.STS.PLAN = 0 ∧ t.get pTALLY F.TALLY.STS.SHED = 0 ∧ t.get pTALLY F.TALLY.STS.WARN = 0) ∧
      (s.get pTALLY F.TALLY.STS.PLAN = 2 → t.get pTALLY F.TALLY.STS.PLAN = 2)) ∧
  (∀ (vinA vinB gateNs p since : Nat) (s : State), (s.guardOn = true) → (s.inForce F.SUPPLY.CFG.PREF = p ∧ s.inForce F.SUPPLY.CFG.MODE = 1 ∧ s.usable p = true ∧ s.sinceOf p = some since) →
    ∃ t, exec (.supplyReturnPref vinA vinB gateNs) s = .next t ∧
      t.clock = max s.clock (since + s.inForce F.SUPPLY.TIMES.RETURN_DB * msHns) ∧
      t.get pSUPPLY F.SUPPLY.STS.FET = 2 ^ p) ∧
  (∀ (clk input : Nat) (off : Bool) (s : State), (s.guardOn = true ∧ input < 2) → (s.inForce F.SUPPLY.CFG.MODE = 0) →
    ∃ t, exec (.reverseComparator clk input off) s = .next t ∧
      natBit t.supply.revOff input = off ∧
      t.get pSUPPLY F.SUPPLY.STS.FET = t.fetDiode ∧
      t.pwr = s.pwr) ∧
  (∀ (clk : Nat) (s : State), (s.guardOn = true) →
    ∃ t, exec (.vorBelowPfw clk) s = .next t ∧
      t.get pSUPPLY F.SUPPLY.STS.PFW = 1 ∧
      (s.get pSUPPLY F.SUPPLY.STS.PFW = 0 → t.get pSUPPLY ⟨0x0C, 12, 1⟩ = 1)) ∧
  (∀ (clk : Nat) (s : State), (s.guardOn = true) → (s.get pSUPPLY F.SUPPLY.STS.PG_CORE = 1 ∧ s.get pTALLY F.TALLY.STS.WARN = 0) →
    ∃ t, exec (.pfwRelease clk) s = .next t ∧
      t.get pSUPPLY F.SUPPLY.STS.PFW = 0 ∧
      (∀ k : Nat, k ≠ regKey pSUPPLY F.SUPPLY.STS.PFW.off → tabGet regDefault t.regs k = tabGet regDefault s.regs k))

/-- O51. R43, R433–R437, R448: the core rails rise in the up order to PG_CORE, time out and fault into the power-down, fall in order
into Keep, and start again. -/
def Obligations.CoreRails : Prop :=
  (∀ (since : Nat) (s : State), (s.startSince = some since) → (s.pwr.power = Power.keep ∧ s.supply.phase = RailPhase.off ∧ s.supply.rfAt = none) → (s.get pSUPPLY F.SUPPLY.STS.RF_LATCH = 0) →
    ∃ t, exec (.railSequenceStart) s = .next t ∧
      t.clock = max s.clock (since + s.startDb) ∧
      t.supply.phase = RailPhase.ramp 0 t.clock ∧ t.get pSUPPLY F.SUPPLY.STS.SEQ_BUSY = 1 ∧
      natBit t.supply.causes 2 = true ∧ t.pwr = s.pwr) ∧
  (∀ (enter i since : Nat) (s : State), (s.supply.phase = RailPhase.ramp i since ∧ i < 5) → (since ≤ enter ∧ enter ≤ since + s.inForce F.SUPPLY.SEQ.RAMP_TO * msHns) →
    ∃ t, exec (.railEnStep enter) s = .next t ∧
      t.clock = max s.clock (enter + s.inForce F.SUPPLY.SEQ.SEQ_DLY * 200000) ∧
      t.supply.phase = RailPhase.ramp (i + 1) t.clock ∧
      t.regs = s.regs) ∧
  (∀ (enter since : Nat) (s : State), (s.supply.phase = RailPhase.ramp 5 since) → (since ≤ enter ∧ enter ≤ since + s.inForce F.SUPPLY.SEQ.RAMP_TO * msHns) →
    ∃ t, exec (.pgCoreRelease enter) s = .next t ∧
      t.clock = max s.clock (enter + s.inForce F.SUPPLY.SEQ.PG_DLY * msHns) ∧
      t.supply.phase = RailPhase.up ∧ t.pwr.power = Power.coreReset ∧
      t.get pSUPPLY F.SUPPLY.STS.PG_CORE = 1 ∧ t.get pSUPPLY F.SUPPLY.STS.SEQ_BUSY = 0) ∧
  (∀ (i since : Nat) (s : State), (s.supply.phase = RailPhase.ramp i since ∧ i < 6) →
    ∃ t, exec (.railRampTimeout) s = .next t ∧
      t.get pSUPPLY F.SUPPLY.RFAULT.all = 2 ^ 31 + nth upOrder i 0 ∧
      t.supply.phase = RailPhase.lower t.clock ∧ t.supply.rfAt = some (t.clock + 1000 * msHns) ∧
      t.pwr.power = Power.coreReset ∧ natBit t.supply.causes 6 = true ∧
      t.clock = max s.clock (since + s.inForce F.SUPPLY.SEQ.RAMP_TO * msHns)) ∧
  (∀ (clk map r : Nat) (above : Bool) (s : State), (s.guardOn = true ∧ s.supply.phase = RailPhase.up) → (upOrder.find? (natBit map) = some r) →
    ∃ t, exec (.railFault clk map above) s = .next t ∧
      (t.get pSUPPLY F.SUPPLY.RFAULT.all = 2 ^ 31 + 8 * (if above then 1 else 0) + r) ∧
      t.get pSUPPLY F.SUPPLY.STS.PG_CORE = 0 ∧ t.get pSUPPLY F.SUPPLY.STS.PFW = 1 ∧
      t.supply.phase = RailPhase.lower (max s.clock clk) ∧ t.pwr.power = Power.coreReset ∧
      t.get pSUPPLY ⟨0x0C, 11, 1⟩ = 1 ∧
      t.get pSUPPLY F.SUPPLY.RFT.T = 0 ∧ (t.line lineRail).toggled = [] ∧
      ((t.line lineRail).waiting = if s.coreOn then [({ guardRec 0 0 0 (leBytes 8 (s.advance clk).now) with t := max s.clock clk } : Rec)] else [])) ∧
  (∀ (clk since : Nat) (s : State), (s.supply.phase = RailPhase.lower since) →
    ∃ t, exec (.railEnFallStep clk) s = .next t ∧
      t.clock = max s.clock (since + 10 * usHns) ∧
      t.supply.phase = RailPhase.fall 0 t.clock ∧
      t.regs = s.regs) ∧
  (∀ (clk i since : Nat) (s : State), (s.supply.phase = RailPhase.fall i since) →
    ∃ t, exec (.railEnFallStep clk) s = .next t ∧
      t.clock = max s.clock (min clk (since + msHns)) ∧
      (i < 4 → t.supply.phase = RailPhase.fall (i + 1) t.clock ∧ t.regs = s.regs) ∧
      (4 ≤ i → t.supply.phase = RailPhase.off ∧ t.pwr.power = Power.keep ∧ (∀ n, n < 8 → t.slotState n = slotOFF))) ∧
  (∀ (due since : Nat) (s : State), (s.supply.rfAt = some due) → (s.pwr.power = Power.keep ∧ s.supply.phase = RailPhase.off) → (s.startSince = some since) → (s.get pSUPPLY F.SUPPLY.STS.RF_LATCH = 0 ∧ since + s.startDb ≤ max s.clock due) →
    ∃ t, exec (.railFaultRestart) s = .next t ∧
      t.clock = max s.clock due ∧
      t.supply.phase = RailPhase.ramp 0 t.clock ∧ t.supply.rfAt = none ∧
      t.get pSUPPLY F.SUPPLY.STS.SEQ_BUSY = 1) ∧
  (∀ (clk : Nat) (s : State), ((s.advance clk).accepts pSUPPLY = true) →
    ∃ t, exec (.supplyRfClr clk) s = .next t ∧
      t.get pSUPPLY F.SUPPLY.STS.RF_LATCH = 0 ∧ t.get pSUPPLY F.SUPPLY.STS.RFCNT = 0 ∧
      (∀ k : Nat, k ≠ regKey pSUPPLY F.SUPPLY.STS.RFCNT.off → tabGet regDefault t.regs k = tabGet regDefault s.regs k))

/-- O52. R454–R456, R461, R462, R467, R469: the tally measures the bank, steps its plan, completes or times out class A, and learns the
capacitance. -/
def Obligations.TallyAndPlan : Prop :=
  (∀ (clk : Nat) (adc : List Nat) (s : State), (s.guardOn = true) → (s.running pTALLY = false) →
    ∃ t, exec (.tallyUpdate clk adc) s = .next t ∧
      t.get pTALLY F.TALLY.VHUP.V = s.vhupOf adc % 2 ^ F.TALLY.VHUP.V.w ∧
      (t.get pTALLY F.TALLY.STS.HUP_FAULT = if s.hupBad adc then 1 else 0) ∧
      (t.get pTALLY F.TALLY.E_SAFE.UJ = (if s.hupBad adc then 0 else s.eSafe (s.vhupOf adc) s.pAll) % 2 ^ F.TALLY.E_SAFE.UJ.w) ∧
      t.get pTALLY F.TALLY.STS.PLAN = s.get pTALLY F.TALLY.STS.PLAN) ∧
  (∀ (clk : Nat) (adc : List Nat) (s : State), (s.guardOn = true) → (s.running pTALLY = true) → (s.get pTALLY F.TALLY.STS.PLAN ≠ 1) →
    ∃ t, exec (.tallyUpdate clk adc) s = .next t ∧
      t.get pTALLY F.TALLY.VHUP.V = s.vhupOf adc % 2 ^ F.TALLY.VHUP.V.w ∧
      (t.get pTALLY F.TALLY.STS.RESERVE_OK = if max (s.get pTALLY F.TALLY.RES_C.UJ) (s.get pTALLY F.TALLY.RES_W.UJ) ≤ (if s.hupBad adc then 0 else s.eSafe (s.vhupOf adc) s.pAll) then 1 else 0) ∧
      t.tally.recSeen = s.get pBOOK F.BOOK.WR_SEQ.SEQ ∧ t.tally.relSeen = s.get pSTAKE F.STAKE.RELEASED.COUNT ∧
      t.get pTALLY F.TALLY.STS.PLAN = s.get pTALLY F.TALLY.STS.PLAN ∧ t.get pTALLY F.TALLY.STS.SHED = s.get pTALLY F.TALLY.STS.SHED) ∧
  (∀ (clk : Nat) (adc : List Nat) (s : State), (s.guardOn = true) → (s.running pTALLY = true) → (s.get pTALLY F.TALLY.STS.PLAN = 1) → (s.pwr.target ≠ some Power.watch) → (s.hupBad adc = true ∧ s.isShed 2 = false) →
    ∃ t, exec (.tallyUpdate clk adc) s = .next t ∧
      t.get pTALLY F.TALLY.STS.PLAN = 2 ∧ t.get pTALLY F.TALLY.STS.WARN = 1 ∧
      t.get pTALLY F.TALLY.STS.SHED = 7 ∧
      t.tally.aStart = some (max s.clock clk)) ∧
  (∀ (clk : Nat) (s : State), (s.guardOn = true) → (s.get pTALLY F.TALLY.STS.PLAN = 2) → (s.aDone = true) →
    ∃ t, exec (.classAComplete clk) s = .next t ∧
      t.pwr.power = Power.coreReset ∧ t.supply.phase = RailPhase.lower (max s.clock clk) ∧
      t.get pTALLY F.TALLY.STS.PLAN = 0 ∧
      t.get pTALLY F.TALLY.LAST_PLAN.all = 2 ^ 31 + 32 + 16 * s.get pTALLY F.TALLY.STS.WARN + s.get pTALLY F.TALLY.STS.SHED) ∧
  (∀ (since : Nat) (s : State), (s.guardOn = true) → (s.get pTALLY F.TALLY.STS.PLAN = 2) → (s.tally.aStart = some since) →
    ∃ t, exec (.classATimeout) s = .next t ∧
      t.clock = max s.clock (since + s.get pTALLY F.TALLY.TIMES.A_TIME * 10 * usHns) ∧
      t.pwr.power = Power.coreReset ∧
      t.get pTALLY F.TALLY.LAST_PLAN.all = 2 ^ 31 + 64 + 16 * s.get pTALLY F.TALLY.STS.WARN + s.get pTALLY F.TALLY.STS.SHED) ∧
  (∀ (clk : Nat) (s : State), ((s.advance clk).accepts pTALLY = true) → (s.running pTALLY = true ∧ s.held pTALLY = false ∧ s.get pTALLY F.TALLY.STS.LEARNING = 0) → (s.mayLearn = true) →
    ∃ t, exec (.tallyLearn clk) s = .next t ∧
      t.get pTALLY F.TALLY.STS.LEARNING = 1 ∧ t.get pTALLY F.TALLY.CTL.LEARN = 1 ∧
      t.tally.learnEnd = some (max s.clock clk + s.get pTALLY F.TALLY.LEARN.LEARN_MS * msHns) ∧
      t.tally.v1 = s.get pTALLY F.TALLY.VHUP.V) ∧
  (∀ (s : State), (s.guardOn = true) → (s.running pTALLY = true ∧ s.held pTALLY = false ∧ s.get pTALLY F.TALLY.STS.LEARNING = 0) → (s.flag pTALLY F.TALLY.CFG.AUTO_LEARN = true) → (s.mayLearn = true) →
    ∃ t, exec (.tallyAutoLearn) s = .next t ∧
      t.clock = max s.clock (s.tally.lastLearn + s.learnPeriod) ∧
      t.get pTALLY F.TALLY.STS.LEARNING = 1 ∧
      t.tally.lastLearn = t.clock) ∧
  (∀ (due : Nat) (s : State), (s.guardOn = true) → (s.tally.learnEnd = some due) → (s.get pTALLY F.TALLY.VHUP.V < s.tally.v1 ∧ s.tally.v1 ≤ 100 * (s.tally.v1 - s.get pTALLY F.TALLY.VHUP.V)) → (0 < s.get pTALLY F.TALLY.LEARN.LOAD_OHM) →
    ∃ t, exec (.tallyLearnEnd) s = .next t ∧
      t.clock = max s.clock due ∧
      t.get pTALLY F.TALLY.C_LEARN.UF = learned s.tally.v1 (s.get pTALLY F.TALLY.VHUP.V) (s.get pTALLY F.TALLY.LEARN.LEARN_MS) (s.get pTALLY F.TALLY.LEARN.LOAD_OHM) % 2 ^ F.TALLY.C_LEARN.UF.w ∧
      t.get pTALLY F.TALLY.STS.C_VALID = 1 ∧ t.get pTALLY F.TALLY.STS.LEARNING = 0)

/-- O53. R473–R483, R485: the operations of the Monument that make, bring in, replace and remove keys begin with the result that their rows
name, in the state and on the inputs that R481 asks for; an OP outside the table ends with code 0x0B. -/
def Obligations.MonumentKeys : Prop :=
  (∀ (clk : Nat) (stage : Bool) (s : State), ((s.advance clk).accepts pMONUMENT = true) → (s.running pMONUMENT = true ∧ s.held pMONUMENT = false ∧ s.get pMONUMENT F.MONUMENT.STS.BUSY = 0) → (s.mon.zeroing = none) → (s.monReady = true) → (2 ≤ s.mon.fuse ∧ s.mon.fuse ≤ 4) → (1 ≤ s.monLen ∧ s.monLen ≤ 64) → (attrBad s.monAttr 2 = false) → (firstCode (s.placeTests stage) = 0) →
    ∃ t, exec (.monumentDerive clk stage) s = .next t ∧
      t.mon.op = some (⟨max s.clock clk, 1, 0, (s.place stage ((Config.hmacSha384 (tabGet (fun _ : Nat => ([] : List Byte)) s.mon.roots s.mon.fuse) (beBytes 4 1 ++ s.monIn ++ [0] ++ beBytes 8 s.pwr.serial ++ beBytes 1 s.mon.fuse ++ beBytes 4 256)).take 32) (s.madeAttr s.monAttr 2) true []).handle, (s.place stage ((Config.hmacSha384 (tabGet (fun _ : Nat => ([] : List Byte)) s.mon.roots s.mon.fuse) (beBytes 4 1 ++ s.monIn ++ [0] ++ beBytes 8 s.pwr.serial ++ beBytes 1 s.mon.fuse ++ beBytes 4 256)).take 32) (s.madeAttr s.monAttr 2) true []).out, (s.place stage ((Config.hmacSha384 (tabGet (fun _ : Nat => ([] : List Byte)) s.mon.roots s.mon.fuse) (beBytes 4 1 ++ s.monIn ++ [0] ++ beBytes 8 s.pwr.serial ++ beBytes 1 s.mon.fuse ++ beBytes 4 256)).take 32) (s.madeAttr s.monAttr 2) true []).writes, 0, []⟩ : MonOp) ∧
      t.get pMONUMENT F.MONUMENT.STS.BUSY = 1) ∧
  (∀ (clk : Nat) (i : Nat) (k : KeySlot) (s : State), ((s.advance clk).accepts pMONUMENT = true) → (s.running pMONUMENT = true ∧ s.held pMONUMENT = false ∧ s.get pMONUMENT F.MONUMENT.STS.BUSY = 0) → (s.mon.zeroing = none) → (s.monReady = true) → (2 ≤ s.mon.fuse ∧ s.mon.fuse ≤ 4) → (1 ≤ s.monLen ∧ s.monLen ≤ 64) → (attrBad s.monAttr 2 = false) → (s.monDst = some (i, k)) →
    ∃ t, exec (.monumentDerive clk true) s = .next t ∧
      t.mon.op = some (⟨max s.clock clk, 1, 0, s.dstHandle, [], [(i, { k.setHalf (3 - k.half) (some ((Config.hmacSha384 (tabGet (fun _ : Nat => ([] : List Byte)) s.mon.roots s.mon.fuse) (beBytes 4 1 ++ s.monIn ++ [0] ++ beBytes 8 s.pwr.serial ++ beBytes 1 s.mon.fuse ++ beBytes 4 256)).take 32)) with stage := 3 - k.half + 4 })], 0, []⟩ : MonOp) ∧
      t.get pMONUMENT F.MONUMENT.STS.BUSY = 1) ∧
  (∀ (clk : Nat) (stage : Bool) (s : State), ((s.advance clk).accepts pMONUMENT = true) → (s.running pMONUMENT = true ∧ s.held pMONUMENT = false ∧ s.get pMONUMENT F.MONUMENT.STS.BUSY = 0) → (s.mon.zeroing = none) → (s.monReady = true) → (2 ≤ s.mon.fuse ∧ s.mon.fuse ≤ 4) → (s.monLen ≤ 512) → (attrBad s.monAttr 3 = false) → (firstCode (s.placeTests stage) = 0) → (s.trngOk = true) →
    ∃ t, exec (.monumentGenerate clk stage) s = .next t ∧
      t.mon.op = some (⟨max s.clock clk, 2, 0, (s.place stage (s.rnd 32) (s.madeAttr s.monAttr 3) true (pubOf s.monAttr (s.rnd 32))).handle, (s.place stage (s.rnd 32) (s.madeAttr s.monAttr 3) true (pubOf s.monAttr (s.rnd 32))).out, (s.place stage (s.rnd 32) (s.madeAttr s.monAttr 3) true (pubOf s.monAttr (s.rnd 32))).writes, 0, []⟩ : MonOp) ∧
      t.get pMONUMENT F.MONUMENT.STS.BUSY = 1) ∧
  (∀ (clk : Nat) (s : State), ((s.advance clk).accepts pMONUMENT = true) → (s.running pMONUMENT = true ∧ s.held pMONUMENT = false ∧ s.get pMONUMENT F.MONUMENT.STS.BUSY = 0) → (s.mon.zeroing = none) → (s.monReady = true) → (s.mon.fuse = 2) → (s.monLen ≤ 512) → ((s.key 1).filled = false) → (s.trngOk = true) →
    ∃ t, exec (.monumentGenIdent clk) s = .next t ∧
      t.mon.op = some (⟨max s.clock clk, 3, 0, s.rndTag 0 * 256 + 1, Config.ecdsaPub (s.rnd 32), [(1, fillSlot (s.rnd 32) 0x33780004 (s.rndTag 0))], 0, []⟩ : MonOp) ∧
      t.get pMONUMENT F.MONUMENT.STS.BUSY = 1) ∧
  (∀ (clk : Nat) (stage : Bool) (s : State), ((s.advance clk).accepts pMONUMENT = true) → (s.running pMONUMENT = true ∧ s.held pMONUMENT = false ∧ s.get pMONUMENT F.MONUMENT.STS.BUSY = 0) → (s.mon.zeroing = none) → (s.monReady = true) → (s.mon.fuse = 2) → (s.monLen = 32) → (attrBad s.monAttr 0 = false) → (firstCode (s.placeTests stage) = 0) →
    ∃ t, exec (.monumentImport clk stage) s = .next t ∧
      t.mon.op = some (⟨max s.clock clk, 4, 0, (s.place stage s.monIn (s.madeAttr s.monAttr 0) false []).handle, (s.place stage s.monIn (s.madeAttr s.monAttr 0) false []).out, (s.place stage s.monIn (s.madeAttr s.monAttr 0) false []).writes, 0, []⟩ : MonOp) ∧
      t.get pMONUMENT F.MONUMENT.STS.BUSY = 1) ∧
  (∀ (clk : Nat) (stage : Bool) (i : Nat) (k : KeySlot) (s : State), ((s.advance clk).accepts pMONUMENT = true) → (s.running pMONUMENT = true ∧ s.held pMONUMENT = false ∧ s.get pMONUMENT F.MONUMENT.STS.BUSY = 0) → (s.mon.zeroing = none) → (s.monReady = true) → (s.mon.fuse = 2 ∨ s.mon.fuse = 3) → (s.monLen = 60) → (attrBad s.monAttr 1 = false) → (s.monSrc = some (i, k)) → (s.mayUse k useWRAP = true) → (firstCode (s.placeTests stage) = 0) →
    ∃ t, exec (.monumentUnwrap clk stage) s = .next t ∧
      (t.mon.op = match Config.gcmOpen k.key (s.monIn.take 12) (leBytes 4 s.monAttr) ((s.monIn.drop 12).take 32) (s.monIn.drop 44) with
        | none => some (⟨max s.clock clk, 5, 8, 0, [], [], 0, []⟩ : MonOp)
        | some p => some (⟨max s.clock clk, 5, 0, (s.place stage p (s.madeAttr s.monAttr 1) false []).handle, (s.place stage p (s.madeAttr s.monAttr 1) false []).out, (s.place stage p (s.madeAttr s.monAttr 1) false []).writes, 0, []⟩ : MonOp)) ∧
      t.get pMONUMENT F.MONUMENT.STS.BUSY = 1) ∧
  (∀ (clk : Nat) (i : Nat) (k : KeySlot) (s : State), ((s.advance clk).accepts pMONUMENT = true) → (s.running pMONUMENT = true ∧ s.held pMONUMENT = false ∧ s.get pMONUMENT F.MONUMENT.STS.BUSY = 0) → (s.mon.zeroing = none) → (s.monReady = true) → (2 ≤ s.mon.fuse ∧ s.mon.fuse ≤ 4) → (s.monLen = 48) → (s.monDst = some (i, k)) → (k.stage % 4 ≠ 0) →
    ∃ t, exec (.monumentProve clk) s = .next t ∧
      (t.mon.op = if s.monIn = (Config.hmacSha384 ((k.halfOf (k.stage % 4)).getD []) (([0x4D, 0x4F, 0x4E, 0x55, 0x4D, 0x45, 0x4E, 0x54, 0x20, 0x50, 0x52, 0x4F, 0x4F, 0x46] : List Byte) ++ beBytes 2 s.dstHandle ++ beBytes 2 (k.gen + 1)))
        then some (⟨max s.clock clk, 12, 0, s.dstHandle, [], [(i, { k with stage := k.stage % 4 + 4 })], 0, []⟩ : MonOp)
        else some (⟨max s.clock clk, 12, 5, s.dstHandle, [], [(i, { k.setHalf (k.stage % 4) none with stage := 0 })], 0, []⟩ : MonOp)) ∧
      t.get pMONUMENT F.MONUMENT.STS.BUSY = 1) ∧
  (∀ (clk : Nat) (i : Nat) (k : KeySlot) (s : State), ((s.advance clk).accepts pMONUMENT = true) → (s.running pMONUMENT = true ∧ s.held pMONUMENT = false ∧ s.get pMONUMENT F.MONUMENT.STS.BUSY = 0) → (s.mon.zeroing = none) → (s.monReady = true) → (2 ≤ s.mon.fuse ∧ s.mon.fuse ≤ 4) → (s.monLen ≤ 512) → (s.monDst = some (i, k)) → (natBit k.stage 2 = true) → (s.get pTALLY F.TALLY.STS.PLAN ≠ 2) →
    ∃ t, exec (.monumentCommit clk) s = .next t ∧
      t.mon.op = some (⟨max s.clock clk, 13, 0, s.dstHandle, [], [], 0, []⟩ : MonOp) ∧
      t.get pMONUMENT F.MONUMENT.STS.BUSY = 1 ∧
      t.mon.request = some (i, max s.clock clk) ∧
      t.mon.slots = s.mon.slots) ∧
  (∀ (clk : Nat) (i : Nat) (k : KeySlot) (s : State), ((s.advance clk).accepts pMONUMENT = true) → (s.running pMONUMENT = true ∧ s.held pMONUMENT = false ∧ s.get pMONUMENT F.MONUMENT.STS.BUSY = 0) → (s.mon.zeroing = none) → (s.monReady = true) → (2 ≤ s.mon.fuse ∧ s.mon.fuse ≤ 4) → (s.monLen ≤ 512) → (s.monDst = some (i, k)) → (k.stage % 4 ≠ 0) →
    ∃ t, exec (.monumentDiscard clk) s = .next t ∧
      t.mon.op = some (⟨max s.clock clk, 14, 0, s.dstHandle, [], [(i, { k.setHalf (k.stage % 4) none with stage := 0 })], 0, []⟩ : MonOp) ∧
      t.get pMONUMENT F.MONUMENT.STS.BUSY = 1) ∧
  (∀ (clk : Nat) (i : Nat) (k : KeySlot) (s : State), ((s.advance clk).accepts pMONUMENT = true) → (s.running pMONUMENT = true ∧ s.held pMONUMENT = false ∧ s.get pMONUMENT F.MONUMENT.STS.BUSY = 0) → (s.mon.zeroing = none) → (s.monReady = true) → (2 ≤ s.mon.fuse ∧ s.mon.fuse ≤ 4) → (s.monLen ≤ 512) → (s.monDst = some (i, k)) →
    ∃ t, exec (.monumentErase clk) s = .next t ∧
      t.mon.op = some (⟨max s.clock clk, 15, 0, s.dstHandle, [], [(i, KeySlot.empty)], 0, []⟩ : MonOp) ∧
      t.get pMONUMENT F.MONUMENT.STS.BUSY = 1) ∧
  (∀ (clk : Nat) (target : Nat) (s : State), ((s.advance clk).accepts pMONUMENT = true) → (s.running pMONUMENT = true ∧ s.held pMONUMENT = false ∧ s.get pMONUMENT F.MONUMENT.STS.BUSY = 0) → (s.mon.zeroing = none) → (s.monLen = 8) → (s.rd pMONUMENT 0x400 = BitVec.ofNat 32 target ∧ target < 8) → (s.rd pMONUMENT 0x404 = 0x4C430001) → (arrow s.mon.fuse target = true) → (s.get pSUPPLY F.SUPPLY.STS.A_VALID = 1 ∨ s.get pSUPPLY F.SUPPLY.STS.B_VALID = 1) → (s.trngOk = true) →
    ∃ t, exec (.monumentTransition clk) s = .next t ∧
      t.mon.op = some (⟨max s.clock clk, 17, 0, 0, [], [], target, s.rnd 48⟩ : MonOp) ∧
      t.get pMONUMENT F.MONUMENT.STS.BUSY = 1 ∧
      t.mon.fuse = s.mon.fuse) ∧
  (∀ (clk : Nat) (op : Nat) (s : State), ((s.advance clk).accepts pMONUMENT = true) → (s.running pMONUMENT = true ∧ s.held pMONUMENT = false ∧ s.get pMONUMENT F.MONUMENT.STS.BUSY = 0) → (s.mon.zeroing = none) → (op % 256 = 0 ∨ (17 < op % 256 ∧ op % 256 < 24) ∨ 26 < op % 256) →
    ∃ t, exec (.monumentOpReserved clk op) s = .next t ∧
      t.mon.op = some (⟨max s.clock clk, op % 256, 11, 0, [], [], 0, []⟩ : MonOp) ∧
      t.get pMONUMENT F.MONUMENT.STS.BUSY = 1 ∧
      t.mon.slots = s.mon.slots)

/-- O54. R478–R483, R486–R488: the operations of the Monument that use a key, report on one or serve MKA begin with the result that their
rows name. -/
def Obligations.MonumentUse : Prop :=
  (∀ (clk : Nat) (i j : Nat) (d k : KeySlot) (s : State), ((s.advance clk).accepts pMONUMENT = true) → (s.running pMONUMENT = true ∧ s.held pMONUMENT = false ∧ s.get pMONUMENT F.MONUMENT.STS.BUSY = 0) → (s.mon.zeroing = none) → (s.monReady = true) → (2 ≤ s.mon.fuse ∧ s.mon.fuse ≤ 4) → (s.monLen = 12) → (s.monDst = some (i, d) ∧ s.monSrc = some (j, k)) → (attrExport d.attr = true ∧ s.stateOk d.attr = true ∧ s.mayUse k useWRAP = true) →
    ∃ t, exec (.monumentWrap clk) s = .next t ∧
      let c : List Byte × List Byte := Config.gcmSeal k.key s.monIn (leBytes 4 d.attr) d.key
      t.mon.op = some (⟨max s.clock clk, 6, 0, s.dstHandle, s.monIn ++ c.1 ++ c.2, [], 0, []⟩ : MonOp) ∧
      t.get pMONUMENT F.MONUMENT.STS.BUSY = 1) ∧
  (∀ (clk : Nat) (i : Nat) (k : KeySlot) (s : State), ((s.advance clk).accepts pMONUMENT = true) → (s.running pMONUMENT = true ∧ s.held pMONUMENT = false ∧ s.get pMONUMENT F.MONUMENT.STS.BUSY = 0) → (s.mon.zeroing = none) → (s.monReady = true) → (2 ≤ s.mon.fuse ∧ s.mon.fuse ≤ 4) → (s.monLen ≤ 512) → (s.monSrc = some (i, k)) → (s.mayUse k useHMAC = true ∨ s.mayUse k useLEASE = true) →
    ∃ t, exec (.monumentMac clk) s = .next t ∧
      t.mon.op = some (⟨max s.clock clk, 7, 0, s.srcHandle, Config.hmacSha384 k.key s.monIn, [], 0, []⟩ : MonOp) ∧
      t.get pMONUMENT F.MONUMENT.STS.BUSY = 1) ∧
  (∀ (clk : Nat) (i : Nat) (k : KeySlot) (s : State), ((s.advance clk).accepts pMONUMENT = true) → (s.running pMONUMENT = true ∧ s.held pMONUMENT = false ∧ s.get pMONUMENT F.MONUMENT.STS.BUSY = 0) → (s.mon.zeroing = none) → (s.monReady = true) → (2 ≤ s.mon.fuse ∧ s.mon.fuse ≤ 4) → (48 ≤ s.monLen ∧ s.monLen ≤ 512) → (s.monSrc = some (i, k)) → (s.mayUse k useHMAC = true ∨ s.mayUse k useLEASE = true) →
    ∃ t, exec (.monumentMacVerify clk) s = .next t ∧
      (t.mon.op = if s.monIn.take 48 = Config.hmacSha384 k.key (s.monIn.drop 48)
        then some (⟨max s.clock clk, 8, 0, s.srcHandle, [], [], 0, []⟩ : MonOp)
        else some (⟨max s.clock clk, 8, 8, 0, [], [], 0, []⟩ : MonOp)) ∧
      t.get pMONUMENT F.MONUMENT.STS.BUSY = 1) ∧
  (∀ (clk : Nat) (i : Nat) (k : KeySlot) (s : State), ((s.advance clk).accepts pMONUMENT = true) → (s.running pMONUMENT = true ∧ s.held pMONUMENT = false ∧ s.get pMONUMENT F.MONUMENT.STS.BUSY = 0) → (s.mon.zeroing = none) → (s.monReady = true) → (2 ≤ s.mon.fuse ∧ s.mon.fuse ≤ 4) → (s.monLen = 48) → (s.monSrc = some (i, k)) → (s.mayUse k useSIGN = true ∧ attrType k.attr = 3) → (s.trngOk = true) →
    ∃ t, exec (.monumentSign clk) s = .next t ∧
      t.mon.op = some (⟨max s.clock clk, 9, 0, s.srcHandle, Config.ecdsaSign k.key s.monIn (s.rnd 48), [], 0, []⟩ : MonOp) ∧
      t.get pMONUMENT F.MONUMENT.STS.BUSY = 1) ∧
  (∀ (clk : Nat) (i : Nat) (k : KeySlot) (s : State), ((s.advance clk).accepts pMONUMENT = true) → (s.running pMONUMENT = true ∧ s.held pMONUMENT = false ∧ s.get pMONUMENT F.MONUMENT.STS.BUSY = 0) → (s.mon.zeroing = none) → (s.monReady = true) → (2 ≤ s.mon.fuse ∧ s.mon.fuse ≤ 4) → (s.monLen ≤ 512) → (s.monSrc = some (i, k)) → (s.stateOk k.attr = true ∧ attrType k.attr = 3) →
    ∃ t, exec (.monumentPubkey clk) s = .next t ∧
      t.mon.op = some (⟨max s.clock clk, 10, 0, s.srcHandle, Config.ecdsaPub k.key, [], 0, []⟩ : MonOp) ∧
      t.get pMONUMENT F.MONUMENT.STS.BUSY = 1) ∧
  (∀ (clk : Nat) (i : Nat) (k : KeySlot) (s : State), ((s.advance clk).accepts pMONUMENT = true) → (s.running pMONUMENT = true ∧ s.held pMONUMENT = false ∧ s.get pMONUMENT F.MONUMENT.STS.BUSY = 0) → (s.mon.zeroing = none) → (s.monReady = true) → (2 ≤ s.mon.fuse ∧ s.mon.fuse ≤ 4) → (s.monLen = 32) → (s.monDst = some (i, k)) → ((s.key 1).filled = true) → (attrInternal k.attr = true) → (s.trngOk = true) →
    ∃ t, exec (.monumentAttest clk) s = .next t ∧
      let st : List Byte := (s.advance clk).statement k
      t.mon.op = some (⟨max s.clock clk, 11, 0, s.dstHandle, st ++ Config.ecdsaSign (s.key 1).key (Config.sha384 st) (s.rnd 48), [], 0, []⟩ : MonOp) ∧
      t.get pMONUMENT F.MONUMENT.STS.BUSY = 1) ∧
  (∀ (clk : Nat) (i : Nat) (k : KeySlot) (s : State), ((s.advance clk).accepts pMONUMENT = true) → (s.running pMONUMENT = true ∧ s.held pMONUMENT = false ∧ s.get pMONUMENT F.MONUMENT.STS.BUSY = 0) → (s.mon.zeroing = none) → (s.monDst = some (i, k)) →
    ∃ t, exec (.monumentInfo clk) s = .next t ∧
      t.mon.op = some (⟨max s.clock clk, 16, 0, s.dstHandle, leBytes 4 k.attr ++ leBytes 4 k.commit ++ leBytes 4 k.stage, [], 0, []⟩ : MonOp) ∧
      t.get pMONUMENT F.MONUMENT.STS.BUSY = 1) ∧
  (∀ (clk : Nat) (i : Nat) (k : KeySlot) (s : State), ((s.advance clk).accepts pMONUMENT = true) → (s.running pMONUMENT = true ∧ s.held pMONUMENT = false ∧ s.get pMONUMENT F.MONUMENT.STS.BUSY = 0) → (s.mon.zeroing = none) → (s.monReady = true) → (s.mon.fuse = 3) → (s.monLen ≤ 32) → (s.monSrc = some (i, k)) → (attrType k.attr = 4 ∧ s.stateOk k.attr = true ∧ attrBad s.monAttr 2 = false) → (2 ≤ s.emptySlots.length) → (s.trngOk = true) →
    ∃ t, exec (.monumentMkaKdf clk) s = .next t ∧
      let a : Nat := s.rndSlot 0
      let b : Nat := nth (s.emptySlots.filter (fun x : Nat => x != a)) (s.freeVal 21 % (s.emptySlots.filter (fun x : Nat => x != a)).length) 0
      let kek : KeySlot := fillSlot (Config.mkaKdf k.key labelKEK (slice s.monIn 0 16) 32) (s.mkaAttr 2 useMKA) (s.rndTag 0)
      let ick : KeySlot := fillSlot (Config.mkaKdf k.key labelICK (slice s.monIn 0 16) 32) (s.mkaAttr 2 useMKA) (s.rndTag 1)
      t.mon.op = some (⟨max s.clock clk, 24, 0, handleNo a kek, leBytes 2 (handleNo a kek) ++ leBytes 2 (handleNo b ick), [(a, kek), (b, ick)], 0, []⟩ : MonOp) ∧
      t.get pMONUMENT F.MONUMENT.STS.BUSY = 1) ∧
  (∀ (clk : Nat) (i : Nat) (k : KeySlot) (s : State), ((s.advance clk).accepts pMONUMENT = true) → (s.running pMONUMENT = true ∧ s.held pMONUMENT = false ∧ s.get pMONUMENT F.MONUMENT.STS.BUSY = 0) → (s.mon.zeroing = none) → (s.monReady = true) → (s.mon.fuse = 3) → (s.monLen ≤ 512) → (s.monSrc = some (i, k)) → (s.mayUse k useMKA = true) →
    ∃ t, exec (.monumentMkaIcv clk) s = .next t ∧
      t.mon.op = some (⟨max s.clock clk, 25, 0, s.srcHandle, (Config.aesCmac k.key s.monIn).take 16, [], 0, []⟩ : MonOp) ∧
      t.get pMONUMENT F.MONUMENT.STS.BUSY = 1) ∧
  (∀ (clk : Nat) (i : Nat) (k : KeySlot) (s : State), ((s.advance clk).accepts pMONUMENT = true) → (s.running pMONUMENT = true ∧ s.held pMONUMENT = false ∧ s.get pMONUMENT F.MONUMENT.STS.BUSY = 0) → (s.mon.zeroing = none) → (s.monReady = true) → (s.mon.fuse = 3) → (s.monLen = 40) → (s.monSrc = some (i, k)) → (s.mayUse k useMKA = true ∧ attrBad s.monAttr 1 = false) → (firstCode (s.placeTests false) = 0) →
    ∃ t, exec (.monumentMkaUnwrap clk) s = .next t ∧
      (t.mon.op = match Config.keyUnwrap k.key s.monIn with
        | none => some (⟨max s.clock clk, 26, 8, 0, [], [], 0, []⟩ : MonOp)
        | some p => some (⟨max s.clock clk, 26, 0, (s.place false p (s.mkaAttr 1 useMACSEC) false []).handle, (s.place false p (s.mkaAttr 1 useMACSEC) false []).out, (s.place false p (s.mkaAttr 1 useMACSEC) false []).writes, 0, []⟩ : MonOp)) ∧
      t.get pMONUMENT F.MONUMENT.STS.BUSY = 1)

/-- O55. R473–R475, R480–R484, R488–R494: an operation ends with its result in RESULT and DATA and its slots written, a TRANSITION burns its
fuse, a commit crosses to its slot, and tampering zeroises every key. -/
def Obligations.MonumentEndsAndTamper : Prop :=
  (∀ (clk i : Nat) (k : KeySlot) (o : MonOp) (s : State), (s.guardOn = true) → (s.mon.op = some o) → (o.op ≠ 13 ∨ s.mon.request = none ∨ o.code ≠ 0) → (o.out.length ≤ 512) →
    ∃ t, exec (.monumentOpDone clk) s = .next t ∧
      t.mon.op = none ∧ t.get pMONUMENT F.MONUMENT.STS.BUSY = 0 ∧
      t.get pMONUMENT F.MONUMENT.RESULT.CODE = o.code % 2 ^ F.MONUMENT.RESULT.CODE.w ∧ t.get pMONUMENT F.MONUMENT.RESULT.HANDLE = o.handle % 2 ^ F.MONUMENT.RESULT.HANDLE.w ∧
      t.get pMONUMENT F.MONUMENT.OUT_LEN.OUT = o.out.length ∧ t.monBytes o.out.length = o.out ∧
      (o.target = 0 → o.writes = [(i, k)] → t.key i = k) ∧
      (o.target = 0 → t.mon.fuse = s.mon.fuse ∧ t.mon.roots = s.mon.roots) ∧
      (o.target ≠ 0 → t.mon.fuse = o.target ∧ t.mon.roots = [(o.target, o.root)])) ∧
  (∀ (i j since : Nat) (s : State), (s.mon.request = some (i, since)) →
    ∃ t, exec (.keyCommit) s = .next t ∧
      t.clock = max s.clock (since + 183100) ∧
      t.mon.request = none ∧ t.mon.zeroing = some (i, t.clock, natBit (s.rd pMONUMENT 0x0C).toNat 10) ∧
      (t.key i).commit = commitWord ((s.key i).gen + 1) (s.key i).tag ((s.key i).stage % 4) ∧
      (t.key i).a = (s.key i).a ∧ (t.key i).b = (s.key i).b ∧
      (j ≠ i → t.key j = s.key j) ∧
      t.get pMONUMENT ⟨0x0C, 10, 1⟩ = 1) ∧
  (∀ (clk i at_ : Nat) (ev : Bool) (s : State), (s.mon.zeroing = some (i, at_, ev)) →
    ∃ t, exec (.keyCommitOldZeroed clk) s = .next t ∧
      t.key i = { (s.key i).setHalf (3 - (s.key i).half) none with stage := 0 } ∧
      t.mon.zeroing = none ∧
      t.regs = s.regs) ∧
  (∀ (clk : Nat) (s : State), (s.guardOn = true) →
    ∃ t, exec (.trngFail clk) s = .next t ∧
      t.get pMONUMENT F.MONUMENT.STS.TRNG_OK = 0 ∧ t.get pMONUMENT ⟨0x0C, 12, 1⟩ = 1 ∧
      t.get pMONUMENT F.MONUMENT.TRNG_FAIL.COUNT = (s.get pMONUMENT F.MONUMENT.TRNG_FAIL.COUNT + 1) % 2 ^ F.MONUMENT.TRNG_FAIL.COUNT.w ∧
      t.mon = s.mon) ∧
  (∀ (clk : Nat) (word : Word) (s : State), ((s.advance clk).accepts pMONUMENT = true) →
    ∃ t, exec (.monumentRtcSet clk word) s = .next t ∧
      t.mon.rtc = (s.latched pMONUMENT 0x60).toNat + 2 ^ 32 * word.toNat ∧ t.mon.rtcAt = max s.clock clk ∧
      t.regs = s.regs) ∧
  (∀ (clk sources hit : Nat) (s : State), (s.pwr.power ≠ Power.noSupply) → (sources % 256 &&& s.armed = hit ∧ hit ≠ 0) →
    ∃ t, exec (.tamperDetect clk sources) s = .next t ∧
      t.mon.slots = [] ∧ t.mon.roots = [] ∧ t.mon.op = none ∧ t.mon.request = none ∧
      t.sw.sa = [] ∧ t.sw.installs = [] ∧
      t.get pMONUMENT F.MONUMENT.STS.COND = 2 ∧
      t.get pTAMPER F.TAMPER.STS.LAST = hit % 2 ^ F.TAMPER.STS.LAST.w ∧
      t.mon.seq = (s.mon.seq + 1) % 2 ^ 16 ∧
      (s.coreOn = true → t.get pTAMPER ⟨0x0C, 8, 1⟩ = 1)) ∧
  (∀ (clk sources : Nat) (s : State), (s.pwr.power ≠ Power.noSupply) → (sources % 256 &&& s.armed = 0) →
    ∃ t, exec (.tamperDetect clk sources) s = .next t ∧
      t.get pTAMPER F.TAMPER.STS.LIVE = (s.get pTAMPER F.TAMPER.STS.LIVE ||| sources % 256) % 2 ^ F.TAMPER.STS.LIVE.w ∧
      t.mon = s.mon ∧ t.sw = s.sw) ∧
  (∀ (clk : Nat) (s : State), ((s.advance clk).accepts pTAMPER = true) → (s.get pTAMPER F.TAMPER.STS.LIVE = 0) → (s.monReady = false) →
    ∃ t, exec (.tamperRearm clk 0x5EA10002) s = .next t ∧
      t.mon.roots = [(s.mon.fuse, s.rnd 48)] ∧
      t.get pMONUMENT F.MONUMENT.STS.COND = 0 ∧ t.get pTAMPER ⟨0x0C, 10, 1⟩ = 1 ∧
      t.mon.slots = s.mon.slots ∧ t.mon.fuse = s.mon.fuse) ∧
  (∀ (clk : Nat) (word : Word) (s : State), ((s.advance clk).accepts pTAMPER = true) → (s.get pTAMPER F.TAMPER.STS.LIVE ≠ 0) →
    ∃ t, exec (.tamperRearm clk word) s = .next t ∧
      t.mon = s.mon ∧ t.get pMONUMENT F.MONUMENT.STS.COND = s.get pMONUMENT F.MONUMENT.STS.COND ∧
      (word = 0x5EA10002 → t.get pTAMPER ⟨0x0C, 9, 1⟩ = 1)) ∧
  (∀ (clk sources : Nat) (s : State),
    ∃ t, exec (.tamperSourceInactive clk sources) s = .next t ∧
      t.get pTAMPER F.TAMPER.STS.LIVE = s.get pTAMPER F.TAMPER.STS.LIVE &&& (255 - sources % 256) ∧
      t.mon = s.mon) ∧
  (∀ (clk : Nat) (s : State), (s.pwr.power = Power.battery) →
    ∃ t, exec (.batteryDomainLoss clk) s = .next t ∧
      t.pwr.power = Power.noSupply ∧ t.pwr.keepMain = true ∧ t.pwr.keepAny = false ∧
      t.mon.slots = [] ∧ t.mon.roots = [] ∧ t.mon.lost = true ∧ t.mon.fuse = s.mon.fuse ∧ t.mon.log = [])

/-- O56. Frames (R8, chapter rules): what the commands of the datum, the misclosure test, the plat and the stakes leave unchanged.
Only the listed registers, pages and parts of the state change. -/
def Obligations.FramesOfTimeAndPlat : Prop :=
  (∀ (clk : Nat) (hi : TimeWrite) (s : State), Leaves (.datumIncWrite clk hi) s [(pDATUM, [F.DATUM.INC.all, F.DATUM.INCDROP.COUNT, F.HDR.PEVT.all, F.HDR.PSTS.CODE]), (pSYS, [F.HDR.PEVT.all])] (fun _ => false) [.datum, .ports, .page]) ∧
  (∀ (clk : Nat) (hi : Word) (src : Source) (s : State), Leaves (.datumStepWrite clk hi src) s [(pSYS, [F.HDR.PEVT.all])] (fun p => famOf p == some Fam.edge || p == pDATUM || p == pBOOK || p == pCYCLE || p == pPLAT || famOf p == some Fam.can) [.book, .datum, .ports, .mscl, .cycle, .plat, .mem, .cans, .page]) ∧
  (∀ (clk : Nat) (w : TimeWrite) (s : State), Leaves (.datumStepUnlock clk w) s [(pSYS, [F.HDR.PEVT.all]), (pDATUM, [F.HDR.PSTS.CODE, F.HDR.PEVT.all])] (fun _ => false) [.datum, .page]) ∧
  (∀ (s : State), Leaves (.unlockWindowExpire) s [] (fun _ => false) [.datum]) ∧
  (∀ (clk : Nat) (s : State), Leaves (.datumHoldReq clk) s [(pDATUM, [F.DATUM.STS.HOLDOVER, F.HDR.PEVT.all, F.HDR.PSTS.CODE]), (pBOOK, [F.BOOK.DISCARD.COUNT, F.BOOK.SHADOW.DROP, F.HDR.PEVT.all, F.BOOK.DISCARD_SYS.COUNT]), (pSYS, [F.HDR.PEVT.all])] (fun p => famOf p == some Fam.edge) [.book, .page]) ∧
  (∀ (clk : Nat) (s : State), Leaves (.datumResume clk) s [(pDATUM, [F.DATUM.STS.HOLDOVER, F.HDR.PSTS.CODE, F.HDR.PEVT.all]), (pBOOK, [F.BOOK.DISCARD.COUNT, F.BOOK.SHADOW.DROP, F.HDR.PEVT.all, F.BOOK.DISCARD_SYS.COUNT]), (pSYS, [F.HDR.PEVT.all])] (fun p => famOf p == some Fam.edge) [.book, .page]) ∧
  (∀ (clk : Nat) (s : State), Leaves (.refFaultDetect clk) s [(pDATUM, [F.DATUM.STS.REF_FAULT, F.HDR.PEVT.all]), (pBOOK, [F.BOOK.DISCARD.COUNT, F.BOOK.SHADOW.DROP, F.HDR.PEVT.all, F.BOOK.DISCARD_SYS.COUNT])] (fun p => famOf p == some Fam.edge) [.datum, .book]) ∧
  (∀ (clk : Nat) (s : State), Leaves (.refFaultClear clk) s [(pDATUM, [F.DATUM.STS.REF_FAULT])] (fun _ => false) []) ∧
  (∀ (clk : Nat) (s : State), Leaves (.txqPop clk) s [(pSTAMP, [F.STAMP.TXQOVF.COUNT, F.HDR.PEVT.all])] (fun _ => false) [.shadow, .result, .stamps]) ∧
  (∀ (clk : Nat) (s : State), Leaves (.txqFlush clk) s [(pSYS, [F.HDR.PEVT.all]), (pSTAMP, [F.HDR.PSTS.CODE, F.HDR.PEVT.all])] (fun _ => false) [.stamps, .page]) ∧
  (∀ (clk : Nat) (rising : Bool) (s : State), Leaves (.ppsInEdge clk rising) s [(pDATUM, [F.DATUM.PPS_IN.T, F.DATUM.PPS_INCNT.COUNT, F.HDR.PEVT.all])] (fun _ => false) []) ∧
  (∀ (s : State), Leaves (.ppsOutStart) s [] (fun _ => false) [.datum]) ∧
  (∀ (s : State), Leaves (.ppsOutEnd) s [] (fun _ => false) [.datum]) ∧
  (∀ (clk port : Nat) (value : Word) (s : State), Leaves (.pdelayWrite clk port value) s [(pSTAMP, [F.STAMP.PDELAY.PDELAY.at (32 * port), F.HDR.PSTS.CODE, F.HDR.PEVT.all]), (pMSCL, [F.MSCL.STS.STEP_PEND]), (pSYS, [F.HDR.PEVT.all])] (fun _ => false) [.mscl, .page]) ∧
  (∀ (s : State), Leaves (.msclRoundStart) s [(pMSCL, [F.HDR.PSTS.HELD]), (pSWITCH, [F.SWITCH.BUF_DROP.COUNT, F.HDR.PEVT.all]), (pCAPTURE, [F.CAPTURE.LOST.COUNT, F.HDR.PEVT.all, F.CAPTURE.WR_SEQ.SEQ]), (pBUFMEM, [F.HDR.PEVT.all])] (fun p => famOf p == some Fam.port) [.mscl, .sw, .mem]) ∧
  (∀ (clk port hdrClk tri : Nat) (pr : ProbeIn) (s : State), Leaves (.probeRx clk port hdrClk tri pr) s [(pDATUM, [F.DATUM.FOLDOVR.COUNT, F.HDR.PEVT.all]), (pCYCLE, [F.HDR.PEVT.all])] (fun p => p == pBOOK || famOf p == some Fam.edge || p == pMSCL || p == pSTAMP || p == pCAPTURE || famOf p == some Fam.port || p == pSWITCH || p == pBUFMEM || p == pMACSEC) [.ports, .mscl, .sw, .mem, .gang, .stamps, .book, .plat, .tally]) ∧
  (∀ (s : State), Leaves (.msclProbeTimeout) s [] (fun p => p == pMSCL) [.mscl]) ∧
  (∀ (s : State), Leaves (.coincWindowClose) s [] (fun p => p == pBOOK || famOf p == some Fam.edge || p == pMSCL) [.book, .mscl]) ∧
  (∀ (s : State), Leaves (.cycleBoundary) s [] (fun p => p == pCYCLE || p == pPLAT || p == pGANGCTL || p == pSWITCH || famOf p == some Fam.port || p == pCAPTURE || p == pBUFMEM || p == pDUPLEX) [.cycle, .plat, .mem, .sw, .dup]) ∧
  (∀ (s : State), Leaves (.platFreeze) s [(pPLAT, [F.HDR.PSTS.HELD, F.PLAT.SLOTMISS.COUNT, F.HDR.PEVT.all, F.PLAT.VIEWDROP.COUNT, F.PLAT.INCOMPLETE.COUNT]), (pSWITCH, [F.SWITCH.BUF_DROP.COUNT, F.HDR.PEVT.all, F.SWITCH.NOPATH.COUNT]), (pBUFMEM, [F.HDR.PEVT.all])] (fun p => p == pSYS || p == pSTAMP || p == pCAPTURE || famOf p == some Fam.port || famOf p == some Fam.can) [.cycle, .sw, .plat, .ports, .mscl, .mem, .gang, .stamps, .engs, .edges, .pins, .cans]) ∧
  (∀ (s : State), Leaves (.platRelease) s [(pHSR, [F.HSR.SEQ.NEXT]), (pSWITCH, [F.SWITCH.BUF_DROP.COUNT, F.HDR.PEVT.all, F.SWITCH.NOPATH.COUNT]), (pCAPTURE, [F.CAPTURE.LOST.COUNT, F.HDR.PEVT.all, F.CAPTURE.WR_SEQ.SEQ]), (pBUFMEM, [F.HDR.PEVT.all])] (fun p => famOf p == some Fam.port) [.cycle, .sw, .mem, .plat]) ∧
  (∀ (clk port : Nat) (s : State), Leaves (.platOwnSent clk port) s [(pSTAMP, [F.STAMP.ONESTEP_ERR.COUNT, F.HDR.PEVT.all, F.STAMP.TXQOVF.COUNT]), (pCAPTURE, [F.CAPTURE.LOST.COUNT, F.HDR.PEVT.all, F.CAPTURE.WR_SEQ.SEQ]), (pPORT port, [portCtr 9, portCtr 10, portCtr 11])] (fun p => p == pPLAT) [.ports, .mscl, .sw, .mem, .gang, .stamps, .plat]) ∧
  (∀ (clk port stamp : Nat) (fr : Frame) (s : State), Leaves (.platFrameRx clk port stamp fr) s [(pHSR, [F.HSR.USED.COUNT, F.HSR.EVICT_UNMATCHED.COUNT, F.HDR.PEVT.all])] (fun p => p == pPLAT) [.sw, .cycle, .mem, .plat]) ∧
  (∀ (s : State), Leaves (.platVote) s [(pCYCLE, [F.CYCLE.VOTE.FOR, F.CYCLE.MAJ_DIG.DIGEST, F.CYCLE.STS.NOMAJ, F.HDR.PEVT.all, F.HDR.PSTS.CODE])] (fun _ => false) [.cycle]) ∧
  (∀ (s : State), Leaves (.platViewFlip) s [] (fun p => p == pPLAT) [.cycle, .plat]) ∧
  (∀ (clk addr : Nat) (data : List Byte) (src : Source) (s : State), Leaves (.platOutputWrite clk addr data src) s [(pSYS, [F.HDR.PEVT.all, F.SYS.AERR_LO.ADDR_LO, F.SYS.AERR_HI.ADDR_HI])] (fun _ => false) [.plat]) ∧
  (∀ (clk : Nat) (s : State), Leaves (.cycleRejoin clk) s [(pCYCLE, [F.CYCLE.STS.PUBLISH, F.HDR.PSTS.REFUSED, F.HDR.PEVT.all]), (pSYS, [F.HDR.PEVT.all])] (fun _ => false) [.page]) ∧
  (∀ (clk member : Nat) (feeds : List (Nat × List Byte)) (s : State), Leaves (.gangFeedRx clk member feeds) s [] (fun _ => false) [.dup, .gang, .plat, .mem]) ∧
  (∀ (clk : Nat) (word : Word) (src : Source) (s : State), Leaves (.stakeIssue clk word src) s [(pSYS, [F.HDR.PEVT.all, F.SYS.AERR_LO.ADDR_LO, F.SYS.AERR_HI.ADDR_HI])] (fun p => famOf p == some Fam.port || p == pSTAKE || p == pBOOK || p == pSWITCH || p == pCAPTURE || p == pBUFMEM || p == pHSR || famOf p == some Fam.edge) [.sw, .mem, .book, .dup, .stake, .page]) ∧
  (∀ (clk : Nat) (s : State), Leaves (.stakeFrameSend clk) s [] (fun p => famOf p == some Fam.port || p == pSTAKE || p == pBOOK || p == pSWITCH || p == pCAPTURE || p == pBUFMEM || p == pHSR || famOf p == some Fam.edge) [.stake, .sw, .mem, .book, .dup]) ∧
  (∀ (clk : Nat) (bytes : List Byte) (s : State), Leaves (.stakeArrival clk bytes) s [] (fun p => famOf p == some Fam.port || p == pSTAKE || p == pBOOK || p == pSWITCH || p == pCAPTURE || p == pBUFMEM || p == pHSR || famOf p == some Fam.edge) [.sw, .mem, .book, .dup, .stake]) ∧
  (∀ (clk : Nat) (bytes : List Byte) (s : State), Leaves (.stakeCancelArrival clk bytes) s [] (fun p => famOf p == some Fam.port || p == pSTAKE || p == pBOOK || p == pSWITCH || p == pCAPTURE || p == pBUFMEM || p == pHSR || famOf p == some Fam.edge) [.sw, .mem, .book, .dup, .stake]) ∧
  (∀ (clk : Nat) (data : Word) (s : State), Leaves (.stakeCancelWrite clk data) s [(pSYS, [F.HDR.PEVT.all])] (fun p => p == pSTAKE || p == pBOOK || famOf p == some Fam.edge || p == pSWITCH || famOf p == some Fam.port || p == pCAPTURE || p == pBUFMEM || p == pHSR) [.stake, .book, .sw, .mem, .dup, .page]) ∧
  (∀ (s : State), Leaves (.stakeHandover) s [] (fun p => p == pSTAKE || p == pBOOK || famOf p == some Fam.edge || p == pSWITCH || famOf p == some Fam.port || p == pCAPTURE || p == pBUFMEM || p == pHSR) [.stake, .book, .sw, .mem, .dup]) ∧
  (∀ (s : State), Leaves (.stakeIslandWithdraw) s [] (fun p => p == pSTAKE || p == pBOOK || famOf p == some Fam.edge || p == pSWITCH || famOf p == some Fam.port || p == pCAPTURE || p == pBUFMEM || p == pHSR) [.stake, .book, .sw, .mem, .dup]) ∧
  (∀ (s : State), Leaves (.stakeExecPin) s [] (fun p => famOf p == some Fam.edge || famOf p == some Fam.eng || famOf p == some Fam.can || p == pSTAKE || p == pBOOK || p == pSWITCH || famOf p == some Fam.port || p == pCAPTURE || p == pBUFMEM || p == pHSR) [.stake, .pins, .edges, .book, .engs, .cans, .plat, .sw, .mem, .dup]) ∧
  (∀ (s : State), Leaves (.stakeExecEngFifo) s [] (fun p => famOf p == some Fam.edge || famOf p == some Fam.eng || famOf p == some Fam.can || p == pSTAKE || p == pBOOK || p == pSWITCH || famOf p == some Fam.port || p == pCAPTURE || p == pBUFMEM || p == pHSR) [.stake, .pins, .edges, .book, .engs, .cans, .plat, .sw, .mem, .dup]) ∧
  (∀ (s : State), Leaves (.stakeExecPlat) s [] (fun p => famOf p == some Fam.edge || famOf p == some Fam.eng || famOf p == some Fam.can || p == pSTAKE || p == pBOOK || p == pSWITCH || famOf p == some Fam.port || p == pCAPTURE || p == pBUFMEM || p == pHSR) [.stake, .pins, .edges, .book, .engs, .cans, .plat, .sw, .mem, .dup]) ∧
  (∀ (clk node member : Nat) (payload : List Byte) (s : State), Leaves (.receiptRx clk node member payload) s [(pSTAKE, [F.HDR.PEVT.all, F.STAKE.RCPTOVF.COUNT])] (fun _ => false) [.stake]) ∧
  (∀ (clk : Nat) (s : State), Leaves (.rcptPop clk) s [] (fun _ => false) [.shadow, .result, .stake])

/-- O57. Frames (R8, chapter rules): what the commands of the pin engines, the field book and CAN leave unchanged.
Only the listed registers, pages and parts of the state change. -/
def Obligations.FramesOfEnginesPinsBookAndCan : Prop :=
  (∀ (s : State), Leaves (.stakeExecCan) s [] (fun p => famOf p == some Fam.edge || famOf p == some Fam.eng || famOf p == some Fam.can || p == pSTAKE || p == pBOOK || p == pSWITCH || famOf p == some Fam.port || p == pCAPTURE || p == pBUFMEM || p == pHSR) [.stake, .pins, .edges, .book, .engs, .cans, .plat, .sw, .mem, .dup]) ∧
  (∀ (eng : Nat) (s : State), Leaves (.instrWaitt eng) s [(pBOOK, [F.BOOK.DISCARD.COUNT, F.BOOK.SHADOW.DROP, F.HDR.PEVT.all, F.BOOK.DISCARD_SYS.COUNT]), (pENG eng, [F.ENG.DROP.TXDROP, F.HDR.PEVT.all])] (fun p => famOf p == some Fam.edge) [.engs, .pins, .edges, .book]) ∧
  (∀ (eng : Nat) (s : State), Leaves (.waittComplete eng) s [(pENG eng, [F.ENG.DROP.TXDROP, F.HDR.PEVT.all]), (pCREW (eng / 4), [Fld.mk F.CREW.STS.MOVED.off (8 + eng % 4) 1, F.CREW.STS.ACTIVE, F.CREW.SWAP.GO, F.CREW.SWAPCNT.COUNT, F.HDR.PEVT.all]), (pBOOK, [F.BOOK.DISCARD.COUNT, F.BOOK.SHADOW.DROP, F.HDR.PEVT.all, F.BOOK.DISCARD_SYS.COUNT])] (fun p => famOf p == some Fam.edge) [.engs, .pins, .edges, .book]) ∧
  (∀ (eng : Nat) (s : State), Leaves (.instrWaitp eng) s [(pENG eng, [F.ENG.DROP.TXDROP, F.HDR.PEVT.all]), (pBOOK, [F.BOOK.DISCARD.COUNT, F.BOOK.SHADOW.DROP, F.HDR.PEVT.all, F.BOOK.DISCARD_SYS.COUNT])] (fun p => famOf p == some Fam.edge) [.engs, .pins, .edges, .book]) ∧
  (∀ (clk eng : Nat) (s : State), Leaves (.waitpComplete clk eng) s [(pENG eng, [F.ENG.DROP.TXDROP, F.HDR.PEVT.all]), (pCREW (eng / 4), [Fld.mk F.CREW.STS.MOVED.off (8 + eng % 4) 1, F.CREW.STS.ACTIVE, F.CREW.SWAP.GO, F.CREW.SWAPCNT.COUNT, F.HDR.PEVT.all]), (pBOOK, [F.BOOK.DISCARD.COUNT, F.BOOK.SHADOW.DROP, F.HDR.PEVT.all, F.BOOK.DISCARD_SYS.COUNT])] (fun p => famOf p == some Fam.edge) [.engs, .crews, .pins, .edges, .book]) ∧
  (∀ (eng : Nat) (s : State), Leaves (.instrDly eng) s [(pCREW (eng / 4), [Fld.mk F.CREW.STS.MOVED.off (8 + eng % 4) 1, F.CREW.STS.ACTIVE, F.CREW.SWAP.GO, F.CREW.SWAPCNT.COUNT, F.HDR.PEVT.all]), (pBOOK, [F.BOOK.DISCARD.COUNT, F.BOOK.SHADOW.DROP, F.HDR.PEVT.all, F.BOOK.DISCARD_SYS.COUNT]), (pENG eng, [F.ENG.DROP.TXDROP, F.HDR.PEVT.all])] (fun p => famOf p == some Fam.edge) [.pins, .engs, .edges, .book]) ∧
  (∀ (eng : Nat) (s : State), Leaves (.dlyComplete eng) s [(pCREW (eng / 4), [Fld.mk F.CREW.STS.MOVED.off (8 + eng % 4) 1, F.CREW.STS.ACTIVE, F.CREW.SWAP.GO, F.CREW.SWAPCNT.COUNT, F.HDR.PEVT.all])] (fun _ => false) [.engs, .pins]) ∧
  (∀ (eng : Nat) (s : State), Leaves (.instrCnt eng) s [(pENG eng, [F.ENG.DROP.TXDROP, F.HDR.PEVT.all]), (pBOOK, [F.BOOK.DISCARD.COUNT, F.BOOK.SHADOW.DROP, F.HDR.PEVT.all, F.BOOK.DISCARD_SYS.COUNT])] (fun p => famOf p == some Fam.edge) [.engs, .pins, .edges, .book]) ∧
  (∀ (clk eng : Nat) (s : State), Leaves (.cntComplete clk eng) s [(pENG eng, [F.ENG.DROP.TXDROP, F.HDR.PEVT.all]), (pCREW (eng / 4), [Fld.mk F.CREW.STS.MOVED.off (8 + eng % 4) 1, F.CREW.STS.ACTIVE, F.CREW.SWAP.GO, F.CREW.SWAPCNT.COUNT, F.HDR.PEVT.all]), (pBOOK, [F.BOOK.DISCARD.COUNT, F.BOOK.SHADOW.DROP, F.HDR.PEVT.all, F.BOOK.DISCARD_SYS.COUNT])] (fun p => famOf p == some Fam.edge) [.engs, .pins, .edges, .book]) ∧
  (∀ (eng : Nat) (s : State), Leaves (.instrJmp eng) s [(pCREW (eng / 4), [Fld.mk F.CREW.STS.MOVED.off (8 + eng % 4) 1, F.CREW.STS.ACTIVE, F.CREW.SWAP.GO, F.CREW.SWAPCNT.COUNT, F.HDR.PEVT.all]), (pBOOK, [F.BOOK.DISCARD.COUNT, F.BOOK.SHADOW.DROP, F.HDR.PEVT.all, F.BOOK.DISCARD_SYS.COUNT]), (pENG eng, [F.ENG.DROP.TXDROP, F.HDR.PEVT.all])] (fun p => famOf p == some Fam.edge) [.engs, .pins, .edges, .book]) ∧
  (∀ (eng : Nat) (s : State), Leaves (.instrMov eng) s [(pCREW (eng / 4), [Fld.mk F.CREW.STS.MOVED.off (8 + eng % 4) 1, F.CREW.STS.ACTIVE, F.CREW.SWAP.GO, F.CREW.SWAPCNT.COUNT, F.HDR.PEVT.all]), (pBOOK, [F.BOOK.DISCARD.COUNT, F.BOOK.SHADOW.DROP, F.HDR.PEVT.all, F.BOOK.DISCARD_SYS.COUNT]), (pENG eng, [F.ENG.DROP.TXDROP, F.HDR.PEVT.all])] (fun p => famOf p == some Fam.edge) [.engs, .pins, .edges, .book]) ∧
  (∀ (eng : Nat) (s : State), Leaves (.instrSet eng) s [(pCREW (eng / 4), [Fld.mk F.CREW.STS.MOVED.off (8 + eng % 4) 1, F.CREW.STS.ACTIVE, F.CREW.SWAP.GO, F.CREW.SWAPCNT.COUNT, F.HDR.PEVT.all]), (pBOOK, [F.BOOK.DISCARD.COUNT, F.BOOK.SHADOW.DROP, F.HDR.PEVT.all, F.BOOK.DISCARD_SYS.COUNT]), (pENG eng, [F.ENG.DROP.TXDROP, F.HDR.PEVT.all])] (fun p => famOf p == some Fam.edge) [.engs, .pins, .edges, .book]) ∧
  (∀ (eng : Nat) (s : State), Leaves (.instrOut eng) s [(pENG eng, [F.ENG.STALLS.COUNT, F.ENG.DROP.TXDROP, F.HDR.PEVT.all]), (pCREW (eng / 4), [Fld.mk F.CREW.STS.MOVED.off (8 + eng % 4) 1, F.CREW.STS.ACTIVE, F.CREW.SWAP.GO, F.CREW.SWAPCNT.COUNT, F.HDR.PEVT.all]), (pBOOK, [F.BOOK.DISCARD.COUNT, F.BOOK.SHADOW.DROP, F.HDR.PEVT.all, F.BOOK.DISCARD_SYS.COUNT])] (fun p => famOf p == some Fam.edge) [.engs, .pins, .edges, .book]) ∧
  (∀ (eng : Nat) (s : State), Leaves (.instrIn eng) s [(pCREW (eng / 4), [Fld.mk F.CREW.STS.MOVED.off (8 + eng % 4) 1, F.CREW.STS.ACTIVE, F.CREW.SWAP.GO, F.CREW.SWAPCNT.COUNT, F.HDR.PEVT.all]), (pENG eng, [F.ENG.STALLS.COUNT, F.ENG.DROP.TXDROP, F.HDR.PEVT.all]), (pBOOK, [F.BOOK.DISCARD.COUNT, F.BOOK.SHADOW.DROP, F.HDR.PEVT.all, F.BOOK.DISCARD_SYS.COUNT])] (fun p => famOf p == some Fam.edge) [.engs, .pins, .edges, .book]) ∧
  (∀ (eng : Nat) (s : State), Leaves (.instrPull eng) s [(pCREW (eng / 4), [Fld.mk F.CREW.STS.MOVED.off (8 + eng % 4) 1, F.CREW.STS.ACTIVE, F.CREW.SWAP.GO, F.CREW.SWAPCNT.COUNT, F.HDR.PEVT.all]), (pENG eng, [F.ENG.STALLS.COUNT, F.ENG.DROP.TXDROP, F.HDR.PEVT.all]), (pBOOK, [F.BOOK.DISCARD.COUNT, F.BOOK.SHADOW.DROP, F.HDR.PEVT.all, F.BOOK.DISCARD_SYS.COUNT])] (fun p => famOf p == some Fam.edge) [.pins, .engs, .edges, .book]) ∧
  (∀ (eng : Nat) (s : State), Leaves (.instrPush eng) s [] (fun p => p == (pCREW (eng / 4)) || p == (pENG eng) || p == pBOOK || famOf p == some Fam.edge) [.pins, .engs, .edges, .book]) ∧
  (∀ (eng : Nat) (s : State), Leaves (.instrStamp eng) s [(pENG eng, [F.ENG.STALLS.COUNT, F.ENG.DROP.TXDROP, F.HDR.PEVT.all]), (pCREW (eng / 4), [Fld.mk F.CREW.STS.MOVED.off (8 + eng % 4) 1, F.CREW.STS.ACTIVE, F.CREW.SWAP.GO, F.CREW.SWAPCNT.COUNT, F.HDR.PEVT.all]), (pBOOK, [F.BOOK.DISCARD.COUNT, F.BOOK.SHADOW.DROP, F.HDR.PEVT.all, F.BOOK.DISCARD_SYS.COUNT])] (fun p => famOf p == some Fam.edge) [.engs, .pins, .edges, .book]) ∧
  (∀ (eng : Nat) (s : State), Leaves (.instrNote eng) s [(pBOOK, [F.BOOK.DISCARD.COUNT, F.BOOK.SHADOW.DROP, F.HDR.PEVT.all, F.BOOK.DISCARD_SYS.COUNT]), (pENG eng, [F.ENG.DROP.TXDROP, F.HDR.PEVT.all])] (fun p => p == (pCREW (eng / 4)) || famOf p == some Fam.edge) [.crews, .pins, .engs, .edges, .book]) ∧
  (∀ (eng : Nat) (s : State), Leaves (.instrDelayEnd eng) s [(pCREW (eng / 4), [Fld.mk F.CREW.STS.MOVED.off (8 + eng % 4) 1, F.CREW.STS.ACTIVE, F.CREW.SWAP.GO, F.CREW.SWAPCNT.COUNT, F.HDR.PEVT.all])] (fun _ => false) [.engs]) ∧
  (∀ (eng : Nat) (s : State), Leaves (.engineStallEnd eng) s [] (fun p => p == (pENG eng) || p == (pCREW (eng / 4)) || p == pBOOK || famOf p == some Fam.edge) [.engs, .pins, .edges, .book]) ∧
  (∀ (clk eng : Nat) (data : Word) (s : State), Leaves (.engTxfWrite clk eng data) s [(pENG eng, [F.ENG.DROP.TXDROP, F.HDR.PEVT.all, F.HDR.PSTS.CODE]), (pSYS, [F.HDR.PEVT.all])] (fun _ => false) [.engs, .page]) ∧
  (∀ (clk eng : Nat) (s : State), Leaves (.engRxfPop clk eng) s [] (fun _ => false) [.result, .engs]) ∧
  (∀ (clk eng word : Nat) (s : State), Leaves (.engJump clk eng word) s [(pSYS, [F.HDR.PEVT.all]), (pENG eng, [F.HDR.PSTS.CODE, F.HDR.PEVT.all])] (fun _ => false) [.engs, .page]) ∧
  (∀ (clk eng : Nat) (s : State), Leaves (.engSnap clk eng) s [(pSYS, [F.HDR.PEVT.all]), (pENG eng, [F.HDR.PSTS.CODE, F.HDR.PEVT.all])] (fun _ => false) [.engs, .page]) ∧
  (∀ (clk crew : Nat) (s : State), Leaves (.crewSwapGo clk crew) s [(pCREW crew, [F.HDR.PSTS.CODE, F.HDR.PEVT.all, F.CREW.STS.MOVED, F.CREW.SWAP.GO, F.CREW.SWAPCNT.COUNT]), (pSYS, [F.HDR.PEVT.all])] (fun _ => false) [.crews, .page]) ∧
  (∀ (clk crew mask : Nat) (s : State), Leaves (.crewGoEng clk crew mask) s [(pSYS, [F.HDR.PEVT.all]), (pCREW crew, [F.HDR.PSTS.CODE, F.HDR.PEVT.all])] (fun p => famOf p == some Fam.eng) [.engs, .page]) ∧
  (∀ (clk crew mask : Nat) (s : State), Leaves (.crewFlagset clk crew mask) s [(pSYS, [F.HDR.PEVT.all]), (pCREW crew, [F.HDR.PSTS.CODE, F.HDR.PEVT.all])] (fun _ => false) [.crews, .page]) ∧
  (∀ (clk q off : Nat) (data : Word) (s : State), Leaves (.pinmuxSwdataWrite clk q off data) s [(pPINMUX q, [⟨off, 0, 32⟩, F.HDR.PSTS.CODE, F.HDR.PEVT.all]), (pBOOK, [F.BOOK.DISCARD.COUNT, F.BOOK.SHADOW.DROP, F.HDR.PEVT.all, F.BOOK.DISCARD_SYS.COUNT]), (pSYS, [F.HDR.PEVT.all])] (fun p => famOf p == some Fam.edge) [.pins, .edges, .book, .page]) ∧
  (∀ (clk pin : Nat) (tr : PinTick) (s : State), Leaves (.pinTransition clk pin tr) s [(pBOOK, [F.BOOK.DISCARD.COUNT, F.BOOK.SHADOW.DROP, F.HDR.PEVT.all, F.BOOK.DISCARD_SYS.COUNT])] (fun p => famOf p == some Fam.edge) [.pins, .edges, .book]) ∧
  (∀ (pin : Nat) (s : State), Leaves (.glitchWindowExpire pin) s [(pBOOK, [F.BOOK.DISCARD.COUNT, F.BOOK.SHADOW.DROP, F.HDR.PEVT.all, F.BOOK.DISCARD_SYS.COUNT])] (fun p => famOf p == some Fam.edge) [.edges, .book]) ∧
  (∀ (pin : Nat) (s : State), Leaves (.debounceWindowClose pin) s [(pBOOK, [F.BOOK.DISCARD.COUNT, F.BOOK.SHADOW.DROP, F.HDR.PEVT.all, F.BOOK.DISCARD_SYS.COUNT])] (fun p => famOf p == some Fam.edge) [.edges, .book]) ∧
  (∀ (pin : Nat) (s : State), Leaves (.chatterWindowClose pin) s [(pBOOK, [F.BOOK.DISCARD.COUNT, F.BOOK.SHADOW.DROP, F.HDR.PEVT.all, F.BOOK.DISCARD_SYS.COUNT])] (fun p => famOf p == some Fam.edge) [.edges, .book]) ∧
  (∀ (pin : Nat) (s : State), Leaves (.chatterQuietEnd pin) s [(pBOOK, [F.BOOK.DISCARD.COUNT, F.BOOK.SHADOW.DROP, F.HDR.PEVT.all, F.BOOK.DISCARD_SYS.COUNT])] (fun p => famOf p == some Fam.edge) [.edges, .book]) ∧
  (∀ (pin : Nat) (s : State), Leaves (.stuckTimerExpire pin) s [(pBOOK, [F.BOOK.DISCARD.COUNT, F.BOOK.SHADOW.DROP, F.HDR.PEVT.all, F.BOOK.DISCARD_SYS.COUNT])] (fun p => famOf p == some Fam.edge) [.edges, .book]) ∧
  (∀ (clk : Nat) (s : State), Leaves (.bookCommit clk) s [(pBOOK, [F.BOOK.LAPPED.COUNT, F.HDR.PEVT.all, drainSeq DrainId.dma, drainSeq DrainId.twin, drainSeq DrainId.ring, F.BOOK.SHADOW.DROP, F.BOOK.DISCARD.COUNT, F.BOOK.DISCARD_SYS.COUNT, F.BOOK.WR_SEQ.SEQ, F.BOOK.OLDEST.SEQ]), (pSYS, [F.SYS.PSTATE.BUSY])] (fun p => famOf p == some Fam.edge) [.book, .mem, .pwr]) ∧
  (∀ (s : State), Leaves (.discardEpisodeEnd) s [(pBOOK, [F.BOOK.LAPPED.COUNT, F.HDR.PEVT.all, drainSeq DrainId.dma, drainSeq DrainId.twin, drainSeq DrainId.ring, F.BOOK.SHADOW.DROP, F.BOOK.DISCARD.COUNT, F.BOOK.DISCARD_SYS.COUNT, F.BOOK.WR_SEQ.SEQ, F.BOOK.OLDEST.SEQ]), (pSYS, [F.SYS.PSTATE.BUSY])] (fun p => famOf p == some Fam.edge) [.book, .mem, .pwr]) ∧
  (∀ (clk : Nat) (s : State), Leaves (.bookDmaBurst clk) s [(pBOOK, [F.BOOK.LAPPED.COUNT, F.HDR.PEVT.all, drainSeq DrainId.dma, drainSeq DrainId.twin, drainSeq DrainId.ring, F.BOOK.DMA_SEQ.SEQ])] (fun _ => false) [.book, .bridge]) ∧
  (∀ (clk : Nat) (s : State), Leaves (.bookFrameSend clk) s [] (fun p => p == pBOOK || p == pHSR || p == pSWITCH || famOf p == some Fam.port || p == pCAPTURE || p == pBUFMEM) [.book, .sw, .mem]) ∧
  (∀ (clk can loop : Nat) (s : State), Leaves (.canTxStart clk can loop) s [(pCAN can, [F.CAN.STS.ACTIVE_BUF]), (pBOOK, [F.BOOK.DISCARD.COUNT, F.BOOK.SHADOW.DROP, F.HDR.PEVT.all, F.BOOK.DISCARD_SYS.COUNT])] (fun p => famOf p == some Fam.edge) [.cans, .pins, .edges, .book]) ∧
  (∀ (clk can tdcv : Nat) (s : State), Leaves (.canTxDone clk can tdcv) s [(pBOOK, [F.BOOK.DISCARD.COUNT, F.BOOK.SHADOW.DROP, F.HDR.PEVT.all, F.BOOK.DISCARD_SYS.COUNT]), (pDATUM, [F.DATUM.FOLDOVR.COUNT, F.HDR.PEVT.all])] (fun p => famOf p == some Fam.edge || p == (pCAN can)) [.cans, .pins, .edges, .book]) ∧
  (∀ (clk can : Nat) (s : State), Leaves (.canArbLost clk can) s [(pBOOK, [F.BOOK.DISCARD.COUNT, F.BOOK.SHADOW.DROP, F.HDR.PEVT.all, F.BOOK.DISCARD_SYS.COUNT])] (fun p => famOf p == some Fam.edge || p == (pCAN can)) [.cans, .pins, .edges, .book]) ∧
  (∀ (clk can err : Nat) (afterArb dataPhase dominant : Bool) (pos eights : Nat) (tdcv : Option Nat) (s : State), Leaves (.canTxError clk can err afterArb dataPhase dominant pos eights tdcv) s [(pBOOK, [F.BOOK.DISCARD.COUNT, F.BOOK.SHADOW.DROP, F.HDR.PEVT.all, F.BOOK.DISCARD_SYS.COUNT]), (pDATUM, [F.DATUM.FOLDOVR.COUNT, F.HDR.PEVT.all])] (fun p => famOf p == some Fam.edge || p == (pCAN can)) [.cans, .pins, .edges, .book]) ∧
  (∀ (clk can : Nat) (s : State), Leaves (.canRecover clk can) s [(pCAN can, [F.CAN.STS.STATE, F.CAN.ERRCNT.TEC, F.CAN.RECOV.COUNT, F.HDR.PEVT.all]), (pBOOK, [F.BOOK.DISCARD.COUNT, F.BOOK.SHADOW.DROP, F.HDR.PEVT.all, F.BOOK.DISCARD_SYS.COUNT])] (fun p => famOf p == some Fam.edge) [.book]) ∧
  (∀ (clk can edge id dlc : Nat) (brs esi : Bool) (data : List Byte) (s : State), Leaves (.canRxFrame clk can edge id dlc brs esi data) s [(pDATUM, [F.DATUM.FOLDOVR.COUNT, F.HDR.PEVT.all]), (pBOOK, [F.BOOK.DISCARD.COUNT, F.BOOK.SHADOW.DROP, F.HDR.PEVT.all, F.BOOK.DISCARD_SYS.COUNT])] (fun p => p == (pCAN can) || famOf p == some Fam.edge) [.cans, .book]) ∧
  (∀ (clk can map : Nat) (s : State), Leaves (.canTxreq clk can map) s [(pSYS, [F.HDR.PEVT.all])] (fun p => p == (pCAN (can % 16))) [.cans, .page]) ∧
  (∀ (clk can map : Nat) (s : State), Leaves (.canTxabort clk can map) s [(pSYS, [F.HDR.PEVT.all])] (fun p => p == (pCAN (can % 16))) [.cans, .page]) ∧
  (∀ (clk can index : Nat) (s : State), Leaves (.canRxack clk can index) s [(pSYS, [F.HDR.PEVT.all])] (fun p => p == (pCAN (can % 16))) [.cans, .page]) ∧
  (∀ (can : Nat) (s : State), Leaves (.canRefDue can) s [(pCAN can, [F.CAN.REFMISS.COUNT, F.HDR.PEVT.all, F.CAN.STS.REF_PEND])] (fun _ => false) [.cans]) ∧
  (∀ (clk can : Nat) (s : State), Leaves (.canSynced clk can) s [(pCAN can, [F.CAN.STS.STATE, F.CAN.ERRCNT.TEC])] (fun _ => false) []) ∧
  (∀ (clk can err tecEights recEights : Nat) (s : State), Leaves (.canReceiveError clk can err tecEights recEights) s [(pBOOK, [F.BOOK.DISCARD.COUNT, F.BOOK.SHADOW.DROP, F.HDR.PEVT.all, F.BOOK.DISCARD_SYS.COUNT])] (fun p => p == (pCAN can) || famOf p == some Fam.edge) [.cans, .book]) ∧
  (∀ (eng : Nat) (s : State), Leaves (.stallLong eng) s [(pENG eng, [F.HDR.PEVT.all])] (fun _ => false) [.engs]) ∧
  (∀ (eng : Nat) (s : State), Leaves (.swapAbandon eng) s [(pENG eng, [F.ENG.DROP.TXDROP, F.HDR.PEVT.all, F.ENG.STALL_LAST.TICKS, F.ENG.STALL_MAX.TICKS]), (pCREW (eng / 4), [F.CREW.ABANDONED.COUNT, F.HDR.PEVT.all, Fld.mk F.CREW.STS.MOVED.off (8 + eng % 4) 1, F.CREW.STS.ACTIVE, F.CREW.SWAP.GO, F.CREW.SWAPCNT.COUNT])] (fun _ => false) [.engs])

/-- O58. Frames (R8, chapter rules): what the commands of the frame ports and the switch core leave unchanged.
Only the listed registers, pages and parts of the state change. -/
def Obligations.FramesOfPortsAndSwitch : Prop :=
  (∀ (clk port : Nat) (s : State), Leaves (.linkDown clk port) s [] (fun p => p == pSTAMP || p == pCAPTURE || p == pGANGCTL || famOf p == some Fam.port || p == pBUFMEM || p == pMSCL || p == pBOOK) [.ports, .mscl, .sw, .mem, .gang, .stamps, .plat, .book]) ∧
  (∀ (clk port speed : Nat) (s : State), Leaves (.linkUp clk port speed) s [] (fun p => famOf p == some Fam.port || p == pCAPTURE || p == pBUFMEM || p == pSTAMP || p == pMSCL || p == pBOOK) [.sw, .mem, .ports, .mscl, .gang, .stamps, .book]) ∧
  (∀ (port : Nat) (s : State), Leaves (.linkFallbackToggle port) s [(pPORT port, [F.PORT.STS.LMODE, portCtr 19, F.HDR.PEVT.all])] (fun _ => false) [.ports]) ∧
  (∀ (clk port : Nat) (fr : Frame) (chk : RxCheck) (s : State), Leaves (.portRxFrame clk port fr chk) s [(pDATUM, [F.DATUM.FOLDOVR.COUNT, F.HDR.PEVT.all]), (pDUPLEX, [F.HDR.PEVT.all])] (fun p => p == pHSR || p == pSWITCH || p == pSTAMP || p == pCAPTURE || famOf p == some Fam.port || p == pBUFMEM || p == pMACSEC || p == pSYS || p == pBRIDGE || p == pFDB) [.ports, .mscl, .sw, .mem, .gang, .stamps, .plat, .tally, .dup, .pwr, .bridge]) ∧
  (∀ (clk : Nat) (go : TxGo) (s : State), Leaves (.portTxStart clk go) s [(pDATUM, [F.DATUM.FOLDOVR.COUNT, F.HDR.PEVT.all]), (pDUPLEX, [F.HDR.PEVT.all])] (fun p => famOf p == some Fam.port || p == pBUFMEM || p == pMACSEC || p == pCAPTURE || p == pSWITCH || p == pHSR || p == pSTAMP || p == pSYS || p == pBRIDGE || p == pFDB) [.sw, .mem, .dup, .ports, .mscl, .gang, .stamps, .plat, .tally, .pwr, .bridge]) ∧
  (∀ (port : Nat) (s : State), Leaves (.gclEntryChange port) s [] (fun _ => false) [.ports]) ∧
  (∀ (clk port : Nat) (s : State), Leaves (.gclSwapWrite clk port) s [(pPORT port, [F.PORT.GCL_CFG.SWAP, F.HDR.PSTS.CODE, F.HDR.PEVT.all]), (pSYS, [F.HDR.PEVT.all])] (fun _ => false) [.ports, .page]) ∧
  (∀ (port : Nat) (s : State), Leaves (.gclSwapApply port) s [(pPORT port, [F.PORT.GCL_CFG.ACTIVE, F.PORT.STS.GCL_MISMATCH, F.HDR.PEVT.all])] (fun _ => false) [.ports]) ∧
  (∀ (clk port : Nat) (s : State), Leaves (.pauseSend clk port) s [(pSTAMP, [F.STAMP.ONESTEP_ERR.COUNT, F.HDR.PEVT.all, F.STAMP.TXQOVF.COUNT]), (pCAPTURE, [F.CAPTURE.LOST.COUNT, F.HDR.PEVT.all, F.CAPTURE.WR_SEQ.SEQ]), (pPORT port, [portCtr 9, portCtr 10, portCtr 11, F.PORT.STS.TX_PAUSING, F.HDR.PEVT.all])] (fun _ => false) [.ports, .mscl, .sw, .mem, .gang, .stamps, .plat]) ∧
  (∀ (port : Nat) (s : State), Leaves (.pauseRepeat port) s [(pSTAMP, [F.STAMP.ONESTEP_ERR.COUNT, F.HDR.PEVT.all, F.STAMP.TXQOVF.COUNT]), (pCAPTURE, [F.CAPTURE.LOST.COUNT, F.HDR.PEVT.all, F.CAPTURE.WR_SEQ.SEQ]), (pPORT port, [portCtr 9, portCtr 10, portCtr 11, F.PORT.STS.TX_PAUSING, F.HDR.PEVT.all])] (fun _ => false) [.ports, .mscl, .sw, .mem, .gang, .stamps, .plat]) ∧
  (∀ (clk port quanta : Nat) (s : State), Leaves (.pauseRx clk port quanta) s [(pPORT port, [portCtr 7, F.PORT.STS.RX_PAUSED])] (fun _ => false) [.ports]) ∧
  (∀ (port : Nat) (s : State), Leaves (.pauseExpire port) s [(pPORT port, [F.PORT.STS.RX_PAUSED])] (fun _ => false) [.ports]) ∧
  (∀ (port : Nat) (s : State), Leaves (.holdWindowClose port) s [(pCAPTURE, [F.CAPTURE.LOST.COUNT, F.HDR.PEVT.all, F.CAPTURE.WR_SEQ.SEQ]), (pBUFMEM, [F.HDR.PEVT.all])] (fun p => famOf p == some Fam.port) [.sw, .mem, .ports]) ∧
  (∀ (clk port : Nat) (s : State), Leaves (.pcsLockLoss clk port) s [(pSTAMP, [F.STAMP.ONESTEP_ERR.COUNT, F.HDR.PEVT.all, F.STAMP.TXQOVF.COUNT]), (pCAPTURE, [F.CAPTURE.LOST.COUNT, F.HDR.PEVT.all, F.CAPTURE.WR_SEQ.SEQ]), (pPORT port, [portCtr 9, portCtr 10, portCtr 11, portCtr 13])] (fun _ => false) [.ports, .mscl, .sw, .mem, .gang, .stamps, .plat]) ∧
  (∀ (clk port : Nat) (all : Bool) (s : State), Leaves (.portSnap clk port all) s [(pSTAMP, [F.STAMP.ONESTEP_ERR.COUNT, F.HDR.PEVT.all, F.STAMP.TXQOVF.COUNT]), (pCAPTURE, [F.CAPTURE.LOST.COUNT, F.HDR.PEVT.all, F.CAPTURE.WR_SEQ.SEQ]), (pSYS, [F.HDR.PEVT.all])] (fun p => famOf p == some Fam.port) [.ports, .mscl, .sw, .mem, .gang, .stamps, .plat, .page]) ∧
  (∀ (index : Nat) (s : State), Leaves (.fdbAgeExpire index) s [(pFDB, [F.FDB.USED.COUNT, F.FDB.AGED.COUNT])] (fun _ => false) [.sw]) ∧
  (∀ (clk index : Nat) (s : State), Leaves (.fdbRead clk index) s [] (fun p => p == pFDB || p == pSYS) [.sw, .page]) ∧
  (∀ (clk : Nat) (s : State), Leaves (.fdbLookup clk) s [] (fun p => p == pFDB || p == pSYS) [.sw, .page]) ∧
  (∀ (clk : Nat) (s : State), Leaves (.fdbWrite clk) s [] (fun p => p == pFDB || p == pSYS) [.sw, .page]) ∧
  (∀ (clk : Nat) (s : State), Leaves (.fdbDelete clk) s [] (fun p => p == pFDB || p == pSYS) [.sw, .page]) ∧
  (∀ (clk : Nat) (s : State), Leaves (.fdbFlushDest clk) s [] (fun p => p == pFDB || p == pSYS) [.sw, .page]) ∧
  (∀ (clk : Nat) (s : State), Leaves (.fdbFlushAll clk) s [] (fun p => p == pFDB || p == pSYS) [.sw, .page]) ∧
  (∀ (clk op : Nat) (s : State), Leaves (.fdbCmdReserved clk op) s [] (fun p => p == pFDB || p == pSYS) [.sw, .page]) ∧
  (∀ (s : State), Leaves (.hsrEntryExpire) s [(pHSR, [F.HSR.USED.COUNT])] (fun _ => false) [.sw]) ∧
  (∀ (clk bank : Nat) (s : State), Leaves (.bufmemFailBank clk bank) s [(pBUFMEM, [F.BUFMEM.CTL.BANK, F.BUFMEM.STS.FAILED.up 0, F.HDR.PEVT.all, F.HDR.PSTS.CODE]), (pSYS, [F.HDR.PEVT.all])] (fun _ => false) [.page]) ∧
  (∀ (clk bank : Nat) (s : State), Leaves (.bufmemRebuild clk bank) s [(pBUFMEM, [F.BUFMEM.CTL.BANK, F.BUFMEM.STS.REBUILDING, F.HDR.PSTS.CODE, F.HDR.PEVT.all]), (pSYS, [F.HDR.PEVT.all])] (fun _ => false) [.sw, .page]) ∧
  (∀ (clk : Nat) (ok : Bool) (s : State), Leaves (.bufmemRebuildDone clk ok) s [(pBUFMEM, [F.BUFMEM.STS.REBUILDING, F.BUFMEM.CTL.REBUILD, F.HDR.PEVT.all])] (fun _ => false) [.sw]) ∧
  (∀ (clk : Nat) (cell : ScrubRead) (s : State), Leaves (.bufmemScrub clk cell) s [(pCAPTURE, [F.CAPTURE.LOST.COUNT, F.HDR.PEVT.all, F.CAPTURE.WR_SEQ.SEQ]), (pSTAMP, [F.STAMP.ONESTEP_ERR.COUNT, F.HDR.PEVT.all, F.STAMP.TXQOVF.COUNT]), (pSWITCH, [F.SWITCH.STOMPED.COUNT, F.HDR.PEVT.all])] (fun p => p == pBUFMEM || famOf p == some Fam.port) [.sw, .mem, .ports, .mscl, .gang, .stamps, .plat]) ∧
  (∀ (clk port sa handle : Nat) (s : State), Leaves (.macsecSaInstall clk port sa handle) s [(pMACSEC, [saf F.MACSEC.SA_KEY.ERR port sa, F.HDR.PEVT.all, saf F.MACSEC.SA_KEY.HANDLE port sa, saf F.MACSEC.SA_KEY.VALID port sa, F.HDR.PSTS.CODE]), (pSYS, [F.HDR.PEVT.all])] (fun _ => false) [.sw, .page]) ∧
  (∀ (clk port sa : Nat) (s : State), Leaves (.macsecSaInstallDone clk port sa) s [(pMACSEC, [saf F.MACSEC.SA_KEY.VALID port sa, saf F.MACSEC.SA_KEY.ERR port sa, F.HDR.PEVT.all])] (fun _ => false) [.sw]) ∧
  (∀ (clk port an : Nat) (s : State), Leaves (.macsecTxAnWrite clk port an) s [(pMACSEC, [msf F.MACSEC.CTL.TX_AN port, msf F.MACSEC.TX_PN.PN port, F.HDR.PSTS.CODE, F.HDR.PEVT.all]), (pSYS, [F.HDR.PEVT.all])] (fun _ => false) [.sw, .page]) ∧
  (∀ (clk port : Nat) (s : State), Leaves (.macsecTxAnApply clk port) s [(pMACSEC, [msf F.MACSEC.CTL.TX_AN port, msf F.MACSEC.TX_PN.PN port])] (fun _ => false) [.sw])

/-- O59. Frames (R8, chapter rules): what the commands of the hub, the register pages, the host bridge, the pair and the gang leave unchanged.
Only the listed registers, pages and parts of the state change. -/
def Obligations.FramesOfHubBridgeAndPairs : Prop :=
  (∀ (clk : Nat) (s : State), Leaves (.vbatApplied clk) s [] (fun _ => false) [.pwr, .mon]) ∧
  (∀ (clk : Nat) (s : State), Leaves (.dieLinkFail clk) s [(pSYS, [F.HDR.PSTS.FAULT, F.HDR.PEVT.all])] (fun p => famOf p == some Fam.edge || p == pDUPLEX || p == pBOOK || p == pSWITCH || famOf p == some Fam.port || p == pCAPTURE || p == pBUFMEM) [.pwr, .book, .pins, .dup, .edges, .sw, .mem]) ∧
  (∀ (clk : Nat) (s : State), Leaves (.dieLinkTrained clk) s [] (fun _ => false) [.pwr]) ∧
  (∀ (clk line : Nat) (s : State), Leaves (.guardEventLineToggle clk line) s [] (fun _ => false) [.pwr]) ∧
  (∀ (clk line : Nat) (s : State), Leaves (.guardEventLineCapture clk line) s [(pSUPPLY, [F.SUPPLY.RFT.T]), (pBOOK, [F.BOOK.DISCARD.COUNT, F.BOOK.SHADOW.DROP, F.HDR.PEVT.all, F.BOOK.DISCARD_SYS.COUNT]), (pTALLY, [F.TALLY.LAST_LOSS.T])] (fun p => famOf p == some Fam.edge) [.pwr, .book]) ∧
  (∀ (clk page : Nat) (s : State), Leaves (.pageStopDone clk page) s [] (fun p => p == page || famOf p == some Fam.port || p == pSTAKE || p == (pENG (page - 32)) || p == (pCREW ((page - 32) / 4)) || p == pBOOK || famOf p == some Fam.edge || p == (pCAN (page - 112)) || p == pSTAMP || p == pCAPTURE || p == pBUFMEM || p == pGANGCTL || p == pMSCL || p == pMACSEC || p == pBRIDGE || p == (pSLOT (page - 209)) || p == pTALLY) [.ports, .mscl, .sw, .mem, .gang, .stamps, .datum, .cycle, .plat, .stake, .engs, .pins, .edges, .book, .cans, .bridge, .pwr, .tally, .page]) ∧
  (∀ (clk page : Nat) (s : State), Leaves (.pageHeldReached clk page) s [(pSTAMP, [F.STAMP.ONESTEP_ERR.COUNT, F.HDR.PEVT.all, F.STAMP.TXQOVF.COUNT]), (pCAPTURE, [F.CAPTURE.LOST.COUNT, F.HDR.PEVT.all, F.CAPTURE.WR_SEQ.SEQ]), (page, [F.HDR.PSTS.HELD])] (fun p => famOf p == some Fam.port || famOf p == some Fam.eng) [.ports, .mscl, .sw, .mem, .gang, .stamps, .plat]) ∧
  (∀ (clk page : Nat) (s : State), Leaves (.irqSummaryArrive clk page) s [(pIRQ, [pendFld page, F.IRQ.NDROP.COUNT, F.HDR.PEVT.all]), (pHSR, [F.HSR.SEQ.NEXT]), (pSWITCH, [F.SWITCH.BUF_DROP.COUNT, F.HDR.PEVT.all, F.SWITCH.NOPATH.COUNT]), (pCAPTURE, [F.CAPTURE.LOST.COUNT, F.HDR.PEVT.all, F.CAPTURE.WR_SEQ.SEQ]), (pBUFMEM, [F.HDR.PEVT.all])] (fun p => famOf p == some Fam.port) [.page, .bridge, .sw, .mem]) ∧
  (∀ (group : Nat) (s : State), Leaves (.noticeRepeat group) s [(pHSR, [F.HSR.SEQ.NEXT]), (pSWITCH, [F.SWITCH.BUF_DROP.COUNT, F.HDR.PEVT.all, F.SWITCH.NOPATH.COUNT]), (pCAPTURE, [F.CAPTURE.LOST.COUNT, F.HDR.PEVT.all, F.CAPTURE.WR_SEQ.SEQ]), (pBUFMEM, [F.HDR.PEVT.all]), (pIRQ, [F.IRQ.NDROP.COUNT, F.HDR.PEVT.all])] (fun p => famOf p == some Fam.port) [.sw, .mem, .page]) ∧
  (∀ (clk mask : Nat) (s : State), Leaves (.irqRearm clk mask) s [] (fun p => p == pHSR || p == pSWITCH || famOf p == some Fam.port || p == pCAPTURE || p == pBUFMEM || p == pIRQ || p == pSYS) [.bridge, .sw, .mem, .page]) ∧
  (∀ (clk vector : Nat) (s : State), Leaves (.msixUnmask clk vector) s [] (fun _ => false) [.bridge]) ∧
  (∀ (clk : Nat) (tr : Trans) (s : State), Leaves (.mgmtReadCompletion clk tr) s [(pBRIDGE, [F.BRIDGE.NPTO.COUNT, ⟨12, 0, 32⟩, F.BRIDGE.LATE_CPL.COUNT])] (fun _ => false) [.bridge]) ∧
  (∀ (node member : Nat) (s : State), Leaves (.noticeLateErrorSend node member) s [(pHSR, [F.HSR.SEQ.NEXT]), (pSWITCH, [F.SWITCH.BUF_DROP.COUNT, F.HDR.PEVT.all, F.SWITCH.NOPATH.COUNT]), (pCAPTURE, [F.CAPTURE.LOST.COUNT, F.HDR.PEVT.all, F.CAPTURE.WR_SEQ.SEQ]), (pBUFMEM, [F.HDR.PEVT.all])] (fun p => famOf p == some Fam.port) [.bridge, .sw, .mem]) ∧
  (∀ (clk node member : Nat) (entries : List LateErr) (s : State), Leaves (.noticeLateErrorRx clk node member entries) s [(pBRIDGE, [F.HDR.PEVT.all, F.BRIDGE.LLOG_OVF.COUNT])] (fun _ => false) [.bridge]) ∧
  (∀ (clk node member group : Nat) (pend : List Word) (s : State), Leaves (.noticeGroupRx clk node member group pend) s [] (fun _ => false) []) ∧
  (∀ (clk : Nat) (s : State), Leaves (.llogPop clk) s [] (fun _ => false) [.shadow, .result, .bridge]) ∧
  (∀ (clk : Nat) (header frame : List Byte) (s : State), Leaves (.hostTxSlotRead clk header frame) s [(pHSR, [F.HSR.SEQ.NEXT]), (pSWITCH, [F.SWITCH.BUF_DROP.COUNT, F.HDR.PEVT.all]), (pCAPTURE, [F.CAPTURE.LOST.COUNT, F.HDR.PEVT.all, F.CAPTURE.WR_SEQ.SEQ]), (pBUFMEM, [F.HDR.PEVT.all]), (pBRIDGE, [F.BRIDGE.TXBAD.COUNT, F.BRIDGE.TX_HEAD.SLOT, F.HDR.PEVT.all])] (fun p => famOf p == some Fam.port) [.bridge, .sw, .mem]) ∧
  (∀ (clk node member : Nat) (s : State), Leaves (.leaseOpen clk node member) s [(pHSR, [F.HSR.SEQ.NEXT]), (pSWITCH, [F.SWITCH.BUF_DROP.COUNT, F.HDR.PEVT.all, F.SWITCH.NOPATH.COUNT]), (pCAPTURE, [F.CAPTURE.LOST.COUNT, F.HDR.PEVT.all, F.CAPTURE.WR_SEQ.SEQ]), (pBUFMEM, [F.HDR.PEVT.all])] (fun p => famOf p == some Fam.port) [.sw, .mem, .bridge]) ∧
  (∀ (clk node member : Nat) (challenge : List Byte) (s : State), Leaves (.leaseChallenge clk node member challenge) s [(pHSR, [F.HSR.SEQ.NEXT]), (pSWITCH, [F.SWITCH.BUF_DROP.COUNT, F.HDR.PEVT.all, F.SWITCH.NOPATH.COUNT]), (pCAPTURE, [F.CAPTURE.LOST.COUNT, F.HDR.PEVT.all, F.CAPTURE.WR_SEQ.SEQ]), (pBUFMEM, [F.HDR.PEVT.all])] (fun p => famOf p == some Fam.port) [.bridge, .sw, .mem]) ∧
  (∀ (clk node member : Nat) (proof : List Byte) (s : State), Leaves (.leaseProof clk node member proof) s [(pHSR, [F.HSR.SEQ.NEXT]), (pSWITCH, [F.SWITCH.BUF_DROP.COUNT, F.HDR.PEVT.all, F.SWITCH.NOPATH.COUNT]), (pCAPTURE, [F.CAPTURE.LOST.COUNT, F.HDR.PEVT.all, F.CAPTURE.WR_SEQ.SEQ]), (pBUFMEM, [F.HDR.PEVT.all]), (pBRIDGE, [F.BRIDGE.MGRSTS.HELD, F.HDR.PEVT.all])] (fun p => famOf p == some Fam.port) [.bridge, .sw, .mem]) ∧
  (∀ (clk node member seconds : Nat) (next : List Byte) (s : State), Leaves (.leaseGrant clk node member seconds next) s [] (fun _ => false) [.bridge]) ∧
  (∀ (clk node member : Nat) (proof : List Byte) (s : State), Leaves (.leaseRenew clk node member proof) s [(pHSR, [F.HSR.SEQ.NEXT]), (pSWITCH, [F.SWITCH.BUF_DROP.COUNT, F.HDR.PEVT.all, F.SWITCH.NOPATH.COUNT]), (pCAPTURE, [F.CAPTURE.LOST.COUNT, F.HDR.PEVT.all, F.CAPTURE.WR_SEQ.SEQ]), (pBUFMEM, [F.HDR.PEVT.all]), (pBRIDGE, [F.BRIDGE.MGRSTS.HELD, F.HDR.PEVT.all])] (fun p => famOf p == some Fam.port) [.sw, .mem, .bridge]) ∧
  (∀ (clk node member : Nat) (s : State), Leaves (.leaseRelease clk node member) s [(pBRIDGE, [⟨80, 0, 32⟩, F.HDR.PEVT.all])] (fun _ => false) [.bridge]) ∧
  (∀ (clk node member reason : Nat) (s : State), Leaves (.leaseRefuse clk node member reason) s [] (fun _ => false) [.bridge]) ∧
  (∀ (s : State), Leaves (.leaseExpire) s [(pBRIDGE, [⟨80, 0, 32⟩, F.HDR.PEVT.all])] (fun _ => false) [.bridge]) ∧
  (∀ (s : State), Leaves (.leaseChallengeExpire) s [] (fun _ => false) [.bridge]) ∧
  (∀ (clk : Nat) (s : State), Leaves (.leaseDrop clk) s [(pBRIDGE, [⟨80, 0, 32⟩, F.HDR.PEVT.all, F.HDR.PSTS.CODE]), (pSYS, [F.HDR.PEVT.all])] (fun _ => false) [.bridge, .page]) ∧
  (∀ (clk : Nat) (up : Bool) (s : State), Leaves (.pcieLinkChange clk up) s [(pBRIDGE, [F.HDR.PEVT.all])] (fun _ => false) [.bridge]) ∧
  (∀ (cut : Bool) (s : State), Leaves (.duplexCopyPoint cut) s [] (fun p => famOf p == some Fam.port || p == pBOOK || p == pSWITCH || p == pCAPTURE || p == pBUFMEM || p == pDUPLEX) [.dup, .sw, .mem, .book, .tally, .pins]) ∧
  (∀ (clk lane : Nat) (payload : List Byte) (s : State), Leaves (.backsightStatusRx clk lane payload) s [] (fun p => p == pDUPLEX || p == pBOOK || famOf p == some Fam.edge || famOf p == some Fam.can || p == pSYS) [.book, .dup, .pins, .edges, .cans, .engs, .mem, .pwr]) ∧
  (∀ (clk : Nat) (rec : CycRecord) (s : State), Leaves (.cycleRecordApply clk rec) s [(pSTAKE, [F.STAKE.QSTS.HWM]), (pBOOK, [F.BOOK.LAPPED.COUNT, F.HDR.PEVT.all, drainSeq DrainId.dma, drainSeq DrainId.twin, drainSeq DrainId.ring, F.BOOK.WR_SEQ.SEQ, F.BOOK.OLDEST.SEQ]), (pTALLY, [F.TALLY.TWIN_E.UJ]), (pDUPLEX, [F.DUPLEX.APPLIED_CYC.CYCLE, F.DUPLEX.REC_APPLIED.COUNT, F.DUPLEX.REC_LAST.BYTES, F.DUPLEX.STS.SYNCED])] (fun p => famOf p == some Fam.can) [.stake, .engs, .pins, .cans, .book, .mem, .plat, .dup]) ∧
  (∀ (clk : Nat) (payload : List Byte) (s : State), Leaves (.backsightNoticeRx clk payload) s [(pDUPLEX, [F.DUPLEX.NOTICE_DROP.COUNT, F.HDR.PEVT.all])] (fun _ => false) [.dup, .stake]) ∧
  (∀ (s : State), Leaves (.heartbeatWindowClose) s [] (fun p => p == pDUPLEX || p == pBOOK || famOf p == some Fam.edge) [.dup, .pins, .edges, .book]) ∧
  (∀ (s : State), Leaves (.duplexNegotiateTimeout) s [] (fun p => p == pDUPLEX || p == pBOOK || famOf p == some Fam.edge || famOf p == some Fam.can || p == pSYS) [.dup, .pins, .edges, .book, .cans, .engs, .mem, .pwr]) ∧
  (∀ (clk : Nat) (s : State), Leaves (.duplexFault clk) s [(pSYS, [F.HDR.PEVT.all])] (fun p => p == pDUPLEX || p == pBOOK || famOf p == some Fam.edge || p == pSWITCH || famOf p == some Fam.port || p == pCAPTURE || p == pBUFMEM) [.pins, .dup, .edges, .book, .sw, .mem, .page]) ∧
  (∀ (clk : Nat) (s : State), Leaves (.duplexHandover clk) s [(pSYS, [F.HDR.PEVT.all])] (fun p => p == pDUPLEX || p == pBOOK || famOf p == some Fam.edge || p == pSWITCH || famOf p == some Fam.port || p == pCAPTURE || p == pBUFMEM) [.pins, .dup, .edges, .book, .sw, .mem, .page]) ∧
  (∀ (clk : Nat) (s : State), Leaves (.duplexRejoin clk) s [] (fun p => p == pDUPLEX || p == pBOOK || famOf p == some Fam.edge || p == pSYS) [.dup, .pins, .edges, .book, .page]) ∧
  (∀ (clk : Nat) (s : State), Leaves (.duplexFence clk) s [] (fun p => p == pBOOK || p == pDUPLEX || famOf p == some Fam.edge || famOf p == some Fam.can || p == pSYS) [.book, .dup, .pins, .edges, .cans, .page]) ∧
  (∀ (clk : Nat) (payload : List Byte) (s : State), Leaves (.dualClaimStatusRx clk payload) s [] (fun p => p == pDUPLEX || p == pBOOK || famOf p == some Fam.edge || famOf p == some Fam.can) [.book, .dup, .pins, .edges, .cans]) ∧
  (∀ (s : State), Leaves (.gangHelloSend) s [(pSWITCH, [F.SWITCH.BUF_DROP.COUNT, F.HDR.PEVT.all, F.SWITCH.NOPATH.COUNT]), (pCAPTURE, [F.CAPTURE.LOST.COUNT, F.HDR.PEVT.all, F.CAPTURE.WR_SEQ.SEQ]), (pBUFMEM, [F.HDR.PEVT.all])] (fun p => famOf p == some Fam.port) [.gang, .sw, .mem]) ∧
  (∀ (clk port member : Nat) (payload : List Byte) (s : State), Leaves (.gangHelloRx clk port member payload) s [(pGANGCTL, [F.HDR.PSTS.CODE, F.HDR.PEVT.all, F.GANGCTL.STS.DIS_MEMBER, memBit F.GANGCTL.STS.AGREED member, memBit F.GANGCTL.STS.PRESENT member])] (fun _ => false) [.dup, .gang]) ∧
  (∀ (s : State), Leaves (.gangFormWaitExpire) s [(pGANGCTL, [F.HDR.PSTS.CODE, F.HDR.PEVT.all, F.GANGCTL.STS.DIS_MEMBER])] (fun _ => false) [.gang]) ∧
  (∀ (s : State), Leaves (.gangTimeSend) s [(pSTAMP, [F.STAMP.ONESTEP_ERR.COUNT, F.HDR.PEVT.all, F.STAMP.TXQOVF.COUNT]), (pCAPTURE, [F.CAPTURE.LOST.COUNT, F.HDR.PEVT.all, F.CAPTURE.WR_SEQ.SEQ]), (pSWITCH, [F.SWITCH.BUF_DROP.COUNT, F.HDR.PEVT.all]), (pBUFMEM, [F.HDR.PEVT.all])] (fun p => famOf p == some Fam.port) [.ports, .mscl, .sw, .mem, .gang, .stamps]) ∧
  (∀ (clk port member stamp : Nat) (payload : List Byte) (s : State), Leaves (.gangTimeRx clk port member stamp payload) s [(pGANGCTL, [F.GANGCTL.STS.OFS_VALID, F.GANGCTL.OFS.OFS, F.HDR.PEVT.all])] (fun _ => false) [.gang, .dup]) ∧
  (∀ (clk member : Nat) (payload : List Byte) (s : State), Leaves (.gangStateRx clk member payload) s [(pGANGCTL, [F.GANGCTL.DIG.DIGEST.at (4 * member)])] (fun _ => false) [.dup, .gang]) ∧
  (∀ (s : State), Leaves (.gangVote) s [] (fun p => p == pGANGCTL || p == pDUPLEX || p == pBOOK || famOf p == some Fam.edge || p == pSWITCH || famOf p == some Fam.port || p == pCAPTURE || p == pBUFMEM || famOf p == some Fam.can) [.gang, .book, .pins, .dup, .edges, .sw, .mem, .cans, .engs]) ∧
  (∀ (clk : Nat) (s : State), Leaves (.gangctlRejoin clk) s [(pSYS, [F.HDR.PEVT.all]), (pGANGCTL, [F.HDR.PSTS.CODE, F.HDR.PEVT.all])] (fun _ => false) [.gang, .page]) ∧
  (∀ (clk : Nat) (s : State), Leaves (.gangctlFence clk) s [(pSYS, [F.HDR.PEVT.all])] (fun p => p == pGANGCTL || p == pDUPLEX || p == pBOOK || famOf p == some Fam.edge || p == pSWITCH || famOf p == some Fam.port || p == pCAPTURE || p == pBUFMEM || famOf p == some Fam.can) [.book, .pins, .dup, .edges, .sw, .mem, .cans, .page]) ∧
  (∀ (s : State), Leaves (.peerAbsent) s [(pDUPLEX, [F.DUPLEX.STS.PEER_PRESENT])] (fun _ => false) [])

/-- O60. Frames (R8, chapter rules): what the commands of the supplies, the tally, the Monument, the monitors and the start-up leave unchanged.
Only the listed registers, pages and parts of the state change. -/
def Obligations.FramesOfSuppliesMonumentAndStart : Prop :=
  (∀ (clk node member : Nat) (payload : List Byte) (s : State), Leaves (.noticeLastGaspRx clk node member payload) s [] (fun _ => false) []) ∧
  (∀ (clk input : Nat) (ov other : Bool) (vinA vinB vor gateNs : Nat) (s : State), Leaves (.inputInvalid clk input ov other vinA vinB vor gateNs) s [] (fun p => p == pSUPPLY || p == pTALLY || p == pSYS) [.supply, .pwr, .tally]) ∧
  (∀ (clk input vinA vinB gateNs : Nat) (s : State), Leaves (.inputValid clk input vinA vinB gateNs) s [(pSUPPLY, [inValid input, inOv input, F.HDR.PEVT.all, F.SUPPLY.STS.FET, F.SUPPLY.SWCNT.COUNT])] (fun _ => false) [.supply, .pwr]) ∧
  (∀ (vinA vinB gateNs : Nat) (s : State), Leaves (.supplyReturnPref vinA vinB gateNs) s [(pSUPPLY, [F.SUPPLY.STS.FET, F.SUPPLY.SWCNT.COUNT, F.HDR.PEVT.all])] (fun _ => false) [.pwr]) ∧
  (∀ (clk input : Nat) (off : Bool) (s : State), Leaves (.reverseComparator clk input off) s [(pSUPPLY, [F.SUPPLY.STS.FET, F.SUPPLY.SWCNT.COUNT, F.HDR.PEVT.all])] (fun _ => false) [.supply]) ∧
  (∀ (s : State), Leaves (.railSequenceStart) s [(pSUPPLY, [F.SUPPLY.STS.SEQ_BUSY])] (fun _ => false) [.supply]) ∧
  (∀ (enter : Nat) (s : State), Leaves (.railEnStep enter) s [] (fun _ => false) [.supply]) ∧
  (∀ (enter : Nat) (s : State), Leaves (.pgCoreRelease enter) s [(pSUPPLY, [F.SUPPLY.STS.PG_CORE])] (fun _ => false) [.pwr, .supply]) ∧
  (∀ (clk : Nat) (s : State), Leaves (.railEnFallStep clk) s [] (fun p => famOf p == some Fam.slot) [.supply, .pwr]) ∧
  (∀ (s : State), Leaves (.railFaultRestart) s [(pSUPPLY, [F.SUPPLY.STS.SEQ_BUSY])] (fun _ => false) [.supply]) ∧
  (∀ (clk : Nat) (s : State), Leaves (.supplyRfClr clk) s [(pSUPPLY, [F.SUPPLY.STS.RF_LATCH, F.HDR.PSTS.CODE, F.HDR.PEVT.all]), (pSYS, [F.HDR.PEVT.all])] (fun _ => false) [.page]) ∧
  (∀ (clk : Nat) (s : State), Leaves (.vorBelowPfw clk) s [(pSUPPLY, [F.SUPPLY.STS.PFW, F.HDR.PEVT.all])] (fun _ => false) []) ∧
  (∀ (clk : Nat) (s : State), Leaves (.pfwRelease clk) s [(pSUPPLY, [F.SUPPLY.STS.PFW])] (fun _ => false) []) ∧
  (∀ (clk slot vout : Nat) (s : State), Leaves (.slotFastTrip clk slot vout) s [(pSLOT slot, [F.SLOT.STS.PRESENT, F.SLOT.TRIPS.COUNT, F.SLOT.ONTIME.US, F.HDR.PEVT.all])] (fun _ => false) [.pwr, .slots]) ∧
  (∀ (clk slot vout : Nat) (s : State), Leaves (.slotFaultTimerExpire clk slot vout) s [(pSLOT slot, [F.SLOT.STS.PRESENT, F.SLOT.TRIPS.COUNT, F.SLOT.ONTIME.US, F.HDR.PEVT.all])] (fun _ => false) [.pwr, .slots]) ∧
  (∀ (clk slot : Nat) (s : State), Leaves (.slotLimitTimerClear clk slot) s [(pSLOT slot, [F.SLOT.STS.LIMITING])] (fun _ => false) [.slots]) ∧
  (∀ (slot vout : Nat) (s : State), Leaves (.slotStartTimeout slot vout) s [(pSLOT slot, [F.SLOT.STS.PRESENT, F.SLOT.TRIPS.COUNT, F.SLOT.ONTIME.US, F.HDR.PEVT.all])] (fun _ => false) [.pwr, .slots]) ∧
  (∀ (clk slot : Nat) (limiting : Bool) (vout : Nat) (s : State), Leaves (.slotPgRise clk slot limiting vout) s [(pSLOT slot, [F.SLOT.STS.LIMITING, F.HDR.PEVT.all])] (fun _ => false) [.slots, .pwr]) ∧
  (∀ (clk slot vout : Nat) (s : State), Leaves (.slotPgFall clk slot vout) s [(pSLOT slot, [F.SLOT.STS.PG, F.HDR.PEVT.all])] (fun _ => false) [.pwr]) ∧
  (∀ (slot : Nat) (s : State), Leaves (.slotCoolEnd slot) s [(pSLOT slot, [F.SLOT.STS.STATE])] (fun _ => false) [.slots]) ∧
  (∀ (slot : Nat) (s : State), Leaves (.slotInsertRemainderEnd slot) s [(pSLOT slot, [F.SLOT.STS.STATE])] (fun _ => false) [.slots]) ∧
  (∀ (clk slot vout : Nat) (s : State), Leaves (.slotRemoval clk slot vout) s [(pSLOT slot, [F.SLOT.STS.PRESENT, F.HDR.PEVT.all])] (fun _ => false) [.slots, .pwr]) ∧
  (∀ (clk slot : Nat) (s : State), Leaves (.slotInsertion clk slot) s [(pSLOT slot, [F.SLOT.STS.PRESENT, F.HDR.PEVT.all])] (fun _ => false) [.slots, .pwr]) ∧
  (∀ (clk slot : Nat) (level : Bool) (vout : Nat) (s : State), Leaves (.slotOnPinChange clk slot level vout) s [(pSLOT slot, [F.SLOT.STS.LATCH, F.HDR.PEVT.all])] (fun _ => false) [.slots, .pwr]) ∧
  (∀ (clk : Nat) (adc : List Nat) (s : State), Leaves (.tallyUpdate clk adc) s [] (fun p => p == pTALLY || p == pSUPPLY || p == pHSR || p == pSWITCH || famOf p == some Fam.port || p == pCAPTURE || p == pBUFMEM) [.tally, .pwr, .sw, .mem, .mon, .life]) ∧
  (∀ (clk : Nat) (s : State), Leaves (.tallyLearn clk) s [(pTALLY, [F.TALLY.STS.LEARNING, F.TALLY.CTL.LEARN, F.HDR.PEVT.all, F.HDR.PSTS.CODE]), (pSYS, [F.HDR.PEVT.all])] (fun _ => false) [.tally, .page]) ∧
  (∀ (s : State), Leaves (.tallyAutoLearn) s [(pTALLY, [F.TALLY.STS.LEARNING, F.TALLY.CTL.LEARN])] (fun _ => false) [.tally]) ∧
  (∀ (s : State), Leaves (.tallyLearnEnd) s [(pTALLY, [F.TALLY.STS.LEARNING, F.TALLY.CTL.LEARN, F.TALLY.C_LEARN.UF, F.HDR.PEVT.all])] (fun _ => false) [.tally]) ∧
  (∀ (clk : Nat) (stage : Bool) (s : State), Leaves (.monumentDerive clk stage) s [(pMONUMENT, [F.MONUMENT.CMD.OP, F.MONUMENT.STS.BUSY, F.HDR.PSTS.CODE, F.HDR.PEVT.all]), (pSYS, [F.HDR.PEVT.all])] (fun _ => false) [.mon, .life, .page]) ∧
  (∀ (clk : Nat) (stage : Bool) (s : State), Leaves (.monumentGenerate clk stage) s [(pMONUMENT, [F.MONUMENT.CMD.OP, F.MONUMENT.STS.BUSY, F.HDR.PSTS.CODE, F.HDR.PEVT.all]), (pSYS, [F.HDR.PEVT.all])] (fun _ => false) [.mon, .life, .page]) ∧
  (∀ (clk : Nat) (s : State), Leaves (.monumentGenIdent clk) s [(pMONUMENT, [F.MONUMENT.CMD.OP, F.MONUMENT.STS.BUSY, F.HDR.PSTS.CODE, F.HDR.PEVT.all]), (pSYS, [F.HDR.PEVT.all])] (fun _ => false) [.mon, .life, .page]) ∧
  (∀ (clk : Nat) (stage : Bool) (s : State), Leaves (.monumentImport clk stage) s [(pMONUMENT, [F.MONUMENT.CMD.OP, F.MONUMENT.STS.BUSY, F.HDR.PSTS.CODE, F.HDR.PEVT.all]), (pSYS, [F.HDR.PEVT.all])] (fun _ => false) [.mon, .life, .page]) ∧
  (∀ (clk : Nat) (stage : Bool) (s : State), Leaves (.monumentUnwrap clk stage) s [(pMONUMENT, [F.MONUMENT.CMD.OP, F.MONUMENT.STS.BUSY, F.HDR.PSTS.CODE, F.HDR.PEVT.all]), (pSYS, [F.HDR.PEVT.all])] (fun _ => false) [.mon, .life, .page]) ∧
  (∀ (clk : Nat) (s : State), Leaves (.monumentWrap clk) s [(pMONUMENT, [F.MONUMENT.CMD.OP, F.MONUMENT.STS.BUSY, F.HDR.PSTS.CODE, F.HDR.PEVT.all]), (pSYS, [F.HDR.PEVT.all])] (fun _ => false) [.mon, .life, .page]) ∧
  (∀ (clk : Nat) (s : State), Leaves (.monumentMac clk) s [(pMONUMENT, [F.MONUMENT.CMD.OP, F.MONUMENT.STS.BUSY, F.HDR.PSTS.CODE, F.HDR.PEVT.all]), (pSYS, [F.HDR.PEVT.all])] (fun _ => false) [.mon, .life, .page]) ∧
  (∀ (clk : Nat) (s : State), Leaves (.monumentMacVerify clk) s [(pMONUMENT, [F.MONUMENT.CMD.OP, F.MONUMENT.STS.BUSY, F.HDR.PSTS.CODE, F.HDR.PEVT.all]), (pSYS, [F.HDR.PEVT.all])] (fun _ => false) [.mon, .life, .page]) ∧
  (∀ (clk : Nat) (s : State), Leaves (.monumentSign clk) s [(pMONUMENT, [F.MONUMENT.CMD.OP, F.MONUMENT.STS.BUSY, F.HDR.PSTS.CODE, F.HDR.PEVT.all]), (pSYS, [F.HDR.PEVT.all])] (fun _ => false) [.mon, .life, .page]) ∧
  (∀ (clk : Nat) (s : State), Leaves (.monumentPubkey clk) s [(pMONUMENT, [F.MONUMENT.CMD.OP, F.MONUMENT.STS.BUSY, F.HDR.PSTS.CODE, F.HDR.PEVT.all]), (pSYS, [F.HDR.PEVT.all])] (fun _ => false) [.mon, .life, .page]) ∧
  (∀ (clk : Nat) (s : State), Leaves (.monumentAttest clk) s [(pMONUMENT, [F.MONUMENT.CMD.OP, F.MONUMENT.STS.BUSY, F.HDR.PSTS.CODE, F.HDR.PEVT.all]), (pSYS, [F.HDR.PEVT.all])] (fun _ => false) [.mon, .life, .page]) ∧
  (∀ (clk : Nat) (s : State), Leaves (.monumentProve clk) s [(pMONUMENT, [F.MONUMENT.CMD.OP, F.MONUMENT.STS.BUSY, F.HDR.PSTS.CODE, F.HDR.PEVT.all]), (pSYS, [F.HDR.PEVT.all])] (fun _ => false) [.mon, .life, .page]) ∧
  (∀ (clk : Nat) (s : State), Leaves (.monumentCommit clk) s [(pMONUMENT, [F.MONUMENT.CMD.OP, F.MONUMENT.STS.BUSY, F.HDR.PSTS.CODE, F.HDR.PEVT.all]), (pSYS, [F.HDR.PEVT.all])] (fun _ => false) [.mon, .life, .page]) ∧
  (∀ (clk : Nat) (s : State), Leaves (.monumentDiscard clk) s [(pMONUMENT, [F.MONUMENT.CMD.OP, F.MONUMENT.STS.BUSY, F.HDR.PSTS.CODE, F.HDR.PEVT.all]), (pSYS, [F.HDR.PEVT.all])] (fun _ => false) [.mon, .life, .page]) ∧
  (∀ (clk : Nat) (s : State), Leaves (.monumentErase clk) s [(pMONUMENT, [F.MONUMENT.CMD.OP, F.MONUMENT.STS.BUSY, F.HDR.PSTS.CODE, F.HDR.PEVT.all]), (pSYS, [F.HDR.PEVT.all])] (fun _ => false) [.mon, .life, .page]) ∧
  (∀ (clk : Nat) (s : State), Leaves (.monumentInfo clk) s [(pMONUMENT, [F.MONUMENT.CMD.OP, F.MONUMENT.STS.BUSY, F.HDR.PSTS.CODE, F.HDR.PEVT.all]), (pSYS, [F.HDR.PEVT.all])] (fun _ => false) [.mon, .life, .page]) ∧
  (∀ (clk : Nat) (s : State), Leaves (.monumentTransition clk) s [(pMONUMENT, [F.MONUMENT.CMD.OP, F.MONUMENT.STS.BUSY, F.HDR.PSTS.CODE, F.HDR.PEVT.all]), (pSYS, [F.HDR.PEVT.all])] (fun _ => false) [.mon, .life, .page]) ∧
  (∀ (clk : Nat) (s : State), Leaves (.monumentMkaKdf clk) s [(pMONUMENT, [F.MONUMENT.CMD.OP, F.MONUMENT.STS.BUSY, F.HDR.PSTS.CODE, F.HDR.PEVT.all]), (pSYS, [F.HDR.PEVT.all])] (fun _ => false) [.mon, .life, .page]) ∧
  (∀ (clk : Nat) (s : State), Leaves (.monumentMkaIcv clk) s [(pMONUMENT, [F.MONUMENT.CMD.OP, F.MONUMENT.STS.BUSY, F.HDR.PSTS.CODE, F.HDR.PEVT.all]), (pSYS, [F.HDR.PEVT.all])] (fun _ => false) [.mon, .life, .page]) ∧
  (∀ (clk : Nat) (s : State), Leaves (.monumentMkaUnwrap clk) s [(pMONUMENT, [F.MONUMENT.CMD.OP, F.MONUMENT.STS.BUSY, F.HDR.PSTS.CODE, F.HDR.PEVT.all]), (pSYS, [F.HDR.PEVT.all])] (fun _ => false) [.mon, .life, .page]) ∧
  (∀ (clk op : Nat) (s : State), Leaves (.monumentOpReserved clk op) s [(pMONUMENT, [F.MONUMENT.CMD.OP, F.MONUMENT.STS.BUSY, F.HDR.PSTS.CODE, F.HDR.PEVT.all]), (pSYS, [F.HDR.PEVT.all])] (fun _ => false) [.mon, .life, .page]) ∧
  (∀ (clk : Nat) (s : State), Leaves (.monumentOpDone clk) s [] (fun p => p == pMONUMENT) [.mon, .life, .pwr]) ∧
  (∀ (s : State), Leaves (.keyCommit) s [(pMONUMENT, [F.HDR.PEVT.all])] (fun _ => false) [.mon, .pwr]) ∧
  (∀ (clk : Nat) (s : State), Leaves (.keyCommitOldZeroed clk) s [] (fun _ => false) [.mon]) ∧
  (∀ (clk : Nat) (s : State), Leaves (.trngFail clk) s [(pMONUMENT, [F.MONUMENT.STS.TRNG_OK, F.MONUMENT.TRNG_FAIL.COUNT, F.HDR.PEVT.all])] (fun _ => false) []) ∧
  (∀ (clk : Nat) (word : Word) (s : State), Leaves (.monumentRtcSet clk word) s [(pSYS, [F.HDR.PEVT.all]), (pMONUMENT, [F.HDR.PSTS.CODE, F.HDR.PEVT.all])] (fun _ => false) [.mon, .page]) ∧
  (∀ (clk sources : Nat) (s : State), Leaves (.tamperDetect clk sources) s [(pTAMPER, [F.TAMPER.STS.LIVE, F.TAMPER.COUNT.EVENTS, F.TAMPER.LOG_STS.NEXT, F.HDR.PEVT.all])] (fun p => p == pMONUMENT || p == pMACSEC) [.pwr, .mon, .life, .sw]) ∧
  (∀ (clk : Nat) (word : Word) (s : State), Leaves (.tamperRearm clk word) s [(pTAMPER, [F.HDR.PEVT.all, F.HDR.PSTS.CODE]), (pMONUMENT, [F.MONUMENT.STS.COND]), (pSYS, [F.HDR.PEVT.all])] (fun _ => false) [.mon, .page]) ∧
  (∀ (clk mon : Nat) (value : Int) (s : State), Leaves (.hmonSample clk mon value) s [] (fun p => p == (pHMON mon)) []) ∧
  (∀ (clk mon : Nat) (clear all : Bool) (s : State), Leaves (.hmonSnap clk mon clear all) s [(pSYS, [F.HDR.PEVT.all])] (fun p => famOf p == some Fam.hmon) [.page]) ∧
  (∀ (clk : Nat) (data : Word) (s : State), Leaves (.calDataWrite clk data) s [(pCAL, [F.CAL.ADDR.WORD, F.HDR.PSTS.CODE, F.HDR.PEVT.all]), (pSYS, [F.HDR.PEVT.all])] (fun _ => false) [.cal, .page]) ∧
  (∀ (clk : Nat) (s : State), Leaves (.calDataRead clk) s [(pCAL, [F.CAL.ADDR.WORD])] (fun _ => false) [.result]) ∧
  (∀ (clk : Nat) (word : Word) (s : State), Leaves (.calUnlock clk word) s [(pSYS, [F.HDR.PEVT.all]), (pCAL, [F.HDR.PSTS.CODE, F.HDR.PEVT.all])] (fun _ => false) [.cal, .page]) ∧
  (∀ (clk : Nat) (s : State), Leaves (.calProg clk) s [(pCAL, [F.HDR.PSTS.CODE, F.HDR.PEVT.all, F.CAL.CTL.PROG]), (pSYS, [F.HDR.PEVT.all])] (fun _ => false) [.cal, .page]) ∧
  (∀ (clk : Nat) (s : State), Leaves (.calProgDone clk) s [(pCAL, [F.CAL.STS.VALID, F.CAL.ORIGIN.ORIGIN, F.CAL.CTL.PROG, F.HDR.PEVT.all])] (fun _ => false) [.cal]) ∧
  (∀ (clk nid role boot : Nat) (s : State), Leaves (.corePorRelease clk nid role boot) s [(pSYS, [F.SYS.SERIAL.SN, F.SYS.STRAP.NID, F.HDR.PSTS.FAULT, F.HDR.PEVT.all, F.SYS.BOOTSTS.STAGE]), (pRESET, [F.RESET.CAUSE.all, F.RESET.CORE_RESETS.COUNT])] (fun p => famOf p == some Fam.slot) [.pwr, .datum, .supply, .slots]) ∧
  (∀ (clk : Nat) (s : State), Leaves (.pllLock clk) s [(pSYS, [F.SYS.BOOTSTS.STAGE])] (fun _ => false) [.pwr]) ∧
  (∀ (clk : Nat) (s : State), Leaves (.calLoadDone clk) s [(pCAL, [F.CAL.STS.VALID, F.CAL.ORIGIN.ORIGIN]), (pSYS, [F.SYS.BOOTSTS.STAGE])] (fun _ => false) [.cal]) ∧
  (∀ (clk : Nat) (image : Option (List Byte)) (s : State), Leaves (.bootFetchDone clk image) s [(pSYS, [F.SYS.BOOTCTL.GO, F.SYS.BOOTSTS.ALT, F.HDR.PEVT.all])] (fun _ => false) [.boot]) ∧
  (∀ (clk : Nat) (s : State), Leaves (.bootEntryWait clk) s [(pSYS, [F.HDR.PEVT.all, F.SYS.AERR_LO.ADDR_LO, F.SYS.AERR_HI.ADDR_HI, F.SYS.BOOTENT.ENTRY, F.SYS.BOOTSTS.STAGE])] (fun _ => false) [.boot]) ∧
  (∀ (s : State), Leaves (.bootWaitTimeout) s [(pSYS, [F.SYS.BOOTERR.PAGE, F.SYS.BOOTSTS.STAGE, F.HDR.PEVT.all])] (fun _ => false) [.boot]) ∧
  (∀ (clk nid role boot : Nat) (s : State), Leaves (.rstNRelease clk nid role boot) s [(pSYS, [F.SYS.SERIAL.SN, F.SYS.STRAP.NID, F.HDR.PSTS.FAULT, F.HDR.PEVT.all, F.SYS.BOOTSTS.STAGE]), (pRESET, [F.RESET.CAUSE.all, F.RESET.CORE_RESETS.COUNT]), (pSUPPLY, [F.SUPPLY.STS.RF_LATCH])] (fun p => famOf p == some Fam.slot) [.pwr, .datum, .supply, .slots]) ∧
  (∀ (clk : Nat) (s : State), Leaves (.batteryDomainLoss clk) s [] (fun p => p == pTAMPER) [.mon, .life, .pwr]) ∧
  (∀ (clk sources : Nat) (s : State), Leaves (.tamperSourceInactive clk sources) s [(pTAMPER, [F.TAMPER.STS.LIVE])] (fun _ => false) []) ∧
  (∀ (clk bank : Nat) (present sense : Bool) (s : State), Leaves (.vddioBankChange clk bank present sense) s [(pPINMUX (bank / 2), [Fld.mk F.PINMUX.VDDSTS.PRESENT.off (2 + bank % 2) 1, Fld.mk F.PINMUX.VDDSTS.SENSE.off (bank % 2) 1]), (pBOOK, [F.BOOK.DISCARD.COUNT, F.BOOK.SHADOW.DROP, F.HDR.PEVT.all, F.BOOK.DISCARD_SYS.COUNT])] (fun p => famOf p == some Fam.edge) [.pins, .edges, .book])
end

