-- ==== Sys2Proof/Laws/Kept.lean ====
section
/-!
SUPPORT. What a piece of the machine may touch: a scope names registers and parts of the state, and `Kept σ r s` says that
`s` differs from `r` inside the scope alone, that the queue and the serial number are as they were, that time and the count
of free values have not gone back, that canonical tables stay canonical, and that the life cycle has moved forward only.
One lemma of this form per operation, closed under composition, carries it to every command.
-/

namespace Sys2Proof.Laws

open Sys2Proof Sys2Proof.Machine

/-! Sparse tables. -/

theorem tabGet_filter_ne {α : Type} (d : Nat → α) (k : Nat) : ∀ (l : List (Nat × α)) (j : Nat),
    tabGet d (l.filter (fun p => p.1 != k)) j = if j = k then d j else tabGet d l j
  | [], j => by simp [tabGet]
  | p :: t, j => by
    have ih := tabGet_filter_ne d k t j
    by_cases h : p.1 = k
    · simp only [List.filter_cons, h, bne_self_eq_false, Bool.false_eq_true, if_false, ih, tabGet]
      by_cases hj : j = k
      · simp [hj]
      · simp [hj, Ne.symm hj]
    · simp only [List.filter_cons, bne_iff_ne, ne_eq, h, not_false_eq_true, if_true, tabGet, ih]
      by_cases hj : p.1 = j
      · subst hj; simp [h]
      · simp [hj]

theorem tabGet_tabIns {α : Type} (d : Nat → α) (k : Nat) (v : α) : ∀ (l : List (Nat × α)) (j : Nat),
    (∀ q ∈ l, q.1 ≠ k) → tabGet d (tabIns k v l) j = if j = k then v else tabGet d l j
  | [], j, _ => by by_cases h : k = j <;> simp [tabIns, tabGet, h, eq_comm]
  | p :: t, j, hn => by
    have hp : p.1 ≠ k := hn p (by simp)
    have ih := tabGet_tabIns d k v t j (fun q hq => hn q (by simp [hq]))
    unfold tabIns
    split
    · by_cases hj : j = k
      · simp [tabGet, hj]
      · simp [tabGet, hj, Ne.symm hj]
    · simp only [tabGet, ih]
      by_cases hj : j = k
      · subst hj; simp [hp]
      · simp [hj]

/-- Reading a table after a write. -/
theorem tabGet_tabPut {α : Type} [DecidableEq α] (d : Nat → α) (l : List (Nat × α)) (k : Nat) (v : α) (j : Nat) :
    tabGet d (tabPut d l k v) j = if j = k then v else tabGet d l j := by
  unfold tabPut
  split
  · next h => rw [tabGet_filter_ne]; split <;> simp_all
  · have hn : ∀ p ∈ l.filter (fun p => p.1 != k), p.1 ≠ k := by
      intro p hp; simp [List.mem_filter] at hp; exact hp.2
    rw [tabGet_tabIns d k v _ j hn, tabGet_filter_ne]
    split <;> simp_all

@[simp] theorem tabGet_tabPut_same {α : Type} [DecidableEq α] (d : Nat → α) (l : List (Nat × α)) (k : Nat) (v : α) :
    tabGet d (tabPut d l k v) k = v := by simp [tabGet_tabPut]

theorem tabGet_tabPut_ne {α : Type} [DecidableEq α] (d : Nat → α) (l : List (Nat × α)) {k j : Nat} (v : α) (h : j ≠ k) :
    tabGet d (tabPut d l k v) j = tabGet d l j := by simp [tabGet_tabPut, h]

theorem tabWfFrom_mono {α : Type} [DecidableEq α] (d : Nat → α) {a b : Nat} (hab : a ≤ b) :
    ∀ l : List (Nat × α), tabWfFrom d b l = true → tabWfFrom d a l = true
  | [], _ => rfl
  | p :: t, h => by
    simp only [tabWfFrom, Bool.and_eq_true, decide_eq_true_eq] at h ⊢
    exact ⟨⟨le_trans hab h.1.1, h.1.2⟩, h.2⟩

theorem tabWfFrom_filter {α : Type} [DecidableEq α] (d : Nat → α) (q : Nat × α → Bool) :
    ∀ (l : List (Nat × α)) (a : Nat), tabWfFrom d a l = true → tabWfFrom d a (l.filter q) = true
  | [], _, _ => rfl
  | p :: t, a, h => by
    simp only [tabWfFrom, Bool.and_eq_true, decide_eq_true_eq] at h
    have ih := tabWfFrom_filter d q t (p.1 + 1) h.2
    rw [List.filter_cons]
    split
    · simp only [tabWfFrom, Bool.and_eq_true, decide_eq_true_eq]; exact ⟨h.1, ih⟩
    · exact tabWfFrom_mono d (by omega) _ ih

theorem tabWfFrom_tabIns {α : Type} [DecidableEq α] (d : Nat → α) (k : Nat) (v : α) (hv : v ≠ d k) :
    ∀ (l : List (Nat × α)) (a : Nat), a ≤ k → (∀ p ∈ l, p.1 ≠ k) → tabWfFrom d a l = true →
      tabWfFrom d a (tabIns k v l) = true
  | [], a, ha, _, _ => by simp [tabIns, tabWfFrom, ha, hv]
  | p :: t, a, ha, hn, h => by
    simp only [tabWfFrom, Bool.and_eq_true, decide_eq_true_eq] at h
    unfold tabIns
    split
    · next hlt =>
      simp only [tabWfFrom, Bool.and_eq_true, decide_eq_true_eq]
      exact ⟨⟨ha, hv⟩, ⟨⟨by omega, h.1.2⟩, h.2⟩⟩
    · next hlt =>
      have := hn p (by simp)
      simp only [tabWfFrom, Bool.and_eq_true, decide_eq_true_eq]
      exact ⟨h.1, tabWfFrom_tabIns d k v hv t (p.1 + 1) (by omega) (fun q hq => hn q (by simp [hq])) h.2⟩

/-- A write keeps the canonical form of a table. -/
theorem tabWf_tabPut {α : Type} [DecidableEq α] (d : Nat → α) (l : List (Nat × α)) (k : Nat) (v : α)
    (h : tabWf d l = true) : tabWf d (tabPut d l k v) = true := by
  unfold tabPut
  split
  · exact tabWfFrom_filter d _ l 0 h
  · next hv =>
    refine tabWfFrom_tabIns d k v hv _ 0 (Nat.zero_le _) ?_ (tabWfFrom_filter d _ l 0 h)
    intro p hp; simp [List.mem_filter] at hp; exact hp.2

theorem tabWf_filter {α : Type} [DecidableEq α] (d : Nat → α) (q : Nat × α → Bool) (l : List (Nat × α))
    (h : tabWf d l = true) : tabWf d (l.filter q) = true := tabWfFrom_filter d q l 0 h

theorem tabGet_filter {α : Type} (d : Nat → α) (q : Nat → Bool) {k : Nat} (hq : q k = true) : ∀ l : List (Nat × α),
    tabGet d (l.filter (fun e => q e.1)) k = tabGet d l k
  | [] => rfl
  | e :: t => by
    have ih := tabGet_filter d q hq t
    by_cases he : q e.1 = true
    · simp only [List.filter_cons, he, if_true, tabGet, ih]
    · have hn : e.1 ≠ k := fun hk => he (hk ▸ hq)
      simp only [List.filter_cons, he, tabGet, hn, if_false]
      simpa using ih

/-! Scopes. -/

/-- Registers by key, and parts of the state, that a piece of the machine may change. -/
structure Scope where
  reg : Nat → Bool
  part : Part → Bool

/-- The words of a field lie in a scope. -/
def Scope.fld (σ : Scope) (p : Nat) (f : Fld) : Prop := ∀ i, i < f.words → σ.reg (regKey p (f.off + 4 * i)) = true

/-- A scope takes in a whole page. -/
def Scope.page (σ : Scope) (p : Nat) : Prop := ∀ off, σ.reg (regKey p off) = true

theorem Scope.page.fld {σ : Scope} {p : Nat} {f : Fld} (h : σ.page p) : σ.fld p f := fun _ _ => h _

theorem Scope.page.ofKey {σ : Scope} {p k : Nat} (h : σ.page p) (hk : k / 4096 = p) : σ.reg k = true := by
  have := h k
  rwa [show regKey p k = k by subst hk; simp only [regKey]; omega] at this

/-- A scope of everything. -/
def Scope.Full (σ : Scope) : Prop := (∀ x, σ.part x = true) ∧ ∀ k, σ.reg k = true

/-- `s` comes from `r` by changes inside a scope. -/
structure Kept (σ : Scope) (r s : State) : Prop where
  pending : s.pending = r.pending
  clock : r.clock ≤ s.clock
  free : r.freeCtr ≤ s.freeCtr
  canon : r.Canonical → s.Canonical
  serial : s.pwr.serial = r.pwr.serial
  forward : r.mon.LifeOk → s.mon.LifeOk ∧ r.mon.fuse ≤ s.mon.fuse
  reg : ∀ k, σ.reg k = false → tabGet regDefault s.regs k = tabGet regDefault r.regs k
  part : ∀ x, σ.part x = false → x.same r s

theorem Part.same_refl (x : Part) (s : State) : x.same s s := by cases x <;> simp [Part.same]
theorem Part.same_trans {x : Part} {r s t : State} (h1 : x.same r s) (h2 : x.same s t) : x.same r t := by
  cases x <;> simp_all [Part.same]

variable {σ : Scope} {r s t : State}

theorem Kept.refl (σ : Scope) (s : State) : Kept σ s s :=
  ⟨rfl, le_rfl, le_rfl, id, rfl, fun h => ⟨h, le_rfl⟩, fun _ _ => rfl, fun x _ => Part.same_refl x s⟩

theorem Kept.trans (h1 : Kept σ r s) (h2 : Kept σ s t) : Kept σ r t :=
  ⟨h2.pending.trans h1.pending, h1.clock.trans h2.clock, h1.free.trans h2.free, fun h => h2.canon (h1.canon h),
    h2.serial.trans h1.serial,
    fun h => ⟨(h2.forward (h1.forward h).1).1, (h1.forward h).2.trans (h2.forward (h1.forward h).1).2⟩,
    fun k hk => (h2.reg k hk).trans (h1.reg k hk), fun x hx => Part.same_trans (h1.part x hx) (h2.part x hx)⟩

theorem Kept.ite {c : Prop} {dc : Decidable c} {a b : State} (ha : Kept σ r a) (hb : Kept σ r b) :
    Kept σ r (if c then a else b) := by split <;> assumption

theorem Kept.iteFst {β : Type} {c : Prop} {dc : Decidable c} {a b : State × β} (ha : Kept σ r a.1) (hb : Kept σ r b.1) :
    Kept σ r (if c then a else b).1 := by split <;> assumption

theorem Kept.cut {a b : State} (hb : Kept σ r a → Kept σ r b) (ha : Kept σ r a) : Kept σ r b := hb ha

theorem Kept.foldl {α : Type} {f : State → α → State} (hf : ∀ x a, Kept σ r x → Kept σ r (f x a)) :
    ∀ (l : List α) (s : State), Kept σ r s → Kept σ r (l.foldl f s)
  | [], _, h => h
  | a :: t, _, h => Kept.foldl hf t _ (hf _ a h)

theorem Kept.foldlFst {α β : Type} {f : State × β → α → State × β} (hf : ∀ x a, Kept σ r x.1 → Kept σ r (f x a).1) :
    ∀ (l : List α) (s : State × β), Kept σ r s.1 → Kept σ r (l.foldl f s).1
  | [], _, h => h
  | a :: t, _, h => Kept.foldlFst hf t _ (hf _ a h)

/-! Primitive changes. -/

theorem Kept.result (h : Kept σ r s) (hx : σ.part .result = true) {v} : Kept σ r { s with result := v } :=
  h.trans ⟨rfl, le_rfl, le_rfl, id, rfl, fun h => ⟨h, le_rfl⟩, fun _ _ => rfl,
    fun y hy => by cases y <;> first | exact rfl | exact ⟨rfl, rfl⟩ | simp [hx] at hy⟩

theorem Kept.latch (h : Kept σ r s) (hx : σ.part .latch = true) {v} : Kept σ r { s with latch := v } :=
  h.trans ⟨rfl, le_rfl, le_rfl, id, rfl, fun h => ⟨h, le_rfl⟩, fun _ _ => rfl,
    fun y hy => by cases y <;> first | exact rfl | exact ⟨rfl, rfl⟩ | simp [hx] at hy⟩

theorem Kept.shadow (h : Kept σ r s) (hx : σ.part .shadow = true) {v} : Kept σ r { s with shadow := v } :=
  h.trans ⟨rfl, le_rfl, le_rfl, id, rfl, fun h => ⟨h, le_rfl⟩, fun _ _ => rfl,
    fun y hy => by cases y <;> first | exact rfl | exact ⟨rfl, rfl⟩ | simp [hx] at hy⟩

theorem Kept.page (h : Kept σ r s) (hx : σ.part .page = true) {v} : Kept σ r { s with page := v } :=
  h.trans ⟨rfl, le_rfl, le_rfl, id, rfl, fun h => ⟨h, le_rfl⟩, fun _ _ => rfl,
    fun y hy => by cases y <;> first | exact rfl | exact ⟨rfl, rfl⟩ | simp [hx] at hy⟩

theorem Kept.datum (h : Kept σ r s) (hx : σ.part .datum = true) {v} : Kept σ r { s with datum := v } :=
  h.trans ⟨rfl, le_rfl, le_rfl, id, rfl, fun h => ⟨h, le_rfl⟩, fun _ _ => rfl,
    fun y hy => by cases y <;> first | exact rfl | exact ⟨rfl, rfl⟩ | simp [hx] at hy⟩

theorem Kept.stamps (h : Kept σ r s) (hx : σ.part .stamps = true) {v} : Kept σ r { s with stamps := v } :=
  h.trans ⟨rfl, le_rfl, le_rfl, id, rfl, fun h => ⟨h, le_rfl⟩, fun _ _ => rfl,
    fun y hy => by cases y <;> first | exact rfl | exact ⟨rfl, rfl⟩ | simp [hx] at hy⟩

theorem Kept.ports (h : Kept σ r s) (hx : σ.part .ports = true) {v} : Kept σ r { s with ports := v } :=
  h.trans ⟨rfl, le_rfl, le_rfl, id, rfl, fun h => ⟨h, le_rfl⟩, fun _ _ => rfl,
    fun y hy => by cases y <;> first | exact rfl | exact ⟨rfl, rfl⟩ | simp [hx] at hy⟩

theorem Kept.sw (h : Kept σ r s) (hx : σ.part .sw = true) {v} : Kept σ r { s with sw := v } :=
  h.trans ⟨rfl, le_rfl, le_rfl, id, rfl, fun h => ⟨h, le_rfl⟩, fun _ _ => rfl,
    fun y hy => by cases y <;> first | exact rfl | exact ⟨rfl, rfl⟩ | simp [hx] at hy⟩

theorem Kept.book (h : Kept σ r s) (hx : σ.part .book = true) {v} : Kept σ r { s with book := v } :=
  h.trans ⟨rfl, le_rfl, le_rfl, id, rfl, fun h => ⟨h, le_rfl⟩, fun _ _ => rfl,
    fun y hy => by cases y <;> first | exact rfl | exact ⟨rfl, rfl⟩ | simp [hx] at hy⟩

theorem Kept.bridge (h : Kept σ r s) (hx : σ.part .bridge = true) {v} : Kept σ r { s with bridge := v } :=
  h.trans ⟨rfl, le_rfl, le_rfl, id, rfl, fun h => ⟨h, le_rfl⟩, fun _ _ => rfl,
    fun y hy => by cases y <;> first | exact rfl | exact ⟨rfl, rfl⟩ | simp [hx] at hy⟩

theorem Kept.dup (h : Kept σ r s) (hx : σ.part .dup = true) {v} : Kept σ r { s with dup := v } :=
  h.trans ⟨rfl, le_rfl, le_rfl, id, rfl, fun h => ⟨h, le_rfl⟩, fun _ _ => rfl,
    fun y hy => by cases y <;> first | exact rfl | exact ⟨rfl, rfl⟩ | simp [hx] at hy⟩

theorem Kept.gang (h : Kept σ r s) (hx : σ.part .gang = true) {v} : Kept σ r { s with gang := v } :=
  h.trans ⟨rfl, le_rfl, le_rfl, id, rfl, fun h => ⟨h, le_rfl⟩, fun _ _ => rfl,
    fun y hy => by cases y <;> first | exact rfl | exact ⟨rfl, rfl⟩ | simp [hx] at hy⟩

theorem Kept.cal (h : Kept σ r s) (hx : σ.part .cal = true) {v} : Kept σ r { s with cal := v } :=
  h.trans ⟨rfl, le_rfl, le_rfl, id, rfl, fun h => ⟨h, le_rfl⟩, fun _ _ => rfl,
    fun y hy => by cases y <;> first | exact rfl | exact ⟨rfl, rfl⟩ | simp [hx] at hy⟩

theorem Kept.cycle (h : Kept σ r s) (hx : σ.part .cycle = true) {v} : Kept σ r { s with cycle := v } :=
  h.trans ⟨rfl, le_rfl, le_rfl, id, rfl, fun h => ⟨h, le_rfl⟩, fun _ _ => rfl,
    fun y hy => by cases y <;> first | exact rfl | exact ⟨rfl, rfl⟩ | simp [hx] at hy⟩

theorem Kept.plat (h : Kept σ r s) (hx : σ.part .plat = true) {v} : Kept σ r { s with plat := v } :=
  h.trans ⟨rfl, le_rfl, le_rfl, id, rfl, fun h => ⟨h, le_rfl⟩, fun _ _ => rfl,
    fun y hy => by cases y <;> first | exact rfl | exact ⟨rfl, rfl⟩ | simp [hx] at hy⟩

theorem Kept.mscl (h : Kept σ r s) (hx : σ.part .mscl = true) {v} : Kept σ r { s with mscl := v } :=
  h.trans ⟨rfl, le_rfl, le_rfl, id, rfl, fun h => ⟨h, le_rfl⟩, fun _ _ => rfl,
    fun y hy => by cases y <;> first | exact rfl | exact ⟨rfl, rfl⟩ | simp [hx] at hy⟩

theorem Kept.pins (h : Kept σ r s) (hx : σ.part .pins = true) {v} : Kept σ r { s with pins := v } :=
  h.trans ⟨rfl, le_rfl, le_rfl, id, rfl, fun h => ⟨h, le_rfl⟩, fun _ _ => rfl,
    fun y hy => by cases y <;> first | exact rfl | exact ⟨rfl, rfl⟩ | simp [hx] at hy⟩

theorem Kept.engs (h : Kept σ r s) (hx : σ.part .engs = true) {v} : Kept σ r { s with engs := v } :=
  h.trans ⟨rfl, le_rfl, le_rfl, id, rfl, fun h => ⟨h, le_rfl⟩, fun _ _ => rfl,
    fun y hy => by cases y <;> first | exact rfl | exact ⟨rfl, rfl⟩ | simp [hx] at hy⟩

theorem Kept.crews (h : Kept σ r s) (hx : σ.part .crews = true) {v} : Kept σ r { s with crews := v } :=
  h.trans ⟨rfl, le_rfl, le_rfl, id, rfl, fun h => ⟨h, le_rfl⟩, fun _ _ => rfl,
    fun y hy => by cases y <;> first | exact rfl | exact ⟨rfl, rfl⟩ | simp [hx] at hy⟩

theorem Kept.edges (h : Kept σ r s) (hx : σ.part .edges = true) {v} : Kept σ r { s with edges := v } :=
  h.trans ⟨rfl, le_rfl, le_rfl, id, rfl, fun h => ⟨h, le_rfl⟩, fun _ _ => rfl,
    fun y hy => by cases y <;> first | exact rfl | exact ⟨rfl, rfl⟩ | simp [hx] at hy⟩

theorem Kept.cans (h : Kept σ r s) (hx : σ.part .cans = true) {v} : Kept σ r { s with cans := v } :=
  h.trans ⟨rfl, le_rfl, le_rfl, id, rfl, fun h => ⟨h, le_rfl⟩, fun _ _ => rfl,
    fun y hy => by cases y <;> first | exact rfl | exact ⟨rfl, rfl⟩ | simp [hx] at hy⟩

theorem Kept.stake (h : Kept σ r s) (hx : σ.part .stake = true) {v} : Kept σ r { s with stake := v } :=
  h.trans ⟨rfl, le_rfl, le_rfl, id, rfl, fun h => ⟨h, le_rfl⟩, fun _ _ => rfl,
    fun y hy => by cases y <;> first | exact rfl | exact ⟨rfl, rfl⟩ | simp [hx] at hy⟩

theorem Kept.supply (h : Kept σ r s) (hx : σ.part .supply = true) {v} : Kept σ r { s with supply := v } :=
  h.trans ⟨rfl, le_rfl, le_rfl, id, rfl, fun h => ⟨h, le_rfl⟩, fun _ _ => rfl,
    fun y hy => by cases y <;> first | exact rfl | exact ⟨rfl, rfl⟩ | simp [hx] at hy⟩

theorem Kept.slots (h : Kept σ r s) (hx : σ.part .slots = true) {v} : Kept σ r { s with slots := v } :=
  h.trans ⟨rfl, le_rfl, le_rfl, id, rfl, fun h => ⟨h, le_rfl⟩, fun _ _ => rfl,
    fun y hy => by cases y <;> first | exact rfl | exact ⟨rfl, rfl⟩ | simp [hx] at hy⟩

theorem Kept.tally (h : Kept σ r s) (hx : σ.part .tally = true) {v} : Kept σ r { s with tally := v } :=
  h.trans ⟨rfl, le_rfl, le_rfl, id, rfl, fun h => ⟨h, le_rfl⟩, fun _ _ => rfl,
    fun y hy => by cases y <;> first | exact rfl | exact ⟨rfl, rfl⟩ | simp [hx] at hy⟩

theorem Kept.boot (h : Kept σ r s) (hx : σ.part .boot = true) {v} : Kept σ r { s with boot := v } :=
  h.trans ⟨rfl, le_rfl, le_rfl, id, rfl, fun h => ⟨h, le_rfl⟩, fun _ _ => rfl,
    fun y hy => by cases y <;> first | exact rfl | exact ⟨rfl, rfl⟩ | simp [hx] at hy⟩

theorem Kept.rst (h : Kept σ r s) (hx : σ.part .rst = true) {v} : Kept σ r { s with rst := v } :=
  h.trans ⟨rfl, le_rfl, le_rfl, id, rfl, fun h => ⟨h, le_rfl⟩, fun _ _ => rfl,
    fun y hy => by cases y <;> first | exact rfl | exact ⟨rfl, rfl⟩ | simp [hx] at hy⟩

theorem Kept.pwr (h : Kept σ r s) (hx : σ.part .pwr = true) {v} (hv : v.serial = s.pwr.serial) :
    Kept σ r { s with pwr := v } :=
  h.trans ⟨rfl, le_rfl, le_rfl, id, hv, fun h => ⟨h, le_rfl⟩, fun _ _ => rfl,
    fun y hy => by cases y <;> first | exact rfl | exact ⟨rfl, rfl⟩ | simp [hx] at hy⟩

theorem Kept.mon (h : Kept σ r s) (hx : σ.part .mon = true) {v} (hf : v.fuse = s.mon.fuse) (ho : v.op = s.mon.op) :
    Kept σ r { s with mon := v } :=
  h.trans ⟨rfl, le_rfl, le_rfl, id, rfl,
    fun h => ⟨by simpa [MonSt.LifeOk, hf, ho] using h, le_of_eq hf.symm⟩, fun _ _ => rfl,
    fun y hy => by cases y <;> first | exact rfl | exact ⟨rfl, rfl⟩ | exact ⟨hf, ho⟩ | simp [hx] at hy⟩

theorem Kept.life (h : Kept σ r s) (hx : σ.part .mon = true) (hl : σ.part .life = true) {v}
    (hv : s.mon.LifeOk → v.LifeOk ∧ s.mon.fuse ≤ v.fuse) : Kept σ r { s with mon := v } :=
  h.trans ⟨rfl, le_rfl, le_rfl, id, rfl, hv, fun _ _ => rfl,
    fun y hy => by cases y <;> first | exact rfl | exact ⟨rfl, rfl⟩ | simp [hx] at hy | simp [hl] at hy⟩

theorem Kept.mem (h : Kept σ r s) (hx : σ.part .mem = true) {v}
    (hv : tabWf memDefault s.mem = true → tabWf memDefault v = true) : Kept σ r { s with mem := v } :=
  h.trans ⟨rfl, le_rfl, le_rfl, fun h => ⟨h.1, hv h.2⟩, rfl, fun h => ⟨h, le_rfl⟩, fun _ _ => rfl,
    fun y hy => by cases y <;> first | exact rfl | exact ⟨rfl, rfl⟩ | simp [hx] at hy⟩

theorem Kept.regs (h : Kept σ r s) (hx : ∀ k, σ.reg k = true) {v}
    (hv : tabWf regDefault s.regs = true → tabWf regDefault v = true) : Kept σ r { s with regs := v } :=
  h.trans ⟨rfl, le_rfl, le_rfl, fun h => ⟨hv h.1, h.2⟩, rfl, fun h => ⟨h, le_rfl⟩, fun k hk => by simp [hx] at hk,
    fun y _ => by cases y <;> first | exact rfl | exact ⟨rfl, rfl⟩⟩

theorem Kept.regsOn (h : Kept σ r s) {v} (hx : ∀ k, σ.reg k = false → tabGet regDefault v k = tabGet regDefault s.regs k)
    (hv : tabWf regDefault s.regs = true → tabWf regDefault v = true) : Kept σ r { s with regs := v } :=
  h.trans ⟨rfl, le_rfl, le_rfl, fun h => ⟨hv h.1, h.2⟩, rfl, fun h => ⟨h, le_rfl⟩, hx,
    fun y _ => by cases y <;> first | exact rfl | exact ⟨rfl, rfl⟩⟩

theorem Kept.clk (h : Kept σ r s) {n : Nat} (hn : s.clock ≤ n) : Kept σ r { s with clock := n } :=
  h.trans ⟨rfl, hn, le_rfl, id, rfl, fun h => ⟨h, le_rfl⟩, fun _ _ => rfl,
    fun y _ => by cases y <;> first | exact rfl | exact ⟨rfl, rfl⟩⟩

theorem Kept.freeCtr (h : Kept σ r s) {n : Nat} (hn : s.freeCtr ≤ n) : Kept σ r { s with freeCtr := n } :=
  h.trans ⟨rfl, le_rfl, hn, id, rfl, fun h => ⟨h, le_rfl⟩, fun _ _ => rfl,
    fun y _ => by cases y <;> first | exact rfl | exact ⟨rfl, rfl⟩⟩

theorem Kept.sets (h : Kept σ r s) {v} : Kept σ r { s with sets := v } :=
  h.trans ⟨rfl, le_rfl, le_rfl, id, rfl, fun h => ⟨h, le_rfl⟩, fun _ _ => rfl,
    fun y _ => by cases y <;> first | exact rfl | exact ⟨rfl, rfl⟩⟩

theorem Kept.idle (h : Kept σ r s) (hx : σ.part .mon = true) (hl : σ.part .life = true) {v} (hf : v.fuse = s.mon.fuse)
    (ho : v.op = none) : Kept σ r { s with mon := v } :=
  h.life hx hl fun h => ⟨⟨hf ▸ h.1, hf ▸ h.2.1, by simp [ho]⟩, hf ▸ le_rfl⟩

theorem Kept.upd (h : Kept σ r s) (hp : t.pending = s.pending) (hc : t.clock = s.clock) (hfr : t.freeCtr = s.freeCtr)
    (hr : tabWf regDefault s.regs = true → tabWf regDefault t.regs = true)
    (hm : tabWf memDefault s.mem = true → tabWf memDefault t.mem = true) (hs : t.pwr.serial = s.pwr.serial)
    (hl : s.mon.LifeOk → t.mon.LifeOk ∧ s.mon.fuse ≤ t.mon.fuse)
    (hg : ∀ k, σ.reg k = false → tabGet regDefault t.regs k = tabGet regDefault s.regs k)
    (hx : ∀ x, σ.part x = false → x.same s t) : Kept σ r t :=
  h.trans ⟨hp, hc.ge, hfr.ge, fun h => ⟨hr h.1, hm h.2⟩, hs, hl, hg, hx⟩

theorem Kept.advance (h : Kept σ r s) (n : Nat) : Kept σ r (s.advance n) := h.clk (le_max_left _ _)

theorem Kept.nextFree (h : Kept σ r s) : Kept σ r s.nextFree := h.freeCtr (Nat.le_succ _)

theorem Kept.wr (h : Kept σ r s) (p off : Nat) (v : Word) (hk : σ.reg (regKey p off) = true) : Kept σ r (s.wr p off v) :=
  h.trans ⟨rfl, le_rfl, le_rfl, fun h => ⟨tabWf_tabPut _ _ _ _ h.1, h.2⟩, rfl, fun h => ⟨h, le_rfl⟩,
    fun k hk' => tabGet_tabPut_ne _ _ _ (by rintro rfl; simp [hk] at hk'),
    fun y _ => by cases y <;> first | exact rfl | exact ⟨rfl, rfl⟩⟩

theorem Kept.putWide (p : Nat) : ∀ (n off v : Nat) (s : State), Kept σ r s →
    (∀ i, i < n → σ.reg (regKey p (off + 4 * i)) = true) → Kept σ r (s.putWide p off n v)
  | 0, _, _, _, h, _ => h
  | n + 1, off, v, s, h, hk => by
    refine Kept.putWide p n (off + 4) (v / 2 ^ 32) _ (h.wr p off (w32 v) (hk 0 (by omega))) fun i hi => ?_
    have := hk (i + 1) (by omega)
    rwa [show off + 4 * (i + 1) = off + 4 + 4 * i by ring] at this

theorem Kept.set (h : Kept σ r s) (p : Nat) (f : Fld) (v : Nat) (hk : σ.fld p f) : Kept σ r (s.set p f v) :=
  Kept.putWide p f.words f.off _ s h hk

theorem Kept.stb (h : Kept σ r s) (a : Nat) (b : Byte) (hm : σ.part .mem = true) : Kept σ r (s.stb a b) :=
  h.mem hm (tabWf_tabPut _ _ _ _)

theorem Kept.stBytes (hm : σ.part .mem = true) : ∀ (l : List Byte) (a : Nat) (s : State), Kept σ r s →
    Kept σ r (s.stBytes a l)
  | [], _, _, h => h
  | b :: l, a, _, h => Kept.stBytes hm l (a + 1) _ (h.stb a b hm)

/-! Commands. -/

/-- A command answers a next state that comes from `s` by changes inside a scope. -/
def KeptNext (σ : Scope) (s : State) (o : Host.Outcome State Fault Refusal) : Prop := ∃ t, o = .next t ∧ Kept σ s t

theorem KeptNext.next (h : Kept σ s t) : KeptNext σ s (.next t) := ⟨t, rfl, h⟩

theorem KeptNext.ite {c : Prop} {dc : Decidable c} {a b : Host.Outcome State Fault Refusal} (ha : KeptNext σ s a)
    (hb : KeptNext σ s b) : KeptNext σ s (if c then a else b) := by split <;> assumption

end Sys2Proof.Laws
end

