-- ==== Sys2Proof/Laws/Buffer.lean ====
section
/-!
SUPPORT. The switch buffer as an addressed memory: storing a frame keeps its canonical form, and changes nothing but the cells and the
number of the next buffer.
-/

open Sys2Proof Sys2Proof.Machine Sys2Proof.Laws

namespace Sys2Proof.Machine
theorem tabWf_cellPuts (b : List Byte) : ∀ (l : List (Nat × Nat)) (d : List (Nat × List Byte)), tabWf cellDefault d = true →
    tabWf cellDefault (l.foldl (fun d c => cellPut d c.1 (slice b (256 * c.2) 256)) d) = true
  | [], _, h => h
  | _ :: l, _, h => tabWf_cellPuts b l _ (tabWf_tabPut _ _ _ _ h)

/-- Storing a frame keeps the canonical form of the buffer (R348). -/
theorem State.storeFrame_wf (s : State) (f : Frame) (h : tabWf cellDefault s.sw.data = true) :
    tabWf cellDefault (s.storeFrame f).1.sw.data = true := tabWf_cellPuts _ _ _ h

theorem State.storeFrame_eq (s : State) (f : Frame) :
    (s.storeFrame f).1 = { s with sw := { s.sw with
      nextBuf := s.sw.nextBuf + 1, data := (s.storeFrame f).1.sw.data } } := rfl

theorem reset_data_wf : tabWf cellDefault State.reset.sw.data = true := by decide
end Sys2Proof.Machine
end

