-- ==== Sys2Proof/Laws/KeptUpdates.lean ====
section
/-!
SUPPORT. What the primitive operations and the updates of several parts at once keep.
-/

namespace Sys2Proof.Laws

open Sys2Proof Sys2Proof.Machine

theorem advance_kept {σ : Scope} {r s : State} {t : Nat} (h : Kept σ r s) : Kept σ r (s.advance t) := h.advance t

theorem nextFree_kept {σ : Scope} {r s : State} (h : Kept σ r s) : Kept σ r s.nextFree := h.nextFree

theorem wr_kept {σ : Scope} {r s : State} {p off : Nat} {v : Word} (h : Kept σ r s) (hk : σ.reg (regKey p off) = true) : Kept σ r (s.wr p off v) := h.wr p off v hk

theorem set_kept {σ : Scope} {r s : State} {p : Nat} {f : Fld} {v : Nat} (h : Kept σ r s) (hk : σ.fld p f) : Kept σ r (s.set p f v) := h.set p f v hk

theorem stb_kept {σ : Scope} {r s : State} {a : Nat} {b : Byte} (h : Kept σ r s) (hm : σ.part .mem = true) : Kept σ r (s.stb a b) := h.stb a b hm

theorem Kept.u_cal_tally {σ : Scope} {r s : State} {v_cal} {v_tally} (h : Kept σ r s) (h_cal : σ.part .cal = true) (h_tally : σ.part .tally = true) :
    Kept σ r { s with cal := v_cal, tally := v_tally } :=
  h.upd rfl rfl rfl id id rfl (fun h => ⟨h, le_rfl⟩)
    (fun _ _ => rfl)
    (fun y hy => by cases y <;> first | exact rfl | exact ⟨rfl, rfl⟩ | simp [h_cal, h_tally] at hy)

theorem Kept.u_cycle_plat {σ : Scope} {r s : State} {v_cycle} {v_plat} (h : Kept σ r s) (h_cycle : σ.part .cycle = true) (h_plat : σ.part .plat = true) :
    Kept σ r { s with cycle := v_cycle, plat := v_plat } :=
  h.upd rfl rfl rfl id id rfl (fun h => ⟨h, le_rfl⟩)
    (fun _ _ => rfl)
    (fun y hy => by cases y <;> first | exact rfl | exact ⟨rfl, rfl⟩ | simp [h_cycle, h_plat] at hy)

theorem Kept.u_datum_mscl {σ : Scope} {r s : State} {v_datum} {v_mscl} (h : Kept σ r s) (h_datum : σ.part .datum = true) (h_mscl : σ.part .mscl = true) :
    Kept σ r { s with datum := v_datum, mscl := v_mscl } :=
  h.upd rfl rfl rfl id id rfl (fun h => ⟨h, le_rfl⟩)
    (fun _ _ => rfl)
    (fun y hy => by cases y <;> first | exact rfl | exact ⟨rfl, rfl⟩ | simp [h_datum, h_mscl] at hy)

theorem Kept.u_datum_ports {σ : Scope} {r s : State} {v_datum} {v_ports} (h : Kept σ r s) (h_datum : σ.part .datum = true) (h_ports : σ.part .ports = true) :
    Kept σ r { s with datum := v_datum, ports := v_ports } :=
  h.upd rfl rfl rfl id id rfl (fun h => ⟨h, le_rfl⟩)
    (fun _ _ => rfl)
    (fun y hy => by cases y <;> first | exact rfl | exact ⟨rfl, rfl⟩ | simp [h_datum, h_ports] at hy)

theorem Kept.u_dup_stake {σ : Scope} {r s : State} {v_dup} {v_stake} (h : Kept σ r s) (h_dup : σ.part .dup = true) (h_stake : σ.part .stake = true) :
    Kept σ r { s with dup := v_dup, stake := v_stake } :=
  h.upd rfl rfl rfl id id rfl (fun h => ⟨h, le_rfl⟩)
    (fun _ _ => rfl)
    (fun y hy => by cases y <;> first | exact rfl | exact ⟨rfl, rfl⟩ | simp [h_dup, h_stake] at hy)

theorem Kept.u_mem_plat {σ : Scope} {r s : State} {v_mem} {v_plat} (h : Kept σ r s) (h_mem : σ.part .mem = true) (h_plat : σ.part .plat = true) (e_mem : tabWf memDefault s.mem = true → tabWf memDefault v_mem = true) :
    Kept σ r { s with mem := v_mem, plat := v_plat } :=
  h.upd rfl rfl rfl id e_mem rfl (fun h => ⟨h, le_rfl⟩)
    (fun _ _ => rfl)
    (fun y hy => by cases y <;> first | exact rfl | exact ⟨rfl, rfl⟩ | simp [h_mem, h_plat] at hy)

theorem Kept.u_pwr_datum {σ : Scope} {r s : State} {v_pwr} {v_datum} (h : Kept σ r s) (h_pwr : σ.part .pwr = true) (h_datum : σ.part .datum = true) (e_pwr : v_pwr.serial = s.pwr.serial) :
    Kept σ r { s with pwr := v_pwr, datum := v_datum } :=
  h.upd rfl rfl rfl id id e_pwr (fun h => ⟨h, le_rfl⟩)
    (fun _ _ => rfl)
    (fun y hy => by cases y <;> first | exact rfl | exact ⟨rfl, rfl⟩ | simp [h_pwr, h_datum] at hy)

theorem Kept.u_pwr_mon {σ : Scope} {r s : State} {v_pwr} {v_mon} (h : Kept σ r s) (h_pwr : σ.part .pwr = true) (h_mon : σ.part .mon = true) (e_pwr : v_pwr.serial = s.pwr.serial) (e_f : v_mon.fuse = s.mon.fuse) (e_o : v_mon.op = s.mon.op) :
    Kept σ r { s with pwr := v_pwr, mon := v_mon } :=
  h.upd rfl rfl rfl id id e_pwr (fun h => ⟨by simpa [MonSt.LifeOk, e_f, e_o] using h, le_of_eq e_f.symm⟩)
    (fun _ _ => rfl)
    (fun y hy => by cases y <;> first | exact rfl | exact ⟨rfl, rfl⟩ | exact ⟨e_f, e_o⟩ | simp [h_pwr, h_mon] at hy)

theorem Kept.u_pwr_page_supply {σ : Scope} {r s : State} {v_pwr} {v_page} {v_supply} (h : Kept σ r s) (h_pwr : σ.part .pwr = true) (h_page : σ.part .page = true) (h_supply : σ.part .supply = true) (e_pwr : v_pwr.serial = s.pwr.serial) :
    Kept σ r { s with pwr := v_pwr, page := v_page, supply := v_supply } :=
  h.upd rfl rfl rfl id id e_pwr (fun h => ⟨h, le_rfl⟩)
    (fun _ _ => rfl)
    (fun y hy => by cases y <;> first | exact rfl | exact ⟨rfl, rfl⟩ | simp [h_pwr, h_page, h_supply] at hy)

theorem Kept.u_pwr_supply {σ : Scope} {r s : State} {v_pwr} {v_supply} (h : Kept σ r s) (h_pwr : σ.part .pwr = true) (h_supply : σ.part .supply = true) (e_pwr : v_pwr.serial = s.pwr.serial) :
    Kept σ r { s with pwr := v_pwr, supply := v_supply } :=
  h.upd rfl rfl rfl id id e_pwr (fun h => ⟨h, le_rfl⟩)
    (fun _ _ => rfl)
    (fun y hy => by cases y <;> first | exact rfl | exact ⟨rfl, rfl⟩ | simp [h_pwr, h_supply] at hy)

theorem Kept.u_regs_latch {σ : Scope} {r s : State} {v_regs} {v_latch} (h : Kept σ r s) (h_regs : ∀ k, σ.reg k = true) (h_latch : σ.part .latch = true) (e_regs : tabWf regDefault s.regs = true → tabWf regDefault v_regs = true) :
    Kept σ r { s with regs := v_regs, latch := v_latch } :=
  h.upd rfl rfl rfl e_regs id rfl (fun h => ⟨h, le_rfl⟩)
    (fun k hk => by simp [h_regs] at hk)
    (fun y hy => by cases y <;> first | exact rfl | exact ⟨rfl, rfl⟩ | simp [h_latch] at hy)

theorem Kept.u_regs_latch_shadow_mem_page_datum_stamps_ports_sw_book_bridge_dup_gang_cal_cycle_plat_mscl_pins_engs_crews_edges_cans_stake_tally_boot_rst {σ : Scope} {r s : State} {v_regs} {v_latch} {v_shadow} {v_mem} {v_page} {v_datum} {v_stamps} {v_ports} {v_sw} {v_book} {v_bridge} {v_dup} {v_gang} {v_cal} {v_cycle} {v_plat} {v_mscl} {v_pins} {v_engs} {v_crews} {v_edges} {v_cans} {v_stake} {v_tally} {v_boot} {v_rst} (h : Kept σ r s) (h_regs : ∀ k, σ.reg k = true) (h_latch : σ.part .latch = true) (h_shadow : σ.part .shadow = true) (h_mem : σ.part .mem = true) (h_page : σ.part .page = true) (h_datum : σ.part .datum = true) (h_stamps : σ.part .stamps = true) (h_ports : σ.part .ports = true) (h_sw : σ.part .sw = true) (h_book : σ.part .book = true) (h_bridge : σ.part .bridge = true) (h_dup : σ.part .dup = true) (h_gang : σ.part .gang = true) (h_cal : σ.part .cal = true) (h_cycle : σ.part .cycle = true) (h_plat : σ.part .plat = true) (h_mscl : σ.part .mscl = true) (h_pins : σ.part .pins = true) (h_engs : σ.part .engs = true) (h_crews : σ.part .crews = true) (h_edges : σ.part .edges = true) (h_cans : σ.part .cans = true) (h_stake : σ.part .stake = true) (h_tally : σ.part .tally = true) (h_boot : σ.part .boot = true) (h_rst : σ.part .rst = true) (e_regs : tabWf regDefault s.regs = true → tabWf regDefault v_regs = true) (e_mem : tabWf memDefault s.mem = true → tabWf memDefault v_mem = true) :
    Kept σ r { s with regs := v_regs, latch := v_latch, shadow := v_shadow, mem := v_mem, page := v_page, datum := v_datum, stamps := v_stamps, ports := v_ports, sw := v_sw, book := v_book, bridge := v_bridge, dup := v_dup, gang := v_gang, cal := v_cal, cycle := v_cycle, plat := v_plat, mscl := v_mscl, pins := v_pins, engs := v_engs, crews := v_crews, edges := v_edges, cans := v_cans, stake := v_stake, tally := v_tally, boot := v_boot, rst := v_rst } :=
  h.upd rfl rfl rfl e_regs e_mem rfl (fun h => ⟨h, le_rfl⟩)
    (fun k hk => by simp [h_regs] at hk)
    (fun y hy => by cases y <;> first | exact rfl | exact ⟨rfl, rfl⟩ | simp [h_latch, h_shadow, h_mem, h_page, h_datum, h_stamps, h_ports, h_sw, h_book, h_bridge, h_dup, h_gang, h_cal, h_cycle, h_plat, h_mscl, h_pins, h_engs, h_crews, h_edges, h_cans, h_stake, h_tally, h_boot, h_rst] at hy)

theorem Kept.u_regs_pwr_supply_slots_tally {σ : Scope} {r s : State} {v_regs} {v_pwr} {v_supply} {v_slots} {v_tally} (h : Kept σ r s) (h_regs : ∀ k, σ.reg k = true) (h_pwr : σ.part .pwr = true) (h_supply : σ.part .supply = true) (h_slots : σ.part .slots = true) (h_tally : σ.part .tally = true) (e_regs : tabWf regDefault s.regs = true → tabWf regDefault v_regs = true) (e_pwr : v_pwr.serial = s.pwr.serial) :
    Kept σ r { s with regs := v_regs, pwr := v_pwr, supply := v_supply, slots := v_slots, tally := v_tally } :=
  h.upd rfl rfl rfl e_regs id e_pwr (fun h => ⟨h, le_rfl⟩)
    (fun k hk => by simp [h_regs] at hk)
    (fun y hy => by cases y <;> first | exact rfl | exact ⟨rfl, rfl⟩ | simp [h_pwr, h_supply, h_slots, h_tally] at hy)

theorem Kept.u_result_bridge {σ : Scope} {r s : State} {v_result} {v_bridge} (h : Kept σ r s) (h_result : σ.part .result = true) (h_bridge : σ.part .bridge = true) :
    Kept σ r { s with result := v_result, bridge := v_bridge } :=
  h.upd rfl rfl rfl id id rfl (fun h => ⟨h, le_rfl⟩)
    (fun _ _ => rfl)
    (fun y hy => by cases y <;> first | exact rfl | exact ⟨rfl, rfl⟩ | simp [h_result, h_bridge] at hy)

theorem Kept.u_result_stake {σ : Scope} {r s : State} {v_result} {v_stake} (h : Kept σ r s) (h_result : σ.part .result = true) (h_stake : σ.part .stake = true) :
    Kept σ r { s with result := v_result, stake := v_stake } :=
  h.upd rfl rfl rfl id id rfl (fun h => ⟨h, le_rfl⟩)
    (fun _ _ => rfl)
    (fun y hy => by cases y <;> first | exact rfl | exact ⟨rfl, rfl⟩ | simp [h_result, h_stake] at hy)

theorem Kept.u_result_stamps {σ : Scope} {r s : State} {v_result} {v_stamps} (h : Kept σ r s) (h_result : σ.part .result = true) (h_stamps : σ.part .stamps = true) :
    Kept σ r { s with result := v_result, stamps := v_stamps } :=
  h.upd rfl rfl rfl id id rfl (fun h => ⟨h, le_rfl⟩)
    (fun _ _ => rfl)
    (fun y hy => by cases y <;> first | exact rfl | exact ⟨rfl, rfl⟩ | simp [h_result, h_stamps] at hy)

theorem Kept.u_sets_stamps {σ : Scope} {r s : State} {v_sets} {v_stamps} (h : Kept σ r s) (h_stamps : σ.part .stamps = true) :
    Kept σ r { s with sets := v_sets, stamps := v_stamps } :=
  h.upd rfl rfl rfl id id rfl (fun h => ⟨h, le_rfl⟩)
    (fun _ _ => rfl)
    (fun y hy => by cases y <;> first | exact rfl | exact ⟨rfl, rfl⟩ | simp [h_stamps] at hy)

theorem Kept.u_supply_tally {σ : Scope} {r s : State} {v_supply} {v_tally} (h : Kept σ r s) (h_supply : σ.part .supply = true) (h_tally : σ.part .tally = true) :
    Kept σ r { s with supply := v_supply, tally := v_tally } :=
  h.upd rfl rfl rfl id id rfl (fun h => ⟨h, le_rfl⟩)
    (fun _ _ => rfl)
    (fun y hy => by cases y <;> first | exact rfl | exact ⟨rfl, rfl⟩ | simp [h_supply, h_tally] at hy)

theorem Kept.u_sw_mon {σ : Scope} {r s : State} {v_sw} {v_mon} (h : Kept σ r s) (h_sw : σ.part .sw = true) (h_mon : σ.part .mon = true) (e_f : v_mon.fuse = s.mon.fuse) (e_o : v_mon.op = s.mon.op) :
    Kept σ r { s with sw := v_sw, mon := v_mon } :=
  h.upd rfl rfl rfl id id rfl (fun h => ⟨by simpa [MonSt.LifeOk, e_f, e_o] using h, le_of_eq e_f.symm⟩)
    (fun _ _ => rfl)
    (fun y hy => by cases y <;> first | exact rfl | exact ⟨rfl, rfl⟩ | exact ⟨e_f, e_o⟩ | simp [h_sw, h_mon] at hy)

theorem Kept.u_sw_plat {σ : Scope} {r s : State} {v_sw} {v_plat} (h : Kept σ r s) (h_sw : σ.part .sw = true) (h_plat : σ.part .plat = true) :
    Kept σ r { s with sw := v_sw, plat := v_plat } :=
  h.upd rfl rfl rfl id id rfl (fun h => ⟨h, le_rfl⟩)
    (fun _ _ => rfl)
    (fun y hy => by cases y <;> first | exact rfl | exact ⟨rfl, rfl⟩ | simp [h_sw, h_plat] at hy)

end Sys2Proof.Laws
end

