-- ==== Sys2Proof/Laws/Kept01.lean ====
section
/-!
SUPPORT. What the operations and commands of these files keep: Machine/Ops, Machine/Pins, Machine/Cal, Machine/Records, Machine/Die, Machine/Slot.
-/

namespace Sys2Proof.Laws

open Sys2Proof Sys2Proof.Machine

theorem markSet_kept {σ : Scope} {ρ : State} {s : State} {p : ℕ} {off : ℕ} {m : Word} (hk0 : Kept σ ρ s) :
    Kept σ ρ (State.markSet s p off m) := by
  unfold State.markSet
  exact Kept.ite (Kept.sets (hk0)) (Kept.sets (hk0))

theorem setW1c_kept {σ : Scope} {ρ : State} {s : State} {p : ℕ} {f : Fld} (hk0 : Kept σ ρ s) (h101 : σ.fld p f) :
    Kept σ ρ (State.setW1c s p f) := by
  unfold State.setW1c
  exact set_kept (markSet_kept (hk0)) h101

theorem event_kept {σ : Scope} {ρ : State} {s : State} {p : ℕ} {b : ℕ} (hk0 : Kept σ ρ s) (h101 : σ.fld p (Fld.mk 12 b 1)) :
    Kept σ ρ (State.event s p b) := by
  unfold State.event
  exact setW1c_kept (hk0) h101

theorem bumpSat_kept {σ : Scope} {ρ : State} {s : State} {p : ℕ} {f : Fld} {k : ℕ} (hk0 : Kept σ ρ s) (h101 : σ.fld p f) :
    Kept σ ρ (State.bumpSat s p f k) := by
  unfold State.bumpSat
  exact set_kept (hk0) h101

theorem bumpBy_kept {σ : Scope} {ρ : State} {s : State} {p : ℕ} {f : Fld} {k : ℕ} (hk0 : Kept σ ρ s) (h101 : σ.fld p f) :
    Kept σ ρ (State.bumpBy s p f k) := by
  unfold State.bumpBy
  exact set_kept (hk0) h101

theorem bump_kept {σ : Scope} {ρ : State} {s : State} {p : ℕ} {f : Fld} (hk0 : Kept σ ρ s) (h101 : σ.fld p f) :
    Kept σ ρ (State.bump s p f) := by
  unfold State.bump
  exact bumpBy_kept (hk0) h101

theorem setB_kept {σ : Scope} {ρ : State} {s : State} {p : ℕ} {f : Fld} {b : Bool} (hk0 : Kept σ ρ s) (h101 : σ.fld p f) :
    Kept σ ρ (State.setB s p f b) := by
  unfold State.setB
  exact set_kept (hk0) h101

theorem advanceT_kept {σ : Scope} {ρ : State} {s : State} {t : ℕ} (hk0 : Kept σ ρ s) :
    Kept σ ρ (State.advanceT s t) := by
  unfold State.advanceT
  exact advance_kept (hk0)

theorem stBytes_kept {σ : Scope} {ρ s : State} {a : Nat} {l : List Byte} (h : Kept σ ρ s) (hm : σ.part .mem = true) :
    Kept σ ρ (s.stBytes a l) := by
  exact Kept.stBytes hm l a s h

theorem watchWake_kept {σ : Scope} {ρ : State} {s : State} (hk0 : Kept σ ρ s) (h101 : σ.part .pwr = true) (h102 : σ.fld pSYS F.SYS.PSTATE.BUSY) :
    Kept σ ρ (State.watchWake s) := by
  unfold State.watchWake
  exact Kept.ite (Kept.pwr (set_kept (hk0) h102) h101 rfl) (hk0)

theorem aerrCapture_kept {σ : Scope} {ρ : State} {s : State} {addr : ℕ} {code : ℕ} (hk0 : Kept σ ρ s) (h101 : σ.fld pSYS F.SYS.AERR_LO.ADDR_LO) (h102 : σ.fld pSYS F.SYS.AERR_HI.ADDR_HI) (h103 : σ.fld pSYS F.SYS.AERR_HI.SOURCE) (h104 : σ.fld pSYS F.SYS.AERR_HI.VALID) :
    Kept σ ρ (State.aerrCapture s addr code) := by
  unfold State.aerrCapture
  exact setW1c_kept (set_kept (set_kept (set_kept (hk0) h101) h102) h103) h104

theorem addressError_kept {σ : Scope} {ρ : State} {s : State} {addr : ℕ} {src : Source} (hk0 : Kept σ ρ s) (h101 : σ.fld pSYS (Fld.mk 12 8 1)) (h102 : σ.fld pSYS F.SYS.AERR_LO.ADDR_LO) (h103 : σ.fld pSYS F.SYS.AERR_HI.ADDR_HI) (h104 : σ.fld pSYS F.SYS.AERR_HI.SOURCE) (h105 : σ.fld pSYS F.SYS.AERR_HI.VALID) :
    Kept σ ρ (State.addressError s addr src) := by
  unfold State.addressError
  exact Kept.cut (fun k1 => Kept.ite (Kept.sets (k1)) (aerrCapture_kept (k1) h102 h103 h104 h105)) (event_kept (hk0) h101)

theorem foldMark_kept {σ : Scope} {ρ : State} {s : State} {raw : ℕ} (hk0 : Kept σ ρ s) (h101 : σ.fld pDATUM F.DATUM.FOLDOVR.COUNT) (h102 : σ.fld pDATUM (Fld.mk 12 14 1)) :
    Kept σ ρ (State.foldMark s raw) := by
  unfold State.foldMark
  exact (by split; exacts [Kept.ite (event_kept (bumpSat_kept (hk0) h101) h102) (hk0), hk0])

theorem blockFault_kept {σ : Scope} {ρ : State} {s : State} {p : ℕ} (hk0 : Kept σ ρ s) (h101 : σ.fld p F.HDR.PSTS.FAULT) (h102 : σ.fld p (Fld.mk 12 1 1)) :
    Kept σ ρ (State.blockFault s p) := by
  unfold State.blockFault
  exact Kept.ite (hk0) (event_kept (set_kept (hk0) h101) h102)

theorem refuse_kept {σ : Scope} {ρ : State} {s : State} {p : ℕ} {code : ℕ} {index : ℕ} (hk0 : Kept σ ρ s) (h101 : σ.fld p F.HDR.PSTS.CODE) (h102 : σ.fld p F.HDR.PSTS.INDEX) (h103 : σ.fld p F.HDR.PSTS.REFUSED) (h104 : σ.fld p (Fld.mk 12 0 1)) :
    Kept σ ρ (State.refuse s p code index) := by
  unfold State.refuse
  exact event_kept (set_kept (set_kept (set_kept (hk0) h101) h102) h103) h104

theorem regWrite_kept {σ : Scope} {ρ : State} {s : State} {p : ℕ} {off : ℕ} {mask : ℕ} {data : ℕ} {src : Source} {eff : State → State} (hk0 : Kept σ ρ s) (f0 : ∀ t, Kept σ ρ t → Kept σ ρ (eff t)) (h101 : σ.part .page = true) (h102 : σ.fld pSYS (Fld.mk 12 11 1)) (h103 : σ.fld p F.HDR.PSTS.CODE) (h104 : σ.fld p F.HDR.PSTS.INDEX) (h105 : σ.fld p F.HDR.PSTS.REFUSED) (h106 : σ.fld p (Fld.mk 12 0 1)) :
    Kept σ ρ (State.regWrite s p off mask data src eff) := by
  unfold State.regWrite
  exact Kept.ite (hk0) (Kept.ite (event_kept (hk0) h102) (Kept.ite (hk0) (Kept.ite (Kept.page (hk0) h101) (Kept.ite (refuse_kept (hk0) h103 h104 h105 h106) (f0 _ (hk0))))))

theorem stopRun_kept {σ : Scope} {ρ : State} {s : State} {p : ℕ} (hk0 : Kept σ ρ s) (h101 : σ.fld p F.HDR.PSTS.RUN) (h102 : σ.fld p F.HDR.PSTS.HELD) :
    Kept σ ρ (State.stopRun s p) := by
  unfold State.stopRun
  exact set_kept (set_kept (hk0) h101) h102

theorem aerrClear_kept {σ : Scope} {ρ : State} {s : State} (hk0 : Kept σ ρ s) (h101 : σ.fld pSYS F.SYS.AERR_LO.ADDR_LO) (h102 : σ.fld pSYS F.SYS.AERR_HI.ADDR_HI) (h103 : σ.fld pSYS F.SYS.AERR_HI.SOURCE) (h104 : σ.fld pSYS F.SYS.AERR_HI.VALID) :
    Kept σ ρ (State.aerrClear s) := by
  unfold State.aerrClear
  exact (by split; exacts [Kept.ite (aerrCapture_kept (hk0) h101 h102 h103 h104) (hk0), hk0])

theorem pstateReject_kept {σ : Scope} {ρ : State} {s : State} {cause : ℕ} {blocker : ℕ} (hk0 : Kept σ ρ s) (h101 : σ.fld pSYS F.SYS.PSTATE.REJ) (h102 : σ.fld pSYS F.SYS.PSTATE.CAUSE) (h103 : σ.fld pSYS F.SYS.PSTATE.BLOCKER) :
    Kept σ ρ (State.pstateReject s cause blocker) := by
  unfold State.pstateReject
  exact set_kept (set_kept (setW1c_kept (hk0) h101) h102) h103

theorem bitWrite_kept {σ : Scope} {ρ : State} {s : State} {p : ℕ} {f : Fld} {eff : State → State} (hk0 : Kept σ ρ s) (f0 : ∀ t, Kept σ ρ t → Kept σ ρ (eff t)) (h101 : σ.part .page = true) (h102 : σ.fld pSYS (Fld.mk 12 11 1)) (h103 : σ.fld p F.HDR.PSTS.CODE) (h104 : σ.fld p F.HDR.PSTS.INDEX) (h105 : σ.fld p F.HDR.PSTS.REFUSED) (h106 : σ.fld p (Fld.mk 12 0 1)) :
    Kept σ ρ (State.bitWrite s p f eff) := by
  unfold State.bitWrite
  exact regWrite_kept (hk0) (fun x0 k1 => f0 _ (k1)) h101 h102 h103 h104 h105 h106

theorem fldWrite_kept {σ : Scope} {ρ : State} {s : State} {p : ℕ} {f : Fld} {v : ℕ} {eff : State → State} (hk0 : Kept σ ρ s) (f0 : ∀ t, Kept σ ρ t → Kept σ ρ (eff t)) (h101 : σ.part .page = true) (h102 : σ.fld pSYS (Fld.mk 12 11 1)) (h103 : σ.fld p F.HDR.PSTS.CODE) (h104 : σ.fld p F.HDR.PSTS.INDEX) (h105 : σ.fld p F.HDR.PSTS.REFUSED) (h106 : σ.fld p (Fld.mk 12 0 1)) :
    Kept σ ρ (State.fldWrite s p f v eff) := by
  unfold State.fldWrite
  exact regWrite_kept (hk0) (fun x0 k1 => f0 _ (k1)) h101 h102 h103 h104 h105 h106

theorem whenOn_kept {σ : Scope} {ρ : State} {s : State} {f : State → State} (hk0 : Kept σ ρ s) (f0 : ∀ t, Kept σ ρ t → Kept σ ρ (f t)) :
    Kept σ ρ (State.whenOn s f) := by
  unfold State.whenOn
  exact Kept.ite (f0 _ (hk0)) (hk0)

theorem setEng_kept {σ : Scope} {ρ : State} {s : State} {e : ℕ} {v : EngSt} (hk0 : Kept σ ρ s) (h101 : σ.part .engs = true) :
    Kept σ ρ (State.setEng s e v) := by
  unfold State.setEng
  exact Kept.engs (hk0) h101

theorem setCrew_kept {σ : Scope} {ρ : State} {s : State} {c : ℕ} {v : CrewSt} (hk0 : Kept σ ρ s) (h101 : σ.part .crews = true) :
    Kept σ ρ (State.setCrew s c v) := by
  unfold State.setCrew
  exact Kept.crews (hk0) h101

theorem setPin_kept {σ : Scope} {ρ : State} {s : State} {p : ℕ} {v : PinSt} (hk0 : Kept σ ρ s) (h101 : σ.part .pins = true) :
    Kept σ ρ (State.setPin s p v) := by
  unfold State.setPin
  exact Kept.pins (hk0) h101

theorem detect_kept {σ : Scope} {ρ : State} {s : State} {p : ℕ} {r : ℕ} {x : PinEv} (hk0 : Kept σ ρ s) (h101 : σ.part .pins = true) :
    Kept σ ρ (State.detect s p r x) := by
  unfold State.detect
  exact setPin_kept (hk0) h101

theorem setCan_kept {σ : Scope} {ρ : State} {s : State} {n : ℕ} {v : CanSt} (hk0 : Kept σ ρ s) (h101 : σ.part .cans = true) :
    Kept σ ρ (State.setCan s n v) := by
  unfold State.setCan
  exact Kept.cans (hk0) h101

theorem latchPin_kept {σ : Scope} {ρ : State} {s : State} {p : ℕ} {lvl : Bool} {oe : Bool} {t : ℕ} (hk0 : Kept σ ρ s) (h101 : σ.part .pins = true) :
    Kept σ ρ (State.latchPin s p lvl oe t) := by
  unfold State.latchPin
  exact setPin_kept (hk0) h101

theorem calNext_kept {σ : Scope} {ρ : State} {s : State} (hk0 : Kept σ ρ s) (h101 : σ.fld pCAL F.CAL.ADDR.WORD) :
    Kept σ ρ (State.calNext s) := by
  unfold State.calNext
  exact bump_kept (hk0) h101

theorem calProg_kept {σ : Scope} {ρ : State} {s : State} (hk0 : Kept σ ρ s) (h101 : σ.part .cal = true) (h102 : σ.fld pCAL F.HDR.PSTS.CODE) (h103 : σ.fld pCAL F.HDR.PSTS.INDEX) (h104 : σ.fld pCAL F.HDR.PSTS.REFUSED) (h105 : σ.fld pCAL (Fld.mk 12 0 1)) (h106 : σ.fld pCAL F.CAL.CTL.PROG) :
    Kept σ ρ (State.calProg s) := by
  unfold State.calProg
  exact Kept.ite (hk0) ((by (try dsimp only); split; exacts [refuse_kept (hk0) h102 h103 h104 h105, set_kept (Kept.cal (hk0) h101) h106]))

theorem calUnlock_kept {σ : Scope} {ρ : State} {s : State} {w : Word} (hk0 : Kept σ ρ s) (h101 : σ.part .cal = true) :
    Kept σ ρ (State.calUnlock s w) := by
  unfold State.calUnlock
  exact Kept.ite (Kept.cal (hk0) h101) (hk0)

theorem calDataWrite_kept {σ : Scope} {ρ : State} {s : State} {d : Word} (hk0 : Kept σ ρ s) (h101 : σ.part .cal = true) (h102 : σ.fld pCAL F.CAL.ADDR.WORD) :
    Kept σ ρ (State.calDataWrite s d) := by
  unfold State.calDataWrite
  exact calNext_kept (Kept.cal (hk0) h101) h102

theorem calReload_kept {σ : Scope} {ρ : State} {s : State} (hk0 : Kept σ ρ s) (h101 : σ.part .cal = true) (h102 : σ.fld pCAL F.CAL.STS.VALID) (h103 : σ.fld pCAL F.CAL.STS.WRITES) (h104 : σ.fld pCAL F.CAL.ORIGIN.ORIGIN) :
    Kept σ ρ (State.calReload s) := by
  unfold State.calReload
  exact set_kept (set_kept (set_kept (Kept.cal (hk0) h101) h102) h103) h104

theorem calProgDone_kept {σ : Scope} {ρ : State} {s : State} (hk0 : Kept σ ρ s) (h101 : σ.part .cal = true) (h102 : σ.fld pCAL F.CAL.STS.VALID) (h103 : σ.fld pCAL F.CAL.STS.WRITES) (h104 : σ.fld pCAL F.CAL.ORIGIN.ORIGIN) (h105 : σ.fld pCAL F.CAL.CTL.PROG) (h106 : σ.fld pCAL (Fld.mk 12 8 1)) :
    Kept σ ρ (State.calProgDone s) := by
  unfold State.calProgDone
  exact (by (try dsimp only); split; exacts [hk0, event_kept (set_kept (calReload_kept (Kept.cal (hk0) h101) h101 h102 h103 h104) h105) h106])

theorem execCalDataRead_kept {σ : Scope} {clk : ℕ} {s : State} (h101 : σ.part .result = true) (h102 : σ.fld pCAL F.CAL.ADDR.WORD) :
    KeptNext σ s (execCalDataRead clk s) := by
  unfold execCalDataRead
  exact KeptNext.next (calNext_kept (Kept.result (advance_kept (Kept.refl σ s)) h101) h102)

theorem execCalDataWrite_kept {σ : Scope} {clk : ℕ} {data : Word} {s : State} (h101 : σ.part .cal = true) (h102 : σ.part .page = true) (h103 : σ.fld pCAL F.CAL.ADDR.WORD) (h104 : σ.fld pSYS (Fld.mk 12 11 1)) (h105 : σ.fld pCAL F.HDR.PSTS.CODE) (h106 : σ.fld pCAL F.HDR.PSTS.INDEX) (h107 : σ.fld pCAL F.HDR.PSTS.REFUSED) (h108 : σ.fld pCAL (Fld.mk 12 0 1)) :
    KeptNext σ s (execCalDataWrite clk data s) := by
  unfold execCalDataWrite
  exact KeptNext.next (regWrite_kept (advance_kept (Kept.refl σ s)) (fun x0 k1 => calDataWrite_kept (k1) h101 h103) h102 h104 h105 h106 h107 h108)

theorem execCalProg_kept {σ : Scope} {clk : ℕ} {s : State} (h101 : σ.part .cal = true) (h102 : σ.part .page = true) (h103 : σ.fld pCAL F.HDR.PSTS.CODE) (h104 : σ.fld pCAL F.HDR.PSTS.INDEX) (h105 : σ.fld pCAL F.HDR.PSTS.REFUSED) (h106 : σ.fld pCAL (Fld.mk 12 0 1)) (h107 : σ.fld pCAL F.CAL.CTL.PROG) (h108 : σ.fld pSYS (Fld.mk 12 11 1)) :
    KeptNext σ s (execCalProg clk s) := by
  unfold execCalProg
  exact KeptNext.next (bitWrite_kept (advance_kept (Kept.refl σ s)) (fun x0 k1 => calProg_kept (k1) h101 h103 h104 h105 h106 h107) h102 h108 h103 h104 h105 h106)

theorem execCalProgDone_kept {σ : Scope} {clk : ℕ} {s : State} (h101 : σ.part .cal = true) (h102 : σ.fld pCAL F.CAL.STS.VALID) (h103 : σ.fld pCAL F.CAL.STS.WRITES) (h104 : σ.fld pCAL F.CAL.ORIGIN.ORIGIN) (h105 : σ.fld pCAL F.CAL.CTL.PROG) (h106 : σ.fld pCAL (Fld.mk 12 8 1)) :
    KeptNext σ s (execCalProgDone clk s) := by
  unfold execCalProgDone
  exact KeptNext.next (calProgDone_kept (advance_kept (Kept.refl σ s)) h101 h102 h103 h104 h105 h106)

theorem execCalUnlock_kept {σ : Scope} {clk : ℕ} {word : Word} {s : State} (h101 : σ.part .cal = true) (h102 : σ.part .page = true) (h103 : σ.fld pSYS (Fld.mk 12 11 1)) (h104 : σ.fld pCAL F.HDR.PSTS.CODE) (h105 : σ.fld pCAL F.HDR.PSTS.INDEX) (h106 : σ.fld pCAL F.HDR.PSTS.REFUSED) (h107 : σ.fld pCAL (Fld.mk 12 0 1)) :
    KeptNext σ s (execCalUnlock clk word s) := by
  unfold execCalUnlock
  exact KeptNext.next (regWrite_kept (advance_kept (Kept.refl σ s)) (fun x0 k1 => calUnlock_kept (k1) h101) h102 h103 h104 h105 h106 h107)

theorem shadowAdd_kept {σ : Scope} {ρ : State} {s : State} {r : Rec} (hk0 : Kept σ ρ s) (h101 : σ.part .book = true) (h102 : σ.fld pBOOK F.BOOK.SHADOW.DROP) (h103 : σ.fld pBOOK (Fld.mk 12 12 1)) :
    Kept σ ρ (State.shadowAdd s r) := by
  unfold State.shadowAdd
  exact Kept.ite (Kept.book (hk0) h101) (event_kept (bumpSat_kept (Kept.book (hk0) h101) h102) h103)

theorem episodeAdd_kept {σ : Scope} {ρ : State} {s : State} {r : Rec} (hk0 : Kept σ ρ s) (h101 : σ.part .book = true) (h102 : σ.fld pBOOK (Fld.mk 12 8 1)) :
    Kept σ ρ (State.episodeAdd s r) := by
  unfold State.episodeAdd
  exact Kept.cut (fun k1 => Kept.ite (event_kept (k1) h102) (k1)) (Kept.book (hk0) h101)

theorem countDiscard_kept {σ : Scope} {ρ : State} {s : State} {r : Rec} (hk0 : Kept σ ρ s) (h101 : σ.fld pBOOK F.BOOK.DISCARD.COUNT) (h102 : σ.fld (pEDGE (r.source / 64)) F.EDGE.DROPS.COUNT) (h103 : σ.fld (pEDGE (r.source / 64)) (Fld.mk 12 11 1)) (h104 : σ.fld pBOOK F.BOOK.DISCARD_SYS.COUNT) :
    Kept σ ρ (State.countDiscard s r) := by
  unfold State.countDiscard
  exact Kept.cut (fun k1 => Kept.ite (event_kept (bump_kept (k1) h102) h103) (bump_kept (k1) h104)) (bump_kept (hk0) h101)

theorem discardRec_kept {σ : Scope} {ρ : State} {s : State} {r : Rec} (hk0 : Kept σ ρ s) (h101 : σ.part .book = true) (h102 : σ.fld pBOOK F.BOOK.DISCARD.COUNT) (h103 : σ.fld (pEDGE (r.source / 64)) F.EDGE.DROPS.COUNT) (h104 : σ.fld (pEDGE (r.source / 64)) (Fld.mk 12 11 1)) (h105 : σ.fld pBOOK F.BOOK.DISCARD_SYS.COUNT) (h106 : σ.fld pBOOK (Fld.mk 12 8 1)) :
    Kept σ ρ (State.discardRec s r) := by
  unfold State.discardRec
  exact episodeAdd_kept (countDiscard_kept (hk0) h102 h103 h104 h105) h101 h106

theorem stage_kept {σ : Scope} {ρ : State} {s : State} {q : Stage} {r : Rec} (hk0 : Kept σ ρ s) (h101 : σ.part .book = true) (h102 : σ.fld pBOOK F.BOOK.DISCARD.COUNT) (h103 : σ.fld pBOOK F.BOOK.SHADOW.DROP) (h104 : σ.fld pBOOK (Fld.mk 12 12 1)) (h105 : σ.fld (pEDGE (r.source / 64)) F.EDGE.DROPS.COUNT) (h106 : σ.fld (pEDGE (r.source / 64)) (Fld.mk 12 11 1)) (h107 : σ.fld pBOOK F.BOOK.DISCARD_SYS.COUNT) (h108 : σ.fld pBOOK (Fld.mk 12 8 1)) :
    Kept σ ρ (State.stage s q r) := by
  unfold State.stage
  exact Kept.ite (Kept.ite (Kept.book (hk0) h101) (Kept.book (hk0) h101)) (Kept.ite (bump_kept (hk0) h102) (Kept.ite (shadowAdd_kept (hk0) h101 h103 h104) ((by (try dsimp only); split; exacts [Kept.ite (Kept.book (hk0) h101) (discardRec_kept (hk0) h101 h102 h105 h106 h107 h108), Kept.ite (Kept.book (hk0) h101) (discardRec_kept (hk0) h101 h102 h105 h106 h107 h108), Kept.ite (Kept.book (hk0) h101) (discardRec_kept (hk0) h101 h102 h105 h106 h107 h108)]))))

theorem setLine_kept {σ : Scope} {ρ : State} {s : State} {l : ℕ} {e : EvLine} (hk0 : Kept σ ρ s) (h101 : σ.part .pwr = true) :
    Kept σ ρ (State.setLine s l e) := by
  unfold State.setLine
  exact Kept.pwr (hk0) h101 rfl

theorem guardEvent_kept {σ : Scope} {ρ : State} {s : State} {l : ℕ} {r : Rec} (hk0 : Kept σ ρ s) (h101 : σ.part .pwr = true) :
    Kept σ ρ (State.guardEvent s l r) := by
  unfold State.guardEvent
  exact Kept.ite (hk0) (setLine_kept (hk0) h101)

theorem note_kept {σ : Scope} {ρ : State} {s : State} {kind : ℕ} {flags : ℕ} {source : ℕ} {data : List Byte} (hk0 : Kept σ ρ s) (h101 : σ.part .book = true) (h102 : σ.fld pBOOK F.BOOK.DISCARD.COUNT) (h103 : σ.fld pBOOK F.BOOK.SHADOW.DROP) (h104 : σ.fld pBOOK (Fld.mk 12 12 1)) (h105 : σ.fld (pEDGE ((Rec.mk s.now kind flags source data).source / 64)) F.EDGE.DROPS.COUNT) (h106 : σ.fld (pEDGE ((Rec.mk s.now kind flags source data).source / 64)) (Fld.mk 12 11 1)) (h107 : σ.fld pBOOK F.BOOK.DISCARD_SYS.COUNT) (h108 : σ.fld pBOOK (Fld.mk 12 8 1)) :
    Kept σ ρ (State.note s kind flags source data) := by
  unfold State.note
  exact stage_kept (hk0) h101 h102 h103 h104 h105 h106 h107 h108

theorem pfwFall_kept {σ : Scope} {ρ : State} {s : State} (hk0 : Kept σ ρ s) (h101 : σ.fld pSUPPLY F.SUPPLY.STS.PFW) (h102 : σ.fld pSUPPLY (Fld.mk 12 12 1)) :
    Kept σ ρ (State.pfwFall s) := by
  unfold State.pfwFall
  exact Kept.ite (hk0) (event_kept (set_kept (hk0) h101) h102)

theorem unlockGuard_kept {σ : Scope} {ρ : State} {s : State} (hk0 : Kept σ ρ s) (h101 : ∀ k, σ.reg k = true) :
    Kept σ ρ (State.unlockGuard s) := by
  unfold State.unlockGuard
  exact Kept.foldl (fun x0 a1 k2 => set_kept (k2) (fun _ _ => h101 _)) _ _ (hk0)

theorem wipeCore_kept {σ : Scope} {ρ : State} {s : State} (hk0 : Kept σ ρ s) (h101 : σ.Full) :
    Kept σ ρ (State.wipeCore s) := by
  unfold State.wipeCore
  exact Kept.u_regs_latch_shadow_mem_page_datum_stamps_ports_sw_book_bridge_dup_gang_cal_cycle_plat_mscl_pins_engs_crews_edges_cans_stake_tally_boot_rst (hk0) h101.2 (h101.1 _) (h101.1 _) (h101.1 _) (h101.1 _) (h101.1 _) (h101.1 _) (h101.1 _) (h101.1 _) (h101.1 _) (h101.1 _) (h101.1 _) (h101.1 _) (h101.1 _) (h101.1 _) (h101.1 _) (h101.1 _) (h101.1 _) (h101.1 _) (h101.1 _) (h101.1 _) (h101.1 _) (h101.1 _) (h101.1 _) (h101.1 _) (h101.1 _) (tabWf_filter _ _ _) (fun _ => rfl)

theorem monData_page {k : Nat} (h : monData k = true) : k / 4096 = pMONUMENT := by
  simp only [monData, Bool.and_eq_true] at h
  have h1 : 918528 ≤ k := of_decide_eq_true h.1
  have h2 : k < 919040 := of_decide_eq_true h.2
  simp only [pMONUMENT]
  omega

theorem dataGone {σ : Scope} (ha : σ.page pMONUMENT) (l : List (Nat × Word)) (k : Nat) (hk : σ.reg k = false) :
    tabGet regDefault (l.filter fun p => !monData p.1) k = tabGet regDefault l k := by
  refine tabGet_filter _ (fun j => !monData j) ?_ _
  by_contra hc
  rw [ha.ofKey (monData_page (by simpa using hc))] at hk
  cases hk

theorem opDrop_kept {σ : Scope} {ρ s : State} (h : Kept σ ρ s) (hm : σ.part .mon = true) (hl : σ.part .life = true)
    (ha : σ.page pMONUMENT) : Kept σ ρ s.opDrop := by
  have k1 : Kept σ ρ { s with mon := { s.mon with op := none } } := h.idle hm hl rfl rfl
  unfold State.opDrop
  exact Kept.regsOn (set_kept k1 ha.fld) (dataGone ha _) (tabWf_filter _ _ _)

theorem monCut_kept {σ : Scope} {ρ : State} {s : State} (hk0 : Kept σ ρ s) (h101 : σ.part .mon = true) (h102 : σ.part .life = true) (h103 : σ.page pMONUMENT) :
    Kept σ ρ (State.monCut s) := by
  unfold State.monCut
  exact Kept.cut (fun k1 => Kept.ite (k1) (opDrop_kept (k1) h101 h102 h103)) (Kept.mon (hk0) h101 rfl rfl)

theorem calCut_kept {σ : Scope} {ρ : State} {s : State} (hk0 : Kept σ ρ s) (h101 : σ.part .cal = true) :
    Kept σ ρ (State.calCut s) := by
  unfold State.calCut
  exact (by (try dsimp only); split; exacts [hk0, nextFree_kept (Kept.cal (hk0) h101)])

theorem coreHold_kept {σ : Scope} {ρ : State} {s : State} (hk0 : Kept σ ρ s) (h101 : σ.Full) :
    Kept σ ρ (State.coreHold s) := by
  unfold State.coreHold
  exact Kept.pwr (unlockGuard_kept (wipeCore_kept (monCut_kept (calCut_kept (hk0) (h101.1 _)) (h101.1 _) (h101.1 _) (fun _ => h101.2 _)) h101) h101.2) (h101.1 _) rfl

theorem powerDown_kept {σ : Scope} {ρ : State} {s : State} {copy : Bool} (hk0 : Kept σ ρ s) (h101 : σ.Full) :
    Kept σ ρ (State.powerDown s copy) := by
  unfold State.powerDown
  exact Kept.u_supply_tally (set_kept (set_kept (set_kept (pfwFall_kept (set_kept (set_kept (coreHold_kept (Kept.ite (Kept.pwr (hk0) (h101.1 _) rfl) (hk0)) h101) (fun _ _ => h101.2 _)) (fun _ _ => h101.2 _)) (fun _ _ => h101.2 _) (fun _ _ => h101.2 _)) (fun _ _ => h101.2 _)) (fun _ _ => h101.2 _)) (fun _ _ => h101.2 _)) (h101.1 _) (h101.1 _)

theorem cause_kept {σ : Scope} {ρ : State} {s : State} {b : ℕ} (hk0 : Kept σ ρ s) (h101 : σ.part .supply = true) :
    Kept σ ρ (State.cause s b) := by
  unfold State.cause
  exact Kept.supply (hk0) h101

theorem rawRestart_kept {σ : Scope} {ρ : State} {s : State} (hk0 : Kept σ ρ s) (h101 : σ.part .pwr = true) (h102 : σ.part .datum = true) :
    Kept σ ρ (State.rawRestart s) := by
  unfold State.rawRestart
  exact Kept.u_pwr_datum (hk0) h101 h102 rfl

theorem corePor_kept {σ : Scope} {ρ : State} {s : State} (hk0 : Kept σ ρ s) (h101 : σ.part .pwr = true) (h102 : σ.part .datum = true) (h103 : σ.part .supply = true) (h104 : σ.fld pSYS F.SYS.SERIAL.SN) (h105 : σ.fld pSYS F.SYS.STRAP.NID) (h106 : σ.fld pSYS F.SYS.STRAP.ROLE) (h107 : σ.fld pSYS F.SYS.STRAP.BOOT) (h108 : σ.fld pRESET F.RESET.CAUSE.all) (h109 : σ.fld pRESET F.RESET.CORE_RESETS.COUNT) (h110 : σ.fld pSYS F.HDR.PSTS.FAULT) (h111 : σ.fld pSYS (Fld.mk 12 1 1)) (h112 : σ.fld pSYS F.SYS.BOOTSTS.STAGE) (h113 : σ.fld pSYS F.SYS.BOOTSTS.ERR) (h114 : σ.fld pSYS (Fld.mk 12 10 1)) :
    Kept σ ρ (State.corePor s) := by
  unfold State.corePor
  exact Kept.ite (event_kept (blockFault_kept (set_kept (set_kept (Kept.ite (blockFault_kept (Kept.supply (bump_kept (set_kept (set_kept (set_kept (set_kept (set_kept (rawRestart_kept (hk0) h101 h102) h104) h105) h106) h107) h108) h109) h103) h110 h111) (Kept.supply (bump_kept (set_kept (set_kept (set_kept (set_kept (set_kept (rawRestart_kept (hk0) h101 h102) h104) h105) h106) h107) h108) h109) h103)) h112) h113) h110 h111) h114) (Kept.ite (blockFault_kept (Kept.supply (bump_kept (set_kept (set_kept (set_kept (set_kept (set_kept (rawRestart_kept (hk0) h101 h102) h104) h105) h106) h107) h108) h109) h103) h110 h111) (Kept.supply (bump_kept (set_kept (set_kept (set_kept (set_kept (set_kept (rawRestart_kept (hk0) h101 h102) h104) h105) h106) h107) h108) h109) h103))

theorem setSlotState_kept {σ : Scope} {ρ : State} {s : State} {n : ℕ} {k : ℕ} (hk0 : Kept σ ρ s) (h101 : σ.fld (pSLOT n) F.SLOT.STS.STATE) :
    Kept σ ρ (State.setSlotState s n k) := by
  unfold State.setSlotState
  exact set_kept (hk0) h101

theorem setSlot_kept {σ : Scope} {ρ : State} {s : State} {n : ℕ} {v : SlotSt} (hk0 : Kept σ ρ s) (h101 : σ.part .slots = true) :
    Kept σ ρ (State.setSlot s n v) := by
  unfold State.setSlot
  exact Kept.slots (hk0) h101

theorem startRamp_kept {σ : Scope} {ρ : State} {s : State} {n : ℕ} (hk0 : Kept σ ρ s) (h101 : σ.part .slots = true) (h102 : σ.fld (pSLOT n) F.SLOT.STS.STATE) :
    Kept σ ρ (State.startRamp s n) := by
  unfold State.startRamp
  exact setSlotState_kept (setSlot_kept (hk0) h101) h102

theorem slotRamp_kept {σ : Scope} {ρ : State} {s : State} {n : ℕ} (hk0 : Kept σ ρ s) (h101 : σ.part .slots = true) (h102 : σ.fld (pSLOT n) F.SLOT.STS.STATE) :
    Kept σ ρ (State.slotRamp s n) := by
  unfold State.slotRamp
  exact Kept.ite (startRamp_kept (hk0) h101 h102) (hk0)

theorem slotFill_kept {σ : Scope} {ρ : State} {s : State} {n : ℕ} (hk0 : Kept σ ρ s) (h101 : σ.fld (pSLOT n) F.SLOT.STS.STATE) :
    Kept σ ρ (State.slotFill s n) := by
  unfold State.slotFill
  exact Kept.ite (setSlotState_kept (hk0) h101) (hk0)

theorem slotLeave_kept {σ : Scope} {ρ : State} {s : State} {n : ℕ} (hk0 : Kept σ ρ s) (h101 : σ.fld (pSLOT n) F.SLOT.STS.STATE) :
    Kept σ ρ (State.slotLeave s n) := by
  unfold State.slotLeave
  exact Kept.ite (setSlotState_kept (hk0) h101) (hk0)

theorem slotKick_kept {σ : Scope} {ρ : State} {s : State} {n : ℕ} (hk0 : Kept σ ρ s) (h101 : σ.part .slots = true) (h102 : σ.fld (pSLOT n) F.SLOT.STS.STATE) :
    Kept σ ρ (State.slotKick s n) := by
  unfold State.slotKick
  exact slotRamp_kept (slotFill_kept (slotLeave_kept (hk0) h102) h102) h101 h102

theorem pgFall_kept {σ : Scope} {ρ : State} {s : State} {n : ℕ} {why : ℕ} {vout : ℕ} (hk0 : Kept σ ρ s) (h101 : σ.part .pwr = true) (h102 : σ.fld (pSLOT n) F.SLOT.STS.PG) (h103 : σ.fld (pSLOT n) (Fld.mk 12 10 1)) :
    Kept σ ρ (State.pgFall s n why vout) := by
  unfold State.pgFall
  exact Kept.ite (guardEvent_kept (event_kept (set_kept (hk0) h102) h103) h101) (hk0)

theorem slotOff_kept {σ : Scope} {ρ : State} {s : State} {n : ℕ} {vout : ℕ} (hk0 : Kept σ ρ s) (h101 : σ.part .pwr = true) (h102 : σ.fld (pSLOT n) F.SLOT.STS.PG) (h103 : σ.fld (pSLOT n) (Fld.mk 12 10 1)) (h104 : σ.fld (pSLOT n) F.SLOT.STS.STATE) :
    Kept σ ρ (State.slotOff s n vout) := by
  unfold State.slotOff
  exact setSlotState_kept (pgFall_kept (hk0) h101 h102 h103) h104

theorem slotEnable_kept {σ : Scope} {ρ : State} {s : State} {n : ℕ} (hk0 : Kept σ ρ s) (h101 : σ.part .pwr = true) (h102 : σ.part .slots = true) (h103 : σ.fld (pSLOT n) F.SLOT.STS.PG) (h104 : σ.fld (pSLOT n) (Fld.mk 12 10 1)) (h105 : σ.fld (pSLOT n) F.SLOT.STS.STATE) :
    Kept σ ρ (State.slotEnable s n) := by
  unfold State.slotEnable
  exact slotKick_kept (slotOff_kept (hk0) h101 h103 h104 h105) h102 h105

theorem slotStop_kept {σ : Scope} {ρ : State} {s : State} {n : ℕ} (hk0 : Kept σ ρ s) (h101 : σ.part .pwr = true) (h102 : σ.fld (pSLOT n) F.SLOT.STS.PG) (h103 : σ.fld (pSLOT n) (Fld.mk 12 10 1)) (h104 : σ.fld (pSLOT n) F.SLOT.STS.STATE) (h105 : σ.fld (pSLOT n) F.SLOT.STS.LATCH) :
    Kept σ ρ (State.slotStop s n) := by
  unfold State.slotStop
  exact nextFree_kept (set_kept (slotOff_kept (hk0) h101 h102 h103 h104) h105)

theorem slotClr_kept {σ : Scope} {ρ : State} {s : State} {n : ℕ} {present : Bool} (hk0 : Kept σ ρ s) (h101 : σ.fld (pSLOT n) F.SLOT.STS.PRESENT) :
    Kept σ ρ (State.slotClr s n present) := by
  unfold State.slotClr
  exact setB_kept (hk0) h101

theorem slotsKick_kept {σ : Scope} {ρ : State} {s : State} (hk0 : Kept σ ρ s) (h101 : σ.part .slots = true) (h102 : ∀ n, σ.page (pSLOT n)) :
    Kept σ ρ (State.slotsKick s) := by
  unfold State.slotsKick
  exact Kept.foldl (fun x0 a1 k2 => slotKick_kept (k2) h101 (h102 _).fld) _ _ (hk0)

theorem coolEnds_kept {σ : Scope} {ρ : State} {s : State} {n : ℕ} (hk0 : Kept σ ρ s) (h101 : σ.part .slots = true) (h102 : σ.fld (pSLOT n) F.SLOT.STS.STATE) :
    Kept σ ρ (State.coolEnds s n) := by
  unfold State.coolEnds
  exact Kept.cut (fun k1 => slotRamp_kept (Kept.ite (setSlotState_kept (k1) h102) (k1)) h101 h102) (advance_kept (hk0))

theorem edgeRecs_kept {σ : Scope} {ρ : State} {s : State} {l : ℕ} {kind : ℕ} {n : ℕ} {f : Rec → Option Rec} (hk0 : Kept σ ρ s) (h101 : σ.part .pwr = true) :
    Kept σ ρ (State.edgeRecs s l kind n f) := by
  unfold State.edgeRecs
  exact setLine_kept (hk0) h101

theorem slotsOff_kept {σ : Scope} {ρ : State} {s : State} (hk0 : Kept σ ρ s) (h101 : σ.part .pwr = true) (h102 : ∀ n, σ.page (pSLOT n)) :
    Kept σ ρ (State.slotsOff s) := by
  unfold State.slotsOff
  exact Kept.foldl (fun x0 a1 k2 => slotOff_kept (k2) h101 (h102 _).fld (h102 _).fld (h102 _).fld) _ _ (hk0)

theorem fallByTimer_kept {σ : Scope} {ρ : State} {s : State} {n : ℕ} (hk0 : Kept σ ρ s) (h101 : σ.part .pwr = true) :
    Kept σ ρ (State.fallByTimer s n) := by
  unfold State.fallByTimer
  exact edgeRecs_kept (hk0) h101

theorem unlatch_kept {σ : Scope} {ρ : State} {s : State} {n : ℕ} (hk0 : Kept σ ρ s) (h101 : σ.fld (pSLOT n) F.SLOT.STS.LATCH) (h102 : σ.fld (pSLOT n) F.SLOT.STS.STATE) :
    Kept σ ρ (State.unlatch s n) := by
  unfold State.unlatch
  exact Kept.cut (fun k1 => Kept.ite (setSlotState_kept (k1) h102) (k1)) (set_kept (hk0) h101)

theorem vacantRec_kept {σ : Scope} {ρ : State} {s : State} {n : ℕ} {removal : Bool} {cleared : Bool} (hk0 : Kept σ ρ s) (h101 : σ.part .pwr = true) :
    Kept σ ρ (State.vacantRec s n removal cleared) := by
  unfold State.vacantRec
  exact guardEvent_kept (hk0) h101

theorem removal_kept {σ : Scope} {ρ : State} {s : State} {n : ℕ} {vout : ℕ} (hk0 : Kept σ ρ s) (h101 : σ.part .slots = true) (h102 : σ.part .pwr = true) (h103 : σ.fld (pSLOT n) F.SLOT.STS.PRESENT) (h104 : σ.fld (pSLOT n) (Fld.mk 12 11 1)) (h105 : σ.fld (pSLOT n) F.SLOT.STS.LATCH) (h106 : σ.fld (pSLOT n) F.SLOT.STS.STATE) (h107 : σ.fld (pSLOT n) F.SLOT.STS.PG) (h108 : σ.fld (pSLOT n) (Fld.mk 12 10 1)) :
    Kept σ ρ (State.removal s n vout) := by
  unfold State.removal
  exact Kept.ite (Kept.cut (fun k9 => Kept.cut (fun k11 => slotKick_kept (vacantRec_kept (Kept.ite (k11) (setSlotState_kept (pgFall_kept (k11) h102 h107 h108) h106)) h102) h101 h106) (Kept.ite (unlatch_kept (k9) h105 h106) (k9))) (event_kept (set_kept (setSlot_kept (hk0) h101) h103) h104)) (hk0)

theorem tripNow_kept {σ : Scope} {ρ : State} {s : State} {n : ℕ} {cause : ℕ} {vout : ℕ} (hk0 : Kept σ ρ s) (h101 : σ.part .pwr = true) (h102 : σ.part .slots = true) (h103 : σ.fld (pSLOT n) F.SLOT.TRIPS.COUNT) (h104 : σ.fld (pSLOT n) F.SLOT.STS.LAST_CAUSE) (h105 : σ.fld (pSLOT n) F.SLOT.ONTIME.US) (h106 : σ.fld (pSLOT n) (Fld.mk 12 8 1)) (h107 : σ.fld (pSLOT n) F.SLOT.STS.PG) (h108 : σ.fld (pSLOT n) (Fld.mk 12 10 1)) (h109 : σ.fld (pSLOT n) F.SLOT.STS.STATE) (h110 : σ.fld (pSLOT n) F.SLOT.STS.LATCH) (h111 : σ.fld (pSLOT n) (Fld.mk 12 14 1)) :
    Kept σ ρ (State.tripNow s n cause vout) := by
  unfold State.tripNow
  exact Kept.ite (Kept.cut (fun k5 => Kept.ite (setSlotState_kept (setSlot_kept (k5) h102) h109) (setSlotState_kept (event_kept (set_kept (k5) h110) h111) h109)) (pgFall_kept (guardEvent_kept (event_kept (set_kept (set_kept (bump_kept (hk0) h103) h104) h105) h106) h101) h101 h107 h108)) (hk0)

theorem unremove_kept {σ : Scope} {ρ : State} {s : State} {n : ℕ} {state : ℕ} {pg : Bool} (hk0 : Kept σ ρ s) (h101 : σ.part .pwr = true) (h102 : σ.fld (pSLOT n) F.SLOT.STS.PRESENT) (h103 : σ.fld (pSLOT n) F.SLOT.STS.PG) (h104 : σ.fld (pSLOT n) F.SLOT.STS.STATE) :
    Kept σ ρ (State.unremove s n state pg) := by
  unfold State.unremove
  exact edgeRecs_kept (edgeRecs_kept (setSlotState_kept (setB_kept (set_kept (hk0) h102) h103) h104) h101) h101

theorem unrise_kept {σ : Scope} {ρ : State} {s : State} {n : ℕ} (hk0 : Kept σ ρ s) (h101 : σ.part .pwr = true) (h102 : σ.fld (pSLOT n) F.SLOT.STS.PG) (h103 : σ.fld (pSLOT n) F.SLOT.STS.STATE) (h104 : σ.fld (pSLOT n) (Fld.mk 12 9 1)) :
    Kept σ ρ (State.unrise s n) := by
  unfold State.unrise
  exact (by (try dsimp only); split; exacts [Kept.ite (Kept.cut (fun k1 => Kept.ite (k1) (set_kept (k1) h104)) (edgeRecs_kept (setSlotState_kept (set_kept (hk0) h102) h103) h101)) (hk0), hk0])

theorem slotTrip_kept {σ : Scope} {ρ : State} {s : State} {n : ℕ} {cause : ℕ} {vout : ℕ} (hk0 : Kept σ ρ s) (h101 : σ.part .pwr = true) (h102 : σ.part .slots = true) (h103 : σ.fld (pSLOT n) F.SLOT.STS.PRESENT) (h104 : σ.fld (pSLOT n) F.SLOT.STS.PG) (h105 : σ.fld (pSLOT n) F.SLOT.STS.STATE) (h106 : σ.fld (pSLOT n) F.SLOT.TRIPS.COUNT) (h107 : σ.fld (pSLOT n) F.SLOT.STS.LAST_CAUSE) (h108 : σ.fld (pSLOT n) F.SLOT.ONTIME.US) (h109 : σ.fld (pSLOT n) (Fld.mk 12 8 1)) (h110 : σ.fld (pSLOT n) (Fld.mk 12 10 1)) (h111 : σ.fld (pSLOT n) F.SLOT.STS.LATCH) (h112 : σ.fld (pSLOT n) (Fld.mk 12 14 1)) (h113 : σ.fld (pSLOT n) (Fld.mk 12 11 1)) (h114 : σ.fld (pSLOT n) (Fld.mk 12 9 1)) :
    Kept σ ρ (State.slotTrip s n cause vout) := by
  unfold State.slotTrip
  exact (by split; exacts [Kept.ite (removal_kept (tripNow_kept (unremove_kept (hk0) h101 h103 h104 h105) h101 h102 h106 h107 h108 h109 h104 h110 h105 h111 h112) h102 h101 h103 h113 h111 h105 h104 h110) (tripNow_kept (Kept.ite (unrise_kept (hk0) h101 h104 h105 h114) (Kept.ite (fallByTimer_kept (hk0) h101) (hk0))) h101 h102 h106 h107 h108 h109 h104 h110 h105 h111 h112), tripNow_kept (Kept.ite (unrise_kept (hk0) h101 h104 h105 h114) (Kept.ite (fallByTimer_kept (hk0) h101) (hk0))) h101 h102 h106 h107 h108 h109 h104 h110 h105 h111 h112])

theorem faultExpire_kept {σ : Scope} {ρ : State} {s : State} {n : ℕ} {vout : ℕ} (hk0 : Kept σ ρ s) (h101 : σ.part .pwr = true) (h102 : σ.part .slots = true) (h103 : σ.fld (pSLOT n) F.SLOT.STS.PRESENT) (h104 : σ.fld (pSLOT n) F.SLOT.STS.PG) (h105 : σ.fld (pSLOT n) F.SLOT.STS.STATE) (h106 : σ.fld (pSLOT n) F.SLOT.TRIPS.COUNT) (h107 : σ.fld (pSLOT n) F.SLOT.STS.LAST_CAUSE) (h108 : σ.fld (pSLOT n) F.SLOT.ONTIME.US) (h109 : σ.fld (pSLOT n) (Fld.mk 12 8 1)) (h110 : σ.fld (pSLOT n) (Fld.mk 12 10 1)) (h111 : σ.fld (pSLOT n) F.SLOT.STS.LATCH) (h112 : σ.fld (pSLOT n) (Fld.mk 12 14 1)) (h113 : σ.fld (pSLOT n) (Fld.mk 12 11 1)) (h114 : σ.fld (pSLOT n) (Fld.mk 12 9 1)) :
    Kept σ ρ (State.faultExpire s n vout) := by
  unfold State.faultExpire
  exact Kept.ite (slotTrip_kept (hk0) h101 h102 h103 h104 h105 h106 h107 h108 h109 h110 h111 h112 h113 h114) (hk0)

theorem insEnds_kept {σ : Scope} {ρ : State} {s : State} {n : ℕ} (hk0 : Kept σ ρ s) (h101 : σ.part .slots = true) (h102 : σ.fld (pSLOT n) F.SLOT.STS.STATE) :
    Kept σ ρ (State.insEnds s n) := by
  unfold State.insEnds
  exact slotRamp_kept (advance_kept (hk0)) h101 h102

theorem insertion_kept {σ : Scope} {ρ : State} {s : State} {n : ℕ} (hk0 : Kept σ ρ s) (h101 : σ.part .slots = true) (h102 : σ.part .pwr = true) (h103 : σ.fld (pSLOT n) F.SLOT.STS.PRESENT) (h104 : σ.fld (pSLOT n) (Fld.mk 12 12 1)) (h105 : σ.fld (pSLOT n) F.SLOT.STS.STATE) :
    Kept σ ρ (State.insertion s n) := by
  unfold State.insertion
  exact Kept.ite (hk0) (slotKick_kept (vacantRec_kept (setSlot_kept (event_kept (set_kept (hk0) h103) h104) h101) h102) h101 h105)

theorem limits_kept {σ : Scope} {ρ : State} {s : State} {n : ℕ} {on : Bool} (hk0 : Kept σ ρ s) (h101 : σ.part .slots = true) (h102 : σ.fld (pSLOT n) F.SLOT.STS.LIMITING) :
    Kept σ ρ (State.limits s n on) := by
  unfold State.limits
  exact setB_kept (setSlot_kept (hk0) h101) h102

theorem onPinChange_kept {σ : Scope} {ρ : State} {s : State} {n : ℕ} {level : Bool} {vout : ℕ} (hk0 : Kept σ ρ s) (h101 : σ.part .slots = true) (h102 : σ.part .pwr = true) (h103 : σ.fld (pSLOT n) F.SLOT.STS.LATCH) (h104 : σ.fld (pSLOT n) F.SLOT.STS.STATE) (h105 : σ.fld (pSLOT n) F.SLOT.STS.PG) (h106 : σ.fld (pSLOT n) (Fld.mk 12 10 1)) :
    Kept σ ρ (State.onPinChange s n level vout) := by
  unfold State.onPinChange
  exact Kept.ite (hk0) (Kept.ite (Kept.cut (fun k1 => slotKick_kept (Kept.ite (unlatch_kept (k1) h103 h104) (k1)) h101 h104) (setSlot_kept (hk0) h101)) (Kept.cut (fun k3 => Kept.ite (slotOff_kept (k3) h102 h105 h106 h104) (k3)) (setSlot_kept (hk0) h101)))

theorem onSlot_kept {σ : Scope} {ρ : State} {s : State} {n : ℕ} {f : State → State} (hk0 : Kept σ ρ s) (f0 : ∀ t, Kept σ ρ t → Kept σ ρ (f t)) :
    Kept σ ρ (State.onSlot s n f) := by
  unfold State.onSlot
  exact Kept.ite (f0 _ (hk0)) (hk0)

theorem pgRise_kept {σ : Scope} {ρ : State} {s : State} {n : ℕ} {limiting : Bool} {vout : ℕ} (hk0 : Kept σ ρ s) (h101 : σ.part .slots = true) (h102 : σ.part .pwr = true) (h103 : σ.fld (pSLOT n) F.SLOT.STS.LIMITING) (h104 : σ.fld (pSLOT n) F.SLOT.STS.PG_DEFER) (h105 : σ.fld (pSLOT n) (Fld.mk 12 13 1)) (h106 : σ.fld (pSLOT n) F.SLOT.STS.PG) (h107 : σ.fld (pSLOT n) (Fld.mk 12 9 1)) (h108 : σ.fld (pSLOT n) F.SLOT.STS.STATE) :
    Kept σ ρ (State.pgRise s n limiting vout) := by
  unfold State.pgRise
  exact Kept.ite (Kept.cut (fun k1 => Kept.ite (Kept.cut (fun k3 => Kept.ite (k3) (event_kept (setSlot_kept (k3) h101) h105)) (setW1c_kept (k1) h104)) (setSlotState_kept (guardEvent_kept (event_kept (set_kept (setSlot_kept (k1) h101) h106) h107) h102) h108)) (limits_kept (hk0) h101 h103)) (hk0)

theorem startTimeout_kept {σ : Scope} {ρ : State} {s : State} {n : ℕ} {vout : ℕ} (hk0 : Kept σ ρ s) (h101 : σ.part .pwr = true) (h102 : σ.part .slots = true) (h103 : σ.fld (pSLOT n) F.SLOT.STS.PRESENT) (h104 : σ.fld (pSLOT n) F.SLOT.STS.PG) (h105 : σ.fld (pSLOT n) F.SLOT.STS.STATE) (h106 : σ.fld (pSLOT n) F.SLOT.TRIPS.COUNT) (h107 : σ.fld (pSLOT n) F.SLOT.STS.LAST_CAUSE) (h108 : σ.fld (pSLOT n) F.SLOT.ONTIME.US) (h109 : σ.fld (pSLOT n) (Fld.mk 12 8 1)) (h110 : σ.fld (pSLOT n) (Fld.mk 12 10 1)) (h111 : σ.fld (pSLOT n) F.SLOT.STS.LATCH) (h112 : σ.fld (pSLOT n) (Fld.mk 12 14 1)) (h113 : σ.fld (pSLOT n) (Fld.mk 12 11 1)) (h114 : σ.fld (pSLOT n) (Fld.mk 12 9 1)) :
    Kept σ ρ (State.startTimeout s n vout) := by
  unfold State.startTimeout
  exact Kept.ite (slotTrip_kept (advance_kept (hk0)) h101 h102 h103 h104 h105 h106 h107 h108 h109 h110 h111 h112 h113 h114) (hk0)

theorem timerClear_kept {σ : Scope} {ρ : State} {s : State} {n : ℕ} (hk0 : Kept σ ρ s) (h101 : σ.part .slots = true) (h102 : σ.fld (pSLOT n) F.SLOT.STS.LIMITING) :
    Kept σ ρ (State.timerClear s n) := by
  unfold State.timerClear
  exact limits_kept (setSlot_kept (hk0) h101) h101 h102

theorem execSlotCoolEnd_kept {σ : Scope} {slot : ℕ} {s : State} (h101 : σ.part .slots = true) (h102 : σ.fld (pSLOT slot) F.SLOT.STS.STATE) :
    KeptNext σ s (execSlotCoolEnd slot s) := by
  unfold execSlotCoolEnd
  exact KeptNext.next (onSlot_kept (Kept.refl σ s) (fun x0 k1 => coolEnds_kept (k1) h101 h102))

theorem execSlotFastTrip_kept {σ : Scope} {clk : ℕ} {slot : ℕ} {vout : ℕ} {s : State} (h101 : σ.part .pwr = true) (h102 : σ.part .slots = true) (h103 : σ.fld (pSLOT slot) F.SLOT.STS.PRESENT) (h104 : σ.fld (pSLOT slot) F.SLOT.STS.PG) (h105 : σ.fld (pSLOT slot) F.SLOT.STS.STATE) (h106 : σ.fld (pSLOT slot) F.SLOT.TRIPS.COUNT) (h107 : σ.fld (pSLOT slot) F.SLOT.STS.LAST_CAUSE) (h108 : σ.fld (pSLOT slot) F.SLOT.ONTIME.US) (h109 : σ.fld (pSLOT slot) (Fld.mk 12 8 1)) (h110 : σ.fld (pSLOT slot) (Fld.mk 12 10 1)) (h111 : σ.fld (pSLOT slot) F.SLOT.STS.LATCH) (h112 : σ.fld (pSLOT slot) (Fld.mk 12 14 1)) (h113 : σ.fld (pSLOT slot) (Fld.mk 12 11 1)) (h114 : σ.fld (pSLOT slot) (Fld.mk 12 9 1)) :
    KeptNext σ s (execSlotFastTrip clk slot vout s) := by
  unfold execSlotFastTrip
  exact KeptNext.next (onSlot_kept (advance_kept (Kept.refl σ s)) (fun x0 k1 => slotTrip_kept (k1) h101 h102 h103 h104 h105 h106 h107 h108 h109 h110 h111 h112 h113 h114))

theorem execSlotFaultTimerExpire_kept {σ : Scope} {clk : ℕ} {slot : ℕ} {vout : ℕ} {s : State} (h101 : σ.part .pwr = true) (h102 : σ.part .slots = true) (h103 : σ.fld (pSLOT slot) F.SLOT.STS.PRESENT) (h104 : σ.fld (pSLOT slot) F.SLOT.STS.PG) (h105 : σ.fld (pSLOT slot) F.SLOT.STS.STATE) (h106 : σ.fld (pSLOT slot) F.SLOT.TRIPS.COUNT) (h107 : σ.fld (pSLOT slot) F.SLOT.STS.LAST_CAUSE) (h108 : σ.fld (pSLOT slot) F.SLOT.ONTIME.US) (h109 : σ.fld (pSLOT slot) (Fld.mk 12 8 1)) (h110 : σ.fld (pSLOT slot) (Fld.mk 12 10 1)) (h111 : σ.fld (pSLOT slot) F.SLOT.STS.LATCH) (h112 : σ.fld (pSLOT slot) (Fld.mk 12 14 1)) (h113 : σ.fld (pSLOT slot) (Fld.mk 12 11 1)) (h114 : σ.fld (pSLOT slot) (Fld.mk 12 9 1)) :
    KeptNext σ s (execSlotFaultTimerExpire clk slot vout s) := by
  unfold execSlotFaultTimerExpire
  exact KeptNext.next (onSlot_kept (advance_kept (Kept.refl σ s)) (fun x0 k1 => faultExpire_kept (k1) h101 h102 h103 h104 h105 h106 h107 h108 h109 h110 h111 h112 h113 h114))

theorem execSlotInsertRemainderEnd_kept {σ : Scope} {slot : ℕ} {s : State} (h101 : σ.part .slots = true) (h102 : σ.fld (pSLOT slot) F.SLOT.STS.STATE) :
    KeptNext σ s (execSlotInsertRemainderEnd slot s) := by
  unfold execSlotInsertRemainderEnd
  exact KeptNext.next (onSlot_kept (Kept.refl σ s) (fun x0 k1 => insEnds_kept (k1) h101 h102))

theorem execSlotInsertion_kept {σ : Scope} {clk : ℕ} {slot : ℕ} {s : State} (h101 : σ.part .slots = true) (h102 : σ.part .pwr = true) (h103 : σ.fld (pSLOT slot) F.SLOT.STS.PRESENT) (h104 : σ.fld (pSLOT slot) (Fld.mk 12 12 1)) (h105 : σ.fld (pSLOT slot) F.SLOT.STS.STATE) :
    KeptNext σ s (execSlotInsertion clk slot s) := by
  unfold execSlotInsertion
  exact KeptNext.next (onSlot_kept (advance_kept (Kept.refl σ s)) (fun x0 k1 => insertion_kept (k1) h101 h102 h103 h104 h105))

theorem execSlotLimitTimerClear_kept {σ : Scope} {clk : ℕ} {slot : ℕ} {s : State} (h101 : σ.part .slots = true) (h102 : σ.fld (pSLOT slot) F.SLOT.STS.LIMITING) :
    KeptNext σ s (execSlotLimitTimerClear clk slot s) := by
  unfold execSlotLimitTimerClear
  exact KeptNext.next (onSlot_kept (advance_kept (Kept.refl σ s)) (fun x0 k1 => timerClear_kept (k1) h101 h102))

theorem execSlotOnPinChange_kept {σ : Scope} {clk : ℕ} {slot : ℕ} {level : Bool} {vout : ℕ} {s : State} (h101 : σ.part .slots = true) (h102 : σ.part .pwr = true) (h103 : σ.fld (pSLOT slot) F.SLOT.STS.LATCH) (h104 : σ.fld (pSLOT slot) F.SLOT.STS.STATE) (h105 : σ.fld (pSLOT slot) F.SLOT.STS.PG) (h106 : σ.fld (pSLOT slot) (Fld.mk 12 10 1)) :
    KeptNext σ s (execSlotOnPinChange clk slot level vout s) := by
  unfold execSlotOnPinChange
  exact KeptNext.next (onSlot_kept (advance_kept (Kept.refl σ s)) (fun x0 k1 => onPinChange_kept (k1) h101 h102 h103 h104 h105 h106))

theorem execSlotPgFall_kept {σ : Scope} {clk : ℕ} {slot : ℕ} {vout : ℕ} {s : State} (h101 : σ.part .pwr = true) (h102 : σ.fld (pSLOT slot) F.SLOT.STS.PG) (h103 : σ.fld (pSLOT slot) (Fld.mk 12 10 1)) :
    KeptNext σ s (execSlotPgFall clk slot vout s) := by
  unfold execSlotPgFall
  exact KeptNext.next (onSlot_kept (advance_kept (Kept.refl σ s)) (fun x0 k1 => pgFall_kept (k1) h101 h102 h103))

theorem execSlotPgRise_kept {σ : Scope} {clk : ℕ} {slot : ℕ} {limiting : Bool} {vout : ℕ} {s : State} (h101 : σ.part .slots = true) (h102 : σ.part .pwr = true) (h103 : σ.fld (pSLOT slot) F.SLOT.STS.LIMITING) (h104 : σ.fld (pSLOT slot) F.SLOT.STS.PG_DEFER) (h105 : σ.fld (pSLOT slot) (Fld.mk 12 13 1)) (h106 : σ.fld (pSLOT slot) F.SLOT.STS.PG) (h107 : σ.fld (pSLOT slot) (Fld.mk 12 9 1)) (h108 : σ.fld (pSLOT slot) F.SLOT.STS.STATE) :
    KeptNext σ s (execSlotPgRise clk slot limiting vout s) := by
  unfold execSlotPgRise
  exact KeptNext.next (onSlot_kept (advance_kept (Kept.refl σ s)) (fun x0 k1 => pgRise_kept (k1) h101 h102 h103 h104 h105 h106 h107 h108))

theorem execSlotRemoval_kept {σ : Scope} {clk : ℕ} {slot : ℕ} {vout : ℕ} {s : State} (h101 : σ.part .slots = true) (h102 : σ.part .pwr = true) (h103 : σ.fld (pSLOT slot) F.SLOT.STS.PRESENT) (h104 : σ.fld (pSLOT slot) (Fld.mk 12 11 1)) (h105 : σ.fld (pSLOT slot) F.SLOT.STS.LATCH) (h106 : σ.fld (pSLOT slot) F.SLOT.STS.STATE) (h107 : σ.fld (pSLOT slot) F.SLOT.STS.PG) (h108 : σ.fld (pSLOT slot) (Fld.mk 12 10 1)) :
    KeptNext σ s (execSlotRemoval clk slot vout s) := by
  unfold execSlotRemoval
  exact KeptNext.next (onSlot_kept (advance_kept (Kept.refl σ s)) (fun x0 k1 => removal_kept (k1) h101 h102 h103 h104 h105 h106 h107 h108))

theorem execSlotStartTimeout_kept {σ : Scope} {slot : ℕ} {vout : ℕ} {s : State} (h101 : σ.part .pwr = true) (h102 : σ.part .slots = true) (h103 : σ.fld (pSLOT slot) F.SLOT.STS.PRESENT) (h104 : σ.fld (pSLOT slot) F.SLOT.STS.PG) (h105 : σ.fld (pSLOT slot) F.SLOT.STS.STATE) (h106 : σ.fld (pSLOT slot) F.SLOT.TRIPS.COUNT) (h107 : σ.fld (pSLOT slot) F.SLOT.STS.LAST_CAUSE) (h108 : σ.fld (pSLOT slot) F.SLOT.ONTIME.US) (h109 : σ.fld (pSLOT slot) (Fld.mk 12 8 1)) (h110 : σ.fld (pSLOT slot) (Fld.mk 12 10 1)) (h111 : σ.fld (pSLOT slot) F.SLOT.STS.LATCH) (h112 : σ.fld (pSLOT slot) (Fld.mk 12 14 1)) (h113 : σ.fld (pSLOT slot) (Fld.mk 12 11 1)) (h114 : σ.fld (pSLOT slot) (Fld.mk 12 9 1)) :
    KeptNext σ s (execSlotStartTimeout slot vout s) := by
  unfold execSlotStartTimeout
  exact KeptNext.next (onSlot_kept (Kept.refl σ s) (fun x0 k1 => startTimeout_kept (k1) h101 h102 h103 h104 h105 h106 h107 h108 h109 h110 h111 h112 h113 h114))

end Sys2Proof.Laws
end

