-- ==== Sys2Proof/Laws/Kept02.lean ====
section
/-!
SUPPORT. What the operations and commands of these files keep: Machine/Supply, Machine/Frames, Machine/Book.
-/

namespace Sys2Proof.Laws

open Sys2Proof Sys2Proof.Machine

theorem lastPlan_kept {σ : Scope} {ρ : State} {s : State} {back : Bool} {timeout : Bool} {done : Bool} (hk0 : Kept σ ρ s) (h101 : σ.fld pTALLY F.TALLY.LAST_PLAN.VALID) (h102 : σ.fld pTALLY F.TALLY.LAST_PLAN.all) :
    Kept σ ρ (State.lastPlan s back timeout done) := by
  unfold State.lastPlan
  exact set_kept (setW1c_kept (hk0) h101) h102

theorem setFet_kept {σ : Scope} {ρ : State} {s : State} {new : ℕ} (hk0 : Kept σ ρ s) (h101 : σ.fld pSUPPLY F.SUPPLY.STS.FET) (h102 : σ.fld pSUPPLY F.SUPPLY.SWCNT.COUNT) (h103 : σ.fld pSUPPLY (Fld.mk 12 8 1)) :
    Kept σ ρ (State.setFet s new) := by
  unfold State.setFet
  exact event_kept (bump_kept (set_kept (hk0) h101) h102) h103

theorem switchFet_kept {σ : Scope} {ρ : State} {s : State} {new : ℕ} {cause : ℕ} {vinA : ℕ} {vinB : ℕ} {ns : ℕ} (hk0 : Kept σ ρ s) (h101 : σ.part .pwr = true) (h102 : σ.fld pSUPPLY F.SUPPLY.STS.FET) (h103 : σ.fld pSUPPLY F.SUPPLY.SWCNT.COUNT) (h104 : σ.fld pSUPPLY (Fld.mk 12 8 1)) :
    Kept σ ρ (State.switchFet s new cause vinA vinB ns) := by
  unfold State.switchFet
  exact Kept.ite (hk0) (guardEvent_kept (setFet_kept (hk0) h102 h103 h104) h101)

theorem refet_kept {σ : Scope} {ρ : State} {s : State} (hk0 : Kept σ ρ s) (h101 : σ.part .pwr = true) (h102 : σ.fld pSUPPLY F.SUPPLY.STS.FET) (h103 : σ.fld pSUPPLY F.SUPPLY.SWCNT.COUNT) (h104 : σ.fld pSUPPLY (Fld.mk 12 8 1)) :
    Kept σ ρ (State.refet s) := by
  unfold State.refet
  exact nextFree_kept (switchFet_kept (hk0) h101 h102 h103 h104)

theorem supplyOn_kept {σ : Scope} {ρ : State} {s : State} (hk0 : Kept σ ρ s) (h101 : σ.part .supply = true) (h102 : σ.part .pwr = true) (h103 : σ.fld pSUPPLY F.SUPPLY.STS.FET) (h104 : σ.fld pSUPPLY F.SUPPLY.SWCNT.COUNT) (h105 : σ.fld pSUPPLY (Fld.mk 12 8 1)) :
    Kept σ ρ (State.supplyOn s) := by
  unfold State.supplyOn
  exact refet_kept (Kept.supply (hk0) h101) h102 h103 h104 h105

theorem supplyClr_kept {σ : Scope} {ρ : State} {s : State} {sts : Word} {rfault : Word} (hk0 : Kept σ ρ s) (h101 : σ.part .supply = true) (h102 : σ.part .pwr = true) (h103 : σ.reg (regKey pSUPPLY 88) = true) (h104 : σ.reg (regKey pSUPPLY 136) = true) (h105 : σ.fld pSUPPLY F.SUPPLY.STS.FET) (h106 : σ.fld pSUPPLY F.SUPPLY.SWCNT.COUNT) (h107 : σ.fld pSUPPLY (Fld.mk 12 8 1)) :
    Kept σ ρ (State.supplyClr s sts rfault) := by
  unfold State.supplyClr
  exact refet_kept (Kept.supply (wr_kept (wr_kept (hk0) h103) h104) h101) h102 h105 h106 h107

theorem rfClr_kept {σ : Scope} {ρ : State} {s : State} (hk0 : Kept σ ρ s) (h101 : σ.fld pSUPPLY F.SUPPLY.STS.RF_LATCH) (h102 : σ.fld pSUPPLY F.SUPPLY.STS.RFCNT) :
    Kept σ ρ (State.rfClr s) := by
  unfold State.rfClr
  exact set_kept (set_kept (hk0) h101) h102

theorem enterKeep_kept {σ : Scope} {ρ : State} {s : State} (hk0 : Kept σ ρ s) (h101 : σ.part .pwr = true) (h102 : σ.part .supply = true) (h103 : ∀ n, σ.page (pSLOT n)) :
    Kept σ ρ (State.enterKeep s) := by
  unfold State.enterKeep
  exact Kept.u_pwr_supply (slotsOff_kept (hk0) h101 h103) h101 h102 rfl

theorem seqStart_kept {σ : Scope} {ρ : State} {s : State} (hk0 : Kept σ ρ s) (h101 : σ.part .supply = true) (h102 : σ.fld pSUPPLY F.SUPPLY.STS.SEQ_BUSY) :
    Kept σ ρ (State.seqStart s) := by
  unfold State.seqStart
  exact Kept.supply (cause_kept (set_kept (hk0) h102) h101) h101

theorem faultRestart_kept {σ : Scope} {ρ : State} {s : State} (hk0 : Kept σ ρ s) (h101 : σ.part .supply = true) (h102 : σ.fld pSUPPLY F.SUPPLY.STS.SEQ_BUSY) :
    Kept σ ρ (State.faultRestart s) := by
  unfold State.faultRestart
  exact (by (try dsimp only); split; exacts [hk0, Kept.ite (Kept.cut (fun k5 => (by split; exacts [Kept.ite (seqStart_kept (k5) h101 h102) (k5), k5])) (Kept.supply (advance_kept (hk0)) h101)) (hk0)])

theorem setOv_kept {σ : Scope} {ρ : State} {s : State} {i : ℕ} {ov : Bool} (hk0 : Kept σ ρ s) (h101 : σ.fld pSUPPLY (inOv i)) (h102 : σ.fld pSUPPLY (Fld.mk 12 13 1)) :
    Kept σ ρ (State.setOv s i ov) := by
  unfold State.setOv
  exact Kept.cut (fun k1 => Kept.ite (event_kept (k1) h102) (k1)) (setB_kept (hk0) h101)

theorem setInput_kept {σ : Scope} {ρ : State} {s : State} {i : ℕ} {since : Option ℕ} (hk0 : Kept σ ρ s) (h101 : σ.part .supply = true) (h102 : σ.fld pSUPPLY (inValid i)) :
    Kept σ ρ (State.setInput s i since) := by
  unfold State.setInput
  exact Kept.cut (fun k1 => Kept.ite (Kept.supply (k1) h101) (Kept.supply (k1) h101)) (setB_kept (hk0) h102)

theorem moveEnds_kept {σ : Scope} {ρ : State} {s : State} (hk0 : Kept σ ρ s) (h101 : σ.part .pwr = true) (h102 : σ.fld pSYS F.SYS.PSTATE.BUSY) (h103 : σ.fld pSYS F.SYS.PSTATE.REJ) (h104 : σ.fld pSYS F.SYS.PSTATE.CAUSE) (h105 : σ.fld pSYS F.SYS.PSTATE.BLOCKER) :
    Kept σ ρ (State.moveEnds s) := by
  unfold State.moveEnds
  exact (by (try dsimp only); split; exacts [Kept.pwr (set_kept (hk0) h102) h101 rfl, pstateReject_kept (Kept.pwr (Kept.pwr (set_kept (hk0) h102) h101 rfl) h101 rfl) h103 h104 h105, pstateReject_kept (Kept.pwr (Kept.pwr (set_kept (hk0) h102) h101 rfl) h101 rfl) h103 h104 h105, Kept.pwr (Kept.pwr (set_kept (hk0) h102) h101 rfl) h101 rfl])

theorem shedRec_kept {σ : Scope} {ρ : State} {s : State} {line : ℕ} {source : ℕ} {release : Bool} (hk0 : Kept σ ρ s) (h101 : σ.part .pwr = true) :
    Kept σ ρ (State.shedRec s line source release) := by
  unfold State.shedRec
  exact guardEvent_kept (hk0) h101

theorem shed_kept {σ : Scope} {ρ : State} {s : State} {k : ℕ} (hk0 : Kept σ ρ s) (h101 : σ.part .pwr = true) (h102 : σ.fld pTALLY F.TALLY.STS.SHED) (h103 : σ.fld pTALLY (Fld.mk 12 9 1)) :
    Kept σ ρ (State.shed s k) := by
  unfold State.shed
  exact shedRec_kept (event_kept (set_kept (hk0) h102) h103) h101

theorem planStart_kept {σ : Scope} {ρ : State} {s : State} (hk0 : Kept σ ρ s) (h101 : σ.part .tally = true) (h102 : σ.part .pwr = true) (h103 : σ.fld pTALLY F.TALLY.STS.LEARNING) (h104 : σ.fld pTALLY F.TALLY.CTL.LEARN) (h105 : σ.fld pTALLY F.TALLY.STS.PLAN) (h106 : σ.fld pTALLY (Fld.mk 12 8 1)) (h107 : σ.fld pSYS F.SYS.PSTATE.BUSY) (h108 : σ.fld pSYS F.SYS.PSTATE.REJ) (h109 : σ.fld pSYS F.SYS.PSTATE.CAUSE) (h110 : σ.fld pSYS F.SYS.PSTATE.BLOCKER) (h111 : σ.fld pTALLY F.TALLY.STS.SHED) (h112 : σ.fld pTALLY (Fld.mk 12 9 1)) :
    Kept σ ρ (State.planStart s) := by
  unfold State.planStart
  exact Kept.cut (fun k3 => Kept.ite (Kept.cut (fun k5 => Kept.cut (fun k7 => Kept.ite (shed_kept (k7) h102 h111 h112) (k7)) (Kept.ite (moveEnds_kept (k5) h102 h107 h108 h109 h110) (k5))) (event_kept (set_kept (k3) h105) h106)) (k3)) (Kept.tally (set_kept (set_kept (hk0) h103) h104) h101)

theorem mainRec_kept {σ : Scope} {ρ : State} {s : State} {loss : Bool} {ov : Bool} {vinA : ℕ} {vor : ℕ} (hk0 : Kept σ ρ s) (h101 : σ.part .pwr = true) :
    Kept σ ρ (State.mainRec s loss ov vinA vor) := by
  unfold State.mainRec
  exact guardEvent_kept (hk0) h101

theorem inputInvalid_kept {σ : Scope} {ρ : State} {s : State} {i : ℕ} {ov : Bool} {other : Bool} {vinA : ℕ} {vinB : ℕ} {vor : ℕ} {ns : ℕ} (hk0 : Kept σ ρ s) (h101 : σ.part .supply = true) (h102 : σ.part .pwr = true) (h103 : σ.part .tally = true) (h104 : σ.page pSUPPLY) (h105 : σ.page pTALLY) (h106 : σ.page pSYS) :
    Kept σ ρ (State.inputInvalid s i ov other vinA vinB vor ns) := by
  unfold State.inputInvalid
  exact Kept.cut (fun k1 => Kept.cut (fun k9 => Kept.ite (Kept.supply (planStart_kept (mainRec_kept (event_kept (k9) h104.fld) h102) h103 h102 h105.fld h105.fld h105.fld h105.fld h106.fld h106.fld h106.fld h106.fld h105.fld h105.fld) h101) (k9)) (switchFet_kept (Kept.ite (setOv_kept (setInput_kept (k1) h101 h104.fld) h104.fld h104.fld) (k1)) h102 h104.fld h104.fld h104.fld)) (setOv_kept (setInput_kept (hk0) h101 h104.fld) h104.fld h104.fld)

theorem inputValid_kept {σ : Scope} {ρ : State} {s : State} {i : ℕ} {vinA : ℕ} {vinB : ℕ} {ns : ℕ} (hk0 : Kept σ ρ s) (h101 : σ.part .supply = true) (h102 : σ.part .pwr = true) (h103 : σ.fld pSUPPLY (inValid i)) (h104 : σ.fld pSUPPLY (inOv i)) (h105 : σ.fld pSUPPLY (Fld.mk 12 13 1)) (h106 : σ.fld pSUPPLY F.SUPPLY.STS.FET) (h107 : σ.fld pSUPPLY F.SUPPLY.SWCNT.COUNT) (h108 : σ.fld pSUPPLY (Fld.mk 12 8 1)) :
    Kept σ ρ (State.inputValid s i vinA vinB ns) := by
  unfold State.inputValid
  exact Kept.ite (hk0) (switchFet_kept (setOv_kept (setInput_kept (hk0) h101 h103) h104 h105) h102 h106 h107 h108)

theorem planBack_kept {σ : Scope} {ρ : State} {s : State} (hk0 : Kept σ ρ s) (h101 : σ.Full) :
    Kept σ ρ (State.planBack s) := by
  unfold State.planBack
  exact Kept.ite (Kept.cut (fun k5 => Kept.ite (powerDown_kept (k5) h101) (k5)) (event_kept (set_kept (shedRec_kept (set_kept (set_kept (lastPlan_kept (hk0) (fun _ _ => h101.2 _) (fun _ _ => h101.2 _)) (fun _ _ => h101.2 _)) (fun _ _ => h101.2 _)) (h101.1 _)) (fun _ _ => h101.2 _)) (fun _ _ => h101.2 _))) (hk0)

theorem mainReturn_kept {σ : Scope} {ρ : State} {s : State} {vinA : ℕ} {vor : ℕ} (hk0 : Kept σ ρ s) (h101 : σ.Full) :
    Kept σ ρ (State.mainReturn s vinA vor) := by
  unfold State.mainReturn
  exact (by (try dsimp only); split; exacts [Kept.ite (planBack_kept (mainRec_kept (event_kept (Kept.supply (advance_kept (hk0)) (h101.1 _)) (fun _ _ => h101.2 _)) (h101.1 _)) h101) (hk0), hk0])

theorem onGuard_kept {σ : Scope} {ρ : State} {s : State} {f : State → State} (hk0 : Kept σ ρ s) (f0 : ∀ t, Kept σ ρ t → Kept σ ρ (f t)) :
    Kept σ ρ (State.onGuard s f) := by
  unfold State.onGuard
  exact Kept.ite (f0 _ (hk0)) (hk0)

theorem pfwRise_kept {σ : Scope} {ρ : State} {s : State} (hk0 : Kept σ ρ s) (h101 : σ.fld pSUPPLY F.SUPPLY.STS.PFW) :
    Kept σ ρ (State.pfwRise s) := by
  unfold State.pfwRise
  exact Kept.ite (set_kept (hk0) h101) (hk0)

theorem pgCore_kept {σ : Scope} {ρ : State} {s : State} {enter : ℕ} (hk0 : Kept σ ρ s) (h101 : σ.part .pwr = true) (h102 : σ.part .supply = true) (h103 : σ.fld pSUPPLY F.SUPPLY.STS.PG_CORE) (h104 : σ.fld pSUPPLY F.SUPPLY.STS.SEQ_BUSY) :
    Kept σ ρ (State.pgCore s enter) := by
  unfold State.pgCore
  exact (by (try dsimp only); split; exacts [Kept.ite (Kept.u_pwr_supply (set_kept (set_kept (advance_kept (hk0)) h103) h104) h101 h102 rfl) (hk0), hk0])

theorem railEvent_kept {σ : Scope} {ρ : State} {s : State} {on : Bool} {t : ℕ} (hk0 : Kept σ ρ s) (h101 : σ.part .pwr = true) :
    Kept σ ρ (State.railEvent s on t) := by
  unfold State.railEvent
  exact Kept.ite (setLine_kept (hk0) h101) (hk0)

theorem railFall_kept {σ : Scope} {ρ : State} {s : State} {clk : ℕ} (hk0 : Kept σ ρ s) (h101 : σ.part .supply = true) (h102 : σ.part .pwr = true) (h103 : ∀ n, σ.page (pSLOT n)) :
    Kept σ ρ (State.railFall s clk) := by
  unfold State.railFall
  exact (by (try dsimp only); split; exacts [Kept.supply (advance_kept (hk0)) h101, Kept.cut (fun k3 => Kept.ite (Kept.supply (k3) h101) (enterKeep_kept (k3) h102 h101 h103)) (advance_kept (hk0)), hk0])

theorem railFault_kept {σ : Scope} {ρ : State} {s : State} {rail : ℕ} {above : Bool} (hk0 : Kept σ ρ s) (h101 : σ.Full) :
    Kept σ ρ (State.railFault s rail above) := by
  unfold State.railFault
  exact Kept.cut (fun k11 => Kept.supply (railEvent_kept (powerDown_kept (Kept.ite (set_kept (k11) (fun _ _ => h101.2 _)) (k11)) h101) (h101.1 _)) (h101.1 _)) (cause_kept (event_kept (bumpSat_kept (set_kept (set_kept (setW1c_kept (hk0) (fun _ _ => h101.2 _)) (fun _ _ => h101.2 _)) (fun _ _ => h101.2 _)) (fun _ _ => h101.2 _)) (fun _ _ => h101.2 _)) (h101.1 _))

theorem railStart_kept {σ : Scope} {ρ : State} {s : State} (hk0 : Kept σ ρ s) (h101 : σ.part .supply = true) (h102 : σ.fld pSUPPLY F.SUPPLY.STS.SEQ_BUSY) :
    Kept σ ρ (State.railStart s) := by
  unfold State.railStart
  exact (by split; exacts [Kept.ite (seqStart_kept (advance_kept (hk0)) h101 h102) (hk0), hk0])

theorem railStep_kept {σ : Scope} {ρ : State} {s : State} {enter : ℕ} (hk0 : Kept σ ρ s) (h101 : σ.part .supply = true) :
    Kept σ ρ (State.railStep s enter) := by
  unfold State.railStep
  exact (by (try dsimp only); split; exacts [Kept.ite (Kept.supply (advance_kept (hk0)) h101) (hk0), hk0])

theorem railsOut_kept {σ : Scope} {ρ : State} {s : State} {map : ℕ} {above : Bool} (hk0 : Kept σ ρ s) (h101 : σ.Full) :
    Kept σ ρ (State.railsOut s map above) := by
  unfold State.railsOut
  exact (by split; exacts [Kept.ite (railFault_kept (hk0) h101) (hk0), hk0])

theorem rampTimeout_kept {σ : Scope} {ρ : State} {s : State} (hk0 : Kept σ ρ s) (h101 : σ.Full) :
    Kept σ ρ (State.rampTimeout s) := by
  unfold State.rampTimeout
  exact (by split; exacts [railFault_kept (advance_kept (hk0)) h101, hk0])

theorem returnPref_kept {σ : Scope} {ρ : State} {s : State} {vinA : ℕ} {vinB : ℕ} {ns : ℕ} (hk0 : Kept σ ρ s) (h101 : σ.part .pwr = true) (h102 : σ.fld pSUPPLY F.SUPPLY.STS.FET) (h103 : σ.fld pSUPPLY F.SUPPLY.SWCNT.COUNT) (h104 : σ.fld pSUPPLY (Fld.mk 12 8 1)) :
    Kept σ ρ (State.returnPref s vinA vinB ns) := by
  unfold State.returnPref
  exact (by (try dsimp only); split; exacts [Kept.ite (switchFet_kept (advance_kept (hk0)) h101 h102 h103 h104) (hk0), hk0])

theorem reverse_kept {σ : Scope} {ρ : State} {s : State} {i : ℕ} {off : Bool} (hk0 : Kept σ ρ s) (h101 : σ.part .supply = true) (h102 : σ.fld pSUPPLY F.SUPPLY.STS.FET) (h103 : σ.fld pSUPPLY F.SUPPLY.SWCNT.COUNT) (h104 : σ.fld pSUPPLY (Fld.mk 12 8 1)) :
    Kept σ ρ (State.reverse s i off) := by
  unfold State.reverse
  exact Kept.cut (fun k1 => Kept.ite (k1) (setFet_kept (k1) h102 h103 h104)) (Kept.supply (hk0) h101)

theorem unpowered_kept {σ : Scope} {ρ : State} {s : State} {i : ℕ} {since : Option ℕ} (hk0 : Kept σ ρ s) (h101 : σ.part .supply = true) :
    Kept σ ρ (State.unpowered s i since) := by
  unfold State.unpowered
  exact Kept.ite (Kept.supply (hk0) h101) (Kept.ite (Kept.supply (hk0) h101) (hk0))

theorem execInputInvalid_kept {σ : Scope} {clk : ℕ} {input : ℕ} {ov : Bool} {other : Bool} {vinA : ℕ} {vinB : ℕ} {vor : ℕ} {gateNs : ℕ} {s : State} (h101 : σ.part .supply = true) (h102 : σ.part .pwr = true) (h103 : σ.part .tally = true) (h104 : σ.page pSUPPLY) (h105 : σ.page pTALLY) (h106 : σ.page pSYS) :
    KeptNext σ s (execInputInvalid clk input ov other vinA vinB vor gateNs s) := by
  unfold execInputInvalid
  exact KeptNext.next (Kept.ite (Kept.ite (inputInvalid_kept (advance_kept (Kept.refl σ s)) h101 h102 h103 h104 h105 h106) (advance_kept (Kept.refl σ s))) (unpowered_kept (advance_kept (Kept.refl σ s)) h101))

theorem execInputValid_kept {σ : Scope} {clk : ℕ} {input : ℕ} {vinA : ℕ} {vinB : ℕ} {gateNs : ℕ} {s : State} (h101 : σ.part .supply = true) (h102 : σ.part .pwr = true) (h103 : σ.fld pSUPPLY (inValid input)) (h104 : σ.fld pSUPPLY (inOv input)) (h105 : σ.fld pSUPPLY (Fld.mk 12 13 1)) (h106 : σ.fld pSUPPLY F.SUPPLY.STS.FET) (h107 : σ.fld pSUPPLY F.SUPPLY.SWCNT.COUNT) (h108 : σ.fld pSUPPLY (Fld.mk 12 8 1)) :
    KeptNext σ s (execInputValid clk input vinA vinB gateNs s) := by
  unfold execInputValid
  exact KeptNext.next (Kept.ite (Kept.ite (inputValid_kept (advance_kept (Kept.refl σ s)) h101 h102 h103 h104 h105 h106 h107 h108) (advance_kept (Kept.refl σ s))) (unpowered_kept (advance_kept (Kept.refl σ s)) h101))

theorem execMainReturn_kept {σ : Scope} {vinA : ℕ} {vor : ℕ} {s : State} (h101 : σ.Full) :
    KeptNext σ s (execMainReturn vinA vor s) := by
  unfold execMainReturn
  exact KeptNext.next (onGuard_kept (Kept.refl σ s) (fun x0 k1 => mainReturn_kept (k1) h101))

theorem execPfwRelease_kept {σ : Scope} {clk : ℕ} {s : State} (h101 : σ.fld pSUPPLY F.SUPPLY.STS.PFW) :
    KeptNext σ s (execPfwRelease clk s) := by
  unfold execPfwRelease
  exact KeptNext.next (onGuard_kept (advance_kept (Kept.refl σ s)) (fun x0 k1 => pfwRise_kept (k1) h101))

theorem execPgCoreRelease_kept {σ : Scope} {enter : ℕ} {s : State} (h101 : σ.part .pwr = true) (h102 : σ.part .supply = true) (h103 : σ.fld pSUPPLY F.SUPPLY.STS.PG_CORE) (h104 : σ.fld pSUPPLY F.SUPPLY.STS.SEQ_BUSY) :
    KeptNext σ s (execPgCoreRelease enter s) := by
  unfold execPgCoreRelease
  exact KeptNext.next (pgCore_kept (Kept.refl σ s) h101 h102 h103 h104)

theorem execRailEnFallStep_kept {σ : Scope} {clk : ℕ} {s : State} (h101 : σ.part .supply = true) (h102 : σ.part .pwr = true) (h103 : ∀ n, σ.page (pSLOT n)) :
    KeptNext σ s (execRailEnFallStep clk s) := by
  unfold execRailEnFallStep
  exact KeptNext.next (railFall_kept (Kept.refl σ s) h101 h102 h103)

theorem execRailEnStep_kept {σ : Scope} {enter : ℕ} {s : State} (h101 : σ.part .supply = true) :
    KeptNext σ s (execRailEnStep enter s) := by
  unfold execRailEnStep
  exact KeptNext.next (railStep_kept (Kept.refl σ s) h101)

theorem execRailFault_kept {σ : Scope} {clk : ℕ} {map : ℕ} {above : Bool} {s : State} (h101 : σ.Full) :
    KeptNext σ s (execRailFault clk map above s) := by
  unfold execRailFault
  exact KeptNext.next (onGuard_kept (advance_kept (Kept.refl σ s)) (fun x0 k1 => railsOut_kept (k1) h101))

theorem execRailFaultRestart_kept {σ : Scope} {s : State} (h101 : σ.part .supply = true) (h102 : σ.fld pSUPPLY F.SUPPLY.STS.SEQ_BUSY) :
    KeptNext σ s (execRailFaultRestart s) := by
  unfold execRailFaultRestart
  exact KeptNext.next (faultRestart_kept (Kept.refl σ s) h101 h102)

theorem execRailRampTimeout_kept {σ : Scope} {s : State} (h101 : σ.Full) :
    KeptNext σ s (execRailRampTimeout s) := by
  unfold execRailRampTimeout
  exact KeptNext.next (rampTimeout_kept (Kept.refl σ s) h101)

theorem execRailSequenceStart_kept {σ : Scope} {s : State} (h101 : σ.part .supply = true) (h102 : σ.fld pSUPPLY F.SUPPLY.STS.SEQ_BUSY) :
    KeptNext σ s (execRailSequenceStart s) := by
  unfold execRailSequenceStart
  exact KeptNext.next (railStart_kept (Kept.refl σ s) h101 h102)

theorem execReverseComparator_kept {σ : Scope} {clk : ℕ} {input : ℕ} {off : Bool} {s : State} (h101 : σ.part .supply = true) (h102 : σ.fld pSUPPLY F.SUPPLY.STS.FET) (h103 : σ.fld pSUPPLY F.SUPPLY.SWCNT.COUNT) (h104 : σ.fld pSUPPLY (Fld.mk 12 8 1)) :
    KeptNext σ s (execReverseComparator clk input off s) := by
  unfold execReverseComparator
  exact KeptNext.next (onGuard_kept (advance_kept (Kept.refl σ s)) (fun x0 k1 => Kept.ite (reverse_kept (k1) h101 h102 h103 h104) (k1)))

theorem execSupplyReturnPref_kept {σ : Scope} {vinA : ℕ} {vinB : ℕ} {gateNs : ℕ} {s : State} (h101 : σ.part .pwr = true) (h102 : σ.fld pSUPPLY F.SUPPLY.STS.FET) (h103 : σ.fld pSUPPLY F.SUPPLY.SWCNT.COUNT) (h104 : σ.fld pSUPPLY (Fld.mk 12 8 1)) :
    KeptNext σ s (execSupplyReturnPref vinA vinB gateNs s) := by
  unfold execSupplyReturnPref
  exact KeptNext.next (onGuard_kept (Kept.refl σ s) (fun x0 k1 => returnPref_kept (k1) h101 h102 h103 h104))

theorem execSupplyRfClr_kept {σ : Scope} {clk : ℕ} {s : State} (h101 : σ.part .page = true) (h102 : σ.fld pSUPPLY F.SUPPLY.STS.RF_LATCH) (h103 : σ.fld pSUPPLY F.SUPPLY.STS.RFCNT) (h104 : σ.fld pSYS (Fld.mk 12 11 1)) (h105 : σ.fld pSUPPLY F.HDR.PSTS.CODE) (h106 : σ.fld pSUPPLY F.HDR.PSTS.INDEX) (h107 : σ.fld pSUPPLY F.HDR.PSTS.REFUSED) (h108 : σ.fld pSUPPLY (Fld.mk 12 0 1)) :
    KeptNext σ s (execSupplyRfClr clk s) := by
  unfold execSupplyRfClr
  exact KeptNext.next (bitWrite_kept (advance_kept (Kept.refl σ s)) (fun x0 k1 => rfClr_kept (k1) h102 h103) h101 h104 h105 h106 h107 h108)

theorem execVorBelowPfw_kept {σ : Scope} {clk : ℕ} {s : State} (h101 : σ.fld pSUPPLY F.SUPPLY.STS.PFW) (h102 : σ.fld pSUPPLY (Fld.mk 12 12 1)) :
    KeptNext σ s (execVorBelowPfw clk s) := by
  unfold execVorBelowPfw
  exact KeptNext.next (onGuard_kept (advance_kept (Kept.refl σ s)) (fun x0 k1 => pfwFall_kept (k1) h101 h102))

theorem setPort_kept {σ : Scope} {ρ : State} {s : State} {n : ℕ} {p : PortSt} (hk0 : Kept σ ρ s) (h101 : σ.part .ports = true) :
    Kept σ ρ (State.setPort s n p) := by
  unfold State.setPort
  exact Kept.ports (hk0) h101

theorem markCount_kept {σ : Scope} {ρ : State} {s : State} {n : ℕ} {i : ℕ} {k : ℕ} (hk0 : Kept σ ρ s) :
    Kept σ ρ (State.markCount s n i k) := by
  unfold State.markCount
  exact Kept.sets (hk0)

theorem portCount_kept {σ : Scope} {ρ : State} {s : State} {n : ℕ} {i : ℕ} {k : ℕ} (hk0 : Kept σ ρ s) (h101 : σ.fld (pPORT n) (portCtr i)) :
    Kept σ ρ (State.portCount s n i k) := by
  unfold State.portCount
  exact bumpBy_kept (markCount_kept (hk0)) h101

theorem capture_kept {σ : Scope} {ρ : State} {s : State} {n : ℕ} {ft : Fate} {f : Frame} (hk0 : Kept σ ρ s) (h101 : σ.part .sw = true) (h102 : σ.part .mem = true) (h103 : σ.fld pCAPTURE F.CAPTURE.LOST.COUNT) (h104 : σ.fld pCAPTURE (Fld.mk 12 9 1)) (h105 : σ.fld pCAPTURE F.CAPTURE.WR_SEQ.SEQ) (h106 : σ.fld pCAPTURE (Fld.mk 12 8 1)) :
    Kept σ ρ (State.capture s n ft f) := by
  unfold State.capture
  exact Kept.ite (hk0) ((by (try dsimp only); split; exacts [hk0, Kept.ite (event_kept (bump_kept (hk0) h103) h104) (Kept.cut (fun k1 => Kept.cut (fun k7 => Kept.ite (event_kept (k7) h106) (k7)) (bump_kept (stBytes_kept (Kept.ite (nextFree_kept (k1)) (k1)) h102) h105)) (Kept.sw (hk0) h101))]))

theorem dropCopy_kept {σ : Scope} {ρ : State} {s : State} {q : QFrame} {ctr : ℕ} {reason : ℕ} (hk0 : Kept σ ρ s) (h101 : σ.part .sw = true) (h102 : σ.part .mem = true) (h103 : σ.fld (pPORT q.port) (portCtr ctr)) (h104 : σ.fld (pPORT q.port) (portCtr 14)) (h105 : σ.fld pCAPTURE F.CAPTURE.LOST.COUNT) (h106 : σ.fld pCAPTURE (Fld.mk 12 9 1)) (h107 : σ.fld pCAPTURE F.CAPTURE.WR_SEQ.SEQ) (h108 : σ.fld pCAPTURE (Fld.mk 12 8 1)) :
    Kept σ ρ (State.dropCopy s q ctr reason) := by
  unfold State.dropCopy
  exact Kept.cut (fun k1 => capture_kept (Kept.ite (portCount_kept (k1) h104) (k1)) h101 h102 h105 h106 h107 h108) (portCount_kept (hk0) h103)

theorem roomMark_kept {σ : Scope} {ρ : State} {s : State} (hk0 : Kept σ ρ s) (h101 : σ.part .sw = true) (h102 : σ.fld pBUFMEM (Fld.mk 12 13 1)) :
    Kept σ ρ (State.roomMark s) := by
  unfold State.roomMark
  exact Kept.cut (fun k1 => Kept.ite (event_kept (k1) h102) (k1)) (Kept.sw (hk0) h101)

theorem rhGo_kept {σ : Scope} {ρ : State} {s : State} (hk0 : Kept σ ρ s) (h101 : σ.part .bridge = true) :
    Kept σ ρ (State.rhGo s) := by
  unfold State.rhGo
  exact Kept.ite (hk0) (Kept.bridge (hk0) h101)

theorem postRh_kept {σ : Scope} {ρ : State} {s : State} {m : HostMsg} (hk0 : Kept σ ρ s) (h101 : σ.part .bridge = true) :
    Kept σ ρ (State.postRh s m) := by
  unfold State.postRh
  exact rhGo_kept (Kept.bridge (hk0) h101) h101

theorem post_kept {σ : Scope} {ρ : State} {s : State} {m : HostMsg} (hk0 : Kept σ ρ s) (h101 : σ.part .bridge = true) :
    Kept σ ρ (State.post s m) := by
  unfold State.post
  exact Kept.bridge (hk0) h101

theorem storeFrame_kept {σ : Scope} {ρ : State} {s : State} {f : Frame} (hk0 : Kept σ ρ s) (h101 : σ.part .sw = true) :
    Kept σ ρ (State.storeFrame s f).1 := by
  unfold State.storeFrame
  exact Kept.sw (hk0) h101

theorem noPath_kept {σ : Scope} {ρ : State} {s : State} (hk0 : Kept σ ρ s) (h101 : σ.fld pSWITCH F.SWITCH.NOPATH.COUNT) (h102 : σ.fld pSWITCH (Fld.mk 12 11 1)) :
    Kept σ ρ (State.noPath s) := by
  unfold State.noPath
  exact event_kept (bump_kept (hk0) h101) h102

theorem hsrTag_kept {σ : Scope} {ρ : State} {s : State} {f : Frame} (hk0 : Kept σ ρ s) (h101 : σ.fld pHSR F.HSR.SEQ.NEXT) :
    Kept σ ρ (State.hsrTag s f).1 := by
  unfold State.hsrTag
  exact Kept.iteFst (set_kept (hk0) h101) (hk0)

theorem bufDrop_kept {σ : Scope} {ρ : State} {s : State} (hk0 : Kept σ ρ s) (h101 : σ.fld pSWITCH F.SWITCH.BUF_DROP.COUNT) (h102 : σ.fld pSWITCH (Fld.mk 12 9 1)) :
    Kept σ ρ (State.bufDrop s) := by
  unfold State.bufDrop
  exact event_kept (bump_kept (hk0) h101) h102

theorem rhWrite_kept {σ : Scope} {ρ : State} {s : State} {a : ℕ} {d : List Byte} (hk0 : Kept σ ρ s) (h101 : σ.part .bridge = true) :
    Kept σ ρ (State.rhWrite s a d) := by
  unfold State.rhWrite
  exact Kept.foldl (fun x0 a1 k2 => postRh_kept (k2) h101) _ _ (hk0)

theorem hostDeliver_kept {σ : Scope} {ρ : State} {s : State} {n : ℕ} {stamp : Option ℕ} {f : Frame} (hk0 : Kept σ ρ s) (h101 : σ.part .bridge = true) (h102 : σ.fld pBRIDGE F.BRIDGE.RXDROP.COUNT) (h103 : σ.fld pBRIDGE (Fld.mk 12 12 1)) (h104 : σ.fld pBRIDGE (Fld.mk 12 10 1)) :
    Kept σ ρ (State.hostDeliver s n stamp f) := by
  unfold State.hostDeliver
  exact Kept.ite (hk0) (Kept.ite (event_kept (bump_kept (hk0) h102) h103) (event_kept (Kept.bridge (rhWrite_kept (rhWrite_kept (hk0) h101) h101) h101) h104))

theorem enqueue_kept {σ : Scope} {ρ : State} {s : State} {q : QFrame} (hk0 : Kept σ ρ s) (h101 : σ.part .sw = true) (h102 : σ.part .mem = true) (h103 : σ.fld (pPORT q.port) (portCtr 17)) (h104 : σ.fld (pPORT q.port) (portCtr 14)) (h105 : σ.fld pCAPTURE F.CAPTURE.LOST.COUNT) (h106 : σ.fld pCAPTURE (Fld.mk 12 9 1)) (h107 : σ.fld pCAPTURE F.CAPTURE.WR_SEQ.SEQ) (h108 : σ.fld pCAPTURE (Fld.mk 12 8 1)) (h109 : σ.fld (pPORT q.port) (portCtr 12)) (h110 : σ.fld pBUFMEM (Fld.mk 12 13 1)) :
    Kept σ ρ (State.enqueue s q) := by
  unfold State.enqueue
  exact Kept.ite (dropCopy_kept (hk0) h101 h102 h103 h104 h105 h106 h107 h108) (Kept.ite (dropCopy_kept (hk0) h101 h102 h109 h104 h105 h106 h107 h108) (roomMark_kept (Kept.sw (hk0) h101) h101 h110))

theorem sendForms_kept {σ : Scope} {ρ : State} {s : State} {f : Frame} {l : List (ℕ × Frame)} {q : Option ℕ} {tag : Option ℕ} (hk0 : Kept σ ρ s) (h101 : σ.part .sw = true) (h102 : σ.part .mem = true) (h103 : σ.fld pSWITCH F.SWITCH.BUF_DROP.COUNT) (h104 : σ.fld pSWITCH (Fld.mk 12 9 1)) (h105 : ∀ n, σ.page (pPORT n)) (h106 : σ.fld pCAPTURE F.CAPTURE.LOST.COUNT) (h107 : σ.fld pCAPTURE (Fld.mk 12 9 1)) (h108 : σ.fld pCAPTURE F.CAPTURE.WR_SEQ.SEQ) (h109 : σ.fld pCAPTURE (Fld.mk 12 8 1)) (h110 : σ.fld pBUFMEM (Fld.mk 12 13 1)) :
    Kept σ ρ (State.sendForms s f l q tag) := by
  unfold State.sendForms
  exact Kept.ite (bufDrop_kept (hk0) h103 h104) (Kept.foldl (fun x0 a1 k2 => enqueue_kept (k2) h101 h102 (h105 _).fld (h105 _).fld h106 h107 h108 h109 (h105 _).fld h110) _ _ (storeFrame_kept (hk0) h101))

theorem sendCopies_kept {σ : Scope} {ρ : State} {s : State} {ports : List ℕ} {f0 : Frame} {q : Option ℕ} {tag : Option ℕ} (hk0 : Kept σ ρ s) (h101 : σ.part .sw = true) (h102 : σ.part .mem = true) (h103 : σ.fld pSWITCH F.SWITCH.BUF_DROP.COUNT) (h104 : σ.fld pSWITCH (Fld.mk 12 9 1)) (h105 : ∀ n, σ.page (pPORT n)) (h106 : σ.fld pCAPTURE F.CAPTURE.LOST.COUNT) (h107 : σ.fld pCAPTURE (Fld.mk 12 9 1)) (h108 : σ.fld pCAPTURE F.CAPTURE.WR_SEQ.SEQ) (h109 : σ.fld pCAPTURE (Fld.mk 12 8 1)) (h110 : σ.fld pBUFMEM (Fld.mk 12 13 1)) :
    Kept σ ρ (State.sendCopies s ports f0 q tag) := by
  unfold State.sendCopies
  exact sendForms_kept (hk0) h101 h102 h103 h104 h105 h106 h107 h108 h109 h110

theorem sendMember_kept {σ : Scope} {ρ : State} {s : State} {k : ℕ} {f : Frame} {q : Option ℕ} (hk0 : Kept σ ρ s) (h101 : σ.part .sw = true) (h102 : σ.part .mem = true) (h103 : σ.fld pSWITCH F.SWITCH.BUF_DROP.COUNT) (h104 : σ.fld pSWITCH (Fld.mk 12 9 1)) (h105 : ∀ n, σ.page (pPORT n)) (h106 : σ.fld pCAPTURE F.CAPTURE.LOST.COUNT) (h107 : σ.fld pCAPTURE (Fld.mk 12 9 1)) (h108 : σ.fld pCAPTURE F.CAPTURE.WR_SEQ.SEQ) (h109 : σ.fld pCAPTURE (Fld.mk 12 8 1)) (h110 : σ.fld pBUFMEM (Fld.mk 12 13 1)) (h111 : σ.fld pSWITCH F.SWITCH.NOPATH.COUNT) (h112 : σ.fld pSWITCH (Fld.mk 12 11 1)) :
    Kept σ ρ (State.sendMember s k f q) := by
  unfold State.sendMember
  exact (by split; exacts [sendCopies_kept (hk0) h101 h102 h103 h104 h105 h106 h107 h108 h109 h110, noPath_kept (hk0) h111 h112])

theorem sendRing_kept {σ : Scope} {ρ : State} {s : State} {f : Frame} (hk0 : Kept σ ρ s) (h101 : σ.part .sw = true) (h102 : σ.part .mem = true) (h103 : σ.fld pHSR F.HSR.SEQ.NEXT) (h104 : σ.fld pSWITCH F.SWITCH.BUF_DROP.COUNT) (h105 : σ.fld pSWITCH (Fld.mk 12 9 1)) (h106 : ∀ n, σ.page (pPORT n)) (h107 : σ.fld pCAPTURE F.CAPTURE.LOST.COUNT) (h108 : σ.fld pCAPTURE (Fld.mk 12 9 1)) (h109 : σ.fld pCAPTURE F.CAPTURE.WR_SEQ.SEQ) (h110 : σ.fld pCAPTURE (Fld.mk 12 8 1)) (h111 : σ.fld pBUFMEM (Fld.mk 12 13 1)) (h112 : σ.fld pSWITCH F.SWITCH.NOPATH.COUNT) (h113 : σ.fld pSWITCH (Fld.mk 12 11 1)) :
    Kept σ ρ (State.sendRing s f) := by
  unfold State.sendRing
  exact Kept.ite (sendCopies_kept (hsrTag_kept (hk0) h103) h101 h102 h104 h105 h106 h107 h108 h109 h110 h111) (sendMember_kept (hk0) h101 h102 h104 h105 h106 h107 h108 h109 h110 h111 h112 h113)

theorem sendMgmt_kept {σ : Scope} {ρ : State} {s : State} {subkind : ℕ} {node : ℕ} {member : ℕ} {count : ℕ} {payload : List Byte} (hk0 : Kept σ ρ s) (h101 : σ.part .sw = true) (h102 : σ.part .mem = true) (h103 : σ.fld pHSR F.HSR.SEQ.NEXT) (h104 : σ.fld pSWITCH F.SWITCH.BUF_DROP.COUNT) (h105 : σ.fld pSWITCH (Fld.mk 12 9 1)) (h106 : ∀ n, σ.page (pPORT n)) (h107 : σ.fld pCAPTURE F.CAPTURE.LOST.COUNT) (h108 : σ.fld pCAPTURE (Fld.mk 12 9 1)) (h109 : σ.fld pCAPTURE F.CAPTURE.WR_SEQ.SEQ) (h110 : σ.fld pCAPTURE (Fld.mk 12 8 1)) (h111 : σ.fld pBUFMEM (Fld.mk 12 13 1)) (h112 : σ.fld pSWITCH F.SWITCH.NOPATH.COUNT) (h113 : σ.fld pSWITCH (Fld.mk 12 11 1)) :
    Kept σ ρ (State.sendMgmt s subkind node member count payload) := by
  unfold State.sendMgmt
  exact sendRing_kept (hk0) h101 h102 h103 h104 h105 h106 h107 h108 h109 h110 h111 h112 h113

theorem sendNotice_kept {σ : Scope} {ρ : State} {s : State} {spec : List Byte} {payload : List Byte} (hk0 : Kept σ ρ s) (h101 : σ.part .sw = true) (h102 : σ.part .mem = true) (h103 : σ.fld pHSR F.HSR.SEQ.NEXT) (h104 : σ.fld pSWITCH F.SWITCH.BUF_DROP.COUNT) (h105 : σ.fld pSWITCH (Fld.mk 12 9 1)) (h106 : ∀ n, σ.page (pPORT n)) (h107 : σ.fld pCAPTURE F.CAPTURE.LOST.COUNT) (h108 : σ.fld pCAPTURE (Fld.mk 12 9 1)) (h109 : σ.fld pCAPTURE F.CAPTURE.WR_SEQ.SEQ) (h110 : σ.fld pCAPTURE (Fld.mk 12 8 1)) (h111 : σ.fld pBUFMEM (Fld.mk 12 13 1)) (h112 : σ.fld pSWITCH F.SWITCH.NOPATH.COUNT) (h113 : σ.fld pSWITCH (Fld.mk 12 11 1)) :
    Kept σ ρ (State.sendNotice s spec payload) := by
  unfold State.sendNotice
  exact sendRing_kept (hk0) h101 h102 h103 h104 h105 h106 h107 h108 h109 h110 h111 h112 h113

theorem actNote_kept {σ : Scope} {ρ : State} {s : State} {m : ℕ} {k : ℕ} (hk0 : Kept σ ρ s) (h101 : σ.part .gang = true) :
    Kept σ ρ (State.actNote s m k) := by
  unfold State.actNote
  exact Kept.ite (Kept.gang (hk0) h101) (Kept.ite (Kept.gang (hk0) h101) (hk0))

theorem fromQueues_kept {σ : Scope} {ρ : State} {s : State} (hk0 : Kept σ ρ s) (h101 : σ.part .book = true) :
    Kept σ ρ (State.fromQueues s).1 := by
  unfold State.fromQueues
  exact (by (try dsimp only); split; exacts [Kept.book (hk0) h101, (by split; exacts [Kept.book (hk0) h101, (by split; exacts [hk0, (by split; exacts [hk0, Kept.book (hk0) h101])])])])

theorem nextRec_kept {σ : Scope} {ρ : State} {s : State} (hk0 : Kept σ ρ s) (h101 : σ.part .book = true) :
    Kept σ ρ (State.nextRec s).1 := by
  unfold State.nextRec
  exact (by (try dsimp only); split; exacts [Kept.iteFst (fromQueues_kept (hk0) h101) (Kept.book (hk0) h101), (by split; exacts [Kept.iteFst (fromQueues_kept (hk0) h101) (Kept.book (hk0) h101), fromQueues_kept (hk0) h101])])

theorem reserveMark_kept {σ : Scope} {ρ : State} {s : State} {s0 : State} (hk0 : Kept σ ρ s) (h101 : σ.fld pBOOK (Fld.mk 12 9 1)) :
    Kept σ ρ (State.reserveMark s s0) := by
  unfold State.reserveMark
  exact Kept.ite (event_kept (hk0) h101) (hk0)

theorem lap_kept {σ : Scope} {ρ : State} {s : State} {d : DrainId} (hk0 : Kept σ ρ s) (h101 : σ.fld pBOOK F.BOOK.LAPPED.COUNT) (h102 : σ.fld pBOOK (Fld.mk 12 11 1)) (h103 : σ.fld pBOOK (drainSeq d)) :
    Kept σ ρ (State.lap s d) := by
  unfold State.lap
  exact Kept.ite (hk0) (set_kept (event_kept (bumpBy_kept (hk0) h101) h102) h103)

theorem setDrain_kept {σ : Scope} {ρ : State} {s : State} {d : DrainId} {v : Drain} (hk0 : Kept σ ρ s) (h101 : σ.part .book = true) :
    Kept σ ρ (State.setDrain s d v) := by
  unfold State.setDrain
  exact (by (try dsimp only); split; exacts [Kept.book (hk0) h101, Kept.book (hk0) h101, Kept.book (hk0) h101])

theorem syncDrain_kept {σ : Scope} {ρ : State} {s : State} {d : DrainId} (hk0 : Kept σ ρ s) (h101 : σ.part .book = true) (h102 : σ.fld pBOOK F.BOOK.LAPPED.COUNT) (h103 : σ.fld pBOOK (Fld.mk 12 11 1)) (h104 : σ.fld pBOOK (drainSeq d)) :
    Kept σ ρ (State.syncDrain s d) := by
  unfold State.syncDrain
  exact Kept.ite (Kept.ite (lap_kept (setDrain_kept (hk0) h101) h102 h103 h104) (set_kept (setDrain_kept (hk0) h101) h104)) (Kept.ite (setDrain_kept (hk0) h101) (hk0))

theorem syncDrains_kept {σ : Scope} {ρ : State} {s : State} (hk0 : Kept σ ρ s) (h101 : σ.part .book = true) (h102 : σ.fld pBOOK F.BOOK.LAPPED.COUNT) (h103 : σ.fld pBOOK (Fld.mk 12 11 1)) (h104 : σ.fld pBOOK (drainSeq DrainId.dma)) (h105 : σ.fld pBOOK (drainSeq DrainId.twin)) (h106 : σ.fld pBOOK (drainSeq DrainId.ring)) (h107 : σ.fld pBOOK (Fld.mk 12 9 1)) :
    Kept σ ρ (State.syncDrains s) := by
  unfold State.syncDrains
  exact reserveMark_kept (syncDrain_kept (syncDrain_kept (syncDrain_kept (hk0) h101 h102 h103 h104) h101 h102 h103 h105) h101 h102 h103 h106) h107

theorem putRec_kept {σ : Scope} {ρ : State} {s : State} {r : Rec} (hk0 : Kept σ ρ s) (h101 : σ.part .mem = true) (h102 : σ.part .book = true) (h103 : σ.fld pBOOK F.BOOK.WR_SEQ.SEQ) (h104 : σ.fld pBOOK F.BOOK.OLDEST.SEQ) :
    Kept σ ρ (State.putRec s r) := by
  unfold State.putRec
  exact Kept.cut (fun k1 => Kept.book (Kept.ite (set_kept (k1) h104) (k1)) h102) (set_kept (stBytes_kept (hk0) h101) h103)

theorem commitRec_kept {σ : Scope} {ρ : State} {s : State} {r : Rec} (hk0 : Kept σ ρ s) (h101 : σ.part .mem = true) (h102 : σ.part .book = true) (h103 : σ.part .pwr = true) (h104 : σ.fld pBOOK F.BOOK.WR_SEQ.SEQ) (h105 : σ.fld pBOOK F.BOOK.OLDEST.SEQ) (h106 : σ.fld pBOOK F.BOOK.LAPPED.COUNT) (h107 : σ.fld pBOOK (Fld.mk 12 11 1)) (h108 : σ.fld pBOOK (drainSeq DrainId.dma)) (h109 : σ.fld pBOOK (drainSeq DrainId.twin)) (h110 : σ.fld pBOOK (drainSeq DrainId.ring)) (h111 : σ.fld pBOOK (Fld.mk 12 9 1)) (h112 : σ.fld pSYS F.SYS.PSTATE.BUSY) :
    Kept σ ρ (State.commitRec s r) := by
  unfold State.commitRec
  exact Kept.cut (fun k1 => Kept.ite (watchWake_kept (k1) h103 h112) (k1)) (reserveMark_kept (syncDrains_kept (putRec_kept (hk0) h101 h102 h104 h105) h102 h106 h107 h108 h109 h110 h111) h111)

theorem grant_kept {σ : Scope} {ρ : State} {s : State} (hk0 : Kept σ ρ s) (h101 : σ.part .book = true) (h102 : σ.part .mem = true) (h103 : σ.part .pwr = true) (h104 : σ.fld pBOOK F.BOOK.SHADOW.DROP) (h105 : σ.fld pBOOK (Fld.mk 12 12 1)) (h106 : σ.fld pBOOK F.BOOK.DISCARD.COUNT) (h107 : ∀ n, σ.page (pEDGE n)) (h108 : σ.fld pBOOK F.BOOK.DISCARD_SYS.COUNT) (h109 : σ.fld pBOOK (Fld.mk 12 8 1)) (h110 : σ.fld pBOOK F.BOOK.WR_SEQ.SEQ) (h111 : σ.fld pBOOK F.BOOK.OLDEST.SEQ) (h112 : σ.fld pBOOK F.BOOK.LAPPED.COUNT) (h113 : σ.fld pBOOK (Fld.mk 12 11 1)) (h114 : σ.fld pBOOK (drainSeq DrainId.dma)) (h115 : σ.fld pBOOK (drainSeq DrainId.twin)) (h116 : σ.fld pBOOK (drainSeq DrainId.ring)) (h117 : σ.fld pBOOK (Fld.mk 12 9 1)) (h118 : σ.fld pSYS F.SYS.PSTATE.BUSY) :
    Kept σ ρ (State.grant s) := by
  unfold State.grant
  exact (by (try dsimp only); split; exacts [hk0, Kept.ite (shadowAdd_kept (nextRec_kept (hk0) h101) h101 h104 h105) (Kept.ite (discardRec_kept (nextRec_kept (hk0) h101) h101 h106 (h107 _).fld (h107 _).fld h108 h109) (Kept.ite (commitRec_kept (nextRec_kept (hk0) h101) h102 h101 h103 h110 h111 h112 h113 h114 h115 h116 h117 h118) (hk0)))])

theorem frontIn_kept {σ : Scope} {ρ : State} {s : State} {rs : List Rec} (hk0 : Kept σ ρ s) (h101 : σ.part .book = true) (h102 : σ.part .mem = true) (h103 : σ.part .pwr = true) (h104 : σ.fld pBOOK F.BOOK.SHADOW.DROP) (h105 : σ.fld pBOOK (Fld.mk 12 12 1)) (h106 : σ.fld pBOOK F.BOOK.DISCARD.COUNT) (h107 : ∀ n, σ.page (pEDGE n)) (h108 : σ.fld pBOOK F.BOOK.DISCARD_SYS.COUNT) (h109 : σ.fld pBOOK (Fld.mk 12 8 1)) (h110 : σ.fld pBOOK F.BOOK.WR_SEQ.SEQ) (h111 : σ.fld pBOOK F.BOOK.OLDEST.SEQ) (h112 : σ.fld pBOOK F.BOOK.LAPPED.COUNT) (h113 : σ.fld pBOOK (Fld.mk 12 11 1)) (h114 : σ.fld pBOOK (drainSeq DrainId.dma)) (h115 : σ.fld pBOOK (drainSeq DrainId.twin)) (h116 : σ.fld pBOOK (drainSeq DrainId.ring)) (h117 : σ.fld pBOOK (Fld.mk 12 9 1)) (h118 : σ.fld pSYS F.SYS.PSTATE.BUSY) :
    Kept σ ρ (State.frontIn s rs) := by
  unfold State.frontIn
  exact Kept.cut (fun k1 => Kept.ite (grant_kept (grant_kept (grant_kept (grant_kept (grant_kept (k1) h101 h102 h103 h104 h105 h106 h107 h108 h109 h110 h111 h112 h113 h114 h115 h116 h117 h118) h101 h102 h103 h104 h105 h106 h107 h108 h109 h110 h111 h112 h113 h114 h115 h116 h117 h118) h101 h102 h103 h104 h105 h106 h107 h108 h109 h110 h111 h112 h113 h114 h115 h116 h117 h118) h101 h102 h103 h104 h105 h106 h107 h108 h109 h110 h111 h112 h113 h114 h115 h116 h117 h118) h101 h102 h103 h104 h105 h106 h107 h108 h109 h110 h111 h112 h113 h114 h115 h116 h117 h118) (k1)) (Kept.book (hk0) h101)

theorem bookOn_kept {σ : Scope} {ρ : State} {s : State} (hk0 : Kept σ ρ s) (h101 : σ.part .book = true) (h102 : σ.part .mem = true) (h103 : σ.part .pwr = true) (h104 : σ.fld pBOOK F.BOOK.SHADOW.DROP) (h105 : σ.fld pBOOK (Fld.mk 12 12 1)) (h106 : σ.fld pBOOK F.BOOK.LAPPED.COUNT) (h107 : σ.fld pBOOK (Fld.mk 12 11 1)) (h108 : σ.fld pBOOK (drainSeq DrainId.dma)) (h109 : σ.fld pBOOK (drainSeq DrainId.twin)) (h110 : σ.fld pBOOK (drainSeq DrainId.ring)) (h111 : σ.fld pBOOK (Fld.mk 12 9 1)) (h112 : σ.fld pBOOK F.BOOK.DISCARD.COUNT) (h113 : ∀ n, σ.page (pEDGE n)) (h114 : σ.fld pBOOK F.BOOK.DISCARD_SYS.COUNT) (h115 : σ.fld pBOOK (Fld.mk 12 8 1)) (h116 : σ.fld pBOOK F.BOOK.WR_SEQ.SEQ) (h117 : σ.fld pBOOK F.BOOK.OLDEST.SEQ) (h118 : σ.fld pSYS F.SYS.PSTATE.BUSY) :
    Kept σ ρ (State.bookOn s) := by
  unfold State.bookOn
  exact Kept.cut (fun k1 => Kept.ite (k1) (Kept.cut (fun k3 => Kept.ite (Kept.foldl (fun x4 a5 k6 => shadowAdd_kept (k6) h101 h104 h105) _ _ (k3)) (frontIn_kept (syncDrains_kept (k3) h101 h106 h107 h108 h109 h110 h111) h101 h102 h103 h104 h105 h112 h113 h114 h115 h116 h117 h106 h107 h108 h109 h110 h111 h118)) (Kept.book (k1) h101))) (Kept.book (hk0) h101)

theorem drainsOf_kept {σ : Scope} {ρ : State} {s : State} {p : ℕ} (hk0 : Kept σ ρ s) (h101 : σ.part .book = true) (h102 : σ.fld pBOOK F.BOOK.LAPPED.COUNT) (h103 : σ.fld pBOOK (Fld.mk 12 11 1)) (h104 : σ.fld pBOOK (drainSeq DrainId.dma)) (h105 : σ.fld pBOOK (drainSeq DrainId.twin)) (h106 : σ.fld pBOOK (drainSeq DrainId.ring)) (h107 : σ.fld pBOOK (Fld.mk 12 9 1)) :
    Kept σ ρ (State.drainsOf s p) := by
  unfold State.drainsOf
  exact Kept.ite (syncDrains_kept (hk0) h101 h102 h103 h104 h105 h106 h107) (hk0)

theorem bookOff_kept {σ : Scope} {ρ : State} {s : State} (hk0 : Kept σ ρ s) (h101 : σ.part .book = true) (h102 : σ.fld pBOOK F.BOOK.DISCARD.COUNT) (h103 : ∀ n, σ.page (pEDGE n)) (h104 : σ.fld pBOOK F.BOOK.DISCARD_SYS.COUNT) :
    Kept σ ρ (State.bookOff s) := by
  unfold State.bookOff
  exact Kept.book (Kept.foldl (fun x5 a6 k7 => countDiscard_kept (k7) h102 (h103 _).fld (h103 _).fld h104) _ _ (hk0)) h101

theorem bookClr_kept {σ : Scope} {ρ : State} {s : State} {seq : ℕ} (hk0 : Kept σ ρ s) (h101 : σ.part .mem = true) (h102 : σ.part .book = true) (h103 : σ.fld pBOOK F.BOOK.WR_SEQ.SEQ) (h104 : σ.fld pBOOK F.BOOK.OLDEST.SEQ) :
    Kept σ ρ (State.bookClr s seq) := by
  unfold State.bookClr
  exact set_kept (set_kept (Kept.book (Kept.mem (hk0) h101 (tabWf_filter _ _ _)) h102) h103) h104

theorem bookCopy_kept {σ : Scope} {ρ : State} {s : State} {b : List Byte} (hk0 : Kept σ ρ s) (h101 : σ.part .mem = true) (h102 : σ.part .book = true) (h103 : σ.fld pBOOK F.BOOK.WR_SEQ.SEQ) (h104 : σ.fld pBOOK F.BOOK.OLDEST.SEQ) (h105 : σ.fld pBOOK F.BOOK.LAPPED.COUNT) (h106 : σ.fld pBOOK (Fld.mk 12 11 1)) (h107 : σ.fld pBOOK (drainSeq DrainId.dma)) (h108 : σ.fld pBOOK (drainSeq DrainId.twin)) (h109 : σ.fld pBOOK (drainSeq DrainId.ring)) (h110 : σ.fld pBOOK (Fld.mk 12 9 1)) :
    Kept σ ρ (State.bookCopy s b) := by
  unfold State.bookCopy
  exact reserveMark_kept (syncDrains_kept (Kept.book (set_kept (set_kept (stBytes_kept (hk0) h101) h103) h104) h102) h102 h105 h106 h107 h108 h109 h110) h110

theorem bookCommit_kept {σ : Scope} {ρ : State} {s : State} (hk0 : Kept σ ρ s) (h101 : σ.part .book = true) (h102 : σ.part .mem = true) (h103 : σ.part .pwr = true) (h104 : σ.fld pBOOK F.BOOK.LAPPED.COUNT) (h105 : σ.fld pBOOK (Fld.mk 12 11 1)) (h106 : σ.fld pBOOK (drainSeq DrainId.dma)) (h107 : σ.fld pBOOK (drainSeq DrainId.twin)) (h108 : σ.fld pBOOK (drainSeq DrainId.ring)) (h109 : σ.fld pBOOK (Fld.mk 12 9 1)) (h110 : σ.fld pBOOK F.BOOK.SHADOW.DROP) (h111 : σ.fld pBOOK (Fld.mk 12 12 1)) (h112 : σ.fld pBOOK F.BOOK.DISCARD.COUNT) (h113 : ∀ n, σ.page (pEDGE n)) (h114 : σ.fld pBOOK F.BOOK.DISCARD_SYS.COUNT) (h115 : σ.fld pBOOK (Fld.mk 12 8 1)) (h116 : σ.fld pBOOK F.BOOK.WR_SEQ.SEQ) (h117 : σ.fld pBOOK F.BOOK.OLDEST.SEQ) (h118 : σ.fld pSYS F.SYS.PSTATE.BUSY) :
    Kept σ ρ (State.bookCommit s) := by
  unfold State.bookCommit
  exact Kept.cut (fun k1 => Kept.ite (grant_kept (k1) h101 h102 h103 h110 h111 h112 h113 h114 h115 h116 h117 h104 h105 h106 h107 h108 h109 h118) (k1)) (syncDrains_kept (hk0) h101 h104 h105 h106 h107 h108 h109)

theorem bookTakeover_kept {σ : Scope} {ρ : State} {s : State} {switch : Rec} (hk0 : Kept σ ρ s) (h101 : σ.part .book = true) (h102 : σ.part .mem = true) (h103 : σ.part .pwr = true) (h104 : σ.fld pBOOK F.BOOK.WR_SEQ.SEQ) (h105 : σ.fld pBOOK F.BOOK.OLDEST.SEQ) (h106 : σ.fld pBOOK F.BOOK.SHADOW.DROP) (h107 : σ.fld pBOOK (Fld.mk 12 12 1)) (h108 : σ.fld pBOOK F.BOOK.DISCARD.COUNT) (h109 : ∀ n, σ.page (pEDGE n)) (h110 : σ.fld pBOOK F.BOOK.DISCARD_SYS.COUNT) (h111 : σ.fld pBOOK (Fld.mk 12 8 1)) (h112 : σ.fld pBOOK F.BOOK.LAPPED.COUNT) (h113 : σ.fld pBOOK (Fld.mk 12 11 1)) (h114 : σ.fld pBOOK (drainSeq DrainId.dma)) (h115 : σ.fld pBOOK (drainSeq DrainId.twin)) (h116 : σ.fld pBOOK (drainSeq DrainId.ring)) (h117 : σ.fld pBOOK (Fld.mk 12 9 1)) (h118 : σ.fld pSYS F.SYS.PSTATE.BUSY) :
    Kept σ ρ (State.bookTakeover s switch) := by
  unfold State.bookTakeover
  exact Kept.cut (fun k5 => Kept.ite (frontIn_kept (k5) h101 h102 h103 h106 h107 h108 h109 h110 h111 h104 h105 h112 h113 h114 h115 h116 h117 h118) (k5)) (Kept.book (set_kept (set_kept (hk0) h104) h105) h101)

theorem dmaPost_kept {σ : Scope} {ρ s : State} {n : Nat} (h : Kept σ ρ s) (hb : σ.part .bridge = true)
    (hf : σ.fld pBOOK F.BOOK.DMA_SEQ.SEQ) : Kept σ ρ (s.dmaPost n) := by
  induction n generalizing s with
  | zero => exact h
  | succ n ih => exact ih (set_kept (rhWrite_kept h hb) hf)

theorem dmaBurst_kept {σ : Scope} {ρ : State} {s : State} (hk0 : Kept σ ρ s) (h101 : σ.part .book = true) (h102 : σ.part .bridge = true) (h103 : σ.fld pBOOK F.BOOK.LAPPED.COUNT) (h104 : σ.fld pBOOK (Fld.mk 12 11 1)) (h105 : σ.fld pBOOK (drainSeq DrainId.dma)) (h106 : σ.fld pBOOK (drainSeq DrainId.twin)) (h107 : σ.fld pBOOK (drainSeq DrainId.ring)) (h108 : σ.fld pBOOK (Fld.mk 12 9 1)) (h109 : σ.fld pBOOK F.BOOK.DMA_SEQ.SEQ) (h110 : σ.fld pBOOK (Fld.mk 12 10 1)) :
    Kept σ ρ (State.dmaBurst s) := by
  unfold State.dmaBurst
  exact Kept.cut (fun k1 => Kept.ite (event_kept (rhWrite_kept (dmaPost_kept (k1) h102 h109) h102) h110) (k1)) (syncDrains_kept (hk0) h101 h103 h104 h105 h106 h107 h108)

theorem overflowOut_kept {σ : Scope} {ρ : State} {s : State} {r : Rec} (hk0 : Kept σ ρ s) (h101 : σ.part .book = true) (h102 : σ.part .mem = true) (h103 : σ.part .pwr = true) (h104 : σ.fld pBOOK F.BOOK.SHADOW.DROP) (h105 : σ.fld pBOOK (Fld.mk 12 12 1)) (h106 : σ.fld pBOOK F.BOOK.DISCARD.COUNT) (h107 : ∀ n, σ.page (pEDGE n)) (h108 : σ.fld pBOOK F.BOOK.DISCARD_SYS.COUNT) (h109 : σ.fld pBOOK (Fld.mk 12 8 1)) (h110 : σ.fld pBOOK F.BOOK.WR_SEQ.SEQ) (h111 : σ.fld pBOOK F.BOOK.OLDEST.SEQ) (h112 : σ.fld pBOOK F.BOOK.LAPPED.COUNT) (h113 : σ.fld pBOOK (Fld.mk 12 11 1)) (h114 : σ.fld pBOOK (drainSeq DrainId.dma)) (h115 : σ.fld pBOOK (drainSeq DrainId.twin)) (h116 : σ.fld pBOOK (drainSeq DrainId.ring)) (h117 : σ.fld pBOOK (Fld.mk 12 9 1)) (h118 : σ.fld pSYS F.SYS.PSTATE.BUSY) :
    Kept σ ρ (State.overflowOut s r) := by
  unfold State.overflowOut
  exact Kept.cut (fun k1 => Kept.ite (grant_kept (k1) h101 h102 h103 h104 h105 h106 h107 h108 h109 h110 h111 h112 h113 h114 h115 h116 h117 h118) (k1)) (Kept.book (hk0) h101)

theorem episodeEnd_kept {σ : Scope} {ρ : State} {s : State} (hk0 : Kept σ ρ s) (h101 : σ.part .book = true) (h102 : σ.part .mem = true) (h103 : σ.part .pwr = true) (h104 : σ.fld pBOOK F.BOOK.LAPPED.COUNT) (h105 : σ.fld pBOOK (Fld.mk 12 11 1)) (h106 : σ.fld pBOOK (drainSeq DrainId.dma)) (h107 : σ.fld pBOOK (drainSeq DrainId.twin)) (h108 : σ.fld pBOOK (drainSeq DrainId.ring)) (h109 : σ.fld pBOOK (Fld.mk 12 9 1)) (h110 : σ.fld pBOOK F.BOOK.SHADOW.DROP) (h111 : σ.fld pBOOK (Fld.mk 12 12 1)) (h112 : σ.fld pBOOK F.BOOK.DISCARD.COUNT) (h113 : ∀ n, σ.page (pEDGE n)) (h114 : σ.fld pBOOK F.BOOK.DISCARD_SYS.COUNT) (h115 : σ.fld pBOOK (Fld.mk 12 8 1)) (h116 : σ.fld pBOOK F.BOOK.WR_SEQ.SEQ) (h117 : σ.fld pBOOK F.BOOK.OLDEST.SEQ) (h118 : σ.fld pSYS F.SYS.PSTATE.BUSY) :
    Kept σ ρ (State.episodeEnd s) := by
  unfold State.episodeEnd
  exact (by (try dsimp only); split; exacts [hk0, overflowOut_kept (syncDrains_kept (Kept.book (advanceT_kept (hk0)) h101) h101 h104 h105 h106 h107 h108 h109) h101 h102 h103 h110 h111 h112 h113 h114 h115 h116 h117 h104 h105 h106 h107 h108 h109 h118])

theorem frameSend_kept {σ : Scope} {ρ : State} {s : State} (hk0 : Kept σ ρ s) (h101 : σ.part .book = true) (h102 : σ.part .sw = true) (h103 : σ.part .mem = true) (h104 : σ.page pBOOK) (h105 : σ.page pHSR) (h106 : σ.page pSWITCH) (h107 : ∀ n, σ.page (pPORT n)) (h108 : σ.page pCAPTURE) (h109 : σ.page pBUFMEM) :
    Kept σ ρ (State.frameSend s) := by
  unfold State.frameSend
  exact Kept.cut (fun k1 => Kept.ite (sendRing_kept (bump_kept (set_kept (k1) h104.fld) h104.fld) h102 h103 h105.fld h106.fld h106.fld h107 h108.fld h108.fld h108.fld h108.fld h109.fld h106.fld h106.fld) (k1)) (syncDrains_kept (hk0) h101 h104.fld h104.fld h104.fld h104.fld h104.fld h104.fld)

theorem execBookCommit_kept {σ : Scope} {clk : ℕ} {s : State} (h101 : σ.part .book = true) (h102 : σ.part .mem = true) (h103 : σ.part .pwr = true) (h104 : σ.fld pBOOK F.BOOK.LAPPED.COUNT) (h105 : σ.fld pBOOK (Fld.mk 12 11 1)) (h106 : σ.fld pBOOK (drainSeq DrainId.dma)) (h107 : σ.fld pBOOK (drainSeq DrainId.twin)) (h108 : σ.fld pBOOK (drainSeq DrainId.ring)) (h109 : σ.fld pBOOK (Fld.mk 12 9 1)) (h110 : σ.fld pBOOK F.BOOK.SHADOW.DROP) (h111 : σ.fld pBOOK (Fld.mk 12 12 1)) (h112 : σ.fld pBOOK F.BOOK.DISCARD.COUNT) (h113 : ∀ n, σ.page (pEDGE n)) (h114 : σ.fld pBOOK F.BOOK.DISCARD_SYS.COUNT) (h115 : σ.fld pBOOK (Fld.mk 12 8 1)) (h116 : σ.fld pBOOK F.BOOK.WR_SEQ.SEQ) (h117 : σ.fld pBOOK F.BOOK.OLDEST.SEQ) (h118 : σ.fld pSYS F.SYS.PSTATE.BUSY) :
    KeptNext σ s (execBookCommit clk s) := by
  unfold execBookCommit
  exact KeptNext.next (bookCommit_kept (advance_kept (Kept.refl σ s)) h101 h102 h103 h104 h105 h106 h107 h108 h109 h110 h111 h112 h113 h114 h115 h116 h117 h118)

theorem execBookDmaBurst_kept {σ : Scope} {clk : ℕ} {s : State} (h101 : σ.part .book = true) (h102 : σ.part .bridge = true) (h103 : σ.fld pBOOK F.BOOK.LAPPED.COUNT) (h104 : σ.fld pBOOK (Fld.mk 12 11 1)) (h105 : σ.fld pBOOK (drainSeq DrainId.dma)) (h106 : σ.fld pBOOK (drainSeq DrainId.twin)) (h107 : σ.fld pBOOK (drainSeq DrainId.ring)) (h108 : σ.fld pBOOK (Fld.mk 12 9 1)) (h109 : σ.fld pBOOK F.BOOK.DMA_SEQ.SEQ) (h110 : σ.fld pBOOK (Fld.mk 12 10 1)) :
    KeptNext σ s (execBookDmaBurst clk s) := by
  unfold execBookDmaBurst
  exact KeptNext.next (dmaBurst_kept (advance_kept (Kept.refl σ s)) h101 h102 h103 h104 h105 h106 h107 h108 h109 h110)

theorem execBookFrameSend_kept {σ : Scope} {clk : ℕ} {s : State} (h101 : σ.part .book = true) (h102 : σ.part .sw = true) (h103 : σ.part .mem = true) (h104 : σ.page pBOOK) (h105 : σ.page pHSR) (h106 : σ.page pSWITCH) (h107 : ∀ n, σ.page (pPORT n)) (h108 : σ.page pCAPTURE) (h109 : σ.page pBUFMEM) :
    KeptNext σ s (execBookFrameSend clk s) := by
  unfold execBookFrameSend
  exact KeptNext.next (frameSend_kept (advance_kept (Kept.refl σ s)) h101 h102 h103 h104 h105 h106 h107 h108 h109)

theorem execDiscardEpisodeEnd_kept {σ : Scope} {s : State} (h101 : σ.part .book = true) (h102 : σ.part .mem = true) (h103 : σ.part .pwr = true) (h104 : σ.fld pBOOK F.BOOK.LAPPED.COUNT) (h105 : σ.fld pBOOK (Fld.mk 12 11 1)) (h106 : σ.fld pBOOK (drainSeq DrainId.dma)) (h107 : σ.fld pBOOK (drainSeq DrainId.twin)) (h108 : σ.fld pBOOK (drainSeq DrainId.ring)) (h109 : σ.fld pBOOK (Fld.mk 12 9 1)) (h110 : σ.fld pBOOK F.BOOK.SHADOW.DROP) (h111 : σ.fld pBOOK (Fld.mk 12 12 1)) (h112 : σ.fld pBOOK F.BOOK.DISCARD.COUNT) (h113 : ∀ n, σ.page (pEDGE n)) (h114 : σ.fld pBOOK F.BOOK.DISCARD_SYS.COUNT) (h115 : σ.fld pBOOK (Fld.mk 12 8 1)) (h116 : σ.fld pBOOK F.BOOK.WR_SEQ.SEQ) (h117 : σ.fld pBOOK F.BOOK.OLDEST.SEQ) (h118 : σ.fld pSYS F.SYS.PSTATE.BUSY) :
    KeptNext σ s (execDiscardEpisodeEnd s) := by
  unfold execDiscardEpisodeEnd
  exact KeptNext.next (episodeEnd_kept (Kept.refl σ s) h101 h102 h103 h104 h105 h106 h107 h108 h109 h110 h111 h112 h113 h114 h115 h116 h117 h118)

end Sys2Proof.Laws
end

