-- ==== Sys2Proof/Laws/Kept03.lean ====
section
/-!
SUPPORT. What the operations and commands of these files keep: Machine/Tally, Machine/Twin, Machine/Buffer, Machine/Ports.
-/

namespace Sys2Proof.Laws

open Sys2Proof Sys2Proof.Machine

theorem planEnd_kept {σ : Scope} {ρ : State} {s : State} {timeout : Bool} (hk0 : Kept σ ρ s) (h101 : σ.Full) :
    Kept σ ρ (State.planEnd s timeout) := by
  unfold State.planEnd
  exact powerDown_kept (lastPlan_kept (hk0) (fun _ _ => h101.2 _) (fun _ _ => h101.2 _)) h101

theorem aComplete_kept {σ : Scope} {ρ : State} {s : State} (hk0 : Kept σ ρ s) (h101 : σ.Full) :
    Kept σ ρ (State.aComplete s) := by
  unfold State.aComplete
  exact Kept.ite (planEnd_kept (hk0) h101) (hk0)

theorem aTimeout_kept {σ : Scope} {ρ : State} {s : State} (hk0 : Kept σ ρ s) (h101 : σ.Full) :
    Kept σ ρ (State.aTimeout s) := by
  unfold State.aTimeout
  exact (by split; exacts [Kept.ite (planEnd_kept (advance_kept (hk0)) h101) (hk0), hk0])

theorem tallyCosts_kept {σ : Scope} {ρ : State} {s : State} (hk0 : Kept σ ρ s) (h101 : σ.fld pTALLY F.TALLY.PWR0.P_BASE) (h102 : σ.fld pTALLY F.TALLY.PWR0.P_A) (h103 : σ.fld pTALLY F.TALLY.PWR1.P_B) (h104 : σ.fld pTALLY F.TALLY.PWR1.P_C) (h105 : σ.fld pTALLY F.TALLY.PWR2.P_D) (h106 : σ.fld pTALLY F.TALLY.T_A_MIN.TIME) (h107 : σ.fld pTALLY F.TALLY.RES_A.UJ) (h108 : σ.fld pTALLY F.TALLY.RES_B.UJ) (h109 : σ.fld pTALLY F.TALLY.RES_C.UJ) (h110 : σ.fld pTALLY F.TALLY.RES_W.UJ) :
    Kept σ ρ (State.tallyCosts s) := by
  unfold State.tallyCosts
  exact set_kept (set_kept (set_kept (set_kept (set_kept (set_kept (set_kept (set_kept (set_kept (set_kept (hk0) h101) h102) h103) h104) h105) h106) h107) h108) h109) h110

theorem tallyOn_kept {σ : Scope} {ρ : State} {s : State} (hk0 : Kept σ ρ s) (h101 : σ.part .cal = true) (h102 : σ.part .tally = true) (h103 : σ.fld pTALLY F.TALLY.PWR0.P_BASE) (h104 : σ.fld pTALLY F.TALLY.PWR0.P_A) (h105 : σ.fld pTALLY F.TALLY.PWR1.P_B) (h106 : σ.fld pTALLY F.TALLY.PWR1.P_C) (h107 : σ.fld pTALLY F.TALLY.PWR2.P_D) (h108 : σ.fld pTALLY F.TALLY.T_A_MIN.TIME) (h109 : σ.fld pTALLY F.TALLY.RES_A.UJ) (h110 : σ.fld pTALLY F.TALLY.RES_B.UJ) (h111 : σ.fld pTALLY F.TALLY.RES_C.UJ) (h112 : σ.fld pTALLY F.TALLY.RES_W.UJ) :
    Kept σ ρ (State.tallyOn s) := by
  unfold State.tallyOn
  exact tallyCosts_kept (Kept.u_cal_tally (hk0) h101 h102 ) h103 h104 h105 h106 h107 h108 h109 h110 h111 h112

theorem tallyOff_kept {σ : Scope} {ρ : State} {s : State} (hk0 : Kept σ ρ s) (h101 : σ.part .tally = true) (h102 : σ.fld pTALLY F.TALLY.STS.PLAN) (h103 : σ.fld pTALLY F.TALLY.STS.SHED) (h104 : σ.fld pTALLY F.TALLY.STS.WARN) (h105 : σ.fld pTALLY F.TALLY.STS.LEARNING) (h106 : σ.fld pTALLY F.TALLY.CTL.LEARN) :
    Kept σ ρ (State.tallyOff s) := by
  unfold State.tallyOff
  exact Kept.tally (set_kept (set_kept (set_kept (set_kept (set_kept (hk0) h102) h103) h104) h105) h106) h101

theorem tallyClr_kept {σ : Scope} {ρ : State} {s : State} {plan : Word} {lossLo : Word} {lossHi : Word} (hk0 : Kept σ ρ s) (h101 : σ.reg (regKey pTALLY 148) = true) (h102 : σ.reg (regKey pTALLY 152) = true) (h103 : σ.reg (regKey pTALLY 156) = true) (h104 : σ.fld pTALLY F.TALLY.PWR0.P_BASE) (h105 : σ.fld pTALLY F.TALLY.PWR0.P_A) (h106 : σ.fld pTALLY F.TALLY.PWR1.P_B) (h107 : σ.fld pTALLY F.TALLY.PWR1.P_C) (h108 : σ.fld pTALLY F.TALLY.PWR2.P_D) (h109 : σ.fld pTALLY F.TALLY.T_A_MIN.TIME) (h110 : σ.fld pTALLY F.TALLY.RES_A.UJ) (h111 : σ.fld pTALLY F.TALLY.RES_B.UJ) (h112 : σ.fld pTALLY F.TALLY.RES_C.UJ) (h113 : σ.fld pTALLY F.TALLY.RES_W.UJ) :
    Kept σ ρ (State.tallyClr s plan lossLo lossHi) := by
  unfold State.tallyClr
  exact tallyCosts_kept (wr_kept (wr_kept (wr_kept (hk0) h101) h102) h103) h104 h105 h106 h107 h108 h109 h110 h111 h112 h113

theorem learnStart_kept {σ : Scope} {ρ : State} {s : State} (hk0 : Kept σ ρ s) (h101 : σ.part .tally = true) (h102 : σ.fld pTALLY F.TALLY.STS.LEARNING) (h103 : σ.fld pTALLY F.TALLY.CTL.LEARN) :
    Kept σ ρ (State.learnStart s) := by
  unfold State.learnStart
  exact Kept.tally (set_kept (set_kept (hk0) h102) h103) h101

theorem learnWrite_kept {σ : Scope} {ρ : State} {s : State} (hk0 : Kept σ ρ s) (h101 : σ.part .tally = true) (h102 : σ.fld pTALLY F.TALLY.STS.LEARNING) (h103 : σ.fld pTALLY F.TALLY.CTL.LEARN) (h104 : σ.fld pTALLY (Fld.mk 12 14 1)) :
    Kept σ ρ (State.learnWrite s) := by
  unfold State.learnWrite
  exact Kept.ite (hk0) (Kept.ite (learnStart_kept (hk0) h101 h102 h103) (event_kept (hk0) h104))

theorem autoLearn_kept {σ : Scope} {ρ : State} {s : State} (hk0 : Kept σ ρ s) (h101 : σ.part .tally = true) (h102 : σ.fld pTALLY F.TALLY.STS.LEARNING) (h103 : σ.fld pTALLY F.TALLY.CTL.LEARN) :
    Kept σ ρ (State.autoLearn s) := by
  unfold State.autoLearn
  exact Kept.ite (Kept.cut (fun k1 => Kept.ite (learnStart_kept (k1) h101 h102 h103) (Kept.tally (k1) h101)) (advance_kept (hk0))) (hk0)

theorem commitRefuse_kept {σ : Scope} {ρ s : State} (h : Kept σ ρ s) (hm : σ.part .mon = true)
    (hl : σ.part .life = true) : Kept σ ρ s.commitRefuse := by
  refine h.life hm hl fun hk => ⟨⟨hk.1, hk.2.1, ?_⟩, le_rfl⟩
  intro o ho
  simp only [Option.map_eq_some_iff] at ho
  obtain ⟨o', ho', rfl⟩ := ho
  have := hk.2.2 o' ho'
  split <;> exact this

theorem keyStoreStep_kept {σ : Scope} {ρ : State} {s : State} (hk0 : Kept σ ρ s) (h101 : σ.part .mon = true) (h102 : σ.part .life = true) :
    Kept σ ρ (State.keyStoreStep s) := by
  unfold State.keyStoreStep
  exact (by (try dsimp only); split; exacts [Kept.ite (commitRefuse_kept (Kept.mon (hk0) h101 rfl rfl) h101 h102) (Kept.mon (hk0) h101 rfl rfl), Kept.mon (hk0) h101 rfl rfl])

theorem lastGasp_kept {σ : Scope} {ρ : State} {s : State} (hk0 : Kept σ ρ s) (h101 : σ.part .sw = true) (h102 : σ.part .mem = true) (h103 : σ.fld pHSR F.HSR.SEQ.NEXT) (h104 : σ.fld pSWITCH F.SWITCH.BUF_DROP.COUNT) (h105 : σ.fld pSWITCH (Fld.mk 12 9 1)) (h106 : ∀ n, σ.page (pPORT n)) (h107 : σ.fld pCAPTURE F.CAPTURE.LOST.COUNT) (h108 : σ.fld pCAPTURE (Fld.mk 12 9 1)) (h109 : σ.fld pCAPTURE F.CAPTURE.WR_SEQ.SEQ) (h110 : σ.fld pCAPTURE (Fld.mk 12 8 1)) (h111 : σ.fld pBUFMEM (Fld.mk 12 13 1)) (h112 : σ.fld pSWITCH F.SWITCH.NOPATH.COUNT) (h113 : σ.fld pSWITCH (Fld.mk 12 11 1)) :
    Kept σ ρ (State.lastGasp s) := by
  unfold State.lastGasp
  exact sendNotice_kept (hk0) h101 h102 h103 h104 h105 h106 h107 h108 h109 h110 h111 h112 h113

theorem classA_kept {σ : Scope} {ρ : State} {s : State} (hk0 : Kept σ ρ s) (h101 : σ.part .tally = true) (h102 : σ.part .sw = true) (h103 : σ.part .mem = true) (h104 : σ.part .mon = true) (h105 : σ.part .life = true) (h106 : σ.fld pTALLY F.TALLY.STS.PLAN) (h107 : σ.fld pHSR F.HSR.SEQ.NEXT) (h108 : σ.fld pSWITCH F.SWITCH.BUF_DROP.COUNT) (h109 : σ.fld pSWITCH (Fld.mk 12 9 1)) (h110 : ∀ n, σ.page (pPORT n)) (h111 : σ.fld pCAPTURE F.CAPTURE.LOST.COUNT) (h112 : σ.fld pCAPTURE (Fld.mk 12 9 1)) (h113 : σ.fld pCAPTURE F.CAPTURE.WR_SEQ.SEQ) (h114 : σ.fld pCAPTURE (Fld.mk 12 8 1)) (h115 : σ.fld pBUFMEM (Fld.mk 12 13 1)) (h116 : σ.fld pSWITCH F.SWITCH.NOPATH.COUNT) (h117 : σ.fld pSWITCH (Fld.mk 12 11 1)) :
    Kept σ ρ (State.classA s) := by
  unfold State.classA
  exact keyStoreStep_kept (lastGasp_kept (Kept.tally (set_kept (hk0) h106) h101) h102 h103 h107 h108 h109 h110 h111 h112 h113 h114 h115 h116 h117) h104 h105

theorem learnDone_kept {σ : Scope} {ρ : State} {s : State} (hk0 : Kept σ ρ s) (h101 : σ.part .tally = true) (h102 : σ.fld pTALLY F.TALLY.STS.LEARNING) (h103 : σ.fld pTALLY F.TALLY.CTL.LEARN) (h104 : σ.fld pTALLY F.TALLY.C_LEARN.UF) (h105 : σ.fld pTALLY F.TALLY.STS.C_VALID) (h106 : σ.fld pTALLY (Fld.mk 12 13 1)) (h107 : σ.fld pTALLY (Fld.mk 12 15 1)) (h108 : σ.fld pTALLY (Fld.mk 12 14 1)) :
    Kept σ ρ (State.learnDone s) := by
  unfold State.learnDone
  exact (by (try dsimp only); split; exacts [hk0, Kept.cut (fun k11 => Kept.ite (Kept.cut (fun k13 => Kept.ite (event_kept (k13) h107) (k13)) (event_kept (set_kept (set_kept (nextFree_kept (k11)) h104) h105) h106)) (event_kept (k11) h108)) (Kept.tally (set_kept (set_kept (advance_kept (hk0)) h102) h103) h101)])

theorem measure_kept {σ : Scope} {ρ : State} {s : State} {adc : List ℕ} (hk0 : Kept σ ρ s) (h101 : σ.fld pTALLY F.TALLY.VHUP.V) (h102 : σ.fld pTALLY F.TALLY.STS.HUP_FAULT) (h103 : σ.fld pTALLY F.TALLY.E_SAFE.UJ) (h104 : σ.fld pTALLY (Fld.mk 12 16 1)) (h105 : σ.fld pTALLY F.TALLY.STS.RESERVE_OK) (h106 : σ.fld pTALLY (Fld.mk 12 12 1)) :
    Kept σ ρ (State.measure s adc) := by
  unfold State.measure
  exact Kept.cut (fun k1 => Kept.cut (fun k7 => Kept.ite (event_kept (k7) h106) (k7)) (setB_kept (Kept.ite (event_kept (k1) h104) (k1)) h105)) (set_kept (setB_kept (set_kept (hk0) h101) h102) h103)

theorem meterAdd_kept {σ : Scope} {ρ : State} {s : State} {k : ℕ} {pj : ℕ} (hk0 : Kept σ ρ s) (h101 : σ.fld pTALLY (F.TALLY.METER.PJ.at (8 * k))) :
    Kept σ ρ (State.meterAdd s k pj) := by
  unfold State.meterAdd
  exact bumpBy_kept (hk0) h101

theorem meters_kept {σ : Scope} {ρ : State} {s : State} (hk0 : Kept σ ρ s) (h101 : σ.part .tally = true) (h102 : σ.fld pTALLY (F.TALLY.METER.PJ.at (8 * 0))) (h103 : σ.fld pTALLY (F.TALLY.METER.PJ.at (8 * 1))) (h104 : σ.fld pTALLY (F.TALLY.METER.PJ.at (8 * 2))) (h105 : σ.fld pTALLY (F.TALLY.METER.PJ.at (8 * 3))) (h106 : σ.fld pTALLY (F.TALLY.METER.PJ.at (8 * 4))) (h107 : σ.fld pTALLY (F.TALLY.METER.PJ.at (8 * 5))) (h108 : σ.fld pTALLY (F.TALLY.METER.PJ.at (8 * 6))) (h109 : σ.fld pTALLY (F.TALLY.METER.PJ.at (8 * 7))) :
    Kept σ ρ (State.meters s) := by
  unfold State.meters
  exact Kept.tally (meterAdd_kept (meterAdd_kept (meterAdd_kept (meterAdd_kept (meterAdd_kept (meterAdd_kept (nextFree_kept (meterAdd_kept (meterAdd_kept (hk0) h102) h103)) h104) h105) h106) h107) h108) h109) h101

theorem warn_kept {σ : Scope} {ρ : State} {s : State} (hk0 : Kept σ ρ s) (h101 : σ.fld pTALLY F.TALLY.STS.WARN) (h102 : σ.fld pTALLY (Fld.mk 12 10 1)) (h103 : σ.fld pSUPPLY F.SUPPLY.STS.PFW) (h104 : σ.fld pSUPPLY (Fld.mk 12 12 1)) :
    Kept σ ρ (State.warn s) := by
  unfold State.warn
  exact Kept.ite (hk0) (pfwFall_kept (event_kept (set_kept (hk0) h101) h102) h103 h104)

theorem row4_kept {σ : Scope} {ρ : State} {s : State} (hk0 : Kept σ ρ s) (h101 : σ.part .pwr = true) (h102 : σ.part .tally = true) (h103 : σ.part .sw = true) (h104 : σ.part .mem = true) (h105 : σ.part .mon = true) (h106 : σ.part .life = true) (h107 : σ.page pTALLY) (h108 : σ.page pSUPPLY) (h109 : σ.page pHSR) (h110 : σ.page pSWITCH) (h111 : ∀ n, σ.page (pPORT n)) (h112 : σ.page pCAPTURE) (h113 : σ.page pBUFMEM) :
    Kept σ ρ (State.row4 s) := by
  unfold State.row4
  exact Kept.ite (classA_kept (shed_kept (warn_kept (hk0) h107.fld h107.fld h108.fld h108.fld) h101 h107.fld h107.fld) h102 h103 h104 h105 h106 h107.fld h109.fld h110.fld h110.fld h111 h112.fld h112.fld h112.fld h112.fld h113.fld h110.fld h110.fld) (hk0)

theorem row3_kept {σ : Scope} {ρ : State} {s : State} (hk0 : Kept σ ρ s) (h101 : σ.fld pTALLY F.TALLY.STS.WARN) (h102 : σ.fld pTALLY (Fld.mk 12 10 1)) (h103 : σ.fld pSUPPLY F.SUPPLY.STS.PFW) (h104 : σ.fld pSUPPLY (Fld.mk 12 12 1)) :
    Kept σ ρ (State.row3 s) := by
  unfold State.row3
  exact Kept.ite (warn_kept (hk0) h101 h102 h103 h104) (hk0)

theorem row2_kept {σ : Scope} {ρ : State} {s : State} (hk0 : Kept σ ρ s) (h101 : σ.part .pwr = true) (h102 : σ.fld pTALLY F.TALLY.STS.SHED) (h103 : σ.fld pTALLY (Fld.mk 12 9 1)) :
    Kept σ ρ (State.row2 s) := by
  unfold State.row2
  exact Kept.ite (shed_kept (hk0) h101 h102 h103) (hk0)

theorem row1_kept {σ : Scope} {ρ : State} {s : State} (hk0 : Kept σ ρ s) (h101 : σ.part .pwr = true) (h102 : σ.fld pTALLY F.TALLY.STS.SHED) (h103 : σ.fld pTALLY (Fld.mk 12 9 1)) :
    Kept σ ρ (State.row1 s) := by
  unfold State.row1
  exact Kept.ite (shed_kept (hk0) h101 h102 h103) (hk0)

theorem planRows_kept {σ : Scope} {ρ : State} {s : State} (hk0 : Kept σ ρ s) (h101 : σ.part .pwr = true) (h102 : σ.part .tally = true) (h103 : σ.part .sw = true) (h104 : σ.part .mem = true) (h105 : σ.part .mon = true) (h106 : σ.part .life = true) (h107 : σ.page pTALLY) (h108 : σ.page pSUPPLY) (h109 : σ.page pHSR) (h110 : σ.page pSWITCH) (h111 : ∀ n, σ.page (pPORT n)) (h112 : σ.page pCAPTURE) (h113 : σ.page pBUFMEM) :
    Kept σ ρ (State.planRows s) := by
  unfold State.planRows
  exact Kept.ite (row4_kept (row3_kept (row2_kept (row1_kept (hk0) h101 h107.fld h107.fld) h101 h107.fld h107.fld) h107.fld h107.fld h108.fld h108.fld) h101 h102 h103 h104 h105 h106 h107 h108 h109 h110 h111 h112 h113) (hk0)

theorem tallyUpdate_kept {σ : Scope} {ρ : State} {s : State} {adc : List ℕ} (hk0 : Kept σ ρ s) (h101 : σ.part .tally = true) (h102 : σ.part .pwr = true) (h103 : σ.part .sw = true) (h104 : σ.part .mem = true) (h105 : σ.part .mon = true) (h106 : σ.part .life = true) (h107 : σ.page pTALLY) (h108 : σ.page pSUPPLY) (h109 : σ.page pHSR) (h110 : σ.page pSWITCH) (h111 : ∀ n, σ.page (pPORT n)) (h112 : σ.page pCAPTURE) (h113 : σ.page pBUFMEM) :
    Kept σ ρ (State.tallyUpdate s adc) := by
  unfold State.tallyUpdate
  exact Kept.cut (fun k1 => Kept.ite (planRows_kept (meters_kept (k1) h101 h107.fld h107.fld h107.fld h107.fld h107.fld h107.fld h107.fld h107.fld) h102 h101 h103 h104 h105 h106 h107 h108 h109 h110 h111 h112 h113) (k1)) (measure_kept (hk0) h107.fld h107.fld h107.fld h107.fld h107.fld h107.fld)

theorem execClassAComplete_kept {σ : Scope} {clk : ℕ} {s : State} (h101 : σ.Full) :
    KeptNext σ s (execClassAComplete clk s) := by
  unfold execClassAComplete
  exact KeptNext.next (onGuard_kept (advance_kept (Kept.refl σ s)) (fun x0 k1 => aComplete_kept (k1) h101))

theorem execClassATimeout_kept {σ : Scope} {s : State} (h101 : σ.Full) :
    KeptNext σ s (execClassATimeout s) := by
  unfold execClassATimeout
  exact KeptNext.next (onGuard_kept (Kept.refl σ s) (fun x0 k1 => aTimeout_kept (k1) h101))

theorem execTallyAutoLearn_kept {σ : Scope} {s : State} (h101 : σ.part .tally = true) (h102 : σ.fld pTALLY F.TALLY.STS.LEARNING) (h103 : σ.fld pTALLY F.TALLY.CTL.LEARN) :
    KeptNext σ s (execTallyAutoLearn s) := by
  unfold execTallyAutoLearn
  exact KeptNext.next (onGuard_kept (Kept.refl σ s) (fun x0 k1 => autoLearn_kept (k1) h101 h102 h103))

theorem execTallyLearn_kept {σ : Scope} {clk : ℕ} {s : State} (h101 : σ.part .tally = true) (h102 : σ.part .page = true) (h103 : σ.fld pTALLY F.TALLY.STS.LEARNING) (h104 : σ.fld pTALLY F.TALLY.CTL.LEARN) (h105 : σ.fld pTALLY (Fld.mk 12 14 1)) (h106 : σ.fld pSYS (Fld.mk 12 11 1)) (h107 : σ.fld pTALLY F.HDR.PSTS.CODE) (h108 : σ.fld pTALLY F.HDR.PSTS.INDEX) (h109 : σ.fld pTALLY F.HDR.PSTS.REFUSED) (h110 : σ.fld pTALLY (Fld.mk 12 0 1)) :
    KeptNext σ s (execTallyLearn clk s) := by
  unfold execTallyLearn
  exact KeptNext.next (bitWrite_kept (advance_kept (Kept.refl σ s)) (fun x0 k1 => learnWrite_kept (k1) h101 h103 h104 h105) h102 h106 h107 h108 h109 h110)

theorem execTallyLearnEnd_kept {σ : Scope} {s : State} (h101 : σ.part .tally = true) (h102 : σ.fld pTALLY F.TALLY.STS.LEARNING) (h103 : σ.fld pTALLY F.TALLY.CTL.LEARN) (h104 : σ.fld pTALLY F.TALLY.C_LEARN.UF) (h105 : σ.fld pTALLY F.TALLY.STS.C_VALID) (h106 : σ.fld pTALLY (Fld.mk 12 13 1)) (h107 : σ.fld pTALLY (Fld.mk 12 15 1)) (h108 : σ.fld pTALLY (Fld.mk 12 14 1)) :
    KeptNext σ s (execTallyLearnEnd s) := by
  unfold execTallyLearnEnd
  exact KeptNext.next (onGuard_kept (Kept.refl σ s) (fun x0 k1 => learnDone_kept (k1) h101 h102 h103 h104 h105 h106 h107 h108))

theorem execTallyUpdate_kept {σ : Scope} {clk : ℕ} {adc : List ℕ} {s : State} (h101 : σ.part .tally = true) (h102 : σ.part .pwr = true) (h103 : σ.part .sw = true) (h104 : σ.part .mem = true) (h105 : σ.part .mon = true) (h106 : σ.part .life = true) (h107 : σ.page pTALLY) (h108 : σ.page pSUPPLY) (h109 : σ.page pHSR) (h110 : σ.page pSWITCH) (h111 : ∀ n, σ.page (pPORT n)) (h112 : σ.page pCAPTURE) (h113 : σ.page pBUFMEM) :
    KeptNext σ s (execTallyUpdate clk adc s) := by
  unfold execTallyUpdate
  exact KeptNext.next (onGuard_kept (advance_kept (Kept.refl σ s)) (fun x0 k1 => tallyUpdate_kept (k1) h101 h102 h103 h104 h105 h106 h107 h108 h109 h110 h111 h112 h113))

theorem timeLeft_kept {σ : Scope} {ρ : State} {s : State} {n : ℕ} {stamp : ℕ} {f : Frame} (hk0 : Kept σ ρ s) (h101 : σ.part .gang = true) :
    Kept σ ρ (State.timeLeft s n stamp f) := by
  unfold State.timeLeft
  exact Kept.ite (Kept.gang (hk0) h101) (hk0)

theorem peerHeard_kept {σ : Scope} {ρ : State} {s : State} {n : ℕ} (hk0 : Kept σ ρ s) (h101 : σ.part .dup = true) :
    Kept σ ρ (State.peerHeard s n) := by
  unfold State.peerHeard
  exact Kept.ite (Kept.dup (hk0) h101) (hk0)

theorem claimSeen_kept {σ : Scope} {ρ : State} {s : State} {n : ℕ} {f : Frame} (hk0 : Kept σ ρ s) (h101 : σ.part .sw = true) (h102 : σ.part .mem = true) (h103 : σ.part .dup = true) (h104 : σ.fld pHSR F.HSR.SEQ.NEXT) (h105 : σ.fld pSWITCH F.SWITCH.BUF_DROP.COUNT) (h106 : σ.fld pSWITCH (Fld.mk 12 9 1)) (h107 : ∀ n, σ.page (pPORT n)) (h108 : σ.fld pCAPTURE F.CAPTURE.LOST.COUNT) (h109 : σ.fld pCAPTURE (Fld.mk 12 9 1)) (h110 : σ.fld pCAPTURE F.CAPTURE.WR_SEQ.SEQ) (h111 : σ.fld pCAPTURE (Fld.mk 12 8 1)) (h112 : σ.fld pBUFMEM (Fld.mk 12 13 1)) (h113 : σ.fld pSWITCH F.SWITCH.NOPATH.COUNT) (h114 : σ.fld pSWITCH (Fld.mk 12 11 1)) (h115 : σ.fld pDUPLEX (Fld.mk 12 13 1)) :
    Kept σ ρ (State.claimSeen s n f) := by
  unfold State.claimSeen
  exact Kept.ite (Kept.dup (event_kept (sendMgmt_kept (hk0) h101 h102 h104 h105 h106 h107 h108 h109 h110 h111 h112 h113 h114) h115) h103) (hk0)

theorem leadLink_kept {σ : Scope} {ρ : State} {s : State} (hk0 : Kept σ ρ s) (h101 : σ.fld pGANGCTL F.GANGCTL.STS.OFS_VALID) :
    Kept σ ρ (State.leadLink s) := by
  unfold State.leadLink
  exact Kept.ite (set_kept (hk0) h101) (hk0)

theorem noticesOut_kept {σ : Scope} {ρ : State} {s : State} (hk0 : Kept σ ρ s) (h101 : σ.part .sw = true) (h102 : σ.part .mem = true) (h103 : σ.part .dup = true) (h104 : σ.fld pSWITCH F.SWITCH.BUF_DROP.COUNT) (h105 : σ.fld pSWITCH (Fld.mk 12 9 1)) (h106 : ∀ n, σ.page (pPORT n)) (h107 : σ.fld pCAPTURE F.CAPTURE.LOST.COUNT) (h108 : σ.fld pCAPTURE (Fld.mk 12 9 1)) (h109 : σ.fld pCAPTURE F.CAPTURE.WR_SEQ.SEQ) (h110 : σ.fld pCAPTURE (Fld.mk 12 8 1)) (h111 : σ.fld pBUFMEM (Fld.mk 12 13 1)) :
    Kept σ ρ (State.noticesOut s) := by
  unfold State.noticesOut
  exact Kept.ite (hk0) (Kept.dup (sendCopies_kept (hk0) h101 h102 h104 h105 h106 h107 h108 h109 h110 h111) h103)

theorem sendRelease_kept {σ : Scope} {ρ : State} {s : State} {n : Notice} (hk0 : Kept σ ρ s) (h101 : σ.part .sw = true) (h102 : σ.part .mem = true) (h103 : σ.part .dup = true) (h104 : σ.fld pSWITCH F.SWITCH.BUF_DROP.COUNT) (h105 : σ.fld pSWITCH (Fld.mk 12 9 1)) (h106 : ∀ n, σ.page (pPORT n)) (h107 : σ.fld pCAPTURE F.CAPTURE.LOST.COUNT) (h108 : σ.fld pCAPTURE (Fld.mk 12 9 1)) (h109 : σ.fld pCAPTURE F.CAPTURE.WR_SEQ.SEQ) (h110 : σ.fld pCAPTURE (Fld.mk 12 8 1)) (h111 : σ.fld pBUFMEM (Fld.mk 12 13 1)) :
    Kept σ ρ (State.sendRelease s n) := by
  unfold State.sendRelease
  exact Kept.dup (Kept.ite (noticesOut_kept (hk0) h101 h102 h103 h104 h105 h106 h107 h108 h109 h110 h111) (hk0)) h103

theorem sendStatus_kept {σ : Scope} {ρ : State} {s : State} {cyc : ℕ} (hk0 : Kept σ ρ s) (h101 : σ.part .sw = true) (h102 : σ.part .mem = true) (h103 : σ.fld pSWITCH F.SWITCH.BUF_DROP.COUNT) (h104 : σ.fld pSWITCH (Fld.mk 12 9 1)) (h105 : ∀ n, σ.page (pPORT n)) (h106 : σ.fld pCAPTURE F.CAPTURE.LOST.COUNT) (h107 : σ.fld pCAPTURE (Fld.mk 12 9 1)) (h108 : σ.fld pCAPTURE F.CAPTURE.WR_SEQ.SEQ) (h109 : σ.fld pCAPTURE (Fld.mk 12 8 1)) (h110 : σ.fld pBUFMEM (Fld.mk 12 13 1)) :
    Kept σ ρ (State.sendStatus s cyc) := by
  unfold State.sendStatus
  exact sendCopies_kept (hk0) h101 h102 h103 h104 h105 h106 h107 h108 h109 h110

theorem noticesDue_kept {σ : Scope} {ρ : State} {s : State} (hk0 : Kept σ ρ s) (h101 : σ.part .sw = true) (h102 : σ.part .mem = true) (h103 : σ.part .dup = true) (h104 : σ.fld pSWITCH F.SWITCH.BUF_DROP.COUNT) (h105 : σ.fld pSWITCH (Fld.mk 12 9 1)) (h106 : ∀ n, σ.page (pPORT n)) (h107 : σ.fld pCAPTURE F.CAPTURE.LOST.COUNT) (h108 : σ.fld pCAPTURE (Fld.mk 12 9 1)) (h109 : σ.fld pCAPTURE F.CAPTURE.WR_SEQ.SEQ) (h110 : σ.fld pCAPTURE (Fld.mk 12 8 1)) (h111 : σ.fld pBUFMEM (Fld.mk 12 13 1)) :
    Kept σ ρ (State.noticesDue s) := by
  unfold State.noticesDue
  exact Kept.ite (noticesOut_kept (hk0) h101 h102 h103 h104 h105 h106 h107 h108 h109 h110 h111) (hk0)

theorem bankReset_kept {σ : Scope} {ρ : State} {s : State} {k : ℕ} (hk0 : Kept σ ρ s) (h101 : σ.part .sw = true) :
    Kept σ ρ (State.bankReset s k) := by
  unfold State.bankReset
  exact Kept.sw (hk0) h101

theorem bankFail_kept {σ : Scope} {ρ : State} {s : State} {k : ℕ} (hk0 : Kept σ ρ s) (h101 : σ.fld pBUFMEM (F.BUFMEM.STS.FAILED.up 0)) (h102 : σ.fld pBUFMEM (Fld.mk 12 10 1)) :
    Kept σ ρ (State.bankFail s k) := by
  unfold State.bankFail
  exact Kept.ite (event_kept (set_kept (hk0) h101) h102) (hk0)

theorem bankUe_kept {σ : Scope} {ρ : State} {s : State} {k : ℕ} (hk0 : Kept σ ρ s) (h101 : σ.part .sw = true) (h102 : σ.fld pBUFMEM (F.BUFMEM.UE.COUNT.at (4 * k))) (h103 : σ.fld pBUFMEM (F.BUFMEM.STS.FAILED.up 0)) (h104 : σ.fld pBUFMEM (Fld.mk 12 10 1)) (h105 : σ.fld pBUFMEM F.HDR.PSTS.FAULT) (h106 : σ.fld pBUFMEM (Fld.mk 12 1 1)) :
    Kept σ ρ (State.bankUe s k) := by
  unfold State.bankUe
  exact Kept.ite (hk0) (Kept.cut (fun k5 => Kept.ite (bankReset_kept (Kept.ite (bankFail_kept (k5) h103 h104) (blockFault_kept (k5) h105 h106)) h101) (k5)) (Kept.sw (bump_kept (hk0) h102) h101))

theorem readRow_kept {σ : Scope} {ρ : State} {s : State} {row : ℕ} {errs : List (ℕ × ℕ × Bool)} (hk0 : Kept σ ρ s) (h101 : σ.part .sw = true) (h102 : σ.page pBUFMEM) :
    Kept σ ρ (State.readRow s row errs).1 := by
  unfold State.readRow
  exact Kept.cut (fun k17 => Kept.iteFst (event_kept (bump_kept (k17) h102.fld) h102.fld) (Kept.iteFst (k17) (event_kept (k17) h102.fld))) (Kept.foldl (fun x13 a14 k15 => bankUe_kept (k15) h101 h102.fld h102.fld h102.fld h102.fld h102.fld) _ _ (Kept.foldl (fun x10 a11 k12 => event_kept (bump_kept (k12) h102.fld) h102.fld) _ _ (hk0)))

theorem readRows_kept {σ : Scope} {ρ s : State} {errs : List (Nat × Nat × Bool)} {l : List Nat} (h : Kept σ ρ s)
    (hb : σ.part .sw = true) (ha : σ.page pBUFMEM) : Kept σ ρ (s.readRows errs l).1 := by
  induction l generalizing s with
  | nil => exact h
  | cons r t ih => exact ih (readRow_kept h hb ha)

theorem bufRebuild_kept {σ : Scope} {ρ : State} {s : State} {k : ℕ} (hk0 : Kept σ ρ s) (h101 : σ.part .sw = true) (h102 : σ.fld pBUFMEM F.BUFMEM.CTL.BANK) (h103 : σ.fld pBUFMEM F.BUFMEM.STS.REBUILDING) (h104 : σ.fld pBUFMEM F.BUFMEM.STS.RB_BANK) (h105 : σ.fld pBUFMEM F.BUFMEM.CTL.REBUILD) :
    Kept σ ρ (State.bufRebuild s k) := by
  unfold State.bufRebuild
  exact Kept.cut (fun k1 => Kept.ite (set_kept (set_kept (set_kept (Kept.sw (k1) h101) h103) h104) h105) (k1)) (set_kept (hk0) h102)

theorem bufFail_kept {σ : Scope} {ρ : State} {s : State} {k : ℕ} (hk0 : Kept σ ρ s) (h101 : σ.fld pBUFMEM F.BUFMEM.CTL.BANK) (h102 : σ.fld pBUFMEM (F.BUFMEM.STS.FAILED.up 0)) (h103 : σ.fld pBUFMEM (Fld.mk 12 10 1)) :
    Kept σ ρ (State.bufFail s k) := by
  unfold State.bufFail
  exact bankFail_kept (set_kept (hk0) h101) h102 h103

theorem bufRebuilt_kept {σ : Scope} {ρ : State} {s : State} {ok : Bool} (hk0 : Kept σ ρ s) (h101 : σ.part .sw = true) (h102 : σ.fld pBUFMEM F.BUFMEM.STS.REBUILDING) (h103 : σ.fld pBUFMEM F.BUFMEM.CTL.REBUILD) (h104 : σ.fld pBUFMEM F.BUFMEM.STS.FAILED) (h105 : σ.fld pBUFMEM (Fld.mk 12 11 1)) (h106 : σ.fld pBUFMEM (Fld.mk 12 14 1)) :
    Kept σ ρ (State.bufRebuilt s ok) := by
  unfold State.bufRebuilt
  exact (by (try dsimp only); split; exacts [hk0, Kept.cut (fun k1 => Kept.ite (event_kept (set_kept (bankReset_kept (k1) h101) h104) h105) (event_kept (k1) h106)) (set_kept (set_kept (Kept.sw (hk0) h101) h102) h103)])

theorem gclMatch_kept {σ : Scope} {ρ : State} {s : State} {n : ℕ} (hk0 : Kept σ ρ s) (h101 : σ.fld (pPORT n) F.PORT.STS.GCL_MISMATCH) (h102 : σ.fld (pPORT n) (Fld.mk 12 15 1)) :
    Kept σ ρ (State.gclMatch s n) := by
  unfold State.gclMatch
  exact Kept.ite (event_kept (set_kept (hk0) h101) h102) (setB_kept (hk0) h101)

theorem flushCopies_kept {σ : Scope} {ρ : State} {s : State} {n : ℕ} (hk0 : Kept σ ρ s) (h101 : σ.part .sw = true) (h102 : σ.part .mem = true) (h103 : ∀ n, σ.page (pPORT n)) (h104 : σ.fld pCAPTURE F.CAPTURE.LOST.COUNT) (h105 : σ.fld pCAPTURE (Fld.mk 12 9 1)) (h106 : σ.fld pCAPTURE F.CAPTURE.WR_SEQ.SEQ) (h107 : σ.fld pCAPTURE (Fld.mk 12 8 1)) (h108 : σ.fld pBUFMEM (Fld.mk 12 13 1)) :
    Kept σ ρ (State.flushCopies s n) := by
  unfold State.flushCopies
  exact roomMark_kept (Kept.sw (Kept.foldl (fun x5 a6 k7 => dropCopy_kept (k7) h101 h102 (h103 _).fld (h103 _).fld h104 h105 h106 h107) _ _ (hk0)) h101) h101 h108

theorem holdClose_kept {σ : Scope} {ρ : State} {s : State} {n : ℕ} (hk0 : Kept σ ρ s) (h101 : σ.part .sw = true) (h102 : σ.part .mem = true) (h103 : σ.part .ports = true) (h104 : ∀ n, σ.page (pPORT n)) (h105 : σ.fld pCAPTURE F.CAPTURE.LOST.COUNT) (h106 : σ.fld pCAPTURE (Fld.mk 12 9 1)) (h107 : σ.fld pCAPTURE F.CAPTURE.WR_SEQ.SEQ) (h108 : σ.fld pCAPTURE (Fld.mk 12 8 1)) (h109 : σ.fld pBUFMEM (Fld.mk 12 13 1)) :
    Kept σ ρ (State.holdClose s n) := by
  unfold State.holdClose
  exact setPort_kept (event_kept (set_kept (set_kept (flushCopies_kept (hk0) h101 h102 h104 h105 h106 h107 h108 h109) (h104 _).fld) (h104 _).fld) (h104 _).fld) h103

theorem holdOver_kept {σ : Scope} {ρ : State} {s : State} {n : ℕ} (hk0 : Kept σ ρ s) (h101 : σ.part .sw = true) (h102 : σ.part .mem = true) (h103 : σ.part .ports = true) (h104 : ∀ n, σ.page (pPORT n)) (h105 : σ.fld pCAPTURE F.CAPTURE.LOST.COUNT) (h106 : σ.fld pCAPTURE (Fld.mk 12 9 1)) (h107 : σ.fld pCAPTURE F.CAPTURE.WR_SEQ.SEQ) (h108 : σ.fld pCAPTURE (Fld.mk 12 8 1)) (h109 : σ.fld pBUFMEM (Fld.mk 12 13 1)) :
    Kept σ ρ (State.holdOver s n) := by
  unfold State.holdOver
  exact (by split; exacts [Kept.ite (holdClose_kept (hk0) h101 h102 h103 h104 h105 h106 h107 h108 h109) (hk0), hk0])

theorem corrKeep_kept {σ : Scope} {ρ : State} {s : State} {n : ℕ} {v : RxCorr} (hk0 : Kept σ ρ s) (h101 : σ.part .ports = true) :
    Kept σ ρ (State.corrKeep s n v) := by
  unfold State.corrKeep
  exact setPort_kept (hk0) h101

theorem probeStamped_kept {σ : Scope} {ρ : State} {s : State} {ts : ℕ} {raw : ℕ} {x : QFrame} {f : Frame} (hk0 : Kept σ ρ s) (h101 : σ.part .mscl = true) :
    Kept σ ρ (State.probeStamped s ts raw x f) := by
  unfold State.probeStamped
  exact Kept.ite (Kept.mscl (hk0) h101) (hk0)

theorem stepErr_kept {σ : Scope} {ρ : State} {s : State} {dev : ℤ} (hk0 : Kept σ ρ s) (h101 : σ.fld pSTAMP F.STAMP.ONESTEP_ERR.COUNT) (h102 : σ.fld pSTAMP (Fld.mk 12 8 1)) :
    Kept σ ρ (State.stepErr s dev) := by
  unfold State.stepErr
  exact Kept.ite (event_kept (bumpSat_kept (hk0) h101) h102) (hk0)

theorem pushStamp_kept {σ : Scope} {ρ : State} {s : State} {e : TxStamp} (hk0 : Kept σ ρ s) (h101 : σ.part .stamps = true) (h102 : σ.fld pSTAMP F.STAMP.TXQOVF.COUNT) (h103 : σ.fld pSTAMP (Fld.mk 12 9 1)) (h104 : σ.fld pSTAMP (Fld.mk 12 10 1)) :
    Kept σ ρ (State.pushStamp s e) := by
  unfold State.pushStamp
  exact Kept.ite (hk0) (Kept.ite (Kept.cut (fun k1 => Kept.ite (Kept.sets (k1)) (k1)) (event_kept (bump_kept (hk0) h102) h103)) (Kept.cut (fun k3 => Kept.ite (event_kept (k3) h104) (k3)) (Kept.stamps (hk0) h101)))

theorem stampAsked_kept {σ : Scope} {ρ : State} {s : State} {n : ℕ} {ts : ℕ} {tag : Option ℕ} {f : Frame} (hk0 : Kept σ ρ s) (h101 : σ.part .stamps = true) (h102 : σ.fld pSTAMP F.STAMP.TXQOVF.COUNT) (h103 : σ.fld pSTAMP (Fld.mk 12 9 1)) (h104 : σ.fld pSTAMP (Fld.mk 12 10 1)) :
    Kept σ ρ (State.stampAsked s n ts tag f) := by
  unfold State.stampAsked
  exact Kept.ite (hk0) ((by split; exacts [pushStamp_kept (hk0) h101 h102 h103 h104, Kept.ite (pushStamp_kept (hk0) h101 h102 h103 h104) (hk0)]))

theorem stampLeaving_kept {σ : Scope} {ρ : State} {s : State} {n : ℕ} {l : Leaving} (hk0 : Kept σ ρ s) (h101 : σ.part .ports = true) (h102 : σ.part .mscl = true) (h103 : σ.part .sw = true) (h104 : σ.part .mem = true) (h105 : σ.part .gang = true) (h106 : σ.part .stamps = true) (h107 : σ.fld pSTAMP F.STAMP.ONESTEP_ERR.COUNT) (h108 : σ.fld pSTAMP (Fld.mk 12 8 1)) (h109 : σ.fld pCAPTURE F.CAPTURE.LOST.COUNT) (h110 : σ.fld pCAPTURE (Fld.mk 12 9 1)) (h111 : σ.fld pCAPTURE F.CAPTURE.WR_SEQ.SEQ) (h112 : σ.fld pCAPTURE (Fld.mk 12 8 1)) (h113 : σ.fld pSTAMP F.STAMP.TXQOVF.COUNT) (h114 : σ.fld pSTAMP (Fld.mk 12 9 1)) (h115 : σ.fld pSTAMP (Fld.mk 12 10 1)) :
    Kept σ ρ (State.stampLeaving s n l) := by
  unfold State.stampLeaving
  exact stampAsked_kept (timeLeft_kept (capture_kept (probeStamped_kept ((by (try dsimp only); split; exacts [stepErr_kept (setPort_kept (hk0) h101) h107 h108, setPort_kept (hk0) h101])) h102) h103 h104 h109 h110 h111 h112) h105) h106 h113 h114 h115

theorem stampSent_kept {σ : Scope} {ρ : State} {s : State} {n : ℕ} (hk0 : Kept σ ρ s) (h101 : σ.part .ports = true) (h102 : σ.part .mscl = true) (h103 : σ.part .sw = true) (h104 : σ.part .mem = true) (h105 : σ.part .gang = true) (h106 : σ.part .stamps = true) (h107 : σ.fld pSTAMP F.STAMP.ONESTEP_ERR.COUNT) (h108 : σ.fld pSTAMP (Fld.mk 12 8 1)) (h109 : σ.fld pCAPTURE F.CAPTURE.LOST.COUNT) (h110 : σ.fld pCAPTURE (Fld.mk 12 9 1)) (h111 : σ.fld pCAPTURE F.CAPTURE.WR_SEQ.SEQ) (h112 : σ.fld pCAPTURE (Fld.mk 12 8 1)) (h113 : σ.fld pSTAMP F.STAMP.TXQOVF.COUNT) (h114 : σ.fld pSTAMP (Fld.mk 12 9 1)) (h115 : σ.fld pSTAMP (Fld.mk 12 10 1)) :
    Kept σ ρ (State.stampSent s n) := by
  unfold State.stampSent
  exact (by split; exacts [hk0, Kept.ite (hk0) (stampLeaving_kept (hk0) h101 h102 h103 h104 h105 h106 h107 h108 h109 h110 h111 h112 h113 h114 h115)])

theorem latLoad_kept {σ : Scope} {ρ : State} {s : State} {n : ℕ} {m : ℕ} {sp : ℕ} (hk0 : Kept σ ρ s) (h101 : σ.part .ports = true) (h102 : σ.part .mscl = true) (h103 : σ.part .sw = true) (h104 : σ.part .mem = true) (h105 : σ.part .gang = true) (h106 : σ.part .stamps = true) (h107 : σ.fld pSTAMP F.STAMP.ONESTEP_ERR.COUNT) (h108 : σ.fld pSTAMP (Fld.mk 12 8 1)) (h109 : σ.fld pCAPTURE F.CAPTURE.LOST.COUNT) (h110 : σ.fld pCAPTURE (Fld.mk 12 9 1)) (h111 : σ.fld pCAPTURE F.CAPTURE.WR_SEQ.SEQ) (h112 : σ.fld pCAPTURE (Fld.mk 12 8 1)) (h113 : σ.fld pSTAMP F.STAMP.TXQOVF.COUNT) (h114 : σ.fld pSTAMP (Fld.mk 12 9 1)) (h115 : σ.fld pSTAMP (Fld.mk 12 10 1)) (h116 : σ.fld pSTAMP (F.STAMP.LAT.ING_LAT.at (32 * n))) (h117 : σ.fld pSTAMP (F.STAMP.LAT.EGR_LAT.at (32 * n))) :
    Kept σ ρ (State.latLoad s n m sp) := by
  unfold State.latLoad
  exact set_kept (set_kept (corrKeep_kept (stampSent_kept (hk0) h101 h102 h103 h104 h105 h106 h107 h108 h109 h110 h111 h112 h113 h114 h115) h101) h116) h117

theorem linkUpNow_kept {σ : Scope} {ρ : State} {s0 : State} {n : ℕ} {speed : ℕ} (hk0 : Kept σ ρ s0) (h101 : σ.part .sw = true) (h102 : σ.part .mem = true) (h103 : σ.part .ports = true) (h104 : σ.part .mscl = true) (h105 : σ.part .gang = true) (h106 : σ.part .stamps = true) (h107 : ∀ n, σ.page (pPORT n)) (h108 : σ.fld pCAPTURE F.CAPTURE.LOST.COUNT) (h109 : σ.fld pCAPTURE (Fld.mk 12 9 1)) (h110 : σ.fld pCAPTURE F.CAPTURE.WR_SEQ.SEQ) (h111 : σ.fld pCAPTURE (Fld.mk 12 8 1)) (h112 : σ.fld pBUFMEM (Fld.mk 12 13 1)) (h113 : σ.fld pSTAMP F.STAMP.ONESTEP_ERR.COUNT) (h114 : σ.fld pSTAMP (Fld.mk 12 8 1)) (h115 : σ.fld pSTAMP F.STAMP.TXQOVF.COUNT) (h116 : σ.fld pSTAMP (Fld.mk 12 9 1)) (h117 : σ.fld pSTAMP (Fld.mk 12 10 1)) (h118 : σ.fld pSTAMP (F.STAMP.LAT.ING_LAT.at (32 * n))) (h119 : σ.fld pSTAMP (F.STAMP.LAT.EGR_LAT.at (32 * n))) :
    Kept σ ρ (State.linkUpNow s0 n speed) := by
  unfold State.linkUpNow
  exact Kept.ite (hk0) (event_kept (setPort_kept (latLoad_kept (set_kept (set_kept (setB_kept (set_kept (set_kept (set_kept (holdOver_kept (hk0) h101 h102 h103 h107 h108 h109 h110 h111 h112) (h107 _).fld) (h107 _).fld) (h107 _).fld) (h107 _).fld) (h107 _).fld) (h107 _).fld) h103 h104 h101 h102 h105 h106 h113 h114 h108 h109 h110 h111 h115 h116 h117 h118 h119) h103) (h107 _).fld)

theorem corrKeepAll_kept {σ : Scope} {ρ : State} {s : State} {on : Bool} (hk0 : Kept σ ρ s) (h101 : σ.part .ports = true) :
    Kept σ ρ (State.corrKeepAll s on) := by
  unfold State.corrKeepAll
  exact Kept.foldl (fun x0 a1 k2 => corrKeep_kept (k2) h101) _ _ (hk0)

theorem stampLoad_kept {σ : Scope} {ρ : State} {s0 : State} (hk0 : Kept σ ρ s0) (h101 : σ.part .ports = true) (h102 : σ.part .cal = true) (h103 : σ.part .mscl = true) (h104 : σ.part .sw = true) (h105 : σ.part .mem = true) (h106 : σ.part .gang = true) (h107 : σ.part .stamps = true) (h108 : σ.fld pCAPTURE F.CAPTURE.LOST.COUNT) (h109 : σ.fld pCAPTURE (Fld.mk 12 9 1)) (h110 : σ.fld pCAPTURE F.CAPTURE.WR_SEQ.SEQ) (h111 : σ.fld pCAPTURE (Fld.mk 12 8 1)) (h112 : σ.page pSTAMP) :
    Kept σ ρ (State.stampLoad s0) := by
  unfold State.stampLoad
  exact Kept.foldl (fun x5 a6 k7 => Kept.ite (latLoad_kept (k7) h101 h103 h104 h105 h106 h107 h112.fld h112.fld h108 h109 h110 h111 h112.fld h112.fld h112.fld h112.fld h112.fld) (k7)) _ _ (Kept.cal (corrKeepAll_kept (hk0) h101) h102)

theorem stampsDue_kept {σ : Scope} {ρ : State} {s : State} (hk0 : Kept σ ρ s) (h101 : σ.part .ports = true) (h102 : σ.part .mscl = true) (h103 : σ.part .sw = true) (h104 : σ.part .mem = true) (h105 : σ.part .gang = true) (h106 : σ.part .stamps = true) (h107 : σ.fld pSTAMP F.STAMP.ONESTEP_ERR.COUNT) (h108 : σ.fld pSTAMP (Fld.mk 12 8 1)) (h109 : σ.fld pCAPTURE F.CAPTURE.LOST.COUNT) (h110 : σ.fld pCAPTURE (Fld.mk 12 9 1)) (h111 : σ.fld pCAPTURE F.CAPTURE.WR_SEQ.SEQ) (h112 : σ.fld pCAPTURE (Fld.mk 12 8 1)) (h113 : σ.fld pSTAMP F.STAMP.TXQOVF.COUNT) (h114 : σ.fld pSTAMP (Fld.mk 12 9 1)) (h115 : σ.fld pSTAMP (Fld.mk 12 10 1)) :
    Kept σ ρ (State.stampsDue s) := by
  unfold State.stampsDue
  exact Kept.foldl (fun x0 a1 k2 => stampSent_kept (k2) h101 h102 h103 h104 h105 h106 h107 h108 h109 h110 h111 h112 h113 h114 h115) _ _ (hk0)

theorem sentCount_kept {σ : Scope} {ρ : State} {s : State} {now : Bool} {n : ℕ} {i : ℕ} {k : ℕ} (hk0 : Kept σ ρ s) (h101 : σ.fld (pPORT n) (portCtr i)) :
    Kept σ ρ (State.sentCount s now n i k) := by
  unfold State.sentCount
  exact Kept.ite (portCount_kept (hk0) h101) (bumpBy_kept (hk0) h101)

theorem ownFrameLeft_kept {σ : Scope} {ρ : State} {s : State} {n : ℕ} (hk0 : Kept σ ρ s) (h101 : σ.part .plat = true) :
    Kept σ ρ (State.ownFrameLeft s n) := by
  unfold State.ownFrameLeft
  exact Kept.plat (hk0) h101

theorem frameSent_kept {σ : Scope} {ρ : State} {s : State} {n : ℕ} {l : Leaving} (hk0 : Kept σ ρ s) (h101 : σ.part .ports = true) (h102 : σ.part .plat = true) (h103 : σ.fld (pPORT n) (portCtr 9)) (h104 : σ.fld (pPORT n) (portCtr 10)) (h105 : σ.fld (pPORT n) (portCtr 11)) :
    Kept σ ρ (State.frameSent s n l) := by
  unfold State.frameSent
  exact Kept.cut (fun k7 => Kept.cut (fun k9 => Kept.ite (ownFrameLeft_kept (k9) h102) (k9)) (Kept.ite (sentCount_kept (k7) h105) (k7))) (sentCount_kept (sentCount_kept (setPort_kept (hk0) h101) h103) h104)

theorem settle_kept {σ : Scope} {ρ : State} {s : State} {n : ℕ} (hk0 : Kept σ ρ s) (h101 : σ.part .ports = true) (h102 : σ.part .mscl = true) (h103 : σ.part .sw = true) (h104 : σ.part .mem = true) (h105 : σ.part .gang = true) (h106 : σ.part .stamps = true) (h107 : σ.part .plat = true) (h108 : σ.fld pSTAMP F.STAMP.ONESTEP_ERR.COUNT) (h109 : σ.fld pSTAMP (Fld.mk 12 8 1)) (h110 : σ.fld pCAPTURE F.CAPTURE.LOST.COUNT) (h111 : σ.fld pCAPTURE (Fld.mk 12 9 1)) (h112 : σ.fld pCAPTURE F.CAPTURE.WR_SEQ.SEQ) (h113 : σ.fld pCAPTURE (Fld.mk 12 8 1)) (h114 : σ.fld pSTAMP F.STAMP.TXQOVF.COUNT) (h115 : σ.fld pSTAMP (Fld.mk 12 9 1)) (h116 : σ.fld pSTAMP (Fld.mk 12 10 1)) (h117 : σ.fld (pPORT n) (portCtr 9)) (h118 : σ.fld (pPORT n) (portCtr 10)) (h119 : σ.fld (pPORT n) (portCtr 11)) :
    Kept σ ρ (State.settle s n) := by
  unfold State.settle
  exact Kept.cut (fun k1 => (by (try dsimp only); split; exacts [k1, Kept.ite (k1) (frameSent_kept (k1) h101 h107 h117 h118 h119)])) (stampSent_kept (hk0) h101 h102 h103 h104 h105 h106 h108 h109 h110 h111 h112 h113 h114 h115 h116)

theorem setSa_kept {σ : Scope} {ρ : State} {s : State} {n : ℕ} {a : ℕ} {k : Option SaKey} (hk0 : Kept σ ρ s) (h101 : σ.part .sw = true) :
    Kept σ ρ (State.setSa s n a k) := by
  unfold State.setSa
  exact Kept.sw (hk0) h101

theorem secure_kept {σ : Scope} {ρ : State} {s : State} {n : ℕ} {f : Frame} (hk0 : Kept σ ρ s) (h101 : σ.part .sw = true) (h102 : σ.fld pMACSEC (msf F.MACSEC.TX_NO_SA.COUNT n)) (h103 : σ.fld pMACSEC (msf F.MACSEC.TX_PN.PN n)) (h104 : σ.fld pMACSEC (Fld.mk 12 9 1)) :
    Kept σ ρ (State.secure s n f).1 := by
  unfold State.secure
  exact Kept.iteFst (hk0) ((by (try dsimp only); split; exacts [bump_kept (hk0) h102, Kept.iteFst (bump_kept (hk0) h102) (Kept.cut (fun k1 => Kept.ite (event_kept (setSa_kept (k1) h101) h104) (k1)) (set_kept (hk0) h103))]))

theorem metered_kept {σ : Scope} {ρ : State} {s : State} {x : QFrame} {f : Frame} (hk0 : Kept σ ρ s) (h101 : σ.part .tally = true) :
    Kept σ ρ (State.metered s x f) := by
  unfold State.metered
  exact Kept.ite (Kept.tally (hk0) h101) (hk0)

theorem onWire_kept {σ : Scope} {ρ : State} {s : State} {n : ℕ} {x : QFrame} {f : Frame} {pred : Option ℕ} {dev : ℤ} {st : Start} (hk0 : Kept σ ρ s) (h101 : σ.part .ports = true) :
    Kept σ ρ (State.onWire s n x f pred dev st) := by
  unfold State.onWire
  exact setPort_kept (hk0) h101

theorem startFrame_kept {σ : Scope} {ρ : State} {s00 : State} {n : ℕ} {x : QFrame} {st : Start} (hk0 : Kept σ ρ s00) (h101 : σ.part .sw = true) (h102 : σ.part .mem = true) (h103 : σ.part .ports = true) (h104 : σ.part .tally = true) (h105 : σ.page pBUFMEM) (h106 : σ.fld pCAPTURE F.CAPTURE.LOST.COUNT) (h107 : σ.fld pCAPTURE (Fld.mk 12 9 1)) (h108 : σ.fld pCAPTURE F.CAPTURE.WR_SEQ.SEQ) (h109 : σ.fld pCAPTURE (Fld.mk 12 8 1)) (h110 : σ.fld pSWITCH F.SWITCH.STOMPED.COUNT) (h111 : σ.fld pSWITCH (Fld.mk 12 8 1)) (h112 : σ.fld pMACSEC (msf F.MACSEC.TX_NO_SA.COUNT n)) (h113 : σ.fld pMACSEC (msf F.MACSEC.TX_PN.PN n)) (h114 : σ.fld pMACSEC (Fld.mk 12 9 1)) :
    Kept σ ρ (State.startFrame s00 n x st) := by
  unfold State.startFrame
  exact Kept.cut (fun k3 => Kept.ite (capture_kept (k3) h101 h102 h106 h107 h108 h109) (Kept.cut (fun k5 => (by (try dsimp only); split; exacts [capture_kept (secure_kept (k5) h101 h112 h113 h114) h101 h102 h106 h107 h108 h109, metered_kept (onWire_kept (secure_kept (k5) h101 h112 h113 h114) h103) h104])) (Kept.ite (event_kept (bump_kept (k3) h110) h111) (k3)))) (roomMark_kept (Kept.sw (readRows_kept (hk0) h101 h105) h101) h101 h105.fld)

theorem pauseIn_kept {σ : Scope} {ρ : State} {s : State} {n : ℕ} {quanta : ℕ} (hk0 : Kept σ ρ s) (h101 : σ.part .ports = true) (h102 : σ.fld (pPORT n) (portCtr 7)) (h103 : σ.fld (pPORT n) F.PORT.STS.RX_PAUSED) :
    Kept σ ρ (State.pauseIn s n quanta) := by
  unfold State.pauseIn
  exact Kept.ite (hk0) (Kept.cut (fun k1 => Kept.ite (Kept.ite (set_kept (setPort_kept (k1) h101) h103) (set_kept (setPort_kept (k1) h101) h103)) (k1)) (portCount_kept (hk0) h102))

theorem stampStop_kept {σ : Scope} {ρ : State} {s : State} (hk0 : Kept σ ρ s) (h101 : σ.part .ports = true) (h102 : σ.part .mscl = true) (h103 : σ.part .sw = true) (h104 : σ.part .mem = true) (h105 : σ.part .gang = true) (h106 : σ.part .stamps = true) (h107 : σ.fld pSTAMP F.STAMP.ONESTEP_ERR.COUNT) (h108 : σ.fld pSTAMP (Fld.mk 12 8 1)) (h109 : σ.fld pCAPTURE F.CAPTURE.LOST.COUNT) (h110 : σ.fld pCAPTURE (Fld.mk 12 9 1)) (h111 : σ.fld pCAPTURE F.CAPTURE.WR_SEQ.SEQ) (h112 : σ.fld pCAPTURE (Fld.mk 12 8 1)) (h113 : σ.fld pSTAMP F.STAMP.TXQOVF.COUNT) (h114 : σ.fld pSTAMP (Fld.mk 12 9 1)) (h115 : σ.fld pSTAMP (Fld.mk 12 10 1)) :
    Kept σ ρ (State.stampStop s) := by
  unfold State.stampStop
  exact corrKeepAll_kept (stampsDue_kept (hk0) h101 h102 h103 h104 h105 h106 h107 h108 h109 h110 h111 h112 h113 h114 h115) h101

theorem cutOff_kept {σ : Scope} {ρ : State} {s : State} {n : ℕ} (hk0 : Kept σ ρ s) (h101 : σ.part .ports = true) (h102 : σ.fld (pPORT n) (portCtr 13)) :
    Kept σ ρ (State.cutOff s n) := by
  unfold State.cutOff
  exact (by (try dsimp only); split; exacts [hk0, portCount_kept (setPort_kept (hk0) h101) h102])

theorem latClear_kept {σ : Scope} {ρ : State} {s : State} {n : ℕ} (hk0 : Kept σ ρ s) (h101 : σ.part .ports = true) (h102 : σ.part .mscl = true) (h103 : σ.part .sw = true) (h104 : σ.part .mem = true) (h105 : σ.part .gang = true) (h106 : σ.part .stamps = true) (h107 : σ.fld pSTAMP F.STAMP.ONESTEP_ERR.COUNT) (h108 : σ.fld pSTAMP (Fld.mk 12 8 1)) (h109 : σ.fld pCAPTURE F.CAPTURE.LOST.COUNT) (h110 : σ.fld pCAPTURE (Fld.mk 12 9 1)) (h111 : σ.fld pCAPTURE F.CAPTURE.WR_SEQ.SEQ) (h112 : σ.fld pCAPTURE (Fld.mk 12 8 1)) (h113 : σ.fld pSTAMP F.STAMP.TXQOVF.COUNT) (h114 : σ.fld pSTAMP (Fld.mk 12 9 1)) (h115 : σ.fld pSTAMP (Fld.mk 12 10 1)) (h116 : σ.fld pSTAMP (F.STAMP.LAT.ING_LAT.at (32 * n))) (h117 : σ.fld pSTAMP (F.STAMP.LAT.EGR_LAT.at (32 * n))) :
    Kept σ ρ (State.latClear s n) := by
  unfold State.latClear
  exact set_kept (set_kept (corrKeep_kept (stampSent_kept (hk0) h101 h102 h103 h104 h105 h106 h107 h108 h109 h110 h111 h112 h113 h114 h115) h101) h116) h117

theorem snapPort_kept {σ : Scope} {ρ : State} {s0 : State} {n : ℕ} (hk0 : Kept σ ρ s0) (h101 : σ.part .ports = true) (h102 : σ.part .mscl = true) (h103 : σ.part .sw = true) (h104 : σ.part .mem = true) (h105 : σ.part .gang = true) (h106 : σ.part .stamps = true) (h107 : σ.part .plat = true) (h108 : σ.fld pSTAMP F.STAMP.ONESTEP_ERR.COUNT) (h109 : σ.fld pSTAMP (Fld.mk 12 8 1)) (h110 : σ.fld pCAPTURE F.CAPTURE.LOST.COUNT) (h111 : σ.fld pCAPTURE (Fld.mk 12 9 1)) (h112 : σ.fld pCAPTURE F.CAPTURE.WR_SEQ.SEQ) (h113 : σ.fld pCAPTURE (Fld.mk 12 8 1)) (h114 : σ.fld pSTAMP F.STAMP.TXQOVF.COUNT) (h115 : σ.fld pSTAMP (Fld.mk 12 9 1)) (h116 : σ.fld pSTAMP (Fld.mk 12 10 1)) (h117 : σ.page (pPORT n)) :
    Kept σ ρ (State.snapPort s0 n) := by
  unfold State.snapPort
  exact event_kept (set_kept (Kept.foldl (fun x15 a16 k17 => set_kept (k17) h117.fld) _ _ (settle_kept (hk0) h101 h102 h103 h104 h105 h106 h107 h108 h109 h110 h111 h112 h113 h114 h115 h116 h117.fld h117.fld h117.fld)) h117.fld) h117.fld

theorem snapWrite_kept {σ : Scope} {ρ : State} {s : State} {n : ℕ} {all : Bool} (hk0 : Kept σ ρ s) (h101 : σ.part .ports = true) (h102 : σ.part .mscl = true) (h103 : σ.part .sw = true) (h104 : σ.part .mem = true) (h105 : σ.part .gang = true) (h106 : σ.part .stamps = true) (h107 : σ.part .plat = true) (h108 : σ.fld pSTAMP F.STAMP.ONESTEP_ERR.COUNT) (h109 : σ.fld pSTAMP (Fld.mk 12 8 1)) (h110 : σ.fld pCAPTURE F.CAPTURE.LOST.COUNT) (h111 : σ.fld pCAPTURE (Fld.mk 12 9 1)) (h112 : σ.fld pCAPTURE F.CAPTURE.WR_SEQ.SEQ) (h113 : σ.fld pCAPTURE (Fld.mk 12 8 1)) (h114 : σ.fld pSTAMP F.STAMP.TXQOVF.COUNT) (h115 : σ.fld pSTAMP (Fld.mk 12 9 1)) (h116 : σ.fld pSTAMP (Fld.mk 12 10 1)) (h117 : ∀ n, σ.page (pPORT n)) :
    Kept σ ρ (State.snapWrite s n all) := by
  unfold State.snapWrite
  exact Kept.foldl (fun x0 a1 k2 => snapPort_kept (k2) h101 h102 h103 h104 h105 h106 h107 h108 h109 h110 h111 h112 h113 h114 h115 h116 (h117 _)) _ _ (setB_kept (hk0) (h117 _).fld)

theorem gclSwapAsk_kept {σ : Scope} {ρ : State} {s : State} {n : ℕ} (hk0 : Kept σ ρ s) (h101 : σ.part .ports = true) (h102 : σ.fld (pPORT n) F.PORT.GCL_CFG.SWAP) (h103 : σ.fld (pPORT n) F.HDR.PSTS.CODE) (h104 : σ.fld (pPORT n) F.HDR.PSTS.INDEX) (h105 : σ.fld (pPORT n) F.HDR.PSTS.REFUSED) (h106 : σ.fld (pPORT n) (Fld.mk 12 0 1)) :
    Kept σ ρ (State.gclSwapAsk s n) := by
  unfold State.gclSwapAsk
  exact Kept.ite (hk0) (Kept.ite (set_kept (setPort_kept (hk0) h101) h102) (refuse_kept (hk0) h103 h104 h105 h106))

theorem fallback_kept {σ : Scope} {ρ : State} {s : State} {n : ℕ} (hk0 : Kept σ ρ s) (h101 : σ.part .ports = true) (h102 : σ.fld (pPORT n) F.PORT.STS.LMODE) (h103 : σ.fld (pPORT n) (portCtr 19)) (h104 : σ.fld (pPORT n) (Fld.mk 12 10 1)) :
    Kept σ ρ (State.fallback s n) := by
  unfold State.fallback
  exact Kept.ite (Kept.cut (fun k5 => Kept.ite (event_kept (k5) h104) (k5)) (portCount_kept (set_kept (setPort_kept (advance_kept (hk0)) h101) h102) h103)) (hk0)

theorem gclNext_kept {σ : Scope} {ρ : State} {s : State} {n : ℕ} (hk0 : Kept σ ρ s) (h101 : σ.part .ports = true) :
    Kept σ ρ (State.gclNext s n) := by
  unfold State.gclNext
  exact Kept.ite (setPort_kept (advanceT_kept (hk0)) h101) (hk0)

theorem gclSwapDo_kept {σ : Scope} {ρ : State} {s : State} {n : ℕ} (hk0 : Kept σ ρ s) (h101 : σ.part .ports = true) (h102 : σ.fld (pPORT n) F.PORT.GCL_CFG.ACTIVE) (h103 : σ.fld (pPORT n) F.PORT.GCL_CFG.SWAP) (h104 : σ.fld (pPORT n) F.PORT.STS.GCL_MISMATCH) (h105 : σ.fld (pPORT n) (Fld.mk 12 15 1)) (h106 : σ.fld (pPORT n) (Fld.mk 12 13 1)) :
    Kept σ ρ (State.gclSwapDo s n) := by
  unfold State.gclSwapDo
  exact (by (try dsimp only); split; exacts [hk0, event_kept (setPort_kept (gclMatch_kept (set_kept (set_kept (advanceT_kept (hk0)) h102) h103) h104 h105) h101) h106])

theorem holdExpire_kept {σ : Scope} {ρ : State} {s : State} {n : ℕ} (hk0 : Kept σ ρ s) (h101 : σ.part .sw = true) (h102 : σ.part .mem = true) (h103 : σ.part .ports = true) (h104 : ∀ n, σ.page (pPORT n)) (h105 : σ.fld pCAPTURE F.CAPTURE.LOST.COUNT) (h106 : σ.fld pCAPTURE (Fld.mk 12 9 1)) (h107 : σ.fld pCAPTURE F.CAPTURE.WR_SEQ.SEQ) (h108 : σ.fld pCAPTURE (Fld.mk 12 8 1)) (h109 : σ.fld pBUFMEM (Fld.mk 12 13 1)) :
    Kept σ ρ (State.holdExpire s n) := by
  unfold State.holdExpire
  exact (by split; exacts [hk0, holdClose_kept (advanceT_kept (hk0)) h101 h102 h103 h104 h105 h106 h107 h108 h109])

theorem linkDownNow_kept {σ : Scope} {ρ : State} {s : State} {n : ℕ} (hk0 : Kept σ ρ s) (h101 : σ.part .ports = true) (h102 : σ.part .mscl = true) (h103 : σ.part .sw = true) (h104 : σ.part .mem = true) (h105 : σ.part .gang = true) (h106 : σ.part .stamps = true) (h107 : σ.part .plat = true) (h108 : σ.fld pSTAMP F.STAMP.ONESTEP_ERR.COUNT) (h109 : σ.fld pSTAMP (Fld.mk 12 8 1)) (h110 : σ.fld pCAPTURE F.CAPTURE.LOST.COUNT) (h111 : σ.fld pCAPTURE (Fld.mk 12 9 1)) (h112 : σ.fld pCAPTURE F.CAPTURE.WR_SEQ.SEQ) (h113 : σ.fld pCAPTURE (Fld.mk 12 8 1)) (h114 : σ.fld pSTAMP F.STAMP.TXQOVF.COUNT) (h115 : σ.fld pSTAMP (Fld.mk 12 9 1)) (h116 : σ.fld pSTAMP (Fld.mk 12 10 1)) (h117 : σ.fld pGANGCTL F.GANGCTL.STS.OFS_VALID) (h118 : σ.fld pSTAMP (F.STAMP.LAT.ING_LAT.at (32 * n))) (h119 : σ.fld pSTAMP (F.STAMP.LAT.EGR_LAT.at (32 * n))) (h120 : ∀ n, σ.page (pPORT n)) (h121 : σ.fld pBUFMEM (Fld.mk 12 13 1)) :
    Kept σ ρ (State.linkDownNow s n) := by
  unfold State.linkDownNow
  exact Kept.ite (hk0) (Kept.cut (fun k61 => Kept.ite (holdClose_kept (set_kept (k61) (h120 _).fld) h103 h104 h101 h120 h110 h111 h112 h113 h121) (set_kept (k61) (h120 _).fld)) (setPort_kept (latClear_kept (set_kept (set_kept (set_kept (set_kept (event_kept (portCount_kept (leadLink_kept (set_kept (cutOff_kept (settle_kept (hk0) h101 h102 h103 h104 h105 h106 h107 h108 h109 h110 h111 h112 h113 h114 h115 h116 (h120 _).fld (h120 _).fld (h120 _).fld) h101 (h120 _).fld) (h120 _).fld) h117) (h120 _).fld) (h120 _).fld) (h120 _).fld) (h120 _).fld) (h120 _).fld) (h120 _).fld) h101 h102 h103 h104 h105 h106 h108 h109 h110 h111 h112 h113 h114 h115 h116 h118 h119) h101))

theorem lockLoss_kept {σ : Scope} {ρ : State} {s : State} {n : ℕ} (hk0 : Kept σ ρ s) (h101 : σ.part .ports = true) (h102 : σ.part .mscl = true) (h103 : σ.part .sw = true) (h104 : σ.part .mem = true) (h105 : σ.part .gang = true) (h106 : σ.part .stamps = true) (h107 : σ.part .plat = true) (h108 : σ.fld pSTAMP F.STAMP.ONESTEP_ERR.COUNT) (h109 : σ.fld pSTAMP (Fld.mk 12 8 1)) (h110 : σ.fld pCAPTURE F.CAPTURE.LOST.COUNT) (h111 : σ.fld pCAPTURE (Fld.mk 12 9 1)) (h112 : σ.fld pCAPTURE F.CAPTURE.WR_SEQ.SEQ) (h113 : σ.fld pCAPTURE (Fld.mk 12 8 1)) (h114 : σ.fld pSTAMP F.STAMP.TXQOVF.COUNT) (h115 : σ.fld pSTAMP (Fld.mk 12 9 1)) (h116 : σ.fld pSTAMP (Fld.mk 12 10 1)) (h117 : σ.fld (pPORT n) (portCtr 9)) (h118 : σ.fld (pPORT n) (portCtr 10)) (h119 : σ.fld (pPORT n) (portCtr 11)) (h120 : σ.fld (pPORT n) (portCtr 13)) :
    Kept σ ρ (State.lockLoss s n) := by
  unfold State.lockLoss
  exact Kept.ite (hk0) (setPort_kept (cutOff_kept (settle_kept (hk0) h101 h102 h103 h104 h105 h106 h107 h108 h109 h110 h111 h112 h113 h114 h115 h116 h117 h118 h119) h101 h120) h101)

theorem pauseNext_kept {σ : Scope} {ρ : State} {s : State} {n : ℕ} (hk0 : Kept σ ρ s) (h101 : σ.part .ports = true) :
    Kept σ ρ (State.pauseNext s n) := by
  unfold State.pauseNext
  exact setPort_kept (hk0) h101

theorem sendPause_kept {σ : Scope} {ρ : State} {s : State} {n : ℕ} {quanta : ℕ} (hk0 : Kept σ ρ s) (h101 : σ.part .ports = true) :
    Kept σ ρ (State.sendPause s n quanta) := by
  unfold State.sendPause
  exact onWire_kept (hk0) h101

theorem pauseNow_kept {σ : Scope} {ρ : State} {s0 : State} {n : ℕ} (hk0 : Kept σ ρ s0) (h101 : σ.part .ports = true) (h102 : σ.part .mscl = true) (h103 : σ.part .sw = true) (h104 : σ.part .mem = true) (h105 : σ.part .gang = true) (h106 : σ.part .stamps = true) (h107 : σ.part .plat = true) (h108 : σ.fld pSTAMP F.STAMP.ONESTEP_ERR.COUNT) (h109 : σ.fld pSTAMP (Fld.mk 12 8 1)) (h110 : σ.fld pCAPTURE F.CAPTURE.LOST.COUNT) (h111 : σ.fld pCAPTURE (Fld.mk 12 9 1)) (h112 : σ.fld pCAPTURE F.CAPTURE.WR_SEQ.SEQ) (h113 : σ.fld pCAPTURE (Fld.mk 12 8 1)) (h114 : σ.fld pSTAMP F.STAMP.TXQOVF.COUNT) (h115 : σ.fld pSTAMP (Fld.mk 12 9 1)) (h116 : σ.fld pSTAMP (Fld.mk 12 10 1)) (h117 : σ.fld (pPORT n) (portCtr 9)) (h118 : σ.fld (pPORT n) (portCtr 10)) (h119 : σ.fld (pPORT n) (portCtr 11)) (h120 : σ.fld (pPORT n) F.PORT.STS.TX_PAUSING) (h121 : σ.fld (pPORT n) (Fld.mk 12 12 1)) :
    Kept σ ρ (State.pauseNow s0 n) := by
  unfold State.pauseNow
  exact Kept.cut (fun k1 => Kept.ite (k1) (Kept.ite (pauseNext_kept (event_kept (set_kept (sendPause_kept (k1) h101) h120) h121) h101) (Kept.ite (pauseNext_kept (sendPause_kept (k1) h101) h101) (Kept.ite (setPort_kept (set_kept (sendPause_kept (k1) h101) h120) h101) (k1))))) (settle_kept (hk0) h101 h102 h103 h104 h105 h106 h107 h108 h109 h110 h111 h112 h113 h114 h115 h116 h117 h118 h119)

theorem pauseAgain_kept {σ : Scope} {ρ : State} {s : State} {n : ℕ} (hk0 : Kept σ ρ s) (h101 : σ.part .ports = true) (h102 : σ.part .mscl = true) (h103 : σ.part .sw = true) (h104 : σ.part .mem = true) (h105 : σ.part .gang = true) (h106 : σ.part .stamps = true) (h107 : σ.part .plat = true) (h108 : σ.fld pSTAMP F.STAMP.ONESTEP_ERR.COUNT) (h109 : σ.fld pSTAMP (Fld.mk 12 8 1)) (h110 : σ.fld pCAPTURE F.CAPTURE.LOST.COUNT) (h111 : σ.fld pCAPTURE (Fld.mk 12 9 1)) (h112 : σ.fld pCAPTURE F.CAPTURE.WR_SEQ.SEQ) (h113 : σ.fld pCAPTURE (Fld.mk 12 8 1)) (h114 : σ.fld pSTAMP F.STAMP.TXQOVF.COUNT) (h115 : σ.fld pSTAMP (Fld.mk 12 9 1)) (h116 : σ.fld pSTAMP (Fld.mk 12 10 1)) (h117 : σ.fld (pPORT n) (portCtr 9)) (h118 : σ.fld (pPORT n) (portCtr 10)) (h119 : σ.fld (pPORT n) (portCtr 11)) (h120 : σ.fld (pPORT n) F.PORT.STS.TX_PAUSING) (h121 : σ.fld (pPORT n) (Fld.mk 12 12 1)) :
    Kept σ ρ (State.pauseAgain s n) := by
  unfold State.pauseAgain
  exact (by split; exacts [hk0, pauseNow_kept (advanceT_kept (hk0)) h101 h102 h103 h104 h105 h106 h107 h108 h109 h110 h111 h112 h113 h114 h115 h116 h117 h118 h119 h120 h121])

theorem pauseEnd_kept {σ : Scope} {ρ : State} {s : State} {n : ℕ} (hk0 : Kept σ ρ s) (h101 : σ.part .ports = true) (h102 : σ.fld (pPORT n) F.PORT.STS.RX_PAUSED) :
    Kept σ ρ (State.pauseEnd s n) := by
  unfold State.pauseEnd
  exact (by (try dsimp only); split; exacts [hk0, set_kept (setPort_kept (advanceT_kept (hk0)) h101) h102])

theorem txScan_kept {σ : Scope} {ρ s : State} {n t fuel : Nat} {rd : TxRead} {l : List Nat} (h : Kept σ ρ s)
    (hw : σ.part .sw = true) (hp : σ.part .ports = true) (hm : σ.part .mem = true) (ht : σ.part .tally = true) (ha : ∀ n, σ.page (pPORT n)) (h1 : σ.page pBUFMEM) (h2 : σ.page pMACSEC)
    (h3 : σ.page pCAPTURE) (h5 : σ.page pSWITCH) : Kept σ ρ (s.txScan n t rd fuel l) := by
  induction fuel generalizing s l with
  | zero => exact h
  | succ fuel ih =>
    cases l with
    | nil => exact h
    | cons q qs =>
      unfold State.txScan
      split
      · exact ih h
      · split
        · exact ih (Kept.sw (dropCopy_kept h hw hm (ha _).fld (ha _).fld h3.fld h3.fld h3.fld h3.fld) hw)
        · split
          · exact ih h
          · split
            · exact startFrame_kept h hw hm hp ht h1 h3.fld h3.fld h3.fld h3.fld h5.fld h5.fld h2.fld h2.fld h2.fld
            · refine ih ?_
              dsimp only
              split
              · exact h
              · exact portCount_kept (Kept.sw h hw) (ha _).fld

theorem txStart_kept {σ : Scope} {ρ : State} {s : State} {n : ℕ} {rd : TxRead} (hk0 : Kept σ ρ s) (h101 : σ.part .sw = true) (h102 : σ.part .mem = true) (h103 : σ.part .dup = true) (h104 : σ.part .ports = true) (h105 : σ.part .mscl = true) (h106 : σ.part .gang = true) (h107 : σ.part .stamps = true) (h108 : σ.part .plat = true) (h109 : σ.part .tally = true) (h110 : ∀ n, σ.page (pPORT n)) (h111 : σ.fld pSTAMP F.STAMP.ONESTEP_ERR.COUNT) (h112 : σ.fld pSTAMP (Fld.mk 12 8 1)) (h113 : σ.fld pSTAMP F.STAMP.TXQOVF.COUNT) (h114 : σ.fld pSTAMP (Fld.mk 12 9 1)) (h115 : σ.fld pSTAMP (Fld.mk 12 10 1)) (h116 : σ.page pBUFMEM) (h117 : σ.page pMACSEC) (h118 : σ.page pCAPTURE) (h119 : σ.page pSWITCH) :
    Kept σ ρ (State.txStart s n rd) := by
  unfold State.txStart
  exact Kept.cut (fun k5 => Kept.ite (pauseNow_kept (k5) h104 h105 h101 h102 h106 h107 h108 h111 h112 h118.fld h118.fld h118.fld h118.fld h113 h114 h115 (h110 _).fld (h110 _).fld (h110 _).fld (h110 _).fld (h110 _).fld) (Kept.ite (txScan_kept (k5) h101 h104 h102 h109 h110 h116 h117 h118 h119) (k5))) (settle_kept (stampsDue_kept (Kept.ite (noticesDue_kept (hk0) h101 h102 h103 h119.fld h119.fld h110 h118.fld h118.fld h118.fld h118.fld h116.fld) (hk0)) h104 h105 h101 h102 h106 h107 h111 h112 h118.fld h118.fld h118.fld h118.fld h113 h114 h115) h104 h105 h101 h102 h106 h107 h108 h111 h112 h118.fld h118.fld h118.fld h118.fld h113 h114 h115 (h110 _).fld (h110 _).fld (h110 _).fld)

theorem execGclEntryChange_kept {σ : Scope} {port : ℕ} {s : State} (h101 : σ.part .ports = true) :
    KeptNext σ s (execGclEntryChange port s) := by
  unfold execGclEntryChange
  exact KeptNext.next (gclNext_kept (Kept.refl σ s) h101)

theorem execGclSwapApply_kept {σ : Scope} {port : ℕ} {s : State} (h101 : σ.part .ports = true) (h102 : σ.fld (pPORT port) F.PORT.GCL_CFG.ACTIVE) (h103 : σ.fld (pPORT port) F.PORT.GCL_CFG.SWAP) (h104 : σ.fld (pPORT port) F.PORT.STS.GCL_MISMATCH) (h105 : σ.fld (pPORT port) (Fld.mk 12 15 1)) (h106 : σ.fld (pPORT port) (Fld.mk 12 13 1)) :
    KeptNext σ s (execGclSwapApply port s) := by
  unfold execGclSwapApply
  exact KeptNext.next (gclSwapDo_kept (Kept.refl σ s) h101 h102 h103 h104 h105 h106)

theorem execGclSwapWrite_kept {σ : Scope} {clk : ℕ} {port : ℕ} {s : State} (h101 : σ.part .ports = true) (h102 : σ.part .page = true) (h103 : σ.fld (pPORT port) F.PORT.GCL_CFG.SWAP) (h104 : σ.fld (pPORT port) F.HDR.PSTS.CODE) (h105 : σ.fld (pPORT port) F.HDR.PSTS.INDEX) (h106 : σ.fld (pPORT port) F.HDR.PSTS.REFUSED) (h107 : σ.fld (pPORT port) (Fld.mk 12 0 1)) (h108 : σ.fld pSYS (Fld.mk 12 11 1)) :
    KeptNext σ s (execGclSwapWrite clk port s) := by
  unfold execGclSwapWrite
  exact KeptNext.next (Kept.ite (bitWrite_kept (advance_kept (Kept.refl σ s)) (fun x0 k1 => gclSwapAsk_kept (k1) h101 h103 h104 h105 h106 h107) h102 h108 h104 h105 h106 h107) (advance_kept (Kept.refl σ s)))

theorem execHoldWindowClose_kept {σ : Scope} {port : ℕ} {s : State} (h101 : σ.part .sw = true) (h102 : σ.part .mem = true) (h103 : σ.part .ports = true) (h104 : ∀ n, σ.page (pPORT n)) (h105 : σ.fld pCAPTURE F.CAPTURE.LOST.COUNT) (h106 : σ.fld pCAPTURE (Fld.mk 12 9 1)) (h107 : σ.fld pCAPTURE F.CAPTURE.WR_SEQ.SEQ) (h108 : σ.fld pCAPTURE (Fld.mk 12 8 1)) (h109 : σ.fld pBUFMEM (Fld.mk 12 13 1)) :
    KeptNext σ s (execHoldWindowClose port s) := by
  unfold execHoldWindowClose
  exact KeptNext.next (holdExpire_kept (Kept.refl σ s) h101 h102 h103 h104 h105 h106 h107 h108 h109)

theorem execLinkFallbackToggle_kept {σ : Scope} {port : ℕ} {s : State} (h101 : σ.part .ports = true) (h102 : σ.fld (pPORT port) F.PORT.STS.LMODE) (h103 : σ.fld (pPORT port) (portCtr 19)) (h104 : σ.fld (pPORT port) (Fld.mk 12 10 1)) :
    KeptNext σ s (execLinkFallbackToggle port s) := by
  unfold execLinkFallbackToggle
  exact KeptNext.next (fallback_kept (Kept.refl σ s) h101 h102 h103 h104)

theorem execPauseExpire_kept {σ : Scope} {port : ℕ} {s : State} (h101 : σ.part .ports = true) (h102 : σ.fld (pPORT port) F.PORT.STS.RX_PAUSED) :
    KeptNext σ s (execPauseExpire port s) := by
  unfold execPauseExpire
  exact KeptNext.next (pauseEnd_kept (Kept.refl σ s) h101 h102)

theorem execPauseRepeat_kept {σ : Scope} {port : ℕ} {s : State} (h101 : σ.part .ports = true) (h102 : σ.part .mscl = true) (h103 : σ.part .sw = true) (h104 : σ.part .mem = true) (h105 : σ.part .gang = true) (h106 : σ.part .stamps = true) (h107 : σ.part .plat = true) (h108 : σ.fld pSTAMP F.STAMP.ONESTEP_ERR.COUNT) (h109 : σ.fld pSTAMP (Fld.mk 12 8 1)) (h110 : σ.fld pCAPTURE F.CAPTURE.LOST.COUNT) (h111 : σ.fld pCAPTURE (Fld.mk 12 9 1)) (h112 : σ.fld pCAPTURE F.CAPTURE.WR_SEQ.SEQ) (h113 : σ.fld pCAPTURE (Fld.mk 12 8 1)) (h114 : σ.fld pSTAMP F.STAMP.TXQOVF.COUNT) (h115 : σ.fld pSTAMP (Fld.mk 12 9 1)) (h116 : σ.fld pSTAMP (Fld.mk 12 10 1)) (h117 : σ.fld (pPORT port) (portCtr 9)) (h118 : σ.fld (pPORT port) (portCtr 10)) (h119 : σ.fld (pPORT port) (portCtr 11)) (h120 : σ.fld (pPORT port) F.PORT.STS.TX_PAUSING) (h121 : σ.fld (pPORT port) (Fld.mk 12 12 1)) :
    KeptNext σ s (execPauseRepeat port s) := by
  unfold execPauseRepeat
  exact KeptNext.next (pauseAgain_kept (Kept.refl σ s) h101 h102 h103 h104 h105 h106 h107 h108 h109 h110 h111 h112 h113 h114 h115 h116 h117 h118 h119 h120 h121)

theorem execPauseRx_kept {σ : Scope} {clk : ℕ} {port : ℕ} {quanta : ℕ} {s : State} (h101 : σ.part .ports = true) (h102 : σ.fld (pPORT port) (portCtr 7)) (h103 : σ.fld (pPORT port) F.PORT.STS.RX_PAUSED) :
    KeptNext σ s (execPauseRx clk port quanta s) := by
  unfold execPauseRx
  exact KeptNext.next (Kept.ite (pauseIn_kept (advance_kept (Kept.refl σ s)) h101 h102 h103) (advance_kept (Kept.refl σ s)))

theorem execPauseSend_kept {σ : Scope} {clk : ℕ} {port : ℕ} {s : State} (h101 : σ.part .ports = true) (h102 : σ.part .mscl = true) (h103 : σ.part .sw = true) (h104 : σ.part .mem = true) (h105 : σ.part .gang = true) (h106 : σ.part .stamps = true) (h107 : σ.part .plat = true) (h108 : σ.fld pSTAMP F.STAMP.ONESTEP_ERR.COUNT) (h109 : σ.fld pSTAMP (Fld.mk 12 8 1)) (h110 : σ.fld pCAPTURE F.CAPTURE.LOST.COUNT) (h111 : σ.fld pCAPTURE (Fld.mk 12 9 1)) (h112 : σ.fld pCAPTURE F.CAPTURE.WR_SEQ.SEQ) (h113 : σ.fld pCAPTURE (Fld.mk 12 8 1)) (h114 : σ.fld pSTAMP F.STAMP.TXQOVF.COUNT) (h115 : σ.fld pSTAMP (Fld.mk 12 9 1)) (h116 : σ.fld pSTAMP (Fld.mk 12 10 1)) (h117 : σ.fld (pPORT port) (portCtr 9)) (h118 : σ.fld (pPORT port) (portCtr 10)) (h119 : σ.fld (pPORT port) (portCtr 11)) (h120 : σ.fld (pPORT port) F.PORT.STS.TX_PAUSING) (h121 : σ.fld (pPORT port) (Fld.mk 12 12 1)) :
    KeptNext σ s (execPauseSend clk port s) := by
  unfold execPauseSend
  exact KeptNext.next (Kept.ite (pauseNow_kept (advance_kept (Kept.refl σ s)) h101 h102 h103 h104 h105 h106 h107 h108 h109 h110 h111 h112 h113 h114 h115 h116 h117 h118 h119 h120 h121) (advance_kept (Kept.refl σ s)))

theorem execPcsLockLoss_kept {σ : Scope} {clk : ℕ} {port : ℕ} {s : State} (h101 : σ.part .ports = true) (h102 : σ.part .mscl = true) (h103 : σ.part .sw = true) (h104 : σ.part .mem = true) (h105 : σ.part .gang = true) (h106 : σ.part .stamps = true) (h107 : σ.part .plat = true) (h108 : σ.fld pSTAMP F.STAMP.ONESTEP_ERR.COUNT) (h109 : σ.fld pSTAMP (Fld.mk 12 8 1)) (h110 : σ.fld pCAPTURE F.CAPTURE.LOST.COUNT) (h111 : σ.fld pCAPTURE (Fld.mk 12 9 1)) (h112 : σ.fld pCAPTURE F.CAPTURE.WR_SEQ.SEQ) (h113 : σ.fld pCAPTURE (Fld.mk 12 8 1)) (h114 : σ.fld pSTAMP F.STAMP.TXQOVF.COUNT) (h115 : σ.fld pSTAMP (Fld.mk 12 9 1)) (h116 : σ.fld pSTAMP (Fld.mk 12 10 1)) (h117 : σ.fld (pPORT port) (portCtr 9)) (h118 : σ.fld (pPORT port) (portCtr 10)) (h119 : σ.fld (pPORT port) (portCtr 11)) (h120 : σ.fld (pPORT port) (portCtr 13)) :
    KeptNext σ s (execPcsLockLoss clk port s) := by
  unfold execPcsLockLoss
  exact KeptNext.next (Kept.ite (lockLoss_kept (advance_kept (Kept.refl σ s)) h101 h102 h103 h104 h105 h106 h107 h108 h109 h110 h111 h112 h113 h114 h115 h116 h117 h118 h119 h120) (advance_kept (Kept.refl σ s)))

theorem execPortSnap_kept {σ : Scope} {clk : ℕ} {port : ℕ} {all : Bool} {s : State} (h101 : σ.part .ports = true) (h102 : σ.part .mscl = true) (h103 : σ.part .sw = true) (h104 : σ.part .mem = true) (h105 : σ.part .gang = true) (h106 : σ.part .stamps = true) (h107 : σ.part .plat = true) (h108 : σ.part .page = true) (h109 : σ.fld pSTAMP F.STAMP.ONESTEP_ERR.COUNT) (h110 : σ.fld pSTAMP (Fld.mk 12 8 1)) (h111 : σ.fld pCAPTURE F.CAPTURE.LOST.COUNT) (h112 : σ.fld pCAPTURE (Fld.mk 12 9 1)) (h113 : σ.fld pCAPTURE F.CAPTURE.WR_SEQ.SEQ) (h114 : σ.fld pCAPTURE (Fld.mk 12 8 1)) (h115 : σ.fld pSTAMP F.STAMP.TXQOVF.COUNT) (h116 : σ.fld pSTAMP (Fld.mk 12 9 1)) (h117 : σ.fld pSTAMP (Fld.mk 12 10 1)) (h118 : ∀ n, σ.page (pPORT n)) (h119 : σ.fld pSYS (Fld.mk 12 11 1)) :
    KeptNext σ s (execPortSnap clk port all s) := by
  unfold execPortSnap
  exact KeptNext.next (Kept.ite (regWrite_kept (advance_kept (Kept.refl σ s)) (fun x0 k1 => snapWrite_kept (k1) h101 h102 h103 h104 h105 h106 h107 h109 h110 h111 h112 h113 h114 h115 h116 h117 h118) h108 h119 (h118 _).fld (h118 _).fld (h118 _).fld (h118 _).fld) (advance_kept (Kept.refl σ s)))

end Sys2Proof.Laws
end

