-- ==== Sys2Proof/Laws/Kept04.lean ====
section
/-!
SUPPORT. What the operations and commands of these files keep: Machine/Switch, Machine/Cycle, Machine/Reference.
-/

namespace Sys2Proof.Laws

open Sys2Proof Sys2Proof.Machine

theorem rxDropMap_kept {σ : Scope} {ρ : State} {s : State} {n : ℕ} {reason : ℕ} {map : ℕ} {stamp : Option ℕ} {f : Frame} (hk0 : Kept σ ρ s) (h101 : σ.part .sw = true) (h102 : σ.part .mem = true) (h103 : σ.fld pCAPTURE F.CAPTURE.LOST.COUNT) (h104 : σ.fld pCAPTURE (Fld.mk 12 9 1)) (h105 : σ.fld pCAPTURE F.CAPTURE.WR_SEQ.SEQ) (h106 : σ.fld pCAPTURE (Fld.mk 12 8 1)) :
    Kept σ ρ (State.rxDropMap s n reason map stamp f) := by
  unfold State.rxDropMap
  exact capture_kept (hk0) h101 h102 h103 h104 h105 h106

theorem rxDrop_kept {σ : Scope} {ρ : State} {s : State} {n : ℕ} {reason : ℕ} {stamp : Option ℕ} {f : Frame} (hk0 : Kept σ ρ s) (h101 : σ.part .sw = true) (h102 : σ.part .mem = true) (h103 : σ.fld pCAPTURE F.CAPTURE.LOST.COUNT) (h104 : σ.fld pCAPTURE (Fld.mk 12 9 1)) (h105 : σ.fld pCAPTURE F.CAPTURE.WR_SEQ.SEQ) (h106 : σ.fld pCAPTURE (Fld.mk 12 8 1)) :
    Kept σ ρ (State.rxDrop s n reason stamp f) := by
  unfold State.rxDrop
  exact rxDropMap_kept (hk0) h101 h102 h103 h104 h105 h106

theorem rxFail_kept {σ : Scope} {ρ : State} {s : State} {n : ℕ} {i : ℕ} (hk0 : Kept σ ρ s) (h101 : σ.fld (pPORT n) (portCtr i)) (h102 : σ.fld (pPORT n) (Fld.mk 12 11 1)) :
    Kept σ ρ (State.rxFail s n i) := by
  unfold State.rxFail
  exact Kept.cut (fun k1 => Kept.ite (event_kept (k1) h102) (k1)) (portCount_kept (hk0) h101)

theorem setHsr_kept {σ : Scope} {ρ : State} {s : State} {l : List HsrEnt} (hk0 : Kept σ ρ s) (h101 : σ.part .sw = true) (h102 : σ.fld pHSR F.HSR.USED.COUNT) :
    Kept σ ρ (State.setHsr s l) := by
  unfold State.setHsr
  exact set_kept (Kept.sw (hk0) h101) h102

theorem hsrTrim_kept {σ : Scope} {ρ : State} {s : State} (hk0 : Kept σ ρ s) (h101 : σ.part .sw = true) (h102 : σ.fld pHSR F.HSR.USED.COUNT) :
    Kept σ ρ (State.hsrTrim s) := by
  unfold State.hsrTrim
  exact Kept.ite (hk0) (setHsr_kept (hk0) h101 h102)

theorem hsrMake_kept {σ : Scope} {ρ : State} {s : State} {e : HsrEnt} (hk0 : Kept σ ρ s) (h101 : σ.part .sw = true) (h102 : σ.fld pHSR F.HSR.USED.COUNT) (h103 : σ.fld pHSR F.HSR.EVICT_UNMATCHED.COUNT) (h104 : σ.fld pHSR (Fld.mk 12 8 1)) :
    Kept σ ρ (State.hsrMake s e) := by
  unfold State.hsrMake
  exact (by (try dsimp only); split; exacts [Kept.ite (Kept.cut (fun k1 => Kept.ite (event_kept (bump_kept (k1) h103) h104) (k1)) (setHsr_kept (hk0) h101 h102)) (setHsr_kept (hk0) h101 h102), setHsr_kept (hk0) h101 h102])

theorem hsrEntry_kept {σ : Scope} {ρ : State} {s : State} {src : ℕ} {seq : ℕ} {raw : ℕ} (hk0 : Kept σ ρ s) (h101 : σ.part .sw = true) (h102 : σ.fld pHSR F.HSR.USED.COUNT) (h103 : σ.fld pHSR F.HSR.EVICT_UNMATCHED.COUNT) (h104 : σ.fld pHSR (Fld.mk 12 8 1)) :
    Kept σ ρ (State.hsrEntry s src seq raw).1 := by
  unfold State.hsrEntry
  exact (by (try dsimp only); split; exacts [setHsr_kept (hk0) h101 h102, hsrMake_kept (hk0) h101 h102 h103 h104])

theorem copies_kept {σ : Scope} {ρ : State} {s : State} {n : ℕ} {stamp : ℕ} {f : Frame} {l : List (ℕ × Frame)} (hk0 : Kept σ ρ s) (h101 : σ.part .sw = true) :
    Kept σ ρ (State.copies s n stamp f l).1 := by
  unfold State.copies
  exact Kept.iteFst (hk0) (storeFrame_kept (hk0) h101)

theorem cutStart_kept {σ : Scope} {ρ : State} {s : State} {raw : ℕ} {x : QFrame} {stomp : Bool} {rd : TxRead} (hk0 : Kept σ ρ s) (h101 : σ.part .sw = true) (h102 : σ.part .mem = true) (h103 : σ.part .ports = true) (h104 : σ.part .tally = true) (h105 : σ.fld (pPORT x.port) (portCtr 15)) (h106 : σ.fld (pPORT x.port) (portCtr 14)) (h107 : σ.fld pCAPTURE F.CAPTURE.LOST.COUNT) (h108 : σ.fld pCAPTURE (Fld.mk 12 9 1)) (h109 : σ.fld pCAPTURE F.CAPTURE.WR_SEQ.SEQ) (h110 : σ.fld pCAPTURE (Fld.mk 12 8 1)) (h111 : σ.fld pSWITCH F.SWITCH.CT_FRAMES.COUNT) (h112 : σ.page pBUFMEM) (h113 : σ.fld pSWITCH F.SWITCH.STOMPED.COUNT) (h114 : σ.fld pSWITCH (Fld.mk 12 8 1)) (h115 : σ.fld pMACSEC (msf F.MACSEC.TX_NO_SA.COUNT x.port)) (h116 : σ.fld pMACSEC (msf F.MACSEC.TX_PN.PN x.port)) (h117 : σ.fld pMACSEC (Fld.mk 12 9 1)) :
    Kept σ ρ (State.cutStart s raw x stomp rd) := by
  unfold State.cutStart
  exact Kept.ite (dropCopy_kept (hk0) h101 h102 h105 h106 h107 h108 h109 h110) (startFrame_kept (bump_kept (hk0) h111) h101 h102 h103 h104 h112 h107 h108 h109 h110 h113 h114 h115 h116 h117)

theorem cutCopies_kept {σ : Scope} {ρ : State} {s : State} {n : ℕ} {stamp : ℕ} {raw : ℕ} {stomp : Bool} {rd : TxRead} {f : Frame} {l : List (ℕ × Frame)} (hk0 : Kept σ ρ s) (h101 : σ.part .sw = true) (h102 : σ.part .ports = true) (h103 : σ.part .mscl = true) (h104 : σ.part .mem = true) (h105 : σ.part .gang = true) (h106 : σ.part .stamps = true) (h107 : σ.part .plat = true) (h108 : σ.part .tally = true) (h109 : σ.fld pSTAMP F.STAMP.ONESTEP_ERR.COUNT) (h110 : σ.fld pSTAMP (Fld.mk 12 8 1)) (h111 : σ.fld pCAPTURE F.CAPTURE.LOST.COUNT) (h112 : σ.fld pCAPTURE (Fld.mk 12 9 1)) (h113 : σ.fld pCAPTURE F.CAPTURE.WR_SEQ.SEQ) (h114 : σ.fld pCAPTURE (Fld.mk 12 8 1)) (h115 : σ.fld pSTAMP F.STAMP.TXQOVF.COUNT) (h116 : σ.fld pSTAMP (Fld.mk 12 9 1)) (h117 : σ.fld pSTAMP (Fld.mk 12 10 1)) (h118 : ∀ n, σ.page (pPORT n)) (h119 : σ.fld pSWITCH F.SWITCH.CT_FRAMES.COUNT) (h120 : σ.page pBUFMEM) (h121 : σ.fld pSWITCH F.SWITCH.STOMPED.COUNT) (h122 : σ.fld pSWITCH (Fld.mk 12 8 1)) (h123 : σ.page pMACSEC) :
    Kept σ ρ (State.cutCopies s n stamp raw stomp rd f l) := by
  unfold State.cutCopies
  exact Kept.foldl (fun x0 a1 k2 => Kept.cut (fun k4 => Kept.ite (cutStart_kept (k4) h101 h104 h102 h108 (h118 _).fld (h118 _).fld h111 h112 h113 h114 h119 h120 h121 h122 h123.fld h123.fld h123.fld) (k4)) (settle_kept (k2) h102 h103 h101 h104 h105 h106 h107 h109 h110 h111 h112 h113 h114 h115 h116 h117 (h118 _).fld (h118 _).fld (h118 _).fld)) _ _ (copies_kept (hk0) h101)

theorem copiesOf_kept {σ : Scope} {ρ : State} {s0 : State} {n : ℕ} {map : ℕ} {vid : ℕ} {f : Frame} (hk0 : Kept σ ρ s0) (h101 : σ.fld pSWITCH F.SWITCH.NOPATH.COUNT) (h102 : σ.fld pSWITCH (Fld.mk 12 11 1)) (h103 : σ.fld pHSR F.HSR.SEQ.NEXT) :
    Kept σ ρ (State.copiesOf s0 n map vid f).1 := by
  unfold State.copiesOf
  exact Kept.cut (fun k4 => Kept.iteFst (k4) (Kept.iteFst (hsrTag_kept (k4) h103) (k4))) (Kept.foldl (fun x0 a1 k2 => noPath_kept (k2) h101 h102) _ _ (hk0))

theorem toMember_kept {σ : Scope} {ρ : State} {s : State} {m : ℕ} {vid : ℕ} {f : Frame} (hk0 : Kept σ ρ s) (h101 : σ.fld pSWITCH F.SWITCH.NOPATH.COUNT) (h102 : σ.fld pSWITCH (Fld.mk 12 11 1)) :
    Kept σ ρ (State.toMember s m vid f).1 := by
  unfold State.toMember
  exact (by split; exacts [hk0, noPath_kept (hk0) h101 h102])

theorem toGang_kept {σ : Scope} {ρ : State} {s : State} {n : ℕ} {vid : ℕ} {f : Frame} (hk0 : Kept σ ρ s) (h101 : σ.fld pSWITCH F.SWITCH.NOPATH.COUNT) (h102 : σ.fld pSWITCH (Fld.mk 12 11 1)) :
    Kept σ ρ (State.toGang s n vid f).1 := by
  unfold State.toGang
  exact Kept.iteFst ((by split; exacts [Kept.iteFst (hk0) (toMember_kept (hk0) h101 h102), hk0])) (hk0)

theorem hsrFailed_kept {σ : Scope} {ρ : State} {s : State} {n : ℕ} {map : ℕ} {vid : ℕ} {stomp : Bool} {at_ : RxAt} {rd : TxRead} {f : Frame} {h : HsrTag} (hk0 : Kept σ ρ s) (h101 : σ.part .sw = true) (h102 : σ.part .ports = true) (h103 : σ.part .mscl = true) (h104 : σ.part .mem = true) (h105 : σ.part .gang = true) (h106 : σ.part .stamps = true) (h107 : σ.part .plat = true) (h108 : σ.part .tally = true) (h109 : σ.page pHSR) (h110 : σ.page pSWITCH) (h111 : σ.page pSTAMP) (h112 : σ.page pCAPTURE) (h113 : ∀ n, σ.page (pPORT n)) (h114 : σ.page pBUFMEM) (h115 : σ.page pMACSEC) :
    Kept σ ρ (State.hsrFailed s n map vid stomp at_ rd f h) := by
  unfold State.hsrFailed
  exact Kept.cut (fun k1 => Kept.ite (k1) (Kept.cut (fun k3 => Kept.ite (k3) (cutCopies_kept (Kept.iteFst (Kept.iteFst (k3) (copiesOf_kept (k3) h110.fld h110.fld h109.fld)) (toGang_kept (Kept.iteFst (k3) (copiesOf_kept (k3) h110.fld h110.fld h109.fld)) h110.fld h110.fld)) h101 h102 h103 h104 h105 h106 h107 h108 h111.fld h111.fld h112.fld h112.fld h112.fld h112.fld h111.fld h111.fld h111.fld h113 h110.fld h114 h110.fld h110.fld h115)) (setHsr_kept (hsrEntry_kept (k1) h101 h109.fld h109.fld h109.fld) h101 h109.fld))) (hsrTrim_kept (hk0) h101 h109.fld)

theorem gangRelay_kept {σ : Scope} {ρ : State} {s : State} {n : ℕ} {vid : ℕ} {f : Frame} (hk0 : Kept σ ρ s) (h101 : σ.fld pSWITCH F.SWITCH.NOPATH.COUNT) (h102 : σ.fld pSWITCH (Fld.mk 12 11 1)) (h103 : σ.fld pHSR F.HSR.SEQ.NEXT) :
    Kept σ ρ (State.gangRelay s n vid f).1 := by
  unfold State.gangRelay
  exact Kept.iteFst (hk0) ((by (try dsimp only); split; exacts [Kept.iteFst (hk0) (Kept.iteFst (toMember_kept (hk0) h101 h102) (noPath_kept (hk0) h101 h102)), Kept.iteFst (hsrTag_kept (hk0) h103) (Kept.iteFst (hk0) (Kept.iteFst (toMember_kept (hk0) h101 h102) (noPath_kept (hk0) h101 h102)))]))

theorem failedIn_kept {σ : Scope} {ρ : State} {s : State} {n : ℕ} {stomp : Bool} {at_ : RxAt} {rd : TxRead} {f : Frame} (hk0 : Kept σ ρ s) (h101 : σ.part .sw = true) (h102 : σ.part .ports = true) (h103 : σ.part .mscl = true) (h104 : σ.part .mem = true) (h105 : σ.part .gang = true) (h106 : σ.part .stamps = true) (h107 : σ.part .plat = true) (h108 : σ.part .tally = true) (h109 : σ.page pHSR) (h110 : σ.page pSWITCH) (h111 : σ.page pSTAMP) (h112 : σ.page pCAPTURE) (h113 : ∀ n, σ.page (pPORT n)) (h114 : σ.page pBUFMEM) (h115 : σ.page pMACSEC) :
    Kept σ ρ (State.failedIn s n stomp at_ rd f) := by
  unfold State.failedIn
  exact Kept.ite (hk0) ((by (try dsimp only); split; exacts [Kept.ite (hsrFailed_kept (hk0) h101 h102 h103 h104 h105 h106 h107 h108 h109 h110 h111 h112 h113 h114 h115) (hk0), hk0, cutCopies_kept (Kept.iteFst (gangRelay_kept (hk0) h110.fld h110.fld h109.fld) (copiesOf_kept (hk0) h110.fld h110.fld h109.fld)) h101 h102 h103 h104 h105 h106 h107 h108 h111.fld h111.fld h112.fld h112.fld h112.fld h112.fld h111.fld h111.fld h111.fld h113 h110.fld h114 h110.fld h110.fld h115]))

theorem verify_kept {σ : Scope} {ρ : State} {s : State} {n : ℕ} {f : Frame} (hk0 : Kept σ ρ s) (h101 : σ.part .sw = true) (h102 : σ.fld pMACSEC (msf F.MACSEC.NO_SA.COUNT n)) (h103 : σ.fld pMACSEC (msf F.MACSEC.LATE.COUNT n)) (h104 : σ.fld pMACSEC (Fld.mk 12 11 1)) (h105 : σ.fld pMACSEC (msf F.MACSEC.ICV_FAIL.COUNT n)) (h106 : σ.fld pMACSEC (Fld.mk 12 8 1)) :
    Kept σ ρ (State.verify s n f).1 := by
  unfold State.verify
  exact Kept.iteFst (hk0) (Kept.iteFst (hk0) (Kept.iteFst (hk0) ((by split; exacts [bump_kept (hk0) h102, (by split; exacts [bump_kept (hk0) h102, Kept.iteFst (event_kept (bump_kept (hk0) h103) h104) (Kept.iteFst (event_kept (bump_kept (hk0) h105) h106) (setSa_kept (hk0) h101))])]))))

theorem fdbPut_kept {σ : Scope} {ρ : State} {s : State} {i : ℕ} {e : FdbEnt} (hk0 : Kept σ ρ s) (h101 : σ.part .sw = true) (h102 : σ.fld pFDB F.FDB.USED.COUNT) :
    Kept σ ρ (State.fdbPut s i e) := by
  unfold State.fdbPut
  exact set_kept (Kept.sw (hk0) h101) h102

theorem learn_kept {σ : Scope} {ρ : State} {s : State} {n : ℕ} {mac : ℕ} {vid : ℕ} (hk0 : Kept σ ρ s) (h101 : σ.part .sw = true) (h102 : σ.fld pFDB F.FDB.USED.COUNT) (h103 : σ.fld pFDB F.FDB.MOVES.COUNT) (h104 : σ.fld pFDB (Fld.mk 12 10 1)) (h105 : σ.fld pFDB F.FDB.LEARN_FULL.COUNT) (h106 : σ.fld pFDB (Fld.mk 12 9 1)) :
    Kept σ ρ (State.learn s n mac vid) := by
  unfold State.learn
  exact Kept.ite (hk0) ((by (try dsimp only); split; exacts [Kept.ite (hk0) (Kept.ite (fdbPut_kept (hk0) h101 h102) (Kept.ite (event_kept (bump_kept (fdbPut_kept (hk0) h101 h102) h103) h104) (hk0))), Kept.ite (hk0) ((by split; exacts [fdbPut_kept (hk0) h101 h102, event_kept (bump_kept (hk0) h105) h106]))]))

theorem mgmtWake_kept {σ : Scope} {ρ : State} {s : State} {f : Frame} (hk0 : Kept σ ρ s) (h101 : σ.part .pwr = true) (h102 : σ.fld pSYS F.SYS.PSTATE.BUSY) :
    Kept σ ρ (State.mgmtWake s f) := by
  unfold State.mgmtWake
  exact Kept.ite (watchWake_kept (hk0) h101 h102) (hk0)

theorem deliver_kept {σ : Scope} {ρ : State} {s0 : State} {n : ℕ} {map : ℕ} {stamp : Option ℕ} {rd : TxRead} {f : Frame} (hk0 : Kept σ ρ s0) (h101 : σ.part .pwr = true) (h102 : σ.part .sw = true) (h103 : σ.part .bridge = true) (h104 : σ.fld pSYS F.SYS.PSTATE.BUSY) (h105 : σ.page pBUFMEM) (h106 : σ.fld pBRIDGE F.BRIDGE.RXDROP.COUNT) (h107 : σ.fld pBRIDGE (Fld.mk 12 12 1)) (h108 : σ.fld pBRIDGE (Fld.mk 12 10 1)) :
    Kept σ ρ (State.deliver s0 n map stamp rd f) := by
  unfold State.deliver
  exact Kept.cut (fun k1 => Kept.ite (Kept.ite (hostDeliver_kept (readRows_kept (k1) h102 h105) h103 h106 h107 h108) (readRows_kept (k1) h102 h105)) (k1)) (mgmtWake_kept (hk0) h101 h104)

theorem forward_kept {σ : Scope} {ρ : State} {s : State} {raw : ℕ} {rd : TxRead} {x : QFrame} (hk0 : Kept σ ρ s) (h101 : σ.part .ports = true) (h102 : σ.part .mscl = true) (h103 : σ.part .sw = true) (h104 : σ.part .mem = true) (h105 : σ.part .gang = true) (h106 : σ.part .stamps = true) (h107 : σ.part .plat = true) (h108 : σ.part .tally = true) (h109 : σ.page pSTAMP) (h110 : σ.page pCAPTURE) (h111 : σ.page (pPORT x.port)) (h112 : σ.page pSWITCH) (h113 : σ.page pBUFMEM) (h114 : σ.page pMACSEC) :
    Kept σ ρ (State.forward s raw rd x) := by
  unfold State.forward
  exact Kept.cut (fun k1 => Kept.ite (cutStart_kept (k1) h103 h104 h101 h108 h111.fld h111.fld h110.fld h110.fld h110.fld h110.fld h112.fld h113 h112.fld h112.fld h114.fld h114.fld h114.fld) (bump_kept (enqueue_kept (k1) h103 h104 h111.fld h111.fld h110.fld h110.fld h110.fld h110.fld h111.fld h113.fld) h112.fld)) (settle_kept (hk0) h101 h102 h103 h104 h105 h106 h107 h109.fld h109.fld h110.fld h110.fld h110.fld h110.fld h109.fld h109.fld h109.fld h111.fld h111.fld h111.fld)

theorem forwardAll_kept {σ : Scope} {ρ : State} {s : State} {n : ℕ} {stamp : ℕ} {raw : ℕ} {rd : TxRead} {f : Frame} {l : List (ℕ × Frame)} (hk0 : Kept σ ρ s) (h101 : σ.part .sw = true) (h102 : σ.part .ports = true) (h103 : σ.part .mscl = true) (h104 : σ.part .mem = true) (h105 : σ.part .gang = true) (h106 : σ.part .stamps = true) (h107 : σ.part .plat = true) (h108 : σ.part .tally = true) (h109 : σ.page pSTAMP) (h110 : σ.page pCAPTURE) (h111 : ∀ n, σ.page (pPORT n)) (h112 : σ.page pSWITCH) (h113 : σ.page pBUFMEM) (h114 : σ.page pMACSEC) :
    Kept σ ρ (State.forwardAll s n stamp raw rd f l) := by
  unfold State.forwardAll
  exact Kept.foldl (fun x0 a1 k2 => forward_kept (k2) h102 h103 h101 h104 h105 h106 h107 h108 h109 h110 (h111 _) h112 h113 h114) _ _ (copies_kept (hk0) h101)

theorem hsrRx_kept {σ : Scope} {ρ : State} {s : State} {n : ℕ} {map : ℕ} {vid : ℕ} {stamp : Option ℕ} {at_ : RxAt} {rd : TxRead} {f : Frame} {h : HsrTag} (hk0 : Kept σ ρ s) (h101 : σ.part .sw = true) (h102 : σ.part .mem = true) (h103 : σ.part .ports = true) (h104 : σ.part .mscl = true) (h105 : σ.part .gang = true) (h106 : σ.part .stamps = true) (h107 : σ.part .plat = true) (h108 : σ.part .tally = true) (h109 : σ.part .pwr = true) (h110 : σ.part .bridge = true) (h111 : σ.page pHSR) (h112 : σ.page pSTAMP) (h113 : σ.page pCAPTURE) (h114 : ∀ n, σ.page (pPORT n)) (h115 : σ.page pSWITCH) (h116 : σ.page pBUFMEM) (h117 : σ.page pMACSEC) (h118 : σ.page pSYS) (h119 : σ.page pBRIDGE) (h120 : σ.page pFDB) :
    Kept σ ρ (State.hsrRx s n map vid stamp at_ rd f h) := by
  unfold State.hsrRx
  exact Kept.cut (fun k1 => Kept.ite (rxDropMap_kept (bump_kept (k1) h111.fld) h101 h102 h113.fld h113.fld h113.fld h113.fld) (Kept.ite (rxDrop_kept (noPath_kept (k1) h115.fld h115.fld) h101 h102 h113.fld h113.fld h113.fld h113.fld) (Kept.cut (fun k3 => Kept.cut (fun k5 => Kept.cut (fun k7 => Kept.cut (fun k9 => Kept.ite (rxDropMap_kept (k9) h101 h102 h113.fld h113.fld h113.fld h113.fld) (Kept.cut (fun k11 => Kept.cut (fun k13 => learn_kept (Kept.ite (deliver_kept (k13) h109 h101 h110 h118.fld h116 h119.fld h119.fld h119.fld) (k13)) h101 h120.fld h120.fld h120.fld h120.fld h120.fld) (forwardAll_kept (Kept.iteFst (toGang_kept (Kept.iteFst (copiesOf_kept (k11) h115.fld h115.fld h111.fld) (k11)) h115.fld h115.fld) (Kept.iteFst (copiesOf_kept (k11) h115.fld h115.fld h111.fld) (k11))) h101 h103 h104 h102 h105 h106 h107 h108 h112 h113 h114 h115 h116 h117)) (capture_kept (k9) h101 h102 h113.fld h113.fld h113.fld h113.fld))) (Kept.ite (event_kept (bump_kept (k7) h111.fld) h111.fld) (k7))) (Kept.ite (bump_kept (k5) h111.fld) (k5))) (Kept.ite (bump_kept (k3) h111.fld) (k3))) (setHsr_kept (hsrEntry_kept (k1) h101 h111.fld h111.fld h111.fld) h101 h111.fld)))) (hsrTrim_kept (hk0) h101 h111.fld)

theorem switchIn_kept {σ : Scope} {ρ : State} {s : State} {n : ℕ} {stamp : Option ℕ} {at_ : RxAt} {rd : TxRead} {f : Frame} (hk0 : Kept σ ρ s) (h101 : σ.part .sw = true) (h102 : σ.part .mem = true) (h103 : σ.part .pwr = true) (h104 : σ.part .bridge = true) (h105 : σ.part .ports = true) (h106 : σ.part .mscl = true) (h107 : σ.part .gang = true) (h108 : σ.part .stamps = true) (h109 : σ.part .plat = true) (h110 : σ.part .tally = true) (h111 : σ.page pBUFMEM) (h112 : σ.page pHSR) (h113 : σ.page pSWITCH) (h114 : σ.page pSTAMP) (h115 : σ.page pCAPTURE) (h116 : ∀ n, σ.page (pPORT n)) (h117 : σ.page pMACSEC) (h118 : σ.page pSYS) (h119 : σ.page pBRIDGE) (h120 : σ.page pFDB) :
    Kept σ ρ (State.switchIn s n stamp at_ rd f) := by
  unfold State.switchIn
  exact Kept.ite (rxDrop_kept (hk0) h101 h102 h115.fld h115.fld h115.fld h115.fld) (Kept.ite (rxDrop_kept (bufDrop_kept (hk0) h113.fld h113.fld) h101 h102 h115.fld h115.fld h115.fld h115.fld) (Kept.ite (rxDrop_kept (event_kept (bump_kept (hk0) h113.fld) h113.fld) h101 h102 h115.fld h115.fld h115.fld h115.fld) (Kept.ite (learn_kept (deliver_kept (capture_kept (hk0) h101 h102 h115.fld h115.fld h115.fld h115.fld) h103 h101 h104 h118.fld h111 h119.fld h119.fld h119.fld) h101 h120.fld h120.fld h120.fld h120.fld h120.fld) (Kept.ite (rxDrop_kept (noPath_kept (hk0) h113.fld h113.fld) h101 h102 h115.fld h115.fld h115.fld h115.fld) (Kept.ite (rxDrop_kept (event_kept (bump_kept (hk0) h112.fld) h112.fld) h101 h102 h115.fld h115.fld h115.fld h115.fld) ((by (try dsimp only); split; exacts [Kept.ite (rxDrop_kept (hsrFailed_kept (hk0) h101 h105 h106 h102 h107 h108 h109 h110 h112 h113 h114 h115 h116 h111 h117) h101 h102 h115.fld h115.fld h115.fld h115.fld) (hsrRx_kept (hk0) h101 h102 h105 h106 h107 h108 h109 h110 h103 h104 h112 h114 h115 h116 h113 h111 h117 h118 h119 h120), Kept.ite (rxDrop_kept (hk0) h101 h102 h115.fld h115.fld h115.fld h115.fld) (Kept.ite (rxDrop_kept (noPath_kept (hk0) h113.fld h113.fld) h101 h102 h115.fld h115.fld h115.fld h115.fld) (Kept.cut (fun k1 => learn_kept (deliver_kept (forwardAll_kept (Kept.iteFst (gangRelay_kept (k1) h113.fld h113.fld h112.fld) (copiesOf_kept (k1) h113.fld h113.fld h112.fld)) h101 h105 h106 h102 h107 h108 h109 h110 h114 h115 h116 h113 h111 h117) h103 h101 h104 h118.fld h111 h119.fld h119.fld h119.fld) h101 h120.fld h120.fld h120.fld h120.fld h120.fld) (capture_kept (hk0) h101 h102 h115.fld h115.fld h115.fld h115.fld)))])))))))

theorem portRx_kept {σ : Scope} {ρ : State} {s0 : State} {n : ℕ} {f : Frame} {c : RxCheck} (hk0 : Kept σ ρ s0) (h101 : σ.part .ports = true) (h102 : σ.part .mscl = true) (h103 : σ.part .sw = true) (h104 : σ.part .mem = true) (h105 : σ.part .gang = true) (h106 : σ.part .stamps = true) (h107 : σ.part .plat = true) (h108 : σ.part .tally = true) (h109 : σ.part .dup = true) (h110 : σ.part .pwr = true) (h111 : σ.part .bridge = true) (h112 : σ.fld pDATUM F.DATUM.FOLDOVR.COUNT) (h113 : σ.fld pDATUM (Fld.mk 12 14 1)) (h114 : σ.page pHSR) (h115 : σ.page pSWITCH) (h116 : σ.page pSTAMP) (h117 : σ.page pCAPTURE) (h118 : ∀ n, σ.page (pPORT n)) (h119 : σ.page pBUFMEM) (h120 : σ.page pMACSEC) (h121 : σ.fld pDUPLEX (Fld.mk 12 13 1)) (h122 : σ.page pSYS) (h123 : σ.page pBRIDGE) (h124 : σ.page pFDB) :
    Kept σ ρ (State.portRx s0 n f c) := by
  unfold State.portRx
  exact Kept.ite (hk0) (Kept.cut (fun k1 => (by (try dsimp only); split; exacts [Kept.cut (fun k3 => Kept.ite (failedIn_kept (k3) h103 h101 h102 h104 h105 h106 h107 h108 h114 h115 h116 h117 h118 h119 h120) (k3)) (rxDrop_kept (rxFail_kept (k1) (h118 _).fld (h118 _).fld) h103 h104 h117.fld h117.fld h117.fld h117.fld), Kept.ite (Kept.cut (fun k5 => Kept.ite (pauseIn_kept (k5) h101 (h118 _).fld (h118 _).fld) (portCount_kept (k5) (h118 _).fld)) (capture_kept (k1) h103 h104 h117.fld h117.fld h117.fld h117.fld)) (Kept.cut (fun k7 => (by split; exacts [Kept.cut (fun k9 => Kept.ite (failedIn_kept (k9) h103 h101 h102 h104 h105 h106 h107 h108 h114 h115 h116 h117 h118 h119 h120) (k9)) (rxDrop_kept (verify_kept (k7) h103 h120.fld h120.fld h120.fld h120.fld h120.fld) h103 h104 h117.fld h117.fld h117.fld h117.fld), switchIn_kept (claimSeen_kept (verify_kept (k7) h103 h120.fld h120.fld h120.fld h120.fld h120.fld) h103 h104 h109 h114.fld h115.fld h115.fld h118 h117.fld h117.fld h117.fld h117.fld h119.fld h115.fld h115.fld h121) h103 h104 h110 h111 h101 h102 h105 h106 h107 h108 h119 h114 h115 h116 h117 h118 h120 h122 h123 h124])) (peerHeard_kept (portCount_kept (portCount_kept (k1) (h118 _).fld) (h118 _).fld) h109))])) (foldMark_kept (stampsDue_kept (hk0) h101 h102 h103 h104 h105 h106 h116.fld h116.fld h117.fld h117.fld h117.fld h117.fld h116.fld h116.fld h116.fld) h112 h113))

theorem loopIn_kept {σ : Scope} {ρ : State} {s : State} {n : ℕ} (hk0 : Kept σ ρ s) (h101 : σ.part .ports = true) (h102 : σ.part .mscl = true) (h103 : σ.part .sw = true) (h104 : σ.part .mem = true) (h105 : σ.part .gang = true) (h106 : σ.part .stamps = true) (h107 : σ.part .plat = true) (h108 : σ.part .tally = true) (h109 : σ.part .dup = true) (h110 : σ.part .pwr = true) (h111 : σ.part .bridge = true) (h112 : σ.fld pDATUM F.DATUM.FOLDOVR.COUNT) (h113 : σ.fld pDATUM (Fld.mk 12 14 1)) (h114 : σ.page pHSR) (h115 : σ.page pSWITCH) (h116 : σ.page pSTAMP) (h117 : σ.page pCAPTURE) (h118 : ∀ n, σ.page (pPORT n)) (h119 : σ.page pBUFMEM) (h120 : σ.page pMACSEC) (h121 : σ.fld pDUPLEX (Fld.mk 12 13 1)) (h122 : σ.page pSYS) (h123 : σ.page pBRIDGE) (h124 : σ.page pFDB) :
    Kept σ ρ (State.loopIn s n) := by
  unfold State.loopIn
  exact Kept.foldl (fun x0 a1 k2 => portRx_kept (k2) h101 h102 h103 h104 h105 h106 h107 h108 h109 h110 h111 h112 h113 h114 h115 h116 h117 h118 h119 h120 h121 h122 h123 h124) _ _ (setPort_kept (hk0) h101)

theorem fdbDone_kept {σ : Scope} {ρ : State} {s : State} {outcome : ℕ} {index : Option ℕ} (hk0 : Kept σ ρ s) (h101 : σ.fld pFDB F.FDB.RESULT.INDEX) (h102 : σ.fld pFDB F.FDB.RESULT.OUTCOME) (h103 : σ.fld pFDB F.FDB.CMD.GO) (h104 : σ.fld pFDB (Fld.mk 12 8 1)) :
    Kept σ ρ (State.fdbDone s outcome index) := by
  unfold State.fdbDone
  exact event_kept (set_kept (set_kept ((by split; exacts [set_kept (hk0) h101, nextFree_kept (set_kept (hk0) h101)])) h102) h103) h104

theorem fdbShow_kept {σ : Scope} {ρ : State} {s : State} {e : FdbEnt} (hk0 : Kept σ ρ s) (h101 : σ.fld pFDB F.FDB.KEY_LO.MAC_LO) (h102 : σ.fld pFDB F.FDB.KEY_HI.MAC_HI) (h103 : σ.fld pFDB F.FDB.KEY_HI.VID) (h104 : σ.fld pFDB F.FDB.ENTRY.VALID) (h105 : σ.fld pFDB F.FDB.ENTRY.STATIC) (h106 : σ.fld pFDB F.FDB.ENTRY.GROUP) (h107 : σ.fld pFDB F.FDB.ENTRY.DEST) :
    Kept σ ρ (State.fdbShow s e) := by
  unfold State.fdbShow
  exact set_kept (setB_kept (setB_kept (setB_kept (set_kept (set_kept (set_kept (hk0) h101) h102) h103) h104) h105) h106) h107

theorem fdbRead_kept {σ : Scope} {ρ : State} {s : State} {i : ℕ} (hk0 : Kept σ ρ s) (h101 : σ.fld pFDB F.FDB.CMD.INDEX) (h102 : σ.fld pFDB F.FDB.KEY_LO.MAC_LO) (h103 : σ.fld pFDB F.FDB.KEY_HI.MAC_HI) (h104 : σ.fld pFDB F.FDB.KEY_HI.VID) (h105 : σ.fld pFDB F.FDB.ENTRY.VALID) (h106 : σ.fld pFDB F.FDB.ENTRY.STATIC) (h107 : σ.fld pFDB F.FDB.ENTRY.GROUP) (h108 : σ.fld pFDB F.FDB.ENTRY.DEST) (h109 : σ.fld pFDB F.FDB.RESULT.INDEX) (h110 : σ.fld pFDB F.FDB.RESULT.OUTCOME) (h111 : σ.fld pFDB F.FDB.CMD.GO) (h112 : σ.fld pFDB (Fld.mk 12 8 1)) :
    Kept σ ρ (State.fdbRead s i) := by
  unfold State.fdbRead
  exact fdbDone_kept (fdbShow_kept (set_kept (hk0) h101) h102 h103 h104 h105 h106 h107 h108) h109 h110 h111 h112

theorem fdbLookup_kept {σ : Scope} {ρ : State} {s : State} (hk0 : Kept σ ρ s) (h101 : σ.fld pFDB F.FDB.KEY_LO.MAC_LO) (h102 : σ.fld pFDB F.FDB.KEY_HI.MAC_HI) (h103 : σ.fld pFDB F.FDB.KEY_HI.VID) (h104 : σ.fld pFDB F.FDB.ENTRY.VALID) (h105 : σ.fld pFDB F.FDB.ENTRY.STATIC) (h106 : σ.fld pFDB F.FDB.ENTRY.GROUP) (h107 : σ.fld pFDB F.FDB.ENTRY.DEST) (h108 : σ.fld pFDB F.FDB.RESULT.INDEX) (h109 : σ.fld pFDB F.FDB.RESULT.OUTCOME) (h110 : σ.fld pFDB F.FDB.CMD.GO) (h111 : σ.fld pFDB (Fld.mk 12 8 1)) :
    Kept σ ρ (State.fdbLookup s) := by
  unfold State.fdbLookup
  exact (by split; exacts [fdbDone_kept (fdbShow_kept (hk0) h101 h102 h103 h104 h105 h106 h107) h108 h109 h110 h111, fdbDone_kept (hk0) h108 h109 h110 h111])

theorem fdbWrite_kept {σ : Scope} {ρ : State} {s : State} (hk0 : Kept σ ρ s) (h101 : σ.part .sw = true) (h102 : σ.fld pFDB F.FDB.USED.COUNT) (h103 : σ.fld pFDB F.FDB.RESULT.INDEX) (h104 : σ.fld pFDB F.FDB.RESULT.OUTCOME) (h105 : σ.fld pFDB F.FDB.CMD.GO) (h106 : σ.fld pFDB (Fld.mk 12 8 1)) :
    Kept σ ρ (State.fdbWrite s) := by
  unfold State.fdbWrite
  exact (by (try dsimp only); split; exacts [fdbDone_kept (fdbPut_kept (hk0) h101 h102) h103 h104 h105 h106, (by split; exacts [fdbDone_kept (fdbPut_kept (hk0) h101 h102) h103 h104 h105 h106, fdbDone_kept (hk0) h103 h104 h105 h106])])

theorem fdbDelete_kept {σ : Scope} {ρ : State} {s : State} (hk0 : Kept σ ρ s) (h101 : σ.part .sw = true) (h102 : σ.fld pFDB F.FDB.USED.COUNT) (h103 : σ.fld pFDB F.FDB.RESULT.INDEX) (h104 : σ.fld pFDB F.FDB.RESULT.OUTCOME) (h105 : σ.fld pFDB F.FDB.CMD.GO) (h106 : σ.fld pFDB (Fld.mk 12 8 1)) :
    Kept σ ρ (State.fdbDelete s) := by
  unfold State.fdbDelete
  exact (by split; exacts [fdbDone_kept (fdbPut_kept (hk0) h101 h102) h103 h104 h105 h106, fdbDone_kept (hk0) h103 h104 h105 h106])

theorem fdbFlush_kept {σ : Scope} {ρ : State} {s : State} {mask : Option ℕ} (hk0 : Kept σ ρ s) (h101 : σ.part .sw = true) (h102 : σ.fld pFDB F.FDB.USED.COUNT) (h103 : σ.fld pFDB F.FDB.RESULT.INDEX) (h104 : σ.fld pFDB F.FDB.RESULT.OUTCOME) (h105 : σ.fld pFDB F.FDB.CMD.GO) (h106 : σ.fld pFDB (Fld.mk 12 8 1)) :
    Kept σ ρ (State.fdbFlush s mask) := by
  unfold State.fdbFlush
  exact fdbDone_kept (set_kept (Kept.sw (hk0) h101) h102) h103 h104 h105 h106

theorem fdbCmd_kept {σ : Scope} {ρ : State} {s : State} {op : ℕ} {index : ℕ} (hk0 : Kept σ ρ s) (h101 : σ.part .sw = true) (h102 : σ.fld pFDB F.FDB.CMD.OP) (h103 : σ.fld pFDB F.FDB.CMD.INDEX) (h104 : σ.fld pFDB F.FDB.KEY_LO.MAC_LO) (h105 : σ.fld pFDB F.FDB.KEY_HI.MAC_HI) (h106 : σ.fld pFDB F.FDB.KEY_HI.VID) (h107 : σ.fld pFDB F.FDB.ENTRY.VALID) (h108 : σ.fld pFDB F.FDB.ENTRY.STATIC) (h109 : σ.fld pFDB F.FDB.ENTRY.GROUP) (h110 : σ.fld pFDB F.FDB.ENTRY.DEST) (h111 : σ.fld pFDB F.FDB.RESULT.INDEX) (h112 : σ.fld pFDB F.FDB.RESULT.OUTCOME) (h113 : σ.fld pFDB F.FDB.CMD.GO) (h114 : σ.fld pFDB (Fld.mk 12 8 1)) (h115 : σ.fld pFDB F.FDB.USED.COUNT) :
    Kept σ ρ (State.fdbCmd s op index) := by
  unfold State.fdbCmd
  exact (by (try dsimp only); split; exacts [fdbRead_kept (set_kept (hk0) h102) h103 h104 h105 h106 h107 h108 h109 h110 h111 h112 h113 h114, fdbLookup_kept (set_kept (hk0) h102) h104 h105 h106 h107 h108 h109 h110 h111 h112 h113 h114, fdbWrite_kept (set_kept (hk0) h102) h101 h115 h111 h112 h113 h114, fdbDelete_kept (set_kept (hk0) h102) h101 h115 h111 h112 h113 h114, fdbFlush_kept (set_kept (hk0) h102) h101 h115 h111 h112 h113 h114, fdbFlush_kept (set_kept (hk0) h102) h101 h115 h111 h112 h113 h114, fdbDone_kept (set_kept (hk0) h102) h111 h112 h113 h114])

theorem txAnWrite_kept {σ : Scope} {ρ : State} {s : State} {n : ℕ} {an : ℕ} (hk0 : Kept σ ρ s) (h101 : σ.part .sw = true) :
    Kept σ ρ (State.txAnWrite s n an) := by
  unfold State.txAnWrite
  exact Kept.sw (hk0) h101

theorem txAnApply_kept {σ : Scope} {ρ : State} {s : State} {n : ℕ} (hk0 : Kept σ ρ s) (h101 : σ.part .sw = true) (h102 : σ.fld pMACSEC (msf F.MACSEC.CTL.TX_AN n)) (h103 : σ.fld pMACSEC (msf F.MACSEC.TX_PN.PN n)) :
    Kept σ ρ (State.txAnApply s n) := by
  unfold State.txAnApply
  exact Kept.ite (set_kept (set_kept (Kept.sw (hk0) h101) h102) h103) (hk0)

theorem bufLost_kept {σ : Scope} {ρ : State} {s : State} {b : ℕ} (hk0 : Kept σ ρ s) (h101 : σ.part .sw = true) (h102 : σ.part .mem = true) (h103 : σ.part .ports = true) (h104 : σ.part .mscl = true) (h105 : σ.part .gang = true) (h106 : σ.part .stamps = true) (h107 : σ.part .plat = true) (h108 : σ.fld pCAPTURE F.CAPTURE.LOST.COUNT) (h109 : σ.fld pCAPTURE (Fld.mk 12 9 1)) (h110 : σ.fld pCAPTURE F.CAPTURE.WR_SEQ.SEQ) (h111 : σ.fld pCAPTURE (Fld.mk 12 8 1)) (h112 : σ.fld pBUFMEM (Fld.mk 12 13 1)) (h113 : σ.fld pSTAMP F.STAMP.ONESTEP_ERR.COUNT) (h114 : σ.fld pSTAMP (Fld.mk 12 8 1)) (h115 : σ.fld pSTAMP F.STAMP.TXQOVF.COUNT) (h116 : σ.fld pSTAMP (Fld.mk 12 9 1)) (h117 : σ.fld pSTAMP (Fld.mk 12 10 1)) (h118 : ∀ n, σ.page (pPORT n)) (h119 : σ.fld pSWITCH F.SWITCH.STOMPED.COUNT) (h120 : σ.fld pSWITCH (Fld.mk 12 8 1)) :
    Kept σ ρ (State.bufLost s b) := by
  unfold State.bufLost
  exact Kept.foldl (fun x30 a31 k32 => Kept.cut (fun k34 => (by (try dsimp only); split; exacts [Kept.ite (event_kept (bump_kept (setPort_kept (k34) h103) h119) h120) (k34), k34])) (settle_kept (k32) h103 h104 h101 h102 h105 h106 h107 h113 h114 h108 h109 h110 h111 h115 h116 h117 (h118 _).fld (h118 _).fld (h118 _).fld)) _ _ (roomMark_kept (Kept.sw (Kept.foldl (fun x27 a28 k29 => capture_kept (k29) h101 h102 h108 h109 h110 h111) _ _ (hk0)) h101) h101 h112)

theorem fdbAge_kept {σ : Scope} {ρ : State} {s : State} {i : ℕ} (hk0 : Kept σ ρ s) (h101 : σ.part .sw = true) (h102 : σ.fld pFDB F.FDB.USED.COUNT) (h103 : σ.fld pFDB F.FDB.AGED.COUNT) :
    Kept σ ρ (State.fdbAge s i) := by
  unfold State.fdbAge
  exact Kept.ite (bump_kept (fdbPut_kept (advance_kept (hk0)) h101 h102) h103) (hk0)

theorem fdbGo_kept {σ : Scope} {ρ : State} {s : State} {op : ℕ} {index : Option ℕ} (hk0 : Kept σ ρ s) (h101 : σ.part .sw = true) (h102 : σ.part .page = true) (h103 : σ.page pFDB) (h104 : σ.page pSYS) :
    Kept σ ρ (State.fdbGo s op index) := by
  unfold State.fdbGo
  exact (by split; exacts [regWrite_kept (hk0) (fun x0 k1 => fdbCmd_kept (k1) h101 h103.fld h103.fld h103.fld h103.fld h103.fld h103.fld h103.fld h103.fld h103.fld h103.fld h103.fld h103.fld h103.fld h103.fld) h102 h104.fld h103.fld h103.fld h103.fld h103.fld, regWrite_kept (hk0) (fun x2 k3 => fdbCmd_kept (k3) h101 h103.fld h103.fld h103.fld h103.fld h103.fld h103.fld h103.fld h103.fld h103.fld h103.fld h103.fld h103.fld h103.fld h103.fld) h102 h104.fld h103.fld h103.fld h103.fld h103.fld])

theorem hsrExpire_kept {σ : Scope} {ρ : State} {s : State} (hk0 : Kept σ ρ s) (h101 : σ.part .sw = true) (h102 : σ.fld pHSR F.HSR.USED.COUNT) :
    Kept σ ρ (State.hsrExpire s) := by
  unfold State.hsrExpire
  exact (by split; exacts [hk0, hsrTrim_kept (advance_kept (hk0)) h101 h102])

theorem hsrTake_kept {σ : Scope} {ρ : State} {s0 : State} {n : ℕ} {f : Frame} (hk0 : Kept σ ρ s0) (h101 : σ.part .sw = true) (h102 : σ.fld pHSR F.HSR.USED.COUNT) (h103 : σ.fld pHSR F.HSR.EVICT_UNMATCHED.COUNT) (h104 : σ.fld pHSR (Fld.mk 12 8 1)) :
    Kept σ ρ (State.hsrTake s0 n f).1 := by
  unfold State.hsrTake
  exact Kept.cut (fun k1 => Kept.iteFst (k1) (Kept.iteFst (k1) ((by (try dsimp only); split; exacts [k1, Kept.iteFst (k1) ((by split; exacts [Kept.iteFst (k1) (setHsr_kept (k1) h101 h102), hsrMake_kept (k1) h101 h102 h103 h104]))])))) (hsrTrim_kept (hk0) h101 h102)

theorem scrub_kept {σ : Scope} {ρ : State} {s : State} {errs : List (ℕ × ℕ × Bool)} (hk0 : Kept σ ρ s) (h101 : σ.part .sw = true) (h102 : σ.part .mem = true) (h103 : σ.part .ports = true) (h104 : σ.part .mscl = true) (h105 : σ.part .gang = true) (h106 : σ.part .stamps = true) (h107 : σ.part .plat = true) (h108 : σ.page pBUFMEM) (h109 : σ.fld pCAPTURE F.CAPTURE.LOST.COUNT) (h110 : σ.fld pCAPTURE (Fld.mk 12 9 1)) (h111 : σ.fld pCAPTURE F.CAPTURE.WR_SEQ.SEQ) (h112 : σ.fld pCAPTURE (Fld.mk 12 8 1)) (h113 : σ.fld pSTAMP F.STAMP.ONESTEP_ERR.COUNT) (h114 : σ.fld pSTAMP (Fld.mk 12 8 1)) (h115 : σ.fld pSTAMP F.STAMP.TXQOVF.COUNT) (h116 : σ.fld pSTAMP (Fld.mk 12 9 1)) (h117 : σ.fld pSTAMP (Fld.mk 12 10 1)) (h118 : ∀ n, σ.page (pPORT n)) (h119 : σ.fld pSWITCH F.SWITCH.STOMPED.COUNT) (h120 : σ.fld pSWITCH (Fld.mk 12 8 1)) :
    Kept σ ρ (State.scrub s errs) := by
  unfold State.scrub
  exact Kept.ite (Kept.cut (fun k3 => (by (try dsimp only); split; exacts [Kept.ite (k3) (bufLost_kept (k3) h101 h102 h103 h104 h105 h106 h107 h109 h110 h111 h112 h108.fld h113 h114 h115 h116 h117 h118 h119 h120), k3])) (Kept.sw (readRows_kept (hk0) h101 h108) h101)) (hk0)

theorem execBufmemFailBank_kept {σ : Scope} {clk : ℕ} {bank : ℕ} {s : State} (h101 : σ.part .page = true) (h102 : σ.fld pBUFMEM F.BUFMEM.CTL.BANK) (h103 : σ.fld pBUFMEM (F.BUFMEM.STS.FAILED.up 0)) (h104 : σ.fld pBUFMEM (Fld.mk 12 10 1)) (h105 : σ.fld pSYS (Fld.mk 12 11 1)) (h106 : σ.fld pBUFMEM F.HDR.PSTS.CODE) (h107 : σ.fld pBUFMEM F.HDR.PSTS.INDEX) (h108 : σ.fld pBUFMEM F.HDR.PSTS.REFUSED) (h109 : σ.fld pBUFMEM (Fld.mk 12 0 1)) :
    KeptNext σ s (execBufmemFailBank clk bank s) := by
  unfold execBufmemFailBank
  exact KeptNext.next (regWrite_kept (advance_kept (Kept.refl σ s)) (fun x0 k1 => bufFail_kept (k1) h102 h103 h104) h101 h105 h106 h107 h108 h109)

theorem execBufmemRebuild_kept {σ : Scope} {clk : ℕ} {bank : ℕ} {s : State} (h101 : σ.part .sw = true) (h102 : σ.part .page = true) (h103 : σ.fld pBUFMEM F.BUFMEM.CTL.BANK) (h104 : σ.fld pBUFMEM F.BUFMEM.STS.REBUILDING) (h105 : σ.fld pBUFMEM F.BUFMEM.STS.RB_BANK) (h106 : σ.fld pBUFMEM F.BUFMEM.CTL.REBUILD) (h107 : σ.fld pSYS (Fld.mk 12 11 1)) (h108 : σ.fld pBUFMEM F.HDR.PSTS.CODE) (h109 : σ.fld pBUFMEM F.HDR.PSTS.INDEX) (h110 : σ.fld pBUFMEM F.HDR.PSTS.REFUSED) (h111 : σ.fld pBUFMEM (Fld.mk 12 0 1)) :
    KeptNext σ s (execBufmemRebuild clk bank s) := by
  unfold execBufmemRebuild
  exact KeptNext.next (regWrite_kept (advance_kept (Kept.refl σ s)) (fun x0 k1 => bufRebuild_kept (k1) h101 h103 h104 h105 h106) h102 h107 h108 h109 h110 h111)

theorem execBufmemRebuildDone_kept {σ : Scope} {clk : ℕ} {ok : Bool} {s : State} (h101 : σ.part .sw = true) (h102 : σ.fld pBUFMEM F.BUFMEM.STS.REBUILDING) (h103 : σ.fld pBUFMEM F.BUFMEM.CTL.REBUILD) (h104 : σ.fld pBUFMEM F.BUFMEM.STS.FAILED) (h105 : σ.fld pBUFMEM (Fld.mk 12 11 1)) (h106 : σ.fld pBUFMEM (Fld.mk 12 14 1)) :
    KeptNext σ s (execBufmemRebuildDone clk ok s) := by
  unfold execBufmemRebuildDone
  exact KeptNext.next (bufRebuilt_kept (advance_kept (Kept.refl σ s)) h101 h102 h103 h104 h105 h106)

theorem execBufmemScrub_kept {σ : Scope} {clk : ℕ} {cell : ScrubRead} {s : State} (h101 : σ.part .sw = true) (h102 : σ.part .mem = true) (h103 : σ.part .ports = true) (h104 : σ.part .mscl = true) (h105 : σ.part .gang = true) (h106 : σ.part .stamps = true) (h107 : σ.part .plat = true) (h108 : σ.page pBUFMEM) (h109 : σ.fld pCAPTURE F.CAPTURE.LOST.COUNT) (h110 : σ.fld pCAPTURE (Fld.mk 12 9 1)) (h111 : σ.fld pCAPTURE F.CAPTURE.WR_SEQ.SEQ) (h112 : σ.fld pCAPTURE (Fld.mk 12 8 1)) (h113 : σ.fld pSTAMP F.STAMP.ONESTEP_ERR.COUNT) (h114 : σ.fld pSTAMP (Fld.mk 12 8 1)) (h115 : σ.fld pSTAMP F.STAMP.TXQOVF.COUNT) (h116 : σ.fld pSTAMP (Fld.mk 12 9 1)) (h117 : σ.fld pSTAMP (Fld.mk 12 10 1)) (h118 : ∀ n, σ.page (pPORT n)) (h119 : σ.fld pSWITCH F.SWITCH.STOMPED.COUNT) (h120 : σ.fld pSWITCH (Fld.mk 12 8 1)) :
    KeptNext σ s (execBufmemScrub clk cell s) := by
  unfold execBufmemScrub
  exact KeptNext.next (scrub_kept (advance_kept (Kept.refl σ s)) h101 h102 h103 h104 h105 h106 h107 h108 h109 h110 h111 h112 h113 h114 h115 h116 h117 h118 h119 h120)

theorem execFdbAgeExpire_kept {σ : Scope} {index : ℕ} {s : State} (h101 : σ.part .sw = true) (h102 : σ.fld pFDB F.FDB.USED.COUNT) (h103 : σ.fld pFDB F.FDB.AGED.COUNT) :
    KeptNext σ s (execFdbAgeExpire index s) := by
  unfold execFdbAgeExpire
  exact KeptNext.next (fdbAge_kept (Kept.refl σ s) h101 h102 h103)

theorem execFdbCmdReserved_kept {σ : Scope} {clk : ℕ} {op : ℕ} {s : State} (h101 : σ.part .sw = true) (h102 : σ.part .page = true) (h103 : σ.page pFDB) (h104 : σ.page pSYS) :
    KeptNext σ s (execFdbCmdReserved clk op s) := by
  unfold execFdbCmdReserved
  exact KeptNext.next (fdbGo_kept (advance_kept (Kept.refl σ s)) h101 h102 h103 h104)

theorem execFdbDelete_kept {σ : Scope} {clk : ℕ} {s : State} (h101 : σ.part .sw = true) (h102 : σ.part .page = true) (h103 : σ.page pFDB) (h104 : σ.page pSYS) :
    KeptNext σ s (execFdbDelete clk s) := by
  unfold execFdbDelete
  exact KeptNext.next (fdbGo_kept (advance_kept (Kept.refl σ s)) h101 h102 h103 h104)

theorem execFdbFlushAll_kept {σ : Scope} {clk : ℕ} {s : State} (h101 : σ.part .sw = true) (h102 : σ.part .page = true) (h103 : σ.page pFDB) (h104 : σ.page pSYS) :
    KeptNext σ s (execFdbFlushAll clk s) := by
  unfold execFdbFlushAll
  exact KeptNext.next (fdbGo_kept (advance_kept (Kept.refl σ s)) h101 h102 h103 h104)

theorem execFdbFlushDest_kept {σ : Scope} {clk : ℕ} {s : State} (h101 : σ.part .sw = true) (h102 : σ.part .page = true) (h103 : σ.page pFDB) (h104 : σ.page pSYS) :
    KeptNext σ s (execFdbFlushDest clk s) := by
  unfold execFdbFlushDest
  exact KeptNext.next (fdbGo_kept (advance_kept (Kept.refl σ s)) h101 h102 h103 h104)

theorem execFdbLookup_kept {σ : Scope} {clk : ℕ} {s : State} (h101 : σ.part .sw = true) (h102 : σ.part .page = true) (h103 : σ.page pFDB) (h104 : σ.page pSYS) :
    KeptNext σ s (execFdbLookup clk s) := by
  unfold execFdbLookup
  exact KeptNext.next (fdbGo_kept (advance_kept (Kept.refl σ s)) h101 h102 h103 h104)

theorem execFdbRead_kept {σ : Scope} {clk : ℕ} {index : ℕ} {s : State} (h101 : σ.part .sw = true) (h102 : σ.part .page = true) (h103 : σ.page pFDB) (h104 : σ.page pSYS) :
    KeptNext σ s (execFdbRead clk index s) := by
  unfold execFdbRead
  exact KeptNext.next (fdbGo_kept (advance_kept (Kept.refl σ s)) h101 h102 h103 h104)

theorem execFdbWrite_kept {σ : Scope} {clk : ℕ} {s : State} (h101 : σ.part .sw = true) (h102 : σ.part .page = true) (h103 : σ.page pFDB) (h104 : σ.page pSYS) :
    KeptNext σ s (execFdbWrite clk s) := by
  unfold execFdbWrite
  exact KeptNext.next (fdbGo_kept (advance_kept (Kept.refl σ s)) h101 h102 h103 h104)

theorem execHsrEntryExpire_kept {σ : Scope} {s : State} (h101 : σ.part .sw = true) (h102 : σ.fld pHSR F.HSR.USED.COUNT) :
    KeptNext σ s (execHsrEntryExpire s) := by
  unfold execHsrEntryExpire
  exact KeptNext.next (hsrExpire_kept (Kept.refl σ s) h101 h102)

theorem execMacsecTxAnApply_kept {σ : Scope} {clk : ℕ} {port : ℕ} {s : State} (h101 : σ.part .sw = true) (h102 : σ.fld pMACSEC (msf F.MACSEC.CTL.TX_AN port)) (h103 : σ.fld pMACSEC (msf F.MACSEC.TX_PN.PN port)) :
    KeptNext σ s (execMacsecTxAnApply clk port s) := by
  unfold execMacsecTxAnApply
  exact KeptNext.next (Kept.ite (txAnApply_kept (advance_kept (Kept.refl σ s)) h101 h102 h103) (advance_kept (Kept.refl σ s)))

theorem execMacsecTxAnWrite_kept {σ : Scope} {clk : ℕ} {port : ℕ} {an : ℕ} {s : State} (h101 : σ.part .sw = true) (h102 : σ.part .page = true) (h103 : σ.fld pMACSEC (msf F.MACSEC.CTL.TX_AN port)) (h104 : σ.fld pMACSEC (msf F.MACSEC.TX_PN.PN port)) (h105 : σ.fld pSYS (Fld.mk 12 11 1)) (h106 : σ.fld pMACSEC F.HDR.PSTS.CODE) (h107 : σ.fld pMACSEC F.HDR.PSTS.INDEX) (h108 : σ.fld pMACSEC F.HDR.PSTS.REFUSED) (h109 : σ.fld pMACSEC (Fld.mk 12 0 1)) :
    KeptNext σ s (execMacsecTxAnWrite clk port an s) := by
  unfold execMacsecTxAnWrite
  exact KeptNext.next (Kept.ite (fldWrite_kept (advance_kept (Kept.refl σ s)) (fun x0 k1 => Kept.ite (txAnWrite_kept (k1) h101) (txAnApply_kept (txAnWrite_kept (k1) h101) h101 h103 h104)) h102 h105 h106 h107 h108 h109) (advance_kept (Kept.refl σ s)))

theorem execPortRxFrame_kept {σ : Scope} {clk : ℕ} {port : ℕ} {fr : Frame} {chk : RxCheck} {s : State} (h101 : σ.part .ports = true) (h102 : σ.part .mscl = true) (h103 : σ.part .sw = true) (h104 : σ.part .mem = true) (h105 : σ.part .gang = true) (h106 : σ.part .stamps = true) (h107 : σ.part .plat = true) (h108 : σ.part .tally = true) (h109 : σ.part .dup = true) (h110 : σ.part .pwr = true) (h111 : σ.part .bridge = true) (h112 : σ.fld pDATUM F.DATUM.FOLDOVR.COUNT) (h113 : σ.fld pDATUM (Fld.mk 12 14 1)) (h114 : σ.page pHSR) (h115 : σ.page pSWITCH) (h116 : σ.page pSTAMP) (h117 : σ.page pCAPTURE) (h118 : ∀ n, σ.page (pPORT n)) (h119 : σ.page pBUFMEM) (h120 : σ.page pMACSEC) (h121 : σ.fld pDUPLEX (Fld.mk 12 13 1)) (h122 : σ.page pSYS) (h123 : σ.page pBRIDGE) (h124 : σ.page pFDB) :
    KeptNext σ s (execPortRxFrame clk port fr chk s) := by
  unfold execPortRxFrame
  exact KeptNext.next (Kept.ite (portRx_kept (advance_kept (Kept.refl σ s)) h101 h102 h103 h104 h105 h106 h107 h108 h109 h110 h111 h112 h113 h114 h115 h116 h117 h118 h119 h120 h121 h122 h123 h124) (advance_kept (Kept.refl σ s)))

theorem execPortTxStart_kept {σ : Scope} {clk : ℕ} {go : TxGo} {s : State} (h101 : σ.part .sw = true) (h102 : σ.part .mem = true) (h103 : σ.part .dup = true) (h104 : σ.part .ports = true) (h105 : σ.part .mscl = true) (h106 : σ.part .gang = true) (h107 : σ.part .stamps = true) (h108 : σ.part .plat = true) (h109 : σ.part .tally = true) (h110 : σ.part .pwr = true) (h111 : σ.part .bridge = true) (h112 : ∀ n, σ.page (pPORT n)) (h113 : σ.page pBUFMEM) (h114 : σ.page pMACSEC) (h115 : σ.page pCAPTURE) (h116 : σ.page pSWITCH) (h117 : σ.fld pDATUM F.DATUM.FOLDOVR.COUNT) (h118 : σ.fld pDATUM (Fld.mk 12 14 1)) (h119 : σ.page pHSR) (h120 : σ.page pSTAMP) (h121 : σ.fld pDUPLEX (Fld.mk 12 13 1)) (h122 : σ.page pSYS) (h123 : σ.page pBRIDGE) (h124 : σ.page pFDB) :
    KeptNext σ s (execPortTxStart clk go s) := by
  unfold execPortTxStart
  exact KeptNext.next (Kept.ite (loopIn_kept (txStart_kept (advance_kept (Kept.refl σ s)) h101 h102 h103 h104 h105 h106 h107 h108 h109 h112 h120.fld h120.fld h120.fld h120.fld h120.fld h113 h114 h115 h116) h104 h105 h101 h102 h106 h107 h108 h109 h103 h110 h111 h117 h118 h119 h116 h120 h115 h112 h113 h114 h121 h122 h123 h124) (advance_kept (Kept.refl σ s)))

theorem stageBytes_kept {σ : Scope} {ρ s : State} {x : Nat} {l : List Byte} (h : Kept σ ρ s)
    (hp : σ.part .plat = true) : Kept σ ρ (s.stageBytes x l) := by
  induction l generalizing s x with
  | nil => exact h
  | cons b t ih => exact ih (Kept.plat h hp)

theorem dropOwn_kept {σ : Scope} {ρ : State} {s : State} (hk0 : Kept σ ρ s) (h101 : σ.part .sw = true) (h102 : σ.part .plat = true) :
    Kept σ ρ (State.dropOwn s) := by
  unfold State.dropOwn
  exact Kept.u_sw_plat (hk0) h101 h102

theorem slotMiss_kept {σ : Scope} {ρ : State} {s : State} {k : ℕ} (hk0 : Kept σ ρ s) (h101 : σ.fld pPLAT F.PLAT.SLOTMISS.COUNT) (h102 : σ.fld pPLAT (Fld.mk 12 11 1)) :
    Kept σ ρ (State.slotMiss s k) := by
  unfold State.slotMiss
  exact Kept.ite (hk0) (event_kept (bumpBy_kept (hk0) h101) h102)

theorem staleOne_kept {σ : Scope} {ρ : State} {s : State} {n : ℤ} {k : ℕ} (hk0 : Kept σ ρ s) (h101 : σ.part .mem = true) (h102 : σ.fld pPLAT (mapBit F.PLAT.STALE.MAP k)) (h103 : σ.fld pPLAT (Fld.mk 12 8 1)) :
    Kept σ ρ (State.staleOne s n k) := by
  unfold State.staleOne
  exact Kept.ite (hk0) (event_kept (set_kept (stb_kept (hk0) h101) h102) h103)

theorem staleTest_kept {σ : Scope} {ρ : State} {s : State} {n : ℤ} (hk0 : Kept σ ρ s) (h101 : σ.part .plat = true) (h102 : σ.part .mem = true) (h103 : σ.page pPLAT) :
    Kept σ ρ (State.staleTest s n) := by
  unfold State.staleTest
  exact Kept.ite (hk0) (Kept.foldl (fun x5 a6 k7 => staleOne_kept (k7) h102 h103.fld h103.fld) _ _ (Kept.plat (hk0) h101))

theorem actBoundary_kept {σ : Scope} {ρ : State} {s : State} {n : ℤ} {doneEv : List ℕ} (hk0 : Kept σ ρ s) (h101 : σ.part .cycle = true) (h102 : σ.part .plat = true) (h103 : σ.part .mem = true) (h104 : σ.fld pCYCLE F.CYCLE.NOW_CYC.CYCLE) (h105 : σ.fld pCYCLE (Fld.mk 12 8 1)) (h106 : σ.page pPLAT) :
    Kept σ ρ (State.actBoundary s n doneEv) := by
  unfold State.actBoundary
  exact staleTest_kept (event_kept (set_kept (Kept.cycle (hk0) h101) h104) h105) h102 h103 h106

theorem cycleStep_kept {σ : Scope} {ρ : State} {s : State} {a : ℕ} {b : ℕ} (hk0 : Kept σ ρ s) (h101 : σ.part .cycle = true) (h102 : σ.part .plat = true) (h103 : σ.part .mem = true) (h104 : σ.fld pCYCLE F.CYCLE.SKIPPED.COUNT) (h105 : σ.fld pCYCLE (Fld.mk 12 11 1)) (h106 : σ.fld pCYCLE F.CYCLE.NOW_CYC.CYCLE) (h107 : σ.fld pCYCLE (Fld.mk 12 8 1)) (h108 : σ.page pPLAT) :
    Kept σ ρ (State.cycleStep s a b) := by
  unfold State.cycleStep
  exact Kept.ite (hk0) (Kept.cut (fun k1 => Kept.ite (Kept.cycle (k1) h101) (actBoundary_kept (event_kept (bumpSat_kept (k1) h104) h105) h101 h102 h103 h106 h107 h108)) (Kept.ite (slotMiss_kept (hk0) h108.fld h108.fld) (hk0)))

theorem cycleRejoin_kept {σ : Scope} {ρ : State} {s : State} (hk0 : Kept σ ρ s) (h101 : σ.fld pCYCLE F.CYCLE.STS.PUBLISH) (h102 : σ.fld pCYCLE F.CYCLE.STS.DISAGREE) (h103 : σ.fld pCYCLE F.HDR.PSTS.REFUSED) (h104 : σ.fld pCYCLE (Fld.mk 12 13 1)) (h105 : σ.fld pCYCLE F.HDR.PSTS.CODE) (h106 : σ.fld pCYCLE F.HDR.PSTS.INDEX) (h107 : σ.fld pCYCLE (Fld.mk 12 0 1)) :
    Kept σ ρ (State.cycleRejoin s) := by
  unfold State.cycleRejoin
  exact Kept.ite (event_kept (set_kept (set_kept (set_kept (hk0) h101) h102) h103) h104) (refuse_kept (hk0) h105 h106 h103 h107)

theorem evNow_kept {σ : Scope} {ρ : State} {s : State} {e : ℕ} (hk0 : Kept σ ρ s) (h101 : σ.part .cycle = true) :
    Kept σ ρ (State.evNow s e) := by
  unfold State.evNow
  exact Kept.cycle (advanceT_kept (hk0)) h101

theorem setRx_kept {σ : Scope} {ρ : State} {s : State} {k : ℕ} {r : ParcelRx} (hk0 : Kept σ ρ s) (h101 : σ.part .plat = true) :
    Kept σ ρ (State.setRx s k r) := by
  unfold State.setRx
  exact Kept.plat (hk0) h101

theorem flip_kept {σ : Scope} {ρ : State} {s : State} {k : ℕ} (hk0 : Kept σ ρ s) (h101 : σ.part .plat = true) (h102 : σ.fld pPLAT (mapBit F.PLAT.VALID.MAP k)) (h103 : σ.fld pPLAT (mapBit F.PLAT.STALE.MAP k)) (h104 : σ.fld pPLAT (Fld.mk 12 9 1)) :
    Kept σ ρ (State.flip s k) := by
  unfold State.flip
  exact Kept.cut (fun k13 => Kept.ite (event_kept (set_kept (k13) h103) h104) (k13)) (setB_kept (setRx_kept (Kept.plat (hk0) h101) h101) h102)

theorem platDrop_kept {σ : Scope} {ρ : State} {s : State} {f : Fld} (hk0 : Kept σ ρ s) (h101 : σ.fld pPLAT f) (h102 : σ.fld pPLAT (Fld.mk 12 12 1)) :
    Kept σ ρ (State.platDrop s f) := by
  unfold State.platDrop
  exact event_kept (bump_kept (hk0) h101) h102

theorem noteVote_kept {σ : Scope} {ρ : State} {s : State} {f : Frame} (hk0 : Kept σ ρ s) (h101 : σ.part .cycle = true) :
    Kept σ ρ (State.noteVote s f) := by
  unfold State.noteVote
  exact Kept.ite (Kept.cycle (hk0) h101) (hk0)

theorem outputWrite_kept {σ : Scope} {ρ : State} {s : State} {x : ℕ} {d : List Byte} {src : Source} (hk0 : Kept σ ρ s) (h101 : σ.part .plat = true) (h102 : σ.fld pSYS (Fld.mk 12 8 1)) (h103 : σ.fld pSYS F.SYS.AERR_LO.ADDR_LO) (h104 : σ.fld pSYS F.SYS.AERR_HI.ADDR_HI) (h105 : σ.fld pSYS F.SYS.AERR_HI.SOURCE) (h106 : σ.fld pSYS F.SYS.AERR_HI.VALID) :
    Kept σ ρ (State.outputWrite s x d src) := by
  unfold State.outputWrite
  exact Kept.ite (stageBytes_kept (hk0) h101) (addressError_kept (hk0) h102 h103 h104 h105 h106)

theorem ownFlip_kept {σ : Scope} {ρ : State} {s : State} {c : ℕ} (hk0 : Kept σ ρ s) (h101 : σ.part .plat = true) (h102 : σ.fld pPLAT (mapBit F.PLAT.VALID.MAP s.nid)) (h103 : σ.fld pPLAT (mapBit F.PLAT.STALE.MAP s.nid)) (h104 : σ.fld pPLAT (Fld.mk 12 9 1)) (h105 : σ.fld pPLAT F.PLAT.OWN_CYC.CYCLE) (h106 : σ.fld pPLAT (Fld.mk 12 10 1)) :
    Kept σ ρ (State.ownFlip s c) := by
  unfold State.ownFlip
  exact event_kept (set_kept (flip_kept (hk0) h101 h102 h103 h104) h105) h106

theorem platOwnSent_kept {σ : Scope} {ρ : State} {s : State} {n : ℕ} (hk0 : Kept σ ρ s) (h101 : σ.part .ports = true) (h102 : σ.part .mscl = true) (h103 : σ.part .sw = true) (h104 : σ.part .mem = true) (h105 : σ.part .gang = true) (h106 : σ.part .stamps = true) (h107 : σ.part .plat = true) (h108 : σ.fld pSTAMP F.STAMP.ONESTEP_ERR.COUNT) (h109 : σ.fld pSTAMP (Fld.mk 12 8 1)) (h110 : σ.fld pCAPTURE F.CAPTURE.LOST.COUNT) (h111 : σ.fld pCAPTURE (Fld.mk 12 9 1)) (h112 : σ.fld pCAPTURE F.CAPTURE.WR_SEQ.SEQ) (h113 : σ.fld pCAPTURE (Fld.mk 12 8 1)) (h114 : σ.fld pSTAMP F.STAMP.TXQOVF.COUNT) (h115 : σ.fld pSTAMP (Fld.mk 12 9 1)) (h116 : σ.fld pSTAMP (Fld.mk 12 10 1)) (h117 : σ.fld (pPORT n) (portCtr 9)) (h118 : σ.fld (pPORT n) (portCtr 10)) (h119 : σ.fld (pPORT n) (portCtr 11)) (h120 : σ.page pPLAT) :
    Kept σ ρ (State.platOwnSent s n) := by
  unfold State.platOwnSent
  exact Kept.cut (fun k1 => (by (try dsimp only); split; exacts [k1, Kept.ite (Kept.cut (fun k3 => Kept.ite (setRx_kept (k3) h107) (ownFlip_kept (k3) h107 h120.fld h120.fld h120.fld h120.fld h120.fld)) (Kept.plat (k1) h107)) (k1)])) (settle_kept (stampsDue_kept (hk0) h101 h102 h103 h104 h105 h106 h108 h109 h110 h111 h112 h113 h114 h115 h116) h101 h102 h103 h104 h105 h106 h107 h108 h109 h110 h111 h112 h113 h114 h115 h116 h117 h118 h119)

theorem platRelease_kept {σ : Scope} {ρ : State} {s : State} (hk0 : Kept σ ρ s) (h101 : σ.part .sw = true) (h102 : σ.part .mem = true) (h103 : σ.part .plat = true) (h104 : σ.fld pHSR F.HSR.SEQ.NEXT) (h105 : σ.fld pSWITCH F.SWITCH.BUF_DROP.COUNT) (h106 : σ.fld pSWITCH (Fld.mk 12 9 1)) (h107 : ∀ n, σ.page (pPORT n)) (h108 : σ.fld pCAPTURE F.CAPTURE.LOST.COUNT) (h109 : σ.fld pCAPTURE (Fld.mk 12 9 1)) (h110 : σ.fld pCAPTURE F.CAPTURE.WR_SEQ.SEQ) (h111 : σ.fld pCAPTURE (Fld.mk 12 8 1)) (h112 : σ.fld pBUFMEM (Fld.mk 12 13 1)) (h113 : σ.fld pSWITCH F.SWITCH.NOPATH.COUNT) (h114 : σ.fld pSWITCH (Fld.mk 12 11 1)) :
    Kept σ ρ (State.platRelease s) := by
  unfold State.platRelease
  exact Kept.ite (hk0) (Kept.plat (Kept.foldl (fun x15 a16 k17 => sendRing_kept (k17) h101 h102 h104 h105 h106 h107 h108 h109 h110 h111 h112 h113 h114) _ _ (Kept.ite (nextFree_kept (hk0)) (hk0))) h103)

theorem platStore_kept {σ : Scope} {ρ : State} {s : State} {f : Frame} (hk0 : Kept σ ρ s) (h101 : σ.part .mem = true) (h102 : σ.part .plat = true) (h103 : σ.fld pPLAT (if (s.rxOf (srcNode f)).ready = true then F.PLAT.VIEWDROP.COUNT else F.PLAT.INCOMPLETE.COUNT)) (h104 : σ.fld pPLAT (Fld.mk 12 12 1)) (h105 : σ.fld pPLAT (mapBit F.PLAT.VALID.MAP (srcNode f))) (h106 : σ.fld pPLAT (mapBit F.PLAT.STALE.MAP (srcNode f))) (h107 : σ.fld pPLAT (Fld.mk 12 9 1)) :
    Kept σ ρ (State.platStore s f) := by
  unfold State.platStore
  exact Kept.cut (fun k1 => Kept.ite (k1) (Kept.cut (fun k3 => Kept.ite (Kept.ite (setRx_kept (k3) h102) (flip_kept (k3) h102 h105 h106 h107)) (setRx_kept (k3) h102)) (stBytes_kept (k1) h101))) (Kept.ite (platDrop_kept (hk0) h103 h104) (hk0))

theorem platRx_kept {σ : Scope} {ρ : State} {s : State} {n : ℕ} {stamp : ℕ} {f : Frame} (hk0 : Kept σ ρ s) (h101 : σ.part .sw = true) (h102 : σ.part .cycle = true) (h103 : σ.part .mem = true) (h104 : σ.part .plat = true) (h105 : σ.fld pHSR F.HSR.USED.COUNT) (h106 : σ.fld pHSR F.HSR.EVICT_UNMATCHED.COUNT) (h107 : σ.fld pHSR (Fld.mk 12 8 1)) (h108 : σ.page pPLAT) :
    Kept σ ρ (State.platRx s n stamp f) := by
  unfold State.platRx
  exact Kept.ite (hk0) (Kept.ite (hsrTake_kept (hk0) h101 h105 h106 h107) (Kept.cut (fun k1 => Kept.ite (k1) (Kept.ite (platDrop_kept (k1) h108.fld h108.fld) (Kept.ite (platDrop_kept (k1) h108.fld h108.fld) (Kept.ite (platDrop_kept (k1) h108.fld h108.fld) (platStore_kept (k1) h103 h104 h108.fld h108.fld h108.fld h108.fld h108.fld))))) (noteVote_kept (hsrTake_kept (hk0) h101 h105 h106 h107) h102)))

theorem viewFlip_kept {σ : Scope} {ρ : State} {s : State} {k : ℕ} (hk0 : Kept σ ρ s) (h101 : σ.part .plat = true) (h102 : σ.fld pPLAT (mapBit F.PLAT.VALID.MAP s.nid)) (h103 : σ.fld pPLAT (mapBit F.PLAT.STALE.MAP s.nid)) (h104 : σ.fld pPLAT (Fld.mk 12 9 1)) (h105 : σ.fld pPLAT F.PLAT.OWN_CYC.CYCLE) (h106 : σ.fld pPLAT (Fld.mk 12 10 1)) (h107 : σ.fld pPLAT (mapBit F.PLAT.VALID.MAP k)) (h108 : σ.fld pPLAT (mapBit F.PLAT.STALE.MAP k)) :
    Kept σ ρ (State.viewFlip s k) := by
  unfold State.viewFlip
  exact Kept.ite (hk0) (Kept.ite (ownFlip_kept (hk0) h101 h102 h103 h104 h105 h106) (flip_kept (hk0) h101 h107 h108 h104))

theorem vote_kept {σ : Scope} {ρ : State} {s : State} (hk0 : Kept σ ρ s) (h101 : σ.part .cycle = true) (h102 : σ.fld pCYCLE F.CYCLE.VOTE.FOR) (h103 : σ.fld pCYCLE F.CYCLE.VOTE.AGAINST) (h104 : σ.fld pCYCLE F.CYCLE.MAJ_DIG.DIGEST) (h105 : σ.fld pCYCLE F.CYCLE.STS.NOMAJ) (h106 : σ.fld pCYCLE (Fld.mk 12 10 1)) (h107 : σ.fld pCYCLE F.CYCLE.STS.DISAGREE) (h108 : σ.fld pCYCLE F.CYCLE.STS.PUBLISH) (h109 : σ.fld pCYCLE F.HDR.PSTS.CODE) (h110 : σ.fld pCYCLE F.HDR.PSTS.INDEX) (h111 : σ.fld pCYCLE F.HDR.PSTS.REFUSED) (h112 : σ.fld pCYCLE (Fld.mk 12 0 1)) (h113 : σ.fld pCYCLE (Fld.mk 12 9 1)) :
    Kept σ ρ (State.vote s) := by
  unfold State.vote
  exact Kept.cut (fun k13 => (by (try dsimp only); split; exacts [event_kept (k13) h106, Kept.ite (k13) (event_kept (refuse_kept (set_kept (set_kept (k13) h107) h108) h109 h110 h111 h112) h113)])) (Kept.cycle (setB_kept (set_kept (set_kept (set_kept (hk0) h102) h103) h104) h105) h101)

theorem execCycleRejoin_kept {σ : Scope} {clk : ℕ} {s : State} (h101 : σ.part .page = true) (h102 : σ.fld pCYCLE F.CYCLE.STS.PUBLISH) (h103 : σ.fld pCYCLE F.CYCLE.STS.DISAGREE) (h104 : σ.fld pCYCLE F.HDR.PSTS.REFUSED) (h105 : σ.fld pCYCLE (Fld.mk 12 13 1)) (h106 : σ.fld pCYCLE F.HDR.PSTS.CODE) (h107 : σ.fld pCYCLE F.HDR.PSTS.INDEX) (h108 : σ.fld pCYCLE (Fld.mk 12 0 1)) (h109 : σ.fld pSYS (Fld.mk 12 11 1)) :
    KeptNext σ s (execCycleRejoin clk s) := by
  unfold execCycleRejoin
  exact KeptNext.next (bitWrite_kept (advance_kept (Kept.refl σ s)) (fun x0 k1 => cycleRejoin_kept (k1) h102 h103 h104 h105 h106 h107 h108) h101 h109 h106 h107 h104 h108)

theorem execPlatFrameRx_kept {σ : Scope} {clk : ℕ} {port : ℕ} {stamp : ℕ} {fr : Frame} {s : State} (h101 : σ.part .sw = true) (h102 : σ.part .cycle = true) (h103 : σ.part .mem = true) (h104 : σ.part .plat = true) (h105 : σ.fld pHSR F.HSR.USED.COUNT) (h106 : σ.fld pHSR F.HSR.EVICT_UNMATCHED.COUNT) (h107 : σ.fld pHSR (Fld.mk 12 8 1)) (h108 : σ.page pPLAT) :
    KeptNext σ s (execPlatFrameRx clk port stamp fr s) := by
  unfold execPlatFrameRx
  exact KeptNext.next (platRx_kept (advance_kept (Kept.refl σ s)) h101 h102 h103 h104 h105 h106 h107 h108)

theorem execPlatOutputWrite_kept {σ : Scope} {clk : ℕ} {addr : ℕ} {data : List Byte} {src : Source} {s : State} (h101 : σ.part .plat = true) (h102 : σ.fld pSYS (Fld.mk 12 8 1)) (h103 : σ.fld pSYS F.SYS.AERR_LO.ADDR_LO) (h104 : σ.fld pSYS F.SYS.AERR_HI.ADDR_HI) (h105 : σ.fld pSYS F.SYS.AERR_HI.SOURCE) (h106 : σ.fld pSYS F.SYS.AERR_HI.VALID) :
    KeptNext σ s (execPlatOutputWrite clk addr data src s) := by
  unfold execPlatOutputWrite
  exact KeptNext.next (whenOn_kept (advance_kept (Kept.refl σ s)) (fun x0 k1 => outputWrite_kept (k1) h101 h102 h103 h104 h105 h106))

theorem execPlatOwnSent_kept {σ : Scope} {clk : ℕ} {port : ℕ} {s : State} (h101 : σ.part .ports = true) (h102 : σ.part .mscl = true) (h103 : σ.part .sw = true) (h104 : σ.part .mem = true) (h105 : σ.part .gang = true) (h106 : σ.part .stamps = true) (h107 : σ.part .plat = true) (h108 : σ.fld pSTAMP F.STAMP.ONESTEP_ERR.COUNT) (h109 : σ.fld pSTAMP (Fld.mk 12 8 1)) (h110 : σ.fld pCAPTURE F.CAPTURE.LOST.COUNT) (h111 : σ.fld pCAPTURE (Fld.mk 12 9 1)) (h112 : σ.fld pCAPTURE F.CAPTURE.WR_SEQ.SEQ) (h113 : σ.fld pCAPTURE (Fld.mk 12 8 1)) (h114 : σ.fld pSTAMP F.STAMP.TXQOVF.COUNT) (h115 : σ.fld pSTAMP (Fld.mk 12 9 1)) (h116 : σ.fld pSTAMP (Fld.mk 12 10 1)) (h117 : σ.fld (pPORT port) (portCtr 9)) (h118 : σ.fld (pPORT port) (portCtr 10)) (h119 : σ.fld (pPORT port) (portCtr 11)) (h120 : σ.page pPLAT) :
    KeptNext σ s (execPlatOwnSent clk port s) := by
  unfold execPlatOwnSent
  exact KeptNext.next (Kept.ite (platOwnSent_kept (advance_kept (Kept.refl σ s)) h101 h102 h103 h104 h105 h106 h107 h108 h109 h110 h111 h112 h113 h114 h115 h116 h117 h118 h119 h120) (advance_kept (Kept.refl σ s)))

theorem execPlatRelease_kept {σ : Scope} {s : State} (h101 : σ.part .cycle = true) (h102 : σ.part .sw = true) (h103 : σ.part .mem = true) (h104 : σ.part .plat = true) (h105 : σ.fld pHSR F.HSR.SEQ.NEXT) (h106 : σ.fld pSWITCH F.SWITCH.BUF_DROP.COUNT) (h107 : σ.fld pSWITCH (Fld.mk 12 9 1)) (h108 : ∀ n, σ.page (pPORT n)) (h109 : σ.fld pCAPTURE F.CAPTURE.LOST.COUNT) (h110 : σ.fld pCAPTURE (Fld.mk 12 9 1)) (h111 : σ.fld pCAPTURE F.CAPTURE.WR_SEQ.SEQ) (h112 : σ.fld pCAPTURE (Fld.mk 12 8 1)) (h113 : σ.fld pBUFMEM (Fld.mk 12 13 1)) (h114 : σ.fld pSWITCH F.SWITCH.NOPATH.COUNT) (h115 : σ.fld pSWITCH (Fld.mk 12 11 1)) :
    KeptNext σ s (execPlatRelease s) := by
  unfold execPlatRelease
  exact KeptNext.next (Kept.ite (platRelease_kept (evNow_kept (Kept.refl σ s) h101) h102 h103 h104 h105 h106 h107 h108 h109 h110 h111 h112 h113 h114 h115) (Kept.refl σ s))

theorem execPlatViewFlip_kept {σ : Scope} {s : State} (h101 : σ.part .cycle = true) (h102 : σ.part .plat = true) (h103 : σ.page pPLAT) :
    KeptNext σ s (execPlatViewFlip s) := by
  unfold execPlatViewFlip
  exact KeptNext.next (Kept.ite (Kept.foldl (fun x0 a1 k2 => viewFlip_kept (k2) h102 h103.fld h103.fld h103.fld h103.fld h103.fld h103.fld h103.fld) _ _ (evNow_kept (Kept.refl σ s) h101)) (Kept.refl σ s))

theorem execPlatVote_kept {σ : Scope} {s : State} (h101 : σ.part .cycle = true) (h102 : σ.fld pCYCLE F.CYCLE.VOTE.FOR) (h103 : σ.fld pCYCLE F.CYCLE.VOTE.AGAINST) (h104 : σ.fld pCYCLE F.CYCLE.MAJ_DIG.DIGEST) (h105 : σ.fld pCYCLE F.CYCLE.STS.NOMAJ) (h106 : σ.fld pCYCLE (Fld.mk 12 10 1)) (h107 : σ.fld pCYCLE F.CYCLE.STS.DISAGREE) (h108 : σ.fld pCYCLE F.CYCLE.STS.PUBLISH) (h109 : σ.fld pCYCLE F.HDR.PSTS.CODE) (h110 : σ.fld pCYCLE F.HDR.PSTS.INDEX) (h111 : σ.fld pCYCLE F.HDR.PSTS.REFUSED) (h112 : σ.fld pCYCLE (Fld.mk 12 0 1)) (h113 : σ.fld pCYCLE (Fld.mk 12 9 1)) :
    KeptNext σ s (execPlatVote s) := by
  unfold execPlatVote
  exact KeptNext.next (Kept.ite (vote_kept (evNow_kept (Kept.refl σ s) h101) h101 h102 h103 h104 h105 h106 h107 h108 h109 h110 h111 h112 h113) (Kept.refl σ s))

theorem refMiss_kept {σ : Scope} {ρ : State} {s : State} {n : ℕ} {k : ℕ} (hk0 : Kept σ ρ s) (h101 : σ.fld (pCAN n) F.CAN.REFMISS.COUNT) (h102 : σ.fld (pCAN n) (Fld.mk 12 18 1)) :
    Kept σ ρ (State.refMiss s n k) := by
  unfold State.refMiss
  exact Kept.ite (hk0) (event_kept (bumpBy_kept (hk0) h101) h102)

theorem refStep_kept {σ : Scope} {ρ : State} {s : State} {n : ℕ} {a : ℕ} {b : ℕ} (hk0 : Kept σ ρ s) (h101 : σ.part .cans = true) (h102 : σ.fld (pCAN n) F.CAN.REFMISS.COUNT) (h103 : σ.fld (pCAN n) (Fld.mk 12 18 1)) (h104 : σ.fld (pCAN n) F.CAN.STS.REF_PEND) :
    Kept σ ρ (State.refStep s n a b) := by
  unfold State.refStep
  exact Kept.ite (hk0) (setCan_kept (set_kept (refMiss_kept (hk0) h102 h103) h104) h101)

theorem canStep_kept {σ : Scope} {ρ : State} {s : State} {a : ℕ} {b : ℕ} (hk0 : Kept σ ρ s) (h101 : σ.part .cans = true) (h102 : ∀ n, σ.page (pCAN n)) :
    Kept σ ρ (State.canStep s a b) := by
  unfold State.canStep
  exact Kept.foldl (fun x0 a1 k2 => Kept.ite (refStep_kept (k2) h101 (h102 _).fld (h102 _).fld (h102 _).fld) (k2)) _ _ (hk0)

end Sys2Proof.Laws
end

