-- ==== Sys2Proof/Laws/Kept05.lean ====
section
/-!
SUPPORT. What the operations and commands of these files keep: Machine/Datum, Machine/Monument.
-/

namespace Sys2Proof.Laws

open Sys2Proof Sys2Proof.Machine

theorem datumOn_kept {σ : Scope} {ρ : State} {s : State} (hk0 : Kept σ ρ s) (h101 : σ.part .datum = true) (h102 : σ.page pSTAMP) :
    Kept σ ρ (State.datumOn s) := by
  unfold State.datumOn
  exact Kept.datum (Kept.foldl (fun x5 a6 k7 => set_kept (k7) h102.fld) _ _ (hk0)) h101

theorem setShadow_kept {σ : Scope} {ρ : State} {s : State} {p : ℕ} {off : ℕ} {w : Word} (hk0 : Kept σ ρ s) (h101 : σ.part .shadow = true) :
    Kept σ ρ (State.setShadow s p off w) := by
  unfold State.setShadow
  exact Kept.shadow (hk0) h101

theorem txqKeep_kept {σ : Scope} {ρ : State} {s : State} (hk0 : Kept σ ρ s) (h101 : σ.part .stamps = true) (h102 : σ.fld pSTAMP F.STAMP.TXQOVF.COUNT) (h103 : σ.fld pSTAMP (Fld.mk 12 9 1)) :
    Kept σ ρ (State.txqKeep s) := by
  unfold State.txqKeep
  exact (by (try dsimp only); split; exacts [hk0, Kept.ite (setB_kept (set_kept (Kept.u_sets_stamps (hk0) h101 ) h102) h103) (hk0)])

theorem txqPop_kept {σ : Scope} {ρ : State} {s : State} (hk0 : Kept σ ρ s) (h101 : σ.part .shadow = true) (h102 : σ.part .result = true) (h103 : σ.part .stamps = true) (h104 : σ.fld pSTAMP F.STAMP.TXQOVF.COUNT) (h105 : σ.fld pSTAMP (Fld.mk 12 9 1)) :
    Kept σ ρ (State.txqPop s) := by
  unfold State.txqPop
  exact (by (try dsimp only); split; exacts [Kept.result (setShadow_kept (setShadow_kept (hk0) h101) h101) h102, txqKeep_kept (Kept.u_result_stamps (setShadow_kept (setShadow_kept (hk0) h101) h101) h102 h103 ) h103 h104 h105])

theorem datumOff_kept {σ : Scope} {ρ : State} {s : State} (hk0 : Kept σ ρ s) (h101 : σ.part .datum = true) :
    Kept σ ρ (State.datumOff s) := by
  unfold State.datumOff
  exact Kept.datum (hk0) h101

theorem closeUnlock_kept {σ : Scope} {ρ : State} {s : State} (hk0 : Kept σ ρ s) (h101 : σ.part .datum = true) :
    Kept σ ρ (State.closeUnlock s) := by
  unfold State.closeUnlock
  exact Kept.datum (hk0) h101

theorem makeFold_kept {σ : Scope} {ρ : State} {s : State} {step : ℤ} {inc : ℕ} (hk0 : Kept σ ρ s) (h101 : σ.part .datum = true) (h102 : σ.part .ports = true) :
    Kept σ ρ (State.makeFold s step inc) := by
  unfold State.makeFold
  exact Kept.u_datum_ports (hk0) h101 h102

theorem holdRec_kept {σ : Scope} {ρ : State} {s : State} {entry : Bool} {cause : ℕ} (hk0 : Kept σ ρ s) (h101 : σ.part .book = true) (h102 : σ.fld pBOOK F.BOOK.DISCARD.COUNT) (h103 : σ.fld pBOOK F.BOOK.SHADOW.DROP) (h104 : σ.fld pBOOK (Fld.mk 12 12 1)) (h105 : σ.fld (pEDGE ((Rec.mk s.now 114 (bit entry + 2 * cause) 0 (leBytes 6 s.incNow ++ leBytes 2 0)).source / 64)) F.EDGE.DROPS.COUNT) (h106 : σ.fld (pEDGE ((Rec.mk s.now 114 (bit entry + 2 * cause) 0 (leBytes 6 s.incNow ++ leBytes 2 0)).source / 64)) (Fld.mk 12 11 1)) (h107 : σ.fld pBOOK F.BOOK.DISCARD_SYS.COUNT) (h108 : σ.fld pBOOK (Fld.mk 12 8 1)) :
    Kept σ ρ (State.holdRec s entry cause) := by
  unfold State.holdRec
  exact note_kept (hk0) h101 h102 h103 h104 h105 h106 h107 h108

theorem datumClr_kept {σ : Scope} {ρ : State} {s : State} {o : State} (hk0 : Kept σ ρ s) (h101 : σ.part .datum = true) (h102 : σ.part .ports = true) (h103 : σ.part .book = true) (h104 : σ.fld pBOOK F.BOOK.DISCARD.COUNT) (h105 : σ.fld pBOOK F.BOOK.SHADOW.DROP) (h106 : σ.fld pBOOK (Fld.mk 12 12 1)) (h107 : ∀ n, σ.page (pEDGE n)) (h108 : σ.fld pBOOK F.BOOK.DISCARD_SYS.COUNT) (h109 : σ.fld pBOOK (Fld.mk 12 8 1)) :
    Kept σ ρ (State.datumClr s o) := by
  unfold State.datumClr
  exact Kept.cut (fun k1 => Kept.ite (holdRec_kept (k1) h103 h104 h105 h106 (h107 _).fld (h107 _).fld h108 h109) (k1)) (datumOff_kept (closeUnlock_kept (makeFold_kept (hk0) h101 h102) h101) h101)

theorem holdExit_kept {σ : Scope} {ρ : State} {s : State} (hk0 : Kept σ ρ s) (h101 : σ.part .book = true) (h102 : σ.fld pDATUM F.DATUM.STS.HOLDOVER) (h103 : σ.fld pDATUM F.DATUM.STS.HO_CAUSE) (h104 : σ.fld pBOOK F.BOOK.DISCARD.COUNT) (h105 : σ.fld pBOOK F.BOOK.SHADOW.DROP) (h106 : σ.fld pBOOK (Fld.mk 12 12 1)) (h107 : σ.fld (pEDGE
  ((Rec.mk ((s.set pDATUM F.DATUM.STS.HOLDOVER 0).set pDATUM F.DATUM.STS.HO_CAUSE 0).now 114
        (bit false + 2 * s.get pDATUM F.DATUM.STS.HO_CAUSE) 0
        (leBytes 6 ((s.set pDATUM F.DATUM.STS.HOLDOVER 0).set pDATUM F.DATUM.STS.HO_CAUSE 0).incNow ++
          leBytes 2 0)).source /
    64)) F.EDGE.DROPS.COUNT) (h108 : σ.fld (pEDGE
  ((Rec.mk ((s.set pDATUM F.DATUM.STS.HOLDOVER 0).set pDATUM F.DATUM.STS.HO_CAUSE 0).now 114
        (bit false + 2 * s.get pDATUM F.DATUM.STS.HO_CAUSE) 0
        (leBytes 6 ((s.set pDATUM F.DATUM.STS.HOLDOVER 0).set pDATUM F.DATUM.STS.HO_CAUSE 0).incNow ++
          leBytes 2 0)).source /
    64)) (Fld.mk 12 11 1)) (h109 : σ.fld pBOOK F.BOOK.DISCARD_SYS.COUNT) (h110 : σ.fld pBOOK (Fld.mk 12 8 1)) :
    Kept σ ρ (State.holdExit s) := by
  unfold State.holdExit
  exact holdRec_kept (set_kept (set_kept (hk0) h102) h103) h101 h104 h105 h106 h107 h108 h109 h110

theorem resume_kept {σ : Scope} {ρ : State} {s : State} (hk0 : Kept σ ρ s) (h101 : σ.part .book = true) (h102 : σ.fld pDATUM F.DATUM.STS.HOLDOVER) (h103 : σ.fld pDATUM F.DATUM.STS.HO_CAUSE) (h104 : σ.fld pBOOK F.BOOK.DISCARD.COUNT) (h105 : σ.fld pBOOK F.BOOK.SHADOW.DROP) (h106 : σ.fld pBOOK (Fld.mk 12 12 1)) (h107 : σ.fld (pEDGE
  ((Rec.mk ((s.set pDATUM F.DATUM.STS.HOLDOVER 0).set pDATUM F.DATUM.STS.HO_CAUSE 0).now 114
        (bit false + 2 * s.get pDATUM F.DATUM.STS.HO_CAUSE) 0
        (leBytes 6 ((s.set pDATUM F.DATUM.STS.HOLDOVER 0).set pDATUM F.DATUM.STS.HO_CAUSE 0).incNow ++
          leBytes 2 0)).source /
    64)) F.EDGE.DROPS.COUNT) (h108 : σ.fld (pEDGE
  ((Rec.mk ((s.set pDATUM F.DATUM.STS.HOLDOVER 0).set pDATUM F.DATUM.STS.HO_CAUSE 0).now 114
        (bit false + 2 * s.get pDATUM F.DATUM.STS.HO_CAUSE) 0
        (leBytes 6 ((s.set pDATUM F.DATUM.STS.HOLDOVER 0).set pDATUM F.DATUM.STS.HO_CAUSE 0).incNow ++
          leBytes 2 0)).source /
    64)) (Fld.mk 12 11 1)) (h109 : σ.fld pBOOK F.BOOK.DISCARD_SYS.COUNT) (h110 : σ.fld pBOOK (Fld.mk 12 8 1)) :
    Kept σ ρ (State.resume s) := by
  unfold State.resume
  exact Kept.ite (hk0) (Kept.ite (hk0) (holdExit_kept (hk0) h101 h102 h103 h104 h105 h106 h107 h108 h109 h110))

theorem holdEnter_kept {σ : Scope} {ρ : State} {s : State} {cause : ℕ} (hk0 : Kept σ ρ s) (h101 : σ.part .book = true) (h102 : σ.fld pDATUM F.DATUM.STS.HOLDOVER) (h103 : σ.fld pDATUM F.DATUM.STS.HO_CAUSE) (h104 : σ.fld pDATUM (Fld.mk 12 10 1)) (h105 : σ.fld pBOOK F.BOOK.DISCARD.COUNT) (h106 : σ.fld pBOOK F.BOOK.SHADOW.DROP) (h107 : σ.fld pBOOK (Fld.mk 12 12 1)) (h108 : σ.fld (pEDGE
  ((Rec.mk (((s.set pDATUM F.DATUM.STS.HOLDOVER 1).set pDATUM F.DATUM.STS.HO_CAUSE cause).event pDATUM 10).now 114
        (bit true + 2 * cause) 0
        (leBytes 6
            (((s.set pDATUM F.DATUM.STS.HOLDOVER 1).set pDATUM F.DATUM.STS.HO_CAUSE cause).event pDATUM 10).incNow ++
          leBytes 2 0)).source /
    64)) F.EDGE.DROPS.COUNT) (h109 : σ.fld (pEDGE
  ((Rec.mk (((s.set pDATUM F.DATUM.STS.HOLDOVER 1).set pDATUM F.DATUM.STS.HO_CAUSE cause).event pDATUM 10).now 114
        (bit true + 2 * cause) 0
        (leBytes 6
            (((s.set pDATUM F.DATUM.STS.HOLDOVER 1).set pDATUM F.DATUM.STS.HO_CAUSE cause).event pDATUM 10).incNow ++
          leBytes 2 0)).source /
    64)) (Fld.mk 12 11 1)) (h110 : σ.fld pBOOK F.BOOK.DISCARD_SYS.COUNT) (h111 : σ.fld pBOOK (Fld.mk 12 8 1)) :
    Kept σ ρ (State.holdEnter s cause) := by
  unfold State.holdEnter
  exact holdRec_kept (event_kept (set_kept (set_kept (hk0) h102) h103) h104) h101 h105 h106 h107 h108 h109 h110 h111

theorem holdReq_kept {σ : Scope} {ρ : State} {s : State} (hk0 : Kept σ ρ s) (h101 : σ.part .book = true) (h102 : σ.fld pDATUM F.DATUM.STS.HOLDOVER) (h103 : σ.fld pDATUM F.DATUM.STS.HO_CAUSE) (h104 : σ.fld pDATUM (Fld.mk 12 10 1)) (h105 : σ.fld pBOOK F.BOOK.DISCARD.COUNT) (h106 : σ.fld pBOOK F.BOOK.SHADOW.DROP) (h107 : σ.fld pBOOK (Fld.mk 12 12 1)) (h108 : σ.fld (pEDGE
  ((Rec.mk (((s.set pDATUM F.DATUM.STS.HOLDOVER 1).set pDATUM F.DATUM.STS.HO_CAUSE 2).event pDATUM 10).now 114
        (bit true + 2 * 2) 0
        (leBytes 6 (((s.set pDATUM F.DATUM.STS.HOLDOVER 1).set pDATUM F.DATUM.STS.HO_CAUSE 2).event pDATUM 10).incNow ++
          leBytes 2 0)).source /
    64)) F.EDGE.DROPS.COUNT) (h109 : σ.fld (pEDGE
  ((Rec.mk (((s.set pDATUM F.DATUM.STS.HOLDOVER 1).set pDATUM F.DATUM.STS.HO_CAUSE 2).event pDATUM 10).now 114
        (bit true + 2 * 2) 0
        (leBytes 6 (((s.set pDATUM F.DATUM.STS.HOLDOVER 1).set pDATUM F.DATUM.STS.HO_CAUSE 2).event pDATUM 10).incNow ++
          leBytes 2 0)).source /
    64)) (Fld.mk 12 11 1)) (h110 : σ.fld pBOOK F.BOOK.DISCARD_SYS.COUNT) (h111 : σ.fld pBOOK (Fld.mk 12 8 1)) :
    Kept σ ρ (State.holdReq s) := by
  unfold State.holdReq
  exact Kept.ite (hk0) (holdEnter_kept (hk0) h101 h102 h103 h104 h105 h106 h107 h108 h109 h110 h111)

theorem incWrite_kept {σ : Scope} {ρ : State} {s : State} {hi : Word} (hk0 : Kept σ ρ s) (h101 : σ.part .datum = true) (h102 : σ.part .ports = true) (h103 : σ.fld pDATUM F.DATUM.INC.all) (h104 : σ.fld pDATUM F.DATUM.INCDROP.COUNT) (h105 : σ.fld pDATUM (Fld.mk 12 11 1)) :
    Kept σ ρ (State.incWrite s hi) := by
  unfold State.incWrite
  exact Kept.ite (set_kept (makeFold_kept (hk0) h101 h102) h103) (event_kept (bumpSat_kept (hk0) h104) h105)

theorem stepRefuse_kept {σ : Scope} {ρ : State} {s : State} {v : ℕ} {rsn : ℕ} {src : Source} (hk0 : Kept σ ρ s) (h101 : σ.part .book = true) (h102 : σ.fld pDATUM F.DATUM.REFSTEP.VALUE) (h103 : σ.fld pDATUM F.DATUM.STS.STEP_RSN) (h104 : σ.fld pDATUM F.DATUM.STEPCNT.REFUSED) (h105 : σ.fld pDATUM (Fld.mk 12 9 1)) (h106 : σ.fld pBOOK F.BOOK.DISCARD.COUNT) (h107 : σ.fld pBOOK F.BOOK.SHADOW.DROP) (h108 : σ.fld pBOOK (Fld.mk 12 12 1)) (h109 : ∀ n, σ.page (pEDGE n)) (h110 : σ.fld pBOOK F.BOOK.DISCARD_SYS.COUNT) (h111 : σ.fld pBOOK (Fld.mk 12 8 1)) (h112 : σ.fld pDATUM F.DATUM.STS.HOLDOVER) (h113 : σ.fld pDATUM F.DATUM.STS.HO_CAUSE) (h114 : σ.fld pDATUM (Fld.mk 12 10 1)) :
    Kept σ ρ (State.stepRefuse s v rsn src) := by
  unfold State.stepRefuse
  exact Kept.cut (fun k13 => Kept.ite (k13) (holdEnter_kept (k13) h101 h112 h113 h114 h106 h107 h108 (h109 _).fld (h109 _).fld h110 h111)) (note_kept (event_kept (bumpSat_kept (set_kept (set_kept (hk0) h102) h103) h104) h105) h101 h106 h107 h108 (h109 _).fld (h109 _).fld h110 h111)

theorem stepAccept_kept {σ : Scope} {ρ : State} {s : State} {v : ℤ} (hk0 : Kept σ ρ s) (h101 : σ.part .datum = true) (h102 : σ.part .ports = true) (h103 : σ.part .mscl = true) (h104 : σ.part .book = true) (h105 : σ.part .cycle = true) (h106 : σ.part .plat = true) (h107 : σ.part .mem = true) (h108 : σ.part .cans = true) (h109 : σ.page pDATUM) (h110 : σ.page pBOOK) (h111 : ∀ n, σ.page (pEDGE n)) (h112 : σ.page pCYCLE) (h113 : σ.page pPLAT) (h114 : ∀ n, σ.page (pCAN n)) :
    Kept σ ρ (State.stepAccept s v) := by
  unfold State.stepAccept
  exact Kept.cut (fun k19 => canStep_kept (cycleStep_kept (Kept.ite (holdExit_kept (k19) h104 h109.fld h109.fld h110.fld h110.fld h110.fld (h111 _).fld (h111 _).fld h110.fld h110.fld) (k19)) h105 h106 h107 h112.fld h112.fld h112.fld h112.fld h113) h108 h114) (event_kept (bumpSat_kept (set_kept (Kept.u_datum_mscl (closeUnlock_kept (makeFold_kept (hk0) h101 h102) h101) h101 h103 ) h109.fld) h109.fld) h109.fld)

theorem stepWrite_kept {σ : Scope} {ρ : State} {s : State} {hi : Word} {src : Source} (hk0 : Kept σ ρ s) (h101 : σ.part .book = true) (h102 : σ.part .datum = true) (h103 : σ.part .ports = true) (h104 : σ.part .mscl = true) (h105 : σ.part .cycle = true) (h106 : σ.part .plat = true) (h107 : σ.part .mem = true) (h108 : σ.part .cans = true) (h109 : ∀ n, σ.page (pEDGE n)) (h110 : σ.page pDATUM) (h111 : σ.page pBOOK) (h112 : σ.page pCYCLE) (h113 : σ.page pPLAT) (h114 : ∀ n, σ.page (pCAN n)) :
    Kept σ ρ (State.stepWrite s hi src) := by
  unfold State.stepWrite
  exact (by (try dsimp only); split; exacts [stepRefuse_kept (hk0) h101 h110.fld h110.fld h110.fld h110.fld h111.fld h111.fld h111.fld h109 h111.fld h111.fld h110.fld h110.fld h110.fld, stepAccept_kept (hk0) h102 h103 h104 h101 h105 h106 h107 h108 h110 h111 h109 h112 h113 h114])

theorem stepUnlock_kept {σ : Scope} {ρ : State} {s : State} {w : Word} (hk0 : Kept σ ρ s) (h101 : σ.part .datum = true) :
    Kept σ ρ (State.stepUnlock s w) := by
  unfold State.stepUnlock
  exact Kept.datum (hk0) h101

theorem ppsIn_kept {σ : Scope} {ρ : State} {s : State} {rising : Bool} (hk0 : Kept σ ρ s) (h101 : σ.fld pDATUM F.DATUM.PPS_IN.T) (h102 : σ.fld pDATUM F.DATUM.PPS_INCNT.COUNT) (h103 : σ.fld pDATUM (Fld.mk 12 13 1)) :
    Kept σ ρ (State.ppsIn s rising) := by
  unfold State.ppsIn
  exact Kept.ite (event_kept (bump_kept (set_kept (hk0) h101) h102) h103) (hk0)

theorem ppsStart_kept {σ : Scope} {ρ : State} {s : State} (hk0 : Kept σ ρ s) (h101 : σ.part .datum = true) :
    Kept σ ρ (State.ppsStart s) := by
  unfold State.ppsStart
  exact Kept.ite (Kept.datum (advanceT_kept (hk0)) h101) (hk0)

theorem ppsStop_kept {σ : Scope} {ρ : State} {s : State} (hk0 : Kept σ ρ s) (h101 : σ.part .datum = true) :
    Kept σ ρ (State.ppsStop s) := by
  unfold State.ppsStop
  exact (by (try dsimp only); split; exacts [hk0, Kept.datum (advanceT_kept (hk0)) h101])

theorem refFault_kept {σ : Scope} {ρ : State} {s : State} (hk0 : Kept σ ρ s) (h101 : σ.part .datum = true) (h102 : σ.part .book = true) (h103 : σ.fld pDATUM F.DATUM.STS.REF_FAULT) (h104 : σ.fld pDATUM (Fld.mk 12 12 1)) (h105 : σ.fld pDATUM F.DATUM.STS.HOLDOVER) (h106 : σ.fld pDATUM F.DATUM.STS.HO_CAUSE) (h107 : σ.fld pDATUM (Fld.mk 12 10 1)) (h108 : σ.fld pBOOK F.BOOK.DISCARD.COUNT) (h109 : σ.fld pBOOK F.BOOK.SHADOW.DROP) (h110 : σ.fld pBOOK (Fld.mk 12 12 1)) (h111 : ∀ n, σ.page (pEDGE n)) (h112 : σ.fld pBOOK F.BOOK.DISCARD_SYS.COUNT) (h113 : σ.fld pBOOK (Fld.mk 12 8 1)) :
    Kept σ ρ (State.refFault s) := by
  unfold State.refFault
  exact Kept.ite (hk0) (Kept.cut (fun k1 => Kept.ite (k1) (holdEnter_kept (closeUnlock_kept (k1) h101) h102 h105 h106 h107 h108 h109 h110 (h111 _).fld (h111 _).fld h112 h113)) (event_kept (set_kept (hk0) h103) h104))

theorem execDatumHoldReq_kept {σ : Scope} {clk : ℕ} {s : State} (h101 : σ.part .book = true) (h102 : σ.part .page = true) (h103 : σ.fld pDATUM F.DATUM.STS.HOLDOVER) (h104 : σ.fld pDATUM F.DATUM.STS.HO_CAUSE) (h105 : σ.fld pDATUM (Fld.mk 12 10 1)) (h106 : σ.fld pBOOK F.BOOK.DISCARD.COUNT) (h107 : σ.fld pBOOK F.BOOK.SHADOW.DROP) (h108 : σ.fld pBOOK (Fld.mk 12 12 1)) (h109 : ∀ n, σ.page (pEDGE n)) (h110 : σ.fld pBOOK F.BOOK.DISCARD_SYS.COUNT) (h111 : σ.fld pBOOK (Fld.mk 12 8 1)) (h112 : σ.fld pSYS (Fld.mk 12 11 1)) (h113 : σ.fld pDATUM F.HDR.PSTS.CODE) (h114 : σ.fld pDATUM F.HDR.PSTS.INDEX) (h115 : σ.fld pDATUM F.HDR.PSTS.REFUSED) (h116 : σ.fld pDATUM (Fld.mk 12 0 1)) :
    KeptNext σ s (execDatumHoldReq clk s) := by
  unfold execDatumHoldReq
  exact KeptNext.next (bitWrite_kept (advance_kept (Kept.refl σ s)) (fun x0 k1 => holdReq_kept (k1) h101 h103 h104 h105 h106 h107 h108 (h109 _).fld (h109 _).fld h110 h111) h102 h112 h113 h114 h115 h116)

theorem execDatumIncWrite_kept {σ : Scope} {clk : ℕ} {hi : TimeWrite} {s : State} (h101 : σ.part .datum = true) (h102 : σ.part .ports = true) (h103 : σ.part .page = true) (h104 : σ.fld pDATUM F.DATUM.INC.all) (h105 : σ.fld pDATUM F.DATUM.INCDROP.COUNT) (h106 : σ.fld pDATUM (Fld.mk 12 11 1)) (h107 : σ.fld pSYS (Fld.mk 12 11 1)) (h108 : σ.fld pDATUM F.HDR.PSTS.CODE) (h109 : σ.fld pDATUM F.HDR.PSTS.INDEX) (h110 : σ.fld pDATUM F.HDR.PSTS.REFUSED) (h111 : σ.fld pDATUM (Fld.mk 12 0 1)) :
    KeptNext σ s (execDatumIncWrite clk hi s) := by
  unfold execDatumIncWrite
  exact KeptNext.next (regWrite_kept (advance_kept (Kept.refl σ s)) (fun x0 k1 => incWrite_kept (k1) h101 h102 h104 h105 h106) h103 h107 h108 h109 h110 h111)

theorem execDatumResume_kept {σ : Scope} {clk : ℕ} {s : State} (h101 : σ.part .book = true) (h102 : σ.part .page = true) (h103 : σ.fld pDATUM F.DATUM.STS.HOLDOVER) (h104 : σ.fld pDATUM F.DATUM.STS.HO_CAUSE) (h105 : σ.fld pBOOK F.BOOK.DISCARD.COUNT) (h106 : σ.fld pBOOK F.BOOK.SHADOW.DROP) (h107 : σ.fld pBOOK (Fld.mk 12 12 1)) (h108 : ∀ n, σ.page (pEDGE n)) (h109 : σ.fld pBOOK F.BOOK.DISCARD_SYS.COUNT) (h110 : σ.fld pBOOK (Fld.mk 12 8 1)) (h111 : σ.fld pSYS (Fld.mk 12 11 1)) (h112 : σ.fld pDATUM F.HDR.PSTS.CODE) (h113 : σ.fld pDATUM F.HDR.PSTS.INDEX) (h114 : σ.fld pDATUM F.HDR.PSTS.REFUSED) (h115 : σ.fld pDATUM (Fld.mk 12 0 1)) :
    KeptNext σ s (execDatumResume clk s) := by
  unfold execDatumResume
  exact KeptNext.next (bitWrite_kept (advance_kept (Kept.refl σ s)) (fun x0 k1 => resume_kept (k1) h101 h103 h104 h105 h106 h107 (h108 _).fld (h108 _).fld h109 h110) h102 h111 h112 h113 h114 h115)

theorem execDatumStepUnlock_kept {σ : Scope} {clk : ℕ} {w : TimeWrite} {s : State} (h101 : σ.part .datum = true) (h102 : σ.part .page = true) (h103 : σ.fld pSYS (Fld.mk 12 11 1)) (h104 : σ.fld pDATUM F.HDR.PSTS.CODE) (h105 : σ.fld pDATUM F.HDR.PSTS.INDEX) (h106 : σ.fld pDATUM F.HDR.PSTS.REFUSED) (h107 : σ.fld pDATUM (Fld.mk 12 0 1)) :
    KeptNext σ s (execDatumStepUnlock clk w s) := by
  unfold execDatumStepUnlock
  exact KeptNext.next (regWrite_kept (advance_kept (Kept.refl σ s)) (fun x0 k1 => stepUnlock_kept (k1) h101) h102 h103 h104 h105 h106 h107)

theorem execDatumStepWrite_kept {σ : Scope} {clk : ℕ} {hi : Word} {src : Source} {s : State} (h101 : σ.part .book = true) (h102 : σ.part .datum = true) (h103 : σ.part .ports = true) (h104 : σ.part .mscl = true) (h105 : σ.part .cycle = true) (h106 : σ.part .plat = true) (h107 : σ.part .mem = true) (h108 : σ.part .cans = true) (h109 : σ.part .page = true) (h110 : ∀ n, σ.page (pEDGE n)) (h111 : σ.page pDATUM) (h112 : σ.page pBOOK) (h113 : σ.page pCYCLE) (h114 : σ.page pPLAT) (h115 : ∀ n, σ.page (pCAN n)) (h116 : σ.fld pSYS (Fld.mk 12 11 1)) :
    KeptNext σ s (execDatumStepWrite clk hi src s) := by
  unfold execDatumStepWrite
  exact KeptNext.next (regWrite_kept (advance_kept (Kept.refl σ s)) (fun x0 k1 => stepWrite_kept (k1) h101 h102 h103 h104 h105 h106 h107 h108 h110 h111 h112 h113 h114 h115) h109 h116 h111.fld h111.fld h111.fld h111.fld)

theorem execPpsInEdge_kept {σ : Scope} {clk : ℕ} {rising : Bool} {s : State} (h101 : σ.fld pDATUM F.DATUM.PPS_IN.T) (h102 : σ.fld pDATUM F.DATUM.PPS_INCNT.COUNT) (h103 : σ.fld pDATUM (Fld.mk 12 13 1)) :
    KeptNext σ s (execPpsInEdge clk rising s) := by
  unfold execPpsInEdge
  exact KeptNext.next (ppsIn_kept (advance_kept (Kept.refl σ s)) h101 h102 h103)

theorem execPpsOutEnd_kept {σ : Scope} {s : State} (h101 : σ.part .datum = true) :
    KeptNext σ s (execPpsOutEnd s) := by
  unfold execPpsOutEnd
  exact KeptNext.next (ppsStop_kept (Kept.refl σ s) h101)

theorem execPpsOutStart_kept {σ : Scope} {s : State} (h101 : σ.part .datum = true) :
    KeptNext σ s (execPpsOutStart s) := by
  unfold execPpsOutStart
  exact KeptNext.next (ppsStart_kept (Kept.refl σ s) h101)

theorem execRefFaultClear_kept {σ : Scope} {clk : ℕ} {s : State} (h101 : σ.fld pDATUM F.DATUM.STS.REF_FAULT) :
    KeptNext σ s (execRefFaultClear clk s) := by
  unfold execRefFaultClear
  exact KeptNext.next (whenOn_kept (advance_kept (Kept.refl σ s)) (fun x0 k1 => set_kept (k1) h101))

theorem execRefFaultDetect_kept {σ : Scope} {clk : ℕ} {s : State} (h101 : σ.part .datum = true) (h102 : σ.part .book = true) (h103 : σ.fld pDATUM F.DATUM.STS.REF_FAULT) (h104 : σ.fld pDATUM (Fld.mk 12 12 1)) (h105 : σ.fld pDATUM F.DATUM.STS.HOLDOVER) (h106 : σ.fld pDATUM F.DATUM.STS.HO_CAUSE) (h107 : σ.fld pDATUM (Fld.mk 12 10 1)) (h108 : σ.fld pBOOK F.BOOK.DISCARD.COUNT) (h109 : σ.fld pBOOK F.BOOK.SHADOW.DROP) (h110 : σ.fld pBOOK (Fld.mk 12 12 1)) (h111 : ∀ n, σ.page (pEDGE n)) (h112 : σ.fld pBOOK F.BOOK.DISCARD_SYS.COUNT) (h113 : σ.fld pBOOK (Fld.mk 12 8 1)) :
    KeptNext σ s (execRefFaultDetect clk s) := by
  unfold execRefFaultDetect
  exact KeptNext.next (whenOn_kept (advance_kept (Kept.refl σ s)) (fun x0 k1 => refFault_kept (k1) h101 h102 h103 h104 h105 h106 h107 h108 h109 h110 h111 h112 h113))

theorem execTxqFlush_kept {σ : Scope} {clk : ℕ} {s : State} (h101 : σ.part .stamps = true) (h102 : σ.part .page = true) (h103 : σ.fld pSYS (Fld.mk 12 11 1)) (h104 : σ.fld pSTAMP F.HDR.PSTS.CODE) (h105 : σ.fld pSTAMP F.HDR.PSTS.INDEX) (h106 : σ.fld pSTAMP F.HDR.PSTS.REFUSED) (h107 : σ.fld pSTAMP (Fld.mk 12 0 1)) :
    KeptNext σ s (execTxqFlush clk s) := by
  unfold execTxqFlush
  exact KeptNext.next (bitWrite_kept (advance_kept (Kept.refl σ s)) (fun x0 k1 => Kept.stamps (k1) h101) h102 h103 h104 h105 h106 h107)

theorem execTxqPop_kept {σ : Scope} {clk : ℕ} {s : State} (h101 : σ.part .shadow = true) (h102 : σ.part .result = true) (h103 : σ.part .stamps = true) (h104 : σ.fld pSTAMP F.STAMP.TXQOVF.COUNT) (h105 : σ.fld pSTAMP (Fld.mk 12 9 1)) :
    KeptNext σ s (execTxqPop clk s) := by
  unfold execTxqPop
  exact KeptNext.next (whenOn_kept (advance_kept (Kept.refl σ s)) (fun x0 k1 => txqPop_kept (k1) h101 h102 h103 h104 h105))

theorem execUnlockWindowExpire_kept {σ : Scope} {s : State} (h101 : σ.part .datum = true) :
    KeptNext σ s (execUnlockWindowExpire s) := by
  unfold execUnlockWindowExpire
  exact KeptNext.next ((by split; exacts [closeUnlock_kept (advance_kept (Kept.refl σ s)) h101, Kept.refl σ s]))

theorem tamperReplay_kept {σ : Scope} {ρ : State} {s : State} (hk0 : Kept σ ρ s) (h101 : σ.part .pwr = true) (h102 : σ.fld pTAMPER F.TAMPER.LOG_STS.UNREPORTED) :
    Kept σ ρ (State.tamperReplay s) := by
  unfold State.tamperReplay
  exact set_kept (Kept.foldl (fun x0 a1 k2 => guardEvent_kept (k2) h101) _ _ (hk0)) h102

theorem setKey_kept {σ : Scope} {ρ : State} {s : State} {i : ℕ} {k : KeySlot} (hk0 : Kept σ ρ s) (h101 : σ.part .mon = true) :
    Kept σ ρ (State.setKey s i k) := by
  unfold State.setKey
  exact Kept.mon (hk0) h101 rfl rfl

theorem finishCommit_kept {σ : Scope} {ρ : State} {s : State} (hk0 : Kept σ ρ s) (h101 : σ.part .mon = true) :
    Kept σ ρ (State.finishCommit s) := by
  unfold State.finishCommit
  exact (by (try dsimp only); split; exacts [Kept.mon (setKey_kept (hk0) h101) h101 rfl rfl, hk0])

theorem monTest_target (l : List (Bool × Nat)) (r : MonRes) :
    (monTest l r).target = if firstCode l = 0 then r.target else 0 := by
  unfold monTest; split <;> rfl

theorem place_target (s : State) (st : Bool) (k : List Byte) (a : Nat) (p : Bool) (o : List Byte) :
    (s.place st k a p o).target = 0 := by
  unfold State.place; split <;> rfl

theorem monResult_target (s : State) (op : Nat) (stage : Bool) :
    (s.monResult op stage).target = 0 ∨ arrow s.mon.fuse (s.monResult op stage).target = true := by
  unfold State.monResult
  split
  case h_17 =>
    simp only [State.opTransition, monTest_target]
    split
    · next h =>
      right
      have : arrow s.mon.fuse (s.rd pMONUMENT 0x400).toNat = true := by
        by_contra hc
        have hf : arrow s.mon.fuse (s.rd pMONUMENT 0x400).toNat = false := by simpa using hc
        simp only [firstCode, hf, Bool.not_false, Bool.true_or, if_true] at h
        split at h <;> cases h
      exact this
    · exact .inl rfl
  all_goals left
  all_goals first
    | rfl
    | simp [State.opDerive, State.opGenerate, State.opGenIdent, State.opImport, State.opUnwrap, State.opWrap, State.opMac,
        State.opMacVerify, State.opSign, State.opPubkey, State.opAttest, State.opCommit, State.opDiscard, State.opErase,
        State.opInfo, State.opMkaKdf, State.opMkaIcv, State.opMkaUnwrap, monTest_target, place_target, monOut, monEnd]
    | (simp only [State.opProve, monTest_target]; split <;> (try rfl); split <;> rfl)

theorem monBegin_kept {σ : Scope} {ρ s : State} {op : Nat} {stage : Bool} (h : Kept σ ρ s) (hm : σ.part .mon = true)
    (hl : σ.part .life = true) (hb : σ.fld pMONUMENT F.MONUMENT.STS.BUSY) (ht : σ.fld pMONUMENT F.MONUMENT.STS.TRNG_OK) :
    Kept σ ρ (s.monBegin op stage) := by
  have h0 : Kept σ ρ s.finishCommit := finishCommit_kept h hm
  have h1 : Kept σ ρ (s.finishCommit.nextFree.set pMONUMENT F.MONUMENT.STS.BUSY 1) := set_kept (nextFree_kept h0) hb
  have h2 := Kept.ite (dc := instDecidableEqBool (s.finishCommit.monResult op stage).random true) (set_kept (v := 1) h1 ht) h1
  unfold State.monBegin State.opSet
  refine Kept.life h2 hm hl fun hk => ?_
  have hf : ∀ t : State, t = (if (s.finishCommit.monResult op stage).random = true then
      (s.finishCommit.nextFree.set pMONUMENT F.MONUMENT.STS.BUSY 1).set pMONUMENT F.MONUMENT.STS.TRNG_OK 1
      else s.finishCommit.nextFree.set pMONUMENT F.MONUMENT.STS.BUSY 1) → t.mon.fuse = s.finishCommit.mon.fuse := by
    rintro t rfl
    split <;> rfl
  refine ⟨⟨hk.1, hk.2.1, ?_⟩, le_rfl⟩
  intro o ho
  cases ho
  have := monResult_target s.finishCommit op stage
  rw [← hf _ rfl] at this
  exact this

theorem monGo_kept {σ : Scope} {ρ : State} {s : State} {op : ℕ} {stage : Bool} (hk0 : Kept σ ρ s) (h101 : σ.part .mon = true) (h102 : σ.part .life = true) (h103 : σ.fld pMONUMENT F.MONUMENT.CMD.OP) (h104 : σ.fld pMONUMENT F.MONUMENT.CMD.STAGE) (h105 : σ.fld pMONUMENT F.MONUMENT.STS.BUSY) (h106 : σ.fld pMONUMENT F.MONUMENT.STS.TRNG_OK) :
    Kept σ ρ (State.monGo s op stage) := by
  unfold State.monGo
  exact Kept.ite (hk0) (Kept.cut (fun k1 => Kept.ite (monBegin_kept (k1) h101 h102 h105 h106) (k1)) (setB_kept (set_kept (hk0) h103) h104))

theorem rtcSet_kept {σ : Scope} {ρ : State} {s : State} {hi : Word} (hk0 : Kept σ ρ s) (h101 : σ.part .mon = true) :
    Kept σ ρ (State.rtcSet s hi) := by
  unfold State.rtcSet
  exact Kept.mon (hk0) h101 rfl rfl

theorem rearm_kept {σ : Scope} {ρ : State} {s : State} {w : Word} (hk0 : Kept σ ρ s) (h101 : σ.part .mon = true) (h102 : σ.fld pTAMPER (Fld.mk 12 9 1)) (h103 : σ.fld pMONUMENT F.MONUMENT.STS.COND) (h104 : σ.fld pTAMPER (Fld.mk 12 10 1)) :
    Kept σ ρ (State.rearm s w) := by
  unfold State.rearm
  exact Kept.ite (hk0) (Kept.ite (event_kept (hk0) h102) (Kept.ite (hk0) (event_kept (set_kept (Kept.mon (nextFree_kept (hk0)) h101 rfl rfl) h103) h104)))

theorem batteryLoss_kept {σ : Scope} {ρ s : State} (h : Kept σ ρ s) (hm : σ.part .mon = true) (hl : σ.part .life = true)
    (hp : σ.part .pwr = true) (ha : σ.page pTAMPER) : Kept σ ρ s.batteryLoss := by
  unfold State.batteryLoss
  refine Kept.pwr ?_ hp rfl
  refine h.upd rfl rfl rfl (tabWf_filter _ _ _) id rfl (fun hk => ⟨⟨hk.1, hk.2.1, fun o ho => by cases ho⟩, le_rfl⟩)
    (fun k hk => tabGet_filter _ (fun j => !(j == regKey pTAMPER 0x40 || j == regKey pTAMPER 0x44 || j == regKey pTAMPER 0x48 ||
      j == regKey pTAMPER 0x4C)) ?_ _)
    (fun y hy => by cases y <;> first | exact rfl | simp [hm, hl] at hy)
  have hn : ∀ o, k ≠ regKey pTAMPER o := fun o he => by rw [he, ha] at hk; cases hk
  simp [hn]

theorem commitRecord_kept {σ : Scope} {ρ : State} {s : State} {i : ℕ} {flags : ℕ} {k : KeySlot} (hk0 : Kept σ ρ s) (h101 : σ.part .pwr = true) (h102 : σ.fld pMONUMENT (Fld.mk 12 10 1)) :
    Kept σ ρ (State.commitRecord s i flags k) := by
  unfold State.commitRecord
  exact guardEvent_kept (event_kept (hk0) h102) h101

theorem arrow_le {a b : Nat} (h : arrow a b = true) : a ≤ b ∧ 1 ≤ b ∧ b ≤ 4 := by
  simp only [arrow, Bool.or_eq_true, Bool.and_eq_true, beq_iff_eq] at h
  omega

theorem opOver_kept {σ : Scope} {ρ s : State} {burnt : Bool} (h : Kept σ ρ s) (hm : σ.part .mon = true)
    (hl : σ.part .life = true) : Kept σ ρ (s.opOver burnt) := by
  unfold State.opOver
  split
  · exact h
  · next o ho =>
    refine h.life hm hl fun hk => ?_
    dsimp only
    split
    · next hb =>
      have ha := arrow_le ((hk.2.2 o ho).resolve_left hb.1)
      exact ⟨⟨ha.2.1, ha.2.2, fun _ h => by cases h⟩, ha.1⟩
    · exact ⟨⟨hk.1, hk.2.1, fun _ h => by cases h⟩, le_rfl⟩

theorem lifeErase_kept {σ : Scope} {ρ : State} {s : State} {root : List Byte} {rec : Bool} (hk0 : Kept σ ρ s) (h101 : σ.part .mon = true) (h102 : σ.part .pwr = true) :
    Kept σ ρ (State.lifeErase s root rec) := by
  unfold State.lifeErase
  exact Kept.foldl (fun x7 a8 k9 => Kept.ite (Kept.cut (fun k11 => Kept.ite (guardEvent_kept (k11) h102) (k11)) (setKey_kept (k9) h101)) (k9)) _ _ (Kept.mon (hk0) h101 rfl rfl)

theorem monPor_kept {σ : Scope} {ρ : State} {s : State} (hk0 : Kept σ ρ s) (h101 : σ.part .mon = true) (h102 : σ.part .life = true) (h103 : σ.part .pwr = true) (h104 : σ.fld pMONUMENT F.MONUMENT.STS.COND) (h105 : σ.fld pMONUMENT (Fld.mk 12 13 1)) :
    Kept σ ρ (State.monPor s) := by
  unfold State.monPor
  exact Kept.cut (fun k1 => Kept.cut (fun k3 => Kept.ite (event_kept (set_kept (Kept.mon (k3) h101 rfl rfl) h104) h105) (k3)) (Kept.ite (k1) (nextFree_kept (lifeErase_kept (k1) h101 h103)))) (Kept.idle (hk0) h101 h102 rfl rfl)

theorem keyCommit_kept {σ : Scope} {ρ : State} {s : State} (hk0 : Kept σ ρ s) (h101 : σ.part .mon = true) (h102 : σ.part .pwr = true) (h103 : σ.fld pMONUMENT (Fld.mk 12 10 1)) :
    Kept σ ρ (State.keyCommit s) := by
  unfold State.keyCommit
  exact (by (try dsimp only); split; exacts [hk0, commitRecord_kept (Kept.mon (setKey_kept (advance_kept (hk0)) h101) h101 rfl rfl) h102 h103])

theorem logAdd_kept {σ : Scope} {ρ : State} {s : State} {e : TamperEnt} {reported : Bool} (hk0 : Kept σ ρ s) (h101 : σ.part .mon = true) (h102 : σ.fld pTAMPER F.TAMPER.LOG_STS.NEXT) (h103 : σ.fld pTAMPER F.TAMPER.LOG_STS.UNREPORTED) :
    Kept σ ρ (State.logAdd s e reported) := by
  unfold State.logAdd
  exact set_kept (set_kept (Kept.mon (hk0) h101 rfl rfl) h102) h103

theorem zeroData_kept {σ : Scope} {ρ s : State} (h : Kept σ ρ s) (ha : σ.page pMONUMENT) : Kept σ ρ s.zeroData := by
  exact Kept.regsOn h (dataGone ha _) (tabWf_filter _ _ _)

theorem monAbort_kept {σ : Scope} {ρ : State} {s : State} (hk0 : Kept σ ρ s) (h101 : σ.part .mon = true) (h102 : σ.part .life = true) (h103 : σ.page pMONUMENT) :
    Kept σ ρ (State.monAbort s) := by
  unfold State.monAbort
  exact (by (try dsimp only); split; exacts [hk0, event_kept (set_kept (set_kept (set_kept (set_kept (zeroData_kept (nextFree_kept (opOver_kept (hk0) h101 h102)) h103) h103.fld) h103.fld) h103.fld) h103.fld) h103.fld])

theorem monCmd_kept {σ : Scope} {ρ : State} {s : State} {op : ℕ} {stage : Bool} (hk0 : Kept σ ρ s) (h101 : σ.part .mon = true) (h102 : σ.part .life = true) (h103 : σ.part .page = true) (h104 : σ.fld pMONUMENT F.MONUMENT.CMD.OP) (h105 : σ.fld pMONUMENT F.MONUMENT.CMD.STAGE) (h106 : σ.fld pMONUMENT F.MONUMENT.STS.BUSY) (h107 : σ.fld pMONUMENT F.MONUMENT.STS.TRNG_OK) (h108 : σ.fld pSYS (Fld.mk 12 11 1)) (h109 : σ.fld pMONUMENT F.HDR.PSTS.CODE) (h110 : σ.fld pMONUMENT F.HDR.PSTS.INDEX) (h111 : σ.fld pMONUMENT F.HDR.PSTS.REFUSED) (h112 : σ.fld pMONUMENT (Fld.mk 12 0 1)) :
    Kept σ ρ (State.monCmd s op stage) := by
  unfold State.monCmd
  exact regWrite_kept (hk0) (fun x0 k1 => monGo_kept (k1) h101 h102 h104 h105 h106 h107) h103 h108 h109 h110 h111 h112

theorem slotWrite_kept {σ : Scope} {ρ : State} {s : State} {w : ℕ × KeySlot} (hk0 : Kept σ ρ s) (h101 : σ.part .mon = true) (h102 : σ.part .pwr = true) (h103 : σ.fld pMONUMENT (Fld.mk 12 10 1)) :
    Kept σ ρ (State.slotWrite s w) := by
  unfold State.slotWrite
  exact Kept.cut (fun k1 => Kept.ite (commitRecord_kept (k1) h102 h103) (k1)) (setKey_kept (hk0) h101)

theorem transit_kept {σ : Scope} {ρ : State} {s : State} {target : ℕ} {root : List Byte} (hk0 : Kept σ ρ s) (h101 : σ.part .mon = true) (h102 : σ.part .pwr = true) (h103 : σ.fld pMONUMENT (Fld.mk 12 11 1)) :
    Kept σ ρ (State.transit s target root) := by
  unfold State.transit
  exact Kept.ite (hk0) (event_kept (lifeErase_kept (hk0) h101 h102) h103)

theorem monPut_kept {σ : Scope} {ρ s : State} {w : Nat} {l : List Byte} (h : Kept σ ρ s)
    (ha : σ.page pMONUMENT) : Kept σ ρ (s.monPut w l) := by
  fun_induction State.monPut s w l with
  | case1 s w b0 b1 b2 b3 t ih => exact ih (wr_kept h (ha _))
  | case2 => exact h
  | case3 => exact wr_kept h (ha _)

theorem monDone_kept {σ : Scope} {ρ : State} {s : State} (hk0 : Kept σ ρ s) (h101 : σ.part .mon = true) (h102 : σ.part .life = true) (h103 : σ.part .pwr = true) (h104 : σ.page pMONUMENT) :
    Kept σ ρ (State.monDone s) := by
  unfold State.monDone
  exact (by (try dsimp only); split; exacts [hk0, Kept.ite (hk0) (event_kept (set_kept (monPut_kept (set_kept (set_kept (set_kept (zeroData_kept (transit_kept (Kept.foldl (fun x23 a24 k25 => slotWrite_kept (k25) h101 h103 h104.fld) _ _ (opOver_kept (hk0) h101 h102)) h101 h103 h104.fld) h104) h104.fld) h104.fld) h104.fld) h104) h104.fld) h104.fld)])

theorem zeroise_kept {σ : Scope} {ρ : State} {s : State} (hk0 : Kept σ ρ s) (h101 : σ.part .sw = true) (h102 : σ.part .mon = true) (h103 : σ.page pMACSEC) :
    Kept σ ρ (State.zeroise s) := by
  unfold State.zeroise
  exact Kept.cut (fun k11 => Kept.ite (k11) (event_kept (k11) h103.fld)) (Kept.foldl (fun x7 a8 k9 => set_kept (set_kept (k9) h103.fld) h103.fld) _ _ (Kept.u_sw_mon (hk0) h101 h102 rfl rfl))

theorem uncommit_kept {σ : Scope} {ρ : State} {s : State} (hk0 : Kept σ ρ s) (h101 : σ.part .pwr = true) (h102 : σ.fld pMONUMENT (Fld.mk 12 10 1)) :
    Kept σ ρ (State.uncommit s) := by
  unfold State.uncommit
  exact (by (try dsimp only); split; exacts [Kept.ite (Kept.cut (fun k1 => Kept.ite (k1) (set_kept (k1) h102)) (edgeRecs_kept (hk0) h101)) (hk0), hk0])

theorem tamper_kept {σ : Scope} {ρ : State} {s : State} {sources : ℕ} (hk0 : Kept σ ρ s) (h101 : σ.part .pwr = true) (h102 : σ.part .mon = true) (h103 : σ.part .life = true) (h104 : σ.part .sw = true) (h105 : σ.fld pTAMPER F.TAMPER.STS.LIVE) (h106 : σ.page pMONUMENT) (h107 : σ.page pMACSEC) (h108 : σ.fld pTAMPER F.TAMPER.STS.LAST) (h109 : σ.fld pTAMPER F.TAMPER.COUNT.EVENTS) (h110 : σ.fld pTAMPER F.TAMPER.LOG_STS.NEXT) (h111 : σ.fld pTAMPER F.TAMPER.LOG_STS.UNREPORTED) (h112 : σ.fld pTAMPER (Fld.mk 12 8 1)) :
    Kept σ ρ (State.tamper s sources) := by
  unfold State.tamper
  exact Kept.cut (fun k1 => Kept.ite (k1) (Kept.cut (fun k7 => Kept.ite (guardEvent_kept (event_kept (k7) h112) h101) (k7)) (logAdd_kept (bumpSat_kept (set_kept (set_kept (zeroise_kept (monAbort_kept (uncommit_kept (k1) h101 h106.fld) h102 h103 h106) h104 h102 h107) h106.fld) h108) h109) h102 h110 h111))) (set_kept (hk0) h105)

theorem trngFail_kept {σ : Scope} {ρ : State} {s : State} (hk0 : Kept σ ρ s) (h101 : σ.fld pMONUMENT F.MONUMENT.STS.TRNG_OK) (h102 : σ.fld pMONUMENT F.MONUMENT.TRNG_FAIL.COUNT) (h103 : σ.fld pMONUMENT (Fld.mk 12 12 1)) :
    Kept σ ρ (State.trngFail s) := by
  unfold State.trngFail
  exact event_kept (bump_kept (set_kept (hk0) h101) h102) h103

theorem execBatteryDomainLoss_kept {σ : Scope} {clk : ℕ} {s : State} (h101 : σ.part .mon = true) (h102 : σ.part .life = true) (h103 : σ.part .pwr = true) (h104 : σ.page pTAMPER) :
    KeptNext σ s (execBatteryDomainLoss clk s) := by
  unfold execBatteryDomainLoss
  exact KeptNext.next (Kept.ite (batteryLoss_kept (advance_kept (Kept.refl σ s)) h101 h102 h103 h104) (advance_kept (Kept.refl σ s)))

theorem execKeyCommit_kept {σ : Scope} {s : State} (h101 : σ.part .mon = true) (h102 : σ.part .pwr = true) (h103 : σ.fld pMONUMENT (Fld.mk 12 10 1)) :
    KeptNext σ s (execKeyCommit s) := by
  unfold execKeyCommit
  exact KeptNext.next (keyCommit_kept (Kept.refl σ s) h101 h102 h103)

theorem execKeyCommitOldZeroed_kept {σ : Scope} {clk : ℕ} {s : State} (h101 : σ.part .mon = true) :
    KeptNext σ s (execKeyCommitOldZeroed clk s) := by
  unfold execKeyCommitOldZeroed
  exact KeptNext.next (finishCommit_kept (advance_kept (Kept.refl σ s)) h101)

theorem execMonumentAttest_kept {σ : Scope} {clk : ℕ} {s : State} (h101 : σ.part .mon = true) (h102 : σ.part .life = true) (h103 : σ.part .page = true) (h104 : σ.fld pMONUMENT F.MONUMENT.CMD.OP) (h105 : σ.fld pMONUMENT F.MONUMENT.CMD.STAGE) (h106 : σ.fld pMONUMENT F.MONUMENT.STS.BUSY) (h107 : σ.fld pMONUMENT F.MONUMENT.STS.TRNG_OK) (h108 : σ.fld pSYS (Fld.mk 12 11 1)) (h109 : σ.fld pMONUMENT F.HDR.PSTS.CODE) (h110 : σ.fld pMONUMENT F.HDR.PSTS.INDEX) (h111 : σ.fld pMONUMENT F.HDR.PSTS.REFUSED) (h112 : σ.fld pMONUMENT (Fld.mk 12 0 1)) :
    KeptNext σ s (execMonumentAttest clk s) := by
  unfold execMonumentAttest
  exact KeptNext.next (monCmd_kept (advance_kept (Kept.refl σ s)) h101 h102 h103 h104 h105 h106 h107 h108 h109 h110 h111 h112)

theorem execMonumentCommit_kept {σ : Scope} {clk : ℕ} {s : State} (h101 : σ.part .mon = true) (h102 : σ.part .life = true) (h103 : σ.part .page = true) (h104 : σ.fld pMONUMENT F.MONUMENT.CMD.OP) (h105 : σ.fld pMONUMENT F.MONUMENT.CMD.STAGE) (h106 : σ.fld pMONUMENT F.MONUMENT.STS.BUSY) (h107 : σ.fld pMONUMENT F.MONUMENT.STS.TRNG_OK) (h108 : σ.fld pSYS (Fld.mk 12 11 1)) (h109 : σ.fld pMONUMENT F.HDR.PSTS.CODE) (h110 : σ.fld pMONUMENT F.HDR.PSTS.INDEX) (h111 : σ.fld pMONUMENT F.HDR.PSTS.REFUSED) (h112 : σ.fld pMONUMENT (Fld.mk 12 0 1)) :
    KeptNext σ s (execMonumentCommit clk s) := by
  unfold execMonumentCommit
  exact KeptNext.next (monCmd_kept (advance_kept (Kept.refl σ s)) h101 h102 h103 h104 h105 h106 h107 h108 h109 h110 h111 h112)

theorem execMonumentDerive_kept {σ : Scope} {clk : ℕ} {stage : Bool} {s : State} (h101 : σ.part .mon = true) (h102 : σ.part .life = true) (h103 : σ.part .page = true) (h104 : σ.fld pMONUMENT F.MONUMENT.CMD.OP) (h105 : σ.fld pMONUMENT F.MONUMENT.CMD.STAGE) (h106 : σ.fld pMONUMENT F.MONUMENT.STS.BUSY) (h107 : σ.fld pMONUMENT F.MONUMENT.STS.TRNG_OK) (h108 : σ.fld pSYS (Fld.mk 12 11 1)) (h109 : σ.fld pMONUMENT F.HDR.PSTS.CODE) (h110 : σ.fld pMONUMENT F.HDR.PSTS.INDEX) (h111 : σ.fld pMONUMENT F.HDR.PSTS.REFUSED) (h112 : σ.fld pMONUMENT (Fld.mk 12 0 1)) :
    KeptNext σ s (execMonumentDerive clk stage s) := by
  unfold execMonumentDerive
  exact KeptNext.next (monCmd_kept (advance_kept (Kept.refl σ s)) h101 h102 h103 h104 h105 h106 h107 h108 h109 h110 h111 h112)

theorem execMonumentDiscard_kept {σ : Scope} {clk : ℕ} {s : State} (h101 : σ.part .mon = true) (h102 : σ.part .life = true) (h103 : σ.part .page = true) (h104 : σ.fld pMONUMENT F.MONUMENT.CMD.OP) (h105 : σ.fld pMONUMENT F.MONUMENT.CMD.STAGE) (h106 : σ.fld pMONUMENT F.MONUMENT.STS.BUSY) (h107 : σ.fld pMONUMENT F.MONUMENT.STS.TRNG_OK) (h108 : σ.fld pSYS (Fld.mk 12 11 1)) (h109 : σ.fld pMONUMENT F.HDR.PSTS.CODE) (h110 : σ.fld pMONUMENT F.HDR.PSTS.INDEX) (h111 : σ.fld pMONUMENT F.HDR.PSTS.REFUSED) (h112 : σ.fld pMONUMENT (Fld.mk 12 0 1)) :
    KeptNext σ s (execMonumentDiscard clk s) := by
  unfold execMonumentDiscard
  exact KeptNext.next (monCmd_kept (advance_kept (Kept.refl σ s)) h101 h102 h103 h104 h105 h106 h107 h108 h109 h110 h111 h112)

theorem execMonumentErase_kept {σ : Scope} {clk : ℕ} {s : State} (h101 : σ.part .mon = true) (h102 : σ.part .life = true) (h103 : σ.part .page = true) (h104 : σ.fld pMONUMENT F.MONUMENT.CMD.OP) (h105 : σ.fld pMONUMENT F.MONUMENT.CMD.STAGE) (h106 : σ.fld pMONUMENT F.MONUMENT.STS.BUSY) (h107 : σ.fld pMONUMENT F.MONUMENT.STS.TRNG_OK) (h108 : σ.fld pSYS (Fld.mk 12 11 1)) (h109 : σ.fld pMONUMENT F.HDR.PSTS.CODE) (h110 : σ.fld pMONUMENT F.HDR.PSTS.INDEX) (h111 : σ.fld pMONUMENT F.HDR.PSTS.REFUSED) (h112 : σ.fld pMONUMENT (Fld.mk 12 0 1)) :
    KeptNext σ s (execMonumentErase clk s) := by
  unfold execMonumentErase
  exact KeptNext.next (monCmd_kept (advance_kept (Kept.refl σ s)) h101 h102 h103 h104 h105 h106 h107 h108 h109 h110 h111 h112)

theorem execMonumentGenIdent_kept {σ : Scope} {clk : ℕ} {s : State} (h101 : σ.part .mon = true) (h102 : σ.part .life = true) (h103 : σ.part .page = true) (h104 : σ.fld pMONUMENT F.MONUMENT.CMD.OP) (h105 : σ.fld pMONUMENT F.MONUMENT.CMD.STAGE) (h106 : σ.fld pMONUMENT F.MONUMENT.STS.BUSY) (h107 : σ.fld pMONUMENT F.MONUMENT.STS.TRNG_OK) (h108 : σ.fld pSYS (Fld.mk 12 11 1)) (h109 : σ.fld pMONUMENT F.HDR.PSTS.CODE) (h110 : σ.fld pMONUMENT F.HDR.PSTS.INDEX) (h111 : σ.fld pMONUMENT F.HDR.PSTS.REFUSED) (h112 : σ.fld pMONUMENT (Fld.mk 12 0 1)) :
    KeptNext σ s (execMonumentGenIdent clk s) := by
  unfold execMonumentGenIdent
  exact KeptNext.next (monCmd_kept (advance_kept (Kept.refl σ s)) h101 h102 h103 h104 h105 h106 h107 h108 h109 h110 h111 h112)

theorem execMonumentGenerate_kept {σ : Scope} {clk : ℕ} {stage : Bool} {s : State} (h101 : σ.part .mon = true) (h102 : σ.part .life = true) (h103 : σ.part .page = true) (h104 : σ.fld pMONUMENT F.MONUMENT.CMD.OP) (h105 : σ.fld pMONUMENT F.MONUMENT.CMD.STAGE) (h106 : σ.fld pMONUMENT F.MONUMENT.STS.BUSY) (h107 : σ.fld pMONUMENT F.MONUMENT.STS.TRNG_OK) (h108 : σ.fld pSYS (Fld.mk 12 11 1)) (h109 : σ.fld pMONUMENT F.HDR.PSTS.CODE) (h110 : σ.fld pMONUMENT F.HDR.PSTS.INDEX) (h111 : σ.fld pMONUMENT F.HDR.PSTS.REFUSED) (h112 : σ.fld pMONUMENT (Fld.mk 12 0 1)) :
    KeptNext σ s (execMonumentGenerate clk stage s) := by
  unfold execMonumentGenerate
  exact KeptNext.next (monCmd_kept (advance_kept (Kept.refl σ s)) h101 h102 h103 h104 h105 h106 h107 h108 h109 h110 h111 h112)

theorem execMonumentImport_kept {σ : Scope} {clk : ℕ} {stage : Bool} {s : State} (h101 : σ.part .mon = true) (h102 : σ.part .life = true) (h103 : σ.part .page = true) (h104 : σ.fld pMONUMENT F.MONUMENT.CMD.OP) (h105 : σ.fld pMONUMENT F.MONUMENT.CMD.STAGE) (h106 : σ.fld pMONUMENT F.MONUMENT.STS.BUSY) (h107 : σ.fld pMONUMENT F.MONUMENT.STS.TRNG_OK) (h108 : σ.fld pSYS (Fld.mk 12 11 1)) (h109 : σ.fld pMONUMENT F.HDR.PSTS.CODE) (h110 : σ.fld pMONUMENT F.HDR.PSTS.INDEX) (h111 : σ.fld pMONUMENT F.HDR.PSTS.REFUSED) (h112 : σ.fld pMONUMENT (Fld.mk 12 0 1)) :
    KeptNext σ s (execMonumentImport clk stage s) := by
  unfold execMonumentImport
  exact KeptNext.next (monCmd_kept (advance_kept (Kept.refl σ s)) h101 h102 h103 h104 h105 h106 h107 h108 h109 h110 h111 h112)

theorem execMonumentInfo_kept {σ : Scope} {clk : ℕ} {s : State} (h101 : σ.part .mon = true) (h102 : σ.part .life = true) (h103 : σ.part .page = true) (h104 : σ.fld pMONUMENT F.MONUMENT.CMD.OP) (h105 : σ.fld pMONUMENT F.MONUMENT.CMD.STAGE) (h106 : σ.fld pMONUMENT F.MONUMENT.STS.BUSY) (h107 : σ.fld pMONUMENT F.MONUMENT.STS.TRNG_OK) (h108 : σ.fld pSYS (Fld.mk 12 11 1)) (h109 : σ.fld pMONUMENT F.HDR.PSTS.CODE) (h110 : σ.fld pMONUMENT F.HDR.PSTS.INDEX) (h111 : σ.fld pMONUMENT F.HDR.PSTS.REFUSED) (h112 : σ.fld pMONUMENT (Fld.mk 12 0 1)) :
    KeptNext σ s (execMonumentInfo clk s) := by
  unfold execMonumentInfo
  exact KeptNext.next (monCmd_kept (advance_kept (Kept.refl σ s)) h101 h102 h103 h104 h105 h106 h107 h108 h109 h110 h111 h112)

theorem execMonumentMac_kept {σ : Scope} {clk : ℕ} {s : State} (h101 : σ.part .mon = true) (h102 : σ.part .life = true) (h103 : σ.part .page = true) (h104 : σ.fld pMONUMENT F.MONUMENT.CMD.OP) (h105 : σ.fld pMONUMENT F.MONUMENT.CMD.STAGE) (h106 : σ.fld pMONUMENT F.MONUMENT.STS.BUSY) (h107 : σ.fld pMONUMENT F.MONUMENT.STS.TRNG_OK) (h108 : σ.fld pSYS (Fld.mk 12 11 1)) (h109 : σ.fld pMONUMENT F.HDR.PSTS.CODE) (h110 : σ.fld pMONUMENT F.HDR.PSTS.INDEX) (h111 : σ.fld pMONUMENT F.HDR.PSTS.REFUSED) (h112 : σ.fld pMONUMENT (Fld.mk 12 0 1)) :
    KeptNext σ s (execMonumentMac clk s) := by
  unfold execMonumentMac
  exact KeptNext.next (monCmd_kept (advance_kept (Kept.refl σ s)) h101 h102 h103 h104 h105 h106 h107 h108 h109 h110 h111 h112)

theorem execMonumentMacVerify_kept {σ : Scope} {clk : ℕ} {s : State} (h101 : σ.part .mon = true) (h102 : σ.part .life = true) (h103 : σ.part .page = true) (h104 : σ.fld pMONUMENT F.MONUMENT.CMD.OP) (h105 : σ.fld pMONUMENT F.MONUMENT.CMD.STAGE) (h106 : σ.fld pMONUMENT F.MONUMENT.STS.BUSY) (h107 : σ.fld pMONUMENT F.MONUMENT.STS.TRNG_OK) (h108 : σ.fld pSYS (Fld.mk 12 11 1)) (h109 : σ.fld pMONUMENT F.HDR.PSTS.CODE) (h110 : σ.fld pMONUMENT F.HDR.PSTS.INDEX) (h111 : σ.fld pMONUMENT F.HDR.PSTS.REFUSED) (h112 : σ.fld pMONUMENT (Fld.mk 12 0 1)) :
    KeptNext σ s (execMonumentMacVerify clk s) := by
  unfold execMonumentMacVerify
  exact KeptNext.next (monCmd_kept (advance_kept (Kept.refl σ s)) h101 h102 h103 h104 h105 h106 h107 h108 h109 h110 h111 h112)

theorem execMonumentMkaIcv_kept {σ : Scope} {clk : ℕ} {s : State} (h101 : σ.part .mon = true) (h102 : σ.part .life = true) (h103 : σ.part .page = true) (h104 : σ.fld pMONUMENT F.MONUMENT.CMD.OP) (h105 : σ.fld pMONUMENT F.MONUMENT.CMD.STAGE) (h106 : σ.fld pMONUMENT F.MONUMENT.STS.BUSY) (h107 : σ.fld pMONUMENT F.MONUMENT.STS.TRNG_OK) (h108 : σ.fld pSYS (Fld.mk 12 11 1)) (h109 : σ.fld pMONUMENT F.HDR.PSTS.CODE) (h110 : σ.fld pMONUMENT F.HDR.PSTS.INDEX) (h111 : σ.fld pMONUMENT F.HDR.PSTS.REFUSED) (h112 : σ.fld pMONUMENT (Fld.mk 12 0 1)) :
    KeptNext σ s (execMonumentMkaIcv clk s) := by
  unfold execMonumentMkaIcv
  exact KeptNext.next (monCmd_kept (advance_kept (Kept.refl σ s)) h101 h102 h103 h104 h105 h106 h107 h108 h109 h110 h111 h112)

theorem execMonumentMkaKdf_kept {σ : Scope} {clk : ℕ} {s : State} (h101 : σ.part .mon = true) (h102 : σ.part .life = true) (h103 : σ.part .page = true) (h104 : σ.fld pMONUMENT F.MONUMENT.CMD.OP) (h105 : σ.fld pMONUMENT F.MONUMENT.CMD.STAGE) (h106 : σ.fld pMONUMENT F.MONUMENT.STS.BUSY) (h107 : σ.fld pMONUMENT F.MONUMENT.STS.TRNG_OK) (h108 : σ.fld pSYS (Fld.mk 12 11 1)) (h109 : σ.fld pMONUMENT F.HDR.PSTS.CODE) (h110 : σ.fld pMONUMENT F.HDR.PSTS.INDEX) (h111 : σ.fld pMONUMENT F.HDR.PSTS.REFUSED) (h112 : σ.fld pMONUMENT (Fld.mk 12 0 1)) :
    KeptNext σ s (execMonumentMkaKdf clk s) := by
  unfold execMonumentMkaKdf
  exact KeptNext.next (monCmd_kept (advance_kept (Kept.refl σ s)) h101 h102 h103 h104 h105 h106 h107 h108 h109 h110 h111 h112)

theorem execMonumentMkaUnwrap_kept {σ : Scope} {clk : ℕ} {s : State} (h101 : σ.part .mon = true) (h102 : σ.part .life = true) (h103 : σ.part .page = true) (h104 : σ.fld pMONUMENT F.MONUMENT.CMD.OP) (h105 : σ.fld pMONUMENT F.MONUMENT.CMD.STAGE) (h106 : σ.fld pMONUMENT F.MONUMENT.STS.BUSY) (h107 : σ.fld pMONUMENT F.MONUMENT.STS.TRNG_OK) (h108 : σ.fld pSYS (Fld.mk 12 11 1)) (h109 : σ.fld pMONUMENT F.HDR.PSTS.CODE) (h110 : σ.fld pMONUMENT F.HDR.PSTS.INDEX) (h111 : σ.fld pMONUMENT F.HDR.PSTS.REFUSED) (h112 : σ.fld pMONUMENT (Fld.mk 12 0 1)) :
    KeptNext σ s (execMonumentMkaUnwrap clk s) := by
  unfold execMonumentMkaUnwrap
  exact KeptNext.next (monCmd_kept (advance_kept (Kept.refl σ s)) h101 h102 h103 h104 h105 h106 h107 h108 h109 h110 h111 h112)

theorem execMonumentOpDone_kept {σ : Scope} {clk : ℕ} {s : State} (h101 : σ.part .mon = true) (h102 : σ.part .life = true) (h103 : σ.part .pwr = true) (h104 : σ.page pMONUMENT) :
    KeptNext σ s (execMonumentOpDone clk s) := by
  unfold execMonumentOpDone
  exact KeptNext.next (onGuard_kept (advance_kept (Kept.refl σ s)) (fun x0 k1 => monDone_kept (k1) h101 h102 h103 h104))

theorem execMonumentOpReserved_kept {σ : Scope} {clk : ℕ} {op : ℕ} {s : State} (h101 : σ.part .mon = true) (h102 : σ.part .life = true) (h103 : σ.part .page = true) (h104 : σ.fld pMONUMENT F.MONUMENT.CMD.OP) (h105 : σ.fld pMONUMENT F.MONUMENT.CMD.STAGE) (h106 : σ.fld pMONUMENT F.MONUMENT.STS.BUSY) (h107 : σ.fld pMONUMENT F.MONUMENT.STS.TRNG_OK) (h108 : σ.fld pSYS (Fld.mk 12 11 1)) (h109 : σ.fld pMONUMENT F.HDR.PSTS.CODE) (h110 : σ.fld pMONUMENT F.HDR.PSTS.INDEX) (h111 : σ.fld pMONUMENT F.HDR.PSTS.REFUSED) (h112 : σ.fld pMONUMENT (Fld.mk 12 0 1)) :
    KeptNext σ s (execMonumentOpReserved clk op s) := by
  unfold execMonumentOpReserved
  exact KeptNext.next (monCmd_kept (advance_kept (Kept.refl σ s)) h101 h102 h103 h104 h105 h106 h107 h108 h109 h110 h111 h112)

theorem execMonumentProve_kept {σ : Scope} {clk : ℕ} {s : State} (h101 : σ.part .mon = true) (h102 : σ.part .life = true) (h103 : σ.part .page = true) (h104 : σ.fld pMONUMENT F.MONUMENT.CMD.OP) (h105 : σ.fld pMONUMENT F.MONUMENT.CMD.STAGE) (h106 : σ.fld pMONUMENT F.MONUMENT.STS.BUSY) (h107 : σ.fld pMONUMENT F.MONUMENT.STS.TRNG_OK) (h108 : σ.fld pSYS (Fld.mk 12 11 1)) (h109 : σ.fld pMONUMENT F.HDR.PSTS.CODE) (h110 : σ.fld pMONUMENT F.HDR.PSTS.INDEX) (h111 : σ.fld pMONUMENT F.HDR.PSTS.REFUSED) (h112 : σ.fld pMONUMENT (Fld.mk 12 0 1)) :
    KeptNext σ s (execMonumentProve clk s) := by
  unfold execMonumentProve
  exact KeptNext.next (monCmd_kept (advance_kept (Kept.refl σ s)) h101 h102 h103 h104 h105 h106 h107 h108 h109 h110 h111 h112)

theorem execMonumentPubkey_kept {σ : Scope} {clk : ℕ} {s : State} (h101 : σ.part .mon = true) (h102 : σ.part .life = true) (h103 : σ.part .page = true) (h104 : σ.fld pMONUMENT F.MONUMENT.CMD.OP) (h105 : σ.fld pMONUMENT F.MONUMENT.CMD.STAGE) (h106 : σ.fld pMONUMENT F.MONUMENT.STS.BUSY) (h107 : σ.fld pMONUMENT F.MONUMENT.STS.TRNG_OK) (h108 : σ.fld pSYS (Fld.mk 12 11 1)) (h109 : σ.fld pMONUMENT F.HDR.PSTS.CODE) (h110 : σ.fld pMONUMENT F.HDR.PSTS.INDEX) (h111 : σ.fld pMONUMENT F.HDR.PSTS.REFUSED) (h112 : σ.fld pMONUMENT (Fld.mk 12 0 1)) :
    KeptNext σ s (execMonumentPubkey clk s) := by
  unfold execMonumentPubkey
  exact KeptNext.next (monCmd_kept (advance_kept (Kept.refl σ s)) h101 h102 h103 h104 h105 h106 h107 h108 h109 h110 h111 h112)

theorem execMonumentRtcSet_kept {σ : Scope} {clk : ℕ} {word : Word} {s : State} (h101 : σ.part .mon = true) (h102 : σ.part .page = true) (h103 : σ.fld pSYS (Fld.mk 12 11 1)) (h104 : σ.fld pMONUMENT F.HDR.PSTS.CODE) (h105 : σ.fld pMONUMENT F.HDR.PSTS.INDEX) (h106 : σ.fld pMONUMENT F.HDR.PSTS.REFUSED) (h107 : σ.fld pMONUMENT (Fld.mk 12 0 1)) :
    KeptNext σ s (execMonumentRtcSet clk word s) := by
  unfold execMonumentRtcSet
  exact KeptNext.next (regWrite_kept (advance_kept (Kept.refl σ s)) (fun x0 k1 => rtcSet_kept (k1) h101) h102 h103 h104 h105 h106 h107)

theorem execMonumentSign_kept {σ : Scope} {clk : ℕ} {s : State} (h101 : σ.part .mon = true) (h102 : σ.part .life = true) (h103 : σ.part .page = true) (h104 : σ.fld pMONUMENT F.MONUMENT.CMD.OP) (h105 : σ.fld pMONUMENT F.MONUMENT.CMD.STAGE) (h106 : σ.fld pMONUMENT F.MONUMENT.STS.BUSY) (h107 : σ.fld pMONUMENT F.MONUMENT.STS.TRNG_OK) (h108 : σ.fld pSYS (Fld.mk 12 11 1)) (h109 : σ.fld pMONUMENT F.HDR.PSTS.CODE) (h110 : σ.fld pMONUMENT F.HDR.PSTS.INDEX) (h111 : σ.fld pMONUMENT F.HDR.PSTS.REFUSED) (h112 : σ.fld pMONUMENT (Fld.mk 12 0 1)) :
    KeptNext σ s (execMonumentSign clk s) := by
  unfold execMonumentSign
  exact KeptNext.next (monCmd_kept (advance_kept (Kept.refl σ s)) h101 h102 h103 h104 h105 h106 h107 h108 h109 h110 h111 h112)

theorem execMonumentTransition_kept {σ : Scope} {clk : ℕ} {s : State} (h101 : σ.part .mon = true) (h102 : σ.part .life = true) (h103 : σ.part .page = true) (h104 : σ.fld pMONUMENT F.MONUMENT.CMD.OP) (h105 : σ.fld pMONUMENT F.MONUMENT.CMD.STAGE) (h106 : σ.fld pMONUMENT F.MONUMENT.STS.BUSY) (h107 : σ.fld pMONUMENT F.MONUMENT.STS.TRNG_OK) (h108 : σ.fld pSYS (Fld.mk 12 11 1)) (h109 : σ.fld pMONUMENT F.HDR.PSTS.CODE) (h110 : σ.fld pMONUMENT F.HDR.PSTS.INDEX) (h111 : σ.fld pMONUMENT F.HDR.PSTS.REFUSED) (h112 : σ.fld pMONUMENT (Fld.mk 12 0 1)) :
    KeptNext σ s (execMonumentTransition clk s) := by
  unfold execMonumentTransition
  exact KeptNext.next (monCmd_kept (advance_kept (Kept.refl σ s)) h101 h102 h103 h104 h105 h106 h107 h108 h109 h110 h111 h112)

theorem execMonumentUnwrap_kept {σ : Scope} {clk : ℕ} {stage : Bool} {s : State} (h101 : σ.part .mon = true) (h102 : σ.part .life = true) (h103 : σ.part .page = true) (h104 : σ.fld pMONUMENT F.MONUMENT.CMD.OP) (h105 : σ.fld pMONUMENT F.MONUMENT.CMD.STAGE) (h106 : σ.fld pMONUMENT F.MONUMENT.STS.BUSY) (h107 : σ.fld pMONUMENT F.MONUMENT.STS.TRNG_OK) (h108 : σ.fld pSYS (Fld.mk 12 11 1)) (h109 : σ.fld pMONUMENT F.HDR.PSTS.CODE) (h110 : σ.fld pMONUMENT F.HDR.PSTS.INDEX) (h111 : σ.fld pMONUMENT F.HDR.PSTS.REFUSED) (h112 : σ.fld pMONUMENT (Fld.mk 12 0 1)) :
    KeptNext σ s (execMonumentUnwrap clk stage s) := by
  unfold execMonumentUnwrap
  exact KeptNext.next (monCmd_kept (advance_kept (Kept.refl σ s)) h101 h102 h103 h104 h105 h106 h107 h108 h109 h110 h111 h112)

theorem execMonumentWrap_kept {σ : Scope} {clk : ℕ} {s : State} (h101 : σ.part .mon = true) (h102 : σ.part .life = true) (h103 : σ.part .page = true) (h104 : σ.fld pMONUMENT F.MONUMENT.CMD.OP) (h105 : σ.fld pMONUMENT F.MONUMENT.CMD.STAGE) (h106 : σ.fld pMONUMENT F.MONUMENT.STS.BUSY) (h107 : σ.fld pMONUMENT F.MONUMENT.STS.TRNG_OK) (h108 : σ.fld pSYS (Fld.mk 12 11 1)) (h109 : σ.fld pMONUMENT F.HDR.PSTS.CODE) (h110 : σ.fld pMONUMENT F.HDR.PSTS.INDEX) (h111 : σ.fld pMONUMENT F.HDR.PSTS.REFUSED) (h112 : σ.fld pMONUMENT (Fld.mk 12 0 1)) :
    KeptNext σ s (execMonumentWrap clk s) := by
  unfold execMonumentWrap
  exact KeptNext.next (monCmd_kept (advance_kept (Kept.refl σ s)) h101 h102 h103 h104 h105 h106 h107 h108 h109 h110 h111 h112)

theorem execTamperDetect_kept {σ : Scope} {clk : ℕ} {sources : ℕ} {s : State} (h101 : σ.part .pwr = true) (h102 : σ.part .mon = true) (h103 : σ.part .life = true) (h104 : σ.part .sw = true) (h105 : σ.fld pTAMPER F.TAMPER.STS.LIVE) (h106 : σ.page pMONUMENT) (h107 : σ.page pMACSEC) (h108 : σ.fld pTAMPER F.TAMPER.STS.LAST) (h109 : σ.fld pTAMPER F.TAMPER.COUNT.EVENTS) (h110 : σ.fld pTAMPER F.TAMPER.LOG_STS.NEXT) (h111 : σ.fld pTAMPER F.TAMPER.LOG_STS.UNREPORTED) (h112 : σ.fld pTAMPER (Fld.mk 12 8 1)) :
    KeptNext σ s (execTamperDetect clk sources s) := by
  unfold execTamperDetect
  exact KeptNext.next (Kept.ite (advance_kept (Kept.refl σ s)) (tamper_kept (advance_kept (Kept.refl σ s)) h101 h102 h103 h104 h105 h106 h107 h108 h109 h110 h111 h112))

theorem execTamperRearm_kept {σ : Scope} {clk : ℕ} {word : Word} {s : State} (h101 : σ.part .mon = true) (h102 : σ.part .page = true) (h103 : σ.fld pTAMPER (Fld.mk 12 9 1)) (h104 : σ.fld pMONUMENT F.MONUMENT.STS.COND) (h105 : σ.fld pTAMPER (Fld.mk 12 10 1)) (h106 : σ.fld pSYS (Fld.mk 12 11 1)) (h107 : σ.fld pTAMPER F.HDR.PSTS.CODE) (h108 : σ.fld pTAMPER F.HDR.PSTS.INDEX) (h109 : σ.fld pTAMPER F.HDR.PSTS.REFUSED) (h110 : σ.fld pTAMPER (Fld.mk 12 0 1)) :
    KeptNext σ s (execTamperRearm clk word s) := by
  unfold execTamperRearm
  exact KeptNext.next (regWrite_kept (advance_kept (Kept.refl σ s)) (fun x0 k1 => rearm_kept (k1) h101 h103 h104 h105) h102 h106 h107 h108 h109 h110)

theorem execTamperSourceInactive_kept {σ : Scope} {clk : ℕ} {sources : ℕ} {s : State} (h101 : σ.fld pTAMPER F.TAMPER.STS.LIVE) :
    KeptNext σ s (execTamperSourceInactive clk sources s) := by
  unfold execTamperSourceInactive
  exact KeptNext.next (set_kept (advance_kept (Kept.refl σ s)) h101)

theorem execTrngFail_kept {σ : Scope} {clk : ℕ} {s : State} (h101 : σ.fld pMONUMENT F.MONUMENT.STS.TRNG_OK) (h102 : σ.fld pMONUMENT F.MONUMENT.TRNG_FAIL.COUNT) (h103 : σ.fld pMONUMENT (Fld.mk 12 12 1)) :
    KeptNext σ s (execTrngFail clk s) := by
  unfold execTrngFail
  exact KeptNext.next (onGuard_kept (advance_kept (Kept.refl σ s)) (fun x0 k1 => trngFail_kept (k1) h101 h102 h103))

end Sys2Proof.Laws
end

