-- ==== Sys2Proof/Laws/Kept06.lean ====
section
/-!
SUPPORT. What the operations and commands of these files keep: Machine/Edge, Machine/Drive, Machine/Can, Machine/Operands.
-/

namespace Sys2Proof.Laws

open Sys2Proof Sys2Proof.Machine

theorem setEdge_kept {σ : Scope} {ρ : State} {s : State} {p : ℕ} {v : EdgeSt} (hk0 : Kept σ ρ s) (h101 : σ.part .edges = true) :
    Kept σ ρ (State.setEdge s p v) := by
  unfold State.setEdge
  exact Kept.edges (hk0) h101

theorem pinRec_kept {σ : Scope} {ρ : State} {s : State} {p : ℕ} {kind : ℕ} {flags : ℕ} {t : ℕ} {data : List Byte} (hk0 : Kept σ ρ s) (h101 : σ.part .book = true) (h102 : σ.fld pBOOK F.BOOK.DISCARD.COUNT) (h103 : σ.fld pBOOK F.BOOK.SHADOW.DROP) (h104 : σ.fld pBOOK (Fld.mk 12 12 1)) (h105 : σ.fld (pEDGE ((Rec.mk t kind flags p data).source / 64)) F.EDGE.DROPS.COUNT) (h106 : σ.fld (pEDGE ((Rec.mk t kind flags p data).source / 64)) (Fld.mk 12 11 1)) (h107 : σ.fld pBOOK F.BOOK.DISCARD_SYS.COUNT) (h108 : σ.fld pBOOK (Fld.mk 12 8 1)) :
    Kept σ ρ (State.pinRec s p kind flags t data) := by
  unfold State.pinRec
  exact stage_kept (hk0) h101 h102 h103 h104 h105 h106 h107 h108

theorem stuckRec_kept {σ : Scope} {ρ : State} {s : State} {p : ℕ} {t : ℕ} (hk0 : Kept σ ρ s) (h101 : σ.part .book = true) (h102 : σ.part .edges = true) (h103 : σ.fld pBOOK F.BOOK.DISCARD.COUNT) (h104 : σ.fld pBOOK F.BOOK.SHADOW.DROP) (h105 : σ.fld pBOOK (Fld.mk 12 12 1)) (h106 : σ.fld (pEDGE ((Rec.mk t 6 (bit (s.edge p).l) p (leBytes 8 (s.edge p).change)).source / 64)) F.EDGE.DROPS.COUNT) (h107 : σ.fld (pEDGE ((Rec.mk t 6 (bit (s.edge p).l) p (leBytes 8 (s.edge p).change)).source / 64)) (Fld.mk 12 11 1)) (h108 : σ.fld pBOOK F.BOOK.DISCARD_SYS.COUNT) (h109 : σ.fld pBOOK (Fld.mk 12 8 1)) (h110 : σ.fld (edgePage p) (Fld.mk 12 10 1)) (h111 : σ.fld (edgePage p) (pinMap F.EDGE.STUCKMAP.MAP p)) :
    Kept σ ρ (State.stuckRec s p t) := by
  unfold State.stuckRec
  exact set_kept (event_kept (setEdge_kept (pinRec_kept (hk0) h101 h103 h104 h105 h106 h107 h108 h109) h102) h110) h111

theorem stuckBefore_kept {σ : Scope} {ρ : State} {s : State} {p : ℕ} {t : ℕ} (hk0 : Kept σ ρ s) (h101 : σ.part .book = true) (h102 : σ.part .edges = true) (h103 : σ.fld pBOOK F.BOOK.DISCARD.COUNT) (h104 : σ.fld pBOOK F.BOOK.SHADOW.DROP) (h105 : σ.fld pBOOK (Fld.mk 12 12 1)) (h106 : σ.fld (pEDGE ((Rec.mk ((s.edge p).change + s.stuckW p) 6 (bit (s.edge p).l) p (leBytes 8 (s.edge p).change)).source / 64)) F.EDGE.DROPS.COUNT) (h107 : σ.fld (pEDGE ((Rec.mk ((s.edge p).change + s.stuckW p) 6 (bit (s.edge p).l) p (leBytes 8 (s.edge p).change)).source / 64)) (Fld.mk 12 11 1)) (h108 : σ.fld pBOOK F.BOOK.DISCARD_SYS.COUNT) (h109 : σ.fld pBOOK (Fld.mk 12 8 1)) (h110 : σ.fld (edgePage p) (Fld.mk 12 10 1)) (h111 : σ.fld (edgePage p) (pinMap F.EDGE.STUCKMAP.MAP p)) :
    Kept σ ρ (State.stuckBefore s p t) := by
  unfold State.stuckBefore
  exact Kept.ite (stuckRec_kept (hk0) h101 h102 h103 h104 h105 h106 h107 h108 h109 h110 h111) (hk0)

theorem putL_kept {σ : Scope} {ρ : State} {s : State} {p : ℕ} {l : Bool} (hk0 : Kept σ ρ s) (h101 : σ.fld (edgePage p) (pinMap F.EDGE.FLVL.MAP p)) :
    Kept σ ρ (State.putL s p l) := by
  unfold State.putL
  exact setB_kept (hk0) h101

theorem edgeRec_kept {σ : Scope} {ρ : State} {s : State} {p : ℕ} {t : ℕ} {level : Bool} {c : ℕ} {absorbed : ℕ} {before : Bool} {e : EdgeSt} (hk0 : Kept σ ρ s) (h101 : σ.part .book = true) (h102 : σ.fld pBOOK F.BOOK.DISCARD.COUNT) (h103 : σ.fld pBOOK F.BOOK.SHADOW.DROP) (h104 : σ.fld pBOOK (Fld.mk 12 12 1)) (h105 : σ.fld (pEDGE
  ((Rec.mk t (if level = true then 1 else 2) (bit level) p
        (leBytes 4 (sinceAcc e t) ++ leBytes 2 (min absorbed 65535) ++ leBytes 1 (s.pinCfg p F.EDGE.PIN.PROFILE) ++
          leBytes 1 0)).source /
    64)) F.EDGE.DROPS.COUNT) (h106 : σ.fld (pEDGE
  ((Rec.mk t (if level = true then 1 else 2) (bit level) p
        (leBytes 4 (sinceAcc e t) ++ leBytes 2 (min absorbed 65535) ++ leBytes 1 (s.pinCfg p F.EDGE.PIN.PROFILE) ++
          leBytes 1 0)).source /
    64)) (Fld.mk 12 11 1)) (h107 : σ.fld pBOOK F.BOOK.DISCARD_SYS.COUNT) (h108 : σ.fld pBOOK (Fld.mk 12 8 1)) (h109 : σ.fld (edgePage p) F.EDGE.MERGES.COUNT) (h110 : σ.fld (pEDGE
  ((Rec.mk t 3 (bit level) p
        (leBytes 4 (sinceAcc e t) ++ leBytes 1 c ++ leBytes 1 (bit before) ++
            leBytes 1 (s.pinCfg p F.EDGE.PIN.PROFILE) ++
          leBytes 1 0)).source /
    64)) F.EDGE.DROPS.COUNT) (h111 : σ.fld (pEDGE
  ((Rec.mk t 3 (bit level) p
        (leBytes 4 (sinceAcc e t) ++ leBytes 1 c ++ leBytes 1 (bit before) ++
            leBytes 1 (s.pinCfg p F.EDGE.PIN.PROFILE) ++
          leBytes 1 0)).source /
    64)) (Fld.mk 12 11 1)) :
    Kept σ ρ (State.edgeRec s p t level c absorbed before e) := by
  unfold State.edgeRec
  exact Kept.ite (pinRec_kept (hk0) h101 h102 h103 h104 h105 h106 h107 h108) (pinRec_kept (bump_kept (hk0) h109) h101 h102 h103 h104 h110 h111 h107 h108)

theorem mergedOut_kept {σ : Scope} {ρ : State} {s : State} {p : ℕ} {l : List PinEv} (hk0 : Kept σ ρ s) (h101 : σ.part .book = true) (h102 : σ.fld pBOOK F.BOOK.DISCARD.COUNT) (h103 : σ.fld pBOOK F.BOOK.SHADOW.DROP) (h104 : σ.fld pBOOK (Fld.mk 12 12 1)) (h105 : ∀ n, σ.page (pEDGE n)) (h106 : σ.fld pBOOK F.BOOK.DISCARD_SYS.COUNT) (h107 : σ.fld pBOOK (Fld.mk 12 8 1)) :
    Kept σ ρ (State.mergedOut s p l) := by
  unfold State.mergedOut
  exact Kept.foldl (fun x0 a1 k2 => edgeRec_kept (k2) h101 h102 h103 h104 (h105 _).fld (h105 _).fld h106 h107 (h105 _).fld (h105 _).fld (h105 _).fld) _ _ (hk0)

theorem openLock_kept {σ : Scope} {ρ : State} {s : State} {p : ℕ} {t : ℕ} {c : ℕ} {m : ℕ} {level : Bool} {e : EdgeSt} (hk0 : Kept σ ρ s) (h101 : σ.part .book = true) (h102 : σ.part .edges = true) (h103 : σ.fld pBOOK F.BOOK.DISCARD.COUNT) (h104 : σ.fld pBOOK F.BOOK.SHADOW.DROP) (h105 : σ.fld pBOOK (Fld.mk 12 12 1)) (h106 : σ.fld pBOOK F.BOOK.DISCARD_SYS.COUNT) (h107 : σ.fld pBOOK (Fld.mk 12 8 1)) (h108 : ∀ n, σ.page (pEDGE n)) :
    Kept σ ρ (State.openLock s p t c m level e) := by
  unfold State.openLock
  exact Kept.cut (fun k1 => setEdge_kept (set_kept (event_kept (mergedOut_kept (Kept.ite (bump_kept (k1) (h108 _).fld) (k1)) h101 h103 h104 h105 h108 h106 h107) (h108 _).fld) (h108 _).fld) h102) (pinRec_kept (hk0) h101 h103 h104 h105 (h108 _).fld (h108 _).fld h106 h107)

theorem settled_kept {σ : Scope} {ρ : State} {s : State} {p : ℕ} (hk0 : Kept σ ρ s) (h101 : σ.part .edges = true) (h102 : σ.part .book = true) (h103 : σ.fld pBOOK F.BOOK.DISCARD.COUNT) (h104 : σ.fld pBOOK F.BOOK.SHADOW.DROP) (h105 : σ.fld pBOOK (Fld.mk 12 12 1)) (h106 : ∀ n, σ.page (pEDGE n)) (h107 : σ.fld pBOOK F.BOOK.DISCARD_SYS.COUNT) (h108 : σ.fld pBOOK (Fld.mk 12 8 1)) :
    Kept σ ρ (State.settled s p) := by
  unfold State.settled
  exact Kept.ite (hk0) (Kept.cut (fun k1 => mergedOut_kept (Kept.ite (stuckRec_kept (k1) h102 h101 h103 h104 h105 (h106 _).fld (h106 _).fld h107 h108 (h106 _).fld (h106 _).fld) (k1)) h102 h103 h104 h105 h106 h107 h108) (mergedOut_kept (setEdge_kept (hk0) h101) h102 h103 h104 h105 h106 h107 h108))

theorem accept_kept {σ : Scope} {ρ : State} {s0 : State} {p : ℕ} {t : ℕ} {c : ℕ} {absorbed : ℕ} {m : ℕ} {level : Bool} (hk0 : Kept σ ρ s0) (h101 : σ.part .book = true) (h102 : σ.part .edges = true) (h103 : σ.fld pBOOK F.BOOK.DISCARD.COUNT) (h104 : σ.fld pBOOK F.BOOK.SHADOW.DROP) (h105 : σ.fld pBOOK (Fld.mk 12 12 1)) (h106 : σ.fld pBOOK F.BOOK.DISCARD_SYS.COUNT) (h107 : σ.fld pBOOK (Fld.mk 12 8 1)) (h108 : ∀ n, σ.page (pEDGE n)) :
    Kept σ ρ (State.accept s0 p t c absorbed m level) := by
  unfold State.accept
  exact Kept.cut (fun k7 => Kept.ite (openLock_kept (k7) h101 h102 h103 h104 h105 h106 h107 h108) (Kept.cut (fun k9 => settled_kept (Kept.ite (edgeRec_kept (k9) h101 h103 h104 h105 (h108 _).fld (h108 _).fld h106 h107 (h108 _).fld (h108 _).fld (h108 _).fld) (k9)) h102 h101 h103 h104 h105 h108 h106 h107) (setEdge_kept (k7) h102))) (set_kept (putL_kept (stuckBefore_kept (hk0) h101 h102 h103 h104 h105 (h108 _).fld (h108 _).fld h106 h107 (h108 _).fld (h108 _).fld) (h108 _).fld) (h108 _).fld)

theorem chainTidy_kept {σ : Scope} {ρ : State} {s : State} {p : ℕ} (hk0 : Kept σ ρ s) (h101 : σ.part .edges = true) :
    Kept σ ρ (State.chainTidy s p) := by
  unfold State.chainTidy
  exact Kept.ite (setEdge_kept (hk0) h101) (hk0)

theorem passEvent_kept {σ : Scope} {ρ : State} {s : State} {p : ℕ} {t : ℕ} {c : ℕ} {m : ℕ} {level : Bool} (hk0 : Kept σ ρ s) (h101 : σ.part .book = true) (h102 : σ.part .edges = true) (h103 : σ.fld pBOOK F.BOOK.DISCARD.COUNT) (h104 : σ.fld pBOOK F.BOOK.SHADOW.DROP) (h105 : σ.fld pBOOK (Fld.mk 12 12 1)) (h106 : σ.fld pBOOK F.BOOK.DISCARD_SYS.COUNT) (h107 : σ.fld pBOOK (Fld.mk 12 8 1)) (h108 : ∀ n, σ.page (pEDGE n)) :
    Kept σ ρ (State.passEvent s p t c m level) := by
  unfold State.passEvent
  exact Kept.ite (accept_kept (hk0) h101 h102 h103 h104 h105 h106 h107 h108) ((by split; exacts [setEdge_kept (hk0) h102, setEdge_kept (hk0) h102]))

theorem glitchExpire_kept {σ : Scope} {ρ : State} {s : State} {p : ℕ} {t : ℕ} (hk0 : Kept σ ρ s) (h101 : σ.part .edges = true) (h102 : σ.part .book = true) (h103 : σ.fld pBOOK F.BOOK.DISCARD.COUNT) (h104 : σ.fld pBOOK F.BOOK.SHADOW.DROP) (h105 : σ.fld pBOOK (Fld.mk 12 12 1)) (h106 : σ.fld pBOOK F.BOOK.DISCARD_SYS.COUNT) (h107 : σ.fld pBOOK (Fld.mk 12 8 1)) (h108 : ∀ n, σ.page (pEDGE n)) :
    Kept σ ρ (State.glitchExpire s p t) := by
  unfold State.glitchExpire
  exact (by (try dsimp only); split; exacts [hk0, passEvent_kept (setEdge_kept (hk0) h101) h102 h101 h103 h104 h105 h106 h107 h108])

theorem debClose_kept {σ : Scope} {ρ : State} {s : State} {p : ℕ} {t : ℕ} (hk0 : Kept σ ρ s) (h101 : σ.part .book = true) (h102 : σ.part .edges = true) (h103 : σ.fld pBOOK F.BOOK.DISCARD.COUNT) (h104 : σ.fld pBOOK F.BOOK.SHADOW.DROP) (h105 : σ.fld pBOOK (Fld.mk 12 12 1)) (h106 : σ.fld pBOOK F.BOOK.DISCARD_SYS.COUNT) (h107 : σ.fld pBOOK (Fld.mk 12 8 1)) (h108 : ∀ n, σ.page (pEDGE n)) :
    Kept σ ρ (State.debClose s p t) := by
  unfold State.debClose
  exact (by (try dsimp only); split; exacts [hk0, Kept.ite (accept_kept (hk0) h101 h102 h103 h104 h105 h106 h107 h108) (settled_kept (bump_kept (setEdge_kept (hk0) h102) (h108 _).fld) h102 h101 h103 h104 h105 h108 h106 h107)])

theorem chatClose_kept {σ : Scope} {ρ : State} {s : State} {p : ℕ} {t : ℕ} (hk0 : Kept σ ρ s) (h101 : σ.part .book = true) (h102 : σ.part .edges = true) (h103 : σ.fld pBOOK F.BOOK.DISCARD.COUNT) (h104 : σ.fld pBOOK F.BOOK.SHADOW.DROP) (h105 : σ.fld pBOOK (Fld.mk 12 12 1)) (h106 : ∀ n, σ.page (pEDGE n)) (h107 : σ.fld pBOOK F.BOOK.DISCARD_SYS.COUNT) (h108 : σ.fld pBOOK (Fld.mk 12 8 1)) :
    Kept σ ρ (State.chatClose s p t) := by
  unfold State.chatClose
  exact (by (try dsimp only); split; exacts [hk0, setEdge_kept (pinRec_kept (hk0) h101 h103 h104 h105 (h106 _).fld (h106 _).fld h107 h108) h102])

theorem chatEnd_kept {σ : Scope} {ρ : State} {s : State} {p : ℕ} {t : ℕ} (hk0 : Kept σ ρ s) (h101 : σ.part .book = true) (h102 : σ.part .edges = true) (h103 : σ.fld pBOOK F.BOOK.DISCARD.COUNT) (h104 : σ.fld pBOOK F.BOOK.SHADOW.DROP) (h105 : σ.fld pBOOK (Fld.mk 12 12 1)) (h106 : ∀ n, σ.page (pEDGE n)) (h107 : σ.fld pBOOK F.BOOK.DISCARD_SYS.COUNT) (h108 : σ.fld pBOOK (Fld.mk 12 8 1)) :
    Kept σ ρ (State.chatEnd s p t) := by
  unfold State.chatEnd
  exact (by (try dsimp only); split; exacts [hk0, Kept.cut (fun k7 => Kept.ite (set_kept (setEdge_kept (k7) h102) (h106 _).fld) (Kept.cut (fun k9 => Kept.ite (stuckRec_kept (k9) h101 h102 h103 h104 h105 (h106 _).fld (h106 _).fld h107 h108 (h106 _).fld (h106 _).fld) (k9)) (setEdge_kept (k7) h102))) (putL_kept (set_kept (event_kept (pinRec_kept (hk0) h101 h103 h104 h105 (h106 _).fld (h106 _).fld h107 h108) (h106 _).fld) (h106 _).fld) (h106 _).fld)])

theorem chainDo_kept {σ : Scope} {ρ : State} {s : State} {p : ℕ} {d : ChainDue} (hk0 : Kept σ ρ s) (h101 : σ.part .edges = true) (h102 : σ.part .book = true) (h103 : σ.fld pBOOK F.BOOK.DISCARD.COUNT) (h104 : σ.fld pBOOK F.BOOK.SHADOW.DROP) (h105 : σ.fld pBOOK (Fld.mk 12 12 1)) (h106 : σ.fld pBOOK F.BOOK.DISCARD_SYS.COUNT) (h107 : σ.fld pBOOK (Fld.mk 12 8 1)) (h108 : ∀ n, σ.page (pEDGE n)) :
    Kept σ ρ (State.chainDo s p d) := by
  unfold State.chainDo
  exact Kept.cut (fun k1 => (by (try dsimp only); split; exacts [glitchExpire_kept (k1) h101 h102 h103 h104 h105 h106 h107 h108, debClose_kept (k1) h102 h101 h103 h104 h105 h106 h107 h108, chatClose_kept (k1) h102 h101 h103 h104 h105 h108 h106 h107, chatEnd_kept (k1) h102 h101 h103 h104 h105 h108 h106 h107])) (advanceT_kept (hk0))

theorem lockCount_kept {σ : Scope} {ρ : State} {s : State} {p : ℕ} {x : PinEv} {lk : ChatLock} (hk0 : Kept σ ρ s) (h101 : σ.part .edges = true) :
    Kept σ ρ (State.lockCount s p x lk) := by
  unfold State.lockCount
  exact setEdge_kept (hk0) h101

theorem glitchIn_kept {σ : Scope} {ρ : State} {s : State} {p : ℕ} {t : ℕ} {c : ℕ} {level : Bool} (hk0 : Kept σ ρ s) (h101 : σ.part .book = true) (h102 : σ.part .edges = true) (h103 : σ.fld pBOOK F.BOOK.DISCARD.COUNT) (h104 : σ.fld pBOOK F.BOOK.SHADOW.DROP) (h105 : σ.fld pBOOK (Fld.mk 12 12 1)) (h106 : σ.fld pBOOK F.BOOK.DISCARD_SYS.COUNT) (h107 : σ.fld pBOOK (Fld.mk 12 8 1)) (h108 : ∀ n, σ.page (pEDGE n)) :
    Kept σ ρ (State.glitchIn s p t c level) := by
  unfold State.glitchIn
  exact Kept.ite (passEvent_kept (hk0) h101 h102 h103 h104 h105 h106 h107 h108) ((by split; exacts [setEdge_kept (hk0) h102, settled_kept (bump_kept (setEdge_kept (hk0) h102) (h108 _).fld) h102 h101 h103 h104 h105 h108 h106 h107]))

theorem takeEvent_kept {σ : Scope} {ρ : State} {s : State} {p : ℕ} {x : PinEv} (hk0 : Kept σ ρ s) (h101 : σ.part .edges = true) (h102 : σ.part .book = true) (h103 : σ.fld pBOOK F.BOOK.DISCARD.COUNT) (h104 : σ.fld pBOOK F.BOOK.SHADOW.DROP) (h105 : σ.fld pBOOK (Fld.mk 12 12 1)) (h106 : σ.fld pBOOK F.BOOK.DISCARD_SYS.COUNT) (h107 : σ.fld pBOOK (Fld.mk 12 8 1)) (h108 : ∀ n, σ.page (pEDGE n)) :
    Kept σ ρ (State.takeEvent s p x) := by
  unfold State.takeEvent
  exact (by (try dsimp only); split; exacts [lockCount_kept (hk0) h101, Kept.cut (fun k1 => Kept.ite (glitchIn_kept (k1) h102 h101 h103 h104 h105 h106 h107 h108) (Kept.ite (bump_kept (k1) (h108 _).fld) (Kept.ite (k1) (Kept.ite (setEdge_kept (k1) h101) (mergedOut_kept (k1) h102 h103 h104 h105 h108 h106 h107))))) (setEdge_kept (hk0) h101)])

theorem chainRun_kept {σ : Scope} {ρ s : State} {p lim fuel : Nat} (h : Kept σ ρ s) (he : σ.part .edges = true)
    (h2 : σ.part .book = true)
    (h3 : σ.fld pBOOK F.BOOK.DISCARD.COUNT) (h4 : σ.fld pBOOK F.BOOK.SHADOW.DROP) (h5 : σ.fld pBOOK (Fld.mk 12 12 1))
    (h6 : ∀ n, σ.page (pEDGE n)) (h7 : σ.fld pBOOK F.BOOK.DISCARD_SYS.COUNT) (h8 : σ.fld pBOOK (Fld.mk 12 8 1)) :
    Kept σ ρ (State.chainRun p lim fuel s) := by
  induction fuel generalizing s with
  | zero => exact h
  | succ fuel ih =>
    unfold State.chainRun
    dsimp only
    split
    · split
      · exact ih (chainDo_kept h he h2 h3 h4 h5 h7 h8 h6)
      · exact ih (takeEvent_kept (setEdge_kept h he) he h2 h3 h4 h5 h7 h8 h6)
    · split
      · exact ih (chainDo_kept h he h2 h3 h4 h5 h7 h8 h6)
      · exact h

theorem chainTo_kept {σ : Scope} {ρ : State} {s : State} {p : ℕ} {lim : ℕ} (hk0 : Kept σ ρ s) (h101 : σ.part .edges = true) (h102 : σ.part .book = true) (h103 : σ.fld pBOOK F.BOOK.DISCARD.COUNT) (h104 : σ.fld pBOOK F.BOOK.SHADOW.DROP) (h105 : σ.fld pBOOK (Fld.mk 12 12 1)) (h106 : ∀ n, σ.page (pEDGE n)) (h107 : σ.fld pBOOK F.BOOK.DISCARD_SYS.COUNT) (h108 : σ.fld pBOOK (Fld.mk 12 8 1)) :
    Kept σ ρ (State.chainTo s p lim) := by
  unfold State.chainTo
  exact chainTidy_kept (chainRun_kept (hk0) h101 h102 h103 h104 h105 h106 h107 h108) h101

theorem chainIn_kept {σ : Scope} {ρ : State} {s : State} {p : ℕ} {x : PinEv} (hk0 : Kept σ ρ s) (h101 : σ.part .edges = true) (h102 : σ.part .book = true) (h103 : σ.fld pBOOK F.BOOK.DISCARD.COUNT) (h104 : σ.fld pBOOK F.BOOK.SHADOW.DROP) (h105 : σ.fld pBOOK (Fld.mk 12 12 1)) (h106 : ∀ n, σ.page (pEDGE n)) (h107 : σ.fld pBOOK F.BOOK.DISCARD_SYS.COUNT) (h108 : σ.fld pBOOK (Fld.mk 12 8 1)) :
    Kept σ ρ (State.chainIn s p x) := by
  unfold State.chainIn
  exact chainTo_kept (setEdge_kept (hk0) h101) h101 h102 h103 h104 h105 h106 h107 h108

theorem edgeSeen_kept {σ : Scope} {ρ : State} {s : State} {p : ℕ} {r : ℕ} {x : PinEv} (hk0 : Kept σ ρ s) (h101 : σ.part .pins = true) (h102 : σ.part .edges = true) (h103 : σ.part .book = true) (h104 : σ.fld pBOOK F.BOOK.DISCARD.COUNT) (h105 : σ.fld pBOOK F.BOOK.SHADOW.DROP) (h106 : σ.fld pBOOK (Fld.mk 12 12 1)) (h107 : ∀ n, σ.page (pEDGE n)) (h108 : σ.fld pBOOK F.BOOK.DISCARD_SYS.COUNT) (h109 : σ.fld pBOOK (Fld.mk 12 8 1)) :
    Kept σ ρ (State.edgeSeen s p r x) := by
  unfold State.edgeSeen
  exact Kept.cut (fun k1 => Kept.ite (chainIn_kept (k1) h102 h103 h104 h105 h106 h107 h108 h109) (k1)) (detect_kept (hk0) h101)

theorem edgeOn_kept {σ : Scope} {ρ : State} {s : State} {q : ℕ} (hk0 : Kept σ ρ s) (h101 : σ.part .edges = true) (h102 : ∀ n, σ.page (pEDGE n)) :
    Kept σ ρ (State.edgeOn s q) := by
  unfold State.edgeOn
  exact Kept.foldl (fun x0 a1 k2 => Kept.ite (putL_kept (setEdge_kept (k2) h101) (h102 _).fld) (k2)) _ _ (hk0)

theorem edgeOff_kept {σ : Scope} {ρ : State} {s : State} {q : ℕ} (hk0 : Kept σ ρ s) (h101 : σ.part .edges = true) (h102 : σ.page (pEDGE q)) :
    Kept σ ρ (State.edgeOff s q) := by
  unfold State.edgeOff
  exact Kept.foldl (fun x11 a12 k13 => wr_kept (k13) (h102 _)) _ _ (Kept.foldl (fun x8 a9 k10 => setEdge_kept (k10) h101) _ _ (hk0))

theorem chainDueCmd_kept {σ : Scope} {ρ : State} {s : State} {p : ℕ} {want : EdgeSt → Option ℕ} (hk0 : Kept σ ρ s) (h101 : σ.part .edges = true) (h102 : σ.part .book = true) (h103 : σ.fld pBOOK F.BOOK.DISCARD.COUNT) (h104 : σ.fld pBOOK F.BOOK.SHADOW.DROP) (h105 : σ.fld pBOOK (Fld.mk 12 12 1)) (h106 : ∀ n, σ.page (pEDGE n)) (h107 : σ.fld pBOOK F.BOOK.DISCARD_SYS.COUNT) (h108 : σ.fld pBOOK (Fld.mk 12 8 1)) :
    Kept σ ρ (State.chainDueCmd s p want) := by
  unfold State.chainDueCmd
  exact (by split; exacts [Kept.ite (chainTo_kept (hk0) h101 h102 h103 h104 h105 h106 h107 h108) (hk0), hk0])

theorem edgeTaken_kept {σ : Scope} {ρ : State} {s : State} {p : ℕ} {tf : ℕ} (hk0 : Kept σ ρ s) (h101 : σ.part .edges = true) (h102 : σ.part .pins = true) :
    Kept σ ρ (State.edgeTaken s p tf) := by
  unfold State.edgeTaken
  exact Kept.cut (fun k1 => Kept.ite (k1) (setPin_kept (k1) h102)) (Kept.ite (hk0) (setEdge_kept (hk0) h101))

theorem pinTransition_kept {σ : Scope} {ρ : State} {s : State} {p : ℕ} {c : ℕ} {level : Bool} (hk0 : Kept σ ρ s) (h101 : σ.part .pins = true) (h102 : σ.part .edges = true) (h103 : σ.part .book = true) (h104 : σ.fld pBOOK F.BOOK.DISCARD.COUNT) (h105 : σ.fld pBOOK F.BOOK.SHADOW.DROP) (h106 : σ.fld pBOOK (Fld.mk 12 12 1)) (h107 : ∀ n, σ.page (pEDGE n)) (h108 : σ.fld pBOOK F.BOOK.DISCARD_SYS.COUNT) (h109 : σ.fld pBOOK (Fld.mk 12 8 1)) :
    Kept σ ρ (State.pinTransition s p c level) := by
  unfold State.pinTransition
  exact Kept.ite (hk0) (edgeSeen_kept (setPin_kept (hk0) h101) h101 h102 h103 h104 h105 h106 h107 h108 h109)

theorem stuckExpire_kept {σ : Scope} {ρ : State} {s : State} {p : ℕ} (hk0 : Kept σ ρ s) (h101 : σ.part .edges = true) (h102 : σ.part .book = true) (h103 : σ.fld pBOOK F.BOOK.DISCARD.COUNT) (h104 : σ.fld pBOOK F.BOOK.SHADOW.DROP) (h105 : σ.fld pBOOK (Fld.mk 12 12 1)) (h106 : ∀ n, σ.page (pEDGE n)) (h107 : σ.fld pBOOK F.BOOK.DISCARD_SYS.COUNT) (h108 : σ.fld pBOOK (Fld.mk 12 8 1)) :
    Kept σ ρ (State.stuckExpire s p) := by
  unfold State.stuckExpire
  exact Kept.ite (hk0) (Kept.cut (fun k1 => (by (try dsimp only); split; exacts [setEdge_kept (k1) h101, Kept.ite (setEdge_kept (k1) h101) (stuckRec_kept (k1) h102 h101 h103 h104 h105 (h106 _).fld (h106 _).fld h107 h108 (h106 _).fld (h106 _).fld)])) (advanceT_kept (hk0)))

theorem execChatterQuietEnd_kept {σ : Scope} {pin : ℕ} {s : State} (h101 : σ.part .edges = true) (h102 : σ.part .book = true) (h103 : σ.fld pBOOK F.BOOK.DISCARD.COUNT) (h104 : σ.fld pBOOK F.BOOK.SHADOW.DROP) (h105 : σ.fld pBOOK (Fld.mk 12 12 1)) (h106 : ∀ n, σ.page (pEDGE n)) (h107 : σ.fld pBOOK F.BOOK.DISCARD_SYS.COUNT) (h108 : σ.fld pBOOK (Fld.mk 12 8 1)) :
    KeptNext σ s (execChatterQuietEnd pin s) := by
  unfold execChatterQuietEnd
  exact KeptNext.next (chainDueCmd_kept (Kept.refl σ s) h101 h102 h103 h104 h105 h106 h107 h108)

theorem execChatterWindowClose_kept {σ : Scope} {pin : ℕ} {s : State} (h101 : σ.part .edges = true) (h102 : σ.part .book = true) (h103 : σ.fld pBOOK F.BOOK.DISCARD.COUNT) (h104 : σ.fld pBOOK F.BOOK.SHADOW.DROP) (h105 : σ.fld pBOOK (Fld.mk 12 12 1)) (h106 : ∀ n, σ.page (pEDGE n)) (h107 : σ.fld pBOOK F.BOOK.DISCARD_SYS.COUNT) (h108 : σ.fld pBOOK (Fld.mk 12 8 1)) :
    KeptNext σ s (execChatterWindowClose pin s) := by
  unfold execChatterWindowClose
  exact KeptNext.next (chainDueCmd_kept (Kept.refl σ s) h101 h102 h103 h104 h105 h106 h107 h108)

theorem execDebounceWindowClose_kept {σ : Scope} {pin : ℕ} {s : State} (h101 : σ.part .edges = true) (h102 : σ.part .book = true) (h103 : σ.fld pBOOK F.BOOK.DISCARD.COUNT) (h104 : σ.fld pBOOK F.BOOK.SHADOW.DROP) (h105 : σ.fld pBOOK (Fld.mk 12 12 1)) (h106 : ∀ n, σ.page (pEDGE n)) (h107 : σ.fld pBOOK F.BOOK.DISCARD_SYS.COUNT) (h108 : σ.fld pBOOK (Fld.mk 12 8 1)) :
    KeptNext σ s (execDebounceWindowClose pin s) := by
  unfold execDebounceWindowClose
  exact KeptNext.next (chainDueCmd_kept (Kept.refl σ s) h101 h102 h103 h104 h105 h106 h107 h108)

theorem execGlitchWindowExpire_kept {σ : Scope} {pin : ℕ} {s : State} (h101 : σ.part .edges = true) (h102 : σ.part .book = true) (h103 : σ.fld pBOOK F.BOOK.DISCARD.COUNT) (h104 : σ.fld pBOOK F.BOOK.SHADOW.DROP) (h105 : σ.fld pBOOK (Fld.mk 12 12 1)) (h106 : ∀ n, σ.page (pEDGE n)) (h107 : σ.fld pBOOK F.BOOK.DISCARD_SYS.COUNT) (h108 : σ.fld pBOOK (Fld.mk 12 8 1)) :
    KeptNext σ s (execGlitchWindowExpire pin s) := by
  unfold execGlitchWindowExpire
  exact KeptNext.next (chainDueCmd_kept (Kept.refl σ s) h101 h102 h103 h104 h105 h106 h107 h108)

theorem execPinTransition_kept {σ : Scope} {clk : ℕ} {pin : ℕ} {tr : PinTick} {s : State} (h101 : σ.part .pins = true) (h102 : σ.part .edges = true) (h103 : σ.part .book = true) (h104 : σ.fld pBOOK F.BOOK.DISCARD.COUNT) (h105 : σ.fld pBOOK F.BOOK.SHADOW.DROP) (h106 : σ.fld pBOOK (Fld.mk 12 12 1)) (h107 : ∀ n, σ.page (pEDGE n)) (h108 : σ.fld pBOOK F.BOOK.DISCARD_SYS.COUNT) (h109 : σ.fld pBOOK (Fld.mk 12 8 1)) :
    KeptNext σ s (execPinTransition clk pin tr s) := by
  unfold execPinTransition
  exact KeptNext.next (Kept.ite (advance_kept (Kept.refl σ s)) (Kept.ite (pinTransition_kept (advance_kept (Kept.refl σ s)) h101 h102 h103 h104 h105 h106 h107 h108 h109) (Kept.ite (advance_kept (Kept.refl σ s)) (setPin_kept (advance_kept (Kept.refl σ s)) h101))))

theorem execStuckTimerExpire_kept {σ : Scope} {pin : ℕ} {s : State} (h101 : σ.part .edges = true) (h102 : σ.part .book = true) (h103 : σ.fld pBOOK F.BOOK.DISCARD.COUNT) (h104 : σ.fld pBOOK F.BOOK.SHADOW.DROP) (h105 : σ.fld pBOOK (Fld.mk 12 12 1)) (h106 : ∀ n, σ.page (pEDGE n)) (h107 : σ.fld pBOOK F.BOOK.DISCARD_SYS.COUNT) (h108 : σ.fld pBOOK (Fld.mk 12 8 1)) :
    KeptNext σ s (execStuckTimerExpire pin s) := by
  unfold execStuckTimerExpire
  exact KeptNext.next (Kept.ite (stuckExpire_kept (Kept.refl σ s) h101 h102 h103 h104 h105 h106 h107 h108) (Kept.refl σ s))

theorem ballTo_kept {σ : Scope} {ρ : State} {s : State} {p : ℕ} {t : ℕ} (hk0 : Kept σ ρ s) (h101 : σ.part .pins = true) (h102 : σ.part .edges = true) (h103 : σ.part .book = true) (h104 : σ.fld pBOOK F.BOOK.DISCARD.COUNT) (h105 : σ.fld pBOOK F.BOOK.SHADOW.DROP) (h106 : σ.fld pBOOK (Fld.mk 12 12 1)) (h107 : ∀ n, σ.page (pEDGE n)) (h108 : σ.fld pBOOK F.BOOK.DISCARD_SYS.COUNT) (h109 : σ.fld pBOOK (Fld.mk 12 8 1)) :
    Kept σ ρ (State.ballTo s p t) := by
  unfold State.ballTo
  exact Kept.cut (fun k1 => Kept.ite (k1) (Kept.cut (fun k3 => Kept.ite (Kept.ite (setPin_kept (k3) h101) (k3)) (edgeSeen_kept (k3) h101 h102 h103 h104 h105 h106 h107 h108 h109)) (setPin_kept (k1) h101))) (Kept.ite (hk0) (setPin_kept (hk0) h101))

theorem ballsNow_kept {σ : Scope} {ρ : State} {s : State} {ps : List ℕ} (hk0 : Kept σ ρ s) (h101 : σ.part .pins = true) (h102 : σ.part .edges = true) (h103 : σ.part .book = true) (h104 : σ.fld pBOOK F.BOOK.DISCARD.COUNT) (h105 : σ.fld pBOOK F.BOOK.SHADOW.DROP) (h106 : σ.fld pBOOK (Fld.mk 12 12 1)) (h107 : ∀ n, σ.page (pEDGE n)) (h108 : σ.fld pBOOK F.BOOK.DISCARD_SYS.COUNT) (h109 : σ.fld pBOOK (Fld.mk 12 8 1)) :
    Kept σ ρ (State.ballsNow s ps) := by
  unfold State.ballsNow
  exact Kept.foldl (fun x0 a1 k2 => ballTo_kept (k2) h101 h102 h103 h104 h105 h106 h107 h108 h109) _ _ (hk0)

theorem canPin_kept {σ : Scope} {ρ : State} {s : State} {n : ℕ} (hk0 : Kept σ ρ s) (h101 : σ.part .pins = true) (h102 : σ.part .edges = true) (h103 : σ.part .book = true) (h104 : σ.fld pBOOK F.BOOK.DISCARD.COUNT) (h105 : σ.fld pBOOK F.BOOK.SHADOW.DROP) (h106 : σ.fld pBOOK (Fld.mk 12 12 1)) (h107 : ∀ n, σ.page (pEDGE n)) (h108 : σ.fld pBOOK F.BOOK.DISCARD_SYS.COUNT) (h109 : σ.fld pBOOK (Fld.mk 12 8 1)) :
    Kept σ ρ (State.canPin s n) := by
  unfold State.canPin
  exact (by split; exacts [ballTo_kept (hk0) h101 h102 h103 h104 h105 h106 h107 h108 h109, hk0])

theorem shadowSync_kept {σ : Scope} {ρ : State} {s : State} {s0 : State} (hk0 : Kept σ ρ s) (h101 : σ.part .pins = true) (h102 : σ.part .edges = true) (h103 : σ.part .book = true) (h104 : σ.fld pBOOK F.BOOK.DISCARD.COUNT) (h105 : σ.fld pBOOK F.BOOK.SHADOW.DROP) (h106 : σ.fld pBOOK (Fld.mk 12 12 1)) (h107 : ∀ n, σ.page (pEDGE n)) (h108 : σ.fld pBOOK F.BOOK.DISCARD_SYS.COUNT) (h109 : σ.fld pBOOK (Fld.mk 12 8 1)) :
    Kept σ ρ (State.shadowSync s s0) := by
  unfold State.shadowSync
  exact Kept.ite (hk0) (ballsNow_kept (hk0) h101 h102 h103 h104 h105 h106 h107 h108 h109)

theorem drivePin_kept {σ : Scope} {ρ : State} {s : State} {p : ℕ} {lvl : Bool} {oe : Bool} {t : ℕ} (hk0 : Kept σ ρ s) (h101 : σ.part .pins = true) (h102 : σ.part .edges = true) (h103 : σ.part .book = true) (h104 : σ.fld pBOOK F.BOOK.DISCARD.COUNT) (h105 : σ.fld pBOOK F.BOOK.SHADOW.DROP) (h106 : σ.fld pBOOK (Fld.mk 12 12 1)) (h107 : ∀ n, σ.page (pEDGE n)) (h108 : σ.fld pBOOK F.BOOK.DISCARD_SYS.COUNT) (h109 : σ.fld pBOOK (Fld.mk 12 8 1)) :
    Kept σ ρ (State.drivePin s p lvl oe t) := by
  unfold State.drivePin
  exact ballTo_kept (latchPin_kept (hk0) h101) h101 h102 h103 h104 h105 h106 h107 h108 h109

theorem releasePins_kept {σ : Scope} {ρ : State} {s : State} {ps : List ℕ} (hk0 : Kept σ ρ s) (h101 : σ.part .pins = true) (h102 : σ.part .edges = true) (h103 : σ.part .book = true) (h104 : σ.fld pBOOK F.BOOK.DISCARD.COUNT) (h105 : σ.fld pBOOK F.BOOK.SHADOW.DROP) (h106 : σ.fld pBOOK (Fld.mk 12 12 1)) (h107 : ∀ n, σ.page (pEDGE n)) (h108 : σ.fld pBOOK F.BOOK.DISCARD_SYS.COUNT) (h109 : σ.fld pBOOK (Fld.mk 12 8 1)) :
    Kept σ ρ (State.releasePins s ps) := by
  unfold State.releasePins
  exact Kept.foldl (fun x0 a1 k2 => setPin_kept (drivePin_kept (k2) h101 h102 h103 h104 h105 h106 h107 h108 h109) h101) _ _ (hk0)

theorem swWrite_kept {σ : Scope} {ρ : State} {s : State} {q : ℕ} {off : ℕ} {v : Word} (hk0 : Kept σ ρ s) (h101 : σ.part .pins = true) (h102 : σ.part .edges = true) (h103 : σ.part .book = true) (h104 : σ.reg (regKey (pPINMUX q) off) = true) (h105 : σ.fld pBOOK F.BOOK.DISCARD.COUNT) (h106 : σ.fld pBOOK F.BOOK.SHADOW.DROP) (h107 : σ.fld pBOOK (Fld.mk 12 12 1)) (h108 : ∀ n, σ.page (pEDGE n)) (h109 : σ.fld pBOOK F.BOOK.DISCARD_SYS.COUNT) (h110 : σ.fld pBOOK (Fld.mk 12 8 1)) :
    Kept σ ρ (State.swWrite s q off v) := by
  unfold State.swWrite
  exact Kept.foldl (fun x5 a6 k7 => Kept.ite (ballTo_kept (setPin_kept (k7) h101) h101 h102 h103 h105 h106 h107 h108 h109 h110) (k7)) _ _ (wr_kept (hk0) h104)

theorem pinCfgWrite_kept {σ : Scope} {ρ : State} {s : State} {q : ℕ} {off : ℕ} (hk0 : Kept σ ρ s) (h101 : σ.part .pins = true) (h102 : σ.part .edges = true) (h103 : σ.part .book = true) (h104 : σ.fld pBOOK F.BOOK.DISCARD.COUNT) (h105 : σ.fld pBOOK F.BOOK.SHADOW.DROP) (h106 : σ.fld pBOOK (Fld.mk 12 12 1)) (h107 : ∀ n, σ.page (pEDGE n)) (h108 : σ.fld pBOOK F.BOOK.DISCARD_SYS.COUNT) (h109 : σ.fld pBOOK (Fld.mk 12 8 1)) :
    Kept σ ρ (State.pinCfgWrite s q off) := by
  unfold State.pinCfgWrite
  exact ballsNow_kept (hk0) h101 h102 h103 h104 h105 h106 h107 h108 h109

theorem vddio_kept {σ : Scope} {ρ : State} {s0 : State} {bank : ℕ} {present : Bool} {sense : Bool} (hk0 : Kept σ ρ s0) (h101 : σ.part .pins = true) (h102 : σ.part .edges = true) (h103 : σ.part .book = true) (h104 : σ.fld (pPINMUX (bank / 2)) (Fld.mk F.PINMUX.VDDSTS.PRESENT.off (2 + bank % 2) 1)) (h105 : σ.fld (pPINMUX (bank / 2)) (Fld.mk F.PINMUX.VDDSTS.SENSE.off (bank % 2) 1)) (h106 : σ.fld pBOOK F.BOOK.DISCARD.COUNT) (h107 : σ.fld pBOOK F.BOOK.SHADOW.DROP) (h108 : σ.fld pBOOK (Fld.mk 12 12 1)) (h109 : ∀ n, σ.page (pEDGE n)) (h110 : σ.fld pBOOK F.BOOK.DISCARD_SYS.COUNT) (h111 : σ.fld pBOOK (Fld.mk 12 8 1)) :
    Kept σ ρ (State.vddio s0 bank present sense) := by
  unfold State.vddio
  exact ballsNow_kept (setB_kept (setB_kept (Kept.foldl (fun x5 a6 k7 => latchPin_kept (k7) h101) _ _ (hk0)) h104) h105) h101 h102 h103 h106 h107 h108 h109 h110 h111

theorem execPinmuxSwdataWrite_kept {σ : Scope} {clk : ℕ} {q : ℕ} {off : ℕ} {data : Word} {s : State} (h101 : σ.part .pins = true) (h102 : σ.part .edges = true) (h103 : σ.part .book = true) (h104 : σ.part .page = true) (h105 : σ.reg (regKey (pPINMUX q) off) = true) (h106 : σ.fld pBOOK F.BOOK.DISCARD.COUNT) (h107 : σ.fld pBOOK F.BOOK.SHADOW.DROP) (h108 : σ.fld pBOOK (Fld.mk 12 12 1)) (h109 : ∀ n, σ.page (pEDGE n)) (h110 : σ.fld pBOOK F.BOOK.DISCARD_SYS.COUNT) (h111 : σ.fld pBOOK (Fld.mk 12 8 1)) (h112 : σ.fld pSYS (Fld.mk 12 11 1)) (h113 : σ.fld (pPINMUX q) F.HDR.PSTS.CODE) (h114 : σ.fld (pPINMUX q) F.HDR.PSTS.INDEX) (h115 : σ.fld (pPINMUX q) F.HDR.PSTS.REFUSED) (h116 : σ.fld (pPINMUX q) (Fld.mk 12 0 1)) :
    KeptNext σ s (execPinmuxSwdataWrite clk q off data s) := by
  unfold execPinmuxSwdataWrite
  exact KeptNext.next (Kept.ite (regWrite_kept (advance_kept (Kept.refl σ s)) (fun x0 k1 => swWrite_kept (k1) h101 h102 h103 h105 h106 h107 h108 h109 h110 h111) h104 h112 h113 h114 h115 h116) (advance_kept (Kept.refl σ s)))

theorem execVddioBankChange_kept {σ : Scope} {clk : ℕ} {bank : ℕ} {present : Bool} {sense : Bool} {s : State} (h101 : σ.part .pins = true) (h102 : σ.part .edges = true) (h103 : σ.part .book = true) (h104 : σ.fld (pPINMUX (bank / 2)) (Fld.mk F.PINMUX.VDDSTS.PRESENT.off (2 + bank % 2) 1)) (h105 : σ.fld (pPINMUX (bank / 2)) (Fld.mk F.PINMUX.VDDSTS.SENSE.off (bank % 2) 1)) (h106 : σ.fld pBOOK F.BOOK.DISCARD.COUNT) (h107 : σ.fld pBOOK F.BOOK.SHADOW.DROP) (h108 : σ.fld pBOOK (Fld.mk 12 12 1)) (h109 : ∀ n, σ.page (pEDGE n)) (h110 : σ.fld pBOOK F.BOOK.DISCARD_SYS.COUNT) (h111 : σ.fld pBOOK (Fld.mk 12 8 1)) :
    KeptNext σ s (execVddioBankChange clk bank present sense s) := by
  unfold execVddioBankChange
  exact KeptNext.next (Kept.ite (vddio_kept (advance_kept (Kept.refl σ s)) h101 h102 h103 h104 h105 h106 h107 h108 h109 h110 h111) (advance_kept (Kept.refl σ s)))

theorem canIdle_kept {σ : Scope} {ρ : State} {s : State} {n : ℕ} (hk0 : Kept σ ρ s) (h101 : σ.part .cans = true) (h102 : σ.part .pins = true) (h103 : σ.part .edges = true) (h104 : σ.part .book = true) (h105 : σ.fld (pCAN n) F.CAN.STS.ACTIVE_BUF) (h106 : σ.fld pBOOK F.BOOK.DISCARD.COUNT) (h107 : σ.fld pBOOK F.BOOK.SHADOW.DROP) (h108 : σ.fld pBOOK (Fld.mk 12 12 1)) (h109 : ∀ n, σ.page (pEDGE n)) (h110 : σ.fld pBOOK F.BOOK.DISCARD_SYS.COUNT) (h111 : σ.fld pBOOK (Fld.mk 12 8 1)) :
    Kept σ ρ (State.canIdle s n) := by
  unfold State.canIdle
  exact canPin_kept (set_kept (setCan_kept (hk0) h101) h105) h102 h103 h104 h106 h107 h108 h109 h110 h111

theorem canOn_kept {σ : Scope} {ρ : State} {s : State} {n : ℕ} (hk0 : Kept σ ρ s) (h101 : σ.part .cans = true) (h102 : σ.part .pins = true) (h103 : σ.part .edges = true) (h104 : σ.part .book = true) (h105 : σ.fld (pCAN n) F.CAN.STS.ACTIVE_BUF) (h106 : σ.fld pBOOK F.BOOK.DISCARD.COUNT) (h107 : σ.fld pBOOK F.BOOK.SHADOW.DROP) (h108 : σ.fld pBOOK (Fld.mk 12 12 1)) (h109 : ∀ n, σ.page (pEDGE n)) (h110 : σ.fld pBOOK F.BOOK.DISCARD_SYS.COUNT) (h111 : σ.fld pBOOK (Fld.mk 12 8 1)) (h112 : σ.fld (pCAN n) F.CAN.STS.REF_PEND) (h113 : σ.fld (pCAN n) F.CAN.ERRCNT.TEC) (h114 : σ.fld (pCAN n) F.CAN.ERRCNT.REC) (h115 : σ.fld (pCAN n) F.CAN.STS.STATE) :
    Kept σ ρ (State.canOn s n) := by
  unfold State.canOn
  exact setCan_kept (set_kept (set_kept (set_kept (set_kept (canIdle_kept (hk0) h101 h102 h103 h104 h105 h106 h107 h108 h109 h110 h111) h112) h113) h114) h115) h101

theorem canOff_kept {σ : Scope} {ρ : State} {s : State} {n : ℕ} (hk0 : Kept σ ρ s) (h101 : σ.part .cans = true) (h102 : σ.part .pins = true) (h103 : σ.part .edges = true) (h104 : σ.part .book = true) (h105 : σ.fld (pCAN n) F.CAN.STS.ACTIVE_BUF) (h106 : σ.fld pBOOK F.BOOK.DISCARD.COUNT) (h107 : σ.fld pBOOK F.BOOK.SHADOW.DROP) (h108 : σ.fld pBOOK (Fld.mk 12 12 1)) (h109 : ∀ n, σ.page (pEDGE n)) (h110 : σ.fld pBOOK F.BOOK.DISCARD_SYS.COUNT) (h111 : σ.fld pBOOK (Fld.mk 12 8 1)) (h112 : σ.fld (pCAN n) F.CAN.STS.REF_PEND) :
    Kept σ ρ (State.canOff s n) := by
  unfold State.canOff
  exact set_kept (canIdle_kept (hk0) h101 h102 h103 h104 h105 h106 h107 h108 h109 h110 h111) h112

theorem canClr_kept {σ : Scope} {ρ : State} {s : State} {n : ℕ} (hk0 : Kept σ ρ s) (h101 : σ.part .cans = true) :
    Kept σ ρ (State.canClr s n) := by
  unfold State.canClr
  exact setCan_kept (hk0) h101

theorem setCyc_kept {σ : Scope} {ρ : State} {s : State} {n : ℕ} {c : CanCycle} (hk0 : Kept σ ρ s) (h101 : σ.part .cans = true) :
    Kept σ ρ (State.setCyc s n c) := by
  unfold State.setCyc
  exact setCan_kept (hk0) h101

theorem setReq_kept {σ : Scope} {ρ : State} {s : State} {n : ℕ} {m : ℕ} (hk0 : Kept σ ρ s) (h101 : σ.fld (pCAN n) F.CAN.TXREQ.REQ) (h102 : σ.fld (pCAN n) F.CAN.STS.PENDING) :
    Kept σ ρ (State.setReq s n m) := by
  unfold State.setReq
  exact set_kept (set_kept (hk0) h101) h102

theorem canOutcome_kept {σ : Scope} {ρ : State} {s : State} {n : ℕ} {b : ℕ} {o : ℕ} (hk0 : Kept σ ρ s) (h101 : σ.fld (pCAN n) F.CAN.TXREQ.REQ) (h102 : σ.fld (pCAN n) F.CAN.STS.PENDING) (h103 : σ.fld (pCAN n) (F.CAN.TXSTS.OUTCOME.up (8 * b))) (h104 : σ.fld (pCAN n) (Fld.mk 12 (if o = 1 then 10 else 11) 1)) :
    Kept σ ρ (State.canOutcome s n b o) := by
  unfold State.canOutcome
  exact event_kept (set_kept (setReq_kept (hk0) h101 h102) h103) h104

theorem canRequest_kept {σ : Scope} {ρ : State} {s0 : State} {n : ℕ} {b : ℕ} (hk0 : Kept σ ρ s0) (h101 : σ.part .cans = true) (h102 : σ.fld (pCAN n) F.CAN.TXREQ.REQ) (h103 : σ.fld (pCAN n) F.CAN.STS.PENDING) (h104 : σ.fld (pCAN n) (F.CAN.TXSTS.ATTEMPTS.up (8 * b))) (h105 : σ.fld (pCAN n) (F.CAN.TXSTS.OUTCOME.up (8 * b))) (h106 : σ.fld (pCAN n) (Fld.mk 12 (if 5 = 1 then 10 else 11) 1)) (h107 : σ.fld (pCAN n) (Fld.mk 12 (if 3 = 1 then 10 else 11) 1)) (h108 : σ.fld (pCAN n) (Fld.mk 12 (if 4 = 1 then 10 else 11) 1)) :
    Kept σ ρ (State.canRequest s0 n b) := by
  unfold State.canRequest
  exact Kept.cut (fun k1 => Kept.ite (k1) (Kept.cut (fun k7 => Kept.ite (canOutcome_kept (k7) h102 h103 h105 h106) (Kept.ite (canOutcome_kept (k7) h102 h103 h105 h107) (Kept.ite (canOutcome_kept (k7) h102 h103 h105 h108) (k7)))) (set_kept (set_kept (setReq_kept (setCyc_kept (k1) h101) h102 h103) h104) h105))) (setCyc_kept (hk0) h101)

theorem canReqWrite_kept {σ : Scope} {ρ : State} {s : State} {n : ℕ} {map : ℕ} (hk0 : Kept σ ρ s) (h101 : σ.part .cans = true) (h102 : σ.page (pCAN n)) :
    Kept σ ρ (State.canReqWrite s n map) := by
  unfold State.canReqWrite
  exact Kept.foldl (fun x0 a1 k2 => Kept.ite (canRequest_kept (k2) h101 h102.fld h102.fld h102.fld h102.fld h102.fld h102.fld h102.fld) (k2)) _ _ (hk0)

theorem canAbort_kept {σ : Scope} {ρ : State} {s0 : State} {n : ℕ} {b : ℕ} (hk0 : Kept σ ρ s0) (h101 : σ.part .cans = true) (h102 : σ.fld (pCAN n) F.CAN.TXREQ.REQ) (h103 : σ.fld (pCAN n) F.CAN.STS.PENDING) (h104 : σ.fld (pCAN n) (F.CAN.TXSTS.OUTCOME.up (8 * b))) (h105 : σ.fld (pCAN n) (Fld.mk 12 (if 3 = 1 then 10 else 11) 1)) :
    Kept σ ρ (State.canAbort s0 n b) := by
  unfold State.canAbort
  exact Kept.cut (fun k1 => Kept.ite (k1) ((by (try dsimp only); split; exacts [Kept.ite (setCan_kept (k1) h101) (canOutcome_kept (k1) h102 h103 h104 h105), canOutcome_kept (k1) h102 h103 h104 h105]))) (setCyc_kept (hk0) h101)

theorem canAbortWrite_kept {σ : Scope} {ρ : State} {s : State} {n : ℕ} {map : ℕ} (hk0 : Kept σ ρ s) (h101 : σ.part .cans = true) (h102 : σ.page (pCAN n)) :
    Kept σ ρ (State.canAbortWrite s n map) := by
  unfold State.canAbortWrite
  exact Kept.foldl (fun x0 a1 k2 => Kept.ite (canAbort_kept (k2) h101 h102.fld h102.fld h102.fld h102.fld) (k2)) _ _ (hk0)

theorem putData_kept {σ : Scope} {ρ s : State} {p off k : Nat} {d : List Byte} (h : Kept σ ρ s)
    (ha : σ.page p) : Kept σ ρ (s.putData p off k d) := by
  induction k generalizing s off d with
  | zero => exact h
  | succ n ih => exact ih (wr_kept h (ha _))

theorem rxStsPut_kept {σ : Scope} {ρ : State} {s : State} {n : ℕ} (hk0 : Kept σ ρ s) (h101 : σ.fld (pCAN n) F.CAN.RXSTS.COUNT) (h102 : σ.fld (pCAN n) F.CAN.RXSTS.VALID) (h103 : σ.fld (pCAN n) F.CAN.RXSTS.OLDEST) :
    Kept σ ρ (State.rxStsPut s n) := by
  unfold State.rxStsPut
  exact Kept.cut (fun k1 => (by (try dsimp only); split; exacts [nextFree_kept (set_kept (k1) h103), set_kept (k1) h103])) (set_kept (set_kept (hk0) h101) h102)

theorem rxQueue_kept {σ : Scope} {ρ : State} {s : State} {n : ℕ} {f : ℕ} {r : CanRx} (hk0 : Kept σ ρ s) (h101 : σ.part .cans = true) (h102 : σ.page (pCAN n)) :
    Kept σ ρ (State.rxQueue s n f r) := by
  unfold State.rxQueue
  exact (by (try dsimp only); split; exacts [event_kept (bump_kept (setCyc_kept (hk0) h101) h102.fld) h102.fld, event_kept (rxStsPut_kept (set_kept (setCan_kept (nextFree_kept (putData_kept (set_kept (set_kept (set_kept (hk0) h102.fld) h102.fld) h102.fld) h102)) h101) h102.fld) h102.fld h102.fld h102.fld) h102.fld])

theorem dropTake_kept {σ : Scope} {ρ : State} {s : State} {n : ℕ} (hk0 : Kept σ ρ s) (h101 : σ.part .cans = true) (h102 : σ.page (pCAN n)) :
    Kept σ ρ (State.dropTake s n) := by
  unfold State.dropTake
  exact (by (try dsimp only); split; exacts [hk0, Kept.cut (fun k1 => rxQueue_kept (Kept.ite (k1) (set_kept (k1) h102.fld)) h101 h102) (set_kept (setCyc_kept (hk0) h101) h102.fld)])

theorem rxReturn_kept {σ : Scope} {ρ : State} {s : State} {n : ℕ} {e : ℕ} (hk0 : Kept σ ρ s) (h101 : σ.fld (pCAN n) F.CAN.RXOWN.MAP) (h102 : σ.fld (pCAN n) F.CAN.RXSTS.COUNT) (h103 : σ.fld (pCAN n) F.CAN.RXSTS.VALID) (h104 : σ.fld (pCAN n) F.CAN.RXSTS.OLDEST) :
    Kept σ ρ (State.rxReturn s n e) := by
  unfold State.rxReturn
  exact rxStsPut_kept (set_kept (hk0) h101) h102 h103 h104

theorem canAck_kept {σ : Scope} {ρ : State} {s : State} {n : ℕ} {e : ℕ} (hk0 : Kept σ ρ s) (h101 : σ.part .cans = true) (h102 : σ.page (pCAN n)) :
    Kept σ ρ (State.canAck s n e) := by
  unfold State.canAck
  exact Kept.ite (dropTake_kept (rxReturn_kept (setCan_kept (hk0) h101) h102.fld h102.fld h102.fld h102.fld) h101 h102) (bump_kept (hk0) h102.fld)

theorem canWrote_kept {σ : Scope} {ρ : State} {s : State} {n : ℕ} {off : ℕ} {old : Word} (hk0 : Kept σ ρ s) (h101 : σ.part .cans = true) :
    Kept σ ρ (State.canWrote s n off old) := by
  unfold State.canWrote
  exact setCyc_kept (hk0) h101

theorem canUnwrite_kept {σ : Scope} {ρ : State} {s : State} {n : ℕ} {b : ℕ} (hk0 : Kept σ ρ s) (h101 : σ.part .cans = true) (h102 : σ.page (pCAN n)) :
    Kept σ ρ (State.canUnwrite s n b) := by
  unfold State.canUnwrite
  exact Kept.ite (hk0) (bumpBy_kept (setCyc_kept (Kept.foldl (fun x5 a6 k7 => wr_kept (k7) (h102 _)) _ _ (hk0)) h101) h102.fld)

theorem canStake_kept {σ : Scope} {ρ : State} {s0 : State} {n : ℕ} {b : ℕ} {load : Bool} {v : ℕ} (hk0 : Kept σ ρ s0) (h101 : σ.part .cans = true) (h102 : σ.page (pCAN n)) :
    Kept σ ρ (State.canStake s0 n b load v) := by
  unfold State.canStake
  exact Kept.cut (fun k1 => canReqWrite_kept (Kept.ite (putData_kept (k1) h102) (k1)) h101 h102) (canUnwrite_kept (hk0) h101 h102)

theorem attMark_kept {σ : Scope} {ρ : State} {s : State} {a : CanAtt} (hk0 : Kept σ ρ s) (h101 : σ.fld pDATUM F.DATUM.FOLDOVR.COUNT) (h102 : σ.fld pDATUM (Fld.mk 12 14 1)) :
    Kept σ ρ (State.attMark s a) := by
  unfold State.attMark
  exact foldMark_kept (hk0) h101 h102

theorem canDropAll_kept {σ : Scope} {ρ : State} {s : State} {n : ℕ} (hk0 : Kept σ ρ s) (h101 : σ.page (pCAN n)) :
    Kept σ ρ (State.canDropAll s n) := by
  unfold State.canDropAll
  exact Kept.foldl (fun x0 a1 k2 => Kept.ite (canOutcome_kept (k2) h101.fld h101.fld h101.fld h101.fld) (k2)) _ _ (hk0)

theorem canBusOff_kept {σ : Scope} {ρ : State} {s : State} {n : ℕ} {b : ℕ} (hk0 : Kept σ ρ s) (h101 : σ.part .cans = true) (h102 : σ.part .book = true) (h103 : σ.page (pCAN n)) (h104 : σ.fld pBOOK F.BOOK.DISCARD.COUNT) (h105 : σ.fld pBOOK F.BOOK.SHADOW.DROP) (h106 : σ.fld pBOOK (Fld.mk 12 12 1)) (h107 : ∀ n, σ.page (pEDGE n)) (h108 : σ.fld pBOOK F.BOOK.DISCARD_SYS.COUNT) (h109 : σ.fld pBOOK (Fld.mk 12 8 1)) :
    Kept σ ρ (State.canBusOff s n b) := by
  unfold State.canBusOff
  exact Kept.cut (fun k1 => canReqWrite_kept (note_kept (setCan_kept (Kept.ite (canDropAll_kept (k1) h103) (k1)) h101) h102 h104 h105 h106 (h107 _).fld (h107 _).fld h108 h109) h101 h103) (event_kept (bump_kept (set_kept (set_kept (hk0) h103.fld) h103.fld) h103.fld) h103.fld)

theorem canLevel_kept {σ : Scope} {ρ : State} {s : State} {n : ℕ} (hk0 : Kept σ ρ s) (h101 : σ.fld (pCAN n) F.CAN.STS.STATE) (h102 : σ.fld (pCAN n) (Fld.mk 12 12 1)) :
    Kept σ ρ (State.canLevel s n) := by
  unfold State.canLevel
  exact Kept.ite (Kept.ite (event_kept (set_kept (hk0) h101) h102) (hk0)) (Kept.ite (set_kept (hk0) h101) (hk0))

theorem canErrors_kept {σ : Scope} {ρ : State} {s : State} {n : ℕ} {b : ℕ} {t : ℕ} {r : ℕ} (hk0 : Kept σ ρ s) (h101 : σ.part .cans = true) (h102 : σ.part .book = true) (h103 : σ.page (pCAN n)) (h104 : σ.fld pBOOK F.BOOK.DISCARD.COUNT) (h105 : σ.fld pBOOK F.BOOK.SHADOW.DROP) (h106 : σ.fld pBOOK (Fld.mk 12 12 1)) (h107 : ∀ n, σ.page (pEDGE n)) (h108 : σ.fld pBOOK F.BOOK.DISCARD_SYS.COUNT) (h109 : σ.fld pBOOK (Fld.mk 12 8 1)) :
    Kept σ ρ (State.canErrors s n b t r) := by
  unfold State.canErrors
  exact Kept.ite (hk0) (Kept.cut (fun k1 => Kept.ite (canBusOff_kept (k1) h101 h102 h103 h104 h105 h106 h107 h108 h109) (canLevel_kept (k1) h103.fld h103.fld)) (bumpSat_kept (bumpSat_kept (hk0) h103.fld) h103.fld))

theorem canFailed_kept {σ : Scope} {ρ : State} {s : State} {n : ℕ} {a : CanAtt} (hk0 : Kept σ ρ s) (h101 : σ.fld (pCAN n) (F.CAN.TXSTS.ATTEMPTS.up (8 * a.buf))) (h102 : σ.fld (pCAN n) F.CAN.TXREQ.REQ) (h103 : σ.fld (pCAN n) F.CAN.STS.PENDING) (h104 : σ.fld (pCAN n) (F.CAN.TXSTS.OUTCOME.up (8 * a.buf))) (h105 : σ.fld (pCAN n) (Fld.mk 12 (if 3 = 1 then 10 else 11) 1)) (h106 : σ.fld (pCAN n) (Fld.mk 12 (if 2 = 1 then 10 else 11) 1)) :
    Kept σ ρ (State.canFailed s n a) := by
  unfold State.canFailed
  exact Kept.ite (hk0) (Kept.cut (fun k1 => Kept.ite (canOutcome_kept (k1) h102 h103 h104 h105) (Kept.ite (k1) (canOutcome_kept (k1) h102 h103 h104 h106))) (bumpSat_kept (hk0) h101))

theorem canTdcErr_kept {σ : Scope} {ρ : State} {s : State} {n : ℕ} {a : CanAtt} (hk0 : Kept σ ρ s) (h101 : σ.part .cans = true) (h102 : σ.part .pins = true) (h103 : σ.part .edges = true) (h104 : σ.part .book = true) (h105 : σ.fld pBOOK F.BOOK.DISCARD.COUNT) (h106 : σ.fld pBOOK F.BOOK.SHADOW.DROP) (h107 : σ.fld pBOOK (Fld.mk 12 12 1)) (h108 : ∀ n, σ.page (pEDGE n)) (h109 : σ.fld pBOOK F.BOOK.DISCARD_SYS.COUNT) (h110 : σ.fld pBOOK (Fld.mk 12 8 1)) (h111 : σ.page (pCAN n)) :
    Kept σ ρ (State.canTdcErr s n a) := by
  unfold State.canTdcErr
  exact canErrors_kept (canFailed_kept (bump_kept (nextFree_kept (set_kept (canIdle_kept (hk0) h101 h102 h103 h104 h111.fld h105 h106 h107 h108 h109 h110) h111.fld)) h111.fld) h111.fld h111.fld h111.fld h111.fld h111.fld h111.fld) h101 h104 h111 h105 h106 h107 h108 h109 h110

theorem canTdc_kept {σ : Scope} {ρ : State} {s : State} {n : ℕ} {a : CanAtt} {d : ℕ} (hk0 : Kept σ ρ s) (h101 : σ.fld (pCAN n) F.CAN.TDCV.DELAY) :
    Kept σ ρ (State.canTdc s n a d) := by
  unfold State.canTdc
  exact Kept.ite (set_kept (hk0) h101) (hk0)

theorem canDone_kept {σ : Scope} {ρ : State} {s : State} {n : ℕ} {tdcv : ℕ} (hk0 : Kept σ ρ s) (h101 : σ.part .cans = true) (h102 : σ.part .pins = true) (h103 : σ.part .edges = true) (h104 : σ.part .book = true) (h105 : σ.fld pBOOK F.BOOK.DISCARD.COUNT) (h106 : σ.fld pBOOK F.BOOK.SHADOW.DROP) (h107 : σ.fld pBOOK (Fld.mk 12 12 1)) (h108 : ∀ n, σ.page (pEDGE n)) (h109 : σ.fld pBOOK F.BOOK.DISCARD_SYS.COUNT) (h110 : σ.fld pBOOK (Fld.mk 12 8 1)) (h111 : σ.page (pCAN n)) (h112 : σ.fld pDATUM F.DATUM.FOLDOVR.COUNT) (h113 : σ.fld pDATUM (Fld.mk 12 14 1)) :
    Kept σ ρ (State.canDone s n tdcv) := by
  unfold State.canDone
  exact (by (try dsimp only); split; exacts [hk0, Kept.ite (hk0) (Kept.ite (canTdcErr_kept (canTdc_kept (hk0) h111.fld) h101 h102 h103 h104 h105 h106 h107 h108 h109 h110 h111) (Kept.cut (fun k13 => Kept.ite (set_kept (event_kept (bump_kept (k13) h111.fld) h111.fld) h111.fld) (set_kept (canOutcome_kept (k13) h111.fld h111.fld h111.fld h111.fld) h111.fld)) (canLevel_kept (setCan_kept (set_kept (bump_kept (canIdle_kept (attMark_kept (canTdc_kept (hk0) h111.fld) h112 h113) h101 h102 h103 h104 h111.fld h105 h106 h107 h108 h109 h110) h111.fld) h111.fld) h101) h111.fld h111.fld)))])

theorem canLost_kept {σ : Scope} {ρ : State} {s : State} {n : ℕ} (hk0 : Kept σ ρ s) (h101 : σ.part .cans = true) (h102 : σ.part .pins = true) (h103 : σ.part .edges = true) (h104 : σ.part .book = true) (h105 : σ.fld pBOOK F.BOOK.DISCARD.COUNT) (h106 : σ.fld pBOOK F.BOOK.SHADOW.DROP) (h107 : σ.fld pBOOK (Fld.mk 12 12 1)) (h108 : ∀ n, σ.page (pEDGE n)) (h109 : σ.fld pBOOK F.BOOK.DISCARD_SYS.COUNT) (h110 : σ.fld pBOOK (Fld.mk 12 8 1)) (h111 : σ.page (pCAN n)) :
    Kept σ ρ (State.canLost s n) := by
  unfold State.canLost
  exact (by split; exacts [hk0, Kept.ite (canFailed_kept (bump_kept (canIdle_kept (hk0) h101 h102 h103 h104 h111.fld h105 h106 h107 h108 h109 h110) h111.fld) h111.fld h111.fld h111.fld h111.fld h111.fld h111.fld) (hk0)])

theorem canRecover_kept {σ : Scope} {ρ : State} {s : State} {n : ℕ} (hk0 : Kept σ ρ s) (h101 : σ.part .book = true) (h102 : σ.fld (pCAN n) F.CAN.STS.STATE) (h103 : σ.fld (pCAN n) F.CAN.ERRCNT.TEC) (h104 : σ.fld (pCAN n) F.CAN.ERRCNT.REC) (h105 : σ.fld (pCAN n) F.CAN.RECOV.COUNT) (h106 : σ.fld pBOOK F.BOOK.DISCARD.COUNT) (h107 : σ.fld pBOOK F.BOOK.SHADOW.DROP) (h108 : σ.fld pBOOK (Fld.mk 12 12 1)) (h109 : ∀ n, σ.page (pEDGE n)) (h110 : σ.fld pBOOK F.BOOK.DISCARD_SYS.COUNT) (h111 : σ.fld pBOOK (Fld.mk 12 8 1)) (h112 : σ.fld (pCAN n) (Fld.mk 12 14 1)) :
    Kept σ ρ (State.canRecover s n) := by
  unfold State.canRecover
  exact Kept.ite (event_kept (note_kept (set_kept (set_kept (set_kept (set_kept (hk0) h102) h103) h104) h105) h101 h106 h107 h108 (h109 _).fld (h109 _).fld h110 h111) h112) (hk0)

theorem canRxErr_kept {σ : Scope} {ρ : State} {s : State} {n : ℕ} {err : ℕ} {tecEights : ℕ} {recEights : ℕ} (hk0 : Kept σ ρ s) (h101 : σ.part .cans = true) (h102 : σ.part .book = true) (h103 : σ.page (pCAN n)) (h104 : σ.fld pBOOK F.BOOK.DISCARD.COUNT) (h105 : σ.fld pBOOK F.BOOK.SHADOW.DROP) (h106 : σ.fld pBOOK (Fld.mk 12 12 1)) (h107 : ∀ n, σ.page (pEDGE n)) (h108 : σ.fld pBOOK F.BOOK.DISCARD_SYS.COUNT) (h109 : σ.fld pBOOK (Fld.mk 12 8 1)) :
    Kept σ ρ (State.canRxErr s n err tecEights recEights) := by
  unfold State.canRxErr
  exact Kept.ite (canErrors_kept (bump_kept (set_kept (hk0) h103.fld) h103.fld) h101 h102 h103 h104 h105 h106 h107 h108 h109) (hk0)

theorem refRx_kept {σ : Scope} {ρ : State} {s : State} {n : ℕ} {r : CanRx} (hk0 : Kept σ ρ s) (h101 : σ.fld (pCAN n) F.CAN.REFRX_STAMP.T) (h102 : σ.fld (pCAN n) F.CAN.REFRX_T.T) (h103 : σ.fld (pCAN n) F.CAN.REFRX_STS.CC) (h104 : σ.fld (pCAN n) F.CAN.REFRX_STS.VALID) (h105 : σ.fld (pCAN n) (Fld.mk 12 17 1)) (h106 : σ.fld (pCAN n) F.CAN.REFCONFLICT.COUNT) (h107 : σ.fld (pCAN n) (Fld.mk 12 18 1)) :
    Kept σ ρ (State.refRx s n r) := by
  unfold State.refRx
  exact Kept.cut (fun k1 => Kept.ite (event_kept (bump_kept (k1) h106) h107) (k1)) (Kept.ite (event_kept (set_kept (set_kept (set_kept (set_kept (hk0) h101) h102) h103) h104) h105) (hk0))

theorem recDown_kept {σ : Scope} {ρ : State} {s : State} {n : ℕ} (hk0 : Kept σ ρ s) (h101 : σ.fld (pCAN n) F.CAN.ERRCNT.REC) (h102 : σ.fld (pCAN n) F.CAN.STS.STATE) (h103 : σ.fld (pCAN n) (Fld.mk 12 12 1)) :
    Kept σ ρ (State.recDown s n) := by
  unfold State.recDown
  exact Kept.ite (canLevel_kept (nextFree_kept (set_kept (hk0) h101)) h102 h103) (canLevel_kept (set_kept (hk0) h101) h102 h103)

theorem setFeed_kept {σ : Scope} {ρ : State} {s : State} {n : ℕ} {f : ℕ} {v : CanFeed} (hk0 : Kept σ ρ s) (h101 : σ.part .cans = true) :
    Kept σ ρ (State.setFeed s n f v) := by
  unfold State.setFeed
  exact setCan_kept (hk0) h101

theorem feedLoad_kept {σ : Scope} {ρ : State} {s : State} {n : ℕ} {f : ℕ} {r : CanRx} (hk0 : Kept σ ρ s) (h101 : σ.part .cans = true) :
    Kept σ ρ (State.feedLoad s n f r) := by
  unfold State.feedLoad
  exact setFeed_kept (hk0) h101

theorem canRxFrame_kept {σ : Scope} {ρ : State} {s : State} {n : ℕ} {r : CanRx} (hk0 : Kept σ ρ s) (h101 : σ.part .cans = true) (h102 : σ.part .book = true) (h103 : σ.page (pCAN n)) (h104 : σ.fld pBOOK F.BOOK.DISCARD.COUNT) (h105 : σ.fld pBOOK F.BOOK.SHADOW.DROP) (h106 : σ.fld pBOOK (Fld.mk 12 12 1)) (h107 : ∀ n, σ.page (pEDGE n)) (h108 : σ.fld pBOOK F.BOOK.DISCARD_SYS.COUNT) (h109 : σ.fld pBOOK (Fld.mk 12 8 1)) :
    Kept σ ρ (State.canRxFrame s n r) := by
  unfold State.canRxFrame
  exact Kept.ite (hk0) (Kept.ite (canRxErr_kept (hk0) h101 h102 h103 h104 h105 h106 h107 h108 h109) (Kept.cut (fun k1 => Kept.ite (bump_kept (k1) h103.fld) ((by (try dsimp only); split; exacts [Kept.foldl (fun x7 a8 k9 => feedLoad_kept (k9) h101) _ _ (k1), rxQueue_kept (Kept.foldl (fun x10 a11 k12 => feedLoad_kept (k12) h101) _ _ (k1)) h101 h103]))) (refRx_kept (recDown_kept (bump_kept (hk0) h103.fld) h103.fld h103.fld h103.fld) h103.fld h103.fld h103.fld h103.fld h103.fld h103.fld h103.fld)))

theorem canStart_kept {σ : Scope} {ρ : State} {s : State} {n : ℕ} {loop : ℕ} (hk0 : Kept σ ρ s) (h101 : σ.part .cans = true) (h102 : σ.part .pins = true) (h103 : σ.part .edges = true) (h104 : σ.part .book = true) (h105 : σ.fld (pCAN n) F.CAN.STS.ACTIVE_BUF) (h106 : σ.fld pBOOK F.BOOK.DISCARD.COUNT) (h107 : σ.fld pBOOK F.BOOK.SHADOW.DROP) (h108 : σ.fld pBOOK (Fld.mk 12 12 1)) (h109 : ∀ n, σ.page (pEDGE n)) (h110 : σ.fld pBOOK F.BOOK.DISCARD_SYS.COUNT) (h111 : σ.fld pBOOK (Fld.mk 12 8 1)) :
    Kept σ ρ (State.canStart s n loop) := by
  unfold State.canStart
  exact Kept.ite ((by (try dsimp only); split; exacts [hk0, canPin_kept (set_kept (setCan_kept (hk0) h101) h105) h102 h103 h104 h106 h107 h108 h109 h110 h111])) (hk0)

theorem canSynced_kept {σ : Scope} {ρ : State} {s : State} {n : ℕ} (hk0 : Kept σ ρ s) (h101 : σ.fld (pCAN n) F.CAN.STS.STATE) (h102 : σ.fld (pCAN n) F.CAN.ERRCNT.TEC) (h103 : σ.fld (pCAN n) F.CAN.ERRCNT.REC) :
    Kept σ ρ (State.canSynced s n) := by
  unfold State.canSynced
  exact Kept.ite (set_kept (set_kept (set_kept (hk0) h101) h102) h103) (hk0)

theorem collideRec_kept {σ : Scope} {ρ : State} {s : State} {n : ℕ} {a : CanAtt} {dataPhase : Bool} {pos : ℕ} (hk0 : Kept σ ρ s) (h101 : σ.part .book = true) (h102 : σ.fld pDATUM F.DATUM.FOLDOVR.COUNT) (h103 : σ.fld pDATUM (Fld.mk 12 14 1)) (h104 : σ.fld pBOOK F.BOOK.DISCARD.COUNT) (h105 : σ.fld pBOOK F.BOOK.SHADOW.DROP) (h106 : σ.fld pBOOK (Fld.mk 12 12 1)) (h107 : σ.fld (pEDGE
  ((Rec.mk (s.attStamp a) 34 (a.buf + 4 * bit dataPhase) n
        (leBytes 4 (s.attId n a) ++ leBytes 2 pos ++
          if a.buf = 3 then leBytes 2 (s.freeVal 16)
          else
            leBytes 1 (s.get (pCAN n) (F.CAN.TXSTS.ATTEMPTS.up (8 * a.buf))) ++
              leBytes 1 (s.get (pCAN n) (txb F.CAN.TXB_CTRL.RETRY a.buf)))).source /
    64)) F.EDGE.DROPS.COUNT) (h108 : σ.fld (pEDGE
  ((Rec.mk (s.attStamp a) 34 (a.buf + 4 * bit dataPhase) n
        (leBytes 4 (s.attId n a) ++ leBytes 2 pos ++
          if a.buf = 3 then leBytes 2 (s.freeVal 16)
          else
            leBytes 1 (s.get (pCAN n) (F.CAN.TXSTS.ATTEMPTS.up (8 * a.buf))) ++
              leBytes 1 (s.get (pCAN n) (txb F.CAN.TXB_CTRL.RETRY a.buf)))).source /
    64)) (Fld.mk 12 11 1)) (h109 : σ.fld pBOOK F.BOOK.DISCARD_SYS.COUNT) (h110 : σ.fld pBOOK (Fld.mk 12 8 1)) :
    Kept σ ρ (State.collideRec s n a dataPhase pos) := by
  unfold State.collideRec
  exact stage_kept (attMark_kept (Kept.ite (nextFree_kept (hk0)) (hk0)) h102 h103) h101 h104 h105 h106 h107 h108 h109 h110

theorem canTxErr_kept {σ : Scope} {ρ : State} {s : State} {n : ℕ} {err : ℕ} {afterArb : Bool} {dataPhase : Bool} {dominant : Bool} {pos : ℕ} {eights : ℕ} {tdcv : Option ℕ} (hk0 : Kept σ ρ s) (h101 : σ.part .cans = true) (h102 : σ.part .pins = true) (h103 : σ.part .edges = true) (h104 : σ.part .book = true) (h105 : σ.fld pBOOK F.BOOK.DISCARD.COUNT) (h106 : σ.fld pBOOK F.BOOK.SHADOW.DROP) (h107 : σ.fld pBOOK (Fld.mk 12 12 1)) (h108 : ∀ n, σ.page (pEDGE n)) (h109 : σ.fld pBOOK F.BOOK.DISCARD_SYS.COUNT) (h110 : σ.fld pBOOK (Fld.mk 12 8 1)) (h111 : σ.page (pCAN n)) (h112 : σ.fld pDATUM F.DATUM.FOLDOVR.COUNT) (h113 : σ.fld pDATUM (Fld.mk 12 14 1)) :
    Kept σ ρ (State.canTxErr s n err afterArb dataPhase dominant pos eights tdcv) := by
  unfold State.canTxErr
  exact (by (try dsimp only); split; exacts [hk0, Kept.ite (hk0) (Kept.cut (fun k19 => canErrors_kept (Kept.ite (event_kept (collideRec_kept (bump_kept (k19) h111.fld) h104 h112 h113 h105 h106 h107 (h108 _).fld (h108 _).fld h109 h110) h111.fld) (k19)) h101 h104 h111 h105 h106 h107 h108 h109 h110) (canFailed_kept (bump_kept (set_kept (canIdle_kept ((by split; exacts [canTdc_kept (hk0) h111.fld, hk0])) h101 h102 h103 h104 h111.fld h105 h106 h107 h108 h109 h110) h111.fld) h111.fld) h111.fld h111.fld h111.fld h111.fld h111.fld h111.fld))])

theorem refDue_kept {σ : Scope} {ρ : State} {s : State} {n : ℕ} (hk0 : Kept σ ρ s) (h101 : σ.part .cans = true) (h102 : σ.fld (pCAN n) F.CAN.REFMISS.COUNT) (h103 : σ.fld (pCAN n) (Fld.mk 12 18 1)) (h104 : σ.fld (pCAN n) F.CAN.STS.REF_PEND) :
    Kept σ ρ (State.refDue s n) := by
  unfold State.refDue
  exact Kept.ite (Kept.cut (fun k13 => Kept.ite (refMiss_kept (set_kept (k13) h104) h102 h103) (set_kept (k13) h104)) (refMiss_kept (setCan_kept (advanceT_kept (hk0)) h101) h102 h103)) (hk0)

theorem execCanArbLost_kept {σ : Scope} {clk : ℕ} {can : ℕ} {s : State} (h101 : σ.part .cans = true) (h102 : σ.part .pins = true) (h103 : σ.part .edges = true) (h104 : σ.part .book = true) (h105 : σ.fld pBOOK F.BOOK.DISCARD.COUNT) (h106 : σ.fld pBOOK F.BOOK.SHADOW.DROP) (h107 : σ.fld pBOOK (Fld.mk 12 12 1)) (h108 : ∀ n, σ.page (pEDGE n)) (h109 : σ.fld pBOOK F.BOOK.DISCARD_SYS.COUNT) (h110 : σ.fld pBOOK (Fld.mk 12 8 1)) (h111 : σ.page (pCAN can)) :
    KeptNext σ s (execCanArbLost clk can s) := by
  unfold execCanArbLost
  exact KeptNext.next (canLost_kept (advance_kept (Kept.refl σ s)) h101 h102 h103 h104 h105 h106 h107 h108 h109 h110 h111)

theorem execCanReceiveError_kept {σ : Scope} {clk : ℕ} {can : ℕ} {err : ℕ} {tecEights : ℕ} {recEights : ℕ} {s : State} (h101 : σ.part .cans = true) (h102 : σ.part .book = true) (h103 : σ.page (pCAN can)) (h104 : σ.fld pBOOK F.BOOK.DISCARD.COUNT) (h105 : σ.fld pBOOK F.BOOK.SHADOW.DROP) (h106 : σ.fld pBOOK (Fld.mk 12 12 1)) (h107 : ∀ n, σ.page (pEDGE n)) (h108 : σ.fld pBOOK F.BOOK.DISCARD_SYS.COUNT) (h109 : σ.fld pBOOK (Fld.mk 12 8 1)) :
    KeptNext σ s (execCanReceiveError clk can err tecEights recEights s) := by
  unfold execCanReceiveError
  exact KeptNext.next (canRxErr_kept (advance_kept (Kept.refl σ s)) h101 h102 h103 h104 h105 h106 h107 h108 h109)

theorem execCanRecover_kept {σ : Scope} {clk : ℕ} {can : ℕ} {s : State} (h101 : σ.part .book = true) (h102 : σ.fld (pCAN can) F.CAN.STS.STATE) (h103 : σ.fld (pCAN can) F.CAN.ERRCNT.TEC) (h104 : σ.fld (pCAN can) F.CAN.ERRCNT.REC) (h105 : σ.fld (pCAN can) F.CAN.RECOV.COUNT) (h106 : σ.fld pBOOK F.BOOK.DISCARD.COUNT) (h107 : σ.fld pBOOK F.BOOK.SHADOW.DROP) (h108 : σ.fld pBOOK (Fld.mk 12 12 1)) (h109 : ∀ n, σ.page (pEDGE n)) (h110 : σ.fld pBOOK F.BOOK.DISCARD_SYS.COUNT) (h111 : σ.fld pBOOK (Fld.mk 12 8 1)) (h112 : σ.fld (pCAN can) (Fld.mk 12 14 1)) :
    KeptNext σ s (execCanRecover clk can s) := by
  unfold execCanRecover
  exact KeptNext.next (canRecover_kept (advance_kept (Kept.refl σ s)) h101 h102 h103 h104 h105 h106 h107 h108 h109 h110 h111 h112)

theorem execCanRefDue_kept {σ : Scope} {can : ℕ} {s : State} (h101 : σ.part .cans = true) (h102 : σ.fld (pCAN can) F.CAN.REFMISS.COUNT) (h103 : σ.fld (pCAN can) (Fld.mk 12 18 1)) (h104 : σ.fld (pCAN can) F.CAN.STS.REF_PEND) :
    KeptNext σ s (execCanRefDue can s) := by
  unfold execCanRefDue
  exact KeptNext.next (refDue_kept (Kept.refl σ s) h101 h102 h103 h104)

theorem execCanRxFrame_kept {σ : Scope} {clk : ℕ} {can : ℕ} {edge : ℕ} {id : ℕ} {dlc : ℕ} {brs : Bool} {esi : Bool} {data : List Byte} {s : State} (h101 : σ.part .cans = true) (h102 : σ.part .book = true) (h103 : σ.fld pDATUM F.DATUM.FOLDOVR.COUNT) (h104 : σ.fld pDATUM (Fld.mk 12 14 1)) (h105 : σ.page (pCAN can)) (h106 : σ.fld pBOOK F.BOOK.DISCARD.COUNT) (h107 : σ.fld pBOOK F.BOOK.SHADOW.DROP) (h108 : σ.fld pBOOK (Fld.mk 12 12 1)) (h109 : ∀ n, σ.page (pEDGE n)) (h110 : σ.fld pBOOK F.BOOK.DISCARD_SYS.COUNT) (h111 : σ.fld pBOOK (Fld.mk 12 8 1)) :
    KeptNext σ s (execCanRxFrame clk can edge id dlc brs esi data s) := by
  unfold execCanRxFrame
  exact KeptNext.next (canRxFrame_kept (foldMark_kept (advance_kept (Kept.refl σ s)) h103 h104) h101 h102 h105 h106 h107 h108 h109 h110 h111)

theorem execCanRxack_kept {σ : Scope} {clk : ℕ} {can : ℕ} {index : ℕ} {s : State} (h101 : σ.part .cans = true) (h102 : σ.part .page = true) (h103 : σ.page (pCAN (can % 16))) (h104 : σ.fld pSYS (Fld.mk 12 11 1)) :
    KeptNext σ s (execCanRxack clk can index s) := by
  unfold execCanRxack
  exact KeptNext.next (fldWrite_kept (advance_kept (Kept.refl σ s)) (fun x0 k1 => canAck_kept (k1) h101 h103) h102 h104 h103.fld h103.fld h103.fld h103.fld)

theorem execCanSynced_kept {σ : Scope} {clk : ℕ} {can : ℕ} {s : State} (h101 : σ.fld (pCAN can) F.CAN.STS.STATE) (h102 : σ.fld (pCAN can) F.CAN.ERRCNT.TEC) (h103 : σ.fld (pCAN can) F.CAN.ERRCNT.REC) :
    KeptNext σ s (execCanSynced clk can s) := by
  unfold execCanSynced
  exact KeptNext.next (canSynced_kept (advance_kept (Kept.refl σ s)) h101 h102 h103)

theorem execCanTxDone_kept {σ : Scope} {clk : ℕ} {can : ℕ} {tdcv : ℕ} {s : State} (h101 : σ.part .cans = true) (h102 : σ.part .pins = true) (h103 : σ.part .edges = true) (h104 : σ.part .book = true) (h105 : σ.fld pBOOK F.BOOK.DISCARD.COUNT) (h106 : σ.fld pBOOK F.BOOK.SHADOW.DROP) (h107 : σ.fld pBOOK (Fld.mk 12 12 1)) (h108 : ∀ n, σ.page (pEDGE n)) (h109 : σ.fld pBOOK F.BOOK.DISCARD_SYS.COUNT) (h110 : σ.fld pBOOK (Fld.mk 12 8 1)) (h111 : σ.page (pCAN can)) (h112 : σ.fld pDATUM F.DATUM.FOLDOVR.COUNT) (h113 : σ.fld pDATUM (Fld.mk 12 14 1)) :
    KeptNext σ s (execCanTxDone clk can tdcv s) := by
  unfold execCanTxDone
  exact KeptNext.next (canDone_kept (advance_kept (Kept.refl σ s)) h101 h102 h103 h104 h105 h106 h107 h108 h109 h110 h111 h112 h113)

theorem execCanTxError_kept {σ : Scope} {clk : ℕ} {can : ℕ} {err : ℕ} {afterArb : Bool} {dataPhase : Bool} {dominant : Bool} {pos : ℕ} {eights : ℕ} {tdcv : Option ℕ} {s : State} (h101 : σ.part .cans = true) (h102 : σ.part .pins = true) (h103 : σ.part .edges = true) (h104 : σ.part .book = true) (h105 : σ.fld pBOOK F.BOOK.DISCARD.COUNT) (h106 : σ.fld pBOOK F.BOOK.SHADOW.DROP) (h107 : σ.fld pBOOK (Fld.mk 12 12 1)) (h108 : ∀ n, σ.page (pEDGE n)) (h109 : σ.fld pBOOK F.BOOK.DISCARD_SYS.COUNT) (h110 : σ.fld pBOOK (Fld.mk 12 8 1)) (h111 : σ.page (pCAN can)) (h112 : σ.fld pDATUM F.DATUM.FOLDOVR.COUNT) (h113 : σ.fld pDATUM (Fld.mk 12 14 1)) :
    KeptNext σ s (execCanTxError clk can err afterArb dataPhase dominant pos eights tdcv s) := by
  unfold execCanTxError
  exact KeptNext.next (canTxErr_kept (advance_kept (Kept.refl σ s)) h101 h102 h103 h104 h105 h106 h107 h108 h109 h110 h111 h112 h113)

theorem execCanTxStart_kept {σ : Scope} {clk : ℕ} {can : ℕ} {loop : ℕ} {s : State} (h101 : σ.part .cans = true) (h102 : σ.part .pins = true) (h103 : σ.part .edges = true) (h104 : σ.part .book = true) (h105 : σ.fld (pCAN can) F.CAN.STS.ACTIVE_BUF) (h106 : σ.fld pBOOK F.BOOK.DISCARD.COUNT) (h107 : σ.fld pBOOK F.BOOK.SHADOW.DROP) (h108 : σ.fld pBOOK (Fld.mk 12 12 1)) (h109 : ∀ n, σ.page (pEDGE n)) (h110 : σ.fld pBOOK F.BOOK.DISCARD_SYS.COUNT) (h111 : σ.fld pBOOK (Fld.mk 12 8 1)) :
    KeptNext σ s (execCanTxStart clk can loop s) := by
  unfold execCanTxStart
  exact KeptNext.next (canStart_kept (advance_kept (Kept.refl σ s)) h101 h102 h103 h104 h105 h106 h107 h108 h109 h110 h111)

theorem execCanTxabort_kept {σ : Scope} {clk : ℕ} {can : ℕ} {map : ℕ} {s : State} (h101 : σ.part .cans = true) (h102 : σ.part .page = true) (h103 : σ.page (pCAN (can % 16))) (h104 : σ.fld pSYS (Fld.mk 12 11 1)) :
    KeptNext σ s (execCanTxabort clk can map s) := by
  unfold execCanTxabort
  exact KeptNext.next (fldWrite_kept (advance_kept (Kept.refl σ s)) (fun x0 k1 => canAbortWrite_kept (k1) h101 h103) h102 h104 h103.fld h103.fld h103.fld h103.fld)

theorem execCanTxreq_kept {σ : Scope} {clk : ℕ} {can : ℕ} {map : ℕ} {s : State} (h101 : σ.part .cans = true) (h102 : σ.part .page = true) (h103 : σ.page (pCAN (can % 16))) (h104 : σ.fld pSYS (Fld.mk 12 11 1)) :
    KeptNext σ s (execCanTxreq clk can map s) := by
  unfold execCanTxreq
  exact KeptNext.next (fldWrite_kept (advance_kept (Kept.refl σ s)) (fun x0 k1 => canReqWrite_kept (k1) h101 h103) h102 h104 h103.fld h103.fld h103.fld h103.fld)

theorem tookStep_kept {σ : Scope} {ρ : State} {s : State} {e : ℕ} {st : ℕ × ℕ} (hk0 : Kept σ ρ s) (h101 : σ.part .engs = true) :
    Kept σ ρ (State.tookStep s e st) := by
  unfold State.tookStep
  exact setEng_kept (advance_kept (hk0)) h101

theorem steps_kept {σ : Scope} {ρ s : State} {e n : Nat} (h : Kept σ ρ s) (he : σ.part .engs = true) :
    Kept σ ρ (s.steps e n) := by
  induction n generalizing s with
  | zero => exact h
  | succ n ih => exact ih (tookStep_kept h he)

end Sys2Proof.Laws
end

