-- ==== Sys2Proof/Laws/Kept07.lean ====
section
/-!
SUPPORT. What the operations and commands of these files keep: Machine/Flags, Machine/Engine.
-/

namespace Sys2Proof.Laws

open Sys2Proof Sys2Proof.Machine

theorem putFlags_kept {σ : Scope} {ρ : State} {s : State} {c : ℕ} {k : ℕ} {up : ℕ} {down : ℕ} (hk0 : Kept σ ρ s) (h101 : σ.part .crews = true) :
    Kept σ ρ (State.putFlags s c k up down) := by
  unfold State.putFlags
  exact setCrew_kept (hk0) h101

theorem clearFlags_kept {σ : Scope} {ρ : State} {s : State} {c : ℕ} {k : ℕ} {m : ℕ} (hk0 : Kept σ ρ s) (h101 : σ.part .crews = true) :
    Kept σ ρ (State.clearFlags s c k m) := by
  unfold State.clearFlags
  exact putFlags_kept (hk0) h101

theorem setFlags_kept {σ : Scope} {ρ : State} {s : State} {c : ℕ} {k : ℕ} {m : ℕ} (hk0 : Kept σ ρ s) (h101 : σ.part .crews = true) :
    Kept σ ρ (State.setFlags s c k m) := by
  unfold State.setFlags
  exact putFlags_kept (hk0) h101

theorem txEnter_kept {σ : Scope} {ρ s : State} {e k : Nat} {l : List (Nat × Nat)} (h : Kept σ ρ s)
    (he : σ.part .engs = true) (hd : σ.fld (pENG e) F.ENG.DROP.TXDROP) (hv : σ.fld (pENG e) ⟨12, 10, 1⟩) :
    Kept σ ρ (s.txEnter e k l) := by
  induction l generalizing s with
  | nil => exact setEng_kept h he
  | cons x t ih =>
    unfold State.txEnter
    split
    · exact setEng_kept h he
    · split
      · exact ih (setEng_kept h he)
      · exact ih (event_kept (bumpSat_kept h hd) hv)

theorem txSettle_kept {σ : Scope} {ρ : State} {s : State} {e : ℕ} {k : ℕ} (hk0 : Kept σ ρ s) (h101 : σ.part .engs = true) (h102 : σ.fld (pENG e) F.ENG.DROP.TXDROP) (h103 : σ.fld (pENG e) (Fld.mk 12 10 1)) :
    Kept σ ρ (State.txSettle s e k) := by
  unfold State.txSettle
  exact txEnter_kept (hk0) h101 h102 h103

theorem stallLen_kept {σ : Scope} {ρ : State} {s : State} {e : ℕ} {n : ℕ} (hk0 : Kept σ ρ s) (h101 : σ.fld (pENG e) F.ENG.STALL_LAST.TICKS) (h102 : σ.fld (pENG e) F.ENG.STALL_MAX.TICKS) :
    Kept σ ρ (State.stallLen s e n) := by
  unfold State.stallLen
  exact set_kept (set_kept (hk0) h101) h102

theorem swapFinish_kept {σ : Scope} {ρ : State} {s : State} {c : ℕ} (hk0 : Kept σ ρ s) (h101 : σ.fld (pCREW c) F.CREW.STS.ACTIVE) (h102 : σ.fld (pCREW c) F.CREW.STS.BUSY) (h103 : σ.fld (pCREW c) F.CREW.SWAP.GO) (h104 : σ.fld (pCREW c) F.CREW.SWAPCNT.COUNT) (h105 : σ.fld (pCREW c) (Fld.mk 12 16 1)) :
    Kept σ ρ (State.swapFinish s c) := by
  unfold State.swapFinish
  exact event_kept (bump_kept (set_kept (set_kept (set_kept (hk0) h101) h102) h103) h104) h105

theorem swapCheck_kept {σ : Scope} {ρ : State} {s : State} {c : ℕ} (hk0 : Kept σ ρ s) (h101 : σ.fld (pCREW c) F.CREW.STS.ACTIVE) (h102 : σ.fld (pCREW c) F.CREW.STS.BUSY) (h103 : σ.fld (pCREW c) F.CREW.SWAP.GO) (h104 : σ.fld (pCREW c) F.CREW.SWAPCNT.COUNT) (h105 : σ.fld (pCREW c) (Fld.mk 12 16 1)) :
    Kept σ ρ (State.swapCheck s c) := by
  unfold State.swapCheck
  exact Kept.ite (swapFinish_kept (hk0) h101 h102 h103 h104 h105) (hk0)

theorem engMove_kept {σ : Scope} {ρ : State} {s : State} {e : ℕ} (hk0 : Kept σ ρ s) (h101 : σ.part .engs = true) (h102 : σ.fld (pCREW (e / 4)) (Fld.mk F.CREW.STS.MOVED.off (8 + e % 4) 1)) (h103 : σ.fld (pCREW (e / 4)) F.CREW.STS.ACTIVE) (h104 : σ.fld (pCREW (e / 4)) F.CREW.STS.BUSY) (h105 : σ.fld (pCREW (e / 4)) F.CREW.SWAP.GO) (h106 : σ.fld (pCREW (e / 4)) F.CREW.SWAPCNT.COUNT) (h107 : σ.fld (pCREW (e / 4)) (Fld.mk 12 16 1)) :
    Kept σ ρ (State.engMove s e) := by
  unfold State.engMove
  exact swapCheck_kept (set_kept (setEng_kept (hk0) h101) h102) h103 h104 h105 h106 h107

theorem abandon_kept {σ : Scope} {ρ : State} {s : State} {e : ℕ} (hk0 : Kept σ ρ s) (h101 : σ.part .engs = true) (h102 : σ.fld (pENG e) F.ENG.DROP.TXDROP) (h103 : σ.fld (pENG e) (Fld.mk 12 10 1)) (h104 : σ.fld (pENG e) F.ENG.STALL_LAST.TICKS) (h105 : σ.fld (pENG e) F.ENG.STALL_MAX.TICKS) (h106 : σ.fld (pCREW (e / 4)) F.CREW.ABANDONED.COUNT) (h107 : σ.fld (pCREW (e / 4)) (Fld.mk 12 17 1)) (h108 : σ.fld (pCREW (e / 4)) (Fld.mk F.CREW.STS.MOVED.off (8 + e % 4) 1)) (h109 : σ.fld (pCREW (e / 4)) F.CREW.STS.ACTIVE) (h110 : σ.fld (pCREW (e / 4)) F.CREW.STS.BUSY) (h111 : σ.fld (pCREW (e / 4)) F.CREW.SWAP.GO) (h112 : σ.fld (pCREW (e / 4)) F.CREW.SWAPCNT.COUNT) (h113 : σ.fld (pCREW (e / 4)) (Fld.mk 12 16 1)) :
    Kept σ ρ (State.abandon s e) := by
  unfold State.abandon
  exact Kept.ite (engMove_kept (event_kept (bump_kept ((by split; exacts [stallLen_kept (txSettle_kept (tookStep_kept (hk0) h101) h101 h102 h103) h104 h105, txSettle_kept (tookStep_kept (hk0) h101) h101 h102 h103])) h106) h107) h101 h108 h109 h110 h111 h112 h113) (hk0)

theorem abortAsk_kept {σ : Scope} {ρ : State} {s : State} {c : ℕ} (hk0 : Kept σ ρ s) (h101 : σ.part .crews = true) :
    Kept σ ρ (State.abortAsk s c) := by
  unfold State.abortAsk
  exact setCrew_kept (hk0) h101

theorem engOn_kept {σ : Scope} {ρ : State} {s : State} {e : ℕ} (hk0 : Kept σ ρ s) (h101 : σ.part .engs = true) (h102 : σ.part .pins = true) (h103 : σ.fld (pENG e) F.ENG.DROP.TXDROP) (h104 : σ.fld (pENG e) (Fld.mk 12 10 1)) :
    Kept σ ρ (State.engOn s e) := by
  unfold State.engOn
  exact setEng_kept (Kept.foldl (fun x5 a6 k7 => setPin_kept (k7) h102) _ _ (txSettle_kept (hk0) h101 h103 h104)) h101

theorem rxfPop_kept {σ : Scope} {ρ : State} {s : State} {e : ℕ} (hk0 : Kept σ ρ s) (h101 : σ.part .result = true) (h102 : σ.part .engs = true) :
    Kept σ ρ (State.rxfPop s e) := by
  unfold State.rxfPop
  exact (by (try dsimp only); split; exacts [Kept.result (hk0) h101, Kept.result (setEng_kept (hk0) h102) h101])

theorem engOff_kept {σ : Scope} {ρ : State} {s : State} {e : ℕ} {keep : Bool} (hk0 : Kept σ ρ s) (h101 : σ.part .engs = true) (h102 : σ.fld (pENG e) F.ENG.DROP.TXDROP) (h103 : σ.fld (pENG e) (Fld.mk 12 10 1)) (h104 : σ.fld (pCREW (e / 4)) F.CREW.STS.ACTIVE) (h105 : σ.fld (pCREW (e / 4)) F.CREW.STS.BUSY) (h106 : σ.fld (pCREW (e / 4)) F.CREW.SWAP.GO) (h107 : σ.fld (pCREW (e / 4)) F.CREW.SWAPCNT.COUNT) (h108 : σ.fld (pCREW (e / 4)) (Fld.mk 12 16 1)) :
    Kept σ ρ (State.engOff s e keep) := by
  unfold State.engOff
  exact swapCheck_kept (setEng_kept (txSettle_kept (hk0) h101 h102 h103) h101) h104 h105 h106 h107 h108

theorem crewClr_kept {σ : Scope} {ρ : State} {s : State} {c : ℕ} (hk0 : Kept σ ρ s) (h101 : σ.part .crews = true) :
    Kept σ ρ (State.crewClr s c) := by
  unfold State.crewClr
  exact setCrew_kept (hk0) h101

theorem engClr_kept {σ : Scope} {ρ : State} {s : State} {e : ℕ} (hk0 : Kept σ ρ s) (h101 : σ.part .pins = true) (h102 : σ.part .edges = true) (h103 : σ.part .book = true) (h104 : σ.part .engs = true) (h105 : σ.fld pBOOK F.BOOK.DISCARD.COUNT) (h106 : σ.fld pBOOK F.BOOK.SHADOW.DROP) (h107 : σ.fld pBOOK (Fld.mk 12 12 1)) (h108 : ∀ n, σ.page (pEDGE n)) (h109 : σ.fld pBOOK F.BOOK.DISCARD_SYS.COUNT) (h110 : σ.fld pBOOK (Fld.mk 12 8 1)) (h111 : σ.fld (pENG e) F.ENG.DROP.TXDROP) (h112 : σ.fld (pENG e) (Fld.mk 12 10 1)) (h113 : σ.fld (pCREW (e / 4)) F.CREW.STS.ACTIVE) (h114 : σ.fld (pCREW (e / 4)) F.CREW.STS.BUSY) (h115 : σ.fld (pCREW (e / 4)) F.CREW.SWAP.GO) (h116 : σ.fld (pCREW (e / 4)) F.CREW.SWAPCNT.COUNT) (h117 : σ.fld (pCREW (e / 4)) (Fld.mk 12 16 1)) :
    Kept σ ρ (State.engClr s e) := by
  unfold State.engClr
  exact setEng_kept (engOff_kept (releasePins_kept (hk0) h101 h102 h103 h105 h106 h107 h108 h109 h110) h104 h111 h112 h113 h114 h115 h116 h117) h104

theorem engUnhold_kept {σ : Scope} {ρ : State} {s : State} {e : ℕ} (hk0 : Kept σ ρ s) (h101 : σ.part .engs = true) (h102 : σ.fld (pENG e) F.HDR.PCTL.HOLD) (h103 : σ.fld (pENG e) F.HDR.PSTS.HELD) :
    Kept σ ρ (State.engUnhold s e) := by
  unfold State.engUnhold
  exact Kept.cut (fun k1 => Kept.ite (k1) (setEng_kept (set_kept (k1) h103) h101)) (set_kept (hk0) h102)

theorem swapGo_kept {σ : Scope} {ρ : State} {s : State} {c : ℕ} (hk0 : Kept σ ρ s) (h101 : σ.part .crews = true) (h102 : σ.fld (pCREW c) F.HDR.PSTS.CODE) (h103 : σ.fld (pCREW c) F.HDR.PSTS.INDEX) (h104 : σ.fld (pCREW c) F.HDR.PSTS.REFUSED) (h105 : σ.fld (pCREW c) (Fld.mk 12 0 1)) (h106 : σ.fld (pCREW c) F.CREW.STS.MOVED) (h107 : σ.fld (pCREW c) F.CREW.STS.ACTIVE) (h108 : σ.fld (pCREW c) F.CREW.STS.BUSY) (h109 : σ.fld (pCREW c) F.CREW.SWAP.GO) (h110 : σ.fld (pCREW c) F.CREW.SWAPCNT.COUNT) (h111 : σ.fld (pCREW c) (Fld.mk 12 16 1)) :
    Kept σ ρ (State.swapGo s c) := by
  unfold State.swapGo
  exact Kept.ite (hk0) ((by (try dsimp only); split; exacts [refuse_kept (hk0) h102 h103 h104 h105, Kept.cut (fun k1 => Kept.ite (swapFinish_kept (k1) h107 h108 h109 h110 h111) (setCrew_kept (set_kept (set_kept (k1) h109) h108) h101)) (set_kept (hk0) h106)]))

theorem goEng_kept {σ : Scope} {ρ : State} {s : State} {c : ℕ} {mask : ℕ} (hk0 : Kept σ ρ s) (h101 : σ.part .engs = true) (h102 : ∀ n, σ.page (pENG n)) :
    Kept σ ρ (State.goEng s c mask) := by
  unfold State.goEng
  exact Kept.foldl (fun x0 a1 k2 => engUnhold_kept (k2) h101 (h102 _).fld (h102 _).fld) _ _ (hk0)

theorem flagClear_kept {σ : Scope} {ρ : State} {s : State} {c : ℕ} {m : ℕ} (hk0 : Kept σ ρ s) (h101 : σ.part .crews = true) :
    Kept σ ρ (State.flagClear s c m) := by
  unfold State.flagClear
  exact clearFlags_kept (hk0) h101

theorem flagSet_kept {σ : Scope} {ρ : State} {s : State} {c : ℕ} {m : ℕ} (hk0 : Kept σ ρ s) (h101 : σ.part .crews = true) :
    Kept σ ρ (State.flagSet s c m) := by
  unfold State.flagSet
  exact setFlags_kept (hk0) h101

theorem imemWrite_kept {σ : Scope} {ρ : State} {s : State} {c : ℕ} {off : ℕ} {v : Word} (hk0 : Kept σ ρ s) (h101 : σ.fld (pCREW c) F.CREW.IMEM_DROP.COUNT) (h102 : σ.fld (pCREW c) (Fld.mk 12 18 1)) (h103 : σ.reg (regKey (pCREW c) off) = true) :
    Kept σ ρ (State.imemWrite s c off v) := by
  unfold State.imemWrite
  exact Kept.ite (event_kept (bump_kept (hk0) h101) h102) (wr_kept (hk0) h103)

theorem engRegWrite_kept {σ : Scope} {ρ : State} {s : State} {e : ℕ} {off : ℕ} {mask : Word} {d : Word} (hk0 : Kept σ ρ s) (h101 : σ.part .engs = true) :
    Kept σ ρ (State.engRegWrite s e off mask d) := by
  unfold State.engRegWrite
  exact Kept.ite (hk0) (Kept.ite (setEng_kept (hk0) h101) (Kept.ite (setEng_kept (hk0) h101) (Kept.ite (setEng_kept (hk0) h101) (setEng_kept (hk0) h101))))

theorem engJump_kept {σ : Scope} {ρ : State} {s : State} {e : ℕ} {w : ℕ} (hk0 : Kept σ ρ s) (h101 : σ.part .engs = true) :
    Kept σ ρ (State.engJump s e w) := by
  unfold State.engJump
  exact Kept.ite (setEng_kept (hk0) h101) (hk0)

theorem engSnap_kept {σ : Scope} {ρ : State} {s : State} {e : ℕ} (hk0 : Kept σ ρ s) (h101 : σ.part .engs = true) :
    Kept σ ρ (State.engSnap s e) := by
  unfold State.engSnap
  exact setEng_kept (hk0) h101

theorem txfWrite_kept {σ : Scope} {ρ : State} {s : State} {e : ℕ} {d : Word} (hk0 : Kept σ ρ s) (h101 : σ.part .engs = true) (h102 : σ.fld (pENG e) F.ENG.DROP.TXDROP) (h103 : σ.fld (pENG e) (Fld.mk 12 10 1)) :
    Kept σ ρ (State.txfWrite s e d) := by
  unfold State.txfWrite
  exact Kept.cut (fun k5 => Kept.ite (k5) (txSettle_kept (k5) h101 h102 h103)) (setEng_kept (txSettle_kept (hk0) h101 h102 h103) h101)

theorem engArrive_kept {σ : Scope} {ρ : State} {s : State} {e : ℕ} {k : ℕ} (hk0 : Kept σ ρ s) (h101 : σ.part .engs = true) (h102 : σ.part .pins = true) (h103 : σ.fld (pENG e) F.ENG.DROP.TXDROP) (h104 : σ.fld (pENG e) (Fld.mk 12 10 1)) :
    Kept σ ρ (State.engArrive s e k) := by
  unfold State.engArrive
  exact Kept.cut (fun k1 => Kept.ite (setEng_kept (Kept.foldl (fun x7 a8 k9 => latchPin_kept (k9) h102) _ _ (k1)) h101) (k1)) (txSettle_kept (hk0) h101 h103 h104)

theorem engDrive_kept {σ : Scope} {ρ : State} {s : State} {e : ℕ} (hk0 : Kept σ ρ s) (h101 : σ.part .pins = true) (h102 : σ.part .edges = true) (h103 : σ.part .book = true) (h104 : σ.fld pBOOK F.BOOK.DISCARD.COUNT) (h105 : σ.fld pBOOK F.BOOK.SHADOW.DROP) (h106 : σ.fld pBOOK (Fld.mk 12 12 1)) (h107 : ∀ n, σ.page (pEDGE n)) (h108 : σ.fld pBOOK F.BOOK.DISCARD_SYS.COUNT) (h109 : σ.fld pBOOK (Fld.mk 12 8 1)) :
    Kept σ ρ (State.engDrive s e) := by
  unfold State.engDrive
  exact Kept.foldl (fun x0 a1 k2 => ballTo_kept (k2) h101 h102 h103 h104 h105 h106 h107 h108 h109) _ _ (hk0)

theorem beginWatch_kept {σ : Scope} {ρ : State} {s : State} {e : ℕ} {op : ℕ} {f : EngSt → EngSt} (hk0 : Kept σ ρ s) (h101 : σ.part .engs = true) (h102 : σ.part .pins = true) (h103 : σ.part .edges = true) (h104 : σ.part .book = true) (h105 : σ.fld (pENG e) F.ENG.DROP.TXDROP) (h106 : σ.fld (pENG e) (Fld.mk 12 10 1)) (h107 : σ.fld pBOOK F.BOOK.DISCARD.COUNT) (h108 : σ.fld pBOOK F.BOOK.SHADOW.DROP) (h109 : σ.fld pBOOK (Fld.mk 12 12 1)) (h110 : ∀ n, σ.page (pEDGE n)) (h111 : σ.fld pBOOK F.BOOK.DISCARD_SYS.COUNT) (h112 : σ.fld pBOOK (Fld.mk 12 8 1)) :
    Kept σ ρ (State.beginWatch s e op f) := by
  unfold State.beginWatch
  exact Kept.ite (engDrive_kept (setEng_kept (engArrive_kept (advance_kept (hk0)) h101 h102 h105 h106) h101) h102 h103 h104 h107 h108 h109 h110 h111 h112) (hk0)

theorem putLvl_kept {σ : Scope} {ρ : State} {s : State} {e : ℕ} {k : ℕ} {i : ℕ} {b : Bool} (hk0 : Kept σ ρ s) (h101 : σ.part .pins = true) :
    Kept σ ρ (State.putLvl s e k i b) := by
  unfold State.putLvl
  exact latchPin_kept (hk0) h101

theorem edgeField_kept {σ : Scope} {ρ : State} {s : State} {e : ℕ} {k : ℕ} {w : ℕ} (hk0 : Kept σ ρ s) (h101 : σ.part .pins = true) :
    Kept σ ρ (State.edgeField s e k w) := by
  unfold State.edgeField
  exact Kept.foldl (fun x0 a1 k2 => (by (try dsimp only); split; exacts [putLvl_kept (k2) h101, putLvl_kept (k2) h101, putLvl_kept (k2) h101, k2])) _ _ (hk0)

theorem engBoundary_kept {σ : Scope} {ρ : State} {s : State} {e : ℕ} {k : ℕ} (hk0 : Kept σ ρ s) (h101 : σ.part .engs = true) (h102 : σ.fld (pCREW (e / 4)) (Fld.mk F.CREW.STS.MOVED.off (8 + e % 4) 1)) (h103 : σ.fld (pCREW (e / 4)) F.CREW.STS.ACTIVE) (h104 : σ.fld (pCREW (e / 4)) F.CREW.STS.BUSY) (h105 : σ.fld (pCREW (e / 4)) F.CREW.SWAP.GO) (h106 : σ.fld (pCREW (e / 4)) F.CREW.SWAPCNT.COUNT) (h107 : σ.fld (pCREW (e / 4)) (Fld.mk 12 16 1)) :
    Kept σ ρ (State.engBoundary s e k) := by
  unfold State.engBoundary
  exact Kept.ite (engMove_kept (hk0) h101 h102 h103 h104 h105 h106 h107) (hk0)

theorem engDone_kept {σ : Scope} {ρ : State} {s : State} {e : ℕ} {k : ℕ} {w : ℕ} {pc : ℕ} {delay : ℕ} {edge : Bool} (hk0 : Kept σ ρ s) (h101 : σ.part .pins = true) (h102 : σ.part .engs = true) (h103 : σ.fld (pCREW (e / 4)) (Fld.mk F.CREW.STS.MOVED.off (8 + e % 4) 1)) (h104 : σ.fld (pCREW (e / 4)) F.CREW.STS.ACTIVE) (h105 : σ.fld (pCREW (e / 4)) F.CREW.STS.BUSY) (h106 : σ.fld (pCREW (e / 4)) F.CREW.SWAP.GO) (h107 : σ.fld (pCREW (e / 4)) F.CREW.SWAPCNT.COUNT) (h108 : σ.fld (pCREW (e / 4)) (Fld.mk 12 16 1)) :
    Kept σ ρ (State.engDone s e k w pc delay edge) := by
  unfold State.engDone
  exact Kept.cut (fun k5 => Kept.ite (engBoundary_kept (k5) h102 h103 h104 h105 h106 h107 h108) (k5)) (setEng_kept (Kept.ite (edgeField_kept (hk0) h101) (hk0)) h102)

theorem engNext_kept {σ : Scope} {ρ : State} {s : State} {e : ℕ} {k : ℕ} {w : ℕ} (hk0 : Kept σ ρ s) (h101 : σ.part .pins = true) (h102 : σ.part .engs = true) (h103 : σ.fld (pCREW (e / 4)) (Fld.mk F.CREW.STS.MOVED.off (8 + e % 4) 1)) (h104 : σ.fld (pCREW (e / 4)) F.CREW.STS.ACTIVE) (h105 : σ.fld (pCREW (e / 4)) F.CREW.STS.BUSY) (h106 : σ.fld (pCREW (e / 4)) F.CREW.SWAP.GO) (h107 : σ.fld (pCREW (e / 4)) F.CREW.SWAPCNT.COUNT) (h108 : σ.fld (pCREW (e / 4)) (Fld.mk 12 16 1)) :
    Kept σ ρ (State.engNext s e k w) := by
  unfold State.engNext
  exact engDone_kept (hk0) h101 h102 h103 h104 h105 h106 h107 h108

theorem cntDone_kept {σ : Scope} {ρ : State} {s : State} {e : ℕ} (hk0 : Kept σ ρ s) (h101 : σ.part .engs = true) (h102 : σ.part .pins = true) (h103 : σ.part .edges = true) (h104 : σ.part .book = true) (h105 : σ.fld (pENG e) F.ENG.DROP.TXDROP) (h106 : σ.fld (pENG e) (Fld.mk 12 10 1)) (h107 : σ.fld (pCREW (e / 4)) (Fld.mk F.CREW.STS.MOVED.off (8 + e % 4) 1)) (h108 : σ.fld (pCREW (e / 4)) F.CREW.STS.ACTIVE) (h109 : σ.fld (pCREW (e / 4)) F.CREW.STS.BUSY) (h110 : σ.fld (pCREW (e / 4)) F.CREW.SWAP.GO) (h111 : σ.fld (pCREW (e / 4)) F.CREW.SWAPCNT.COUNT) (h112 : σ.fld (pCREW (e / 4)) (Fld.mk 12 16 1)) (h113 : σ.fld pBOOK F.BOOK.DISCARD.COUNT) (h114 : σ.fld pBOOK F.BOOK.SHADOW.DROP) (h115 : σ.fld pBOOK (Fld.mk 12 12 1)) (h116 : ∀ n, σ.page (pEDGE n)) (h117 : σ.fld pBOOK F.BOOK.DISCARD_SYS.COUNT) (h118 : σ.fld pBOOK (Fld.mk 12 8 1)) :
    Kept σ ρ (State.cntDone s e) := by
  unfold State.cntDone
  exact Kept.ite (hk0) (engDrive_kept (engNext_kept (setEng_kept (txSettle_kept (tookStep_kept (hk0) h101) h101 h105 h106) h101) h102 h101 h107 h108 h109 h110 h111 h112) h102 h103 h104 h113 h114 h115 h116 h117 h118)

theorem delayDone_kept {σ : Scope} {ρ : State} {s : State} {e : ℕ} (hk0 : Kept σ ρ s) (h101 : σ.part .engs = true) (h102 : σ.fld (pCREW (e / 4)) (Fld.mk F.CREW.STS.MOVED.off (8 + e % 4) 1)) (h103 : σ.fld (pCREW (e / 4)) F.CREW.STS.ACTIVE) (h104 : σ.fld (pCREW (e / 4)) F.CREW.STS.BUSY) (h105 : σ.fld (pCREW (e / 4)) F.CREW.SWAP.GO) (h106 : σ.fld (pCREW (e / 4)) F.CREW.SWAPCNT.COUNT) (h107 : σ.fld (pCREW (e / 4)) (Fld.mk 12 16 1)) :
    Kept σ ρ (State.delayDone s e) := by
  unfold State.delayDone
  exact engBoundary_kept (setEng_kept (steps_kept (hk0) h101) h101) h101 h102 h103 h104 h105 h106 h107

theorem dlyDone_kept {σ : Scope} {ρ : State} {s : State} {e : ℕ} (hk0 : Kept σ ρ s) (h101 : σ.part .engs = true) (h102 : σ.part .pins = true) (h103 : σ.fld (pCREW (e / 4)) (Fld.mk F.CREW.STS.MOVED.off (8 + e % 4) 1)) (h104 : σ.fld (pCREW (e / 4)) F.CREW.STS.ACTIVE) (h105 : σ.fld (pCREW (e / 4)) F.CREW.STS.BUSY) (h106 : σ.fld (pCREW (e / 4)) F.CREW.SWAP.GO) (h107 : σ.fld (pCREW (e / 4)) F.CREW.SWAPCNT.COUNT) (h108 : σ.fld (pCREW (e / 4)) (Fld.mk 12 16 1)) :
    Kept σ ρ (State.dlyDone s e) := by
  unfold State.dlyDone
  exact engDone_kept (setEng_kept (steps_kept (hk0) h101) h101) h102 h101 h103 h104 h105 h106 h107 h108

theorem doDly_kept {σ : Scope} {ρ : State} {s : State} {e : ℕ} {k : ℕ} {w : ℕ} (hk0 : Kept σ ρ s) (h101 : σ.part .pins = true) (h102 : σ.part .engs = true) (h103 : σ.fld (pCREW (e / 4)) (Fld.mk F.CREW.STS.MOVED.off (8 + e % 4) 1)) (h104 : σ.fld (pCREW (e / 4)) F.CREW.STS.ACTIVE) (h105 : σ.fld (pCREW (e / 4)) F.CREW.STS.BUSY) (h106 : σ.fld (pCREW (e / 4)) F.CREW.SWAP.GO) (h107 : σ.fld (pCREW (e / 4)) F.CREW.SWAPCNT.COUNT) (h108 : σ.fld (pCREW (e / 4)) (Fld.mk 12 16 1)) :
    Kept σ ρ (State.doDly s e k w) := by
  unfold State.doDly
  exact Kept.ite (engDone_kept (hk0) h101 h102 h103 h104 h105 h106 h107 h108) (setEng_kept (hk0) h102)

theorem latchLoad_kept {σ : Scope} {ρ : State} {s : State} {e : ℕ} {k : ℕ} {ws : List ℕ} (hk0 : Kept σ ρ s) (h101 : σ.part .engs = true) :
    Kept σ ρ (State.latchLoad s e k ws) := by
  unfold State.latchLoad
  exact setEng_kept (hk0) h101

theorem rxPush_kept {σ : Scope} {ρ : State} {s : State} {e : ℕ} {k : ℕ} {ws : List ℕ} (hk0 : Kept σ ρ s) (h101 : σ.part .engs = true) :
    Kept σ ρ (State.rxPush s e k ws) := by
  unfold State.rxPush
  exact (by (try dsimp only); split; exacts [latchLoad_kept (hk0) h101, Kept.cut (fun k1 => Kept.ite (latchLoad_kept (k1) h101) (k1)) (setEng_kept (hk0) h101)])

theorem engStall_kept {σ : Scope} {ρ : State} {s : State} {e : ℕ} {k : ℕ} {kind : StallKind} (hk0 : Kept σ ρ s) (h101 : σ.part .engs = true) (h102 : σ.fld (pENG e) F.ENG.STALLS.COUNT) :
    Kept σ ρ (State.engStall s e k kind) := by
  unfold State.engStall
  exact bump_kept (setEng_kept (hk0) h101) h102

theorem inFlush_kept {σ : Scope} {ρ : State} {s : State} {e : ℕ} {k : ℕ} {w : ℕ} (hk0 : Kept σ ρ s) (h101 : σ.part .engs = true) (h102 : σ.part .pins = true) (h103 : σ.fld (pCREW (e / 4)) (Fld.mk F.CREW.STS.MOVED.off (8 + e % 4) 1)) (h104 : σ.fld (pCREW (e / 4)) F.CREW.STS.ACTIVE) (h105 : σ.fld (pCREW (e / 4)) F.CREW.STS.BUSY) (h106 : σ.fld (pCREW (e / 4)) F.CREW.SWAP.GO) (h107 : σ.fld (pCREW (e / 4)) F.CREW.SWAPCNT.COUNT) (h108 : σ.fld (pCREW (e / 4)) (Fld.mk 12 16 1)) (h109 : σ.fld (pENG e) F.ENG.STALLS.COUNT) :
    Kept σ ρ (State.inFlush s e k w) := by
  unfold State.inFlush
  exact Kept.ite (Kept.ite (engNext_kept (setEng_kept (rxPush_kept (hk0) h101) h101) h102 h101 h103 h104 h105 h106 h107 h108) (engStall_kept (hk0) h101 h109)) (engNext_kept (hk0) h102 h101 h103 h104 h105 h106 h107 h108)

theorem doIn_kept {σ : Scope} {ρ : State} {s : State} {e : ℕ} {k : ℕ} {w : ℕ} (hk0 : Kept σ ρ s) (h101 : σ.part .engs = true) (h102 : σ.part .pins = true) (h103 : σ.fld (pCREW (e / 4)) (Fld.mk F.CREW.STS.MOVED.off (8 + e % 4) 1)) (h104 : σ.fld (pCREW (e / 4)) F.CREW.STS.ACTIVE) (h105 : σ.fld (pCREW (e / 4)) F.CREW.STS.BUSY) (h106 : σ.fld (pCREW (e / 4)) F.CREW.SWAP.GO) (h107 : σ.fld (pCREW (e / 4)) F.CREW.SWAPCNT.COUNT) (h108 : σ.fld (pCREW (e / 4)) (Fld.mk 12 16 1)) (h109 : σ.fld (pENG e) F.ENG.STALLS.COUNT) :
    Kept σ ρ (State.doIn s e k w) := by
  unfold State.doIn
  exact inFlush_kept (setEng_kept (hk0) h101) h101 h102 h103 h104 h105 h106 h107 h108 h109

theorem doJmp_kept {σ : Scope} {ρ : State} {s : State} {e : ℕ} {k : ℕ} {w : ℕ} (hk0 : Kept σ ρ s) (h101 : σ.part .engs = true) (h102 : σ.part .pins = true) (h103 : σ.fld (pCREW (e / 4)) (Fld.mk F.CREW.STS.MOVED.off (8 + e % 4) 1)) (h104 : σ.fld (pCREW (e / 4)) F.CREW.STS.ACTIVE) (h105 : σ.fld (pCREW (e / 4)) F.CREW.STS.BUSY) (h106 : σ.fld (pCREW (e / 4)) F.CREW.SWAP.GO) (h107 : σ.fld (pCREW (e / 4)) F.CREW.SWAPCNT.COUNT) (h108 : σ.fld (pCREW (e / 4)) (Fld.mk 12 16 1)) :
    Kept σ ρ (State.doJmp s e k w) := by
  unfold State.doJmp
  exact engDone_kept (setEng_kept (hk0) h101) h102 h101 h103 h104 h105 h106 h107 h108

theorem putOe_kept {σ : Scope} {ρ : State} {s : State} {e : ℕ} {k : ℕ} {i : ℕ} {b : Bool} (hk0 : Kept σ ρ s) (h101 : σ.part .pins = true) :
    Kept σ ρ (State.putOe s e k i b) := by
  unfold State.putOe
  exact latchPin_kept (hk0) h101

theorem putBits_kept {σ : Scope} {ρ : State} {s : State} {e : ℕ} {k : ℕ} {base : ℕ} {n : ℕ} {v : ℕ} {m : ℕ} {oe : Bool} (hk0 : Kept σ ρ s) (h101 : σ.part .pins = true) :
    Kept σ ρ (State.putBits s e k base n v m oe) := by
  unfold State.putBits
  exact Kept.foldl (fun x0 a1 k2 => Kept.ite (k2) (Kept.ite (putOe_kept (k2) h101) (putLvl_kept (k2) h101))) _ _ (hk0)

theorem putOut_kept {σ : Scope} {ρ : State} {s : State} {e : ℕ} {k : ℕ} {v : ℕ} {n : ℕ} {oe : Bool} (hk0 : Kept σ ρ s) (h101 : σ.part .pins = true) :
    Kept σ ρ (State.putOut s e k v n oe) := by
  unfold State.putOut
  exact putBits_kept (hk0) h101

theorem doMov_kept {σ : Scope} {ρ : State} {s : State} {e : ℕ} {k : ℕ} {w : ℕ} (hk0 : Kept σ ρ s) (h101 : σ.part .engs = true) (h102 : σ.part .pins = true) (h103 : σ.fld (pCREW (e / 4)) (Fld.mk F.CREW.STS.MOVED.off (8 + e % 4) 1)) (h104 : σ.fld (pCREW (e / 4)) F.CREW.STS.ACTIVE) (h105 : σ.fld (pCREW (e / 4)) F.CREW.STS.BUSY) (h106 : σ.fld (pCREW (e / 4)) F.CREW.SWAP.GO) (h107 : σ.fld (pCREW (e / 4)) F.CREW.SWAPCNT.COUNT) (h108 : σ.fld (pCREW (e / 4)) (Fld.mk 12 16 1)) :
    Kept σ ρ (State.doMov s e k w) := by
  unfold State.doMov
  exact (by (try dsimp only); split; exacts [engNext_kept (setEng_kept (hk0) h101) h102 h101 h103 h104 h105 h106 h107 h108, engNext_kept (setEng_kept (hk0) h101) h102 h101 h103 h104 h105 h106 h107 h108, engNext_kept (putOut_kept (hk0) h102) h102 h101 h103 h104 h105 h106 h107 h108, engNext_kept (setEng_kept (hk0) h101) h102 h101 h103 h104 h105 h106 h107 h108, engNext_kept (setEng_kept (hk0) h101) h102 h101 h103 h104 h105 h106 h107 h108, engNext_kept (putOut_kept (hk0) h102) h102 h101 h103 h104 h105 h106 h107 h108, engDone_kept (hk0) h102 h101 h103 h104 h105 h106 h107 h108])

theorem doNote_kept {σ : Scope} {ρ : State} {s : State} {e : ℕ} {k : ℕ} {w : ℕ} (hk0 : Kept σ ρ s) (h101 : σ.part .crews = true) (h102 : σ.part .pins = true) (h103 : σ.part .engs = true) (h104 : σ.fld (pCREW (e / 4)) (Fld.mk 12 (8 + natField w 0 3) 1)) (h105 : σ.fld (pCREW (e / 4)) (Fld.mk F.CREW.STS.MOVED.off (8 + e % 4) 1)) (h106 : σ.fld (pCREW (e / 4)) F.CREW.STS.ACTIVE) (h107 : σ.fld (pCREW (e / 4)) F.CREW.STS.BUSY) (h108 : σ.fld (pCREW (e / 4)) F.CREW.SWAP.GO) (h109 : σ.fld (pCREW (e / 4)) F.CREW.SWAPCNT.COUNT) (h110 : σ.fld (pCREW (e / 4)) (Fld.mk 12 16 1)) :
    Kept σ ρ (State.doNote s e k w) := by
  unfold State.doNote
  exact Kept.cut (fun k1 => engNext_kept (Kept.ite (event_kept (k1) h104) (k1)) h102 h103 h105 h106 h107 h108 h109 h110) (setFlags_kept (hk0) h101)

theorem osrLoad_kept {σ : Scope} {ρ : State} {s : State} {e : ℕ} (hk0 : Kept σ ρ s) (h101 : σ.part .engs = true) :
    Kept σ ρ (State.osrLoad s e) := by
  unfold State.osrLoad
  exact (by (try dsimp only); split; exacts [hk0, setEng_kept (hk0) h101])

theorem outShifted_kept {σ : Scope} {ρ : State} {s : State} {e : ℕ} {k : ℕ} {w : ℕ} (hk0 : Kept σ ρ s) (h101 : σ.part .engs = true) (h102 : σ.part .pins = true) (h103 : σ.fld (pCREW (e / 4)) (Fld.mk F.CREW.STS.MOVED.off (8 + e % 4) 1)) (h104 : σ.fld (pCREW (e / 4)) F.CREW.STS.ACTIVE) (h105 : σ.fld (pCREW (e / 4)) F.CREW.STS.BUSY) (h106 : σ.fld (pCREW (e / 4)) F.CREW.SWAP.GO) (h107 : σ.fld (pCREW (e / 4)) F.CREW.SWAPCNT.COUNT) (h108 : σ.fld (pCREW (e / 4)) (Fld.mk 12 16 1)) :
    Kept σ ρ (State.outShifted s e k w) := by
  unfold State.outShifted
  exact Kept.cut (fun k1 => Kept.cut (fun k3 => (by (try dsimp only); split; exacts [engNext_kept (putOut_kept (k3) h102) h102 h101 h103 h104 h105 h106 h107 h108, engNext_kept (setEng_kept (k3) h101) h102 h101 h103 h104 h105 h106 h107 h108, engNext_kept (setEng_kept (k3) h101) h102 h101 h103 h104 h105 h106 h107 h108, engNext_kept (k3) h102 h101 h103 h104 h105 h106 h107 h108, engNext_kept (putOut_kept (k3) h102) h102 h101 h103 h104 h105 h106 h107 h108, engDone_kept (k3) h102 h101 h103 h104 h105 h106 h107 h108, engDone_kept (k3) h102 h101 h103 h104 h105 h106 h107 h108])) (Kept.ite (osrLoad_kept (k1) h101) (k1))) (setEng_kept (hk0) h101)

theorem doOut_kept {σ : Scope} {ρ : State} {s : State} {e : ℕ} {k : ℕ} {w : ℕ} (hk0 : Kept σ ρ s) (h101 : σ.part .engs = true) (h102 : σ.part .pins = true) (h103 : σ.fld (pENG e) F.ENG.STALLS.COUNT) (h104 : σ.fld (pCREW (e / 4)) (Fld.mk F.CREW.STS.MOVED.off (8 + e % 4) 1)) (h105 : σ.fld (pCREW (e / 4)) F.CREW.STS.ACTIVE) (h106 : σ.fld (pCREW (e / 4)) F.CREW.STS.BUSY) (h107 : σ.fld (pCREW (e / 4)) F.CREW.SWAP.GO) (h108 : σ.fld (pCREW (e / 4)) F.CREW.SWAPCNT.COUNT) (h109 : σ.fld (pCREW (e / 4)) (Fld.mk 12 16 1)) :
    Kept σ ρ (State.doOut s e k w) := by
  unfold State.doOut
  exact Kept.ite (Kept.ite (engStall_kept (hk0) h101 h103) (outShifted_kept (osrLoad_kept (hk0) h101) h101 h102 h104 h105 h106 h107 h108 h109)) (outShifted_kept (hk0) h101 h102 h104 h105 h106 h107 h108 h109)

theorem doPull_kept {σ : Scope} {ρ : State} {s : State} {e : ℕ} {k : ℕ} {w : ℕ} (hk0 : Kept σ ρ s) (h101 : σ.part .pins = true) (h102 : σ.part .engs = true) (h103 : σ.fld (pCREW (e / 4)) (Fld.mk F.CREW.STS.MOVED.off (8 + e % 4) 1)) (h104 : σ.fld (pCREW (e / 4)) F.CREW.STS.ACTIVE) (h105 : σ.fld (pCREW (e / 4)) F.CREW.STS.BUSY) (h106 : σ.fld (pCREW (e / 4)) F.CREW.SWAP.GO) (h107 : σ.fld (pCREW (e / 4)) F.CREW.SWAPCNT.COUNT) (h108 : σ.fld (pCREW (e / 4)) (Fld.mk 12 16 1)) (h109 : σ.fld (pENG e) F.ENG.STALLS.COUNT) :
    Kept σ ρ (State.doPull s e k w) := by
  unfold State.doPull
  exact Kept.ite (engNext_kept (hk0) h101 h102 h103 h104 h105 h106 h107 h108) (Kept.ite (engStall_kept (hk0) h102 h109) (engNext_kept (osrLoad_kept (hk0) h102) h101 h102 h103 h104 h105 h106 h107 h108))

theorem doPush_kept {σ : Scope} {ρ : State} {s : State} {e : ℕ} {k : ℕ} {w : ℕ} (hk0 : Kept σ ρ s) (h101 : σ.part .pins = true) (h102 : σ.part .engs = true) (h103 : σ.fld (pCREW (e / 4)) (Fld.mk F.CREW.STS.MOVED.off (8 + e % 4) 1)) (h104 : σ.fld (pCREW (e / 4)) F.CREW.STS.ACTIVE) (h105 : σ.fld (pCREW (e / 4)) F.CREW.STS.BUSY) (h106 : σ.fld (pCREW (e / 4)) F.CREW.SWAP.GO) (h107 : σ.fld (pCREW (e / 4)) F.CREW.SWAPCNT.COUNT) (h108 : σ.fld (pCREW (e / 4)) (Fld.mk 12 16 1)) (h109 : σ.fld (pENG e) F.ENG.STALLS.COUNT) (h110 : σ.fld (pENG e) F.ENG.DROP.RXDROP) (h111 : σ.fld (pENG e) (Fld.mk 12 9 1)) :
    Kept σ ρ (State.doPush s e k w) := by
  unfold State.doPush
  exact Kept.ite (engNext_kept (hk0) h101 h102 h103 h104 h105 h106 h107 h108) (Kept.ite (engNext_kept (setEng_kept (rxPush_kept (hk0) h102) h102) h101 h102 h103 h104 h105 h106 h107 h108) (Kept.ite (engStall_kept (hk0) h102 h109) (engNext_kept (event_kept (bumpSat_kept (setEng_kept (hk0) h102) h110) h111) h101 h102 h103 h104 h105 h106 h107 h108)))

theorem doSet_kept {σ : Scope} {ρ : State} {s : State} {e : ℕ} {k : ℕ} {w : ℕ} (hk0 : Kept σ ρ s) (h101 : σ.part .engs = true) (h102 : σ.part .pins = true) (h103 : σ.fld (pCREW (e / 4)) (Fld.mk F.CREW.STS.MOVED.off (8 + e % 4) 1)) (h104 : σ.fld (pCREW (e / 4)) F.CREW.STS.ACTIVE) (h105 : σ.fld (pCREW (e / 4)) F.CREW.STS.BUSY) (h106 : σ.fld (pCREW (e / 4)) F.CREW.SWAP.GO) (h107 : σ.fld (pCREW (e / 4)) F.CREW.SWAPCNT.COUNT) (h108 : σ.fld (pCREW (e / 4)) (Fld.mk 12 16 1)) :
    Kept σ ρ (State.doSet s e k w) := by
  unfold State.doSet
  exact (by (try dsimp only); split; exacts [engNext_kept (setEng_kept (hk0) h101) h102 h101 h103 h104 h105 h106 h107 h108, engNext_kept (setEng_kept (hk0) h101) h102 h101 h103 h104 h105 h106 h107 h108, engNext_kept (putBits_kept (hk0) h102) h102 h101 h103 h104 h105 h106 h107 h108])

theorem doStamp_kept {σ : Scope} {ρ : State} {s : State} {e : ℕ} {k : ℕ} {w : ℕ} (hk0 : Kept σ ρ s) (h101 : σ.part .engs = true) (h102 : σ.part .pins = true) (h103 : σ.fld (pENG e) F.ENG.STALLS.COUNT) (h104 : σ.fld (pCREW (e / 4)) (Fld.mk F.CREW.STS.MOVED.off (8 + e % 4) 1)) (h105 : σ.fld (pCREW (e / 4)) F.CREW.STS.ACTIVE) (h106 : σ.fld (pCREW (e / 4)) F.CREW.STS.BUSY) (h107 : σ.fld (pCREW (e / 4)) F.CREW.SWAP.GO) (h108 : σ.fld (pCREW (e / 4)) F.CREW.SWAPCNT.COUNT) (h109 : σ.fld (pCREW (e / 4)) (Fld.mk 12 16 1)) :
    Kept σ ρ (State.doStamp s e k w) := by
  unfold State.doStamp
  exact Kept.ite (engStall_kept (hk0) h101 h103) (Kept.cut (fun k1 => engNext_kept (Kept.ite (setEng_kept (k1) h101) (rxPush_kept (k1) h101)) h102 h101 h104 h105 h106 h107 h108 h109) (setPin_kept (hk0) h102))

theorem doWaitt_kept {σ : Scope} {ρ : State} {s : State} {e : ℕ} {k : ℕ} {w : ℕ} (hk0 : Kept σ ρ s) (h101 : σ.part .engs = true) :
    Kept σ ρ (State.doWaitt s e k w) := by
  unfold State.doWaitt
  exact (by (try dsimp only); split; exacts [setEng_kept (hk0) h101, setEng_kept (hk0) h101])

theorem runInstr_kept {σ : Scope} {ρ s : State} {e op : Nat} {body : State → Nat → Nat → Nat → State} (h : Kept σ ρ s)
    (f : ∀ t b c, Kept σ ρ t → Kept σ ρ (body t e b c)) (he : σ.part .engs = true) (hp : σ.part .pins = true)
    (hq : σ.part .edges = true) (h2 : σ.part .book = true)
    (h3 : σ.fld pBOOK F.BOOK.DISCARD.COUNT) (h4 : σ.fld pBOOK F.BOOK.SHADOW.DROP) (h5 : σ.fld pBOOK (Fld.mk 12 12 1))
    (h6 : ∀ n, σ.page (pEDGE n)) (h7 : σ.fld pBOOK F.BOOK.DISCARD_SYS.COUNT) (h8 : σ.fld pBOOK (Fld.mk 12 8 1)) (hd : σ.fld (pENG e) F.ENG.DROP.TXDROP) (hv : σ.fld (pENG e) ⟨12, 10, 1⟩) :
    Kept σ ρ (s.runInstr e op body) := by
  unfold State.runInstr
  exact Kept.ite (engDrive_kept (f _ _ _ (engArrive_kept (tookStep_kept h he) he hp hd hv)) hp hq h2 h3 h4 h5 h6 h7 h8) h

theorem stallRun_kept {σ : Scope} {ρ : State} {s : State} {e : ℕ} {k : ℕ} {w : ℕ} {y4 : StallKind} (hk0 : Kept σ ρ s) (h101 : σ.part .pins = true) (h102 : σ.part .engs = true) (h103 : σ.fld (pCREW (e / 4)) (Fld.mk F.CREW.STS.MOVED.off (8 + e % 4) 1)) (h104 : σ.fld (pCREW (e / 4)) F.CREW.STS.ACTIVE) (h105 : σ.fld (pCREW (e / 4)) F.CREW.STS.BUSY) (h106 : σ.fld (pCREW (e / 4)) F.CREW.SWAP.GO) (h107 : σ.fld (pCREW (e / 4)) F.CREW.SWAPCNT.COUNT) (h108 : σ.fld (pCREW (e / 4)) (Fld.mk 12 16 1)) (h109 : σ.fld (pENG e) F.ENG.STALLS.COUNT) (h110 : σ.fld (pENG e) F.ENG.DROP.RXDROP) (h111 : σ.fld (pENG e) (Fld.mk 12 9 1)) :
    Kept σ ρ (State.stallRun s e k w y4) := by
  unfold State.stallRun
  exact (by split; exacts [doPull_kept (hk0) h101 h102 h103 h104 h105 h106 h107 h108 h109, doOut_kept (hk0) h102 h101 h109 h103 h104 h105 h106 h107 h108, doPush_kept (hk0) h101 h102 h103 h104 h105 h106 h107 h108 h109 h110 h111, inFlush_kept (hk0) h102 h101 h103 h104 h105 h106 h107 h108 h109, doStamp_kept (hk0) h102 h101 h109 h103 h104 h105 h106 h107 h108])

theorem stallDone_kept {σ : Scope} {ρ : State} {s : State} {e : ℕ} {kind : StallKind} {start : ℕ} (hk0 : Kept σ ρ s) (h101 : σ.part .engs = true) (h102 : σ.part .pins = true) (h103 : σ.part .edges = true) (h104 : σ.part .book = true) (h105 : σ.page (pENG e)) (h106 : σ.page (pCREW (e / 4))) (h107 : σ.page pBOOK) (h108 : ∀ n, σ.page (pEDGE n)) :
    Kept σ ρ (State.stallDone s e kind start) := by
  unfold State.stallDone
  exact (by (try dsimp only); split; exacts [hk0, Kept.ite (abandon_kept (hk0) h101 h105.fld h105.fld h105.fld h105.fld h106.fld h106.fld h106.fld h106.fld h106.fld h106.fld h106.fld h106.fld) (engDrive_kept (stallRun_kept (setEng_kept (stallLen_kept (txSettle_kept (tookStep_kept (hk0) h101) h101 h105.fld h105.fld) h105.fld h105.fld) h101) h102 h101 h106.fld h106.fld h106.fld h106.fld h106.fld h106.fld h105.fld h105.fld h105.fld) h102 h103 h104 h107.fld h107.fld h107.fld h108 h107.fld h107.fld)])

theorem undefStep_kept {σ : Scope} {ρ : State} {s : State} {eng : ℕ} (hk0 : Kept σ ρ s) (h101 : σ.part .engs = true) (h102 : σ.part .pins = true) (h103 : σ.part .edges = true) (h104 : σ.part .book = true) (h105 : σ.page (pENG eng)) (h106 : σ.page pBOOK) (h107 : ∀ n, σ.page (pEDGE n)) (h108 : σ.page (pCREW (eng / 4))) :
    Kept σ ρ (State.undefStep s eng) := by
  unfold State.undefStep
  exact engOff_kept (stopRun_kept (blockFault_kept (engDrive_kept (engArrive_kept (tookStep_kept (hk0) h101) h101 h102 h105.fld h105.fld) h102 h103 h104 h106.fld h106.fld h106.fld h107 h106.fld h106.fld) h105.fld h105.fld) h105.fld h105.fld) h101 h105.fld h105.fld h108.fld h108.fld h108.fld h108.fld h108.fld

theorem waitpDone_kept {σ : Scope} {ρ : State} {s : State} {e : ℕ} (hk0 : Kept σ ρ s) (h101 : σ.part .engs = true) (h102 : σ.part .crews = true) (h103 : σ.part .pins = true) (h104 : σ.part .edges = true) (h105 : σ.part .book = true) (h106 : σ.fld (pENG e) F.ENG.DROP.TXDROP) (h107 : σ.fld (pENG e) (Fld.mk 12 10 1)) (h108 : σ.fld (pCREW (e / 4)) (Fld.mk F.CREW.STS.MOVED.off (8 + e % 4) 1)) (h109 : σ.fld (pCREW (e / 4)) F.CREW.STS.ACTIVE) (h110 : σ.fld (pCREW (e / 4)) F.CREW.STS.BUSY) (h111 : σ.fld (pCREW (e / 4)) F.CREW.SWAP.GO) (h112 : σ.fld (pCREW (e / 4)) F.CREW.SWAPCNT.COUNT) (h113 : σ.fld (pCREW (e / 4)) (Fld.mk 12 16 1)) (h114 : σ.fld pBOOK F.BOOK.DISCARD.COUNT) (h115 : σ.fld pBOOK F.BOOK.SHADOW.DROP) (h116 : σ.fld pBOOK (Fld.mk 12 12 1)) (h117 : ∀ n, σ.page (pEDGE n)) (h118 : σ.fld pBOOK F.BOOK.DISCARD_SYS.COUNT) (h119 : σ.fld pBOOK (Fld.mk 12 8 1)) :
    Kept σ ρ (State.waitpDone s e) := by
  unfold State.waitpDone
  exact (by (try dsimp only); split; exacts [hk0, Kept.cut (fun k7 => engDrive_kept (engNext_kept (Kept.ite (clearFlags_kept (k7) h102) (k7)) h103 h101 h108 h109 h110 h111 h112 h113) h103 h104 h105 h114 h115 h116 h117 h118 h119) (setEng_kept (txSettle_kept (tookStep_kept (hk0) h101) h101 h106 h107) h101)])

theorem waittDone_kept {σ : Scope} {ρ : State} {s : State} {e : ℕ} {target : ℤ} {atOnce : Bool} (hk0 : Kept σ ρ s) (h101 : σ.part .engs = true) (h102 : σ.part .pins = true) (h103 : σ.part .edges = true) (h104 : σ.part .book = true) (h105 : σ.fld (pENG e) F.ENG.DROP.TXDROP) (h106 : σ.fld (pENG e) (Fld.mk 12 10 1)) (h107 : σ.fld (pCREW (e / 4)) (Fld.mk F.CREW.STS.MOVED.off (8 + e % 4) 1)) (h108 : σ.fld (pCREW (e / 4)) F.CREW.STS.ACTIVE) (h109 : σ.fld (pCREW (e / 4)) F.CREW.STS.BUSY) (h110 : σ.fld (pCREW (e / 4)) F.CREW.SWAP.GO) (h111 : σ.fld (pCREW (e / 4)) F.CREW.SWAPCNT.COUNT) (h112 : σ.fld (pCREW (e / 4)) (Fld.mk 12 16 1)) (h113 : σ.fld pBOOK F.BOOK.DISCARD.COUNT) (h114 : σ.fld pBOOK F.BOOK.SHADOW.DROP) (h115 : σ.fld pBOOK (Fld.mk 12 12 1)) (h116 : ∀ n, σ.page (pEDGE n)) (h117 : σ.fld pBOOK F.BOOK.DISCARD_SYS.COUNT) (h118 : σ.fld pBOOK (Fld.mk 12 8 1)) (h119 : σ.fld (pENG e) (Fld.mk 12 11 1)) :
    Kept σ ρ (State.waittDone s e target atOnce) := by
  unfold State.waittDone
  exact Kept.cut (fun k1 => Kept.ite (engDrive_kept (engNext_kept (setEng_kept (k1) h101) h102 h101 h107 h108 h109 h110 h111 h112) h102 h103 h104 h113 h114 h115 h116 h117 h118) (Kept.cut (fun k3 => Kept.ite (engDone_kept (k3) h102 h101 h107 h108 h109 h110 h111 h112) (engDrive_kept (engNext_kept (k3) h102 h101 h107 h108 h109 h110 h111 h112) h102 h103 h104 h113 h114 h115 h116 h117 h118)) (event_kept (setEng_kept (k1) h101) h119))) (txSettle_kept (tookStep_kept (hk0) h101) h101 h105 h106)

theorem execCntComplete_kept {σ : Scope} {clk : ℕ} {eng : ℕ} {s : State} (h101 : σ.part .engs = true) (h102 : σ.part .pins = true) (h103 : σ.part .edges = true) (h104 : σ.part .book = true) (h105 : σ.fld (pENG eng) F.ENG.DROP.TXDROP) (h106 : σ.fld (pENG eng) (Fld.mk 12 10 1)) (h107 : σ.fld (pCREW (eng / 4)) (Fld.mk F.CREW.STS.MOVED.off (8 + eng % 4) 1)) (h108 : σ.fld (pCREW (eng / 4)) F.CREW.STS.ACTIVE) (h109 : σ.fld (pCREW (eng / 4)) F.CREW.STS.BUSY) (h110 : σ.fld (pCREW (eng / 4)) F.CREW.SWAP.GO) (h111 : σ.fld (pCREW (eng / 4)) F.CREW.SWAPCNT.COUNT) (h112 : σ.fld (pCREW (eng / 4)) (Fld.mk 12 16 1)) (h113 : σ.fld pBOOK F.BOOK.DISCARD.COUNT) (h114 : σ.fld pBOOK F.BOOK.SHADOW.DROP) (h115 : σ.fld pBOOK (Fld.mk 12 12 1)) (h116 : ∀ n, σ.page (pEDGE n)) (h117 : σ.fld pBOOK F.BOOK.DISCARD_SYS.COUNT) (h118 : σ.fld pBOOK (Fld.mk 12 8 1)) :
    KeptNext σ s (execCntComplete clk eng s) := by
  unfold execCntComplete
  exact KeptNext.next (Kept.ite (cntDone_kept (advance_kept (Kept.refl σ s)) h101 h102 h103 h104 h105 h106 h107 h108 h109 h110 h111 h112 h113 h114 h115 h116 h117 h118) (advance_kept (Kept.refl σ s)))

theorem execCrewFlagset_kept {σ : Scope} {clk : ℕ} {crew : ℕ} {mask : ℕ} {s : State} (h101 : σ.part .crews = true) (h102 : σ.part .page = true) (h103 : σ.fld pSYS (Fld.mk 12 11 1)) (h104 : σ.fld (pCREW crew) F.HDR.PSTS.CODE) (h105 : σ.fld (pCREW crew) F.HDR.PSTS.INDEX) (h106 : σ.fld (pCREW crew) F.HDR.PSTS.REFUSED) (h107 : σ.fld (pCREW crew) (Fld.mk 12 0 1)) :
    KeptNext σ s (execCrewFlagset clk crew mask s) := by
  unfold execCrewFlagset
  exact KeptNext.next (Kept.ite (fldWrite_kept (advance_kept (Kept.refl σ s)) (fun x0 k1 => flagSet_kept (k1) h101) h102 h103 h104 h105 h106 h107) (advance_kept (Kept.refl σ s)))

theorem execCrewGoEng_kept {σ : Scope} {clk : ℕ} {crew : ℕ} {mask : ℕ} {s : State} (h101 : σ.part .engs = true) (h102 : σ.part .page = true) (h103 : ∀ n, σ.page (pENG n)) (h104 : σ.fld pSYS (Fld.mk 12 11 1)) (h105 : σ.fld (pCREW crew) F.HDR.PSTS.CODE) (h106 : σ.fld (pCREW crew) F.HDR.PSTS.INDEX) (h107 : σ.fld (pCREW crew) F.HDR.PSTS.REFUSED) (h108 : σ.fld (pCREW crew) (Fld.mk 12 0 1)) :
    KeptNext σ s (execCrewGoEng clk crew mask s) := by
  unfold execCrewGoEng
  exact KeptNext.next (Kept.ite (fldWrite_kept (advance_kept (Kept.refl σ s)) (fun x0 k1 => goEng_kept (k1) h101 h103) h102 h104 h105 h106 h107 h108) (advance_kept (Kept.refl σ s)))

theorem execCrewSwapGo_kept {σ : Scope} {clk : ℕ} {crew : ℕ} {s : State} (h101 : σ.part .crews = true) (h102 : σ.part .page = true) (h103 : σ.fld (pCREW crew) F.HDR.PSTS.CODE) (h104 : σ.fld (pCREW crew) F.HDR.PSTS.INDEX) (h105 : σ.fld (pCREW crew) F.HDR.PSTS.REFUSED) (h106 : σ.fld (pCREW crew) (Fld.mk 12 0 1)) (h107 : σ.fld (pCREW crew) F.CREW.STS.MOVED) (h108 : σ.fld (pCREW crew) F.CREW.STS.ACTIVE) (h109 : σ.fld (pCREW crew) F.CREW.STS.BUSY) (h110 : σ.fld (pCREW crew) F.CREW.SWAP.GO) (h111 : σ.fld (pCREW crew) F.CREW.SWAPCNT.COUNT) (h112 : σ.fld (pCREW crew) (Fld.mk 12 16 1)) (h113 : σ.fld pSYS (Fld.mk 12 11 1)) :
    KeptNext σ s (execCrewSwapGo clk crew s) := by
  unfold execCrewSwapGo
  exact KeptNext.next (Kept.ite (bitWrite_kept (advance_kept (Kept.refl σ s)) (fun x0 k1 => swapGo_kept (k1) h101 h103 h104 h105 h106 h107 h108 h109 h110 h111 h112) h102 h113 h103 h104 h105 h106) (advance_kept (Kept.refl σ s)))

theorem execDlyComplete_kept {σ : Scope} {eng : ℕ} {s : State} (h101 : σ.part .engs = true) (h102 : σ.part .pins = true) (h103 : σ.fld (pCREW (eng / 4)) (Fld.mk F.CREW.STS.MOVED.off (8 + eng % 4) 1)) (h104 : σ.fld (pCREW (eng / 4)) F.CREW.STS.ACTIVE) (h105 : σ.fld (pCREW (eng / 4)) F.CREW.STS.BUSY) (h106 : σ.fld (pCREW (eng / 4)) F.CREW.SWAP.GO) (h107 : σ.fld (pCREW (eng / 4)) F.CREW.SWAPCNT.COUNT) (h108 : σ.fld (pCREW (eng / 4)) (Fld.mk 12 16 1)) :
    KeptNext σ s (execDlyComplete eng s) := by
  unfold execDlyComplete
  exact KeptNext.next (Kept.ite (dlyDone_kept (Kept.refl σ s) h101 h102 h103 h104 h105 h106 h107 h108) (Kept.refl σ s))

theorem execEngJump_kept {σ : Scope} {clk : ℕ} {eng : ℕ} {word : ℕ} {s : State} (h101 : σ.part .engs = true) (h102 : σ.part .page = true) (h103 : σ.fld pSYS (Fld.mk 12 11 1)) (h104 : σ.fld (pENG eng) F.HDR.PSTS.CODE) (h105 : σ.fld (pENG eng) F.HDR.PSTS.INDEX) (h106 : σ.fld (pENG eng) F.HDR.PSTS.REFUSED) (h107 : σ.fld (pENG eng) (Fld.mk 12 0 1)) :
    KeptNext σ s (execEngJump clk eng word s) := by
  unfold execEngJump
  exact KeptNext.next (Kept.ite (fldWrite_kept (advance_kept (Kept.refl σ s)) (fun x0 k1 => engJump_kept (k1) h101) h102 h103 h104 h105 h106 h107) (advance_kept (Kept.refl σ s)))

theorem execEngRxfPop_kept {σ : Scope} {clk : ℕ} {eng : ℕ} {s : State} (h101 : σ.part .result = true) (h102 : σ.part .engs = true) :
    KeptNext σ s (execEngRxfPop clk eng s) := by
  unfold execEngRxfPop
  exact KeptNext.next (Kept.ite (whenOn_kept (advance_kept (Kept.refl σ s)) (fun x0 k1 => rxfPop_kept (k1) h101 h102)) (advance_kept (Kept.refl σ s)))

theorem execEngSnap_kept {σ : Scope} {clk : ℕ} {eng : ℕ} {s : State} (h101 : σ.part .engs = true) (h102 : σ.part .page = true) (h103 : σ.fld pSYS (Fld.mk 12 11 1)) (h104 : σ.fld (pENG eng) F.HDR.PSTS.CODE) (h105 : σ.fld (pENG eng) F.HDR.PSTS.INDEX) (h106 : σ.fld (pENG eng) F.HDR.PSTS.REFUSED) (h107 : σ.fld (pENG eng) (Fld.mk 12 0 1)) :
    KeptNext σ s (execEngSnap clk eng s) := by
  unfold execEngSnap
  exact KeptNext.next (Kept.ite (bitWrite_kept (advance_kept (Kept.refl σ s)) (fun x0 k1 => engSnap_kept (k1) h101) h102 h103 h104 h105 h106 h107) (advance_kept (Kept.refl σ s)))

theorem execEngTxfWrite_kept {σ : Scope} {clk : ℕ} {eng : ℕ} {data : Word} {s : State} (h101 : σ.part .engs = true) (h102 : σ.part .page = true) (h103 : σ.fld (pENG eng) F.ENG.DROP.TXDROP) (h104 : σ.fld (pENG eng) (Fld.mk 12 10 1)) (h105 : σ.fld pSYS (Fld.mk 12 11 1)) (h106 : σ.fld (pENG eng) F.HDR.PSTS.CODE) (h107 : σ.fld (pENG eng) F.HDR.PSTS.INDEX) (h108 : σ.fld (pENG eng) F.HDR.PSTS.REFUSED) (h109 : σ.fld (pENG eng) (Fld.mk 12 0 1)) :
    KeptNext σ s (execEngTxfWrite clk eng data s) := by
  unfold execEngTxfWrite
  exact KeptNext.next (Kept.ite (regWrite_kept (advance_kept (Kept.refl σ s)) (fun x0 k1 => txfWrite_kept (k1) h101 h103 h104) h102 h105 h106 h107 h108 h109) (advance_kept (Kept.refl σ s)))

theorem execEngineStallEnd_kept {σ : Scope} {eng : ℕ} {s : State} (h101 : σ.part .engs = true) (h102 : σ.part .pins = true) (h103 : σ.part .edges = true) (h104 : σ.part .book = true) (h105 : σ.page (pENG eng)) (h106 : σ.page (pCREW (eng / 4))) (h107 : σ.page pBOOK) (h108 : ∀ n, σ.page (pEDGE n)) :
    KeptNext σ s (execEngineStallEnd eng s) := by
  unfold execEngineStallEnd
  exact KeptNext.next ((by split; exacts [Kept.ite (stallDone_kept (Kept.refl σ s) h101 h102 h103 h104 h105 h106 h107 h108) (Kept.refl σ s), Kept.refl σ s]))

theorem execInstrCnt_kept {σ : Scope} {eng : ℕ} {s : State} (h101 : σ.part .engs = true) (h102 : σ.part .pins = true) (h103 : σ.part .edges = true) (h104 : σ.part .book = true) (h105 : σ.fld (pENG eng) F.ENG.DROP.TXDROP) (h106 : σ.fld (pENG eng) (Fld.mk 12 10 1)) (h107 : σ.fld pBOOK F.BOOK.DISCARD.COUNT) (h108 : σ.fld pBOOK F.BOOK.SHADOW.DROP) (h109 : σ.fld pBOOK (Fld.mk 12 12 1)) (h110 : ∀ n, σ.page (pEDGE n)) (h111 : σ.fld pBOOK F.BOOK.DISCARD_SYS.COUNT) (h112 : σ.fld pBOOK (Fld.mk 12 8 1)) :
    KeptNext σ s (execInstrCnt eng s) := by
  unfold execInstrCnt
  exact KeptNext.next (beginWatch_kept (Kept.refl σ s) h101 h102 h103 h104 h105 h106 h107 h108 h109 h110 h111 h112)

theorem execInstrDelayEnd_kept {σ : Scope} {eng : ℕ} {s : State} (h101 : σ.part .engs = true) (h102 : σ.fld (pCREW (eng / 4)) (Fld.mk F.CREW.STS.MOVED.off (8 + eng % 4) 1)) (h103 : σ.fld (pCREW (eng / 4)) F.CREW.STS.ACTIVE) (h104 : σ.fld (pCREW (eng / 4)) F.CREW.STS.BUSY) (h105 : σ.fld (pCREW (eng / 4)) F.CREW.SWAP.GO) (h106 : σ.fld (pCREW (eng / 4)) F.CREW.SWAPCNT.COUNT) (h107 : σ.fld (pCREW (eng / 4)) (Fld.mk 12 16 1)) :
    KeptNext σ s (execInstrDelayEnd eng s) := by
  unfold execInstrDelayEnd
  exact KeptNext.next (Kept.ite (delayDone_kept (Kept.refl σ s) h101 h102 h103 h104 h105 h106 h107) (Kept.refl σ s))

theorem execInstrDly_kept {σ : Scope} {eng : ℕ} {s : State} (h101 : σ.part .pins = true) (h102 : σ.part .engs = true) (h103 : σ.part .edges = true) (h104 : σ.part .book = true) (h105 : σ.fld (pCREW (eng / 4)) (Fld.mk F.CREW.STS.MOVED.off (8 + eng % 4) 1)) (h106 : σ.fld (pCREW (eng / 4)) F.CREW.STS.ACTIVE) (h107 : σ.fld (pCREW (eng / 4)) F.CREW.STS.BUSY) (h108 : σ.fld (pCREW (eng / 4)) F.CREW.SWAP.GO) (h109 : σ.fld (pCREW (eng / 4)) F.CREW.SWAPCNT.COUNT) (h110 : σ.fld (pCREW (eng / 4)) (Fld.mk 12 16 1)) (h111 : σ.fld pBOOK F.BOOK.DISCARD.COUNT) (h112 : σ.fld pBOOK F.BOOK.SHADOW.DROP) (h113 : σ.fld pBOOK (Fld.mk 12 12 1)) (h114 : ∀ n, σ.page (pEDGE n)) (h115 : σ.fld pBOOK F.BOOK.DISCARD_SYS.COUNT) (h116 : σ.fld pBOOK (Fld.mk 12 8 1)) (h117 : σ.fld (pENG eng) F.ENG.DROP.TXDROP) (h118 : σ.fld (pENG eng) (Fld.mk 12 10 1)) :
    KeptNext σ s (execInstrDly eng s) := by
  unfold execInstrDly
  exact KeptNext.next (runInstr_kept (Kept.refl σ s) (fun x0 _ _ k1 => doDly_kept (k1) h101 h102 h105 h106 h107 h108 h109 h110) h102 h101 h103 h104 h111 h112 h113 h114 h115 h116 h117 h118)

theorem execInstrIn_kept {σ : Scope} {eng : ℕ} {s : State} (h101 : σ.part .engs = true) (h102 : σ.part .pins = true) (h103 : σ.part .edges = true) (h104 : σ.part .book = true) (h105 : σ.fld (pCREW (eng / 4)) (Fld.mk F.CREW.STS.MOVED.off (8 + eng % 4) 1)) (h106 : σ.fld (pCREW (eng / 4)) F.CREW.STS.ACTIVE) (h107 : σ.fld (pCREW (eng / 4)) F.CREW.STS.BUSY) (h108 : σ.fld (pCREW (eng / 4)) F.CREW.SWAP.GO) (h109 : σ.fld (pCREW (eng / 4)) F.CREW.SWAPCNT.COUNT) (h110 : σ.fld (pCREW (eng / 4)) (Fld.mk 12 16 1)) (h111 : σ.fld (pENG eng) F.ENG.STALLS.COUNT) (h112 : σ.fld pBOOK F.BOOK.DISCARD.COUNT) (h113 : σ.fld pBOOK F.BOOK.SHADOW.DROP) (h114 : σ.fld pBOOK (Fld.mk 12 12 1)) (h115 : ∀ n, σ.page (pEDGE n)) (h116 : σ.fld pBOOK F.BOOK.DISCARD_SYS.COUNT) (h117 : σ.fld pBOOK (Fld.mk 12 8 1)) (h118 : σ.fld (pENG eng) F.ENG.DROP.TXDROP) (h119 : σ.fld (pENG eng) (Fld.mk 12 10 1)) :
    KeptNext σ s (execInstrIn eng s) := by
  unfold execInstrIn
  exact KeptNext.next (runInstr_kept (Kept.refl σ s) (fun x0 _ _ k1 => doIn_kept (k1) h101 h102 h105 h106 h107 h108 h109 h110 h111) h101 h102 h103 h104 h112 h113 h114 h115 h116 h117 h118 h119)

theorem execInstrJmp_kept {σ : Scope} {eng : ℕ} {s : State} (h101 : σ.part .engs = true) (h102 : σ.part .pins = true) (h103 : σ.part .edges = true) (h104 : σ.part .book = true) (h105 : σ.fld (pCREW (eng / 4)) (Fld.mk F.CREW.STS.MOVED.off (8 + eng % 4) 1)) (h106 : σ.fld (pCREW (eng / 4)) F.CREW.STS.ACTIVE) (h107 : σ.fld (pCREW (eng / 4)) F.CREW.STS.BUSY) (h108 : σ.fld (pCREW (eng / 4)) F.CREW.SWAP.GO) (h109 : σ.fld (pCREW (eng / 4)) F.CREW.SWAPCNT.COUNT) (h110 : σ.fld (pCREW (eng / 4)) (Fld.mk 12 16 1)) (h111 : σ.fld pBOOK F.BOOK.DISCARD.COUNT) (h112 : σ.fld pBOOK F.BOOK.SHADOW.DROP) (h113 : σ.fld pBOOK (Fld.mk 12 12 1)) (h114 : ∀ n, σ.page (pEDGE n)) (h115 : σ.fld pBOOK F.BOOK.DISCARD_SYS.COUNT) (h116 : σ.fld pBOOK (Fld.mk 12 8 1)) (h117 : σ.fld (pENG eng) F.ENG.DROP.TXDROP) (h118 : σ.fld (pENG eng) (Fld.mk 12 10 1)) :
    KeptNext σ s (execInstrJmp eng s) := by
  unfold execInstrJmp
  exact KeptNext.next (runInstr_kept (Kept.refl σ s) (fun x0 _ _ k1 => doJmp_kept (k1) h101 h102 h105 h106 h107 h108 h109 h110) h101 h102 h103 h104 h111 h112 h113 h114 h115 h116 h117 h118)

theorem execInstrMov_kept {σ : Scope} {eng : ℕ} {s : State} (h101 : σ.part .engs = true) (h102 : σ.part .pins = true) (h103 : σ.part .edges = true) (h104 : σ.part .book = true) (h105 : σ.fld (pCREW (eng / 4)) (Fld.mk F.CREW.STS.MOVED.off (8 + eng % 4) 1)) (h106 : σ.fld (pCREW (eng / 4)) F.CREW.STS.ACTIVE) (h107 : σ.fld (pCREW (eng / 4)) F.CREW.STS.BUSY) (h108 : σ.fld (pCREW (eng / 4)) F.CREW.SWAP.GO) (h109 : σ.fld (pCREW (eng / 4)) F.CREW.SWAPCNT.COUNT) (h110 : σ.fld (pCREW (eng / 4)) (Fld.mk 12 16 1)) (h111 : σ.fld pBOOK F.BOOK.DISCARD.COUNT) (h112 : σ.fld pBOOK F.BOOK.SHADOW.DROP) (h113 : σ.fld pBOOK (Fld.mk 12 12 1)) (h114 : ∀ n, σ.page (pEDGE n)) (h115 : σ.fld pBOOK F.BOOK.DISCARD_SYS.COUNT) (h116 : σ.fld pBOOK (Fld.mk 12 8 1)) (h117 : σ.fld (pENG eng) F.ENG.DROP.TXDROP) (h118 : σ.fld (pENG eng) (Fld.mk 12 10 1)) :
    KeptNext σ s (execInstrMov eng s) := by
  unfold execInstrMov
  exact KeptNext.next (runInstr_kept (Kept.refl σ s) (fun x0 _ _ k1 => doMov_kept (k1) h101 h102 h105 h106 h107 h108 h109 h110) h101 h102 h103 h104 h111 h112 h113 h114 h115 h116 h117 h118)

theorem execInstrNote_kept {σ : Scope} {eng : ℕ} {s : State} (h101 : σ.part .crews = true) (h102 : σ.part .pins = true) (h103 : σ.part .engs = true) (h104 : σ.part .edges = true) (h105 : σ.part .book = true) (h106 : σ.page (pCREW (eng / 4))) (h107 : σ.fld pBOOK F.BOOK.DISCARD.COUNT) (h108 : σ.fld pBOOK F.BOOK.SHADOW.DROP) (h109 : σ.fld pBOOK (Fld.mk 12 12 1)) (h110 : ∀ n, σ.page (pEDGE n)) (h111 : σ.fld pBOOK F.BOOK.DISCARD_SYS.COUNT) (h112 : σ.fld pBOOK (Fld.mk 12 8 1)) (h113 : σ.fld (pENG eng) F.ENG.DROP.TXDROP) (h114 : σ.fld (pENG eng) (Fld.mk 12 10 1)) :
    KeptNext σ s (execInstrNote eng s) := by
  unfold execInstrNote
  exact KeptNext.next (runInstr_kept (Kept.refl σ s) (fun x0 _ _ k1 => doNote_kept (k1) h101 h102 h103 h106.fld h106.fld h106.fld h106.fld h106.fld h106.fld h106.fld) h103 h102 h104 h105 h107 h108 h109 h110 h111 h112 h113 h114)

theorem execInstrOut_kept {σ : Scope} {eng : ℕ} {s : State} (h101 : σ.part .engs = true) (h102 : σ.part .pins = true) (h103 : σ.part .edges = true) (h104 : σ.part .book = true) (h105 : σ.fld (pENG eng) F.ENG.STALLS.COUNT) (h106 : σ.fld (pCREW (eng / 4)) (Fld.mk F.CREW.STS.MOVED.off (8 + eng % 4) 1)) (h107 : σ.fld (pCREW (eng / 4)) F.CREW.STS.ACTIVE) (h108 : σ.fld (pCREW (eng / 4)) F.CREW.STS.BUSY) (h109 : σ.fld (pCREW (eng / 4)) F.CREW.SWAP.GO) (h110 : σ.fld (pCREW (eng / 4)) F.CREW.SWAPCNT.COUNT) (h111 : σ.fld (pCREW (eng / 4)) (Fld.mk 12 16 1)) (h112 : σ.fld pBOOK F.BOOK.DISCARD.COUNT) (h113 : σ.fld pBOOK F.BOOK.SHADOW.DROP) (h114 : σ.fld pBOOK (Fld.mk 12 12 1)) (h115 : ∀ n, σ.page (pEDGE n)) (h116 : σ.fld pBOOK F.BOOK.DISCARD_SYS.COUNT) (h117 : σ.fld pBOOK (Fld.mk 12 8 1)) (h118 : σ.fld (pENG eng) F.ENG.DROP.TXDROP) (h119 : σ.fld (pENG eng) (Fld.mk 12 10 1)) :
    KeptNext σ s (execInstrOut eng s) := by
  unfold execInstrOut
  exact KeptNext.next (runInstr_kept (Kept.refl σ s) (fun x0 _ _ k1 => doOut_kept (k1) h101 h102 h105 h106 h107 h108 h109 h110 h111) h101 h102 h103 h104 h112 h113 h114 h115 h116 h117 h118 h119)

theorem execInstrPull_kept {σ : Scope} {eng : ℕ} {s : State} (h101 : σ.part .pins = true) (h102 : σ.part .engs = true) (h103 : σ.part .edges = true) (h104 : σ.part .book = true) (h105 : σ.fld (pCREW (eng / 4)) (Fld.mk F.CREW.STS.MOVED.off (8 + eng % 4) 1)) (h106 : σ.fld (pCREW (eng / 4)) F.CREW.STS.ACTIVE) (h107 : σ.fld (pCREW (eng / 4)) F.CREW.STS.BUSY) (h108 : σ.fld (pCREW (eng / 4)) F.CREW.SWAP.GO) (h109 : σ.fld (pCREW (eng / 4)) F.CREW.SWAPCNT.COUNT) (h110 : σ.fld (pCREW (eng / 4)) (Fld.mk 12 16 1)) (h111 : σ.fld (pENG eng) F.ENG.STALLS.COUNT) (h112 : σ.fld pBOOK F.BOOK.DISCARD.COUNT) (h113 : σ.fld pBOOK F.BOOK.SHADOW.DROP) (h114 : σ.fld pBOOK (Fld.mk 12 12 1)) (h115 : ∀ n, σ.page (pEDGE n)) (h116 : σ.fld pBOOK F.BOOK.DISCARD_SYS.COUNT) (h117 : σ.fld pBOOK (Fld.mk 12 8 1)) (h118 : σ.fld (pENG eng) F.ENG.DROP.TXDROP) (h119 : σ.fld (pENG eng) (Fld.mk 12 10 1)) :
    KeptNext σ s (execInstrPull eng s) := by
  unfold execInstrPull
  exact KeptNext.next (runInstr_kept (Kept.refl σ s) (fun x0 _ _ k1 => doPull_kept (k1) h101 h102 h105 h106 h107 h108 h109 h110 h111) h102 h101 h103 h104 h112 h113 h114 h115 h116 h117 h118 h119)

theorem execInstrPush_kept {σ : Scope} {eng : ℕ} {s : State} (h101 : σ.part .pins = true) (h102 : σ.part .engs = true) (h103 : σ.part .edges = true) (h104 : σ.part .book = true) (h105 : σ.page (pCREW (eng / 4))) (h106 : σ.page (pENG eng)) (h107 : σ.page pBOOK) (h108 : ∀ n, σ.page (pEDGE n)) :
    KeptNext σ s (execInstrPush eng s) := by
  unfold execInstrPush
  exact KeptNext.next (runInstr_kept (Kept.refl σ s) (fun x0 _ _ k1 => doPush_kept (k1) h101 h102 h105.fld h105.fld h105.fld h105.fld h105.fld h105.fld h106.fld h106.fld h106.fld) h102 h101 h103 h104 h107.fld h107.fld h107.fld h108 h107.fld h107.fld h106.fld h106.fld)

theorem execInstrSet_kept {σ : Scope} {eng : ℕ} {s : State} (h101 : σ.part .engs = true) (h102 : σ.part .pins = true) (h103 : σ.part .edges = true) (h104 : σ.part .book = true) (h105 : σ.fld (pCREW (eng / 4)) (Fld.mk F.CREW.STS.MOVED.off (8 + eng % 4) 1)) (h106 : σ.fld (pCREW (eng / 4)) F.CREW.STS.ACTIVE) (h107 : σ.fld (pCREW (eng / 4)) F.CREW.STS.BUSY) (h108 : σ.fld (pCREW (eng / 4)) F.CREW.SWAP.GO) (h109 : σ.fld (pCREW (eng / 4)) F.CREW.SWAPCNT.COUNT) (h110 : σ.fld (pCREW (eng / 4)) (Fld.mk 12 16 1)) (h111 : σ.fld pBOOK F.BOOK.DISCARD.COUNT) (h112 : σ.fld pBOOK F.BOOK.SHADOW.DROP) (h113 : σ.fld pBOOK (Fld.mk 12 12 1)) (h114 : ∀ n, σ.page (pEDGE n)) (h115 : σ.fld pBOOK F.BOOK.DISCARD_SYS.COUNT) (h116 : σ.fld pBOOK (Fld.mk 12 8 1)) (h117 : σ.fld (pENG eng) F.ENG.DROP.TXDROP) (h118 : σ.fld (pENG eng) (Fld.mk 12 10 1)) :
    KeptNext σ s (execInstrSet eng s) := by
  unfold execInstrSet
  exact KeptNext.next (runInstr_kept (Kept.refl σ s) (fun x0 _ _ k1 => doSet_kept (k1) h101 h102 h105 h106 h107 h108 h109 h110) h101 h102 h103 h104 h111 h112 h113 h114 h115 h116 h117 h118)

theorem execInstrStamp_kept {σ : Scope} {eng : ℕ} {s : State} (h101 : σ.part .engs = true) (h102 : σ.part .pins = true) (h103 : σ.part .edges = true) (h104 : σ.part .book = true) (h105 : σ.fld (pENG eng) F.ENG.STALLS.COUNT) (h106 : σ.fld (pCREW (eng / 4)) (Fld.mk F.CREW.STS.MOVED.off (8 + eng % 4) 1)) (h107 : σ.fld (pCREW (eng / 4)) F.CREW.STS.ACTIVE) (h108 : σ.fld (pCREW (eng / 4)) F.CREW.STS.BUSY) (h109 : σ.fld (pCREW (eng / 4)) F.CREW.SWAP.GO) (h110 : σ.fld (pCREW (eng / 4)) F.CREW.SWAPCNT.COUNT) (h111 : σ.fld (pCREW (eng / 4)) (Fld.mk 12 16 1)) (h112 : σ.fld pBOOK F.BOOK.DISCARD.COUNT) (h113 : σ.fld pBOOK F.BOOK.SHADOW.DROP) (h114 : σ.fld pBOOK (Fld.mk 12 12 1)) (h115 : ∀ n, σ.page (pEDGE n)) (h116 : σ.fld pBOOK F.BOOK.DISCARD_SYS.COUNT) (h117 : σ.fld pBOOK (Fld.mk 12 8 1)) (h118 : σ.fld (pENG eng) F.ENG.DROP.TXDROP) (h119 : σ.fld (pENG eng) (Fld.mk 12 10 1)) :
    KeptNext σ s (execInstrStamp eng s) := by
  unfold execInstrStamp
  exact KeptNext.next (runInstr_kept (Kept.refl σ s) (fun x0 _ _ k1 => doStamp_kept (k1) h101 h102 h105 h106 h107 h108 h109 h110 h111) h101 h102 h103 h104 h112 h113 h114 h115 h116 h117 h118 h119)

theorem execInstrWaitp_kept {σ : Scope} {eng : ℕ} {s : State} (h101 : σ.part .engs = true) (h102 : σ.part .pins = true) (h103 : σ.part .edges = true) (h104 : σ.part .book = true) (h105 : σ.fld (pENG eng) F.ENG.DROP.TXDROP) (h106 : σ.fld (pENG eng) (Fld.mk 12 10 1)) (h107 : σ.fld pBOOK F.BOOK.DISCARD.COUNT) (h108 : σ.fld pBOOK F.BOOK.SHADOW.DROP) (h109 : σ.fld pBOOK (Fld.mk 12 12 1)) (h110 : ∀ n, σ.page (pEDGE n)) (h111 : σ.fld pBOOK F.BOOK.DISCARD_SYS.COUNT) (h112 : σ.fld pBOOK (Fld.mk 12 8 1)) :
    KeptNext σ s (execInstrWaitp eng s) := by
  unfold execInstrWaitp
  exact KeptNext.next (beginWatch_kept (Kept.refl σ s) h101 h102 h103 h104 h105 h106 h107 h108 h109 h110 h111 h112)

theorem execInstrWaitt_kept {σ : Scope} {eng : ℕ} {s : State} (h101 : σ.part .engs = true) (h102 : σ.part .pins = true) (h103 : σ.part .edges = true) (h104 : σ.part .book = true) (h105 : σ.fld pBOOK F.BOOK.DISCARD.COUNT) (h106 : σ.fld pBOOK F.BOOK.SHADOW.DROP) (h107 : σ.fld pBOOK (Fld.mk 12 12 1)) (h108 : ∀ n, σ.page (pEDGE n)) (h109 : σ.fld pBOOK F.BOOK.DISCARD_SYS.COUNT) (h110 : σ.fld pBOOK (Fld.mk 12 8 1)) (h111 : σ.fld (pENG eng) F.ENG.DROP.TXDROP) (h112 : σ.fld (pENG eng) (Fld.mk 12 10 1)) :
    KeptNext σ s (execInstrWaitt eng s) := by
  unfold execInstrWaitt
  exact KeptNext.next (runInstr_kept (Kept.refl σ s) (fun x0 _ _ k1 => doWaitt_kept (k1) h101) h101 h102 h103 h104 h105 h106 h107 h108 h109 h110 h111 h112)

theorem execStallLong_kept {σ : Scope} {eng : ℕ} {s : State} (h101 : σ.part .engs = true) (h102 : σ.fld (pENG eng) (Fld.mk 12 8 1)) :
    KeptNext σ s (execStallLong eng s) := by
  unfold execStallLong
  exact KeptNext.next ((by (try dsimp only); split; exacts [Kept.ite (Kept.refl σ s) (event_kept (setEng_kept (advance_kept (Kept.refl σ s)) h101) h102), Kept.refl σ s]))

theorem execSwapAbandon_kept {σ : Scope} {eng : ℕ} {s : State} (h101 : σ.part .engs = true) (h102 : σ.fld (pENG eng) F.ENG.DROP.TXDROP) (h103 : σ.fld (pENG eng) (Fld.mk 12 10 1)) (h104 : σ.fld (pENG eng) F.ENG.STALL_LAST.TICKS) (h105 : σ.fld (pENG eng) F.ENG.STALL_MAX.TICKS) (h106 : σ.fld (pCREW (eng / 4)) F.CREW.ABANDONED.COUNT) (h107 : σ.fld (pCREW (eng / 4)) (Fld.mk 12 17 1)) (h108 : σ.fld (pCREW (eng / 4)) (Fld.mk F.CREW.STS.MOVED.off (8 + eng % 4) 1)) (h109 : σ.fld (pCREW (eng / 4)) F.CREW.STS.ACTIVE) (h110 : σ.fld (pCREW (eng / 4)) F.CREW.STS.BUSY) (h111 : σ.fld (pCREW (eng / 4)) F.CREW.SWAP.GO) (h112 : σ.fld (pCREW (eng / 4)) F.CREW.SWAPCNT.COUNT) (h113 : σ.fld (pCREW (eng / 4)) (Fld.mk 12 16 1)) :
    KeptNext σ s (execSwapAbandon eng s) := by
  unfold execSwapAbandon
  exact KeptNext.next (abandon_kept (Kept.refl σ s) h101 h102 h103 h104 h105 h106 h107 h108 h109 h110 h111 h112 h113)

theorem execWaitpComplete_kept {σ : Scope} {clk : ℕ} {eng : ℕ} {s : State} (h101 : σ.part .engs = true) (h102 : σ.part .crews = true) (h103 : σ.part .pins = true) (h104 : σ.part .edges = true) (h105 : σ.part .book = true) (h106 : σ.fld (pENG eng) F.ENG.DROP.TXDROP) (h107 : σ.fld (pENG eng) (Fld.mk 12 10 1)) (h108 : σ.fld (pCREW (eng / 4)) (Fld.mk F.CREW.STS.MOVED.off (8 + eng % 4) 1)) (h109 : σ.fld (pCREW (eng / 4)) F.CREW.STS.ACTIVE) (h110 : σ.fld (pCREW (eng / 4)) F.CREW.STS.BUSY) (h111 : σ.fld (pCREW (eng / 4)) F.CREW.SWAP.GO) (h112 : σ.fld (pCREW (eng / 4)) F.CREW.SWAPCNT.COUNT) (h113 : σ.fld (pCREW (eng / 4)) (Fld.mk 12 16 1)) (h114 : σ.fld pBOOK F.BOOK.DISCARD.COUNT) (h115 : σ.fld pBOOK F.BOOK.SHADOW.DROP) (h116 : σ.fld pBOOK (Fld.mk 12 12 1)) (h117 : ∀ n, σ.page (pEDGE n)) (h118 : σ.fld pBOOK F.BOOK.DISCARD_SYS.COUNT) (h119 : σ.fld pBOOK (Fld.mk 12 8 1)) :
    KeptNext σ s (execWaitpComplete clk eng s) := by
  unfold execWaitpComplete
  exact KeptNext.next (Kept.ite (waitpDone_kept (advance_kept (Kept.refl σ s)) h101 h102 h103 h104 h105 h106 h107 h108 h109 h110 h111 h112 h113 h114 h115 h116 h117 h118 h119) (advance_kept (Kept.refl σ s)))

theorem execWaittComplete_kept {σ : Scope} {eng : ℕ} {s : State} (h101 : σ.part .engs = true) (h102 : σ.part .pins = true) (h103 : σ.part .edges = true) (h104 : σ.part .book = true) (h105 : σ.fld (pENG eng) F.ENG.DROP.TXDROP) (h106 : σ.fld (pENG eng) (Fld.mk 12 10 1)) (h107 : σ.fld (pCREW (eng / 4)) (Fld.mk F.CREW.STS.MOVED.off (8 + eng % 4) 1)) (h108 : σ.fld (pCREW (eng / 4)) F.CREW.STS.ACTIVE) (h109 : σ.fld (pCREW (eng / 4)) F.CREW.STS.BUSY) (h110 : σ.fld (pCREW (eng / 4)) F.CREW.SWAP.GO) (h111 : σ.fld (pCREW (eng / 4)) F.CREW.SWAPCNT.COUNT) (h112 : σ.fld (pCREW (eng / 4)) (Fld.mk 12 16 1)) (h113 : σ.fld pBOOK F.BOOK.DISCARD.COUNT) (h114 : σ.fld pBOOK F.BOOK.SHADOW.DROP) (h115 : σ.fld pBOOK (Fld.mk 12 12 1)) (h116 : ∀ n, σ.page (pEDGE n)) (h117 : σ.fld pBOOK F.BOOK.DISCARD_SYS.COUNT) (h118 : σ.fld pBOOK (Fld.mk 12 8 1)) (h119 : σ.fld (pENG eng) (Fld.mk 12 11 1)) :
    KeptNext σ s (execWaittComplete eng s) := by
  unfold execWaittComplete
  exact KeptNext.next ((by split; exacts [Kept.ite (waittDone_kept (Kept.refl σ s) h101 h102 h103 h104 h105 h106 h107 h108 h109 h110 h111 h112 h113 h114 h115 h116 h117 h118 h119) (Kept.refl σ s), Kept.refl σ s]))

end Sys2Proof.Laws
end

