-- ==== Sys2Proof/Laws/Kept08.lean ====
section
/-!
SUPPORT. What the operations and commands of these files keep: Machine/Stake.
-/

namespace Sys2Proof.Laws

open Sys2Proof Sys2Proof.Machine

theorem stakeOn_kept {σ : Scope} {ρ : State} {s : State} (hk0 : Kept σ ρ s) (h101 : σ.fld pSTAKE F.STAKE.QSTS.HWM) :
    Kept σ ρ (State.stakeOn s) := by
  unfold State.stakeOn
  exact set_kept (hk0) h101

theorem setShadows_kept {σ : Scope} {ρ s : State} {p off : Nat} {l : List Nat} (h : Kept σ ρ s)
    (hs : σ.part .shadow = true) : Kept σ ρ (s.setShadows p off l) := by
  induction l generalizing s off with
  | nil => exact h
  | cons x t ih => exact ih (setShadow_kept h hs)

theorem rcptPop_kept {σ : Scope} {ρ : State} {s : State} (hk0 : Kept σ ρ s) (h101 : σ.part .shadow = true) (h102 : σ.part .result = true) (h103 : σ.part .stake = true) :
    Kept σ ρ (State.rcptPop s) := by
  unfold State.rcptPop
  exact (by (try dsimp only); split; exacts [Kept.result (setShadows_kept (hk0) h101) h102, Kept.u_result_stake (setShadows_kept (hk0) h101) h102 h103 ])

theorem stakeOff_kept {σ : Scope} {ρ : State} {s : State} (hk0 : Kept σ ρ s) (h101 : σ.part .stake = true) (h102 : σ.fld pSTAKE F.STAKE.MISSED.COUNT) (h103 : σ.fld pSTAKE (Fld.mk 12 9 1)) :
    Kept σ ρ (State.stakeOff s) := by
  unfold State.stakeOff
  exact Kept.stake (Kept.ite (hk0) (event_kept (bumpBy_kept (hk0) h102) h103)) h101

theorem stakeClr_kept {σ : Scope} {ρ : State} {s : State} (hk0 : Kept σ ρ s) (h101 : σ.part .stake = true) :
    Kept σ ρ (State.stakeClr s) := by
  unfold State.stakeClr
  exact Kept.stake (hk0) h101

theorem issueDrop_kept {σ : Scope} {ρ : State} {s : State} (hk0 : Kept σ ρ s) (h101 : σ.fld pSTAKE F.STAKE.ISSUEDROP.COUNT) (h102 : σ.fld pSTAKE (Fld.mk 12 12 1)) :
    Kept σ ρ (State.issueDrop s) := by
  unfold State.issueDrop
  exact event_kept (bump_kept (hk0) h101) h102

theorem relNotice_kept {σ : Scope} {ρ : State} {s : State} {x : Stake} {code : ℕ} {t : ℕ} (hk0 : Kept σ ρ s) (h101 : σ.part .sw = true) (h102 : σ.part .mem = true) (h103 : σ.part .dup = true) (h104 : σ.fld pSWITCH F.SWITCH.BUF_DROP.COUNT) (h105 : σ.fld pSWITCH (Fld.mk 12 9 1)) (h106 : ∀ n, σ.page (pPORT n)) (h107 : σ.fld pCAPTURE F.CAPTURE.LOST.COUNT) (h108 : σ.fld pCAPTURE (Fld.mk 12 9 1)) (h109 : σ.fld pCAPTURE F.CAPTURE.WR_SEQ.SEQ) (h110 : σ.fld pCAPTURE (Fld.mk 12 8 1)) (h111 : σ.fld pBUFMEM (Fld.mk 12 13 1)) :
    Kept σ ρ (State.relNotice s x code t) := by
  unfold State.relNotice
  exact Kept.ite (sendRelease_kept (hk0) h101 h102 h103 h104 h105 h106 h107 h108 h109 h110 h111) (hk0)

theorem outcomeRec_kept {σ : Scope} {ρ : State} {s : State} {x : Stake} {code : ℕ} {flags : ℕ} {t : ℕ} {judged : ℕ} (hk0 : Kept σ ρ s) (h101 : σ.part .book = true) (h102 : σ.fld pBOOK F.BOOK.DISCARD.COUNT) (h103 : σ.fld pBOOK F.BOOK.SHADOW.DROP) (h104 : σ.fld pBOOK (Fld.mk 12 12 1)) (h105 : σ.fld (pEDGE
  ((Rec.mk t (if code = 0 then 16 else if code = 1 then 17 else 18)
        (x.cls % 8 + 8 * (x.policy % 4) + 32 * bit x.bcast + 64 * (flags % 2) + 128 * natField flags 2 1) x.id
        (leBytes 4 (min (judged - x.tRel) (2 ^ 32 - 1)) ++ leBytes 1 x.srcNode ++ leBytes 1 code ++
          leBytes 2 x.target)).source /
    64)) F.EDGE.DROPS.COUNT) (h106 : σ.fld (pEDGE
  ((Rec.mk t (if code = 0 then 16 else if code = 1 then 17 else 18)
        (x.cls % 8 + 8 * (x.policy % 4) + 32 * bit x.bcast + 64 * (flags % 2) + 128 * natField flags 2 1) x.id
        (leBytes 4 (min (judged - x.tRel) (2 ^ 32 - 1)) ++ leBytes 1 x.srcNode ++ leBytes 1 code ++
          leBytes 2 x.target)).source /
    64)) (Fld.mk 12 11 1)) (h107 : σ.fld pBOOK F.BOOK.DISCARD_SYS.COUNT) (h108 : σ.fld pBOOK (Fld.mk 12 8 1)) :
    Kept σ ρ (State.outcomeRec s x code flags t judged) := by
  unfold State.outcomeRec
  exact Kept.ite (hk0) (stage_kept (hk0) h101 h102 h103 h104 h105 h106 h107 h108)

theorem outcomeCount_kept {σ : Scope} {ρ : State} {s : State} {code : ℕ} (hk0 : Kept σ ρ s) (h101 : σ.fld pSTAKE F.STAKE.RELEASED.COUNT) (h102 : σ.fld pSTAKE F.STAKE.LATE.COUNT) (h103 : σ.fld pSTAKE (Fld.mk 12 8 1)) (h104 : σ.fld pSTAKE F.STAKE.MISSED.COUNT) (h105 : σ.fld pSTAKE (Fld.mk 12 9 1)) (h106 : σ.fld pSTAKE F.STAKE.REJECTED.COUNT) (h107 : σ.fld pSTAKE (Fld.mk 12 10 1)) :
    Kept σ ρ (State.outcomeCount s code) := by
  unfold State.outcomeCount
  exact Kept.ite (bump_kept (hk0) h101) (Kept.ite (event_kept (bump_kept (hk0) h102) h103) (Kept.ite (event_kept (bump_kept (hk0) h104) h105) (Kept.ite (event_kept (bump_kept (hk0) h106) h107) (hk0))))

theorem rcptIn_kept {σ : Scope} {ρ : State} {s : State} {node : ℕ} {member : ℕ} {p : List Byte} (hk0 : Kept σ ρ s) (h101 : σ.part .stake = true) (h102 : σ.fld pSTAKE (Fld.mk 12 11 1)) (h103 : σ.fld pSTAKE F.STAKE.RCPTOVF.COUNT) (h104 : σ.fld pSTAKE (Fld.mk 12 13 1)) :
    Kept σ ρ (State.rcptIn s node member p) := by
  unfold State.rcptIn
  exact Kept.ite (Kept.cut (fun k1 => Kept.ite (event_kept (k1) h102) (k1)) (Kept.stake (hk0) h101)) (event_kept (bump_kept (hk0) h103) h104)

theorem sendRcpt_kept {σ : Scope} {ρ : State} {s : State} {x : Stake} {code : ℕ} {flags : ℕ} {t : ℕ} (hk0 : Kept σ ρ s) (h101 : σ.part .stake = true) (h102 : σ.part .sw = true) (h103 : σ.part .mem = true) (h104 : σ.fld pSTAKE (Fld.mk 12 11 1)) (h105 : σ.fld pSTAKE F.STAKE.RCPTOVF.COUNT) (h106 : σ.fld pSTAKE (Fld.mk 12 13 1)) (h107 : σ.fld pSWITCH F.SWITCH.BUF_DROP.COUNT) (h108 : σ.fld pSWITCH (Fld.mk 12 9 1)) (h109 : ∀ n, σ.page (pPORT n)) (h110 : σ.fld pCAPTURE F.CAPTURE.LOST.COUNT) (h111 : σ.fld pCAPTURE (Fld.mk 12 9 1)) (h112 : σ.fld pCAPTURE F.CAPTURE.WR_SEQ.SEQ) (h113 : σ.fld pCAPTURE (Fld.mk 12 8 1)) (h114 : σ.fld pBUFMEM (Fld.mk 12 13 1)) (h115 : σ.fld pSWITCH F.SWITCH.NOPATH.COUNT) (h116 : σ.fld pSWITCH (Fld.mk 12 11 1)) (h117 : σ.fld pHSR F.HSR.SEQ.NEXT) :
    Kept σ ρ (State.sendRcpt s x code flags t) := by
  unfold State.sendRcpt
  exact Kept.ite (hk0) (Kept.ite (rcptIn_kept (hk0) h101 h104 h105 h106) (Kept.ite (sendMember_kept (hk0) h102 h103 h107 h108 h109 h110 h111 h112 h113 h114 h115 h116) (sendRing_kept (hk0) h102 h103 h117 h107 h108 h109 h110 h111 h112 h113 h114 h115 h116)))

theorem outcome_kept {σ : Scope} {ρ : State} {s : State} {x : Stake} {code : ℕ} {flags : ℕ} {t : ℕ} {judged : ℕ} {rc : Bool} (hk0 : Kept σ ρ s) (h101 : σ.part .book = true) (h102 : σ.part .sw = true) (h103 : σ.part .mem = true) (h104 : σ.part .dup = true) (h105 : σ.part .stake = true) (h106 : σ.page pSTAKE) (h107 : σ.page pBOOK) (h108 : σ.page (pEDGE
  ((Rec.mk t (if code = 0 then 16 else if code = 1 then 17 else 18)
        (x.cls % 8 + 8 * (x.policy % 4) + 32 * bit x.bcast + 64 * (flags % 2) + 128 * natField flags 2 1) x.id
        (leBytes 4 (min (judged - x.tRel) (2 ^ 32 - 1)) ++ leBytes 1 x.srcNode ++ leBytes 1 code ++
          leBytes 2 x.target)).source /
    64))) (h109 : σ.page pSWITCH) (h110 : ∀ n, σ.page (pPORT n)) (h111 : σ.page pCAPTURE) (h112 : σ.page pBUFMEM) (h113 : σ.page pHSR) :
    Kept σ ρ (State.outcome s x code flags t judged rc) := by
  unfold State.outcome
  exact Kept.cut (fun k1 => Kept.ite (sendRcpt_kept (k1) h105 h102 h103 h106.fld h106.fld h106.fld h109.fld h109.fld h110 h111.fld h111.fld h111.fld h111.fld h112.fld h109.fld h109.fld h113.fld) (k1)) (relNotice_kept (outcomeRec_kept (outcomeCount_kept (hk0) h106.fld h106.fld h106.fld h106.fld h106.fld h106.fld h106.fld) h101 h107.fld h107.fld h107.fld h108.fld h108.fld h107.fld h107.fld) h102 h103 h104 h109.fld h109.fld h110 h111.fld h111.fld h111.fld h111.fld h112.fld)

theorem stakeCancel_kept {σ : Scope} {ρ : State} {s : State} {k : Stake} {caller : Option Stake} (hk0 : Kept σ ρ s) (h101 : σ.part .stake = true) (h102 : σ.part .book = true) (h103 : σ.part .sw = true) (h104 : σ.part .mem = true) (h105 : σ.part .dup = true) (h106 : σ.page pSTAKE) (h107 : σ.page pBOOK) (h108 : ∀ n, σ.page (pEDGE n)) (h109 : σ.page pSWITCH) (h110 : ∀ n, σ.page (pPORT n)) (h111 : σ.page pCAPTURE) (h112 : σ.page pBUFMEM) (h113 : σ.page pHSR) :
    Kept σ ρ (State.stakeCancel s k caller) := by
  unfold State.stakeCancel
  exact (by (try dsimp only); split; exacts [outcome_kept (Kept.stake (hk0) h101) h102 h103 h104 h105 h101 h106 h107 (h108 _) h109 h110 h111 h112 h113, Kept.ite (Kept.stake (hk0) h101) ((by split; exacts [outcome_kept (hk0) h102 h103 h104 h105 h101 h106 h107 (h108 _) h109 h110 h111 h112 h113, outcome_kept (hk0) h102 h103 h104 h105 h101 h106 h107 (h108 _) h109 h110 h111 h112 h113]))])

theorem stakeInsert_kept {σ : Scope} {ρ : State} {s : State} {x : Stake} (hk0 : Kept σ ρ s) (h101 : σ.part .stake = true) (h102 : σ.fld pSTAKE F.STAKE.QSTS.HWM) (h103 : σ.fld pSTAKE F.STAKE.MISSED.COUNT) (h104 : σ.fld pSTAKE (Fld.mk 12 9 1)) :
    Kept σ ρ (State.stakeInsert s x) := by
  unfold State.stakeInsert
  exact Kept.cut (fun k5 => Kept.ite (Kept.ite (Kept.stake (k5) h101) (event_kept (bump_kept (Kept.stake (k5) h101) h103) h104)) (k5)) (set_kept (Kept.stake (hk0) h101) h102)

theorem stakeCheck_kept {σ : Scope} {ρ : State} {s : State} {x : Stake} (hk0 : Kept σ ρ s) (h101 : σ.part .book = true) (h102 : σ.part .sw = true) (h103 : σ.part .mem = true) (h104 : σ.part .dup = true) (h105 : σ.part .stake = true) (h106 : σ.page pSTAKE) (h107 : σ.page pBOOK) (h108 : σ.page pSWITCH) (h109 : ∀ n, σ.page (pPORT n)) (h110 : σ.page pCAPTURE) (h111 : σ.page pBUFMEM) (h112 : σ.page pHSR) (h113 : ∀ n, σ.page (pEDGE n)) :
    Kept σ ρ (State.stakeCheck s x) := by
  unfold State.stakeCheck
  exact Kept.ite (bump_kept (hk0) h106.fld) (Kept.ite (outcome_kept (hk0) h101 h102 h103 h104 h105 h106 h107 (h113 _) h108 h109 h110 h111 h112) (Kept.ite (stakeCancel_kept (hk0) h105 h101 h102 h103 h104 h106 h107 h113 h108 h109 h110 h111 h112) ((by split; exacts [Kept.ite (bump_kept (hk0) h106.fld) (outcome_kept (hk0) h101 h102 h103 h104 h105 h106 h107 (h113 _) h108 h109 h110 h111 h112), Kept.ite (outcome_kept (hk0) h101 h102 h103 h104 h105 h106 h107 (h113 _) h108 h109 h110 h111 h112) (Kept.ite (outcome_kept (hk0) h101 h102 h103 h104 h105 h106 h107 (h113 _) h108 h109 h110 h111 h112) (Kept.ite (outcome_kept (hk0) h101 h102 h103 h104 h105 h106 h107 (h113 _) h108 h109 h110 h111 h112) (Kept.ite (outcome_kept (hk0) h101 h102 h103 h104 h105 h106 h107 (h113 _) h108 h109 h110 h111 h112) (stakeInsert_kept (hk0) h105 h106.fld h106.fld h106.fld))))]))))

theorem stakeIn_kept {σ : Scope} {ρ : State} {s : State} {b : List Byte} (hk0 : Kept σ ρ s) (h101 : σ.part .sw = true) (h102 : σ.part .mem = true) (h103 : σ.part .book = true) (h104 : σ.part .dup = true) (h105 : σ.part .stake = true) (h106 : ∀ n, σ.page (pPORT n)) (h107 : σ.page pSTAKE) (h108 : σ.page pBOOK) (h109 : σ.page pSWITCH) (h110 : σ.page pCAPTURE) (h111 : σ.page pBUFMEM) (h112 : σ.page pHSR) (h113 : ∀ n, σ.page (pEDGE n)) :
    Kept σ ρ (State.stakeIn s b) := by
  unfold State.stakeIn
  exact Kept.ite (hk0) (Kept.ite (hk0) (Kept.ite (Kept.ite (hk0) (Kept.ite (sendMember_kept (hk0) h101 h102 h109.fld h109.fld h106 h110.fld h110.fld h110.fld h110.fld h111.fld h109.fld h109.fld) (outcome_kept (hk0) h103 h101 h102 h104 h105 h107 h108 (h113 _) h109 h106 h110 h111 h112))) (stakeCheck_kept (hk0) h103 h101 h102 h104 h105 h107 h108 h109 h106 h110 h111 h112 h113)))

theorem stakeIssue_kept {σ : Scope} {ρ : State} {s : State} {w7 : Word} (hk0 : Kept σ ρ s) (h101 : σ.part .sw = true) (h102 : σ.part .mem = true) (h103 : σ.part .book = true) (h104 : σ.part .dup = true) (h105 : σ.part .stake = true) (h106 : σ.fld pSYS (Fld.mk 12 8 1)) (h107 : σ.fld pSYS F.SYS.AERR_LO.ADDR_LO) (h108 : σ.fld pSYS F.SYS.AERR_HI.ADDR_HI) (h109 : σ.fld pSYS F.SYS.AERR_HI.SOURCE) (h110 : σ.fld pSYS F.SYS.AERR_HI.VALID) (h111 : ∀ n, σ.page (pPORT n)) (h112 : σ.page pSTAKE) (h113 : σ.page pBOOK) (h114 : σ.page pSWITCH) (h115 : σ.page pCAPTURE) (h116 : σ.page pBUFMEM) (h117 : σ.page pHSR) (h118 : ∀ n, σ.page (pEDGE n)) :
    Kept σ ρ (State.stakeIssue s w7) := by
  unfold State.stakeIssue
  exact Kept.ite (issueDrop_kept (hk0) h112.fld h112.fld) (Kept.ite (addressError_kept (hk0) h106 h107 h108 h109 h110) (Kept.ite (stakeIn_kept (hk0) h101 h102 h103 h104 h105 h111 h112 h113 h114 h115 h116 h117 h118) (Kept.ite (issueDrop_kept (hk0) h112.fld h112.fld) (Kept.stake (hk0) h105))))

theorem stakeCancelWrite_kept {σ : Scope} {ρ : State} {s : State} {d : Word} (hk0 : Kept σ ρ s) (h101 : σ.part .stake = true) (h102 : σ.part .book = true) (h103 : σ.part .sw = true) (h104 : σ.part .mem = true) (h105 : σ.part .dup = true) (h106 : σ.page pSTAKE) (h107 : σ.page pBOOK) (h108 : ∀ n, σ.page (pEDGE n)) (h109 : σ.page pSWITCH) (h110 : ∀ n, σ.page (pPORT n)) (h111 : σ.page pCAPTURE) (h112 : σ.page pBUFMEM) (h113 : σ.page pHSR) :
    Kept σ ρ (State.stakeCancelWrite s d) := by
  unfold State.stakeCancelWrite
  exact stakeCancel_kept (nextFree_kept (hk0)) h101 h102 h103 h104 h105 h106 h107 h108 h109 h110 h111 h112 h113

theorem stakeEffect_kept {σ : Scope} {ρ : State} {s : State} {x : Stake} (hk0 : Kept σ ρ s) (h101 : σ.part .pins = true) (h102 : σ.part .edges = true) (h103 : σ.part .book = true) (h104 : σ.part .engs = true) (h105 : σ.part .cans = true) (h106 : σ.part .plat = true) (h107 : σ.fld pBOOK F.BOOK.DISCARD.COUNT) (h108 : σ.fld pBOOK F.BOOK.SHADOW.DROP) (h109 : σ.fld pBOOK (Fld.mk 12 12 1)) (h110 : ∀ n, σ.page (pEDGE n)) (h111 : σ.fld pBOOK F.BOOK.DISCARD_SYS.COUNT) (h112 : σ.fld pBOOK (Fld.mk 12 8 1)) (h113 : σ.fld (pENG x.target) F.ENG.DROP.TXDROP) (h114 : σ.fld (pENG x.target) (Fld.mk 12 10 1)) (h115 : σ.page (pCAN (x.target % 16))) :
    Kept σ ρ (State.stakeEffect s x) := by
  unfold State.stakeEffect
  exact (by (try dsimp only); split; exacts [drivePin_kept (hk0) h101 h102 h103 h107 h108 h109 h110 h111 h112, setEng_kept (txSettle_kept (hk0) h104 h113 h114) h104, canStake_kept (hk0) h105 h115, stageBytes_kept (hk0) h106])

theorem handover_kept {σ : Scope} {ρ : State} {s : State} (hk0 : Kept σ ρ s) (h101 : σ.part .stake = true) (h102 : σ.part .book = true) (h103 : σ.part .sw = true) (h104 : σ.part .mem = true) (h105 : σ.part .dup = true) (h106 : σ.page pSTAKE) (h107 : σ.page pBOOK) (h108 : ∀ n, σ.page (pEDGE n)) (h109 : σ.page pSWITCH) (h110 : ∀ n, σ.page (pPORT n)) (h111 : σ.page pCAPTURE) (h112 : σ.page pBUFMEM) (h113 : σ.page pHSR) :
    Kept σ ρ (State.handover s) := by
  unfold State.handover
  exact Kept.ite (hk0) ((by (try dsimp only); split; exacts [hk0, Kept.cut (fun k5 => Kept.ite (outcome_kept (k5) h102 h103 h104 h105 h101 h106 h107 (h108 _) h109 h110 h111 h112 h113) (Kept.stake (k5) h101)) (Kept.stake (advanceT_kept (hk0)) h101)]))

theorem stakeRun_kept {σ : Scope} {ρ : State} {s : State} {x : Stake} {flags : ℕ} {ready : Bool} {eff : State → State} (hk0 : Kept σ ρ s) (f0 : ∀ t, Kept σ ρ t → Kept σ ρ (eff t)) (h101 : σ.part .book = true) (h102 : σ.part .sw = true) (h103 : σ.part .mem = true) (h104 : σ.part .dup = true) (h105 : σ.part .stake = true) (h106 : σ.page pSTAKE) (h107 : σ.page pBOOK) (h108 : σ.page (pEDGE
  ((Rec.mk s.now (if 2 = 0 then 16 else if 2 = 1 then 17 else 18)
        (x.cls % 8 + 8 * (x.policy % 4) + 32 * bit x.bcast + 64 * (flags % 2) + 128 * natField flags 2 1) x.id
        (leBytes 4 (min (s.now - x.tRel) (2 ^ 32 - 1)) ++ leBytes 1 x.srcNode ++ leBytes 1 2 ++
          leBytes 2 x.target)).source /
    64))) (h109 : σ.page pSWITCH) (h110 : ∀ n, σ.page (pPORT n)) (h111 : σ.page pCAPTURE) (h112 : σ.page pBUFMEM) (h113 : σ.page pHSR) (h114 : σ.page (pEDGE
  ((Rec.mk s.now (if 32 = 0 then 16 else if 32 = 1 then 17 else 18)
        (x.cls % 8 + 8 * (x.policy % 4) + 32 * bit x.bcast + 64 * (flags % 2) + 128 * natField flags 2 1) x.id
        (leBytes 4 (min (s.now - x.tRel) (2 ^ 32 - 1)) ++ leBytes 1 x.srcNode ++ leBytes 1 32 ++
          leBytes 2 x.target)).source /
    64))) (h115 : σ.page (pEDGE
  ((Rec.mk s.now (if s.verdict x s.now = 0 then 16 else if s.verdict x s.now = 1 then 17 else 18)
        (x.cls % 8 + 8 * (x.policy % 4) + 32 * bit x.bcast + 64 * (flags % 2) + 128 * natField flags 2 1) x.id
        (leBytes 4 (min (s.now - x.tRel) (2 ^ 32 - 1)) ++ leBytes 1 x.srcNode ++ leBytes 1 (s.verdict x s.now) ++
          leBytes 2 x.target)).source /
    64))) :
    Kept σ ρ (State.stakeRun s x flags ready eff) := by
  unfold State.stakeRun
  exact Kept.ite (outcome_kept (hk0) h101 h102 h103 h104 h105 h106 h107 h108 h109 h110 h111 h112 h113) (Kept.ite (outcome_kept (hk0) h101 h102 h103 h104 h105 h106 h107 h114 h109 h110 h111 h112 h113) (outcome_kept (f0 _ (hk0)) h101 h102 h103 h104 h105 h106 h107 h115 h109 h110 h111 h112 h113))

theorem islandExec_kept {σ : Scope} {ρ : State} {s : State} {c : ℕ} (hk0 : Kept σ ρ s) (h101 : σ.part .stake = true) (h102 : σ.part .pins = true) (h103 : σ.part .edges = true) (h104 : σ.part .book = true) (h105 : σ.part .engs = true) (h106 : σ.part .cans = true) (h107 : σ.part .plat = true) (h108 : σ.part .sw = true) (h109 : σ.part .mem = true) (h110 : σ.part .dup = true) (h111 : ∀ n, σ.page (pEDGE n)) (h112 : ∀ n, σ.page (pENG n)) (h113 : ∀ n, σ.page (pCAN n)) (h114 : σ.page pSTAKE) (h115 : σ.page pBOOK) (h116 : σ.page pSWITCH) (h117 : ∀ n, σ.page (pPORT n)) (h118 : σ.page pCAPTURE) (h119 : σ.page pBUFMEM) (h120 : σ.page pHSR) :
    Kept σ ρ (State.islandExec s c) := by
  unfold State.islandExec
  exact Kept.ite (hk0) ((by (try dsimp only); split; exacts [hk0, stakeRun_kept (Kept.stake (advanceT_kept (hk0)) h101) (fun x12 k13 => stakeEffect_kept (k13) h102 h103 h104 h105 h106 h107 h115.fld h115.fld h115.fld h111 h115.fld h115.fld (h112 _).fld (h112 _).fld (h113 _)) h104 h108 h109 h110 h101 h114 h115 (h111 _) h116 h117 h118 h119 h120 (h111 _) (h111 _)]))

theorem leadMark_kept {σ : Scope} {ρ : State} {s : State} {x : Stake} (hk0 : Kept σ ρ s) (h101 : σ.fld pSTAKE F.STAKE.SHORTLEAD.COUNT) (h102 : σ.fld pSTAKE (Fld.mk 12 14 1)) :
    Kept σ ρ (State.leadMark s x) := by
  unfold State.leadMark
  exact Kept.ite (event_kept (bump_kept (hk0) h101) h102) (hk0)

theorem queueExec_kept {σ : Scope} {ρ : State} {s : State} {c : ℕ} (hk0 : Kept σ ρ s) (h101 : σ.part .stake = true) (h102 : σ.part .pins = true) (h103 : σ.part .edges = true) (h104 : σ.part .book = true) (h105 : σ.part .engs = true) (h106 : σ.part .cans = true) (h107 : σ.part .plat = true) (h108 : σ.part .sw = true) (h109 : σ.part .mem = true) (h110 : σ.part .dup = true) (h111 : ∀ n, σ.page (pEDGE n)) (h112 : ∀ n, σ.page (pENG n)) (h113 : ∀ n, σ.page (pCAN n)) (h114 : σ.page pSTAKE) (h115 : σ.page pBOOK) (h116 : σ.page pSWITCH) (h117 : ∀ n, σ.page (pPORT n)) (h118 : σ.page pCAPTURE) (h119 : σ.page pBUFMEM) (h120 : σ.page pHSR) :
    Kept σ ρ (State.queueExec s c) := by
  unfold State.queueExec
  exact Kept.ite (hk0) ((by (try dsimp only); split; exacts [hk0, stakeRun_kept (Kept.stake (advanceT_kept (hk0)) h101) (fun x12 k13 => stakeEffect_kept (k13) h102 h103 h104 h105 h106 h107 h115.fld h115.fld h115.fld h111 h115.fld h115.fld (h112 _).fld (h112 _).fld (h113 _)) h104 h108 h109 h110 h101 h114 h115 (h111 _) h116 h117 h118 h119 h120 (h111 _) (h111 _)]))

theorem rcptRx_kept {σ : Scope} {ρ : State} {s : State} {node : ℕ} {member : ℕ} {p : List Byte} (hk0 : Kept σ ρ s) (h101 : σ.part .stake = true) (h102 : σ.fld pSTAKE (Fld.mk 12 11 1)) (h103 : σ.fld pSTAKE F.STAKE.RCPTOVF.COUNT) (h104 : σ.fld pSTAKE (Fld.mk 12 13 1)) :
    Kept σ ρ (State.rcptRx s node member p) := by
  unfold State.rcptRx
  exact Kept.ite (rcptIn_kept (hk0) h101 h102 h103 h104) (hk0)

theorem stakeSend_kept {σ : Scope} {ρ : State} {s : State} (hk0 : Kept σ ρ s) (h101 : σ.part .stake = true) (h102 : σ.part .sw = true) (h103 : σ.part .mem = true) (h104 : σ.part .book = true) (h105 : σ.part .dup = true) (h106 : ∀ n, σ.page (pPORT n)) (h107 : σ.page pSTAKE) (h108 : σ.page pBOOK) (h109 : σ.page pSWITCH) (h110 : σ.page pCAPTURE) (h111 : σ.page pBUFMEM) (h112 : σ.page pHSR) (h113 : ∀ n, σ.page (pEDGE n)) :
    Kept σ ρ (State.stakeSend s) := by
  unfold State.stakeSend
  exact (by (try dsimp only); split; exacts [hk0, Kept.ite (hk0) (Kept.foldl (fun x27 a28 k29 => stakeIn_kept (k29) h102 h103 h104 h105 h101 h106 h107 h108 h109 h110 h111 h112 h113) _ _ (sendRing_kept (Kept.foldl (fun x24 a25 k26 => leadMark_kept (k26) h107.fld h107.fld) _ _ (Kept.stake (hk0) h101)) h102 h103 h112.fld h109.fld h109.fld h106 h110.fld h110.fld h110.fld h110.fld h111.fld h109.fld h109.fld))])

theorem stakeWithdraw_kept {σ : Scope} {ρ : State} {s : State} (hk0 : Kept σ ρ s) (h101 : σ.part .stake = true) (h102 : σ.part .book = true) (h103 : σ.part .sw = true) (h104 : σ.part .mem = true) (h105 : σ.part .dup = true) (h106 : σ.page pSTAKE) (h107 : σ.page pBOOK) (h108 : ∀ n, σ.page (pEDGE n)) (h109 : σ.page pSWITCH) (h110 : ∀ n, σ.page (pPORT n)) (h111 : σ.page pCAPTURE) (h112 : σ.page pBUFMEM) (h113 : σ.page pHSR) :
    Kept σ ρ (State.stakeWithdraw s) := by
  unfold State.stakeWithdraw
  exact (by (try dsimp only); split; exacts [hk0, (by split; exacts [outcome_kept (Kept.stake (Kept.stake (advanceT_kept (hk0)) h101) h101) h102 h103 h104 h105 h101 h106 h107 (h108 _) h109 h110 h111 h112 h113, (by split; exacts [outcome_kept (Kept.stake (advanceT_kept (hk0)) h101) h102 h103 h104 h105 h101 h106 h107 (h108 _) h109 h110 h111 h112 h113, outcome_kept (nextFree_kept (Kept.stake (advanceT_kept (hk0)) h101)) h102 h103 h104 h105 h101 h106 h107 (h108 _) h109 h110 h111 h112 h113])])])

theorem execRcptPop_kept {σ : Scope} {clk : ℕ} {s : State} (h101 : σ.part .shadow = true) (h102 : σ.part .result = true) (h103 : σ.part .stake = true) :
    KeptNext σ s (execRcptPop clk s) := by
  unfold execRcptPop
  exact KeptNext.next (whenOn_kept (advance_kept (Kept.refl σ s)) (fun x0 k1 => rcptPop_kept (k1) h101 h102 h103))

theorem execReceiptRx_kept {σ : Scope} {clk : ℕ} {node : ℕ} {member : ℕ} {payload : List Byte} {s : State} (h101 : σ.part .stake = true) (h102 : σ.fld pSTAKE (Fld.mk 12 11 1)) (h103 : σ.fld pSTAKE F.STAKE.RCPTOVF.COUNT) (h104 : σ.fld pSTAKE (Fld.mk 12 13 1)) :
    KeptNext σ s (execReceiptRx clk node member payload s) := by
  unfold execReceiptRx
  exact KeptNext.next (rcptRx_kept (advance_kept (Kept.refl σ s)) h101 h102 h103 h104)

theorem execStakeArrival_kept {σ : Scope} {clk : ℕ} {bytes : List Byte} {s : State} (h101 : σ.part .sw = true) (h102 : σ.part .mem = true) (h103 : σ.part .book = true) (h104 : σ.part .dup = true) (h105 : σ.part .stake = true) (h106 : ∀ n, σ.page (pPORT n)) (h107 : σ.page pSTAKE) (h108 : σ.page pBOOK) (h109 : σ.page pSWITCH) (h110 : σ.page pCAPTURE) (h111 : σ.page pBUFMEM) (h112 : σ.page pHSR) (h113 : ∀ n, σ.page (pEDGE n)) :
    KeptNext σ s (execStakeArrival clk bytes s) := by
  unfold execStakeArrival
  exact KeptNext.next (stakeIn_kept (advance_kept (Kept.refl σ s)) h101 h102 h103 h104 h105 h106 h107 h108 h109 h110 h111 h112 h113)

theorem execStakeCancelArrival_kept {σ : Scope} {clk : ℕ} {bytes : List Byte} {s : State} (h101 : σ.part .sw = true) (h102 : σ.part .mem = true) (h103 : σ.part .book = true) (h104 : σ.part .dup = true) (h105 : σ.part .stake = true) (h106 : ∀ n, σ.page (pPORT n)) (h107 : σ.page pSTAKE) (h108 : σ.page pBOOK) (h109 : σ.page pSWITCH) (h110 : σ.page pCAPTURE) (h111 : σ.page pBUFMEM) (h112 : σ.page pHSR) (h113 : ∀ n, σ.page (pEDGE n)) :
    KeptNext σ s (execStakeCancelArrival clk bytes s) := by
  unfold execStakeCancelArrival
  exact KeptNext.next (Kept.ite (stakeIn_kept (advance_kept (Kept.refl σ s)) h101 h102 h103 h104 h105 h106 h107 h108 h109 h110 h111 h112 h113) (advance_kept (Kept.refl σ s)))

theorem execStakeCancelWrite_kept {σ : Scope} {clk : ℕ} {data : Word} {s : State} (h101 : σ.part .stake = true) (h102 : σ.part .book = true) (h103 : σ.part .sw = true) (h104 : σ.part .mem = true) (h105 : σ.part .dup = true) (h106 : σ.part .page = true) (h107 : σ.page pSTAKE) (h108 : σ.page pBOOK) (h109 : ∀ n, σ.page (pEDGE n)) (h110 : σ.page pSWITCH) (h111 : ∀ n, σ.page (pPORT n)) (h112 : σ.page pCAPTURE) (h113 : σ.page pBUFMEM) (h114 : σ.page pHSR) (h115 : σ.fld pSYS (Fld.mk 12 11 1)) :
    KeptNext σ s (execStakeCancelWrite clk data s) := by
  unfold execStakeCancelWrite
  exact KeptNext.next (regWrite_kept (advance_kept (Kept.refl σ s)) (fun x0 k1 => stakeCancelWrite_kept (k1) h101 h102 h103 h104 h105 h107 h108 h109 h110 h111 h112 h113 h114) h106 h115 h107.fld h107.fld h107.fld h107.fld)

theorem execStakeExecCan_kept {σ : Scope} {s : State} (h101 : σ.part .stake = true) (h102 : σ.part .pins = true) (h103 : σ.part .edges = true) (h104 : σ.part .book = true) (h105 : σ.part .engs = true) (h106 : σ.part .cans = true) (h107 : σ.part .plat = true) (h108 : σ.part .sw = true) (h109 : σ.part .mem = true) (h110 : σ.part .dup = true) (h111 : ∀ n, σ.page (pEDGE n)) (h112 : ∀ n, σ.page (pENG n)) (h113 : ∀ n, σ.page (pCAN n)) (h114 : σ.page pSTAKE) (h115 : σ.page pBOOK) (h116 : σ.page pSWITCH) (h117 : ∀ n, σ.page (pPORT n)) (h118 : σ.page pCAPTURE) (h119 : σ.page pBUFMEM) (h120 : σ.page pHSR) :
    KeptNext σ s (execStakeExecCan s) := by
  unfold execStakeExecCan
  exact KeptNext.next (queueExec_kept (Kept.refl σ s) h101 h102 h103 h104 h105 h106 h107 h108 h109 h110 h111 h112 h113 h114 h115 h116 h117 h118 h119 h120)

theorem execStakeExecEngFifo_kept {σ : Scope} {s : State} (h101 : σ.part .stake = true) (h102 : σ.part .pins = true) (h103 : σ.part .edges = true) (h104 : σ.part .book = true) (h105 : σ.part .engs = true) (h106 : σ.part .cans = true) (h107 : σ.part .plat = true) (h108 : σ.part .sw = true) (h109 : σ.part .mem = true) (h110 : σ.part .dup = true) (h111 : ∀ n, σ.page (pEDGE n)) (h112 : ∀ n, σ.page (pENG n)) (h113 : ∀ n, σ.page (pCAN n)) (h114 : σ.page pSTAKE) (h115 : σ.page pBOOK) (h116 : σ.page pSWITCH) (h117 : ∀ n, σ.page (pPORT n)) (h118 : σ.page pCAPTURE) (h119 : σ.page pBUFMEM) (h120 : σ.page pHSR) :
    KeptNext σ s (execStakeExecEngFifo s) := by
  unfold execStakeExecEngFifo
  exact KeptNext.next (islandExec_kept (Kept.refl σ s) h101 h102 h103 h104 h105 h106 h107 h108 h109 h110 h111 h112 h113 h114 h115 h116 h117 h118 h119 h120)

theorem execStakeExecPin_kept {σ : Scope} {s : State} (h101 : σ.part .stake = true) (h102 : σ.part .pins = true) (h103 : σ.part .edges = true) (h104 : σ.part .book = true) (h105 : σ.part .engs = true) (h106 : σ.part .cans = true) (h107 : σ.part .plat = true) (h108 : σ.part .sw = true) (h109 : σ.part .mem = true) (h110 : σ.part .dup = true) (h111 : ∀ n, σ.page (pEDGE n)) (h112 : ∀ n, σ.page (pENG n)) (h113 : ∀ n, σ.page (pCAN n)) (h114 : σ.page pSTAKE) (h115 : σ.page pBOOK) (h116 : σ.page pSWITCH) (h117 : ∀ n, σ.page (pPORT n)) (h118 : σ.page pCAPTURE) (h119 : σ.page pBUFMEM) (h120 : σ.page pHSR) :
    KeptNext σ s (execStakeExecPin s) := by
  unfold execStakeExecPin
  exact KeptNext.next (islandExec_kept (Kept.refl σ s) h101 h102 h103 h104 h105 h106 h107 h108 h109 h110 h111 h112 h113 h114 h115 h116 h117 h118 h119 h120)

theorem execStakeExecPlat_kept {σ : Scope} {s : State} (h101 : σ.part .stake = true) (h102 : σ.part .pins = true) (h103 : σ.part .edges = true) (h104 : σ.part .book = true) (h105 : σ.part .engs = true) (h106 : σ.part .cans = true) (h107 : σ.part .plat = true) (h108 : σ.part .sw = true) (h109 : σ.part .mem = true) (h110 : σ.part .dup = true) (h111 : ∀ n, σ.page (pEDGE n)) (h112 : ∀ n, σ.page (pENG n)) (h113 : ∀ n, σ.page (pCAN n)) (h114 : σ.page pSTAKE) (h115 : σ.page pBOOK) (h116 : σ.page pSWITCH) (h117 : ∀ n, σ.page (pPORT n)) (h118 : σ.page pCAPTURE) (h119 : σ.page pBUFMEM) (h120 : σ.page pHSR) :
    KeptNext σ s (execStakeExecPlat s) := by
  unfold execStakeExecPlat
  exact KeptNext.next (queueExec_kept (Kept.refl σ s) h101 h102 h103 h104 h105 h106 h107 h108 h109 h110 h111 h112 h113 h114 h115 h116 h117 h118 h119 h120)

theorem execStakeFrameSend_kept {σ : Scope} {clk : ℕ} {s : State} (h101 : σ.part .stake = true) (h102 : σ.part .sw = true) (h103 : σ.part .mem = true) (h104 : σ.part .book = true) (h105 : σ.part .dup = true) (h106 : ∀ n, σ.page (pPORT n)) (h107 : σ.page pSTAKE) (h108 : σ.page pBOOK) (h109 : σ.page pSWITCH) (h110 : σ.page pCAPTURE) (h111 : σ.page pBUFMEM) (h112 : σ.page pHSR) (h113 : ∀ n, σ.page (pEDGE n)) :
    KeptNext σ s (execStakeFrameSend clk s) := by
  unfold execStakeFrameSend
  exact KeptNext.next (stakeSend_kept (advance_kept (Kept.refl σ s)) h101 h102 h103 h104 h105 h106 h107 h108 h109 h110 h111 h112 h113)

theorem execStakeHandover_kept {σ : Scope} {s : State} (h101 : σ.part .stake = true) (h102 : σ.part .book = true) (h103 : σ.part .sw = true) (h104 : σ.part .mem = true) (h105 : σ.part .dup = true) (h106 : σ.page pSTAKE) (h107 : σ.page pBOOK) (h108 : ∀ n, σ.page (pEDGE n)) (h109 : σ.page pSWITCH) (h110 : ∀ n, σ.page (pPORT n)) (h111 : σ.page pCAPTURE) (h112 : σ.page pBUFMEM) (h113 : σ.page pHSR) :
    KeptNext σ s (execStakeHandover s) := by
  unfold execStakeHandover
  exact KeptNext.next (handover_kept (Kept.refl σ s) h101 h102 h103 h104 h105 h106 h107 h108 h109 h110 h111 h112 h113)

theorem execStakeIslandWithdraw_kept {σ : Scope} {s : State} (h101 : σ.part .stake = true) (h102 : σ.part .book = true) (h103 : σ.part .sw = true) (h104 : σ.part .mem = true) (h105 : σ.part .dup = true) (h106 : σ.page pSTAKE) (h107 : σ.page pBOOK) (h108 : ∀ n, σ.page (pEDGE n)) (h109 : σ.page pSWITCH) (h110 : ∀ n, σ.page (pPORT n)) (h111 : σ.page pCAPTURE) (h112 : σ.page pBUFMEM) (h113 : σ.page pHSR) :
    KeptNext σ s (execStakeIslandWithdraw s) := by
  unfold execStakeIslandWithdraw
  exact KeptNext.next (stakeWithdraw_kept (Kept.refl σ s) h101 h102 h103 h104 h105 h106 h107 h108 h109 h110 h111 h112 h113)

theorem execStakeIssue_kept {σ : Scope} {clk : ℕ} {word : Word} {src : Source} {s : State} (h101 : σ.part .sw = true) (h102 : σ.part .mem = true) (h103 : σ.part .book = true) (h104 : σ.part .dup = true) (h105 : σ.part .stake = true) (h106 : σ.part .page = true) (h107 : σ.fld pSYS (Fld.mk 12 8 1)) (h108 : σ.fld pSYS F.SYS.AERR_LO.ADDR_LO) (h109 : σ.fld pSYS F.SYS.AERR_HI.ADDR_HI) (h110 : σ.fld pSYS F.SYS.AERR_HI.SOURCE) (h111 : σ.fld pSYS F.SYS.AERR_HI.VALID) (h112 : ∀ n, σ.page (pPORT n)) (h113 : σ.page pSTAKE) (h114 : σ.page pBOOK) (h115 : σ.page pSWITCH) (h116 : σ.page pCAPTURE) (h117 : σ.page pBUFMEM) (h118 : σ.page pHSR) (h119 : ∀ n, σ.page (pEDGE n)) (h120 : σ.fld pSYS (Fld.mk 12 11 1)) :
    KeptNext σ s (execStakeIssue clk word src s) := by
  unfold execStakeIssue
  exact KeptNext.next (regWrite_kept (advance_kept (Kept.refl σ s)) (fun x0 k1 => stakeIssue_kept (k1) h101 h102 h103 h104 h105 h107 h108 h109 h110 h111 h112 h113 h114 h115 h116 h117 h118 h119) h106 h120 h113.fld h113.fld h113.fld h113.fld)

end Sys2Proof.Laws
end

