-- ==== Sys2Proof/Laws/Kept09.lean ====
section
/-!
SUPPORT. What the operations and commands of these files keep: Machine/Duplex, Machine/Irq, Machine/Lease.
-/

namespace Sys2Proof.Laws

open Sys2Proof Sys2Proof.Machine

theorem setDup_kept {σ : Scope} {ρ : State} {s : State} {k : ℕ} (hk0 : Kept σ ρ s) (h101 : σ.part .dup = true) (h102 : σ.part .pins = true) (h103 : σ.part .edges = true) (h104 : σ.part .book = true) (h105 : σ.fld pDUPLEX F.DUPLEX.STS.STATE) (h106 : σ.fld pBOOK F.BOOK.DISCARD.COUNT) (h107 : σ.fld pBOOK F.BOOK.SHADOW.DROP) (h108 : σ.fld pBOOK (Fld.mk 12 12 1)) (h109 : ∀ n, σ.page (pEDGE n)) (h110 : σ.fld pBOOK F.BOOK.DISCARD_SYS.COUNT) (h111 : σ.fld pBOOK (Fld.mk 12 8 1)) (h112 : σ.fld pBOOK F.BOOK.LAPPED.COUNT) (h113 : σ.fld pBOOK (Fld.mk 12 11 1)) (h114 : σ.fld pBOOK (drainSeq DrainId.dma)) (h115 : σ.fld pBOOK (drainSeq DrainId.twin)) (h116 : σ.fld pBOOK (drainSeq DrainId.ring)) (h117 : σ.fld pBOOK (Fld.mk 12 9 1)) (h118 : σ.fld pDUPLEX F.DUPLEX.STS.SYNCED) :
    Kept σ ρ (State.setDup s k) := by
  unfold State.setDup
  exact Kept.cut (fun k5 => Kept.ite (set_kept (k5) h118) (k5)) (syncDrains_kept (shadowSync_kept (Kept.dup (set_kept (hk0) h105) h101) h102 h103 h104 h106 h107 h108 h109 h110 h111) h104 h112 h113 h114 h115 h116 h117)

theorem dupStart_kept {σ : Scope} {ρ : State} {s : State} (hk0 : Kept σ ρ s) (h101 : σ.part .dup = true) (h102 : σ.part .pins = true) (h103 : σ.part .edges = true) (h104 : σ.part .book = true) (h105 : σ.fld pDUPLEX F.DUPLEX.STS.STATE) (h106 : σ.fld pBOOK F.BOOK.DISCARD.COUNT) (h107 : σ.fld pBOOK F.BOOK.SHADOW.DROP) (h108 : σ.fld pBOOK (Fld.mk 12 12 1)) (h109 : ∀ n, σ.page (pEDGE n)) (h110 : σ.fld pBOOK F.BOOK.DISCARD_SYS.COUNT) (h111 : σ.fld pBOOK (Fld.mk 12 8 1)) (h112 : σ.fld pBOOK F.BOOK.LAPPED.COUNT) (h113 : σ.fld pBOOK (Fld.mk 12 11 1)) (h114 : σ.fld pBOOK (drainSeq DrainId.dma)) (h115 : σ.fld pBOOK (drainSeq DrainId.twin)) (h116 : σ.fld pBOOK (drainSeq DrainId.ring)) (h117 : σ.fld pBOOK (Fld.mk 12 9 1)) (h118 : σ.fld pDUPLEX F.DUPLEX.STS.SYNCED) :
    Kept σ ρ (State.dupStart s) := by
  unfold State.dupStart
  exact Kept.dup (setDup_kept (hk0) h101 h102 h103 h104 h105 h106 h107 h108 h109 h110 h111 h112 h113 h114 h115 h116 h117 h118) h101

theorem dupOn_kept {σ : Scope} {ρ : State} {s : State} (hk0 : Kept σ ρ s) (h101 : σ.part .dup = true) (h102 : σ.part .pins = true) (h103 : σ.part .edges = true) (h104 : σ.part .book = true) (h105 : σ.fld pDUPLEX F.DUPLEX.STS.STATE) (h106 : σ.fld pBOOK F.BOOK.DISCARD.COUNT) (h107 : σ.fld pBOOK F.BOOK.SHADOW.DROP) (h108 : σ.fld pBOOK (Fld.mk 12 12 1)) (h109 : ∀ n, σ.page (pEDGE n)) (h110 : σ.fld pBOOK F.BOOK.DISCARD_SYS.COUNT) (h111 : σ.fld pBOOK (Fld.mk 12 8 1)) (h112 : σ.fld pBOOK F.BOOK.LAPPED.COUNT) (h113 : σ.fld pBOOK (Fld.mk 12 11 1)) (h114 : σ.fld pBOOK (drainSeq DrainId.dma)) (h115 : σ.fld pBOOK (drainSeq DrainId.twin)) (h116 : σ.fld pBOOK (drainSeq DrainId.ring)) (h117 : σ.fld pBOOK (Fld.mk 12 9 1)) (h118 : σ.fld pDUPLEX F.DUPLEX.STS.SYNCED) :
    Kept σ ρ (State.dupOn s) := by
  unfold State.dupOn
  exact Kept.ite (hk0) (dupStart_kept (hk0) h101 h102 h103 h104 h105 h106 h107 h108 h109 h110 h111 h112 h113 h114 h115 h116 h117 h118)

theorem dupClr_kept {σ : Scope} {ρ : State} {s : State} (hk0 : Kept σ ρ s) (h101 : σ.part .dup = true) :
    Kept σ ρ (State.dupClr s) := by
  unfold State.dupClr
  exact Kept.dup (hk0) h101

theorem holdPins_kept {σ : Scope} {ρ : State} {s : State} (hk0 : Kept σ ρ s) (h101 : σ.part .pins = true) :
    Kept σ ρ (State.holdPins s) := by
  unfold State.holdPins
  exact Kept.foldl (fun x0 a1 k2 => Kept.ite (latchPin_kept (k2) h101) (k2)) _ _ (hk0)

theorem declare_kept {σ : Scope} {ρ : State} {s : State} {hand : Bool} {cause : ℕ} (hk0 : Kept σ ρ s) (h101 : σ.part .pins = true) (h102 : σ.part .dup = true) (h103 : σ.part .edges = true) (h104 : σ.part .book = true) (h105 : σ.part .sw = true) (h106 : σ.part .mem = true) (h107 : σ.page pDUPLEX) (h108 : σ.page pBOOK) (h109 : ∀ n, σ.page (pEDGE n)) (h110 : σ.page pSWITCH) (h111 : ∀ n, σ.page (pPORT n)) (h112 : σ.page pCAPTURE) (h113 : σ.page pBUFMEM) :
    Kept σ ρ (State.declare s hand cause) := by
  unfold State.declare
  exact Kept.cut (fun k5 => Kept.ite (sendStatus_kept (k5) h105 h106 h110.fld h110.fld h111 h112.fld h112.fld h112.fld h112.fld h113.fld) (k5)) (Kept.dup (setDup_kept (Kept.ite (hk0) (holdPins_kept (hk0) h101)) h102 h101 h103 h104 h107.fld h108.fld h108.fld h108.fld h109 h108.fld h108.fld h108.fld h108.fld h108.fld h108.fld h108.fld h108.fld h107.fld) h102)

theorem declareFault_kept {σ : Scope} {ρ : State} {s : State} {cause : ℕ} (hk0 : Kept σ ρ s) (h101 : σ.part .pins = true) (h102 : σ.part .dup = true) (h103 : σ.part .edges = true) (h104 : σ.part .book = true) (h105 : σ.part .sw = true) (h106 : σ.part .mem = true) (h107 : σ.page pDUPLEX) (h108 : σ.page pBOOK) (h109 : ∀ n, σ.page (pEDGE n)) (h110 : σ.page pSWITCH) (h111 : ∀ n, σ.page (pPORT n)) (h112 : σ.page pCAPTURE) (h113 : σ.page pBUFMEM) :
    Kept σ ρ (State.declareFault s cause) := by
  unfold State.declareFault
  exact Kept.ite (declare_kept (hk0) h101 h102 h103 h104 h105 h106 h107 h108 h109 h110 h111 h112 h113) (hk0)

theorem handoverAsk_kept {σ : Scope} {ρ : State} {s : State} (hk0 : Kept σ ρ s) (h101 : σ.part .pins = true) (h102 : σ.part .dup = true) (h103 : σ.part .edges = true) (h104 : σ.part .book = true) (h105 : σ.part .sw = true) (h106 : σ.part .mem = true) (h107 : σ.page pDUPLEX) (h108 : σ.page pBOOK) (h109 : ∀ n, σ.page (pEDGE n)) (h110 : σ.page pSWITCH) (h111 : ∀ n, σ.page (pPORT n)) (h112 : σ.page pCAPTURE) (h113 : σ.page pBUFMEM) :
    Kept σ ρ (State.handoverAsk s) := by
  unfold State.handoverAsk
  exact Kept.ite (declare_kept (hk0) h101 h102 h103 h104 h105 h106 h107 h108 h109 h110 h111 h112 h113) (hk0)

theorem dupRejoin_kept {σ : Scope} {ρ : State} {s : State} (hk0 : Kept σ ρ s) (h101 : σ.part .dup = true) (h102 : σ.part .pins = true) (h103 : σ.part .edges = true) (h104 : σ.part .book = true) (h105 : σ.fld pDUPLEX F.DUPLEX.STS.STATE) (h106 : σ.fld pBOOK F.BOOK.DISCARD.COUNT) (h107 : σ.fld pBOOK F.BOOK.SHADOW.DROP) (h108 : σ.fld pBOOK (Fld.mk 12 12 1)) (h109 : ∀ n, σ.page (pEDGE n)) (h110 : σ.fld pBOOK F.BOOK.DISCARD_SYS.COUNT) (h111 : σ.fld pBOOK (Fld.mk 12 8 1)) (h112 : σ.fld pBOOK F.BOOK.LAPPED.COUNT) (h113 : σ.fld pBOOK (Fld.mk 12 11 1)) (h114 : σ.fld pBOOK (drainSeq DrainId.dma)) (h115 : σ.fld pBOOK (drainSeq DrainId.twin)) (h116 : σ.fld pBOOK (drainSeq DrainId.ring)) (h117 : σ.fld pBOOK (Fld.mk 12 9 1)) (h118 : σ.fld pDUPLEX F.DUPLEX.STS.SYNCED) :
    Kept σ ρ (State.dupRejoin s) := by
  unfold State.dupRejoin
  exact Kept.ite (dupStart_kept (hk0) h101 h102 h103 h104 h105 h106 h107 h108 h109 h110 h111 h112 h113 h114 h115 h116 h117 h118) (hk0)

theorem canShadow_kept {σ : Scope} {ρ : State} {s : State} (hk0 : Kept σ ρ s) (h101 : σ.part .cans = true) (h102 : σ.part .pins = true) (h103 : σ.part .edges = true) (h104 : σ.part .book = true) (h105 : ∀ n, σ.page (pCAN n)) (h106 : σ.fld pBOOK F.BOOK.DISCARD.COUNT) (h107 : σ.fld pBOOK F.BOOK.SHADOW.DROP) (h108 : σ.fld pBOOK (Fld.mk 12 12 1)) (h109 : ∀ n, σ.page (pEDGE n)) (h110 : σ.fld pBOOK F.BOOK.DISCARD_SYS.COUNT) (h111 : σ.fld pBOOK (Fld.mk 12 8 1)) :
    Kept σ ρ (State.canShadow s) := by
  unfold State.canShadow
  exact Kept.foldl (fun x0 a1 k2 => Kept.ite (set_kept (set_kept (set_kept (canIdle_kept (k2) h101 h102 h103 h104 (h105 _).fld h106 h107 h108 h109 h110 h111) (h105 _).fld) (h105 _).fld) (h105 _).fld) (k2)) _ _ (hk0)

theorem dupYield_kept {σ : Scope} {ρ : State} {s : State} (hk0 : Kept σ ρ s) (h101 : σ.part .dup = true) (h102 : σ.part .pins = true) (h103 : σ.part .edges = true) (h104 : σ.part .book = true) (h105 : σ.part .cans = true) (h106 : σ.fld pDUPLEX F.DUPLEX.STS.STATE) (h107 : σ.fld pBOOK F.BOOK.DISCARD.COUNT) (h108 : σ.fld pBOOK F.BOOK.SHADOW.DROP) (h109 : σ.fld pBOOK (Fld.mk 12 12 1)) (h110 : ∀ n, σ.page (pEDGE n)) (h111 : σ.fld pBOOK F.BOOK.DISCARD_SYS.COUNT) (h112 : σ.fld pBOOK (Fld.mk 12 8 1)) (h113 : σ.fld pBOOK F.BOOK.LAPPED.COUNT) (h114 : σ.fld pBOOK (Fld.mk 12 11 1)) (h115 : σ.fld pBOOK (drainSeq DrainId.dma)) (h116 : σ.fld pBOOK (drainSeq DrainId.twin)) (h117 : σ.fld pBOOK (drainSeq DrainId.ring)) (h118 : σ.fld pBOOK (Fld.mk 12 9 1)) (h119 : σ.fld pDUPLEX F.DUPLEX.STS.SYNCED) (h120 : σ.fld pDUPLEX (Fld.mk 12 12 1)) (h121 : ∀ n, σ.page (pCAN n)) :
    Kept σ ρ (State.dupYield s) := by
  unfold State.dupYield
  exact Kept.dup (canShadow_kept (event_kept (setDup_kept (hk0) h101 h102 h103 h104 h106 h107 h108 h109 h110 h111 h112 h113 h114 h115 h116 h117 h118 h119) h120) h105 h102 h103 h104 h121 h107 h108 h109 h110 h111 h112) h101

theorem dupFence_kept {σ : Scope} {ρ : State} {s : State} {cause : ℕ} {data : List Byte} (hk0 : Kept σ ρ s) (h101 : σ.part .book = true) (h102 : σ.part .dup = true) (h103 : σ.part .pins = true) (h104 : σ.part .edges = true) (h105 : σ.part .cans = true) (h106 : σ.fld pBOOK F.BOOK.DISCARD.COUNT) (h107 : σ.fld pBOOK F.BOOK.SHADOW.DROP) (h108 : σ.fld pBOOK (Fld.mk 12 12 1)) (h109 : σ.fld pBOOK F.BOOK.DISCARD_SYS.COUNT) (h110 : σ.fld pBOOK (Fld.mk 12 8 1)) (h111 : σ.fld pDUPLEX F.DUPLEX.STS.STATE) (h112 : ∀ n, σ.page (pEDGE n)) (h113 : σ.fld pBOOK F.BOOK.LAPPED.COUNT) (h114 : σ.fld pBOOK (Fld.mk 12 11 1)) (h115 : σ.fld pBOOK (drainSeq DrainId.dma)) (h116 : σ.fld pBOOK (drainSeq DrainId.twin)) (h117 : σ.fld pBOOK (drainSeq DrainId.ring)) (h118 : σ.fld pBOOK (Fld.mk 12 9 1)) (h119 : σ.fld pDUPLEX F.DUPLEX.STS.SYNCED) (h120 : σ.fld pDUPLEX (Fld.mk 12 12 1)) (h121 : ∀ n, σ.page (pCAN n)) :
    Kept σ ρ (State.dupFence s cause data) := by
  unfold State.dupFence
  exact dupYield_kept (stage_kept (hk0) h101 h106 h107 h108 (h112 _).fld (h112 _).fld h109 h110) h102 h103 h104 h101 h105 h111 h106 h107 h108 h112 h109 h110 h113 h114 h115 h116 h117 h118 h119 h120 h121

theorem fenceAsk_kept {σ : Scope} {ρ : State} {s : State} (hk0 : Kept σ ρ s) (h101 : σ.part .book = true) (h102 : σ.part .dup = true) (h103 : σ.part .pins = true) (h104 : σ.part .edges = true) (h105 : σ.part .cans = true) (h106 : σ.fld pBOOK F.BOOK.DISCARD.COUNT) (h107 : σ.fld pBOOK F.BOOK.SHADOW.DROP) (h108 : σ.fld pBOOK (Fld.mk 12 12 1)) (h109 : σ.fld pBOOK F.BOOK.DISCARD_SYS.COUNT) (h110 : σ.fld pBOOK (Fld.mk 12 8 1)) (h111 : σ.fld pDUPLEX F.DUPLEX.STS.STATE) (h112 : ∀ n, σ.page (pEDGE n)) (h113 : σ.fld pBOOK F.BOOK.LAPPED.COUNT) (h114 : σ.fld pBOOK (Fld.mk 12 11 1)) (h115 : σ.fld pBOOK (drainSeq DrainId.dma)) (h116 : σ.fld pBOOK (drainSeq DrainId.twin)) (h117 : σ.fld pBOOK (drainSeq DrainId.ring)) (h118 : σ.fld pBOOK (Fld.mk 12 9 1)) (h119 : σ.fld pDUPLEX F.DUPLEX.STS.SYNCED) (h120 : σ.fld pDUPLEX (Fld.mk 12 12 1)) (h121 : ∀ n, σ.page (pCAN n)) :
    Kept σ ρ (State.fenceAsk s) := by
  unfold State.fenceAsk
  exact Kept.ite (dupFence_kept (hk0) h101 h102 h103 h104 h105 h106 h107 h108 h109 h110 h111 h112 h113 h114 h115 h116 h117 h118 h119 h120 h121) (hk0)

theorem queueApply_kept {σ : Scope} {ρ : State} {s : State} {r : CycRecord} (hk0 : Kept σ ρ s) (h101 : σ.part .stake = true) (h102 : σ.fld pSTAKE F.STAKE.QSTS.HWM) :
    Kept σ ρ (State.queueApply s r) := by
  unfold State.queueApply
  exact set_kept (Kept.stake (hk0) h101) h102

theorem engApply_kept {σ : Scope} {ρ : State} {s : State} {i : EngImage} (hk0 : Kept σ ρ s) (h101 : σ.part .engs = true) (h102 : σ.part .pins = true) :
    Kept σ ρ (State.engApply s i) := by
  unfold State.engApply
  exact Kept.foldl (fun x5 a6 k7 => latchPin_kept (k7) h102) _ _ (setEng_kept (hk0) h101)

theorem putRegs_kept {σ : Scope} {ρ s : State} {p off : Nat} {l : List Nat} (h : Kept σ ρ s)
    (ha : σ.page p) : Kept σ ρ (s.putRegs p off l) := by
  induction l generalizing s off with
  | nil => exact h
  | cons x t ih => exact ih (wr_kept h (ha _))

theorem canApply_kept {σ : Scope} {ρ : State} {s : State} {i : CanImage} (hk0 : Kept σ ρ s) (h101 : σ.part .cans = true) (h102 : σ.page (pCAN i.can)) :
    Kept σ ρ (State.canApply s i) := by
  unfold State.canApply
  exact Kept.cut (fun k19 => (by (try dsimp only); split; exacts [setCan_kept (k19) h101, Kept.foldl (fun x25 a26 k27 => Kept.ite (rxReturn_kept (k27) h102.fld h102.fld h102.fld h102.fld) (k27)) _ _ (setCan_kept (k19) h101)])) (set_kept (wr_kept (setReq_kept (Kept.foldl (fun x15 a16 k17 => putRegs_kept (putRegs_kept (k17) h102) h102) _ _ (hk0)) h102.fld h102.fld) (h102 _)) h102.fld)

theorem noticeApply_kept {σ : Scope} {ρ : State} {s : State} {n : Notice} (hk0 : Kept σ ρ s) (h101 : σ.part .dup = true) (h102 : σ.part .stake = true) :
    Kept σ ρ (State.noticeApply s n) := by
  unfold State.noticeApply
  exact Kept.u_dup_stake (hk0) h101 h102

theorem applyRecord_kept {σ : Scope} {ρ : State} {s : State} {r : CycRecord} (hk0 : Kept σ ρ s) (h101 : σ.part .stake = true) (h102 : σ.part .engs = true) (h103 : σ.part .pins = true) (h104 : σ.part .cans = true) (h105 : σ.part .book = true) (h106 : σ.part .mem = true) (h107 : σ.part .plat = true) (h108 : σ.part .dup = true) (h109 : σ.fld pSTAKE F.STAKE.QSTS.HWM) (h110 : ∀ n, σ.page (pCAN n)) (h111 : σ.fld pBOOK F.BOOK.LAPPED.COUNT) (h112 : σ.fld pBOOK (Fld.mk 12 11 1)) (h113 : σ.fld pBOOK (drainSeq DrainId.dma)) (h114 : σ.fld pBOOK (drainSeq DrainId.twin)) (h115 : σ.fld pBOOK (drainSeq DrainId.ring)) (h116 : σ.fld pBOOK (Fld.mk 12 9 1)) (h117 : σ.fld pBOOK F.BOOK.WR_SEQ.SEQ) (h118 : σ.fld pBOOK F.BOOK.OLDEST.SEQ) (h119 : σ.fld pTALLY F.TALLY.TWIN_E.UJ) (h120 : σ.fld pDUPLEX F.DUPLEX.APPLIED_CYC.CYCLE) (h121 : σ.fld pDUPLEX F.DUPLEX.REC_APPLIED.COUNT) (h122 : σ.fld pDUPLEX F.DUPLEX.REC_LAST.BYTES) (h123 : σ.fld pDUPLEX F.DUPLEX.STS.SYNCED) (h124 : σ.fld pDUPLEX F.DUPLEX.STS.SYNC_AGE) :
    Kept σ ρ (State.applyRecord s r) := by
  unfold State.applyRecord
  exact Kept.cut (fun k910 => set_kept (set_kept (set_kept (bump_kept (set_kept (Kept.foldl (fun x1199 a1200 k1201 => noticeApply_kept (k1201) h108 h101) _ _ (Kept.dup (set_kept (stageBytes_kept (Kept.ite (Kept.foldl (fun x1196 a1197 k1198 => bookCopy_kept (k1198) h106 h105 h117 h118 h111 h112 h113 h114 h115 h116) _ _ (syncDrains_kept (k910) h105 h111 h112 h113 h114 h115 h116)) (k910)) h107) h119) h108)) h120) h121) h122) h123) h124) (Kept.foldl (fun x906 a907 k908 => Kept.ite (canApply_kept (k908) h104 (h110 _)) (k908)) _ _ (Kept.foldl (fun x903 a904 k905 => Kept.ite (engApply_kept (k905) h102 h103) (k905)) _ _ (queueApply_kept (hk0) h101 h109)))

theorem beat_kept {σ : Scope} {ρ : State} {s : State} {lane : ℕ} {clean : Bool} (hk0 : Kept σ ρ s) (h101 : σ.part .dup = true) (h102 : σ.part .pins = true) (h103 : σ.part .edges = true) (h104 : σ.part .book = true) (h105 : σ.fld pDUPLEX F.DUPLEX.STS.MISSED) (h106 : σ.fld pDUPLEX F.DUPLEX.STS.STATE) (h107 : σ.fld pBOOK F.BOOK.DISCARD.COUNT) (h108 : σ.fld pBOOK F.BOOK.SHADOW.DROP) (h109 : σ.fld pBOOK (Fld.mk 12 12 1)) (h110 : ∀ n, σ.page (pEDGE n)) (h111 : σ.fld pBOOK F.BOOK.DISCARD_SYS.COUNT) (h112 : σ.fld pBOOK (Fld.mk 12 8 1)) (h113 : σ.fld pBOOK F.BOOK.LAPPED.COUNT) (h114 : σ.fld pBOOK (Fld.mk 12 11 1)) (h115 : σ.fld pBOOK (drainSeq DrainId.dma)) (h116 : σ.fld pBOOK (drainSeq DrainId.twin)) (h117 : σ.fld pBOOK (drainSeq DrainId.ring)) (h118 : σ.fld pBOOK (Fld.mk 12 9 1)) (h119 : σ.fld pDUPLEX F.DUPLEX.STS.SYNCED) :
    Kept σ ρ (State.beat s lane clean) := by
  unfold State.beat
  exact Kept.cut (fun k5 => Kept.ite (setDup_kept (k5) h101 h102 h103 h104 h106 h107 h108 h109 h110 h111 h112 h113 h114 h115 h116 h117 h118 h119) (k5)) (set_kept (Kept.dup (hk0) h101) h105)

theorem beatIn_kept {σ : Scope} {ρ : State} {s : State} {lane : ℕ} {k : ℕ} {fl : ℕ} (hk0 : Kept σ ρ s) (h101 : σ.part .dup = true) (h102 : σ.part .pins = true) (h103 : σ.part .edges = true) (h104 : σ.part .book = true) (h105 : σ.fld pDUPLEX F.DUPLEX.STS.MISSED) (h106 : σ.fld pDUPLEX F.DUPLEX.STS.STATE) (h107 : σ.fld pBOOK F.BOOK.DISCARD.COUNT) (h108 : σ.fld pBOOK F.BOOK.SHADOW.DROP) (h109 : σ.fld pBOOK (Fld.mk 12 12 1)) (h110 : ∀ n, σ.page (pEDGE n)) (h111 : σ.fld pBOOK F.BOOK.DISCARD_SYS.COUNT) (h112 : σ.fld pBOOK (Fld.mk 12 8 1)) (h113 : σ.fld pBOOK F.BOOK.LAPPED.COUNT) (h114 : σ.fld pBOOK (Fld.mk 12 11 1)) (h115 : σ.fld pBOOK (drainSeq DrainId.dma)) (h116 : σ.fld pBOOK (drainSeq DrainId.twin)) (h117 : σ.fld pBOOK (drainSeq DrainId.ring)) (h118 : σ.fld pBOOK (Fld.mk 12 9 1)) (h119 : σ.fld pDUPLEX F.DUPLEX.STS.SYNCED) :
    Kept σ ρ (State.beatIn s lane k fl) := by
  unfold State.beatIn
  exact Kept.ite (beat_kept (hk0) h101 h102 h103 h104 h105 h106 h107 h108 h109 h110 h111 h112 h113 h114 h115 h116 h117 h118 h119) (hk0)

theorem dupBoundary_kept {σ : Scope} {ρ : State} {s : State} (hk0 : Kept σ ρ s) (h101 : σ.part .dup = true) (h102 : σ.fld pDUPLEX F.DUPLEX.STS.SYNC_AGE) :
    Kept σ ρ (State.dupBoundary s) := by
  unfold State.dupBoundary
  exact Kept.ite (Kept.cut (fun k1 => Kept.ite (Kept.dup (k1) h101) (k1)) (bumpSat_kept (hk0) h102)) (hk0)

theorem engGoOn_kept {σ : Scope} {ρ : State} {s : State} {k : ℕ} {e : ℕ} (hk0 : Kept σ ρ s) (h101 : σ.part .engs = true) :
    Kept σ ρ (State.engGoOn s k e) := by
  unfold State.engGoOn
  exact setEng_kept (hk0) h101

theorem engResume_kept {σ : Scope} {ρ : State} {s : State} {k : ℕ} {e : ℕ} (hk0 : Kept σ ρ s) (h101 : σ.part .engs = true) :
    Kept σ ρ (State.engResume s k e) := by
  unfold State.engResume
  exact Kept.ite (hk0) ((by (try dsimp only); split; exacts [Kept.ite (setEng_kept (hk0) h101) (engGoOn_kept (hk0) h101), engGoOn_kept (hk0) h101]))

theorem cansOn_kept {σ : Scope} {ρ : State} {s : State} (hk0 : Kept σ ρ s) (h101 : σ.part .cans = true) (h102 : σ.part .pins = true) (h103 : σ.part .edges = true) (h104 : σ.part .book = true) (h105 : ∀ n, σ.page (pCAN n)) (h106 : σ.fld pBOOK F.BOOK.DISCARD.COUNT) (h107 : σ.fld pBOOK F.BOOK.SHADOW.DROP) (h108 : σ.fld pBOOK (Fld.mk 12 12 1)) (h109 : ∀ n, σ.page (pEDGE n)) (h110 : σ.fld pBOOK F.BOOK.DISCARD_SYS.COUNT) (h111 : σ.fld pBOOK (Fld.mk 12 8 1)) :
    Kept σ ρ (State.cansOn s) := by
  unfold State.cansOn
  exact Kept.foldl (fun x0 a1 k2 => Kept.ite (canOn_kept (k2) h101 h102 h103 h104 (h105 _).fld h106 h107 h108 h109 h110 h111 (h105 _).fld (h105 _).fld (h105 _).fld (h105 _).fld) (k2)) _ _ (hk0)

theorem dupBudget_kept {σ : Scope} {ρ : State} {s : State} (hk0 : Kept σ ρ s) (h101 : σ.fld pDUPLEX F.DUPLEX.REC_BUDGET.BYTES) (h102 : σ.fld pDUPLEX F.DUPLEX.COPY_TIME.HNS) :
    Kept σ ρ (State.dupBudget s) := by
  unfold State.dupBudget
  exact set_kept (set_kept (hk0) h101) h102

theorem sendRecord_kept {σ : Scope} {ρ : State} {s0 : State} {n : ℤ} (hk0 : Kept σ ρ s0) (h101 : σ.part .book = true) (h102 : σ.part .sw = true) (h103 : σ.part .mem = true) (h104 : σ.part .tally = true) (h105 : σ.page pBOOK) (h106 : σ.page pSWITCH) (h107 : ∀ n, σ.page (pPORT n)) (h108 : σ.page pCAPTURE) (h109 : σ.page pBUFMEM) (h110 : σ.page pDUPLEX) :
    Kept σ ρ (State.sendRecord s0 n) := by
  unfold State.sendRecord
  exact Kept.cut (fun k31 => Kept.tally (Kept.ite (set_kept (k31) h105.fld) (k31)) h104) (set_kept (bump_kept (Kept.foldl (fun x27 a28 k29 => sendCopies_kept (k29) h102 h103 h106.fld h106.fld h107 h108.fld h108.fld h108.fld h108.fld h109.fld) _ _ (syncDrains_kept (hk0) h101 h105.fld h105.fld h105.fld h105.fld h105.fld h105.fld)) h110.fld) h110.fld)

theorem copyPoint_kept {σ : Scope} {ρ : State} {s : State} {cut : Bool} (hk0 : Kept σ ρ s) (h101 : σ.part .dup = true) (h102 : σ.part .sw = true) (h103 : σ.part .mem = true) (h104 : σ.part .book = true) (h105 : σ.part .tally = true) (h106 : σ.part .pins = true) (h107 : ∀ n, σ.page (pPORT n)) (h108 : σ.page pBOOK) (h109 : σ.page pSWITCH) (h110 : σ.page pCAPTURE) (h111 : σ.page pBUFMEM) (h112 : σ.page pDUPLEX) :
    Kept σ ρ (State.copyPoint s cut) := by
  unfold State.copyPoint
  exact Kept.ite (hk0) (Kept.cut (fun k11 => (by (try dsimp only); split; exacts [k11, sendRecord_kept (sendStatus_kept (k11) h102 h103 h109.fld h109.fld h107 h110.fld h110.fld h110.fld h110.fld h111.fld) h104 h102 h103 h105 h108 h109 h107 h110 h111 h112, Kept.cut (fun k13 => Kept.ite (Kept.dup (holdPins_kept (sendRecord_kept (k13) h104 h102 h103 h105 h108 h109 h107 h110 h111 h112) h106) h101) (k13)) (sendStatus_kept (k11) h102 h103 h109.fld h109.fld h107 h110.fld h110.fld h110.fld h110.fld h111.fld), sendStatus_kept (k11) h102 h103 h109.fld h109.fld h107 h110.fld h110.fld h110.fld h110.fld h111.fld, Kept.cut (fun k17 => Kept.ite (event_kept (bump_kept (k17) h112.fld) h112.fld) (k17)) (sendStatus_kept (k11) h102 h103 h109.fld h109.fld h107 h110.fld h110.fld h110.fld h110.fld h111.fld)])) (Kept.dup (advanceT_kept (hk0)) h101))

theorem dualClaim_kept {σ : Scope} {ρ : State} {s : State} {sn : ℕ} (hk0 : Kept σ ρ s) (h101 : σ.part .book = true) (h102 : σ.part .dup = true) (h103 : σ.part .pins = true) (h104 : σ.part .edges = true) (h105 : σ.part .cans = true) (h106 : σ.page pDUPLEX) (h107 : σ.page pBOOK) (h108 : ∀ n, σ.page (pEDGE n)) (h109 : ∀ n, σ.page (pCAN n)) :
    Kept σ ρ (State.dualClaim s sn) := by
  unfold State.dualClaim
  exact Kept.cut (fun k1 => Kept.ite (dupFence_kept (k1) h101 h102 h103 h104 h105 h107.fld h107.fld h107.fld h107.fld h107.fld h106.fld h108 h107.fld h107.fld h107.fld h107.fld h107.fld h107.fld h106.fld h106.fld h109) (k1)) (event_kept (hk0) h106.fld)

theorem takeDecide_kept {σ : Scope} {ρ : State} {s : State} {cause : ℕ} {tk : ℕ} (hk0 : Kept σ ρ s) (h101 : σ.part .dup = true) (h102 : σ.part .pins = true) (h103 : σ.part .edges = true) (h104 : σ.part .book = true) (h105 : σ.fld pDUPLEX F.DUPLEX.STS.STATE) (h106 : σ.fld pBOOK F.BOOK.DISCARD.COUNT) (h107 : σ.fld pBOOK F.BOOK.SHADOW.DROP) (h108 : σ.fld pBOOK (Fld.mk 12 12 1)) (h109 : ∀ n, σ.page (pEDGE n)) (h110 : σ.fld pBOOK F.BOOK.DISCARD_SYS.COUNT) (h111 : σ.fld pBOOK (Fld.mk 12 8 1)) (h112 : σ.fld pBOOK F.BOOK.LAPPED.COUNT) (h113 : σ.fld pBOOK (Fld.mk 12 11 1)) (h114 : σ.fld pBOOK (drainSeq DrainId.dma)) (h115 : σ.fld pBOOK (drainSeq DrainId.twin)) (h116 : σ.fld pBOOK (drainSeq DrainId.ring)) (h117 : σ.fld pBOOK (Fld.mk 12 9 1)) (h118 : σ.fld pDUPLEX F.DUPLEX.STS.SYNCED) (h119 : σ.fld pDUPLEX (Fld.mk 12 15 1)) :
    Kept σ ρ (State.takeDecide s cause tk) := by
  unfold State.takeDecide
  exact Kept.ite (Kept.dup (setDup_kept (hk0) h101 h102 h103 h104 h105 h106 h107 h108 h109 h110 h111 h112 h113 h114 h115 h116 h117 h118) h101) (event_kept (hk0) h119)

theorem follow_kept {σ : Scope} {ρ : State} {s : State} {lane : ℕ} {k : ℕ} {fl : ℕ} {td : ℕ} (hk0 : Kept σ ρ s) (h101 : σ.part .dup = true) (h102 : σ.part .pins = true) (h103 : σ.part .edges = true) (h104 : σ.part .book = true) (h105 : σ.fld pDUPLEX F.DUPLEX.STS.MISSED) (h106 : σ.fld pDUPLEX F.DUPLEX.STS.STATE) (h107 : σ.fld pBOOK F.BOOK.DISCARD.COUNT) (h108 : σ.fld pBOOK F.BOOK.SHADOW.DROP) (h109 : σ.fld pBOOK (Fld.mk 12 12 1)) (h110 : ∀ n, σ.page (pEDGE n)) (h111 : σ.fld pBOOK F.BOOK.DISCARD_SYS.COUNT) (h112 : σ.fld pBOOK (Fld.mk 12 8 1)) (h113 : σ.fld pBOOK F.BOOK.LAPPED.COUNT) (h114 : σ.fld pBOOK (Fld.mk 12 11 1)) (h115 : σ.fld pBOOK (drainSeq DrainId.dma)) (h116 : σ.fld pBOOK (drainSeq DrainId.twin)) (h117 : σ.fld pBOOK (drainSeq DrainId.ring)) (h118 : σ.fld pBOOK (Fld.mk 12 9 1)) (h119 : σ.fld pDUPLEX F.DUPLEX.STS.SYNCED) (h120 : σ.fld pDUPLEX (Fld.mk 12 15 1)) :
    Kept σ ρ (State.follow s lane k fl td) := by
  unfold State.follow
  exact Kept.cut (fun k1 => Kept.ite (Kept.cut (fun k3 => Kept.ite (Kept.dup (k3) h101) (k3)) (takeDecide_kept (k1) h101 h102 h103 h104 h106 h107 h108 h109 h110 h111 h112 h113 h114 h115 h116 h117 h118 h119 h120)) (Kept.ite (takeDecide_kept (k1) h101 h102 h103 h104 h106 h107 h108 h109 h110 h111 h112 h113 h114 h115 h116 h117 h118 h119 h120) (k1))) (beatIn_kept (hk0) h101 h102 h103 h104 h105 h106 h107 h108 h109 h110 h111 h112 h113 h114 h115 h116 h117 h118 h119)

theorem unshadow_kept {σ : Scope} {ρ : State} {s : State} (hk0 : Kept σ ρ s) (h101 : σ.part .cans = true) (h102 : σ.part .pins = true) (h103 : σ.part .edges = true) (h104 : σ.part .book = true) (h105 : σ.part .engs = true) (h106 : ∀ n, σ.page (pCAN n)) (h107 : σ.fld pBOOK F.BOOK.DISCARD.COUNT) (h108 : σ.fld pBOOK F.BOOK.SHADOW.DROP) (h109 : σ.fld pBOOK (Fld.mk 12 12 1)) (h110 : ∀ n, σ.page (pEDGE n)) (h111 : σ.fld pBOOK F.BOOK.DISCARD_SYS.COUNT) (h112 : σ.fld pBOOK (Fld.mk 12 8 1)) :
    Kept σ ρ (State.unshadow s) := by
  unfold State.unshadow
  exact Kept.foldl (fun x0 a1 k2 => Kept.ite (engGoOn_kept (k2) h105) (k2)) _ _ (cansOn_kept (hk0) h101 h102 h103 h104 h106 h107 h108 h109 h110 h111 h112)

theorem negotiated_kept {σ : Scope} {ρ : State} {s : State} {active : Bool} (hk0 : Kept σ ρ s) (h101 : σ.part .dup = true) (h102 : σ.part .pins = true) (h103 : σ.part .edges = true) (h104 : σ.part .book = true) (h105 : σ.part .cans = true) (h106 : σ.part .engs = true) (h107 : σ.part .mem = true) (h108 : σ.part .pwr = true) (h109 : σ.page pDUPLEX) (h110 : σ.page pBOOK) (h111 : ∀ n, σ.page (pEDGE n)) (h112 : ∀ n, σ.page (pCAN n)) (h113 : σ.page pSYS) :
    Kept σ ρ (State.negotiated s active) := by
  unfold State.negotiated
  exact Kept.ite (Kept.cut (fun k31 => Kept.ite (Kept.cut (fun k57 => Kept.ite (frontIn_kept (k57) h104 h107 h108 h110.fld h110.fld h110.fld h111 h110.fld h110.fld h110.fld h110.fld h110.fld h110.fld h110.fld h110.fld h110.fld h110.fld h113.fld) (k57)) (Kept.book (Kept.foldl (fun x53 a54 k55 => engResume_kept (k55) h106) _ _ (cansOn_kept (k31) h105 h102 h103 h104 h112 h110.fld h110.fld h110.fld h111 h110.fld h110.fld)) h104)) (k31)) (Kept.dup (setDup_kept (hk0) h101 h102 h103 h104 h109.fld h110.fld h110.fld h110.fld h111 h110.fld h110.fld h110.fld h110.fld h110.fld h110.fld h110.fld h110.fld h109.fld) h101)) (canShadow_kept (setDup_kept (hk0) h101 h102 h103 h104 h109.fld h110.fld h110.fld h110.fld h111 h110.fld h110.fld h110.fld h110.fld h110.fld h110.fld h110.fld h110.fld h109.fld) h105 h102 h103 h104 h112 h110.fld h110.fld h110.fld h111 h110.fld h110.fld)

theorem negotiate_kept {σ : Scope} {ρ : State} {s : State} {k : ℕ} (hk0 : Kept σ ρ s) (h101 : σ.part .dup = true) (h102 : σ.part .pins = true) (h103 : σ.part .edges = true) (h104 : σ.part .book = true) (h105 : σ.part .cans = true) (h106 : σ.part .engs = true) (h107 : σ.part .mem = true) (h108 : σ.part .pwr = true) (h109 : σ.page pDUPLEX) (h110 : σ.page pBOOK) (h111 : ∀ n, σ.page (pEDGE n)) (h112 : ∀ n, σ.page (pCAN n)) (h113 : σ.page pSYS) :
    Kept σ ρ (State.negotiate s k) := by
  unfold State.negotiate
  exact Kept.ite (negotiated_kept (hk0) h101 h102 h103 h104 h105 h106 h107 h108 h109 h110 h111 h112 h113) (Kept.ite (negotiated_kept (hk0) h101 h102 h103 h104 h105 h106 h107 h108 h109 h110 h111 h112 h113) (hk0))

theorem negotiateEnd_kept {σ : Scope} {ρ : State} {s : State} (hk0 : Kept σ ρ s) (h101 : σ.part .dup = true) (h102 : σ.part .pins = true) (h103 : σ.part .edges = true) (h104 : σ.part .book = true) (h105 : σ.part .cans = true) (h106 : σ.part .engs = true) (h107 : σ.part .mem = true) (h108 : σ.part .pwr = true) (h109 : σ.page pDUPLEX) (h110 : σ.page pBOOK) (h111 : ∀ n, σ.page (pEDGE n)) (h112 : ∀ n, σ.page (pCAN n)) (h113 : σ.page pSYS) :
    Kept σ ρ (State.negotiateEnd s) := by
  unfold State.negotiateEnd
  exact Kept.ite (negotiated_kept (hk0) h101 h102 h103 h104 h105 h106 h107 h108 h109 h110 h111 h112 h113) (hk0)

theorem noticeIn_kept {σ : Scope} {ρ : State} {s : State} {n : Notice} (hk0 : Kept σ ρ s) (h101 : σ.part .dup = true) (h102 : σ.part .stake = true) (h103 : σ.fld pDUPLEX F.DUPLEX.NOTICE_DROP.COUNT) (h104 : σ.fld pDUPLEX (Fld.mk 12 16 1)) :
    Kept σ ρ (State.noticeIn s n) := by
  unfold State.noticeIn
  exact Kept.cut (fun k1 => Kept.ite (Kept.dup (k1) h101) (event_kept (bump_kept (Kept.dup (k1) h101) h103) h104)) (noticeApply_kept (hk0) h101 h102)

theorem noticeRx_kept {σ : Scope} {ρ : State} {s : State} {b : List Byte} (hk0 : Kept σ ρ s) (h101 : σ.part .dup = true) (h102 : σ.part .stake = true) (h103 : σ.fld pDUPLEX F.DUPLEX.NOTICE_DROP.COUNT) (h104 : σ.fld pDUPLEX (Fld.mk 12 16 1)) :
    Kept σ ρ (State.noticeRx s b) := by
  unfold State.noticeRx
  exact Kept.ite (Kept.foldl (fun x0 a1 k2 => noticeIn_kept (k2) h101 h102 h103 h104) _ _ (hk0)) (hk0)

theorem recordRx_kept {σ : Scope} {ρ : State} {s : State} {r : CycRecord} (hk0 : Kept σ ρ s) (h101 : σ.part .stake = true) (h102 : σ.part .engs = true) (h103 : σ.part .pins = true) (h104 : σ.part .cans = true) (h105 : σ.part .book = true) (h106 : σ.part .mem = true) (h107 : σ.part .plat = true) (h108 : σ.part .dup = true) (h109 : σ.fld pSTAKE F.STAKE.QSTS.HWM) (h110 : ∀ n, σ.page (pCAN n)) (h111 : σ.fld pBOOK F.BOOK.LAPPED.COUNT) (h112 : σ.fld pBOOK (Fld.mk 12 11 1)) (h113 : σ.fld pBOOK (drainSeq DrainId.dma)) (h114 : σ.fld pBOOK (drainSeq DrainId.twin)) (h115 : σ.fld pBOOK (drainSeq DrainId.ring)) (h116 : σ.fld pBOOK (Fld.mk 12 9 1)) (h117 : σ.fld pBOOK F.BOOK.WR_SEQ.SEQ) (h118 : σ.fld pBOOK F.BOOK.OLDEST.SEQ) (h119 : σ.fld pTALLY F.TALLY.TWIN_E.UJ) (h120 : σ.fld pDUPLEX F.DUPLEX.APPLIED_CYC.CYCLE) (h121 : σ.fld pDUPLEX F.DUPLEX.REC_APPLIED.COUNT) (h122 : σ.fld pDUPLEX F.DUPLEX.REC_LAST.BYTES) (h123 : σ.fld pDUPLEX F.DUPLEX.STS.SYNCED) (h124 : σ.fld pDUPLEX F.DUPLEX.STS.SYNC_AGE) :
    Kept σ ρ (State.recordRx s r) := by
  unfold State.recordRx
  exact Kept.ite (applyRecord_kept (hk0) h101 h102 h103 h104 h105 h106 h107 h108 h109 h110 h111 h112 h113 h114 h115 h116 h117 h118 h119 h120 h121 h122 h123 h124) (hk0)

theorem statusRx_kept {σ : Scope} {ρ : State} {s0 : State} {lane : ℕ} {b : List Byte} (hk0 : Kept σ ρ s0) (h101 : σ.part .book = true) (h102 : σ.part .dup = true) (h103 : σ.part .pins = true) (h104 : σ.part .edges = true) (h105 : σ.part .cans = true) (h106 : σ.part .engs = true) (h107 : σ.part .mem = true) (h108 : σ.part .pwr = true) (h109 : σ.page pDUPLEX) (h110 : σ.page pBOOK) (h111 : ∀ n, σ.page (pEDGE n)) (h112 : ∀ n, σ.page (pCAN n)) (h113 : σ.page pSYS) :
    Kept σ ρ (State.statusRx s0 lane b) := by
  unfold State.statusRx
  exact Kept.ite (hk0) (Kept.cut (fun k11 => Kept.cut (fun k17 => (by (try dsimp only); split; exacts [negotiate_kept (k17) h102 h103 h104 h101 h105 h106 h107 h108 h109 h110 h111 h112 h113, Kept.ite (dualClaim_kept (k17) h101 h102 h103 h104 h105 h109 h110 h111 h112) (k17), Kept.ite (dualClaim_kept (k17) h101 h102 h103 h104 h105 h109 h110 h111 h112) (k17), follow_kept (k17) h102 h103 h104 h101 h109.fld h109.fld h110.fld h110.fld h110.fld h111 h110.fld h110.fld h110.fld h110.fld h110.fld h110.fld h110.fld h110.fld h109.fld h109.fld, follow_kept (k17) h102 h103 h104 h101 h109.fld h109.fld h110.fld h110.fld h110.fld h111 h110.fld h110.fld h110.fld h110.fld h110.fld h110.fld h110.fld h110.fld h109.fld h109.fld, beatIn_kept (k17) h102 h103 h104 h101 h109.fld h109.fld h110.fld h110.fld h110.fld h111 h110.fld h110.fld h110.fld h110.fld h110.fld h110.fld h110.fld h110.fld h109.fld, k17])) (syncDrains_kept (Kept.dup (Kept.ite (event_kept (k11) h109.fld) (k11)) h102) h101 h110.fld h110.fld h110.fld h110.fld h110.fld h110.fld)) (set_kept (syncDrains_kept (hk0) h101 h110.fld h110.fld h110.fld h110.fld h110.fld h110.fld) h109.fld))

theorem windowClose_kept {σ : Scope} {ρ : State} {s : State} (hk0 : Kept σ ρ s) (h101 : σ.part .dup = true) (h102 : σ.part .pins = true) (h103 : σ.part .edges = true) (h104 : σ.part .book = true) (h105 : σ.page pDUPLEX) (h106 : σ.page pBOOK) (h107 : ∀ n, σ.page (pEDGE n)) :
    Kept σ ρ (State.windowClose s) := by
  unfold State.windowClose
  exact Kept.ite (Kept.cut (fun k37 => Kept.cut (fun k39 => Kept.cut (fun k41 => Kept.ite (k41) (Kept.cut (fun k43 => Kept.cut (fun k45 => Kept.ite (takeDecide_kept (k45) h101 h102 h103 h104 h105.fld h106.fld h106.fld h106.fld h107 h106.fld h106.fld h106.fld h106.fld h106.fld h106.fld h106.fld h106.fld h105.fld h105.fld) (k45)) (Kept.ite (event_kept (setDup_kept (k43) h101 h102 h103 h104 h105.fld h106.fld h106.fld h106.fld h107 h106.fld h106.fld h106.fld h106.fld h106.fld h106.fld h106.fld h106.fld h105.fld) h105.fld) (k43))) (bumpSat_kept (k41) h105.fld))) (Kept.ite (k39) (event_kept (bumpSat_kept (k39) h105.fld) h105.fld))) (Kept.ite (k37) (event_kept (bumpSat_kept (k37) h105.fld) h105.fld))) (setB_kept (setB_kept (Kept.dup (advanceT_kept (hk0)) h101) h105.fld) h105.fld)) (hk0)

theorem execBacksightNoticeRx_kept {σ : Scope} {clk : ℕ} {payload : List Byte} {s : State} (h101 : σ.part .dup = true) (h102 : σ.part .stake = true) (h103 : σ.fld pDUPLEX F.DUPLEX.NOTICE_DROP.COUNT) (h104 : σ.fld pDUPLEX (Fld.mk 12 16 1)) :
    KeptNext σ s (execBacksightNoticeRx clk payload s) := by
  unfold execBacksightNoticeRx
  exact KeptNext.next (noticeRx_kept (advance_kept (Kept.refl σ s)) h101 h102 h103 h104)

theorem execBacksightStatusRx_kept {σ : Scope} {clk : ℕ} {lane : ℕ} {payload : List Byte} {s : State} (h101 : σ.part .book = true) (h102 : σ.part .dup = true) (h103 : σ.part .pins = true) (h104 : σ.part .edges = true) (h105 : σ.part .cans = true) (h106 : σ.part .engs = true) (h107 : σ.part .mem = true) (h108 : σ.part .pwr = true) (h109 : σ.page pDUPLEX) (h110 : σ.page pBOOK) (h111 : ∀ n, σ.page (pEDGE n)) (h112 : ∀ n, σ.page (pCAN n)) (h113 : σ.page pSYS) :
    KeptNext σ s (execBacksightStatusRx clk lane payload s) := by
  unfold execBacksightStatusRx
  exact KeptNext.next (statusRx_kept (advance_kept (Kept.refl σ s)) h101 h102 h103 h104 h105 h106 h107 h108 h109 h110 h111 h112 h113)

theorem execCycleRecordApply_kept {σ : Scope} {clk : ℕ} {rec : CycRecord} {s : State} (h101 : σ.part .stake = true) (h102 : σ.part .engs = true) (h103 : σ.part .pins = true) (h104 : σ.part .cans = true) (h105 : σ.part .book = true) (h106 : σ.part .mem = true) (h107 : σ.part .plat = true) (h108 : σ.part .dup = true) (h109 : σ.fld pSTAKE F.STAKE.QSTS.HWM) (h110 : ∀ n, σ.page (pCAN n)) (h111 : σ.fld pBOOK F.BOOK.LAPPED.COUNT) (h112 : σ.fld pBOOK (Fld.mk 12 11 1)) (h113 : σ.fld pBOOK (drainSeq DrainId.dma)) (h114 : σ.fld pBOOK (drainSeq DrainId.twin)) (h115 : σ.fld pBOOK (drainSeq DrainId.ring)) (h116 : σ.fld pBOOK (Fld.mk 12 9 1)) (h117 : σ.fld pBOOK F.BOOK.WR_SEQ.SEQ) (h118 : σ.fld pBOOK F.BOOK.OLDEST.SEQ) (h119 : σ.fld pTALLY F.TALLY.TWIN_E.UJ) (h120 : σ.fld pDUPLEX F.DUPLEX.APPLIED_CYC.CYCLE) (h121 : σ.fld pDUPLEX F.DUPLEX.REC_APPLIED.COUNT) (h122 : σ.fld pDUPLEX F.DUPLEX.REC_LAST.BYTES) (h123 : σ.fld pDUPLEX F.DUPLEX.STS.SYNCED) (h124 : σ.fld pDUPLEX F.DUPLEX.STS.SYNC_AGE) :
    KeptNext σ s (execCycleRecordApply clk rec s) := by
  unfold execCycleRecordApply
  exact KeptNext.next (recordRx_kept (advance_kept (Kept.refl σ s)) h101 h102 h103 h104 h105 h106 h107 h108 h109 h110 h111 h112 h113 h114 h115 h116 h117 h118 h119 h120 h121 h122 h123 h124)

theorem execDualClaimStatusRx_kept {σ : Scope} {clk : ℕ} {payload : List Byte} {s : State} (h101 : σ.part .book = true) (h102 : σ.part .dup = true) (h103 : σ.part .pins = true) (h104 : σ.part .edges = true) (h105 : σ.part .cans = true) (h106 : σ.page pDUPLEX) (h107 : σ.page pBOOK) (h108 : ∀ n, σ.page (pEDGE n)) (h109 : ∀ n, σ.page (pCAN n)) :
    KeptNext σ s (execDualClaimStatusRx clk payload s) := by
  unfold execDualClaimStatusRx
  exact KeptNext.next (Kept.ite (dualClaim_kept (advance_kept (Kept.refl σ s)) h101 h102 h103 h104 h105 h106 h107 h108 h109) (advance_kept (Kept.refl σ s)))

theorem execDuplexCopyPoint_kept {σ : Scope} {cut : Bool} {s : State} (h101 : σ.part .dup = true) (h102 : σ.part .sw = true) (h103 : σ.part .mem = true) (h104 : σ.part .book = true) (h105 : σ.part .tally = true) (h106 : σ.part .pins = true) (h107 : ∀ n, σ.page (pPORT n)) (h108 : σ.page pBOOK) (h109 : σ.page pSWITCH) (h110 : σ.page pCAPTURE) (h111 : σ.page pBUFMEM) (h112 : σ.page pDUPLEX) :
    KeptNext σ s (execDuplexCopyPoint cut s) := by
  unfold execDuplexCopyPoint
  exact KeptNext.next (copyPoint_kept (Kept.refl σ s) h101 h102 h103 h104 h105 h106 h107 h108 h109 h110 h111 h112)

theorem execDuplexFault_kept {σ : Scope} {clk : ℕ} {s : State} (h101 : σ.part .pins = true) (h102 : σ.part .dup = true) (h103 : σ.part .edges = true) (h104 : σ.part .book = true) (h105 : σ.part .sw = true) (h106 : σ.part .mem = true) (h107 : σ.part .page = true) (h108 : σ.page pDUPLEX) (h109 : σ.page pBOOK) (h110 : ∀ n, σ.page (pEDGE n)) (h111 : σ.page pSWITCH) (h112 : ∀ n, σ.page (pPORT n)) (h113 : σ.page pCAPTURE) (h114 : σ.page pBUFMEM) (h115 : σ.fld pSYS (Fld.mk 12 11 1)) :
    KeptNext σ s (execDuplexFault clk s) := by
  unfold execDuplexFault
  exact KeptNext.next (bitWrite_kept (advance_kept (Kept.refl σ s)) (fun x0 k1 => declareFault_kept (k1) h101 h102 h103 h104 h105 h106 h108 h109 h110 h111 h112 h113 h114) h107 h115 h108.fld h108.fld h108.fld h108.fld)

theorem execDuplexFence_kept {σ : Scope} {clk : ℕ} {s : State} (h101 : σ.part .book = true) (h102 : σ.part .dup = true) (h103 : σ.part .pins = true) (h104 : σ.part .edges = true) (h105 : σ.part .cans = true) (h106 : σ.part .page = true) (h107 : σ.page pBOOK) (h108 : σ.page pDUPLEX) (h109 : ∀ n, σ.page (pEDGE n)) (h110 : ∀ n, σ.page (pCAN n)) (h111 : σ.page pSYS) :
    KeptNext σ s (execDuplexFence clk s) := by
  unfold execDuplexFence
  exact KeptNext.next (bitWrite_kept (advance_kept (Kept.refl σ s)) (fun x0 k1 => fenceAsk_kept (k1) h101 h102 h103 h104 h105 h107.fld h107.fld h107.fld h107.fld h107.fld h108.fld h109 h107.fld h107.fld h107.fld h107.fld h107.fld h107.fld h108.fld h108.fld h110) h106 h111.fld h108.fld h108.fld h108.fld h108.fld)

theorem execDuplexHandover_kept {σ : Scope} {clk : ℕ} {s : State} (h101 : σ.part .pins = true) (h102 : σ.part .dup = true) (h103 : σ.part .edges = true) (h104 : σ.part .book = true) (h105 : σ.part .sw = true) (h106 : σ.part .mem = true) (h107 : σ.part .page = true) (h108 : σ.page pDUPLEX) (h109 : σ.page pBOOK) (h110 : ∀ n, σ.page (pEDGE n)) (h111 : σ.page pSWITCH) (h112 : ∀ n, σ.page (pPORT n)) (h113 : σ.page pCAPTURE) (h114 : σ.page pBUFMEM) (h115 : σ.fld pSYS (Fld.mk 12 11 1)) :
    KeptNext σ s (execDuplexHandover clk s) := by
  unfold execDuplexHandover
  exact KeptNext.next (bitWrite_kept (advance_kept (Kept.refl σ s)) (fun x0 k1 => handoverAsk_kept (k1) h101 h102 h103 h104 h105 h106 h108 h109 h110 h111 h112 h113 h114) h107 h115 h108.fld h108.fld h108.fld h108.fld)

theorem execDuplexNegotiateTimeout_kept {σ : Scope} {s : State} (h101 : σ.part .dup = true) (h102 : σ.part .pins = true) (h103 : σ.part .edges = true) (h104 : σ.part .book = true) (h105 : σ.part .cans = true) (h106 : σ.part .engs = true) (h107 : σ.part .mem = true) (h108 : σ.part .pwr = true) (h109 : σ.page pDUPLEX) (h110 : σ.page pBOOK) (h111 : ∀ n, σ.page (pEDGE n)) (h112 : ∀ n, σ.page (pCAN n)) (h113 : σ.page pSYS) :
    KeptNext σ s (execDuplexNegotiateTimeout s) := by
  unfold execDuplexNegotiateTimeout
  exact KeptNext.next (negotiateEnd_kept (Kept.refl σ s) h101 h102 h103 h104 h105 h106 h107 h108 h109 h110 h111 h112 h113)

theorem execDuplexRejoin_kept {σ : Scope} {clk : ℕ} {s : State} (h101 : σ.part .dup = true) (h102 : σ.part .pins = true) (h103 : σ.part .edges = true) (h104 : σ.part .book = true) (h105 : σ.part .page = true) (h106 : σ.page pDUPLEX) (h107 : σ.page pBOOK) (h108 : ∀ n, σ.page (pEDGE n)) (h109 : σ.page pSYS) :
    KeptNext σ s (execDuplexRejoin clk s) := by
  unfold execDuplexRejoin
  exact KeptNext.next (bitWrite_kept (advance_kept (Kept.refl σ s)) (fun x0 k1 => dupRejoin_kept (k1) h101 h102 h103 h104 h106.fld h107.fld h107.fld h107.fld h108 h107.fld h107.fld h107.fld h107.fld h107.fld h107.fld h107.fld h107.fld h106.fld) h105 h109.fld h106.fld h106.fld h106.fld h106.fld)

theorem execHeartbeatWindowClose_kept {σ : Scope} {s : State} (h101 : σ.part .dup = true) (h102 : σ.part .pins = true) (h103 : σ.part .edges = true) (h104 : σ.part .book = true) (h105 : σ.page pDUPLEX) (h106 : σ.page pBOOK) (h107 : ∀ n, σ.page (pEDGE n)) :
    KeptNext σ s (execHeartbeatWindowClose s) := by
  unfold execHeartbeatWindowClose
  exact KeptNext.next (windowClose_kept (Kept.refl σ s) h101 h102 h103 h104 h105 h106 h107)

theorem execPeerAbsent_kept {σ : Scope} {s : State} (h101 : σ.fld pDUPLEX F.DUPLEX.STS.PEER_PRESENT) :
    KeptNext σ s (execPeerAbsent s) := by
  unfold execPeerAbsent
  exact KeptNext.next (Kept.ite (set_kept (advanceT_kept (Kept.refl σ s)) h101) (Kept.refl σ s))

theorem unmask_kept {σ : Scope} {ρ : State} {s : State} {v : ℕ} (hk0 : Kept σ ρ s) (h101 : σ.part .bridge = true) :
    Kept σ ρ (State.unmask s v) := by
  unfold State.unmask
  exact (by (try dsimp only); split; exacts [hk0, Kept.cut (fun k1 => Kept.ite (postRh_kept (k1) h101) (k1)) (Kept.bridge (hk0) h101)])

theorem sendMsix_kept {σ : Scope} {ρ : State} {s : State} {v : ℕ} (hk0 : Kept σ ρ s) (h101 : σ.part .bridge = true) :
    Kept σ ρ (State.sendMsix s v) := by
  unfold State.sendMsix
  exact (by (try dsimp only); split; exacts [hk0, Kept.ite (Kept.bridge (hk0) h101) (postRh_kept (hk0) h101)])

theorem repeatSet_kept {σ : Scope} {ρ : State} {s : State} {g : ℕ} {ms : ℕ} (hk0 : Kept σ ρ s) (h101 : σ.part .page = true) :
    Kept σ ρ (State.repeatSet s g ms) := by
  unfold State.repeatSet
  exact Kept.page (hk0) h101

theorem groupNotice_kept {σ : Scope} {ρ : State} {s : State} {g : ℕ} (hk0 : Kept σ ρ s) (h101 : σ.part .sw = true) (h102 : σ.part .mem = true) (h103 : σ.fld pHSR F.HSR.SEQ.NEXT) (h104 : σ.fld pSWITCH F.SWITCH.BUF_DROP.COUNT) (h105 : σ.fld pSWITCH (Fld.mk 12 9 1)) (h106 : ∀ n, σ.page (pPORT n)) (h107 : σ.fld pCAPTURE F.CAPTURE.LOST.COUNT) (h108 : σ.fld pCAPTURE (Fld.mk 12 9 1)) (h109 : σ.fld pCAPTURE F.CAPTURE.WR_SEQ.SEQ) (h110 : σ.fld pCAPTURE (Fld.mk 12 8 1)) (h111 : σ.fld pBUFMEM (Fld.mk 12 13 1)) (h112 : σ.fld pSWITCH F.SWITCH.NOPATH.COUNT) (h113 : σ.fld pSWITCH (Fld.mk 12 11 1)) (h114 : σ.fld pIRQ F.IRQ.NDROP.COUNT) (h115 : σ.fld pIRQ (Fld.mk 12 8 1)) :
    Kept σ ρ (State.groupNotice s g) := by
  unfold State.groupNotice
  exact Kept.ite (sendNotice_kept (hk0) h101 h102 h103 h104 h105 h106 h107 h108 h109 h110 h111 h112 h113) (Kept.ite (hk0) (event_kept (bumpSat_kept (hk0) h114) h115))

theorem routeGroup_kept {σ : Scope} {ρ : State} {s : State} {g : ℕ} (hk0 : Kept σ ρ s) (h101 : σ.part .bridge = true) (h102 : σ.part .sw = true) (h103 : σ.part .mem = true) (h104 : σ.part .page = true) (h105 : σ.fld pHSR F.HSR.SEQ.NEXT) (h106 : σ.fld pSWITCH F.SWITCH.BUF_DROP.COUNT) (h107 : σ.fld pSWITCH (Fld.mk 12 9 1)) (h108 : ∀ n, σ.page (pPORT n)) (h109 : σ.fld pCAPTURE F.CAPTURE.LOST.COUNT) (h110 : σ.fld pCAPTURE (Fld.mk 12 9 1)) (h111 : σ.fld pCAPTURE F.CAPTURE.WR_SEQ.SEQ) (h112 : σ.fld pCAPTURE (Fld.mk 12 8 1)) (h113 : σ.fld pBUFMEM (Fld.mk 12 13 1)) (h114 : σ.fld pSWITCH F.SWITCH.NOPATH.COUNT) (h115 : σ.fld pSWITCH (Fld.mk 12 11 1)) (h116 : σ.fld pIRQ F.IRQ.NDROP.COUNT) (h117 : σ.fld pIRQ (Fld.mk 12 8 1)) :
    Kept σ ρ (State.routeGroup s g) := by
  unfold State.routeGroup
  exact Kept.cut (fun k1 => Kept.ite (repeatSet_kept (groupNotice_kept (k1) h102 h103 h105 h106 h107 h108 h109 h110 h111 h112 h113 h114 h115 h116 h117) h104) (repeatSet_kept (k1) h104)) (Kept.ite (sendMsix_kept (hk0) h101) (hk0))

theorem rearmIrq_kept {σ : Scope} {ρ : State} {s : State} {mask : ℕ} (hk0 : Kept σ ρ s) (h101 : σ.part .bridge = true) (h102 : σ.part .sw = true) (h103 : σ.part .mem = true) (h104 : σ.part .page = true) (h105 : σ.fld pHSR F.HSR.SEQ.NEXT) (h106 : σ.fld pSWITCH F.SWITCH.BUF_DROP.COUNT) (h107 : σ.fld pSWITCH (Fld.mk 12 9 1)) (h108 : ∀ n, σ.page (pPORT n)) (h109 : σ.fld pCAPTURE F.CAPTURE.LOST.COUNT) (h110 : σ.fld pCAPTURE (Fld.mk 12 9 1)) (h111 : σ.fld pCAPTURE F.CAPTURE.WR_SEQ.SEQ) (h112 : σ.fld pCAPTURE (Fld.mk 12 8 1)) (h113 : σ.fld pBUFMEM (Fld.mk 12 13 1)) (h114 : σ.fld pSWITCH F.SWITCH.NOPATH.COUNT) (h115 : σ.fld pSWITCH (Fld.mk 12 11 1)) (h116 : σ.fld pIRQ F.IRQ.NDROP.COUNT) (h117 : σ.fld pIRQ (Fld.mk 12 8 1)) :
    Kept σ ρ (State.rearmIrq s mask) := by
  unfold State.rearmIrq
  exact Kept.foldl (fun x0 a1 k2 => routeGroup_kept (k2) h101 h102 h103 h104 h105 h106 h107 h108 h109 h110 h111 h112 h113 h114 h115 h116 h117) _ _ (hk0)

theorem irqEdges_kept {σ : Scope} {ρ : State} {s : State} {old : State} (hk0 : Kept σ ρ s) (h101 : σ.part .page = true) (h102 : σ.part .bridge = true) (h103 : σ.part .sw = true) (h104 : σ.part .mem = true) (h105 : σ.fld pHSR F.HSR.SEQ.NEXT) (h106 : σ.fld pSWITCH F.SWITCH.BUF_DROP.COUNT) (h107 : σ.fld pSWITCH (Fld.mk 12 9 1)) (h108 : ∀ n, σ.page (pPORT n)) (h109 : σ.fld pCAPTURE F.CAPTURE.LOST.COUNT) (h110 : σ.fld pCAPTURE (Fld.mk 12 9 1)) (h111 : σ.fld pCAPTURE F.CAPTURE.WR_SEQ.SEQ) (h112 : σ.fld pCAPTURE (Fld.mk 12 8 1)) (h113 : σ.fld pBUFMEM (Fld.mk 12 13 1)) (h114 : σ.fld pSWITCH F.SWITCH.NOPATH.COUNT) (h115 : σ.fld pSWITCH (Fld.mk 12 11 1)) (h116 : σ.fld pIRQ F.IRQ.NDROP.COUNT) (h117 : σ.fld pIRQ (Fld.mk 12 8 1)) :
    Kept σ ρ (State.irqEdges s old) := by
  unfold State.irqEdges
  exact Kept.foldl (fun x5 a6 k7 => routeGroup_kept (k7) h102 h103 h104 h101 h105 h106 h107 h108 h109 h110 h111 h112 h113 h114 h115 h116 h117) _ _ (Kept.ite (hk0) (Kept.page (hk0) h101))

theorem noticeAgain_kept {σ : Scope} {ρ : State} {s : State} {g : ℕ} (hk0 : Kept σ ρ s) (h101 : σ.part .sw = true) (h102 : σ.part .mem = true) (h103 : σ.part .page = true) (h104 : σ.fld pHSR F.HSR.SEQ.NEXT) (h105 : σ.fld pSWITCH F.SWITCH.BUF_DROP.COUNT) (h106 : σ.fld pSWITCH (Fld.mk 12 9 1)) (h107 : ∀ n, σ.page (pPORT n)) (h108 : σ.fld pCAPTURE F.CAPTURE.LOST.COUNT) (h109 : σ.fld pCAPTURE (Fld.mk 12 9 1)) (h110 : σ.fld pCAPTURE F.CAPTURE.WR_SEQ.SEQ) (h111 : σ.fld pCAPTURE (Fld.mk 12 8 1)) (h112 : σ.fld pBUFMEM (Fld.mk 12 13 1)) (h113 : σ.fld pSWITCH F.SWITCH.NOPATH.COUNT) (h114 : σ.fld pSWITCH (Fld.mk 12 11 1)) (h115 : σ.fld pIRQ F.IRQ.NDROP.COUNT) (h116 : σ.fld pIRQ (Fld.mk 12 8 1)) :
    Kept σ ρ (State.noticeAgain s g) := by
  unfold State.noticeAgain
  exact (by (try dsimp only); split; exacts [hk0, Kept.cut (fun k1 => Kept.ite (repeatSet_kept (groupNotice_kept (k1) h101 h102 h104 h105 h106 h107 h108 h109 h110 h111 h112 h113 h114 h115 h116) h103) (repeatSet_kept (k1) h103)) (advance_kept (hk0))])

theorem summaryIn_kept {σ : Scope} {ρ : State} {s : State} {p : ℕ} (hk0 : Kept σ ρ s) (h101 : σ.part .page = true) (h102 : σ.part .bridge = true) (h103 : σ.part .sw = true) (h104 : σ.part .mem = true) (h105 : σ.fld pIRQ (pendFld p)) (h106 : σ.fld pHSR F.HSR.SEQ.NEXT) (h107 : σ.fld pSWITCH F.SWITCH.BUF_DROP.COUNT) (h108 : σ.fld pSWITCH (Fld.mk 12 9 1)) (h109 : ∀ n, σ.page (pPORT n)) (h110 : σ.fld pCAPTURE F.CAPTURE.LOST.COUNT) (h111 : σ.fld pCAPTURE (Fld.mk 12 9 1)) (h112 : σ.fld pCAPTURE F.CAPTURE.WR_SEQ.SEQ) (h113 : σ.fld pCAPTURE (Fld.mk 12 8 1)) (h114 : σ.fld pBUFMEM (Fld.mk 12 13 1)) (h115 : σ.fld pSWITCH F.SWITCH.NOPATH.COUNT) (h116 : σ.fld pSWITCH (Fld.mk 12 11 1)) (h117 : σ.fld pIRQ F.IRQ.NDROP.COUNT) (h118 : σ.fld pIRQ (Fld.mk 12 8 1)) :
    Kept σ ρ (State.summaryIn s p) := by
  unfold State.summaryIn
  exact Kept.ite (hk0) (irqEdges_kept (setB_kept (hk0) h105) h101 h102 h103 h104 h106 h107 h108 h109 h110 h111 h112 h113 h114 h115 h116 h117 h118)

theorem execIrqRearm_kept {σ : Scope} {clk : ℕ} {mask : ℕ} {s : State} (h101 : σ.part .bridge = true) (h102 : σ.part .sw = true) (h103 : σ.part .mem = true) (h104 : σ.part .page = true) (h105 : σ.page pHSR) (h106 : σ.page pSWITCH) (h107 : ∀ n, σ.page (pPORT n)) (h108 : σ.page pCAPTURE) (h109 : σ.page pBUFMEM) (h110 : σ.page pIRQ) (h111 : σ.page pSYS) :
    KeptNext σ s (execIrqRearm clk mask s) := by
  unfold execIrqRearm
  exact KeptNext.next (fldWrite_kept (advance_kept (Kept.refl σ s)) (fun x0 k1 => rearmIrq_kept (k1) h101 h102 h103 h104 h105.fld h106.fld h106.fld h107 h108.fld h108.fld h108.fld h108.fld h109.fld h106.fld h106.fld h110.fld h110.fld) h104 h111.fld h110.fld h110.fld h110.fld h110.fld)

theorem execIrqSummaryArrive_kept {σ : Scope} {clk : ℕ} {page : ℕ} {s : State} (h101 : σ.part .page = true) (h102 : σ.part .bridge = true) (h103 : σ.part .sw = true) (h104 : σ.part .mem = true) (h105 : σ.fld pIRQ (pendFld page)) (h106 : σ.fld pHSR F.HSR.SEQ.NEXT) (h107 : σ.fld pSWITCH F.SWITCH.BUF_DROP.COUNT) (h108 : σ.fld pSWITCH (Fld.mk 12 9 1)) (h109 : ∀ n, σ.page (pPORT n)) (h110 : σ.fld pCAPTURE F.CAPTURE.LOST.COUNT) (h111 : σ.fld pCAPTURE (Fld.mk 12 9 1)) (h112 : σ.fld pCAPTURE F.CAPTURE.WR_SEQ.SEQ) (h113 : σ.fld pCAPTURE (Fld.mk 12 8 1)) (h114 : σ.fld pBUFMEM (Fld.mk 12 13 1)) (h115 : σ.fld pSWITCH F.SWITCH.NOPATH.COUNT) (h116 : σ.fld pSWITCH (Fld.mk 12 11 1)) (h117 : σ.fld pIRQ F.IRQ.NDROP.COUNT) (h118 : σ.fld pIRQ (Fld.mk 12 8 1)) :
    KeptNext σ s (execIrqSummaryArrive clk page s) := by
  unfold execIrqSummaryArrive
  exact KeptNext.next (summaryIn_kept (advance_kept (Kept.refl σ s)) h101 h102 h103 h104 h105 h106 h107 h108 h109 h110 h111 h112 h113 h114 h115 h116 h117 h118)

theorem execMsixUnmask_kept {σ : Scope} {clk : ℕ} {vector : ℕ} {s : State} (h101 : σ.part .bridge = true) :
    KeptNext σ s (execMsixUnmask clk vector s) := by
  unfold execMsixUnmask
  exact KeptNext.next (unmask_kept (advance_kept (Kept.refl σ s)) h101)

theorem execNoticeRepeat_kept {σ : Scope} {group : ℕ} {s : State} (h101 : σ.part .sw = true) (h102 : σ.part .mem = true) (h103 : σ.part .page = true) (h104 : σ.fld pHSR F.HSR.SEQ.NEXT) (h105 : σ.fld pSWITCH F.SWITCH.BUF_DROP.COUNT) (h106 : σ.fld pSWITCH (Fld.mk 12 9 1)) (h107 : ∀ n, σ.page (pPORT n)) (h108 : σ.fld pCAPTURE F.CAPTURE.LOST.COUNT) (h109 : σ.fld pCAPTURE (Fld.mk 12 9 1)) (h110 : σ.fld pCAPTURE F.CAPTURE.WR_SEQ.SEQ) (h111 : σ.fld pCAPTURE (Fld.mk 12 8 1)) (h112 : σ.fld pBUFMEM (Fld.mk 12 13 1)) (h113 : σ.fld pSWITCH F.SWITCH.NOPATH.COUNT) (h114 : σ.fld pSWITCH (Fld.mk 12 11 1)) (h115 : σ.fld pIRQ F.IRQ.NDROP.COUNT) (h116 : σ.fld pIRQ (Fld.mk 12 8 1)) :
    KeptNext σ s (execNoticeRepeat group s) := by
  unfold execNoticeRepeat
  exact KeptNext.next (noticeAgain_kept (Kept.refl σ s) h101 h102 h103 h104 h105 h106 h107 h108 h109 h110 h111 h112 h113 h114 h115 h116)

theorem txFetchOne_kept {σ : Scope} {ρ : State} {s : State} (hk0 : Kept σ ρ s) (h101 : σ.part .bridge = true) :
    Kept σ ρ (State.txFetchOne s) := by
  unfold State.txFetchOne
  exact Kept.ite (Kept.bridge (Kept.foldl (fun x5 a6 k7 => postRh_kept (k7) h101) _ _ (hk0)) h101) (hk0)

theorem txFetch_kept {σ : Scope} {ρ : State} {s : State} (hk0 : Kept σ ρ s) (h101 : σ.part .bridge = true) :
    Kept σ ρ (State.txFetch s) := by
  unfold State.txFetch
  exact Kept.ite (txFetchOne_kept (hk0) h101) (hk0)

theorem leaseOver_kept {σ : Scope} {ρ : State} {s : State} (hk0 : Kept σ ρ s) (h101 : σ.part .bridge = true) (h102 : σ.reg (regKey pBRIDGE 80) = true) (h103 : σ.fld pBRIDGE (Fld.mk 12 13 1)) :
    Kept σ ρ (State.leaseOver s) := by
  unfold State.leaseOver
  exact Kept.ite (Kept.bridge (event_kept (wr_kept (hk0) h102) h103) h101) (hk0)

theorem bridgeOff_kept {σ : Scope} {ρ : State} {s : State} (hk0 : Kept σ ρ s) (h101 : σ.part .bridge = true) (h102 : σ.reg (regKey pBRIDGE 80) = true) (h103 : σ.fld pBRIDGE (Fld.mk 12 13 1)) :
    Kept σ ρ (State.bridgeOff s) := by
  unfold State.bridgeOff
  exact leaseOver_kept (Kept.bridge (Kept.foldl (fun x24 a25 k26 => post_kept (k26) h101) _ _ (Kept.foldl (fun x21 a22 k23 => post_kept (k23) h101) _ _ (hk0))) h101) h101 h102 h103

theorem bridgeClr_kept {σ : Scope} {ρ : State} {s : State} (hk0 : Kept σ ρ s) (h101 : σ.part .bridge = true) :
    Kept σ ρ (State.bridgeClr s) := by
  unfold State.bridgeClr
  exact Kept.bridge (hk0) h101

theorem leaseGrant_kept {σ : Scope} {ρ : State} {s : State} {node : ℕ} {member : ℕ} (hk0 : Kept σ ρ s) (h101 : σ.part .bridge = true) (h102 : σ.fld pBRIDGE F.BRIDGE.MGRSTS.HELD) (h103 : σ.fld pBRIDGE F.BRIDGE.MGRSTS.NODE) (h104 : σ.fld pBRIDGE F.BRIDGE.MGRSTS.MEMBER) (h105 : σ.fld pBRIDGE (Fld.mk 12 13 1)) :
    Kept σ ρ (State.leaseGrant s node member) := by
  unfold State.leaseGrant
  exact Kept.bridge (event_kept (set_kept (set_kept (set_kept (hk0) h102) h103) h104) h105) h101

end Sys2Proof.Laws
end

