-- ==== Sys2Proof/Laws/Kept10.lean ====
section
/-!
SUPPORT. What the operations and commands of these files keep: Machine/Gang, Machine/Mscl, Machine/Hmon.
-/

namespace Sys2Proof.Laws

open Sys2Proof Sys2Proof.Machine

theorem gangOn_kept {σ : Scope} {ρ : State} {s : State} (hk0 : Kept σ ρ s) (h101 : σ.part .gang = true) (h102 : σ.fld pGANGCTL F.GANGCTL.STS.FORMED) (h103 : σ.fld pGANGCTL F.GANGCTL.STS.AGREED) (h104 : σ.fld pGANGCTL F.GANGCTL.STS.PRESENT) :
    Kept σ ρ (State.gangOn s) := by
  unfold State.gangOn
  exact Kept.gang (set_kept (set_kept (set_kept (hk0) h102) h103) h104) h101

theorem gangOff_kept {σ : Scope} {ρ : State} {s : State} (hk0 : Kept σ ρ s) (h101 : σ.part .gang = true) (h102 : σ.fld pGANGCTL F.GANGCTL.STS.FORMED) (h103 : σ.fld pGANGCTL F.GANGCTL.STS.OFS_VALID) (h104 : σ.fld pGANGCTL F.GANGCTL.STS.PRESENT) :
    Kept σ ρ (State.gangOff s) := by
  unfold State.gangOff
  exact Kept.gang (set_kept (set_kept (set_kept (hk0) h102) h103) h104) h101

theorem gangRejoin_kept {σ : Scope} {ρ : State} {s : State} (hk0 : Kept σ ρ s) (h101 : σ.part .gang = true) :
    Kept σ ρ (State.gangRejoin s) := by
  unfold State.gangRejoin
  exact Kept.ite (Kept.gang (hk0) h101) (hk0)

theorem memFence_kept {σ : Scope} {ρ : State} {s : State} {m : ℕ} {cause : ℕ} {data : List Byte} (hk0 : Kept σ ρ s) (h101 : σ.part .book = true) (h102 : σ.part .pins = true) (h103 : σ.part .dup = true) (h104 : σ.part .edges = true) (h105 : σ.part .sw = true) (h106 : σ.part .mem = true) (h107 : σ.part .cans = true) (h108 : σ.fld pGANGCTL (memBit F.GANGCTL.STS.FENCED m)) (h109 : σ.fld pGANGCTL (memBit F.GANGCTL.STS.PRESENT m)) (h110 : σ.fld pGANGCTL F.GANGCTL.FENCINGS.COUNT) (h111 : σ.fld pGANGCTL (Fld.mk 12 11 1)) (h112 : σ.page pDUPLEX) (h113 : σ.page pBOOK) (h114 : ∀ n, σ.page (pEDGE n)) (h115 : σ.page pSWITCH) (h116 : ∀ n, σ.page (pPORT n)) (h117 : σ.page pCAPTURE) (h118 : σ.page pBUFMEM) (h119 : ∀ n, σ.page (pCAN n)) :
    Kept σ ρ (State.memFence s m cause data) := by
  unfold State.memFence
  exact Kept.cut (fun k1 => Kept.ite (k1) ((by split; exacts [declareFault_kept (k1) h102 h103 h104 h101 h105 h106 h112 h113 h114 h115 h116 h117 h118, k1, dupYield_kept (k1) h103 h102 h104 h101 h107 h112.fld h113.fld h113.fld h113.fld h114 h113.fld h113.fld h113.fld h113.fld h113.fld h113.fld h113.fld h113.fld h112.fld h112.fld h119, canShadow_kept (shadowSync_kept (k1) h102 h104 h101 h113.fld h113.fld h113.fld h114 h113.fld h113.fld) h107 h102 h104 h101 h119 h113.fld h113.fld h113.fld h114 h113.fld h113.fld]))) (event_kept (bump_kept (set_kept (set_kept (stage_kept (hk0) h101 h113.fld h113.fld h113.fld (h114 _).fld (h114 _).fld h113.fld h113.fld) h108) h109) h110) h111)

theorem gangFence_kept {σ : Scope} {ρ : State} {s : State} (hk0 : Kept σ ρ s) (h101 : σ.part .book = true) (h102 : σ.part .pins = true) (h103 : σ.part .dup = true) (h104 : σ.part .edges = true) (h105 : σ.part .sw = true) (h106 : σ.part .mem = true) (h107 : σ.part .cans = true) (h108 : σ.fld pGANGCTL (memBit F.GANGCTL.STS.FENCED s.member)) (h109 : σ.fld pGANGCTL (memBit F.GANGCTL.STS.PRESENT s.member)) (h110 : σ.fld pGANGCTL F.GANGCTL.FENCINGS.COUNT) (h111 : σ.fld pGANGCTL (Fld.mk 12 11 1)) (h112 : σ.page pDUPLEX) (h113 : σ.page pBOOK) (h114 : ∀ n, σ.page (pEDGE n)) (h115 : σ.page pSWITCH) (h116 : ∀ n, σ.page (pPORT n)) (h117 : σ.page pCAPTURE) (h118 : σ.page pBUFMEM) (h119 : ∀ n, σ.page (pCAN n)) :
    Kept σ ρ (State.gangFence s) := by
  unfold State.gangFence
  exact Kept.ite (memFence_kept (hk0) h101 h102 h103 h104 h105 h106 h107 h108 h109 h110 h111 h112 h113 h114 h115 h116 h117 h118 h119) (hk0)

theorem sendGang_kept {σ : Scope} {ρ : State} {s : State} {sub : ℕ} {dest : ℕ} {payload : List Byte} (hk0 : Kept σ ρ s) (h101 : σ.part .sw = true) (h102 : σ.part .mem = true) (h103 : σ.fld pSWITCH F.SWITCH.BUF_DROP.COUNT) (h104 : σ.fld pSWITCH (Fld.mk 12 9 1)) (h105 : ∀ n, σ.page (pPORT n)) (h106 : σ.fld pCAPTURE F.CAPTURE.LOST.COUNT) (h107 : σ.fld pCAPTURE (Fld.mk 12 9 1)) (h108 : σ.fld pCAPTURE F.CAPTURE.WR_SEQ.SEQ) (h109 : σ.fld pCAPTURE (Fld.mk 12 8 1)) (h110 : σ.fld pBUFMEM (Fld.mk 12 13 1)) (h111 : σ.fld pSWITCH F.SWITCH.NOPATH.COUNT) (h112 : σ.fld pSWITCH (Fld.mk 12 11 1)) :
    Kept σ ρ (State.sendGang s sub dest payload) := by
  unfold State.sendGang
  exact sendMember_kept (hk0) h101 h102 h103 h104 h105 h106 h107 h108 h109 h110 h111 h112

theorem stateSend_kept {σ : Scope} {ρ : State} {s : State} {n : ℕ} (hk0 : Kept σ ρ s) (h101 : σ.part .sw = true) (h102 : σ.part .mem = true) (h103 : σ.fld pSWITCH F.SWITCH.BUF_DROP.COUNT) (h104 : σ.fld pSWITCH (Fld.mk 12 9 1)) (h105 : ∀ n, σ.page (pPORT n)) (h106 : σ.fld pCAPTURE F.CAPTURE.LOST.COUNT) (h107 : σ.fld pCAPTURE (Fld.mk 12 9 1)) (h108 : σ.fld pCAPTURE F.CAPTURE.WR_SEQ.SEQ) (h109 : σ.fld pCAPTURE (Fld.mk 12 8 1)) (h110 : σ.fld pBUFMEM (Fld.mk 12 13 1)) (h111 : σ.fld pSWITCH F.SWITCH.NOPATH.COUNT) (h112 : σ.fld pSWITCH (Fld.mk 12 11 1)) :
    Kept σ ρ (State.stateSend s n) := by
  unfold State.stateSend
  exact Kept.ite (Kept.foldl (fun x0 a1 k2 => sendGang_kept (k2) h101 h102 h103 h104 h105 h106 h107 h108 h109 h110 h111 h112) _ _ (hk0)) (hk0)

theorem gangForm_kept {σ : Scope} {ρ : State} {s : State} (hk0 : Kept σ ρ s) (h101 : σ.fld pGANGCTL F.GANGCTL.STS.FORMED) (h102 : σ.fld pGANGCTL F.GANGCTL.STS.PRESENT) (h103 : σ.fld pGANGCTL (Fld.mk 12 8 1)) :
    Kept σ ρ (State.gangForm s) := by
  unfold State.gangForm
  exact Kept.ite (event_kept (set_kept (set_kept (hk0) h101) h102) h103) (hk0)

theorem gangBoundary_kept {σ : Scope} {ρ : State} {s : State} {n : ℕ} (hk0 : Kept σ ρ s) (h101 : σ.part .sw = true) (h102 : σ.part .mem = true) (h103 : σ.fld pGANGCTL F.GANGCTL.STS.FORMED) (h104 : σ.fld pGANGCTL F.GANGCTL.STS.PRESENT) (h105 : σ.fld pGANGCTL (Fld.mk 12 8 1)) (h106 : σ.fld pSWITCH F.SWITCH.BUF_DROP.COUNT) (h107 : σ.fld pSWITCH (Fld.mk 12 9 1)) (h108 : ∀ n, σ.page (pPORT n)) (h109 : σ.fld pCAPTURE F.CAPTURE.LOST.COUNT) (h110 : σ.fld pCAPTURE (Fld.mk 12 9 1)) (h111 : σ.fld pCAPTURE F.CAPTURE.WR_SEQ.SEQ) (h112 : σ.fld pCAPTURE (Fld.mk 12 8 1)) (h113 : σ.fld pBUFMEM (Fld.mk 12 13 1)) (h114 : σ.fld pSWITCH F.SWITCH.NOPATH.COUNT) (h115 : σ.fld pSWITCH (Fld.mk 12 11 1)) :
    Kept σ ρ (State.gangBoundary s n) := by
  unfold State.gangBoundary
  exact stateSend_kept (gangForm_kept (hk0) h103 h104 h105) h101 h102 h106 h107 h108 h109 h110 h111 h112 h113 h114 h115

theorem gangSign_kept {σ : Scope} {ρ : State} {s : State} {m : ℕ} (hk0 : Kept σ ρ s) (h101 : σ.part .dup = true) :
    Kept σ ρ (State.gangSign s m) := by
  unfold State.gangSign
  exact Kept.ite (Kept.dup (hk0) h101) (hk0)

theorem gangRefuse_kept {σ : Scope} {ρ : State} {s : State} {code : ℕ} {index : ℕ} {member : ℕ} (hk0 : Kept σ ρ s) (h101 : σ.part .gang = true) (h102 : σ.fld pGANGCTL F.HDR.PSTS.CODE) (h103 : σ.fld pGANGCTL F.HDR.PSTS.INDEX) (h104 : σ.fld pGANGCTL F.HDR.PSTS.REFUSED) (h105 : σ.fld pGANGCTL (Fld.mk 12 0 1)) (h106 : σ.fld pGANGCTL F.GANGCTL.STS.DIS_MEMBER) (h107 : σ.fld pGANGCTL (Fld.mk 12 9 1)) :
    Kept σ ρ (State.gangRefuse s code index member) := by
  unfold State.gangRefuse
  exact Kept.gang (event_kept (set_kept (refuse_kept (hk0) h102 h103 h104 h105) h106) h107) h101

theorem formWaitEnd_kept {σ : Scope} {ρ : State} {s : State} (hk0 : Kept σ ρ s) (h101 : σ.part .gang = true) (h102 : σ.fld pGANGCTL F.HDR.PSTS.CODE) (h103 : σ.fld pGANGCTL F.HDR.PSTS.INDEX) (h104 : σ.fld pGANGCTL F.HDR.PSTS.REFUSED) (h105 : σ.fld pGANGCTL (Fld.mk 12 0 1)) (h106 : σ.fld pGANGCTL F.GANGCTL.STS.DIS_MEMBER) (h107 : σ.fld pGANGCTL (Fld.mk 12 9 1)) :
    Kept σ ρ (State.formWaitEnd s) := by
  unfold State.formWaitEnd
  exact (by (try dsimp only); split; exacts [hk0, Kept.ite (hk0) (Kept.cut (fun k5 => Kept.ite (k5) ((by split; exacts [gangRefuse_kept (k5) h101 h102 h103 h104 h105 h106 h107, (by split; exacts [gangRefuse_kept (k5) h101 h102 h103 h104 h105 h106 h107, k5])]))) (Kept.gang (advance_kept (hk0)) h101))])

theorem memMiss_kept {σ : Scope} {ρ : State} {s : State} {m : ℕ} (hk0 : Kept σ ρ s) (h101 : σ.part .gang = true) (h102 : σ.fld pGANGCTL F.GANGCTL.STATE_MISS.COUNT) (h103 : σ.fld pGANGCTL (memBit F.GANGCTL.STS.PRESENT m)) (h104 : σ.fld pGANGCTL (memBit F.GANGCTL.STS.AGREED m)) (h105 : σ.fld pGANGCTL (Fld.mk 12 10 1)) :
    Kept σ ρ (State.memMiss s m) := by
  unfold State.memMiss
  exact Kept.cut (fun k5 => Kept.ite (k5) (event_kept (set_kept (set_kept (k5) h103) h104) h105)) (Kept.gang (bump_kept (hk0) h102) h101)

theorem unfence_kept {σ : Scope} {ρ : State} {s : State} {n : ℕ} {ref : ℕ} {m : ℕ} (hk0 : Kept σ ρ s) (h101 : σ.part .gang = true) (h102 : σ.part .pins = true) (h103 : σ.part .edges = true) (h104 : σ.part .book = true) (h105 : σ.part .cans = true) (h106 : σ.part .engs = true) (h107 : σ.fld pGANGCTL (memBit F.GANGCTL.STS.FENCED m)) (h108 : σ.fld pGANGCTL (memBit F.GANGCTL.STS.PRESENT m)) (h109 : σ.fld pBOOK F.BOOK.DISCARD.COUNT) (h110 : σ.fld pBOOK F.BOOK.SHADOW.DROP) (h111 : σ.fld pBOOK (Fld.mk 12 12 1)) (h112 : ∀ n, σ.page (pEDGE n)) (h113 : σ.fld pBOOK F.BOOK.DISCARD_SYS.COUNT) (h114 : σ.fld pBOOK (Fld.mk 12 8 1)) (h115 : ∀ n, σ.page (pCAN n)) :
    Kept σ ρ (State.unfence s n ref m) := by
  unfold State.unfence
  exact Kept.ite (Kept.cut (fun k1 => Kept.ite (Kept.cut (fun k3 => Kept.ite (unshadow_kept (k3) h105 h102 h103 h104 h106 h115 h109 h110 h111 h112 h113 h114) (k3)) (shadowSync_kept (Kept.gang (k1) h101) h102 h103 h104 h109 h110 h111 h112 h113 h114)) (k1)) (set_kept (set_kept (hk0) h107) h108)) (hk0)

theorem voteNow_kept {σ : Scope} {ρ : State} {s : State} {n : ℕ} (hk0 : Kept σ ρ s) (h101 : σ.part .gang = true) (h102 : σ.part .book = true) (h103 : σ.part .pins = true) (h104 : σ.part .dup = true) (h105 : σ.part .edges = true) (h106 : σ.part .sw = true) (h107 : σ.part .mem = true) (h108 : σ.part .cans = true) (h109 : σ.part .engs = true) (h110 : σ.page pGANGCTL) (h111 : σ.page pDUPLEX) (h112 : σ.page pBOOK) (h113 : ∀ n, σ.page (pEDGE n)) (h114 : σ.page pSWITCH) (h115 : ∀ n, σ.page (pPORT n)) (h116 : σ.page pCAPTURE) (h117 : σ.page pBUFMEM) (h118 : ∀ n, σ.page (pCAN n)) :
    Kept σ ρ (State.voteNow s n) := by
  unfold State.voteNow
  exact Kept.cut (fun k67 => (by (try dsimp only); split; exacts [Kept.ite (event_kept (k67) h110.fld) (k67), Kept.foldl (fun x79 a80 k81 => unfence_kept (k81) h101 h103 h105 h102 h108 h109 h110.fld h110.fld h112.fld h112.fld h112.fld h113 h112.fld h112.fld h118) _ _ (Kept.foldl (fun x76 a77 k78 => memFence_kept (k78) h102 h103 h104 h105 h106 h107 h108 h110.fld h110.fld h110.fld h110.fld h111 h112 h113 h114 h115 h116 h117 h118) _ _ (k67))])) (setB_kept (set_kept (set_kept (Kept.foldl (fun x63 a64 k65 => memMiss_kept (k65) h101 h110.fld h110.fld h110.fld h110.fld) _ _ (Kept.gang (hk0) h101)) h110.fld) h110.fld) h110.fld)

theorem gangVote_kept {σ : Scope} {ρ : State} {s : State} (hk0 : Kept σ ρ s) (h101 : σ.part .gang = true) (h102 : σ.part .book = true) (h103 : σ.part .pins = true) (h104 : σ.part .dup = true) (h105 : σ.part .edges = true) (h106 : σ.part .sw = true) (h107 : σ.part .mem = true) (h108 : σ.part .cans = true) (h109 : σ.part .engs = true) (h110 : σ.page pGANGCTL) (h111 : σ.page pDUPLEX) (h112 : σ.page pBOOK) (h113 : ∀ n, σ.page (pEDGE n)) (h114 : σ.page pSWITCH) (h115 : ∀ n, σ.page (pPORT n)) (h116 : σ.page pCAPTURE) (h117 : σ.page pBUFMEM) (h118 : ∀ n, σ.page (pCAN n)) :
    Kept σ ρ (State.gangVote s) := by
  unfold State.gangVote
  exact Kept.ite (voteNow_kept (Kept.gang (advanceT_kept (hk0)) h101) h101 h102 h103 h104 h105 h106 h107 h108 h109 h110 h111 h112 h113 h114 h115 h116 h117 h118) (hk0)

theorem helloMatch_kept {σ : Scope} {ρ : State} {s : State} {m : ℕ} {b : List Byte} (hk0 : Kept σ ρ s) (h101 : σ.part .gang = true) (h102 : σ.fld pGANGCTL (memBit F.GANGCTL.STS.AGREED m)) (h103 : σ.fld pGANGCTL (memBit F.GANGCTL.STS.PRESENT m)) (h104 : σ.fld pGANGCTL (Fld.mk 12 14 1)) :
    Kept σ ρ (State.helloMatch s m b) := by
  unfold State.helloMatch
  exact Kept.cut (fun k7 => Kept.ite (Kept.gang (event_kept (set_kept (k7) h103) h104) h101) (k7)) (set_kept (Kept.gang (hk0) h101) h102)

theorem helloRx_kept {σ : Scope} {ρ : State} {s0 : State} {n : ℕ} {m : ℕ} {b : List Byte} (hk0 : Kept σ ρ s0) (h101 : σ.part .dup = true) (h102 : σ.part .gang = true) (h103 : σ.fld pGANGCTL F.HDR.PSTS.CODE) (h104 : σ.fld pGANGCTL F.HDR.PSTS.INDEX) (h105 : σ.fld pGANGCTL F.HDR.PSTS.REFUSED) (h106 : σ.fld pGANGCTL (Fld.mk 12 0 1)) (h107 : σ.fld pGANGCTL F.GANGCTL.STS.DIS_MEMBER) (h108 : σ.fld pGANGCTL (Fld.mk 12 9 1)) (h109 : σ.fld pGANGCTL (memBit F.GANGCTL.STS.AGREED m)) (h110 : σ.fld pGANGCTL (memBit F.GANGCTL.STS.PRESENT m)) (h111 : σ.fld pGANGCTL (Fld.mk 12 14 1)) :
    Kept σ ρ (State.helloRx s0 n m b) := by
  unfold State.helloRx
  exact Kept.ite (hk0) (Kept.cut (fun k1 => Kept.ite (k1) (Kept.ite (k1) (Kept.ite (gangRefuse_kept (k1) h102 h103 h104 h105 h106 h107 h108) ((by split; exacts [helloMatch_kept (k1) h102 h109 h110 h111, Kept.ite (set_kept (k1) h109) (gangRefuse_kept (k1) h102 h103 h104 h105 h106 h107 h108)]))))) (gangSign_kept (hk0) h101))

theorem helloSend_kept {σ : Scope} {ρ : State} {s : State} (hk0 : Kept σ ρ s) (h101 : σ.part .gang = true) (h102 : σ.part .sw = true) (h103 : σ.part .mem = true) (h104 : σ.fld pSWITCH F.SWITCH.BUF_DROP.COUNT) (h105 : σ.fld pSWITCH (Fld.mk 12 9 1)) (h106 : ∀ n, σ.page (pPORT n)) (h107 : σ.fld pCAPTURE F.CAPTURE.LOST.COUNT) (h108 : σ.fld pCAPTURE (Fld.mk 12 9 1)) (h109 : σ.fld pCAPTURE F.CAPTURE.WR_SEQ.SEQ) (h110 : σ.fld pCAPTURE (Fld.mk 12 8 1)) (h111 : σ.fld pBUFMEM (Fld.mk 12 13 1)) (h112 : σ.fld pSWITCH F.SWITCH.NOPATH.COUNT) (h113 : σ.fld pSWITCH (Fld.mk 12 11 1)) :
    Kept σ ρ (State.helloSend s) := by
  unfold State.helloSend
  exact Kept.ite (Kept.cut (fun k8 => Kept.ite (Kept.foldl (fun x9 a10 k11 => sendGang_kept (k11) h102 h103 h104 h105 h106 h107 h108 h109 h110 h111 h112 h113) _ _ (k8)) (k8)) (Kept.gang (advance_kept (hk0)) h101)) (hk0)

theorem stateRx_kept {σ : Scope} {ρ : State} {s : State} {m : ℕ} {b : List Byte} (hk0 : Kept σ ρ s) (h101 : σ.part .dup = true) (h102 : σ.part .gang = true) (h103 : σ.fld pGANGCTL (F.GANGCTL.DIG.DIGEST.at (4 * m))) :
    Kept σ ρ (State.stateRx s m b) := by
  unfold State.stateRx
  exact Kept.ite (Kept.gang (set_kept (gangSign_kept (hk0) h101) h103) h102) (hk0)

theorem timeRx_kept {σ : Scope} {ρ : State} {s0 : State} {n : ℕ} {m : ℕ} {stamp : ℕ} {b : List Byte} (hk0 : Kept σ ρ s0) (h101 : σ.part .gang = true) (h102 : σ.part .dup = true) (h103 : σ.fld pGANGCTL F.GANGCTL.STS.OFS_VALID) (h104 : σ.fld pGANGCTL F.GANGCTL.OFS.OFS) (h105 : σ.fld pGANGCTL (Fld.mk 12 13 1)) :
    Kept σ ρ (State.timeRx s0 n m stamp b) := by
  unfold State.timeRx
  exact Kept.ite (hk0) (Kept.gang ((by (try dsimp only); split; exacts [gangSign_kept (leadLink_kept (actNote_kept (hk0) h101) h103) h102, Kept.cut (fun k13 => Kept.ite (event_kept (k13) h105) (k13)) (set_kept (set_kept (gangSign_kept (leadLink_kept (actNote_kept (hk0) h101) h103) h102) h104) h103)])) h101)

theorem timeSend_kept {σ : Scope} {ρ : State} {s : State} (hk0 : Kept σ ρ s) (h101 : σ.part .ports = true) (h102 : σ.part .mscl = true) (h103 : σ.part .sw = true) (h104 : σ.part .mem = true) (h105 : σ.part .gang = true) (h106 : σ.part .stamps = true) (h107 : σ.fld pSTAMP F.STAMP.ONESTEP_ERR.COUNT) (h108 : σ.fld pSTAMP (Fld.mk 12 8 1)) (h109 : σ.fld pCAPTURE F.CAPTURE.LOST.COUNT) (h110 : σ.fld pCAPTURE (Fld.mk 12 9 1)) (h111 : σ.fld pCAPTURE F.CAPTURE.WR_SEQ.SEQ) (h112 : σ.fld pCAPTURE (Fld.mk 12 8 1)) (h113 : σ.fld pSTAMP F.STAMP.TXQOVF.COUNT) (h114 : σ.fld pSTAMP (Fld.mk 12 9 1)) (h115 : σ.fld pSTAMP (Fld.mk 12 10 1)) (h116 : σ.fld pSWITCH F.SWITCH.BUF_DROP.COUNT) (h117 : σ.fld pSWITCH (Fld.mk 12 9 1)) (h118 : ∀ n, σ.page (pPORT n)) (h119 : σ.fld pBUFMEM (Fld.mk 12 13 1)) :
    Kept σ ρ (State.timeSend s) := by
  unfold State.timeSend
  exact Kept.ite (Kept.cut (fun k13 => Kept.ite (Kept.gang (Kept.foldl (fun x19 a20 k21 => sendCopies_kept (k21) h103 h104 h116 h117 h118 h109 h110 h111 h112 h119) _ _ (k13)) h105) (k13)) (Kept.gang (stampsDue_kept (advance_kept (hk0)) h101 h102 h103 h104 h105 h106 h107 h108 h109 h110 h111 h112 h113 h114 h115) h105)) (hk0)

theorem execGangFormWaitExpire_kept {σ : Scope} {s : State} (h101 : σ.part .gang = true) (h102 : σ.fld pGANGCTL F.HDR.PSTS.CODE) (h103 : σ.fld pGANGCTL F.HDR.PSTS.INDEX) (h104 : σ.fld pGANGCTL F.HDR.PSTS.REFUSED) (h105 : σ.fld pGANGCTL (Fld.mk 12 0 1)) (h106 : σ.fld pGANGCTL F.GANGCTL.STS.DIS_MEMBER) (h107 : σ.fld pGANGCTL (Fld.mk 12 9 1)) :
    KeptNext σ s (execGangFormWaitExpire s) := by
  unfold execGangFormWaitExpire
  exact KeptNext.next (formWaitEnd_kept (Kept.refl σ s) h101 h102 h103 h104 h105 h106 h107)

theorem execGangHelloRx_kept {σ : Scope} {clk : ℕ} {port : ℕ} {member : ℕ} {payload : List Byte} {s : State} (h101 : σ.part .dup = true) (h102 : σ.part .gang = true) (h103 : σ.fld pGANGCTL F.HDR.PSTS.CODE) (h104 : σ.fld pGANGCTL F.HDR.PSTS.INDEX) (h105 : σ.fld pGANGCTL F.HDR.PSTS.REFUSED) (h106 : σ.fld pGANGCTL (Fld.mk 12 0 1)) (h107 : σ.fld pGANGCTL F.GANGCTL.STS.DIS_MEMBER) (h108 : σ.fld pGANGCTL (Fld.mk 12 9 1)) (h109 : σ.fld pGANGCTL (memBit F.GANGCTL.STS.AGREED member)) (h110 : σ.fld pGANGCTL (memBit F.GANGCTL.STS.PRESENT member)) (h111 : σ.fld pGANGCTL (Fld.mk 12 14 1)) (h112 : σ.fld pGANGCTL F.GANGCTL.STS.OFS_VALID) :
    KeptNext σ s (execGangHelloRx clk port member payload s) := by
  unfold execGangHelloRx
  exact KeptNext.next (leadLink_kept (helloRx_kept (advance_kept (Kept.refl σ s)) h101 h102 h103 h104 h105 h106 h107 h108 h109 h110 h111) h112)

theorem execGangHelloSend_kept {σ : Scope} {s : State} (h101 : σ.part .gang = true) (h102 : σ.part .sw = true) (h103 : σ.part .mem = true) (h104 : σ.fld pSWITCH F.SWITCH.BUF_DROP.COUNT) (h105 : σ.fld pSWITCH (Fld.mk 12 9 1)) (h106 : ∀ n, σ.page (pPORT n)) (h107 : σ.fld pCAPTURE F.CAPTURE.LOST.COUNT) (h108 : σ.fld pCAPTURE (Fld.mk 12 9 1)) (h109 : σ.fld pCAPTURE F.CAPTURE.WR_SEQ.SEQ) (h110 : σ.fld pCAPTURE (Fld.mk 12 8 1)) (h111 : σ.fld pBUFMEM (Fld.mk 12 13 1)) (h112 : σ.fld pSWITCH F.SWITCH.NOPATH.COUNT) (h113 : σ.fld pSWITCH (Fld.mk 12 11 1)) :
    KeptNext σ s (execGangHelloSend s) := by
  unfold execGangHelloSend
  exact KeptNext.next (helloSend_kept (Kept.refl σ s) h101 h102 h103 h104 h105 h106 h107 h108 h109 h110 h111 h112 h113)

theorem execGangStateRx_kept {σ : Scope} {clk : ℕ} {member : ℕ} {payload : List Byte} {s : State} (h101 : σ.part .dup = true) (h102 : σ.part .gang = true) (h103 : σ.fld pGANGCTL (F.GANGCTL.DIG.DIGEST.at (4 * member))) :
    KeptNext σ s (execGangStateRx clk member payload s) := by
  unfold execGangStateRx
  exact KeptNext.next (stateRx_kept (advance_kept (Kept.refl σ s)) h101 h102 h103)

theorem execGangTimeRx_kept {σ : Scope} {clk : ℕ} {port : ℕ} {member : ℕ} {stamp : ℕ} {payload : List Byte} {s : State} (h101 : σ.part .gang = true) (h102 : σ.part .dup = true) (h103 : σ.fld pGANGCTL F.GANGCTL.STS.OFS_VALID) (h104 : σ.fld pGANGCTL F.GANGCTL.OFS.OFS) (h105 : σ.fld pGANGCTL (Fld.mk 12 13 1)) :
    KeptNext σ s (execGangTimeRx clk port member stamp payload s) := by
  unfold execGangTimeRx
  exact KeptNext.next (timeRx_kept (advance_kept (Kept.refl σ s)) h101 h102 h103 h104 h105)

theorem execGangTimeSend_kept {σ : Scope} {s : State} (h101 : σ.part .ports = true) (h102 : σ.part .mscl = true) (h103 : σ.part .sw = true) (h104 : σ.part .mem = true) (h105 : σ.part .gang = true) (h106 : σ.part .stamps = true) (h107 : σ.fld pSTAMP F.STAMP.ONESTEP_ERR.COUNT) (h108 : σ.fld pSTAMP (Fld.mk 12 8 1)) (h109 : σ.fld pCAPTURE F.CAPTURE.LOST.COUNT) (h110 : σ.fld pCAPTURE (Fld.mk 12 9 1)) (h111 : σ.fld pCAPTURE F.CAPTURE.WR_SEQ.SEQ) (h112 : σ.fld pCAPTURE (Fld.mk 12 8 1)) (h113 : σ.fld pSTAMP F.STAMP.TXQOVF.COUNT) (h114 : σ.fld pSTAMP (Fld.mk 12 9 1)) (h115 : σ.fld pSTAMP (Fld.mk 12 10 1)) (h116 : σ.fld pSWITCH F.SWITCH.BUF_DROP.COUNT) (h117 : σ.fld pSWITCH (Fld.mk 12 9 1)) (h118 : ∀ n, σ.page (pPORT n)) (h119 : σ.fld pBUFMEM (Fld.mk 12 13 1)) :
    KeptNext σ s (execGangTimeSend s) := by
  unfold execGangTimeSend
  exact KeptNext.next (timeSend_kept (Kept.refl σ s) h101 h102 h103 h104 h105 h106 h107 h108 h109 h110 h111 h112 h113 h114 h115 h116 h117 h118 h119)

theorem execGangVote_kept {σ : Scope} {s : State} (h101 : σ.part .gang = true) (h102 : σ.part .book = true) (h103 : σ.part .pins = true) (h104 : σ.part .dup = true) (h105 : σ.part .edges = true) (h106 : σ.part .sw = true) (h107 : σ.part .mem = true) (h108 : σ.part .cans = true) (h109 : σ.part .engs = true) (h110 : σ.page pGANGCTL) (h111 : σ.page pDUPLEX) (h112 : σ.page pBOOK) (h113 : ∀ n, σ.page (pEDGE n)) (h114 : σ.page pSWITCH) (h115 : ∀ n, σ.page (pPORT n)) (h116 : σ.page pCAPTURE) (h117 : σ.page pBUFMEM) (h118 : ∀ n, σ.page (pCAN n)) :
    KeptNext σ s (execGangVote s) := by
  unfold execGangVote
  exact KeptNext.next (leadLink_kept (gangVote_kept (Kept.refl σ s) h101 h102 h103 h104 h105 h106 h107 h108 h109 h110 h111 h112 h113 h114 h115 h116 h117 h118) h110.fld)

theorem execGangctlFence_kept {σ : Scope} {clk : ℕ} {s : State} (h101 : σ.part .book = true) (h102 : σ.part .pins = true) (h103 : σ.part .dup = true) (h104 : σ.part .edges = true) (h105 : σ.part .sw = true) (h106 : σ.part .mem = true) (h107 : σ.part .cans = true) (h108 : σ.part .page = true) (h109 : σ.page pGANGCTL) (h110 : σ.page pDUPLEX) (h111 : σ.page pBOOK) (h112 : ∀ n, σ.page (pEDGE n)) (h113 : σ.page pSWITCH) (h114 : ∀ n, σ.page (pPORT n)) (h115 : σ.page pCAPTURE) (h116 : σ.page pBUFMEM) (h117 : ∀ n, σ.page (pCAN n)) (h118 : σ.fld pSYS (Fld.mk 12 11 1)) :
    KeptNext σ s (execGangctlFence clk s) := by
  unfold execGangctlFence
  exact KeptNext.next (bitWrite_kept (advance_kept (Kept.refl σ s)) (fun x0 k1 => gangFence_kept (k1) h101 h102 h103 h104 h105 h106 h107 h109.fld h109.fld h109.fld h109.fld h110 h111 h112 h113 h114 h115 h116 h117) h108 h118 h109.fld h109.fld h109.fld h109.fld)

theorem execGangctlRejoin_kept {σ : Scope} {clk : ℕ} {s : State} (h101 : σ.part .gang = true) (h102 : σ.part .page = true) (h103 : σ.fld pSYS (Fld.mk 12 11 1)) (h104 : σ.fld pGANGCTL F.HDR.PSTS.CODE) (h105 : σ.fld pGANGCTL F.HDR.PSTS.INDEX) (h106 : σ.fld pGANGCTL F.HDR.PSTS.REFUSED) (h107 : σ.fld pGANGCTL (Fld.mk 12 0 1)) :
    KeptNext σ s (execGangctlRejoin clk s) := by
  unfold execGangctlRejoin
  exact KeptNext.next (bitWrite_kept (advance_kept (Kept.refl σ s)) (fun x0 k1 => gangRejoin_kept (k1) h101) h102 h103 h104 h105 h106 h107)

theorem msclSts_kept {σ : Scope} {ρ : State} {s : State} (hk0 : Kept σ ρ s) (h101 : σ.fld pMSCL F.MSCL.STS.STEP_PEND) (h102 : σ.fld pMSCL F.MSCL.STS.PD_PEND) (h103 : σ.fld pMSCL F.MSCL.STS.GCLOSED) :
    Kept σ ρ (State.msclSts s) := by
  unfold State.msclSts
  exact setB_kept (setB_kept (setB_kept (hk0) h101) h102) h103

theorem msclOn_kept {σ : Scope} {ρ : State} {s : State} (hk0 : Kept σ ρ s) (h101 : σ.part .mscl = true) (h102 : σ.fld pMSCL F.MSCL.STS.OPEN_CAUSE) (h103 : σ.fld pMSCL F.MSCL.TRISTS.VALID) (h104 : σ.fld pMSCL F.MSCL.STS.CLOSED) (h105 : σ.fld pMSCL F.MSCL.STS.STEP_PEND) (h106 : σ.fld pMSCL F.MSCL.STS.PD_PEND) (h107 : σ.fld pMSCL F.MSCL.STS.GCLOSED) :
    Kept σ ρ (State.msclOn s) := by
  unfold State.msclOn
  exact msclSts_kept (set_kept (set_kept (set_kept (Kept.mscl (hk0) h101) h102) h103) h104) h105 h106 h107

theorem setClosed_kept {σ : Scope} {ρ : State} {s : State} {l : ℕ} {b : Bool} (hk0 : Kept σ ρ s) (h101 : σ.fld pMSCL F.MSCL.STS.CLOSED) (h102 : σ.fld pMSCL (Fld.mk F.MSCL.TRISTS.VALID.off l 1)) :
    Kept σ ρ (State.setClosed s l b) := by
  unfold State.setClosed
  exact Kept.ite (setB_kept (hk0) h101) (setB_kept (hk0) h102)

theorem setLoop_kept {σ : Scope} {ρ : State} {s : State} {l : ℕ} {v : Loop} (hk0 : Kept σ ρ s) (h101 : σ.part .mscl = true) :
    Kept σ ρ (State.setLoop s l v) := by
  unfold State.setLoop
  exact Kept.mscl (hk0) h101

theorem openLoop_kept {σ : Scope} {ρ : State} {s : State} {l : ℕ} {cause : ℕ} (hk0 : Kept σ ρ s) (h101 : σ.part .mscl = true) (h102 : σ.fld pMSCL F.MSCL.STS.CLOSED) (h103 : σ.fld pMSCL (Fld.mk F.MSCL.TRISTS.VALID.off l 1)) (h104 : σ.fld pMSCL F.MSCL.STS.OPEN_CAUSE) (h105 : σ.fld pMSCL (Fld.mk 12 10 1)) (h106 : σ.fld pMSCL F.MSCL.STS.STEP_PEND) (h107 : σ.fld pMSCL F.MSCL.STS.PD_PEND) (h108 : σ.fld pMSCL F.MSCL.STS.GCLOSED) :
    Kept σ ρ (State.openLoop s l cause) := by
  unfold State.openLoop
  exact Kept.cut (fun k1 => Kept.cut (fun k7 => msclSts_kept (Kept.ite (event_kept (k7) h105) (k7)) h106 h107 h108) (Kept.mscl (Kept.ite (set_kept (k1) h104) (k1)) h101)) (setClosed_kept (setLoop_kept (hk0) h101) h102 h103)

theorem msclLink_kept {σ : Scope} {ρ : State} {s : State} {n : ℕ} {was : Bool} {up : Bool} (hk0 : Kept σ ρ s) (h101 : σ.part .mscl = true) (h102 : σ.page pMSCL) :
    Kept σ ρ (State.msclLink s n was up) := by
  unfold State.msclLink
  exact Kept.ite (hk0) (Kept.foldl (fun x0 a1 k2 => openLoop_kept (k2) h101 h102.fld h102.fld h102.fld h102.fld h102.fld h102.fld h102.fld) _ _ (hk0))

theorem msclOff_kept {σ : Scope} {ρ : State} {s : State} (hk0 : Kept σ ρ s) (h101 : σ.part .mscl = true) (h102 : σ.fld pMSCL F.MSCL.STS.OPEN_CAUSE) (h103 : σ.fld pMSCL F.MSCL.TRISTS.VALID) (h104 : σ.fld pMSCL F.MSCL.STS.CLOSED) (h105 : σ.fld pMSCL F.MSCL.STS.STEP_PEND) (h106 : σ.fld pMSCL F.MSCL.STS.PD_PEND) (h107 : σ.fld pMSCL F.MSCL.STS.GCLOSED) :
    Kept σ ρ (State.msclOff s) := by
  unfold State.msclOff
  exact msclSts_kept (set_kept (set_kept (set_kept (Kept.mscl (hk0) h101) h102) h103) h104) h105 h106 h107

theorem pdelayWrite_kept {σ : Scope} {ρ : State} {s : State} {p : ℕ} {v : Word} (hk0 : Kept σ ρ s) (h101 : σ.part .mscl = true) (h102 : σ.fld pSTAMP (F.STAMP.PDELAY.PDELAY.at (32 * p))) (h103 : σ.fld pMSCL F.MSCL.STS.STEP_PEND) (h104 : σ.fld pMSCL F.MSCL.STS.PD_PEND) (h105 : σ.fld pMSCL F.MSCL.STS.GCLOSED) :
    Kept σ ρ (State.pdelayWrite s p v) := by
  unfold State.pdelayWrite
  exact Kept.cut (fun k1 => Kept.ite (k1) ((by (try dsimp only); split; exacts [Kept.mscl (k1) h101, Kept.ite (k1) (msclSts_kept (Kept.mscl (k1) h101) h103 h104 h105)]))) (set_kept (hk0) h102)

theorem setCref_kept {σ : Scope} {ρ : State} {s : State} {l : ℕ} {c : ℤ} (hk0 : Kept σ ρ s) (h101 : σ.part .mscl = true) (h102 : σ.fld pMSCL F.MSCL.CREF.CREF) :
    Kept σ ρ (State.setCref s l c) := by
  unfold State.setCref
  exact Kept.cut (fun k1 => Kept.ite (set_kept (k1) h102) (k1)) (setLoop_kept (hk0) h101)

theorem adopt_kept {σ : Scope} {ρ : State} {s : State} {l : ℕ} (hk0 : Kept σ ρ s) (h101 : σ.part .mscl = true) (h102 : σ.fld pMSCL F.MSCL.CREF.CREF) :
    Kept σ ρ (State.adopt s l) := by
  unfold State.adopt
  exact (by split; exacts [setCref_kept (hk0) h101 h102, hk0])

theorem refPorts_kept {σ : Scope} {ρ : State} {s : State} {ps : List ℕ} (hk0 : Kept σ ρ s) (h101 : σ.part .mscl = true) :
    Kept σ ρ (State.refPorts s ps) := by
  unfold State.refPorts
  exact Kept.mscl (hk0) h101

theorem refLoops_kept {σ : Scope} {ρ : State} {s : State} {ls : List ℕ} {ps : List ℕ} (hk0 : Kept σ ρ s) (h101 : σ.part .mscl = true) :
    Kept σ ρ (State.refLoops s ls ps) := by
  unfold State.refLoops
  exact refPorts_kept (hk0) h101

theorem settleLoops_kept {σ : Scope} {ρ : State} {s : State} {ls : List ℕ} {ps : List ℕ} (hk0 : Kept σ ρ s) (h101 : σ.part .mscl = true) (h102 : σ.fld pMSCL F.MSCL.CREF.CREF) :
    Kept σ ρ (State.settleLoops s ls ps) := by
  unfold State.settleLoops
  exact refLoops_kept (Kept.foldl (fun x0 a1 k2 => adopt_kept (k2) h101 h102) _ _ (hk0)) h101

theorem shiftRec_kept {σ : Scope} {ρ : State} {s : State} {reason : ℕ} {mesh : Bool} {port : Option ℕ} {delta : ℤ} {pd : ℤ} (hk0 : Kept σ ρ s) (h101 : σ.part .book = true) (h102 : σ.fld pBOOK F.BOOK.DISCARD.COUNT) (h103 : σ.fld pBOOK F.BOOK.SHADOW.DROP) (h104 : σ.fld pBOOK (Fld.mk 12 12 1)) (h105 : σ.fld (pEDGE
  ((Rec.mk s.now 113 (bit (reason == 0) + 2 * bit mesh + 4 * reason) (port.getD 65535)
        (data2 (ofSigned delta 32) (ofSigned pd 32))).source /
    64)) F.EDGE.DROPS.COUNT) (h106 : σ.fld (pEDGE
  ((Rec.mk s.now 113 (bit (reason == 0) + 2 * bit mesh + 4 * reason) (port.getD 65535)
        (data2 (ofSigned delta 32) (ofSigned pd 32))).source /
    64)) (Fld.mk 12 11 1)) (h107 : σ.fld pBOOK F.BOOK.DISCARD_SYS.COUNT) (h108 : σ.fld pBOOK (Fld.mk 12 8 1)) (h109 : σ.fld pMSCL F.MSCL.LAST.PORT) (h110 : σ.fld pMSCL F.MSCL.LAST.FLAGS) (h111 : σ.fld pMSCL F.MSCL.LAST_DELTA.DELTA) (h112 : σ.fld pMSCL F.MSCL.LAST_MEAN.MEAN) (h113 : σ.fld pMSCL F.MSCL.ATTR.APPLIED) (h114 : σ.fld pMSCL (Fld.mk 12 8 1)) (h115 : σ.fld pMSCL F.MSCL.ATTR.FLAGGED) (h116 : σ.fld pMSCL (Fld.mk 12 9 1)) :
    Kept σ ρ (State.shiftRec s reason mesh port delta pd) := by
  unfold State.shiftRec
  exact Kept.cut (fun k13 => Kept.ite (event_kept (bumpSat_kept (k13) h113) h114) (event_kept (bumpSat_kept (k13) h115) h116)) (set_kept (set_kept (set_kept (set_kept (note_kept (hk0) h101 h102 h103 h104 h105 h106 h107 h108) h109) h110) h111) h112)

theorem ambiguous_kept {σ : Scope} {ρ : State} {s : State} {l : ℕ} {st : StepPend} {ds : List PdPend} (hk0 : Kept σ ρ s) (h101 : σ.part .book = true) (h102 : σ.part .mscl = true) (h103 : σ.fld pBOOK F.BOOK.DISCARD.COUNT) (h104 : σ.fld pBOOK F.BOOK.SHADOW.DROP) (h105 : σ.fld pBOOK (Fld.mk 12 12 1)) (h106 : σ.fld (pEDGE
  ((Rec.mk s.now 113 (bit (3 == 0) + 2 * bit (l != 4) + 4 * 3) (none.getD 65535)
        (data2 (ofSigned st.delta 32) (ofSigned ((Option.map (fun x => x.delta) ds.head?).getD 0) 32))).source /
    64)) F.EDGE.DROPS.COUNT) (h107 : σ.fld (pEDGE
  ((Rec.mk s.now 113 (bit (3 == 0) + 2 * bit (l != 4) + 4 * 3) (none.getD 65535)
        (data2 (ofSigned st.delta 32) (ofSigned ((Option.map (fun x => x.delta) ds.head?).getD 0) 32))).source /
    64)) (Fld.mk 12 11 1)) (h108 : σ.fld pBOOK F.BOOK.DISCARD_SYS.COUNT) (h109 : σ.fld pBOOK (Fld.mk 12 8 1)) (h110 : σ.fld pMSCL F.MSCL.LAST.PORT) (h111 : σ.fld pMSCL F.MSCL.LAST.FLAGS) (h112 : σ.fld pMSCL F.MSCL.LAST_DELTA.DELTA) (h113 : σ.fld pMSCL F.MSCL.LAST_MEAN.MEAN) (h114 : σ.fld pMSCL F.MSCL.ATTR.APPLIED) (h115 : σ.fld pMSCL (Fld.mk 12 8 1)) (h116 : σ.fld pMSCL F.MSCL.ATTR.FLAGGED) (h117 : σ.fld pMSCL (Fld.mk 12 9 1)) (h118 : σ.fld pMSCL F.MSCL.CREF.CREF) :
    Kept σ ρ (State.ambiguous s l st ds) := by
  unfold State.ambiguous
  exact settleLoops_kept (shiftRec_kept (hk0) h101 h103 h104 h105 h106 h107 h108 h109 h110 h111 h112 h113 h114 h115 h116 h117) h102 h118

theorem correct_kept {σ : Scope} {ρ : State} {s : State} {p : ℕ} {fwdIn : Bool} {delta : ℤ} (hk0 : Kept σ ρ s) (h101 : σ.part .ports = true) (h102 : σ.fld pSTAMP (F.STAMP.ASYM_LRN.ASYM_LRN.at (32 * p))) :
    Kept σ ρ (State.correct s p fwdIn delta) := by
  unfold State.correct
  exact set_kept (corrKeep_kept (hk0) h101) h102

theorem attribute_kept {σ : Scope} {ρ : State} {s : State} {l : ℕ} {st : StepPend} {pd : PdPend} {clear : Bool} (hk0 : Kept σ ρ s) (h101 : σ.part .book = true) (h102 : σ.part .ports = true) (h103 : σ.part .mscl = true) (h104 : σ.page pBOOK) (h105 : σ.page (pEDGE
  ((Rec.mk s.now 113 (bit (3 == 0) + 2 * bit (l != 4) + 4 * 3) (none.getD 65535)
        (data2 (ofSigned st.delta 32) (ofSigned pd.delta 32))).source /
    64))) (h106 : σ.page pMSCL) (h107 : σ.page (pEDGE
  ((Rec.mk s.now 113 (bit (4 == 0) + 2 * bit (l != 4) + 4 * 4) ((some pd.port).getD 65535)
        (data2 (ofSigned st.delta 32) (ofSigned pd.delta 32))).source /
    64))) (h108 : σ.page pSTAMP) (h109 : σ.page (pEDGE
  ((Rec.mk (s.correct pd.port (s.fwdIn l pd.port) st.delta).now 113 (bit (0 == 0) + 2 * bit (l != 4) + 4 * 0)
        ((some pd.port).getD 65535) (data2 (ofSigned st.delta 32) (ofSigned pd.delta 32))).source /
    64))) (h110 : σ.page (pEDGE
  ((Rec.mk s.now 113 (bit (1 == 0) + 2 * bit (l != 4) + 4 * 1) ((some pd.port).getD 65535)
        (data2 (ofSigned st.delta 32) (ofSigned pd.delta 32))).source /
    64))) :
    Kept σ ρ (State.attribute s l st pd clear) := by
  unfold State.attribute
  exact settleLoops_kept (Kept.ite (shiftRec_kept (hk0) h101 h104.fld h104.fld h104.fld h105.fld h105.fld h104.fld h104.fld h106.fld h106.fld h106.fld h106.fld h106.fld h106.fld h106.fld h106.fld) (Kept.ite (shiftRec_kept (hk0) h101 h104.fld h104.fld h104.fld h107.fld h107.fld h104.fld h104.fld h106.fld h106.fld h106.fld h106.fld h106.fld h106.fld h106.fld h106.fld) (Kept.ite (shiftRec_kept (correct_kept (hk0) h102 h108.fld) h101 h104.fld h104.fld h104.fld h109.fld h109.fld h104.fld h104.fld h106.fld h106.fld h106.fld h106.fld h106.fld h106.fld h106.fld h106.fld) (shiftRec_kept (hk0) h101 h104.fld h104.fld h104.fld h110.fld h110.fld h104.fld h104.fld h106.fld h106.fld h106.fld h106.fld h106.fld h106.fld h106.fld h106.fld)))) h103 h106.fld

theorem transitCheck_kept {σ : Scope} {ρ : State} {s : State} (hk0 : Kept σ ρ s) (h101 : σ.fld pCYCLE (Fld.mk 12 12 1)) :
    Kept σ ρ (State.transitCheck s) := by
  unfold State.transitCheck
  exact Kept.ite (event_kept (hk0) h101) (hk0)

theorem missed_kept {σ : Scope} {ρ : State} {s : State} {l : ℕ} (hk0 : Kept σ ρ s) (h101 : σ.part .mscl = true) (h102 : σ.fld pMSCL F.MSCL.STS.CLOSED) (h103 : σ.fld pMSCL (Fld.mk F.MSCL.TRISTS.VALID.off l 1)) (h104 : σ.fld pMSCL F.MSCL.STS.OPEN_CAUSE) (h105 : σ.fld pMSCL (Fld.mk 12 10 1)) (h106 : σ.fld pMSCL F.MSCL.STS.STEP_PEND) (h107 : σ.fld pMSCL F.MSCL.STS.PD_PEND) (h108 : σ.fld pMSCL F.MSCL.STS.GCLOSED) :
    Kept σ ρ (State.missed s l) := by
  unfold State.missed
  exact Kept.cut (fun k1 => Kept.ite (openLoop_kept (k1) h101 h102 h103 h104 h105 h106 h107 h108) (k1)) (setLoop_kept (hk0) h101)

theorem resolve_kept {σ : Scope} {ρ : State} {s : State} {l : ℕ} (hk0 : Kept σ ρ s) (h101 : σ.part .mscl = true) (h102 : σ.part .book = true) (h103 : σ.part .ports = true) (h104 : σ.page pBOOK) (h105 : ∀ n, σ.page (pEDGE n)) (h106 : σ.page pMSCL) (h107 : σ.page pSTAMP) :
    Kept σ ρ (State.resolve s l) := by
  unfold State.resolve
  exact (by (try dsimp only); split; exacts [(by split; exacts [Kept.ite (msclSts_kept (settleLoops_kept (hk0) h101 h106.fld) h106.fld h106.fld h106.fld) (hk0), Kept.ite (msclSts_kept (attribute_kept (hk0) h102 h103 h101 h104 (h105 _) h106 (h105 _) h107 (h105 _) (h105 _)) h106.fld h106.fld h106.fld) (Kept.ite (hk0) (msclSts_kept (attribute_kept (hk0) h102 h103 h101 h104 (h105 _) h106 (h105 _) h107 (h105 _) (h105 _)) h106.fld h106.fld h106.fld)), Kept.ite (msclSts_kept (ambiguous_kept (hk0) h102 h101 h104.fld h104.fld h104.fld (h105 _).fld (h105 _).fld h104.fld h104.fld h106.fld h106.fld h106.fld h106.fld h106.fld h106.fld h106.fld h106.fld h106.fld) h106.fld h106.fld h106.fld) (hk0)]), hk0])

theorem meanOf_kept {σ : Scope} {ρ : State} {s : State} {l : List ℤ} (hk0 : Kept σ ρ s) :
    Kept σ ρ (State.meanOf s l).1 := by
  unfold State.meanOf
  exact Kept.iteFst (hk0) (nextFree_kept (hk0))

theorem learned_kept {σ : Scope} {ρ : State} {s : State} {l : ℕ} {c : ℤ} (hk0 : Kept σ ρ s) (h101 : σ.part .book = true) (h102 : σ.part .mscl = true) (h103 : σ.page pBOOK) (h104 : σ.page (pEDGE
  ((Rec.mk s.now 113 (bit (5 == 0) + 2 * bit (l != 4) + 4 * 5) (none.getD 65535)
        (data2 (ofSigned (c - (s.loop l).cref) 32) (ofSigned 0 32))).source /
    64))) (h105 : σ.page pMSCL) :
    Kept σ ρ (State.learned s l c) := by
  unfold State.learned
  exact Kept.cut (fun k13 => event_kept (Kept.ite (set_kept (k13) h105.fld) (k13)) h105.fld) (setLoop_kept (setClosed_kept (refPorts_kept (setCref_kept (Kept.ite (shiftRec_kept (hk0) h101 h103.fld h103.fld h103.fld h104.fld h104.fld h103.fld h103.fld h105.fld h105.fld h105.fld h105.fld h105.fld h105.fld h105.fld h105.fld) (hk0)) h102 h105.fld) h102) h105.fld h105.fld) h102)

theorem judge_kept {σ : Scope} {ρ : State} {s : State} {l : ℕ} {c : ℤ} {decl : ℕ} (hk0 : Kept σ ρ s) (h101 : σ.part .mscl = true) :
    Kept σ ρ (State.judge s l c decl) := by
  unfold State.judge
  exact Kept.ite (hk0) (Kept.ite (setLoop_kept (hk0) h101) (Kept.ite (setLoop_kept (hk0) h101) (setLoop_kept (meanOf_kept (hk0)) h101)))

theorem sample_kept {σ : Scope} {ρ : State} {s : State} {l : ℕ} {dE : ℕ} {dW : ℕ} {asym : ℤ} {hops : ℕ} {decl : ℕ} (hk0 : Kept σ ρ s) (h101 : σ.part .mscl = true) (h102 : σ.part .book = true) (h103 : σ.page pBOOK) (h104 : ∀ n, σ.page (pEDGE n)) (h105 : σ.page pMSCL) (h106 : σ.fld pCYCLE (Fld.mk 12 12 1)) :
    Kept σ ρ (State.sample s l dE dW asym hops decl) := by
  unfold State.sample
  exact Kept.cut (fun k1 => Kept.cut (fun k3 => Kept.ite (Kept.ite (set_kept (k3) h105.fld) (k3)) (Kept.cut (fun k5 => transitCheck_kept (Kept.ite (learned_kept (k5) h102 h101 h103 (h104 _) h105) (judge_kept (k5) h101)) h106) (Kept.ite (set_kept (set_kept (meanOf_kept (k3)) h105.fld) h105.fld) (set_kept (meanOf_kept (k3)) h105.fld)))) (Kept.ite (bump_kept (set_kept (set_kept (set_kept (k1) h105.fld) h105.fld) h105.fld) h105.fld) (bump_kept (k1) h105.fld))) (setLoop_kept (hk0) h101)

theorem closeRound_kept {σ : Scope} {ρ : State} {s : State} {l : ℕ} {a : Probe} {b : Probe} (hk0 : Kept σ ρ s) (h101 : σ.part .mscl = true) (h102 : σ.part .book = true) (h103 : σ.part .ports = true) (h104 : σ.page pBOOK) (h105 : ∀ n, σ.page (pEDGE n)) (h106 : σ.page pMSCL) (h107 : σ.fld pCYCLE (Fld.mk 12 12 1)) (h108 : σ.page pSTAMP) :
    Kept σ ρ (State.closeRound s l a b) := by
  unfold State.closeRound
  exact (by split; exacts [Kept.ite (hk0) (Kept.ite (openLoop_kept (missed_kept (bumpSat_kept (hk0) h106.fld) h101 h106.fld h106.fld h106.fld h106.fld h106.fld h106.fld h106.fld) h101 h106.fld h106.fld h106.fld h106.fld h106.fld h106.fld h106.fld) (Kept.ite (missed_kept (bumpSat_kept (hk0) h106.fld) h101 h106.fld h106.fld h106.fld h106.fld h106.fld h106.fld h106.fld) (msclSts_kept (resolve_kept (sample_kept (hk0) h101 h102 h104 h105 h106 h107) h101 h102 h103 h104 h105 h106 h108) h106.fld h106.fld h106.fld))), hk0])

theorem coincClose_kept {σ : Scope} {ρ : State} {s : State} (hk0 : Kept σ ρ s) (h101 : σ.part .book = true) (h102 : σ.part .mscl = true) (h103 : σ.page pBOOK) (h104 : ∀ n, σ.page (pEDGE n)) (h105 : σ.page pMSCL) :
    Kept σ ρ (State.coincClose s) := by
  unfold State.coincClose
  exact Kept.ite (hk0) (msclSts_kept (Kept.foldl (fun x77 a78 k79 => Kept.ite (ambiguous_kept (k79) h101 h102 h103.fld h103.fld h103.fld (h104 _).fld (h104 _).fld h103.fld h103.fld h105.fld h105.fld h105.fld h105.fld h105.fld h105.fld h105.fld h105.fld h105.fld) (k79)) _ _ (Kept.foldl (fun x74 a75 k76 => Kept.ite (refLoops_kept (k76) h102) (k76)) _ _ (Kept.foldl (fun x71 a72 k73 => Kept.ite (settleLoops_kept (shiftRec_kept (k73) h101 h103.fld h103.fld h103.fld (h104 _).fld (h104 _).fld h103.fld h103.fld h105.fld h105.fld h105.fld h105.fld h105.fld h105.fld h105.fld h105.fld) h102 h105.fld) (k73)) _ _ (advance_kept (hk0))))) h105.fld h105.fld h105.fld)

theorem probeReturn_kept {σ : Scope} {ρ : State} {s : State} {l : ℕ} {n : ℕ} {rxRaw : ℕ} {f : Frame} (hk0 : Kept σ ρ s) (h101 : σ.part .mscl = true) (h102 : σ.part .book = true) (h103 : σ.part .ports = true) (h104 : σ.page pBOOK) (h105 : ∀ n, σ.page (pEDGE n)) (h106 : σ.page pMSCL) (h107 : σ.page pSTAMP) (h108 : σ.fld pCYCLE (Fld.mk 12 12 1)) :
    Kept σ ρ (State.probeReturn s l n rxRaw f) := by
  unfold State.probeReturn
  exact Kept.ite (hk0) (Kept.cut (fun k1 => (by (try dsimp only); split; exacts [closeRound_kept (Kept.ite (k1) (resolve_kept (setLoop_kept (k1) h101) h101 h102 h103 h104 h105 h106 h107)) h101 h102 h103 h104 h105 h106 h108 h107, Kept.ite (k1) (resolve_kept (setLoop_kept (k1) h101) h101 h102 h103 h104 h105 h106 h107)])) (Kept.mscl (hk0) h101))

theorem probeRx_kept {σ : Scope} {ρ : State} {s0 : State} {n : ℕ} {rxRaw : ℕ} {tri : ℕ} {rd : TxRead} {f : Frame} (hk0 : Kept σ ρ s0) (h101 : σ.part .ports = true) (h102 : σ.part .mscl = true) (h103 : σ.part .sw = true) (h104 : σ.part .mem = true) (h105 : σ.part .gang = true) (h106 : σ.part .stamps = true) (h107 : σ.part .book = true) (h108 : σ.part .plat = true) (h109 : σ.part .tally = true) (h110 : σ.fld pDATUM F.DATUM.FOLDOVR.COUNT) (h111 : σ.fld pDATUM (Fld.mk 12 14 1)) (h112 : σ.page pBOOK) (h113 : ∀ n, σ.page (pEDGE n)) (h114 : σ.page pMSCL) (h115 : σ.page pSTAMP) (h116 : σ.fld pCYCLE (Fld.mk 12 12 1)) (h117 : σ.page pCAPTURE) (h118 : ∀ n, σ.page (pPORT n)) (h119 : σ.page pSWITCH) (h120 : σ.page pBUFMEM) (h121 : σ.page pMACSEC) :
    Kept σ ρ (State.probeRx s0 n rxRaw tri rd f) := by
  unfold State.probeRx
  exact Kept.ite (hk0) (Kept.cut (fun k1 => Kept.ite (probeReturn_kept (k1) h102 h107 h101 h112 h113 h114 h115 h116) (Kept.ite (k1) (Kept.ite (k1) (forwardAll_kept (k1) h103 h101 h102 h104 h105 h106 h108 h109 h115 h117 h118 h119 h120 h121)))) (foldMark_kept (stampsDue_kept (hk0) h101 h102 h103 h104 h105 h106 h115.fld h115.fld h117.fld h117.fld h117.fld h117.fld h115.fld h115.fld h115.fld) h110 h111))

theorem probeTimeout_kept {σ : Scope} {ρ : State} {s : State} (hk0 : Kept σ ρ s) (h101 : σ.part .mscl = true) (h102 : σ.page pMSCL) :
    Kept σ ρ (State.probeTimeout s) := by
  unfold State.probeTimeout
  exact Kept.ite (hk0) (Kept.cut (fun k8 => Kept.ite (k8) (msclSts_kept (Kept.foldl (fun x9 a10 k11 => missed_kept (k11) h101 h102.fld h102.fld h102.fld h102.fld h102.fld h102.fld h102.fld) _ _ (event_kept (bumpSat_kept (k8) h102.fld) h102.fld)) h102.fld h102.fld h102.fld)) (Kept.mscl (advance_kept (hk0)) h101))

theorem sendProbe_kept {σ : Scope} {ρ : State} {s : State} {l : ℕ} {rev : Bool} (hk0 : Kept σ ρ s) (h101 : σ.part .mscl = true) (h102 : σ.part .sw = true) (h103 : σ.part .mem = true) (h104 : σ.fld pSWITCH F.SWITCH.BUF_DROP.COUNT) (h105 : σ.fld pSWITCH (Fld.mk 12 9 1)) (h106 : ∀ n, σ.page (pPORT n)) (h107 : σ.fld pCAPTURE F.CAPTURE.LOST.COUNT) (h108 : σ.fld pCAPTURE (Fld.mk 12 9 1)) (h109 : σ.fld pCAPTURE F.CAPTURE.WR_SEQ.SEQ) (h110 : σ.fld pCAPTURE (Fld.mk 12 8 1)) (h111 : σ.fld pBUFMEM (Fld.mk 12 13 1)) :
    Kept σ ρ (State.sendProbe s l rev) := by
  unfold State.sendProbe
  exact sendCopies_kept (nextFree_kept (Kept.mscl (hk0) h101)) h102 h103 h104 h105 h106 h107 h108 h109 h110 h111

theorem roundStart_kept {σ : Scope} {ρ : State} {s : State} (hk0 : Kept σ ρ s) (h101 : σ.part .mscl = true) (h102 : σ.part .sw = true) (h103 : σ.part .mem = true) (h104 : σ.fld pMSCL F.HDR.PSTS.HELD) (h105 : σ.fld pSWITCH F.SWITCH.BUF_DROP.COUNT) (h106 : σ.fld pSWITCH (Fld.mk 12 9 1)) (h107 : ∀ n, σ.page (pPORT n)) (h108 : σ.fld pCAPTURE F.CAPTURE.LOST.COUNT) (h109 : σ.fld pCAPTURE (Fld.mk 12 9 1)) (h110 : σ.fld pCAPTURE F.CAPTURE.WR_SEQ.SEQ) (h111 : σ.fld pCAPTURE (Fld.mk 12 8 1)) (h112 : σ.fld pBUFMEM (Fld.mk 12 13 1)) :
    Kept σ ρ (State.roundStart s) := by
  unfold State.roundStart
  exact Kept.ite (hk0) (Kept.cut (fun k1 => Kept.ite (set_kept (k1) h104) (Kept.foldl (fun x7 a8 k9 => sendProbe_kept (sendProbe_kept (k9) h101 h102 h103 h105 h106 h107 h108 h109 h110 h111 h112) h101 h102 h103 h105 h106 h107 h108 h109 h110 h111 h112) _ _ (Kept.mscl (k1) h101))) (advanceT_kept (hk0)))

theorem execCoincWindowClose_kept {σ : Scope} {s : State} (h101 : σ.part .book = true) (h102 : σ.part .mscl = true) (h103 : σ.page pBOOK) (h104 : ∀ n, σ.page (pEDGE n)) (h105 : σ.page pMSCL) :
    KeptNext σ s (execCoincWindowClose s) := by
  unfold execCoincWindowClose
  exact KeptNext.next (coincClose_kept (Kept.refl σ s) h101 h102 h103 h104 h105)

theorem execLinkDown_kept {σ : Scope} {clk : ℕ} {port : ℕ} {s : State} (h101 : σ.part .ports = true) (h102 : σ.part .mscl = true) (h103 : σ.part .sw = true) (h104 : σ.part .mem = true) (h105 : σ.part .gang = true) (h106 : σ.part .stamps = true) (h107 : σ.part .plat = true) (h108 : σ.part .book = true) (h109 : σ.page pSTAMP) (h110 : σ.page pCAPTURE) (h111 : σ.page pGANGCTL) (h112 : ∀ n, σ.page (pPORT n)) (h113 : σ.page pBUFMEM) (h114 : σ.page pMSCL) (h115 : σ.page pBOOK) :
    KeptNext σ s (execLinkDown clk port s) := by
  unfold execLinkDown
  exact KeptNext.next (Kept.ite (syncDrains_kept (msclLink_kept (linkDownNow_kept (advance_kept (Kept.refl σ s)) h101 h102 h103 h104 h105 h106 h107 h109.fld h109.fld h110.fld h110.fld h110.fld h110.fld h109.fld h109.fld h109.fld h111.fld h109.fld h109.fld h112 h113.fld) h102 h114) h108 h115.fld h115.fld h115.fld h115.fld h115.fld h115.fld) (advance_kept (Kept.refl σ s)))

theorem execLinkUp_kept {σ : Scope} {clk : ℕ} {port : ℕ} {speed : ℕ} {s : State} (h101 : σ.part .sw = true) (h102 : σ.part .mem = true) (h103 : σ.part .ports = true) (h104 : σ.part .mscl = true) (h105 : σ.part .gang = true) (h106 : σ.part .stamps = true) (h107 : σ.part .book = true) (h108 : ∀ n, σ.page (pPORT n)) (h109 : σ.page pCAPTURE) (h110 : σ.page pBUFMEM) (h111 : σ.page pSTAMP) (h112 : σ.page pMSCL) (h113 : σ.page pBOOK) :
    KeptNext σ s (execLinkUp clk port speed s) := by
  unfold execLinkUp
  exact KeptNext.next (Kept.ite (syncDrains_kept (msclLink_kept (linkUpNow_kept (advance_kept (Kept.refl σ s)) h101 h102 h103 h104 h105 h106 h108 h109.fld h109.fld h109.fld h109.fld h110.fld h111.fld h111.fld h111.fld h111.fld h111.fld h111.fld h111.fld) h104 h112) h107 h113.fld h113.fld h113.fld h113.fld h113.fld h113.fld) (advance_kept (Kept.refl σ s)))

theorem execMsclProbeTimeout_kept {σ : Scope} {s : State} (h101 : σ.part .mscl = true) (h102 : σ.page pMSCL) :
    KeptNext σ s (execMsclProbeTimeout s) := by
  unfold execMsclProbeTimeout
  exact KeptNext.next (probeTimeout_kept (Kept.refl σ s) h101 h102)

theorem execMsclRoundStart_kept {σ : Scope} {s : State} (h101 : σ.part .mscl = true) (h102 : σ.part .sw = true) (h103 : σ.part .mem = true) (h104 : σ.fld pMSCL F.HDR.PSTS.HELD) (h105 : σ.fld pSWITCH F.SWITCH.BUF_DROP.COUNT) (h106 : σ.fld pSWITCH (Fld.mk 12 9 1)) (h107 : ∀ n, σ.page (pPORT n)) (h108 : σ.fld pCAPTURE F.CAPTURE.LOST.COUNT) (h109 : σ.fld pCAPTURE (Fld.mk 12 9 1)) (h110 : σ.fld pCAPTURE F.CAPTURE.WR_SEQ.SEQ) (h111 : σ.fld pCAPTURE (Fld.mk 12 8 1)) (h112 : σ.fld pBUFMEM (Fld.mk 12 13 1)) :
    KeptNext σ s (execMsclRoundStart s) := by
  unfold execMsclRoundStart
  exact KeptNext.next (roundStart_kept (Kept.refl σ s) h101 h102 h103 h104 h105 h106 h107 h108 h109 h110 h111 h112)

theorem execPdelayWrite_kept {σ : Scope} {clk : ℕ} {port : ℕ} {value : Word} {s : State} (h101 : σ.part .mscl = true) (h102 : σ.part .page = true) (h103 : σ.fld pSTAMP (F.STAMP.PDELAY.PDELAY.at (32 * port))) (h104 : σ.fld pMSCL F.MSCL.STS.STEP_PEND) (h105 : σ.fld pMSCL F.MSCL.STS.PD_PEND) (h106 : σ.fld pMSCL F.MSCL.STS.GCLOSED) (h107 : σ.fld pSYS (Fld.mk 12 11 1)) (h108 : σ.fld pSTAMP F.HDR.PSTS.CODE) (h109 : σ.fld pSTAMP F.HDR.PSTS.INDEX) (h110 : σ.fld pSTAMP F.HDR.PSTS.REFUSED) (h111 : σ.fld pSTAMP (Fld.mk 12 0 1)) :
    KeptNext σ s (execPdelayWrite clk port value s) := by
  unfold execPdelayWrite
  exact KeptNext.next (Kept.ite (regWrite_kept (advance_kept (Kept.refl σ s)) (fun x0 k1 => pdelayWrite_kept (k1) h101 h103 h104 h105 h106) h102 h107 h108 h109 h110 h111) (advance_kept (Kept.refl σ s)))

theorem execProbeRx_kept {σ : Scope} {clk : ℕ} {port : ℕ} {hdrClk : ℕ} {tri : ℕ} {pr : ProbeIn} {s : State} (h101 : σ.part .ports = true) (h102 : σ.part .mscl = true) (h103 : σ.part .sw = true) (h104 : σ.part .mem = true) (h105 : σ.part .gang = true) (h106 : σ.part .stamps = true) (h107 : σ.part .book = true) (h108 : σ.part .plat = true) (h109 : σ.part .tally = true) (h110 : σ.fld pDATUM F.DATUM.FOLDOVR.COUNT) (h111 : σ.fld pDATUM (Fld.mk 12 14 1)) (h112 : σ.page pBOOK) (h113 : ∀ n, σ.page (pEDGE n)) (h114 : σ.page pMSCL) (h115 : σ.page pSTAMP) (h116 : σ.fld pCYCLE (Fld.mk 12 12 1)) (h117 : σ.page pCAPTURE) (h118 : ∀ n, σ.page (pPORT n)) (h119 : σ.page pSWITCH) (h120 : σ.page pBUFMEM) (h121 : σ.page pMACSEC) :
    KeptNext σ s (execProbeRx clk port hdrClk tri pr s) := by
  unfold execProbeRx
  exact KeptNext.next (probeRx_kept (advance_kept (Kept.refl σ s)) h101 h102 h103 h104 h105 h106 h107 h108 h109 h110 h111 h112 h113 h114 h115 h116 h117 h118 h119 h120 h121)

theorem hmonZero_kept {σ : Scope} {ρ : State} {s : State} {p : ℕ} (hk0 : Kept σ ρ s) (h101 : σ.page p) :
    Kept σ ρ (State.hmonZero s p) := by
  unfold State.hmonZero
  exact Kept.foldl (fun x0 a1 k2 => wr_kept (k2) (h101 _)) _ _ (hk0)

theorem hmonMove_kept {σ : Scope} {ρ : State} {s : State} {clear : Bool} {p : ℕ} (hk0 : Kept σ ρ s) (h101 : σ.page p) :
    Kept σ ρ (State.hmonMove s clear p) := by
  unfold State.hmonMove
  exact Kept.cut (fun k11 => Kept.ite (hmonZero_kept (k11) h101) (k11)) (event_kept (set_kept (Kept.foldl (fun x7 a8 k9 => wr_kept (k9) (h101 _)) _ _ (hk0)) h101.fld) h101.fld)

theorem hmonPut_kept {σ : Scope} {ρ : State} {s : State} {p : ℕ} {l : List Word} (hk0 : Kept σ ρ s) (h101 : σ.page p) :
    Kept σ ρ (State.hmonPut s p l) := by
  unfold State.hmonPut
  exact Kept.foldl (fun x0 a1 k2 => wr_kept (k2) (h101 _)) _ _ (hk0)

theorem hmonCount_kept {σ : Scope} {ρ : State} {s : State} {p : ℕ} {f : Fld} (hk0 : Kept σ ρ s) (h101 : σ.fld p f) (h102 : σ.fld p (Fld.mk 12 9 1)) :
    Kept σ ρ (State.hmonCount s p f) := by
  unfold State.hmonCount
  exact Kept.cut (fun k1 => Kept.ite (event_kept (k1) h102) (k1)) (bumpSat_kept (hk0) h101)

theorem hmonTake_kept {σ : Scope} {ρ : State} {s : State} {m : ℕ} {v : ℤ} (hk0 : Kept σ ρ s) (h101 : σ.page (pHMON m)) :
    Kept σ ρ (State.hmonTake s m v) := by
  unfold State.hmonTake
  exact Kept.cut (fun k29 => (by (try dsimp only); split; exacts [hmonCount_kept (k29) h101.fld h101.fld, hmonCount_kept (k29) h101.fld h101.fld, hmonCount_kept (k29) h101.fld h101.fld])) (set_kept (set_kept (set_kept (bump_kept (hk0) h101.fld) h101.fld) h101.fld) h101.fld)

theorem hmonNote_kept {σ : Scope} {ρ : State} {s : State} {m : ℕ} {v : ℤ} (hk0 : Kept σ ρ s) :
    Kept σ ρ (State.hmonNote s m v) := by
  unfold State.hmonNote
  exact Kept.sets (hk0)

theorem hmonCopy_kept {σ : Scope} {ρ : State} {s : State} {clear : Bool} {m : ℕ} (hk0 : Kept σ ρ s) (h101 : σ.page (pHMON m)) :
    Kept σ ρ (State.hmonCopy s clear m) := by
  unfold State.hmonCopy
  exact (by (try dsimp only); split; exacts [hmonMove_kept (hk0) h101, Kept.foldl (fun x15 a16 k17 => hmonTake_kept (hmonNote_kept (k17)) h101) _ _ (Kept.sets (hmonMove_kept (hmonPut_kept (hk0) h101) h101))])

theorem hmonSnap_kept {σ : Scope} {ρ : State} {s : State} {m : ℕ} {clear : Bool} {all : Bool} (hk0 : Kept σ ρ s) (h101 : ∀ n, σ.page (pHMON n)) :
    Kept σ ρ (State.hmonSnap s m clear all) := by
  unfold State.hmonSnap
  exact Kept.foldl (fun x5 a6 k7 => hmonCopy_kept (k7) (h101 _)) _ _ (setB_kept (setB_kept (hk0) (h101 _).fld) (h101 _).fld)

theorem hmonSample_kept {σ : Scope} {ρ : State} {s : State} {m : ℕ} {v : ℤ} (hk0 : Kept σ ρ s) (h101 : σ.page (pHMON m)) :
    Kept σ ρ (State.hmonSample s m v) := by
  unfold State.hmonSample
  exact Kept.ite (hk0) (hmonTake_kept (hmonNote_kept (hk0)) h101)

theorem execHmonSample_kept {σ : Scope} {clk : ℕ} {mon : ℕ} {value : ℤ} {s : State} (h101 : σ.page (pHMON mon)) :
    KeptNext σ s (execHmonSample clk mon value s) := by
  unfold execHmonSample
  exact KeptNext.next (Kept.ite (hmonSample_kept (advance_kept (Kept.refl σ s)) h101) (advance_kept (Kept.refl σ s)))

theorem execHmonSnap_kept {σ : Scope} {clk : ℕ} {mon : ℕ} {clear : Bool} {all : Bool} {s : State} (h101 : σ.part .page = true) (h102 : ∀ n, σ.page (pHMON n)) (h103 : σ.fld pSYS (Fld.mk 12 11 1)) :
    KeptNext σ s (execHmonSnap clk mon clear all s) := by
  unfold execHmonSnap
  exact KeptNext.next (Kept.ite (regWrite_kept (advance_kept (Kept.refl σ s)) (fun x0 k1 => hmonSnap_kept (k1) h102) h101 h103 (h102 _).fld (h102 _).fld (h102 _).fld (h102 _).fld) (advance_kept (Kept.refl σ s)))

end Sys2Proof.Laws
end

