-- ==== Sys2Proof/Laws/Kept11.lean ====
section
/-!
SUPPORT. What the operations and commands of these files keep: Machine/PageOn, Machine/Power, Machine/PageOps, Machine/Reads, Machine/Actions.
-/

namespace Sys2Proof.Laws

open Sys2Proof Sys2Proof.Machine

theorem gclMatchAll_kept {σ : Scope} {ρ : State} {s : State} (hk0 : Kept σ ρ s) (h101 : ∀ n, σ.page (pPORT n)) :
    Kept σ ρ (State.gclMatchAll s) := by
  unfold State.gclMatchAll
  exact Kept.foldl (fun x0 a1 k2 => gclMatch_kept (k2) (h101 _).fld (h101 _).fld) _ _ (hk0)

theorem cycleOn_kept {σ : Scope} {ρ : State} {s : State} (hk0 : Kept σ ρ s) (h101 : σ.part .cycle = true) (h102 : σ.fld pCYCLE F.CYCLE.SCHED_DIG.DIGEST) (h103 : σ.fld pCYCLE F.CYCLE.WIRE.WIRE) (h104 : σ.fld pCYCLE F.CYCLE.STS.PUBLISH) (h105 : ∀ n, σ.page (pPORT n)) :
    Kept σ ρ (State.cycleOn s) := by
  unfold State.cycleOn
  exact gclMatchAll_kept (Kept.cycle (set_kept (set_kept (set_kept (hk0) h102) h103) h104) h101) h105

theorem platOn_kept {σ : Scope} {ρ : State} {s : State} (hk0 : Kept σ ρ s) (h101 : σ.part .cycle = true) (h102 : σ.part .plat = true) :
    Kept σ ρ (State.platOn s) := by
  unfold State.platOn
  exact Kept.u_cycle_plat (hk0) h101 h102

theorem pinmuxOn_kept {σ : Scope} {ρ : State} {s : State} {q : ℕ} (hk0 : Kept σ ρ s) (h101 : σ.part .pins = true) (h102 : σ.part .edges = true) (h103 : σ.part .book = true) (h104 : σ.fld pBOOK F.BOOK.DISCARD.COUNT) (h105 : σ.fld pBOOK F.BOOK.SHADOW.DROP) (h106 : σ.fld pBOOK (Fld.mk 12 12 1)) (h107 : ∀ n, σ.page (pEDGE n)) (h108 : σ.fld pBOOK F.BOOK.DISCARD_SYS.COUNT) (h109 : σ.fld pBOOK (Fld.mk 12 8 1)) :
    Kept σ ρ (State.pinmuxOn s q) := by
  unfold State.pinmuxOn
  exact ballsNow_kept (Kept.foldl (fun x0 a1 k2 => Kept.ite (setPin_kept (k2) h101) (k2)) _ _ (hk0)) h101 h102 h103 h104 h105 h106 h107 h108 h109

theorem portOn_kept {σ : Scope} {ρ : State} {s : State} {n : ℕ} (hk0 : Kept σ ρ s) (h101 : σ.part .ports = true) (h102 : σ.part .sw = true) (h103 : σ.part .mem = true) (h104 : σ.part .mscl = true) (h105 : σ.part .gang = true) (h106 : σ.part .stamps = true) (h107 : ∀ n, σ.page (pPORT n)) (h108 : σ.fld pCAPTURE F.CAPTURE.LOST.COUNT) (h109 : σ.fld pCAPTURE (Fld.mk 12 9 1)) (h110 : σ.fld pCAPTURE F.CAPTURE.WR_SEQ.SEQ) (h111 : σ.fld pCAPTURE (Fld.mk 12 8 1)) (h112 : σ.fld pBUFMEM (Fld.mk 12 13 1)) (h113 : σ.fld pSTAMP F.STAMP.ONESTEP_ERR.COUNT) (h114 : σ.fld pSTAMP (Fld.mk 12 8 1)) (h115 : σ.fld pSTAMP F.STAMP.TXQOVF.COUNT) (h116 : σ.fld pSTAMP (Fld.mk 12 9 1)) (h117 : σ.fld pSTAMP (Fld.mk 12 10 1)) (h118 : σ.fld pSTAMP (F.STAMP.LAT.ING_LAT.at (32 * n))) (h119 : σ.fld pSTAMP (F.STAMP.LAT.EGR_LAT.at (32 * n))) (h120 : σ.page pMSCL) :
    Kept σ ρ (State.portOn s n) := by
  unfold State.portOn
  exact Kept.cut (fun k7 => Kept.cut (fun k9 => Kept.ite (msclLink_kept (linkUpNow_kept (nextFree_kept (k9)) h102 h103 h101 h104 h105 h106 h107 h108 h109 h110 h111 h112 h113 h114 h115 h116 h117 h118 h119) h104 h120) (k9)) (Kept.ite (setPort_kept (k7) h101) (k7))) (gclMatch_kept (set_kept (setPort_kept (hk0) h101) (h107 _).fld) (h107 _).fld (h107 _).fld)

theorem bufOn_kept {σ : Scope} {ρ : State} {s : State} (hk0 : Kept σ ρ s) (h101 : σ.part .sw = true) (h102 : σ.fld pBUFMEM F.BUFMEM.STS.FAILED) :
    Kept σ ρ (State.bufOn s) := by
  unfold State.bufOn
  exact set_kept (Kept.sw (hk0) h101) h102

theorem blockOn_kept {σ : Scope} {ρ : State} {s : State} {p : ℕ} (hk0 : Kept σ ρ s) (h101 : σ.Full) :
    Kept σ ρ (State.blockOn s p) := by
  unfold State.blockOn
  exact (by split; exacts [datumOn_kept (hk0) (h101.1 _) (fun _ => h101.2 _), msclOn_kept (hk0) (h101.1 _) (fun _ _ => h101.2 _) (fun _ _ => h101.2 _) (fun _ _ => h101.2 _) (fun _ _ => h101.2 _) (fun _ _ => h101.2 _) (fun _ _ => h101.2 _), cycleOn_kept (hk0) (h101.1 _) (fun _ _ => h101.2 _) (fun _ _ => h101.2 _) (fun _ _ => h101.2 _) (fun _ _ => h101.2 _), platOn_kept (hk0) (h101.1 _) (h101.1 _), stakeOn_kept (hk0) (fun _ _ => h101.2 _), engOn_kept (hk0) (h101.1 _) (h101.1 _) (fun _ _ => h101.2 _) (fun _ _ => h101.2 _), pinmuxOn_kept (hk0) (h101.1 _) (h101.1 _) (h101.1 _) (fun _ _ => h101.2 _) (fun _ _ => h101.2 _) (fun _ _ => h101.2 _) (fun _ _ => h101.2 _) (fun _ _ => h101.2 _) (fun _ _ => h101.2 _), Kept.ite (bookOn_kept (hk0) (h101.1 _) (h101.1 _) (h101.1 _) (fun _ _ => h101.2 _) (fun _ _ => h101.2 _) (fun _ _ => h101.2 _) (fun _ _ => h101.2 _) (fun _ _ => h101.2 _) (fun _ _ => h101.2 _) (fun _ _ => h101.2 _) (fun _ _ => h101.2 _) (fun _ _ => h101.2 _) (fun _ _ => h101.2 _) (fun _ _ => h101.2 _) (fun _ _ => h101.2 _) (fun _ _ => h101.2 _) (fun _ _ => h101.2 _) (fun _ _ => h101.2 _)) (tamperReplay_kept (bookOn_kept (hk0) (h101.1 _) (h101.1 _) (h101.1 _) (fun _ _ => h101.2 _) (fun _ _ => h101.2 _) (fun _ _ => h101.2 _) (fun _ _ => h101.2 _) (fun _ _ => h101.2 _) (fun _ _ => h101.2 _) (fun _ _ => h101.2 _) (fun _ _ => h101.2 _) (fun _ _ => h101.2 _) (fun _ _ => h101.2 _) (fun _ _ => h101.2 _) (fun _ _ => h101.2 _) (fun _ _ => h101.2 _) (fun _ _ => h101.2 _) (fun _ _ => h101.2 _)) (h101.1 _) (fun _ _ => h101.2 _)), edgeOn_kept (hk0) (h101.1 _) (fun _ _ => h101.2 _), canOn_kept (hk0) (h101.1 _) (h101.1 _) (h101.1 _) (h101.1 _) (fun _ _ => h101.2 _) (fun _ _ => h101.2 _) (fun _ _ => h101.2 _) (fun _ _ => h101.2 _) (fun _ _ => h101.2 _) (fun _ _ => h101.2 _) (fun _ _ => h101.2 _) (fun _ _ => h101.2 _) (fun _ _ => h101.2 _) (fun _ _ => h101.2 _) (fun _ _ => h101.2 _), portOn_kept (hk0) (h101.1 _) (h101.1 _) (h101.1 _) (h101.1 _) (h101.1 _) (h101.1 _) (fun _ _ => h101.2 _) (fun _ _ => h101.2 _) (fun _ _ => h101.2 _) (fun _ _ => h101.2 _) (fun _ _ => h101.2 _) (fun _ _ => h101.2 _) (fun _ _ => h101.2 _) (fun _ _ => h101.2 _) (fun _ _ => h101.2 _) (fun _ _ => h101.2 _) (fun _ _ => h101.2 _) (fun _ _ => h101.2 _) (fun _ _ => h101.2 _) (fun _ => h101.2 _), bufOn_kept (hk0) (h101.1 _) (fun _ _ => h101.2 _), txFetch_kept (hk0) (h101.1 _), stampLoad_kept (hk0) (h101.1 _) (h101.1 _) (h101.1 _) (h101.1 _) (h101.1 _) (h101.1 _) (h101.1 _) (fun _ _ => h101.2 _) (fun _ _ => h101.2 _) (fun _ _ => h101.2 _) (fun _ _ => h101.2 _) (fun _ => h101.2 _), dupOn_kept (hk0) (h101.1 _) (h101.1 _) (h101.1 _) (h101.1 _) (fun _ _ => h101.2 _) (fun _ _ => h101.2 _) (fun _ _ => h101.2 _) (fun _ _ => h101.2 _) (fun _ _ => h101.2 _) (fun _ _ => h101.2 _) (fun _ _ => h101.2 _) (fun _ _ => h101.2 _) (fun _ _ => h101.2 _) (fun _ _ => h101.2 _) (fun _ _ => h101.2 _) (fun _ _ => h101.2 _) (fun _ _ => h101.2 _) (fun _ _ => h101.2 _), gangOn_kept (hk0) (h101.1 _) (fun _ _ => h101.2 _) (fun _ _ => h101.2 _) (fun _ _ => h101.2 _), supplyOn_kept (hk0) (h101.1 _) (h101.1 _) (fun _ _ => h101.2 _) (fun _ _ => h101.2 _) (fun _ _ => h101.2 _), slotEnable_kept (hk0) (h101.1 _) (h101.1 _) (fun _ _ => h101.2 _) (fun _ _ => h101.2 _) (fun _ _ => h101.2 _), tallyOn_kept (hk0) (h101.1 _) (h101.1 _) (fun _ _ => h101.2 _) (fun _ _ => h101.2 _) (fun _ _ => h101.2 _) (fun _ _ => h101.2 _) (fun _ _ => h101.2 _) (fun _ _ => h101.2 _) (fun _ _ => h101.2 _) (fun _ _ => h101.2 _) (fun _ _ => h101.2 _) (fun _ _ => h101.2 _), hk0])

theorem recost_kept {σ : Scope} {ρ : State} {s : State} (hk0 : Kept σ ρ s) (h101 : σ.fld pTALLY F.TALLY.PWR0.P_BASE) (h102 : σ.fld pTALLY F.TALLY.PWR0.P_A) (h103 : σ.fld pTALLY F.TALLY.PWR1.P_B) (h104 : σ.fld pTALLY F.TALLY.PWR1.P_C) (h105 : σ.fld pTALLY F.TALLY.PWR2.P_D) (h106 : σ.fld pTALLY F.TALLY.T_A_MIN.TIME) (h107 : σ.fld pTALLY F.TALLY.RES_A.UJ) (h108 : σ.fld pTALLY F.TALLY.RES_B.UJ) (h109 : σ.fld pTALLY F.TALLY.RES_C.UJ) (h110 : σ.fld pTALLY F.TALLY.RES_W.UJ) :
    Kept σ ρ (State.recost s) := by
  unfold State.recost
  exact Kept.ite (tallyCosts_kept (hk0) h101 h102 h103 h104 h105 h106 h107 h108 h109 h110) (hk0)

theorem setHeld_kept {σ : Scope} {ρ : State} {s : State} {p : ℕ} (hk0 : Kept σ ρ s) (h101 : σ.fld p F.HDR.PSTS.HELD) (h102 : ∀ n, σ.page (pENG n)) :
    Kept σ ρ (State.setHeld s p) := by
  unfold State.setHeld
  exact Kept.ite (Kept.foldl (fun x0 a1 k2 => set_kept (k2) (h102 _).fld) _ _ (set_kept (hk0) h101)) (set_kept (hk0) h101)

theorem linesSent_kept {σ : Scope} {ρ : State} {s : State} {p : ℕ} (hk0 : Kept σ ρ s) (h101 : σ.part .ports = true) (h102 : σ.part .mscl = true) (h103 : σ.part .sw = true) (h104 : σ.part .mem = true) (h105 : σ.part .gang = true) (h106 : σ.part .stamps = true) (h107 : σ.part .plat = true) (h108 : σ.fld pSTAMP F.STAMP.ONESTEP_ERR.COUNT) (h109 : σ.fld pSTAMP (Fld.mk 12 8 1)) (h110 : σ.fld pCAPTURE F.CAPTURE.LOST.COUNT) (h111 : σ.fld pCAPTURE (Fld.mk 12 9 1)) (h112 : σ.fld pCAPTURE F.CAPTURE.WR_SEQ.SEQ) (h113 : σ.fld pCAPTURE (Fld.mk 12 8 1)) (h114 : σ.fld pSTAMP F.STAMP.TXQOVF.COUNT) (h115 : σ.fld pSTAMP (Fld.mk 12 9 1)) (h116 : σ.fld pSTAMP (Fld.mk 12 10 1)) (h117 : σ.fld (pPORT (portOfPage p)) (portCtr 9)) (h118 : σ.fld (pPORT (portOfPage p)) (portCtr 10)) (h119 : σ.fld (pPORT (portOfPage p)) (portCtr 11)) :
    Kept σ ρ (State.linesSent s p) := by
  unfold State.linesSent
  exact (by split; exacts [settle_kept (stampsDue_kept (hk0) h101 h102 h103 h104 h105 h106 h108 h109 h110 h111 h112 h113 h114 h115 h116) h101 h102 h103 h104 h105 h106 h107 h108 h109 h110 h111 h112 h113 h114 h115 h116 h117 h118 h119, stampsDue_kept (hk0) h101 h102 h103 h104 h105 h106 h108 h109 h110 h111 h112 h113 h114 h115 h116, stampsDue_kept (hk0) h101 h102 h103 h104 h105 h106 h108 h109 h110 h111 h112 h113 h114 h115 h116, hk0])

theorem linesNow_kept {σ : Scope} {ρ : State} {s : State} {p : ℕ} (hk0 : Kept σ ρ s) (h101 : σ.part .ports = true) (h102 : σ.part .mscl = true) (h103 : σ.part .sw = true) (h104 : σ.part .mem = true) (h105 : σ.part .gang = true) (h106 : σ.part .stamps = true) (h107 : σ.part .plat = true) (h108 : σ.part .tally = true) (h109 : σ.part .dup = true) (h110 : σ.part .pwr = true) (h111 : σ.part .bridge = true) (h112 : σ.fld pDATUM F.DATUM.FOLDOVR.COUNT) (h113 : σ.fld pDATUM (Fld.mk 12 14 1)) (h114 : σ.page pHSR) (h115 : σ.page pSWITCH) (h116 : σ.page pSTAMP) (h117 : σ.page pCAPTURE) (h118 : ∀ n, σ.page (pPORT n)) (h119 : σ.page pBUFMEM) (h120 : σ.page pMACSEC) (h121 : σ.fld pDUPLEX (Fld.mk 12 13 1)) (h122 : σ.page pSYS) (h123 : σ.page pBRIDGE) (h124 : σ.page pFDB) :
    Kept σ ρ (State.linesNow s p) := by
  unfold State.linesNow
  exact Kept.ite (loopIn_kept (linesSent_kept (hk0) h101 h102 h103 h104 h105 h106 h107 h116.fld h116.fld h117.fld h117.fld h117.fld h117.fld h116.fld h116.fld h116.fld (h118 _).fld (h118 _).fld (h118 _).fld) h101 h102 h103 h104 h105 h106 h107 h108 h109 h110 h111 h112 h113 h114 h115 h116 h117 h118 h119 h120 h121 h122 h123 h124) (linesSent_kept (hk0) h101 h102 h103 h104 h105 h106 h107 h116.fld h116.fld h117.fld h117.fld h117.fld h117.fld h116.fld h116.fld h116.fld (h118 _).fld (h118 _).fld (h118 _).fld)

theorem cycleOff_kept {σ : Scope} {ρ : State} {s : State} (hk0 : Kept σ ρ s) (h101 : σ.part .cycle = true) (h102 : ∀ n, σ.page (pPORT n)) :
    Kept σ ρ (State.cycleOff s) := by
  unfold State.cycleOff
  exact gclMatchAll_kept (Kept.cycle (hk0) h101) h102

theorem platOff_kept {σ : Scope} {ρ : State} {s : State} (hk0 : Kept σ ρ s) (h101 : σ.part .sw = true) (h102 : σ.part .plat = true) :
    Kept σ ρ (State.platOff s) := by
  unfold State.platOff
  exact Kept.plat (dropOwn_kept (hk0) h101 h102) h102

theorem portOff_kept {σ : Scope} {ρ : State} {s : State} {n : ℕ} (hk0 : Kept σ ρ s) (h101 : σ.part .ports = true) (h102 : σ.part .mscl = true) (h103 : σ.part .sw = true) (h104 : σ.part .mem = true) (h105 : σ.part .gang = true) (h106 : σ.part .stamps = true) (h107 : σ.part .plat = true) (h108 : σ.fld pSTAMP F.STAMP.ONESTEP_ERR.COUNT) (h109 : σ.fld pSTAMP (Fld.mk 12 8 1)) (h110 : σ.fld pCAPTURE F.CAPTURE.LOST.COUNT) (h111 : σ.fld pCAPTURE (Fld.mk 12 9 1)) (h112 : σ.fld pCAPTURE F.CAPTURE.WR_SEQ.SEQ) (h113 : σ.fld pCAPTURE (Fld.mk 12 8 1)) (h114 : σ.fld pSTAMP F.STAMP.TXQOVF.COUNT) (h115 : σ.fld pSTAMP (Fld.mk 12 9 1)) (h116 : σ.fld pSTAMP (Fld.mk 12 10 1)) (h117 : ∀ n, σ.page (pPORT n)) (h118 : σ.fld pBUFMEM (Fld.mk 12 13 1)) (h119 : σ.fld pGANGCTL F.GANGCTL.STS.OFS_VALID) (h120 : σ.fld pSTAMP (F.STAMP.LAT.ING_LAT.at (32 * n))) (h121 : σ.fld pSTAMP (F.STAMP.LAT.EGR_LAT.at (32 * n))) (h122 : σ.page pMSCL) :
    Kept σ ρ (State.portOff s n) := by
  unfold State.portOff
  exact msclLink_kept (setPort_kept (latClear_kept (set_kept (set_kept (set_kept (set_kept (set_kept (leadLink_kept (set_kept (flushCopies_kept (cutOff_kept (settle_kept (hk0) h101 h102 h103 h104 h105 h106 h107 h108 h109 h110 h111 h112 h113 h114 h115 h116 (h117 _).fld (h117 _).fld (h117 _).fld) h101 (h117 _).fld) h103 h104 h117 h110 h111 h112 h113 h118) (h117 _).fld) h119) (h117 _).fld) (h117 _).fld) (h117 _).fld) (h117 _).fld) (h117 _).fld) h101 h102 h103 h104 h105 h106 h108 h109 h110 h111 h112 h113 h114 h115 h116 h120 h121) h101) h102 h122

theorem keysOff_kept {σ : Scope} {ρ : State} {s : State} (hk0 : Kept σ ρ s) (h101 : σ.part .sw = true) (h102 : σ.page pMACSEC) :
    Kept σ ρ (State.keysOff s) := by
  unfold State.keysOff
  exact Kept.sw (Kept.foldl (fun x5 a6 k7 => Kept.ite (set_kept (k7) h102.fld) (k7)) _ _ (hk0)) h101

theorem blockOff_kept {σ : Scope} {ρ : State} {s : State} {p : ℕ} {keep : Bool} (hk0 : Kept σ ρ s) (h101 : σ.part .datum = true) (h102 : σ.part .mscl = true) (h103 : σ.part .cycle = true) (h104 : σ.part .sw = true) (h105 : σ.part .plat = true) (h106 : σ.part .stake = true) (h107 : σ.part .engs = true) (h108 : σ.part .pins = true) (h109 : σ.part .edges = true) (h110 : σ.part .book = true) (h111 : σ.part .cans = true) (h112 : σ.part .ports = true) (h113 : σ.part .mem = true) (h114 : σ.part .gang = true) (h115 : σ.part .stamps = true) (h116 : σ.part .bridge = true) (h117 : σ.part .pwr = true) (h118 : σ.part .tally = true) (h119 : ∀ n, σ.page (pPORT n)) (h120 : σ.page pSTAKE) (h121 : σ.page (pENG (p - 32))) (h122 : σ.page (pCREW ((p - 32) / 4))) (h123 : σ.page pBOOK) (h124 : ∀ n, σ.page (pEDGE n)) (h125 : σ.page (pCAN (p - 112))) (h126 : σ.page pSTAMP) (h127 : σ.page pCAPTURE) (h128 : σ.page pBUFMEM) (h129 : σ.page pGANGCTL) (h130 : σ.page pMSCL) (h131 : σ.page pMACSEC) (h132 : σ.page pBRIDGE) (h133 : σ.page (pSLOT (p - 209))) (h134 : σ.page pTALLY) :
    Kept σ ρ (State.blockOff s p keep) := by
  unfold State.blockOff
  exact (by split; exacts [datumOff_kept (hk0) h101, msclOff_kept (hk0) h102 h130.fld h130.fld h130.fld h130.fld h130.fld h130.fld, cycleOff_kept (hk0) h103 h119, platOff_kept (hk0) h104 h105, stakeOff_kept (hk0) h106 h120.fld h120.fld, engOff_kept (hk0) h107 h121.fld h121.fld h122.fld h122.fld h122.fld h122.fld h122.fld, releasePins_kept (hk0) h108 h109 h110 h123.fld h123.fld h123.fld h124 h123.fld h123.fld, bookOff_kept (hk0) h110 h123.fld h124 h123.fld, edgeOff_kept (hk0) h109 (h124 _), canOff_kept (hk0) h111 h108 h109 h110 h125.fld h123.fld h123.fld h123.fld h124 h123.fld h123.fld h125.fld, portOff_kept (hk0) h112 h102 h104 h113 h114 h115 h105 h126.fld h126.fld h127.fld h127.fld h127.fld h127.fld h126.fld h126.fld h126.fld h119 h128.fld h129.fld h126.fld h126.fld h130, keysOff_kept (hk0) h104 h131, bridgeOff_kept (hk0) h116 (h132 _) h132.fld, gangOff_kept (hk0) h114 h129.fld h129.fld h129.fld, slotStop_kept (hk0) h117 h133.fld h133.fld h133.fld h133.fld, tallyOff_kept (hk0) h118 h134.fld h134.fld h134.fld h134.fld h134.fld, hk0])

theorem pageOff_kept {σ : Scope} {ρ : State} {s0 : State} {p : ℕ} (hk0 : Kept σ ρ s0) (h101 : σ.part .ports = true) (h102 : σ.part .mscl = true) (h103 : σ.part .sw = true) (h104 : σ.part .mem = true) (h105 : σ.part .gang = true) (h106 : σ.part .stamps = true) (h107 : σ.part .datum = true) (h108 : σ.part .cycle = true) (h109 : σ.part .plat = true) (h110 : σ.part .stake = true) (h111 : σ.part .engs = true) (h112 : σ.part .pins = true) (h113 : σ.part .edges = true) (h114 : σ.part .book = true) (h115 : σ.part .cans = true) (h116 : σ.part .bridge = true) (h117 : σ.part .pwr = true) (h118 : σ.part .tally = true) (h119 : σ.page p) (h120 : ∀ n, σ.page (pPORT n)) (h121 : σ.page pSTAKE) (h122 : σ.page (pENG (p - 32))) (h123 : σ.page (pCREW ((p - 32) / 4))) (h124 : σ.page pBOOK) (h125 : ∀ n, σ.page (pEDGE n)) (h126 : σ.page (pCAN (p - 112))) (h127 : σ.page pSTAMP) (h128 : σ.page pCAPTURE) (h129 : σ.page pBUFMEM) (h130 : σ.page pGANGCTL) (h131 : σ.page pMSCL) (h132 : σ.page pMACSEC) (h133 : σ.page pBRIDGE) (h134 : σ.page (pSLOT (p - 209))) (h135 : σ.page pTALLY) :
    Kept σ ρ (State.pageOff s0 p) := by
  unfold State.pageOff
  exact drainsOf_kept (shadowSync_kept (recost_kept (blockOff_kept (stopRun_kept (Kept.ite (stampStop_kept (hk0) h101 h102 h103 h104 h105 h106 h127.fld h127.fld h128.fld h128.fld h128.fld h128.fld h127.fld h127.fld h127.fld) (hk0)) h119.fld h119.fld) h107 h102 h108 h103 h109 h110 h111 h112 h113 h114 h115 h101 h104 h105 h106 h116 h117 h118 h120 h121 h122 h123 h124 h125 h126 h127 h128 h129 h130 h131 h132 h133 h134 h135) h135.fld h135.fld h135.fld h135.fld h135.fld h135.fld h135.fld h135.fld h135.fld h135.fld) h112 h113 h114 h124.fld h124.fld h124.fld h125 h124.fld h124.fld) h114 h124.fld h124.fld h124.fld h124.fld h124.fld h124.fld

theorem platClr_kept {σ : Scope} {ρ : State} {s : State} (hk0 : Kept σ ρ s) (h101 : σ.part .mem = true) (h102 : σ.part .plat = true) :
    Kept σ ρ (State.platClr s) := by
  unfold State.platClr
  exact Kept.u_mem_plat (hk0) h101 h102 (tabWf_filter _ _ _)

theorem captureClr_kept {σ : Scope} {ρ : State} {s : State} (hk0 : Kept σ ρ s) (h101 : σ.part .mem = true) :
    Kept σ ρ (State.captureClr s) := by
  unfold State.captureClr
  exact Kept.mem (hk0) h101 (tabWf_filter _ _ _)

theorem monumentClr_kept {σ : Scope} {ρ : State} {s : State} (hk0 : Kept σ ρ s) (h101 : σ.part .mon = true) (h102 : σ.part .life = true) :
    Kept σ ρ (State.monumentClr s) := by
  unfold State.monumentClr
  exact Kept.idle (hk0) h101 h102 rfl rfl

theorem blockClr_kept {σ : Scope} {ρ : State} {s : State} {o : State} {p : ℕ} (hk0 : Kept σ ρ s) (h101 : σ.Full) :
    Kept σ ρ (State.blockClr s o p) := by
  unfold State.blockClr
  exact (by (try dsimp only); split; exacts [datumClr_kept (hk0) (h101.1 _) (h101.1 _) (h101.1 _) (fun _ _ => h101.2 _) (fun _ _ => h101.2 _) (fun _ _ => h101.2 _) (fun _ _ => h101.2 _) (fun _ _ => h101.2 _) (fun _ _ => h101.2 _), Kept.stamps (hk0) (h101.1 _), platClr_kept (hk0) (h101.1 _) (h101.1 _), stakeClr_kept (hk0) (h101.1 _), crewClr_kept (hk0) (h101.1 _), engClr_kept (hk0) (h101.1 _) (h101.1 _) (h101.1 _) (h101.1 _) (fun _ _ => h101.2 _) (fun _ _ => h101.2 _) (fun _ _ => h101.2 _) (fun _ _ => h101.2 _) (fun _ _ => h101.2 _) (fun _ _ => h101.2 _) (fun _ _ => h101.2 _) (fun _ _ => h101.2 _) (fun _ _ => h101.2 _) (fun _ _ => h101.2 _) (fun _ _ => h101.2 _) (fun _ _ => h101.2 _) (fun _ _ => h101.2 _), bookClr_kept (hk0) (h101.1 _) (h101.1 _) (fun _ _ => h101.2 _) (fun _ _ => h101.2 _), canClr_kept (hk0) (h101.1 _), setPort_kept (hk0) (h101.1 _), Kept.sw (hk0) (h101.1 _), Kept.sw (hk0) (h101.1 _), captureClr_kept (hk0) (h101.1 _), keysOff_kept (hk0) (h101.1 _) (fun _ => h101.2 _), Kept.sw (hk0) (h101.1 _), bridgeClr_kept (hk0) (h101.1 _), dupClr_kept (hk0) (h101.1 _), set_kept (shadowSync_kept (Kept.gang (hk0) (h101.1 _)) (h101.1 _) (h101.1 _) (h101.1 _) (fun _ _ => h101.2 _) (fun _ _ => h101.2 _) (fun _ _ => h101.2 _) (fun _ _ => h101.2 _) (fun _ _ => h101.2 _) (fun _ _ => h101.2 _)) (fun _ _ => h101.2 _), ballsNow_kept (hk0) (h101.1 _) (h101.1 _) (h101.1 _) (fun _ _ => h101.2 _) (fun _ _ => h101.2 _) (fun _ _ => h101.2 _) (fun _ _ => h101.2 _) (fun _ _ => h101.2 _) (fun _ _ => h101.2 _), supplyClr_kept (hk0) (h101.1 _) (h101.1 _) (h101.2 _) (h101.2 _) (fun _ _ => h101.2 _) (fun _ _ => h101.2 _) (fun _ _ => h101.2 _), slotClr_kept (hk0) (fun _ _ => h101.2 _), tallyClr_kept (hk0) (h101.2 _) (h101.2 _) (h101.2 _) (fun _ _ => h101.2 _) (fun _ _ => h101.2 _) (fun _ _ => h101.2 _) (fun _ _ => h101.2 _) (fun _ _ => h101.2 _) (fun _ _ => h101.2 _) (fun _ _ => h101.2 _) (fun _ _ => h101.2 _) (fun _ _ => h101.2 _) (fun _ _ => h101.2 _), monumentClr_kept (hk0) (h101.1 _) (h101.1 _), hmonZero_kept (hk0) (fun _ => h101.2 _), Kept.cal (hk0) (h101.1 _), hk0])

theorem clrEntry_ok {fam : Fam} {p : Nat} {e e' : Nat × Word} (h : clrEntry fam p e = some e') (hw : e.2 ≠ regDefault e.1) :
    e'.1 = e.1 ∧ e'.2 ≠ regDefault e'.1 := by
  unfold clrEntry at h
  split at h
  · cases h; exact ⟨rfl, hw⟩
  · split at h
    · cases h
    · next hn => cases h; exact ⟨rfl, hn⟩

theorem clear_wf (fam : Fam) (p : Nat) : ∀ (l : List (Nat × Word)) (a : Nat), tabWfFrom regDefault a l = true →
    tabWfFrom regDefault a (l.filterMap (clrEntry fam p)) = true
  | [], _, _ => rfl
  | e :: t, a, h => by
    simp only [tabWfFrom, Bool.and_eq_true, decide_eq_true_eq] at h
    have ih := clear_wf fam p t (e.1 + 1) h.2
    rw [List.filterMap_cons]
    split
    · exact tabWfFrom_mono _ (by omega) _ ih
    · next e' he =>
      have hk := clrEntry_ok he h.1.2
      simp only [tabWfFrom, Bool.and_eq_true, decide_eq_true_eq]
      exact ⟨⟨hk.1 ▸ h.1.1, hk.2⟩, hk.1 ▸ ih⟩

theorem clear_get (fam : Fam) (p : Nat) {k : Nat} (hk : k / 4096 ≠ p) : ∀ l : List (Nat × Word),
    tabGet regDefault (l.filterMap (clrEntry fam p)) k = tabGet regDefault l k
  | [] => rfl
  | e :: t => by
    have ih := clear_get fam p hk t
    by_cases he : e.1 / 4096 = p
    · have hn : e.1 ≠ k := fun h => hk (h ▸ he)
      rw [List.filterMap_cons]
      split
      · simp only [tabGet, hn, if_false, ih]
      · next e' h' =>
        have h1 : e'.1 = e.1 := by
          unfold clrEntry at h'
          split at h'
          · contradiction
          · split at h' <;> cases h'; rfl
        simp only [tabGet, h1, hn, if_false, ih]
    · have h1 : clrEntry fam p e = some e := by simp [clrEntry, he]
      simp only [List.filterMap_cons, h1, tabGet, ih]

theorem clearRegs_kept {σ : Scope} {ρ s : State} {fam : Fam} {p : Nat} (h : Kept σ ρ s)
    (hl : σ.part .latch = true) (ha : σ.page p) : Kept σ ρ (s.clearRegs fam p) := by
  unfold State.clearRegs
  refine (Kept.regsOn h (v := s.regs.filterMap (clrEntry fam p)) (fun k hk => clear_get fam p (fun hp => ?_) _)
    (clear_wf fam p s.regs 0)).latch hl
  rw [ha.ofKey hp] at hk
  cases hk

theorem pageClr_kept {σ : Scope} {ρ : State} {s : State} {p : ℕ} (hk0 : Kept σ ρ s) (h101 : σ.Full) :
    Kept σ ρ (State.pageClr s p) := by
  unfold State.pageClr
  exact (by split; exacts [hk0, blockClr_kept (clearRegs_kept (hk0) (h101.1 _) (fun _ => h101.2 _)) h101])

theorem unhold_kept {σ : Scope} {ρ : State} {s : State} {p : ℕ} (hk0 : Kept σ ρ s) (h101 : σ.part .engs = true) (h102 : σ.part .slots = true) (h103 : σ.part .bridge = true) (h104 : σ.fld p F.HDR.PCTL.HOLD) (h105 : σ.fld p F.HDR.PSTS.HELD) (h106 : ∀ n, σ.page (pENG n)) (h107 : σ.fld (pSLOT (p - 209)) F.SLOT.STS.STATE) :
    Kept σ ρ (State.unhold s p) := by
  unfold State.unhold
  exact (by (try dsimp only); split; exacts [engUnhold_kept (hk0) h101 (h106 _).fld (h106 _).fld, Kept.foldl (fun x5 a6 k7 => engUnhold_kept (k7) h101 (h106 _).fld (h106 _).fld) _ _ (set_kept (set_kept (hk0) h104) h105), slotKick_kept (set_kept (set_kept (hk0) h104) h105) h102 h107, txFetch_kept (set_kept (set_kept (hk0) h104) h105) h103, set_kept (set_kept (hk0) h104) h105])

theorem heldReached_kept {σ : Scope} {ρ : State} {s0 : State} {p : ℕ} (hk0 : Kept σ ρ s0) (h101 : σ.part .ports = true) (h102 : σ.part .mscl = true) (h103 : σ.part .sw = true) (h104 : σ.part .mem = true) (h105 : σ.part .gang = true) (h106 : σ.part .stamps = true) (h107 : σ.part .plat = true) (h108 : σ.fld pSTAMP F.STAMP.ONESTEP_ERR.COUNT) (h109 : σ.fld pSTAMP (Fld.mk 12 8 1)) (h110 : σ.fld pCAPTURE F.CAPTURE.LOST.COUNT) (h111 : σ.fld pCAPTURE (Fld.mk 12 9 1)) (h112 : σ.fld pCAPTURE F.CAPTURE.WR_SEQ.SEQ) (h113 : σ.fld pCAPTURE (Fld.mk 12 8 1)) (h114 : σ.fld pSTAMP F.STAMP.TXQOVF.COUNT) (h115 : σ.fld pSTAMP (Fld.mk 12 9 1)) (h116 : σ.fld pSTAMP (Fld.mk 12 10 1)) (h117 : ∀ n, σ.page (pPORT n)) (h118 : σ.fld p F.HDR.PSTS.HELD) (h119 : ∀ n, σ.page (pENG n)) :
    Kept σ ρ (State.heldReached s0 p) := by
  unfold State.heldReached
  exact Kept.cut (fun k4 => (by (try dsimp only); split; exacts [k4, Kept.ite (setHeld_kept (k4) h118 h119) (k4)])) (Kept.ite (settle_kept (hk0) h101 h102 h103 h104 h105 h106 h107 h108 h109 h110 h111 h112 h113 h114 h115 h116 (h117 _).fld (h117 _).fld (h117 _).fld) (Kept.ite (Kept.foldl (fun x0 a1 k2 => settle_kept (k2) h101 h102 h103 h104 h105 h106 h107 h108 h109 h110 h111 h112 h113 h114 h115 h116 (h117 _).fld (h117 _).fld (h117 _).fld) _ _ (hk0)) (hk0)))

theorem pstateStore_kept {σ : Scope} {ρ : State} {s : State} {req : ℕ} (hk0 : Kept σ ρ s) (h101 : σ.part .pwr = true) :
    Kept σ ρ (State.pstateStore s req) := by
  unfold State.pstateStore
  exact Kept.pwr (hk0) h101 rfl

theorem pstateBegin_kept {σ : Scope} {ρ : State} {s : State} {p : Power} (hk0 : Kept σ ρ s) (h101 : σ.part .pwr = true) (h102 : σ.fld pSYS F.SYS.PSTATE.BUSY) :
    Kept σ ρ (State.pstateBegin s p) := by
  unfold State.pstateBegin
  exact Kept.pwr (set_kept (hk0) h102) h101 rfl

theorem askWatch_kept {σ : Scope} {ρ : State} {s : State} (hk0 : Kept σ ρ s) (h101 : σ.part .pwr = true) (h102 : σ.fld pSYS F.SYS.PSTATE.REJ) (h103 : σ.fld pSYS F.SYS.PSTATE.CAUSE) (h104 : σ.fld pSYS F.SYS.PSTATE.BLOCKER) (h105 : σ.fld pSYS F.SYS.PSTATE.BUSY) :
    Kept σ ρ (State.askWatch s) := by
  unfold State.askWatch
  exact Kept.ite (pstateReject_kept (hk0) h102 h103 h104) ((by split; exacts [pstateReject_kept (hk0) h102 h103 h104, pstateBegin_kept (hk0) h101 h105]))

theorem pstateAct_kept {σ : Scope} {ρ : State} {s : State} {req : ℕ} (hk0 : Kept σ ρ s) (h101 : σ.Full) :
    Kept σ ρ (State.pstateAct s req) := by
  unfold State.pstateAct
  exact Kept.ite (hk0) (Kept.ite (pstateReject_kept (hk0) (fun _ _ => h101.2 _) (fun _ _ => h101.2 _) (fun _ _ => h101.2 _)) (Kept.ite (pstateReject_kept (hk0) (fun _ _ => h101.2 _) (fun _ _ => h101.2 _) (fun _ _ => h101.2 _)) (Kept.ite (powerDown_kept (hk0) h101) (Kept.ite (askWatch_kept (hk0) (h101.1 _) (fun _ _ => h101.2 _) (fun _ _ => h101.2 _) (fun _ _ => h101.2 _) (fun _ _ => h101.2 _)) (pstateBegin_kept (hk0) (h101.1 _) (fun _ _ => h101.2 _))))))

theorem pstateReq_kept {σ : Scope} {ρ : State} {s : State} {req : ℕ} (hk0 : Kept σ ρ s) (h101 : σ.Full) :
    Kept σ ρ (State.pstateReq s req) := by
  unfold State.pstateReq
  exact Kept.cut (fun k1 => Kept.ite (pstateStore_kept (k1) (h101.1 _)) (pstateAct_kept (k1) h101)) (set_kept (hk0) (fun _ _ => h101.2 _))

theorem batteryStart_kept {σ : Scope} {ρ : State} {s : State} (hk0 : Kept σ ρ s) (h101 : σ.part .pwr = true) (h102 : σ.part .mon = true) :
    Kept σ ρ (State.batteryStart s) := by
  unfold State.batteryStart
  exact Kept.ite (Kept.u_pwr_mon (hk0) h101 h102 rfl rfl rfl) (hk0)

theorem dieFail_kept {σ : Scope} {ρ : State} {s : State} (hk0 : Kept σ ρ s) (h101 : σ.part .pwr = true) (h102 : σ.part .book = true) (h103 : σ.part .pins = true) (h104 : σ.part .dup = true) (h105 : σ.part .edges = true) (h106 : σ.part .sw = true) (h107 : σ.part .mem = true) (h108 : σ.fld pSYS F.HDR.PSTS.FAULT) (h109 : σ.fld pSYS (Fld.mk 12 1 1)) (h110 : ∀ n, σ.page (pEDGE n)) (h111 : σ.page pDUPLEX) (h112 : σ.page pBOOK) (h113 : σ.page pSWITCH) (h114 : ∀ n, σ.page (pPORT n)) (h115 : σ.page pCAPTURE) (h116 : σ.page pBUFMEM) :
    Kept σ ρ (State.dieFail s) := by
  unfold State.dieFail
  exact Kept.ite (declareFault_kept (stage_kept (blockFault_kept (Kept.pwr (hk0) h101 rfl) h108 h109) h102 h112.fld h112.fld h112.fld (h110 _).fld (h110 _).fld h112.fld h112.fld) h103 h104 h105 h102 h106 h107 h111 h112 h110 h113 h114 h115 h116) (hk0)

theorem dropParcel_kept {σ : Scope} {ρ : State} {s : State} (hk0 : Kept σ ρ s) (h101 : σ.part .sw = true) (h102 : σ.part .plat = true) :
    Kept σ ρ (State.dropParcel s) := by
  unfold State.dropParcel
  exact Kept.ite (dropOwn_kept (hk0) h101 h102) (hk0)

theorem guardLost_kept {σ : Scope} {ρ : State} {s : State} (hk0 : Kept σ ρ s) (h101 : σ.Full) :
    Kept σ ρ (State.guardLost s) := by
  unfold State.guardLost
  exact Kept.ite (Kept.u_pwr_page_supply (nextFree_kept (opOver_kept (coreHold_kept (hk0) h101) (h101.1 _) (h101.1 _))) (h101.1 _) (h101.1 _) (h101.1 _) rfl) (hk0)

theorem guardPor_kept {σ : Scope} {ρ : State} {s : State} (hk0 : Kept σ ρ s) (h101 : σ.part .pwr = true) (h102 : σ.part .mon = true) (h103 : σ.part .supply = true) (h104 : σ.part .slots = true) (h105 : σ.part .tally = true) (h106 : σ.part .life = true) (h107 : ∀ k, σ.reg k = true) :
    Kept σ ρ (State.guardPor s) := by
  unfold State.guardPor
  exact Kept.ite (Kept.cut (fun k29 => monPor_kept (Kept.ite (k29) (setFet_kept (k29) (fun _ _ => h107 _) (fun _ _ => h107 _) (fun _ _ => h107 _))) h102 h106 h101 (fun _ _ => h107 _) (fun _ _ => h107 _)) (setB_kept (setB_kept (cause_kept (set_kept (set_kept (Kept.u_regs_pwr_supply_slots_tally (batteryStart_kept (hk0) h101 h102) h107 h101 h103 h104 h105 (tabWf_filter _ _ _) rfl) (fun _ _ => h107 _)) (fun _ _ => h107 _)) h103) (fun _ _ => h107 _)) (fun _ _ => h107 _))) (hk0)

theorem lineCapture_kept {σ : Scope} {ρ : State} {s : State} {l : ℕ} (hk0 : Kept σ ρ s) (h101 : σ.part .pwr = true) (h102 : σ.part .book = true) (h103 : σ.fld pSUPPLY F.SUPPLY.RFT.T) (h104 : σ.fld pBOOK F.BOOK.DISCARD.COUNT) (h105 : σ.fld pBOOK F.BOOK.SHADOW.DROP) (h106 : σ.fld pBOOK (Fld.mk 12 12 1)) (h107 : ∀ n, σ.page (pEDGE n)) (h108 : σ.fld pBOOK F.BOOK.DISCARD_SYS.COUNT) (h109 : σ.fld pBOOK (Fld.mk 12 8 1)) (h110 : σ.fld pTALLY F.TALLY.LAST_LOSS.T) :
    Kept σ ρ (State.lineCapture s l) := by
  unfold State.lineCapture
  exact Kept.ite (Kept.cut (fun k1 => Kept.cut (fun k6 => Kept.ite (set_kept (k6) h110) (k6)) (Kept.ite (set_kept (k1) h103) (Kept.foldl (fun x2 a3 k4 => stage_kept (k4) h102 h104 h105 h106 (h107 _).fld (h107 _).fld h108 h109) _ _ (k1)))) (setLine_kept (hk0) h101)) (hk0)

theorem lineToggle_kept {σ : Scope} {ρ : State} {s : State} {l : ℕ} (hk0 : Kept σ ρ s) (h101 : σ.part .pwr = true) :
    Kept σ ρ (State.lineToggle s l) := by
  unfold State.lineToggle
  exact (by (try dsimp only); split; exacts [hk0, Kept.ite (setLine_kept (hk0) h101) (hk0)])

theorem pstateDone_kept {σ : Scope} {ρ : State} {s : State} (hk0 : Kept σ ρ s) (h101 : σ.Full) :
    Kept σ ρ (State.pstateDone s) := by
  unfold State.pstateDone
  exact (by (try dsimp only); split; exacts [hk0, (by split; exacts [Kept.ite (pstateStore_kept (Kept.ite (dropParcel_kept (Kept.pwr (set_kept (set_kept (hk0) (fun _ _ => h101.2 _)) (fun _ _ => h101.2 _)) (h101.1 _) rfl) (h101.1 _) (h101.1 _)) (Kept.pwr (set_kept (set_kept (hk0) (fun _ _ => h101.2 _)) (fun _ _ => h101.2 _)) (h101.1 _) rfl)) (h101.1 _)) (pstateAct_kept (Kept.ite (dropParcel_kept (Kept.pwr (set_kept (set_kept (hk0) (fun _ _ => h101.2 _)) (fun _ _ => h101.2 _)) (h101.1 _) rfl) (h101.1 _) (h101.1 _)) (Kept.pwr (set_kept (set_kept (hk0) (fun _ _ => h101.2 _)) (fun _ _ => h101.2 _)) (h101.1 _) rfl)) h101), Kept.ite (dropParcel_kept (Kept.pwr (set_kept (set_kept (hk0) (fun _ _ => h101.2 _)) (fun _ _ => h101.2 _)) (h101.1 _) rfl) (h101.1 _) (h101.1 _)) (Kept.pwr (set_kept (set_kept (hk0) (fun _ _ => h101.2 _)) (fun _ _ => h101.2 _)) (h101.1 _) rfl)])])

theorem reqWrite_kept {σ : Scope} {ρ : State} {s : State} {req : ℕ} (hk0 : Kept σ ρ s) (h101 : σ.Full) :
    Kept σ ρ (State.reqWrite s req) := by
  unfold State.reqWrite
  exact fldWrite_kept (hk0) (fun x0 k1 => pstateReq_kept (k1) h101) (h101.1 _) (fun _ _ => h101.2 _) (fun _ _ => h101.2 _) (fun _ _ => h101.2 _) (fun _ _ => h101.2 _) (fun _ _ => h101.2 _)

theorem execDieLinkFail_kept {σ : Scope} {clk : ℕ} {s : State} (h101 : σ.part .pwr = true) (h102 : σ.part .book = true) (h103 : σ.part .pins = true) (h104 : σ.part .dup = true) (h105 : σ.part .edges = true) (h106 : σ.part .sw = true) (h107 : σ.part .mem = true) (h108 : σ.fld pSYS F.HDR.PSTS.FAULT) (h109 : σ.fld pSYS (Fld.mk 12 1 1)) (h110 : ∀ n, σ.page (pEDGE n)) (h111 : σ.page pDUPLEX) (h112 : σ.page pBOOK) (h113 : σ.page pSWITCH) (h114 : ∀ n, σ.page (pPORT n)) (h115 : σ.page pCAPTURE) (h116 : σ.page pBUFMEM) :
    KeptNext σ s (execDieLinkFail clk s) := by
  unfold execDieLinkFail
  exact KeptNext.next (dieFail_kept (advance_kept (Kept.refl σ s)) h101 h102 h103 h104 h105 h106 h107 h108 h109 h110 h111 h112 h113 h114 h115 h116)

theorem execDieLinkTrained_kept {σ : Scope} {clk : ℕ} {s : State} (h101 : σ.part .pwr = true) :
    KeptNext σ s (execDieLinkTrained clk s) := by
  unfold execDieLinkTrained
  exact KeptNext.next (Kept.pwr (advance_kept (Kept.refl σ s)) h101 rfl)

theorem execGuardEventLineCapture_kept {σ : Scope} {clk : ℕ} {line : ℕ} {s : State} (h101 : σ.part .pwr = true) (h102 : σ.part .book = true) (h103 : σ.fld pSUPPLY F.SUPPLY.RFT.T) (h104 : σ.fld pBOOK F.BOOK.DISCARD.COUNT) (h105 : σ.fld pBOOK F.BOOK.SHADOW.DROP) (h106 : σ.fld pBOOK (Fld.mk 12 12 1)) (h107 : ∀ n, σ.page (pEDGE n)) (h108 : σ.fld pBOOK F.BOOK.DISCARD_SYS.COUNT) (h109 : σ.fld pBOOK (Fld.mk 12 8 1)) (h110 : σ.fld pTALLY F.TALLY.LAST_LOSS.T) :
    KeptNext σ s (execGuardEventLineCapture clk line s) := by
  unfold execGuardEventLineCapture
  exact KeptNext.next (lineCapture_kept (advance_kept (Kept.refl σ s)) h101 h102 h103 h104 h105 h106 h107 h108 h109 h110)

theorem execGuardEventLineToggle_kept {σ : Scope} {clk : ℕ} {line : ℕ} {s : State} (h101 : σ.part .pwr = true) :
    KeptNext σ s (execGuardEventLineToggle clk line s) := by
  unfold execGuardEventLineToggle
  exact KeptNext.next (lineToggle_kept (advance_kept (Kept.refl σ s)) h101)

theorem execGuardPor_kept {σ : Scope} {clk : ℕ} {s : State} (h101 : σ.part .pwr = true) (h102 : σ.part .mon = true) (h103 : σ.part .supply = true) (h104 : σ.part .slots = true) (h105 : σ.part .tally = true) (h106 : σ.part .life = true) (h107 : ∀ k, σ.reg k = true) :
    KeptNext σ s (execGuardPor clk s) := by
  unfold execGuardPor
  exact KeptNext.next (guardPor_kept (advance_kept (Kept.refl σ s)) h101 h102 h103 h104 h105 h106 h107)

theorem execGuardUnsupplied_kept {σ : Scope} {clk : ℕ} {s : State} (h101 : σ.Full) :
    KeptNext σ s (execGuardUnsupplied clk s) := by
  unfold execGuardUnsupplied
  exact KeptNext.next (guardLost_kept (advance_kept (Kept.refl σ s)) h101)

theorem execPstateReqKeep_kept {σ : Scope} {clk : ℕ} {s : State} (h101 : σ.Full) :
    KeptNext σ s (execPstateReqKeep clk s) := by
  unfold execPstateReqKeep
  exact KeptNext.next (reqWrite_kept (advance_kept (Kept.refl σ s)) h101)

theorem execPstateReqReserved_kept {σ : Scope} {clk : ℕ} {s : State} (h101 : σ.Full) :
    KeptNext σ s (execPstateReqReserved clk s) := by
  unfold execPstateReqReserved
  exact KeptNext.next (reqWrite_kept (advance_kept (Kept.refl σ s)) h101)

theorem execPstateReqRun_kept {σ : Scope} {clk : ℕ} {s : State} (h101 : σ.Full) :
    KeptNext σ s (execPstateReqRun clk s) := by
  unfold execPstateReqRun
  exact KeptNext.next (reqWrite_kept (advance_kept (Kept.refl σ s)) h101)

theorem execPstateReqWatch_kept {σ : Scope} {clk : ℕ} {s : State} (h101 : σ.Full) :
    KeptNext σ s (execPstateReqWatch clk s) := by
  unfold execPstateReqWatch
  exact KeptNext.next (reqWrite_kept (advance_kept (Kept.refl σ s)) h101)

theorem execPstateTransitionDone_kept {σ : Scope} {clk : ℕ} {s : State} (h101 : σ.Full) :
    KeptNext σ s (execPstateTransitionDone clk s) := by
  unfold execPstateTransitionDone
  exact KeptNext.next (pstateDone_kept (advance_kept (Kept.refl σ s)) h101)

theorem execVbatApplied_kept {σ : Scope} {clk : ℕ} {s : State} (h101 : σ.part .pwr = true) (h102 : σ.part .mon = true) :
    KeptNext σ s (execVbatApplied clk s) := by
  unfold execVbatApplied
  exact KeptNext.next (batteryStart_kept (advance_kept (Kept.refl σ s)) h101 h102)

theorem accepted_kept {σ : Scope} {ρ : State} {s : State} {p : ℕ} (hk0 : Kept σ ρ s) (h101 : σ.Full) :
    Kept σ ρ (State.accepted s p) := by
  unfold State.accepted
  exact Kept.cut (fun k5 => drainsOf_kept (recost_kept (Kept.ite (setHeld_kept (k5) (fun _ _ => h101.2 _) (fun _ _ => h101.2 _)) (k5)) (fun _ _ => h101.2 _) (fun _ _ => h101.2 _) (fun _ _ => h101.2 _) (fun _ _ => h101.2 _) (fun _ _ => h101.2 _) (fun _ _ => h101.2 _) (fun _ _ => h101.2 _) (fun _ _ => h101.2 _) (fun _ _ => h101.2 _) (fun _ _ => h101.2 _)) (h101.1 _) (fun _ _ => h101.2 _) (fun _ _ => h101.2 _) (fun _ _ => h101.2 _) (fun _ _ => h101.2 _) (fun _ _ => h101.2 _) (fun _ _ => h101.2 _)) (blockOn_kept (set_kept (bump_kept (set_kept (set_kept (set_kept (set_kept (hk0) (fun _ _ => h101.2 _)) (fun _ _ => h101.2 _)) (fun _ _ => h101.2 _)) (fun _ _ => h101.2 _)) (fun _ _ => h101.2 _)) (fun _ _ => h101.2 _)) h101)

theorem clrBegin_kept {σ : Scope} {ρ : State} {s : State} {p : ℕ} {rest : Word} (hk0 : Kept σ ρ s) (h101 : σ.part .ports = true) (h102 : σ.part .mscl = true) (h103 : σ.part .sw = true) (h104 : σ.part .mem = true) (h105 : σ.part .gang = true) (h106 : σ.part .stamps = true) (h107 : σ.part .datum = true) (h108 : σ.part .cycle = true) (h109 : σ.part .plat = true) (h110 : σ.part .stake = true) (h111 : σ.part .engs = true) (h112 : σ.part .pins = true) (h113 : σ.part .edges = true) (h114 : σ.part .book = true) (h115 : σ.part .cans = true) (h116 : σ.part .bridge = true) (h117 : σ.part .pwr = true) (h118 : σ.part .tally = true) (h119 : σ.part .page = true) (h120 : σ.page p) (h121 : ∀ n, σ.page (pPORT n)) (h122 : σ.page pSTAKE) (h123 : σ.page (pENG (p - 32))) (h124 : σ.page (pCREW ((p - 32) / 4))) (h125 : σ.page pBOOK) (h126 : ∀ n, σ.page (pEDGE n)) (h127 : σ.page (pCAN (p - 112))) (h128 : σ.page pSTAMP) (h129 : σ.page pCAPTURE) (h130 : σ.page pBUFMEM) (h131 : σ.page pGANGCTL) (h132 : σ.page pMSCL) (h133 : σ.page pMACSEC) (h134 : σ.page pBRIDGE) (h135 : σ.page (pSLOT (p - 209))) (h136 : σ.page pTALLY) :
    Kept σ ρ (State.clrBegin s p rest) := by
  unfold State.clrBegin
  exact Kept.page (wr_kept (Kept.ite (pageOff_kept (hk0) h101 h102 h103 h104 h105 h106 h107 h108 h109 h110 h111 h112 h113 h114 h115 h116 h117 h118 h120 h121 h122 h123 h124 h125 h126 h127 h128 h129 h130 h131 h132 h133 h134 h135 h136) (hk0)) (h120 _)) h119

theorem stopBegin_kept {σ : Scope} {ρ : State} {s : State} {p : ℕ} {v : Word} (hk0 : Kept σ ρ s) (h101 : σ.part .page = true) (h102 : σ.reg (regKey p 4) = true) (h103 : σ.fld p F.HDR.PSTS.FAULT) (h104 : σ.fld p F.HDR.PSTS.REFUSED) :
    Kept σ ρ (State.stopBegin s p v) := by
  unfold State.stopBegin
  exact Kept.page (set_kept (set_kept (wr_kept (hk0) h102) h103) h104) h101

theorem clrEnd_kept {σ : Scope} {ρ : State} {s : State} {p : ℕ} (hk0 : Kept σ ρ s) (h101 : σ.Full) :
    Kept σ ρ (State.clrEnd s p) := by
  unfold State.clrEnd
  exact Kept.ite (Kept.page (set_kept (pageClr_kept (hk0) h101) (fun _ _ => h101.2 _)) (h101.1 _)) (hk0)

theorem stopEnd_kept {σ : Scope} {ρ : State} {s : State} {p : ℕ} (hk0 : Kept σ ρ s) (h101 : σ.part .ports = true) (h102 : σ.part .mscl = true) (h103 : σ.part .sw = true) (h104 : σ.part .mem = true) (h105 : σ.part .gang = true) (h106 : σ.part .stamps = true) (h107 : σ.part .datum = true) (h108 : σ.part .cycle = true) (h109 : σ.part .plat = true) (h110 : σ.part .stake = true) (h111 : σ.part .engs = true) (h112 : σ.part .pins = true) (h113 : σ.part .edges = true) (h114 : σ.part .book = true) (h115 : σ.part .cans = true) (h116 : σ.part .bridge = true) (h117 : σ.part .pwr = true) (h118 : σ.part .tally = true) (h119 : σ.part .page = true) (h120 : σ.page p) (h121 : ∀ n, σ.page (pPORT n)) (h122 : σ.page pSTAKE) (h123 : σ.page (pENG (p - 32))) (h124 : σ.page (pCREW ((p - 32) / 4))) (h125 : σ.page pBOOK) (h126 : ∀ n, σ.page (pEDGE n)) (h127 : σ.page (pCAN (p - 112))) (h128 : σ.page pSTAMP) (h129 : σ.page pCAPTURE) (h130 : σ.page pBUFMEM) (h131 : σ.page pGANGCTL) (h132 : σ.page pMSCL) (h133 : σ.page pMACSEC) (h134 : σ.page pBRIDGE) (h135 : σ.page (pSLOT (p - 209))) (h136 : σ.page pTALLY) :
    Kept σ ρ (State.stopEnd s p) := by
  unfold State.stopEnd
  exact Kept.ite (Kept.page (pageOff_kept (hk0) h101 h102 h103 h104 h105 h106 h107 h108 h109 h110 h111 h112 h113 h114 h115 h116 h117 h118 h120 h121 h122 h123 h124 h125 h126 h127 h128 h129 h130 h131 h132 h133 h134 h135 h136) h119) (hk0)

theorem checkBegin_kept {σ : Scope} {ρ : State} {s : State} {p : ℕ} {v : Word} (hk0 : Kept σ ρ s) (h101 : σ.Full) :
    Kept σ ρ (State.checkBegin s p v) := by
  unfold State.checkBegin
  exact Kept.page (set_kept (set_kept (wr_kept (clrEnd_kept (stopEnd_kept (hk0) (h101.1 _) (h101.1 _) (h101.1 _) (h101.1 _) (h101.1 _) (h101.1 _) (h101.1 _) (h101.1 _) (h101.1 _) (h101.1 _) (h101.1 _) (h101.1 _) (h101.1 _) (h101.1 _) (h101.1 _) (h101.1 _) (h101.1 _) (h101.1 _) (h101.1 _) (fun _ => h101.2 _) (fun _ _ => h101.2 _) (fun _ => h101.2 _) (fun _ => h101.2 _) (fun _ => h101.2 _) (fun _ => h101.2 _) (fun _ _ => h101.2 _) (fun _ => h101.2 _) (fun _ => h101.2 _) (fun _ => h101.2 _) (fun _ => h101.2 _) (fun _ => h101.2 _) (fun _ => h101.2 _) (fun _ => h101.2 _) (fun _ => h101.2 _) (fun _ => h101.2 _) (fun _ => h101.2 _)) h101) (h101.2 _)) (fun _ _ => h101.2 _)) (fun _ _ => h101.2 _)) (h101.1 _)

theorem pctlWrite_kept {σ : Scope} {ρ : State} {s : State} {p : ℕ} {mask : Word} {data : Word} (hk0 : Kept σ ρ s) (h101 : σ.Full) :
    Kept σ ρ (State.pctlWrite s p mask data) := by
  unfold State.pctlWrite
  exact Kept.ite (wr_kept (hk0) (h101.2 _)) (Kept.ite (Kept.ite (wr_kept (hk0) (h101.2 _)) ((by split; exacts [refuse_kept (hk0) (fun _ _ => h101.2 _) (fun _ _ => h101.2 _) (fun _ _ => h101.2 _) (fun _ _ => h101.2 _), clrBegin_kept (hk0) (h101.1 _) (h101.1 _) (h101.1 _) (h101.1 _) (h101.1 _) (h101.1 _) (h101.1 _) (h101.1 _) (h101.1 _) (h101.1 _) (h101.1 _) (h101.1 _) (h101.1 _) (h101.1 _) (h101.1 _) (h101.1 _) (h101.1 _) (h101.1 _) (h101.1 _) (fun _ => h101.2 _) (fun _ _ => h101.2 _) (fun _ => h101.2 _) (fun _ => h101.2 _) (fun _ => h101.2 _) (fun _ => h101.2 _) (fun _ _ => h101.2 _) (fun _ => h101.2 _) (fun _ => h101.2 _) (fun _ => h101.2 _) (fun _ => h101.2 _) (fun _ => h101.2 _) (fun _ => h101.2 _) (fun _ => h101.2 _) (fun _ => h101.2 _) (fun _ => h101.2 _) (fun _ => h101.2 _)]))) (Kept.ite ((by split; exacts [refuse_kept (hk0) (fun _ _ => h101.2 _) (fun _ _ => h101.2 _) (fun _ _ => h101.2 _) (fun _ _ => h101.2 _), stopBegin_kept (hk0) (h101.1 _) (h101.2 _) (fun _ _ => h101.2 _) (fun _ _ => h101.2 _)])) (Kept.ite (checkBegin_kept (hk0) h101) (Kept.cut (fun k1 => Kept.cut (fun k3 => Kept.ite (unhold_kept (k3) (h101.1 _) (h101.1 _) (h101.1 _) (fun _ _ => h101.2 _) (fun _ _ => h101.2 _) (fun _ _ => h101.2 _) (fun _ _ => h101.2 _)) (k3)) (Kept.ite (set_kept (k1) (fun _ _ => h101.2 _)) (k1))) (wr_kept (hk0) (h101.2 _))))))

theorem cmdWrite_kept {σ : Scope} {ρ : State} {s : State} {w : Word} (hk0 : Kept σ ρ s) (h101 : σ.part .rst = true) :
    Kept σ ρ (State.cmdWrite s w) := by
  unfold State.cmdWrite
  exact Kept.ite (Kept.rst (hk0) h101) (hk0)

theorem faultDeps_kept {σ : Scope} {ρ : State} {s : State} {p : ℕ} (hk0 : Kept σ ρ s) (h101 : ∀ k, σ.reg k = true) :
    Kept σ ρ (State.faultDeps s p) := by
  unfold State.faultDeps
  exact Kept.foldl (fun x0 a1 k2 => blockFault_kept (k2) (fun _ _ => h101 _) (fun _ _ => h101 _)) _ _ (hk0)

theorem domainClr_kept {σ : Scope} {ρ : State} {s : State} {p : ℕ} (hk0 : Kept σ ρ s) (h101 : σ.part .page = true) (h102 : σ.part .ports = true) (h103 : σ.part .mscl = true) (h104 : σ.part .sw = true) (h105 : σ.part .mem = true) (h106 : σ.part .gang = true) (h107 : σ.part .stamps = true) (h108 : σ.part .datum = true) (h109 : σ.part .cycle = true) (h110 : σ.part .plat = true) (h111 : σ.part .stake = true) (h112 : σ.part .engs = true) (h113 : σ.part .pins = true) (h114 : σ.part .edges = true) (h115 : σ.part .book = true) (h116 : σ.part .cans = true) (h117 : σ.part .bridge = true) (h118 : σ.part .pwr = true) (h119 : σ.part .tally = true) (h120 : ∀ k, σ.reg k = true) :
    Kept σ ρ (State.domainClr s p) := by
  unfold State.domainClr
  exact Kept.cut (fun k5 => Kept.ite (wr_kept (k5) (h120 _)) (clrBegin_kept (k5) h102 h103 h104 h105 h106 h107 h108 h109 h110 h111 h112 h113 h114 h115 h116 h117 h118 h119 h101 (fun _ => h120 _) (fun _ _ => h120 _) (fun _ => h120 _) (fun _ => h120 _) (fun _ => h120 _) (fun _ => h120 _) (fun _ _ => h120 _) (fun _ => h120 _) (fun _ => h120 _) (fun _ => h120 _) (fun _ => h120 _) (fun _ => h120 _) (fun _ => h120 _) (fun _ => h120 _) (fun _ => h120 _) (fun _ => h120 _) (fun _ => h120 _))) (Kept.page (faultDeps_kept (hk0) h120) h101)

theorem domainReset_kept {σ : Scope} {ρ : State} {s : State} {map : ℕ} (hk0 : Kept σ ρ s) (h101 : σ.part .page = true) (h102 : σ.part .ports = true) (h103 : σ.part .mscl = true) (h104 : σ.part .sw = true) (h105 : σ.part .mem = true) (h106 : σ.part .gang = true) (h107 : σ.part .stamps = true) (h108 : σ.part .datum = true) (h109 : σ.part .cycle = true) (h110 : σ.part .plat = true) (h111 : σ.part .stake = true) (h112 : σ.part .engs = true) (h113 : σ.part .pins = true) (h114 : σ.part .edges = true) (h115 : σ.part .book = true) (h116 : σ.part .cans = true) (h117 : σ.part .bridge = true) (h118 : σ.part .pwr = true) (h119 : σ.part .tally = true) (h120 : ∀ k, σ.reg k = true) :
    Kept σ ρ (State.domainReset s map) := by
  unfold State.domainReset
  exact Kept.page (set_kept (Kept.foldl (fun x5 a6 k7 => domainClr_kept (k7) h101 h102 h103 h104 h105 h106 h107 h108 h109 h110 h111 h112 h113 h114 h115 h116 h117 h118 h119 h120) _ _ (hk0)) (fun _ _ => h120 _)) h101

theorem wdogWrite_kept {σ : Scope} {ρ : State} {s : State} {mask : Word} {data : Word} (hk0 : Kept σ ρ s) (h101 : σ.part .rst = true) (h102 : σ.reg (regKey pRESET 76) = true) (h103 : σ.fld pRESET F.RESET.WDOG.EN) :
    Kept σ ρ (State.wdogWrite s mask data) := by
  unfold State.wdogWrite
  exact Kept.cut (fun k1 => Kept.ite (Kept.rst (set_kept (k1) h103) h101) (k1)) (wr_kept (hk0) h102)

theorem wdogKick_kept {σ : Scope} {ρ : State} {s : State} {w : Word} (hk0 : Kept σ ρ s) (h101 : σ.part .rst = true) :
    Kept σ ρ (State.wdogKick s w) := by
  unfold State.wdogKick
  exact Kept.ite (Kept.rst (hk0) h101) (hk0)

theorem refusedEn_kept {σ : Scope} {ρ : State} {s : State} {p : ℕ} {code : ℕ} {index : ℕ} (hk0 : Kept σ ρ s) (h101 : σ.fld p F.HDR.PCTL.EN) (h102 : σ.fld p F.HDR.PSTS.RUN) (h103 : σ.fld p F.HDR.PSTS.CODE) (h104 : σ.fld p F.HDR.PSTS.INDEX) (h105 : σ.fld p F.HDR.PSTS.REFUSED) (h106 : σ.fld p (Fld.mk 12 0 1)) :
    Kept σ ρ (State.refusedEn s p code index) := by
  unfold State.refusedEn
  exact refuse_kept (set_kept (set_kept (hk0) h101) h102) h103 h104 h105 h106

theorem judgePage_kept {σ : Scope} {ρ : State} {s : State} {p : ℕ} {fault : Bool} (hk0 : Kept σ ρ s) (h101 : σ.Full) :
    Kept σ ρ (State.judgePage s p fault) := by
  unfold State.judgePage
  exact Kept.cut (fun k1 => Kept.cut (fun k3 => Kept.ite (refusedEn_kept (k3) (fun _ _ => h101.2 _) (fun _ _ => h101.2 _) (fun _ _ => h101.2 _) (fun _ _ => h101.2 _) (fun _ _ => h101.2 _) (fun _ _ => h101.2 _)) ((by (try dsimp only); split; exacts [accepted_kept (k3) h101, refusedEn_kept (k3) (fun _ _ => h101.2 _) (fun _ _ => h101.2 _) (fun _ _ => h101.2 _) (fun _ _ => h101.2 _) (fun _ _ => h101.2 _) (fun _ _ => h101.2 _)]))) (Kept.ite (set_kept (k1) (fun _ _ => h101.2 _)) (Kept.ite (dupBudget_kept (k1) (fun _ _ => h101.2 _) (fun _ _ => h101.2 _)) (k1)))) (Kept.page (hk0) (h101.1 _))

theorem together_kept {σ : Scope} {ρ : State} {s : State} (hk0 : Kept σ ρ s) (h101 : σ.part .supply = true) (h102 : σ.fld pRESET F.RESET.CORE_RESETS.COUNT) :
    Kept σ ρ (State.together s) := by
  unfold State.together
  exact Kept.cut (fun k1 => Kept.cut (fun k3 => Kept.ite (Kept.supply (set_kept (k3) h102) h101) (k3)) (Kept.ite (cause_kept (k1) h101) (k1))) (Kept.ite (cause_kept (hk0) h101) (hk0))

theorem coreReset_kept {σ : Scope} {ρ : State} {s : State} {b : ℕ} (hk0 : Kept σ ρ s) (h101 : σ.Full) :
    Kept σ ρ (State.coreReset s b) := by
  unfold State.coreReset
  exact Kept.ite (Kept.cut (fun k1 => Kept.ite (slotsKick_kept (corePor_kept (k1) (h101.1 _) (h101.1 _) (h101.1 _) (fun _ _ => h101.2 _) (fun _ _ => h101.2 _) (fun _ _ => h101.2 _) (fun _ _ => h101.2 _) (fun _ _ => h101.2 _) (fun _ _ => h101.2 _) (fun _ _ => h101.2 _) (fun _ _ => h101.2 _) (fun _ _ => h101.2 _) (fun _ _ => h101.2 _) (fun _ _ => h101.2 _)) (h101.1 _) (fun _ _ => h101.2 _)) (k1)) (coreHold_kept (cause_kept (together_kept (hk0) (h101.1 _) (fun _ _ => h101.2 _)) (h101.1 _)) h101)) (hk0)

theorem cmdFire_kept {σ : Scope} {ρ : State} {s : State} (hk0 : Kept σ ρ s) (h101 : σ.Full) :
    Kept σ ρ (State.cmdFire s) := by
  unfold State.cmdFire
  exact (by split; exacts [hk0, coreReset_kept (advance_kept (hk0)) h101])

theorem coreRelease_kept {σ : Scope} {ρ : State} {s : State} (hk0 : Kept σ ρ s) (h101 : σ.part .pwr = true) (h102 : σ.part .datum = true) (h103 : σ.part .supply = true) (h104 : σ.part .slots = true) (h105 : σ.fld pSYS F.SYS.SERIAL.SN) (h106 : σ.fld pSYS F.SYS.STRAP.NID) (h107 : σ.fld pSYS F.SYS.STRAP.ROLE) (h108 : σ.fld pSYS F.SYS.STRAP.BOOT) (h109 : σ.fld pRESET F.RESET.CAUSE.all) (h110 : σ.fld pRESET F.RESET.CORE_RESETS.COUNT) (h111 : σ.fld pSYS F.HDR.PSTS.FAULT) (h112 : σ.fld pSYS (Fld.mk 12 1 1)) (h113 : σ.fld pSYS F.SYS.BOOTSTS.STAGE) (h114 : σ.fld pSYS F.SYS.BOOTSTS.ERR) (h115 : σ.fld pSYS (Fld.mk 12 10 1)) (h116 : ∀ n, σ.page (pSLOT n)) :
    Kept σ ρ (State.coreRelease s) := by
  unfold State.coreRelease
  exact Kept.ite (slotsKick_kept (corePor_kept (hk0) h101 h102 h103 h105 h106 h107 h108 h109 h110 h111 h112 h113 h114 h115) h104 h116) (hk0)

theorem domainDone_kept {σ : Scope} {ρ : State} {s : State} {map : ℕ} (hk0 : Kept σ ρ s) (h101 : σ.Full) :
    Kept σ ρ (State.domainDone s map) := by
  unfold State.domainDone
  exact Kept.foldl (fun x11 a12 k13 => set_kept (k13) (fun _ _ => h101.2 _)) _ _ (Kept.page (Kept.foldl (fun x8 a9 k10 => clrEnd_kept (k10) h101) _ _ (hk0)) (h101.1 _))

theorem faultIn_kept {σ : Scope} {ρ : State} {s : State} {p : ℕ} (hk0 : Kept σ ρ s) (h101 : σ.part .datum = true) (h102 : σ.part .mscl = true) (h103 : σ.part .cycle = true) (h104 : σ.part .sw = true) (h105 : σ.part .plat = true) (h106 : σ.part .stake = true) (h107 : σ.part .engs = true) (h108 : σ.part .pins = true) (h109 : σ.part .edges = true) (h110 : σ.part .book = true) (h111 : σ.part .cans = true) (h112 : σ.part .ports = true) (h113 : σ.part .mem = true) (h114 : σ.part .gang = true) (h115 : σ.part .stamps = true) (h116 : σ.part .bridge = true) (h117 : σ.part .pwr = true) (h118 : σ.part .tally = true) (h119 : ∀ k, σ.reg k = true) :
    Kept σ ρ (State.faultIn s p) := by
  unfold State.faultIn
  exact Kept.ite (Kept.cut (fun k1 => Kept.ite (blockOff_kept (stopRun_kept (faultDeps_kept (k1) h119) (fun _ _ => h119 _) (fun _ _ => h119 _)) h101 h102 h103 h104 h105 h106 h107 h108 h109 h110 h111 h112 h113 h114 h115 h116 h117 h118 (fun _ _ => h119 _) (fun _ => h119 _) (fun _ => h119 _) (fun _ => h119 _) (fun _ => h119 _) (fun _ _ => h119 _) (fun _ => h119 _) (fun _ => h119 _) (fun _ => h119 _) (fun _ => h119 _) (fun _ => h119 _) (fun _ => h119 _) (fun _ => h119 _) (fun _ => h119 _) (fun _ => h119 _) (fun _ => h119 _)) (k1)) (blockFault_kept (hk0) (fun _ _ => h119 _) (fun _ _ => h119 _))) (hk0)

theorem rstHigh_kept {σ : Scope} {ρ : State} {s : State} (hk0 : Kept σ ρ s) (h101 : σ.part .pwr = true) (h102 : σ.part .datum = true) (h103 : σ.part .supply = true) (h104 : σ.part .slots = true) (h105 : σ.fld pSYS F.SYS.SERIAL.SN) (h106 : σ.fld pSYS F.SYS.STRAP.NID) (h107 : σ.fld pSYS F.SYS.STRAP.ROLE) (h108 : σ.fld pSYS F.SYS.STRAP.BOOT) (h109 : σ.fld pRESET F.RESET.CAUSE.all) (h110 : σ.fld pRESET F.RESET.CORE_RESETS.COUNT) (h111 : σ.fld pSYS F.HDR.PSTS.FAULT) (h112 : σ.fld pSYS (Fld.mk 12 1 1)) (h113 : σ.fld pSYS F.SYS.BOOTSTS.STAGE) (h114 : σ.fld pSYS F.SYS.BOOTSTS.ERR) (h115 : σ.fld pSYS (Fld.mk 12 10 1)) (h116 : ∀ n, σ.page (pSLOT n)) (h117 : σ.fld pSUPPLY F.SUPPLY.STS.RF_LATCH) (h118 : σ.fld pSUPPLY F.SUPPLY.STS.SEQ_BUSY) :
    Kept σ ρ (State.rstHigh s) := by
  unfold State.rstHigh
  exact Kept.cut (fun k1 => Kept.ite (coreRelease_kept (k1) h101 h102 h103 h104 h105 h106 h107 h108 h109 h110 h111 h112 h113 h114 h115 h116) (Kept.ite (seqStart_kept (set_kept (k1) h117) h103 h118) (k1))) (Kept.pwr (hk0) h101 rfl)

theorem rstLow_kept {σ : Scope} {ρ : State} {s : State} (hk0 : Kept σ ρ s) (h101 : σ.Full) :
    Kept σ ρ (State.rstLow s) := by
  unfold State.rstLow
  exact Kept.cut (fun k1 => Kept.ite (coreHold_kept (cause_kept (together_kept (k1) (h101.1 _) (fun _ _ => h101.2 _)) (h101.1 _)) h101) (Kept.ite (coreHold_kept (cause_kept (k1) (h101.1 _)) h101) (k1))) (Kept.pwr (hk0) (h101.1 _) rfl)

theorem wdogDelayed_kept {σ : Scope} {ρ : State} {s : State} (hk0 : Kept σ ρ s) (h101 : σ.Full) :
    Kept σ ρ (State.wdogDelayed s) := by
  unfold State.wdogDelayed
  exact (by split; exacts [hk0, coreReset_kept (advance_kept (hk0)) h101])

theorem wdogExpire_kept {σ : Scope} {ρ : State} {s : State} (hk0 : Kept σ ρ s) (h101 : σ.Full) :
    Kept σ ρ (State.wdogExpire s) := by
  unfold State.wdogExpire
  exact (by (try dsimp only); split; exacts [hk0, Kept.cut (fun k7 => Kept.ite (Kept.rst (declareFault_kept (k7) (h101.1 _) (h101.1 _) (h101.1 _) (h101.1 _) (h101.1 _) (h101.1 _) (fun _ => h101.2 _) (fun _ => h101.2 _) (fun _ _ => h101.2 _) (fun _ => h101.2 _) (fun _ _ => h101.2 _) (fun _ => h101.2 _) (fun _ => h101.2 _)) (h101.1 _)) (coreReset_kept (k7) h101)) (Kept.rst (event_kept (advance_kept (hk0)) (fun _ _ => h101.2 _)) (h101.1 _))])

theorem execUndefinedInstruction_kept {σ : Scope} {eng : ℕ} {s : State} (h101 : σ.part .engs = true) (h102 : σ.part .pins = true) (h103 : σ.part .edges = true) (h104 : σ.part .book = true) (h105 : ∀ k, σ.reg k = true) :
    KeptNext σ s (execUndefinedInstruction eng s) := by
  unfold execUndefinedInstruction
  exact KeptNext.next (Kept.ite (faultDeps_kept (undefStep_kept (Kept.refl σ s) h101 h102 h103 h104 (fun _ => h105 _) (fun _ => h105 _) (fun _ _ => h105 _) (fun _ => h105 _)) h105) (Kept.refl σ s))

theorem slotSts_kept {σ : Scope} {ρ : State} {s : State} {n : ℕ} (hk0 : Kept σ ρ s) :
    Kept σ ρ (State.slotSts s n).1 := by
  unfold State.slotSts
  exact Kept.iteFst (Kept.iteFst (hk0) (nextFree_kept (hk0))) (hk0)

theorem readReg_kept {σ : Scope} {ρ : State} {s : State} {p : ℕ} {off : ℕ} (hk0 : Kept σ ρ s) (h101 : σ.fld (pCAN (p - pCAN 0)) F.CAN.RECOV.COUNT) :
    Kept σ ρ (State.readReg s p off).1 := by
  unfold State.readReg
  exact Kept.iteFst (hk0) (Kept.iteFst (nextFree_kept (hk0)) (Kept.iteFst (slotSts_kept (hk0)) (Kept.iteFst (nextFree_kept (set_kept (hk0) h101)) ((by split; exacts [hk0, hk0])))))

theorem feedRead_kept {σ : Scope} {ρ : State} {s : State} {p : ℕ} {off : ℕ} (hk0 : Kept σ ρ s) (h101 : σ.part .ports = true) (h102 : σ.part .mscl = true) (h103 : σ.part .sw = true) (h104 : σ.part .mem = true) (h105 : σ.part .gang = true) (h106 : σ.part .stamps = true) (h107 : σ.part .plat = true) (h108 : σ.page pSYS) (h109 : σ.page pSTAMP) (h110 : σ.page pCAPTURE) (h111 : σ.page (pPORT (portOfPage p))) (h112 : σ.page (pCAN (p - pCAN 0))) :
    Kept σ ρ (State.feedRead s p off).1 := by
  unfold State.feedRead
  exact (by split; exacts [addressError_kept (hk0) h108.fld h108.fld h108.fld h108.fld h108.fld, (by split; exacts [addressError_kept (hk0) h108.fld h108.fld h108.fld h108.fld h108.fld, readReg_kept (linesSent_kept (hk0) h101 h102 h103 h104 h105 h106 h107 h109.fld h109.fld h110.fld h110.fld h110.fld h110.fld h109.fld h109.fld h109.fld h111.fld h111.fld h111.fld) h112.fld])])

theorem llogPop_kept {σ : Scope} {ρ : State} {s : State} (hk0 : Kept σ ρ s) (h101 : σ.part .shadow = true) (h102 : σ.part .result = true) (h103 : σ.part .bridge = true) :
    Kept σ ρ (State.llogPop s) := by
  unfold State.llogPop
  exact (by (try dsimp only); split; exacts [Kept.result (setShadows_kept (hk0) h101) h102, Kept.u_result_bridge (setShadows_kept (hk0) h101) h102 h103 ])

theorem bootGo_kept {σ : Scope} {ρ : State} {s : State} (hk0 : Kept σ ρ s) (h101 : σ.fld pSYS F.SYS.BOOTCTL.GO) :
    Kept σ ρ (State.bootGo s) := by
  unfold State.bootGo
  exact Kept.ite (set_kept (hk0) h101) (hk0)

theorem bootData_kept {σ : Scope} {ρ : State} {s : State} {d : Word} (hk0 : Kept σ ρ s) (h101 : σ.part .boot = true) :
    Kept σ ρ (State.bootData s d) := by
  unfold State.bootData
  exact Kept.ite (Kept.boot (hk0) h101) (hk0)

theorem gclLenWrite_kept {σ : Scope} {ρ : State} {s : State} {n : ℕ} {mask : Word} {data : Word} (hk0 : Kept σ ρ s) (h101 : σ.reg (regKey (pPORT n) 180) = true) (h102 : σ.fld (pPORT n) (Fld.mk 12 14 1)) :
    Kept σ ρ (State.gclLenWrite s n mask data) := by
  unfold State.gclLenWrite
  exact Kept.ite (Kept.cut (fun k1 => Kept.ite (k1) (event_kept (k1) h102)) (wr_kept (hk0) h101)) (wr_kept (hk0) h101)

theorem gclEntryWrite_kept {σ : Scope} {ρ : State} {s : State} {n : ℕ} {off : ℕ} {v : Word} (hk0 : Kept σ ρ s) (h101 : σ.fld (pPORT n) (Fld.mk 12 14 1)) (h102 : σ.reg (regKey (pPORT n) off) = true) :
    Kept σ ρ (State.gclEntryWrite s n off v) := by
  unfold State.gclEntryWrite
  exact Kept.ite (event_kept (hk0) h101) (wr_kept (hk0) h102)

theorem msCtlWrite_kept {σ : Scope} {ρ : State} {s : State} {n : ℕ} {mask : Word} {data : Word} (hk0 : Kept σ ρ s) (h101 : σ.part .sw = true) (h102 : σ.reg (regKey pMACSEC ((msf F.MACSEC.CTL.TX_AN n).off)) = true) (h103 : σ.fld pMACSEC (msf F.MACSEC.CTL.TX_AN n)) (h104 : σ.fld pMACSEC (msf F.MACSEC.TX_PN.PN n)) :
    Kept σ ρ (State.msCtlWrite s n mask data) := by
  unfold State.msCtlWrite
  exact Kept.cut (fun k1 => Kept.ite (k1) (Kept.ite (txAnWrite_kept (k1) h101) (txAnApply_kept (txAnWrite_kept (k1) h101) h101 h103 h104))) (wr_kept (hk0) h102)

theorem saFail_kept {σ : Scope} {ρ : State} {s : State} {n : ℕ} {a : ℕ} {err : ℕ} (hk0 : Kept σ ρ s) (h101 : σ.fld pMACSEC (saf F.MACSEC.SA_KEY.ERR n a)) (h102 : σ.fld pMACSEC (Fld.mk 12 10 1)) :
    Kept σ ρ (State.saFail s n a err) := by
  unfold State.saFail
  exact event_kept (set_kept (hk0) h101) h102

theorem saAsk_kept {σ : Scope} {ρ : State} {s : State} {n : ℕ} {a : ℕ} {handle : ℕ} (hk0 : Kept σ ρ s) (h101 : σ.part .sw = true) (h102 : σ.fld pMACSEC (saf F.MACSEC.SA_KEY.ERR n a)) (h103 : σ.fld pMACSEC (Fld.mk 12 10 1)) (h104 : σ.fld pMACSEC (saf F.MACSEC.SA_KEY.HANDLE n a)) (h105 : σ.fld pMACSEC (saf F.MACSEC.SA_KEY.VALID n a)) :
    Kept σ ρ (State.saAsk s n a handle) := by
  unfold State.saAsk
  exact Kept.ite (saFail_kept (hk0) h102 h103) (Kept.sw (setSa_kept (set_kept (set_kept (hk0) h104) h105) h101) h101)

theorem saDone_kept {σ : Scope} {ρ : State} {s : State} {n : ℕ} {a : ℕ} (hk0 : Kept σ ρ s) (h101 : σ.part .sw = true) (h102 : σ.fld pMACSEC (saf F.MACSEC.SA_KEY.VALID n a)) (h103 : σ.fld pMACSEC (saf F.MACSEC.SA_KEY.ERR n a)) (h104 : σ.fld pMACSEC (Fld.mk 12 10 1)) :
    Kept σ ρ (State.saDone s n a) := by
  unfold State.saDone
  exact (by (try dsimp only); split; exacts [hk0, Kept.cut (fun k1 => Kept.ite (set_kept (set_kept (setSa_kept (k1) h101) h102) h103) (saFail_kept (k1) h103 h104)) (Kept.sw (hk0) h101)])

theorem execLlogPop_kept {σ : Scope} {clk : ℕ} {s : State} (h101 : σ.part .shadow = true) (h102 : σ.part .result = true) (h103 : σ.part .bridge = true) :
    KeptNext σ s (execLlogPop clk s) := by
  unfold execLlogPop
  exact KeptNext.next (whenOn_kept (advance_kept (Kept.refl σ s)) (fun x0 k1 => llogPop_kept (k1) h101 h102 h103))

theorem execMacsecSaInstall_kept {σ : Scope} {clk : ℕ} {port : ℕ} {sa : ℕ} {handle : ℕ} {s : State} (h101 : σ.part .sw = true) (h102 : σ.part .page = true) (h103 : σ.fld pMACSEC (saf F.MACSEC.SA_KEY.ERR port sa)) (h104 : σ.fld pMACSEC (Fld.mk 12 10 1)) (h105 : σ.fld pMACSEC (saf F.MACSEC.SA_KEY.HANDLE port sa)) (h106 : σ.fld pMACSEC (saf F.MACSEC.SA_KEY.VALID port sa)) (h107 : σ.fld pSYS (Fld.mk 12 11 1)) (h108 : σ.fld pMACSEC F.HDR.PSTS.CODE) (h109 : σ.fld pMACSEC F.HDR.PSTS.INDEX) (h110 : σ.fld pMACSEC F.HDR.PSTS.REFUSED) (h111 : σ.fld pMACSEC (Fld.mk 12 0 1)) :
    KeptNext σ s (execMacsecSaInstall clk port sa handle s) := by
  unfold execMacsecSaInstall
  exact KeptNext.next (Kept.ite (fldWrite_kept (advance_kept (Kept.refl σ s)) (fun x0 k1 => saAsk_kept (k1) h101 h103 h104 h105 h106) h102 h107 h108 h109 h110 h111) (advance_kept (Kept.refl σ s)))

theorem execMacsecSaInstallDone_kept {σ : Scope} {clk : ℕ} {port : ℕ} {sa : ℕ} {s : State} (h101 : σ.part .sw = true) (h102 : σ.fld pMACSEC (saf F.MACSEC.SA_KEY.VALID port sa)) (h103 : σ.fld pMACSEC (saf F.MACSEC.SA_KEY.ERR port sa)) (h104 : σ.fld pMACSEC (Fld.mk 12 10 1)) :
    KeptNext σ s (execMacsecSaInstallDone clk port sa s) := by
  unfold execMacsecSaInstallDone
  exact KeptNext.next (saDone_kept (advance_kept (Kept.refl σ s)) h101 h102 h103 h104)

end Sys2Proof.Laws
end

