-- ==== Sys2Proof/Laws/Kept12.lean ====
section
/-!
SUPPORT. What the operations and commands of these files keep: Machine/Freeze, Machine/Bus, Machine/Access, Machine/Boot.
-/

namespace Sys2Proof.Laws

open Sys2Proof Sys2Proof.Machine

theorem boundary_kept {σ : Scope} {ρ : State} {s : State} (hk0 : Kept σ ρ s) (h101 : σ.part .cycle = true) (h102 : σ.part .plat = true) (h103 : σ.part .mem = true) (h104 : σ.part .sw = true) (h105 : σ.part .dup = true) (h106 : σ.page pCYCLE) (h107 : σ.page pPLAT) (h108 : σ.page pGANGCTL) (h109 : σ.page pSWITCH) (h110 : ∀ n, σ.page (pPORT n)) (h111 : σ.page pCAPTURE) (h112 : σ.page pBUFMEM) (h113 : σ.page pDUPLEX) :
    Kept σ ρ (State.boundary s) := by
  unfold State.boundary
  exact Kept.ite (transitCheck_kept (dupBoundary_kept (gangBoundary_kept (actBoundary_kept (advanceT_kept (hk0)) h101 h102 h103 h106.fld h106.fld h107) h104 h103 h108.fld h108.fld h108.fld h109.fld h109.fld h110 h111.fld h111.fld h111.fld h111.fld h112.fld h109.fld h109.fld) h105 h113.fld) h106.fld) (hk0)

theorem regFeed_kept {σ : Scope} {ρ s : State} {a n : Nat} (h : Kept σ ρ s)
    (h1 : σ.part .ports = true) (h2 : σ.part .mscl = true) (h3 : σ.part .sw = true)
    (h4 : σ.part .mem = true) (h5 : σ.part .gang = true) (h6 : σ.part .stamps = true) (h7 : σ.part .plat = true)
    (ha : σ.page pSYS) (hs : σ.page pSTAMP) (hk : σ.page pCAPTURE) (hp : ∀ n, σ.page (pPORT n)) (hc : ∀ n, σ.page (pCAN n)) : Kept σ ρ (s.regFeed a n).1 := by
  induction n generalizing s a with
  | zero => exact h
  | succ n ih => exact ih (feedRead_kept h h1 h2 h3 h4 h5 h6 h7 ha hs hk (hp _) (hc _))

theorem feedBytes_kept {σ : Scope} {ρ : State} {s : State} {n : ℕ} (hk0 : Kept σ ρ s) (h101 : σ.part .ports = true) (h102 : σ.part .mscl = true) (h103 : σ.part .sw = true) (h104 : σ.part .mem = true) (h105 : σ.part .gang = true) (h106 : σ.part .stamps = true) (h107 : σ.part .plat = true) (h108 : σ.page pSYS) (h109 : σ.page pSTAMP) (h110 : σ.page pCAPTURE) (h111 : ∀ n, σ.page (pPORT n)) (h112 : ∀ n, σ.page (pCAN n)) :
    Kept σ ρ (State.feedBytes s n).1 := by
  unfold State.feedBytes
  exact (by (try dsimp only); split; exacts [Kept.iteFst (regFeed_kept (hk0) h101 h102 h103 h104 h105 h106 h107 h108 h109 h110 h111 h112) (hk0), hk0, hk0, hk0, hk0])

theorem feedRx_kept {σ : Scope} {ρ : State} {s0 : State} {m : ℕ} {feeds : List (ℕ × List Byte)} (hk0 : Kept σ ρ s0) (h101 : σ.part .dup = true) (h102 : σ.part .gang = true) (h103 : σ.part .plat = true) (h104 : σ.part .mem = true) :
    Kept σ ρ (State.feedRx s0 m feeds) := by
  unfold State.feedRx
  exact Kept.cut (fun k1 => Kept.cut (fun k3 => Kept.ite (k3) (Kept.ite (Kept.plat (k3) h103) (Kept.ite (Kept.foldl (fun x4 a5 k6 => stBytes_kept (k6) h104) _ _ (k3)) (k3)))) (Kept.ite (actNote_kept (k1) h102) (k1))) (Kept.ite (gangSign_kept (hk0) h101) (hk0))

theorem feedsTaken_kept {σ : Scope} {ρ : State} {s : State} (hk0 : Kept σ ρ s) (h101 : σ.part .engs = true) (h102 : σ.part .edges = true) (h103 : σ.part .pins = true) (h104 : σ.part .cans = true) :
    Kept σ ρ (State.feedsTaken s) := by
  unfold State.feedsTaken
  exact Kept.foldl (fun x45 a46 k47 => Kept.foldl (fun x48 a49 k50 => Kept.ite (k50) (setFeed_kept (k50) h104)) _ _ (k47)) _ _ (Kept.foldl (fun x42 a43 k44 => edgeTaken_kept (k44) h102 h103) _ _ (Kept.foldl (fun x39 a40 k41 => Kept.ite (k41) (setEng_kept (k41) h101)) _ _ (hk0)))

theorem fillParcel_kept {σ : Scope} {ρ : State} {s : State} {n : ℕ} {feeds : List (ℕ × List Byte)} (hk0 : Kept σ ρ s) (h101 : σ.part .mem = true) :
    Kept σ ρ (State.fillParcel s n feeds) := by
  unfold State.fillParcel
  exact stBytes_kept (Kept.foldl (fun x15 a16 k17 => stBytes_kept (k17) h101) _ _ (stBytes_kept (hk0) h101)) h101

theorem sampleFeeds_kept {σ : Scope} {ρ s : State} {l : List Nat} (h : Kept σ ρ s)
    (h1 : σ.part .ports = true) (h2 : σ.part .mscl = true) (h3 : σ.part .sw = true)
    (h4 : σ.part .mem = true) (h5 : σ.part .gang = true) (h6 : σ.part .stamps = true) (h7 : σ.part .plat = true)
    (ha : σ.page pSYS) (hs : σ.page pSTAMP) (hk : σ.page pCAPTURE) (hp : ∀ n, σ.page (pPORT n)) (hc : ∀ n, σ.page (pCAN n)) : Kept σ ρ (s.sampleFeeds l).1 := by
  induction l generalizing s with
  | nil => exact h
  | cons n t ih => exact ih (feedBytes_kept h h1 h2 h3 h4 h5 h6 h7 ha hs hk hp hc)

theorem ownOver_kept {σ : Scope} {ρ : State} {s : State} (hk0 : Kept σ ρ s) (h101 : σ.part .plat = true) (h102 : σ.fld pPLAT F.PLAT.VIEWDROP.COUNT) (h103 : σ.fld pPLAT (Fld.mk 12 12 1)) (h104 : σ.fld pPLAT F.PLAT.INCOMPLETE.COUNT) :
    Kept σ ρ (State.ownOver s) := by
  unfold State.ownOver
  exact Kept.ite (setRx_kept (platDrop_kept (hk0) h102 h103) h101) (Kept.ite (setRx_kept (platDrop_kept (hk0) h104 h103) h101) (hk0))

theorem freeze_kept {σ : Scope} {ρ : State} {s0 : State} (hk0 : Kept σ ρ s0) (h101 : σ.part .cycle = true) (h102 : σ.part .sw = true) (h103 : σ.part .plat = true) (h104 : σ.part .ports = true) (h105 : σ.part .mscl = true) (h106 : σ.part .mem = true) (h107 : σ.part .gang = true) (h108 : σ.part .stamps = true) (h109 : σ.part .engs = true) (h110 : σ.part .edges = true) (h111 : σ.part .pins = true) (h112 : σ.part .cans = true) (h113 : σ.fld pPLAT F.HDR.PSTS.HELD) (h114 : σ.fld pPLAT F.PLAT.SLOTMISS.COUNT) (h115 : σ.fld pPLAT (Fld.mk 12 11 1)) (h116 : σ.page pSYS) (h117 : σ.page pSTAMP) (h118 : σ.page pCAPTURE) (h119 : ∀ n, σ.page (pPORT n)) (h120 : ∀ n, σ.page (pCAN n)) (h121 : σ.fld pSWITCH F.SWITCH.BUF_DROP.COUNT) (h122 : σ.fld pSWITCH (Fld.mk 12 9 1)) (h123 : σ.fld pBUFMEM (Fld.mk 12 13 1)) (h124 : σ.fld pSWITCH F.SWITCH.NOPATH.COUNT) (h125 : σ.fld pSWITCH (Fld.mk 12 11 1)) (h126 : σ.fld pPLAT F.PLAT.VIEWDROP.COUNT) (h127 : σ.fld pPLAT (Fld.mk 12 12 1)) (h128 : σ.fld pPLAT F.PLAT.INCOMPLETE.COUNT) :
    Kept σ ρ (State.freeze s0) := by
  unfold State.freeze
  exact Kept.ite (hk0) (Kept.cut (fun k1 => Kept.ite (k1) (Kept.ite (Kept.ite (set_kept (k1) h113) (k1)) (Kept.cut (fun k39 => Kept.cut (fun k41 => Kept.ite (k41) (Kept.cut (fun k47 => Kept.ite (Kept.plat (k47) h103) (k47)) (Kept.plat (fillParcel_kept (ownOver_kept (k41) h103 h126 h127 h128) h106) h103))) (Kept.ite (sendGang_kept (k39) h102 h106 h121 h122 h119 h118.fld h118.fld h118.fld h118.fld h123 h124 h125) (k39))) (Kept.plat (feedsTaken_kept (sampleFeeds_kept (Kept.ite (slotMiss_kept (dropOwn_kept (k1) h102 h103) h114 h115) (k1)) h104 h105 h102 h106 h107 h108 h103 h116 h117 h118 h119 h120) h109 h110 h111 h112) h103)))) (evNow_kept (hk0) h101))

theorem execCycleBoundary_kept {σ : Scope} {s : State} (h101 : σ.part .cycle = true) (h102 : σ.part .plat = true) (h103 : σ.part .mem = true) (h104 : σ.part .sw = true) (h105 : σ.part .dup = true) (h106 : σ.page pCYCLE) (h107 : σ.page pPLAT) (h108 : σ.page pGANGCTL) (h109 : σ.page pSWITCH) (h110 : ∀ n, σ.page (pPORT n)) (h111 : σ.page pCAPTURE) (h112 : σ.page pBUFMEM) (h113 : σ.page pDUPLEX) :
    KeptNext σ s (execCycleBoundary s) := by
  unfold execCycleBoundary
  exact KeptNext.next (boundary_kept (Kept.refl σ s) h101 h102 h103 h104 h105 h106 h107 h108 h109 h110 h111 h112 h113)

theorem execGangFeedRx_kept {σ : Scope} {clk : ℕ} {member : ℕ} {feeds : List (ℕ × List Byte)} {s : State} (h101 : σ.part .dup = true) (h102 : σ.part .gang = true) (h103 : σ.part .plat = true) (h104 : σ.part .mem = true) :
    KeptNext σ s (execGangFeedRx clk member feeds s) := by
  unfold execGangFeedRx
  exact KeptNext.next (feedRx_kept (advance_kept (Kept.refl σ s)) h101 h102 h103 h104)

theorem execPlatFreeze_kept {σ : Scope} {s : State} (h101 : σ.part .cycle = true) (h102 : σ.part .sw = true) (h103 : σ.part .plat = true) (h104 : σ.part .ports = true) (h105 : σ.part .mscl = true) (h106 : σ.part .mem = true) (h107 : σ.part .gang = true) (h108 : σ.part .stamps = true) (h109 : σ.part .engs = true) (h110 : σ.part .edges = true) (h111 : σ.part .pins = true) (h112 : σ.part .cans = true) (h113 : σ.fld pPLAT F.HDR.PSTS.HELD) (h114 : σ.fld pPLAT F.PLAT.SLOTMISS.COUNT) (h115 : σ.fld pPLAT (Fld.mk 12 11 1)) (h116 : σ.page pSYS) (h117 : σ.page pSTAMP) (h118 : σ.page pCAPTURE) (h119 : ∀ n, σ.page (pPORT n)) (h120 : ∀ n, σ.page (pCAN n)) (h121 : σ.fld pSWITCH F.SWITCH.BUF_DROP.COUNT) (h122 : σ.fld pSWITCH (Fld.mk 12 9 1)) (h123 : σ.fld pBUFMEM (Fld.mk 12 13 1)) (h124 : σ.fld pSWITCH F.SWITCH.NOPATH.COUNT) (h125 : σ.fld pSWITCH (Fld.mk 12 11 1)) (h126 : σ.fld pPLAT F.PLAT.VIEWDROP.COUNT) (h127 : σ.fld pPLAT (Fld.mk 12 12 1)) (h128 : σ.fld pPLAT F.PLAT.INCOMPLETE.COUNT) :
    KeptNext σ s (execPlatFreeze s) := by
  unfold execPlatFreeze
  exact KeptNext.next (freeze_kept (Kept.refl σ s) h101 h102 h103 h104 h105 h106 h107 h108 h109 h110 h111 h112 h113 h114 h115 h116 h117 h118 h119 h120 h121 h122 h123 h124 h125 h126 h127 h128)

theorem shadowUpper_kept {σ : Scope} {ρ : State} {s : State} {p : ℕ} {off : ℕ} {wn : ℕ} (hk0 : Kept σ ρ s) (h101 : σ.part .shadow = true) :
    Kept σ ρ (State.shadowUpper s p off wn) := by
  unfold State.shadowUpper
  exact Kept.foldl (fun x0 a1 k2 => setShadow_kept (k2) h101) _ _ (hk0)

theorem readPlain_kept {σ : Scope} {ρ : State} {s : State} {p : ℕ} {off : ℕ} {r : RegRow} (hk0 : Kept σ ρ s) (h101 : σ.part .result = true) (h102 : σ.part .shadow = true) (h103 : σ.fld (pCAN (p - pCAN 0)) F.CAN.RECOV.COUNT) :
    Kept σ ρ (State.readPlain s p off r) := by
  unfold State.readPlain
  exact Kept.ite (Kept.result (hk0) h101) (Kept.ite (Kept.result (hk0) h101) (Kept.result (shadowUpper_kept (readReg_kept (hk0) h103) h102) h101))

theorem readTake_kept {σ : Scope} {ρ : State} {s : State} {fam : Fam} {p : ℕ} {off : ℕ} {r : RegRow} (hk0 : Kept σ ρ s) (h101 : σ.part .shadow = true) (h102 : σ.part .result = true) (h103 : σ.part .stamps = true) (h104 : σ.part .stake = true) (h105 : σ.part .engs = true) (h106 : σ.part .bridge = true) (h107 : σ.fld pSTAMP F.STAMP.TXQOVF.COUNT) (h108 : σ.fld pSTAMP (Fld.mk 12 9 1)) (h109 : σ.fld (pCAN (p - pCAN 0)) F.CAN.RECOV.COUNT) (h110 : σ.fld pCAL F.CAL.ADDR.WORD) :
    Kept σ ρ (State.readTake s fam p off r) := by
  unfold State.readTake
  exact (by split; exacts [Kept.ite (txqPop_kept (hk0) h101 h102 h103 h107 h108) (readPlain_kept (hk0) h102 h101 h109), Kept.ite (rcptPop_kept (hk0) h101 h102 h104) (readPlain_kept (hk0) h102 h101 h109), Kept.ite (rxfPop_kept (hk0) h102 h105) (readPlain_kept (hk0) h102 h101 h109), Kept.ite (llogPop_kept (hk0) h101 h102 h106) (readPlain_kept (hk0) h102 h101 h109), Kept.ite (calNext_kept (Kept.result (hk0) h102) h110) (readPlain_kept (hk0) h102 h101 h109), readPlain_kept (hk0) h102 h101 h109])

theorem pageNow_kept {σ : Scope} {ρ : State} {s : State} {fam : Fam} {p : ℕ} (hk0 : Kept σ ρ s) (h101 : σ.part .engs = true) (h102 : σ.part .book = true) (h103 : σ.part .ports = true) (h104 : σ.part .mscl = true) (h105 : σ.part .sw = true) (h106 : σ.part .mem = true) (h107 : σ.part .gang = true) (h108 : σ.part .stamps = true) (h109 : σ.part .plat = true) (h110 : σ.part .tally = true) (h111 : σ.part .dup = true) (h112 : σ.part .pwr = true) (h113 : σ.part .bridge = true) (h114 : σ.page (pENG (p - 32))) (h115 : σ.page pBOOK) (h116 : σ.page pDATUM) (h117 : σ.page pHSR) (h118 : σ.page pSWITCH) (h119 : σ.page pSTAMP) (h120 : σ.page pCAPTURE) (h121 : ∀ n, σ.page (pPORT n)) (h122 : σ.page pBUFMEM) (h123 : σ.page pMACSEC) (h124 : σ.page pDUPLEX) (h125 : σ.page pSYS) (h126 : σ.page pBRIDGE) (h127 : σ.page pFDB) :
    Kept σ ρ (State.pageNow s fam p) := by
  unfold State.pageNow
  exact (by split; exacts [txSettle_kept (hk0) h101 h114.fld h114.fld, syncDrains_kept (hk0) h102 h115.fld h115.fld h115.fld h115.fld h115.fld h115.fld, linesNow_kept (hk0) h103 h104 h105 h106 h107 h108 h109 h110 h111 h112 h113 h116.fld h116.fld h117 h118 h119 h120 h121 h122 h123 h124.fld h125 h126 h127])

theorem busRead_kept {σ : Scope} {ρ : State} {s : State} {p : ℕ} {off : ℕ} {src : Source} (hk0 : Kept σ ρ s) (h101 : σ.part .result = true) (h102 : σ.part .engs = true) (h103 : σ.part .book = true) (h104 : σ.part .ports = true) (h105 : σ.part .mscl = true) (h106 : σ.part .sw = true) (h107 : σ.part .mem = true) (h108 : σ.part .gang = true) (h109 : σ.part .stamps = true) (h110 : σ.part .plat = true) (h111 : σ.part .tally = true) (h112 : σ.part .dup = true) (h113 : σ.part .pwr = true) (h114 : σ.part .bridge = true) (h115 : σ.part .shadow = true) (h116 : σ.part .stake = true) (h117 : σ.page (pENG (p - 32))) (h118 : σ.page pBOOK) (h119 : σ.page pDATUM) (h120 : σ.page pHSR) (h121 : σ.page pSWITCH) (h122 : σ.page pSTAMP) (h123 : σ.page pCAPTURE) (h124 : ∀ n, σ.page (pPORT n)) (h125 : σ.page pBUFMEM) (h126 : σ.page pMACSEC) (h127 : σ.page pDUPLEX) (h128 : σ.page pSYS) (h129 : σ.page pBRIDGE) (h130 : σ.page pFDB) (h131 : σ.fld (pCAN (p - pCAN 0)) F.CAN.RECOV.COUNT) (h132 : σ.fld pCAL F.CAL.ADDR.WORD) :
    Kept σ ρ (State.busRead s p off src) := by
  unfold State.busRead
  exact Kept.ite (hk0) ((by (try dsimp only); split; exacts [Kept.result (addressError_kept (hk0) h128.fld h128.fld h128.fld h128.fld h128.fld) h101, (by split; exacts [Kept.result (addressError_kept (hk0) h128.fld h128.fld h128.fld h128.fld h128.fld) h101, readTake_kept (pageNow_kept (hk0) h102 h103 h104 h105 h106 h107 h108 h109 h110 h111 h112 h113 h114 h117 h118 h119 h120 h121 h122 h123 h124 h125 h126 h127 h128 h129 h130) h115 h101 h109 h116 h102 h114 h122.fld h122.fld h131 h132])]))

theorem msixWrite_kept {σ : Scope} {ρ : State} {s : State} {off : ℕ} {d : Word} (hk0 : Kept σ ρ s) (h101 : σ.part .bridge = true) :
    Kept σ ρ (State.msixWrite s off d) := by
  unfold State.msixWrite
  exact (by (try dsimp only); split; exacts [hk0, (by split; exacts [Kept.bridge (hk0) h101, Kept.bridge (hk0) h101, Kept.bridge (hk0) h101, Kept.ite (Kept.bridge (hk0) h101) (unmask_kept (hk0) h101)])])

theorem latchPut_kept {σ : Scope} {ρ : State} {s : State} {p : ℕ} {off : ℕ} {mask : Word} {data : Word} (hk0 : Kept σ ρ s) (h101 : σ.part .latch = true) :
    Kept σ ρ (State.latchPut s p off mask data) := by
  unfold State.latchPut
  exact Kept.latch (hk0) h101

theorem storeReg_kept {σ : Scope} {ρ : State} {s : State} {p : ℕ} {off : ℕ} {r : RegRow} {mask : Word} {data : Word} (hk0 : Kept σ ρ s) (h101 : σ.part .latch = true) (h102 : σ.page p) :
    Kept σ ρ (State.storeReg s p off r mask data) := by
  unfold State.storeReg
  exact Kept.ite (Kept.ite (hk0) (latchPut_kept (hk0) h101)) (Kept.cut (fun k1 => Kept.ite (k1) (Kept.foldl (fun x2 a3 k4 => wr_kept (k4) (h102 _)) _ _ (k1))) (wr_kept (hk0) (h102 _)))

theorem effBase_kept {σ : Scope} {ρ : State} {s : State} {g : State} {fam : Fam} {p : ℕ} {off : ℕ} {mask : Word} {d : Word} {v : Word} (hk0 : Kept σ ρ s) (hk1 : Kept σ ρ g) (h101 : σ.Full) :
    Kept σ ρ (State.effBase s g fam p off mask d v) := by
  unfold State.effBase
  exact (by split; exacts [Kept.ite (Kept.ite (bootGo_kept (hk1) (fun _ _ => h101.2 _)) (hk1)) (Kept.ite (bootData_kept (hk0) (h101.1 _)) (Kept.ite (Kept.ite (aerrClear_kept (hk1) (fun _ _ => h101.2 _) (fun _ _ => h101.2 _) (fun _ _ => h101.2 _) (fun _ _ => h101.2 _)) (hk1)) (Kept.ite (Kept.ite (hk1) (pstateReq_kept (hk1) h101)) (hk1)))), Kept.ite (cmdWrite_kept (hk0) (h101.1 _)) (Kept.ite (domainReset_kept (hk1) (h101.1 _) (h101.1 _) (h101.1 _) (h101.1 _) (h101.1 _) (h101.1 _) (h101.1 _) (h101.1 _) (h101.1 _) (h101.1 _) (h101.1 _) (h101.1 _) (h101.1 _) (h101.1 _) (h101.1 _) (h101.1 _) (h101.1 _) (h101.1 _) (h101.1 _) h101.2) (Kept.ite (wdogWrite_kept (hk1) (h101.1 _) (h101.2 _) (fun _ _ => h101.2 _)) (Kept.ite (wdogKick_kept (hk0) (h101.1 _)) (hk1)))), Kept.ite (rearmIrq_kept (hk0) (h101.1 _) (h101.1 _) (h101.1 _) (h101.1 _) (fun _ _ => h101.2 _) (fun _ _ => h101.2 _) (fun _ _ => h101.2 _) (fun _ _ => h101.2 _) (fun _ _ => h101.2 _) (fun _ _ => h101.2 _) (fun _ _ => h101.2 _) (fun _ _ => h101.2 _) (fun _ _ => h101.2 _) (fun _ _ => h101.2 _) (fun _ _ => h101.2 _) (fun _ _ => h101.2 _) (fun _ _ => h101.2 _)) (Kept.ite (irqEdges_kept (hk1) (h101.1 _) (h101.1 _) (h101.1 _) (h101.1 _) (fun _ _ => h101.2 _) (fun _ _ => h101.2 _) (fun _ _ => h101.2 _) (fun _ _ => h101.2 _) (fun _ _ => h101.2 _) (fun _ _ => h101.2 _) (fun _ _ => h101.2 _) (fun _ _ => h101.2 _) (fun _ _ => h101.2 _) (fun _ _ => h101.2 _) (fun _ _ => h101.2 _) (fun _ _ => h101.2 _) (fun _ _ => h101.2 _)) (hk1)), hk1])

theorem effTime_kept {σ : Scope} {ρ : State} {s : State} {g : State} {fam : Fam} {p : ℕ} {off : ℕ} {mask : Word} {d : Word} {v : Word} {src : Source} (hk0 : Kept σ ρ s) (hk1 : Kept σ ρ g) (h101 : σ.part .book = true) (h102 : σ.part .datum = true) (h103 : σ.part .ports = true) (h104 : σ.part .latch = true) (h105 : σ.part .mscl = true) (h106 : σ.part .cycle = true) (h107 : σ.part .plat = true) (h108 : σ.part .mem = true) (h109 : σ.part .cans = true) (h110 : σ.part .stamps = true) (h111 : σ.part .sw = true) (h112 : σ.part .dup = true) (h113 : σ.part .stake = true) (h114 : ∀ n, σ.page (pEDGE n)) (h115 : σ.page pDATUM) (h116 : σ.page pBOOK) (h117 : σ.page pCYCLE) (h118 : σ.page pPLAT) (h119 : ∀ n, σ.page (pCAN n)) (h120 : σ.page pSTAMP) (h121 : σ.page pMSCL) (h122 : σ.page pSYS) (h123 : ∀ n, σ.page (pPORT n)) (h124 : σ.page pSTAKE) (h125 : σ.page pSWITCH) (h126 : σ.page pCAPTURE) (h127 : σ.page pBUFMEM) (h128 : σ.page pHSR) :
    Kept σ ρ (State.effTime s g fam p off mask d v src) := by
  unfold State.effTime
  exact (by (try dsimp only); split; exacts [Kept.ite (Kept.cut (fun k1 => Kept.ite (holdReq_kept (k1) h101 h115.fld h115.fld h115.fld h116.fld h116.fld h116.fld (h114 _).fld (h114 _).fld h116.fld h116.fld) (k1)) (Kept.ite (resume_kept (hk1) h101 h115.fld h115.fld h116.fld h116.fld h116.fld (h114 _).fld (h114 _).fld h116.fld h116.fld) (hk1))) (Kept.ite (incWrite_kept (hk0) h102 h103 h115.fld h115.fld h115.fld) (Kept.ite (latchPut_kept (hk0) h104) (Kept.ite (stepWrite_kept (hk0) h101 h102 h103 h105 h106 h107 h108 h109 h114 h115 h116 h117 h118 h119) (Kept.ite (stepUnlock_kept (hk0) h102) (hk1))))), Kept.ite (Kept.ite (Kept.stamps (hk1) h110) (hk1)) (Kept.ite (corrKeep_kept (hk1) h103) (Kept.ite (pdelayWrite_kept (hk0) h105 h120.fld h121.fld h121.fld h121.fld) (hk1))), Kept.ite (cycleRejoin_kept (hk1) h117.fld h117.fld h117.fld h117.fld h117.fld h117.fld h117.fld) (hk1), Kept.ite (latchPut_kept (hk0) h104) (Kept.ite (stakeIssue_kept (hk0) h111 h108 h101 h112 h113 h122.fld h122.fld h122.fld h122.fld h122.fld h123 h124 h116 h125 h126 h127 h128 h114) (Kept.ite (stakeCancelWrite_kept (hk0) h113 h101 h111 h108 h112 h124 h116 h114 h125 h123 h126 h127 h128) (hk1))), hk1])

theorem effPins_kept {σ : Scope} {ρ : State} {s : State} {g : State} {fam : Fam} {i : ℕ} {p : ℕ} {off : ℕ} {mask : Word} {d : Word} {v : Word} (hk0 : Kept σ ρ s) (hk1 : Kept σ ρ g) (h101 : σ.part .crews = true) (h102 : σ.part .engs = true) (h103 : σ.part .pins = true) (h104 : σ.part .edges = true) (h105 : σ.part .book = true) (h106 : σ.part .cans = true) (h107 : σ.page (pCREW i)) (h108 : ∀ n, σ.page (pENG n)) (h109 : σ.page (pPINMUX i)) (h110 : σ.page pBOOK) (h111 : ∀ n, σ.page (pEDGE n)) (h112 : σ.page (pCAN i)) (h113 : σ.page p) :
    Kept σ ρ (State.effPins s g fam i p off mask d v) := by
  unfold State.effPins
  exact (by (try dsimp only); split; exacts [Kept.ite (Kept.cut (fun k1 => Kept.ite (swapGo_kept (k1) h101 h107.fld h107.fld h107.fld h107.fld h107.fld h107.fld h107.fld h107.fld h107.fld h107.fld) (k1)) (Kept.ite (abortAsk_kept (hk1) h101) (hk1))) (Kept.ite (goEng_kept (hk0) h102 h108) (Kept.ite (flagClear_kept (hk0) h101) (Kept.ite (flagSet_kept (hk0) h101) (Kept.ite (imemWrite_kept (hk0) h107.fld h107.fld (h107 _)) (hk1))))), Kept.ite (engRegWrite_kept (hk0) h102) (Kept.ite (Kept.ite (hk1) (engJump_kept (hk0) h102)) (Kept.ite (Kept.ite (engSnap_kept (hk1) h102) (hk1)) (Kept.ite (txfWrite_kept (hk0) h102 (h108 _).fld (h108 _).fld) (hk1)))), Kept.ite (swWrite_kept (hk0) h103 h104 h105 (h109 _) h110.fld h110.fld h110.fld h111 h110.fld h110.fld) (Kept.ite (pinCfgWrite_kept (hk1) h103 h104 h105 h110.fld h110.fld h110.fld h111 h110.fld h110.fld) (hk1)), Kept.ite (canReqWrite_kept (hk1) h106 h112) (Kept.ite (canAbortWrite_kept (hk1) h106 h112) (Kept.ite (Kept.ite (hk1) (canAck_kept (hk0) h106 h112)) (Kept.ite (Kept.ite (bump_kept (hk0) h113.fld) (canWrote_kept (hk1) h106)) (hk1)))), hk1])

theorem effNet_kept {σ : Scope} {ρ : State} {s : State} {g : State} {fam : Fam} {p : ℕ} {off : ℕ} {mask : Word} {d : Word} {v : Word} (hk0 : Kept σ ρ s) (hk1 : Kept σ ρ g) (h101 : σ.part .ports = true) (h102 : σ.part .mscl = true) (h103 : σ.part .sw = true) (h104 : σ.part .mem = true) (h105 : σ.part .gang = true) (h106 : σ.part .stamps = true) (h107 : σ.part .plat = true) (h108 : σ.part .bridge = true) (h109 : σ.page pSTAMP) (h110 : σ.page pCAPTURE) (h111 : ∀ n, σ.page (pPORT n)) (h112 : σ.page pFDB) (h113 : σ.page pBUFMEM) (h114 : σ.page pMACSEC) (h115 : σ.page pBRIDGE) :
    Kept σ ρ (State.effNet s g fam p off mask d v) := by
  unfold State.effNet
  exact (by (try dsimp only); split; exacts [Kept.ite (Kept.ite (snapWrite_kept (hk1) h101 h102 h103 h104 h105 h106 h107 h109.fld h109.fld h110.fld h110.fld h110.fld h110.fld h109.fld h109.fld h109.fld h111) (hk1)) (Kept.ite (Kept.ite (gclSwapAsk_kept (hk1) h101 (h111 _).fld (h111 _).fld (h111 _).fld (h111 _).fld (h111 _).fld) (hk1)) (Kept.ite (gclLenWrite_kept (hk0) (h111 _ _) (h111 _).fld) (Kept.ite (gclEntryWrite_kept (hk0) (h111 _).fld (h111 _ _)) (hk1)))), Kept.ite (fdbCmd_kept (hk1) h103 h112.fld h112.fld h112.fld h112.fld h112.fld h112.fld h112.fld h112.fld h112.fld h112.fld h112.fld h112.fld h112.fld h112.fld) (hk1), Kept.ite (Kept.cut (fun k1 => Kept.ite (bufRebuild_kept (k1) h103 h113.fld h113.fld h113.fld h113.fld) (k1)) (Kept.ite (bufFail_kept (hk1) h113.fld h113.fld h113.fld) (hk1))) (hk1), Kept.ite (hk1) (Kept.ite (msCtlWrite_kept (hk0) h103 (h114 _) h114.fld h114.fld) (Kept.ite (Kept.ite (hk1) (saAsk_kept (hk0) h103 h114.fld h114.fld h114.fld h114.fld)) (hk1))), Kept.ite (Kept.ite (leaseOver_kept (hk1) h108 (h115 _) h115.fld) (hk1)) (Kept.ite (txFetch_kept (hk1) h108) (hk1)), hk1])

theorem effGuard_kept {σ : Scope} {ρ : State} {s : State} {g : State} {fam : Fam} {i : ℕ} {p : ℕ} {off : ℕ} {mask : Word} {d : Word} {v : Word} (hk0 : Kept σ ρ s) (hk1 : Kept σ ρ g) (h101 : σ.part .pins = true) (h102 : σ.part .dup = true) (h103 : σ.part .edges = true) (h104 : σ.part .book = true) (h105 : σ.part .sw = true) (h106 : σ.part .mem = true) (h107 : σ.part .cans = true) (h108 : σ.part .gang = true) (h109 : σ.part .tally = true) (h110 : σ.part .mon = true) (h111 : σ.part .life = true) (h112 : σ.part .latch = true) (h113 : σ.part .cal = true) (h114 : σ.page pDUPLEX) (h115 : σ.page pBOOK) (h116 : ∀ n, σ.page (pEDGE n)) (h117 : σ.page pSWITCH) (h118 : ∀ n, σ.page (pPORT n)) (h119 : σ.page pCAPTURE) (h120 : σ.page pBUFMEM) (h121 : ∀ n, σ.page (pCAN n)) (h122 : σ.page pGANGCTL) (h123 : σ.page pSUPPLY) (h124 : σ.page pTALLY) (h125 : σ.page pMONUMENT) (h126 : σ.page pTAMPER) (h127 : ∀ n, σ.page (pHMON n)) (h128 : σ.page pCAL) :
    Kept σ ρ (State.effGuard s g fam i p off mask d v) := by
  unfold State.effGuard
  exact (by (try dsimp only); split; exacts [Kept.ite (Kept.cut (fun k1 => Kept.cut (fun k3 => Kept.cut (fun k5 => Kept.ite (fenceAsk_kept (k5) h104 h102 h101 h103 h107 h115.fld h115.fld h115.fld h115.fld h115.fld h114.fld h116 h115.fld h115.fld h115.fld h115.fld h115.fld h115.fld h114.fld h114.fld h121) (k5)) (Kept.ite (dupRejoin_kept (k3) h102 h101 h103 h104 h114.fld h115.fld h115.fld h115.fld h116 h115.fld h115.fld h115.fld h115.fld h115.fld h115.fld h115.fld h115.fld h114.fld) (k3))) (Kept.ite (handoverAsk_kept (k1) h101 h102 h103 h104 h105 h106 h114 h115 h116 h117 h118 h119 h120) (k1))) (Kept.ite (declareFault_kept (hk1) h101 h102 h103 h104 h105 h106 h114 h115 h116 h117 h118 h119 h120) (hk1))) (hk1), Kept.ite (Kept.cut (fun k7 => Kept.ite (gangFence_kept (k7) h104 h101 h102 h103 h105 h106 h107 h122.fld h122.fld h122.fld h122.fld h114 h115 h116 h117 h118 h119 h120 h121) (k7)) (Kept.ite (gangRejoin_kept (hk1) h108) (hk1))) (hk1), Kept.ite (rfClr_kept (hk1) h123.fld h123.fld) (hk1), Kept.ite (learnWrite_kept (hk1) h109 h124.fld h124.fld h124.fld) (hk1), Kept.ite (hk0) (Kept.ite (Kept.ite (monGo_kept (hk1) h110 h111 h125.fld h125.fld h125.fld h125.fld) (hk1)) (Kept.ite (latchPut_kept (hk0) h112) (Kept.ite (rtcSet_kept (hk0) h110) (hk1)))), Kept.ite (rearm_kept (hk0) h110 h126.fld h125.fld h126.fld) (Kept.ite (hk0) (hk1)), Kept.ite (hmonSnap_kept (hk1) h127) (hk1), Kept.ite (Kept.ite (calProg_kept (hk1) h113 h128.fld h128.fld h128.fld h128.fld h128.fld) (hk1)) (Kept.ite (calUnlock_kept (hk0) h113) (Kept.ite (calDataWrite_kept (hk0) h113 h128.fld) (hk1))), hk1])

theorem writeEff_kept {σ : Scope} {ρ : State} {s : State} {run : PageRun} {p : ℕ} {off : ℕ} {r : RegRow} {mask : Word} {data : Word} {src : Source} (hk0 : Kept σ ρ s) (h101 : σ.Full) :
    Kept σ ρ (State.writeEff s run p off r mask data src) := by
  unfold State.writeEff
  exact Kept.ite (hk0) (Kept.ite (pctlWrite_kept (hk0) h101) (Kept.ite (wr_kept (markSet_kept (hk0)) (h101.2 _)) (Kept.cut (fun k1 => Kept.ite (k1) ((by split; exacts [effBase_kept (hk0) (k1) h101, effBase_kept (hk0) (k1) h101, effBase_kept (hk0) (k1) h101, effTime_kept (hk0) (k1) (h101.1 _) (h101.1 _) (h101.1 _) (h101.1 _) (h101.1 _) (h101.1 _) (h101.1 _) (h101.1 _) (h101.1 _) (h101.1 _) (h101.1 _) (h101.1 _) (h101.1 _) (fun _ _ => h101.2 _) (fun _ => h101.2 _) (fun _ => h101.2 _) (fun _ => h101.2 _) (fun _ => h101.2 _) (fun _ _ => h101.2 _) (fun _ => h101.2 _) (fun _ => h101.2 _) (fun _ => h101.2 _) (fun _ _ => h101.2 _) (fun _ => h101.2 _) (fun _ => h101.2 _) (fun _ => h101.2 _) (fun _ => h101.2 _) (fun _ => h101.2 _), effTime_kept (hk0) (k1) (h101.1 _) (h101.1 _) (h101.1 _) (h101.1 _) (h101.1 _) (h101.1 _) (h101.1 _) (h101.1 _) (h101.1 _) (h101.1 _) (h101.1 _) (h101.1 _) (h101.1 _) (fun _ _ => h101.2 _) (fun _ => h101.2 _) (fun _ => h101.2 _) (fun _ => h101.2 _) (fun _ => h101.2 _) (fun _ _ => h101.2 _) (fun _ => h101.2 _) (fun _ => h101.2 _) (fun _ => h101.2 _) (fun _ _ => h101.2 _) (fun _ => h101.2 _) (fun _ => h101.2 _) (fun _ => h101.2 _) (fun _ => h101.2 _) (fun _ => h101.2 _), effTime_kept (hk0) (k1) (h101.1 _) (h101.1 _) (h101.1 _) (h101.1 _) (h101.1 _) (h101.1 _) (h101.1 _) (h101.1 _) (h101.1 _) (h101.1 _) (h101.1 _) (h101.1 _) (h101.1 _) (fun _ _ => h101.2 _) (fun _ => h101.2 _) (fun _ => h101.2 _) (fun _ => h101.2 _) (fun _ => h101.2 _) (fun _ _ => h101.2 _) (fun _ => h101.2 _) (fun _ => h101.2 _) (fun _ => h101.2 _) (fun _ _ => h101.2 _) (fun _ => h101.2 _) (fun _ => h101.2 _) (fun _ => h101.2 _) (fun _ => h101.2 _) (fun _ => h101.2 _), effTime_kept (hk0) (k1) (h101.1 _) (h101.1 _) (h101.1 _) (h101.1 _) (h101.1 _) (h101.1 _) (h101.1 _) (h101.1 _) (h101.1 _) (h101.1 _) (h101.1 _) (h101.1 _) (h101.1 _) (fun _ _ => h101.2 _) (fun _ => h101.2 _) (fun _ => h101.2 _) (fun _ => h101.2 _) (fun _ => h101.2 _) (fun _ _ => h101.2 _) (fun _ => h101.2 _) (fun _ => h101.2 _) (fun _ => h101.2 _) (fun _ _ => h101.2 _) (fun _ => h101.2 _) (fun _ => h101.2 _) (fun _ => h101.2 _) (fun _ => h101.2 _) (fun _ => h101.2 _), effPins_kept (hk0) (k1) (h101.1 _) (h101.1 _) (h101.1 _) (h101.1 _) (h101.1 _) (h101.1 _) (fun _ => h101.2 _) (fun _ _ => h101.2 _) (fun _ => h101.2 _) (fun _ => h101.2 _) (fun _ _ => h101.2 _) (fun _ => h101.2 _) (fun _ => h101.2 _), effPins_kept (hk0) (k1) (h101.1 _) (h101.1 _) (h101.1 _) (h101.1 _) (h101.1 _) (h101.1 _) (fun _ => h101.2 _) (fun _ _ => h101.2 _) (fun _ => h101.2 _) (fun _ => h101.2 _) (fun _ _ => h101.2 _) (fun _ => h101.2 _) (fun _ => h101.2 _), effPins_kept (hk0) (k1) (h101.1 _) (h101.1 _) (h101.1 _) (h101.1 _) (h101.1 _) (h101.1 _) (fun _ => h101.2 _) (fun _ _ => h101.2 _) (fun _ => h101.2 _) (fun _ => h101.2 _) (fun _ _ => h101.2 _) (fun _ => h101.2 _) (fun _ => h101.2 _), effPins_kept (hk0) (k1) (h101.1 _) (h101.1 _) (h101.1 _) (h101.1 _) (h101.1 _) (h101.1 _) (fun _ => h101.2 _) (fun _ _ => h101.2 _) (fun _ => h101.2 _) (fun _ => h101.2 _) (fun _ _ => h101.2 _) (fun _ => h101.2 _) (fun _ => h101.2 _), effNet_kept (hk0) (k1) (h101.1 _) (h101.1 _) (h101.1 _) (h101.1 _) (h101.1 _) (h101.1 _) (h101.1 _) (h101.1 _) (fun _ => h101.2 _) (fun _ => h101.2 _) (fun _ _ => h101.2 _) (fun _ => h101.2 _) (fun _ => h101.2 _) (fun _ => h101.2 _) (fun _ => h101.2 _), effNet_kept (hk0) (k1) (h101.1 _) (h101.1 _) (h101.1 _) (h101.1 _) (h101.1 _) (h101.1 _) (h101.1 _) (h101.1 _) (fun _ => h101.2 _) (fun _ => h101.2 _) (fun _ _ => h101.2 _) (fun _ => h101.2 _) (fun _ => h101.2 _) (fun _ => h101.2 _) (fun _ => h101.2 _), effNet_kept (hk0) (k1) (h101.1 _) (h101.1 _) (h101.1 _) (h101.1 _) (h101.1 _) (h101.1 _) (h101.1 _) (h101.1 _) (fun _ => h101.2 _) (fun _ => h101.2 _) (fun _ _ => h101.2 _) (fun _ => h101.2 _) (fun _ => h101.2 _) (fun _ => h101.2 _) (fun _ => h101.2 _), effNet_kept (hk0) (k1) (h101.1 _) (h101.1 _) (h101.1 _) (h101.1 _) (h101.1 _) (h101.1 _) (h101.1 _) (h101.1 _) (fun _ => h101.2 _) (fun _ => h101.2 _) (fun _ _ => h101.2 _) (fun _ => h101.2 _) (fun _ => h101.2 _) (fun _ => h101.2 _) (fun _ => h101.2 _), effNet_kept (hk0) (k1) (h101.1 _) (h101.1 _) (h101.1 _) (h101.1 _) (h101.1 _) (h101.1 _) (h101.1 _) (h101.1 _) (fun _ => h101.2 _) (fun _ => h101.2 _) (fun _ _ => h101.2 _) (fun _ => h101.2 _) (fun _ => h101.2 _) (fun _ => h101.2 _) (fun _ => h101.2 _), effGuard_kept (hk0) (k1) (h101.1 _) (h101.1 _) (h101.1 _) (h101.1 _) (h101.1 _) (h101.1 _) (h101.1 _) (h101.1 _) (h101.1 _) (h101.1 _) (h101.1 _) (h101.1 _) (h101.1 _) (fun _ => h101.2 _) (fun _ => h101.2 _) (fun _ _ => h101.2 _) (fun _ => h101.2 _) (fun _ _ => h101.2 _) (fun _ => h101.2 _) (fun _ => h101.2 _) (fun _ _ => h101.2 _) (fun _ => h101.2 _) (fun _ => h101.2 _) (fun _ => h101.2 _) (fun _ => h101.2 _) (fun _ => h101.2 _) (fun _ _ => h101.2 _) (fun _ => h101.2 _)]))) (storeReg_kept (hk0) (h101.1 _) (fun _ => h101.2 _)))))

theorem busWrite_kept {σ : Scope} {ρ : State} {s : State} {p : ℕ} {off : ℕ} {mask : Word} {data : Word} {src : Source} (hk0 : Kept σ ρ s) (h101 : σ.Full) :
    Kept σ ρ (State.busWrite s p off mask data src) := by
  unfold State.busWrite
  exact (by split; exacts [regWrite_kept (pageNow_kept (hk0) (h101.1 _) (h101.1 _) (h101.1 _) (h101.1 _) (h101.1 _) (h101.1 _) (h101.1 _) (h101.1 _) (h101.1 _) (h101.1 _) (h101.1 _) (h101.1 _) (h101.1 _) (fun _ => h101.2 _) (fun _ => h101.2 _) (fun _ => h101.2 _) (fun _ => h101.2 _) (fun _ => h101.2 _) (fun _ => h101.2 _) (fun _ => h101.2 _) (fun _ _ => h101.2 _) (fun _ => h101.2 _) (fun _ => h101.2 _) (fun _ => h101.2 _) (fun _ => h101.2 _) (fun _ => h101.2 _) (fun _ => h101.2 _)) (fun x0 k1 => writeEff_kept (k1) h101) (h101.1 _) (fun _ _ => h101.2 _) (fun _ _ => h101.2 _) (fun _ _ => h101.2 _) (fun _ _ => h101.2 _) (fun _ _ => h101.2 _), Kept.ite (addressError_kept (hk0) (fun _ _ => h101.2 _) (fun _ _ => h101.2 _) (fun _ _ => h101.2 _) (fun _ _ => h101.2 _) (fun _ _ => h101.2 _)) (hk0)])

theorem bootFail_kept {σ : Scope} {ρ : State} {s : State} {err : ℕ} (hk0 : Kept σ ρ s) (h101 : σ.part .boot = true) (h102 : σ.fld pSYS F.SYS.BOOTSTS.STAGE) (h103 : σ.fld pSYS F.SYS.BOOTSTS.ERR) (h104 : σ.fld pSYS (Fld.mk 12 10 1)) :
    Kept σ ρ (State.bootFail s err) := by
  unfold State.bootFail
  exact Kept.boot (event_kept (set_kept (set_kept (hk0) h102) h103) h104) h101

theorem entryDone_kept {σ : Scope} {ρ : State} {s : State} (hk0 : Kept σ ρ s) (h101 : σ.fld pSYS F.SYS.BOOTENT.ENTRY) (h102 : σ.fld pSYS F.SYS.BOOTSTS.STAGE) (h103 : σ.fld pSYS (Fld.mk 12 9 1)) :
    Kept σ ρ (State.entryDone s) := by
  unfold State.entryDone
  exact Kept.cut (fun k1 => Kept.ite (event_kept (set_kept (k1) h102) h103) (set_kept (k1) h102)) (bump_kept (hk0) h101)

theorem bootChecked_kept {σ : Scope} {ρ : State} {s : State} {p : ℕ} (hk0 : Kept σ ρ s) (h101 : σ.part .boot = true) (h102 : σ.fld pSYS F.SYS.BOOTENT.ENTRY) (h103 : σ.fld pSYS F.SYS.BOOTSTS.STAGE) (h104 : σ.fld pSYS (Fld.mk 12 9 1)) (h105 : σ.fld pSYS F.SYS.BOOTERR.PAGE) (h106 : σ.fld pSYS F.SYS.BOOTERR.CODE) (h107 : σ.fld pSYS F.SYS.BOOTERR.INDEX) (h108 : σ.fld pSYS F.SYS.BOOTSTS.ERR) (h109 : σ.fld pSYS (Fld.mk 12 10 1)) :
    Kept σ ρ (State.bootChecked s p) := by
  unfold State.bootChecked
  exact Kept.ite (Kept.cut (fun k1 => Kept.ite (entryDone_kept (k1) h102 h103 h104) (bootFail_kept (set_kept (set_kept (set_kept (k1) h105) h106) h107) h101 h103 h108 h109)) (Kept.boot (hk0) h101)) (hk0)

theorem checkOne_kept {σ : Scope} {ρ : State} {s : State} {p : ℕ} {fault : Bool} (hk0 : Kept σ ρ s) (h101 : σ.Full) :
    Kept σ ρ (State.checkOne s p fault) := by
  unfold State.checkOne
  exact Kept.foldl (fun x5 a6 k7 => busWrite_kept (k7) h101) _ _ (Kept.page (bootChecked_kept (judgePage_kept (hk0) h101) (h101.1 _) (fun _ _ => h101.2 _) (fun _ _ => h101.2 _) (fun _ _ => h101.2 _) (fun _ _ => h101.2 _) (fun _ _ => h101.2 _) (fun _ _ => h101.2 _) (fun _ _ => h101.2 _) (fun _ _ => h101.2 _)) (h101.1 _))

theorem checkEnd_kept {σ : Scope} {ρ : State} {s : State} {p : ℕ} {fault : Bool} (hk0 : Kept σ ρ s) (h101 : σ.Full) :
    Kept σ ρ (State.checkEnd s p fault) := by
  unfold State.checkEnd
  exact Kept.ite (checkOne_kept (Kept.foldl (fun x0 a1 k2 => checkOne_kept (k2) h101) _ _ (hk0)) h101) (hk0)

theorem pctlCmd_kept {σ : Scope} {ρ : State} {s : State} {p : ℕ} {f : Word → Word} (hk0 : Kept σ ρ s) (h101 : σ.Full) :
    Kept σ ρ (State.pctlCmd s p f) := by
  unfold State.pctlCmd
  exact busWrite_kept (hk0) h101

theorem serdesNow_kept {σ : Scope} {ρ : State} {s : State} {locked : Bool} (hk0 : Kept σ ρ s) (h101 : σ.part .pwr = true) :
    Kept σ ρ (State.serdesNow s locked) := by
  unfold State.serdesNow
  exact Kept.pwr (hk0) h101 rfl

theorem execBlockFault_kept {σ : Scope} {clk : ℕ} {page : ℕ} {s : State} (h101 : σ.part .datum = true) (h102 : σ.part .mscl = true) (h103 : σ.part .cycle = true) (h104 : σ.part .sw = true) (h105 : σ.part .plat = true) (h106 : σ.part .stake = true) (h107 : σ.part .engs = true) (h108 : σ.part .pins = true) (h109 : σ.part .edges = true) (h110 : σ.part .book = true) (h111 : σ.part .cans = true) (h112 : σ.part .ports = true) (h113 : σ.part .mem = true) (h114 : σ.part .gang = true) (h115 : σ.part .stamps = true) (h116 : σ.part .bridge = true) (h117 : σ.part .pwr = true) (h118 : σ.part .tally = true) (h119 : ∀ k, σ.reg k = true) :
    KeptNext σ s (execBlockFault clk page s) := by
  unfold execBlockFault
  exact KeptNext.next (faultIn_kept (advance_kept (Kept.refl σ s)) h101 h102 h103 h104 h105 h106 h107 h108 h109 h110 h111 h112 h113 h114 h115 h116 h117 h118 h119)

theorem execEnableCheckEnd_kept {σ : Scope} {clk : ℕ} {chk : CheckEnd} {s : State} (h101 : σ.Full) :
    KeptNext σ s (execEnableCheckEnd clk chk s) := by
  unfold execEnableCheckEnd
  exact KeptNext.next (checkEnd_kept (serdesNow_kept (advance_kept (Kept.refl σ s)) (h101.1 _)) h101)

theorem execPageClr_kept {σ : Scope} {clk : ℕ} {page : ℕ} {s : State} (h101 : σ.Full) :
    KeptNext σ s (execPageClr clk page s) := by
  unfold execPageClr
  exact KeptNext.next (pctlCmd_kept (advance_kept (Kept.refl σ s)) h101)

theorem execPageClrDone_kept {σ : Scope} {clk : ℕ} {page : ℕ} {s : State} (h101 : σ.Full) :
    KeptNext σ s (execPageClrDone clk page s) := by
  unfold execPageClrDone
  exact KeptNext.next (clrEnd_kept (advance_kept (Kept.refl σ s)) h101)

theorem execPageEnable_kept {σ : Scope} {clk : ℕ} {page : ℕ} {data : Word} {s : State} (h101 : σ.Full) :
    KeptNext σ s (execPageEnable clk page data s) := by
  unfold execPageEnable
  exact KeptNext.next (busWrite_kept (advance_kept (Kept.refl σ s)) h101)

theorem execPageHeldReached_kept {σ : Scope} {clk : ℕ} {page : ℕ} {s : State} (h101 : σ.part .ports = true) (h102 : σ.part .mscl = true) (h103 : σ.part .sw = true) (h104 : σ.part .mem = true) (h105 : σ.part .gang = true) (h106 : σ.part .stamps = true) (h107 : σ.part .plat = true) (h108 : σ.fld pSTAMP F.STAMP.ONESTEP_ERR.COUNT) (h109 : σ.fld pSTAMP (Fld.mk 12 8 1)) (h110 : σ.fld pCAPTURE F.CAPTURE.LOST.COUNT) (h111 : σ.fld pCAPTURE (Fld.mk 12 9 1)) (h112 : σ.fld pCAPTURE F.CAPTURE.WR_SEQ.SEQ) (h113 : σ.fld pCAPTURE (Fld.mk 12 8 1)) (h114 : σ.fld pSTAMP F.STAMP.TXQOVF.COUNT) (h115 : σ.fld pSTAMP (Fld.mk 12 9 1)) (h116 : σ.fld pSTAMP (Fld.mk 12 10 1)) (h117 : ∀ n, σ.page (pPORT n)) (h118 : σ.fld page F.HDR.PSTS.HELD) (h119 : ∀ n, σ.page (pENG n)) :
    KeptNext σ s (execPageHeldReached clk page s) := by
  unfold execPageHeldReached
  exact KeptNext.next (heldReached_kept (advance_kept (Kept.refl σ s)) h101 h102 h103 h104 h105 h106 h107 h108 h109 h110 h111 h112 h113 h114 h115 h116 h117 h118 h119)

theorem execPageHoldSet_kept {σ : Scope} {clk : ℕ} {page : ℕ} {s : State} (h101 : σ.Full) :
    KeptNext σ s (execPageHoldSet clk page s) := by
  unfold execPageHoldSet
  exact KeptNext.next (pctlCmd_kept (advance_kept (Kept.refl σ s)) h101)

theorem execPageLock_kept {σ : Scope} {clk : ℕ} {page : ℕ} {data : Word} {s : State} (h101 : σ.Full) :
    KeptNext σ s (execPageLock clk page data s) := by
  unfold execPageLock
  exact KeptNext.next (busWrite_kept (advance_kept (Kept.refl σ s)) h101)

theorem execPageStop_kept {σ : Scope} {clk : ℕ} {page : ℕ} {data : Word} {s : State} (h101 : σ.Full) :
    KeptNext σ s (execPageStop clk page data s) := by
  unfold execPageStop
  exact KeptNext.next (busWrite_kept (advance_kept (Kept.refl σ s)) h101)

theorem execPageStopDone_kept {σ : Scope} {clk : ℕ} {page : ℕ} {s : State} (h101 : σ.part .ports = true) (h102 : σ.part .mscl = true) (h103 : σ.part .sw = true) (h104 : σ.part .mem = true) (h105 : σ.part .gang = true) (h106 : σ.part .stamps = true) (h107 : σ.part .datum = true) (h108 : σ.part .cycle = true) (h109 : σ.part .plat = true) (h110 : σ.part .stake = true) (h111 : σ.part .engs = true) (h112 : σ.part .pins = true) (h113 : σ.part .edges = true) (h114 : σ.part .book = true) (h115 : σ.part .cans = true) (h116 : σ.part .bridge = true) (h117 : σ.part .pwr = true) (h118 : σ.part .tally = true) (h119 : σ.part .page = true) (h120 : σ.page page) (h121 : ∀ n, σ.page (pPORT n)) (h122 : σ.page pSTAKE) (h123 : σ.page (pENG (page - 32))) (h124 : σ.page (pCREW ((page - 32) / 4))) (h125 : σ.page pBOOK) (h126 : ∀ n, σ.page (pEDGE n)) (h127 : σ.page (pCAN (page - 112))) (h128 : σ.page pSTAMP) (h129 : σ.page pCAPTURE) (h130 : σ.page pBUFMEM) (h131 : σ.page pGANGCTL) (h132 : σ.page pMSCL) (h133 : σ.page pMACSEC) (h134 : σ.page pBRIDGE) (h135 : σ.page (pSLOT (page - 209))) (h136 : σ.page pTALLY) :
    KeptNext σ s (execPageStopDone clk page s) := by
  unfold execPageStopDone
  exact KeptNext.next (stopEnd_kept (advance_kept (Kept.refl σ s)) h101 h102 h103 h104 h105 h106 h107 h108 h109 h110 h111 h112 h113 h114 h115 h116 h117 h118 h119 h120 h121 h122 h123 h124 h125 h126 h127 h128 h129 h130 h131 h132 h133 h134 h135 h136)

theorem execPevmWrite_kept {σ : Scope} {clk : ℕ} {page : ℕ} {data : Word} {s : State} (h101 : σ.Full) :
    KeptNext σ s (execPevmWrite clk page data s) := by
  unfold execPevmWrite
  exact KeptNext.next (busWrite_kept (advance_kept (Kept.refl σ s)) h101)

theorem execPevtClear_kept {σ : Scope} {clk : ℕ} {page : ℕ} {data : Word} {s : State} (h101 : σ.Full) :
    KeptNext σ s (execPevtClear clk page data s) := by
  unfold execPevtClear
  exact KeptNext.next (busWrite_kept (advance_kept (Kept.refl σ s)) h101)

theorem execPevtForce_kept {σ : Scope} {clk : ℕ} {page : ℕ} {data : Word} {s : State} (h101 : σ.Full) :
    KeptNext σ s (execPevtForce clk page data s) := by
  unfold execPevtForce
  exact KeptNext.next (busWrite_kept (advance_kept (Kept.refl σ s)) h101)

theorem readWord_kept {σ : Scope} {ρ : State} {s : State} {addr : ℕ} {src : Source} (hk0 : Kept σ ρ s) (h101 : σ.part .result = true) (h102 : σ.part .engs = true) (h103 : σ.part .book = true) (h104 : σ.part .ports = true) (h105 : σ.part .mscl = true) (h106 : σ.part .sw = true) (h107 : σ.part .mem = true) (h108 : σ.part .gang = true) (h109 : σ.part .stamps = true) (h110 : σ.part .plat = true) (h111 : σ.part .tally = true) (h112 : σ.part .dup = true) (h113 : σ.part .pwr = true) (h114 : σ.part .bridge = true) (h115 : σ.part .shadow = true) (h116 : σ.part .stake = true) (h117 : σ.page (pENG (regPage (adrLocal addr) - 32))) (h118 : σ.page pBOOK) (h119 : σ.page pDATUM) (h120 : σ.page pHSR) (h121 : σ.page pSWITCH) (h122 : σ.page pSTAMP) (h123 : σ.page pCAPTURE) (h124 : ∀ n, σ.page (pPORT n)) (h125 : σ.page pBUFMEM) (h126 : σ.page pMACSEC) (h127 : σ.page pDUPLEX) (h128 : σ.page pSYS) (h129 : σ.page pBRIDGE) (h130 : σ.page pFDB) (h131 : σ.fld (pCAN (regPage (adrLocal addr) - pCAN 0)) F.CAN.RECOV.COUNT) (h132 : σ.fld pCAL F.CAL.ADDR.WORD) :
    Kept σ ρ (State.readWord s addr src).1 := by
  unfold State.readWord
  exact Kept.iteFst (busRead_kept (hk0) h101 h102 h103 h104 h105 h106 h107 h108 h109 h110 h111 h112 h113 h114 h115 h116 h117 h118 h119 h120 h121 h122 h123 h124 h125 h126 h127 h128 h129 h130 h131 h132) (addressError_kept (hk0) h128.fld h128.fld h128.fld h128.fld h128.fld)

theorem readRegs_kept {σ : Scope} {ρ : State} {s : State} {addr : ℕ} {m : ℕ} {src : Source} (hk0 : Kept σ ρ s) (h101 : σ.part .result = true) (h102 : σ.part .engs = true) (h103 : σ.part .book = true) (h104 : σ.part .ports = true) (h105 : σ.part .mscl = true) (h106 : σ.part .sw = true) (h107 : σ.part .mem = true) (h108 : σ.part .gang = true) (h109 : σ.part .stamps = true) (h110 : σ.part .plat = true) (h111 : σ.part .tally = true) (h112 : σ.part .dup = true) (h113 : σ.part .pwr = true) (h114 : σ.part .bridge = true) (h115 : σ.part .shadow = true) (h116 : σ.part .stake = true) (h117 : σ.page (pENG (regPage (adrLocal addr) - 32))) (h118 : σ.page pBOOK) (h119 : σ.page pDATUM) (h120 : σ.page pHSR) (h121 : σ.page pSWITCH) (h122 : σ.page pSTAMP) (h123 : σ.page pCAPTURE) (h124 : ∀ n, σ.page (pPORT n)) (h125 : σ.page pBUFMEM) (h126 : σ.page pMACSEC) (h127 : σ.page pDUPLEX) (h128 : σ.page pSYS) (h129 : σ.page pBRIDGE) (h130 : σ.page pFDB) (h131 : σ.page (pCAN (regPage (adrLocal addr) - pCAN 0))) (h132 : σ.page pCAL) (h133 : σ.page (pENG (regPage (adrLocal (addr + 4)) - 32))) (h134 : σ.page (pCAN (regPage (adrLocal (addr + 4)) - pCAN 0))) :
    Kept σ ρ (State.readRegs s addr m src).1 := by
  unfold State.readRegs
  exact Kept.iteFst (readWord_kept (Kept.iteFst (readWord_kept (hk0) h101 h102 h103 h104 h105 h106 h107 h108 h109 h110 h111 h112 h113 h114 h115 h116 h117 h118 h119 h120 h121 h122 h123 h124 h125 h126 h127 h128 h129 h130 h131.fld h132.fld) (hk0)) h101 h102 h103 h104 h105 h106 h107 h108 h109 h110 h111 h112 h113 h114 h115 h116 h133 h118 h119 h120 h121 h122 h123 h124 h125 h126 h127 h128 h129 h130 h134.fld h132.fld) (Kept.iteFst (readWord_kept (hk0) h101 h102 h103 h104 h105 h106 h107 h108 h109 h110 h111 h112 h113 h114 h115 h116 h117 h118 h119 h120 h121 h122 h123 h124 h125 h126 h127 h128 h129 h130 h131.fld h132.fld) (hk0))

theorem localRead_kept {σ : Scope} {ρ : State} {s : State} {addr : ℕ} {m : ℕ} {src : Source} (hk0 : Kept σ ρ s) (h101 : σ.part .result = true) (h102 : σ.part .engs = true) (h103 : σ.part .book = true) (h104 : σ.part .ports = true) (h105 : σ.part .mscl = true) (h106 : σ.part .sw = true) (h107 : σ.part .mem = true) (h108 : σ.part .gang = true) (h109 : σ.part .stamps = true) (h110 : σ.part .plat = true) (h111 : σ.part .tally = true) (h112 : σ.part .dup = true) (h113 : σ.part .pwr = true) (h114 : σ.part .bridge = true) (h115 : σ.part .shadow = true) (h116 : σ.part .stake = true) (h117 : σ.page (pENG (regPage (adrLocal addr) - 32))) (h118 : σ.page pBOOK) (h119 : σ.page pDATUM) (h120 : σ.page pHSR) (h121 : σ.page pSWITCH) (h122 : σ.page pSTAMP) (h123 : σ.page pCAPTURE) (h124 : ∀ n, σ.page (pPORT n)) (h125 : σ.page pBUFMEM) (h126 : σ.page pMACSEC) (h127 : σ.page pDUPLEX) (h128 : σ.page pSYS) (h129 : σ.page pBRIDGE) (h130 : σ.page pFDB) (h131 : σ.page (pCAN (regPage (adrLocal addr) - pCAN 0))) (h132 : σ.page pCAL) (h133 : σ.page (pENG (regPage (adrLocal (addr + 4)) - 32))) (h134 : σ.page (pCAN (regPage (adrLocal (addr + 4)) - pCAN 0))) :
    Kept σ ρ (State.localRead s addr m src).1 := by
  unfold State.localRead
  exact (by (try dsimp only); split; exacts [Kept.iteFst (hk0) (addressError_kept (hk0) h128.fld h128.fld h128.fld h128.fld h128.fld), Kept.iteFst (hk0) (addressError_kept (hk0) h128.fld h128.fld h128.fld h128.fld h128.fld), Kept.iteFst (hk0) (addressError_kept (hk0) h128.fld h128.fld h128.fld h128.fld h128.fld), readRegs_kept (hk0) h101 h102 h103 h104 h105 h106 h107 h108 h109 h110 h111 h112 h113 h114 h115 h116 h117 h118 h119 h120 h121 h122 h123 h124 h125 h126 h127 h128 h129 h130 h131 h132 h133 h134, Kept.iteFst (hk0) (addressError_kept (hk0) h128.fld h128.fld h128.fld h128.fld h128.fld), addressError_kept (hk0) h128.fld h128.fld h128.fld h128.fld h128.fld])

theorem writeHalf_kept {σ : Scope} {ρ : State} {s : State} {addr : ℕ} {m : ℕ} {d : List Byte} {src : Source} {h : ℕ} (hk0 : Kept σ ρ s) (h101 : σ.Full) :
    Kept σ ρ (State.writeHalf s addr m d src h) := by
  unfold State.writeHalf
  exact Kept.ite (busWrite_kept (hk0) h101) (addressError_kept (hk0) (fun _ _ => h101.2 _) (fun _ _ => h101.2 _) (fun _ _ => h101.2 _) (fun _ _ => h101.2 _) (fun _ _ => h101.2 _))

theorem localWrite_kept {σ : Scope} {ρ : State} {s : State} {addr : ℕ} {m : ℕ} {d : List Byte} {src : Source} (hk0 : Kept σ ρ s) (h101 : σ.Full) :
    Kept σ ρ (State.localWrite s addr m d src) := by
  unfold State.localWrite
  exact (by (try dsimp only); split; exacts [Kept.ite (addressError_kept (hk0) (fun _ _ => h101.2 _) (fun _ _ => h101.2 _) (fun _ _ => h101.2 _) (fun _ _ => h101.2 _) (fun _ _ => h101.2 _)) (stageBytes_kept (hk0) (h101.1 _)), Kept.foldl (fun x0 a1 k2 => writeHalf_kept (k2) h101) _ _ (hk0), addressError_kept (hk0) (fun _ _ => h101.2 _) (fun _ _ => h101.2 _) (fun _ _ => h101.2 _) (fun _ _ => h101.2 _) (fun _ _ => h101.2 _)])

theorem imageFail_kept {σ : Scope} {ρ : State} {s : State} {err : ℕ} (hk0 : Kept σ ρ s) (h101 : σ.part .boot = true) (h102 : σ.fld pSYS F.SYS.BOOTSTS.ALT) (h103 : σ.fld pSYS F.SYS.BOOTSTS.STAGE) (h104 : σ.fld pSYS F.SYS.BOOTSTS.ERR) (h105 : σ.fld pSYS (Fld.mk 12 10 1)) :
    Kept σ ρ (State.imageFail s err) := by
  unfold State.imageFail
  exact Kept.ite (Kept.boot (set_kept (set_kept (hk0) h102) h103) h101) (bootFail_kept (hk0) h101 h103 h104 h105)

theorem ringClear_kept {σ : Scope} {ρ : State} {s : State} (hk0 : Kept σ ρ s) (h101 : σ.Full) :
    Kept σ ρ (State.ringClear s) := by
  unfold State.ringClear
  exact Kept.ite (Kept.foldl (fun x0 a1 k2 => clrEnd_kept (clrBegin_kept (k2) (h101.1 _) (h101.1 _) (h101.1 _) (h101.1 _) (h101.1 _) (h101.1 _) (h101.1 _) (h101.1 _) (h101.1 _) (h101.1 _) (h101.1 _) (h101.1 _) (h101.1 _) (h101.1 _) (h101.1 _) (h101.1 _) (h101.1 _) (h101.1 _) (h101.1 _) (fun _ => h101.2 _) (fun _ _ => h101.2 _) (fun _ => h101.2 _) (fun _ => h101.2 _) (fun _ => h101.2 _) (fun _ => h101.2 _) (fun _ _ => h101.2 _) (fun _ => h101.2 _) (fun _ => h101.2 _) (fun _ => h101.2 _) (fun _ => h101.2 _) (fun _ => h101.2 _) (fun _ => h101.2 _) (fun _ => h101.2 _) (fun _ => h101.2 _) (fun _ => h101.2 _) (fun _ => h101.2 _)) h101) _ _ (Kept.boot (hk0) (h101.1 _))) (hk0)

theorem authed_kept {σ : Scope} {ρ : State} {s : State} (hk0 : Kept σ ρ s) (h101 : σ.Full) :
    Kept σ ρ (State.authed s) := by
  unfold State.authed
  exact Kept.ite (hk0) (Kept.ite (imageFail_kept (hk0) (h101.1 _) (fun _ _ => h101.2 _) (fun _ _ => h101.2 _) (fun _ _ => h101.2 _) (fun _ _ => h101.2 _)) (Kept.cut (fun k5 => Kept.ite (event_kept (set_kept (k5) (fun _ _ => h101.2 _)) (fun _ _ => h101.2 _)) (set_kept (k5) (fun _ _ => h101.2 _))) (Kept.boot (set_kept (ringClear_kept (setB_kept (hk0) (fun _ _ => h101.2 _)) h101) (fun _ _ => h101.2 _)) (h101.1 _))))

theorem calLoad_kept {σ : Scope} {ρ : State} {s : State} (hk0 : Kept σ ρ s) (h101 : σ.part .cal = true) (h102 : σ.fld pCAL F.CAL.STS.VALID) (h103 : σ.fld pCAL F.CAL.STS.WRITES) (h104 : σ.fld pCAL F.CAL.ORIGIN.ORIGIN) (h105 : σ.fld pSYS F.SYS.BOOTSTS.STAGE) :
    Kept σ ρ (State.calLoad s) := by
  unfold State.calLoad
  exact Kept.ite (set_kept (calReload_kept (hk0) h101 h102 h103 h104) h105) (hk0)

theorem entryPop_kept {σ : Scope} {ρ : State} {s : State} (hk0 : Kept σ ρ s) (h101 : σ.part .boot = true) :
    Kept σ ρ (State.entryPop s) := by
  unfold State.entryPop
  exact Kept.boot (hk0) h101

theorem entryPage_kept {σ : Scope} {ρ : State} {s : State} (hk0 : Kept σ ρ s) (h101 : σ.Full) :
    Kept σ ρ (State.entryPage s) := by
  unfold State.entryPage
  exact Kept.ite (hk0) (Kept.cut (fun k1 => Kept.ite (entryDone_kept (k1) (fun _ _ => h101.2 _) (fun _ _ => h101.2 _) (fun _ _ => h101.2 _)) (Kept.cut (fun k13 => Kept.ite (Kept.boot (k13) (h101.1 _)) (entryDone_kept (k13) (fun _ _ => h101.2 _) (fun _ _ => h101.2 _) (fun _ _ => h101.2 _))) (busWrite_kept (Kept.foldl (fun x9 a10 k11 => busWrite_kept (k11) h101) _ _ (k1)) h101))) (entryPop_kept (hk0) (h101.1 _)))

theorem loadProgram_kept {σ : Scope} {ρ : State} {s : State} {c : ℕ} {b : List Byte} (hk0 : Kept σ ρ s) (h101 : σ.Full) :
    Kept σ ρ (State.loadProgram s c b) := by
  unfold State.loadProgram
  exact busWrite_kept (Kept.foldl (fun x47 a48 k49 => busWrite_kept (k49) h101) _ _ (busWrite_kept (Kept.foldl (fun x44 a45 k46 => busWrite_kept (k46) h101) _ _ (hk0)) h101)) h101

theorem entryProgram_kept {σ : Scope} {ρ : State} {s : State} (hk0 : Kept σ ρ s) (h101 : σ.Full) :
    Kept σ ρ (State.entryProgram s) := by
  unfold State.entryProgram
  exact Kept.ite (hk0) (Kept.ite (Kept.cut (fun k1 => Kept.ite (entryDone_kept (k1) (fun _ _ => h101.2 _) (fun _ _ => h101.2 _) (fun _ _ => h101.2 _)) (bootFail_kept (set_kept (set_kept (set_kept (k1) (fun _ _ => h101.2 _)) (fun _ _ => h101.2 _)) (fun _ _ => h101.2 _)) (h101.1 _) (fun _ _ => h101.2 _) (fun _ _ => h101.2 _) (fun _ _ => h101.2 _))) (loadProgram_kept (entryPop_kept (hk0) (h101.1 _)) h101)) (bootFail_kept (set_kept (hk0) (fun _ _ => h101.2 _)) (h101.1 _) (fun _ _ => h101.2 _) (fun _ _ => h101.2 _) (fun _ _ => h101.2 _)))

theorem waitLook_kept {σ : Scope} {ρ : State} {s : State} {p : ℕ} {off : ℕ} (hk0 : Kept σ ρ s) (h101 : σ.fld pSYS (Fld.mk 12 8 1)) (h102 : σ.fld pSYS F.SYS.AERR_LO.ADDR_LO) (h103 : σ.fld pSYS F.SYS.AERR_HI.ADDR_HI) (h104 : σ.fld pSYS F.SYS.AERR_HI.SOURCE) (h105 : σ.fld pSYS F.SYS.AERR_HI.VALID) :
    Kept σ ρ (State.waitLook s p off) := by
  unfold State.waitLook
  exact Kept.ite (addressError_kept (hk0) h101 h102 h103 h104 h105) (hk0)

theorem entryWait_kept {σ : Scope} {ρ : State} {s : State} (hk0 : Kept σ ρ s) (h101 : σ.part .boot = true) (h102 : σ.fld pSYS (Fld.mk 12 8 1)) (h103 : σ.fld pSYS F.SYS.AERR_LO.ADDR_LO) (h104 : σ.fld pSYS F.SYS.AERR_HI.ADDR_HI) (h105 : σ.fld pSYS F.SYS.AERR_HI.SOURCE) (h106 : σ.fld pSYS F.SYS.AERR_HI.VALID) (h107 : σ.fld pSYS F.SYS.BOOTENT.ENTRY) (h108 : σ.fld pSYS F.SYS.BOOTSTS.STAGE) (h109 : σ.fld pSYS (Fld.mk 12 9 1)) :
    Kept σ ρ (State.entryWait s) := by
  unfold State.entryWait
  exact Kept.ite (hk0) (Kept.cut (fun k1 => Kept.ite (entryDone_kept (entryPop_kept (k1) h101) h107 h108 h109) (Kept.ite (k1) (Kept.boot (set_kept (k1) h108) h101))) (waitLook_kept (hk0) h102 h103 h104 h105 h106))

theorem fetched_kept {σ : Scope} {ρ : State} {s : State} {image : Option (List Byte)} (hk0 : Kept σ ρ s) (h101 : σ.part .boot = true) (h102 : σ.fld pSYS F.SYS.BOOTCTL.GO) (h103 : σ.fld pSYS F.SYS.BOOTSTS.ALT) (h104 : σ.fld pSYS F.SYS.BOOTSTS.STAGE) (h105 : σ.fld pSYS F.SYS.BOOTSTS.ERR) (h106 : σ.fld pSYS (Fld.mk 12 10 1)) :
    Kept σ ρ (State.fetched s image) := by
  unfold State.fetched
  exact Kept.ite (hk0) (Kept.cut (fun k1 => (by (try dsimp only); split; exacts [imageFail_kept (k1) h101 h103 h104 h105 h106, Kept.boot (set_kept (k1) h104) h101])) (set_kept (hk0) h102))

theorem pllLock_kept {σ : Scope} {ρ : State} {s : State} (hk0 : Kept σ ρ s) (h101 : σ.part .pwr = true) (h102 : σ.fld pSYS F.SYS.BOOTSTS.STAGE) :
    Kept σ ρ (State.pllLock s) := by
  unfold State.pllLock
  exact Kept.ite (set_kept (serdesNow_kept (hk0) h101) h102) (hk0)

theorem ringBoot_kept {σ : Scope} {ρ : State} {s : State} (hk0 : Kept σ ρ s) (h101 : σ.Full) :
    Kept σ ρ (State.ringBoot s) := by
  unfold State.ringBoot
  exact Kept.foldl (fun x15 a16 k17 => checkOne_kept (pctlWrite_kept (k17) h101) h101) _ _ (Kept.boot (set_kept (hk0) (fun _ _ => h101.2 _)) (h101.1 _))

theorem selfTest_kept {σ : Scope} {ρ : State} {s : State} {failed : List ℕ} {uncorr : Bool} (hk0 : Kept σ ρ s) (h101 : σ.Full) :
    Kept σ ρ (State.selfTest s failed uncorr) := by
  unfold State.selfTest
  exact Kept.ite (hk0) (Kept.ite (event_kept (blockFault_kept (set_kept (set_kept (hk0) (fun _ _ => h101.2 _)) (fun _ _ => h101.2 _)) (fun _ _ => h101.2 _) (fun _ _ => h101.2 _)) (fun _ _ => h101.2 _)) (Kept.cut (fun k1 => (by (try dsimp only); split; exacts [set_kept (k1) (fun _ _ => h101.2 _), ringBoot_kept (set_kept (k1) (fun _ _ => h101.2 _)) h101, set_kept (k1) (fun _ _ => h101.2 _)])) (Kept.sw (hk0) (h101.1 _))))

theorem waitTimeout_kept {σ : Scope} {ρ : State} {s : State} (hk0 : Kept σ ρ s) (h101 : σ.part .boot = true) (h102 : σ.fld pSYS F.SYS.BOOTERR.PAGE) (h103 : σ.fld pSYS F.SYS.BOOTSTS.STAGE) (h104 : σ.fld pSYS F.SYS.BOOTSTS.ERR) (h105 : σ.fld pSYS (Fld.mk 12 10 1)) :
    Kept σ ρ (State.waitTimeout s) := by
  unfold State.waitTimeout
  exact (by split; exacts [bootFail_kept (set_kept (advance_kept (hk0)) h102) h101 h103 h104 h105, hk0])

theorem withStraps_kept {σ : Scope} {ρ : State} {s : State} {nid : ℕ} {role : ℕ} {boot : ℕ} (hk0 : Kept σ ρ s) (h101 : σ.part .pwr = true) :
    Kept σ ρ (State.withStraps s nid role boot) := by
  unfold State.withStraps
  exact Kept.pwr (hk0) h101 rfl

theorem execBootAuthDone_kept {σ : Scope} {clk : ℕ} {s : State} (h101 : σ.Full) :
    KeptNext σ s (execBootAuthDone clk s) := by
  unfold execBootAuthDone
  exact KeptNext.next (authed_kept (advance_kept (Kept.refl σ s)) h101)

theorem execBootDataWrite_kept {σ : Scope} {clk : ℕ} {data : Word} {s : State} (h101 : σ.Full) :
    KeptNext σ s (execBootDataWrite clk data s) := by
  unfold execBootDataWrite
  exact KeptNext.next (busWrite_kept (advance_kept (Kept.refl σ s)) h101)

theorem execBootEntryPage_kept {σ : Scope} {clk : ℕ} {s : State} (h101 : σ.Full) :
    KeptNext σ s (execBootEntryPage clk s) := by
  unfold execBootEntryPage
  exact KeptNext.next (entryPage_kept (advance_kept (Kept.refl σ s)) h101)

theorem execBootEntryProgram_kept {σ : Scope} {clk : ℕ} {s : State} (h101 : σ.Full) :
    KeptNext σ s (execBootEntryProgram clk s) := by
  unfold execBootEntryProgram
  exact KeptNext.next (entryProgram_kept (advance_kept (Kept.refl σ s)) h101)

theorem execBootEntryWait_kept {σ : Scope} {clk : ℕ} {s : State} (h101 : σ.part .boot = true) (h102 : σ.fld pSYS (Fld.mk 12 8 1)) (h103 : σ.fld pSYS F.SYS.AERR_LO.ADDR_LO) (h104 : σ.fld pSYS F.SYS.AERR_HI.ADDR_HI) (h105 : σ.fld pSYS F.SYS.AERR_HI.SOURCE) (h106 : σ.fld pSYS F.SYS.AERR_HI.VALID) (h107 : σ.fld pSYS F.SYS.BOOTENT.ENTRY) (h108 : σ.fld pSYS F.SYS.BOOTSTS.STAGE) (h109 : σ.fld pSYS (Fld.mk 12 9 1)) :
    KeptNext σ s (execBootEntryWait clk s) := by
  unfold execBootEntryWait
  exact KeptNext.next (entryWait_kept (advance_kept (Kept.refl σ s)) h101 h102 h103 h104 h105 h106 h107 h108 h109)

theorem execBootFetchDone_kept {σ : Scope} {clk : ℕ} {image : Option (List Byte)} {s : State} (h101 : σ.part .boot = true) (h102 : σ.fld pSYS F.SYS.BOOTCTL.GO) (h103 : σ.fld pSYS F.SYS.BOOTSTS.ALT) (h104 : σ.fld pSYS F.SYS.BOOTSTS.STAGE) (h105 : σ.fld pSYS F.SYS.BOOTSTS.ERR) (h106 : σ.fld pSYS (Fld.mk 12 10 1)) :
    KeptNext σ s (execBootFetchDone clk image s) := by
  unfold execBootFetchDone
  exact KeptNext.next (fetched_kept (advance_kept (Kept.refl σ s)) h101 h102 h103 h104 h105 h106)

theorem execBootGo_kept {σ : Scope} {clk : ℕ} {s : State} (h101 : σ.Full) :
    KeptNext σ s (execBootGo clk s) := by
  unfold execBootGo
  exact KeptNext.next (busWrite_kept (advance_kept (Kept.refl σ s)) h101)

theorem execBootWaitTimeout_kept {σ : Scope} {s : State} (h101 : σ.part .boot = true) (h102 : σ.fld pSYS F.SYS.BOOTERR.PAGE) (h103 : σ.fld pSYS F.SYS.BOOTSTS.STAGE) (h104 : σ.fld pSYS F.SYS.BOOTSTS.ERR) (h105 : σ.fld pSYS (Fld.mk 12 10 1)) :
    KeptNext σ s (execBootWaitTimeout s) := by
  unfold execBootWaitTimeout
  exact KeptNext.next (waitTimeout_kept (Kept.refl σ s) h101 h102 h103 h104 h105)

theorem execCalLoadDone_kept {σ : Scope} {clk : ℕ} {s : State} (h101 : σ.part .cal = true) (h102 : σ.fld pCAL F.CAL.STS.VALID) (h103 : σ.fld pCAL F.CAL.STS.WRITES) (h104 : σ.fld pCAL F.CAL.ORIGIN.ORIGIN) (h105 : σ.fld pSYS F.SYS.BOOTSTS.STAGE) :
    KeptNext σ s (execCalLoadDone clk s) := by
  unfold execCalLoadDone
  exact KeptNext.next (calLoad_kept (advance_kept (Kept.refl σ s)) h101 h102 h103 h104 h105)

theorem execCorePorRelease_kept {σ : Scope} {clk : ℕ} {nid : ℕ} {role : ℕ} {boot : ℕ} {s : State} (h101 : σ.part .pwr = true) (h102 : σ.part .datum = true) (h103 : σ.part .supply = true) (h104 : σ.part .slots = true) (h105 : σ.fld pSYS F.SYS.SERIAL.SN) (h106 : σ.fld pSYS F.SYS.STRAP.NID) (h107 : σ.fld pSYS F.SYS.STRAP.ROLE) (h108 : σ.fld pSYS F.SYS.STRAP.BOOT) (h109 : σ.fld pRESET F.RESET.CAUSE.all) (h110 : σ.fld pRESET F.RESET.CORE_RESETS.COUNT) (h111 : σ.fld pSYS F.HDR.PSTS.FAULT) (h112 : σ.fld pSYS (Fld.mk 12 1 1)) (h113 : σ.fld pSYS F.SYS.BOOTSTS.STAGE) (h114 : σ.fld pSYS F.SYS.BOOTSTS.ERR) (h115 : σ.fld pSYS (Fld.mk 12 10 1)) (h116 : ∀ n, σ.page (pSLOT n)) :
    KeptNext σ s (execCorePorRelease clk nid role boot s) := by
  unfold execCorePorRelease
  exact KeptNext.next (coreRelease_kept (withStraps_kept (advance_kept (Kept.refl σ s)) h101) h101 h102 h103 h104 h105 h106 h107 h108 h109 h110 h111 h112 h113 h114 h115 h116)

theorem execDomainReset_kept {σ : Scope} {clk : ℕ} {map : ℕ} {s : State} (h101 : σ.Full) :
    KeptNext σ s (execDomainReset clk map s) := by
  unfold execDomainReset
  exact KeptNext.next (busWrite_kept (advance_kept (Kept.refl σ s)) h101)

theorem execDomainResetDone_kept {σ : Scope} {clk : ℕ} {map : ℕ} {s : State} (h101 : σ.Full) :
    KeptNext σ s (execDomainResetDone clk map s) := by
  unfold execDomainResetDone
  exact KeptNext.next (domainDone_kept (advance_kept (Kept.refl σ s)) h101)

theorem execPllLock_kept {σ : Scope} {clk : ℕ} {s : State} (h101 : σ.part .pwr = true) (h102 : σ.fld pSYS F.SYS.BOOTSTS.STAGE) :
    KeptNext σ s (execPllLock clk s) := by
  unfold execPllLock
  exact KeptNext.next (pllLock_kept (advance_kept (Kept.refl σ s)) h101 h102)

theorem execResetCmd_kept {σ : Scope} {clk : ℕ} {s : State} (h101 : σ.Full) :
    KeptNext σ s (execResetCmd clk s) := by
  unfold execResetCmd
  exact KeptNext.next (busWrite_kept (advance_kept (Kept.refl σ s)) h101)

theorem execResetCmdFire_kept {σ : Scope} {s : State} (h101 : σ.Full) :
    KeptNext σ s (execResetCmdFire s) := by
  unfold execResetCmdFire
  exact KeptNext.next (cmdFire_kept (Kept.refl σ s) h101)

theorem execRstNAssert_kept {σ : Scope} {clk : ℕ} {s : State} (h101 : σ.Full) :
    KeptNext σ s (execRstNAssert clk s) := by
  unfold execRstNAssert
  exact KeptNext.next (rstLow_kept (advance_kept (Kept.refl σ s)) h101)

theorem execRstNRelease_kept {σ : Scope} {clk : ℕ} {nid : ℕ} {role : ℕ} {boot : ℕ} {s : State} (h101 : σ.part .pwr = true) (h102 : σ.part .datum = true) (h103 : σ.part .supply = true) (h104 : σ.part .slots = true) (h105 : σ.fld pSYS F.SYS.SERIAL.SN) (h106 : σ.fld pSYS F.SYS.STRAP.NID) (h107 : σ.fld pSYS F.SYS.STRAP.ROLE) (h108 : σ.fld pSYS F.SYS.STRAP.BOOT) (h109 : σ.fld pRESET F.RESET.CAUSE.all) (h110 : σ.fld pRESET F.RESET.CORE_RESETS.COUNT) (h111 : σ.fld pSYS F.HDR.PSTS.FAULT) (h112 : σ.fld pSYS (Fld.mk 12 1 1)) (h113 : σ.fld pSYS F.SYS.BOOTSTS.STAGE) (h114 : σ.fld pSYS F.SYS.BOOTSTS.ERR) (h115 : σ.fld pSYS (Fld.mk 12 10 1)) (h116 : ∀ n, σ.page (pSLOT n)) (h117 : σ.fld pSUPPLY F.SUPPLY.STS.RF_LATCH) (h118 : σ.fld pSUPPLY F.SUPPLY.STS.SEQ_BUSY) :
    KeptNext σ s (execRstNRelease clk nid role boot s) := by
  unfold execRstNRelease
  exact KeptNext.next (rstHigh_kept (withStraps_kept (advance_kept (Kept.refl σ s)) h101) h101 h102 h103 h104 h105 h106 h107 h108 h109 h110 h111 h112 h113 h114 h115 h116 h117 h118)

theorem execSelfTestDone_kept {σ : Scope} {clk : ℕ} {failed : List ℕ} {uncorr : Bool} {s : State} (h101 : σ.Full) :
    KeptNext σ s (execSelfTestDone clk failed uncorr s) := by
  unfold execSelfTestDone
  exact KeptNext.next (selfTest_kept (advance_kept (Kept.refl σ s)) h101)

theorem execWdogArm_kept {σ : Scope} {clk : ℕ} {data : Word} {s : State} (h101 : σ.Full) :
    KeptNext σ s (execWdogArm clk data s) := by
  unfold execWdogArm
  exact KeptNext.next (busWrite_kept (advance_kept (Kept.refl σ s)) h101)

theorem execWdogDelayedReset_kept {σ : Scope} {s : State} (h101 : σ.Full) :
    KeptNext σ s (execWdogDelayedReset s) := by
  unfold execWdogDelayedReset
  exact KeptNext.next (wdogDelayed_kept (Kept.refl σ s) h101)

theorem execWdogExpire_kept {σ : Scope} {s : State} (h101 : σ.Full) :
    KeptNext σ s (execWdogExpire s) := by
  unfold execWdogExpire
  exact KeptNext.next (wdogExpire_kept (Kept.refl σ s) h101)

theorem execWdogKick_kept {σ : Scope} {clk : ℕ} {s : State} (h101 : σ.Full) :
    KeptNext σ s (execWdogKick clk s) := by
  unfold execWdogKick
  exact KeptNext.next (busWrite_kept (advance_kept (Kept.refl σ s)) h101)

end Sys2Proof.Laws
end

