-- ==== Sys2Proof/Laws/Kept13.lean ====
section
/-!
SUPPORT. What the operations and commands of these files keep: Machine/Bridge, Machine/Manager, Machine/StakeReg, Machine/Takeover.
-/

namespace Sys2Proof.Laws

open Sys2Proof Sys2Proof.Machine

theorem outRemove_kept {σ : Scope} {ρ : State} {s : State} {tag : ℕ} (hk0 : Kept σ ρ s) (h101 : σ.part .bridge = true) :
    Kept σ ρ (State.outRemove s tag) := by
  unfold State.outRemove
  exact Kept.bridge (hk0) h101

theorem complete_kept {σ : Scope} {ρ : State} {s : State} {tag : ℕ} {b : List Byte} (hk0 : Kept σ ρ s) (h101 : σ.part .bridge = true) :
    Kept σ ρ (State.complete s tag b) := by
  unfold State.complete
  exact post_kept (hk0) h101

theorem localNext_kept {σ : Scope} {ρ : State} {st : State × List (ℕ × Byte)} {b : ℕ × ℕ × List Byte} (hq0 : Kept σ ρ st.1) (h101 : σ.part .result = true) (h102 : σ.part .engs = true) (h103 : σ.part .book = true) (h104 : σ.part .ports = true) (h105 : σ.part .mscl = true) (h106 : σ.part .sw = true) (h107 : σ.part .mem = true) (h108 : σ.part .gang = true) (h109 : σ.part .stamps = true) (h110 : σ.part .plat = true) (h111 : σ.part .tally = true) (h112 : σ.part .dup = true) (h113 : σ.part .pwr = true) (h114 : σ.part .bridge = true) (h115 : σ.part .shadow = true) (h116 : σ.part .stake = true) (h117 : σ.page (pENG (regPage (adrLocal b.1) - 32))) (h118 : σ.page pBOOK) (h119 : σ.page pDATUM) (h120 : σ.page pHSR) (h121 : σ.page pSWITCH) (h122 : σ.page pSTAMP) (h123 : σ.page pCAPTURE) (h124 : ∀ n, σ.page (pPORT n)) (h125 : σ.page pBUFMEM) (h126 : σ.page pMACSEC) (h127 : σ.page pDUPLEX) (h128 : σ.page pSYS) (h129 : σ.page pBRIDGE) (h130 : σ.page pFDB) (h131 : σ.page (pCAN (regPage (adrLocal b.1) - pCAN 0))) (h132 : σ.page pCAL) (h133 : σ.page (pENG (regPage (adrLocal (b.1 + 4)) - 32))) (h134 : σ.page (pCAN (regPage (adrLocal (b.1 + 4)) - pCAN 0))) :
    Kept σ ρ (State.localNext st b).1 := by
  unfold State.localNext
  exact localRead_kept (hq0) h101 h102 h103 h104 h105 h106 h107 h108 h109 h110 h111 h112 h113 h114 h115 h116 h117 h118 h119 h120 h121 h122 h123 h124 h125 h126 h127 h128 h129 h130 h131 h132 h133 h134

theorem bar0Read_kept {σ : Scope} {ρ : State} {st : State × List (ℕ × Byte)} {b : ℕ × ℕ × List Byte} (hq0 : Kept σ ρ st.1) (h101 : σ.part .result = true) (h102 : σ.part .engs = true) (h103 : σ.part .book = true) (h104 : σ.part .ports = true) (h105 : σ.part .mscl = true) (h106 : σ.part .sw = true) (h107 : σ.part .mem = true) (h108 : σ.part .gang = true) (h109 : σ.part .stamps = true) (h110 : σ.part .plat = true) (h111 : σ.part .tally = true) (h112 : σ.part .dup = true) (h113 : σ.part .pwr = true) (h114 : σ.part .bridge = true) (h115 : σ.part .shadow = true) (h116 : σ.part .stake = true) (h117 : σ.page (pENG (regPage (adrLocal b.1) - 32))) (h118 : σ.page pBOOK) (h119 : σ.page pDATUM) (h120 : σ.page pHSR) (h121 : σ.page pSWITCH) (h122 : σ.page pSTAMP) (h123 : σ.page pCAPTURE) (h124 : ∀ n, σ.page (pPORT n)) (h125 : σ.page pBUFMEM) (h126 : σ.page pMACSEC) (h127 : σ.page pDUPLEX) (h128 : σ.page pSYS) (h129 : σ.page pBRIDGE) (h130 : σ.page pFDB) (h131 : σ.page (pCAN (regPage (adrLocal b.1) - pCAN 0))) (h132 : σ.page pCAL) (h133 : σ.page (pENG (regPage (adrLocal (b.1 + 4)) - 32))) (h134 : σ.page (pCAN (regPage (adrLocal (b.1 + 4)) - pCAN 0))) :
    Kept σ ρ (State.bar0Read st b).1 := by
  unfold State.bar0Read
  exact Kept.iteFst (hq0) (Kept.iteFst (localNext_kept (hq0) h101 h102 h103 h104 h105 h106 h107 h108 h109 h110 h111 h112 h113 h114 h115 h116 h117 h118 h119 h120 h121 h122 h123 h124 h125 h126 h127 h128 h129 h130 h131 h132 h133 h134) (addressError_kept (hq0) h128.fld h128.fld h128.fld h128.fld h128.fld))

theorem bar0Msix_kept {σ : Scope} {ρ : State} {s : State} {b : ℕ × ℕ × List Byte} {h : ℕ} (hk0 : Kept σ ρ s) (h101 : σ.part .bridge = true) :
    Kept σ ρ (State.bar0Msix s b h) := by
  unfold State.bar0Msix
  exact Kept.ite (msixWrite_kept (hk0) h101) (hk0)

theorem bar0Write_kept {σ : Scope} {ρ : State} {s : State} {b : ℕ × ℕ × List Byte} (hk0 : Kept σ ρ s) (h101 : σ.Full) :
    Kept σ ρ (State.bar0Write s b) := by
  unfold State.bar0Write
  exact Kept.ite (Kept.foldl (fun x0 a1 k2 => bar0Msix_kept (k2) (h101.1 _)) _ _ (hk0)) (Kept.ite (hk0) (Kept.ite (localWrite_kept (hk0) h101) (addressError_kept (hk0) (fun _ _ => h101.2 _) (fun _ _ => h101.2 _) (fun _ _ => h101.2 _) (fun _ _ => h101.2 _) (fun _ _ => h101.2 _))))

theorem bar0Req_kept {σ : Scope} {ρ : State} {s : State} {r : HostReq} (hk0 : Kept σ ρ s) (h101 : σ.Full) :
    Kept σ ρ (State.bar0Req s r) := by
  unfold State.bar0Req
  exact Kept.ite (complete_kept (Kept.foldlFst (fun x0 a1 k2 => bar0Read_kept (k2) (h101.1 _) (h101.1 _) (h101.1 _) (h101.1 _) (h101.1 _) (h101.1 _) (h101.1 _) (h101.1 _) (h101.1 _) (h101.1 _) (h101.1 _) (h101.1 _) (h101.1 _) (h101.1 _) (h101.1 _) (h101.1 _) (fun _ => h101.2 _) (fun _ => h101.2 _) (fun _ => h101.2 _) (fun _ => h101.2 _) (fun _ => h101.2 _) (fun _ => h101.2 _) (fun _ => h101.2 _) (fun _ _ => h101.2 _) (fun _ => h101.2 _) (fun _ => h101.2 _) (fun _ => h101.2 _) (fun _ => h101.2 _) (fun _ => h101.2 _) (fun _ => h101.2 _) (fun _ => h101.2 _) (fun _ => h101.2 _) (fun _ => h101.2 _) (fun _ => h101.2 _)) _ _ (hk0)) (h101.1 _)) (Kept.foldl (fun x3 a4 k5 => bar0Write_kept (k5) h101) _ _ (hk0))

theorem completeOnes_kept {σ : Scope} {ρ : State} {s : State} {r : HostReq} (hk0 : Kept σ ρ s) (h101 : σ.part .bridge = true) :
    Kept σ ρ (State.completeOnes s r) := by
  unfold State.completeOnes
  exact Kept.ite (complete_kept (hk0) h101) (hk0)

theorem localReq_kept {σ : Scope} {ρ : State} {s : State} {r : HostReq} {a : ℕ} {blocks : List (ℕ × ℕ × List Byte)} (hk0 : Kept σ ρ s) (h101 : σ.Full) :
    Kept σ ρ (State.localReq s r a blocks) := by
  unfold State.localReq
  exact Kept.ite (complete_kept (Kept.foldlFst (fun x0 a1 k2 => localNext_kept (k2) (h101.1 _) (h101.1 _) (h101.1 _) (h101.1 _) (h101.1 _) (h101.1 _) (h101.1 _) (h101.1 _) (h101.1 _) (h101.1 _) (h101.1 _) (h101.1 _) (h101.1 _) (h101.1 _) (h101.1 _) (h101.1 _) (fun _ => h101.2 _) (fun _ => h101.2 _) (fun _ => h101.2 _) (fun _ => h101.2 _) (fun _ => h101.2 _) (fun _ => h101.2 _) (fun _ => h101.2 _) (fun _ _ => h101.2 _) (fun _ => h101.2 _) (fun _ => h101.2 _) (fun _ => h101.2 _) (fun _ => h101.2 _) (fun _ => h101.2 _) (fun _ => h101.2 _) (fun _ => h101.2 _) (fun _ => h101.2 _) (fun _ => h101.2 _) (fun _ => h101.2 _)) _ _ (hk0)) (h101.1 _)) (Kept.foldl (fun x3 a4 k5 => localWrite_kept (k5) h101) _ _ (hk0))

theorem sendTrans_kept {σ : Scope} {ρ s : State} {node member k : Nat} {l : List Trans} (h : Kept σ ρ s)
    (hw : σ.part .sw = true) (hm : σ.part .mem = true) (hp : ∀ n, σ.page (pPORT n)) (hh : σ.page pHSR) (hc : σ.page pCAPTURE)
    (hb : σ.page pBUFMEM) (hs : σ.page pSWITCH) : Kept σ ρ (s.sendTrans node member k l) := by
  induction k generalizing s l with
  | zero => exact h
  | succ k ih =>
    unfold State.sendTrans
    split
    · exact h
    · refine ih ?_
      split
      · exact sendRing_kept h hw hm hh.fld hs.fld hs.fld hp hc.fld hc.fld hc.fld hc.fld hb.fld hs.fld hs.fld
      · split
        · exact sendMember_kept h hw hm hs.fld hs.fld hp hc.fld hc.fld hc.fld hc.fld hb.fld hs.fld hs.fld
        · exact sendCopies_kept h hw hm hs.fld hs.fld hp hc.fld hc.fld hc.fld hc.fld hb.fld

theorem issueOne_kept {σ : Scope} {ρ : State} {s : State} {r : HostReq} {op : ℕ} {w : ℕ} {node : ℕ} {member : ℕ} {b : ℕ × ℕ × List Byte} (hk0 : Kept σ ρ s) (h101 : σ.part .bridge = true) :
    Kept σ ρ (State.issueOne s r op w node member b).1 := by
  unfold State.issueOne
  exact Kept.bridge (hk0) h101

theorem issueNext_kept {σ : Scope} {ρ : State} {r : HostReq} {op : ℕ} {w : ℕ} {node : ℕ} {member : ℕ} {st : State × List Trans} {b : ℕ × ℕ × List Byte} (hq0 : Kept σ ρ st.1) (h101 : σ.part .bridge = true) :
    Kept σ ρ (State.issueNext r op w node member st b).1 := by
  unfold State.issueNext
  exact issueOne_kept (hq0) h101

theorem remoteReq_kept {σ : Scope} {ρ : State} {s : State} {r : HostReq} {w : ℕ} {a : ℕ} {node : ℕ} {member : ℕ} {blocks : List (ℕ × ℕ × List Byte)} (hk0 : Kept σ ρ s) (h101 : σ.part .bridge = true) (h102 : σ.part .sw = true) (h103 : σ.part .mem = true) (h104 : ∀ n, σ.page (pPORT n)) (h105 : σ.page pHSR) (h106 : σ.page pCAPTURE) (h107 : σ.page pBUFMEM) (h108 : σ.page pSWITCH) :
    Kept σ ρ (State.remoteReq s r w a node member blocks) := by
  unfold State.remoteReq
  exact sendTrans_kept (Kept.foldlFst (fun x5 a6 k7 => issueNext_kept (k7) h101) _ _ (Kept.ite (Kept.bridge (hk0) h101) (hk0))) h102 h103 h104 h105 h106 h107 h108

theorem broadcastReq_kept {σ : Scope} {ρ : State} {s : State} {r : HostReq} {w : ℕ} {a : ℕ} {blocks : List (ℕ × ℕ × List Byte)} (hk0 : Kept σ ρ s) (h101 : σ.Full) :
    Kept σ ρ (State.broadcastReq s r w a blocks) := by
  unfold State.broadcastReq
  exact remoteReq_kept (Kept.foldl (fun x5 a6 k7 => Kept.ite (k7) (localWrite_kept (k7) h101)) _ _ (hk0)) (h101.1 _) (h101.1 _) (h101.1 _) (fun _ _ => h101.2 _) (fun _ => h101.2 _) (fun _ => h101.2 _) (fun _ => h101.2 _) (fun _ => h101.2 _)

theorem hostReq_kept {σ : Scope} {ρ : State} {s : State} {r : HostReq} (hk0 : Kept σ ρ s) (h101 : σ.Full) :
    Kept σ ρ (State.hostReq s r) := by
  unfold State.hostReq
  exact Kept.ite (bar0Req_kept (hk0) h101) (Kept.cut (fun k1 => Kept.ite (k1) (Kept.ite (completeOnes_kept (bump_kept (hk0) (fun _ _ => h101.2 _)) (h101.1 _)) (Kept.ite (Kept.ite (localReq_kept (hk0) h101) (Kept.ite (remoteReq_kept (hk0) (h101.1 _) (h101.1 _) (h101.1 _) (fun _ _ => h101.2 _) (fun _ => h101.2 _) (fun _ => h101.2 _) (fun _ => h101.2 _) (fun _ => h101.2 _)) (k1))) (Kept.ite (remoteReq_kept (hk0) (h101.1 _) (h101.1 _) (h101.1 _) (fun _ _ => h101.2 _) (fun _ => h101.2 _) (fun _ => h101.2 _) (fun _ => h101.2 _) (fun _ => h101.2 _)) (Kept.ite (broadcastReq_kept (hk0) h101) (k1)))))) (completeOnes_kept (addressError_kept (hk0) (fun _ _ => h101.2 _) (fun _ _ => h101.2 _) (fun _ _ => h101.2 _) (fun _ _ => h101.2 _) (fun _ _ => h101.2 _)) (h101.1 _)))

theorem hostGo_kept {σ : Scope} {ρ : State} {s : State} {r : HostReq} (hk0 : Kept σ ρ s) (h101 : σ.Full) :
    Kept σ ρ (State.hostGo s r) := by
  unfold State.hostGo
  exact Kept.ite (Kept.bridge (hk0) (h101.1 _)) (hostReq_kept (hk0) h101)

theorem hrDrain_kept {σ : Scope} {ρ : State} {s : State} (hk0 : Kept σ ρ s) (h101 : σ.Full) :
    Kept σ ρ (State.hrDrain s) := by
  unfold State.hrDrain
  exact Kept.foldl (fun x0 a1 k2 => hostGo_kept (k2) h101) _ _ (Kept.bridge (hk0) (h101.1 _))

theorem llogAdd_kept {σ : Scope} {ρ : State} {s : State} {addr : ℕ} {reason : ℕ} {win : ℕ} {t : ℕ} (hk0 : Kept σ ρ s) (h101 : σ.part .bridge = true) (h102 : σ.fld pBRIDGE (Fld.mk 12 8 1)) (h103 : σ.fld pBRIDGE F.BRIDGE.LLOG_OVF.COUNT) :
    Kept σ ρ (State.llogAdd s addr reason win t) := by
  unfold State.llogAdd
  exact Kept.cut (fun k1 => Kept.ite (Kept.bridge (k1) h101) (bump_kept (k1) h103)) (event_kept (hk0) h102)

theorem winStop_kept {σ : Scope} {ρ : State} {s : State} {w : ℕ} (hk0 : Kept σ ρ s) (h101 : σ.fld pWINDOWS F.WINDOWS.WINSTS.ERR) (h102 : σ.fld pWINDOWS (Fld.mk 12 8 1)) :
    Kept σ ρ (State.winStop s w) := by
  unfold State.winStop
  exact Kept.ite (hk0) (event_kept (set_kept (markSet_kept (hk0)) h101) h102)

theorem npFailed_kept {σ : Scope} {ρ : State} {s : State} {o : Outst} {reason : Option ℕ} (hk0 : Kept σ ρ s) (h101 : σ.part .bridge = true) (h102 : σ.fld pBRIDGE (Fld.mk 12 8 1)) (h103 : σ.fld pBRIDGE F.BRIDGE.LLOG_OVF.COUNT) (h104 : σ.fld pWINDOWS F.WINDOWS.WINSTS.ERR) (h105 : σ.fld pWINDOWS (Fld.mk 12 8 1)) :
    Kept σ ρ (State.npFailed s o reason) := by
  unfold State.npFailed
  exact winStop_kept (llogAdd_kept (nextFree_kept (hk0)) h101 h102 h103) h104 h105

theorem ackIn_kept {σ : Scope} {ρ : State} {s : State} {t : Trans} (hk0 : Kept σ ρ s) (h101 : σ.Full) :
    Kept σ ρ (State.ackIn s t) := by
  unfold State.ackIn
  exact Kept.ite (hk0) ((by (try dsimp only); split; exacts [bump_kept (hk0) (fun _ _ => h101.2 _), Kept.cut (fun k1 => hrDrain_kept (Kept.ite (k1) (npFailed_kept (k1) (h101.1 _) (fun _ _ => h101.2 _) (fun _ _ => h101.2 _) (fun _ _ => h101.2 _) (fun _ _ => h101.2 _))) h101) (outRemove_kept (hk0) (h101.1 _))]))

theorem anyWrite_kept {σ : Scope} {ρ : State} {s : State} {page : ℕ} {off : ℕ} {data : Word} {src : Source} (hk0 : Kept σ ρ s) (h101 : σ.Full) :
    Kept σ ρ (State.anyWrite s page off data src) := by
  unfold State.anyWrite
  exact Kept.ite (msixWrite_kept (hk0) (h101.1 _)) (busWrite_kept (hk0) h101)

theorem classGo_kept {σ : Scope} {ρ : State} {s : State} (hk0 : Kept σ ρ s) (h101 : σ.Full) :
    Kept σ ρ (State.classGo s) := by
  unfold State.classGo
  exact Kept.ite (rhGo_kept (hk0) (h101.1 _)) (hrDrain_kept (rhGo_kept (hk0) (h101.1 _)) h101)

theorem partIn_kept {σ : Scope} {ρ : State} {s : State} {o : Outst} {d : List Byte} (hk0 : Kept σ ρ s) (h101 : σ.part .bridge = true) :
    Kept σ ρ (State.partIn s o d) := by
  unfold State.partIn
  exact (by (try dsimp only); split; exacts [hk0, Kept.ite (complete_kept (Kept.bridge (hk0) h101) h101) (Kept.bridge (hk0) h101)])

theorem uncut_kept {σ : Scope} {ρ : State} {s : State} {c : CutRead} (hk0 : Kept σ ρ s) (h101 : σ.part .bridge = true) (h102 : σ.fld pBRIDGE F.BRIDGE.NPTO.COUNT) (h103 : σ.reg (regKey pBRIDGE 12) = true) :
    Kept σ ρ (State.uncut s c) := by
  unfold State.uncut
  exact Kept.cut (fun k1 => Kept.bridge (Kept.ite (k1) (wr_kept (k1) h103)) h101) (bumpBy_kept (hk0) h102)

theorem cplIn_kept {σ : Scope} {ρ : State} {s : State} {t : Trans} (hk0 : Kept σ ρ s) (h101 : σ.part .bridge = true) (h102 : σ.fld pBRIDGE F.BRIDGE.NPTO.COUNT) (h103 : σ.reg (regKey pBRIDGE 12) = true) (h104 : σ.fld pBRIDGE F.BRIDGE.LATE_CPL.COUNT) :
    Kept σ ρ (State.cplIn s t) := by
  unfold State.cplIn
  exact Kept.ite (hk0) ((by split; exacts [partIn_kept (outRemove_kept (hk0) h101) h101, (by split; exacts [partIn_kept (uncut_kept (hk0) h101 h102 h103) h101, bump_kept (hk0) h104])]))

theorem gatherSend_kept {σ : Scope} {ρ : State} {s : State} {g : Gather} (hk0 : Kept σ ρ s) (h101 : σ.part .bridge = true) (h102 : σ.part .sw = true) (h103 : σ.part .mem = true) (h104 : σ.fld pHSR F.HSR.SEQ.NEXT) (h105 : σ.fld pSWITCH F.SWITCH.BUF_DROP.COUNT) (h106 : σ.fld pSWITCH (Fld.mk 12 9 1)) (h107 : ∀ n, σ.page (pPORT n)) (h108 : σ.fld pCAPTURE F.CAPTURE.LOST.COUNT) (h109 : σ.fld pCAPTURE (Fld.mk 12 9 1)) (h110 : σ.fld pCAPTURE F.CAPTURE.WR_SEQ.SEQ) (h111 : σ.fld pCAPTURE (Fld.mk 12 8 1)) (h112 : σ.fld pBUFMEM (Fld.mk 12 13 1)) (h113 : σ.fld pSWITCH F.SWITCH.NOPATH.COUNT) (h114 : σ.fld pSWITCH (Fld.mk 12 11 1)) :
    Kept σ ρ (State.gatherSend s g) := by
  unfold State.gatherSend
  exact sendNotice_kept (Kept.bridge (hk0) h101) h102 h103 h104 h105 h106 h107 h108 h109 h110 h111 h112 h113 h114

theorem gatherDue_kept {σ : Scope} {ρ : State} {s : State} {node : ℕ} {member : ℕ} (hk0 : Kept σ ρ s) (h101 : σ.part .bridge = true) (h102 : σ.part .sw = true) (h103 : σ.part .mem = true) (h104 : σ.fld pHSR F.HSR.SEQ.NEXT) (h105 : σ.fld pSWITCH F.SWITCH.BUF_DROP.COUNT) (h106 : σ.fld pSWITCH (Fld.mk 12 9 1)) (h107 : ∀ n, σ.page (pPORT n)) (h108 : σ.fld pCAPTURE F.CAPTURE.LOST.COUNT) (h109 : σ.fld pCAPTURE (Fld.mk 12 9 1)) (h110 : σ.fld pCAPTURE F.CAPTURE.WR_SEQ.SEQ) (h111 : σ.fld pCAPTURE (Fld.mk 12 8 1)) (h112 : σ.fld pBUFMEM (Fld.mk 12 13 1)) (h113 : σ.fld pSWITCH F.SWITCH.NOPATH.COUNT) (h114 : σ.fld pSWITCH (Fld.mk 12 11 1)) :
    Kept σ ρ (State.gatherDue s node member) := by
  unfold State.gatherDue
  exact (by split; exacts [hk0, gatherSend_kept (advance_kept (hk0)) h101 h102 h103 h104 h105 h106 h107 h108 h109 h110 h111 h112 h113 h114])

theorem hostArrive_kept {σ : Scope} {ρ : State} {s : State} {r : HostReq} (hk0 : Kept σ ρ s) (h101 : σ.Full) :
    Kept σ ρ (State.hostArrive s r) := by
  unfold State.hostArrive
  exact classGo_kept (hostGo_kept (hk0) h101) h101

theorem hostIn_kept {σ : Scope} {ρ : State} {s : State} {r : HostReq} (hk0 : Kept σ ρ s) (h101 : σ.Full) :
    Kept σ ρ (State.hostIn s r) := by
  unfold State.hostIn
  exact Kept.ite (hostArrive_kept (hk0) h101) (hk0)

theorem hostMap_kept {σ : Scope} {ρ : State} {s : State} {f : Frame} (hk0 : Kept σ ρ s) :
    Kept σ ρ (State.hostMap s f).1 := by
  unfold State.hostMap
  exact nextFree_kept (hk0)

theorem hostSend_kept {σ : Scope} {ρ : State} {s : State} {h : List Byte} {frame : List Byte} (hk0 : Kept σ ρ s) (h101 : σ.part .sw = true) (h102 : σ.part .mem = true) (h103 : σ.fld pHSR F.HSR.SEQ.NEXT) (h104 : σ.fld pSWITCH F.SWITCH.BUF_DROP.COUNT) (h105 : σ.fld pSWITCH (Fld.mk 12 9 1)) (h106 : ∀ n, σ.page (pPORT n)) (h107 : σ.fld pCAPTURE F.CAPTURE.LOST.COUNT) (h108 : σ.fld pCAPTURE (Fld.mk 12 9 1)) (h109 : σ.fld pCAPTURE F.CAPTURE.WR_SEQ.SEQ) (h110 : σ.fld pCAPTURE (Fld.mk 12 8 1)) (h111 : σ.fld pBUFMEM (Fld.mk 12 13 1)) :
    Kept σ ρ (State.hostSend s h frame) := by
  unfold State.hostSend
  exact sendForms_kept (Kept.iteFst (Kept.iteFst (hostMap_kept (hk0)) (hk0)) (hsrTag_kept (Kept.iteFst (hostMap_kept (hk0)) (hk0)) h103)) h101 h102 h104 h105 h106 h107 h108 h109 h110 h111

theorem keepCut_kept {σ : Scope} {ρ : State} {s : State} {o : Outst} (hk0 : Kept σ ρ s) (h101 : σ.part .bridge = true) :
    Kept σ ρ (State.keepCut s o) := by
  unfold State.keepCut
  exact Kept.bridge (hk0) h101

theorem postedWin_kept {σ : Scope} {ρ : State} {s : State} {addr : ℕ} (hk0 : Kept σ ρ s) :
    Kept σ ρ (State.postedWin s addr).1 := by
  unfold State.postedWin
  exact (by split; exacts [hk0, nextFree_kept (hk0)])

theorem lateIn_kept {σ : Scope} {ρ : State} {s : State} {entries : List LateErr} (hk0 : Kept σ ρ s) (h101 : σ.part .bridge = true) (h102 : σ.fld pBRIDGE (Fld.mk 12 8 1)) (h103 : σ.fld pBRIDGE F.BRIDGE.LLOG_OVF.COUNT) :
    Kept σ ρ (State.lateIn s entries) := by
  unfold State.lateIn
  exact Kept.ite (Kept.foldl (fun x0 a1 k2 => llogAdd_kept (postedWin_kept (k2)) h101 h102 h103) _ _ (hk0)) (hk0)

theorem npTimeout_kept {σ : Scope} {ρ : State} {s : State} {tag : ℕ} (hk0 : Kept σ ρ s) (h101 : σ.Full) :
    Kept σ ρ (State.npTimeout s tag) := by
  unfold State.npTimeout
  exact (by (try dsimp only); split; exacts [hk0, Kept.cut (fun k1 => Kept.cut (fun k3 => Kept.ite (partIn_kept (k3) (h101.1 _)) (hrDrain_kept (npFailed_kept (k3) (h101.1 _) (fun _ _ => h101.2 _) (fun _ _ => h101.2 _) (fun _ _ => h101.2 _) (fun _ _ => h101.2 _)) h101)) (event_kept (bump_kept (Kept.ite (keepCut_kept (k1) (h101.1 _)) (k1)) (fun _ _ => h101.2 _)) (fun _ _ => h101.2 _))) (outRemove_kept (advance_kept (hk0)) (h101.1 _))])

theorem updIssuer_kept {σ : Scope} {ρ : State} {s : State} {i : Issuer} (hk0 : Kept σ ρ s) (h101 : σ.part .bridge = true) :
    Kept σ ρ (State.updIssuer s i) := by
  unfold State.updIssuer
  exact Kept.bridge (hk0) h101

theorem reply_kept {σ : Scope} {ρ : State} {s : State} {node : ℕ} {member : ℕ} {t : Trans} (hk0 : Kept σ ρ s) (h101 : σ.part .sw = true) (h102 : σ.part .mem = true) (h103 : ∀ n, σ.page (pPORT n)) (h104 : σ.page pHSR) (h105 : σ.page pCAPTURE) (h106 : σ.page pBUFMEM) (h107 : σ.page pSWITCH) :
    Kept σ ρ (State.reply s node member t) := by
  unfold State.reply
  exact sendTrans_kept (hk0) h101 h102 h103 h104 h105 h106 h107

theorem ringHalf_kept {σ : Scope} {ρ : State} {port : ℕ} {node : ℕ} {member : ℕ} {t : Trans} {src : Source} {st : State × ℕ} {h : ℕ} (hq0 : Kept σ ρ st.1) (h101 : σ.Full) :
    Kept σ ρ (State.ringHalf port node member t src st h).1 := by
  unfold State.ringHalf
  exact Kept.ite (addressError_kept (hq0) (fun _ _ => h101.2 _) (fun _ _ => h101.2 _) (fun _ _ => h101.2 _) (fun _ _ => h101.2 _) (fun _ _ => h101.2 _)) (Kept.ite (writeHalf_kept (hq0) h101) (hq0))

theorem ringWrite_kept {σ : Scope} {ρ : State} {s : State} {port : ℕ} {node : ℕ} {member : ℕ} {t : Trans} (hk0 : Kept σ ρ s) (h101 : σ.Full) :
    Kept σ ρ (State.ringWrite s port node member t).1 := by
  unfold State.ringWrite
  exact Kept.iteFst (addressError_kept (hk0) (fun _ _ => h101.2 _) (fun _ _ => h101.2 _) (fun _ _ => h101.2 _) (fun _ _ => h101.2 _) (fun _ _ => h101.2 _)) (Kept.iteFst (Kept.iteFst (addressError_kept (hk0) (fun _ _ => h101.2 _) (fun _ _ => h101.2 _) (fun _ _ => h101.2 _) (fun _ _ => h101.2 _) (fun _ _ => h101.2 _)) (Kept.iteFst (addressError_kept (hk0) (fun _ _ => h101.2 _) (fun _ _ => h101.2 _) (fun _ _ => h101.2 _) (fun _ _ => h101.2 _) (fun _ _ => h101.2 _)) (Kept.ite (hk0) (localWrite_kept (hk0) h101)))) (Kept.iteFst (Kept.foldlFst (fun x0 a1 k2 => ringHalf_kept (k2) h101) _ _ (hk0)) (Kept.iteFst (addressError_kept (hk0) (fun _ _ => h101.2 _) (fun _ _ => h101.2 _) (fun _ _ => h101.2 _) (fun _ _ => h101.2 _) (fun _ _ => h101.2 _)) (Kept.iteFst (addressError_kept (hk0) (fun _ _ => h101.2 _) (fun _ _ => h101.2 _) (fun _ _ => h101.2 _) (fun _ _ => h101.2 _) (fun _ _ => h101.2 _)) (localWrite_kept (hk0) h101)))))

theorem refusePosted_kept {σ : Scope} {ρ : State} {s : State} {node : ℕ} {member : ℕ} {addr : ℕ} {reason : ℕ} (hk0 : Kept σ ρ s) (h101 : σ.part .bridge = true) (h102 : σ.part .sw = true) (h103 : σ.part .mem = true) (h104 : σ.fld pHSR F.HSR.SEQ.NEXT) (h105 : σ.fld pSWITCH F.SWITCH.BUF_DROP.COUNT) (h106 : σ.fld pSWITCH (Fld.mk 12 9 1)) (h107 : ∀ n, σ.page (pPORT n)) (h108 : σ.fld pCAPTURE F.CAPTURE.LOST.COUNT) (h109 : σ.fld pCAPTURE (Fld.mk 12 9 1)) (h110 : σ.fld pCAPTURE F.CAPTURE.WR_SEQ.SEQ) (h111 : σ.fld pCAPTURE (Fld.mk 12 8 1)) (h112 : σ.fld pBUFMEM (Fld.mk 12 13 1)) (h113 : σ.fld pSWITCH F.SWITCH.NOPATH.COUNT) (h114 : σ.fld pSWITCH (Fld.mk 12 11 1)) :
    Kept σ ρ (State.refusePosted s node member addr reason) := by
  unfold State.refusePosted
  exact (by (try dsimp only); split; exacts [Kept.bridge (hk0) h101, Kept.ite (gatherSend_kept (hk0) h101 h102 h103 h104 h105 h106 h107 h108 h109 h110 h111 h112 h113 h114) (Kept.bridge (hk0) h101)])

theorem transApply_kept {σ : Scope} {ρ : State} {s : State} {node : ℕ} {member : ℕ} {port : ℕ} {t : Trans} (hk0 : Kept σ ρ s) (h101 : σ.Full) :
    Kept σ ρ (State.transApply s node member port t) := by
  unfold State.transApply
  exact Kept.ite (reply_kept (Kept.iteFst (localRead_kept (hk0) (h101.1 _) (h101.1 _) (h101.1 _) (h101.1 _) (h101.1 _) (h101.1 _) (h101.1 _) (h101.1 _) (h101.1 _) (h101.1 _) (h101.1 _) (h101.1 _) (h101.1 _) (h101.1 _) (h101.1 _) (h101.1 _) (fun _ => h101.2 _) (fun _ => h101.2 _) (fun _ => h101.2 _) (fun _ => h101.2 _) (fun _ => h101.2 _) (fun _ => h101.2 _) (fun _ => h101.2 _) (fun _ _ => h101.2 _) (fun _ => h101.2 _) (fun _ => h101.2 _) (fun _ => h101.2 _) (fun _ => h101.2 _) (fun _ => h101.2 _) (fun _ => h101.2 _) (fun _ => h101.2 _) (fun _ => h101.2 _) (fun _ => h101.2 _) (fun _ => h101.2 _)) (addressError_kept (hk0) (fun _ _ => h101.2 _) (fun _ _ => h101.2 _) (fun _ _ => h101.2 _) (fun _ _ => h101.2 _) (fun _ _ => h101.2 _))) (h101.1 _) (h101.1 _) (fun _ _ => h101.2 _) (fun _ => h101.2 _) (fun _ => h101.2 _) (fun _ => h101.2 _) (fun _ => h101.2 _)) (Kept.ite (reply_kept (ringWrite_kept (hk0) h101) (h101.1 _) (h101.1 _) (fun _ _ => h101.2 _) (fun _ => h101.2 _) (fun _ => h101.2 _) (fun _ => h101.2 _) (fun _ => h101.2 _)) (Kept.ite (ringWrite_kept (hk0) h101) (refusePosted_kept (ringWrite_kept (hk0) h101) (h101.1 _) (h101.1 _) (h101.1 _) (fun _ _ => h101.2 _) (fun _ _ => h101.2 _) (fun _ _ => h101.2 _) (fun _ _ => h101.2 _) (fun _ _ => h101.2 _) (fun _ _ => h101.2 _) (fun _ _ => h101.2 _) (fun _ _ => h101.2 _) (fun _ _ => h101.2 _) (fun _ _ => h101.2 _) (fun _ _ => h101.2 _))))

theorem ordRun_kept {σ : Scope} {ρ s : State} {go : List Nat} {n : Nat} {i : Issuer} (h : Kept σ ρ s)
    (hf : σ.Full) : Kept σ ρ (State.ordRun go n s i).1 := by
  induction n generalizing s i with
  | zero => exact h
  | succ n ih =>
    unfold State.ordRun
    split
    · exact h
    · dsimp only
      split
      · exact ih (transApply_kept (bumpBy_kept h fun _ _ => hf.2 _) hf)
      · exact h

theorem ordGo_kept {σ : Scope} {ρ : State} {s : State} {i : Issuer} {tseq : ℕ} (hk0 : Kept σ ρ s) (h101 : σ.Full) :
    Kept σ ρ (State.ordGo s i tseq).1 := by
  unfold State.ordGo
  exact ordRun_kept (hk0) h101

theorem ordExpire_kept {σ : Scope} {ρ : State} {s : State} {node : ℕ} {member : ℕ} (hk0 : Kept σ ρ s) (h101 : σ.Full) :
    Kept σ ρ (State.ordExpire s node member) := by
  unfold State.ordExpire
  exact (by (try dsimp only); split; exacts [hk0, (by split; exacts [hk0, updIssuer_kept (ordGo_kept (advance_kept (hk0)) h101) (h101.1 _)])])

theorem pcieLink_kept {σ : Scope} {ρ : State} {s : State} {up : Bool} (hk0 : Kept σ ρ s) (h101 : σ.part .bridge = true) (h102 : σ.fld pBRIDGE (Fld.mk 12 14 1)) :
    Kept σ ρ (State.pcieLink s up) := by
  unfold State.pcieLink
  exact Kept.ite (hk0) (txFetch_kept (rhGo_kept (event_kept (Kept.bridge (hk0) h101) h102) h101) h101)

theorem putIssuer_kept {σ : Scope} {ρ : State} {s : State} {i : Issuer} (hk0 : Kept σ ρ s) (h101 : σ.part .bridge = true) :
    Kept σ ρ (State.putIssuer s i) := by
  unfold State.putIssuer
  exact Kept.bridge (hk0) h101

theorem transIn_kept {σ : Scope} {ρ : State} {s : State} {port : ℕ} {node : ℕ} {member : ℕ} {t : Trans} (hk0 : Kept σ ρ s) (h101 : σ.Full) :
    Kept σ ρ (State.transIn s port node member t) := by
  unfold State.transIn
  exact Kept.ite (hk0) ((by (try dsimp only); split; exacts [putIssuer_kept (transApply_kept (hk0) h101) (h101.1 _), Kept.ite (putIssuer_kept (ordRun_kept (hk0) h101) (h101.1 _)) (Kept.ite (putIssuer_kept (hk0) (h101.1 _)) (Kept.ite (putIssuer_kept (ordGo_kept (hk0) h101) (h101.1 _)) (putIssuer_kept (hk0) (h101.1 _))))]))

theorem txSlotIn_kept {σ : Scope} {ρ : State} {s : State} {h : List Byte} {frame : List Byte} (hk0 : Kept σ ρ s) (h101 : σ.part .bridge = true) (h102 : σ.part .sw = true) (h103 : σ.part .mem = true) (h104 : σ.fld pHSR F.HSR.SEQ.NEXT) (h105 : σ.fld pSWITCH F.SWITCH.BUF_DROP.COUNT) (h106 : σ.fld pSWITCH (Fld.mk 12 9 1)) (h107 : ∀ n, σ.page (pPORT n)) (h108 : σ.fld pCAPTURE F.CAPTURE.LOST.COUNT) (h109 : σ.fld pCAPTURE (Fld.mk 12 9 1)) (h110 : σ.fld pCAPTURE F.CAPTURE.WR_SEQ.SEQ) (h111 : σ.fld pCAPTURE (Fld.mk 12 8 1)) (h112 : σ.fld pBUFMEM (Fld.mk 12 13 1)) (h113 : σ.fld pBRIDGE F.BRIDGE.TXBAD.COUNT) (h114 : σ.fld pBRIDGE F.BRIDGE.TX_HEAD.SLOT) (h115 : σ.fld pBRIDGE (Fld.mk 12 11 1)) :
    Kept σ ρ (State.txSlotIn s h frame) := by
  unfold State.txSlotIn
  exact (by (try dsimp only); split; exacts [hk0, Kept.cut (fun k1 => Kept.cut (fun k7 => txFetch_kept (Kept.ite (event_kept (k7) h115) (k7)) h101) (set_kept (Kept.ite (hostSend_kept (k1) h102 h103 h104 h105 h106 h107 h108 h109 h110 h111 h112) (bump_kept (k1) h113)) h114)) (Kept.bridge (hk0) h101)])

theorem execHostBar2Read_kept {σ : Scope} {clk : ℕ} {off : ℕ} {len : ℕ} {tag : ℕ} {s : State} (h101 : σ.Full) :
    KeptNext σ s (execHostBar2Read clk off len tag s) := by
  unfold execHostBar2Read
  exact KeptNext.next (hostIn_kept (advance_kept (Kept.refl σ s)) h101)

theorem execHostBar2Write_kept {σ : Scope} {clk : ℕ} {off : ℕ} {data : List (Option Byte)} {s : State} (h101 : σ.Full) :
    KeptNext σ s (execHostBar2Write clk off data s) := by
  unfold execHostBar2Write
  exact KeptNext.next (hostIn_kept (advance_kept (Kept.refl σ s)) h101)

theorem execHostTxSlotRead_kept {σ : Scope} {clk : ℕ} {header : List Byte} {frame : List Byte} {s : State} (h101 : σ.part .bridge = true) (h102 : σ.part .sw = true) (h103 : σ.part .mem = true) (h104 : σ.fld pHSR F.HSR.SEQ.NEXT) (h105 : σ.fld pSWITCH F.SWITCH.BUF_DROP.COUNT) (h106 : σ.fld pSWITCH (Fld.mk 12 9 1)) (h107 : ∀ n, σ.page (pPORT n)) (h108 : σ.fld pCAPTURE F.CAPTURE.LOST.COUNT) (h109 : σ.fld pCAPTURE (Fld.mk 12 9 1)) (h110 : σ.fld pCAPTURE F.CAPTURE.WR_SEQ.SEQ) (h111 : σ.fld pCAPTURE (Fld.mk 12 8 1)) (h112 : σ.fld pBUFMEM (Fld.mk 12 13 1)) (h113 : σ.fld pBRIDGE F.BRIDGE.TXBAD.COUNT) (h114 : σ.fld pBRIDGE F.BRIDGE.TX_HEAD.SLOT) (h115 : σ.fld pBRIDGE (Fld.mk 12 11 1)) :
    KeptNext σ s (execHostTxSlotRead clk header frame s) := by
  unfold execHostTxSlotRead
  exact KeptNext.next (txSlotIn_kept (advance_kept (Kept.refl σ s)) h101 h102 h103 h104 h105 h106 h107 h108 h109 h110 h111 h112 h113 h114 h115)

theorem execHostTxTail_kept {σ : Scope} {clk : ℕ} {slot : ℕ} {s : State} (h101 : σ.Full) :
    KeptNext σ s (execHostTxTail clk slot s) := by
  unfold execHostTxTail
  exact KeptNext.next (busWrite_kept (advance_kept (Kept.refl σ s)) h101)

theorem execMgmtNpWrite_kept {σ : Scope} {clk : ℕ} {port : ℕ} {node : ℕ} {member : ℕ} {tr : Trans} {s : State} (h101 : σ.Full) :
    KeptNext σ s (execMgmtNpWrite clk port node member tr s) := by
  unfold execMgmtNpWrite
  exact KeptNext.next (classGo_kept (transIn_kept (advance_kept (Kept.refl σ s)) h101) h101)

theorem execMgmtPostedWrite_kept {σ : Scope} {clk : ℕ} {port : ℕ} {node : ℕ} {member : ℕ} {tr : Trans} {s : State} (h101 : σ.Full) :
    KeptNext σ s (execMgmtPostedWrite clk port node member tr s) := by
  unfold execMgmtPostedWrite
  exact KeptNext.next (classGo_kept (transIn_kept (advance_kept (Kept.refl σ s)) h101) h101)

theorem execMgmtRead_kept {σ : Scope} {clk : ℕ} {port : ℕ} {node : ℕ} {member : ℕ} {tr : Trans} {s : State} (h101 : σ.Full) :
    KeptNext σ s (execMgmtRead clk port node member tr s) := by
  unfold execMgmtRead
  exact KeptNext.next (classGo_kept (transIn_kept (advance_kept (Kept.refl σ s)) h101) h101)

theorem execMgmtReadCompletion_kept {σ : Scope} {clk : ℕ} {tr : Trans} {s : State} (h101 : σ.part .bridge = true) (h102 : σ.fld pBRIDGE F.BRIDGE.NPTO.COUNT) (h103 : σ.reg (regKey pBRIDGE 12) = true) (h104 : σ.fld pBRIDGE F.BRIDGE.LATE_CPL.COUNT) :
    KeptNext σ s (execMgmtReadCompletion clk tr s) := by
  unfold execMgmtReadCompletion
  exact KeptNext.next (cplIn_kept (advance_kept (Kept.refl σ s)) h101 h102 h103 h104)

theorem execMgmtWriteAck_kept {σ : Scope} {clk : ℕ} {tr : Trans} {s : State} (h101 : σ.Full) :
    KeptNext σ s (execMgmtWriteAck clk tr s) := by
  unfold execMgmtWriteAck
  exact KeptNext.next (ackIn_kept (advance_kept (Kept.refl σ s)) h101)

theorem execNoticeGroupRx_kept {σ : Scope} {clk : ℕ} {_node : ℕ} {_member : ℕ} {_group : ℕ} {_pend : List Word} {s : State} :
    KeptNext σ s (execNoticeGroupRx clk _node _member _group _pend s) := by
  unfold execNoticeGroupRx
  exact KeptNext.next (advance_kept (Kept.refl σ s))

theorem execNoticeLastGaspRx_kept {σ : Scope} {clk : ℕ} {_node : ℕ} {_member : ℕ} {_payload : List Byte} {s : State} :
    KeptNext σ s (execNoticeLastGaspRx clk _node _member _payload s) := by
  unfold execNoticeLastGaspRx
  exact KeptNext.next (advance_kept (Kept.refl σ s))

theorem execNoticeLateErrorRx_kept {σ : Scope} {clk : ℕ} {_node : ℕ} {_member : ℕ} {entries : List LateErr} {s : State} (h101 : σ.part .bridge = true) (h102 : σ.fld pBRIDGE (Fld.mk 12 8 1)) (h103 : σ.fld pBRIDGE F.BRIDGE.LLOG_OVF.COUNT) :
    KeptNext σ s (execNoticeLateErrorRx clk _node _member entries s) := by
  unfold execNoticeLateErrorRx
  exact KeptNext.next (lateIn_kept (advance_kept (Kept.refl σ s)) h101 h102 h103)

theorem execNoticeLateErrorSend_kept {σ : Scope} {node : ℕ} {member : ℕ} {s : State} (h101 : σ.part .bridge = true) (h102 : σ.part .sw = true) (h103 : σ.part .mem = true) (h104 : σ.fld pHSR F.HSR.SEQ.NEXT) (h105 : σ.fld pSWITCH F.SWITCH.BUF_DROP.COUNT) (h106 : σ.fld pSWITCH (Fld.mk 12 9 1)) (h107 : ∀ n, σ.page (pPORT n)) (h108 : σ.fld pCAPTURE F.CAPTURE.LOST.COUNT) (h109 : σ.fld pCAPTURE (Fld.mk 12 9 1)) (h110 : σ.fld pCAPTURE F.CAPTURE.WR_SEQ.SEQ) (h111 : σ.fld pCAPTURE (Fld.mk 12 8 1)) (h112 : σ.fld pBUFMEM (Fld.mk 12 13 1)) (h113 : σ.fld pSWITCH F.SWITCH.NOPATH.COUNT) (h114 : σ.fld pSWITCH (Fld.mk 12 11 1)) :
    KeptNext σ s (execNoticeLateErrorSend node member s) := by
  unfold execNoticeLateErrorSend
  exact KeptNext.next (gatherDue_kept (Kept.refl σ s) h101 h102 h103 h104 h105 h106 h107 h108 h109 h110 h111 h112 h113 h114)

theorem execNpTimeout_kept {σ : Scope} {tag : ℕ} {s : State} (h101 : σ.Full) :
    KeptNext σ s (execNpTimeout tag s) := by
  unfold execNpTimeout
  exact KeptNext.next (npTimeout_kept (Kept.refl σ s) h101)

theorem execOrdWaitExpire_kept {σ : Scope} {node : ℕ} {member : ℕ} {s : State} (h101 : σ.Full) :
    KeptNext σ s (execOrdWaitExpire node member s) := by
  unfold execOrdWaitExpire
  exact KeptNext.next (classGo_kept (ordExpire_kept (Kept.refl σ s) h101) h101)

theorem execPageHoldClear_kept {σ : Scope} {clk : ℕ} {page : ℕ} {s : State} (h101 : σ.Full) :
    KeptNext σ s (execPageHoldClear clk page s) := by
  unfold execPageHoldClear
  exact KeptNext.next (classGo_kept (pctlCmd_kept (advance_kept (Kept.refl σ s)) h101) h101)

theorem execPcieLinkChange_kept {σ : Scope} {clk : ℕ} {up : Bool} {s : State} (h101 : σ.part .bridge = true) (h102 : σ.fld pBRIDGE (Fld.mk 12 14 1)) :
    KeptNext σ s (execPcieLinkChange clk up s) := by
  unfold execPcieLinkChange
  exact KeptNext.next (pcieLink_kept (advance_kept (Kept.refl σ s)) h101 h102)

theorem execRegisterWrite_kept {σ : Scope} {clk : ℕ} {page : ℕ} {off : ℕ} {data : Word} {src : Source} {s : State} (h101 : σ.Full) :
    KeptNext σ s (execRegisterWrite clk page off data src s) := by
  unfold execRegisterWrite
  exact KeptNext.next (Kept.ite (hostIn_kept (advance_kept (Kept.refl σ s)) h101) (classGo_kept (anyWrite_kept (advance_kept (Kept.refl σ s)) h101) h101))

theorem challengeOut_kept {σ : Scope} {ρ : State} {s : State} (hk0 : Kept σ ρ s) (h101 : σ.part .bridge = true) :
    Kept σ ρ (State.challengeOut s) := by
  unfold State.challengeOut
  exact (by (try dsimp only); split; exacts [Kept.ite (Kept.bridge (advance_kept (hk0)) h101) (Kept.bridge (advance_kept (hk0)) h101), (by split; exacts [Kept.bridge (advance_kept (hk0)) h101, hk0])])

theorem dropChallenge_kept {σ : Scope} {ρ : State} {s : State} {node : ℕ} {member : ℕ} (hk0 : Kept σ ρ s) (h101 : σ.part .bridge = true) :
    Kept σ ρ (State.dropChallenge s node member) := by
  unfold State.dropChallenge
  exact Kept.bridge (hk0) h101

theorem mgrPut_kept {σ : Scope} {ρ : State} {s : State} {node : ℕ} {member : ℕ} {challenge : List Byte} {end_ : ℕ} (hk0 : Kept σ ρ s) (h101 : σ.part .bridge = true) :
    Kept σ ρ (State.mgrPut s node member challenge end_) := by
  unfold State.mgrPut
  exact Kept.bridge (hk0) h101

theorem leaseAnswer_kept {σ : Scope} {ρ : State} {s : State} {node : ℕ} {member : ℕ} {challenge : List Byte} (hk0 : Kept σ ρ s) (h101 : σ.part .bridge = true) (h102 : σ.part .sw = true) (h103 : σ.part .mem = true) (h104 : σ.fld pHSR F.HSR.SEQ.NEXT) (h105 : σ.fld pSWITCH F.SWITCH.BUF_DROP.COUNT) (h106 : σ.fld pSWITCH (Fld.mk 12 9 1)) (h107 : ∀ n, σ.page (pPORT n)) (h108 : σ.fld pCAPTURE F.CAPTURE.LOST.COUNT) (h109 : σ.fld pCAPTURE (Fld.mk 12 9 1)) (h110 : σ.fld pCAPTURE F.CAPTURE.WR_SEQ.SEQ) (h111 : σ.fld pCAPTURE (Fld.mk 12 8 1)) (h112 : σ.fld pBUFMEM (Fld.mk 12 13 1)) (h113 : σ.fld pSWITCH F.SWITCH.NOPATH.COUNT) (h114 : σ.fld pSWITCH (Fld.mk 12 11 1)) :
    Kept σ ρ (State.leaseAnswer s node member challenge) := by
  unfold State.leaseAnswer
  exact Kept.ite (hk0) ((by (try dsimp only); split; exacts [hk0, sendMgmt_kept (mgrPut_kept (nextFree_kept (hk0)) h101) h102 h103 h104 h105 h106 h107 h108 h109 h110 h111 h112 h113 h114]))

theorem leaseGo_kept {σ : Scope} {ρ : State} {s : State} {node : ℕ} {member : ℕ} (hk0 : Kept σ ρ s) (h101 : σ.part .bridge = true) (h102 : σ.part .sw = true) (h103 : σ.part .mem = true) (h104 : σ.fld pBRIDGE F.BRIDGE.MGRSTS.HELD) (h105 : σ.fld pBRIDGE F.BRIDGE.MGRSTS.NODE) (h106 : σ.fld pBRIDGE F.BRIDGE.MGRSTS.MEMBER) (h107 : σ.fld pBRIDGE (Fld.mk 12 13 1)) (h108 : σ.fld pHSR F.HSR.SEQ.NEXT) (h109 : σ.fld pSWITCH F.SWITCH.BUF_DROP.COUNT) (h110 : σ.fld pSWITCH (Fld.mk 12 9 1)) (h111 : ∀ n, σ.page (pPORT n)) (h112 : σ.fld pCAPTURE F.CAPTURE.LOST.COUNT) (h113 : σ.fld pCAPTURE (Fld.mk 12 9 1)) (h114 : σ.fld pCAPTURE F.CAPTURE.WR_SEQ.SEQ) (h115 : σ.fld pCAPTURE (Fld.mk 12 8 1)) (h116 : σ.fld pBUFMEM (Fld.mk 12 13 1)) (h117 : σ.fld pSWITCH F.SWITCH.NOPATH.COUNT) (h118 : σ.fld pSWITCH (Fld.mk 12 11 1)) :
    Kept σ ρ (State.leaseGo s node member) := by
  unfold State.leaseGo
  exact sendMgmt_kept (Kept.bridge (leaseGrant_kept (nextFree_kept (hk0)) h101 h104 h105 h106 h107) h101) h102 h103 h108 h109 h110 h111 h112 h113 h114 h115 h116 h117 h118

theorem leaseGranted_kept {σ : Scope} {ρ : State} {s : State} {node : ℕ} {member : ℕ} {seconds : ℕ} {next : List Byte} (hk0 : Kept σ ρ s) (h101 : σ.part .bridge = true) :
    Kept σ ρ (State.leaseGranted s node member seconds next) := by
  unfold State.leaseGranted
  exact Kept.ite (hk0) (Kept.ite (mgrPut_kept (hk0) h101) (hk0))

theorem leaseRefuse_kept {σ : Scope} {ρ : State} {s : State} {node : ℕ} {member : ℕ} {reason : ℕ} (hk0 : Kept σ ρ s) (h101 : σ.part .sw = true) (h102 : σ.part .mem = true) (h103 : σ.fld pHSR F.HSR.SEQ.NEXT) (h104 : σ.fld pSWITCH F.SWITCH.BUF_DROP.COUNT) (h105 : σ.fld pSWITCH (Fld.mk 12 9 1)) (h106 : ∀ n, σ.page (pPORT n)) (h107 : σ.fld pCAPTURE F.CAPTURE.LOST.COUNT) (h108 : σ.fld pCAPTURE (Fld.mk 12 9 1)) (h109 : σ.fld pCAPTURE F.CAPTURE.WR_SEQ.SEQ) (h110 : σ.fld pCAPTURE (Fld.mk 12 8 1)) (h111 : σ.fld pBUFMEM (Fld.mk 12 13 1)) (h112 : σ.fld pSWITCH F.SWITCH.NOPATH.COUNT) (h113 : σ.fld pSWITCH (Fld.mk 12 11 1)) :
    Kept σ ρ (State.leaseRefuse s node member reason) := by
  unfold State.leaseRefuse
  exact sendMgmt_kept (hk0) h101 h102 h103 h104 h105 h106 h107 h108 h109 h110 h111 h112 h113

theorem leaseJudge_kept {σ : Scope} {ρ : State} {s : State} {c : Option Challenge} {node : ℕ} {member : ℕ} {proof : List Byte} (hk0 : Kept σ ρ s) (h101 : σ.part .sw = true) (h102 : σ.part .mem = true) (h103 : σ.part .bridge = true) (h104 : σ.fld pHSR F.HSR.SEQ.NEXT) (h105 : σ.fld pSWITCH F.SWITCH.BUF_DROP.COUNT) (h106 : σ.fld pSWITCH (Fld.mk 12 9 1)) (h107 : ∀ n, σ.page (pPORT n)) (h108 : σ.fld pCAPTURE F.CAPTURE.LOST.COUNT) (h109 : σ.fld pCAPTURE (Fld.mk 12 9 1)) (h110 : σ.fld pCAPTURE F.CAPTURE.WR_SEQ.SEQ) (h111 : σ.fld pCAPTURE (Fld.mk 12 8 1)) (h112 : σ.fld pBUFMEM (Fld.mk 12 13 1)) (h113 : σ.fld pSWITCH F.SWITCH.NOPATH.COUNT) (h114 : σ.fld pSWITCH (Fld.mk 12 11 1)) (h115 : σ.fld pBRIDGE F.BRIDGE.MGRSTS.HELD) (h116 : σ.fld pBRIDGE F.BRIDGE.MGRSTS.NODE) (h117 : σ.fld pBRIDGE F.BRIDGE.MGRSTS.MEMBER) (h118 : σ.fld pBRIDGE (Fld.mk 12 13 1)) :
    Kept σ ρ (State.leaseJudge s c node member proof) := by
  unfold State.leaseJudge
  exact Kept.ite (leaseRefuse_kept (hk0) h101 h102 h104 h105 h106 h107 h108 h109 h110 h111 h112 h113 h114) ((by split; exacts [leaseRefuse_kept (hk0) h101 h102 h104 h105 h106 h107 h108 h109 h110 h111 h112 h113 h114, (by split; exacts [leaseRefuse_kept (hk0) h101 h102 h104 h105 h106 h107 h108 h109 h110 h111 h112 h113 h114, Kept.ite (leaseGo_kept (hk0) h103 h101 h102 h115 h116 h117 h118 h104 h105 h106 h107 h108 h109 h110 h111 h112 h113 h114) (leaseRefuse_kept (hk0) h101 h102 h104 h105 h106 h107 h108 h109 h110 h111 h112 h113 h114)])]))

theorem leaseOpen_kept {σ : Scope} {ρ : State} {s : State} {node : ℕ} {member : ℕ} (hk0 : Kept σ ρ s) (h101 : σ.part .sw = true) (h102 : σ.part .mem = true) (h103 : σ.part .bridge = true) (h104 : σ.fld pHSR F.HSR.SEQ.NEXT) (h105 : σ.fld pSWITCH F.SWITCH.BUF_DROP.COUNT) (h106 : σ.fld pSWITCH (Fld.mk 12 9 1)) (h107 : ∀ n, σ.page (pPORT n)) (h108 : σ.fld pCAPTURE F.CAPTURE.LOST.COUNT) (h109 : σ.fld pCAPTURE (Fld.mk 12 9 1)) (h110 : σ.fld pCAPTURE F.CAPTURE.WR_SEQ.SEQ) (h111 : σ.fld pCAPTURE (Fld.mk 12 8 1)) (h112 : σ.fld pBUFMEM (Fld.mk 12 13 1)) (h113 : σ.fld pSWITCH F.SWITCH.NOPATH.COUNT) (h114 : σ.fld pSWITCH (Fld.mk 12 11 1)) :
    Kept σ ρ (State.leaseOpen s node member) := by
  unfold State.leaseOpen
  exact Kept.ite (hk0) (Kept.ite (leaseRefuse_kept (hk0) h101 h102 h104 h105 h106 h107 h108 h109 h110 h111 h112 h113 h114) ((by (try dsimp only); split; exacts [leaseRefuse_kept (hk0) h101 h102 h104 h105 h106 h107 h108 h109 h110 h111 h112 h113 h114, sendMgmt_kept (Kept.bridge (dropChallenge_kept (nextFree_kept (hk0)) h103) h103) h101 h102 h104 h105 h106 h107 h108 h109 h110 h111 h112 h113 h114])))

theorem leaseProof_kept {σ : Scope} {ρ : State} {s : State} {node : ℕ} {member : ℕ} {proof : List Byte} (hk0 : Kept σ ρ s) (h101 : σ.part .bridge = true) (h102 : σ.part .sw = true) (h103 : σ.part .mem = true) (h104 : σ.fld pHSR F.HSR.SEQ.NEXT) (h105 : σ.fld pSWITCH F.SWITCH.BUF_DROP.COUNT) (h106 : σ.fld pSWITCH (Fld.mk 12 9 1)) (h107 : ∀ n, σ.page (pPORT n)) (h108 : σ.fld pCAPTURE F.CAPTURE.LOST.COUNT) (h109 : σ.fld pCAPTURE (Fld.mk 12 9 1)) (h110 : σ.fld pCAPTURE F.CAPTURE.WR_SEQ.SEQ) (h111 : σ.fld pCAPTURE (Fld.mk 12 8 1)) (h112 : σ.fld pBUFMEM (Fld.mk 12 13 1)) (h113 : σ.fld pSWITCH F.SWITCH.NOPATH.COUNT) (h114 : σ.fld pSWITCH (Fld.mk 12 11 1)) (h115 : σ.fld pBRIDGE F.BRIDGE.MGRSTS.HELD) (h116 : σ.fld pBRIDGE F.BRIDGE.MGRSTS.NODE) (h117 : σ.fld pBRIDGE F.BRIDGE.MGRSTS.MEMBER) (h118 : σ.fld pBRIDGE (Fld.mk 12 13 1)) :
    Kept σ ρ (State.leaseProof s node member proof) := by
  unfold State.leaseProof
  exact Kept.ite (hk0) (leaseJudge_kept (dropChallenge_kept (hk0) h101) h102 h103 h101 h104 h105 h106 h107 h108 h109 h110 h111 h112 h113 h114 h115 h116 h117 h118)

theorem mgrEnd_kept {σ : Scope} {ρ : State} {s : State} {node : ℕ} {member : ℕ} (hk0 : Kept σ ρ s) (h101 : σ.part .bridge = true) :
    Kept σ ρ (State.mgrEnd s node member) := by
  unfold State.mgrEnd
  exact Kept.bridge (hk0) h101

theorem leaseReleased_kept {σ : Scope} {ρ : State} {s : State} {node : ℕ} {member : ℕ} (hk0 : Kept σ ρ s) (h101 : σ.part .bridge = true) (h102 : σ.reg (regKey pBRIDGE 80) = true) (h103 : σ.fld pBRIDGE (Fld.mk 12 13 1)) :
    Kept σ ρ (State.leaseReleased s node member) := by
  unfold State.leaseReleased
  exact Kept.ite (hk0) (mgrEnd_kept (Kept.ite (leaseOver_kept (hk0) h101 h102 h103) (hk0)) h101)

theorem leaseRenew_kept {σ : Scope} {ρ : State} {s : State} {node : ℕ} {member : ℕ} {proof : List Byte} (hk0 : Kept σ ρ s) (h101 : σ.part .sw = true) (h102 : σ.part .mem = true) (h103 : σ.part .bridge = true) (h104 : σ.fld pHSR F.HSR.SEQ.NEXT) (h105 : σ.fld pSWITCH F.SWITCH.BUF_DROP.COUNT) (h106 : σ.fld pSWITCH (Fld.mk 12 9 1)) (h107 : ∀ n, σ.page (pPORT n)) (h108 : σ.fld pCAPTURE F.CAPTURE.LOST.COUNT) (h109 : σ.fld pCAPTURE (Fld.mk 12 9 1)) (h110 : σ.fld pCAPTURE F.CAPTURE.WR_SEQ.SEQ) (h111 : σ.fld pCAPTURE (Fld.mk 12 8 1)) (h112 : σ.fld pBUFMEM (Fld.mk 12 13 1)) (h113 : σ.fld pSWITCH F.SWITCH.NOPATH.COUNT) (h114 : σ.fld pSWITCH (Fld.mk 12 11 1)) (h115 : σ.fld pBRIDGE F.BRIDGE.MGRSTS.HELD) (h116 : σ.fld pBRIDGE F.BRIDGE.MGRSTS.NODE) (h117 : σ.fld pBRIDGE F.BRIDGE.MGRSTS.MEMBER) (h118 : σ.fld pBRIDGE (Fld.mk 12 13 1)) :
    Kept σ ρ (State.leaseRenew s node member proof) := by
  unfold State.leaseRenew
  exact Kept.ite (hk0) (leaseJudge_kept (hk0) h101 h102 h103 h104 h105 h106 h107 h108 h109 h110 h111 h112 h113 h114 h115 h116 h117 h118)

theorem execLeaseChallenge_kept {σ : Scope} {clk : ℕ} {node : ℕ} {member : ℕ} {challenge : List Byte} {s : State} (h101 : σ.part .bridge = true) (h102 : σ.part .sw = true) (h103 : σ.part .mem = true) (h104 : σ.fld pHSR F.HSR.SEQ.NEXT) (h105 : σ.fld pSWITCH F.SWITCH.BUF_DROP.COUNT) (h106 : σ.fld pSWITCH (Fld.mk 12 9 1)) (h107 : ∀ n, σ.page (pPORT n)) (h108 : σ.fld pCAPTURE F.CAPTURE.LOST.COUNT) (h109 : σ.fld pCAPTURE (Fld.mk 12 9 1)) (h110 : σ.fld pCAPTURE F.CAPTURE.WR_SEQ.SEQ) (h111 : σ.fld pCAPTURE (Fld.mk 12 8 1)) (h112 : σ.fld pBUFMEM (Fld.mk 12 13 1)) (h113 : σ.fld pSWITCH F.SWITCH.NOPATH.COUNT) (h114 : σ.fld pSWITCH (Fld.mk 12 11 1)) :
    KeptNext σ s (execLeaseChallenge clk node member challenge s) := by
  unfold execLeaseChallenge
  exact KeptNext.next (leaseAnswer_kept (advance_kept (Kept.refl σ s)) h101 h102 h103 h104 h105 h106 h107 h108 h109 h110 h111 h112 h113 h114)

theorem execLeaseChallengeExpire_kept {σ : Scope} {s : State} (h101 : σ.part .bridge = true) :
    KeptNext σ s (execLeaseChallengeExpire s) := by
  unfold execLeaseChallengeExpire
  exact KeptNext.next (challengeOut_kept (Kept.refl σ s) h101)

theorem execLeaseDrop_kept {σ : Scope} {clk : ℕ} {s : State} (h101 : σ.part .bridge = true) (h102 : σ.part .page = true) (h103 : σ.reg (regKey pBRIDGE 80) = true) (h104 : σ.fld pBRIDGE (Fld.mk 12 13 1)) (h105 : σ.fld pSYS (Fld.mk 12 11 1)) (h106 : σ.fld pBRIDGE F.HDR.PSTS.CODE) (h107 : σ.fld pBRIDGE F.HDR.PSTS.INDEX) (h108 : σ.fld pBRIDGE F.HDR.PSTS.REFUSED) (h109 : σ.fld pBRIDGE (Fld.mk 12 0 1)) :
    KeptNext σ s (execLeaseDrop clk s) := by
  unfold execLeaseDrop
  exact KeptNext.next (bitWrite_kept (advance_kept (Kept.refl σ s)) (fun x0 k1 => leaseOver_kept (k1) h101 h103 h104) h102 h105 h106 h107 h108 h109)

theorem execLeaseExpire_kept {σ : Scope} {s : State} (h101 : σ.part .bridge = true) (h102 : σ.reg (regKey pBRIDGE 80) = true) (h103 : σ.fld pBRIDGE (Fld.mk 12 13 1)) :
    KeptNext σ s (execLeaseExpire s) := by
  unfold execLeaseExpire
  exact KeptNext.next ((by split; exacts [leaseOver_kept (advance_kept (Kept.refl σ s)) h101 h102 h103, Kept.refl σ s]))

theorem execLeaseGrant_kept {σ : Scope} {clk : ℕ} {node : ℕ} {member : ℕ} {seconds : ℕ} {next : List Byte} {s : State} (h101 : σ.part .bridge = true) :
    KeptNext σ s (execLeaseGrant clk node member seconds next s) := by
  unfold execLeaseGrant
  exact KeptNext.next (leaseGranted_kept (advance_kept (Kept.refl σ s)) h101)

theorem execLeaseOpen_kept {σ : Scope} {clk : ℕ} {node : ℕ} {member : ℕ} {s : State} (h101 : σ.part .sw = true) (h102 : σ.part .mem = true) (h103 : σ.part .bridge = true) (h104 : σ.fld pHSR F.HSR.SEQ.NEXT) (h105 : σ.fld pSWITCH F.SWITCH.BUF_DROP.COUNT) (h106 : σ.fld pSWITCH (Fld.mk 12 9 1)) (h107 : ∀ n, σ.page (pPORT n)) (h108 : σ.fld pCAPTURE F.CAPTURE.LOST.COUNT) (h109 : σ.fld pCAPTURE (Fld.mk 12 9 1)) (h110 : σ.fld pCAPTURE F.CAPTURE.WR_SEQ.SEQ) (h111 : σ.fld pCAPTURE (Fld.mk 12 8 1)) (h112 : σ.fld pBUFMEM (Fld.mk 12 13 1)) (h113 : σ.fld pSWITCH F.SWITCH.NOPATH.COUNT) (h114 : σ.fld pSWITCH (Fld.mk 12 11 1)) :
    KeptNext σ s (execLeaseOpen clk node member s) := by
  unfold execLeaseOpen
  exact KeptNext.next (leaseOpen_kept (advance_kept (Kept.refl σ s)) h101 h102 h103 h104 h105 h106 h107 h108 h109 h110 h111 h112 h113 h114)

theorem execLeaseProof_kept {σ : Scope} {clk : ℕ} {node : ℕ} {member : ℕ} {proof : List Byte} {s : State} (h101 : σ.part .bridge = true) (h102 : σ.part .sw = true) (h103 : σ.part .mem = true) (h104 : σ.fld pHSR F.HSR.SEQ.NEXT) (h105 : σ.fld pSWITCH F.SWITCH.BUF_DROP.COUNT) (h106 : σ.fld pSWITCH (Fld.mk 12 9 1)) (h107 : ∀ n, σ.page (pPORT n)) (h108 : σ.fld pCAPTURE F.CAPTURE.LOST.COUNT) (h109 : σ.fld pCAPTURE (Fld.mk 12 9 1)) (h110 : σ.fld pCAPTURE F.CAPTURE.WR_SEQ.SEQ) (h111 : σ.fld pCAPTURE (Fld.mk 12 8 1)) (h112 : σ.fld pBUFMEM (Fld.mk 12 13 1)) (h113 : σ.fld pSWITCH F.SWITCH.NOPATH.COUNT) (h114 : σ.fld pSWITCH (Fld.mk 12 11 1)) (h115 : σ.fld pBRIDGE F.BRIDGE.MGRSTS.HELD) (h116 : σ.fld pBRIDGE F.BRIDGE.MGRSTS.NODE) (h117 : σ.fld pBRIDGE F.BRIDGE.MGRSTS.MEMBER) (h118 : σ.fld pBRIDGE (Fld.mk 12 13 1)) :
    KeptNext σ s (execLeaseProof clk node member proof s) := by
  unfold execLeaseProof
  exact KeptNext.next (leaseProof_kept (advance_kept (Kept.refl σ s)) h101 h102 h103 h104 h105 h106 h107 h108 h109 h110 h111 h112 h113 h114 h115 h116 h117 h118)

theorem execLeaseRefuse_kept {σ : Scope} {clk : ℕ} {node : ℕ} {member : ℕ} {_reason : ℕ} {s : State} (h101 : σ.part .bridge = true) :
    KeptNext σ s (execLeaseRefuse clk node member _reason s) := by
  unfold execLeaseRefuse
  exact KeptNext.next (mgrEnd_kept (advance_kept (Kept.refl σ s)) h101)

theorem execLeaseRelease_kept {σ : Scope} {clk : ℕ} {node : ℕ} {member : ℕ} {s : State} (h101 : σ.part .bridge = true) (h102 : σ.reg (regKey pBRIDGE 80) = true) (h103 : σ.fld pBRIDGE (Fld.mk 12 13 1)) :
    KeptNext σ s (execLeaseRelease clk node member s) := by
  unfold execLeaseRelease
  exact KeptNext.next (leaseReleased_kept (advance_kept (Kept.refl σ s)) h101 h102 h103)

theorem execLeaseRenew_kept {σ : Scope} {clk : ℕ} {node : ℕ} {member : ℕ} {proof : List Byte} {s : State} (h101 : σ.part .sw = true) (h102 : σ.part .mem = true) (h103 : σ.part .bridge = true) (h104 : σ.fld pHSR F.HSR.SEQ.NEXT) (h105 : σ.fld pSWITCH F.SWITCH.BUF_DROP.COUNT) (h106 : σ.fld pSWITCH (Fld.mk 12 9 1)) (h107 : ∀ n, σ.page (pPORT n)) (h108 : σ.fld pCAPTURE F.CAPTURE.LOST.COUNT) (h109 : σ.fld pCAPTURE (Fld.mk 12 9 1)) (h110 : σ.fld pCAPTURE F.CAPTURE.WR_SEQ.SEQ) (h111 : σ.fld pCAPTURE (Fld.mk 12 8 1)) (h112 : σ.fld pBUFMEM (Fld.mk 12 13 1)) (h113 : σ.fld pSWITCH F.SWITCH.NOPATH.COUNT) (h114 : σ.fld pSWITCH (Fld.mk 12 11 1)) (h115 : σ.fld pBRIDGE F.BRIDGE.MGRSTS.HELD) (h116 : σ.fld pBRIDGE F.BRIDGE.MGRSTS.NODE) (h117 : σ.fld pBRIDGE F.BRIDGE.MGRSTS.MEMBER) (h118 : σ.fld pBRIDGE (Fld.mk 12 13 1)) :
    KeptNext σ s (execLeaseRenew clk node member proof s) := by
  unfold execLeaseRenew
  exact KeptNext.next (leaseRenew_kept (advance_kept (Kept.refl σ s)) h101 h102 h103 h104 h105 h106 h107 h108 h109 h110 h111 h112 h113 h114 h115 h116 h117 h118)

theorem regStake_kept {σ : Scope} {ρ : State} {s : State} {x : Stake} (hk0 : Kept σ ρ s) (h101 : σ.Full) :
    Kept σ ρ (State.regStake s x) := by
  unfold State.regStake
  exact busWrite_kept (hk0) h101

theorem anyEffect_kept {σ : Scope} {ρ : State} {s : State} {x : Stake} (hk0 : Kept σ ρ s) (h101 : σ.Full) :
    Kept σ ρ (State.anyEffect s x) := by
  unfold State.anyEffect
  exact Kept.ite (regStake_kept (hk0) h101) (stakeEffect_kept (hk0) (h101.1 _) (h101.1 _) (h101.1 _) (h101.1 _) (h101.1 _) (h101.1 _) (fun _ _ => h101.2 _) (fun _ _ => h101.2 _) (fun _ _ => h101.2 _) (fun _ _ => h101.2 _) (fun _ _ => h101.2 _) (fun _ _ => h101.2 _) (fun _ _ => h101.2 _) (fun _ _ => h101.2 _) (fun _ => h101.2 _))

theorem regExec_kept {σ : Scope} {ρ : State} {s : State} (hk0 : Kept σ ρ s) (h101 : σ.Full) :
    Kept σ ρ (State.regExec s) := by
  unfold State.regExec
  exact Kept.ite (hk0) ((by (try dsimp only); split; exacts [hk0, stakeRun_kept (Kept.stake (advance_kept (advanceT_kept (hk0))) (h101.1 _)) (fun x12 k13 => regStake_kept (k13) h101) (h101.1 _) (h101.1 _) (h101.1 _) (h101.1 _) (h101.1 _) (fun _ => h101.2 _) (fun _ => h101.2 _) (fun _ => h101.2 _) (fun _ => h101.2 _) (fun _ _ => h101.2 _) (fun _ => h101.2 _) (fun _ => h101.2 _) (fun _ => h101.2 _) (fun _ => h101.2 _) (fun _ => h101.2 _)]))

theorem execStakeExecReg_kept {σ : Scope} {s : State} (h101 : σ.Full) :
    KeptNext σ s (execStakeExecReg s) := by
  unfold execStakeExecReg
  exact KeptNext.next (regExec_kept (Kept.refl σ s) h101)

theorem bookSwitch_kept {σ : Scope} {ρ : State} {s : State} {r : Rec} (hk0 : Kept σ ρ s) (h101 : σ.part .book = true) (h102 : σ.part .mem = true) (h103 : σ.part .pwr = true) (h104 : σ.fld pBOOK F.BOOK.WR_SEQ.SEQ) (h105 : σ.fld pBOOK F.BOOK.OLDEST.SEQ) (h106 : σ.fld pBOOK F.BOOK.SHADOW.DROP) (h107 : σ.fld pBOOK (Fld.mk 12 12 1)) (h108 : σ.fld pBOOK F.BOOK.DISCARD.COUNT) (h109 : ∀ n, σ.page (pEDGE n)) (h110 : σ.fld pBOOK F.BOOK.DISCARD_SYS.COUNT) (h111 : σ.fld pBOOK (Fld.mk 12 8 1)) (h112 : σ.fld pBOOK F.BOOK.LAPPED.COUNT) (h113 : σ.fld pBOOK (Fld.mk 12 11 1)) (h114 : σ.fld pBOOK (drainSeq DrainId.dma)) (h115 : σ.fld pBOOK (drainSeq DrainId.twin)) (h116 : σ.fld pBOOK (drainSeq DrainId.ring)) (h117 : σ.fld pBOOK (Fld.mk 12 9 1)) (h118 : σ.fld pSYS F.SYS.PSTATE.BUSY) :
    Kept σ ρ (State.bookSwitch s r) := by
  unfold State.bookSwitch
  exact Kept.cut (fun k1 => Kept.ite (k1) (stage_kept (k1) h101 h108 h106 h107 (h109 _).fld (h109 _).fld h110 h111)) (bookTakeover_kept (hk0) h101 h102 h103 h104 h105 h106 h107 h108 h109 h110 h111 h112 h113 h114 h115 h116 h117 h118)

theorem pinFromImage_kept {σ : Scope} {ρ : State} {s : State} {p : ℕ} (hk0 : Kept σ ρ s) (h101 : σ.part .pins = true) (h102 : σ.fld (muxPage p) (Fld.mk (F.PINMUX.SWDATA.LVL.off + 4 * (p % 64 / 32)) (p % 32) 1)) (h103 : σ.fld (muxPage p) (Fld.mk (F.PINMUX.SWOE.OE.off + 4 * (p % 64 / 32)) (p % 32) 1)) :
    Kept σ ρ (State.pinFromImage s p) := by
  unfold State.pinFromImage
  exact (by (try dsimp only); split; exacts [latchPin_kept (hk0) h101, latchPin_kept (hk0) h101, setB_kept (setB_kept (hk0) h102) h103, hk0])

theorem driveImage_kept {σ : Scope} {ρ : State} {s : State} (hk0 : Kept σ ρ s) (h101 : σ.part .pins = true) (h102 : ∀ n, σ.page (pPINMUX n)) :
    Kept σ ρ (State.driveImage s) := by
  unfold State.driveImage
  exact Kept.foldl (fun x0 a1 k2 => pinFromImage_kept (k2) h101 (h102 _).fld (h102 _).fld) _ _ (hk0)

theorem stakeTake_kept {σ : Scope} {ρ : State} {tk : ℕ} {s : State} {x : Stake} (hk0 : Kept σ ρ s) (h101 : σ.Full) :
    Kept σ ρ (State.stakeTake tk s x) := by
  unfold State.stakeTake
  exact Kept.cut (fun k1 => Kept.ite (Kept.ite (outcome_kept (anyEffect_kept (k1) h101) (h101.1 _) (h101.1 _) (h101.1 _) (h101.1 _) (h101.1 _) (fun _ => h101.2 _) (fun _ => h101.2 _) (fun _ => h101.2 _) (fun _ => h101.2 _) (fun _ _ => h101.2 _) (fun _ => h101.2 _) (fun _ => h101.2 _) (fun _ => h101.2 _)) (outcome_kept (k1) (h101.1 _) (h101.1 _) (h101.1 _) (h101.1 _) (h101.1 _) (fun _ => h101.2 _) (fun _ => h101.2 _) (fun _ => h101.2 _) (fun _ => h101.2 _) (fun _ _ => h101.2 _) (fun _ => h101.2 _) (fun _ => h101.2 _) (fun _ => h101.2 _))) (outcome_kept (k1) (h101.1 _) (h101.1 _) (h101.1 _) (h101.1 _) (h101.1 _) (fun _ => h101.2 _) (fun _ => h101.2 _) (fun _ => h101.2 _) (fun _ => h101.2 _) (fun _ _ => h101.2 _) (fun _ => h101.2 _) (fun _ => h101.2 _) (fun _ => h101.2 _))) (Kept.stake (hk0) (h101.1 _))

theorem stakesTake_kept {σ : Scope} {ρ : State} {s : State} {tk : ℕ} (hk0 : Kept σ ρ s) (h101 : σ.Full) :
    Kept σ ρ (State.stakesTake s tk) := by
  unfold State.stakesTake
  exact Kept.cut (fun k4 => Kept.ite (k4) (event_kept (k4) (fun _ _ => h101.2 _))) (Kept.foldl (fun x0 a1 k2 => stakeTake_kept (k2) h101) _ _ (hk0))

theorem takeOver_kept {σ : Scope} {ρ : State} {s : State} {tk : ℕ} (hk0 : Kept σ ρ s) (h101 : σ.Full) :
    Kept σ ρ (State.takeOver s tk) := by
  unfold State.takeOver
  exact Kept.u_dup_stake (event_kept (bump_kept (set_kept (leaseOver_kept (bookSwitch_kept (cansOn_kept (Kept.foldl (fun x183 a184 k185 => engResume_kept (k185) (h101.1 _)) _ _ (stakesTake_kept (setDup_kept (driveImage_kept (advanceT_kept (hk0)) (h101.1 _) (fun _ _ => h101.2 _)) (h101.1 _) (h101.1 _) (h101.1 _) (h101.1 _) (fun _ _ => h101.2 _) (fun _ _ => h101.2 _) (fun _ _ => h101.2 _) (fun _ _ => h101.2 _) (fun _ _ => h101.2 _) (fun _ _ => h101.2 _) (fun _ _ => h101.2 _) (fun _ _ => h101.2 _) (fun _ _ => h101.2 _) (fun _ _ => h101.2 _) (fun _ _ => h101.2 _) (fun _ _ => h101.2 _) (fun _ _ => h101.2 _) (fun _ _ => h101.2 _)) h101)) (h101.1 _) (h101.1 _) (h101.1 _) (h101.1 _) (fun _ _ => h101.2 _) (fun _ _ => h101.2 _) (fun _ _ => h101.2 _) (fun _ _ => h101.2 _) (fun _ _ => h101.2 _) (fun _ _ => h101.2 _) (fun _ _ => h101.2 _)) (h101.1 _) (h101.1 _) (h101.1 _) (fun _ _ => h101.2 _) (fun _ _ => h101.2 _) (fun _ _ => h101.2 _) (fun _ _ => h101.2 _) (fun _ _ => h101.2 _) (fun _ _ => h101.2 _) (fun _ _ => h101.2 _) (fun _ _ => h101.2 _) (fun _ _ => h101.2 _) (fun _ _ => h101.2 _) (fun _ _ => h101.2 _) (fun _ _ => h101.2 _) (fun _ _ => h101.2 _) (fun _ _ => h101.2 _) (fun _ _ => h101.2 _)) (h101.1 _) (h101.2 _) (fun _ _ => h101.2 _)) (fun _ _ => h101.2 _)) (fun _ _ => h101.2 _)) (fun _ _ => h101.2 _)) (h101.1 _) (h101.1 _)

theorem standDown_kept {σ : Scope} {ρ : State} {s : State} {tk : ℕ} (hk0 : Kept σ ρ s) (h101 : σ.part .bridge = true) (h102 : σ.part .dup = true) (h103 : σ.part .pins = true) (h104 : σ.part .edges = true) (h105 : σ.part .book = true) (h106 : σ.part .cans = true) (h107 : σ.page pBRIDGE) (h108 : σ.page pDUPLEX) (h109 : σ.page pBOOK) (h110 : ∀ n, σ.page (pEDGE n)) (h111 : ∀ n, σ.page (pCAN n)) :
    Kept σ ρ (State.standDown s tk) := by
  unfold State.standDown
  exact Kept.cut (fun k1 => Kept.ite (Kept.dup (canShadow_kept (setDup_kept (k1) h102 h103 h104 h105 h108.fld h109.fld h109.fld h109.fld h110 h109.fld h109.fld h109.fld h109.fld h109.fld h109.fld h109.fld h109.fld h108.fld) h106 h103 h104 h105 h111 h109.fld h109.fld h109.fld h110 h109.fld h109.fld) h102) (dupFence_kept (k1) h105 h102 h103 h104 h106 h109.fld h109.fld h109.fld h109.fld h109.fld h108.fld h110 h109.fld h109.fld h109.fld h109.fld h109.fld h109.fld h108.fld h108.fld h111)) (leaseOver_kept (advanceT_kept (hk0)) h101 (h107 _) h107.fld)

theorem boundaryTk_kept {σ : Scope} {ρ : State} {s : State} (hk0 : Kept σ ρ s) (h101 : σ.Full) :
    Kept σ ρ (State.boundaryTk s) := by
  unfold State.boundaryTk
  exact (by split; exacts [hk0, Kept.ite (takeOver_kept (hk0) h101) (Kept.ite (standDown_kept (hk0) (h101.1 _) (h101.1 _) (h101.1 _) (h101.1 _) (h101.1 _) (h101.1 _) (fun _ => h101.2 _) (fun _ => h101.2 _) (fun _ => h101.2 _) (fun _ _ => h101.2 _) (fun _ _ => h101.2 _)) (hk0))])

theorem execTakeover_kept {σ : Scope} {s : State} (h101 : σ.Full) :
    KeptNext σ s (execTakeover s) := by
  unfold execTakeover
  exact KeptNext.next (boundaryTk_kept (Kept.refl σ s) h101)

end Sys2Proof.Laws
end

