-- ==== Sys2Proof/Laws/Frame.lean ====
section
/-!
SUPPORT. From what a command keeps to what it leaves: the scope that a frame statement names, and the pages of a family.
-/

open Sys2Proof Sys2Proof.Machine Sys2Proof.Laws

namespace Sys2Proof.Laws

/-- The scope that a frame names. -/
def frameScope (fields : List (Nat × List Fld)) (pages : Nat → Bool) (parts : List Part) : Scope :=
  { reg := fun k => pages (k / 4096) ||
      fields.any (fun x => x.2.any (fun f => (List.range f.words).any (fun i => k == regKey x.1 (f.off + 4 * i))))
    part := fun x => parts.contains x }

variable {fields : List (Nat × List Fld)} {pages : Nat → Bool} {parts : List Part}

theorem leaves_of_kept {c : Instr} {s : State} (h : KeptNext (frameScope fields pages parts) s (exec c s)) :
    Leaves c s fields pages parts := by
  intro t ht
  obtain ⟨u, hu, k⟩ := h
  obtain rfl : u = t := by rw [ht] at hu; injection hu with e; exact e.symm
  refine ⟨fun p off hp hf => ?_, fun x hx => k.part x (by simp [frameScope, hx])⟩
  refine k.reg _ ?_
  have h1 : regKey p off / 4096 = p := by simp only [regKey]; omega
  simp only [frameScope, h1, hp, Bool.false_or]
  rw [Bool.eq_false_iff]
  intro hany
  simp only [List.any_eq_true, List.mem_range, beq_iff_eq] at hany
  obtain ⟨x, hx, f, hfx, i, hi, e⟩ := hany
  exact hf x hx f hfx i hi e

theorem frameScope_fld {p : Nat} {f : Fld} (l : List Fld) (g : Fld) (hp : (p, l) ∈ fields) (hg : g ∈ l) (ho : f.off = g.off)
    (hw : f.words ≤ g.words) : (frameScope fields pages parts).fld p f := by
  intro i hi
  simp only [frameScope, Bool.or_eq_true, List.any_eq_true]
  exact .inr ⟨_, hp, g, hg, i, by simp; omega, by simp [ho]⟩

theorem frameScope_page {p : Nat} (h : pages p = true) : (frameScope fields pages parts).page p := by
  intro off
  have h1 : regKey p off / 4096 = p := by simp only [regKey]; omega
  simp [frameScope, h1, h]
theorem frameScope_reg {p off : Nat} (h : ∃ x ∈ fields, x.1 = p ∧ (⟨off, 0, 32⟩ : Fld) ∈ x.2) :
    (frameScope fields pages parts).reg (regKey p off) = true := by
  obtain ⟨⟨q, l⟩, hx, rfl, hf⟩ := h
  exact frameScope_fld l _ hx hf rfl (le_refl _) 0 (by simp [Fld.words])

theorem famOf_pPORT (n : Nat) : famOf (pPORT n) = some .port := by
  unfold pPORT; split
  · interval_cases n <;> decide
  · have h : (n - 7) % 15 < 15 := by omega
    generalize (n - 7) % 15 = k at h ⊢; interval_cases k <;> decide

theorem famOf_pEDGE (n : Nat) : famOf (pEDGE n) = some .edge := by
  unfold pEDGE
  have h : n % 4 < 4 := by omega
  generalize n % 4 = k at h ⊢; interval_cases k <;> decide

theorem famOf_pCAN (n : Nat) : famOf (pCAN n) = some .can := by
  unfold pCAN
  have h : n % 16 < 16 := by omega
  generalize n % 16 = k at h ⊢; interval_cases k <;> decide

theorem famOf_pENG (n : Nat) : famOf (pENG n) = some .eng := by
  unfold pENG
  have h : n % 64 < 64 := by omega
  generalize n % 64 = k at h ⊢; interval_cases k <;> decide

theorem famOf_pSLOT (n : Nat) : famOf (pSLOT n) = some .slot := by
  unfold pSLOT
  have h : n % 8 < 8 := by omega
  generalize n % 8 = k at h ⊢; interval_cases k <;> decide

theorem famOf_pHMON (n : Nat) : famOf (pHMON n) = some .hmon := by
  unfold pHMON
  have h : n % 8 < 8 := by omega
  generalize n % 8 = k at h ⊢; interval_cases k <;> decide

end Sys2Proof.Laws
end

