-- ==== Sys2Proof/WellFormed.lean ====
section
/-!
DEFINITION. Well-formed commands: every operand lies in the range the spec gives the thing it names. A command that is not
well-formed names nothing the hub has; its meaning is still total.
-/

namespace Sys2Proof

open Sys2Proof.Machine

/-- A frame whose header fields fit their places (R29). -/
def Frame.wf (f : Frame) : Bool :=
  decide (f.dst < 2 ^ 48) && decide (f.src < 2 ^ 48) && decide (f.etype < 2 ^ 16) &&
    (match f.vlan with | some t => decide (t < 2 ^ 16) | none => true) &&
    (match f.hsr with | some h => decide (h.path < 16) && decide (h.size < 4096) && decide (h.seq < 2 ^ 16) | none => true)

/-- A ring transaction whose fields fit their places (R378). -/
def Trans.wf (t : Trans) : Bool :=
  decide (t.tseq < 2 ^ 16) && decide (t.status < 256) && decide (t.mask < 256) && decide (t.tag < 2 ^ 16) &&
    decide (t.addr < 2 ^ 48) && decide (t.addr % 8 = 0) && decide (t.data.length = 8)

/-- A cycle record whose parts fit their places (R400, R401). -/
def CycRecord.wf (r : CycRecord) : Bool :=
  decide (r.cycle < 2 ^ 32) && decide (r.tc < 2 ^ 64) && decide (r.engines.length ≤ 64) && decide (r.cans.length ≤ 16) &&
    decide (r.stakes.length ≤ 256) && r.stakes.all (fun b => decide (b.length = 40)) &&
    r.book.all (fun b => decide (b.length = 32)) && decide (r.tally.length = 64)

/-- Do the operands of a command lie in their ranges? -/
def Instr.wf (i : Instr) : Bool :=
  match i with
  | .vbatApplied _ => true
  | .guardPor _ => true
  | .guardUnsupplied _ => true
  | .pstateReqRun _ => true
  | .pstateReqWatch _ => true
  | .pstateReqKeep _ => true
  | .pstateReqReserved _ => true
  | .pstateTransitionDone _ => true
  | .dieLinkFail _ => true
  | .dieLinkTrained _ => true
  | .guardEventLineToggle _ line => decide (line < 12)
  | .guardEventLineCapture _ line => decide (line < 12)
  | .registerWrite _ page off _ _ => decide (page < 2 ^ 14) && decide (off < 4096)
  | .pageEnable _ page _ => decide (page < 2 ^ 14)
  | .enableCheckEnd _ chk => decide (chk.page < 2 ^ 14)
  | .pageStop _ page _ => decide (page < 2 ^ 14)
  | .pageStopDone _ page => decide (page < 2 ^ 14)
  | .pageHoldSet _ page => decide (page < 2 ^ 14)
  | .pageHeldReached _ page => decide (page < 2 ^ 14)
  | .pageHoldClear _ page => decide (page < 2 ^ 14)
  | .pageClr _ page => decide (page < 2 ^ 14)
  | .pageClrDone _ page => decide (page < 2 ^ 14)
  | .pageLock _ page _ => decide (page < 2 ^ 14)
  | .pevtClear _ page _ => decide (page < 2 ^ 14)
  | .pevtForce _ page _ => decide (page < 2 ^ 14)
  | .pevmWrite _ page _ => decide (page < 2 ^ 14)
  | .blockFault _ page => decide (page < 2 ^ 14)
  | .irqSummaryArrive _ page => decide (page < 2 ^ 14)
  | .noticeRepeat group => decide (group < 8)
  | .irqRearm _ mask => decide (mask < 256)
  | .msixUnmask _ vector => decide (vector < 32)
  | .datumIncWrite _ _ => true
  | .datumStepWrite _ _ _ => true
  | .datumStepUnlock _ _ => true
  | .unlockWindowExpire => true
  | .datumHoldReq _ => true
  | .datumResume _ => true
  | .refFaultDetect _ => true
  | .refFaultClear _ => true
  | .txqPop _ => true
  | .txqFlush _ => true
  | .ppsInEdge _ _ => true
  | .ppsOutStart => true
  | .ppsOutEnd => true
  | .pdelayWrite _ port _ => decide (port < 22)
  | .msclRoundStart => true
  | .probeRx _ port _ _ pr => decide (port < 22) && pr.fr.wf
  | .msclProbeTimeout => true
  | .coincWindowClose => true
  | .cycleBoundary => true
  | .platFreeze => true
  | .platRelease => true
  | .platOwnSent _ port => decide (port < 22)
  | .platFrameRx _ port _ fr => decide (port < 22) && fr.wf
  | .platVote => true
  | .platViewFlip => true
  | .platOutputWrite _ addr data _ => decide (addr < 2 ^ 48) && decide (data.length ≤ 8)
  | .cycleRejoin _ => true
  | .gangFeedRx _ member _ => decide (member < 4)
  | .stakeIssue _ _ _ => true
  | .stakeFrameSend _ => true
  | .stakeArrival _ bytes => decide (bytes.length = 32)
  | .stakeCancelArrival _ bytes => decide (bytes.length = 32) && natBit (nth bytes 2 0).toNat 1
  | .stakeCancelWrite _ _ => true
  | .stakeHandover => true
  | .stakeIslandWithdraw => true
  | .stakeExecPin => true
  | .stakeExecEngFifo => true
  | .stakeExecCan => true
  | .stakeExecReg => true
  | .stakeExecPlat => true
  | .receiptRx _ node member payload => decide (node < 128) && decide (member < 4) && decide (payload.length = 24)
  | .rcptPop _ => true
  | .instrWaitt eng => decide (eng < 64)
  | .waittComplete eng => decide (eng < 64)
  | .instrWaitp eng => decide (eng < 64)
  | .waitpComplete _ eng => decide (eng < 64)
  | .instrDly eng => decide (eng < 64)
  | .dlyComplete eng => decide (eng < 64)
  | .instrCnt eng => decide (eng < 64)
  | .cntComplete _ eng => decide (eng < 64)
  | .instrJmp eng => decide (eng < 64)
  | .instrMov eng => decide (eng < 64)
  | .instrSet eng => decide (eng < 64)
  | .instrOut eng => decide (eng < 64)
  | .instrIn eng => decide (eng < 64)
  | .instrPull eng => decide (eng < 64)
  | .instrPush eng => decide (eng < 64)
  | .instrStamp eng => decide (eng < 64)
  | .instrNote eng => decide (eng < 64)
  | .undefinedInstruction eng => decide (eng < 64)
  | .instrDelayEnd eng => decide (eng < 64)
  | .engineStallEnd eng => decide (eng < 64)
  | .engTxfWrite _ eng _ => decide (eng < 64)
  | .engRxfPop _ eng => decide (eng < 64)
  | .engJump _ eng word => decide (eng < 64) && decide (word < 256)
  | .engSnap _ eng => decide (eng < 64)
  | .crewSwapGo _ crew => decide (crew < 16)
  | .crewGoEng _ crew mask => decide (crew < 16) && decide (mask < 16)
  | .crewFlagset _ crew mask => decide (crew < 16) && decide (mask < 2 ^ 32)
  | .pinmuxSwdataWrite _ q off _ => decide (q < 4) && decide (off < 4096)
  | .pinTransition _ pin _ => decide (pin < 256)
  | .glitchWindowExpire pin => decide (pin < 256)
  | .debounceWindowClose pin => decide (pin < 256)
  | .chatterWindowClose pin => decide (pin < 256)
  | .chatterQuietEnd pin => decide (pin < 256)
  | .stuckTimerExpire pin => decide (pin < 256)
  | .bookCommit _ => true
  | .discardEpisodeEnd => true
  | .bookDmaBurst _ => true
  | .bookFrameSend _ => true
  | .canTxStart _ can _ => decide (can < 16)
  | .canTxDone _ can _ => decide (can < 16)
  | .canArbLost _ can => decide (can < 16)
  | .canTxError _ can err _ _ _ _ _ _ => decide (can < 16) && decide (err < 8)
  | .canRecover _ can => decide (can < 16)
  | .canRxFrame _ can _ id dlc _ _ data =>
    decide (can < 16) && decide (id < 2 ^ 32) && decide (dlc < 16) && decide (data.length ≤ 64)
  | .canTxreq _ can map => decide (can < 16) && decide (map < 8)
  | .canTxabort _ can map => decide (can < 16) && decide (map < 8)
  | .canRxack _ can index => decide (can < 16) && decide (index < 2 ^ 16)
  | .canRefDue can => decide (can < 16)
  | .canSynced _ can => decide (can < 16)
  | .linkDown _ port => decide (port < 22)
  | .linkUp _ port speed => decide (port < 22) && decide (speed < 4)
  | .linkFallbackToggle port => decide (port < 22)
  | .portRxFrame _ port fr _ => decide (port < 22) && fr.wf
  | .portTxStart _ go => decide (go.port < 22)
  | .gclEntryChange port => decide (port < 22)
  | .gclSwapWrite _ port => decide (port < 22)
  | .gclSwapApply port => decide (port < 22)
  | .pauseSend _ port => decide (port < 22)
  | .pauseRepeat port => decide (port < 22)
  | .pauseRx _ port quanta => decide (port < 22) && decide (quanta < 2 ^ 16)
  | .pauseExpire port => decide (port < 22)
  | .holdWindowClose port => decide (port < 22)
  | .pcsLockLoss _ port => decide (port < 22)
  | .portSnap _ port _ => decide (port < 22)
  | .fdbAgeExpire index => decide (index < 8192)
  | .fdbRead _ index => decide (index < 2 ^ 16)
  | .fdbLookup _ => true
  | .fdbWrite _ => true
  | .fdbDelete _ => true
  | .fdbFlushDest _ => true
  | .fdbFlushAll _ => true
  | .fdbCmdReserved _ op => decide (op < 256)
  | .hsrEntryExpire => true
  | .bufmemFailBank _ bank => decide (bank < 9)
  | .bufmemRebuild _ bank => decide (bank < 9)
  | .bufmemRebuildDone _ _ => true
  | .bufmemScrub _ _ => true
  | .macsecSaInstall _ port sa handle => decide (port < 7) && decide (sa < 4) && decide (handle < 2 ^ 16)
  | .macsecSaInstallDone _ port sa => decide (port < 7) && decide (sa < 4)
  | .macsecTxAnWrite _ port an => decide (port < 7) && decide (an < 4)
  | .macsecTxAnApply _ port => decide (port < 7)
  | .hostBar2Read _ off len tag => decide (off < 2 ^ 32) && decide (len ≤ 4096) && decide (tag < 2 ^ 16)
  | .hostBar2Write _ off data => decide (off < 2 ^ 32) && decide (data.length ≤ 4096)
  | .mgmtRead _ port node member tr => decide (port < 22) && decide (node < 128) && decide (member < 4) && tr.wf
  | .mgmtPostedWrite _ port node member tr =>
    decide (port < 22) && decide (node < 128) && decide (member < 4) && tr.wf
  | .mgmtNpWrite _ port node member tr => decide (port < 22) && decide (node < 128) && decide (member < 4) && tr.wf
  | .mgmtWriteAck _ tr => tr.wf
  | .mgmtReadCompletion _ tr => tr.wf
  | .ordWaitExpire node member => decide (node < 128) && decide (member < 4)
  | .npTimeout tag => decide (tag < 2 ^ 16)
  | .noticeLateErrorSend node member => decide (node < 128) && decide (member < 4)
  | .noticeLateErrorRx _ node member _ => decide (node < 128) && decide (member < 4)
  | .noticeGroupRx _ node member group pend =>
    decide (node < 128) && decide (member < 4) && decide (group < 8) && decide (pend.length = 8)
  | .noticeLastGaspRx _ node member _ => decide (node < 128) && decide (member < 4)
  | .llogPop _ => true
  | .hostTxTail _ slot => decide (slot < 2 ^ 32)
  | .hostTxSlotRead _ header frame => decide (header.length = 16) && decide (frame.length = 4080)
  | .leaseOpen _ node member => decide (node < 128) && decide (member < 4)
  | .leaseChallenge _ node member challenge =>
    decide (node < 128) && decide (member < 4) && decide (challenge.length = 32)
  | .leaseProof _ node member proof => decide (node < 128) && decide (member < 4) && decide (proof.length = 48)
  | .leaseGrant _ node member seconds next =>
    decide (node < 128) && decide (member < 4) && decide (seconds < 2 ^ 32) && decide (next.length = 32)
  | .leaseRenew _ node member proof => decide (node < 128) && decide (member < 4) && decide (proof.length = 48)
  | .leaseRelease _ node member => decide (node < 128) && decide (member < 4)
  | .leaseRefuse _ node member reason => decide (node < 128) && decide (member < 4) && decide (reason < 256)
  | .leaseExpire => true
  | .leaseChallengeExpire => true
  | .leaseDrop _ => true
  | .pcieLinkChange _ _ => true
  | .duplexCopyPoint _ => true
  | .backsightStatusRx _ lane payload => decide (lane < 2) && decide (payload.length = 32)
  | .cycleRecordApply _ rec => rec.wf
  | .backsightNoticeRx _ payload =>
    decide (payload.length % 16 = 0) && decide (0 < payload.length) && decide (payload.length ≤ 256)
  | .heartbeatWindowClose => true
  | .duplexNegotiateTimeout => true
  | .takeover => true
  | .duplexFault _ => true
  | .duplexHandover _ => true
  | .duplexRejoin _ => true
  | .duplexFence _ => true
  | .dualClaimStatusRx _ payload => decide (payload.length = 32)
  | .gangHelloSend => true
  | .gangHelloRx _ port member _ => decide (port < 22) && decide (member < 4)
  | .gangFormWaitExpire => true
  | .gangTimeSend => true
  | .gangTimeRx _ port member _ _ => decide (port < 22) && decide (member < 4)
  | .gangStateRx _ member payload => decide (member < 4) && decide (payload.length = 8)
  | .gangVote => true
  | .gangctlRejoin _ => true
  | .gangctlFence _ => true
  | .inputInvalid _ input _ _ vinA vinB vor _ =>
    decide (input < 2) && decide (vinA < 2 ^ 16) && decide (vinB < 2 ^ 16) && decide (vor < 2 ^ 16)
  | .inputValid _ input vinA vinB _ => decide (input < 2) && decide (vinA < 2 ^ 16) && decide (vinB < 2 ^ 16)
  | .mainReturn vinA vor => decide (vinA < 2 ^ 16) && decide (vor < 2 ^ 16)
  | .supplyReturnPref vinA vinB _ => decide (vinA < 2 ^ 16) && decide (vinB < 2 ^ 16)
  | .reverseComparator _ input _ => decide (input < 2)
  | .railSequenceStart => true
  | .railEnStep _ => true
  | .railRampTimeout => true
  | .pgCoreRelease _ => true
  | .railFault _ map _ => decide (map < 256)
  | .railEnFallStep _ => true
  | .railFaultRestart => true
  | .supplyRfClr _ => true
  | .vorBelowPfw _ => true
  | .pfwRelease _ => true
  | .slotFastTrip _ slot vout => decide (slot < 8) && decide (vout < 2 ^ 16)
  | .slotFaultTimerExpire _ slot vout => decide (slot < 8) && decide (vout < 2 ^ 16)
  | .slotLimitTimerClear _ slot => decide (slot < 8)
  | .slotStartTimeout slot vout => decide (slot < 8) && decide (vout < 2 ^ 16)
  | .slotPgRise _ slot _ vout => decide (slot < 8) && decide (vout < 2 ^ 16)
  | .slotPgFall _ slot vout => decide (slot < 8) && decide (vout < 2 ^ 16)
  | .slotCoolEnd slot => decide (slot < 8)
  | .slotInsertRemainderEnd slot => decide (slot < 8)
  | .slotRemoval _ slot vout => decide (slot < 8) && decide (vout < 2 ^ 16)
  | .slotInsertion _ slot => decide (slot < 8)
  | .slotOnPinChange _ slot _ vout => decide (slot < 8) && decide (vout < 2 ^ 16)
  | .tallyUpdate _ _ => true
  | .classAComplete _ => true
  | .classATimeout => true
  | .tallyLearn _ => true
  | .tallyAutoLearn => true
  | .tallyLearnEnd => true
  | .monumentDerive _ _ => true
  | .monumentGenerate _ _ => true
  | .monumentGenIdent _ => true
  | .monumentImport _ _ => true
  | .monumentUnwrap _ _ => true
  | .monumentWrap _ => true
  | .monumentMac _ => true
  | .monumentMacVerify _ => true
  | .monumentSign _ => true
  | .monumentPubkey _ => true
  | .monumentAttest _ => true
  | .monumentProve _ => true
  | .monumentCommit _ => true
  | .monumentDiscard _ => true
  | .monumentErase _ => true
  | .monumentInfo _ => true
  | .monumentTransition _ => true
  | .monumentMkaKdf _ => true
  | .monumentMkaIcv _ => true
  | .monumentMkaUnwrap _ => true
  | .monumentOpReserved _ op => decide (op < 256)
  | .monumentOpDone _ => true
  | .keyCommit => true
  | .keyCommitOldZeroed _ => true
  | .trngFail _ => true
  | .monumentRtcSet _ _ => true
  | .tamperDetect _ sources => decide (sources < 2 ^ 32)
  | .tamperRearm _ _ => true
  | .hmonSample _ mon _ => decide (mon < 8)
  | .hmonSnap _ mon _ _ => decide (mon < 8)
  | .calDataWrite _ _ => true
  | .calDataRead _ => true
  | .calUnlock _ _ => true
  | .calProg _ => true
  | .calProgDone _ => true
  | .corePorRelease _ nid role boot => decide (nid < 128) && decide (role < 8) && decide (boot < 4)
  | .pllLock _ => true
  | .calLoadDone _ => true
  | .selfTestDone _ _ _ => true
  | .bootFetchDone _ _ => true
  | .bootAuthDone _ => true
  | .bootGo _ => true
  | .bootDataWrite _ _ => true
  | .bootEntryPage _ => true
  | .bootEntryProgram _ => true
  | .bootEntryWait _ => true
  | .bootWaitTimeout => true
  | .rstNAssert _ => true
  | .rstNRelease _ nid role boot => decide (nid < 128) && decide (role < 8) && decide (boot < 4)
  | .wdogArm _ _ => true
  | .wdogKick _ => true
  | .wdogExpire => true
  | .wdogDelayedReset => true
  | .resetCmd _ => true
  | .resetCmdFire => true
  | .domainReset _ map => decide (map < 2 ^ 32)
  | .domainResetDone _ map => decide (map < 2 ^ 32)
  | .batteryDomainLoss _ => true
  | .canReceiveError _ can err _ _ => decide (can < 16) && decide (err < 16)
  | .stallLong eng => decide (eng < 64)
  | .swapAbandon eng => decide (eng < 64)
  | .peerAbsent => true
  | .tamperSourceInactive _ sources => decide (sources < 2 ^ 32)
  | .vddioBankChange _ bank _ _ => decide (bank < 8)

end Sys2Proof
end

