-- ==== Sys2Proof/Laws/PerInstr.lean ====
section
/-!
SUPPORT. Facts about every command as syntax, one lemma for each constructor: whether a command is well-formed does not
depend on the moment at which it happens.
-/

namespace Sys2Proof.Laws.Clocked

/-- The same command at another moment; a command that falls due by the state carries none and stays. -/
noncomputable def retime (at_ : Nat) (i : Instr) : Instr :=
  match i with
  | .vbatApplied _ => .vbatApplied at_
  | .guardPor _ => .guardPor at_
  | .guardUnsupplied _ => .guardUnsupplied at_
  | .pstateReqRun _ => .pstateReqRun at_
  | .pstateReqWatch _ => .pstateReqWatch at_
  | .pstateReqKeep _ => .pstateReqKeep at_
  | .pstateReqReserved _ => .pstateReqReserved at_
  | .pstateTransitionDone _ => .pstateTransitionDone at_
  | .dieLinkFail _ => .dieLinkFail at_
  | .dieLinkTrained _ => .dieLinkTrained at_
  | .guardEventLineToggle _ line => .guardEventLineToggle at_ line
  | .guardEventLineCapture _ line => .guardEventLineCapture at_ line
  | .registerWrite _ page off data src => .registerWrite at_ page off data src
  | .pageEnable _ page data => .pageEnable at_ page data
  | .enableCheckEnd _ chk => .enableCheckEnd at_ chk
  | .pageStop _ page data => .pageStop at_ page data
  | .pageStopDone _ page => .pageStopDone at_ page
  | .pageHoldSet _ page => .pageHoldSet at_ page
  | .pageHeldReached _ page => .pageHeldReached at_ page
  | .pageHoldClear _ page => .pageHoldClear at_ page
  | .pageClr _ page => .pageClr at_ page
  | .pageClrDone _ page => .pageClrDone at_ page
  | .pageLock _ page data => .pageLock at_ page data
  | .pevtClear _ page data => .pevtClear at_ page data
  | .pevtForce _ page data => .pevtForce at_ page data
  | .pevmWrite _ page data => .pevmWrite at_ page data
  | .blockFault _ page => .blockFault at_ page
  | .irqSummaryArrive _ page => .irqSummaryArrive at_ page
  | .noticeRepeat group => .noticeRepeat group
  | .irqRearm _ mask => .irqRearm at_ mask
  | .msixUnmask _ vector => .msixUnmask at_ vector
  | .datumIncWrite _ hi => .datumIncWrite at_ hi
  | .datumStepWrite _ hi src => .datumStepWrite at_ hi src
  | .datumStepUnlock _ w => .datumStepUnlock at_ w
  | .unlockWindowExpire => .unlockWindowExpire
  | .datumHoldReq _ => .datumHoldReq at_
  | .datumResume _ => .datumResume at_
  | .refFaultDetect _ => .refFaultDetect at_
  | .refFaultClear _ => .refFaultClear at_
  | .txqPop _ => .txqPop at_
  | .txqFlush _ => .txqFlush at_
  | .ppsInEdge _ rising => .ppsInEdge at_ rising
  | .ppsOutStart => .ppsOutStart
  | .ppsOutEnd => .ppsOutEnd
  | .pdelayWrite _ port value => .pdelayWrite at_ port value
  | .msclRoundStart => .msclRoundStart
  | .probeRx _ port hdrClk tri pr => .probeRx at_ port hdrClk tri pr
  | .msclProbeTimeout => .msclProbeTimeout
  | .coincWindowClose => .coincWindowClose
  | .cycleBoundary => .cycleBoundary
  | .platFreeze => .platFreeze
  | .platRelease => .platRelease
  | .platOwnSent _ port => .platOwnSent at_ port
  | .platFrameRx _ port stamp fr => .platFrameRx at_ port stamp fr
  | .platVote => .platVote
  | .platViewFlip => .platViewFlip
  | .platOutputWrite _ addr data src => .platOutputWrite at_ addr data src
  | .cycleRejoin _ => .cycleRejoin at_
  | .gangFeedRx _ member feeds => .gangFeedRx at_ member feeds
  | .stakeIssue _ word src => .stakeIssue at_ word src
  | .stakeFrameSend _ => .stakeFrameSend at_
  | .stakeArrival _ bytes => .stakeArrival at_ bytes
  | .stakeCancelArrival _ bytes => .stakeCancelArrival at_ bytes
  | .stakeCancelWrite _ data => .stakeCancelWrite at_ data
  | .stakeHandover => .stakeHandover
  | .stakeIslandWithdraw => .stakeIslandWithdraw
  | .stakeExecPin => .stakeExecPin
  | .stakeExecEngFifo => .stakeExecEngFifo
  | .stakeExecCan => .stakeExecCan
  | .stakeExecReg => .stakeExecReg
  | .stakeExecPlat => .stakeExecPlat
  | .receiptRx _ node member payload => .receiptRx at_ node member payload
  | .rcptPop _ => .rcptPop at_
  | .instrWaitt eng => .instrWaitt eng
  | .waittComplete eng => .waittComplete eng
  | .instrWaitp eng => .instrWaitp eng
  | .waitpComplete _ eng => .waitpComplete at_ eng
  | .instrDly eng => .instrDly eng
  | .dlyComplete eng => .dlyComplete eng
  | .instrCnt eng => .instrCnt eng
  | .cntComplete _ eng => .cntComplete at_ eng
  | .instrJmp eng => .instrJmp eng
  | .instrMov eng => .instrMov eng
  | .instrSet eng => .instrSet eng
  | .instrOut eng => .instrOut eng
  | .instrIn eng => .instrIn eng
  | .instrPull eng => .instrPull eng
  | .instrPush eng => .instrPush eng
  | .instrStamp eng => .instrStamp eng
  | .instrNote eng => .instrNote eng
  | .undefinedInstruction eng => .undefinedInstruction eng
  | .instrDelayEnd eng => .instrDelayEnd eng
  | .engineStallEnd eng => .engineStallEnd eng
  | .engTxfWrite _ eng data => .engTxfWrite at_ eng data
  | .engRxfPop _ eng => .engRxfPop at_ eng
  | .engJump _ eng word => .engJump at_ eng word
  | .engSnap _ eng => .engSnap at_ eng
  | .crewSwapGo _ crew => .crewSwapGo at_ crew
  | .crewGoEng _ crew mask => .crewGoEng at_ crew mask
  | .crewFlagset _ crew mask => .crewFlagset at_ crew mask
  | .pinmuxSwdataWrite _ q off data => .pinmuxSwdataWrite at_ q off data
  | .pinTransition _ pin tr => .pinTransition at_ pin tr
  | .glitchWindowExpire pin => .glitchWindowExpire pin
  | .debounceWindowClose pin => .debounceWindowClose pin
  | .chatterWindowClose pin => .chatterWindowClose pin
  | .chatterQuietEnd pin => .chatterQuietEnd pin
  | .stuckTimerExpire pin => .stuckTimerExpire pin
  | .bookCommit _ => .bookCommit at_
  | .discardEpisodeEnd => .discardEpisodeEnd
  | .bookDmaBurst _ => .bookDmaBurst at_
  | .bookFrameSend _ => .bookFrameSend at_
  | .canTxStart _ can loop => .canTxStart at_ can loop
  | .canTxDone _ can tdcv => .canTxDone at_ can tdcv
  | .canArbLost _ can => .canArbLost at_ can
  | .canTxError _ can err afterArb dataPhase dominant pos eights tdcv => .canTxError at_ can err afterArb dataPhase dominant pos eights tdcv
  | .canRecover _ can => .canRecover at_ can
  | .canRxFrame _ can edge id dlc brs esi data => .canRxFrame at_ can edge id dlc brs esi data
  | .canTxreq _ can map => .canTxreq at_ can map
  | .canTxabort _ can map => .canTxabort at_ can map
  | .canRxack _ can index => .canRxack at_ can index
  | .canRefDue can => .canRefDue can
  | .canSynced _ can => .canSynced at_ can
  | .linkDown _ port => .linkDown at_ port
  | .linkUp _ port speed => .linkUp at_ port speed
  | .linkFallbackToggle port => .linkFallbackToggle port
  | .portRxFrame _ port fr chk => .portRxFrame at_ port fr chk
  | .portTxStart _ go => .portTxStart at_ go
  | .gclEntryChange port => .gclEntryChange port
  | .gclSwapWrite _ port => .gclSwapWrite at_ port
  | .gclSwapApply port => .gclSwapApply port
  | .pauseSend _ port => .pauseSend at_ port
  | .pauseRepeat port => .pauseRepeat port
  | .pauseRx _ port quanta => .pauseRx at_ port quanta
  | .pauseExpire port => .pauseExpire port
  | .holdWindowClose port => .holdWindowClose port
  | .pcsLockLoss _ port => .pcsLockLoss at_ port
  | .portSnap _ port all => .portSnap at_ port all
  | .fdbAgeExpire index => .fdbAgeExpire index
  | .fdbRead _ index => .fdbRead at_ index
  | .fdbLookup _ => .fdbLookup at_
  | .fdbWrite _ => .fdbWrite at_
  | .fdbDelete _ => .fdbDelete at_
  | .fdbFlushDest _ => .fdbFlushDest at_
  | .fdbFlushAll _ => .fdbFlushAll at_
  | .fdbCmdReserved _ op => .fdbCmdReserved at_ op
  | .hsrEntryExpire => .hsrEntryExpire
  | .bufmemFailBank _ bank => .bufmemFailBank at_ bank
  | .bufmemRebuild _ bank => .bufmemRebuild at_ bank
  | .bufmemRebuildDone _ ok => .bufmemRebuildDone at_ ok
  | .bufmemScrub _ cell => .bufmemScrub at_ cell
  | .macsecSaInstall _ port sa handle => .macsecSaInstall at_ port sa handle
  | .macsecSaInstallDone _ port sa => .macsecSaInstallDone at_ port sa
  | .macsecTxAnWrite _ port an => .macsecTxAnWrite at_ port an
  | .macsecTxAnApply _ port => .macsecTxAnApply at_ port
  | .hostBar2Read _ off len tag => .hostBar2Read at_ off len tag
  | .hostBar2Write _ off data => .hostBar2Write at_ off data
  | .mgmtRead _ port node member tr => .mgmtRead at_ port node member tr
  | .mgmtPostedWrite _ port node member tr => .mgmtPostedWrite at_ port node member tr
  | .mgmtNpWrite _ port node member tr => .mgmtNpWrite at_ port node member tr
  | .mgmtWriteAck _ tr => .mgmtWriteAck at_ tr
  | .mgmtReadCompletion _ tr => .mgmtReadCompletion at_ tr
  | .ordWaitExpire node member => .ordWaitExpire node member
  | .npTimeout tag => .npTimeout tag
  | .noticeLateErrorSend node member => .noticeLateErrorSend node member
  | .noticeLateErrorRx _ node member entries => .noticeLateErrorRx at_ node member entries
  | .noticeGroupRx _ node member group pend => .noticeGroupRx at_ node member group pend
  | .noticeLastGaspRx _ node member payload => .noticeLastGaspRx at_ node member payload
  | .llogPop _ => .llogPop at_
  | .hostTxTail _ slot => .hostTxTail at_ slot
  | .hostTxSlotRead _ header frame => .hostTxSlotRead at_ header frame
  | .leaseOpen _ node member => .leaseOpen at_ node member
  | .leaseChallenge _ node member challenge => .leaseChallenge at_ node member challenge
  | .leaseProof _ node member proof => .leaseProof at_ node member proof
  | .leaseGrant _ node member seconds next => .leaseGrant at_ node member seconds next
  | .leaseRenew _ node member proof => .leaseRenew at_ node member proof
  | .leaseRelease _ node member => .leaseRelease at_ node member
  | .leaseRefuse _ node member reason => .leaseRefuse at_ node member reason
  | .leaseExpire => .leaseExpire
  | .leaseChallengeExpire => .leaseChallengeExpire
  | .leaseDrop _ => .leaseDrop at_
  | .pcieLinkChange _ up => .pcieLinkChange at_ up
  | .duplexCopyPoint cut => .duplexCopyPoint cut
  | .backsightStatusRx _ lane payload => .backsightStatusRx at_ lane payload
  | .cycleRecordApply _ rec => .cycleRecordApply at_ rec
  | .backsightNoticeRx _ payload => .backsightNoticeRx at_ payload
  | .heartbeatWindowClose => .heartbeatWindowClose
  | .duplexNegotiateTimeout => .duplexNegotiateTimeout
  | .takeover => .takeover
  | .duplexFault _ => .duplexFault at_
  | .duplexHandover _ => .duplexHandover at_
  | .duplexRejoin _ => .duplexRejoin at_
  | .duplexFence _ => .duplexFence at_
  | .dualClaimStatusRx _ payload => .dualClaimStatusRx at_ payload
  | .gangHelloSend => .gangHelloSend
  | .gangHelloRx _ port member payload => .gangHelloRx at_ port member payload
  | .gangFormWaitExpire => .gangFormWaitExpire
  | .gangTimeSend => .gangTimeSend
  | .gangTimeRx _ port member stamp payload => .gangTimeRx at_ port member stamp payload
  | .gangStateRx _ member payload => .gangStateRx at_ member payload
  | .gangVote => .gangVote
  | .gangctlRejoin _ => .gangctlRejoin at_
  | .gangctlFence _ => .gangctlFence at_
  | .inputInvalid _ input ov other vinA vinB vor gateNs => .inputInvalid at_ input ov other vinA vinB vor gateNs
  | .inputValid _ input vinA vinB gateNs => .inputValid at_ input vinA vinB gateNs
  | .mainReturn vinA vor => .mainReturn vinA vor
  | .supplyReturnPref vinA vinB gateNs => .supplyReturnPref vinA vinB gateNs
  | .reverseComparator _ input off => .reverseComparator at_ input off
  | .railSequenceStart => .railSequenceStart
  | .railEnStep enter => .railEnStep enter
  | .railRampTimeout => .railRampTimeout
  | .pgCoreRelease enter => .pgCoreRelease enter
  | .railFault _ map above => .railFault at_ map above
  | .railEnFallStep _ => .railEnFallStep at_
  | .railFaultRestart => .railFaultRestart
  | .supplyRfClr _ => .supplyRfClr at_
  | .vorBelowPfw _ => .vorBelowPfw at_
  | .pfwRelease _ => .pfwRelease at_
  | .slotFastTrip _ slot vout => .slotFastTrip at_ slot vout
  | .slotFaultTimerExpire _ slot vout => .slotFaultTimerExpire at_ slot vout
  | .slotLimitTimerClear _ slot => .slotLimitTimerClear at_ slot
  | .slotStartTimeout slot vout => .slotStartTimeout slot vout
  | .slotPgRise _ slot limiting vout => .slotPgRise at_ slot limiting vout
  | .slotPgFall _ slot vout => .slotPgFall at_ slot vout
  | .slotCoolEnd slot => .slotCoolEnd slot
  | .slotInsertRemainderEnd slot => .slotInsertRemainderEnd slot
  | .slotRemoval _ slot vout => .slotRemoval at_ slot vout
  | .slotInsertion _ slot => .slotInsertion at_ slot
  | .slotOnPinChange _ slot level vout => .slotOnPinChange at_ slot level vout
  | .tallyUpdate _ adc => .tallyUpdate at_ adc
  | .classAComplete _ => .classAComplete at_
  | .classATimeout => .classATimeout
  | .tallyLearn _ => .tallyLearn at_
  | .tallyAutoLearn => .tallyAutoLearn
  | .tallyLearnEnd => .tallyLearnEnd
  | .monumentDerive _ stage => .monumentDerive at_ stage
  | .monumentGenerate _ stage => .monumentGenerate at_ stage
  | .monumentGenIdent _ => .monumentGenIdent at_
  | .monumentImport _ stage => .monumentImport at_ stage
  | .monumentUnwrap _ stage => .monumentUnwrap at_ stage
  | .monumentWrap _ => .monumentWrap at_
  | .monumentMac _ => .monumentMac at_
  | .monumentMacVerify _ => .monumentMacVerify at_
  | .monumentSign _ => .monumentSign at_
  | .monumentPubkey _ => .monumentPubkey at_
  | .monumentAttest _ => .monumentAttest at_
  | .monumentProve _ => .monumentProve at_
  | .monumentCommit _ => .monumentCommit at_
  | .monumentDiscard _ => .monumentDiscard at_
  | .monumentErase _ => .monumentErase at_
  | .monumentInfo _ => .monumentInfo at_
  | .monumentTransition _ => .monumentTransition at_
  | .monumentMkaKdf _ => .monumentMkaKdf at_
  | .monumentMkaIcv _ => .monumentMkaIcv at_
  | .monumentMkaUnwrap _ => .monumentMkaUnwrap at_
  | .monumentOpReserved _ op => .monumentOpReserved at_ op
  | .monumentOpDone _ => .monumentOpDone at_
  | .keyCommit => .keyCommit
  | .keyCommitOldZeroed _ => .keyCommitOldZeroed at_
  | .trngFail _ => .trngFail at_
  | .monumentRtcSet _ word => .monumentRtcSet at_ word
  | .tamperDetect _ sources => .tamperDetect at_ sources
  | .tamperRearm _ word => .tamperRearm at_ word
  | .hmonSample _ mon value => .hmonSample at_ mon value
  | .hmonSnap _ mon clear all => .hmonSnap at_ mon clear all
  | .calDataWrite _ data => .calDataWrite at_ data
  | .calDataRead _ => .calDataRead at_
  | .calUnlock _ word => .calUnlock at_ word
  | .calProg _ => .calProg at_
  | .calProgDone _ => .calProgDone at_
  | .corePorRelease _ nid role boot => .corePorRelease at_ nid role boot
  | .pllLock _ => .pllLock at_
  | .calLoadDone _ => .calLoadDone at_
  | .selfTestDone _ failed uncorr => .selfTestDone at_ failed uncorr
  | .bootFetchDone _ image => .bootFetchDone at_ image
  | .bootAuthDone _ => .bootAuthDone at_
  | .bootGo _ => .bootGo at_
  | .bootDataWrite _ data => .bootDataWrite at_ data
  | .bootEntryPage _ => .bootEntryPage at_
  | .bootEntryProgram _ => .bootEntryProgram at_
  | .bootEntryWait _ => .bootEntryWait at_
  | .bootWaitTimeout => .bootWaitTimeout
  | .rstNAssert _ => .rstNAssert at_
  | .rstNRelease _ nid role boot => .rstNRelease at_ nid role boot
  | .wdogArm _ data => .wdogArm at_ data
  | .wdogKick _ => .wdogKick at_
  | .wdogExpire => .wdogExpire
  | .wdogDelayedReset => .wdogDelayedReset
  | .resetCmd _ => .resetCmd at_
  | .resetCmdFire => .resetCmdFire
  | .domainReset _ map => .domainReset at_ map
  | .domainResetDone _ map => .domainResetDone at_ map
  | .batteryDomainLoss _ => .batteryDomainLoss at_
  | .canReceiveError _ can err tecEights recEights => .canReceiveError at_ can err tecEights recEights
  | .stallLong eng => .stallLong eng
  | .swapAbandon eng => .swapAbandon eng
  | .peerAbsent => .peerAbsent
  | .tamperSourceInactive _ sources => .tamperSourceInactive at_ sources
  | .vddioBankChange _ bank present sense => .vddioBankChange at_ bank present sense

/-- A command is well-formed at one moment exactly when it is at any other (R6: the moment is no operand). -/
def Statement (i : Instr) : Prop := ∀ at_ : Nat, (retime at_ i).wf = i.wf

theorem vbatApplied (clk : Nat) : Statement (.vbatApplied clk) := fun _ => rfl
theorem guardPor (clk : Nat) : Statement (.guardPor clk) := fun _ => rfl
theorem guardUnsupplied (clk : Nat) : Statement (.guardUnsupplied clk) := fun _ => rfl
theorem pstateReqRun (clk : Nat) : Statement (.pstateReqRun clk) := fun _ => rfl
theorem pstateReqWatch (clk : Nat) : Statement (.pstateReqWatch clk) := fun _ => rfl
theorem pstateReqKeep (clk : Nat) : Statement (.pstateReqKeep clk) := fun _ => rfl
theorem pstateReqReserved (clk : Nat) : Statement (.pstateReqReserved clk) := fun _ => rfl
theorem pstateTransitionDone (clk : Nat) : Statement (.pstateTransitionDone clk) := fun _ => rfl
theorem dieLinkFail (clk : Nat) : Statement (.dieLinkFail clk) := fun _ => rfl
theorem dieLinkTrained (clk : Nat) : Statement (.dieLinkTrained clk) := fun _ => rfl
theorem guardEventLineToggle (clk line : Nat) : Statement (.guardEventLineToggle clk line) := fun _ => rfl
theorem guardEventLineCapture (clk line : Nat) : Statement (.guardEventLineCapture clk line) := fun _ => rfl
theorem registerWrite (clk page off : Nat) (data : Word) (src : Source) : Statement (.registerWrite clk page off data src) := fun _ => rfl
theorem pageEnable (clk page : Nat) (data : Word) : Statement (.pageEnable clk page data) := fun _ => rfl
theorem enableCheckEnd (clk : Nat) (chk : CheckEnd) : Statement (.enableCheckEnd clk chk) := fun _ => rfl
theorem pageStop (clk page : Nat) (data : Word) : Statement (.pageStop clk page data) := fun _ => rfl
theorem pageStopDone (clk page : Nat) : Statement (.pageStopDone clk page) := fun _ => rfl
theorem pageHoldSet (clk page : Nat) : Statement (.pageHoldSet clk page) := fun _ => rfl
theorem pageHeldReached (clk page : Nat) : Statement (.pageHeldReached clk page) := fun _ => rfl
theorem pageHoldClear (clk page : Nat) : Statement (.pageHoldClear clk page) := fun _ => rfl
theorem pageClr (clk page : Nat) : Statement (.pageClr clk page) := fun _ => rfl
theorem pageClrDone (clk page : Nat) : Statement (.pageClrDone clk page) := fun _ => rfl
theorem pageLock (clk page : Nat) (data : Word) : Statement (.pageLock clk page data) := fun _ => rfl
theorem pevtClear (clk page : Nat) (data : Word) : Statement (.pevtClear clk page data) := fun _ => rfl
theorem pevtForce (clk page : Nat) (data : Word) : Statement (.pevtForce clk page data) := fun _ => rfl
theorem pevmWrite (clk page : Nat) (data : Word) : Statement (.pevmWrite clk page data) := fun _ => rfl
theorem blockFault (clk page : Nat) : Statement (.blockFault clk page) := fun _ => rfl
theorem irqSummaryArrive (clk page : Nat) : Statement (.irqSummaryArrive clk page) := fun _ => rfl
theorem noticeRepeat (group : Nat) : Statement (.noticeRepeat group) := fun _ => rfl
theorem irqRearm (clk mask : Nat) : Statement (.irqRearm clk mask) := fun _ => rfl
theorem msixUnmask (clk vector : Nat) : Statement (.msixUnmask clk vector) := fun _ => rfl
theorem datumIncWrite (clk : Nat) (hi : TimeWrite) : Statement (.datumIncWrite clk hi) := fun _ => rfl
theorem datumStepWrite (clk : Nat) (hi : Word) (src : Source) : Statement (.datumStepWrite clk hi src) := fun _ => rfl
theorem datumStepUnlock (clk : Nat) (w : TimeWrite) : Statement (.datumStepUnlock clk w) := fun _ => rfl
theorem unlockWindowExpire : Statement .unlockWindowExpire := fun _ => rfl
theorem datumHoldReq (clk : Nat) : Statement (.datumHoldReq clk) := fun _ => rfl
theorem datumResume (clk : Nat) : Statement (.datumResume clk) := fun _ => rfl
theorem refFaultDetect (clk : Nat) : Statement (.refFaultDetect clk) := fun _ => rfl
theorem refFaultClear (clk : Nat) : Statement (.refFaultClear clk) := fun _ => rfl
theorem txqPop (clk : Nat) : Statement (.txqPop clk) := fun _ => rfl
theorem txqFlush (clk : Nat) : Statement (.txqFlush clk) := fun _ => rfl
theorem ppsInEdge (clk : Nat) (rising : Bool) : Statement (.ppsInEdge clk rising) := fun _ => rfl
theorem ppsOutStart : Statement .ppsOutStart := fun _ => rfl
theorem ppsOutEnd : Statement .ppsOutEnd := fun _ => rfl
theorem pdelayWrite (clk port : Nat) (value : Word) : Statement (.pdelayWrite clk port value) := fun _ => rfl
theorem msclRoundStart : Statement .msclRoundStart := fun _ => rfl
theorem probeRx (clk port hdrClk tri : Nat) (pr : ProbeIn) : Statement (.probeRx clk port hdrClk tri pr) := fun _ => rfl
theorem msclProbeTimeout : Statement .msclProbeTimeout := fun _ => rfl
theorem coincWindowClose : Statement .coincWindowClose := fun _ => rfl
theorem cycleBoundary : Statement .cycleBoundary := fun _ => rfl
theorem platFreeze : Statement .platFreeze := fun _ => rfl
theorem platRelease : Statement .platRelease := fun _ => rfl
theorem platOwnSent (clk port : Nat) : Statement (.platOwnSent clk port) := fun _ => rfl
theorem platFrameRx (clk port stamp : Nat) (fr : Frame) : Statement (.platFrameRx clk port stamp fr) := fun _ => rfl
theorem platVote : Statement .platVote := fun _ => rfl
theorem platViewFlip : Statement .platViewFlip := fun _ => rfl
theorem platOutputWrite (clk addr : Nat) (data : List Byte) (src : Source) : Statement (.platOutputWrite clk addr data src) := fun _ => rfl
theorem cycleRejoin (clk : Nat) : Statement (.cycleRejoin clk) := fun _ => rfl
theorem gangFeedRx (clk member : Nat) (feeds : List (Nat × List Byte)) : Statement (.gangFeedRx clk member feeds) := fun _ => rfl
theorem stakeIssue (clk : Nat) (word : Word) (src : Source) : Statement (.stakeIssue clk word src) := fun _ => rfl
theorem stakeFrameSend (clk : Nat) : Statement (.stakeFrameSend clk) := fun _ => rfl
theorem stakeArrival (clk : Nat) (bytes : List Byte) : Statement (.stakeArrival clk bytes) := fun _ => rfl
theorem stakeCancelArrival (clk : Nat) (bytes : List Byte) : Statement (.stakeCancelArrival clk bytes) := fun _ => rfl
theorem stakeCancelWrite (clk : Nat) (data : Word) : Statement (.stakeCancelWrite clk data) := fun _ => rfl
theorem stakeHandover : Statement .stakeHandover := fun _ => rfl
theorem stakeIslandWithdraw : Statement .stakeIslandWithdraw := fun _ => rfl
theorem stakeExecPin : Statement .stakeExecPin := fun _ => rfl
theorem stakeExecEngFifo : Statement .stakeExecEngFifo := fun _ => rfl
theorem stakeExecCan : Statement .stakeExecCan := fun _ => rfl
theorem stakeExecReg : Statement .stakeExecReg := fun _ => rfl
theorem stakeExecPlat : Statement .stakeExecPlat := fun _ => rfl
theorem receiptRx (clk node member : Nat) (payload : List Byte) : Statement (.receiptRx clk node member payload) := fun _ => rfl
theorem rcptPop (clk : Nat) : Statement (.rcptPop clk) := fun _ => rfl
theorem instrWaitt (eng : Nat) : Statement (.instrWaitt eng) := fun _ => rfl
theorem waittComplete (eng : Nat) : Statement (.waittComplete eng) := fun _ => rfl
theorem instrWaitp (eng : Nat) : Statement (.instrWaitp eng) := fun _ => rfl
theorem waitpComplete (clk eng : Nat) : Statement (.waitpComplete clk eng) := fun _ => rfl
theorem instrDly (eng : Nat) : Statement (.instrDly eng) := fun _ => rfl
theorem dlyComplete (eng : Nat) : Statement (.dlyComplete eng) := fun _ => rfl
theorem instrCnt (eng : Nat) : Statement (.instrCnt eng) := fun _ => rfl
theorem cntComplete (clk eng : Nat) : Statement (.cntComplete clk eng) := fun _ => rfl
theorem instrJmp (eng : Nat) : Statement (.instrJmp eng) := fun _ => rfl
theorem instrMov (eng : Nat) : Statement (.instrMov eng) := fun _ => rfl
theorem instrSet (eng : Nat) : Statement (.instrSet eng) := fun _ => rfl
theorem instrOut (eng : Nat) : Statement (.instrOut eng) := fun _ => rfl
theorem instrIn (eng : Nat) : Statement (.instrIn eng) := fun _ => rfl
theorem instrPull (eng : Nat) : Statement (.instrPull eng) := fun _ => rfl
theorem instrPush (eng : Nat) : Statement (.instrPush eng) := fun _ => rfl
theorem instrStamp (eng : Nat) : Statement (.instrStamp eng) := fun _ => rfl
theorem instrNote (eng : Nat) : Statement (.instrNote eng) := fun _ => rfl
theorem undefinedInstruction (eng : Nat) : Statement (.undefinedInstruction eng) := fun _ => rfl
theorem instrDelayEnd (eng : Nat) : Statement (.instrDelayEnd eng) := fun _ => rfl
theorem engineStallEnd (eng : Nat) : Statement (.engineStallEnd eng) := fun _ => rfl
theorem engTxfWrite (clk eng : Nat) (data : Word) : Statement (.engTxfWrite clk eng data) := fun _ => rfl
theorem engRxfPop (clk eng : Nat) : Statement (.engRxfPop clk eng) := fun _ => rfl
theorem engJump (clk eng word : Nat) : Statement (.engJump clk eng word) := fun _ => rfl
theorem engSnap (clk eng : Nat) : Statement (.engSnap clk eng) := fun _ => rfl
theorem crewSwapGo (clk crew : Nat) : Statement (.crewSwapGo clk crew) := fun _ => rfl
theorem crewGoEng (clk crew mask : Nat) : Statement (.crewGoEng clk crew mask) := fun _ => rfl
theorem crewFlagset (clk crew mask : Nat) : Statement (.crewFlagset clk crew mask) := fun _ => rfl
theorem pinmuxSwdataWrite (clk q off : Nat) (data : Word) : Statement (.pinmuxSwdataWrite clk q off data) := fun _ => rfl
theorem pinTransition (clk pin : Nat) (tr : PinTick) : Statement (.pinTransition clk pin tr) := fun _ => rfl
theorem glitchWindowExpire (pin : Nat) : Statement (.glitchWindowExpire pin) := fun _ => rfl
theorem debounceWindowClose (pin : Nat) : Statement (.debounceWindowClose pin) := fun _ => rfl
theorem chatterWindowClose (pin : Nat) : Statement (.chatterWindowClose pin) := fun _ => rfl
theorem chatterQuietEnd (pin : Nat) : Statement (.chatterQuietEnd pin) := fun _ => rfl
theorem stuckTimerExpire (pin : Nat) : Statement (.stuckTimerExpire pin) := fun _ => rfl
theorem bookCommit (clk : Nat) : Statement (.bookCommit clk) := fun _ => rfl
theorem discardEpisodeEnd : Statement .discardEpisodeEnd := fun _ => rfl
theorem bookDmaBurst (clk : Nat) : Statement (.bookDmaBurst clk) := fun _ => rfl
theorem bookFrameSend (clk : Nat) : Statement (.bookFrameSend clk) := fun _ => rfl
theorem canTxStart (clk can loop : Nat) : Statement (.canTxStart clk can loop) := fun _ => rfl
theorem canTxDone (clk can tdcv : Nat) : Statement (.canTxDone clk can tdcv) := fun _ => rfl
theorem canArbLost (clk can : Nat) : Statement (.canArbLost clk can) := fun _ => rfl
theorem canTxError (clk can err : Nat) (afterArb dataPhase dominant : Bool) (pos eights : Nat) (tdcv : Option Nat) : Statement (.canTxError clk can err afterArb dataPhase dominant pos eights tdcv) := fun _ => rfl
theorem canRecover (clk can : Nat) : Statement (.canRecover clk can) := fun _ => rfl
theorem canRxFrame (clk can edge id dlc : Nat) (brs esi : Bool) (data : List Byte) : Statement (.canRxFrame clk can edge id dlc brs esi data) := fun _ => rfl
theorem canTxreq (clk can map : Nat) : Statement (.canTxreq clk can map) := fun _ => rfl
theorem canTxabort (clk can map : Nat) : Statement (.canTxabort clk can map) := fun _ => rfl
theorem canRxack (clk can index : Nat) : Statement (.canRxack clk can index) := fun _ => rfl
theorem canRefDue (can : Nat) : Statement (.canRefDue can) := fun _ => rfl
theorem canSynced (clk can : Nat) : Statement (.canSynced clk can) := fun _ => rfl
theorem linkDown (clk port : Nat) : Statement (.linkDown clk port) := fun _ => rfl
theorem linkUp (clk port speed : Nat) : Statement (.linkUp clk port speed) := fun _ => rfl
theorem linkFallbackToggle (port : Nat) : Statement (.linkFallbackToggle port) := fun _ => rfl
theorem portRxFrame (clk port : Nat) (fr : Frame) (chk : RxCheck) : Statement (.portRxFrame clk port fr chk) := fun _ => rfl
theorem portTxStart (clk : Nat) (go : TxGo) : Statement (.portTxStart clk go) := fun _ => rfl
theorem gclEntryChange (port : Nat) : Statement (.gclEntryChange port) := fun _ => rfl
theorem gclSwapWrite (clk port : Nat) : Statement (.gclSwapWrite clk port) := fun _ => rfl
theorem gclSwapApply (port : Nat) : Statement (.gclSwapApply port) := fun _ => rfl
theorem pauseSend (clk port : Nat) : Statement (.pauseSend clk port) := fun _ => rfl
theorem pauseRepeat (port : Nat) : Statement (.pauseRepeat port) := fun _ => rfl
theorem pauseRx (clk port quanta : Nat) : Statement (.pauseRx clk port quanta) := fun _ => rfl
theorem pauseExpire (port : Nat) : Statement (.pauseExpire port) := fun _ => rfl
theorem holdWindowClose (port : Nat) : Statement (.holdWindowClose port) := fun _ => rfl
theorem pcsLockLoss (clk port : Nat) : Statement (.pcsLockLoss clk port) := fun _ => rfl
theorem portSnap (clk port : Nat) (all : Bool) : Statement (.portSnap clk port all) := fun _ => rfl
theorem fdbAgeExpire (index : Nat) : Statement (.fdbAgeExpire index) := fun _ => rfl
theorem fdbRead (clk index : Nat) : Statement (.fdbRead clk index) := fun _ => rfl
theorem fdbLookup (clk : Nat) : Statement (.fdbLookup clk) := fun _ => rfl
theorem fdbWrite (clk : Nat) : Statement (.fdbWrite clk) := fun _ => rfl
theorem fdbDelete (clk : Nat) : Statement (.fdbDelete clk) := fun _ => rfl
theorem fdbFlushDest (clk : Nat) : Statement (.fdbFlushDest clk) := fun _ => rfl
theorem fdbFlushAll (clk : Nat) : Statement (.fdbFlushAll clk) := fun _ => rfl
theorem fdbCmdReserved (clk op : Nat) : Statement (.fdbCmdReserved clk op) := fun _ => rfl
theorem hsrEntryExpire : Statement .hsrEntryExpire := fun _ => rfl
theorem bufmemFailBank (clk bank : Nat) : Statement (.bufmemFailBank clk bank) := fun _ => rfl
theorem bufmemRebuild (clk bank : Nat) : Statement (.bufmemRebuild clk bank) := fun _ => rfl
theorem bufmemRebuildDone (clk : Nat) (ok : Bool) : Statement (.bufmemRebuildDone clk ok) := fun _ => rfl
theorem bufmemScrub (clk : Nat) (cell : ScrubRead) : Statement (.bufmemScrub clk cell) := fun _ => rfl
theorem macsecSaInstall (clk port sa handle : Nat) : Statement (.macsecSaInstall clk port sa handle) := fun _ => rfl
theorem macsecSaInstallDone (clk port sa : Nat) : Statement (.macsecSaInstallDone clk port sa) := fun _ => rfl
theorem macsecTxAnWrite (clk port an : Nat) : Statement (.macsecTxAnWrite clk port an) := fun _ => rfl
theorem macsecTxAnApply (clk port : Nat) : Statement (.macsecTxAnApply clk port) := fun _ => rfl
theorem hostBar2Read (clk off len tag : Nat) : Statement (.hostBar2Read clk off len tag) := fun _ => rfl
theorem hostBar2Write (clk off : Nat) (data : List (Option Byte)) : Statement (.hostBar2Write clk off data) := fun _ => rfl
theorem mgmtRead (clk port node member : Nat) (tr : Trans) : Statement (.mgmtRead clk port node member tr) := fun _ => rfl
theorem mgmtPostedWrite (clk port node member : Nat) (tr : Trans) : Statement (.mgmtPostedWrite clk port node member tr) := fun _ => rfl
theorem mgmtNpWrite (clk port node member : Nat) (tr : Trans) : Statement (.mgmtNpWrite clk port node member tr) := fun _ => rfl
theorem mgmtWriteAck (clk : Nat) (tr : Trans) : Statement (.mgmtWriteAck clk tr) := fun _ => rfl
theorem mgmtReadCompletion (clk : Nat) (tr : Trans) : Statement (.mgmtReadCompletion clk tr) := fun _ => rfl
theorem ordWaitExpire (node member : Nat) : Statement (.ordWaitExpire node member) := fun _ => rfl
theorem npTimeout (tag : Nat) : Statement (.npTimeout tag) := fun _ => rfl
theorem noticeLateErrorSend (node member : Nat) : Statement (.noticeLateErrorSend node member) := fun _ => rfl
theorem noticeLateErrorRx (clk node member : Nat) (entries : List LateErr) : Statement (.noticeLateErrorRx clk node member entries) := fun _ => rfl
theorem noticeGroupRx (clk node member group : Nat) (pend : List Word) : Statement (.noticeGroupRx clk node member group pend) := fun _ => rfl
theorem noticeLastGaspRx (clk node member : Nat) (payload : List Byte) : Statement (.noticeLastGaspRx clk node member payload) := fun _ => rfl
theorem llogPop (clk : Nat) : Statement (.llogPop clk) := fun _ => rfl
theorem hostTxTail (clk slot : Nat) : Statement (.hostTxTail clk slot) := fun _ => rfl
theorem hostTxSlotRead (clk : Nat) (header frame : List Byte) : Statement (.hostTxSlotRead clk header frame) := fun _ => rfl
theorem leaseOpen (clk node member : Nat) : Statement (.leaseOpen clk node member) := fun _ => rfl
theorem leaseChallenge (clk node member : Nat) (challenge : List Byte) : Statement (.leaseChallenge clk node member challenge) := fun _ => rfl
theorem leaseProof (clk node member : Nat) (proof : List Byte) : Statement (.leaseProof clk node member proof) := fun _ => rfl
theorem leaseGrant (clk node member seconds : Nat) (next : List Byte) : Statement (.leaseGrant clk node member seconds next) := fun _ => rfl
theorem leaseRenew (clk node member : Nat) (proof : List Byte) : Statement (.leaseRenew clk node member proof) := fun _ => rfl
theorem leaseRelease (clk node member : Nat) : Statement (.leaseRelease clk node member) := fun _ => rfl
theorem leaseRefuse (clk node member reason : Nat) : Statement (.leaseRefuse clk node member reason) := fun _ => rfl
theorem leaseExpire : Statement .leaseExpire := fun _ => rfl
theorem leaseChallengeExpire : Statement .leaseChallengeExpire := fun _ => rfl
theorem leaseDrop (clk : Nat) : Statement (.leaseDrop clk) := fun _ => rfl
theorem pcieLinkChange (clk : Nat) (up : Bool) : Statement (.pcieLinkChange clk up) := fun _ => rfl
theorem duplexCopyPoint (cut : Bool) : Statement (.duplexCopyPoint cut) := fun _ => rfl
theorem backsightStatusRx (clk lane : Nat) (payload : List Byte) : Statement (.backsightStatusRx clk lane payload) := fun _ => rfl
theorem cycleRecordApply (clk : Nat) (rec : CycRecord) : Statement (.cycleRecordApply clk rec) := fun _ => rfl
theorem backsightNoticeRx (clk : Nat) (payload : List Byte) : Statement (.backsightNoticeRx clk payload) := fun _ => rfl
theorem heartbeatWindowClose : Statement .heartbeatWindowClose := fun _ => rfl
theorem duplexNegotiateTimeout : Statement .duplexNegotiateTimeout := fun _ => rfl
theorem takeover : Statement .takeover := fun _ => rfl
theorem duplexFault (clk : Nat) : Statement (.duplexFault clk) := fun _ => rfl
theorem duplexHandover (clk : Nat) : Statement (.duplexHandover clk) := fun _ => rfl
theorem duplexRejoin (clk : Nat) : Statement (.duplexRejoin clk) := fun _ => rfl
theorem duplexFence (clk : Nat) : Statement (.duplexFence clk) := fun _ => rfl
theorem dualClaimStatusRx (clk : Nat) (payload : List Byte) : Statement (.dualClaimStatusRx clk payload) := fun _ => rfl
theorem gangHelloSend : Statement .gangHelloSend := fun _ => rfl
theorem gangHelloRx (clk port member : Nat) (payload : List Byte) : Statement (.gangHelloRx clk port member payload) := fun _ => rfl
theorem gangFormWaitExpire : Statement .gangFormWaitExpire := fun _ => rfl
theorem gangTimeSend : Statement .gangTimeSend := fun _ => rfl
theorem gangTimeRx (clk port member stamp : Nat) (payload : List Byte) : Statement (.gangTimeRx clk port member stamp payload) := fun _ => rfl
theorem gangStateRx (clk member : Nat) (payload : List Byte) : Statement (.gangStateRx clk member payload) := fun _ => rfl
theorem gangVote : Statement .gangVote := fun _ => rfl
theorem gangctlRejoin (clk : Nat) : Statement (.gangctlRejoin clk) := fun _ => rfl
theorem gangctlFence (clk : Nat) : Statement (.gangctlFence clk) := fun _ => rfl
theorem inputInvalid (clk input : Nat) (ov other : Bool) (vinA vinB vor gateNs : Nat) : Statement (.inputInvalid clk input ov other vinA vinB vor gateNs) := fun _ => rfl
theorem inputValid (clk input vinA vinB gateNs : Nat) : Statement (.inputValid clk input vinA vinB gateNs) := fun _ => rfl
theorem mainReturn (vinA vor : Nat) : Statement (.mainReturn vinA vor) := fun _ => rfl
theorem supplyReturnPref (vinA vinB gateNs : Nat) : Statement (.supplyReturnPref vinA vinB gateNs) := fun _ => rfl
theorem reverseComparator (clk input : Nat) (off : Bool) : Statement (.reverseComparator clk input off) := fun _ => rfl
theorem railSequenceStart : Statement .railSequenceStart := fun _ => rfl
theorem railEnStep (enter : Nat) : Statement (.railEnStep enter) := fun _ => rfl
theorem railRampTimeout : Statement .railRampTimeout := fun _ => rfl
theorem pgCoreRelease (enter : Nat) : Statement (.pgCoreRelease enter) := fun _ => rfl
theorem railFault (clk map : Nat) (above : Bool) : Statement (.railFault clk map above) := fun _ => rfl
theorem railEnFallStep (clk : Nat) : Statement (.railEnFallStep clk) := fun _ => rfl
theorem railFaultRestart : Statement .railFaultRestart := fun _ => rfl
theorem supplyRfClr (clk : Nat) : Statement (.supplyRfClr clk) := fun _ => rfl
theorem vorBelowPfw (clk : Nat) : Statement (.vorBelowPfw clk) := fun _ => rfl
theorem pfwRelease (clk : Nat) : Statement (.pfwRelease clk) := fun _ => rfl
theorem slotFastTrip (clk slot vout : Nat) : Statement (.slotFastTrip clk slot vout) := fun _ => rfl
theorem slotFaultTimerExpire (clk slot vout : Nat) : Statement (.slotFaultTimerExpire clk slot vout) := fun _ => rfl
theorem slotLimitTimerClear (clk slot : Nat) : Statement (.slotLimitTimerClear clk slot) := fun _ => rfl
theorem slotStartTimeout (slot vout : Nat) : Statement (.slotStartTimeout slot vout) := fun _ => rfl
theorem slotPgRise (clk slot : Nat) (limiting : Bool) (vout : Nat) : Statement (.slotPgRise clk slot limiting vout) := fun _ => rfl
theorem slotPgFall (clk slot vout : Nat) : Statement (.slotPgFall clk slot vout) := fun _ => rfl
theorem slotCoolEnd (slot : Nat) : Statement (.slotCoolEnd slot) := fun _ => rfl
theorem slotInsertRemainderEnd (slot : Nat) : Statement (.slotInsertRemainderEnd slot) := fun _ => rfl
theorem slotRemoval (clk slot vout : Nat) : Statement (.slotRemoval clk slot vout) := fun _ => rfl
theorem slotInsertion (clk slot : Nat) : Statement (.slotInsertion clk slot) := fun _ => rfl
theorem slotOnPinChange (clk slot : Nat) (level : Bool) (vout : Nat) : Statement (.slotOnPinChange clk slot level vout) := fun _ => rfl
theorem tallyUpdate (clk : Nat) (adc : List Nat) : Statement (.tallyUpdate clk adc) := fun _ => rfl
theorem classAComplete (clk : Nat) : Statement (.classAComplete clk) := fun _ => rfl
theorem classATimeout : Statement .classATimeout := fun _ => rfl
theorem tallyLearn (clk : Nat) : Statement (.tallyLearn clk) := fun _ => rfl
theorem tallyAutoLearn : Statement .tallyAutoLearn := fun _ => rfl
theorem tallyLearnEnd : Statement .tallyLearnEnd := fun _ => rfl
theorem monumentDerive (clk : Nat) (stage : Bool) : Statement (.monumentDerive clk stage) := fun _ => rfl
theorem monumentGenerate (clk : Nat) (stage : Bool) : Statement (.monumentGenerate clk stage) := fun _ => rfl
theorem monumentGenIdent (clk : Nat) : Statement (.monumentGenIdent clk) := fun _ => rfl
theorem monumentImport (clk : Nat) (stage : Bool) : Statement (.monumentImport clk stage) := fun _ => rfl
theorem monumentUnwrap (clk : Nat) (stage : Bool) : Statement (.monumentUnwrap clk stage) := fun _ => rfl
theorem monumentWrap (clk : Nat) : Statement (.monumentWrap clk) := fun _ => rfl
theorem monumentMac (clk : Nat) : Statement (.monumentMac clk) := fun _ => rfl
theorem monumentMacVerify (clk : Nat) : Statement (.monumentMacVerify clk) := fun _ => rfl
theorem monumentSign (clk : Nat) : Statement (.monumentSign clk) := fun _ => rfl
theorem monumentPubkey (clk : Nat) : Statement (.monumentPubkey clk) := fun _ => rfl
theorem monumentAttest (clk : Nat) : Statement (.monumentAttest clk) := fun _ => rfl
theorem monumentProve (clk : Nat) : Statement (.monumentProve clk) := fun _ => rfl
theorem monumentCommit (clk : Nat) : Statement (.monumentCommit clk) := fun _ => rfl
theorem monumentDiscard (clk : Nat) : Statement (.monumentDiscard clk) := fun _ => rfl
theorem monumentErase (clk : Nat) : Statement (.monumentErase clk) := fun _ => rfl
theorem monumentInfo (clk : Nat) : Statement (.monumentInfo clk) := fun _ => rfl
theorem monumentTransition (clk : Nat) : Statement (.monumentTransition clk) := fun _ => rfl
theorem monumentMkaKdf (clk : Nat) : Statement (.monumentMkaKdf clk) := fun _ => rfl
theorem monumentMkaIcv (clk : Nat) : Statement (.monumentMkaIcv clk) := fun _ => rfl
theorem monumentMkaUnwrap (clk : Nat) : Statement (.monumentMkaUnwrap clk) := fun _ => rfl
theorem monumentOpReserved (clk op : Nat) : Statement (.monumentOpReserved clk op) := fun _ => rfl
theorem monumentOpDone (clk : Nat) : Statement (.monumentOpDone clk) := fun _ => rfl
theorem keyCommit : Statement .keyCommit := fun _ => rfl
theorem keyCommitOldZeroed (clk : Nat) : Statement (.keyCommitOldZeroed clk) := fun _ => rfl
theorem trngFail (clk : Nat) : Statement (.trngFail clk) := fun _ => rfl
theorem monumentRtcSet (clk : Nat) (word : Word) : Statement (.monumentRtcSet clk word) := fun _ => rfl
theorem tamperDetect (clk sources : Nat) : Statement (.tamperDetect clk sources) := fun _ => rfl
theorem tamperRearm (clk : Nat) (word : Word) : Statement (.tamperRearm clk word) := fun _ => rfl
theorem hmonSample (clk mon : Nat) (value : Int) : Statement (.hmonSample clk mon value) := fun _ => rfl
theorem hmonSnap (clk mon : Nat) (clear all : Bool) : Statement (.hmonSnap clk mon clear all) := fun _ => rfl
theorem calDataWrite (clk : Nat) (data : Word) : Statement (.calDataWrite clk data) := fun _ => rfl
theorem calDataRead (clk : Nat) : Statement (.calDataRead clk) := fun _ => rfl
theorem calUnlock (clk : Nat) (word : Word) : Statement (.calUnlock clk word) := fun _ => rfl
theorem calProg (clk : Nat) : Statement (.calProg clk) := fun _ => rfl
theorem calProgDone (clk : Nat) : Statement (.calProgDone clk) := fun _ => rfl
theorem corePorRelease (clk nid role boot : Nat) : Statement (.corePorRelease clk nid role boot) := fun _ => rfl
theorem pllLock (clk : Nat) : Statement (.pllLock clk) := fun _ => rfl
theorem calLoadDone (clk : Nat) : Statement (.calLoadDone clk) := fun _ => rfl
theorem selfTestDone (clk : Nat) (failed : List Nat) (uncorr : Bool) : Statement (.selfTestDone clk failed uncorr) := fun _ => rfl
theorem bootFetchDone (clk : Nat) (image : Option (List Byte)) : Statement (.bootFetchDone clk image) := fun _ => rfl
theorem bootAuthDone (clk : Nat) : Statement (.bootAuthDone clk) := fun _ => rfl
theorem bootGo (clk : Nat) : Statement (.bootGo clk) := fun _ => rfl
theorem bootDataWrite (clk : Nat) (data : Word) : Statement (.bootDataWrite clk data) := fun _ => rfl
theorem bootEntryPage (clk : Nat) : Statement (.bootEntryPage clk) := fun _ => rfl
theorem bootEntryProgram (clk : Nat) : Statement (.bootEntryProgram clk) := fun _ => rfl
theorem bootEntryWait (clk : Nat) : Statement (.bootEntryWait clk) := fun _ => rfl
theorem bootWaitTimeout : Statement .bootWaitTimeout := fun _ => rfl
theorem rstNAssert (clk : Nat) : Statement (.rstNAssert clk) := fun _ => rfl
theorem rstNRelease (clk nid role boot : Nat) : Statement (.rstNRelease clk nid role boot) := fun _ => rfl
theorem wdogArm (clk : Nat) (data : Word) : Statement (.wdogArm clk data) := fun _ => rfl
theorem wdogKick (clk : Nat) : Statement (.wdogKick clk) := fun _ => rfl
theorem wdogExpire : Statement .wdogExpire := fun _ => rfl
theorem wdogDelayedReset : Statement .wdogDelayedReset := fun _ => rfl
theorem resetCmd (clk : Nat) : Statement (.resetCmd clk) := fun _ => rfl
theorem resetCmdFire : Statement .resetCmdFire := fun _ => rfl
theorem domainReset (clk map : Nat) : Statement (.domainReset clk map) := fun _ => rfl
theorem domainResetDone (clk map : Nat) : Statement (.domainResetDone clk map) := fun _ => rfl
theorem batteryDomainLoss (clk : Nat) : Statement (.batteryDomainLoss clk) := fun _ => rfl
theorem canReceiveError (clk can err tecEights recEights : Nat) : Statement (.canReceiveError clk can err tecEights recEights) := fun _ => rfl
theorem stallLong (eng : Nat) : Statement (.stallLong eng) := fun _ => rfl
theorem swapAbandon (eng : Nat) : Statement (.swapAbandon eng) := fun _ => rfl
theorem peerAbsent : Statement .peerAbsent := fun _ => rfl
theorem tamperSourceInactive (clk sources : Nat) : Statement (.tamperSourceInactive clk sources) := fun _ => rfl
theorem vddioBankChange (clk bank : Nat) (present sense : Bool) : Statement (.vddioBankChange clk bank present sense) := fun _ => rfl

end Sys2Proof.Laws.Clocked
end

