-- ==== Sys2Proof/Laws/State.lean ====
section
/-!
SUPPORT. What each primitive update of the state leaves in each field, and what a register field, a byte of memory and the
state of a unit read as after an update.
-/

namespace Sys2Proof.Machine

open Sys2Proof.Laws

variable (s : State)

/-! The fields that an update leaves. -/

@[simp] theorem State.advance_pending (t : Nat) : (s.advance t).pending = s.pending := rfl
@[simp] theorem State.advance_freeCtr (t : Nat) : (s.advance t).freeCtr = s.freeCtr := rfl
@[simp] theorem State.advance_sets (t : Nat) : (s.advance t).sets = s.sets := rfl
@[simp] theorem State.advance_result (t : Nat) : (s.advance t).result = s.result := rfl
@[simp] theorem State.advance_regs (t : Nat) : (s.advance t).regs = s.regs := rfl
@[simp] theorem State.advance_latch (t : Nat) : (s.advance t).latch = s.latch := rfl
@[simp] theorem State.advance_shadow (t : Nat) : (s.advance t).shadow = s.shadow := rfl
@[simp] theorem State.advance_mem (t : Nat) : (s.advance t).mem = s.mem := rfl
@[simp] theorem State.advance_pwr (t : Nat) : (s.advance t).pwr = s.pwr := rfl
@[simp] theorem State.advance_page (t : Nat) : (s.advance t).page = s.page := rfl
@[simp] theorem State.advance_datum (t : Nat) : (s.advance t).datum = s.datum := rfl
@[simp] theorem State.advance_stamps (t : Nat) : (s.advance t).stamps = s.stamps := rfl
@[simp] theorem State.advance_ports (t : Nat) : (s.advance t).ports = s.ports := rfl
@[simp] theorem State.advance_sw (t : Nat) : (s.advance t).sw = s.sw := rfl
@[simp] theorem State.advance_book (t : Nat) : (s.advance t).book = s.book := rfl
@[simp] theorem State.advance_bridge (t : Nat) : (s.advance t).bridge = s.bridge := rfl
@[simp] theorem State.advance_dup (t : Nat) : (s.advance t).dup = s.dup := rfl
@[simp] theorem State.advance_gang (t : Nat) : (s.advance t).gang = s.gang := rfl
@[simp] theorem State.advance_cal (t : Nat) : (s.advance t).cal = s.cal := rfl
@[simp] theorem State.advance_cycle (t : Nat) : (s.advance t).cycle = s.cycle := rfl
@[simp] theorem State.advance_plat (t : Nat) : (s.advance t).plat = s.plat := rfl
@[simp] theorem State.advance_mscl (t : Nat) : (s.advance t).mscl = s.mscl := rfl
@[simp] theorem State.advance_pins (t : Nat) : (s.advance t).pins = s.pins := rfl
@[simp] theorem State.advance_engs (t : Nat) : (s.advance t).engs = s.engs := rfl
@[simp] theorem State.advance_crews (t : Nat) : (s.advance t).crews = s.crews := rfl
@[simp] theorem State.advance_edges (t : Nat) : (s.advance t).edges = s.edges := rfl
@[simp] theorem State.advance_cans (t : Nat) : (s.advance t).cans = s.cans := rfl
@[simp] theorem State.advance_stake (t : Nat) : (s.advance t).stake = s.stake := rfl
@[simp] theorem State.advance_supply (t : Nat) : (s.advance t).supply = s.supply := rfl
@[simp] theorem State.advance_slots (t : Nat) : (s.advance t).slots = s.slots := rfl
@[simp] theorem State.advance_tally (t : Nat) : (s.advance t).tally = s.tally := rfl
@[simp] theorem State.advance_mon (t : Nat) : (s.advance t).mon = s.mon := rfl
@[simp] theorem State.advance_boot (t : Nat) : (s.advance t).boot = s.boot := rfl
@[simp] theorem State.advance_rst (t : Nat) : (s.advance t).rst = s.rst := rfl
@[simp] theorem State.nextFree_pending : (s.nextFree).pending = s.pending := rfl
@[simp] theorem State.nextFree_clock : (s.nextFree).clock = s.clock := rfl
@[simp] theorem State.nextFree_sets : (s.nextFree).sets = s.sets := rfl
@[simp] theorem State.nextFree_result : (s.nextFree).result = s.result := rfl
@[simp] theorem State.nextFree_regs : (s.nextFree).regs = s.regs := rfl
@[simp] theorem State.nextFree_latch : (s.nextFree).latch = s.latch := rfl
@[simp] theorem State.nextFree_shadow : (s.nextFree).shadow = s.shadow := rfl
@[simp] theorem State.nextFree_mem : (s.nextFree).mem = s.mem := rfl
@[simp] theorem State.nextFree_pwr : (s.nextFree).pwr = s.pwr := rfl
@[simp] theorem State.nextFree_page : (s.nextFree).page = s.page := rfl
@[simp] theorem State.nextFree_datum : (s.nextFree).datum = s.datum := rfl
@[simp] theorem State.nextFree_stamps : (s.nextFree).stamps = s.stamps := rfl
@[simp] theorem State.nextFree_ports : (s.nextFree).ports = s.ports := rfl
@[simp] theorem State.nextFree_sw : (s.nextFree).sw = s.sw := rfl
@[simp] theorem State.nextFree_book : (s.nextFree).book = s.book := rfl
@[simp] theorem State.nextFree_bridge : (s.nextFree).bridge = s.bridge := rfl
@[simp] theorem State.nextFree_dup : (s.nextFree).dup = s.dup := rfl
@[simp] theorem State.nextFree_gang : (s.nextFree).gang = s.gang := rfl
@[simp] theorem State.nextFree_cal : (s.nextFree).cal = s.cal := rfl
@[simp] theorem State.nextFree_cycle : (s.nextFree).cycle = s.cycle := rfl
@[simp] theorem State.nextFree_plat : (s.nextFree).plat = s.plat := rfl
@[simp] theorem State.nextFree_mscl : (s.nextFree).mscl = s.mscl := rfl
@[simp] theorem State.nextFree_pins : (s.nextFree).pins = s.pins := rfl
@[simp] theorem State.nextFree_engs : (s.nextFree).engs = s.engs := rfl
@[simp] theorem State.nextFree_crews : (s.nextFree).crews = s.crews := rfl
@[simp] theorem State.nextFree_edges : (s.nextFree).edges = s.edges := rfl
@[simp] theorem State.nextFree_cans : (s.nextFree).cans = s.cans := rfl
@[simp] theorem State.nextFree_stake : (s.nextFree).stake = s.stake := rfl
@[simp] theorem State.nextFree_supply : (s.nextFree).supply = s.supply := rfl
@[simp] theorem State.nextFree_slots : (s.nextFree).slots = s.slots := rfl
@[simp] theorem State.nextFree_tally : (s.nextFree).tally = s.tally := rfl
@[simp] theorem State.nextFree_mon : (s.nextFree).mon = s.mon := rfl
@[simp] theorem State.nextFree_boot : (s.nextFree).boot = s.boot := rfl
@[simp] theorem State.nextFree_rst : (s.nextFree).rst = s.rst := rfl
@[simp] theorem State.wr_pending (p off : Nat) (v : Word) : (s.wr p off v).pending = s.pending := rfl
@[simp] theorem State.wr_clock (p off : Nat) (v : Word) : (s.wr p off v).clock = s.clock := rfl
@[simp] theorem State.wr_freeCtr (p off : Nat) (v : Word) : (s.wr p off v).freeCtr = s.freeCtr := rfl
@[simp] theorem State.wr_sets (p off : Nat) (v : Word) : (s.wr p off v).sets = s.sets := rfl
@[simp] theorem State.wr_result (p off : Nat) (v : Word) : (s.wr p off v).result = s.result := rfl
@[simp] theorem State.wr_latch (p off : Nat) (v : Word) : (s.wr p off v).latch = s.latch := rfl
@[simp] theorem State.wr_shadow (p off : Nat) (v : Word) : (s.wr p off v).shadow = s.shadow := rfl
@[simp] theorem State.wr_mem (p off : Nat) (v : Word) : (s.wr p off v).mem = s.mem := rfl
@[simp] theorem State.wr_pwr (p off : Nat) (v : Word) : (s.wr p off v).pwr = s.pwr := rfl
@[simp] theorem State.wr_page (p off : Nat) (v : Word) : (s.wr p off v).page = s.page := rfl
@[simp] theorem State.wr_datum (p off : Nat) (v : Word) : (s.wr p off v).datum = s.datum := rfl
@[simp] theorem State.wr_stamps (p off : Nat) (v : Word) : (s.wr p off v).stamps = s.stamps := rfl
@[simp] theorem State.wr_ports (p off : Nat) (v : Word) : (s.wr p off v).ports = s.ports := rfl
@[simp] theorem State.wr_sw (p off : Nat) (v : Word) : (s.wr p off v).sw = s.sw := rfl
@[simp] theorem State.wr_book (p off : Nat) (v : Word) : (s.wr p off v).book = s.book := rfl
@[simp] theorem State.wr_bridge (p off : Nat) (v : Word) : (s.wr p off v).bridge = s.bridge := rfl
@[simp] theorem State.wr_dup (p off : Nat) (v : Word) : (s.wr p off v).dup = s.dup := rfl
@[simp] theorem State.wr_gang (p off : Nat) (v : Word) : (s.wr p off v).gang = s.gang := rfl
@[simp] theorem State.wr_cal (p off : Nat) (v : Word) : (s.wr p off v).cal = s.cal := rfl
@[simp] theorem State.wr_cycle (p off : Nat) (v : Word) : (s.wr p off v).cycle = s.cycle := rfl
@[simp] theorem State.wr_plat (p off : Nat) (v : Word) : (s.wr p off v).plat = s.plat := rfl
@[simp] theorem State.wr_mscl (p off : Nat) (v : Word) : (s.wr p off v).mscl = s.mscl := rfl
@[simp] theorem State.wr_pins (p off : Nat) (v : Word) : (s.wr p off v).pins = s.pins := rfl
@[simp] theorem State.wr_engs (p off : Nat) (v : Word) : (s.wr p off v).engs = s.engs := rfl
@[simp] theorem State.wr_crews (p off : Nat) (v : Word) : (s.wr p off v).crews = s.crews := rfl
@[simp] theorem State.wr_edges (p off : Nat) (v : Word) : (s.wr p off v).edges = s.edges := rfl
@[simp] theorem State.wr_cans (p off : Nat) (v : Word) : (s.wr p off v).cans = s.cans := rfl
@[simp] theorem State.wr_stake (p off : Nat) (v : Word) : (s.wr p off v).stake = s.stake := rfl
@[simp] theorem State.wr_supply (p off : Nat) (v : Word) : (s.wr p off v).supply = s.supply := rfl
@[simp] theorem State.wr_slots (p off : Nat) (v : Word) : (s.wr p off v).slots = s.slots := rfl
@[simp] theorem State.wr_tally (p off : Nat) (v : Word) : (s.wr p off v).tally = s.tally := rfl
@[simp] theorem State.wr_mon (p off : Nat) (v : Word) : (s.wr p off v).mon = s.mon := rfl
@[simp] theorem State.wr_boot (p off : Nat) (v : Word) : (s.wr p off v).boot = s.boot := rfl
@[simp] theorem State.wr_rst (p off : Nat) (v : Word) : (s.wr p off v).rst = s.rst := rfl
@[simp] theorem State.stb_pending (a : Nat) (b : Byte) : (s.stb a b).pending = s.pending := rfl
@[simp] theorem State.stb_clock (a : Nat) (b : Byte) : (s.stb a b).clock = s.clock := rfl
@[simp] theorem State.stb_freeCtr (a : Nat) (b : Byte) : (s.stb a b).freeCtr = s.freeCtr := rfl
@[simp] theorem State.stb_sets (a : Nat) (b : Byte) : (s.stb a b).sets = s.sets := rfl
@[simp] theorem State.stb_result (a : Nat) (b : Byte) : (s.stb a b).result = s.result := rfl
@[simp] theorem State.stb_regs (a : Nat) (b : Byte) : (s.stb a b).regs = s.regs := rfl
@[simp] theorem State.stb_latch (a : Nat) (b : Byte) : (s.stb a b).latch = s.latch := rfl
@[simp] theorem State.stb_shadow (a : Nat) (b : Byte) : (s.stb a b).shadow = s.shadow := rfl
@[simp] theorem State.stb_pwr (a : Nat) (b : Byte) : (s.stb a b).pwr = s.pwr := rfl
@[simp] theorem State.stb_page (a : Nat) (b : Byte) : (s.stb a b).page = s.page := rfl
@[simp] theorem State.stb_datum (a : Nat) (b : Byte) : (s.stb a b).datum = s.datum := rfl
@[simp] theorem State.stb_stamps (a : Nat) (b : Byte) : (s.stb a b).stamps = s.stamps := rfl
@[simp] theorem State.stb_ports (a : Nat) (b : Byte) : (s.stb a b).ports = s.ports := rfl
@[simp] theorem State.stb_sw (a : Nat) (b : Byte) : (s.stb a b).sw = s.sw := rfl
@[simp] theorem State.stb_book (a : Nat) (b : Byte) : (s.stb a b).book = s.book := rfl
@[simp] theorem State.stb_bridge (a : Nat) (b : Byte) : (s.stb a b).bridge = s.bridge := rfl
@[simp] theorem State.stb_dup (a : Nat) (b : Byte) : (s.stb a b).dup = s.dup := rfl
@[simp] theorem State.stb_gang (a : Nat) (b : Byte) : (s.stb a b).gang = s.gang := rfl
@[simp] theorem State.stb_cal (a : Nat) (b : Byte) : (s.stb a b).cal = s.cal := rfl
@[simp] theorem State.stb_cycle (a : Nat) (b : Byte) : (s.stb a b).cycle = s.cycle := rfl
@[simp] theorem State.stb_plat (a : Nat) (b : Byte) : (s.stb a b).plat = s.plat := rfl
@[simp] theorem State.stb_mscl (a : Nat) (b : Byte) : (s.stb a b).mscl = s.mscl := rfl
@[simp] theorem State.stb_pins (a : Nat) (b : Byte) : (s.stb a b).pins = s.pins := rfl
@[simp] theorem State.stb_engs (a : Nat) (b : Byte) : (s.stb a b).engs = s.engs := rfl
@[simp] theorem State.stb_crews (a : Nat) (b : Byte) : (s.stb a b).crews = s.crews := rfl
@[simp] theorem State.stb_edges (a : Nat) (b : Byte) : (s.stb a b).edges = s.edges := rfl
@[simp] theorem State.stb_cans (a : Nat) (b : Byte) : (s.stb a b).cans = s.cans := rfl
@[simp] theorem State.stb_stake (a : Nat) (b : Byte) : (s.stb a b).stake = s.stake := rfl
@[simp] theorem State.stb_supply (a : Nat) (b : Byte) : (s.stb a b).supply = s.supply := rfl
@[simp] theorem State.stb_slots (a : Nat) (b : Byte) : (s.stb a b).slots = s.slots := rfl
@[simp] theorem State.stb_tally (a : Nat) (b : Byte) : (s.stb a b).tally = s.tally := rfl
@[simp] theorem State.stb_mon (a : Nat) (b : Byte) : (s.stb a b).mon = s.mon := rfl
@[simp] theorem State.stb_boot (a : Nat) (b : Byte) : (s.stb a b).boot = s.boot := rfl
@[simp] theorem State.stb_rst (a : Nat) (b : Byte) : (s.stb a b).rst = s.rst := rfl
@[simp] theorem State.setPort_pending (n : Nat) (v : PortSt) : (s.setPort n v).pending = s.pending := rfl
@[simp] theorem State.setPort_clock (n : Nat) (v : PortSt) : (s.setPort n v).clock = s.clock := rfl
@[simp] theorem State.setPort_freeCtr (n : Nat) (v : PortSt) : (s.setPort n v).freeCtr = s.freeCtr := rfl
@[simp] theorem State.setPort_sets (n : Nat) (v : PortSt) : (s.setPort n v).sets = s.sets := rfl
@[simp] theorem State.setPort_result (n : Nat) (v : PortSt) : (s.setPort n v).result = s.result := rfl
@[simp] theorem State.setPort_regs (n : Nat) (v : PortSt) : (s.setPort n v).regs = s.regs := rfl
@[simp] theorem State.setPort_latch (n : Nat) (v : PortSt) : (s.setPort n v).latch = s.latch := rfl
@[simp] theorem State.setPort_shadow (n : Nat) (v : PortSt) : (s.setPort n v).shadow = s.shadow := rfl
@[simp] theorem State.setPort_mem (n : Nat) (v : PortSt) : (s.setPort n v).mem = s.mem := rfl
@[simp] theorem State.setPort_pwr (n : Nat) (v : PortSt) : (s.setPort n v).pwr = s.pwr := rfl
@[simp] theorem State.setPort_page (n : Nat) (v : PortSt) : (s.setPort n v).page = s.page := rfl
@[simp] theorem State.setPort_datum (n : Nat) (v : PortSt) : (s.setPort n v).datum = s.datum := rfl
@[simp] theorem State.setPort_stamps (n : Nat) (v : PortSt) : (s.setPort n v).stamps = s.stamps := rfl
@[simp] theorem State.setPort_sw (n : Nat) (v : PortSt) : (s.setPort n v).sw = s.sw := rfl
@[simp] theorem State.setPort_book (n : Nat) (v : PortSt) : (s.setPort n v).book = s.book := rfl
@[simp] theorem State.setPort_bridge (n : Nat) (v : PortSt) : (s.setPort n v).bridge = s.bridge := rfl
@[simp] theorem State.setPort_dup (n : Nat) (v : PortSt) : (s.setPort n v).dup = s.dup := rfl
@[simp] theorem State.setPort_gang (n : Nat) (v : PortSt) : (s.setPort n v).gang = s.gang := rfl
@[simp] theorem State.setPort_cal (n : Nat) (v : PortSt) : (s.setPort n v).cal = s.cal := rfl
@[simp] theorem State.setPort_cycle (n : Nat) (v : PortSt) : (s.setPort n v).cycle = s.cycle := rfl
@[simp] theorem State.setPort_plat (n : Nat) (v : PortSt) : (s.setPort n v).plat = s.plat := rfl
@[simp] theorem State.setPort_mscl (n : Nat) (v : PortSt) : (s.setPort n v).mscl = s.mscl := rfl
@[simp] theorem State.setPort_pins (n : Nat) (v : PortSt) : (s.setPort n v).pins = s.pins := rfl
@[simp] theorem State.setPort_engs (n : Nat) (v : PortSt) : (s.setPort n v).engs = s.engs := rfl
@[simp] theorem State.setPort_crews (n : Nat) (v : PortSt) : (s.setPort n v).crews = s.crews := rfl
@[simp] theorem State.setPort_edges (n : Nat) (v : PortSt) : (s.setPort n v).edges = s.edges := rfl
@[simp] theorem State.setPort_cans (n : Nat) (v : PortSt) : (s.setPort n v).cans = s.cans := rfl
@[simp] theorem State.setPort_stake (n : Nat) (v : PortSt) : (s.setPort n v).stake = s.stake := rfl
@[simp] theorem State.setPort_supply (n : Nat) (v : PortSt) : (s.setPort n v).supply = s.supply := rfl
@[simp] theorem State.setPort_slots (n : Nat) (v : PortSt) : (s.setPort n v).slots = s.slots := rfl
@[simp] theorem State.setPort_tally (n : Nat) (v : PortSt) : (s.setPort n v).tally = s.tally := rfl
@[simp] theorem State.setPort_mon (n : Nat) (v : PortSt) : (s.setPort n v).mon = s.mon := rfl
@[simp] theorem State.setPort_boot (n : Nat) (v : PortSt) : (s.setPort n v).boot = s.boot := rfl
@[simp] theorem State.setPort_rst (n : Nat) (v : PortSt) : (s.setPort n v).rst = s.rst := rfl
@[simp] theorem State.setPin_pending (n : Nat) (v : PinSt) : (s.setPin n v).pending = s.pending := rfl
@[simp] theorem State.setPin_clock (n : Nat) (v : PinSt) : (s.setPin n v).clock = s.clock := rfl
@[simp] theorem State.setPin_freeCtr (n : Nat) (v : PinSt) : (s.setPin n v).freeCtr = s.freeCtr := rfl
@[simp] theorem State.setPin_sets (n : Nat) (v : PinSt) : (s.setPin n v).sets = s.sets := rfl
@[simp] theorem State.setPin_result (n : Nat) (v : PinSt) : (s.setPin n v).result = s.result := rfl
@[simp] theorem State.setPin_regs (n : Nat) (v : PinSt) : (s.setPin n v).regs = s.regs := rfl
@[simp] theorem State.setPin_latch (n : Nat) (v : PinSt) : (s.setPin n v).latch = s.latch := rfl
@[simp] theorem State.setPin_shadow (n : Nat) (v : PinSt) : (s.setPin n v).shadow = s.shadow := rfl
@[simp] theorem State.setPin_mem (n : Nat) (v : PinSt) : (s.setPin n v).mem = s.mem := rfl
@[simp] theorem State.setPin_pwr (n : Nat) (v : PinSt) : (s.setPin n v).pwr = s.pwr := rfl
@[simp] theorem State.setPin_page (n : Nat) (v : PinSt) : (s.setPin n v).page = s.page := rfl
@[simp] theorem State.setPin_datum (n : Nat) (v : PinSt) : (s.setPin n v).datum = s.datum := rfl
@[simp] theorem State.setPin_stamps (n : Nat) (v : PinSt) : (s.setPin n v).stamps = s.stamps := rfl
@[simp] theorem State.setPin_ports (n : Nat) (v : PinSt) : (s.setPin n v).ports = s.ports := rfl
@[simp] theorem State.setPin_sw (n : Nat) (v : PinSt) : (s.setPin n v).sw = s.sw := rfl
@[simp] theorem State.setPin_book (n : Nat) (v : PinSt) : (s.setPin n v).book = s.book := rfl
@[simp] theorem State.setPin_bridge (n : Nat) (v : PinSt) : (s.setPin n v).bridge = s.bridge := rfl
@[simp] theorem State.setPin_dup (n : Nat) (v : PinSt) : (s.setPin n v).dup = s.dup := rfl
@[simp] theorem State.setPin_gang (n : Nat) (v : PinSt) : (s.setPin n v).gang = s.gang := rfl
@[simp] theorem State.setPin_cal (n : Nat) (v : PinSt) : (s.setPin n v).cal = s.cal := rfl
@[simp] theorem State.setPin_cycle (n : Nat) (v : PinSt) : (s.setPin n v).cycle = s.cycle := rfl
@[simp] theorem State.setPin_plat (n : Nat) (v : PinSt) : (s.setPin n v).plat = s.plat := rfl
@[simp] theorem State.setPin_mscl (n : Nat) (v : PinSt) : (s.setPin n v).mscl = s.mscl := rfl
@[simp] theorem State.setPin_engs (n : Nat) (v : PinSt) : (s.setPin n v).engs = s.engs := rfl
@[simp] theorem State.setPin_crews (n : Nat) (v : PinSt) : (s.setPin n v).crews = s.crews := rfl
@[simp] theorem State.setPin_edges (n : Nat) (v : PinSt) : (s.setPin n v).edges = s.edges := rfl
@[simp] theorem State.setPin_cans (n : Nat) (v : PinSt) : (s.setPin n v).cans = s.cans := rfl
@[simp] theorem State.setPin_stake (n : Nat) (v : PinSt) : (s.setPin n v).stake = s.stake := rfl
@[simp] theorem State.setPin_supply (n : Nat) (v : PinSt) : (s.setPin n v).supply = s.supply := rfl
@[simp] theorem State.setPin_slots (n : Nat) (v : PinSt) : (s.setPin n v).slots = s.slots := rfl
@[simp] theorem State.setPin_tally (n : Nat) (v : PinSt) : (s.setPin n v).tally = s.tally := rfl
@[simp] theorem State.setPin_mon (n : Nat) (v : PinSt) : (s.setPin n v).mon = s.mon := rfl
@[simp] theorem State.setPin_boot (n : Nat) (v : PinSt) : (s.setPin n v).boot = s.boot := rfl
@[simp] theorem State.setPin_rst (n : Nat) (v : PinSt) : (s.setPin n v).rst = s.rst := rfl
@[simp] theorem State.setEng_pending (n : Nat) (v : EngSt) : (s.setEng n v).pending = s.pending := rfl
@[simp] theorem State.setEng_clock (n : Nat) (v : EngSt) : (s.setEng n v).clock = s.clock := rfl
@[simp] theorem State.setEng_freeCtr (n : Nat) (v : EngSt) : (s.setEng n v).freeCtr = s.freeCtr := rfl
@[simp] theorem State.setEng_sets (n : Nat) (v : EngSt) : (s.setEng n v).sets = s.sets := rfl
@[simp] theorem State.setEng_result (n : Nat) (v : EngSt) : (s.setEng n v).result = s.result := rfl
@[simp] theorem State.setEng_regs (n : Nat) (v : EngSt) : (s.setEng n v).regs = s.regs := rfl
@[simp] theorem State.setEng_latch (n : Nat) (v : EngSt) : (s.setEng n v).latch = s.latch := rfl
@[simp] theorem State.setEng_shadow (n : Nat) (v : EngSt) : (s.setEng n v).shadow = s.shadow := rfl
@[simp] theorem State.setEng_mem (n : Nat) (v : EngSt) : (s.setEng n v).mem = s.mem := rfl
@[simp] theorem State.setEng_pwr (n : Nat) (v : EngSt) : (s.setEng n v).pwr = s.pwr := rfl
@[simp] theorem State.setEng_page (n : Nat) (v : EngSt) : (s.setEng n v).page = s.page := rfl
@[simp] theorem State.setEng_datum (n : Nat) (v : EngSt) : (s.setEng n v).datum = s.datum := rfl
@[simp] theorem State.setEng_stamps (n : Nat) (v : EngSt) : (s.setEng n v).stamps = s.stamps := rfl
@[simp] theorem State.setEng_ports (n : Nat) (v : EngSt) : (s.setEng n v).ports = s.ports := rfl
@[simp] theorem State.setEng_sw (n : Nat) (v : EngSt) : (s.setEng n v).sw = s.sw := rfl
@[simp] theorem State.setEng_book (n : Nat) (v : EngSt) : (s.setEng n v).book = s.book := rfl
@[simp] theorem State.setEng_bridge (n : Nat) (v : EngSt) : (s.setEng n v).bridge = s.bridge := rfl
@[simp] theorem State.setEng_dup (n : Nat) (v : EngSt) : (s.setEng n v).dup = s.dup := rfl
@[simp] theorem State.setEng_gang (n : Nat) (v : EngSt) : (s.setEng n v).gang = s.gang := rfl
@[simp] theorem State.setEng_cal (n : Nat) (v : EngSt) : (s.setEng n v).cal = s.cal := rfl
@[simp] theorem State.setEng_cycle (n : Nat) (v : EngSt) : (s.setEng n v).cycle = s.cycle := rfl
@[simp] theorem State.setEng_plat (n : Nat) (v : EngSt) : (s.setEng n v).plat = s.plat := rfl
@[simp] theorem State.setEng_mscl (n : Nat) (v : EngSt) : (s.setEng n v).mscl = s.mscl := rfl
@[simp] theorem State.setEng_pins (n : Nat) (v : EngSt) : (s.setEng n v).pins = s.pins := rfl
@[simp] theorem State.setEng_crews (n : Nat) (v : EngSt) : (s.setEng n v).crews = s.crews := rfl
@[simp] theorem State.setEng_edges (n : Nat) (v : EngSt) : (s.setEng n v).edges = s.edges := rfl
@[simp] theorem State.setEng_cans (n : Nat) (v : EngSt) : (s.setEng n v).cans = s.cans := rfl
@[simp] theorem State.setEng_stake (n : Nat) (v : EngSt) : (s.setEng n v).stake = s.stake := rfl
@[simp] theorem State.setEng_supply (n : Nat) (v : EngSt) : (s.setEng n v).supply = s.supply := rfl
@[simp] theorem State.setEng_slots (n : Nat) (v : EngSt) : (s.setEng n v).slots = s.slots := rfl
@[simp] theorem State.setEng_tally (n : Nat) (v : EngSt) : (s.setEng n v).tally = s.tally := rfl
@[simp] theorem State.setEng_mon (n : Nat) (v : EngSt) : (s.setEng n v).mon = s.mon := rfl
@[simp] theorem State.setEng_boot (n : Nat) (v : EngSt) : (s.setEng n v).boot = s.boot := rfl
@[simp] theorem State.setEng_rst (n : Nat) (v : EngSt) : (s.setEng n v).rst = s.rst := rfl
@[simp] theorem State.setCrew_pending (n : Nat) (v : CrewSt) : (s.setCrew n v).pending = s.pending := rfl
@[simp] theorem State.setCrew_clock (n : Nat) (v : CrewSt) : (s.setCrew n v).clock = s.clock := rfl
@[simp] theorem State.setCrew_freeCtr (n : Nat) (v : CrewSt) : (s.setCrew n v).freeCtr = s.freeCtr := rfl
@[simp] theorem State.setCrew_sets (n : Nat) (v : CrewSt) : (s.setCrew n v).sets = s.sets := rfl
@[simp] theorem State.setCrew_result (n : Nat) (v : CrewSt) : (s.setCrew n v).result = s.result := rfl
@[simp] theorem State.setCrew_regs (n : Nat) (v : CrewSt) : (s.setCrew n v).regs = s.regs := rfl
@[simp] theorem State.setCrew_latch (n : Nat) (v : CrewSt) : (s.setCrew n v).latch = s.latch := rfl
@[simp] theorem State.setCrew_shadow (n : Nat) (v : CrewSt) : (s.setCrew n v).shadow = s.shadow := rfl
@[simp] theorem State.setCrew_mem (n : Nat) (v : CrewSt) : (s.setCrew n v).mem = s.mem := rfl
@[simp] theorem State.setCrew_pwr (n : Nat) (v : CrewSt) : (s.setCrew n v).pwr = s.pwr := rfl
@[simp] theorem State.setCrew_page (n : Nat) (v : CrewSt) : (s.setCrew n v).page = s.page := rfl
@[simp] theorem State.setCrew_datum (n : Nat) (v : CrewSt) : (s.setCrew n v).datum = s.datum := rfl
@[simp] theorem State.setCrew_stamps (n : Nat) (v : CrewSt) : (s.setCrew n v).stamps = s.stamps := rfl
@[simp] theorem State.setCrew_ports (n : Nat) (v : CrewSt) : (s.setCrew n v).ports = s.ports := rfl
@[simp] theorem State.setCrew_sw (n : Nat) (v : CrewSt) : (s.setCrew n v).sw = s.sw := rfl
@[simp] theorem State.setCrew_book (n : Nat) (v : CrewSt) : (s.setCrew n v).book = s.book := rfl
@[simp] theorem State.setCrew_bridge (n : Nat) (v : CrewSt) : (s.setCrew n v).bridge = s.bridge := rfl
@[simp] theorem State.setCrew_dup (n : Nat) (v : CrewSt) : (s.setCrew n v).dup = s.dup := rfl
@[simp] theorem State.setCrew_gang (n : Nat) (v : CrewSt) : (s.setCrew n v).gang = s.gang := rfl
@[simp] theorem State.setCrew_cal (n : Nat) (v : CrewSt) : (s.setCrew n v).cal = s.cal := rfl
@[simp] theorem State.setCrew_cycle (n : Nat) (v : CrewSt) : (s.setCrew n v).cycle = s.cycle := rfl
@[simp] theorem State.setCrew_plat (n : Nat) (v : CrewSt) : (s.setCrew n v).plat = s.plat := rfl
@[simp] theorem State.setCrew_mscl (n : Nat) (v : CrewSt) : (s.setCrew n v).mscl = s.mscl := rfl
@[simp] theorem State.setCrew_pins (n : Nat) (v : CrewSt) : (s.setCrew n v).pins = s.pins := rfl
@[simp] theorem State.setCrew_engs (n : Nat) (v : CrewSt) : (s.setCrew n v).engs = s.engs := rfl
@[simp] theorem State.setCrew_edges (n : Nat) (v : CrewSt) : (s.setCrew n v).edges = s.edges := rfl
@[simp] theorem State.setCrew_cans (n : Nat) (v : CrewSt) : (s.setCrew n v).cans = s.cans := rfl
@[simp] theorem State.setCrew_stake (n : Nat) (v : CrewSt) : (s.setCrew n v).stake = s.stake := rfl
@[simp] theorem State.setCrew_supply (n : Nat) (v : CrewSt) : (s.setCrew n v).supply = s.supply := rfl
@[simp] theorem State.setCrew_slots (n : Nat) (v : CrewSt) : (s.setCrew n v).slots = s.slots := rfl
@[simp] theorem State.setCrew_tally (n : Nat) (v : CrewSt) : (s.setCrew n v).tally = s.tally := rfl
@[simp] theorem State.setCrew_mon (n : Nat) (v : CrewSt) : (s.setCrew n v).mon = s.mon := rfl
@[simp] theorem State.setCrew_boot (n : Nat) (v : CrewSt) : (s.setCrew n v).boot = s.boot := rfl
@[simp] theorem State.setCrew_rst (n : Nat) (v : CrewSt) : (s.setCrew n v).rst = s.rst := rfl
@[simp] theorem State.setEdge_pending (n : Nat) (v : EdgeSt) : (s.setEdge n v).pending = s.pending := rfl
@[simp] theorem State.setEdge_clock (n : Nat) (v : EdgeSt) : (s.setEdge n v).clock = s.clock := rfl
@[simp] theorem State.setEdge_freeCtr (n : Nat) (v : EdgeSt) : (s.setEdge n v).freeCtr = s.freeCtr := rfl
@[simp] theorem State.setEdge_sets (n : Nat) (v : EdgeSt) : (s.setEdge n v).sets = s.sets := rfl
@[simp] theorem State.setEdge_result (n : Nat) (v : EdgeSt) : (s.setEdge n v).result = s.result := rfl
@[simp] theorem State.setEdge_regs (n : Nat) (v : EdgeSt) : (s.setEdge n v).regs = s.regs := rfl
@[simp] theorem State.setEdge_latch (n : Nat) (v : EdgeSt) : (s.setEdge n v).latch = s.latch := rfl
@[simp] theorem State.setEdge_shadow (n : Nat) (v : EdgeSt) : (s.setEdge n v).shadow = s.shadow := rfl
@[simp] theorem State.setEdge_mem (n : Nat) (v : EdgeSt) : (s.setEdge n v).mem = s.mem := rfl
@[simp] theorem State.setEdge_pwr (n : Nat) (v : EdgeSt) : (s.setEdge n v).pwr = s.pwr := rfl
@[simp] theorem State.setEdge_page (n : Nat) (v : EdgeSt) : (s.setEdge n v).page = s.page := rfl
@[simp] theorem State.setEdge_datum (n : Nat) (v : EdgeSt) : (s.setEdge n v).datum = s.datum := rfl
@[simp] theorem State.setEdge_stamps (n : Nat) (v : EdgeSt) : (s.setEdge n v).stamps = s.stamps := rfl
@[simp] theorem State.setEdge_ports (n : Nat) (v : EdgeSt) : (s.setEdge n v).ports = s.ports := rfl
@[simp] theorem State.setEdge_sw (n : Nat) (v : EdgeSt) : (s.setEdge n v).sw = s.sw := rfl
@[simp] theorem State.setEdge_book (n : Nat) (v : EdgeSt) : (s.setEdge n v).book = s.book := rfl
@[simp] theorem State.setEdge_bridge (n : Nat) (v : EdgeSt) : (s.setEdge n v).bridge = s.bridge := rfl
@[simp] theorem State.setEdge_dup (n : Nat) (v : EdgeSt) : (s.setEdge n v).dup = s.dup := rfl
@[simp] theorem State.setEdge_gang (n : Nat) (v : EdgeSt) : (s.setEdge n v).gang = s.gang := rfl
@[simp] theorem State.setEdge_cal (n : Nat) (v : EdgeSt) : (s.setEdge n v).cal = s.cal := rfl
@[simp] theorem State.setEdge_cycle (n : Nat) (v : EdgeSt) : (s.setEdge n v).cycle = s.cycle := rfl
@[simp] theorem State.setEdge_plat (n : Nat) (v : EdgeSt) : (s.setEdge n v).plat = s.plat := rfl
@[simp] theorem State.setEdge_mscl (n : Nat) (v : EdgeSt) : (s.setEdge n v).mscl = s.mscl := rfl
@[simp] theorem State.setEdge_pins (n : Nat) (v : EdgeSt) : (s.setEdge n v).pins = s.pins := rfl
@[simp] theorem State.setEdge_engs (n : Nat) (v : EdgeSt) : (s.setEdge n v).engs = s.engs := rfl
@[simp] theorem State.setEdge_crews (n : Nat) (v : EdgeSt) : (s.setEdge n v).crews = s.crews := rfl
@[simp] theorem State.setEdge_cans (n : Nat) (v : EdgeSt) : (s.setEdge n v).cans = s.cans := rfl
@[simp] theorem State.setEdge_stake (n : Nat) (v : EdgeSt) : (s.setEdge n v).stake = s.stake := rfl
@[simp] theorem State.setEdge_supply (n : Nat) (v : EdgeSt) : (s.setEdge n v).supply = s.supply := rfl
@[simp] theorem State.setEdge_slots (n : Nat) (v : EdgeSt) : (s.setEdge n v).slots = s.slots := rfl
@[simp] theorem State.setEdge_tally (n : Nat) (v : EdgeSt) : (s.setEdge n v).tally = s.tally := rfl
@[simp] theorem State.setEdge_mon (n : Nat) (v : EdgeSt) : (s.setEdge n v).mon = s.mon := rfl
@[simp] theorem State.setEdge_boot (n : Nat) (v : EdgeSt) : (s.setEdge n v).boot = s.boot := rfl
@[simp] theorem State.setEdge_rst (n : Nat) (v : EdgeSt) : (s.setEdge n v).rst = s.rst := rfl
@[simp] theorem State.setCan_pending (n : Nat) (v : CanSt) : (s.setCan n v).pending = s.pending := rfl
@[simp] theorem State.setCan_clock (n : Nat) (v : CanSt) : (s.setCan n v).clock = s.clock := rfl
@[simp] theorem State.setCan_freeCtr (n : Nat) (v : CanSt) : (s.setCan n v).freeCtr = s.freeCtr := rfl
@[simp] theorem State.setCan_sets (n : Nat) (v : CanSt) : (s.setCan n v).sets = s.sets := rfl
@[simp] theorem State.setCan_result (n : Nat) (v : CanSt) : (s.setCan n v).result = s.result := rfl
@[simp] theorem State.setCan_regs (n : Nat) (v : CanSt) : (s.setCan n v).regs = s.regs := rfl
@[simp] theorem State.setCan_latch (n : Nat) (v : CanSt) : (s.setCan n v).latch = s.latch := rfl
@[simp] theorem State.setCan_shadow (n : Nat) (v : CanSt) : (s.setCan n v).shadow = s.shadow := rfl
@[simp] theorem State.setCan_mem (n : Nat) (v : CanSt) : (s.setCan n v).mem = s.mem := rfl
@[simp] theorem State.setCan_pwr (n : Nat) (v : CanSt) : (s.setCan n v).pwr = s.pwr := rfl
@[simp] theorem State.setCan_page (n : Nat) (v : CanSt) : (s.setCan n v).page = s.page := rfl
@[simp] theorem State.setCan_datum (n : Nat) (v : CanSt) : (s.setCan n v).datum = s.datum := rfl
@[simp] theorem State.setCan_stamps (n : Nat) (v : CanSt) : (s.setCan n v).stamps = s.stamps := rfl
@[simp] theorem State.setCan_ports (n : Nat) (v : CanSt) : (s.setCan n v).ports = s.ports := rfl
@[simp] theorem State.setCan_sw (n : Nat) (v : CanSt) : (s.setCan n v).sw = s.sw := rfl
@[simp] theorem State.setCan_book (n : Nat) (v : CanSt) : (s.setCan n v).book = s.book := rfl
@[simp] theorem State.setCan_bridge (n : Nat) (v : CanSt) : (s.setCan n v).bridge = s.bridge := rfl
@[simp] theorem State.setCan_dup (n : Nat) (v : CanSt) : (s.setCan n v).dup = s.dup := rfl
@[simp] theorem State.setCan_gang (n : Nat) (v : CanSt) : (s.setCan n v).gang = s.gang := rfl
@[simp] theorem State.setCan_cal (n : Nat) (v : CanSt) : (s.setCan n v).cal = s.cal := rfl
@[simp] theorem State.setCan_cycle (n : Nat) (v : CanSt) : (s.setCan n v).cycle = s.cycle := rfl
@[simp] theorem State.setCan_plat (n : Nat) (v : CanSt) : (s.setCan n v).plat = s.plat := rfl
@[simp] theorem State.setCan_mscl (n : Nat) (v : CanSt) : (s.setCan n v).mscl = s.mscl := rfl
@[simp] theorem State.setCan_pins (n : Nat) (v : CanSt) : (s.setCan n v).pins = s.pins := rfl
@[simp] theorem State.setCan_engs (n : Nat) (v : CanSt) : (s.setCan n v).engs = s.engs := rfl
@[simp] theorem State.setCan_crews (n : Nat) (v : CanSt) : (s.setCan n v).crews = s.crews := rfl
@[simp] theorem State.setCan_edges (n : Nat) (v : CanSt) : (s.setCan n v).edges = s.edges := rfl
@[simp] theorem State.setCan_stake (n : Nat) (v : CanSt) : (s.setCan n v).stake = s.stake := rfl
@[simp] theorem State.setCan_supply (n : Nat) (v : CanSt) : (s.setCan n v).supply = s.supply := rfl
@[simp] theorem State.setCan_slots (n : Nat) (v : CanSt) : (s.setCan n v).slots = s.slots := rfl
@[simp] theorem State.setCan_tally (n : Nat) (v : CanSt) : (s.setCan n v).tally = s.tally := rfl
@[simp] theorem State.setCan_mon (n : Nat) (v : CanSt) : (s.setCan n v).mon = s.mon := rfl
@[simp] theorem State.setCan_boot (n : Nat) (v : CanSt) : (s.setCan n v).boot = s.boot := rfl
@[simp] theorem State.setCan_rst (n : Nat) (v : CanSt) : (s.setCan n v).rst = s.rst := rfl
@[simp] theorem State.setSlot_pending (n : Nat) (v : SlotSt) : (s.setSlot n v).pending = s.pending := rfl
@[simp] theorem State.setSlot_clock (n : Nat) (v : SlotSt) : (s.setSlot n v).clock = s.clock := rfl
@[simp] theorem State.setSlot_freeCtr (n : Nat) (v : SlotSt) : (s.setSlot n v).freeCtr = s.freeCtr := rfl
@[simp] theorem State.setSlot_sets (n : Nat) (v : SlotSt) : (s.setSlot n v).sets = s.sets := rfl
@[simp] theorem State.setSlot_result (n : Nat) (v : SlotSt) : (s.setSlot n v).result = s.result := rfl
@[simp] theorem State.setSlot_regs (n : Nat) (v : SlotSt) : (s.setSlot n v).regs = s.regs := rfl
@[simp] theorem State.setSlot_latch (n : Nat) (v : SlotSt) : (s.setSlot n v).latch = s.latch := rfl
@[simp] theorem State.setSlot_shadow (n : Nat) (v : SlotSt) : (s.setSlot n v).shadow = s.shadow := rfl
@[simp] theorem State.setSlot_mem (n : Nat) (v : SlotSt) : (s.setSlot n v).mem = s.mem := rfl
@[simp] theorem State.setSlot_pwr (n : Nat) (v : SlotSt) : (s.setSlot n v).pwr = s.pwr := rfl
@[simp] theorem State.setSlot_page (n : Nat) (v : SlotSt) : (s.setSlot n v).page = s.page := rfl
@[simp] theorem State.setSlot_datum (n : Nat) (v : SlotSt) : (s.setSlot n v).datum = s.datum := rfl
@[simp] theorem State.setSlot_stamps (n : Nat) (v : SlotSt) : (s.setSlot n v).stamps = s.stamps := rfl
@[simp] theorem State.setSlot_ports (n : Nat) (v : SlotSt) : (s.setSlot n v).ports = s.ports := rfl
@[simp] theorem State.setSlot_sw (n : Nat) (v : SlotSt) : (s.setSlot n v).sw = s.sw := rfl
@[simp] theorem State.setSlot_book (n : Nat) (v : SlotSt) : (s.setSlot n v).book = s.book := rfl
@[simp] theorem State.setSlot_bridge (n : Nat) (v : SlotSt) : (s.setSlot n v).bridge = s.bridge := rfl
@[simp] theorem State.setSlot_dup (n : Nat) (v : SlotSt) : (s.setSlot n v).dup = s.dup := rfl
@[simp] theorem State.setSlot_gang (n : Nat) (v : SlotSt) : (s.setSlot n v).gang = s.gang := rfl
@[simp] theorem State.setSlot_cal (n : Nat) (v : SlotSt) : (s.setSlot n v).cal = s.cal := rfl
@[simp] theorem State.setSlot_cycle (n : Nat) (v : SlotSt) : (s.setSlot n v).cycle = s.cycle := rfl
@[simp] theorem State.setSlot_plat (n : Nat) (v : SlotSt) : (s.setSlot n v).plat = s.plat := rfl
@[simp] theorem State.setSlot_mscl (n : Nat) (v : SlotSt) : (s.setSlot n v).mscl = s.mscl := rfl
@[simp] theorem State.setSlot_pins (n : Nat) (v : SlotSt) : (s.setSlot n v).pins = s.pins := rfl
@[simp] theorem State.setSlot_engs (n : Nat) (v : SlotSt) : (s.setSlot n v).engs = s.engs := rfl
@[simp] theorem State.setSlot_crews (n : Nat) (v : SlotSt) : (s.setSlot n v).crews = s.crews := rfl
@[simp] theorem State.setSlot_edges (n : Nat) (v : SlotSt) : (s.setSlot n v).edges = s.edges := rfl
@[simp] theorem State.setSlot_cans (n : Nat) (v : SlotSt) : (s.setSlot n v).cans = s.cans := rfl
@[simp] theorem State.setSlot_stake (n : Nat) (v : SlotSt) : (s.setSlot n v).stake = s.stake := rfl
@[simp] theorem State.setSlot_supply (n : Nat) (v : SlotSt) : (s.setSlot n v).supply = s.supply := rfl
@[simp] theorem State.setSlot_tally (n : Nat) (v : SlotSt) : (s.setSlot n v).tally = s.tally := rfl
@[simp] theorem State.setSlot_mon (n : Nat) (v : SlotSt) : (s.setSlot n v).mon = s.mon := rfl
@[simp] theorem State.setSlot_boot (n : Nat) (v : SlotSt) : (s.setSlot n v).boot = s.boot := rfl
@[simp] theorem State.setSlot_rst (n : Nat) (v : SlotSt) : (s.setSlot n v).rst = s.rst := rfl
@[simp] theorem State.advance_clock (t : Nat) : (s.advance t).clock = max s.clock t := rfl
@[simp] theorem State.nextFree_freeCtr : s.nextFree.freeCtr = s.freeCtr + 1 := rfl

/-- A register write of several words changes the register file only. -/
theorem State.putWide_eq (p : Nat) : ∀ (n off v : Nat) (s : State), ∃ l, s.putWide p off n v = { s with regs := l }
  | 0, _, _, s => ⟨s.regs, rfl⟩
  | n + 1, off, v, s => State.putWide_eq p n (off + 4) (v / 2 ^ 32) (s.wr p off (w32 v))

theorem State.set_eq (p : Nat) (f : Fld) (v : Nat) : ∃ l, s.set p f v = { s with regs := l } :=
  State.putWide_eq p _ _ _ s

@[simp] theorem State.set_pending (p : Nat) (f : Fld) (v : Nat) : (s.set p f v).pending = s.pending := by
  obtain ⟨l, h⟩ := s.set_eq p f v; rw [h]
@[simp] theorem State.set_clock (p : Nat) (f : Fld) (v : Nat) : (s.set p f v).clock = s.clock := by
  obtain ⟨l, h⟩ := s.set_eq p f v; rw [h]
@[simp] theorem State.set_freeCtr (p : Nat) (f : Fld) (v : Nat) : (s.set p f v).freeCtr = s.freeCtr := by
  obtain ⟨l, h⟩ := s.set_eq p f v; rw [h]
@[simp] theorem State.set_sets (p : Nat) (f : Fld) (v : Nat) : (s.set p f v).sets = s.sets := by
  obtain ⟨l, h⟩ := s.set_eq p f v; rw [h]
@[simp] theorem State.set_result (p : Nat) (f : Fld) (v : Nat) : (s.set p f v).result = s.result := by
  obtain ⟨l, h⟩ := s.set_eq p f v; rw [h]
@[simp] theorem State.set_latch (p : Nat) (f : Fld) (v : Nat) : (s.set p f v).latch = s.latch := by
  obtain ⟨l, h⟩ := s.set_eq p f v; rw [h]
@[simp] theorem State.set_shadow (p : Nat) (f : Fld) (v : Nat) : (s.set p f v).shadow = s.shadow := by
  obtain ⟨l, h⟩ := s.set_eq p f v; rw [h]
@[simp] theorem State.set_mem (p : Nat) (f : Fld) (v : Nat) : (s.set p f v).mem = s.mem := by
  obtain ⟨l, h⟩ := s.set_eq p f v; rw [h]
@[simp] theorem State.set_pwr (p : Nat) (f : Fld) (v : Nat) : (s.set p f v).pwr = s.pwr := by
  obtain ⟨l, h⟩ := s.set_eq p f v; rw [h]
@[simp] theorem State.set_page (p : Nat) (f : Fld) (v : Nat) : (s.set p f v).page = s.page := by
  obtain ⟨l, h⟩ := s.set_eq p f v; rw [h]
@[simp] theorem State.set_datum (p : Nat) (f : Fld) (v : Nat) : (s.set p f v).datum = s.datum := by
  obtain ⟨l, h⟩ := s.set_eq p f v; rw [h]
@[simp] theorem State.set_stamps (p : Nat) (f : Fld) (v : Nat) : (s.set p f v).stamps = s.stamps := by
  obtain ⟨l, h⟩ := s.set_eq p f v; rw [h]
@[simp] theorem State.set_ports (p : Nat) (f : Fld) (v : Nat) : (s.set p f v).ports = s.ports := by
  obtain ⟨l, h⟩ := s.set_eq p f v; rw [h]
@[simp] theorem State.set_sw (p : Nat) (f : Fld) (v : Nat) : (s.set p f v).sw = s.sw := by
  obtain ⟨l, h⟩ := s.set_eq p f v; rw [h]
@[simp] theorem State.set_book (p : Nat) (f : Fld) (v : Nat) : (s.set p f v).book = s.book := by
  obtain ⟨l, h⟩ := s.set_eq p f v; rw [h]
@[simp] theorem State.set_bridge (p : Nat) (f : Fld) (v : Nat) : (s.set p f v).bridge = s.bridge := by
  obtain ⟨l, h⟩ := s.set_eq p f v; rw [h]
@[simp] theorem State.set_dup (p : Nat) (f : Fld) (v : Nat) : (s.set p f v).dup = s.dup := by
  obtain ⟨l, h⟩ := s.set_eq p f v; rw [h]
@[simp] theorem State.set_gang (p : Nat) (f : Fld) (v : Nat) : (s.set p f v).gang = s.gang := by
  obtain ⟨l, h⟩ := s.set_eq p f v; rw [h]
@[simp] theorem State.set_cal (p : Nat) (f : Fld) (v : Nat) : (s.set p f v).cal = s.cal := by
  obtain ⟨l, h⟩ := s.set_eq p f v; rw [h]
@[simp] theorem State.set_cycle (p : Nat) (f : Fld) (v : Nat) : (s.set p f v).cycle = s.cycle := by
  obtain ⟨l, h⟩ := s.set_eq p f v; rw [h]
@[simp] theorem State.set_plat (p : Nat) (f : Fld) (v : Nat) : (s.set p f v).plat = s.plat := by
  obtain ⟨l, h⟩ := s.set_eq p f v; rw [h]
@[simp] theorem State.set_mscl (p : Nat) (f : Fld) (v : Nat) : (s.set p f v).mscl = s.mscl := by
  obtain ⟨l, h⟩ := s.set_eq p f v; rw [h]
@[simp] theorem State.set_pins (p : Nat) (f : Fld) (v : Nat) : (s.set p f v).pins = s.pins := by
  obtain ⟨l, h⟩ := s.set_eq p f v; rw [h]
@[simp] theorem State.set_engs (p : Nat) (f : Fld) (v : Nat) : (s.set p f v).engs = s.engs := by
  obtain ⟨l, h⟩ := s.set_eq p f v; rw [h]
@[simp] theorem State.set_crews (p : Nat) (f : Fld) (v : Nat) : (s.set p f v).crews = s.crews := by
  obtain ⟨l, h⟩ := s.set_eq p f v; rw [h]
@[simp] theorem State.set_edges (p : Nat) (f : Fld) (v : Nat) : (s.set p f v).edges = s.edges := by
  obtain ⟨l, h⟩ := s.set_eq p f v; rw [h]
@[simp] theorem State.set_cans (p : Nat) (f : Fld) (v : Nat) : (s.set p f v).cans = s.cans := by
  obtain ⟨l, h⟩ := s.set_eq p f v; rw [h]
@[simp] theorem State.set_stake (p : Nat) (f : Fld) (v : Nat) : (s.set p f v).stake = s.stake := by
  obtain ⟨l, h⟩ := s.set_eq p f v; rw [h]
@[simp] theorem State.set_supply (p : Nat) (f : Fld) (v : Nat) : (s.set p f v).supply = s.supply := by
  obtain ⟨l, h⟩ := s.set_eq p f v; rw [h]
@[simp] theorem State.set_slots (p : Nat) (f : Fld) (v : Nat) : (s.set p f v).slots = s.slots := by
  obtain ⟨l, h⟩ := s.set_eq p f v; rw [h]
@[simp] theorem State.set_tally (p : Nat) (f : Fld) (v : Nat) : (s.set p f v).tally = s.tally := by
  obtain ⟨l, h⟩ := s.set_eq p f v; rw [h]
@[simp] theorem State.set_mon (p : Nat) (f : Fld) (v : Nat) : (s.set p f v).mon = s.mon := by
  obtain ⟨l, h⟩ := s.set_eq p f v; rw [h]
@[simp] theorem State.set_boot (p : Nat) (f : Fld) (v : Nat) : (s.set p f v).boot = s.boot := by
  obtain ⟨l, h⟩ := s.set_eq p f v; rw [h]
@[simp] theorem State.set_rst (p : Nat) (f : Fld) (v : Nat) : (s.set p f v).rst = s.rst := by
  obtain ⟨l, h⟩ := s.set_eq p f v; rw [h]

/-! The shorthands are field writes and field reads. -/

theorem State.setB_set (p : Nat) (f : Fld) (b : Bool) : s.setB p f b = s.set p f (bit b) := rfl
theorem State.bumpBy_set (p : Nat) (f : Fld) (k : Nat) : s.bumpBy p f k = s.set p f (s.get p f + k) := rfl
theorem State.bump_set (p : Nat) (f : Fld) : s.bump p f = s.set p f (s.get p f + 1) := rfl
theorem State.bumpSat_set (p : Nat) (f : Fld) (k : Nat) : s.bumpSat p f k = s.set p f (satAdd (s.get p f) k f.w) := rfl

/-! Bits that the hub sets, with the note of the cycle in which it set them (R9). -/

@[simp] theorem State.markSet_pending (p off : Nat) (m : Word) : (s.markSet p off m).pending = s.pending := by
  unfold State.markSet; split <;> rfl
@[simp] theorem State.markSet_clock (p off : Nat) (m : Word) : (s.markSet p off m).clock = s.clock := by
  unfold State.markSet; split <;> rfl
@[simp] theorem State.markSet_freeCtr (p off : Nat) (m : Word) : (s.markSet p off m).freeCtr = s.freeCtr := by
  unfold State.markSet; split <;> rfl
@[simp] theorem State.markSet_result (p off : Nat) (m : Word) : (s.markSet p off m).result = s.result := by
  unfold State.markSet; split <;> rfl
@[simp] theorem State.markSet_regs (p off : Nat) (m : Word) : (s.markSet p off m).regs = s.regs := by
  unfold State.markSet; split <;> rfl
@[simp] theorem State.markSet_latch (p off : Nat) (m : Word) : (s.markSet p off m).latch = s.latch := by
  unfold State.markSet; split <;> rfl
@[simp] theorem State.markSet_shadow (p off : Nat) (m : Word) : (s.markSet p off m).shadow = s.shadow := by
  unfold State.markSet; split <;> rfl
@[simp] theorem State.markSet_mem (p off : Nat) (m : Word) : (s.markSet p off m).mem = s.mem := by
  unfold State.markSet; split <;> rfl
@[simp] theorem State.markSet_pwr (p off : Nat) (m : Word) : (s.markSet p off m).pwr = s.pwr := by
  unfold State.markSet; split <;> rfl
@[simp] theorem State.markSet_page (p off : Nat) (m : Word) : (s.markSet p off m).page = s.page := by
  unfold State.markSet; split <;> rfl
@[simp] theorem State.markSet_datum (p off : Nat) (m : Word) : (s.markSet p off m).datum = s.datum := by
  unfold State.markSet; split <;> rfl
@[simp] theorem State.markSet_stamps (p off : Nat) (m : Word) : (s.markSet p off m).stamps = s.stamps := by
  unfold State.markSet; split <;> rfl
@[simp] theorem State.markSet_ports (p off : Nat) (m : Word) : (s.markSet p off m).ports = s.ports := by
  unfold State.markSet; split <;> rfl
@[simp] theorem State.markSet_sw (p off : Nat) (m : Word) : (s.markSet p off m).sw = s.sw := by
  unfold State.markSet; split <;> rfl
@[simp] theorem State.markSet_book (p off : Nat) (m : Word) : (s.markSet p off m).book = s.book := by
  unfold State.markSet; split <;> rfl
@[simp] theorem State.markSet_bridge (p off : Nat) (m : Word) : (s.markSet p off m).bridge = s.bridge := by
  unfold State.markSet; split <;> rfl
@[simp] theorem State.markSet_dup (p off : Nat) (m : Word) : (s.markSet p off m).dup = s.dup := by
  unfold State.markSet; split <;> rfl
@[simp] theorem State.markSet_gang (p off : Nat) (m : Word) : (s.markSet p off m).gang = s.gang := by
  unfold State.markSet; split <;> rfl
@[simp] theorem State.markSet_cal (p off : Nat) (m : Word) : (s.markSet p off m).cal = s.cal := by
  unfold State.markSet; split <;> rfl
@[simp] theorem State.markSet_cycle (p off : Nat) (m : Word) : (s.markSet p off m).cycle = s.cycle := by
  unfold State.markSet; split <;> rfl
@[simp] theorem State.markSet_plat (p off : Nat) (m : Word) : (s.markSet p off m).plat = s.plat := by
  unfold State.markSet; split <;> rfl
@[simp] theorem State.markSet_mscl (p off : Nat) (m : Word) : (s.markSet p off m).mscl = s.mscl := by
  unfold State.markSet; split <;> rfl
@[simp] theorem State.markSet_pins (p off : Nat) (m : Word) : (s.markSet p off m).pins = s.pins := by
  unfold State.markSet; split <;> rfl
@[simp] theorem State.markSet_engs (p off : Nat) (m : Word) : (s.markSet p off m).engs = s.engs := by
  unfold State.markSet; split <;> rfl
@[simp] theorem State.markSet_crews (p off : Nat) (m : Word) : (s.markSet p off m).crews = s.crews := by
  unfold State.markSet; split <;> rfl
@[simp] theorem State.markSet_edges (p off : Nat) (m : Word) : (s.markSet p off m).edges = s.edges := by
  unfold State.markSet; split <;> rfl
@[simp] theorem State.markSet_cans (p off : Nat) (m : Word) : (s.markSet p off m).cans = s.cans := by
  unfold State.markSet; split <;> rfl
@[simp] theorem State.markSet_stake (p off : Nat) (m : Word) : (s.markSet p off m).stake = s.stake := by
  unfold State.markSet; split <;> rfl
@[simp] theorem State.markSet_supply (p off : Nat) (m : Word) : (s.markSet p off m).supply = s.supply := by
  unfold State.markSet; split <;> rfl
@[simp] theorem State.markSet_slots (p off : Nat) (m : Word) : (s.markSet p off m).slots = s.slots := by
  unfold State.markSet; split <;> rfl
@[simp] theorem State.markSet_tally (p off : Nat) (m : Word) : (s.markSet p off m).tally = s.tally := by
  unfold State.markSet; split <;> rfl
@[simp] theorem State.markSet_mon (p off : Nat) (m : Word) : (s.markSet p off m).mon = s.mon := by
  unfold State.markSet; split <;> rfl
@[simp] theorem State.markSet_boot (p off : Nat) (m : Word) : (s.markSet p off m).boot = s.boot := by
  unfold State.markSet; split <;> rfl
@[simp] theorem State.markSet_rst (p off : Nat) (m : Word) : (s.markSet p off m).rst = s.rst := by
  unfold State.markSet; split <;> rfl
@[simp] theorem State.event_pending (p b : Nat) : (s.event p b).pending = s.pending := by simp [State.event, State.setW1c]
@[simp] theorem State.event_clock (p b : Nat) : (s.event p b).clock = s.clock := by simp [State.event, State.setW1c]
@[simp] theorem State.event_freeCtr (p b : Nat) : (s.event p b).freeCtr = s.freeCtr := by simp [State.event, State.setW1c]
@[simp] theorem State.event_result (p b : Nat) : (s.event p b).result = s.result := by simp [State.event, State.setW1c]
@[simp] theorem State.event_latch (p b : Nat) : (s.event p b).latch = s.latch := by simp [State.event, State.setW1c]
@[simp] theorem State.event_shadow (p b : Nat) : (s.event p b).shadow = s.shadow := by simp [State.event, State.setW1c]
@[simp] theorem State.event_mem (p b : Nat) : (s.event p b).mem = s.mem := by simp [State.event, State.setW1c]
@[simp] theorem State.event_pwr (p b : Nat) : (s.event p b).pwr = s.pwr := by simp [State.event, State.setW1c]
@[simp] theorem State.event_page (p b : Nat) : (s.event p b).page = s.page := by simp [State.event, State.setW1c]
@[simp] theorem State.event_datum (p b : Nat) : (s.event p b).datum = s.datum := by simp [State.event, State.setW1c]
@[simp] theorem State.event_stamps (p b : Nat) : (s.event p b).stamps = s.stamps := by simp [State.event, State.setW1c]
@[simp] theorem State.event_ports (p b : Nat) : (s.event p b).ports = s.ports := by simp [State.event, State.setW1c]
@[simp] theorem State.event_sw (p b : Nat) : (s.event p b).sw = s.sw := by simp [State.event, State.setW1c]
@[simp] theorem State.event_book (p b : Nat) : (s.event p b).book = s.book := by simp [State.event, State.setW1c]
@[simp] theorem State.event_bridge (p b : Nat) : (s.event p b).bridge = s.bridge := by simp [State.event, State.setW1c]
@[simp] theorem State.event_dup (p b : Nat) : (s.event p b).dup = s.dup := by simp [State.event, State.setW1c]
@[simp] theorem State.event_gang (p b : Nat) : (s.event p b).gang = s.gang := by simp [State.event, State.setW1c]
@[simp] theorem State.event_cal (p b : Nat) : (s.event p b).cal = s.cal := by simp [State.event, State.setW1c]
@[simp] theorem State.event_cycle (p b : Nat) : (s.event p b).cycle = s.cycle := by simp [State.event, State.setW1c]
@[simp] theorem State.event_plat (p b : Nat) : (s.event p b).plat = s.plat := by simp [State.event, State.setW1c]
@[simp] theorem State.event_mscl (p b : Nat) : (s.event p b).mscl = s.mscl := by simp [State.event, State.setW1c]
@[simp] theorem State.event_pins (p b : Nat) : (s.event p b).pins = s.pins := by simp [State.event, State.setW1c]
@[simp] theorem State.event_engs (p b : Nat) : (s.event p b).engs = s.engs := by simp [State.event, State.setW1c]
@[simp] theorem State.event_crews (p b : Nat) : (s.event p b).crews = s.crews := by simp [State.event, State.setW1c]
@[simp] theorem State.event_edges (p b : Nat) : (s.event p b).edges = s.edges := by simp [State.event, State.setW1c]
@[simp] theorem State.event_cans (p b : Nat) : (s.event p b).cans = s.cans := by simp [State.event, State.setW1c]
@[simp] theorem State.event_stake (p b : Nat) : (s.event p b).stake = s.stake := by simp [State.event, State.setW1c]
@[simp] theorem State.event_supply (p b : Nat) : (s.event p b).supply = s.supply := by simp [State.event, State.setW1c]
@[simp] theorem State.event_slots (p b : Nat) : (s.event p b).slots = s.slots := by simp [State.event, State.setW1c]
@[simp] theorem State.event_tally (p b : Nat) : (s.event p b).tally = s.tally := by simp [State.event, State.setW1c]
@[simp] theorem State.event_mon (p b : Nat) : (s.event p b).mon = s.mon := by simp [State.event, State.setW1c]
@[simp] theorem State.event_boot (p b : Nat) : (s.event p b).boot = s.boot := by simp [State.event, State.setW1c]
@[simp] theorem State.event_rst (p b : Nat) : (s.event p b).rst = s.rst := by simp [State.event, State.setW1c]

/-! Register fields. -/

theorem regKey_inj {p off q off' : Nat} (h : regKey p off = regKey q off') : p = q ∧ off % 4096 = off' % 4096 := by
  simp only [regKey] at h; omega

theorem State.rd_wr (p off q o : Nat) (v : Word) :
    (s.wr p off v).rd q o = if regKey q o = regKey p off then v else s.rd q o := tabGet_tabPut _ _ _ _ _

theorem natField_testBit (n lo w i : Nat) : (natField n lo w).testBit i = (decide (i < w) && n.testBit (lo + i)) := by
  simp [natField, Nat.testBit_mod_two_pow, Nat.testBit_div_two_pow, Nat.add_comm]

theorem natPut_testBit (n lo w v i : Nat) :
    (natPut n lo w v).testBit i = if lo ≤ i ∧ i < lo + w then v.testBit (i - lo) else n.testBit i := by
  have h1 : n % 2 ^ lo < 2 ^ lo := Nat.mod_lt _ (by positivity)
  have h2 : v % 2 ^ w * 2 ^ lo + n % 2 ^ lo < 2 ^ (lo + w) := by
    have : v % 2 ^ w + 1 ≤ 2 ^ w := Nat.mod_lt _ (by positivity)
    calc v % 2 ^ w * 2 ^ lo + n % 2 ^ lo < (v % 2 ^ w + 1) * 2 ^ lo := by rw [Nat.add_mul]; omega
      _ ≤ 2 ^ w * 2 ^ lo := Nat.mul_le_mul_right _ this
      _ = 2 ^ (lo + w) := by rw [← Nat.pow_add, Nat.add_comm]
  unfold natPut
  rw [Nat.add_assoc, Nat.mul_comm (n / _), Nat.testBit_two_pow_mul_add _ h2, Nat.mul_comm (v % _), Nat.testBit_two_pow_mul_add _ h1]
  split
  · next h =>
    split
    · next h' => rw [if_neg (by omega)]; simp [Nat.testBit_mod_two_pow, h']
    · next h' => rw [if_pos (by omega)]; simp [Nat.testBit_mod_two_pow]; omega
  · next h => rw [if_neg (by omega), Nat.testBit_div_two_pow]; congr 1; omega

/-- The bits of a wide read are the bits of its words. -/
theorem State.wide_testBit (p : Nat) : ∀ (n off i : Nat),
    (s.wide p off n).testBit i = (decide (i < 32 * n) && (s.rd p (off + 4 * (i / 32))).toNat.testBit (i % 32))
  | 0, off, i => by simp [State.wide]
  | n + 1, off, i => by
    unfold State.wide
    have hb : (s.rd p off).toNat < 2 ^ 32 := (s.rd p off).isLt
    rw [Nat.add_comm, Nat.testBit_two_pow_mul_add _ hb]
    split
    · next h =>
      have h0 : i / 32 = 0 := by omega
      have h1 : i % 32 = i := by omega
      have h2 : i < 32 * (n + 1) := by omega
      simp [h0, h1, h2]
    · next h =>
      rw [State.wide_testBit p n (off + 4) (i - 32)]
      have h0 : off + 4 + 4 * ((i - 32) / 32) = off + 4 * (i / 32) := by omega
      have h1 : (i - 32) % 32 = i % 32 := by omega
      have h2 : (i - 32 < 32 * n) ↔ (i < 32 * (n + 1)) := by omega
      simp [h0, h1, h2]

/-- What a word reads as after a write of several words. -/
theorem State.rd_putWide (p : Nat) : ∀ (n off v : Nat) (s : State), off + 4 * n ≤ 4096 → ∀ (q o : Nat), o < 4096 →
    (s.putWide p off n v).rd q o = if q = p ∧ off ≤ o ∧ o < off + 4 * n ∧ (o - off) % 4 = 0 then w32 (v / 2 ^ (8 * (o - off)))
      else s.rd q o
  | 0, off, v, s, _, q, o, _ => by
    rw [if_neg (by omega)]; rfl
  | n + 1, off, v, s, hn, q, o, ho => by
    show ((s.wr p off (w32 v)).putWide p (off + 4) n (v / 2 ^ 32)).rd q o = _
    rw [State.rd_putWide p n _ _ _ (by omega) q o ho, State.rd_wr]
    have hk : regKey q o = regKey p off ↔ q = p ∧ o = off := by simp only [regKey]; omega
    simp only [hk]
    by_cases h1 : q = p ∧ o = off
    · obtain ⟨rfl, rfl⟩ := h1
      simp
    · rw [if_neg h1]
      by_cases h2 : q = p ∧ off + 4 ≤ o ∧ o < off + 4 + 4 * n ∧ (o - (off + 4)) % 4 = 0
      · rw [if_pos h2, if_pos (by omega), Nat.div_div_eq_div_mul, ← Nat.pow_add]
        congr 3; omega
      · rw [if_neg h2, if_neg (by omega)]

/-- A field lies inside its page. -/
def Fld.fits (f : Fld) : Bool := decide (f.off + 4 * f.words ≤ 4096)

/-- Two fields do not share a bit. -/
def Fld.apart (p : Nat) (f : Fld) (q : Nat) (g : Fld) : Bool :=
  decide (p ≠ q) || decide (f.off + 4 * f.words ≤ g.off) || decide (g.off + 4 * g.words ≤ f.off) ||
    (decide (f.off = g.off) && (decide (f.lo + f.w ≤ g.lo) || decide (g.lo + g.w ≤ f.lo)))

theorem State.get_testBit (p : Nat) (f : Fld) (i : Nat) :
    (s.get p f).testBit i = (decide (i < f.w) && (s.rd p (f.off + 4 * ((f.lo + i) / 32))).toNat.testBit ((f.lo + i) % 32)) := by
  unfold State.get
  rw [natField_testBit, State.wide_testBit]
  by_cases h : i < f.w
  · have : f.lo + i < 32 * f.words := by unfold Fld.words; omega
    simp [h, this]
  · simp [h]

/-- The bits of a word after a field write. -/
theorem State.rd_set_testBit (p : Nat) (f : Fld) (v : Nat) (hf : f.fits = true) {q o i : Nat} (ho : o < 4096) (hi : i < 32) :
    ((s.set p f v).rd q o).toNat.testBit i =
      if q = p ∧ f.off ≤ o ∧ (o - f.off) % 4 = 0 ∧ f.lo ≤ 8 * (o - f.off) + i ∧ 8 * (o - f.off) + i < f.lo + f.w then
        v.testBit (8 * (o - f.off) + i - f.lo)
      else (s.rd q o).toNat.testBit i := by
  have hf' : f.off + 4 * f.words ≤ 4096 := of_decide_eq_true hf
  unfold State.set
  rw [State.rd_putWide p _ _ _ s hf' q o ho]
  by_cases h : q = p ∧ f.off ≤ o ∧ o < f.off + 4 * f.words ∧ (o - f.off) % 4 = 0
  · rw [if_pos h]
    have e1 : (w32 (natPut (s.wide p f.off f.words) f.lo f.w v / 2 ^ (8 * (o - f.off)))).toNat.testBit i =
        (natPut (s.wide p f.off f.words) f.lo f.w v).testBit (8 * (o - f.off) + i) := by
      simp only [w32, BitVec.toNat_ofNat, Nat.testBit_mod_two_pow, hi, decide_true, Bool.true_and, Nat.testBit_div_two_pow, Nat.add_comm]
    rw [e1, natPut_testBit]
    by_cases h2 : f.lo ≤ 8 * (o - f.off) + i ∧ 8 * (o - f.off) + i < f.lo + f.w
    · rw [if_pos h2, if_pos ⟨h.1, h.2.1, h.2.2.2, h2⟩]
    · rw [if_neg h2, if_neg (fun hc => h2 hc.2.2.2), State.wide_testBit]
      have h3 : 8 * (o - f.off) + i < 32 * f.words := by omega
      have h4 : f.off + 4 * ((8 * (o - f.off) + i) / 32) = o := by omega
      have h5 : (8 * (o - f.off) + i) % 32 = i := by omega
      simp only [h3, h4, h5, decide_true, Bool.true_and, h.1]
  · rw [if_neg h, if_neg]
    rintro ⟨h1, h2, h3, h4, h5⟩
    exact h ⟨h1, h2, by unfold Fld.words; omega, h3⟩

/-- A field reads as it was last written. -/
theorem State.get_set_same (p : Nat) (f : Fld) (v : Nat) (hf : f.fits = true) : (s.set p f v).get p f = v % 2 ^ f.w := by
  have hf' : f.off + 4 * f.words ≤ 4096 := of_decide_eq_true hf
  refine Nat.eq_of_testBit_eq fun i => ?_
  rw [State.get_testBit, Nat.testBit_mod_two_pow]
  by_cases h : i < f.w
  · have hw : f.lo + i < 32 * f.words := by unfold Fld.words; omega
    rw [State.rd_set_testBit s p f v hf (by omega) (by omega), if_pos (by omega)]
    have : 8 * (f.off + 4 * ((f.lo + i) / 32) - f.off) + (f.lo + i) % 32 - f.lo = i := by omega
    rw [this]
  · simp [h]

/-- A write of one field leaves every other field. -/
theorem State.get_set_apart (p : Nat) (f : Fld) (v q : Nat) (g : Fld) (ha : Fld.apart p f q g = true) (hf : f.fits = true)
    (hg : g.fits = true) : (s.set p f v).get q g = s.get q g := by
  have hg' : g.off + 4 * g.words ≤ 4096 := of_decide_eq_true hg
  refine Nat.eq_of_testBit_eq fun i => ?_
  rw [State.get_testBit, State.get_testBit]
  by_cases h : i < g.w
  · have hw : g.lo + i < 32 * g.words := by unfold Fld.words; omega
    rw [State.rd_set_testBit s p f v hf (by omega) (by omega), if_neg]
    rintro ⟨h1, h2, h3, h4, h5⟩
    simp only [Fld.apart, Bool.or_eq_true, Bool.and_eq_true, decide_eq_true_eq] at ha
    unfold Fld.words at *
    omega
  · simp [h]

/-- A word outside a field's words is left. -/
theorem State.rd_set_ne (p : Nat) (f : Fld) (v : Nat) {q o : Nat} (hf : f.fits = true) (ho : o < 4096)
    (h : q ≠ p ∨ o < f.off ∨ f.off + 4 * f.words ≤ o) : (s.set p f v).rd q o = s.rd q o := by
  have hf' : f.off + 4 * f.words ≤ 4096 := of_decide_eq_true hf
  unfold State.set
  rw [State.rd_putWide p _ _ _ s hf' q o ho, if_neg (by omega)]

/-- A number below the width of a field is its own remainder. -/
theorem State.get_lt (p : Nat) (f : Fld) : s.get p f < 2 ^ f.w := Nat.mod_lt _ (by positivity)

theorem State.rd_congr {s t : State} (h : t.regs = s.regs) (p off : Nat) : t.rd p off = s.rd p off := by
  simp only [State.rd, h]

theorem State.wide_congr {s t : State} (h : t.regs = s.regs) (p : Nat) : ∀ n off, t.wide p off n = s.wide p off n
  | 0, _ => rfl
  | n + 1, off => by simp only [State.wide, State.rd_congr h, State.wide_congr h p n]

/-- A field depends on the register file only. -/
theorem State.get_congr {s t : State} (h : t.regs = s.regs) (p : Nat) (f : Fld) : t.get p f = s.get p f := by
  simp only [State.get, State.wide_congr h]

theorem State.putWide_regs_congr (p : Nat) : ∀ (n off v : Nat) (s t : State), s.regs = t.regs →
    (s.putWide p off n v).regs = (t.putWide p off n v).regs
  | 0, _, _, _, _, h => h
  | n + 1, off, v, s, t, h => State.putWide_regs_congr p n (off + 4) (v / 2 ^ 32) _ _ (by simp [State.wr, h])

theorem State.set_regs_congr {s t : State} (h : s.regs = t.regs) (p : Nat) (f : Fld) (v : Nat) :
    (s.set p f v).regs = (t.set p f v).regs := by
  unfold State.set
  rw [State.wide_congr h.symm]
  exact State.putWide_regs_congr p _ _ _ _ _ h

/-- The registers after an event: its bit of PEVT is 1 (R49). -/
theorem State.event_regs (p b : Nat) : (s.event p b).regs = (s.set p ⟨0x0C, b, 1⟩ 1).regs :=
  State.set_regs_congr (by simp) p _ 1

theorem State.event_rd (p b q o : Nat) : (s.event p b).rd q o = (s.set p ⟨0x0C, b, 1⟩ 1).rd q o := by
  simp [State.rd, State.event_regs]

theorem State.event_get (p b q : Nat) (f : Fld) : (s.event p b).get q f = (s.set p ⟨0x0C, b, 1⟩ 1).get q f := by
  simp [State.get, State.wide_congr (s.event_regs p b)]

@[simp] theorem State.get_advance (t : Nat) (q : Nat) (g : Fld) : (s.advance t).get q g = s.get q g :=
  State.get_congr (s := s) (t := s.advance t) rfl q g
@[simp] theorem State.get_nextFree (q : Nat) (g : Fld) : (s.nextFree).get q g = s.get q g :=
  State.get_congr (s := s) (t := s.nextFree) rfl q g
@[simp] theorem State.get_stb (a : Nat) (b : Byte) (q : Nat) (g : Fld) : (s.stb a b).get q g = s.get q g :=
  State.get_congr (s := s) (t := s.stb a b) rfl q g
@[simp] theorem State.get_setPort (n : Nat) (v : PortSt) (q : Nat) (g : Fld) : (s.setPort n v).get q g = s.get q g :=
  State.get_congr (s := s) (t := s.setPort n v) rfl q g
@[simp] theorem State.get_setPin (n : Nat) (v : PinSt) (q : Nat) (g : Fld) : (s.setPin n v).get q g = s.get q g :=
  State.get_congr (s := s) (t := s.setPin n v) rfl q g
@[simp] theorem State.get_setEng (n : Nat) (v : EngSt) (q : Nat) (g : Fld) : (s.setEng n v).get q g = s.get q g :=
  State.get_congr (s := s) (t := s.setEng n v) rfl q g
@[simp] theorem State.get_setCrew (n : Nat) (v : CrewSt) (q : Nat) (g : Fld) : (s.setCrew n v).get q g = s.get q g :=
  State.get_congr (s := s) (t := s.setCrew n v) rfl q g
@[simp] theorem State.get_setEdge (n : Nat) (v : EdgeSt) (q : Nat) (g : Fld) : (s.setEdge n v).get q g = s.get q g :=
  State.get_congr (s := s) (t := s.setEdge n v) rfl q g
@[simp] theorem State.get_setCan (n : Nat) (v : CanSt) (q : Nat) (g : Fld) : (s.setCan n v).get q g = s.get q g :=
  State.get_congr (s := s) (t := s.setCan n v) rfl q g
@[simp] theorem State.get_setSlot (n : Nat) (v : SlotSt) (q : Nat) (g : Fld) : (s.setSlot n v).get q g = s.get q g :=
  State.get_congr (s := s) (t := s.setSlot n v) rfl q g
@[simp] theorem State.get_with_pending (v) (q : Nat) (g : Fld) : ({ s with pending := v } : State).get q g = s.get q g :=
  State.get_congr (s := s) (t := { s with pending := v }) rfl q g
@[simp] theorem State.get_with_clock (v) (q : Nat) (g : Fld) : ({ s with clock := v } : State).get q g = s.get q g :=
  State.get_congr (s := s) (t := { s with clock := v }) rfl q g
@[simp] theorem State.get_with_freeCtr (v) (q : Nat) (g : Fld) : ({ s with freeCtr := v } : State).get q g = s.get q g :=
  State.get_congr (s := s) (t := { s with freeCtr := v }) rfl q g
@[simp] theorem State.get_with_sets (v) (q : Nat) (g : Fld) : ({ s with sets := v } : State).get q g = s.get q g :=
  State.get_congr (s := s) (t := { s with sets := v }) rfl q g
@[simp] theorem State.get_with_result (v) (q : Nat) (g : Fld) : ({ s with result := v } : State).get q g = s.get q g :=
  State.get_congr (s := s) (t := { s with result := v }) rfl q g
@[simp] theorem State.get_with_latch (v) (q : Nat) (g : Fld) : ({ s with latch := v } : State).get q g = s.get q g :=
  State.get_congr (s := s) (t := { s with latch := v }) rfl q g
@[simp] theorem State.get_with_shadow (v) (q : Nat) (g : Fld) : ({ s with shadow := v } : State).get q g = s.get q g :=
  State.get_congr (s := s) (t := { s with shadow := v }) rfl q g
@[simp] theorem State.get_with_mem (v) (q : Nat) (g : Fld) : ({ s with mem := v } : State).get q g = s.get q g :=
  State.get_congr (s := s) (t := { s with mem := v }) rfl q g
@[simp] theorem State.get_with_pwr (v) (q : Nat) (g : Fld) : ({ s with pwr := v } : State).get q g = s.get q g :=
  State.get_congr (s := s) (t := { s with pwr := v }) rfl q g
@[simp] theorem State.get_with_page (v) (q : Nat) (g : Fld) : ({ s with page := v } : State).get q g = s.get q g :=
  State.get_congr (s := s) (t := { s with page := v }) rfl q g
@[simp] theorem State.get_with_datum (v) (q : Nat) (g : Fld) : ({ s with datum := v } : State).get q g = s.get q g :=
  State.get_congr (s := s) (t := { s with datum := v }) rfl q g
@[simp] theorem State.get_with_stamps (v) (q : Nat) (g : Fld) : ({ s with stamps := v } : State).get q g = s.get q g :=
  State.get_congr (s := s) (t := { s with stamps := v }) rfl q g
@[simp] theorem State.get_with_ports (v) (q : Nat) (g : Fld) : ({ s with ports := v } : State).get q g = s.get q g :=
  State.get_congr (s := s) (t := { s with ports := v }) rfl q g
@[simp] theorem State.get_with_sw (v) (q : Nat) (g : Fld) : ({ s with sw := v } : State).get q g = s.get q g :=
  State.get_congr (s := s) (t := { s with sw := v }) rfl q g
@[simp] theorem State.get_with_book (v) (q : Nat) (g : Fld) : ({ s with book := v } : State).get q g = s.get q g :=
  State.get_congr (s := s) (t := { s with book := v }) rfl q g
@[simp] theorem State.get_with_bridge (v) (q : Nat) (g : Fld) : ({ s with bridge := v } : State).get q g = s.get q g :=
  State.get_congr (s := s) (t := { s with bridge := v }) rfl q g
@[simp] theorem State.get_with_dup (v) (q : Nat) (g : Fld) : ({ s with dup := v } : State).get q g = s.get q g :=
  State.get_congr (s := s) (t := { s with dup := v }) rfl q g
@[simp] theorem State.get_with_gang (v) (q : Nat) (g : Fld) : ({ s with gang := v } : State).get q g = s.get q g :=
  State.get_congr (s := s) (t := { s with gang := v }) rfl q g
@[simp] theorem State.get_with_cal (v) (q : Nat) (g : Fld) : ({ s with cal := v } : State).get q g = s.get q g :=
  State.get_congr (s := s) (t := { s with cal := v }) rfl q g
@[simp] theorem State.get_with_cycle (v) (q : Nat) (g : Fld) : ({ s with cycle := v } : State).get q g = s.get q g :=
  State.get_congr (s := s) (t := { s with cycle := v }) rfl q g
@[simp] theorem State.get_with_plat (v) (q : Nat) (g : Fld) : ({ s with plat := v } : State).get q g = s.get q g :=
  State.get_congr (s := s) (t := { s with plat := v }) rfl q g
@[simp] theorem State.get_with_mscl (v) (q : Nat) (g : Fld) : ({ s with mscl := v } : State).get q g = s.get q g :=
  State.get_congr (s := s) (t := { s with mscl := v }) rfl q g
@[simp] theorem State.get_with_pins (v) (q : Nat) (g : Fld) : ({ s with pins := v } : State).get q g = s.get q g :=
  State.get_congr (s := s) (t := { s with pins := v }) rfl q g
@[simp] theorem State.get_with_engs (v) (q : Nat) (g : Fld) : ({ s with engs := v } : State).get q g = s.get q g :=
  State.get_congr (s := s) (t := { s with engs := v }) rfl q g
@[simp] theorem State.get_with_crews (v) (q : Nat) (g : Fld) : ({ s with crews := v } : State).get q g = s.get q g :=
  State.get_congr (s := s) (t := { s with crews := v }) rfl q g
@[simp] theorem State.get_with_edges (v) (q : Nat) (g : Fld) : ({ s with edges := v } : State).get q g = s.get q g :=
  State.get_congr (s := s) (t := { s with edges := v }) rfl q g
@[simp] theorem State.get_with_cans (v) (q : Nat) (g : Fld) : ({ s with cans := v } : State).get q g = s.get q g :=
  State.get_congr (s := s) (t := { s with cans := v }) rfl q g
@[simp] theorem State.get_with_stake (v) (q : Nat) (g : Fld) : ({ s with stake := v } : State).get q g = s.get q g :=
  State.get_congr (s := s) (t := { s with stake := v }) rfl q g
@[simp] theorem State.get_with_supply (v) (q : Nat) (g : Fld) : ({ s with supply := v } : State).get q g = s.get q g :=
  State.get_congr (s := s) (t := { s with supply := v }) rfl q g
@[simp] theorem State.get_with_slots (v) (q : Nat) (g : Fld) : ({ s with slots := v } : State).get q g = s.get q g :=
  State.get_congr (s := s) (t := { s with slots := v }) rfl q g
@[simp] theorem State.get_with_tally (v) (q : Nat) (g : Fld) : ({ s with tally := v } : State).get q g = s.get q g :=
  State.get_congr (s := s) (t := { s with tally := v }) rfl q g
@[simp] theorem State.get_with_mon (v) (q : Nat) (g : Fld) : ({ s with mon := v } : State).get q g = s.get q g :=
  State.get_congr (s := s) (t := { s with mon := v }) rfl q g
@[simp] theorem State.get_with_boot (v) (q : Nat) (g : Fld) : ({ s with boot := v } : State).get q g = s.get q g :=
  State.get_congr (s := s) (t := { s with boot := v }) rfl q g
@[simp] theorem State.get_with_rst (v) (q : Nat) (g : Fld) : ({ s with rst := v } : State).get q g = s.get q g :=
  State.get_congr (s := s) (t := { s with rst := v }) rfl q g

/-! Memory and units. -/

theorem State.ldb_stb (a b : Nat) (v : Byte) : (s.stb a v).ldb b = if b = a then v else s.ldb b := tabGet_tabPut _ _ _ _ _

theorem State.port_setPort (n m : Nat) (v : PortSt) : (s.setPort n v).port m = if m = n then v else s.port m := tabGet_tabPut _ _ _ _ _
@[simp] theorem State.port_setPort_same (n : Nat) (v : PortSt) : (s.setPort n v).port n = v := by simp [State.port_setPort]
@[simp] theorem State.port_set (n p : Nat) (f : Fld) (v : Nat) : (s.set p f v).port n = s.port n := by simp [State.port]
@[simp] theorem State.port_advance (n t : Nat) : (s.advance t).port n = s.port n := rfl
@[simp] theorem State.port_nextFree (n : Nat) : s.nextFree.port n = s.port n := rfl
theorem State.pin_setPin (n m : Nat) (v : PinSt) : (s.setPin n v).pin m = if m = n then v else s.pin m := tabGet_tabPut _ _ _ _ _
@[simp] theorem State.pin_setPin_same (n : Nat) (v : PinSt) : (s.setPin n v).pin n = v := by simp [State.pin_setPin]
@[simp] theorem State.pin_set (n p : Nat) (f : Fld) (v : Nat) : (s.set p f v).pin n = s.pin n := by simp [State.pin]
@[simp] theorem State.pin_advance (n t : Nat) : (s.advance t).pin n = s.pin n := rfl
@[simp] theorem State.pin_nextFree (n : Nat) : s.nextFree.pin n = s.pin n := rfl
theorem State.eng_setEng (n m : Nat) (v : EngSt) : (s.setEng n v).eng m = if m = n then v else s.eng m := tabGet_tabPut _ _ _ _ _
@[simp] theorem State.eng_setEng_same (n : Nat) (v : EngSt) : (s.setEng n v).eng n = v := by simp [State.eng_setEng]
@[simp] theorem State.eng_set (n p : Nat) (f : Fld) (v : Nat) : (s.set p f v).eng n = s.eng n := by simp [State.eng]
@[simp] theorem State.eng_advance (n t : Nat) : (s.advance t).eng n = s.eng n := rfl
@[simp] theorem State.eng_nextFree (n : Nat) : s.nextFree.eng n = s.eng n := rfl
theorem State.crew_setCrew (n m : Nat) (v : CrewSt) : (s.setCrew n v).crew m = if m = n then v else s.crew m := tabGet_tabPut _ _ _ _ _
@[simp] theorem State.crew_setCrew_same (n : Nat) (v : CrewSt) : (s.setCrew n v).crew n = v := by simp [State.crew_setCrew]
@[simp] theorem State.crew_set (n p : Nat) (f : Fld) (v : Nat) : (s.set p f v).crew n = s.crew n := by simp [State.crew]
@[simp] theorem State.crew_advance (n t : Nat) : (s.advance t).crew n = s.crew n := rfl
@[simp] theorem State.crew_nextFree (n : Nat) : s.nextFree.crew n = s.crew n := rfl
theorem State.edge_setEdge (n m : Nat) (v : EdgeSt) : (s.setEdge n v).edge m = if m = n then v else s.edge m := tabGet_tabPut _ _ _ _ _
@[simp] theorem State.edge_setEdge_same (n : Nat) (v : EdgeSt) : (s.setEdge n v).edge n = v := by simp [State.edge_setEdge]
@[simp] theorem State.edge_set (n p : Nat) (f : Fld) (v : Nat) : (s.set p f v).edge n = s.edge n := by simp [State.edge]
@[simp] theorem State.edge_advance (n t : Nat) : (s.advance t).edge n = s.edge n := rfl
@[simp] theorem State.edge_nextFree (n : Nat) : s.nextFree.edge n = s.edge n := rfl
theorem State.can_setCan (n m : Nat) (v : CanSt) : (s.setCan n v).can m = if m = n then v else s.can m := tabGet_tabPut _ _ _ _ _
@[simp] theorem State.can_setCan_same (n : Nat) (v : CanSt) : (s.setCan n v).can n = v := by simp [State.can_setCan]
@[simp] theorem State.can_set (n p : Nat) (f : Fld) (v : Nat) : (s.set p f v).can n = s.can n := by simp [State.can]
@[simp] theorem State.can_advance (n t : Nat) : (s.advance t).can n = s.can n := rfl
@[simp] theorem State.can_nextFree (n : Nat) : s.nextFree.can n = s.can n := rfl
theorem State.slot_setSlot (n m : Nat) (v : SlotSt) : (s.setSlot n v).slot m = if m = n then v else s.slot m := tabGet_tabPut _ _ _ _ _
@[simp] theorem State.slot_setSlot_same (n : Nat) (v : SlotSt) : (s.setSlot n v).slot n = v := by simp [State.slot_setSlot]
@[simp] theorem State.slot_set (n p : Nat) (f : Fld) (v : Nat) : (s.set p f v).slot n = s.slot n := by simp [State.slot]
@[simp] theorem State.slot_advance (n t : Nat) : (s.advance t).slot n = s.slot n := rfl
@[simp] theorem State.slot_nextFree (n : Nat) : s.nextFree.slot n = s.slot n := rfl

end Sys2Proof.Machine
end

