-- ==== Sys2Proof/Laws/Spec.lean ====
section
/-!
SUPPORT. What the shared operations of the chapters do where their guard holds: a write that the register pages accept is its effect,
an event with the core die on is its effect, and a field reads back as it was written.
-/

open Sys2Proof Sys2Proof.Machine Sys2Proof.Laws

namespace Sys2Proof.Machine
theorem State.regWrite_accepts {s : State} {p off mask data : Nat} {src : Source} {eff : State → State} (h : s.accepts p = true) :
    s.regWrite p off mask data src eff = eff s := by
  simp only [State.accepts, State.reaches, Bool.and_eq_true, Bool.or_eq_true, Bool.not_eq_true', decide_eq_true_eq] at h
  obtain ⟨⟨⟨⟨h1, h2⟩, h3⟩, h4⟩, h5⟩ := h
  unfold State.regWrite
  rw [if_neg (by simp [h1]), if_neg, if_neg, if_neg (by rw [h4]; decide), if_neg (by simp [h5])]
  · rcases h3 with h3 | h3 <;> simp [h3]
  · rcases h2 with h2 | h2
    · simp [h2]
    · simp; intro h; omega
theorem State.bitWrite_accepts {s : State} {p : Nat} {f : Fld} {eff : State → State} (h : s.accepts p = true) :
    s.bitWrite p f eff = eff s := State.regWrite_accepts h
theorem State.fldWrite_accepts {s : State} {p : Nat} {f : Fld} {v : Nat} {eff : State → State} (h : s.accepts p = true) :
    s.fldWrite p f v eff = eff s := State.regWrite_accepts h
theorem State.whenOn_on {s : State} {f : State → State} (h : s.coreOn = true) : s.whenOn f = f s := by simp [State.whenOn, h]
theorem State.get_set_eq {s : State} {p v q : Nat} {f : Fld} (h : q = p) (hf : f.fits = true) : (s.set p f v).get q f = v % 2 ^ f.w := by
  subst h; exact State.get_set_same _ _ _ _ hf
end Sys2Proof.Machine
end

