-- ==== Sys2Proof/Machine/Balls.lean ====
section
/-!
DEFINITION. Which signal each of the 1,296 balls carries (R530–R536). A ball is named by the index of its row, 0 to 35, and its
column, 1 to 36.
-/

namespace Sys2Proof.Machine

/-- Row letters, by index (R531). -/
def ballRows : List String :=
  ["A", "B", "C", "D", "E", "F", "G", "H", "J", "K", "L", "M", "N", "P", "T", "U", "V", "W", "Y", "AA", "AB", "AC", "AD",
    "AE", "AF", "AG", "AH", "AJ", "AK", "AL", "AM", "AN", "AP", "AT", "AU", "AV"]

/-- What a ball carries. A SerDes lane is numbered 0–21 for the frame ports and 22, 23 for PCIe lanes 0 and 1. -/
inductive BallUse where
  | lane (n : Nat) (tx p : Bool)
  | pin (p : Nat)
  | vddio (b : Nat)
  | rail (name : String)
  | signal (name : String)
  | nc
  | vss
  deriving DecidableEq, Repr

/-- Single signals in the rows A to AA (R535): row index, column, name. -/
def coreSignals : List (Nat × Nat × String) :=
  [(1, 35, "REFCLK_P"), (1, 36, "REFCLK_N"), (3, 35, "PCIE_REFCLK_P"), (3, 36, "PCIE_REFCLK_N"), (5, 1, "PCIE_PERST_N"),
    (5, 36, "TCXO_IN"), (5, 35, "PPS_IN"), (7, 35, "PPS_OUT"), (7, 36, "QSPI_CLK"), (9, 36, "QSPI_CS_N"),
    (9, 35, "QSPI_IO0"), (11, 36, "QSPI_IO1"), (11, 35, "QSPI_IO2"), (13, 36, "QSPI_IO3"), (13, 35, "RST_N"),
    (15, 36, "IRQ_N"), (5, 34, "NID0"), (7, 34, "NID1"), (9, 34, "NID2"), (11, 34, "NID3"), (13, 34, "NID4"),
    (15, 34, "NID5"), (17, 34, "NID6"), (17, 36, "ROLE0"), (17, 35, "ROLE1"), (18, 36, "ROLE2"), (18, 35, "BOOT0"),
    (19, 36, "BOOT1"), (4, 1, "TCK"), (4, 2, "TMS"), (4, 3, "TDI"), (4, 4, "TDO"), (4, 5, "TRST_N"), (4, 6, "TEST_EN")]

/-- Single signals and supplies of the guard die (R535). -/
def guardSignals : List (Nat × Nat × String) :=
  [(24, 22, "PG_CORE"), (24, 23, "PFW_N"), (26, 22, "HUP_SENSE"), (26, 23, "HUP_LOAD"), (27, 24, "VGREG"),
    (29, 24, "TAMP0"), (29, 25, "TAMP1"), (29, 26, "TAMP2"), (29, 27, "TAMP3"), (29, 28, "MESH_OUT"), (29, 29, "MESH_IN"),
    (31, 24, "VBAT"), (31, 25, "VKEEP"), (31, 27, "XKEEP_IN"), (31, 28, "XKEEP_OUT"), (35, 29, "VGIN"),
    (35, 30, "VOR_SENSE"), (35, 32, "VIN_B"), (35, 33, "VINB_GATE"), (35, 35, "VIN_A"), (35, 36, "VINA_GATE")]

/-- The name of a single signal at a ball, where the list has one. -/
def signalAt (l : List (Nat × Nat × String)) (r c : Nat) : BallUse :=
  match l.find? (fun e => e.1 == r && e.2.1 == c) with
  | some e => .signal e.2.2
  | none => .vss

/-- The supply of a column of the power field (R536). -/
def railOf (c : Nat) : String :=
  if c ≤ 11 then "VSDH" else if c ≤ 16 then "VSDL" else if c ≤ 26 then "VCORE" else if c ≤ 29 then "VSRAM"
  else if c ≤ 31 then "VAUX" else "VIO33"

/-- Signals of a slot channel, from column 30 on (R535). -/
def slotSignals : List String := ["SLOT_ON", "SLOT_PRES_N", "SLOT_PG", "SLOT_VOUT", "SLOT_ISN", "SLOT_ISP", "SLOT_GATE"]

/-- Rows A to AA: SerDes lanes, power field and core-die signals (R533, R535, R536). -/
def upperBall (r c : Nat) : BallUse :=
  if (r = 1 ∨ r = 3) ∧ 3 ≤ c ∧ c ≤ 34 then .lane ((c - 3) / 2) (r == 1) (c % 2 == 1)
  else if 5 ≤ r ∧ r % 2 = 1 ∧ (c = 2 ∨ c = 3 ∨ c = 5 ∨ c = 6) then .lane (16 + (r - 5) / 2) (decide (c ≤ 3)) (c == 2 || c == 5)
  else if 5 ≤ r ∧ 8 ≤ c ∧ c ≤ 33 then (if (r + c) % 2 = 0 then .vss else .rail (railOf c))
  else signalAt coreSignals r c

/-- Rows AB to AV: general pins, VDDIO and the guard die (R534, R535). -/
def lowerBall (r c : Nat) : BallUse :=
  let b := (r - 20) / 2
  if c ≤ 16 then .pin (32 * b + 2 * (c - 1) + (r - 20) % 2)
  else if c ≤ 18 then .vddio b
  else if r = 33 ∧ 31 ≤ c ∨ r = 35 ∧ (c = 31 ∨ c = 34) then .nc
  else if (r = 20 ∨ r = 21) ∧ 24 ≤ c ∧ c ≤ 29 then .signal ((if r = 20 then "RAIL_EN" else "RAIL_SNS") ++ toString (c - 24))
  else if r % 2 = 0 ∧ 30 ≤ c then .signal (slotSignals.getD (c - 30) "" ++ toString b)
  else signalAt guardSignals r c

/-- What the ball at row index `r`, column `c` carries (R532). -/
def ballUse (r c : Nat) : BallUse := if r < 20 then upperBall r c else lowerBall r c

/-- The name of a ball (R531). -/
def ballName (r c : Nat) : String := ballRows.getD r "" ++ toString c

/-- Every ball of the package, by row index and column (R530). -/
def allBalls : List (Nat × Nat) := (List.range 36).flatMap (fun r => (List.range 36).map (fun c => (r, c + 1)))

end Sys2Proof.Machine
end

