-- ==== Sys2Proof/Tests/Slice0.lean ====
section
/-!
SUPPORT. Tests of the model: ill-formed commands are refused, a few values worked out from the rules, and for every statement with
hypotheses a concrete state and operands that meet them.
-/

set_option Elab.async false

namespace Sys2Proof.Tests

open Sys2Proof.Machine

/-! Well-formedness: a term that breaks one check each, and the check refuses it. -/

def goodFr : Frame := { dst := 0, src := 0, vlan := none, hsr := none, sec := none, etype := 0, body := [] }
def badFr : Frame := { goodFr with dst := 2 ^ 48 }
def goodTr : Trans := { tseq := 0, op := 0, status := 0, mask := 0, tag := 0, addr := 0, data := List.replicate 8 0 }
def badTr : Trans := { goodTr with tseq := 2 ^ 16 }
def goodRec : CycRecord :=
  { cycle := 0, tc := 0, len := 0, firstSeq := 0, levels := 0, oes := 0, staging := [], engines := [], stakes := [], cans := [],
    book := [], tally := List.replicate 64 0 }
def anyEng : EngImage := ⟨0, 0, 0, 0, 0, 0, 0, 0, 0, 0, 0, 0, 0, [], [], 0, 0, 0, 0⟩

theorem test_wf_good : (goodFr.wf && goodTr.wf && goodRec.wf) = true := by decide +kernel

theorem test_wf_frames : ([badFr, { goodFr with src := 2 ^ 48 }, { goodFr with etype := 2 ^ 16 }, { goodFr with vlan := some (2 ^ 16) },
    { goodFr with hsr := some ⟨16, 0, 0⟩ }, { goodFr with hsr := some ⟨0, 4096, 0⟩ }, { goodFr with hsr := some ⟨0, 0, 2 ^ 16⟩ }] :
    List Frame).all (fun f => !f.wf) = true := by decide +kernel

theorem test_wf_transactions : ([badTr, { goodTr with status := 256 }, { goodTr with mask := 256 }, { goodTr with tag := 2 ^ 16 },
    { goodTr with addr := 2 ^ 48 }, { goodTr with addr := 4 }, { goodTr with data := [] }] : List Trans).all (fun f => !f.wf) = true := by
  decide +kernel

theorem test_wf_records : ([{ goodRec with cycle := 2 ^ 32 }, { goodRec with tc := 2 ^ 64 },
    { goodRec with engines := List.replicate 65 anyEng }, { goodRec with cans := List.replicate 17 ⟨0, [], 0, 0, 0, none⟩ },
    { goodRec with stakes := List.replicate 257 (List.replicate 40 0) }, { goodRec with stakes := [[]] }, { goodRec with book := [[]] },
    { goodRec with tally := [] }] : List CycRecord).all (fun f => !f.wf) = true := by decide +kernel

theorem test_wf_rest : ([.stakeCancelArrival 0 [], .stakeCancelArrival 0 (List.replicate 32 0),
    .portRxFrame 0 22 goodFr ⟨false, false, true, ⟨0, []⟩⟩,
    .portRxFrame 0 0 badFr ⟨false, false, true, ⟨0, []⟩⟩,
    .enableCheckEnd 0 ⟨2 ^ 14, false, true⟩, .pinTransition 0 256 ⟨0, false⟩, .probeRx 0 22 0 0 ⟨goodFr, ⟨0, []⟩⟩,
    .probeRx 0 0 0 0 ⟨badFr, ⟨0, []⟩⟩, .portTxStart 0 ⟨22, ⟨0, []⟩⟩, .cycleRecordApply 0 { goodRec with tally := [] }, .backsightNoticeRx 0 [],
    .backsightNoticeRx 0 (List.replicate 17 0), .backsightNoticeRx 0 (List.replicate 272 0)] : List Instr).all (fun i => !i.wf) = true := by
  decide +kernel

theorem test_wf_refuses1 : ([
  .guardEventLineToggle 0 12,
  .guardEventLineCapture 0 12,
  .registerWrite 0 (2 ^ 14) 0 0 .host,
  .registerWrite 0 0 4096 0 .host,
  .pageEnable 0 (2 ^ 14) 0,
  .pageStop 0 (2 ^ 14) 0,
  .pageStopDone 0 (2 ^ 14),
  .pageHoldSet 0 (2 ^ 14),
  .pageHeldReached 0 (2 ^ 14),
  .pageHoldClear 0 (2 ^ 14),
  .pageClr 0 (2 ^ 14),
  .pageClrDone 0 (2 ^ 14),
  .pageLock 0 (2 ^ 14) 0,
  .pevtClear 0 (2 ^ 14) 0,
  .pevtForce 0 (2 ^ 14) 0,
  .pevmWrite 0 (2 ^ 14) 0,
  .blockFault 0 (2 ^ 14),
  .irqSummaryArrive 0 (2 ^ 14),
  .noticeRepeat 8,
  .irqRearm 0 256,
  .msixUnmask 0 32,
  .pdelayWrite 0 22 0,
  .platOwnSent 0 22,
  .platFrameRx 0 22 0 goodFr,
  .platFrameRx 0 0 0 badFr,
  .platOutputWrite 0 (2 ^ 48) [] .host,
  .platOutputWrite 0 0 (List.replicate 9 0) .host,
  .gangFeedRx 0 4 [],
  .stakeArrival 0 [],
  .stakeCancelArrival 0 [],
  .receiptRx 0 128 0 (List.replicate 24 0),
  .receiptRx 0 0 4 (List.replicate 24 0),
  .receiptRx 0 0 0 [],
  .instrWaitt 64,
  .waittComplete 64,
  .instrWaitp 64,
  .waitpComplete 0 64,
  .instrDly 64,
  .dlyComplete 64,
  .instrCnt 64,
  .cntComplete 0 64,
  .instrJmp 64,
  .instrMov 64,
  .instrSet 64,
  .instrOut 64] : List Instr).all (fun i => !i.wf) = true := by decide +kernel

theorem test_wf_refuses2 : ([
  .instrIn 64,
  .instrPull 64,
  .instrPush 64,
  .instrStamp 64,
  .instrNote 64,
  .undefinedInstruction 64,
  .instrDelayEnd 64,
  .engineStallEnd 64,
  .engTxfWrite 0 64 0,
  .engRxfPop 0 64,
  .engJump 0 64 0,
  .engJump 0 0 256,
  .engSnap 0 64,
  .crewSwapGo 0 16,
  .crewGoEng 0 16 0,
  .crewGoEng 0 0 16,
  .crewFlagset 0 16 0,
  .crewFlagset 0 0 (2 ^ 32),
  .pinmuxSwdataWrite 0 4 0 0,
  .pinmuxSwdataWrite 0 0 4096 0,
  .glitchWindowExpire 256,
  .debounceWindowClose 256,
  .chatterWindowClose 256,
  .chatterQuietEnd 256,
  .stuckTimerExpire 256,
  .canTxStart 0 16 0,
  .canTxDone 0 16 0,
  .canArbLost 0 16,
  .canTxError 0 16 0 false false false 0 0 none,
  .canTxError 0 0 8 false false false 0 0 none,
  .canRecover 0 16,
  .canRxFrame 0 16 0 0 0 false false [],
  .canRxFrame 0 0 0 (2 ^ 32) 0 false false [],
  .canRxFrame 0 0 0 0 16 false false [],
  .canRxFrame 0 0 0 0 0 false false (List.replicate 65 0),
  .canTxreq 0 16 0,
  .canTxreq 0 0 8,
  .canTxabort 0 16 0,
  .canTxabort 0 0 8,
  .canRxack 0 16 0,
  .canRxack 0 0 (2 ^ 16),
  .canRefDue 16,
  .canSynced 0 16,
  .linkDown 0 22,
  .linkUp 0 22 0] : List Instr).all (fun i => !i.wf) = true := by decide +kernel

theorem test_wf_refuses3 : ([
  .linkUp 0 0 4,
  .linkFallbackToggle 22,
  .gclEntryChange 22,
  .gclSwapWrite 0 22,
  .gclSwapApply 22,
  .pauseSend 0 22,
  .pauseRepeat 22,
  .pauseRx 0 22 0,
  .pauseRx 0 0 (2 ^ 16),
  .pauseExpire 22,
  .holdWindowClose 22,
  .pcsLockLoss 0 22,
  .portSnap 0 22 false,
  .fdbAgeExpire 8192,
  .fdbRead 0 (2 ^ 16),
  .fdbCmdReserved 0 256,
  .bufmemFailBank 0 9,
  .bufmemRebuild 0 9,
  .macsecSaInstall 0 7 0 0,
  .macsecSaInstall 0 0 4 0,
  .macsecSaInstall 0 0 0 (2 ^ 16),
  .macsecSaInstallDone 0 7 0,
  .macsecSaInstallDone 0 0 4,
  .macsecTxAnWrite 0 7 0,
  .macsecTxAnWrite 0 0 4,
  .macsecTxAnApply 0 7,
  .hostBar2Read 0 (2 ^ 32) 0 0,
  .hostBar2Read 0 0 4097 0,
  .hostBar2Read 0 0 0 (2 ^ 16),
  .hostBar2Write 0 (2 ^ 32) [],
  .hostBar2Write 0 0 (List.replicate 4097 none),
  .mgmtRead 0 22 0 0 goodTr,
  .mgmtRead 0 0 128 0 goodTr,
  .mgmtRead 0 0 0 4 goodTr,
  .mgmtRead 0 0 0 0 badTr,
  .mgmtPostedWrite 0 22 0 0 goodTr,
  .mgmtPostedWrite 0 0 128 0 goodTr,
  .mgmtPostedWrite 0 0 0 4 goodTr,
  .mgmtPostedWrite 0 0 0 0 badTr,
  .mgmtNpWrite 0 22 0 0 goodTr,
  .mgmtNpWrite 0 0 128 0 goodTr,
  .mgmtNpWrite 0 0 0 4 goodTr,
  .mgmtNpWrite 0 0 0 0 badTr,
  .mgmtWriteAck 0 badTr,
  .mgmtReadCompletion 0 badTr] : List Instr).all (fun i => !i.wf) = true := by decide +kernel

theorem test_wf_refuses4 : ([
  .ordWaitExpire 128 0,
  .ordWaitExpire 0 4,
  .npTimeout (2 ^ 16),
  .noticeLateErrorSend 128 0,
  .noticeLateErrorSend 0 4,
  .noticeLateErrorRx 0 128 0 [],
  .noticeLateErrorRx 0 0 4 [],
  .noticeGroupRx 0 128 0 0 (List.replicate 8 0),
  .noticeGroupRx 0 0 4 0 (List.replicate 8 0),
  .noticeGroupRx 0 0 0 8 (List.replicate 8 0),
  .noticeGroupRx 0 0 0 0 [],
  .noticeLastGaspRx 0 128 0 [],
  .noticeLastGaspRx 0 0 4 [],
  .hostTxTail 0 (2 ^ 32),
  .hostTxSlotRead 0 [] (List.replicate 4080 0),
  .hostTxSlotRead 0 (List.replicate 16 0) [],
  .leaseOpen 0 128 0,
  .leaseOpen 0 0 4,
  .leaseChallenge 0 128 0 (List.replicate 32 0),
  .leaseChallenge 0 0 4 (List.replicate 32 0),
  .leaseChallenge 0 0 0 [],
  .leaseProof 0 128 0 (List.replicate 48 0),
  .leaseProof 0 0 4 (List.replicate 48 0),
  .leaseProof 0 0 0 [],
  .leaseGrant 0 128 0 0 (List.replicate 32 0),
  .leaseGrant 0 0 4 0 (List.replicate 32 0),
  .leaseGrant 0 0 0 (2 ^ 32) (List.replicate 32 0),
  .leaseGrant 0 0 0 0 [],
  .leaseRenew 0 128 0 (List.replicate 48 0),
  .leaseRenew 0 0 4 (List.replicate 48 0),
  .leaseRenew 0 0 0 [],
  .leaseRelease 0 128 0,
  .leaseRelease 0 0 4,
  .leaseRefuse 0 128 0 0,
  .leaseRefuse 0 0 4 0,
  .leaseRefuse 0 0 0 256,
  .backsightStatusRx 0 2 (List.replicate 32 0),
  .backsightStatusRx 0 0 [],
  .backsightNoticeRx 0 (List.replicate 257 0),
  .dualClaimStatusRx 0 [],
  .gangHelloRx 0 22 0 [],
  .gangHelloRx 0 0 4 [],
  .gangTimeRx 0 22 0 0 [],
  .gangTimeRx 0 0 4 0 [],
  .gangStateRx 0 4 (List.replicate 8 0)] : List Instr).all (fun i => !i.wf) = true := by decide +kernel

theorem test_wf_refuses5 : ([
  .gangStateRx 0 0 [],
  .inputInvalid 0 2 false false 0 0 0 0,
  .inputInvalid 0 0 false false (2 ^ 16) 0 0 0,
  .inputInvalid 0 0 false false 0 (2 ^ 16) 0 0,
  .inputInvalid 0 0 false false 0 0 (2 ^ 16) 0,
  .inputValid 0 2 0 0 0,
  .inputValid 0 0 (2 ^ 16) 0 0,
  .inputValid 0 0 0 (2 ^ 16) 0,
  .mainReturn (2 ^ 16) 0,
  .mainReturn 0 (2 ^ 16),
  .supplyReturnPref (2 ^ 16) 0 0,
  .supplyReturnPref 0 (2 ^ 16) 0,
  .reverseComparator 0 2 false,
  .railFault 0 256 false,
  .slotFastTrip 0 8 0,
  .slotFastTrip 0 0 (2 ^ 16),
  .slotFaultTimerExpire 0 8 0,
  .slotFaultTimerExpire 0 0 (2 ^ 16),
  .slotLimitTimerClear 0 8,
  .slotStartTimeout 8 0,
  .slotStartTimeout 0 (2 ^ 16),
  .slotPgRise 0 8 false 0,
  .slotPgRise 0 0 false (2 ^ 16),
  .slotPgFall 0 8 0,
  .slotPgFall 0 0 (2 ^ 16),
  .slotCoolEnd 8,
  .slotInsertRemainderEnd 8,
  .slotRemoval 0 8 0,
  .slotRemoval 0 0 (2 ^ 16),
  .slotInsertion 0 8,
  .slotOnPinChange 0 8 false 0,
  .slotOnPinChange 0 0 false (2 ^ 16),
  .monumentOpReserved 0 256,
  .tamperDetect 0 (2 ^ 32),
  .hmonSample 0 8 0,
  .hmonSnap 0 8 false false,
  .corePorRelease 0 128 0 0,
  .corePorRelease 0 0 8 0,
  .corePorRelease 0 0 0 4,
  .rstNRelease 0 128 0 0,
  .rstNRelease 0 0 8 0,
  .rstNRelease 0 0 0 4,
  .domainReset 0 (2 ^ 32),
  .domainResetDone 0 (2 ^ 32),
  .canReceiveError 0 16 0 0 0] : List Instr).all (fun i => !i.wf) = true := by decide +kernel

theorem test_wf_refuses6 : ([
  .canReceiveError 0 0 16 0 0,
  .stallLong 64,
  .swapAbandon 64,
  .tamperSourceInactive 0 (2 ^ 32),
  .vddioBankChange 0 8 false false] : List Instr).all (fun i => !i.wf) = true := by decide +kernel

/-! Values worked out by hand from the rules. -/

/-- The published check value of CRC-32C over the digits 1 to 9 (R66 names initial value and final XOR). -/
theorem test_crc32c_check : crc32c [0x31, 0x32, 0x33, 0x34, 0x35, 0x36, 0x37, 0x38, 0x39] = 0xE3069283 := by decide +kernel

/-- R133: 23 units take two frames, the second with one unit. -/
theorem test_parcel_frames : frameCount 22 = 1 ∧ frameCount 23 = 2 ∧ frameUnits 23 0 = 22 ∧ frameUnits 23 1 = 1 := by decide

/-- R133 at the reset values of CFG (RATE 0, MACSEC 1, VLAN 0): B is 64 · 23 + 2 · 64 + 2 · 32 = 1,664, and 8 · 1,664 / 5 rounds up
to 2,663 hns. -/
theorem test_wire_time : State.reset.wireOf 23 = 2663 := by decide +kernel

/-- R230: a decrement of 0 gives all ones, and ADJ 1 leaves Y. -/
theorem test_jmp_decrement : jmpAdj 1 0 7 = (2 ^ 32 - 1, 7) ∧ jmpAdj 2 7 0 = (7, 2 ^ 32 - 1) := by decide

/-- R195: with a divisor of 2.5 the steps after tick 0 fall on ticks 2 and 5, the first with half a tick left. -/
theorem test_divider : stepFrom 640 0 0 1 = (2, 128) ∧ stepFrom 640 2 128 3 = (5, 0) := by decide

/-- R240: subtraction wraps, reversal exchanges the ends. -/
theorem test_mov : movOp 4 0 1 = 2 ^ 32 - 1 ∧ movOp 2 0 1 = 2 ^ 31 := by decide +kernel

/-- A field's write leaves its neighbours. -/
theorem test_field_put : natPut 0xFFFF 4 4 0x5 = 0xFF5F := by decide

/-- The state after reset lists nothing that an unlisted key reads as. -/
theorem test_reset_canonical : State.reset.Canonical := by unfold State.Canonical; decide

/-- R533, R534: signals that the spec places by name: pins 0, 45, 100 and 255, lane 15 transmit, lane 16 transmit, lane 3 receive. -/
theorem test_balls : ballUse 20 1 = .pin 0 ∧ ballUse 23 7 = .pin 45 ∧ ballUse 26 3 = .pin 100 ∧ ballUse 35 16 = .pin 255 ∧
    ballUse 1 33 = .lane 15 true true ∧ ballUse 5 2 = .lane 16 true true ∧ ballUse 3 10 = .lane 3 false false := by decide +kernel

/-- R532: of the 1,296 balls 586 are VSS. -/
theorem test_balls_vss :
    allBalls.length = 1296 ∧ (allBalls.filter (fun x => ballUse x.1 x.2 == .vss)).length = 586 := by decide +kernel

/-! States that the witnesses stand on. -/

/-- A hub that has booted. -/
def live : State := State.reset.set pSYS F.SYS.BOOTSTS.STAGE 4
/-- A hub that has booted with a page running. -/
def run (l : List Nat) : State := l.foldl (fun s p => s.set p F.HDR.PSTS.RUN 1) live
/-- A Spanen frame with a correct CRC-32C: header of 16 bytes and payload. -/
def spanenFr (h : List Byte) : Frame :=
  { dst := 0, src := 0, vlan := none, hsr := none, sec := none, etype := 0x88B5, body := h ++ beBytes 4 (crc32c h) }
/-- A hub of node 1 in cycle 0 whose parcel has one unit of output, and node 2 with a parcel of two frames. -/
def platSt : State :=
  let q := ((((((run [pCYCLE, pPLAT, pSWITCH, pHSR]).set pSYS F.SYS.STRAP.NID 1).set pCYCLE (slotFld F.CYCLE.SLOT_A.LEN 1) 2).set pCYCLE
    (slotFld F.CYCLE.SLOT_A.OUT_LEN 1) 1).set pCYCLE (slotFld F.CYCLE.SLOT_A.OFS 2) 2).set pCYCLE (slotFld F.CYCLE.SLOT_A.LEN 2) 23)
  { q with cycle := { q.cycle with started := true } }
/-- PLAT frames of node 2: with a foreign digest, and frame 1 of its parcel. -/
def platFr : Frame := { spanenFr [0x11, 0, 4, 0, 0, 0, 0, 0, 0, 0, 0, 1, 0, 0, 0, 1] with hsr := some ⟨0, 0, 9⟩ }
def platFr2 : Frame := { spanenFr ([0x11, 0, 4, 0, 0, 0, 0, 0, 0, 0, 0, 0, 0, 22, 1, 2] ++ List.replicate 64 7) with hsr := some ⟨0, 0, 9⟩ }
/-- A gang member on the ring with members 0 and 1 present. -/
def gangSt : State :=
  ((platSt.set pSYS F.SYS.STRAP.ROLE 4).set pGANGCTL F.GANGCTL.STS.PRESENT 3)
/-- A hub on the ring with both ring links up and MSCL running. -/
def ringSt : State :=
  (run [pMSCL, pSTAMP, pPORT 0, pPORT 1]).set pSYS F.SYS.STRAP.NID 1
/-- The reverse probe of that hub, and the hub with its round under way. -/
def probeFr : Frame := spanenFr ([0x14, 1, 2, 0] ++ List.replicate 44 0)
def rd0 : TxRead := { dev := 0, errs := [] }
def probeSt : State := { ringSt with mscl := { ringSt.mscl with
  round := 0, probes := [⟨4, false, 1, none, none⟩, ⟨4, true, 2, none, none⟩] } }
/-- The same hub with the link of WEST up, a station port up, and a queued frame. -/
def upSt : State := (ringSt.set (pPORT 1) F.PORT.STS.LINK 1).set (pPORT 1) F.PORT.HOLD_WIN.WIN 5
def pauseSt : State :=
  (((run [pPORT 7]).set (pPORT 7) F.PORT.STS.LINK 1).set (pPORT 7) F.PORT.CFG.TX_PAUSE 1).set (pPORT 7) F.PORT.CFG.RX_PAUSE 1
def qfr : QFrame := { port := 1, q := 7, buf := 3, fr := probeFr, stamp := 0, ingress := none, multi := false, tag := none,
                      gateHeld := false, isPlat := false, cells := [0, 1, 2] }
/-- A hub whose FDB holds one learned entry, and names it in KEY. -/
def fdbSt : State :=
  let q := (run [pFDB]).set pFDB F.FDB.KEY_LO.MAC_LO 5
  { q with sw := { q.sw with fdb := [(4 * fdbBucket 5 0, ⟨true, false, false, 5, 0, 9, 0⟩)] } }
/-- A plain frame of 64 bytes. -/
def bigFr : Frame :=
  { dst := 1, src := 2, vlan := none, hsr := none, sec := none, etype := 0x800, body := List.replicate 46 0 }
/-- A class 0 stake of key 7 for pin 3 at T = 900. -/
def stk0 : Stake :=
  { node := 1, member := 0, cls := 0, policy := 0, rcpt := false, cancel := false, srcNode := 0, srcMember := 0, id := 7,
    tRel := 900, validLen := 0, target := 3, value := 1, rsv := false, bcast := false, ins := 0 }
/-- A CAN controller that is synchronised, and the same with an attempt of buffer 1 under way. -/
def canSt : State := (run [pCAN 2]).set (pCAN 2) F.CAN.STS.STATE 0
def canTx : State := (canSt.set (pCAN 2) F.CAN.TXREQ.REQ 2).setCan 2 { CanSt.init with att := some ⟨1, 4, false, false⟩ }
/-- An EDGE page that runs with pin 5 enabled. -/
def edgeSt : State := ((run [pEDGE 0]).set (pEDGE 0) (F.EDGE.PIN.EN.at 20) 1).set (pEDGE 0) F.HDR.PCTL.EN 1
/-- The same with windows of 1 µs and a quiet time of 2 µs. -/
def edgeLk : State := (edgeSt.set (pEDGE 0) F.EDGE.CHAT.W 1).set (pEDGE 0) F.EDGE.QUIET.Q 2
/-- A book that runs with a guard-die record waiting; the same at the end of a discard episode; with an active DMA drain; and
with an active ring drain. -/
def bookSt : State :=
  let q := run [pBOOK]
  { q with book := { q.book with everOn := true, guardQ := [guardRec 0x50 0 3 [1, 2, 3, 4, 5, 6, 7, 8]] } }
def bookEp : State := { bookSt with book := { bookSt.book with episode := some ⟨1, 2, 3, true, 4⟩ } }
def dmaSt : State :=
  (((run [pBOOK, pBRIDGE]).set pBOOK F.BOOK.WR_SEQ.SEQ 3).set pBOOK F.BOOK.DMA_CTL.DMA_EN 1).set pBOOK F.BOOK.DMA_CTL.SIZE 10
def ringBook : State :=
  ((((run [pBOOK, pPORT 0]).set (pPORT 0) F.PORT.STS.LINK 1).set pBOOK F.BOOK.WR_SEQ.SEQ 3).set pBOOK F.BOOK.RING_CTL.RING_EN 1).set
    pBOOK F.BOOK.RING_CTL.BATCH 2
/-- A calibration set that may be programmed. -/
def calSt : State :=
  let q := (live.set pCAL F.HDR.PCTL.EN 1).set pSUPPLY F.SUPPLY.STS.A_VALID 1
  { q with cal := { q.cal with unlock := some 0 } }
/-- A Monument that is ready and holds a MACsec key, with an install under way. -/
def keySt : State :=
  let q := run [pMONUMENT]
  { q.set pMONUMENT F.MONUMENT.STS.COND 0 with
    sw := { q.sw with installs := [⟨1, 2, 0x203⟩] },
    mon := { q.mon with fuse := 4, slots := [(3, { a := some [7], b := none, attr := 0x70000F, commit := commitWord 1 2 1, stage := 0 })] } }
/-- A hub of node 1 whose host has set window 0 to the given word. -/
def winSt (w : Word) : State :=
  let q := ((run [pWINDOWS]).set pSYS F.SYS.STRAP.NID 1).wr pWINDOWS 0x40 w
  { q with bridge := { q.bridge with linkUp := true } }
/-- A bridge that has heard from node 2 and takes its writes. -/
def issSt : State :=
  let q := (run [pBRIDGE]).set pBRIDGE F.BRIDGE.TGT.OPEN_WR 1
  { q with bridge := { q.bridge with issuers := [⟨2, 0, 5, [], 0⟩] } }
/-- Enable checks of FDB and of STAMP under way. -/
def chkSt : State := { live.set 0xA1 F.HDR.PCTL.EN 1 with page := { live.page with checks := [0xA1] } }
def chkSt2 : State := { live.set pSTAMP F.HDR.PCTL.EN 1 with page := { live.page with checks := [pSTAMP] } }
/-- Engine 5 runs and stands before the given word; the state in which it executes it; with OREFILL and a drained OSR; with a
word in its transmit FIFO; in a wait; in a stalled PULL whose word has come; and in a swap. -/
def engAt (w : Nat) : State :=
  ((((run [pCREW 1, pENG 5]).set (pENG 5) F.ENG.DIV.INT 1).set (pENG 5) F.ENG.PINS.OUT_COUNT 2).set (pENG 5) F.ENG.PINS.SET_COUNT 2).set
    (pCREW 1) (F.CREW.IMEM.WORD.at 0) w
def engU (w : Nat) : State :=
  let st := (engAt w).nextStep 5 ((engAt w).eng 5).tick
  ((engAt w).tookStep 5 st).engArrive 5 st.1
def engRefill (w : Nat) : State :=
  let q := (engAt w).set (pENG 5) F.ENG.CFG.OREFILL 1
  q.setEng 5 { q.eng 5 with osc := 32 }
def engFull (w : Nat) : State := (engAt w).setEng 5 { (engAt w).eng 5 with txf := [7] }
def engWait (w : Nat) (k : EngWait) : State :=
  { (engAt w).setEng 5 { (engAt w).eng 5 with wait := k, tick := 8, prev := 8 } with
    pins := (List.range 16).map (fun i => (16 + i, { PinSt.init with ext := some false, hist := [(0, some false)] })) }
def engPull : State := (engFull 0xA0001000).setEng 5 { (engFull 0xA0001000).eng 5 with wait := .stall .pull 0 false }
def engSwap : State := engPull.set (pCREW 1) F.CREW.STS.BUSY 1
def engLate : State := (engAt 0xC0001003).setEng 5 { (engAt 0xC0001003).eng 5 with tick := 4 }
/-- Group 3 is pending through EDGE page 0x69 and routes NOTICE. -/
def grpSt : State :=
  { ((live.set pIRQ (pendFld 0x69) 1).wr pIRQ (0x40 + 4 * 13) (11 * 16)).set pIRQ (F.IRQ.GROUTE.NOTICE_EN.at 12) 1 with
    page := { live.page with repeatAt := [(3, 99, 5)] } }
/-- A hub of a pair on the ring in a state of R395; with a heartbeat heard on lane A; a record; a gang member 0 that runs; a HELLO
of member 1 that matches it; and a bridge with a lease key, the challenge it gave, and a lease. -/
def dupSt (k : Nat) : State :=
  let q := (((run [pDUPLEX, pCYCLE]).set pSYS F.SYS.STRAP.ROLE 1).set pCYCLE F.CYCLE.CYC_LEN.LEN 1000000).set pDUPLEX F.DUPLEX.STS.STATE k
  { q with dup := { q.dup with everOn := true } }
def beatSt (a : Bool) : State := { dupSt 2 with dup := { (dupSt 2).dup with heardA := a } }
def recSt : CycRecord :=
  { cycle := 7, tc := 0, len := 32, firstSeq := 0, levels := 0, oes := 0, staging := [], engines := [], stakes := [], cans := [],
    book := [], tally := [] }
def gangRun : State :=
  (((((run [pGANGCTL, pCYCLE]).set pSYS F.SYS.STRAP.NID 1).set pSYS F.SYS.STRAP.ROLE 4).set pCYCLE F.CYCLE.CYC_LEN.LEN 1000000).set
    pGANGCTL F.GANGCTL.CFG.MEMBERS 3).set pGANGCTL F.GANGCTL.STS.PRESENT 1
def helloOf1 : List Byte :=
  let b := gangRun.helloPayload
  (beBytes 8 77) ++ (slice b 8 1) ++ [1] ++ b.drop 10
def mgrSt : State :=
  { (keySt.set pBRIDGE F.HDR.PSTS.RUN 1).set pBRIDGE F.BRIDGE.LEASE.KEY 0x203 with pending := [] }
def mgrSt2 : State := { mgrSt with bridge := { mgrSt.bridge with challenges := [⟨2, 0, [1, 2, 3], 0⟩] } }
def mgrSt3 : State :=
  let q := (mgrSt.set pBRIDGE F.BRIDGE.MGRSTS.HELD 1).set pBRIDGE F.BRIDGE.MGRSTS.NODE 2
  { q with bridge := { q.bridge with nextChallenge := some ⟨2, 0, [1, 2, 3], 0⟩ } }
/-- A hub in a stage of its start-up; the loader before the given bytes; an image of one EDGE entry; a program of one word for crew
1; and a hub whose core die is held in reset with its rails up. -/
def bootSt (k : Nat) : State := State.reset.set pSYS F.SYS.BOOTSTS.STAGE k
def entSt (l : List Byte) : State := { (bootSt 5).set pSYS F.SYS.STRAP.NID 1 with boot := { (bootSt 5).boot with rest := l } }
def imgOne : List Byte :=
  let b : List Byte := leBytes 4 0x4F584231 ++ [1, 0, 0, 0] ++ leBytes 4 28 ++ leBytes 2 1 ++ [0, 0, 1, 0x69, 4, 0, 1, 0, 0, 0]
  b ++ leBytes 4 (crc32c b)
def progOne : List Byte :=
  let a : List Byte := leBytes 4 0x50584C4F ++ [1, 1, 1, 0] ++ List.replicate 24 0
  let w : List Byte := leBytes 4 7
  a ++ leBytes 4 (crc32c (a ++ w)) ++ w
def heldSt : State := (live.set pSUPPLY F.SUPPLY.STS.PG_CORE 1).coreHold
/-- Slot 2 in a state of R438. -/
def slotSt (k : Nat) : State := (run [pSLOT 2]).setSlotState 2 k
/-- A hub in Keep whose main input is valid, and one with its rails up. -/
def keepSt : State :=
  { live with pwr := { live.pwr with power := .keep, keepMain := true },
              supply := { live.supply with phase := .off, sinceA := some 0, rfAt := none } }
def upRails : State := { live with supply := { live.supply with phase := .up } }
/-- The key of slot 3, the same staged and proven, of TYPE 4, and of USE MKA; the Monument ready in a life-cycle state with inputs of
the given length and ATTR, and a handle of slot 3 as DST, SRC or both. -/
def key3 : KeySlot := { a := some [7], b := none, attr := 0x307C003F, commit := commitWord 1 2 1, stage := 0 }
def key3s : KeySlot := { key3 with b := some [8], stage := 6 }
def key3k : KeySlot := { key3 with attr := 0x40700040 }
def key3m : KeySlot := { key3 with attr := 0x40700040 }
def monSt (fuse len attr : Nat) : State :=
  let q := run [pMONUMENT]
  let r := ((q.set pMONUMENT F.MONUMENT.STS.COND 0).set pMONUMENT F.MONUMENT.LEN.IN len).set pMONUMENT F.MONUMENT.ATTR.ATTR attr
  { r.set pMONUMENT F.MONUMENT.STS.TRNG_OK 1 with mon := { q.mon with fuse := fuse, slots := [(3, key3)] } }
def monDstSt (fuse len attr : Nat) : State := (monSt fuse len attr).set pMONUMENT F.MONUMENT.HANDLE.DST 0x203
def monSrcSt (fuse len attr : Nat) : State := (monSt fuse len attr).set pMONUMENT F.MONUMENT.HANDLE.SRC 0x203
def monBoth (fuse len : Nat) : State := (monDstSt fuse len 0).set pMONUMENT F.MONUMENT.HANDLE.SRC 0x203
def monStage (len : Nat) : State := (monDstSt 3 len 0).setKey 3 key3s
def monTrans : State :=
  (((monSt 2 8 0).set pSUPPLY F.SUPPLY.STS.A_VALID 1).wr pMONUMENT 0x400 3).wr pMONUMENT 0x404 0x4C430001
def mkaSt : State := (monSrcSt 3 16 0x10000002).setKey 3 key3k
/-- A station port whose PAUSE falls due again, and a ring port with a queued frame. -/
def repauseSt : State :=
  ((pauseSt.set (pPORT 7) F.PORT.WM.LWM 0).set (pPORT 7) F.PORT.STS.TX_PAUSING 1).setPort 7 { PortSt.init with txPauseAt := some 9 }
def txqSt : State := { upSt with sw := { upSt.sw with txq := [qfr] } }

/-! Witnesses of the statements' hypotheses. -/

theorem meets_TablesStayCanonical : live.Canonical ∧ ∃ t, step { live with pending := [.stakeFrameSend 8] } = .next t :=
  ⟨by unfold State.Canonical; decide +kernel, _, rfl⟩

theorem meets_LifeCycleNeverGoesBack : live.mon.LifeOk ∧ ∃ t, step { live with pending := [.stakeFrameSend 8] } = .next t :=
  ⟨⟨by decide +kernel, by decide +kernel, fun o h => by simp [show live.mon.op = none from rfl] at h⟩, _, rfl⟩

theorem meets_EveryStepTakesOneCommand : ∃ (c : Instr) (q : List Instr) (s t : State), step { s with pending := c :: q } = .next t :=
  ⟨.stakeFrameSend 8, [], live, _, rfl⟩

theorem meets_AddressErrorCapture :
    (∃ s : State, s.get pSYS F.SYS.AERR_HI.VALID = 0) ∧
    (∃ s : State, s.get pSYS F.SYS.AERR_HI.VALID = 1) ∧
    (∃ (page : Nat) (off : Nat) (src : Source) (s : State), s.coreOn = true ∧ page < 0x1000 ∧ (runOf page = none ∨ rowAt page off = none) ∧ s.bar0Held page src = false ∧ s.bridge.blocked = []) :=
  ⟨⟨live, by decide +kernel⟩,
    ⟨live.set pSYS F.SYS.AERR_HI.VALID 1, by decide +kernel⟩,
    ⟨0x68, 0xFFC, .engine, live, by decide +kernel⟩⟩

theorem meets_LockedPage :
    (∃ (clk : Nat) (page : Nat) (off : Nat) (src : Source) (r : RegRow) (fam : Fam) (u : State) (s : State), page ∈ allPages ∧ rowAt page off = some r ∧ off ≠ 0x0C ∧ off ≠ 0x10 ∧ famOf page = some fam ∧ (s.advance clk).pageNow fam page = u ∧ u.reaches page = true ∧ u.flag page F.HDR.PCTL.LOCK = true ∧ s.bar0Held page src = false ∧ s.bridge.blocked = []) ∧
    (∃ (s : State), s.reaches pBRIDGE = true ∧ s.flag pBRIDGE F.HDR.PCTL.LOCK = true ∧ s.bridge.blocked = []) ∧
    (∃ (clk : Nat) (page : Nat) (fam : Fam) (u : State) (s : State), page ∈ allPages ∧ famOf page = some fam ∧ (s.advance clk).pageNow fam page = u ∧ u.reaches page = true) ∧
    (∃ (clk : Nat) (page : Nat) (s : State), page ∈ allPages ∧ (s.advance clk).reaches page = true) ∧
    (∃ (page : Nat) (s : State), page ∈ allPages ∧ s.running page = true ∧ s.flag page F.HDR.PCTL.LOCK = true) :=
  ⟨⟨8, 0x69, 0x40, .host, ⟨.edge, 0x40, 8, 0x10, 1, 0x0, 0, 1, 0, 0, 0xFFFFFFFF, 0, 0, 0, 0⟩, .edge, (live.set 0x69 F.HDR.PCTL.LOCK 1).advance 8, live.set 0x69 F.HDR.PCTL.LOCK 1, by decide +kernel⟩,
    ⟨live.set pBRIDGE F.HDR.PCTL.LOCK 1, by decide +kernel⟩,
    ⟨8, 0x69, .edge, ((live.set 0x69 ⟨0x0C, 1, 1⟩ 1).set 0x69 F.HDR.PCTL.LOCK 1).advance 8, (live.set 0x69 ⟨0x0C, 1, 1⟩ 1).set 0x69 F.HDR.PCTL.LOCK 1, by decide +kernel⟩,
    ⟨8, 0x69, live.set 0x69 F.HDR.PCTL.LOCK 1, by decide +kernel⟩,
    ⟨0x69, (run [0x69]).set 0x69 F.HDR.PCTL.LOCK 1, by decide +kernel⟩⟩

theorem meets_PowerRequestWhileBusy :
    (∃ (clk : Nat) (s : State), (s.advance clk).accepts pSYS = true ∧ s.get pSYS F.SYS.PSTATE.BUSY = 1) ∧
    (∃ (clk : Nat) (s : State), (s.advance clk).accepts pSYS = true ∧ s.get pSYS F.SYS.PSTATE.BUSY = 1) ∧
    (∃ (clk : Nat) (s : State), (s.advance clk).accepts pSYS = true ∧ s.get pSYS F.SYS.PSTATE.BUSY = 1) ∧
    (∃ (clk : Nat) (s : State), (s.advance clk).accepts pSYS = true ∧ s.get pSYS F.SYS.PSTATE.BUSY = 1) ∧
    (∃ (clk : Nat) (r : Nat) (p : Power) (u : State) (s : State), s.pwr.target = some p ∧ s.pwr.stored = some r ∧ (((s.advance clk).set pSYS F.SYS.PSTATE.BUSY 0).set pSYS F.SYS.PSTATE.CUR (if p = Power.watch then 1 else 0) = u)) :=
  ⟨⟨8, live.set pSYS F.SYS.PSTATE.BUSY 1, by decide +kernel⟩,
    ⟨8, live.set pSYS F.SYS.PSTATE.BUSY 1, by decide +kernel⟩,
    ⟨8, live.set pSYS F.SYS.PSTATE.BUSY 1, by decide +kernel⟩,
    ⟨8, live.set pSYS F.SYS.PSTATE.BUSY 1, by decide +kernel⟩,
    ⟨8, 0, Power.watch, (({ live with pwr := { live.pwr with target := some Power.watch, stored := some 0 } }.advance 8).set pSYS F.SYS.PSTATE.BUSY 0).set pSYS F.SYS.PSTATE.CUR 1, { live with pwr := { live.pwr with target := some Power.watch, stored := some 0 } }, by decide +kernel⟩⟩

theorem meets_ReceiveEntryReturned :
    (∃ (clk : Nat) (can : Nat) (index : Nat) (s : State), (s.advance clk).accepts (pCAN can) = true ∧ can < 16 ∧ index < 32 ∧ natBit (s.get (pCAN can) F.CAN.RXOWN.MAP) index = true) ∧
    (∃ (clk : Nat) (can : Nat) (index : Nat) (s : State), (s.advance clk).accepts (pCAN can) = true ∧ can < 16 ∧ index < 32 ∧ natBit (s.get (pCAN can) F.CAN.RXOWN.MAP) index = false) :=
  ⟨⟨8, 2, 3, canSt.set (pCAN 2) F.CAN.RXOWN.MAP 8, by decide +kernel⟩,
    ⟨8, 2, 3, canSt, by decide +kernel⟩⟩

theorem meets_DatumIncAndUnlock :
    (∃ (clk : Nat) (s : State), (s.advance clk).accepts pDATUM = true) ∧
    (∃ (clk : Nat) (s : State), (s.advance clk).accepts pDATUM = true) ∧
    (∃ (clk : Nat) (s : State), (s.advance clk).accepts pDATUM = true) ∧
    (∃ (clk : Nat) (hi : Word) (s : State), (s.advance clk).accepts pDATUM = true ∧ (s.advance clk).stepRefusal (toSigned ((s.latched pDATUM 0x50).toNat + 2 ^ 32 * hi.toNat) 64) = none) ∧
    (∃ (s : State), s.coreOn = true ∧ s.get pDATUM F.DATUM.STS.REF_FAULT = 0 ∧ (s.get pDATUM F.DATUM.STS.HOLDOVER = 0 ∨ s.get pDATUM F.DATUM.STS.HO_CAUSE ≠ 3)) ∧
    (∃ (u : Nat) (s : State), s.datum.unlock = some u) :=
  ⟨⟨8, live, by decide +kernel⟩,
    ⟨8, live, by decide +kernel⟩,
    ⟨8, live, by decide +kernel⟩,
    ⟨8, 0, { live with datum := { live.datum with unlock := some 5 } }, by decide +kernel⟩,
    ⟨{ live with datum := { live.datum with unlock := some 5 } }, by decide +kernel⟩,
    ⟨5, { live with datum := { live.datum with unlock := some 5 } }, by decide +kernel⟩⟩

theorem meets_DatumSteps :
    (∃ (clk : Nat) (hi : Word) (s : State), (s.advance clk).accepts pDATUM = true ∧ s.get pDATUM F.DATUM.STS.HOLDOVER = 0 ∧ s.get pDATUM F.DATUM.STS.TVALID = 1 ∧ (s.advance clk).unlocked = false ∧ s.get pDATUM F.DATUM.STEP_LIMIT.LIMIT < (toSigned ((s.latched pDATUM 0x50).toNat + 2 ^ 32 * hi.toNat) 64).natAbs) ∧
    (∃ (clk : Nat) (hi : Word) (s : State), (s.advance clk).accepts pDATUM = true ∧ s.get pDATUM F.DATUM.STS.HOLDOVER = 0 ∧ s.get pDATUM F.DATUM.STS.TVALID = 0 ∧ (s.latched pDATUM 0x50).toNat + 2 ^ 32 * hi.toNat < 2 ^ 63 ∧ s.datum.fold.fix (s.advance clk).raw + ((s.latched pDATUM 0x50).toNat + 2 ^ 32 * hi.toNat) * 2 ^ 40 < 2 ^ 104) :=
  ⟨⟨8, 8, live.set pDATUM F.DATUM.STS.TVALID 1, by decide +kernel⟩,
    ⟨8, 8, live, by decide +kernel⟩⟩

theorem meets_DatumHoldover :
    (∃ (clk : Nat) (s : State), (s.advance clk).accepts pDATUM = true ∧ s.get pDATUM F.DATUM.STS.HOLDOVER = 0) ∧
    (∃ (clk : Nat) (s : State), (s.advance clk).accepts pDATUM = true ∧ s.get pDATUM F.DATUM.STS.HOLDOVER = 1 ∧ (s.get pDATUM F.DATUM.STS.HO_CAUSE ≠ 3 ∨ s.get pDATUM F.DATUM.STS.REF_FAULT = 0)) ∧
    (∃ (s : State), s.coreOn = true ∧ s.get pDATUM F.DATUM.STS.REF_FAULT = 0) ∧
    (∃ (s : State), s.coreOn = true) :=
  ⟨⟨8, live, by decide +kernel⟩,
    ⟨8, (live.set pDATUM F.DATUM.STS.HOLDOVER 1).set pDATUM F.DATUM.STS.HO_CAUSE 3, by decide +kernel⟩,
    ⟨live, by decide +kernel⟩,
    ⟨live, by decide +kernel⟩⟩

theorem meets_PpsAndStampQueue :
    (∃ (rising : Bool) (s : State), s.running pDATUM = true ∧ s.get pDATUM F.DATUM.PPSCTL.IN_EN = 1 ∧ s.get pDATUM F.DATUM.PPSCTL.IN_POL = bit (!rising)) ∧
    (∃ (s : State), s.ppsReady = true) ∧
    (∃ (e : Nat) (s : State), s.datum.ppsEnd = some e) ∧
    (∃ (e : TxStamp) (l : List TxStamp) (s : State), s.coreOn = true ∧ s.stamps = e :: l) ∧
    (∃ (s : State), s.coreOn = true ∧ s.stamps = []) ∧
    (∃ (clk : Nat) (s : State), (s.advance clk).accepts pSTAMP = true) :=
  ⟨⟨true, (run [pDATUM]).set pDATUM F.DATUM.PPSCTL.IN_EN 1, by decide +kernel⟩,
    ⟨((run [pDATUM]).set pDATUM F.DATUM.PPSCTL.OUT_EN 1).set pDATUM F.DATUM.STS.TVALID 1, by decide +kernel⟩,
    ⟨9, { live with datum := { live.datum with ppsEnd := some 9 } }, by decide +kernel⟩,
    ⟨⟨1, 2, 3⟩, [], { live with stamps := [⟨1, 2, 3⟩] }, by decide +kernel⟩,
    ⟨live, by decide +kernel⟩,
    ⟨8, { live with stamps := [⟨1, 2, 3⟩] }, by decide +kernel⟩⟩

theorem meets_CycleBoundaryAndVote :
    (∃ (s : State), s.running pCYCLE = true) ∧
    (∃ (s : State), s.evOpen 2 = true) ∧
    (∃ (clk : Nat) (s : State), (s.advance clk).accepts pCYCLE = true ∧ (s.cycle.alone = true ∨ s.cycle.major = some (s.get pCYCLE F.CYCLE.SCHED_DIG.DIGEST))) :=
  ⟨⟨run [pCYCLE, pPLAT], by decide +kernel⟩,
    ⟨let q := run [pCYCLE]; { q with cycle := { q.cycle with started := true, votes := [(3, 5), (4, 5)] } }, by decide +kernel⟩,
    ⟨8, { live with cycle := { live.cycle with alone := true } }, by decide +kernel⟩⟩

theorem meets_PlatReception :
    (∃ (clk : Nat) (port : Nat) (fr : Frame) (s : State), (s.isSpanen fr && kindOf fr == 1 && platCrcOk fr) = true ∧ ((s.advance clk).hsrTake port fr).2 = true ∧ s.running pPLAT = true ∧ srcNode fr ≠ s.nid ∧ digestOf fr ≠ s.get pCYCLE F.CYCLE.SCHED_DIG.DIGEST) ∧
    (∃ (clk : Nat) (port : Nat) (fr : Frame) (s : State), (s.isSpanen fr && kindOf fr == 1 && platCrcOk fr) = true ∧ ((s.advance clk).hsrTake port fr).2 = true ∧ s.running pPLAT = true ∧ s.running pSTAMP = false ∧ srcNode fr ≠ s.nid ∧ digestOf fr = s.get pCYCLE F.CYCLE.SCHED_DIG.DIGEST ∧ s.platFormOk fr = true ∧ (s.advance clk).platCycOk fr (s.advance clk).now = true ∧ s.rxOf (srcNode fr) = rxDefault 0 ∧ 1 < frameCount (s.slotLen (srcNode fr))) ∧
    (∃ (clk : Nat) (port : Nat) (c : Nat) (s : State), port < 2 ∧ ((s.advance clk).settle port).plat.own = some c ∧ ((s.advance clk).settle port).ownLeft port = true ∧ s.get pPLAT F.PLAT.CFG.VIEW = 0) ∧
    (∃ (clk : Nat) (port : Nat) (c : Nat) (s : State), port < 2 ∧ ((s.advance clk).settle port).plat.own = some c ∧ ((s.advance clk).settle port).ownLeft port = true ∧ s.get pPLAT F.PLAT.CFG.VIEW = 1) ∧
    (∃ (s : State), s.evOpen 3 = true ∧ s.running pPLAT = true ∧ s.get pPLAT F.PLAT.CFG.VIEW = 1) ∧
    (∃ (addr : Nat) (data : List Byte) (s : State), s.coreOn = true ∧ (data.length = 1 ∨ data.length = 2 ∨ data.length = 4 ∨ data.length = 8) ∧ addr % data.length = 0 ∧ s.ownOutput addr data.length = true) :=
  ⟨⟨8, 0, platFr, run [pPLAT, pSWITCH, pHSR], by decide +kernel⟩,
    ⟨8, 0, platFr2, platSt, by decide +kernel⟩,
    ⟨8, 0, 7, { run [pPLAT] with plat := { (run [pPLAT]).plat with own := some 7, left := [(0, 0)] } }, by decide +kernel⟩,
    ⟨8, 0, 7, { (run [pPLAT]).set pPLAT F.PLAT.CFG.VIEW 1 with plat := { (run [pPLAT]).plat with own := some 7, left := [(0, 0)] } }, by decide +kernel⟩,
    ⟨{ (run [pCYCLE, pPLAT]).set pPLAT F.PLAT.CFG.VIEW 1 with cycle := { live.cycle with started := true }, plat := { live.plat with rx := [(3, ⟨1, [0], true⟩)] } }, by decide +kernel⟩,
    ⟨0x40, [1, 2], platSt, by decide +kernel⟩⟩

theorem meets_PlatPublication :
    (∃ (s : State), s.evOpen 0 = true ∧ s.running pPLAT = true ∧ 0 < s.slotLen s.nid ∧ s.holdAsked pPLAT = false ∧ s.inGang = false) ∧
    (∃ (s : State), s.evOpen 1 = true ∧ s.plat.own = some (cyc32 s.cycle.cyc) ∧ (s.evNow 1).publishes = true) ∧
    (∃ (member : Nat) (s : State), s.running pPLAT = true ∧ s.inGang = true ∧ s.onRing = true ∧ s.memPresent member = true ∧ s.memFenced member = false ∧ s.evOpen 0 = true) :=
  ⟨⟨let q := platSt; { q with plat := { q.plat with staging := [(0x40, 5)] } }, by decide +kernel⟩,
    ⟨let q := platSt.set pCYCLE F.CYCLE.STS.PUBLISH 1; { q with plat := { q.plat with own := some (cyc32 q.cycle.cyc) } }, by decide +kernel⟩,
    ⟨1, gangSt, by decide +kernel⟩⟩

theorem meets_MisclosureRounds :
    (∃ (s : State), s.running pMSCL = true ∧ s.held pMSCL = false ∧ s.holdAsked pMSCL = false) ∧
    (∃ (port : Nat) (hdrClk : Nat) (fr : Frame) (s : State), port < 2 ∧ s.isSpanen fr = true ∧ kindOf fr = 4 ∧ spanenCrcOk fr 32 = true ∧ s.running (pPORT port) = true ∧ s.ownProbe fr = true ∧ s.running pMSCL = true ∧ ofBE (slice fr.body 12 4) = s.mscl.round ∧ hdr fr 1 % 2 = 1 ∧ s.mscl.probes.any (fun p : Probe => p.loop == 4 && p.rev == true && p.ret.isNone) = true ∧ (∀ p ∈ s.mscl.probes, p.loop = 4 → p.rev = false → p.ret = none) ∧ (s.rxBare port (hdrClk - s.datum.rawOrg)).toNat < 16 * (s.mscl.start + 2000 * s.get pMSCL F.MSCL.TIMEOUT.TIMEOUT)) ∧
    (∃ (s : State), s.mscl.probes.any (fun p : Probe => p.ret.isNone) = true ∧ s.held pMSCL = false) ∧
    (∃ (l : Nat) (st : StepPend) (s : State), s.aloneLoops = [(l, st)] ∧ s.alonePds = [] ∧ s.unshared = []) ∧
    (∃ (clk : Nat) (port : Nat) (s : State), port < 22 ∧ (s.advance clk).accepts pSTAMP = true) :=
  ⟨⟨ringSt, by decide +kernel⟩,
    ⟨0, 8, probeFr, probeSt, by decide +kernel⟩,
    ⟨probeSt, by decide +kernel⟩,
    ⟨4, ⟨80, 100, 5⟩, { ringSt with mscl := { ringSt.mscl with loops := [(4, { loopDefault 4 with pend := some ⟨80, 100, 5⟩ })] } }, by decide +kernel⟩,
    ⟨8, 1, live, by decide +kernel⟩⟩

theorem meets_StakeIssueAndArrival :
    (∃ (clk : Nat) (word : Word) (x : List Byte) (s : State), (s.advance clk).accepts pSTAKE = true ∧ s.running pSTAKE = true ∧ fillSrc ((((List.range 7).map (fun i => tabGet regDefault s.latch (regKey pSTAKE (0x60 + 4 * i)))) ++ [word]).flatMap (fun w : Word => beBytes 4 w.toNat)) s.nid s.member = x ∧ (stakeOf x).node ≠ s.nid ∧ ((stakeOf x).node < 0x80 ∨ (stakeOf x).node = 0xFF) ∧ s.stake.issue.length < 16) ∧
    (∃ (x : List Byte) (l : List (List Byte)) (s : State), s.stake.issue = x :: l ∧ s.running pSTAKE = true) ∧
    (∃ (clk : Nat) (bytes : List Byte) (x : Stake) (s : State), stakeOf bytes = x ∧ s.running pSTAKE = true ∧ x.node = s.nid ∧ x.bcast = false ∧ x.cancel = false ∧ s.inGang = false ∧ s.malformed x = false ∧ s.unassigned x = none ∧ x.tRel < (s.advance clk).now + 2000 * s.get pSTAKE F.STAKE.HORIZON.HORIZON ∧ s.keyHeld x = false ∧ s.stake.q.length < 256 ∧ (s.advance clk).verdict x ((s.advance clk).wouldExec x) ≠ 2) ∧
    (∃ (bytes : List Byte) (x : Stake) (s : State), stakeOf bytes = x ∧ s.running pSTAKE = true ∧ x.node = s.nid ∧ x.bcast = false ∧ s.inGang = false ∧ s.malformed x = true) ∧
    (∃ (bytes : List Byte) (x : Stake) (y : Stake) (s : State), stakeOf bytes = x ∧ s.running pSTAKE = true ∧ x.node = s.nid ∧ x.bcast = false ∧ x.cancel = true ∧ s.inGang = false ∧ s.malformed x = false ∧ s.stake.q.find? (sameKey x) = some y) ∧
    (∃ (clk : Nat) (data : Word) (y : Stake) (s : State), (s.advance clk).accepts pSTAKE = true ∧ s.running pSTAKE = true ∧ s.stake.q.find? (fun y : Stake => bitsOf data 16 7 == y.srcNode && bitsOf data 23 2 == y.srcMember && bitsOf data 0 16 == y.id) = some y) ∧
    (∃ (payload : List Byte) (s : State), s.running pSTAKE = true ∧ (nth payload 3 0).toNat % 128 = s.nid ∧ (nth payload 2 0).toNat / 64 = s.member ∧ s.stake.rcpts.length < 32) ∧
    (∃ (r : Rcpt) (l : List Rcpt) (s : State), s.coreOn = true ∧ s.stake.rcpts = r :: l) :=
  ⟨⟨8, 5, fillSrc (1 :: List.replicate 30 0 ++ [5]) 2 0, (run [pSTAKE]).set pSYS F.SYS.STRAP.NID 2 |> fun q => { q with latch := [(regKey pSTAKE 0x60, 0x01000000)] }, by decide +kernel⟩,
    ⟨stakeBytes stk0, [], { run [pSTAKE] with stake := { live.stake with issue := [stakeBytes stk0] } }, by decide +kernel⟩,
    ⟨8, stakeBytes stk0, stk0, (run [pSTAKE, pPINMUX 0]).set (muxPage 3) (muxFld F.PINMUX.PIN.FUNC 3) 2, by decide +kernel⟩,
    ⟨stakeBytes { stk0 with policy := 3 }, { stk0 with policy := 3 }, run [pSTAKE], by decide +kernel⟩,
    ⟨stakeBytes { stk0 with cancel := true }, { stk0 with cancel := true }, stk0, { run [pSTAKE] with stake := { live.stake with q := [stk0] } }, by decide +kernel⟩,
    ⟨8, 0x00000007, stk0, { run [pSTAKE] with stake := { live.stake with q := [stk0] } }, by decide +kernel⟩,
    ⟨[0, 0, 0, 1], run [pSTAKE], by decide +kernel⟩,
    ⟨⟨1, 0, [1, 2]⟩, [], { live with stake := { live.stake with rcpts := [⟨1, 0, [1, 2]⟩] } }, by decide +kernel⟩⟩

theorem meets_StakeRelease :
    (∃ (x : Stake) (s : State), s.running pSTAKE = true ∧ s.stakeHeld = false ∧ s.mayRelease = true ∧ s.stake.q.find? (fun y : Stake => decide (y.cls < 2) && decide (s.handedTo (stakeCrew y) < 8)) = some x ∧ (s.advanceT (x.tRel - 400)).now + 400 ≤ x.tRel ∧ s.verdict x x.tRel ≠ 2) ∧
    (∃ (w : Withdraw) (l : List Withdraw) (h : Handed) (s : State), s.stake.wd = w :: l ∧ s.stake.island.find? (fun y : Handed => y.st.id == w.id && y.st.srcNode == w.srcNode && y.st.srcMember == w.srcMember) = some h) ∧
    (∃ (h : Handed) (s : State), s.running pSTAKE = true ∧ s.mayRelease = true ∧ handedBest 0 s.stake.island = some h ∧ s.verdict h.st (s.advanceT (max h.st.tRel h.floor)).now = 0 ∧ h.st.cls = 0 ∧ s.stakePin h.st.target = true) ∧
    (∃ (h : Handed) (s : State), s.running pSTAKE = true ∧ s.mayRelease = true ∧ handedBest 1 s.stake.island = some h ∧ s.verdict h.st (s.advanceT (max h.st.tRel h.floor)).now = 0 ∧ h.st.cls = 1 ∧ (s.advanceT (max h.st.tRel h.floor)).stakeReady h.st = true ∧ (s.eng h.st.target).txIn = []) ∧
    (∃ (x : Stake) (s : State), s.running pSTAKE = true ∧ s.stakeHeld = false ∧ s.mayRelease = true ∧ s.stake.q.find? (fun y : Stake => y.cls == 2) = some x ∧ s.verdict x (s.advanceT x.tRel).now = 0 ∧ s.stakeReady x = true ∧ natField x.target 4 2 < 3 ∧ s.canMalformed (x.target % 16) (natField x.target 4 2) = false ∧ s.canLive (x.target % 16) = true) ∧
    (∃ (x : Stake) (s : State), s.running pSTAKE = true ∧ s.stakeHeld = false ∧ s.mayRelease = true ∧ s.stake.q.find? (fun y : Stake => y.cls == 4) = some x ∧ s.verdict x (s.advanceT x.tRel).now = 0 ∧ s.stakeReady x = true) ∧
    (∃ (x : Stake) (s : State), s.accepts pDATUM = true ∧ s.running pSTAKE = true ∧ s.stakeHeld = false ∧ s.mayRelease = true ∧ s.stake.q.find? (fun y : Stake => y.cls == 3) = some x ∧ s.verdict x ((s.advanceT x.tRel).advance s.stake.last3).now = 0 ∧ stakePage x = pDATUM ∧ stakeOff x = 0x58 ∧ x.value / 2 ^ 32 % 2 ^ 32 = 2 ^ 32 - 1) :=
  ⟨⟨stk0, { run [pSTAKE] with stake := { live.stake with q := [stk0] } }, by decide +kernel⟩,
    ⟨⟨7, 0, 0, 5, none⟩, [], ⟨stk0, 0⟩, { run [pSTAKE] with stake := { live.stake with wd := [⟨7, 0, 0, 5, none⟩], island := [⟨stk0, 0⟩] } }, by decide +kernel⟩,
    ⟨⟨stk0, 0⟩, { (run [pSTAKE, pPINMUX 0]).set (muxPage 3) (muxFld F.PINMUX.PIN.FUNC 3) 2 with stake := { live.stake with island := [⟨stk0, 0⟩] } }, by decide +kernel⟩,
    ⟨⟨{ stk0 with cls := 1 }, 0⟩, { run [pSTAKE, pENG 3] with stake := { live.stake with island := [⟨{ stk0 with cls := 1 }, 0⟩] } }, by decide +kernel⟩,
    ⟨{ stk0 with cls := 2 }, { (run [pSTAKE, pCAN 3]).set (pCAN 3) F.CAN.STS.STATE 0 with stake := { live.stake with q := [{ stk0 with cls := 2 }] } }, by decide +kernel⟩,
    ⟨{ stk0 with cls := 4, target := 0x10000040 }, { platSt.set pSTAKE F.HDR.PSTS.RUN 1 with stake := { live.stake with q := [{ stk0 with cls := 4, target := 0x10000040 }] } }, by decide +kernel⟩,
    ⟨{ stk0 with cls := 3, target := 0x2016, value := 0xFFFFFFFF00000063 }, { run [pSTAKE] with stake := { live.stake with q := [{ stk0 with cls := 3, target := 0x2016, value := 0xFFFFFFFF00000063 }] } }, by decide +kernel⟩⟩

theorem meets_CanSending :
    (∃ (can : Nat) (k : Nat) (s : State), s.canLive can = true ∧ s.canMonitor can = false ∧ (s.can can).att = none ∧ s.holdAsked (pCAN can) = false ∧ s.canPick can = some k) ∧
    (∃ (can : Nat) (tdcv : Nat) (a : CanAtt) (s : State), s.canLive can = true ∧ (s.can can).att = some a ∧ a.buf < 3 ∧ s.canTdcBad can a tdcv = false) ∧
    (∃ (can : Nat) (a : CanAtt) (s : State), s.canLive can = true ∧ (s.can can).att = some a ∧ a.buf = 3) ∧
    (∃ (can : Nat) (a : CanAtt) (s : State), s.canLive can = true ∧ (s.can can).att = some a ∧ a.buf < 3 ∧ a.abort = false ∧ s.get (pCAN can) (txb F.CAN.TXB_CTRL.RETRY a.buf) = 15) ∧
    (∃ (can : Nat) (a : CanAtt) (s : State), s.canLive can = true ∧ (s.can can).att = some a ∧ a.buf < 3 ∧ (a.abort = true ∨ (s.get (pCAN can) (txb F.CAN.TXB_CTRL.RETRY a.buf) ≠ 15 ∧ s.get (pCAN can) (txb F.CAN.TXB_CTRL.RETRY a.buf) < satAdd (s.get (pCAN can) (F.CAN.TXSTS.ATTEMPTS.up (8 * a.buf))) 1 F.CAN.TXSTS.ATTEMPTS.w))) ∧
    (∃ (can : Nat) (err : Nat) (afterArb : Bool) (a : CanAtt) (s : State), s.canLive can = true ∧ s.canMonitor can = false ∧ (s.can can).att = some a ∧ err < 7 ∧ (err = 4 ∧ afterArb = true) = False) ∧
    (∃ (can : Nat) (a : CanAtt) (s : State), s.canLive can = true ∧ (s.can can).att = some a) ∧
    (∃ (can : Nat) (s : State), can < 16 ∧ s.running (pCAN can) = true ∧ s.get (pCAN can) F.CAN.STS.STATE = 2) ∧
    (∃ (clk : Nat) (can : Nat) (map : Nat) (s : State), (s.advance clk).accepts (pCAN can) = true ∧ can < 16 ∧ map < 8 ∧ s.get (pCAN can) F.CAN.STS.STATE ≠ 2 ∧ (∀ k, k < 3 → natBit map k = true → s.canMalformed can k = false) ∧ natField (s.get (pCAN can) F.CAN.TXREQ.REQ) 0 3 &&& map = 0) ∧
    (∃ (clk : Nat) (can : Nat) (k : Nat) (s : State), (s.advance clk).accepts (pCAN can) = true ∧ can < 16 ∧ k < 3 ∧ natBit (s.get (pCAN can) F.CAN.TXREQ.REQ) k = false ∧ s.canMalformed can k = true) ∧
    (∃ (clk : Nat) (can : Nat) (k : Nat) (s : State), (s.advance clk).accepts (pCAN can) = true ∧ can < 16 ∧ k < 3 ∧ natBit (s.get (pCAN can) F.CAN.TXREQ.REQ) k = true ∧ (s.can can).att = none) ∧
    (∃ (clk : Nat) (can : Nat) (a : CanAtt) (s : State), (s.advance clk).accepts (pCAN can) = true ∧ can < 16 ∧ a.buf < 3 ∧ natBit (s.get (pCAN can) F.CAN.TXREQ.REQ) a.buf = true ∧ (s.can can).att = some a) :=
  ⟨⟨2, 0, canSt.set (pCAN 2) F.CAN.TXREQ.REQ 1, by decide +kernel⟩,
    ⟨2, 5, ⟨1, 4, false, false⟩, canTx, by decide +kernel⟩,
    ⟨2, ⟨3, 4, false, true⟩, canSt.setCan 2 { CanSt.init with att := some ⟨3, 4, false, true⟩ }, by decide +kernel⟩,
    ⟨2, ⟨1, 4, false, false⟩, canTx.set (pCAN 2) (txb F.CAN.TXB_CTRL.RETRY 1) 15, by decide +kernel⟩,
    ⟨2, ⟨1, 4, false, false⟩, canTx, by decide +kernel⟩,
    ⟨2, 1, false, ⟨1, 4, false, false⟩, canTx, by decide +kernel⟩,
    ⟨2, ⟨1, 4, false, false⟩, canTx, by decide +kernel⟩,
    ⟨2, canSt.set (pCAN 2) F.CAN.STS.STATE 2, by decide +kernel⟩,
    ⟨8, 2, 5, canSt, by decide +kernel⟩,
    ⟨8, 2, 1, canSt.set (pCAN 2) ⟨0x384, 31, 1⟩ 1, by decide +kernel⟩,
    ⟨8, 2, 1, canSt.set (pCAN 2) F.CAN.TXREQ.REQ 2, by decide +kernel⟩,
    ⟨8, 2, ⟨1, 4, false, false⟩, canTx, by decide +kernel⟩⟩

theorem meets_CanReceiving :
    (∃ (can : Nat) (id : Nat) (s : State), s.canLive can = true ∧ (s.can can).att = none ∧ (natBit id 29 = true → s.flag (pCAN can) F.CAN.CFG.FD_EN = true) ∧ (∀ f, f < 32 → s.filtHit can f id = false)) ∧
    (∃ (can : Nat) (id : Nat) (f : Nat) (e : Nat) (s : State), s.canLive can = true ∧ (s.can can).att = none ∧ (natBit id 29 = true → s.flag (pCAN can) F.CAN.CFG.FD_EN = true) ∧ (List.range 32).find? (fun f : Nat => s.filtHit can f id && s.get (pCAN can) (F.CAN.FILT_A.QUEUE.at (8 * f)) == 1) = some f ∧ s.rxFree can = some e) ∧
    (∃ (clk : Nat) (can : Nat) (index : Nat) (s : State), (s.advance clk).accepts (pCAN can) = true ∧ can < 16 ∧ index < 32 ∧ natBit (s.get (pCAN can) F.CAN.RXOWN.MAP) index = true) ∧
    (∃ (clk : Nat) (can : Nat) (index : Nat) (s : State), (s.advance clk).accepts (pCAN can) = true ∧ can < 16 ∧ index < 32 ∧ natBit (s.get (pCAN can) F.CAN.RXOWN.MAP) index = false) ∧
    (∃ (can : Nat) (s : State), can < 16 ∧ s.canMaster can = true ∧ s.held (pCAN can) = false) ∧
    (∃ (can : Nat) (s : State), can < 16 ∧ s.running (pCAN can) = true ∧ s.get (pCAN can) F.CAN.STS.STATE = 3) ∧
    (∃ (can : Nat) (s : State), s.canLive can = true ∧ (s.can can).att = none ∧ s.canMonitor can = false) :=
  ⟨⟨2, 5, canSt, by decide +kernel⟩,
    ⟨2, 5, 0, 0, (canSt.set (pCAN 2) F.CAN.FILT_A.QUEUE 1).set (pCAN 2) F.CAN.FILT_A.ID 5, by decide +kernel⟩,
    ⟨8, 2, 3, canSt.set (pCAN 2) F.CAN.RXOWN.MAP 8, by decide +kernel⟩,
    ⟨8, 2, 3, canSt, by decide +kernel⟩,
    ⟨2, canSt.set (pCAN 2) F.CAN.TMCFG.MASTER 1, by decide +kernel⟩,
    ⟨2, canSt.set (pCAN 2) F.CAN.STS.STATE 3, by decide +kernel⟩,
    ⟨2, canSt, by decide +kernel⟩⟩

theorem meets_EdgeFilterChain :
    (∃ (pin : Nat) (s : State), pin < 256 ∧ s.chainOn pin = true ∧ s.driven pin = none ∧ (s.edge pin).lock = none ∧ (s.edge pin).held = none ∧ (s.edge pin).win = none ∧ (s.edge pin).todo = [] ∧ s.glitchW pin = 0 ∧ s.debW pin = 0 ∧ s.prof pin F.EDGE.CHAT.N = 0) ∧
    (∃ (pin : Nat) (s : State), pin < 256 ∧ s.chainOn pin = true ∧ s.driven pin = none ∧ (s.edge pin).lock = none ∧ (s.edge pin).held = none ∧ (s.edge pin).win = none ∧ (s.edge pin).todo = [] ∧ s.glitchW pin ≠ 0) ∧
    (∃ (clk : Nat) (pin : Nat) (count : Nat) (lk : ChatLock) (s : State), pin < 256 ∧ 0 < count ∧ s.chainOn pin = true ∧ (s.edge pin).lock = some lk ∧ (s.edge pin).todo = [] ∧ (s.advance clk).now < lk.tk + (lk.j + 1) * s.chatW pin ∧ (s.advance clk).now < lk.tLast + s.quietW pin ∧ 0 < s.quietW pin) ∧
    (∃ (pin : Nat) (u : Nat) (k : Nat) (lv : Bool) (s : State), s.chainOn pin = true ∧ (s.edge pin).lock = none ∧ (s.edge pin).win = none ∧ (s.edge pin).todo = [] ∧ (s.edge pin).held = some (u, lv, k) ∧ s.glitchW pin < s.debW pin) ∧
    (∃ (pin : Nat) (w : DebWin) (s : State), pin < 256 ∧ s.chainOn pin = true ∧ (s.edge pin).lock = none ∧ (s.edge pin).held = none ∧ (s.edge pin).todo = [] ∧ (s.edge pin).merged = [] ∧ (s.edge pin).stuckWait = false ∧ (s.edge pin).win = some w ∧ w.level = (s.edge pin).l) ∧
    (∃ (pin : Nat) (w : DebWin) (s : State), pin < 256 ∧ s.chainOn pin = true ∧ (s.edge pin).lock = none ∧ (s.edge pin).held = none ∧ (s.edge pin).todo = [] ∧ (s.edge pin).win = some w ∧ (w.level = (s.edge pin).l) = False ∧ s.prof pin F.EDGE.CHAT.N = 0) ∧
    (∃ (pin : Nat) (lk : ChatLock) (s : State), pin < 256 ∧ s.chainOn pin = true ∧ (s.edge pin).todo = [] ∧ 0 < s.chatW pin ∧ (s.edge pin).lock = some lk ∧ lk.tk + (lk.j + 1) * s.chatW pin < lk.tLast + s.quietW pin) ∧
    (∃ (pin : Nat) (lk : ChatLock) (s : State), pin < 256 ∧ s.chainOn pin = true ∧ (s.edge pin).todo = [] ∧ (s.edge pin).lock = some lk ∧ lk.tLast + s.quietW pin ≤ lk.tk + (lk.j + 1) * s.chatW pin) ∧
    (∃ (pin : Nat) (s : State), pin < 256 ∧ s.chainOn pin = true ∧ s.stuckW pin ≠ 0 ∧ (s.edge pin).stuck = false ∧ s.stuckLvl pin (s.edge pin).l = true ∧ (s.edge pin).lock = none ∧ (s.edge pin).held = none ∧ (s.edge pin).win = none ∧ (s.edge pin).stuckWait = false) :=
  ⟨⟨5, edgeSt, by decide +kernel⟩,
    ⟨5, edgeSt.set (pEDGE 0) F.EDGE.FILT.GLITCH 9, by decide +kernel⟩,
    ⟨800, 5, 2, ⟨9, 0, 1, 0, 10, true, false⟩, edgeLk.setEdge 5 { EdgeSt.init with lock := some ⟨9, 0, 1, 0, 10, true, false⟩ }, by decide +kernel⟩,
    ⟨5, 7, 1, true, (edgeSt.set (pEDGE 0) F.EDGE.FILT.DEBOUNCE 9).setEdge 5 { EdgeSt.init with held := some (7, true, 1) }, by decide +kernel⟩,
    ⟨5, ⟨7, 1, 1, false⟩, edgeSt.setEdge 5 { EdgeSt.init with win := some ⟨7, 1, 1, false⟩ }, by decide +kernel⟩,
    ⟨5, ⟨7, 1, 1, true⟩, edgeSt.setEdge 5 { EdgeSt.init with win := some ⟨7, 1, 1, true⟩ }, by decide +kernel⟩,
    ⟨5, ⟨9, 0, 1, 0, 10, true, false⟩, edgeLk.setEdge 5 { EdgeSt.init with lock := some ⟨9, 0, 1, 0, 10, true, false⟩ }, by decide +kernel⟩,
    ⟨5, ⟨9, 0, 1, 0, 10, true, false⟩, (edgeLk.set (pEDGE 0) F.EDGE.QUIET.Q 0).setEdge 5 { EdgeSt.init with lock := some ⟨9, 0, 1, 0, 10, true, false⟩ }, by decide +kernel⟩,
    ⟨5, (edgeSt.set (pEDGE 0) F.EDGE.STUCK.TIME 9).set (pEDGE 0) (F.EDGE.PIN.STUCK_LVL.at 20) 3, by decide +kernel⟩⟩

theorem meets_BookWriterAndDrains :
    (∃ (clk : Nat) (u : State) (r : Rec) (l : List Rec) (s : State), (s.advance clk).syncDrains = u ∧ s.running pBOOK = true ∧ s.held pBOOK = false ∧ u.grantOk = true ∧ s.book.overflow = [] ∧ s.book.guardQ = r :: l ∧ u.fill < s.reserveAt) ∧
    (∃ (e : Episode) (s : State), s.book.episode = some e ∧ s.held pBOOK = true) ∧
    (∃ (e : Episode) (u : State) (s : State), s.book.episode = some e ∧ State.syncDrains { s.advanceT (e.last + 2000) with book := { s.book with episode := none } } = u ∧ u.writerOn = true ∧ u.grantOk = true ∧ u.shadowBook = false ∧ s.book.front = [] ∧ s.book.overflow = [] ∧ u.fill < 32768) ∧
    (∃ (clk : Nat) (u : State) (s : State), (s.advance clk).syncDrains = u ∧ u.book.dma.active = true ∧ 0 < u.burst ∧ u.rhRoom (32 * u.burst + 8) = true) ∧
    (∃ (clk : Nat) (u : State) (s : State), (s.advance clk).syncDrains = u ∧ u.frameDue = true) :=
  ⟨⟨8, (bookSt.advance 8).syncDrains, guardRec 0x50 0 3 [1, 2, 3, 4, 5, 6, 7, 8], [], bookSt, by decide +kernel⟩,
    ⟨⟨1, 2, 3, true, 4⟩, { bookSt.set pBOOK F.HDR.PSTS.HELD 1 with book := { bookSt.book with episode := some ⟨1, 2, 3, true, 4⟩ } }, by decide +kernel⟩,
    ⟨⟨1, 2, 3, true, 4⟩, State.syncDrains { bookEp.advanceT (4 + 2000) with book := { bookEp.book with episode := none } }, bookEp, by decide +kernel⟩,
    ⟨8, (dmaSt.advance 8).syncDrains, dmaSt, by decide +kernel⟩,
    ⟨8, (ringBook.advance 8).syncDrains, ringBook, by decide +kernel⟩⟩

theorem meets_CalibrationStore :
    (∃ (clk : Nat) (s : State), (s.advance clk).accepts pCAL = true) ∧
    (∃ (clk : Nat) (s : State), (s.advance clk).accepts pCAL = true) ∧
    (∃ (clk : Nat) (s : State), (s.advance clk).accepts pCAL = true ∧ s.cal.prog = none ∧ (s.advance clk).calProgRefusal = none) ∧
    (∃ (clk : Nat) (code : Nat) (index : Nat) (s : State), (s.advance clk).accepts pCAL = true ∧ s.cal.prog = none ∧ (s.advance clk).calProgRefusal = some (code, index)) ∧
    (∃ (mask : Nat) (s : State), s.cal.prog = some mask) :=
  ⟨⟨8, live, by decide +kernel⟩,
    ⟨8, live, by decide +kernel⟩,
    ⟨8, calSt, by decide +kernel⟩,
    ⟨8, 4, 0xF8, live, by decide +kernel⟩,
    ⟨4, { calSt with cal := { calSt.cal with prog := some 4 } }, by decide +kernel⟩⟩

theorem meets_KeysAndLateErrors :
    (∃ (clk : Nat) (port : Nat) (sa : Nat) (s : State), port < 7 ∧ sa < 4 ∧ (s.advance clk).accepts pMACSEC = true ∧ (s.get pMACSEC (msf F.MACSEC.CTL.PROT port) = 0 ∨ s.get pMACSEC (msf F.MACSEC.CTL.TX_AN port) ≠ sa)) ∧
    (∃ (clk : Nat) (port : Nat) (sa : Nat) (s : State), port < 7 ∧ sa < 4 ∧ (s.advance clk).accepts pMACSEC = true ∧ s.get pMACSEC (msf F.MACSEC.CTL.PROT port) = 1 ∧ s.get pMACSEC (msf F.MACSEC.CTL.TX_AN port) = sa) ∧
    (∃ (port : Nat) (sa : Nat) (x : SaInstall) (key : List Byte) (s : State), port < 7 ∧ sa < 4 ∧ s.sw.installs.find? (fun x : SaInstall => x.port == port && x.sa == sa) = some x ∧ s.saResult x.handle = (0, key)) ∧
    (∃ (port : Nat) (sa : Nat) (e : Nat) (x : SaInstall) (key : List Byte) (s : State), port < 7 ∧ sa < 4 ∧ s.sw.installs.find? (fun x : SaInstall => x.port == port && x.sa == sa) = some x ∧ s.saResult x.handle = (e, key) ∧ e ≠ 0) ∧
    (∃ (e : LogEnt) (l : List LogEnt) (s : State), s.coreOn = true ∧ s.bridge.llog = e :: l) :=
  ⟨⟨8, 1, 2, live, by decide +kernel⟩,
    ⟨8, 1, 0, live.set pMACSEC (msf F.MACSEC.CTL.PROT 1) 1, by decide +kernel⟩,
    ⟨1, 2, ⟨1, 2, 0x203⟩, [7], keySt, by decide +kernel⟩,
    ⟨1, 2, 4, ⟨1, 2, 0x203⟩, [], keySt.set pMONUMENT F.HDR.PSTS.RUN 0, by decide +kernel⟩,
    ⟨⟨5, 1, 2, 3⟩, [], { live with bridge := { live.bridge with llog := [⟨5, 1, 2, 3⟩] } }, by decide +kernel⟩⟩

theorem meets_EngineInstructions :
    (∃ (eng : Nat) (w : Nat) (st : Nat × Nat) (u : State) (s : State), s.engReady eng = true ∧ s.fetch eng = w ∧ iOp w = 5 ∧ s.undefWord eng w = false ∧ s.nextStep eng (s.eng eng).tick = st ∧ (s.tookStep eng st).engArrive eng st.1 = u ∧ s.get (pCREW (eng / 4)) F.CREW.STS.BUSY = 0) ∧
    (∃ (eng : Nat) (w : Nat) (st : Nat × Nat) (u : State) (s : State), s.engReady eng = true ∧ s.fetch eng = w ∧ iOp w = 6 ∧ s.undefWord eng w = false ∧ s.nextStep eng (s.eng eng).tick = st ∧ (s.tookStep eng st).engArrive eng st.1 = u ∧ s.get (pCREW (eng / 4)) F.CREW.STS.BUSY = 0) ∧
    (∃ (eng : Nat) (w : Nat) (s : State), s.engReady eng = true ∧ s.fetch eng = w ∧ iOp w = 7 ∧ s.undefWord eng w = false ∧ s.get (pCREW (eng / 4)) F.CREW.STS.BUSY = 0) ∧
    (∃ (eng : Nat) (w : Nat) (s : State), s.engReady eng = true ∧ s.fetch eng = w ∧ iOp w = 8 ∧ s.undefWord eng w = false ∧ s.get (pCREW (eng / 4)) F.CREW.STS.BUSY = 0 ∧ s.ef eng F.ENG.CFG.OREFILL = 0) ∧
    (∃ (eng : Nat) (w : Nat) (st : Nat × Nat) (u : State) (s : State), s.engReady eng = true ∧ s.fetch eng = w ∧ iOp w = 8 ∧ s.undefWord eng w = false ∧ s.nextStep eng (s.eng eng).tick = st ∧ (s.tookStep eng st).engArrive eng st.1 = u ∧ s.ef eng F.ENG.CFG.OREFILL = 1 ∧ s.drained eng = true ∧ (u.eng eng).txf = []) ∧
    (∃ (eng : Nat) (w : Nat) (st : Nat × Nat) (u : State) (s : State), s.engReady eng = true ∧ s.fetch eng = w ∧ iOp w = 9 ∧ s.undefWord eng w = false ∧ s.nextStep eng (s.eng eng).tick = st ∧ (s.tookStep eng st).engArrive eng st.1 = u ∧ s.get (pCREW (eng / 4)) F.CREW.STS.BUSY = 0 ∧ s.ef eng F.ENG.CFG.IFLUSH = 0) ∧
    (∃ (eng : Nat) (w : Nat) (v : Nat) (l : List Nat) (st : Nat × Nat) (u : State) (s : State), s.engReady eng = true ∧ s.fetch eng = w ∧ iOp w = 10 ∧ s.undefWord eng w = false ∧ s.nextStep eng (s.eng eng).tick = st ∧ (s.tookStep eng st).engArrive eng st.1 = u ∧ s.get (pCREW (eng / 4)) F.CREW.STS.BUSY = 0 ∧ modeActs (iPMode w) (s.eng eng).osc (s.ef eng F.ENG.CFG.OSR_LEN) = true ∧ (u.eng eng).txf = v :: l) ∧
    (∃ (eng : Nat) (w : Nat) (s : State), s.engReady eng = true ∧ s.fetch eng = w ∧ iOp w = 11 ∧ s.undefWord eng w = false ∧ s.get (pCREW (eng / 4)) F.CREW.STS.BUSY = 0 ∧ modeActs (iPMode w) (s.eng eng).isc (s.ef eng F.ENG.CFG.ISR_LEN) = true ∧ s.ef eng F.ENG.CFG.PLAT_MODE = 0 ∧ (s.eng eng).rxf.length < s.rxDepth eng) ∧
    (∃ (eng : Nat) (w : Nat) (st : Nat × Nat) (u : State) (s : State), s.engReady eng = true ∧ s.fetch eng = w ∧ iOp w = 12 ∧ s.undefWord eng w = false ∧ iTop w = true ∧ s.nextStep eng (s.eng eng).tick = st ∧ (s.tookStep eng st).engArrive eng st.1 = u ∧ s.get (pCREW (eng / 4)) F.CREW.STS.BUSY = 0 ∧ (s.pin (ePin eng (iIdx w))).stTick ≠ st.1) ∧
    (∃ (eng : Nat) (w : Nat) (s : State), s.engReady eng = true ∧ s.fetch eng = w ∧ iOp w = 13 ∧ s.undefWord eng w = false ∧ s.get (pCREW (eng / 4)) F.CREW.STS.BUSY = 0 ∧ s.histCut ≤ 8 * (s.nextStep eng (s.eng eng).tick).1) ∧
    (∃ (eng : Nat) (w : Nat) (n : Nat) (s : State), s.engReady eng = true ∧ s.fetch eng = w ∧ iOp w = 3 ∧ s.undefWord eng w = false ∧ ((if natBit w 0 then (s.eng eng).x % 2 ^ 20 else natField w 8 20) = n) ∧ s.get (pCREW (eng / 4)) F.CREW.STS.BUSY = 0) ∧
    (∃ (eng : Nat) (s : State), s.engReady eng = true ∧ s.undefWord eng (s.fetch eng) = true) :=
  ⟨⟨5, 0x50000283, (engAt 0x50000283).nextStep 5 ((engAt 0x50000283).eng 5).tick, engU 0x50000283, engAt 0x50000283, by decide +kernel⟩,
    ⟨5, 0x60000890, (engAt 0x60000890).nextStep 5 ((engAt 0x60000890).eng 5).tick, engU 0x60000890, engAt 0x60000890, by decide +kernel⟩,
    ⟨5, 0x70001021, engAt 0x70001021, by decide +kernel⟩,
    ⟨5, 0x80001500, engAt 0x80001500, by decide +kernel⟩,
    ⟨5, 0x80001500, (engRefill 0x80001500).nextStep 5 ((engRefill 0x80001500).eng 5).tick, (((engRefill 0x80001500).tookStep 5 ((engRefill 0x80001500).nextStep 5 ((engRefill 0x80001500).eng 5).tick)).engArrive 5 ((engRefill 0x80001500).nextStep 5 ((engRefill 0x80001500).eng 5).tick).1), engRefill 0x80001500, by decide +kernel⟩,
    ⟨5, 0x90000500, (engAt 0x90000500).nextStep 5 ((engAt 0x90000500).eng 5).tick, engU 0x90000500, engAt 0x90000500, by decide +kernel⟩,
    ⟨5, 0xA0001000, 7, [], (engFull 0xA0001000).nextStep 5 ((engFull 0xA0001000).eng 5).tick, (((engFull 0xA0001000).tookStep 5 ((engFull 0xA0001000).nextStep 5 ((engFull 0xA0001000).eng 5).tick)).engArrive 5 ((engFull 0xA0001000).nextStep 5 ((engFull 0xA0001000).eng 5).tick).1), engFull 0xA0001000, by decide +kernel⟩,
    ⟨5, 0xB0001000, engAt 0xB0001000, by decide +kernel⟩,
    ⟨5, 0xC0001003, engLate.nextStep 5 (engLate.eng 5).tick, (engLate.tookStep 5 (engLate.nextStep 5 (engLate.eng 5).tick)).engArrive 5 (engLate.nextStep 5 (engLate.eng 5).tick).1, engLate, by decide +kernel⟩,
    ⟨5, 0xD0001003, engAt 0xD0001003, by decide +kernel⟩,
    ⟨5, 0x30000500, 5, engAt 0x30000500, by decide +kernel⟩,
    ⟨5, engAt 0xE0000000, by decide +kernel⟩⟩

theorem meets_EngineWaits :
    (∃ (eng : Nat) (w : Nat) (st : Nat × Nat) (s : State), s.engReady eng = true ∧ s.fetch eng = w ∧ iOp w = 1 ∧ s.undefWord eng w = false ∧ s.nextStep eng (s.eng eng).tick = st) ∧
    (∃ (eng : Nat) (w : Nat) (k : Nat) (x : Int) (s : State), (s.eng eng).wait = EngWait.waitt x false ∧ s.running (pENG eng) = true ∧ s.engFrozen = false ∧ s.fetch eng = w ∧ s.waittTick eng x false = k ∧ (s.tickT k : Int) ≤ x ∧ s.get (pCREW (eng / 4)) F.CREW.STS.BUSY = 0) ∧
    (∃ (eng : Nat) (w : Nat) (k : Nat) (x : Int) (s : State), (s.eng eng).wait = EngWait.waitt x false ∧ s.running (pENG eng) = true ∧ s.engFrozen = false ∧ s.fetch eng = w ∧ s.waittTick eng x false = k ∧ x < (s.tickT k : Int) ∧ s.get (pCREW (eng / 4)) F.CREW.STS.BUSY = 0) ∧
    (∃ (eng : Nat) (w : Nat) (st : Nat × Nat) (s : State), s.engReady eng = true ∧ s.fetch eng = w ∧ iOp w = 2 ∧ s.undefWord eng w = false ∧ s.nextStep eng (s.eng eng).tick = st) ∧
    (∃ (clk : Nat) (eng : Nat) (w : Nat) (st : Nat × Nat) (u : State) (s : State), s.running (pENG eng) = true ∧ s.engFrozen = false ∧ (s.eng eng).wait = EngWait.waitp ∧ s.fetch eng = w ∧ s.advance clk = u ∧ u.waitpGo eng w (u.nextStep eng u.nowTick).1 ((u.nextStep eng u.nowTick).1 - (s.eng eng).tick + 2) (s.eng eng).prev (s.eng eng).tick (s.eng eng).phs = some st ∧ s.get (pCREW (eng / 4)) F.CREW.STS.BUSY = 0) ∧
    (∃ (eng : Nat) (s : State), s.running (pENG eng) = true ∧ s.engFrozen = false ∧ (s.eng eng).wait = EngWait.dly ∧ s.get (pCREW (eng / 4)) F.CREW.STS.BUSY = 0) ∧
    (∃ (eng : Nat) (w : Nat) (st : Nat × Nat) (s : State), s.engReady eng = true ∧ s.fetch eng = w ∧ iOp w = 4 ∧ s.undefWord eng w = false ∧ s.nextStep eng (s.eng eng).tick = st) ∧
    (∃ (clk : Nat) (eng : Nat) (r : CntRes) (s : State), s.running (pENG eng) = true ∧ s.engFrozen = false ∧ (s.eng eng).wait = EngWait.cnt ∧ (s.advance clk).cntNow eng = r ∧ r.done = true ∧ s.get (pCREW (eng / 4)) F.CREW.STS.BUSY = 0) ∧
    (∃ (eng : Nat) (s : State), s.running (pENG eng) = true ∧ s.engFrozen = false ∧ (s.eng eng).wait = EngWait.none ∧ (s.eng eng).dcnt ≠ 0 ∧ s.get (pCREW (eng / 4)) F.CREW.STS.BUSY = 0) ∧
    (∃ (eng : Nat) (start : Nat) (v : Nat) (k : Nat) (l : List Nat) (fl : Bool) (s : State), (s.eng eng).wait = EngWait.stall StallKind.pull start fl ∧ s.running (pENG eng) = true ∧ s.engHold eng = false ∧ s.engFrozen = false ∧ (s.eng eng).txf = v :: l ∧ (s.eng eng).txIn = [] ∧ modeActs (iPMode (s.fetch eng)) (s.eng eng).osc (s.ef eng F.ENG.CFG.OSR_LEN) = true ∧ s.get (pCREW (eng / 4)) F.CREW.STS.BUSY = 0 ∧ (s.nextStep eng (max s.nowTick (start + 1))).1 = k) ∧
    (∃ (eng : Nat) (start : Nat) (kind : StallKind) (s : State), eng < 64 ∧ (s.eng eng).wait = EngWait.stall kind start false ∧ s.ef eng F.ENG.STALL_TH.TICKS ≠ 0 ∧ s.engFrozen = false) ∧
    (∃ (eng : Nat) (b : Nat) (st : Nat × Nat) (s : State), eng < 64 ∧ s.nextStep eng (max ((s.eng eng).tick + 1) (ceilDiv (s.crew (eng / 4)).swapFrom 8)) = st ∧ s.mustMove eng st.1 = true ∧ s.abandonable eng = true ∧ s.engFrozen = false ∧ 1 - s.get (pCREW (eng / 4)) F.CREW.STS.ACTIVE = b) :=
  ⟨⟨5, 0x10000000, (engAt 0x10000000).nextStep 5 ((engAt 0x10000000).eng 5).tick, engAt 0x10000000, by decide +kernel⟩,
    ⟨5, 0x10000000, (engWait 0x10000000 (.waitt 90 false)).waittTick 5 90 false, 90, engWait 0x10000000 (.waitt 90 false), by decide +kernel⟩,
    ⟨5, 0x10000000, (engWait 0x10000000 (.waitt (-3) false)).waittTick 5 (-3) false, -3, engWait 0x10000000 (.waitt (-3) false), by decide +kernel⟩,
    ⟨5, 0x20000200, (engAt 0x20000200).nextStep 5 ((engAt 0x20000200).eng 5).tick, engAt 0x20000200, by decide +kernel⟩,
    ⟨80, 5, 0x20000000, (8, 0), (engWait 0x20000000 .waitp).advance 80, engWait 0x20000000 .waitp, by decide +kernel⟩,
    ⟨5, engWait 0x30000500 .dly, by decide +kernel⟩,
    ⟨5, 0x40000003, (engAt 0x40000003).nextStep 5 ((engAt 0x40000003).eng 5).tick, engAt 0x40000003, by decide +kernel⟩,
    ⟨80, 5, ((engWait 0x40000003 .cnt).advance 80).cntNow 5, engWait 0x40000003 .cnt, by decide +kernel⟩,
    ⟨5, (engAt 0).setEng 5 { (engAt 0).eng 5 with dcnt := 3 }, by decide +kernel⟩,
    ⟨5, 0, 7, ((engPull).nextStep 5 (max engPull.nowTick 1)).1, [], false, engPull, by decide +kernel⟩,
    ⟨5, 0, .pull, engPull.set (pENG 5) F.ENG.STALL_TH.TICKS 9, by decide +kernel⟩,
    ⟨5, 1, (engSwap.nextStep 5 (max ((engSwap.eng 5).tick + 1) (ceilDiv (engSwap.crew 1).swapFrom 8))), engSwap, by decide +kernel⟩⟩

theorem meets_EngineRegistersAndCrews :
    (∃ (clk : Nat) (eng : Nat) (s : State), eng < 64 ∧ (s.advance clk).accepts (pENG eng) = true ∧ s.running (pENG eng) = true ∧ (s.eng eng).txIn = []) ∧
    (∃ (clk : Nat) (eng : Nat) (s : State), eng < 64 ∧ (s.advance clk).accepts (pENG eng) = true ∧ s.running (pENG eng) = false ∧ (s.eng eng).txIn = [] ∧ (s.eng eng).txf.length < s.txDepth eng) ∧
    (∃ (eng : Nat) (s : State), eng < 64 ∧ s.coreOn = true) ∧
    (∃ (clk : Nat) (eng : Nat) (word : Nat) (s : State), eng < 64 ∧ word < 128 ∧ (s.advance clk).accepts (pENG eng) = true ∧ s.running (pENG eng) = true ∧ s.held (pENG eng) = true) ∧
    (∃ (clk : Nat) (eng : Nat) (s : State), eng < 64 ∧ (s.advance clk).accepts (pENG eng) = true ∧ (s.eng eng).wait ≠ EngWait.cnt) ∧
    (∃ (clk : Nat) (crew : Nat) (s : State), crew < 16 ∧ (s.advance clk).accepts (pCREW crew) = true ∧ s.flag (pCREW crew) F.CREW.SWAP.GO = false ∧ (∀ k, k < 4 → s.running (pENG (4 * crew + k)) = true → s.get (pCREW crew) (F.CREW.IDLE_OWN.MASK.at (4 * k)) = s.claimMask (4 * crew + k)) ∧ s.runEngs crew ≠ []) ∧
    (∃ (clk : Nat) (crew : Nat) (s : State), crew < 16 ∧ (s.advance clk).accepts (pCREW crew) = true ∧ s.flag (pCREW crew) F.CREW.SWAP.GO = false ∧ s.runEngs crew = []) ∧
    (∃ (clk : Nat) (crew : Nat) (k : Nat) (s : State), crew < 16 ∧ (s.advance clk).accepts (pCREW crew) = true ∧ s.flag (pCREW crew) F.CREW.SWAP.GO = false ∧ (s.runEngs crew).find? (fun k : Nat => s.get (pCREW crew) (F.CREW.IDLE_OWN.MASK.at (4 * k)) != s.claimMask (4 * crew + k)) = some k) ∧
    (∃ (clk : Nat) (crew : Nat) (k : Nat) (s : State), crew < 16 ∧ k < 4 ∧ (s.advance clk).accepts (pCREW crew) = true ∧ s.flag (pENG (4 * crew + k)) F.HDR.PSTS.HELD = true ∧ s.flag (pCREW crew) F.HDR.PCTL.HOLD = false) ∧
    (∃ (clk : Nat) (crew : Nat) (s : State), crew < 16 ∧ (s.advance clk).accepts (pCREW crew) = true ∧ (s.crew crew).flags < 256 ∧ (s.crew crew).flagQ.Pairwise (fun a b : Nat × Nat × Nat => b.1 < a.1) ∧ (∀ a ∈ (s.crew crew).flagQ, a.2.1 < 256)) :=
  ⟨⟨8, 5, engAt 0, by decide +kernel⟩,
    ⟨8, 5, (engAt 0).set (pENG 5) F.HDR.PSTS.RUN 0, by decide +kernel⟩,
    ⟨5, engAt 0, by decide +kernel⟩,
    ⟨8, 5, 9, (engAt 0).set (pENG 5) F.HDR.PSTS.HELD 1, by decide +kernel⟩,
    ⟨8, 5, engAt 0, by decide +kernel⟩,
    ⟨8, 1, (engAt 0).set (pCREW 1) (F.CREW.IDLE_OWN.MASK.at 4) 3, by decide +kernel⟩,
    ⟨8, 1, live, by decide +kernel⟩,
    ⟨8, 1, 1, (engAt 0).set (pCREW 1) (F.CREW.IDLE_OWN.MASK.at 4) 6, by decide +kernel⟩,
    ⟨8, 1, 1, (engAt 0).set (pENG 5) F.HDR.PSTS.HELD 1, by decide +kernel⟩,
    ⟨8, 1, live, by decide +kernel⟩⟩

theorem meets_PinsAndMonitors :
    (∃ (clk : Nat) (q : Nat) (off : Nat) (s : State), q < 4 ∧ off ∈ [0x48, 0x4C, 0x50, 0x54] ∧ (s.advance clk).accepts (pPINMUX q) = true) ∧
    (∃ (bank : Nat), bank < 8) ∧
    (∃ (mon : Nat) (i : Nat) (value : Int) (s : State), mon < 8 ∧ s.running (pHMON mon) = true ∧ s.held (pHMON mon) = false ∧ s.get (pHMON mon) F.HMON.CFG.SRC ≠ 0 ∧ hmonBin (s.flag (pHMON mon) F.HMON.CFG.MODE) (s.getS (pHMON mon) F.HMON.LO.LO) (s.get (pHMON mon) F.HMON.W.W) value = HBin.bin i) ∧
    (∃ (clk : Nat) (mon : Nat) (s : State), mon < 8 ∧ (s.advance clk).accepts (pHMON mon) = true) :=
  ⟨⟨8, 1, 0x4C, live, by decide +kernel⟩,
    ⟨1, by decide +kernel⟩,
    ⟨1, 2, 5, ((run [pHMON 1]).set (pHMON 1) F.HMON.CFG.SRC 1).set (pHMON 1) F.HMON.W.W 2, by decide +kernel⟩,
    ⟨8, 1, run [pHMON 1, pHMON 2], by decide +kernel⟩⟩

theorem meets_EventRouting :
    (∃ (page : Nat) (s : State), page < 256 ∧ (runOf page).isSome = true ∧ s.coreOn = true ∧ (guardPage page = true → s.pwr.dieLink = true)) ∧
    (∃ (group : Nat) (r : Nat × Nat × Nat) (s : State), s.page.repeatAt.find? (fun x : Nat × Nat × Nat => x.1 == group) = some r ∧ s.grpPend group = false) ∧
    (∃ (group : Nat) (r : Nat × Nat × Nat) (s : State), s.page.repeatAt.find? (fun x : Nat × Nat × Nat => x.1 == group) = some r ∧ s.grpPend group = true ∧ s.flag pBRIDGE F.BRIDGE.MGRSTS.HELD = false ∧ s.get pIRQ F.IRQ.NDROP.COUNT < 2 ^ 16 - 1) ∧
    (∃ (clk : Nat) (g : Nat) (e : MsixEnt) (s : State), (s.advance clk).accepts pIRQ = true ∧ g < 8 ∧ s.grpPend g = true ∧ s.groute F.IRQ.GROUTE.MSIX_EN g = 1 ∧ s.groute F.IRQ.GROUTE.NOTICE_EN g = 0 ∧ s.bridge.msix[s.groute F.IRQ.GROUTE.VECTOR g]? = some e ∧ e.masked = false) ∧
    (∃ (vector : Nat) (e : MsixEnt) (s : State), s.bridge.msix[vector]? = some e) :=
  ⟨⟨0x69, live.set 0x69 ⟨0x0C, 8, 1⟩ 1, by decide +kernel⟩,
    ⟨3, (3, 99, 5), { live with page := { live.page with repeatAt := [(3, 99, 5)] } }, by decide +kernel⟩,
    ⟨3, (3, 99, 5), grpSt, by decide +kernel⟩,
    ⟨8, 3, ⟨9, 8, false, false⟩, { (grpSt.set pIRQ (F.IRQ.GROUTE.MSIX_EN.at 12) 1).set pIRQ (F.IRQ.GROUTE.NOTICE_EN.at 12) 0 with bridge := { grpSt.bridge with msix := [⟨9, 8, false, false⟩] } }, by decide +kernel⟩,
    ⟨0, ⟨9, 8, true, true⟩, { live with bridge := { live.bridge with msix := [⟨9, 8, true, true⟩] } }, by decide +kernel⟩⟩

theorem meets_PortLinks :
    (∃ (clk : Nat) (port : Nat) (s : State), port < 22 ∧ s.running (pPORT port) = true ∧ s.get (pPORT port) F.PORT.STS.LINK = 0 ∧ (s.advance clk).debounced port (s.get (pPORT port) F.PORT.LINKT.LUP_DB) = true) ∧
    (∃ (clk : Nat) (port : Nat) (s : State), port < 22 ∧ s.running (pPORT port) = true ∧ s.get (pPORT port) F.PORT.STS.LINK = 1 ∧ s.get (pPORT port) F.PORT.CFG.LOOP ≠ 1 ∧ s.get (pPORT port) F.PORT.HOLD_WIN.WIN ≠ 0 ∧ (s.advance clk).debounced port (s.get (pPORT port) F.PORT.LINKT.LDN_DB) = true) ∧
    (∃ (port : Nat) (e : Nat) (s : State), port < 22 ∧ (s.port port).holdEnd = some e) ∧
    (∃ (port : Nat) (s : State), port < 2 ∧ s.running (pPORT port) = true ∧ s.get (pPORT port) F.PORT.STS.LINK = 0 ∧ s.get (pPORT port) F.PORT.CFG.MODE = 0 ∧ s.get (pPORT port) F.PORT.CFG.FALLBACK = 1) ∧
    (∃ (port : Nat) (s : State), port < 22 ∧ s.get (pPORT port) F.PORT.CFG.LOOP ≠ 1) :=
  ⟨⟨200000000, 1, ringSt, by decide +kernel⟩,
    ⟨200000000, 1, upSt, by decide +kernel⟩,
    ⟨1, 8, ringSt.setPort 1 { PortSt.init with holdEnd := some 8 }, by decide +kernel⟩,
    ⟨1, ringSt.set (pPORT 1) F.PORT.CFG.FALLBACK 1, by decide +kernel⟩,
    ⟨1, upSt, by decide +kernel⟩⟩

theorem meets_PortPause :
    (∃ (clk : Nat) (port : Nat) (u : State) (s : State), port < 22 ∧ (s.advance clk).settle port = u ∧ u.pauseReady port = true ∧ u.get (pPORT port) F.PORT.STS.TX_PAUSING = 0 ∧ u.get (pPORT port) F.PORT.WM.HWM ≤ u.inUse port) ∧
    (∃ (port : Nat) (e : Nat) (u : State) (s : State), port < 22 ∧ (s.port port).txPauseAt = some e ∧ (s.advanceT e).settle port = u ∧ u.pauseReady port = true ∧ u.pauseMore port = true) ∧
    (∃ (port : Nat) (s : State), 7 ≤ port ∧ port < 22 ∧ s.running (pPORT port) = true ∧ s.get (pPORT port) F.PORT.CFG.RX_PAUSE = 1) ∧
    (∃ (port : Nat) (e : Nat) (s : State), port < 22 ∧ (s.port port).rxPauseEnd = some e) :=
  ⟨⟨8, 7, (pauseSt.set (pPORT 7) F.PORT.WM.HWM 0).advance 8, pauseSt.set (pPORT 7) F.PORT.WM.HWM 0, by decide +kernel⟩,
    ⟨7, 9, repauseSt.advanceT 9, repauseSt, by decide +kernel⟩,
    ⟨7, pauseSt, by decide +kernel⟩,
    ⟨7, 9, pauseSt.setPort 7 { PortSt.init with rxPauseEnd := some 9 }, by decide +kernel⟩⟩

theorem meets_PortGatesAndStarts :
    (∃ (port : Nat) (s : State), port < 22 ∧ s.running (pPORT port) = true ∧ s.gclRuns port = true) ∧
    (∃ (clk : Nat) (port : Nat) (s : State), port < 22 ∧ (s.advance clk).accepts (pPORT port) = true ∧ s.get (pPORT port) F.PORT.GCL_CFG.SWAP = 0) ∧
    (∃ (port : Nat) (e : Nat) (s : State), port < 22 ∧ (s.port port).swapAfter = some e) ∧
    (∃ (clk : Nat) (port : Nat) (q : Nat) (qs : List Nat) (x : QFrame) (rd : TxRead) (u : State) (s : State), port < 22 ∧ rd.errs = [] ∧ ((if port = 2 ∨ port = 3 then (s.advance clk).noticesDue else s.advance clk).stampsDue.settle port = u) ∧ (u.port port).back = [] ∧ u.pauseReady port = false ∧ u.txReady port u.now = true ∧ u.txOrder port u.now = q :: qs ∧ u.sw.txq.find? (fun y : QFrame => y.port == port && y.q == q) = some x ∧ u.tooOld u.now x = false ∧ u.mayStart port u.now (u.portWire port (u.egressTag port x)) x = true ∧ u.secHeld port x.fr = false ∧ s.running pMACSEC = false) ∧
    (∃ (clk : Nat) (port : Nat) (s : State), port < 22 ∧ (s.advance clk).accepts (pPORT port) = true) :=
  ⟨⟨0, ringSt.set (pPORT 0) F.PORT.GCL_CFG.GCL_EN 1, by decide +kernel⟩,
    ⟨8, 0, live, by decide +kernel⟩,
    ⟨0, 9, ringSt.setPort 0 { PortSt.init with swapAfter := some 9 }, by decide +kernel⟩,
    ⟨8, 1, 7, [6, 5, 4, 3, 2, 1, 0], qfr, rd0, txqSt.advance 8, txqSt, by decide +kernel⟩,
    ⟨8, 0, live, by decide +kernel⟩⟩

theorem meets_ForwardingDatabase :
    (∃ (clk : Nat) (s : State), (s.advance clk).accepts pFDB = true) ∧
    (∃ (clk : Nat) (i : Nat) (s : State), (s.advance clk).accepts pFDB = true ∧ s.fdbFind s.fdbKey.1 s.fdbKey.2 = some i) ∧
    (∃ (clk : Nat) (s : State), (s.advance clk).accepts pFDB = true ∧ s.fdbFind s.fdbKey.1 s.fdbKey.2 = none) ∧
    (∃ (clk : Nat) (i : Nat) (s : State), (s.advance clk).accepts pFDB = true ∧ s.fdbFind s.fdbKey.1 s.fdbKey.2 = none ∧ s.fdbFree s.fdbKey.1 s.fdbKey.2 = some i ∧ s.get pFDB F.FDB.ENTRY.VALID = 1) ∧
    (∃ (clk : Nat) (i : Nat) (s : State), (s.advance clk).accepts pFDB = true ∧ s.fdbFind s.fdbKey.1 s.fdbKey.2 = some i) ∧
    (∃ (clk : Nat) (s : State), (s.advance clk).accepts pFDB = true) ∧
    (∃ (clk : Nat) (s : State), (s.advance clk).accepts pFDB = true) ∧
    (∃ (clk : Nat) (s : State), (s.advance clk).accepts pFDB = true) ∧
    (∃ (index : Nat) (s : State), (s.fdbAt index).valid = true ∧ (s.fdbAt index).fixed = false ∧ s.running pFDB = true ∧ s.held pFDB = false ∧ s.flag pFDB F.FDB.CFG.LEARN_EN = true) :=
  ⟨⟨8, fdbSt, by decide +kernel⟩,
    ⟨8, 4 * fdbBucket 5 0, fdbSt, by decide +kernel⟩,
    ⟨8, live, by decide +kernel⟩,
    ⟨8, 4 * fdbBucket 0 0, live.set pFDB F.FDB.ENTRY.VALID 1, by decide +kernel⟩,
    ⟨8, 4 * fdbBucket 5 0, fdbSt, by decide +kernel⟩,
    ⟨8, fdbSt, by decide +kernel⟩,
    ⟨8, fdbSt, by decide +kernel⟩,
    ⟨8, live, by decide +kernel⟩,
    ⟨4 * fdbBucket 5 0, fdbSt, by decide +kernel⟩⟩

theorem meets_SwitchReceptionAndBuffer :
    (∃ (port : Nat) (i : Nat) (fr : Frame) (chk : RxCheck) (s : State), port < 22 ∧ s.running (pPORT port) = true ∧ s.linkUp port = true ∧ s.rxTest port fr chk = some i) ∧
    (∃ (port : Nat) (fr : Frame) (chk : RxCheck) (s : State), port < 22 ∧ s.running (pPORT port) = true ∧ s.linkUp port = true ∧ s.rxTest port fr chk = none ∧ fr.etype ≠ 0x8808) ∧
    (∃ (e : HsrEnt) (l : List HsrEnt) (s : State), s.sw.hsr = e :: l) ∧
    (∃ (clk : Nat) (bank : Nat) (s : State), bank < 9 ∧ (s.advance clk).accepts pBUFMEM = true) ∧
    (∃ (clk : Nat) (bank : Nat) (s : State), bank < 9 ∧ (s.advance clk).accepts pBUFMEM = true ∧ natBit (s.get pBUFMEM F.BUFMEM.STS.FAILED) bank = true ∧ s.sw.rebuild = none) ∧
    (∃ (bank : Nat) (s : State), bank < 9 ∧ s.sw.rebuild = some bank) ∧
    (∃ (clk : Nat) (k : Nat) (s : State), k < 9 ∧ s.running pBUFMEM = true ∧ s.get pBUFMEM F.BUFMEM.CFG.SCRUB_EN = 1 ∧ natBit (s.get pTALLY F.TALLY.STS.SHED) 0 = false ∧ s.sw.scrubAt + 2000 * s.get pBUFMEM F.BUFMEM.SCRUB.INT ≤ max s.clock clk ∧ natBit (s.get pBUFMEM F.BUFMEM.STS.FAILED) k = false) ∧
    (∃ (clk : Nat) (port : Nat) (s : State), port < 7 ∧ (s.advance clk).accepts pMACSEC = true) ∧
    (∃ (port : Nat) (an : Nat) (s : State), port < 7 ∧ tabGet txAnDefault s.sw.txAn port = an ∧ an < 4) :=
  ⟨⟨1, 2, bigFr, ⟨false, false, false, rd0⟩, upSt, by decide +kernel⟩,
    ⟨1, bigFr, ⟨false, false, true, rd0⟩, upSt, by decide +kernel⟩,
    ⟨⟨1, 2, false, false, false, false, none, 5, false⟩, [], { live with sw := { live.sw with hsr := [⟨1, 2, false, false, false, false, none, 5, false⟩] } }, by decide +kernel⟩,
    ⟨8, 3, live, by decide +kernel⟩,
    ⟨8, 3, live.set pBUFMEM F.BUFMEM.STS.FAILED 8, by decide +kernel⟩,
    ⟨3, { live with sw := { live.sw with rebuild := some 3 } }, by decide +kernel⟩,
    ⟨200000000, 3, (run [pBUFMEM]).set pBUFMEM F.BUFMEM.CFG.SCRUB_EN 1, by decide +kernel⟩,
    ⟨8, 3, live, by decide +kernel⟩,
    ⟨3, 2, { live with sw := { live.sw with txAn := [(3, 2)] } }, by decide +kernel⟩⟩

theorem meets_HostAccesses :
    (∃ (off : Nat) (tag : Nat) (s : State), off < 2 ^ 32 ∧ s.coreOn = true ∧ s.bridge.linkUp = true ∧ s.running pWINDOWS = true ∧ s.bridge.blocked = [] ∧ s.bridge.rh = [] ∧ s.mustWait (hostReqAt off 8 tag true []) = false ∧ natBit (s.winReg (winOf off)) 31 = true ∧ natField (s.winReg (winOf off)) 20 9 = 0 ∧ natBit (s.get pWINDOWS F.WINDOWS.WINSTS.ERR) (winOf off) = false ∧ adrNode (winAddr (s.winReg (winOf off)) off) = s.nid ∧ adrMember (winAddr (s.winReg (winOf off)) off) = s.member ∧ rangeOf (adrLocal (winAddr (s.winReg (winOf off)) off)) = Range.book ∧ off % 8 = 0) ∧
    (∃ (off : Nat) (len : Nat) (tag : Nat) (s : State), off < 2 ^ 32 ∧ s.coreOn = true ∧ s.bridge.linkUp = true ∧ s.running pWINDOWS = true ∧ s.bridge.blocked = [] ∧ s.bridge.rh = [] ∧ s.mustWait (hostReqAt off len tag true []) = false ∧ natBit (s.winReg (winOf off)) 31 = true ∧ natField (s.winReg (winOf off)) 20 9 = 0 ∧ natBit (s.get pWINDOWS F.WINDOWS.WINSTS.ERR) (winOf off) = false ∧ adrNode (winAddr (s.winReg (winOf off)) off) ≠ 0 ∧ adrNode (winAddr (s.winReg (winOf off)) off) ≠ s.nid ∧ adrNode (winAddr (s.winReg (winOf off)) off) < 128) ∧
    (∃ (clk : Nat) (off : Nat) (b0 : Byte) (b1 : Byte) (b2 : Byte) (b3 : Byte) (s : State), off < 2 ^ 32 ∧ s.coreOn = true ∧ s.bridge.linkUp = true ∧ s.running pWINDOWS = true ∧ s.bridge.blocked = [] ∧ s.bridge.rh = [] ∧ s.mustWait { hostReqAt off 4 0 false [some b0, some b1, some b2, some b3] with win := s.winReg (winOf off) } = false ∧ natBit (s.winReg (winOf off)) 31 = true ∧ natBit (s.winReg (winOf off)) 29 = false ∧ natField (s.winReg (winOf off)) 20 9 = 0 ∧ natBit (s.get pWINDOWS F.WINDOWS.WINSTS.ERR) (winOf off) = false ∧ adrNode (winAddr (s.winReg (winOf off)) off) = s.nid ∧ adrMember (winAddr (s.winReg (winOf off)) off) = s.member ∧ adrLocal (winAddr (s.winReg (winOf off)) off) = 0x1000000 + pDATUM * 4096 + 0x58 ∧ (s.advance clk).accepts pDATUM = true) ∧
    (∃ (off : Nat) (data : List (Option Byte)) (s : State), off < 2 ^ 32 ∧ s.coreOn = true ∧ s.bridge.linkUp = true ∧ s.running pWINDOWS = true ∧ (s.bridge.blocked.filter (fun x : HostReq => !x.isRead)).length < 64 ∧ (s.held pBRIDGE = true ∨ s.bridge.blocked = []) ∧ s.mustWait { hostReqAt off data.length 0 false data with win := s.winReg (winOf off) } = true) ∧
    (∃ (clk : Nat) (slot : Nat) (s : State), (s.advance clk).accepts pBRIDGE = true ∧ slot < 256) ∧
    (∃ (n : Nat) (header : List Byte) (frame : List Byte) (l : List Nat) (s : State), s.bridge.txReads = n :: l ∧ slotOk header frame = false ∧ s.get pBRIDGE F.BRIDGE.TX_TAIL.SLOT ≠ (n + 1) % 2 ^ F.BRIDGE.TX_HEAD.SLOT.w) ∧
    (∃ (n : Nat) (header : List Byte) (frame : List Byte) (l : List Nat) (s : State), s.bridge.txReads = n :: l ∧ slotOk header frame = true ∧ s.get pBRIDGE F.BRIDGE.TX_TAIL.SLOT = (n + 1) % 2 ^ F.BRIDGE.TX_HEAD.SLOT.w) ∧
    (∃ (up : Bool) (s : State), s.coreOn = true ∧ (s.bridge.linkUp = up) = False) :=
  ⟨⟨0x100000, 5, winSt 0x80001000, by decide +kernel⟩,
    ⟨0x100000, 12, 5, winSt 0x80003000, by decide +kernel⟩,
    ⟨8, 0x1000000 + pDATUM * 4096 + 0x58, 1, 2, 3, 4, winSt 0x80001000, by decide +kernel⟩,
    ⟨0x1000000, [some 1], { winSt 0x80001000 with regs := ((winSt 0x80001000).set pBRIDGE F.HDR.PSTS.HELD 1).regs }, by decide +kernel⟩,
    ⟨8, 3, run [pBRIDGE], by decide +kernel⟩,
    ⟨3, [], [], [], { run [pBRIDGE] with bridge := { live.bridge with txReads := [3] } }, by decide +kernel⟩,
    ⟨3, leBytes 2 60 ++ [8, 0] ++ List.replicate 12 0, List.replicate 60 0, [], { (run [pBRIDGE]).set pBRIDGE F.BRIDGE.TX_TAIL.SLOT 4 with bridge := { live.bridge with txReads := [3] } }, by decide +kernel⟩,
    ⟨false, winSt 0, by decide +kernel⟩⟩

theorem meets_RingTransactions :
    (∃ (node : Nat) (member : Nat) (tr : Trans) (i : Issuer) (s : State), s.running pBRIDGE = true ∧ s.bridge.issuers.find? (fun i : Issuer => i.node == node && i.member == member) = some i ∧ i.expect = tr.tseq ∧ i.waiting = [] ∧ tr.tseq < 2 ^ 16 ∧ rangeOf (adrLocal tr.addr) = Range.book ∧ wordMask tr.mask = true ∧ s.bridge.blocked = []) ∧
    (∃ (clk : Nat) (node : Nat) (member : Nat) (tr : Trans) (i : Issuer) (s : State), s.running pBRIDGE = true ∧ s.bridge.issuers.find? (fun i : Issuer => i.node == node && i.member == member) = some i ∧ i.expect = tr.tseq ∧ i.waiting = [] ∧ tr.tseq < 2 ^ 16 ∧ s.flag pBRIDGE F.BRIDGE.TGT.OPEN_WR = true ∧ s.fencedMember = false ∧ adrNode tr.addr ≠ 0xFF ∧ adrMember tr.addr = s.member ∧ adrLocal tr.addr = 0x1000000 + pDATUM * 4096 + 0x58 ∧ tr.mask = 15 ∧ (s.advance clk).accepts pDATUM = true ∧ s.bridge.blocked = []) ∧
    (∃ (port : Nat) (node : Nat) (member : Nat) (tr : Trans) (i : Issuer) (s : State), s.running pBRIDGE = true ∧ s.bridge.issuers.find? (fun i : Issuer => i.node == node && i.member == member) = some i ∧ i.expect = tr.tseq ∧ i.waiting = [] ∧ tr.tseq < 2 ^ 16 ∧ s.flag pBRIDGE F.BRIDGE.TGT.OPEN_WR = false ∧ s.protected port = false ∧ s.fencedMember = false ∧ adrNode tr.addr ≠ 0xFF ∧ adrMember tr.addr = s.member ∧ adrLocal tr.addr = 0x1000000 + pDATUM * 4096 + 0x58 ∧ tr.mask = 15 ∧ s.bridge.gather = [] ∧ s.bridge.blocked = []) ∧
    (∃ (clk : Nat) (node : Nat) (member : Nat) (tr : Trans) (i : Issuer) (s : State), s.running pBRIDGE = true ∧ s.bridge.issuers.find? (fun i : Issuer => i.node == node && i.member == member) = some i ∧ i.expect = tr.tseq ∧ i.waiting = [] ∧ tr.tseq < 2 ^ 16 ∧ s.flag pBRIDGE F.BRIDGE.TGT.OPEN_WR = true ∧ s.fencedMember = false ∧ adrNode tr.addr ≠ 0xFF ∧ adrMember tr.addr = s.member ∧ adrLocal tr.addr = 0x1000000 + pDATUM * 4096 + 0x58 ∧ tr.mask = 15 ∧ (s.advance clk).accepts pDATUM = true ∧ s.bridge.blocked = []) ∧
    (∃ (tr : Trans) (o : Outst) (s : State), s.running pBRIDGE = true ∧ s.outOf tr.tag false = some o ∧ s.bridge.blocked = [] ∧ o.win < 16) ∧
    (∃ (tr : Trans) (s : State), s.running pBRIDGE = true ∧ s.outOf tr.tag false = none) ∧
    (∃ (tr : Trans) (o : Outst) (r : HostRead) (s : State), s.running pBRIDGE = true ∧ s.outOf tr.tag true = some o ∧ s.bridge.reads.find? (fun r : HostRead => r.tag == o.hostTag) = some r ∧ r.missing = 1) ∧
    (∃ (node : Nat) (member : Nat) (port : Nat) (due : Nat) (tr : Trans) (i : Issuer) (s : State), s.bridge.issuers.find? (fun i : Issuer => i.node == node && i.member == member) = some i ∧ i.waiting = [(tr, port, due)] ∧ tr.op = 0x10 ∧ rangeOf (adrLocal tr.addr) = Range.book ∧ wordMask tr.mask = true ∧ s.bridge.blocked = []) ∧
    (∃ (tag : Nat) (o : Outst) (s : State), s.bridge.outstanding.find? (fun o : Outst => o.tag == tag) = some o ∧ (o.isRead = true ∨ s.bridge.blocked = []) ∧ o.win < 16) ∧
    (∃ (node : Nat) (member : Nat) (g : Gather) (s : State), s.bridge.gather.find? (fun x : Gather => x.node == node && x.member == member) = some g) ∧
    (∃ (w : Nat) (e : LateErr) (s : State), s.running pBRIDGE = true ∧ s.bridge.llog.length < 32 ∧ (List.range 16).filter (fun w : Nat => natBit (s.winReg w) 31 && natField (s.winReg w) 0 20 == e.addr / 2 ^ 28) = [w]) :=
  ⟨⟨2, 0, ⟨5, 0x10, 0, 255, 1, 0x100008, []⟩, ⟨2, 0, 5, [], 0⟩, issSt, by decide +kernel⟩,
    ⟨8, 2, 0, ⟨5, 0x11, 0, 15, 1, 0x1000000 + pDATUM * 4096 + 0x58, [1, 2, 3, 4, 0, 0, 0, 0]⟩, ⟨2, 0, 5, [], 0⟩, issSt, by decide +kernel⟩,
    ⟨0, 2, 0, ⟨5, 0x11, 0, 15, 1, 0x1000000 + pDATUM * 4096 + 0x58, [1, 2, 3, 4, 0, 0, 0, 0]⟩, ⟨2, 0, 5, [], 0⟩, issSt.set pBRIDGE F.BRIDGE.TGT.OPEN_WR 0, by decide +kernel⟩,
    ⟨8, 2, 0, ⟨5, 0x12, 0, 15, 1, 0x1000000 + pDATUM * 4096 + 0x58, [1, 2, 3, 4, 0, 0, 0, 0]⟩, ⟨2, 0, 5, [], 0⟩, issSt, by decide +kernel⟩,
    ⟨⟨5, 0x13, 3, 15, 1, 0, []⟩, ⟨1, 2, false, 2, 0, 8, 15, 0, 99⟩, { run [pBRIDGE] with bridge := { live.bridge with outstanding := [⟨1, 2, false, 2, 0, 8, 15, 0, 99⟩] } }, by decide +kernel⟩,
    ⟨⟨5, 0x13, 3, 15, 1, 0, []⟩, run [pBRIDGE], by decide +kernel⟩,
    ⟨⟨5, 0x14, 0, 15, 1, 0, [1, 2, 3, 4, 5, 6, 7, 8]⟩, ⟨1, 2, true, 2, 0, 8, 15, 7, 99⟩, ⟨7, 8, 4, 1, []⟩, { run [pBRIDGE] with bridge := { live.bridge with outstanding := [⟨1, 2, true, 2, 0, 8, 15, 7, 99⟩], reads := [⟨7, 8, 4, 1, []⟩] } }, by decide +kernel⟩,
    ⟨2, 0, 0, 90, ⟨5, 0x10, 0, 255, 1, 0x100008, []⟩, ⟨2, 0, 3, [(⟨5, 0x10, 0, 255, 1, 0x100008, []⟩, 0, 90)], 0⟩, { run [pBRIDGE] with bridge := { live.bridge with issuers := [⟨2, 0, 3, [(⟨5, 0x10, 0, 255, 1, 0x100008, []⟩, 0, 90)], 0⟩] } }, by decide +kernel⟩,
    ⟨1, ⟨1, 2, false, 2, 0, 8, 15, 0, 99⟩, { run [pBRIDGE] with bridge := { live.bridge with outstanding := [⟨1, 2, false, 2, 0, 8, 15, 0, 99⟩] } }, by decide +kernel⟩,
    ⟨2, 0, ⟨2, 0, [⟨8, 5, 1⟩], 77⟩, { run [pBRIDGE] with bridge := { live.bridge with gather := [⟨2, 0, [⟨8, 5, 1⟩], 77⟩] } }, by decide +kernel⟩,
    ⟨0, ⟨0x10000000000 * 3, 5, 9⟩, (winSt 0x80003000).set pBRIDGE F.HDR.PSTS.RUN 1, by decide +kernel⟩⟩

theorem meets_RegisterWrites :
    (∃ (clk : Nat) (page : Nat) (off : Nat) (src : Source) (r : RegRow) (fam : Fam) (u : State) (s : State), famOf page = some fam ∧ famOf page ∈ [some Fam.edge, some Fam.plat, some Fam.mscl, some Fam.book, some Fam.windows, some Fam.switch, some Fam.hsr, some Fam.capture, some Fam.slot] ∧ 0x40 ≤ off ∧ off < 4096 ∧ rowAt page off = some r ∧ r.wn = 1 ∧ (s.advance clk).pageNow fam page = u ∧ u.accepts page = true ∧ s.bar0Held page src = false ∧ s.bridge.blocked = []) ∧
    (∃ (page : Nat) (off : Nat) (src : Source) (s : State), s.bar0Held page src = true ∧ s.bridge.linkUp = true ∧ (s.bridge.blocked.filter (fun x : HostReq => !x.isRead)).length < 64 ∧ page < 4096 ∧ off < 4096) ∧
    (∃ (page : Nat) (off : Nat) (src : Source) (run : PageRun) (s : State), s.bar0Held page src = false ∧ s.bridge.blocked = [] ∧ s.coreOn = true ∧ page < 4096 ∧ off < 4096 ∧ runOf page = some run ∧ rowAt page off = none ∧ s.flag pSYS F.SYS.AERR_HI.VALID = false) ∧
    (∃ (clk : Nat) (page : Nat) (fam : Fam) (u : State) (s : State), page ∈ allPages ∧ famOf page = some fam ∧ (s.advance clk).pageNow fam page = u ∧ u.reaches page = true) ∧
    (∃ (clk : Nat) (page : Nat) (fam : Fam) (u : State) (s : State), page ∈ allPages ∧ famOf page = some fam ∧ (s.advance clk).pageNow fam page = u ∧ u.accepts page = true) ∧
    (∃ (clk : Nat) (page : Nat) (fam : Fam) (u : State) (s : State), page ∈ allPages ∧ famOf page = some fam ∧ (s.advance clk).pageNow fam page = u ∧ u.reaches page = true) :=
  ⟨⟨8, pEDGE 0, 0x40, .host, ⟨.edge, 0x40, 8, 0x10, 1, 0x0, 0, 1, 0, 0, 0xFFFFFFFF, 0, 0, 0, 0⟩, .edge, live.advance 8, live, by decide +kernel⟩,
    ⟨pEDGE 0, 0x40, .host, (winSt 0).set pBRIDGE F.HDR.PSTS.HELD 1, by decide +kernel⟩,
    ⟨0x68, 0xFFC, .engine, ⟨0x068, 1, .book, 0x0030⟩, live, by decide +kernel⟩,
    ⟨8, 0x69, .edge, (live.set 0x69 ⟨0x0C, 1, 1⟩ 1).advance 8, live.set 0x69 ⟨0x0C, 1, 1⟩ 1, by decide +kernel⟩,
    ⟨8, 0x69, .edge, live.advance 8, live, by decide +kernel⟩,
    ⟨8, 0x69, .edge, live.advance 8, live, by decide +kernel⟩⟩

theorem meets_PageControl :
    (∃ (page : Nat) (data : Word) (s : State), page ∈ allPages ∧ alwaysOn page = false ∧ s.accepts page = true ∧ s.flag page F.HDR.PCTL.EN = false ∧ natBit data.toNat 2 = false ∧ s.page.stopping.contains page = false ∧ s.page.clearing.contains page = false) ∧
    (∃ (clk : Nat) (page : Nat) (serdes : Bool) (q : State) (u : State) (s : State), page ∈ allPages ∧ alwaysOn page = false ∧ s.page.checks = [page] ∧ s.page.held = [] ∧ s.boot.page ≠ some page ∧ ({ (s.advance clk).serdesNow serdes with page := { s.page with checks := [] } } : State) = q ∧ ((if page = pPLAT then q.set pPLAT F.PLAT.MINLEAD.MIN q.minLead else q) = u) ∧ u.checkPage page = none) ∧
    (∃ (clk : Nat) (page : Nat) (code : Nat) (index : Nat) (serdes : Bool) (q : State) (u : State) (s : State), page ∈ allPages ∧ alwaysOn page = false ∧ s.page.checks = [page] ∧ s.page.held = [] ∧ s.boot.page ≠ some page ∧ ({ (s.advance clk).serdesNow serdes with page := { s.page with checks := [] } } : State) = q ∧ ((if page = pPLAT then q.set pPLAT F.PLAT.MINLEAD.MIN q.minLead else q) = u) ∧ u.checkPage page = some (code, index)) ∧
    (∃ (page : Nat) (data : Word) (s : State), page ∈ allPages ∧ alwaysOn page = false ∧ s.accepts page = true ∧ s.flag page F.HDR.PCTL.EN = true ∧ natBit data.toNat 2 = false ∧ s.dependant page = none) ∧
    (∃ (page : Nat) (q : Nat) (data : Word) (s : State), page ∈ allPages ∧ alwaysOn page = false ∧ s.accepts page = true ∧ s.flag page F.HDR.PCTL.EN = true ∧ natBit data.toNat 2 = false ∧ s.dependant page = some q) ∧
    (∃ (page : Nat) (s : State), page ∈ allPages ∧ s.page.stopping.contains page = true) ∧
    (∃ (page : Nat) (s : State), page ∈ allPages ∧ alwaysOn page = false ∧ s.accepts page = true) ∧
    (∃ (clk : Nat) (page : Nat) (q : State) (r : PageRun) (s : State), ((if famOf page = some Fam.port then (s.advance clk).settle (portOfPage page) else s.advance clk) = q) ∧ runOf page = some r ∧ hasHold r.fam = true ∧ q.running page = true ∧ q.holdSet page = true ∧ q.flag page F.HDR.PSTS.HELD = false ∧ q.atHold page = true) ∧
    (∃ (page : Nat) (s : State), page ∈ allPages ∧ alwaysOn page = false ∧ s.accepts page = true ∧ s.flag page F.HDR.PCTL.EN = true ∧ s.running page = true ∧ s.flag page F.HDR.PCTL.HOLD = true ∧ (famOf page = some Fam.eng → s.flag (pCREW ((page - 0x20) / 4)) F.HDR.PCTL.HOLD = false) ∧ (page = pBRIDGE → s.bridge.blocked = [])) ∧
    (∃ (page : Nat) (s : State), page ∈ allPages ∧ alwaysOn page = false ∧ s.accepts page = true ∧ s.page.clearing.contains page = false ∧ s.dependant page = none) ∧
    (∃ (page : Nat) (s : State), famOf page ∈ [some Fam.edge, some Fam.windows, some Fam.switch, some Fam.fdb, some Fam.hsr, some Fam.capture, some Fam.mscl, some Fam.cycle, some Fam.stamp] ∧ s.page.clearing.contains page = true ∧ tabWf regDefault s.regs = true) ∧
    (∃ (page : Nat) (s : State), page ∈ allPages ∧ s.page.clearing.contains page = true) ∧
    (∃ (page : Nat) (data : Word) (s : State), page ∈ allPages ∧ alwaysOn page = false ∧ s.accepts page = true ∧ natBit data.toNat 2 = false ∧ natBit data.toNat 0 = s.flag page F.HDR.PCTL.EN ∧ natBit data.toNat 1 = s.flag page F.HDR.PCTL.HOLD) ∧
    (∃ (page : Nat) (data : Word) (s : State), page ∈ allPages ∧ alwaysOn page = false ∧ s.accepts page = true ∧ s.flag page F.HDR.PCTL.EN = false ∧ natBit data.toNat 2 = false ∧ natBit data.toNat 0 = true ∧ s.page.stopping.contains page = false ∧ s.page.clearing.contains page = false) ∧
    (∃ (page : Nat) (s : State), page ∈ allPages ∧ s.running page = true ∧ s.flag page F.HDR.PSTS.FAULT = false) :=
  ⟨⟨0x69, 1, live, by decide +kernel⟩,
    ⟨8, 0xA1, true, ({ (chkSt.advance 8).serdesNow true with page := { chkSt.page with checks := [] } } : State), ({ (chkSt.advance 8).serdesNow true with page := { chkSt.page with checks := [] } } : State), chkSt, by decide +kernel⟩,
    ⟨8, pSTAMP, 13, 0, true, ({ (chkSt2.advance 8).serdesNow true with page := { chkSt2.page with checks := [] } } : State), ({ (chkSt2.advance 8).serdesNow true with page := { chkSt2.page with checks := [] } } : State), chkSt2, by decide +kernel⟩,
    ⟨0x69, 0, (run [0x69]).set 0x69 F.HDR.PCTL.EN 1, by decide +kernel⟩,
    ⟨pDATUM, pSTAMP, 0, (run [pDATUM, pSTAMP]).set pDATUM F.HDR.PCTL.EN 1, by decide +kernel⟩,
    ⟨0x69, { run [0x69] with page := { live.page with stopping := [0x69] } }, by decide +kernel⟩,
    ⟨0x68, run [0x68], by decide +kernel⟩,
    ⟨8, 0x68, ((run [0x68]).set 0x68 F.HDR.PCTL.HOLD 1).advance 8, ⟨0x068, 1, .book, 0x0030⟩, (run [0x68]).set 0x68 F.HDR.PCTL.HOLD 1, by decide +kernel⟩,
    ⟨0x68, ((run [0x68]).set 0x68 F.HDR.PCTL.HOLD 1).set 0x68 F.HDR.PCTL.EN 1, by decide +kernel⟩,
    ⟨0x68, run [0x68], by decide +kernel⟩,
    ⟨0x69, { (run [0x69]).wr 0x69 0x40 5 with page := { live.page with clearing := [0x69] } }, by decide +kernel⟩,
    ⟨0xF8, { (run [0xF8]) with page := { live.page with clearing := [0xF8] } }, by decide +kernel⟩,
    ⟨0x68, 0x100, live, by decide +kernel⟩,
    ⟨0x68, 0x101, live, by decide +kernel⟩,
    ⟨0x23, run [0x23], by decide +kernel⟩⟩

theorem meets_PairCopiesAndHeartbeats :
    (∃ (n : Int) (s : State), s.running pDUPLEX = true ∧ s.running pCYCLE = true ∧ s.cycleAt (s.get pDUPLEX F.DUPLEX.COPY_AT.AT) s.dup.copied = n) ∧
    (∃ (payload : List Byte) (k : Nat) (s : State), s.running pDUPLEX = true ∧ (nth payload 8 0).toNat % 16 = k) ∧
    (∃ (rec : CycRecord) (s : State), s.running pDUPLEX = true ∧ s.following = true ∧ rec.len ≤ 65536 ∧ olderCyc (s.get pDUPLEX F.DUPLEX.APPLIED_CYC.CYCLE) rec.cycle = true) ∧
    (∃ (payload : List Byte) (n : Notice) (s : State), s.running pDUPLEX = true ∧ s.following = true ∧ noticesOf payload = [n] ∧ s.dup.log.length < 256) ∧
    (∃ (n : Int) (o : Nat) (s : State), s.running pDUPLEX = true ∧ s.running pCYCLE = true ∧ (s.dupState = some 2 ∨ s.dupState = some 3) ∧ s.dup.heardA = true ∧ s.dup.heardB = false ∧ s.get pDUPLEX F.DUPLEX.COPY_AT.AT + s.get pDUPLEX F.DUPLEX.HB_WIN.WIN = o ∧ s.cycleAt o s.dup.closed = n) ∧
    (∃ (s : State), s.running pDUPLEX = true ∧ s.running pCYCLE = true ∧ s.dupState = some 2 ∧ s.dup.heardA = false ∧ s.dup.heardB = false ∧ s.get pDUPLEX F.DUPLEX.STS.MISSED = 0) ∧
    (∃ (s : State), s.running pDUPLEX = true ∧ s.get pDUPLEX F.DUPLEX.STS.STATE = 0 ∧ 3 ≤ s.dup.bounds) ∧
    (∃ (s : State), s.running pDUPLEX = true) :=
  ⟨⟨(dupSt 2).cycleAt ((dupSt 2).get pDUPLEX F.DUPLEX.COPY_AT.AT) none, dupSt 2, by decide +kernel⟩,
    ⟨List.replicate 8 0 ++ [1] ++ List.replicate 23 0, 1, dupSt 0, by decide +kernel⟩,
    ⟨recSt, dupSt 2, by decide +kernel⟩,
    ⟨List.replicate 16 0, noticeOf (List.replicate 16 0), dupSt 2, by decide +kernel⟩,
    ⟨(beatSt true).cycleAt ((beatSt true).get pDUPLEX F.DUPLEX.COPY_AT.AT + (beatSt true).get pDUPLEX F.DUPLEX.HB_WIN.WIN) none, (beatSt true).get pDUPLEX F.DUPLEX.COPY_AT.AT + (beatSt true).get pDUPLEX F.DUPLEX.HB_WIN.WIN, beatSt true, by decide +kernel⟩,
    ⟨beatSt false, by decide +kernel⟩,
    ⟨{ dupSt 0 with dup := { (dupSt 0).dup with bounds := 3 } }, by decide +kernel⟩,
    ⟨dupSt 2, by decide +kernel⟩⟩

theorem meets_PairDeclarations :
    (∃ (clk : Nat) (s : State), (s.advance clk).accepts pDUPLEX = true ∧ s.dupState = some 1) ∧
    (∃ (clk : Nat) (s : State), (s.advance clk).accepts pDUPLEX = true ∧ s.dupState = some 1) ∧
    (∃ (clk : Nat) (s : State), (s.advance clk).accepts pDUPLEX = true ∧ s.dupState = some 6) ∧
    (∃ (clk : Nat) (k : Nat) (s : State), (s.advance clk).accepts pDUPLEX = true ∧ s.dupState = some k ∧ k ≠ 6) ∧
    (∃ (k : Nat) (payload : List Byte) (s : State), s.dupState = some 1 ∧ (nth payload 8 0).toNat % 16 = k ∧ (k = 1 ∨ k = 5)) ∧
    (∃ (tk : Nat) (s : State), s.dup.tk = some tk ∧ s.dupState = some 4 ∧ s.running pDUPLEX = true ∧ s.stake.q = []) ∧
    (∃ (tk : Nat) (s : State), s.dup.tk = some tk ∧ s.dupState = some 5) :=
  ⟨⟨8, dupSt 1, by decide +kernel⟩,
    ⟨8, dupSt 1, by decide +kernel⟩,
    ⟨8, dupSt 6, by decide +kernel⟩,
    ⟨8, 1, dupSt 1, by decide +kernel⟩,
    ⟨1, List.replicate 8 0 ++ [1] ++ List.replicate 23 0, dupSt 1, by decide +kernel⟩,
    ⟨90, { dupSt 4 with dup := { (dupSt 4).dup with tk := some 90 } }, by decide +kernel⟩,
    ⟨90, { dupSt 5 with dup := { (dupSt 5).dup with tk := some 90 } }, by decide +kernel⟩⟩

theorem meets_GangFormationAndVote :
    (∃ (s : State), s.running pGANGCTL = true) ∧
    (∃ (port : Nat) (m : Nat) (payload : List Byte) (s : State), s.running pGANGCTL = true ∧ s.gang.stopped = false ∧ port = gangPort s.member m ∧ 4 ≤ port ∧ port ≤ 6 ∧ m < 4 ∧ s.helloDiff payload = none) ∧
    (∃ (port : Nat) (m : Nat) (i : Nat) (payload : List Byte) (s : State), s.running pGANGCTL = true ∧ s.gang.stopped = false ∧ port = gangPort s.member m ∧ 4 ≤ port ∧ port ≤ 6 ∧ m < 4 ∧ s.helloDiff payload = some i ∧ s.formed = false) ∧
    (∃ (e : Nat) (m : Nat) (s : State), s.gang.waitEnd = some e ∧ s.running pGANGCTL = true ∧ s.formed = false ∧ s.gang.stopped = false ∧ s.others.find? (fun m : Nat => (s.heardOf m).isNone) = some m) ∧
    (∃ (s : State), s.running pGANGCTL = true) ∧
    (∃ (port : Nat) (m : Nat) (payload : List Byte) (r : TimeMark) (s : State), s.running pGANGCTL = true ∧ s.isLead = false ∧ m = s.actingFor 0 ∧ port = gangPort s.member m ∧ s.gang.timeRx.find? (fun x : TimeMark => x.port == port && x.seq == ofBE (slice payload 12 4)) = some r) ∧
    (∃ (m : Nat) (s : State), s.running pGANGCTL = true ∧ m < 4 ∧ s.memFitted m = true ∧ m ≠ s.member) ∧
    (∃ (n : Int) (s : State), s.formed = true ∧ s.running pCYCLE = true ∧ s.cycleAt (s.get pGANGCTL F.GANGCTL.VOTE.STATE_AT) s.gang.voted = n) ∧
    (∃ (clk : Nat) (s : State), (s.advance clk).accepts pGANGCTL = true ∧ s.memFenced s.member = true) ∧
    (∃ (clk : Nat) (s : State), (s.advance clk).accepts pGANGCTL = true ∧ s.inGang = true ∧ s.running pGANGCTL = true ∧ s.member < 4 ∧ s.memFenced s.member = false) :=
  ⟨⟨gangRun, by decide +kernel⟩,
    ⟨gangPort 0 1, 1, helloOf1, gangRun, by decide +kernel⟩,
    ⟨gangPort 0 1, 1, 0xF9, List.replicate 8 0 ++ [9] ++ List.replicate 20 0, gangRun, by decide +kernel⟩,
    ⟨99, 1, { gangRun with gang := { gangRun.gang with waitEnd := some 99 } }, by decide +kernel⟩,
    ⟨gangRun, by decide +kernel⟩,
    ⟨gangPort 1 0, 0, beBytes 4 6 ++ beBytes 8 40 ++ beBytes 4 5, ⟨gangPort 1 0, 5, 60⟩, { gangRun.set pSYS F.SYS.STRAP.ROLE 5 with gang := { gangRun.gang with timeRx := [⟨gangPort 1 0, 5, 60⟩] } }, by decide +kernel⟩,
    ⟨1, gangRun, by decide +kernel⟩,
    ⟨(gangRun.set pGANGCTL F.GANGCTL.STS.FORMED 1).cycleAt 0 none, gangRun.set pGANGCTL F.GANGCTL.STS.FORMED 1, by decide +kernel⟩,
    ⟨8, gangRun.set pGANGCTL F.GANGCTL.STS.FENCED 1, by decide +kernel⟩,
    ⟨8, gangRun, by decide +kernel⟩⟩

theorem meets_ManagementLease :
    (∃ (node : Nat) (member : Nat) (key : List Byte) (s : State), s.leaseHere = true ∧ node ≠ s.nid ∧ s.otherHolds node member = false ∧ s.leaseKey = some key) ∧
    (∃ (node : Nat) (member : Nat) (s : State), s.leaseHere = true ∧ s.otherHolds node member = true) ∧
    (∃ (key : List Byte) (s : State), s.running pBRIDGE = true ∧ s.leaseKey = some key) ∧
    (∃ (node : Nat) (member : Nat) (proof : List Byte) (key : List Byte) (x : Challenge) (s : State), s.leaseHere = true ∧ s.otherHolds node member = false ∧ s.leaseKey = some key ∧ s.challengeOf node member = some x ∧ s.proofOk key x.bytes proof = true) ∧
    (∃ (node : Nat) (member : Nat) (s : State), s.leaseHere = true ∧ s.otherHolds node member = true) ∧
    (∃ (node : Nat) (member : Nat) (s : State), s.running pBRIDGE = true ∧ s.bridge.mgrOf.any (fun x : Nat × Nat × List Byte × Nat => x.1 == node && x.2.1 == member) = true) ∧
    (∃ (clk : Nat) (node : Nat) (member : Nat) (proof : List Byte) (key : List Byte) (x : Challenge) (s : State), s.leaseHere = true ∧ s.holdsLease node member = true ∧ s.leaseKey = some key ∧ s.bridge.nextChallenge = some x ∧ max s.clock clk < x.born + 2000000000 ∧ s.proofOk key x.bytes proof = true) ∧
    (∃ (clk : Nat) (node : Nat) (member : Nat) (x : Challenge) (s : State), s.leaseHere = true ∧ s.holdsLease node member = true ∧ s.bridge.nextChallenge = some x ∧ x.born + 2000000000 ≤ max s.clock clk) ∧
    (∃ (node : Nat) (member : Nat) (s : State), s.running pBRIDGE = true ∧ s.holdsLease node member = true) ∧
    (∃ (e : Nat) (s : State), s.bridge.leaseEnd = some e ∧ s.flag pBRIDGE F.BRIDGE.MGRSTS.HELD = true) ∧
    (∃ (x : Challenge) (l : List Challenge) (s : State), s.bridge.challenges = x :: l ∧ (∀ n ∈ s.bridge.nextChallenge, x.born ≤ n.born)) ∧
    (∃ (x : Challenge) (s : State), s.bridge.nextChallenge = some x ∧ (∀ c ∈ s.bridge.challenges.head?, x.born < c.born)) ∧
    (∃ (clk : Nat) (s : State), (s.advance clk).accepts pBRIDGE = true ∧ s.flag pBRIDGE F.BRIDGE.MGRSTS.HELD = true) :=
  ⟨⟨2, 0, [7], mgrSt, by decide +kernel⟩,
    ⟨2, 0, (mgrSt.set pBRIDGE F.BRIDGE.MGRSTS.HELD 1).set pBRIDGE F.BRIDGE.MGRSTS.NODE 5, by decide +kernel⟩,
    ⟨[7], mgrSt, by decide +kernel⟩,
    ⟨2, 0, proofOf [7] [1, 2, 3] mgrSt2.identity (beBytes 1 mgrSt2.mon.fuse), [7], ⟨2, 0, [1, 2, 3], 0⟩, mgrSt2, by decide +kernel, by decide +kernel, by decide +kernel, by decide +kernel, by simp [State.proofOk]⟩,
    ⟨2, 0, (mgrSt.set pBRIDGE F.BRIDGE.MGRSTS.HELD 1).set pBRIDGE F.BRIDGE.MGRSTS.NODE 5, by decide +kernel⟩,
    ⟨2, 0, { mgrSt with bridge := { mgrSt.bridge with mgrOf := [(2, 0, [9], 0)] } }, by decide +kernel⟩,
    ⟨8, 2, 0, proofOf [7] [1, 2, 3] mgrSt3.identity (beBytes 1 mgrSt3.mon.fuse), [7], ⟨2, 0, [1, 2, 3], 0⟩, mgrSt3, by decide +kernel, by decide +kernel, by decide +kernel, by decide +kernel, by decide +kernel, by simp [State.proofOk]⟩,
    ⟨3000000000, 2, 0, ⟨2, 0, [1, 2, 3], 0⟩, mgrSt3, by decide +kernel⟩,
    ⟨2, 0, mgrSt3, by decide +kernel⟩,
    ⟨99, { mgrSt3 with bridge := { mgrSt3.bridge with leaseEnd := some 99 } }, by decide +kernel⟩,
    ⟨⟨2, 0, [1, 2, 3], 0⟩, [], mgrSt2, by decide +kernel⟩,
    ⟨⟨2, 0, [1, 2, 3], 0⟩, mgrSt3, by decide +kernel⟩,
    ⟨8, mgrSt3, by decide +kernel⟩⟩

theorem meets_BootSteps :
    (∃ (s : State), s.coreOn = true ∧ s.get pSYS F.SYS.BOOTSTS.STAGE = 0) ∧
    (∃ (s : State), s.coreOn = true ∧ s.get pSYS F.SYS.BOOTSTS.STAGE = 1) ∧
    (∃ (s : State), s.coreOn = true ∧ s.get pSYS F.SYS.BOOTSTS.STAGE = 2 ∧ s.get pSYS F.SYS.STRAP.BOOT ≠ 2) ∧
    (∃ (s : State), s.coreOn = true ∧ s.get pSYS F.SYS.BOOTSTS.STAGE = 2 ∧ s.get pSYS F.SYS.STRAP.BOOT = 2 ∧ s.page.held = []) ∧
    (∃ (s : State), s.coreOn = true ∧ s.get pSYS F.SYS.BOOTSTS.STAGE = 2) ∧
    (∃ (clk : Nat) (s : State), (s.advance clk).accepts pSYS = true ∧ s.get pSYS F.SYS.BOOTSTS.STAGE = 3 ∧ (s.get pSYS F.SYS.STRAP.BOOT = 1 ∨ s.boot.ring = true)) ∧
    (∃ (clk : Nat) (s : State), (s.advance clk).accepts pSYS = true ∧ s.get pSYS F.SYS.BOOTSTS.STAGE = 3 ∧ s.get pSYS F.SYS.BOOTCTL.GO = 0 ∧ s.boot.ring = true) ∧
    (∃ (s : State), s.coreOn = true ∧ s.get pSYS F.SYS.BOOTSTS.STAGE = 3 ∧ (s.get pSYS F.SYS.STRAP.BOOT = 0 ∨ s.get pSYS F.SYS.BOOTCTL.GO = 1)) ∧
    (∃ (s : State), s.coreOn = true ∧ s.get pSYS F.SYS.BOOTSTS.STAGE = 3 ∧ s.get pSYS F.SYS.STRAP.BOOT = 1 ∧ s.get pSYS F.SYS.BOOTCTL.GO = 1 ∧ s.boot.ring = false) ∧
    (∃ (u : Bool) (s : State), s.coreOn = true ∧ s.get pSYS F.SYS.BOOTSTS.STAGE = 4 ∧ s.judgeImage s.boot.image = (0, u) ∧ s.boot.ring = false) ∧
    (∃ (e : Nat) (u : Bool) (s : State), s.coreOn = true ∧ s.get pSYS F.SYS.BOOTSTS.STAGE = 4 ∧ s.judgeImage s.boot.image = (e, u) ∧ e ≠ 0 ∧ s.get pSYS F.SYS.STRAP.BOOT = 0 ∧ s.get pSYS F.SYS.BOOTSTS.ALT = 0 ∧ e ≤ 3) ∧
    (∃ (e : Nat) (u : Bool) (s : State), s.coreOn = true ∧ s.get pSYS F.SYS.BOOTSTS.STAGE = 4 ∧ s.judgeImage s.boot.image = (e, u) ∧ e ≠ 0 ∧ (s.get pSYS F.SYS.STRAP.BOOT ≠ 0 ∨ s.get pSYS F.SYS.BOOTSTS.ALT = 1 ∨ 3 < e)) :=
  ⟨⟨State.reset, by decide +kernel⟩,
    ⟨bootSt 1, by decide +kernel⟩,
    ⟨bootSt 2, by decide +kernel⟩,
    ⟨(bootSt 2).set pSYS F.SYS.STRAP.BOOT 2, by decide +kernel⟩,
    ⟨bootSt 2, by decide +kernel⟩,
    ⟨8, (bootSt 3).set pSYS F.SYS.STRAP.BOOT 1, by decide +kernel⟩,
    ⟨8, { bootSt 3 with boot := { (bootSt 3).boot with ring := true } }, by decide +kernel⟩,
    ⟨(bootSt 3).set pSYS F.SYS.STRAP.BOOT 0, by decide +kernel⟩,
    ⟨((bootSt 3).set pSYS F.SYS.STRAP.BOOT 1).set pSYS F.SYS.BOOTCTL.GO 1, by decide +kernel⟩,
    ⟨false, { bootSt 4 with boot := { (bootSt 4).boot with image := imgOne } }, by decide +kernel⟩,
    ⟨1, false, { (bootSt 4).set pSYS F.SYS.STRAP.BOOT 0 with boot := { (bootSt 4).boot with image := [1, 2] } }, by decide +kernel⟩,
    ⟨1, false, { (bootSt 4).set pSYS F.SYS.STRAP.BOOT 1 with boot := { (bootSt 4).boot with image := [1, 2] } }, by decide +kernel⟩⟩

theorem meets_BootEntries :
    (∃ (page : Nat) (body : List Byte) (s : State), s.entryReady 1 = true ∧ s.entry = (1, page, body) ∧ (s.nid = 0 ∧ (page = pPORT 0 ∨ page = pPORT 1))) ∧
    (∃ (page : Nat) (body : List Byte) (s : State), s.entryReady 1 = true ∧ s.entry = (1, page, body) ∧ (s.nid ≠ 0 ∨ (page ≠ pPORT 0 ∧ page ≠ pPORT 1)) ∧ page ∈ allPages ∧ alwaysOn page = false ∧ s.accepts page = true ∧ s.flag page F.HDR.PCTL.EN = false ∧ s.page.stopping.contains page = false ∧ s.page.clearing.contains page = false ∧ body.length = 4 ∧ natBit (imf body 0 4) 0 = true ∧ natBit (imf body 0 4) 2 = false) ∧
    (∃ (page : Nat) (off : Nat) (body : List Byte) (r : RegRow) (s : State), s.entryReady 1 = true ∧ s.entry = (1, page, body) ∧ famOf page = some Fam.edge ∧ s.accepts page = true ∧ s.flag page F.HDR.PCTL.EN = false ∧ s.page.stopping.contains page = false ∧ s.page.clearing.contains page = false ∧ body.length = 12 ∧ imf body 0 2 = off ∧ natBit (imf body 8 4) 0 = true ∧ natBit (imf body 8 4) 2 = false ∧ 0x40 ≤ off ∧ off < 4096 ∧ rowAt page off = some r ∧ r.wn = 1) ∧
    (∃ (c : Nat) (body : List Byte) (s : State), c < 16 ∧ s.entryReady 2 = true ∧ s.entry = (2, pCREW c, body) ∧ programOk c body = true ∧ s.accepts (pCREW c) = true ∧ s.runEngs c = [] ∧ s.get (pCREW c) F.CREW.SWAP.GO = 0 ∧ s.get (pCREW c) F.CREW.STS.BUSY = 0) ∧
    (∃ (c : Nat) (body : List Byte) (s : State), c < 16 ∧ s.entryReady 2 = true ∧ s.entry = (2, pCREW c, body) ∧ programOk c body = false) ∧
    (∃ (clk : Nat) (page : Nat) (body : List Byte) (s : State), s.entryReady 3 = true ∧ s.entry = (3, page, body) ∧ (s.advance clk).waitMet page (imf body 0 2) (imf body 4 4) (imf body 8 4) = true) ∧
    (∃ (clk : Nat) (page : Nat) (body : List Byte) (s : State), s.entryReady 3 = true ∧ s.entry = (3, page, body) ∧ (s.advance clk).waitMet page (imf body 0 2) (imf body 4 4) (imf body 8 4) = false ∧ s.boot.wait = none) ∧
    (∃ (p : Nat) (off : Nat) (m : Nat) (v : Nat) (due : Nat) (s : State), s.boot.wait = some (p, off, m, v, some due)) :=
  ⟨⟨pPORT 0, [1, 0, 0, 0], (entSt ([1, 0x80, 4, 0, 1, 0, 0, 0])).set pSYS F.SYS.STRAP.NID 0, by decide +kernel⟩,
    ⟨0x69, [1, 0, 0, 0], entSt ([1, 0x69, 4, 0, 1, 0, 0, 0]), by decide +kernel⟩,
    ⟨0x69, 0x40, [0x40, 0, 0, 0, 7, 0, 9, 0, 1, 0, 0, 0], ⟨.edge, 0x40, 8, 0x10, 1, 0x0, 0, 1, 0, 0, 0xFFFFFFFF, 0, 0, 0, 0⟩, entSt ([1, 0x69, 12, 0, 0x40, 0, 0, 0, 7, 0, 9, 0, 1, 0, 0, 0]), by decide +kernel⟩,
    ⟨1, progOne, entSt ([2, 0x11, 40, 0] ++ progOne), by decide +kernel⟩,
    ⟨1, [], entSt ([2, 0x11, 0, 0]), by decide +kernel⟩,
    ⟨8, 0x69, [8, 0, 5, 0, 0xFF, 0, 0, 0, 0, 0, 0, 0], entSt ([3, 0x69, 12, 0, 8, 0, 5, 0, 0xFF, 0, 0, 0, 0, 0, 0, 0]), by decide +kernel⟩,
    ⟨8, 0x69, [8, 0, 5, 0, 0xFF, 0, 0, 0, 1, 0, 0, 0], entSt ([3, 0x69, 12, 0, 8, 0, 5, 0, 0xFF, 0, 0, 0, 1, 0, 0, 0]), by decide +kernel⟩,
    ⟨0x69, 8, 0xFF, 1, 99, { entSt ([3, 0x69, 12, 0]) with boot := { (entSt ([3, 0x69, 12, 0])).boot with wait := some (0x69, 8, 0xFF, 1, some 99) } }, by decide +kernel⟩⟩

theorem meets_ResetsOfTheCoreDie :
    (∃ (s : State), s.pwr.power = Power.coreReset ∧ s.pwr.rstN = true ∧ s.get pSUPPLY F.SUPPLY.STS.PG_CORE = 1) ∧
    (∃ (s : State), s.coreOn = true) ∧
    (∃ (s : State), s.pwr.power = Power.coreReset ∧ s.get pSUPPLY F.SUPPLY.STS.PG_CORE = 1) ∧
    (∃ (clk : Nat) (s : State), (s.advance clk).accepts pRESET = true) ∧
    (∃ (clk : Nat) (s : State), (s.advance clk).accepts pRESET = true) ∧
    (∃ (due : Nat) (s : State), s.rst.wdog = some due ∧ s.coreOn = true ∧ s.pwr.rstN = true ∧ (s.flag pRESET F.RESET.WDOG.FAULT_FIRST = false ∨ s.dupState ≠ some 1)) ∧
    (∃ (due : Nat) (s : State), s.rst.wdog = some due ∧ s.flag pRESET F.RESET.WDOG.FAULT_FIRST = true ∧ s.dupState = some 1) ∧
    (∃ (due : Nat) (s : State), s.rst.delayed = some due ∧ s.coreOn = true ∧ s.pwr.rstN = true) ∧
    (∃ (clk : Nat) (s : State), (s.advance clk).accepts pRESET = true) ∧
    (∃ (due : Nat) (s : State), s.rst.cmd = some due ∧ s.coreOn = true ∧ s.pwr.rstN = true) ∧
    (∃ (clk : Nat) (map : Nat) (p : Nat) (b : Nat) (s : State), (s.advance clk).accepts pRESET = true ∧ b < 18 ∧ natBit map b = true ∧ p ∈ domainPages b ∧ s.page.domains.contains b = false) :=
  ⟨⟨heldSt, by decide +kernel⟩,
    ⟨(run [0x69, pENG 5]).set 0x69 F.HDR.PCTL.EN 1, by decide +kernel⟩,
    ⟨{ heldSt with pwr := { heldSt.pwr with rstN := false } }, by decide +kernel⟩,
    ⟨8, live, by decide +kernel⟩,
    ⟨8, live.set pRESET F.RESET.WDOG.EN 1, by decide +kernel⟩,
    ⟨99, { live with rst := { live.rst with wdog := some 99 } }, by decide +kernel⟩,
    ⟨99, { (dupSt 1).set pRESET F.RESET.WDOG.FAULT_FIRST 1 with rst := { live.rst with wdog := some 99 } }, by decide +kernel⟩,
    ⟨99, { live with rst := { live.rst with delayed := some 99 } }, by decide +kernel⟩,
    ⟨8, live, by decide +kernel⟩,
    ⟨99, { live with rst := { live.rst with cmd := some 99 } }, by decide +kernel⟩,
    ⟨8, 3, pENG 5, 1, (run [pENG 5]).set (pENG 5) F.HDR.PCTL.LOCK 1, by decide +kernel⟩⟩

theorem meets_PowerStates :
    (∃ (clk : Nat) (s : State), (s.advance clk).accepts pSYS = true ∧ s.get pSYS F.SYS.PSTATE.BUSY = 0 ∧ s.get pSYS F.SYS.PSTATE.CUR = 1 ∧ s.planOn = false) ∧
    (∃ (clk : Nat) (s : State), (s.advance clk).accepts pSYS = true ∧ s.get pSYS F.SYS.PSTATE.BUSY = 0 ∧ s.get pSYS F.SYS.PSTATE.CUR = 0 ∧ s.planOn = false ∧ s.role = 0 ∧ watchBlockers.find? s.running = none) ∧
    (∃ (clk : Nat) (p : Nat) (s : State), (s.advance clk).accepts pSYS = true ∧ s.get pSYS F.SYS.PSTATE.BUSY = 0 ∧ s.get pSYS F.SYS.PSTATE.CUR = 0 ∧ s.planOn = false ∧ s.role = 0 ∧ watchBlockers.find? s.running = some p) ∧
    (∃ (clk : Nat) (s : State), (s.advance clk).accepts pSYS = true ∧ s.get pSYS F.SYS.PSTATE.BUSY = 0 ∧ s.get pSYS F.SYS.PSTATE.CUR < 2 ∧ s.planOn = false) ∧
    (∃ (clk : Nat) (s : State), (s.advance clk).accepts pSYS = true ∧ s.get pSYS F.SYS.PSTATE.BUSY = 0 ∧ s.get pSYS F.SYS.PSTATE.CUR ≠ 3) ∧
    (∃ (clk : Nat) (s : State), (s.advance clk).accepts pSYS = true ∧ s.get pSYS F.SYS.PSTATE.BUSY = 0 ∧ s.get pSYS F.SYS.PSTATE.CUR = 0 ∧ s.planOn = true) ∧
    (∃ (clk : Nat) (s : State), (s.advance clk).accepts pSYS = true ∧ s.get pSYS F.SYS.PSTATE.BUSY = 1) ∧
    (∃ (p : Power) (s : State), s.pwr.target = some p ∧ s.pwr.stored = none) ∧
    (∃ (s : State), s.pwr.power = Power.noSupply) ∧
    (∃ (s : State), (s.pwr.power = Power.noSupply ∨ s.pwr.power = Power.battery)) ∧
    (∃ (s : State), s.guardOn = true) :=
  ⟨⟨8, live.set pSYS F.SYS.PSTATE.CUR 1, by decide +kernel⟩,
    ⟨8, live, by decide +kernel⟩,
    ⟨8, pCAN 2, run [pCAN 2], by decide +kernel⟩,
    ⟨8, live, by decide +kernel⟩,
    ⟨8, live, by decide +kernel⟩,
    ⟨8, live.set pTALLY F.TALLY.STS.PLAN 1, by decide +kernel⟩,
    ⟨8, live.set pSYS F.SYS.PSTATE.BUSY 1, by decide +kernel⟩,
    ⟨Power.watch, { live with pwr := { live.pwr with target := some Power.watch } }, by decide +kernel⟩,
    ⟨{ live with pwr := { live.pwr with power := .noSupply } }, by decide +kernel⟩,
    ⟨{ live with pwr := { live.pwr with power := .battery } }, by decide +kernel⟩,
    ⟨live, by decide +kernel⟩⟩

theorem meets_DieLinkAndEventLines :
    (∃ (s : State), s.coreOn = true ∧ s.pwr.dieLink = true) ∧
    (∃ (clk : Nat) (line : Nat) (r : Rec) (l : List Rec) (s : State), (s.advance clk).lineLive line = true ∧ line < s.pwr.lines.length ∧ (s.line line).waiting = r :: l ∧ (s.line line).toggled = [] ∧ (s.line line).last.all (fun x : Nat => decide (x + 200 ≤ max s.clock clk)) = true) ∧
    (∃ (clk : Nat) (line : Nat) (r : Rec) (l : List Rec) (s : State), (s.advance clk).lineLive line = true ∧ line < s.pwr.lines.length ∧ (s.line line).toggled = r :: l) :=
  ⟨⟨live, by decide +kernel⟩,
    ⟨8, 7, guardRec 0x61 0 0 [], [], live.guardEvent 7 (guardRec 0x61 0 0 []), by decide +kernel⟩,
    ⟨8, 7, guardRec 0x61 0 0 [], [], (live.guardEvent 7 (guardRec 0x61 0 0 [])).lineToggle 7, by decide +kernel⟩⟩

theorem meets_SlotChannels :
    (∃ (slot : Nat) (s : State), slot < 8 ∧ (s.slotState slot = slotRAMP ∨ s.slotState slot = slotON)) ∧
    (∃ (clk : Nat) (slot : Nat) (s : State), slot < 8 ∧ (s.slotState slot = slotRAMP ∨ s.slotState slot = slotON) ∧ (s.slot slot).timerFrom + s.get (pSLOT slot) F.SLOT.TIMER.FAULT_T * msHns ≤ max s.clock clk) ∧
    (∃ (slot : Nat), slot < 8) ∧
    (∃ (slot : Nat) (s : State), slot < 8 ∧ s.slotState slot = slotRAMP) ∧
    (∃ (slot : Nat) (s : State), slot < 8 ∧ (s.slotState slot = slotRAMP ∨ s.slotState slot = slotON) ∧ s.get (pSLOT slot) F.SLOT.STS.PG = 0) ∧
    (∃ (slot : Nat) (s : State), slot < 8 ∧ (s.slotState slot = slotRAMP ∨ s.slotState slot = slotON) ∧ s.get (pSLOT slot) F.SLOT.STS.PG = 0) ∧
    (∃ (slot : Nat) (s : State), slot < 8 ∧ s.get (pSLOT slot) F.SLOT.STS.PG = 1) ∧
    (∃ (slot : Nat) (s : State), slot < 8 ∧ s.slotState slot = slotCOOL ∧ (s.slot slot).insEnd ≤ max s.clock (s.slot slot).coolEnd ∧ s.held (pSLOT slot) = false) ∧
    (∃ (slot : Nat) (s : State), slot < 8 ∧ s.slotState slot = slotWAIT ∧ (s.slot slot).coolEnd ≤ max s.clock (s.slot slot).insEnd ∧ s.held (pSLOT slot) = false) ∧
    (∃ (slot : Nat) (s : State), slot < 8 ∧ s.get (pSLOT slot) F.SLOT.STS.PRESENT = 1 ∧ s.slotState slot ≠ slotOFF ∧ s.flag (pSLOT slot) F.SLOT.CFG.PRES_IGNORE = false) ∧
    (∃ (slot : Nat) (s : State), slot < 8 ∧ s.get (pSLOT slot) F.SLOT.STS.PRESENT = 0 ∧ s.slotState slot = slotVACANT ∧ s.get (pSLOT slot) F.SLOT.STS.LATCH = 0 ∧ 0 < s.get (pSLOT slot) F.SLOT.PG.INS_DB) ∧
    (∃ (slot : Nat) (s : State), slot < 8 ∧ (s.slot slot).onPin = true ∧ s.flag (pSLOT slot) F.SLOT.CFG.ON_PIN = true) ∧
    (∃ (clk : Nat) (slot : Nat) (low : Nat) (s : State), slot < 8 ∧ (s.slot slot).onPin = false ∧ (s.slot slot).onLow = some low ∧ low + msHns ≤ max s.clock clk ∧ s.slotState slot = slotLATCHED ∧ s.get (pSLOT slot) F.SLOT.STS.LATCH = 1 ∧ s.held (pSLOT slot) = true) :=
  ⟨⟨2, slotSt 4, by decide +kernel⟩,
    ⟨4000000000, 2, slotSt 3, by decide +kernel⟩,
    ⟨2, by decide +kernel⟩,
    ⟨2, slotSt 3, by decide +kernel⟩,
    ⟨2, slotSt 3, by decide +kernel⟩,
    ⟨2, slotSt 3, by decide +kernel⟩,
    ⟨2, (slotSt 4).set (pSLOT 2) F.SLOT.STS.PG 1, by decide +kernel⟩,
    ⟨2, slotSt 5, by decide +kernel⟩,
    ⟨2, slotSt 2, by decide +kernel⟩,
    ⟨2, (slotSt 4).set (pSLOT 2) F.SLOT.STS.PRESENT 1, by decide +kernel⟩,
    ⟨2, (slotSt 1).set (pSLOT 2) F.SLOT.PG.INS_DB 5, by decide +kernel⟩,
    ⟨2, ((slotSt 4).setSlot 2 { (slotSt 4).slot 2 with onPin := true }).set (pSLOT 2) F.SLOT.CFG.ON_PIN 1, by decide +kernel⟩,
    ⟨3000000, 2, 0, ((((slotSt 6).setSlot 2 { (slotSt 6).slot 2 with onPin := false, onLow := some 0 }).set (pSLOT 2) F.SLOT.STS.LATCH 1).set (pSLOT 2) F.HDR.PCTL.HOLD 1).set (pSLOT 2) F.HDR.PSTS.HELD 1, by decide +kernel⟩⟩

theorem meets_InputSupplies :
    (∃ (input : Nat) (s : State), s.guardOn = true ∧ input < 2) ∧
    (∃ (input : Nat) (s : State), s.guardOn = true ∧ input < 2 ∧ s.get pSUPPLY (inValid input) = 0) ∧
    (∃ (input : Nat) (s : State), s.guardOn = false ∧ input < 2) ∧
    (∃ (since : Nat) (s : State), s.guardOn = true ∧ s.supply.sinceA = some since ∧ s.supply.mainLost = true) ∧
    (∃ (p : Nat) (since : Nat) (s : State), s.guardOn = true ∧ s.inForce F.SUPPLY.CFG.PREF = p ∧ s.inForce F.SUPPLY.CFG.MODE = 1 ∧ s.usable p = true ∧ s.sinceOf p = some since) ∧
    (∃ (input : Nat) (s : State), s.guardOn = true ∧ input < 2 ∧ s.inForce F.SUPPLY.CFG.MODE = 0) ∧
    (∃ (s : State), s.guardOn = true) ∧
    (∃ (s : State), s.guardOn = true ∧ s.get pSUPPLY F.SUPPLY.STS.PG_CORE = 1 ∧ s.get pTALLY F.TALLY.STS.WARN = 0) :=
  ⟨⟨0, (run [pTALLY]).set pSUPPLY F.SUPPLY.STS.A_VALID 1, by decide +kernel⟩,
    ⟨1, (live.set pSUPPLY F.SUPPLY.STS.A_VALID 1).set pSUPPLY F.SUPPLY.STS.B_VALID 0, by decide +kernel⟩,
    ⟨1, { live with pwr := { live.pwr with power := .battery } }, by decide +kernel⟩,
    ⟨0, { live.set pTALLY F.TALLY.STS.PLAN 1 with supply := { live.supply with sinceA := some 0, mainLost := true } }, by decide +kernel⟩,
    ⟨0, 0, { live.set pSUPPLY F.SUPPLY.STS.A_VALID 1 with supply := { live.supply with sinceA := some 0, force := [2, 0, 0, 0, 0] } }, by decide +kernel⟩,
    ⟨0, live.set pSUPPLY F.SUPPLY.STS.A_VALID 1, by decide +kernel⟩,
    ⟨live, by decide +kernel⟩,
    ⟨(live.set pSUPPLY F.SUPPLY.STS.PG_CORE 1).set pSUPPLY F.SUPPLY.STS.PFW 1, by decide +kernel⟩⟩

theorem meets_CoreRails :
    (∃ (since : Nat) (s : State), s.startSince = some since ∧ s.pwr.power = Power.keep ∧ s.supply.phase = RailPhase.off ∧ s.supply.rfAt = none ∧ s.get pSUPPLY F.SUPPLY.STS.RF_LATCH = 0) ∧
    (∃ (enter : Nat) (i : Nat) (since : Nat) (s : State), s.supply.phase = RailPhase.ramp i since ∧ i < 5 ∧ since ≤ enter ∧ enter ≤ since + s.inForce F.SUPPLY.SEQ.RAMP_TO * msHns) ∧
    (∃ (enter : Nat) (since : Nat) (s : State), s.supply.phase = RailPhase.ramp 5 since ∧ since ≤ enter ∧ enter ≤ since + s.inForce F.SUPPLY.SEQ.RAMP_TO * msHns) ∧
    (∃ (i : Nat) (since : Nat) (s : State), s.supply.phase = RailPhase.ramp i since ∧ i < 6) ∧
    (∃ (map : Nat) (r : Nat) (s : State), s.guardOn = true ∧ s.supply.phase = RailPhase.up ∧ upOrder.find? (natBit map) = some r) ∧
    (∃ (since : Nat) (s : State), s.supply.phase = RailPhase.lower since) ∧
    (∃ (i : Nat) (since : Nat) (s : State), s.supply.phase = RailPhase.fall i since) ∧
    (∃ (due : Nat) (since : Nat) (s : State), s.supply.rfAt = some due ∧ s.pwr.power = Power.keep ∧ s.supply.phase = RailPhase.off ∧ s.startSince = some since ∧ s.get pSUPPLY F.SUPPLY.STS.RF_LATCH = 0 ∧ since + s.startDb ≤ max s.clock due) ∧
    (∃ (clk : Nat) (s : State), (s.advance clk).accepts pSUPPLY = true) :=
  ⟨⟨0, keepSt, by decide +kernel⟩,
    ⟨0, 2, 0, { keepSt with supply := { keepSt.supply with phase := .ramp 2 0 } }, by decide +kernel⟩,
    ⟨0, 0, { keepSt with supply := { keepSt.supply with phase := .ramp 5 0 } }, by decide +kernel⟩,
    ⟨2, 0, { keepSt with supply := { keepSt.supply with phase := .ramp 2 0 } }, by decide +kernel⟩,
    ⟨3, 0, upRails, by decide +kernel⟩,
    ⟨0, { keepSt with supply := { keepSt.supply with phase := .lower 0 } }, by decide +kernel⟩,
    ⟨4, 0, { keepSt with supply := { keepSt.supply with phase := .fall 4 0 } }, by decide +kernel⟩,
    ⟨999999999, 0, { keepSt with supply := { keepSt.supply with rfAt := some 999999999 } }, by decide +kernel⟩,
    ⟨8, live.set pSUPPLY F.SUPPLY.STS.RF_LATCH 1, by decide +kernel⟩⟩

theorem meets_TallyAndPlan :
    (∃ (s : State), s.guardOn = true ∧ s.running pTALLY = false) ∧
    (∃ (s : State), s.guardOn = true ∧ s.running pTALLY = true ∧ s.get pTALLY F.TALLY.STS.PLAN ≠ 1) ∧
    (∃ (adc : List Nat) (s : State), s.guardOn = true ∧ s.running pTALLY = true ∧ s.get pTALLY F.TALLY.STS.PLAN = 1 ∧ s.pwr.target ≠ some Power.watch ∧ s.hupBad adc = true ∧ s.isShed 2 = false) ∧
    (∃ (s : State), s.guardOn = true ∧ s.get pTALLY F.TALLY.STS.PLAN = 2 ∧ s.aDone = true) ∧
    (∃ (since : Nat) (s : State), s.guardOn = true ∧ s.get pTALLY F.TALLY.STS.PLAN = 2 ∧ s.tally.aStart = some since) ∧
    (∃ (clk : Nat) (s : State), (s.advance clk).accepts pTALLY = true ∧ s.running pTALLY = true ∧ s.held pTALLY = false ∧ s.get pTALLY F.TALLY.STS.LEARNING = 0 ∧ s.mayLearn = true) ∧
    (∃ (s : State), s.guardOn = true ∧ s.running pTALLY = true ∧ s.held pTALLY = false ∧ s.get pTALLY F.TALLY.STS.LEARNING = 0 ∧ s.flag pTALLY F.TALLY.CFG.AUTO_LEARN = true ∧ s.mayLearn = true) ∧
    (∃ (due : Nat) (s : State), s.guardOn = true ∧ s.tally.learnEnd = some due ∧ s.get pTALLY F.TALLY.VHUP.V < s.tally.v1 ∧ s.tally.v1 ≤ 100 * (s.tally.v1 - s.get pTALLY F.TALLY.VHUP.V) ∧ 0 < s.get pTALLY F.TALLY.LEARN.LOAD_OHM) :=
  ⟨⟨live, by decide +kernel⟩,
    ⟨run [pTALLY], by decide +kernel⟩,
    ⟨[4095, 3000, 3000, 3000], (run [pTALLY]).set pTALLY F.TALLY.STS.PLAN 1, by decide +kernel⟩,
    ⟨live.set pTALLY F.TALLY.STS.PLAN 2, by decide +kernel⟩,
    ⟨0, { live.set pTALLY F.TALLY.STS.PLAN 2 with tally := { live.tally with aStart := some 0 } }, by decide +kernel⟩,
    ⟨8, (run [pTALLY]).set pSUPPLY F.SUPPLY.STS.A_VALID 1, by decide +kernel⟩,
    ⟨((run [pTALLY]).set pSUPPLY F.SUPPLY.STS.A_VALID 1).set pTALLY F.TALLY.CFG.AUTO_LEARN 1, by decide +kernel⟩,
    ⟨99, { (live.set pTALLY F.TALLY.VHUP.V 1000).set pTALLY F.TALLY.LEARN.LOAD_OHM 100 with tally := { live.tally with learnEnd := some 99, v1 := 1100 } }, by decide +kernel⟩⟩

theorem meets_MonumentKeys :
    (∃ (clk : Nat) (stage : Bool) (s : State), (s.advance clk).accepts pMONUMENT = true ∧ s.running pMONUMENT = true ∧ s.held pMONUMENT = false ∧ s.get pMONUMENT F.MONUMENT.STS.BUSY = 0 ∧ s.mon.zeroing = none ∧ s.monReady = true ∧ 2 ≤ s.mon.fuse ∧ s.mon.fuse ≤ 4 ∧ 1 ≤ s.monLen ∧ s.monLen ≤ 64 ∧ attrBad s.monAttr 2 = false ∧ firstCode (s.placeTests stage) = 0) ∧
    (∃ (clk : Nat) (i : Nat) (k : KeySlot) (s : State), (s.advance clk).accepts pMONUMENT = true ∧ s.running pMONUMENT = true ∧ s.held pMONUMENT = false ∧ s.get pMONUMENT F.MONUMENT.STS.BUSY = 0 ∧ s.mon.zeroing = none ∧ s.monReady = true ∧ 2 ≤ s.mon.fuse ∧ s.mon.fuse ≤ 4 ∧ 1 ≤ s.monLen ∧ s.monLen ≤ 64 ∧ attrBad s.monAttr 2 = false ∧ s.monDst = some (i, k)) ∧
    (∃ (clk : Nat) (stage : Bool) (s : State), (s.advance clk).accepts pMONUMENT = true ∧ s.running pMONUMENT = true ∧ s.held pMONUMENT = false ∧ s.get pMONUMENT F.MONUMENT.STS.BUSY = 0 ∧ s.mon.zeroing = none ∧ s.monReady = true ∧ 2 ≤ s.mon.fuse ∧ s.mon.fuse ≤ 4 ∧ s.monLen ≤ 512 ∧ attrBad s.monAttr 3 = false ∧ firstCode (s.placeTests stage) = 0 ∧ s.trngOk = true) ∧
    (∃ (clk : Nat) (s : State), (s.advance clk).accepts pMONUMENT = true ∧ s.running pMONUMENT = true ∧ s.held pMONUMENT = false ∧ s.get pMONUMENT F.MONUMENT.STS.BUSY = 0 ∧ s.mon.zeroing = none ∧ s.monReady = true ∧ s.mon.fuse = 2 ∧ s.monLen ≤ 512 ∧ (s.key 1).filled = false ∧ s.trngOk = true) ∧
    (∃ (clk : Nat) (stage : Bool) (s : State), (s.advance clk).accepts pMONUMENT = true ∧ s.running pMONUMENT = true ∧ s.held pMONUMENT = false ∧ s.get pMONUMENT F.MONUMENT.STS.BUSY = 0 ∧ s.mon.zeroing = none ∧ s.monReady = true ∧ s.mon.fuse = 2 ∧ s.monLen = 32 ∧ attrBad s.monAttr 0 = false ∧ firstCode (s.placeTests stage) = 0) ∧
    (∃ (clk : Nat) (stage : Bool) (i : Nat) (k : KeySlot) (s : State), (s.advance clk).accepts pMONUMENT = true ∧ s.running pMONUMENT = true ∧ s.held pMONUMENT = false ∧ s.get pMONUMENT F.MONUMENT.STS.BUSY = 0 ∧ s.mon.zeroing = none ∧ s.monReady = true ∧ (s.mon.fuse = 2 ∨ s.mon.fuse = 3) ∧ s.monLen = 60 ∧ attrBad s.monAttr 1 = false ∧ s.monSrc = some (i, k) ∧ s.mayUse k useWRAP = true ∧ firstCode (s.placeTests stage) = 0) ∧
    (∃ (clk : Nat) (i : Nat) (k : KeySlot) (s : State), (s.advance clk).accepts pMONUMENT = true ∧ s.running pMONUMENT = true ∧ s.held pMONUMENT = false ∧ s.get pMONUMENT F.MONUMENT.STS.BUSY = 0 ∧ s.mon.zeroing = none ∧ s.monReady = true ∧ 2 ≤ s.mon.fuse ∧ s.mon.fuse ≤ 4 ∧ s.monLen = 48 ∧ s.monDst = some (i, k) ∧ k.stage % 4 ≠ 0) ∧
    (∃ (clk : Nat) (i : Nat) (k : KeySlot) (s : State), (s.advance clk).accepts pMONUMENT = true ∧ s.running pMONUMENT = true ∧ s.held pMONUMENT = false ∧ s.get pMONUMENT F.MONUMENT.STS.BUSY = 0 ∧ s.mon.zeroing = none ∧ s.monReady = true ∧ 2 ≤ s.mon.fuse ∧ s.mon.fuse ≤ 4 ∧ s.monLen ≤ 512 ∧ s.monDst = some (i, k) ∧ natBit k.stage 2 = true ∧ s.get pTALLY F.TALLY.STS.PLAN ≠ 2) ∧
    (∃ (clk : Nat) (i : Nat) (k : KeySlot) (s : State), (s.advance clk).accepts pMONUMENT = true ∧ s.running pMONUMENT = true ∧ s.held pMONUMENT = false ∧ s.get pMONUMENT F.MONUMENT.STS.BUSY = 0 ∧ s.mon.zeroing = none ∧ s.monReady = true ∧ 2 ≤ s.mon.fuse ∧ s.mon.fuse ≤ 4 ∧ s.monLen ≤ 512 ∧ s.monDst = some (i, k) ∧ k.stage % 4 ≠ 0) ∧
    (∃ (clk : Nat) (i : Nat) (k : KeySlot) (s : State), (s.advance clk).accepts pMONUMENT = true ∧ s.running pMONUMENT = true ∧ s.held pMONUMENT = false ∧ s.get pMONUMENT F.MONUMENT.STS.BUSY = 0 ∧ s.mon.zeroing = none ∧ s.monReady = true ∧ 2 ≤ s.mon.fuse ∧ s.mon.fuse ≤ 4 ∧ s.monLen ≤ 512 ∧ s.monDst = some (i, k)) ∧
    (∃ (clk : Nat) (target : Nat) (s : State), (s.advance clk).accepts pMONUMENT = true ∧ s.running pMONUMENT = true ∧ s.held pMONUMENT = false ∧ s.get pMONUMENT F.MONUMENT.STS.BUSY = 0 ∧ s.mon.zeroing = none ∧ s.monLen = 8 ∧ s.rd pMONUMENT 0x400 = BitVec.ofNat 32 target ∧ target < 8 ∧ s.rd pMONUMENT 0x404 = 0x4C430001 ∧ arrow s.mon.fuse target = true ∧ (s.get pSUPPLY F.SUPPLY.STS.A_VALID = 1 ∨ s.get pSUPPLY F.SUPPLY.STS.B_VALID = 1) ∧ s.trngOk = true) ∧
    (∃ (clk : Nat) (op : Nat) (s : State), (s.advance clk).accepts pMONUMENT = true ∧ s.running pMONUMENT = true ∧ s.held pMONUMENT = false ∧ s.get pMONUMENT F.MONUMENT.STS.BUSY = 0 ∧ s.mon.zeroing = none ∧ (op % 256 = 0 ∨ (17 < op % 256 ∧ op % 256 < 24) ∨ 26 < op % 256)) :=
  ⟨⟨8, false, monSt 2 16 0x10000002, by decide +kernel⟩,
    ⟨8, 3, key3, monDstSt 2 16 0x10000002, by decide +kernel⟩,
    ⟨8, true, monDstSt 3 0 0x30000004, by decide +kernel⟩,
    ⟨8, monSt 2 0 0, by decide +kernel⟩,
    ⟨8, false, monSt 2 32 0x10000002, by decide +kernel⟩,
    ⟨8, false, 3, key3, monSrcSt 3 60 0x10000002, by decide +kernel⟩,
    ⟨8, 3, key3s, monStage 48, by decide +kernel⟩,
    ⟨8, 3, key3s, monStage 0, by decide +kernel⟩,
    ⟨8, 3, key3s, monStage 0, by decide +kernel⟩,
    ⟨8, 3, key3, monDstSt 3 0 0, by decide +kernel⟩,
    ⟨8, 3, monTrans, by decide +kernel⟩,
    ⟨8, 0x55, monSt 2 0 0, by decide +kernel⟩⟩

theorem meets_MonumentUse :
    (∃ (clk : Nat) (i : Nat) (j : Nat) (d : KeySlot) (k : KeySlot) (s : State), (s.advance clk).accepts pMONUMENT = true ∧ s.running pMONUMENT = true ∧ s.held pMONUMENT = false ∧ s.get pMONUMENT F.MONUMENT.STS.BUSY = 0 ∧ s.mon.zeroing = none ∧ s.monReady = true ∧ 2 ≤ s.mon.fuse ∧ s.mon.fuse ≤ 4 ∧ s.monLen = 12 ∧ s.monDst = some (i, d) ∧ s.monSrc = some (j, k) ∧ attrExport d.attr = true ∧ s.stateOk d.attr = true ∧ s.mayUse k useWRAP = true) ∧
    (∃ (clk : Nat) (i : Nat) (k : KeySlot) (s : State), (s.advance clk).accepts pMONUMENT = true ∧ s.running pMONUMENT = true ∧ s.held pMONUMENT = false ∧ s.get pMONUMENT F.MONUMENT.STS.BUSY = 0 ∧ s.mon.zeroing = none ∧ s.monReady = true ∧ 2 ≤ s.mon.fuse ∧ s.mon.fuse ≤ 4 ∧ s.monLen ≤ 512 ∧ s.monSrc = some (i, k) ∧ (s.mayUse k useHMAC = true ∨ s.mayUse k useLEASE = true)) ∧
    (∃ (clk : Nat) (i : Nat) (k : KeySlot) (s : State), (s.advance clk).accepts pMONUMENT = true ∧ s.running pMONUMENT = true ∧ s.held pMONUMENT = false ∧ s.get pMONUMENT F.MONUMENT.STS.BUSY = 0 ∧ s.mon.zeroing = none ∧ s.monReady = true ∧ 2 ≤ s.mon.fuse ∧ s.mon.fuse ≤ 4 ∧ 48 ≤ s.monLen ∧ s.monLen ≤ 512 ∧ s.monSrc = some (i, k) ∧ (s.mayUse k useHMAC = true ∨ s.mayUse k useLEASE = true)) ∧
    (∃ (clk : Nat) (i : Nat) (k : KeySlot) (s : State), (s.advance clk).accepts pMONUMENT = true ∧ s.running pMONUMENT = true ∧ s.held pMONUMENT = false ∧ s.get pMONUMENT F.MONUMENT.STS.BUSY = 0 ∧ s.mon.zeroing = none ∧ s.monReady = true ∧ 2 ≤ s.mon.fuse ∧ s.mon.fuse ≤ 4 ∧ s.monLen = 48 ∧ s.monSrc = some (i, k) ∧ s.mayUse k useSIGN = true ∧ attrType k.attr = 3 ∧ s.trngOk = true) ∧
    (∃ (clk : Nat) (i : Nat) (k : KeySlot) (s : State), (s.advance clk).accepts pMONUMENT = true ∧ s.running pMONUMENT = true ∧ s.held pMONUMENT = false ∧ s.get pMONUMENT F.MONUMENT.STS.BUSY = 0 ∧ s.mon.zeroing = none ∧ s.monReady = true ∧ 2 ≤ s.mon.fuse ∧ s.mon.fuse ≤ 4 ∧ s.monLen ≤ 512 ∧ s.monSrc = some (i, k) ∧ s.stateOk k.attr = true ∧ attrType k.attr = 3) ∧
    (∃ (clk : Nat) (i : Nat) (k : KeySlot) (s : State), (s.advance clk).accepts pMONUMENT = true ∧ s.running pMONUMENT = true ∧ s.held pMONUMENT = false ∧ s.get pMONUMENT F.MONUMENT.STS.BUSY = 0 ∧ s.mon.zeroing = none ∧ s.monReady = true ∧ 2 ≤ s.mon.fuse ∧ s.mon.fuse ≤ 4 ∧ s.monLen = 32 ∧ s.monDst = some (i, k) ∧ (s.key 1).filled = true ∧ attrInternal k.attr = true ∧ s.trngOk = true) ∧
    (∃ (clk : Nat) (i : Nat) (k : KeySlot) (s : State), (s.advance clk).accepts pMONUMENT = true ∧ s.running pMONUMENT = true ∧ s.held pMONUMENT = false ∧ s.get pMONUMENT F.MONUMENT.STS.BUSY = 0 ∧ s.mon.zeroing = none ∧ s.monDst = some (i, k)) ∧
    (∃ (clk : Nat) (i : Nat) (k : KeySlot) (s : State), (s.advance clk).accepts pMONUMENT = true ∧ s.running pMONUMENT = true ∧ s.held pMONUMENT = false ∧ s.get pMONUMENT F.MONUMENT.STS.BUSY = 0 ∧ s.mon.zeroing = none ∧ s.monReady = true ∧ s.mon.fuse = 3 ∧ s.monLen ≤ 32 ∧ s.monSrc = some (i, k) ∧ attrType k.attr = 4 ∧ s.stateOk k.attr = true ∧ attrBad s.monAttr 2 = false ∧ 2 ≤ s.emptySlots.length ∧ s.trngOk = true) ∧
    (∃ (clk : Nat) (i : Nat) (k : KeySlot) (s : State), (s.advance clk).accepts pMONUMENT = true ∧ s.running pMONUMENT = true ∧ s.held pMONUMENT = false ∧ s.get pMONUMENT F.MONUMENT.STS.BUSY = 0 ∧ s.mon.zeroing = none ∧ s.monReady = true ∧ s.mon.fuse = 3 ∧ s.monLen ≤ 512 ∧ s.monSrc = some (i, k) ∧ s.mayUse k useMKA = true) ∧
    (∃ (clk : Nat) (i : Nat) (k : KeySlot) (s : State), (s.advance clk).accepts pMONUMENT = true ∧ s.running pMONUMENT = true ∧ s.held pMONUMENT = false ∧ s.get pMONUMENT F.MONUMENT.STS.BUSY = 0 ∧ s.mon.zeroing = none ∧ s.monReady = true ∧ s.mon.fuse = 3 ∧ s.monLen = 40 ∧ s.monSrc = some (i, k) ∧ s.mayUse k useMKA = true ∧ attrBad s.monAttr 1 = false ∧ firstCode (s.placeTests false) = 0) :=
  ⟨⟨8, 3, 3, key3, key3, monBoth 3 12, by decide +kernel⟩,
    ⟨8, 3, key3, monSrcSt 3 5 0, by decide +kernel⟩,
    ⟨8, 3, key3, monSrcSt 3 50 0, by decide +kernel⟩,
    ⟨8, 3, key3, monSrcSt 3 48 0, by decide +kernel⟩,
    ⟨8, 3, key3, monSrcSt 3 0 0, by decide +kernel⟩,
    ⟨8, 3, key3, (monDstSt 3 32 0).setKey 1 key3, by decide +kernel⟩,
    ⟨8, 3, key3, monDstSt 1 0 0, by decide +kernel⟩,
    ⟨8, 3, key3k, mkaSt, by decide +kernel⟩,
    ⟨8, 3, key3m, (monSrcSt 3 5 0).setKey 3 key3m, by decide +kernel⟩,
    ⟨8, 3, key3m, (monSrcSt 3 40 0x10000002).setKey 3 key3m, by decide +kernel⟩⟩

theorem meets_MonumentEndsAndTamper :
    (∃ (o : MonOp) (s : State), s.guardOn = true ∧ s.mon.op = some o ∧ (o.op ≠ 13 ∨ s.mon.request = none ∨ o.code ≠ 0) ∧ o.out.length ≤ 512) ∧
    (∃ (i : Nat) (since : Nat) (s : State), s.mon.request = some (i, since)) ∧
    (∃ (i : Nat) (at_ : Nat) (ev : Bool) (s : State), s.mon.zeroing = some (i, at_, ev)) ∧
    (∃ (s : State), s.guardOn = true) ∧
    (∃ (clk : Nat) (s : State), (s.advance clk).accepts pMONUMENT = true) ∧
    (∃ (sources : Nat) (hit : Nat) (s : State), s.pwr.power ≠ Power.noSupply ∧ sources % 256 &&& s.armed = hit ∧ hit ≠ 0) ∧
    (∃ (sources : Nat) (s : State), s.pwr.power ≠ Power.noSupply ∧ sources % 256 &&& s.armed = 0) ∧
    (∃ (clk : Nat) (s : State), (s.advance clk).accepts pTAMPER = true ∧ s.get pTAMPER F.TAMPER.STS.LIVE = 0 ∧ s.monReady = false) ∧
    (∃ (clk : Nat) (s : State), (s.advance clk).accepts pTAMPER = true ∧ s.get pTAMPER F.TAMPER.STS.LIVE ≠ 0) ∧
    (∃ (s : State), s.pwr.power = Power.battery) :=
  ⟨⟨⟨0, 7, 0, 0x203, [1, 2, 3, 4, 5], [], 0, []⟩, { monSt 2 0 0 with mon := { (monSt 2 0 0).mon with op := some ⟨0, 7, 0, 0x203, [1, 2, 3, 4, 5], [], 0, []⟩ } }, by decide +kernel⟩,
    ⟨3, 0, { monStage 0 with mon := { (monStage 0).mon with request := some (3, 0) } }, by decide +kernel⟩,
    ⟨3, 0, false, { monStage 0 with mon := { (monStage 0).mon with zeroing := some (3, 0, false) } }, by decide +kernel⟩,
    ⟨live, by decide +kernel⟩,
    ⟨8, live, by decide +kernel⟩,
    ⟨0x20, 0x20, keySt, by decide +kernel⟩,
    ⟨1, keySt, by decide +kernel⟩,
    ⟨8, live.set pMONUMENT F.MONUMENT.STS.COND 2, by decide +kernel⟩,
    ⟨8, live.set pTAMPER F.TAMPER.STS.LIVE 1, by decide +kernel⟩,
    ⟨{ live with pwr := { live.pwr with power := .battery } }, by decide +kernel⟩⟩

end Sys2Proof.Tests
end

section
/-!
PROOFS. The statements of the family on the node and the hub: address errors (R35) and power requests while a transition is in
progress (R41), over the rules for their operations.
-/

open Sys2Proof Sys2Proof.Machine Sys2Proof.Laws

namespace Sys2Proof.Machine

variable (s : State)

/-! Register words outside a field, and the bits that the hub sets. -/

theorem State.tabGet_putWide_ne (p k : Nat) : ∀ (n off v : Nat) (s : State), (∀ i < n, k ≠ regKey p (off + 4 * i)) →
    tabGet regDefault (s.putWide p off n v).regs k = tabGet regDefault s.regs k
  | 0, _, _, _, _ => rfl
  | n + 1, off, v, s, h => by
    have hrest : ∀ i < n, k ≠ regKey p (off + 4 + 4 * i) := fun i hi => by
      have := h (i + 1) (by omega)
      rwa [show off + 4 * (i + 1) = off + 4 + 4 * i by omega] at this
    calc tabGet regDefault ((s.wr p off (w32 v)).putWide p (off + 4) n (v / 2 ^ 32)).regs k
        = tabGet regDefault (s.wr p off (w32 v)).regs k := State.tabGet_putWide_ne p k n _ _ _ hrest
      _ = tabGet regDefault s.regs k := tabGet_tabPut_ne _ _ _ (h 0 (by omega))

/-- The register file outside the words of a field is left. -/
theorem State.tabGet_set_ne {p k : Nat} {f : Fld} (v : Nat) (h : ∀ i < f.words, k ≠ regKey p (f.off + 4 * i)) :
    tabGet regDefault (s.set p f v).regs k = tabGet regDefault s.regs k :=
  State.tabGet_putWide_ne p k _ _ _ _ h

theorem State.setW1c_regs (p : Nat) (f : Fld) : (s.setW1c p f).regs = (s.set p f 1).regs :=
  State.set_regs_congr (by simp) p f 1

theorem State.get_setW1c (p : Nat) (f : Fld) (q : Nat) (g : Fld) : (s.setW1c p f).get q g = (s.set p f 1).get q g :=
  State.get_congr (s.setW1c_regs p f) q g

/-! One event bit of PEVT (R49). -/

theorem pevtBit_words {b : Nat} (hb : b < 32) : (⟨0x0C, b, 1⟩ : Fld).words = 1 := by
  simp only [Fld.words]; omega

theorem pevtBit_fits {b : Nat} (hb : b < 32) : (⟨0x0C, b, 1⟩ : Fld).fits = true := by
  simp [Fld.fits, pevtBit_words hb]

/-- An event that has occurred reads as 1. -/
theorem State.get_event_same {p b : Nat} (hb : b < 32) : (s.event p b).get p ⟨0x0C, b, 1⟩ = 1 := by
  rw [State.event_get, State.get_set_same _ _ _ _ (pevtBit_fits hb)]
  rfl

/-- An event leaves every register but PEVT of its page. -/
theorem State.tabGet_event_ne {p b k : Nat} (hb : b < 32) (hk : k ≠ regKey p 0x0C) :
    tabGet regDefault (s.event p b).regs k = tabGet regDefault s.regs k := by
  rw [State.event_regs]
  refine State.tabGet_set_ne s 1 fun i hi => ?_
  obtain rfl : i = 0 := by rw [pevtBit_words hb] at hi; omega
  exact hk

/-! Address errors (R35). -/

@[simp] theorem State.aerrCapture_mem (addr code : Nat) : (s.aerrCapture addr code).mem = s.mem := by
  simp [State.aerrCapture, State.setW1c]
@[simp] theorem State.aerrCapture_bridge (addr code : Nat) : (s.aerrCapture addr code).bridge = s.bridge := by
  simp [State.aerrCapture, State.setW1c]

theorem State.get_aerrCapture_addrLo (addr code : Nat) :
    (s.aerrCapture addr code).get pSYS F.SYS.AERR_LO.ADDR_LO = addr % 2 ^ 32 := by
  simp (disch := decide) only [State.aerrCapture, State.get_setW1c, State.get_set_apart, State.get_set_same]
  rfl

theorem State.get_aerrCapture_addrHi (addr code : Nat) :
    (s.aerrCapture addr code).get pSYS F.SYS.AERR_HI.ADDR_HI = addr / 2 ^ 32 % 2 ^ 16 := by
  simp (disch := decide) only [State.aerrCapture, State.get_setW1c, State.get_set_apart, State.get_set_same]
  rfl

theorem State.get_aerrCapture_source (addr code : Nat) :
    (s.aerrCapture addr code).get pSYS F.SYS.AERR_HI.SOURCE = code % 2 ^ 3 := by
  simp (disch := decide) only [State.aerrCapture, State.get_setW1c, State.get_set_apart, State.get_set_same]
  rfl

theorem State.get_aerrCapture_valid (addr code : Nat) : (s.aerrCapture addr code).get pSYS F.SYS.AERR_HI.VALID = 1 := by
  simp only [State.aerrCapture, State.get_setW1c]
  exact State.get_set_same _ _ _ _ (by decide)

/-- A capture leaves the bit of ADDR_ERR in PEVT as it finds it. -/
theorem State.get_aerrCapture_addrErr (addr code : Nat) :
    (s.aerrCapture addr code).get pSYS ⟨0x0C, 8, 1⟩ = s.get pSYS ⟨0x0C, 8, 1⟩ := by
  simp (disch := decide) only [State.aerrCapture, State.get_setW1c, State.get_set_apart]

theorem State.addressError_of_free {s : State} {addr : Nat} {src : Source} (h : s.get pSYS F.SYS.AERR_HI.VALID = 0) :
    s.addressError addr src = (s.event pSYS 8).aerrCapture addr (srcCode src) := by
  simp [State.addressError, State.flag, h]

/-- While a capture is held an address error is its event alone. -/
theorem State.addressError_regs_of_captured {s : State} {addr : Nat} {src : Source}
    (h : s.get pSYS F.SYS.AERR_HI.VALID = 1) : (s.addressError addr src).regs = (s.event pSYS 8).regs := by
  simp [State.addressError, State.flag, h]

@[simp] theorem State.addressError_mem (addr : Nat) (src : Source) : (s.addressError addr src).mem = s.mem := by
  unfold State.addressError; split <;> simp
@[simp] theorem State.addressError_bridge (addr : Nat) (src : Source) : (s.addressError addr src).bridge = s.bridge := by
  unfold State.addressError; split <;> simp

theorem srcCode_lt (src : Source) : srcCode src < 2 ^ 3 := by cases src <;> decide

/-! A write of a register that is not there. -/

/-- R34: a write of a page or an offset that is not assigned is an address error and nothing else. -/
theorem State.busWrite_unassigned {s : State} {p off : Nat} (mask data : Word) (src : Source) (hon : s.coreOn = true)
    (h : runOf p = none ∨ rowAt p off = none) :
    s.busWrite p off mask data src = s.addressError (s.issued (s.regAddr p off) src) src := by
  unfold State.busWrite
  split
  next hrun hrow => simp [hrun, hrow] at h
  next => rw [if_pos hon]

/-- A page below the MSI-X table is a register page (R376). -/
theorem State.anyWrite_page {s : State} {p off : Nat} (data : Word) (src : Source) (h : p < 0x1000) :
    s.anyWrite p off data src = s.busWrite p off 0xFFFFFFFF data src := by
  unfold State.anyWrite
  rw [if_neg (by omega)]

@[simp] theorem State.rhGo_regs : s.rhGo.regs = s.regs := by unfold State.rhGo; split <;> rfl
@[simp] theorem State.rhGo_mem : s.rhGo.mem = s.mem := by unfold State.rhGo; split <;> rfl

/-- With nothing of the host held, only what waits in class RH goes on. -/
theorem State.classGo_of_unblocked {s : State} (h : s.bridge.blocked = []) : s.classGo = s.rhGo := by
  simp [State.classGo, h]

/-- After the address error of such a write only what waits in class RH goes on (R34, R392). -/
theorem execRegisterWrite_unassigned {clk page off : Nat} {data : Word} {src : Source} {s : State} (hon : s.coreOn = true)
    (hp : page < 0x1000) (h : runOf page = none ∨ rowAt page off = none) (hheld : s.bar0Held page src = false)
    (hb : s.bridge.blocked = []) :
    execRegisterWrite clk page off data src s = .next
      (((s.advance clk).addressError ((s.advance clk).issued ((s.advance clk).regAddr page off) src) src).rhGo) := by
  have hheld' : (s.advance clk).bar0Held page src = false := hheld
  have hon' : (s.advance clk).coreOn = true := hon
  simp only [execRegisterWrite, hheld', Bool.false_eq_true, if_false]
  rw [State.anyWrite_page data src hp, State.busWrite_unassigned _ _ _ hon' h, State.classGo_of_unblocked (by simpa using hb)]

/-! Power requests (R38–R41). -/

@[simp] theorem State.pstateReject_pwr (cause blocker : Nat) : (s.pstateReject cause blocker).pwr = s.pwr := by
  simp [State.pstateReject, State.setW1c]

/-- While a plan is under way a request for Keep leaves the power state and what is stored (R38). -/
theorem State.pstateAct_keep_pwr {s : State} (h : s.planOn = true) : (s.pstateAct 2).pwr = s.pwr := by
  simp only [State.pstateAct, h, if_true]
  split <;> simp

theorem State.planOn_congr {s t : State} (h : t.regs = s.regs) : t.planOn = s.planOn := by
  simp [State.planOn, State.get_congr h]

/-- A write of another field than TALLY.STS.PLAN neither starts nor ends a plan. -/
theorem State.planOn_set {p : Nat} {f : Fld} (v : Nat) (ha : Fld.apart p f pTALLY F.TALLY.STS.PLAN = true)
    (hf : f.fits = true) : (s.set p f v).planOn = s.planOn := by
  simp only [State.planOn, State.get_set_apart s p f v _ _ ha hf (by decide)]

@[simp] theorem State.dropParcel_regs : s.dropParcel.regs = s.regs := by unfold State.dropParcel; split <;> rfl

/-- R40: a stored request for Keep outlasts the end of a transition while a plan is under way. -/
theorem State.pstateDone_stored_keep {s : State} {p : Power} (ht : s.pwr.target = some p)
    (hs : s.pwr.stored = some 2) (hp : s.planOn = true) : s.pstateDone.pwr.stored = some 2 := by
  have hplan (t : State) (h : t.regs = ((s.set pSYS F.SYS.PSTATE.BUSY 0).set pSYS F.SYS.PSTATE.CUR
      (if p = .watch then 1 else 0)).regs) : t.planOn = true := by
    rw [State.planOn_congr h, State.planOn_set _ _ (by decide) (by decide), State.planOn_set _ _ (by decide) (by decide), hp]
  simp only [State.pstateDone, ht, hs, true_and]
  rw [if_pos (hplan _ (by split <;> simp))]
  rfl

end Sys2Proof.Machine

namespace Sys2Proof.NodeAndHub

/-- Settles O6: the capture where VALID is 0, the event alone where it is 1, and a write of an unassigned register, which goes
from the bus to the address error. -/
theorem addressErrorCapture : Obligations.AddressErrorCapture := by
  refine ⟨fun s addr src ha hv => ?_, fun s addr src hv => ?_, fun clk page off data src s hon hp hnone hfree => ?_⟩
  · rw [State.addressError_of_free hv, State.get_aerrCapture_addrLo, State.get_aerrCapture_addrHi,
      State.get_aerrCapture_source, State.get_aerrCapture_addrErr]
    exact ⟨by omega, Nat.mod_eq_of_lt (srcCode_lt src), State.get_aerrCapture_valid _ _ _, State.get_event_same _ (by decide)⟩
  · have hregs := State.addressError_regs_of_captured (addr := addr) (src := src) hv
    refine ⟨fun k hk => ?_, ?_⟩
    · rw [hregs, State.tabGet_event_ne s (by decide) hk]
    · rw [State.get_congr hregs, State.get_event_same s (by decide)]
  · obtain ⟨hheld, hblocked⟩ := hfree
    exact ⟨_, execRegisterWrite_unassigned hon hp hnone hheld hblocked, by simp, by simp⟩

/-- The move to Watch is in progress with a request for Keep stored, and main input loss has started a plan (R40). -/
def keepStoredUnderPlan : State :=
  { (State.reset.set pTALLY F.TALLY.STS.PLAN 1).set pSYS F.SYS.PSTATE.BUSY 1 with
    pwr := { State.reset.pwr with target := some .watch, stored := some 2 } }

theorem keepStoredUnderPlan_planOn : keepStoredUnderPlan.planOn = true := by decide

/-- Refutes O8: R40 takes precedence of R41. While a ride-through plan is under way a stored request for Keep is not acted on
when the transition to Watch completes but stays stored for the end of the plan, where the statement has nothing stored. -/
theorem not_powerRequestWhileBusy : ¬ Obligations.PowerRequestWhileBusy := by
  rintro ⟨-, -, -, -, hdone⟩
  obtain ⟨t, hexec, heq⟩ := hdone 0 2 .watch _ keepStoredUnderPlan rfl rfl rfl
  have hstays : t.pwr.stored = some 2 := by
    obtain rfl : (keepStoredUnderPlan.advance 0).pstateDone = t := by injection hexec
    exact State.pstateDone_stored_keep rfl rfl keepStoredUnderPlan_planOn
  have hgone : t.pwr.stored = none := by
    rw [heq, State.pstateAct_keep_pwr]
    exact keepStoredUnderPlan_planOn
  simp [hstays] at hgone

end Sys2Proof.NodeAndHub
end

section
/-!
PROOFS. The statements of the family on the register pages: a locked page (R64), over the rules for a write that reaches a page, a
refusal and a run-time fault.
-/

open Sys2Proof Sys2Proof.Machine Sys2Proof.Laws

namespace Sys2Proof.Machine

/-! What an access finds. A frame that PCS loopback returns may wake the hub and reach the host's ring (R43, R329, R387); nothing else
that `pageNow` does touches the power state or the bridge, and `accessScope` says so of each operation at once. -/

/-- What decides whether a write reaches a page (R24, R37, R58, R510) and whether the host's accesses wait (R392) is as it was. -/
structure AccessKept (s t : State) : Prop where
  power : t.pwr.power = s.pwr.power
  dieLink : t.pwr.dieLink = s.pwr.dieLink
  page : t.page = s.page
  blocked : t.bridge.blocked = s.bridge.blocked
  stage : t.get pSYS F.SYS.BOOTSTS.STAGE = s.get pSYS F.SYS.BOOTSTS.STAGE

/-- Everything but the registers of SYS, the power state, the state of the pages and the bridge. -/
def accessScope : Scope where
  reg k := k / 4096 != pSYS
  part
    | .pwr => false
    | .page => false
    | .bridge => false
    | _ => true

theorem accessScope_page {p : Nat} (h : p ≠ pSYS := by decide) : accessScope.page p := fun off => by
  have hp : regKey p off / 4096 = p := by simp only [regKey]; omega
  simp [accessScope, hp, h]

theorem accessScope_fld {p : Nat} {f : Fld} (h : p ≠ pSYS := by decide) : accessScope.fld p f := (accessScope_page h).fld

theorem accessScope_pPORT (n : Nat) : accessScope.page (pPORT n) :=
  accessScope_page (by unfold pPORT pSYS; split <;> omega)

namespace AccessKept

variable {r s t : State}

theorem refl (s : State) : AccessKept s s := ⟨rfl, rfl, rfl, rfl, rfl⟩

theorem trans (h : AccessKept r s) (k : AccessKept s t) : AccessKept r t :=
  ⟨k.power.trans h.power, k.dieLink.trans h.dieLink, k.page.trans h.page, k.blocked.trans h.blocked, k.stage.trans h.stage⟩

theorem of_kept (h : Kept accessScope s t) : AccessKept s t where
  power := congrArg PowerSt.power (h.part .pwr rfl)
  dieLink := congrArg PowerSt.dieLink (h.part .pwr rfl)
  page := h.part .page rfl
  blocked := congrArg BridgeSt.blocked (h.part .bridge rfl)
  stage := by
    have hrd : t.rd pSYS F.SYS.BOOTSTS.STAGE.off = s.rd pSYS F.SYS.BOOTSTS.STAGE.off := h.reg _ rfl
    simp only [State.get, show F.SYS.BOOTSTS.STAGE.words = 1 from rfl, State.wide, hrd]

theorem foldl {α : Type} {f : State → α → State} (hf : ∀ x a, AccessKept x (f x a)) :
    ∀ (l : List α) (s : State), AccessKept s (l.foldl f s)
  | [], s => refl s
  | a :: l, s => (hf s a).trans (foldl hf l (f s a))

end AccessKept

variable (s : State)

theorem State.accessKept_postRh (m : HostMsg) : AccessKept s (s.postRh m) := by
  unfold State.postRh State.rhGo
  split <;> exact ⟨rfl, rfl, rfl, rfl, rfl⟩

theorem State.accessKept_rhWrite (a : Nat) (d : List Byte) : AccessKept s (s.rhWrite a d) :=
  AccessKept.foldl (fun x _ => x.accessKept_postRh _) _ s

theorem State.accessKept_hostDeliver (n : Nat) (stamp : Option Nat) (f : Frame) : AccessKept s (s.hostDeliver n stamp f) := by
  have hevent (t : State) (b : Nat) : AccessKept t (t.event pBRIDGE b) :=
    .of_kept (event_kept (.refl _ t) accessScope_fld)
  have hslot (t : State) (k : Nat) : AccessKept t { t with bridge := { t.bridge with rxSlot := k } } :=
    ⟨rfl, rfl, rfl, rfl, rfl⟩
  unfold State.hostDeliver
  split
  · exact .refl s
  dsimp only
  split
  · exact .trans (.of_kept (bump_kept (.refl _ s) accessScope_fld)) (hevent _ _)
  · exact ((s.accessKept_rhWrite _ _).trans (State.accessKept_rhWrite _ _ _)).trans ((hslot _ _).trans (hevent _ _))

/-- A wake starts a transition; the power state is left until that completes (R40, R43). -/
theorem State.accessKept_mgmtWake (f : Frame) : AccessKept s (s.mgmtWake f) := by
  have hbusy : (s.set pSYS F.SYS.PSTATE.BUSY 1).get pSYS F.SYS.BOOTSTS.STAGE = s.get pSYS F.SYS.BOOTSTS.STAGE :=
    State.get_set_apart s _ _ _ _ _ (by decide) (by decide) (by decide)
  unfold State.mgmtWake State.watchWake
  split
  · split
    · exact ⟨rfl, rfl, by simp, by simp, (State.get_congr rfl _ _).trans hbusy⟩
    · exact .refl s
  · exact .refl s

theorem State.accessKept_deliver (n map : Nat) (stamp : Option Nat) (rd : TxRead) (f : Frame) :
    AccessKept s (s.deliver n map stamp rd f) := by
  unfold State.deliver
  extract_lets s1
  have hwake : AccessKept s s1 := s.accessKept_mgmtWake f
  split
  · have hrows : AccessKept s1 (s1.readRows rd.errs (List.range (4 * cellsOf { f with sec := none }))).1 :=
      .of_kept (readRows_kept (.refl _ s1) rfl accessScope_page)
    split
    · exact (hwake.trans hrows).trans (State.accessKept_hostDeliver _ n stamp f)
    · exact hwake.trans hrows
  · exact hwake

theorem State.accessKept_learn (n mac vid : Nat) : AccessKept s (s.learn n mac vid) :=
  .of_kept (learn_kept (.refl _ s) rfl accessScope_fld accessScope_fld accessScope_fld accessScope_fld accessScope_fld)

theorem State.kept_forwardAll {t : State} (n stamp raw : Nat) (rd : TxRead) (f : Frame) (l : List (Nat × Frame))
    (h : Kept accessScope s t) : Kept accessScope s (t.forwardAll n stamp raw rd f l) :=
  forwardAll_kept h rfl rfl rfl rfl rfl rfl rfl rfl accessScope_page accessScope_page accessScope_pPORT accessScope_page
    accessScope_page accessScope_page

theorem State.kept_capture {t : State} (n : Nat) (ft : Fate) (f : Frame) (h : Kept accessScope s t) :
    Kept accessScope s (t.capture n ft f) :=
  capture_kept h rfl rfl accessScope_fld accessScope_fld accessScope_fld accessScope_fld

/-- A tagged ring frame (R345): all that precedes the delivery stays in `accessScope`. -/
theorem State.accessKept_hsrRx (n map vid : Nat) (stamp : Option Nat) (at_ : RxAt) (rd : TxRead) (f : Frame) (h : HsrTag) :
    AccessKept s (s.hsrRx n map vid stamp at_ rd f h) := by
  unfold State.hsrRx
  extract_lets s0 r e opp ends seen here fresh e1 s1 s2 s3 late s4 s5 loc gang s6 s7
  have k0 : Kept accessScope s s0 := hsrTrim_kept (.refl _ s) rfl accessScope_fld
  split
  · exact .of_kept (kept_capture _ _ _ _ (bump_kept k0 accessScope_fld))
  split
  · exact .of_kept (kept_capture _ _ _ _ (noPath_kept k0 accessScope_fld accessScope_fld))
  have k1 : Kept accessScope s s1 :=
    setHsr_kept (hsrEntry_kept k0 rfl accessScope_fld accessScope_fld accessScope_fld) rfl accessScope_fld
  have k2 : Kept accessScope s s2 := .ite (bump_kept k1 accessScope_fld) k1
  have k3 : Kept accessScope s s3 := .ite (bump_kept k2 accessScope_fld) k2
  have k4 : Kept accessScope s s4 := .ite (event_kept (bump_kept k3 accessScope_fld) accessScope_fld) k3
  split
  · exact .of_kept (kept_capture _ _ _ _ k4)
  have k5 : Kept accessScope s s5 := kept_capture _ _ _ _ k4
  have kloc : Kept accessScope s loc.1 := .iteFst (copiesOf_kept k5 accessScope_fld accessScope_fld accessScope_fld) k5
  have kgang : Kept accessScope s gang.1 := .iteFst (toGang_kept kloc accessScope_fld accessScope_fld) kloc
  have k6 : Kept accessScope s s6 := kept_forwardAll _ _ _ _ _ _ _ kgang
  have k7 : AccessKept s s7 := by
    unfold s7
    split
    · exact (AccessKept.of_kept k6).trans (accessKept_deliver _ _ _ _ _ _)
    · exact .of_kept k6
  exact k7.trans (accessKept_learn _ _ _ _)

/-- A frame at the switch (R333): it is dropped, delivered, or forwarded and then delivered. -/
theorem State.accessKept_switchIn (n : Nat) (stamp : Option Nat) (at_ : RxAt) (rd : TxRead) (f : Frame) :
    AccessKept s (s.switchIn n stamp at_ rd f) := by
  have hdrop {t : State} (reason : Nat) (h : Kept accessScope s t) : AccessKept s (t.rxDrop n reason stamp f) :=
    .of_kept (kept_capture _ _ _ _ h)
  have hbump (f : Fld) (b : Nat) : Kept accessScope s ((s.bump pSWITCH f).event pSWITCH b) :=
    event_kept (bump_kept (.refl _ s) accessScope_fld) accessScope_fld
  unfold State.switchIn
  extract_lets eapol probe exempt vid map bad s1 r
  split
  · exact hdrop _ (.refl _ s)
  split
  · exact hdrop _ (hbump _ _)
  split
  · exact hdrop _ (hbump _ _)
  split
  · exact ((AccessKept.of_kept (kept_capture _ _ _ _ (.refl _ s))).trans (accessKept_deliver _ _ _ _ _ _)).trans
      (accessKept_learn _ _ _ _)
  split
  · exact hdrop _ (hbump _ _)
  split
  · exact hdrop _ (event_kept (bump_kept (.refl _ s) accessScope_fld) accessScope_fld)
  split
  · split
    · exact hdrop _ (hsrFailed_kept (.refl _ s) rfl rfl rfl rfl rfl rfl rfl rfl accessScope_page accessScope_page
        accessScope_page accessScope_page accessScope_pPORT accessScope_page accessScope_page)
    · exact accessKept_hsrRx _ _ _ _ _ _ _ _ _
  · split
    · exact hdrop _ (.refl _ s)
    split
    · exact hdrop _ (hbump _ _)
    have k1 : Kept accessScope s s1 := kept_capture _ _ _ _ (.refl _ s)
    have kr : Kept accessScope s r.1 := .iteFst (gangRelay_kept k1 accessScope_fld accessScope_fld accessScope_fld)
      (copiesOf_kept k1 accessScope_fld accessScope_fld accessScope_fld)
    exact ((AccessKept.of_kept (kept_forwardAll _ _ _ _ _ _ _ kr)).trans (accessKept_deliver _ _ _ _ _ _)).trans
      (accessKept_learn _ _ _ _)

/-- A received frame (R312): one that fails a test and a PAUSE frame stay in `accessScope`, any other reaches the switch. -/
theorem State.accessKept_portRx (n : Nat) (f : Frame) (c : RxCheck) : AccessKept s (s.portRx n f c) := by
  have hfailed {t : State} (stomp : Bool) (at_ : RxAt) (rd : TxRead) (h : Kept accessScope s t) :
      Kept accessScope s (t.failedIn n stomp at_ rd f) :=
    failedIn_kept h rfl rfl rfl rfl rfl rfl rfl rfl accessScope_page accessScope_page accessScope_page accessScope_page
      accessScope_pPORT accessScope_page accessScope_page
  unfold State.portRx
  split
  · exact .refl s
  extract_lets hdrRaw s0 stamp at_ fcs sPause s1 ver s3
  have k0 : Kept accessScope s s0 :=
    foldMark_kept (stampsDue_kept (.refl _ s) rfl rfl rfl rfl rfl rfl accessScope_fld accessScope_fld accessScope_fld
      accessScope_fld accessScope_fld accessScope_fld accessScope_fld accessScope_fld accessScope_fld)
      accessScope_fld accessScope_fld
  split
  next i _ =>
    have k1 : Kept accessScope s ((s0.rxFail n i).rxDrop n 1 stamp f) :=
      kept_capture _ _ _ _ (rxFail_kept k0 (accessScope_pPORT n).fld (accessScope_pPORT n).fld)
    exact .of_kept (.ite (hfailed _ _ _ k1) k1)
  next =>
    split
    · have k1 : Kept accessScope s sPause := kept_capture _ _ _ _ k0
      exact .of_kept (.ite (pauseIn_kept k1 rfl (accessScope_pPORT n).fld (accessScope_pPORT n).fld)
        (portCount_kept k1 (accessScope_pPORT n).fld))
    · have k1 : Kept accessScope s s1 := peerHeard_kept (portCount_kept (portCount_kept k0 (accessScope_pPORT n).fld)
        (accessScope_pPORT n).fld) rfl
      have kver : Kept accessScope s ver.1 := verify_kept k1 rfl accessScope_fld accessScope_fld accessScope_fld
        accessScope_fld accessScope_fld
      split
      · have k3 : Kept accessScope s s3 := kept_capture _ _ _ _ kver
        exact .of_kept (.ite (hfailed _ _ _ k3) k3)
      next g _ =>
        exact (AccessKept.of_kept (claimSeen_kept (f := g) kver rfl rfl rfl accessScope_fld accessScope_fld accessScope_fld
          accessScope_pPORT accessScope_fld accessScope_fld accessScope_fld accessScope_fld accessScope_fld
          accessScope_fld accessScope_fld accessScope_fld)).trans (accessKept_switchIn _ _ _ _ _ _)

theorem State.accessKept_linesNow (p : Nat) : AccessKept s (s.linesNow p) := by
  have hsent : AccessKept s (s.linesSent p) := .of_kept (linesSent_kept (.refl _ s) rfl rfl rfl rfl rfl rfl rfl
    accessScope_fld accessScope_fld accessScope_fld accessScope_fld accessScope_fld accessScope_fld accessScope_fld
    accessScope_fld accessScope_fld (accessScope_pPORT _).fld (accessScope_pPORT _).fld (accessScope_pPORT _).fld)
  unfold State.linesNow State.loopIn
  split
  · exact (hsent.trans (.of_kept (setPort_kept (.refl _ _) rfl))).trans (.foldl (fun x _ => x.accessKept_portRx _ _ _) _ _)
  · exact hsent

/-- What an access to a page finds leaves what decides whether the access reaches the page. -/
theorem State.accessKept_pageNow (fam : Fam) (p : Nat) : AccessKept s (s.pageNow fam p) := by
  unfold State.pageNow
  split
  · have hENG : accessScope.page (pENG (p - 0x20)) := accessScope_page (by unfold pENG pSYS; omega)
    exact .of_kept (txSettle_kept (.refl _ s) rfl hENG.fld hENG.fld)
  · exact .of_kept (syncDrains_kept (.refl _ s) rfl accessScope_fld accessScope_fld accessScope_fld accessScope_fld
      accessScope_fld accessScope_fld)
  · exact s.accessKept_linesNow p

/-- A page that a write reached is reached still. -/
theorem AccessKept.reaches {s t : State} (h : AccessKept s t) (p : Nat) : t.reaches p = s.reaches p := by
  simp only [State.reaches, State.coreOn, h.power, h.dieLink, h.page, h.stage]

/-! Writes that reach a page. -/

/-- R64: a write that reaches a page has its effect, but on a locked page only at PEVT and PEVM. -/
theorem State.regWrite_of_reaches {s : State} {p off mask data : Nat} {src : Source} {eff : State → State}
    (h : s.reaches p = true) :
    s.regWrite p off mask data src eff =
      if s.flag p F.HDR.PCTL.LOCK && off != 0x0C && off != 0x10 then s.refuse p 0x0F 0xFF else eff s := by
  simp only [State.reaches, Bool.and_eq_true, Bool.or_eq_true, Bool.not_eq_true', decide_eq_true_eq] at h
  obtain ⟨⟨⟨hon, hboot⟩, hlink⟩, hcheck⟩ := h
  have hboot' : (decide (s.get pSYS F.SYS.BOOTSTS.STAGE ≤ 2) && !alwaysOn p) = false := by
    rcases hboot with hboot | hboot
    · simp [hboot]
    · rw [decide_eq_false (by omega), Bool.false_and]
  have hlink' : (guardPage p && !s.pwr.dieLink) = false := by rcases hlink with hlink | hlink <;> simp [hlink]
  simp only [State.regWrite, hon, hboot', hlink', hcheck, Bool.not_true, Bool.false_eq_true, if_false]

theorem mem_allPages_iff {p : Nat} : p ∈ allPages ↔ ∃ run ∈ pageRuns, run.first ≤ p ∧ p < run.first + run.count := by
  simp only [allPages, List.mem_flatMap, List.mem_map, List.mem_range]
  refine exists_congr fun run => and_congr_right fun _ => ⟨?_, fun ⟨hlo, hhi⟩ => ⟨p - run.first, by omega, by omega⟩⟩
  rintro ⟨i, hi, rfl⟩
  omega

theorem lt_of_mem_allPages {p : Nat} (h : p ∈ allPages) : p < 0x1000 := by
  obtain ⟨run, hmem, -, hhi⟩ := mem_allPages_iff.mp h
  have hend : ∀ run ∈ pageRuns, run.first + run.count ≤ 0x1000 := by decide
  exact hhi.trans_le (hend run hmem)

theorem runOf_of_mem_allPages {p : Nat} (h : p ∈ allPages) : ∃ run, runOf p = some run := by
  obtain ⟨run, hmem, hlo, hhi⟩ := mem_allPages_iff.mp h
  exact Option.isSome_iff_exists.mp (List.find?_isSome.mpr ⟨run, hmem, by simp [hlo, hhi]⟩)

theorem runOf_of_famOf {p : Nat} {fam : Fam} (h : famOf p = some fam) : ∃ run, runOf p = some run ∧ run.fam = fam :=
  Option.map_eq_some_iff.mp h

/-- PEVT and PEVM of every page (R49). -/
def rowPevt : RegRow := ⟨.hdr, 0xC, 1, 0x0, 1, 0x0, 0, 1, 0, 0, 0, 0xFFFFFF03, 0, 0, 0⟩
def rowPevm : RegRow := ⟨.hdr, 0x10, 1, 0x0, 1, 0x0, 0, 1, 0xFFFFFFFF, 0xFFFFFFFF, 0, 0, 0, 0, 0⟩

theorem rowAt_pevt {p : Nat} {run : PageRun} (h : runOf p = some run) : rowAt p 0x0C = some rowPevt := by
  simp only [rowAt, h]
  rfl

theorem rowAt_pevm {p : Nat} {run : PageRun} (h : runOf p = some run) : rowAt p 0x10 = some rowPevm := by
  simp only [rowAt, h]
  rfl

/-- A write of a register that is there acts on what the access finds. -/
theorem State.busWrite_row {p off : Nat} {run : PageRun} {r : RegRow} (mask data : Word) (src : Source)
    (hrun : runOf p = some run) (hrow : rowAt p off = some r) :
    s.busWrite p off mask data src = (s.pageNow run.fam p).regWrite p off mask.toNat data.toNat src
      (fun t => t.writeEff run p off r mask data src) := by
  simp only [State.busWrite, hrun, hrow]

theorem and_wordOnes (w : Word) : w &&& 0xFFFFFFFF#32 = w := BitVec.and_allOnes

/-- A write of PEVT clears the bits written as 1 but for those set in the same cycle (R9, R49). -/
theorem State.writeEff_pevt (run : PageRun) (p : Nat) (data : Word) (src : Source) :
    s.writeEff run p 0x0C rowPevt 0xFFFFFFFF data src =
      s.wr p 0x0C (s.rd p 0x0C &&& ~~~(data &&& 0xFFFFFF03 &&& ~~~s.setNow p 0x0C)) := by
  have hmask : s.writable p rowPevt &&& 0xFFFFFFFF = 0 := by
    simp [State.writable, rowPevt, w32]
  have hbits : w32 rowPevt.w1c &&& 0xFFFFFFFF &&& data = data &&& 0xFFFFFF03 := by
    rw [BitVec.and_comm]; rfl
  simp only [State.writeEff, State.storeReg, hmask, hbits]
  simp [rowPevt, and_wordOnes]

/-- A write of PEVM stores the word (R49). -/
theorem State.writeEff_pevm (run : PageRun) (p : Nat) (data : Word) (src : Source) :
    s.writeEff run p 0x10 rowPevm 0xFFFFFFFF data src = s.wr p 0x10 data := by
  have hmask : s.writable p rowPevm &&& 0xFFFFFFFF = 0xFFFFFFFF := by
    simp [State.writable, rowPevm, w32]
  have hbits : w32 rowPevm.w1c = 0 := rfl
  simp only [State.writeEff, State.storeReg, hmask, hbits]
  simp [rowPevm, and_wordOnes]

/-! A refusal. -/

/-- A write of one field of a page leaves the fields of the page beside it. -/
theorem State.get_set_beside (p v : Nat) {f g : Fld} (ha : Fld.apart 0 f 0 g = true) (hf : f.fits = true) (hg : g.fits = true) :
    (s.set p f v).get p g = s.get p g :=
  s.get_set_apart p f v p g (by simpa [Fld.apart] using ha) hf hg

/-- What a refusal shows (R51, R64). -/
theorem State.get_refuse_shown (p : Nat) {code index : Nat} (hc : code < 2 ^ 8) (hi : index < 2 ^ 8) :
    (s.refuse p code index).get p F.HDR.PSTS.REFUSED = 1 ∧ (s.refuse p code index).get p F.HDR.PSTS.CODE = code ∧
      (s.refuse p code index).get p F.HDR.PSTS.INDEX = index ∧ (s.refuse p code index).get p ⟨0x0C, 0, 1⟩ = 1 := by
  refine ⟨?_, ?_, ?_, State.get_event_same _ (by decide)⟩
  · simp (disch := decide) only [State.refuse, State.event_get, State.get_set_beside, State.get_set_same]
    rfl
  · simp (disch := decide) only [State.refuse, State.event_get, State.get_set_beside, State.get_set_same]
    exact Nat.mod_eq_of_lt hc
  · simp (disch := decide) only [State.refuse, State.event_get, State.get_set_beside, State.get_set_same]
    exact Nat.mod_eq_of_lt hi

/-- A refusal leaves the fields of its page beside those that show it. -/
theorem State.get_refuse_beside (p code index : Nat) {g : Fld} (hg : g.fits = true)
    (hcode : Fld.apart 0 F.HDR.PSTS.CODE 0 g = true) (hindex : Fld.apart 0 F.HDR.PSTS.INDEX 0 g = true)
    (hrefused : Fld.apart 0 F.HDR.PSTS.REFUSED 0 g = true) (hevent : Fld.apart 0 ⟨0x0C, 0, 1⟩ 0 g = true) :
    (s.refuse p code index).get p g = s.get p g := by
  rw [State.refuse, State.event_get, State.get_set_beside _ _ _ hevent (by decide) hg,
    State.get_set_beside _ _ _ hrefused (by decide) hg, State.get_set_beside _ _ _ hindex (by decide) hg,
    State.get_set_beside _ _ _ hcode (by decide) hg]

/-- A refusal leaves the other events of its page. -/
theorem State.get_refuse_event (p code index : Nat) {b : Nat} (hb : b < 32) (h0 : b ≠ 0) :
    (s.refuse p code index).get p ⟨0x0C, b, 1⟩ = s.get p ⟨0x0C, b, 1⟩ := by
  have hpsts {f : Fld} (h : f.off + 4 * f.words ≤ 0x0C) : Fld.apart 0 f 0 ⟨0x0C, b, 1⟩ = true := by
    simp [Fld.apart, h]
  exact s.get_refuse_beside p code index (pevtBit_fits hb) (hpsts (by decide)) (hpsts (by decide)) (hpsts (by decide))
    (by simp [Fld.apart]; omega)

/-- A refusal leaves every register but PSTS and PEVT of its page. -/
theorem State.tabGet_refuse_ne {p code index k : Nat} (hpsts : k ≠ regKey p 8) (hpevt : k ≠ regKey p 0x0C) :
    tabGet regDefault (s.refuse p code index).regs k = tabGet regDefault s.regs k := by
  have hset (t : State) (f : Fld) (v : Nat) (hf : f.off = 8) (hw : f.words = 1) :
      tabGet regDefault (t.set p f v).regs k = tabGet regDefault t.regs k :=
    State.tabGet_set_ne t v fun i hi => by
      obtain rfl : i = 0 := by omega
      simpa [hf] using hpsts
  rw [State.refuse, State.tabGet_event_ne _ (by decide) hpevt, hset _ _ _ rfl rfl, hset _ _ _ rfl rfl, hset _ _ _ rfl rfl]

@[simp] theorem State.refuse_mem (p code index : Nat) : (s.refuse p code index).mem = s.mem := by simp [State.refuse]
@[simp] theorem State.refuse_page (p code index : Nat) : (s.refuse p code index).page = s.page := by simp [State.refuse]
@[simp] theorem State.refuse_bridge (p code index : Nat) : (s.refuse p code index).bridge = s.bridge := by simp [State.refuse]

@[simp] theorem State.get_rhGo (p : Nat) (f : Fld) : s.rhGo.get p f = s.get p f := State.get_congr s.rhGo_regs p f
@[simp] theorem State.rhGo_page : s.rhGo.page = s.page := by unfold State.rhGo; split <;> rfl

/-- R64: a write of a register of a locked page, PEVT and PEVM apart, is refused, and then only what waits in class RH goes on. -/
theorem execRegisterWrite_locked {clk page off : Nat} {data : Word} {src : Source} {r : RegRow} {fam : Fam} {u s : State}
    (hpage : page ∈ allPages) (hrow : rowAt page off = some r) (hpevt : off ≠ 0x0C) (hpevm : off ≠ 0x10)
    (hfam : famOf page = some fam) (hu : (s.advance clk).pageNow fam page = u) (hreach : u.reaches page = true)
    (hlock : u.flag page F.HDR.PCTL.LOCK = true) (hheld : s.bar0Held page src = false) (hb : s.bridge.blocked = []) :
    execRegisterWrite clk page off data src s = .next (u.refuse page 0x0F 0xFF).rhGo := by
  obtain ⟨run, hrun, rfl⟩ := runOf_of_famOf hfam
  have hheld' : (s.advance clk).bar0Held page src = false := hheld
  have hblocked : (u.refuse page 0x0F 0xFF).bridge.blocked = [] := by
    rw [State.refuse_bridge, ← hu, (State.accessKept_pageNow _ _ _).blocked]
    exact hb
  simp only [execRegisterWrite, hheld', Bool.false_eq_true, if_false]
  rw [State.anyWrite_page data src (lt_of_mem_allPages hpage), State.busWrite_row _ _ _ _ hrun hrow, hu,
    State.regWrite_of_reaches hreach, if_pos (by simp [hlock, hpevt, hpevm]), State.classGo_of_unblocked hblocked]

/-! Faults. -/

theorem State.get_blockFault_same (p : Nat) : (s.blockFault p).get p F.HDR.PSTS.FAULT = 1 := by
  unfold State.blockFault
  split
  next h =>
    have hlt : s.get p F.HDR.PSTS.FAULT < 2 := Nat.mod_lt _ (by decide)
    have hne : s.get p F.HDR.PSTS.FAULT ≠ 0 := by simpa [State.flag] using h
    omega
  next =>
    rw [State.event_get, State.get_set_beside _ _ _ (by decide) (by decide) (by decide), State.get_set_same _ _ _ _ (by decide)]
    rfl

/-- A fault of any page leaves a fault that stands (R61). -/
theorem State.get_blockFault_of_faulted {s : State} {p : Nat} (q : Nat) (h : s.get p F.HDR.PSTS.FAULT = 1) :
    (s.blockFault q).get p F.HDR.PSTS.FAULT = 1 := by
  by_cases hq : q = p
  · subst hq
    exact s.get_blockFault_same q
  · have hapart (f g : Fld) : Fld.apart q f p g = true := by simp [Fld.apart, hq]
    unfold State.blockFault
    split
    · exact h
    · rw [State.event_get, State.get_set_apart _ _ _ _ _ _ (hapart _ _) (by decide) (by decide),
        State.get_set_apart _ _ _ _ _ _ (hapart _ _) (by decide) (by decide), h]

theorem State.get_faultDeps_of_faulted {s : State} {p : Nat} (q : Nat) (h : s.get p F.HDR.PSTS.FAULT = 1) :
    (s.faultDeps q).get p F.HDR.PSTS.FAULT = 1 :=
  List.foldlRecOn (motive := fun t : State => t.get p F.HDR.PSTS.FAULT = 1) _ _ h
    fun _ ht x _ => State.get_blockFault_of_faulted x ht

theorem State.get_stopRun_fault (p : Nat) : (s.stopRun p).get p F.HDR.PSTS.FAULT = s.get p F.HDR.PSTS.FAULT := by
  simp (disch := decide) only [State.stopRun, State.get_set_beside]

/-- Everything but PSTS of page `p`. -/
def offPstsScope (p : Nat) : Scope where
  reg k := k != regKey p 8
  part _ := true

theorem offPstsScope_fld {p q : Nat} {f : Fld} (hw : f.words = 1 := by decide) (ho : f.off % 4096 ≠ 8 := by decide) :
    (offPstsScope p).fld q f := fun i hi => by
  obtain rfl : i = 0 := by omega
  simp only [offPstsScope, bne_iff_ne, regKey]
  omega

/-- The end of an engine leaves PSTS as its stop has set it. -/
theorem State.get_engOff_fault (p e : Nat) (keep : Bool) :
    (s.engOff e keep).get p F.HDR.PSTS.FAULT = s.get p F.HDR.PSTS.FAULT := by
  have hk : Kept (offPstsScope p) s (s.engOff e keep) := engOff_kept (.refl _ s) rfl offPstsScope_fld offPstsScope_fld
    offPstsScope_fld offPstsScope_fld offPstsScope_fld offPstsScope_fld offPstsScope_fld
  have hrd : (s.engOff e keep).rd p 8 = s.rd p 8 := hk.reg _ (by simp [offPstsScope])
  simp only [State.get, show F.HDR.PSTS.FAULT.words = 1 from rfl, show F.HDR.PSTS.FAULT.off = 8 from rfl, State.wide, hrd]

/-- R61: a running page on which a fault is detected has FAULT = 1, and keeps it where the fault stops the block. -/
theorem State.get_faultIn {s : State} {p : Nat} (h : s.running p = true) : (s.faultIn p).get p F.HDR.PSTS.FAULT = 1 := by
  have hset := s.get_blockFault_same p
  unfold State.faultIn
  rw [if_pos h]
  dsimp only
  split
  next heng =>
    simp only [State.blockOff, heng, State.get_engOff_fault, State.get_stopRun_fault]
    exact State.get_faultDeps_of_faulted p hset
  next => exact hset

end Sys2Proof.Machine

namespace Sys2Proof.RegisterPages

/-- Settles O7: what the lock refuses, on every page and on the bridge page from every source, the two registers that it leaves
open, and the fault of a locked block. -/
theorem lockedPage : Obligations.LockedPage := by
  refine ⟨fun clk page off data src r fam u s hpage hrow hoff hfam hu hreach hlock hfree => ?_,
    fun clk data src s hreach hlock hblocked => ?_, fun clk page data fam u s hpage hfam hu hreach => ?_,
    fun clk page data s hpage hreach => ?_, fun _ _ _ _ hrun _ => ⟨_, rfl, State.get_faultIn hrun⟩⟩
  · obtain ⟨hpevt, hpevm⟩ := hoff
    obtain ⟨hheld, hblocked⟩ := hfree
    obtain ⟨hrefused, hcode, hindex, hevent⟩ := u.get_refuse_shown page (code := 0x0F) (index := 0xFF) (by decide)
      (by decide)
    have hbeside {g : Fld} := u.get_refuse_beside page 0x0F 0xFF (g := g)
    refine ⟨_, execRegisterWrite_locked hpage hrow hpevt hpevm hfam hu hreach hlock hheld hblocked, ?_⟩
    simp only [State.get_rhGo, State.rhGo_regs, State.rhGo_mem, State.rhGo_page, State.refuse_mem, State.refuse_page, and_true]
    exact ⟨hrefused, hcode, hindex, hevent, fun k hpsts hpevt => u.tabGet_refuse_ne hpsts hpevt,
      fun b hb h0 => u.get_refuse_event page _ _ hb h0, hbeside rfl rfl rfl rfl rfl, hbeside rfl rfl rfl rfl rfl,
      hbeside rfl rfl rfl rfl rfl, hbeside rfl rfl rfl rfl rfl⟩
  · obtain ⟨hrefused, hcode, hindex, -⟩ :=
      (s.advance clk).get_refuse_shown pBRIDGE (code := 0x0F) (index := 0xFF) (by decide) (by decide)
    have hheld : s.bar0Held pBRIDGE src = false := by simp [State.bar0Held]
    refine ⟨_, execRegisterWrite_locked (u := s.advance clk) (by decide) rfl (by decide) (by decide) rfl rfl hreach hlock hheld
      hblocked, ?_⟩
    simp only [State.get_rhGo]
    exact ⟨hrefused, hcode, hindex, (State.get_refuse_beside _ _ _ _ rfl rfl rfl rfl rfl).trans (s.get_advance clk _ _)⟩
  · obtain ⟨run, hrun, rfl⟩ := runOf_of_famOf hfam
    refine ⟨_, rfl, ?_⟩
    rw [State.busWrite_row _ _ _ _ hrun (rowAt_pevt hrun), hu, State.regWrite_of_reaches hreach, if_neg (by simp),
      State.writeEff_pevt]
    exact tabGet_tabPut_same _ _ _ _
  · obtain ⟨run, hrun⟩ := runOf_of_mem_allPages hpage
    have hfound : ((s.advance clk).pageNow run.fam page).reaches page = true :=
      ((s.advance clk).accessKept_pageNow run.fam page).reaches page ▸ hreach
    refine ⟨_, rfl, ?_⟩
    rw [State.busWrite_row _ _ _ _ hrun (rowAt_pevm hrun), State.regWrite_of_reaches hfound, if_neg (by simp),
      State.writeEff_pevm]
    exact tabGet_tabPut_same _ _ _ _

end Sys2Proof.RegisterPages
end

section
/-!
PROOFS. The statements of the family on the Datum and ring time: writes of INC (R75), over the rule for what an accepted write
leaves in the register.
-/

open Sys2Proof Sys2Proof.Machine Sys2Proof.Laws

namespace Sys2Proof.Machine

/-- R75, R82: a write of the upper word of INC that the DATUM page accepts has its effect at once. -/
theorem execDatumIncWrite_accepts {clk : Nat} {hi : TimeWrite} {s : State} (h : (s.advance clk).accepts pDATUM = true) :
    execDatumIncWrite clk hi s = .next ((s.advance clk).incWrite hi.word) :=
  congrArg _ (State.regWrite_accepts h)

/-- R75: 7.9984 to 8.0016 inclusive, outside holdover. -/
theorem State.incOk_iff (s : State) (v : Nat) : s.incOk v = true ↔
    79984 * 2 ^ 40 ≤ 10000 * v ∧ 10000 * v ≤ 80016 * 2 ^ 40 ∧ s.get pDATUM F.DATUM.STS.HOLDOVER = 0 := by
  simp [State.incOk, State.inHoldover, State.flag, and_assoc]

/-- R11: an accepted write of INC leaves every bit as written in the register, the reserved bits above INT too. -/
theorem State.get_incWrite_inc {s : State} {hi : Word}
    (h : s.incOk (((s.latched pDATUM 0x48).toNat + 2 ^ 32 * hi.toNat) % 2 ^ 48) = true) :
    (s.incWrite hi).get pDATUM F.DATUM.INC.all = (s.latched pDATUM 0x48).toNat + 2 ^ 32 * hi.toNat := by
  have hfull : (s.latched pDATUM 0x48).toNat + 2 ^ 32 * hi.toNat < 2 ^ 64 := by
    have hlo := (s.latched pDATUM 0x48).isLt
    have hhi := hi.isLt
    omega
  unfold State.incWrite
  rw [if_pos h, State.get_set_same _ _ _ _ (by decide)]
  exact Nat.mod_eq_of_lt hfull

end Sys2Proof.Machine

namespace Sys2Proof.DatumRingTime

/-- A hub at the boot hold (R509), with every other register as the reset leaves it. -/
def bootHold : State := State.reset.set pSYS F.SYS.BOOTSTS.STAGE 8

/-- The upper word of INC = 8.0 with the lowest of its reserved bits written as 1. -/
def incHiReserved : Word := 0x10800

/-- Nothing on that hub keeps the write from being accepted with a lower word of 0 (R64, R75, R510). -/
theorem bootHold_takesInc : (bootHold.advance 0).accepts pDATUM = true ∧ bootHold.latched pDATUM 0x48 = 0 ∧
    bootHold.get pDATUM F.DATUM.STS.HOLDOVER = 0 ∧ incHiReserved.toNat = 0x10800 := by decide

/-- Refutes O10: the statement has an accepted write leave in INC (64 bits) the 48 bits of the value alone, but bits 63:48 are
reserved bits of a configuration register (R102) and hold what is written (R11). A hub at the boot hold accepts 8.0 with bit 48 set,
and INC then holds bit 48. -/
theorem not_datumIncAndUnlock : ¬ Obligations.DatumIncAndUnlock := by
  rintro ⟨hinc, -⟩
  -- What follows needs only these facts of the state and the word, whose definitions stay out of the claim's condition.
  obtain ⟨s, hi, haccepts, hlower, hholdover, hhi⟩ : ∃ (s : State) (hi : Word), (s.advance 0).accepts pDATUM = true ∧
      s.latched pDATUM 0x48 = 0 ∧ s.get pDATUM F.DATUM.STS.HOLDOVER = 0 ∧ hi.toNat = 0x10800 :=
    ⟨bootHold, incHiReserved, bootHold_takesInc⟩
  have hlower' : (s.advance 0).latched pDATUM 0x48 = 0 := hlower
  obtain ⟨t, hexec, hclaim⟩ := hinc 0 hi .host s haccepts
  have hholds : t.get pDATUM F.DATUM.INC.all = 0x10800 * 2 ^ 32 := by
    have hok : (s.advance 0).incOk ((((s.advance 0).latched pDATUM 0x48).toNat + 2 ^ 32 * hi.toNat) % 2 ^ 48) = true := by
      rw [State.incOk_iff, hlower', hhi]
      exact ⟨by decide, by decide, hholdover⟩
    obtain rfl : (s.advance 0).incWrite hi = t := by
      injection (execDatumIncWrite_accepts (hi := ⟨hi, .host⟩) haccepts).symm.trans hexec
    rw [State.get_incWrite_inc hok, hlower', hhi]
    rfl
  have hsays : t.get pDATUM F.DATUM.INC.all = 0x800 * 2 ^ 32 := by
    simp only [hlower, hhi, hholdover] at hclaim
    rw [if_pos (by decide)] at hclaim
    obtain ⟨-, -, hget, -⟩ := hclaim
    exact hget
  rw [hholds] at hsays
  exact absurd hsays (by decide)

end Sys2Proof.DatumRingTime
end

section
/-!
PROOFS. The statement of the family on CAN FD: a receive entry returned by a write to RXACK (R296), over the rules for the receive
queue (R295) and for a frame that found no free entry in the same cycle.
-/

open Sys2Proof Sys2Proof.Machine Sys2Proof.Laws

namespace Sys2Proof.Machine

variable (s : State)

theorem natBit_eq_testBit (n i : Nat) : natBit n i = n.testBit i := by
  rw [natBit, Nat.testBit_eq_decide_div_mod_eq, beq_eq_decide]

/-! The receive queue (R295). -/

/-- R295: RXSTS follows RXOWN, which it leaves. -/
@[simp] theorem State.get_rxStsPut_rxOwn (n : Nat) :
    (s.rxStsPut n).get (pCAN n) F.CAN.RXOWN.MAP = s.get (pCAN n) F.CAN.RXOWN.MAP := by
  simp only [State.rxStsPut]
  split <;> simp (disch := decide) only [State.get_nextFree, State.get_set_beside]

@[simp] theorem State.rxStsPut_clock (n : Nat) : (s.rxStsPut n).clock = s.clock := by
  simp only [State.rxStsPut]
  split <;> simp

@[simp] theorem State.can_rxStsPut (n m : Nat) : (s.rxStsPut n).can m = s.can m := by
  simp only [State.rxStsPut]
  split <;> simp [State.can]

/-- R295: the search finds the one entry that is free, wherever it starts. -/
theorem State.rxFree_of_only {s : State} {n e : Nat} (he : e < 32)
    (hfree : natBit (s.get (pCAN n) F.CAN.RXOWN.MAP) e = false)
    (howned : ∀ i < 32, i ≠ e → natBit (s.get (pCAN n) F.CAN.RXOWN.MAP) i = true) : s.rxFree n = some e := by
  have hsearched : e ∈ (List.range 32).map (fun i => ((s.can n).last + 1 + i) % 32) :=
    List.mem_map.2 ⟨(e + 32 - ((s.can n).last + 1) % 32) % 32, List.mem_range.2 (Nat.mod_lt _ (by decide)), by omega⟩
  obtain ⟨x, hx⟩ : ∃ x, s.rxFree n = some x :=
    Option.isSome_iff_exists.1 (List.find?_isSome.2 ⟨e, hsearched, by simp [hfree]⟩)
  have hxfree : natBit (s.get (pCAN n) F.CAN.RXOWN.MAP) x = false := by simpa using List.find?_some hx
  have hxlt : x < 32 := by
    obtain ⟨i, -, rfl⟩ := List.mem_map.1 (List.mem_of_find?_eq_some hx)
    exact Nat.mod_lt _ (by decide)
  have hxe : x = e := by
    by_contra hne
    exact absurd (howned x hxlt hne) (by simp [hxfree])
  rw [hx, hxe]

/-- R295: the entry that a frame is written to becomes owned by software. -/
theorem State.rxOwn_rxQueue {s : State} {n e : Nat} (f : Nat) (r : CanRx) (he : e < 32) (h : s.rxFree n = some e) :
    natBit ((s.rxQueue n f r).get (pCAN n) F.CAN.RXOWN.MAP) e = true := by
  simp (disch := decide) only [State.rxQueue, h, State.event_get, State.get_set_beside, State.get_rxStsPut_rxOwn,
    State.get_set_same]
  rw [natBit_eq_testBit, Nat.testBit_mod_two_pow, natPut_testBit]
  simp [show e < F.CAN.RXOWN.MAP.w from he]

/-! An entry returned (R296). -/

theorem natBit_natPut_zero (n i e : Nat) : natBit (natPut n e 1 0) i = (decide (i ≠ e) && natBit n i) := by
  rw [natBit_eq_testBit, natPut_testBit, natBit_eq_testBit]
  by_cases h : i = e
  · simp [h]
  · rw [if_neg (by omega)]
    simp [h]

/-- R296: the returned entry is free and the others are as they were. -/
theorem State.rxOwn_rxReturn {n e i : Nat} (hi : i < 32) : natBit ((s.rxReturn n e).get (pCAN n) F.CAN.RXOWN.MAP) i =
    (decide (i ≠ e) && natBit (s.get (pCAN n) F.CAN.RXOWN.MAP) i) := by
  rw [State.rxReturn, State.get_rxStsPut_rxOwn, State.get_set_same _ _ _ _ (by decide), ← natBit_natPut_zero,
    natBit_eq_testBit, Nat.testBit_mod_two_pow, natBit_eq_testBit]
  simp [show i < F.CAN.RXOWN.MAP.w from hi]

@[simp] theorem State.rxReturn_clock (n e : Nat) : (s.rxReturn n e).clock = s.clock := by simp [State.rxReturn]

@[simp] theorem State.can_rxReturn (n e m : Nat) : (s.rxReturn n e).can m = s.can m := by simp [State.rxReturn]

/-- The frame that found no free entry in this cycle takes the one entry that is free, which is software's again. -/
theorem State.rxOwn_dropTake {s : State} {n e f : Nat} {r : CanRx} {was : Bool} (hdrop : (s.canCyc n).drop = some (f, r, was))
    (he : e < 32) (hfree : natBit (s.get (pCAN n) F.CAN.RXOWN.MAP) e = false)
    (howned : ∀ i < 32, i ≠ e → natBit (s.get (pCAN n) F.CAN.RXOWN.MAP) i = true) :
    natBit ((s.dropTake n).get (pCAN n) F.CAN.RXOWN.MAP) e = true := by
  simp only [State.dropTake, hdrop]
  refine State.rxOwn_rxQueue f r he (State.rxFree_of_only he ?_ ?_) <;> split <;>
    simpa (disch := decide) only [State.setCyc, State.get_setCan, State.get_set_beside]

/-- R296: where software owns every entry and a frame found none free in this cycle, the acknowledged entry is software's
again, with that frame in it. -/
theorem State.rxOwn_canAck_of_drop {s : State} {n e f : Nat} {r : CanRx} {was : Bool}
    (hdrop : (s.canCyc n).drop = some (f, r, was)) (he : e < 32)
    (howned : ∀ i < 32, natBit (s.get (pCAN n) F.CAN.RXOWN.MAP) i = true) :
    natBit ((s.canAck n e).get (pCAN n) F.CAN.RXOWN.MAP) e = true := by
  unfold State.canAck
  rw [if_pos (howned e he)]
  refine State.rxOwn_dropTake (f := f) (r := r) (was := was) ?_ he ?_ fun i hi hne => ?_
  · simpa [State.canCyc] using hdrop
  · simp [State.rxOwn_rxReturn _ he]
  · simp [State.rxOwn_rxReturn _ hi, hne, howned i hi]

/-- R64, R296: a write to RXACK that the page of the controller accepts has its effect at once. -/
theorem execCanRxack_accepts {clk can index : Nat} {s : State} (h : (s.advance clk).accepts (pCAN can) = true) (hc : can < 16)
    (hi : index < 32) : execCanRxack clk can index s = .next ((s.advance clk).canAck can index) := by
  rw [execCanRxack, Nat.mod_eq_of_lt hc, Nat.mod_eq_of_lt hi, State.fldWrite_accepts h]

end Sys2Proof.Machine

namespace Sys2Proof.CanFd

/-- A hub at the boot hold (R509): controller 0 runs on the bus, filter 0 puts every frame in the receive queue, and software
owns all 32 entries. -/
def queueFull : State :=
  ((((State.reset.set pSYS F.SYS.BOOTSTS.STAGE 8).set (pCAN 0) F.HDR.PSTS.RUN 1).set (pCAN 0) F.CAN.STS.STATE 0).set (pCAN 0)
    F.CAN.FILT_A.QUEUE 1).set (pCAN 0) F.CAN.RXOWN.MAP (2 ^ 32 - 1)

/-- A frame without data. -/
def lateFrame : CanRx := { stamp := 0, id := 0, dlc := 0, brs := false, esi := false, data := [] }

/-- `queueFull` after it received that frame, which it dropped. -/
def frameDropped : State := queueFull.canRxFrame 0 lateFrame

/-- `frameDropped` is what the instruction CAN_RX_FRAME leaves of `queueFull`. -/
theorem exec_canRxFrame_queueFull : exec (.canRxFrame 0 0 0 0 0 false false []) queueFull = .next frameDropped := by
  have hdatum : queueFull.datum = State.reset.datum := by simp [queueFull]
  have hclock : queueFull.advance 0 = queueFull := by simp [State.advance]
  have hfold : queueFull.foldMark 0 = queueFull := by simp only [State.foldMark, hdatum]; rfl
  have hstamp : queueFull.timeOf 0 = 0 := by simp only [State.timeOf, hdatum]; decide
  change execCanRxFrame 0 0 0 0 0 false false [] queueFull = .next frameDropped
  simp only [execCanRxFrame, hclock, hfold, Nat.zero_sub, hstamp]
  rfl

/-- The write to RXACK is accepted in the cycle of the drop, and every entry is owned. -/
theorem frameDropped_takesAck : (frameDropped.advance 0).accepts (pCAN 0) = true ∧
    ((frameDropped.advance 0).canCyc 0).drop = some (0, lateFrame, false) ∧
    ∀ i < 32, natBit (frameDropped.get (pCAN 0) F.CAN.RXOWN.MAP) i = true := by decide

/-- Refutes O9: the statement has a returned entry read as not owned after the write, but when a frame found no free entry in the
same CLK_FB cycle, the acknowledgement is applied first and that frame takes the freed entry (the paragraph after R296). Entry 0
of a full queue, acknowledged in the cycle of a drop, is owned by software again. -/
theorem not_receiveEntryReturned : ¬ Obligations.ReceiveEntryReturned := by
  rintro ⟨hreturned, -⟩
  -- What follows needs only these facts of the state, whose definition stays out of the claim's condition.
  obtain ⟨s, haccepts, hdrop, howned⟩ : ∃ s : State, (s.advance 0).accepts (pCAN 0) = true ∧
      ((s.advance 0).canCyc 0).drop = some (0, lateFrame, false) ∧
      ∀ i < 32, natBit (s.get (pCAN 0) F.CAN.RXOWN.MAP) i = true := ⟨frameDropped, frameDropped_takesAck⟩
  obtain ⟨t, hexec, hclaim, -⟩ := hreturned 0 0 0 s haccepts (by decide) (howned 0 (by decide))
  have hretaken : natBit (t.get (pCAN 0) F.CAN.RXOWN.MAP) 0 = true := by
    obtain rfl : (s.advance 0).canAck 0 0 = t := by
      injection (execCanRxack_accepts haccepts (by decide) (by decide)).symm.trans hexec
    exact State.rxOwn_canAck_of_drop hdrop (by decide) howned
  simp [hclaim 0 (by decide)] at hretaken

end Sys2Proof.CanFd
end

section
/-!
PROOFS. The statements on every step: what a step takes off the queue, the canonical tables (R8, R33), the life cycle (R473, R474), the
clock and the count of free values (R71) and the serial number (R528). Every command keeps them whatever it changes, because `Kept` of
the scope of everything says so.
-/

open Sys2Proof Sys2Proof.Machine Sys2Proof.Laws

namespace Sys2Proof.Laws

/-- Every register and every part of the state. -/
def Scope.all : Scope where
  reg _ := true
  part _ := true

theorem Scope.all_full : Scope.all.Full := ⟨fun _ => rfl, fun _ => rfl⟩

/-- What every command keeps, whatever it changes. -/
theorem exec_kept (c : Instr) (s : State) : KeptNext Scope.all s (exec c s) := by
  cases c with
  | vbatApplied => exact execVbatApplied_kept rfl rfl
  | guardPor => exact execGuardPor_kept rfl rfl rfl rfl rfl rfl (fun _ => rfl)
  | guardUnsupplied => exact execGuardUnsupplied_kept Scope.all_full
  | pstateReqRun => exact execPstateReqRun_kept Scope.all_full
  | pstateReqWatch => exact execPstateReqWatch_kept Scope.all_full
  | pstateReqKeep => exact execPstateReqKeep_kept Scope.all_full
  | pstateReqReserved => exact execPstateReqReserved_kept Scope.all_full
  | pstateTransitionDone => exact execPstateTransitionDone_kept Scope.all_full
  | dieLinkFail => exact execDieLinkFail_kept rfl rfl rfl rfl rfl rfl rfl (fun _ _ => rfl) (fun _ _ => rfl) (fun _ _ => rfl) (fun _ => rfl) (fun _ => rfl) (fun _ => rfl) (fun _ _ => rfl) (fun _ => rfl) (fun _ => rfl)
  | dieLinkTrained => exact execDieLinkTrained_kept rfl
  | guardEventLineToggle => exact execGuardEventLineToggle_kept rfl
  | guardEventLineCapture => exact execGuardEventLineCapture_kept rfl rfl (fun _ _ => rfl) (fun _ _ => rfl) (fun _ _ => rfl) (fun _ _ => rfl) (fun _ _ => rfl) (fun _ _ => rfl) (fun _ _ => rfl) (fun _ _ => rfl)
  | registerWrite => exact execRegisterWrite_kept Scope.all_full
  | pageEnable => exact execPageEnable_kept Scope.all_full
  | enableCheckEnd => exact execEnableCheckEnd_kept Scope.all_full
  | pageStop => exact execPageStop_kept Scope.all_full
  | pageStopDone => exact execPageStopDone_kept rfl rfl rfl rfl rfl rfl rfl rfl rfl rfl rfl rfl rfl rfl rfl rfl rfl rfl rfl (fun _ => rfl) (fun _ _ => rfl) (fun _ => rfl) (fun _ => rfl) (fun _ => rfl) (fun _ => rfl) (fun _ _ => rfl) (fun _ => rfl) (fun _ => rfl) (fun _ => rfl) (fun _ => rfl) (fun _ => rfl) (fun _ => rfl) (fun _ => rfl) (fun _ => rfl) (fun _ => rfl) (fun _ => rfl)
  | pageHoldSet => exact execPageHoldSet_kept Scope.all_full
  | pageHeldReached => exact execPageHeldReached_kept rfl rfl rfl rfl rfl rfl rfl (fun _ _ => rfl) (fun _ _ => rfl) (fun _ _ => rfl) (fun _ _ => rfl) (fun _ _ => rfl) (fun _ _ => rfl) (fun _ _ => rfl) (fun _ _ => rfl) (fun _ _ => rfl) (fun _ _ => rfl) (fun _ _ => rfl) (fun _ _ => rfl)
  | pageHoldClear => exact execPageHoldClear_kept Scope.all_full
  | pageClr => exact execPageClr_kept Scope.all_full
  | pageClrDone => exact execPageClrDone_kept Scope.all_full
  | pageLock => exact execPageLock_kept Scope.all_full
  | pevtClear => exact execPevtClear_kept Scope.all_full
  | pevtForce => exact execPevtForce_kept Scope.all_full
  | pevmWrite => exact execPevmWrite_kept Scope.all_full
  | blockFault => exact execBlockFault_kept rfl rfl rfl rfl rfl rfl rfl rfl rfl rfl rfl rfl rfl rfl rfl rfl rfl rfl (fun _ => rfl)
  | irqSummaryArrive => exact execIrqSummaryArrive_kept rfl rfl rfl rfl (fun _ _ => rfl) (fun _ _ => rfl) (fun _ _ => rfl) (fun _ _ => rfl) (fun _ _ => rfl) (fun _ _ => rfl) (fun _ _ => rfl) (fun _ _ => rfl) (fun _ _ => rfl) (fun _ _ => rfl) (fun _ _ => rfl) (fun _ _ => rfl) (fun _ _ => rfl) (fun _ _ => rfl)
  | noticeRepeat => exact execNoticeRepeat_kept rfl rfl rfl (fun _ _ => rfl) (fun _ _ => rfl) (fun _ _ => rfl) (fun _ _ => rfl) (fun _ _ => rfl) (fun _ _ => rfl) (fun _ _ => rfl) (fun _ _ => rfl) (fun _ _ => rfl) (fun _ _ => rfl) (fun _ _ => rfl) (fun _ _ => rfl) (fun _ _ => rfl)
  | irqRearm => exact execIrqRearm_kept rfl rfl rfl rfl (fun _ => rfl) (fun _ => rfl) (fun _ _ => rfl) (fun _ => rfl) (fun _ => rfl) (fun _ => rfl) (fun _ => rfl)
  | msixUnmask => exact execMsixUnmask_kept rfl
  | datumIncWrite => exact execDatumIncWrite_kept rfl rfl rfl (fun _ _ => rfl) (fun _ _ => rfl) (fun _ _ => rfl) (fun _ _ => rfl) (fun _ _ => rfl) (fun _ _ => rfl) (fun _ _ => rfl) (fun _ _ => rfl)
  | datumStepWrite => exact execDatumStepWrite_kept rfl rfl rfl rfl rfl rfl rfl rfl rfl (fun _ _ => rfl) (fun _ => rfl) (fun _ => rfl) (fun _ => rfl) (fun _ => rfl) (fun _ _ => rfl) (fun _ _ => rfl)
  | datumStepUnlock => exact execDatumStepUnlock_kept rfl rfl (fun _ _ => rfl) (fun _ _ => rfl) (fun _ _ => rfl) (fun _ _ => rfl) (fun _ _ => rfl)
  | unlockWindowExpire => exact execUnlockWindowExpire_kept rfl
  | datumHoldReq => exact execDatumHoldReq_kept rfl rfl (fun _ _ => rfl) (fun _ _ => rfl) (fun _ _ => rfl) (fun _ _ => rfl) (fun _ _ => rfl) (fun _ _ => rfl) (fun _ _ => rfl) (fun _ _ => rfl) (fun _ _ => rfl) (fun _ _ => rfl) (fun _ _ => rfl) (fun _ _ => rfl) (fun _ _ => rfl) (fun _ _ => rfl)
  | datumResume => exact execDatumResume_kept rfl rfl (fun _ _ => rfl) (fun _ _ => rfl) (fun _ _ => rfl) (fun _ _ => rfl) (fun _ _ => rfl) (fun _ _ => rfl) (fun _ _ => rfl) (fun _ _ => rfl) (fun _ _ => rfl) (fun _ _ => rfl) (fun _ _ => rfl) (fun _ _ => rfl) (fun _ _ => rfl)
  | refFaultDetect => exact execRefFaultDetect_kept rfl rfl (fun _ _ => rfl) (fun _ _ => rfl) (fun _ _ => rfl) (fun _ _ => rfl) (fun _ _ => rfl) (fun _ _ => rfl) (fun _ _ => rfl) (fun _ _ => rfl) (fun _ _ => rfl) (fun _ _ => rfl) (fun _ _ => rfl)
  | refFaultClear => exact execRefFaultClear_kept (fun _ _ => rfl)
  | txqPop => exact execTxqPop_kept rfl rfl rfl (fun _ _ => rfl) (fun _ _ => rfl)
  | txqFlush => exact execTxqFlush_kept rfl rfl (fun _ _ => rfl) (fun _ _ => rfl) (fun _ _ => rfl) (fun _ _ => rfl) (fun _ _ => rfl)
  | ppsInEdge => exact execPpsInEdge_kept (fun _ _ => rfl) (fun _ _ => rfl) (fun _ _ => rfl)
  | ppsOutStart => exact execPpsOutStart_kept rfl
  | ppsOutEnd => exact execPpsOutEnd_kept rfl
  | pdelayWrite => exact execPdelayWrite_kept rfl rfl (fun _ _ => rfl) (fun _ _ => rfl) (fun _ _ => rfl) (fun _ _ => rfl) (fun _ _ => rfl) (fun _ _ => rfl) (fun _ _ => rfl) (fun _ _ => rfl) (fun _ _ => rfl)
  | msclRoundStart => exact execMsclRoundStart_kept rfl rfl rfl (fun _ _ => rfl) (fun _ _ => rfl) (fun _ _ => rfl) (fun _ _ => rfl) (fun _ _ => rfl) (fun _ _ => rfl) (fun _ _ => rfl) (fun _ _ => rfl) (fun _ _ => rfl)
  | probeRx => exact execProbeRx_kept rfl rfl rfl rfl rfl rfl rfl rfl rfl (fun _ _ => rfl) (fun _ _ => rfl) (fun _ => rfl) (fun _ _ => rfl) (fun _ => rfl) (fun _ => rfl) (fun _ _ => rfl) (fun _ => rfl) (fun _ _ => rfl) (fun _ => rfl) (fun _ => rfl) (fun _ => rfl)
  | msclProbeTimeout => exact execMsclProbeTimeout_kept rfl (fun _ => rfl)
  | coincWindowClose => exact execCoincWindowClose_kept rfl rfl (fun _ => rfl) (fun _ _ => rfl) (fun _ => rfl)
  | cycleBoundary => exact execCycleBoundary_kept rfl rfl rfl rfl rfl (fun _ => rfl) (fun _ => rfl) (fun _ => rfl) (fun _ => rfl) (fun _ _ => rfl) (fun _ => rfl) (fun _ => rfl) (fun _ => rfl)
  | platFreeze => exact execPlatFreeze_kept rfl rfl rfl rfl rfl rfl rfl rfl rfl rfl rfl rfl (fun _ _ => rfl) (fun _ _ => rfl) (fun _ _ => rfl) (fun _ => rfl) (fun _ => rfl) (fun _ => rfl) (fun _ _ => rfl) (fun _ _ => rfl) (fun _ _ => rfl) (fun _ _ => rfl) (fun _ _ => rfl) (fun _ _ => rfl) (fun _ _ => rfl) (fun _ _ => rfl) (fun _ _ => rfl) (fun _ _ => rfl)
  | platRelease => exact execPlatRelease_kept rfl rfl rfl rfl (fun _ _ => rfl) (fun _ _ => rfl) (fun _ _ => rfl) (fun _ _ => rfl) (fun _ _ => rfl) (fun _ _ => rfl) (fun _ _ => rfl) (fun _ _ => rfl) (fun _ _ => rfl) (fun _ _ => rfl) (fun _ _ => rfl)
  | platOwnSent => exact execPlatOwnSent_kept rfl rfl rfl rfl rfl rfl rfl (fun _ _ => rfl) (fun _ _ => rfl) (fun _ _ => rfl) (fun _ _ => rfl) (fun _ _ => rfl) (fun _ _ => rfl) (fun _ _ => rfl) (fun _ _ => rfl) (fun _ _ => rfl) (fun _ _ => rfl) (fun _ _ => rfl) (fun _ _ => rfl) (fun _ => rfl)
  | platFrameRx => exact execPlatFrameRx_kept rfl rfl rfl rfl (fun _ _ => rfl) (fun _ _ => rfl) (fun _ _ => rfl) (fun _ => rfl)
  | platVote => exact execPlatVote_kept rfl (fun _ _ => rfl) (fun _ _ => rfl) (fun _ _ => rfl) (fun _ _ => rfl) (fun _ _ => rfl) (fun _ _ => rfl) (fun _ _ => rfl) (fun _ _ => rfl) (fun _ _ => rfl) (fun _ _ => rfl) (fun _ _ => rfl) (fun _ _ => rfl)
  | platViewFlip => exact execPlatViewFlip_kept rfl rfl (fun _ => rfl)
  | platOutputWrite => exact execPlatOutputWrite_kept rfl (fun _ _ => rfl) (fun _ _ => rfl) (fun _ _ => rfl) (fun _ _ => rfl) (fun _ _ => rfl)
  | cycleRejoin => exact execCycleRejoin_kept rfl (fun _ _ => rfl) (fun _ _ => rfl) (fun _ _ => rfl) (fun _ _ => rfl) (fun _ _ => rfl) (fun _ _ => rfl) (fun _ _ => rfl) (fun _ _ => rfl)
  | gangFeedRx => exact execGangFeedRx_kept rfl rfl rfl rfl
  | stakeIssue => exact execStakeIssue_kept rfl rfl rfl rfl rfl rfl (fun _ _ => rfl) (fun _ _ => rfl) (fun _ _ => rfl) (fun _ _ => rfl) (fun _ _ => rfl) (fun _ _ => rfl) (fun _ => rfl) (fun _ => rfl) (fun _ => rfl) (fun _ => rfl) (fun _ => rfl) (fun _ => rfl) (fun _ _ => rfl) (fun _ _ => rfl)
  | stakeFrameSend => exact execStakeFrameSend_kept rfl rfl rfl rfl rfl (fun _ _ => rfl) (fun _ => rfl) (fun _ => rfl) (fun _ => rfl) (fun _ => rfl) (fun _ => rfl) (fun _ => rfl) (fun _ _ => rfl)
  | stakeArrival => exact execStakeArrival_kept rfl rfl rfl rfl rfl (fun _ _ => rfl) (fun _ => rfl) (fun _ => rfl) (fun _ => rfl) (fun _ => rfl) (fun _ => rfl) (fun _ => rfl) (fun _ _ => rfl)
  | stakeCancelArrival => exact execStakeCancelArrival_kept rfl rfl rfl rfl rfl (fun _ _ => rfl) (fun _ => rfl) (fun _ => rfl) (fun _ => rfl) (fun _ => rfl) (fun _ => rfl) (fun _ => rfl) (fun _ _ => rfl)
  | stakeCancelWrite => exact execStakeCancelWrite_kept rfl rfl rfl rfl rfl rfl (fun _ => rfl) (fun _ => rfl) (fun _ _ => rfl) (fun _ => rfl) (fun _ _ => rfl) (fun _ => rfl) (fun _ => rfl) (fun _ => rfl) (fun _ _ => rfl)
  | stakeHandover => exact execStakeHandover_kept rfl rfl rfl rfl rfl (fun _ => rfl) (fun _ => rfl) (fun _ _ => rfl) (fun _ => rfl) (fun _ _ => rfl) (fun _ => rfl) (fun _ => rfl) (fun _ => rfl)
  | stakeIslandWithdraw => exact execStakeIslandWithdraw_kept rfl rfl rfl rfl rfl (fun _ => rfl) (fun _ => rfl) (fun _ _ => rfl) (fun _ => rfl) (fun _ _ => rfl) (fun _ => rfl) (fun _ => rfl) (fun _ => rfl)
  | stakeExecPin => exact execStakeExecPin_kept rfl rfl rfl rfl rfl rfl rfl rfl rfl rfl (fun _ _ => rfl) (fun _ _ => rfl) (fun _ _ => rfl) (fun _ => rfl) (fun _ => rfl) (fun _ => rfl) (fun _ _ => rfl) (fun _ => rfl) (fun _ => rfl) (fun _ => rfl)
  | stakeExecEngFifo => exact execStakeExecEngFifo_kept rfl rfl rfl rfl rfl rfl rfl rfl rfl rfl (fun _ _ => rfl) (fun _ _ => rfl) (fun _ _ => rfl) (fun _ => rfl) (fun _ => rfl) (fun _ => rfl) (fun _ _ => rfl) (fun _ => rfl) (fun _ => rfl) (fun _ => rfl)
  | stakeExecCan => exact execStakeExecCan_kept rfl rfl rfl rfl rfl rfl rfl rfl rfl rfl (fun _ _ => rfl) (fun _ _ => rfl) (fun _ _ => rfl) (fun _ => rfl) (fun _ => rfl) (fun _ => rfl) (fun _ _ => rfl) (fun _ => rfl) (fun _ => rfl) (fun _ => rfl)
  | stakeExecReg => exact execStakeExecReg_kept Scope.all_full
  | stakeExecPlat => exact execStakeExecPlat_kept rfl rfl rfl rfl rfl rfl rfl rfl rfl rfl (fun _ _ => rfl) (fun _ _ => rfl) (fun _ _ => rfl) (fun _ => rfl) (fun _ => rfl) (fun _ => rfl) (fun _ _ => rfl) (fun _ => rfl) (fun _ => rfl) (fun _ => rfl)
  | receiptRx => exact execReceiptRx_kept rfl (fun _ _ => rfl) (fun _ _ => rfl) (fun _ _ => rfl)
  | rcptPop => exact execRcptPop_kept rfl rfl rfl
  | instrWaitt => exact execInstrWaitt_kept rfl rfl rfl rfl (fun _ _ => rfl) (fun _ _ => rfl) (fun _ _ => rfl) (fun _ _ => rfl) (fun _ _ => rfl) (fun _ _ => rfl) (fun _ _ => rfl) (fun _ _ => rfl)
  | waittComplete => exact execWaittComplete_kept rfl rfl rfl rfl (fun _ _ => rfl) (fun _ _ => rfl) (fun _ _ => rfl) (fun _ _ => rfl) (fun _ _ => rfl) (fun _ _ => rfl) (fun _ _ => rfl) (fun _ _ => rfl) (fun _ _ => rfl) (fun _ _ => rfl) (fun _ _ => rfl) (fun _ _ => rfl) (fun _ _ => rfl) (fun _ _ => rfl) (fun _ _ => rfl)
  | instrWaitp => exact execInstrWaitp_kept rfl rfl rfl rfl (fun _ _ => rfl) (fun _ _ => rfl) (fun _ _ => rfl) (fun _ _ => rfl) (fun _ _ => rfl) (fun _ _ => rfl) (fun _ _ => rfl) (fun _ _ => rfl)
  | waitpComplete => exact execWaitpComplete_kept rfl rfl rfl rfl rfl (fun _ _ => rfl) (fun _ _ => rfl) (fun _ _ => rfl) (fun _ _ => rfl) (fun _ _ => rfl) (fun _ _ => rfl) (fun _ _ => rfl) (fun _ _ => rfl) (fun _ _ => rfl) (fun _ _ => rfl) (fun _ _ => rfl) (fun _ _ => rfl) (fun _ _ => rfl) (fun _ _ => rfl)
  | instrDly => exact execInstrDly_kept rfl rfl rfl rfl (fun _ _ => rfl) (fun _ _ => rfl) (fun _ _ => rfl) (fun _ _ => rfl) (fun _ _ => rfl) (fun _ _ => rfl) (fun _ _ => rfl) (fun _ _ => rfl) (fun _ _ => rfl) (fun _ _ => rfl) (fun _ _ => rfl) (fun _ _ => rfl) (fun _ _ => rfl) (fun _ _ => rfl)
  | dlyComplete => exact execDlyComplete_kept rfl rfl (fun _ _ => rfl) (fun _ _ => rfl) (fun _ _ => rfl) (fun _ _ => rfl) (fun _ _ => rfl) (fun _ _ => rfl)
  | instrCnt => exact execInstrCnt_kept rfl rfl rfl rfl (fun _ _ => rfl) (fun _ _ => rfl) (fun _ _ => rfl) (fun _ _ => rfl) (fun _ _ => rfl) (fun _ _ => rfl) (fun _ _ => rfl) (fun _ _ => rfl)
  | cntComplete => exact execCntComplete_kept rfl rfl rfl rfl (fun _ _ => rfl) (fun _ _ => rfl) (fun _ _ => rfl) (fun _ _ => rfl) (fun _ _ => rfl) (fun _ _ => rfl) (fun _ _ => rfl) (fun _ _ => rfl) (fun _ _ => rfl) (fun _ _ => rfl) (fun _ _ => rfl) (fun _ _ => rfl) (fun _ _ => rfl) (fun _ _ => rfl)
  | instrJmp => exact execInstrJmp_kept rfl rfl rfl rfl (fun _ _ => rfl) (fun _ _ => rfl) (fun _ _ => rfl) (fun _ _ => rfl) (fun _ _ => rfl) (fun _ _ => rfl) (fun _ _ => rfl) (fun _ _ => rfl) (fun _ _ => rfl) (fun _ _ => rfl) (fun _ _ => rfl) (fun _ _ => rfl) (fun _ _ => rfl) (fun _ _ => rfl)
  | instrMov => exact execInstrMov_kept rfl rfl rfl rfl (fun _ _ => rfl) (fun _ _ => rfl) (fun _ _ => rfl) (fun _ _ => rfl) (fun _ _ => rfl) (fun _ _ => rfl) (fun _ _ => rfl) (fun _ _ => rfl) (fun _ _ => rfl) (fun _ _ => rfl) (fun _ _ => rfl) (fun _ _ => rfl) (fun _ _ => rfl) (fun _ _ => rfl)
  | instrSet => exact execInstrSet_kept rfl rfl rfl rfl (fun _ _ => rfl) (fun _ _ => rfl) (fun _ _ => rfl) (fun _ _ => rfl) (fun _ _ => rfl) (fun _ _ => rfl) (fun _ _ => rfl) (fun _ _ => rfl) (fun _ _ => rfl) (fun _ _ => rfl) (fun _ _ => rfl) (fun _ _ => rfl) (fun _ _ => rfl) (fun _ _ => rfl)
  | instrOut => exact execInstrOut_kept rfl rfl rfl rfl (fun _ _ => rfl) (fun _ _ => rfl) (fun _ _ => rfl) (fun _ _ => rfl) (fun _ _ => rfl) (fun _ _ => rfl) (fun _ _ => rfl) (fun _ _ => rfl) (fun _ _ => rfl) (fun _ _ => rfl) (fun _ _ => rfl) (fun _ _ => rfl) (fun _ _ => rfl) (fun _ _ => rfl) (fun _ _ => rfl)
  | instrIn => exact execInstrIn_kept rfl rfl rfl rfl (fun _ _ => rfl) (fun _ _ => rfl) (fun _ _ => rfl) (fun _ _ => rfl) (fun _ _ => rfl) (fun _ _ => rfl) (fun _ _ => rfl) (fun _ _ => rfl) (fun _ _ => rfl) (fun _ _ => rfl) (fun _ _ => rfl) (fun _ _ => rfl) (fun _ _ => rfl) (fun _ _ => rfl) (fun _ _ => rfl)
  | instrPull => exact execInstrPull_kept rfl rfl rfl rfl (fun _ _ => rfl) (fun _ _ => rfl) (fun _ _ => rfl) (fun _ _ => rfl) (fun _ _ => rfl) (fun _ _ => rfl) (fun _ _ => rfl) (fun _ _ => rfl) (fun _ _ => rfl) (fun _ _ => rfl) (fun _ _ => rfl) (fun _ _ => rfl) (fun _ _ => rfl) (fun _ _ => rfl) (fun _ _ => rfl)
  | instrPush => exact execInstrPush_kept rfl rfl rfl rfl (fun _ => rfl) (fun _ => rfl) (fun _ => rfl) (fun _ _ => rfl)
  | instrStamp => exact execInstrStamp_kept rfl rfl rfl rfl (fun _ _ => rfl) (fun _ _ => rfl) (fun _ _ => rfl) (fun _ _ => rfl) (fun _ _ => rfl) (fun _ _ => rfl) (fun _ _ => rfl) (fun _ _ => rfl) (fun _ _ => rfl) (fun _ _ => rfl) (fun _ _ => rfl) (fun _ _ => rfl) (fun _ _ => rfl) (fun _ _ => rfl) (fun _ _ => rfl)
  | instrNote => exact execInstrNote_kept rfl rfl rfl rfl rfl (fun _ => rfl) (fun _ _ => rfl) (fun _ _ => rfl) (fun _ _ => rfl) (fun _ _ => rfl) (fun _ _ => rfl) (fun _ _ => rfl) (fun _ _ => rfl) (fun _ _ => rfl)
  | undefinedInstruction => exact execUndefinedInstruction_kept rfl rfl rfl rfl (fun _ => rfl)
  | instrDelayEnd => exact execInstrDelayEnd_kept rfl (fun _ _ => rfl) (fun _ _ => rfl) (fun _ _ => rfl) (fun _ _ => rfl) (fun _ _ => rfl) (fun _ _ => rfl)
  | engineStallEnd => exact execEngineStallEnd_kept rfl rfl rfl rfl (fun _ => rfl) (fun _ => rfl) (fun _ => rfl) (fun _ _ => rfl)
  | engTxfWrite => exact execEngTxfWrite_kept rfl rfl (fun _ _ => rfl) (fun _ _ => rfl) (fun _ _ => rfl) (fun _ _ => rfl) (fun _ _ => rfl) (fun _ _ => rfl) (fun _ _ => rfl)
  | engRxfPop => exact execEngRxfPop_kept rfl rfl
  | engJump => exact execEngJump_kept rfl rfl (fun _ _ => rfl) (fun _ _ => rfl) (fun _ _ => rfl) (fun _ _ => rfl) (fun _ _ => rfl)
  | engSnap => exact execEngSnap_kept rfl rfl (fun _ _ => rfl) (fun _ _ => rfl) (fun _ _ => rfl) (fun _ _ => rfl) (fun _ _ => rfl)
  | crewSwapGo => exact execCrewSwapGo_kept rfl rfl (fun _ _ => rfl) (fun _ _ => rfl) (fun _ _ => rfl) (fun _ _ => rfl) (fun _ _ => rfl) (fun _ _ => rfl) (fun _ _ => rfl) (fun _ _ => rfl) (fun _ _ => rfl) (fun _ _ => rfl) (fun _ _ => rfl)
  | crewGoEng => exact execCrewGoEng_kept rfl rfl (fun _ _ => rfl) (fun _ _ => rfl) (fun _ _ => rfl) (fun _ _ => rfl) (fun _ _ => rfl) (fun _ _ => rfl)
  | crewFlagset => exact execCrewFlagset_kept rfl rfl (fun _ _ => rfl) (fun _ _ => rfl) (fun _ _ => rfl) (fun _ _ => rfl) (fun _ _ => rfl)
  | pinmuxSwdataWrite => exact execPinmuxSwdataWrite_kept rfl rfl rfl rfl rfl (fun _ _ => rfl) (fun _ _ => rfl) (fun _ _ => rfl) (fun _ _ => rfl) (fun _ _ => rfl) (fun _ _ => rfl) (fun _ _ => rfl) (fun _ _ => rfl) (fun _ _ => rfl) (fun _ _ => rfl) (fun _ _ => rfl)
  | pinTransition => exact execPinTransition_kept rfl rfl rfl (fun _ _ => rfl) (fun _ _ => rfl) (fun _ _ => rfl) (fun _ _ => rfl) (fun _ _ => rfl) (fun _ _ => rfl)
  | glitchWindowExpire => exact execGlitchWindowExpire_kept rfl rfl (fun _ _ => rfl) (fun _ _ => rfl) (fun _ _ => rfl) (fun _ _ => rfl) (fun _ _ => rfl) (fun _ _ => rfl)
  | debounceWindowClose => exact execDebounceWindowClose_kept rfl rfl (fun _ _ => rfl) (fun _ _ => rfl) (fun _ _ => rfl) (fun _ _ => rfl) (fun _ _ => rfl) (fun _ _ => rfl)
  | chatterWindowClose => exact execChatterWindowClose_kept rfl rfl (fun _ _ => rfl) (fun _ _ => rfl) (fun _ _ => rfl) (fun _ _ => rfl) (fun _ _ => rfl) (fun _ _ => rfl)
  | chatterQuietEnd => exact execChatterQuietEnd_kept rfl rfl (fun _ _ => rfl) (fun _ _ => rfl) (fun _ _ => rfl) (fun _ _ => rfl) (fun _ _ => rfl) (fun _ _ => rfl)
  | stuckTimerExpire => exact execStuckTimerExpire_kept rfl rfl (fun _ _ => rfl) (fun _ _ => rfl) (fun _ _ => rfl) (fun _ _ => rfl) (fun _ _ => rfl) (fun _ _ => rfl)
  | bookCommit => exact execBookCommit_kept rfl rfl rfl (fun _ _ => rfl) (fun _ _ => rfl) (fun _ _ => rfl) (fun _ _ => rfl) (fun _ _ => rfl) (fun _ _ => rfl) (fun _ _ => rfl) (fun _ _ => rfl) (fun _ _ => rfl) (fun _ _ => rfl) (fun _ _ => rfl) (fun _ _ => rfl) (fun _ _ => rfl) (fun _ _ => rfl) (fun _ _ => rfl)
  | discardEpisodeEnd => exact execDiscardEpisodeEnd_kept rfl rfl rfl (fun _ _ => rfl) (fun _ _ => rfl) (fun _ _ => rfl) (fun _ _ => rfl) (fun _ _ => rfl) (fun _ _ => rfl) (fun _ _ => rfl) (fun _ _ => rfl) (fun _ _ => rfl) (fun _ _ => rfl) (fun _ _ => rfl) (fun _ _ => rfl) (fun _ _ => rfl) (fun _ _ => rfl) (fun _ _ => rfl)
  | bookDmaBurst => exact execBookDmaBurst_kept rfl rfl (fun _ _ => rfl) (fun _ _ => rfl) (fun _ _ => rfl) (fun _ _ => rfl) (fun _ _ => rfl) (fun _ _ => rfl) (fun _ _ => rfl) (fun _ _ => rfl)
  | bookFrameSend => exact execBookFrameSend_kept rfl rfl rfl (fun _ => rfl) (fun _ => rfl) (fun _ => rfl) (fun _ _ => rfl) (fun _ => rfl) (fun _ => rfl)
  | canTxStart => exact execCanTxStart_kept rfl rfl rfl rfl (fun _ _ => rfl) (fun _ _ => rfl) (fun _ _ => rfl) (fun _ _ => rfl) (fun _ _ => rfl) (fun _ _ => rfl) (fun _ _ => rfl)
  | canTxDone => exact execCanTxDone_kept rfl rfl rfl rfl (fun _ _ => rfl) (fun _ _ => rfl) (fun _ _ => rfl) (fun _ _ => rfl) (fun _ _ => rfl) (fun _ _ => rfl) (fun _ => rfl) (fun _ _ => rfl) (fun _ _ => rfl)
  | canArbLost => exact execCanArbLost_kept rfl rfl rfl rfl (fun _ _ => rfl) (fun _ _ => rfl) (fun _ _ => rfl) (fun _ _ => rfl) (fun _ _ => rfl) (fun _ _ => rfl) (fun _ => rfl)
  | canTxError => exact execCanTxError_kept rfl rfl rfl rfl (fun _ _ => rfl) (fun _ _ => rfl) (fun _ _ => rfl) (fun _ _ => rfl) (fun _ _ => rfl) (fun _ _ => rfl) (fun _ => rfl) (fun _ _ => rfl) (fun _ _ => rfl)
  | canRecover => exact execCanRecover_kept rfl (fun _ _ => rfl) (fun _ _ => rfl) (fun _ _ => rfl) (fun _ _ => rfl) (fun _ _ => rfl) (fun _ _ => rfl) (fun _ _ => rfl) (fun _ _ => rfl) (fun _ _ => rfl) (fun _ _ => rfl) (fun _ _ => rfl)
  | canRxFrame => exact execCanRxFrame_kept rfl rfl (fun _ _ => rfl) (fun _ _ => rfl) (fun _ => rfl) (fun _ _ => rfl) (fun _ _ => rfl) (fun _ _ => rfl) (fun _ _ => rfl) (fun _ _ => rfl) (fun _ _ => rfl)
  | canTxreq => exact execCanTxreq_kept rfl rfl (fun _ => rfl) (fun _ _ => rfl)
  | canTxabort => exact execCanTxabort_kept rfl rfl (fun _ => rfl) (fun _ _ => rfl)
  | canRxack => exact execCanRxack_kept rfl rfl (fun _ => rfl) (fun _ _ => rfl)
  | canRefDue => exact execCanRefDue_kept rfl (fun _ _ => rfl) (fun _ _ => rfl) (fun _ _ => rfl)
  | canSynced => exact execCanSynced_kept (fun _ _ => rfl) (fun _ _ => rfl) (fun _ _ => rfl)
  | linkDown => exact execLinkDown_kept rfl rfl rfl rfl rfl rfl rfl rfl (fun _ => rfl) (fun _ => rfl) (fun _ => rfl) (fun _ _ => rfl) (fun _ => rfl) (fun _ => rfl) (fun _ => rfl)
  | linkUp => exact execLinkUp_kept rfl rfl rfl rfl rfl rfl rfl (fun _ _ => rfl) (fun _ => rfl) (fun _ => rfl) (fun _ => rfl) (fun _ => rfl) (fun _ => rfl)
  | linkFallbackToggle => exact execLinkFallbackToggle_kept rfl (fun _ _ => rfl) (fun _ _ => rfl) (fun _ _ => rfl)
  | portRxFrame => exact execPortRxFrame_kept rfl rfl rfl rfl rfl rfl rfl rfl rfl rfl rfl (fun _ _ => rfl) (fun _ _ => rfl) (fun _ => rfl) (fun _ => rfl) (fun _ => rfl) (fun _ => rfl) (fun _ _ => rfl) (fun _ => rfl) (fun _ => rfl) (fun _ _ => rfl) (fun _ => rfl) (fun _ => rfl) (fun _ => rfl)
  | portTxStart => exact execPortTxStart_kept rfl rfl rfl rfl rfl rfl rfl rfl rfl rfl rfl (fun _ _ => rfl) (fun _ => rfl) (fun _ => rfl) (fun _ => rfl) (fun _ => rfl) (fun _ _ => rfl) (fun _ _ => rfl) (fun _ => rfl) (fun _ => rfl) (fun _ _ => rfl) (fun _ => rfl) (fun _ => rfl) (fun _ => rfl)
  | gclEntryChange => exact execGclEntryChange_kept rfl
  | gclSwapWrite => exact execGclSwapWrite_kept rfl rfl (fun _ _ => rfl) (fun _ _ => rfl) (fun _ _ => rfl) (fun _ _ => rfl) (fun _ _ => rfl) (fun _ _ => rfl)
  | gclSwapApply => exact execGclSwapApply_kept rfl (fun _ _ => rfl) (fun _ _ => rfl) (fun _ _ => rfl) (fun _ _ => rfl) (fun _ _ => rfl)
  | pauseSend => exact execPauseSend_kept rfl rfl rfl rfl rfl rfl rfl (fun _ _ => rfl) (fun _ _ => rfl) (fun _ _ => rfl) (fun _ _ => rfl) (fun _ _ => rfl) (fun _ _ => rfl) (fun _ _ => rfl) (fun _ _ => rfl) (fun _ _ => rfl) (fun _ _ => rfl) (fun _ _ => rfl) (fun _ _ => rfl) (fun _ _ => rfl) (fun _ _ => rfl)
  | pauseRepeat => exact execPauseRepeat_kept rfl rfl rfl rfl rfl rfl rfl (fun _ _ => rfl) (fun _ _ => rfl) (fun _ _ => rfl) (fun _ _ => rfl) (fun _ _ => rfl) (fun _ _ => rfl) (fun _ _ => rfl) (fun _ _ => rfl) (fun _ _ => rfl) (fun _ _ => rfl) (fun _ _ => rfl) (fun _ _ => rfl) (fun _ _ => rfl) (fun _ _ => rfl)
  | pauseRx => exact execPauseRx_kept rfl (fun _ _ => rfl) (fun _ _ => rfl)
  | pauseExpire => exact execPauseExpire_kept rfl (fun _ _ => rfl)
  | holdWindowClose => exact execHoldWindowClose_kept rfl rfl rfl (fun _ _ => rfl) (fun _ _ => rfl) (fun _ _ => rfl) (fun _ _ => rfl) (fun _ _ => rfl) (fun _ _ => rfl)
  | pcsLockLoss => exact execPcsLockLoss_kept rfl rfl rfl rfl rfl rfl rfl (fun _ _ => rfl) (fun _ _ => rfl) (fun _ _ => rfl) (fun _ _ => rfl) (fun _ _ => rfl) (fun _ _ => rfl) (fun _ _ => rfl) (fun _ _ => rfl) (fun _ _ => rfl) (fun _ _ => rfl) (fun _ _ => rfl) (fun _ _ => rfl) (fun _ _ => rfl)
  | portSnap => exact execPortSnap_kept rfl rfl rfl rfl rfl rfl rfl rfl (fun _ _ => rfl) (fun _ _ => rfl) (fun _ _ => rfl) (fun _ _ => rfl) (fun _ _ => rfl) (fun _ _ => rfl) (fun _ _ => rfl) (fun _ _ => rfl) (fun _ _ => rfl) (fun _ _ => rfl) (fun _ _ => rfl)
  | fdbAgeExpire => exact execFdbAgeExpire_kept rfl (fun _ _ => rfl) (fun _ _ => rfl)
  | fdbRead => exact execFdbRead_kept rfl rfl (fun _ => rfl) (fun _ => rfl)
  | fdbLookup => exact execFdbLookup_kept rfl rfl (fun _ => rfl) (fun _ => rfl)
  | fdbWrite => exact execFdbWrite_kept rfl rfl (fun _ => rfl) (fun _ => rfl)
  | fdbDelete => exact execFdbDelete_kept rfl rfl (fun _ => rfl) (fun _ => rfl)
  | fdbFlushDest => exact execFdbFlushDest_kept rfl rfl (fun _ => rfl) (fun _ => rfl)
  | fdbFlushAll => exact execFdbFlushAll_kept rfl rfl (fun _ => rfl) (fun _ => rfl)
  | fdbCmdReserved => exact execFdbCmdReserved_kept rfl rfl (fun _ => rfl) (fun _ => rfl)
  | hsrEntryExpire => exact execHsrEntryExpire_kept rfl (fun _ _ => rfl)
  | bufmemFailBank => exact execBufmemFailBank_kept rfl (fun _ _ => rfl) (fun _ _ => rfl) (fun _ _ => rfl) (fun _ _ => rfl) (fun _ _ => rfl) (fun _ _ => rfl) (fun _ _ => rfl) (fun _ _ => rfl)
  | bufmemRebuild => exact execBufmemRebuild_kept rfl rfl (fun _ _ => rfl) (fun _ _ => rfl) (fun _ _ => rfl) (fun _ _ => rfl) (fun _ _ => rfl) (fun _ _ => rfl) (fun _ _ => rfl) (fun _ _ => rfl) (fun _ _ => rfl)
  | bufmemRebuildDone => exact execBufmemRebuildDone_kept rfl (fun _ _ => rfl) (fun _ _ => rfl) (fun _ _ => rfl) (fun _ _ => rfl) (fun _ _ => rfl)
  | bufmemScrub => exact execBufmemScrub_kept rfl rfl rfl rfl rfl rfl rfl (fun _ => rfl) (fun _ _ => rfl) (fun _ _ => rfl) (fun _ _ => rfl) (fun _ _ => rfl) (fun _ _ => rfl) (fun _ _ => rfl) (fun _ _ => rfl) (fun _ _ => rfl) (fun _ _ => rfl) (fun _ _ => rfl) (fun _ _ => rfl) (fun _ _ => rfl)
  | macsecSaInstall => exact execMacsecSaInstall_kept rfl rfl (fun _ _ => rfl) (fun _ _ => rfl) (fun _ _ => rfl) (fun _ _ => rfl) (fun _ _ => rfl) (fun _ _ => rfl) (fun _ _ => rfl) (fun _ _ => rfl) (fun _ _ => rfl)
  | macsecSaInstallDone => exact execMacsecSaInstallDone_kept rfl (fun _ _ => rfl) (fun _ _ => rfl) (fun _ _ => rfl)
  | macsecTxAnWrite => exact execMacsecTxAnWrite_kept rfl rfl (fun _ _ => rfl) (fun _ _ => rfl) (fun _ _ => rfl) (fun _ _ => rfl) (fun _ _ => rfl) (fun _ _ => rfl) (fun _ _ => rfl)
  | macsecTxAnApply => exact execMacsecTxAnApply_kept rfl (fun _ _ => rfl) (fun _ _ => rfl)
  | hostBar2Read => exact execHostBar2Read_kept Scope.all_full
  | hostBar2Write => exact execHostBar2Write_kept Scope.all_full
  | mgmtRead => exact execMgmtRead_kept Scope.all_full
  | mgmtPostedWrite => exact execMgmtPostedWrite_kept Scope.all_full
  | mgmtNpWrite => exact execMgmtNpWrite_kept Scope.all_full
  | mgmtWriteAck => exact execMgmtWriteAck_kept Scope.all_full
  | mgmtReadCompletion => exact execMgmtReadCompletion_kept rfl (fun _ _ => rfl) rfl (fun _ _ => rfl)
  | ordWaitExpire => exact execOrdWaitExpire_kept Scope.all_full
  | npTimeout => exact execNpTimeout_kept Scope.all_full
  | noticeLateErrorSend => exact execNoticeLateErrorSend_kept rfl rfl rfl (fun _ _ => rfl) (fun _ _ => rfl) (fun _ _ => rfl) (fun _ _ => rfl) (fun _ _ => rfl) (fun _ _ => rfl) (fun _ _ => rfl) (fun _ _ => rfl) (fun _ _ => rfl) (fun _ _ => rfl) (fun _ _ => rfl)
  | noticeLateErrorRx _ node member => exact execNoticeLateErrorRx_kept (_node := node) (_member := member) rfl (fun _ _ => rfl) (fun _ _ => rfl)
  | noticeGroupRx _ node member group pend =>
    exact execNoticeGroupRx_kept (_node := node) (_member := member) (_group := group) (_pend := pend)
  | noticeLastGaspRx _ node member payload =>
    exact execNoticeLastGaspRx_kept (_node := node) (_member := member) (_payload := payload)
  | llogPop => exact execLlogPop_kept rfl rfl rfl
  | hostTxTail => exact execHostTxTail_kept Scope.all_full
  | hostTxSlotRead => exact execHostTxSlotRead_kept rfl rfl rfl (fun _ _ => rfl) (fun _ _ => rfl) (fun _ _ => rfl) (fun _ _ => rfl) (fun _ _ => rfl) (fun _ _ => rfl) (fun _ _ => rfl) (fun _ _ => rfl) (fun _ _ => rfl) (fun _ _ => rfl) (fun _ _ => rfl) (fun _ _ => rfl)
  | leaseOpen => exact execLeaseOpen_kept rfl rfl rfl (fun _ _ => rfl) (fun _ _ => rfl) (fun _ _ => rfl) (fun _ _ => rfl) (fun _ _ => rfl) (fun _ _ => rfl) (fun _ _ => rfl) (fun _ _ => rfl) (fun _ _ => rfl) (fun _ _ => rfl) (fun _ _ => rfl)
  | leaseChallenge => exact execLeaseChallenge_kept rfl rfl rfl (fun _ _ => rfl) (fun _ _ => rfl) (fun _ _ => rfl) (fun _ _ => rfl) (fun _ _ => rfl) (fun _ _ => rfl) (fun _ _ => rfl) (fun _ _ => rfl) (fun _ _ => rfl) (fun _ _ => rfl) (fun _ _ => rfl)
  | leaseProof => exact execLeaseProof_kept rfl rfl rfl (fun _ _ => rfl) (fun _ _ => rfl) (fun _ _ => rfl) (fun _ _ => rfl) (fun _ _ => rfl) (fun _ _ => rfl) (fun _ _ => rfl) (fun _ _ => rfl) (fun _ _ => rfl) (fun _ _ => rfl) (fun _ _ => rfl) (fun _ _ => rfl) (fun _ _ => rfl) (fun _ _ => rfl) (fun _ _ => rfl)
  | leaseGrant => exact execLeaseGrant_kept rfl
  | leaseRenew => exact execLeaseRenew_kept rfl rfl rfl (fun _ _ => rfl) (fun _ _ => rfl) (fun _ _ => rfl) (fun _ _ => rfl) (fun _ _ => rfl) (fun _ _ => rfl) (fun _ _ => rfl) (fun _ _ => rfl) (fun _ _ => rfl) (fun _ _ => rfl) (fun _ _ => rfl) (fun _ _ => rfl) (fun _ _ => rfl) (fun _ _ => rfl) (fun _ _ => rfl)
  | leaseRelease => exact execLeaseRelease_kept rfl rfl (fun _ _ => rfl)
  | leaseRefuse _ _ _ reason => exact execLeaseRefuse_kept (_reason := reason) rfl
  | leaseExpire => exact execLeaseExpire_kept rfl rfl (fun _ _ => rfl)
  | leaseChallengeExpire => exact execLeaseChallengeExpire_kept rfl
  | leaseDrop => exact execLeaseDrop_kept rfl rfl rfl (fun _ _ => rfl) (fun _ _ => rfl) (fun _ _ => rfl) (fun _ _ => rfl) (fun _ _ => rfl) (fun _ _ => rfl)
  | pcieLinkChange => exact execPcieLinkChange_kept rfl (fun _ _ => rfl)
  | duplexCopyPoint => exact execDuplexCopyPoint_kept rfl rfl rfl rfl rfl rfl (fun _ _ => rfl) (fun _ => rfl) (fun _ => rfl) (fun _ => rfl) (fun _ => rfl) (fun _ => rfl)
  | backsightStatusRx => exact execBacksightStatusRx_kept rfl rfl rfl rfl rfl rfl rfl rfl (fun _ => rfl) (fun _ => rfl) (fun _ _ => rfl) (fun _ _ => rfl) (fun _ => rfl)
  | cycleRecordApply => exact execCycleRecordApply_kept rfl rfl rfl rfl rfl rfl rfl rfl (fun _ _ => rfl) (fun _ _ => rfl) (fun _ _ => rfl) (fun _ _ => rfl) (fun _ _ => rfl) (fun _ _ => rfl) (fun _ _ => rfl) (fun _ _ => rfl) (fun _ _ => rfl) (fun _ _ => rfl) (fun _ _ => rfl) (fun _ _ => rfl) (fun _ _ => rfl) (fun _ _ => rfl) (fun _ _ => rfl) (fun _ _ => rfl)
  | backsightNoticeRx => exact execBacksightNoticeRx_kept rfl rfl (fun _ _ => rfl) (fun _ _ => rfl)
  | heartbeatWindowClose => exact execHeartbeatWindowClose_kept rfl rfl rfl rfl (fun _ => rfl) (fun _ => rfl) (fun _ _ => rfl)
  | duplexNegotiateTimeout => exact execDuplexNegotiateTimeout_kept rfl rfl rfl rfl rfl rfl rfl rfl (fun _ => rfl) (fun _ => rfl) (fun _ _ => rfl) (fun _ _ => rfl) (fun _ => rfl)
  | takeover => exact execTakeover_kept Scope.all_full
  | duplexFault => exact execDuplexFault_kept rfl rfl rfl rfl rfl rfl rfl (fun _ => rfl) (fun _ => rfl) (fun _ _ => rfl) (fun _ => rfl) (fun _ _ => rfl) (fun _ => rfl) (fun _ => rfl) (fun _ _ => rfl)
  | duplexHandover => exact execDuplexHandover_kept rfl rfl rfl rfl rfl rfl rfl (fun _ => rfl) (fun _ => rfl) (fun _ _ => rfl) (fun _ => rfl) (fun _ _ => rfl) (fun _ => rfl) (fun _ => rfl) (fun _ _ => rfl)
  | duplexRejoin => exact execDuplexRejoin_kept rfl rfl rfl rfl rfl (fun _ => rfl) (fun _ => rfl) (fun _ _ => rfl) (fun _ => rfl)
  | duplexFence => exact execDuplexFence_kept rfl rfl rfl rfl rfl rfl (fun _ => rfl) (fun _ => rfl) (fun _ _ => rfl) (fun _ _ => rfl) (fun _ => rfl)
  | dualClaimStatusRx => exact execDualClaimStatusRx_kept rfl rfl rfl rfl rfl (fun _ => rfl) (fun _ => rfl) (fun _ _ => rfl) (fun _ _ => rfl)
  | gangHelloSend => exact execGangHelloSend_kept rfl rfl rfl (fun _ _ => rfl) (fun _ _ => rfl) (fun _ _ => rfl) (fun _ _ => rfl) (fun _ _ => rfl) (fun _ _ => rfl) (fun _ _ => rfl) (fun _ _ => rfl) (fun _ _ => rfl) (fun _ _ => rfl)
  | gangHelloRx => exact execGangHelloRx_kept rfl rfl (fun _ _ => rfl) (fun _ _ => rfl) (fun _ _ => rfl) (fun _ _ => rfl) (fun _ _ => rfl) (fun _ _ => rfl) (fun _ _ => rfl) (fun _ _ => rfl) (fun _ _ => rfl) (fun _ _ => rfl)
  | gangFormWaitExpire => exact execGangFormWaitExpire_kept rfl (fun _ _ => rfl) (fun _ _ => rfl) (fun _ _ => rfl) (fun _ _ => rfl) (fun _ _ => rfl) (fun _ _ => rfl)
  | gangTimeSend => exact execGangTimeSend_kept rfl rfl rfl rfl rfl rfl (fun _ _ => rfl) (fun _ _ => rfl) (fun _ _ => rfl) (fun _ _ => rfl) (fun _ _ => rfl) (fun _ _ => rfl) (fun _ _ => rfl) (fun _ _ => rfl) (fun _ _ => rfl) (fun _ _ => rfl) (fun _ _ => rfl) (fun _ _ => rfl) (fun _ _ => rfl)
  | gangTimeRx => exact execGangTimeRx_kept rfl rfl (fun _ _ => rfl) (fun _ _ => rfl) (fun _ _ => rfl)
  | gangStateRx => exact execGangStateRx_kept rfl rfl (fun _ _ => rfl)
  | gangVote => exact execGangVote_kept rfl rfl rfl rfl rfl rfl rfl rfl rfl (fun _ => rfl) (fun _ => rfl) (fun _ => rfl) (fun _ _ => rfl) (fun _ => rfl) (fun _ _ => rfl) (fun _ => rfl) (fun _ => rfl) (fun _ _ => rfl)
  | gangctlRejoin => exact execGangctlRejoin_kept rfl rfl (fun _ _ => rfl) (fun _ _ => rfl) (fun _ _ => rfl) (fun _ _ => rfl) (fun _ _ => rfl)
  | gangctlFence => exact execGangctlFence_kept rfl rfl rfl rfl rfl rfl rfl rfl (fun _ => rfl) (fun _ => rfl) (fun _ => rfl) (fun _ _ => rfl) (fun _ => rfl) (fun _ _ => rfl) (fun _ => rfl) (fun _ => rfl) (fun _ _ => rfl) (fun _ _ => rfl)
  | inputInvalid => exact execInputInvalid_kept rfl rfl rfl (fun _ => rfl) (fun _ => rfl) (fun _ => rfl)
  | inputValid => exact execInputValid_kept rfl rfl (fun _ _ => rfl) (fun _ _ => rfl) (fun _ _ => rfl) (fun _ _ => rfl) (fun _ _ => rfl) (fun _ _ => rfl)
  | mainReturn => exact execMainReturn_kept Scope.all_full
  | supplyReturnPref => exact execSupplyReturnPref_kept rfl (fun _ _ => rfl) (fun _ _ => rfl) (fun _ _ => rfl)
  | reverseComparator => exact execReverseComparator_kept rfl (fun _ _ => rfl) (fun _ _ => rfl) (fun _ _ => rfl)
  | railSequenceStart => exact execRailSequenceStart_kept rfl (fun _ _ => rfl)
  | railEnStep => exact execRailEnStep_kept rfl
  | railRampTimeout => exact execRailRampTimeout_kept Scope.all_full
  | pgCoreRelease => exact execPgCoreRelease_kept rfl rfl (fun _ _ => rfl) (fun _ _ => rfl)
  | railFault => exact execRailFault_kept Scope.all_full
  | railEnFallStep => exact execRailEnFallStep_kept rfl rfl (fun _ _ => rfl)
  | railFaultRestart => exact execRailFaultRestart_kept rfl (fun _ _ => rfl)
  | supplyRfClr => exact execSupplyRfClr_kept rfl (fun _ _ => rfl) (fun _ _ => rfl) (fun _ _ => rfl) (fun _ _ => rfl) (fun _ _ => rfl) (fun _ _ => rfl) (fun _ _ => rfl)
  | vorBelowPfw => exact execVorBelowPfw_kept (fun _ _ => rfl) (fun _ _ => rfl)
  | pfwRelease => exact execPfwRelease_kept (fun _ _ => rfl)
  | slotFastTrip => exact execSlotFastTrip_kept rfl rfl (fun _ _ => rfl) (fun _ _ => rfl) (fun _ _ => rfl) (fun _ _ => rfl) (fun _ _ => rfl) (fun _ _ => rfl) (fun _ _ => rfl) (fun _ _ => rfl) (fun _ _ => rfl) (fun _ _ => rfl) (fun _ _ => rfl) (fun _ _ => rfl)
  | slotFaultTimerExpire => exact execSlotFaultTimerExpire_kept rfl rfl (fun _ _ => rfl) (fun _ _ => rfl) (fun _ _ => rfl) (fun _ _ => rfl) (fun _ _ => rfl) (fun _ _ => rfl) (fun _ _ => rfl) (fun _ _ => rfl) (fun _ _ => rfl) (fun _ _ => rfl) (fun _ _ => rfl) (fun _ _ => rfl)
  | slotLimitTimerClear => exact execSlotLimitTimerClear_kept rfl (fun _ _ => rfl)
  | slotStartTimeout => exact execSlotStartTimeout_kept rfl rfl (fun _ _ => rfl) (fun _ _ => rfl) (fun _ _ => rfl) (fun _ _ => rfl) (fun _ _ => rfl) (fun _ _ => rfl) (fun _ _ => rfl) (fun _ _ => rfl) (fun _ _ => rfl) (fun _ _ => rfl) (fun _ _ => rfl) (fun _ _ => rfl)
  | slotPgRise => exact execSlotPgRise_kept rfl rfl (fun _ _ => rfl) (fun _ _ => rfl) (fun _ _ => rfl) (fun _ _ => rfl) (fun _ _ => rfl) (fun _ _ => rfl)
  | slotPgFall => exact execSlotPgFall_kept rfl (fun _ _ => rfl) (fun _ _ => rfl)
  | slotCoolEnd => exact execSlotCoolEnd_kept rfl (fun _ _ => rfl)
  | slotInsertRemainderEnd => exact execSlotInsertRemainderEnd_kept rfl (fun _ _ => rfl)
  | slotRemoval => exact execSlotRemoval_kept rfl rfl (fun _ _ => rfl) (fun _ _ => rfl) (fun _ _ => rfl) (fun _ _ => rfl) (fun _ _ => rfl) (fun _ _ => rfl)
  | slotInsertion => exact execSlotInsertion_kept rfl rfl (fun _ _ => rfl) (fun _ _ => rfl) (fun _ _ => rfl)
  | slotOnPinChange => exact execSlotOnPinChange_kept rfl rfl (fun _ _ => rfl) (fun _ _ => rfl) (fun _ _ => rfl) (fun _ _ => rfl)
  | tallyUpdate => exact execTallyUpdate_kept rfl rfl rfl rfl rfl rfl (fun _ => rfl) (fun _ => rfl) (fun _ => rfl) (fun _ => rfl) (fun _ _ => rfl) (fun _ => rfl) (fun _ => rfl)
  | classAComplete => exact execClassAComplete_kept Scope.all_full
  | classATimeout => exact execClassATimeout_kept Scope.all_full
  | tallyLearn => exact execTallyLearn_kept rfl rfl (fun _ _ => rfl) (fun _ _ => rfl) (fun _ _ => rfl) (fun _ _ => rfl) (fun _ _ => rfl) (fun _ _ => rfl) (fun _ _ => rfl) (fun _ _ => rfl)
  | tallyAutoLearn => exact execTallyAutoLearn_kept rfl (fun _ _ => rfl) (fun _ _ => rfl)
  | tallyLearnEnd => exact execTallyLearnEnd_kept rfl (fun _ _ => rfl) (fun _ _ => rfl) (fun _ _ => rfl) (fun _ _ => rfl) (fun _ _ => rfl) (fun _ _ => rfl) (fun _ _ => rfl)
  | monumentDerive => exact execMonumentDerive_kept rfl rfl rfl (fun _ _ => rfl) (fun _ _ => rfl) (fun _ _ => rfl) (fun _ _ => rfl) (fun _ _ => rfl) (fun _ _ => rfl) (fun _ _ => rfl) (fun _ _ => rfl) (fun _ _ => rfl)
  | monumentGenerate => exact execMonumentGenerate_kept rfl rfl rfl (fun _ _ => rfl) (fun _ _ => rfl) (fun _ _ => rfl) (fun _ _ => rfl) (fun _ _ => rfl) (fun _ _ => rfl) (fun _ _ => rfl) (fun _ _ => rfl) (fun _ _ => rfl)
  | monumentGenIdent => exact execMonumentGenIdent_kept rfl rfl rfl (fun _ _ => rfl) (fun _ _ => rfl) (fun _ _ => rfl) (fun _ _ => rfl) (fun _ _ => rfl) (fun _ _ => rfl) (fun _ _ => rfl) (fun _ _ => rfl) (fun _ _ => rfl)
  | monumentImport => exact execMonumentImport_kept rfl rfl rfl (fun _ _ => rfl) (fun _ _ => rfl) (fun _ _ => rfl) (fun _ _ => rfl) (fun _ _ => rfl) (fun _ _ => rfl) (fun _ _ => rfl) (fun _ _ => rfl) (fun _ _ => rfl)
  | monumentUnwrap => exact execMonumentUnwrap_kept rfl rfl rfl (fun _ _ => rfl) (fun _ _ => rfl) (fun _ _ => rfl) (fun _ _ => rfl) (fun _ _ => rfl) (fun _ _ => rfl) (fun _ _ => rfl) (fun _ _ => rfl) (fun _ _ => rfl)
  | monumentWrap => exact execMonumentWrap_kept rfl rfl rfl (fun _ _ => rfl) (fun _ _ => rfl) (fun _ _ => rfl) (fun _ _ => rfl) (fun _ _ => rfl) (fun _ _ => rfl) (fun _ _ => rfl) (fun _ _ => rfl) (fun _ _ => rfl)
  | monumentMac => exact execMonumentMac_kept rfl rfl rfl (fun _ _ => rfl) (fun _ _ => rfl) (fun _ _ => rfl) (fun _ _ => rfl) (fun _ _ => rfl) (fun _ _ => rfl) (fun _ _ => rfl) (fun _ _ => rfl) (fun _ _ => rfl)
  | monumentMacVerify => exact execMonumentMacVerify_kept rfl rfl rfl (fun _ _ => rfl) (fun _ _ => rfl) (fun _ _ => rfl) (fun _ _ => rfl) (fun _ _ => rfl) (fun _ _ => rfl) (fun _ _ => rfl) (fun _ _ => rfl) (fun _ _ => rfl)
  | monumentSign => exact execMonumentSign_kept rfl rfl rfl (fun _ _ => rfl) (fun _ _ => rfl) (fun _ _ => rfl) (fun _ _ => rfl) (fun _ _ => rfl) (fun _ _ => rfl) (fun _ _ => rfl) (fun _ _ => rfl) (fun _ _ => rfl)
  | monumentPubkey => exact execMonumentPubkey_kept rfl rfl rfl (fun _ _ => rfl) (fun _ _ => rfl) (fun _ _ => rfl) (fun _ _ => rfl) (fun _ _ => rfl) (fun _ _ => rfl) (fun _ _ => rfl) (fun _ _ => rfl) (fun _ _ => rfl)
  | monumentAttest => exact execMonumentAttest_kept rfl rfl rfl (fun _ _ => rfl) (fun _ _ => rfl) (fun _ _ => rfl) (fun _ _ => rfl) (fun _ _ => rfl) (fun _ _ => rfl) (fun _ _ => rfl) (fun _ _ => rfl) (fun _ _ => rfl)
  | monumentProve => exact execMonumentProve_kept rfl rfl rfl (fun _ _ => rfl) (fun _ _ => rfl) (fun _ _ => rfl) (fun _ _ => rfl) (fun _ _ => rfl) (fun _ _ => rfl) (fun _ _ => rfl) (fun _ _ => rfl) (fun _ _ => rfl)
  | monumentCommit => exact execMonumentCommit_kept rfl rfl rfl (fun _ _ => rfl) (fun _ _ => rfl) (fun _ _ => rfl) (fun _ _ => rfl) (fun _ _ => rfl) (fun _ _ => rfl) (fun _ _ => rfl) (fun _ _ => rfl) (fun _ _ => rfl)
  | monumentDiscard => exact execMonumentDiscard_kept rfl rfl rfl (fun _ _ => rfl) (fun _ _ => rfl) (fun _ _ => rfl) (fun _ _ => rfl) (fun _ _ => rfl) (fun _ _ => rfl) (fun _ _ => rfl) (fun _ _ => rfl) (fun _ _ => rfl)
  | monumentErase => exact execMonumentErase_kept rfl rfl rfl (fun _ _ => rfl) (fun _ _ => rfl) (fun _ _ => rfl) (fun _ _ => rfl) (fun _ _ => rfl) (fun _ _ => rfl) (fun _ _ => rfl) (fun _ _ => rfl) (fun _ _ => rfl)
  | monumentInfo => exact execMonumentInfo_kept rfl rfl rfl (fun _ _ => rfl) (fun _ _ => rfl) (fun _ _ => rfl) (fun _ _ => rfl) (fun _ _ => rfl) (fun _ _ => rfl) (fun _ _ => rfl) (fun _ _ => rfl) (fun _ _ => rfl)
  | monumentTransition => exact execMonumentTransition_kept rfl rfl rfl (fun _ _ => rfl) (fun _ _ => rfl) (fun _ _ => rfl) (fun _ _ => rfl) (fun _ _ => rfl) (fun _ _ => rfl) (fun _ _ => rfl) (fun _ _ => rfl) (fun _ _ => rfl)
  | monumentMkaKdf => exact execMonumentMkaKdf_kept rfl rfl rfl (fun _ _ => rfl) (fun _ _ => rfl) (fun _ _ => rfl) (fun _ _ => rfl) (fun _ _ => rfl) (fun _ _ => rfl) (fun _ _ => rfl) (fun _ _ => rfl) (fun _ _ => rfl)
  | monumentMkaIcv => exact execMonumentMkaIcv_kept rfl rfl rfl (fun _ _ => rfl) (fun _ _ => rfl) (fun _ _ => rfl) (fun _ _ => rfl) (fun _ _ => rfl) (fun _ _ => rfl) (fun _ _ => rfl) (fun _ _ => rfl) (fun _ _ => rfl)
  | monumentMkaUnwrap => exact execMonumentMkaUnwrap_kept rfl rfl rfl (fun _ _ => rfl) (fun _ _ => rfl) (fun _ _ => rfl) (fun _ _ => rfl) (fun _ _ => rfl) (fun _ _ => rfl) (fun _ _ => rfl) (fun _ _ => rfl) (fun _ _ => rfl)
  | monumentOpReserved => exact execMonumentOpReserved_kept rfl rfl rfl (fun _ _ => rfl) (fun _ _ => rfl) (fun _ _ => rfl) (fun _ _ => rfl) (fun _ _ => rfl) (fun _ _ => rfl) (fun _ _ => rfl) (fun _ _ => rfl) (fun _ _ => rfl)
  | monumentOpDone => exact execMonumentOpDone_kept rfl rfl rfl (fun _ => rfl)
  | keyCommit => exact execKeyCommit_kept rfl rfl (fun _ _ => rfl)
  | keyCommitOldZeroed => exact execKeyCommitOldZeroed_kept rfl
  | trngFail => exact execTrngFail_kept (fun _ _ => rfl) (fun _ _ => rfl) (fun _ _ => rfl)
  | monumentRtcSet => exact execMonumentRtcSet_kept rfl rfl (fun _ _ => rfl) (fun _ _ => rfl) (fun _ _ => rfl) (fun _ _ => rfl) (fun _ _ => rfl)
  | tamperDetect => exact execTamperDetect_kept rfl rfl rfl rfl (fun _ _ => rfl) (fun _ => rfl) (fun _ => rfl) (fun _ _ => rfl) (fun _ _ => rfl) (fun _ _ => rfl) (fun _ _ => rfl) (fun _ _ => rfl)
  | tamperRearm => exact execTamperRearm_kept rfl rfl (fun _ _ => rfl) (fun _ _ => rfl) (fun _ _ => rfl) (fun _ _ => rfl) (fun _ _ => rfl) (fun _ _ => rfl) (fun _ _ => rfl) (fun _ _ => rfl)
  | hmonSample => exact execHmonSample_kept (fun _ => rfl)
  | hmonSnap => exact execHmonSnap_kept rfl (fun _ _ => rfl) (fun _ _ => rfl)
  | calDataWrite => exact execCalDataWrite_kept rfl rfl (fun _ _ => rfl) (fun _ _ => rfl) (fun _ _ => rfl) (fun _ _ => rfl) (fun _ _ => rfl) (fun _ _ => rfl)
  | calDataRead => exact execCalDataRead_kept rfl (fun _ _ => rfl)
  | calUnlock => exact execCalUnlock_kept rfl rfl (fun _ _ => rfl) (fun _ _ => rfl) (fun _ _ => rfl) (fun _ _ => rfl) (fun _ _ => rfl)
  | calProg => exact execCalProg_kept rfl rfl (fun _ _ => rfl) (fun _ _ => rfl) (fun _ _ => rfl) (fun _ _ => rfl) (fun _ _ => rfl) (fun _ _ => rfl)
  | calProgDone => exact execCalProgDone_kept rfl (fun _ _ => rfl) (fun _ _ => rfl) (fun _ _ => rfl) (fun _ _ => rfl) (fun _ _ => rfl)
  | corePorRelease => exact execCorePorRelease_kept rfl rfl rfl rfl (fun _ _ => rfl) (fun _ _ => rfl) (fun _ _ => rfl) (fun _ _ => rfl) (fun _ _ => rfl) (fun _ _ => rfl) (fun _ _ => rfl) (fun _ _ => rfl) (fun _ _ => rfl) (fun _ _ => rfl) (fun _ _ => rfl) (fun _ _ => rfl)
  | pllLock => exact execPllLock_kept rfl (fun _ _ => rfl)
  | calLoadDone => exact execCalLoadDone_kept rfl (fun _ _ => rfl) (fun _ _ => rfl) (fun _ _ => rfl) (fun _ _ => rfl)
  | selfTestDone => exact execSelfTestDone_kept Scope.all_full
  | bootFetchDone => exact execBootFetchDone_kept rfl (fun _ _ => rfl) (fun _ _ => rfl) (fun _ _ => rfl) (fun _ _ => rfl) (fun _ _ => rfl)
  | bootAuthDone => exact execBootAuthDone_kept Scope.all_full
  | bootGo => exact execBootGo_kept Scope.all_full
  | bootDataWrite => exact execBootDataWrite_kept Scope.all_full
  | bootEntryPage => exact execBootEntryPage_kept Scope.all_full
  | bootEntryProgram => exact execBootEntryProgram_kept Scope.all_full
  | bootEntryWait => exact execBootEntryWait_kept rfl (fun _ _ => rfl) (fun _ _ => rfl) (fun _ _ => rfl) (fun _ _ => rfl) (fun _ _ => rfl) (fun _ _ => rfl) (fun _ _ => rfl) (fun _ _ => rfl)
  | bootWaitTimeout => exact execBootWaitTimeout_kept rfl (fun _ _ => rfl) (fun _ _ => rfl) (fun _ _ => rfl) (fun _ _ => rfl)
  | rstNAssert => exact execRstNAssert_kept Scope.all_full
  | rstNRelease => exact execRstNRelease_kept rfl rfl rfl rfl (fun _ _ => rfl) (fun _ _ => rfl) (fun _ _ => rfl) (fun _ _ => rfl) (fun _ _ => rfl) (fun _ _ => rfl) (fun _ _ => rfl) (fun _ _ => rfl) (fun _ _ => rfl) (fun _ _ => rfl) (fun _ _ => rfl) (fun _ _ => rfl) (fun _ _ => rfl) (fun _ _ => rfl)
  | wdogArm => exact execWdogArm_kept Scope.all_full
  | wdogKick => exact execWdogKick_kept Scope.all_full
  | wdogExpire => exact execWdogExpire_kept Scope.all_full
  | wdogDelayedReset => exact execWdogDelayedReset_kept Scope.all_full
  | resetCmd => exact execResetCmd_kept Scope.all_full
  | resetCmdFire => exact execResetCmdFire_kept Scope.all_full
  | domainReset => exact execDomainReset_kept Scope.all_full
  | domainResetDone => exact execDomainResetDone_kept Scope.all_full
  | batteryDomainLoss => exact execBatteryDomainLoss_kept rfl rfl rfl (fun _ => rfl)
  | canReceiveError => exact execCanReceiveError_kept rfl rfl (fun _ => rfl) (fun _ _ => rfl) (fun _ _ => rfl) (fun _ _ => rfl) (fun _ _ => rfl) (fun _ _ => rfl) (fun _ _ => rfl)
  | stallLong => exact execStallLong_kept rfl (fun _ _ => rfl)
  | swapAbandon => exact execSwapAbandon_kept rfl (fun _ _ => rfl) (fun _ _ => rfl) (fun _ _ => rfl) (fun _ _ => rfl) (fun _ _ => rfl) (fun _ _ => rfl) (fun _ _ => rfl) (fun _ _ => rfl) (fun _ _ => rfl) (fun _ _ => rfl) (fun _ _ => rfl) (fun _ _ => rfl)
  | peerAbsent => exact execPeerAbsent_kept (fun _ _ => rfl)
  | tamperSourceInactive => exact execTamperSourceInactive_kept (fun _ _ => rfl)
  | vddioBankChange => exact execVddioBankChange_kept rfl rfl rfl (fun _ _ => rfl) (fun _ _ => rfl) (fun _ _ => rfl) (fun _ _ => rfl) (fun _ _ => rfl) (fun _ _ => rfl) (fun _ _ => rfl) (fun _ _ => rfl)

/-- What a step keeps, from the state whose front command it has taken off the queue. -/
theorem step_kept {s t : State} (h : step s = .next t) : Kept Scope.all { s with pending := s.pending.tail } t := by
  rcases hq : s.pending with _ | ⟨c, q⟩
  · obtain rfl : s = t := by simpa [step, hq] using h
    rw [List.tail_nil, ← hq]
    exact Kept.refl _ s
  · obtain ⟨u, hu, hkept⟩ := exec_kept c { s with pending := q }
    obtain rfl : u = t := by simpa [step, hq, hu] using h
    exact hkept

theorem step_next (s : State) : ∃ t, step s = .next t := by
  rcases hq : s.pending with _ | ⟨c, q⟩
  · exact ⟨s, by simp [step, hq]⟩
  · obtain ⟨t, ht, -⟩ := exec_kept c { s with pending := q }
    exact ⟨t, by simp [step, hq, ht]⟩

end Sys2Proof.Laws

namespace Sys2Proof.EveryStep

/-- Settles O1: both equations are the definition of `step`. -/
theorem stepRunsFront : Obligations.StepRunsFront :=
  ⟨fun _ _ _ => rfl, fun s h => by simp only [step, h]⟩

/-- Settles O2: every command keeps the canonical tables, and the queue is not in them. -/
theorem tablesStayCanonical : Obligations.TablesStayCanonical :=
  fun _ _ hcanon hstep => (step_kept hstep).canon hcanon

/-- Settles O3: every command moves the life cycle forward only, along an arrow of R473. -/
theorem lifeCycleNeverGoesBack : Obligations.LifeCycleNeverGoesBack :=
  fun _ _ hlife hstep => (step_kept hstep).forward hlife

/-- Settles O4: every command answers a next state and leaves the rest of the queue. -/
theorem everyStepTakesOneCommand : Obligations.EveryStepTakesOneCommand :=
  ⟨step_next, fun _ _ _ _ hstep =>
    have hkept := step_kept hstep
    ⟨hkept.pending, hkept.clock, hkept.free, hkept.serial⟩⟩

/-- Settles O5: the reset image gives each value. -/
theorem stateAfterReset : Obligations.StateAfterReset := by
  unfold Obligations.StateAfterReset
  refine ⟨?_, by decide, by decide, by decide, by decide, by decide, rfl, rfl, rfl, rfl, ?_, ?_⟩
  · decide +kernel
  · exact ⟨by decide, rfl⟩
  · exact ⟨by decide, by decide, fun _ h => by cases h⟩

end Sys2Proof.EveryStep
end

section
/-!
PROOFS. The frames: what each command leaves, from what its operations keep (Laws/Kept01 to Kept13) and the scope that the frame names.
-/

open Sys2Proof Sys2Proof.Machine Sys2Proof.Laws

namespace Sys2Proof.Laws

@[simp] theorem famOf_unitPages : (∀ n, famOf (pPORT n) = some .port) ∧ (∀ n, famOf (pEDGE n) = some .edge) ∧
    (∀ n, famOf (pCAN n) = some .can) ∧ (∀ n, famOf (pENG n) = some .eng) ∧ (∀ n, famOf (pSLOT n) = some .slot) ∧
    (∀ n, famOf (pHMON n) = some .hmon) :=
  ⟨famOf_pPORT, famOf_pEDGE, famOf_pCAN, famOf_pENG, famOf_pSLOT, famOf_pHMON⟩

/-- A frame names the words of a field, by its page or among its fields. -/
def frameNames (fields : List (Nat × List Fld)) (pages : Nat → Bool) (p : Nat) (f : Fld) : Bool :=
  pages p || fields.any fun x => x.1 == p && x.2.any fun g => g.off == f.off && decide (f.words ≤ g.words)

variable {fields : List (Nat × List Fld)} {pages : Nat → Bool} {parts : List Part} {p : Nat} {f : Fld}

@[simp] theorem frameScope_part (x : Part) : (frameScope fields pages parts).part x = parts.contains x := rfl

@[simp] theorem frameScope_fld_of_names (h : frameNames fields pages p f = true) : (frameScope fields pages parts).fld p f := by
  simp only [frameNames, Bool.or_eq_true, List.any_eq_true, Bool.and_eq_true, beq_iff_eq, decide_eq_true_eq] at h
  rcases h with h | ⟨⟨q, l⟩, hx, rfl, g, hg, hoff, hwords⟩
  · exact (frameScope_page h).fld
  · exact frameScope_fld l g hx hg hoff.symm hwords

@[simp] theorem frameScope_page_of_named (h : pages p = true) : (frameScope fields pages parts).page p := frameScope_page h

@[simp] theorem frameScope_reg_of_named {off : Nat} (h : ∃ x ∈ fields, x.1 = p ∧ (⟨off, 0, 32⟩ : Fld) ∈ x.2) :
    (frameScope fields pages parts).reg (regKey p off) = true := frameScope_reg h

end Sys2Proof.Laws

namespace Sys2Proof.Frames

/-- Settles O56: each command of the datum, the misclosure test, the plat and the stakes keeps what its frame does not name. -/
theorem framesOfTimeAndPlat : Obligations.FramesOfTimeAndPlat := by
  refine ⟨?_, ?_, ?_, ?_, ?_, ?_, ?_, ?_, ?_, ?_, ?_, ?_, ?_, ?_, ?_, ?_, ?_, ?_, ?_, ?_, ?_, ?_, ?_, ?_, ?_, ?_, ?_, ?_, ?_, ?_,
    ?_, ?_, ?_, ?_, ?_, ?_, ?_, ?_, ?_, ?_⟩
  · exact fun _ _ _ => leaves_of_kept (by apply execDatumIncWrite_kept <;> simp +decide)
  · exact fun _ _ _ _ => leaves_of_kept (by apply execDatumStepWrite_kept <;> simp +decide)
  · exact fun _ _ _ => leaves_of_kept (by apply execDatumStepUnlock_kept <;> simp +decide)
  · exact fun _ => leaves_of_kept (by apply execUnlockWindowExpire_kept; simp +decide)
  · exact fun _ _ => leaves_of_kept (by apply execDatumHoldReq_kept <;> simp +decide)
  · exact fun _ _ => leaves_of_kept (by apply execDatumResume_kept <;> simp +decide)
  · exact fun _ _ => leaves_of_kept (by apply execRefFaultDetect_kept <;> simp +decide)
  · exact fun _ _ => leaves_of_kept (by apply execRefFaultClear_kept; simp +decide)
  · exact fun _ _ => leaves_of_kept (by apply execTxqPop_kept <;> simp +decide)
  · exact fun _ _ => leaves_of_kept (by apply execTxqFlush_kept <;> simp +decide)
  · exact fun _ _ _ => leaves_of_kept (by apply execPpsInEdge_kept <;> simp +decide)
  · exact fun _ => leaves_of_kept (by apply execPpsOutStart_kept; simp +decide)
  · exact fun _ => leaves_of_kept (by apply execPpsOutEnd_kept; simp +decide)
  · exact fun _ _ _ _ => leaves_of_kept (by apply execPdelayWrite_kept <;> simp +decide [frameNames])
  · exact fun _ => leaves_of_kept (by apply execMsclRoundStart_kept <;> simp +decide)
  · exact fun _ _ _ _ _ _ => leaves_of_kept (by apply execProbeRx_kept <;> simp +decide)
  · exact fun _ => leaves_of_kept (by apply execMsclProbeTimeout_kept <;> simp +decide)
  · exact fun _ => leaves_of_kept (by apply execCoincWindowClose_kept <;> simp +decide)
  · exact fun _ => leaves_of_kept (by apply execCycleBoundary_kept <;> simp +decide)
  · exact fun _ => leaves_of_kept (by apply execPlatFreeze_kept <;> simp +decide)
  · exact fun _ => leaves_of_kept (by apply execPlatRelease_kept <;> simp +decide)
  · exact fun _ _ _ => leaves_of_kept (by apply execPlatOwnSent_kept <;> simp +decide [frameNames])
  · exact fun _ _ _ _ _ => leaves_of_kept (by apply execPlatFrameRx_kept <;> simp +decide)
  · exact fun _ => leaves_of_kept (by apply execPlatVote_kept <;> simp +decide)
  · exact fun _ => leaves_of_kept (by apply execPlatViewFlip_kept <;> simp +decide)
  · exact fun _ _ _ _ _ => leaves_of_kept (by apply execPlatOutputWrite_kept <;> simp +decide)
  · exact fun _ _ => leaves_of_kept (by apply execCycleRejoin_kept <;> simp +decide)
  · exact fun _ _ _ _ => leaves_of_kept (by apply execGangFeedRx_kept <;> simp +decide)
  · exact fun _ _ _ _ => leaves_of_kept (by apply execStakeIssue_kept <;> simp +decide)
  · exact fun _ _ => leaves_of_kept (by apply execStakeFrameSend_kept <;> simp +decide)
  · exact fun _ _ _ => leaves_of_kept (by apply execStakeArrival_kept <;> simp +decide)
  · exact fun _ _ _ => leaves_of_kept (by apply execStakeCancelArrival_kept <;> simp +decide)
  · exact fun _ _ _ => leaves_of_kept (by apply execStakeCancelWrite_kept <;> simp +decide)
  · exact fun _ => leaves_of_kept (by apply execStakeHandover_kept <;> simp +decide)
  · exact fun _ => leaves_of_kept (by apply execStakeIslandWithdraw_kept <;> simp +decide)
  · exact fun _ => leaves_of_kept (by apply execStakeExecPin_kept <;> simp +decide)
  · exact fun _ => leaves_of_kept (by apply execStakeExecEngFifo_kept <;> simp +decide)
  · exact fun _ => leaves_of_kept (by apply execStakeExecPlat_kept <;> simp +decide)
  · exact fun _ _ _ _ _ => leaves_of_kept (by apply execReceiptRx_kept <;> simp +decide)
  · exact fun _ _ => leaves_of_kept (by apply execRcptPop_kept <;> simp +decide)

/-- Settles O57: each command of the pin engines, the field book and CAN keeps what its frame does not name. -/
theorem framesOfEnginesPinsBookAndCan : Obligations.FramesOfEnginesPinsBookAndCan := by
  refine ⟨?_, ?_, ?_, ?_, ?_, ?_, ?_, ?_, ?_, ?_, ?_, ?_, ?_, ?_, ?_, ?_, ?_, ?_, ?_, ?_, ?_, ?_, ?_, ?_, ?_, ?_, ?_, ?_, ?_, ?_,
    ?_, ?_, ?_, ?_, ?_, ?_, ?_, ?_, ?_, ?_, ?_, ?_, ?_, ?_, ?_, ?_, ?_, ?_, ?_, ?_, ?_, ?_⟩
  · exact fun _ => leaves_of_kept (by apply execStakeExecCan_kept <;> simp +decide)
  · exact fun _ _ => leaves_of_kept (by apply execInstrWaitt_kept <;> simp +decide [frameNames])
  · exact fun _ _ => leaves_of_kept (by apply execWaittComplete_kept <;> simp +decide [frameNames])
  · exact fun _ _ => leaves_of_kept (by apply execInstrWaitp_kept <;> simp +decide [frameNames])
  · exact fun _ _ _ => leaves_of_kept (by apply execWaitpComplete_kept <;> simp +decide [frameNames])
  · exact fun _ _ => leaves_of_kept (by apply execInstrDly_kept <;> simp +decide [frameNames])
  · exact fun _ _ => leaves_of_kept (by apply execDlyComplete_kept <;> simp +decide [frameNames])
  · exact fun _ _ => leaves_of_kept (by apply execInstrCnt_kept <;> simp +decide [frameNames])
  · exact fun _ _ _ => leaves_of_kept (by apply execCntComplete_kept <;> simp +decide [frameNames])
  · exact fun _ _ => leaves_of_kept (by apply execInstrJmp_kept <;> simp +decide [frameNames])
  · exact fun _ _ => leaves_of_kept (by apply execInstrMov_kept <;> simp +decide [frameNames])
  · exact fun _ _ => leaves_of_kept (by apply execInstrSet_kept <;> simp +decide [frameNames])
  · exact fun _ _ => leaves_of_kept (by apply execInstrOut_kept <;> simp +decide [frameNames])
  · exact fun _ _ => leaves_of_kept (by apply execInstrIn_kept <;> simp +decide [frameNames])
  · exact fun _ _ => leaves_of_kept (by apply execInstrPull_kept <;> simp +decide [frameNames])
  · exact fun _ _ => leaves_of_kept (by apply execInstrPush_kept <;> simp +decide)
  · exact fun _ _ => leaves_of_kept (by apply execInstrStamp_kept <;> simp +decide [frameNames])
  · exact fun _ _ => leaves_of_kept (by apply execInstrNote_kept <;> simp +decide [frameNames])
  · exact fun _ _ => leaves_of_kept (by apply execInstrDelayEnd_kept <;> simp +decide [frameNames])
  · exact fun _ _ => leaves_of_kept (by apply execEngineStallEnd_kept <;> simp +decide)
  · exact fun _ _ _ _ => leaves_of_kept (by apply execEngTxfWrite_kept <;> simp +decide [frameNames])
  · exact fun _ _ _ => leaves_of_kept (by apply execEngRxfPop_kept <;> simp +decide)
  · exact fun _ _ _ _ => leaves_of_kept (by apply execEngJump_kept <;> simp +decide [frameNames])
  · exact fun _ _ _ => leaves_of_kept (by apply execEngSnap_kept <;> simp +decide [frameNames])
  · exact fun _ _ _ => leaves_of_kept (by apply execCrewSwapGo_kept <;> simp +decide [frameNames])
  · exact fun _ _ _ _ => leaves_of_kept (by apply execCrewGoEng_kept <;> simp +decide [frameNames])
  · exact fun _ _ _ _ => leaves_of_kept (by apply execCrewFlagset_kept <;> simp +decide [frameNames])
  · exact fun _ _ _ _ _ => leaves_of_kept (by apply execPinmuxSwdataWrite_kept <;> simp +decide [frameNames])
  · exact fun _ _ _ _ => leaves_of_kept (by apply execPinTransition_kept <;> simp +decide)
  · exact fun _ _ => leaves_of_kept (by apply execGlitchWindowExpire_kept <;> simp +decide)
  · exact fun _ _ => leaves_of_kept (by apply execDebounceWindowClose_kept <;> simp +decide)
  · exact fun _ _ => leaves_of_kept (by apply execChatterWindowClose_kept <;> simp +decide)
  · exact fun _ _ => leaves_of_kept (by apply execChatterQuietEnd_kept <;> simp +decide)
  · exact fun _ _ => leaves_of_kept (by apply execStuckTimerExpire_kept <;> simp +decide)
  · exact fun _ _ => leaves_of_kept (by apply execBookCommit_kept <;> simp +decide)
  · exact fun _ => leaves_of_kept (by apply execDiscardEpisodeEnd_kept <;> simp +decide)
  · exact fun _ _ => leaves_of_kept (by apply execBookDmaBurst_kept <;> simp +decide)
  · exact fun _ _ => leaves_of_kept (by apply execBookFrameSend_kept <;> simp +decide)
  · exact fun _ _ _ _ => leaves_of_kept (by apply execCanTxStart_kept <;> simp +decide [frameNames])
  · exact fun _ _ _ _ => leaves_of_kept (by apply execCanTxDone_kept <;> simp +decide [frameNames])
  · exact fun _ _ _ => leaves_of_kept (by apply execCanArbLost_kept <;> simp +decide [frameNames])
  · exact fun _ _ _ _ _ _ _ _ _ _ => leaves_of_kept (by apply execCanTxError_kept <;> simp +decide [frameNames])
  · exact fun _ _ _ => leaves_of_kept (by apply execCanRecover_kept <;> simp +decide [frameNames])
  · exact fun _ _ _ _ _ _ _ _ _ => leaves_of_kept (by apply execCanRxFrame_kept <;> simp +decide [frameNames])
  · exact fun _ _ _ _ => leaves_of_kept (by apply execCanTxreq_kept <;> simp +decide [frameNames])
  · exact fun _ _ _ _ => leaves_of_kept (by apply execCanTxabort_kept <;> simp +decide [frameNames])
  · exact fun _ _ _ _ => leaves_of_kept (by apply execCanRxack_kept <;> simp +decide [frameNames])
  · exact fun _ _ => leaves_of_kept (by apply execCanRefDue_kept <;> simp +decide [frameNames])
  · exact fun _ _ _ => leaves_of_kept (by apply execCanSynced_kept <;> simp +decide [frameNames])
  · exact fun _ _ _ _ _ _ => leaves_of_kept (by apply execCanReceiveError_kept <;> simp +decide [frameNames])
  · exact fun _ _ => leaves_of_kept (by apply execStallLong_kept <;> simp +decide [frameNames])
  · exact fun _ _ => leaves_of_kept (by apply execSwapAbandon_kept <;> simp +decide [frameNames])

/-- Settles O58: each command of the frame ports and the switch core keeps what its frame does not name. -/
theorem framesOfPortsAndSwitch : Obligations.FramesOfPortsAndSwitch := by
  refine ⟨?_, ?_, ?_, ?_, ?_, ?_, ?_, ?_, ?_, ?_, ?_, ?_, ?_, ?_, ?_, ?_, ?_, ?_, ?_, ?_, ?_, ?_, ?_, ?_, ?_, ?_, ?_, ?_, ?_, ?_,
    ?_, ?_⟩
  · exact fun _ _ _ => leaves_of_kept (by apply execLinkDown_kept <;> simp +decide)
  · exact fun _ _ _ _ => leaves_of_kept (by apply execLinkUp_kept <;> simp +decide)
  · exact fun _ _ => leaves_of_kept (by apply execLinkFallbackToggle_kept <;> simp +decide [frameNames])
  · exact fun _ _ _ _ _ => leaves_of_kept (by apply execPortRxFrame_kept <;> simp +decide)
  · exact fun _ _ _ => leaves_of_kept (by apply execPortTxStart_kept <;> simp +decide)
  · exact fun _ _ => leaves_of_kept (by apply execGclEntryChange_kept; simp +decide)
  · exact fun _ _ _ => leaves_of_kept (by apply execGclSwapWrite_kept <;> simp +decide [frameNames])
  · exact fun _ _ => leaves_of_kept (by apply execGclSwapApply_kept <;> simp +decide [frameNames])
  · exact fun _ _ _ => leaves_of_kept (by apply execPauseSend_kept <;> simp +decide [frameNames])
  · exact fun _ _ => leaves_of_kept (by apply execPauseRepeat_kept <;> simp +decide [frameNames])
  · exact fun _ _ _ _ => leaves_of_kept (by apply execPauseRx_kept <;> simp +decide [frameNames])
  · exact fun _ _ => leaves_of_kept (by apply execPauseExpire_kept <;> simp +decide [frameNames])
  · exact fun _ _ => leaves_of_kept (by apply execHoldWindowClose_kept <;> simp +decide)
  · exact fun _ _ _ => leaves_of_kept (by apply execPcsLockLoss_kept <;> simp +decide [frameNames])
  · exact fun _ _ _ _ => leaves_of_kept (by apply execPortSnap_kept <;> simp +decide)
  · exact fun _ _ => leaves_of_kept (by apply execFdbAgeExpire_kept <;> simp +decide)
  · exact fun _ _ _ => leaves_of_kept (by apply execFdbRead_kept <;> simp +decide)
  · exact fun _ _ => leaves_of_kept (by apply execFdbLookup_kept <;> simp +decide)
  · exact fun _ _ => leaves_of_kept (by apply execFdbWrite_kept <;> simp +decide)
  · exact fun _ _ => leaves_of_kept (by apply execFdbDelete_kept <;> simp +decide)
  · exact fun _ _ => leaves_of_kept (by apply execFdbFlushDest_kept <;> simp +decide)
  · exact fun _ _ => leaves_of_kept (by apply execFdbFlushAll_kept <;> simp +decide)
  · exact fun _ _ _ => leaves_of_kept (by apply execFdbCmdReserved_kept <;> simp +decide)
  · exact fun _ => leaves_of_kept (by apply execHsrEntryExpire_kept <;> simp +decide)
  · exact fun _ _ _ => leaves_of_kept (by apply execBufmemFailBank_kept <;> simp +decide)
  · exact fun _ _ _ => leaves_of_kept (by apply execBufmemRebuild_kept <;> simp +decide)
  · exact fun _ _ _ => leaves_of_kept (by apply execBufmemRebuildDone_kept <;> simp +decide)
  · exact fun _ _ _ => leaves_of_kept (by apply execBufmemScrub_kept <;> simp +decide)
  · exact fun _ _ _ _ _ => leaves_of_kept (by apply execMacsecSaInstall_kept <;> simp +decide [frameNames])
  · exact fun _ _ _ _ => leaves_of_kept (by apply execMacsecSaInstallDone_kept <;> simp +decide [frameNames])
  · exact fun _ _ _ _ => leaves_of_kept (by apply execMacsecTxAnWrite_kept <;> simp +decide [frameNames])
  · exact fun _ _ _ => leaves_of_kept (by apply execMacsecTxAnApply_kept <;> simp +decide [frameNames])

/-- Settles O59: each command of the hub, the register pages, the host bridge, the pair and the gang keeps what its frame does not name. -/
theorem framesOfHubBridgeAndPairs : Obligations.FramesOfHubBridgeAndPairs := by
  refine ⟨?_, ?_, ?_, ?_, ?_, ?_, ?_, ?_, ?_, ?_, ?_, ?_, ?_, ?_, ?_, ?_, ?_, ?_, ?_, ?_, ?_, ?_, ?_, ?_, ?_, ?_, ?_, ?_, ?_, ?_,
    ?_, ?_, ?_, ?_, ?_, ?_, ?_, ?_, ?_, ?_, ?_, ?_, ?_, ?_, ?_, ?_, ?_, ?_, ?_⟩
  · exact fun _ _ => leaves_of_kept (by apply execVbatApplied_kept <;> simp +decide)
  · exact fun _ _ => leaves_of_kept (by apply execDieLinkFail_kept <;> simp +decide)
  · exact fun _ _ => leaves_of_kept (by apply execDieLinkTrained_kept; simp +decide)
  · exact fun _ _ _ => leaves_of_kept (by apply execGuardEventLineToggle_kept; simp +decide)
  · exact fun _ _ _ => leaves_of_kept (by apply execGuardEventLineCapture_kept <;> simp +decide)
  · exact fun _ _ _ => leaves_of_kept (by apply execPageStopDone_kept <;> simp +decide)
  · exact fun _ _ _ => leaves_of_kept (by apply execPageHeldReached_kept <;> simp +decide [frameNames])
  · exact fun _ _ _ => leaves_of_kept (by apply execIrqSummaryArrive_kept <;> simp +decide [frameNames])
  · exact fun _ _ => leaves_of_kept (by apply execNoticeRepeat_kept <;> simp +decide)
  · exact fun _ _ _ => leaves_of_kept (by apply execIrqRearm_kept <;> simp +decide)
  · exact fun _ _ _ => leaves_of_kept (by apply execMsixUnmask_kept; simp +decide)
  · exact fun _ _ _ => leaves_of_kept (by apply execMgmtReadCompletion_kept <;> simp +decide)
  · exact fun _ _ _ => leaves_of_kept (by apply execNoticeLateErrorSend_kept <;> simp +decide)
  · exact fun _ node member _ _ => leaves_of_kept (by apply execNoticeLateErrorRx_kept (_node := node) (_member := member) <;> simp +decide)
  · exact fun _ node member group pend _ =>
      leaves_of_kept (execNoticeGroupRx_kept (_node := node) (_member := member) (_group := group) (_pend := pend))
  · exact fun _ _ => leaves_of_kept (by apply execLlogPop_kept <;> simp +decide)
  · exact fun _ _ _ _ => leaves_of_kept (by apply execHostTxSlotRead_kept <;> simp +decide)
  · exact fun _ _ _ _ => leaves_of_kept (by apply execLeaseOpen_kept <;> simp +decide)
  · exact fun _ _ _ _ _ => leaves_of_kept (by apply execLeaseChallenge_kept <;> simp +decide)
  · exact fun _ _ _ _ _ => leaves_of_kept (by apply execLeaseProof_kept <;> simp +decide)
  · exact fun _ _ _ _ _ _ => leaves_of_kept (by apply execLeaseGrant_kept; simp +decide)
  · exact fun _ _ _ _ _ => leaves_of_kept (by apply execLeaseRenew_kept <;> simp +decide)
  · exact fun _ _ _ _ => leaves_of_kept (by apply execLeaseRelease_kept <;> simp +decide)
  · exact fun _ _ _ reason _ => leaves_of_kept (by apply execLeaseRefuse_kept (_reason := reason); simp +decide)
  · exact fun _ => leaves_of_kept (by apply execLeaseExpire_kept <;> simp +decide)
  · exact fun _ => leaves_of_kept (by apply execLeaseChallengeExpire_kept; simp +decide)
  · exact fun _ _ => leaves_of_kept (by apply execLeaseDrop_kept <;> simp +decide)
  · exact fun _ _ _ => leaves_of_kept (by apply execPcieLinkChange_kept <;> simp +decide)
  · exact fun _ _ => leaves_of_kept (by apply execDuplexCopyPoint_kept <;> simp +decide)
  · exact fun _ _ _ _ => leaves_of_kept (by apply execBacksightStatusRx_kept <;> simp +decide)
  · exact fun _ _ _ => leaves_of_kept (by apply execCycleRecordApply_kept <;> simp +decide)
  · exact fun _ _ _ => leaves_of_kept (by apply execBacksightNoticeRx_kept <;> simp +decide)
  · exact fun _ => leaves_of_kept (by apply execHeartbeatWindowClose_kept <;> simp +decide)
  · exact fun _ => leaves_of_kept (by apply execDuplexNegotiateTimeout_kept <;> simp +decide)
  · exact fun _ _ => leaves_of_kept (by apply execDuplexFault_kept <;> simp +decide)
  · exact fun _ _ => leaves_of_kept (by apply execDuplexHandover_kept <;> simp +decide)
  · exact fun _ _ => leaves_of_kept (by apply execDuplexRejoin_kept <;> simp +decide)
  · exact fun _ _ => leaves_of_kept (by apply execDuplexFence_kept <;> simp +decide)
  · exact fun _ _ _ => leaves_of_kept (by apply execDualClaimStatusRx_kept <;> simp +decide)
  · exact fun _ => leaves_of_kept (by apply execGangHelloSend_kept <;> simp +decide)
  · exact fun _ _ _ _ _ => leaves_of_kept (by apply execGangHelloRx_kept <;> simp +decide [frameNames])
  · exact fun _ => leaves_of_kept (by apply execGangFormWaitExpire_kept <;> simp +decide)
  · exact fun _ => leaves_of_kept (by apply execGangTimeSend_kept <;> simp +decide)
  · exact fun _ _ _ _ _ _ => leaves_of_kept (by apply execGangTimeRx_kept <;> simp +decide)
  · exact fun _ _ _ _ => leaves_of_kept (by apply execGangStateRx_kept <;> simp +decide [frameNames])
  · exact fun _ => leaves_of_kept (by apply execGangVote_kept <;> simp +decide)
  · exact fun _ _ => leaves_of_kept (by apply execGangctlRejoin_kept <;> simp +decide)
  · exact fun _ _ => leaves_of_kept (by apply execGangctlFence_kept <;> simp +decide)
  · exact fun _ => leaves_of_kept (by apply execPeerAbsent_kept; simp +decide)

/-- Settles O60: each command of the supplies, the tally, the Monument, the monitors and the start-up keeps what its frame does not name. -/
theorem framesOfSuppliesMonumentAndStart : Obligations.FramesOfSuppliesMonumentAndStart := by
  refine ⟨?_, ?_, ?_, ?_, ?_, ?_, ?_, ?_, ?_, ?_, ?_, ?_, ?_, ?_, ?_, ?_, ?_, ?_, ?_, ?_, ?_, ?_, ?_, ?_, ?_, ?_, ?_, ?_, ?_, ?_,
    ?_, ?_, ?_, ?_, ?_, ?_, ?_, ?_, ?_, ?_, ?_, ?_, ?_, ?_, ?_, ?_, ?_, ?_, ?_, ?_, ?_, ?_, ?_, ?_, ?_, ?_, ?_, ?_, ?_, ?_, ?_,
    ?_, ?_, ?_, ?_, ?_, ?_, ?_, ?_, ?_, ?_, ?_, ?_⟩
  · exact fun _ node member payload _ =>
      leaves_of_kept (execNoticeLastGaspRx_kept (_node := node) (_member := member) (_payload := payload))
  · exact fun _ _ _ _ _ _ _ _ _ => leaves_of_kept (by apply execInputInvalid_kept <;> simp +decide)
  · exact fun _ _ _ _ _ _ => leaves_of_kept (by apply execInputValid_kept <;> simp +decide [frameNames])
  · exact fun _ _ _ _ => leaves_of_kept (by apply execSupplyReturnPref_kept <;> simp +decide)
  · exact fun _ _ _ _ => leaves_of_kept (by apply execReverseComparator_kept <;> simp +decide)
  · exact fun _ => leaves_of_kept (by apply execRailSequenceStart_kept <;> simp +decide)
  · exact fun _ _ => leaves_of_kept (by apply execRailEnStep_kept; simp +decide)
  · exact fun _ _ => leaves_of_kept (by apply execPgCoreRelease_kept <;> simp +decide)
  · exact fun _ _ => leaves_of_kept (by apply execRailEnFallStep_kept <;> simp +decide)
  · exact fun _ => leaves_of_kept (by apply execRailFaultRestart_kept <;> simp +decide)
  · exact fun _ _ => leaves_of_kept (by apply execSupplyRfClr_kept <;> simp +decide)
  · exact fun _ _ => leaves_of_kept (by apply execVorBelowPfw_kept <;> simp +decide)
  · exact fun _ _ => leaves_of_kept (by apply execPfwRelease_kept; simp +decide)
  · exact fun _ _ _ _ => leaves_of_kept (by apply execSlotFastTrip_kept <;> simp +decide [frameNames])
  · exact fun _ _ _ _ => leaves_of_kept (by apply execSlotFaultTimerExpire_kept <;> simp +decide [frameNames])
  · exact fun _ _ _ => leaves_of_kept (by apply execSlotLimitTimerClear_kept <;> simp +decide [frameNames])
  · exact fun _ _ _ => leaves_of_kept (by apply execSlotStartTimeout_kept <;> simp +decide [frameNames])
  · exact fun _ _ _ _ _ => leaves_of_kept (by apply execSlotPgRise_kept <;> simp +decide [frameNames])
  · exact fun _ _ _ _ => leaves_of_kept (by apply execSlotPgFall_kept <;> simp +decide [frameNames])
  · exact fun _ _ => leaves_of_kept (by apply execSlotCoolEnd_kept <;> simp +decide [frameNames])
  · exact fun _ _ => leaves_of_kept (by apply execSlotInsertRemainderEnd_kept <;> simp +decide [frameNames])
  · exact fun _ _ _ _ => leaves_of_kept (by apply execSlotRemoval_kept <;> simp +decide [frameNames])
  · exact fun _ _ _ => leaves_of_kept (by apply execSlotInsertion_kept <;> simp +decide [frameNames])
  · exact fun _ _ _ _ _ => leaves_of_kept (by apply execSlotOnPinChange_kept <;> simp +decide [frameNames])
  · exact fun _ _ _ => leaves_of_kept (by apply execTallyUpdate_kept <;> simp +decide)
  · exact fun _ _ => leaves_of_kept (by apply execTallyLearn_kept <;> simp +decide)
  · exact fun _ => leaves_of_kept (by apply execTallyAutoLearn_kept <;> simp +decide)
  · exact fun _ => leaves_of_kept (by apply execTallyLearnEnd_kept <;> simp +decide)
  · exact fun _ _ _ => leaves_of_kept (by apply execMonumentDerive_kept <;> simp +decide)
  · exact fun _ _ _ => leaves_of_kept (by apply execMonumentGenerate_kept <;> simp +decide)
  · exact fun _ _ => leaves_of_kept (by apply execMonumentGenIdent_kept <;> simp +decide)
  · exact fun _ _ _ => leaves_of_kept (by apply execMonumentImport_kept <;> simp +decide)
  · exact fun _ _ _ => leaves_of_kept (by apply execMonumentUnwrap_kept <;> simp +decide)
  · exact fun _ _ => leaves_of_kept (by apply execMonumentWrap_kept <;> simp +decide)
  · exact fun _ _ => leaves_of_kept (by apply execMonumentMac_kept <;> simp +decide)
  · exact fun _ _ => leaves_of_kept (by apply execMonumentMacVerify_kept <;> simp +decide)
  · exact fun _ _ => leaves_of_kept (by apply execMonumentSign_kept <;> simp +decide)
  · exact fun _ _ => leaves_of_kept (by apply execMonumentPubkey_kept <;> simp +decide)
  · exact fun _ _ => leaves_of_kept (by apply execMonumentAttest_kept <;> simp +decide)
  · exact fun _ _ => leaves_of_kept (by apply execMonumentProve_kept <;> simp +decide)
  · exact fun _ _ => leaves_of_kept (by apply execMonumentCommit_kept <;> simp +decide)
  · exact fun _ _ => leaves_of_kept (by apply execMonumentDiscard_kept <;> simp +decide)
  · exact fun _ _ => leaves_of_kept (by apply execMonumentErase_kept <;> simp +decide)
  · exact fun _ _ => leaves_of_kept (by apply execMonumentInfo_kept <;> simp +decide)
  · exact fun _ _ => leaves_of_kept (by apply execMonumentTransition_kept <;> simp +decide)
  · exact fun _ _ => leaves_of_kept (by apply execMonumentMkaKdf_kept <;> simp +decide)
  · exact fun _ _ => leaves_of_kept (by apply execMonumentMkaIcv_kept <;> simp +decide)
  · exact fun _ _ => leaves_of_kept (by apply execMonumentMkaUnwrap_kept <;> simp +decide)
  · exact fun _ _ _ => leaves_of_kept (by apply execMonumentOpReserved_kept <;> simp +decide)
  · exact fun _ _ => leaves_of_kept (by apply execMonumentOpDone_kept <;> simp +decide)
  · exact fun _ => leaves_of_kept (by apply execKeyCommit_kept <;> simp +decide)
  · exact fun _ _ => leaves_of_kept (by apply execKeyCommitOldZeroed_kept; simp +decide)
  · exact fun _ _ => leaves_of_kept (by apply execTrngFail_kept <;> simp +decide)
  · exact fun _ _ _ => leaves_of_kept (by apply execMonumentRtcSet_kept <;> simp +decide)
  · exact fun _ _ _ => leaves_of_kept (by apply execTamperDetect_kept <;> simp +decide)
  · exact fun _ _ _ => leaves_of_kept (by apply execTamperRearm_kept <;> simp +decide)
  · exact fun _ _ _ _ => leaves_of_kept (by apply execHmonSample_kept; simp +decide)
  · exact fun _ _ _ _ _ => leaves_of_kept (by apply execHmonSnap_kept <;> simp +decide)
  · exact fun _ _ _ => leaves_of_kept (by apply execCalDataWrite_kept <;> simp +decide)
  · exact fun _ _ => leaves_of_kept (by apply execCalDataRead_kept <;> simp +decide)
  · exact fun _ _ _ => leaves_of_kept (by apply execCalUnlock_kept <;> simp +decide)
  · exact fun _ _ => leaves_of_kept (by apply execCalProg_kept <;> simp +decide)
  · exact fun _ _ => leaves_of_kept (by apply execCalProgDone_kept <;> simp +decide)
  · exact fun _ _ _ _ _ => leaves_of_kept (by apply execCorePorRelease_kept <;> simp +decide)
  · exact fun _ _ => leaves_of_kept (by apply execPllLock_kept <;> simp +decide)
  · exact fun _ _ => leaves_of_kept (by apply execCalLoadDone_kept <;> simp +decide)
  · exact fun _ _ _ => leaves_of_kept (by apply execBootFetchDone_kept <;> simp +decide)
  · exact fun _ _ => leaves_of_kept (by apply execBootEntryWait_kept <;> simp +decide)
  · exact fun _ => leaves_of_kept (by apply execBootWaitTimeout_kept <;> simp +decide)
  · exact fun _ _ _ _ _ => leaves_of_kept (by apply execRstNRelease_kept <;> simp +decide)
  · exact fun _ _ => leaves_of_kept (by apply execBatteryDomainLoss_kept <;> simp +decide)
  · exact fun _ _ _ => leaves_of_kept (by apply execTamperSourceInactive_kept; simp +decide)
  · exact fun _ _ _ _ _ => leaves_of_kept (by apply execVddioBankChange_kept <;> simp +decide [frameNames])

end Sys2Proof.Frames
end

section
/-!
PROOFS. The statements of the family on the Datum, holdover, PPS and the transmit-stamp queue.
-/

open Sys2Proof Sys2Proof.Machine Sys2Proof.Laws

namespace Sys2Proof.DatumRingTime

/-- A full transmit-stamp queue on which one more stamp was discarded in this cycle (R91). -/
def stampDiscarded : State :=
  { State.reset with
    stamps := List.replicate 16 ⟨0, 0, 0⟩
    sets := { State.reset.sets with clk := 0, stamp := some (⟨1, 1, 1⟩, false) } }

/-- Refutes O13: the statement has a read of TXQ leave the rest of the queue, but a stamp that the full queue discarded in the same
cycle is kept after all, at the end of the queue, because the head is popped first (R91). -/
theorem not_ppsAndStampQueue : ¬ Obligations.PpsAndStampQueue := by
  rintro ⟨-, -, -, hpop, -⟩
  obtain ⟨t, hexec, hrest, -⟩ := hpop 0 ⟨0, 0, 0⟩ (List.replicate 15 ⟨0, 0, 0⟩) stampDiscarded rfl rfl
  have hkept : t.stamps = List.replicate 15 ⟨0, 0, 0⟩ ++ [⟨1, 1, 1⟩] := by
    obtain rfl : (stampDiscarded.advance 0).txqPop = t := by injection hexec
    rfl
  rw [hrest] at hkept
  exact absurd hkept (by decide)

end Sys2Proof.DatumRingTime
end

section
/-!
PROOFS. The state that a command leaves, for the concrete runs of the refutations.
-/

open Sys2Proof Sys2Proof.Machine

namespace Sys2Proof.Laws

/-- The state that a command leaves, where it answers a next one. -/
def after (c : Instr) (s : State) : State :=
  match exec c s with
  | .next t => t
  | _ => s

theorem after_eq {c : Instr} {s t : State} (h : exec c s = .next t) : after c s = t := by
  simp [after, h]

end Sys2Proof.Laws
end

section
/-!
PROOFS. The statements of the family on the plat, the misclosure rounds, the stakes and the CAN controllers.
-/

set_option Elab.async false

open Sys2Proof Sys2Proof.Machine Sys2Proof.Laws

namespace Sys2Proof.PlatStakesCan

/-- A cycle under way with views, in which a parcel of node 5 is held ready of which no frame is held. -/
def readyUnreceived : State :=
  { ((State.reset.set pCYCLE F.HDR.PSTS.RUN 1).set pPLAT F.HDR.PSTS.RUN 1).set pPLAT F.PLAT.CFG.VIEW 1 with
    cycle := { State.reset.cycle with started := true }
    plat := { State.reset.plat with rx := [(5, ⟨0, [], true⟩)] } }

/-- Refutes O15: at VIEW_AT a parcel that is held ready but of which no frame is held is taken for the hub's own, so that the own
selector flips (R145) and the selector of the parcel's node stays, where the statement flips it. -/
theorem not_platReception : ¬ Obligations.PlatReception := by
  rintro ⟨-, -, -, -, hview, -⟩
  obtain ⟨t, hexec, hsel, -⟩ := hview readyUnreceived (by decide) (by decide) (by decide)
  have hkept : t.sel 5 = 0 := by
    rw [← after_eq hexec]
    decide +kernel
  rw [hsel 5 (by decide)] at hkept
  exact absurd hkept (by decide)

/-- Member 0 of a full gang with a window of one millisecond (2,000,000 hns). The steps of triangles 0 and 1 stand one window and half
a window after the peer-delay step on the link that both share, so that only the second lies within a window of it (R118). -/
def sharedLinkStep : State :=
  { ((State.reset.set pMSCL F.MSCL.CFG.GANG_EN 1).set pGANGCTL F.GANGCTL.CFG.MEMBERS 0xF).set pMSCL F.MSCL.COINC.COINC_WIN 1 with
    mscl := { State.reset.mscl with
      loops := [(0, { Loop.init with pend := some ⟨0, 0, 2000100⟩ }), (1, { Loop.init with pend := some ⟨0, 0, 1000100⟩ })]
      pdPend := [⟨gangPort 0 1, 0, 100⟩] } }

/-- Refutes O17: once the step that stands alone is adopted, its triangle shows no step any more, so that the other step on the same
link is unshared (R123) and, its window being over too, is recorded as ambiguous: LAST holds its FLAGS. -/
theorem not_misclosureRounds : ¬ Obligations.MisclosureRounds := by
  rintro ⟨-, -, -, hclose, -⟩
  obtain ⟨t, hexec, -, -, hflags, -⟩ := hclose 0 ⟨0, 0, 2000100⟩ sharedLinkStep (by decide +kernel) (by decide +kernel)
    (by decide +kernel)
  have hkept : t.get pMSCL F.MSCL.LAST.FLAGS = 14 := by
    rw [← after_eq hexec]
    decide +kernel
  exact absurd (hflags.symm.trans hkept) (by decide)

/-- A fenced hub of a pair (R413) that runs its stakes and has one to issue. -/
def fencedIssuer : State :=
  { (State.reset.set pSTAKE F.HDR.PSTS.RUN 1).set pDUPLEX F.DUPLEX.STS.STATE 6 with
    dup := { State.reset.dup with everOn := true }
    stake := { State.reset.stake with issue := [[]] } }

/-- Refutes O18: a fenced hub sends nothing (R413), so its issue queue keeps the stake that the statement has leave it. -/
theorem not_stakeIssueAndArrival : ¬ Obligations.StakeIssueAndArrival := by
  rintro ⟨-, hsend, -⟩
  obtain ⟨t, hexec, hissue, -⟩ := hsend 0 [] [] fencedIssuer rfl (by decide)
  have hkept : t.stake.issue = [[]] := by
    rw [← after_eq hexec]
    decide +kernel
  rw [hissue] at hkept
  exact absurd hkept (by decide)

/-- A class 2 stake on transmit buffer 0 of CAN0, due at ring time 0. -/
def canStake : Stake :=
  { node := 0, member := 0, cls := 2, policy := 0, rcpt := false, cancel := false, srcNode := 0, srcMember := 0, id := 0, tRel := 0,
    validLen := 0, target := 0, value := 0, rsv := false, bcast := false, ins := 0 }

/-- A controller of whose buffer 0 an abort was asked for in this cycle (R289). -/
def abortAsked : CanSt := { CanSt.init with cyc := { CanSt.init.cyc with abort := 1 } }

/-- The stake stands in the queue of a hub that runs its stakes and CAN0, in the cycle of that abort. -/
def stakeMeetsAbort : State :=
  { ((State.reset.set pSTAKE F.HDR.PSTS.RUN 1).set (pCAN 0) F.HDR.PSTS.RUN 1).set (pCAN 0) F.CAN.STS.STATE 0 with
    stake := { State.reset.stake with q := [canStake] }
    cans := [(0, abortAsked)] }

/-- Refutes O19: the request of a class 2 stake that executes in the cycle of an abort of its buffer is aborted at once (R289),
where the statement has the buffer requested. -/
theorem not_stakeRelease : ¬ Obligations.StakeRelease := by
  rintro ⟨-, -, -, -, hcan, -⟩
  obtain ⟨t, hexec, -, hreq, -⟩ := hcan canStake stakeMeetsAbort (by decide) (by decide) (by decide) (by decide) (by decide)
    (by decide) (by decide) (by decide) (by decide)
  have hnone : natBit (t.canReq 0) 0 = false := by
    rw [← after_eq hexec]
    decide +kernel
  exact absurd (hreq.symm.trans hnone) (by decide)

/-- A hub whose boot is over, with CAN0 synchronised, in the cycle of an abort of its buffer 0. -/
def requestMeetsAbort : State :=
  { (State.reset.set pSYS F.SYS.BOOTSTS.STAGE 8).set (pCAN 0) F.CAN.STS.STATE 0 with cans := [(0, abortAsked)] }

/-- Refutes O20: a request of a buffer in the cycle of an abort of it is aborted at once (R289), where the statement has it stand. -/
theorem not_canSending : ¬ Obligations.CanSending := by
  rintro ⟨-, -, -, -, -, -, -, -, htxreq, -⟩
  obtain ⟨t, hexec, hreq, -⟩ := htxreq 0 0 1 requestMeetsAbort (by decide) (by decide) (by decide) (by decide) (by decide)
  have hnone : t.get (pCAN 0) F.CAN.TXREQ.REQ = 0 := by
    rw [← after_eq hexec]
    decide +kernel
  rw [hreq] at hnone
  exact absurd hnone (by decide)

/-- Refutes O21: an entry given back in the cycle in which a frame found no free entry takes that frame and stays owned
(R296), where the statement has it free. -/
theorem not_canReceiving : ¬ Obligations.CanReceiving := by
  rintro ⟨-, -, hback, -⟩
  obtain ⟨s, haccepts, hdrop, howned⟩ : ∃ s : State, (s.advance 0).accepts (pCAN 0) = true ∧
      ((s.advance 0).canCyc 0).drop = some (0, CanFd.lateFrame, false) ∧
      ∀ i < 32, natBit (s.get (pCAN 0) F.CAN.RXOWN.MAP) i = true := ⟨CanFd.frameDropped, CanFd.frameDropped_takesAck⟩
  obtain ⟨t, hexec, hclaim, -⟩ := hback 0 0 0 s haccepts (by decide) (howned 0 (by decide))
  have hretaken : natBit (t.get (pCAN 0) F.CAN.RXOWN.MAP) 0 = true := by
    obtain rfl : (s.advance 0).canAck 0 0 = t := by
      injection (execCanRxack_accepts haccepts (by decide) (by decide)).symm.trans hexec
    exact State.rxOwn_canAck_of_drop hdrop (by decide) howned
  rw [hclaim, natBit_eq_testBit, Nat.testBit_mod_two_pow, natPut_testBit] at hretaken
  simp at hretaken

end Sys2Proof.PlatStakesCan
end

section
/-!
PROOFS. The statements of the family on the edge filter chain, the book, the engines, the monitors, the ports, the ring transactions and
the control of a page that a corner of the spec defeats.
-/

set_option Elab.async false

open Sys2Proof Sys2Proof.Machine Sys2Proof.Laws

namespace Sys2Proof.EdgeEngineHost

/-- A hub whose boot is over. -/
def booted : State := State.reset.set pSYS F.SYS.BOOTSTS.STAGE 4

/-- A hub that runs the filter chain of pin 0. -/
def chained : State :=
  ((State.reset.set (pEDGE 0) F.HDR.PSTS.RUN 1).set (pEDGE 0) F.HDR.PCTL.EN 1).set (pEDGE 0) F.EDGE.PIN.EN 1

/-- The same while the supplies of the core die are down. -/
def chainedInKeep : State := { chained with pwr := { PowerSt.init with power := .keep } }

/-- Refutes O22: without its supply the core die sees no transition, so L stays low where the statement has it follow the ball. -/
theorem not_edgeFilterChain : ¬ Obligations.EdgeFilterChain := by
  rintro ⟨htransition, -⟩
  obtain ⟨t, hexec, -, hl, -⟩ := htransition 0 0 true chainedInKeep (by decide) (by decide) (by decide) (by decide) (by decide)
    (by decide)
  have hlow : (t.edge 0).l = false := by
    rw [← after_eq hexec]
    decide +kernel
  exact absurd (hl.symm.trans hlow) (by decide)

/-- A book that runs, is asked to hold but not held yet, with a record of the guard die waiting. -/
def bookAskedToHold : State :=
  { (State.reset.set pBOOK F.HDR.PSTS.RUN 1).set pBOOK F.HDR.PCTL.HOLD 1 with
    book := { State.reset.book with guardQ := [{ t := 0, kind := 0, flags := 0, source := 0, data := [] }] } }

/-- Refutes O23: from the write of HOLD on the writer commits no record, so the record stays queued though HELD still reads 0. -/
theorem not_bookWriterAndDrains : ¬ Obligations.BookWriterAndDrains := by
  rintro ⟨hcommit, -⟩
  obtain ⟨t, hexec, hqueue, -⟩ := hcommit 0 _ _ [] bookAskedToHold rfl (by decide) (by decide) (by decide +kernel) (by decide) rfl
    (by decide +kernel)
  have hkept : t.book.guardQ ≠ [] := by
    rw [← after_eq hexec]
    decide +kernel
  exact hkept hqueue

/-- Engine 0 stands before an instruction and claims pin 0, whose latch changes only at ring time 1,000,000, while the filter chain
of that pin holds an event whose glitch window ends at 5000. -/
def drivesAhead (word : Nat) : State :=
  { (((chained.set (pENG 0) F.HDR.PSTS.RUN 1).set (pENG 0) F.ENG.PINS.OUT_COUNT 1).set (pCREW 0) F.HDR.PCTL.EN 1).set (pCREW 0)
      F.CREW.IMEM.WORD word with
    engs := [(0, { EngSt.init with claims := true })]
    pins := [(0, { PinSt.init with ext := some false, hist := [(0, some true)], det := FeedBit.init true, outT := 1000000 })]
    edges := [(0, { EdgeSt.init with held := some (5000, true, 1) })] }

/-- Refutes O26: the pin follows its latch up to ring time 1,000,000, so that the held event passes at 5000 and the clock stands
there, where the statement has it stand at the step of the JMP. -/
theorem not_engineInstructions : ¬ Obligations.EngineInstructions := by
  rintro ⟨hjmp, -⟩
  obtain ⟨t, hexec, -, -, -, hclock⟩ := hjmp 0 (5 * 2 ^ 28) (0, 0) _ (drivesAhead (5 * 2 ^ 28)) (by decide +kernel)
    ⟨by decide +kernel, rfl⟩ (by decide +kernel)
  have hahead : t.clock = 5000 := by
    rw [← after_eq hexec]
    decide +kernel
  rw [hahead] at hclock
  exact absurd hclock (by decide +kernel)

/-- Refutes O27: as for the JMP, the clock stands past the step in which the WAITT begins. -/
theorem not_engineWaits : ¬ Obligations.EngineWaits := by
  rintro ⟨hwaitt, -⟩
  obtain ⟨t, hexec, -, -, hclock⟩ := hwaitt 0 (1 * 2 ^ 28) (0, 0) (drivesAhead (1 * 2 ^ 28)) (by decide +kernel) (by decide +kernel)
  have hahead : t.clock = 5000 := by
    rw [← after_eq hexec]
    decide +kernel
  rw [hahead] at hclock
  exact absurd hclock (by decide +kernel)

/-- A monitor whose live words a sample of this cycle has changed: before it each of them was 7. -/
def sampledNow : State := { booted with sets := { CycleSets.init with hmon := [(0, List.replicate 40 7, [])] } }

/-- Refutes O29: a snapshot in the cycle of a sample takes the words as they stood before that sample, where the statement has
it copy the live ones. -/
theorem not_pinsAndMonitors : ¬ Obligations.PinsAndMonitors := by
  rintro ⟨-, -, -, hsnap⟩
  obtain ⟨t, hexec, hcopied, -⟩ := hsnap 0 0 false false sampledNow (by decide) (by decide)
  have hearlier : t.rd (pHMON 0) 0x180 = 7 := by
    rw [← after_eq hexec]
    decide +kernel
  exact absurd ((hcopied 0 (by decide)).symm.trans hearlier) (by decide +kernel)

/-- A frame of three cells in queue 7 of WEST. -/
def queuedFrame : QFrame :=
  { port := 1, q := 7, buf := 3, stamp := 0, ingress := none, multi := false, tag := none, gateHeld := false, isPlat := false,
    cells := [0, 1, 2]
    fr := { dst := 1, src := 2, vlan := none, hsr := none, sec := none, etype := 0x800, body := List.replicate 46 0 } }

/-- WEST is up with that frame queued, and banks 0 and 1 of the buffer memory have failed. -/
def twoBanksFailed : State :=
  { ((State.reset.set (pPORT 1) F.HDR.PSTS.RUN 1).set (pPORT 1) F.PORT.STS.LINK 1).set pBUFMEM F.BUFMEM.STS.FAILED 3 with
    sw := { State.reset.sw with txq := [queuedFrame] } }

/-- Refutes O33: with two failed banks the first row of the frame is lost (R349), so that the frame is discarded where the statement has
it leave. -/
theorem not_portGatesAndStarts : ¬ Obligations.PortGatesAndStarts := by
  rintro ⟨-, -, -, hstart, -⟩
  obtain ⟨t, hexec, -, hleaves⟩ := hstart 0 1 7 [6, 5, 4, 3, 2, 1, 0] queuedFrame { dev := 0, errs := [] } _ twoBanksFailed
    (by decide) rfl rfl (by decide +kernel) (by decide +kernel) (by decide +kernel) (by decide +kernel) (by decide +kernel)
    (by decide +kernel) (by decide +kernel) (by decide +kernel) (by decide +kernel)
  have hnone : (t.port 1).leaving = none := by
    rw [← after_eq hexec]
    decide +kernel
  simp [hnone] at hleaves

/-- A bridge that has heard from node 2, with both ring ports off and a capture rule that takes dropped copies at them. -/
def repliesCaptured : State :=
  { (((State.reset.set pBRIDGE F.HDR.PSTS.RUN 1).set pCAPTURE F.HDR.PSTS.RUN 1).set pCAPTURE F.CAPTURE.RULE_A.all 0xF0000000).set
      pCAPTURE F.CAPTURE.RULE_B.PORTS 3 with
    bridge := { State.reset.bridge with issuers := [⟨2, 0, 5, [], 0⟩] } }

/-- Refutes O37: the reply to a read is dropped at the ports that are off, and the capture of the dropped copy is a record in the
memory (R361), which the statement has stay. -/
theorem not_ringTransactions : ¬ Obligations.RingTransactions := by
  rintro ⟨hread, -⟩
  obtain ⟨t, hexec, -, hmem⟩ := hread 0 0 2 0 ⟨5, 0x10, 0, 255, 1, 0x100008, []⟩ ⟨2, 0, 5, [], 0⟩ repliesCaptured (by decide)
    (by decide) (by decide) (by decide) (by decide) (by decide)
  have hrecord : t.mem ≠ repliesCaptured.mem := by
    rw [← after_eq hexec]
    decide +kernel
  exact hrecord hmem

/-- The check of BUFMEM is under way since this cycle, in which its EN was written. -/
def checkOfHigherPage : State := { booted with page := { PageSt.init with enAt := 0, enNew := [pBUFMEM], checks := [pBUFMEM] } }

/-- Refutes O39: of two enables in one cycle the page of the lower index is judged first (R57), so that CAPTURE joins the checks ahead of
BUFMEM, where the statement has it join behind. -/
theorem not_pageControl : ¬ Obligations.PageControl := by
  rintro ⟨henable, -⟩
  obtain ⟨t, hexec, -, -, -, hchecks⟩ := henable 0 pCAPTURE 1 checkOfHigherPage (by decide +kernel) (by decide) (by decide) (by decide)
    (by decide)
  have hfirst : t.page.checks = [pCAPTURE, pBUFMEM] := by
    rw [← after_eq hexec]
    decide +kernel
  exact absurd (hchecks.symm.trans hfirst) (by decide)

end Sys2Proof.EdgeEngineHost
end

section
/-!
PROOFS. The statements of the family on pairs, gangs, the boot loader, the slots, the supplies and the tally that a corner of the spec
defeats.
-/

set_option Elab.async false

open Sys2Proof Sys2Proof.Machine Sys2Proof.Laws

namespace Sys2Proof.Laws

/-- An operation leaves every field none of whose words its scope names. -/
theorem Kept.get_eq {σ : Scope} {r s : State} (hkept : Kept σ r s) {p : Nat} {f : Fld}
    (hwords : ∀ i, i < f.words → σ.reg (regKey p (f.off + 4 * i)) = false) : s.get p f = r.get p f := by
  refine Nat.eq_of_testBit_eq fun i => ?_
  rw [State.get_testBit, State.get_testBit]
  by_cases hi : i < f.w
  · have hword : (f.lo + i) / 32 < f.words := by unfold Fld.words; omega
    simp only [State.rd, hkept.reg _ (hwords _ hword)]
  · simp [hi]

theorem State.get_ite (c : Prop) [Decidable c] (s t : State) (p : Nat) (f : Fld) :
    (if c then s else t).get p f = if c then s.get p f else t.get p f := apply_ite (State.get · p f) c s t

end Sys2Proof.Laws

namespace Sys2Proof.PairsBootSupplies

/-- The filter chain of pin 0 runs. It holds an event whose glitch window ends at 50,000 and has an event stamped 1,000,000 to take
before it rests; the level at the ball does not follow the net yet. Its next event takes the clock to 50,000. -/
def chainAhead (s : State) : State :=
  { ((s.set (pEDGE 0) F.HDR.PSTS.RUN 1).set (pEDGE 0) F.HDR.PCTL.EN 1).set (pEDGE 0) F.EDGE.PIN.EN 1 with
    pins := [(0, { PinSt.init with ext := some false, hist := [(0, some true)], det := FeedBit.init true })]
    edges := [(0, { EdgeSt.init with held := some (50000, true, 1), todo := [⟨1000000, 1, true, false⟩] })] }

/-- A hub of a pair in state `k` of R395 that hears its peer and hands over, three boundaries into its negotiation. -/
def pairAhead (k : Nat) (tk : Option Nat) : State :=
  chainAhead { (State.reset.set pDUPLEX F.HDR.PSTS.RUN 1).set pDUPLEX F.DUPLEX.STS.STATE k with
    dup := { DuplexSt.init with everOn := true, heardEver := true, handover := true, bounds := 3, tk := tk } }

/-- Where the hub enters or leaves shadow every pin follows, pin 0 first. -/
theorem shadowSync_clock {s s0 : State} (hchange : s.inShadow ≠ s0.inShadow) :
    (s.ballTo 0 s.now).clock ≤ (s.shadowSync s0).clock := by
  rw [State.shadowSync, if_neg hchange, State.ballsNow, List.range_succ_eq_map, List.foldl_cons]
  exact (Kept.foldl (σ := Scope.all) (fun _ _ h => ballTo_kept h rfl rfl rfl (fun _ _ => rfl) (fun _ _ => rfl) (fun _ _ => rfl)
    (fun _ _ => rfl) (fun _ _ => rfl) (fun _ _ => rfl)) _ _ (Kept.refl _ _)).clock

/-- A hub as it enters state `k` of R395, before its pins follow. -/
def entering (s : State) (k : Nat) : State :=
  let s1 := s.set pDUPLEX F.DUPLEX.STS.STATE k
  { s1 with dup := { s1.dup with everOn := true } }

theorem setDup_clock {s : State} {k : Nat} (hchange : (entering s k).inShadow ≠ s.inShadow) :
    ((entering s k).ballTo 0 (entering s k).now).clock ≤ (s.setDup k).clock := by
  have hdrains := (syncDrains_kept (σ := Scope.all) (Kept.refl _ ((entering s k).shadowSync s)) rfl (fun _ _ => rfl) (fun _ _ => rfl)
    (fun _ _ => rfl) (fun _ _ => rfl) (fun _ _ => rfl) (fun _ _ => rfl)).clock
  have hset : (((entering s k).shadowSync s).syncDrains).clock ≤ (s.setDup k).clock := by
    unfold State.setDup
    split
    · exact le_rfl
    · exact le_rfl
  exact (shadowSync_clock hchange).trans (hdrains.trans hset)

theorem canShadow_clock (s : State) : s.clock ≤ s.canShadow.clock :=
  (canShadow_kept (σ := Scope.all) (Kept.refl _ s) rfl rfl rfl rfl (fun _ _ => rfl) (fun _ _ => rfl) (fun _ _ => rfl) (fun _ _ => rfl)
    (fun _ _ => rfl) (fun _ _ => rfl) (fun _ _ => rfl)).clock

/-- A hub that ends its negotiation as standby. -/
theorem negotiateEnd_clock {s : State}
    (hdue : (s.running pDUPLEX && s.get pDUPLEX F.DUPLEX.STS.STATE == 0 && decide (3 ≤ s.dup.bounds)) = true)
    (hstandby : (s.strapActive || (!s.dup.heardEver && s.peerAbsent)) = false) : (s.setDup 2).clock ≤ s.negotiateEnd.clock := by
  rw [State.negotiateEnd, if_pos hdue, hstandby]
  exact canShadow_clock _

/-- A hub that stands down at T_k after a handover. -/
theorem boundaryTk_clock {s : State} {tk : Nat} (htk : s.dup.tk = some tk) (hstate : s.dupState = some 5)
    (hhandover : (s.advanceT tk).leaseOver.dup.handover = true) : ((s.advanceT tk).leaseOver.setDup 2).clock ≤ s.boundaryTk.clock := by
  simp only [State.boundaryTk, htk, hstate, State.standDown, hhandover]
  exact canShadow_clock _

/-- Refutes O40: a hub whose negotiation ends as standby enters shadow, so that its pins and their filter chains follow the net (R192), and
a chain that is behind moves the clock, which the statement has stand. -/
theorem not_pairCopiesAndHeartbeats : ¬ Obligations.PairCopiesAndHeartbeats := by
  rintro ⟨-, -, -, -, -, -, htimeout, -⟩
  obtain ⟨t, hexec, -, hclock⟩ := htimeout (pairAhead 0 none) (by decide) (by decide) (by decide)
  have hball : ((entering (pairAhead 0 none) 2).ballTo 0 (entering (pairAhead 0 none) 2).now).clock = 50000 := by decide +kernel
  have hsetDup := setDup_clock (s := pairAhead 0 none) (k := 2) (by decide)
  have hend := negotiateEnd_clock (s := pairAhead 0 none) (by decide) (by decide)
  have ht : (pairAhead 0 none).negotiateEnd = t := by
    injection hexec
  rw [ht, hclock] at hend
  exact absurd (hball ▸ hsetDup.trans hend) (by decide)

/-- Refutes O41: at T_k the hub that has declared goes to shadow, and a filter chain that is behind moves the clock past T_k. -/
theorem not_pairDeclarations : ¬ Obligations.PairDeclarations := by
  rintro ⟨-, -, -, -, -, -, hstandDown⟩
  obtain ⟨t, hexec, -, -, -, hclock⟩ := hstandDown 0 (pairAhead 5 (some 0)) rfl (by decide)
  have hball : ((entering ((pairAhead 5 (some 0)).advanceT 0).leaseOver 2).ballTo 0
      (entering ((pairAhead 5 (some 0)).advanceT 0).leaseOver 2).now).clock = 50000 := by decide +kernel
  have hsetDup := setDup_clock (s := ((pairAhead 5 (some 0)).advanceT 0).leaseOver) (k := 2) (by decide)
  have htk := boundaryTk_clock (s := pairAhead 5 (some 0)) (tk := 0) rfl (by decide) (by decide)
  have ht : (pairAhead 5 (some 0)).boundaryTk = t := by
    injection hexec
  rw [ht, hclock] at htk
  exact absurd (hball ▸ hsetDup.trans htk) (by decide)

/-- Member 1 of a gang of two, whose digest of cycle 0 is not the lead's. -/
def outvoted : State :=
  chainAhead { (((((State.reset.set pSYS F.SYS.STRAP.ROLE 5).set pGANGCTL F.HDR.PSTS.RUN 1).set pCYCLE F.HDR.PSTS.RUN 1).set pCYCLE
      F.CYCLE.CYC_LEN.LEN 1000000).set pGANGCTL F.GANGCTL.STS.FORMED 1).set pGANGCTL F.GANGCTL.STS.PRESENT 3 with
    gang := { GangSt.init with states := [(0, 0, 0)] } }

/-- A hub as its vote of cycle `n` has counted the STATE frames (R417). -/
def counted (s : State) (n : Nat) : State :=
  let gone := s.others.filter (fun m => s.memPresent m && !s.memFenced m && (s.stateOf m n).isNone)
  let here := s.others.filter (fun m => (s.stateOf m n).isSome)
  let s1 := { s with gang := { s.gang with misses := s.gang.misses.filter (fun x => !here.contains x.1) } }
  let s2 := gone.foldl State.memMiss s1
  ((s2.set pGANGCTL F.GANGCTL.STATE_DIG.DIGEST (s.stateDigest n)).set pGANGCTL F.GANGCTL.MAJ_DIG.DIGEST
    (((s.reference (s.voters n)).map (·.1)).getD 0)).setB pGANGCTL F.GANGCTL.STS.NOMAJ (s.reference (s.voters n)).isNone

/-- A vote that finds one member away from the reference fences it. -/
theorem voteNow_clock {s : State} {n ref cause : Nat} {x : Nat × Nat} (hreference : s.reference (s.voters n) = some (ref, cause))
    (hbad : (s.voters n).filter (fun y => y.2 != ref) = [x]) :
    ((counted s n).memFence x.1 cause (data2 ref x.2)).clock ≤ (s.voteNow n).clock := by
  have hfold := (Kept.foldl (σ := Scope.all) (f := fun st m => st.unfence n ref m) (fun _ _ h => unfence_kept h rfl rfl rfl rfl rfl rfl
    (fun _ _ => rfl) (fun _ _ => rfl) (fun _ _ => rfl) (fun _ _ => rfl) (fun _ _ => rfl) (fun _ _ => rfl) (fun _ _ => rfl)
    (fun _ _ => rfl) (fun _ _ => rfl)) ((List.range 4).filter (fun m => s.memFenced m)) _
    (Kept.refl _ ((counted s n).memFence x.1 cause (data2 ref x.2)))).clock
  refine hfold.trans (le_of_eq ?_)
  simp only [State.voteNow, hreference, hbad, counted, List.foldl_cons, List.foldl_nil]

/-- This hub as its gang fences it, before its pins follow. -/
def fencedSelf (s : State) (cause : Nat) (data : List Byte) : State :=
  ((((s.stage .mgt { t := s.now, kind := 0x31, flags := cause, source := s.member, data := data }).set pGANGCTL
    (memBit F.GANGCTL.STS.FENCED s.member) 1).set pGANGCTL (memBit F.GANGCTL.STS.PRESENT s.member) 0).bump pGANGCTL
    F.GANGCTL.FENCINGS.COUNT).event pGANGCTL 11

theorem memFence_clock {s : State} {cause : Nat} {data : List Byte} (hpair : s.dupState = none)
    (hchange : (fencedSelf s cause data).inShadow ≠ s.inShadow) :
    ((fencedSelf s cause data).ballTo 0 (fencedSelf s cause data).now).clock ≤ (s.memFence s.member cause data).clock := by
  refine (shadowSync_clock hchange).trans ((canShadow_clock _).trans (le_of_eq ?_))
  simp only [State.memFence, ne_eq, not_true_eq_false, if_false, hpair, fencedSelf]

/-- A hub at its vote of cycle `n`, before it counts. -/
def votingIn (s : State) (n : Int) : State :=
  let s1 := s.advanceT (s.cycPoint n (s.get pGANGCTL F.GANGCTL.VOTE.STATE_AT))
  { s1 with gang := { s1.gang with voted := some n } }

theorem gangVote_eq {s : State} {n : Int} (hformed : (s.formed && s.running pCYCLE) = true)
    (hcycle : s.cycleAt (s.get pGANGCTL F.GANGCTL.VOTE.STATE_AT) s.gang.voted = n) : s.gangVote = (votingIn s n).voteNow (cyc32 n) := by
  rw [← hcycle, State.gangVote, if_pos hformed]
  rfl

/-- The hub of `outvoted` at its vote. -/
def voting : State := votingIn outvoted 0

theorem gangVote_next (s : State) : exec .gangVote s = .next s.gangVote.leadLink := rfl

/-- Refutes O42: a member that the vote fences goes to shadow (R417), and a filter chain that is behind moves the clock past the vote. -/
theorem not_gangFormationAndVote : ¬ Obligations.GangFormationAndVote := by
  rintro ⟨-, -, -, -, -, -, -, hvote, -⟩
  obtain ⟨t, hexec, -, -, -, hclock⟩ := hvote 0 outvoted (by decide) (by decide +kernel)
  have hball : ((fencedSelf (counted voting (cyc32 0)) 2 (data2 0 (voting.stateDigest 0))).ballTo 0
      (fencedSelf (counted voting (cyc32 0)) 2 (data2 0 (voting.stateDigest 0))).now).clock = 50000 := by
    decide +kernel
  have hfence := memFence_clock (s := counted voting (cyc32 0)) (cause := 2) (data := data2 0 (voting.stateDigest 0)) (by decide +kernel)
    (by decide +kernel)
  have hvoted := voteNow_clock (s := voting) (n := cyc32 0) (ref := 0) (cause := 2) (x := (1, voting.stateDigest 0)) (by decide +kernel)
    (by decide +kernel)
  have hmember : (counted voting (cyc32 0)).member = 1 := by decide +kernel
  have hvote0 : outvoted.gangVote = voting.voteNow (cyc32 0) := gangVote_eq (by decide +kernel) (by decide +kernel)
  have ht : t = (voting.voteNow (cyc32 0)).leadLink := by
    have hgang := hexec.symm.trans (gangVote_next outvoted)
    rw [hvote0] at hgang
    injection hgang
  rw [hmember] at hfence
  have hahead : 50000 ≤ t.clock := by
    rw [ht, ← hball]
    exact (hfence.trans hvoted).trans (leadLink_kept (σ := Scope.all) (Kept.refl _ _) (fun _ _ => rfl)).clock
  rw [hclock] at hahead
  exact absurd hahead (by decide +kernel)

/-- The loader stands before an entry that enables CAPTURE, in the cycle in which EN of BUFMEM was written. -/
def entryBesideEnable : State :=
  { State.reset.set pSYS F.SYS.BOOTSTS.STAGE 5 with
    boot := { BootSt.init with rest := [1, 0xA3, 4, 0, 1, 0, 0, 0] }
    page := { PageSt.init with enAt := 0, enNew := [pBUFMEM], checks := [pBUFMEM] } }

/-- Refutes O45: of two enables in one cycle the page of the lower index is judged first (R57), so that CAPTURE joins the checks ahead of
BUFMEM, where the statement has it join behind. -/
theorem not_bootEntries : ¬ Obligations.BootEntries := by
  rintro ⟨-, henable, -⟩
  obtain ⟨t, hexec, -, -, hchecks, -⟩ := henable 0 pCAPTURE [1, 0, 0, 0] entryBesideEnable (by decide) (by decide) (by decide)
    (by decide +kernel) (by decide +kernel) (by decide) (by decide) (by decide)
  have hfirst : t.page.checks = [pCAPTURE, pBUFMEM] := by
    rw [← after_eq hexec]
    decide +kernel
  exact absurd (hchecks.symm.trans hfirst) (by decide)

/-- Slot 0 in RAMP, from which a card was removed on this very edge. -/
def removedNow : State :=
  { State.reset.set (pSLOT 0) F.SLOT.STS.STATE slotRAMP with slots := [(0, { SlotSt.init with left := some (0, slotRAMP, false) })] }

/-- Refutes O49: a trip on the edge of a removal comes before it (R444), so that the slot ends VACANT, where the statement has it cool
down. -/
theorem not_slotChannels : ¬ Obligations.SlotChannels := by
  rintro ⟨htrip, -⟩
  obtain ⟨t, hexec, hstate, -⟩ := htrip 0 0 0 removedNow (by decide) (by decide)
  have hvacant : t.slotState 0 = slotVACANT := by
    rw [← after_eq hexec]
    decide +kernel
  exact absurd (hstate.symm.trans hvacant) (by decide)

/-- A tally that runs while the core rails are down. -/
def railsDown : State :=
  { State.reset.set pTALLY F.HDR.PSTS.RUN 1 with supply := { SupplySt.init with phase := .off } }

/-- Refutes O50: without the core rails there is no plan to start (R461), where the statement has PLAN read 1. -/
theorem not_inputSupplies : ¬ Obligations.InputSupplies := by
  rintro ⟨hloss, -⟩
  obtain ⟨t, hexec, -, -, -, hplan⟩ := hloss 0 0 0 0 0 0 false false railsDown (by decide)
  have hnone : t.get pTALLY F.TALLY.STS.PLAN = 0 := by
    rw [← after_eq hexec]
    decide +kernel
  exact absurd ((hplan rfl (by decide) (by decide) (by decide)).symm.trans hnone) (by decide)

/-- A plan under way at an update on which the return of VIN_A is due. -/
def returnsNow : State :=
  { (State.reset.set pTALLY F.HDR.PSTS.RUN 1).set pTALLY F.TALLY.STS.PLAN 1 with
    clock := 1000000000
    supply := { SupplySt.init with mainLost := true } }

theorem measure_plan (s : State) (adc : List Nat) : (s.measure adc).get pTALLY F.TALLY.STS.PLAN = s.get pTALLY F.TALLY.STS.PLAN := by
  simp (disch := decide) only [State.measure, State.get_ite, State.event_get, State.setB, State.get_set_beside, ite_self]

/-- The meters stand in registers of their own. -/
theorem meters_plan (s : State) : s.meters.get pTALLY F.TALLY.STS.PLAN = s.get pTALLY F.TALLY.STS.PLAN := by
  refine Kept.get_eq (meters_kept (σ := frameScope [(pTALLY, (List.range 8).map fun k => F.TALLY.METER.PJ.at (8 * k))] (fun _ => false)
    [.tally]) (Kept.refl _ s) ?_ ?_ ?_ ?_ ?_ ?_ ?_ ?_ ?_) (by decide)
  · rfl
  all_goals exact frameScope_fld_of_names (by decide)

/-- The plan waits at an update on which the return of VIN_A is due. -/
theorem planRows_of_returnDue {s : State} (hdue : s.returnDue = true) : s.planRows = s := by
  simp [State.planRows, hdue]

theorem tallyUpdate_plan {s : State} {adc : List Nat} (hdue : (s.measure adc).meters.returnDue = true) :
    (s.tallyUpdate adc).get pTALLY F.TALLY.STS.PLAN = s.get pTALLY F.TALLY.STS.PLAN := by
  simp only [State.tallyUpdate]
  split
  · rw [planRows_of_returnDue hdue, meters_plan, measure_plan]
  · exact measure_plan s adc

theorem tallyUpdate_next (s : State) (clk : Nat) (adc : List Nat) :
    exec (.tallyUpdate clk adc) s = .next ((s.advance clk).onGuard (fun t => t.tallyUpdate adc)) := rfl

/-- Refutes O52: a return that falls on an update is taken before it (R463), so that the plan does not go on to class A. -/
theorem not_tallyAndPlan : ¬ Obligations.TallyAndPlan := by
  rintro ⟨-, -, hrows, -⟩
  obtain ⟨t, hexec, hplan, -⟩ := hrows 0 [4095] returnsNow (by decide) (by decide) (by decide) (by decide) (by decide)
  have hkept : t.get pTALLY F.TALLY.STS.PLAN = 1 := by
    have hguard := hexec.symm.trans (tallyUpdate_next returnsNow 0 [4095])
    rw [State.onGuard, if_pos (by decide)] at hguard
    injection hguard with ht
    rw [ht, tallyUpdate_plan (by decide +kernel)]
    decide
  exact absurd (hplan.symm.trans hkept) (by decide)

end Sys2Proof.PairsBootSupplies
end

section
/-!
PROOFS. The core rails (R43, R433–R437, R448): what the power-down leaves of the guard die, and with it how the rails rise, fall and fail.
-/

open Sys2Proof Sys2Proof.Machine Sys2Proof.Laws

namespace Sys2Proof.Laws

variable {s t : State}

/-- A command answers what its operation comes to. -/
theorem next_of_eq {c : Instr} {u : State} (hu : u = t) (hexec : exec c s = .next u) : exec c s = .next t := hu ▸ hexec

/-- A field depends on the words it stands in. -/
theorem State.get_of_words {p : Nat} {f : Fld}
    (hwords : ∀ i, i < f.words → tabGet regDefault t.regs (regKey p (f.off + 4 * i)) = tabGet regDefault s.regs (regKey p (f.off + 4 * i))) :
    t.get p f = s.get p f := by
  refine Nat.eq_of_testBit_eq fun i => ?_
  rw [State.get_testBit, State.get_testBit]
  by_cases hi : i < f.w
  · have hword : (f.lo + i) / 32 < f.words := by unfold Fld.words; omega
    simp only [State.rd, hwords _ hword]
  · simp [hi]

/-- A state with these registers and nothing else: what a field reads depends on no more. -/
def regsAlone (regs : List (Nat × Word)) : State := { State.reset with regs := regs }

@[simp] theorem State.get_mk (pending : List Instr) (clock : Nat) (freeCtr : Nat) (sets : CycleSets) (result : Option Word) (regs : List (Nat × Word))
    (latch : List (Nat × Word)) (shadow : List (Nat × Word)) (mem : List Host.Cell) (pwr : PowerSt) (page : PageSt)
    (datum : DatumSt) (stamps : List TxStamp) (ports : List (Nat × PortSt)) (sw : SwitchSt) (book : BookSt)
    (bridge : BridgeSt) (dup : DuplexSt) (gang : GangSt) (cal : CalSt) (cycle : CycleSt) (plat : PlatSt) (mscl : MsclSt)
    (pins : List (Nat × PinSt)) (engs : List (Nat × EngSt)) (crews : List (Nat × CrewSt)) (edges : List (Nat × EdgeSt))
    (cans : List (Nat × CanSt)) (stake : StakeSt) (supply : SupplySt) (slots : List (Nat × SlotSt)) (tally : TallySt)
    (mon : MonSt) (boot : BootSt) (rst : ResetSt) (p : Nat) (f : Fld) :
    (State.mk pending clock freeCtr sets result regs latch shadow mem pwr page datum stamps ports sw book bridge dup gang cal
      cycle plat mscl pins engs crews edges cans stake supply slots tally mon boot rst).get p f = (regsAlone regs).get p f := by
  refine State.get_congr ?_ p f
  rfl

@[simp] theorem get_regsAlone (s : State) (p : Nat) (f : Fld) : (regsAlone s.regs).get p f = s.get p f := by
  refine State.get_congr ?_ p f
  rfl

theorem State.flag_false {p : Nat} {f : Fld} (h : s.get p f = 0) : s.flag p f = false := by simp [State.flag, h]

/-- A one-bit field that is set reads 1. -/
theorem State.get_of_flag {p : Nat} {f : Fld} (hw : f.w = 1) (h : s.flag p f = true) : s.get p f = 1 := by
  have hlt : s.get p f < 2 ^ f.w := Nat.mod_lt _ (by positivity)
  have hne : s.get p f ≠ 0 := by simpa [State.flag] using h
  rw [hw] at hlt
  omega

theorem natBit_natPut_one_same (n i : Nat) : natBit (natPut n i 1 1) i = true := by
  rw [natBit_eq_testBit, natPut_testBit]
  simp

@[simp] theorem get_cause (s : State) (b p : Nat) (f : Fld) : (s.cause b).get p f = s.get p f := State.get_with_supply _ _ _ _
@[simp] theorem cause_clock (s : State) (b : Nat) : (s.cause b).clock = s.clock := rfl
@[simp] theorem cause_pwr (s : State) (b : Nat) : (s.cause b).pwr = s.pwr := rfl
theorem cause_supply (s : State) (b : Nat) : (s.cause b).supply = { s.supply with causes := natPut s.supply.causes b 1 1 } := rfl

@[simp] theorem setW1c_clock (s : State) (p : Nat) (f : Fld) : (s.setW1c p f).clock = s.clock := by simp [State.setW1c]
@[simp] theorem setW1c_supply (s : State) (p : Nat) (f : Fld) : (s.setW1c p f).supply = s.supply := by simp [State.setW1c]

/-! The core die in reset (R510, R524). -/

theorem calCut_monCut_kept (s : State) : Kept (frameScope [] (· == pMONUMENT) [.cal, .mon, .life]) s s.calCut.monCut :=
  monCut_kept (calCut_kept (Kept.refl _ s) rfl) rfl rfl (frameScope_page_of_named rfl)

/-- Clearing one field of some pages leaves the fields beside it. -/
theorem get_foldl_set_zero {f g : Fld} (hbeside : Fld.apart 0 f 0 g = true) (hf : f.fits = true) (hg : g.fits = true) (q : Nat) :
    ∀ (pages : List Nat) (s : State), (pages.foldl (fun st p => st.set p f 0) s).get q g = s.get q g
  | [], _ => rfl
  | p :: rest, s => by
    rw [List.foldl_cons, get_foldl_set_zero hbeside hf hg q rest]
    by_cases hpage : p = q
    · subst hpage
      exact State.get_set_beside _ _ _ hbeside hf hg
    · exact State.get_set_apart _ _ _ _ _ _ (by simp [Fld.apart, hpage]) hf hg

/-- The power-down leaves the guard die's registers but LOCK. -/
theorem get_coreHold {p : Nat} {f : Fld} (hguard : guardPage p = true) (hpage : p ≠ pMONUMENT)
    (hf : f.fits = true) (hlock : Fld.apart 0 F.HDR.PCTL.LOCK 0 f = true) : s.coreHold.get p f = s.get p f := by
  have hfits : f.off + 4 * f.words ≤ 4096 := of_decide_eq_true hf
  have hwipe : s.calCut.monCut.wipeCore.get p f = s.calCut.monCut.get p f := by
    refine State.get_of_words fun i hi => ?_
    have hkey : regKey p (f.off + 4 * i) / 4096 = p := by unfold regKey; omega
    exact tabGet_filter _ coreKept (by simp [coreKept, hkey, hguard]) _
  calc s.coreHold.get p f
    _ = s.calCut.monCut.wipeCore.unlockGuard.get p f := by rw [State.coreHold, State.get_with_pwr]
    _ = s.calCut.monCut.wipeCore.get p f := get_foldl_set_zero hlock (by decide) hf p _ _
    _ = s.calCut.monCut.get p f := hwipe
    _ = s.get p f := (calCut_monCut_kept s).get_eq fun i hi => by
      have hkey : regKey p (f.off + 4 * i) / 4096 = p := by unfold regKey; omega
      simpa [frameScope, hkey] using hpage

theorem foldl_set_clock (f : Fld) (v : Nat) : ∀ (pages : List Nat) (s : State), (pages.foldl (fun st p => st.set p f v) s).clock = s.clock
  | [], _ => rfl
  | p :: rest, s => by rw [List.foldl_cons, foldl_set_clock f v rest, State.set_clock]

theorem foldl_set_supply (f : Fld) (v : Nat) : ∀ (pages : List Nat) (s : State), (pages.foldl (fun st p => st.set p f v) s).supply = s.supply
  | [], _ => rfl
  | p :: rest, s => by rw [List.foldl_cons, foldl_set_supply f v rest, State.set_supply]

@[simp] theorem calCut_clock (s : State) : s.calCut.clock = s.clock := by unfold State.calCut; split <;> rfl

@[simp] theorem monCut_clock (s : State) : s.monCut.clock = s.clock := by
  simp only [State.monCut, State.opDrop, apply_ite State.clock, State.set_clock, ite_self]

@[simp] theorem unlockGuard_clock (s : State) : s.unlockGuard.clock = s.clock := foldl_set_clock _ _ _ _
@[simp] theorem unlockGuard_supply (s : State) : s.unlockGuard.supply = s.supply := foldl_set_supply _ _ _ _

@[simp] theorem coreHold_clock (s : State) : s.coreHold.clock = s.clock := by simp [State.coreHold, State.wipeCore]

@[simp] theorem coreHold_supply (s : State) : s.coreHold.supply = s.supply := by
  have hcut : s.calCut.monCut.supply = s.supply := (calCut_monCut_kept s).part .supply rfl
  simpa [State.coreHold, State.wipeCore] using hcut

theorem coreHold_power (s : State) : s.coreHold.pwr.power = .coreReset := by rw [State.coreHold]

theorem coreHold_lines (s : State) : s.coreHold.pwr.lines = List.replicate 12 lineIdle := by rw [State.coreHold]

/-! PFW_N and the power-down (R435, R437). -/

@[simp] theorem pfwFall_clock (s : State) : s.pfwFall.clock = s.clock := by unfold State.pfwFall; split <;> simp
@[simp] theorem pfwFall_pwr (s : State) : s.pfwFall.pwr = s.pwr := by unfold State.pfwFall; split <;> simp
@[simp] theorem pfwFall_supply (s : State) : s.pfwFall.supply = s.supply := by unfold State.pfwFall; split <;> simp
@[simp] theorem pfwFall_tally (s : State) : s.pfwFall.tally = s.tally := by unfold State.pfwFall; split <;> simp

theorem get_pfwFall (s : State) : s.pfwFall.get pSUPPLY F.SUPPLY.STS.PFW = 1 := by
  unfold State.pfwFall
  split
  next h => exact State.get_of_flag rfl h
  next =>
    simp (disch := decide) only [State.event_get, State.get_set_beside, State.get_set_same]
    rfl

/-- PFW_N and its event are all that its fall moves. -/
theorem get_pfwFall_beside {p : Nat} {f : Fld} (hf : f.fits = true) (hpfw : Fld.apart pSUPPLY F.SUPPLY.STS.PFW p f = true)
    (hevent : Fld.apart pSUPPLY ⟨0x0C, 12, 1⟩ p f = true) : s.pfwFall.get p f = s.get p f := by
  unfold State.pfwFall
  split
  · rfl
  · rw [State.event_get, State.get_set_apart _ _ _ _ _ _ hevent (by decide) hf, State.get_set_apart _ _ _ _ _ _ hpfw (by decide) hf]

/-- SYS.WAKE[9:8] as the guard die copies it before Keep (R43, R44). -/
def wakeCopied (s : State) (copy : Bool) : State :=
  if copy && s.coreOn then
    { s with pwr := { s.pwr with keepMain := s.flag pSYS F.SYS.WAKE.KEEP_MAIN, keepAny := s.flag pSYS F.SYS.WAKE.KEEP_ANY } }
  else s

theorem powerDown_eq (s : State) (copy : Bool) : s.powerDown copy =
    (let s1 := (((((wakeCopied s copy).coreHold.set pSUPPLY F.SUPPLY.STS.PG_CORE 0).set pSUPPLY F.SUPPLY.STS.SEQ_BUSY 0).pfwFall.set
      pTALLY F.TALLY.STS.PLAN 0).set pTALLY F.TALLY.STS.SHED 0).set pTALLY F.TALLY.STS.WARN 0
    { s1 with supply := { s1.supply with phase := .lower s1.clock }, tally := { s1.tally with aStart := none } }) := rfl

@[simp] theorem wakeCopied_clock (s : State) (copy : Bool) : (wakeCopied s copy).clock = s.clock := by
  unfold wakeCopied; split <;> rfl
@[simp] theorem wakeCopied_supply (s : State) (copy : Bool) : (wakeCopied s copy).supply = s.supply := by
  unfold wakeCopied; split <;> rfl
@[simp] theorem get_wakeCopied (s : State) (copy : Bool) (p : Nat) (f : Fld) : (wakeCopied s copy).get p f = s.get p f := by
  unfold wakeCopied; split
  · exact State.get_with_pwr _ _ _ _
  · rfl

@[simp] theorem powerDown_clock (s : State) (copy : Bool) : (s.powerDown copy).clock = s.clock := by simp [powerDown_eq]

theorem powerDown_supply (s : State) (copy : Bool) : (s.powerDown copy).supply = { s.supply with phase := .lower s.clock } := by
  simp [powerDown_eq]

theorem powerDown_power (s : State) (copy : Bool) : (s.powerDown copy).pwr.power = .coreReset := by
  simp [powerDown_eq, coreHold_power]

theorem powerDown_lines (s : State) (copy : Bool) : (s.powerDown copy).pwr.lines = List.replicate 12 lineIdle := by
  simp [powerDown_eq, coreHold_lines]

theorem get_powerDown_pgCore (s : State) (copy : Bool) : (s.powerDown copy).get pSUPPLY F.SUPPLY.STS.PG_CORE = 0 := by
  simp (disch := decide) [powerDown_eq, State.get_set_apart, get_pfwFall_beside, State.get_set_same]

theorem get_powerDown_pfw (s : State) (copy : Bool) : (s.powerDown copy).get pSUPPLY F.SUPPLY.STS.PFW = 1 := by
  simp (disch := decide) [powerDown_eq, State.get_set_apart, get_pfwFall]

/-- What else the power-down leaves on the supply page. -/
theorem get_powerDown_beside (s : State) (copy : Bool) {f : Fld} (hf : f.fits = true)
    (hlock : Fld.apart 0 F.HDR.PCTL.LOCK 0 f = true) (hpg : Fld.apart pSUPPLY F.SUPPLY.STS.PG_CORE pSUPPLY f = true)
    (hbusy : Fld.apart pSUPPLY F.SUPPLY.STS.SEQ_BUSY pSUPPLY f = true) (hpfw : Fld.apart pSUPPLY F.SUPPLY.STS.PFW pSUPPLY f = true)
    (hevent : Fld.apart pSUPPLY ⟨0x0C, 12, 1⟩ pSUPPLY f = true) : (s.powerDown copy).get pSUPPLY f = s.get pSUPPLY f := by
  have htally (g : Fld) : Fld.apart pTALLY g pSUPPLY f = true := by simp [Fld.apart, pTALLY, pSUPPLY]
  rw [powerDown_eq]
  simp only [State.get_mk, get_regsAlone]
  rw [State.get_set_apart _ _ _ _ _ _ (htally _) (by decide) hf, State.get_set_apart _ _ _ _ _ _ (htally _) (by decide) hf,
    State.get_set_apart _ _ _ _ _ _ (htally _) (by decide) hf, get_pfwFall_beside hf hpfw hevent,
    State.get_set_apart _ _ _ _ _ _ hbusy (by decide) hf, State.get_set_apart _ _ _ _ _ _ hpg (by decide) hf,
    get_coreHold rfl (by decide) hf hlock, get_wakeCopied]

end Sys2Proof.Laws

namespace Sys2Proof.CoreRails

variable {s : State}

theorem seqStart_shows (s : State) :
    s.seqStart.clock = s.clock ∧ s.seqStart.supply.phase = RailPhase.ramp 0 s.clock ∧ s.seqStart.get pSUPPLY F.SUPPLY.STS.SEQ_BUSY = 1 ∧
      natBit s.seqStart.supply.causes 2 = true ∧ s.seqStart.pwr = s.pwr ∧ s.seqStart.supply.rfAt = none := by
  refine ⟨?_, ?_, ?_, ?_, ?_, ?_⟩
  case refine_3 => simp (disch := decide) [State.seqStart, State.get_set_same]
  all_goals simp [State.seqStart, cause_supply, natBit_natPut_one_same]

theorem railStart_eq {since : Nat} (hsince : s.startSince = some since)
    (hkeep : s.pwr.power = .keep ∧ s.supply.phase = .off ∧ s.supply.rfAt = none) (hlatch : s.get pSUPPLY F.SUPPLY.STS.RF_LATCH = 0) :
    s.railStart = (s.advance (since + s.startDb)).seqStart := by
  obtain ⟨hpower, hphase, hrf⟩ := hkeep
  simp [State.railStart, hsince, State.inKeep, hpower, hphase, hrf, State.flag_false hlatch]

/-- The supply page after a rail fault, before the rails fall (R435). -/
def faultMarked (s : State) (rail : Nat) (above : Bool) : State :=
  let s1 := ((s.setW1c pSUPPLY F.SUPPLY.RFAULT.VALID).set pSUPPLY F.SUPPLY.RFAULT.all (2 ^ 31 + 8 * bit above + rail)).set pSUPPLY
    F.SUPPLY.RFT.T 0
  let s2 := ((s1.bumpSat pSUPPLY F.SUPPLY.STS.RFCNT).event pSUPPLY 11).cause 6
  if s2.inForce F.SUPPLY.RAILCFG.RF_RETRY ≤ s2.get pSUPPLY F.SUPPLY.STS.RFCNT then s2.set pSUPPLY F.SUPPLY.STS.RF_LATCH 1 else s2

theorem railFault_eq (s : State) (rail : Nat) (above : Bool) : s.railFault rail above =
    (let s1 := ((faultMarked s rail above).powerDown false).railEvent s.coreOn s.now
    { s1 with supply := { s1.supply with rfAt := some (s1.clock + 1000 * msHns) } }) := rfl

theorem railEvent_regs (s : State) (on : Bool) (at' : Nat) : (s.railEvent on at').regs = s.regs := by
  unfold State.railEvent; split <;> rfl
theorem railEvent_clock (s : State) (on : Bool) (at' : Nat) : (s.railEvent on at').clock = s.clock := by
  unfold State.railEvent; split <;> rfl
theorem railEvent_supply (s : State) (on : Bool) (at' : Nat) : (s.railEvent on at').supply = s.supply := by
  unfold State.railEvent; split <;> rfl
theorem railEvent_power (s : State) (on : Bool) (at' : Nat) : (s.railEvent on at').pwr.power = s.pwr.power := by
  unfold State.railEvent; split <;> rfl

theorem faultMarked_clock (s : State) (rail : Nat) (above : Bool) : (faultMarked s rail above).clock = s.clock := by
  simp [faultMarked, apply_ite State.clock, State.bumpSat_set]

theorem faultMarked_causes (s : State) (rail : Nat) (above : Bool) : natBit (faultMarked s rail above).supply.causes 6 = true := by
  simp [faultMarked, apply_ite State.supply, cause_supply, natBit_natPut_one_same]

/-- A rail fault shows what it marked. -/
theorem get_railFault (s : State) (rail : Nat) (above : Bool) (f : Fld) :
    (s.railFault rail above).get pSUPPLY f = ((faultMarked s rail above).powerDown false).get pSUPPLY f := by
  rw [railFault_eq, State.get_with_supply, State.get_congr (railEvent_regs _ _ _)]

theorem get_faultMarked (s : State) {rail : Nat} (above : Bool) (hrail : rail < 8) :
    (faultMarked s rail above).get pSUPPLY F.SUPPLY.RFAULT.all = 2 ^ 31 + 8 * bit above + rail ∧
      (faultMarked s rail above).get pSUPPLY ⟨0x0C, 11, 1⟩ = 1 ∧ (faultMarked s rail above).get pSUPPLY F.SUPPLY.RFT.T = 0 := by
  have hword : (2 ^ 31 + 8 * bit above + rail) % 2 ^ F.SUPPLY.RFAULT.all.w = 2 ^ 31 + 8 * bit above + rail := by
    have hbit : bit above ≤ 1 := by cases above <;> decide
    exact Nat.mod_eq_of_lt (by simp only [show F.SUPPLY.RFAULT.all.w = 32 from rfl]; omega)
  refine ⟨?_, ?_, ?_⟩ <;>
    simp (disch := decide) only [faultMarked, State.bumpSat_set, State.get_ite, get_cause, State.event_get, State.get_set_beside, State.get_set_same, hword,
      ite_self] <;>
    rfl

/-- A rail fault as the guard die shows it (R435, R448). -/
theorem railFault_shows (s : State) {rail : Nat} (above : Bool) (hrail : rail < 8) :
    (s.railFault rail above).get pSUPPLY F.SUPPLY.RFAULT.all = 2 ^ 31 + 8 * bit above + rail ∧
      (s.railFault rail above).get pSUPPLY F.SUPPLY.STS.PG_CORE = 0 ∧ (s.railFault rail above).get pSUPPLY F.SUPPLY.STS.PFW = 1 ∧
      (s.railFault rail above).get pSUPPLY ⟨0x0C, 11, 1⟩ = 1 ∧ (s.railFault rail above).get pSUPPLY F.SUPPLY.RFT.T = 0 := by
  obtain ⟨hfault, hevent, hrft⟩ := get_faultMarked s above hrail
  simp only [get_railFault]
  refine ⟨?_, get_powerDown_pgCore _ _, get_powerDown_pfw _ _, ?_, ?_⟩
  · rw [get_powerDown_beside _ _ (by decide) (by decide) (by decide) (by decide) (by decide) (by decide), hfault]
  · rw [get_powerDown_beside _ _ (by decide) (by decide) (by decide) (by decide) (by decide) (by decide), hevent]
  · rw [get_powerDown_beside _ _ (by decide) (by decide) (by decide) (by decide) (by decide) (by decide), hrft]

theorem railFault_clock (s : State) (rail : Nat) (above : Bool) : (s.railFault rail above).clock = s.clock := by
  rw [railFault_eq]
  exact (railEvent_clock _ _ _).trans ((powerDown_clock _ _).trans (faultMarked_clock _ _ _))

theorem railFault_keeps (s : State) (rail : Nat) (above : Bool) :
    (s.railFault rail above).supply.phase = .lower s.clock ∧ (s.railFault rail above).supply.rfAt = some (s.clock + 1000 * msHns) ∧
      (s.railFault rail above).pwr.power = .coreReset ∧ natBit (s.railFault rail above).supply.causes 6 = true := by
  rw [railFault_eq]
  simp [railEvent_supply, railEvent_clock, railEvent_power, powerDown_supply, powerDown_power, faultMarked_clock, faultMarked_causes]

/-- The line of a rail fault: its detection alone is kept over the reset (R23). -/
theorem railFault_line (s : State) (rail : Nat) (above : Bool) : (s.railFault rail above).line lineRail =
    { lineIdle with waiting := if s.coreOn then [({ guardRec 0 0 0 (leBytes 8 s.now) with t := s.clock } : Rec)] else [] } := by
  rw [railFault_eq]
  cases s.coreOn <;>
    simp [State.railEvent, State.line, State.setLine, powerDown_lines, faultMarked_clock, nth, setNth, lineRail, lineIdle]

/-! The fall of the rails (R435, R445). -/

theorem slotState_slotOff (s : State) (m vout n : Nat) :
    (s.slotOff m vout).slotState n = if pSLOT n = pSLOT m then slotOFF else s.slotState n := by
  have hpg : (s.pgFall m 3 vout).slotState n = s.slotState n := by
    have hstate {p : Nat} {f : Fld} (hbeside : Fld.apart 0 f 0 F.SLOT.STS.STATE = true) (hf : f.fits = true) (u : State) (v : Nat) :
        (u.set p f v).get (pSLOT n) F.SLOT.STS.STATE = u.get (pSLOT n) F.SLOT.STS.STATE := by
      by_cases hpage : p = pSLOT n
      · subst hpage
        exact u.get_set_beside _ _ hbeside hf (by decide)
      · exact u.get_set_apart _ _ _ _ _ (by simp [Fld.apart, hpage]) hf (by decide)
    unfold State.pgFall State.slotState
    split
    · have hregs (u : State) (l : Nat) (r : Rec) : (u.guardEvent l r).regs = u.regs := by unfold State.guardEvent; split <;> rfl
      rw [State.get_congr (hregs _ _ _), State.event_get, hstate (by decide) (by decide), hstate (by decide) (by decide)]
    · rfl
  unfold State.slotOff State.setSlotState
  by_cases hpage : pSLOT n = pSLOT m
  · rw [if_pos hpage, State.slotState, hpage, State.get_set_same _ _ _ _ (by decide)]
    rfl
  · rw [if_neg hpage, State.slotState, State.get_set_apart _ _ _ _ _ _ (by simp [Fld.apart, Ne.symm hpage]) (by decide) (by decide)]
    exact hpg

/-- Once off, a channel stays off while the others go. -/
theorem slotState_foldl_slotOff (n : Nat) : ∀ (l : List Nat) (s : State), (n ∈ l ∨ s.slotState n = slotOFF) →
    (l.foldl (fun st m => st.slotOff m 0) s).slotState n = slotOFF
  | [], _, h => h.resolve_left (by simp)
  | m :: rest, s, h => by
    refine slotState_foldl_slotOff n rest _ ?_
    rw [slotState_slotOff]
    by_cases hpage : pSLOT n = pSLOT m
    · exact .inr (if_pos hpage)
    · rw [if_neg hpage]
      rcases h with h | h
      · exact .inl ((List.mem_cons.mp h).resolve_left fun hnm => hpage (congrArg pSLOT hnm))
      · exact .inr h

theorem slotState_slotsOff (s : State) {n : Nat} (hn : n < 8) : s.slotsOff.slotState n = slotOFF :=
  slotState_foldl_slotOff n _ _ (.inl (List.mem_range.mpr hn))

theorem slotOff_clock (s : State) (m vout : Nat) : (s.slotOff m vout).clock = s.clock := by
  have hguard (u : State) (l : Nat) (r : Rec) : (u.guardEvent l r).clock = u.clock := by unfold State.guardEvent; split <;> rfl
  simp only [State.slotOff, State.setSlotState, State.set_clock, State.pgFall, apply_ite State.clock, hguard, State.event_clock, ite_self]

theorem slotsOff_clock (s : State) : s.slotsOff.clock = s.clock := by
  have hfold (l : List Nat) (u : State) : (l.foldl (fun st m => st.slotOff m 0) u).clock = u.clock := by
    induction l generalizing u with
    | nil => rfl
    | cons m rest ih => rw [List.foldl_cons, ih, slotOff_clock]
  exact hfold _ s

theorem enterKeep_slotState (s : State) {n : Nat} (hn : n < 8) : s.enterKeep.slotState n = slotOFF := by
  rw [State.enterKeep, State.slotState, State.get_mk, get_regsAlone]
  exact slotState_slotsOff s hn

theorem rfClr_shows (s : State) : s.rfClr.get pSUPPLY F.SUPPLY.STS.RF_LATCH = 0 ∧ s.rfClr.get pSUPPLY F.SUPPLY.STS.RFCNT = 0 := by
  simp (disch := decide) [State.rfClr, State.get_set_beside, State.get_set_same]

theorem rfClr_leaves (s : State) {k : Nat} (hk : k ≠ regKey pSUPPLY F.SUPPLY.STS.RFCNT.off) :
    tabGet regDefault s.rfClr.regs k = tabGet regDefault s.regs k := by
  have hset (u : State) (f : Fld) (v : Nat) (hoff : f.off = F.SUPPLY.STS.RFCNT.off) (hwords : f.words = 1) :
      tabGet regDefault (u.set pSUPPLY f v).regs k = tabGet regDefault u.regs k :=
    State.tabGet_set_ne u v fun i hi => by
      obtain rfl : i = 0 := by omega
      simpa [hoff] using hk
  exact (hset _ F.SUPPLY.STS.RFCNT 0 rfl rfl).trans (hset _ F.SUPPLY.STS.RF_LATCH 0 rfl rfl)

/-- Settles O51: each command of the rails is one step of the sequence of R434 or R435, or a fault of R435. -/
theorem coreRails : Obligations.CoreRails := by
  refine ⟨?start, ?rises, ?up, ?timeout, ?fault, ?lower, ?fall, ?restart, ?clear⟩
  case start =>
    intro since s hsince hkeep hlatch
    obtain ⟨hclock, hphase, hbusy, hcause, hpwr, -⟩ := seqStart_shows (s.advance (since + s.startDb))
    refine ⟨_, next_of_eq (railStart_eq hsince hkeep hlatch) rfl, hclock, ?_, hbusy, hcause, hpwr⟩
    rw [hphase, hclock]
  case rises =>
    intro enter i since s hphase hin
    refine ⟨_, rfl, ?_⟩
    simp [State.railStep, hphase.1, hphase.2, hin]
  case up =>
    intro enter since s hphase hin
    refine ⟨_, rfl, ?_⟩
    simp (disch := decide) [State.pgCore, hphase, hin, State.get_set_beside, State.get_set_same]
  case timeout =>
    intro i since s hphase
    have hrail : nth upOrder i 0 < 8 := by
      obtain ⟨-, hi⟩ := hphase
      interval_cases i <;> decide
    have hnext : s.rampTimeout = (s.advance (since + s.inForce F.SUPPLY.SEQ.RAMP_TO * msHns)).railFault (nth upOrder i 0) false := by
      simp [State.rampTimeout, hphase.1]
    obtain ⟨hword, -⟩ := railFault_shows (s.advance (since + s.inForce F.SUPPLY.SEQ.RAMP_TO * msHns)) false hrail
    obtain ⟨hlower, hrf, hpower, hcause⟩ :=
      railFault_keeps (s.advance (since + s.inForce F.SUPPLY.SEQ.RAMP_TO * msHns)) (nth upOrder i 0) false
    have hclock := railFault_clock (s.advance (since + s.inForce F.SUPPLY.SEQ.RAMP_TO * msHns)) (nth upOrder i 0) false
    exact ⟨_, next_of_eq hnext rfl, hword, hclock ▸ hlower, hclock ▸ hrf, hpower, hcause, hclock⟩
  case fault =>
    intro clk map r above s hup hfind
    have hrail : r < 8 := by
      have hmem := List.mem_of_find?_eq_some hfind
      have hall : ∀ x ∈ upOrder, x < 8 := by decide
      exact hall r hmem
    have hnext : (s.advance clk).onGuard (fun t => t.railsOut map above) = (s.advance clk).railFault r above := by
      have hguard : (s.advance clk).guardOn = true := hup.1
      simp [State.onGuard, hguard, State.railsOut, hfind, hup.2]
    obtain ⟨hword, hpg, hpfw, hevent, hrft⟩ := railFault_shows (s.advance clk) above hrail
    obtain ⟨hlower, -, hpower, -⟩ := railFault_keeps (s.advance clk) r above
    have hline := railFault_line (s.advance clk) r above
    refine ⟨_, next_of_eq hnext rfl, hword, hpg, hpfw, hlower, hpower, hevent, hrft, ?_, ?_⟩
    · rw [hline]
      rfl
    · rw [hline]
      rfl
  case lower =>
    intro clk since s hphase
    refine ⟨_, rfl, ?_⟩
    simp [State.railFall, hphase]
  case fall =>
    intro clk i since s hphase
    by_cases hi : i < 4
    · refine ⟨_, rfl, ?_⟩
      simp [State.railFall, hphase, hi, Nat.not_le.mpr hi]
    · have hnext : s.railFall clk = (s.advance (min clk (since + msHns))).enterKeep := by simp [State.railFall, hphase, hi]
      exact ⟨_, next_of_eq hnext rfl, slotsOff_clock _, fun h => absurd h hi, fun _ => ⟨rfl, rfl, fun n hn => enterKeep_slotState _ hn⟩⟩
  case restart =>
    intro due since s hrf hkeep hsince hlatch
    obtain ⟨hlatch, hheld⟩ := hlatch
    have hnext : s.faultRestart =
        State.seqStart { s.advance due with supply := { (s.advance due).supply with rfAt := none } } := by
      have hstart : State.startSince { s.advance due with supply := { (s.advance due).supply with rfAt := none } } = some since :=
        hsince
      have hdb : State.startDb { s.advance due with supply := { (s.advance due).supply with rfAt := none } } = s.startDb := rfl
      simp only [State.faultRestart, hrf, State.inKeep, hkeep.1, hkeep.2, decide_true, Bool.and_self, if_true, hstart, hdb]
      simp [State.flag, hlatch, hheld]
    obtain ⟨hclock, hphase, hbusy, -, -, hnone⟩ :=
      seqStart_shows { s.advance due with supply := { (s.advance due).supply with rfAt := none } }
    refine ⟨_, next_of_eq hnext rfl, hclock, ?_, hnone, hbusy⟩
    rw [hphase, hclock]
  case clear =>
    intro clk s haccepts
    obtain ⟨hlatch, hcount⟩ := rfClr_shows (s.advance clk)
    exact ⟨_, next_of_eq (State.bitWrite_accepts haccepts) rfl, hlatch, hcount, fun k hk => rfClr_leaves _ hk⟩

end Sys2Proof.CoreRails
end

section
/-!
PROOFS. Operations that take no time: records and frames that the hub queues, and what it counts and captures on the way, move neither the
clock nor, where they draw no free value, the count of free values.
-/

open Sys2Proof Sys2Proof.Machine Sys2Proof.Laws

namespace Sys2Proof.Laws

variable {s : State}

/-- An operation that took no time and drew no free value. -/
structure Still (r s : State) : Prop where
  clock : s.clock = r.clock
  free : s.freeCtr = r.freeCtr

theorem Still.refl (s : State) : Still s s := ⟨rfl, rfl⟩

theorem Still.trans {r s t : State} (h1 : Still r s) (h2 : Still s t) : Still r t := ⟨h2.clock.trans h1.clock, h2.free.trans h1.free⟩

theorem Still.ite {r s t : State} {c : Prop} [Decidable c] (h1 : Still r s) (h2 : Still r t) : Still r (if c then s else t) := by
  split
  · exact h1
  · exact h2

theorem Still.foldl {α : Type} {f : State → α → State} (hf : ∀ x a, Still x (f x a)) : ∀ (l : List α) (s : State), Still s (l.foldl f s)
  | [], s => Still.refl s
  | a :: l, s => (hf s a).trans (Still.foldl hf l _)

theorem set_still (s : State) (p : Nat) (f : Fld) (v : Nat) : Still s (s.set p f v) := ⟨by simp, by simp⟩
theorem event_still (s : State) (p b : Nat) : Still s (s.event p b) := ⟨by simp, by simp⟩
theorem stBytes_still : ∀ (l : List Byte) (a : Nat) (s : State), Still s (s.stBytes a l)
  | [], _, s => Still.refl s
  | b :: l, a, s => (⟨rfl, rfl⟩ : Still s (s.stb a b)).trans (stBytes_still l (a + 1) (s.stb a b))

theorem Still.book (s : State) (v : BookSt) : Still s { s with book := v } := ⟨rfl, rfl⟩
theorem Still.sw (s : State) (v : SwitchSt) : Still s { s with sw := v } := ⟨rfl, rfl⟩
theorem Still.sets (s : State) (v : CycleSets) : Still s { s with sets := v } := ⟨rfl, rfl⟩

/-! Records (R261, R266, R269). -/

theorem countDiscard_still (s : State) (r : Rec) : Still s (s.countDiscard r) :=
  Still.ite (((set_still _ _ _ _).trans (set_still _ _ _ _)).trans (event_still _ _ _)) ((set_still _ _ _ _).trans (set_still _ _ _ _))

theorem episodeAdd_still (s : State) (r : Rec) : Still s (s.episodeAdd r) :=
  Still.ite ((Still.book s _).trans (event_still _ _ _)) (Still.book s _)

theorem discardRec_still (s : State) (r : Rec) : Still s (s.discardRec r) := (countDiscard_still s r).trans (episodeAdd_still _ r)

theorem shadowAdd_still (s : State) (r : Rec) : Still s (s.shadowAdd r) := by
  unfold State.shadowAdd
  exact Still.ite (Still.book s _) (((Still.book s _).trans (set_still _ _ _ _)).trans (event_still _ _ _))

theorem stage_still (s : State) (q : Stage) (r : Rec) : Still s (s.stage q r) := by
  unfold State.stage
  refine Still.ite (Still.ite (Still.book s _) (Still.book s _)) (Still.ite (set_still _ _ _ _) (Still.ite (shadowAdd_still s r) ?_))
  cases q with
  | guard => exact Still.ite (Still.book s _) (discardRec_still s r)
  | mgt => exact Still.ite (Still.book s _) (discardRec_still s r)
  | island c => exact Still.ite (Still.book s _) (discardRec_still s r)

/-! Copies at the ports (R317, R341–R343, R353, R360). -/

theorem portCount_still (s : State) (n i k : Nat) : Still s (s.portCount n i k) :=
  (Still.sets s _).trans (set_still _ _ _ _)

theorem capture_still (s : State) (n : Nat) {ft : Fate} (f : Frame) (hreason : ft.reason ≠ noReason) : Still s (s.capture n ft f) := by
  unfold State.capture
  refine Still.ite (Still.refl s) ?_
  split
  · exact Still.refl s
  · simp only [hreason, if_false]
    have hwritten (sw : SwitchSt) (a : Nat) (l : List Byte) (f : Fld) (v : Nat) :
        Still s ((({ s with sw := sw } : State).stBytes a l).set pCAPTURE f v) :=
      ((Still.sw s sw).trans (stBytes_still l a _)).trans (set_still _ _ _ _)
    exact Still.ite ((set_still _ _ _ _).trans (event_still _ _ _)) (Still.ite ((hwritten _ _ _ _ _).trans (event_still _ _ _))
      (hwritten _ _ _ _ _))

theorem dropCopy_still (s : State) (q : QFrame) (ctr : Nat) {reason : Nat} (hreason : reason ≠ noReason) : Still s (s.dropCopy q ctr reason) :=
  ((portCount_still s q.port ctr 1).trans (Still.ite (portCount_still _ _ _ _) (Still.refl _))).trans (capture_still _ _ _ hreason)

theorem roomMark_still (s : State) : Still s s.roomMark := by
  unfold State.roomMark
  exact Still.ite ((Still.sw s _).trans (event_still _ _ _)) (Still.sw s _)

theorem enqueue_still (s : State) (q : QFrame) : Still s (s.enqueue q) := by
  unfold State.enqueue
  exact Still.ite (dropCopy_still s q 17 (by decide)) (Still.ite (dropCopy_still s q 12 (by decide)) ((Still.sw s _).trans (roomMark_still _)))

theorem sendForms_still (s : State) (f : Frame) (l : List (Nat × Frame)) (q tag : Option Nat) : Still s (s.sendForms f l q tag) := by
  unfold State.sendForms
  exact Still.ite ((set_still _ _ _ _).trans (event_still _ _ _)) ((Still.sw s _).trans (Still.foldl (fun x a => enqueue_still x _) _ _))

theorem sendCopies_still (s : State) (ports : List Nat) (f : Frame) (q tag : Option Nat) : Still s (s.sendCopies ports f q tag) :=
  sendForms_still _ _ _ _ _

theorem sendRing_still (s : State) (f : Frame) : Still s (s.sendRing f) := by
  unfold State.sendRing
  refine Still.ite (Still.trans ?_ (sendCopies_still _ _ _ _ _)) ?_
  · unfold State.hsrTag
    split
    · exact set_still _ _ _ _
    · exact Still.refl s
  · unfold State.sendMember
    split
    · exact sendCopies_still _ _ _ _ _
    · exact (set_still _ _ _ _).trans (event_still _ _ _)

theorem sendMgmt_still (s : State) (subkind node member count : Nat) (payload : List Byte) :
    Still s (s.sendMgmt subkind node member count payload) := sendRing_still _ _

/-! The drains of the book (R264, R265). -/

theorem setDrain_still (s : State) (d : DrainId) (v : Drain) : Still s (s.setDrain d v) := by
  cases d <;> exact Still.book s _

theorem lap_still (s : State) (d : DrainId) : Still s (s.lap d) :=
  Still.ite (Still.refl s) (((set_still _ _ _ _).trans (event_still _ _ _)).trans (set_still _ _ _ _))

theorem syncDrain_still (s : State) (d : DrainId) : Still s (s.syncDrain d) := by
  unfold State.syncDrain
  exact Still.ite (Still.ite ((setDrain_still _ _ _).trans (lap_still _ _)) ((setDrain_still _ _ _).trans (set_still _ _ _ _)))
    (Still.ite (setDrain_still _ _ _) (Still.refl s))

theorem syncDrains_still (s : State) : Still s s.syncDrains :=
  (((syncDrain_still s .dma).trans (syncDrain_still _ .twin)).trans (syncDrain_still _ .ring)).trans
    (Still.ite (event_still _ _ _) (Still.refl _))

/-! A pair's declaration (R408). Its pins do not enter shadow with it. -/

theorem Still.dup (s : State) (v : DuplexSt) : Still s { s with dup := v } := ⟨rfl, rfl⟩

theorem entering_still (s : State) (k : Nat) : Still s (PairsBootSupplies.entering s k) := by
  unfold PairsBootSupplies.entering
  exact (set_still _ _ _ _).trans (Still.dup _ _)

theorem setDup_eq (s : State) (k : Nat) : s.setDup k =
    (if k = 2 ∧ s.get pDUPLEX F.DUPLEX.STS.STATE ≠ 3 then (((PairsBootSupplies.entering s k).shadowSync s).syncDrains).set pDUPLEX F.DUPLEX.STS.SYNCED 0
    else ((PairsBootSupplies.entering s k).shadowSync s).syncDrains) := rfl

/-- A change of state that neither enters nor leaves shadow moves no pin. -/
theorem shadowSync_of_same {s t : State} (hshadow : t.inShadow = s.inShadow) : t.shadowSync s = t := if_pos hshadow

theorem setDup_still {s : State} {k : Nat} (hshadow : (PairsBootSupplies.entering s k).inShadow = s.inShadow) : Still s (s.setDup k) := by
  have hentered := (entering_still s k).trans (syncDrains_still (PairsBootSupplies.entering s k))
  rw [setDup_eq, shadowSync_of_same hshadow]
  exact Still.ite (hentered.trans (set_still _ _ _ _)) hentered

theorem holdPins_still (s : State) : Still s s.holdPins :=
  Still.foldl (fun x p => Still.ite (⟨rfl, rfl⟩ : Still x (x.latchPin p _ _ _)) (Still.refl x)) _ s

/-- A hub of a pair is in shadow in states 2 to 4 and 6, and in state 0 as it left them. -/
theorem inShadow_of_dupState {s : State} {k : Nat} (hstate : s.dupState = some k) (hk : k = 1 ∨ k = 5) : s.inShadow = false := by
  rcases hk with rfl | rfl <;> simp [State.inShadow, State.standby, State.fenced, hstate]

theorem dupState_entering (s : State) (k : Nat) : (PairsBootSupplies.entering s k).dupState = some (k % 2 ^ F.DUPLEX.STS.STATE.w) := by
  have hget : (PairsBootSupplies.entering s k).get pDUPLEX F.DUPLEX.STS.STATE = k % 2 ^ F.DUPLEX.STS.STATE.w := by
    rw [PairsBootSupplies.entering, State.get_with_dup]
    exact State.get_set_same _ _ _ _ (by decide)
  rw [State.dupState, hget]
  rfl

theorem sendStatus_still (s : State) (cyc : Nat) : Still s (s.sendStatus cyc) := sendCopies_still _ _ _ _ _

/-- The state of a pair depends on the registers and on the pair's own state. -/
theorem dupState_congr {s t : State} (hget : ∀ p f, t.get p f = s.get p f) (hdup : t.dup = s.dup) : t.dupState = s.dupState := by
  simp only [State.dupState, State.role, State.isTwin, State.guards, hget, hdup]
  rfl

theorem holdPins_only (s : State) : Kept (frameScope [] (fun _ => false) [.pins]) s s.holdPins := holdPins_kept (Kept.refl _ s) rfl
theorem holdPins_get (s : State) (p : Nat) (f : Fld) : s.holdPins.get p f = s.get p f := (holdPins_only s).get_eq fun _ _ => rfl
theorem holdPins_dup (s : State) : s.holdPins.dup = s.dup := (holdPins_only s).part .dup rfl

/-- A declaration takes no time: its hub is active before it and drives its pins on (R408). -/
theorem declare_still {s : State} {hand : Bool} {cause : Nat} (hactive : s.dupState = some 1) : Still s (s.declare hand cause) := by
  have hhold : Still s (if hand then s else s.holdPins) := Still.ite (Still.refl s) (holdPins_still s)
  have hactive' : (if hand then s else s.holdPins).dupState = some 1 := by
    split
    · exact hactive
    · exact (dupState_congr (holdPins_get s) (holdPins_dup s)).trans hactive
  have hset : Still s ((if hand then s else s.holdPins).setDup 5) := hhold.trans (setDup_still (by
    rw [inShadow_of_dupState hactive' (.inl rfl), inShadow_of_dupState (dupState_entering _ 5) (.inr rfl)]))
  exact Still.ite ((hset.trans (Still.dup _ _)).trans (sendStatus_still _ _)) (hset.trans (Still.dup _ _))

theorem declareFault_still (s : State) (cause : Nat) : Still s (s.declareFault cause) := by
  unfold State.declareFault
  split
  next hactive => exact declare_still hactive
  next => exact Still.refl s

end Sys2Proof.Laws

namespace Sys2Proof.EventLines

variable {s : State}

theorem blockFault_still (s : State) (p : Nat) : Still s (s.blockFault p) :=
  Still.ite (Still.refl s) ((set_still _ _ _ _).trans (event_still _ _ _))

theorem nth_setNth_same {α : Type} (v d : α) : ∀ (l : List α) (i : Nat), i < l.length → nth (setNth l i v) i d = v
  | _ :: _, 0, _ => rfl
  | _ :: l, i + 1, h => nth_setNth_same v d l i (Nat.lt_of_succ_lt_succ h)

/-- The line that was stored is the line that is read. -/
theorem line_setLine (s : State) {l : Nat} (e : EvLine) (hl : l < s.pwr.lines.length) : (s.setLine l e).line l = e :=
  nth_setNth_same e _ _ l hl

/-- Pages that a declaration writes. -/
def declarePages (p : Nat) : Bool :=
  p == pDUPLEX || p == pBOOK || famOf p == some Fam.edge || p == pSWITCH || famOf p == some Fam.port || p == pCAPTURE || p == pBUFMEM

theorem declareFault_only (s : State) (cause : Nat) :
    Kept (frameScope [] declarePages [.pins, .dup, .edges, .book, .sw, .mem]) s (s.declareFault cause) :=
  declareFault_kept (Kept.refl _ s) rfl rfl rfl rfl rfl rfl (frameScope_page_of_named rfl) (frameScope_page_of_named rfl)
    (fun n => frameScope_page_of_named (by simp [declarePages])) (frameScope_page_of_named rfl)
    (fun n => frameScope_page_of_named (by simp [declarePages])) (frameScope_page_of_named rfl) (frameScope_page_of_named rfl)

theorem stage_only (s : State) (q : Stage) (r : Rec) :
    Kept (frameScope [] (fun p => p == pBOOK || famOf p == some .edge) [.book]) s (s.stage q r) :=
  stage_kept (Kept.refl _ s) rfl (frameScope_page_of_named rfl).fld (frameScope_page_of_named rfl).fld
    (frameScope_page_of_named rfl).fld (frameScope_page_of_named (by simp)).fld (frameScope_page_of_named (by simp)).fld
    (frameScope_page_of_named rfl).fld (frameScope_page_of_named rfl).fld

theorem stages_still (l : List Rec) (f : State → Rec → Rec) (s : State) : Still s (l.foldl (fun st r => st.stage .guard (f st r)) s) :=
  Still.foldl (fun _ _ => stage_still _ _ _) l s

/-- Records join the book: nothing of the guard die's pages and lines moves. -/
theorem stages_kept (l : List Rec) (f : State → Rec → Rec) (s : State) :
    Kept (frameScope [] (fun p => p == pBOOK || famOf p == some .edge) [.book]) s (l.foldl (fun st r => st.stage .guard (f st r)) s) :=
  Kept.foldl (fun _ _ h => stage_kept h rfl (frameScope_page_of_named rfl).fld (frameScope_page_of_named rfl).fld
    (frameScope_page_of_named rfl).fld (frameScope_page_of_named (by simp)).fld (frameScope_page_of_named (by simp)).fld
    (frameScope_page_of_named rfl).fld (frameScope_page_of_named rfl).fld) _ _ (Kept.refl _ s)

/-- The hub as the die-to-die link has failed (R24). -/
def linkLost (s : State) : State :=
  let s1 := { s with pwr := { s.pwr with dieLink := false } }
  ((s1.blockFault pSYS).stage .mgt { guardRec 0x31 3 s1.member (List.replicate 8 0) with t := s1.now }).declareFault 1

theorem linkLost_shows (s : State) :
    (linkLost s).pwr.dieLink = false ∧ (linkLost s).get pSYS F.HDR.PSTS.FAULT = 1 ∧ (linkLost s).clock = s.clock := by
  let s1 : State := { s with pwr := { s.pwr with dieLink := false } }
  have hstage := stage_only (s1.blockFault pSYS) .mgt { guardRec 0x31 3 s1.member (List.replicate 8 0) with t := s1.now }
  have hdeclare := declareFault_only
    ((s1.blockFault pSYS).stage .mgt { guardRec 0x31 3 s1.member (List.replicate 8 0) with t := s1.now }) 1
  have hpwr : (s1.blockFault pSYS).pwr = s1.pwr := by unfold State.blockFault; split <;> simp
  refine ⟨?_, ?_, ?_⟩
  · have hlost : (linkLost s).pwr = s1.pwr := (hdeclare.part .pwr rfl).trans ((hstage.part .pwr rfl).trans hpwr)
    rw [hlost]
  · exact (hdeclare.get_eq (by decide)).trans ((hstage.get_eq (by decide)).trans (s1.get_blockFault_same pSYS))
  · exact (((blockFault_still s1 pSYS).trans (stage_still _ _ _)).trans (declareFault_still _ _)).clock

/-- The core die as it has stamped an edge of a line and handed on the records (R23). -/
def stamped (s : State) (l : Nat) : State :=
  let s1 := s.setLine l { s.line l with toggled := [] }
  if l = lineRail then s1.set pSUPPLY F.SUPPLY.RFT.T (((s.line l).toggled.head?.map s.railStamp).getD 0)
  else (s.line l).toggled.foldl (fun st r => st.stage .guard (st.lineRec s.now r)) s1

/-- What follows a stamped edge (R461). -/
def captured (s : State) (l : Nat) : State :=
  if l = lineMain && (stamped s l).planOn && (s.line l).toggled.any (fun r => natBit r.flags 0) then
    (stamped s l).set pTALLY F.TALLY.LAST_LOSS.T s.now
  else stamped s l

theorem lineToggle_eq {s : State} {clk l : Nat} {r : Rec} {rs : List Rec} (hlive : (s.advance clk).lineLive l = true)
    (hwaiting : (s.line l).waiting = r :: rs) (htoggled : (s.line l).toggled = [])
    (hgap : (s.line l).last.all (fun x : Nat => decide (x + 200 ≤ max s.clock clk)) = true) :
    (s.advance clk).lineToggle l = (s.advance clk).setLine l
      ⟨some (max s.clock clk), (r :: rs).filter (fun x => x.t != r.t), (r :: rs).filter (fun x => x.t == r.t)⟩ := by
  have hline : (s.advance clk).line l = s.line l := rfl
  cases hlast : (s.line l).last with
  | none => simp [State.lineToggle, hline, hwaiting, htoggled, hlive, hlast]
  | some x =>
    have hfree : x + lineGap ≤ max s.clock clk := by simpa [hlast, lineGap] using hgap
    simp [State.lineToggle, hline, hwaiting, htoggled, hlive, hlast, hfree]

theorem lineCapture_eq {s : State} {l : Nat} {r : Rec} {rs : List Rec} (hlive : s.lineLive l = true)
    (htoggled : (s.line l).toggled = r :: rs) : s.lineCapture l = captured s l := by
  simp only [State.lineCapture, captured, stamped, hlive, htoggled, List.isEmpty_cons, Bool.not_false, Bool.and_self, if_true]

/-- Stamping an edge touches RFT, the records and the line alone. -/
theorem stamped_shows {s : State} {l : Nat} {r : Rec} {rs : List Rec} (hline : l < s.pwr.lines.length)
    (htoggled : (s.line l).toggled = r :: rs) :
    (stamped s l).line l = { s.line l with toggled := [] } ∧ (∀ f, f.fits = true → (stamped s l).get pTALLY f = s.get pTALLY f) ∧
      ((stamped s l).get pSUPPLY F.SUPPLY.RFT.T = if l = lineRail then s.railStamp r % 2 ^ 64 else s.get pSUPPLY F.SUPPLY.RFT.T) ∧
      (stamped s l).clock = s.clock := by
  have hstored := line_setLine s { s.line l with toggled := [] } hline
  by_cases hrail : l = lineRail
  · simp only [stamped, hrail, if_true]
    refine ⟨?_, ?_, ?_, ?_⟩
    · rw [← hrail]
      exact (congrArg (nth · l lineIdle) (congrArg PowerSt.lines (State.set_pwr _ _ _ _))).trans hstored
    · intro f hf
      exact (State.get_set_apart _ _ _ _ _ _ (by simp [Fld.apart, pTALLY, pSUPPLY]) (by decide) hf).trans (State.get_with_pwr _ _ _ _)
    · rw [State.get_set_same _ _ _ _ (by decide), ← hrail, htoggled]
      rfl
    · exact State.set_clock _ _ _ _
  · simp only [stamped, hrail, if_false]
    have hkept := stages_kept (s.line l).toggled (fun st r => st.lineRec s.now r) (s.setLine l { s.line l with toggled := [] })
    refine ⟨?_, ?_, ?_, ?_⟩
    · exact (congrArg (nth · l lineIdle) (congrArg PowerSt.lines (hkept.part .pwr rfl))).trans hstored
    · intro f hf
      refine (hkept.get_eq fun i hi => ?_).trans (State.get_with_pwr _ _ _ _)
      have hfits : f.off + 4 * f.words ≤ 4096 := of_decide_eq_true hf
      have hkey : regKey pTALLY (f.off + 4 * i) / 4096 = pTALLY := by unfold regKey; omega
      simp only [frameScope, hkey, List.any_nil, Bool.or_false]
      decide
    · exact (hkept.get_eq (by decide)).trans (State.get_with_pwr _ _ _ _)
    · exact (stages_still _ _ _).clock

theorem captured_shows {s : State} {clk l : Nat} {r : Rec} {rs : List Rec} (hline : l < s.pwr.lines.length)
    (htoggled : (s.line l).toggled = r :: rs) :
    ((captured (s.advance clk) l).line l).toggled = [] ∧ ((captured (s.advance clk) l).line l).waiting = (s.line l).waiting ∧
      ((captured (s.advance clk) l).get pTALLY F.TALLY.LAST_LOSS.T =
        if l = lineMain ∧ s.planOn = true ∧ (s.line l).toggled.any (fun r : Rec => natBit r.flags 0) = true then
          (s.advance clk).now % 2 ^ 64 else s.get pTALLY F.TALLY.LAST_LOSS.T) ∧
      ((captured (s.advance clk) l).get pSUPPLY F.SUPPLY.RFT.T =
        if l = lineRail then (ofLE (r.data.take 8) + (max s.clock clk - r.t)) % 2 ^ 64 else s.get pSUPPLY F.SUPPLY.RFT.T) ∧
      (captured (s.advance clk) l).clock = max s.clock clk := by
  obtain ⟨hstored, htally, hrft, hclock⟩ := stamped_shows (s := s.advance clk) hline htoggled
  have hplan : (stamped (s.advance clk) l).planOn = s.planOn := by simp [State.planOn, htally _ (show F.TALLY.STS.PLAN.fits = true by decide)]
  have hread : (s.advance clk).line l = s.line l := rfl
  have hlines : ((captured (s.advance clk) l).line l) = { s.line l with toggled := [] } := by
    unfold captured
    split
    · exact (congrArg (nth · l lineIdle) (congrArg PowerSt.lines (State.set_pwr _ _ _ _))).trans hstored
    · exact hstored
  refine ⟨by rw [hlines], by rw [hlines], ?_, ?_, ?_⟩
  · have hloss : (s.advance clk).get pTALLY F.TALLY.LAST_LOSS.T = s.get pTALLY F.TALLY.LAST_LOSS.T := State.get_advance _ _ _ _
    simp (disch := decide) only [captured, hplan, hread, State.get_ite, htally, hloss, State.get_set_same, Bool.and_eq_true,
      decide_eq_true_eq, and_assoc]
    rfl
  · simp (disch := decide) only [captured, State.get_ite, State.get_set_apart, ite_self, hrft]
    rfl
  · simp only [captured, apply_ite State.clock, State.set_clock, hclock, ite_self]
    rfl

/-- Settles O48: the link's failure is declared where the hub is active, an edge takes the events of one moment, and its stamp goes where the
line's rule says. -/
theorem dieLinkAndEventLines : Obligations.DieLinkAndEventLines := by
  refine ⟨?fails, ?trained, ?toggles, ?captured⟩
  case fails =>
    intro clk s hon
    have hnext : (s.advance clk).dieFail = linkLost (s.advance clk) := by
      have hcore : (s.advance clk).coreOn = true := hon.1
      simp only [State.dieFail, hcore, State.advance_pwr, hon.2, Bool.and_self, if_true]
      rfl
    obtain ⟨hlink, hfault, hclock⟩ := linkLost_shows (s.advance clk)
    exact ⟨_, next_of_eq hnext rfl, hlink, hfault, hclock⟩
  case trained =>
    intro clk s
    exact ⟨_, rfl, rfl, rfl, rfl, rfl⟩
  case toggles =>
    intro clk line r l s hlive hline hwaiting hgap
    obtain ⟨hwaiting, htoggled⟩ := hwaiting
    have hnext := lineToggle_eq hlive hwaiting htoggled hgap
    have hstored := line_setLine (s.advance clk)
      ⟨some (max s.clock clk), (r :: l).filter (fun x => x.t != r.t), (r :: l).filter (fun x => x.t == r.t)⟩ hline
    refine ⟨_, next_of_eq hnext rfl, ?_, ?_, ?_, rfl⟩
    · exact congrArg EvLine.last hstored
    · exact congrArg EvLine.toggled hstored
    · exact congrArg EvLine.waiting hstored
  case captured =>
    intro clk line r l s hlive hline htoggled
    have hnext := lineCapture_eq hlive htoggled
    obtain ⟨hempty, hwaiting, hloss, hstamp, hclock⟩ := captured_shows hline htoggled
    exact ⟨_, next_of_eq hnext rfl, hempty, hwaiting, hloss, hstamp, hclock⟩

end Sys2Proof.EventLines
end

section
/-!
PROOFS. The management lease (R389, R390): a MGMT frame leaves the lease as it is, so that each step of the exchange is what it stores.
-/

open Sys2Proof Sys2Proof.Machine Sys2Proof.Laws

namespace Sys2Proof.ManagementLease

variable {s : State} {node member : Nat}

/-- Pages that a frame of the hub's own counts on. -/
def sendPages (p : Nat) : Bool := p == pHSR || p == pSWITCH || famOf p == some Fam.port || p == pCAPTURE || p == pBUFMEM

theorem sendMgmt_only (s : State) (subkind node member count : Nat) (payload : List Byte) :
    Kept (frameScope [] sendPages [.sw, .mem]) s (s.sendMgmt subkind node member count payload) :=
  have hpage {p : Nat} (h : sendPages p = true) (f : Fld) : (frameScope [] sendPages [.sw, .mem]).fld p f := (frameScope_page_of_named h).fld
  sendMgmt_kept (Kept.refl _ s) rfl rfl (hpage rfl _) (hpage rfl _) (hpage rfl _) (fun n => frameScope_page_of_named (by simp [sendPages]))
    (hpage rfl _) (hpage rfl _) (hpage rfl _) (hpage rfl _) (hpage rfl _) (hpage rfl _) (hpage rfl _)

@[simp] theorem sendMgmt_bridge (s : State) (subkind node member count : Nat) (payload : List Byte) :
    (s.sendMgmt subkind node member count payload).bridge = s.bridge := (sendMgmt_only s subkind node member count payload).part .bridge rfl

@[simp] theorem sendMgmt_freeCtr (s : State) (subkind node member count : Nat) (payload : List Byte) :
    (s.sendMgmt subkind node member count payload).freeCtr = s.freeCtr := (sendMgmt_still s subkind node member count payload).free

/-- A MGMT frame leaves the bridge's registers. -/
theorem get_sendMgmt (s : State) (subkind node member count : Nat) (payload : List Byte) {f : Fld} (hf : f.fits = true) :
    (s.sendMgmt subkind node member count payload).get pBRIDGE f = s.get pBRIDGE f := by
  refine (sendMgmt_only s subkind node member count payload).get_eq fun i hi => ?_
  have hfits : f.off + 4 * f.words ≤ 4096 := of_decide_eq_true hf
  have hkey : regKey pBRIDGE (f.off + 4 * i) / 4096 = pBRIDGE := by unfold regKey; omega
  simp only [frameScope, hkey, List.any_nil, Bool.or_false]
  decide

/-! The target's answers. -/

theorem leaseOpen_eq {key : List Byte} (hhere : s.leaseHere = true ∧ node ≠ s.nid) (hother : s.otherHolds node member = false)
    (hkey : s.leaseKey = some key) : s.leaseOpen node member =
      (let s0 := s.nextFree.dropChallenge node member
      let s1 : State := { s0 with bridge := { s0.bridge with challenges := s0.bridge.challenges ++ [⟨node, member, s.rnd 32, s.clock⟩] } }
      s1.sendMgmt 3 node member 1 (s.rnd 32)) := by
  simp [State.leaseOpen, hhere.1, hhere.2, hother, hkey]

theorem leaseOpen_refused (hhere : s.leaseHere = true) (hother : s.otherHolds node member = true) :
    (s.leaseOpen node member).bridge = s.bridge := by
  simp only [State.leaseOpen, hhere, hother, State.leaseRefuse]
  split
  · rfl
  · simp

/-- What a grant stores (R389, R390). -/
theorem leaseGo_shows (s : State) (node member : Nat) :
    (s.leaseGo node member).get pBRIDGE F.BRIDGE.MGRSTS.HELD = 1 ∧
      (s.leaseGo node member).get pBRIDGE F.BRIDGE.MGRSTS.NODE = node % 2 ^ F.BRIDGE.MGRSTS.NODE.w ∧
      (s.leaseGo node member).get pBRIDGE F.BRIDGE.MGRSTS.MEMBER = member % 2 ^ F.BRIDGE.MGRSTS.MEMBER.w ∧
      (s.leaseGo node member).get pBRIDGE ⟨0x0C, 13, 1⟩ = 1 := by
  refine ⟨?_, ?_, ?_, ?_⟩ <;>
    simp (disch := decide) only [State.leaseGo, get_sendMgmt, State.leaseGrant, State.get_with_bridge, State.event_get, State.get_set_beside,
      State.get_set_same] <;>
    rfl

theorem leaseGo_bridge (s : State) (node member : Nat) : (s.leaseGo node member).bridge = { s.bridge with
    leaseEnd := some (s.clock + 2000000000 * s.get pBRIDGE F.BRIDGE.LEASE.LEASE_S)
    nextChallenge := some ⟨node, member, s.rnd 32, s.clock⟩ } := by
  simp (disch := decide) [State.leaseGo, State.leaseGrant, State.get_set_beside]

/-- A proof that is right, from a hub that may hold the lease, is granted. -/
theorem leaseJudge_right {c : Challenge} {key proof : List Byte} (hother : s.otherHolds node member = false) (hkey : s.leaseKey = some key)
    (hproof : s.proofOk key c.bytes proof = true) : s.leaseJudge (some c) node member proof = s.leaseGo node member := by
  simp [State.leaseJudge, hother, hkey, hproof]

/-- Whatever is refused leaves the lease. -/
theorem leaseJudge_refused {c : Option Challenge} {proof : List Byte} (hrefused : s.otherHolds node member = true ∨ c = none) :
    ∃ reason, s.leaseJudge c node member proof = s.leaseRefuse node member reason := by
  unfold State.leaseJudge
  by_cases hother : s.otherHolds node member = true
  · exact ⟨1, if_pos hother⟩
  · obtain rfl := hrefused.resolve_left hother
    rw [if_neg hother]
    cases s.leaseKey with
    | none => exact ⟨3, rfl⟩
    | some key => exact ⟨4, rfl⟩

theorem otherHolds_of_holdsLease (hholds : s.holdsLease node member = true) : s.otherHolds node member = false := by
  simp [State.otherHolds, hholds]

/-- The end of a lease that is held (R390). -/
theorem leaseOver_shows (hheld : s.flag pBRIDGE F.BRIDGE.MGRSTS.HELD = true) :
    s.leaseOver.get pBRIDGE F.BRIDGE.MGRSTS.HELD = 0 ∧ s.leaseOver.get pBRIDGE ⟨0x0C, 13, 1⟩ = 1 ∧
      s.leaseOver.bridge = { s.bridge with leaseEnd := none, nextChallenge := none } ∧ s.leaseOver.clock = s.clock := by
  have hzero : (s.wr pBRIDGE 0x50 0).rd pBRIDGE 0x50 = 0 := by rw [State.rd_wr, if_pos rfl]
  have hword : (s.wr pBRIDGE 0x50 0).get pBRIDGE F.BRIDGE.MGRSTS.HELD = 
      natField (((s.wr pBRIDGE 0x50 0).rd pBRIDGE 0x50).toNat + 2 ^ 32 * 0) F.BRIDGE.MGRSTS.HELD.lo F.BRIDGE.MGRSTS.HELD.w := rfl
  simp only [State.leaseOver, hheld, if_true]
  refine ⟨?_, ?_, ?_, ?_⟩
  · rw [State.get_with_bridge, State.event_get, State.get_set_beside _ _ _ (by decide) (by decide) (by decide), hword, hzero]
    rfl
  · rw [State.get_with_bridge]
    exact State.get_event_same _ (by decide)
  · simp
  · simp

/-- Settles O43: the exchange of R389 as the target and as the manager. -/
theorem managementLease : Obligations.ManagementLease := by
  refine ⟨?opens, ?openRefused, ?challenged, ?proved, ?proofRefused, ?granted, ?renewed, ?tooLate, ?released, ?refused, ?expires, ?oldest,
    ?lastGrant, ?dropped⟩
  case opens =>
    intro clk node member key s hhere hother hkey
    refine ⟨_, next_of_eq (leaseOpen_eq (s := s.advance clk) hhere hother hkey) rfl, ?_⟩
    simp [State.dropChallenge, State.rnd, State.freeVal]
  case openRefused =>
    intro clk node member s hhere hother
    have hbridge := leaseOpen_refused (s := s.advance clk) hhere hother
    exact ⟨_, rfl, congrArg BridgeSt.challenges hbridge, congrArg BridgeSt.leaseEnd hbridge⟩
  case challenged =>
    intro clk node member challenge key s hrun hkey
    have hrun' : (s.advance clk).running pBRIDGE = true := hrun
    have hkey' : (s.advance clk).leaseKey = some key := hkey
    refine ⟨_, rfl, ?_⟩
    simp [State.leaseAnswer, hrun', hkey', State.mgrPut]
  case proved =>
    intro clk node member proof key x s hhere hother hkey hchallenge hproof
    have hnext : (s.advance clk).leaseProof node member proof = ((s.advance clk).dropChallenge node member).leaseGo node member := by
      have hhere' : (s.advance clk).leaseHere = true := hhere
      have hchallenge' : (s.advance clk).challengeOf node member = some x := hchallenge
      rw [State.leaseProof, if_neg (by simp [hhere']), hchallenge']
      exact leaseJudge_right (s := (s.advance clk).dropChallenge node member) hother hkey hproof
    obtain ⟨hheld, hnode, hmember, hevent⟩ := leaseGo_shows ((s.advance clk).dropChallenge node member) node member
    have hbridge := leaseGo_bridge ((s.advance clk).dropChallenge node member) node member
    exact ⟨_, next_of_eq hnext rfl, hheld, hnode, hmember, congrArg BridgeSt.challenges hbridge, congrArg BridgeSt.leaseEnd hbridge, hevent⟩
  case proofRefused =>
    intro clk node member proof s hhere hother
    have hhere' : (s.advance clk).leaseHere = true := hhere
    obtain ⟨reason, hrefused⟩ := leaseJudge_refused (s := (s.advance clk).dropChallenge node member) (node := node) (member := member)
      (c := (s.advance clk).challengeOf node member) (proof := proof) (.inl hother)
    have hnext : (s.advance clk).leaseProof node member proof = ((s.advance clk).dropChallenge node member).leaseRefuse node member reason := by
      rw [State.leaseProof, if_neg (by simp [hhere']), hrefused]
    have hbridge : (((s.advance clk).dropChallenge node member).leaseRefuse node member reason).bridge =
        ((s.advance clk).dropChallenge node member).bridge := sendMgmt_bridge _ _ _ _ _ _
    exact ⟨_, next_of_eq hnext rfl, get_sendMgmt _ _ _ _ _ _ (by decide), by rw [hbridge]; rfl⟩
  case granted =>
    intro clk node member seconds next s hrun hany
    have hrun' : (s.advance clk).running pBRIDGE = true := hrun
    refine ⟨_, rfl, ?_⟩
    simp only [State.leaseGranted, hrun', State.advance_bridge, hany]
    exact ⟨rfl, rfl⟩
  case renewed =>
    intro clk node member proof key x s hhere hholds hkey hnextChallenge hyoung hproof
    have hhere' : (s.advance clk).leaseHere = true := hhere
    have hholds' : (s.advance clk).holdsLease node member = true := hholds
    have hrenewable : (s.advance clk).renewable = some x := by
      simp [State.renewable, hnextChallenge]
      omega
    have hnext : (s.advance clk).leaseRenew node member proof = (s.advance clk).leaseGo node member := by
      rw [State.leaseRenew, if_neg (by simp [hhere']), if_pos hholds', hrenewable]
      exact leaseJudge_right (s := s.advance clk) (otherHolds_of_holdsLease hholds') hkey hproof
    obtain ⟨hheld, -, -, -⟩ := leaseGo_shows (s.advance clk) node member
    have hbridge := leaseGo_bridge (s.advance clk) node member
    exact ⟨_, next_of_eq hnext rfl, hheld, congrArg BridgeSt.leaseEnd hbridge, congrArg BridgeSt.nextChallenge hbridge⟩
  case tooLate =>
    intro clk node member proof x s hhere hholds hold
    obtain ⟨hnextChallenge, hold⟩ := hold
    have hhere' : (s.advance clk).leaseHere = true := hhere
    have hholds' : (s.advance clk).holdsLease node member = true := hholds
    have hnone : (s.advance clk).renewable = none := by
      simp [State.renewable, hnextChallenge]
      omega
    obtain ⟨reason, hrefused⟩ := leaseJudge_refused (s := s.advance clk) (node := node) (member := member) (c := none) (proof := proof)
      (.inr rfl)
    have hnext : (s.advance clk).leaseRenew node member proof = (s.advance clk).leaseRefuse node member reason := by
      rw [State.leaseRenew, if_neg (by simp [hhere']), if_pos hholds', hnone, hrefused]
    have hbridge : ((s.advance clk).leaseRefuse node member reason).bridge = s.bridge := sendMgmt_bridge _ _ _ _ _ _
    refine ⟨_, next_of_eq hnext rfl, by rw [hbridge], by rw [hbridge, hnextChallenge], ?_⟩
    exact get_sendMgmt _ _ _ _ _ _ (by decide)
  case released =>
    intro clk node member s hrun hholds
    have hrun' : (s.advance clk).running pBRIDGE = true := hrun
    have hholds' : (s.advance clk).holdsLease node member = true := hholds
    have hheld : (s.advance clk).flag pBRIDGE F.BRIDGE.MGRSTS.HELD = true := by
      simp only [State.holdsLease, Bool.and_eq_true] at hholds'
      exact hholds'.1.1
    have hnext : (s.advance clk).leaseReleased node member = (s.advance clk).leaseOver.mgrEnd node member := by
      rw [State.leaseReleased, if_neg (by simp [hrun']), if_pos hholds']
    obtain ⟨hfree, hevent, hbridge, -⟩ := leaseOver_shows hheld
    refine ⟨_, next_of_eq hnext rfl, ?_, ?_, ?_, ?_⟩
    · exact (State.get_with_bridge _ _ _ _).trans hfree
    · exact congrArg BridgeSt.leaseEnd hbridge
    · exact congrArg (fun b => mgrDrop node member b.mgrOf) hbridge
    · exact (State.get_with_bridge _ _ _ _).trans hevent
  case refused =>
    intro clk node member reason s
    exact ⟨_, rfl, rfl, rfl⟩
  case expires =>
    intro e s hend hheld
    obtain ⟨hfree, hevent, hbridge, hclock⟩ := leaseOver_shows (s := s.advance e) hheld
    have hnext : (match s.bridge.leaseEnd with
        | some t => (s.advance t).leaseOver
        | none => s) = (s.advance e).leaseOver := by rw [hend]
    exact ⟨_, next_of_eq hnext rfl, hfree, congrArg BridgeSt.leaseEnd hbridge, hevent, hclock⟩
  case oldest =>
    intro x l s hchallenges hfirst
    refine ⟨_, rfl, ?_⟩
    cases hnext : s.bridge.nextChallenge with
    | none => simp [State.challengeOut, hchallenges, hnext]
    | some n => simp [State.challengeOut, hchallenges, hnext, hfirst n hnext]
  case lastGrant =>
    intro x s hnext hfirst
    refine ⟨_, rfl, ?_⟩
    cases hchallenges : s.bridge.challenges with
    | nil => simp [State.challengeOut, hchallenges, hnext]
    | cons c l =>
      have hlate : x.born < c.born := hfirst c (by simp [hchallenges])
      simp [State.challengeOut, hchallenges, hnext, Nat.not_le.mpr hlate]
  case dropped =>
    intro clk s haccepts hheld
    obtain ⟨hfree, hevent, hbridge, -⟩ := leaseOver_shows (s := s.advance clk) hheld
    exact ⟨_, next_of_eq (State.bitWrite_accepts haccepts) rfl, hfree, congrArg BridgeSt.leaseEnd hbridge, hevent⟩

end Sys2Proof.ManagementLease
end

section
/-!
PROOFS. The Monument's operations (R473–R488): the write of CMD starts an operation, whose result its row of R481 gives once its tests pass;
the write itself moves CMD alone, which no operation reads.
-/

open Sys2Proof Sys2Proof.Machine Sys2Proof.Laws

namespace Sys2Proof.Monument

variable {s : State} {op : Nat} {stage : Bool}

/-! The write of CMD (R480). -/

/-- The Monument with an operation written into CMD. -/
def commanded (s : State) (op : Nat) (stage : Bool) : State :=
  (s.set pMONUMENT F.MONUMENT.CMD.OP op).setB pMONUMENT F.MONUMENT.CMD.STAGE stage

@[simp] theorem commanded_mon (s : State) (op : Nat) (stage : Bool) : (commanded s op stage).mon = s.mon := by simp [commanded, State.setB]
@[simp] theorem commanded_pwr (s : State) (op : Nat) (stage : Bool) : (commanded s op stage).pwr = s.pwr := by simp [commanded, State.setB]
@[simp] theorem commanded_clock (s : State) (op : Nat) (stage : Bool) : (commanded s op stage).clock = s.clock := by simp [commanded, State.setB]
@[simp] theorem commanded_freeCtr (s : State) (op : Nat) (stage : Bool) : (commanded s op stage).freeCtr = s.freeCtr := by
  simp [commanded, State.setB]

theorem get_commanded (s : State) (op : Nat) (stage : Bool) {p : Nat} {f : Fld} (hf : f.fits = true)
    (hop : Fld.apart pMONUMENT F.MONUMENT.CMD.OP p f = true) (hstage : Fld.apart pMONUMENT F.MONUMENT.CMD.STAGE p f = true) :
    (commanded s op stage).get p f = s.get p f := by
  rw [commanded, State.setB, State.get_set_apart _ _ _ _ _ _ hstage (by decide) hf, State.get_set_apart _ _ _ _ _ _ hop (by decide) hf]

/-- CMD is a word of its own. -/
theorem rd_commanded (s : State) (op : Nat) (stage : Bool) {o : Nat} (ho : o < 4096) (hcmd : 0x4C ≤ o) :
    (commanded s op stage).rd pMONUMENT o = s.rd pMONUMENT o := by
  have hop : F.MONUMENT.CMD.OP.off + 4 * F.MONUMENT.CMD.OP.words ≤ o := hcmd
  have hstage : F.MONUMENT.CMD.STAGE.off + 4 * F.MONUMENT.CMD.STAGE.words ≤ o := hcmd
  rw [commanded, State.setB, State.rd_set_ne _ _ _ _ (by decide) ho (.inr (.inr hstage)),
    State.rd_set_ne _ _ _ _ (by decide) ho (.inr (.inr hop))]

theorem monBytes_commanded (s : State) (op : Nat) (stage : Bool) (n : Nat) : (commanded s op stage).monBytes n = s.monBytes n := by
  unfold State.monBytes
  congr 1
  refine List.flatMap_congr fun w hw => ?_
  have hw' := List.mem_range.mp hw
  rw [rd_commanded s op stage (by omega) (by omega)]

theorem rd_commanded_data (s : State) (op : Nat) (stage : Bool) : (commanded s op stage).rd pMONUMENT 0x400 = s.rd pMONUMENT 0x400 :=
  rd_commanded s op stage (by decide) (by decide)
theorem rd_commanded_data4 (s : State) (op : Nat) (stage : Bool) : (commanded s op stage).rd pMONUMENT 0x404 = s.rd pMONUMENT 0x404 :=
  rd_commanded s op stage (by decide) (by decide)

/-! No operation reads CMD. -/

theorem key_commanded (s : State) (op : Nat) (stage : Bool) (i : Nat) : (commanded s op stage).key i = s.key i := by
  rw [State.key, commanded_mon, State.key]
theorem freeVal_commanded (s : State) (op : Nat) (stage : Bool) (w : Nat) : (commanded s op stage).freeVal w = s.freeVal w := by
  rw [State.freeVal, commanded_freeCtr, State.freeVal]
theorem rtcNow_commanded (s : State) (op : Nat) (stage : Bool) : (commanded s op stage).rtcNow = s.rtcNow := by
  rw [State.rtcNow, commanded_mon, commanded_clock, State.rtcNow]
theorem lcIn_commanded (s : State) (op : Nat) (stage : Bool) (l : List Nat) : (commanded s op stage).lcIn l = s.lcIn l := by
  rw [State.lcIn, commanded_mon, State.lcIn]
theorem emptySlots_commanded (s : State) (op : Nat) (stage : Bool) : (commanded s op stage).emptySlots = s.emptySlots := by
  simp only [State.emptySlots, key_commanded]
theorem handleOf_commanded (s : State) (op : Nat) (stage : Bool) (h : Nat) : (commanded s op stage).handleOf h = s.handleOf h := by
  simp only [State.handleOf]
  rw [key_commanded]
theorem rnd_commanded (s : State) (op : Nat) (stage : Bool) (n : Nat) : (commanded s op stage).rnd n = s.rnd n := by
  rw [State.rnd, freeVal_commanded, State.rnd]
theorem rndTag_commanded (s : State) (op : Nat) (stage : Bool) (j : Nat) : (commanded s op stage).rndTag j = s.rndTag j := by
  rw [State.rndTag, freeVal_commanded, State.rndTag]
theorem rndSlot_commanded (s : State) (op : Nat) (stage : Bool) (j : Nat) : (commanded s op stage).rndSlot j = s.rndSlot j := by
  rw [State.rndSlot, emptySlots_commanded, freeVal_commanded, State.rndSlot]
theorem stateOk_commanded (s : State) (op : Nat) (stage : Bool) (a : Nat) : (commanded s op stage).stateOk a = s.stateOk a := by
  rw [State.stateOk, commanded_mon, State.stateOk]
theorem mayUse_commanded (s : State) (op : Nat) (stage : Bool) (k : KeySlot) (u : Nat) :
    (commanded s op stage).mayUse k u = s.mayUse k u := by
  rw [State.mayUse, stateOk_commanded, State.mayUse]
theorem madeAttr_commanded (s : State) (op : Nat) (stage : Bool) (a o : Nat) : (commanded s op stage).madeAttr a o = s.madeAttr a o := by
  simp only [State.madeAttr, commanded_mon]

theorem monLen_commanded (s : State) (op : Nat) (stage : Bool) : (commanded s op stage).monLen = s.monLen :=
  get_commanded s op stage (by decide) (by decide) (by decide)
theorem monAttr_commanded (s : State) (op : Nat) (stage : Bool) : (commanded s op stage).monAttr = s.monAttr :=
  get_commanded s op stage (by decide) (by decide) (by decide)
theorem srcHandle_commanded (s : State) (op : Nat) (stage : Bool) : (commanded s op stage).srcHandle = s.srcHandle :=
  get_commanded s op stage (by decide) (by decide) (by decide)
theorem dstHandle_commanded (s : State) (op : Nat) (stage : Bool) : (commanded s op stage).dstHandle = s.dstHandle :=
  get_commanded s op stage (by decide) (by decide) (by decide)
theorem monSrc_commanded (s : State) (op : Nat) (stage : Bool) : (commanded s op stage).monSrc = s.monSrc :=
  (handleOf_commanded s op stage _).trans (congrArg s.handleOf (srcHandle_commanded s op stage))
theorem monDst_commanded (s : State) (op : Nat) (stage : Bool) : (commanded s op stage).monDst = s.monDst :=
  (handleOf_commanded s op stage _).trans (congrArg s.handleOf (dstHandle_commanded s op stage))
theorem monIn_commanded (s : State) (op : Nat) (stage : Bool) : (commanded s op stage).monIn = s.monIn := by
  rw [State.monIn, monBytes_commanded, monLen_commanded, State.monIn]
theorem trngOk_commanded (s : State) (op : Nat) (stage : Bool) : (commanded s op stage).trngOk = s.trngOk := by
  rw [State.trngOk, State.flag, get_commanded s op stage (by decide) (by decide) (by decide), freeVal_commanded, State.trngOk, State.flag]
theorem monReady_commanded (s : State) (op : Nat) (stage : Bool) : (commanded s op stage).monReady = s.monReady := by
  rw [State.monReady, get_commanded s op stage (by decide) (by decide) (by decide), State.monReady]
theorem mkaAttr_commanded (s : State) (op : Nat) (stage : Bool) (o u : Nat) : (commanded s op stage).mkaAttr o u = s.mkaAttr o u := by
  rw [State.mkaAttr, monAttr_commanded, madeAttr_commanded, State.mkaAttr]
theorem macOk_commanded (s : State) (op : Nat) (stage : Bool) : (commanded s op stage).macOk = s.macOk := by
  rw [State.macOk, monSrc_commanded, mayUse_commanded, mayUse_commanded, State.macOk]
theorem lead_commanded (s : State) (op : Nat) (stage : Bool) (l : List Nat) (b : Bool) :
    (commanded s op stage).lead l b = s.lead l b := by
  rw [State.lead, lcIn_commanded, monReady_commanded, monLen_commanded, State.lead]
theorem place_commanded (s : State) (op : Nat) (stage : Bool) (st : Bool) (key : List Byte) (attr : Nat) (proven : Bool) (out : List Byte) :
    (commanded s op stage).place st key attr proven out = s.place st key attr proven out := by
  simp only [State.place, monDst_commanded, rndSlot_commanded, rndTag_commanded]
theorem placeTests_commanded (s : State) (op : Nat) (stage : Bool) (st : Bool) :
    (commanded s op stage).placeTests st = s.placeTests st := by
  simp (disch := decide) only [State.placeTests, monDst_commanded, trngOk_commanded, emptySlots_commanded, get_commanded]
theorem statement_commanded (s : State) (op : Nat) (stage : Bool) (k : KeySlot) : (commanded s op stage).statement k = s.statement k := by
  simp only [State.statement, dstHandle_commanded, monIn_commanded, rtcNow_commanded, commanded_mon, commanded_pwr]

/-! No operation reads CMD. -/

theorem opDerive_commanded (s : State) (op : Nat) (stage st : Bool) : (commanded s op stage).opDerive st = s.opDerive st := by
  simp only [State.opDerive, madeAttr_commanded, commanded_mon, commanded_pwr, lead_commanded, monLen_commanded,
    monAttr_commanded, placeTests_commanded, place_commanded, monIn_commanded]
theorem opGenerate_commanded (s : State) (op : Nat) (stage st : Bool) : (commanded s op stage).opGenerate st = s.opGenerate st := by
  simp only [State.opGenerate, rnd_commanded, madeAttr_commanded, place_commanded, lead_commanded, monAttr_commanded,
    placeTests_commanded, trngOk_commanded]
theorem opGenIdent_commanded (s : State) (op : Nat) (stage : Bool) : (commanded s op stage).opGenIdent = s.opGenIdent := by
  simp only [State.opGenIdent, key_commanded, rnd_commanded, rndTag_commanded, lead_commanded, trngOk_commanded]
theorem opImport_commanded (s : State) (op : Nat) (stage st : Bool) : (commanded s op stage).opImport st = s.opImport st := by
  simp only [State.opImport, commanded_mon, madeAttr_commanded, lead_commanded, monLen_commanded, monAttr_commanded,
    placeTests_commanded, place_commanded, monIn_commanded]
theorem opUnwrap_commanded (s : State) (op : Nat) (stage st : Bool) : (commanded s op stage).opUnwrap st = s.opUnwrap st := by
  simp only [State.opUnwrap, mayUse_commanded, madeAttr_commanded, monIn_commanded, monSrc_commanded, monAttr_commanded,
    lead_commanded, monLen_commanded, placeTests_commanded, place_commanded]
theorem opWrap_commanded (s : State) (op : Nat) (stage : Bool) : (commanded s op stage).opWrap = s.opWrap := by
  simp only [State.opWrap, stateOk_commanded, mayUse_commanded, monDst_commanded, monSrc_commanded, monIn_commanded,
    lead_commanded, monLen_commanded]
theorem opMac_commanded (s : State) (op : Nat) (stage : Bool) : (commanded s op stage).opMac = s.opMac := by
  simp only [State.opMac, lead_commanded, monSrc_commanded, macOk_commanded, srcHandle_commanded, monIn_commanded]
theorem opMacVerify_commanded (s : State) (op : Nat) (stage : Bool) : (commanded s op stage).opMacVerify = s.opMacVerify := by
  simp only [State.opMacVerify, lead_commanded, monLen_commanded, monSrc_commanded, macOk_commanded, monIn_commanded, srcHandle_commanded]
theorem opSign_commanded (s : State) (op : Nat) (stage : Bool) : (commanded s op stage).opSign = s.opSign := by
  simp only [State.opSign, mayUse_commanded, rnd_commanded, lead_commanded, monLen_commanded, monSrc_commanded, trngOk_commanded,
    srcHandle_commanded, monIn_commanded]
theorem opPubkey_commanded (s : State) (op : Nat) (stage : Bool) : (commanded s op stage).opPubkey = s.opPubkey := by
  simp only [State.opPubkey, stateOk_commanded, lead_commanded, monSrc_commanded, srcHandle_commanded]
theorem opAttest_commanded (s : State) (op : Nat) (stage : Bool) : (commanded s op stage).opAttest = s.opAttest := by
  simp only [State.opAttest, key_commanded, rnd_commanded, monDst_commanded, statement_commanded, lead_commanded,
    monLen_commanded, trngOk_commanded, dstHandle_commanded]
theorem opProve_commanded (s : State) (op : Nat) (stage : Bool) : (commanded s op stage).opProve = s.opProve := by
  simp only [State.opProve, monDst_commanded, dstHandle_commanded, lead_commanded, monLen_commanded, monIn_commanded]
theorem opCommit_commanded (s : State) (op : Nat) (stage : Bool) : (commanded s op stage).opCommit = s.opCommit := by
  simp only [State.opCommit, lead_commanded, monDst_commanded, dstHandle_commanded,
    get_commanded s op stage (p := pTALLY) (f := F.TALLY.STS.PLAN) (by decide) (by decide) (by decide)]
theorem opDiscard_commanded (s : State) (op : Nat) (stage : Bool) : (commanded s op stage).opDiscard = s.opDiscard := by
  simp only [State.opDiscard, monDst_commanded, lead_commanded, dstHandle_commanded]
theorem opErase_commanded (s : State) (op : Nat) (stage : Bool) : (commanded s op stage).opErase = s.opErase := by
  simp only [State.opErase, lead_commanded, monDst_commanded, dstHandle_commanded]
theorem opInfo_commanded (s : State) (op : Nat) (stage : Bool) : (commanded s op stage).opInfo = s.opInfo := by
  simp only [State.opInfo, monDst_commanded, dstHandle_commanded]
theorem opTransition_commanded (s : State) (op : Nat) (stage : Bool) : (commanded s op stage).opTransition = s.opTransition := by
  simp only [State.opTransition, commanded_mon, rnd_commanded, monLen_commanded, trngOk_commanded, rd_commanded_data,
    rd_commanded_data4, State.flag, State.flag, get_commanded s op stage (p := pSUPPLY) (f := F.SUPPLY.STS.A_VALID) (by decide) (by decide) (by decide),
    get_commanded s op stage (p := pSUPPLY) (f := F.SUPPLY.STS.B_VALID) (by decide) (by decide) (by decide)]
theorem opMkaKdf_commanded (s : State) (op : Nat) (stage : Bool) : (commanded s op stage).opMkaKdf = s.opMkaKdf := by
  simp only [State.opMkaKdf, emptySlots_commanded, rndSlot_commanded, freeVal_commanded, rndTag_commanded, stateOk_commanded,
    monSrc_commanded, monIn_commanded, mkaAttr_commanded, lead_commanded, monLen_commanded, monAttr_commanded, trngOk_commanded]
theorem opMkaIcv_commanded (s : State) (op : Nat) (stage : Bool) : (commanded s op stage).opMkaIcv = s.opMkaIcv := by
  simp only [State.opMkaIcv, mayUse_commanded, lead_commanded, monSrc_commanded, srcHandle_commanded, monIn_commanded]
theorem opMkaUnwrap_commanded (s : State) (op : Nat) (stage : Bool) : (commanded s op stage).opMkaUnwrap = s.opMkaUnwrap := by
  simp only [State.opMkaUnwrap, mayUse_commanded, monSrc_commanded, monIn_commanded, lead_commanded, monLen_commanded,
    monAttr_commanded, placeTests_commanded, place_commanded, mkaAttr_commanded]

theorem monResult_commanded (s : State) (o : Nat) (st : Bool) (op : Nat) (stage : Bool) :
    (commanded s o st).monResult op stage = s.monResult op stage := by
  simp only [State.monResult, opDerive_commanded, opGenerate_commanded, opGenIdent_commanded, opImport_commanded, opUnwrap_commanded, 
    opWrap_commanded, opMac_commanded, opMacVerify_commanded, opSign_commanded, opPubkey_commanded, 
    opAttest_commanded, opProve_commanded, opCommit_commanded, opDiscard_commanded, opErase_commanded, 
    opInfo_commanded, opTransition_commanded, opMkaKdf_commanded, opMkaIcv_commanded, opMkaUnwrap_commanded]

/-- What the write of CMD that starts an operation leaves (R480): the operation with the result of its row, and BUSY. -/
structure Begun (s t : State) (op : Nat) (r : MonRes) : Prop where
  op_eq : t.mon.op = some ⟨s.clock, op, r.code, r.handle, r.out, r.writes, r.target, r.root⟩
  busy : t.get pMONUMENT F.MONUMENT.STS.BUSY = 1
  request : op = 0x0D → r.code = 0 → t.mon.request = some (slotI s.monDst, s.clock)
  slots : t.mon.slots = s.mon.slots
  fuse : t.mon.fuse = s.mon.fuse

theorem monBegin_begun (h : s.mon.zeroing = none) : Begun s (s.monBegin op stage) op (s.monResult op stage) := by
  have hfin : s.finishCommit = s := by simp only [State.finishCommit, h]
  unfold State.monBegin
  rw [hfin]
  refine ⟨rfl, ?_, fun hop hcode => ?_, ?_, ?_⟩
  · change State.get (ite _ _ _) pMONUMENT F.MONUMENT.STS.BUSY = 1
    split
    · rw [State.get_set_apart _ _ _ _ _ _ (by decide) (by decide) (by decide), State.get_set_same _ _ _ _ (by decide)]; rfl
    · rw [State.get_set_same _ _ _ _ (by decide)]; rfl
  · exact if_pos ⟨hop, hcode⟩
  · change (ite _ _ _ : State).mon.slots = _
    split <;> rfl
  · change (ite _ _ _ : State).mon.fuse = _
    split <;> rfl

theorem monCmd_begun {clk : Nat} (ha : (s.advance clk).accepts pMONUMENT = true)
    (hidle : s.running pMONUMENT = true ∧ s.held pMONUMENT = false ∧ s.get pMONUMENT F.MONUMENT.STS.BUSY = 0)
    (hz : s.mon.zeroing = none) :
    Begun (s.advance clk) ((s.advance clk).monCmd op stage) (op % 256) ((s.advance clk).monResult (op % 256) stage) := by
  obtain ⟨hrun, hheld, hbusy⟩ := hidle
  have hgo : (s.advance clk).monCmd op stage = (commanded (s.advance clk) (op % 256) stage).monBegin (op % 256) stage := by
    rw [State.monCmd, State.regWrite_accepts ha, State.monGo, if_neg, if_pos]
    · rfl
    · have hrun' : (commanded (s.advance clk) (op % 256) stage).running pMONUMENT = true := by
        rw [State.running, State.flag, get_commanded _ _ _ (by decide) (by decide) (by decide)]; exact hrun
      have hheld' : (commanded (s.advance clk) (op % 256) stage).held pMONUMENT = false := by
        rw [State.held, State.shedHeld, State.flag, get_commanded _ _ _ (by decide) (by decide) (by decide),
          get_commanded _ _ _ (by decide) (by decide) (by decide)]; exact hheld
      exact Bool.and_eq_true_iff.mpr ⟨hrun', by rw [Bool.not_eq_true']; exact hheld'⟩
    · have : (s.advance clk).flag pMONUMENT F.MONUMENT.STS.BUSY = false := by
        rw [State.flag]; exact (by simpa using hbusy)
      rw [this]; decide
  rw [hgo]
  have hbegun := monBegin_begun (s := commanded (s.advance clk) (op % 256) stage) (op := op % 256) (stage := stage)
    (by rw [commanded_mon]; exact hz)
  rw [monResult_commanded] at hbegun
  exact ⟨hbegun.op_eq, hbegun.busy, fun hop hcode => (hbegun.request hop hcode).trans (by rw [monDst_commanded]; rfl), hbegun.slots,
    hbegun.fuse⟩

/-- A handle that names a slot is the slot's own. -/
theorem handle_of_found {h i : Nat} {k : KeySlot} (hf : s.handleOf h = some (i, k)) : handleNo i k = h := by
  simp only [State.handleOf] at hf
  split at hf
  case isTrue hguard =>
    obtain ⟨-, -, -, -, htag⟩ := hguard
    obtain ⟨rfl, rfl⟩ := Prod.mk.injEq .. ▸ Option.some.inj hf
    rw [handleNo, htag]
    omega
  case isFalse => cases hf

/-! The tests of an operation (R481). -/

/-- Tests that pass hand over to those after them. -/
theorem firstCode_append {l m : List (Bool × Nat)} (hl : firstCode l = 0) (hcodes : ∀ x ∈ l, x.2 ≠ 0) :
    firstCode (l ++ m) = firstCode m := by
  induction l with
  | nil => rfl
  | cons x xs ih =>
    obtain ⟨b, c⟩ := x
    have hb : b = false := by
      by_contra hb
      rw [Bool.not_eq_false] at hb
      exact hcodes (b, c) (List.mem_cons_self ..) (by simpa [firstCode, hb] using hl)
    simp only [hb, firstCode, List.cons_append, Bool.false_eq_true, if_false] at hl ⊢
    exact ih hl fun x hx => hcodes x (List.mem_cons_of_mem _ hx)

theorem placeTests_codes (s : State) (stage : Bool) : ∀ x ∈ s.placeTests stage, x.2 ≠ 0 := by
  unfold State.placeTests
  cases stage
  · simp only [Bool.false_eq_true, if_false, List.mem_cons, List.not_mem_nil, or_false]
    rintro x (rfl | rfl | rfl)
    · change (if _ then 1 else 7) ≠ 0
      split <;> decide
    · exact Nat.succ_ne_zero 5
    · exact Nat.succ_ne_zero 11
  · simp

/-- Tests of the destination that pass hand over to those after them. -/
theorem firstCode_placeTests {l : List (Bool × Nat)} (h : firstCode (s.placeTests stage) = 0) :
    firstCode (s.placeTests stage ++ l) = firstCode l := firstCode_append h (placeTests_codes s stage)

/-- The leading tests pass in a state of the list, with COND at READY and a length that fits. -/
theorem firstCode_lead {l : List Nat} {lenOk : Bool} {m : List (Bool × Nat)} (hlc : s.lcIn l = true) (hready : s.monReady = true)
    (hlen : s.monLen ≤ 512) (hok : lenOk = true) : firstCode (s.lead l lenOk ++ m) = firstCode m := by
  simp [State.lead, hlc, hready, hok, Nat.not_lt.mpr hlen, firstCode]

theorem lcIn_use (h : 2 ≤ s.mon.fuse ∧ s.mon.fuse ≤ 4) : s.lcIn [2, 3, 4] = true := by
  have : s.mon.fuse = 2 ∨ s.mon.fuse = 3 ∨ s.mon.fuse = 4 := by omega
  rcases this with h | h | h <;> simp [State.lcIn, h]

theorem monTest_pass {l : List (Bool × Nat)} (h : firstCode l = 0) (r : MonRes) : monTest l r = r := if_pos h
theorem monTest_fail {l : List (Bool × Nat)} {c : Nat} (h : firstCode l = c) (hc : c ≠ 0) (r : MonRes) : monTest l r = monEnd c := by
  subst h; exact if_neg hc

/-- A key placed is no error, no transition and no root. -/
theorem place_plain (s : State) (stage : Bool) (key : List Byte) (attr : Nat) (proven : Bool) (out : List Byte) :
    (s.place stage key attr proven out).code = 0 ∧ (s.place stage key attr proven out).target = 0 ∧
      (s.place stage key attr proven out).root = [] := by
  cases stage <;> exact ⟨rfl, rfl, rfl⟩

end Sys2Proof.Monument

namespace Sys2Proof.Monument

variable {s : State} {clk op : Nat} {stage : Bool}

/-- An operation begins with the result that its row gives on these inputs. -/
theorem exec_begun {c : Instr} {r : MonRes} (ha : (s.advance clk).accepts pMONUMENT = true)
    (hidle : s.running pMONUMENT = true ∧ s.held pMONUMENT = false ∧ s.get pMONUMENT F.MONUMENT.STS.BUSY = 0)
    (hz : s.mon.zeroing = none) (hexec : exec c s = .next ((s.advance clk).monCmd op stage))
    (hr : (s.advance clk).monResult (op % 256) stage = r) :
    ∃ t, exec c s = .next t ∧ Begun (s.advance clk) t (op % 256) r :=
  ⟨_, hexec, hr ▸ monCmd_begun ha hidle hz⟩

theorem opDerive_passes (hready : s.monReady = true) (hlc : 2 ≤ s.mon.fuse ∧ s.mon.fuse ≤ 4) (hlen : 1 ≤ s.monLen ∧ s.monLen ≤ 64)
    (hattr : attrBad s.monAttr 2 = false) (hplace : firstCode (s.placeTests stage) = 0) :
    s.opDerive stage = s.place stage ((Config.hmacSha384 (tabGet (fun _ => []) s.mon.roots s.mon.fuse)
      (beBytes 4 1 ++ s.monIn ++ [0] ++ beBytes 8 s.pwr.serial ++ beBytes 1 s.mon.fuse ++ beBytes 4 256)).take 32)
      (s.madeAttr s.monAttr 2) true [] := by
  refine monTest_pass ?_ _
  rw [List.append_assoc, firstCode_lead (lcIn_use hlc) hready (by omega) (by simp [hlen]), hattr]
  exact hplace

theorem opGenerate_passes (hready : s.monReady = true) (hlc : 2 ≤ s.mon.fuse ∧ s.mon.fuse ≤ 4) (hlen : s.monLen ≤ 512)
    (hattr : attrBad s.monAttr 3 = false) (hplace : firstCode (s.placeTests stage) = 0) (htrng : s.trngOk = true) :
    s.opGenerate stage =
      { s.place stage (s.rnd 32) (s.madeAttr s.monAttr 3) true (pubOf s.monAttr (s.rnd 32)) with random := true } := by
  refine monTest_pass ?_ _
  rw [List.append_assoc, List.append_assoc, firstCode_lead (lcIn_use hlc) hready hlen rfl, hattr, htrng]
  exact firstCode_placeTests hplace

theorem opGenIdent_passes (hready : s.monReady = true) (hlc : s.mon.fuse = 2) (hlen : s.monLen ≤ 512) (hone : (s.key 1).filled = false)
    (htrng : s.trngOk = true) :
    s.opGenIdent = { monOut (s.rndTag 0 * 256 + 1) (Config.ecdsaPub (s.rnd 32)) with
      code := 0, writes := [(1, fillSlot (s.rnd 32) 0x33780004 (s.rndTag 0))], random := true } := by
  have hlead : s.lcIn [2] = true := by simp [State.lcIn, hlc]
  refine (monTest_pass ?_ _).trans ?_
  · rw [firstCode_lead hlead hready hlen rfl, hone, htrng]; rfl
  · have htag : (fillSlot (s.rnd 32) 0x33780004 (s.rndTag 0)).tag = s.rndTag 0 := by
      have hlt : s.rndTag 0 < 256 := by unfold State.rndTag; omega
      simp only [KeySlot.tag, fillSlot, commitWord, natField]
      omega
    simp only [handleNo, htag]; rfl

theorem opImport_passes (hready : s.monReady = true) (hlc : s.mon.fuse = 2) (hlen : s.monLen = 32)
    (hattr : attrBad s.monAttr 0 = false) (hplace : firstCode (s.placeTests stage) = 0) :
    s.opImport stage = s.place stage s.monIn (s.madeAttr s.monAttr 0) false [] := by
  have hlead : s.lcIn [2] = true := by simp [State.lcIn, hlc]
  refine monTest_pass ?_ _
  rw [List.append_assoc, List.append_assoc, firstCode_append (by simp [firstCode, hlc]) (by simp),
    firstCode_lead hlead hready (by omega) (by simp [hlen]), hattr]
  exact hplace

theorem opUnwrap_result {i : Nat} {k : KeySlot} (hready : s.monReady = true) (hlc : s.mon.fuse = 2 ∨ s.mon.fuse = 3)
    (hlen : s.monLen = 60) (hattr : attrBad s.monAttr 1 = false) (hsrc : s.monSrc = some (i, k)) (huse : s.mayUse k useWRAP = true)
    (hplace : firstCode (s.placeTests stage) = 0) :
    s.opUnwrap stage = match Config.gcmOpen k.key (s.monIn.take 12) (leBytes 4 s.monAttr) ((s.monIn.drop 12).take 32) (s.monIn.drop 44) with
      | none => monEnd 8
      | some p => s.place stage p (s.madeAttr s.monAttr 1) false [] := by
  have hlead : s.lcIn [2, 3] = true := by rcases hlc with h | h <;> simp [State.lcIn, h]
  have hpeel (b : Bool) : firstCode (s.lead [2, 3] (s.monLen == 60) ++ [(s.monSrc.isNone, 1),
      (!s.mayUse (slotD s.monSrc) useWRAP, 2), (attrBad s.monAttr 1, 2)] ++ s.placeTests stage ++ [(b, 8)]) = if b then 8 else 0 := by
    rw [List.append_assoc, List.append_assoc, firstCode_lead hlead hready (by omega) (by simp [hlen]), hsrc, hattr]
    simp only [slotD, Option.map_some, Option.getD_some, huse]
    exact firstCode_placeTests hplace
  unfold State.opUnwrap
  simp only [hsrc, slotD, Option.map_some, Option.getD_some] at hpeel ⊢
  cases hopen : Config.gcmOpen k.key (s.monIn.take 12) (leBytes 4 s.monAttr) ((s.monIn.drop 12).take 32) (s.monIn.drop 44) with
  | none => exact monTest_fail (hpeel true) (by decide) _
  | some p => exact monTest_pass (hpeel false) _

theorem opProve_result {i : Nat} {k : KeySlot} (hready : s.monReady = true) (hlc : 2 ≤ s.mon.fuse ∧ s.mon.fuse ≤ 4) (hlen : s.monLen = 48)
    (hdst : s.monDst = some (i, k)) (hstage : k.stage % 4 ≠ 0) :
    s.opProve = if s.monIn = Config.hmacSha384 ((k.halfOf (k.stage % 4)).getD [])
          (([0x4D, 0x4F, 0x4E, 0x55, 0x4D, 0x45, 0x4E, 0x54, 0x20, 0x50, 0x52, 0x4F, 0x4F, 0x46] : List Byte) ++
            beBytes 2 s.dstHandle ++ beBytes 2 (k.gen + 1))
      then { monOut s.dstHandle [] with writes := [(i, { k with stage := k.stage % 4 + 4 })] }
      else { monEnd 5 with handle := s.dstHandle, writes := [(i, { k.setHalf (k.stage % 4) none with stage := 0 })] } := by
  unfold State.opProve
  simp only [hdst, slotD, slotI, Option.map_some, Option.getD_some]
  refine monTest_pass ?_ _
  rw [firstCode_lead (lcIn_use hlc) hready (by omega) (by simp [hlen])]
  simp [firstCode, hstage]

theorem opCommit_passes {i : Nat} {k : KeySlot} (hready : s.monReady = true) (hlc : 2 ≤ s.mon.fuse ∧ s.mon.fuse ≤ 4)
    (hlen : s.monLen ≤ 512) (hdst : s.monDst = some (i, k)) (hproven : natBit k.stage 2 = true)
    (hplan : s.get pTALLY F.TALLY.STS.PLAN ≠ 2) : s.opCommit = monOut s.dstHandle [] := by
  refine monTest_pass ?_ _
  rw [firstCode_lead (lcIn_use hlc) hready hlen rfl, hdst]
  simp [firstCode, slotD, hproven, hplan]

theorem opDiscard_passes {i : Nat} {k : KeySlot} (hready : s.monReady = true) (hlc : 2 ≤ s.mon.fuse ∧ s.mon.fuse ≤ 4)
    (hlen : s.monLen ≤ 512) (hdst : s.monDst = some (i, k)) (hstage : k.stage % 4 ≠ 0) :
    s.opDiscard = { monOut s.dstHandle [] with writes := [(i, { k.setHalf (k.stage % 4) none with stage := 0 })] } := by
  unfold State.opDiscard
  simp only [hdst, slotD, slotI, Option.map_some, Option.getD_some]
  refine monTest_pass ?_ _
  rw [firstCode_lead (lcIn_use hlc) hready hlen rfl]
  simp [firstCode, hstage]

theorem opErase_passes {i : Nat} {k : KeySlot} (hready : s.monReady = true) (hlc : 2 ≤ s.mon.fuse ∧ s.mon.fuse ≤ 4)
    (hlen : s.monLen ≤ 512) (hdst : s.monDst = some (i, k)) :
    s.opErase = { monOut s.dstHandle [] with writes := [(i, KeySlot.empty)] } := by
  unfold State.opErase
  simp only [hdst, slotI, Option.map_some, Option.getD_some]
  refine monTest_pass ?_ _
  rw [firstCode_lead (lcIn_use hlc) hready hlen rfl]
  rfl

theorem opTransition_passes {target : Nat} (hlen : s.monLen = 8) (htarget : s.rd pMONUMENT 0x400 = BitVec.ofNat 32 target ∧ target < 8)
    (hmagic : s.rd pMONUMENT 0x404 = 0x4C430001) (harrow : arrow s.mon.fuse target = true)
    (hsupply : s.get pSUPPLY F.SUPPLY.STS.A_VALID = 1 ∨ s.get pSUPPLY F.SUPPLY.STS.B_VALID = 1) (htrng : s.trngOk = true) :
    s.opTransition = { monEnd 0 with target := target, root := s.rnd 48, random := true } := by
  obtain ⟨hword, hlt⟩ := htarget
  have htgt : (s.rd pMONUMENT 0x400).toNat = target := by
    rw [hword, BitVec.toNat_ofNat]; exact Nat.mod_eq_of_lt (by omega)
  have hsupplied : (s.flag pSUPPLY F.SUPPLY.STS.A_VALID || s.flag pSUPPLY F.SUPPLY.STS.B_VALID) = true := by
    rcases hsupply with h | h <;> simp [State.flag, h]
  unfold State.opTransition
  simp only [htgt, hsupplied]
  refine monTest_pass ?_ _
  simp [firstCode, hlen, hmagic, harrow, htrng]

/-- An OP that no row names. -/
theorem monResult_reserved (h : op = 0 ∨ (17 < op ∧ op < 24) ∨ 26 < op) : s.monResult op stage = monEnd 0x0B := by
  unfold State.monResult
  split
  case h_21 => rfl
  all_goals omega

theorem Begun.of_random {t : State} {r : MonRes} {b : Bool} (h : Begun s t op { r with random := b }) : Begun s t op r :=
  ⟨h.op_eq, h.busy, h.request, h.slots, h.fuse⟩

theorem Begun.of_place {t : State} {key : List Byte} {attr : Nat} {proven : Bool} {out : List Byte}
    (h : Begun (s.advance clk) t op (s.place stage key attr proven out)) :
    t.mon.op = some (⟨max s.clock clk, op, 0, (s.place stage key attr proven out).handle, (s.place stage key attr proven out).out,
      (s.place stage key attr proven out).writes, 0, []⟩ : MonOp) := by
  obtain ⟨hcode, htarget, hroot⟩ := place_plain s stage key attr proven out
  have hop := h.op_eq
  simp only [hcode, htarget, hroot] at hop
  exact hop

end Sys2Proof.Monument

open Sys2Proof.Monument

/-- Settles O53: CMD is accepted, the tests of the row pass, and the operation begins with the row's result. -/
theorem monumentKeys : Obligations.MonumentKeys := by
  unfold Obligations.MonumentKeys
  refine ⟨?_, ?_, ?_, ?_, ?_, ?_, ?_, ?_, ?_, ?_, ?_, ?_⟩
  · intro clk stage s ha hidle hz hready hlc hlen hattr hplace
    obtain ⟨t, hexec, hb⟩ := exec_begun (c := .monumentDerive clk stage) (op := 1) ha hidle hz rfl
      (opDerive_passes (s := s) hready hlc hlen hattr hplace)
    exact ⟨t, hexec, Begun.of_place hb, hb.busy⟩
  · intro clk i k s ha hidle hz hready hlc hlen hattr hdst
    have hplace : firstCode (s.placeTests true) = 0 := by simp [State.placeTests, hdst, firstCode]
    obtain ⟨t, hexec, hb⟩ := exec_begun (c := .monumentDerive clk true) (op := 1) ha hidle hz rfl
      (opDerive_passes (s := s) hready hlc hlen hattr hplace)
    refine ⟨t, hexec, (Begun.of_place hb).trans ?_, hb.busy⟩
    simp only [State.place, hdst, slotD, slotI, Option.map_some, Option.getD_some, if_true]
    rw [handle_of_found hdst]; rfl
  · intro clk stage s ha hidle hz hready hlc hlen hattr hplace htrng
    obtain ⟨t, hexec, hb⟩ := exec_begun (c := .monumentGenerate clk stage) (op := 2) ha hidle hz rfl
      (opGenerate_passes (s := s) hready hlc hlen hattr hplace htrng)
    exact ⟨t, hexec, Begun.of_place hb.of_random, hb.busy⟩
  · intro clk s ha hidle hz hready hlc hlen hone htrng
    obtain ⟨t, hexec, hb⟩ := exec_begun (c := .monumentGenIdent clk) (op := 3) ha hidle hz rfl
      (opGenIdent_passes (s := s) hready hlc hlen hone htrng)
    exact ⟨t, hexec, hb.op_eq, hb.busy⟩
  · intro clk stage s ha hidle hz hready hlc hlen hattr hplace
    obtain ⟨t, hexec, hb⟩ := exec_begun (c := .monumentImport clk stage) (op := 4) ha hidle hz rfl
      (opImport_passes (s := s) hready hlc hlen hattr hplace)
    exact ⟨t, hexec, Begun.of_place hb, hb.busy⟩
  · intro clk stage i k s ha hidle hz hready hlc hlen hattr hsrc huse hplace
    obtain ⟨t, hexec, hb⟩ := exec_begun (c := .monumentUnwrap clk stage) (op := 5) ha hidle hz rfl
      (opUnwrap_result (s := s) hready hlc hlen hattr hsrc huse hplace)
    refine ⟨t, hexec, ?_, hb.busy⟩
    generalize Config.gcmOpen k.key (s.monIn.take 12) (leBytes 4 s.monAttr) ((s.monIn.drop 12).take 32) (s.monIn.drop 44) = opened at hb ⊢
    cases opened with
    | none => exact hb.op_eq
    | some p => exact Begun.of_place hb
  · intro clk i k s ha hidle hz hready hlc hlen hdst hstage
    obtain ⟨t, hexec, hb⟩ := exec_begun (c := .monumentProve clk) (op := 12) ha hidle hz rfl
      (opProve_result (s := s) hready hlc hlen hdst hstage)
    refine ⟨t, hexec, ?_, hb.busy⟩
    split at hb
    case isTrue htag => exact hb.op_eq.trans (if_pos htag).symm
    case isFalse htag => exact hb.op_eq.trans (if_neg htag).symm
  · intro clk i k s ha hidle hz hready hlc hlen hdst hproven hplan
    obtain ⟨t, hexec, hb⟩ := exec_begun (c := .monumentCommit clk) (op := 13) ha hidle hz rfl
      (opCommit_passes (s := s) hready hlc hlen hdst hproven hplan)
    refine ⟨t, hexec, hb.op_eq, hb.busy, (hb.request rfl rfl).trans ?_, hb.slots⟩
    change some (slotI s.monDst, max s.clock clk) = _
    rw [hdst]; rfl
  · intro clk i k s ha hidle hz hready hlc hlen hdst hstage
    obtain ⟨t, hexec, hb⟩ := exec_begun (c := .monumentDiscard clk) (op := 14) ha hidle hz rfl
      (opDiscard_passes (s := s) hready hlc hlen hdst hstage)
    exact ⟨t, hexec, hb.op_eq, hb.busy⟩
  · intro clk i k s ha hidle hz hready hlc hlen hdst
    obtain ⟨t, hexec, hb⟩ := exec_begun (c := .monumentErase clk) (op := 15) ha hidle hz rfl
      (opErase_passes (s := s) hready hlc hlen hdst)
    exact ⟨t, hexec, hb.op_eq, hb.busy⟩
  · intro clk target s ha hidle hz hlen htarget hmagic harrow hsupply htrng
    obtain ⟨t, hexec, hb⟩ := exec_begun (c := .monumentTransition clk) (op := 17) ha hidle hz rfl
      (opTransition_passes (s := s) hlen htarget hmagic harrow hsupply htrng)
    exact ⟨t, hexec, hb.op_eq, hb.busy, hb.fuse⟩
  · intro clk op s ha hidle hz hop
    obtain ⟨t, hexec, hb⟩ := exec_begun (c := .monumentOpReserved clk op) ha hidle hz rfl
      (monResult_reserved (s := s.advance clk) (stage := false) hop)
    exact ⟨t, hexec, hb.op_eq, hb.busy, hb.slots⟩

namespace Sys2Proof.Monument

variable {s : State} {i j : Nat} {d k : KeySlot}

theorem opWrap_passes (hready : s.monReady = true) (hlc : 2 ≤ s.mon.fuse ∧ s.mon.fuse ≤ 4) (hlen : s.monLen = 12)
    (hslots : s.monDst = some (i, d) ∧ s.monSrc = some (j, k))
    (huse : attrExport d.attr = true ∧ s.stateOk d.attr = true ∧ s.mayUse k useWRAP = true) :
    s.opWrap = monOut s.dstHandle (s.monIn ++ (Config.gcmSeal k.key s.monIn (leBytes 4 d.attr) d.key).1 ++
      (Config.gcmSeal k.key s.monIn (leBytes 4 d.attr) d.key).2) := by
  obtain ⟨hdst, hsrc⟩ := hslots
  obtain ⟨hexport, hstate, huse⟩ := huse
  unfold State.opWrap
  simp only [hdst, hsrc, slotD, slotI, Option.map_some, Option.getD_some]
  rw [handle_of_found hdst]
  refine monTest_pass ?_ _
  rw [firstCode_lead (lcIn_use hlc) hready (by omega) (by simp [hlen])]
  simp [firstCode, hexport, hstate, huse]

theorem macOk_of_use (hsrc : s.monSrc = some (i, k)) (huse : s.mayUse k useHMAC = true ∨ s.mayUse k useLEASE = true) :
    s.macOk = true := by
  rcases huse with h | h <;> simp [State.macOk, hsrc, slotD, h]

theorem opMac_passes (hready : s.monReady = true) (hlc : 2 ≤ s.mon.fuse ∧ s.mon.fuse ≤ 4) (hlen : s.monLen ≤ 512)
    (hsrc : s.monSrc = some (i, k)) (huse : s.mayUse k useHMAC = true ∨ s.mayUse k useLEASE = true) :
    s.opMac = monOut s.srcHandle (Config.hmacSha384 k.key s.monIn) := by
  unfold State.opMac
  simp only [macOk_of_use hsrc huse, hsrc, slotD, Option.map_some, Option.getD_some]
  refine monTest_pass ?_ _
  rw [firstCode_lead (lcIn_use hlc) hready hlen rfl]
  rfl

theorem opMacVerify_result (hready : s.monReady = true) (hlc : 2 ≤ s.mon.fuse ∧ s.mon.fuse ≤ 4) (hlen : 48 ≤ s.monLen ∧ s.monLen ≤ 512)
    (hsrc : s.monSrc = some (i, k)) (huse : s.mayUse k useHMAC = true ∨ s.mayUse k useLEASE = true) :
    s.opMacVerify = if s.monIn.take 48 = Config.hmacSha384 k.key (s.monIn.drop 48) then monOut s.srcHandle [] else monEnd 8 := by
  unfold State.opMacVerify
  simp only [macOk_of_use hsrc huse, hsrc, slotD, Option.map_some, Option.getD_some]
  have hpeel (b : Bool) : firstCode (s.lead [2, 3, 4] (decide (48 ≤ s.monLen)) ++ [(false, 1), (!true, 2), (b, 8)]) = if b then 8 else 0 := by
    rw [firstCode_lead (lcIn_use hlc) hready hlen.2 (by simp [hlen.1])]
    rfl
  split
  case isTrue htag => exact monTest_pass (by rw [htag]; simpa using hpeel false) _
  case isFalse htag => exact monTest_fail ((hpeel _).trans (by simp [htag])) (by decide) _

theorem opSign_passes (hready : s.monReady = true) (hlc : 2 ≤ s.mon.fuse ∧ s.mon.fuse ≤ 4) (hlen : s.monLen = 48)
    (hsrc : s.monSrc = some (i, k)) (huse : s.mayUse k useSIGN = true ∧ attrType k.attr = 3) (htrng : s.trngOk = true) :
    s.opSign = { monOut s.srcHandle (Config.ecdsaSign k.key s.monIn (s.rnd 48)) with random := true } := by
  unfold State.opSign
  simp only [hsrc, slotD, Option.map_some, Option.getD_some]
  refine monTest_pass ?_ _
  rw [firstCode_lead (lcIn_use hlc) hready (by omega) (by simp [hlen])]
  simp [firstCode, huse, htrng]

theorem opPubkey_passes (hready : s.monReady = true) (hlc : 2 ≤ s.mon.fuse ∧ s.mon.fuse ≤ 4) (hlen : s.monLen ≤ 512)
    (hsrc : s.monSrc = some (i, k)) (huse : s.stateOk k.attr = true ∧ attrType k.attr = 3) :
    s.opPubkey = monOut s.srcHandle (Config.ecdsaPub k.key) := by
  unfold State.opPubkey
  simp only [hsrc, slotD, Option.map_some, Option.getD_some]
  refine monTest_pass ?_ _
  rw [firstCode_lead (lcIn_use hlc) hready hlen rfl]
  simp [firstCode, huse]

theorem opAttest_passes (hready : s.monReady = true) (hlc : 2 ≤ s.mon.fuse ∧ s.mon.fuse ≤ 4) (hlen : s.monLen = 32)
    (hdst : s.monDst = some (i, k)) (hone : (s.key 1).filled = true) (hint : attrInternal k.attr = true) (htrng : s.trngOk = true) :
    s.opAttest = { monOut s.dstHandle (s.statement k ++
      Config.ecdsaSign (s.key 1).key (Config.sha384 (s.statement k)) (s.rnd 48)) with random := true } := by
  unfold State.opAttest
  simp only [hdst, slotD, Option.map_some, Option.getD_some]
  refine monTest_pass ?_ _
  rw [firstCode_lead (lcIn_use hlc) hready (by omega) (by simp [hlen])]
  simp [firstCode, hone, hint, htrng]

theorem opInfo_passes (hdst : s.monDst = some (i, k)) :
    s.opInfo = monOut s.dstHandle (leBytes 4 k.attr ++ leBytes 4 k.commit ++ leBytes 4 k.stage) := by
  simp [State.opInfo, hdst, slotD, monTest, firstCode]

theorem lcIn_mka (h : s.mon.fuse = 3) : s.lcIn [3] = true := by simp [State.lcIn, h]

theorem opMkaKdf_passes (hready : s.monReady = true) (hlc : s.mon.fuse = 3) (hlen : s.monLen ≤ 32) (hsrc : s.monSrc = some (i, k))
    (huse : attrType k.attr = 4 ∧ s.stateOk k.attr = true ∧ attrBad s.monAttr 2 = false) (hempty : 2 ≤ s.emptySlots.length)
    (htrng : s.trngOk = true) {a b : Nat} {kek ick : KeySlot} (hfirst : a = s.rndSlot 0)
    (hsecond : b = nth (s.emptySlots.filter (fun x => x != a)) (s.freeVal 21 % (s.emptySlots.filter (fun x => x != a)).length) 0)
    (hkek : kek = fillSlot (Config.mkaKdf k.key labelKEK (slice s.monIn 0 16) 32) (s.mkaAttr 2 useMKA) (s.rndTag 0))
    (hick : ick = fillSlot (Config.mkaKdf k.key labelICK (slice s.monIn 0 16) 32) (s.mkaAttr 2 useMKA) (s.rndTag 1)) :
    s.opMkaKdf = { monOut (handleNo a kek) (leBytes 2 (handleNo a kek) ++ leBytes 2 (handleNo b ick)) with
      writes := [(a, kek), (b, ick)], random := true } := by
  subst hfirst hsecond hkek hick
  unfold State.opMkaKdf
  simp only [hsrc, slotD, Option.map_some, Option.getD_some]
  refine monTest_pass ?_ _
  rw [firstCode_lead (lcIn_mka hlc) hready (by omega) (by simp [hlen])]
  simp only [huse, htrng, Nat.not_lt.mpr hempty]
  rfl

theorem opMkaIcv_passes (hready : s.monReady = true) (hlc : s.mon.fuse = 3) (hlen : s.monLen ≤ 512) (hsrc : s.monSrc = some (i, k))
    (huse : s.mayUse k useMKA = true) : s.opMkaIcv = monOut s.srcHandle ((Config.aesCmac k.key s.monIn).take 16) := by
  unfold State.opMkaIcv
  simp only [hsrc, slotD, Option.map_some, Option.getD_some]
  refine monTest_pass ?_ _
  rw [firstCode_lead (lcIn_mka hlc) hready hlen rfl]
  simp [firstCode, huse]

theorem opMkaUnwrap_result (hready : s.monReady = true) (hlc : s.mon.fuse = 3) (hlen : s.monLen = 40) (hsrc : s.monSrc = some (i, k))
    (huse : s.mayUse k useMKA = true ∧ attrBad s.monAttr 1 = false) (hplace : firstCode (s.placeTests false) = 0) :
    s.opMkaUnwrap = match Config.keyUnwrap k.key s.monIn with
      | none => monEnd 8
      | some p => s.place false p (s.mkaAttr 1 useMACSEC) false [] := by
  have hpeel (b : Bool) : firstCode (s.lead [3] (s.monLen == 40) ++ [(false, 1), (!s.mayUse k useMKA || attrBad s.monAttr 1, 2)] ++
      s.placeTests false ++ [(b, 8)]) = if b then 8 else 0 := by
    rw [List.append_assoc, List.append_assoc, firstCode_lead (lcIn_mka hlc) hready (by omega) (by simp [hlen]), huse.1, huse.2]
    exact firstCode_placeTests hplace
  unfold State.opMkaUnwrap
  simp only [hsrc, slotD, Option.map_some, Option.getD_some]
  cases hopen : Config.keyUnwrap k.key s.monIn with
  | none => exact monTest_fail (hpeel true) (by decide) _
  | some p => exact monTest_pass (hpeel false) _

end Sys2Proof.Monument

open Sys2Proof.Monument

/-- Settles O54: CMD is accepted, the tests of the row pass, and the operation begins with the row's result. -/
theorem monumentUse : Obligations.MonumentUse := by
  unfold Obligations.MonumentUse
  refine ⟨?_, ?_, ?_, ?_, ?_, ?_, ?_, ?_, ?_, ?_⟩
  · intro clk i j d k s ha hidle hz hready hlc hlen hslots huse
    obtain ⟨t, hexec, hb⟩ := exec_begun (c := .monumentWrap clk) (op := 6) ha hidle hz rfl
      (opWrap_passes (s := s) hready hlc hlen hslots huse)
    exact ⟨t, hexec, hb.op_eq, hb.busy⟩
  · intro clk i k s ha hidle hz hready hlc hlen hsrc huse
    obtain ⟨t, hexec, hb⟩ := exec_begun (c := .monumentMac clk) (op := 7) ha hidle hz rfl
      (opMac_passes (s := s) hready hlc hlen hsrc huse)
    exact ⟨t, hexec, hb.op_eq, hb.busy⟩
  · intro clk i k s ha hidle hz hready hlc hlen hsrc huse
    obtain ⟨t, hexec, hb⟩ := exec_begun (c := .monumentMacVerify clk) (op := 8) ha hidle hz rfl
      (opMacVerify_result (s := s) hready hlc hlen hsrc huse)
    refine ⟨t, hexec, ?_, hb.busy⟩
    split at hb
    case isTrue htag => exact hb.op_eq.trans (if_pos htag).symm
    case isFalse htag => exact hb.op_eq.trans (if_neg htag).symm
  · intro clk i k s ha hidle hz hready hlc hlen hsrc huse htrng
    obtain ⟨t, hexec, hb⟩ := exec_begun (c := .monumentSign clk) (op := 9) ha hidle hz rfl
      (opSign_passes (s := s) hready hlc hlen hsrc huse htrng)
    exact ⟨t, hexec, hb.op_eq, hb.busy⟩
  · intro clk i k s ha hidle hz hready hlc hlen hsrc huse
    obtain ⟨t, hexec, hb⟩ := exec_begun (c := .monumentPubkey clk) (op := 10) ha hidle hz rfl
      (opPubkey_passes (s := s) hready hlc hlen hsrc huse)
    exact ⟨t, hexec, hb.op_eq, hb.busy⟩
  · intro clk i k s ha hidle hz hready hlc hlen hdst hone hint htrng
    obtain ⟨t, hexec, hb⟩ := exec_begun (c := .monumentAttest clk) (op := 11) ha hidle hz rfl
      (opAttest_passes (s := s.advance clk) hready hlc hlen hdst hone hint htrng)
    exact ⟨t, hexec, hb.op_eq, hb.busy⟩
  · intro clk i k s ha hidle hz hdst
    obtain ⟨t, hexec, hb⟩ := exec_begun (c := .monumentInfo clk) (op := 16) ha hidle hz rfl (opInfo_passes (s := s) hdst)
    exact ⟨t, hexec, hb.op_eq, hb.busy⟩
  · intro clk i k s ha hidle hz hready hlc hlen hsrc huse hempty htrng
    obtain ⟨t, hexec, hb⟩ := exec_begun (c := .monumentMkaKdf clk) (op := 24) ha hidle hz rfl
      (opMkaKdf_passes (s := s) hready hlc hlen hsrc huse hempty htrng rfl rfl rfl rfl)
    exact ⟨t, hexec, hb.op_eq, hb.busy⟩
  · intro clk i k s ha hidle hz hready hlc hlen hsrc huse
    obtain ⟨t, hexec, hb⟩ := exec_begun (c := .monumentMkaIcv clk) (op := 25) ha hidle hz rfl
      (opMkaIcv_passes (s := s) hready hlc hlen hsrc huse)
    exact ⟨t, hexec, hb.op_eq, hb.busy⟩
  · intro clk i k s ha hidle hz hready hlc hlen hsrc huse hplace
    obtain ⟨t, hexec, hb⟩ := exec_begun (c := .monumentMkaUnwrap clk) (op := 26) ha hidle hz rfl
      (opMkaUnwrap_result (s := s) hready hlc hlen hsrc huse hplace)
    refine ⟨t, hexec, ?_, hb.busy⟩
    generalize Config.keyUnwrap k.key s.monIn = opened at hb ⊢
    cases opened with
    | none => exact hb.op_eq
    | some p => exact Begun.of_place hb

end

section
/-!
PROOFS. The ends of the Monument's operations, key replacement and tampering (R473–R494): what is left once the result stands in RESULT
and DATA, and what a zeroisation leaves of the keys.
-/

open Sys2Proof Sys2Proof.Machine Sys2Proof.Laws

namespace Sys2Proof.Monument

variable {s : State}

/-! Slots and records. -/

@[simp] theorem key_setKey_same (s : State) (i : Nat) (k : KeySlot) : (s.setKey i k).key i = k := tabGet_tabPut_same _ _ _ _
theorem key_setKey_ne (s : State) {i j : Nat} (k : KeySlot) (h : j ≠ i) : (s.setKey i k).key j = s.key j := tabGet_tabPut_ne _ _ _ h

@[simp] theorem guardEvent_mon (s : State) (l : Nat) (r : Rec) : (s.guardEvent l r).mon = s.mon := by
  unfold State.guardEvent; split <;> rfl
@[simp] theorem guardEvent_regs (s : State) (l : Nat) (r : Rec) : (s.guardEvent l r).regs = s.regs := by
  unfold State.guardEvent; split <;> rfl
@[simp] theorem guardEvent_clock (s : State) (l : Nat) (r : Rec) : (s.guardEvent l r).clock = s.clock := by
  unfold State.guardEvent; split <;> rfl
@[simp] theorem guardEvent_sw (s : State) (l : Nat) (r : Rec) : (s.guardEvent l r).sw = s.sw := by
  unfold State.guardEvent; split <;> rfl
theorem get_guardEvent (s : State) (l : Nat) (r : Rec) (p : Nat) (f : Fld) : (s.guardEvent l r).get p f = s.get p f :=
  State.get_of_words fun i _ => by rw [guardEvent_regs]

@[simp] theorem commitRecord_mon (s : State) (i flags : Nat) (k : KeySlot) : (s.commitRecord i flags k).mon = s.mon := by
  simp [State.commitRecord]
@[simp] theorem commitRecord_clock (s : State) (i flags : Nat) (k : KeySlot) : (s.commitRecord i flags k).clock = s.clock := by
  simp [State.commitRecord]
theorem commitRecord_pevt (s : State) (i flags : Nat) (k : KeySlot) : (s.commitRecord i flags k).get pMONUMENT ⟨0x0C, 10, 1⟩ = 1 := by
  rw [State.commitRecord, get_guardEvent]; exact State.get_event_same s (by decide)

theorem slotWrite_mon (s : State) (w : Nat × KeySlot) : (s.slotWrite w).mon = (s.setKey w.1 w.2).mon := by
  simp only [State.slotWrite, apply_ite State.mon, commitRecord_mon, ite_self]
theorem key_slotWrite (s : State) (i : Nat) (k : KeySlot) : (s.slotWrite (i, k)).key i = k := by
  rw [State.key, slotWrite_mon]; exact key_setKey_same s i k

/-- Fuse, roots and the operation under way are as they were. -/
structure SameLife (r s : State) : Prop where
  fuse : s.mon.fuse = r.mon.fuse
  roots : s.mon.roots = r.mon.roots
  op : s.mon.op = r.mon.op

theorem SameLife.refl (s : State) : SameLife s s := ⟨rfl, rfl, rfl⟩
theorem SameLife.trans {q r s : State} (h : SameLife q r) (h' : SameLife r s) : SameLife q s :=
  ⟨h'.fuse.trans h.fuse, h'.roots.trans h.roots, h'.op.trans h.op⟩
theorem SameLife.of_mon {r s : State} (h : s.mon = r.mon) : SameLife r s := ⟨by rw [h], by rw [h], by rw [h]⟩
theorem SameLife.foldl {α : Type} {f : State → α → State} (hf : ∀ s x, SameLife s (f s x)) : ∀ (l : List α) (s : State),
    SameLife s (l.foldl f s)
  | [], s => .refl s
  | x :: l, s => (hf s x).trans (SameLife.foldl hf l (f s x))

theorem slotWrite_sameLife (s : State) (w : Nat × KeySlot) : SameLife s (s.slotWrite w) :=
  ⟨by rw [slotWrite_mon]; rfl, by rw [slotWrite_mon]; rfl, by rw [slotWrite_mon]; rfl⟩

/-- An erasure of a TRANSITION touches slots alone (R474). -/
theorem lifeErase_life (s : State) (root : List Byte) (rec : Bool) :
    (s.lifeErase root rec).mon.fuse = s.mon.fuse ∧ (s.lifeErase root rec).mon.roots = [(s.mon.fuse, root)] ∧
      (s.lifeErase root rec).mon.op = s.mon.op := by
  have herase : ∀ (t : State) (i : Nat), SameLife t
      (if erasedBy t.mon.fuse (t.key i) then
        if rec then (t.setKey i KeySlot.empty).guardEvent lineKey (guardRec 0x61 8 i (data2 0 (t.key i).attr)) else t.setKey i KeySlot.empty
      else t) := by
    intro t i
    have hset : SameLife t (t.setKey i KeySlot.empty) := ⟨rfl, rfl, rfl⟩
    split
    · split
      · exact hset.trans (.of_mon (guardEvent_mon ..))
      · exact hset
    · exact .refl t
  unfold State.lifeErase
  generalize List.range 97 = slots
  obtain ⟨hfuse, hroots, hop⟩ := SameLife.foldl herase slots { s with mon := { s.mon with roots := [(s.mon.fuse, root)] } }
  exact ⟨hfuse, hroots, hop⟩

theorem transit_none (s : State) (root : List Byte) : s.transit 0 root = s := rfl
theorem transit_life (s : State) {target : Nat} (root : List Byte) (h : target ≠ 0) :
    (s.transit target root).mon.fuse = s.mon.fuse ∧ (s.transit target root).mon.roots = [(s.mon.fuse, root)] ∧
      (s.transit target root).mon.op = s.mon.op := by
  rw [State.transit, if_neg h, State.event_mon]
  exact lifeErase_life s root true

/-! Output in DATA (R480). -/

theorem leBytes_ofLE : ∀ (l : List Byte) (n : Nat), l.length ≤ n → (leBytes n (ofLE l)).take l.length = l
  | [], _, _ => rfl
  | b :: l, n + 1, h => by
    have hb : b.toNat < 256 := b.isLt
    have hdiv : (b.toNat + 256 * ofLE l) / 256 = ofLE l := by omega
    have hmod : BitVec.ofNat 8 (b.toNat + 256 * ofLE l) = b := BitVec.eq_of_toNat_eq (by rw [BitVec.toNat_ofNat]; omega)
    rw [leBytes, ofLE, hdiv, hmod, List.length_cons, List.take_succ_cons, leBytes_ofLE l n (Nat.le_of_succ_le_succ h)]

theorem ofLE_lt : ∀ l : List Byte, ofLE l < 256 ^ l.length
  | [] => Nat.one_pos
  | b :: l => by
    have hb : b.toNat < 256 := b.isLt
    have ih := ofLE_lt l
    rw [ofLE, List.length_cons, Nat.pow_succ]
    omega

/-- A word of up to four bytes reads back as its bytes. -/
theorem leBytes_w32 {l : List Byte} (h : l.length ≤ 4) : (leBytes 4 (w32 (ofLE l)).toNat).take l.length = l := by
  have hlt : ofLE l < 2 ^ 32 := (ofLE_lt l).trans_le (Nat.pow_le_pow_right (by decide) h)
  rw [w32, BitVec.toNat_ofNat, Nat.mod_eq_of_lt hlt, leBytes_ofLE l 4 h]

@[simp] theorem monPut_mon (s : State) (w : Nat) (l : List Byte) : (s.monPut w l).mon = s.mon := by
  induction s, w, l using State.monPut.induct with
  | case1 s w b0 b1 b2 b3 t ih => rw [State.monPut, ih]; rfl
  | case2 s w => rfl
  | case3 s w l hlong hnil =>
    rw [State.monPut]
    · rfl
    · exact hlong
    · exact hnil

/-- Output from byte `4 w` on leaves the words below. -/
theorem rd_monPut_below (s : State) (w : Nat) (l : List Byte) {o : Nat} (ho : o < 0x400 + 4 * w) (hfit : 0x400 + 4 * w + l.length ≤ 4096) :
    (s.monPut w l).rd pMONUMENT o = s.rd pMONUMENT o := by
  induction s, w, l using State.monPut.induct with
  | case1 s w b0 b1 b2 b3 t ih =>
    simp only [List.length_cons] at hfit
    rw [State.monPut, ih (by omega) (by omega), State.rd_wr, if_neg (by unfold regKey; omega)]
  | case2 s w => rfl
  | case3 s w l hlong hnil =>
    have hpos : l.length ≠ 0 := fun h => hnil (List.eq_nil_of_length_eq_zero h)
    rw [State.monPut, State.rd_wr, if_neg (by unfold regKey; omega)]
    · exact hlong
    · exact hnil

/-- The output stands in DATA. -/
theorem monPut_bytes (s : State) (w n : Nat) (l : List Byte) (hwords : l.length ≤ 4 * n) (hfit : 0x400 + 4 * (w + n) ≤ 4096) :
    ((List.range' w n).flatMap (fun w' => leBytes 4 ((s.monPut w l).rd pMONUMENT (0x400 + 4 * w')).toNat)).take l.length = l := by
  induction s, w, l using State.monPut.induct generalizing n with
  | case1 s w b0 b1 b2 b3 t ih =>
    simp only [List.length_cons] at hwords
    obtain ⟨m, rfl⟩ : ∃ m, n = m + 1 := ⟨n - 1, by omega⟩
    have hword : ((s.wr pMONUMENT (0x400 + 4 * w) (w32 (ofLE [b0, b1, b2, b3]))).monPut (w + 1) t).rd pMONUMENT (0x400 + 4 * w) =
        w32 (ofLE [b0, b1, b2, b3]) := by
      rw [rd_monPut_below _ _ _ (by omega) (by omega), State.rd_wr, if_pos rfl]
    have hbytes : leBytes 4 (w32 (ofLE [b0, b1, b2, b3])).toNat = [b0, b1, b2, b3] := leBytes_w32 (l := [b0, b1, b2, b3]) (by simp)
    rw [State.monPut, List.range'_succ, List.flatMap_cons, hword, hbytes]
    simp only [List.length_cons, List.cons_append, List.nil_append, List.take_succ_cons]
    rw [ih m (by omega) (by omega)]
  | case2 s w => rfl
  | case3 s w l hlong hnil =>
    have hpos : l.length ≠ 0 := fun h => hnil (List.eq_nil_of_length_eq_zero h)
    have hshort : l.length ≤ 4 := by
      by_contra hlen
      match l with
      | b0 :: b1 :: b2 :: b3 :: t => exact hlong b0 b1 b2 b3 t rfl
      | [_, _, _] | [_, _] | [_] | [] => simp at hlen
    obtain ⟨m, rfl⟩ : ∃ m, n = m + 1 := ⟨n - 1, by omega⟩
    rw [State.monPut, List.range'_succ, List.flatMap_cons, State.rd_wr, if_pos rfl, List.take_append_of_le_length (by simp [leBytes, hshort]),
      leBytes_w32 hshort]
    · exact hlong
    · exact hnil

theorem get_monPut (s : State) {l : List Byte} (hlen : l.length ≤ 512) {f : Fld} (hbelow : f.off + 4 * f.words ≤ 0x400) :
    (s.monPut 0 l).get pMONUMENT f = s.get pMONUMENT f :=
  State.get_of_words fun i hi => rd_monPut_below s 0 l (by omega) (by omega)

/-! The end of an operation (R480). -/

/-- RESULT, OUT_LEN and DATA hold a result, BUSY has fallen and the end is reported. -/
def resultShown (s : State) (o : MonOp) : State :=
  ((((((s.set pMONUMENT F.MONUMENT.RESULT.CODE o.code).set pMONUMENT F.MONUMENT.RESULT.HANDLE o.handle).set pMONUMENT
    F.MONUMENT.OUT_LEN.OUT o.out.length).monPut 0 o.out).set pMONUMENT F.MONUMENT.STS.BUSY 0).event pMONUMENT
    (if o.code = 0 then 8 else 9))

theorem monDone_eq {o : MonOp} (hop : s.mon.op = some o) (hends : o.op ≠ 13 ∨ s.mon.request = none ∨ o.code ≠ 0) :
    s.monDone = resultShown ((o.writes.foldl State.slotWrite (s.opOver true)).transit o.target o.root).zeroData o := by
  simp only [State.monDone, hop]
  refine if_neg ?_
  rcases hends with h | h | h <;> simp [h]

@[simp] theorem resultShown_mon (s : State) (o : MonOp) : (resultShown s o).mon = s.mon := by simp [resultShown]

theorem get_resultShown_event (s : State) (o : MonOp) {f : Fld} (h8 : Fld.apart pMONUMENT ⟨0x0C, 8, 1⟩ pMONUMENT f = true)
    (h9 : Fld.apart pMONUMENT ⟨0x0C, 9, 1⟩ pMONUMENT f = true) (hf : f.fits = true) :
    (s.event pMONUMENT (if o.code = 0 then 8 else 9)).get pMONUMENT f = s.get pMONUMENT f := by
  rw [State.event_get]
  split
  · exact State.get_set_apart _ _ _ _ _ _ h8 (by decide) hf
  · exact State.get_set_apart _ _ _ _ _ _ h9 (by decide) hf

theorem resultShown_shows (s : State) (o : MonOp) (hlen : o.out.length ≤ 512) :
    (resultShown s o).get pMONUMENT F.MONUMENT.STS.BUSY = 0 ∧
      (resultShown s o).get pMONUMENT F.MONUMENT.RESULT.CODE = o.code % 2 ^ F.MONUMENT.RESULT.CODE.w ∧
      (resultShown s o).get pMONUMENT F.MONUMENT.RESULT.HANDLE = o.handle % 2 ^ F.MONUMENT.RESULT.HANDLE.w ∧
      (resultShown s o).get pMONUMENT F.MONUMENT.OUT_LEN.OUT = o.out.length := by
  unfold resultShown
  refine ⟨?_, ?_, ?_, ?_⟩ <;> rw [get_resultShown_event _ _ (by decide) (by decide) (by decide)]
  · rw [State.get_set_same _ _ _ _ (by decide)]; rfl
  · simp (disch := first | decide | exact hlen) only [State.get_set_apart, get_monPut, State.get_set_same]
  · simp (disch := first | decide | exact hlen) only [State.get_set_apart, get_monPut, State.get_set_same]
  · simp (disch := first | decide | exact hlen) only [State.get_set_apart, get_monPut, State.get_set_same]
    exact Nat.mod_eq_of_lt (by change o.out.length < 1024; omega)

/-- What is done once the output stands leaves DATA. -/
theorem rd_data_shown (s : State) (o : MonOp) (w : Nat) (hw : w < 128) :
    ((s.set pMONUMENT F.MONUMENT.STS.BUSY 0).event pMONUMENT (if o.code = 0 then 8 else 9)).rd pMONUMENT (0x400 + 4 * w) =
      s.rd pMONUMENT (0x400 + 4 * w) := by
  have hsts : F.MONUMENT.STS.BUSY.off + 4 * F.MONUMENT.STS.BUSY.words ≤ 0x400 := by decide
  have h8 : (⟨0x0C, 8, 1⟩ : Fld).off + 4 * (⟨0x0C, 8, 1⟩ : Fld).words ≤ 0x400 := by decide
  have h9 : (⟨0x0C, 9, 1⟩ : Fld).off + 4 * (⟨0x0C, 9, 1⟩ : Fld).words ≤ 0x400 := by decide
  rw [State.event_rd]
  split
  · rw [State.rd_set_ne _ _ _ _ (by decide) (by omega) (.inr (.inr (h8.trans (by omega)))),
      State.rd_set_ne _ _ _ _ (by decide) (by omega) (.inr (.inr (hsts.trans (by omega))))]
  · rw [State.rd_set_ne _ _ _ _ (by decide) (by omega) (.inr (.inr (h9.trans (by omega)))),
      State.rd_set_ne _ _ _ _ (by decide) (by omega) (.inr (.inr (hsts.trans (by omega))))]

theorem resultShown_monBytes (s : State) (o : MonOp) (hlen : o.out.length ≤ 512) : (resultShown s o).monBytes o.out.length = o.out := by
  rw [State.monBytes, List.range_eq_range', List.flatMap_congr fun w hw => by
    rw [resultShown, rd_data_shown _ o w (by have := List.mem_range'.mp hw; omega)]]
  exact monPut_bytes _ 0 128 o.out hlen (by decide)

/-- Slots and life cycle at the end of an operation. -/
theorem monDone_mon {o : MonOp} (hop : s.mon.op = some o) (hends : o.op ≠ 13 ∨ s.mon.request = none ∨ o.code ≠ 0) :
    s.monDone.mon = ((o.writes.foldl State.slotWrite (s.opOver true)).transit o.target o.root).mon := by
  rw [monDone_eq hop hends, resultShown_mon]; rfl

theorem opOver_mon {o : MonOp} (hop : s.mon.op = some o) (burnt : Bool) :
    (s.opOver burnt).mon = { s.mon with op := none, fuse := if o.target ≠ 0 ∧ burnt then o.target else s.mon.fuse } := by
  simp only [State.opOver, hop]

/-- What the writes of an operation leave of the life cycle. -/
theorem written_life {o : MonOp} (hop : s.mon.op = some o) :
    SameLife (s.opOver true) (o.writes.foldl State.slotWrite (s.opOver true)) := .foldl slotWrite_sameLife _ _

theorem monDone_op {o : MonOp} (hop : s.mon.op = some o) (hends : o.op ≠ 13 ∨ s.mon.request = none ∨ o.code ≠ 0) :
    s.monDone.mon.op = none := by
  have hw := (written_life hop).op
  rw [opOver_mon hop] at hw
  rw [monDone_mon hop hends]
  by_cases ht : o.target = 0
  · rw [ht, transit_none]; exact hw
  · exact (transit_life _ _ ht).2.2.trans hw

theorem monDone_stays {o : MonOp} (hop : s.mon.op = some o) (hends : o.op ≠ 13 ∨ s.mon.request = none ∨ o.code ≠ 0) (ht : o.target = 0) :
    s.monDone.mon.fuse = s.mon.fuse ∧ s.monDone.mon.roots = s.mon.roots := by
  have hw := written_life hop
  rw [monDone_mon hop hends, ht, transit_none]
  refine ⟨hw.fuse.trans ?_, hw.roots.trans ?_⟩ <;> rw [opOver_mon hop]
  exact if_neg (by simp [ht])

theorem monDone_burns {o : MonOp} (hop : s.mon.op = some o) (hends : o.op ≠ 13 ∨ s.mon.request = none ∨ o.code ≠ 0) (ht : o.target ≠ 0) :
    s.monDone.mon.fuse = o.target ∧ s.monDone.mon.roots = [(o.target, o.root)] := by
  have hfuse : (o.writes.foldl State.slotWrite (s.opOver true)).mon.fuse = o.target := by
    rw [(written_life hop).fuse, opOver_mon hop]; exact if_pos ⟨ht, rfl⟩
  obtain ⟨hlc, hroots, -⟩ := transit_life (o.writes.foldl State.slotWrite (s.opOver true)) o.root ht
  rw [monDone_mon hop hends]
  exact ⟨hlc.trans hfuse, by rw [hroots, hfuse]⟩

theorem monDone_key {o : MonOp} {i : Nat} {k : KeySlot} (hop : s.mon.op = some o)
    (hends : o.op ≠ 13 ∨ s.mon.request = none ∨ o.code ≠ 0) (ht : o.target = 0) (hw : o.writes = [(i, k)]) : s.monDone.key i = k := by
  have hmon := monDone_mon hop hends
  rw [ht, transit_none, hw] at hmon
  rw [State.key, hmon]
  exact key_slotWrite _ i k

/-! Key replacement (R483). -/

theorem keyCommit_shows {i since : Nat} (h : s.mon.request = some (i, since)) :
    s.keyCommit.clock = max s.clock (since + 183100) ∧ s.keyCommit.mon.request = none ∧
      s.keyCommit.mon.zeroing = some (i, s.keyCommit.clock, natBit (s.rd pMONUMENT 0x0C).toNat 10) ∧
      s.keyCommit.key i = { s.key i with commit := commitWord ((s.key i).gen + 1) (s.key i).tag ((s.key i).stage % 4) } ∧
      (∀ j, j ≠ i → s.keyCommit.key j = s.key j) ∧ s.keyCommit.get pMONUMENT ⟨0x0C, 10, 1⟩ = 1 := by
  have heq : ∃ (r : State) (flags : Nat) (k : KeySlot), s.keyCommit = r.commitRecord i flags k ∧
      r.clock = max s.clock (since + 183100) ∧
      r.mon = { ((s.advance (since + 183100)).setKey i
          { s.key i with commit := commitWord ((s.key i).gen + 1) (s.key i).tag ((s.key i).stage % 4) }).mon with
        request := none, zeroing := some (i, max s.clock (since + 183100), natBit (s.rd pMONUMENT 0x0C).toNat 10) } := by
    simp only [State.keyCommit, h]
    exact ⟨_, _, _, rfl, rfl, rfl⟩
  obtain ⟨r, flags, k, heq, hclock, hmon⟩ := heq
  rw [heq, commitRecord_clock]
  refine ⟨hclock, ?_, ?_, ?_, fun j hj => ?_, commitRecord_pevt ..⟩
  · rw [commitRecord_mon, hmon]
  · rw [commitRecord_mon, hmon, hclock]
  · rw [State.key, commitRecord_mon, hmon]; exact key_setKey_same _ i _
  · rw [State.key, commitRecord_mon, hmon]; exact key_setKey_ne _ _ hj

/-! Tampering (R488, R489). -/

theorem uncommit_mon (s : State) : s.uncommit.mon = s.mon := by
  unfold State.uncommit
  split
  · split
    · split
      · rfl
      · rw [State.set_mon]; rfl
    · rfl
  · rfl

theorem opOver_seq (s : State) (burnt : Bool) : (s.opOver burnt).mon.seq = s.mon.seq ∧ (s.opOver burnt).mon.op = none := by
  unfold State.opOver
  split
  case h_1 hop => exact ⟨rfl, hop⟩
  case h_2 => exact ⟨rfl, rfl⟩

theorem monAbort_seq (s : State) : s.monAbort.mon.seq = s.mon.seq ∧ s.monAbort.mon.op = none := by
  unfold State.monAbort
  split
  case h_1 hop => exact ⟨rfl, hop⟩
  case h_2 =>
    simp only [State.event_mon, State.set_mon]
    exact opOver_seq s (natBit (s.freeVal 1) 0)

/-- The flags of the installed keys fall; the keys themselves are state of their own. -/
theorem foldl_keyFlags (l : List Nat) (s : State) :
    (l.foldl (fun st k =>
      (st.set pMACSEC ((F.MACSEC.SA_KEY.VALID.at (0x80 * (k / 4))).at (0x10 * (k % 4))) 0).set pMACSEC
        ((F.MACSEC.SA_KEY.ERR.at (0x80 * (k / 4))).at (0x10 * (k % 4))) 3) s).mon = s.mon ∧
    (l.foldl (fun st k =>
      (st.set pMACSEC ((F.MACSEC.SA_KEY.VALID.at (0x80 * (k / 4))).at (0x10 * (k % 4))) 0).set pMACSEC
        ((F.MACSEC.SA_KEY.ERR.at (0x80 * (k / 4))).at (0x10 * (k % 4))) 3) s).sw = s.sw := by
  induction l generalizing s with
  | nil => exact ⟨rfl, rfl⟩
  | cons k l ih => exact ⟨(ih _).1.trans (by rw [State.set_mon, State.set_mon]), (ih _).2.trans (by rw [State.set_sw, State.set_sw])⟩

theorem zeroise_mon (s : State) :
    s.zeroise.mon = { s.mon with roots := [], slots := [], request := none, zeroing := none } ∧
      s.zeroise.sw = { s.sw with sa := [], installs := [] } := by
  unfold State.zeroise
  simp only [apply_ite State.mon, apply_ite State.sw, State.event_mon, State.event_sw, ite_self]
  exact foldl_keyFlags _ _

@[simp] theorem logAdd_sw (s : State) (e : TamperEnt) (b : Bool) : (s.logAdd e b).sw = s.sw := by simp [State.logAdd]

theorem logAdd_mon (s : State) (e : TamperEnt) (b : Bool) :
    (s.logAdd e b).mon = { s.mon with log := (s.mon.log ++ [e]).drop ((s.mon.log ++ [e]).length - 16), seq := (s.mon.seq + 1) % 2 ^ 16 } := by
  simp [State.logAdd]

theorem get_logAdd (s : State) (e : TamperEnt) (b : Bool) {p : Nat} {f : Fld} (hf : f.fits = true)
    (hnext : Fld.apart pTAMPER F.TAMPER.LOG_STS.NEXT p f = true) (hunrep : Fld.apart pTAMPER F.TAMPER.LOG_STS.UNREPORTED p f = true) :
    (s.logAdd e b).get p f = s.get p f := by
  unfold State.logAdd
  rw [State.get_set_apart _ _ _ _ _ _ hunrep (by decide) hf, State.get_set_apart _ _ _ _ _ _ hnext (by decide) hf]
  exact State.get_of_words fun _ _ => rfl

/-- A source that is armed zeroises every key and is logged. -/
theorem tamper_shows {sources hit : Nat} (hhit : sources % 256 &&& s.armed = hit) (hne : hit ≠ 0) :
    (s.tamper sources).mon.slots = [] ∧ (s.tamper sources).mon.roots = [] ∧ (s.tamper sources).mon.op = none ∧
      (s.tamper sources).mon.request = none ∧ (s.tamper sources).sw.sa = [] ∧ (s.tamper sources).sw.installs = [] ∧
      (s.tamper sources).get pMONUMENT F.MONUMENT.STS.COND = 2 ∧
      (s.tamper sources).get pTAMPER F.TAMPER.STS.LAST = hit % 2 ^ F.TAMPER.STS.LAST.w ∧
      (s.tamper sources).mon.seq = (s.mon.seq + 1) % 2 ^ 16 ∧
      (s.coreOn = true → (s.tamper sources).get pTAMPER ⟨0x0C, 8, 1⟩ = 1) := by
  obtain ⟨u, e, r, hu, heq⟩ : ∃ (u : State) (e : TamperEnt) (r : Rec),
      u = (s.set pTAMPER F.TAMPER.STS.LIVE (s.get pTAMPER F.TAMPER.STS.LIVE ||| sources)).uncommit.monAbort ∧
      s.tamper sources =
        (let v := (((u.zeroise.set pMONUMENT F.MONUMENT.STS.COND 2).set pTAMPER F.TAMPER.STS.LAST hit).bumpSat pTAMPER
          F.TAMPER.COUNT.EVENTS).logAdd e s.coreOn
        if s.coreOn then (v.event pTAMPER 8).guardEvent lineTamper r else v) := by
    simp only [State.tamper, hhit, if_neg hne]
    exact ⟨_, _, _, rfl, rfl⟩
  have hseq : u.mon.seq = s.mon.seq := by rw [hu, (monAbort_seq _).1, uncommit_mon, State.set_mon]
  have hop : u.mon.op = none := by rw [hu, (monAbort_seq _).2]
  have hmon : (s.tamper sources).mon = (u.zeroise.logAdd e s.coreOn).mon := by
    simp only [heq, apply_ite State.mon, guardEvent_mon, State.event_mon, logAdd_mon, State.bumpSat_set, State.set_mon, ite_self]
  have hsw : (s.tamper sources).sw = { u.sw with sa := [], installs := [] } := by
    simp only [heq, apply_ite State.sw, guardEvent_sw, State.event_sw, logAdd_sw, State.bumpSat_set, State.set_sw, ite_self, (zeroise_mon u).2]
  rw [logAdd_mon, (zeroise_mon u).1] at hmon
  refine ⟨by rw [hmon], by rw [hmon], by rw [hmon]; exact hop, by rw [hmon], by rw [hsw], by rw [hsw], ?_, ?_, by rw [hmon]; exact hseq ▸ rfl,
    fun hon => ?_⟩
  · simp (disch := decide) only [heq, State.get_ite, get_guardEvent, State.event_get, State.get_set_apart, get_logAdd, State.bumpSat_set,
      State.get_set_same, ite_self]
    rfl
  · simp (disch := decide) only [heq, State.get_ite, get_guardEvent, State.event_get, State.get_set_apart, get_logAdd, State.bumpSat_set,
      State.get_set_same, ite_self]
  · simp only [heq, hon, if_true, get_guardEvent]
    exact State.get_event_same _ (by decide)

end Sys2Proof.Monument

open Sys2Proof.Monument

/-- Settles O55: the ends of the operations by what `monDone` leaves, the commit by its request, and tampering by what the zeroisation
and the log leave. -/
theorem monumentEndsAndTamper : Obligations.MonumentEndsAndTamper := by
  unfold Obligations.MonumentEndsAndTamper
  refine ⟨?_, ?_, ?_, ?_, ?_, ?_, ?_, ?_, ?_, ?_, ?_⟩
  · intro clk i k o s hon hop hends hlen
    have hexec : exec (.monumentOpDone clk) s = .next (s.advance clk).monDone := congrArg _ (if_pos hon)
    have hend := monDone_eq (s := s.advance clk) hop hends
    obtain ⟨hbusy, hcode, hhandle, hout⟩ := resultShown_shows
      ((o.writes.foldl State.slotWrite ((s.advance clk).opOver true)).transit o.target o.root).zeroData o hlen
    have hbytes := resultShown_monBytes
      ((o.writes.foldl State.slotWrite ((s.advance clk).opOver true)).transit o.target o.root).zeroData o hlen
    rw [← hend] at hbusy hcode hhandle hout hbytes
    exact ⟨_, hexec, monDone_op (s := s.advance clk) hop hends, hbusy, hcode, hhandle, hout, hbytes,
      fun ht hw => monDone_key (s := s.advance clk) hop hends ht hw, fun ht => monDone_stays (s := s.advance clk) hop hends ht,
      fun ht => monDone_burns (s := s.advance clk) hop hends ht⟩
  · intro i j since s h
    obtain ⟨hclock, hreq, hzero, hkey, hothers, hevent⟩ := keyCommit_shows h
    exact ⟨_, rfl, hclock, hreq, hzero, by rw [hkey], by rw [hkey], by rw [hkey], hothers j, hevent⟩
  · intro clk i at_ ev s h
    have heq : (s.advance clk).finishCommit = { (s.advance clk).setKey i { (s.key i).setHalf (3 - (s.key i).half) none with stage := 0 } with
        mon := { ((s.advance clk).setKey i { (s.key i).setHalf (3 - (s.key i).half) none with stage := 0 }).mon with zeroing := none } } := by
      have h' : (s.advance clk).mon.zeroing = some (i, at_, ev) := h
      simp only [State.finishCommit, h']; rfl
    refine ⟨_, next_of_eq heq rfl, ?_, rfl, rfl⟩
    exact key_setKey_same (s.advance clk) i _
  · intro clk s hon
    have hexec : exec (.trngFail clk) s = .next (s.advance clk).trngFail := congrArg _ (if_pos hon)
    refine ⟨_, hexec, ?_, ?_, ?_, by simp [State.trngFail, State.bump_set]⟩
    · simp (disch := decide) only [State.trngFail, State.event_get, State.bump_set, State.get_set_apart, State.get_set_same]; rfl
    · exact State.get_event_same _ (by decide)
    · simp (disch := decide) only [State.trngFail, State.event_get, State.bump_set, State.get_set_apart, State.get_set_same]; rfl
  · intro clk word s ha
    exact ⟨_, next_of_eq (State.regWrite_accepts ha) rfl, rfl, rfl, rfl⟩
  · intro clk sources hit s hpower hhit
    have hexec : exec (.tamperDetect clk sources) s = .next ((s.advance clk).tamper (sources % 256)) := congrArg _ (if_neg hpower)
    have hmod : sources % 256 % 256 &&& (s.advance clk).armed = hit := by rw [Nat.mod_mod]; exact hhit.1
    exact ⟨_, hexec, tamper_shows hmod hhit.2⟩
  · intro clk sources s hpower hhit
    have hmod : sources % 256 % 256 &&& (s.advance clk).armed = 0 := by rw [Nat.mod_mod]; exact hhit
    have hexec : exec (.tamperDetect clk sources) s = .next ((s.advance clk).set pTAMPER F.TAMPER.STS.LIVE
        ((s.advance clk).get pTAMPER F.TAMPER.STS.LIVE ||| sources % 256)) :=
      congrArg _ ((if_neg hpower).trans (if_pos hmod))
    exact ⟨_, hexec, State.get_set_same _ _ _ _ (by decide), by rw [State.set_mon]; rfl, by rw [State.set_sw]; rfl⟩
  · intro clk s ha hlive hready
    have hrearm : (s.advance clk).rearm 0x5EA10002 =
        ((({ (s.advance clk).nextFree with mon := { s.mon with roots := [(s.mon.fuse, s.rnd 48)] } }).set pMONUMENT
          F.MONUMENT.STS.COND 0).event pTAMPER 10) := by
      have hlive' : ¬ (s.advance clk).get pTAMPER F.TAMPER.STS.LIVE ≠ 0 := not_not_intro hlive
      have hready' : ¬ (s.advance clk).monReady = true := by rw [show (s.advance clk).monReady = false from hready]; decide
      rw [State.rearm, if_neg (by decide), if_neg hlive', if_neg hready']
      rfl
    refine ⟨_, next_of_eq ((State.regWrite_accepts ha).trans hrearm) rfl, ?_, ?_, State.get_event_same _ (by decide), ?_, ?_⟩
    · simp
    · simp (disch := decide) only [State.event_get, State.get_set_apart, State.get_set_same]; rfl
    · simp
    · simp
  · intro clk word s ha hlive
    have hlive' : (s.advance clk).get pTAMPER F.TAMPER.STS.LIVE ≠ 0 := hlive
    have hexec : exec (.tamperRearm clk word) s = .next (if word ≠ 0x5EA10002 then s.advance clk else (s.advance clk).event pTAMPER 9) := by
      refine congrArg _ ((State.regWrite_accepts ha).trans ?_)
      rw [State.rearm, if_pos hlive']
    refine ⟨_, hexec, ?_, ?_, fun hword => ?_⟩
    · simp only [apply_ite State.mon, State.event_mon, ite_self]; rfl
    · simp (disch := decide) only [State.get_ite, State.event_get, State.get_set_apart, ite_self]; rfl
    · rw [if_neg (not_not_intro hword)]; exact State.get_event_same _ (by decide)
  · intro clk sources s
    refine ⟨_, rfl, ?_, by rw [State.set_mon]; rfl⟩
    rw [State.get_set_same _ _ _ _ (by decide)]
    exact Nat.mod_eq_of_lt (Nat.and_le_left.trans_lt (State.get_lt _ _ _))
  · intro clk s hpower
    exact ⟨_, next_of_eq (if_pos hpower) rfl, rfl, rfl, rfl, rfl, rfl, rfl, rfl, rfl⟩

end

section
/-!
PROOFS. The power states (R37–R45): a request writes PSTATE alone until the rails move, and the guard die's POR leaves its registers at
their reset values but for what it then sets.
-/

open Sys2Proof Sys2Proof.Machine Sys2Proof.Laws

namespace Sys2Proof.PowerStates

variable {s : State}

/-! Requests (R38–R42). -/

/-- The words other than PSTATE are as they were. -/
def PstateOnly (r s : State) : Prop := ∀ k, k ≠ regKey pSYS 0x80 → tabGet regDefault s.regs k = tabGet regDefault r.regs k

theorem PstateOnly.refl (s : State) : PstateOnly s s := fun _ _ => rfl
theorem PstateOnly.set {r : State} (h : PstateOnly r s) {f : Fld} (v : Nat) (hoff : f.off = 0x80) (hw : f.words = 1) :
    PstateOnly r (s.set pSYS f v) := fun k hk => by
  rw [State.tabGet_set_ne s v fun i hi => by obtain rfl : i = 0 := by omega
                                             rw [hoff]; exact hk]
  exact h k hk

theorem PstateOnly.setW1c {r : State} (h : PstateOnly r s) {f : Fld} (hoff : f.off = 0x80) (hw : f.words = 1) :
    PstateOnly r (s.setW1c pSYS f) := fun k hk => by
  rw [State.setW1c_regs]; exact h.set 1 hoff hw k hk

@[simp] theorem setW1c_pwr (s : State) (p : Nat) (f : Fld) : (s.setW1c p f).pwr = s.pwr := by simp [State.setW1c]

/-- A request with REQ written (R41). -/
def asked (s : State) (req : Nat) : State := s.set pSYS F.SYS.PSTATE.REQ req

theorem asked_only (s : State) (req : Nat) : PstateOnly s (asked s req) := (PstateOnly.refl s).set req rfl rfl
@[simp] theorem asked_pwr (s : State) (req : Nat) : (asked s req).pwr = s.pwr := by simp [asked]
@[simp] theorem asked_clock (s : State) (req : Nat) : (asked s req).clock = s.clock := by simp [asked]
@[simp] theorem asked_supply (s : State) (req : Nat) : (asked s req).supply = s.supply := by simp [asked]
theorem get_asked (s : State) (req : Nat) {p : Nat} {f : Fld} (hapart : Fld.apart pSYS F.SYS.PSTATE.REQ p f = true) (hf : f.fits = true) :
    (asked s req).get p f = s.get p f := State.get_set_apart _ _ _ _ _ _ hapart (by decide) hf

theorem reqWrite_acts {req : Nat} (ha : s.accepts pSYS = true) (hbusy : s.get pSYS F.SYS.PSTATE.BUSY = 0) :
    s.reqWrite req = (asked s req).pstateAct req := by
  have hflag : (asked s req).flag pSYS F.SYS.PSTATE.BUSY = false := State.flag_false ((get_asked s req (by decide) (by decide)).trans hbusy)
  rw [State.reqWrite, State.fldWrite_accepts ha]
  unfold State.pstateReq
  exact if_neg (by rw [show s.set pSYS F.SYS.PSTATE.REQ req = asked s req from rfl, hflag]; decide)

theorem reqWrite_stores {req : Nat} (ha : s.accepts pSYS = true) (hbusy : s.get pSYS F.SYS.PSTATE.BUSY = 1) :
    s.reqWrite req = (asked s req).pstateStore req := by
  have hflag : (asked s req).flag pSYS F.SYS.PSTATE.BUSY = true := by
    rw [State.flag, get_asked s req (by decide) (by decide), hbusy]; rfl
  rw [State.reqWrite, State.fldWrite_accepts ha]
  exact if_pos hflag

theorem pstateBegin_shows (s : State) (p : Power) :
    (s.pstateBegin p).get pSYS F.SYS.PSTATE.BUSY = 1 ∧ (s.pstateBegin p).get pSYS F.SYS.PSTATE.REQ = s.get pSYS F.SYS.PSTATE.REQ ∧
      (s.pstateBegin p).pwr.target = some p ∧ PstateOnly s (s.pstateBegin p) := by
  refine ⟨?_, ?_, rfl, (PstateOnly.refl s).set 1 rfl rfl⟩ <;> rw [State.pstateBegin, State.get_with_pwr]
  · rw [State.get_set_same _ _ _ _ (by decide)]; rfl
  · rw [State.get_set_apart _ _ _ _ _ _ (by decide) (by decide) (by decide)]

theorem pstateReject_shows (s : State) (cause blocker : Nat) :
    (s.pstateReject cause blocker).get pSYS F.SYS.PSTATE.REJ = 1 ∧
      (s.pstateReject cause blocker).get pSYS F.SYS.PSTATE.CAUSE = cause % 2 ^ F.SYS.PSTATE.CAUSE.w ∧
      (s.pstateReject cause blocker).get pSYS F.SYS.PSTATE.BLOCKER = blocker % 2 ^ F.SYS.PSTATE.BLOCKER.w ∧
      (s.pstateReject cause blocker).pwr = s.pwr ∧
      (s.pstateReject cause blocker).get pSYS F.SYS.PSTATE.BUSY = s.get pSYS F.SYS.PSTATE.BUSY ∧
      PstateOnly s (s.pstateReject cause blocker) := by
  refine ⟨?_, ?_, ?_, by simp [State.pstateReject], ?_, (((PstateOnly.refl s).setW1c rfl rfl).set _ rfl rfl).set _ rfl rfl⟩ <;>
    simp (disch := decide) only [State.pstateReject, State.get_set_apart, State.get_set_same, State.get_setW1c]
  rfl

/-- A page with a hold on Watch is a page number. -/
theorem blocker_lt {p : Nat} (h : watchBlockers.find? s.running = some p) : p < 4096 := by
  have hmem := List.mem_of_find?_eq_some h
  have hall : ∀ q ∈ watchBlockers, q < 4096 := by decide
  exact hall p hmem

/-! The transition ends (R37, R41). -/

theorem dropParcel_keeps (s : State) : s.dropParcel.pwr = s.pwr ∧ s.dropParcel.regs = s.regs := by
  unfold State.dropParcel
  split <;> exact ⟨rfl, rfl⟩

theorem pstateDone_shows {p : Power} (htarget : s.pwr.target = some p) (hstored : s.pwr.stored = none) :
    s.pstateDone.pwr.power = p ∧ s.pstateDone.pwr.target = none ∧ s.pstateDone.get pSYS F.SYS.PSTATE.BUSY = 0 ∧
      s.pstateDone.get pSYS F.SYS.PSTATE.CUR = if p = Power.watch then 1 else 0 := by
  obtain ⟨u, hu, hdone⟩ : ∃ u : State, u = { ((s.set pSYS F.SYS.PSTATE.BUSY 0).set pSYS F.SYS.PSTATE.CUR (if p = .watch then 1 else 0)) with
      pwr := { s.pwr with power := p, target := none, stored := none } } ∧ s.pstateDone = if p = .watch then u.dropParcel else u := by
    refine ⟨_, rfl, ?_⟩
    simp only [State.pstateDone, htarget, hstored, State.set_pwr]
  have hpwr : s.pstateDone.pwr = u.pwr := by rw [hdone]; split; exacts [(dropParcel_keeps u).1, rfl]
  have hregs : s.pstateDone.regs = u.regs := by rw [hdone]; split; exacts [(dropParcel_keeps u).2, rfl]
  rw [hpwr, State.get_congr hregs, State.get_congr hregs, hu]
  refine ⟨rfl, rfl, ?_, ?_⟩ <;> rw [State.get_with_pwr]
  · rw [State.get_set_apart _ _ _ _ _ _ (by decide) (by decide) (by decide), State.get_set_same _ _ _ _ (by decide)]; rfl
  · rw [State.get_set_same _ _ _ _ (by decide)]
    split <;> rfl

/-! The core die goes into reset with the guard die's own state kept (R43, R429). -/

theorem foldl_set_pwr (f : Fld) (v : Nat) : ∀ (pages : List Nat) (s : State), (pages.foldl (fun st p => st.set p f v) s).pwr = s.pwr
  | [], _ => rfl
  | p :: rest, s => by rw [List.foldl_cons, foldl_set_pwr f v rest, State.set_pwr]
theorem foldl_set_mon (f : Fld) (v : Nat) : ∀ (pages : List Nat) (s : State), (pages.foldl (fun st p => st.set p f v) s).mon = s.mon
  | [], _ => rfl
  | p :: rest, s => by rw [List.foldl_cons, foldl_set_mon f v rest, State.set_mon]

@[simp] theorem unlockGuard_mon (s : State) : s.unlockGuard.mon = s.mon := foldl_set_mon _ _ _ _

theorem coreHold_keep (s : State) : s.coreHold.pwr.keepMain = s.pwr.keepMain ∧ s.coreHold.pwr.keepAny = s.pwr.keepAny := by
  have hcut : s.calCut.monCut.pwr = s.pwr := (calCut_monCut_kept s).part .pwr rfl
  have hunlock : s.calCut.monCut.wipeCore.unlockGuard.pwr = s.pwr := (foldl_set_pwr _ _ _ _).trans hcut
  rw [State.coreHold]
  simp only [hunlock, and_self]

theorem powerDown_keep (s : State) (hon : s.coreOn = true) :
    (s.powerDown true).pwr.keepMain = s.flag pSYS F.SYS.WAKE.KEEP_MAIN ∧
      (s.powerDown true).pwr.keepAny = s.flag pSYS F.SYS.WAKE.KEEP_ANY := by
  have hdown : (s.powerDown true).pwr = (wakeCopied s true).coreHold.pwr := by simp [powerDown_eq]
  rw [hdown, (coreHold_keep _).1, (coreHold_keep _).2]
  simp [wakeCopied, hon]

theorem monCut_mon (s : State) : s.monCut.mon.rtc = s.mon.rtc ∧ s.monCut.mon.slots = s.mon.slots := by
  simp only [State.monCut, State.opDrop, apply_ite State.mon, State.set_mon]
  split
  · split <;> exact ⟨rfl, rfl⟩
  · exact ⟨rfl, rfl⟩

theorem coreHold_mon (s : State) : s.coreHold.mon.rtc = s.mon.rtc ∧ s.coreHold.mon.slots = s.mon.slots := by
  have hcal : s.calCut.mon = s.mon := by unfold State.calCut; split <;> rfl
  have hunlock : s.coreHold.mon = s.calCut.monCut.mon := by simp [State.coreHold, State.wipeCore]
  rw [hunlock, (monCut_mon _).1, (monCut_mon _).2, hcal]
  exact ⟨rfl, rfl⟩

theorem opOver_keys (s : State) (burnt : Bool) : (s.opOver burnt).mon.rtc = s.mon.rtc ∧ (s.opOver burnt).mon.slots = s.mon.slots := by
  unfold State.opOver
  split <;> exact ⟨rfl, rfl⟩

theorem guardLost_shows (hon : s.guardOn = true) :
    s.guardLost.pwr.power = .battery ∧ s.guardLost.supply.sinceA = none ∧ s.guardLost.supply.sinceB = none ∧
      s.guardLost.supply.phase = .off ∧ s.guardLost.mon.op = none ∧ s.guardLost.mon.rtc = s.mon.rtc ∧
      s.guardLost.mon.slots = s.mon.slots := by
  have hmon : s.guardLost.mon = (s.coreHold.opOver (natBit (s.coreHold.freeVal 1) 0)).mon := by rw [State.guardLost, if_pos hon]; rfl
  refine ⟨?_, ?_, ?_, ?_, ?_, ?_, ?_⟩
  iterate 4 rw [State.guardLost, if_pos hon]
  · rw [hmon]; exact (Monument.opOver_seq _ _).2
  · rw [hmon, (opOver_keys _ _).1, (coreHold_mon s).1]
  · rw [hmon, (opOver_keys _ _).2, (coreHold_mon s).2]

/-! The guard die starts (R45, R509, R524). -/

/-- The entries that a filter drops read their default. -/
theorem tabGet_filter_dropped {α : Type} (d : Nat → α) {q : Nat → Bool} {k : Nat} (hq : q k = false) : ∀ l : List (Nat × α),
    tabGet d (l.filter (fun e => q e.1)) k = d k
  | [] => rfl
  | e :: t => by
    have ih := tabGet_filter_dropped d hq t
    by_cases he : q e.1 = true
    · have hne : e.1 ≠ k := fun h => by rw [h, hq] at he; cases he
      simp only [List.filter_cons, he, if_true, tabGet, if_neg hne, ih]
    · simp only [List.filter_cons, he, Bool.false_eq_true, if_false, ih]

/-- The guard die's registers at their POR values. -/
def porCleared (s : State) : State :=
  { s.batteryStart with
    regs := s.batteryStart.regs.filter (fun e => guardKept e.1)
    supply := { SupplySt.init with sinceA := s.supply.sinceA, sinceB := s.supply.sinceB, phase := .off, porStart := true }
    slots := [], tally := TallySt.init
    pwr := { s.batteryStart.pwr with power := .keep, dieLink := true } }

/-- ... with COND, the start's cause and the validity of the inputs set. -/
def porMarked (s : State) : State :=
  ((((porCleared s).set pMONUMENT F.MONUMENT.STS.COND (s.get pMONUMENT F.MONUMENT.STS.COND)).set pRESET F.RESET.CORE_RESETS.COUNT 0).cause
    1 |>.setB pSUPPLY F.SUPPLY.STS.A_VALID s.supply.sinceA.isSome).setB pSUPPLY F.SUPPLY.STS.B_VALID s.supply.sinceB.isSome

/-- ... and the FETs following them. -/
def porDriven (s : State) : State := if (porMarked s).fetSet = 0 then porMarked s else (porMarked s).setFet (porMarked s).fetSet

theorem guardPor_eq (h : s.pwr.power = .noSupply ∨ s.pwr.power = .battery) : s.guardPor = (porDriven s).monPor := if_pos h

/-- A register of the supply page reads its reset value after the POR. -/
theorem get_porCleared_supply (s : State) {f : Fld} (hf : f.fits = true) : (porCleared s).get pSUPPLY f = (regsAlone []).get pSUPPLY f := by
  have hfits : f.off + 4 * f.words ≤ 4096 := of_decide_eq_true hf
  refine State.get_of_words fun i hi => ?_
  have hkey : regKey pSUPPLY (f.off + 4 * i) / 4096 = pSUPPLY := by unfold regKey; omega
  have hnot : guardKept (regKey pSUPPLY (f.off + 4 * i)) = false := by
    have htamper (o : Nat) (ho : o < 4096) : regKey pSUPPLY (f.off + 4 * i) ≠ regKey pTAMPER o := by
      unfold regKey pSUPPLY pTAMPER; omega
    simp [guardKept, hkey, htamper, show guardPage pSUPPLY = true from rfl]
  exact tabGet_filter_dropped _ hnot _

theorem porMarked_supply (s : State) : (porMarked s).supply = { (porCleared s).supply with causes := natPut 0 1 1 1 } := by
  simp [porMarked, State.setB, cause_supply, porCleared, SupplySt.init]

theorem get_porMarked (s : State) {f : Fld} (hf : f.fits = true) (ha : Fld.apart pSUPPLY F.SUPPLY.STS.A_VALID pSUPPLY f = true)
    (hb : Fld.apart pSUPPLY F.SUPPLY.STS.B_VALID pSUPPLY f = true) : (porMarked s).get pSUPPLY f = (regsAlone []).get pSUPPLY f := by
  have hpage {p : Nat} (g : Fld) (hp : p ≠ pSUPPLY) : Fld.apart p g pSUPPLY f = true := by simp [Fld.apart, hp]
  rw [porMarked, State.setB, State.setB, State.get_set_apart _ _ _ _ _ _ hb (by decide) hf, State.get_set_apart _ _ _ _ _ _ ha (by decide) hf,
    get_cause, State.get_set_apart _ _ _ _ _ _ (hpage _ (by decide)) (by decide) hf,
    State.get_set_apart _ _ _ _ _ _ (hpage _ (by decide)) (by decide) hf, get_porCleared_supply s hf]

theorem get_porMarked_valid (s : State) : (porMarked s).get pSUPPLY F.SUPPLY.STS.A_VALID = if s.supply.sinceA.isSome then 1 else 0 := by
  rw [porMarked, State.setB, State.setB, State.get_set_apart _ _ _ _ _ _ (by decide) (by decide) (by decide),
    State.get_set_same _ _ _ _ (by decide)]
  cases s.supply.sinceA.isSome <;> rfl

/-- At the POR values one FET or both conduct, or none. -/
theorem porMarked_fetSet_lt (s : State) : (porMarked s).fetSet < 4 := by
  have hbit (b : Bool) : bit b ≤ 1 := by cases b <;> decide
  have hpref : (porMarked s).inForce F.SUPPLY.CFG.PREF ≤ 1 := by
    have h : (porMarked s).inForce F.SUPPLY.CFG.PREF < 2 ^ F.SUPPLY.CFG.PREF.w := Nat.mod_lt _ (by decide)
    exact Nat.le_of_lt_succ h
  have hpow (n : Nat) (hn : n ≤ 1) : 2 ^ n < 4 := lt_of_le_of_lt (Nat.pow_le_pow_right (by decide) hn) (by decide)
  unfold State.fetSet
  split
  · have h0 := hbit ((porMarked s).usable 0 && !natBit (porMarked s).supply.revOff 0)
    have h1 := hbit ((porMarked s).usable 1 && !natBit (porMarked s).supply.revOff 1)
    unfold State.fetDiode
    omega
  · simp only [State.fetPrio]
    split
    · exact hpow _ hpref
    · split
      · exact hpow _ (by omega)
      · decide

theorem porDriven_shows (s : State) :
    (porDriven s).get pSUPPLY F.SUPPLY.STS.A_VALID = (if s.supply.sinceA.isSome then 1 else 0) ∧
      (porDriven s).get pSUPPLY F.SUPPLY.SWCNT.COUNT = (if (porDriven s).get pSUPPLY F.SUPPLY.STS.FET = 0 then 0 else 1) ∧
      (porDriven s).get pRESET F.RESET.CORE_RESETS.COUNT = 0 := by
  have hcount : (porMarked s).get pSUPPLY F.SUPPLY.SWCNT.COUNT = 0 := (get_porMarked s (by decide) (by decide) (by decide)).trans (by decide)
  have hfet : (porMarked s).get pSUPPLY F.SUPPLY.STS.FET = 0 := (get_porMarked s (by decide) (by decide) (by decide)).trans (by decide)
  have hresets : (porMarked s).get pRESET F.RESET.CORE_RESETS.COUNT = 0 := by
    simp (disch := decide) only [porMarked, State.setB, State.get_set_apart, get_cause, State.get_set_same]
    rfl
  unfold porDriven
  split
  case isTrue hzero =>
    rw [get_porMarked_valid, hcount]
    exact ⟨rfl, rfl, hresets⟩
  case isFalse hsome =>
    have hmod : (porMarked s).fetSet % 2 ^ F.SUPPLY.STS.FET.w = (porMarked s).fetSet := Nat.mod_eq_of_lt (porMarked_fetSet_lt s)
    simp (disch := decide) only [State.setFet, State.bump_set, State.event_get, State.get_set_apart, State.get_set_same, get_porMarked_valid,
      hcount, hmod, hresets, if_neg hsome]
    exact ⟨trivial, rfl, trivial⟩

theorem setFet_parts (s : State) (new : Nat) : (s.setFet new).pwr = s.pwr ∧ (s.setFet new).slots = s.slots ∧ (s.setFet new).supply = s.supply := by
  simp [State.setFet, State.bump_set]

theorem porMarked_parts (s : State) : (porMarked s).pwr = (porCleared s).pwr ∧ (porMarked s).slots = [] := by
  simp [porMarked, State.setB, State.cause, porCleared]

theorem porDriven_parts (s : State) : (porDriven s).pwr = (porCleared s).pwr ∧ (porDriven s).slots = [] ∧
    (porDriven s).supply = (porMarked s).supply := by
  unfold porDriven
  split
  · exact ⟨(porMarked_parts s).1, (porMarked_parts s).2, rfl⟩
  · obtain ⟨hpwr, hslots, hsupply⟩ := setFet_parts (porMarked s) (porMarked s).fetSet
    exact ⟨hpwr.trans (porMarked_parts s).1, hslots.trans (porMarked_parts s).2, hsupply⟩

/-! The Monument's checks at the POR (R474). -/

/-- What the erasures of a POR, which make no record, do to a state. -/
theorem lifeErase_quiet (s : State) (root : List Byte) :
    ∃ slots, s.lifeErase root false = { s with mon := { s.mon with roots := [(s.mon.fuse, root)], slots := slots } } := by
  have hfold : ∀ (l : List Nat) (t : State), ∃ slots,
      l.foldl (fun st i => if erasedBy st.mon.fuse (st.key i) then st.setKey i KeySlot.empty else st) t =
        { t with mon := { t.mon with slots := slots } } := by
    intro l
    induction l with
    | nil => exact fun t => ⟨_, rfl⟩
    | cons i l ih =>
      intro t
      rw [List.foldl_cons]
      split
      · obtain ⟨slots, h⟩ := ih (t.setKey i KeySlot.empty)
        exact ⟨slots, h⟩
      · exact ih t
  unfold State.lifeErase
  generalize List.range 97 = slots
  exact hfold slots { s with mon := { s.mon with roots := [(s.mon.fuse, root)] } }

/-- What the checks of the POR leave: no operation and no request, and the other parts as they were. -/
structure PorChecked (r s : State) : Prop where
  op : s.mon.op = none
  request : s.mon.request = none
  pwr : s.pwr = r.pwr
  slots : s.slots = r.slots
  supply : s.supply = r.supply
  get_eq : ∀ {p : Nat} {f : Fld}, p ≠ pMONUMENT → f.fits = true → s.get p f = r.get p f

theorem PorChecked.cleared {r t : State} (h : PorChecked r t) (g : State) (hg : g = { t with mon := g.mon })
    (hop : g.mon.op = none) (hreq : g.mon.request = none) : PorChecked r g := by
  have hregs : g.regs = t.regs := by rw [hg]
  exact ⟨hop, hreq, by rw [hg]; exact h.pwr, by rw [hg]; exact h.slots, by rw [hg]; exact h.supply,
    fun hp hf => (State.get_congr hregs _ _).trans (h.get_eq hp hf)⟩

theorem PorChecked.marked {r t : State} (h : PorChecked r t) : PorChecked r
    ((({ t with mon := { t.mon with lost := false } }).set pMONUMENT F.MONUMENT.STS.COND 1).event pMONUMENT 13) := by
  have hapart {p : Nat} (g : Fld) {f : Fld} (hp : p ≠ pMONUMENT) : Fld.apart pMONUMENT g p f = true := by simp [Fld.apart, Ne.symm hp]
  refine ⟨by simpa using h.op, by simpa using h.request, by simpa using h.pwr, by simpa using h.slots, by simpa using h.supply, fun hp hf => ?_⟩
  rw [State.event_get, State.get_set_apart _ _ _ _ _ _ (hapart _ hp) (by decide) hf,
    State.get_set_apart _ _ _ _ _ _ (hapart _ hp) (by decide) hf, ← h.get_eq hp hf]
  exact State.get_of_words fun _ _ => rfl

theorem monPor_checked (s : State) : PorChecked s s.monPor := by
  unfold State.monPor
  extract_lets sl mon s1 s2 s3
  have h1 : PorChecked s s1 := ⟨rfl, rfl, rfl, rfl, rfl, fun _ _ => State.get_of_words fun _ _ => rfl⟩
  have h2 : PorChecked s s2 := by
    change PorChecked s (if _ then s1 else (s1.lifeErase (s1.rnd 48) false).nextFree)
    split
    · exact h1
    · obtain ⟨slots, hquiet⟩ := lifeErase_quiet s1 (s1.rnd 48)
      rw [hquiet]
      exact ⟨rfl, rfl, rfl, rfl, rfl, fun _ _ => State.get_of_words fun _ _ => rfl⟩
  split
  · exact h2.marked
  · exact h2

end Sys2Proof.PowerStates

open Sys2Proof.PowerStates

namespace Sys2Proof.PowerStates

variable {s : State} {clk : Nat}

theorem running_asked (s : State) (req p : Nat) : (asked s req).running p = s.running p := by
  have hapart : Fld.apart pSYS F.SYS.PSTATE.REQ p F.HDR.PSTS.RUN = true := by
    by_cases hp : p = pSYS
    · subst hp; decide
    · simp [Fld.apart, Ne.symm hp]
  rw [State.running, State.flag, get_asked s req hapart (by decide), State.running, State.flag]

theorem planOn_asked (s : State) (req : Nat) : (asked s req).planOn = s.planOn := by
  rw [State.planOn, get_asked s req (by decide) (by decide), State.planOn]

/-- A request for another state, with no plan under way, is what it asks for (R38, R41). -/
theorem pstateAct_asked {req : Nat} (hcur : s.get pSYS F.SYS.PSTATE.CUR ≠ req) (hres : req ≠ 3) (hoff : s.planOn = false) :
    (asked s req).pstateAct req =
      if req = 2 then (asked s req).powerDown true else if req = 1 then (asked s req).askWatch else (asked s req).pstateBegin .run := by
  have hne : ¬ req = (asked s req).get pSYS F.SYS.PSTATE.CUR := by
    rw [get_asked s req (by decide) (by decide)]; exact Ne.symm hcur
  have hplan : ¬ (asked s req).planOn = true := by rw [planOn_asked, hoff]; decide
  rw [State.pstateAct, if_neg hne, if_neg hres, if_neg hplan]

theorem askWatch_free (hrole : s.role = 0) (hfree : watchBlockers.find? s.running = none) :
    (asked s 1).askWatch = (asked s 1).pstateBegin .watch := by
  have hrole' : ¬ (asked s 1).role ≠ 0 := by
    rw [State.role, get_asked s 1 (by decide) (by decide)]; exact not_not_intro hrole
  rw [State.askWatch, if_neg hrole', show (asked s 1).running = s.running from funext (running_asked s 1), hfree]

theorem askWatch_blocked {p : Nat} (hrole : s.role = 0) (hblock : watchBlockers.find? s.running = some p) :
    (asked s 1).askWatch = (asked s 1).pstateReject 1 p := by
  have hrole' : ¬ (asked s 1).role ≠ 0 := by
    rw [State.role, get_asked s 1 (by decide) (by decide)]; exact not_not_intro hrole
  rw [State.askWatch, if_neg hrole', show (asked s 1).running = s.running from funext (running_asked s 1), hblock]

/-- A rejected request (R38, R42). -/
theorem reject_asked {req : Nat} (cause blocker : Nat) (hbusy : s.get pSYS F.SYS.PSTATE.BUSY = 0) :
    ((asked s req).pstateReject cause blocker).get pSYS F.SYS.PSTATE.REJ = 1 ∧
      ((asked s req).pstateReject cause blocker).get pSYS F.SYS.PSTATE.CAUSE = cause % 2 ^ F.SYS.PSTATE.CAUSE.w ∧
      ((asked s req).pstateReject cause blocker).get pSYS F.SYS.PSTATE.BLOCKER = blocker % 2 ^ F.SYS.PSTATE.BLOCKER.w ∧
      ((asked s req).pstateReject cause blocker).pwr = s.pwr ∧
      ((asked s req).pstateReject cause blocker).get pSYS F.SYS.PSTATE.BUSY = 0 ∧
      PstateOnly s ((asked s req).pstateReject cause blocker) := by
  obtain ⟨hrej, hcause, hblocker, hpwr, hb, honly⟩ := pstateReject_shows (asked s req) cause blocker
  exact ⟨hrej, hcause, hblocker, hpwr.trans (asked_pwr s req), hb.trans ((get_asked s req (by decide) (by decide)).trans hbusy),
    fun k hk => (honly k hk).trans (asked_only s req k hk)⟩

/-- A transition that begins (R37). -/
theorem begin_asked (s : State) {req : Nat} (hreq : req < 4) (p : Power) :
    ((asked s req).pstateBegin p).get pSYS F.SYS.PSTATE.BUSY = 1 ∧ ((asked s req).pstateBegin p).get pSYS F.SYS.PSTATE.REQ = req ∧
      ((asked s req).pstateBegin p).pwr.target = some p ∧ PstateOnly s ((asked s req).pstateBegin p) := by
  obtain ⟨hb, hr, ht, honly⟩ := pstateBegin_shows (asked s req) p
  refine ⟨hb, hr.trans ?_, ht, fun k hk => (honly k hk).trans (asked_only s req k hk)⟩
  rw [asked, State.get_set_same _ _ _ _ (by decide)]
  exact Nat.mod_eq_of_lt hreq

theorem coreOn_of_accepts {p : Nat} (h : s.accepts p = true) : s.coreOn = true := by
  simp only [State.accepts, State.reaches, Bool.and_eq_true] at h
  obtain ⟨⟨⟨⟨hon, -⟩, -⟩, -⟩, -⟩ := h
  exact hon

end Sys2Proof.PowerStates

/-- Settles O47: a request is written, then acted on or stored; the guard die's start by what its POR clears and sets. -/
theorem powerStates : Obligations.PowerStates := by
  unfold Obligations.PowerStates
  refine ⟨?_, ?_, ?_, ?_, ?_, ?_, ?_, ?_, ?_, ?_, ?_⟩
  · intro clk s ha hidle hone hoff
    have hcur : (s.advance clk).get pSYS F.SYS.PSTATE.CUR ≠ 0 := by rw [show (s.advance clk).get pSYS F.SYS.PSTATE.CUR = 1 from hone]; decide
    have heq := (reqWrite_acts (req := 0) ha hidle).trans (pstateAct_asked hcur (by decide) hoff)
    exact ⟨_, next_of_eq heq rfl, begin_asked (s.advance clk) (by decide) .run⟩
  · intro clk s ha hidle hzero hoff hrole hfree
    have hcur : (s.advance clk).get pSYS F.SYS.PSTATE.CUR ≠ 1 := by rw [show (s.advance clk).get pSYS F.SYS.PSTATE.CUR = 0 from hzero]; decide
    have heq := (reqWrite_acts (req := 1) ha hidle).trans (pstateAct_asked hcur (by decide) hoff)
    have hwatch := askWatch_free (s := s.advance clk) hrole hfree
    exact ⟨_, next_of_eq (heq.trans hwatch) rfl, begin_asked (s.advance clk) (by decide) .watch⟩
  · intro clk p s ha hidle hzero hoff hrole hblock
    have hcur : (s.advance clk).get pSYS F.SYS.PSTATE.CUR ≠ 1 := by rw [show (s.advance clk).get pSYS F.SYS.PSTATE.CUR = 0 from hzero]; decide
    have heq := (reqWrite_acts (req := 1) ha hidle).trans (pstateAct_asked hcur (by decide) hoff)
    have hwatch := askWatch_blocked (s := s.advance clk) hrole hblock
    obtain ⟨hrej, hcause, hblocker, hpwr, hb, honly⟩ := reject_asked (s := s.advance clk) (req := 1) 1 p hidle
    exact ⟨_, next_of_eq (heq.trans hwatch) rfl, hrej, hcause, hblocker.trans (Nat.mod_eq_of_lt (blocker_lt hblock)), hpwr, hb, honly⟩
  · intro clk s ha hidle hlow hoff
    have hcur : (s.advance clk).get pSYS F.SYS.PSTATE.CUR ≠ 2 := fun h => by
      have : s.get pSYS F.SYS.PSTATE.CUR = 2 := h
      omega
    have heq := (reqWrite_acts (req := 2) ha hidle).trans (pstateAct_asked hcur (by decide) hoff)
    have hon : (asked (s.advance clk) 2).coreOn = true := by
      rw [State.coreOn, asked_pwr]; exact coreOn_of_accepts ha
    obtain ⟨hmain, hany⟩ := powerDown_keep _ hon
    refine ⟨_, next_of_eq heq rfl, powerDown_power _ _, hmain.trans ?_, hany.trans ?_, get_powerDown_pgCore _ _, get_powerDown_pfw _ _, ?_⟩
    · rw [State.flag, get_asked _ _ (by decide) (by decide)]; rfl
    · rw [State.flag, get_asked _ _ (by decide) (by decide)]; rfl
    · rw [if_pos rfl, powerDown_supply, asked_clock]; rfl
  · intro clk s ha hidle hcur
    have hne : ¬ 3 = (asked (s.advance clk) 3).get pSYS F.SYS.PSTATE.CUR := by
      rw [get_asked _ _ (by decide) (by decide)]; exact Ne.symm hcur
    have heq : (s.advance clk).reqWrite 3 = (asked (s.advance clk) 3).pstateReject 3 0 := by
      rw [reqWrite_acts ha hidle, State.pstateAct, if_neg hne, if_pos rfl]
    obtain ⟨hrej, hcause, -, hpwr, hb, honly⟩ := reject_asked (s := s.advance clk) (req := 3) 3 0 hidle
    exact ⟨_, next_of_eq heq rfl, hrej, hcause, hpwr, hb, honly⟩
  · intro clk s ha hidle hzero hon
    have hne : ¬ 2 = (asked (s.advance clk) 2).get pSYS F.SYS.PSTATE.CUR := by
      rw [get_asked _ _ (by decide) (by decide), show (s.advance clk).get pSYS F.SYS.PSTATE.CUR = 0 from hzero]; decide
    have hplan : (asked (s.advance clk) 2).planOn = true := (planOn_asked _ _).trans hon
    have heq : (s.advance clk).reqWrite 2 = (asked (s.advance clk) 2).pstateReject 4 0 := by
      rw [reqWrite_acts ha hidle, State.pstateAct, if_neg hne, if_neg (by decide), if_pos hplan]
    obtain ⟨hrej, hcause, -, hpwr, -, -⟩ := reject_asked (s := s.advance clk) (req := 2) 4 0 hidle
    exact ⟨_, next_of_eq heq rfl, hrej, hcause, hpwr⟩
  · intro clk s ha hbusy
    have heq := reqWrite_stores (req := 1) ha hbusy
    refine ⟨_, next_of_eq heq rfl, rfl, by simp [State.pstateStore], by simp [State.pstateStore], ?_, ?_⟩ <;>
      rw [State.pstateStore, State.get_with_pwr]
    · rw [asked, State.get_set_same _ _ _ _ (by decide)]; rfl
    · rw [get_asked _ _ (by decide) (by decide)]; exact hbusy
  · intro clk p s htarget hstored
    obtain ⟨hpower, htgt, hb, hcur⟩ := pstateDone_shows (s := s.advance clk) htarget hstored
    exact ⟨_, rfl, hpower, htgt, hb, hcur⟩
  · intro clk s hpower
    exact ⟨_, next_of_eq (if_pos hpower) rfl, rfl, rfl, rfl, rfl, rfl, rfl⟩
  · intro clk s hpower
    have hchecked := monPor_checked (porDriven (s.advance clk))
    obtain ⟨hvalid, hcount, hresets⟩ := porDriven_shows (s.advance clk)
    obtain ⟨hpwr, hslots, hsupply⟩ := porDriven_parts (s.advance clk)
    refine ⟨_, next_of_eq (guardPor_eq (s := s.advance clk) hpower) rfl, ?_, ?_, ?_, ?_, ?_, ?_, ?_, ?_, hchecked.op, hchecked.request⟩
    · rw [hchecked.pwr, hpwr]; rfl
    · rw [hchecked.pwr, hpwr]; rfl
    · rw [hchecked.slots, hslots]
    · rw [hchecked.supply, hsupply, porMarked_supply]; rfl
    · rw [hchecked.get_eq (by decide) (by decide), hresets]
    · rw [hchecked.supply, hsupply, porMarked_supply]
      exact natBit_natPut_one_same 0 1
    · rw [hchecked.get_eq (by decide) (by decide), hvalid]; rfl
    · rw [hchecked.get_eq (by decide) (by decide), hchecked.get_eq (by decide) (by decide), hcount]
  · intro clk s hon
    exact ⟨_, rfl, guardLost_shows (s := s.advance clk) hon⟩

end

section
/-!
PROOFS. The resets of the core die (R45, R509–R511, R524–R529): what a release shows, what a reset keeps, the watchdog and the reset
command, and the domain resets.
-/

open Sys2Proof Sys2Proof.Machine Sys2Proof.Laws

namespace Sys2Proof.CoreReset

variable {s : State}

/-! Release (R509, R511, R529). -/

/-- The start of the channels touches their pages and states alone. -/
theorem slotsKick_only (s : State) : Kept (frameScope [] (fun p => famOf p == some Fam.slot) [.slots]) s s.slotsKick :=
  slotsKick_kept (Kept.refl _ s) rfl fun n => frameScope_page_of_named (by simp)

theorem slotRamp_still (s : State) (n : Nat) : Still s (s.slotRamp n) := by
  unfold State.slotRamp
  split
  · exact ⟨by simp [State.startRamp, State.setSlotState, State.setSlot], by simp [State.startRamp, State.setSlotState, State.setSlot]⟩
  · exact .refl s
theorem slotFill_still (s : State) (n : Nat) : Still s (s.slotFill n) := by
  unfold State.slotFill; split
  · exact set_still _ _ _ _
  · exact .refl s
theorem slotLeave_still (s : State) (n : Nat) : Still s (s.slotLeave n) := by
  unfold State.slotLeave; split
  · exact set_still _ _ _ _
  · exact .refl s
theorem slotsKick_still (s : State) : Still s s.slotsKick :=
  .foldl (fun t n => ((slotLeave_still t n).trans (slotFill_still _ n)).trans (slotRamp_still _ n)) _ s

theorem blockFault_parts (s : State) (p : Nat) : (s.blockFault p).pwr = s.pwr ∧ (s.blockFault p).supply = s.supply ∧
    (s.blockFault p).datum = s.datum ∧ (s.blockFault p).rst = s.rst ∧ (s.blockFault p).clock = s.clock := by
  unfold State.blockFault; split <;> simp

theorem get_blockFault_beside (s : State) {p q : Nat} {f : Fld} (hf : f.fits = true) (hfault : Fld.apart p F.HDR.PSTS.FAULT q f = true)
    (hevent : Fld.apart p ⟨0x0C, 1, 1⟩ q f = true) : (s.blockFault p).get q f = s.get q f := by
  unfold State.blockFault
  split
  · rfl
  · rw [State.event_get, State.get_set_apart _ _ _ _ _ _ hevent (by decide) hf, State.get_set_apart _ _ _ _ _ _ hfault (by decide) hf]

/-- What every release shows. -/
structure Released (s t : State) : Prop where
  power : t.pwr = { s.pwr with power := .run }
  causes : t.supply = { s.supply with causes := 0 }
  rst : t.rst = s.rst
  raw : t.raw = 0
  clock : t.clock = s.clock
  nid : t.get pSYS F.SYS.STRAP.NID = s.pwr.straps.nid % 2 ^ F.SYS.STRAP.NID.w
  role : t.get pSYS F.SYS.STRAP.ROLE = s.pwr.straps.role % 2 ^ F.SYS.STRAP.ROLE.w
  boot : t.get pSYS F.SYS.STRAP.BOOT = s.pwr.straps.boot % 2 ^ F.SYS.STRAP.BOOT.w
  cause : t.get pRESET F.RESET.CAUSE.all = s.supply.causes % 2 ^ 32
  count : t.get pRESET F.RESET.CORE_RESETS.COUNT = (s.get pRESET F.RESET.CORE_RESETS.COUNT + 1) % 2 ^ 32
  reserved : s.pwr.straps.role = 3 → t.get pSYS F.SYS.BOOTSTS.STAGE = 8 ∧ t.get pSYS F.SYS.BOOTSTS.ERR = 8
  noNid : s.pwr.straps.nid = 0 → t.get pSYS F.HDR.PSTS.FAULT = 1

/-- The straps, the causes and the count of starts at a release. -/
def sampled (s : State) : State :=
  let s2 := (((s.rawRestart.set pSYS F.SYS.SERIAL.SN s.pwr.serial).set pSYS F.SYS.STRAP.NID s.pwr.straps.nid).set pSYS
    F.SYS.STRAP.ROLE s.pwr.straps.role).set pSYS F.SYS.STRAP.BOOT s.pwr.straps.boot
  let s3 := (s2.set pRESET F.RESET.CAUSE.all s.supply.causes).bump pRESET F.RESET.CORE_RESETS.COUNT
  { s3 with supply := { s3.supply with causes := 0 } }

/-- ... with the fault of NID straps that read 0 (R16). -/
def checkedNid (s : State) : State := if s.pwr.straps.nid = 0 then (sampled s).blockFault pSYS else sampled s

theorem corePor_eq (s : State) : s.corePor = if s.pwr.straps.role = 3 then
    ((((checkedNid s).set pSYS F.SYS.BOOTSTS.STAGE 8).set pSYS F.SYS.BOOTSTS.ERR 8).blockFault pSYS).event pSYS 10 else checkedNid s := rfl

theorem sampled_parts (s : State) : (sampled s).pwr = { s.pwr with power := .run } ∧ (sampled s).supply = { s.supply with causes := 0 } ∧
    (sampled s).datum = { s.datum with rawOrg := s.clock } ∧ (sampled s).rst = s.rst ∧ (sampled s).clock = s.clock := by
  simp [sampled, State.bump_set, State.rawRestart]

theorem corePor_parts (s : State) : s.corePor.pwr = { s.pwr with power := .run } ∧ s.corePor.supply = { s.supply with causes := 0 } ∧
    s.corePor.datum = { s.datum with rawOrg := s.clock } ∧ s.corePor.rst = s.rst ∧ s.corePor.clock = s.clock := by
  have hnid : (checkedNid s).pwr = { s.pwr with power := .run } ∧ (checkedNid s).supply = { s.supply with causes := 0 } ∧
      (checkedNid s).datum = { s.datum with rawOrg := s.clock } ∧ (checkedNid s).rst = s.rst ∧ (checkedNid s).clock = s.clock := by
    obtain ⟨h1, h2, h3, h4, h5⟩ := sampled_parts s
    obtain ⟨b1, b2, b3, b4, b5⟩ := blockFault_parts (sampled s) pSYS
    unfold checkedNid
    split
    · exact ⟨b1.trans h1, b2.trans h2, b3.trans h3, b4.trans h4, b5.trans h5⟩
    · exact ⟨h1, h2, h3, h4, h5⟩
  obtain ⟨h1, h2, h3, h4, h5⟩ := hnid
  rw [corePor_eq]
  split
  · obtain ⟨b1, b2, b3, b4, b5⟩ := blockFault_parts (((checkedNid s).set pSYS F.SYS.BOOTSTS.STAGE 8).set pSYS F.SYS.BOOTSTS.ERR 8) pSYS
    simp only [State.set_pwr, State.set_supply, State.set_datum, State.set_rst, State.set_clock] at b1 b2 b3 b4 b5
    simp only [State.event_pwr, State.event_supply, State.event_datum, State.event_rst, State.event_clock]
    exact ⟨b1.trans h1, b2.trans h2, b3.trans h3, b4.trans h4, b5.trans h5⟩
  · exact ⟨h1, h2, h3, h4, h5⟩

/-- A field that neither fault nor STAGE and ERR are part of is as it was sampled. -/
theorem get_corePor_sampled (s : State) {q : Nat} {f : Fld} (hf : f.fits = true) (hfault : Fld.apart pSYS F.HDR.PSTS.FAULT q f = true)
    (hevent : Fld.apart pSYS ⟨0x0C, 1, 1⟩ q f = true) (hevent' : Fld.apart pSYS ⟨0x0C, 10, 1⟩ q f = true)
    (hstage : Fld.apart pSYS F.SYS.BOOTSTS.STAGE q f = true) (herr : Fld.apart pSYS F.SYS.BOOTSTS.ERR q f = true) :
    s.corePor.get q f = (sampled s).get q f := by
  have hnid : (checkedNid s).get q f = (sampled s).get q f := by
    unfold checkedNid
    split
    · exact get_blockFault_beside _ hf hfault hevent
    · rfl
  rw [corePor_eq]
  split
  · rw [State.event_get, State.get_set_apart _ _ _ _ _ _ hevent' (by decide) hf, get_blockFault_beside _ hf hfault hevent,
      State.get_set_apart _ _ _ _ _ _ herr (by decide) hf, State.get_set_apart _ _ _ _ _ _ hstage (by decide) hf, hnid]
  · exact hnid

theorem get_sampled (s : State) :
    (sampled s).get pSYS F.SYS.STRAP.NID = s.pwr.straps.nid % 2 ^ F.SYS.STRAP.NID.w ∧
      (sampled s).get pSYS F.SYS.STRAP.ROLE = s.pwr.straps.role % 2 ^ F.SYS.STRAP.ROLE.w ∧
      (sampled s).get pSYS F.SYS.STRAP.BOOT = s.pwr.straps.boot % 2 ^ F.SYS.STRAP.BOOT.w ∧
      (sampled s).get pRESET F.RESET.CAUSE.all = s.supply.causes % 2 ^ 32 ∧
      (sampled s).get pRESET F.RESET.CORE_RESETS.COUNT = (s.get pRESET F.RESET.CORE_RESETS.COUNT + 1) % 2 ^ 32 := by
  have hraw (p : Nat) (f : Fld) : s.rawRestart.get p f = s.get p f := State.get_of_words fun _ _ => rfl
  refine ⟨?_, ?_, ?_, ?_, ?_⟩ <;>
    simp (disch := decide) only [sampled, State.get_with_supply, State.bump_set, State.get_set_apart, State.get_set_same, hraw] <;> rfl

theorem corePor_released (s : State) : Released s s.corePor.slotsKick := by
  have hk := slotsKick_only s.corePor
  obtain ⟨hpwr, hsupply, hdatum, hrst, hclock⟩ := corePor_parts s
  obtain ⟨hnid, hrole, hboot, hcause, hcount⟩ := get_sampled s
  have hget {q : Nat} {f : Fld} (h1 : ∀ i < f.words, (frameScope [] (fun p => famOf p == some Fam.slot) [.slots]).reg
      (regKey q (f.off + 4 * i)) = false) : s.corePor.slotsKick.get q f = s.corePor.get q f := hk.get_eq h1
  have hclock' : s.corePor.slotsKick.clock = s.clock := (slotsKick_still _).clock.trans hclock
  refine ⟨(hk.part .pwr rfl).trans hpwr, (hk.part .supply rfl).trans hsupply, (hk.part .rst rfl).trans hrst, ?_, hclock', ?_, ?_, ?_, ?_, ?_,
    fun hres => ?_, fun hzero => ?_⟩
  · rw [State.raw, hclock', show s.corePor.slotsKick.datum = _ from hk.part .datum rfl, hdatum]
    exact Nat.sub_self _
  · rw [hget (by decide), get_corePor_sampled s (by decide) (by decide) (by decide) (by decide) (by decide) (by decide), hnid]
  · rw [hget (by decide), get_corePor_sampled s (by decide) (by decide) (by decide) (by decide) (by decide) (by decide), hrole]
  · rw [hget (by decide), get_corePor_sampled s (by decide) (by decide) (by decide) (by decide) (by decide) (by decide), hboot]
  · rw [hget (by decide), get_corePor_sampled s (by decide) (by decide) (by decide) (by decide) (by decide) (by decide), hcause]
  · rw [hget (by decide), get_corePor_sampled s (by decide) (by decide) (by decide) (by decide) (by decide) (by decide), hcount]
  · rw [hget (by decide), hget (by decide), corePor_eq, if_pos hres]
    constructor <;> rw [State.event_get, State.get_set_apart _ _ _ _ _ _ (by decide) (by decide) (by decide),
      get_blockFault_beside _ (by decide) (by decide) (by decide)]
    · rw [State.get_set_apart _ _ _ _ _ _ (by decide) (by decide) (by decide), State.get_set_same _ _ _ _ (by decide)]; rfl
    · rw [State.get_set_same _ _ _ _ (by decide)]; rfl
  · have hchecked : (checkedNid s).get pSYS F.HDR.PSTS.FAULT = 1 := by
      rw [checkedNid, if_pos hzero]; exact State.get_blockFault_same _ _
    rw [hget (by decide), corePor_eq]
    split
    · rw [State.event_get, State.get_set_apart _ _ _ _ _ _ (by decide) (by decide) (by decide)]
      exact State.get_blockFault_same _ _
    · exact hchecked

/-! Into reset (R510, R524, R527). -/

/-- The registers that a core-die reset keeps, beside the guard die's pages. -/
theorem get_coreHold_kept {p : Nat} {f : Fld} (hkept : ∀ i < f.words, coreKept (regKey p (f.off + 4 * i)) = true) (hpage : p ≠ pMONUMENT)
    (hf : f.fits = true) (hlock : Fld.apart 0 F.HDR.PCTL.LOCK 0 f = true) : s.coreHold.get p f = s.get p f := by
  have hfits : f.off + 4 * f.words ≤ 4096 := of_decide_eq_true hf
  calc s.coreHold.get p f
    _ = s.calCut.monCut.wipeCore.unlockGuard.get p f := by rw [State.coreHold, State.get_with_pwr]
    _ = s.calCut.monCut.wipeCore.get p f := get_foldl_set_zero hlock (by decide) hf p _ _
    _ = s.calCut.monCut.get p f := State.get_of_words fun i hi => tabGet_filter _ coreKept (hkept i hi) _
    _ = s.get p f := (calCut_monCut_kept s).get_eq fun i hi => by
      have hkey : regKey p (f.off + 4 * i) / 4096 = p := by unfold regKey; omega
      simpa [frameScope, hkey] using hpage

theorem coreHold_pwr (s : State) : s.coreHold.pwr.rstN = s.pwr.rstN ∧ s.coreHold.pwr.straps = s.pwr.straps := by
  have hcut : s.calCut.monCut.pwr = s.pwr := (calCut_monCut_kept s).part .pwr rfl
  have hunlock : s.calCut.monCut.wipeCore.unlockGuard.pwr = s.pwr := (PowerStates.foldl_set_pwr _ _ _ _).trans hcut
  rw [State.coreHold]
  simp only [hunlock, and_self]

/-- Clearing LOCK on the guard die's pages moves nothing but registers. -/
theorem foldl_set_parts (f : Fld) (v : Nat) : ∀ (pages : List Nat) (s : State),
    (pages.foldl (fun st p => st.set p f v) s).rst = s.rst ∧ (pages.foldl (fun st p => st.set p f v) s).mem = s.mem ∧
      (pages.foldl (fun st p => st.set p f v) s).engs = s.engs ∧ (pages.foldl (fun st p => st.set p f v) s).cans = s.cans ∧
      (pages.foldl (fun st p => st.set p f v) s).ports = s.ports ∧ (pages.foldl (fun st p => st.set p f v) s).cal = s.cal
  | [], _ => ⟨rfl, rfl, rfl, rfl, rfl, rfl⟩
  | p :: rest, s => by
    obtain ⟨h1, h2, h3, h4, h5, h6⟩ := foldl_set_parts f v rest (s.set p f v)
    simp only [State.set_rst, State.set_mem, State.set_engs, State.set_cans, State.set_ports, State.set_cal] at h1 h2 h3 h4 h5 h6
    exact ⟨h1, h2, h3, h4, h5, h6⟩

theorem unlockGuard_parts (s : State) : s.unlockGuard.rst = s.rst ∧ s.unlockGuard.mem = s.mem ∧ s.unlockGuard.engs = s.engs ∧
    s.unlockGuard.cans = s.cans ∧ s.unlockGuard.ports = s.ports ∧ s.unlockGuard.cal = s.cal := foldl_set_parts _ _ _ _

theorem coreHold_parts (s : State) : s.coreHold.rst = ResetSt.init ∧ s.coreHold.mem = [] ∧ s.coreHold.engs = [] ∧ s.coreHold.cans = [] ∧
    s.coreHold.ports = [] ∧ s.coreHold.cal.mtp = s.calCut.monCut.cal.mtp := by
  obtain ⟨h1, h2, h3, h4, h5, h6⟩ := unlockGuard_parts s.calCut.monCut.wipeCore
  simp only [State.coreHold, h1, h2, h3, h4, h5, h6]
  exact ⟨rfl, rfl, rfl, rfl, rfl, rfl⟩

theorem calCut_idle (h : s.cal.prog = none) : s.calCut = s := by simp only [State.calCut, h]

theorem monCut_cal (s : State) : s.monCut.cal = s.cal := by
  have hk : Kept (frameScope [] (· == pMONUMENT) [.mon, .life]) s s.monCut :=
    monCut_kept (Kept.refl _ s) rfl rfl (frameScope_page_of_named rfl)
  exact hk.part .cal rfl

theorem rd_foldl_set {f : Fld} (v : Nat) {q o : Nat} (hf : f.fits = true) (ho : o < 4096) : ∀ (pages : List Nat) (s : State), q ∉ pages →
    (pages.foldl (fun st p => st.set p f v) s).rd q o = s.rd q o
  | [], _, _ => rfl
  | p :: rest, s, h => by
    rw [List.foldl_cons, rd_foldl_set v hf ho rest _ (List.not_mem_of_not_mem_cons h),
      State.rd_set_ne _ _ _ _ hf ho (.inl (List.ne_of_not_mem_cons h))]

/-- A word of a page on the core die that no reset keeps reads its reset value. -/
theorem rd_coreHold (s : State) {q o : Nat} (hguard : guardPage q = false) (hdrop : coreKept (regKey q o) = false) :
    s.coreHold.rd q o = regDefault (regKey q o) := by
  have hmod : regKey q (o % 4096) = regKey q o := by unfold regKey; rw [Nat.mod_mod]
  have hnot : q ∉ guardPages := fun h => by
    rw [(List.mem_filter.mp h).2] at hguard; cases hguard
  have hregs : s.coreHold.regs = s.calCut.monCut.wipeCore.unlockGuard.regs := by rw [State.coreHold]
  calc s.coreHold.rd q o
    _ = s.calCut.monCut.wipeCore.unlockGuard.rd q (o % 4096) := by rw [State.rd, State.rd, hmod, hregs]
    _ = s.calCut.monCut.wipeCore.rd q (o % 4096) := rd_foldl_set 0 (by decide) (Nat.mod_lt _ (by decide)) guardPages _ hnot
    _ = regDefault (regKey q o) := by
      rw [State.rd, hmod]
      exact PowerStates.tabGet_filter_dropped _ hdrop _

/-! Causes of a reset (R527, R529). -/

/-- A bit of a field that starts at bit 0, as a field of its own. -/
theorem get_bit_of_testBit {p o w b : Nat} (hb : b < 32) (h : (s.get p ⟨o, 0, w⟩).testBit b = true) : s.get p ⟨o, b, 1⟩ = 1 := by
  have hone : (s.get p ⟨o, b, 1⟩).testBit 0 = true := by
    rw [State.get_testBit, Bool.and_eq_true] at h
    rw [State.get_testBit]
    simpa using h.2
  have hlt : s.get p ⟨o, b, 1⟩ < 2 ^ 1 := State.get_lt _ _ _
  rw [Nat.testBit_zero] at hone
  have := of_decide_eq_true hone
  omega

theorem cause_bit {c b : Nat} (s : State) (hb : b < 32) (hc : natBit c b = true)
    (h : s.get pRESET F.RESET.CAUSE.all = c % 2 ^ 32) : s.get pRESET ⟨F.RESET.CAUSE.all.off, b, 1⟩ = 1 := by
  refine get_bit_of_testBit (w := 32) hb ?_
  rw [show s.get pRESET ⟨F.RESET.CAUSE.all.off, 0, 32⟩ = _ from h, Nat.testBit_mod_two_pow, ← natBit_eq_testBit, hc]
  simp [hb]

theorem together_pwr (s : State) : s.together.pwr = s.pwr := by
  have hk : Kept (frameScope [(pRESET, [F.RESET.CORE_RESETS.COUNT])] (fun _ => false) [.supply]) s s.together :=
    together_kept (Kept.refl _ s) rfl (frameScope_fld_of_names rfl)
  exact hk.part .pwr rfl

theorem together_clock (s : State) : s.together.clock = s.clock := by
  have hcause (c : Prop) [Decidable c] (t : State) (b : Nat) : (if c then t.cause b else t).clock = t.clock := by split <;> rfl
  unfold State.together
  extract_lets due first s1 s2 t
  have h2 : s2.clock = s.clock := (hcause _ _ _).trans (hcause _ _ _)
  have hset : t.clock = s.clock := (State.set_clock ..).trans h2
  rw [apply_ite State.clock]
  split
  · exact hset
  · exact h2

theorem together_cal (s : State) : s.together.cal = s.cal := by
  have hk : Kept (frameScope [(pRESET, [F.RESET.CORE_RESETS.COUNT])] (fun _ => false) [.supply]) s s.together :=
    together_kept (Kept.refl _ s) rfl (frameScope_fld_of_names rfl)
  exact hk.part .cal rfl

theorem together_count (s : State) : s.together.get pRESET F.RESET.CORE_RESETS.COUNT =
    if s.clock = s.datum.rawOrg then (s.get pRESET F.RESET.CORE_RESETS.COUNT + 2 ^ 32 - 1) % 2 ^ 32
    else s.get pRESET F.RESET.CORE_RESETS.COUNT := by
  have hcause (c : Prop) [Decidable c] (t : State) (b : Nat) (p : Nat) (f : Fld) : (if c then t.cause b else t).get p f = t.get p f := by
    split
    · exact get_cause _ _ _ _
    · rfl
  unfold State.together
  extract_lets due first s1 s2
  have h2 (p : Nat) (f : Fld) : s2.get p f = s.get p f := (hcause _ _ _ _ _).trans (hcause _ _ _ _ _)
  split
  · rw [State.get_with_supply, State.get_set_same _ _ _ _ (by decide), h2]
    rfl
  · exact h2 _ _

/-- A reset of a hub whose RST_N is high releases it at once. -/
theorem coreReset_shows {b : Nat} (hb : b < 32) (hon : s.coreOn = true ∧ s.pwr.rstN = true) :
    (s.coreReset b).pwr.power = .run ∧ (s.coreReset b).get pRESET ⟨F.RESET.CAUSE.all.off, b, 1⟩ = 1 ∧
      (s.coreReset b).get pRESET F.RESET.CORE_RESETS.COUNT =
        (s.get pRESET F.RESET.CORE_RESETS.COUNT + if s.clock = s.datum.rawOrg then 0 else 1) % 2 ^ 32 ∧
      (s.coreReset b).rst = ResetSt.init ∧ (s.coreReset b).clock = s.clock := by
  have heq : s.coreReset b = (s.together.cause b).coreHold.corePor.slotsKick := by
    rw [State.coreReset, if_pos hon.1]
    refine if_pos ?_
    rw [(coreHold_pwr _).1, cause_pwr, together_pwr]
    exact hon.2
  have hrel := corePor_released (s.together.cause b).coreHold
  rw [← heq] at hrel
  refine ⟨by rw [hrel.power], cause_bit _ hb ?_ hrel.cause, ?_, hrel.rst.trans (coreHold_parts _).1,
    by rw [hrel.clock, coreHold_clock, cause_clock, together_clock]⟩
  · rw [coreHold_supply, cause_supply]
    exact natBit_natPut_one_same _ b
  · have hlt : s.get pRESET F.RESET.CORE_RESETS.COUNT < 2 ^ 32 := State.get_lt _ _ _
    rw [hrel.count, get_coreHold_kept (by decide) (by decide) (by decide) (by decide), get_cause, together_count]
    split <;> omega

/-- RST_N low with the core die running (R510). -/
theorem rstLow_eq (hon : s.coreOn = true) :
    s.rstLow = (({ s with pwr := { s.pwr with rstN := false } } : State).together.cause 3).coreHold := if_pos hon

/-! The watchdog and the reset command (R525, R526). -/

/-- A write of a register of RESET beside the header has its effect. -/
theorem resetWrite_effect {off : Nat} {r : RegRow} {mask data : Word} {src : Source} (ha : s.accepts pRESET = true)
    (hrow : rowAt pRESET off = some r) (hoff : 0x40 ≤ off) (hmask : mask ≠ 0) : s.busWrite pRESET off mask data src =
      s.effBase (s.storeReg pRESET off r mask data) .reset pRESET off mask (data &&& mask) (((s.rd pRESET off) &&& ~~~mask) ||| (data &&& mask)) := by
  have hrun : runOf pRESET = some { first := 1, count := 1, fam := .reset, typ := 2 } := by decide
  have hnow : s.pageNow .reset pRESET = s := rfl
  rw [State.busWrite_row s mask data src hrun hrow, hnow, State.regWrite_accepts ha]
  simp only [State.writeEff, if_neg hmask, if_neg (show ¬ off = 0x04 by omega), if_neg (show ¬ off = 0x14 by omega),
    if_neg (show ¬ off < 0x40 by omega)]

/-- The row of WDOG: TIME and FAULT_FIRST are stored, ARM is written only, EN is the hub's. -/
def wdogRow : RegRow :=
  { fam := .reset, off := 76, n1 := 1, s1 := 0, n2 := 1, s2 := 0, wi := 0, wn := 1, rst := 65536002, rw := 4294967290, rwl := 0, w1c := 0,
    wo := 4, rws := 0, resv := 65528 }

/-- The bits of WDOG that a write stores. -/
def wdogWord (old data : Word) : Word := (old &&& ~~~0xFFFF0002#32) ||| ((data ||| 4#32) &&& 0xFFFF0002#32)

theorem wdogWord_time (old data : Word) : (wdogWord old data).toNat / 65536 = data.toNat / 65536 := by
  have hones : ∀ i < 16, (0xFFFF0002#32).getLsbD (16 + i) = true := by decide
  have hrest : ∀ i < 16, (0xFFFD#32).getLsbD (16 + i) = false := by decide
  have harm : ∀ i < 16, (4#32).getLsbD (16 + i) = false := by decide
  have h : wdogWord old data >>> 16 = data >>> 16 := by
    ext i hi
    by_cases hlow : i < 16
    · simp [wdogWord, BitVec.getElem_ushiftRight, hones i hlow, harm i hlow, hrest i hlow]
    · have hhigh (w : Word) : w.getLsbD (16 + i) = false := BitVec.getLsbD_of_ge w _ (by omega)
      simp [BitVec.getElem_ushiftRight, hhigh]
  have hnat := congrArg BitVec.toNat h
  simpa [BitVec.toNat_ushiftRight, Nat.shiftRight_eq_div_pow] using hnat

theorem wdogWord_en (old data : Word) : (wdogWord old data).toNat.testBit 0 = old.toNat.testBit 0 := by
  simp [wdogWord]

theorem get_wdog (s : State) : s.get pRESET F.RESET.WDOG.TIME = (s.rd pRESET 0x4C).toNat / 65536 ∧
    s.flag pRESET F.RESET.WDOG.EN = (s.rd pRESET 0x4C).toNat.testBit 0 := by
  have hlt : (s.rd pRESET 0x4C).toNat < 2 ^ 32 := (s.rd pRESET 0x4C).isLt
  have hwide : s.wide pRESET 0x4C 1 = (s.rd pRESET 0x4C).toNat := by simp [State.wide]
  refine ⟨?_, ?_⟩
  · change natField (s.wide pRESET 0x4C 1) 16 16 = _
    rw [hwide, natField]; omega
  · change (natField (s.wide pRESET 0x4C 1) 0 1 != 0) = _
    rw [hwide, natField, Nat.testBit_zero]
    have := Nat.mod_two_eq_zero_or_one (s.rd pRESET 0x4C).toNat
    rcases this with h | h <;> simp [h]

/-- WDOG stored, before ARM acts. -/
def wdogStored (s : State) (data : Word) : State :=
  let g := s.storeReg pRESET 0x4C wdogRow 0xFFFFFFFF (data ||| 4)
  g.wr pRESET 0x4C (wdogWord (g.rd pRESET 0x4C) data)

theorem storeReg_wdog (s : State) (d : Word) : ∃ v : Word, s.storeReg pRESET 0x4C wdogRow 0xFFFFFFFF d = s.wr pRESET 0x4C v ∧
    v.toNat.testBit 0 = (s.rd pRESET 0x4C).toNat.testBit 0 := by
  have hm : s.writable pRESET wdogRow &&& 0xFFFFFFFF = 0xFFFFFFFA#32 := by
    unfold State.writable
    split <;> decide
  unfold State.storeReg
  simp only [hm]
  rw [if_neg (by decide), if_neg (by decide)]
  refine ⟨_, rfl, ?_⟩
  simp [wdogRow, w32]

theorem wdogStored_shows (s : State) (data : Word) :
    (∀ k, k ≠ regKey pRESET 0x4C → tabGet regDefault (wdogStored s data).regs k = tabGet regDefault s.regs k) ∧
      (wdogStored s data).rst = s.rst ∧ (wdogStored s data).clock = s.clock ∧
      (wdogStored s data).get pRESET F.RESET.WDOG.TIME = data.toNat / 65536 ∧
      (wdogStored s data).flag pRESET F.RESET.WDOG.EN = s.flag pRESET F.RESET.WDOG.EN := by
  obtain ⟨v, hv, hen⟩ := storeReg_wdog s (data ||| 4)
  have heq : wdogStored s data = (s.wr pRESET 0x4C v).wr pRESET 0x4C (wdogWord v data) := by
    simp only [wdogStored, hv, State.rd_wr, if_true]
  rw [heq]
  refine ⟨fun k hk => ?_, rfl, rfl, ?_, ?_⟩
  · exact (tabGet_tabPut_ne _ _ _ hk).trans (tabGet_tabPut_ne _ _ _ hk)
  · rw [(get_wdog _).1, State.rd_wr, if_pos rfl, wdogWord_time]
  · rw [(get_wdog _).2, State.rd_wr, if_pos rfl, wdogWord_en, hen, ← (get_wdog s).2]

theorem wdogWrite_arm (g : State) (data : Word) : g.wdogWrite 0xFFFFFFFF ((data ||| 4#32) &&& 0xFFFFFFFF#32) =
    (let t := g.wr pRESET 0x4C (wdogWord (g.rd pRESET 0x4C) data)
    if !t.flag pRESET F.RESET.WDOG.EN then
      { t.set pRESET F.RESET.WDOG.EN 1 with
        rst := { t.rst with wdog := some (t.clock + 2000000 * t.get pRESET F.RESET.WDOG.TIME) } }
    else t) := by
  have hm : ((0xFFFFFFFF : Word) &&& 0xFFFF0002) = 0xFFFF0002#32 := by decide
  have hd : (data ||| 4#32) &&& (0xFFFFFFFF : Word) = data ||| 4#32 := and_wordOnes _
  have harm : natBit (data ||| 4#32).toNat 2 = true := by
    rw [natBit_eq_testBit]; simp
    exact .inr (by decide)
  unfold State.wdogWrite
  simp only [hm, and_wordOnes, hd, harm, Bool.true_and]
  rfl

theorem wdogArm_shows {data : Word} (ha : s.accepts pRESET = true) :
    (s.busWrite pRESET 0x4C 0xFFFFFFFF (data ||| 4) .host).get pRESET F.RESET.WDOG.EN = 1 ∧
      (s.busWrite pRESET 0x4C 0xFFFFFFFF (data ||| 4) .host).get pRESET F.RESET.WDOG.TIME = data.toNat / 65536 ∧
      (∀ k, k ≠ regKey pRESET 0x4C → tabGet regDefault (s.busWrite pRESET 0x4C 0xFFFFFFFF (data ||| 4) .host).regs k =
        tabGet regDefault s.regs k) ∧
      (s.busWrite pRESET 0x4C 0xFFFFFFFF (data ||| 4) .host).rst.wdog =
        if s.flag pRESET F.RESET.WDOG.EN then s.rst.wdog else some (s.clock + 2000000 * (data.toNat / 65536)) := by
  have hrow : rowAt pRESET 0x4C = some wdogRow := by decide
  have heq : s.busWrite pRESET 0x4C 0xFFFFFFFF (data ||| 4) .host =
      if !(wdogStored s data).flag pRESET F.RESET.WDOG.EN then
        { (wdogStored s data).set pRESET F.RESET.WDOG.EN 1 with
          rst := { (wdogStored s data).rst with wdog := some ((wdogStored s data).clock +
            2000000 * (wdogStored s data).get pRESET F.RESET.WDOG.TIME) } }
      else wdogStored s data := by
    rw [resetWrite_effect ha hrow (by decide) (by decide)]
    exact wdogWrite_arm _ data
  obtain ⟨honly, hrst, hclock, htime, hen⟩ := wdogStored_shows s data
  rw [heq, hen]
  cases hflag : s.flag pRESET F.RESET.WDOG.EN
  case true =>
    have hone : (wdogStored s data).get pRESET F.RESET.WDOG.EN = 1 := State.get_of_flag rfl (hen.trans hflag)
    exact ⟨hone, htime, honly, by simp [hrst]⟩
  case false =>
    refine ⟨?_, ?_, fun k hk => ?_, by simp [hclock, htime]⟩
    · exact State.get_set_same (wdogStored s data) pRESET F.RESET.WDOG.EN 1 (by decide)
    · exact (State.get_set_apart _ _ _ _ _ _ (by decide) (by decide) (by decide)).trans htime
    · exact (State.tabGet_set_ne _ 1 fun i hi => by obtain rfl : i = 0 := by simpa [Fld.words, F.RESET.WDOG.EN] using hi
                                                    exact hk).trans (honly k hk)

/-! Domain resets (R527). -/

/-- Everything but the PCTL word of a page. -/
def butPctl (q : Nat) : Scope := { reg := fun k => k != regKey q 4, part := fun _ => true }

theorem butPctl_page {p q : Nat} (h : p ≠ q) : (butPctl q).page p := fun off => by
  simpa [butPctl] using fun hk => h (regKey_inj hk).1

theorem butPctl_fld {p q : Nat} {f : Fld} (hlow : 8 ≤ f.off) (hf : f.fits = true) : (butPctl q).fld p f := fun i hi => by
  have hfits : f.off + 4 * f.words ≤ 4096 := of_decide_eq_true hf
  simpa [butPctl] using fun hk => absurd (regKey_inj hk).2 (by omega)

/-- The kinds of page of a domain. -/
def domainKind (f : Option Fam) : Bool := f == some .crew || f == some .eng || f == some .can || f == some .bridge || f == some .windows

theorem ne_edge_of_domainKind {q : Nat} (h : domainKind (famOf q) = true) (n : Nat) : pEDGE n ≠ q := fun he => by
  rw [← he, famOf_pEDGE] at h; cases h

/-- The stop of a block of a domain leaves the PCTL of another. -/
theorem blockOff_butPctl {p q : Nat} {ρ t : State} (hk : Kept (butPctl q) ρ t) (hp : domainKind (famOf p) = true)
    (hq : domainKind (famOf q) = true) : Kept (butPctl q) ρ (t.blockOff p false) := by
  have hedge (n : Nat) : (butPctl q).page (pEDGE n) := butPctl_page (ne_edge_of_domainKind hq n)
  have hkind : famOf p = some .crew ∨ famOf p = some .eng ∨ famOf p = some .can ∨ famOf p = some .bridge ∨ famOf p = some .windows := by
    simpa [domainKind, or_assoc] using hp
  unfold State.blockOff
  rcases hkind with h | h | h | h | h <;> simp only [h]
  · exact hk
  · exact engOff_kept hk rfl (butPctl_fld (by decide) (by decide)) (butPctl_fld (by decide) (by decide)) (butPctl_fld (by decide) (by decide))
      (butPctl_fld (by decide) (by decide)) (butPctl_fld (by decide) (by decide)) (butPctl_fld (by decide) (by decide))
      (butPctl_fld (by decide) (by decide))
  · exact canOff_kept hk rfl rfl rfl rfl (butPctl_fld (by decide) (by decide)) (butPctl_fld (by decide) (by decide))
      (butPctl_fld (by decide) (by decide)) (butPctl_fld (by decide) (by decide)) hedge (butPctl_fld (by decide) (by decide))
      (butPctl_fld (by decide) (by decide)) (butPctl_fld (by decide) (by decide))
  · refine bridgeOff_kept hk rfl ?_ (butPctl_fld (by decide) (by decide))
    simpa [butPctl] using fun hkey => absurd (regKey_inj hkey).2 (by decide)
  · exact hk

theorem pageOff_butPctl {p q : Nat} {ρ t : State} (hk : Kept (butPctl q) ρ t) (hp : domainKind (famOf p) = true)
    (hq : domainKind (famOf q) = true) : Kept (butPctl q) ρ (t.pageOff p) := by
  have hedge (n : Nat) : (butPctl q).page (pEDGE n) := butPctl_page (ne_edge_of_domainKind hq n)
  have hstamp : famOf p ≠ some .stamp := fun h => by rw [h] at hp; cases hp
  have hstop : Kept (butPctl q) ρ (t.stopRun p) :=
    stopRun_kept hk (butPctl_fld (by decide) (by decide)) (butPctl_fld (by decide) (by decide))
  have hcost : Kept (butPctl q) ρ ((t.stopRun p).blockOff p false).recost :=
    recost_kept (blockOff_butPctl hstop hp hq) (butPctl_fld (by decide) (by decide)) (butPctl_fld (by decide) (by decide))
      (butPctl_fld (by decide) (by decide)) (butPctl_fld (by decide) (by decide)) (butPctl_fld (by decide) (by decide))
      (butPctl_fld (by decide) (by decide)) (butPctl_fld (by decide) (by decide)) (butPctl_fld (by decide) (by decide))
      (butPctl_fld (by decide) (by decide)) (butPctl_fld (by decide) (by decide))
  unfold State.pageOff
  rw [if_neg hstamp]
  exact drainsOf_kept (shadowSync_kept hcost rfl rfl rfl (butPctl_fld (by decide) (by decide)) (butPctl_fld (by decide) (by decide))
    (butPctl_fld (by decide) (by decide)) hedge (butPctl_fld (by decide) (by decide)) (butPctl_fld (by decide) (by decide))) rfl
    (butPctl_fld (by decide) (by decide)) (butPctl_fld (by decide) (by decide)) (butPctl_fld (by decide) (by decide))
    (butPctl_fld (by decide) (by decide)) (butPctl_fld (by decide) (by decide)) (butPctl_fld (by decide) (by decide))

theorem rd_pctl_of_kept {q : Nat} {r t : State} (hk : Kept (butPctl q) r t) : t.rd q 4 = r.rd q 4 :=
  hk.reg _ (by simp [butPctl])

/-- PCTL of a page that a domain reset has cleared: CLR reads 1, LOCK and EN read 0. -/
def Cleared (w : Word) : Prop := w.getLsbD 2 = true ∧ w.getLsbD 8 = false ∧ w.getLsbD 0 = false

theorem get_pctl_of_cleared {p : Nat} (h : Cleared (s.rd p 4)) :
    s.get p F.HDR.PCTL.CLR = 1 ∧ s.get p F.HDR.PCTL.LOCK = 0 ∧ s.get p F.HDR.PCTL.EN = 0 := by
  obtain ⟨hclr, hlock, hen⟩ := h
  have hbit (b : Nat) (hb : b < 32) : s.get p ⟨4, b, 1⟩ = if (s.rd p 4).getLsbD b then 1 else 0 := by
    have htest : (s.get p ⟨4, b, 1⟩).testBit 0 = (s.rd p 4).getLsbD b := by
      rw [State.get_testBit]
      simp [Nat.div_eq_of_lt hb, Nat.mod_eq_of_lt hb, BitVec.getLsbD]
    have hlt : s.get p ⟨4, b, 1⟩ < 2 ^ 1 := State.get_lt _ _ _
    rw [Nat.testBit_zero] at htest
    cases hw : (s.rd p 4).getLsbD b <;> rw [hw] at htest <;> simp at htest ⊢ <;> omega
  have h2 := hbit 2 (by decide)
  have h8 := hbit 8 (by decide)
  have h0 := hbit 0 (by decide)
  rw [hclr] at h2; rw [hlock] at h8; rw [hen] at h0
  exact ⟨h2, h8, h0⟩

theorem faultDeps_butPctl {q : Nat} {ρ t : State} (hk : Kept (butPctl q) ρ t) (p : Nat) : Kept (butPctl q) ρ (t.faultDeps p) :=
  Kept.foldl (fun _ _ h => blockFault_kept h (butPctl_fld (by decide) (by decide)) (butPctl_fld (by decide) (by decide))) _ _ hk

theorem domainClr_butPctl {p q : Nat} {ρ t : State} (hk : Kept (butPctl q) ρ t) (hp : domainKind (famOf p) = true)
    (hq : domainKind (famOf q) = true) (hne : p ≠ q) : Kept (butPctl q) ρ (t.domainClr p) := by
  have hword : (butPctl q).reg (regKey p 4) = true := butPctl_page hne 4
  unfold State.domainClr
  extract_lets s1 pg s2 rest
  have hk1 : Kept (butPctl q) ρ s2 := Kept.page (faultDeps_butPctl hk p) rfl
  refine Kept.ite (wr_kept hk1 hword) ?_
  unfold State.clrBegin
  exact Kept.page (wr_kept (Kept.ite (pageOff_butPctl hk1 hp hq) hk1) hword) rfl

theorem domainClr_cleared (s : State) (p : Nat) : Cleared ((s.domainClr p).rd p 4) := by
  have hword (t : State) (v : Word) : (t.wr p 4 v).rd p 4 = v := tabGet_tabPut_same _ _ _ _
  unfold State.domainClr
  extract_lets s1 pg s2 rest
  have hrest : rest[8] = false ∧ rest[0] = false := by constructor <;> simp [rest]
  split
  · rw [hword]
    refine ⟨by simp, ?_, ?_⟩ <;> simp [hrest]
  · have hclr : (s2.clrBegin p rest).rd p 4 = pctlRest rest ||| 4 := hword _ _
    rw [hclr]
    refine ⟨by simp, ?_, ?_⟩ <;> simp [pctlRest, hrest]

theorem foldl_domainClr_cleared {q : Nat} (hq : domainKind (famOf q) = true) : ∀ (pages : List Nat) (s : State),
    (∀ p ∈ pages, domainKind (famOf p) = true) → (q ∈ pages ∨ Cleared (s.rd q 4)) → Cleared ((pages.foldl State.domainClr s).rd q 4)
  | [], _, _, h => h.resolve_left (by simp)
  | p :: rest, s, hkinds, h => by
    refine foldl_domainClr_cleared hq rest _ (fun x hx => hkinds x (List.mem_cons_of_mem _ hx)) ?_
    by_cases hpq : p = q
    · subst hpq
      exact .inr (domainClr_cleared s p)
    · rcases h with h | h
      · exact .inl ((List.mem_cons.mp h).resolve_left (Ne.symm hpq))
      · refine .inr ?_
        rwa [rd_pctl_of_kept (domainClr_butPctl (Kept.refl _ s) (hkinds p (List.mem_cons_self ..)) hq hpq)]

theorem domainPages_kind : ∀ b < 18, ∀ p ∈ domainPages b, domainKind (famOf p) = true := by decide

theorem domainReset_shows {map p b : Nat} (hb : b < 18) (hbit : natBit map b = true) (hp : p ∈ domainPages b)
    (hfree : s.page.domains.contains b = false) :
    (s.domainReset map).page.domains.contains b = true ∧ (s.domainReset map).get pRESET ⟨F.RESET.DOMAIN.RESET.off, b, 1⟩ = 1 ∧
      (s.domainReset map).get p F.HDR.PCTL.CLR = 1 ∧ (s.domainReset map).get p F.HDR.PCTL.LOCK = 0 ∧
      (s.domainReset map).get p F.HDR.PCTL.EN = 0 := by
  have hmem : b ∈ (List.range 18).filter (fun b => natBit map b && !s.page.domains.contains b) :=
    List.mem_filter.mpr ⟨List.mem_range.mpr hb, by simp only [hbit, hfree]; rfl⟩
  have hkinds : ∀ q ∈ ((List.range 18).filter (fun b => natBit map b && !s.page.domains.contains b)).flatMap domainPages,
      domainKind (famOf q) = true := by
    intro q hq
    obtain ⟨c, hc, hqc⟩ := List.mem_flatMap.mp hq
    exact domainPages_kind c (List.mem_range.mp (List.mem_filter.mp hc).1) q hqc
  have hpk : domainKind (famOf p) = true := domainPages_kind b hb p hp
  have hreset : p ≠ pRESET := fun h => by rw [h] at hpk; revert hpk; decide
  have hapart (f : Fld) : Fld.apart pRESET F.RESET.DOMAIN.RESET p f = true := by simp [Fld.apart, Ne.symm hreset]
  have hget (bits : List Nat) (hbits : (List.range 18).filter (fun b => natBit map b && !s.page.domains.contains b) = bits) (q : Nat) (f : Fld) :
      (s.domainReset map).get q f = (((bits.flatMap domainPages).foldl State.domainClr s).set pRESET F.RESET.DOMAIN.RESET
        (((bits.flatMap domainPages).foldl State.domainClr s).get pRESET F.RESET.DOMAIN.RESET ||| map)).get q f := by
    subst hbits
    exact State.get_of_words fun _ _ => rfl
  have hdomains (bits : List Nat) (hbits : (List.range 18).filter (fun b => natBit map b && !s.page.domains.contains b) = bits) :
      (s.domainReset map).page.domains = ((bits.flatMap domainPages).foldl State.domainClr s).page.domains ++ bits := by
    subst hbits
    simp only [State.domainReset, State.set_page]
  generalize hbits : (List.range 18).filter (fun b => natBit map b && !s.page.domains.contains b) = bits at hmem hkinds
  have hcleared := get_pctl_of_cleared (foldl_domainClr_cleared hpk (bits.flatMap domainPages) s hkinds
    (.inl (List.mem_flatMap.mpr ⟨b, hmem, hp⟩)))
  simp only [hget bits hbits, hdomains bits hbits]
  generalize (bits.flatMap domainPages).foldl State.domainClr s = s1 at hcleared ⊢
  obtain ⟨hclr, hlock, hen⟩ := hcleared
  refine ⟨?_, ?_, ?_, ?_, ?_⟩
  · simpa using Or.inr hmem
  · refine get_bit_of_testBit (w := 18) (by omega) ?_
    change ((s1.set pRESET F.RESET.DOMAIN.RESET (s1.get pRESET F.RESET.DOMAIN.RESET ||| map)).get pRESET F.RESET.DOMAIN.RESET).testBit b = true
    rw [State.get_set_same _ _ _ _ (by decide), Nat.testBit_mod_two_pow, Nat.testBit_or, ← natBit_eq_testBit map, hbit]
    simp [F.RESET.DOMAIN.RESET, hb]
  · rw [State.get_set_apart s1 _ _ _ _ _ (hapart _) (by decide) (by decide), hclr]
  · rw [State.get_set_apart s1 _ _ _ _ _ (hapart _) (by decide) (by decide), hlock]
  · rw [State.get_set_apart s1 _ _ _ _ _ (hapart _) (by decide) (by decide), hen]

/-- The end of a domain reset leaves the list of domains to its caller. -/
theorem clrEnd_domains {p : Nat} (hp : domainKind (famOf p) = true) : (s.clrEnd p).page.domains = s.page.domains := by
  have hkind : famOf p = some .crew ∨ famOf p = some .eng ∨ famOf p = some .can ∨ famOf p = some .bridge ∨ famOf p = some .windows := by
    simpa [domainKind, or_assoc] using hp
  have hblock (t o : State) : (t.blockClr o p).page = t.page := by
    unfold State.blockClr
    rcases hkind with h | h | h | h | h <;> simp only [h]
    · rfl
    · have hall (q : Nat) : (frameScope [] (fun _ => true) [.pins, .edges, .book, .engs]).page q := frameScope_page_of_named rfl
      have hk : Kept (frameScope [] (fun _ => true) [.pins, .edges, .book, .engs]) t (t.engClr (p - 0x20)) :=
        engClr_kept (Kept.refl _ t) rfl rfl rfl rfl (hall _).fld (hall _).fld (hall _).fld (fun _ => hall _) (hall _).fld (hall _).fld
          (hall _).fld (hall _).fld (hall _).fld (hall _).fld (hall _).fld (hall _).fld (hall _).fld
      exact hk.part .page rfl
    · rfl
    · rfl
  have hpage : (s.pageClr p).page = s.page := by
    unfold State.pageClr
    split
    · rfl
    · rw [hblock]; rfl
  unfold State.clrEnd
  split
  · change ((s.pageClr p).set p F.HDR.PCTL.CLR 0).page.domains = _
    rw [State.set_page, hpage]
  · rfl

theorem foldl_clrEnd_domains : ∀ (pages : List Nat) (s : State), (∀ p ∈ pages, domainKind (famOf p) = true) →
    (pages.foldl State.clrEnd s).page.domains = s.page.domains
  | [], _, _ => rfl
  | p :: rest, s, h => by
    rw [List.foldl_cons, foldl_clrEnd_domains rest _ fun q hq => h q (List.mem_cons_of_mem _ hq), clrEnd_domains (h p (List.mem_cons_self ..))]

theorem domainBit_fits : ∀ b < 18, (⟨F.RESET.DOMAIN.RESET.off, b, 1⟩ : Fld).fits = true := by decide

theorem domainBit_apart {b c : Nat} (h : c ≠ b) :
    Fld.apart pRESET ⟨F.RESET.DOMAIN.RESET.off, c, 1⟩ pRESET ⟨F.RESET.DOMAIN.RESET.off, b, 1⟩ = true := by
  have hsides : c + 1 ≤ b ∨ b + 1 ≤ c := by omega
  rcases hsides with h | h <;> simp [Fld.apart, h]

theorem foldl_domainBits (b : Nat) (hb : b < 18) : ∀ (bits : List Nat) (s : State), (∀ c ∈ bits, c < 18) →
    (b ∈ bits ∨ s.get pRESET ⟨F.RESET.DOMAIN.RESET.off, b, 1⟩ = 0) →
    (bits.foldl (fun t b => t.set pRESET ⟨F.RESET.DOMAIN.RESET.off, b, 1⟩ 0) s).get pRESET ⟨F.RESET.DOMAIN.RESET.off, b, 1⟩ = 0
  | [], _, _, h => h.resolve_left (by simp)
  | c :: rest, s, hlt, h => by
    refine foldl_domainBits b hb rest _ (fun x hx => hlt x (List.mem_cons_of_mem _ hx)) ?_
    by_cases hcb : c = b
    · subst hcb
      exact .inr ((State.get_set_same _ _ _ _ (domainBit_fits c hb)).trans (Nat.zero_mod _))
    · rcases h with h | h
      · exact .inl ((List.mem_cons.mp h).resolve_left (Ne.symm hcb))
      · exact .inr ((State.get_set_apart _ _ _ _ _ _ (domainBit_apart hcb) (domainBit_fits c (hlt c (List.mem_cons_self ..)))
          (domainBit_fits b hb)).trans h)

theorem foldl_domainBits_page (bits : List Nat) (s : State) :
    (bits.foldl (fun t b => t.set pRESET ⟨F.RESET.DOMAIN.RESET.off, b, 1⟩ 0) s).page = s.page := by
  induction bits generalizing s with
  | nil => rfl
  | cons c rest ih => rw [List.foldl_cons, ih, State.set_page]

theorem domainDone_shows (s : State) (map : Nat) :
    (s.domainDone map).page.domains = s.page.domains.filter (fun b => !((List.range 18).filter
        (fun x => natBit map x && s.page.domains.contains x)).contains b) ∧
      ∀ b, b < 18 → natBit map b = true → s.page.domains.contains b = true →
        (s.domainDone map).get pRESET ⟨F.RESET.DOMAIN.RESET.off, b, 1⟩ = 0 := by
  have hlt : ∀ c ∈ (List.range 18).filter (fun b => natBit map b && s.page.domains.contains b), c < 18 := fun c hc =>
    List.mem_range.mp (List.mem_filter.mp hc).1
  have hkinds : ∀ q ∈ ((List.range 18).filter (fun b => natBit map b && s.page.domains.contains b)).flatMap domainPages,
      domainKind (famOf q) = true := by
    intro q hq
    obtain ⟨c, hc, hqc⟩ := List.mem_flatMap.mp hq
    exact domainPages_kind c (hlt c hc) q hqc
  refine ⟨?_, fun b hb hbit hmem => ?_⟩
  · rw [State.domainDone, foldl_domainBits_page, foldl_clrEnd_domains _ _ hkinds]
  · exact foldl_domainBits b hb _ _ hlt (.inl (List.mem_filter.mpr ⟨List.mem_range.mpr hb, by rw [hbit, hmem]; rfl⟩))

/-! The watchdog's expiry (R525). -/

/-- The hub as its watchdog has expired at `due`. -/
def expired (s : State) (due : Nat) : State :=
  { (s.advance due).event pRESET 8 with rst := { ((s.advance due).event pRESET 8).rst with wdog := none } }

theorem wdogExpire_eq {due : Nat} (h : s.rst.wdog = some due) : s.wdogExpire =
    if (expired s due).flag pRESET F.RESET.WDOG.FAULT_FIRST && (expired s due).dupState == some 1 then
      { (expired s due).declareFault 1 with rst := { ((expired s due).declareFault 1).rst with delayed := some (due + 200000) } }
    else (expired s due).coreReset 4 := by
  simp only [State.wdogExpire, h]
  rfl

theorem get_expired (s : State) (due : Nat) {p : Nat} {f : Fld} (hf : f.fits = true) (hevent : Fld.apart pRESET ⟨0x0C, 8, 1⟩ p f = true) :
    (expired s due).get p f = s.get p f :=
  calc (expired s due).get p f
    _ = ((s.advance due).event pRESET 8).get p f := State.get_of_words fun _ _ => rfl
    _ = (s.advance due).get p f := by rw [State.event_get, State.get_set_apart _ _ _ _ _ _ hevent (by decide) hf]
    _ = s.get p f := State.get_of_words fun _ _ => rfl

theorem expired_parts (s : State) (due : Nat) : (expired s due).clock = max s.clock due ∧ (expired s due).pwr = s.pwr ∧
    (expired s due).datum = s.datum ∧ (expired s due).dup = s.dup ∧ (expired s due).rst.wdog = none := by
  simp [expired, State.advance]

theorem expired_judged (s : State) (due : Nat) : (expired s due).flag pRESET F.RESET.WDOG.FAULT_FIRST = s.flag pRESET F.RESET.WDOG.FAULT_FIRST ∧
    (expired s due).dupState = s.dupState := by
  refine ⟨by rw [State.flag, get_expired s due (by decide) (by decide), State.flag], ?_⟩
  simp only [State.dupState, State.role, State.isTwin, State.guards, (expired_parts s due).2.2.2.1,
    get_expired s due (p := pDUPLEX) (f := F.DUPLEX.STS.STATE) (by decide) (by decide),
    get_expired s due (p := pSYS) (f := F.SYS.STRAP.ROLE) (by decide) (by decide),
    get_expired s due (p := pGANGCTL) (f := F.GANGCTL.CFG.TWINS) (by decide) (by decide)]
  rfl

theorem lowMask_testBit : ∀ b < 18, (0x3FFFF : Nat).testBit b = true := by decide

end Sys2Proof.CoreReset

open Sys2Proof.CoreReset

/-- Settles O46: each reset goes through `coreHold` and each release through `corePor`; the domain resets page by page. -/
theorem resetsOfTheCoreDie : Obligations.ResetsOfTheCoreDie := by
  unfold Obligations.ResetsOfTheCoreDie
  refine ⟨?_, ?_, ?_, ?_, ?_, ?_, ?_, ?_, ?_, ?_, ?_, ?_⟩
  · intro clk nid role boot s hpower hpg
    have hguard : ((s.advance clk).withStraps nid role boot).pwr.power = .coreReset ∧
        ((s.advance clk).withStraps nid role boot).flag pSUPPLY F.SUPPLY.STS.PG_CORE = true ∧
        ((s.advance clk).withStraps nid role boot).pwr.rstN = true := by
      refine ⟨hpower.1, ?_, hpower.2⟩
      change (s.get pSUPPLY F.SUPPLY.STS.PG_CORE != 0) = true
      rw [hpg]; rfl
    have hrel := corePor_released ((s.advance clk).withStraps nid role boot)
    refine ⟨_, next_of_eq (if_pos hguard) rfl, by rw [hrel.power], hrel.nid.trans (Nat.mod_mod _ _), hrel.role.trans (Nat.mod_mod _ _),
      hrel.boot.trans (Nat.mod_mod _ _), hrel.cause, by rw [hrel.causes], hrel.count, hrel.raw, hrel.reserved, hrel.noNid⟩
  · intro clk s hon
    have heq := rstLow_eq (s := s.advance clk) hon
    obtain ⟨-, hmem, hengs, hcans, hports, hmtp⟩ :=
      coreHold_parts ((({ s.advance clk with pwr := { (s.advance clk).pwr with rstN := false } } : State).together).cause 3)
    refine ⟨_, next_of_eq heq rfl, coreHold_power _, ?_, ?_, fun q hpos hq o hguard hreset hmux => ?_, hmem, hengs, hcans, hports, ?_⟩
    · rw [(coreHold_pwr _).1, cause_pwr, together_pwr]
    · rw [coreHold_supply, cause_supply]; exact natBit_natPut_one_same _ 3
    · refine rd_coreHold _ hguard ?_
      have hkey : regKey q o / 4096 = q := by unfold regKey; omega
      have hne (p o' : Nat) (hp : p ≠ q) : regKey q o ≠ regKey p o' := fun h => hp (regKey_inj h).1.symm
      have hrange : ¬ (0x60 ≤ q ∧ q < 0x64) := fun hin => hmux (List.mem_map.mpr ⟨q - 0x60, List.mem_range.mpr (by omega),
        by unfold pPINMUX; omega⟩)
      have hmuxkey : (decide (0x60 ≤ q) && decide (q < 0x64)) = false := by simpa using hrange
      simp [coreKept, hkey, hguard, hne pSYS _ (Ne.symm (Nat.ne_of_gt hpos)), hne pRESET _ (Ne.symm hreset), hmuxkey]
    · by_cases hprog : s.cal.prog = none
      · refine .inl (hmtp.trans ?_)
        have hcal : ((({ s.advance clk with pwr := { (s.advance clk).pwr with rstN := false } } : State).together).cause 3).cal = s.cal :=
          together_cal _
        rw [monCut_cal, calCut_idle (by rw [hcal]; exact hprog), hcal]
      · exact .inr hprog
  · intro clk nid role boot s hpower hpg
    have hguard : ({ (s.advance clk).withStraps nid role boot with
          pwr := { ((s.advance clk).withStraps nid role boot).pwr with rstN := true } } : State).pwr.power = .coreReset ∧
        ({ (s.advance clk).withStraps nid role boot with
          pwr := { ((s.advance clk).withStraps nid role boot).pwr with rstN := true } } : State).flag pSUPPLY F.SUPPLY.STS.PG_CORE = true ∧
        ({ (s.advance clk).withStraps nid role boot with
          pwr := { ((s.advance clk).withStraps nid role boot).pwr with rstN := true } } : State).pwr.rstN = true := by
      refine ⟨hpower, ?_, rfl⟩
      change (s.get pSUPPLY F.SUPPLY.STS.PG_CORE != 0) = true
      rw [hpg]; rfl
    have hrel := corePor_released ({ (s.advance clk).withStraps nid role boot with
      pwr := { ((s.advance clk).withStraps nid role boot).pwr with rstN := true } } : State)
    exact ⟨_, next_of_eq ((if_pos hpower).trans (if_pos hguard)) rfl, by rw [hrel.power], by rw [hrel.power], hrel.nid.trans (Nat.mod_mod _ _),
      hrel.role.trans (Nat.mod_mod _ _), hrel.cause⟩
  · intro clk data s ha
    obtain ⟨hen, htime, honly, hwdog⟩ := wdogArm_shows (data := data) ha
    exact ⟨_, rfl, hen, htime, honly, hwdog⟩
  · intro clk s ha
    have hrow : ∃ r, rowAt pRESET 0x50 = some r := Option.isSome_iff_exists.mp (by decide)
    obtain ⟨r, hrow⟩ := hrow
    refine ⟨_, next_of_eq (resetWrite_effect ha hrow (by decide) (by decide)) rfl, ?_, ?_⟩
    · change ((s.advance clk).wdogKick 0x4B490001).rst.wdog = _
      unfold State.wdogKick
      cases hflag : s.flag pRESET F.RESET.WDOG.EN
      · rw [if_neg (by rw [show (s.advance clk).flag pRESET F.RESET.WDOG.EN = false from hflag]; decide)]; rfl
      · rw [if_pos (by rw [show (s.advance clk).flag pRESET F.RESET.WDOG.EN = true from hflag]; decide)]; rfl
    · change ((s.advance clk).wdogKick 0x4B490001).regs = _
      unfold State.wdogKick
      split <;> rfl
  · intro due s hdue hon hfirst
    obtain ⟨hclock, hpwr, hdatum, -, -⟩ := expired_parts s due
    obtain ⟨hflag, hdup⟩ := expired_judged s due
    have heq : s.wdogExpire = (expired s due).coreReset 4 := by
      rw [wdogExpire_eq hdue, hflag, hdup]
      refine if_neg ?_
      rcases hfirst with h | h <;> simp [h]
    have hon' : (expired s due).coreOn = true ∧ (expired s due).pwr.rstN = true := by
      rw [State.coreOn, hpwr]; exact hon
    obtain ⟨hpower, hcause, hcount, hrst, hclk⟩ := coreReset_shows (b := 4) (by decide) hon'
    rw [hclock, hdatum, get_expired s due (by decide) (by decide)] at hcount
    exact ⟨_, next_of_eq heq rfl, hclk.trans hclock, hpower, hcause, hcount, hrst⟩
  · intro due s hdue hfirst
    obtain ⟨hclock, hpwr, -, -, hwdog⟩ := expired_parts s due
    obtain ⟨hflag, hdup⟩ := expired_judged s due
    have heq : s.wdogExpire = { (expired s due).declareFault 1 with
        rst := { ((expired s due).declareFault 1).rst with delayed := some (due + 200000) } } := by
      rw [wdogExpire_eq hdue, hflag, hdup, hfirst.1, hfirst.2]
      rfl
    have honly := EventLines.declareFault_only (expired s due) 1
    have hrst : ((expired s due).declareFault 1).rst = (expired s due).rst := honly.part .rst rfl
    refine ⟨_, next_of_eq heq rfl, (declareFault_still _ _).clock.trans hclock, rfl, ?_, (honly.part .pwr rfl).trans hpwr, ?_⟩
    · change ((expired s due).declareFault 1).rst.wdog = none
      rw [hrst, hwdog]
    · have hfault : ((expired s due).declareFault 1).get pRESET ⟨0x0C, 8, 1⟩ = (expired s due).get pRESET ⟨0x0C, 8, 1⟩ :=
        honly.get_eq (by decide)
      have hevent : (expired s due).get pRESET ⟨0x0C, 8, 1⟩ = 1 :=
        (State.get_of_words (s := (s.advance due).event pRESET 8) fun _ _ => rfl).trans
          (State.get_event_same (s.advance due) (p := pRESET) (b := 8) (by decide))
      exact (State.get_of_words (s := (expired s due).declareFault 1) fun _ _ => rfl).trans (hfault.trans hevent)
  · intro due s hdue hon
    have heq : s.wdogDelayed = (s.advance due).coreReset 4 := by simp only [State.wdogDelayed, hdue]
    obtain ⟨hpower, hcause, -, -, hclock⟩ := coreReset_shows (s := s.advance due) (b := 4) (by decide) hon
    exact ⟨_, next_of_eq heq rfl, hclock, hpower, hcause⟩
  · intro clk s ha
    obtain ⟨r, hrow⟩ : ∃ r, rowAt pRESET 0x44 = some r := Option.isSome_iff_exists.mp (by decide)
    exact ⟨_, next_of_eq (resetWrite_effect ha hrow (by decide) (by decide)) rfl, rfl, rfl⟩
  · intro due s hdue hon
    have heq : s.cmdFire = (s.advance due).coreReset 5 := by simp only [State.cmdFire, hdue]
    obtain ⟨hpower, hcause, -, hrst, hclock⟩ := coreReset_shows (s := s.advance due) (b := 5) (by decide) hon
    exact ⟨_, next_of_eq heq rfl, hclock, hpower, hcause, hrst⟩
  · intro clk map p b s ha hmap hfree
    obtain ⟨hb, hbit, hp⟩ := hmap
    obtain ⟨r, hrow⟩ : ∃ r, rowAt pRESET 0x48 = some r := Option.isSome_iff_exists.mp (by decide)
    have hpage : ((s.advance clk).storeReg pRESET 0x48 r 0x3FFFF (w32 map)).page = (s.advance clk).page := by
      have hk : Kept (frameScope [] (· == pRESET) [.latch]) (s.advance clk) ((s.advance clk).storeReg pRESET 0x48 r 0x3FFFF (w32 map)) :=
        storeReg_kept (Kept.refl _ _) rfl (frameScope_page_of_named rfl)
      exact hk.part .page rfl
    refine ⟨_, next_of_eq (resetWrite_effect ha hrow (by decide) (by decide)) rfl, ?_⟩
    refine domainReset_shows hb ?_ hp ?_
    · rw [natBit_eq_testBit] at hbit ⊢
      have hmask : (0x3FFFF : Nat).testBit b = true := lowMask_testBit b hb
      change (natField (BitVec.ofNat 32 map &&& BitVec.ofNat 32 0x3FFFF).toNat 0 18).testBit b = true
      rw [natField_testBit, BitVec.toNat_and, Nat.testBit_and, BitVec.toNat_ofNat, BitVec.toNat_ofNat, Nat.testBit_mod_two_pow,
        Nat.testBit_mod_two_pow, Nat.zero_add, hbit, hmask]
      simp [hb, show b < 32 by omega]
    · rw [hpage]; exact hfree
  · intro clk map s
    exact ⟨_, rfl, domainDone_shows (s.advance clk) map⟩

end

section
/-!
PROOFS. The commands of the FDB page (R335, R365): the write of CMD as the operation it names, what the end of a command shows,
and what an entry reads as once it is stored.
-/

open Sys2Proof Sys2Proof.Machine Sys2Proof.Laws
namespace Sys2Proof.Forwarding

variable {s : State}

theorem fdbPage (parts : List Part) : (frameScope [] (fun p => p == pFDB) parts).page pFDB := frameScope_page_of_named rfl

/-- The end of a command touches its page alone. -/
theorem fdbDone_only (s : State) (o : Nat) (idx : Option Nat) : Kept (frameScope [] (fun p => p == pFDB) []) s (s.fdbDone o idx) :=
  fdbDone_kept (Kept.refl _ s) (fdbPage _).fld (fdbPage _).fld (fdbPage _).fld (fdbPage _).fld

theorem fdbShow_only (s : State) (e : FdbEnt) : Kept (frameScope [] (fun p => p == pFDB) []) s (s.fdbShow e) :=
  fdbShow_kept (Kept.refl _ s) (fdbPage _).fld (fdbPage _).fld (fdbPage _).fld (fdbPage _).fld (fdbPage _).fld (fdbPage _).fld (fdbPage _).fld

@[simp] theorem fdbDone_sw (s : State) (o : Nat) (idx : Option Nat) : (s.fdbDone o idx).sw = s.sw := (fdbDone_only s o idx).part .sw rfl
@[simp] theorem fdbShow_sw (s : State) (e : FdbEnt) : (s.fdbShow e).sw = s.sw := (fdbShow_only s e).part .sw rfl

/-- What the end of a command shows. -/
theorem fdbDone_shows (s : State) (o : Nat) (idx : Option Nat) :
    (s.fdbDone o idx).get pFDB F.FDB.RESULT.OUTCOME = o % 2 ^ F.FDB.RESULT.OUTCOME.w ∧ (s.fdbDone o idx).get pFDB F.FDB.CMD.GO = 0 ∧
      (s.fdbDone o idx).get pFDB ⟨0x0C, 8, 1⟩ = 1 := by
  refine ⟨?_, ?_, State.get_event_same _ (by decide)⟩ <;> unfold State.fdbDone
  · simp (disch := decide) only [State.event_get, State.get_set_apart, State.get_set_same]
  · simp (disch := decide) only [State.event_get, State.get_set_apart, State.get_set_same, Nat.zero_mod]

theorem fdbDone_index (s : State) (o i : Nat) : (s.fdbDone o (some i)).get pFDB F.FDB.RESULT.INDEX = i % 2 ^ F.FDB.RESULT.INDEX.w := by
  unfold State.fdbDone
  simp (disch := decide) only [State.event_get, State.get_set_apart, State.get_set_same]

/-- The end of a command keeps the registers that show an entry. -/
theorem get_fdbDone_entry (s : State) (o i : Nat) {f : Fld} (hf : f.fits = true) (hshow : ∀ g ∈ [F.FDB.RESULT.INDEX, F.FDB.RESULT.OUTCOME,
    F.FDB.CMD.GO, ⟨0x0C, 8, 1⟩], Fld.apart pFDB g pFDB f = true) : (s.fdbDone o (some i)).get pFDB f = s.get pFDB f := by
  simp only [List.forall_mem_cons] at hshow
  obtain ⟨h1, h2, h3, h4, -⟩ := hshow
  unfold State.fdbDone
  rw [State.event_get, State.get_set_apart _ _ _ _ _ _ h4 (by decide) hf, State.get_set_apart _ _ _ _ _ _ h3 (by decide) hf,
    State.get_set_apart _ _ _ _ _ _ h2 (by decide) hf, State.get_set_apart _ _ _ _ _ _ h1 (by decide) hf]

theorem get_fdbShow (s : State) (e : FdbEnt) :
    (s.fdbShow e).get pFDB F.FDB.KEY_LO.MAC_LO = e.mac % 2 ^ F.FDB.KEY_LO.MAC_LO.w ∧
      (s.fdbShow e).get pFDB F.FDB.KEY_HI.MAC_HI = e.mac / 2 ^ 32 % 2 ^ F.FDB.KEY_HI.MAC_HI.w ∧
      (s.fdbShow e).get pFDB F.FDB.ENTRY.VALID = bit e.valid ∧ (s.fdbShow e).get pFDB F.FDB.ENTRY.STATIC = bit e.fixed ∧
      (s.fdbShow e).get pFDB F.FDB.ENTRY.DEST = e.dest % 2 ^ F.FDB.ENTRY.DEST.w := by
  have hbit (b : Bool) (f : Fld) (hf : f.w = 1) : bit b % 2 ^ f.w = bit b := by rw [hf]; cases b <;> rfl
  unfold State.fdbShow State.setB
  refine ⟨?_, ?_, ?_, ?_, ?_⟩ <;> simp (disch := decide) only [State.get_set_apart, State.get_set_same]
  · exact hbit _ _ rfl
  · exact hbit _ _ rfl

theorem fdbPut_at (s : State) (i : Nat) (e : FdbEnt) : (s.fdbPut i e).fdbAt i = if e.valid then e else fdbNone := by
  have hsw : (s.fdbPut i e).sw.fdb = tabPut fdbDefault s.sw.fdb i (if e.valid then e else fdbNone) := congrArg (·.fdb) (State.set_sw ..)
  rw [State.fdbAt, hsw, tabGet_tabPut_same]

theorem fdbAt_congr {t : State} (h : t.sw = s.sw) (i : Nat) : t.fdbAt i = s.fdbAt i := by rw [State.fdbAt, h, State.fdbAt]

/-- The OP that a write of CMD stores leaves what its operation looks up. -/
theorem fdbKey_setOp (s : State) (op : Nat) : (s.set pFDB F.FDB.CMD.OP op).fdbKey = s.fdbKey := by
  unfold State.fdbKey
  simp (disch := decide) only [State.get_set_apart]
theorem fdbAt_setOp (s : State) (f : Fld) (v i : Nat) : (s.set pFDB f v).fdbAt i = s.fdbAt i := fdbAt_congr (State.set_sw ..) i
theorem fdbFind_setOp (s : State) (f : Fld) (v mac vid : Nat) : (s.set pFDB f v).fdbFind mac vid = s.fdbFind mac vid := by
  simp only [State.fdbFind, fdbAt_setOp]
theorem fdbFree_setOp (s : State) (f : Fld) (v mac vid : Nat) : (s.set pFDB f v).fdbFree mac vid = s.fdbFree mac vid := by
  simp only [State.fdbFree, fdbAt_setOp]

theorem fdbGo_accepts {op : Nat} (h : s.accepts pFDB = true) (idx : Option Nat) :
    s.fdbGo op idx = s.fdbCmd op ((idx.map (· % 8192)).getD 0) := by
  cases idx with
  | none => exact (State.regWrite_accepts (mask := 15) (data := 1 + 2 * op) (src := .host) (eff := fun t => t.fdbCmd op 0) h)
  | some i =>
    exact (State.regWrite_accepts (mask := 0x1FFF000F) (data := 1 + 2 * op + 2 ^ 16 * (i % 8192)) (src := .host)
      (eff := fun t => t.fdbCmd op (i % 8192)) h)

/-- A look-up that finds an entry, one that finds none, and the write and the deletion of a key. -/
theorem lookup_found {i : Nat} (h : s.fdbFind s.fdbKey.1 s.fdbKey.2 = some i) : s.fdbCmd 1 0 =
    ((s.set pFDB F.FDB.CMD.OP 1).fdbShow (s.fdbAt i)).fdbDone 0 (some i) := by
  simp only [State.fdbCmd, State.fdbLookup, fdbKey_setOp, fdbFind_setOp, h, fdbAt_setOp]

theorem lookup_missed (h : s.fdbFind s.fdbKey.1 s.fdbKey.2 = none) : s.fdbCmd 1 0 = (s.set pFDB F.FDB.CMD.OP 1).fdbDone 1 none := by
  simp only [State.fdbCmd, State.fdbLookup, fdbKey_setOp, fdbFind_setOp, h]

theorem write_new {i : Nat} (hfind : s.fdbFind s.fdbKey.1 s.fdbKey.2 = none) (hfree : s.fdbFree s.fdbKey.1 s.fdbKey.2 = some i)
    (hvalid : s.get pFDB F.FDB.ENTRY.VALID = 1) : s.fdbCmd 2 0 =
    ((s.set pFDB F.FDB.CMD.OP 2).fdbPut i ⟨true, s.flag pFDB F.FDB.ENTRY.STATIC, s.flag pFDB F.FDB.ENTRY.GROUP, s.fdbKey.1, s.fdbKey.2,
      s.get pFDB F.FDB.ENTRY.DEST, s.clock⟩).fdbDone 0 (some i) := by
  simp (disch := decide) only [State.fdbCmd, State.fdbWrite, fdbKey_setOp, fdbFind_setOp, fdbFree_setOp, hfind, hfree, State.flag,
    State.get_set_apart, hvalid, State.set_clock]
  rfl

theorem delete_found {i : Nat} (h : s.fdbFind s.fdbKey.1 s.fdbKey.2 = some i) : s.fdbCmd 3 0 =
    ((s.set pFDB F.FDB.CMD.OP 3).fdbPut i fdbNone).fdbDone 0 (some i) := by
  simp only [State.fdbCmd, State.fdbDelete, fdbKey_setOp, fdbFind_setOp, h]

theorem fdbFlush_masked (s : State) (m : Nat) :
    (s.fdbFlush (some m)).sw.fdb = s.sw.fdb.filter (fun p => p.2.fixed || (p.2.dest &&& m) == 0) :=
  (congrArg (·.fdb) (fdbDone_sw _ _ _)).trans (congrArg (·.fdb) (State.set_sw ..))

theorem fdbFlush_all (s : State) : (s.fdbFlush none).sw.fdb = s.sw.fdb.filter (fun p => p.2.fixed || false) :=
  (congrArg (·.fdb) (fdbDone_sw _ _ _)).trans (congrArg (·.fdb) (State.set_sw ..))

theorem flush_shows (s : State) (mask : Option Nat) : (s.fdbFlush mask).get pFDB F.FDB.RESULT.OUTCOME = 0 ∧
    (s.fdbFlush mask).get pFDB F.FDB.CMD.GO = 0 ∧ (s.fdbFlush mask).get pFDB ⟨0x0C, 8, 1⟩ = 1 := fdbDone_shows _ 0 none

end Sys2Proof.Forwarding

open Sys2Proof.Forwarding

/-- Settles O34: each operation ends in `fdbDone` on the entry that it shows or stores. -/
theorem forwardingDatabase : Obligations.ForwardingDatabase := by
  unfold Obligations.ForwardingDatabase
  refine ⟨?_, ?_, ?_, ?_, ?_, ?_, ?_, ?_, ?_⟩
  · intro clk index s ha
    obtain ⟨hout, hgo, hevent⟩ := fdbDone_shows ((((s.advance clk).set pFDB F.FDB.CMD.OP 0).set pFDB F.FDB.CMD.INDEX (index % 8192)).fdbShow
      (s.fdbAt (index % 8192))) 0 (some (index % 8192))
    obtain ⟨hlo, hhi, hvalid, -, hdest⟩ := get_fdbShow (((s.advance clk).set pFDB F.FDB.CMD.OP 0).set pFDB F.FDB.CMD.INDEX (index % 8192))
      (s.fdbAt (index % 8192))
    have heq : (s.advance clk).fdbGo 0 (some index) = ((((s.advance clk).set pFDB F.FDB.CMD.OP 0).set pFDB F.FDB.CMD.INDEX
        (index % 8192)).fdbShow (s.fdbAt (index % 8192))).fdbDone 0 (some (index % 8192)) := by
      rw [fdbGo_accepts ha]
      simp only [State.fdbCmd, State.fdbRead, fdbAt_setOp, Option.map_some, Option.getD_some, Nat.mod_mod]
      rfl
    refine ⟨_, next_of_eq heq rfl, (get_fdbDone_entry _ _ _ (by decide) (by decide)).trans hlo,
      (get_fdbDone_entry _ _ _ (by decide) (by decide)).trans hhi, (get_fdbDone_entry _ _ _ (by decide) (by decide)).trans hvalid,
      (get_fdbDone_entry _ _ _ (by decide) (by decide)).trans hdest, hout, ?_, hgo, hevent, ?_⟩
    · exact (fdbDone_index _ _ _).trans (Nat.mod_mod _ _)
    · simp [State.advance]
  · intro clk i s ha hfind
    obtain ⟨-, -, -, hfixed, hdest⟩ := get_fdbShow ((s.advance clk).set pFDB F.FDB.CMD.OP 1) (s.fdbAt i)
    refine ⟨_, next_of_eq ((fdbGo_accepts ha none).trans (lookup_found hfind)) rfl,
      (get_fdbDone_entry _ _ _ (by decide) (by decide)).trans hdest, (get_fdbDone_entry _ _ _ (by decide) (by decide)).trans hfixed,
      (fdbDone_shows _ _ _).1, fdbDone_index _ _ _, ?_⟩
    simp [State.advance]
  · intro clk s ha hfind
    obtain ⟨hout, hgo, -⟩ := fdbDone_shows ((s.advance clk).set pFDB F.FDB.CMD.OP 1) 1 none
    refine ⟨_, next_of_eq ((fdbGo_accepts ha none).trans (lookup_missed hfind)) rfl, hout, hgo, ?_⟩
    simp [State.advance]
  · intro clk i s ha hfind hfree hvalid
    refine ⟨_, next_of_eq ((fdbGo_accepts ha none).trans (write_new (s := s.advance clk) hfind hfree hvalid)) rfl, ?_,
      (fdbDone_shows _ _ _).1, fdbDone_index _ _ _⟩
    rw [fdbAt_congr (fdbDone_sw _ _ _), fdbPut_at]
    rfl
  · intro clk i s ha hfind
    refine ⟨_, next_of_eq ((fdbGo_accepts ha none).trans (delete_found (s := s.advance clk) hfind)) rfl, ?_, (fdbDone_shows _ _ _).1⟩
    rw [fdbAt_congr (fdbDone_sw _ _ _), fdbPut_at]
    rfl
  · intro clk s ha
    have heq : (s.advance clk).fdbGo 4 none =
        ((s.advance clk).set pFDB F.FDB.CMD.OP 4).fdbFlush (some (s.get pFDB F.FDB.ENTRY.DEST)) := by
      rw [fdbGo_accepts ha, State.fdbCmd, State.get_set_apart _ _ _ _ _ _ (by decide) (by decide) (by decide), State.get_advance]
    obtain ⟨-, hgo, hevent⟩ := flush_shows ((s.advance clk).set pFDB F.FDB.CMD.OP 4) (some (s.get pFDB F.FDB.ENTRY.DEST))
    refine ⟨_, next_of_eq heq rfl, ?_, hgo, hevent⟩
    rw [fdbFlush_masked, State.set_sw]
    rfl
  · intro clk s ha
    have heq : (s.advance clk).fdbGo 5 none = ((s.advance clk).set pFDB F.FDB.CMD.OP 5).fdbFlush none := by
      rw [fdbGo_accepts ha, State.fdbCmd]
    obtain ⟨-, hgo, hevent⟩ := flush_shows ((s.advance clk).set pFDB F.FDB.CMD.OP 5) none
    refine ⟨_, next_of_eq heq rfl, ?_, hgo, hevent⟩
    rw [fdbFlush_all, State.set_sw]
    simp only [Bool.or_false]
    rfl
  · intro clk op s ha
    have heq : (s.advance clk).fdbGo (6 + op % 2) none = ((s.advance clk).set pFDB F.FDB.CMD.OP (6 + op % 2)).fdbDone 3 none := by
      rw [fdbGo_accepts ha]
      obtain h | h : op % 2 = 0 ∨ op % 2 = 1 := by omega
      · rw [h]; rfl
      · rw [h]; rfl
    obtain ⟨hout, hgo, -⟩ := fdbDone_shows ((s.advance clk).set pFDB F.FDB.CMD.OP (6 + op % 2)) 3 none
    refine ⟨_, next_of_eq heq rfl, hout, hgo, ?_⟩
    simp [State.advance]
  · intro index s hvalid hfixed hrun hheld hlearn
    have heq : s.fdbAge index = ((s.advance (s.fdbDue (s.fdbAt index))).fdbPut index fdbNone).bump pFDB F.FDB.AGED.COUNT := by
      simp [State.fdbAge, hvalid, hfixed, hrun, hheld, hlearn]
    refine ⟨_, next_of_eq heq rfl, ?_, ?_, ?_⟩
    · rw [State.bump_set, fdbAt_setOp, fdbPut_at]
      rfl
    · rw [State.bump_set, State.get_set_same _ _ _ _ (by decide), State.fdbPut, State.get_set_apart _ _ _ _ _ _ (by decide) (by decide) (by decide)]
      rfl
    · rw [State.bump_set, State.set_clock, State.fdbPut, State.set_clock]
      rfl

end

section
/-!
PROOFS. The Datum's steps and its holdover (R73–R80): what the entry and the exit show, and what an accepted and a refused step
leave.
-/

open Sys2Proof Sys2Proof.Machine Sys2Proof.Laws
namespace Sys2Proof.Datum

variable {s : State}

/-- A record of the hub changes the book and the counts of the book and the edges. -/
def bookScope : Scope := frameScope [] (fun p => p == pBOOK || famOf p == some Fam.edge) [.book]

theorem bookScope_book : bookScope.page pBOOK := frameScope_page_of_named rfl
theorem bookScope_edge (n : Nat) : bookScope.page (pEDGE n) := frameScope_page_of_named (by simp)

theorem note_only (s : State) (kind flags source : Nat) (data : List Byte) : Kept bookScope s (s.note kind flags source data) :=
  note_kept (Kept.refl _ s) rfl bookScope_book.fld bookScope_book.fld bookScope_book.fld (bookScope_edge _).fld (bookScope_edge _).fld
    bookScope_book.fld bookScope_book.fld

theorem note_get (s : State) (kind flags source : Nat) (data : List Byte) {f : Fld}
    (h : ∀ i, i < f.words → bookScope.reg (regKey pDATUM (f.off + 4 * i)) = false) :
    (s.note kind flags source data).get pDATUM f = s.get pDATUM f := (note_only ..).get_eq h

theorem holdRec_get (s : State) (entry : Bool) (cause : Nat) {f : Fld}
    (h : ∀ i, i < f.words → bookScope.reg (regKey pDATUM (f.off + 4 * i)) = false) :
    (s.holdRec entry cause).get pDATUM f = s.get pDATUM f := note_get _ _ _ _ _ h

theorem holdRec_datum (s : State) (entry : Bool) (cause : Nat) : (s.holdRec entry cause).datum = s.datum := (note_only ..).part .datum rfl

theorem inHoldover_iff : s.inHoldover = true ↔ s.get pDATUM F.DATUM.STS.HOLDOVER ≠ 0 := by simp [State.inHoldover, State.flag]

/-- What the entry to holdover shows (R79). -/
theorem holdEnter_shows (s : State) {cause : Nat} (hcause : cause < 4) :
    (s.holdEnter cause).get pDATUM F.DATUM.STS.HOLDOVER = 1 ∧ (s.holdEnter cause).get pDATUM F.DATUM.STS.HO_CAUSE = cause ∧
      (s.holdEnter cause).get pDATUM ⟨0x0C, 10, 1⟩ = 1 ∧ (s.holdEnter cause).datum = s.datum := by
  refine ⟨?_, ?_, ?_, ?_⟩ <;> unfold State.holdEnter
  · rw [holdRec_get _ _ _ (by decide)]
    simp (disch := decide) only [State.event_get, State.get_set_apart, State.get_set_same]
    rfl
  · rw [holdRec_get _ _ _ (by decide)]
    simp (disch := decide) only [State.event_get, State.get_set_apart, State.get_set_same]
    exact Nat.mod_eq_of_lt (hcause.trans_le (by decide))
  · rw [holdRec_get _ _ _ (by decide)]
    exact State.get_event_same _ (by decide)
  · simp [holdRec_datum]

/-- The entry to holdover keeps the other fields of the page. -/
theorem get_holdEnter (s : State) (cause : Nat) {f : Fld} (hf : f.fits = true)
    (hbook : ∀ i, i < f.words → bookScope.reg (regKey pDATUM (f.off + 4 * i)) = false)
    (hbeside : ∀ g ∈ [F.DATUM.STS.HOLDOVER, F.DATUM.STS.HO_CAUSE, ⟨0x0C, 10, 1⟩], Fld.apart pDATUM g pDATUM f = true) :
    (s.holdEnter cause).get pDATUM f = s.get pDATUM f := by
  simp only [List.forall_mem_cons] at hbeside
  obtain ⟨h1, h2, h3, -⟩ := hbeside
  rw [State.holdEnter, holdRec_get _ _ _ hbook, State.event_get, State.get_set_apart _ _ _ _ _ _ h3 (by decide) hf,
    State.get_set_apart _ _ _ _ _ _ h2 (by decide) hf, State.get_set_apart _ _ _ _ _ _ h1 (by decide) hf]

/-- What the exit shows (R79). -/
theorem holdExit_shows (s : State) : s.holdExit.get pDATUM F.DATUM.STS.HOLDOVER = 0 ∧ s.holdExit.get pDATUM F.DATUM.STS.HO_CAUSE = 0 ∧
    s.holdExit.datum = s.datum := by
  refine ⟨?_, ?_, ?_⟩ <;> unfold State.holdExit
  · rw [holdRec_get _ _ _ (by decide)]
    simp (disch := decide) only [State.get_set_apart, State.get_set_same, Nat.zero_mod]
  · rw [holdRec_get _ _ _ (by decide)]
    simp (disch := decide) only [State.get_set_apart, State.get_set_same, Nat.zero_mod]
  · simp [holdRec_datum]

/-- The state as the reference fault has been flagged (R79). -/
def faulted (s : State) : State := (s.set pDATUM F.DATUM.STS.REF_FAULT 1).event pDATUM 12

theorem faulted_shows (s : State) : (faulted s).get pDATUM F.DATUM.STS.REF_FAULT = 1 ∧ (faulted s).get pDATUM ⟨0x0C, 12, 1⟩ = 1 ∧
    (faulted s).datum = s.datum := by
  refine ⟨?_, State.get_event_same _ (by decide), by simp [faulted]⟩
  unfold faulted
  simp (disch := decide) only [State.event_get, State.get_set_apart, State.get_set_same]
  rfl

/-! Steps (R76–R78). -/

theorem satAdd_mod (n k wd : Nat) : satAdd n k wd % 2 ^ wd = satAdd n k wd := by
  have hpos := Nat.two_pow_pos wd
  refine Nat.mod_eq_of_lt ?_
  unfold satAdd; omega

/-- The value that a write of STEP carries. -/
def stepValue (s : State) (hi : Word) : Nat := (s.latched pDATUM 0x50).toNat + 2 ^ 32 * hi.toNat

theorem stepValue_lt (s : State) (hi : Word) : stepValue s hi < 2 ^ 64 := by
  have h1 := (s.latched pDATUM 0x50).isLt
  have h2 := hi.isLt
  unfold stepValue; omega

/-- A step over the limit outside the unlock window is refused with reason 1. -/
theorem stepRefusal_over {v : Int} (hhold : s.get pDATUM F.DATUM.STS.HOLDOVER = 0) (hvalid : s.get pDATUM F.DATUM.STS.TVALID = 1)
    (hlocked : s.unlocked = false) (hover : s.get pDATUM F.DATUM.STEP_LIMIT.LIMIT < v.natAbs) : s.stepRefusal v = some 1 := by
  have hover' : (s.get pDATUM F.DATUM.STEP_LIMIT.LIMIT : Int) < v.natAbs := by exact_mod_cast hover
  simp only [State.stepRefusal, State.inHoldover, State.flag, hhold, hvalid, hlocked, hover']
  rfl

/-- While no time is valid nothing but the range of T refuses a step. -/
theorem stepRefusal_invalid {v : Nat} (hhold : s.get pDATUM F.DATUM.STS.HOLDOVER = 0) (hvalid : s.get pDATUM F.DATUM.STS.TVALID = 0)
    (hrange : s.datum.fold.fix s.raw + v * 2 ^ 40 < 2 ^ 104) : s.stepRefusal (v : Int) = none := by
  simp only [State.stepRefusal, State.inHoldover, State.flag, hhold, hvalid, bne_self_eq_false, Bool.false_and, Bool.and_false,
    Bool.false_eq_true, if_false]
  exact if_neg (by omega)

theorem toSigned_small {v : Nat} (h : v < 2 ^ 63) : toSigned v 64 = (v : Int) := by
  unfold toSigned
  rw [Nat.mod_eq_of_lt (by omega), if_pos h]

/-- What a refused step shows where it takes the hub into holdover (R78, R79). -/
theorem stepRefuse_shows {v rsn : Nat} {src : Source} (hv : v < 2 ^ 64) (hrsn : rsn < 4) (hhold : s.get pDATUM F.DATUM.STS.HOLDOVER = 0) :
    (s.stepRefuse v rsn src).datum = s.datum ∧ (s.stepRefuse v rsn src).get pDATUM F.DATUM.REFSTEP.VALUE = v ∧
      (s.stepRefuse v rsn src).get pDATUM F.DATUM.STS.STEP_RSN = rsn ∧
      (s.stepRefuse v rsn src).get pDATUM F.DATUM.STEPCNT.REFUSED = satAdd (s.get pDATUM F.DATUM.STEPCNT.REFUSED) 1 16 ∧
      (s.stepRefuse v rsn src).get pDATUM F.DATUM.STS.HOLDOVER = 1 ∧ (s.stepRefuse v rsn src).get pDATUM F.DATUM.STS.HO_CAUSE = 1 ∧
      (s.stepRefuse v rsn src).get pDATUM ⟨0x0C, 9, 1⟩ = 1 := by
  unfold State.stepRefuse
  extract_lets s1 s2 s3
  have hget3 {f : Fld} (h : ∀ i, i < f.words → bookScope.reg (regKey pDATUM (f.off + 4 * i)) = false) :
      s3.get pDATUM f = s2.get pDATUM f := note_get _ _ _ _ _ h
  have hdatum3 : s3.datum = s.datum := by
    have h2 : s2.datum = s.datum := by simp [s2, s1, State.bumpSat_set]
    exact ((note_only ..).part .datum rfl).trans h2
  have hnot : ¬ s3.inHoldover = true := by
    rw [inHoldover_iff, hget3 (by decide), not_not]
    simp (disch := decide) only [s2, s1, State.bumpSat_set, State.event_get, State.get_set_apart, hhold]
  rw [if_neg hnot]
  obtain ⟨hhold', hcause, -, hdatum⟩ := holdEnter_shows s3 (cause := 1) (by decide)
  refine ⟨hdatum.trans hdatum3, ?_, ?_, ?_, hhold', hcause, ?_⟩
  · rw [get_holdEnter _ _ (by decide) (by decide) (by decide), hget3 (by decide)]
    simp (disch := decide) only [s2, s1, State.bumpSat_set, State.event_get, State.get_set_apart, State.get_set_same]
    exact Nat.mod_eq_of_lt hv
  · rw [get_holdEnter _ _ (by decide) (by decide) (by decide), hget3 (by decide)]
    simp (disch := decide) only [s2, s1, State.bumpSat_set, State.event_get, State.get_set_apart, State.get_set_same]
    exact Nat.mod_eq_of_lt (hrsn.trans_le (by decide))
  · rw [get_holdEnter _ _ (by decide) (by decide) (by decide), hget3 (by decide)]
    simp (disch := decide) only [s2, s1, State.bumpSat_set, State.event_get, State.get_set_apart, State.get_set_same]
    exact satAdd_mod _ _ 16
  · rw [get_holdEnter _ _ (by decide) (by decide) (by decide), hget3 (by decide)]
    exact State.get_event_same _ (by decide)

/-- What an accepted step shows outside holdover (R73, R76, R77). -/
theorem stepAccept_shows {v : Nat} (hhold : s.get pDATUM F.DATUM.STS.HOLDOVER = 0) :
    (s.stepAccept v).datum.fold = ⟨s.raw, s.datum.fold.fix s.raw + v * 2 ^ 40, s.datum.fold.inc⟩ ∧
      (s.stepAccept v).datum.older = (s.datum.fold :: s.datum.older).take 7 ∧ (s.stepAccept v).datum.unlock = none ∧
      (s.stepAccept v).get pDATUM F.DATUM.STS.TVALID = 1 ∧
      (s.stepAccept v).get pDATUM F.DATUM.STEPCNT.ACCEPTED = satAdd (s.get pDATUM F.DATUM.STEPCNT.ACCEPTED) 1 16 ∧
      (s.stepAccept v).get pDATUM ⟨0x0C, 8, 1⟩ = 1 := by
  unfold State.stepAccept
  extract_lets before s0 d0 m0 s1 s2 s3
  have hget1 (f : Fld) : s1.get pDATUM f = s.get pDATUM f := State.get_of_words fun _ _ => rfl
  have h3 : s3 = s2 := by
    refine if_neg fun h => inHoldover_iff.mp h.1 ?_
    simp (disch := decide) only [s2, State.bumpSat_set, State.event_get, State.get_set_apart, hget1, hhold]
  rw [h3]
  have hk : Kept (frameScope [] (fun p => p == pCYCLE || p == pPLAT || famOf p == some Fam.can) [.cycle, .plat, .mem, .cans]) s2
      ((s2.cycleStep before s2.now).canStep before s2.now) :=
    have hcycle : (frameScope [] (fun p => p == pCYCLE || p == pPLAT || famOf p == some Fam.can) [.cycle, .plat, .mem, .cans]).page pCYCLE :=
      frameScope_page_of_named rfl
    canStep_kept (cycleStep_kept (Kept.refl _ _) rfl rfl rfl hcycle.fld hcycle.fld hcycle.fld hcycle.fld (frameScope_page_of_named rfl)) rfl
      fun n => frameScope_page_of_named (by simp)
  have hdatum : ((s2.cycleStep before s2.now).canStep before s2.now).datum = s1.datum :=
    (hk.part .datum rfl).trans (by simp [s2, State.bumpSat_set])
  refine ⟨?_, by rw [hdatum]; rfl, by rw [hdatum]; rfl, ?_, ?_, ?_⟩
  · rw [hdatum]
    change (⟨s.raw, ((s.datum.fold.fix s.raw : Int) + v * 2 ^ 40).toNat, s.datum.fold.inc⟩ : Fold) = _
    congr 1
  · rw [hk.get_eq (by decide)]
    simp (disch := decide) only [s2, State.bumpSat_set, State.event_get, State.get_set_apart, State.get_set_same]
    rfl
  · rw [hk.get_eq (by decide)]
    simp (disch := decide) only [s2, State.bumpSat_set, State.event_get, State.get_set_apart, State.get_set_same, hget1]
    exact satAdd_mod _ _ 16
  · rw [hk.get_eq (by decide)]
    exact State.get_event_same _ (by decide)

end Sys2Proof.Datum

open Sys2Proof.Datum

/-- Settles O11: a step over the limit ends in `stepRefuse`, one while no time is valid in `stepAccept`. -/
theorem datumSteps : Obligations.DatumSteps := by
  unfold Obligations.DatumSteps
  refine ⟨?_, ?_⟩
  · intro clk hi src s ha hhold hvalid hlocked hover
    have heq : (s.advance clk).regWrite pDATUM 0x54 (2 ^ 32 - 1) hi.toNat src (fun t => t.stepWrite hi src) =
        (s.advance clk).stepRefuse (stepValue s hi) 1 src := by
      have hrefused := stepRefusal_over (s := s.advance clk) (v := toSigned (stepValue s hi) 64) hhold hvalid hlocked hover
      rw [State.regWrite_accepts ha, State.stepWrite]
      change (match (s.advance clk).stepRefusal (toSigned (stepValue s hi) 64) with
        | some rsn => (s.advance clk).stepRefuse (stepValue s hi) rsn src
        | none => (s.advance clk).stepAccept (toSigned (stepValue s hi) 64)) = _
      rw [hrefused]
    exact ⟨_, next_of_eq heq rfl, stepRefuse_shows (s := s.advance clk) (stepValue_lt s hi) (by decide) hhold⟩
  · intro clk hi src s ha hhold hvalid hsmall hrange
    have heq : (s.advance clk).regWrite pDATUM 0x54 (2 ^ 32 - 1) hi.toNat src (fun t => t.stepWrite hi src) =
        (s.advance clk).stepAccept (stepValue s hi : Nat) := by
      have hok := stepRefusal_invalid (s := s.advance clk) (v := stepValue s hi) hhold hvalid hrange
      rw [State.regWrite_accepts ha, State.stepWrite]
      change (match (s.advance clk).stepRefusal (toSigned (stepValue s hi) 64) with
        | some rsn => (s.advance clk).stepRefuse (stepValue s hi) rsn src
        | none => (s.advance clk).stepAccept (toSigned (stepValue s hi) 64)) = _
      rw [toSigned_small (v := stepValue s hi) hsmall, hok]
    exact ⟨_, next_of_eq heq rfl, stepAccept_shows (s := s.advance clk) hhold⟩

/-- Settles O12: entry, exit, and the fault that does both. -/
theorem datumHoldover : Obligations.DatumHoldover := by
  unfold Obligations.DatumHoldover
  refine ⟨?_, ?_, ?_, ?_⟩
  · intro clk s ha hhold
    have heq : (s.advance clk).bitWrite pDATUM F.DATUM.CTL.HOLD_REQ State.holdReq = (s.advance clk).holdEnter 2 := by
      rw [State.bitWrite_accepts ha]
      exact if_neg fun h => inHoldover_iff.mp h hhold
    exact ⟨_, next_of_eq heq rfl, holdEnter_shows (s.advance clk) (by decide)⟩
  · intro clk s ha hhold hfault
    have heq : (s.advance clk).bitWrite pDATUM F.DATUM.CTL.RESUME State.resume = (s.advance clk).holdExit := by
      have hin : (s.advance clk).inHoldover = true := inHoldover_iff.mpr (by rw [State.get_advance, hhold]; decide)
      rw [State.bitWrite_accepts ha, State.resume, hin, Bool.not_true, if_neg (by decide)]
      refine if_neg fun h => ?_
      simp only [State.get_advance, State.flag, bne_iff_ne] at h
      rcases hfault with hf | hf
      · exact hf h.1
      · exact h.2 hf
    exact ⟨_, next_of_eq heq rfl, holdExit_shows (s.advance clk)⟩
  · intro clk s hon hfault
    have hclear : ¬ (s.advance clk).flag pDATUM F.DATUM.STS.REF_FAULT = true := by simp [State.flag, hfault]
    have heq : (s.advance clk).whenOn State.refFault =
        if (faulted (s.advance clk)).inHoldover && (faulted (s.advance clk)).get pDATUM F.DATUM.STS.HO_CAUSE == 3 then
          faulted (s.advance clk) else (faulted (s.advance clk)).closeUnlock.holdEnter 3 := by
      rw [State.whenOn_on (s := s.advance clk) hon, State.refFault, if_neg hclear]
      rfl
    obtain ⟨href, hevent, hdatum⟩ := faulted_shows (s.advance clk)
    refine ⟨_, next_of_eq heq rfl, ?_⟩
    by_cases hheld : ((faulted (s.advance clk)).inHoldover && (faulted (s.advance clk)).get pDATUM F.DATUM.STS.HO_CAUSE == 3) = true
    · rw [if_pos hheld]
      rw [Bool.and_eq_true, inHoldover_iff, beq_iff_eq] at hheld
      have hlt : (faulted (s.advance clk)).get pDATUM F.DATUM.STS.HOLDOVER < 2 ^ 1 := State.get_lt _ _ _
      exact ⟨href, by omega, hheld.2, hevent, by rw [hdatum]; rfl⟩
    · rw [if_neg hheld]
      obtain ⟨hin, hcause, -, hdatum'⟩ := holdEnter_shows (faulted (s.advance clk)).closeUnlock (cause := 3) (by decide)
      refine ⟨?_, hin, hcause, ?_, ?_⟩
      · rw [get_holdEnter _ _ (by decide) (by decide) (by decide)]
        exact (State.get_of_words fun _ _ => rfl).trans href
      · rw [get_holdEnter _ _ (by decide) (by decide) (by decide)]
        exact (State.get_of_words fun _ _ => rfl).trans hevent
      · rw [hdatum']
        change (faulted (s.advance clk)).datum.fold = _
        rw [hdatum]; rfl
  · intro clk s hon
    refine ⟨_, next_of_eq (State.whenOn_on (s := s.advance clk) hon) rfl, ?_, ?_, ?_⟩
    · simp (disch := decide) only [State.get_set_same, Nat.zero_mod]
    · simp (disch := decide) only [State.get_set_apart, State.get_advance]
    · exact State.set_datum ..

end

section
/-!
PROOFS. The calibration store (R505–R507): what an access of DATA, the unlock word and a programming leave; the sections lie
apart, so each is copied or kept as its mask bit says.
-/

open Sys2Proof Sys2Proof.Machine Sys2Proof.Laws
namespace Sys2Proof.Calibration

variable {s : State}

/-! Stores of several bytes. -/

/-- What an address reads as after a list of addresses has been stored. -/
theorem tabGet_foldl_put {α : Type} [DecidableEq α] (d : Nat → α) (v : Nat → α) (k : Nat) : ∀ (l : List Nat) (m : List (Nat × α)),
    tabGet d (l.foldl (fun m a => tabPut d m a (v a)) m) k = if k ∈ l then v k else tabGet d m k
  | [], m => by simp
  | a :: rest, m => by
    rw [List.foldl_cons, tabGet_foldl_put d v k rest, tabGet_tabPut]
    by_cases hk : k = a
    · subst hk; simp
    · simp [hk]

/-- The four bytes of a staged word. -/
theorem staged_bytes (l : List (Nat × Byte)) (a : Nat) (v : Nat → Byte) {i : Nat} (hi : i < 4) :
    tabGet stageDefault ((List.range 4).foldl (fun l i => tabPut stageDefault l (a + i) (v i)) l) (a + i) = v i := by
  have hmap : (List.range 4).foldl (fun l i => tabPut stageDefault l (a + i) (v i)) l =
      ((List.range 4).map (a + ·)).foldl (fun l b => tabPut stageDefault l b (v (b - a))) l := by
    simp only [List.foldl_map, Nat.add_sub_cancel_left]
  rw [hmap, tabGet_foldl_put stageDefault (fun b => v (b - a)), if_pos (List.mem_map_of_mem (List.mem_range.mpr hi)), Nat.add_sub_cancel_left]

/-! Sections (R503, R506). -/

/-- The addresses that a copied section rewrites: its bytes and its CRC word. -/
def sectionAddrs (k : Nat) : List Nat :=
  (List.range (calOff (k + 1) - calOff k)).map (fun i => calOff k + i) ++ (List.range 4).map (fun i => 0xFC0 + 4 * k + i)

theorem copySection_eq (staged m : List (Nat × Byte)) (k : Nat) :
    copySection staged m k = (sectionAddrs k).foldl (fun m a => tabPut calDefault m a (tabGet stageDefault staged a)) m := rfl

theorem calOff_bounds : ∀ k < 10, k ≠ 0 → 0x10 ≤ calOff k ∧ calOff (k + 1) ≤ 0x7C0 := by decide
theorem calOff_mono : ∀ j < 10, ∀ k < 10, j < k → calOff (j + 1) ≤ calOff k := by decide

theorem mem_sectionAddrs {j a : Nat} : a ∈ sectionAddrs j ↔ (calOff j ≤ a ∧ a < calOff (j + 1)) ∨ (0xFC0 + 4 * j ≤ a ∧ a < 0xFC0 + 4 * j + 4) := by
  simp only [sectionAddrs, List.mem_append, List.mem_map, List.mem_range]
  constructor
  · rintro (⟨i, hi, rfl⟩ | ⟨i, hi, rfl⟩) <;> omega
  · rintro (⟨h1, h2⟩ | ⟨h1, h2⟩)
    · exact .inl ⟨a - calOff j, by omega, by omega⟩
    · exact .inr ⟨a - (0xFC0 + 4 * j), by omega, by omega⟩

/-- A byte of one section is no address of another. -/
theorem sectionAddrs_apart {j k a : Nat} (hj : j < 10) (hk : k < 10 ∧ k ≠ 0) (hne : j ≠ k) (hlo : calOff k ≤ a) (hhi : a < calOff (k + 1)) :
    a ∉ sectionAddrs j := by
  have hbounds := calOff_bounds k hk.1 hk.2
  rw [mem_sectionAddrs]
  rcases Nat.lt_or_gt_of_ne hne with h | h
  · have := calOff_mono j hj k hk.1 h; omega
  · have := calOff_mono k hk.1 j hj h; omega

/-- The MTP once the sections of a mask have been copied. -/
def copied (staged mtp : List (Nat × Byte)) (mask : Nat) (l : List Nat) : List (Nat × Byte) :=
  l.foldl (fun m k => if natBit mask k then copySection staged m k else m) mtp

/-- An address that no copied section holds is kept. -/
theorem copied_beside (staged : List (Nat × Byte)) (mask a : Nat) : ∀ (l : List Nat) (mtp : List (Nat × Byte)),
    (∀ j ∈ l, natBit mask j = true → a ∉ sectionAddrs j) → calGet (copied staged mtp mask l) a = calGet mtp a
  | [], _, _ => rfl
  | j :: rest, mtp, h => by
    have hrest : ∀ i ∈ rest, natBit mask i = true → a ∉ sectionAddrs i := fun i hi => h i (List.mem_cons_of_mem _ hi)
    rw [copied, List.foldl_cons]
    refine (copied_beside staged mask a rest _ hrest).trans ?_
    split
    · rename_i hj
      rw [copySection_eq, calGet, tabGet_foldl_put, if_neg (h j (List.mem_cons_self ..) hj), calGet]
    · rfl

/-- A section of the mask holds what was staged. -/
theorem copied_section (staged : List (Nat × Byte)) (mask : Nat) {k a : Nat} (hk : k < 10 ∧ k ≠ 0) (hbit : natBit mask k = true)
    (hlo : calOff k ≤ a) (hhi : a < calOff (k + 1)) : ∀ (l : List Nat) (mtp : List (Nat × Byte)), l.Nodup → (∀ j ∈ l, j < 10) → k ∈ l →
    calGet (copied staged mtp mask l) a = tabGet stageDefault staged a
  | [], _, _, _, hmem => absurd hmem (by simp)
  | j :: rest, mtp, hnodup, hlt, hmem => by
    obtain ⟨hnot, hnodup'⟩ := List.nodup_cons.mp hnodup
    rw [copied, List.foldl_cons]
    by_cases hjk : j = k
    · subst hjk
      refine (copied_beside staged mask a rest _ fun i hi _ => sectionAddrs_apart (hlt i (List.mem_cons_of_mem _ hi)) hk ?_ hlo hhi).trans ?_
      · rintro rfl; exact hnot hi
      · rw [if_pos hbit, copySection_eq, calGet, tabGet_foldl_put, if_pos (mem_sectionAddrs.mpr (.inl ⟨hlo, hhi⟩))]
    · exact copied_section staged mask hk hbit hlo hhi rest _ hnodup' (fun i hi => hlt i (List.mem_cons_of_mem _ hi))
        ((List.mem_cons.mp hmem).resolve_left (Ne.symm hjk))

/-- The sections that a programming may rewrite. -/
def sections : List Nat := (List.range 9).map (· + 1)

theorem sections_lt : ∀ j ∈ sections, 0 < j ∧ j < 10 := by decide

/-- The header as a programming leaves it: ORIGIN 1 and one more write. -/
def headed (m : List (Nat × Byte)) (w : Nat) : List (Nat × Byte) :=
  tabPut calDefault (tabPut calDefault (tabPut calDefault m 5 1) 6 (BitVec.ofNat 8 w)) 7 (BitVec.ofNat 8 (w / 256))

/-- The CRC word of the header renewed. -/
def sealed (m : List (Nat × Byte)) (c : Nat) : List (Nat × Byte) :=
  (List.range 4).foldl (fun m i => tabPut calDefault m (0xFC0 + i) (BitVec.ofNat 8 (c / 256 ^ i))) m

theorem sealed_beside (m : List (Nat × Byte)) (c : Nat) {a : Nat} (ha : a < 0xFC0) : calGet (sealed m c) a = calGet m a := by
  have hne (i : Nat) : a ≠ 0xFC0 + i := by omega
  simp only [sealed, calGet, show List.range 4 = [0, 1, 2, 3] from rfl, List.foldl_cons, List.foldl_nil, tabGet_tabPut, hne, if_false]

theorem headed_beside (m : List (Nat × Byte)) (w : Nat) {a : Nat} (ha : 8 ≤ a) : calGet (headed m w) a = calGet m a := by
  simp only [headed, calGet, tabGet_tabPut, show a ≠ 7 by omega, show a ≠ 6 by omega, show a ≠ 5 by omega, if_false]

/-- The MTP as a programming of the sections of `mask` leaves it (R506). -/
def programmed (staged mtp : List (Nat × Byte)) (mask : Nat) : List (Nat × Byte) :=
  let m1 := copied staged mtp mask sections
  let m2 := headed m1 (calNum m1 6 2 + 1)
  sealed m2 (crc32c ((List.range 16).map (fun i => calGet m2 i)))

theorem programmed_section (staged mtp : List (Nat × Byte)) {mask k a : Nat} (hk : k < 10 ∧ k ≠ 0) (hlo : calOff k ≤ a) (hhi : a < calOff (k + 1)) :
    calGet (programmed staged mtp mask) a = if natBit mask k then tabGet stageDefault staged a else calGet mtp a := by
  have hbounds := calOff_bounds k hk.1 hk.2
  have hmem : k ∈ sections := List.mem_map.mpr ⟨k - 1, List.mem_range.mpr (by omega), by omega⟩
  rw [programmed, sealed_beside _ _ (by omega), headed_beside _ _ (by omega)]
  split
  · rename_i hbit
    exact copied_section staged mask hk hbit hlo hhi sections mtp (by decide) (fun j hj => (sections_lt j hj).2) hmem
  · rename_i hbit
    refine copied_beside staged mask a sections mtp fun j hj hj' => sectionAddrs_apart (sections_lt j hj).2 hk ?_ hlo hhi
    rintro rfl; exact hbit hj'

theorem calNum_two (m : List (Nat × Byte)) (a : Nat) : calNum m a 2 = (calGet m a).toNat + 256 * (calGet m (a + 1)).toNat := by
  simp [calNum, ofLE, show List.range 2 = [0, 1] from rfl]

theorem programmed_writes (staged mtp : List (Nat × Byte)) (mask : Nat) :
    calNum (programmed staged mtp mask) 6 2 = (calNum mtp 6 2 + 1) % 65536 := by
  have hheader {a : Nat} (ha : a < 0x10) : calGet (copied staged mtp mask sections) a = calGet mtp a := by
    refine copied_beside staged mask a sections mtp fun j hj _ hmem => ?_
    have hbounds := calOff_bounds j (sections_lt j hj).2 (Nat.ne_of_gt (sections_lt j hj).1)
    rw [mem_sectionAddrs] at hmem
    omega
  have hcount : calNum (copied staged mtp mask sections) 6 2 = calNum mtp 6 2 := by
    rw [calNum_two, calNum_two, hheader (by decide), hheader (by decide)]
  generalize hw : calNum mtp 6 2 + 1 = w
  rw [programmed, hcount, hw, calNum_two, sealed_beside _ _ (by decide), sealed_beside _ _ (by decide)]
  have h6 (m : List (Nat × Byte)) : calGet (headed m w) 6 = BitVec.ofNat 8 w := by simp [headed, calGet, tabGet_tabPut]
  have h7 (m : List (Nat × Byte)) : calGet (headed m w) 7 = BitVec.ofNat 8 (w / 256) := by simp [headed, calGet, tabGet_tabPut]
  rw [h6, h7, BitVec.toNat_ofNat, BitVec.toNat_ofNat]
  omega

/-- The end of a programming (R506). -/
theorem calProgDone_shows {mask : Nat} (h : s.cal.prog = some mask) :
    s.calProgDone.cal.prog = none ∧ s.calProgDone.cal.shadow = s.calProgDone.cal.mtp ∧
      s.calProgDone.cal.mtp = programmed s.cal.staging s.cal.mtp mask ∧
      s.calProgDone.get pCAL F.CAL.CTL.PROG = 0 ∧ s.calProgDone.get pCAL ⟨0x0C, 8, 1⟩ = 1 := by
  unfold State.calProgDone
  rw [h]
  refine ⟨?_, ?_, ?_, ?_, State.get_event_same _ (by decide)⟩
  · simp [State.calReload]
  · simp [State.calReload]
  · simp [State.calReload]; rfl
  · simp (disch := decide) only [State.event_get, State.get_set_apart, State.get_set_same, Nat.zero_mod]

end Sys2Proof.Calibration

open Sys2Proof.Calibration

/-- Settles O24: the sections of the mask are copied and the header is renewed beside them. -/
theorem calibrationStore : Obligations.CalibrationStore := by
  unfold Obligations.CalibrationStore
  refine ⟨?_, ?_, ?_, ?_, ?_, ?_⟩
  · intro clk data s ha
    refine ⟨_, next_of_eq (State.regWrite_accepts ha) rfl, ?_, ?_, ?_, ?_⟩
    · intro i hi
      simp only [State.calDataWrite, State.calNext, State.bump_set, State.set_cal]
      exact staged_bytes _ _ (fun i => BitVec.ofNat 8 (data.toNat / 256 ^ i)) hi
    · simp only [State.calDataWrite, State.calNext, State.bump_set]
      rw [State.get_set_same _ _ _ _ (by decide)]
      rfl
    · simp [State.calDataWrite, State.calNext, State.bump_set, State.advance]
    · simp [State.calDataWrite, State.calNext, State.bump_set, State.advance]
  · intro clk s
    refine ⟨_, rfl, ?_, ?_, ?_⟩
    · simp [State.calNext, State.bump_set]
      rfl
    · simp only [State.calNext, State.bump_set]
      rw [State.get_set_same _ _ _ _ (by decide)]
      rfl
    · simp [State.calNext, State.bump_set, State.advance]
  · intro clk word s ha
    refine ⟨_, next_of_eq (State.regWrite_accepts ha) rfl, ?_, ?_⟩
    · unfold State.calUnlock
      split <;> rfl
    · unfold State.calUnlock
      split <;> rfl
  · intro clk s ha hidle hok
    have heq : (s.advance clk).bitWrite pCAL F.CAL.CTL.PROG State.calProg = ({ s.advance clk with cal := { (s.advance clk).cal with
        prog := some (s.get pCAL F.CAL.SECMASK.MASK) } } : State).set pCAL F.CAL.CTL.PROG 1 := by
      rw [State.bitWrite_accepts ha, State.calProg, if_neg (by simp [State.advance, hidle]), hok]
      rfl
    refine ⟨_, next_of_eq heq rfl, ?_, ?_, ?_⟩
    · simp
    · rw [State.get_set_same _ _ _ _ (by decide)]; rfl
    · simp [State.advance]
  · intro clk code index s ha hidle hno
    have heq : (s.advance clk).bitWrite pCAL F.CAL.CTL.PROG State.calProg = (s.advance clk).refuse pCAL code index := by
      rw [State.bitWrite_accepts ha, State.calProg, if_neg (by simp [State.advance, hidle]), hno]
    refine ⟨_, next_of_eq heq rfl, ?_, ?_, ?_, ?_⟩
    · simp [State.refuse, State.advance]
    · simp (disch := decide) only [State.refuse, State.event_get, State.get_set_apart, State.get_set_same]
      rfl
    · simp (disch := decide) only [State.refuse, State.event_get, State.get_set_apart, State.get_set_same]
    · simp (disch := decide) only [State.refuse, State.event_get, State.get_set_apart, State.get_set_same]
  · intro clk mask s hprog
    obtain ⟨hdone, hshadow, hmtp, hidle, hevent⟩ := calProgDone_shows (s := s.advance clk) hprog
    refine ⟨_, rfl, hdone, hshadow, fun k hk h0 hbit a _ hlo hhi => ?_, fun k hk h0 hbit a _ hlo hhi => ?_, ?_, hidle, hevent⟩
    · rw [hmtp, programmed_section _ _ ⟨hk, h0⟩ hlo hhi, if_pos hbit]
      rfl
    · rw [hmtp, programmed_section _ _ ⟨hk, h0⟩ hlo hhi, if_neg (by simp [hbit])]
      rfl
    · rw [hmtp]
      exact programmed_writes _ _ mask

end

section
/-!
PROOFS. Key installs (R357) and the late-error log (R385).
-/

open Sys2Proof Sys2Proof.Machine Sys2Proof.Laws
namespace Sys2Proof.KeyInstalls

variable {s : State} {port sa : Nat}

/-! The fields of an SA. -/

theorem handle_fits : ∀ n < 7, ∀ a < 4, (saf F.MACSEC.SA_KEY.HANDLE n a).fits = true := by decide
theorem valid_fits : ∀ n < 7, ∀ a < 4, (saf F.MACSEC.SA_KEY.VALID n a).fits = true := by decide
theorem err_fits : ∀ n < 7, ∀ a < 4, (saf F.MACSEC.SA_KEY.ERR n a).fits = true := by decide

theorem valid_handle_apart : ∀ n < 7, ∀ a < 4,
    Fld.apart pMACSEC (saf F.MACSEC.SA_KEY.VALID n a) pMACSEC (saf F.MACSEC.SA_KEY.HANDLE n a) = true := by decide
theorem err_valid_apart : ∀ n < 7, ∀ a < 4,
    Fld.apart pMACSEC (saf F.MACSEC.SA_KEY.ERR n a) pMACSEC (saf F.MACSEC.SA_KEY.VALID n a) = true := by decide
theorem event_err_apart : ∀ n < 7, ∀ a < 4, Fld.apart pMACSEC ⟨0x0C, 10, 1⟩ pMACSEC (saf F.MACSEC.SA_KEY.ERR n a) = true := by decide
theorem event_valid_apart : ∀ n < 7, ∀ a < 4, Fld.apart pMACSEC ⟨0x0C, 10, 1⟩ pMACSEC (saf F.MACSEC.SA_KEY.VALID n a) = true := by decide

/-- What a failed install shows. -/
theorem saFail_shows (h : port < 7 ∧ sa < 4) (s : State) (e : Nat) :
    (s.saFail port sa e).get pMACSEC (saf F.MACSEC.SA_KEY.ERR port sa) = e % 2 ^ F.MACSEC.SA_KEY.ERR.w ∧
      (s.saFail port sa e).get pMACSEC ⟨0x0C, 10, 1⟩ = 1 ∧
      (s.saFail port sa e).get pMACSEC (saf F.MACSEC.SA_KEY.VALID port sa) = s.get pMACSEC (saf F.MACSEC.SA_KEY.VALID port sa) ∧
      (s.saFail port sa e).sw = s.sw := by
  have herr := err_fits port h.1 sa h.2
  have hvalid := valid_fits port h.1 sa h.2
  refine ⟨?_, State.get_event_same _ (by decide), ?_, by simp [State.saFail]⟩ <;> unfold State.saFail <;> rw [State.event_get]
  · rw [State.get_set_apart _ _ _ _ _ _ (event_err_apart port h.1 sa h.2) (by decide) herr, State.get_set_same _ _ _ _ herr]
    rfl
  · rw [State.get_set_apart _ _ _ _ _ _ (event_valid_apart port h.1 sa h.2) (by decide) hvalid,
      State.get_set_apart _ _ _ _ _ _ (err_valid_apart port h.1 sa h.2) herr hvalid]

theorem setSa_get (s : State) (n a : Nat) (k : Option SaKey) (p : Nat) (f : Fld) : (s.setSa n a k).get p f = s.get p f :=
  State.get_of_words fun _ _ => rfl

/-- The request of an install: the handle is stored and the key is out of use until the install ends. -/
theorem saAsk_shows (h : port < 7 ∧ sa < 4) (handle : Nat)
    (hfree : ¬ (s.flag pMACSEC (msf F.MACSEC.CTL.PROT port) && s.get pMACSEC (msf F.MACSEC.CTL.TX_AN port) == sa) = true) :
    (s.saAsk port sa handle).get pMACSEC (saf F.MACSEC.SA_KEY.HANDLE port sa) = handle % 2 ^ 16 ∧
      (s.saAsk port sa handle).get pMACSEC (saf F.MACSEC.SA_KEY.VALID port sa) = 0 ∧
      (s.saAsk port sa handle).sw.installs = s.sw.installs.filter (fun x => !(x.port == port && x.sa == sa)) ++
        [⟨port, sa, handle % 2 ^ 16⟩] := by
  have hhandle := handle_fits port h.1 sa h.2
  have hvalid := valid_fits port h.1 sa h.2
  rw [State.saAsk, if_neg hfree]
  extract_lets s1 s2 sw2
  refine ⟨?_, ?_, ?_⟩
  · refine Eq.trans (b := s1.get pMACSEC (saf F.MACSEC.SA_KEY.HANDLE port sa)) (State.get_of_words fun _ _ => rfl) ?_
    rw [State.get_set_apart _ _ _ _ _ _ (valid_handle_apart port h.1 sa h.2) hvalid hhandle, State.get_set_same _ _ _ _ hhandle]
    rfl
  · refine Eq.trans (b := s1.get pMACSEC (saf F.MACSEC.SA_KEY.VALID port sa)) (State.get_of_words fun _ _ => rfl) ?_
    rw [State.get_set_same _ _ _ _ hvalid, Nat.zero_mod]
  · simp [s2, s1, State.setSa]

/-- The state as an install leaves the queue. -/
def taken (s : State) (port sa : Nat) : State :=
  { s with sw := { s.sw with installs := s.sw.installs.filter (fun y => !(y.port == port && y.sa == sa)) } }

theorem taken_result (s : State) (port sa handle : Nat) : (taken s port sa).saResult handle = s.saResult handle := rfl

theorem saDone_eq {x : SaInstall} {e : Nat} {key : List Byte}
    (hfind : s.sw.installs.find? (fun x => x.port == port && x.sa == sa) = some x) (hresult : s.saResult x.handle = (e, key)) :
    s.saDone port sa = if e = 0 then
      (((taken s port sa).setSa port sa (some ⟨key, 0, false⟩)).set pMACSEC (saf F.MACSEC.SA_KEY.VALID port sa) 1).set pMACSEC
        (saf F.MACSEC.SA_KEY.ERR port sa) 0
    else (taken s port sa).saFail port sa e := by
  rw [State.saDone, hfind]
  extract_lets sw1 s1
  have hresult1 : s1.saResult x.handle = (e, key) := hresult
  simp only [hresult1]
  rfl

theorem setShadows_regs (p : Nat) : ∀ (l : List Nat) (off : Nat) (s : State), (s.setShadows p off l).regs = s.regs ∧
    (s.setShadows p off l).coreOn = s.coreOn
  | [], _, _ => ⟨rfl, rfl⟩
  | w :: rest, off, s => setShadows_regs p rest (off + 4) (s.setShadow p off (w32 w))

end Sys2Proof.KeyInstalls

open Sys2Proof.KeyInstalls

/-- Settles O25: a request is queued or refused, and its end stores the key or shows the error. -/
theorem keysAndLateErrors : Obligations.KeysAndLateErrors := by
  unfold Obligations.KeysAndLateErrors
  refine ⟨?_, ?_, ?_, ?_, ?_⟩
  · intro clk port sa handle s h ha hfree
    have heq : (if port < 7 ∧ sa < 4 then (s.advance clk).fldWrite pMACSEC (saf F.MACSEC.SA_KEY.HANDLE port sa) handle
        (fun t => t.saAsk port sa handle) else s.advance clk) = (s.advance clk).saAsk port sa handle := by
      rw [if_pos h, State.fldWrite_accepts ha]
    refine ⟨_, next_of_eq heq rfl, saAsk_shows (s := s.advance clk) h handle fun hbusy => ?_⟩
    rw [Bool.and_eq_true, State.flag, bne_iff_ne, beq_iff_eq, State.get_advance, State.get_advance] at hbusy
    rcases hfree with hf | hf
    · exact hbusy.1 hf
    · exact hf hbusy.2
  · intro clk port sa handle s h ha hbusy
    have heq : (if port < 7 ∧ sa < 4 then (s.advance clk).fldWrite pMACSEC (saf F.MACSEC.SA_KEY.HANDLE port sa) handle
        (fun t => t.saAsk port sa handle) else s.advance clk) = (s.advance clk).saFail port sa 5 := by
      rw [if_pos h, State.fldWrite_accepts ha, State.saAsk, if_pos (by simp [State.flag, hbusy])]
    obtain ⟨herr, hevent, -, hsw⟩ := saFail_shows h (s.advance clk) 5
    exact ⟨_, next_of_eq heq rfl, herr, hevent, hsw⟩
  · intro clk port sa x key s h hfind hresult
    have heq := (saDone_eq (s := s.advance clk) hfind hresult).trans (if_pos rfl)
    have herr := err_fits port h.1 sa h.2
    have hvalid := valid_fits port h.1 sa h.2
    refine ⟨_, next_of_eq heq rfl, ?_, ?_, ?_, ?_⟩
    · rw [State.get_set_apart _ _ _ _ _ _ (err_valid_apart port h.1 sa h.2) herr hvalid, State.get_set_same _ _ _ _ hvalid]
      rfl
    · rw [State.get_set_same _ _ _ _ herr, Nat.zero_mod]
    · simp only [State.saOf, State.set_sw, State.setSa, tabGet_tabPut_same]
    · simp only [State.set_sw]
      rfl
  · intro clk port sa e x key s h hfind hresult hne
    have heq := (saDone_eq (s := s.advance clk) hfind hresult).trans (if_neg hne)
    obtain ⟨herr, hevent, hvalid, -⟩ := saFail_shows h (taken (s.advance clk) port sa) e
    exact ⟨_, next_of_eq heq rfl, herr, hevent, hvalid.trans (State.get_of_words fun _ _ => rfl)⟩
  · intro clk e l s hon hlog
    have heq : (s.advance clk).llogPop = { (s.advance clk).setShadows pBRIDGE 0x64 ((llogWords e).drop 1) with
        bridge := { ((s.advance clk).setShadows pBRIDGE 0x64 ((llogWords e).drop 1)).bridge with llog := l },
        result := some (w32 e.addr) } := by
      rw [State.llogPop, show (s.advance clk).bridge.llog = e :: l from hlog]
    exact ⟨_, next_of_eq ((State.whenOn_on (s := s.advance clk) hon).trans heq) rfl, rfl, rfl, (setShadows_regs pBRIDGE _ _ _).1⟩

end

section
/-!
PROOFS. Event routing (R67–R70, R376, R386): what a summary's arrival shows, the repeats of NOTICE, and the messages that a
re-arm and an unmasking send.
-/

open Sys2Proof Sys2Proof.Machine Sys2Proof.Laws
namespace Sys2Proof.EventRoutes

variable {s : State}

/-- What the routes of a group may change. -/
def routeScope : Scope :=
  frameScope [(pIRQ, [F.IRQ.NDROP.COUNT, ⟨0x0C, 8, 1⟩])]
    (fun p => famOf p == some Fam.port || p == pHSR || p == pSWITCH || p == pCAPTURE || p == pBUFMEM) [.bridge, .sw, .mem, .page]

theorem routeScope_hsr : routeScope.page pHSR := frameScope_page_of_named rfl
theorem routeScope_switch : routeScope.page pSWITCH := frameScope_page_of_named rfl
theorem routeScope_capture : routeScope.page pCAPTURE := frameScope_page_of_named rfl
theorem routeScope_bufmem : routeScope.page pBUFMEM := frameScope_page_of_named rfl

/-- The change of a group's state leaves PEND. -/
theorem irqEdges_only (s old : State) : Kept routeScope s (s.irqEdges old) :=
  irqEdges_kept (Kept.refl _ s) rfl rfl rfl rfl routeScope_hsr.fld routeScope_switch.fld routeScope_switch.fld
    (fun n => frameScope_page_of_named (by simp)) routeScope_capture.fld routeScope_capture.fld routeScope_capture.fld routeScope_capture.fld
    routeScope_bufmem.fld routeScope_switch.fld routeScope_switch.fld (frameScope_fld_of_names rfl) (frameScope_fld_of_names rfl)

theorem pend_words (p : Nat) : (pendFld p).words = 1 := by
  have : p % 32 < 32 := Nat.mod_lt _ (by decide)
  simp only [pendFld, Fld.words]; omega

theorem routeScope_pend : ∀ j < 8, routeScope.reg (regKey pIRQ (F.IRQ.PEND.PEND.off + 4 * j + 4 * 0)) = false := by decide

theorem pend_fits {p : Nat} (hp : p < 256) : (pendFld p).fits = true := by
  rw [Fld.fits, pend_words]
  have : p / 32 < 8 := by omega
  exact decide_eq_true (by simp only [pendFld, F.IRQ.PEND.PEND]; omega)

theorem irqEdges_pend {p : Nat} (hp : p < 256) (s old : State) : (s.irqEdges old).get pIRQ (pendFld p) = s.get pIRQ (pendFld p) := by
  refine (irqEdges_only s old).get_eq fun i hi => ?_
  rw [pend_words] at hi
  obtain rfl : i = 0 := by omega
  exact routeScope_pend (p / 32) (by omega)

/-- A message towards host memory leaves at once or waits in its class (R383, R392). -/
theorem postRh_shows (s : State) (m : HostMsg) : (s.postRh m).bridge.out ++ (s.postRh m).bridge.rh = s.bridge.out ++ s.bridge.rh ++ [m] ∧
    (s.postRh m).bridge.rh = (if s.rhWaits then s.bridge.rh ++ [m] else []) ∧ (s.rhWaits = true → (s.postRh m).bridge.out = s.bridge.out) ∧
    (s.postRh m).bridge.msix = s.bridge.msix ∧ (s.postRh m).regs = s.regs := by
  have hwaits : ({ s with bridge := { s.bridge with rh := s.bridge.rh ++ [m] } } : State).rhWaits = s.rhWaits := rfl
  unfold State.postRh State.rhGo
  rw [hwaits]
  cases s.rhWaits <;> simp

theorem sendMsix_open {v : Nat} {e : MsixEnt} (hent : s.bridge.msix[v]? = some e) (hopen : e.masked = false) :
    s.sendMsix v = s.postRh (.msix v e.addr e.data) := by
  rw [State.sendMsix, hent]
  exact if_neg (by simp [hopen])

theorem grpPend_advance (s : State) (k g : Nat) : (s.advance k).grpPend g = s.grpPend g := by
  simp only [State.grpPend, State.flag, State.get_advance]
  rfl
theorem groute_advance (s : State) (k : Nat) (f : Fld) (g : Nat) : (s.advance k).groute f g = s.groute f g := State.get_advance ..

/-- REARM of one pending group routes that group. -/
theorem rearm_one {g : Nat} (hg : g < 8) (hpend : s.grpPend g = true) : s.rearmIrq (2 ^ g) = s.routeGroup g := by
  have hlist : (List.range 8).filter (fun k => natBit (2 ^ g) k && s.grpPend k) = [g] := by
    have hbits : ∀ g < 8, (List.range 8).filter (fun k => natBit (2 ^ g) k) = [g] := by decide
    have hpick (k : Nat) : (natBit (2 ^ g) k && s.grpPend k) = (decide (k = g) && natBit (2 ^ g) k) := by
      by_cases hk : k = g
      · subst hk; rw [hpend, Bool.and_true, decide_eq_true rfl, Bool.true_and]
      · rw [natBit_eq_testBit, Nat.testBit_two_pow_of_ne (Ne.symm hk), Bool.false_and, Bool.and_false]
    simp only [hpick, ← List.filter_filter, hbits g hg]
    simp
  rw [State.rearmIrq, hlist]
  rfl

theorem getElem?_setNth {α : Type} (v : α) : ∀ (l : List α) (i : Nat) (e : α), l[i]? = some e → (setNth l i v)[i]? = some v
  | _ :: _, 0, _, _ => rfl
  | _ :: l, i + 1, e, h => getElem?_setNth v l i e h

end Sys2Proof.EventRoutes

open Sys2Proof.EventRoutes

/-- Settles O30: the routes leave PEND, and a message towards the host leaves or waits. -/
theorem eventRouting : Obligations.EventRouting := by
  unfold Obligations.EventRouting
  refine ⟨?_, ?_, ?_, ?_, ?_⟩
  · intro clk page s hpage hrun hon hguard
    have heq : (s.advance clk).summaryIn page =
        ((s.advance clk).setB pIRQ (pendFld page) (s.summary page)).irqEdges (s.advance clk) := by
      rw [State.summaryIn]
      refine if_neg ?_
      cases hpageg : guardPage page
      · simp [Option.isSome_iff_ne_none.mp hrun, Nat.not_le.mpr hpage, show (s.advance clk).coreOn = true from hon]
      · simp [Option.isSome_iff_ne_none.mp hrun, Nat.not_le.mpr hpage, show (s.advance clk).coreOn = true from hon, hguard hpageg]
    refine ⟨_, next_of_eq heq rfl, ?_⟩
    rw [irqEdges_pend hpage, State.setB, State.get_set_same _ _ _ _ (pend_fits hpage)]
    cases s.summary page <;> rfl
  · intro group r s hfind hidle
    have heq : s.noticeAgain group = (s.advance r.2.1).repeatSet group 0 := by
      rw [State.noticeAgain, hfind]
      exact if_neg (by rw [grpPend_advance, hidle]; decide)
    exact ⟨_, next_of_eq heq rfl, rfl, rfl, rfl⟩
  · intro group r s hfind hpend hlease hroom
    have heq : s.noticeAgain group = (((s.advance r.2.1).bumpSat pIRQ F.IRQ.NDROP.COUNT).event pIRQ 8).repeatSet group r.2.2 := by
      rw [State.noticeAgain, hfind]
      refine (if_pos ((grpPend_advance ..).trans hpend)).trans ?_
      rw [State.groupNotice, if_neg (by rw [show (s.advance r.2.1).flag pBRIDGE F.BRIDGE.MGRSTS.HELD = false from hlease]; decide)]
      refine congrArg (State.repeatSet · group r.2.2) (if_neg ?_)
      rw [State.get_advance]; omega
    refine ⟨_, next_of_eq heq rfl, ?_, ?_⟩
    · refine Eq.trans (b := (((s.advance r.2.1).bumpSat pIRQ F.IRQ.NDROP.COUNT).event pIRQ 8).get pIRQ F.IRQ.NDROP.COUNT)
        (State.get_of_words fun _ _ => rfl) ?_
      simp (disch := decide) only [State.event_get, State.get_set_apart, State.get_set_same, State.bumpSat_set, State.get_advance]
      change min _ (2 ^ 16 - 1) % 2 ^ 16 = _
      omega
    · have hpage : (((s.advance r.2.1).bumpSat pIRQ F.IRQ.NDROP.COUNT).event pIRQ 8).page = s.page := by
        simp [State.bumpSat_set, State.advance]
      have hclock : (((s.advance r.2.1).bumpSat pIRQ F.IRQ.NDROP.COUNT).event pIRQ 8).clock = max s.clock r.2.1 := by
        simp [State.bumpSat_set, State.advance]
      unfold State.repeatSet
      simp only [hpage, hclock]
      split <;> simp
  · intro clk g e s ha hg hpend hroute hent
    have heq : (s.advance clk).fldWrite pIRQ F.IRQ.REARM.GROUP (2 ^ g) (fun t => t.rearmIrq (2 ^ g)) =
        ((s.advance clk).postRh (.msix (s.groute F.IRQ.GROUTE.VECTOR g) e.addr e.data)).repeatSet g 0 := by
      have hsend := sendMsix_open (s := s.advance clk) hent.1 hent.2
      have hregs := (postRh_shows (s.advance clk) (.msix (s.groute F.IRQ.GROUTE.VECTOR g) e.addr e.data)).2.2.2.2
      have hnotice : ((s.advance clk).postRh (.msix (s.groute F.IRQ.GROUTE.VECTOR g) e.addr e.data)).groute F.IRQ.GROUTE.NOTICE_EN g = 0 :=
        (State.get_congr hregs _ _).trans ((State.get_advance ..).trans hroute.2)
      rw [State.fldWrite_accepts ha, rearm_one hg ((grpPend_advance ..).trans hpend), State.routeGroup,
        if_pos ((groute_advance ..).trans hroute.1)]
      simp only [groute_advance, hsend, hnotice]
      rfl
    obtain ⟨hall, hrh, -, -, hregs⟩ := postRh_shows (s.advance clk) (.msix (s.groute F.IRQ.GROUTE.VECTOR g) e.addr e.data)
    exact ⟨_, next_of_eq heq rfl, hall, hrh, hregs⟩
  · intro clk vector e s hent
    have hset := getElem?_setNth ({ e with masked := false, pend := false } : MsixEnt) _ _ _ hent
    cases hp : e.pend
    · have heq : (s.advance clk).unmask vector = { s.advance clk with bridge := { s.bridge with
          msix := setNth s.bridge.msix vector { e with masked := false, pend := false } } } := by
        rw [State.unmask, show (s.advance clk).bridge.msix[vector]? = some e from hent]
        exact if_neg (by simp [hp])
      exact ⟨_, next_of_eq heq rfl, hset, by simp [State.advance], by simp⟩
    · have heq : (s.advance clk).unmask vector = ({ s.advance clk with bridge := { s.bridge with
          msix := setNth s.bridge.msix vector { e with masked := false, pend := false } } } : State).postRh (.msix vector e.addr e.data) := by
        rw [State.unmask, show (s.advance clk).bridge.msix[vector]? = some e from hent]
        exact if_pos hp
      obtain ⟨hall, -, hout, hmsix, -⟩ := postRh_shows ({ s.advance clk with bridge := { s.bridge with
          msix := setNth s.bridge.msix vector { e with masked := false, pend := false } } } : State) (.msix vector e.addr e.data)
      exact ⟨_, next_of_eq heq rfl, by rw [hmsix]; exact hset, hall, fun _ hw => hout hw⟩

end

section
/-!
PROOFS. The links of the ports (R310, R311, R325, R326): what a link that comes up, goes down, loses lock or falls back shows, and
what the end of its hold window flushes.
-/

open Sys2Proof Sys2Proof.Machine Sys2Proof.Laws
namespace Sys2Proof.Laws

variable {s t : State} {P : Nat → Bool} {parts : List Part}

theorem regKey_page (p off : Nat) : regKey p off / 4096 = p := by unfold regKey; omega

/-- A change within whole pages keeps the fields of the others. -/
theorem Kept.get_of_page (h : Kept (frameScope [] P parts) s t) {p : Nat} (hp : P p = false) (f : Fld) : t.get p f = s.get p f :=
  h.get_eq fun i _ => by
    change (P (regKey p (f.off + 4 * i) / 4096) || false) = false
    rw [regKey_page, hp]; rfl

theorem port_setPort (s : State) (n : Nat) (v : PortSt) : (s.setPort n v).port n = v := tabGet_tabPut_same ..

theorem get_setPort (s : State) (n : Nat) (v : PortSt) (p : Nat) (f : Fld) : (s.setPort n v).get p f = s.get p f :=
  State.get_of_words fun _ _ => rfl

theorem port_of_ports (h : t.ports = s.ports) (n : Nat) : t.port n = s.port n := by rw [State.port, h, State.port]

end Sys2Proof.Laws

namespace Sys2Proof.PortLinks

variable {s : State} {n : Nat}

/-! What follows a change of a link, and the stamping before it, stay off the pages of the ports. -/

def tailPages (p : Nat) : Bool := p == pMSCL || p == pBOOK
def latPages (p : Nat) : Bool := p == pSTAMP || p == pCAPTURE

theorem tailPages_port : ∀ n < 22, tailPages (pPORT n) = false := by decide
theorem latPages_port : ∀ n < 22, latPages (pPORT n) = false := by decide

/-- The loops' closure and the drains after a change of a link. -/
theorem linkTail_only (s : State) (n : Nat) (was up : Bool) : Kept (frameScope [] tailPages [.mscl, .book]) s ((s.msclLink n was up).syncDrains) :=
  have hbook : (frameScope [] tailPages [.mscl, .book]).page pBOOK := frameScope_page_of_named rfl
  syncDrains_kept (msclLink_kept (Kept.refl _ s) rfl (frameScope_page_of_named rfl)) rfl hbook.fld hbook.fld hbook.fld hbook.fld hbook.fld
    hbook.fld

def latScope : Scope := frameScope [] latPages [.ports, .mscl, .sw, .mem, .gang, .stamps]

theorem latScope_stamp : latScope.page pSTAMP := frameScope_page_of_named rfl
theorem latScope_capture : latScope.page pCAPTURE := frameScope_page_of_named rfl

def leadPages (p : Nat) : Bool := p == pGANGCTL
theorem leadPages_port : ∀ n < 22, leadPages (pPORT n) = false := by decide
theorem leadLink_only (s : State) : Kept (frameScope [] leadPages []) s s.leadLink :=
  leadLink_kept (Kept.refl _ s) (Scope.page.fld (frameScope_page_of_named rfl))

/-- A count of a port keeps the fields beside it. -/
theorem get_portCount (s : State) {n i k : Nat} {f : Fld} (ha : Fld.apart 0 (portCtr i) 0 f = true) (hi : (portCtr i).fits = true)
    (hf : f.fits = true) : (s.portCount n i k).get (pPORT n) f = s.get (pPORT n) f := by
  rw [State.portCount, State.bumpBy_set, State.get_set_beside _ _ _ ha hi hf]
  exact State.get_of_words fun _ _ => rfl

theorem latLoad_only (s : State) (n m sp : Nat) : Kept latScope s (s.latLoad n m sp) :=
  latLoad_kept (Kept.refl _ s) rfl rfl rfl rfl rfl rfl latScope_stamp.fld latScope_stamp.fld latScope_capture.fld latScope_capture.fld
    latScope_capture.fld latScope_capture.fld latScope_stamp.fld latScope_stamp.fld latScope_stamp.fld latScope_stamp.fld latScope_stamp.fld

theorem latClear_only (s : State) (n : Nat) : Kept latScope s (s.latClear n) :=
  latClear_kept (Kept.refl _ s) rfl rfl rfl rfl rfl rfl latScope_stamp.fld latScope_stamp.fld latScope_capture.fld latScope_capture.fld
    latScope_capture.fld latScope_capture.fld latScope_stamp.fld latScope_stamp.fld latScope_stamp.fld latScope_stamp.fld latScope_stamp.fld

/-! The flush at the end of a hold window (R325). -/

theorem flushCopies_only (s : State) (n : Nat) : Kept (frameScope [] (fun _ => true) [.sw, .mem]) s (s.flushCopies n) :=
  have hall (p : Nat) : (frameScope [] (fun _ => true) [.sw, .mem]).page p := frameScope_page_of_named rfl
  flushCopies_kept (Kept.refl _ s) rfl rfl (fun _ => hall _) (hall _).fld (hall _).fld (hall _).fld (hall _).fld (hall _).fld

theorem roomMark_txq (s : State) : s.roomMark.sw.txq = s.sw.txq := by
  unfold State.roomMark
  extract_lets low sw1 s1
  split
  · simp [s1, sw1]
  · rfl

theorem flushCopies_txq (s : State) (n : Nat) : (s.flushCopies n).sw.txq = s.sw.txq.filter (fun x => x.port != n) := roomMark_txq _

theorem flushCopies_still (s : State) (n : Nat) : Still s (s.flushCopies n) :=
  have hdrop : Still s ((s.sw.txq.filter (fun x => x.port == n)).foldl (fun st x => st.dropCopy x 13 4) s) :=
    .foldl (fun st x => dropCopy_still st x 13 (by decide)) _ s
  ⟨(roomMark_still _).clock.trans hdrop.clock, (roomMark_still _).free.trans hdrop.free⟩

/-- What the close of a hold window shows. -/
theorem holdClose_shows (s : State) (n : Nat) :
    (s.holdClose n).get (pPORT n) F.PORT.STS.HOLDING = 0 ∧ (s.holdClose n).get (pPORT n) F.PORT.STS.FLUSHED = 1 ∧
      (s.holdClose n).get (pPORT n) ⟨0x0C, 16, 1⟩ = 1 ∧ ((s.holdClose n).port n) = { s.port n with holdEnd := none } ∧
      (s.holdClose n).sw.txq = s.sw.txq.filter (fun x => x.port != n) ∧ (s.holdClose n).clock = s.clock := by
  unfold State.holdClose
  extract_lets s1 s2 p2 p
  have hports : s2.ports = s.ports := by
    have h1 : s1.ports = s.ports := (flushCopies_only s n).part .ports rfl
    simp [s2, h1]
  refine ⟨?_, ?_, ?_, ?_, ?_, ?_⟩
  · rw [get_setPort]
    simp (disch := decide) only [s2, State.event_get, State.get_set_beside, State.get_set_same, Nat.zero_mod]
  · rw [get_setPort]
    simp (disch := decide) only [s2, State.event_get, State.get_set_beside, State.get_set_same]
    rfl
  · rw [get_setPort]
    exact State.get_event_same _ (by decide)
  · have hp : p2 = p := port_of_ports hports n
    rw [port_setPort, hp]
  · change s2.sw.txq = _
    rw [← flushCopies_txq]
    simp [s2, s1]
  · change s2.clock = _
    simp [s2, s1, (flushCopies_still s n).clock]

theorem holdOver_mode (s : State) (n : Nat) : (s.holdOver n).tryMode n = (s.port n).mode := by
  unfold State.holdOver
  split
  · split
    · rw [State.tryMode, (holdClose_shows s n).2.2.2.1]
    · rfl
  · rfl

/-! Up and down (R310, R325). -/

/-- What a link that is declared up shows. -/
theorem linkUpNow_shows {speed : Nat} (hn : n < 22) (hrun : s.running (pPORT n) = true) (hdown : s.get (pPORT n) F.PORT.STS.LINK = 0) :
    (s.linkUpNow n speed).get (pPORT n) F.PORT.STS.LINK = 1 ∧
      (s.linkUpNow n speed).get (pPORT n) F.PORT.STS.LMODE = (s.port n).mode % 2 ^ F.PORT.STS.LMODE.w ∧
      (s.linkUpNow n speed).get (pPORT n) F.PORT.STS.HOLDING = 0 ∧ (s.linkUpNow n speed).get (pPORT n) F.PORT.STS.FLUSHED = 0 ∧
      (s.linkUpNow n speed).get (pPORT n) ⟨0x0C, 8, 1⟩ = 1 ∧ ((s.linkUpNow n speed).port n).lock = true ∧
      ((s.linkUpNow n speed).port n).holdEnd = none := by
  rw [State.linkUpNow, if_neg (by simp [hrun, State.linkUp, State.flag, hdown])]
  extract_lets a m sp s1 s2 s3 s4 again
  have hmode : m = (s.port n).mode := holdOver_mode s n
  have hlat (f : Fld) : s4.get (pPORT n) f = s3.get (pPORT n) f := (latLoad_only s3 n m sp).get_of_page (latPages_port n hn) f
  refine ⟨?_, ?_, ?_, ?_, State.get_event_same _ (by decide), ?_, ?_⟩
  · simp (disch := decide) only [State.event_get, State.get_set_beside, State.get_set_same, get_setPort, hlat, s3, s2, s1, State.setB]
    rfl
  · simp (disch := decide) only [State.event_get, State.get_set_beside, State.get_set_same, get_setPort, hlat, s3, s2, s1, State.setB]
    rw [hmode]
  · simp (disch := decide) only [State.event_get, State.get_set_beside, State.get_set_same, get_setPort, hlat, s3, Nat.zero_mod]
  · simp (disch := decide) only [State.event_get, State.get_set_beside, State.get_set_same, get_setPort, hlat, s3, Nat.zero_mod]
  · rw [port_of_ports (State.event_ports ..), port_setPort]
  · rw [port_of_ports (State.event_ports ..), port_setPort]

theorem ing_fits : ∀ n < 22, (F.STAMP.LAT.ING_LAT.at (0x20 * n)).fits = true := by decide
theorem egr_fits : ∀ n < 22, (F.STAMP.LAT.EGR_LAT.at (0x20 * n)).fits = true := by decide
theorem egr_ing_apart : ∀ n < 22, Fld.apart 0 (F.STAMP.LAT.EGR_LAT.at (0x20 * n)) 0 (F.STAMP.LAT.ING_LAT.at (0x20 * n)) = true := by decide
theorem sts_ing_apart : ∀ n < 22, Fld.apart (pPORT n) F.PORT.STS.HOLDING pSTAMP (F.STAMP.LAT.ING_LAT.at (0x20 * n)) = true := by decide

theorem latClear_ing (hn : n < 22) (s : State) : (s.latClear n).get pSTAMP (F.STAMP.LAT.ING_LAT.at (0x20 * n)) = 0 := by
  unfold State.latClear
  rw [State.get_set_beside _ _ _ (egr_ing_apart n hn) (egr_fits n hn) (ing_fits n hn), State.get_set_same _ _ _ _ (ing_fits n hn), Nat.zero_mod]

/-- What a link that is declared down shows while its hold window is not 0. -/
theorem linkDownNow_shows (hn : n < 22) (hrun : s.running (pPORT n) = true) (hup : s.get (pPORT n) F.PORT.STS.LINK = 1)
    (hloop : s.get (pPORT n) F.PORT.CFG.LOOP ≠ 1) (hwin : s.get (pPORT n) F.PORT.HOLD_WIN.WIN ≠ 0) :
    (s.linkDownNow n).get (pPORT n) F.PORT.STS.LINK = 0 ∧ (s.linkDownNow n).get (pPORT n) F.PORT.STS.HOLDING = 1 ∧
      (s.linkDownNow n).get (pPORT n) F.PORT.STS.RX_PAUSED = 0 ∧
      (s.linkDownNow n).get pSTAMP (F.STAMP.LAT.ING_LAT.at (0x20 * n)) = 0 ∧ (s.linkDownNow n).get (pPORT n) ⟨0x0C, 9, 1⟩ = 1 ∧
      ((s.linkDownNow n).port n).lock = false ∧
      ((s.linkDownNow n).port n).holdEnd = some (s.now + 2000 * s.get (pPORT n) F.PORT.HOLD_WIN.WIN) := by
  rw [State.linkDownNow, if_neg (by simp [hrun, State.linkUp, State.flag, hup, State.looped, hloop])]
  extract_lets s0 s1 s2 s3 hw p4 s4
  rw [if_neg hwin]
  have hlat (f : Fld) : s3.get (pPORT n) f = s2.get (pPORT n) f := (latClear_only s2 n).get_of_page (latPages_port n hn) f
  have hlead (f : Fld) : (s0.set (pPORT n) F.PORT.STS.LINK 0).leadLink.get (pPORT n) f =
      (s0.set (pPORT n) F.PORT.STS.LINK 0).get (pPORT n) f :=
    (leadLink_only _).get_of_page (leadPages_port n hn) f
  refine ⟨?_, ?_, ?_, ?_, ?_, ?_, ?_⟩
  · simp (disch := decide) only [State.event_get, State.get_set_beside, State.get_set_same, get_setPort, hlat, hlead, s4, s2, s1,
      get_portCount, Nat.zero_mod]
  · rw [State.get_set_same _ _ _ _ (by decide)]; rfl
  · simp (disch := decide) only [State.get_set_beside, State.get_set_same, get_setPort, hlat, s4, s2, Nat.zero_mod]
  · rw [State.get_set_apart _ _ _ _ _ _ (sts_ing_apart n hn) (by decide) (ing_fits n hn), get_setPort]
    exact latClear_ing hn s2
  · simp (disch := decide) only [State.get_set_beside, get_setPort, hlat, s4, s2, s1]
    exact State.get_event_same _ (by decide)
  · rw [port_of_ports (State.set_ports ..), port_setPort]
  · rw [port_of_ports (State.set_ports ..), port_setPort]

/-- A link without lock has no frame leaving (R326). -/
theorem cutOff_leaving (s : State) (n : Nat) : ((s.cutOff n).port n).leaving = none := by
  unfold State.cutOff
  split
  · assumption
  · change (((s.setPort n { s.port n with leaving := none }).markCount n 13 1).bumpBy (pPORT n) (portCtr 13) 1 |>.port n).leaving = none
    rw [State.bumpBy_set, port_of_ports (State.set_ports ..)]
    change ((s.setPort n { s.port n with leaving := none }).port n).leaving = none
    rw [port_setPort]

/-- What the change of a ring port's mode shows (R311). -/
theorem fallback_shows (hn : n < 2) (hrun : s.running (pPORT n) = true) (hdown : s.get (pPORT n) F.PORT.STS.LINK = 0)
    (hmode : s.get (pPORT n) F.PORT.CFG.MODE = 0) (hfall : s.flag (pPORT n) F.PORT.CFG.FALLBACK = true) :
    ((s.fallback n).port n).mode = (if (s.port n).mode = 0 then 1 else 0) ∧
      ((s.fallback n).port n).fbAt = max s.clock (s.port n).fbAt + 2000000 * s.get (pPORT n) F.PORT.FBT.FBT ∧
      (s.fallback n).clock = max s.clock (s.port n).fbAt := by
  rw [State.fallback, if_pos ⟨hn, hrun, by simp [State.linkUp, State.flag, hdown], hmode, hfall⟩]
  extract_lets s1 m p1 s2
  have hports (c : Prop) [Decidable c] (t : State) : (if c then t.event (pPORT n) 10 else t).ports = t.ports ∧
      (if c then t.event (pPORT n) 10 else t).clock = t.clock := by split <;> simp
  have h2 : s2.ports = (s1.setPort n { s1.port n with mode := m, fbAt := s1.clock + 2000000 * s.get (pPORT n) F.PORT.FBT.FBT }).ports := by
    simp [s2, State.portCount, State.bumpBy_set, State.markCount, p1]
  refine ⟨?_, ?_, ?_⟩
  · rw [port_of_ports ((hports _ s2).1.trans h2), port_setPort]
  · rw [port_of_ports ((hports _ s2).1.trans h2), port_setPort]
    rfl
  · rw [(hports _ s2).2, (portCount_still _ _ _ _).clock, State.set_clock]
    rfl

end Sys2Proof.PortLinks

open Sys2Proof.PortLinks

/-- Settles O31: each change of a link is followed by steps that stay off the pages of the ports. -/
theorem portLinks : Obligations.PortLinks := by
  unfold Obligations.PortLinks
  refine ⟨?_, ?_, ?_, ?_, ?_⟩
  · intro clk port speed s hn hrun hdown hdeb
    have heq : (if port < 22 && (s.advance clk).debounced port ((s.advance clk).get (pPORT port) F.PORT.LINKT.LUP_DB) then
        (((s.advance clk).linkUpNow port speed).msclLink port (s.linkUp port) true).syncDrains else s.advance clk) =
        (((s.advance clk).linkUpNow port speed).msclLink port (s.linkUp port) true).syncDrains :=
      if_pos (by rw [State.get_advance, hdeb, decide_eq_true hn]; rfl)
    have htail := linkTail_only ((s.advance clk).linkUpNow port speed) port (s.linkUp port) true
    have hget (f : Fld) := htail.get_of_page (tailPages_port port hn) f
    have hport := port_of_ports (htail.part .ports rfl) port
    obtain ⟨hlink, hmode, hhold, hflush, hevent, hlock, hend⟩ :=
      linkUpNow_shows (s := s.advance clk) (speed := speed) hn hrun ((State.get_advance ..).trans hdown)
    exact ⟨_, next_of_eq heq rfl, (hget _).trans hlink, (hget _).trans hmode, (hget _).trans hhold, (hget _).trans hflush,
      (hget _).trans hevent, by rw [hport]; exact hlock, by rw [hport]; exact hend⟩
  · intro clk port s hn hrun hup hloop hwin hdeb
    have heq : (if port < 22 && (s.advance clk).debounced port ((s.advance clk).get (pPORT port) F.PORT.LINKT.LDN_DB) then
        (((s.advance clk).linkDownNow port).msclLink port (s.linkUp port) false).syncDrains else s.advance clk) =
        (((s.advance clk).linkDownNow port).msclLink port (s.linkUp port) false).syncDrains :=
      if_pos (by rw [State.get_advance, hdeb, decide_eq_true hn]; rfl)
    have htail := linkTail_only ((s.advance clk).linkDownNow port) port (s.linkUp port) false
    have hget (f : Fld) := htail.get_of_page (tailPages_port port hn) f
    have hport := port_of_ports (htail.part .ports rfl) port
    obtain ⟨hlink, hhold, hpause, hlat, hevent, hlock, hend⟩ := linkDownNow_shows (s := s.advance clk) hn hrun hup hloop hwin
    exact ⟨_, next_of_eq heq rfl, (hget _).trans hlink, (hget _).trans hhold, (hget _).trans hpause,
      (htail.get_of_page rfl _).trans hlat, (hget _).trans hevent, by rw [hport]; exact hlock, by rw [hport]; exact hend⟩
  · intro port e s hn hend
    have heq : s.holdExpire port = (s.advanceT e).holdClose port := by rw [State.holdExpire, hend]
    obtain ⟨hhold, hflush, hevent, hport, htxq, hclock⟩ := holdClose_shows (s.advanceT e) port
    refine ⟨_, next_of_eq heq rfl, hhold, hflush, hevent, by rw [hport], fun x hx => ?_, hclock⟩
    rw [htxq] at hx
    simpa using (List.mem_filter.mp hx).2
  · intro port s hn hrun hdown hmode hfall
    obtain ⟨hmodes, hat, hclock⟩ := fallback_shows hn hrun hdown hmode (by simp [State.flag, hfall])
    exact ⟨_, rfl, hmodes, hat, hclock⟩
  · intro clk port s hn hloop
    have heq : (if port < 22 then (s.advance clk).lockLoss port else s.advance clk) =
        (((s.advance clk).settle port).cutOff port).setPort port { (((s.advance clk).settle port).cutOff port).port port with
          lock := false, since := if (s.port port).lock then max s.clock clk else (s.port port).since } := by
      rw [if_pos hn, State.lockLoss, if_neg (by simp [State.looped, hloop])]
      rfl
    refine ⟨_, next_of_eq heq rfl, ?_, ?_, ?_⟩ <;> rw [port_setPort]
    exact cutOff_leaving _ _

end

section
/-!
PROOFS. PAUSE (R323, R324): the frame that a port sends when its buffer share fills, the repetitions, and the pause that a received
frame asks for.
-/

open Sys2Proof Sys2Proof.Machine Sys2Proof.Laws Sys2Proof.PortLinks
namespace Sys2Proof.PortPauses

variable {s t : State} {n : Nat}

/-! What a frame that has left changes is not the clock. -/

theorem now_of (hclock : t.clock = s.clock) (hdatum : t.datum = s.datum) : t.now = s.now := by
  simp only [State.now, State.timeOf, State.raw, hclock, hdatum]

theorem bumpBy_still (s : State) (p : Nat) (f : Fld) (k : Nat) : Still s (s.bumpBy p f k) := by
  rw [State.bumpBy_set]; exact set_still _ _ _ _

theorem setPort_still (s : State) (n : Nat) (v : PortSt) : Still s (s.setPort n v) := ⟨rfl, rfl⟩

theorem stepErr_still (s : State) (dev : Int) : Still s (s.stepErr dev) := by
  rw [State.stepErr, State.bumpSat_set]
  exact .ite ((set_still s _ _ _).trans (event_still _ _ _)) (.refl s)

theorem probeStamped_still (s : State) (ts raw : Nat) (x : QFrame) (f : Frame) : Still s (s.probeStamped ts raw x f) :=
  .ite ⟨rfl, rfl⟩ (.refl s)

theorem timeLeft_still (s : State) (n stamp : Nat) (f : Frame) : Still s (s.timeLeft n stamp f) := .ite ⟨rfl, rfl⟩ (.refl s)

theorem pushStamp_still (s : State) (e : TxStamp) : Still s (s.pushStamp e) := by
  have hfull : Still s ((s.bump pSTAMP F.STAMP.TXQOVF.COUNT).event pSTAMP 9) := (bumpBy_still s _ _ _).trans (event_still _ _ _)
  unfold State.pushStamp
  refine .ite (.refl s) (.ite ?_ ?_)
  · exact .ite ⟨hfull.clock, hfull.free⟩ hfull
  · exact .ite ⟨(event_still _ _ _).clock, (event_still _ _ _).free⟩ ⟨rfl, rfl⟩

theorem stampAsked_still (s : State) (n ts : Nat) (tag : Option Nat) (f : Frame) : Still s (s.stampAsked n ts tag f) := by
  unfold State.stampAsked
  refine .ite (.refl s) ?_
  split
  · exact pushStamp_still _ _
  · exact .ite (pushStamp_still _ _) (.refl s)

theorem stampLeaving_still (s : State) (n : Nat) (l : Leaving) : Still s (s.stampLeaving n l) := by
  unfold State.stampLeaving
  extract_lets b ts p1 s1 s2 fate
  have h2 : Still s s2 := by
    refine .trans ?_ (probeStamped_still _ _ _ _ _)
    split
    · exact (setPort_still s n _).trans (stepErr_still _ _)
    · exact setPort_still s n _
  exact ((h2.trans (capture_still _ n _ (show (0 : Nat) ≠ noReason by decide))).trans (timeLeft_still _ _ _ _)).trans (stampAsked_still _ _ _ _ _)

theorem stampSent_still (s : State) (n : Nat) : Still s (s.stampSent n) := by
  unfold State.stampSent
  split
  · exact .refl s
  · exact .ite (.refl s) (stampLeaving_still _ _ _)

theorem sentCount_still (s : State) (now : Bool) (n i k : Nat) : Still s (s.sentCount now n i k) :=
  .ite (portCount_still _ _ _ _) (bumpBy_still _ _ _ _)

theorem frameSent_still (s : State) (n : Nat) (l : Leaving) : Still s (s.frameSent n l) := by
  unfold State.frameSent
  extract_lets p s1 here s2 s3
  have h2 : Still s s2 := ((setPort_still s n _).trans (sentCount_still _ _ _ _ _)).trans (sentCount_still _ _ _ _ _)
  have h3 : Still s s3 := .ite (h2.trans (sentCount_still _ _ _ _ _)) h2
  exact .ite ⟨h3.clock, h3.free⟩ h3

theorem settle_still (s : State) (n : Nat) : Still s (s.settle n) := by
  have h1 := stampSent_still s n
  unfold State.settle
  extract_lets s1
  split
  · exact h1
  · exact .ite h1 (h1.trans (frameSent_still _ _ _))

/-! Sent PAUSE frames (R323). -/

theorem sendPause_leaving (s : State) (n quanta : Nat) :
    ((s.sendPause n quanta).port n).leaving.map (fun l => l.fr) = some (s.pauseFrame quanta) := by
  rw [State.sendPause, State.onWire, port_setPort]
  rfl

/-- What the next repetition is taken from. -/
theorem pauseNext_shows (hports : (t.port n).leaving = ((s.sendPause n (s.get (pPORT n) F.PORT.PAUSE.QUANTA)).port n).leaving)
    (hclock : t.clock = s.clock) (hdatum : t.datum = s.datum)
    (hget : ∀ f ∈ [F.PORT.PAUSE.QUANTA, F.PORT.STS.LMODE, F.PORT.STS.SPEED], t.get (pPORT n) f = s.get (pPORT n) f) :
    ((t.pauseNext n).port n).leaving.map (fun l => l.fr) = some (s.pauseFrame (s.get (pPORT n) F.PORT.PAUSE.QUANTA)) ∧
      ((t.pauseNext n).port n).txPauseAt = some (s.now + s.quantaTime n (s.get (pPORT n) F.PORT.PAUSE.QUANTA) / 2) := by
  simp only [List.forall_mem_cons] at hget
  obtain ⟨hquanta, hmode, hspeed, -⟩ := hget
  rw [State.pauseNext, port_setPort]
  refine ⟨?_, ?_⟩
  · change (t.port n).leaving.map _ = _
    rw [hports, sendPause_leaving]
  · simp only [State.quantaTime, hquanta, hmode, hspeed, now_of hclock hdatum]

theorem paused_counter_apart : Fld.apart 0 F.PORT.STS.RX_PAUSED 0 (portCtr 7) = true := by decide

/-- What a received PAUSE frame shows on a station port with RX_PAUSE (R312, R324). -/
theorem pauseIn_shows {quanta : Nat} (hstation : 7 ≤ n) (hrun : s.running (pPORT n) = true)
    (hon : s.get (pPORT n) F.PORT.CFG.RX_PAUSE = 1) :
    ((s.pauseIn n quanta).get (pPORT n) F.PORT.STS.RX_PAUSED = if quanta = 0 then 0 else 1) ∧
      (((s.pauseIn n quanta).port n).rxPauseEnd = if quanta = 0 then none else some (s.now + s.quantaTime n quanta)) ∧
      (s.pauseIn n quanta).get (pPORT n) (portCtr 7) = (s.get (pPORT n) (portCtr 7) + 1) % 2 ^ 64 := by
  have hget {f : Fld} (ha : Fld.apart 0 (portCtr 7) 0 f = true) (hf : f.fits = true) :
      (s.portCount n 7).get (pPORT n) f = s.get (pPORT n) f := get_portCount s ha (by decide) hf
  have hcount : (s.portCount n 7).get (pPORT n) (portCtr 7) = (s.get (pPORT n) (portCtr 7) + 1) % 2 ^ 64 := by
    rw [State.portCount, State.bumpBy_set, State.get_set_same _ _ _ _ (by decide)]
    rfl
  have htime : (s.portCount n 7).now + (s.portCount n 7).quantaTime n quanta = s.now + s.quantaTime n quanta := by
    rw [now_of (portCount_still s n 7 1).clock (by rw [State.portCount, State.bumpBy_set, State.set_datum]; rfl), State.quantaTime,
      State.quantaTime, hget (by decide) (by decide), hget (by decide) (by decide)]
  rw [State.pauseIn, if_neg (by simp [hrun])]
  extract_lets s1 p1
  rw [if_pos ⟨hstation, by rw [State.flag, hget (by decide) (by decide), hon]; decide⟩]
  split
  · refine ⟨?_, ?_, ?_⟩
    · rw [State.get_set_same _ _ _ _ (by decide), Nat.zero_mod]
    · rw [port_of_ports (State.set_ports ..), port_setPort]
    · rw [State.get_set_beside _ _ _ paused_counter_apart (by decide) (by decide), get_setPort, hcount]
  · refine ⟨?_, ?_, ?_⟩
    · rw [State.get_set_same _ _ _ _ (by decide)]; rfl
    · rw [port_of_ports (State.set_ports ..), port_setPort, htime]
    · rw [State.get_set_beside _ _ _ paused_counter_apart (by decide) (by decide), get_setPort, hcount]

end Sys2Proof.PortPauses

open Sys2Proof.PortPauses

/-- Settles O32: PAUSE leaves at the boundary that `settle` finds, and a received one is timed from its arrival. -/
theorem portPause : Obligations.PortPause := by
  unfold Obligations.PortPause
  refine ⟨?_, ?_, ?_, ?_⟩
  · intro clk port u s hn hu hready hfree huse
    have hfirst : u.pauseFirst port = true := by simp [State.pauseFirst, State.flag, hfree, huse]
    have heq : (if port < 22 then (s.advance clk).pauseNow port else s.advance clk) =
        (((u.sendPause port (u.get (pPORT port) F.PORT.PAUSE.QUANTA)).set (pPORT port) F.PORT.STS.TX_PAUSING 1).event
          (pPORT port) 12).pauseNext port := by
      rw [if_pos hn, State.pauseNow, hu]
      simp [hready, hfirst]
    obtain ⟨hframe, hnext⟩ := pauseNext_shows (s := u) (n := port)
      (t := ((u.sendPause port (u.get (pPORT port) F.PORT.PAUSE.QUANTA)).set (pPORT port) F.PORT.STS.TX_PAUSING 1).event (pPORT port) 12)
      (by rw [port_of_ports (State.event_ports ..), port_of_ports (State.set_ports ..)]) (by simp [State.sendPause, State.onWire, State.setPort])
      (by simp [State.sendPause, State.onWire, State.setPort])
      (by
        simp only [List.forall_mem_cons]
        refine ⟨?_, ?_, ?_, by simp⟩ <;>
          simp (disch := decide) only [State.event_get, State.get_set_beside, State.sendPause, State.onWire, get_setPort])
    refine ⟨_, next_of_eq heq rfl, ?_, hframe, ?_, hnext, ?_⟩
    · rw [State.pauseNext, get_setPort]
      simp (disch := decide) only [State.event_get, State.get_set_beside, State.get_set_same]
      rfl
    · rw [State.pauseNext, get_setPort]
      exact State.get_event_same _ (by decide)
    · simp [State.pauseNext, State.sendPause, State.onWire, State.setPort]
  · intro port e u s hn hat hu hready hmore
    have hpausing : u.flag (pPORT port) F.PORT.STS.TX_PAUSING = true := by
      simp only [State.pauseMore, Bool.and_eq_true] at hmore
      exact hmore.1.1
    have heq : s.pauseAgain port = (u.sendPause port (u.get (pPORT port) F.PORT.PAUSE.QUANTA)).pauseNext port := by
      rw [State.pauseAgain, hat]
      simp [State.pauseNow, hu, hready, State.pauseFirst, hpausing, hmore]
    obtain ⟨hframe, hnext⟩ := pauseNext_shows (s := u) (n := port) (t := u.sendPause port (u.get (pPORT port) F.PORT.PAUSE.QUANTA)) rfl rfl rfl
      (fun f _ => get_setPort ..)
    refine ⟨_, next_of_eq heq rfl, hframe, hnext, ?_⟩
    change u.clock = _
    rw [← hu, (settle_still _ _).clock]
    rfl
  · intro clk port quanta s hn hrun hon
    obtain ⟨hpaused, hend, hcount⟩ := pauseIn_shows (s := s.advance clk) (n := port) (quanta := quanta) hn.1 hrun hon
    exact ⟨_, next_of_eq (if_pos hn.2) rfl, hpaused, hend, hcount⟩
  · intro port e s hn hend
    have heq : s.pauseEnd port = ((s.advanceT e).setPort port { s.port port with rxPauseEnd := none }).set (pPORT port)
        F.PORT.STS.RX_PAUSED 0 := by
      rw [State.pauseEnd, hend]
      rfl
    refine ⟨_, next_of_eq heq rfl, ?_, ?_, ?_⟩
    · rw [State.get_set_same _ _ _ _ (by decide), Nat.zero_mod]
    · rw [port_of_ports (State.set_ports ..), port_setPort]
    · rw [State.set_clock]; rfl

end

section
/-!
PROOFS. The steps of the start-up (R509, R512–R517, R520): each stage and the next, the image as it is fetched and judged, and the
pages of a ring boot, whose enables touch neither the loader's mark nor the held writes.
-/

open Sys2Proof Sys2Proof.Machine Sys2Proof.Laws
namespace Sys2Proof.StartUp

variable {s t : State}

/-! Ring boot (R517). -/

/-- The parts that an enable of a ring boot's page may change. -/
def bootParts : List Part :=
  [.ports, .mscl, .sw, .mem, .gang, .stamps, .datum, .cycle, .plat, .stake, .engs, .pins, .edges, .book, .cans, .bridge, .pwr, .tally, .cal,
    .latch]

def bootScope : Scope := frameScope [] (fun _ => true) bootParts

theorem bootScope_page (p : Nat) : bootScope.page p := frameScope_page_of_named rfl

/-- The kinds of a ring boot's pages. -/
def ringKind (p : Nat) : Prop :=
  famOf p = some .datum ∨ famOf p = some .stamp ∨ famOf p = some .port ∨ famOf p = some .bufmem ∨ famOf p = some .fdb ∨
    famOf p = some .switch ∨ famOf p = some .hsr ∨ famOf p = some .bridge

theorem ringBootPages_kind : ∀ p ∈ ringBootPages, ringKind p := by
  unfold ringKind
  decide

theorem pageOff_boot (s : State) (p : Nat) : Kept bootScope s (s.pageOff p) :=
  have h := bootScope_page
  pageOff_kept (Kept.refl _ s) rfl rfl rfl rfl rfl rfl rfl rfl rfl rfl rfl rfl rfl rfl rfl rfl rfl rfl (h _) (fun _ => h _) (h _) (h _) (h _)
    (h _) (fun _ => h _) (h _) (h _) (h _) (h _) (h _) (h _) (h _) (h _) (h _) (h _)

theorem blockClr_boot {p : Nat} (hp : ringKind p) (s o : State) : Kept bootScope s (s.blockClr o p) := by
  have h := bootScope_page
  unfold State.blockClr
  rcases hp with hp | hp | hp | hp | hp | hp | hp | hp <;> simp only [hp]
  · exact datumClr_kept (Kept.refl _ s) rfl rfl rfl (h _).fld (h _).fld (h _).fld (fun _ => h _) (h _).fld (h _).fld
  · exact Kept.stamps (Kept.refl _ s) rfl
  · exact setPort_kept (Kept.refl _ s) rfl
  · exact Kept.sw (Kept.refl _ s) rfl
  · exact Kept.sw (Kept.refl _ s) rfl
  · exact Kept.refl _ s
  · exact Kept.sw (Kept.refl _ s) rfl
  · exact bridgeClr_kept (Kept.refl _ s) rfl

theorem blockOn_boot {p : Nat} (hp : ringKind p) (s : State) : Kept bootScope s (s.blockOn p) := by
  have h := bootScope_page
  unfold State.blockOn
  rcases hp with hp | hp | hp | hp | hp | hp | hp | hp <;> simp only [hp]
  · exact datumOn_kept (Kept.refl _ s) rfl (h _)
  · exact stampLoad_kept (Kept.refl _ s) rfl rfl rfl rfl rfl rfl rfl (h _).fld (h _).fld (h _).fld (h _).fld (h _)
  · exact portOn_kept (Kept.refl _ s) rfl rfl rfl rfl rfl rfl (fun _ => h _) (h _).fld (h _).fld (h _).fld (h _).fld (h _).fld (h _).fld
      (h _).fld (h _).fld (h _).fld (h _).fld (h _).fld (h _).fld (h _)
  · exact bufOn_kept (Kept.refl _ s) rfl (h _).fld
  · exact Kept.refl _ s
  · exact Kept.refl _ s
  · exact Kept.refl _ s
  · exact txFetch_kept (Kept.refl _ s) rfl

theorem accepted_boot {p : Nat} (hp : ringKind p) (s : State) : Kept bootScope s (s.accepted p) := by
  have h := bootScope_page
  unfold State.accepted
  extract_lets s1 s2 fam holds
  have h1 : Kept bootScope s s1 :=
    bump_kept (set_kept (set_kept (set_kept (set_kept (Kept.refl _ s) (h _).fld) (h _).fld) (h _).fld) (h _).fld) (h _).fld
  have h2 : Kept bootScope s s2 := (set_kept h1 (h _).fld).trans (blockOn_boot hp _)
  exact drainsOf_kept (recost_kept (Kept.ite (setHeld_kept h2 (h _).fld (fun _ => h _)) h2) (h _).fld (h _).fld (h _).fld (h _).fld (h _).fld
    (h _).fld (h _).fld (h _).fld (h _).fld (h _).fld) rfl (h _).fld (h _).fld (h _).fld (h _).fld (h _).fld (h _).fld

theorem refusedEn_boot (s : State) (p code index : Nat) : Kept bootScope s (s.refusedEn p code index) :=
  have h := bootScope_page
  refusedEn_kept (Kept.refl _ s) (h _).fld (h _).fld (h _).fld (h _).fld (h _).fld (h _).fld

/-- The loader's mark of a ring boot stands and no write is held. -/
structure Ringing (s : State) : Prop where
  ring : s.boot.ring = true
  held : s.page.held = []

theorem Ringing.kept (h : Ringing s) (hk : Kept bootScope s t) : Ringing t :=
  ⟨by rw [show t.boot = s.boot from hk.part .boot rfl]; exact h.ring, by rw [show t.page = s.page from hk.part .page rfl]; exact h.held⟩

theorem stopEnd_ringing (h : Ringing s) (p : Nat) : Ringing (s.stopEnd p) := by
  have hoff := h.kept (pageOff_boot s p)
  unfold State.stopEnd
  split
  · exact ⟨hoff.ring, hoff.held⟩
  · exact h

theorem pageClr_ringing (h : Ringing s) {p : Nat} (hp : ringKind p) : Ringing (s.pageClr p) := by
  unfold State.pageClr
  split
  · exact h
  · exact (h.kept (clearRegs_kept (Kept.refl _ s) rfl (bootScope_page _))).kept (blockClr_boot hp _ _)

theorem clrEnd_ringing (h : Ringing s) {p : Nat} (hp : ringKind p) : Ringing (s.clrEnd p) := by
  have hclr : Ringing ((s.pageClr p).set p F.HDR.PCTL.CLR 0) :=
    (pageClr_ringing h hp).kept (set_kept (Kept.refl _ _) (bootScope_page _).fld)
  unfold State.clrEnd
  split
  · exact ⟨hclr.ring, hclr.held⟩
  · exact h

theorem checkBegin_ringing (h : Ringing s) {p : Nat} (hp : ringKind p) (v : Word) : Ringing (s.checkBegin p v) := by
  have hregs := (clrEnd_ringing (stopEnd_ringing h p) hp).kept (set_kept (p := p) (f := F.HDR.PSTS.REFUSED) (v := 0)
    (set_kept (p := p) (f := F.HDR.PSTS.RUN) (v := 0) (wr_kept (p := p) (off := 4) (v := v &&& 0xFFFFFFFB) (Kept.refl _ _) (bootScope_page p 4))
      (bootScope_page p).fld) (bootScope_page p).fld)
  exact ⟨hregs.ring, hregs.held⟩

/-- The write of PCTL that enables a page begins its check, or finds it enabled. -/
theorem pctlEnable_ringing (h : Ringing s) {p : Nat} (hp : ringKind p) (hnot : alwaysOn p = false) : Ringing (s.pctlWrite p 1 1) := by
  unfold State.pctlWrite
  extract_lets cur v en0 en1 s0 s1
  have hwr : Ringing s0 := h.kept (wr_kept (Kept.refl _ s) (bootScope_page p 4))
  have hen : en1 = true := by simp [en1, v, natBit_eq_testBit, BitVec.testBit_toNat]
  have hones : Nat.testBit 4294967294 1 = true ∧ Nat.testBit 1 1 = false ∧ Nat.testBit 4294967291 1 = true ∧ Nat.testBit 4 1 = false := by decide
  have hhold : natBit v.toNat 1 = natBit cur.toNat 1 := by simp [v, natBit_eq_testBit, BitVec.testBit_toNat, hones]
  have hkeep : ¬ (en0 && s.running p && natBit cur.toNat 1 && !natBit v.toNat 1) = true := by
    rw [hhold]
    cases natBit cur.toNat 1 <;> simp
  rw [if_neg (by rw [hnot]; decide), if_neg (by decide)]
  have hs1 : s1 = s0 := if_neg (by rw [hen]; decide)
  cases h0 : en0
  · simpa [hen] using checkBegin_ringing h hp v
  · rw [h0] at hkeep
    rw [if_neg (by simp [hen]), if_neg (by simp), if_neg hkeep, hs1]
    exact hwr

theorem judgePage_ringing (h : Ringing s) {p : Nat} (hp : ringKind p) (hplat : p ≠ pPLAT) (hdup : p ≠ pDUPLEX) : Ringing (s.judgePage p false) := by
  unfold State.judgePage
  extract_lets pg s1 s2
  have h1 : Ringing s1 := ⟨h.ring, h.held⟩
  have h2 : Ringing s2 := by
    simp only [s2, if_neg hplat, if_neg hdup]
    exact h1
  rw [if_neg (by decide)]
  split
  · exact h2.kept (accepted_boot hp _)
  · exact h2.kept (refusedEn_boot _ _ _ _)

theorem bootFail_ringing (h : Ringing s) (e : Nat) : Ringing (s.bootFail e) :=
  have hregs := h.kept (event_kept (p := pSYS) (b := 10) (set_kept (p := pSYS) (f := F.SYS.BOOTSTS.ERR) (v := e)
    (set_kept (p := pSYS) (f := F.SYS.BOOTSTS.STAGE) (v := 9) (Kept.refl _ s) (bootScope_page _).fld) (bootScope_page _).fld) (bootScope_page _).fld)
  ⟨hregs.ring, hregs.held⟩

theorem bootChecked_ringing (h : Ringing s) (p : Nat) : Ringing (s.bootChecked p) := by
  unfold State.bootChecked
  extract_lets bt s1 s2 s3
  have h1 : Ringing s1 := ⟨h.ring, h.held⟩
  have h3 : Ringing s3 := h1.kept (set_kept (set_kept (set_kept (Kept.refl _ s1) (bootScope_page _).fld) (bootScope_page _).fld)
    (bootScope_page _).fld)
  split
  · split
    · exact h1.kept (entryDone_kept (Kept.refl _ _) (bootScope_page _).fld (bootScope_page _).fld (bootScope_page _).fld)
    · exact bootFail_ringing h3 5
  · exact h

theorem checkOne_ringing (h : Ringing s) {p : Nat} (hp : ringKind p) (hplat : p ≠ pPLAT) (hdup : p ≠ pDUPLEX) : Ringing (s.checkOne p false) := by
  have h1 := bootChecked_ringing (judgePage_ringing h hp hplat hdup) p
  unfold State.checkOne
  extract_lets s1 mine pg
  have hmine : mine = [] := by simp only [mine, s1, h1.held, List.filter_nil]
  rw [hmine]
  exact ⟨h1.ring, by simp only [List.foldl_nil, s1, h1.held, List.filter_nil]⟩

theorem ringFold_ringing : ∀ (l : List Nat) (s : State), Ringing s → (∀ p ∈ l, p ∈ ringBootPages) →
    Ringing (l.foldl (fun st p => (st.pctlWrite p 1 1).checkOne p false) s)
  | [], _, h, _ => h
  | p :: rest, s, h, hl => by
    have hp := hl p (List.mem_cons_self ..)
    have hkind := ringBootPages_kind p hp
    have hbeside : ∀ p ∈ ringBootPages, alwaysOn p = false ∧ p ≠ pPLAT ∧ p ≠ pDUPLEX := by decide
    obtain ⟨hon, hplat, hdup⟩ := hbeside p hp
    exact ringFold_ringing rest _ (checkOne_ringing (pctlEnable_ringing h hkind hon) hkind hplat hdup) fun q hq => hl q (List.mem_cons_of_mem _ hq)

theorem ringBoot_ring (h : s.page.held = []) : s.ringBoot.boot.ring = true := by
  unfold State.ringBoot
  refine (ringFold_ringing ringBootPages _ ⟨rfl, ?_⟩ fun _ hp => hp).ring
  change (s.set pBRIDGE F.BRIDGE.TGT.OPEN_WR 1).page.held = []
  rw [State.set_page, h]

/-! The register writes of the boot (R516, R517). -/

/-- A write of a register of SYS beside the header has its effect. -/
theorem sysWrite_effect {off : Nat} {r : RegRow} {mask data : Word} {src : Source} (ha : s.accepts pSYS = true)
    (hrow : rowAt pSYS off = some r) (hoff : 0x40 ≤ off) (hmask : mask ≠ 0) : s.busWrite pSYS off mask data src =
      s.effBase (s.storeReg pSYS off r mask data) .sys pSYS off mask (data &&& mask) (((s.rd pSYS off) &&& ~~~mask) ||| (data &&& mask)) := by
  have hrun : runOf pSYS = some { first := 0, count := 1, fam := .sys, typ := 1 } := by decide
  have hnow : s.pageNow .sys pSYS = s := rfl
  rw [State.busWrite_row s mask data src hrun hrow, hnow, State.regWrite_accepts ha]
  simp only [State.writeEff, if_neg hmask, if_neg (show ¬ off = 0x04 by omega), if_neg (show ¬ off = 0x14 by omega),
    if_neg (show ¬ off < 0x40 by omega)]

/-- The row of BOOTCTL: a write of 1 to GO acts and is not stored. -/
def bootctlRow : RegRow :=
  { fam := .sys, off := 108, n1 := 1, s1 := 0, n2 := 1, s2 := 0, wi := 0, wn := 1, rst := 0, rw := 4294967294, rwl := 0, w1c := 0, wo := 0,
    rws := 1, resv := 4294967294 }

/-- A write of GO stores what BOOTCTL held. -/
theorem storeReg_bootctl (s : State) : s.storeReg pSYS 0x6C bootctlRow 1 1 = s.wr pSYS 0x6C (s.rd pSYS 0x6C) := by
  have hm : s.writable pSYS bootctlRow &&& 1 = 0#32 := by
    unfold State.writable
    split <;> decide
  have hclear : w32 bootctlRow.w1c = 0#32 := by decide
  unfold State.storeReg
  simp only [hm, hclear]
  rw [if_neg (by decide), if_pos (show (0#32 : Word) = 0 from rfl)]
  congr 1
  simp [and_wordOnes]

theorem rd_of_regs (s : State) (k : Nat) (hk : k ≠ regKey pSYS 0x6C) :
    tabGet regDefault (s.wr pSYS 0x6C (s.rd pSYS 0x6C)).regs k = tabGet regDefault s.regs k := tabGet_tabPut_ne _ _ _ hk

/-- What holds a word that is written back reads as before. -/
theorem get_wr_same (s : State) (p off q : Nat) (f : Fld) : (s.wr p off (s.rd p off)).get q f = s.get q f :=
  State.get_of_words fun i _ => by
    change tabGet regDefault (tabPut regDefault s.regs (regKey p off) (s.rd p off)) _ = _
    rw [tabGet_tabPut]
    split
    · rename_i hk; rw [hk]; rfl
    · rfl

/-- GO reads 1 once it has been written at STAGE 0x3 of a host or ring boot. -/
theorem bootGo_go (hstage : s.get pSYS F.SYS.BOOTSTS.STAGE = 3) (hboot : s.get pSYS F.SYS.STRAP.BOOT = 1 ∨ s.boot.ring = true) :
    s.bootGo.get pSYS F.SYS.BOOTCTL.GO = 1 := by
  have hboot' : (s.get pSYS F.SYS.STRAP.BOOT == 1 || s.boot.ring) = true := by simpa using hboot
  unfold State.bootGo State.bootWaits
  rw [hstage, hboot']
  cases hgo : s.flag pSYS F.SYS.BOOTCTL.GO
  · exact State.get_set_same _ _ _ _ (by decide)
  · exact State.get_of_flag (by decide) hgo

theorem bootGo_beside (s : State) : (∀ k, k ≠ regKey pSYS 0x6C → tabGet regDefault s.bootGo.regs k = tabGet regDefault s.regs k) ∧
    s.bootGo.boot = s.boot := by
  unfold State.bootGo
  split
  · refine ⟨fun k hk => State.tabGet_set_ne _ _ fun i hi => ?_, State.set_boot ..⟩
    obtain rfl : i = 0 := by change i < 1 at hi; omega
    exact hk
  · exact ⟨fun _ _ => rfl, rfl⟩

/-! The image (R514–R516, R520, R521). -/

/-- What a failed boot shows. -/
theorem bootFail_shows (s : State) (e : Nat) : (s.bootFail e).get pSYS F.SYS.BOOTSTS.STAGE = 9 ∧
    (s.bootFail e).get pSYS F.SYS.BOOTSTS.ERR = e % 2 ^ F.SYS.BOOTSTS.ERR.w ∧ (s.bootFail e).get pSYS ⟨0x0C, 10, 1⟩ = 1 := by
  unfold State.bootFail
  extract_lets s1
  have hget (f : Fld) : ({ s1 with boot := { s1.boot with page := none, wait := none, rest := [] } } : State).get pSYS f = s1.get pSYS f :=
    State.get_of_words fun _ _ => rfl
  refine ⟨(hget _).trans ?_, (hget _).trans ?_, (hget _).trans (State.get_event_same _ (by decide))⟩
  · simp (disch := decide) only [s1, State.event_get, State.get_set_apart, State.get_set_same]
    rfl
  · simp (disch := decide) only [s1, State.event_get, State.get_set_apart, State.get_set_same]

theorem ringClear_off (h : s.boot.ring = false) : s.ringClear = s := if_neg (by simp [h])

/-- An image that is accepted outside a ring boot (R520). -/
theorem authed_accepted {u : Bool} (hon : s.coreOn = true) (hstage : s.get pSYS F.SYS.BOOTSTS.STAGE = 4)
    (hjudge : s.judgeImage s.boot.image = (0, u)) (hring : s.boot.ring = false) :
    s.authed.boot.rest = (s.boot.image.take (imf s.boot.image 8 4 - 4)).drop 16 ∧
      (s.authed.get pSYS F.SYS.BOOTSTS.STAGE = if (s.boot.image.take (imf s.boot.image 8 4 - 4)).drop 16 = [] then 7 else 5) ∧
      (s.authed.get pSYS F.SYS.BOOTSTS.UNVERIFIED = if u then 1 else 0) ∧ s.authed.get pSYS F.SYS.BOOTENT.ENTRY = 0 := by
  have hring' : (s.setB pSYS F.SYS.BOOTSTS.UNVERIFIED u).boot.ring = false := by rw [State.setB, State.set_boot, hring]
  rw [State.authed, if_neg (by simp [hon, State.stage_, hstage])]
  extract_lets b r s1 rest bt s2
  have hr : r = (0, u) := hjudge
  have hs1 : s1 = (s.setB pSYS F.SYS.BOOTSTS.UNVERIFIED u).set pSYS F.SYS.BOOTENT.ENTRY 0 := by simp only [s1, hr, ringClear_off hring']
  rw [if_neg (by rw [hr]; simp)]
  have hget (f : Fld) : s2.get pSYS f = s1.get pSYS f := State.get_of_words fun _ _ => rfl
  have hbit : bit u % 2 ^ F.SYS.BOOTSTS.UNVERIFIED.w = if u then 1 else 0 := by cases u <;> rfl
  split
  · refine ⟨?_, ?_, ?_, ?_⟩
    · simp [s2, rest, b]
    · simp (disch := decide) only [State.event_get, State.get_set_apart, State.get_set_same]
      rfl
    · simp (disch := decide) only [State.event_get, State.get_set_apart, State.get_set_same, hget, hs1, State.setB]
      exact hbit
    · simp (disch := decide) only [State.event_get, State.get_set_apart, State.get_set_same, hget, hs1, Nat.zero_mod]
  · refine ⟨?_, ?_, ?_, ?_⟩
    · simp [s2, rest, b]
    · simp (disch := decide) only [State.get_set_same]
      rfl
    · simp (disch := decide) only [State.get_set_apart, State.get_set_same, hget, hs1, State.setB]
      exact hbit
    · simp (disch := decide) only [State.get_set_apart, State.get_set_same, hget, hs1, Nat.zero_mod]

theorem authed_refused {e : Nat} {u : Bool} (hon : s.coreOn = true) (hstage : s.get pSYS F.SYS.BOOTSTS.STAGE = 4)
    (hjudge : s.judgeImage s.boot.image = (e, u)) (he : e ≠ 0) : s.authed = s.imageFail e := by
  rw [State.authed, if_neg (by simp [hon, State.stage_, hstage])]
  extract_lets b r s1 rest bt s2
  have hr : r = (e, u) := hjudge
  rw [hr]
  exact if_pos he

/-- What an image that has been fetched shows. -/
theorem fetched_shows {image : Option (List Byte)} {b : List Byte} (hon : s.coreOn = true) (hstage : s.get pSYS F.SYS.BOOTSTS.STAGE = 3)
    (hgo : s.get pSYS F.SYS.STRAP.BOOT = 0 ∨ s.get pSYS F.SYS.BOOTCTL.GO = 1)
    (himg : (if s.boot.ring then some (s.boot.image.take (s.get pSYS F.SYS.BOOT_LEN.BYTES))
      else if s.flashBoot then image else image.map (fun b => b.take (s.get pSYS F.SYS.BOOT_LEN.BYTES))) = some b) :
    (s.fetched image).get pSYS F.SYS.BOOTSTS.STAGE = 4 ∧ (s.fetched image).get pSYS F.SYS.BOOTCTL.GO = 0 ∧ (s.fetched image).boot.image = b := by
  have hready : (s.flashBoot || s.flag pSYS F.SYS.BOOTCTL.GO) = true := by
    rcases hgo with h | h <;> simp [State.flashBoot, State.flag, h]
  rw [State.fetched, if_neg (by simp [hon, State.stage_, hstage, hready])]
  extract_lets s1 len img s2 bt
  have himg' : img = some b := himg
  rw [himg']
  have hget (f : Fld) : ({ s2 with boot := { s2.boot with image := b } } : State).get pSYS f = s2.get pSYS f :=
    State.get_of_words fun _ _ => rfl
  refine ⟨(hget _).trans ?_, (hget _).trans ?_, rfl⟩
  · simp (disch := decide) only [s2, State.get_set_same]
    rfl
  · simp (disch := decide) only [s2, s1, State.get_set_apart, State.get_set_same, Nat.zero_mod]

/-- A fetch from the host that fails ends the boot. -/
theorem fetched_failed (hon : s.coreOn = true) (hstage : s.get pSYS F.SYS.BOOTSTS.STAGE = 3)
    (hgo : s.get pSYS F.SYS.STRAP.BOOT = 1 ∧ s.get pSYS F.SYS.BOOTCTL.GO = 1) (hring : s.boot.ring = false) :
    s.fetched none = (s.set pSYS F.SYS.BOOTCTL.GO 0).bootFail 1 := by
  have hhost : (s.set pSYS F.SYS.BOOTCTL.GO 0).flashBoot = false := by
    simp (disch := decide) only [State.flashBoot, State.get_set_apart, hgo.1]
    rfl
  rw [State.fetched, if_neg (by simp [hon, State.stage_, hstage, State.flag, hgo.2]), hring]
  simp only [Bool.false_eq_true, if_false, Option.map_none, ite_self, State.imageFail, hhost, Bool.false_and]

/-- The first image in flash fails, and the alternate one is tried (R514). -/
theorem imageFail_alternate {e : Nat} (hfirst : s.get pSYS F.SYS.STRAP.BOOT = 0 ∧ s.get pSYS F.SYS.BOOTSTS.ALT = 0 ∧ e ≤ 3) :
    (s.imageFail e).get pSYS F.SYS.BOOTSTS.STAGE = 3 ∧ (s.imageFail e).get pSYS F.SYS.BOOTSTS.ALT = 1 ∧ (s.imageFail e).boot.image = [] := by
  obtain ⟨hflash, halt, he⟩ := hfirst
  rw [State.imageFail, if_pos (by simp [State.flashBoot, State.flag, hflash, halt, he])]
  extract_lets s1 bt
  have hget (f : Fld) : ({ s1 with boot := { s1.boot with image := [] } } : State).get pSYS f = s1.get pSYS f :=
    State.get_of_words fun _ _ => rfl
  refine ⟨(hget _).trans ?_, (hget _).trans ?_, rfl⟩
  · simp (disch := decide) only [s1, State.get_set_same]
    rfl
  · simp (disch := decide) only [s1, State.get_set_apart, State.get_set_same]
    rfl

theorem imageFail_last {e : Nat} (hlast : s.get pSYS F.SYS.STRAP.BOOT ≠ 0 ∨ s.get pSYS F.SYS.BOOTSTS.ALT = 1 ∨ 3 < e) :
    s.imageFail e = s.bootFail e := by
  refine if_neg ?_
  rcases hlast with h | h | h
  · simp [State.flashBoot, h]
  · simp [State.flag, h]
  · simp [Nat.not_le.mpr h]

/-! The memory self-test (R513, R514). -/

/-- The state with the banks that the self-test found bad. -/
def tested (s : State) (failed : List Nat) : State := { s with sw := { s.sw with selfFailed := failed.filter (fun k => decide (k < 9)) } }

theorem get_tested (s : State) (failed : List Nat) (p : Nat) (f : Fld) : (tested s failed).get p f = s.get p f :=
  State.get_of_words fun _ _ => rfl

theorem selfTest_passed (failed : List Nat) (hon : s.coreOn = true) (hstage : s.get pSYS F.SYS.BOOTSTS.STAGE = 2) :
    s.selfTest failed false = if s.get pSYS F.SYS.STRAP.BOOT = 2 then ((tested s failed).set pSYS F.SYS.BOOTSTS.STAGE 3).ringBoot
      else (tested s failed).set pSYS F.SYS.BOOTSTS.STAGE (if s.get pSYS F.SYS.STRAP.BOOT = 3 then 8 else 3) := by
  rw [State.selfTest, if_neg (by simp [hon, State.stage_, hstage]), if_neg (by decide), ← get_tested s failed]
  change (match (tested s failed).get pSYS F.SYS.STRAP.BOOT with
    | 3 => (tested s failed).set pSYS F.SYS.BOOTSTS.STAGE 8
    | 2 => ((tested s failed).set pSYS F.SYS.BOOTSTS.STAGE 3).ringBoot
    | _ => (tested s failed).set pSYS F.SYS.BOOTSTS.STAGE 3) = _
  generalize (tested s failed).get pSYS F.SYS.STRAP.BOOT = boot
  split
  · rfl
  · rfl
  · rename_i h3 h2
    rw [if_neg h2, if_neg h3]

theorem selfTest_uncorrected (failed : List Nat) (hon : s.coreOn = true) (hstage : s.get pSYS F.SYS.BOOTSTS.STAGE = 2) :
    (s.selfTest failed true).get pSYS F.SYS.BOOTSTS.STAGE = 9 ∧ (s.selfTest failed true).get pSYS F.SYS.BOOTSTS.ERR = 7 ∧
      (s.selfTest failed true).get pSYS F.HDR.PSTS.FAULT = 1 ∧ (s.selfTest failed true).get pSYS ⟨0x0C, 10, 1⟩ = 1 := by
  rw [State.selfTest, if_neg (by simp [hon, State.stage_, hstage]), if_pos rfl]
  refine ⟨?_, ?_, ?_, State.get_event_same _ (by decide)⟩
  · rw [State.event_get, State.get_set_beside _ _ _ (by decide) (by decide) (by decide), CoreReset.get_blockFault_beside _ (by decide) (by decide) (by decide)]
    simp (disch := decide) only [State.get_set_apart, State.get_set_same]
    rfl
  · rw [State.event_get, State.get_set_beside _ _ _ (by decide) (by decide) (by decide), CoreReset.get_blockFault_beside _ (by decide) (by decide) (by decide)]
    simp (disch := decide) only [State.get_set_same]
    rfl
  · rw [State.event_get, State.get_set_beside _ _ _ (by decide) (by decide) (by decide)]
    unfold State.blockFault
    split
    · rename_i hfault
      exact State.get_of_flag (by decide) hfault
    · simp (disch := decide) only [State.event_get, State.get_set_beside, State.get_set_same]
      rfl

end Sys2Proof.StartUp

open Sys2Proof.StartUp

/-- Settles O44: each step moves STAGE and leaves what the later ones read. -/
theorem bootSteps : Obligations.BootSteps := by
  unfold Obligations.BootSteps
  refine ⟨?_, ?_, ?_, ?_, ?_, ?_, ?_, ?_, ?_, ?_, ?_, ?_⟩
  · intro clk s hon hstage
    have heq : (s.advance clk).pllLock = ((s.advance clk).serdesNow true).set pSYS F.SYS.BOOTSTS.STAGE 1 :=
      if_pos (by simp [show (s.advance clk).coreOn = true from hon, State.stage_, hstage])
    exact ⟨_, next_of_eq heq rfl, State.get_set_same _ _ _ _ (by decide), State.set_pwr ..⟩
  · intro clk s hon hstage
    have heq : (s.advance clk).calLoad = (s.advance clk).calReload.set pSYS F.SYS.BOOTSTS.STAGE 2 :=
      if_pos (by simp [show (s.advance clk).coreOn = true from hon, State.stage_, hstage])
    refine ⟨_, next_of_eq heq rfl, State.get_set_same _ _ _ _ (by decide), ?_, ?_, ?_⟩
    · simp [State.calReload, State.advance]
    · simp [State.calReload, State.advance]
    · simp (disch := decide) only [State.calReload, State.get_set_apart, State.get_set_same]
      refine Nat.mod_eq_of_lt ?_
      rw [Calibration.calNum_two]
      have h1 := (calGet s.cal.mtp 6).isLt
      have h2 := (calGet s.cal.mtp 7).isLt
      change (calGet s.cal.mtp 6).toNat + 256 * (calGet s.cal.mtp 7).toNat < 2 ^ 16
      omega
  · intro clk failed s hon hstage hboot
    have heq := (selfTest_passed (s := s.advance clk) failed hon hstage).trans (if_neg hboot)
    refine ⟨_, next_of_eq heq rfl, ?_, ?_⟩
    · rw [State.get_set_same _ _ _ _ (by decide), State.get_advance]
      split <;> rfl
    · rw [State.set_sw]; rfl
  · intro clk failed s hon hstage hboot hheld
    have heq := (selfTest_passed (s := s.advance clk) failed hon hstage).trans (if_pos hboot)
    refine ⟨_, next_of_eq heq rfl, ringBoot_ring ?_⟩
    rw [State.set_page]
    exact hheld
  · intro clk failed s hon hstage
    exact ⟨_, rfl, selfTest_uncorrected (s := s.advance clk) failed hon hstage⟩
  · intro clk s ha hstage hboot
    have hrow : rowAt pSYS 0x6C = some bootctlRow := by decide
    have heq : (s.advance clk).busWrite pSYS 0x6C 1 1 .host = ((s.advance clk).wr pSYS 0x6C (s.rd pSYS 0x6C)).bootGo := by
      rw [sysWrite_effect ha hrow (by decide) (by decide), storeReg_bootctl]
      rfl
    obtain ⟨hregs, hsame⟩ := bootGo_beside ((s.advance clk).wr pSYS 0x6C (s.rd pSYS 0x6C))
    refine ⟨_, next_of_eq heq rfl, bootGo_go ?_ ?_, hsame, fun k hk => (hregs k hk).trans (rd_of_regs (s.advance clk) k hk)⟩
    · exact (get_wr_same (s.advance clk) _ _ _ _).trans hstage
    · exact hboot.imp_left fun h => (get_wr_same (s.advance clk) _ _ _ _).trans h
  · intro clk data s ha hstage hgo hring
    obtain ⟨r, hrow⟩ : ∃ r, rowAt pSYS 0x70 = some r := Option.isSome_iff_exists.mp (by decide)
    have hwaits : (s.advance clk).bootWaits = true := by simp [State.bootWaits, hstage, State.flag, hgo, State.advance, hring]
    have heq : (s.advance clk).busWrite pSYS 0x70 0xFFFFFFFF data .manager =
        { s.advance clk with boot := { s.boot with image := s.boot.image ++ leBytes 4 data.toNat } } := by
      rw [sysWrite_effect ha hrow (by decide) (by decide)]
      have hdata : data &&& 0xFFFFFFFF = data := and_wordOnes data
      change (s.advance clk).bootData (data &&& 0xFFFFFFFF) = _
      rw [State.bootData, hwaits, hdata]
      exact if_pos hring
    exact ⟨_, next_of_eq heq rfl, rfl, rfl⟩
  · intro clk image s hon hstage hgo
    refine ⟨_, rfl, fetched_shows (s := s.advance clk) hon hstage hgo ?_⟩
    have hsame : (s.advance clk).boot = s.boot := rfl
    simp only [State.flashBoot, beq_iff_eq, State.get_advance, Option.map_some, hsame]
    split_ifs <;> rfl
  · intro clk s hon hstage hgo hring
    exact ⟨_, next_of_eq (fetched_failed (s := s.advance clk) hon hstage hgo hring) rfl, bootFail_shows _ 1⟩
  · intro clk u s hon hstage hjudge hring
    exact ⟨_, rfl, authed_accepted (s := s.advance clk) hon hstage hjudge hring⟩
  · intro clk e u s hon hstage hjudge he hfirst
    exact ⟨_, next_of_eq (authed_refused (s := s.advance clk) hon hstage hjudge he) rfl, imageFail_alternate (s := s.advance clk) hfirst⟩
  · intro clk e u s hon hstage hjudge he hlast
    exact ⟨_, next_of_eq ((authed_refused (s := s.advance clk) hon hstage hjudge he).trans (imageFail_last hlast)) rfl, bootFail_shows _ e⟩

end

section
/-!
PROOFS. The cycle's boundary, the vote on the plat and REJOIN (R129, R149, R150): what each shows, and that what follows a boundary
keeps the page of the cycle and the clock.
-/

open Sys2Proof Sys2Proof.Machine Sys2Proof.Laws
namespace Sys2Proof.CycleVote

variable {s : State}

/-! The boundary (R129). -/

/-- The pages that a boundary's follow-up may change. -/
def boundaryPages (p : Nat) : Bool :=
  p == pGANGCTL || p == pSWITCH || famOf p == some Fam.port || p == pCAPTURE || p == pBUFMEM || p == pDUPLEX || p == pPLAT

def boundaryScope : Scope := frameScope [] boundaryPages [.sw, .mem, .dup, .plat]

theorem boundaryScope_page {p : Nat} (h : boundaryPages p = true) : boundaryScope.page p := frameScope_page_of_named h

theorem staleTest_only (s : State) (n : Int) : Kept boundaryScope s (s.staleTest n) :=
  staleTest_kept (Kept.refl _ s) rfl rfl (boundaryScope_page rfl)

theorem gangBoundary_only (s : State) (n : Nat) : Kept boundaryScope s (s.gangBoundary n) :=
  have h {p : Nat} (hp : boundaryPages p = true) : boundaryScope.page p := boundaryScope_page hp
  gangBoundary_kept (Kept.refl _ s) rfl rfl (h rfl).fld (h rfl).fld (h rfl).fld (h rfl).fld (h rfl).fld
    (fun n => h (by simp [boundaryPages])) (h rfl).fld (h rfl).fld (h rfl).fld (h rfl).fld (h rfl).fld (h rfl).fld (h rfl).fld

theorem dupBoundary_only (s : State) : Kept boundaryScope s s.dupBoundary :=
  dupBoundary_kept (Kept.refl _ s) rfl (boundaryScope_page rfl).fld

theorem sendMember_still (s : State) (k : Nat) (f : Frame) (q : Option Nat) : Still s (s.sendMember k f q) := by
  unfold State.sendMember
  split
  · exact sendCopies_still _ _ _ _ _
  · rw [State.noPath, State.bump_set]
    exact (set_still _ _ _ _).trans (event_still _ _ _)

theorem gangBoundary_still (s : State) (n : Nat) : Still s (s.gangBoundary n) := by
  have hform : Still s s.gangForm := .ite (((set_still _ _ _ _).trans (set_still _ _ _ _)).trans (event_still _ _ _)) (.refl s)
  refine hform.trans (.ite ?_ (.refl _))
  exact .foldl (fun st m => sendMember_still st _ _ _) _ _

theorem dupBoundary_still (s : State) : Still s s.dupBoundary := by
  have hage : Still s (s.bumpSat pDUPLEX F.DUPLEX.STS.SYNC_AGE) := by rw [State.bumpSat_set]; exact set_still _ _ _ _
  exact .ite (.ite ⟨hage.clock, hage.free⟩ hage) (.refl s)

theorem transitCheck_still (s : State) : Still s s.transitCheck := .ite (event_still _ _ _) (.refl s)

theorem get_transitCheck (s : State) {f : Fld} (hf : f.fits = true) (ha : Fld.apart 0 ⟨0x0C, 12, 1⟩ 0 f = true) :
    s.transitCheck.get pCYCLE f = s.get pCYCLE f := by
  unfold State.transitCheck
  split
  · rw [State.event_get, State.get_set_beside _ _ _ ha (by decide) hf]
  · rfl

theorem transitCheck_cycle (s : State) : s.transitCheck.cycle = s.cycle := by
  unfold State.transitCheck
  split
  · exact State.event_cycle ..
  · rfl

theorem staleTest_still (s : State) (n : Int) : Still s (s.staleTest n) := by
  have hone (t : State) (k : Nat) : Still t (t.staleOne n k) := by
    unfold State.staleOne
    extract_lets h lim old a
    have hmark : Still t (t.stb a (t.ldb a ||| 2)) := ⟨rfl, rfl⟩
    exact .ite (.refl t) ((hmark.trans (set_still _ _ _ _)).trans (event_still _ _ _))
  unfold State.staleTest
  extract_lets pl s1
  have h1 : Still s s1 := ⟨rfl, rfl⟩
  exact .ite (.refl s) (h1.trans (.foldl hone _ _))

/-- The cycle as it enters its number `n`. -/
def entered (s : State) (n : Int) : State := { s with cycle := { s.cycle with cyc := n, started := true, doneEv := [], votes := [] } }

/-- The cycle's number as its page shows it. -/
def announced (s : State) (n : Int) : State := ((entered s n).set pCYCLE F.CYCLE.NOW_CYC.CYCLE (cyc32 n)).event pCYCLE 8

/-- What a boundary shows. -/
theorem boundary_shows (hrun : s.running pCYCLE = true) :
    s.boundary.cycle.cyc = s.nextCyc ∧ s.boundary.cycle.started = true ∧ s.boundary.cycle.doneEv = [] ∧ s.boundary.cycle.votes = [] ∧
      s.boundary.clock = max s.clock (s.clockOf (s.cycT s.nextCyc)) ∧ s.boundary.get pCYCLE F.CYCLE.NOW_CYC.CYCLE = cyc32 s.nextCyc ∧
      s.boundary.get pCYCLE ⟨0x0C, 8, 1⟩ = 1 := by
  rw [State.boundary, if_pos hrun]
  extract_lets n s1
  have hgang := gangBoundary_only s1 (cyc32 n)
  have hdup := dupBoundary_only (s1.gangBoundary (cyc32 n))
  have hstale := staleTest_only (announced (s.advanceT (s.cycT n)) n) n
  have hkept := (hstale.trans hgang).trans hdup
  have hcycle : ((s1.gangBoundary (cyc32 n)).dupBoundary.transitCheck).cycle = (entered (s.advanceT (s.cycT n)) n).cycle := by
    rw [transitCheck_cycle, hkept.part .cycle rfl, announced, State.event_cycle, State.set_cycle]
  refine ⟨by rw [hcycle]; rfl, by rw [hcycle]; rfl, by rw [hcycle]; rfl, by rw [hcycle]; rfl, ?_, ?_, ?_⟩
  · rw [(transitCheck_still _).clock, (dupBoundary_still _).clock, (gangBoundary_still _ _).clock]
    refine (staleTest_still (announced (s.advanceT (s.cycT n)) n) n).clock.trans ?_
    simp [announced, entered, State.advanceT, State.advance, n]
  · rw [get_transitCheck _ (by decide) (by decide), hkept.get_of_page rfl]
    simp (disch := decide) only [announced, State.event_get, State.get_set_beside, State.get_set_same]
    exact Nat.mod_eq_of_lt (show cyc32 n < 2 ^ 32 by unfold cyc32; omega)
  · rw [get_transitCheck _ (by decide) (by decide), hkept.get_of_page rfl]
    exact State.get_event_same _ (by decide)

/-! The vote (R149). -/

/-- The digest of this hub, the votes, and the digest that more than half of them carry. -/
def ownDigest (s : State) : Nat := s.get pCYCLE F.CYCLE.SCHED_DIG.DIGEST
def ballots (s : State) : List (Nat × Nat) := (s.nid, ownDigest s) :: s.cycle.votes.filter (fun v => v.1 != s.nid)
def majority (s : State) : Option Nat :=
  ((ballots s).map (fun v => v.2)).find? (fun d => decide ((ballots s).length < 2 * votesFor (ballots s) d))

/-- The state with the counts of the vote, and with what it found of the majority. -/
def counted (s : State) (maj : Option Nat) : State :=
  (((s.set pCYCLE F.CYCLE.VOTE.FOR (votesFor (ballots s) (ownDigest s))).set pCYCLE F.CYCLE.VOTE.AGAINST
    ((ballots s).length - votesFor (ballots s) (ownDigest s))).set pCYCLE F.CYCLE.MAJ_DIG.DIGEST (maj.getD 0)).setB pCYCLE F.CYCLE.STS.NOMAJ
      maj.isNone

def tallied (s : State) (maj : Option Nat) : State :=
  { counted s maj with cycle := { (counted s maj).cycle with alone := decide ((ballots s).length = 1), major := maj } }

/-- A hub that the majority outvotes stops publishing. -/
def outvoted (s : State) (d : Nat) : State :=
  ((((tallied s (some d)).set pCYCLE F.CYCLE.STS.DISAGREE 1).set pCYCLE F.CYCLE.STS.PUBLISH 0).refuse pCYCLE 0x0C
    (minOf (((ballots s).filter (fun v => v.2 == d)).map (fun v => v.1)))).event pCYCLE 9

theorem vote_none (h : majority s = none) : s.vote = (tallied s none).event pCYCLE 10 := by
  unfold majority ballots ownDigest at h
  simp only [State.vote, tallied, counted, ballots, ownDigest, h]; rfl

theorem vote_some {d : Nat} (h : majority s = some d) : s.vote = if d = ownDigest s then tallied s (some d) else outvoted s d := by
  unfold majority ballots ownDigest at h
  simp only [State.vote, outvoted, tallied, counted, ballots, ownDigest, h]; rfl

theorem get_tallied (s : State) (maj : Option Nat) :
    (tallied s maj).get pCYCLE F.CYCLE.VOTE.FOR = votesFor (ballots s) (ownDigest s) % 2 ^ F.CYCLE.VOTE.FOR.w ∧
      (tallied s maj).get pCYCLE F.CYCLE.VOTE.AGAINST =
        ((ballots s).length - votesFor (ballots s) (ownDigest s)) % 2 ^ F.CYCLE.VOTE.AGAINST.w ∧
      (tallied s maj).get pCYCLE F.CYCLE.STS.NOMAJ = bit maj.isNone ∧
      (tallied s maj).get pCYCLE F.CYCLE.STS.PUBLISH = s.get pCYCLE F.CYCLE.STS.PUBLISH ∧
      (tallied s maj).cycle = { s.cycle with alone := decide ((ballots s).length = 1), major := maj } := by
  have hbit : bit maj.isNone % 2 ^ F.CYCLE.STS.NOMAJ.w = bit maj.isNone := by cases maj.isNone <;> rfl
  have hregs : (tallied s maj).regs = (counted s maj).regs := by rw [tallied]
  have hget (f : Fld) : (tallied s maj).get pCYCLE f = (counted s maj).get pCYCLE f := State.get_congr hregs _ _
  have hcycle : (counted s maj).cycle = s.cycle := by simp [counted, State.setB]
  refine ⟨(hget _).trans ?_, (hget _).trans ?_, (hget _).trans ?_, (hget _).trans ?_,
    congrArg (fun c : CycleSt => { c with alone := decide ((ballots s).length = 1), major := maj }) hcycle⟩
  · simp (disch := decide) only [counted, State.setB, State.get_set_beside, State.get_set_same]
  · simp (disch := decide) only [counted, State.setB, State.get_set_beside, State.get_set_same]
  · simp (disch := decide) only [counted, State.setB, State.get_set_same]
    exact hbit
  · simp (disch := decide) only [counted, State.setB, State.get_set_beside]

/-- What a vote shows. -/
theorem vote_shows (s : State) : s.vote.get pCYCLE F.CYCLE.VOTE.FOR = votesFor (ballots s) (ownDigest s) % 2 ^ F.CYCLE.VOTE.FOR.w ∧
    s.vote.get pCYCLE F.CYCLE.VOTE.AGAINST =
      ((ballots s).length - votesFor (ballots s) (ownDigest s)) % 2 ^ F.CYCLE.VOTE.AGAINST.w ∧
    s.vote.get pCYCLE F.CYCLE.STS.NOMAJ = bit (majority s).isNone ∧
    s.vote.cycle = { s.cycle with alone := decide ((ballots s).length = 1), major := majority s } ∧
    ((majority s).isSome = true ∧ majority s ≠ some (ownDigest s) → s.vote.get pCYCLE F.CYCLE.STS.DISAGREE = 1 ∧
      s.vote.get pCYCLE F.CYCLE.STS.PUBLISH = 0 ∧ s.vote.get pCYCLE F.HDR.PSTS.CODE = 0x0C) ∧
    ((majority s).isNone = true ∨ majority s = some (ownDigest s) →
      s.vote.get pCYCLE F.CYCLE.STS.PUBLISH = s.get pCYCLE F.CYCLE.STS.PUBLISH) := by
  cases hmaj : majority s with
  | none =>
    obtain ⟨hfor, hagainst, hnomaj, hpub, hcycle⟩ := get_tallied s none
    have hget {f : Fld} (hf : f.fits = true) (ha : Fld.apart 0 ⟨0x0C, 10, 1⟩ 0 f = true) :
        ((tallied s none).event pCYCLE 10).get pCYCLE f = (tallied s none).get pCYCLE f := by
      rw [State.event_get, State.get_set_beside _ _ _ ha (by decide) hf]
    rw [vote_none hmaj]
    exact ⟨(hget (by decide) (by decide)).trans hfor, (hget (by decide) (by decide)).trans hagainst, (hget (by decide) (by decide)).trans hnomaj,
      (State.event_cycle ..).trans hcycle, fun h => absurd h.1 (by decide), fun _ => (hget (by decide) (by decide)).trans hpub⟩
  | some d =>
    obtain ⟨hfor, hagainst, hnomaj, hpub, hcycle⟩ := get_tallied s (some d)
    rw [vote_some hmaj]
    by_cases hd : d = ownDigest s
    · rw [if_pos hd]
      exact ⟨hfor, hagainst, hnomaj, hcycle, fun h => absurd (congrArg some hd) h.2, fun _ => hpub⟩
    · rw [if_neg hd]
      unfold outvoted State.refuse
      refine ⟨?_, ?_, ?_, ?_, fun _ => ⟨?_, ?_, ?_⟩, fun h => absurd h (by simp [hd])⟩
      · simp (disch := decide) only [State.event_get, State.get_set_beside, hfor]
      · simp (disch := decide) only [State.event_get, State.get_set_beside, hagainst]
      · simp (disch := decide) only [State.event_get, State.get_set_beside, hnomaj]
      · simp [hcycle]
      · simp (disch := decide) only [State.event_get, State.get_set_beside, State.get_set_same]
        rfl
      · simp (disch := decide) only [State.event_get, State.get_set_beside, State.get_set_same, Nat.zero_mod]
      · simp (disch := decide) only [State.event_get, State.get_set_beside, State.get_set_same]
        rfl

end Sys2Proof.CycleVote

open Sys2Proof.CycleVote

/-- Settles O14: what follows a boundary is off the page of the cycle, and a vote ends in one of three states. -/
theorem cycleBoundaryAndVote : Obligations.CycleBoundaryAndVote := by
  unfold Obligations.CycleBoundaryAndVote
  refine ⟨?_, ?_, ?_⟩
  · intro s hrun
    exact ⟨_, rfl, boundary_shows hrun⟩
  · intro s hopen
    obtain ⟨hfor, hagainst, hnomaj, hcycle, hdis, hagree⟩ := vote_shows (s.evNow 2)
    refine ⟨_, next_of_eq (if_pos hopen) rfl, ?_⟩
    intro own l maj
    have hget (f : Fld) : (s.evNow 2).get pCYCLE f = s.get pCYCLE f := State.get_of_words fun _ _ => rfl
    exact ⟨hfor, hagainst, hnomaj, by rw [hcycle]; rfl, by rw [hcycle]; rfl, by rw [hcycle]; rfl, hdis, fun h => (hagree h).trans (hget _)⟩
  · intro clk s ha hvote
    have heq : (s.advance clk).bitWrite pCYCLE F.CYCLE.CTL.REJOIN State.cycleRejoin =
        ((((s.advance clk).set pCYCLE F.CYCLE.STS.PUBLISH 1).set pCYCLE F.CYCLE.STS.DISAGREE 0).set pCYCLE F.HDR.PSTS.REFUSED 0).event
          pCYCLE 13 := by
      rw [State.bitWrite_accepts ha]
      exact if_pos (by simpa [State.advance] using hvote)
    refine ⟨_, next_of_eq heq rfl, ?_, ?_, ?_, State.get_event_same _ (by decide), ?_⟩
    · simp (disch := decide) only [State.event_get, State.get_set_beside, State.get_set_same]
      rfl
    · simp (disch := decide) only [State.event_get, State.get_set_beside, State.get_set_same, Nat.zero_mod]
    · simp (disch := decide) only [State.event_get, State.get_set_beside, State.get_set_same, Nat.zero_mod]
    · simp [State.advance]

end

section
/-!
PROOFS. O38: what a write of a register stores, where it waits and where it is an address error (R8, R9, R34, R35, R49, R392).
-/

open Sys2Proof Sys2Proof.Machine Sys2Proof.Laws

namespace Sys2Proof.RegWrites
variable {s : State}

/-- The families whose registers have no effect of their own beside being stored. -/
def plainFams : List Fam := [.edge, .plat, .mscl, .book, .windows, .switch, .hsr, .capture, .slot]

theorem wi_of_plain : ∀ fam ∈ plainFams, ∀ r ∈ rowsOf fam, r.wn = 1 → r.wi = 0 := by decide

theorem mem_rowsOf_of_rowAt {p off : Nat} {run : PageRun} {r : RegRow} (hrun : runOf p = some run) (hoff : 0x40 ≤ off)
    (hrow : rowAt p off = some r) : r ∈ rowsOf run.fam := by
  simp only [rowAt, hrun, if_neg (Nat.not_lt.mpr hoff)] at hrow
  exact List.mem_of_find?_eq_some hrow

theorem lt_of_runOf {p : Nat} {run : PageRun} (h : runOf p = some run) : p < 0x1000 := by
  have hin := List.find?_some h
  simp only [Bool.and_eq_true, decide_eq_true_eq] at hin
  exact lt_of_mem_allPages (mem_allPages_iff.mpr ⟨run, List.mem_of_find?_eq_some h, hin⟩)

/-- What a write of a whole register of one word leaves there (R8, R9). -/
def stored (s : State) (p off : Nat) (r : RegRow) (data : Word) : Word :=
  ((s.rd p off &&& ~~~s.writable p r) ||| (data &&& s.writable p r)) &&& ~~~(w32 r.w1c &&& data &&& ~~~s.setNow p off)

theorem storeReg_oneWord {p off : Nat} {r : RegRow} (data : Word) (hwn : r.wn = 1) (hwi : r.wi = 0) :
    s.storeReg p off r 0xFFFFFFFF data = s.wr p off (stored s p off r data) := by
  simp [State.storeReg, stored, hwn, hwi, and_wordOnes]

/-- A write of a register of a plain page is its store. -/
theorem writeEff_plain {run : PageRun} (p : Nat) {off : Nat} (r : RegRow) (data : Word) (src : Source)
    (hfam : run.fam ∈ plainFams) (hoff : 0x40 ≤ off) :
    s.writeEff run p off r 0xFFFFFFFF data src = s.storeReg p off r 0xFFFFFFFF data := by
  have hctl : off ≠ 0x04 := by omega
  have hforce : off ≠ 0x14 := by omega
  have hhdr : ¬off < 0x40 := by omega
  simp only [plainFams, List.mem_cons, List.not_mem_nil, or_false] at hfam
  rcases hfam with h | h | h | h | h | h | h | h | h <;>
    simp [State.writeEff, hctl, hforce, hhdr, h, State.effGuard]

/-- A write leaves every other register. -/
theorem tabGet_wr_ne (p off : Nat) (v : Word) {k : Nat} (h : k ≠ regKey p off) :
    tabGet regDefault (s.wr p off v).regs k = tabGet regDefault s.regs k :=
  tabGet_tabPut_ne _ _ v h

theorem rd_wr_same (p off : Nat) (v : Word) : (s.wr p off v).rd p off = v :=
  tabGet_tabPut_same _ _ _ v

theorem rd_rhGo (p off : Nat) : s.rhGo.rd p off = s.rd p off := by simp only [State.rd, State.rhGo_regs]

/-- The write of a plain register that its page accepts. -/
theorem registerWrite_plain {clk page off : Nat} {data : Word} {src : Source} {r : RegRow} {run : PageRun}
    (hrun : runOf page = some run) (hfam : run.fam ∈ plainFams) (hoff : 0x40 ≤ off) (hrow : rowAt page off = some r)
    (hwn : r.wn = 1) (hacc : ((s.advance clk).pageNow run.fam page).accepts page = true)
    (hheld : s.bar0Held page src = false) (hb : s.bridge.blocked = []) :
    let u := (s.advance clk).pageNow run.fam page
    execRegisterWrite clk page off data src s = .next (u.wr page off (stored u page off r data)).rhGo := by
  intro u
  have hheld' : (s.advance clk).bar0Held page src = false := hheld
  have hblocked : u.bridge.blocked = [] := (State.accessKept_pageNow (s := s.advance clk) run.fam page).blocked.trans hb
  simp only [execRegisterWrite, hheld', Bool.false_eq_true, if_false]
  rw [State.anyWrite_page data src (lt_of_runOf hrun), State.busWrite_row _ _ _ _ hrun hrow, State.regWrite_accepts hacc,
    show (s.advance clk).pageNow run.fam page = u from rfl, writeEff_plain page r data src hfam hoff,
    storeReg_oneWord data hwn (wi_of_plain _ hfam r (mem_rowsOf_of_rowAt hrun hoff hrow) hwn),
    State.classGo_of_unblocked (s := u.wr page off _) hblocked]

/-- The access through BAR0 that stands for a write of the host that waits. -/
def bar0Write (page off : Nat) (data : Word) : HostReq :=
  ⟨0x1000000 + 4096 * page + off, 4, 0, false, (leBytes 4 data.toNat).map some, 0, true⟩

@[simp] theorem rhGo_blocked : s.rhGo.bridge.blocked = s.bridge.blocked := by unfold State.rhGo; split <;> rfl

/-- While the bridge is held an access of the host joins those that wait, and what waits in class RH goes on (R392). -/
theorem hostIn_held {r : HostReq} (hon : s.coreOn = true) (hlink : s.bridge.linkUp = true) (hroom : s.hrRoom r = true)
    (hheld : s.held pBRIDGE = true) (hbar : r.bar0 = true) :
    s.hostIn r = State.rhGo { s with bridge := { s.bridge with blocked := s.bridge.blocked ++ [{ r with win := 0 }] } } := by
  have hwait : s.mustWait { r with win := 0 } = true := by simp [State.mustWait, hheld]
  have hgo : s.hostGo { r with win := 0 } =
      { s with bridge := { s.bridge with blocked := s.bridge.blocked ++ [{ r with win := 0 }] } } := if_pos hwait
  rw [State.hostIn, if_pos (by simp [hon, hlink, hroom]), State.hostArrive, if_pos hbar, hgo]
  exact if_pos (Bool.or_eq_true_iff.mpr (.inl hheld))

theorem registerWrite_held {clk page off : Nat} {data : Word} {src : Source} (hheld : s.bar0Held page src = true)
    (hlink : s.bridge.linkUp = true) (hroom : (s.bridge.blocked.filter (fun x : HostReq => !x.isRead)).length < 64)
    (hpage : page < 4096) (hoff : off < 4096) :
    ∃ t, execRegisterWrite clk page off data src s = .next t ∧
      t.bridge.blocked = s.bridge.blocked ++ [bar0Write page off data] ∧ t.regs = s.regs ∧ t.mem = s.mem := by
  have hheld' : (s.advance clk).bar0Held page src = true := hheld
  simp only [State.bar0Held, Bool.and_eq_true] at hheld
  obtain ⟨⟨⟨hon, hhold⟩, -⟩, -⟩ := hheld
  have hreq : ({ hostReqAt (2 ^ 32 + 0x1000000 + 4096 * page + off) 4 0 false ((leBytes 4 data.toNat).map some)
      with bar0 := true } : HostReq) = bar0Write page off data := by
    have hfar : ¬2 ^ 32 + 0x1000000 + 4096 * page + off < 2 ^ 32 := by omega
    have hat : (2 ^ 32 + 0x1000000 + 4096 * page + off - 2 ^ 32) % 2 ^ 26 = 0x1000000 + 4096 * page + off := by omega
    simp only [hostReqAt, bar0Write, if_neg hfar, hat]
  have hin := hostIn_held (s := s.advance clk) (r := bar0Write page off data) hon hlink
    (Bool.or_eq_true_iff.mpr (.inr (decide_eq_true hroom))) hhold rfl
  refine ⟨_, rfl, ?_⟩
  rw [if_pos hheld', hreq, hin]
  simp only [rhGo_blocked, State.rhGo_regs, State.rhGo_mem]
  exact ⟨rfl, rfl, rfl⟩

/-- An address error that is captured shows itself in SYS and leaves every register of the other pages (R34, R35). -/
theorem rd_aerrCapture_ne {addr code q : Nat} (hq : 0 < q) (o : Nat) : (s.aerrCapture addr code).rd q o = s.rd q o := by
  have hsys : (frameScope [] (fun p => decide (p = pSYS)) []).page pSYS := frameScope_page_of_named rfl
  have hk : Kept (frameScope [] (fun p => decide (p = pSYS)) []) s (s.aerrCapture addr code) :=
    aerrCapture_kept (.refl _ s) hsys.fld hsys.fld hsys.fld hsys.fld
  have hpage := regKey_page q o
  exact hk.reg _ (by simp [frameScope, pSYS]; omega)

theorem rd_event_ne (p b : Nat) {q o : Nat} (hb : b < 32) (h : p ≠ q) : (s.event p b).rd q o = s.rd q o :=
  State.tabGet_event_ne s hb fun hk => h (regKey_inj hk).1.symm

/-- A write of a command of the event registers is the effect of the write (R49). -/
theorem pageWrite_reached {page off : Nat} {run : PageRun} {r : RegRow} (data : Word) (src : Source)
    (hrun : runOf page = some run) (hrow : rowAt page off = some r) (hev : off = 0x0C ∨ off = 0x10)
    (hreach : (s.pageNow run.fam page).reaches page = true) :
    s.busWrite page off 0xFFFFFFFF data src =
      (s.pageNow run.fam page).writeEff run page off r 0xFFFFFFFF data src := by
  have hopen : ((s.pageNow run.fam page).flag page F.HDR.PCTL.LOCK && off != 0x0C && off != 0x10) = false := by
    rcases hev with rfl | rfl <;> simp
  rw [State.busWrite_row _ _ _ _ hrun hrow, State.regWrite_of_reaches hreach, hopen, if_neg Bool.false_ne_true]

/-- The register that forces events, of every page (R49). -/
theorem rowAt_force {p : Nat} {run : PageRun} (h : runOf p = some run) : ∃ r, rowAt p 0x14 = some r := by
  simp only [rowAt, h]
  exact ⟨_, rfl⟩

/-- A write of the force register sets the events written as 1 that the page has (R49). -/
theorem writeEff_force (run : PageRun) (p : Nat) (r : RegRow) (data : Word) (src : Source) :
    s.writeEff run p 0x14 r 0xFFFFFFFF data src =
      (s.markSet p 0x0C (data &&& evMask run.fam)).wr p 0x0C (s.rd p 0x0C ||| (data &&& evMask run.fam)) := by
  simp [State.writeEff, and_wordOnes]

@[simp] theorem markSet_regs (p off : Nat) (m : Word) : (s.markSet p off m).regs = s.regs := by
  unfold State.markSet; split <;> rfl

/-- Settles O38: the store of a plain register, the write of the host that waits, the unassigned offset, and the event registers. -/
theorem registerWrites : Obligations.RegisterWrites := by
  refine ⟨fun clk page off data src r fam u s hfam hplain hoff hrow hwn hu hacc hfree => ?_,
    fun clk page off data src s hheld hlink hroom hat => ?_, fun clk page off data src run s hfree hon hat hrun hrow hvalid => ?_,
    fun clk page data fam u s hpage hfam hu hreach => ?_, fun clk page data fam u s hpage hfam hu hacc => ?_,
    fun clk page data fam u s hpage hfam hu hreach => ?_⟩
  · obtain ⟨hheld, hblocked⟩ := hfree
    obtain ⟨run, hrun, rfl⟩ := runOf_of_famOf hfam
    have hmem : run.fam ∈ plainFams := by simpa [hfam, plainFams] using hplain
    subst hu
    refine ⟨_, registerWrite_plain hrun hmem hoff.1 hrow hwn hacc hheld hblocked, ?_, fun k hk => ?_⟩
    · rw [rd_rhGo, rd_wr_same, stored]
    · rw [State.rhGo_regs, tabGet_wr_ne page off _ hk]
  · exact registerWrite_held hheld hlink hroom hat.1 hat.2
  · obtain ⟨hheld, hblocked⟩ := hfree
    have hfreeAerr : (s.advance clk).get pSYS F.SYS.AERR_HI.VALID = 0 := by simpa [State.flag] using hvalid
    refine ⟨_, execRegisterWrite_unassigned hon hat.1 (.inr hrow) hheld hblocked, ?_⟩
    simp only [State.addressError_of_free hfreeAerr, State.get_rhGo, rd_rhGo]
    refine ⟨State.get_aerrCapture_valid _ _ _, ?_, ?_, fun q hq _ o => ?_⟩
    · rw [State.get_aerrCapture_source]
      exact Nat.mod_eq_of_lt (srcCode_lt src)
    · rw [State.get_aerrCapture_addrErr, State.get_event_same _ (by decide)]
    · rw [rd_aerrCapture_ne hq, rd_event_ne pSYS 8 (by decide) (by unfold pSYS; omega)]
      rfl
  · obtain ⟨run, hrun, rfl⟩ := runOf_of_famOf hfam
    subst hu
    refine ⟨_, rfl, ?_⟩
    rw [pageWrite_reached data .host hrun (rowAt_pevt hrun) (.inl rfl) hreach, State.writeEff_pevt]
    exact ⟨rd_wr_same _ _ _, fun k hk => tabGet_wr_ne page 0x0C _ hk⟩
  · obtain ⟨run, hrun, rfl⟩ := runOf_of_famOf hfam
    obtain ⟨r, hrow⟩ := rowAt_force hrun
    subst hu
    refine ⟨_, rfl, ?_⟩
    rw [State.busWrite_row _ _ _ _ hrun hrow, State.regWrite_accepts hacc, writeEff_force]
    refine ⟨rd_wr_same _ _ _, fun k hk => ?_⟩
    rw [tabGet_wr_ne page 0x0C _ hk, markSet_regs]
  · obtain ⟨run, hrun, rfl⟩ := runOf_of_famOf hfam
    subst hu
    refine ⟨_, rfl, ?_⟩
    rw [pageWrite_reached data .host hrun (rowAt_pevm hrun) (.inr rfl) hreach, State.writeEff_pevm]
    exact ⟨rd_wr_same _ _ _, fun k hk => tabGet_wr_ne page 0x10 _ hk⟩

end Sys2Proof.RegWrites
end

section
/-!
PROOFS. O28: the FIFOs of an engine, its jump and its snapshot, and the swap, the release and the flags of a crew (R197, R208,
R212, R213, R217, R218).
-/

open Sys2Proof Sys2Proof.Machine Sys2Proof.Laws

namespace Sys2Proof.EnginePort
variable {s : State}

@[simp] theorem eng_setEng (e : Nat) (v : EngSt) : (s.setEng e v).eng e = v := tabGet_tabPut_same _ _ _ v

@[simp] theorem crew_setCrew (c : Nat) (v : CrewSt) : (s.setCrew c v).crew c = v := tabGet_tabPut_same _ _ _ v

theorem get_setEng (e : Nat) (v : EngSt) (p : Nat) (f : Fld) : (s.setEng e v).get p f = s.get p f :=
  State.get_congr (State.setEng_regs _ _ _) p f

theorem get_setCrew (c : Nat) (v : CrewSt) (p : Nat) (f : Fld) : (s.setCrew c v).get p f = s.get p f :=
  State.get_congr (State.setCrew_regs _ _ _) p f

/-! The transmit FIFO (R197). -/

/-- With no word on its way the transmit FIFO stays. -/
theorem txSettle_of_empty {e : Nat} (k : Nat) (h : (s.eng e).txIn = []) :
    s.txSettle e k = s.setEng e { s.eng e with txIn := [] } := by
  rw [State.txSettle, h, State.txEnter]

/-- A word written to a running engine is on its way to the FIFO. -/
theorem txfWrite_running {e : Nat} (d : Word) (hrun : s.running (pENG e) = true) (hin : (s.eng e).txIn = []) :
    ((s.txfWrite e d).eng e).txIn = [(s.tickAt (s.now + 30), d.toNat)] ∧
      ((s.txfWrite e d).eng e).txf = (s.eng e).txf ∧ (s.txfWrite e d).regs = s.regs := by
  simp only [State.txfWrite, hrun, if_true, txSettle_of_empty _ hin, eng_setEng, List.nil_append, State.setEng_regs, and_self]

theorem txDepth_setEng (e : Nat) (v : EngSt) : (s.setEng e v).txDepth e = s.txDepth e := rfl

/-- Words that have all arrived in a FIFO with room are in it. -/
theorem txEnter_one {e k w : Nat} (hroom : (s.eng e).txf.length < s.txDepth e) :
    ((s.txEnter e k [(k, w)]).eng e).txf = (s.eng e).txf ++ [w] ∧ ((s.txEnter e k [(k, w)]).eng e).txIn = [] ∧
      (s.txEnter e k [(k, w)]).regs = s.regs := by
  simp only [State.txEnter, if_neg (lt_irrefl k), if_pos hroom, eng_setEng, State.setEng_regs, and_self]

/-- A word written to an engine that does not run enters the FIFO where there is room. -/
theorem txfWrite_stopped {e : Nat} (d : Word) (hrun : s.running (pENG e) = false) (hin : (s.eng e).txIn = [])
    (hroom : (s.eng e).txf.length < s.txDepth e) :
    ((s.txfWrite e d).eng e).txf = (s.eng e).txf ++ [d.toNat] ∧ ((s.txfWrite e d).eng e).txIn = [] ∧
      (s.txfWrite e d).regs = s.regs := by
  simp only [State.txfWrite, hrun, Bool.false_eq_true, if_false, txSettle_of_empty _ hin, eng_setEng, List.nil_append]
  rw [State.txSettle, eng_setEng]
  have hone := txEnter_one (s := (s.setEng e { s.eng e with txIn := [] }).setEng e
    { s.eng e with txIn := [(s.tickAt (s.now + 30), d.toNat)] }) (e := e) (k := s.tickAt (s.now + 30)) (w := d.toNat)
    (by rw [eng_setEng]; exact hroom)
  rwa [eng_setEng] at hone

/-- A read of RXF takes the head of the receive FIFO, and reads 0 where it is empty. -/
theorem rxfPop_shows (e : Nat) :
    ((s.rxfPop e).eng e).rxf = (s.eng e).rxf.tail ∧ (s.rxfPop e).result = some (w32 ((s.eng e).rxf.headD 0)) ∧
      (s.rxfPop e).regs = s.regs := by
  unfold State.rxfPop
  split
  next hempty =>
    rw [hempty]
    exact ⟨hempty, rfl, rfl⟩
  next v rest hcons =>
    rw [hcons]
    exact ⟨congrArg EngSt.rxf (eng_setEng (s := s) e _), rfl, rfl⟩

/-! The swap of a crew (R208). -/

theorem claimMask_advance (clk e : Nat) : (s.advance clk).claimMask e = s.claimMask e := by
  simp only [State.claimMask, State.claimed, State.get_advance]

/-- The first running engine of a crew that does not own what it claims. -/
def unowned (s : State) (c : Nat) : Option Nat :=
  (s.runEngs c).find? (fun k => s.get (pCREW c) (F.CREW.IDLE_OWN.MASK.at (4 * k)) != s.claimMask (4 * c + k))

theorem unowned_advance (clk c : Nat) : unowned (s.advance clk) c = unowned s c := by
  simp only [unowned, claimMask_advance, State.get_advance, State.runEngs, State.running, State.flag]

theorem find_none_of_owned {c : Nat} (h : ∀ k, k < 4 → s.running (pENG (4 * c + k)) = true →
    s.get (pCREW c) (F.CREW.IDLE_OWN.MASK.at (4 * k)) = s.claimMask (4 * c + k)) : unowned s c = none := by
  refine List.find?_eq_none.mpr fun k hk => ?_
  obtain ⟨hlt, hrun⟩ := List.mem_filter.mp hk
  simpa using h k (List.mem_range.mp hlt) hrun

/-- A swap begins: the crew is busy, and which bank runs stays. -/
theorem swapGo_begins {c : Nat} (hgo : s.flag (pCREW c) F.CREW.SWAP.GO = false)
    (hown : unowned s c = none) (hrun : s.runEngs c ≠ []) :
    (s.swapGo c).get (pCREW c) F.CREW.SWAP.GO = 1 ∧ (s.swapGo c).get (pCREW c) F.CREW.STS.BUSY = 1 ∧
      (s.swapGo c).get (pCREW c) F.CREW.STS.MOVED = 0 ∧ ((s.swapGo c).crew c).swapFrom = s.raw + 30 ∧
      (s.swapGo c).get (pCREW c) F.CREW.STS.ACTIVE = s.get (pCREW c) F.CREW.STS.ACTIVE := by
  rw [unowned] at hown
  simp only [State.swapGo, hgo, Bool.false_eq_true, if_false, hown, if_neg hrun, get_setCrew, crew_setCrew]
  simp (disch := decide) only [State.get_set_beside, State.get_set_same]
  refine ⟨rfl, rfl, Nat.zero_mod _, ?_, trivial⟩
  simp only [State.raw, State.set_clock, State.set_datum]

/-- A swap of a crew of which no engine runs ends at once. -/
theorem swapGo_idle {c : Nat} (hgo : s.flag (pCREW c) F.CREW.SWAP.GO = false) (hrun : s.runEngs c = []) :
    (s.swapGo c).get (pCREW c) F.CREW.STS.ACTIVE = 1 - s.get (pCREW c) F.CREW.STS.ACTIVE ∧
      (s.swapGo c).get (pCREW c) F.CREW.SWAPCNT.COUNT =
        (s.get (pCREW c) F.CREW.SWAPCNT.COUNT + 1) % 2 ^ F.CREW.SWAPCNT.COUNT.w ∧
      (s.swapGo c).get (pCREW c) ⟨0x0C, 16, 1⟩ = 1 := by
  have hgoes : s.swapGo c = (s.set (pCREW c) F.CREW.STS.MOVED 0).swapFinish c := by
    simp only [State.swapGo, hgo, Bool.false_eq_true, if_false, hrun, List.find?_nil, if_true]
  have hactive : 1 - s.get (pCREW c) F.CREW.STS.ACTIVE < 2 ^ F.CREW.STS.ACTIVE.w := Nat.lt_succ_of_le (Nat.sub_le 1 _)
  rw [hgoes, State.swapFinish]
  refine ⟨?_, ?_, State.get_event_same _ (by decide)⟩
  · simp (disch := decide) only [State.event_get, State.bump_set, State.get_set_beside, State.get_set_same]
    exact Nat.mod_eq_of_lt hactive
  · simp (disch := decide) only [State.event_get, State.bump_set, State.get_set_beside, State.get_set_same]

/-- A swap is refused while a running engine does not own what it claims. -/
theorem swapGo_refused {c k : Nat} (hgo : s.flag (pCREW c) F.CREW.SWAP.GO = false)
    (hown : unowned s c = some k) :
    s.swapGo c = s.refuse (pCREW c) 0x10 k := by
  rw [unowned] at hown
  simp only [State.swapGo, hgo, Bool.false_eq_true, if_false, hown]

/-! The release of an engine (R213). -/

theorem goEng_one {k : Nat} (c : Nat) (hk : k < 4) : s.goEng c (2 ^ k) = s.engUnhold (4 * c + k) := by
  have honly : ∀ k < 4, (List.range 4).filter (fun i => natBit (2 ^ k) i) = [k] := by decide
  rw [State.goEng, honly k hk]
  rfl

/-- A held engine is released, and stands where it stood. -/
theorem engUnhold_held {e : Nat} (hheld : s.flag (pENG e) F.HDR.PSTS.HELD = true)
    (hcrew : s.flag (pCREW (e / 4)) F.HDR.PCTL.HOLD = false) :
    (s.engUnhold e).get (pENG e) F.HDR.PCTL.HOLD = 0 ∧ (s.engUnhold e).get (pENG e) F.HDR.PSTS.HELD = 0 ∧
      ((s.engUnhold e).eng e).pc = (s.eng e).pc := by
  have hpages : pENG e ≠ pCREW (e / 4) := by unfold pENG pCREW; omega
  have hstill : (s.set (pENG e) F.HDR.PCTL.HOLD 0).held (pENG e) = true := by
    simp (disch := decide) only [State.held, State.flag, State.get_set_beside]
    exact Bool.or_eq_true_iff.mpr (.inl hheld)
  have hfree : (s.set (pENG e) F.HDR.PCTL.HOLD 0).flag (pCREW (e / 4)) F.HDR.PCTL.HOLD = false := by
    rw [State.flag, State.get_set_apart _ _ _ _ _ _ (by simp [Fld.apart, hpages]) (by decide) (by decide)]
    exact hcrew
  simp only [State.engUnhold, hstill, hfree, Bool.not_true, Bool.or_self, Bool.false_eq_true, if_false, get_setEng, eng_setEng]
  simp (disch := decide) only [State.get_set_beside, State.get_set_same]
  exact ⟨rfl, rfl, rfl⟩

/-! The flags of a crew (R212). -/

/-- The changes of the flags, newest first. -/
def newestFirst (q : List (Nat × Nat × Nat)) : Prop := q.Pairwise (fun a b => b.1 < a.1)

theorem flagsAt_lt {k v : Nat} {q : List (Nat × Nat × Nat)} (hv : v < 256) (hq : ∀ a ∈ q, a.2.1 < 256) : flagsAt k v q < 256 := by
  induction q with
  | nil => exact hv
  | cons a q ih =>
    have hrest := ih fun b hb => hq b (List.mem_cons_of_mem _ hb)
    rw [flagsAt]
    split
    · exact Nat.or_lt_two_pow (n := 8) (Nat.and_le_left.trans_lt hrest) (hq a List.mem_cons_self)
    · exact hrest

/-- Changes that have not come yet count for nothing. -/
theorem flagsAt_of_later {k v : Nat} {q : List (Nat × Nat × Nat)} (h : ∀ a ∈ q, k ≤ a.1) : flagsAt k v q = v := by
  induction q with
  | nil => rfl
  | cons a q ih =>
    rw [flagsAt, if_neg (Nat.not_lt.mpr (h a List.mem_cons_self))]
    exact ih fun b hb => h b (List.mem_cons_of_mem _ hb)

/-- Behind all changes the flags are the same at every tick. -/
theorem flagsAt_settled {cut k v : Nat} {q : List (Nat × Nat × Nat)} (hcut : cut ≤ k) (h : ∀ a ∈ q, a.1 < cut) :
    flagsAt cut v q = flagsAt k v q := by
  induction q with
  | nil => rfl
  | cons a q ih =>
    have hold := h a List.mem_cons_self
    rw [flagsAt, flagsAt, if_pos hold, if_pos (by omega), ih fun b hb => h b (List.mem_cons_of_mem _ hb)]

/-- Changes before a tick that lies behind have become part of the flags. -/
theorem flagsAt_cut {cut k v : Nat} {q : List (Nat × Nat × Nat)} (hcut : cut ≤ k) (hq : newestFirst q) :
    flagsAt k (flagsAt cut v q) (q.filter (fun x => decide (cut ≤ x.1))) = flagsAt k v q := by
  induction q with
  | nil => rfl
  | cons a q ih =>
    obtain ⟨hhead, htail⟩ := List.pairwise_cons.mp hq
    by_cases hkeep : cut ≤ a.1
    · have hrest : flagsAt cut v (a :: q) = flagsAt cut v q := by rw [flagsAt, if_neg (Nat.not_lt.mpr hkeep)]
      rw [List.filter_cons_of_pos (by simpa using hkeep), hrest, flagsAt, flagsAt, ih htail]
    · have hold : ∀ b ∈ a :: q, b.1 < cut := by
        intro b hb
        rcases List.mem_cons.mp hb with rfl | hb
        · omega
        · have := hhead b hb
          omega
      rw [List.filter_eq_nil_iff.mpr fun b hb => by simpa using hold b hb, flagsAt, flagsAt_settled hcut hold]

/-- A change that sets flags counts from the tick after its own. -/
theorem flagsAt_flagIns_next {k v up : Nat} {q : List (Nat × Nat × Nat)} (hv : v < 256) (hq : ∀ a ∈ q, a.2.1 < 256) :
    flagsAt (k + 1) v (flagIns k up 0 q) = flagsAt (k + 1) v q ||| up := by
  have hall {x : Nat} (h : x < 256) : x &&& (255 ^^^ 0) = x := by
    rw [Nat.xor_zero, show (255 : Nat) = 2 ^ 8 - 1 from rfl, Nat.and_two_pow_sub_one_eq_mod, Nat.mod_eq_of_lt h]
  induction q with
  | nil => simp only [flagIns, flagsAt, if_pos (Nat.lt_succ_self k), hall hv]
  | cons a q ih =>
    have hrest : ∀ b ∈ q, b.2.1 < 256 := fun b hb => hq b (List.mem_cons_of_mem _ hb)
    obtain ⟨x, u, d⟩ := a
    rw [flagIns]
    split_ifs with hlt heq
    · rw [flagsAt, if_pos (Nat.lt_succ_self k), hall (flagsAt_lt hv hq)]
    · rw [flagsAt, flagsAt, if_pos (by omega), if_pos (by omega), Nat.or_zero, Nat.or_assoc]
    · rw [flagsAt, flagsAt, if_neg (by omega), if_neg (by omega), ih hrest]

/-- A change leaves the flags that its own tick finds. -/
theorem flagsAt_flagIns_same (k v up down : Nat) (q : List (Nat × Nat × Nat)) :
    flagsAt k v (flagIns k up down q) = flagsAt k v q := by
  induction q with
  | nil => simp [flagIns, flagsAt]
  | cons a q ih =>
    obtain ⟨x, u, d⟩ := a
    rw [flagIns]
    split_ifs with hlt heq
    · rw [flagsAt, if_neg (lt_irrefl k)]
    · rw [flagsAt, flagsAt, if_neg (by omega), if_neg (by omega)]
    · rw [flagsAt, flagsAt, if_neg (by omega), if_neg (by omega), ih]

/-- A change joins on its own tick and leaves the ticks of the others. -/
theorem tick_of_mem_flagIns {k up down : Nat} {q : List (Nat × Nat × Nat)} {b : Nat × Nat × Nat} (h : b ∈ flagIns k up down q) :
    b.1 = k ∨ b ∈ q := by
  induction q with
  | nil => exact .inl (by simpa [flagIns] using congrArg Prod.fst (List.mem_singleton.mp h))
  | cons a q ih =>
    obtain ⟨x, u, d⟩ := a
    rw [flagIns] at h
    split_ifs at h with hlt heq
    · rcases List.mem_cons.mp h with rfl | h
      · exact .inl rfl
      · exact .inr h
    · rcases List.mem_cons.mp h with rfl | h
      · exact .inl heq
      · exact .inr (List.mem_cons_of_mem _ h)
    · rcases List.mem_cons.mp h with rfl | h
      · exact .inr List.mem_cons_self
      · exact (ih h).imp_right (List.mem_cons_of_mem _)

theorem newestFirst_flagIns {q : List (Nat × Nat × Nat)} (k up down : Nat) (h : newestFirst q) :
    newestFirst (flagIns k up down q) := by
  induction q with
  | nil => exact List.pairwise_singleton _ _
  | cons a q ih =>
    obtain ⟨hhead, htail⟩ := List.pairwise_cons.mp h
    obtain ⟨x, u, d⟩ := a
    rw [flagIns]
    split_ifs with hlt heq
    · refine List.pairwise_cons.mpr ⟨fun b hb => ?_, h⟩
      rcases List.mem_cons.mp hb with rfl | hb
      · exact hlt
      · exact (hhead b hb).trans hlt
    · exact List.pairwise_cons.mpr ⟨hhead, htail⟩
    · refine List.pairwise_cons.mpr ⟨fun b hb => ?_, ih htail⟩
      rcases tick_of_mem_flagIns hb with hk | hb
      · show b.1 < x
        omega
      · exact hhead b hb

/-- No step looks back beyond now. -/
theorem histCut_le : s.histCut ≤ s.raw := by
  have hfold : ∀ (l : List (Nat × EngSt)) (m : Nat), m ≤ s.raw →
      l.foldl (fun m e => if s.running (pENG e.1) then min m (8 * e.2.prev) else m) m ≤ s.raw := by
    intro l m hm
    refine List.foldlRecOn (motive := fun m => m ≤ s.raw) l _ hm fun m hm a _ => ?_
    split
    · exact (Nat.min_le_left _ _).trans hm
    · exact hm
  exact (Nat.sub_le _ _).trans (hfold _ _ (Nat.sub_le _ _))

/-- Flags that firmware sets count from the tick after the one on which they arrive. -/
theorem flagSet_shows {c m : Nat} (hflags : (s.crew c).flags < 256) (horder : newestFirst (s.crew c).flagQ)
    (hups : ∀ a ∈ (s.crew c).flagQ, a.2.1 < 256) :
    let k := ceilDiv (s.raw + 30) 8
    (s.flagSet c m).flagsTick c (k + 1) = s.flagsTick c (k + 1) ||| m % 256 ∧
      (s.flagSet c m).flagsTick c k = s.flagsTick c k ∧ (s.flagSet c m).regs = s.regs := by
  intro k
  have hcut : s.histCut / 8 ≤ k := by
    have hle := histCut_le (s := s)
    simp only [k, ceilDiv]
    omega
  have hsorted := newestFirst_flagIns k (m % 256) (0 % 256) horder
  simp only [State.flagSet, State.setFlags, State.putFlags, State.flagsTick, crew_setCrew, State.setCrew_regs, and_true]
  exact ⟨(flagsAt_cut (by omega) hsorted).trans (flagsAt_flagIns_next hflags hups),
    (flagsAt_cut hcut hsorted).trans (flagsAt_flagIns_same _ _ _ _ _)⟩

/-- Settles O28: FIFOs, jump and snapshot of an engine; swap, release and flags of a crew. -/
theorem engineRegistersAndCrews : Obligations.EngineRegistersAndCrews := by
  refine ⟨fun clk eng data s heng hacc hrun hin => ?_, fun clk eng data s heng hacc hrun hroom => ?_,
    fun clk eng s heng hon => ?_, fun clk eng word s hin hacc hheld => ?_, fun clk eng s heng hacc hwait => ?_,
    fun clk crew s hcrew hacc hgo hown hrun => ?_, fun clk crew s hcrew hacc hgo hrun => ?_,
    fun clk crew k s hcrew hacc hgo hfind => ?_, fun clk crew k s hin hacc hheld => ?_,
    fun clk crew mask s hcrew hacc hflags hups => ?_⟩
  · refine ⟨_, rfl, ?_⟩
    rw [if_pos heng, State.regWrite_accepts hacc]
    exact txfWrite_running (s := s.advance clk) data hrun hin
  · refine ⟨_, rfl, ?_⟩
    rw [if_pos heng, State.regWrite_accepts hacc]
    exact txfWrite_stopped (s := s.advance clk) data hrun hroom.1 hroom.2
  · refine ⟨_, rfl, ?_⟩
    rw [if_pos heng, State.whenOn_on (s := s.advance clk) hon]
    exact rxfPop_shows (s := s.advance clk) eng
  · refine ⟨_, rfl, ?_⟩
    have hboth : ((s.advance clk).running (pENG eng) && (s.advance clk).held (pENG eng)) = true :=
      Bool.and_eq_true_iff.mpr hheld
    rw [if_pos hin.1, State.fldWrite_accepts hacc, State.engJump, if_pos hboth, eng_setEng, Nat.mod_eq_of_lt hin.2]
    exact ⟨rfl, rfl, rfl⟩
  · refine ⟨_, rfl, ?_⟩
    have hwait' : ((s.advance clk).eng eng).wait ≠ .cnt := hwait
    simp only [if_pos heng, State.bitWrite_accepts hacc, State.engSnap, if_neg hwait', eng_setEng]
    exact ⟨rfl, rfl⟩
  · refine ⟨_, rfl, ?_⟩
    rw [if_pos hcrew, State.bitWrite_accepts hacc]
    exact swapGo_begins (s := s.advance clk) hgo
      ((unowned_advance clk crew).trans (find_none_of_owned hown)) hrun
  · refine ⟨_, rfl, ?_⟩
    rw [if_pos hcrew, State.bitWrite_accepts hacc]
    exact swapGo_idle (s := s.advance clk) hgo hrun
  · have hk : k < 4 := List.mem_range.mp (List.mem_filter.mp (List.mem_of_find?_eq_some hfind)).1
    obtain ⟨hrefused, hcode, hindex, -⟩ := (s.advance clk).get_refuse_shown (pCREW crew) (code := 0x10) (index := k) (by decide)
      (by omega)
    refine ⟨_, rfl, ?_⟩
    rw [if_pos hcrew, State.bitWrite_accepts hacc, swapGo_refused (s := s.advance clk) hgo
      ((unowned_advance clk crew).trans hfind)]
    refine ⟨hrefused, hcode, hindex.trans (by omega), ?_, ?_⟩
    · rw [State.get_refuse_beside _ _ _ _ (by decide) (by decide) (by decide) (by decide) (by decide)]
      simpa [State.flag] using hgo
    · simp [State.refuse]
  · have hcrew : (4 * crew + k) / 4 = crew := by omega
    refine ⟨_, rfl, ?_⟩
    rw [if_pos hin.1, State.fldWrite_accepts hacc, goEng_one crew hin.2]
    exact engUnhold_held (s := s.advance clk) hheld.1 (by rw [hcrew]; exact hheld.2)
  · refine ⟨_, rfl, ?_⟩
    rw [if_pos hcrew, State.fldWrite_accepts hacc]
    exact flagSet_shows (s := s.advance clk) hflags.1 hflags.2 hups

end Sys2Proof.EnginePort
end

section
/-!
PROOFS. O16: the freeze of the own parcel, its release, and the feeds of other gang members (R132, R136, R138, R145).
-/

open Sys2Proof Sys2Proof.Machine Sys2Proof.Laws

namespace Sys2Proof.Laws

variable {s t : State} {fields : List (Nat × List Fld)} {P : Nat → Bool} {parts : List Part}

/-- A change within named registers and pages keeps the fields of the other pages. -/
theorem Kept.get_of_other_page (h : Kept (frameScope fields P parts) s t) {p : Nat} (hp : P p = false)
    (hfields : ∀ x ∈ fields, x.1 ≠ p) (f : Fld) : t.get p f = s.get p f :=
  h.get_eq fun i _ => by
    simp only [frameScope, regKey_page, hp, Bool.false_or, List.any_eq_false, List.any_eq_true, beq_iff_eq, not_exists, not_and]
    intro x hx g _ j _ hkey
    exact hfields x hx (regKey_inj hkey).1.symm

/-- What one scope lets change, a wider one does. -/
theorem Kept.widen {σ τ : Scope} (h : Kept σ s t) (hreg : ∀ k, τ.reg k = false → σ.reg k = false)
    (hpart : ∀ x, τ.part x = false → σ.part x = false) : Kept τ s t :=
  ⟨h.pending, h.clock, h.free, h.canon, h.serial, h.forward, fun k hk => h.reg k (hreg k hk), fun x hx => h.part x (hpart x hx)⟩

end Sys2Proof.Laws

namespace Sys2Proof.Publication
variable {s t u : State}

/-! Bytes in memory. -/

theorem ldb_stBytes_below (l : List Byte) : ∀ (s : State) (a : Nat) {x : Nat}, x < a → (s.stBytes a l).ldb x = s.ldb x := by
  induction l with
  | nil => exact fun _ _ _ _ => rfl
  | cons b l ih =>
    intro s a x hx
    rw [State.stBytes, ih _ _ (by omega), State.ldb_stb, if_neg (by omega)]

/-- Bytes stored one after the other are read one after the other. -/
theorem ldb_stBytes (l : List Byte) : ∀ (s : State) (a : Nat) {i : Nat} (hi : i < l.length), (s.stBytes a l).ldb (a + i) = l[i] := by
  induction l with
  | nil => exact fun _ _ _ hi => absurd hi (Nat.not_lt_zero _)
  | cons b l ih =>
    intro s a i hi
    rw [State.stBytes]
    match i with
    | 0 =>
      have hbelow := ldb_stBytes_below l (s.stb a b) (a + 1) (Nat.lt_succ_self a)
      rw [State.ldb_stb, if_pos rfl] at hbelow
      exact hbelow
    | i + 1 =>
      rw [← Nat.add_assoc, Nat.add_right_comm]
      exact ih _ _ (Nat.lt_of_succ_lt_succ hi)

/-! What the sampling of the feeds may change (R136). -/

/-- The registers that a feed's reads and the counts of the freeze may change, beside those of whole pages. -/
def sampleFields : List (Nat × List Fld) :=
  [(pSYS, [F.SYS.AERR_LO.ADDR_LO, F.SYS.AERR_HI.ADDR_HI, F.SYS.AERR_HI.SOURCE, F.SYS.AERR_HI.VALID, ⟨0x0C, 8, 1⟩]),
    (pPLAT, [F.PLAT.SLOTMISS.COUNT, F.PLAT.VIEWDROP.COUNT, F.PLAT.INCOMPLETE.COUNT, ⟨0x0C, 11, 1⟩, ⟨0x0C, 12, 1⟩])]

/-- The pages of the stamps, the capture, the CAN controllers and the ports. -/
def samplePages (p : Nat) : Bool := p == pSTAMP || p == pCAPTURE || decide (0x70 ≤ p ∧ p < 0x97)

def sampleParts : List Part := [.ports, .mscl, .sw, .mem, .gang, .stamps, .engs, .edges, .pins, .cans]

/-- What the sampling may change beside the state of the plat. -/
abbrev besidePlat : Scope := frameScope sampleFields samplePages sampleParts

/-- The same with the state of the plat. -/
abbrev withPlat : Scope := frameScope sampleFields samplePages (.plat :: sampleParts)

theorem samplePages_pPORT (n : Nat) : samplePages (pPORT n) = true := by
  have hrange : 0x70 ≤ pPORT n ∧ pPORT n < 0x97 := by unfold pPORT; split <;> omega
  simp [samplePages, hrange]

theorem samplePages_pCAN (n : Nat) : samplePages (pCAN n) = true := by
  have hrange : 0x70 ≤ pCAN n ∧ pCAN n < 0x97 := by unfold pCAN; omega
  simp [samplePages, hrange]

/-- A part of the freeze that leaves which buffer holds each parcel and the staging store, and brings up no own parcel. -/
structure Sampled (s t : State) : Prop where
  kept : Kept withPlat s t
  sel : t.plat.sel = s.plat.sel
  own : s.plat.own = none → t.plat.own = none
  staging : t.plat.staging = s.plat.staging

theorem Sampled.refl (s : State) : Sampled s s := ⟨.refl _ s, rfl, id, rfl⟩

theorem Sampled.trans (h1 : Sampled s t) (h2 : Sampled t u) : Sampled s u :=
  ⟨h1.kept.trans h2.kept, h2.sel.trans h1.sel, fun h => h2.own (h1.own h), h2.staging.trans h1.staging⟩

theorem Sampled.ite {c : Prop} [Decidable c] (h1 : Sampled s t) (h2 : Sampled s u) : Sampled s (if c then t else u) := by
  split <;> assumption

theorem Sampled.of_kept (h : Kept besidePlat s t) : Sampled s t := by
  have hplat : t.plat = s.plat := h.part .plat rfl
  refine ⟨h.widen (fun _ hk => hk) fun x hx => ?_, by rw [hplat], fun h => by rw [hplat, h], by rw [hplat]⟩
  simp only [frameScope, List.contains_cons, Bool.or_eq_false_iff] at hx
  exact hx.2

theorem stampsDue_sampled (s : State) : Sampled s s.stampsDue :=
  .of_kept (stampsDue_kept (.refl _ s) rfl rfl rfl rfl rfl rfl (frameScope_fld_of_names rfl) (frameScope_fld_of_names rfl)
    (frameScope_fld_of_names rfl) (frameScope_fld_of_names rfl) (frameScope_fld_of_names rfl) (frameScope_fld_of_names rfl)
    (frameScope_fld_of_names rfl) (frameScope_fld_of_names rfl) (frameScope_fld_of_names rfl))

theorem stampSent_sampled (s : State) (n : Nat) : Sampled s (s.stampSent n) :=
  .of_kept (stampSent_kept (.refl _ s) rfl rfl rfl rfl rfl rfl (frameScope_fld_of_names rfl) (frameScope_fld_of_names rfl)
    (frameScope_fld_of_names rfl) (frameScope_fld_of_names rfl) (frameScope_fld_of_names rfl) (frameScope_fld_of_names rfl)
    (frameScope_fld_of_names rfl) (frameScope_fld_of_names rfl) (frameScope_fld_of_names rfl))

theorem fld_pPORT (n : Nat) (f : Fld) : besidePlat.fld (pPORT n) f := (frameScope_page (samplePages_pPORT n)).fld

/-- The end of a frame of the own parcel counts down what is left of it and nothing else of the plat. -/
theorem ownFrameLeft_sampled (s : State) (n : Nat) : Sampled s (s.ownFrameLeft n) := ⟨(Kept.refl _ s).plat rfl, rfl, id, rfl⟩

theorem frameSent_sampled (s : State) (n : Nat) (l : Leaving) : Sampled s (s.frameSent n l) := by
  unfold State.frameSent
  extract_lets p s1 here s2 s3
  have hfld := fld_pPORT n
  have k1 : Kept besidePlat s s1 := setPort_kept (.refl _ s) rfl
  have k2 : Kept besidePlat s s2 := sentCount_kept (sentCount_kept k1 (hfld _)) (hfld _)
  have k3 : Kept besidePlat s s3 := .ite (sentCount_kept k2 (hfld _)) k2
  exact .ite ((Sampled.of_kept k3).trans (ownFrameLeft_sampled s3 n)) (.of_kept k3)

theorem settle_sampled (s : State) (n : Nat) : Sampled s (s.settle n) := by
  have h1 := stampSent_sampled s n
  unfold State.settle
  extract_lets s1
  split
  · exact h1
  · exact .ite h1 (h1.trans (frameSent_sampled _ _ _))

theorem linesSent_sampled (s : State) (p : Nat) : Sampled s (s.linesSent p) := by
  unfold State.linesSent
  split
  · exact (stampsDue_sampled s).trans (settle_sampled _ _)
  · exact stampsDue_sampled s
  · exact stampsDue_sampled s
  · exact .refl s

theorem addressError_sampled (s : State) (addr : Nat) (src : Source) : Sampled s (s.addressError addr src) :=
  .of_kept (addressError_kept (.refl _ s) (frameScope_fld_of_names rfl) (frameScope_fld_of_names rfl)
    (frameScope_fld_of_names rfl) (frameScope_fld_of_names rfl) (frameScope_fld_of_names rfl))

theorem feedRead_sampled (s : State) (p off : Nat) : Sampled s (s.feedRead p off).1 := by
  unfold State.feedRead
  split
  · exact addressError_sampled s _ _
  · split
    · exact addressError_sampled s _ _
    · exact (linesSent_sampled s p).trans
        (.of_kept (readReg_kept (.refl _ _) (frameScope_page (samplePages_pCAN _)).fld))

theorem regFeed_sampled : ∀ (n : Nat) (s : State) (a : Nat), Sampled s (s.regFeed a n).1
  | 0, s, _ => .refl s
  | n + 1, s, a => (feedRead_sampled s _ _).trans (regFeed_sampled n _ _)

theorem feedBytes_sampled (s : State) (n : Nat) : Sampled s (s.feedBytes n).1 := by
  unfold State.feedBytes
  extract_lets src len zero
  split
  · split
    · exact regFeed_sampled _ s _
    · exact .refl s
  all_goals exact .refl s

theorem sampleFeeds_sampled : ∀ (l : List Nat) (s : State), Sampled s (s.sampleFeeds l).1
  | [], s => .refl s
  | n :: l, s => (feedBytes_sampled s n).trans (sampleFeeds_sampled l _)

theorem feedsTaken_sampled (s : State) : Sampled s s.feedsTaken :=
  .of_kept (feedsTaken_kept (.refl _ s) rfl rfl rfl rfl)

theorem platDrop_sampled (s : State) {f : Fld} (h : besidePlat.fld pPLAT f) : Sampled s (s.platDrop f) :=
  .of_kept (platDrop_kept (.refl _ s) h (frameScope_fld_of_names rfl))

theorem setRx_sampled (s : State) (k : Nat) (r : ParcelRx) : Sampled s (s.setRx k r) := ⟨(Kept.refl _ s).plat rfl, rfl, id, rfl⟩

theorem ownOver_sampled (s : State) : Sampled s s.ownOver := by
  unfold State.ownOver
  extract_lets r
  exact .ite ((platDrop_sampled s (frameScope_fld_of_names rfl)).trans (setRx_sampled _ _ _))
    (.ite ((platDrop_sampled s (frameScope_fld_of_names rfl)).trans (setRx_sampled _ _ _)) (.refl s))

theorem fillParcel_sampled (s : State) (n : Nat) (feeds : List (Nat × List Byte)) : Sampled s (s.fillParcel n feeds) :=
  .of_kept (fillParcel_kept (.refl _ s) rfl)

/-! What the sampling leaves. -/

theorem Sampled.get_named (h : Sampled s t) {p : Nat} {f : Fld}
    (hwords : ∀ i, i < f.words → withPlat.reg (regKey p (f.off + 4 * i)) = false) : t.get p f = s.get p f :=
  h.kept.get_eq hwords

theorem Sampled.get_page (h : Sampled s t) {p : Nat} (hp : samplePages p = false) (hSYS : p ≠ pSYS) (hPLAT : p ≠ pPLAT)
    (f : Fld) : t.get p f = s.get p f :=
  h.kept.get_of_other_page hp (by
    intro x hx
    simp only [sampleFields, List.mem_cons, List.not_mem_nil, or_false] at hx
    rcases hx with rfl | rfl
    · exact hSYS.symm
    · exact hPLAT.symm) f

theorem Sampled.nid (h : Sampled s t) : t.nid = s.nid := h.get_named (by decide)

theorem Sampled.role (h : Sampled s t) : t.role = s.role := h.get_named (by decide)

theorem Sampled.inGang (h : Sampled s t) : t.inGang = s.inGang := by simp only [State.inGang, h.role]

theorem Sampled.get_cycle (h : Sampled s t) (f : Fld) : t.get pCYCLE f = s.get pCYCLE f :=
  h.get_page (by decide) (by decide) (by decide) f

theorem Sampled.get_gang (h : Sampled s t) (f : Fld) : t.get pGANGCTL f = s.get pGANGCTL f :=
  h.get_page (by decide) (by decide) (by decide) f

theorem Sampled.dupState (h : Sampled s t) : t.dupState = s.dupState := by
  have hdup : t.dup = s.dup := h.kept.part .dup rfl
  have hget : t.get pDUPLEX F.DUPLEX.STS.STATE = s.get pDUPLEX F.DUPLEX.STS.STATE :=
    h.get_page (by decide) (by decide) (by decide) _
  simp only [State.dupState, hdup, hget, h.role, State.isTwin, State.guards, h.get_gang]
  rfl

theorem Sampled.publishes (h : Sampled s t) : t.publishes = s.publishes := by
  have hpwr : t.pwr = s.pwr := h.kept.part .pwr rfl
  have hrun : t.get pPLAT F.HDR.PSTS.RUN = s.get pPLAT F.HDR.PSTS.RUN := h.get_named (by decide)
  have hheld : t.get pPLAT F.HDR.PSTS.HELD = s.get pPLAT F.HDR.PSTS.HELD := h.get_named (by decide)
  have hshed : t.get pTALLY F.TALLY.STS.SHED = s.get pTALLY F.TALLY.STS.SHED :=
    h.get_page (by decide) (by decide) (by decide) _
  simp only [State.publishes, State.publisher, State.onRing, State.fenced, State.isTwin, State.guards, State.running, State.flag,
    State.held, State.shedHeld, State.slotLen, hpwr, hrun, hheld, hshed, h.dupState, h.nid, h.role, h.get_cycle, h.get_gang]
  rfl

/-! The freeze (R136, R138). -/

/-- The freeze drops an own parcel that has not left. -/
def ownDropped (s : State) : State := if s.plat.own.isSome then s.dropOwn.slotMiss 1 else s

theorem slotMiss_plat (k : Nat) : (s.slotMiss k).plat = s.plat := by
  unfold State.slotMiss
  split
  · rfl
  · simp [State.bumpBy]

theorem ownDropped_own (s : State) : (ownDropped s).plat.own = none := by
  unfold ownDropped
  split
  · rw [slotMiss_plat]
    rfl
  next h => simpa using h

theorem ownDropped_sampled (s : State) : Sampled s (ownDropped s) := by
  have hdrop : Sampled s s.dropOwn := ⟨dropOwn_kept (.refl _ s) rfl rfl, rfl, fun _ => rfl, rfl⟩
  exact .ite (hdrop.trans (.of_kept (slotMiss_kept (.refl _ _) (frameScope_fld_of_names rfl) (frameScope_fld_of_names rfl))))
    (.refl s)

theorem Sampled.ownWork (h : Sampled s t) : t.ownWork = s.ownWork := by
  simp only [State.ownWork, State.sel, State.slotOfs, h.sel, h.nid, h.get_cycle]

/-- The output region of a filled parcel is as the staging store has it (R145). -/
theorem ldb_fillParcel (n : Nat) (feeds : List (Nat × List Byte)) {i : Nat} (hi : i < 64 * s.slotOut s.nid) :
    (s.fillParcel n feeds).ldb (s.ownWork + 64 * s.slotLen s.nid - 64 * s.slotOut s.nid + i) =
      s.staged (64 * s.slotOfs s.nid + 64 * s.slotLen s.nid - 64 * s.slotOut s.nid + i) := by
  unfold State.fillParcel
  extract_lets len out base s1 s2
  rw [ldb_stBytes _ s2 _ (by simpa using hi), List.getElem_map, List.getElem_range]

theorem publishes_of_regs (hregs : t.regs = s.regs) (hpwr : t.pwr = s.pwr) (hdup : t.dup = s.dup) :
    t.publishes = s.publishes := by
  have hget (p : Nat) (f : Fld) : t.get p f = s.get p f := State.get_congr hregs p f
  simp only [State.publishes, State.publisher, State.onRing, State.fenced, State.dupState, State.isTwin, State.guards,
    State.running, State.flag, State.held, State.shedHeld, State.slotLen, State.nid, State.role, hpwr, hdup, hget]
  rfl

/-- The freeze has filled the own parcel, with the output region from the staging store, and marked it where this hub publishes. -/
def Frozen (s t : State) : Prop :=
  (∀ i, i < 64 * s.slotOut s.nid →
    t.ldb (s.ownWork + 64 * s.slotLen s.nid - 64 * s.slotOut s.nid + i) =
      s.staged (64 * s.slotOfs s.nid + 64 * s.slotLen s.nid - 64 * s.slotOut s.nid + i)) ∧
    t.plat.own = (if s.publishes then some (cyc32 s.cycle.cyc) else none) ∧ t.plat.gangFeeds = [] ∧
    t.cycle.doneEv = s.cycle.doneEv ++ [0]

/-- The end of a freeze: no feed of another member is left over, and the parcel is marked where this hub publishes. -/
def marked (c : Nat) (s4 : State) : State :=
  let s5 := { s4 with plat := { s4.plat with gangFeeds := [] } }
  if s5.publishes then { s5 with plat := { s5.plat with own := some c } } else s5

/-- The rest of a freeze once the feeds are sampled. -/
def ownFilled (c : Nat) (fs : List (Nat × List Byte)) (s2 : State) : State :=
  let s3 := { s2 with plat := { s2.plat with prevTf := s2.now } }
  let s' := if s3.inGang && !s3.isLead && s3.formed && !s3.fenced && fs != [] then
      s3.sendGang 4 (s3.actingFor 0) (Config.feedPack fs) else s3
  if s'.inGang && !s'.onRing then s' else marked c (s'.ownOver.fillParcel c (s'.plat.gangFeeds ++ fs))

/-- A freeze under way, which samples the feeds and fills the own parcel. -/
def freezeAt (s : State) : State :=
  let s1 := ownDropped s
  let r := s1.sampleFeeds (s1.feeds.filter (fun n => s1.samples (s1.feedMember n)))
  ownFilled (cyc32 s.cycle.cyc) r.2 r.1.feedsTaken

theorem evNow_get (e : Nat) (p : Nat) (f : Fld) : (s.evNow e).get p f = s.get p f := State.get_of_words fun _ _ => rfl

theorem freeze_cases (s0 : State) : s0.freeze =
    if !s0.evOpen 0 then s0
    else
      let s := s0.evNow 0
      if !s.running pPLAT || s.slotLen s.nid == 0 then s
      else if s.holdAsked pPLAT then
        if s.flag pPLAT F.HDR.PCTL.HOLD then s.set pPLAT F.HDR.PSTS.HELD 1 else s
      else freezeAt s := by
  delta State.freeze freezeAt ownFilled marked ownDropped
  with_reducible rfl

theorem freeze_eq (hopen : s.evOpen 0 = true) (hrun : s.running pPLAT = true) (hlen : 0 < s.slotLen s.nid)
    (hhold : s.holdAsked pPLAT = false) : s.freeze = freezeAt (s.evNow 0) := by
  have hgo : (!(s.evNow 0).running pPLAT || (s.evNow 0).slotLen (s.evNow 0).nid == 0) = false := by
    have hne : s.slotLen s.nid ≠ 0 := by omega
    simp only [State.running, State.flag, State.slotLen, State.nid] at hrun hne
    simp [State.running, State.flag, State.slotLen, State.nid, evNow_get, hrun, hne]
  have hfree : (s.evNow 0).holdAsked pPLAT = false := by
    simp only [State.holdAsked, State.flag, State.shedHeld, evNow_get]
    exact hhold
  simp only [freeze_cases, hopen, Bool.not_true, hgo, hfree, Bool.false_eq_true, if_false]

theorem frozen_marked {c : Nat} (hbytes : ∀ i, i < 64 * s.slotOut s.nid →
      t.ldb (s.ownWork + 64 * s.slotLen s.nid - 64 * s.slotOut s.nid + i) =
        s.staged (64 * s.slotOfs s.nid + 64 * s.slotLen s.nid - 64 * s.slotOut s.nid + i))
    (hc : c = cyc32 s.cycle.cyc) (hown : t.plat.own = none) (hpub : t.publishes = s.publishes)
    (hdone : t.cycle.doneEv = s.cycle.doneEv ++ [0]) : Frozen s (marked c t) := by
  unfold marked
  extract_lets plat4 s5 plat5
  have hpub5 : s5.publishes = s.publishes := (publishes_of_regs (s := t) (t := s5) rfl rfl rfl).trans hpub
  subst hc
  split
  next h => exact ⟨hbytes, (if_pos (hpub5 ▸ h)).symm, rfl, hdone⟩
  next h => exact ⟨hbytes, hown.trans (if_neg (hpub5 ▸ h)).symm, rfl, hdone⟩

/-- Outside a gang a freeze fills the own parcel. -/
theorem frozen_ownFilled {s2 : State} {c : Nat} (fs : List (Nat × List Byte)) (h2 : Sampled (s.evNow 0) s2)
    (hown : s2.plat.own = none) (hc : c = cyc32 s.cycle.cyc) (hgang : s.inGang = false) : Frozen s (ownFilled c fs s2) := by
  unfold ownFilled
  extract_lets plat2 s3 s'
  have h3 : Sampled (s.evNow 0) s3 := ⟨h2.kept.plat rfl, h2.sel, h2.own, h2.staging⟩
  have hout : s3.inGang = false := by
    rw [h3.inGang, State.inGang, State.role, evNow_get]
    exact hgang
  have hsame : s' = s3 := if_neg (by simp [hout])
  have hover : Sampled (s.evNow 0) s3.ownOver := h3.trans (ownOver_sampled s3)
  rw [hsame, if_neg (by simp [hout])]
  have h4 : Sampled (s.evNow 0) (s3.ownOver.fillParcel c (s3.plat.gangFeeds ++ fs)) := hover.trans (fillParcel_sampled _ _ _)
  refine frozen_marked (fun i hi => ?_) hc ?_ (h4.publishes.trans (publishes_of_regs rfl rfl rfl))
    (congrArg CycleSt.doneEv (h4.kept.part .cycle rfl))
  · have hfill := ldb_fillParcel (s := s3.ownOver) c (s3.plat.gangFeeds ++ fs) (i := i)
    have hwork : (s.evNow 0).ownWork = s.ownWork := by
      simp only [State.ownWork, State.slotOfs, State.nid, evNow_get]
      rfl
    have hstaged : ∀ x, s3.ownOver.staged x = s.staged x := fun x => by
      simp only [State.staged, hover.staging]
      rfl
    have hnid : s3.ownOver.nid = s.nid := hover.nid.trans (evNow_get _ _ _)
    simp only [State.slotOut, State.slotLen, State.slotOfs, hnid, hover.get_cycle, hover.ownWork, hwork, hstaged,
      evNow_get] at hfill hi ⊢
    exact hfill hi
  · exact ((ownOver_sampled s3).trans (fillParcel_sampled _ _ _)).own hown

theorem freeze_shows (hopen : s.evOpen 0 = true) (hrun : s.running pPLAT = true) (hlen : 0 < s.slotLen s.nid)
    (hhold : s.holdAsked pPLAT = false) (hgang : s.inGang = false) : Frozen s s.freeze := by
  rw [freeze_eq hopen hrun hlen hhold]
  have h1 := ownDropped_sampled (s.evNow 0)
  have h2 : ∀ l, Sampled (ownDropped (s.evNow 0)) ((ownDropped (s.evNow 0)).sampleFeeds l).1.feedsTaken :=
    fun l => (sampleFeeds_sampled l _).trans (feedsTaken_sampled _)
  exact frozen_ownFilled _ (h1.trans (h2 _)) ((h2 _).own (ownDropped_own _)) rfl hgang

/-! The release (R132). -/

/-- What the sending of a frame on the ring may change. -/
abbrev ringSendScope : Scope :=
  frameScope [] (fun p => p == pHSR || p == pSWITCH || p == pCAPTURE || p == pBUFMEM || decide (0x80 ≤ p ∧ p < 0x97)) [.sw, .mem]

theorem ringSend_page {p : Nat} (h : p = pHSR ∨ p = pSWITCH ∨ p = pCAPTURE ∨ p = pBUFMEM) : ringSendScope.page p := by
  refine frameScope_page ?_
  rcases h with rfl | rfl | rfl | rfl <;> rfl

theorem ringSend_port (n : Nat) : ringSendScope.page (pPORT n) := by
  have hrange : 0x80 ≤ pPORT n ∧ pPORT n < 0x97 := by unfold pPORT; split <;> omega
  exact frameScope_page (by simp [hrange])

theorem sendRing_only (s : State) (f : Frame) : Kept ringSendScope s (s.sendRing f) :=
  have hHSR := ringSend_page (.inl rfl)
  have hSWITCH := ringSend_page (.inr (.inl rfl))
  have hCAPTURE := ringSend_page (.inr (.inr (.inl rfl)))
  have hBUFMEM := ringSend_page (.inr (.inr (.inr rfl)))
  sendRing_kept (.refl _ s) rfl rfl hHSR.fld hSWITCH.fld hSWITCH.fld ringSend_port hCAPTURE.fld hCAPTURE.fld hCAPTURE.fld
    hCAPTURE.fld hBUFMEM.fld hSWITCH.fld hSWITCH.fld

theorem sendRing_still (s : State) (f : Frame) : Still s (s.sendRing f) := by
  unfold State.sendRing
  split
  · extract_lets r
    have htag : Still s r.1 := by
      unfold r State.hsrTag
      split
      · exact ⟨by simp, by simp⟩
      · exact .refl s
    exact htag.trans (sendCopies_still _ _ _ _ _)
  · exact CycleVote.sendMember_still _ _ _ _

/-- The release queues the frames of the own parcel for both directions of the ring, and nothing else moves on. -/
theorem platRelease_shows (hown : s.plat.own = some (cyc32 s.cycle.cyc)) (hpub : s.publishes = true) :
    s.platRelease.plat.left = [(0, frameCount (s.slotLen s.nid)), (1, frameCount (s.slotLen s.nid))] ∧
      s.platRelease.plat.own = s.plat.own ∧ s.platRelease.cycle = s.cycle ∧ s.platRelease.clock = s.clock := by
  unfold State.platRelease
  rw [if_neg (by simp [hown, hpub])]
  extract_lets n f vlan tci s1 s2 plat2
  have k1 : Kept ringSendScope s s1 := .ite (nextFree_kept (.refl _ s)) (.refl _ s)
  have k2 : Kept ringSendScope s s2 := .foldl (fun st i h => h.trans (sendRing_only st _)) _ _ k1
  have hclock1 : s1.clock = s.clock := by unfold s1; split <;> rfl
  have hclock : s2.clock = s.clock := (Still.foldl (fun st i => sendRing_still st _) _ s1).clock.trans hclock1
  have hplat : s2.plat = s.plat := k2.part .plat rfl
  exact ⟨rfl, by rw [← hplat], k2.part .cycle rfl, hclock⟩

/-! Feeds of other gang members (R138). -/

/-- The member whose frame speaks for `m`. -/
def toldFor (s : State) (m : Nat) : Nat := if s.isTwin m then s.guards m else m

theorem isTwin_of_twinOf {m t : Nat} (h : s.twinOf m = some t) : s.isTwin t = true ∧ s.guards t = m := by
  simpa using List.find?_some h

/-- States that agree on the registers, the memory, the cycle and what this hub is in its pair. -/
structure SameRole (s t : State) : Prop where
  regs : t.regs = s.regs
  mem : t.mem = s.mem
  cycle : t.cycle = s.cycle
  ever : t.dup.everOn = s.dup.everOn
  shadow : t.dup.wasShadow = s.dup.wasShadow

theorem SameRole.refl (s : State) : SameRole s s := ⟨rfl, rfl, rfl, rfl, rfl⟩

theorem SameRole.trans (h1 : SameRole s t) (h2 : SameRole t u) : SameRole s u :=
  ⟨h2.regs.trans h1.regs, h2.mem.trans h1.mem, h2.cycle.trans h1.cycle, h2.ever.trans h1.ever, h2.shadow.trans h1.shadow⟩

theorem SameRole.get (h : SameRole s t) (p : Nat) (f : Fld) : t.get p f = s.get p f := State.get_congr h.regs p f

/-- A note of who acts is about the state of the gang alone. -/
theorem actNote_same (m k : Nat) : SameRole s (s.actNote m k) := by
  unfold State.actNote
  extract_lets rest
  split_ifs <;> exact ⟨rfl, rfl, rfl, rfl, rfl⟩

/-- A sign of a gang member is about when the peer was heard alone. -/
theorem gangSign_same (m : Nat) :
    SameRole s (s.gangSign m) ∧ (s.gangSign m).gang = s.gang := by
  unfold State.gangSign
  split_ifs <;> exact ⟨⟨rfl, rfl, rfl, rfl, rfl⟩, rfl⟩

theorem mem_acts_actNote {a k x : Nat} (h : x ∈ (s.actNote a k).gang.acts) : x ∈ s.gang.acts ∨ x = k := by
  unfold State.actNote at h
  extract_lets rest at h
  split_ifs at h
  · exact .inl (List.mem_filter.mp h).1
  · exact (List.mem_cons.mp h).symm.imp_left fun h => (List.mem_filter.mp h).1
  · exact .inl h

theorem mem_acts_of_twin {m t : Nat} (h : s.twinOf m = some t) (hne : t ≠ m) : t ∈ (s.actNote m t).gang.acts := by
  unfold State.actNote
  extract_lets rest
  rw [if_neg hne, if_pos h]
  exact List.mem_cons_self

theorem SameRole.isTwin (h : SameRole s t) (m : Nat) : t.isTwin m = s.isTwin m := by simp only [State.isTwin, h.get]

theorem SameRole.guards (h : SameRole s t) (m : Nat) : t.guards m = s.guards m := by simp only [State.guards, h.get]

theorem SameRole.role (h : SameRole s t) : t.role = s.role := h.get _ _

theorem SameRole.running (h : SameRole s t) (p : Nat) : t.running p = s.running p := by
  simp only [State.running, State.flag, h.get]

theorem SameRole.inGang (h : SameRole s t) : t.inGang = s.inGang := by simp only [State.inGang, h.role]

theorem SameRole.onRing (h : SameRole s t) : t.onRing = s.onRing := by
  simp only [State.onRing, State.nid, h.get, h.role, h.isTwin, h.guards]

theorem SameRole.evOpen (h : SameRole s t) (e : Nat) : t.evOpen e = s.evOpen e := by
  simp only [State.evOpen, h.running, h.cycle]

theorem SameRole.feedType (h : SameRole s t) (n : Nat) : t.feedType n = s.feedType n := h.get _ _

theorem SameRole.feedMember (h : SameRole s t) (n : Nat) : t.feedMember n = s.feedMember n := h.get _ _

theorem SameRole.feedLen (h : SameRole s t) (n : Nat) : t.feedLen n = s.feedLen n := h.get _ _

theorem SameRole.dupState (h : SameRole s t) : t.dupState = s.dupState := by
  simp only [State.dupState, State.isTwin, State.guards, State.role, h.ever, h.get]
  rfl

theorem SameRole.member (h : SameRole s t) : t.member = s.member := by
  simp only [State.member, State.role, h.dupState, h.get]
  rfl

theorem SameRole.twinOf (h : SameRole s t) (m : Nat) : t.twinOf m = s.twinOf m := by
  simp only [State.twinOf, State.isTwin, State.guards, h.get]

theorem SameRole.memPresent (h : SameRole s t) (m : Nat) : t.memPresent m = s.memPresent m := by
  simp only [State.memPresent, State.flag, h.get]

theorem SameRole.memFenced (h : SameRole s t) (m : Nat) : t.memFenced m = s.memFenced m := by
  simp only [State.memFenced, State.flag, h.get]

theorem SameRole.actsFor (h : SameRole s t) (m : Nat) : t.actsFor m = s.actsFor m := by
  simp only [State.actsFor, State.inGang, State.fenced, State.standby, State.isTwin, State.guards, State.running, State.flag,
    State.role, h.member, h.dupState, h.shadow, h.get]
  rfl

theorem SameRole.actingFor (h : SameRole s t) (hgang : t.gang = s.gang) (m : Nat) : t.actingFor m = s.actingFor m := by
  simp only [State.actingFor, h.actsFor, h.member, h.twinOf, h.memPresent, h.memFenced, hgang]

/-- A frame that speaks for the members it acts for leaves it acting for them. -/
theorem actingFor_actNote {k m : Nat} (h : s.actingFor m = k) : (s.actNote (toldFor s k) k).actingFor m = k := by
  have hrole := actNote_same (s := s) (toldFor s k) k
  unfold State.actingFor at h ⊢
  simp only [hrole.actsFor, hrole.member, hrole.twinOf, hrole.memPresent, hrole.memFenced] at h ⊢
  by_cases hacts : s.actsFor m = true
  · rwa [if_pos hacts] at h ⊢
  rw [if_neg hacts] at h ⊢
  cases htwin : s.twinOf m with
  | none => rwa [htwin] at h
  | some t =>
    simp only [htwin] at h ⊢
    by_cases hhere : m = s.member
    · rwa [if_pos hhere] at h ⊢
    by_cases hself : t = s.member
    · rwa [if_neg hhere, if_pos hself] at h ⊢
    rw [if_neg hhere, if_neg hself] at h ⊢
    by_cases hsame : t = m
    · subst hsame
      rw [ite_self] at h ⊢
      exact h
    obtain ⟨hisTwin, hguards⟩ := isTwin_of_twinOf htwin
    split_ifs at h with hc
    · subst h
      have htold : toldFor s t = m := by rw [toldFor, if_pos hisTwin, hguards]
      have hnoted : (s.actNote (toldFor s t) t).gang.acts.contains t = true := by
        rw [htold]
        exact List.contains_iff_mem.mpr (mem_acts_of_twin htwin hsame)
      rw [Bool.and_eq_true] at hc
      exact if_pos (by rw [hnoted, Bool.true_or, Bool.true_or, Bool.and_true]; exact hc.1)
    · subst h
      refine if_neg fun hnow => hc ?_
      have hold : (s.actNote (toldFor s m) m).gang.acts.contains t = true → s.gang.acts.contains t = true := fun hin =>
        List.contains_iff_mem.mpr ((mem_acts_actNote (List.contains_iff_mem.mp hin)).resolve_right hsame)
      simp only [Bool.and_eq_true, Bool.or_eq_true] at hnow ⊢
      exact hnow.imp_right (Or.imp_left (Or.imp_left hold))

/-- A feed that another member sends before the freeze waits for it. -/
theorem feedRx_waits {m : Nat} {feeds : List (Nat × List Byte)} (hrun : s.running pPLAT = true) (hgang : s.inGang = true)
    (hring : s.onRing = true) (hpresent : s.memPresent m = true) (hfenced : s.memFenced m = false) (hopen : s.evOpen 0 = true) :
    (∀ f ∈ feeds, f.1 < 128 → s.feedType f.1 ≠ 0 → f.2.length = 8 * s.feedLen f.1 → s.feedMember f.1 ≠ s.member →
      s.actingFor (s.feedMember f.1) = m → f ∈ (s.feedRx m feeds).plat.gangFeeds) ∧
      (s.feedRx m feeds).regs = s.regs ∧ (s.feedRx m feeds).mem = s.mem := by
  unfold State.feedRx
  extract_lets a told u ok plat2
  have hsigned : SameRole s a ∧ a.gang = s.gang := by
    unfold a
    split
    · exact gangSign_same m
    · exact ⟨.refl s, rfl⟩
  obtain ⟨ha, hgangA⟩ := hsigned
  have htold : told = toldFor a m := by simp only [told, toldFor, ha.isTwin, ha.guards]
  have hu : SameRole s u := by
    unfold u
    split
    · exact ha.trans (actNote_same told m)
    · exact ha
  have hacting (x : Nat) (hx : s.actingFor x = m) : u.actingFor x = m := by
    have hxa : a.actingFor x = m := (ha.actingFor hgangA x).trans hx
    unfold u
    split
    · rw [htold]
      exact actingFor_actNote hxa
    · exact hxa
  have hclosed : (!u.running pPLAT || !u.inGang || !u.onRing || !u.memPresent m || u.memFenced m) = false := by
    simp [hu.running, hu.inGang, hu.onRing, hu.memPresent, hu.memFenced, hrun, hgang, hring, hpresent, hfenced]
  have hopenU : u.evOpen 0 = true := (hu.evOpen 0).trans hopen
  rw [hclosed, if_neg Bool.false_ne_true, if_pos hopenU]
  refine ⟨fun f hf hn htype hlen hmember hacts => List.mem_append_right _ (List.mem_filter.mpr ⟨hf, ?_⟩), hu.regs, hu.mem⟩
  simp [hu.feedType, hu.feedMember, hu.feedLen, hu.member, hn, htype, hlen, hmember, hacting _ hacts]

/-- Settles O16: the freeze, the release, and the feeds that wait. -/
theorem platPublication : Obligations.PlatPublication := by
  refine ⟨fun s hopen hrun hlen hhold hgang => ?_, fun s hopen hown hpub => ?_,
    fun clk member feeds s hrun hgang hring hpresent hfenced hopen => ?_⟩
  · exact ⟨_, rfl, freeze_shows hopen hrun hlen hhold hgang⟩
  · obtain ⟨hleft, hstays, hcycle, hclock⟩ := platRelease_shows (s := s.evNow 1) hown hpub
    refine ⟨_, rfl, ?_⟩
    have hlen : (s.evNow 1).slotLen (s.evNow 1).nid = s.slotLen s.nid := by simp only [State.slotLen, State.nid, evNow_get]
    rw [if_pos hopen, hleft, hstays, hcycle, hclock, hlen]
    exact ⟨rfl, rfl, rfl, rfl⟩
  · have hsame : SameRole s (s.advance clk) := ⟨rfl, rfl, rfl, rfl, rfl⟩
    obtain ⟨hwait, hregs, hmem⟩ := feedRx_waits (s := s.advance clk) (m := member) (feeds := feeds) hrun hgang hring
      ((hsame.memPresent _).trans hpresent) ((hsame.memFenced _).trans hfenced) hopen
    simp only [hsame.feedType, hsame.feedMember, hsame.feedLen, hsame.member, hsame.actingFor rfl] at hwait
    exact ⟨_, rfl, hwait, hregs, hmem⟩

end Sys2Proof.Publication
end

section
/-!
PROOFS. O36: accesses of the host through BAR2, the transmit ring of the host and the PCIe link (R32, R377–R380, R388, R392).
-/

open Sys2Proof Sys2Proof.Machine Sys2Proof.Laws

namespace Sys2Proof.HostAccess
variable {s : State}

/-! The blocks of an access (R378, R380). -/

/-- The byte lanes of an access that begins a block and ends in it. -/
theorem blocksOf_one (q : Nat) {d : List (Option Byte)} (h0 : d ≠ []) (h8 : d.length ≤ 8) :
    blocksOf (8 * q) d = [(8 * q, mapOf 8 (fun j => (nth d j none).isSome), (List.range 8).map (fun j => (nth d j none).getD 0))].filter
      (fun b => b.2.1 != 0) := by
  have hlen : 0 < d.length := List.length_pos_iff.mpr h0
  have hdiv : 8 * q / 8 = q := by omega
  have hcount : (if d.isEmpty then 0 else (8 * q + d.length - 1) / 8 - 8 * q / 8 + 1) = 1 := by
    rw [if_neg (by simpa using h0)]
    omega
  have hlane (j : Nat) : (if 8 * q ≤ 8 * q + j ∧ 8 * q + j < 8 * q + d.length then nth d (8 * q + j - 8 * q) none else none) =
      nth d j none := by
    rw [Nat.add_sub_cancel_left]
    split
    · rfl
    · rw [nth, List.getElem?_eq_none (by omega)]
      rfl
  unfold blocksOf
  dsimp only
  rw [hcount, hdiv, show List.range 1 = [0] from rfl, List.map_singleton]
  simp only [Nat.add_zero, hlane]

/-- An aligned access of eight bytes is one whole block. -/
theorem blocksOf_aligned (q : Nat) : blocksOf (8 * q) (List.replicate 8 (some 0)) = [(8 * q, 255, List.replicate 8 0)] := by
  rw [blocksOf_one q (by decide) (by decide)]
  rfl

/-- The bytes of one block, gathered by address, are the block. -/
theorem gatherBytes_blockBytes (a : Nat) {d : List Byte} (hd : d.length = 8) : gatherBytes a 8 (blockBytes a d) = d := by
  match d, hd with
  | [d0, d1, d2, d3, d4, d5, d6, d7], _ => simp [gatherBytes, blockBytes, List.range_succ, nth]

/-- An access of four bytes to the lower half of a block is that half. -/
theorem blocksOf_half (q : Nat) (b0 b1 b2 b3 : Byte) :
    blocksOf (8 * q) [some b0, some b1, some b2, some b3] = [(8 * q, 15, [b0, b1, b2, b3, 0, 0, 0, 0])] := by
  rw [blocksOf_one q (by simp) (by simp)]
  simp [mapOf, nth, List.range_succ, bit]

/-! The head of class HR (R377, R392). -/

theorem nid_advance (clk : Nat) : (s.advance clk).nid = s.nid := State.get_advance s clk _ _

theorem member_advance (clk : Nat) : (s.advance clk).member = s.member :=
  (show Publication.SameRole s (s.advance clk) from ⟨rfl, rfl, rfl, rfl, rfl⟩).member

theorem mustWait_advance (clk : Nat) (r : HostReq) : (s.advance clk).mustWait r = s.mustWait r := by
  simp only [State.mustWait, State.held, State.shedHeld, State.flag, State.get_advance]
  rfl

/-- A read waits whatever its window is. -/
theorem mustWait_read {r : HostReq} (hread : r.isRead = true) (w : Nat) : s.mustWait { r with win := w } = s.mustWait r := by
  simp only [State.mustWait, hrQueue, hread, Bool.true_or]

/-- The access with the settings of its window. -/
def decoded (s : State) (r : HostReq) : HostReq := { r with win := s.winReg (winOf r.off) }

theorem hostIn_decoded {r : HostReq} (hbar : r.bar0 = false) (hon : s.coreOn = true) (hlink : s.bridge.linkUp = true)
    (hrun : s.running pWINDOWS = true) (hroom : s.hrRoom r = true) : s.hostIn r = (s.hostGo (decoded s r)).classGo := by
  rw [State.hostIn, if_pos (by simp [hon, hlink, hroom]), State.hostArrive, if_neg (by simp [hbar]), if_pos hrun]
  rfl

/-- An access that need not wait is served at once. -/
theorem hostIn_served {r : HostReq} (hbar : r.bar0 = false) (hon : s.coreOn = true) (hlink : s.bridge.linkUp = true)
    (hrun : s.running pWINDOWS = true) (hroom : s.hrRoom r = true) (hwait : s.mustWait (decoded s r) = false) :
    s.hostIn r = (s.hostReq (decoded s r)).classGo := by
  rw [hostIn_decoded hbar hon hlink hrun hroom, State.hostGo, if_neg (by rw [hwait]; exact Bool.false_ne_true)]

/-- A window that is on and open for an access. -/
def windowOpen (s : State) (r : HostReq) : Prop :=
  natBit r.win 31 = true ∧ natField r.win 20 9 = 0 ∧ (r.isRead = true ∨ natBit r.win 29 = false) ∧
    natBit (s.get pWINDOWS F.WINDOWS.WINSTS.ERR) (winOf r.off) = false

theorem windowOpen_advance {clk : Nat} {r : HostReq} (h : windowOpen s (decoded s r)) :
    windowOpen (s.advance clk) (decoded (s.advance clk) r) := by
  simp only [windowOpen, State.get_advance]
  exact h

/-- What an access asks for, block by block. -/
def blocksFor (r : HostReq) : List (Nat × Nat × List Byte) :=
  blocksOf (winAddr r.win r.off) (if r.isRead then List.replicate r.len (some 0) else r.data)

/-- Through an open window an access to this hub is served inside it. -/
theorem hostReq_local {r : HostReq} (hbar : r.bar0 = false) (hopen : windowOpen s r) (hnode : adrNode (winAddr r.win r.off) = s.nid)
    (hmember : adrMember (winAddr r.win r.off) = s.member) :
    s.hostReq r = s.localReq r (winAddr r.win r.off) (blocksFor r) := by
  obtain ⟨hon, hrsv, hmay, herr⟩ := hopen
  have hpass : (!natBit r.win 31 || natField r.win 20 9 != 0 || (!r.isRead && natBit r.win 29)) = false := by
    rcases hmay with h | h <;> simp [hon, hrsv, h]
  unfold State.hostReq
  rw [hbar, if_neg Bool.false_ne_true]
  simp only [hpass, herr, hnode, hmember, Bool.false_eq_true, if_false, or_true, if_true]
  rfl

/-- Through an open window an access to another hub is carried to it. -/
theorem hostReq_remote {r : HostReq} (hbar : r.bar0 = false) (hopen : windowOpen s r) (h0 : adrNode (winAddr r.win r.off) ≠ 0)
    (hnode : adrNode (winAddr r.win r.off) ≠ s.nid) (hlt : adrNode (winAddr r.win r.off) < 128) :
    s.hostReq r = s.remoteReq r (winOf r.off) (winAddr r.win r.off) (adrNode (winAddr r.win r.off))
      (adrMember (winAddr r.win r.off)) (blocksFor r) := by
  obtain ⟨hon, hrsv, hmay, herr⟩ := hopen
  have hpass : (!natBit r.win 31 || natField r.win 20 9 != 0 || (!r.isRead && natBit r.win 29)) = false := by
    rcases hmay with h | h <;> simp [hon, hrsv, h]
  unfold State.hostReq
  rw [hbar, if_neg Bool.false_ne_true]
  simp only [hpass, herr, h0, hnode, hlt, Bool.false_eq_true, if_false, or_self, if_true]
  rfl

/-- With nothing that waits in class RH nothing goes on there. -/
theorem rhGo_of_empty (h : s.bridge.rh = []) : s.rhGo.bridge = s.bridge := by
  unfold State.rhGo
  split
  · rfl
  · show ({ s.bridge with out := s.bridge.out ++ s.bridge.rh, rh := [] } : BridgeSt) = s.bridge
    rw [h, List.append_nil, ← h]

/-- With nothing that waits in the bridge nothing goes on there. -/
theorem classGo_of_empty (hblocked : s.bridge.blocked = []) (hrh : s.bridge.rh = []) :
    s.classGo.bridge = s.bridge ∧ s.classGo.regs = s.regs ∧ s.classGo.mem = s.mem := by
  rw [State.classGo_of_unblocked hblocked]
  exact ⟨rhGo_of_empty hrh, State.rhGo_regs s, State.rhGo_mem s⟩

/-! Accesses served inside the hub (R378). -/

theorem length_ldBytes : ∀ (n : Nat) (a : Nat), (s.ldBytes a n).length = n
  | 0, _ => rfl
  | n + 1, a => congrArg (· + 1) (length_ldBytes n (a + 1))

/-- An aligned read of eight bytes of the book is completed with what stands there. -/
theorem localReq_book {r : HostReq} {q : Nat} (hread : r.isRead = true) (hlen : r.len = 8) (hrange : rangeOf (adrLocal (8 * q)) = .book) :
    s.localReq r (8 * q) (blocksOf (8 * q) (List.replicate 8 (some 0))) = s.complete r.tag (s.ldBytes (adrLocal (8 * q)) 8) := by
  have hblock : State.localRead s (8 * q) 255 (hostSrc (8 * q)) = (s, s.ldBytes (adrLocal (8 * q)) 8, false) := by
    unfold State.localRead
    simp only [hrange]
    rfl
  rw [State.localReq, if_pos hread, blocksOf_aligned, List.foldl_cons, List.foldl_nil, State.localNext]
  simp only [hblock, hlen, List.nil_append]
  rw [gatherBytes_blockBytes _ (length_ldBytes 8 _)]

/-! Accesses carried to another hub (R378–R380). -/

/-- `n` more transactions are outstanding; what goes to the host and what waits is as it was. -/
structure Issued (n : Nat) (s t : State) : Prop where
  outstanding : t.bridge.outstanding.length = s.bridge.outstanding.length + n
  out : t.bridge.out = s.bridge.out
  reads : t.bridge.reads = s.bridge.reads
  rh : t.bridge.rh = s.bridge.rh
  blocked : t.bridge.blocked = s.bridge.blocked

theorem Issued.trans {n m : Nat} {t u : State} (h1 : Issued n s t) (h2 : Issued m t u) : Issued (n + m) s u :=
  ⟨by rw [h2.outstanding, h1.outstanding, Nat.add_assoc], h2.out.trans h1.out, h2.reads.trans h1.reads, h2.rh.trans h1.rh,
    h2.blocked.trans h1.blocked⟩

/-- A block that is not posted is outstanding once it is issued. -/
theorem issueNext_issued {r : HostReq} {op : Nat} (w node member : Nat) (hop : op ≠ 0x11) (st : State × List Trans)
    (b : Nat × Nat × List Byte) : Issued 1 st.1 (State.issueNext r op w node member st b).1 := by
  refine ⟨?_, rfl, rfl, rfl, rfl⟩
  simp only [State.issueNext, State.issueOne, if_neg hop, List.length_append, List.length_singleton]

theorem issued_foldl {r : HostReq} {op : Nat} (w node member : Nat) (hop : op ≠ 0x11) : ∀ (l : List (Nat × Nat × List Byte))
    (st : State × List Trans), Issued l.length st.1 (l.foldl (State.issueNext r op w node member) st).1
  | [], _ => ⟨rfl, rfl, rfl, rfl, rfl⟩
  | b :: l, st => by
    have hall := (issueNext_issued (r := r) w node member hop st b).trans (issued_foldl (r := r) w node member hop l _)
    rwa [Nat.add_comm] at hall

theorem sendTrans_bridge (node member k : Nat) (l : List Trans) : (s.sendTrans node member k l).bridge = s.bridge := by
  have hk : Kept Publication.ringSendScope s (s.sendTrans node member k l) :=
    sendTrans_kept (.refl _ s) rfl rfl Publication.ringSend_port (Publication.ringSend_page (.inl rfl))
      (Publication.ringSend_page (.inr (.inr (.inl rfl)))) (Publication.ringSend_page (.inr (.inr (.inr rfl))))
      (Publication.ringSend_page (.inr (.inl rfl)))
  exact hk.part .bridge rfl

/-- A read carried to another hub is entered, and its blocks are outstanding. -/
theorem remoteReq_read {r : HostReq} (w a node member : Nat) (blocks : List (Nat × Nat × List Byte)) (hread : r.isRead = true) :
    let t := s.remoteReq r w a node member blocks
    t.bridge.reads = s.bridge.reads ++ [⟨r.tag, a, r.len, blocks.length, []⟩] ∧
      t.bridge.outstanding.length = s.bridge.outstanding.length + blocks.length ∧ t.bridge.out = s.bridge.out ∧
      t.bridge.rh = s.bridge.rh ∧ t.bridge.blocked = s.bridge.blocked := by
  simp only [State.remoteReq, hread, if_true, sendTrans_bridge]
  obtain ⟨ho, hout, hreads, hrh, hblocked⟩ := issued_foldl (r := r) w node member (show (0x10 : Nat) ≠ 0x11 by decide) blocks
    ({ s with bridge := { s.bridge with reads := s.bridge.reads ++ [⟨r.tag, a, r.len, blocks.length, []⟩] } }, [])
  exact ⟨hreads, ho, hout, hrh, hblocked⟩

/-! The accesses of the host as they arrive. -/

theorem hostReqAt_low {off : Nat} (h : off < 2 ^ 32) (len tag : Nat) (isRead : Bool) (data : List (Option Byte)) :
    hostReqAt off len tag isRead data = ⟨off, len, tag, isRead, data, 0, false⟩ := by
  have hbar : decide (2 ^ 32 ≤ off) = false := decide_eq_false (by omega)
  rw [hostReqAt, if_pos h, hbar]

theorem hrRoom_empty (h : s.bridge.blocked = []) (r : HostReq) : s.hrRoom r = true := by
  rw [State.hrRoom, h]
  simp

theorem winAddr_mod_eight (win : Nat) {off : Nat} (h : off % 8 = 0) : winAddr win off % 8 = 0 := by
  unfold winAddr
  omega

/-- A read of the book of this hub is completed with what stands there (R378). -/
theorem hostRead_book {off tag : Nat} (hoff : off < 2 ^ 32) (hon : s.coreOn = true) (hlink : s.bridge.linkUp = true)
    (hrun : s.running pWINDOWS = true) (hblocked : s.bridge.blocked = []) (hrh : s.bridge.rh = [])
    (hwait : s.mustWait (hostReqAt off 8 tag true []) = false)
    (hopen : windowOpen s (decoded s ⟨off, 8, tag, true, [], 0, false⟩))
    (hnode : adrNode (winAddr (s.winReg (winOf off)) off) = s.nid)
    (hmember : adrMember (winAddr (s.winReg (winOf off)) off) = s.member)
    (hrange : rangeOf (adrLocal (winAddr (s.winReg (winOf off)) off)) = .book) (height : off % 8 = 0) :
    let t := s.hostIn (hostReqAt off 8 tag true [])
    t.bridge.out = s.bridge.out ++ [.completion tag (s.ldBytes (adrLocal (winAddr (s.winReg (winOf off)) off)) 8)] ∧
      t.mem = s.mem ∧ t.regs = s.regs := by
  intro t
  rw [hostReqAt_low hoff] at hwait
  obtain ⟨q, hq⟩ : ∃ q, winAddr (s.winReg (winOf off)) off = 8 * q := ⟨_, (Nat.mul_div_cancel' (Nat.dvd_of_mod_eq_zero
    (winAddr_mod_eight _ height))).symm⟩
  have hserved : t = (s.hostReq (decoded s ⟨off, 8, tag, true, [], 0, false⟩)).classGo := by
    unfold t
    rw [hostReqAt_low hoff]
    exact hostIn_served rfl hon hlink hrun rfl ((mustWait_read rfl _).trans hwait)
  have hreq : s.hostReq (decoded s ⟨off, 8, tag, true, [], 0, false⟩) =
      s.complete tag (s.ldBytes (adrLocal (winAddr (s.winReg (winOf off)) off)) 8) := by
    have hlocal : s.hostReq (decoded s ⟨off, 8, tag, true, [], 0, false⟩) =
        s.localReq (decoded s ⟨off, 8, tag, true, [], 0, false⟩) (winAddr (s.winReg (winOf off)) off)
          (blocksOf (winAddr (s.winReg (winOf off)) off) (List.replicate 8 (some 0))) := hostReq_local rfl hopen hnode hmember
    rw [hlocal]
    rw [hq] at hrange ⊢
    exact localReq_book rfl rfl hrange
  rw [hserved, hreq]
  obtain ⟨hbridge, hregs, hmem⟩ := classGo_of_empty
    (s := s.complete tag (s.ldBytes (adrLocal (winAddr (s.winReg (winOf off)) off)) 8)) hblocked hrh
  rw [hbridge, hregs, hmem]
  exact ⟨rfl, rfl, rfl⟩

/-- A read of another hub is carried to it (R378, R379). -/
theorem hostRead_remote {off len tag : Nat} (hoff : off < 2 ^ 32) (hon : s.coreOn = true) (hlink : s.bridge.linkUp = true)
    (hrun : s.running pWINDOWS = true) (hblocked : s.bridge.blocked = []) (hrh : s.bridge.rh = [])
    (hwait : s.mustWait (hostReqAt off len tag true []) = false)
    (hopen : windowOpen s (decoded s ⟨off, len, tag, true, [], 0, false⟩))
    (h0 : adrNode (winAddr (s.winReg (winOf off)) off) ≠ 0) (hnode : adrNode (winAddr (s.winReg (winOf off)) off) ≠ s.nid)
    (hlt : adrNode (winAddr (s.winReg (winOf off)) off) < 128) :
    let t := s.hostIn (hostReqAt off len tag true [])
    let a := winAddr (s.winReg (winOf off)) off
    let n := (blocksOf a (List.replicate len (some 0))).length
    t.bridge.reads = s.bridge.reads ++ [⟨tag, a, len, n, []⟩] ∧
      t.bridge.outstanding.length = s.bridge.outstanding.length + n ∧ t.bridge.out = s.bridge.out := by
  intro t a n
  rw [hostReqAt_low hoff] at hwait
  have hserved : t = (s.hostReq (decoded s ⟨off, len, tag, true, [], 0, false⟩)).classGo := by
    unfold t
    rw [hostReqAt_low hoff]
    exact hostIn_served rfl hon hlink hrun rfl ((mustWait_read rfl _).trans hwait)
  have hremote : s.hostReq (decoded s ⟨off, len, tag, true, [], 0, false⟩) =
      s.remoteReq (decoded s ⟨off, len, tag, true, [], 0, false⟩) (winOf off) a (adrNode a) (adrMember a)
        (blocksFor (decoded s ⟨off, len, tag, true, [], 0, false⟩)) := hostReq_remote rfl hopen h0 hnode hlt
  obtain ⟨hreads, hout, hmsg, hrh', hblocked'⟩ := remoteReq_read (s := s) (r := decoded s ⟨off, len, tag, true, [], 0, false⟩)
    (winOf off) a (adrNode a) (adrMember a) (blocksFor (decoded s ⟨off, len, tag, true, [], 0, false⟩)) rfl
  rw [hserved, hremote, (classGo_of_empty (hblocked'.trans hblocked) (hrh'.trans hrh)).1]
  exact ⟨hreads, hout, hmsg⟩

@[simp] theorem rhGo_outstanding : s.rhGo.bridge.outstanding = s.bridge.outstanding := by unfold State.rhGo; split <;> rfl

@[simp] theorem rhGo_reads : s.rhGo.bridge.reads = s.bridge.reads := by unfold State.rhGo; split <;> rfl

/-- Whether an access waits depends on the hold of the bridge and on what is outstanding and waits there. -/
theorem mustWait_of_bridge {t : State} (hregs : t.regs = s.regs) (hblocked : t.bridge.blocked = s.bridge.blocked)
    (hout : t.bridge.outstanding = s.bridge.outstanding) (hreads : t.bridge.reads = s.bridge.reads) (r : HostReq) :
    t.mustWait r = s.mustWait r := by
  have hplaces : t.hrOut = s.hrOut := by simp only [State.hrOut, hout, hreads]
  simp only [State.mustWait, State.held, State.shedHeld, State.flag, State.get_congr hregs, hblocked, hout, hplaces]

/-- What joined the accesses that wait stays there while nothing ends its wait. -/
theorem classGo_waiting {r : HostReq} (hheld : s.held pBRIDGE = true ∨ s.bridge.blocked = []) (hwait : s.mustWait r = true) :
    let t := ({ s with bridge := { s.bridge with blocked := s.bridge.blocked ++ [r] } } : State).classGo
    t.bridge.blocked = s.bridge.blocked ++ [r] ∧ t.regs = s.regs := by
  intro t
  unfold t State.classGo
  split
  · rw [RegWrites.rhGo_blocked, State.rhGo_regs]
    exact ⟨rfl, rfl⟩
  next hgo =>
    have hfree : s.bridge.blocked = [] := hheld.resolve_left fun h => hgo (Bool.or_eq_true_iff.mpr (.inl h))
    obtain ⟨u, hu⟩ : ∃ u : State, u = State.rhGo { s with bridge := { s.bridge with blocked := s.bridge.blocked ++ [r] } } :=
      ⟨_, rfl⟩
    have hone : u.bridge.blocked = [r] := by
      rw [hu, RegWrites.rhGo_blocked]
      show s.bridge.blocked ++ [r] = [r]
      rw [hfree, List.nil_append]
    have hregs : u.regs = s.regs := by rw [hu, State.rhGo_regs]
    have hstill : ({ u with bridge := { u.bridge with blocked := [] } } : State).mustWait r = true := by
      rw [mustWait_of_bridge (s := s) (t := { u with bridge := { u.bridge with blocked := [] } }) hregs hfree.symm, hwait]
      · exact (congrArg BridgeSt.outstanding (congrArg State.bridge hu)).trans rhGo_outstanding
      · exact (congrArg BridgeSt.reads (congrArg State.bridge hu)).trans rhGo_reads
    rw [← hu, State.hrDrain, hone, List.foldl_cons, List.foldl_nil, State.hostGo, if_pos hstill, hfree]
    exact ⟨rfl, hregs⟩

/-- An access that must wait joins those that wait (R392). -/
theorem hostWrite_waits {off : Nat} {data : List (Option Byte)} (hoff : off < 2 ^ 32) (hon : s.coreOn = true)
    (hlink : s.bridge.linkUp = true) (hrun : s.running pWINDOWS = true)
    (hroom : (s.bridge.blocked.filter (fun x : HostReq => !x.isRead)).length < 64)
    (hheld : s.held pBRIDGE = true ∨ s.bridge.blocked = [])
    (hwait : s.mustWait (decoded s (hostReqAt off data.length 0 false data)) = true) :
    let t := s.hostIn (hostReqAt off data.length 0 false data)
    t.bridge.blocked = s.bridge.blocked ++ [decoded s (hostReqAt off data.length 0 false data)] ∧ t.regs = s.regs := by
  intro t
  rw [hostReqAt_low hoff] at hwait ⊢
  obtain ⟨r, hr⟩ : ∃ r, r = decoded s ⟨off, data.length, 0, false, data, 0, false⟩ := ⟨_, rfl⟩
  rw [← hr] at hwait ⊢
  have hjoined : t = ({ s with bridge := { s.bridge with blocked := s.bridge.blocked ++ [r] } } : State).classGo := by
    unfold t
    rw [hostReqAt_low hoff, hostIn_decoded rfl hon hlink hrun (Bool.or_eq_true_iff.mpr (.inr (decide_eq_true hroom))), ← hr,
      State.hostGo, if_pos hwait]
  rw [hjoined]
  exact classGo_waiting hheld hwait

/-! A write of a register of this hub through BAR2 (R378, R380). -/

theorem ofLE_lt : ∀ l : List Byte, ofLE l < 256 ^ l.length
  | [] => Nat.one_pos
  | b :: l => by
    have hb : b.toNat < 256 := b.isLt
    have hl := ofLE_lt l
    simp only [ofLE, List.length_cons, Nat.pow_succ]
    omega

/-- Where STEP_LIMIT stands among the local addresses. -/
def stepLimitAt : Nat := 0x1000000 + pDATUM * 4096 + 0x58

/-- The row of STEP_LIMIT (R84). -/
def rowStepLimit : RegRow := ⟨.datum, 0x58, 1, 0x0, 1, 0x0, 0, 1, 0x7D0, 0xFFFFFFFF, 0, 0, 0, 0, 0⟩

theorem runOf_datum : runOf pDATUM = some ⟨0x008, 1, .datum, 0x0010⟩ := rfl

theorem rowAt_stepLimit : rowAt pDATUM 0x58 = some rowStepLimit := by decide

theorem busWrite_stepLimit (w : Word) (src : Source) (hacc : s.accepts pDATUM = true) :
    s.busWrite pDATUM 0x58 0xFFFFFFFF w src = s.wr pDATUM 0x58 w := by
  have hnow : s.pageNow .datum pDATUM = s := rfl
  have hmask : s.writable pDATUM rowStepLimit = 0xFFFFFFFF := by
    simp [State.writable, rowStepLimit, w32]
  have hstore : s.storeReg pDATUM 0x58 rowStepLimit 0xFFFFFFFF w = s.wr pDATUM 0x58 w := by
    have hbits : w32 rowStepLimit.w1c = 0 := rfl
    rw [RegWrites.storeReg_oneWord w rfl rfl, RegWrites.stored, hmask, hbits]
    simp [and_wordOnes]
  rw [State.busWrite_row _ _ _ _ runOf_datum rowAt_stepLimit, hnow, State.regWrite_accepts hacc]
  simp [State.writeEff, State.effTime]
  exact hstore

/-- A field that is a whole word reads as the word stored. -/
theorem get_wr_word (p off : Nat) (w : Word) : (s.wr p off w).get p ⟨off, 0, 32⟩ = w.toNat := by
  have hw : w.toNat < 2 ^ 32 := w.isLt
  have hwide : (s.wr p off w).wide p off 1 = w.toNat := by
    simp only [State.wide, RegWrites.rd_wr_same, Nat.mul_zero, Nat.add_zero]
  rw [State.get, show (⟨off, 0, 32⟩ : Fld).words = 1 by simp [Fld.words], hwide, natField, Nat.pow_zero, Nat.div_one,
    Nat.mod_eq_of_lt hw]

/-- The four bytes of a write in the lower half of its block. -/
theorem blockWord_half (b0 b1 b2 b3 : Byte) : blockWord [b0, b1, b2, b3, 0, 0, 0, 0] 0 = w32 (ofLE [b0, b1, b2, b3]) := by
  have hslice : slice [b0, b1, b2, b3, 0, 0, 0, 0] (4 * 0) 4 = [b0, b1, b2, b3] := rfl
  rw [blockWord, hslice]

theorem writeHalf_stepLimit {a : Nat} (b0 b1 b2 b3 : Byte) (src : Source) (hat : adrLocal a = stepLimitAt)
    (hacc : s.accepts pDATUM = true) :
    s.writeHalf a 15 [b0, b1, b2, b3, 0, 0, 0, 0] src 0 = s.wr pDATUM 0x58 (w32 (ofLE [b0, b1, b2, b3])) := by
  have hmask : natField 15 (4 * 0) 4 = 15 := by decide
  have hpage : regPage (stepLimitAt + 4 * 0) = pDATUM := by decide
  have hoff : regOff (stepLimitAt + 4 * 0) = 0x58 := by decide
  unfold State.writeHalf
  simp only [hat, hmask, hpage, hoff, runOf_datum, rowAt_stepLimit, Option.isSome_some, Bool.and_self, decide_true, if_true,
    blockWord_half]
  exact busWrite_stepLimit _ src hacc

/-- A write of the register pages goes word by word (R380). -/
theorem localWrite_regs {a : Nat} (m : Nat) (d : List Byte) (src : Source) (h : rangeOf (adrLocal a) = .regs) :
    s.localWrite a m d src = (halves m).foldl (fun st h => st.writeHalf a m d src h) s := by
  unfold State.localWrite
  simp only [h]

theorem localWrite_stepLimit {a : Nat} (b0 b1 b2 b3 : Byte) (src : Source) (hat : adrLocal a = stepLimitAt)
    (hacc : s.accepts pDATUM = true) :
    s.localWrite a 15 [b0, b1, b2, b3, 0, 0, 0, 0] src = s.wr pDATUM 0x58 (w32 (ofLE [b0, b1, b2, b3])) := by
  have hrange : rangeOf stepLimitAt = .regs := by decide
  have hone : halves 15 = [0] := by decide
  rw [localWrite_regs 15 _ src (hat ▸ hrange), hone, List.foldl_cons, List.foldl_nil,
    writeHalf_stepLimit b0 b1 b2 b3 src hat hacc]

theorem eight_dvd_of_stepLimitAt {a : Nat} (h : adrLocal a = stepLimitAt) : 8 ∣ a := by
  have hmod : a % 2 ^ 38 % 8 = 0 := by
    rw [show a % 2 ^ 38 = stepLimitAt from h]
    rfl
  rw [Nat.mod_mod_of_dvd a (by decide : 8 ∣ 2 ^ 38)] at hmod
  exact Nat.dvd_of_mod_eq_zero hmod

/-- A write of the host of four bytes to STEP_LIMIT of this hub through a window stores them (R378, R380). -/
theorem hostWrite_stepLimit {off : Nat} {b0 b1 b2 b3 : Byte} (hoff : off < 2 ^ 32) (hon : s.coreOn = true)
    (hlink : s.bridge.linkUp = true) (hrun : s.running pWINDOWS = true) (hblocked : s.bridge.blocked = [])
    (hrh : s.bridge.rh = []) (hwait : s.mustWait (decoded s (hostReqAt off 4 0 false [some b0, some b1, some b2, some b3])) = false)
    (hopen : windowOpen s (decoded s ⟨off, 4, 0, false, [some b0, some b1, some b2, some b3], 0, false⟩))
    (hnode : adrNode (winAddr (s.winReg (winOf off)) off) = s.nid)
    (hmember : adrMember (winAddr (s.winReg (winOf off)) off) = s.member)
    (hat : adrLocal (winAddr (s.winReg (winOf off)) off) = stepLimitAt) (hacc : s.accepts pDATUM = true) :
    let t := s.hostIn (hostReqAt off 4 0 false [some b0, some b1, some b2, some b3])
    t.get pDATUM F.DATUM.STEP_LIMIT.LIMIT = ofLE [b0, b1, b2, b3] ∧ t.bridge = s.bridge := by
  intro t
  rw [hostReqAt_low hoff] at hwait
  obtain ⟨q, hq⟩ := eight_dvd_of_stepLimitAt hat
  obtain ⟨r, hr⟩ : ∃ r, r = decoded s ⟨off, 4, 0, false, [some b0, some b1, some b2, some b3], 0, false⟩ := ⟨_, rfl⟩
  have hserved : t = (s.hostReq r).classGo := by
    unfold t
    rw [hostReqAt_low hoff, hr]
    exact hostIn_served rfl hon hlink hrun (hrRoom_empty hblocked _) hwait
  have hlocal : s.hostReq r = s.localReq r (winAddr (s.winReg (winOf off)) off)
      (blocksOf (winAddr (s.winReg (winOf off)) off) [some b0, some b1, some b2, some b3]) := by
    rw [hr]
    exact hostReq_local rfl hopen hnode hmember
  have hwritten : s.hostReq r = s.wr pDATUM 0x58 (w32 (ofLE [b0, b1, b2, b3])) := by
    have hwrite : r.isRead = false := by rw [hr]; rfl
    rw [hlocal]
    rw [hq] at hat ⊢
    rw [State.localReq, hwrite, if_neg Bool.false_ne_true, blocksOf_half, List.foldl_cons, List.foldl_nil]
    exact localWrite_stepLimit b0 b1 b2 b3 _ hat hacc
  obtain ⟨hbridge, hregs, -⟩ := classGo_of_empty (s := s.wr pDATUM 0x58 (w32 (ofLE [b0, b1, b2, b3]))) hblocked hrh
  rw [hserved, hwritten, hbridge, State.get_congr hregs]
  refine ⟨(get_wr_word _ _ _).trans ?_, rfl⟩
  have hlt : ofLE [b0, b1, b2, b3] < 2 ^ 32 := by simpa using ofLE_lt [b0, b1, b2, b3]
  rw [w32, BitVec.toNat_ofNat, Nat.mod_eq_of_lt hlt]

/-! The transmit ring of the host (R388). -/

theorem txFetch_only : Kept (frameScope [] (fun _ => false) [.bridge]) s s.txFetch := txFetch_kept (.refl _ s) rfl

theorem get_txFetch (p : Nat) (f : Fld) : s.txFetch.get p f = s.get p f := txFetch_only.get_of_page rfl f

theorem rhGo_linkUp : s.rhGo.bridge.linkUp = s.bridge.linkUp := by unfold State.rhGo; split <;> rfl

theorem txFetch_linkUp : s.txFetch.bridge.linkUp = s.bridge.linkUp := by
  have hposted (l : List Nat) (g : Nat → HostMsg) : (l.foldl (fun st i => st.postRh (g i)) s).bridge.linkUp = s.bridge.linkUp :=
    List.foldlRecOn (motive := fun t : State => t.bridge.linkUp = s.bridge.linkUp) l _ rfl
      fun t ht i _ => (rhGo_linkUp (s := { t with bridge := { t.bridge with rh := t.bridge.rh ++ [g i] } })).trans ht
  unfold State.txFetch State.txFetchOne
  extract_lets next slot a s1
  split
  · split
    · exact hposted _ _
    · rfl
  · rfl

/-- The row of TX_TAIL (R391). -/
def rowTxTail : RegRow := ⟨.bridge, 0xBC, 1, 0x0, 1, 0x0, 0, 1, 0, 0xFFFFFFFF, 0, 0, 0, 0, 0⟩

theorem runOf_bridge : runOf pBRIDGE = some ⟨0x0B0, 1, .bridge, 0x0070⟩ := rfl

theorem rowAt_txTail : rowAt pBRIDGE 0xBC = some rowTxTail := by decide

/-- A write of TX_TAIL stores it and may begin a fetch. -/
theorem busWrite_txTail (w : Word) (src : Source) (hacc : s.accepts pBRIDGE = true) :
    s.busWrite pBRIDGE 0xBC 0xFFFFFFFF w src = (s.wr pBRIDGE 0xBC w).txFetch := by
  have hnow : s.pageNow .bridge pBRIDGE = s := rfl
  have hmask : s.writable pBRIDGE rowTxTail = 0xFFFFFFFF := by
    simp [State.writable, rowTxTail, w32]
  have hstore : s.storeReg pBRIDGE 0xBC rowTxTail 0xFFFFFFFF w = s.wr pBRIDGE 0xBC w := by
    have hbits : w32 rowTxTail.w1c = 0 := rfl
    rw [RegWrites.storeReg_oneWord w rfl rfl, RegWrites.stored, hmask, hbits]
    simp [and_wordOnes]
  rw [State.busWrite_row _ _ _ _ runOf_bridge rowAt_txTail, hnow, State.regWrite_accepts hacc, ← hstore]
  simp [State.writeEff, State.effNet]

/-- What follows the end of a slot of the ring. -/
def slotDone (s : State) (n : Nat) : State :=
  let s3 := s.set pBRIDGE F.BRIDGE.TX_HEAD.SLOT (n + 1)
  (if s3.get pBRIDGE F.BRIDGE.TX_HEAD.SLOT = s3.get pBRIDGE F.BRIDGE.TX_TAIL.SLOT then s3.event pBRIDGE 11 else s3).txFetch

theorem txSlotIn_cons {n : Nat} {l : List Nat} (header frame : List Byte) (h : s.bridge.txReads = n :: l) :
    let s1 : State := { s with bridge := { s.bridge with txReads := l } }
    s.txSlotIn header frame =
      slotDone (if slotOk header frame then s1.hostSend header frame else s1.bump pBRIDGE F.BRIDGE.TXBAD.COUNT) n := by
  unfold State.txSlotIn slotDone
  simp only [h]

theorem slotDone_only {n : Nat} :
    Kept (frameScope [(pBRIDGE, [F.BRIDGE.TX_HEAD.SLOT, ⟨0x0C, 11, 1⟩])] (fun _ => false) [.bridge]) s (slotDone s n) := by
  have hset : Kept (frameScope [(pBRIDGE, [F.BRIDGE.TX_HEAD.SLOT, ⟨0x0C, 11, 1⟩])] (fun _ => false) [.bridge]) s
      (s.set pBRIDGE F.BRIDGE.TX_HEAD.SLOT (n + 1)) := set_kept (.refl _ s) (frameScope_fld_of_names rfl)
  exact txFetch_kept (.ite (event_kept hset (frameScope_fld_of_names rfl)) hset) rfl

theorem slotDone_head (n : Nat) : (slotDone s n).get pBRIDGE F.BRIDGE.TX_HEAD.SLOT = (n + 1) % 2 ^ F.BRIDGE.TX_HEAD.SLOT.w := by
  unfold slotDone
  extract_lets s3
  have hhead : s3.get pBRIDGE F.BRIDGE.TX_HEAD.SLOT = (n + 1) % 2 ^ F.BRIDGE.TX_HEAD.SLOT.w :=
    State.get_set_same _ _ _ _ (by decide)
  rw [get_txFetch]
  split
  · rw [State.event_get, State.get_set_beside _ _ _ (by decide) (by decide) (by decide), hhead]
  · exact hhead

/-- The ring is empty again when the head has reached the tail. -/
theorem slotDone_empty {n : Nat} (h : s.get pBRIDGE F.BRIDGE.TX_TAIL.SLOT = (n + 1) % 2 ^ F.BRIDGE.TX_HEAD.SLOT.w) :
    (slotDone s n).get pBRIDGE ⟨0x0C, 11, 1⟩ = 1 := by
  unfold slotDone
  extract_lets s3
  have hsame : s3.get pBRIDGE F.BRIDGE.TX_HEAD.SLOT = s3.get pBRIDGE F.BRIDGE.TX_TAIL.SLOT := by
    unfold s3
    rw [State.get_set_same _ _ _ _ (by decide), State.get_set_beside _ _ _ (by decide) (by decide) (by decide), h]
  rw [get_txFetch, if_pos hsame]
  exact State.get_event_same _ (by decide)

/-- A slot that is not in order is counted. -/
theorem slotDone_bad (n : Nat) :
    (slotDone (s.bump pBRIDGE F.BRIDGE.TXBAD.COUNT) n).get pBRIDGE F.BRIDGE.TXBAD.COUNT =
      (s.get pBRIDGE F.BRIDGE.TXBAD.COUNT + 1) % 2 ^ F.BRIDGE.TXBAD.COUNT.w ∧
    (slotDone (s.bump pBRIDGE F.BRIDGE.TXBAD.COUNT) n).sw = s.sw := by
  have hsw : (slotDone (s.bump pBRIDGE F.BRIDGE.TXBAD.COUNT) n).sw = (s.bump pBRIDGE F.BRIDGE.TXBAD.COUNT).sw :=
    slotDone_only.part .sw rfl
  rw [slotDone_only.get_eq (by decide), State.bump_set, State.get_set_same _ _ _ _ (by decide), ← State.bump_set, hsw, State.bump_set]
  exact ⟨rfl, by simp⟩

theorem hostSend_only (header frame : List Byte) : Kept Publication.ringSendScope s (s.hostSend header frame) :=
  have hHSR := Publication.ringSend_page (.inl rfl)
  have hSWITCH := Publication.ringSend_page (.inr (.inl rfl))
  have hCAPTURE := Publication.ringSend_page (.inr (.inr (.inl rfl)))
  have hBUFMEM := Publication.ringSend_page (.inr (.inr (.inr rfl)))
  hostSend_kept (.refl _ s) rfl rfl hHSR.fld hSWITCH.fld hSWITCH.fld Publication.ringSend_port hCAPTURE.fld hCAPTURE.fld
    hCAPTURE.fld hCAPTURE.fld hBUFMEM.fld

/-! The PCIe link (R392). -/

/-- A change of the link is taken over and shown. -/
theorem pcieLink_shows {up : Bool} (hon : s.coreOn = true) (h : s.bridge.linkUp ≠ up) :
    (s.pcieLink up).bridge.linkUp = up ∧ (s.pcieLink up).get pBRIDGE ⟨0x0C, 14, 1⟩ = 1 := by
  have hgo : (!s.coreOn || s.bridge.linkUp == up) = false := by simp [hon, h]
  rw [State.pcieLink, hgo, if_neg Bool.false_ne_true, txFetch_linkUp, rhGo_linkUp, get_txFetch, State.get_rhGo, State.event_bridge]
  exact ⟨rfl, State.get_event_same _ (by decide)⟩

/-- Settles O36: accesses of the host through BAR2, the transmit ring and the PCIe link. -/
theorem hostAccesses : Obligations.HostAccesses := by
  refine ⟨?_, ?_, ?_, ?_, ?_, ?_, ?_, ?_⟩
  · intro clk off tag s hoff hup hrun hidle hwait hwin herr hhere hrange height
    exact ⟨_, rfl, hostRead_book (s := s.advance clk) hoff hup.1 hup.2 hrun hidle.1 hidle.2
      ((mustWait_advance clk _).trans hwait) (windowOpen_advance ⟨hwin.1, hwin.2, .inl rfl, herr⟩)
      (hhere.1.trans (nid_advance clk).symm) (hhere.2.trans (member_advance clk).symm) hrange height⟩
  · intro clk off len tag s hoff hup hrun hidle hwait hwin herr hthere
    obtain ⟨h0, hnode, hlt⟩ := hthere
    exact ⟨_, rfl, hostRead_remote (s := s.advance clk) hoff hup.1 hup.2 hrun hidle.1 hidle.2
      ((mustWait_advance clk _).trans hwait) (windowOpen_advance ⟨hwin.1, hwin.2, .inl rfl, herr⟩) h0
      (fun h => hnode (h.trans (nid_advance clk))) hlt⟩
  · intro clk off b0 b1 b2 b3 s hoff hup hrun hidle hwait hwin herr hhere hat hacc
    obtain ⟨hon, hmay, hrsv⟩ := hwin
    simp only [hostReqAt_low hoff] at hwait
    have hwaits : (s.advance clk).mustWait (decoded (s.advance clk) (hostReqAt off 4 0 false [some b0, some b1, some b2, some b3])) =
        false := by
      rw [hostReqAt_low hoff]
      exact (mustWait_advance clk _).trans hwait
    exact ⟨_, rfl, hostWrite_stepLimit (s := s.advance clk) hoff hup.1 hup.2 hrun hidle.1 hidle.2 hwaits
      (windowOpen_advance ⟨hon, hrsv, .inr hmay, herr⟩)
      (hhere.1.trans (nid_advance clk).symm) (hhere.2.trans (member_advance clk).symm) hat hacc⟩
  · intro clk off data s hoff hup hrun hroom hheld hwait
    simp only [hostReqAt_low hoff] at hwait ⊢
    have hwaits : (s.advance clk).mustWait (decoded (s.advance clk) (hostReqAt off data.length 0 false data)) = true := by
      rw [hostReqAt_low hoff]
      exact (mustWait_advance clk _).trans hwait
    have hjoins := hostWrite_waits (s := s.advance clk) hoff hup.1 hup.2 hrun hroom hheld hwaits
    rw [hostReqAt_low hoff] at hjoins
    exact ⟨_, congrArg (fun r => Host.Outcome.next ((s.advance clk).hostIn r)) (hostReqAt_low hoff _ _ _ _), hjoins⟩
  · intro clk slot s hacc hslot
    refine ⟨_, rfl, ?_⟩
    rw [busWrite_txTail _ _ hacc, get_txFetch]
    exact (get_wr_word _ _ _).trans (Nat.mod_eq_of_lt (by omega))
  · intro clk n header frame l s hreads hbad hmore
    refine ⟨_, rfl, ?_⟩
    rw [txSlotIn_cons (s := s.advance clk) header frame hreads, if_neg (by rw [hbad]; exact Bool.false_ne_true)]
    obtain ⟨hcount, hsw⟩ := slotDone_bad (s := { s.advance clk with bridge := { s.bridge with txReads := l } }) n
    exact ⟨slotDone_head n, hcount.trans (congrArg (fun x => (x + 1) % 2 ^ F.BRIDGE.TXBAD.COUNT.w)
      (State.get_of_words fun _ _ => rfl)), congrArg SwitchSt.txq hsw⟩
  · intro clk n header frame l s hreads hok hlast
    refine ⟨_, rfl, ?_⟩
    rw [txSlotIn_cons (s := s.advance clk) header frame hreads, if_pos hok]
    have hsent (f : Fld) : (State.hostSend { s.advance clk with bridge := { s.bridge with txReads := l } } header frame).get
        pBRIDGE f = s.get pBRIDGE f :=
      ((hostSend_only header frame).get_of_page (p := pBRIDGE) (by decide) f).trans (State.get_of_words fun _ _ => rfl)
    exact ⟨slotDone_head n, slotDone_empty ((hsent _).trans hlast), (slotDone_only.get_eq (by decide)).trans (hsent _)⟩
  · intro clk up s hon hchange
    exact ⟨_, rfl, pcieLink_shows (s := s.advance clk) hon hchange.mp⟩

end Sys2Proof.HostAccess
end

section
/-!
PROOFS. O35: reception, duplicate entries, the banks of the buffer memory and TX_AN (R312, R344, R349–R352, R358).
-/

open Sys2Proof Sys2Proof.Machine Sys2Proof.Laws

namespace Sys2Proof.SwitchReception
variable {s t r : State}

/-!
The counters 0 to 8 of a port (R312, R328) are those of reception. Everything that a received frame leads to but its own judgement, from its
place in a transmit queue to the end of a frame that leaves, counts under 9 to 19.
-/

/-- A word of one of the reception counters of a port. -/
def rxCounterKey (k : Nat) : Bool :=
  decide (0x80 ≤ k / 4096 ∧ k / 4096 < 0x97) && decide (0x200 ≤ k % 4096 ∧ k % 4096 < 0x248)

/-- Every part of the state but the reception counters. -/
def rxScope : Scope where
  reg k := !rxCounterKey k
  part _ := true

theorem pPORT_port (n : Nat) : 0x80 ≤ pPORT n ∧ pPORT n < 0x97 := by
  unfold pPORT
  split <;> omega

theorem rxScope_page {p : Nat} (hp : p < 0x80 ∨ 0x97 ≤ p) : rxScope.page p := fun off => by
  simp only [rxScope, rxCounterKey, regKey_page, Bool.not_eq_true', Bool.and_eq_false_iff, decide_eq_false_iff_not]
  omega

/-- A field of one page beside the reception counters. -/
theorem rxScope_fld {p : Nat} {f : Fld} (hf : ∀ i, i < f.words → ¬ (0x200 ≤ (f.off + 4 * i) % 4096 ∧ (f.off + 4 * i) % 4096 < 0x248)) :
    rxScope.fld p f := fun i hi => by
  have hoff : regKey p (f.off + 4 * i) % 4096 = (f.off + 4 * i) % 4096 := by unfold regKey; omega
  simp only [rxScope, rxCounterKey, hoff, Bool.not_eq_true', Bool.and_eq_false_iff, decide_eq_false_iff_not]
  exact Or.inr (hf i hi)

/-- A counter of a port is two words. -/
theorem portCtr_words (i : Nat) : (portCtr i).words = 2 := by
  show (0 + 64 + 31) / 32 = 2
  decide

/-- The counters from 9 up are none of reception. -/
theorem rxScope_counter (p : Nat) {j : Nat} (hlow : 9 ≤ j) (hhigh : j < 20) : rxScope.fld p (portCtr j) := by
  refine rxScope_fld fun i hi => ?_
  have hi : i < 2 := portCtr_words j ▸ hi
  have hoff : (portCtr j).off = 0x200 + 8 * j := rfl
  omega

theorem rxScope_event (p b : Nat) (hb : b < 32) : rxScope.fld p ⟨12, b, 1⟩ := by
  refine rxScope_fld fun i hi => ?_
  have hi : i < (b + 1 + 31) / 32 := hi
  show ¬ (0x200 ≤ (12 + 4 * i) % 4096 ∧ (12 + 4 * i) % 4096 < 0x248)
  omega

theorem rxScope_hsr : rxScope.page pHSR := rxScope_page (by decide)
theorem rxScope_switch : rxScope.page pSWITCH := rxScope_page (by decide)
theorem rxScope_stamp : rxScope.page pSTAMP := rxScope_page (by decide)
theorem rxScope_capture : rxScope.page pCAPTURE := rxScope_page (by decide)
theorem rxScope_bufmem : rxScope.page pBUFMEM := rxScope_page (by decide)
theorem rxScope_macsec : rxScope.page pMACSEC := rxScope_page (by decide)
theorem rxScope_sys : rxScope.page pSYS := rxScope_page (by decide)
theorem rxScope_bridge : rxScope.page pBRIDGE := rxScope_page (by decide)
theorem rxScope_fdb : rxScope.page pFDB := rxScope_page (by decide)

/-- An operation that keeps the reception counters of all ports. -/
abbrev KeepsRx (r s : State) : Prop := Kept rxScope r s

/-- What such an operation leaves of a reception counter. -/
theorem KeepsRx.counter (h : KeepsRx s t) (n : Nat) {i : Nat} (hi : i < 9) : t.get (pPORT n) (portCtr i) = s.get (pPORT n) (portCtr i) := by
  refine h.get_eq fun k hk => ?_
  have hk : k < 2 := portCtr_words i ▸ hk
  have hoff : (portCtr i).off = 0x200 + 8 * i := rfl
  have hword : regKey (pPORT n) ((portCtr i).off + 4 * k) % 4096 = 0x200 + 8 * i + 4 * k := by
    unfold regKey
    omega
  have hport := pPORT_port n
  simp only [rxScope, rxCounterKey, regKey_page, hword, Bool.not_eq_false', Bool.and_eq_true, decide_eq_true_eq]
  omega

/-! Copies in the transmit queues (R317, R341–R343, R353, R360). -/

theorem capture_keepsRx {n : Nat} {ft : Fate} {f : Frame} (h : KeepsRx r s) : KeepsRx r (s.capture n ft f) :=
  capture_kept h rfl rfl rxScope_capture.fld rxScope_capture.fld rxScope_capture.fld rxScope_capture.fld

theorem rxDrop_keepsRx {n reason : Nat} {stamp : Option Nat} {f : Frame} (h : KeepsRx r s) : KeepsRx r (s.rxDrop n reason stamp f) :=
  rxDrop_kept h rfl rfl rxScope_capture.fld rxScope_capture.fld rxScope_capture.fld rxScope_capture.fld

theorem bufDrop_keepsRx (h : KeepsRx r s) : KeepsRx r s.bufDrop := bufDrop_kept h rxScope_switch.fld rxScope_switch.fld

theorem noPath_keepsRx (h : KeepsRx r s) : KeepsRx r s.noPath := noPath_kept h rxScope_switch.fld rxScope_switch.fld

theorem enqueue_keepsRx {q : QFrame} (h : KeepsRx r s) : KeepsRx r (s.enqueue q) :=
  enqueue_kept h rfl rfl (rxScope_counter _ (by decide) (by decide)) (rxScope_counter _ (by decide) (by decide)) rxScope_capture.fld
    rxScope_capture.fld rxScope_capture.fld rxScope_capture.fld (rxScope_counter _ (by decide) (by decide)) rxScope_bufmem.fld

theorem sendForms_keepsRx {f : Frame} {l : List (Nat × Frame)} {q tag : Option Nat} (h : KeepsRx r s) : KeepsRx r (s.sendForms f l q tag) :=
  Kept.ite (bufDrop_keepsRx h) (Kept.foldl (fun _ _ hx => enqueue_keepsRx hx) _ _ (storeFrame_kept h rfl))

theorem sendCopies_keepsRx {ports : List Nat} {f : Frame} {q tag : Option Nat} (h : KeepsRx r s) : KeepsRx r (s.sendCopies ports f q tag) :=
  sendForms_keepsRx h

theorem sendMember_keepsRx {k : Nat} {f : Frame} {q : Option Nat} (h : KeepsRx r s) : KeepsRx r (s.sendMember k f q) := by
  unfold State.sendMember
  split
  · exact sendCopies_keepsRx h
  · exact noPath_keepsRx h

theorem sendRing_keepsRx {f : Frame} (h : KeepsRx r s) : KeepsRx r (s.sendRing f) :=
  Kept.ite (sendCopies_keepsRx (hsrTag_kept h rxScope_hsr.fld)) (sendMember_keepsRx h)

theorem claimSeen_keepsRx {n : Nat} {f : Frame} (h : KeepsRx r s) : KeepsRx r (s.claimSeen n f) :=
  Kept.ite (Kept.dup (event_kept (sendRing_keepsRx h) (rxScope_page (by decide)).fld) rfl) h

/-! Copies that leave at once or enter a queue (R314, R336, R353). -/

theorem settle_keepsRx {n : Nat} (h : KeepsRx r s) : KeepsRx r (s.settle n) :=
  settle_kept h rfl rfl rfl rfl rfl rfl rfl rxScope_stamp.fld rxScope_stamp.fld rxScope_capture.fld rxScope_capture.fld rxScope_capture.fld
    rxScope_capture.fld rxScope_stamp.fld rxScope_stamp.fld rxScope_stamp.fld (rxScope_counter _ (by decide) (by decide))
    (rxScope_counter _ (by decide) (by decide)) (rxScope_counter _ (by decide) (by decide))

theorem cutStart_keepsRx {raw : Nat} {x : QFrame} {stomp : Bool} {rd : TxRead} (h : KeepsRx r s) : KeepsRx r (s.cutStart raw x stomp rd) :=
  cutStart_kept h rfl rfl rfl rfl (rxScope_counter _ (by decide) (by decide)) (rxScope_counter _ (by decide) (by decide)) rxScope_capture.fld
    rxScope_capture.fld rxScope_capture.fld rxScope_capture.fld rxScope_switch.fld rxScope_bufmem rxScope_switch.fld rxScope_switch.fld
    rxScope_macsec.fld rxScope_macsec.fld rxScope_macsec.fld

theorem cutCopies_keepsRx {n stamp raw : Nat} {stomp : Bool} {rd : TxRead} {f : Frame} {l : List (Nat × Frame)} (h : KeepsRx r s) :
    KeepsRx r (s.cutCopies n stamp raw stomp rd f l) :=
  Kept.foldl (fun _ _ hx => Kept.cut (fun hsettled => Kept.ite (cutStart_keepsRx hsettled) hsettled) (settle_keepsRx hx)) _ _
    (copies_kept h rfl)

theorem forward_keepsRx {raw : Nat} {rd : TxRead} {x : QFrame} (h : KeepsRx r s) : KeepsRx r (s.forward raw rd x) :=
  Kept.cut (fun hsettled => Kept.ite (cutStart_keepsRx hsettled) (bump_kept (enqueue_keepsRx hsettled) rxScope_switch.fld)) (settle_keepsRx h)

theorem forwardAll_keepsRx {n stamp raw : Nat} {rd : TxRead} {f : Frame} {l : List (Nat × Frame)} (h : KeepsRx r s) :
    KeepsRx r (s.forwardAll n stamp raw rd f l) :=
  Kept.foldl (fun _ _ hx => forward_keepsRx hx) _ _ (copies_kept h rfl)

theorem copiesOf_keepsRx {n map vid : Nat} {f : Frame} (h : KeepsRx r s) : KeepsRx r (s.copiesOf n map vid f).1 :=
  copiesOf_kept h rxScope_switch.fld rxScope_switch.fld rxScope_hsr.fld

theorem toGang_keepsRx {n vid : Nat} {f : Frame} (h : KeepsRx r s) : KeepsRx r (s.toGang n vid f).1 :=
  toGang_kept h rxScope_switch.fld rxScope_switch.fld

theorem gangRelay_keepsRx {n vid : Nat} {f : Frame} (h : KeepsRx r s) : KeepsRx r (s.gangRelay n vid f).1 :=
  gangRelay_kept h rxScope_switch.fld rxScope_switch.fld rxScope_hsr.fld

theorem deliver_keepsRx {n map : Nat} {stamp : Option Nat} {rd : TxRead} {f : Frame} (h : KeepsRx r s) :
    KeepsRx r (s.deliver n map stamp rd f) :=
  deliver_kept h rfl rfl rfl rxScope_sys.fld rxScope_bufmem rxScope_bridge.fld rxScope_bridge.fld rxScope_bridge.fld

theorem learn_keepsRx {n mac vid : Nat} (h : KeepsRx r s) : KeepsRx r (s.learn n mac vid) :=
  learn_kept h rfl rxScope_fdb.fld rxScope_fdb.fld rxScope_fdb.fld rxScope_fdb.fld rxScope_fdb.fld

/-! Frames of the ring (R346–R348). -/

theorem hsrTrim_keepsRx (h : KeepsRx r s) : KeepsRx r s.hsrTrim := hsrTrim_kept h rfl rxScope_hsr.fld

theorem hsrEntry_keepsRx {src seq raw : Nat} (h : KeepsRx r s) : KeepsRx r (s.hsrEntry src seq raw).1 :=
  hsrEntry_kept h rfl rxScope_hsr.fld rxScope_hsr.fld rxScope_hsr.fld

theorem setHsr_keepsRx {l : List HsrEnt} (h : KeepsRx r s) : KeepsRx r (s.setHsr l) := setHsr_kept h rfl rxScope_hsr.fld

theorem bumpHsr_keepsRx {f : Fld} (h : KeepsRx r s) : KeepsRx r (s.bump pHSR f) := bump_kept h rxScope_hsr.fld

theorem rxDropMap_keepsRx {n reason map : Nat} {stamp : Option Nat} {f : Frame} (h : KeepsRx r s) :
    KeepsRx r (s.rxDropMap n reason map stamp f) :=
  rxDropMap_kept h rfl rfl rxScope_capture.fld rxScope_capture.fld rxScope_capture.fld rxScope_capture.fld

theorem hsrFailed_keepsRx {n map vid : Nat} {stomp : Bool} {at_ : RxAt} {rd : TxRead} {f : Frame} {h : HsrTag} (hk : KeepsRx r s) :
    KeepsRx r (s.hsrFailed n map vid stomp at_ rd f h) := by
  unfold State.hsrFailed
  extract_lets s0 old entry e e1 s1 loc gang
  have htrim : KeepsRx r s0 := hsrTrim_keepsRx hk
  have hentered : KeepsRx r s1 := setHsr_keepsRx (hsrEntry_keepsRx htrim)
  have hcopies : KeepsRx r loc.1 := Kept.iteFst hentered (copiesOf_keepsRx hentered)
  have hgang : KeepsRx r gang.1 := Kept.iteFst hcopies (toGang_keepsRx hcopies)
  exact Kept.ite htrim (Kept.ite hentered (cutCopies_keepsRx hgang))

theorem hsrRx_keepsRx {n map vid : Nat} {stamp : Option Nat} {at_ : RxAt} {rd : TxRead} {f : Frame} {h : HsrTag} (hk : KeepsRx r s) :
    KeepsRx r (s.hsrRx n map vid stamp at_ rd f h) := by
  unfold State.hsrRx
  extract_lets s0 entry e opp ends seen here fresh e1 s1 s2 s3 late s4 s5 loc gang s6 s7
  have htrim : KeepsRx r s0 := hsrTrim_keepsRx hk
  have hentered : KeepsRx r s1 := setHsr_keepsRx (hsrEntry_keepsRx htrim)
  have hseen : KeepsRx r s2 := Kept.ite (bumpHsr_keepsRx hentered) hentered
  have hduplicate : KeepsRx r s3 := Kept.ite (bumpHsr_keepsRx hseen) hseen
  have hlate : KeepsRx r s4 := Kept.ite (event_kept (bumpHsr_keepsRx hduplicate) rxScope_hsr.fld) hduplicate
  have hcaptured : KeepsRx r s5 := capture_keepsRx hlate
  have hcopies : KeepsRx r loc.1 := Kept.iteFst (copiesOf_keepsRx hcaptured) hcaptured
  have hgang : KeepsRx r gang.1 := Kept.iteFst (toGang_keepsRx hcopies) hcopies
  have hforwarded : KeepsRx r s6 := forwardAll_keepsRx hgang
  have hdelivered : KeepsRx r s7 := Kept.ite (deliver_keepsRx hforwarded) hforwarded
  exact Kept.ite (rxDropMap_keepsRx (bumpHsr_keepsRx htrim)) (Kept.ite (rxDrop_keepsRx (noPath_keepsRx htrim))
    (Kept.ite (rxDropMap_keepsRx hlate) (learn_keepsRx hdelivered)))

/-! A frame at the switch (R312, R336, R353). -/

theorem failedIn_keepsRx {n : Nat} {stomp : Bool} {at_ : RxAt} {rd : TxRead} {f : Frame} (h : KeepsRx r s) :
    KeepsRx r (s.failedIn n stomp at_ rd f) := by
  unfold State.failedIn
  refine Kept.ite h ?_
  dsimp only
  split
  · exact Kept.ite (hsrFailed_keepsRx h) h
  · exact h
  · exact cutCopies_keepsRx (Kept.iteFst (gangRelay_keepsRx h) (copiesOf_keepsRx h))

theorem switchIn_keepsRx {n : Nat} {stamp : Option Nat} {at_ : RxAt} {rd : TxRead} {f : Frame} (h : KeepsRx r s) :
    KeepsRx r (s.switchIn n stamp at_ rd f) := by
  unfold State.switchIn
  extract_lets eapol probe exempt vid map bad s1 copies
  have hcopies : KeepsRx r copies.1 := Kept.iteFst (gangRelay_keepsRx (capture_keepsRx h)) (copiesOf_keepsRx (capture_keepsRx h))
  refine Kept.ite (rxDrop_keepsRx h) (Kept.ite (rxDrop_keepsRx (bufDrop_keepsRx h)) (Kept.ite ?_ (Kept.ite ?_
    (Kept.ite (rxDrop_keepsRx (noPath_keepsRx h)) (Kept.ite ?_ ?_)))))
  · exact rxDrop_keepsRx (event_kept (bump_kept h rxScope_switch.fld) rxScope_switch.fld)
  · exact learn_keepsRx (deliver_keepsRx (capture_keepsRx h))
  · exact rxDrop_keepsRx (event_kept (bumpHsr_keepsRx h) rxScope_hsr.fld)
  · split
    · exact Kept.ite (rxDrop_keepsRx (hsrFailed_keepsRx h)) (hsrRx_keepsRx h)
    · exact Kept.ite (rxDrop_keepsRx h) (Kept.ite (rxDrop_keepsRx (noPath_keepsRx h))
        (learn_keepsRx (deliver_keepsRx (forwardAll_keepsRx hcopies))))

theorem verify_keepsRx {n : Nat} {f : Frame} (h : KeepsRx r s) : KeepsRx r (s.verify n f).1 :=
  verify_kept h rfl rxScope_macsec.fld rxScope_macsec.fld rxScope_macsec.fld rxScope_macsec.fld rxScope_macsec.fld

/-! The judgement of a received frame (R312). -/

/-- The pages on which a stamp of a frame that leaves is noted, and the fold of the clock (R72, R94, R360). -/
def markPages (p : Nat) : Bool := p == pDATUM || p == pCAPTURE || p == pSTAMP

def markScope : Scope := frameScope [] markPages [.ports, .mscl, .sw, .mem, .gang, .stamps]

/-- The state in which a received frame is judged. -/
def judged (s : State) (raw : Nat) : State := s.stampsDue.foldMark raw

theorem judged_only (s : State) (raw : Nat) : Kept markScope s (judged s raw) := by
  have hdatum : markScope.page pDATUM := frameScope_page_of_named rfl
  have hcapture : markScope.page pCAPTURE := frameScope_page_of_named rfl
  have hstamp : markScope.page pSTAMP := frameScope_page_of_named rfl
  exact foldMark_kept (stampsDue_kept (Kept.refl _ s) rfl rfl rfl rfl rfl rfl hstamp.fld hstamp.fld hcapture.fld hcapture.fld hcapture.fld
    hcapture.fld hstamp.fld hstamp.fld hstamp.fld) hdatum.fld hdatum.fld

theorem judged_port (s : State) (raw n : Nat) (f : Fld) : (judged s raw).get (pPORT n) f = s.get (pPORT n) f := by
  refine (judged_only s raw).get_of_page ?_ f
  have hport := pPORT_port n
  simp only [markPages, pDATUM, pCAPTURE, pSTAMP, Bool.or_eq_false_iff, beq_eq_false_iff_ne]
  omega

theorem judged_test (s : State) (raw n : Nat) (f : Frame) (c : RxCheck) : (judged s raw).rxTest n f c = s.rxTest n f c := by
  simp only [State.rxTest, judged_port]

theorem rxTest_advance (clk n : Nat) (f : Frame) (c : RxCheck) : (s.advance clk).rxTest n f c = s.rxTest n f c := by
  simp only [State.rxTest, State.get_advance]

/-- The tests count under 2 to 8. -/
theorem rxTest_counter {n : Nat} {f : Frame} {c : RxCheck} {i : Nat} (h : s.rxTest n f c = some i) : 0 < i ∧ i < 9 := by
  unfold State.rxTest at h
  dsimp only at h
  split_ifs at h <;> simp only [Option.some.injEq] at h <;> omega

/-- What the counter of a port becomes. -/
theorem portCount_counter (s : State) (n i k : Nat) (hi : i < 9) :
    (s.portCount n i k).get (pPORT n) (portCtr i) = (s.get (pPORT n) (portCtr i) + k) % 2 ^ 64 := by
  rw [State.portCount, State.bumpBy_set, State.get_set_same _ _ _ _ (by interval_cases i <;> decide)]
  congr 2
  exact State.get_of_words fun _ _ => rfl

theorem portCount_other (s : State) (n i j k : Nat) (hi : i < 9) (hj : j < 9) (hne : i ≠ j) :
    (s.portCount n i k).get (pPORT n) (portCtr j) = s.get (pPORT n) (portCtr j) := by
  refine PortLinks.get_portCount s ?_ (by interval_cases i <;> decide) (by interval_cases j <;> decide)
  have hoff (k : Nat) : (portCtr k).off = 0x200 + 8 * k := rfl
  simp only [Fld.apart, portCtr_words, hoff, Bool.or_eq_true, decide_eq_true_eq]
  omega

/-- A frame that fails a test counts once, under that test. -/
theorem rxFail_counter (s : State) (n i j : Nat) (hi : i < 9) (hj : j < 9) : (s.rxFail n i).get (pPORT n) (portCtr j) =
    if i = j then (s.get (pPORT n) (portCtr i) + 1) % 2 ^ 64 else s.get (pPORT n) (portCtr j) := by
  have hcount : (s.portCount n i).get (pPORT n) (portCtr j) =
      if i = j then (s.get (pPORT n) (portCtr i) + 1) % 2 ^ 64 else s.get (pPORT n) (portCtr j) := by
    split
    case isTrue h => subst h; exact portCount_counter s n i 1 hi
    case isFalse h => exact portCount_other s n i j 1 hi hj h
  have hevent : (s.portCount n i |>.event (pPORT n) 11).get (pPORT n) (portCtr j) = (s.portCount n i).get (pPORT n) (portCtr j) := by
    rw [State.event_get]
    exact State.get_set_beside _ _ _ (by interval_cases j <;> decide) (by decide) (by interval_cases j <;> decide)
  unfold State.rxFail
  dsimp only
  split
  · exact hevent.trans hcount
  · exact hcount

section
variable {n : Nat} {f : Frame} {c : RxCheck}

/-- A frame that a running port with its link up judges and drops. -/
theorem portRx_failed {i : Nat} (hruns : s.running (pPORT n) = true) (hlink : s.linkUp n = true) (htest : s.rxTest n f c = some i) :
    KeepsRx ((judged s (s.rxPoint n f)).rxFail n i) (s.portRx n f c) := by
  have htest' : (s.stampsDue.foldMark (s.rxPoint n f)).rxTest n f c = some i := (judged_test s _ n f c).trans htest
  have hdropped (stamp : Option Nat) :=
    rxDrop_keepsRx (n := n) (reason := 1) (stamp := stamp) (f := f) (Kept.refl rxScope ((judged s (s.rxPoint n f)).rxFail n i))
  unfold State.portRx
  rw [if_neg (by simp [hruns, hlink])]
  dsimp only
  rw [htest']
  exact Kept.ite (failedIn_keepsRx (hdropped _)) (hdropped _)

/-- A frame that passes every test and is not MAC control. -/
theorem portRx_received (hruns : s.running (pPORT n) = true) (hlink : s.linkUp n = true) (htest : s.rxTest n f c = none)
    (htype : f.etype ≠ 0x8808) :
    KeepsRx (((judged s (s.rxPoint n f)).portCount n 0).portCount n 1 (flen f)) (s.portRx n f c) := by
  have htest' : (s.stampsDue.foldMark (s.rxPoint n f)).rxTest n f c = none := (judged_test s _ n f c).trans htest
  have hheard := peerHeard_kept (n := n) (Kept.refl rxScope (((judged s (s.rxPoint n f)).portCount n 0).portCount n 1 (flen f))) rfl
  unfold State.portRx
  rw [if_neg (by simp [hruns, hlink])]
  dsimp only
  rw [htest']
  dsimp only
  rw [if_neg (by simpa using htype)]
  split
  · exact Kept.ite (failedIn_keepsRx (rxDrop_keepsRx (verify_keepsRx hheard))) (rxDrop_keepsRx (verify_keepsRx hheard))
  · exact switchIn_keepsRx (claimSeen_keepsRx (verify_keepsRx hheard))

end

theorem running_advance (clk p : Nat) : (s.advance clk).running p = s.running p := by
  simp only [State.running, State.flag, State.get_advance]

/-- The first two statements of O35 (R312, R328). -/
theorem portRxFrame_failed {clk port i : Nat} {fr : Frame} {chk : RxCheck} (hport : port < 22) (hruns : s.running (pPORT port) = true)
    (hlink : s.linkUp port = true) (htest : s.rxTest port fr chk = some i) :
    ∃ t, exec (.portRxFrame clk port fr chk) s = .next t ∧
      t.get (pPORT port) (portCtr i) = (s.get (pPORT port) (portCtr i) + 1) % 2 ^ 64 ∧
      t.get (pPORT port) (portCtr 0) = s.get (pPORT port) (portCtr 0) := by
  obtain ⟨hpos, hi⟩ := rxTest_counter htest
  have hlink' : (s.advance clk).linkUp port = true := by
    simpa only [State.linkUp, State.flag, State.get_advance] using hlink
  have hkept := portRx_failed ((running_advance clk _).trans hruns) hlink' ((rxTest_advance clk _ _ _).trans htest)
  refine ⟨(s.advance clk).portRx port fr chk, congrArg Host.Outcome.next (if_pos hport), ?_, ?_⟩
  · rw [hkept.counter port hi, rxFail_counter _ _ _ _ hi hi, if_pos rfl, judged_port, State.get_advance]
  · rw [hkept.counter port (by decide), rxFail_counter _ _ _ _ hi (by decide), if_neg (by omega), judged_port, State.get_advance]

theorem portRxFrame_received {clk port : Nat} {fr : Frame} {chk : RxCheck} (hport : port < 22) (hruns : s.running (pPORT port) = true)
    (hlink : s.linkUp port = true) (htest : s.rxTest port fr chk = none) (htype : fr.etype ≠ 0x8808) :
    ∃ t, exec (.portRxFrame clk port fr chk) s = .next t ∧
      t.get (pPORT port) (portCtr 0) = (s.get (pPORT port) (portCtr 0) + 1) % 2 ^ 64 ∧
      t.get (pPORT port) (portCtr 1) = (s.get (pPORT port) (portCtr 1) + flen fr) % 2 ^ 64 := by
  have hlink' : (s.advance clk).linkUp port = true := by
    simpa only [State.linkUp, State.flag, State.get_advance] using hlink
  have hkept := portRx_received ((running_advance clk _).trans hruns) hlink' ((rxTest_advance clk _ _ _).trans htest) htype
  refine ⟨(s.advance clk).portRx port fr chk, congrArg Host.Outcome.next (if_pos hport), ?_, ?_⟩
  · rw [hkept.counter port (by decide), portCount_other _ _ _ _ _ (by decide) (by decide) (by decide),
      portCount_counter _ _ _ _ (by decide), judged_port, State.get_advance]
  · rw [hkept.counter port (by decide), portCount_counter _ _ _ _ (by decide),
      portCount_other _ _ _ _ _ (by decide) (by decide) (by decide), judged_port, State.get_advance]

/-! Duplicate entries (R344). -/

/-- What is left of the duplicate table after its stale entries have gone. -/
theorem hsrTrim_fresh (s : State) : s.hsrTrim.clock = s.clock ∧ s.hsrTrim.get pHSR F.HSR.DD_TIME.TIME = s.get pHSR F.HSR.DD_TIME.TIME ∧
    ∀ x ∈ s.hsrTrim.sw.hsr, s.clock < x.born + 2000 * s.get pHSR F.HSR.DD_TIME.TIME := by
  unfold State.hsrTrim
  dsimp only
  split
  case isTrue hlen =>
    refine ⟨rfl, rfl, fun x hx => ?_⟩
    have hall := List.length_filter_eq_length_iff.mp hlen
    exact of_decide_eq_true (hall x hx)
  case isFalse =>
    refine ⟨State.set_clock .., ?_, fun x hx => ?_⟩
    · rw [State.setHsr, State.get_set_beside _ _ _ (by decide) (by decide) (by decide)]
      exact State.get_of_words fun _ _ => rfl
    · rw [State.setHsr, State.set_sw] at hx
      exact of_decide_eq_true (List.mem_filter.mp hx).2

theorem hsrEntryExpire_trims {e : HsrEnt} {l : List HsrEnt} (hentries : s.sw.hsr = e :: l) :
    ∃ t, exec (.hsrEntryExpire) s = .next t ∧
      t.clock = max s.clock (e.born + 2000 * s.get pHSR F.HSR.DD_TIME.TIME) ∧
      (∀ x ∈ t.sw.hsr, t.clock < x.born + 2000 * t.get pHSR F.HSR.DD_TIME.TIME) := by
  have hexpire : s.hsrExpire = (s.advance (e.born + 2000 * s.get pHSR F.HSR.DD_TIME.TIME)).hsrTrim := by
    rw [State.hsrExpire, hentries]
  obtain ⟨hclock, htime, hfresh⟩ := hsrTrim_fresh (s.advance (e.born + 2000 * s.get pHSR F.HSR.DD_TIME.TIME))
  refine ⟨_, congrArg Host.Outcome.next hexpire, hclock, fun x hx => ?_⟩
  rw [hclock, htime]
  exact hfresh x hx

/-! Banks of the buffer memory (R349–R351). -/

theorem bufmemFailBank_fails {clk bank : Nat} (hbank : bank < 9) (haccepts : (s.advance clk).accepts pBUFMEM = true) :
    ∃ t, exec (.bufmemFailBank clk bank) s = .next t ∧
      t.get pBUFMEM F.BUFMEM.STS.FAILED = s.get pBUFMEM F.BUFMEM.STS.FAILED ||| 2 ^ bank ∧
      t.get pBUFMEM F.BUFMEM.CTL.BANK = bank ∧
      t.get pBUFMEM ⟨0x0C, 10, 1⟩ = 1 := by
  have hmod : bank % 16 = bank := Nat.mod_eq_of_lt (by omega)
  have hwrite : (s.advance clk).regWrite pBUFMEM 0x54 0x10F (0x100 + bank % 16) .host (fun t => t.bufFail (bank % 16)) =
      (((s.advance clk).set pBUFMEM F.BUFMEM.CTL.BANK bank).set pBUFMEM F.BUFMEM.STS.FAILED
        (s.get pBUFMEM F.BUFMEM.STS.FAILED ||| 2 ^ bank)).event pBUFMEM 10 := by
    rw [State.regWrite_accepts haccepts, hmod, State.bufFail, State.bankFail, if_pos hbank,
      State.get_set_beside _ _ _ (by decide) (by decide) (by decide), State.get_advance]
    rfl
  refine ⟨_, congrArg Host.Outcome.next hwrite, ?_, ?_, State.get_event_same _ (by decide)⟩
  · have hfailed : s.get pBUFMEM F.BUFMEM.STS.FAILED ||| 2 ^ bank < 2 ^ 9 :=
      Nat.or_lt_two_pow (State.get_lt ..) (Nat.pow_lt_pow_right (by decide) hbank)
    rw [State.event_get, State.get_set_beside _ _ _ (by decide) (by decide) (by decide), State.get_set_same _ _ _ _ (by decide)]
    exact Nat.mod_eq_of_lt hfailed
  · rw [State.event_get, State.get_set_beside _ _ _ (by decide) (by decide) (by decide),
      State.get_set_beside _ _ _ (by decide) (by decide) (by decide), State.get_set_same _ _ _ _ (by decide)]
    exact hmod

theorem bufmemRebuild_begins {clk bank : Nat} (hbank : bank < 9) (haccepts : (s.advance clk).accepts pBUFMEM = true)
    (hfailed : natBit (s.get pBUFMEM F.BUFMEM.STS.FAILED) bank = true) (hidle : s.sw.rebuild = none) :
    ∃ t, exec (.bufmemRebuild clk bank) s = .next t ∧
      t.sw.rebuild = some bank ∧
      t.get pBUFMEM F.BUFMEM.STS.REBUILDING = 1 ∧
      t.get pBUFMEM F.BUFMEM.STS.RB_BANK = bank := by
  have hmod : bank % 16 = bank := Nat.mod_eq_of_lt (by omega)
  have hbegins : bank < 9 ∧ natBit (((s.advance clk).set pBUFMEM F.BUFMEM.CTL.BANK bank).get pBUFMEM F.BUFMEM.STS.FAILED) bank = true ∧
      ((s.advance clk).set pBUFMEM F.BUFMEM.CTL.BANK bank).sw.rebuild = none := by
    rw [State.get_set_beside _ _ _ (by decide) (by decide) (by decide), State.get_advance, State.set_sw]
    exact ⟨hbank, hfailed, hidle⟩
  refine ⟨_, congrArg Host.Outcome.next (State.regWrite_accepts haccepts), ?_⟩
  rw [hmod, State.bufRebuild]
  dsimp only
  rw [if_pos hbegins]
  refine ⟨by rw [State.set_sw, State.set_sw, State.set_sw], ?_, ?_⟩
  · rw [State.get_set_beside _ _ _ (by decide) (by decide) (by decide), State.get_set_beside _ _ _ (by decide) (by decide) (by decide),
      State.get_set_same _ _ _ _ (by decide)]
    rfl
  · rw [State.get_set_beside _ _ _ (by decide) (by decide) (by decide), State.get_set_same _ _ _ _ (by decide)]
    exact hmod

/-- A set bit less its power is that bit cleared. -/
theorem natBit_sub (f k : Nat) (h : natBit f k = true) : natBit (f - 2 ^ k) k = false := by
  have hodd : f / 2 ^ k % 2 = 1 := eq_of_beq h
  have hdiv : (f - 2 ^ k) / 2 ^ k = f / 2 ^ k - 1 := by simpa using Nat.sub_mul_div f (2 ^ k) 1
  rw [natBit, hdiv, beq_eq_false_iff_ne]
  omega

/-- The state in which the end of a rebuild is judged. -/
def rebuildOver (s : State) : State :=
  (({ s with sw := { s.sw with rebuild := none } } : State).set pBUFMEM F.BUFMEM.STS.REBUILDING 0).set pBUFMEM F.BUFMEM.CTL.REBUILD 0

theorem rebuildOver_shows (s : State) : (rebuildOver s).sw.rebuild = none ∧ (rebuildOver s).get pBUFMEM F.BUFMEM.STS.REBUILDING = 0 ∧
    (rebuildOver s).get pBUFMEM F.BUFMEM.STS.FAILED = s.get pBUFMEM F.BUFMEM.STS.FAILED := by
  refine ⟨by rw [rebuildOver, State.set_sw, State.set_sw], ?_, ?_⟩
  · rw [rebuildOver, State.get_set_beside _ _ _ (by decide) (by decide) (by decide), State.get_set_same _ _ _ _ (by decide)]
    rfl
  · rw [rebuildOver, State.get_set_beside _ _ _ (by decide) (by decide) (by decide),
      State.get_set_beside _ _ _ (by decide) (by decide) (by decide)]
    exact State.get_of_words fun _ _ => rfl

/-- The failed banks after bank `k` is rebuilt. -/
def failedLess (f k : Nat) : Nat := if natBit f k then f - 2 ^ k else f

theorem natBit_failedLess (f k : Nat) : natBit (failedLess f k) k = false := by
  unfold failedLess
  split
  case isTrue h => exact natBit_sub f k h
  case isFalse h => exact Bool.eq_false_iff.mpr h

theorem bufRebuilt_ok {k : Nat} (hbuilding : s.sw.rebuild = some k) : s.bufRebuilt true =
    (((rebuildOver s).bankReset k).set pBUFMEM F.BUFMEM.STS.FAILED (failedLess ((rebuildOver s).get pBUFMEM F.BUFMEM.STS.FAILED) k)).event
      pBUFMEM 11 := by
  rw [State.bufRebuilt, hbuilding]
  rfl

theorem bufRebuilt_failed {k : Nat} (hbuilding : s.sw.rebuild = some k) : s.bufRebuilt false = (rebuildOver s).event pBUFMEM 14 := by
  rw [State.bufRebuilt, hbuilding]
  rfl

theorem bufmemRebuildDone_ends {clk bank : Nat} {ok : Bool} (hbuilding : s.sw.rebuild = some bank) :
    ∃ t, exec (.bufmemRebuildDone clk ok) s = .next t ∧
      t.sw.rebuild = none ∧
      t.get pBUFMEM F.BUFMEM.STS.REBUILDING = 0 ∧
      natBit (t.get pBUFMEM F.BUFMEM.STS.FAILED) bank = (natBit (s.get pBUFMEM F.BUFMEM.STS.FAILED) bank && !ok) ∧
      (t.get pBUFMEM ⟨0x0C, if ok then 11 else 14, 1⟩ = 1) := by
  obtain ⟨hnone, hover, hfailed⟩ := rebuildOver_shows (s.advance clk)
  have hreset (f : Fld) : ((rebuildOver (s.advance clk)).bankReset bank).get pBUFMEM f = (rebuildOver (s.advance clk)).get pBUFMEM f :=
    State.get_of_words fun _ _ => rfl
  rw [State.get_advance] at hfailed
  have hbuilding' : (s.advance clk).sw.rebuild = some bank := hbuilding
  cases ok with
  | true =>
    refine ⟨_, congrArg Host.Outcome.next (bufRebuilt_ok hbuilding'), ?_, ?_, ?_, State.get_event_same _ (by decide)⟩
    · rw [State.event_sw, State.set_sw]
      exact hnone
    · rw [State.event_get, State.get_set_beside _ _ _ (by decide) (by decide) (by decide),
        State.get_set_beside _ _ _ (by decide) (by decide) (by decide), hreset, hover]
    · have hless : failedLess (s.get pBUFMEM F.BUFMEM.STS.FAILED) bank < 2 ^ 9 := by
        have hlt : s.get pBUFMEM F.BUFMEM.STS.FAILED < 2 ^ 9 := State.get_lt ..
        unfold failedLess
        split
        · exact (Nat.sub_le _ _).trans_lt hlt
        · exact hlt
      rw [State.event_get, State.get_set_beside _ _ _ (by decide) (by decide) (by decide), State.get_set_same _ _ _ _ (by decide), hfailed,
        show F.BUFMEM.STS.FAILED.w = 9 from rfl, Nat.mod_eq_of_lt hless, natBit_failedLess, Bool.not_true, Bool.and_false]
  | false =>
    refine ⟨_, congrArg Host.Outcome.next (bufRebuilt_failed hbuilding'), ?_, ?_, ?_, State.get_event_same _ (by decide)⟩
    · rw [State.event_sw]
      exact hnone
    · rw [State.event_get, State.get_set_beside _ _ _ (by decide) (by decide) (by decide), hover]
    · rw [State.event_get, State.get_set_beside _ _ _ (by decide) (by decide) (by decide), hfailed, Bool.not_false, Bool.and_true]

/-! The scrubbing of a cell (R352). What a lost buffer leads to leaves the place of the scrubber and the counts of the banks. -/

/-- An operation that keeps the place of the scrubber. -/
structure SameCell (s t : State) : Prop where
  cell : t.sw.scrubCell = s.sw.scrubCell

theorem SameCell.refl (s : State) : SameCell s s := ⟨rfl⟩

theorem SameCell.trans (h1 : SameCell r s) (h2 : SameCell s t) : SameCell r t := ⟨h2.cell.trans h1.cell⟩

theorem SameCell.of_sw (h : t.sw = s.sw) : SameCell s t := ⟨by rw [h]⟩

theorem SameCell.ite {c : Prop} [Decidable c] (h1 : SameCell r s) (h2 : SameCell r t) : SameCell r (if c then s else t) := by
  split
  · exact h1
  · exact h2

theorem SameCell.foldl {α : Type} {f : State → α → State} (hf : ∀ x a, SameCell x (f x a)) :
    ∀ (l : List α) (s : State), SameCell s (l.foldl f s)
  | [], s => SameCell.refl s
  | a :: l, s => (hf s a).trans (SameCell.foldl hf l _)

/-- All but the switch core. -/
def noSwScope : Scope where
  reg _ := true
  part x := !decide (x = .sw)

theorem noSwScope_page (p : Nat) : noSwScope.page p := fun _ => rfl

theorem SameCell.of_kept (h : Kept noSwScope s t) : SameCell s t := .of_sw (h.part .sw rfl)

theorem stBytes_sw : ∀ (l : List Byte) (a : Nat) (s : State), (s.stBytes a l).sw = s.sw
  | [], _, _ => rfl
  | b :: l, a, s => stBytes_sw l (a + 1) (s.stb a b)

theorem capture_sameCell (s : State) (n : Nat) (ft : Fate) (f : Frame) : SameCell s (s.capture n ft f) := by
  unfold State.capture
  refine .ite (.refl s) ?_
  split
  · exact .refl s
  · extract_lets wr fill lately sw0 s00 s0 s1
    have h00 : SameCell s s00 := ⟨rfl⟩
    have h0 : SameCell s s0 := .ite (h00.trans (.of_sw (State.nextFree_sw ..))) h00
    have h1 : SameCell s s1 := h0.trans (.of_sw ((State.set_sw ..).trans (stBytes_sw ..)))
    refine .ite (.of_sw ?_) (.ite (h1.trans (.of_sw (State.event_sw ..))) h1)
    rw [State.event_sw, State.bump_set, State.set_sw]

theorem roomMark_sameCell (s : State) : SameCell s s.roomMark := by
  unfold State.roomMark
  exact .ite ⟨by rw [State.event_sw]⟩ ⟨rfl⟩

theorem stampLeaving_sameCell (s : State) (n : Nat) (l : Leaving) : SameCell s (s.stampLeaving n l) := by
  have hpage := noSwScope_page pSTAMP
  unfold State.stampLeaving
  extract_lets b ts p1 s1 s2 fate
  have h1 : Kept noSwScope s s1 := setPort_kept (Kept.refl _ s) rfl
  have h2 : Kept noSwScope s s2 := by
    refine probeStamped_kept ?_ rfl
    split
    · exact stepErr_kept h1 hpage.fld hpage.fld
    · exact h1
  have hasked (x : State) : Kept noSwScope x ((x.timeLeft n ts l.fr).stampAsked n ts l.q.tag l.fr) :=
    stampAsked_kept (timeLeft_kept (Kept.refl _ x) rfl) rfl hpage.fld hpage.fld hpage.fld
  exact ((SameCell.of_kept h2).trans (capture_sameCell ..)).trans (.of_kept (hasked _))

theorem settle_sameCell (s : State) (n : Nat) : SameCell s (s.settle n) := by
  have hstamped : SameCell s (s.stampSent n) := by
    unfold State.stampSent
    split
    · exact .refl s
    · exact .ite (.refl s) (stampLeaving_sameCell ..)
  unfold State.settle
  dsimp only
  split
  · exact hstamped
  · exact .ite hstamped (hstamped.trans (.of_kept (frameSent_kept (Kept.refl _ _) rfl rfl (noSwScope_page _).fld (noSwScope_page _).fld
      (noSwScope_page _).fld)))

/-- A frame that leaves a port out of buffer `b` is stomped. -/
def stompOut (b : Nat) (st : State) (n : Nat) : State :=
  let t := st.settle n
  match (t.port n).leaving with
  | some x =>
    if x.q.buf = b && !x.stomp then
      ((t.setPort n { t.port n with leaving := some { x with stomp := true, wire := t.wireBytes n true x.fr } }).bump pSWITCH
        F.SWITCH.STOMPED.COUNT).event pSWITCH 8
    else t
  | none => t

/-- The copies of buffer `b` that wait are captured and go. -/
def dropOut (s : State) (b : Nat) : State :=
  let s1 := (s.sw.txq.filter (fun x => x.buf == b)).foldl (fun st x =>
    st.capture x.port { egress := true, reason := 10, cut := false, map := 0, stamp := none } x.fr) s
  { s1 with sw := { s1.sw with txq := s1.sw.txq.filter (fun x => x.buf != b) } }

theorem bufLost_eq (s : State) (b : Nat) : s.bufLost b = (List.range 22).foldl (stompOut b) (dropOut s b).roomMark := by
  unfold State.bufLost
  rfl

theorem stompOut_sameCell (b : Nat) (s : State) (n : Nat) : SameCell s (stompOut b s n) := by
  have hsettled := settle_sameCell s n
  unfold stompOut
  dsimp only
  split
  · refine .ite (hsettled.trans (.of_sw ?_)) hsettled
    rw [State.event_sw, State.bump_set, State.set_sw, State.setPort]
  · exact hsettled

theorem bufLost_sameCell (s : State) (b : Nat) : SameCell s (s.bufLost b) := by
  rw [bufLost_eq]
  refine .trans (.trans ?_ (roomMark_sameCell _)) (.foldl (fun x n => stompOut_sameCell b x n) _ _)
  have hcaptured := SameCell.foldl (fun (st : State) (x : QFrame) => capture_sameCell st x.port
    { egress := true, reason := 10, cut := false, map := 0, stamp := none } x.fr) (s.sw.txq.filter (fun x => x.buf == b)) s
  exact ⟨hcaptured.cell⟩

/-- All pages but BUFMEM. -/
def lostScope : Scope := frameScope [] (fun p => p != pBUFMEM) [.sw, .mem, .ports, .mscl, .gang, .stamps, .plat]

theorem lostScope_page {p : Nat} (hp : p ≠ pBUFMEM) : lostScope.page p := frameScope_page_of_named (bne_iff_ne.mpr hp)

theorem lostScope_port (n : Nat) : lostScope.page (pPORT n) := lostScope_page (by
  have hport := pPORT_port n
  have hbuf : pBUFMEM = 0xA4 := rfl
  omega)

theorem stompOut_only (b : Nat) (s : State) (n : Nat) (h : Kept lostScope r s) : Kept lostScope r (stompOut b s n) := by
  have hstamp := lostScope_page (p := pSTAMP) (by decide)
  have hcapture := lostScope_page (p := pCAPTURE) (by decide)
  have hswitch := lostScope_page (p := pSWITCH) (by decide)
  have hport := lostScope_port n
  have hsettled : Kept lostScope r (s.settle n) :=
    settle_kept h rfl rfl rfl rfl rfl rfl rfl hstamp.fld hstamp.fld hcapture.fld hcapture.fld hcapture.fld hcapture.fld hstamp.fld hstamp.fld
      hstamp.fld hport.fld hport.fld hport.fld
  unfold stompOut
  dsimp only
  split
  · exact Kept.ite (event_kept (bump_kept (setPort_kept hsettled rfl) hswitch.fld) hswitch.fld) hsettled
  · exact hsettled

theorem dropOut_only (s : State) (b : Nat) : Kept lostScope s (dropOut s b) := by
  have hcapture := lostScope_page (p := pCAPTURE) (by decide)
  exact Kept.sw (Kept.foldl (fun _ _ hx => capture_kept hx rfl rfl hcapture.fld hcapture.fld hcapture.fld hcapture.fld) _ _ (Kept.refl _ s)) rfl

/-- A field of BUFMEM that the events 9, 12 and 13 and the count of lost cells leave. -/
def besideLoss (f : Fld) : Bool :=
  Fld.apart 0 ⟨0x0C, 13, 1⟩ 0 f && Fld.apart 0 ⟨0x0C, 12, 1⟩ 0 f && Fld.apart 0 ⟨0x0C, 9, 1⟩ 0 f && Fld.apart 0 F.BUFMEM.LOST.COUNT 0 f &&
    f.fits

theorem besideLoss_iff {f : Fld} : besideLoss f = true ↔
    (((Fld.apart 0 ⟨0x0C, 13, 1⟩ 0 f = true ∧ Fld.apart 0 ⟨0x0C, 12, 1⟩ 0 f = true) ∧ Fld.apart 0 ⟨0x0C, 9, 1⟩ 0 f = true) ∧
      Fld.apart 0 F.BUFMEM.LOST.COUNT 0 f = true) ∧ f.fits = true := by
  simp only [besideLoss, Bool.and_eq_true]

theorem get_roomMark (s : State) {f : Fld} (hf : besideLoss f = true) : s.roomMark.get pBUFMEM f = s.get pBUFMEM f := by
  obtain ⟨⟨⟨⟨hroom, -⟩, -⟩, -⟩, hfits⟩ := besideLoss_iff.mp hf
  unfold State.roomMark
  dsimp only
  split
  · rw [State.event_get, State.get_set_beside _ _ _ hroom (by decide) hfits]
    exact State.get_of_words fun _ _ => rfl
  · exact State.get_of_words fun _ _ => rfl

theorem get_bufLost (s : State) (b : Nat) {f : Fld} (hf : besideLoss f = true) : (s.bufLost b).get pBUFMEM f = s.get pBUFMEM f := by
  have hstomped := Kept.foldl (fun x n hx => stompOut_only b x n hx) (List.range 22) _ (Kept.refl lostScope (dropOut s b).roomMark)
  rw [bufLost_eq, hstomped.get_of_page (by decide), get_roomMark _ hf, (dropOut_only s b).get_of_page (by decide)]

/-- How the read of a row ends, once its errors are counted (R350, R351). -/
inductive RowEnd (s : State) : State → Prop
  | clean : RowEnd s s
  | lost : RowEnd s ((s.bump pBUFMEM F.BUFMEM.LOST.COUNT).event pBUFMEM 12)
  | corrected : RowEnd s (s.event pBUFMEM 9)

theorem RowEnd.get (h : RowEnd s t) {f : Fld} (hf : besideLoss f = true) : t.get pBUFMEM f = s.get pBUFMEM f := by
  obtain ⟨⟨⟨⟨-, hlost⟩, hcorrected⟩, hcount⟩, hfits⟩ := besideLoss_iff.mp hf
  cases h with
  | clean => rfl
  | lost =>
    rw [State.event_get, State.get_set_beside _ _ _ hlost (by decide) hfits, State.bump_set,
      State.get_set_beside _ _ _ hcount (by decide) hfits]
  | corrected => rw [State.event_get, State.get_set_beside _ _ _ hcorrected (by decide) hfits]

/-- A corrected error is counted to its bank. -/
def countCe (s : State) (k : Nat) : State := (s.bump pBUFMEM (F.BUFMEM.CE.COUNT.at (4 * k))).event pBUFMEM 8

theorem rowEnd_of {x : State} {several clean : Prop} {_ : Decidable several} {_ : Decidable clean} :
    RowEnd x (if several then ((x.bump pBUFMEM F.BUFMEM.LOST.COUNT).event pBUFMEM 12, true)
      else if clean then (x, false) else (x.event pBUFMEM 9, false)).1 := by
  split
  · exact .lost
  · split
    · exact .clean
    · exact .corrected

theorem readRow_quiet (s : State) {row k : Nat} (hrow : row ≠ 0) : RowEnd s (s.readRow row [(0, k, false)]).1 := by
  have hhere : [(0, k, false)].filter (fun e : Nat × Nat × Bool => e.1 == row && decide (e.2.1 < 9)) = [] := by
    simp [hrow.symm]
  unfold State.readRow
  rw [hhere]
  simpa using rowEnd_of

theorem readRow_corrected (s : State) {k : Nat} (hk : k < 9) (hgood : natBit (s.get pBUFMEM F.BUFMEM.STS.FAILED) k = false) :
    RowEnd (countCe s k) (s.readRow 0 [(0, k, false)]).1 := by
  have hhere : [(0, k, false)].filter (fun e : Nat × Nat × Bool => e.1 == 0 && decide (e.2.1 < 9)) = [(0, k, false)] := by
    simp [hk]
  unfold State.readRow
  rw [hhere]
  simpa [hgood, countCe] using rowEnd_of (x := countCe s k)

theorem readRows_cons (s : State) (errs : List (Nat × Nat × Bool)) (row : Nat) (l : List Nat) :
    (s.readRows errs (row :: l)).1 = ((s.readRow row errs).1.readRows errs l).1 := rfl

theorem readRows_quiet {k : Nat} {f : Fld} (hf : besideLoss f = true) : ∀ (l : List Nat) (s : State), 0 ∉ l →
    (s.readRows [(0, k, false)] l).1.get pBUFMEM f = s.get pBUFMEM f
  | [], _, _ => rfl
  | row :: l, s, hl => by
    obtain ⟨hrow, hl⟩ := not_or.mp (mt List.mem_cons.mpr hl)
    rw [readRows_cons, readRows_quiet hf l _ hl, (readRow_quiet s (Ne.symm hrow)).get hf]

/-- What the read of a cell with one corrected error in its first row leaves of BUFMEM. -/
theorem readCell_get (s : State) {k : Nat} (hk : k < 9) (hgood : natBit (s.get pBUFMEM F.BUFMEM.STS.FAILED) k = false) {f : Fld}
    (hf : besideLoss f = true) : (s.readRows [(0, k, false)] (List.range 4)).1.get pBUFMEM f = (countCe s k).get pBUFMEM f :=
  calc (s.readRows [(0, k, false)] (List.range 4)).1.get pBUFMEM f
    _ = ((s.readRow 0 [(0, k, false)]).1.readRows [(0, k, false)] [1, 2, 3]).1.get pBUFMEM f := by
      rw [show List.range 4 = [0, 1, 2, 3] from rfl, readRows_cons]
    _ = (s.readRow 0 [(0, k, false)]).1.get pBUFMEM f := readRows_quiet hf [1, 2, 3] _ (by decide)
    _ = (countCe s k).get pBUFMEM f := (readRow_corrected s hk hgood).get hf

theorem countCe_shows (s : State) {k : Nat} (hk : k < 9) :
    (countCe s k).get pBUFMEM (F.BUFMEM.CE.COUNT.at (4 * k)) = (s.get pBUFMEM (F.BUFMEM.CE.COUNT.at (4 * k)) + 1) % 2 ^ F.BUFMEM.CE.COUNT.w ∧
      (countCe s k).get pBUFMEM ⟨0x0C, 8, 1⟩ = 1 := by
  refine ⟨?_, State.get_event_same _ (by decide)⟩
  rw [countCe, State.event_get, State.get_set_beside _ _ _ (by interval_cases k <;> decide) (by decide) (by interval_cases k <;> decide),
    State.bump_set, State.get_set_same _ _ _ _ (by interval_cases k <;> decide)]
  rfl

/-- The state after the cell is read, before its owner loses it. -/
def scrubbed (s : State) (k : Nat) : State :=
  let x := (s.readRows [(0, k, false)] (List.range 4)).1
  { x with sw := { x.sw with scrubCell := (s.sw.scrubCell + 1) % 16384, scrubAt := s.clock } }

/-- A scrub that is due ends there, or the buffer that holds the cell is lost. -/
theorem scrub_cases {k : Nat} (hdue : s.scrubDue = true) :
    s.scrub [(0, k, false)] = scrubbed s k ∨ ∃ b, s.scrub [(0, k, false)] = (scrubbed s k).bufLost b := by
  rw [State.scrub, if_pos hdue]
  dsimp only
  split
  · split
    · exact Or.inl rfl
    · exact Or.inr ⟨_, rfl⟩
  · exact Or.inl rfl

theorem scrubbed_get (s : State) (k : Nat) (f : Fld) :
    (scrubbed s k).get pBUFMEM f = (s.readRows [(0, k, false)] (List.range 4)).1.get pBUFMEM f := State.get_of_words fun _ _ => rfl

theorem scrub_corrects {k : Nat} (hk : k < 9) (hdue : s.scrubDue = true) (hgood : natBit (s.get pBUFMEM F.BUFMEM.STS.FAILED) k = false) :
    (∀ f, besideLoss f = true → (s.scrub [(0, k, false)]).get pBUFMEM f = (countCe s k).get pBUFMEM f) ∧
      (s.scrub [(0, k, false)]).sw.scrubCell = (s.sw.scrubCell + 1) % 16384 := by
  obtain hend | ⟨b, hlost⟩ := scrub_cases (k := k) hdue
  · rw [hend]
    exact ⟨fun f hf => (scrubbed_get s k f).trans (readCell_get s hk hgood hf), rfl⟩
  · rw [hlost]
    exact ⟨fun f hf => ((get_bufLost _ b hf).trans (scrubbed_get s k f)).trans (readCell_get s hk hgood hf), (bufLost_sameCell _ b).cell⟩

theorem bufmemScrub_scrubs {clk k : Nat} (hk : k < 9) (hruns : s.running pBUFMEM = true) (hscrub : s.get pBUFMEM F.BUFMEM.CFG.SCRUB_EN = 1)
    (hshed : natBit (s.get pTALLY F.TALLY.STS.SHED) 0 = false)
    (htime : s.sw.scrubAt + 2000 * s.get pBUFMEM F.BUFMEM.SCRUB.INT ≤ max s.clock clk)
    (hgood : natBit (s.get pBUFMEM F.BUFMEM.STS.FAILED) k = false) :
    ∃ t, exec (.bufmemScrub clk ⟨[(0, k, false)]⟩) s = .next t ∧
      t.get pBUFMEM (F.BUFMEM.CE.COUNT.at (4 * k)) = (s.get pBUFMEM (F.BUFMEM.CE.COUNT.at (4 * k)) + 1) % 2 ^ F.BUFMEM.CE.COUNT.w ∧
      t.get pBUFMEM ⟨0x0C, 8, 1⟩ = 1 ∧
      t.sw.scrubCell = (s.sw.scrubCell + 1) % 16384 := by
  have hdue : (s.advance clk).scrubDue = true := by
    have htime' : (s.advance clk).sw.scrubAt + 2000 * s.get pBUFMEM F.BUFMEM.SCRUB.INT ≤ (s.advance clk).clock := htime
    simp only [State.scrubDue, running_advance, State.flag, State.get_advance, hruns, hscrub, hshed, htime', decide_true]
    rfl
  obtain ⟨hget, hcell⟩ := scrub_corrects hk hdue (by rwa [State.get_advance])
  obtain ⟨hcount, hevent⟩ := countCe_shows (s.advance clk) hk
  rw [State.get_advance] at hcount
  exact ⟨_, rfl, (hget _ (by interval_cases k <;> decide)).trans hcount, (hget _ (by decide)).trans hevent, hcell⟩

/-! TX_AN (R358). -/

theorem protected_advance (clk n : Nat) : (s.advance clk).protected n = s.protected n := by
  simp only [State.protected, State.running, State.flag, State.get_advance]

theorem txAnApply_pending {n an : Nat} (hn : n < 7) (hpending : tabGet txAnDefault s.sw.txAn n = an) (han : an < 4) :
    (s.txAnApply n).get pMACSEC (msf F.MACSEC.CTL.TX_AN n) = an ∧
      (s.txAnApply n).get pMACSEC (msf F.MACSEC.TX_PN.PN n) = s.get pMACSEC (msf F.MACSEC.NEXT_PN.PN n) ∧
      tabGet txAnDefault (s.txAnApply n).sw.txAn n = 4 := by
  have hget (f : Fld) : State.get { s with sw := { s.sw with txAn := tabPut txAnDefault s.sw.txAn n 4 } } pMACSEC f = s.get pMACSEC f :=
    State.get_of_words fun _ _ => rfl
  unfold State.txAnApply
  dsimp only
  rw [hpending, if_pos han, hget]
  refine ⟨?_, ?_, ?_⟩
  · rw [State.get_set_beside _ _ _ (by interval_cases n <;> decide) (by interval_cases n <;> decide) (by interval_cases n <;> decide),
      State.get_set_same _ _ _ _ (by interval_cases n <;> decide)]
    exact Nat.mod_eq_of_lt han
  · rw [State.get_set_same _ _ _ _ (by interval_cases n <;> decide)]
    exact Nat.mod_eq_of_lt (State.get_lt ..)
  · rw [State.set_sw, State.set_sw]
    exact tabGet_tabPut_same txAnDefault s.sw.txAn n 4

theorem macsecTxAnApply_applies {clk port an : Nat} (hport : port < 7) (hpending : tabGet txAnDefault s.sw.txAn port = an) (han : an < 4) :
    ∃ t, exec (.macsecTxAnApply clk port) s = .next t ∧
      t.get pMACSEC (msf F.MACSEC.CTL.TX_AN port) = an ∧
      t.get pMACSEC (msf F.MACSEC.TX_PN.PN port) = s.get pMACSEC (msf F.MACSEC.NEXT_PN.PN port) ∧
      tabGet txAnDefault t.sw.txAn port = 4 := by
  obtain ⟨hactive, hpn, hnone⟩ := txAnApply_pending (s := s.advance clk) hport hpending han
  exact ⟨_, congrArg Host.Outcome.next (if_pos hport), hactive, hpn.trans (State.get_advance ..), hnone⟩

/-- A new TX_AN on a port that does not protect its frames acts at once. -/
theorem txAnWrite_apply {n an : Nat} (hn : n < 7) :
    ((s.txAnWrite n an).txAnApply n).get pMACSEC (msf F.MACSEC.CTL.TX_AN n) = an % 4 ∧
      ((s.txAnWrite n an).txAnApply n).get pMACSEC (msf F.MACSEC.TX_PN.PN n) = s.get pMACSEC
        (msf (if an % 4 = s.get pMACSEC (msf F.MACSEC.CTL.TX_AN n) then F.MACSEC.TX_PN.PN else F.MACSEC.NEXT_PN.PN) n) := by
  have hget (f : Fld) : (s.txAnWrite n an).get pMACSEC f = s.get pMACSEC f := State.get_of_words fun _ _ => rfl
  have hpending : tabGet txAnDefault (s.txAnWrite n an).sw.txAn n =
      if an % 4 = s.get pMACSEC (msf F.MACSEC.CTL.TX_AN n) then 4 else an % 4 := tabGet_tabPut_same txAnDefault s.sw.txAn n _
  by_cases hsame : an % 4 = s.get pMACSEC (msf F.MACSEC.CTL.TX_AN n)
  · rw [if_pos hsame] at hpending ⊢
    have hidle : (s.txAnWrite n an).txAnApply n = s.txAnWrite n an := by
      rw [State.txAnApply]
      dsimp only
      rw [hpending, if_neg (by decide)]
    rw [hidle, hget, hget]
    exact ⟨hsame.symm, rfl⟩
  · rw [if_neg hsame] at hpending ⊢
    obtain ⟨hactive, hpn, -⟩ := txAnApply_pending hn hpending (Nat.mod_lt _ (by decide))
    exact ⟨hactive, hpn.trans (hget _)⟩

theorem macsecTxAnWrite_writes {clk port an : Nat} (hport : port < 7) (haccepts : (s.advance clk).accepts pMACSEC = true) :
    ∃ t, exec (.macsecTxAnWrite clk port an) s = .next t ∧
      (if s.protected port = true then t.sw.txAn = tabPut txAnDefault s.sw.txAn port
          (if an % 4 = s.get pMACSEC (msf F.MACSEC.CTL.TX_AN port) then 4 else an % 4) ∧ t.regs = s.regs
        else t.get pMACSEC (msf F.MACSEC.CTL.TX_AN port) = an % 4 ∧ t.get pMACSEC (msf F.MACSEC.TX_PN.PN port) = s.get pMACSEC
          (msf (if an % 4 = s.get pMACSEC (msf F.MACSEC.CTL.TX_AN port) then F.MACSEC.TX_PN.PN else F.MACSEC.NEXT_PN.PN) port)) := by
  refine ⟨_, congrArg Host.Outcome.next ((if_pos hport).trans (State.fldWrite_accepts haccepts)), ?_⟩
  rw [protected_advance]
  by_cases hprotected : s.protected port = true
  · rw [if_pos hprotected, if_pos hprotected, State.txAnWrite, State.get_advance]
    exact ⟨rfl, rfl⟩
  · obtain ⟨hactive, hpn⟩ := txAnWrite_apply (s := s.advance clk) (an := an) hport
    rw [if_neg hprotected, if_neg hprotected]
    refine ⟨hactive, hpn.trans ?_⟩
    simp only [State.get_advance]

/-- Settles O35, clause by clause: the judgement of a received frame, the duplicate table, the banks and TX_AN. -/
theorem switchReceptionAndBuffer : Obligations.SwitchReceptionAndBuffer :=
  ⟨fun _ _ _ _ _ _ hport hruns hlink htest => portRxFrame_failed hport hruns hlink htest,
    fun _ _ _ _ _ hport hruns hlink htest htype => portRxFrame_received hport hruns hlink htest htype,
    fun _ _ _ hentries => hsrEntryExpire_trims hentries,
    fun _ _ _ hbank haccepts => bufmemFailBank_fails hbank haccepts,
    fun _ _ _ hbank haccepts hfailed hidle => bufmemRebuild_begins hbank haccepts hfailed hidle,
    fun _ _ _ _ _ hbuilding => bufmemRebuildDone_ends hbuilding,
    fun _ _ _ hk hruns hscrub hshed htime hgood => bufmemScrub_scrubs hk hruns hscrub hshed htime hgood,
    fun _ _ _ _ hport haccepts => macsecTxAnWrite_writes hport haccepts,
    fun _ _ _ _ hport hpending han => macsecTxAnApply_applies hport hpending han⟩

end Sys2Proof.SwitchReception
end
